-- ==== Sys2Proof/Word.lean ====
section
/-!
DEFINITION. The word types of the NZ5120 block model.

Registers are 32-bit words (R6), memories are bytes, NCS lines are 64 bytes (R300).
-/

namespace Sys2Proof

/-- A BAR0 register word (R6). -/
abbrev Word := BitVec 32

/-- One byte. -/
abbrev Byte := BitVec 8

/-- One NCS line: 64 bytes, byte `b` in bits `8b+7 .. 8b` (R300). -/
abbrev Line := BitVec 512

end Sys2Proof
end

