-- ==== Sys2Proof/Machine/Bits.lean ====
section
/-!
DEFINITION. Bit-field, byte-order and sign helpers.
-/

namespace Sys2Proof.Machine

/-- Bits `lo + n - 1 .. lo` of a natural number. -/
def natBits (v lo n : Nat) : Nat := (v / 2 ^ lo) % 2 ^ n

/-- Bit `i` of a natural number. -/
def natBit (v i : Nat) : Bool := natBits v i 1 = 1

/-- `v` with bits `lo + n - 1 .. lo` replaced by the low `n` bits of `x`. -/
def natSetBits (v lo n x : Nat) : Nat :=
  v % 2 ^ lo + (x % 2 ^ n) * 2 ^ lo + (v / 2 ^ (lo + n)) * 2 ^ (lo + n)

/-- The signed value of an `n`-bit field. -/
def signedOf (n v : Nat) : Int := if v % 2 ^ n < 2 ^ (n - 1) then ((v % 2 ^ n : Nat) : Int) else ((v % 2 ^ n : Nat) : Int) - 2 ^ n

/-- The `n`-bit two's complement field of an integer. -/
def toField (n : Nat) (x : Int) : Nat := (x % (2 ^ n : Int)).toNat

/-- An integer clamped to `lo .. hi`. -/
def clampInt (lo hi x : Int) : Int := max lo (min hi x)

/-- A natural number as 1 or 0. -/
def boolNat (b : Bool) : Nat := if b then 1 else 0

/-- The little-endian value of a list of bytes (R5). -/
def leBytes : List Byte → Nat
  | [] => 0
  | b :: bs => b.toNat + 256 * leBytes bs

/-- The big-endian value of a list of bytes. -/
def beBytes (l : List Byte) : Nat := l.foldl (fun a b => a * 256 + b.toNat) 0

/-- `n` little-endian bytes of `v`. -/
def toLE : Nat → Nat → List Byte
  | 0, _ => []
  | n + 1, v => BitVec.ofNat 8 v :: toLE n (v / 256)

/-- `n` big-endian bytes of `v`. -/
def toBE (n v : Nat) : List Byte := (toLE n v).reverse

/-- Bytes `a .. a + n - 1` of a list, absent bytes left out. -/
def sliceBytes (l : List Byte) (a n : Nat) : List Byte := (l.drop a).take n

/-- The little-endian field of `n` bytes at offset `a` of a list. -/
def leField (l : List Byte) (a n : Nat) : Nat := leBytes (sliceBytes l a n)

/-- The big-endian field of `n` bytes at offset `a` of a list. -/
def beField (l : List Byte) (a n : Nat) : Nat := beBytes (sliceBytes l a n)

/-- Set list element `i`; past the end nothing changes. -/
def listSet {α : Type} : List α → Nat → α → List α
  | [], _, _ => []
  | _ :: t, 0, v => v :: t
  | x :: t, i + 1, v => x :: listSet t i v

/-- Element `i` of a list, `d` past the end. -/
def listGet {α : Type} (d : α) : List α → Nat → α
  | [], _ => d
  | x :: _, 0 => x
  | _ :: t, i + 1 => listGet d t i

/-- Apply `f` to the state once for every element. -/
def foldState {α σ : Type} (f : σ → α → σ) (s : σ) (l : List α) : σ := l.foldl f s

/-- Signed comparison of two counts of `n` bits (R241): `a` lies at or after `b`. -/
def seqGe (n a b : Nat) : Bool := decide (0 ≤ signedOf n (a + 2 ^ n - b % 2 ^ n))

/-- An association list keyed by Nat: the value at `k`. -/
def assocGet {α : Type} (l : List (Nat × α)) (k : Nat) : Option α :=
  match l with
  | [] => none
  | (a, v) :: t => if a = k then some v else assocGet t k

/-- Remove key `k` from an association list. -/
def assocDel {α : Type} (l : List (Nat × α)) (k : Nat) : List (Nat × α) :=
  l.filter fun p => p.1 ≠ k

/-- Set key `k` of an association list kept with rising keys. -/
def assocSet {α : Type} (l : List (Nat × α)) (k : Nat) (v : α) : List (Nat × α) :=
  match l with
  | [] => [(k, v)]
  | (a, u) :: t => if a = k then (k, v) :: t else if k < a then (k, v) :: (a, u) :: t else (a, u) :: assocSet t k v

end Sys2Proof.Machine
end

