-- ==== Sys2Proof/Machine/FrameFormat.lean ====
section
/-!
DEFINITION. The octets of an IEEE 802.15.4-2020 frame as the PSM frames use it (R245 to R249, Tables 8-1, 8-1a, 8-1b): frame control,
addresses, the auxiliary security header, header and payload IEs, PSM sub-IEs. The places of the bits of frame control and of the IE
descriptors are those of IEEE 802.15.4-2020, which the spec names and does not restate (PRESUMED, log entry 150).
-/

namespace Sys2Proof.Machine

/-! ## Addresses -/

/-- The address of an air frame's end (R246, R247). -/
inductive AirAddress where
  | none
  /-- A short address in a PAN. -/
  | short (pan addr : Nat)
  /-- An EUI-64 in a PAN. -/
  | eui (pan addr : Nat)
  deriving DecidableEq, Repr

/-- The addressing mode in frame control. -/
def AirAddress.mode : AirAddress → Nat
  | .none => 0
  | .short _ _ => 2
  | .eui _ _ => 3

/-- PAN ID and address. -/
def AirAddress.octets : AirAddress → List Byte
  | .none => []
  | .short p a => toLE 2 p ++ toLE 2 a
  | .eui p a => toLE 2 p ++ toLE 8 a

/-- The PAN ID of an address. -/
def AirAddress.pan : AirAddress → Option Nat
  | .none => Option.none
  | .short p _ => some p
  | .eui p _ => some p

/-! ## Frame control and security -/

/-- Frame types. -/
def typeBeacon : Nat := 0
def typeData : Nat := 1
def typeAck : Nat := 2

/-- Frame control: frame version 0b10, sequence number present, PAN ID Compression 0. -/
def frameControl (type : Nat) (secured pending ar ie : Bool) (dst src : Nat) : List Byte :=
  toLE 2 (type + 8 * boolNat secured + 16 * boolNat pending + 32 * boolNat ar + 512 * boolNat ie + 1024 * dst + 8192 + 16384 * src)

/-- The auxiliary security header: the level, key identifier mode 0, the frame counter (R245). -/
def auxHeader (level counter : Nat) : List Byte := toLE 1 level ++ toLE 4 counter

/-- Octets of the MIC: 4 under levels 1 and 5, none under 0. -/
def micLength (level : Nat) : Nat := if level = 0 then 0 else 4

/-! ## Information elements -/

/-- A header IE: length, element ID, type 0. -/
def headerIe (id : Nat) (content : List Byte) : List Byte := toLE 2 (content.length % 128 + 128 * id) ++ content

/-- Header Termination 1: payload IEs follow. -/
def ht1 : List Byte := headerIe 0x7E []

/-- A payload IE: length, group ID, type 1. -/
def payloadIe (group : Nat) (content : List Byte) : List Byte := toLE 2 (content.length % 2048 + 2048 * group + 32768) ++ content

/-- Payload Termination. -/
def payloadEnd : List Byte := payloadIe 0xF []

/-- A sub-IE of the PSM payload IE: its ID, its length, its content (R248). -/
def subIe (id : Nat) (content : List Byte) : List Byte := toLE 1 id ++ toLE 1 content.length ++ content

/-- The company identifier 0x4A_C0D5 as it is sent (R248). -/
def companyId : List Byte := [0x4A#8, 0xC0#8, 0xD5#8]

/-- The PSM payload IE over sub-IEs (R248). -/
def psmIe (ies : List Byte) : List Byte := payloadIe 0x2 (companyId ++ ies)

/-- The TSCH Synchronization IE in an MLME payload IE (R251): sub-ID 0x1A, short, with the ASN and join metric 0. -/
def tschIe (asn : Nat) : List Byte := payloadIe 0x1 (toLE 2 (6 + 256 * 0x1A) ++ toLE 5 asn ++ [0#8])

/-- The Time Correction IE (R247): element ID 0x1E, a signed 12-bit field in µs, NACK 0. -/
def timeCorrectionIe (us : Int) : List Byte := headerIe 0x1E (toLE 2 (toField 12 us))

/-! ## Received frames -/

/-- A received frame after its MAC header is read; `body` is what follows the auxiliary security header, MIC left out. -/
structure MacFrame where
  type : Nat
  pending : Bool
  ar : Bool
  ie : Bool
  seq : Nat
  dest : AirAddress
  source : AirAddress
  level : Nat
  counter : Nat
  body : List Byte
  deriving DecidableEq, Repr

/-- Read an address of a mode: the address and the octets left. -/
def takeAddress (mode : Nat) (l : List Byte) : Option (AirAddress × List Byte) :=
  if mode = 0 then some (.none, l)
  else if mode = 2 ∧ 4 ≤ l.length then some (.short (leField l 0 2) (leField l 2 2), l.drop 4)
  else if mode = 3 ∧ 10 ≤ l.length then some (.eui (leField l 0 2) (leField l 2 8), l.drop 10)
  else none

/-- Read a PSDU without its FCS: none where it is no frame of R245. -/
def readMac (l : List Byte) : Option MacFrame :=
  let fc := leField l 0 2
  if l.length < 3 ∨ natBits fc 12 2 ≠ 2 ∨ natBit fc 8 = true ∨ natBit fc 6 = true then none
  else
    match takeAddress (natBits fc 10 2) (l.drop 3) with
    | none => none
    | some (d, l1) =>
      match takeAddress (natBits fc 14 2) l1 with
      | none => none
      | some (a, l2) =>
        let f : MacFrame :=
          { type := natBits fc 0 3, pending := natBit fc 4, ar := natBit fc 5, ie := natBit fc 9, seq := leField l 2 1, dest := d, source := a,
            level := 0, counter := 0, body := l2 }
        if !natBit fc 3 then some f
        else
          let level := leField l2 0 1 % 8
          if l2.length < 5 + micLength level then none
          else some { f with level := level, counter := leField l2 1 4, body := (l2.drop 5).take (l2.length - 5 - micLength level) }

/-- Pass the header IEs: whether payload IEs follow, and the octets left; none where a length overruns. -/
def passHeaderIes : Nat → List Byte → Option (Bool × List Byte)
  | 0, _ => none
  | fuel + 1, l =>
    if l.isEmpty then some (false, [])
    else
      let d := leField l 0 2
      let n := natBits d 0 7
      if l.length < 2 + n then none
      else if natBits d 7 8 = 0x7E then some (true, l.drop 2)
      else if natBits d 7 8 = 0x7F then some (false, l.drop 2)
      else passHeaderIes fuel (l.drop (2 + n))

/-- Read the payload IEs: the content of the PSM payload IE, if any, and the payload after the termination; none where a length
overruns. -/
def readPayloadIes : Nat → List Byte → Option (List Byte × List Byte)
  | 0, _ => none
  | fuel + 1, l =>
    if l.isEmpty then some ([], [])
    else
      let d := leField l 0 2
      let n := natBits d 0 11
      if l.length < 2 + n then none
      else if natBits d 11 4 = 0xF then some ([], l.drop (2 + n))
      else
        match readPayloadIes fuel (l.drop (2 + n)) with
        | none => none
        | some (c, p) =>
          let mine := sliceBytes l 2 n
          some (if natBits d 11 4 = 0x2 ∧ mine.take 3 = companyId then mine.drop 3 else c, p)

/-- The sub-IEs of a PSM payload IE (R248): none where their lengths overrun it. -/
def readSubIes : Nat → List Byte → Option (List (Nat × List Byte))
  | 0, _ => none
  | fuel + 1, l =>
    if l.isEmpty then some []
    else
      let n := leField l 1 1
      if l.length < 2 + n then none
      else (readSubIes fuel (l.drop (2 + n))).map fun t => (leField l 0 1, sliceBytes l 2 n) :: t

/-- What the octets after the security header carry: the sub-IEs and the payload; none where a length overruns (R248). -/
def readContent (ie : Bool) (l : List Byte) : Option (List (Nat × List Byte) × List Byte) :=
  if !ie then some ([], l)
  else
    match passHeaderIes (l.length + 1) l with
    | none => none
    | some (false, p) => some ([], p)
    | some (true, t) =>
      match readPayloadIes (t.length + 1) t with
      | none => none
      | some (c, p) => (readSubIes (c.length + 1) c).map fun x => (x, p)

/-- The content of the first sub-IE of an ID (R249); one with an unknown ID is skipped (R248). -/
def subIeOf (l : List (Nat × List Byte)) (id : Nat) : Option (List Byte) := (l.find? fun x => decide (x.1 = id)).map fun x => x.2

/-- The 20-bit index of a node's short source address (R246). -/
def MacFrame.shortIndex (f : MacFrame) : Option Nat :=
  match f.source with
  | .short p a => some (p % 16 * 65536 + a)
  | _ => none

end Sys2Proof.Machine
end

