-- ==== Sys2Proof/Machine/Cells.lean ====
section
/-!
DEFINITION. Sparse stores: every memory, table and register file of the block is a list of
(key, value) pairs in ONE canonical form: keys strictly rising and no entry equal to what an unlisted
key reads as. `d` is what an unlisted key reads as.
-/

namespace Sys2Proof.Machine

/-- A sparse store of `w`-bit values. With `w = 8` it is a list of `Host.Cell`. -/
abbrev Cells (w : Nat) := List (Nat × BitVec w)

/-- The value at key `k`; an unlisted key reads `d k`. -/
def cellsRead {w : Nat} (d : Nat → BitVec w) : Cells w → Nat → BitVec w
  | [], k => d k
  | (a, v) :: t, k => if a = k then v else if k < a then d k else cellsRead d t k

/-- Write `v` at key `k`, keeping the canonical form: writing what an unlisted key reads as removes
the entry. -/
def cellsWrite {w : Nat} (d : Nat → BitVec w) : Cells w → Nat → BitVec w → Cells w
  | [], k, v => if v = d k then [] else [(k, v)]
  | (a, u) :: t, k, v =>
    if a = k then (if v = d k then t else (k, v) :: t)
    else if k < a then (if v = d k then (a, u) :: t else (k, v) :: (a, u) :: t)
    else (a, u) :: cellsWrite d t k v

/-- Every listed key is at least `lo`, keys rise strictly, and no entry equals its default. -/
def cellsWfFrom {w : Nat} (d : Nat → BitVec w) : Nat → Cells w → Bool
  | _, [] => true
  | lo, (a, v) :: t => decide (lo ≤ a) && decide (v ≠ d a) && cellsWfFrom d (a + 1) t

/-- The canonical form. -/
def cellsWf {w : Nat} (d : Nat → BitVec w) (l : Cells w) : Bool := cellsWfFrom d 0 l

/-- The default of a store whose unlisted keys read as zero. -/
def zeroCell {w : Nat} : Nat → BitVec w := fun _ => 0#w

/-- A byte memory. -/
abbrev ByteMem := Cells 8

/-- Read one byte; a byte that nothing has written reads 0 (the model's choice, log entry 5). -/
def byteAt (m : ByteMem) (a : Nat) : Byte := cellsRead zeroCell m a

/-- Write one byte. -/
def setByte (m : ByteMem) (a : Nat) (v : Byte) : ByteMem := cellsWrite zeroCell m a v

/-- Write a list of bytes at rising addresses from `a`. -/
def setBytes (m : ByteMem) (a : Nat) : List Byte → ByteMem
  | [] => m
  | b :: bs => setBytes (setByte m a b) (a + 1) bs

/-- Read `n` bytes from address `a`. -/
def bytesAt (m : ByteMem) (a : Nat) : Nat → List Byte
  | 0 => []
  | n + 1 => byteAt m a :: bytesAt m (a + 1) n

/-- What an erased byte of the boot flash reads as; a byte of flash that nothing has written is erased
(log entry 5). -/
def erasedCell : Nat → BitVec 8 := fun _ => 0xFF#8

/-- Read `n` bytes of flash from address `a`. -/
def flashAt (m : ByteMem) (a : Nat) : Nat → List Byte
  | 0 => []
  | n + 1 => cellsRead erasedCell m a :: flashAt m (a + 1) n

/-- Program a list of bytes into flash at rising addresses from `a`. -/
def flashProgram (m : ByteMem) (a : Nat) : List Byte → ByteMem
  | [] => m
  | b :: bs => flashProgram (cellsWrite erasedCell m a b) (a + 1) bs

/-- Erase `n` bytes of flash from `a`. -/
def flashClear (m : ByteMem) (a n : Nat) : ByteMem := m.filter fun c => decide (c.1 < a ∨ a + n ≤ c.1)

/-- The little-endian value of `n` bytes at `a` (R5: multi-byte fields are little-endian). -/
def leAt (m : ByteMem) (a : Nat) : Nat → Nat
  | 0 => 0
  | n + 1 => (byteAt m a).toNat + 256 * leAt m (a + 1) n

end Sys2Proof.Machine
end

