-- ==== Sys2Proof/Machine/RegTypes.lean ====
section
/-!
DEFINITION. The register file: what a register description holds, and how a word and a field are read
and written. Tables themselves: `RegsCore`, `RegsRadio`, `RegsMac`, `RegsNode`, `RegsPlat`.
-/

namespace Sys2Proof.Machine

/-- The access types of Table 0-2 (R10). -/
inductive Access where
  /-- Read-only. -/
  | ro
  /-- Read and write. -/
  | rw
  /-- Writable until the configuration commit. -/
  | rwl
  /-- Writing 1 clears the bit. -/
  | w1c
  /-- Writing 1 sets the bit. -/
  | w1s
  /-- Clears when read. -/
  | rc
  /-- Write-only: reads 0, a write triggers an action. -/
  | wo
  deriving DecidableEq, Repr

/-- One field of a register: its lowest bit, its width, its access type, its reset value and, where the
spec states one, the range a configuration record must keep to. -/
structure FieldDesc where
  lo : Nat
  width : Nat
  access : Access
  reset : Nat
  range : Option (Nat × Nat)
  deriving DecidableEq, Repr

/-- One register, or an array of registers: its name, the BAR0 offset of its first element, its
dimensions as (count, stride), whether it exists once for each requester, and its fields. Bits that
no field covers are reserved. -/
structure RegDesc where
  name : String
  off : Nat
  dims : List (Nat × Nat)
  banked : Bool
  fields : List FieldDesc
  deriving DecidableEq, Repr

/-- A named field of the register file: its key, lowest bit and width. -/
structure Fld where
  key : Nat
  lo : Nat
  width : Nat
  deriving DecidableEq, Repr

/-- The mask of bits `lo + n - 1 .. lo`. -/
def fieldMask (lo n : Nat) : Word := BitVec.ofNat 32 ((2 ^ n - 1) * 2 ^ lo)

/-- A field of a word. -/
def getBits (w : Word) (lo n : Nat) : Nat := natBits w.toNat lo n

/-- A word with one field replaced by `v` (reduced to the field's width). -/
def setBits (w : Word) (lo n v : Nat) : Word := BitVec.ofNat 32 (natSetBits w.toNat lo n v)

/-- The reset word of a description: every field at its reset value, reserved bits 0. -/
def RegDesc.resetWord (r : RegDesc) : Word :=
  r.fields.foldl (fun w f => setBits w f.lo f.width f.reset) 0#32

/-- The indexes at which `rel` (an offset from the first element) meets dimensions, outermost first. -/
def dimsIndex : List (Nat × Nat) → Nat → Option (List Nat)
  | [], rel => if rel = 0 then some [] else none
  | (c, s) :: t, rel =>
    -- the tables list an outer dimension before the inner one, whose span is smaller than `s`
    if s = 0 then none
    else if rel / s < c then (dimsIndex t (rel % s)).map (fun l => rel / s :: l) else none

/-- The indexes of offset `off` in this register, if it is one of its elements. -/
def RegDesc.indexOf (r : RegDesc) (off : Nat) : Option (List Nat) :=
  if off < r.off then none else dimsIndex r.dims (off - r.off)

/-- The description of an offset in a table. -/
def findReg : List RegDesc → Nat → Option RegDesc
  | [], _ => none
  | r :: t, off => if (r.indexOf off).isSome then some r else findReg t off

/-- The requesters of R2.5 and R277, in the order of the register file's banks. -/
inductive Requester where
  | host
  | app
  | control
  | security
  deriving DecidableEq, Repr

/-- The bank number of a requester: banked registers lie at `offset + bank × 2^28`. -/
def Requester.bank : Requester → Nat
  | .host => 0
  | .app => 1
  | .control => 2
  | .security => 3

end Sys2Proof.Machine
end

