-- ==== Sys2Proof/Machine/Types.lean ====
section
/-!
DEFINITION. The types of the state: the structured state the spec gives the block beside its
registers. Register fields are not repeated here; they live in the register file.
-/

namespace Sys2Proof.Machine

/-- The four parts (Table 0-1, R1). -/
inductive Part where
  | nz5120a
  | nz5120x
  | nz2560a
  | nz2560s
  deriving DecidableEq, Repr

/-! ## Chapters 02 and 03: power, phases, start-up -/

/-- The phases of Table 2-3, with the steps of Table 2-7 inside power-up. -/
inductive Phase where
  /-- An always-on rail is absent. -/
  | unpowered
  /-- PORST_N is low. -/
  | porstLow
  /-- The switched rails are enabled and PWR_PG is awaited (steps 2 to 4 of Table 2-7). -/
  | powering
  /-- The rails are off for the 20 ms of R104. -/
  | retryWait
  /-- PWR_PG was seen and the PLLs are starting (step 5). -/
  | pllWait
  /-- Boot, from the boot ROM to the configuration commit. -/
  | boot
  /-- Running, from commit onward. -/
  | running
  /-- WARM_RST_N is low. -/
  | warmLow
  /-- The 10 µs between a warm-restart key and the restart (R77). -/
  | warmDelay
  /-- Sepia. -/
  | sepia
  /-- Umber. -/
  | umber
  /-- Fault hold (R106). -/
  | faultHold
  deriving DecidableEq, Repr

/-- Why the switched rails are brought up. -/
inductive PowerCause where
  | cold
  | sepiaExit
  | umberExit
  deriving DecidableEq, Repr

/-- An image in force: its slot (0 A, 1 B, 2 no flash slot), its bytes as verified, and its measurement. -/
structure ImageInForce where
  slot : Nat
  image : List Byte
  hash : Nat
  deriving DecidableEq, Repr

/-- Start-up and configuration state that no register holds. -/
structure BootState where
  phase : Phase
  cause : PowerCause
  /-- Elapsed time of the release of PORST_N or WARM_RST_N, or of the wake from Umber (BOOT_TIME). -/
  startAt : Nat
  /-- The power-up retry of R104 has been used. -/
  powerRetried : Bool
  /-- The further 5 ms of R105 has been used. -/
  clockRetried : Bool
  /-- A POWER_RETRY to post once the event rings run: its payload phase. -/
  retryPost : Option Nat
  /-- Flash offset of the directory page in force (R83). -/
  page : Option Nat
  /-- The component being loaded: 0 to 4, then 5 for the configuration, 6 when all are loaded. -/
  comp : Nat
  /-- The second slot of that component is being tried. -/
  second : Bool
  firstReason : Nat
  /-- Images in force by component code. -/
  images : List (Nat × ImageInForce)
  /-- The host or the recovery UART supplies the images (image wait, or BOOT_MODE 0b10 and 0b11). -/
  fromHost : Bool
  /-- Components whose probation record forces the other slot in this boot (R564). -/
  probationBoot : Option Nat
  /-- The recovery components being received, each with the lowest offset its next chunk may carry (R79). -/
  recovery : List (Nat × Nat)
  /-- The configuration is committed (R99). -/
  committed : Bool
  /-- Tunable bits by BAR0 offset (R101). -/
  tunable : List (Nat × Nat)
  /-- LFCLK passed its measurement (R107). -/
  lfAccepted : Bool
  /-- A measurement of LFCLK runs. -/
  lfMeasuring : Bool
  /-- LFCLK was refused or lost, and the measurement repeats every second. -/
  lfFallen : Bool
  /-- An LFCLK_FALLBACK with cause 1 to post once the event rings run (R107). -/
  lfPost : Bool
  /-- Paths whose cold calibration is still awaited (step 7 of Table 3-1). -/
  coldPending : List Nat
  /-- Elapsed times of directory commits (R112). -/
  commitTimes : List Nat
  /-- Elapsed times of slot writes: (component × 2 + slot, time) (R112). -/
  slotWrites : List (Nat × Nat)
  deriving DecidableEq, Repr

/-! ## Chapter 13: event records, rings, PCIe, host frame queues -/

/-- An event record before its PHASE bit is known (Tables 13-2 and 13-3). -/
structure EventRecord where
  source : Nat
  type : Nat
  seq : Nat
  pl : Nat
  tbEpoch : Nat
  coalesced : Nat
  loss : Bool
  first : Bool
  time : Nat
  payload : List Byte
  deriving DecidableEq, Repr

/-- The rate limit of one type and key (R370). -/
structure EventLimit where
  key : Nat
  /-- Elapsed time of the last generated record. -/
  last : Option Nat
  /-- Occurrences suppressed since then. -/
  folded : Nat
  /-- Occurrences since the previous record was generated. -/
  count : Nat
  deriving DecidableEq, Repr

/-- One event ring: records routed to it and not yet written, its cumulative drops (R373), the PROD
value its last write-back carried, and the PROD value and time of its last message (R376). -/
structure RingState where
  waiting : List EventRecord
  drops : Nat
  wbProd : Nat
  msgProd : Nat
  msgTime : Nat
  deriving DecidableEq, Repr

/-- The event system. -/
structure EventState where
  /-- Next sequence by source; a source with no entry has generated nothing since reset (R368). -/
  seqs : List (Nat × Nat)
  /-- Sources whose next delivered record carries LOSS (R375). -/
  loss : List Nat
  limits : List EventLimit
  /-- The backlog in generation order: (ring, record) (R377). -/
  backlog : List (Nat × EventRecord)
  /-- Rings by number. -/
  rings : List (Nat × RingState)
  deriving DecidableEq, Repr

/-- The PCIe endpoint (R364 to R366). -/
structure PcieState where
  /-- PERST_N is high. -/
  perst : Bool
  linkUp : Bool
  width : Nat
  rate : Nat
  /-- Bus Master Enable. -/
  bme : Bool
  /-- The MSI-X table: words of 64 vectors by offset ÷ 4 (address low, address high, data, vector control). -/
  msix : List (Nat × BitVec 32)
  /-- Pending bits of the 64 MSI-X vectors. -/
  pba : BitVec 64
  deriving DecidableEq, Repr

/-- One host frame queue beside its registers (R381). -/
structure HostQueueState where
  /-- HQ_HEAD at the last message, and elapsed time of that message. -/
  msgHead : Nat
  msgTime : Nat
  /-- A completed NOTIFY descriptor that no message covered (transmit queues). -/
  notify : Bool
  deriving DecidableEq, Repr

/-! ## Chapters 04 to 06: radio paths, calibration, engines -/

/-- A calibration request on a path (R168 to R172). -/
structure CalRequest where
  op : Nat
  exclusive : Bool
  /-- It runs (as opposed to waiting for drain or for an idle slot). -/
  running : Bool
  deriving DecidableEq, Repr

/-- A transmit interval in progress on a path (R123). -/
structure TxInterval where
  /-- The transmit engines whose frames it carries, with the frames' handles. -/
  frames : List (Nat × Nat)
  antenna : Nat
  analog : Nat
  /-- Ramp-up has begun (it waits for lock otherwise, R128). -/
  ramped : Bool
  /-- Late offset of its frames, ns (R128, R201). -/
  late : Nat
  /-- The cluster's observation receiver takes it (R157). -/
  observed : Bool
  deriving DecidableEq, Repr

/-- What the image estimator has collected for one chain and bin since the bin's last update (R152, R153): qualifying frames, the
distinct nodes they came from, and the sums of the mirror correlation (I, Q), with the correction of each frame's set removed
(R149), and of the frames' own power. -/
structure ImageBin where
  frames : Nat
  nodes : List Nat
  corrI : Int
  corrQ : Int
  power : Int
  deriving DecidableEq, Repr

/-- One path beside its registers (R115): 0 to 15 TRXn, 16 to 31 XSn. -/
structure PathState where
  /-- The acquisition has been restarted once (R122). -/
  restarted : Bool
  /-- Elapsed time at which the path went out of service. -/
  oosSince : Nat
  interval : Option TxInterval
  /-- Front-end lines: PA on, LNA on, antenna (0 A, 1 B), bias code (R133). -/
  pa : Bool
  lna : Bool
  ant : Nat
  bias : Nat
  /-- Latest receive and transmit coefficient sets. -/
  rxSet : List Int
  txSet : List Int
  /-- A set that waits for MIN_INT (R150). -/
  merged : Option (List Int)
  /-- Elapsed time of the last receive epoch; none before the first. -/
  lastEpoch : Option Nat
  /-- The receive epoch whose barrier has not completed (R147, R202). -/
  barrier : Option Nat
  /-- Estimated rejection of the image bins, chain × 8 + bin, 0.25 dB (R153), and what is collected for their next updates. -/
  bins : List (Nat × Int)
  images : List (Nat × ImageBin)
  /-- The tracked means of the window samples: chain A I, Q, chain B I, Q (R156). -/
  dcMean : List Int
  /-- Analog settings: the DC DAC codes of chain A I, Q and chain B I, Q, then the filter codes of chains A and B (R165). -/
  analog : List Int
  /-- The internal loopback of a calibration is closed (Table 5-2). -/
  loopback : Bool
  /-- Observed transmit intervals since the last transmit set (R157). -/
  observed : Nat
  /-- The guard-band tone that is on: its offset from the window centre in Hz, and its level below the noise power in 100 kHz, in
  dB (R155). -/
  tone : Option (Int × Nat)
  request : Option CalRequest
  /-- What an exclusive run that stops restores (R170): receive set, transmit set, analog settings. -/
  saved : Option (List Int × List Int × List Int)
  /-- A sliced unit has yielded and is repeated after the slot's last interval, in the next idle slot (R129, R168). -/
  yielded : Bool
  /-- A step of the last cold-start calibration failed (R166). -/
  coldFailed : Bool
  /-- Elapsed time at which the request was written (R171). -/
  requestAt : Nat
  /-- Whole slots that have passed since the path last had a transmit or receive assignment (R169). -/
  idleSlots : Nat
  /-- The counts of an external stream, which Table 4-14 gives no register: (place of the field in that table, count) (R140). -/
  counts : List (Nat × Nat)
  /-- First ASN of the schedule epoch that drained the path (R345). -/
  drainSince : Option Nat
  deriving DecidableEq, Repr

/-- The converter port beside its registers (R138 to R141). -/
structure JesdState where
  armed : Bool
  /-- Phase of the extended multiblock clock, in DEVCLK cycles. -/
  phase : Option Int
  /-- Consecutive CRC failures by physical lane (R140). -/
  crcRun : List (Nat × Nat)
  deriving DecidableEq, Repr

/-- The reference oscillator beside its registers (R158 to R164). -/
structure OscState where
  /-- The code kept in always-on save memory (R164). -/
  kept : Option Nat
  /-- Intervals held since the last REF_TRIM_HOLD (R160). -/
  held : Nat
  /-- The crowd of the interval in progress: (node, residual in 0.01 ppb, weight) of each frame that R158 admits. -/
  crowd : List (Nat × Int × Nat)
  /-- c of the interval that ended last, 0.01 ppb: 0 where its crowd value was not valid (R159, R161). -/
  change : Int
  deriving DecidableEq, Repr

/-- An assignment record (Table 6-3). -/
structure Assignment where
  path : Nat
  mode : Nat
  bw : Nat
  ant : Nat
  hintB : Nat
  precV : Nat
  precorr : Nat
  expV : Nat
  expT : Nat
  offset : Nat
  epoch : Nat
  active : Nat
  deriving DecidableEq, Repr

/-- What the slot engine writes into a channel engine: a record, its Indigo map load (the expected node's present map, 0 for none,
and its pending map, R226) and the node it expects. -/
structure EngineLoad where
  record : Assignment
  maps : Option (Nat × Option Nat)
  node : Option Nat
  deriving DecidableEq, Repr

/-- One channel engine beside its registers (R183 to R190). -/
structure CeState where
  /-- The assignment that waits under R184. -/
  pending : Option EngineLoad
  /-- The active receive set, whose epoch is CE_STATE.EPOCH (R147). -/
  activeSet : List Int
  /-- The pending receive set with its epoch (R147), not yet latched. -/
  pendingSet : Option (Nat × List Int)
  /-- The bin of its channel and the shift of its oscillator, Hz (R181). -/
  bin : Int
  shift : Int
  /-- The node that its assignment expects. -/
  node : Option Nat
  /-- An engine had a frame in progress on the mirror channel during the frame in progress (R152). -/
  mirror : Bool
  /-- PSDU length, FCS4, code rate, MAPSEL, MAP_CHK and MREQ of the PHR or header of the frame in progress (R179, R213). -/
  len : Nat
  fcs4 : Bool
  rate : Nat
  mapSel : Bool
  mapChk : Nat
  mreq : Bool
  /-- The carrier offset that the acquisition of the frame in progress found, 2⁻¹⁰ ppm (R221). -/
  acquired : Int
  /-- Timebase latched at the timestamp point of the frame in progress (R193). -/
  sfdTime : Option Nat
  /-- The chain chosen at the decision point: 0 A, 1 B (R189). -/
  chosen : Option Nat
  /-- The metrics of chains A and B at the decision point, 0.25 dB (R189). -/
  metricA : Nat
  metricB : Nat
  /-- False detections in the current second (R188). -/
  falseSec : Nat
  /-- The engine loads new microcode (R554). -/
  loading : Bool
  /-- Indigo map load: the expected node's present map, 0 for none, and its pending map (R226). -/
  maps : Option (Nat × Option Nat)
  /-- The header of the frame in progress named a map that the engine does not hold (R233), or the pending map. -/
  stale : Bool
  usesPending : Bool
  deriving DecidableEq, Repr

/-- A transmit work item (R198). -/
structure WorkItem where
  handle : Nat
  path : Nat
  mode : Nat
  /-- Channel offset from the window centre, Hz. -/
  offset : Int
  /-- Planned first-symbol time, and the slot's TX offset as a moment of the timebase, ns. -/
  planned : Nat
  latest : Nat
  index : Nat
  analog : Nat
  /-- Attenuation, 0.5 dB. -/
  atten : Nat
  antenna : Nat
  preamble : Nat
  /-- The earliest planned first symbol of the transmit interval that the slot engine placed it in. -/
  first : Nat
  deriving DecidableEq, Repr

/-- One transmit engine beside its registers (R199). -/
structure TeState where
  item : Option WorkItem
  /-- Timebase at which a late work item makes the engine ready; 0 for one that came in time (R201). -/
  ready : Nat
  /-- Transmit epoch in force in the engine (R151). -/
  epoch : Nat
  deriving DecidableEq, Repr

/-! ## Chapter 07: the map unit -/

/-- States of a learning-table entry (R227 to R231). -/
inductive MapStatus where
  | learn
  | pending
  | hold
  deriving DecidableEq, Repr

/-- A learning-table entry of a node. -/
structure MapEntry where
  status : MapStatus
  /-- Frames averaged, and the sums of S_d by data index (R227). -/
  frames : Nat
  sums : List Nat
  /-- The pending map (R224, 120 bits), its code rate and its MSN. -/
  map : Nat
  rate : Nat
  msn : Nat
  /-- Map frames enqueued since the issue (R232). -/
  tries : Nat
  /-- The transmit completion of the last map frame of this issue, ns of the timebase; none before it (R232). -/
  sentAt : Option Nat
  /-- Elapsed time of the confirmation, from which HOLD runs (R228). -/
  since : Nat
  deriving DecidableEq, Repr

/-- The map unit beside its registers. -/
structure ImapState where
  entries : List (Nat × MapEntry)
  /-- The device-wide issue counter (R229). -/
  issues : Nat
  /-- Quality trailers of frames whose MIC verified, by node, oldest first, for the map unit (R227). -/
  trailers : List (Nat × List Byte)
  deriving DecidableEq, Repr

/-! ## Chapters 08 to 12: frames, nodes, tables, queues -/

/-- What a transmit frame is (Table 8-1, R230, R281, R320, R467). -/
inductive FrameKind where
  /-- An enhanced beacon in beacon slot `n`, carrying the ASN. -/
  | beacon (n asn : Nat)
  /-- A poll with its ALT and SUSPECT bits. -/
  | poll (alt suspect : Bool)
  /-- A device ACK: echoed DSN, pending bit, time correction in µs (R254, R258). -/
  | ack (dsn : Nat) (pending : Bool) (correction : Int)
  /-- The unsecured Enh-Ack to a join request of an EUI-64 (R607). -/
  | joinAck (dsn eui : Nat)
  /-- A join response to an EUI-64 (R480): its Join sub-IE bytes. -/
  | joinResponse (ie : List Byte)
  /-- A downlink data frame with its payload and its remaining hops (R318). -/
  | data (hops : List Nat) (payload : List Byte)
  /-- A map frame: MSN, rate, bandwidth code, CLEAR, map (R229, R230). -/
  | map (msn rate bw : Nat) (clear : Bool) (value : Nat)
  /-- An agreement frame: k, slot offset, G_FIX, G_RATE, G_CAP, RATE (R280, R281). -/
  | agreement (k slot gFix gRate gCap : Nat) (rate : Int)
  /-- A rekey IE: epoch, activation ASN, wrapped keys (R467). -/
  | rekey (epoch actAsn : Nat) (wrapped : List Byte)
  /-- A group frame of group `g` (R320). -/
  | group (g : Nat) (payload : List Byte)
  deriving DecidableEq, Repr

/-- A frame in the frame buffer: sealed at enqueue (R334). -/
structure TxFrame where
  kind : FrameKind
  /-- Air destination: short address; none for beacons and group frames. -/
  dest : Option Nat
  /-- Final destination (R333). -/
  final : Nat
  cls : Nat
  /-- PSDU length in octets. -/
  len : Nat
  /-- Frame counter taken when sealed; none for unsecured frames. -/
  counter : Option Nat
  /-- Epoch slot, district generation under which it was sealed (R468, R470). -/
  epochSlot : Nat
  gen : Nat
  /-- Virtual finish time (R333). -/
  finish : Nat
  /-- It was issued to its air destination, and its unacknowledged sends (R256). -/
  issued : Bool
  sends : Nat
  /-- Slot in which it was last sent. -/
  lastSlot : Option Nat
  /-- Frame-buffer cells it holds (R339). -/
  cells : Nat
  /-- Timebase stamps of its bound and delay measurement (R347, R349). -/
  stampIn : Option Nat
  stampReady : Option Nat
  /-- It carries poison (chapter 18). -/
  poisoned : Bool
  /-- Its identity on the Hjelno link (Table 19-4): air destination × 2^32 + first frame counter. -/
  ident : Nat
  /-- Its sequence number (R245), and its Frame Pending bit as it was first built (R255). -/
  seq : Nat
  more : Bool
  deriving DecidableEq, Repr

/-- The exchange of one node in the present slot (R252). -/
structure Exchange where
  asn : Nat
  path : Nat
  antenna : Nat
  /-- The poll was sent with completion status 0 (R266). -/
  sent : Bool
  /-- A reply was accepted or found to be a duplicate. -/
  replied : Bool
  /-- The frame counter of the first copy (R260), and the later copies that came before its MIC verified: path, antenna, RSSI in
  0.25 dBm (R312). -/
  copy : Option Nat
  copies : List (Nat × Nat × Int)
  /-- An ACK was planned for a reply of the window (R260). -/
  answered : Bool
  /-- The slot belongs to only one of the two agreements in force (R282). -/
  unionOnly : Bool
  /-- The pending bit sampled for the ACK (R254). -/
  pending : Bool
  /-- Guard width G in µs and predicted lag in ns (R290, R291). -/
  guard : Nat
  lag : Int
  /-- Channel centre of the exchange, kHz (R243). -/
  freq : Nat
  /-- The reply window has ended. -/
  closed : Bool
  /-- The follow-on whose node ACK is awaited, its Frame Pending bit, and the window of that ACK in ns of the timebase. -/
  follow : Option Nat
  more : Bool
  ackDue : Option (Nat × Nat)
  /-- The assignment record the slot engine writes for the reply (R182, R290). -/
  record : Assignment
  deriving DecidableEq, Repr

/-- The slot engine and PSM beside registers (chapter 08). -/
structure PsmState where
  /-- The 40-bit ASN (R240). -/
  asn : BitVec 40
  exchanges : List (Nat × Exchange)
  /-- Sequence number of the next device frame. -/
  dsn : Nat
  /-- Work items that the slot engine has planned and that no transmit engine holds yet (R198). -/
  plan : List WorkItem
  /-- The ASN continues from before the stop (R414). -/
  resume : Bool
  /-- Records that the slot engine has prepared for channel engines and that have not reached them (R182). -/
  assigns : List (Nat × EngineLoad)
  /-- The last transceiver of each cluster that its observation receiver took: (cluster, path) (R157). -/
  observer : List (Nat × Nat)
  deriving DecidableEq, Repr

/-- A wake agreement and guard (R279 to R283). -/
structure Agreement where
  k : Nat
  slot : Nat
  gFix : Nat
  gRate : Nat
  gCap : Nat
  rate : Int
  /-- The guard rests on a valid model (ERES, R284). -/
  valid : Bool
  deriving DecidableEq, Repr

/-- An observation that waits in the fitter's input queue (R285): the frame's node and slot, the timing part (τ ns, the
lag predicted for the exchange ns, e ns, the RATE it rests on), and the carrier offset, 2⁻¹⁰ ppm, with its SNR in 0.25 dB. -/
structure Observation where
  node : Nat
  asn : Nat
  timing : Option (Nat × Int × Int × Int)
  carrier : Int
  snr : Int
  deriving DecidableEq, Repr

/-- A fit-cache entry (R286, R287), in fixed point (log entry 3): f in 2⁻³⁰ ppm, a in 2⁻⁵⁰ ppm/s, the matrix P by its three entries in
2⁻⁴⁰ ppm², 2⁻⁶⁰ ppm²/s and 2⁻⁸⁰ ppm²/s², the square of s in 2⁻²⁰ µs², e_res in 2⁻⁸ ppm. -/
structure FitEntry where
  f : Int
  a : Int
  p00 : Int
  p01 : Int
  p11 : Int
  sSquare : Int
  eRes : Nat
  /-- Timing observations since join or reset. -/
  timings : Nat
  /-- Timing observations since the last change of k (R283). -/
  sinceK : Nat
  /-- y minus the latest carrier estimate over the last 8 timing observations (R288). -/
  diffs : List Int
  carrier : Option Int
  split : Bool
  valid : Bool
  deriving DecidableEq, Repr

/-- Drift control state by node (chapter 09). -/
structure DriftState where
  /-- Target exponents (R283); absent: DRIFT_RAMP.K_DEF. -/
  targets : List (Nat × Nat)
  /-- Agreements held by nodes; absent: what the line states. -/
  held : List (Nat × Agreement)
  /-- Agreements sent and not yet acknowledged (R281, R282). -/
  outstanding : List (Nat × Agreement)
  /-- Nodes whose agreement changed since the schedule epoch in force began (R344), each with the exponent and slot offset under which the
  epoch polls it; none for a node that joined since. -/
  changed : List (Nat × Option (Nat × Nat))
  /-- Agreements whose frame was dropped, and that no exchange has decided on (R282). -/
  dropped : List (Nat × Agreement)
  /-- ASN of the last agreement frame, or of the join, by node (R294). -/
  framed : List (Nat × Nat)
  /-- The fit cache, most recently fitted first (R287). -/
  cache : List (Nat × FitEntry)
  /-- DRIFT_REF by minute since commit, newest first (R289). -/
  refHistory : List Int
  /-- The fitter's input queue, oldest first (R287). -/
  inputs : List Observation
  /-- Timebase of the last accepted peer beacon (R296). -/
  trackLast : Option Nat
  /-- The slotframe that the tracker has judged last: a beacon was accepted in it, or it counted as a miss (R297). -/
  trackFrame : Option Nat
  /-- φ in ns and d in 2⁻¹⁰ ppm as they are passed to the timebase servo; none while nothing is passed (R296, R297). -/
  passed : Option (Int × Int)
  deriving DecidableEq, Repr

/-- An export, a restore or a bulk clear in progress (R323 to R327). -/
inductive StoreJob where
  | idle
  | exporting
  | restoring
  /-- The tiles are read; the next slot boundary ends the restore. -/
  | restoreBoundary
  | clearing
  deriving DecidableEq, Repr

/-- A snapshot in progress (R323): tiles not yet exported, tiles held in the reserve with the lines
they held at the mark, and what the descriptor states. -/
structure SnapState where
  job : StoreJob
  /-- Lines as of the mark, kept for the tiles written since (the reserve). -/
  reserve : List Nat
  lines : Cells 512
  asn : Nat
  ns : Nat
  nodeMin : Nat
  sequence : Nat
  resume : Bool
  /-- Elapsed time of the mark. -/
  started : Nat
  /-- Tiles written as zeros by a restore. -/
  badTiles : Nat
  /-- Which requester started the bulk clear, 3 the peer (NCS_CLEARED). -/
  clearBy : Nat
  deriving DecidableEq, Repr

/-- The forwarding tables (chapter 10). -/
structure FwdState where
  /-- NCS lines by short address (R300). -/
  ncs : Cells 512
  /-- EHT entries: bucket × 4 + way; overflow entries from 2^20 (R305). -/
  eht : Cells 96
  /-- Buckets that the running rebuild pass rewrites, and those that wait for the next one (R309). -/
  pass : List Nat
  rebuild : List Nat
  /-- Heard-by entries: cluster × 2^20 + short address (R310). -/
  hb : Cells 16
  /-- The runtime's shadow of the infrastructure table (R317). -/
  shadow : Cells 32
  snap : SnapState
  /-- Queued group frames by group, oldest first: (handle, sends made) (R320, R321). -/
  groups : List (Nat × List (Nat × Nat))
  deriving DecidableEq, Repr

/-- Scheduler state beside registers (chapter 11). -/
structure SchedState where
  /-- Frames in the frame buffer by handle. -/
  frames : List (Nat × TxFrame)
  nextHandle : Nat
  /-- Downlink queues by air destination: handles in arrival order. -/
  downlink : List (Nat × List Nat)
  /-- The frame of a destination that awaits resend (R256). -/
  resend : List (Nat × Nat)
  /-- V by destination × 8 + class (R333). -/
  virtual : List (Nat × Nat)
  /-- Deficits by service point × 8 + class (R332), and the class at which each group resumes. -/
  deficit : List (Nat × Nat)
  pointer : List (Nat × Nat)
  /-- Highest counter issued by air destination (R334). -/
  issuedCounter : List (Nat × Nat)
  /-- Crimson credit in 1/1000000 frames, and the time of its last update (R337). -/
  crimCredit : Nat
  crimTime : Nat
  /-- The solo list, oldest first (R342). -/
  solo : List Nat
  /-- A CRIM, PATH_SCHED or wake-agreement change waits for the next SF0 boundary (R344). -/
  epochPending : Bool
  /-- Paths drained under the epoch in force, and the CRIM_A (2p) and CRIM_B (2p + 1) words in force (R344). -/
  drains : List Nat
  crims : List (Nat × Nat)
  /-- Egress queues by port × 8 + class: handles of Ethernet frames in order. -/
  egress : List (Nat × List Nat)
  /-- Frames seen at each measurement point, for the 1 in 2^N_SH of R349. -/
  samples : List (Nat × Nat)
  /-- The Crimson frames held when the claim was taken: they leave before any frame that this device has sealed since (R535). -/
  copies : List Nat
  deriving DecidableEq, Repr

/-- An item of a frame queue (chapter 12): its words, the words that carry POISON, by place (R31, R352), its poison tag, and the
bytes it carries where the model follows them (the mailboxes). -/
structure QueueItem where
  words : Nat
  poison : List Nat
  tag : Nat
  data : List Byte
  /-- Of a received frame: the elapsed time of its last word, and the node that the slot engine expected on its engine. -/
  stamp : Nat := 0
  expects : Option Nat := none
  deriving DecidableEq, Repr

/-- An item that carries a POISON word. -/
def QueueItem.poisoned (i : QueueItem) : Bool := !i.poison.isEmpty

/-- The sideband bits END and POISON of word k of an item (R352). -/
def QueueItem.marks (i : QueueItem) (k : Nat) : Bool × Bool := (decide (k + 1 = i.words), i.poison.contains k)

/-- One frame queue (Table 12-1). -/
structure QueueState where
  /-- Whole items by lane, oldest first. -/
  lanes : List (Nat × List QueueItem)
  /-- The item being written in lane 0 word by word, not yet visible (R355). -/
  building : Option QueueItem
  /-- Words of the item being read that the reader has taken. -/
  taken : Nat
  /-- Poison tags held (at most 8), oldest first. -/
  tags : List Nat
  /-- Producers waiting for room: (lane, item), oldest first (R354). -/
  waiting : List (Nat × QueueItem)
  /-- A forced reset runs: it was found by the writer, and the items it discarded (R361). -/
  byWriter : Bool
  lost : Nat
  deriving DecidableEq, Repr

/-! ## Chapter 15: time -/

/-- The snapshots one requester holds (R277, R412, R415, R430, R557); each is taken by the low-half
read and returned by the next high-half read. -/
structure Snapshots where
  asnHi : Option Nat
  tbHi : Option Nat
  tbFrac : Option Nat
  /-- Captures by input: (high half, fraction). -/
  tsiHi : List (Nat × Nat)
  tsiFrac : List (Nat × Nat)
  /-- HI_SNAP of the linked counts and of the linked captures, by even timer. -/
  gtHi : List (Nat × Nat)
  gtCapHi : List (Nat × Nat)
  cfgSeqHi : Option Nat
  deriving DecidableEq, Repr

/-- One pulse output beside its registers (R416, R417). -/
structure TsoState where
  stagedLo : Nat
  target : Nat
  /-- The next target is `target + k × PER`. -/
  k : Nat
  /-- The output is at its active level. -/
  pulse : Bool
  /-- Timebase time at which the pulse in progress ends: a new target does not move it. -/
  ends : Nat
  deriving DecidableEq, Repr

/-- One general timer beside its registers (R424 to R432). -/
structure GtState where
  /-- Prescaler periods counted towards the next step. -/
  phase : Nat
  /-- Qualified edges counted towards the next capture. -/
  edges : Nat
  /-- The step after a match goes to 0 (CLR). -/
  clearNext : Bool
  stagedCnt : Nat
  /-- The value last written to GT_CMP, which GT_CMP reads as; in the low half of a linked pair it waits for the high one. -/
  stagedCmp : Nat
  /-- LF-mode accumulator, in 1/128 clk_tmr periods (R431). -/
  lfAcc : Nat
  /-- The filtered input level (gated mode). -/
  input : Bool
  deriving DecidableEq, Repr

/-- The timebase (R406 to R423). -/
structure TimeState where
  /-- clk_ts runs. -/
  running : Bool
  ns : BitVec 64
  frac : BitVec 32
  stagedInc : Nat
  stagedStep : Nat
  /-- A phase step that waits for a boundary (R409). -/
  pendingStep : Option Int
  /-- The timebase and the bound in force at the stop, from which the bridge image is counted (R421, R423). -/
  bridge : Option (Nat × Nat)
  /-- The last counted boundary and its ASN (R414). -/
  boundLast : Nat
  asnLast : Nat
  /-- The slot's actual start: the boundary as the timebase reads after a step applied there (R413). -/
  slotAt : Nat
  tso : List (Nat × TsoState)
  /-- Elapsed time of the last accepted edge, by input (R415). -/
  tsiLast : List (Nat × Nat)
  gt : List (Nat × GtState)
  /-- Timer register writes not yet in force, in the order issued: (timer, place in its block, value) (R36, R427). -/
  gtWrites : List (Nat × Nat × Nat)
  deriving DecidableEq, Repr

/-! ## Chapter 17: security -/

/-- The states of an epoch slot (R464). -/
inductive EpochStatus where
  | empty
  | pending
  | active
  | retired
  | revoked
  deriving DecidableEq, Repr

/-- One epoch slot of the tree state. `districts` holds the generation in bits 3:0 and the revoked
bit in bit 4, by district. -/
structure EpochSlot where
  epoch : Nat
  status : EpochStatus
  actAsn : Nat
  districts : Cells 8
  /-- Order of installation, for the reuse of the oldest slot (R466). -/
  order : Nat
  deriving DecidableEq, Repr

/-- The tree state in always-on save memory (R464). -/
structure TreeState where
  intact : Bool
  slots : List (Nat × EpochSlot)
  highest : Nat
  /-- Next broadcast counter by district. -/
  bcast : Cells 32
  /-- Districts whose exhaustion was posted (R476). -/
  bcastSpent : List Nat
  cmdSeq : Nat
  /-- Installations made, for `EpochSlot.order`. -/
  installs : Nat
  deriving DecidableEq, Repr

/-- The tag of a derived-key cache entry (R472). -/
structure CacheTag where
  level : Nat
  node : Nat
  purpose : Nat
  slot : Nat
  gen : Nat
  join : Nat
  deriving DecidableEq, Repr

/-- A join response sent within the last 64 join slots (R478 to R480). -/
structure JoinSent where
  eui : Nat
  nonce : List Byte
  line : Nat
  join : Nat
  nd : Nat
  /-- The node's ephemeral public key, an input of KEK. -/
  qe : List Byte
  /-- Join slots counted when it was sent. -/
  at_ : Nat
  /-- Path and antenna on which the request was received. -/
  path : Nat
  ant : Nat
  deriving DecidableEq, Repr

/-- A received frame as the packet core finds it in a cluster receive queue: the report (Table 6-7), the octets of the PSDU without
its FCS and what they say (R245), and the Indigo trailer. -/
structure RxFrame where
  path : Nat
  /-- Antenna of the decoded chain: 0 A, 1 B. -/
  ant : Nat
  /-- Slot in which the frame was received. -/
  asn : Nat
  /-- PHY mode code, LQI and the timestamp, ns of the timebase. -/
  mode : Nat
  lqi : Nat
  time : Nat
  /-- RSSI in 0.25 dBm and SNR in 0.25 dB, signed. -/
  rssi : Int
  snr : Int
  /-- Carrier offset after the crowd subtraction of R161, 2⁻¹⁰ ppm, and timing error e, ns. -/
  carrier : Int
  timing : Int
  /-- The node that the slot engine expected on the engine, under EXP_V. -/
  expected : Option Nat
  psdu : List Byte
  mac : MacFrame
  /-- The 24 bytes of Table 7-8; none but in an Indigo mode. -/
  trailer : List Byte
  /-- Elapsed time at which its last word entered the receive queue, and timebase of its first and last symbols at the antenna. -/
  decoded : Nat
  began : Nat
  ended : Nat
  deriving DecidableEq, Repr

/-- OTP contents (Table 17-5). -/
structure OtpState where
  secret : BitVec 128
  serial : List Byte
  vendorHash : Option (BitVec 256)
  certificate : List Byte
  /-- Owner hashes: (programmed hash, revoked). -/
  owners : List (Option (BitVec 256) × Bool)
  /-- Anti-rollback counters 0 to 4. -/
  arb : List Nat
  deriving DecidableEq, Repr

/-- Security state beside registers (chapter 17). -/
structure SecState where
  kM : Option (BitVec 128)
  kJR : Option (BitVec 128)
  /-- The DRBG states are erased (R489). -/
  drbgErased : Bool
  drbgRequests : Nat
  /-- The retired epoch slot whose district keys are kept for one further slot (R466). -/
  retiredKeep : Option Nat
  /-- Cache entries, most recently used first. -/
  cache : List CacheTag
  /-- Received frames that wait for a derivation, oldest first, with the tag under which it began (R471, R473). -/
  deriving_ : List (CacheTag × RxFrame)
  joins : List JoinSent
  /-- Join slots counted since reset. -/
  joinSlots : Nat
  /-- Rekey frames of the pending epoch by node: the generation that each carries, and whether it was acknowledged (R467). -/
  rekeys : List (Nat × Nat × Bool)
  /-- Nodes that a rekey frame is still to be queued for. -/
  rekeyLeft : List Nat
  /-- Nodes that had not acknowledged their rekey frame at the last activation, and have not rejoined. -/
  unrekeyed : List Nat
  /-- Debug grants (R494): bit 0 application core, 1 control cores, 2 security processor, 3 boundary scan. -/
  grants : Nat
  /-- Debug ports open. -/
  debugOpen : Nat
  /-- A signed command that runs: its requester and the bytes of its buffer when SEC_CMD was written (R485, R487). -/
  command : Option (Requester × List Byte)
  deriving DecidableEq, Repr

end Sys2Proof.Machine
end

