-- ==== Sys2Proof/Machine/TypesPlat.lean ====
section
/-!
DEFINITION. The types of the state of the platform chapters: Ethernet (14), cores and interrupts (16),
memory integrity (18), the redundant pair (19), update (20) and power (21).
-/

namespace Sys2Proof.Machine

/-! ## Chapter 14: Ethernet and the border function -/

/-- A frame that waits in an egress queue or is on the wire: its class, its bytes from the destination MAC without
FCS, whether the control cores asked for its timestamp, and the elapsed time of its decoding (R347, R349). -/
structure EgressFrame where
  cls : Nat
  data : List Byte
  stampWanted : Bool
  poisoned : Bool
  stampReady : Option Nat
  deriving DecidableEq, Repr

/-- One Ethernet port beside its registers (R390 to R392). -/
structure EthPortState where
  /-- Verification attempts of this link-up that drew no response. -/
  attempts : Nat
  verifying : Bool
  /-- The frame on the wire. -/
  sending : Option Nat
  /-- Elapsed time at which it began, or resumed. -/
  startedAt : Nat
  /-- A preemptable frame that an express frame interrupted. -/
  preempted : Option Nat
  /-- The interrupted frame, waiting or resumed, has been counted in PREEMPTED. -/
  cut : Bool
  deriving DecidableEq, Repr

/-- A reassembly context (R399): its key, the received fragments as (offset, uncompressed bytes), and its start. -/
structure Reassembly where
  node : Nat
  tag : Nat
  size : Nat
  fragments : List (Nat × List Byte)
  started : Nat
  deriving DecidableEq, Repr

/-- Ethernet and border state beside registers. -/
structure EthState where
  ports : List (Nat × EthPortState)
  frames : List (Nat × EgressFrame)
  nextFrame : Nat
  /-- Credits of the buckets of R336 by port × 8 + class, in 1/8000000 byte, and the elapsed times of their update. -/
  credits : List (Nat × Int)
  creditAt : List (Nat × Nat)
  contexts : List Reassembly
  /-- The datagram tag counter (R398). -/
  tag : Nat
  /-- Timestamps returned to the control cores: (frame, time in 0.1 ns). -/
  stamps : List (Nat × Nat)
  deriving DecidableEq, Repr

/-! ## Chapter 16: cores, mailboxes, interrupts -/

/-- The application core, its watchdog, mailboxes and the AIC beside registers. -/
structure AppState where
  iram : ByteMem
  dram : ByteMem
  entry : Nat
  /-- Words with bad parity: byte addresses in the core's map (R438). -/
  badWords : List Nat
  /-- GPIO_OUT and GPIO_OE of the 0x0D01 record (R439). -/
  gpioOut : Nat
  gpioOe : Nat
  /-- The image is being reloaded (R439). -/
  reloading : Bool
  /-- Elapsed time of the first counted watchdog reset (R440). -/
  firstReset : Option Nat
  /-- A debugger halts the core. -/
  debugHalt : Bool
  /-- The core waits in WFI. -/
  waiting : Bool
  /-- Event sources forwarded to the application core (Table 16-4). -/
  forward : Nat
  /-- The priority stack, top first: (priority, source) (R446). -/
  stack : List (Nat × Nat)
  /-- Synchronized level requests that are high. -/
  levels : List Nat
  /-- Level sources ignored until an elapsed time (R450). -/
  ignored : List (Nat × Nat)
  /-- Elapsed time at which the request to the core was raised (R445). -/
  request : Option Nat
  /-- Sources whose enable was cleared in the delivery window: still claimable once until a time (R451). -/
  lingering : List (Nat × Nat)
  /-- An MBA room interrupt is awaited after FULL_ERR (source 69). -/
  roomWanted : Bool
  /-- Elapsed time of the last watchdog kick, and watchdog resets since commit. -/
  kickAt : Nat
  resets : Nat
  deriving DecidableEq, Repr

/-- One control core beside CPU_STAT (R436). -/
structure CpuState where
  /-- Elapsed times of its watchdog expiries within the last hour, oldest first. -/
  expiries : List Nat
  /-- HEARTBEAT at `beatAt`, an elapsed time; it rises every millisecond from there while the core runs (R435). -/
  beat : Nat
  beatAt : Nat
  deriving DecidableEq, Repr

/-! ## Chapter 18: memory integrity -/

/-- The memories with line checks (Table 18-1, MI_LAST.MEM). -/
inductive LineMem where
  | ncs
  | frame
  | control
  deriving DecidableEq, Repr

/-- What a recovery waits for (R503 step 2). -/
inductive RecoveryWait where
  | peer
  | flash
  deriving DecidableEq, Repr

/-- A busy recovery slot. -/
structure Recovery where
  mem : LineMem
  line : Nat
  column : Nat
  wait : RecoveryWait
  /-- The fault was made by MI_FLIP (R516). -/
  flipped : Bool
  deriving DecidableEq, Repr

/-- A fault remembered for R511 and R512: SRAM macro, row, column, elapsed time. -/
structure FaultMark where
  sram : Nat
  row : Nat
  column : Nat
  time : Nat
  deriving DecidableEq, Repr

/-- A repair entry of a map: macro, kind (0 row, 1 column), spare, row or column. -/
structure RepairEntry where
  sram : Nat
  kind : Nat
  spare : Nat
  index : Nat
  deriving DecidableEq, Repr

/-- The scrubber's place in one memory. -/
structure ScrubState where
  next : Nat
  /-- Verifications of the present tile that were discarded (R510). -/
  discards : Nat
  /-- The present tile failed once and is read again (R502). -/
  retry : Bool
  /-- Faults and tiles that failed in this pass (SCRUB_DONE). -/
  faults : Nat
  started : Nat
  deriving DecidableEq, Repr

/-- Memory-integrity state beside registers. -/
structure MiState where
  recoveries : List Recovery
  /-- Lines whose stored data is poisoned or whose check was flipped: (memory, line). -/
  bad : List (LineMem × Nat)
  flipped : List (LineMem × Nat)
  /-- Lines in the substitute store. -/
  subst : List (LineMem × Nat)
  faults : List FaultMark
  /-- The hard fuse map. -/
  fuses : List RepairEntry
  /-- Soft entries in force and pending. -/
  applied : List RepairEntry
  waiting : List RepairEntry
  /-- Macros whose exhaustion was posted. -/
  exhausted : List Nat
  /-- Elapsed times of faults that ended poisoned, within the last second (R517). -/
  poisonTimes : List Nat
  /-- Scrub places: NCS, frame buffer, control memory. -/
  scrubs : List (Nat × ScrubState)
  /-- The checksum held for each NCS tile (R501), as its difference from that of a tile of zero lines. -/
  tiles : Cells 32
  /-- A tile was written since the scrubber began to verify it. -/
  tileDirty : Bool
  /-- NCS lines of a failed tile that the peer's lines replace (R502). -/
  refill : List Nat
  /-- Parity-table entries that were rewritten for bad parity, and those found hard: EHT keys, heard-by keys from 2^21 (R511). -/
  parity : List Nat
  hardParity : List Nat
  /-- Retired overflow entries (R498). -/
  retired : List Nat
  deriving DecidableEq, Repr

/-! ## Chapter 19: the pair -/

/-- The kind of the peer's last link record (Table 19-2). -/
inductive LastRecord where
  | none
  | control
  | release
  | handover
  deriving DecidableEq, Repr

/-- Where a switchover stands (Table 19-6, R540, R541). -/
inductive SwitchPhase where
  /-- Accepted: waits for boundary B. -/
  | waitBoundary
  /-- The handover record was sent. -/
  | handover
  /-- The handover is acknowledged: ingress towards the mesh has stopped, and the TC0 egress queues run empty. -/
  | stopped
  /-- The former active has released its claim. -/
  | released
  /-- The incoming active waits for the release. -/
  | incoming
  /-- The incoming active holds the claim; the former active rewrites its counters. -/
  | rewrite
  /-- No claim followed the release within 1 ms: the former active may claim again (R541). -/
  | reclaim
  deriving DecidableEq, Repr

/-- A switchover in progress. -/
structure Switchover where
  phase : SwitchPhase
  /-- This device is the outgoing active of a planned switchover. -/
  outgoing : Bool
  /-- 0 planned, 1 unplanned. -/
  kind : Nat
  cause : Nat
  /-- ASN of boundary B. -/
  boundary : Nat
  /-- Elapsed time of SWITCHOVER_START. -/
  started : Nat
  released : Nat
  /-- One above the highest block reserved before it (SWITCHOVER_DONE). -/
  firstBlock : Nat
  deriving DecidableEq, Repr

/-- A mirror or control record (Table 19-4, R533). -/
inductive MirrorRecord where
  | ncs (node : Nat) (mask : Nat) (bytes : List Byte)
  | reservation (node : Nat) (district : Bool) (block : Nat)
  | crimsonIn (frame : TxFrame)
  | crimsonOut (ident : Nat)
  /-- A change of the tree state: the signed operation (9 for an activation) and its operands. -/
  | tree (op : Nat) (args : List Nat)
  /-- The whole tree state (R537). -/
  | treeAll (t : TreeState)
  | epoch (number asn : Nat) (fields : List (Nat × Nat))
  | bulkClear (requester : Nat)
  /-- Role, claim state, hold, the present ASN and NODE_MIN. -/
  | control (role : Nat) (claiming hold : Bool) (asn nodeMin : Nat)
  | release
  | handover (asn : Nat)
  | line (index : Nat) (bytes : List Byte)
  deriving DecidableEq, Repr

/-- A link frame sent and not acknowledged: its sequence, its sends and its records. -/
structure HjFrame where
  seq : Nat
  sends : Nat
  records : List MirrorRecord
  deriving DecidableEq, Repr

/-- The pair beside registers. -/
structure PairState where
  /-- The keeper has been refreshed since it last expired (R523). -/
  kept : Bool
  /-- Elapsed time of the last refresh, and of the last advance of ASN_LO. -/
  keptAt : Nat
  asnAt : Nat
  /-- Step 8 of Table 3-1 has come and its decision is open. -/
  step8 : Bool
  lastRecord : LastRecord
  /-- The peer's link records report it claiming. -/
  peerClaims : Bool
  /-- Only control records cross (mismatch of R531). -/
  controlOnly : Bool
  txSeq : Nat
  rxSeq : Nat
  unacked : List HjFrame
  sessionKey : BitVec 128
  retrainAt : Option Nat
  rxAt : Nat
  /-- Reserved block by node, and by district from 2^20 (R534). -/
  reserved : List (Nat × Nat)
  /-- Resync: dirty lines, elapsed time of its start, and lines sent. -/
  dirty : List Nat
  syncAt : Nat
  syncLines : Nat
  switchover : Option Switchover
  /-- The peer's ASN and its hold in its last control record. -/
  peerAsn : Nat
  peerHold : Bool
  /-- The STANDBY takes the peer's ASN at the next boundary (R532). -/
  takeAsn : Bool
  /-- The first slot boundary this device serves after its claim (R540). -/
  serveFrom : Nat
  /-- Elapsed time at which the link went down. -/
  downAt : Nat
  /-- The provided interface version of the peer's runtime, and its compatibility vector (R531, R548). -/
  peerIfv : Nat
  peerVector : List (Nat × Nat × Nat)
  /-- What follows the planned switchover: 0 nothing, 1 repair restart, 2 Sepia, 3 Umber, 4 handover of an
  update, 5 fallback, 6 escalation, 7 a restart whatever came of it. -/
  then_ : Nat
  deriving DecidableEq, Repr

/-! ## Chapter 20: update -/

/-- The probation record in always-on save memory (R552, R564). -/
structure Probation where
  comp : Nat
  /-- Slot of the new image: 0 A, 1 B. -/
  slot : Nat
  /-- Elapsed time of HANDOVER_DONE, and of its end. -/
  started : Nat
  ends : Nat
  deriving DecidableEq, Repr

/-- The update in progress beside registers. -/
structure UpdState where
  /-- Slot being staged or staged, and the image bytes. -/
  target : Nat
  image : List Byte
  /-- A health failure has occurred since activation (R559). -/
  unhealthy : Bool
  probation : Option Probation
  /-- Probation seconds latched at OP 2. -/
  seconds : Nat
  /-- Next control core of the handover. -/
  unit : Nat
  /-- Engines that run the new microcode: channel engines, then transmit engines from 512 (R554). -/
  swapped : List Nat
  /-- The handover runs backwards: the reason of the fallback. -/
  backward : Option Nat
  /-- SWAP was set (R566). -/
  swap : Bool
  /-- The image that was in force before the activation. -/
  prev : Option ImageInForce
  /-- Elapsed time of the start of the handover, and units handed over so far. -/
  startedAt : Nat
  units : Nat
  /-- A live apply waits for the first SF0 boundary at or after this elapsed time. -/
  liveFrom : Nat
  livePending : Bool
  /-- The next restart boots an image that OP 6 activated (R558). -/
  atRestart : Option Nat
  /-- An UPDATE_FALLBACK with this component and reason is posted once the rings run (R564). -/
  fallbackPost : Option (Nat × Nat)
  deriving DecidableEq, Repr

/-! ## Chapter 21: power -/

/-- A level change in progress (R571). -/
structure LevelChange where
  from_ : Nat
  level : Nat
  started : Nat
  /-- The clocks have switched. -/
  switched : Bool
  deriving DecidableEq, Repr

/-- A sleep request accepted and not yet entered (R579, R585). -/
structure SleepRequest where
  umber : Bool
  accepted : Nat
  boundary : Nat
  deriving DecidableEq, Repr

/-- The power controller beside registers. -/
structure PowerState where
  change : Option LevelChange
  request : Option SleepRequest
  /-- The save image: register words by key, with the CRC valid; none when no image is held (R577). -/
  save : Option (List (Nat × Nat))
  /-- Elapsed time of entry. -/
  asleepAt : Nat
  /-- A wake latched: source and elapsed time. -/
  wake : Option (Nat × Nat)
  /-- The wake came during entry (R584). -/
  duringEntry : Bool
  /-- Elapsed time at which exit began. -/
  exitAt : Nat
  /-- SLEEP_EXIT or WAKE_DURING_ENTRY to post once the rings run, after an Umber exit. -/
  wakePost : Option (Nat × Nat)
  pale : Bool
  /-- Elapsed time since which the temperature has stayed below WARN while throttled. -/
  coolSince : Option Nat
  /-- The temperature is above WARN. -/
  warned : Bool
  /-- Frequencies in force of clk_pkt (MHz): the level of the clocks. -/
  clockLevel : Nat
  /-- PWR_VSEL code. -/
  vsel : Nat
  /-- PWR_EN_CORE, PWR_EN_SRAM, FAULT_N, isolation. -/
  enCore : Bool
  enSram : Bool
  faultN : Bool
  isolated : Bool
  /-- clk_aon runs from LFCLK (as against the RC oscillator). -/
  aonLf : Bool
  deriving DecidableEq, Repr

end Sys2Proof.Machine
end

