-- ==== Sys2Proof/Syntax.lean ====
section
/-!
DEFINITION. The commands of the block: one constructor for each row of spec/opcode_table.json, with the operands that the
row's occurrence brings from outside: who writes, which unit, the value written, bytes received, values measured.
What a command checks it computes from these and from the state.
-/

namespace Sys2Proof

open Sys2Proof.Machine

/-- The commands, in the order of the table. -/
inductive Instr where
  /-- PORST_N_RELEASE (R57): PORST_N rises: the straps latch and the device brings up the switched rails in order. -/
  | porstNRelease (mode0 mode1 id : Option Bool)
  /-- PORST_N_ASSERT (R50): PORST_N falls: outputs stop driving, the claim is released and fault hold ends. -/
  | porstNAssert
  /-- VDD_AON_LOSS (R14): An always-on rail is lost: always-on state, the bridge image and the kept fields are lost. -/
  | vddAonLoss
  /-- VDD_AON_UP (R14): VDD_AON comes up: the always-on fields take their Reset values and the kept fields read 0. -/
  | vddAonUp
  /-- PWR_PG_HIGH (R57): PWR_PG is seen high: isolation is released, FAULT_N is driven high and the PLLs start. -/
  | pwrPgHigh
  /-- PWR_PG_TIMEOUT (R104): PWR_PG is not high within 5 ms of PWR_EN_CORE: the rails are switched off for a retry, or the device enters fault hold on the second failure. -/
  | pwrPgTimeout
  /-- POWER_RETRY_WAIT_END (R104): After the 20 ms wait, the device repeats steps 2 to 4 of Table 2-7. -/
  | powerRetryWaitEnd
  /-- PWR_PG_FALL (R59): PWR_PG falls while running or in boot: the device enters fault hold with code 0x05. -/
  | pwrPgFall
  /-- PLL_LOCK (R57): The PLLs lock at PL0: the timebase starts and the boot ROM runs. -/
  | pllLock (nLf nRc lag : Nat)
  /-- REFCLK_TIMEOUT (R105): REFCLK or PLL lock is missing after 5 ms: the device waits once more, then enters fault hold with code 0x03 or 0x04. -/
  | refclkTimeout (code : Nat)
  /-- COMPONENT_LOAD_DONE (R86): A component slot has been read and goes through the ordered checks; on failure the device tries the other slot. -/
  | componentLoadDone (readOk : Bool)
  /-- CONFIG_IMAGE_READ (R96): The runtime reads the configuration image once, then validates, applies and commits it. -/
  | configImageRead (readOk : Bool) (fails : List (Nat × Nat))
  /-- COLD_CAL_DONE (R165): Cold-start calibration of a path completes, and the path is released to the slot engine. -/
  | coldCalDone (path failed : Nat) (set_ tx analog : List Int) (health0 health1 : Nat)
  /-- WARM_RST_N_ASSERT (R77): WARM_RST_N is held low: all transmission stops and the claim is released. -/
  | warmRstNAssert
  /-- WARM_RST_N_RELEASE (R77): WARM_RST_N is released: Table 3-1 runs from step 3 with the rails kept on. -/
  | warmRstNRelease
  /-- RESET_CTRL_WRITE (R77): RESET_CTRL is written with the warm-restart key, which starts a warm restart. -/
  | resetCtrlWrite (key : Nat)
  /-- WARM_RESTART_DELAY_END (R77): 10 µs after the RESET_CTRL write, the warm restart runs Table 3-1 from step 3. -/
  | warmRestartDelayEnd
  /-- RECOVERY_CHUNK (R79): A recovery UART chunk frame is received, checked and answered with an acknowledgement or a negative acknowledgement. -/
  | recoveryChunk (frame : List Byte)
  /-- RECOVERY_COMPONENT_DONE (R79): A recovery component-done frame ends the loading of a component. -/
  | recoveryComponentDone (frame : List Byte)
  /-- LFCLK_MEASURE_DONE (R107): A measurement of LFCLK against REFCLK completes, and clk_aon switches to LFCLK if the clock is accepted. -/
  | lfclkMeasureDone (cycles : Nat)
  /-- LFCLK_ACCEPT_TIMEOUT (R107): LFCLK is not accepted within 2,000 ms, so the device continues on the RC oscillator with code 0x06. -/
  | lfclkAcceptTimeout
  /-- LFCLK_REMEASURE_TIMER (R107): While the device runs on the RC oscillator, the LFCLK measurement is repeated every 1 s. -/
  | lfclkRemeasureTimer
  /-- LFCLK_EDGE_LOSS (R107): LFCLK shows no edge for 4 RC periods while in use, so the device switches to the RC oscillator at once. -/
  | lfclkEdgeLoss
  /-- RTW_DATA_WRITE (R102): An RTW_DATA write through the runtime-tunable window is applied, or denied and counted. -/
  | rtwDataWrite (q : Requester) (v : Nat)
  /-- AON_FAIL_CLEAR (R109): Writing AON_FAIL.CLEAR clears COUNT, PHASE and CODE. -/
  | aonFailClear
  /-- RETENTION_REFRESH (R113): The retention refresh copies slots and repair maps older than 3,652 days. -/
  | retentionRefresh (bad : List Nat)
  /-- REGISTER_WRITE (R10): A write to a register that has no row of its own acts by its access type. -/
  | registerWrite (q : Requester) (off size v : Nat) (poisoned : Bool) (fails : List (Nat × Nat)) (data : List Byte)
  /-- COUNTER_READ_CLEAR (R12): A read of an RC field returns its value and clears it. -/
  | counterReadClear (q : Requester) (off size : Nat)
  /-- SYNTH_LOCK_ACQUIRED (R119): A synthesizer reaches lock: blanking ends, and a waiting ramp starts. -/
  | synthLockAcquired (path : Nat)
  /-- SYNTH_LOCK_LOSS (R121): Lock is lost: frames in progress are discarded, or the transmit interval ramps down and is aborted. -/
  | synthLockLoss (path : Nat)
  /-- LOCK_TIMEOUT (R122): Lock is not reached within LOCK_TIMEOUT: acquisition restarts once, then the path goes out of service. -/
  | lockTimeout (path : Nat)
  /-- OOS_RETUNE_RETRY (R122): Every 100 ms, the device retries the retune of an out-of-service path. -/
  | oosRetuneRetry (path : Nat)
  /-- TX_INTERVAL_START (R123): A planned transmit interval begins: the path is blanked, the front end is set and the frames are sent. -/
  | txIntervalStart (path : Nat)
  /-- BLANKING_END (R185): Blanking ends and the engines return to SEARCH, applying any pending assignment first. -/
  | blankingEnd (path : Nat)
  /-- TX_LATEST_START_EXPIRY (R128): The slot's latest start passes without lock or a ready engine, so the interval is deferred. -/
  | txLatestStartExpiry (path : Nat)
  /-- CAL_YIELD_REQUEST (R129): 8 µs before a transmit interval, the slot engine asks a calibration that holds the path to yield. -/
  | calYieldRequest (path : Nat)
  /-- DEVCLK_CHECK (R138): Each 1 ms, DEVCLK is compared against REFCLK. -/
  | devclkCheck (hz : Nat)
  /-- JESD_ARM (R139): Writing JESD_CTRL.ARM arms one-shot SYSREF alignment. -/
  | jesdArm
  /-- SYSREF_EDGE (R139): A SYSREF edge aligns the multiblock clock or has its phase checked. -/
  | sysrefEdge (position : Int)
  /-- JESD_MULTIBLOCK_RX (R140): A receive multiblock arrives, and its CRC-12 is checked. -/
  | jesdMultiblockRx (lane : Nat) (crcOk syncOk : Bool)
  /-- JESD_LINK_ALIGNED (R140): A JESD link completes retraining and alignment. -/
  | jesdLinkAligned (dir : Nat)
  /-- COEFF_SET_ISSUE (R147): A control core issues a new receive coefficient set under a new epoch. -/
  | coeffSetIssue (path : Nat) (set_ : List Int)
  /-- BARRIER_COMPLETE (R202): A barrier completes, and every engine of the set holds the new value in the same cycle. -/
  | barrierComplete (path : Nat)
  /-- ESTIMATOR_RESULT (R150): A calibration estimator result is turned into a new set, no sooner than MIN_INT after the last one. -/
  | estimatorResult (path kind chain bin epoch span : Nat) (inPhase quad rejection halfWidth : Int)
  /-- NOISE_REPORT_TIMER (R154): Every 10 ms, an idle engine reports the noise power in its sub-bands. -/
  | noiseReportTimer (engine : Nat) (powers : List Nat)
  /-- TRIM_INTERVAL (R159): Every TRIM_INTERVAL, the reference oscillator trim step is computed and applied. -/
  | trimInterval
  /-- OSC_MAN_WRITE (R163): An OSC_MAN write sets REF_TUNE in manual mode. -/
  | oscManWrite (v : Nat)
  /-- CAL_CANCEL (R171): CAL_REQ OP 0 cancels a pending or running request. -/
  | calCancel (path : Nat)
  /-- CAL_IMAGE (R168): CAL_REQ OP 1 requests an image calibration. -/
  | calImage (path : Nat) (excl : Bool)
  /-- CAL_ANALOG_FILTER (R168): CAL_REQ OP 2 requests an analog filter calibration. -/
  | calAnalogFilter (path : Nat) (excl : Bool)
  /-- CAL_ANALOG_DC (R168): CAL_REQ OP 3 requests an analog DC calibration. -/
  | calAnalogDc (path : Nat) (excl : Bool)
  /-- CAL_TX_IQ_LO (R168): CAL_REQ OP 4 requests a transmit IQ and LO calibration. -/
  | calTxIqLo (path : Nat) (excl : Bool)
  /-- CAL_FULL (R169): CAL_REQ OP 5 requests a full calibration. -/
  | calFull (path : Nat) (excl : Bool)
  /-- CAL_SELF_TEST (R172): CAL_REQ OP 8 requests a path self-test. -/
  | calSelfTest (path : Nat) (excl : Bool)
  /-- SLICED_CAL_UNIT (R168): A sliced calibration unit runs in an idle slot of the path. -/
  | slicedCalUnit (path : Nat) (last : Bool) (set_ tx analog : List Int) (stFail time : Nat)
  /-- EXCLUSIVE_CAL_START (R169): An exclusive calibration starts once the path is drained. -/
  | exclusiveCalStart (path : Nat)
  /-- EXCLUSIVE_CAL_DONE (R169): An exclusive calibration completes. -/
  | exclusiveCalDone (path failed : Nat) (set_ tx analog : List Int) (health0 health1 stFail : Nat)
  /-- CAL_REQUEST_TIMEOUT (R171): A request not complete after 600 s is abandoned. -/
  | calRequestTimeout (path : Nat)
  /-- ASSIGNMENT_RECORD (R182): An assignment record reaches a channel engine and is refused, applied, or held as pending. -/
  | assignmentRecord (engine : Nat)
  /-- PREAMBLE_DETECT (R187): The correlation reaches the threshold, and the engine enters ACQ. -/
  | preambleDetect (engine rhoA rhoB : Nat) (hypothesis : Int)
  /-- FALSE_DETECTION (R188): ACQ finds no SFD in time, so the engine counts a false detection and returns to SEARCH. -/
  | falseDetection (engine : Nat)
  /-- FALSE_DET_SECOND (R188): Each second, the cluster sums the false detections of its engines. -/
  | falseDetSecond (cluster : Nat)
  /-- ANTENNA_DECISION (R189): At the decision point, the engine chooses the chain it demodulates. -/
  | antennaDecision (engine metricA metricB : Nat)
  /-- SFD_DETECT (R147): The SFD is found: the pending coefficient set is latched and the timestamp is taken. -/
  | sfdDetect (engine time : Nat) (estimate : Int)
  /-- PHR_DECODE (R179): The PHR or Indigo header is decoded and checked; the frame ends on a failure. -/
  | phrDecode (engine header len : Nat) (fcs4 reserved modeSwitch hcsOk : Bool) (mcs : Nat)
  /-- FRAME_END (R196): A received frame ends: the FCS is checked and the report and PSDU go to the receive queue. -/
  | frameEnd (engine : Nat) (psdu : List Byte) (fcsOk saturated : Bool) (power snr residual : Int) (snrs : List Int) (nulls : Int)
      (image : List Int)
  /-- RXQ_WAIT_TIMEOUT (R186): The receive queue takes no frame within 100 µs, so the frame is discarded. -/
  | rxqWaitTimeout (engine : Nat)
  /-- TX_WORK_ITEM (R198): A transmit work item reaches a transmit engine and is refused, loaded, or marked late. -/
  | txWorkItem (te handle : Nat)
  /-- TX_FRAME_END (R200): A transmit engine finishes, aborts or defers a frame and returns a completion record. -/
  | txFrameEnd (te : Nat)
  /-- MAP_TRAILER (R227): The map unit processes the Indigo trailer of a verified frame and may issue a map. -/
  | mapTrailer
  /-- STALE_INDIGO_REPORT (R233): A report with STALE set is attributed to the expected node and its map is re-issued. -/
  | staleIndigoReport (cluster : Nat)
  /-- MAP_HOLD_EXPIRY (R228): The HOLD period of a confirmed map entry ends. -/
  | mapHoldExpiry (node : Nat)
  /-- IMAP_RATE_CHANGE (R236): IMAP_REQ OP 1 changes a node's code rate. -/
  | imapRateChange (node rate : Nat)
  /-- IMAP_CLEAR (R236): IMAP_REQ OP 2 clears a node's map. -/
  | imapClear (node : Nat)
  /-- IMAP_RESEND (R236): IMAP_REQ OP 3 re-sends a node's map. -/
  | imapResend (node : Nat)
  /-- SLOT_BOUNDARY (R240): A slot boundary is crossed: the ASN rises and the slot engine plans the slot. -/
  | slotBoundary
  /-- RECEIVED_FRAME (R261): A received frame is filtered, verified and checked for duplicates or replay, then accepted and delivered. -/
  | receivedFrame (cluster : Nat) (written : Bool)
  /-- REPLY_WINDOW_END (R266): A reply window ends without a reply, so the miss is counted and supervision is checked. -/
  | replyWindowEnd (node : Nat)
  /-- NODE_ACK_WINDOW_END (R256): A follow-on is not acknowledged and stays queued for a resend. -/
  | nodeAckWindowEnd (node : Nat)
  /-- JOIN_REQUEST (R478): A join request is checked; a response is built or re-sent, and the line is written. -/
  | joinRequest (cluster : Nat)
  /-- DRIFT_OBSERVATION (R285): The fitter takes a timing or carrier observation and updates the node model. -/
  | driftObservation
  /-- MODEL_AGE_EXPIRY (R288): 2^23 slots pass since SYNC, so the model becomes invalid. -/
  | modelAgeExpiry (node : Nat)
  /-- WAKE_SET_TARGET (R283): WAKE_REQ OP 1 sets a node's target exponent. -/
  | wakeSetTarget (node k : Nat)
  /-- WAKE_RESET_MODEL (R288): WAKE_REQ OP 2 resets a node's drift model. -/
  | wakeResetModel (node : Nat)
  /-- PEER_BEACON_RX (R296): The tracked peer's beacon is accepted, and the phase and drift are updated. -/
  | peerBeaconRx (cluster : Nat)
  /-- TRACK_SLOTFRAME_MISS (R297): A slotframe passes without an accepted peer beacon. -/
  | trackSlotframeMiss
  /-- EHT_LOOKUP (R307): EHT_CMD OP 1 looks up an EUI-64. -/
  | ehtLookup (q : Requester) (way flip : Nat)
  /-- EHT_INSERT (R308): EHT_CMD OP 2 inserts an entry. -/
  | ehtInsert (q : Requester) (index : Nat)
  /-- EHT_DELETE (R308): EHT_CMD OP 3 deletes an entry. -/
  | ehtDelete (q : Requester)
  /-- EHT_REBUILD_DONE (R309): An EHT rebuild pass completes, and the buckets are rewritten. -/
  | ehtRebuildDone
  /-- HEARD_BY_UPDATE (R312): A learning unit applies a heard-by update to its own table. -/
  | heardByUpdate (cluster node path ant : Nat) (rssi : Int) (flip : Nat)
  /-- HB_TICK (R313): Every HB_TICK minutes, HB_NOW advances and the sweeper ages the entries. -/
  | hbTick
  /-- NODE_MINUTE_SWEEP (R315): Every minute, the sweeper saturates line ages and retires or frees old lines. -/
  | nodeMinuteSweep
  /-- INFRA_ENTRY_WRITE (R317): An infrastructure entry write undoes the old pin and router setting and applies the new one. -/
  | infraEntryWrite (q : Requester) (entry v : Nat)
  /-- INFRA_COMPARE_PASS (R317): Every INFRA_PERIOD, the compare engine checks the table against its shadow. -/
  | infraComparePass (entry flip : Nat)
  /-- BAR2_READ (R322): A BAR2 read returns a single version of an NCS line. -/
  | bar2Read (off len : Nat)
  /-- SNAPSHOT_EXPORT (R323): SNAP_CTRL OP 1 marks a snapshot and starts the export. -/
  | snapshotExport
  /-- SNAPSHOT_EXPORT_DONE (R324): The snapshot export completes. -/
  | snapshotExportDone (pcieError : Bool) (misread : List (Nat × Nat))
  /-- SNAPSHOT_RESTORE (R325): SNAP_CTRL OP 2 starts a restore from the host buffer. -/
  | snapshotRestore (resume : Bool) (descriptor : List Byte)
  /-- RESTORE_READ_DONE (R325): The tiles have been read and the EHT rebuilt; the device waits for the next boundary. -/
  | restoreReadDone (lines : List (Nat × List Byte)) (sums : List (Nat × Nat)) (pcieError : Bool)
  /-- SNAPSHOT_ABORT (R324): SNAP_CTRL OP 3 aborts an export. -/
  | snapshotAbort
  /-- NCS_READ (R328): NCS_CMD OP 1 reads a line into NCS_DATA. -/
  | ncsRead (q : Requester) (index : Nat)
  /-- NCS_MASKED_WRITE (R303): NCS_CMD OP 2 makes a masked write of a line. -/
  | ncsMaskedWrite (q : Requester) (index : Nat)
  /-- NCS_ZERO_LINE (R328): NCS_CMD OP 3 zeroes a line. -/
  | ncsZeroLine (q : Requester) (index : Nat)
  /-- NCS_BULK_CLEAR (R327): NCS_CMD OP 4 starts a bulk clear of all node state. -/
  | ncsBulkClear (q : Requester)
  /-- BULK_CLEAR_DONE (R327): A bulk clear completes and the infrastructure pins are re-applied. -/
  | bulkClearDone
  /-- HB_READ (R328): HB_CMD OP 1 reads a heard-by entry. -/
  | hbRead (q : Requester) (cluster index : Nat)
  /-- HB_INVALIDATE (R328): HB_CMD OP 2 invalidates a learned heard-by entry. -/
  | hbInvalidate (q : Requester) (cluster index : Nat)
  /-- SCHEDULE_EPOCH_SWITCH (R344): At an SF0 boundary, a new schedule epoch takes effect. -/
  | scheduleEpochSwitch
  /-- PATH_SCHED_WRITE (R345): A PATH_SCHED.DRAIN write sets or clears the draining of a path. -/
  | pathSchedWrite (path : Nat) (drain : Bool)
  /-- DEPTH_SAMPLE (R348): Every 1 ms, the queue depths are sampled. -/
  | depthSample
  /-- QUEUE_ITEM_WRITE (R354): A producer writes an item into a queue lane that has room. -/
  | queueItemWrite (queue lane words : Nat) (poison : List Nat) (tag : Nat) (data : List Byte)
  /-- QUEUE_ROOM_AVAILABLE (R354): A waiting producer finds room for its whole item and starts it. -/
  | queueRoomAvailable (queue : Nat)
  /-- QUEUE_ITEM_READ (R357): The reader takes the head item of the lowest-numbered non-empty lane. -/
  | queueItemRead (queue : Nat)
  /-- QUEUE_POINTER_MISMATCH (R360): The pointer copies of a queue differ, so a forced reset starts. -/
  | queuePointerMismatch (queue : Nat) (byWriter : Bool) (held : Nat)
  /-- QUEUE_RESET_DONE (R361): A forced queue reset completes and poison-only items are delivered. -/
  | queueResetDone (queue : Nat)
  /-- QUEUE_TEST_FORCE (R360): Q_TEST.FORCE forces a pointer mismatch. -/
  | queueTestForce (queue held : Nat)
  /-- PCIE_RESET (R366): PERST_N falls or an FLR starts, so the endpoint and the host interface registers reset. -/
  | pcieReset (flr : Bool)
  /-- PCIE_RESET_RELEASE (R75): PERST_N rises and the endpoint starts link training. -/
  | pcieResetRelease
  /-- PCIE_LINK_CHANGE (R364): The PCIe link goes up or down. -/
  | pcieLinkChange (up : Bool) (width rate : Nat)
  /-- UNSUPPORTED_REQUEST (R365): A request that hits no BAR is answered as an Unsupported Request. -/
  | unsupportedRequest
  /-- EVENT_GENERATE (R371): An occurrence generates an event record with its sequence, routed to a ring or the backlog. -/
  | eventGenerate (code : Nat) (data : List Byte)
  /-- EVENT_RECORD_WRITE (R373): A record is written into host ring memory. -/
  | eventRecordWrite (ring : Nat)
  /-- EVENT_WRITEBACK (R373): The write-back of PROD and the drop count is written to EVR_WB. -/
  | eventWriteback (ring : Nat)
  /-- MSIX_MESSAGE (R376): After MOD_US, an MSI-X message is sent for the advanced write-backs. -/
  | msixMessage (index : Nat)
  /-- EVR_CTRL_WRITE (R372): An EVR_CTRL write enables, reconfigures or stops a ring; the backlog flushes on enable. -/
  | evrCtrlWrite (ring v : Nat)
  /-- EVR_BASE_WRITE (R372): An EVR_BASE or EVR_WB write, ignored with BAD_CFG while the ring is enabled. -/
  | evrBaseWrite (ring part v : Nat)
  /-- EVR_CONS_WRITE (R374): The host advances EVR_CONS, checked against the ring size. -/
  | evrConsWrite (ring v : Nat)
  /-- HQ_CTRL_WRITE (R381): An HQ_CTRL write enables or reconfigures a host frame queue. -/
  | hqCtrlWrite (hq v : Nat)
  /-- HQ_TAIL_WRITE (R381): The host advances HQ_TAIL. -/
  | hqTailWrite (hq v : Nat)
  /-- HOST_TX_DESCRIPTOR (R382): A transmit descriptor is fetched, and its frame is built and sealed or refused with a status. -/
  | hostTxDescriptor (hq : Nat) (desc data : List Byte) (readOk : Bool)
  /-- ETH_INGRESS_FRAME (R387): An Ethernet frame is received, classified, and sent into the mesh or to the control cores. -/
  | ethIngressFrame (port : Nat) (data : List Byte) (fcsOk : Bool) (latch delay : Nat)
  /-- ETH_PORT_LINK_UP (R392): An Ethernet port's link comes up, and preemption verification starts. -/
  | ethPortLinkUp (port : Nat)
  /-- ETH_PORT_LINK_DOWN (R390): A port goes down and its queued frames are dropped. -/
  | ethPortLinkDown (port cause : Nat)
  /-- PREEMPT_VERIFY_TIMEOUT (R392): A verification attempt draws no response within 10 ms. -/
  | preemptVerifyTimeout (port : Nat)
  /-- REASSEMBLY_TIMEOUT (R399): A reassembly context times out and is discarded. -/
  | reassemblyTimeout (node tag size : Nat)
  /-- TB_INC_COMMIT (R408): A TB_INC_HI write commits the timebase increment, or the increment is refused. -/
  | tbIncCommit (q : Requester) (v : Nat)
  /-- TB_STEP_COMMIT (R409): A TB_STEP_HI write commits a phase step, which is applied, held or refused. -/
  | tbStepCommit (q : Requester) (v : Nat)
  /-- TB_SERVO_WRITE (R419): A TB_SERVO write changes the servo state and the time quality. -/
  | tbServoWrite (q : Requester) (v : Nat)
  /-- TB_NS_LO_READ (R412): A TB_NS_LO read captures the high half and the fraction for the requester. -/
  | tbNsLoRead (q : Requester)
  /-- ASN_LO_READ (R277): An ASN_LO read captures ASN bits 39:32 for the requester. -/
  | asnLoRead (q : Requester)
  /-- TS_INPUT_EDGE (R415): An edge on TS_INn is captured against the timebase, or ignored. -/
  | tsInputEdge (tsi : Nat) (rising : Bool) (width time : Nat)
  /-- TSO_CTRL_WRITE (R416): A TSO_CTRL write arms or disarms a pulse output. -/
  | tsoCtrlWrite (tso v : Nat)
  /-- TSO_TARGET_COMMIT (R416): A TSO_TGT_HI write commits a new target. -/
  | tsoTargetCommit (tso v : Nat)
  /-- TSO_TARGET_REACHED (R416): The timebase reaches the target and the output drives its active level. -/
  | tsoTargetReached (tso : Nat)
  /-- TSO_PULSE_END (R416): WIDTH ns after the target, the output returns to its inactive level. -/
  | tsoPulseEnd (tso : Nat)
  /-- TIME_ERR_SECOND (R418): Each second in holdover or a bridged code, TIME_ERR grows by HOLD. -/
  | timeErrSecond
  /-- RATIO_MEASURE_DONE (R422): A 65,536-tick measurement updates LF_RATIO or RC_RATIO. -/
  | ratioMeasureDone (rc : Bool) (ns : Nat)
  /-- GT_MATCH (R426): A timer step reaches the compare value: MATCH is set and the output acts. -/
  | gtMatch (gt : Nat)
  /-- GT_WRAP (R424): A timer count wraps and sets WRAP. -/
  | gtWrap (gt : Nat)
  /-- GT_CAPTURE (R425): A qualified input edge captures the count. -/
  | gtCapture (gt : Nat) (rising : Bool)
  /-- GT_REGISTER_APPLY (R427): A timer register write comes into force at W + 2. -/
  | gtRegisterApply (gt : Nat)
  /-- GT_CNT_LO_READ (R430): A read of a linked low count captures HI_SNAP. -/
  | gtCntLoRead (q : Requester) (gt : Nat)
  /-- CPU_WDOG_WARN (R436): A control-core watchdog reaches 50 ms without a refresh. -/
  | cpuWdogWarn (core : Nat)
  /-- CPU_WDOG_EXPIRY (R436): A control-core watchdog expires and that core restarts alone. -/
  | cpuWdogExpiry (core : Nat)
  /-- APP_ACCESS_FAULT (R437): An application core access outside its map or with bad parity faults. -/
  | appAccessFault (kind addr : Nat) (parity : Bool)
  /-- APP_DOUBLE_FAULT (R438): An access fault while fetching the trap vector halts the core. -/
  | appDoubleFault
  /-- APP_HOLD (R439): APP_CTRL.HOLD written 1 resets the application core and its peripherals. -/
  | appHold (q : Requester)
  /-- APP_RELEASE (R439): APP_CTRL.HOLD written 0 makes the runtime reload and verify the image. -/
  | appRelease (q : Requester)
  /-- APP_RELOAD_DONE (R439): The reloaded image is verified and the core is released at its entry address. -/
  | appReloadDone (readOk : Bool)
  /-- APP_WDOG_KICK (R440): A WDOG_KICK write restarts the watchdog count, or counts BAD_KICK. -/
  | appWdogKick (q : Requester) (v : Nat)
  /-- APP_WDOG_HALF (R440): The application watchdog reaches half its timeout and sets WARN. -/
  | appWdogHalf
  /-- APP_WDOG_EXPIRY (R440): The application watchdog expires and resets the core, or keeps it in reset at LIMIT. -/
  | appWdogExpiry
  /-- MB_TX_PUSH (R441): MB_TX_PUSH writes one word into MBA, or sets FULL_ERR. -/
  | mbTxPush (endWord : Bool)
  /-- MB_RX_POP (R442): MB_RX_POP takes the head word of MBC. -/
  | mbRxPop
  /-- MB_ECHO (R441): Mailbox service 0x0001 echoes the payload. -/
  | mbEcho
  /-- MB_EVENT_SUBSCRIPTION (R442): Mailbox service 0x0002 chooses the event sources that are forwarded. -/
  | mbEventSubscription
  /-- MB_NODE_LINE_READ (R441): Mailbox service 0x0003 returns an NCS line. -/
  | mbNodeLineRead
  /-- MB_TIMEBASE (R441): Mailbox service 0x0004 returns the timebase and its quality. -/
  | mbTimebase
  /-- GPIO_SET_WRITE (R443): A GPIO_SET write sets bits of GPIO_OUT. -/
  | gpioSetWrite (v : Nat)
  /-- GPIO_CLR_WRITE (R443): A GPIO_CLR write clears bits of GPIO_OUT. -/
  | gpioClrWrite (v : Nat)
  /-- GPIO_INPUT_CHANGE (R443): A GPIO input edge or level pends its AIC source. -/
  | gpioInputChange (n : Nat) (level : Bool)
  /-- AIC_SOURCE_REQUEST (R444): An interrupt request reaches the AIC and pends its source. -/
  | aicSourceRequest (src : Nat) (high : Bool)
  /-- AIC_CLAIM_READ (R446): An AIC_CLAIM read claims the best source and pushes its priority. -/
  | aicClaimRead (q : Requester)
  /-- AIC_EOI_WRITE (R447): An AIC_EOI write pops the priority stack. -/
  | aicEoiWrite (q : Requester) (src : Nat)
  /-- AIC_GDIS_WRITE (R449): An AIC_GDIS write gates the request to the core. -/
  | aicGdisWrite (v : Nat)
  /-- AIC_SWI_WRITE (R444): An AIC_SWI write pends software interrupt sources. -/
  | aicSwiWrite (v : Nat)
  /-- AIC_EN_WRITE (R451): An AIC_EN write changes the source enables. -/
  | aicEnWrite (q : Requester) (k v : Nat)
  /-- KEY_DERIVATION_DONE (R471): A key derivation for a waiting frame completes and fills the cache. -/
  | keyDerivationDone (written : Bool)
  /-- SEC_ATTEST (R484): SEC_CMD OP 1 makes a signed attestation report. -/
  | secAttest (q : Requester)
  /-- SEC_SELFTEST_ALL (R491): SEC_CMD OP 2 runs the self-tests of every kind. -/
  | secSelftestAll (q : Requester) (fails : List (Nat × Nat))
  /-- SEC_SELFTEST_KIND (R491): SEC_CMD OP 4 runs the self-tests of one kind. -/
  | secSelftestKind (q : Requester) (kind : Nat) (fails : List (Nat × Nat))
  /-- INSTALL_EPOCH (R466): Signed op 0x01 installs a pending epoch and computes its district keys. -/
  | installEpoch (q : Requester)
  /-- RAISE_DISTRICT_GENERATION (R469): Signed op 0x02 raises a district's generation. -/
  | raiseDistrictGeneration (q : Requester)
  /-- REVOKE_DISTRICT (R469): Signed op 0x03 revokes a district. -/
  | revokeDistrict (q : Requester)
  /-- REVOKE_EPOCH (R469): Signed op 0x04 revokes an epoch. -/
  | revokeEpoch (q : Requester)
  /-- ZEROIZE (R489): Signed op 0x05 erases the keys and orphans every node. -/
  | zeroize (q : Requester)
  /-- PROGRAM_OWNER_HASH (R488): Signed op 0x06 programs an owner key hash. -/
  | programOwnerHash (q : Requester)
  /-- REVOKE_OWNER_SLOT (R488): Signed op 0x07 revokes an owner slot. -/
  | revokeOwnerSlot (q : Requester)
  /-- DEBUG_TOKEN (R494): Signed op 0x08 grants debug access to cores. -/
  | debugToken (q : Requester)
  /-- JTAG_DEBUG_REQUEST (R494): JTAG debug of a core is requested, and is opened only under a grant. -/
  | jtagDebugRequest (port : Nat)
  /-- SELFTEST_PERIOD (R491): Every PERIOD seconds, the on-demand self-tests run on each engine. -/
  | selftestPeriod (fails : List (Nat × Nat))
  /-- DRBG_RESEED (R491): After 2^20 requests, a DRBG reseeds. -/
  | drbgReseed (engine : Nat) (ok : Bool)
  /-- LINE_CHECK_FAIL (R503): A line fails its CRC check and a recovery starts in a recovery slot. -/
  | lineCheckFail (mem : LineMem) (line column : Nat) (refetchOk code scrub : Bool) (air eth : Option Nat)
  /-- PEER_LINE_ARRIVAL (R503): The peer's copy of a faulty line arrives and is written. -/
  | peerLineArrival (line : Nat) (bytes : List Byte) (ok readbackOk : Bool)
  /-- FLASH_RECOMPUTE_DONE (R503): A control-memory line reread from flash is checked and written back. -/
  | flashRecomputeDone (line : Nat) (matched readbackOk : Bool)
  /-- SCRUB_READ (R509): The scrubber reads the next line or tile and verifies it. -/
  | scrubRead (mem : LineMem) (misread : List (Nat × Nat))
  /-- MI_SCRUB_NOW (R509): MI_CMD OP 2 starts an immediate scrub pass. -/
  | miScrubNow (q : Requester)
  /-- MI_APPLY_REPAIRS (R515): MI_CMD OP 1 starts the repair-application sequence. -/
  | miApplyRepairs (q : Requester)
  /-- MI_FLIP_WRITE (R516): An MI_FLIP write arms a check flip on the next line write. -/
  | miFlipWrite (q : Requester) (v : Nat)
  /-- FRAME_BUFFER_SWEEP (R508): The frame-buffer sweeper frees frames queued for lines marked REBUILD. -/
  | frameBufferSweep
  /-- CLAIM_ASSERT (R523): The device asserts its claim once the conditions hold, and takes a role. -/
  | claimAssert (edges : Nat)
  /-- PEER_CLAIM_CHANGE (R523): The synchronized peer claim on CLAIM_IN_N changes. -/
  | peerClaimChange (asserted : Bool)
  /-- CLAIM_KEEPER_EXPIRY (R529): The claim keeper expires, so the claim is released and the device becomes SPARE. -/
  | claimKeeperExpiry (asnTest : Bool)
  /-- PAIR_KEEP_WRITE (R529): A PAIR_KEEP write from the control cores refreshes the claim keeper. -/
  | pairKeepWrite (q : Requester)
  /-- HJ_LINK_FRAME_RX (R530): A Hjelno link frame is received and acknowledged, and its records are applied. -/
  | hjLinkFrameRx (seq : Nat) (good : Bool) (acks : List Nat) (records : List MirrorRecord)
  /-- HJ_RETRY_TIMEOUT (R530): A link frame is not acknowledged within 2 µs and is resent. -/
  | hjRetryTimeout (seq : Nat)
  /-- HJ_IDLE_TIMEOUT (R530): No frame is received for 50 µs, so the link goes down. -/
  | hjIdleTimeout
  /-- HJ_CONTROL_TIMER (R530): Every 5 µs, a control record is sent. -/
  | hjControlTimer
  /-- HJ_TRAINING_DONE (R531): Link training completes with authentication and the compatibility check. -/
  | hjTrainingDone (lanes inversions peerId : Nat) (nonce tag : List Byte) (ncsLog slotLen sfCode ifv : Nat) (vector : List
      (Nat × Nat × Nat))
  /-- HJ_RETRAIN_TIMER (R531): 1 s after an authentication failure, the link retrains. -/
  | hjRetrainTimer
  /-- HJ_TIME_EXCHANGE (R532): Every 1 ms, a two-way timebase exchange updates HJ_TOFS. -/
  | hjTimeExchange (sent peerGot peerSent got : Nat)
  /-- MIRROR_NCS_CHANGE (R533): A mirrored NCS change record is applied. -/
  | mirrorNcsChange (node mask : Nat) (bytes : List Byte)
  /-- MIRROR_RESERVATION (R534): A counter reservation record sets a reserved counter block. -/
  | mirrorReservation (node : Nat) (district : Bool) (block : Nat)
  /-- MIRROR_CRIMSON_ENQUEUE (R535): A copy of a sealed Crimson frame is queued at the standby. -/
  | mirrorCrimsonEnqueue (frame : TxFrame)
  /-- MIRROR_CRIMSON_DEQUEUE (R535): The copy of a Crimson frame is removed from the standby queue. -/
  | mirrorCrimsonDequeue (ident : Nat)
  /-- MIRROR_TREE_STATE (R533): A tree state change is applied at the peer. -/
  | mirrorTreeState (op : Nat) (args : List Nat)
  /-- MIRROR_SCHEDULE_EPOCH (R533): A schedule epoch record is applied at the peer. -/
  | mirrorScheduleEpoch (number asn : Nat) (fields : List (Nat × Nat))
  /-- MIRROR_BULK_CLEAR (R536): A bulk-clear record makes the peer clear in step. -/
  | mirrorBulkClear (requester : Nat)
  /-- MIRROR_CONTROL (R533): A control record carries the peer's role, claim, release notice or handover, and NODE_MIN. -/
  | mirrorControl (kind role : Nat) (claiming hold : Bool) (asn nodeMin : Nat)
  /-- PEER_FETCH_REQUEST (R504): The peer requests a clean copy of an NCS line, which is sent. -/
  | peerFetchRequest (line : Nat)
  /-- RESYNC_LINE_RX (R537): A resync line is received and written whole. -/
  | resyncLineRx (line : Nat) (bytes : List Byte)
  /-- RESYNC_PASS_END (R537): A resync pass ends, and dirty lines are resent or the sync completes. -/
  | resyncPassEnd (more : Bool) (misread : List (Nat × Nat))
  /-- PAIR_PLANNED_SWITCHOVER (R539): PAIR_CMD OP 1 requests a planned switchover. -/
  | pairPlannedSwitchover
  /-- PAIR_RESTART_RESYNC (R538): PAIR_CMD OP 2 restarts the resync from line 0. -/
  | pairRestartResync
  /-- PAIR_HOLD (R542): PAIR_CMD OP 3 puts a STANDBY or SPARE device on hold. -/
  | pairHold
  /-- PAIR_RESUME (R542): PAIR_CMD OP 4 ends the hold. -/
  | pairResume
  /-- SWITCHOVER_BOUNDARY (R539): At boundary B, the active sends the handover record. -/
  | switchoverBoundary
  /-- HANDOVER_ACK (R539): The handover is acknowledged: the active drains TC0 and releases its claim. -/
  | handoverAck
  /-- SWITCHOVER_REWRITE_DONE (R539): The former active rewrites its counters and becomes STANDBY. -/
  | switchoverRewriteDone
  /-- SWITCHOVER_RECLAIM_TIMER (R541): 1 ms after its release with no takeover, the former active takes the claim again. -/
  | switchoverReclaimTimer
  /-- UPD_STAGE (R550): UPD_CMD OP 1 verifies an image and starts staging it into the inactive slot. -/
  | updStage (q : Requester) (comp : Nat)
  /-- STAGE_WRITE_DONE (R550): The slot write is read back and the slot is marked trial. -/
  | stageWriteDone (readOk : Bool)
  /-- UPD_ACTIVATE (R552): UPD_CMD OP 2 activates the staged image and starts its handover. -/
  | updActivate (q : Requester) (swap : Bool)
  /-- UPD_REJECT (R559): UPD_CMD OP 3 declares a health failure. -/
  | updReject (q : Requester)
  /-- UPD_ABORT (R549): UPD_CMD OP 4 aborts a staged image. -/
  | updAbort (q : Requester)
  /-- UPD_BOOT_LOAD (R78): UPD_CMD OP 5 loads a boot component from the image window. -/
  | updBootLoad (q : Requester) (comp : Nat)
  /-- UPD_ACTIVATE_AT_RESTART (R558): UPD_CMD OP 6 activates an image for the next restart. -/
  | updActivateAtRestart (q : Requester)
  /-- CORE_HANDOVER_DONE (R553): A control core comes up on the new runtime and takes its work back. -/
  | coreHandoverDone (core : Nat)
  /-- CORE_HANDOVER_TIMEOUT (R563): A core does not come up within 40 ms, so a warm restart from the previous slots follows. -/
  | coreHandoverTimeout (core : Nat)
  /-- HANDOVER_COMPLETE (R552): A component handover completes and probation starts. -/
  | handoverComplete (fails : List (Nat × Nat))
  /-- CONFIG_LIVE_APPLY (R557): At an SF0 boundary, a new configuration is applied live. -/
  | configLiveApply
  /-- UPD_CONFIRM_WRITE (R559): A UPD_CONFIRM write confirms the component in probation, or is ignored. -/
  | updConfirmWrite (q : Requester) (key comp : Nat)
  /-- PROBATION_EXPIRY (R562): Probation expires without confirmation, so the device falls back. -/
  | probationExpiry
  /-- UPD_CFGSEQ_LO_READ (R557): A read of UPD_CFGSEQ_LO captures the high half for the requester. -/
  | updCfgseqLoRead (q : Requester)
  /-- PWR_LEVEL_WRITE (R573): A write of PWR_LEVEL.TARGET starts a performance-level change. -/
  | pwrLevelWrite (q : Requester) (v : Nat)
  /-- PL_CLOCK_SWITCH_TIMER (R571): 25 µs after PWR_VSEL rises, the clocks switch to the higher level. -/
  | plClockSwitchTimer
  /-- PL_CHANGE_DONE (R571): A level change completes. -/
  | plChangeDone
  /-- TEMP_SAMPLE (R574): Every 1 ms, the junction temperature is sampled; it may warn or throttle. -/
  | tempSample (tj : Int)
  /-- THROTTLE_RELEASE_TIMER (R574): After 10 s below WARN, throttling ends. -/
  | throttleReleaseTimer
  /-- PALE_ENTER (R575): The application core waits in WFI with no request, so the device enters Pale. -/
  | paleEnter
  /-- PALE_EXIT (R575): An AIC request or a debugger request ends Pale. -/
  | paleExit (debugger : Bool) (periods : Nat)
  /-- PWR_CMD_SEPIA (R578): PWR_CMD OP 1 requests Sepia. -/
  | pwrCmdSepia (q : Requester) (key : Nat)
  /-- PWR_CMD_UMBER (R585): PWR_CMD OP 2 requests Umber. -/
  | pwrCmdUmber (q : Requester) (key : Nat)
  /-- SEPIA_ENTRY (R579): At boundary B, Sepia entry runs. -/
  | sepiaEntry
  /-- UMBER_ENTRY (R585): At boundary B, Umber entry runs. -/
  | umberEntry
  /-- WAKE_SOURCE (R580): An enabled wake source is latched and exit starts. -/
  | wakeSource (src : Nat)
  /-- SLEEP_TIMER_EXPIRY (R580): The sleep timer expires and wakes the device. -/
  | sleepTimerExpiry
  /-- SEPIA_EXIT_READY (R581): Sepia exit reaches readiness, and the device claims and serves again. -/
  | sepiaExitReady (crcOk : Bool)
  /-- BUS_MASTER_ENABLE_CHANGE (R366): The host sets or clears Bus Master Enable in PCIe configuration space, which makes every ring and host frame queue active or inactive and, on activation, flushes the backlog records for that ring. -/
  | busMasterEnableChange (on : Bool)
  /-- MSIX_VECTOR_UNMASK (R376): The host unmasks an MSI-X vector whose PBA bit is set, and the device sends the pending message. -/
  | msixVectorUnmask (vector : Nat)
  /-- PREEMPT_VERIFY_RESPONSE (R392): The link partner answers the 802.3br verification exchange, so preemption becomes active and express frames may interrupt. -/
  | preemptVerifyResponse (port : Nat)
  /-- ETH_EGRESS_FRAME_DONE (R402): An Ethernet egress frame finishes on the wire: the egress timestamp is returned for a requested frame, credit buckets update and the next frame is chosen. -/
  | ethEgressFrameDone (port latch : Nat)
  /-- CONTROL_CORE_RESTART_DONE (R436): A control core that restarted after its watchdog expired comes up on the runtime image, takes its work back and returns to RUN. -/
  | controlCoreRestartDone (core : Nat)
  deriving DecidableEq, Repr

end Sys2Proof
end

