-- ==== Sys2Proof/Decode.lean ====
section
/-!
DEFINITION. The command that a word of the table spells.
-/

namespace Sys2Proof

/-- No row of spec/opcode_table.json gives any bits: the commands are occurrences and register accesses, not words. A word
of `nbits` bits therefore spells no command. -/
def decodeTableWord (_nbits _w : Nat) : Option Instr := none

end Sys2Proof
end

