-- ==== Sys2Proof/Config.lean ====
section
/-!
DEFINITION. What the spec leaves to the implementation or to another standard: constants with NO body, so
that no proof can see a value. `free*` values are the spec's open values (log entries 2 and 3); the
cryptographic primitives are functions of published standards that the spec names and does not restate
(log entry 4).
-/

namespace Sys2Proof

/-- The level a floating strap latches (R54 leaves it undefined): strap number, then draw number. -/
opaque Config.floatStrap : Nat → Nat → Bool

/-- Output of a DRBG (R491, R305, R479): draw number ↦ bits. -/
opaque Config.drbg : Nat → Nat

/-- A number the spec computes in real arithmetic without stating its rounding: which formula, then
its operands (log entry 3). -/
opaque Config.realResult : Nat → List Int → Int

/-- The PHASE bit of a forwarded event record, which belongs to no ring: draw number ↦ bit. -/
opaque Config.forwardPhase : Nat → Bool

/-- Whether AIC_CLAIM still returns a source whose enable was cleared in the delivery window of R451
("may still"): draw number ↦ choice. -/
opaque Config.lateClaim : Nat → Bool

/-- The air time in ns of a PSDU of so many octets with so many preamble octets in a mode whose frame durations
IEEE 802.15.4-2020 defines and the spec does not restate (R605: MR-OFDM and O-QPSK); 0 octets stands for preamble and SFD. -/
opaque Config.airTime : Nat → Nat → Nat → Nat

/-- The requested power index of a frame, which the spec gives for beacons alone: destination, then frame handle. -/
opaque Config.powerIndex : Nat → Nat → Nat

/-- The tail and pad bits that IEEE 802.15.4-2020 adds to PHR and PSDU under NRNSC FEC (R605): PSDU octets ↦ bits. -/
opaque Config.fecBits : Nat → Nat

/-- The FCS of IEEE 802.15.4-2020 over the octets before it: its length in octets, the octets ↦ the FCS. -/
opaque Config.fcs : Nat → List (BitVec 8) → List (BitVec 8)

/-- Which wake slot offset the runtime assigns at a join, of those that R341 leaves (draw number ↦ choice). -/
opaque Config.wakeOffset : Nat → Nat

/-- The device's own EUI-64, which the spec names and gives no register: by the device serial. -/
opaque Config.deviceEui : List (BitVec 8) → Nat

/-- RFC 6282 compression under Table 14-2 of an IPv6 packet: the prefix of R393, the air destination (2^20 for a group) ↦
the 6LoWPAN bytes. -/
opaque Config.lowpanCompress : Nat → Nat → List (BitVec 8) → List (BitVec 8)

/-- RFC 6282 decompression under Table 14-2: prefix, sending node, datagram size of a first fragment (0 for a whole
datagram), bytes ↦ the IPv6 bytes, or none for a form that is not supported. -/
opaque Config.lowpanDecompress : Nat → Nat → Nat → List (BitVec 8) → Option (List (BitVec 8))

/-- Bytes of code and read-only data of a runtime image, whose body format the spec does not give (R548). -/
opaque Config.runtimeCode : List (BitVec 8) → Nat

/-- The fault code of a RUNTIME_FAULT (Table 13-5), which the spec does not define: draw number ↦ code. -/
opaque Config.faultCode : Nat → Nat

/-- A number that the spec does not state (log entry 2): 0 the slot byte of an event about an image that came from no slot,
1 the reason code of a refused recovery frame (Table 3-11 names none for it), 2 a boot time beyond 16 bits, 3 the HJ_LINK_DOWN cause of an idle link, 4 the
cause of a role change that Table 19-5 does not name; then the draw number. -/
opaque Config.openValue : Nat → Nat → Nat

/-- SHA-256 (FIPS 180-4). -/
opaque Config.sha256 : List (BitVec 8) → BitVec 256

/-- AES-128-CMAC (SP 800-38B). -/
opaque Config.aesCmac : BitVec 128 → List (BitVec 8) → BitVec 128

/-- CCM* sealing (IEEE 802.15.4): key, nonce, security level, authenticated bytes, payload ↦ sealed bytes. -/
opaque Config.ccmSeal : BitVec 128 → List (BitVec 8) → Nat → List (BitVec 8) → List (BitVec 8) → List (BitVec 8)

/-- CCM* opening (IEEE 802.15.4): key, nonce, security level, sealed bytes ↦ the bytes in the clear. -/
opaque Config.ccmOpen : BitVec 128 → List (BitVec 8) → Nat → List (BitVec 8) → List (BitVec 8)

/-- CCM* verification: key, nonce, security level, received bytes ↦ whether the MIC is right. -/
opaque Config.ccmVerify : BitVec 128 → List (BitVec 8) → Nat → List (BitVec 8) → Bool

/-- AES-GCM verification of a Hjelno frame or session (R531): key, bytes ↦ whether the tag is right. -/
opaque Config.gcmVerify : BitVec 128 → List (BitVec 8) → Bool

/-- The AES-GCM tag over bytes: key, bytes ↦ tag. -/
opaque Config.gcmTag : BitVec 128 → List (BitVec 8) → List (BitVec 8)

/-- AES key wrap (SP 800-38F): wrapped bytes. -/
opaque Config.kwWrap : BitVec 128 → List (BitVec 8) → List (BitVec 8)

/-- AES key unwrap: the wrapped bytes, or none when the integrity check fails. -/
opaque Config.kwUnwrap : BitVec 128 → List (BitVec 8) → Option (List (BitVec 8))

/-- ECDSA P-256 verification: public key X ‖ Y, message, r ‖ s. -/
opaque Config.ecdsaVerify : List (BitVec 8) → List (BitVec 8) → List (BitVec 8) → Bool

/-- ECDSA P-256 signature r ‖ s by a private key over a message; the draw number stands for its nonce. -/
opaque Config.ecdsaSign : Nat → Nat → List (BitVec 8) → List (BitVec 8)

/-- The public key X ‖ Y of a P-256 private key. -/
opaque Config.ecPublic : Nat → List (BitVec 8)

/-- Whether X ‖ Y lies on P-256 and is not the point at infinity. -/
opaque Config.ecValid : List (BitVec 8) → Bool

/-- The x-coordinate, 32 bytes big-endian, of a private key times a public key. -/
opaque Config.ecdhX : Nat → List (BitVec 8) → List (BitVec 8)

end Sys2Proof
end

