-- ==== Sys2Proof/Machine/RegsCore.lean ====
section
/-!
DEFINITION. Register names and tables of BAR0, written from the register tables of the spec:
for each register its BAR0 offset `R.<REGISTER>` and for each field `R.<REGISTER>_<FIELD>`,
under the spec's own names; then one table a block. Arguments `i j k` are the register's indexes
in the order of the offset expression of its table; `q` is the requester of a banked register.
-/

namespace Sys2Proof.Machine

/-! Block Cap -/

-- DEV_ID (Table 1-10)
def R.DEV_ID : Nat := 0x00000000
def R.DEV_ID_FAMILY : Fld := ⟨R.DEV_ID, 16, 16⟩
def R.DEV_ID_PART : Fld := ⟨R.DEV_ID, 0, 16⟩
-- DEV_REV (Table 1-11)
def R.DEV_REV : Nat := 0x00000004
def R.DEV_REV_MAJOR : Fld := ⟨R.DEV_REV, 16, 8⟩
def R.DEV_REV_MINOR : Fld := ⟨R.DEV_REV, 8, 8⟩
def R.DEV_REV_ROM : Fld := ⟨R.DEV_REV, 0, 8⟩
-- CAP_UNITS (Table 1-12)
def R.CAP_UNITS : Nat := 0x00000008
def R.CAP_UNITS_ETH : Fld := ⟨R.CAP_UNITS, 22, 2⟩
def R.CAP_UNITS_HJ : Fld := ⟨R.CAP_UNITS, 21, 1⟩
def R.CAP_UNITS_JESD : Fld := ⟨R.CAP_UNITS, 20, 1⟩
def R.CAP_UNITS_CL : Fld := ⟨R.CAP_UNITS, 16, 4⟩
def R.CAP_UNITS_TRX : Fld := ⟨R.CAP_UNITS, 0, 16⟩
-- CAP_SIZES (Table 1-13)
def R.CAP_SIZES : Nat := 0x0000000C
def R.CAP_SIZES_NCS_LOG2 : Fld := ⟨R.CAP_SIZES, 27, 5⟩
def R.CAP_SIZES_CE_COUNT : Fld := ⟨R.CAP_SIZES, 17, 10⟩
def R.CAP_SIZES_TE_COUNT : Fld := ⟨R.CAP_SIZES, 9, 8⟩
def R.CAP_SIZES_XS_COUNT : Fld := ⟨R.CAP_SIZES, 4, 5⟩

/-- The registers of this block, field by field (access, reset and stated range). -/
def regTableCap : List RegDesc := [
  ⟨"DEV_ID", 0x00000000, [], false,
    [⟨16, 16, .ro, 0xC0D5, none⟩,
     ⟨0, 16, .ro, 0x0, none⟩]⟩,
  ⟨"DEV_REV", 0x00000004, [], false,
    [⟨16, 8, .ro, 0x1, none⟩,
     ⟨8, 8, .ro, 0x0, none⟩,
     ⟨0, 8, .ro, 0x2, none⟩]⟩,
  ⟨"CAP_UNITS", 0x00000008, [], false,
    [⟨22, 2, .ro, 0x0, none⟩,
     ⟨21, 1, .ro, 0x0, none⟩,
     ⟨20, 1, .ro, 0x0, none⟩,
     ⟨16, 4, .ro, 0x0, none⟩,
     ⟨0, 16, .ro, 0x0, none⟩]⟩,
  ⟨"CAP_SIZES", 0x0000000C, [], false,
    [⟨27, 5, .ro, 0x0, none⟩,
     ⟨17, 10, .ro, 0x0, none⟩,
     ⟨9, 8, .ro, 0x0, none⟩,
     ⟨4, 5, .ro, 0x0, none⟩]⟩]

/-! Block Global -/

-- BOOT_STATUS (Table 3-13)
def R.BOOT_STATUS : Nat := 0x00010000
def R.BOOT_STATUS_PHASE : Fld := ⟨R.BOOT_STATUS, 28, 4⟩
def R.BOOT_STATUS_DIR_COPY : Fld := ⟨R.BOOT_STATUS, 25, 1⟩
def R.BOOT_STATUS_AON_SRC : Fld := ⟨R.BOOT_STATUS, 24, 1⟩
def R.BOOT_STATUS_FALLBACK : Fld := ⟨R.BOOT_STATUS, 6, 6⟩
def R.BOOT_STATUS_SLOT_B : Fld := ⟨R.BOOT_STATUS, 0, 6⟩
-- BOOT_ERROR (Table 3-14)
def R.BOOT_ERROR : Nat := 0x00010004
def R.BOOT_ERROR_COMPONENT : Fld := ⟨R.BOOT_ERROR, 28, 4⟩
def R.BOOT_ERROR_FIRST : Fld := ⟨R.BOOT_ERROR, 16, 8⟩
def R.BOOT_ERROR_SECOND : Fld := ⟨R.BOOT_ERROR, 8, 8⟩
-- STRAPS (Table 3-15)
def R.STRAPS : Nat := 0x00010008
def R.STRAPS_PAIR_ID : Fld := ⟨R.STRAPS, 2, 1⟩
def R.STRAPS_BOOT_MODE : Fld := ⟨R.STRAPS, 0, 2⟩
-- RESET_CTRL (Table 3-16)
def R.RESET_CTRL : Nat := 0x0001000C
def R.RESET_CTRL_KEY : Fld := ⟨R.RESET_CTRL, 0, 32⟩
-- CFG_SEQ_LO
def R.CFG_SEQ_LO : Nat := 0x00010010
def R.CFG_SEQ_LO_SEQ : Fld := ⟨R.CFG_SEQ_LO, 0, 32⟩
-- CFG_SEQ_HI
def R.CFG_SEQ_HI : Nat := 0x00010014
def R.CFG_SEQ_HI_SEQ : Fld := ⟨R.CFG_SEQ_HI, 0, 32⟩
-- CFG_INFO (Table 3-17)
def R.CFG_INFO : Nat := 0x00010018
def R.CFG_INFO_REASON : Fld := ⟨R.CFG_INFO, 24, 8⟩
def R.CFG_INFO_SLOT : Fld := ⟨R.CFG_INFO, 20, 1⟩
def R.CFG_INFO_OFFSET : Fld := ⟨R.CFG_INFO, 0, 20⟩
-- BOOT_TIME (Table 3-18)
def R.BOOT_TIME : Nat := 0x0001001C
def R.BOOT_TIME_COMMIT_MS : Fld := ⟨R.BOOT_TIME, 16, 16⟩
def R.BOOT_TIME_BEACON_MS : Fld := ⟨R.BOOT_TIME, 0, 16⟩
-- AON_FAIL (Table 3-19)
def R.AON_FAIL : Nat := 0x00010020
def R.AON_FAIL_COUNT : Fld := ⟨R.AON_FAIL, 24, 8⟩
def R.AON_FAIL_PHASE : Fld := ⟨R.AON_FAIL, 20, 4⟩
def R.AON_FAIL_CLEAR : Fld := ⟨R.AON_FAIL, 16, 1⟩
def R.AON_FAIL_CODE : Fld := ⟨R.AON_FAIL, 0, 8⟩
-- CFG_COUNTS (Table 3-20)
def R.CFG_COUNTS : Nat := 0x00010028
def R.CFG_COUNTS_SKIPPED : Fld := ⟨R.CFG_COUNTS, 16, 16⟩
def R.CFG_COUNTS_APPLIED : Fld := ⟨R.CFG_COUNTS, 0, 16⟩
-- FLASH_WEAR (Table 3-21)
def R.FLASH_WEAR : Nat := 0x00010040
def R.FLASH_WEAR_MAX_ERASE : Fld := ⟨R.FLASH_WEAR, 16, 16⟩
def R.FLASH_WEAR_REFUSED : Fld := ⟨R.FLASH_WEAR, 8, 8⟩
-- RTW_ADDR (Table 3-22)
def R.RTW_ADDR (q : Nat) : Nat := 0x00010100 + q * 0x10000000
def R.RTW_ADDR_OFFSET (q : Nat) : Fld := ⟨R.RTW_ADDR q, 2, 26⟩
-- RTW_DATA
def R.RTW_DATA (q : Nat) : Nat := 0x00010104 + q * 0x10000000
def R.RTW_DATA_DATA (q : Nat) : Fld := ⟨R.RTW_DATA q, 0, 32⟩
-- RTW_STATUS (Table 3-23)
def R.RTW_STATUS (q : Nat) : Nat := 0x00010108 + q * 0x10000000
def R.RTW_STATUS_RESULT (q : Nat) : Fld := ⟨R.RTW_STATUS q, 0, 3⟩
-- RTW_DENIED (Table 3-24)
def R.RTW_DENIED (q : Nat) : Nat := 0x0001010C + q * 0x10000000
def R.RTW_DENIED_COUNT (q : Nat) : Fld := ⟨R.RTW_DENIED q, 0, 16⟩
-- OSC_CFG (Table 5-13)
def R.OSC_CFG : Nat := 0x00011000
def R.OSC_CFG_MODE : Fld := ⟨R.OSC_CFG, 30, 2⟩
def R.OSC_CFG_SLOPE : Fld := ⟨R.OSC_CFG, 0, 16⟩
-- OSC_PARAM (Table 5-14)
def R.OSC_PARAM : Nat := 0x00011004
def R.OSC_PARAM_TRIM_INT : Fld := ⟨R.OSC_PARAM, 24, 8⟩
def R.OSC_PARAM_SLEW : Fld := ⟨R.OSC_PARAM, 16, 8⟩
def R.OSC_PARAM_BIAS_TAU : Fld := ⟨R.OSC_PARAM, 8, 8⟩
def R.OSC_PARAM_MIN_OBS : Fld := ⟨R.OSC_PARAM, 0, 8⟩
-- OSC_INIT (Table 5-15)
def R.OSC_INIT : Nat := 0x00011008
def R.OSC_INIT_CODE : Fld := ⟨R.OSC_INIT, 0, 16⟩
-- OSC_MAN (Table 5-15)
def R.OSC_MAN : Nat := 0x0001100C
def R.OSC_MAN_CODE : Fld := ⟨R.OSC_MAN, 0, 16⟩
-- OSC_TRIM (Table 5-15)
def R.OSC_TRIM : Nat := 0x00011010
def R.OSC_TRIM_CODE : Fld := ⟨R.OSC_TRIM, 0, 16⟩
-- OSC_EST (Table 5-15)
def R.OSC_EST : Nat := 0x00011014
def R.OSC_EST_ERR : Fld := ⟨R.OSC_EST, 0, 32⟩
-- OSC_STATUS (Table 5-16)
def R.OSC_STATUS : Nat := 0x00011018
def R.OSC_STATUS_KEPT : Fld := ⟨R.OSC_STATUS, 4, 1⟩
def R.OSC_STATUS_RANGE : Fld := ⟨R.OSC_STATUS, 3, 1⟩
def R.OSC_STATUS_TIME_OK : Fld := ⟨R.OSC_STATUS, 2, 1⟩
def R.OSC_STATUS_CROWD_OK : Fld := ⟨R.OSC_STATUS, 1, 1⟩
def R.OSC_STATUS_HOLD : Fld := ⟨R.OSC_STATUS, 0, 1⟩
-- CNT_OSC (Table 5-16)
def R.CNT_OSC : Nat := 0x00011040
def R.CNT_OSC_HOLD : Fld := ⟨R.CNT_OSC, 16, 16⟩
def R.CNT_OSC_STEPS : Fld := ⟨R.CNT_OSC, 0, 16⟩
-- PWR_CFG21 (Table 21-10)
def R.PWR_CFG21 : Nat := 0x00012000
def R.PWR_CFG21_PALE_EN : Fld := ⟨R.PWR_CFG21, 31, 1⟩
def R.PWR_CFG21_CRIT : Fld := ⟨R.PWR_CFG21, 16, 8⟩
def R.PWR_CFG21_WARN : Fld := ⟨R.PWR_CFG21, 8, 8⟩
-- PWR_LEVEL (Table 21-10)
def R.PWR_LEVEL : Nat := 0x00012004
def R.PWR_LEVEL_TARGET : Fld := ⟨R.PWR_LEVEL, 0, 2⟩
-- PWR_SLEEP (Table 21-10)
def R.PWR_SLEEP : Nat := 0x00012008
def R.PWR_SLEEP_PEER : Fld := ⟨R.PWR_SLEEP, 10, 1⟩
def R.PWR_SLEEP_PERST : Fld := ⟨R.PWR_SLEEP, 9, 1⟩
def R.PWR_SLEEP_TMR : Fld := ⟨R.PWR_SLEEP, 8, 1⟩
def R.PWR_SLEEP_POL : Fld := ⟨R.PWR_SLEEP, 4, 4⟩
def R.PWR_SLEEP_GPIO : Fld := ⟨R.PWR_SLEEP, 0, 4⟩
-- PWR_WAKE_TMR (Table 21-10)
def R.PWR_WAKE_TMR : Nat := 0x0001200C
def R.PWR_WAKE_TMR_SECONDS : Fld := ⟨R.PWR_WAKE_TMR, 0, 32⟩
-- PWR_CMD (Table 21-10)
def R.PWR_CMD : Nat := 0x00012010
def R.PWR_CMD_OP : Fld := ⟨R.PWR_CMD, 28, 4⟩
def R.PWR_CMD_KEY : Fld := ⟨R.PWR_CMD, 0, 16⟩
-- PWR_STATUS (Table 21-10)
def R.PWR_STATUS : Nat := 0x00012014
def R.PWR_STATUS_CUR : Fld := ⟨R.PWR_STATUS, 30, 2⟩
def R.PWR_STATUS_CHANGING : Fld := ⟨R.PWR_STATUS, 29, 1⟩
def R.PWR_STATUS_THROTTLED : Fld := ⟨R.PWR_STATUS, 28, 1⟩
def R.PWR_STATUS_RESTORE_FAIL : Fld := ⟨R.PWR_STATUS, 27, 1⟩
def R.PWR_STATUS_CMD_RES : Fld := ⟨R.PWR_STATUS, 24, 3⟩
def R.PWR_STATUS_LAST_STATE : Fld := ⟨R.PWR_STATUS, 22, 2⟩
def R.PWR_STATUS_WAKE_SRC : Fld := ⟨R.PWR_STATUS, 19, 3⟩
-- PWR_TEMP (Table 21-10)
def R.PWR_TEMP : Nat := 0x00012018
def R.PWR_TEMP_MAX : Fld := ⟨R.PWR_TEMP, 16, 16⟩
def R.PWR_TEMP_TJ : Fld := ⟨R.PWR_TEMP, 0, 16⟩
-- PWR_LAST (Table 21-10)
def R.PWR_LAST : Nat := 0x0001201C
def R.PWR_LAST_EXIT_US : Fld := ⟨R.PWR_LAST, 16, 16⟩
def R.PWR_LAST_ASLEEP : Fld := ⟨R.PWR_LAST, 0, 16⟩
-- PWR_CNT (Table 21-11)
def R.PWR_CNT : Nat := 0x00012040
def R.PWR_CNT_PL_CHANGES : Fld := ⟨R.PWR_CNT, 16, 16⟩
def R.PWR_CNT_THROTTLE : Fld := ⟨R.PWR_CNT, 8, 8⟩
def R.PWR_CNT_WAKE_ENTRY : Fld := ⟨R.PWR_CNT, 0, 8⟩

/-- The registers of this block, field by field (access, reset and stated range). -/
def regTableGlobal : List RegDesc := [
  ⟨"BOOT_STATUS", 0x00010000, [], false,
    [⟨28, 4, .ro, 0x1, none⟩,
     ⟨25, 1, .ro, 0x0, none⟩,
     ⟨24, 1, .ro, 0x1, none⟩,
     ⟨6, 6, .ro, 0x0, none⟩,
     ⟨0, 6, .ro, 0x0, none⟩]⟩,
  ⟨"BOOT_ERROR", 0x00010004, [], false,
    [⟨28, 4, .ro, 0xF, none⟩,
     ⟨16, 8, .ro, 0x0, none⟩,
     ⟨8, 8, .ro, 0x0, none⟩]⟩,
  ⟨"STRAPS", 0x00010008, [], false,
    [⟨2, 1, .ro, 0x0, none⟩,
     ⟨0, 2, .ro, 0x0, none⟩]⟩,
  ⟨"RESET_CTRL", 0x0001000C, [], false,
    [⟨0, 32, .wo, 0x0, none⟩]⟩,
  ⟨"CFG_SEQ_LO", 0x00010010, [], false,
    [⟨0, 32, .ro, 0x0, none⟩]⟩,
  ⟨"CFG_SEQ_HI", 0x00010014, [], false,
    [⟨0, 32, .ro, 0x0, none⟩]⟩,
  ⟨"CFG_INFO", 0x00010018, [], false,
    [⟨24, 8, .ro, 0x0, none⟩,
     ⟨20, 1, .ro, 0x0, none⟩,
     ⟨0, 20, .ro, 0x0, none⟩]⟩,
  ⟨"BOOT_TIME", 0x0001001C, [], false,
    [⟨16, 16, .ro, 0xFFFF, none⟩,
     ⟨0, 16, .ro, 0xFFFF, none⟩]⟩,
  ⟨"AON_FAIL", 0x00010020, [], false,
    [⟨24, 8, .ro, 0x0, none⟩,
     ⟨20, 4, .ro, 0x0, none⟩,
     ⟨16, 1, .wo, 0x0, none⟩,
     ⟨0, 8, .ro, 0x0, none⟩]⟩,
  ⟨"CFG_COUNTS", 0x00010028, [], false,
    [⟨16, 16, .ro, 0x0, none⟩,
     ⟨0, 16, .ro, 0x0, none⟩]⟩,
  ⟨"FLASH_WEAR", 0x00010040, [], false,
    [⟨16, 16, .ro, 0x0, none⟩,
     ⟨8, 8, .rc, 0x0, none⟩]⟩,
  ⟨"RTW_ADDR", 0x00010100, [], true,
    [⟨2, 26, .rw, 0x0, none⟩]⟩,
  ⟨"RTW_DATA", 0x00010104, [], true,
    [⟨0, 32, .rw, 0x0, none⟩]⟩,
  ⟨"RTW_STATUS", 0x00010108, [], true,
    [⟨0, 3, .ro, 0x0, none⟩]⟩,
  ⟨"RTW_DENIED", 0x0001010C, [], true,
    [⟨0, 16, .rc, 0x0, none⟩]⟩,
  ⟨"OSC_CFG", 0x00011000, [], false,
    [⟨30, 2, .rwl, 0x0, some (0, 2)⟩,
     ⟨0, 16, .rwl, 0x0, none⟩]⟩,
  ⟨"OSC_PARAM", 0x00011004, [], false,
    [⟨24, 8, .rwl, 0xA, some (1, 60)⟩,
     ⟨16, 8, .rwl, 0x14, some (1, 200)⟩,
     ⟨8, 8, .rwl, 0x6, some (1, 144)⟩,
     ⟨0, 8, .rwl, 0xA, some (1, 255)⟩]⟩,
  ⟨"OSC_INIT", 0x00011008, [], false,
    [⟨0, 16, .rwl, 0x8000, none⟩]⟩,
  ⟨"OSC_MAN", 0x0001100C, [], false,
    [⟨0, 16, .rw, 0x8000, none⟩]⟩,
  ⟨"OSC_TRIM", 0x00011010, [], false,
    [⟨0, 16, .ro, 0x8000, none⟩]⟩,
  ⟨"OSC_EST", 0x00011014, [], false,
    [⟨0, 32, .ro, 0x0, none⟩]⟩,
  ⟨"OSC_STATUS", 0x00011018, [], false,
    [⟨4, 1, .ro, 0x0, none⟩,
     ⟨3, 1, .ro, 0x0, none⟩,
     ⟨2, 1, .ro, 0x0, none⟩,
     ⟨1, 1, .ro, 0x0, none⟩,
     ⟨0, 1, .ro, 0x0, none⟩]⟩,
  ⟨"CNT_OSC", 0x00011040, [], false,
    [⟨16, 16, .rc, 0x0, none⟩,
     ⟨0, 16, .rc, 0x0, none⟩]⟩,
  ⟨"PWR_CFG", 0x00012000, [], false,
    [⟨31, 1, .rwl, 0x1, none⟩,
     ⟨16, 8, .rwl, 0x78, some (100, 124)⟩,
     ⟨8, 8, .rwl, 0x6E, none⟩]⟩,
  ⟨"PWR_LEVEL", 0x00012004, [], false,
    [⟨0, 2, .rw, 0x0, some (0, 2)⟩]⟩,
  ⟨"PWR_SLEEP", 0x00012008, [], false,
    [⟨10, 1, .rw, 0x0, none⟩,
     ⟨9, 1, .rw, 0x0, none⟩,
     ⟨8, 1, .rw, 0x0, none⟩,
     ⟨4, 4, .rw, 0x0, none⟩,
     ⟨0, 4, .rw, 0x0, none⟩]⟩,
  ⟨"PWR_WAKE_TMR", 0x0001200C, [], false,
    [⟨0, 32, .rw, 0xE10, none⟩]⟩,
  ⟨"PWR_CMD", 0x00012010, [], false,
    [⟨28, 4, .wo, 0x0, none⟩,
     ⟨0, 16, .wo, 0x0, none⟩]⟩,
  ⟨"PWR_STATUS", 0x00012014, [], false,
    [⟨30, 2, .ro, 0x0, none⟩,
     ⟨29, 1, .ro, 0x0, none⟩,
     ⟨28, 1, .ro, 0x0, none⟩,
     ⟨27, 1, .ro, 0x0, none⟩,
     ⟨24, 3, .ro, 0x0, none⟩,
     ⟨22, 2, .ro, 0x0, none⟩,
     ⟨19, 3, .ro, 0x0, none⟩]⟩,
  ⟨"PWR_TEMP", 0x00012018, [], false,
    [⟨16, 16, .rc, 0x8000, none⟩,
     ⟨0, 16, .ro, 0x0, none⟩]⟩,
  ⟨"PWR_LAST", 0x0001201C, [], false,
    [⟨16, 16, .ro, 0x0, none⟩,
     ⟨0, 16, .ro, 0x0, none⟩]⟩,
  ⟨"PWR_CNT", 0x00012040, [], false,
    [⟨16, 16, .rc, 0x0, none⟩,
     ⟨8, 8, .rc, 0x0, none⟩,
     ⟨0, 8, .rc, 0x0, none⟩]⟩]

/-! Block EventRing -/

-- EV_STATUS (Table 13-10)
def R.EV_STATUS : Nat := 0x00100000
def R.EV_STATUS_BACKLOG : Fld := ⟨R.EV_STATUS, 0, 9⟩
-- HIF_CNT (Table 13-10)
def R.HIF_CNT : Nat := 0x00100004
def R.HIF_CNT_NARROW_HOST : Fld := ⟨R.HIF_CNT, 16, 16⟩
def R.HIF_CNT_NARROW_APP : Fld := ⟨R.HIF_CNT, 8, 8⟩
def R.HIF_CNT_POISONED : Fld := ⟨R.HIF_CNT, 0, 8⟩
-- EV_ROUTE (Table 13-10)
def R.EV_ROUTE (i : Nat) : Nat := 0x00100010 + i * 0x4
def R.EV_ROUTE_RING (i : Nat) : Fld := ⟨R.EV_ROUTE i, 0, 32⟩
-- EV_MASK (Table 13-10)
def R.EV_MASK (i : Nat) : Nat := 0x00100100 + i * 0x4
def R.EV_MASK_MASK (i : Nat) : Fld := ⟨R.EV_MASK i, 1, 31⟩
-- EV_DROP (Table 13-10)
def R.EV_DROP (i : Nat) : Nat := 0x00100180 + i * 0x4
def R.EV_DROP_COUNT (i : Nat) : Fld := ⟨R.EV_DROP i, 0, 32⟩
-- EVR_CTRL (Table 13-10)
def R.EVR_CTRL (i : Nat) : Nat := 0x00101000 + i * 0x40
def R.EVR_CTRL_EN (i : Nat) : Fld := ⟨R.EVR_CTRL i, 31, 1⟩
def R.EVR_CTRL_LOG2SZ (i : Nat) : Fld := ⟨R.EVR_CTRL i, 24, 5⟩
def R.EVR_CTRL_VECTOR (i : Nat) : Fld := ⟨R.EVR_CTRL i, 16, 6⟩
def R.EVR_CTRL_MOD_US (i : Nat) : Fld := ⟨R.EVR_CTRL i, 0, 10⟩
-- EVR_STAT (Table 13-10)
def R.EVR_STAT (i : Nat) : Nat := 0x00101004 + i * 0x40
def R.EVR_STAT_ACTIVE (i : Nat) : Fld := ⟨R.EVR_STAT i, 31, 1⟩
def R.EVR_STAT_BAD_CONS (i : Nat) : Fld := ⟨R.EVR_STAT i, 30, 1⟩
def R.EVR_STAT_BAD_CFG (i : Nat) : Fld := ⟨R.EVR_STAT i, 29, 1⟩
-- EVR_BASE_LO (Table 13-10)
def R.EVR_BASE_LO (i : Nat) : Nat := 0x00101008 + i * 0x40
def R.EVR_BASE_LO_ADDR (i : Nat) : Fld := ⟨R.EVR_BASE_LO i, 0, 32⟩
-- EVR_BASE_HI (Table 13-10)
def R.EVR_BASE_HI (i : Nat) : Nat := 0x0010100C + i * 0x40
def R.EVR_BASE_HI_ADDR (i : Nat) : Fld := ⟨R.EVR_BASE_HI i, 0, 32⟩
-- EVR_WB_LO (Table 13-10)
def R.EVR_WB_LO (i : Nat) : Nat := 0x00101010 + i * 0x40
def R.EVR_WB_LO_ADDR (i : Nat) : Fld := ⟨R.EVR_WB_LO i, 0, 32⟩
-- EVR_WB_HI (Table 13-10)
def R.EVR_WB_HI (i : Nat) : Nat := 0x00101014 + i * 0x40
def R.EVR_WB_HI_ADDR (i : Nat) : Fld := ⟨R.EVR_WB_HI i, 0, 32⟩
-- EVR_PROD (Table 13-10)
def R.EVR_PROD (i : Nat) : Nat := 0x00101018 + i * 0x40
def R.EVR_PROD_INDEX (i : Nat) : Fld := ⟨R.EVR_PROD i, 0, 32⟩
-- EVR_CONS (Table 13-10)
def R.EVR_CONS (i : Nat) : Nat := 0x0010101C + i * 0x40
def R.EVR_CONS_INDEX (i : Nat) : Fld := ⟨R.EVR_CONS i, 0, 32⟩
-- EVR_DROP (Table 13-10)
def R.EVR_DROP (i : Nat) : Nat := 0x00101020 + i * 0x40
def R.EVR_DROP_COUNT (i : Nat) : Fld := ⟨R.EVR_DROP i, 0, 32⟩

/-- The registers of this block, field by field (access, reset and stated range). -/
def regTableEventRing : List RegDesc := [
  ⟨"EV_STATUS", 0x00100000, [], false,
    [⟨0, 9, .ro, 0x0, none⟩]⟩,
  ⟨"HIF_CNT", 0x00100004, [], false,
    [⟨16, 16, .rc, 0x0, none⟩,
     ⟨8, 8, .rc, 0x0, none⟩,
     ⟨0, 8, .rc, 0x0, none⟩]⟩,
  ⟨"EV_ROUTE", 0x00100010, [(4, 0x4)], false,
    [⟨0, 32, .rw, 0x0, none⟩]⟩,
  ⟨"EV_MASK", 0x00100100, [(32, 0x4)], false,
    [⟨1, 31, .rw, 0x0, none⟩]⟩,
  ⟨"EV_DROP", 0x00100180, [(32, 0x4)], false,
    [⟨0, 32, .rc, 0x0, none⟩]⟩,
  ⟨"EVR_CTRL", 0x00101000, [(16, 0x40)], false,
    [⟨31, 1, .rw, 0x0, none⟩,
     ⟨24, 5, .rw, 0x0, none⟩,
     ⟨16, 6, .rw, 0x0, none⟩,
     ⟨0, 10, .rw, 0x0, none⟩]⟩,
  ⟨"EVR_STAT", 0x00101004, [(16, 0x40)], false,
    [⟨31, 1, .ro, 0x0, none⟩,
     ⟨30, 1, .w1c, 0x0, none⟩,
     ⟨29, 1, .w1c, 0x0, none⟩]⟩,
  ⟨"EVR_BASE_LO", 0x00101008, [(16, 0x40)], false,
    [⟨0, 32, .rw, 0x0, none⟩]⟩,
  ⟨"EVR_BASE_HI", 0x0010100C, [(16, 0x40)], false,
    [⟨0, 32, .rw, 0x0, none⟩]⟩,
  ⟨"EVR_WB_LO", 0x00101010, [(16, 0x40)], false,
    [⟨0, 32, .rw, 0x0, none⟩]⟩,
  ⟨"EVR_WB_HI", 0x00101014, [(16, 0x40)], false,
    [⟨0, 32, .rw, 0x0, none⟩]⟩,
  ⟨"EVR_PROD", 0x00101018, [(16, 0x40)], false,
    [⟨0, 32, .ro, 0x0, none⟩]⟩,
  ⟨"EVR_CONS", 0x0010101C, [(16, 0x40)], false,
    [⟨0, 32, .rw, 0x0, none⟩]⟩,
  ⟨"EVR_DROP", 0x00101020, [(16, 0x40)], false,
    [⟨0, 32, .rc, 0x0, none⟩]⟩]

/-! Block HostQueue -/

-- HQ_RXMAP (Table 13-10)
def R.HQ_RXMAP : Nat := 0x00200000
def R.HQ_RXMAP_MAP : Fld := ⟨R.HQ_RXMAP, 0, 16⟩
-- HQ_CTRL (Table 13-10)
def R.HQ_CTRL (i : Nat) : Nat := 0x00200100 + i * 0x100
def R.HQ_CTRL_EN (i : Nat) : Fld := ⟨R.HQ_CTRL i, 31, 1⟩
def R.HQ_CTRL_LOG2SZ (i : Nat) : Fld := ⟨R.HQ_CTRL i, 24, 5⟩
def R.HQ_CTRL_VECTOR (i : Nat) : Fld := ⟨R.HQ_CTRL i, 16, 6⟩
def R.HQ_CTRL_MOD_US (i : Nat) : Fld := ⟨R.HQ_CTRL i, 0, 10⟩
-- HQ_STAT (Table 13-10)
def R.HQ_STAT (i : Nat) : Nat := 0x00200104 + i * 0x100
def R.HQ_STAT_ACTIVE (i : Nat) : Fld := ⟨R.HQ_STAT i, 31, 1⟩
def R.HQ_STAT_BAD_CONS (i : Nat) : Fld := ⟨R.HQ_STAT i, 30, 1⟩
def R.HQ_STAT_BAD_CFG (i : Nat) : Fld := ⟨R.HQ_STAT i, 29, 1⟩
-- HQ_BASE_LO (Table 13-10)
def R.HQ_BASE_LO (i : Nat) : Nat := 0x00200108 + i * 0x100
def R.HQ_BASE_LO_ADDR (i : Nat) : Fld := ⟨R.HQ_BASE_LO i, 0, 32⟩
-- HQ_BASE_HI (Table 13-10)
def R.HQ_BASE_HI (i : Nat) : Nat := 0x0020010C + i * 0x100
def R.HQ_BASE_HI_ADDR (i : Nat) : Fld := ⟨R.HQ_BASE_HI i, 0, 32⟩
-- HQ_WB_LO (Table 13-10)
def R.HQ_WB_LO (i : Nat) : Nat := 0x00200110 + i * 0x100
def R.HQ_WB_LO_ADDR (i : Nat) : Fld := ⟨R.HQ_WB_LO i, 0, 32⟩
-- HQ_WB_HI (Table 13-10)
def R.HQ_WB_HI (i : Nat) : Nat := 0x00200114 + i * 0x100
def R.HQ_WB_HI_ADDR (i : Nat) : Fld := ⟨R.HQ_WB_HI i, 0, 32⟩
-- HQ_TAIL (Table 13-10)
def R.HQ_TAIL (i : Nat) : Nat := 0x00200118 + i * 0x100
def R.HQ_TAIL_INDEX (i : Nat) : Fld := ⟨R.HQ_TAIL i, 0, 32⟩
-- HQ_HEAD (Table 13-10)
def R.HQ_HEAD (i : Nat) : Nat := 0x0020011C + i * 0x100
def R.HQ_HEAD_INDEX (i : Nat) : Fld := ⟨R.HQ_HEAD i, 0, 32⟩
-- HQ_CNT (Table 13-10)
def R.HQ_CNT (i : Nat) : Nat := 0x00200120 + i * 0x100
def R.HQ_CNT_FRAMES (i : Nat) : Fld := ⟨R.HQ_CNT i, 16, 16⟩
def R.HQ_CNT_DROP (i : Nat) : Fld := ⟨R.HQ_CNT i, 0, 16⟩

/-- The registers of this block, field by field (access, reset and stated range). -/
def regTableHostQueue : List RegDesc := [
  ⟨"HQ_RXMAP", 0x00200000, [], false,
    [⟨0, 16, .rw, 0xFFE4, none⟩]⟩,
  ⟨"HQ_CTRL", 0x00200100, [(8, 0x100)], false,
    [⟨31, 1, .rw, 0x0, none⟩,
     ⟨24, 5, .rw, 0x0, none⟩,
     ⟨16, 6, .rw, 0x0, none⟩,
     ⟨0, 10, .rw, 0x0, none⟩]⟩,
  ⟨"HQ_STAT", 0x00200104, [(8, 0x100)], false,
    [⟨31, 1, .ro, 0x0, none⟩,
     ⟨30, 1, .w1c, 0x0, none⟩,
     ⟨29, 1, .w1c, 0x0, none⟩]⟩,
  ⟨"HQ_BASE_LO", 0x00200108, [(8, 0x100)], false,
    [⟨0, 32, .rw, 0x0, none⟩]⟩,
  ⟨"HQ_BASE_HI", 0x0020010C, [(8, 0x100)], false,
    [⟨0, 32, .rw, 0x0, none⟩]⟩,
  ⟨"HQ_WB_LO", 0x00200110, [(8, 0x100)], false,
    [⟨0, 32, .rw, 0x0, none⟩]⟩,
  ⟨"HQ_WB_HI", 0x00200114, [(8, 0x100)], false,
    [⟨0, 32, .rw, 0x0, none⟩]⟩,
  ⟨"HQ_TAIL", 0x00200118, [(8, 0x100)], false,
    [⟨0, 32, .rw, 0x0, none⟩]⟩,
  ⟨"HQ_HEAD", 0x0020011C, [(8, 0x100)], false,
    [⟨0, 32, .ro, 0x0, none⟩]⟩,
  ⟨"HQ_CNT", 0x00200120, [(8, 0x100)], false,
    [⟨16, 16, .rc, 0x0, none⟩,
     ⟨0, 16, .rc, 0x0, none⟩]⟩]

end Sys2Proof.Machine
end

