-- ==== Sys2Proof/Machine/RegsMac.lean ====
section
/-!
DEFINITION. Register names and tables of BAR0, written from the register tables of the spec:
for each register its BAR0 offset `R.<REGISTER>` and for each field `R.<REGISTER>_<FIELD>`,
under the spec's own names; then one table a block. Arguments `i j k` are the register's indexes
in the order of the offset expression of its table; `q` is the requester of a banked register.
-/

namespace Sys2Proof.Machine

/-! Block Psm -/

-- PSM_CTRL (Table 8-8)
def R.PSM_CTRL : Nat := 0x03000000
def R.PSM_CTRL_EN : Fld := ⟨R.PSM_CTRL, 31, 1⟩
def R.PSM_CTRL_PAN_BASE : Fld := ⟨R.PSM_CTRL, 4, 12⟩
-- PSM_SLOT (Table 8-8)
def R.PSM_SLOT : Nat := 0x03000004
def R.PSM_SLOT_PRE_LEN : Fld := ⟨R.PSM_SLOT, 24, 8⟩
def R.PSM_SLOT_SLOT_LEN : Fld := ⟨R.PSM_SLOT, 16, 7⟩
def R.PSM_SLOT_SF_LEN : Fld := ⟨R.PSM_SLOT, 0, 12⟩
-- PSM_TIMING (Table 8-8)
def R.PSM_TIMING : Nat := 0x03000008
def R.PSM_TIMING_T_POLL : Fld := ⟨R.PSM_TIMING, 16, 16⟩
def R.PSM_TIMING_G_JOIN : Fld := ⟨R.PSM_TIMING, 0, 16⟩
-- PSM_SUP (Table 8-8)
def R.PSM_SUP : Nat := 0x0300000C
def R.PSM_SUP_DL_RETRY : Fld := ⟨R.PSM_SUP, 12, 4⟩
def R.PSM_SUP_SUP_DEF : Fld := ⟨R.PSM_SUP, 0, 8⟩
-- BEACON_CFG (Table 8-9)
def R.BEACON_CFG : Nat := 0x03000010
def R.BEACON_CFG_MODE : Fld := ⟨R.BEACON_CFG, 24, 8⟩
def R.BEACON_CFG_MAP : Fld := ⟨R.BEACON_CFG, 16, 8⟩
def R.BEACON_CFG_PWR_IDX : Fld := ⟨R.BEACON_CFG, 8, 6⟩
-- BEACON_SLOT (Table 8-9)
def R.BEACON_SLOT (i : Nat) : Nat := 0x03000020 + i * 0x4
def R.BEACON_SLOT_EN (i : Nat) : Fld := ⟨R.BEACON_SLOT i, 31, 1⟩
def R.BEACON_SLOT_PATH (i : Nat) : Fld := ⟨R.BEACON_SLOT i, 24, 5⟩
def R.BEACON_SLOT_CH_OFS (i : Nat) : Fld := ⟨R.BEACON_SLOT i, 12, 8⟩
def R.BEACON_SLOT_SLOT (i : Nat) : Fld := ⟨R.BEACON_SLOT i, 0, 12⟩
-- JOIN_SLOT (Table 8-9)
def R.JOIN_SLOT (i : Nat) : Nat := 0x03000030 + i * 0x4
def R.JOIN_SLOT_EN (i : Nat) : Fld := ⟨R.JOIN_SLOT i, 31, 1⟩
def R.JOIN_SLOT_MODE (i : Nat) : Fld := ⟨R.JOIN_SLOT i, 20, 8⟩
def R.JOIN_SLOT_CH_OFS (i : Nat) : Fld := ⟨R.JOIN_SLOT i, 12, 8⟩
def R.JOIN_SLOT_SLOT (i : Nat) : Fld := ⟨R.JOIN_SLOT i, 0, 12⟩
-- ASN_LO (Table 8-10)
def R.ASN_LO : Nat := 0x03000040
def R.ASN_LO_ASN : Fld := ⟨R.ASN_LO, 0, 32⟩
-- ASN_HI (Table 8-10)
def R.ASN_HI : Nat := 0x03000044
def R.ASN_HI_ASN : Fld := ⟨R.ASN_HI, 0, 8⟩
-- ASN_INIT_LO (Table 8-10)
def R.ASN_INIT_LO : Nat := 0x03000048
def R.ASN_INIT_LO_ASN : Fld := ⟨R.ASN_INIT_LO, 0, 32⟩
-- ASN_INIT_HI (Table 8-10)
def R.ASN_INIT_HI : Nat := 0x0300004C
def R.ASN_INIT_HI_ASN : Fld := ⟨R.ASN_INIT_HI, 0, 8⟩
-- PSM_STATUS (Table 8-10)
def R.PSM_STATUS : Nat := 0x03000050
def R.PSM_STATUS_RUN : Fld := ⟨R.PSM_STATUS, 31, 1⟩
def R.PSM_STATUS_SUSPECT : Fld := ⟨R.PSM_STATUS, 0, 20⟩
-- PSM_CNT0 (Table 8-12)
def R.PSM_CNT0 : Nat := 0x03000080
def R.PSM_CNT0_POLL_TX : Fld := ⟨R.PSM_CNT0, 16, 16⟩
def R.PSM_CNT0_POLL_MISS : Fld := ⟨R.PSM_CNT0, 0, 16⟩
-- PSM_CNT1 (Table 8-12)
def R.PSM_CNT1 : Nat := 0x03000084
def R.PSM_CNT1_DUP_RX : Fld := ⟨R.PSM_CNT1, 16, 16⟩
def R.PSM_CNT1_REPLAY_RX : Fld := ⟨R.PSM_CNT1, 0, 16⟩
-- PSM_CNT2 (Table 8-12)
def R.PSM_CNT2 : Nat := 0x03000088
def R.PSM_CNT2_MIC_FAIL : Fld := ⟨R.PSM_CNT2, 16, 16⟩
def R.PSM_CNT2_COPY_RX : Fld := ⟨R.PSM_CNT2, 0, 16⟩
-- PSM_CNT3 (Table 8-12)
def R.PSM_CNT3 : Nat := 0x0300008C
def R.PSM_CNT3_FILT_PAN : Fld := ⟨R.PSM_CNT3, 16, 16⟩
def R.PSM_CNT3_FILT_NODE : Fld := ⟨R.PSM_CNT3, 0, 16⟩
-- PSM_CNT4 (Table 8-12)
def R.PSM_CNT4 : Nat := 0x03000090
def R.PSM_CNT4_DL_RETRY_CNT : Fld := ⟨R.PSM_CNT4, 16, 16⟩
def R.PSM_CNT4_DL_DROP : Fld := ⟨R.PSM_CNT4, 0, 16⟩
-- PSM_CNT5 (Table 8-12)
def R.PSM_CNT5 : Nat := 0x03000094
def R.PSM_CNT5_CTRL_DISCARD : Fld := ⟨R.PSM_CNT5, 16, 16⟩
def R.PSM_CNT5_PEND_EMPTY : Fld := ⟨R.PSM_CNT5, 0, 16⟩
-- PSM_CNT6 (Table 8-12)
def R.PSM_CNT6 : Nat := 0x03000098
def R.PSM_CNT6_BEACON_TX : Fld := ⟨R.PSM_CNT6, 16, 16⟩
def R.PSM_CNT6_NODE_LOST : Fld := ⟨R.PSM_CNT6, 0, 16⟩

/-- The registers of this block, field by field (access, reset and stated range). -/
def regTablePsm : List RegDesc := [
  ⟨"PSM_CTRL", 0x03000000, [], false,
    [⟨31, 1, .rwl, 0x0, none⟩,
     ⟨4, 12, .rwl, 0x0, none⟩]⟩,
  ⟨"PSM_SLOT", 0x03000004, [], false,
    [⟨24, 8, .rwl, 0x8, some (4, 64)⟩,
     ⟨16, 7, .rwl, 0x14, some (5, 80)⟩,
     ⟨0, 12, .rwl, 0x63, none⟩]⟩,
  ⟨"PSM_TIMING", 0x03000008, [], false,
    [⟨16, 16, .rwl, 0x7D0, some (500, 20000)⟩,
     ⟨0, 16, .rwl, 0xFA0, some (100, 20000)⟩]⟩,
  ⟨"PSM_SUP", 0x0300000C, [], false,
    [⟨12, 4, .rwl, 0x4, some (1, 15)⟩,
     ⟨0, 8, .rwl, 0x4F, none⟩]⟩,
  ⟨"BEACON_CFG", 0x03000010, [], false,
    [⟨24, 8, .rwl, 0x0, none⟩,
     ⟨16, 8, .rwl, 0x0, none⟩,
     ⟨8, 6, .rwl, 0x0, none⟩]⟩,
  ⟨"BEACON_SLOT", 0x03000020, [(4, 0x4)], false,
    [⟨31, 1, .rwl, 0x0, none⟩,
     ⟨24, 5, .rwl, 0x0, none⟩,
     ⟨12, 8, .rwl, 0x0, none⟩,
     ⟨0, 12, .rwl, 0x0, none⟩]⟩,
  ⟨"JOIN_SLOT", 0x03000030, [(4, 0x4)], false,
    [⟨31, 1, .rwl, 0x0, none⟩,
     ⟨20, 8, .rwl, 0x0, none⟩,
     ⟨12, 8, .rwl, 0x0, none⟩,
     ⟨0, 12, .rwl, 0x0, none⟩]⟩,
  ⟨"ASN_LO", 0x03000040, [], false,
    [⟨0, 32, .ro, 0x0, none⟩]⟩,
  ⟨"ASN_HI", 0x03000044, [], false,
    [⟨0, 8, .ro, 0x0, none⟩]⟩,
  ⟨"ASN_INIT_LO", 0x03000048, [], false,
    [⟨0, 32, .rwl, 0x0, none⟩]⟩,
  ⟨"ASN_INIT_HI", 0x0300004C, [], false,
    [⟨0, 8, .rwl, 0x0, none⟩]⟩,
  ⟨"PSM_STATUS", 0x03000050, [], false,
    [⟨31, 1, .ro, 0x0, none⟩,
     ⟨0, 20, .ro, 0x0, none⟩]⟩,
  ⟨"PSM_CNT0", 0x03000080, [], false,
    [⟨16, 16, .rc, 0x0, none⟩,
     ⟨0, 16, .rc, 0x0, none⟩]⟩,
  ⟨"PSM_CNT1", 0x03000084, [], false,
    [⟨16, 16, .rc, 0x0, none⟩,
     ⟨0, 16, .rc, 0x0, none⟩]⟩,
  ⟨"PSM_CNT2", 0x03000088, [], false,
    [⟨16, 16, .rc, 0x0, none⟩,
     ⟨0, 16, .rc, 0x0, none⟩]⟩,
  ⟨"PSM_CNT3", 0x0300008C, [], false,
    [⟨16, 16, .rc, 0x0, none⟩,
     ⟨0, 16, .rc, 0x0, none⟩]⟩,
  ⟨"PSM_CNT4", 0x03000090, [], false,
    [⟨16, 16, .rc, 0x0, none⟩,
     ⟨0, 16, .rc, 0x0, none⟩]⟩,
  ⟨"PSM_CNT5", 0x03000094, [], false,
    [⟨16, 16, .rc, 0x0, none⟩,
     ⟨0, 16, .rc, 0x0, none⟩]⟩,
  ⟨"PSM_CNT6", 0x03000098, [], false,
    [⟨16, 16, .rc, 0x0, none⟩,
     ⟨0, 16, .rc, 0x0, none⟩]⟩]

/-! Block Chmap -/

-- CHMAP_HDR (Table 8-11)
def R.CHMAP_HDR (i : Nat) : Nat := 0x03100000 + i * 0x200
def R.CHMAP_HDR_ALT (i : Nat) : Fld := ⟨R.CHMAP_HDR i, 16, 8⟩
def R.CHMAP_HDR_LEN (i : Nat) : Fld := ⟨R.CHMAP_HDR i, 0, 7⟩
-- CHMAP_ENT (Table 8-11)
def R.CHMAP_ENT (i j : Nat) : Nat := 0x03100004 + i * 0x200 + j * 0x4
def R.CHMAP_ENT_FREQ (i j : Nat) : Fld := ⟨R.CHMAP_ENT i j, 0, 22⟩

/-- The registers of this block, field by field (access, reset and stated range). -/
def regTableChmap : List RegDesc := [
  ⟨"CHMAP_HDR", 0x03100000, [(256, 0x200)], false,
    [⟨16, 8, .rwl, 0x0, none⟩,
     ⟨0, 7, .rwl, 0x0, some (0, 64)⟩]⟩,
  ⟨"CHMAP_ENT", 0x03100004, [(256, 0x200), (64, 0x4)], false,
    [⟨0, 22, .rwl, 0x0, none⟩]⟩]

/-! Block Drift -/

-- DRIFT_CFG (Table 9-6)
def R.DRIFT_CFG : Nat := 0x03200000
def R.DRIFT_CFG_EN : Fld := ⟨R.DRIFT_CFG, 31, 1⟩
def R.DRIFT_CFG_LAMBDA_SH : Fld := ⟨R.DRIFT_CFG, 24, 4⟩
def R.DRIFT_CFG_RAW_TOL : Fld := ⟨R.DRIFT_CFG, 16, 8⟩
def R.DRIFT_CFG_E_VALID : Fld := ⟨R.DRIFT_CFG, 8, 8⟩
def R.DRIFT_CFG_S_INIT : Fld := ⟨R.DRIFT_CFG, 0, 8⟩
-- DRIFT_GUARD (Table 9-6)
def R.DRIFT_GUARD : Nat := 0x03200004
def R.DRIFT_GUARD_G_MAX : Fld := ⟨R.DRIFT_GUARD, 16, 16⟩
def R.DRIFT_GUARD_G_MIN : Fld := ⟨R.DRIFT_GUARD, 0, 16⟩
-- DRIFT_RAMP (Table 9-6)
def R.DRIFT_RAMP : Nat := 0x03200008
def R.DRIFT_RAMP_K_DEF : Fld := ⟨R.DRIFT_RAMP, 12, 4⟩
def R.DRIFT_RAMP_R_OBS : Fld := ⟨R.DRIFT_RAMP, 8, 4⟩
def R.DRIFT_RAMP_E_MIN : Fld := ⟨R.DRIFT_RAMP, 0, 8⟩
-- WAKE_REQ (Table 9-6)
def R.WAKE_REQ : Nat := 0x0320000C
def R.WAKE_REQ_OP : Fld := ⟨R.WAKE_REQ, 30, 2⟩
def R.WAKE_REQ_K : Fld := ⟨R.WAKE_REQ, 20, 4⟩
def R.WAKE_REQ_NODE : Fld := ⟨R.WAKE_REQ, 0, 20⟩
-- DRIFT_STATUS (Table 9-6)
def R.DRIFT_STATUS : Nat := 0x03200010
def R.DRIFT_STATUS_REQ_RES : Fld := ⟨R.DRIFT_STATUS, 30, 2⟩
def R.DRIFT_STATUS_CACHE_USED : Fld := ⟨R.DRIFT_STATUS, 0, 17⟩
-- DRIFT_REF (Table 9-6)
def R.DRIFT_REF : Nat := 0x03200014
def R.DRIFT_REF_REF : Fld := ⟨R.DRIFT_REF, 0, 32⟩
-- DRIFT_CNT0 (Table 9-8)
def R.DRIFT_CNT0 : Nat := 0x03200040
def R.DRIFT_CNT0_FITS : Fld := ⟨R.DRIFT_CNT0, 16, 16⟩
def R.DRIFT_CNT0_FIT_DROP : Fld := ⟨R.DRIFT_CNT0, 0, 16⟩
-- DRIFT_CNT1 (Table 9-8)
def R.DRIFT_CNT1 : Nat := 0x03200044
def R.DRIFT_CNT1_K_UP : Fld := ⟨R.DRIFT_CNT1, 16, 16⟩
def R.DRIFT_CNT1_K_DOWN : Fld := ⟨R.DRIFT_CNT1, 0, 16⟩
-- DRIFT_CNT2 (Table 9-8)
def R.DRIFT_CNT2 : Nat := 0x03200048
def R.DRIFT_CNT2_AGREE_TX : Fld := ⟨R.DRIFT_CNT2, 16, 16⟩
def R.DRIFT_CNT2_UNION_SKIP : Fld := ⟨R.DRIFT_CNT2, 0, 16⟩
-- DRIFT_CNT3 (Table 9-8)
def R.DRIFT_CNT3 : Nat := 0x0320004C
def R.DRIFT_CNT3_GUARD_CLAMP : Fld := ⟨R.DRIFT_CNT3, 24, 8⟩
def R.DRIFT_CNT3_INVALID : Fld := ⟨R.DRIFT_CNT3, 12, 12⟩
def R.DRIFT_CNT3_SPLIT : Fld := ⟨R.DRIFT_CNT3, 0, 12⟩
-- TRACK_CFG (Table 9-7)
def R.TRACK_CFG : Nat := 0x03200100
def R.TRACK_CFG_EN : Fld := ⟨R.TRACK_CFG, 31, 1⟩
def R.TRACK_CFG_PATH : Fld := ⟨R.TRACK_CFG, 24, 5⟩
def R.TRACK_CFG_MODE : Fld := ⟨R.TRACK_CFG, 16, 8⟩
def R.TRACK_CFG_SLOT : Fld := ⟨R.TRACK_CFG, 0, 12⟩
-- TRACK_CH (Table 9-7)
def R.TRACK_CH : Nat := 0x03200104
def R.TRACK_CH_MAP : Fld := ⟨R.TRACK_CH, 24, 8⟩
def R.TRACK_CH_CH_OFS : Fld := ⟨R.TRACK_CH, 16, 8⟩
def R.TRACK_CH_D_MARGIN : Fld := ⟨R.TRACK_CH, 0, 8⟩
-- TRACK_WIN (Table 9-7)
def R.TRACK_WIN : Nat := 0x03200108
def R.TRACK_WIN_W_MAX : Fld := ⟨R.TRACK_WIN, 16, 16⟩
def R.TRACK_WIN_W_MIN : Fld := ⟨R.TRACK_WIN, 0, 16⟩
-- TRACK_EUI_LO (Table 9-7)
def R.TRACK_EUI_LO : Nat := 0x0320010C
def R.TRACK_EUI_LO_EUI : Fld := ⟨R.TRACK_EUI_LO, 0, 32⟩
-- TRACK_EUI_HI (Table 9-7)
def R.TRACK_EUI_HI : Nat := 0x03200110
def R.TRACK_EUI_HI_EUI : Fld := ⟨R.TRACK_EUI_HI, 0, 32⟩
-- TRACK_STATUS (Table 9-7)
def R.TRACK_STATUS : Nat := 0x03200114
def R.TRACK_STATUS_STATE : Fld := ⟨R.TRACK_STATUS, 29, 3⟩
def R.TRACK_STATUS_MISSES : Fld := ⟨R.TRACK_STATUS, 0, 8⟩
-- TRACK_DRIFT (Table 9-7)
def R.TRACK_DRIFT : Nat := 0x03200118
def R.TRACK_DRIFT_D : Fld := ⟨R.TRACK_DRIFT, 0, 32⟩
-- TRACK_PHASE (Table 9-7)
def R.TRACK_PHASE : Nat := 0x0320011C
def R.TRACK_PHASE_PHI : Fld := ⟨R.TRACK_PHASE, 0, 32⟩
-- TRACK_CNT0 (Table 9-8)
def R.TRACK_CNT0 : Nat := 0x03200140
def R.TRACK_CNT0_RX : Fld := ⟨R.TRACK_CNT0, 16, 16⟩
def R.TRACK_CNT0_MISS : Fld := ⟨R.TRACK_CNT0, 0, 16⟩
-- TRACK_CNT1 (Table 9-8)
def R.TRACK_CNT1 : Nat := 0x03200144
def R.TRACK_CNT1_ASN_MISMATCH : Fld := ⟨R.TRACK_CNT1, 0, 16⟩

/-- The registers of this block, field by field (access, reset and stated range). -/
def regTableDrift : List RegDesc := [
  ⟨"DRIFT_CFG", 0x03200000, [], false,
    [⟨31, 1, .rwl, 0x1, none⟩,
     ⟨24, 4, .rwl, 0x6, some (3, 12)⟩,
     ⟨16, 8, .rwl, 0x28, some (1, 160)⟩,
     ⟨8, 8, .rwl, 0x40, some (1, 126)⟩,
     ⟨0, 8, .rwl, 0xC, none⟩]⟩,
  ⟨"DRIFT_GUARD", 0x03200004, [], false,
    [⟨16, 16, .rwl, 0x4E20, some (500, 40000)⟩,
     ⟨0, 16, .rwl, 0xC8, some (20, 2000)⟩]⟩,
  ⟨"DRIFT_RAMP", 0x03200008, [], false,
    [⟨12, 4, .rwl, 0x0, none⟩,
     ⟨8, 4, .rwl, 0x2, some (1, 15)⟩,
     ⟨0, 8, .rwl, 0xD, some (1, 255)⟩]⟩,
  ⟨"WAKE_REQ", 0x0320000C, [], false,
    [⟨30, 2, .wo, 0x0, none⟩,
     ⟨20, 4, .wo, 0x0, none⟩,
     ⟨0, 20, .wo, 0x0, none⟩]⟩,
  ⟨"DRIFT_STATUS", 0x03200010, [], false,
    [⟨30, 2, .ro, 0x0, none⟩,
     ⟨0, 17, .ro, 0x0, none⟩]⟩,
  ⟨"DRIFT_REF", 0x03200014, [], false,
    [⟨0, 32, .ro, 0x0, none⟩]⟩,
  ⟨"DRIFT_CNT0", 0x03200040, [], false,
    [⟨16, 16, .rc, 0x0, none⟩,
     ⟨0, 16, .rc, 0x0, none⟩]⟩,
  ⟨"DRIFT_CNT1", 0x03200044, [], false,
    [⟨16, 16, .rc, 0x0, none⟩,
     ⟨0, 16, .rc, 0x0, none⟩]⟩,
  ⟨"DRIFT_CNT2", 0x03200048, [], false,
    [⟨16, 16, .rc, 0x0, none⟩,
     ⟨0, 16, .rc, 0x0, none⟩]⟩,
  ⟨"DRIFT_CNT3", 0x0320004C, [], false,
    [⟨24, 8, .rc, 0x0, none⟩,
     ⟨12, 12, .rc, 0x0, none⟩,
     ⟨0, 12, .rc, 0x0, none⟩]⟩,
  ⟨"TRACK_CFG", 0x03200100, [], false,
    [⟨31, 1, .rwl, 0x0, none⟩,
     ⟨24, 5, .rwl, 0x0, none⟩,
     ⟨16, 8, .rwl, 0x0, none⟩,
     ⟨0, 12, .rwl, 0x0, none⟩]⟩,
  ⟨"TRACK_CH", 0x03200104, [], false,
    [⟨24, 8, .rwl, 0x0, none⟩,
     ⟨16, 8, .rwl, 0x0, none⟩,
     ⟨0, 8, .rwl, 0x8, none⟩]⟩,
  ⟨"TRACK_WIN", 0x03200108, [], false,
    [⟨16, 16, .rwl, 0xED8, none⟩,
     ⟨0, 16, .rwl, 0x64, none⟩]⟩,
  ⟨"TRACK_EUI_LO", 0x0320010C, [], false,
    [⟨0, 32, .rwl, 0x0, none⟩]⟩,
  ⟨"TRACK_EUI_HI", 0x03200110, [], false,
    [⟨0, 32, .rwl, 0x0, none⟩]⟩,
  ⟨"TRACK_STATUS", 0x03200114, [], false,
    [⟨29, 3, .ro, 0x0, none⟩,
     ⟨0, 8, .ro, 0x0, none⟩]⟩,
  ⟨"TRACK_DRIFT", 0x03200118, [], false,
    [⟨0, 32, .ro, 0x0, none⟩]⟩,
  ⟨"TRACK_PHASE", 0x0320011C, [], false,
    [⟨0, 32, .ro, 0x0, none⟩]⟩,
  ⟨"TRACK_CNT0", 0x03200140, [], false,
    [⟨16, 16, .rc, 0x0, none⟩,
     ⟨0, 16, .rc, 0x0, none⟩]⟩,
  ⟨"TRACK_CNT1", 0x03200144, [], false,
    [⟨0, 16, .rc, 0x0, none⟩]⟩]

/-! Block Sched -/

-- SCHED_CFG (Table 11-7)
def R.SCHED_CFG : Nat := 0x03300000
def R.SCHED_CFG_W_DEF : Fld := ⟨R.SCHED_CFG, 24, 8⟩
def R.SCHED_CFG_DL_RES : Fld := ⟨R.SCHED_CFG, 0, 16⟩
-- DRR_Q0 (Table 11-7)
def R.DRR_Q0 : Nat := 0x03300004
def R.DRR_Q0_Q4 : Fld := ⟨R.DRR_Q0, 16, 16⟩
def R.DRR_Q0_Q3 : Fld := ⟨R.DRR_Q0, 0, 16⟩
-- DRR_Q1 (Table 11-7)
def R.DRR_Q1 : Nat := 0x03300008
def R.DRR_Q1_Q6 : Fld := ⟨R.DRR_Q1, 16, 16⟩
def R.DRR_Q1_Q5 : Fld := ⟨R.DRR_Q1, 0, 16⟩
-- DRR_Q2 (Table 11-7)
def R.DRR_Q2 : Nat := 0x0330000C
def R.DRR_Q2_Q7 : Fld := ⟨R.DRR_Q2, 0, 16⟩
-- CRIM_POL (Table 11-7)
def R.CRIM_POL : Nat := 0x03300010
def R.CRIM_POL_EN : Fld := ⟨R.CRIM_POL, 31, 1⟩
def R.CRIM_POL_BURST : Fld := ⟨R.CRIM_POL, 24, 4⟩
def R.CRIM_POL_MAXLEN : Fld := ⟨R.CRIM_POL, 12, 12⟩
def R.CRIM_POL_RATE : Fld := ⟨R.CRIM_POL, 0, 12⟩
-- NODE_POL (Table 11-7)
def R.NODE_POL : Nat := 0x03300014
def R.NODE_POL_EN : Fld := ⟨R.NODE_POL, 31, 1⟩
def R.NODE_POL_BURST : Fld := ⟨R.NODE_POL, 16, 8⟩
def R.NODE_POL_UNIT : Fld := ⟨R.NODE_POL, 8, 8⟩
def R.NODE_POL_RATE : Fld := ⟨R.NODE_POL, 0, 8⟩
-- SAMP_CFG (Table 11-7)
def R.SAMP_CFG : Nat := 0x03300018
def R.SAMP_CFG_N_SH : Fld := ⟨R.SAMP_CFG, 28, 4⟩
def R.SAMP_CFG_U_UP : Fld := ⟨R.SAMP_CFG, 16, 8⟩
def R.SAMP_CFG_U_DEV : Fld := ⟨R.SAMP_CFG, 8, 8⟩
def R.SAMP_CFG_U_AIR : Fld := ⟨R.SAMP_CFG, 0, 8⟩
-- SCHED_STATUS (Table 11-7)
def R.SCHED_STATUS : Nat := 0x03300020
def R.SCHED_STATUS_EPOCH : Fld := ⟨R.SCHED_STATUS, 16, 16⟩
def R.SCHED_STATUS_SOLO_USED : Fld := ⟨R.SCHED_STATUS, 0, 13⟩
-- SCHED_CNT0 (Table 11-8)
def R.SCHED_CNT0 : Nat := 0x03300040
def R.SCHED_CNT0_CRIM_DEMOTE : Fld := ⟨R.SCHED_CNT0, 16, 16⟩
def R.SCHED_CNT0_NODE_DEMOTE : Fld := ⟨R.SCHED_CNT0, 0, 16⟩
-- SCHED_CNT1 (Table 11-8)
def R.SCHED_CNT1 : Nat := 0x03300044
def R.SCHED_CNT1_GROUP_FULL : Fld := ⟨R.SCHED_CNT1, 16, 16⟩
def R.SCHED_CNT1_ACK_YIELD : Fld := ⟨R.SCHED_CNT1, 0, 16⟩
-- SCHED_CNT2 (Table 11-8)
def R.SCHED_CNT2 : Nat := 0x03300048
def R.SCHED_CNT2_SLOT_CONFLICT : Fld := ⟨R.SCHED_CNT2, 16, 16⟩
def R.SCHED_CNT2_RESEAL : Fld := ⟨R.SCHED_CNT2, 0, 16⟩
-- SCHED_CNT3 (Table 11-8)
def R.SCHED_CNT3 : Nat := 0x0330004C
def R.SCHED_CNT3_CRIM_OFFPATH : Fld := ⟨R.SCHED_CNT3, 24, 8⟩
def R.SCHED_CNT3_DL_FULL : Fld := ⟨R.SCHED_CNT3, 12, 12⟩
def R.SCHED_CNT3_CRIM_LATE : Fld := ⟨R.SCHED_CNT3, 0, 12⟩
-- CRIM_A (Table 11-7)
def R.CRIM_A (i : Nat) : Nat := 0x03300100 + i * 0x8
def R.CRIM_A_EN1 (i : Nat) : Fld := ⟨R.CRIM_A i, 31, 1⟩
def R.CRIM_A_SLOT1 (i : Nat) : Fld := ⟨R.CRIM_A i, 16, 12⟩
def R.CRIM_A_EN0 (i : Nat) : Fld := ⟨R.CRIM_A i, 15, 1⟩
def R.CRIM_A_SLOT0 (i : Nat) : Fld := ⟨R.CRIM_A i, 0, 12⟩
-- CRIM_B
def R.CRIM_B (i : Nat) : Nat := 0x03300104 + i * 0x8
def R.CRIM_B_EN3 (i : Nat) : Fld := ⟨R.CRIM_B i, 31, 1⟩
def R.CRIM_B_SLOT3 (i : Nat) : Fld := ⟨R.CRIM_B i, 16, 12⟩
def R.CRIM_B_EN2 (i : Nat) : Fld := ⟨R.CRIM_B i, 15, 1⟩
def R.CRIM_B_SLOT2 (i : Nat) : Fld := ⟨R.CRIM_B i, 0, 12⟩
-- PATH_SCHED (Table 11-7)
def R.PATH_SCHED (i : Nat) : Nat := 0x03300200 + i * 0x4
def R.PATH_SCHED_DRAIN (i : Nat) : Fld := ⟨R.PATH_SCHED i, 31, 1⟩
def R.PATH_SCHED_DRAINED (i : Nat) : Fld := ⟨R.PATH_SCHED i, 30, 1⟩
-- SHP_CFG (Table 11-7)
def R.SHP_CFG (i j : Nat) : Nat := 0x03300400 + i * 0x100 + j * 0x10
def R.SHP_CFG_EN (i j : Nat) : Fld := ⟨R.SHP_CFG i j, 31, 1⟩
-- SHP_RATE (Table 11-7)
def R.SHP_RATE (i j : Nat) : Nat := 0x03300404 + i * 0x100 + j * 0x10
def R.SHP_RATE_IDLE (i j : Nat) : Fld := ⟨R.SHP_RATE i j, 0, 32⟩
-- SHP_CRED (Table 11-7)
def R.SHP_CRED (i j : Nat) : Nat := 0x03300408 + i * 0x100 + j * 0x10
def R.SHP_CRED_HI (i j : Nat) : Fld := ⟨R.SHP_CRED i j, 16, 16⟩
def R.SHP_CRED_LO (i j : Nat) : Fld := ⟨R.SHP_CRED i j, 0, 16⟩
-- SHP_STAT (Table 11-7)
def R.SHP_STAT (i j : Nat) : Nat := 0x0330040C + i * 0x100 + j * 0x10
def R.SHP_STAT_CREDIT (i j : Nat) : Fld := ⟨R.SHP_STAT i j, 0, 32⟩
-- DEPTH (Table 11-7)
def R.DEPTH (i : Nat) : Nat := 0x03300800 + i * 0x4
def R.DEPTH_MAX (i : Nat) : Fld := ⟨R.DEPTH i, 16, 16⟩
def R.DEPTH_LAST (i : Nat) : Fld := ⟨R.DEPTH i, 0, 16⟩
-- DLY_MAX (Table 11-7)
def R.DLY_MAX (i : Nat) : Nat := 0x03300900 + i * 0x4
def R.DLY_MAX_MAX (i : Nat) : Fld := ⟨R.DLY_MAX i, 0, 32⟩
-- DLY_HIST (Table 11-7)
def R.DLY_HIST (i j : Nat) : Nat := 0x03301000 + i * 0x40 + j * 0x4
def R.DLY_HIST_COUNT (i j : Nat) : Fld := ⟨R.DLY_HIST i j, 0, 32⟩

/-- The registers of this block, field by field (access, reset and stated range). -/
def regTableSched : List RegDesc := [
  ⟨"SCHED_CFG", 0x03300000, [], false,
    [⟨24, 8, .rwl, 0x10, some (1, 255)⟩,
     ⟨0, 16, .rwl, 0x400, some (0, 8192)⟩]⟩,
  ⟨"DRR_Q0", 0x03300004, [], false,
    [⟨16, 16, .rwl, 0x800, some (256, 65535)⟩,
     ⟨0, 16, .rwl, 0x1000, some (256, 65535)⟩]⟩,
  ⟨"DRR_Q1", 0x03300008, [], false,
    [⟨16, 16, .rwl, 0x400, some (256, 65535)⟩,
     ⟨0, 16, .rwl, 0x800, some (256, 65535)⟩]⟩,
  ⟨"DRR_Q2", 0x0330000C, [], false,
    [⟨0, 16, .rwl, 0x400, some (256, 65535)⟩]⟩,
  ⟨"CRIM_POL", 0x03300010, [], false,
    [⟨31, 1, .rwl, 0x0, none⟩,
     ⟨24, 4, .rwl, 0x8, some (1, 15)⟩,
     ⟨12, 12, .rwl, 0x200, some (64, 2047)⟩,
     ⟨0, 12, .rwl, 0x3E8, some (1, 2000)⟩]⟩,
  ⟨"NODE_POL", 0x03300014, [], false,
    [⟨31, 1, .rwl, 0x0, none⟩,
     ⟨16, 8, .rwl, 0x40, some (1, 255)⟩,
     ⟨8, 8, .rwl, 0x20, some (1, 255)⟩,
     ⟨0, 8, .rwl, 0x1, none⟩]⟩,
  ⟨"SAMP_CFG", 0x03300018, [], false,
    [⟨28, 4, .rwl, 0x6, none⟩,
     ⟨16, 8, .rwl, 0xA, some (0, 40)⟩,
     ⟨8, 8, .rwl, 0xA, some (0, 40)⟩,
     ⟨0, 8, .rwl, 0x14, some (0, 40)⟩]⟩,
  ⟨"SCHED_STATUS", 0x03300020, [], false,
    [⟨16, 16, .ro, 0x0, none⟩,
     ⟨0, 13, .ro, 0x0, none⟩]⟩,
  ⟨"SCHED_CNT0", 0x03300040, [], false,
    [⟨16, 16, .rc, 0x0, none⟩,
     ⟨0, 16, .rc, 0x0, none⟩]⟩,
  ⟨"SCHED_CNT1", 0x03300044, [], false,
    [⟨16, 16, .rc, 0x0, none⟩,
     ⟨0, 16, .rc, 0x0, none⟩]⟩,
  ⟨"SCHED_CNT2", 0x03300048, [], false,
    [⟨16, 16, .rc, 0x0, none⟩,
     ⟨0, 16, .rc, 0x0, none⟩]⟩,
  ⟨"SCHED_CNT3", 0x0330004C, [], false,
    [⟨24, 8, .rc, 0x0, none⟩,
     ⟨12, 12, .rc, 0x0, none⟩,
     ⟨0, 12, .rc, 0x0, none⟩]⟩,
  ⟨"CRIM_A", 0x03300100, [(32, 0x8)], false,
    [⟨31, 1, .rwl, 0x0, none⟩,
     ⟨16, 12, .rwl, 0x0, none⟩,
     ⟨15, 1, .rwl, 0x0, none⟩,
     ⟨0, 12, .rwl, 0x0, none⟩]⟩,
  ⟨"CRIM_B", 0x03300104, [(32, 0x8)], false,
    [⟨31, 1, .rwl, 0x0, none⟩,
     ⟨16, 12, .rwl, 0x0, none⟩,
     ⟨15, 1, .rwl, 0x0, none⟩,
     ⟨0, 12, .rwl, 0x0, none⟩]⟩,
  ⟨"PATH_SCHED", 0x03300200, [(32, 0x4)], false,
    [⟨31, 1, .rw, 0x0, none⟩,
     ⟨30, 1, .ro, 0x0, none⟩]⟩,
  ⟨"SHP_CFG", 0x03300400, [(2, 0x100), (8, 0x10)], false,
    [⟨31, 1, .rwl, 0x0, none⟩]⟩,
  ⟨"SHP_RATE", 0x03300404, [(2, 0x100), (8, 0x10)], false,
    [⟨0, 32, .rwl, 0x0, none⟩]⟩,
  ⟨"SHP_CRED", 0x03300408, [(2, 0x100), (8, 0x10)], false,
    [⟨16, 16, .rwl, 0x0, none⟩,
     ⟨0, 16, .rwl, 0x0, none⟩]⟩,
  ⟨"SHP_STAT", 0x0330040C, [(2, 0x100), (8, 0x10)], false,
    [⟨0, 32, .ro, 0x0, none⟩]⟩,
  ⟨"DEPTH", 0x03300800, [(32, 0x4)], false,
    [⟨16, 16, .rc, 0x0, none⟩,
     ⟨0, 16, .ro, 0x0, none⟩]⟩,
  ⟨"DLY_MAX", 0x03300900, [(24, 0x4)], false,
    [⟨0, 32, .rc, 0x0, none⟩]⟩,
  ⟨"DLY_HIST", 0x03301000, [(24, 0x40), (16, 0x4)], false,
    [⟨0, 32, .rc, 0x0, none⟩]⟩]

/-! Block Queue -/

-- Q_STAT (Table 12-4)
def R.Q_STAT (i : Nat) : Nat := 0x03400000 + i * 0x40
def R.Q_STAT_RESETTING (i : Nat) : Fld := ⟨R.Q_STAT i, 31, 1⟩
def R.Q_STAT_UNDERRUN (i : Nat) : Fld := ⟨R.Q_STAT i, 30, 1⟩
def R.Q_STAT_TAGS (i : Nat) : Fld := ⟨R.Q_STAT i, 26, 4⟩
def R.Q_STAT_ITEMS (i : Nat) : Fld := ⟨R.Q_STAT i, 0, 11⟩
-- Q_LEVEL (Table 12-4)
def R.Q_LEVEL (i : Nat) : Nat := 0x03400004 + i * 0x40
def R.Q_LEVEL_MAX (i : Nat) : Fld := ⟨R.Q_LEVEL i, 16, 11⟩
def R.Q_LEVEL_WORDS (i : Nat) : Fld := ⟨R.Q_LEVEL i, 0, 11⟩
-- Q_ITEMS (Table 12-4)
def R.Q_ITEMS (i j : Nat) : Nat := 0x03400008 + i * 0x40 + j * 0x4
def R.Q_ITEMS_ODD (i j : Nat) : Fld := ⟨R.Q_ITEMS i j, 16, 16⟩
def R.Q_ITEMS_EVEN (i j : Nat) : Fld := ⟨R.Q_ITEMS i j, 0, 16⟩
-- Q_CNT (Table 12-5)
def R.Q_CNT (i : Nat) : Nat := 0x03400018 + i * 0x40
def R.Q_CNT_FAULTS (i : Nat) : Fld := ⟨R.Q_CNT i, 24, 8⟩
def R.Q_CNT_UNDERRUN (i : Nat) : Fld := ⟨R.Q_CNT i, 16, 8⟩
def R.Q_CNT_LOST (i : Nat) : Fld := ⟨R.Q_CNT i, 0, 16⟩
-- Q_TEST (Table 12-4)
def R.Q_TEST (i : Nat) : Nat := 0x0340001C + i * 0x40
def R.Q_TEST_FORCE (i : Nat) : Fld := ⟨R.Q_TEST i, 0, 1⟩

/-- The registers of this block, field by field (access, reset and stated range). -/
def regTableQueue : List RegDesc := [
  ⟨"Q_STAT", 0x03400000, [(32, 0x40)], false,
    [⟨31, 1, .ro, 0x0, none⟩,
     ⟨30, 1, .w1c, 0x0, none⟩,
     ⟨26, 4, .ro, 0x0, none⟩,
     ⟨0, 11, .ro, 0x0, none⟩]⟩,
  ⟨"Q_LEVEL", 0x03400004, [(32, 0x40)], false,
    [⟨16, 11, .rc, 0x0, none⟩,
     ⟨0, 11, .ro, 0x0, none⟩]⟩,
  ⟨"Q_ITEMS", 0x03400008, [(32, 0x40), (4, 0x4)], false,
    [⟨16, 16, .ro, 0x0, none⟩,
     ⟨0, 16, .ro, 0x0, none⟩]⟩,
  ⟨"Q_CNT", 0x03400018, [(32, 0x40)], false,
    [⟨24, 8, .rc, 0x0, none⟩,
     ⟨16, 8, .rc, 0x0, none⟩,
     ⟨0, 16, .rc, 0x0, none⟩]⟩,
  ⟨"Q_TEST", 0x0340001C, [(32, 0x40)], false,
    [⟨0, 1, .wo, 0x0, none⟩]⟩]

/-! Block Imap -/

-- IMAP_CFG (Table 7-11)
def R.IMAP_CFG : Nat := 0x03F00000
def R.IMAP_CFG_EN : Fld := ⟨R.IMAP_CFG, 31, 1⟩
def R.IMAP_CFG_MIN_UP : Fld := ⟨R.IMAP_CFG, 16, 6⟩
def R.IMAP_CFG_HYST : Fld := ⟨R.IMAP_CFG, 8, 8⟩
def R.IMAP_CFG_MAP_TRIES : Fld := ⟨R.IMAP_CFG, 4, 4⟩
def R.IMAP_CFG_MAP_WIN : Fld := ⟨R.IMAP_CFG, 0, 4⟩
-- IMAP_THR (Table 7-12)
def R.IMAP_THR : Nat := 0x03F00004
def R.IMAP_THR_T6 : Fld := ⟨R.IMAP_THR, 24, 8⟩
def R.IMAP_THR_T4 : Fld := ⟨R.IMAP_THR, 16, 8⟩
def R.IMAP_THR_T2 : Fld := ⟨R.IMAP_THR, 8, 8⟩
def R.IMAP_THR_T1 : Fld := ⟨R.IMAP_THR, 0, 8⟩
-- IMAP_ROFS (Table 7-12)
def R.IMAP_ROFS : Nat := 0x03F00008
def R.IMAP_ROFS_O56 : Fld := ⟨R.IMAP_ROFS, 16, 8⟩
def R.IMAP_ROFS_O34 : Fld := ⟨R.IMAP_ROFS, 8, 8⟩
def R.IMAP_ROFS_O23 : Fld := ⟨R.IMAP_ROFS, 0, 8⟩
-- IMAP_HOLD (Table 7-12)
def R.IMAP_HOLD : Nat := 0x03F0000C
def R.IMAP_HOLD_HOLD : Fld := ⟨R.IMAP_HOLD, 0, 16⟩
-- IMAP_STATUS (Table 7-13)
def R.IMAP_STATUS : Nat := 0x03F00010
def R.IMAP_STATUS_REQ_RES : Fld := ⟨R.IMAP_STATUS, 24, 2⟩
def R.IMAP_STATUS_MSN : Fld := ⟨R.IMAP_STATUS, 16, 8⟩
def R.IMAP_STATUS_FULL : Fld := ⟨R.IMAP_STATUS, 15, 1⟩
def R.IMAP_STATUS_USED : Fld := ⟨R.IMAP_STATUS, 0, 14⟩
-- IMAP_REQ (Table 7-13)
def R.IMAP_REQ : Nat := 0x03F00014
def R.IMAP_REQ_OP : Fld := ⟨R.IMAP_REQ, 22, 2⟩
def R.IMAP_REQ_RATE : Fld := ⟨R.IMAP_REQ, 20, 2⟩
def R.IMAP_REQ_NODE : Fld := ⟨R.IMAP_REQ, 0, 20⟩
-- IMAP_CNT0 (Table 7-14)
def R.IMAP_CNT0 : Nat := 0x03F00040
def R.IMAP_CNT0_ISSUED : Fld := ⟨R.IMAP_CNT0, 16, 16⟩
def R.IMAP_CNT0_CONFIRMED : Fld := ⟨R.IMAP_CNT0, 0, 16⟩
-- IMAP_CNT1 (Table 7-14)
def R.IMAP_CNT1 : Nat := 0x03F00044
def R.IMAP_CNT1_ABANDONED : Fld := ⟨R.IMAP_CNT1, 16, 16⟩
def R.IMAP_CNT1_STALE : Fld := ⟨R.IMAP_CNT1, 0, 16⟩
-- IMAP_CNT2 (Table 7-14)
def R.IMAP_CNT2 : Nat := 0x03F00048
def R.IMAP_CNT2_FULL_DROP : Fld := ⟨R.IMAP_CNT2, 24, 8⟩
def R.IMAP_CNT2_DEMOTE : Fld := ⟨R.IMAP_CNT2, 16, 8⟩
def R.IMAP_CNT2_MREQ : Fld := ⟨R.IMAP_CNT2, 0, 16⟩

/-- The registers of this block, field by field (access, reset and stated range). -/
def regTableImap : List RegDesc := [
  ⟨"IMAP_CFG", 0x03F00000, [], false,
    [⟨31, 1, .rwl, 0x1, none⟩,
     ⟨16, 6, .rwl, 0x4, some (1, 40)⟩,
     ⟨8, 8, .rwl, 0x4, none⟩,
     ⟨4, 4, .rwl, 0x4, some (1, 15)⟩,
     ⟨0, 4, .rwl, 0x4, some (1, 15)⟩]⟩,
  ⟨"IMAP_THR", 0x03F00004, [], false,
    [⟨24, 8, .rwl, 0x24, none⟩,
     ⟨16, 8, .rwl, 0x18, none⟩,
     ⟨8, 8, .rwl, 0xC, none⟩,
     ⟨0, 8, .rwl, 0x6, none⟩]⟩,
  ⟨"IMAP_ROFS", 0x03F00008, [], false,
    [⟨16, 8, .rwl, 0x8, none⟩,
     ⟨8, 8, .rwl, 0x6, none⟩,
     ⟨0, 8, .rwl, 0x4, none⟩]⟩,
  ⟨"IMAP_HOLD", 0x03F0000C, [], false,
    [⟨0, 16, .rwl, 0x12C, none⟩]⟩,
  ⟨"IMAP_STATUS", 0x03F00010, [], false,
    [⟨24, 2, .ro, 0x0, none⟩,
     ⟨16, 8, .ro, 0x0, none⟩,
     ⟨15, 1, .ro, 0x0, none⟩,
     ⟨0, 14, .ro, 0x0, none⟩]⟩,
  ⟨"IMAP_REQ", 0x03F00014, [], false,
    [⟨22, 2, .wo, 0x0, none⟩,
     ⟨20, 2, .wo, 0x0, none⟩,
     ⟨0, 20, .wo, 0x0, none⟩]⟩,
  ⟨"IMAP_CNT0", 0x03F00040, [], false,
    [⟨16, 16, .rc, 0x0, none⟩,
     ⟨0, 16, .rc, 0x0, none⟩]⟩,
  ⟨"IMAP_CNT1", 0x03F00044, [], false,
    [⟨16, 16, .rc, 0x0, none⟩,
     ⟨0, 16, .rc, 0x0, none⟩]⟩,
  ⟨"IMAP_CNT2", 0x03F00048, [], false,
    [⟨24, 8, .rc, 0x0, none⟩,
     ⟨16, 8, .rc, 0x0, none⟩,
     ⟨0, 16, .rc, 0x0, none⟩]⟩]

end Sys2Proof.Machine
end

