-- ==== Sys2Proof/Machine/RegsNode.lean ====
section
/-!
DEFINITION. Register names and tables of BAR0, written from the register tables of the spec:
for each register its BAR0 offset `R.<REGISTER>` and for each field `R.<REGISTER>_<FIELD>`,
under the spec's own names; then one table a block. Arguments `i j k` are the register's indexes
in the order of the offset expression of its table; `q` is the requester of a banked register.
-/

namespace Sys2Proof.Machine

/-! Block Fwd -/

-- FWD_CFG (Table 10-10)
def R.FWD_CFG : Nat := 0x04000000
def R.FWD_CFG_NODE_AGE : Fld := ⟨R.FWD_CFG, 16, 16⟩
def R.FWD_CFG_HB_TICK : Fld := ⟨R.FWD_CFG, 8, 8⟩
def R.FWD_CFG_HB_AGE : Fld := ⟨R.FWD_CFG, 4, 4⟩
def R.FWD_CFG_HB_HYST : Fld := ⟨R.FWD_CFG, 0, 4⟩
-- FWD_STATUS (Table 10-10)
def R.FWD_STATUS : Nat := 0x04000004
def R.FWD_STATUS_NODE_MIN : Fld := ⟨R.FWD_STATUS, 16, 16⟩
def R.FWD_STATUS_HB_NOW : Fld := ⟨R.FWD_STATUS, 5, 3⟩
def R.FWD_STATUS_REBUILD : Fld := ⟨R.FWD_STATUS, 4, 1⟩
def R.FWD_STATUS_CLEARING : Fld := ⟨R.FWD_STATUS, 3, 1⟩
-- EHT_SEED (Table 10-10)
def R.EHT_SEED : Nat := 0x04000008
def R.EHT_SEED_SEED : Fld := ⟨R.EHT_SEED, 0, 32⟩
-- EHT_OVF (Table 10-10)
def R.EHT_OVF : Nat := 0x0400000C
def R.EHT_OVF_USED : Fld := ⟨R.EHT_OVF, 0, 14⟩
-- NCS_CMD (Table 10-11)
def R.NCS_CMD (q : Nat) : Nat := 0x04000010 + q * 0x10000000
def R.NCS_CMD_OP (q : Nat) : Fld := ⟨R.NCS_CMD q, 28, 4⟩
def R.NCS_CMD_INDEX (q : Nat) : Fld := ⟨R.NCS_CMD q, 0, 20⟩
-- NCS_STAT (Table 10-11)
def R.NCS_STAT (q : Nat) : Nat := 0x04000014 + q * 0x10000000
def R.NCS_STAT_BUSY (q : Nat) : Fld := ⟨R.NCS_STAT q, 31, 1⟩
def R.NCS_STAT_RESULT (q : Nat) : Fld := ⟨R.NCS_STAT q, 28, 3⟩
-- NCS_MASK_LO (Table 10-11)
def R.NCS_MASK_LO (q : Nat) : Nat := 0x04000018 + q * 0x10000000
def R.NCS_MASK_LO_MASK (q : Nat) : Fld := ⟨R.NCS_MASK_LO q, 0, 32⟩
-- NCS_MASK_HI (Table 10-11)
def R.NCS_MASK_HI (q : Nat) : Nat := 0x0400001C + q * 0x10000000
def R.NCS_MASK_HI_MASK (q : Nat) : Fld := ⟨R.NCS_MASK_HI q, 0, 32⟩
-- NCS_DATA (Table 10-11)
def R.NCS_DATA (i : Nat) (q : Nat) : Nat := 0x04000020 + i * 0x4 + q * 0x10000000
def R.NCS_DATA_DATA (i : Nat) (q : Nat) : Fld := ⟨R.NCS_DATA i q, 0, 32⟩
-- EHT_CMD (Table 10-11)
def R.EHT_CMD (q : Nat) : Nat := 0x04000080 + q * 0x10000000
def R.EHT_CMD_OP (q : Nat) : Fld := ⟨R.EHT_CMD q, 28, 4⟩
def R.EHT_CMD_INDEX (q : Nat) : Fld := ⟨R.EHT_CMD q, 0, 20⟩
-- EHT_STAT (Table 10-11)
def R.EHT_STAT (q : Nat) : Nat := 0x04000084 + q * 0x10000000
def R.EHT_STAT_BUSY (q : Nat) : Fld := ⟨R.EHT_STAT q, 31, 1⟩
def R.EHT_STAT_RESULT (q : Nat) : Fld := ⟨R.EHT_STAT q, 28, 3⟩
def R.EHT_STAT_INDEX (q : Nat) : Fld := ⟨R.EHT_STAT q, 0, 20⟩
-- EHT_EUI_LO (Table 10-11)
def R.EHT_EUI_LO (q : Nat) : Nat := 0x04000088 + q * 0x10000000
def R.EHT_EUI_LO_EUI (q : Nat) : Fld := ⟨R.EHT_EUI_LO q, 0, 32⟩
-- EHT_EUI_HI (Table 10-11)
def R.EHT_EUI_HI (q : Nat) : Nat := 0x0400008C + q * 0x10000000
def R.EHT_EUI_HI_EUI (q : Nat) : Fld := ⟨R.EHT_EUI_HI q, 0, 32⟩
-- HB_CMD (Table 10-11)
def R.HB_CMD (q : Nat) : Nat := 0x040000A0 + q * 0x10000000
def R.HB_CMD_OP (q : Nat) : Fld := ⟨R.HB_CMD q, 28, 4⟩
def R.HB_CMD_CL (q : Nat) : Fld := ⟨R.HB_CMD q, 20, 2⟩
def R.HB_CMD_INDEX (q : Nat) : Fld := ⟨R.HB_CMD q, 0, 20⟩
-- HB_STAT (Table 10-11)
def R.HB_STAT (q : Nat) : Nat := 0x040000A4 + q * 0x10000000
def R.HB_STAT_BUSY (q : Nat) : Fld := ⟨R.HB_STAT q, 31, 1⟩
def R.HB_STAT_RESULT (q : Nat) : Fld := ⟨R.HB_STAT q, 28, 3⟩
def R.HB_STAT_ENTRY (q : Nat) : Fld := ⟨R.HB_STAT q, 0, 16⟩
-- INFRA_CTRL (Table 10-10)
def R.INFRA_CTRL : Nat := 0x040000C0
def R.INFRA_CTRL_EN : Fld := ⟨R.INFRA_CTRL, 31, 1⟩
def R.INFRA_CTRL_PERIOD : Fld := ⟨R.INFRA_CTRL, 0, 12⟩
-- INFRA_STAT (Table 10-10)
def R.INFRA_STAT : Nat := 0x040000C4
def R.INFRA_STAT_MISMATCH : Fld := ⟨R.INFRA_STAT, 31, 1⟩
def R.INFRA_STAT_LAST_BAD : Fld := ⟨R.INFRA_STAT, 0, 14⟩
-- SNAP_CTRL (Table 10-12)
def R.SNAP_CTRL : Nat := 0x04000100
def R.SNAP_CTRL_OP : Fld := ⟨R.SNAP_CTRL, 28, 4⟩
def R.SNAP_CTRL_RESUME : Fld := ⟨R.SNAP_CTRL, 27, 1⟩
-- SNAP_STAT (Table 10-12)
def R.SNAP_STAT : Nat := 0x04000104
def R.SNAP_STAT_STATE : Fld := ⟨R.SNAP_STAT, 30, 2⟩
def R.SNAP_STAT_RESULT : Fld := ⟨R.SNAP_STAT, 27, 3⟩
def R.SNAP_STAT_COW_PEAK : Fld := ⟨R.SNAP_STAT, 18, 9⟩
def R.SNAP_STAT_TILES : Fld := ⟨R.SNAP_STAT, 0, 15⟩
-- SNAP_ADDR_LO (Table 10-12)
def R.SNAP_ADDR_LO : Nat := 0x04000108
def R.SNAP_ADDR_LO_ADDR : Fld := ⟨R.SNAP_ADDR_LO, 0, 32⟩
-- SNAP_ADDR_HI (Table 10-12)
def R.SNAP_ADDR_HI : Nat := 0x0400010C
def R.SNAP_ADDR_HI_ADDR : Fld := ⟨R.SNAP_ADDR_HI, 0, 32⟩
-- SNAP_SKIP (Table 10-12)
def R.SNAP_SKIP : Nat := 0x04000110
def R.SNAP_SKIP_SKIP : Fld := ⟨R.SNAP_SKIP, 0, 32⟩
-- FWD_CNT0 (Table 10-14)
def R.FWD_CNT0 : Nat := 0x04000140
def R.FWD_CNT0_ROUTE_FAIL : Fld := ⟨R.FWD_CNT0, 16, 16⟩
def R.FWD_CNT0_NOPATH : Fld := ⟨R.FWD_CNT0, 0, 16⟩
-- FWD_CNT1 (Table 10-14)
def R.FWD_CNT1 : Nat := 0x04000144
def R.FWD_CNT1_EHT_PAR : Fld := ⟨R.FWD_CNT1, 24, 8⟩
def R.FWD_CNT1_EHT_FULL : Fld := ⟨R.FWD_CNT1, 16, 8⟩
def R.FWD_CNT1_HB_PAR : Fld := ⟨R.FWD_CNT1, 0, 16⟩
-- FWD_CNT2 (Table 10-14)
def R.FWD_CNT2 : Nat := 0x04000148
def R.FWD_CNT2_HB_MOVE : Fld := ⟨R.FWD_CNT2, 16, 16⟩
def R.FWD_CNT2_AGED : Fld := ⟨R.FWD_CNT2, 0, 16⟩
-- FWD_CNT3 (Table 10-14)
def R.FWD_CNT3 : Nat := 0x0400014C
def R.FWD_CNT3_INFRA_MISMATCH : Fld := ⟨R.FWD_CNT3, 24, 8⟩
def R.FWD_CNT3_DERIVED_FIX : Fld := ⟨R.FWD_CNT3, 16, 8⟩
def R.FWD_CNT3_INFRA_REJ : Fld := ⟨R.FWD_CNT3, 8, 8⟩
def R.FWD_CNT3_BAR2_POISON : Fld := ⟨R.FWD_CNT3, 0, 8⟩
-- MCAST_CFG (Table 10-13)
def R.MCAST_CFG (i : Nat) : Nat := 0x04001000 + i * 0x10
def R.MCAST_CFG_EN (i : Nat) : Fld := ⟨R.MCAST_CFG i, 31, 1⟩
def R.MCAST_CFG_REPEAT (i : Nat) : Fld := ⟨R.MCAST_CFG i, 28, 3⟩
def R.MCAST_CFG_DISTRICT (i : Nat) : Fld := ⟨R.MCAST_CFG i, 0, 12⟩
-- MCAST_SLOT (Table 10-13)
def R.MCAST_SLOT (i : Nat) : Nat := 0x04001004 + i * 0x10
def R.MCAST_SLOT_MODE (i : Nat) : Fld := ⟨R.MCAST_SLOT i, 20, 8⟩
def R.MCAST_SLOT_CH_OFS (i : Nat) : Fld := ⟨R.MCAST_SLOT i, 12, 8⟩
def R.MCAST_SLOT_SLOT (i : Nat) : Fld := ⟨R.MCAST_SLOT i, 0, 12⟩
-- MCAST_PATHS (Table 10-13)
def R.MCAST_PATHS (i : Nat) : Nat := 0x04001008 + i * 0x10
def R.MCAST_PATHS_PATHS (i : Nat) : Fld := ⟨R.MCAST_PATHS i, 0, 32⟩
-- MCAST_STAT (Table 10-13)
def R.MCAST_STAT (i : Nat) : Nat := 0x0400100C + i * 0x10
def R.MCAST_STAT_QUEUED (i : Nat) : Fld := ⟨R.MCAST_STAT i, 16, 16⟩
def R.MCAST_STAT_SENT (i : Nat) : Fld := ⟨R.MCAST_STAT i, 0, 16⟩
-- INFRA_ENT (Table 10-6)
def R.INFRA_ENT (i : Nat) : Nat := 0x04010000 + i * 0x4
def R.INFRA_ENT_PARITY (i : Nat) : Fld := ⟨R.INFRA_ENT i, 31, 1⟩
def R.INFRA_ENT_PIN_ANT (i : Nat) : Fld := ⟨R.INFRA_ENT i, 29, 1⟩
def R.INFRA_ENT_PIN_PATH (i : Nat) : Fld := ⟨R.INFRA_ENT i, 24, 5⟩
def R.INFRA_ENT_PIN (i : Nat) : Fld := ⟨R.INFRA_ENT i, 23, 1⟩
def R.INFRA_ENT_ROUTER (i : Nat) : Fld := ⟨R.INFRA_ENT i, 22, 1⟩
def R.INFRA_ENT_VALID (i : Nat) : Fld := ⟨R.INFRA_ENT i, 21, 1⟩
def R.INFRA_ENT_INDEX (i : Nat) : Fld := ⟨R.INFRA_ENT i, 0, 20⟩

/-- The registers of this block, field by field (access, reset and stated range). -/
def regTableFwd : List RegDesc := [
  ⟨"FWD_CFG", 0x04000000, [], false,
    [⟨16, 16, .rwl, 0x2760, some (60, 61440)⟩,
     ⟨8, 8, .rwl, 0x5, some (1, 255)⟩,
     ⟨4, 4, .rwl, 0x6, some (1, 6)⟩,
     ⟨0, 4, .rwl, 0x1, none⟩]⟩,
  ⟨"FWD_STATUS", 0x04000004, [], false,
    [⟨16, 16, .ro, 0x0, none⟩,
     ⟨5, 3, .ro, 0x0, none⟩,
     ⟨4, 1, .ro, 0x0, none⟩,
     ⟨3, 1, .ro, 0x0, none⟩]⟩,
  ⟨"EHT_SEED", 0x04000008, [], false,
    [⟨0, 32, .ro, 0x0, none⟩]⟩,
  ⟨"EHT_OVF", 0x0400000C, [], false,
    [⟨0, 14, .ro, 0x0, none⟩]⟩,
  ⟨"NCS_CMD", 0x04000010, [], true,
    [⟨28, 4, .wo, 0x0, none⟩,
     ⟨0, 20, .wo, 0x0, none⟩]⟩,
  ⟨"NCS_STAT", 0x04000014, [], true,
    [⟨31, 1, .ro, 0x0, none⟩,
     ⟨28, 3, .ro, 0x0, none⟩]⟩,
  ⟨"NCS_MASK_LO", 0x04000018, [], true,
    [⟨0, 32, .rw, 0x0, none⟩]⟩,
  ⟨"NCS_MASK_HI", 0x0400001C, [], true,
    [⟨0, 32, .rw, 0x0, none⟩]⟩,
  ⟨"NCS_DATA", 0x04000020, [(16, 0x4)], true,
    [⟨0, 32, .rw, 0x0, none⟩]⟩,
  ⟨"EHT_CMD", 0x04000080, [], true,
    [⟨28, 4, .wo, 0x0, none⟩,
     ⟨0, 20, .wo, 0x0, none⟩]⟩,
  ⟨"EHT_STAT", 0x04000084, [], true,
    [⟨31, 1, .ro, 0x0, none⟩,
     ⟨28, 3, .ro, 0x0, none⟩,
     ⟨0, 20, .ro, 0x0, none⟩]⟩,
  ⟨"EHT_EUI_LO", 0x04000088, [], true,
    [⟨0, 32, .rw, 0x0, none⟩]⟩,
  ⟨"EHT_EUI_HI", 0x0400008C, [], true,
    [⟨0, 32, .rw, 0x0, none⟩]⟩,
  ⟨"HB_CMD", 0x040000A0, [], true,
    [⟨28, 4, .wo, 0x0, none⟩,
     ⟨20, 2, .wo, 0x0, none⟩,
     ⟨0, 20, .wo, 0x0, none⟩]⟩,
  ⟨"HB_STAT", 0x040000A4, [], true,
    [⟨31, 1, .ro, 0x0, none⟩,
     ⟨28, 3, .ro, 0x0, none⟩,
     ⟨0, 16, .ro, 0x0, none⟩]⟩,
  ⟨"INFRA_CTRL", 0x040000C0, [], false,
    [⟨31, 1, .rwl, 0x1, none⟩,
     ⟨0, 12, .rwl, 0x3C, some (10, 3600)⟩]⟩,
  ⟨"INFRA_STAT", 0x040000C4, [], false,
    [⟨31, 1, .ro, 0x0, none⟩,
     ⟨0, 14, .ro, 0x0, none⟩]⟩,
  ⟨"SNAP_CTRL", 0x04000100, [], false,
    [⟨28, 4, .wo, 0x0, none⟩,
     ⟨27, 1, .wo, 0x0, none⟩]⟩,
  ⟨"SNAP_STAT", 0x04000104, [], false,
    [⟨30, 2, .ro, 0x0, none⟩,
     ⟨27, 3, .ro, 0x0, none⟩,
     ⟨18, 9, .ro, 0x0, none⟩,
     ⟨0, 15, .ro, 0x0, none⟩]⟩,
  ⟨"SNAP_ADDR_LO", 0x04000108, [], false,
    [⟨0, 32, .rw, 0x0, none⟩]⟩,
  ⟨"SNAP_ADDR_HI", 0x0400010C, [], false,
    [⟨0, 32, .rw, 0x0, none⟩]⟩,
  ⟨"SNAP_SKIP", 0x04000110, [], false,
    [⟨0, 32, .rw, 0x10000, none⟩]⟩,
  ⟨"FWD_CNT0", 0x04000140, [], false,
    [⟨16, 16, .rc, 0x0, none⟩,
     ⟨0, 16, .rc, 0x0, none⟩]⟩,
  ⟨"FWD_CNT1", 0x04000144, [], false,
    [⟨24, 8, .rc, 0x0, none⟩,
     ⟨16, 8, .rc, 0x0, none⟩,
     ⟨0, 16, .rc, 0x0, none⟩]⟩,
  ⟨"FWD_CNT2", 0x04000148, [], false,
    [⟨16, 16, .rc, 0x0, none⟩,
     ⟨0, 16, .rc, 0x0, none⟩]⟩,
  ⟨"FWD_CNT3", 0x0400014C, [], false,
    [⟨24, 8, .rc, 0x0, none⟩,
     ⟨16, 8, .rc, 0x0, none⟩,
     ⟨8, 8, .rc, 0x0, none⟩,
     ⟨0, 8, .rc, 0x0, none⟩]⟩,
  ⟨"MCAST_CFG", 0x04001000, [(256, 0x10)], false,
    [⟨31, 1, .rwl, 0x0, none⟩,
     ⟨28, 3, .rwl, 0x0, none⟩,
     ⟨0, 12, .rwl, 0x0, none⟩]⟩,
  ⟨"MCAST_SLOT", 0x04001004, [(256, 0x10)], false,
    [⟨20, 8, .rwl, 0x0, none⟩,
     ⟨12, 8, .rwl, 0x0, none⟩,
     ⟨0, 12, .rwl, 0x0, none⟩]⟩,
  ⟨"MCAST_PATHS", 0x04001008, [(256, 0x10)], false,
    [⟨0, 32, .rwl, 0x0, none⟩]⟩,
  ⟨"MCAST_STAT", 0x0400100C, [(256, 0x10)], false,
    [⟨16, 16, .ro, 0x0, none⟩,
     ⟨0, 16, .ro, 0x0, none⟩]⟩,
  ⟨"INFRA_ENT", 0x04010000, [(16384, 0x4)], false,
    [⟨31, 1, .rw, 0x0, none⟩,
     ⟨29, 1, .rw, 0x0, none⟩,
     ⟨24, 5, .rw, 0x0, none⟩,
     ⟨23, 1, .rw, 0x0, none⟩,
     ⟨22, 1, .rw, 0x0, none⟩,
     ⟨21, 1, .rw, 0x0, none⟩,
     ⟨0, 20, .rw, 0x0, none⟩]⟩]

/-! Block Sec -/

-- SEC_CFG (Table 17-10)
def R.SEC_CFG : Nat := 0x05000000
def R.SEC_CFG_APPROVED : Fld := ⟨R.SEC_CFG, 31, 1⟩
def R.SEC_CFG_INIT_EPOCH : Fld := ⟨R.SEC_CFG, 0, 16⟩
-- SEC_JOIN (Table 17-10)
def R.SEC_JOIN : Nat := 0x05000004
def R.SEC_JOIN_EN : Fld := ⟨R.SEC_JOIN, 31, 1⟩
def R.SEC_JOIN_DEF_DIST : Fld := ⟨R.SEC_JOIN, 0, 12⟩
-- SEC_ST (Table 17-10)
def R.SEC_ST : Nat := 0x05000008
def R.SEC_ST_PERIOD : Fld := ⟨R.SEC_ST, 0, 16⟩
-- SEC_STATUS (Table 17-10)
def R.SEC_STATUS : Nat := 0x0500000C
def R.SEC_STATUS_ERROR : Fld := ⟨R.SEC_STATUS, 31, 1⟩
def R.SEC_STATUS_APPROVED : Fld := ⟨R.SEC_STATUS, 30, 1⟩
def R.SEC_STATUS_TREE_LOST : Fld := ⟨R.SEC_STATUS, 29, 1⟩
def R.SEC_STATUS_PENDING : Fld := ⟨R.SEC_STATUS, 28, 1⟩
def R.SEC_STATUS_KEYS : Fld := ⟨R.SEC_STATUS, 27, 1⟩
-- SEC_CMD (Table 17-10)
def R.SEC_CMD (q : Nat) : Nat := 0x05000010 + q * 0x10000000
def R.SEC_CMD_OP (q : Nat) : Fld := ⟨R.SEC_CMD q, 28, 4⟩
def R.SEC_CMD_KIND (q : Nat) : Fld := ⟨R.SEC_CMD q, 24, 4⟩
-- SEC_RESULT (Table 17-10)
def R.SEC_RESULT (q : Nat) : Nat := 0x05000014 + q * 0x10000000
def R.SEC_RESULT_BUSY (q : Nat) : Fld := ⟨R.SEC_RESULT q, 31, 1⟩
def R.SEC_RESULT_RESULT (q : Nat) : Fld := ⟨R.SEC_RESULT q, 24, 4⟩
-- SEC_EPOCH (Table 17-10)
def R.SEC_EPOCH : Nat := 0x05000018
def R.SEC_EPOCH_PENDING : Fld := ⟨R.SEC_EPOCH, 16, 16⟩
def R.SEC_EPOCH_ACTIVE : Fld := ⟨R.SEC_EPOCH, 0, 16⟩
-- SEC_ACT_LO (Table 17-10)
def R.SEC_ACT_LO : Nat := 0x0500001C
def R.SEC_ACT_LO_ASN : Fld := ⟨R.SEC_ACT_LO, 0, 32⟩
-- SEC_ACT_HI (Table 17-10)
def R.SEC_ACT_HI : Nat := 0x05000020
def R.SEC_ACT_HI_ASN : Fld := ⟨R.SEC_ACT_HI, 0, 8⟩
-- SEC_CMD_SEQ (Table 17-10)
def R.SEC_CMD_SEQ : Nat := 0x05000024
def R.SEC_CMD_SEQ_SEQ : Fld := ⟨R.SEC_CMD_SEQ, 0, 32⟩
-- SEC_OWNER (Table 17-10)
def R.SEC_OWNER : Nat := 0x05000028
def R.SEC_OWNER_REVOKED : Fld := ⟨R.SEC_OWNER, 4, 4⟩
def R.SEC_OWNER_PROGRAMMED : Fld := ⟨R.SEC_OWNER, 0, 4⟩
-- SEC_ARB0
def R.SEC_ARB0 : Nat := 0x0500002C
def R.SEC_ARB0_C0 : Fld := ⟨R.SEC_ARB0, 0, 8⟩
def R.SEC_ARB0_C1 : Fld := ⟨R.SEC_ARB0, 8, 8⟩
def R.SEC_ARB0_C2 : Fld := ⟨R.SEC_ARB0, 16, 8⟩
def R.SEC_ARB0_C3 : Fld := ⟨R.SEC_ARB0, 24, 8⟩
-- SEC_ARB1 (Table 17-10)
def R.SEC_ARB1 : Nat := 0x05000030
def R.SEC_ARB1_C4 : Fld := ⟨R.SEC_ARB1, 0, 8⟩
-- SEC_ENG (Table 17-10)
def R.SEC_ENG : Nat := 0x05000034
def R.SEC_ENG_OK : Fld := ⟨R.SEC_ENG, 0, 14⟩
-- SEC_CNT0 (Table 17-11)
def R.SEC_CNT0 : Nat := 0x05000040
def R.SEC_CNT0_MISS : Fld := ⟨R.SEC_CNT0, 16, 16⟩
def R.SEC_CNT0_ORPHAN : Fld := ⟨R.SEC_CNT0, 0, 16⟩
-- SEC_CNT1 (Table 17-11)
def R.SEC_CNT1 : Nat := 0x05000044
def R.SEC_CNT1_JOIN_OK : Fld := ⟨R.SEC_CNT1, 16, 16⟩
def R.SEC_CNT1_JOIN_REJ : Fld := ⟨R.SEC_CNT1, 0, 16⟩
-- SEC_CNT2 (Table 17-11)
def R.SEC_CNT2 : Nat := 0x05000048
def R.SEC_CNT2_ORPHAN_TX : Fld := ⟨R.SEC_CNT2, 16, 16⟩
def R.SEC_CNT2_EPOCH_RESEAL : Fld := ⟨R.SEC_CNT2, 0, 16⟩
-- SEC_CNT3 (Table 17-11)
def R.SEC_CNT3 : Nat := 0x0500004C
def R.SEC_CNT3_QUARANTINE : Fld := ⟨R.SEC_CNT3, 24, 8⟩
def R.SEC_CNT3_CMD_REJ : Fld := ⟨R.SEC_CNT3, 16, 8⟩
def R.SEC_CNT3_ST_PASS : Fld := ⟨R.SEC_CNT3, 0, 16⟩
-- SEC_SIGBUF (Table 17-9)
def R.SEC_SIGBUF (i : Nat) (q : Nat) : Nat := 0x05000100 + i * 0x4 + q * 0x10000000
def R.SEC_SIGBUF_DATA (i : Nat) (q : Nat) : Fld := ⟨R.SEC_SIGBUF i q, 0, 32⟩
-- SEC_NONCE (Table 17-9)
def R.SEC_NONCE (i : Nat) (q : Nat) : Nat := 0x05000200 + i * 0x4 + q * 0x10000000
def R.SEC_NONCE_DATA (i : Nat) (q : Nat) : Fld := ⟨R.SEC_NONCE i q, 0, 32⟩
-- SEC_ATT (Table 17-9)
def R.SEC_ATT (i : Nat) (q : Nat) : Nat := 0x05000400 + i * 0x4 + q * 0x10000000
def R.SEC_ATT_DATA (i : Nat) (q : Nat) : Fld := ⟨R.SEC_ATT i q, 0, 32⟩
-- SEC_CERT (Table 17-9)
def R.SEC_CERT (i : Nat) : Nat := 0x05000600 + i * 0x4
def R.SEC_CERT_DATA (i : Nat) : Fld := ⟨R.SEC_CERT i, 0, 32⟩
-- TREE_DIST (Table 17-10)
def R.TREE_DIST (i : Nat) : Nat := 0x05010000 + i * 0x4
def R.TREE_DIST_REVOKED (i : Nat) : Fld := ⟨R.TREE_DIST i, 31, 1⟩
def R.TREE_DIST_P_REVOKED (i : Nat) : Fld := ⟨R.TREE_DIST i, 30, 1⟩
def R.TREE_DIST_P_GEN (i : Nat) : Fld := ⟨R.TREE_DIST i, 4, 4⟩
def R.TREE_DIST_GEN (i : Nat) : Fld := ⟨R.TREE_DIST i, 0, 4⟩

/-- The registers of this block, field by field (access, reset and stated range). -/
def regTableSec : List RegDesc := [
  ⟨"SEC_CFG", 0x05000000, [], false,
    [⟨31, 1, .rwl, 0x1, none⟩,
     ⟨0, 16, .rwl, 0x1, none⟩]⟩,
  ⟨"SEC_JOIN", 0x05000004, [], false,
    [⟨31, 1, .rwl, 0x1, none⟩,
     ⟨0, 12, .rwl, 0x0, none⟩]⟩,
  ⟨"SEC_ST", 0x05000008, [], false,
    [⟨0, 16, .rwl, 0xE10, none⟩]⟩,
  ⟨"SEC_STATUS", 0x0500000C, [], false,
    [⟨31, 1, .ro, 0x0, none⟩,
     ⟨30, 1, .ro, 0x0, none⟩,
     ⟨29, 1, .ro, 0x0, none⟩,
     ⟨28, 1, .ro, 0x0, none⟩,
     ⟨27, 1, .ro, 0x0, none⟩]⟩,
  ⟨"SEC_CMD", 0x05000010, [], true,
    [⟨28, 4, .wo, 0x0, none⟩,
     ⟨24, 4, .wo, 0x0, none⟩]⟩,
  ⟨"SEC_RESULT", 0x05000014, [], true,
    [⟨31, 1, .ro, 0x0, none⟩,
     ⟨24, 4, .ro, 0x0, none⟩]⟩,
  ⟨"SEC_EPOCH", 0x05000018, [], false,
    [⟨16, 16, .ro, 0x0, none⟩,
     ⟨0, 16, .ro, 0x0, none⟩]⟩,
  ⟨"SEC_ACT_LO", 0x0500001C, [], false,
    [⟨0, 32, .ro, 0x0, none⟩]⟩,
  ⟨"SEC_ACT_HI", 0x05000020, [], false,
    [⟨0, 8, .ro, 0x0, none⟩]⟩,
  ⟨"SEC_CMD_SEQ", 0x05000024, [], false,
    [⟨0, 32, .ro, 0x0, none⟩]⟩,
  ⟨"SEC_OWNER", 0x05000028, [], false,
    [⟨4, 4, .ro, 0x0, none⟩,
     ⟨0, 4, .ro, 0x0, none⟩]⟩,
  ⟨"SEC_ARB0", 0x0500002C, [], false,
    [⟨0, 8, .ro, 0x0, none⟩,
     ⟨8, 8, .ro, 0x0, none⟩,
     ⟨16, 8, .ro, 0x0, none⟩,
     ⟨24, 8, .ro, 0x0, none⟩]⟩,
  ⟨"SEC_ARB1", 0x05000030, [], false,
    [⟨0, 8, .ro, 0x0, none⟩]⟩,
  ⟨"SEC_ENG", 0x05000034, [], false,
    [⟨0, 14, .ro, 0x0, none⟩]⟩,
  ⟨"SEC_CNT0", 0x05000040, [], false,
    [⟨16, 16, .rc, 0x0, none⟩,
     ⟨0, 16, .rc, 0x0, none⟩]⟩,
  ⟨"SEC_CNT1", 0x05000044, [], false,
    [⟨16, 16, .rc, 0x0, none⟩,
     ⟨0, 16, .rc, 0x0, none⟩]⟩,
  ⟨"SEC_CNT2", 0x05000048, [], false,
    [⟨16, 16, .rc, 0x0, none⟩,
     ⟨0, 16, .rc, 0x0, none⟩]⟩,
  ⟨"SEC_CNT3", 0x0500004C, [], false,
    [⟨24, 8, .rc, 0x0, none⟩,
     ⟨16, 8, .rc, 0x0, none⟩,
     ⟨0, 16, .rc, 0x0, none⟩]⟩,
  ⟨"SEC_SIGBUF", 0x05000100, [(48, 0x4)], true,
    [⟨0, 32, .rw, 0x0, none⟩]⟩,
  ⟨"SEC_NONCE", 0x05000200, [(8, 0x4)], true,
    [⟨0, 32, .rw, 0x0, none⟩]⟩,
  ⟨"SEC_ATT", 0x05000400, [(88, 0x4)], true,
    [⟨0, 32, .ro, 0x0, none⟩]⟩,
  ⟨"SEC_CERT", 0x05000600, [(52, 0x4)], false,
    [⟨0, 32, .ro, 0x0, none⟩]⟩,
  ⟨"TREE_DIST", 0x05010000, [(4096, 0x4)], false,
    [⟨31, 1, .ro, 0x0, none⟩,
     ⟨30, 1, .ro, 0x0, none⟩,
     ⟨4, 4, .ro, 0x0, none⟩,
     ⟨0, 4, .ro, 0x0, none⟩]⟩]

/-! Block Time -/

-- TB_CTRL (Table 15-6)
def R.TB_CTRL : Nat := 0x06000000
def R.TB_CTRL_OWNER : Fld := ⟨R.TB_CTRL, 30, 2⟩
def R.TB_CTRL_STEP_MAX : Fld := ⟨R.TB_CTRL, 0, 14⟩
-- BRIDGE_CFG (Table 15-6)
def R.BRIDGE_CFG : Nat := 0x06000004
def R.BRIDGE_CFG_RC_ERR : Fld := ⟨R.BRIDGE_CFG, 16, 16⟩
def R.BRIDGE_CFG_XTAL_ERR : Fld := ⟨R.BRIDGE_CFG, 8, 8⟩
def R.BRIDGE_CFG_HOLD : Fld := ⟨R.BRIDGE_CFG, 0, 8⟩
-- TB_INC_LO (Table 15-6)
def R.TB_INC_LO : Nat := 0x06000010
def R.TB_INC_LO_FRAC : Fld := ⟨R.TB_INC_LO, 0, 32⟩
-- TB_INC_HI (Table 15-6)
def R.TB_INC_HI : Nat := 0x06000014
def R.TB_INC_HI_INT : Fld := ⟨R.TB_INC_HI, 0, 8⟩
-- TB_STEP_LO (Table 15-6)
def R.TB_STEP_LO : Nat := 0x06000018
def R.TB_STEP_LO_STEP : Fld := ⟨R.TB_STEP_LO, 0, 32⟩
-- TB_STEP_HI (Table 15-6)
def R.TB_STEP_HI : Nat := 0x0600001C
def R.TB_STEP_HI_STEP : Fld := ⟨R.TB_STEP_HI, 0, 32⟩
-- TB_SERVO (Table 15-6)
def R.TB_SERVO : Nat := 0x06000020
def R.TB_SERVO_STATE : Fld := ⟨R.TB_SERVO, 30, 2⟩
def R.TB_SERVO_ERR : Fld := ⟨R.TB_SERVO, 0, 30⟩
-- TB_FERR (Table 15-6)
def R.TB_FERR : Nat := 0x06000024
def R.TB_FERR_P : Fld := ⟨R.TB_FERR, 0, 32⟩
-- TB_NS_LO (Table 15-6)
def R.TB_NS_LO : Nat := 0x06000030
def R.TB_NS_LO_NS : Fld := ⟨R.TB_NS_LO, 0, 32⟩
-- TB_NS_HI (Table 15-6)
def R.TB_NS_HI : Nat := 0x06000034
def R.TB_NS_HI_NS : Fld := ⟨R.TB_NS_HI, 0, 32⟩
-- TB_FRAC (Table 15-6)
def R.TB_FRAC : Nat := 0x06000038
def R.TB_FRAC_FRAC : Fld := ⟨R.TB_FRAC, 0, 32⟩
-- TB_STATUS (Table 15-6)
def R.TB_STATUS : Nat := 0x0600003C
def R.TB_STATUS_PENDING : Fld := ⟨R.TB_STATUS, 31, 1⟩
def R.TB_STATUS_RESULT : Fld := ⟨R.TB_STATUS, 28, 3⟩
def R.TB_STATUS_STEPS : Fld := ⟨R.TB_STATUS, 0, 16⟩
-- TIME_QUALITY (Table 15-6)
def R.TIME_QUALITY : Nat := 0x06000040
def R.TIME_QUALITY_CODE : Fld := ⟨R.TIME_QUALITY, 0, 4⟩
-- TIME_ERR (Table 15-6)
def R.TIME_ERR : Nat := 0x06000044
def R.TIME_ERR_ERR : Fld := ⟨R.TIME_ERR, 0, 32⟩
-- LF_RATIO (Table 15-6)
def R.LF_RATIO : Nat := 0x06000048
def R.LF_RATIO_RATIO : Fld := ⟨R.LF_RATIO, 0, 32⟩
-- RC_RATIO (Table 15-6)
def R.RC_RATIO : Nat := 0x0600004C
def R.RC_RATIO_RATIO : Fld := ⟨R.RC_RATIO, 0, 32⟩
-- BRIDGE_LAST (Table 15-6)
def R.BRIDGE_LAST : Nat := 0x06000050
def R.BRIDGE_LAST_SECONDS : Fld := ⟨R.BRIDGE_LAST, 0, 32⟩
-- TB_CNT (Table 15-6)
def R.TB_CNT : Nat := 0x06000060
def R.TB_CNT_NOT_OWNER : Fld := ⟨R.TB_CNT, 16, 16⟩
def R.TB_CNT_REFUSED : Fld := ⟨R.TB_CNT, 0, 16⟩
-- TSO_CTRL (Table 15-7)
def R.TSO_CTRL (i : Nat) : Nat := 0x06000100 + i * 0x20
def R.TSO_CTRL_EN (i : Nat) : Fld := ⟨R.TSO_CTRL i, 31, 1⟩
def R.TSO_CTRL_MODE (i : Nat) : Fld := ⟨R.TSO_CTRL i, 30, 1⟩
def R.TSO_CTRL_POL (i : Nat) : Fld := ⟨R.TSO_CTRL i, 29, 1⟩
-- TSO_TGT_LO (Table 15-7)
def R.TSO_TGT_LO (i : Nat) : Nat := 0x06000104 + i * 0x20
def R.TSO_TGT_LO_T (i : Nat) : Fld := ⟨R.TSO_TGT_LO i, 0, 32⟩
-- TSO_TGT_HI (Table 15-7)
def R.TSO_TGT_HI (i : Nat) : Nat := 0x06000108 + i * 0x20
def R.TSO_TGT_HI_T (i : Nat) : Fld := ⟨R.TSO_TGT_HI i, 0, 32⟩
-- TSO_PER (Table 15-7)
def R.TSO_PER (i : Nat) : Nat := 0x0600010C + i * 0x20
def R.TSO_PER_PER (i : Nat) : Fld := ⟨R.TSO_PER i, 0, 32⟩
-- TSO_WIDTH (Table 15-7)
def R.TSO_WIDTH (i : Nat) : Nat := 0x06000110 + i * 0x20
def R.TSO_WIDTH_WIDTH (i : Nat) : Fld := ⟨R.TSO_WIDTH i, 0, 32⟩
-- TSO_STAT (Table 15-7)
def R.TSO_STAT (i : Nat) : Nat := 0x06000114 + i * 0x20
def R.TSO_STAT_ACTIVE (i : Nat) : Fld := ⟨R.TSO_STAT i, 31, 1⟩
def R.TSO_STAT_LATE (i : Nat) : Fld := ⟨R.TSO_STAT i, 30, 1⟩
def R.TSO_STAT_BAD_CFG (i : Nat) : Fld := ⟨R.TSO_STAT i, 29, 1⟩
def R.TSO_STAT_SKIP (i : Nat) : Fld := ⟨R.TSO_STAT i, 0, 16⟩
-- TSI_CTRL (Table 15-7)
def R.TSI_CTRL (i : Nat) : Nat := 0x06000200 + i * 0x20
def R.TSI_CTRL_EN (i : Nat) : Fld := ⟨R.TSI_CTRL i, 31, 1⟩
def R.TSI_CTRL_EDGE (i : Nat) : Fld := ⟨R.TSI_CTRL i, 29, 2⟩
def R.TSI_CTRL_DLY (i : Nat) : Fld := ⟨R.TSI_CTRL i, 0, 16⟩
-- TSI_NS_LO (Table 15-7)
def R.TSI_NS_LO (i : Nat) : Nat := 0x06000204 + i * 0x20
def R.TSI_NS_LO_NS (i : Nat) : Fld := ⟨R.TSI_NS_LO i, 0, 32⟩
-- TSI_NS_HI (Table 15-7)
def R.TSI_NS_HI (i : Nat) : Nat := 0x06000208 + i * 0x20
def R.TSI_NS_HI_NS (i : Nat) : Fld := ⟨R.TSI_NS_HI i, 0, 32⟩
-- TSI_FRAC (Table 15-7)
def R.TSI_FRAC (i : Nat) : Nat := 0x0600020C + i * 0x20
def R.TSI_FRAC_FRAC (i : Nat) : Fld := ⟨R.TSI_FRAC i, 0, 32⟩
-- TSI_STAT (Table 15-7)
def R.TSI_STAT (i : Nat) : Nat := 0x06000210 + i * 0x20
def R.TSI_STAT_IN_DROP (i : Nat) : Fld := ⟨R.TSI_STAT i, 16, 16⟩
def R.TSI_STAT_CAPTURES (i : Nat) : Fld := ⟨R.TSI_STAT i, 0, 16⟩
-- GT_CFG (Table 15-8)
def R.GT_CFG (i : Nat) : Nat := 0x06001000 + i * 0x40
def R.GT_CFG_EN (i : Nat) : Fld := ⟨R.GT_CFG i, 31, 1⟩
def R.GT_CFG_LINK (i : Nat) : Fld := ⟨R.GT_CFG i, 30, 1⟩
def R.GT_CFG_MODE (i : Nat) : Fld := ⟨R.GT_CFG i, 28, 2⟩
def R.GT_CFG_INSEL (i : Nat) : Fld := ⟨R.GT_CFG i, 22, 6⟩
def R.GT_CFG_EDGE (i : Nat) : Fld := ⟨R.GT_CFG i, 20, 2⟩
def R.GT_CFG_LEVEL (i : Nat) : Fld := ⟨R.GT_CFG i, 19, 1⟩
def R.GT_CFG_FILT (i : Nat) : Fld := ⟨R.GT_CFG i, 11, 8⟩
def R.GT_CFG_EPSC (i : Nat) : Fld := ⟨R.GT_CFG i, 3, 8⟩
-- GT_PSC (Table 15-8)
def R.GT_PSC (i : Nat) : Nat := 0x06001004 + i * 0x40
def R.GT_PSC_PSC (i : Nat) : Fld := ⟨R.GT_PSC i, 0, 16⟩
-- GT_CMPCFG (Table 15-8)
def R.GT_CMPCFG (i : Nat) : Nat := 0x06001008 + i * 0x40
def R.GT_CMPCFG_CMP_EN (i : Nat) : Fld := ⟨R.GT_CMPCFG i, 31, 1⟩
def R.GT_CMPCFG_ACT (i : Nat) : Fld := ⟨R.GT_CMPCFG i, 26, 2⟩
def R.GT_CMPCFG_CLR (i : Nat) : Fld := ⟨R.GT_CMPCFG i, 25, 1⟩
def R.GT_CMPCFG_OUT_POL (i : Nat) : Fld := ⟨R.GT_CMPCFG i, 24, 1⟩
def R.GT_CMPCFG_OVR_IE (i : Nat) : Fld := ⟨R.GT_CMPCFG i, 3, 1⟩
def R.GT_CMPCFG_WRAP_IE (i : Nat) : Fld := ⟨R.GT_CMPCFG i, 2, 1⟩
def R.GT_CMPCFG_CAP_IE (i : Nat) : Fld := ⟨R.GT_CMPCFG i, 1, 1⟩
def R.GT_CMPCFG_MATCH_IE (i : Nat) : Fld := ⟨R.GT_CMPCFG i, 0, 1⟩
-- GT_CNT (Table 15-8)
def R.GT_CNT (i : Nat) : Nat := 0x0600100C + i * 0x40
def R.GT_CNT_COUNT (i : Nat) : Fld := ⟨R.GT_CNT i, 0, 32⟩
-- GT_CMP (Table 15-8)
def R.GT_CMP (i : Nat) : Nat := 0x06001010 + i * 0x40
def R.GT_CMP_VALUE (i : Nat) : Fld := ⟨R.GT_CMP i, 0, 32⟩
-- GT_CAP (Table 15-8)
def R.GT_CAP (i : Nat) : Nat := 0x06001014 + i * 0x40
def R.GT_CAP_VALUE (i : Nat) : Fld := ⟨R.GT_CAP i, 0, 32⟩
-- GT_STAT (Table 15-8)
def R.GT_STAT (i : Nat) : Nat := 0x06001018 + i * 0x40
def R.GT_STAT_LF (i : Nat) : Fld := ⟨R.GT_STAT i, 31, 1⟩
def R.GT_STAT_OUT (i : Nat) : Fld := ⟨R.GT_STAT i, 30, 1⟩
def R.GT_STAT_CAP_OVR (i : Nat) : Fld := ⟨R.GT_STAT i, 3, 1⟩
def R.GT_STAT_WRAP (i : Nat) : Fld := ⟨R.GT_STAT i, 2, 1⟩
def R.GT_STAT_CAP (i : Nat) : Fld := ⟨R.GT_STAT i, 1, 1⟩
def R.GT_STAT_MATCH (i : Nat) : Fld := ⟨R.GT_STAT i, 0, 1⟩
-- GT_ERR (Table 15-8)
def R.GT_ERR (i : Nat) : Nat := 0x0600101C + i * 0x40
def R.GT_ERR_MATCHES (i : Nat) : Fld := ⟨R.GT_ERR i, 16, 16⟩
def R.GT_ERR_OVR (i : Nat) : Fld := ⟨R.GT_ERR i, 0, 16⟩

/-- The registers of this block, field by field (access, reset and stated range). -/
def regTableTime : List RegDesc := [
  ⟨"TB_CTRL", 0x06000000, [], false,
    [⟨30, 2, .rwl, 0x0, some (0, 2)⟩,
     ⟨0, 14, .rwl, 0x64, some (0, 10000)⟩]⟩,
  ⟨"BRIDGE_CFG", 0x06000004, [], false,
    [⟨16, 16, .rwl, 0x2710, none⟩,
     ⟨8, 8, .rwl, 0x32, none⟩,
     ⟨0, 8, .rwl, 0xA, none⟩]⟩,
  ⟨"TB_INC_LO", 0x06000010, [], false,
    [⟨0, 32, .rw, 0x0, none⟩]⟩,
  ⟨"TB_INC_HI", 0x06000014, [], false,
    [⟨0, 8, .rw, 0x2, none⟩]⟩,
  ⟨"TB_STEP_LO", 0x06000018, [], false,
    [⟨0, 32, .wo, 0x0, none⟩]⟩,
  ⟨"TB_STEP_HI", 0x0600001C, [], false,
    [⟨0, 32, .wo, 0x0, none⟩]⟩,
  ⟨"TB_SERVO", 0x06000020, [], false,
    [⟨30, 2, .rw, 0x0, none⟩,
     ⟨0, 30, .rw, 0x3FFFFFFF, none⟩]⟩,
  ⟨"TB_FERR", 0x06000024, [], false,
    [⟨0, 32, .rw, 0x0, none⟩]⟩,
  ⟨"TB_NS_LO", 0x06000030, [], false,
    [⟨0, 32, .ro, 0x0, none⟩]⟩,
  ⟨"TB_NS_HI", 0x06000034, [], false,
    [⟨0, 32, .ro, 0x0, none⟩]⟩,
  ⟨"TB_FRAC", 0x06000038, [], false,
    [⟨0, 32, .ro, 0x0, none⟩]⟩,
  ⟨"TB_STATUS", 0x0600003C, [], false,
    [⟨31, 1, .ro, 0x0, none⟩,
     ⟨28, 3, .ro, 0x0, none⟩,
     ⟨0, 16, .ro, 0x0, none⟩]⟩,
  ⟨"TIME_QUALITY", 0x06000040, [], false,
    [⟨0, 4, .ro, 0x0, none⟩]⟩,
  ⟨"TIME_ERR", 0x06000044, [], false,
    [⟨0, 32, .ro, 0xFFFFFFFF, none⟩]⟩,
  ⟨"LF_RATIO", 0x06000048, [], false,
    [⟨0, 32, .ro, 0x77359400, none⟩]⟩,
  ⟨"RC_RATIO", 0x0600004C, [], false,
    [⟨0, 32, .ro, 0x7A120000, none⟩]⟩,
  ⟨"BRIDGE_LAST", 0x06000050, [], false,
    [⟨0, 32, .ro, 0x0, none⟩]⟩,
  ⟨"TB_CNT", 0x06000060, [], false,
    [⟨16, 16, .rc, 0x0, none⟩,
     ⟨0, 16, .rc, 0x0, none⟩]⟩,
  ⟨"TSO_CTRL", 0x06000100, [(4, 0x20)], false,
    [⟨31, 1, .rw, 0x0, none⟩,
     ⟨30, 1, .rw, 0x0, none⟩,
     ⟨29, 1, .rw, 0x0, none⟩]⟩,
  ⟨"TSO_TGT_LO", 0x06000104, [(4, 0x20)], false,
    [⟨0, 32, .rw, 0x0, none⟩]⟩,
  ⟨"TSO_TGT_HI", 0x06000108, [(4, 0x20)], false,
    [⟨0, 32, .rw, 0x0, none⟩]⟩,
  ⟨"TSO_PER", 0x0600010C, [(4, 0x20)], false,
    [⟨0, 32, .rw, 0x0, none⟩]⟩,
  ⟨"TSO_WIDTH", 0x06000110, [(4, 0x20)], false,
    [⟨0, 32, .rw, 0x0, none⟩]⟩,
  ⟨"TSO_STAT", 0x06000114, [(4, 0x20)], false,
    [⟨31, 1, .ro, 0x0, none⟩,
     ⟨30, 1, .w1c, 0x0, none⟩,
     ⟨29, 1, .w1c, 0x0, none⟩,
     ⟨0, 16, .rc, 0x0, none⟩]⟩,
  ⟨"TSI_CTRL", 0x06000200, [(2, 0x20)], false,
    [⟨31, 1, .rw, 0x0, none⟩,
     ⟨29, 2, .rw, 0x0, none⟩,
     ⟨0, 16, .rw, 0x0, none⟩]⟩,
  ⟨"TSI_NS_LO", 0x06000204, [(2, 0x20)], false,
    [⟨0, 32, .ro, 0x0, none⟩]⟩,
  ⟨"TSI_NS_HI", 0x06000208, [(2, 0x20)], false,
    [⟨0, 32, .ro, 0x0, none⟩]⟩,
  ⟨"TSI_FRAC", 0x0600020C, [(2, 0x20)], false,
    [⟨0, 32, .ro, 0x0, none⟩]⟩,
  ⟨"TSI_STAT", 0x06000210, [(2, 0x20)], false,
    [⟨16, 16, .rc, 0x0, none⟩,
     ⟨0, 16, .ro, 0x0, none⟩]⟩,
  ⟨"GT_CFG", 0x06001000, [(32, 0x40)], false,
    [⟨31, 1, .rw, 0x0, none⟩,
     ⟨30, 1, .rw, 0x0, none⟩,
     ⟨28, 2, .rw, 0x0, none⟩,
     ⟨22, 6, .rw, 0x0, none⟩,
     ⟨20, 2, .rw, 0x0, none⟩,
     ⟨19, 1, .rw, 0x0, none⟩,
     ⟨11, 8, .rw, 0x1, none⟩,
     ⟨3, 8, .rw, 0x0, none⟩]⟩,
  ⟨"GT_PSC", 0x06001004, [(32, 0x40)], false,
    [⟨0, 16, .rw, 0x0, none⟩]⟩,
  ⟨"GT_CMPCFG", 0x06001008, [(32, 0x40)], false,
    [⟨31, 1, .rw, 0x0, none⟩,
     ⟨26, 2, .rw, 0x0, none⟩,
     ⟨25, 1, .rw, 0x0, none⟩,
     ⟨24, 1, .rw, 0x0, none⟩,
     ⟨3, 1, .rw, 0x0, none⟩,
     ⟨2, 1, .rw, 0x0, none⟩,
     ⟨1, 1, .rw, 0x0, none⟩,
     ⟨0, 1, .rw, 0x0, none⟩]⟩,
  ⟨"GT_CNT", 0x0600100C, [(32, 0x40)], false,
    [⟨0, 32, .rw, 0x0, none⟩]⟩,
  ⟨"GT_CMP", 0x06001010, [(32, 0x40)], false,
    [⟨0, 32, .rw, 0x0, none⟩]⟩,
  ⟨"GT_CAP", 0x06001014, [(32, 0x40)], false,
    [⟨0, 32, .ro, 0x0, none⟩]⟩,
  ⟨"GT_STAT", 0x06001018, [(32, 0x40)], false,
    [⟨31, 1, .ro, 0x0, none⟩,
     ⟨30, 1, .ro, 0x0, none⟩,
     ⟨3, 1, .w1c, 0x0, none⟩,
     ⟨2, 1, .w1c, 0x0, none⟩,
     ⟨1, 1, .w1c, 0x0, none⟩,
     ⟨0, 1, .w1c, 0x0, none⟩]⟩,
  ⟨"GT_ERR", 0x0600101C, [(32, 0x40)], false,
    [⟨16, 16, .rc, 0x0, none⟩,
     ⟨0, 16, .rc, 0x0, none⟩]⟩]

/-! Block Pair -/

-- PAIR_CFG (Table 19-9)
def R.PAIR_CFG : Nat := 0x07000000
def R.PAIR_CFG_EN : Fld := ⟨R.PAIR_CFG, 31, 1⟩
def R.PAIR_CFG_SPARE_CLAIM : Fld := ⟨R.PAIR_CFG, 30, 1⟩
def R.PAIR_CFG_KEEP_MS : Fld := ⟨R.PAIR_CFG, 0, 8⟩
-- PAIR_CMD (Table 19-9)
def R.PAIR_CMD : Nat := 0x07000004
def R.PAIR_CMD_OP : Fld := ⟨R.PAIR_CMD, 28, 4⟩
-- PAIR_STATUS (Table 19-9)
def R.PAIR_STATUS : Nat := 0x07000008
def R.PAIR_STATUS_ROLE : Fld := ⟨R.PAIR_STATUS, 30, 2⟩
def R.PAIR_STATUS_CLAIM_OUT : Fld := ⟨R.PAIR_STATUS, 29, 1⟩
def R.PAIR_STATUS_CLAIM_IN : Fld := ⟨R.PAIR_STATUS, 28, 1⟩
def R.PAIR_STATUS_GATE : Fld := ⟨R.PAIR_STATUS, 27, 1⟩
def R.PAIR_STATUS_SYNC : Fld := ⟨R.PAIR_STATUS, 26, 1⟩
def R.PAIR_STATUS_SWO : Fld := ⟨R.PAIR_STATUS, 25, 1⟩
def R.PAIR_STATUS_IL_FAULT : Fld := ⟨R.PAIR_STATUS, 24, 1⟩
def R.PAIR_STATUS_MISMATCH : Fld := ⟨R.PAIR_STATUS, 23, 1⟩
def R.PAIR_STATUS_HOLD : Fld := ⟨R.PAIR_STATUS, 22, 1⟩
def R.PAIR_STATUS_CONFLICT : Fld := ⟨R.PAIR_STATUS, 21, 1⟩
def R.PAIR_STATUS_CMD_RES : Fld := ⟨R.PAIR_STATUS, 12, 4⟩
def R.PAIR_STATUS_CAUSE : Fld := ⟨R.PAIR_STATUS, 4, 4⟩
-- PAIR_KEEP (Table 19-9)
def R.PAIR_KEEP : Nat := 0x0700000C
def R.PAIR_KEEP_ANY : Fld := ⟨R.PAIR_KEEP, 0, 32⟩
-- HJ_STATUS (Table 19-9)
def R.HJ_STATUS : Nat := 0x07000010
def R.HJ_STATUS_UP : Fld := ⟨R.HJ_STATUS, 31, 1⟩
def R.HJ_STATUS_LANES : Fld := ⟨R.HJ_STATUS, 28, 3⟩
def R.HJ_STATUS_AUTH : Fld := ⟨R.HJ_STATUS, 27, 1⟩
def R.HJ_STATUS_PEER_ROLE : Fld := ⟨R.HJ_STATUS, 22, 2⟩
def R.HJ_STATUS_PEER_ID : Fld := ⟨R.HJ_STATUS, 21, 1⟩
def R.HJ_STATUS_INV : Fld := ⟨R.HJ_STATUS, 0, 4⟩
-- HJ_TOFS (Table 19-9)
def R.HJ_TOFS : Nat := 0x07000014
def R.HJ_TOFS_OFS : Fld := ⟨R.HJ_TOFS, 0, 32⟩
-- HJ_ASYM (Table 19-9)
def R.HJ_ASYM : Nat := 0x07000018
def R.HJ_ASYM_ASYM : Fld := ⟨R.HJ_ASYM, 0, 16⟩
-- SYNC_STAT (Table 19-9)
def R.SYNC_STAT : Nat := 0x0700001C
def R.SYNC_STAT_STATE : Fld := ⟨R.SYNC_STAT, 30, 2⟩
def R.SYNC_STAT_LEFT : Fld := ⟨R.SYNC_STAT, 0, 21⟩
-- SWO_LAST (Table 19-9)
def R.SWO_LAST : Nat := 0x07000020
def R.SWO_LAST_KIND : Fld := ⟨R.SWO_LAST, 31, 1⟩
def R.SWO_LAST_DURATION : Fld := ⟨R.SWO_LAST, 0, 31⟩
-- PAIR_CNT0 (Table 19-10)
def R.PAIR_CNT0 : Nat := 0x07000040
def R.PAIR_CNT0_MIRROR_TX : Fld := ⟨R.PAIR_CNT0, 16, 16⟩
def R.PAIR_CNT0_MIRROR_RX : Fld := ⟨R.PAIR_CNT0, 0, 16⟩
-- PAIR_CNT1 (Table 19-10)
def R.PAIR_CNT1 : Nat := 0x07000044
def R.PAIR_CNT1_RETRY : Fld := ⟨R.PAIR_CNT1, 16, 16⟩
def R.PAIR_CNT1_LINK_DOWN : Fld := ⟨R.PAIR_CNT1, 0, 16⟩
-- PAIR_CNT2 (Table 19-10)
def R.PAIR_CNT2 : Nat := 0x07000048
def R.PAIR_CNT2_STBY_DISCARD : Fld := ⟨R.PAIR_CNT2, 16, 16⟩
def R.PAIR_CNT2_SWITCHOVERS : Fld := ⟨R.PAIR_CNT2, 8, 8⟩
def R.PAIR_CNT2_CONFLICT : Fld := ⟨R.PAIR_CNT2, 0, 8⟩
-- PAIR_CNT3 (Table 19-10)
def R.PAIR_CNT3 : Nat := 0x0700004C
def R.PAIR_CNT3_DL_LOST : Fld := ⟨R.PAIR_CNT3, 16, 16⟩
def R.PAIR_CNT3_IL_FAULT : Fld := ⟨R.PAIR_CNT3, 8, 8⟩
def R.PAIR_CNT3_KEEP_EXPIRED : Fld := ⟨R.PAIR_CNT3, 0, 8⟩

/-- The registers of this block, field by field (access, reset and stated range). -/
def regTablePair : List RegDesc := [
  ⟨"PAIR_CFG", 0x07000000, [], false,
    [⟨31, 1, .rwl, 0x1, none⟩,
     ⟨30, 1, .rwl, 0x1, none⟩,
     ⟨0, 8, .rwl, 0xA, some (2, 100)⟩]⟩,
  ⟨"PAIR_CMD", 0x07000004, [], false,
    [⟨28, 4, .wo, 0x0, none⟩]⟩,
  ⟨"PAIR_STATUS", 0x07000008, [], false,
    [⟨30, 2, .ro, 0x3, none⟩,
     ⟨29, 1, .ro, 0x0, none⟩,
     ⟨28, 1, .ro, 0x0, none⟩,
     ⟨27, 1, .ro, 0x0, none⟩,
     ⟨26, 1, .ro, 0x0, none⟩,
     ⟨25, 1, .ro, 0x0, none⟩,
     ⟨24, 1, .ro, 0x0, none⟩,
     ⟨23, 1, .ro, 0x0, none⟩,
     ⟨22, 1, .ro, 0x0, none⟩,
     ⟨21, 1, .ro, 0x0, none⟩,
     ⟨12, 4, .ro, 0x0, none⟩,
     ⟨4, 4, .ro, 0x0, none⟩]⟩,
  ⟨"PAIR_KEEP", 0x0700000C, [], false,
    [⟨0, 32, .wo, 0x0, none⟩]⟩,
  ⟨"HJ_STATUS", 0x07000010, [], false,
    [⟨31, 1, .ro, 0x0, none⟩,
     ⟨28, 3, .ro, 0x0, none⟩,
     ⟨27, 1, .ro, 0x0, none⟩,
     ⟨22, 2, .ro, 0x3, none⟩,
     ⟨21, 1, .ro, 0x0, none⟩,
     ⟨0, 4, .ro, 0x0, none⟩]⟩,
  ⟨"HJ_TOFS", 0x07000014, [], false,
    [⟨0, 32, .ro, 0x0, none⟩]⟩,
  ⟨"HJ_ASYM", 0x07000018, [], false,
    [⟨0, 16, .rwl, 0x0, none⟩]⟩,
  ⟨"SYNC_STAT", 0x0700001C, [], false,
    [⟨30, 2, .ro, 0x0, none⟩,
     ⟨0, 21, .ro, 0x0, none⟩]⟩,
  ⟨"SWO_LAST", 0x07000020, [], false,
    [⟨31, 1, .ro, 0x0, none⟩,
     ⟨0, 31, .ro, 0x0, none⟩]⟩,
  ⟨"PAIR_CNT0", 0x07000040, [], false,
    [⟨16, 16, .rc, 0x0, none⟩,
     ⟨0, 16, .rc, 0x0, none⟩]⟩,
  ⟨"PAIR_CNT1", 0x07000044, [], false,
    [⟨16, 16, .rc, 0x0, none⟩,
     ⟨0, 16, .rc, 0x0, none⟩]⟩,
  ⟨"PAIR_CNT2", 0x07000048, [], false,
    [⟨16, 16, .rc, 0x0, none⟩,
     ⟨8, 8, .rc, 0x0, none⟩,
     ⟨0, 8, .rc, 0x0, none⟩]⟩,
  ⟨"PAIR_CNT3", 0x0700004C, [], false,
    [⟨16, 16, .rc, 0x0, none⟩,
     ⟨8, 8, .rc, 0x0, none⟩,
     ⟨0, 8, .rc, 0x0, none⟩]⟩]

end Sys2Proof.Machine
end

