-- ==== Sys2Proof/Machine/RegsPlat.lean ====
section
/-!
DEFINITION. Register names and tables of BAR0, written from the register tables of the spec:
for each register its BAR0 offset `R.<REGISTER>` and for each field `R.<REGISTER>_<FIELD>`,
under the spec's own names; then one table a block. Arguments `i j k` are the register's indexes
in the order of the offset expression of its table; `q` is the requester of a banked register.
-/

namespace Sys2Proof.Machine

/-! Block Mi -/

-- MI_CFG (Table 18-6)
def R.MI_CFG : Nat := 0x08000000
def R.MI_CFG_AUTO_REPAIR : Fld := ⟨R.MI_CFG, 31, 1⟩
def R.MI_CFG_PEER_FETCH : Fld := ⟨R.MI_CFG, 30, 1⟩
-- MI_SCRUB (Table 18-6)
def R.MI_SCRUB : Nat := 0x08000004
def R.MI_SCRUB_NCS_MIN : Fld := ⟨R.MI_SCRUB, 20, 12⟩
def R.MI_SCRUB_FB_MIN : Fld := ⟨R.MI_SCRUB, 10, 10⟩
def R.MI_SCRUB_CM_MIN : Fld := ⟨R.MI_SCRUB, 0, 10⟩
-- MI_ESC (Table 18-6)
def R.MI_ESC : Nat := 0x08000008
def R.MI_ESC_LINES : Fld := ⟨R.MI_ESC, 0, 8⟩
-- MI_STATUS (Table 18-6)
def R.MI_STATUS : Nat := 0x0800000C
def R.MI_STATUS_DEGRADED : Fld := ⟨R.MI_STATUS, 31, 1⟩
def R.MI_STATUS_REPAIR_PENDING : Fld := ⟨R.MI_STATUS, 30, 1⟩
def R.MI_STATUS_SCRUB_RUN : Fld := ⟨R.MI_STATUS, 29, 1⟩
def R.MI_STATUS_PEER_SRC : Fld := ⟨R.MI_STATUS, 28, 1⟩
def R.MI_STATUS_CMD_RES : Fld := ⟨R.MI_STATUS, 26, 2⟩
def R.MI_STATUS_SUBST_USED : Fld := ⟨R.MI_STATUS, 6, 7⟩
def R.MI_STATUS_REC_USED : Fld := ⟨R.MI_STATUS, 0, 6⟩
-- MI_CMD (Table 18-6)
def R.MI_CMD : Nat := 0x08000010
def R.MI_CMD_OP : Fld := ⟨R.MI_CMD, 28, 4⟩
-- MI_FLIP (Table 18-6)
def R.MI_FLIP : Nat := 0x08000014
def R.MI_FLIP_ARM : Fld := ⟨R.MI_FLIP, 31, 1⟩
def R.MI_FLIP_MACRO : Fld := ⟨R.MI_FLIP, 0, 7⟩
-- MI_FLIP_MASK (Table 18-6)
def R.MI_FLIP_MASK : Nat := 0x08000018
def R.MI_FLIP_MASK_MASK : Fld := ⟨R.MI_FLIP_MASK, 0, 32⟩
-- MI_FLIP_ADDR (Table 18-6)
def R.MI_FLIP_ADDR : Nat := 0x0800001C
def R.MI_FLIP_ADDR_MEM : Fld := ⟨R.MI_FLIP_ADDR, 30, 2⟩
def R.MI_FLIP_ADDR_LINE : Fld := ⟨R.MI_FLIP_ADDR, 0, 20⟩
-- MI_LAST (Table 18-6)
def R.MI_LAST : Nat := 0x08000020
def R.MI_LAST_MEM : Fld := ⟨R.MI_LAST, 30, 2⟩
def R.MI_LAST_OUTCOME : Fld := ⟨R.MI_LAST, 28, 2⟩
def R.MI_LAST_LINE : Fld := ⟨R.MI_LAST, 0, 20⟩
-- MI_REPAIR (Table 18-6)
def R.MI_REPAIR : Nat := 0x08000024
def R.MI_REPAIR_SOFT : Fld := ⟨R.MI_REPAIR, 16, 10⟩
def R.MI_REPAIR_PENDING : Fld := ⟨R.MI_REPAIR, 0, 10⟩
-- MI_CNT0 (Table 18-7)
def R.MI_CNT0 : Nat := 0x08000040
def R.MI_CNT0_REFETCH_OK : Fld := ⟨R.MI_CNT0, 16, 16⟩
def R.MI_CNT0_RECOMPUTE : Fld := ⟨R.MI_CNT0, 0, 16⟩
-- MI_CNT1 (Table 18-7)
def R.MI_CNT1 : Nat := 0x08000044
def R.MI_CNT1_PEER_FETCH : Fld := ⟨R.MI_CNT1, 16, 16⟩
def R.MI_CNT1_POISONED : Fld := ⟨R.MI_CNT1, 0, 16⟩
-- MI_CNT2 (Table 18-7)
def R.MI_CNT2 : Nat := 0x08000048
def R.MI_CNT2_CONSUMED : Fld := ⟨R.MI_CNT2, 16, 16⟩
def R.MI_CNT2_HARD : Fld := ⟨R.MI_CNT2, 0, 16⟩
-- MI_CNT3 (Table 18-7)
def R.MI_CNT3 : Nat := 0x0800004C
def R.MI_CNT3_TILE_FAIL : Fld := ⟨R.MI_CNT3, 24, 8⟩
def R.MI_CNT3_TILE_RESEAL : Fld := ⟨R.MI_CNT3, 16, 8⟩
def R.MI_CNT3_REC_FULL : Fld := ⟨R.MI_CNT3, 8, 8⟩
def R.MI_CNT3_SUBST_FULL : Fld := ⟨R.MI_CNT3, 0, 8⟩
-- MI_MACRO (Table 18-6)
def R.MI_MACRO (i : Nat) : Nat := 0x08000100 + i * 0x4
def R.MI_MACRO_ROW_USED (i : Nat) : Fld := ⟨R.MI_MACRO i, 24, 4⟩
def R.MI_MACRO_COL_USED (i : Nat) : Fld := ⟨R.MI_MACRO i, 20, 4⟩
def R.MI_MACRO_ROW_SOFT (i : Nat) : Fld := ⟨R.MI_MACRO i, 16, 4⟩
def R.MI_MACRO_COL_SOFT (i : Nat) : Fld := ⟨R.MI_MACRO i, 12, 4⟩
def R.MI_MACRO_FAULTS (i : Nat) : Fld := ⟨R.MI_MACRO i, 0, 12⟩

/-- The registers of this block, field by field (access, reset and stated range). -/
def regTableMi : List RegDesc := [
  ⟨"MI_CFG", 0x08000000, [], false,
    [⟨31, 1, .rwl, 0x1, none⟩,
     ⟨30, 1, .rwl, 0x1, none⟩]⟩,
  ⟨"MI_SCRUB", 0x08000004, [], false,
    [⟨20, 12, .rwl, 0x168, some (30, 4095)⟩,
     ⟨10, 10, .rwl, 0x3C, some (10, 1023)⟩,
     ⟨0, 10, .rwl, 0x168, some (10, 1023)⟩]⟩,
  ⟨"MI_ESC", 0x08000008, [], false,
    [⟨0, 8, .rwl, 0x10, some (1, 255)⟩]⟩,
  ⟨"MI_STATUS", 0x0800000C, [], false,
    [⟨31, 1, .ro, 0x0, none⟩,
     ⟨30, 1, .ro, 0x0, none⟩,
     ⟨29, 1, .ro, 0x0, none⟩,
     ⟨28, 1, .ro, 0x0, none⟩,
     ⟨26, 2, .ro, 0x0, none⟩,
     ⟨6, 7, .ro, 0x0, none⟩,
     ⟨0, 6, .ro, 0x0, none⟩]⟩,
  ⟨"MI_CMD", 0x08000010, [], false,
    [⟨28, 4, .wo, 0x0, none⟩]⟩,
  ⟨"MI_FLIP", 0x08000014, [], false,
    [⟨31, 1, .rw, 0x0, none⟩,
     ⟨0, 7, .rw, 0x0, none⟩]⟩,
  ⟨"MI_FLIP_MASK", 0x08000018, [], false,
    [⟨0, 32, .rw, 0x1, none⟩]⟩,
  ⟨"MI_FLIP_ADDR", 0x0800001C, [], false,
    [⟨30, 2, .ro, 0x3, none⟩,
     ⟨0, 20, .ro, 0x0, none⟩]⟩,
  ⟨"MI_LAST", 0x08000020, [], false,
    [⟨30, 2, .ro, 0x3, none⟩,
     ⟨28, 2, .ro, 0x0, none⟩,
     ⟨0, 20, .ro, 0x0, none⟩]⟩,
  ⟨"MI_REPAIR", 0x08000024, [], false,
    [⟨16, 10, .ro, 0x0, none⟩,
     ⟨0, 10, .ro, 0x0, none⟩]⟩,
  ⟨"MI_CNT0", 0x08000040, [], false,
    [⟨16, 16, .rc, 0x0, none⟩,
     ⟨0, 16, .rc, 0x0, none⟩]⟩,
  ⟨"MI_CNT1", 0x08000044, [], false,
    [⟨16, 16, .rc, 0x0, none⟩,
     ⟨0, 16, .rc, 0x0, none⟩]⟩,
  ⟨"MI_CNT2", 0x08000048, [], false,
    [⟨16, 16, .rc, 0x0, none⟩,
     ⟨0, 16, .rc, 0x0, none⟩]⟩,
  ⟨"MI_CNT3", 0x0800004C, [], false,
    [⟨24, 8, .rc, 0x0, none⟩,
     ⟨16, 8, .rc, 0x0, none⟩,
     ⟨8, 8, .rc, 0x0, none⟩,
     ⟨0, 8, .rc, 0x0, none⟩]⟩,
  ⟨"MI_MACRO", 0x08000100, [(108, 0x4)], false,
    [⟨24, 4, .ro, 0x0, none⟩,
     ⟨20, 4, .ro, 0x0, none⟩,
     ⟨16, 4, .ro, 0x0, none⟩,
     ⟨12, 4, .ro, 0x0, none⟩,
     ⟨0, 12, .ro, 0x0, none⟩]⟩]

/-! Block Eth -/

-- ETH_CTRL (Table 14-5)
def R.ETH_CTRL (i : Nat) : Nat := 0x09000000 + i * 0x1000
def R.ETH_CTRL_EN (i : Nat) : Fld := ⟨R.ETH_CTRL i, 31, 1⟩
def R.ETH_CTRL_SPEED (i : Nat) : Fld := ⟨R.ETH_CTRL i, 29, 2⟩
def R.ETH_CTRL_PREEMPT (i : Nat) : Fld := ⟨R.ETH_CTRL i, 28, 1⟩
def R.ETH_CTRL_FRAG_SZ (i : Nat) : Fld := ⟨R.ETH_CTRL i, 26, 2⟩
def R.ETH_CTRL_EXPRESS (i : Nat) : Fld := ⟨R.ETH_CTRL i, 16, 8⟩
def R.ETH_CTRL_UNTAG_TC (i : Nat) : Fld := ⟨R.ETH_CTRL i, 12, 3⟩
def R.ETH_CTRL_VLAN_ID (i : Nat) : Fld := ⟨R.ETH_CTRL i, 0, 12⟩
-- ETH_MAC_LO (Table 14-5)
def R.ETH_MAC_LO (i : Nat) : Nat := 0x09000008 + i * 0x1000
def R.ETH_MAC_LO_MAC (i : Nat) : Fld := ⟨R.ETH_MAC_LO i, 0, 32⟩
-- ETH_MAC_HI (Table 14-5)
def R.ETH_MAC_HI (i : Nat) : Nat := 0x0900000C + i * 0x1000
def R.ETH_MAC_HI_MAC (i : Nat) : Fld := ⟨R.ETH_MAC_HI i, 0, 16⟩
-- ETH_GW_LO (Table 14-5)
def R.ETH_GW_LO (i : Nat) : Nat := 0x09000010 + i * 0x1000
def R.ETH_GW_LO_MAC (i : Nat) : Fld := ⟨R.ETH_GW_LO i, 0, 32⟩
-- ETH_GW_HI (Table 14-5)
def R.ETH_GW_HI (i : Nat) : Nat := 0x09000014 + i * 0x1000
def R.ETH_GW_HI_MAC (i : Nat) : Fld := ⟨R.ETH_GW_HI i, 0, 16⟩
-- ETH_PTP_DLY (Table 14-5)
def R.ETH_PTP_DLY (i : Nat) : Nat := 0x09000018 + i * 0x1000
def R.ETH_PTP_DLY_TX (i : Nat) : Fld := ⟨R.ETH_PTP_DLY i, 16, 16⟩
def R.ETH_PTP_DLY_RX (i : Nat) : Fld := ⟨R.ETH_PTP_DLY i, 0, 16⟩
-- ETH_STATUS (Table 14-5)
def R.ETH_STATUS (i : Nat) : Nat := 0x09000020 + i * 0x1000
def R.ETH_STATUS_PREEMPT_ACT (i : Nat) : Fld := ⟨R.ETH_STATUS i, 3, 1⟩
def R.ETH_STATUS_SPEED (i : Nat) : Fld := ⟨R.ETH_STATUS i, 1, 2⟩
def R.ETH_STATUS_LINK (i : Nat) : Fld := ⟨R.ETH_STATUS i, 0, 1⟩
-- ETH_CNT0 (Table 14-6)
def R.ETH_CNT0 (i : Nat) : Nat := 0x09000040 + i * 0x1000
def R.ETH_CNT0_VLAN_DROP (i : Nat) : Fld := ⟨R.ETH_CNT0 i, 16, 16⟩
def R.ETH_CNT0_FCS_ERR (i : Nat) : Fld := ⟨R.ETH_CNT0 i, 0, 16⟩
-- ETH_CNT1 (Table 14-6)
def R.ETH_CNT1 (i : Nat) : Nat := 0x09000044 + i * 0x1000
def R.ETH_CNT1_OVERSIZE (i : Nat) : Fld := ⟨R.ETH_CNT1 i, 16, 16⟩
def R.ETH_CNT1_EGR_DROP (i : Nat) : Fld := ⟨R.ETH_CNT1 i, 0, 16⟩
-- ETH_CNT2 (Table 14-6)
def R.ETH_CNT2 (i : Nat) : Nat := 0x09000048 + i * 0x1000
def R.ETH_CNT2_PREEMPTED (i : Nat) : Fld := ⟨R.ETH_CNT2 i, 16, 16⟩
def R.ETH_CNT2_PREEMPT_FAIL (i : Nat) : Fld := ⟨R.ETH_CNT2 i, 0, 16⟩

/-- The registers of this block, field by field (access, reset and stated range). -/
def regTableEth : List RegDesc := [
  ⟨"ETH_CTRL", 0x09000000, [(2, 0x1000)], false,
    [⟨31, 1, .rwl, 0x0, none⟩,
     ⟨29, 2, .rwl, 0x2, some (0, 2)⟩,
     ⟨28, 1, .rwl, 0x1, none⟩,
     ⟨26, 2, .rwl, 0x0, none⟩,
     ⟨16, 8, .rwl, 0x1, none⟩,
     ⟨12, 3, .rwl, 0x7, none⟩,
     ⟨0, 12, .rwl, 0x0, none⟩]⟩,
  ⟨"ETH_MAC_LO", 0x09000008, [(2, 0x1000)], false,
    [⟨0, 32, .rwl, 0x0, none⟩]⟩,
  ⟨"ETH_MAC_HI", 0x0900000C, [(2, 0x1000)], false,
    [⟨0, 16, .rwl, 0x0, none⟩]⟩,
  ⟨"ETH_GW_LO", 0x09000010, [(2, 0x1000)], false,
    [⟨0, 32, .rwl, 0x0, none⟩]⟩,
  ⟨"ETH_GW_HI", 0x09000014, [(2, 0x1000)], false,
    [⟨0, 16, .rwl, 0x0, none⟩]⟩,
  ⟨"ETH_PTP_DLY", 0x09000018, [(2, 0x1000)], false,
    [⟨16, 16, .rwl, 0x0, none⟩,
     ⟨0, 16, .rwl, 0x0, none⟩]⟩,
  ⟨"ETH_STATUS", 0x09000020, [(2, 0x1000)], false,
    [⟨3, 1, .ro, 0x0, none⟩,
     ⟨1, 2, .ro, 0x0, none⟩,
     ⟨0, 1, .ro, 0x0, none⟩]⟩,
  ⟨"ETH_CNT0", 0x09000040, [(2, 0x1000)], false,
    [⟨16, 16, .rc, 0x0, none⟩,
     ⟨0, 16, .rc, 0x0, none⟩]⟩,
  ⟨"ETH_CNT1", 0x09000044, [(2, 0x1000)], false,
    [⟨16, 16, .rc, 0x0, none⟩,
     ⟨0, 16, .rc, 0x0, none⟩]⟩,
  ⟨"ETH_CNT2", 0x09000048, [(2, 0x1000)], false,
    [⟨16, 16, .rc, 0x0, none⟩,
     ⟨0, 16, .rc, 0x0, none⟩]⟩]

/-! Block Border -/

-- BR_CFG (Table 14-5)
def R.BR_CFG : Nat := 0x09002000
def R.BR_CFG_PORTSEL : Fld := ⟨R.BR_CFG, 30, 2⟩
def R.BR_CFG_L2_MAX : Fld := ⟨R.BR_CFG, 12, 11⟩
def R.BR_CFG_RS_TMO : Fld := ⟨R.BR_CFG, 0, 8⟩
-- BR_PCP2TC (Table 14-5)
def R.BR_PCP2TC : Nat := 0x09002004
def R.BR_PCP2TC_MAP : Fld := ⟨R.BR_PCP2TC, 0, 24⟩
-- BR_TC2PCP (Table 14-5)
def R.BR_TC2PCP : Nat := 0x09002008
def R.BR_TC2PCP_MAP : Fld := ⟨R.BR_TC2PCP, 0, 24⟩
-- BR_PFX_LO (Table 14-5)
def R.BR_PFX_LO : Nat := 0x09002010
def R.BR_PFX_LO_PFX : Fld := ⟨R.BR_PFX_LO, 4, 28⟩
-- BR_PFX_HI (Table 14-5)
def R.BR_PFX_HI : Nat := 0x09002014
def R.BR_PFX_HI_PFX : Fld := ⟨R.BR_PFX_HI, 0, 32⟩
-- BR_IID_LO (Table 14-5)
def R.BR_IID_LO : Nat := 0x09002018
def R.BR_IID_LO_IID : Fld := ⟨R.BR_IID_LO, 0, 32⟩
-- BR_IID_HI (Table 14-5)
def R.BR_IID_HI : Nat := 0x0900201C
def R.BR_IID_HI_IID : Fld := ⟨R.BR_IID_HI, 0, 32⟩
-- BR_STATUS (Table 14-5)
def R.BR_STATUS : Nat := 0x09002020
def R.BR_STATUS_RS_USED : Fld := ⟨R.BR_STATUS, 0, 11⟩
-- BR_CNT0 (Table 14-6)
def R.BR_CNT0 : Nat := 0x09002040
def R.BR_CNT0_DST_UNKNOWN : Fld := ⟨R.BR_CNT0, 16, 16⟩
def R.BR_CNT0_NOT_MESH : Fld := ⟨R.BR_CNT0, 0, 16⟩
-- BR_CNT1 (Table 14-6)
def R.BR_CNT1 : Nat := 0x09002044
def R.BR_CNT1_SRC_SPOOF : Fld := ⟨R.BR_CNT1, 16, 16⟩
def R.BR_CNT1_DECOMP_ERR : Fld := ⟨R.BR_CNT1, 0, 16⟩
-- BR_CNT2 (Table 14-6)
def R.BR_CNT2 : Nat := 0x09002048
def R.BR_CNT2_TOO_BIG : Fld := ⟨R.BR_CNT2, 24, 8⟩
def R.BR_CNT2_RS_BAD : Fld := ⟨R.BR_CNT2, 16, 8⟩
def R.BR_CNT2_RS_FULL : Fld := ⟨R.BR_CNT2, 8, 8⟩
def R.BR_CNT2_RS_TIMEOUT : Fld := ⟨R.BR_CNT2, 0, 8⟩
-- BR_CNT3 (Table 14-6)
def R.BR_CNT3 : Nat := 0x0900204C
def R.BR_CNT3_LOOPBACK : Fld := ⟨R.BR_CNT3, 16, 16⟩

/-- The registers of this block, field by field (access, reset and stated range). -/
def regTableBorder : List RegDesc := [
  ⟨"BR_CFG", 0x09002000, [], false,
    [⟨30, 2, .rwl, 0x2, none⟩,
     ⟨12, 11, .rwl, 0x7FF, some (127, 2047)⟩,
     ⟨0, 8, .rwl, 0x3C, some (1, 255)⟩]⟩,
  ⟨"BR_PCP2TC", 0x09002004, [], false,
    [⟨0, 24, .rwl, 0x53977, none⟩]⟩,
  ⟨"BR_TC2PCP", 0x09002008, [], false,
    [⟨0, 24, .rwl, 0x53977, none⟩]⟩,
  ⟨"BR_PFX_LO", 0x09002010, [], false,
    [⟨4, 28, .rwl, 0x0, none⟩]⟩,
  ⟨"BR_PFX_HI", 0x09002014, [], false,
    [⟨0, 32, .rwl, 0x0, none⟩]⟩,
  ⟨"BR_IID_LO", 0x09002018, [], false,
    [⟨0, 32, .rwl, 0x0, none⟩]⟩,
  ⟨"BR_IID_HI", 0x0900201C, [], false,
    [⟨0, 32, .rwl, 0x0, none⟩]⟩,
  ⟨"BR_STATUS", 0x09002020, [], false,
    [⟨0, 11, .ro, 0x0, none⟩]⟩,
  ⟨"BR_CNT0", 0x09002040, [], false,
    [⟨16, 16, .rc, 0x0, none⟩,
     ⟨0, 16, .rc, 0x0, none⟩]⟩,
  ⟨"BR_CNT1", 0x09002044, [], false,
    [⟨16, 16, .rc, 0x0, none⟩,
     ⟨0, 16, .rc, 0x0, none⟩]⟩,
  ⟨"BR_CNT2", 0x09002048, [], false,
    [⟨24, 8, .rc, 0x0, none⟩,
     ⟨16, 8, .rc, 0x0, none⟩,
     ⟨8, 8, .rc, 0x0, none⟩,
     ⟨0, 8, .rc, 0x0, none⟩]⟩,
  ⟨"BR_CNT3", 0x0900204C, [], false,
    [⟨16, 16, .rc, 0x0, none⟩]⟩]

/-! Block App -/

-- APP_CTRL (Table 16-7)
def R.APP_CTRL : Nat := 0x0A000000
def R.APP_CTRL_HOLD : Fld := ⟨R.APP_CTRL, 0, 1⟩
-- APP_STAT (Table 16-7)
def R.APP_STAT : Nat := 0x0A000004
def R.APP_STAT_STATE : Fld := ⟨R.APP_STAT, 30, 2⟩
def R.APP_STAT_HELD : Fld := ⟨R.APP_STAT, 29, 1⟩
-- WDOG_CFG (Table 16-7)
def R.WDOG_CFG : Nat := 0x0A000008
def R.WDOG_CFG_EN : Fld := ⟨R.WDOG_CFG, 31, 1⟩
def R.WDOG_CFG_LIMIT : Fld := ⟨R.WDOG_CFG, 20, 4⟩
def R.WDOG_CFG_TIMEOUT : Fld := ⟨R.WDOG_CFG, 0, 16⟩
-- WDOG_KICK (Table 16-7)
def R.WDOG_KICK : Nat := 0x0A00000C
def R.WDOG_KICK_KEY : Fld := ⟨R.WDOG_KICK, 0, 32⟩
-- WDOG_STAT (Table 16-7)
def R.WDOG_STAT : Nat := 0x0A000010
def R.WDOG_STAT_WARN : Fld := ⟨R.WDOG_STAT, 31, 1⟩
def R.WDOG_STAT_RESETS : Fld := ⟨R.WDOG_STAT, 16, 4⟩
def R.WDOG_STAT_COUNT : Fld := ⟨R.WDOG_STAT, 0, 16⟩
-- CPU_STAT (Table 16-7)
def R.CPU_STAT (i : Nat) : Nat := 0x0A000020 + i * 0x4
def R.CPU_STAT_STATE (i : Nat) : Fld := ⟨R.CPU_STAT i, 30, 2⟩
def R.CPU_STAT_RESETS (i : Nat) : Fld := ⟨R.CPU_STAT i, 16, 8⟩
def R.CPU_STAT_HEARTBEAT (i : Nat) : Fld := ⟨R.CPU_STAT i, 0, 16⟩
-- APP_CNT (Table 16-7)
def R.APP_CNT : Nat := 0x0A000040
def R.APP_CNT_BAD_KICK : Fld := ⟨R.APP_CNT, 16, 16⟩
def R.APP_CNT_PARITY : Fld := ⟨R.APP_CNT, 8, 8⟩
def R.APP_CNT_FWD_DROP : Fld := ⟨R.APP_CNT, 0, 8⟩
-- MB_TX_DATA (Table 16-7)
def R.MB_TX_DATA (i : Nat) : Nat := 0x0A000100 + i * 0x4
def R.MB_TX_DATA_DATA (i : Nat) : Fld := ⟨R.MB_TX_DATA i, 0, 32⟩
-- MB_TX_PUSH (Table 16-7)
def R.MB_TX_PUSH : Nat := 0x0A000120
def R.MB_TX_PUSH_END : Fld := ⟨R.MB_TX_PUSH, 0, 1⟩
-- MB_TX_STAT (Table 16-7)
def R.MB_TX_STAT : Nat := 0x0A000124
def R.MB_TX_STAT_FULL_ERR : Fld := ⟨R.MB_TX_STAT, 31, 1⟩
def R.MB_TX_STAT_ROOM : Fld := ⟨R.MB_TX_STAT, 0, 11⟩
-- MB_RX_DATA (Table 16-7)
def R.MB_RX_DATA (i : Nat) : Nat := 0x0A000140 + i * 0x4
def R.MB_RX_DATA_DATA (i : Nat) : Fld := ⟨R.MB_RX_DATA i, 0, 32⟩
-- MB_RX_POP (Table 16-7)
def R.MB_RX_POP : Nat := 0x0A000160
def R.MB_RX_POP_ANY : Fld := ⟨R.MB_RX_POP, 0, 32⟩
-- MB_RX_STAT (Table 16-7)
def R.MB_RX_STAT : Nat := 0x0A000164
def R.MB_RX_STAT_UNDERRUN : Fld := ⟨R.MB_RX_STAT, 31, 1⟩
def R.MB_RX_STAT_END : Fld := ⟨R.MB_RX_STAT, 30, 1⟩
def R.MB_RX_STAT_ITEMS : Fld := ⟨R.MB_RX_STAT, 0, 11⟩
-- GPIO_OUT (Table 16-7)
def R.GPIO_OUT : Nat := 0x0A000200
def R.GPIO_OUT_BITS : Fld := ⟨R.GPIO_OUT, 0, 32⟩
-- GPIO_OE (Table 16-7)
def R.GPIO_OE : Nat := 0x0A000204
def R.GPIO_OE_BITS : Fld := ⟨R.GPIO_OE, 0, 32⟩
-- GPIO_IN (Table 16-7)
def R.GPIO_IN : Nat := 0x0A000208
def R.GPIO_IN_BITS : Fld := ⟨R.GPIO_IN, 0, 32⟩
-- GPIO_SET (Table 16-7)
def R.GPIO_SET : Nat := 0x0A00020C
def R.GPIO_SET_BITS : Fld := ⟨R.GPIO_SET, 0, 32⟩
-- GPIO_CLR (Table 16-7)
def R.GPIO_CLR : Nat := 0x0A000210
def R.GPIO_CLR_BITS : Fld := ⟨R.GPIO_CLR, 0, 32⟩
-- GPIO_CFG (Table 16-7)
def R.GPIO_CFG (i : Nat) : Nat := 0x0A000280 + i * 0x4
def R.GPIO_CFG_TMR (i : Nat) : Fld := ⟨R.GPIO_CFG i, 4, 5⟩
def R.GPIO_CFG_FUNC (i : Nat) : Fld := ⟨R.GPIO_CFG i, 3, 1⟩
def R.GPIO_CFG_IRQ (i : Nat) : Fld := ⟨R.GPIO_CFG i, 0, 3⟩
-- AIC_CLAIM (Table 16-7)
def R.AIC_CLAIM : Nat := 0x0A001000
def R.AIC_CLAIM_PRIO : Fld := ⟨R.AIC_CLAIM, 16, 4⟩
def R.AIC_CLAIM_SRC : Fld := ⟨R.AIC_CLAIM, 0, 10⟩
-- AIC_EOI (Table 16-7)
def R.AIC_EOI : Nat := 0x0A001004
def R.AIC_EOI_SRC : Fld := ⟨R.AIC_EOI, 0, 10⟩
-- AIC_GDIS (Table 16-7)
def R.AIC_GDIS : Nat := 0x0A001008
def R.AIC_GDIS_GDIS : Fld := ⟨R.AIC_GDIS, 0, 1⟩
-- AIC_RUN (Table 16-7)
def R.AIC_RUN : Nat := 0x0A00100C
def R.AIC_RUN_DEPTH : Fld := ⟨R.AIC_RUN, 16, 5⟩
def R.AIC_RUN_PRIO : Fld := ⟨R.AIC_RUN, 0, 5⟩
-- AIC_SWI (Table 16-7)
def R.AIC_SWI : Nat := 0x0A001010
def R.AIC_SWI_SWI : Fld := ⟨R.AIC_SWI, 0, 16⟩
-- AIC_EN (Table 16-7)
def R.AIC_EN (i : Nat) : Nat := 0x0A001080 + i * 0x4
def R.AIC_EN_BITS (i : Nat) : Fld := ⟨R.AIC_EN i, 0, 32⟩
-- AIC_PEND (Table 16-7)
def R.AIC_PEND (i : Nat) : Nat := 0x0A001100 + i * 0x4
def R.AIC_PEND_BITS (i : Nat) : Fld := ⟨R.AIC_PEND i, 0, 32⟩
-- AIC_ACT (Table 16-7)
def R.AIC_ACT (i : Nat) : Nat := 0x0A001180 + i * 0x4
def R.AIC_ACT_BITS (i : Nat) : Fld := ⟨R.AIC_ACT i, 0, 32⟩
-- AIC_SRC (Table 16-7)
def R.AIC_SRC (i : Nat) : Nat := 0x0A001200 + i * 0x4
def R.AIC_SRC_PRIO (i : Nat) : Fld := ⟨R.AIC_SRC i, 0, 4⟩
-- AIC_CNT (Table 16-7)
def R.AIC_CNT : Nat := 0x0A001600
def R.AIC_CNT_NONE : Fld := ⟨R.AIC_CNT, 16, 16⟩
def R.AIC_CNT_EOI_MISMATCH : Fld := ⟨R.AIC_CNT, 8, 8⟩
def R.AIC_CNT_EOI_EMPTY : Fld := ⟨R.AIC_CNT, 0, 8⟩

/-- The registers of this block, field by field (access, reset and stated range). -/
def regTableApp : List RegDesc := [
  ⟨"APP_CTRL", 0x0A000000, [], false,
    [⟨0, 1, .rw, 0x0, none⟩]⟩,
  ⟨"APP_STAT", 0x0A000004, [], false,
    [⟨30, 2, .ro, 0x0, none⟩,
     ⟨29, 1, .ro, 0x0, none⟩]⟩,
  ⟨"WDOG_CFG", 0x0A000008, [], false,
    [⟨31, 1, .rwl, 0x0, none⟩,
     ⟨20, 4, .rwl, 0x3, none⟩,
     ⟨0, 16, .rwl, 0x3E8, none⟩]⟩,
  ⟨"WDOG_KICK", 0x0A00000C, [], false,
    [⟨0, 32, .wo, 0x0, none⟩]⟩,
  ⟨"WDOG_STAT", 0x0A000010, [], false,
    [⟨31, 1, .ro, 0x0, none⟩,
     ⟨16, 4, .ro, 0x0, none⟩,
     ⟨0, 16, .ro, 0x0, none⟩]⟩,
  ⟨"CPU_STAT", 0x0A000020, [(4, 0x4)], false,
    [⟨30, 2, .ro, 0x0, none⟩,
     ⟨16, 8, .ro, 0x0, none⟩,
     ⟨0, 16, .ro, 0x0, none⟩]⟩,
  ⟨"APP_CNT", 0x0A000040, [], false,
    [⟨16, 16, .rc, 0x0, none⟩,
     ⟨8, 8, .rc, 0x0, none⟩,
     ⟨0, 8, .rc, 0x0, none⟩]⟩,
  ⟨"MB_TX_DATA", 0x0A000100, [(8, 0x4)], false,
    [⟨0, 32, .rw, 0x0, none⟩]⟩,
  ⟨"MB_TX_PUSH", 0x0A000120, [], false,
    [⟨0, 1, .wo, 0x0, none⟩]⟩,
  ⟨"MB_TX_STAT", 0x0A000124, [], false,
    [⟨31, 1, .w1c, 0x0, none⟩,
     ⟨0, 11, .ro, 0x400, none⟩]⟩,
  ⟨"MB_RX_DATA", 0x0A000140, [(8, 0x4)], false,
    [⟨0, 32, .ro, 0x0, none⟩]⟩,
  ⟨"MB_RX_POP", 0x0A000160, [], false,
    [⟨0, 32, .wo, 0x0, none⟩]⟩,
  ⟨"MB_RX_STAT", 0x0A000164, [], false,
    [⟨31, 1, .w1c, 0x0, none⟩,
     ⟨30, 1, .ro, 0x0, none⟩,
     ⟨0, 11, .ro, 0x0, none⟩]⟩,
  ⟨"GPIO_OUT", 0x0A000200, [], false,
    [⟨0, 32, .rw, 0x0, none⟩]⟩,
  ⟨"GPIO_OE", 0x0A000204, [], false,
    [⟨0, 32, .rw, 0x0, none⟩]⟩,
  ⟨"GPIO_IN", 0x0A000208, [], false,
    [⟨0, 32, .ro, 0x0, none⟩]⟩,
  ⟨"GPIO_SET", 0x0A00020C, [], false,
    [⟨0, 32, .wo, 0x0, none⟩]⟩,
  ⟨"GPIO_CLR", 0x0A000210, [], false,
    [⟨0, 32, .wo, 0x0, none⟩]⟩,
  ⟨"GPIO_CFG", 0x0A000280, [(32, 0x4)], false,
    [⟨4, 5, .rw, 0x0, none⟩,
     ⟨3, 1, .rw, 0x0, none⟩,
     ⟨0, 3, .rw, 0x0, none⟩]⟩,
  ⟨"AIC_CLAIM", 0x0A001000, [], false,
    [⟨16, 4, .ro, 0x0, none⟩,
     ⟨0, 10, .ro, 0x3FF, none⟩]⟩,
  ⟨"AIC_EOI", 0x0A001004, [], false,
    [⟨0, 10, .wo, 0x0, none⟩]⟩,
  ⟨"AIC_GDIS", 0x0A001008, [], false,
    [⟨0, 1, .rw, 0x0, none⟩]⟩,
  ⟨"AIC_RUN", 0x0A00100C, [], false,
    [⟨16, 5, .ro, 0x0, none⟩,
     ⟨0, 5, .ro, 0x10, none⟩]⟩,
  ⟨"AIC_SWI", 0x0A001010, [], false,
    [⟨0, 16, .w1s, 0x0, none⟩]⟩,
  ⟨"AIC_EN", 0x0A001080, [(8, 0x4)], false,
    [⟨0, 32, .rw, 0x0, none⟩]⟩,
  ⟨"AIC_PEND", 0x0A001100, [(8, 0x4)], false,
    [⟨0, 32, .ro, 0x0, none⟩]⟩,
  ⟨"AIC_ACT", 0x0A001180, [(8, 0x4)], false,
    [⟨0, 32, .ro, 0x0, none⟩]⟩,
  ⟨"AIC_SRC", 0x0A001200, [(256, 0x4)], false,
    [⟨0, 4, .rw, 0xF, none⟩]⟩,
  ⟨"AIC_CNT", 0x0A001600, [], false,
    [⟨16, 16, .rc, 0x0, none⟩,
     ⟨8, 8, .rc, 0x0, none⟩,
     ⟨0, 8, .rc, 0x0, none⟩]⟩]

/-! Block Upd -/

-- UPD_CMD (Table 20-7)
def R.UPD_CMD : Nat := 0x0B000000
def R.UPD_CMD_OP : Fld := ⟨R.UPD_CMD, 28, 4⟩
def R.UPD_CMD_SWAP : Fld := ⟨R.UPD_CMD, 27, 1⟩
def R.UPD_CMD_COMP : Fld := ⟨R.UPD_CMD, 0, 3⟩
-- UPD_STATUS (Table 20-7)
def R.UPD_STATUS : Nat := 0x0B000004
def R.UPD_STATUS_STATE : Fld := ⟨R.UPD_STATUS, 28, 4⟩
def R.UPD_STATUS_COMP : Fld := ⟨R.UPD_STATUS, 25, 3⟩
def R.UPD_STATUS_REASON : Fld := ⟨R.UPD_STATUS, 16, 8⟩
def R.UPD_STATUS_RESULT : Fld := ⟨R.UPD_STATUS, 12, 4⟩
-- UPD_PROB (Table 20-7)
def R.UPD_PROB : Nat := 0x0B000008
def R.UPD_PROB_SECONDS : Fld := ⟨R.UPD_PROB, 0, 17⟩
-- UPD_CONFIRM (Table 20-7)
def R.UPD_CONFIRM : Nat := 0x0B00000C
def R.UPD_CONFIRM_KEY : Fld := ⟨R.UPD_CONFIRM, 8, 24⟩
def R.UPD_CONFIRM_COMP : Fld := ⟨R.UPD_CONFIRM, 0, 3⟩
-- UPD_LEFT (Table 20-7)
def R.UPD_LEFT : Nat := 0x0B000010
def R.UPD_LEFT_SECONDS : Fld := ⟨R.UPD_LEFT, 0, 17⟩
-- UPD_CFGSEQ_LO (Table 20-7)
def R.UPD_CFGSEQ_LO : Nat := 0x0B000014
def R.UPD_CFGSEQ_LO_SEQ : Fld := ⟨R.UPD_CFGSEQ_LO, 0, 32⟩
-- UPD_CFGSEQ_HI (Table 20-7)
def R.UPD_CFGSEQ_HI : Nat := 0x0B000018
def R.UPD_CFGSEQ_HI_SEQ : Fld := ⟨R.UPD_CFGSEQ_HI, 0, 32⟩
-- UPD_CNT (Table 20-7)
def R.UPD_CNT : Nat := 0x0B000040
def R.UPD_CNT_FALLBACKS : Fld := ⟨R.UPD_CNT, 24, 8⟩
def R.UPD_CNT_CONFIRMED : Fld := ⟨R.UPD_CNT, 16, 8⟩
def R.UPD_CNT_BAD_CMD : Fld := ⟨R.UPD_CNT, 8, 8⟩
def R.UPD_CNT_BAD_CONFIRM : Fld := ⟨R.UPD_CNT, 0, 8⟩
-- UPD_RUNVER (Table 20-7)
def R.UPD_RUNVER (i : Nat) : Nat := 0x0B000100 + i * 0x4
def R.UPD_RUNVER_VERSION (i : Nat) : Fld := ⟨R.UPD_RUNVER i, 0, 32⟩
-- UPD_RUNIF (Table 20-7)
def R.UPD_RUNIF (i : Nat) : Nat := 0x0B000120 + i * 0x4
def R.UPD_RUNIF_IFV (i : Nat) : Fld := ⟨R.UPD_RUNIF i, 24, 8⟩
def R.UPD_RUNIF_LAYOUT (i : Nat) : Fld := ⟨R.UPD_RUNIF i, 16, 8⟩
def R.UPD_RUNIF_ROLLBACK (i : Nat) : Fld := ⟨R.UPD_RUNIF i, 8, 8⟩

/-- The registers of this block, field by field (access, reset and stated range). -/
def regTableUpd : List RegDesc := [
  ⟨"UPD_CMD", 0x0B000000, [], false,
    [⟨28, 4, .wo, 0x0, none⟩,
     ⟨27, 1, .wo, 0x0, none⟩,
     ⟨0, 3, .wo, 0x0, none⟩]⟩,
  ⟨"UPD_STATUS", 0x0B000004, [], false,
    [⟨28, 4, .ro, 0x0, none⟩,
     ⟨25, 3, .ro, 0x0, none⟩,
     ⟨16, 8, .ro, 0x0, none⟩,
     ⟨12, 4, .ro, 0x0, none⟩]⟩,
  ⟨"UPD_PROB", 0x0B000008, [], false,
    [⟨0, 17, .rw, 0x384, none⟩]⟩,
  ⟨"UPD_CONFIRM", 0x0B00000C, [], false,
    [⟨8, 24, .wo, 0x0, none⟩,
     ⟨0, 3, .wo, 0x0, none⟩]⟩,
  ⟨"UPD_LEFT", 0x0B000010, [], false,
    [⟨0, 17, .ro, 0x0, none⟩]⟩,
  ⟨"UPD_CFGSEQ_LO", 0x0B000014, [], false,
    [⟨0, 32, .ro, 0x0, none⟩]⟩,
  ⟨"UPD_CFGSEQ_HI", 0x0B000018, [], false,
    [⟨0, 32, .ro, 0x0, none⟩]⟩,
  ⟨"UPD_CNT", 0x0B000040, [], false,
    [⟨24, 8, .rc, 0x0, none⟩,
     ⟨16, 8, .rc, 0x0, none⟩,
     ⟨8, 8, .rc, 0x0, none⟩,
     ⟨0, 8, .rc, 0x0, none⟩]⟩,
  ⟨"UPD_RUNVER", 0x0B000100, [(6, 0x4)], false,
    [⟨0, 32, .ro, 0x0, none⟩]⟩,
  ⟨"UPD_RUNIF", 0x0B000120, [(6, 0x4)], false,
    [⟨24, 8, .ro, 0x0, none⟩,
     ⟨16, 8, .ro, 0x0, none⟩,
     ⟨8, 8, .ro, 0x0, none⟩]⟩]

end Sys2Proof.Machine
end

