-- ==== Sys2Proof/Machine/RegsRadio.lean ====
section
/-!
DEFINITION. Register names and tables of BAR0, written from the register tables of the spec:
for each register its BAR0 offset `R.<REGISTER>` and for each field `R.<REGISTER>_<FIELD>`,
under the spec's own names; then one table a block. Arguments `i j k` are the register's indexes
in the order of the offset expression of its table; `q` is the requester of a banked register.
-/

namespace Sys2Proof.Machine

/-! Block Trx -/

-- TRX_CTRL (Table 4-6)
def R.TRX_CTRL (i : Nat) : Nat := 0x01000000 + i * 0x10000
def R.TRX_CTRL_ENABLE (i : Nat) : Fld := ⟨R.TRX_CTRL i, 0, 1⟩
-- SYNTH_FREQ (Table 4-6)
def R.SYNTH_FREQ (i : Nat) : Nat := 0x01000004 + i * 0x10000
def R.SYNTH_FREQ_FREQ (i : Nat) : Fld := ⟨R.SYNTH_FREQ i, 0, 22⟩
-- SYNTH_CUR (Table 4-6)
def R.SYNTH_CUR (i : Nat) : Nat := 0x01000008 + i * 0x10000
def R.SYNTH_CUR_FREQ (i : Nat) : Fld := ⟨R.SYNTH_CUR i, 0, 22⟩
-- SYNTH_STATUS (Table 4-7)
def R.SYNTH_STATUS (i : Nat) : Nat := 0x0100000C + i * 0x10000
def R.SYNTH_STATUS_OOS (i : Nat) : Fld := ⟨R.SYNTH_STATUS i, 3, 1⟩
def R.SYNTH_STATUS_CAL (i : Nat) : Fld := ⟨R.SYNTH_STATUS i, 2, 1⟩
def R.SYNTH_STATUS_RETUNE (i : Nat) : Fld := ⟨R.SYNTH_STATUS i, 1, 1⟩
def R.SYNTH_STATUS_LOCK (i : Nat) : Fld := ⟨R.SYNTH_STATUS i, 0, 1⟩
-- SYNTH_LOCK (Table 4-6)
def R.SYNTH_LOCK (i : Nat) : Nat := 0x01000010 + i * 0x10000
def R.SYNTH_LOCK_LOCK_TIMEOUT (i : Nat) : Fld := ⟨R.SYNTH_LOCK i, 0, 10⟩
-- TX_TIMING (Table 4-8)
def R.TX_TIMING (i : Nat) : Nat := 0x01000014 + i * 0x10000
def R.TX_TIMING_FE_LEAD (i : Nat) : Fld := ⟨R.TX_TIMING i, 8, 4⟩
def R.TX_TIMING_T_RAMP (i : Nat) : Fld := ⟨R.TX_TIMING i, 0, 6⟩
-- FE_CTRL (Table 4-9)
def R.FE_CTRL (i : Nat) : Nat := 0x01000018 + i * 0x10000
def R.FE_CTRL_LNA_RX (i : Nat) : Fld := ⟨R.FE_CTRL i, 3, 1⟩
def R.FE_CTRL_ANT_POL (i : Nat) : Fld := ⟨R.FE_CTRL i, 2, 1⟩
def R.FE_CTRL_LNA_POL (i : Nat) : Fld := ⟨R.FE_CTRL i, 1, 1⟩
def R.FE_CTRL_PA_POL (i : Nat) : Fld := ⟨R.FE_CTRL i, 0, 1⟩
-- PWR_CFG (Table 4-10)
def R.PWR_CFG (i : Nat) : Nat := 0x0100001C + i * 0x10000
def R.PWR_CFG_MAX_IDX (i : Nat) : Fld := ⟨R.PWR_CFG i, 8, 6⟩
def R.PWR_CFG_PWR_BASE (i : Nat) : Fld := ⟨R.PWR_CFG i, 0, 8⟩
-- BACKOFF_M (Table 4-11)
def R.BACKOFF_M (i : Nat) : Nat := 0x01000020 + i * 0x10000
def R.BACKOFF_M_INDIGO (i : Nat) : Fld := ⟨R.BACKOFF_M i, 12, 4⟩
def R.BACKOFF_M_OFDM (i : Nat) : Fld := ⟨R.BACKOFF_M i, 8, 4⟩
def R.BACKOFF_M_OQPSK (i : Nat) : Fld := ⟨R.BACKOFF_M i, 4, 4⟩
def R.BACKOFF_M_FSK (i : Nat) : Fld := ⟨R.BACKOFF_M i, 0, 4⟩
-- RX_OFS (Table 4-12)
def R.RX_OFS (i : Nat) : Nat := 0x01000024 + i * 0x10000
def R.RX_OFS_OFS_B (i : Nat) : Fld := ⟨R.RX_OFS i, 12, 12⟩
def R.RX_OFS_OFS_A (i : Nat) : Fld := ⟨R.RX_OFS i, 0, 12⟩
-- PATH_LIMITS (Table 4-6)
def R.PATH_LIMITS (i : Nat) : Nat := 0x01000028 + i * 0x10000
def R.PATH_LIMITS_MAX_TE (i : Nat) : Fld := ⟨R.PATH_LIMITS i, 0, 4⟩
-- CNT_TX (Table 4-14)
def R.CNT_TX (i : Nat) : Nat := 0x01000040 + i * 0x10000
def R.CNT_TX_TX_DEFER (i : Nat) : Fld := ⟨R.CNT_TX i, 16, 16⟩
def R.CNT_TX_TX_ABORT (i : Nat) : Fld := ⟨R.CNT_TX i, 0, 16⟩
-- CNT_RX (Table 4-14)
def R.CNT_RX (i : Nat) : Nat := 0x01000044 + i * 0x10000
def R.CNT_RX_RX_BLINDED (i : Nat) : Fld := ⟨R.CNT_RX i, 16, 16⟩
def R.CNT_RX_RX_UNLOCK (i : Nat) : Fld := ⟨R.CNT_RX i, 0, 16⟩
-- CNT_SYNTH (Table 4-14)
def R.CNT_SYNTH (i : Nat) : Nat := 0x01000048 + i * 0x10000
def R.CNT_SYNTH_UNLOCK (i : Nat) : Fld := ⟨R.CNT_SYNTH i, 16, 16⟩
def R.CNT_SYNTH_LOCK_FAIL (i : Nat) : Fld := ⟨R.CNT_SYNTH i, 0, 16⟩
-- PWR_ENTRY (Table 4-13)
def R.PWR_ENTRY (i j : Nat) : Nat := 0x01000100 + i * 0x10000 + j * 0x4
def R.PWR_ENTRY_BIAS (i j : Nat) : Fld := ⟨R.PWR_ENTRY i j, 24, 8⟩
def R.PWR_ENTRY_PA_EN (i j : Nat) : Fld := ⟨R.PWR_ENTRY i j, 23, 1⟩
def R.PWR_ENTRY_LNA_EN (i j : Nat) : Fld := ⟨R.PWR_ENTRY i j, 22, 1⟩
def R.PWR_ENTRY_DRIVE (i j : Nat) : Fld := ⟨R.PWR_ENTRY i j, 0, 7⟩
-- CAL_CTRL (Table 5-5)
def R.CAL_CTRL (i : Nat) : Nat := 0x01000200 + i * 0x10000
def R.CAL_CTRL_TONE (i : Nat) : Fld := ⟨R.CAL_CTRL i, 4, 1⟩
def R.CAL_CTRL_TXOBS (i : Nat) : Fld := ⟨R.CAL_CTRL i, 3, 1⟩
def R.CAL_CTRL_DC (i : Nat) : Fld := ⟨R.CAL_CTRL i, 2, 1⟩
def R.CAL_CTRL_FILT (i : Nat) : Fld := ⟨R.CAL_CTRL i, 1, 1⟩
def R.CAL_CTRL_IMG (i : Nat) : Fld := ⟨R.CAL_CTRL i, 0, 1⟩
-- CAL_PARAM (Table 5-6)
def R.CAL_PARAM (i : Nat) : Nat := 0x01000204 + i * 0x10000
def R.CAL_PARAM_MIN_INT (i : Nat) : Fld := ⟨R.CAL_PARAM i, 24, 8⟩
def R.CAL_PARAM_TONE_LVL (i : Nat) : Fld := ⟨R.CAL_PARAM i, 16, 8⟩
def R.CAL_PARAM_MIN_FRAMES (i : Nat) : Fld := ⟨R.CAL_PARAM i, 0, 12⟩
-- CAL_REQ (Table 5-7)
def R.CAL_REQ (i : Nat) : Nat := 0x01000208 + i * 0x10000
def R.CAL_REQ_EXCL (i : Nat) : Fld := ⟨R.CAL_REQ i, 8, 1⟩
def R.CAL_REQ_OP (i : Nat) : Fld := ⟨R.CAL_REQ i, 0, 4⟩
-- CAL_STATUS (Table 5-8)
def R.CAL_STATUS (i : Nat) : Nat := 0x0100020C + i * 0x10000
def R.CAL_STATUS_RESULT (i : Nat) : Fld := ⟨R.CAL_STATUS i, 28, 4⟩
def R.CAL_STATUS_OP (i : Nat) : Fld := ⟨R.CAL_STATUS i, 24, 4⟩
def R.CAL_STATUS_ST_OBS (i : Nat) : Fld := ⟨R.CAL_STATUS i, 23, 1⟩
def R.CAL_STATUS_ST_SYN (i : Nat) : Fld := ⟨R.CAL_STATUS i, 22, 1⟩
def R.CAL_STATUS_ST_B (i : Nat) : Fld := ⟨R.CAL_STATUS i, 21, 1⟩
def R.CAL_STATUS_ST_A (i : Nat) : Fld := ⟨R.CAL_STATUS i, 20, 1⟩
def R.CAL_STATUS_NOTONE (i : Nat) : Fld := ⟨R.CAL_STATUS i, 3, 1⟩
def R.CAL_STATUS_DEGRADED (i : Nat) : Fld := ⟨R.CAL_STATUS i, 2, 1⟩
def R.CAL_STATUS_CONVERGED (i : Nat) : Fld := ⟨R.CAL_STATUS i, 1, 1⟩
def R.CAL_STATUS_COLD (i : Nat) : Fld := ⟨R.CAL_STATUS i, 0, 1⟩
-- CAL_EPOCH (Table 5-9)
def R.CAL_EPOCH (i : Nat) : Nat := 0x01000210 + i * 0x10000
def R.CAL_EPOCH_TX_EPOCH (i : Nat) : Fld := ⟨R.CAL_EPOCH i, 16, 16⟩
def R.CAL_EPOCH_RX_EPOCH (i : Nat) : Fld := ⟨R.CAL_EPOCH i, 0, 16⟩
-- CAL_LAG (Table 5-9)
def R.CAL_LAG (i : Nat) : Nat := 0x01000214 + i * 0x10000
def R.CAL_LAG_LAG (i : Nat) : Fld := ⟨R.CAL_LAG i, 0, 8⟩
-- CAL_HEALTH0 (Table 5-10)
def R.CAL_HEALTH0 (i : Nat) : Nat := 0x01000218 + i * 0x10000
def R.CAL_HEALTH0_IRR_A (i : Nat) : Fld := ⟨R.CAL_HEALTH0 i, 24, 8⟩
def R.CAL_HEALTH0_IRR_B (i : Nat) : Fld := ⟨R.CAL_HEALTH0 i, 16, 8⟩
def R.CAL_HEALTH0_DC_A (i : Nat) : Fld := ⟨R.CAL_HEALTH0 i, 8, 8⟩
def R.CAL_HEALTH0_DC_B (i : Nat) : Fld := ⟨R.CAL_HEALTH0 i, 0, 8⟩
-- CAL_HEALTH1 (Table 5-10)
def R.CAL_HEALTH1 (i : Nat) : Nat := 0x0100021C + i * 0x10000
def R.CAL_HEALTH1_FILT_A (i : Nat) : Fld := ⟨R.CAL_HEALTH1 i, 24, 8⟩
def R.CAL_HEALTH1_FILT_B (i : Nat) : Fld := ⟨R.CAL_HEALTH1 i, 16, 8⟩
def R.CAL_HEALTH1_TX_IMG (i : Nat) : Fld := ⟨R.CAL_HEALTH1 i, 8, 8⟩
def R.CAL_HEALTH1_LO_LEAK (i : Nat) : Fld := ⟨R.CAL_HEALTH1 i, 0, 8⟩
-- CNT_CAL (Table 5-11)
def R.CNT_CAL (i : Nat) : Nat := 0x01000240 + i * 0x10000
def R.CNT_CAL_REJECT (i : Nat) : Fld := ⟨R.CNT_CAL i, 16, 16⟩
def R.CNT_CAL_YIELD (i : Nat) : Fld := ⟨R.CNT_CAL i, 0, 16⟩
-- CNT_CAL2 (Table 5-11)
def R.CNT_CAL2 (i : Nat) : Nat := 0x01000244 + i * 0x10000
def R.CNT_CAL2_PREEMPT (i : Nat) : Fld := ⟨R.CNT_CAL2 i, 16, 16⟩
def R.CNT_CAL2_EPOCHS (i : Nat) : Fld := ⟨R.CNT_CAL2 i, 0, 16⟩

/-- The registers of this block, field by field (access, reset and stated range). -/
def regTableTrx : List RegDesc := [
  ⟨"TRX_CTRL", 0x01000000, [(16, 0x10000)], false,
    [⟨0, 1, .rwl, 0x0, none⟩]⟩,
  ⟨"SYNTH_FREQ", 0x01000004, [(16, 0x10000)], false,
    [⟨0, 22, .rwl, 0x0, none⟩]⟩,
  ⟨"SYNTH_CUR", 0x01000008, [(16, 0x10000)], false,
    [⟨0, 22, .ro, 0x0, none⟩]⟩,
  ⟨"SYNTH_STATUS", 0x0100000C, [(16, 0x10000)], false,
    [⟨3, 1, .ro, 0x0, none⟩,
     ⟨2, 1, .ro, 0x0, none⟩,
     ⟨1, 1, .ro, 0x0, none⟩,
     ⟨0, 1, .ro, 0x0, none⟩]⟩,
  ⟨"SYNTH_LOCK", 0x01000010, [(16, 0x10000)], false,
    [⟨0, 10, .rwl, 0xC8, some (100, 1000)⟩]⟩,
  ⟨"TX_TIMING", 0x01000014, [(16, 0x10000)], false,
    [⟨8, 4, .rwl, 0x2, some (1, 10)⟩,
     ⟨0, 6, .rwl, 0x10, some (4, 32)⟩]⟩,
  ⟨"FE_CTRL", 0x01000018, [(16, 0x10000)], false,
    [⟨3, 1, .rwl, 0x1, none⟩,
     ⟨2, 1, .rwl, 0x0, none⟩,
     ⟨1, 1, .rwl, 0x0, none⟩,
     ⟨0, 1, .rwl, 0x0, none⟩]⟩,
  ⟨"PWR_CFG", 0x0100001C, [(16, 0x10000)], false,
    [⟨8, 6, .rwl, 0x0, none⟩,
     ⟨0, 8, .rwl, 0x0, none⟩]⟩,
  ⟨"BACKOFF_M", 0x01000020, [(16, 0x10000)], false,
    [⟨12, 4, .rwl, 0xB, none⟩,
     ⟨8, 4, .rwl, 0xC, none⟩,
     ⟨4, 4, .rwl, 0x0, none⟩,
     ⟨0, 4, .rwl, 0x0, none⟩]⟩,
  ⟨"RX_OFS", 0x01000024, [(16, 0x10000)], false,
    [⟨12, 12, .rwl, 0x0, none⟩,
     ⟨0, 12, .rwl, 0x0, none⟩]⟩,
  ⟨"PATH_LIMITS", 0x01000028, [(16, 0x10000)], false,
    [⟨0, 4, .rwl, 0x4, some (1, 8)⟩]⟩,
  ⟨"CNT_TX", 0x01000040, [(16, 0x10000)], false,
    [⟨16, 16, .rc, 0x0, none⟩,
     ⟨0, 16, .rc, 0x0, none⟩]⟩,
  ⟨"CNT_RX", 0x01000044, [(16, 0x10000)], false,
    [⟨16, 16, .rc, 0x0, none⟩,
     ⟨0, 16, .rc, 0x0, none⟩]⟩,
  ⟨"CNT_SYNTH", 0x01000048, [(16, 0x10000)], false,
    [⟨16, 16, .rc, 0x0, none⟩,
     ⟨0, 16, .rc, 0x0, none⟩]⟩,
  ⟨"PWR_ENTRY", 0x01000100, [(16, 0x10000), (64, 0x4)], false,
    [⟨24, 8, .rwl, 0x0, none⟩,
     ⟨23, 1, .rwl, 0x0, none⟩,
     ⟨22, 1, .rwl, 0x0, none⟩,
     ⟨0, 7, .rwl, 0x0, none⟩]⟩,
  ⟨"CAL_CTRL", 0x01000200, [(16, 0x10000)], false,
    [⟨4, 1, .rwl, 0x1, none⟩,
     ⟨3, 1, .rwl, 0x1, none⟩,
     ⟨2, 1, .rwl, 0x1, none⟩,
     ⟨1, 1, .rwl, 0x1, none⟩,
     ⟨0, 1, .rwl, 0x1, none⟩]⟩,
  ⟨"CAL_PARAM", 0x01000204, [(16, 0x10000)], false,
    [⟨24, 8, .rwl, 0xA, some (1, 100)⟩,
     ⟨16, 8, .rwl, 0x14, some (10, 40)⟩,
     ⟨0, 12, .rwl, 0x7D, some (16, 4095)⟩]⟩,
  ⟨"CAL_REQ", 0x01000208, [(16, 0x10000)], false,
    [⟨8, 1, .wo, 0x0, none⟩,
     ⟨0, 4, .wo, 0x0, none⟩]⟩,
  ⟨"CAL_STATUS", 0x0100020C, [(16, 0x10000)], false,
    [⟨28, 4, .ro, 0x0, none⟩,
     ⟨24, 4, .ro, 0x0, none⟩,
     ⟨23, 1, .ro, 0x0, none⟩,
     ⟨22, 1, .ro, 0x0, none⟩,
     ⟨21, 1, .ro, 0x0, none⟩,
     ⟨20, 1, .ro, 0x0, none⟩,
     ⟨3, 1, .ro, 0x0, none⟩,
     ⟨2, 1, .ro, 0x0, none⟩,
     ⟨1, 1, .ro, 0x0, none⟩,
     ⟨0, 1, .ro, 0x0, none⟩]⟩,
  ⟨"CAL_EPOCH", 0x01000210, [(16, 0x10000)], false,
    [⟨16, 16, .ro, 0x0, none⟩,
     ⟨0, 16, .ro, 0x0, none⟩]⟩,
  ⟨"CAL_LAG", 0x01000214, [(16, 0x10000)], false,
    [⟨0, 8, .ro, 0x0, none⟩]⟩,
  ⟨"CAL_HEALTH0", 0x01000218, [(16, 0x10000)], false,
    [⟨24, 8, .ro, 0x0, none⟩,
     ⟨16, 8, .ro, 0x0, none⟩,
     ⟨8, 8, .ro, 0x0, none⟩,
     ⟨0, 8, .ro, 0x0, none⟩]⟩,
  ⟨"CAL_HEALTH1", 0x0100021C, [(16, 0x10000)], false,
    [⟨24, 8, .ro, 0x0, none⟩,
     ⟨16, 8, .ro, 0x0, none⟩,
     ⟨8, 8, .ro, 0x0, none⟩,
     ⟨0, 8, .ro, 0x0, none⟩]⟩,
  ⟨"CNT_CAL", 0x01000240, [(16, 0x10000)], false,
    [⟨16, 16, .rc, 0x0, none⟩,
     ⟨0, 16, .rc, 0x0, none⟩]⟩,
  ⟨"CNT_CAL2", 0x01000244, [(16, 0x10000)], false,
    [⟨16, 16, .rc, 0x0, none⟩,
     ⟨0, 16, .rc, 0x0, none⟩]⟩]

/-! Block Jesd -/

-- JESD_CTRL (Table 4-16)
def R.JESD_CTRL : Nat := 0x01100000
def R.JESD_CTRL_ARM : Fld := ⟨R.JESD_CTRL, 6, 1⟩
def R.JESD_CTRL_REALIGN : Fld := ⟨R.JESD_CTRL, 5, 1⟩
def R.JESD_CTRL_SYSREF_PER : Fld := ⟨R.JESD_CTRL, 4, 1⟩
def R.JESD_CTRL_TX_FLAG : Fld := ⟨R.JESD_CTRL, 3, 1⟩
def R.JESD_CTRL_N12 : Fld := ⟨R.JESD_CTRL, 2, 1⟩
def R.JESD_CTRL_TX_EN : Fld := ⟨R.JESD_CTRL, 1, 1⟩
def R.JESD_CTRL_RX_EN : Fld := ⟨R.JESD_CTRL, 0, 1⟩
-- JESD_RX_LINK (Table 4-17)
def R.JESD_RX_LINK : Nat := 0x01100004
def R.JESD_RX_LINK_F : Fld := ⟨R.JESD_RX_LINK, 12, 8⟩
def R.JESD_RX_LINK_D : Fld := ⟨R.JESD_RX_LINK, 10, 2⟩
def R.JESD_RX_LINK_S2 : Fld := ⟨R.JESD_RX_LINK, 9, 1⟩
def R.JESD_RX_LINK_L : Fld := ⟨R.JESD_RX_LINK, 7, 2⟩
def R.JESD_RX_LINK_M : Fld := ⟨R.JESD_RX_LINK, 0, 7⟩
-- JESD_TX_LINK (Table 4-17)
def R.JESD_TX_LINK : Nat := 0x01100008
def R.JESD_TX_LINK_F : Fld := ⟨R.JESD_TX_LINK, 12, 8⟩
def R.JESD_TX_LINK_D : Fld := ⟨R.JESD_TX_LINK, 10, 2⟩
def R.JESD_TX_LINK_S2 : Fld := ⟨R.JESD_TX_LINK, 9, 1⟩
def R.JESD_TX_LINK_L : Fld := ⟨R.JESD_TX_LINK, 7, 2⟩
def R.JESD_TX_LINK_M : Fld := ⟨R.JESD_TX_LINK, 0, 7⟩
-- JESD_LANES (Table 4-18)
def R.JESD_LANES : Nat := 0x0110000C
def R.JESD_LANES_TX_INV : Fld := ⟨R.JESD_LANES, 20, 4⟩
def R.JESD_LANES_RX_INV : Fld := ⟨R.JESD_LANES, 16, 4⟩
def R.JESD_LANES_TX_MAP : Fld := ⟨R.JESD_LANES, 8, 8⟩
def R.JESD_LANES_RX_MAP : Fld := ⟨R.JESD_LANES, 0, 8⟩
-- JESD_RXCH (Table 4-15)
def R.JESD_RXCH : Nat := 0x01100010
def R.JESD_RXCH_B : Fld := ⟨R.JESD_RXCH, 16, 16⟩
def R.JESD_RXCH_A : Fld := ⟨R.JESD_RXCH, 0, 16⟩
-- JESD_TXCH (Table 4-15)
def R.JESD_TXCH : Nat := 0x01100014
def R.JESD_TXCH_TX : Fld := ⟨R.JESD_TXCH, 0, 16⟩
-- JESD_RATE (Table 4-15)
def R.JESD_RATE : Nat := 0x01100018
def R.JESD_RATE_FS : Fld := ⟨R.JESD_RATE, 30, 2⟩
def R.JESD_RATE_DEVCLK_KHZ : Fld := ⟨R.JESD_RATE, 0, 18⟩
-- JESD_RBD (Table 4-15)
def R.JESD_RBD : Nat := 0x0110001C
def R.JESD_RBD_RBD : Fld := ⟨R.JESD_RBD, 0, 8⟩
-- JESD_STATUS (Table 4-19)
def R.JESD_STATUS : Nat := 0x01100020
def R.JESD_STATUS_DEVCLK_ERR : Fld := ⟨R.JESD_STATUS, 4, 1⟩
def R.JESD_STATUS_SYSREF_SEEN : Fld := ⟨R.JESD_STATUS, 3, 1⟩
def R.JESD_STATUS_TX_UP : Fld := ⟨R.JESD_STATUS, 2, 1⟩
def R.JESD_STATUS_RX_UP : Fld := ⟨R.JESD_STATUS, 1, 1⟩
-- JESD_ERR (Table 4-15)
def R.JESD_ERR : Nat := 0x01100024
def R.JESD_ERR_CRC_ERR : Fld := ⟨R.JESD_ERR, 16, 16⟩
def R.JESD_ERR_LINK_DOWN : Fld := ⟨R.JESD_ERR, 0, 16⟩
-- XS_RF (Table 4-15)
def R.XS_RF (i : Nat) : Nat := 0x01100100 + i * 0x8
def R.XS_RF_FREQ (i : Nat) : Fld := ⟨R.XS_RF i, 0, 22⟩
-- XS_LAT (Table 4-15)
def R.XS_LAT (i : Nat) : Nat := 0x01100104 + i * 0x8
def R.XS_LAT_TX (i : Nat) : Fld := ⟨R.XS_LAT i, 16, 16⟩
def R.XS_LAT_RX (i : Nat) : Fld := ⟨R.XS_LAT i, 0, 16⟩
-- XS_CAL
def R.XS_CAL (i : Nat) : Nat := 0x01100400 + i * 0x4
def R.XS_CAL_IMG (i : Nat) : Fld := ⟨R.XS_CAL i, 1, 1⟩
def R.XS_CAL_DC (i : Nat) : Fld := ⟨R.XS_CAL i, 0, 1⟩
-- XS_CAL_EPOCH
def R.XS_CAL_EPOCH (i : Nat) : Nat := 0x01100440 + i * 0x4
def R.XS_CAL_EPOCH_EPOCH (i : Nat) : Fld := ⟨R.XS_CAL_EPOCH i, 0, 16⟩

/-- The registers of this block, field by field (access, reset and stated range). -/
def regTableJesd : List RegDesc := [
  ⟨"JESD_CTRL", 0x01100000, [], false,
    [⟨6, 1, .wo, 0x0, none⟩,
     ⟨5, 1, .rwl, 0x0, none⟩,
     ⟨4, 1, .rwl, 0x0, none⟩,
     ⟨3, 1, .rwl, 0x0, none⟩,
     ⟨2, 1, .rwl, 0x0, none⟩,
     ⟨1, 1, .rwl, 0x0, none⟩,
     ⟨0, 1, .rwl, 0x0, none⟩]⟩,
  ⟨"JESD_RX_LINK", 0x01100004, [], false,
    [⟨12, 8, .ro, 0x0, none⟩,
     ⟨10, 2, .rwl, 0x0, some (0, 2)⟩,
     ⟨9, 1, .rwl, 0x0, none⟩,
     ⟨7, 2, .rwl, 0x0, some (0, 2)⟩,
     ⟨0, 7, .ro, 0x0, none⟩]⟩,
  ⟨"JESD_TX_LINK", 0x01100008, [], false,
    [⟨12, 8, .ro, 0x0, none⟩,
     ⟨10, 2, .rwl, 0x0, some (0, 2)⟩,
     ⟨9, 1, .rwl, 0x0, none⟩,
     ⟨7, 2, .rwl, 0x0, some (0, 2)⟩,
     ⟨0, 7, .ro, 0x0, none⟩]⟩,
  ⟨"JESD_LANES", 0x0110000C, [], false,
    [⟨20, 4, .rwl, 0x0, none⟩,
     ⟨16, 4, .rwl, 0x0, none⟩,
     ⟨8, 8, .rwl, 0xE4, none⟩,
     ⟨0, 8, .rwl, 0xE4, none⟩]⟩,
  ⟨"JESD_RXCH", 0x01100010, [], false,
    [⟨16, 16, .rwl, 0x0, none⟩,
     ⟨0, 16, .rwl, 0x0, none⟩]⟩,
  ⟨"JESD_TXCH", 0x01100014, [], false,
    [⟨0, 16, .rwl, 0x0, none⟩]⟩,
  ⟨"JESD_RATE", 0x01100018, [], false,
    [⟨30, 2, .rwl, 0x1, some (0, 2)⟩,
     ⟨0, 18, .rwl, 0x0, none⟩]⟩,
  ⟨"JESD_RBD", 0x0110001C, [], false,
    [⟨0, 8, .rwl, 0x0, none⟩]⟩,
  ⟨"JESD_STATUS", 0x01100020, [], false,
    [⟨4, 1, .ro, 0x0, none⟩,
     ⟨3, 1, .ro, 0x0, none⟩,
     ⟨2, 1, .ro, 0x0, none⟩,
     ⟨1, 1, .ro, 0x0, none⟩]⟩,
  ⟨"JESD_ERR", 0x01100024, [], false,
    [⟨16, 16, .rc, 0x0, none⟩,
     ⟨0, 16, .rc, 0x0, none⟩]⟩,
  ⟨"XS_RF", 0x01100100, [(16, 0x8)], false,
    [⟨0, 22, .rwl, 0x0, none⟩]⟩,
  ⟨"XS_LAT", 0x01100104, [(16, 0x8)], false,
    [⟨16, 16, .rwl, 0x0, none⟩,
     ⟨0, 16, .rwl, 0x0, none⟩]⟩,
  ⟨"XS_CAL", 0x01100400, [(16, 0x4)], false,
    [⟨1, 1, .rwl, 0x1, none⟩,
     ⟨0, 1, .rwl, 0x1, none⟩]⟩,
  ⟨"XS_CAL_EPOCH", 0x01100440, [(16, 0x4)], false,
    [⟨0, 16, .ro, 0x0, none⟩]⟩]

/-! Block Ce -/

-- CE_CFG (Table 6-11)
def R.CE_CFG (i : Nat) : Nat := 0x02000000 + i * 0x1000
def R.CE_CFG_NOISE (i : Nat) : Fld := ⟨R.CE_CFG i, 1, 1⟩
def R.CE_CFG_EN (i : Nat) : Fld := ⟨R.CE_CFG i, 0, 1⟩
-- CE_DET (Table 6-12)
def R.CE_DET (i : Nat) : Nat := 0x02000004 + i * 0x1000
def R.CE_DET_FSK (i : Nat) : Fld := ⟨R.CE_DET i, 24, 8⟩
def R.CE_DET_OFDM (i : Nat) : Fld := ⟨R.CE_DET i, 16, 8⟩
def R.CE_DET_OQPSK (i : Nat) : Fld := ⟨R.CE_DET i, 8, 8⟩
def R.CE_DET_INDIGO (i : Nat) : Fld := ⟨R.CE_DET i, 0, 8⟩
-- CE_ASG0 (Table 6-13)
def R.CE_ASG0 (i : Nat) : Nat := 0x02000010 + i * 0x1000
def R.CE_ASG0_PATH (i : Nat) : Fld := ⟨R.CE_ASG0 i, 27, 5⟩
def R.CE_ASG0_MODE (i : Nat) : Fld := ⟨R.CE_ASG0 i, 19, 8⟩
def R.CE_ASG0_BW (i : Nat) : Fld := ⟨R.CE_ASG0 i, 12, 7⟩
def R.CE_ASG0_ANT (i : Nat) : Fld := ⟨R.CE_ASG0 i, 10, 2⟩
def R.CE_ASG0_HINT_B (i : Nat) : Fld := ⟨R.CE_ASG0 i, 9, 1⟩
def R.CE_ASG0_PREC_V (i : Nat) : Fld := ⟨R.CE_ASG0 i, 8, 1⟩
def R.CE_ASG0_EXP_V (i : Nat) : Fld := ⟨R.CE_ASG0 i, 7, 1⟩
def R.CE_ASG0_ACTIVE (i : Nat) : Fld := ⟨R.CE_ASG0 i, 0, 1⟩
-- CE_ASG1 (Table 6-13)
def R.CE_ASG1 (i : Nat) : Nat := 0x02000014 + i * 0x1000
def R.CE_ASG1_OFFSET (i : Nat) : Fld := ⟨R.CE_ASG1 i, 0, 26⟩
-- CE_ASG2 (Table 6-13)
def R.CE_ASG2 (i : Nat) : Nat := 0x02000018 + i * 0x1000
def R.CE_ASG2_PRECORR (i : Nat) : Fld := ⟨R.CE_ASG2 i, 0, 24⟩
-- CE_ASG3 (Table 6-13)
def R.CE_ASG3 (i : Nat) : Nat := 0x0200001C + i * 0x1000
def R.CE_ASG3_EXP_T (i : Nat) : Fld := ⟨R.CE_ASG3 i, 0, 32⟩
-- CE_ASG4 (Table 6-13)
def R.CE_ASG4 (i : Nat) : Nat := 0x02000020 + i * 0x1000
def R.CE_ASG4_SCHED_EPOCH (i : Nat) : Fld := ⟨R.CE_ASG4 i, 0, 16⟩
-- CE_STATE (Table 6-14)
def R.CE_STATE (i : Nat) : Nat := 0x02000030 + i * 0x1000
def R.CE_STATE_EPOCH (i : Nat) : Fld := ⟨R.CE_STATE i, 16, 16⟩
def R.CE_STATE_PENDING (i : Nat) : Fld := ⟨R.CE_STATE i, 8, 1⟩
def R.CE_STATE_STATE (i : Nat) : Fld := ⟨R.CE_STATE i, 0, 3⟩
-- CE_LAST (Table 6-14)
def R.CE_LAST (i : Nat) : Nat := 0x02000034 + i * 0x1000
def R.CE_LAST_ANT (i : Nat) : Fld := ⟨R.CE_LAST i, 24, 1⟩
def R.CE_LAST_LQI (i : Nat) : Fld := ⟨R.CE_LAST i, 16, 8⟩
def R.CE_LAST_RSSI (i : Nat) : Fld := ⟨R.CE_LAST i, 0, 16⟩
-- CE_CNT_DET (Table 6-15)
def R.CE_CNT_DET (i : Nat) : Nat := 0x02000040 + i * 0x1000
def R.CE_CNT_DET_DET (i : Nat) : Fld := ⟨R.CE_CNT_DET i, 16, 16⟩
def R.CE_CNT_DET_FALSE_DET (i : Nat) : Fld := ⟨R.CE_CNT_DET i, 0, 16⟩
-- CE_CNT_RX (Table 6-15)
def R.CE_CNT_RX (i : Nat) : Nat := 0x02000044 + i * 0x1000
def R.CE_CNT_RX_RX_OK (i : Nat) : Fld := ⟨R.CE_CNT_RX i, 16, 16⟩
def R.CE_CNT_RX_FCS_ERR (i : Nat) : Fld := ⟨R.CE_CNT_RX i, 0, 16⟩
-- CE_CNT_ERR (Table 6-15)
def R.CE_CNT_ERR (i : Nat) : Nat := 0x02000048 + i * 0x1000
def R.CE_CNT_ERR_PHR_ERR (i : Nat) : Fld := ⟨R.CE_CNT_ERR i, 16, 16⟩
def R.CE_CNT_ERR_RXQ_DROP (i : Nat) : Fld := ⟨R.CE_CNT_ERR i, 0, 16⟩
-- CE_CNT_ANT (Table 6-15)
def R.CE_CNT_ANT (i : Nat) : Nat := 0x0200004C + i * 0x1000
def R.CE_CNT_ANT_ANT_B (i : Nat) : Fld := ⟨R.CE_CNT_ANT i, 16, 16⟩
def R.CE_CNT_ANT_ANT_A (i : Nat) : Fld := ⟨R.CE_CNT_ANT i, 0, 16⟩
-- CE_CNT_ASG (Table 6-15)
def R.CE_CNT_ASG (i : Nat) : Nat := 0x02000050 + i * 0x1000
def R.CE_CNT_ASG_ASSIGN_REJ (i : Nat) : Fld := ⟨R.CE_CNT_ASG i, 0, 16⟩

/-- The registers of this block, field by field (access, reset and stated range). -/
def regTableCe : List RegDesc := [
  ⟨"CE_CFG", 0x02000000, [(512, 0x1000)], false,
    [⟨1, 1, .rwl, 0x1, none⟩,
     ⟨0, 1, .rwl, 0x1, none⟩]⟩,
  ⟨"CE_DET", 0x02000004, [(512, 0x1000)], false,
    [⟨24, 8, .rwl, 0x60, some (16, 240)⟩,
     ⟨16, 8, .rwl, 0x48, some (16, 240)⟩,
     ⟨8, 8, .rwl, 0x58, some (16, 240)⟩,
     ⟨0, 8, .rwl, 0x48, some (16, 240)⟩]⟩,
  ⟨"CE_ASG0", 0x02000010, [(512, 0x1000)], false,
    [⟨27, 5, .ro, 0x0, none⟩,
     ⟨19, 8, .ro, 0x0, none⟩,
     ⟨12, 7, .ro, 0x0, none⟩,
     ⟨10, 2, .ro, 0x0, none⟩,
     ⟨9, 1, .ro, 0x0, none⟩,
     ⟨8, 1, .ro, 0x0, none⟩,
     ⟨7, 1, .ro, 0x0, none⟩,
     ⟨0, 1, .ro, 0x0, none⟩]⟩,
  ⟨"CE_ASG1", 0x02000014, [(512, 0x1000)], false,
    [⟨0, 26, .ro, 0x0, none⟩]⟩,
  ⟨"CE_ASG2", 0x02000018, [(512, 0x1000)], false,
    [⟨0, 24, .ro, 0x0, none⟩]⟩,
  ⟨"CE_ASG3", 0x0200001C, [(512, 0x1000)], false,
    [⟨0, 32, .ro, 0x0, none⟩]⟩,
  ⟨"CE_ASG4", 0x02000020, [(512, 0x1000)], false,
    [⟨0, 16, .ro, 0x0, none⟩]⟩,
  ⟨"CE_STATE", 0x02000030, [(512, 0x1000)], false,
    [⟨16, 16, .ro, 0x0, none⟩,
     ⟨8, 1, .ro, 0x0, none⟩,
     ⟨0, 3, .ro, 0x1, none⟩]⟩,
  ⟨"CE_LAST", 0x02000034, [(512, 0x1000)], false,
    [⟨24, 1, .ro, 0x0, none⟩,
     ⟨16, 8, .ro, 0x0, none⟩,
     ⟨0, 16, .ro, 0x0, none⟩]⟩,
  ⟨"CE_CNT_DET", 0x02000040, [(512, 0x1000)], false,
    [⟨16, 16, .rc, 0x0, none⟩,
     ⟨0, 16, .rc, 0x0, none⟩]⟩,
  ⟨"CE_CNT_RX", 0x02000044, [(512, 0x1000)], false,
    [⟨16, 16, .rc, 0x0, none⟩,
     ⟨0, 16, .rc, 0x0, none⟩]⟩,
  ⟨"CE_CNT_ERR", 0x02000048, [(512, 0x1000)], false,
    [⟨16, 16, .rc, 0x0, none⟩,
     ⟨0, 16, .rc, 0x0, none⟩]⟩,
  ⟨"CE_CNT_ANT", 0x0200004C, [(512, 0x1000)], false,
    [⟨16, 16, .rc, 0x0, none⟩,
     ⟨0, 16, .rc, 0x0, none⟩]⟩,
  ⟨"CE_CNT_ASG", 0x02000050, [(512, 0x1000)], false,
    [⟨0, 16, .rc, 0x0, none⟩]⟩]

/-! Block Te -/

-- TE_CFG (Table 6-16)
def R.TE_CFG (i : Nat) : Nat := 0x02200000 + i * 0x1000
def R.TE_CFG_EN (i : Nat) : Fld := ⟨R.TE_CFG i, 0, 1⟩
-- TE_STATE (Table 6-16)
def R.TE_STATE (i : Nat) : Nat := 0x02200004 + i * 0x1000
def R.TE_STATE_STATE (i : Nat) : Fld := ⟨R.TE_STATE i, 0, 2⟩
-- TE_WORK (Table 6-17)
def R.TE_WORK (i : Nat) : Nat := 0x02200010 + i * 0x1000
def R.TE_WORK_PATH (i : Nat) : Fld := ⟨R.TE_WORK i, 27, 5⟩
def R.TE_WORK_MODE (i : Nat) : Fld := ⟨R.TE_WORK i, 19, 8⟩
def R.TE_WORK_IDX (i : Nat) : Fld := ⟨R.TE_WORK i, 13, 6⟩
def R.TE_WORK_ATTEN (i : Nat) : Fld := ⟨R.TE_WORK i, 7, 6⟩
def R.TE_WORK_ANT (i : Nat) : Fld := ⟨R.TE_WORK i, 6, 1⟩
-- TE_CNT (Table 6-18)
def R.TE_CNT (i : Nat) : Nat := 0x02200040 + i * 0x1000
def R.TE_CNT_SENT (i : Nat) : Fld := ⟨R.TE_CNT i, 16, 16⟩
def R.TE_CNT_LATE (i : Nat) : Fld := ⟨R.TE_CNT i, 0, 16⟩
-- TE_CNT2 (Table 6-18)
def R.TE_CNT2 (i : Nat) : Nat := 0x02200044 + i * 0x1000
def R.TE_CNT2_WORK_LATE (i : Nat) : Fld := ⟨R.TE_CNT2 i, 16, 16⟩
def R.TE_CNT2_REJ (i : Nat) : Fld := ⟨R.TE_CNT2 i, 0, 16⟩

/-- The registers of this block, field by field (access, reset and stated range). -/
def regTableTe : List RegDesc := [
  ⟨"TE_CFG", 0x02200000, [(128, 0x1000)], false,
    [⟨0, 1, .rwl, 0x1, none⟩]⟩,
  ⟨"TE_STATE", 0x02200004, [(128, 0x1000)], false,
    [⟨0, 2, .ro, 0x0, none⟩]⟩,
  ⟨"TE_WORK", 0x02200010, [(128, 0x1000)], false,
    [⟨27, 5, .ro, 0x0, none⟩,
     ⟨19, 8, .ro, 0x0, none⟩,
     ⟨13, 6, .ro, 0x0, none⟩,
     ⟨7, 6, .ro, 0x0, none⟩,
     ⟨6, 1, .ro, 0x0, none⟩]⟩,
  ⟨"TE_CNT", 0x02200040, [(128, 0x1000)], false,
    [⟨16, 16, .rc, 0x0, none⟩,
     ⟨0, 16, .rc, 0x0, none⟩]⟩,
  ⟨"TE_CNT2", 0x02200044, [(128, 0x1000)], false,
    [⟨16, 16, .rc, 0x0, none⟩,
     ⟨0, 16, .rc, 0x0, none⟩]⟩]

/-! Block Cl -/

-- CL_ANT (Table 6-20)
def R.CL_ANT (i : Nat) : Nat := 0x02300000 + i * 0x1000
def R.CL_ANT_HYST (i : Nat) : Fld := ⟨R.CL_ANT i, 0, 8⟩
-- CL_FD (Table 6-20)
def R.CL_FD (i : Nat) : Nat := 0x02300004 + i * 0x1000
def R.CL_FD_LIMIT (i : Nat) : Fld := ⟨R.CL_FD i, 0, 16⟩
-- CL_STAT (Table 6-20)
def R.CL_STAT (i : Nat) : Nat := 0x02300008 + i * 0x1000
def R.CL_STAT_FD_HIGH (i : Nat) : Fld := ⟨R.CL_STAT i, 0, 1⟩
-- CL_BOARD_DLY (Table 6-20)
def R.CL_BOARD_DLY (i j : Nat) : Nat := 0x02300010 + i * 0x1000 + j * 0x4
def R.CL_BOARD_DLY_TX (i j : Nat) : Fld := ⟨R.CL_BOARD_DLY i j, 16, 16⟩
def R.CL_BOARD_DLY_RX (i j : Nat) : Fld := ⟨R.CL_BOARD_DLY i j, 0, 16⟩

/-- The registers of this block, field by field (access, reset and stated range). -/
def regTableCl : List RegDesc := [
  ⟨"CL_ANT", 0x02300000, [(4, 0x1000)], false,
    [⟨0, 8, .rwl, 0x5, none⟩]⟩,
  ⟨"CL_FD", 0x02300004, [(4, 0x1000)], false,
    [⟨0, 16, .rwl, 0x2710, none⟩]⟩,
  ⟨"CL_STAT", 0x02300008, [(4, 0x1000)], false,
    [⟨0, 1, .ro, 0x0, none⟩]⟩,
  ⟨"CL_BOARD_DLY", 0x02300010, [(4, 0x1000), (4, 0x4)], false,
    [⟨16, 16, .rwl, 0x0, none⟩,
     ⟨0, 16, .rwl, 0x0, none⟩]⟩]

end Sys2Proof.Machine
end

