-- ==== Sys2Proof/Machine/Regs.lean ====
section
/-!
DEFINITION. The register file: which table describes an offset (Table 1-8), what an unlisted key reads
as (its reset word), and the field reads and writes every other file uses.
-/

namespace Sys2Proof.Machine

/-- The blocks of Table 1-8 that hold registers: first offset, last offset, table. -/
def regBlocks : List (Nat × Nat × List RegDesc) := [
  (0x00000000, 0x0000FFFF, regTableCap),
  (0x00010000, 0x000FFFFF, regTableGlobal),
  (0x00100000, 0x001FFFFF, regTableEventRing),
  (0x00200000, 0x00FFFFFF, regTableHostQueue),
  (0x01000000, 0x010FFFFF, regTableTrx),
  (0x01100000, 0x01FFFFFF, regTableJesd),
  (0x02000000, 0x021FFFFF, regTableCe),
  (0x02200000, 0x022FFFFF, regTableTe),
  (0x02300000, 0x02FFFFFF, regTableCl),
  (0x03000000, 0x030FFFFF, regTablePsm),
  (0x03100000, 0x031FFFFF, regTableChmap),
  (0x03200000, 0x032FFFFF, regTableDrift),
  (0x03300000, 0x033FFFFF, regTableSched),
  (0x03400000, 0x034FFFFF, regTableQueue),
  (0x03F00000, 0x03FFFFFF, regTableImap),
  (0x04000000, 0x04FFFFFF, regTableFwd),
  (0x05000000, 0x05FFFFFF, regTableSec),
  (0x06000000, 0x06FFFFFF, regTableTime),
  (0x07000000, 0x07FFFFFF, regTablePair),
  (0x08000000, 0x08FFFFFF, regTableMi),
  (0x09000000, 0x09001FFF, regTableEth),
  (0x09002000, 0x09FFFFFF, regTableBorder),
  (0x0A000000, 0x0AFFFFFF, regTableApp),
  (0x0B000000, 0x0BFFFFFF, regTableUpd)]

/-- The table of the block that holds an offset; none in the unassigned range (R7). -/
def blockTable : List (Nat × Nat × List RegDesc) → Nat → List RegDesc
  | [], _ => []
  | (a, b, t) :: rest, off => if a ≤ off ∧ off ≤ b then t else blockTable rest off

/-- The register an offset holds, if any (R7). -/
def regAt (off : Nat) : Option RegDesc := findReg (blockTable regBlocks off) off

/-- The first bank above the plain offsets: a banked register of requester `q` has the key
`offset + q.bank × 2^28`. -/
def bankSize : Nat := 0x10000000

/-- Reset value of EVR_CTRL r and HQ_CTRL q, whose VECTOR resets to r and to 16 + q (Table 13-10). -/
def ringCtrlReset (off : Nat) : Word :=
  if off < 0x00200000 then BitVec.ofNat 32 (((off - R.EVR_CTRL 0) / 0x40) * 2 ^ 16)
  else BitVec.ofNat 32 ((16 + (off - R.HQ_CTRL 0) / 0x100) * 2 ^ 16)

/-- What a key of the register file reads as when nothing has been written since reset (R14). -/
def resetWord (key : Nat) : Word :=
  match regAt (key % bankSize) with
  | none => 0#32
  | some r => if r.name = "EVR_CTRL" ∨ r.name = "HQ_CTRL" then ringCtrlReset (key % bankSize) else r.resetWord

/-- The register file. -/
abbrev RegFile := Cells 32

/-- Read a field of the register file. -/
def regGet (m : RegFile) (f : Fld) : Nat := getBits (cellsRead resetWord m f.key) f.lo f.width

/-- Write a field of the register file. -/
def regSet (m : RegFile) (f : Fld) (v : Nat) : RegFile :=
  cellsWrite resetWord m f.key (setBits (cellsRead resetWord m f.key) f.lo f.width v)

end Sys2Proof.Machine
end

