-- ==== Sys2Proof/Machine/State.lean ====
section
/-!
DEFINITION. The state of the block as plain data, the reasons a step can stop, and the state at reset.
-/

namespace Sys2Proof.Machine

/-- Reasons for a fault. No command of this block faults: the spec describes an effect for every
occurrence, and an access outside what exists is answered as R4, R7, R35 or R365 state (safe). -/
inductive Fault where
  /-- Never raised by a command of this model; kept so that the type has a name (safe). -/
  | none
  deriving DecidableEq, Repr

/-- Reasons for a refusal. -/
inductive Refusal where
  /-- The command of that mnemonic has no meaning in this model yet (safe): raised by its arm alone. -/
  | notModelled (mnemonic : String)
  deriving DecidableEq, Repr

/-- What the device sends out of itself. -/
inductive Output where
  /-- A posted PCIe write to host memory. -/
  | hostWrite (addr : Nat) (data : List Byte)
  /-- Data written to the buffer that the descriptor at a host address names (R383). -/
  | hostBuffer (descriptor : Nat) (data : List Byte)
  /-- An MSI-X message: its vector, and the address and data of its table entry. -/
  | msix (vector addr data : Nat)
  /-- A PCIe completion that answers a request as an Unsupported Request (R365). -/
  | unsupported
  /-- A BAR2 completion: data and its EP bit (R322). -/
  | bar2 (data : List Byte) (poisoned : Bool)
  /-- A frame leaves on a path through an antenna at a power entry (R123): its handle, the timebase at which its engine starts the
  output (R194), the map (0 the default map) and code rate of an Indigo frame (R225, R230), and the frame (Machine/AirFrames.lean says
  what it carries). -/
  | radio (path antenna analog : Nat) (handle start map rate : Nat) (frame : Option TxFrame)
  /-- A recovery frame leaves on the UART (R79). -/
  | uart (data : List Byte)
  /-- An Ethernet frame leaves on a port (R389, R402): class and bytes. -/
  | eth (port cls : Nat) (data : List Byte)
  /-- A Hjelno link frame leaves with its sequence number and records (R530). -/
  | hjFrame (seq : Nat) (records : List MirrorRecord)
  /-- A Hjelno acknowledgement of a frame. -/
  | hjAck (seq : Nat)
  /-- A resync sends every NCS line in ascending order: lines not listed are zero (R537). -/
  | hjResync (lines : List (Nat × BitVec 512))
  /-- A peer fetch of an NCS line is requested (R503). -/
  | hjFetch (line : Nat)
  /-- Link training sends the latched PAIR_ID (R70) and what R531 exchanges: NCS_LOG2, SLOT_LEN, SF_LEN, the interface version of
  the runtime and its compatibility vector. -/
  | hjTrain (pairId ncsLog slotLen sfCode ifv : Nat) (vector : List (Nat × Nat × Nat))
  /-- A nonce and a tag of the link's authentication (R531). -/
  | hjAuth (data : List Byte)
  /-- A clean copy of an NCS line is sent to the peer (R503, R504). -/
  | hjLine (line : Nat) (data : List Byte)
  /-- The snapshot buffer of Table 10-7 goes to host memory at an address: the store's lines (lines not listed are
  zero), the checksums of the tiles (a tile not listed carries that of zero lines), and the descriptor. -/
  | snapshot (addr : Nat) (lines : List (Nat × BitVec 512)) (sums : List (Nat × Nat)) (descriptor : List Byte)
  /-- A flash slot or sector is erased. -/
  | flashErase (addr size : Nat)
  deriving DecidableEq, Repr

/-- The whole state of the block. -/
structure State where
  part : Part
  /-- The register file: every register field of BAR0 that has no other home. -/
  regs : RegFile
  boot : BootState
  /-- The boot flash and its density in bytes. -/
  flash : ByteMem
  flashSize : Nat
  /-- The image window of the update-and-flash block. -/
  window : ByteMem
  otp : OtpState
  ev : EventState
  pcie : PcieState
  hqs : List (Nat × HostQueueState)
  paths : List (Nat × PathState)
  jesd : JesdState
  osc : OscState
  ces : List (Nat × CeState)
  tes : List (Nat × TeState)
  imap : ImapState
  psm : PsmState
  drift : DriftState
  fwd : FwdState
  sched : SchedState
  queues : List (Nat × QueueState)
  tb : TimeState
  sec : SecState
  /-- The tree state in always-on save memory (R464). -/
  tree : TreeState
  eth : EthState
  app : AppState
  cpus : List (Nat × CpuState)
  mi : MiState
  pair : PairState
  upd : UpdState
  pwr : PowerState
  /-- Snapshots by requester bank. -/
  snaps : List (Nat × Snapshots)
  /-- Elapsed nanoseconds: the model's own clock (log entry 6). -/
  now : Nat
  /-- Draws made from the open values of Config: the model's own counter (log entry 2). -/
  draws : Nat
  /-- What the device has sent, newest first. -/
  out : List Output
  /-- The last register value read, by requester bank. -/
  reply : List (Nat × Nat)
  /-- Commands that wait, first in, first out. -/
  pending : List Instr
  deriving DecidableEq, Repr

/-- No snapshot work. -/
def SnapState.idle : SnapState :=
  { job := .idle, reserve := [], lines := [], asn := 0, ns := 0, nodeMin := 0, sequence := 0, resume := false,
    started := 0, badTiles := 0, clearBy := 0 }

/-- Boot state before the first boot. -/
def BootState.cold : BootState :=
  { phase := .porstLow, cause := .cold, startAt := 0, powerRetried := false, clockRetried := false, retryPost := none,
    page := none, comp := 0, second := false, firstReason := 0, images := [], fromHost := false,
    probationBoot := none, recovery := [], committed := false, tunable := [], lfAccepted := false, lfMeasuring := false,
    lfFallen := false, lfPost := false, coldPending := [], commitTimes := [], slotWrites := [] }

/-- The map unit with an empty learning table. -/
def ImapState.cold : ImapState := { entries := [], issues := 0, trailers := [] }

/-- The slot engine at rest. -/
def PsmState.cold : PsmState :=
  { asn := 0#40, exchanges := [], dsn := 0, plan := [], resume := false, assigns := [], observer := [] }

/-- Drift control with nothing learned. -/
def DriftState.cold : DriftState :=
  { targets := [], held := [], outstanding := [], changed := [], dropped := [], framed := [], cache := [], refHistory := [], inputs := [],
    trackLast := none, trackFrame := none, passed := none }

/-- Empty forwarding tables. -/
def FwdState.cold : FwdState :=
  { ncs := [], eht := [], pass := [], rebuild := [], hb := [], shadow := [], snap := SnapState.idle,
    groups := [] }

/-- An idle scheduler. -/
def SchedState.cold : SchedState :=
  { frames := [], nextHandle := 0, downlink := [], resend := [], virtual := [], deficit := [], pointer := [],
    issuedCounter := [], crimCredit := 0, crimTime := 0, solo := [], epochPending := false, drains := [], crims := [], egress := [],
    samples := [], copies := [] }

/-- The timebase before its first start. -/
def TimeState.cold : TimeState :=
  { running := false, ns := 0#64, frac := 0#32, stagedInc := 0, stagedStep := 0, pendingStep := none,
    bridge := none, boundLast := 0, asnLast := 0, slotAt := 0, tso := [], tsiLast := [], gt := [], gtWrites := [] }

/-- A security module with no keys. -/
def SecState.cold : SecState :=
  { kM := none, kJR := none, drbgErased := false, drbgRequests := 0, retiredKeep := none, cache := [], deriving_ := [],
    joins := [], joinSlots := 0, rekeys := [], rekeyLeft := [], unrekeyed := [], grants := 0, debugOpen := 0, command := none }

/-- A tree state that holds nothing. -/
def TreeState.lost : TreeState :=
  { intact := false, slots := [], highest := 0, bcast := [], bcastSpent := [], cmdSeq := 0, installs := 0 }

/-- OTP with nothing programmed (a design choice, log entry 8). -/
def OtpState.blank : OtpState :=
  { secret := 0#128, serial := List.replicate 8 0#8, vendorHash := none, certificate := List.replicate 208 0#8,
    owners := [(none, false), (none, false), (none, false), (none, false)], arb := [0, 0, 0, 0, 0] }

/-- No Ethernet activity. -/
def EthState.cold : EthState :=
  { ports := [], frames := [], nextFrame := 0, credits := [], creditAt := [], contexts := [], tag := 0, stamps := [] }

/-- The application core in reset. -/
def AppState.cold : AppState :=
  { iram := [], dram := [], entry := 0, badWords := [], gpioOut := 0, gpioOe := 0, reloading := false,
    firstReset := none, debugHalt := false, waiting := false, forward := 0, stack := [],
    levels := [], ignored := [], request := none, lingering := [], roomWanted := false, kickAt := 0, resets := 0 }

/-- Memory integrity with no fault found; the fuse map names no spare (log entry 8). -/
def MiState.cold : MiState :=
  { recoveries := [], bad := [], flipped := [], subst := [], faults := [], fuses := [], applied := [],
    waiting := [], exhausted := [], poisonTimes := [], scrubs := [], tiles := [], tileDirty := false,
    refill := [], parity := [], hardParity := [], retired := [] }

/-- The pair before any link. -/
def PairState.cold : PairState :=
  { kept := false, keptAt := 0, asnAt := 0, step8 := false, lastRecord := .none, peerClaims := false,
    controlOnly := false, txSeq := 0, rxSeq := 0, unacked := [], sessionKey := 0#128, retrainAt := none,
    rxAt := 0, reserved := [], dirty := [], syncAt := 0, syncLines := 0, switchover := none,
    peerAsn := 0, peerHold := false, takeAsn := false, serveFrom := 0, downAt := 0, peerIfv := 0, peerVector := [], then_ := 0 }

/-- No update in progress. -/
def UpdState.cold : UpdState :=
  { target := 0, image := [], unhealthy := false, probation := none, seconds := 0, unit := 0, swapped := [], backward := none,
    swap := false, prev := none, startedAt := 0, units := 0, liveFrom := 0, livePending := false, atRestart := none,
    fallbackPost := none }

/-- The power controller with the switched rails off (R50, Table 2-3). -/
def PowerState.cold : PowerState :=
  { change := none, request := none, save := none, asleepAt := 0, wake := none, duringEntry := false,
    exitAt := 0, wakePost := none, pale := false, coolSince := none, warned := false, clockLevel := 0,
    vsel := 0, enCore := false, enSram := false, faultN := false, isolated := true, aonLf := false }

/-- The event system with nothing generated. -/
def EventState.cold : EventState := { seqs := [], loss := [], limits := [], backlog := [], rings := [] }

/-- The PCIe endpoint in reset. -/
def PcieState.cold : PcieState :=
  { perst := false, linkUp := false, width := 0, rate := 0, bme := false, msix := [], pba := 0#64 }

/-- The block right after reset: the always-on rails up and PORST_N low, every register at its Reset value
(R14), nothing stored, no command waiting. The part, the flash density and the OTP contents are the model's
choice (log entry 8). -/
def State.reset : State :=
  { part := .nz5120a, regs := [], boot := BootState.cold, flash := [], flashSize := 0x08000000, window := [],
    otp := OtpState.blank, ev := EventState.cold, pcie := PcieState.cold, hqs := [], paths := [],
    jesd := { armed := false, phase := none, crcRun := [] }, osc := { kept := none, held := 0, crowd := [], change := 0 }, ces := [],
    tes := [], imap := ImapState.cold, psm := PsmState.cold, drift := DriftState.cold, fwd := FwdState.cold,
    sched := SchedState.cold, queues := [], tb := TimeState.cold, sec := SecState.cold, tree := TreeState.lost,
    eth := EthState.cold, app := AppState.cold, cpus := [], mi := MiState.cold, pair := PairState.cold,
    upd := UpdState.cold, pwr := PowerState.cold, snaps := [], now := 0, draws := 0, out := [], reply := [],
    pending := [] }

end Sys2Proof.Machine
end

