-- ==== Sys2Proof/Machine/Ops.lean ====
section
/-!
DEFINITION. Named operations on the state that every family uses: register fields, counters, indexed
substates, the units a part holds, free values, the timebase arithmetic.
-/

namespace Sys2Proof.Machine

open Host (Outcome)

/-- The outcome of a command whose effect is `s`: every command of this block ends in a next state. -/
abbrev done (s : State) : Outcome State Fault Refusal := .next s

/-! ## Registers -/

/-- Replace the register file. -/
def State.putRegs (s : State) (x : RegFile) : State := { s with regs := x }

/-- Read a register field. -/
def State.get (s : State) (f : Fld) : Nat := regGet s.regs f

/-- A register field as a flag. -/
def State.bit (s : State) (f : Fld) : Bool := s.get f = 1

/-- Write a register field (reduced to its width). -/
def State.set (s : State) (f : Fld) (v : Nat) : State := s.putRegs (regSet s.regs f v)

/-- Write a one-bit field. -/
def State.setBit (s : State) (f : Fld) (b : Bool) : State := s.set f (boolNat b)

/-- A signed register field. -/
def State.getI (s : State) (f : Fld) : Int := signedOf f.width (s.get f)

/-- Write a signed register field in two's complement. -/
def State.setI (s : State) (f : Fld) (x : Int) : State := s.set f (toField f.width x)

/-- Read a whole register word by key. -/
def State.word (s : State) (key : Nat) : Word := cellsRead resetWord s.regs key

/-- Write a whole register word by key. -/
def State.setWord (s : State) (key : Nat) (w : Word) : State :=
  s.putRegs (cellsWrite resetWord s.regs key w)

/-- Raise a counter field by `n`, saturating at its maximum (R13). -/
def State.bumpBy (s : State) (f : Fld) (n : Nat) : State := s.set f (min (2 ^ f.width - 1) (s.get f + n))

/-- Raise a counter field by 1, saturating (R13). -/
def State.bump (s : State) (f : Fld) : State := s.bumpBy f 1

/-- Raise a counter field whose description says that it wraps (R13). -/
def State.bumpWrap (s : State) (f : Fld) : State := s.set f (s.get f + 1)

/-- Bit `i` of a register field that holds one bit per item. -/
def State.getBitAt (s : State) (f : Fld) (i : Nat) : Bool := natBit (s.get f) i

/-- Write bit `i` of such a field. -/
def State.setBitAt (s : State) (f : Fld) (i : Nat) (b : Bool) : State := s.set f (natSetBits (s.get f) i 1 (boolNat b))

/-! ## Free values -/

/-- The next draw of the DRBG, and the state after it (log entry 2). -/
def State.drawn (s : State) : Nat := Config.drbg s.draws

/-- Count one draw. -/
def State.drew (s : State) : State := { s with draws := s.draws + 1 }

/-- Divide where the spec computes in real arithmetic and states no rounding: exact when the division is
exact; otherwise the floor or one above it, which one is open (log entry 3). -/
def realDiv (tag : Nat) (num den : Int) : Int :=
  if den = 0 then 0
  else if num % den = 0 then num / den
  else num / den + Config.realResult tag [num, den] % 2

/-- Round to the nearest integer; which way an exact half goes is open where the spec does not say (log entry 3). -/
def realRound (tag : Nat) (num den : Int) : Int :=
  let d : Int := den.natAbs
  let n := if den < 0 then -num else num
  if d = 0 then 0
  else if (2 * n + d) % (2 * d) = 0 then (2 * n + d) / (2 * d) - Config.realResult tag [num, den] % 2
  else (2 * n + d) / (2 * d)

/-- The integer square root of a number below 2^128. -/
def isqrt (n : Nat) : Nat := (List.range 64).reverse.foldl (fun r k => if (r + 2 ^ k) * (r + 2 ^ k) ≤ n then r + 2 ^ k else r) 0

/-- The square root of a quotient where the spec states no rounding: exact where it is whole, else its floor or one above (log entry 3). -/
def realRoot (tag num den : Nat) : Nat :=
  let r := isqrt (num / den)
  if r * r * den = num then r else r + (Config.realResult tag [(num : Int), (den : Int)] % 2).toNat

/-- Round to the nearest integer, a half up (R192). -/
def roundHalfUp (num den : Int) : Int := if den = 0 then 0 else (2 * num + den) / (2 * den)

/-! ## Units of a part (R1, R20, R42) -/

/-- CAP_UNITS of a part (Table 1-14). -/
def capUnits : Part → Nat
  | .nz5120a => 0x00FFFFFF
  | .nz5120x => 0x00FF0000
  | .nz2560a => 0x00E50F0F
  | .nz2560s => 0x00450F0F

/-- CAP_SIZES of a part (Table 1-14). -/
def capSizes : Part → Nat
  | .nz5120a => 0xA4010100
  | .nz5120x => 0xA4010100
  | .nz2560a => 0x9A008000
  | .nz2560s => 0x9A008000

/-- DEV_ID of a part (Table 1-14). -/
def devId : Part → Nat
  | .nz5120a => 0xC0D55121
  | .nz5120x => 0xC0D55122
  | .nz2560a => 0xC0D52561
  | .nz2560s => 0xC0D52562

/-- log2 of the number of NCS lines (CAP_SIZES.NCS_LOG2). -/
def ncsLog2 (p : Part) : Nat := natBits (capSizes p) 27 5

/-- Cluster c is present. -/
def clusterPresent (p : Part) (c : Nat) : Bool := decide (c < 4) && natBit (capUnits p) (16 + c)

/-- The converter port is present. -/
def jesdPresent (p : Part) : Bool := natBit (capUnits p) 20

/-- The Hjelno link and the pair interlock are present. -/
def hjPresent (p : Part) : Bool := natBit (capUnits p) 21

/-- Ethernet port e is present. -/
def ethPresent (p : Part) (e : Nat) : Bool := decide (e < 2) && natBit (capUnits p) (22 + e)

/-- A path number is a present path (R115): TRXn by CAP_UNITS.TRX, XSn by CAP_UNITS.JESD. -/
def pathPresent (p : Part) (n : Nat) : Bool :=
  if n < 16 then natBit (capUnits p) n else decide (n < 32) && jesdPresent p

/-- The cluster of a path (Table 1-3): TRX4c..4c+3 and XS4c..4c+3. -/
def pathCluster (n : Nat) : Nat := if n < 16 then n / 4 else (n - 16) / 4

/-- The cluster of a channel engine. -/
def ceCluster (n : Nat) : Nat := n / 128

/-- The cluster of a transmit engine. -/
def teCluster (n : Nat) : Nat := n / 32

/-- The path is enabled for reception: TRX_CTRL.ENABLE, or the chain A enable of the stream. -/
def pathEnabled (s : State) (n : Nat) : Bool :=
  pathPresent s.part n &&
    (if n < 16 then s.bit (R.TRX_CTRL_ENABLE n) else natBit (s.get R.JESD_RXCH_A) (n - 16))

/-- The path is enabled for transmission (R251). -/
def pathTxEnabled (s : State) (n : Nat) : Bool :=
  pathPresent s.part n &&
    (if n < 16 then s.bit (R.TRX_CTRL_ENABLE n) else natBit (s.get R.JESD_TXCH_TX) (n - 16))

/-- Chain B of the path is enabled (R118). -/
def chainBEnabled (s : State) (n : Nat) : Bool :=
  if n < 16 then true else natBit (s.get R.JESD_RXCH_B) (n - 16)

/-- "Lock held" of R127 and R141: the synthesizer's lock, or the transmit link up. -/
def lockHeld (s : State) (n : Nat) : Bool :=
  if n < 16 then s.bit (R.SYNTH_STATUS_LOCK n) else s.bit R.JESD_STATUS_TX_UP

/-- The path is in service for path choice (R122, R165, R251, R345): released by its cold-start calibration, not out of
service, not drained and, for a stream, its transmit link up. -/
def pathInService (s : State) (n : Nat) : Bool :=
  pathEnabled s n && !(decide (n < 16) && (s.bit (R.SYNTH_STATUS_OOS n) || !s.bit (R.CAL_STATUS_COLD n))) &&
    !(s.sched.drains.contains n) && (decide (n < 16) || s.bit R.JESD_STATUS_TX_UP)

/-! ## Substates -/

/-- Replace the start-up state. -/
def State.putBoot (s : State) (x : BootState) : State := { s with boot := x }

/-- Replace the event system. -/
def State.putEv (s : State) (x : EventState) : State := { s with ev := x }

/-- Replace the PCIe endpoint. -/
def State.putPcie (s : State) (x : PcieState) : State := { s with pcie := x }

/-- Replace the converter port. -/
def State.putJesd (s : State) (x : JesdState) : State := { s with jesd := x }

/-- Replace the oscillator trim. -/
def State.putOsc (s : State) (x : OscState) : State := { s with osc := x }

/-- Replace the map unit. -/
def State.putImap (s : State) (x : ImapState) : State := { s with imap := x }

/-- Replace the slot engine. -/
def State.putPsm (s : State) (x : PsmState) : State := { s with psm := x }

/-- Replace the drift control. -/
def State.putDrift (s : State) (x : DriftState) : State := { s with drift := x }

/-- Replace the forwarding tables. -/
def State.putFwd (s : State) (x : FwdState) : State := { s with fwd := x }

/-- Replace the scheduler. -/
def State.putSched (s : State) (x : SchedState) : State := { s with sched := x }

/-- Replace the timebase. -/
def State.putTb (s : State) (x : TimeState) : State := { s with tb := x }

/-- Replace the security state. -/
def State.putSec (s : State) (x : SecState) : State := { s with sec := x }

/-- Replace the tree state. -/
def State.putTree (s : State) (x : TreeState) : State := { s with tree := x }

/-- Replace the Ethernet state. -/
def State.putEth (s : State) (x : EthState) : State := { s with eth := x }

/-- Replace the application core. -/
def State.putApp (s : State) (x : AppState) : State := { s with app := x }

/-- Replace the memory integrity. -/
def State.putMi (s : State) (x : MiState) : State := { s with mi := x }

/-- Replace the pair. -/
def State.putPair (s : State) (x : PairState) : State := { s with pair := x }

/-- Replace the update state. -/
def State.putUpd (s : State) (x : UpdState) : State := { s with upd := x }

/-- Replace the power controller. -/
def State.putPwr (s : State) (x : PowerState) : State := { s with pwr := x }

/-- Replace the contents of the boot flash. -/
def State.putFlash (s : State) (x : ByteMem) : State := { s with flash := x }

/-- Replace the contents of the image window. -/
def State.putWindow (s : State) (x : ByteMem) : State := { s with window := x }

/-- Replace the OTP contents. -/
def State.putOtp (s : State) (x : OtpState) : State := { s with otp := x }

/-- Replace the control cores. -/
def State.putCpus (s : State) (x : List (Nat × CpuState)) : State := { s with cpus := x }

/-- Replace the host frame queues beside their registers. -/
def State.putHqs (s : State) (x : List (Nat × HostQueueState)) : State := { s with hqs := x }

/-- The elapsed clock moves on. -/
def State.later (s : State) (ns : Nat) : State := { s with now := s.now + ns }

/-! ## Indexed substates -/

/-- A path at rest. -/
def PathState.idle : PathState :=
  { restarted := false, oosSince := 0, interval := none, pa := false, lna := true, ant := 0,
    bias := 0, rxSet := [], txSet := [], merged := none, lastEpoch := none, barrier := none, bins := [], images := [],
    dcMean := [], analog := [], loopback := false, observed := 0, tone := none, request := none, saved := none, yielded := false, coldFailed := false, requestAt := 0, idleSlots := 0,
    counts := [], drainSince := none }

/-- A channel engine at rest. -/
def CeState.idle : CeState :=
  { pending := none, activeSet := [], pendingSet := none, bin := 0, shift := 0, node := none, mirror := false, len := 0,
    fcs4 := false, rate := 0, mapSel := false, mapChk := 0, mreq := false, acquired := 0, sfdTime := none, chosen := none, metricA := 0, metricB := 0, falseSec := 0,
    loading := false, maps := none, stale := false, usesPending := false }

/-- A transmit engine at rest. -/
def TeState.idle : TeState := { item := none, ready := 0, epoch := 0 }

/-- An empty event ring. -/
def RingState.idle : RingState := { waiting := [], drops := 0, wbProd := 0, msgProd := 0, msgTime := 0 }

/-- A pulse output at rest. -/
def TsoState.idle : TsoState := { stagedLo := 0, target := 0, k := 0, pulse := false, ends := 0 }

/-- A general timer at rest. -/
def GtState.idle : GtState :=
  { phase := 0, edges := 0, clearNext := false, stagedCnt := 0, stagedCmp := 0, lfAcc := 0,
    input := false }

/-- A requester's snapshots with none taken. -/
def Snapshots.none_ : Snapshots :=
  { asnHi := none, tbHi := none, tbFrac := none, tsiHi := [], tsiFrac := [], gtHi := [], gtCapHi := [],
    cfgSeqHi := none }

/-- An empty frame queue. -/
def QueueState.idle : QueueState :=
  { lanes := [], building := none, taken := 0, tags := [], waiting := [], byWriter := false,
    lost := 0 }

/-- A host frame queue at rest. -/
def HostQueueState.idle : HostQueueState := { msgHead := 0, msgTime := 0, notify := false }

/-- The state of path n. -/
def State.path (s : State) (n : Nat) : PathState := (assocGet s.paths n).getD PathState.idle

/-- Set the state of path n. -/
def State.setPath (s : State) (n : Nat) (p : PathState) : State := { s with paths := assocSet s.paths n p }

/-- The state of channel engine n. -/
def State.ce (s : State) (n : Nat) : CeState := (assocGet s.ces n).getD CeState.idle

/-- Set the state of channel engine n. -/
def State.setCe (s : State) (n : Nat) (c : CeState) : State := { s with ces := assocSet s.ces n c }

/-- The state of transmit engine n. -/
def State.te (s : State) (n : Nat) : TeState := (assocGet s.tes n).getD TeState.idle

/-- Set the state of transmit engine n. -/
def State.setTe (s : State) (n : Nat) (t : TeState) : State := { s with tes := assocSet s.tes n t }

/-- The state of ring r. -/
def State.ring (s : State) (r : Nat) : RingState := (assocGet s.ev.rings r).getD RingState.idle

/-- Set the state of ring r. -/
def State.setRing (s : State) (r : Nat) (x : RingState) : State :=
  s.putEv { s.ev with rings := assocSet s.ev.rings r x }

/-- The state of pulse output n. -/
def State.tso (s : State) (n : Nat) : TsoState := (assocGet s.tb.tso n).getD TsoState.idle

/-- Set the state of pulse output n. -/
def State.setTso (s : State) (n : Nat) (x : TsoState) : State := s.putTb { s.tb with tso := assocSet s.tb.tso n x }

/-- The state of general timer n. -/
def State.gt (s : State) (n : Nat) : GtState := (assocGet s.tb.gt n).getD GtState.idle

/-- Set the state of general timer n. -/
def State.setGt (s : State) (n : Nat) (x : GtState) : State := s.putTb { s.tb with gt := assocSet s.tb.gt n x }

/-- The snapshots of a requester. -/
def State.snapsOf (s : State) (q : Requester) : Snapshots := (assocGet s.snaps q.bank).getD Snapshots.none_

/-- Set the snapshots of a requester. -/
def State.setSnaps (s : State) (q : Requester) (x : Snapshots) : State := { s with snaps := assocSet s.snaps q.bank x }

/-- The frame queue q. -/
def State.queue (s : State) (q : Nat) : QueueState := (assocGet s.queues q).getD QueueState.idle

/-- Set the frame queue q. -/
def State.setQueue (s : State) (q : Nat) (x : QueueState) : State := { s with queues := assocSet s.queues q x }

/-- The host frame queue q beside its registers. -/
def State.hq (s : State) (q : Nat) : HostQueueState := (assocGet s.hqs q).getD HostQueueState.idle

/-- Set the host frame queue q. -/
def State.setHq (s : State) (q : Nat) (x : HostQueueState) : State := { s with hqs := assocSet s.hqs q x }

/-- Emit an output. -/
def State.emit (s : State) (o : Output) : State := { s with out := o :: s.out }

/-- Answer a read of a requester. -/
def State.answer (s : State) (q : Requester) (v : Nat) : State := { s with reply := assocSet s.reply q.bank v }

/-! ## Time and ASN -/

/-- The timebase as a number of nanoseconds. -/
def State.tbNs (s : State) : Nat := s.tb.ns.toNat

/-- The ASN as a number. -/
def State.asnNat (s : State) : Nat := s.psm.asn.toNat

/-- Slot length L in nanoseconds (R240, R413). -/
def slotLenNs (s : State) : Nat := 500000 * s.get R.PSM_SLOT_SLOT_LEN

/-- Length N of SF0 in slots (R240). -/
def sfLen (s : State) : Nat := s.get R.PSM_SLOT_SF_LEN + 1

/-- The slot offset of an ASN in SF0 (R240). -/
def slotOffset (s : State) (asn : Nat) : Nat := asn % sfLen s

/-- Carry the timebase to a moment that lies ahead (log entry 6): an occurrence that names a timebase moment
means that the moment has come. A moment already passed leaves it (R411). -/
def State.advanceTo (s : State) (t : Nat) : State :=
  let d := signedOf 64 (t + 2 ^ 64 - s.tbNs)
  if 0 < d then
    (s.later d.toNat).putTb { s.tb with ns := BitVec.ofNat 64 t, frac := 0#32 }
  else s

/-- Time passes: the elapsed clock and, while it runs, the timebase (log entry 6). -/
def State.elapse (s : State) (ns : Nat) : State :=
  if s.tb.running then s.advanceTo ((s.tbNs + ns) % 2 ^ 64) else s.later ns

/-- The elapsed clock has reached a moment that lies ahead. -/
def State.reach (s : State) (moment : Nat) : State := s.elapse (moment - s.now)

/-- A boot phase in which the boot ROM or later code runs, or the device is running. -/
def powered (s : State) : Bool := s.boot.phase = .boot || s.boot.phase = .running

/-- The configuration is committed and the device runs. -/
def running (s : State) : Bool := s.boot.phase = .running

/-- The device waits for images from outside: image wait or configuration wait (R89). -/
def imageWaiting (s : State) : Bool := decide (s.get R.BOOT_STATUS_PHASE = 8) || decide (s.get R.BOOT_STATUS_PHASE = 9)

/-- The blocks that answer from the commit on take accesses of a requester (R75): the device runs, or the host asks in image wait
or configuration wait. -/
def openTo (s : State) (q : Requester) : Bool :=
  running s || (decide (s.boot.phase = .boot) && imageWaiting s && decide (q = Requester.host))

/-- The calendar is valid (R420). -/
def calendarValid (s : State) : Bool :=
  decide (s.get R.TIME_QUALITY_CODE ≠ 0) && decide (s.get R.TIME_ERR_ERR ≠ 0xFFFFFFFF)

/-- The write stamp of the present day (R420), or 0 while the timebase is degraded (Table 3-6). -/
def writeStamp (s : State) : Nat :=
  if calendarValid s then (s.tbNs / 1000000000 - 946684800) / 86400 else 0

/-- Milliseconds since the start of the boot (BOOT_TIME); what 16 bits do not hold below the "not yet" value is open. -/
def bootMs (s : State) : State × Nat :=
  let ms := (s.now - s.boot.startAt) / 1000000
  if ms < 0xFFFF then (s, ms) else (s.drew, Config.openValue 2 s.draws)

/-- Nanoseconds in a second, and in 24 hours. -/
def secondNs : Nat := 1000000000
def dayNs : Nat := 86400 * secondNs

end Sys2Proof.Machine
end

