-- ==== Sys2Proof/Machine/QueueOps.lean ====
section
/-!
DEFINITION. The frame queues of chapter 12: lanes, room, tags, writing and reading one item, and the
register views of a queue.
-/

namespace Sys2Proof.Machine

/-- The lanes of a queue and their words (Table 12-1). -/
def queueLanes (q : Nat) : List (Nat × Nat) :=
  let byClass := [(0, 128), (1, 128), (2, 128), (3, 128), (4, 128), (5, 128), (6, 128), (7, 128)]
  if q < 4 then [(0, 896), (7, 128)]
  else if q < 8 then [(0, 512), (1, 512)]
  else if q < 12 then byClass
  else if q < 20 then [(0, 1024)]
  else if q < 22 then byClass
  else if q = 22 then [(0, 256), (1, 256), (2, 256), (3, 256)]
  else if q = 23 then [(0, 256), (1, 384), (2, 384)]
  else if q < 26 then byClass
  else if q < 32 then [(0, 1024)]
  else []

/-- The queue exists on the part: its cluster, port or link is present. -/
def queuePresent (p : Part) (q : Nat) : Bool :=
  if q < 20 then clusterPresent p (q % 4)
  else if q < 24 then true
  else if q < 28 then ethPresent p (q % 2)
  else if q < 30 then hjPresent p
  else decide (q < 32)

/-- Items of a lane, oldest first. -/
def QueueState.lane (x : QueueState) (l : Nat) : List QueueItem := (assocGet x.lanes l).getD []

/-- Words of a list of items. -/
def itemWords (l : List QueueItem) : Nat := l.foldl (fun a i => a + i.words) 0

/-- Words in use in a lane: its whole items and, in lane 0, the item being written, less the words already
read from its head item. -/
def QueueState.laneWords (x : QueueState) (l : Nat) : Nat :=
  itemWords (x.lane l) + (if l = 0 then (match x.building with | none => 0 | some i => i.words) - x.taken else 0)

/-- Whole items in all lanes. -/
def QueueState.items (x : QueueState) : Nat := x.lanes.foldl (fun a p => a + p.2.length) 0

/-- Words in use in all lanes. -/
def QueueState.words (x : QueueState) : Nat :=
  x.lanes.foldl (fun a p => a + itemWords p.2) 0 + (match x.building with | none => 0 | some i => i.words) - x.taken

/-- Words of a lane of queue q. -/
def laneSize (q l : Nat) : Nat := (assocGet (queueLanes q) l).getD 0

/-- The lane has room for `w` words (R354). -/
def laneRoom (x : QueueState) (q l w : Nat) : Bool := decide (x.laneWords l + w ≤ laneSize q l)

/-- An item can enter: it has words, its lane has room and, if it carries poison, a tag is free (R354, R359). -/
def canEnter (x : QueueState) (q l : Nat) (i : QueueItem) : Bool :=
  decide (0 < i.words) && laneRoom x q l i.words && (!i.poisoned || decide (x.tags.length < 8))

/-- Append an item to its lane and take a tag for poison (R355, R359). -/
def enter (x : QueueState) (l : Nat) (i : QueueItem) : QueueState :=
  { x with lanes := assocSet x.lanes l (x.lane l ++ [i]),
           tags := if i.poisoned then x.tags ++ [i.tag] else x.tags }

/-- The register views of queue q in step with its state (R363): Q_STAT, Q_LEVEL, Q_ITEMSk. -/
def viewQueue (s : State) (q : Nat) : State :=
  let x := s.queue q
  let s := s.set (R.Q_STAT_ITEMS q) x.items
  let s := s.set (R.Q_STAT_TAGS q) x.tags.length
  let s := s.set (R.Q_LEVEL_WORDS q) x.words
  let s := s.set (R.Q_LEVEL_MAX q) (max (s.get (R.Q_LEVEL_MAX q)) x.words)
  foldState (fun t k => (t.set (R.Q_ITEMS_EVEN q k) (x.lane (2 * k)).length).set
    (R.Q_ITEMS_ODD q k) (x.lane (2 * k + 1)).length) s [0, 1, 2, 3]

/-- Replace queue q and its views. -/
def putQueue (s : State) (q : Nat) (x : QueueState) : State := viewQueue (s.setQueue q x) q

/-- A received frame enters a cluster's receive queue: the engine that its report names counts RX_OK (Tables 6-7, 6-15). -/
def countReceived (s : State) (q l : Nat) (i : QueueItem) : State :=
  if q < 4 ∧ l = 0 then s.bump (R.CE_CNT_RX_RX_OK (128 * q + leField i.data 30 2 % 128)) else s

/-- Write an item into a lane of queue q, or let its producer wait (R354). A lane keeps the order of its items, those of waiting
producers too (R356; log entry 155). -/
def pushItem (s : State) (q l : Nat) (i : QueueItem) : State :=
  let x := s.queue q
  if canEnter x q l i && !s.bit (R.Q_STAT_RESETTING q) && !x.waiting.any (fun p => decide (p.1 = l)) then
    countReceived (putQueue s q (enter x l i)) q l i
  else putQueue s q { x with waiting := x.waiting ++ [(l, i)] }

/-- The lowest-numbered lane with a whole item, and its head (R357). -/
def headItem : List (Nat × List QueueItem) → Option (Nat × QueueItem)
  | [] => none
  | (l, i :: _) :: _ => some (l, i)
  | (_, []) :: t => headItem t

/-- Take the head item of the lowest non-empty lane; its tag is freed at its END word (R357, R359). -/
def popItem (s : State) (q : Nat) : State × Option (Nat × QueueItem) :=
  let x := s.queue q
  match headItem x.lanes with
  | none => (s, none)
  | some (l, i) =>
    (putQueue s q { x with lanes := assocSet x.lanes l ((x.lane l).drop 1), taken := 0,
                           tags := if i.poisoned then x.tags.erase i.tag else x.tags }, some (l, i))

/-- The 32-byte words that `n` bytes take. -/
def wordsFor (n : Nat) : Nat := max 1 ((n + 31) / 32)

end Sys2Proof.Machine
end

