-- ==== Sys2Proof/Machine/AicOps.lean ====
section
/-!
DEFINITION. The interrupt controller's shared operations (R444 to R453) and the mailbox queues.
-/

namespace Sys2Proof.Machine

/-- Sources marked reserved never become pending (Table 16-5). -/
def aicReserved (src : Nat) : Bool := [71, 78, 79].contains src || decide (95 < src)

/-- The source is a level source (Table 16-5; GPIO sources by GPIO_CFG.IRQ, R443). -/
def aicIsLevel (s : State) (src : Nat) : Bool :=
  if src < 32 then true
  else if src < 64 then [4, 5].contains (s.get (R.GPIO_CFG_IRQ (src - 32)))
  else [64, 65, 66, 67, 68, 70].contains src

/-- A pending, enable or active bit of a source. -/
def aicPending (s : State) (src : Nat) : Bool := s.getBitAt (R.AIC_PEND_BITS (src / 32)) (src % 32)
def aicEnabled (s : State) (src : Nat) : Bool := s.getBitAt (R.AIC_EN_BITS (src / 32)) (src % 32)
def aicActive (s : State) (src : Nat) : Bool := s.getBitAt (R.AIC_ACT_BITS (src / 32)) (src % 32)

/-- Set or clear the pending bit of a source; a reserved one never becomes pending (Table 16-5). -/
def setPending (s : State) (src : Nat) (b : Bool) : State :=
  if aicReserved src then s else s.setBitAt (R.AIC_PEND_BITS (src / 32)) (src % 32) b

/-- Set or clear the active bit of a source. -/
def setActive (s : State) (src : Nat) (b : Bool) : State := s.setBitAt (R.AIC_ACT_BITS (src / 32)) (src % 32) b

/-- The running priority: the top of the stack, or 16 (R445). -/
def aicRunning (s : State) : Nat := match s.app.stack with | [] => 16 | (p, _) :: _ => p

/-- A source qualifies: pending, enabled and numerically below the running priority (R445, R446). -/
def aicQualifies (s : State) (src : Nat) : Bool :=
  aicPending s src && aicEnabled s src && decide (s.get (R.AIC_SRC_PRIO src) < aicRunning s)

/-- The better of two sources: the lowest priority number, then the lowest source number (R446). -/
def aicBetter (s : State) (best : Option Nat) (src : Nat) : Option Nat :=
  match best with
  | none => some src
  | some b =>
    let p := s.get (R.AIC_SRC_PRIO src)
    let o := s.get (R.AIC_SRC_PRIO b)
    if p < o ∨ (p = o ∧ src < b) then some src else some b

/-- The set bits of a 32-bit word, as source numbers from `base`. -/
def wordSources (base w : Nat) : List Nat := ((List.range 32).filter (natBit w)).map (fun j => base + j)

/-- Sources that are pending and enabled, in ascending order. -/
def aicCandidates (s : State) : List Nat :=
  ([0, 1, 2].map fun k => wordSources (32 * k) (s.get (R.AIC_PEND_BITS k) &&& s.get (R.AIC_EN_BITS k))).flatten

/-- The source a claim would return (R446). -/
def aicBest (s : State) : Option Nat := ((aicCandidates s).filter (aicQualifies s)).foldl (aicBetter s) none

/-- The length of the windows of R450 and R451: 4 clk_app at 600 MHz, 6.7 ns, in whole nanoseconds. -/
def aicWindow : Nat := 7

/-- Level sources whose ignore window has passed pend again while their request is high (R450). -/
def aicExpire (s : State) : State :=
  foldState (fun (t : State) (e : Nat × Nat) =>
    if e.2 ≤ s.now then
      (if t.app.levels.contains e.1 then setPending t e.1 true else t)
    else t)
    (s.putApp { s.app with ignored := s.app.ignored.filter (fun e => decide (s.now < e.2)) }) s.app.ignored

/-- Recompute the request to the core and the AIC_RUN views (R445, R449). -/
def aicUpdate (s0 : State) : State :=
  let s := aicExpire s0
  let s := (s.set R.AIC_RUN_DEPTH s.app.stack.length).set R.AIC_RUN_PRIO (aicRunning s)
  if !s.bit R.AIC_GDIS_GDIS && (aicBest s).isSome then
    (s.putApp { s.app with request := match s.app.request with | none => some s.now | some t => some t })
  else s.putApp { s.app with request := none }

/-- An edge reaches a source: it becomes pending (R444, R450). -/
def aicEdge (s : State) (src : Nat) : State := if aicReserved src then s else aicUpdate (setPending s src true)

/-- The synchronized request of a level source changes: pending while it is high, outside the window of R450. -/
def aicLevel (s : State) (src : Nat) (high : Bool) : State :=
  if aicReserved src then s
  else
    let l := s.app.levels.filter (fun x => x ≠ src)
    let s := s.putApp { s.app with levels := if high then src :: l else l }
    let shut := s.app.ignored.any fun e => e.1 = src && decide (s.now < e.2)
    aicUpdate (setPending s src (high && !shut))

/-! ## Mailbox queues (R441, R442) -/

/-- Queue numbers of the mailboxes. -/
def mba : Nat := 30
def mbc : Nat := 31

/-- A mailbox message: the 8-byte header of Table 16-3 and its payload, padded to whole words. -/
def mailMessage (service tag status : Nat) (pl : List Byte) : QueueItem :=
  let n := wordsFor (8 + pl.length)
  let raw := toLE 2 service ++ toLE 2 tag ++ toLE 2 pl.length ++ toLE 1 status ++ [0#8] ++ pl
  { words := n, poison := [], tag := 0, data := raw ++ List.replicate (32 * n - raw.length) 0#8 }

/-- The mailbox views: MB_TX_STAT.ROOM, MB_RX_STAT.ITEMS and END, and MB_RX_DATA0–7 of the head word. With no
whole message waiting the data and END keep the last word (R358). -/
def viewMail (s : State) : State :=
  let s := s.set R.MB_TX_STAT_ROOM (1024 - (s.queue mba).words)
  let x := s.queue mbc
  let s := s.set R.MB_RX_STAT_ITEMS x.items
  match headItem x.lanes with
  | none => s
  | some (_, i) =>
    let w := sliceBytes i.data (32 * x.taken) 32
    let s := s.setBit R.MB_RX_STAT_END (decide (x.taken + 1 = i.words))
    foldState (fun t k => t.set (R.MB_RX_DATA_DATA k) (leField w (4 * k) 4)) s [0, 1, 2, 3, 4, 5, 6, 7]

/-- The mailbox views, with AIC source 68 asserted while a whole message waits, and the edge of source 69 once MBA has room for 8
words again after FULL_ERR (R442, Table 16-5). -/
def mailChanged (s : State) : State :=
  let s := aicLevel (viewMail s) 68 (decide (0 < (s.queue mbc).items))
  if s.app.roomWanted && decide (8 ≤ s.get R.MB_TX_STAT_ROOM) then aicEdge (s.putApp { s.app with roomWanted := false }) 69
  else s

/-- Room for a whole message in MBC. -/
def mbcRoom (s : State) (i : QueueItem) : Bool := canEnter (s.queue mbc) mbc 0 i && !s.bit (R.Q_STAT_RESETTING mbc)

/-- Send a message to the application core. -/
def mailTo (s : State) (i : QueueItem) : State := mailChanged (putQueue s mbc (enter (s.queue mbc) 0 i))

end Sys2Proof.Machine
end

