-- ==== Sys2Proof/Machine/Events.lean ====
section
/-!
DEFINITION. Event records: generation, numbering, rate limits, routing, backlog and drops (R367 to R377).
-/

namespace Sys2Proof.Machine

/-- The 16 payload bytes of the fields (offset, bytes, value), little-endian; every byte no field names
is 0 (R367). -/
def payload (fs : List (Nat × Nat × Nat)) : List Byte :=
  toLE 16 (fs.foldl (fun a f => a + (f.2.2 % 256 ^ f.2.1) * 256 ^ f.1) 0)

/-- A signed value as an unsigned field of `n` bytes. -/
def sfield (n : Nat) (x : Int) : Nat := toField (8 * n) x

/-- An EUI-64 payload field: its 8 bytes in NCS order, as the number whose little-endian bytes they are. -/
def euiField (eui : Nat) : Nat := eui

/-- The codes Table 13-5 marks "≤ 1/s" (R370). -/
def rateLimited (code : Nat) : Bool :=
  [0x0502, 0x0701, 0x0802, 0x0804, 0x0901, 0x0B01, 0x0B02, 0x0F06].contains code

/-- The limit key of an occurrence: its code, and the table, ring or queue byte where the mark names one. -/
def limitKey (code : Nat) (pl : List Byte) : Nat :=
  if [0x0802, 0x0B01, 0x0B02].contains code then code * 256 + leField pl 0 1 else code * 256

/-- Payload offset of the occurrence count of the types that carry one (R370). -/
def countOffset (code : Nat) : Option Nat :=
  if code = 0x0701 then some 0 else if code = 0x0B01 ∨ code = 0x0B02 then some 4 else none

/-- The payload with its occurrence count filled in. -/
def withCount (code count : Nat) (pl : List Byte) : List Byte :=
  match countOffset code with
  | none => pl
  | some a => pl.take a ++ toLE 4 count ++ pl.drop (a + 4)

/-- The limit entry of a key. -/
def limitOf (l : List EventLimit) (key : Nat) : EventLimit :=
  (l.find? fun e => e.key = key).getD { key := key, last := none, folded := 0, count := 0 }

/-- Replace the limit entry of its key. -/
def setLimit (l : List EventLimit) (e : EventLimit) : List EventLimit := e :: l.filter fun x => x.key ≠ e.key

/-- Type t of source s is masked (R371). -/
def eventMasked (s : State) (src t : Nat) : Bool := natBit (s.word (R.EV_MASK src)).toNat t

/-- The ring of a source (R371). -/
def eventRing (s : State) (src : Nat) : Nat := natBits (s.word (R.EV_ROUTE (src / 8))).toNat (4 * (src % 8)) 4

/-- Ring r is active: enabled and Bus Master Enable set (R366, Table 13-10). -/
def ringActive (s : State) (r : Nat) : Bool := s.bit (R.EVR_CTRL_EN r) && s.pcie.bme

/-- Records of ring r that are written or wait, ahead of CONS. -/
def ringHeld (s : State) (r : Nat) : Nat :=
  (s.get (R.EVR_PROD_INDEX r) + (s.ring r).waiting.length + 2 ^ 32 - s.get (R.EVR_CONS_INDEX r)) % 2 ^ 32

/-- SIZE of ring r (R372). -/
def ringSize (s : State) (r : Nat) : Nat := 2 ^ s.get (R.EVR_CTRL_LOG2SZ r)

/-- The next sequence number of a source. -/
def sourceSeq (s : State) (src : Nat) : Nat := (assocGet s.ev.seqs src).getD 0

/-- Build the record of an occurrence with the next number of its source (R367 to R370). -/
def mkRecord (s : State) (code coalesced : Nat) (pl : List Byte) : EventRecord :=
  { source := code / 256, type := code % 256, seq := sourceSeq s (code / 256),
    pl := s.get R.PWR_STATUS_CUR, tbEpoch := natBits (s.get R.TB_STATUS_STEPS) 0 4,
    coalesced := min 255 coalesced, loss := s.ev.loss.contains (code / 256),
    first := (assocGet s.ev.seqs (code / 256)).isNone, time := s.tbNs, payload := pl }

/-- Take the next number of a source (R368). -/
def takeSeq (s : State) (src : Nat) : State :=
  s.putEv { s.ev with seqs := assocSet s.ev.seqs src ((sourceSeq s src + 1) % 65536) }

/-- Count a dropped record of a source at a ring (R375). -/
def countDrop (s : State) (src r : Nat) : State :=
  let s := (s.bump (R.EV_DROP_COUNT src)).bump (R.EVR_DROP_COUNT r)
  let s := s.setRing r { s.ring r with drops := ((s.ring r).drops + 1) % 2 ^ 32 }
  s.putEv { s.ev with loss := if s.ev.loss.contains src then s.ev.loss else src :: s.ev.loss }

/-- A record of the source is held: it carried the LOSS flag (R375). -/
def clearLoss (s : State) (src : Nat) : State :=
  s.putEv { s.ev with loss := s.ev.loss.filter (fun x => x ≠ src) }

/-- Keep the BACKLOG view in step with the backlog. -/
def setBacklog (s : State) (l : List (Nat × EventRecord)) : State :=
  State.set (s.putEv { s.ev with backlog := l }) R.EV_STATUS_BACKLOG l.length

/-- Try to hold a numbered record: in its ring's list when the ring is active, otherwise in the backlog
(R377). Answers the state and whether the record was dropped. -/
def holdRecord (s : State) (r : Nat) (e : EventRecord) : State × Bool :=
  if ringActive s r then
    if ringHeld s r < ringSize s r then
      ((clearLoss s e.source).setRing r { s.ring r with waiting := (s.ring r).waiting ++ [e] }, false)
    else (countDrop s e.source r, true)
  else if s.ev.backlog.length < 256 then
    (setBacklog (clearLoss s e.source) (s.ev.backlog ++ [(r, e)]), false)
  else (countDrop s e.source r, true)

/-- Replace the limit entry of its key in the state. -/
def putLimit (s : State) (e : EventLimit) : State :=
  s.putEv { s.ev with limits := setLimit s.ev.limits e }

/-- The 32 bytes of a record (Tables 13-2 and 13-3) with its PHASE bit. -/
def recordBytes (e : EventRecord) (phase : Bool) : List Byte :=
  let flags := boolNat phase * 2 ^ 31 + e.pl % 8 * 2 ^ 20 + e.tbEpoch % 16 * 2 ^ 16 + e.coalesced * 2 ^ 8 +
    boolNat e.loss * 2 + boolNat e.first
  toLE 1 e.source ++ toLE 1 e.type ++ toLE 2 e.seq ++ toLE 4 flags ++ toLE 8 e.time ++ e.payload

/-- Forward a record to the application core when its source is subscribed; with no room in MBC the runtime
drops it and counts FWD_DROP (R442). Its PHASE bit belongs to no ring and is a free value (log entry 2). -/
def forwardRecord (s : State) (e : EventRecord) : State :=
  if natBit s.app.forward e.source then
    let m := mailMessage 0x8002 0 0 (recordBytes e (Config.forwardPhase s.draws))
    if mbcRoom s m then mailTo s.drew m else s.bump R.APP_CNT_FWD_DROP
  else s

/-- Generate one occurrence. `fuel` bounds the HOST_RING_DROP records that a drop itself generates (R375);
the rate limit of R370 lets at most one per ring and second through. -/
def generate : Nat → Nat → List Byte → State → State
  | fuel, code, pl, s =>
    let src := code / 256
    let key := limitKey code pl
    let lim := limitOf s.ev.limits key
    let masked := eventMasked s src (code % 256)
    let held := rateLimited code && (match lim.last with | none => false | some t => decide (s.now < t + secondNs))
    if masked || held then
      if rateLimited code then
        putLimit s { lim with folded := lim.folded + boolNat (!masked), count := lim.count + 1 }
      else s
    else
      let e := mkRecord s code lim.folded (withCount code (lim.count + 1) pl)
      let s := takeSeq s src
      let s := if rateLimited code then
          putLimit s { key := key, last := some s.now, folded := 0, count := 0 }
        else s
      let s := forwardRecord s e
      let r := eventRing s src
      let (s, dropped) := holdRecord s r e
      match fuel with
      | 0 => s
      | n + 1 => if dropped then generate n 0x0B01 (payload [(0, 1, r)]) s else s

/-- Post the event of a code (source ‖ type) with its payload fields. -/
def postEvent (code : Nat) (fields : List (Nat × Nat × Nat)) (s : State) : State :=
  generate 2 code (payload fields) s

/-- A ring with no record waiting. -/
def RingState.emptied (x : RingState) : RingState := { x with waiting := [] }

/-- The device numbers no record and holds none: the sequences restart (R368) and the backlog clears (R377). -/
def clearEvents (s : State) : State :=
  State.set (s.putEv { seqs := [], loss := [], limits := [], backlog := [],
                             rings := s.ev.rings.map fun p => (p.1, RingState.emptied p.2) })
    R.EV_STATUS_BACKLOG 0

/-- Records of a ring that stopped while they waited go to the backlog, ahead of none (R366, R377). -/
def ringToBacklog (s : State) (r : Nat) : State :=
  let w := (s.ring r).waiting
  let room := 256 - s.ev.backlog.length
  let s1 := s.setRing r { s.ring r with waiting := [] }
  let s2 := setBacklog s1 (s1.ev.backlog ++ (w.take room).map fun e => (r, e))
  foldState (fun t e => countDrop t e.source r) s2 (w.drop room)

/-- A ring became active: its backlog records go to it first, in order (R377). -/
def backlogToRing (s : State) (r : Nat) : State :=
  if ringActive s r then
    let mine := (s.ev.backlog.filter fun p => p.1 = r).map (·.2)
    let s1 := setBacklog s (s.ev.backlog.filter fun p => p.1 ≠ r)
    s1.setRing r { s1.ring r with waiting := mine ++ (s1.ring r).waiting }
  else s

end Sys2Proof.Machine
end

