-- ==== Sys2Proof/Machine/Flash.lean ====
section
/-!
DEFINITION. The boot flash: CRC-32C, the directory (R81 to R84), the slots, the write budget (R112), and the
ordered checks of an image (R85 to R87, R91).
-/

namespace Sys2Proof.Machine

/-! ## CRC-32C -/

/-- One bit of the reflected CRC-32C. -/
def crcBit (c : BitVec 32) : BitVec 32 := if c.getLsbD 0 then (c >>> 1) ^^^ 0x82F63B78#32 else c >>> 1

/-- One byte of the reflected CRC-32C. -/
def crcByte (c : BitVec 32) (b : Byte) : BitVec 32 :=
  crcBit (crcBit (crcBit (crcBit (crcBit (crcBit (crcBit (crcBit (c ^^^ b.setWidth 32))))))))

/-- CRC-32C: initial value all ones, reflected, final inversion (R499; the Castagnoli polynomial that the
name stands for). -/
def crc32c (l : List Byte) : Nat := (~~~ (l.foldl crcByte 0xFFFFFFFF#32)).toNat

/-- The CRC-32C with another initial value (R305). -/
def crc32cFrom (seed : Nat) (l : List Byte) : Nat := (~~~ (l.foldl crcByte (BitVec.ofNat 32 seed))).toNat

/-! ## The directory -/

/-- A slot entry of Table 3-6, with its place in the page. -/
structure SlotEntry where
  place : Nat
  comp : Nat
  slot : Nat
  state : Nat
  active : Bool
  offset : Nat
  size : Nat
  length : Nat
  erases : Nat
  stamp : Nat
  deriving DecidableEq, Repr

/-- Slot states (Table 3-6). -/
def slotEmpty : Nat := 0
def slotValid : Nat := 1
def slotTrial : Nat := 2
def slotRejected : Nat := 3

/-- Size of a directory sector and of a page. -/
def sectorSize : Nat := 0x10000
def pageSize : Nat := 0x1000

/-- The directory sectors: primary and mirror (R81). -/
def dirSector (copy : Nat) : Nat := copy * 0x01000000

/-- A directory page is valid: magic, version and CRC (R82). -/
def pageValid (p : List Byte) : Bool :=
  decide (leField p 0 4 = 0x4E5A4452) && decide (leField p 4 2 = 1) && decide (leField p 4092 4 = crc32c (p.take 4092))

/-- A page of flash. -/
def pageAt (s : State) (a : Nat) : List Byte := flashAt s.flash a pageSize

/-- Page addresses of a copy in ascending page number. -/
def copyPages (copy : Nat) : List Nat := (List.range 16).map fun i => dirSector copy + i * pageSize

/-- Of two valid pages, the directory (R83): the higher generation by signed difference, then the preferred
copy, then the higher page number of one copy. -/
def betterPage (prefer : Nat) (best : Option (Nat × Nat)) (c : Nat × Nat) : Option (Nat × Nat) :=
  match best with
  | none => some c
  | some b =>
    if b.2 = c.2 then
      if b.1 / 0x01000000 = c.1 / 0x01000000 then (if b.1 < c.1 then some c else some b)
      else if c.1 / 0x01000000 = prefer then some c else some b
    else if seqGe 32 c.2 b.2 then some c else some b

/-- The directory page in flash (R83): its address. Table 3-2 names a preferred copy for BOOT_MODE 0b00 and 0b01 only; under 0b10 and
0b11 the model prefers the primary one (DESIGN CHOICE, log entry 143). -/
def selectDirectory (s : State) : Option Nat :=
  let prefer := if s.get R.STRAPS_BOOT_MODE = 1 then 1 else 0
  let valid := ((copyPages 0 ++ copyPages 1).map fun a => (a, pageAt s a)).filter fun c => pageValid c.2
  ((valid.map fun c => (c.1, leField c.2 8 4)).foldl (betterPage prefer) none).map (fun c => c.1)

/-- The bytes of the directory page in force. -/
def dirPage (s : State) : List Byte := match s.boot.page with | none => [] | some a => pageAt s a

/-- Slot entry `i` of a page. -/
def slotEntry (p : List Byte) (i : Nat) : SlotEntry :=
  let e := sliceBytes p (32 + 32 * i) 32
  { place := i, comp := leField e 0 1, slot := leField e 1 1, state := leField e 2 1, active := natBit (leField e 3 1) 0,
    offset := leField e 4 4, size := leField e 8 4, length := leField e 12 4, erases := leField e 16 4,
    stamp := leField e 20 4 }

/-- The 12 slot entries of the page in force. -/
def slotEntries (s : State) : List SlotEntry :=
  match s.boot.page with
  | none => []
  | some _ => let p := dirPage s; (List.range 12).map (slotEntry p)

/-- The entry of a component and slot. -/
def slotOf (s : State) (comp slot : Nat) : Option SlotEntry := (slotEntries s).find? fun e => e.comp = comp && e.slot = slot

/-- The bytes of a slot entry (Table 3-6). -/
def slotBytes (e : SlotEntry) : List Byte :=
  toLE 1 e.comp ++ toLE 1 e.slot ++ toLE 1 e.state ++ toLE 1 (boolNat e.active) ++ toLE 4 e.offset ++ toLE 4 e.size ++
    toLE 4 e.length ++ toLE 4 e.erases ++ toLE 4 e.stamp ++ toLE 8 0

/-- Two ranges overlap. -/
def overlaps (a n b m : Nat) : Bool := decide (a < b + m) && decide (b < a + n)

/-- Soft repair map copies of the page in force: offset of copy 0, copy 1 at the same offset in the mirror half
(Table 3-4), and their size (Table 3-5). -/
def repairMap (s : State) : Nat × Nat := (leField (dirPage s) 24 4, leField (dirPage s) 28 4)

/-- The address of a soft repair map copy. -/
def repairCopy (s : State) (copy : Nat) : Nat := (repairMap s).1 + copy * 0x01000000

/-- The place of a slot entry is good (R81). -/
def wellPlaced (s : State) (e : SlotEntry) : Bool :=
  decide (e.offset % sectorSize = 0) && decide (e.size ≠ 0) && decide (e.size % sectorSize = 0) &&
    decide (e.offset + e.size ≤ s.flashSize) &&
    !overlaps e.offset e.size (dirSector 0) sectorSize && !overlaps e.offset e.size (dirSector 1) sectorSize &&
    !overlaps e.offset e.size (repairCopy s 0) (repairMap s).2 && !overlaps e.offset e.size (repairCopy s 1) (repairMap s).2 &&
    (slotEntries s).all fun o => decide (o.place = e.place) || !overlaps e.offset e.size o.offset o.size

/-- The slot tried first at boot: the active slot (Table 3-6); slot A where the page names none. -/
def firstSlot (s : State) (comp : Nat) : Nat :=
  match (slotEntries s).find? fun e => e.comp = comp && e.active with
  | some e => e.slot
  | none => 0

/-- Refuse a flash write: FLASH_WEAR.REFUSED and the event (R112). `kind` 0 commit, 1 slot write. -/
def refuseFlash (s : State) (kind comp slot : Nat) : State :=
  postEvent 0x0108 [(0, 1, kind), (1, 1, comp), (2, 1, slot)] (s.bump R.FLASH_WEAR_REFUSED)

/-- Times within the last 24 h. -/
def recentDay (s : State) (l : List Nat) : List Nat := l.filter fun t => decide (s.now < t + dayNs)

/-- A directory commit is within the budget (R112). -/
def commitAllowed (s : State) : Bool := decide ((recentDay s s.boot.commitTimes).length < 64)

/-- A write of a slot is within the budget (R112). -/
def slotWriteAllowed (s : State) (comp slot : Nat) : Bool :=
  decide (((s.boot.slotWrites.filter fun w => w.1 = comp * 2 + slot && decide (s.now < w.2 + dayNs))).length < 4)

/-- Count a slot write against the budget. -/
def countSlotWrite (s : State) (comp slot : Nat) : State :=
  let recent := s.boot.slotWrites.filter fun w => decide (s.now < w.2 + dayNs)
  s.putBoot { s.boot with slotWrites := (comp * 2 + slot, s.now) :: recent }

/-- The erase count a copy's sector carries: that of its valid page of highest generation, 0 where it has none. -/
def sectorErases (s : State) (copy : Nat) : Nat :=
  match ((((copyPages copy).map fun a => (a, pageAt s a)).filter fun c => pageValid c.2).map
      fun c => (c.1, leField c.2 8 4)).foldl (betterPage copy) none with
  | none => 0
  | some c => leField (pageAt s c.1) 12 4

/-- The first erased page of a copy. -/
def erasedPage (s : State) (copy : Nat) : Option Nat :=
  (copyPages copy).find? fun a => (pageAt s a).all fun b => decide (b = 0xFF#8)

/-- A page whose generation, erase count, floor and entries are given; the rest is taken from `p`. -/
def buildPage (p : List Byte) (generation erases floor : Nat) (entries : List SlotEntry) : List Byte :=
  let body := p.take 8 ++ toLE 4 generation ++ toLE 4 erases ++ toLE 8 floor ++ sliceBytes p 24 8 ++
    (entries.map slotBytes).flatten ++ List.replicate (4092 - 416) 0#8
  body ++ toLE 4 (crc32c body)

/-- Write a page into one copy (R84): the first erased page, or the first page after an erase, which raises
the sector's erase count. Answers the state and the page's address. -/
def writePage (s : State) (copy generation floor : Nat) (entries : List SlotEntry) (p : List Byte) : State × Nat :=
  match erasedPage s copy with
  | some a => ((s.putFlash (flashProgram s.flash a (buildPage p generation (sectorErases s copy) floor entries))), a)
  | none =>
    let n := sectorErases s copy + 1
    let a := dirSector copy
    let s := s.putFlash (flashClear s.flash a sectorSize)
    ((State.emit (s.putFlash (flashProgram s.flash a (buildPage p generation n floor entries)))
      (.flashErase a sectorSize)), a)

/-- The highest erase count of any directory sector or slot (FLASH_WEAR.MAX_ERASE). -/
def wearView (s : State) : State :=
  s.set R.FLASH_WEAR_MAX_ERASE (min 65535 ((slotEntries s).foldl (fun a e => max a e.erases)
    (max (sectorErases s 0) (sectorErases s 1))))

/-- A directory commit with new entries and a new floor (R84), counted in the budget; refused when the budget is
spent (R112). Answers whether it was made. -/
def commitDirectory (s : State) (floor : Nat) (entries : List SlotEntry) (comp slot : Nat) : State × Bool :=
  if !commitAllowed s then (refuseFlash s 0 comp slot, false)
  else match s.boot.page with
    | none => (s, false)
    | some a =>
      let p := pageAt s a
      let gen := (leField p 8 4 + 1) % 2 ^ 32
      let (s, p0) := writePage s 0 gen floor entries p
      let (s, p1) := writePage s 1 gen floor entries p
      let here := if a < 0x01000000 then p0 else p1
      (wearView (s.putBoot { s.boot with page := some here, commitTimes := s.now :: recentDay s s.boot.commitTimes }), true)

/-- The configuration sequence floor of the page in force (Table 3-5). -/
def configFloor (s : State) : Nat := leField (dirPage s) 16 8

/-- The entries with one entry replaced by its place. -/
def putEntry (l : List SlotEntry) (e : SlotEntry) : List SlotEntry := l.map fun o => if o.place = e.place then e else o

/-- Program an image into a slot: erase the slot, raise its erase count in the given entries, write the bytes. -/
def programSlot (s : State) (e : SlotEntry) (image : List Byte) : State :=
  State.emit (s.putFlash (flashProgram (flashClear s.flash e.offset e.size) e.offset image))
    (.flashErase e.offset e.size)

/-! ## Images (R85 to R87, Tables 3-8 and 20-2) -/

/-- Component codes. -/
def compConfig : Nat := 5

/-- A 32-byte hash field as a 256-bit number, octet 0 first. -/
def hashField (l : List Byte) (a : Nat) : BitVec 256 := BitVec.ofNat 256 (beField l a 32)

/-- Offset of the body hash, of the compatibility vector and of the owner key slot in a header. -/
def hashOffset (comp : Nat) : Nat := if comp = compConfig then 56 else 52
def vectorOffset (comp : Nat) : Nat := if comp = compConfig then 24 else 20
def ownerOffset (comp : Nat) : Nat := if comp = compConfig then 88 else 84

/-- The image length that a header states. -/
def imageLength (l : List Byte) : Nat := leField l 8 4

/-- The provided interface version, state layout version, predecessor layout, rollback value and version of an
image (R547): a configuration provides its format version and layout 0. -/
def imageIfv (comp : Nat) (l : List Byte) : Nat := if comp = compConfig then 1 else leField l 16 1
def imageLayout (comp : Nat) (l : List Byte) : Nat := if comp = compConfig then 0 else leField l 17 1
def imagePredecessor (l : List Byte) : Nat := leField l 18 1
def imageRollback (comp : Nat) (l : List Byte) : Nat := if comp = compConfig then 0 else leField l 19 1
def imageVersion (comp : Nat) (l : List Byte) : Nat := if comp = compConfig then leField l 16 4 else leField l 12 4
def configSequence (l : List Byte) : Nat := leField l 16 8

/-- The entries of a compatibility vector that name a component: (component, minimum, maximum). -/
def vectorEntries (comp : Nat) (l : List Byte) : List (Nat × Nat × Nat) :=
  ((List.range 8).map fun i =>
    (leField l (vectorOffset comp + 4 * i) 1, leField l (vectorOffset comp + 4 * i + 2) 1,
     leField l (vectorOffset comp + 4 * i + 3) 1)).filter fun e => e.1 ≠ 0xFF

/-- An image's vector is met by a set of (component, interface version); entries for components the set does
not name are left open. -/
def vectorMet (v : List (Nat × Nat × Nat)) (present : List (Nat × Nat)) : Bool :=
  v.all fun e => match assocGet present e.1 with | none => true | some x => decide (e.2.1 ≤ x) && decide (x ≤ e.2.2)

/-- Interface versions of the images in force. -/
def presentVersions (s : State) : List (Nat × Nat) := s.boot.images.map fun p => (p.1, imageIfv p.1 p.2.image)

/-- The signer's key is trusted (R85): its hash is the vendor's, or that of the named owner slot, not revoked. -/
def signerTrusted (s : State) (comp : Nat) (l : List Byte) : Bool :=
  let h := Config.sha256 (sliceBytes l 96 64)
  if comp < 4 then decide (s.otp.vendorHash = some h)
  else match s.otp.owners[leField l (ownerOffset comp) 1]? with
    | some (some x, false) => decide (x = h)
    | _ => false

/-- The rollback check of Table 3-7; a value above 64 fails it (R490). -/
def rollbackOk (s : State) (comp : Nat) (l : List Byte) : Bool :=
  if comp = compConfig then decide (configFloor s ≤ configSequence l)
  else decide (s.otp.arb.getD comp 0 ≤ imageRollback comp l) && decide (imageRollback comp l ≤ 64)

/-- The magic, with the component code for components 0 to 4 (R86). -/
def magicOk (comp : Nat) (l : List Byte) : Bool :=
  if comp = compConfig then decide (leField l 0 4 = 0x4E5A4346)
  else decide (leField l 0 4 = 0x4E5A494D) && decide (leField l 6 1 = comp)

/-- The length is good: at least a header, within the allocation, and for a configuration within R90. -/
def lengthOk (comp : Nat) (l : List Byte) (alloc : Nat) : Bool :=
  let n := imageLength l
  decide (256 ≤ n) && decide (n ≤ alloc) && decide (n ≤ l.length) &&
    (decide (comp ≠ compConfig) || (decide (n ≤ 1048576) && decide (n % 8 = 0)))

/-- Checks 2 to 9 of R86 on an image in an allocation of `alloc` bytes: the first failing reason of Table 3-11,
or 0. `others` are the interface versions the vector is held against, and `vectors` the vectors of the
components already in force, held against this image (R87). -/
def checkImage (s : State) (comp : Nat) (l : List Byte) (alloc : Nat) : Nat :=
  let n := imageLength l
  if !magicOk comp l then 0x01
  else if leField l 4 2 ≠ 1 then 0x02
  else if !lengthOk comp l alloc then 0x03
  else if Config.sha256 (sliceBytes l 256 (n - 256)) ≠ hashField l (hashOffset comp) then 0x04
  else if !signerTrusted s comp l then 0x05
  else if !Config.ecdsaVerify (sliceBytes l 96 64) (l.take 192) (sliceBytes l 192 64) then 0x06
  else if !rollbackOk s comp l then 0x07
  else if !(vectorMet (vectorEntries comp l) (presentVersions s) &&
      (s.boot.images.all fun p => decide (p.1 = comp) || vectorMet (vectorEntries p.1 p.2.image) [(comp, imageIfv comp l)]))
    then 0x08
  else 0

/-- The image a slot holds, as far as its allocation and its stated length go, and at least its header (R86). -/
def slotImage (s : State) (e : SlotEntry) : List Byte :=
  flashAt s.flash e.offset (min e.size (max 256 (leBytes (flashAt s.flash (e.offset + 8) 4))))

/-- All checks of R86 on a slot: placement and read first. -/
def checkSlot (s : State) (comp slot : Nat) (readOk : Bool) : Nat :=
  match slotOf s comp slot with
  | none => 0x09
  | some e =>
    if e.state = slotEmpty || !wellPlaced s e || !readOk then 0x09
    else checkImage s comp (slotImage s e) e.size

/-- The measurement of an image: the SHA-256 of its header and body (R484, Table 17-6a). -/
def imageMeasure (l : List Byte) : Nat := (Config.sha256 l).toNat

/-- Take an image into force: the image, SLOT_B, UPD_RUNVER and UPD_RUNIF (Table 20-7). -/
def imageInForce (s : State) (comp slot : Nat) (l : List Byte) : State :=
  let img := l.take (imageLength l)
  let entry : ImageInForce := { slot := slot, image := img, hash := imageMeasure img }
  let s := s.putBoot { s.boot with images := assocSet s.boot.images comp entry }
  let s := s.setBitAt R.BOOT_STATUS_SLOT_B comp (decide (slot = 1))
  let s := s.set (R.UPD_RUNVER_VERSION comp) (imageVersion comp l)
  let s := s.set (R.UPD_RUNIF_IFV comp) (imageIfv comp l)
  let s := s.set (R.UPD_RUNIF_LAYOUT comp) (imageLayout comp l)
  s.set (R.UPD_RUNIF_ROLLBACK comp) (imageRollback comp l)

end Sys2Proof.Machine
end

