-- ==== Sys2Proof/Machine/NcsOps.lean ====
section
/-!
DEFINITION. The node context store: line fields (Tables 10-1 to 10-3), the arbiter's write (R303) with the
mirror (R533), the snapshot's copy-on-write (R323) and the check flip (R516), and the marking of a line for
rebuild (R508).
-/

namespace Sys2Proof.Machine

/-- A field of a line: lowest bit (8 × byte + bit) and width. -/
structure LineFld where
  lo : Nat
  width : Nat
  deriving DecidableEq, Repr

/-- Read a field of a line. -/
def lineGet (l : Line) (f : LineFld) : Nat := natBits l.toNat f.lo f.width

/-- Write a field of a line (reduced to its width). -/
def lineSet (l : Line) (f : LineFld) (v : Nat) : Line := BitVec.ofNat 512 (natSetBits l.toNat f.lo f.width v)

/-- A one-bit field as a flag. -/
def lineBit (l : Line) (f : LineFld) : Bool := lineGet l f = 1

/-! Fields of Table 10-1, with the route word (Table 10-2) and the transmit hint (Table 10-3). -/
abbrev N.EUI : LineFld := ⟨0, 64⟩
abbrev N.PARENT : LineFld := ⟨64, 20⟩
abbrev N.HOP : LineFld := ⟨84, 5⟩
abbrev N.VALID : LineFld := ⟨89, 1⟩
abbrev N.ROUTER : LineFld := ⟨90, 1⟩
abbrev N.MISS : LineFld := ⟨91, 2⟩
abbrev N.SUSPECT : LineFld := ⟨93, 1⟩
abbrev N.REBUILD : LineFld := ⟨94, 1⟩
abbrev N.ROOT : LineFld := ⟨95, 1⟩
abbrev N.DSN : LineFld := ⟨96, 8⟩
abbrev N.JOIN : LineFld := ⟨104, 8⟩
abbrev N.DISTRICT : LineFld := ⟨112, 12⟩
abbrev N.GEN : LineFld := ⟨124, 4⟩
abbrev N.RXCTR : LineFld := ⟨128, 32⟩
abbrev N.TXCTR : LineFld := ⟨160, 32⟩
/-- Bytes 32–35: the wake word, whose fields chapter 09 gives. -/
abbrev N.WAKE : LineFld := ⟨256, 32⟩
abbrev N.AGE : LineFld := ⟨288, 16⟩
abbrev N.CREDIT : LineFld := ⟨304, 8⟩
abbrev N.WEIGHT : LineFld := ⟨312, 8⟩
/-- Bytes 40–54: the Indigo map. -/
abbrev N.MAP : LineFld := ⟨320, 120⟩
abbrev N.MODE : LineFld := ⟨440, 8⟩
abbrev N.QHEAD : LineFld := ⟨448, 18⟩
abbrev N.QCOUNT : LineFld := ⟨466, 14⟩
abbrev N.HINT : LineFld := ⟨480, 16⟩
abbrev N.HPATH : LineFld := ⟨480, 5⟩
abbrev N.HANT : LineFld := ⟨485, 1⟩
abbrev N.HV : LineFld := ⟨486, 1⟩
abbrev N.HBKT : LineFld := ⟨488, 4⟩

/-- The 64 bytes of a line, byte 0 first. -/
def lineBytes (l : Line) : List Byte := toLE 64 l.toNat

/-- A line from its bytes. -/
def lineOf (b : List Byte) : Line := BitVec.ofNat 512 (leBytes (b.take 64))

/-- Lines of the part's store (R3, R304). -/
def lineCount (s : State) : Nat := 2 ^ ncsLog2 s.part

/-- The content of line n. -/
def State.line (s : State) (n : Nat) : Line := cellsRead zeroCell s.fwd.ncs n

/-- The line is in the store and VALID (R259, R304). -/
def nodeValid (s : State) (n : Nat) : Bool := decide (n < lineCount s) && lineBit (s.line n) N.VALID

/-- The line's reads end poisoned (R503, R507). -/
def linePoisoned (s : State) (n : Nat) : Bool := s.mi.bad.contains (.ncs, n)

/-! ## Mirror records (R533) -/

/-- Send one record in a link frame, to be acknowledged (R530). -/
def sendRecord (s : State) (r : MirrorRecord) : State :=
  let f : HjFrame := { seq := s.pair.txSeq, sends := 1, records := [r] }
  let s := s.putPair { s.pair with txSeq := s.pair.txSeq + 1, unacked := s.pair.unacked ++ [f] }
  (s.bumpWrap R.PAIR_CNT0_MIRROR_TX).emit (.hjFrame f.seq [r])

/-- Mirror records flow: the device claims, the link is up and compatible, and the peer is in sync, STANDBY, or SPARE with
its resync started (R533). -/
def mirrorOn (s : State) : Bool :=
  s.bit R.PAIR_STATUS_CLAIM_OUT && s.bit R.HJ_STATUS_UP && !s.pair.controlOnly &&
    (s.bit R.PAIR_STATUS_SYNC || decide (s.get R.HJ_STATUS_PEER_ROLE = 1) ||
      (decide (s.get R.HJ_STATUS_PEER_ROLE = 3) && [1, 3].contains (s.get R.SYNC_STAT_STATE)))

/-- Send a record where mirror records flow. -/
def mirror (s : State) (r : MirrorRecord) : State := if mirrorOn s then sendRecord s r else s

/-- A resync is sending lines. -/
def resyncing (s : State) : Bool := s.bit R.PAIR_STATUS_CLAIM_OUT && [1, 3].contains (s.get R.SYNC_STAT_STATE)

/-- Byte b of a line is mirrored (R533). -/
def mirroredByte (b : Nat) : Bool :=
  decide (b < 20) || (decide (24 ≤ b) && decide (b ≤ 26)) || (decide (29 ≤ b) && decide (b ≤ 37)) ||
    (decide (39 ≤ b) && decide (b ≤ 55)) || (decide (60 ≤ b) && decide (b ≤ 63))

/-- The mirrored bytes that differ between two lines. -/
def mirroredChanges (a b : Line) : List Nat :=
  (List.range 64).filter fun i => mirroredByte i && decide (natBits a.toNat (8 * i) 8 ≠ natBits b.toNat (8 * i) 8)

/-- The byte mask of a list of byte numbers. -/
def byteMask (l : List Nat) : Nat := l.foldl (fun a i => a ||| 2 ^ i) 0

/-- Mirror a line change (R533): while a resync runs, its lines are sent and not yet acknowledged, so a changed line becomes
dirty (R537). -/
def mirrorLine (s : State) (n : Nat) (old new : Line) : State :=
  let ch := mirroredChanges old new
  if ch.isEmpty || !mirrorOn s then s
  else
    let s := if resyncing s && !s.pair.dirty.contains n then
        s.putPair { s.pair with dirty := s.pair.dirty ++ [n] } else s
    sendRecord s (.ncs n (byteMask ch) (ch.map fun i => BitVec.ofNat 8 (natBits new.toNat (8 * i) 8)))

/-! ## The arbiter -/

/-- The first macro of a memory, and the memory's line count (Table 18-1). -/
def memFirstSram : LineMem → Nat
  | .ncs => 0
  | .frame => 84
  | .control => 100

/-- The macro, row and slot of a line (R497). -/
def lineSram (m : LineMem) (line : Nat) : Nat := memFirstSram m + line / 16384
def lineRow (line : Nat) : Nat := line / 4 % 4096

/-- The code of a memory in MI_LAST.MEM and the events. -/
def memCode : LineMem → Nat
  | .ncs => 0
  | .frame => 1
  | .control => 2

/-- A line of a memory is written: what was poisoned is replaced (R500), and with MI_FLIP armed for its macro its stored check is
flipped by the mask (R516; a mask of 0 leaves it right); otherwise the fresh check makes the line read clean. -/
def checkWritten (s : State) (m : LineMem) (line : Nat) : State :=
  let s := s.putMi { s.mi with bad := s.mi.bad.filter (fun x => x ≠ (m, line)),
                               flipped := s.mi.flipped.filter (fun x => x ≠ (m, line)) }
  if s.bit R.MI_FLIP_ARM && decide (s.get R.MI_FLIP_MACRO = lineSram m line) then
    let s := if s.get R.MI_FLIP_MASK_MASK = 0 then s else s.putMi { s.mi with flipped := (m, line) :: s.mi.flipped }
    ((s.set R.MI_FLIP_ARM 0).set R.MI_FLIP_ADDR_MEM (memCode m)).set R.MI_FLIP_ADDR_LINE line
  else s

/-- The copy-on-write of an export (R323): the first write to a pending tile takes it into the reserve, or, with
256 tiles there, makes the exporter send it at once. -/
def snapshotWrite (s : State) (n : Nat) : State :=
  if s.fwd.snap.job = .exporting && !s.fwd.snap.reserve.contains (n / 64) then
    if s.fwd.snap.reserve.length < 256 then
      let r := n / 64 :: s.fwd.snap.reserve
      let s := s.putFwd { s.fwd with snap := { s.fwd.snap with reserve := r } }
      s.set R.SNAP_STAT_COW_PEAK (max (s.get R.SNAP_STAT_COW_PEAK) r.length)
    else s
  else s

/-- Cache entries of a node leave the derived-key cache when a byte that selects its key changes (R472). -/
def cacheForget (s : State) (n : Nat) (old new : Line) : State :=
  if decide (natBits old.toNat 0 64 ≠ natBits new.toNat 0 64) || decide (natBits old.toNat 104 24 ≠ natBits new.toNat 104 24) then
    s.putSec { s.sec with cache := s.sec.cache.filter fun c => c.node ≠ n }
  else s

/-- The suspect count moves with a line's SUSPECT bit (PSM_STATUS.SUSPECT). -/
def suspectView (s : State) (old new : Line) : State :=
  let c := s.get R.PSM_STATUS_SUSPECT
  s.set R.PSM_STATUS_SUSPECT (c + lineGet new N.SUSPECT - lineGet old N.SUSPECT)

/-- A write reaches the tile that the scrubber verifies (R510). -/
def tileTouched (s : State) (n : Nat) : State :=
  match assocGet s.mi.scrubs 0 with
  | some p => if p.next = n / 64 then s.putMi { s.mi with tileDirty := true } else s
  | none => s

/-! ## Tile checksums (R501) -/

/-- What line n with this content adds to the checksum of its tile. -/
def tileTerm (l : Line) (n : Nat) : BitVec 32 := BitVec.ofNat 32 (crc32c (lineBytes l ++ toLE 4 n))

/-- The line numbers of a tile. -/
def tileLines (tile : Nat) : List Nat := (List.range 64).map fun k => 64 * tile + k

/-- The checksum of a tile whose lines have the contents that `content` gives. -/
def tileSumOf (content : Nat → Line) (tile : Nat) : BitVec 32 :=
  (tileLines tile).foldl (fun a n => a ^^^ tileTerm (content n) n) 0#32

/-- The checksum held for a tile. -/
def tileSum (s : State) (tile : Nat) : BitVec 32 := tileSumOf (fun _ => 0#512) tile ^^^ cellsRead zeroCell s.mi.tiles tile

/-- The arbiter's update with a line write: the old term goes out, the new one in. -/
def tileUpdate (s : State) (n : Nat) (old new : Line) : State :=
  let d := cellsRead zeroCell s.mi.tiles (n / 64) ^^^ tileTerm old n ^^^ tileTerm new n
  s.putMi { s.mi with tiles := cellsWrite zeroCell s.mi.tiles (n / 64) d }

/-- The checksum of a tile is recomputed from its lines as they stand (R502). -/
def tileReseal (s : State) (tile : Nat) : State :=
  let d := tileSumOf s.line tile ^^^ tileSumOf (fun _ => 0#512) tile
  s.putMi { s.mi with tiles := cellsWrite zeroCell s.mi.tiles tile d }

/-- A read of a tile agrees with its checksum: `misread` names lines that the array gives in the place of others, which pass the
line check (R501). -/
def tileReadOk (s : State) (tile : Nat) (misread : List (Nat × Nat)) : Bool :=
  if misread.all (fun p => decide (p.1 / 64 ≠ tile)) then
    decide (tileSumOf s.line tile = tileSum s tile)
  else decide (tileSumOf (fun n => s.line ((assocGet misread n).getD n)) tile = tileSum s tile)

/-- The tiles that a list of misread lines makes fail. -/
def tilesMisread (s : State) (misread : List (Nat × Nat)) : List Nat :=
  ((misread.map fun p => p.1 / 64).dedup.filter fun t => decide (t < lineCount s / 64)).filter fun t => !tileReadOk s t misread

/-- One write of a whole line's content through the arbiter (R303). -/
def writeLine (s : State) (n : Nat) (new : Line) : State :=
  if n < lineCount s then
    let old := s.line n
    let s := snapshotWrite s n
    let s := s.putFwd { s.fwd with ncs := cellsWrite zeroCell s.fwd.ncs n new }
    let s := checkWritten (tileUpdate s n old new) .ncs n
    let s := tileTouched s n
    let s := suspectView s old new
    let s := cacheForget s n old new
    mirrorLine s n old new
  else s

/-- Marking a line for rebuild (R508): every byte zero but REBUILD and the age stamp. -/
def rebuildLine (s : State) : Line := lineSet (lineSet 0#512 N.REBUILD 1) N.AGE (s.get R.FWD_STATUS_NODE_MIN)

/-- Mark line n for rebuild (R508). -/
def markRebuild (s : State) (n : Nat) : State := writeLine s n (rebuildLine s)

/-- Write one field of a line; on a poisoned line the write is discarded and the line marked for rebuild (R500). -/
def setLineField (s : State) (n : Nat) (f : LineFld) (v : Nat) : State :=
  writeLine s n (if linePoisoned s n then rebuildLine s else lineSet (s.line n) f v)

/-- Poison is consumed (R507): counted and posted with its consumer code and tag. -/
def consumePoison (s : State) (consumer tag : Nat) : State :=
  postEvent 0x1002 [(0, 1, consumer), (4, 4, tag)] (s.bump R.MI_CNT2_CONSUMED)

/-- A poisoned item reaches its consumer (R359, R507): with a node's tag the node is marked for rebuild; with any other
the item is dropped. -/
def consumeTag (s : State) (tag : Nat) : State :=
  if tag = 0xFFFFFFFF then consumePoison s 0 tag else markRebuild (consumePoison s 1 tag) tag

/-- A frame of a node meets its poisoned line (Table 18-2): the frame is dropped by the caller, the line marked. -/
def consumeLine (s : State) (n : Nat) : State := markRebuild (consumePoison s 1 n) n

/-- A peer source exists (R504). -/
def peerSource (s : State) : Bool :=
  s.bit R.HJ_STATUS_UP && [0, 1].contains (s.get R.HJ_STATUS_PEER_ROLE) && s.bit R.PAIR_STATUS_SYNC

/-- A tile whose checksum fails twice while used as a unit (R502): `use` 0 scrub, 1 snapshot, 2 resync. With a peer source
its 64 lines are fetched; without one the checksum is recomputed. -/
def tileFailed (s : State) (tile use : Nat) : State :=
  let s := s.bump R.MI_CNT3_TILE_FAIL
  let lines := tileLines tile
  let s := if peerSource s then
      foldState (fun (t : State) n => t.emit (.hjFetch n)) (s.putMi { s.mi with refill := s.mi.refill ++ lines }) lines
    else tileReseal (s.bump R.MI_CNT3_TILE_RESEAL) tile
  postEvent 0x1003 [(0, 1, 0), (1, 1, use), (4, 4, tile)] s

/-- Node frames are dropped as FILT_NODE: a restore or a bulk clear runs (R325, R327). -/
def nodesClosed (s : State) : Bool := !(s.fwd.snap.job = .idle || s.fwd.snap.job = .exporting)

end Sys2Proof.Machine
end

