-- ==== Sys2Proof/Machine/RepairOps.lean ====
section
/-!
DEFINITION. In-service repair (chapter 18): the soft repair map (R512 to R514), spares, the substitute store, and hard
parity-table locations (R498, R511).
-/

namespace Sys2Proof.Machine

/-- Entries of a soft repair map copy (Table 18-3): entry `i`, none where it reads erased. -/
def repairEntryAt (s : State) (copy i : Nat) : Option (List Byte) :=
  let b := flashAt s.flash (repairCopy s copy + 64 + 16 * i) 16
  if b.all fun x => decide (x = 0xFF#8) then none else some b

/-- A copy of the soft repair map has a valid header (R513). -/
def repairHeaderOk (s : State) (copy : Nat) : Bool :=
  let h := flashAt s.flash (repairCopy s copy) 12
  decide (leField h 0 4 = 0x4E5A5352) && decide (leField h 4 2 = 1) && decide (leField h 8 4 = crc32c (h.take 8))

/-- The entries of a copy from entry `i` on: valid ones, up to the first erased one (R513). -/
def repairList (s : State) (copy : Nat) : Nat → Nat → List RepairEntry
  | 0, _ => []
  | fuel + 1, i =>
    match repairEntryAt s copy i with
    | none => []
    | some b =>
      if leField b 12 4 = crc32c (b.take 12) then
        { sram := leField b 0 2, kind := leField b 2 1, spare := leField b 3 1, index := leField b 4 2 } ::
          repairList s copy fuel (i + 1)
      else repairList s copy fuel (i + 1)

/-- The valid entries of the soft repair map, of either copy (R513). -/
def softEntries (s : State) : List RepairEntry :=
  if s.boot.page.isNone then []
  else
    let of (c : Nat) : List RepairEntry := if repairHeaderOk s c then repairList s c 512 0 else []
    let a := of 0
    a ++ (of 1).filter fun e => !a.contains e

/-- Spares of a macro in use: 8 rows, 4 columns. -/
def sparesOf (l : List RepairEntry) (sram kind : Nat) : Nat :=
  (l.filter fun e => decide (e.sram = sram) && decide (e.kind = kind)).length

/-- A macro that the part has (R497): the NZ2560 parts lack macros 32 to 63, and the two heard-by macros of an absent cluster
are fused off with it (log entry 20). -/
def sramPresent (s : State) (m : Nat) : Bool :=
  decide (m < 108) && (decide (ncsLog2 s.part = 20) || !(decide (32 ≤ m) && decide (m < 64))) &&
    (!(decide (76 ≤ m) && decide (m < 84)) || clusterPresent s.part ((m - 76) / 2))

/-- MI_REPAIR and MI_MACRO in step with the maps (Table 18-6). -/
def viewRepairs (s : State) : State :=
  let s := (s.set R.MI_REPAIR_SOFT (s.mi.applied ++ s.mi.waiting).length).set R.MI_REPAIR_PENDING s.mi.waiting.length
  let s := s.setBit R.MI_STATUS_REPAIR_PENDING (!s.mi.waiting.isEmpty)
  foldState (fun (t : State) (m : Nat) =>
    let hard (k : Nat) : Nat := sparesOf t.mi.fuses m k
    let soft (k : Nat) : Nat := sparesOf t.mi.applied m k
    let t := (t.set (R.MI_MACRO_ROW_USED m) (hard 0 + soft 0)).set (R.MI_MACRO_COL_USED m) (hard 1 + soft 1)
    (t.set (R.MI_MACRO_ROW_SOFT m) (soft 0)).set (R.MI_MACRO_COL_SOFT m) (soft 1))
    s (((s.mi.fuses ++ s.mi.applied).map fun e => e.sram).filter (sramPresent s))

/-- The hard fuse map and every valid soft entry are applied (R514). -/
def applyRepairs (s : State) : State := viewRepairs (s.putMi { s.mi with applied := softEntries s, waiting := [] })

/-- MI_STATUS.REC_USED and SUBST_USED. -/
def viewMi (s : State) : State :=
  (s.set R.MI_STATUS_REC_USED s.mi.recoveries.length).set R.MI_STATUS_SUBST_USED s.mi.subst.length

/-- The first erased entry place of a soft repair map copy (R513). -/
def repairPlace (s : State) (copy : Nat) : Option Nat := (List.range 512).find? fun i => (repairEntryAt s copy i).isNone

/-- The bytes of an entry (Table 18-3). -/
def repairBytes (s : State) (e : RepairEntry) : List Byte :=
  let b := toLE 2 e.sram ++ toLE 1 e.kind ++ toLE 1 e.spare ++ toLE 2 e.index ++ toLE 2 0 ++ toLE 4 (writeStamp s)
  b ++ toLE 4 (crc32c b)

/-- The header of a soft repair map. -/
def repairHeader : List Byte :=
  let b := toLE 4 0x4E5A5352 ++ toLE 2 1 ++ toLE 2 0
  b ++ toLE 4 (crc32c b)

/-- The header bytes of a copy read erased. -/
def repairBlank (s : State) (copy : Nat) : Bool := (flashAt s.flash (repairCopy s copy) 12).all fun b => decide (b = 0xFF#8)

/-- Append an entry to one copy (R513): a copy whose header is neither valid nor erased stays unused. -/
def appendCopy (s : State) (copy : Nat) (e : RepairEntry) : State :=
  let base := repairCopy s copy
  match repairPlace s copy with
  | none => s
  | some i =>
    if repairHeaderOk s copy then s.putFlash (flashProgram s.flash (base + 64 + 16 * i) (repairBytes s e))
    else if repairBlank s copy then s.putFlash (flashProgram (flashProgram s.flash base repairHeader) (base + 64) (repairBytes s e))
    else s

/-- A copy takes an entry (R513): it has a place and a header, or room for one. -/
def takesEntry (s : State) (copy : Nat) : Bool := (repairPlace s copy).isSome && (repairHeaderOk s copy || repairBlank s copy)

/-- Append a repair entry to both copies within the flash budget (R110, R112, R512), and post SOFT_REPAIR_ADDED. Where
neither copy takes it, nothing is added (log entry 156). -/
def appendRepair (s : State) (e : RepairEntry) : State :=
  if s.boot.page.isNone || !(takesEntry s 0 || takesEntry s 1) then s
  else if !commitAllowed s then refuseFlash s 0 0xFE 0
  else
    let s := appendCopy (appendCopy s 0 e) 1 e
    let s := s.putBoot { s.boot with commitTimes := s.now :: recentDay s s.boot.commitTimes }
    let s := viewRepairs (s.putMi { s.mi with waiting := s.mi.waiting ++ [e] })
    postEvent 0x1005 [(0, 2, e.sram), (2, 1, e.kind), (4, 2, e.index), (6, 2, (s.mi.applied ++ s.mi.waiting).length)] s

/-- The lowest spare of a kind that neither map uses (R512): kind 0 rows, 1 columns. -/
def freeSpare (s : State) (sram kind : Nat) : Option Nat :=
  let used := (s.mi.fuses ++ s.mi.applied ++ s.mi.waiting).filter fun e => decide (e.sram = sram) && decide (e.kind = kind)
  (List.range (if kind = 0 then 8 else 4)).find? fun i => !(used.any fun e => decide (e.spare = i))

/-- The repair of a fault (R512): with a column when the same column held faults in two or more rows of the macro. None when
an entry for it is pending; otherwise the entry and whether a spare is free for it. -/
def repairSpare (s : State) (sram row column : Nat) : Option (RepairEntry × Bool) :=
  let rows := (s.mi.faults.filter fun f => decide (f.sram = sram) && decide (f.column = column) && decide (f.row ≠ row))
  let kind := if rows.isEmpty then 0 else 1
  let index := if kind = 0 then row else column
  if s.mi.waiting.any fun e => decide (e.sram = sram) && decide (e.kind = kind) && decide (e.index = index) then none
  else
    match freeSpare s sram kind with
    | none => some ({ sram := sram, kind := kind, spare := 0, index := index }, false)
    | some i => some ({ sram := sram, kind := kind, spare := i, index := index }, true)

/-- REPAIR_EXHAUSTED, once for a macro (R512). -/
def noteExhausted (s : State) (sram : Nat) : State :=
  if s.mi.exhausted.contains sram then s
  else postEvent 0x1006 [(0, 2, sram)] (s.putMi { s.mi with exhausted := sram :: s.mi.exhausted })

/-- A parity-table location: macro and row, on the linear layout that the table sizes fill (log entry 20): EHT entry k takes
bytes 12k, heard-by entries from 2^21 two bytes each. -/
def paritySram (key : Nat) : Nat := if key < 2 ^ 20 then 64 + 12 * key / 2 ^ 20 else 76 + 2 * (key - 2 ^ 21) / 2 ^ 20
def parityRow (key : Nat) : Nat := if key < 2 ^ 20 then 12 * key % 2 ^ 20 / 256 else 2 * (key - 2 ^ 21) % 2 ^ 20 / 256

/-- A parity-table location fails again after its rewrite (R498, R511): an overflow entry is retired; another location is
counted HARD and repaired. -/
def parityHard (s : State) (key : Nat) : State :=
  if 2 ^ 20 ≤ key ∧ key < 2 ^ 21 then s.putMi { s.mi with retired := key :: s.mi.retired }
  else
    let s := (s.bump R.MI_CNT2_HARD).bump (R.MI_MACRO_FAULTS (paritySram key))
    match repairSpare s (paritySram key) (parityRow key) 4096 with
    | none => s
    | some (e, true) => appendRepair s e
    | some (_, false) => noteExhausted s (paritySram key)

/-- A parity-table entry is met with bad parity: one that was rewritten before for bad parity is hard. -/
def parityMet (s : State) (key : Nat) : State :=
  if s.mi.parity.contains key && !s.mi.retired.contains key && !s.mi.hardParity.contains key then
    parityHard (s.putMi { s.mi with hardParity := key :: s.mi.hardParity }) key
  else s

/-- A parity-table entry with bad parity is rewritten. -/
def parityRewritten (s : State) (key : Nat) : State :=
  if s.mi.parity.contains key then s else s.putMi { s.mi with parity := key :: s.mi.parity }

end Sys2Proof.Machine
end

