-- ==== Sys2Proof/Machine/FwdOps.lean ====
section
/-!
DEFINITION. The forwarding tables: the EUI hash table (R305 to R309), the heard-by tables (R310 to R313), the
path choice (R314), the source route (R318), the infrastructure entries (R316, R317).
-/

namespace Sys2Proof.Machine

/-- The number of 1 bits among the low `n` bits of `v` is odd. -/
def oddParity (n v : Nat) : Bool := decide (((List.range n).filter (natBit v)).length % 2 = 1)

/-! ## EUI hash table -/

/-- The fields of an EHT entry (Table 10-4). -/
def ehtEui (e : BitVec 96) : Nat := natBits e.toNat 0 64
def ehtIndex (e : BitVec 96) : Nat := natBits e.toNat 64 20
def ehtState (e : BitVec 96) : Nat := natBits e.toNat 84 2
def ehtOvf (e : BitVec 96) : Nat := natBits e.toNat 86 8

/-- An entry with its parity bit (R306). -/
def ehtEntry (eui index state ovf : Nat) : BitVec 96 :=
  let v := eui % 2 ^ 64 + (index % 2 ^ 20) * 2 ^ 64 + (state % 4) * 2 ^ 84 + (ovf % 256) * 2 ^ 86
  BitVec.ofNat 96 (v + boolNat (oddParity 95 v) * 2 ^ 95)

/-- An entry has good parity (R306). -/
def ehtGood (e : BitVec 96) : Bool := !oddParity 96 e.toNat

/-- The entry is valid with good parity. -/
def ehtLive (e : BitVec 96) : Bool := ehtGood e && decide (ehtState e = 1)

/-- The first key of the overflow store. -/
def ehtOverflow : Nat := 2 ^ 20

/-- Read and write an entry by key: bucket × 4 + way, or `ehtOverflow` + overflow entry. -/
def State.ehtAt (s : State) (k : Nat) : BitVec 96 := cellsRead zeroCell s.fwd.eht k
def State.setEht (s : State) (k : Nat) (e : BitVec 96) : State :=
  s.putFwd { s.fwd with eht := cellsWrite zeroCell s.fwd.eht k e }

/-- The bucket of an EUI-64 (R305). -/
def ehtBucket (s : State) (eui : Nat) : Nat := crc32cFrom (s.get R.EHT_SEED_SEED) (toLE 8 eui) % 2 ^ 18

/-- The keys of a bucket's four entries. -/
def bucketKeys (b : Nat) : List Nat := [4 * b, 4 * b + 1, 4 * b + 2, 4 * b + 3]

/-- The listed overflow entries. -/
def overflowEntries (s : State) : Cells 96 := s.fwd.eht.filter fun c => decide (ehtOverflow ≤ c.1)

/-- Overflow entries in use (EHT_OVF.USED). -/
def overflowUsed (s : State) : Nat := ((overflowEntries s).filter fun c => decide (ehtState c.2 ≠ 0)).length

/-- EHT_OVF in step with the overflow store. -/
def viewOverflow (s : State) : State := s.set R.EHT_OVF_USED (overflowUsed s)

/-- The overflow store is scanned for this bucket: OVF of its entry 0 is non-zero (R307). -/
def ehtScans (s : State) (b : Nat) : Bool := decide (ehtOvf (s.ehtAt (4 * b)) ≠ 0)

/-- A lookup (R307): the key of the matching entry. -/
def ehtFind (s : State) (eui : Nat) : Option Nat :=
  let b := ehtBucket s eui
  let hit := fun (e : BitVec 96) => ehtLive e && decide (ehtEui e = eui)
  match (bucketKeys b).find? fun k => hit (s.ehtAt k) with
  | some k => some k
  | none => if ehtScans s b then ((overflowEntries s).find? fun c => hit c.2).map (fun c => c.1) else none

/-- The entries with bad parity that a lookup of the EUI-64 meets: of the overflow store only where it is scanned (R307). -/
def ehtMet (s : State) (eui : Nat) : List Nat :=
  let b := ehtBucket s eui
  let hit := (bucketKeys b).any fun k => ehtLive (s.ehtAt k) && decide (ehtEui (s.ehtAt k) = eui)
  ((bucketKeys b).filter fun k => !ehtGood (s.ehtAt k)) ++
    (if !hit && ehtScans s b then ((overflowEntries s).filter fun c => !ehtGood c.2).map (fun c => c.1) else [])

/-- A bucket is put down for a rebuild: by a pass that starts now, or by the next one (R309). -/
def startRebuild (s : State) (b : Nat) : State :=
  if s.fwd.pass.isEmpty then (s.putFwd { s.fwd with pass := [b] }).set R.FWD_STATUS_REBUILD 1
  else if s.fwd.rebuild.contains b then s
  else s.putFwd { s.fwd with rebuild := s.fwd.rebuild ++ [b] }

/-- What a lookup does about bad parity (R309). -/
def ehtParity (s : State) (eui : Nat) : State :=
  let l := ehtMet s eui
  let b := ehtBucket s eui
  if l.isEmpty then s
  else foldState parityMet (startRebuild (postEvent 0x0802 [(0, 1, 0), (4, 4, b)] (s.bumpBy R.FWD_CNT1_EHT_PAR l.length)) b) l

/-- The short address a lookup finds, with its effect on bad entries. -/
def ehtLookup (s : State) (eui : Nat) : State × Option Nat :=
  (ehtParity s eui, (ehtFind s eui).map fun k => ehtIndex (s.ehtAt k))

/-- The first free overflow entry: state 0 with good parity, not retired (R308, R309, R498). -/
def freeOverflow (s : State) : Option Nat :=
  ((List.range 8192).find? fun i => let e := s.ehtAt (ehtOverflow + i)
    ehtGood e && decide (ehtState e = 0) && !s.mi.retired.contains (ehtOverflow + i)).map
    fun i => ehtOverflow + i

/-- Set the OVF field of a bucket; an entry with bad parity is left to the rebuild (R309). -/
def setOvf (s : State) (b v : Nat) : State :=
  let e := s.ehtAt (4 * b)
  if !ehtGood e then s
  else s.setEht (4 * b) (ehtEntry (ehtEui e) (ehtIndex e) (ehtState e) v)

/-- Write an entry's EUI-64, index and state, keeping its OVF. -/
def setEntry (s : State) (k eui index state : Nat) : State := s.setEht k (ehtEntry eui index state (ehtOvf (s.ehtAt k)))

/-- The place an insert takes (R308): the first empty entry of the bucket, else the first free overflow entry. -/
def ehtPlace (s : State) (b : Nat) : Option Nat :=
  match (bucketKeys b).find? fun k => let e := s.ehtAt k; ehtGood e && decide (ehtState e = 0) with
  | some k => some k
  | none => freeOverflow s

/-- Put an entry at a place; an overflow entry raises the OVF of its bucket, saturating (R306, R308). -/
def ehtPut (s : State) (b k eui index : Nat) : State :=
  let s := setEntry s k eui index 1
  if ehtOverflow ≤ k then viewOverflow (setOvf s b (min 255 (ehtOvf (s.ehtAt (4 * b)) + 1))) else s

/-- An insert is refused for want of room (R308). -/
def ehtFull (s : State) (eui : Nat) : State :=
  postEvent 0x0801 [(0, 8, euiField eui), (8, 4, ehtBucket s eui)] (s.bump R.FWD_CNT1_EHT_FULL)

/-- Insert (R308): the state, the result code of EHT_STAT and the index it states. -/
def ehtInsert (s : State) (eui index : Nat) : State × Nat × Nat :=
  let t := ehtParity s eui
  match ehtFind s eui with
  | some k => (t, 2, ehtIndex (s.ehtAt k))
  | none =>
    match ehtPlace t (ehtBucket s eui) with
    | none => (ehtFull t eui, 3, index)
    | some k => (ehtPut t (ehtBucket s eui) k eui index, 0, index)

/-- Empty an entry; one of the overflow store lowers the OVF of its bucket unless that is 255 (R308). -/
def ehtDrop (s : State) (b k : Nat) : State :=
  if ehtOverflow ≤ k then
    let s := s.setEht k 0#96
    let n := ehtOvf (s.ehtAt (4 * b))
    viewOverflow (if n = 255 ∨ n = 0 then s else setOvf s b (n - 1))
  else setEntry s k 0 0 0

/-- Delete by EUI-64 (R308): the state, and whether an entry was found. -/
def ehtDelete (s : State) (eui : Nat) : State × Bool :=
  let t := ehtParity s eui
  match ehtFind s eui with
  | none => (t, false)
  | some k => (ehtDrop t (ehtBucket s eui) k, true)

/-- Rewrite one bucket and its overflow entries from the lines (R309). -/
def rebuildBucket (s : State) (b : Nat) : State :=
  let s := foldState (fun t (c : Nat × BitVec 96) => if ehtGood c.2 then t else parityRewritten t c.1) s
    ((bucketKeys b).map (fun k => (k, s.ehtAt k)) ++ overflowEntries s)
  let s := foldState (fun t k => t.setEht k 0#96) s (bucketKeys b)
  let stale := (overflowEntries s).filter fun c => !ehtGood c.2 || decide (ehtBucket s (ehtEui c.2) = b)
  let s := foldState (fun t (c : Nat × BitVec 96) => t.setEht c.1 0#96) s stale
  let mine := s.fwd.ncs.filter fun c => decide (lineGet c.2 N.EUI ≠ 0) && decide (ehtBucket s (lineGet c.2 N.EUI) = b)
  viewOverflow (foldState (fun t (c : Nat × Line) =>
    match ehtPlace t b with
    | none => ehtFull t (lineGet c.2 N.EUI)
    | some k => ehtPut t b k (lineGet c.2 N.EUI) c.1) s mine)

/-- Empty the table and build it anew from every line (R325 step 4). -/
def rebuildAll (s : State) : State :=
  let s := s.putFwd { s.fwd with eht := [], pass := [], rebuild := [] }
  let s := s.set R.FWD_STATUS_REBUILD 0
  let mine := s.fwd.ncs.filter fun c => decide (lineGet c.2 N.EUI ≠ 0)
  viewOverflow (foldState (fun t (c : Nat × Line) =>
    let b := ehtBucket t (lineGet c.2 N.EUI)
    match ehtPlace t b with
    | none => ehtFull t (lineGet c.2 N.EUI)
    | some k => ehtPut t b k (lineGet c.2 N.EUI) c.1) s mine)

/-! ## Heard-by tables -/

/-- An entry as its fields (Table 10-5). -/
structure HbEntry where
  path : Nat
  ant : Nat
  bkt : Nat
  static_ : Bool
  valid : Bool
  tb : Nat
  deriving DecidableEq, Repr

/-- The fields of an entry's word. -/
def hbFields (w : BitVec 16) : HbEntry :=
  { path := natBits w.toNat 11 5, ant := natBits w.toNat 10 1, bkt := natBits w.toNat 6 4,
    static_ := natBit w.toNat 5, valid := natBit w.toNat 4, tb := natBits w.toNat 1 3 }

/-- The word of an entry, with its parity (R310). -/
def hbWord (e : HbEntry) : BitVec 16 :=
  let v := (e.path % 32) * 2 ^ 11 + (e.ant % 2) * 2 ^ 10 + (e.bkt % 16) * 2 ^ 6 + boolNat e.static_ * 32 +
    boolNat e.valid * 16 + (e.tb % 8) * 2
  BitVec.ofNat 16 (v + boolNat (oddParity 16 v))

/-- The key of HBc[n]. -/
def hbKey (c n : Nat) : Nat := c * 2 ^ 20 + n

/-- Read and write the word of HBc[n]. -/
def State.hbAt (s : State) (c n : Nat) : BitVec 16 := cellsRead zeroCell s.fwd.hb (hbKey c n)
def State.setHbWord (s : State) (c n : Nat) (w : BitVec 16) : State :=
  s.putFwd { s.fwd with hb := cellsWrite zeroCell s.fwd.hb (hbKey c n) w }
def State.setHb (s : State) (c n : Nat) (e : HbEntry) : State := s.setHbWord c n (hbWord e)

/-- The entry has bad parity (R313). -/
def hbBad (s : State) (c n : Nat) : Bool := oddParity 16 (s.hbAt c n).toNat

/-- The age of an entry, ticks (R313). -/
def hbAge (s : State) (e : HbEntry) : Nat := (s.get R.FWD_STATUS_HB_NOW + 8 - e.tb) % 8

/-- A read for learning or path choice meets bad parity: counted and posted (R313). -/
def hbParity (s : State) (c n : Nat) : State :=
  if hbBad s c n then parityMet (postEvent 0x0802 [(0, 1, c + 1), (4, 4, n)] (s.bump R.FWD_CNT1_HB_PAR)) (2 ^ 21 + hbKey c n)
  else s

/-- The RSSI bucket of a frame (R311). -/
def rssiBucket (rssi : Int) : Nat := (clampInt 0 15 ((rssi + 130) / 5)).toNat

/-- One learning write (R312): the first rule that fits. -/
def hbLearn (s : State) (c n path ant bkt : Nat) : State :=
  let bad := hbBad s c n
  let t := hbParity s c n
  let e := hbFields (s.hbAt c n)
  let t := if bad && !e.static_ then parityRewritten t (2 ^ 21 + hbKey c n) else t
  let fresh : HbEntry := { path := path, ant := ant, bkt := bkt, static_ := false, valid := true,
                           tb := s.get R.FWD_STATUS_HB_NOW }
  if e.static_ then t
  else if !e.valid || bad || decide (s.get R.FWD_CFG_HB_AGE < hbAge s e) then t.setHb c n fresh
  else if e.path = path ∧ e.ant = ant then t.setHb c n fresh
  else if e.bkt + s.get R.FWD_CFG_HB_HYST ≤ bkt ∨ 2 ≤ hbAge s e then (t.setHb c n fresh).bump R.FWD_CNT2_HB_MOVE
  else t

/-- The sweep of one entry as HB_NOW advances by n (R313). -/
def hbSweep (s : State) (n : Nat) (w : BitVec 16) : BitVec 16 :=
  let e := hbFields w
  if e.valid && !e.static_ && decide (s.get R.FWD_CFG_HB_AGE < hbAge s e + n) then hbWord { e with valid := false } else w

/-- Advance HB_NOW by n ticks and sweep (R313, R582). -/
def hbAdvance (s : State) (n : Nat) : State :=
  let hb := (s.fwd.hb.map fun c => (c.1, hbSweep s n c.2)).filter fun c => c.2 ≠ 0#16
  (s.set R.FWD_STATUS_HB_NOW ((s.get R.FWD_STATUS_HB_NOW + n) % 8)).putFwd { s.fwd with hb := hb }

/-! ## Updates through a report queue (R19) -/

/-- A heard-by update as an item of lane 1 of the cluster's report queue (Table 12-1): node, path, antenna, bucket. -/
def hbItem (n path ant bkt : Nat) : QueueItem :=
  { words := 1, poison := [], tag := 0, data := toLE 4 n ++ toLE 1 path ++ toLE 1 ant ++ toLE 1 bkt }

/-- Cluster c's learning unit updates its own table through its report queue (R19): an update of another cluster's path is none of
its updates; a queue at rest is crossed at once (log entry 11), and behind other items or in a forced reset the update waits. -/
def hbUpdate (s : State) (c n path ant bkt : Nat) : State :=
  if pathCluster path ≠ c then s
  else
    let x := s.queue (4 + c)
    if s.bit (R.Q_STAT_RESETTING (4 + c)) || !(x.lane 1).isEmpty || x.waiting.any (fun p => decide (p.1 = 1)) then
      pushItem s (4 + c) 1 (hbItem n path ant bkt)
    else hbLearn s c n path ant bkt

/-- The packet core has taken an item of queue q: a heard-by update is learned. -/
def hbItemTaken (s : State) (q lane : Nat) (i : QueueItem) : State :=
  if 4 ≤ q ∧ q < 8 ∧ lane = 1 ∧ i.data.length = 7 then
    hbLearn s (q - 4) (leField i.data 0 4) (leField i.data 4 1) (leField i.data 5 1) (leField i.data 6 1)
  else s

/-! ## Path choice -/

/-- The band of a path, kHz: the outermost window edges of Table 4-1 for its kind, or those of its cluster's
transceivers for a stream. -/
def pathBand (n : Nat) : Nat × Nat := if pathCluster n < 2 then (150000, 960000) else (2400000, 2483500)

/-- LEN of a channel map, and one of its frequencies. -/
def mapLen (s : State) (m : Nat) : Nat := s.get (R.CHMAP_HDR_LEN m)
def mapFreq (s : State) (m i : Nat) : Nat := s.get (R.CHMAP_ENT_FREQ m i)

/-- The path lies in the band of a channel map: every channel of the map lies in the path's band. -/
def pathInBand (s : State) (n m : Nat) : Bool :=
  decide (mapLen s m ≠ 0) && (List.range (mapLen s m)).all fun i =>
    decide ((pathBand n).1 ≤ mapFreq s m i) && decide (mapFreq s m i ≤ (pathBand n).2)

/-- The wake word's fields of a line (R279). -/
abbrev N.K : LineFld := ⟨256, 4⟩
abbrev N.OFFSET : LineFld := ⟨260, 12⟩
abbrev N.CHMAP : LineFld := ⟨272, 8⟩
abbrev N.SUP : LineFld := ⟨280, 8⟩

/-- A candidate of R314 is better than the best so far; candidates come in cluster order. -/
def hbBetter (s : State) (x : Nat) (best : Option HbEntry) (e : HbEntry) : Option HbEntry :=
  match best with
  | none => some e
  | some b =>
    let l := s.line x
    let hinted := fun (h : HbEntry) => lineBit l N.HV && decide (lineGet l N.HPATH = h.path)
    if b.static_ then some b
    else if e.static_ then some e
    else if b.bkt ≠ e.bkt then (if b.bkt < e.bkt then some e else some b)
    else if hbAge s b ≠ hbAge s e then (if hbAge s e < hbAge s b then some e else some b)
    else if hinted e && !hinted b then some e
    else some b

/-- The clusters present on the part. -/
def clusters (s : State) : List Nat := (List.range 4).filter (clusterPresent s.part)

/-- The candidates of R314 for node x. -/
def hbCandidates (s : State) (x : Nat) : List HbEntry :=
  ((clusters s).filter fun c => !hbBad s c x).map (fun c => hbFields (s.hbAt c x)) |>.filter fun e =>
    e.valid && (e.static_ || decide (hbAge s e ≤ s.get R.FWD_CFG_HB_AGE)) && pathInService s e.path &&
      pathInBand s e.path (lineGet (s.line x) N.CHMAP)

/-- The path and antenna of an exchange with node x (R314), or none. -/
def choosePath (s : State) (x : Nat) : Option (Nat × Nat) :=
  match (hbCandidates s x).foldl (hbBetter s x) none with
  | some e => some (e.path, e.ant)
  | none =>
    let l := s.line x
    if lineBit l N.HV && pathInService s (lineGet l N.HPATH) then some (lineGet l N.HPATH, lineGet l N.HANT) else none

/-- The parity reads of a path choice (R313). -/
def choiceParity (s : State) (x : Nat) : State := foldState (fun t c => hbParity t c x) s (clusters s)

/-! ## Source routes -/

/-- The result of a walk (R318): the hops, air destination first; a failure with its reason and line; or a line
whose read ended poisoned. -/
inductive Route where
  | ok (hops : List Nat)
  | fail (reason line : Nat)
  | poison (line : Nat)
  deriving DecidableEq, Repr

/-- The loop of R318, at node `n` with the hops so far. -/
def routeLoop (s : State) : Nat → Nat → List Nat → Route
  | 0, n, _ => .fail 4 n
  | fuel + 1, n, hops =>
    let l := s.line n
    if lineBit l N.ROOT then .ok hops
    else
      let p := lineGet l N.PARENT
      let q := s.line p
      if linePoisoned s p then .poison p
      else if !nodeValid s p || !lineBit q N.ROUTER || lineBit q N.REBUILD then .fail 2 p
      else if lineGet l N.HOP ≤ lineGet q N.HOP then .fail 3 p
      else if hops.length = 24 then .fail 4 p
      else routeLoop s fuel p (p :: hops)

/-- The walk of R318 for destination d. -/
def routeWalk (s : State) (d : Nat) : Route :=
  let l := s.line d
  if linePoisoned s d then .poison d
  else if !nodeValid s d || decide (lineGet l N.HOP = 0) || lineBit l N.REBUILD then .fail 1 d
  else routeLoop s 25 d [d]

/-- A walk failed: ROUTE_FAIL counted and posted (R318). -/
def routeFailed (s : State) (d reason line : Nat) : State :=
  postEvent 0x0804 [(0, 4, d), (4, 1, reason), (8, 4, line)] (s.bump R.FWD_CNT0_ROUTE_FAIL)

/-! ## Infrastructure table -/

/-- The fields of an entry (Table 10-6). -/
def entValid (w : Nat) : Bool := natBit w 21
def entIndex (w : Nat) : Nat := natBits w 0 20
def entPin (w : Nat) : Bool := natBit w 23
def entPath (w : Nat) : Nat := natBits w 24 5
def entAnt (w : Nat) : Nat := natBits w 29 1
def entRouter (w : Nat) : Bool := natBit w 22

/-- The word of entry i, and of its shadow. -/
def infraEnt (s : State) (i : Nat) : Nat := (s.word (R.INFRA_ENT i)).toNat
def infraShadow (s : State) (i : Nat) : Nat := (cellsRead zeroCell s.fwd.shadow i).toNat

/-- The listed entries of the table: their numbers. -/
def infraListed (s : State) : List Nat :=
  (s.regs.filter fun c => decide (R.INFRA_ENT 0 ≤ c.1) && decide (c.1 < R.INFRA_ENT 16384)).map
    fun c => (c.1 - R.INFRA_ENT 0) / 4

/-- A write of entry i is refused (R317): its INDEX is held by another valid entry, or its pin names an absent
cluster or path. -/
def infraRefused (s : State) (i w : Nat) : Bool :=
  entValid w &&
    ((entPin w && !(pathPresent s.part (entPath w) && clusterPresent s.part (pathCluster (entPath w)))) ||
      (infraListed s).any fun j => decide (j ≠ i) && entValid (infraEnt s j) && decide (entIndex (infraEnt s j) = entIndex w))

/-- Undo what an entry's content set (R317). -/
def infraUndo (s : State) (w : Nat) : State :=
  if entValid w then
    let n := entIndex w
    let c := pathCluster (entPath w)
    let s := if entPin w then
        s.setHb c n { hbFields (s.hbAt c n) with static_ := false, tb := s.get R.FWD_STATUS_HB_NOW }
      else s
    if entRouter w then setLineField s n N.ROUTER 0 else s
  else s

/-- The static heard-by entry of a pin: STATIC, VALID, path and antenna (R317); BKT and TB keep what they were. -/
def pinEntry (s : State) (w : Nat) : HbEntry :=
  let c := pathCluster (entPath w)
  { hbFields (s.hbAt c (entIndex w)) with path := entPath w, ant := entAnt w, static_ := true, valid := true }

/-- Apply an entry's content (R317). -/
def infraApply (s : State) (w : Nat) : State :=
  if entValid w then
    let n := entIndex w
    let s := if entPin w then s.setHb (pathCluster (entPath w)) n (pinEntry s w) else s
    if entRouter w then setLineField s n N.ROUTER 1 else s
  else s

/-- The derived state of an entry agrees with it (R317). -/
def infraAgrees (s : State) (w : Nat) : Bool :=
  let n := entIndex w
  let c := pathCluster (entPath w)
  !entValid w ||
    ((!entPin w || (decide (s.hbAt c n = hbWord (pinEntry s w)))) &&
      (!entRouter w || lineBit (s.line n) N.ROUTER))

/-- Re-apply every valid entry (R325, R327). -/
def reapplyPins (s : State) : State := foldState (fun t i => infraApply t (infraEnt t i)) s (infraListed s)

/-- Write entry i and its shadow (R317). -/
def infraWrite (s : State) (i w : Nat) : State :=
  if infraRefused s i w then s.bump R.FWD_CNT3_INFRA_REJ
  else
    let s := infraUndo s (infraEnt s i)
    let s := s.setWord (R.INFRA_ENT i) (BitVec.ofNat 32 w)
    let s := s.putFwd { s.fwd with shadow := cellsWrite zeroCell s.fwd.shadow i (BitVec.ofNat 32 w) }
    infraApply s w

end Sys2Proof.Machine
end

