-- ==== Sys2Proof/Machine/KeyOps.lean ====
section
/-!
DEFINITION. The key tree: derivations (R461, R462), the tree state (R464 to R470), the derived-key cache
(R471 to R473), broadcast counters (R475, R476).
-/

namespace Sys2Proof.Machine

/-! ## Derivations -/

/-- The KDF of R461. -/
def kdf (key : BitVec 128) (label context : List Byte) : BitVec 128 :=
  Config.aesCmac key ([0#8, 0#8, 0#8, 1#8] ++ label ++ [0#8] ++ context ++ [0#8, 0#8, 0#8, 0x80#8])

/-- A key as 16 bytes, first byte of the CMAC output first. -/
def keyBytes (k : BitVec 128) : List Byte := toBE 16 k.toNat

/-- The labels of Table 17-2 and of R463, R479, R482, R483, in ASCII. -/
def labelE1 : List Byte := [0x4E#8, 0x5A#8, 0x45#8, 0x31#8]
def labelD2 : List Byte := [0x4E#8, 0x5A#8, 0x44#8, 0x32#8]
def labelN3 : List Byte := [0x4E#8, 0x5A#8, 0x4E#8, 0x33#8]
def labelF4 : List Byte := [0x4E#8, 0x5A#8, 0x46#8, 0x34#8]
def labelJ0 : List Byte := [0x4E#8, 0x5A#8, 0x4A#8, 0x30#8]
def labelHL : List Byte := [0x4E#8, 0x5A#8, 0x48#8, 0x4C#8]
def labelJK : List Byte := [0x4E#8, 0x5A#8, 0x4A#8, 0x4B#8]
def labelJW : List Byte := [0x4E#8, 0x5A#8, 0x4A#8, 0x57#8]
def labelID : List Byte := [0x4E#8, 0x5A#8, 0x49#8, 0x44#8]
def labelKA : List Byte := [0x4E#8, 0x5A#8, 0x4B#8, 0x41#8]
def labelKT : List Byte := [0x4E#8, 0x5A#8, 0x4B#8, 0x54#8]

/-- The order of the P-256 group (FIPS 186-5). -/
def p256Order : Nat := 0xFFFFFFFF00000000FFFFFFFFFFFFFFFFBCE6FAADA7179E84F3B9CAC2FC632551

/-- A private key derived from a key with a label (R463). -/
def privateKey (key : BitVec 128) (label : List Byte) : Nat :=
  ((kdf key label [1#8]).toNat * 2 ^ 128 + (kdf key label [2#8]).toNat) % (p256Order - 1) + 1

/-- Purpose codes of Table 17-2. -/
def purposeUp : Nat := 1
def purposeDown : Nat := 2
def purposeBcast : Nat := 3
def purposeJoin : Nat := 4
def purposeMap : Nat := 5

/-- K_E, K_D, K_N and the frame keys (Table 17-2). `dist` is NCS bytes 14–15 as a number. -/
def epochKey (kM : BitVec 128) (epoch : Nat) : BitVec 128 := kdf kM labelE1 (toBE 2 epoch)
def districtKey (kM : BitVec 128) (epoch dist : Nat) : BitVec 128 := kdf (epochKey kM epoch) labelD2 (toLE 2 dist)
def nodeKey (kM : BitVec 128) (epoch dist eui join : Nat) : BitVec 128 :=
  kdf (districtKey kM epoch dist) labelN3 (toLE 8 eui ++ toLE 1 join)
def frameKey (k : BitVec 128) (purpose : Nat) : BitVec 128 := kdf k labelF4 (toLE 1 purpose)

/-- K_F of a node (Table 17-2). -/
def factoryKey (kJR : BitVec 128) (eui : Nat) : BitVec 128 := kdf kJR labelJ0 (toLE 8 eui)

/-! ## Tree state -/

/-- An empty epoch slot. -/
def EpochSlot.empty : EpochSlot := { epoch := 0, status := .empty, actAsn := 0, districts := [], order := 0 }

/-- Epoch slot i of the tree state. -/
def TreeState.slot (t : TreeState) (i : Nat) : EpochSlot := (assocGet t.slots i).getD EpochSlot.empty

/-- The first slot in a state. -/
def slotWith (s : State) (st : EpochStatus) : Option Nat := (s.tree.slots.find? fun p => p.2.status = st).map (fun p => p.1)

/-- The slots of the active and of the pending epoch. -/
def activeSlot (s : State) : Option Nat := slotWith s .active
def pendingSlot (s : State) : Option Nat := slotWith s .pending

/-- A district's byte in an epoch slot: its generation and its revoked bit. -/
def districtByte (e : EpochSlot) (d : Nat) : Nat := (cellsRead zeroCell e.districts d).toNat
def districtGen (e : EpochSlot) (d : Nat) : Nat := natBits (districtByte e d) 0 4
def districtRevoked (e : EpochSlot) (d : Nat) : Bool := natBit (districtByte e d) 4

/-- Set a district's byte in a slot. -/
def setDistrict (e : EpochSlot) (d gen : Nat) (revoked : Bool) : EpochSlot :=
  { e with districts := cellsWrite zeroCell e.districts d (BitVec.ofNat 8 (gen % 16 + boolNat revoked * 16)) }

/-- Replace an epoch slot. -/
def putSlot (s : State) (i : Nat) (e : EpochSlot) : State :=
  s.putTree { s.tree with slots := assocSet s.tree.slots i e }

/-- The register views of the tree state: SEC_STATUS.PENDING, SEC_EPOCH, SEC_ACT, SEC_CMD_SEQ. -/
def viewTree (s : State) : State :=
  let a := match activeSlot s with | none => 0 | some i => (s.tree.slot i).epoch
  let s := (s.set R.SEC_EPOCH_ACTIVE a).set R.SEC_CMD_SEQ_SEQ s.tree.cmdSeq
  match pendingSlot s with
  | none => ((s.set R.SEC_STATUS_PENDING 0).set R.SEC_EPOCH_PENDING 0)
  | some i =>
    let e := s.tree.slot i
    let s := (s.set R.SEC_STATUS_PENDING 1).set R.SEC_EPOCH_PENDING e.epoch
    (s.set R.SEC_ACT_LO_ASN e.actAsn).set R.SEC_ACT_HI_ASN (e.actAsn / 2 ^ 32)

/-- The mirror record of a tree-state change (R533). -/
def treeRecord (op : Nat) (args : List Nat) : MirrorRecord := .tree op args

/-- A change of the tree state: its views and its mirror record. -/
def treeChanged (s : State) (op : Nat) (args : List Nat) : State := mirror (viewTree s) (treeRecord op args)

/-- The epoch slot that governs a frame of slot `asn` (R466, R468): the retired one while its keys are kept and the
slot lies before the activation; else the active one. -/
def slotFor (s : State) (asn : Nat) : Option Nat :=
  match activeSlot s, s.sec.retiredKeep with
  | some a, some r => if seqGe 40 asn (s.tree.slot a).actAsn then some a else some r
  | a, _ => a

/-- Node n is orphaned in epoch slot `e` (R470); so is one that did not acknowledge its rekey frame by activation (R467). -/
def orphanedIn (s : State) (n : Nat) (e : Option Nat) : Bool :=
  match e with
  | none => true
  | some i =>
    let l := s.line n
    let d := lineGet l N.DISTRICT
    (decide (e = activeSlot s) && s.sec.unrekeyed.contains n) || districtRevoked (s.tree.slot i) d || decide (lineGet l N.GEN ≠ districtGen (s.tree.slot i) d)

/-- Node n is orphaned now (R470). -/
def orphaned (s : State) (n : Nat) : Bool := orphanedIn s n (activeSlot s)

/-- Bytes 14–15 of a line. -/
def lineDistrict (l : Line) : Nat := natBits l.toNat 112 16

/-- The L3 and L4 keys of a node's line in an epoch slot; none without K_M or an epoch. -/
def keyOfNode (s : State) (n : Nat) (e : Option Nat) : Option (BitVec 128) :=
  match s.sec.kM, e with
  | some kM, some i =>
    let l := s.line n
    some (nodeKey kM (s.tree.slot i).epoch (lineDistrict l) (lineGet l N.EUI) (lineGet l N.JOIN))
  | _, _ => none

/-! ## The derived-key cache -/

/-- The tag of a node's key at a level (R472): level 3 has purpose 0. -/
def keyTag (s : State) (level n purpose slot : Nat) : CacheTag :=
  let l := s.line n
  { level := level, node := n, purpose := purpose, slot := slot,
    gen := districtGen (s.tree.slot slot) (lineGet l N.DISTRICT), join := lineGet l N.JOIN }

/-- A tag is in the cache. -/
def cacheHit (s : State) (t : CacheTag) : Bool := s.sec.cache.contains t

/-- Put a tag in front; the set of a short address (bits 13:0) keeps its 4 most recent entries (R472). -/
def cacheTouch (s : State) (t : CacheTag) : State :=
  let l := t :: s.sec.cache.filter fun x => decide (x ≠ t)
  let mine := l.filter fun x => decide (x.node % 16384 = t.node % 16384)
  let keep := l.filter fun x => decide (x.node % 16384 ≠ t.node % 16384) || decide (x ∈ mine.take 4)
  s.putSec { s.sec with cache := keep }

/-- A derivation completes: its keys fill the cache, and the request counts MISS (R471, SEC_CNT0). -/
def cacheFill (s : State) (t : CacheTag) : State :=
  let up : CacheTag := { t with level := 3, purpose := 0 }
  cacheTouch (cacheTouch (s.bump R.SEC_CNT0_MISS) up) t

/-- The key request of a frame that is sealed in this step: a hit, or a derivation that completes inside the step
(log entry 16). -/
def keyRequest (s : State) (n purpose : Nat) : State :=
  match activeSlot s with
  | none => s
  | some i =>
    let t := keyTag s 4 n purpose i
    if cacheHit s t then cacheTouch s t else cacheFill s t

/-! ## Broadcast counters -/

/-- The first counter of the last block (R265, R476). -/
def lastBlock : Nat := 0xFFFFFC00

/-- The next broadcast counter of a district. -/
def bcastCounter (s : State) (d : Nat) : Nat := (cellsRead zeroCell s.tree.bcast d).toNat

/-- A district's broadcast counter is exhausted (R476). -/
def bcastSpent (s : State) (d : Nat) : Bool := decide (lastBlock ≤ bcastCounter s d)

/-- The reserved block a counter needs (R534): ⌊c ÷ 1,024⌋ + 1; a record goes out when it has not been reserved. -/
def reserve (s : State) (key : Nat) (district : Bool) (c : Nat) : State :=
  let b := c / 1024 + 1
  let have_ := (assocGet s.pair.reserved key).getD 0
  if b ≤ have_ then s
  else mirror (s.putPair { s.pair with reserved := assocSet s.pair.reserved key b }) (.reservation (key % 2 ^ 20) district b)

/-- Restart a district's broadcast counter at 0 (R476). -/
def restartBcast (s : State) (d : Nat) : State :=
  let s := s.putTree { s.tree with bcast := cellsWrite zeroCell s.tree.bcast d 0#32,
                                   bcastSpent := s.tree.bcastSpent.filter fun x => x ≠ d }
  s.putPair { s.pair with reserved := assocDel s.pair.reserved (2 ^ 20 + d) }

end Sys2Proof.Machine
end

