-- ==== Sys2Proof/Machine/SchedOps.lean ====
section
/-!
DEFINITION. The frame buffer and the downlink queues: room (R339), virtual finish times (R333), the order of
service (R331, R332), sealing at enqueue and at issue (R334, R468, R470), drops, delay measurement (R347, R349),
Crimson policing (R337), the end of an association (R265, R270).
-/

namespace Sys2Proof.Machine

/-! ## Frame buffer -/

/-- Cells of 256 bytes that a frame takes, of 65,536. -/
def frameCells (len : Nat) : Nat := max 1 ((len + 255) / 256)

/-- Free cells. -/
def freeCells (s : State) : Nat := 65536 - s.sched.frames.foldl (fun a f => a + f.2.cells) 0

/-- The frame of a handle. -/
def State.frame (s : State) (h : Nat) : Option TxFrame := assocGet s.sched.frames h

/-- Replace a frame. -/
def State.setFrame (s : State) (h : Nat) (f : TxFrame) : State :=
  s.putSched { s.sched with frames := assocSet s.sched.frames h f }

/-- The handles queued for an air destination, in arrival order. -/
def downlinkOf (s : State) (a : Nat) : List Nat := (assocGet s.sched.downlink a).getD []

/-- A frame in the buffer that nothing has sent yet. -/
def newFrame (kind : FrameKind) (dest : Option Nat) (final cls len : Nat) (counter : Option Nat) : TxFrame :=
  { kind := kind, dest := dest, final := final, cls := cls, len := len, counter := counter, epochSlot := 0, gen := 0,
    finish := 0, issued := false, sends := 0, lastSlot := none, cells := frameCells len, stampIn := none, stampReady := none,
    poisoned := false, ident := 0, seq := 0, more := false }

/-- Put a frame into the buffer under the next handle, as it is. -/
def keepFrame (s : State) (f : TxFrame) : State × Nat :=
  let h := s.sched.nextHandle
  (s.putSched { s.sched with frames := assocSet s.sched.frames h f, nextHandle := h + 1 }, h)

/-- The sequence number that an Enh-Ack echoes (R247). -/
def FrameKind.echoes : FrameKind → Option Nat
  | .ack dsn .. => some dsn
  | .joinAck dsn _ => some dsn
  | _ => none

/-- Put a new frame into the buffer under the next handle: an Enh-Ack echoes its sequence number, any other frame takes the next one
(R245, R247, log entry 150). -/
def storeFrame (s : State) (f : TxFrame) : State × Nat :=
  match f.kind.echoes with
  | some d => keepFrame s { f with seq := d % 256 }
  | none => keepFrame (s.putPsm { s.psm with dsn := (s.psm.dsn + 1) % 256 }) { f with seq := s.psm.dsn % 256 }

/-- The downlink count and head of a line follow its queue (NCS bytes 56–59; the head is the handle of the oldest
frame, log entry 15). -/
def viewDownlink (s : State) (a : Nat) : State :=
  let q := downlinkOf s a
  let s := setLineField s a N.QCOUNT q.length
  setLineField s a N.QHEAD (q.headD 0)

/-- Remove a frame from the buffer and from every queue that holds it; a Crimson frame's copy goes with it (R535). -/
def removeFrame (s : State) (h : Nat) : State :=
  match s.frame h with
  | none => s
  | some f =>
    let s := if f.cls = 0 ∧ f.dest.isSome = true then mirror s (.crimsonOut f.ident) else s
    let resend := s.sched.resend.filter fun p => p.2 ≠ h
    let copies := s.sched.copies.filter fun x => x ≠ h
    let s := s.putSched { s.sched with frames := assocDel s.sched.frames h, resend := resend, copies := copies }
    match f.dest with
    | none => s
    | some a =>
      if (downlinkOf s a).contains h then
        viewDownlink (s.putSched { s.sched with downlink := assocSet s.sched.downlink a ((downlinkOf s a).filter fun x => x ≠ h) }) a
      else s

/-- A node's agreement frame is gone without an acknowledgement: its agreement stays in doubt (R282). -/
def dropAgreement (s : State) (n : Nat) : State :=
  match assocGet s.drift.outstanding n with
  | none => s
  | some a => s.putDrift { s.drift with outstanding := assocDel s.drift.outstanding n, dropped := s.drift.dropped ++ [(n, a)] }

/-- A frame leaves as dropped (R256, R282). -/
def dropFrame (s : State) (h : Nat) : State :=
  match s.frame h with
  | none => s
  | some f =>
    let s := removeFrame s h
    match f.kind with
    | .agreement .. => dropAgreement s f.final
    | _ => s

/-- Drop a frame and count DL_DROP. -/
def discardFrame (s : State) (h : Nat) : State := (dropFrame s h).bump R.PSM_CNT4_DL_DROP

/-- Drop every frame queued for an air destination into DL_DROP. -/
def flushDownlink (s : State) (a : Nat) : State := foldState discardFrame s (downlinkOf s a)

/-- Drop every node downlink queue into DL_DROP (R325, R327). -/
def flushAllDownlink (s : State) : State := foldState (fun t (p : Nat × List Nat) => flushDownlink t p.1) s s.sched.downlink

/-! ## Delay measurement -/

/-- Floor of the base-2 logarithm of a positive number below 2^64. -/
def log2Nat (v : Nat) : Nat := ((List.range 64).filter fun i => decide (2 ^ (i + 1) ≤ v)).length

/-- SHIFT of a measurement point (R349). -/
def pointShift (s : State) (m : Nat) : Nat :=
  if m < 8 then s.get R.SAMP_CFG_U_UP else if m < 16 then s.get R.SAMP_CFG_U_DEV else s.get R.SAMP_CFG_U_AIR

/-- A delay at point m: its histogram bin and the largest delay (R349). -/
def recordDelay (s : State) (m ns : Nat) : State :=
  let units := ns / 2 ^ pointShift s m
  let bin := if units = 0 then 0 else min 15 (log2Nat units + 1)
  let s := s.bump (R.DLY_HIST_COUNT m bin)
  s.set (R.DLY_MAX_MAX m) (max (s.get (R.DLY_MAX_MAX m)) (min 0xFFFFFFFF units))

/-- A frame of a class passes point m: it is stamped when it is TC0 or the next of 1 in 2^N_SH (R349). -/
def sampleDelay (s : State) (m cls ns : Nat) : State :=
  if cls = 0 then recordDelay s m ns
  else
    let n := (assocGet s.sched.samples m).getD 0
    let s := s.putSched { s.sched with samples := assocSet s.sched.samples m (n + 1) }
    if n % 2 ^ s.get R.SAMP_CFG_N_SH = 0 then recordDelay s m ns else s

/-- The bounds of Table 11-3 at a level, ns: 0 downlink, 1 uplink. -/
def crimsonBound (bound level : Nat) : Nat :=
  1000 * (if bound = 0 then (if level = 2 then 18 else if level = 1 then 30 else 45)
    else (if level = 2 then 20 else if level = 1 then 32 else 48))

/-- The level whose bound holds: the lower of the two during a change (R346). -/
def boundLevel (s : State) : Nat :=
  match s.pwr.change with
  | some c => min c.from_ c.level
  | none => s.get R.PWR_STATUS_CUR

/-- A stamped TC0 frame against its bound (R347). -/
def crimsonCheck (s : State) (bound ns node : Nat) : State :=
  let level := boundLevel s
  if crimsonBound bound level < ns then
    postEvent 0x0902 [(0, 1, bound), (1, 1, level), (4, 4, ns), (8, 4, node)] (s.bump R.SCHED_CNT3_CRIM_LATE)
  else s

/-! ## Crimson policing -/

/-- One frame of the Crimson bucket, in the unit of its credit. -/
def crimFrame : Nat := 1000000

/-- The credit of the Crimson bucket now (R337). -/
def crimCredit (s : State) : Nat :=
  min (crimFrame * s.get R.CRIM_POL_BURST) (s.sched.crimCredit + s.get R.CRIM_POL_RATE * (s.now - s.sched.crimTime))

/-- Police one TC0 frame of a length (R337): the state and the class it gets. -/
def policeCrimson (s : State) (len : Nat) : State × Nat :=
  if !s.bit R.CRIM_POL_EN then (s, 0)
  else
    let c := crimCredit s
    let long := decide (s.get R.CRIM_POL_MAXLEN < len)
    if c < crimFrame ∨ long = true then
      let s := s.putSched { s.sched with crimCredit := c, crimTime := s.now }
      (postEvent 0x0901 [(0, 1, boolNat (decide (crimFrame ≤ c)))] (s.bump R.SCHED_CNT0_CRIM_DEMOTE), 1)
    else (s.putSched { s.sched with crimCredit := c - crimFrame, crimTime := s.now }, 0)

/-! ## Association end -/

/-- The map unit's table views (Table 7-13). -/
def viewImap (s : State) : State :=
  (s.set R.IMAP_STATUS_USED s.imap.entries.length).setBit R.IMAP_STATUS_FULL (decide (8192 ≤ s.imap.entries.length))

/-- Free a node's map entry without an event (R237). -/
def freeMapEntry (s : State) (n : Nat) : State :=
  viewImap (s.putImap { s.imap with entries := assocDel s.imap.entries n })

/-- Seconds since the last accepted frame of a node (R270): from SYNC while the age stamp shows less than 60 min,
from the age stamp beyond that. -/
def secondsSilent (s : State) (n : Nat) : Nat :=
  let l := s.line n
  let minutes := (s.get R.FWD_STATUS_NODE_MIN + 65536 - lineGet l N.AGE) % 65536
  if minutes < 60 then ((s.asnNat + 2 ^ 24 - natBits l.toNat 232 24) % 2 ^ 24) * slotLenNs s / secondNs
  else minutes * 60

/-- An association ends (R265, R270): VALID clears and the rest of the line stays, the node's downlink queue is
dropped, its map entry is freed, NODE_LOST is counted and posted. -/
def loseNode (s : State) (n : Nat) : State :=
  let silent := secondsSilent s n
  let eui := lineGet (s.line n) N.EUI
  let s := setLineField s n N.VALID 0
  let s := flushDownlink s n
  let s := freeMapEntry s n
  postEvent 0x0603 [(0, 4, n), (4, 8, euiField eui), (12, 4, silent)] (s.bump R.PSM_CNT6_NODE_LOST)

/-! ## Virtual finish times and the order of service -/

/-- A node's weight (R335). -/
def nodeWeight (s : State) (n : Nat) : Nat :=
  let w := lineGet (s.line n) N.WEIGHT
  if w = 0 then s.get R.SCHED_CFG_W_DEF else w

/-- The later of two finish times, by signed 32-bit difference (R333). -/
def laterF (a b : Nat) : Nat := if seqGe 32 a b then a else b

/-- The finish time of the last frame of a final destination that waits in a class queue. -/
def lastFinish (s : State) (a cls n : Nat) : Option Nat :=
  ((downlinkOf s a).filterMap fun h => (s.frame h).bind fun f => if f.cls = cls ∧ f.final = n then some f.finish else none).getLast?

/-- F of a frame that is enqueued (R333). -/
def finishTime (s : State) (a cls n len : Nat) : Nat :=
  let v := (assocGet s.sched.virtual (a * 8 + cls)).getD 0
  let base := match lastFinish s a cls n with | none => v | some f => laterF v f
  (base + len * 256 / max 1 (nodeWeight s n)) % 2 ^ 32

/-- The frame of a class with the lowest F, then the earliest arrival (R333). -/
def firstBy (s : State) (q : List Nat) (cls : Nat) : Option Nat :=
  (q.filterMap fun h => (s.frame h).bind fun f => if f.cls = cls then some (h, f.finish) else none).foldl
    (fun (best : Option (Nat × Nat)) (c : Nat × Nat) =>
      match best with
      | none => some c
      | some b => if seqGe 32 c.2 b.2 then some b else some c) none |>.map (fun b => b.1)

/-- The frame of a class that leaves first (R333): the Crimson copies of the time before the claim go ahead of the others
(R535). -/
def firstOf (s : State) (q : List Nat) (cls : Nat) : Option Nat :=
  match firstBy s (q.filter fun h => s.sched.copies.contains h) cls with
  | some h => some h
  | none => firstBy s q cls

/-- Where a weighted group stands: the class in turn, whether its turn has begun, the deficits by class. -/
structure DrrPlace where
  cls : Nat
  turn : Bool
  deficits : List (Nat × Nat)
  deriving DecidableEq, Repr

/-- The deficit of a class. -/
def DrrPlace.deficit (p : DrrPlace) (c : Nat) : Nat := (assocGet p.deficits c).getD 0

/-- Set the deficit of a class. -/
def DrrPlace.setDeficit (p : DrrPlace) (c d : Nat) : DrrPlace := { p with deficits := assocSet p.deficits c d }

/-- The loop of R332 up to the next frame served: `head c` is the length of the head of class c, `ok` the credit, and
`lone c` says that the head is its only frame: a class that this service empties loses its deficit, and the loop goes on. -/
def drrNext (head : Nat → Option Nat) (ok lone : Nat → Bool) (quantum : Nat → Nat) :
    Nat → DrrPlace → Option Nat × DrrPlace
  | 0, p => (none, p)
  | fuel + 1, p =>
    let c := p.cls
    let after := if c = 7 then 3 else c + 1
    match head c with
    | none => drrNext head ok lone quantum fuel { (p.setDeficit c 0) with cls := after, turn := false }
    | some len =>
      let p := if p.turn then p else { (p.setDeficit c (p.deficit c + quantum c)) with turn := true }
      if len ≤ p.deficit c ∧ ok c = true then
        (some c, if lone c then { (p.setDeficit c 0) with cls := after, turn := false }
          else p.setDeficit c (p.deficit c - len))
      else drrNext head ok lone quantum fuel { p with cls := after, turn := false }

/-- The quantum of a class (Table 11-7). -/
def drrQuantum (s : State) (c : Nat) : Nat :=
  if c = 3 then s.get R.DRR_Q0_Q3 else if c = 4 then s.get R.DRR_Q0_Q4 else if c = 5 then s.get R.DRR_Q1_Q5
  else if c = 6 then s.get R.DRR_Q1_Q6 else s.get R.DRR_Q2_Q7

/-- The place of a service point: node a, group 2^20 + g, port 2^21 + e. -/
def drrPlace (s : State) (point : Nat) : DrrPlace :=
  let p := (assocGet s.sched.pointer point).getD 6
  { cls := p / 2, turn := decide (p % 2 = 1),
    deficits := [3, 4, 5, 6, 7].filterMap fun c => (assocGet s.sched.deficit (point * 8 + c)).map fun d => (c, d) }

/-- Keep the place of a service point. -/
def keepDrr (s : State) (point : Nat) (p : DrrPlace) : State :=
  s.putSched { s.sched with
    pointer := assocSet s.sched.pointer point (p.cls * 2 + boolNat p.turn),
    deficit := p.deficits.foldl (fun l d => assocSet l (point * 8 + d.1) d.2) s.sched.deficit }

/-- The next class of a service point whose class heads have the lengths `head` and the credit `ok`, with `lone` where a class holds one frame: TC0 to TC2
strict, then the weighted group (Table 11-1). -/
def nextClass (s : State) (point : Nat) (head : Nat → Option Nat) (ok lone : Nat → Bool) : State × Option Nat :=
  match [0, 1, 2].find? fun c => (head c).isSome && ok c with
  | some c => (s, some c)
  | none =>
    if [3, 4, 5, 6, 7].any fun c => (head c).isSome && ok c then
      let r := drrNext head ok lone (drrQuantum s) 2000 (drrPlace s point)
      (keepDrr s point r.2, r.1)
    else (s, none)

/-- The length of a frame. -/
def frameLen (s : State) (h : Nat) : Option Nat := (s.frame h).map (fun f => f.len)

/-- A list of waiting handles holds at most one frame of a class. -/
def loneIn (s : State) (q : List Nat) (cls : Nat) : Bool :=
  decide ((q.filter fun h => match s.frame h with | none => false | some f => decide (f.cls = cls)).length ≤ 1)

/-- The next downlink frame of an air destination (Table 11-1): the one awaiting resend first. V of its queue
follows a frame taken (R333). -/
def nextDownlink (s : State) (a : Nat) : State × Option Nat :=
  match assocGet s.sched.resend a with
  | some h => (s, some h)
  | none =>
    let q := downlinkOf s a
    let r := nextClass s a (fun c => (firstOf s q c).bind (frameLen s)) (fun _ => true) (loneIn s q)
    match r.2 with
    | none => (r.1, none)
    | some c => (r.1, firstOf s q c)

/-- V becomes the F of a frame that is dequeued (R333). -/
def takeVirtual (s : State) (h : Nat) : State :=
  match s.frame h with
  | some f =>
    match f.dest with
    | some a => s.putSched { s.sched with virtual := assocSet s.sched.virtual (a * 8 + f.cls) f.finish }
    | none => s
  | none => s

/-! ## Enqueue -/

/-- What became of a downlink frame. -/
inductive DownResult where
  | queued (handle : Nat)
  /-- No route, or no valid node. -/
  | noRoute
  | orphan
  | exhausted
  | full
  | poison
  deriving DecidableEq, Repr

/-- Room for a frame of a class (R339). -/
def cellsFor (s : State) (cls len : Nat) : Bool :=
  let left := freeCells s
  decide (frameCells len ≤ left) && (decide (cls = 0) || decide (frameCells len + s.get R.SCHED_CFG_DL_RES ≤ left))

/-- Take the next TX frame counter of a line (R264, R475, R534): the state and the counter. -/
def takeCounter (s : State) (a : Nat) : State × Nat :=
  let c := lineGet (s.line a) N.TXCTR
  (reserve (setLineField s a N.TXCTR (min 0xFFFFFFFF (c + 1))) a false (c + 1), c)

/-- A node's TX frame counter is exhausted (R265). -/
def counterSpent (s : State) (a : Nat) : Bool := decide (lastBlock ≤ lineGet (s.line a) N.TXCTR)

/-- The exhaustion of R265 once the next counter lies in the last block. -/
def checkExhausted (s : State) (a : Nat) : State :=
  if nodeValid s a && counterSpent s a then loseNode s a else s

/-- Seal and queue a frame for its air destination (R334, R339, R470): `hops` are those of R318. -/
def enqueueDown (s : State) (hops : List Nat) (final : Nat) (kind : FrameKind) (purpose cls len : Nat)
    (stamp : Option Nat) : State × DownResult :=
  let a := hops.headD final
  if orphaned s a then (s.bump R.SEC_CNT2_ORPHAN_TX, .orphan)
  else if counterSpent s a then (checkExhausted s a, .exhausted)
  else if !cellsFor s cls len || decide (16383 ≤ (downlinkOf s a).length) then (s.bump R.SCHED_CNT3_DL_FULL, .full)
  else
    let (s, c) := takeCounter s a
    let s := keyRequest s a purpose
    let e := (activeSlot s).getD 0
    let f : TxFrame := { newFrame kind (some a) final cls len (some c) with
      epochSlot := e, gen := lineGet (s.line a) N.GEN, finish := finishTime s a cls final len, stampIn := stamp,
      stampReady := some s.now, ident := a * 2 ^ 32 + c }
    let (s, h) := storeFrame s f
    let s := viewDownlink (s.putSched { s.sched with downlink := assocSet s.sched.downlink a (downlinkOf s a ++ [h]) }) a
    let s := if cls = 0 then mirror s (.crimsonIn ((s.frame h).getD f)) else s
    (checkExhausted s a, .queued h)

/-- Route, seal and queue a frame for a node (R318): `kind` is built from the remaining hops. -/
def sendDown (s : State) (n : Nat) (kind : List Nat → FrameKind) (purpose cls : Nat) (len : List Nat → Nat)
    (stamp : Option Nat) : State × DownResult :=
  if nodesClosed s || s.bit R.SEC_STATUS_ERROR then (s, .noRoute)
  else
    match routeWalk s n with
    | .fail r l => (routeFailed s n r l, .noRoute)
    | .poison l => (routeFailed (consumeLine s l) n (if l = n then 1 else 2) l, .poison)
    | .ok hops => enqueueDown s hops n (kind (hops.drop 1)) purpose cls (len (hops.drop 1)) stamp

/-- A frame for a node that is sent to it directly as its own air destination, whatever its place in the tree:
map, agreement and rekey frames (R230, R281, R467). -/
def sendDirect (s : State) (n : Nat) (kind : FrameKind) (purpose len : Nat) : State × DownResult :=
  if nodesClosed s || s.bit R.SEC_STATUS_ERROR || !nodeValid s n then (s, .noRoute)
  else if linePoisoned s n then (consumeLine s n, .poison)
  else enqueueDown s [n] n kind purpose 1 len none

/-! ## Issue -/

/-- Issue a frame to its air destination (R334, R468, R470): none when it is dropped instead, as one with poison is (Table
18-2). -/
def issueFrame (s : State) (h : Nat) : State × Bool :=
  match s.frame h with
  | none => (s, false)
  | some f =>
    if f.poisoned then (consumePoison (dropFrame s h) 0 0xFFFFFFFF, false)
    else
    match f.dest, f.counter with
    | some a, some c =>
      if orphaned s a then ((dropFrame s h).bump R.SEC_CNT2_ORPHAN_TX, false)
      else
        let e := (activeSlot s).getD 0
        let s := if e = f.epochSlot then s else s.bump R.SEC_CNT2_EPOCH_RESEAL
        let f := { f with epochSlot := e }
        let top := assocGet s.sched.issuedCounter a
        let late := !f.issued && (match top with | none => false | some t => decide (c < t))
        if late && counterSpent s a then (dropFrame (checkExhausted s a) h, false) else
        let (s, c) := if late then let r := takeCounter s a; (r.1.bump R.SCHED_CNT2_RESEAL, r.2) else (s, c)
        let m := match top with | none => c | some t => max t c
        let s := s.putSched { s.sched with issuedCounter := assocSet s.sched.issuedCounter a m }
        let s := checkExhausted (s.setFrame h { f with issued := true, counter := some c }) a
        (s, (s.frame h).isSome)
    | _, _ => (s.setFrame h { f with issued := true }, true)

/-! ## Group frames -/

/-- The queue of a group: (handle, sends made), oldest first. -/
def groupQueue (s : State) (g : Nat) : List (Nat × Nat) := (assocGet s.fwd.groups g).getD []

/-- Replace a group's queue and its MCAST_STAT view. -/
def putGroup (s : State) (g : Nat) (l : List (Nat × Nat)) : State :=
  (s.putFwd { s.fwd with groups := assocSet s.fwd.groups g l }).set (R.MCAST_STAT_QUEUED g) l.length

/-- Drop the frames queued in a district's groups into DL_DROP (R476). -/
def flushDistrict (s : State) (d : Nat) : State :=
  foldState (fun t (g : Nat × List (Nat × Nat)) =>
    if t.get (R.MCAST_CFG_DISTRICT g.1) = d then
      putGroup (foldState (fun u (h : Nat × Nat) => discardFrame u h.1) t g.2) g.1 []
    else t) s s.fwd.groups

/-- Exhaustion of a district's broadcast counter (R476). -/
def checkBcast (s : State) (d : Nat) : State :=
  if bcastSpent s d then
    let s := flushDistrict s d
    if s.tree.bcastSpent.contains d then s
    else
      let e := match activeSlot s with | none => EpochSlot.empty | some i => s.tree.slot i
      postEvent 0x0F08 [(0, 2, d), (2, 1, districtGen e d), (4, 2, e.epoch)]
        (s.putTree { s.tree with bcastSpent := d :: s.tree.bcastSpent })
  else s

/-- Queue a group frame (R320): refused while TREE_LOST, without an active epoch, for a disabled group, with the
counter exhausted (dropped into DL_DROP, R476) or without room (R339). -/
def sendGroup (s : State) (g cls len : Nat) (payload : List Byte) : State × DownResult :=
  let d := s.get (R.MCAST_CFG_DISTRICT g)
  let e := match activeSlot s with | none => EpochSlot.empty | some i => s.tree.slot i
  if !s.bit (R.MCAST_CFG_EN g) || s.bit R.SEC_STATUS_ERROR then (s, .noRoute)
  else if s.bit R.SEC_STATUS_TREE_LOST || (activeSlot s).isNone || districtRevoked e d then (s.bump R.SEC_CNT2_ORPHAN_TX, .orphan)
  else if bcastSpent s d then ((checkBcast s d).bump R.PSM_CNT4_DL_DROP, .exhausted)
  else if !cellsFor s cls len then (s.bump R.SCHED_CNT3_DL_FULL, .full)
  else
    let c := bcastCounter s d
    let s := s.putTree { s.tree with bcast := cellsWrite zeroCell s.tree.bcast d (BitVec.ofNat 32 (c + 1)) }
    let s := reserve s (2 ^ 20 + d) true (c + 1)
    let f : TxFrame := { newFrame (.group g payload) none 0xFFFF cls len (some c) with
      epochSlot := (activeSlot s).getD 0, gen := districtGen e d, stampReady := some s.now }
    let (s, h) := storeFrame s f
    (checkBcast (putGroup s g (groupQueue s g ++ [(h, 0)])) d, .queued h)

end Sys2Proof.Machine
end

