-- ==== Sys2Proof/Machine/RadioOps.lean ====
section
/-!
DEFINITION. Radio operations: PHY modes (R177, R178), windows (R116, R117), air times (R605), engine states and
blanking (R182 to R185), coefficient epochs (R147 to R151), transmit intervals and their ends (R123 to R132).
-/

namespace Sys2Proof.Machine

/-! ## What a slot holds -/

/-- The offset of the present slot in SF0. -/
def nowOffset (s : State) : Nat := slotOffset s s.asnNat

/-- The four beacon or join slot registers. -/
def four : List Nat := [0, 1, 2, 3]

/-- The present paths. -/
def presentPaths (s : State) : List Nat := (List.range 32).filter (pathPresent s.part)

/-- The enabled join slot of the present slot. -/
def joinSlotNow (s : State) : Option Nat := four.find? fun k => s.bit (R.JOIN_SLOT_EN k) && decide (s.get (R.JOIN_SLOT_SLOT k) = nowOffset s)

/-- The enabled beacon slot of the present slot. -/
def beaconSlotNow (s : State) : Option Nat :=
  four.find? fun k => s.bit (R.BEACON_SLOT_EN k) && decide (s.get (R.BEACON_SLOT_SLOT k) = nowOffset s)

/-- The present slot is the tracking slot (R296). -/
def trackNow (s : State) : Bool := s.bit R.TRACK_CFG_EN && decide (s.get R.TRACK_CFG_SLOT = nowOffset s)

/-- The enabled groups whose slot the present slot is (R321). -/
def groupsNow (s : State) : List Nat :=
  (List.range 256).filter fun g => s.bit (R.MCAST_CFG_EN g) && decide (s.get (R.MCAST_SLOT_SLOT g) = nowOffset s)

/-- The slot has a beacon, group send or tracking on a path (TD5). -/
def pathTaken (s : State) (p : Nat) : Bool :=
  (match beaconSlotNow s with | none => false | some k => decide (s.get (R.BEACON_SLOT_PATH k) = p)) ||
    (trackNow s && decide (s.get R.TRACK_CFG_PATH = p)) ||
    (groupsNow s).any fun g => natBit (s.get (R.MCAST_PATHS_PATHS g)) p

/-- The reserved offsets of a path under the epoch in force (R343, R344). -/
def reservedOffsets (s : State) (p : Nat) : List Nat :=
  let word (k : Nat) : Nat := (assocGet s.sched.crims k).getD 0
  let half (w : Nat) : List Nat := (if natBit w 15 then [natBits w 0 12] else []) ++ (if natBit w 31 then [natBits w 16 12] else [])
  half (word (2 * p)) ++ half (word (2 * p + 1))

/-- The present slot is a Crimson reserved slot of a path; reservations on a drained path lapse (R345). -/
def reservedNow (s : State) (p : Nat) : Bool := (reservedOffsets s p).contains (nowOffset s) && !s.sched.drains.contains p

/-- The present slot gives the path a receive assignment: the replies of a group, a join slot or the tracking slot. -/
def receiveSlot (s : State) (p : Nat) : Bool :=
  s.bit R.PSM_STATUS_RUN && !s.sched.drains.contains p &&
    ((joinSlotNow s).isSome || (trackNow s && decide (s.get R.TRACK_CFG_PATH = p)) || s.psm.exchanges.any fun x => decide (x.2.path = p))

/-- A path has neither a transmit nor a receive assignment in the present slot, and the slot is none of its reserved slots (R168,
R169, R343); a drained path has none at all (R345). -/
def pathIdle (s : State) (p : Nat) : Bool :=
  s.sched.drains.contains p || (!pathTaken s p && !receiveSlot s p && !reservedNow s p)

/-- The valid nodes. -/
def validNodes (s : State) : List Nat := (s.fwd.ncs.filter fun c => lineBit c.2 N.VALID).map fun c => c.1

/-- The node's PHY mode (NCS byte 55). -/
def nodeMode (s : State) (n : Nat) : Nat := lineGet (s.line n) N.MODE

/-- The channels of a channel map, kHz. -/
def mapChannels (s : State) (m : Nat) : List Nat := (List.range (mapLen s m)).map (mapFreq s m)

/-! ## Start-up -/

/-- Step 8 of Table 3-1: every path is released, the device runs, and it may claim where its peer has not (R73, R523). -/
def reachStep8 (s : State) : State :=
  let s := s.set R.BOOT_STATUS_PHASE 5
  s.putPair { s.pair with step8 := !s.bit R.PAIR_STATUS_CLAIM_IN }

/-! ## PHY modes -/

/-- The family of a mode code: 0 MR-FSK, 1 MR-OFDM, 2 O-QPSK, 3 Indigo (Table 6-2). -/
def modeFamily (m : Nat) : Nat := m / 64 % 4

/-- The MCS values that Table 6-1 admits for an MR-OFDM option minus 1. -/
def mcsOk (option mcs : Nat) : Bool :=
  if option = 0 then decide (mcs ≤ 3) else if option = 1 then decide (mcs ≤ 5)
  else if option = 2 then decide (1 ≤ mcs) && decide (mcs ≤ 6) else decide (2 ≤ mcs) && decide (mcs ≤ 6)

/-- A mode code that Table 6-2 produces and Table 6-1 does not exclude (R178). -/
def modeSupported (m : Nat) : Bool :=
  decide (m < 256) &&
    (if modeFamily m = 0 then decide (natBits m 3 3 ≤ 4)
     else if modeFamily m = 1 then !natBit m 0 && mcsOk (natBits m 4 2) (natBits m 1 3)
     else if modeFamily m = 2 then decide (m % 64 = 0)
     else decide (m % 4 = 0))

/-- The path is a sub-GHz path. -/
def subGhz (n : Nat) : Bool := decide (pathCluster n < 2)

/-- The mode is excluded on a path: unsupported, or O-QPSK on a sub-GHz path (R182). -/
def modeExcluded (n m : Nat) : Bool := !modeSupported m || (decide (modeFamily m = 2) && subGhz n)

/-- The MR-FSK data rate in kb/s (Table 6-2). -/
def fskRate (m : Nat) : Nat := [50, 100, 150, 200, 300].getD (natBits m 3 3) 50

/-- Least channel bandwidth of a mode, kHz (Table 6-1). -/
def leastBw (m : Nat) : Nat :=
  if modeFamily m = 0 then
    let w := if natBit m 1 then 2 * fskRate m else (3 * fskRate m + 1) / 2
    max 100 ((w + 24) / 25 * 25)
  else if modeFamily m = 1 then [1200, 800, 400, 200].getD (natBits m 4 2) 1200
  else if modeFamily m = 2 then 1600
  else 200 * 2 ^ natBits m 4 2

/-! ## Air times -/

/-- The symbol time of an Indigo mode, ns (Table 7-1). -/
def indigoSymbol (m : Nat) : Nat := 400000 / 2 ^ natBits m 4 2

/-- The code rate of an Indigo mode as numerator and denominator, and its puncturing period (Table 7-4). -/
def indigoRate (r : Nat) : Nat × Nat := [(1, 2), (2, 3), (3, 4), (5, 6)].getD r (1, 2)

/-- N_CBPS of a map: the sum of its 40 codes (R224). -/
def mapBits (v : Nat) : Nat := (List.range 40).foldl (fun a d => a + natBits v (3 * d) 3) 0

/-- Payload symbols of an Indigo frame of `len` octets under a map of `cbps` coded bits (R216). -/
def indigoSymbols (r cbps len : Nat) : Nat :=
  let (p, q) := indigoRate r
  let input := (8 * len + 6 + p - 1) / p * p
  (input * q / p + cbps - 1) / max 1 cbps

/-- The duration of preamble and SFD of a mode, ns (R605, Table 7-1): MR-FSK with `pre` preamble octets and a 2-octet
SFD, uncoded; Indigo with its training symbols. The two OFDM and DSSS families are counted as IEEE 802.15.4-2020 does
(log entry 17). -/
def preambleNs (m pre : Nat) : Nat :=
  if modeFamily m = 0 then (pre + 2) * 8 * 1000000 / fskRate m
  else if modeFamily m = 3 then 6 * indigoSymbol m
  else Config.airTime m 0 pre

/-- The air time of a PSDU of `len` octets in a mode, ns, with `cbps` coded bits per Indigo symbol (R605): MR-FSK with NRNSC FEC sends PHR
and PSDU, with the tail and pad bits of the standard, coded at rate 1/2. -/
def airNs (m pre len cbps : Nat) : Nat :=
  if modeFamily m = 0 then
    if natBit m 0 then ((pre + 2) * 8 + 2 * (16 + 8 * len + Config.fecBits len)) * 1000000 / fskRate m
    else (pre + 2 + 2 + len) * 8 * 1000000 / fskRate m
  else if modeFamily m = 3 then (7 + indigoSymbols (natBits m 2 2) cbps len) * indigoSymbol m
  else Config.airTime m len pre

/-- N_CBPS of the default map (R225). -/
def defaultCbps : Nat := 80

/-- T_TA of a mode, µs (R252). -/
def turnaroundUs (m : Nat) : Nat := if modeFamily m = 3 then 300 else 1000

/-- The duration of preamble and SFD in 2⁻¹⁶ ns (R194, R200). -/
def preambleFine (m pre : Nat) : Nat :=
  if modeFamily m = 0 then (realDiv 87 ((pre + 2) * 8 * 1000000 * 65536 : Nat) (fskRate m : Nat)).toNat else preambleNs m pre * 65536

/-- D_PATH + D_BOARD of a path, ns, transmit (Table 6-6, R194): how far ahead a transmit engine starts its output. -/
def txPathDelay (s : State) (n : Nat) : Nat :=
  if n < 16 then (if n < 8 then 1400 else 900) + s.get (R.CL_BOARD_DLY_TX (n / 4) (n % 4)) else 380 + s.get (R.XS_LAT_TX (n - 16))

/-! ## Windows -/

/-- Window width of a path, kHz (Table 4-1). -/
def windowWidth (s : State) (n : Nat) : Nat :=
  if n < 8 then 12800 else if n < 16 then 25600
  else 6400 * 2 ^ min 2 (s.get R.JESD_RATE_FS)

/-- Current window centre of a path, kHz. -/
def windowCentre (s : State) (n : Nat) : Nat :=
  if n < 16 then s.get (R.SYNTH_CUR_FREQ n) else s.get (R.XS_RF_FREQ (n - 16))

/-- Home window centre of a path, kHz. -/
def homeCentre (s : State) (n : Nat) : Nat :=
  if n < 16 then s.get (R.SYNTH_FREQ_FREQ n) else s.get (R.XS_RF_FREQ (n - 16))

/-- A channel fits a window (R117): centre, width, channel centre and bandwidth in kHz. -/
def channelFits (c w f b : Nat) : Bool := decide (2 * (f - c + (c - f)) + b ≤ w)

/-- An offset in Hz fits the window of a path (R182, R198). -/
def offsetFits (s : State) (n : Nat) (offset : Int) (bKhz : Nat) : Bool :=
  decide (2 * offset.natAbs + bKhz * 1000 ≤ windowWidth s n * 1000)

/-! ## Counters of transceiver paths -/

/-- The place of a counter in a transceiver block, under which a stream holds its own count. -/
def streamCount (f : Fld) : Nat := f.key % 65536 * 32 + f.lo

/-- Raise a counter of Table 4-14: the register of a transceiver, or the count of a stream, which has no register (R140). -/
def bumpTrx (s : State) (n : Nat) (f : Fld) : State :=
  if n < 16 then s.bump f
  else
    let c := (s.path n).counts
    s.setPath n { s.path n with counts := assocSet c (streamCount f) ((assocGet c (streamCount f)).getD 0 + 1) }

/-- Set a field of a transceiver block; a stream has none. -/
def setTrx (s : State) (n : Nat) (f : Fld) (v : Nat) : State := if n < 16 then s.set f v else s

/-! ## Engine states -/

/-- Engine states (Table 6-4) and transmit engine states (R199). -/
def ceOff : Nat := 0
def ceIdle : Nat := 1
def ceSearch : Nat := 2
def ceAcq : Nat := 3
def ceDecode : Nat := 4
def ceBlank : Nat := 5
def teIdle : Nat := 0
def teLoaded : Nat := 1
def teArmed : Nat := 2
def teRun : Nat := 3

/-- The channel engines and the transmit engines of a cluster. -/
def clusterCes (c : Nat) : List Nat := (List.range 128).map fun i => 128 * c + i
def clusterTes (c : Nat) : List Nat := (List.range 32).map fun i => 32 * c + i

/-- Engine e has an active assignment on path n. -/
def ceOnPath (s : State) (n e : Nat) : Bool := s.bit (R.CE_ASG0_ACTIVE e) && decide (s.get (R.CE_ASG0_PATH e) = n)

/-- The engines assigned to a path. -/
def pathCes (s : State) (n : Nat) : List Nat := (clusterCes (pathCluster n)).filter (ceOnPath s n)

/-- The latest receive epoch of a path (CAL_EPOCH, XS_CAL_EPOCH). -/
def rxEpoch (s : State) (n : Nat) : Nat :=
  if n < 16 then s.get (R.CAL_EPOCH_RX_EPOCH n) else s.get (R.XS_CAL_EPOCH_EPOCH (n - 16))

/-- CAL_LAG follows the engines on an older receive epoch (R149). -/
def viewLag (s : State) (n : Nat) : State :=
  setTrx s n (R.CAL_LAG_LAG n) ((pathCes s n).filter fun e => decide (s.get (R.CE_STATE_EPOCH e) ≠ rxEpoch s n)).length

/-- The engine's state. -/
def ceState (s : State) (e : Nat) : Nat := s.get (R.CE_STATE_STATE e)

/-- Chain A of the path is enabled (R118). -/
def chainAEnabled (s : State) (n : Nat) : Bool := if n < 16 then true else natBit (s.get R.JESD_RXCH_A) (n - 16)

/-- The reason a record is refused (R182, R189, CE_ASSIGN_REJECT), or none. -/
def assignRefusal (s : State) (e : Nat) (a : Assignment) : Option Nat :=
  let off := signedOf 26 a.offset
  if pathCluster a.path ≠ ceCluster e || !pathPresent s.part a.path then some 0
  else if modeExcluded a.path a.mode then some 1
  else if a.bw * 25 < leastBw a.mode then some 2
  else if !offsetFits s a.path off (a.bw * 25) then some 3
  else if (pathCes s a.path).any fun o => decide (o ≠ e) && decide (s.get (R.CE_ASG1_OFFSET o) = a.offset) &&
      decide (s.get (R.CE_ASG0_MODE o) = a.mode) then some 4
  else if (a.ant = 1 && !chainAEnabled s a.path) || (a.ant = 2 && !chainBEnabled s a.path) then some 5
  else none

/-- Write the active record's registers (Table 6-13). -/
def writeAssignment (s : State) (e : Nat) (a : Assignment) : State :=
  let s := (s.set (R.CE_ASG0_PATH e) a.path).set (R.CE_ASG0_MODE e) a.mode
  let s := (s.set (R.CE_ASG0_BW e) a.bw).set (R.CE_ASG0_ANT e) a.ant
  let s := (s.set (R.CE_ASG0_HINT_B e) a.hintB).set (R.CE_ASG0_PREC_V e) a.precV
  let s := (s.set (R.CE_ASG0_EXP_V e) a.expV).set (R.CE_ASG0_ACTIVE e) a.active
  let s := (s.set (R.CE_ASG1_OFFSET e) a.offset).set (R.CE_ASG2_PRECORR e) a.precorr
  (s.set (R.CE_ASG3_EXP_T e) a.expT).set (R.CE_ASG4_SCHED_EPOCH e) a.epoch

/-- Receive lock of a path: the synthesizer's lock with no retune and in service, or the receive link (R120, R121,
R140). -/
def receiveLock (s : State) (n : Nat) : Bool :=
  if n < 16 then s.bit (R.SYNTH_STATUS_LOCK n) && !s.bit (R.SYNTH_STATUS_OOS n) else s.bit R.JESD_STATUS_RX_UP

/-- The path is inside a blind span, a retune, an unlocked or a link-down interval (Table 6-4), or its loopback is closed. -/
def pathBlanked (s : State) (n : Nat) : Bool := (s.path n).interval.isSome || !receiveLock s n || (s.path n).loopback

/-- A path's receive set as its list of 38 values: per chain DC I and Q, 8 image coefficients I and Q, bandwidth error;
zeros before the first set. -/
def rxSetOf (p : PathState) : List Int := if p.rxSet = [] then List.replicate 38 0 else p.rxSet

/-- The bin nearest a channel `offset` Hz from the window centre, the lower one on a tie, and the channel's offset from it, Hz
(R180, R181). -/
def nearestBin (offset : Int) : Int × Int :=
  let k := (offset + 399999) / 800000
  (k, offset - 800000 * k)

/-- The carrier pre-correction of a record in Hz: PRECORR, 2⁻¹⁰ ppm, times the carrier frequency (R181). -/
def carrierShift (s : State) (a : Assignment) : Int :=
  if a.precV = 0 then 0
  else realDiv 56 (signedOf 24 a.precorr * ((windowCentre s a.path : Int) * 1000 + signedOf 26 a.offset)) (1024 * 1000000)

/-- A record takes effect with its load (R181, R182, R184, R226): refused, released, or active in SEARCH with the path's latest
receive set (R148), in BLANK while the path is blanked. -/
def takeAssignment (s : State) (e : Nat) (l : EngineLoad) : State :=
  let a := l.record
  let old := s.get (R.CE_ASG0_PATH e)
  let tune := nearestBin (signedOf 26 a.offset)
  let s := s.setCe e { s.ce e with pending := none, pendingSet := none, activeSet := rxSetOf (s.path a.path), bin := tune.1,
                                   shift := tune.2 + carrierShift s a, maps := l.maps, node := l.node }
  let s := s.set (R.CE_STATE_PENDING e) 0
  if a.active = 0 then
    viewLag ((writeAssignment s e a).set (R.CE_STATE_STATE e) ceIdle) old
  else
    match assignRefusal s e a with
    | some r =>
      let s := (s.set (R.CE_ASG0_ACTIVE e) 0).set (R.CE_STATE_STATE e) ceIdle
      let s := pushItem s (4 + ceCluster e) 1 { words := 1, poison := [], tag := 0, data := toLE 2 e ++ toLE 1 r }
      postEvent 0x0401 [(0, 2, e), (2, 1, r), (4, 2, a.epoch)] (viewLag (s.bump (R.CE_CNT_ASG_ASSIGN_REJ e)) old)
    | none =>
      let s := writeAssignment s e a
      let s := s.set (R.CE_STATE_STATE e) (if pathBlanked s a.path then ceBlank else ceSearch)
      viewLag (viewLag (s.set (R.CE_STATE_EPOCH e) (rxEpoch s a.path)) a.path) old

/-- The engine returns to preamble search, its pending assignment first (R184, R185). -/
def backToSearch (s : State) (e : Nat) : State :=
  match (s.ce e).pending with
  | some a => takeAssignment s e a
  | none => s.set (R.CE_STATE_STATE e) ceSearch

/-- A record with its load reaches an engine (R182, R184): it waits while a frame is in progress, and replaces one that waits. -/
def giveLoad (s : State) (e : Nat) (l : EngineLoad) : State :=
  if ceState s e = ceAcq ∨ ceState s e = ceDecode then (s.setCe e { s.ce e with pending := some l }).set (R.CE_STATE_PENDING e) 1
  else takeAssignment s e l

/-- The record that releases an engine from its path. -/
def releaseLoad (s : State) (e : Nat) : EngineLoad :=
  let a : Assignment :=
    { path := s.get (R.CE_ASG0_PATH e), mode := s.get (R.CE_ASG0_MODE e), bw := s.get (R.CE_ASG0_BW e), ant := 0, hintB := 0, precV := 0,
      precorr := 0, expV := 0, expT := 0, offset := s.get (R.CE_ASG1_OFFSET e), epoch := s.get R.SCHED_STATUS_EPOCH, active := 0 }
  { record := a, maps := none, node := none }

/-- Blanking begins on a path: frames in progress are discarded and counted in `f` (R124, R185); answers the state. -/
def blankPath (s : State) (n : Nat) (f : Fld) : State :=
  foldState (fun t e =>
    let st := ceState t e
    let t := if st = ceAcq ∨ st = ceDecode then bumpTrx t n f else t
    if st = ceOff then t else t.set (R.CE_STATE_STATE e) ceBlank) s (pathCes s n)

/-- Blanking ends where nothing else blanks the path (R123, R128, R185). -/
def unblankPath (s : State) (n : Nat) : State :=
  if pathBlanked s n then s
  else foldState (fun t e => if ceState t e = ceBlank then backToSearch t e else t) s (pathCes s n)

/-! ## Coefficient sets -/

/-- A new receive set under the next epoch (R147, R149); its barrier is outstanding. -/
def issueSet (s : State) (n : Nat) (l : List Int) : State :=
  let e := (rxEpoch s n + 1) % 65536
  let s := if n < 16 then (s.set (R.CAL_EPOCH_RX_EPOCH n) e).bumpWrap (R.CNT_CAL2_EPOCHS n) else s.set (R.XS_CAL_EPOCH_EPOCH (n - 16)) e
  viewLag (s.setPath n { s.path n with rxSet := l, merged := none, lastEpoch := some s.now, barrier := some e }) n

/-- The values of the receive set of an epoch: the path's latest, or the active set of an engine that still holds it (R149). -/
def setOfEpoch (s : State) (n epoch : Nat) : List Int :=
  if epoch = rxEpoch s n then rxSetOf (s.path n)
  else ((pathCes s n).find? fun e => decide (s.get (R.CE_STATE_EPOCH e) = epoch)).elim [] fun e => (s.ce e).activeSet

/-- The base from which the next set is made: the latest set with what is merged into it (R150). -/
def nextBase (p : PathState) : List Int := match p.merged with | none => rxSetOf p | some l => l

/-- MIN_INT has passed since the last receive epoch (R150). A stream has no CAL_PARAM: its least spacing is the reset value of
MIN_INT, 1 s (DESIGN CHOICE, log entry 145). -/
def epochAllowed (s : State) (n : Nat) : Bool :=
  match (s.path n).lastEpoch with
  | none => true
  | some t => decide (t + (if n < 16 then s.get (R.CAL_PARAM_MIN_INT n) else 10) * 100000000 ≤ s.now)

/-- Issue a set, or merge it into the next one (R150). -/
def offerSet (s : State) (n : Nat) (l : List Int) : State :=
  if epochAllowed s n then issueSet s n l else s.setPath n { s.path n with merged := some l }

/-- A transmit set under the next transmit epoch (R151, R157). -/
def putTxSet (s : State) (n : Nat) (l : List Int) : State :=
  (s.setPath n { s.path n with txSet := l, observed := 0 }).set (R.CAL_EPOCH_TX_EPOCH n) ((s.get (R.CAL_EPOCH_TX_EPOCH n) + 1) % 65536)

/-- The calibration of a kind is enabled on the path: 0 image, 1 filter, 2 DC (Table 5-1, CAL_CTRL, XS_CAL). -/
def calEnabled (s : State) (n kind : Nat) : Bool :=
  if n < 16 then
    (if kind = 0 then s.bit (R.CAL_CTRL_IMG n) else if kind = 1 then s.bit (R.CAL_CTRL_FILT n) else s.bit (R.CAL_CTRL_DC n))
  else if kind = 0 then s.bit (R.XS_CAL_IMG (n - 16)) else if kind = 1 then false else s.bit (R.XS_CAL_DC (n - 16))

/-- A path that calibrates: enabled, past its cold start, and in no exclusive run, whose loopback carries no traffic (log entry
146). -/
def calRuns (s : State) (n : Nat) : Bool :=
  running s && pathEnabled s n && (decide (16 ≤ n) || s.bit (R.CAL_STATUS_COLD n)) && !(s.path n).loopback

/-! ## Receive image rejection (R152, R153) -/

/-- The bin of a channel offset: the half window in 8 equal parts. -/
def imageBin (s : State) (n : Nat) (offset : Int) : Nat := min 7 (16 * offset.natAbs / max 1 (windowWidth s n * 1000))

/-- An engine has a frame in progress. -/
def inFrame (s : State) (e : Nat) : Bool := decide (ceState s e = ceAcq) || decide (ceState s e = ceDecode)

/-- The channel offset of an engine's record, Hz. -/
def ceOffset (s : State) (e : Nat) : Int := signedOf 26 (s.get (R.CE_ASG1_OFFSET e))

/-- The engines on the mirror channel of an engine's channel. -/
def mirrorEngines (s : State) (e : Nat) : List Nat :=
  (pathCes s (s.get (R.CE_ASG0_PATH e))).filter fun o => decide (o ≠ e) && decide (ceOffset s o = -(ceOffset s e))

/-- A frame begins in an engine: it and the frames in progress on its mirror channel spoil each other for the estimator. -/
def markMirror (s : State) (e : Nat) : State :=
  let l := (mirrorEngines s e).filter (inFrame s)
  let s := s.setCe e { s.ce e with mirror := !l.isEmpty }
  foldState (fun (t : State) o => t.setCe o { t.ce o with mirror := true }) s l

/-- A frame counts towards its bin (R152): SNR (0.25 dB) of at least 15 dB, an idle mirror channel, no saturation, and a channel
that does not overlap its mirror. -/
def qualifies (s : State) (e : Nat) (snr : Int) (saturated : Bool) : Bool :=
  decide (60 ≤ snr) && !(s.ce e).mirror && !saturated && decide (s.get (R.CE_ASG0_BW e) * 25000 ≤ 2 * (ceOffset s e).natAbs)

/-- The image coefficient (I or Q, `part` 0 or 1) of a chain and bin in a set, in 2⁻¹⁶. -/
def imageCoeff (set_ : List Int) (chain bin part : Nat) : Int := listGet 0 set_ (chain * 19 + 2 + 2 * bin + part)

/-- One frame's report of a chain enters the collection of its bin: the mirror correlation without the correction of the engine's
active set (R149), the frame's own power, the node it came from. -/
def addImage (c : ImageBin) (set_ : List Int) (chain bin node : Nat) (corrI corrQ power : Int) : ImageBin :=
  { frames := c.frames + 1, nodes := if c.nodes.contains node then c.nodes else node :: c.nodes,
    corrI := c.corrI + corrI + realDiv 57 (imageCoeff set_ chain bin 0 * power) 65536,
    corrQ := c.corrQ + corrQ + realDiv 58 (imageCoeff set_ chain bin 1 * power) 65536, power := c.power + power }

/-- Nothing collected. -/
def ImageBin.none_ : ImageBin := { frames := 0, nodes := [], corrI := 0, corrQ := 0, power := 0 }

/-- The report of a qualifying frame of a node (R152): correlation with the conjugate mirror samples (I, Q) and own power, of chain
A and then of chain B. -/
def collectImage (s : State) (e node : Nat) (image : List Int) : State :=
  let n := s.get (R.CE_ASG0_PATH e)
  let bin := imageBin s n (ceOffset s e)
  let add (t : State) (chain : Nat) : State :=
    let key := chain * 8 + bin
    let c := (assocGet (t.path n).images key).getD ImageBin.none_
    let c := addImage c (t.ce e).activeSet chain bin node (listGet 0 image (3 * chain)) (listGet 0 image (3 * chain + 1))
      (listGet 0 image (3 * chain + 2))
    t.setPath n { t.path n with images := assocSet (t.path n).images key c }
  foldState add s ([0] ++ if chainBEnabled s n then [1] else [])

/-! ## DC offset and filter bandwidth in an engine (R154 to R156) -/

/-- The engine's channel contains the window centre. -/
def onCentre (s : State) (e : Nat) : Bool := decide (2 * (ceOffset s e).natAbs ≤ s.get (R.CE_ASG0_BW e) * 25000)

/-- What an engine subtracts as DC on a chain (I, Q): only where its channel contains the window centre (R156). -/
def dcApplied (s : State) (e chain : Nat) : Int × Int :=
  if onCentre s e then (listGet 0 (s.ce e).activeSet (chain * 19), listGet 0 (s.ce e).activeSet (chain * 19 + 1)) else (0, 0)

/-- The window samples of a path count towards its DC estimate (R156): outside blind spans, and while no engine on the centre has a
frame in progress. -/
def dcCounts (s : State) (n : Nat) : Bool := !pathBlanked s n && !((pathCes s n).any fun e => onCentre s e && inFrame s e)

/-- The tracked mean after `span` ns of samples of mean `x`, with a first-order time constant of 10 ms: the fraction span ÷ 10 ms of
the way, at most all of it (log entry 147). -/
def dcTrack (old x : Int) (span : Nat) : Int := old + realDiv 59 ((x - old) * min span 10000000) 10000000

/-! ## Health (R167, Table 5-3) -/

/-- The kinds of calibration whose figure is below its degraded limit: bit 0 image, 1 filter, 2 DC, 3 transmit, each
where it is enabled. -/
def calDegraded (s : State) (n : Nat) : Nat :=
  boolNat (s.bit (R.CAL_CTRL_IMG n) && (decide (s.get (R.CAL_HEALTH0_IRR_A n) < 40) || decide (s.get (R.CAL_HEALTH0_IRR_B n) < 40))) +
  2 * boolNat (s.bit (R.CAL_CTRL_FILT n) &&
    (decide (50 < (s.getI (R.CAL_HEALTH1_FILT_A n)).natAbs) || decide (50 < (s.getI (R.CAL_HEALTH1_FILT_B n)).natAbs))) +
  4 * boolNat (s.bit (R.CAL_CTRL_DC n) && (decide (s.get (R.CAL_HEALTH0_DC_A n) < 40) || decide (s.get (R.CAL_HEALTH0_DC_B n) < 40))) +
  8 * boolNat (s.bit (R.CAL_CTRL_TXOBS n) && (decide (s.get (R.CAL_HEALTH1_TX_IMG n) < 35) || decide (s.get (R.CAL_HEALTH1_LO_LEAK n) < 35)))

/-- Every enabled calibration is within its converged figure. -/
def calConverged (s : State) (n : Nat) : Bool :=
  (!s.bit (R.CAL_CTRL_IMG n) || (decide (60 ≤ s.get (R.CAL_HEALTH0_IRR_A n)) && decide (60 ≤ s.get (R.CAL_HEALTH0_IRR_B n)))) &&
  (!s.bit (R.CAL_CTRL_FILT n) ||
    (decide ((s.getI (R.CAL_HEALTH1_FILT_A n)).natAbs ≤ 5) && decide ((s.getI (R.CAL_HEALTH1_FILT_B n)).natAbs ≤ 5))) &&
  (!s.bit (R.CAL_CTRL_DC n) || (decide (60 ≤ s.get (R.CAL_HEALTH0_DC_A n)) && decide (60 ≤ s.get (R.CAL_HEALTH0_DC_B n)))) &&
  (!s.bit (R.CAL_CTRL_TXOBS n) || (decide (45 ≤ s.get (R.CAL_HEALTH1_TX_IMG n)) && decide (45 ≤ s.get (R.CAL_HEALTH1_LO_LEAK n))))

/-- CONVERGED and DEGRADED follow the figures; CAL_DEGRADED is posted once per entry into that state (R166, R167). -/
def viewHealth (s : State) (n : Nat) : State :=
  if 16 ≤ n then s
  else
    let m := calDegraded s n
    let was := s.bit (R.CAL_STATUS_DEGRADED n)
    let s := (s.setBit (R.CAL_STATUS_CONVERGED n) (calConverged s n)).setBit (R.CAL_STATUS_DEGRADED n)
      (decide (m ≠ 0) || (s.path n).coldFailed)
    if !was && decide (m ≠ 0) then
      postEvent 0x0303 [(0, 1, n), (1, 1, m), (4, 4, (s.word (R.CAL_HEALTH0 n)).toNat), (8, 4, (s.word (R.CAL_HEALTH1 n)).toNat)] s
    else s

/-- A new transmit set (R151, R157), measured by the observation receiver: its values and its figures are measurements that the
spec does not fix. -/
def issueTxSet (s : State) (n : Nat) : State :=
  let m := fun (tag : Nat) => Config.realResult tag [(n : Int), (s.draws : Int)]
  let s := putTxSet s n [m 30, m 31]
  viewHealth ((s.drew.set (R.CAL_HEALTH1_TX_IMG n) (m 32).toNat).set (R.CAL_HEALTH1_LO_LEAK n) (m 33).toNat) n

/-- The channels that the schedule epoch in force assigns on a path (R155), kHz with their bandwidths: those of its beacon, join,
group and tracking slots, and those of the maps of the nodes that are polled on it. A drained path has none (R345). -/
def epochChannels (s : State) (p : Nat) : List (Nat × Nat) :=
  let of (map mode : Nat) : List (Nat × Nat) := (mapChannels s map).map fun f => (f, leastBw mode)
  let main := s.get R.BEACON_CFG_MAP
  if s.sched.drains.contains p then []
  else
    ((four.filter fun k => s.bit (R.BEACON_SLOT_EN k) && decide (s.get (R.BEACON_SLOT_PATH k) = p)).map fun _ => of main (s.get R.BEACON_CFG_MODE)).flatten ++
    ((four.filter fun k => s.bit (R.JOIN_SLOT_EN k)).map fun k => of main (s.get (R.JOIN_SLOT_MODE k))).flatten ++
    (((List.range 256).filter fun g => s.bit (R.MCAST_CFG_EN g) && natBit (s.get (R.MCAST_PATHS_PATHS g)) p).map fun g =>
      of main (s.get (R.MCAST_SLOT_MODE g))).flatten ++
    (if s.bit R.TRACK_CFG_EN && decide (s.get R.TRACK_CFG_PATH = p) then of (s.get R.TRACK_CH_MAP) (s.get R.TRACK_CFG_MODE) else []) ++
    (((validNodes s).filter fun n => (choosePath s n).any fun c => decide (c.1 = p)).map fun n =>
      of (lineGet (s.line n) N.CHMAP) (nodeMode s n)).flatten

/-- The channels assigned on a path as (lower edge, upper edge) in Hz from the window centre: those of the schedule epoch that fit
the window, and those of the engines' records. -/
def assignedSpans (s : State) (n : Nat) : List (Int × Int) :=
  let c := windowCentre s n
  (((epochChannels s n).filter fun x => channelFits c (windowWidth s n) x.1 x.2).map fun x =>
    (((x.1 : Int) - c) * 1000 - x.2 * 500, ((x.1 : Int) - c) * 1000 + x.2 * 500)) ++
  (pathCes s n).map fun e =>
    let o := signedOf 26 (s.get (R.CE_ASG1_OFFSET e))
    let h : Int := s.get (R.CE_ASG0_BW e) * 12500
    (o - h, o + h)

/-- The guard span of a path (R155), by its lower edge in Hz from the window centre: 200 kHz within the outer 1.0 MHz of the window
with no assigned channel. -/
def guardSpan (s : State) (n : Nat) : Option Int :=
  let w : Int := windowWidth s n * 500
  let l := assignedSpans s n
  ([-w, w - 1000000] ++ l.map fun x => x.2).find? fun lo =>
    ((decide (-w ≤ lo) && decide (lo + 200000 ≤ -w + 1000000)) || (decide (w - 1000000 ≤ lo) && decide (lo + 200000 ≤ w))) &&
      l.all fun x => decide (lo + 200000 ≤ x.1) || decide (x.2 ≤ lo)

/-- The tone and NOTONE follow the assignments (R155): the tone is on in the middle of the guard span, TONE_LVL below the noise,
while permitted, in a receive slot and outside blind spans. -/
def viewTone (s : State) (n : Nat) : State :=
  if n < 16 then
    let g := guardSpan s n
    let on_ := s.bit (R.CAL_CTRL_TONE n) && s.bit (R.CAL_STATUS_COLD n) && receiveSlot s n && !pathBlanked s n
    (s.setPath n { s.path n with tone := if on_ then g.map fun lo => (lo + 100000, s.get (R.CAL_PARAM_TONE_LVL n)) else none }).setBit
      (R.CAL_STATUS_NOTONE n) g.isNone
  else s

/-! ## Calibration requests -/

/-- CAL_STATUS.RESULT of a path's request. -/
def calResult (s : State) (n r : Nat) : State := s.set (R.CAL_STATUS_RESULT n) r

/-- CAL_FAIL with the path's present result (Table 13-5). -/
def calFail (s : State) (n op : Nat) : State :=
  postEvent 0x0302 [(0, 1, n), (1, 1, s.get (R.CAL_STATUS_RESULT n)), (2, 1, op),
    (3, 1, natBits (s.word (R.CAL_STATUS n)).toNat 20 4)] s

/-- A path's request ends: the loopback opens and the path returns to service with the settings it has. -/
def endRequest (s : State) (n : Nat) : State :=
  let s := s.setPath n { s.path n with request := none, saved := none, yielded := false, loopback := false }
  unblankPath (s.set (R.SYNTH_STATUS_CAL n) 0) n

/-- Stop a path's request: a running exclusive run restores the sets and analog settings from before it (R170, R171). -/
def stopRequest (s : State) (n : Nat) : State :=
  let p := s.path n
  endRequest (match p.saved with
    | some (r, t, a) => s.setPath n { p with rxSet := r, txSet := t, analog := a }
    | none => s) n

/-- A sliced request waits for the path's next idle slot (R129, R168): after a unit, or after the slot's last interval where a unit
yielded. -/
def sliceWaits (s : State) (n : Nat) : State :=
  match (s.path n).request with
  | some r =>
    if r.exclusive then s
    else
      let s := s.setPath n { s.path n with request := some { r with running := false }, yielded := false }
      calResult (s.set (R.SYNTH_STATUS_CAL n) 0) n 4
  | none => s

/-- At the start of a slot a unit of a sliced request begins where the path is idle (R168): one that changes an analog setting only
once a receive epoch may be issued (R150, log entry 146). -/
def sliceBegins (s : State) (n : Nat) : State :=
  match (s.path n).request with
  | some r =>
    if r.exclusive || decide (16 ≤ n) then s
    else if pathIdle s n && (!([2, 3, 5].contains r.op) || epochAllowed s n) then
      let s := s.setPath n { s.path n with request := some { r with running := true }, yielded := false }
      calResult (s.set (R.SYNTH_STATUS_CAL n) 1) n 2
    else sliceWaits s n
  | none => s

/-- An exclusive run in progress is preempted by an assignment or an interval (R170). -/
def calPreempt (s : State) (n : Nat) : State :=
  match (s.path n).request with
  | some r =>
    if n < 16 ∧ r.exclusive = true ∧ r.running = true then
      let s := (stopRequest s n).bump (R.CNT_CAL2_PREEMPT n)
      calFail (calResult s n 6) n r.op
    else s
  | none => s

/-! ## Transmit intervals -/

/-- The transmit gate (R526). -/
def gateOpen (s : State) : Bool := s.bit R.PAIR_STATUS_CLAIM_OUT && !s.bit R.PAIR_STATUS_CLAIM_IN

/-- The completion record of a transmit engine (Table 6-8) enters lane 0 of its cluster's CRP queue (R200). -/
def completion (s : State) (te : Nat) (status late stamp frac : Nat) : State :=
  match (s.te te).item with
  | none => s
  | some w =>
    let rec_ := toLE 4 w.handle ++ toLE 1 status ++ toLE 1 w.analog ++ toLE 1 w.atten ++ toLE 1 w.antenna ++
      toLE 8 (if status = 0 then stamp else 0) ++ toLE 2 (if status = 0 then frac else 0) ++ toLE 2 0 ++ toLE 4 late
    pushItem s (4 + teCluster te) 0 { words := 1, poison := [], tag := 0, data := rec_ }

/-- A frame that a transmit engine did not send (R121, R128, R198, R253, R528): a poll or an ACK is discarded and
counted, another frame of no queue is gone, and a queued frame is first at its destination's next opportunity. -/
def abandonFrame (s : State) (h : Nat) : State :=
  match s.frame h with
  | none => s
  | some f =>
    match f.kind with
    | .poll .. | .ack .. | .joinAck .. => (removeFrame s h).bump R.PSM_CNT5_CTRL_DISCARD
    | .beacon .. => removeFrame s h
    | .joinResponse .. => s
    | .group .. => s
    | _ =>
      match f.dest with
      | some a => s.putSched { s.sched with resend := assocSet s.sched.resend a h }
      | none => s

/-- A transmit engine gives its work back with a status (R199, R200). -/
def teGiveBack (s : State) (te status : Nat) : State :=
  match (s.te te).item with
  | none => s
  | some w =>
    let s := completion s te status 0 0 0
    let s := (s.setTe te { s.te te with item := none, ready := 0 }).set (R.TE_STATE_STATE te) teIdle
    abandonFrame s w.handle

/-- The front end returns to receive (steps 5 and 6 of Table 4-3). -/
def frontEndReceive (s : State) (n : Nat) : State :=
  s.setPath n { s.path n with pa := false, bias := 0, lna := n < 16 && s.bit (R.FE_CTRL_LNA_RX n), ant := 0 }

/-- The interval of a path ends without its frames: deferred (status 1) or aborted (status 2). -/
def dropInterval (s : State) (n status : Nat) : State :=
  match (s.path n).interval with
  | none => s
  | some i =>
    let s := foldState (fun t f => teGiveBack t f.1 status) s i.frames
    frontEndReceive (s.setPath n { s.path n with interval := none }) n

/-! ### The observation receiver (R157) -/

/-- The cluster's receiver is observing a transceiver. -/
def observing (s : State) (c : Nat) : Bool :=
  s.paths.any fun p => decide (p.1 < 16) && decide (pathCluster p.1 = c) &&
    (p.2.interval.any fun i => i.observed && i.ramped && !i.frames.isEmpty)

/-- A transceiver has a frame loaded that starts no later than `first` under an analog entry of at least 16. -/
def startsBy (s : State) (q first : Nat) : Bool :=
  s.bit (R.CAL_CTRL_TXOBS q) && (clusterTes (pathCluster q)).any fun e => decide (s.get (R.TE_STATE_STATE e) = teLoaded) &&
    ((s.te e).item.any fun w => decide (w.path = q) && decide (w.planned ≤ first) && decide (16 ≤ w.analog))

/-- The receiver takes an interval of a transceiver whose frames start at `first` (R157): it is free, the entry is at least 16, and no
transceiver that starts with it comes before it in the round. -/
def observes (s : State) (n analog first : Nat) : Bool :=
  let c := pathCluster n
  let last := (assocGet s.psm.observer c).getD (4 * c + 3)
  let turn (q : Nat) : Nat := (q + 3 - last % 4) % 4
  decide (n < 16) && s.bit (R.CAL_CTRL_TXOBS n) && decide (16 ≤ analog) && !observing s c &&
    ((List.range 4).all fun k => decide (turn n ≤ turn (4 * c + k)) || !startsBy s (4 * c + k) first)

/-- An observed interval has ended with step 4 (R157): after 64 of a transceiver a transmit set is issued for it. -/
def observeEnd (s : State) (n : Nat) : State :=
  let c := (s.path n).observed + 1
  if c < 64 then s.setPath n { s.path n with observed := c } else issueTxSet s n

/-- The transmission of a path's interval is over (step 5 of Table 4-3): the amplifier is off, and the blind span
runs on until its end (steps 6 and 7). -/
def intervalOver (s : State) (n : Nat) : State :=
  match (s.path n).interval with
  | none => s
  | some i => s.setPath n { s.path n with interval := some { i with frames := [] }, pa := false, bias := 0 }

/-- The last frame of an interval has ended (step 4 of Table 4-3). -/
def intervalEnds (s : State) (n : Nat) : State :=
  let s := match (s.path n).interval with
    | none => s
    | some i => if i.observed then observeEnd s n else s
  intervalOver s n

/-- A transmit interval is aborted (R121, R126): `cause` 0 lock lost, 1 gate closed, 2 link down. The rest of its
steps still run. -/
def abortInterval (s : State) (n cause : Nat) : State :=
  match (s.path n).interval with
  | none => s
  | some i =>
    if i.frames.isEmpty then s
    else
      let s := foldState (fun t f => teGiveBack t f.1 2) s i.frames
      let s := bumpTrx (intervalOver s n) n (R.CNT_TX_TX_ABORT n)
      postEvent 0x0202 [(0, 1, n), (1, 1, cause), (2, 1, i.frames.length), (4, 5, s.asnNat)] s

/-- The gate closes (R126, R528): intervals in progress are aborted, and planned ones withdrawn with nothing counted. -/
def closeRadioGate (s : State) : State :=
  let s := foldState (fun (t : State) (p : Nat × PathState) => abortInterval t p.1 1) s s.paths
  let s := foldState (fun (t : State) (w : WorkItem) => abandonFrame t w.handle) (s.putPsm { s.psm with plan := [] }) s.psm.plan
  foldState (fun (t : State) (e : Nat × TeState) => teGiveBack t e.1 1) s s.tes

/-- The map under which an Indigo frame is sent: the node's, and the default map (0) for a node without one, for map frames and for
frames with no air destination (R225, R230, R231). -/
def sentMap (s : State) (f : TxFrame) : Nat :=
  match f.kind, f.dest with
  | .map .., _ => 0
  | _, some n => lineGet (s.line n) N.MAP
  | _, none => 0

/-- The map and code rate in the header of an engine's frame; zeros in another mode. -/
def headerOf (s : State) (te h : Nat) : Nat × Nat :=
  match (s.te te).item, s.frame h with
  | some w, some f => if modeFamily w.mode = 3 then (sentMap s f, natBits w.mode 2 2) else (0, 0)
  | _, _ => (0, 0)

/-- The timebase at which an engine starts its output (R194): D_PATH + D_BOARD ahead of the first symbol at the antenna. -/
def outputStart (s : State) (te n late : Nat) : Nat :=
  match (s.te te).item with
  | none => 0
  | some w => w.planned + late - txPathDelay s n

/-- An engine's frame may no longer be sent (R334, R468, R470): the frame is gone, and the engine returns a completion record (R200),
whose status the spec does not name for this case (log entry 2): one of those of a frame not sent. -/
def engineEmpty (s : State) (te : Nat) : State :=
  let s := (completion s te (1 + Config.openValue 6 s.draws % 3) 0 0 0).drew
  (s.setTe te { s.te te with item := none, ready := 0 }).set (R.TE_STATE_STATE te) teIdle

/-- The frames of an interval go on air: the amplifier takes the entry's level (step 2 of Table 4-3), each engine runs,
and each frame is issued (R334); a frame that may no longer be sent is dropped instead. -/
def rampInterval (s : State) (n late : Nat) : State :=
  match (s.path n).interval with
  | none => s
  | some i =>
    let pa := n < 16 && s.bit (R.PWR_ENTRY_PA_EN n i.analog)
    let items := i.frames.filterMap fun f => (s.te f.1).item
    let first := items.foldl (fun a w => min a w.planned) ((items.map fun w => w.planned).headD 0)
    let seen := observes s n i.analog first
    let s := if seen then s.putPsm { s.psm with observer := assocSet s.psm.observer (pathCluster n) n } else s
    let s := s.setPath n { s.path n with interval := some { i with ramped := true, late := late, observed := seen }, pa := pa }
    foldState (fun t (f : Nat × Nat) =>
      let r := issueFrame t f.2
      if r.2 then
        let m := headerOf r.1 f.1 f.2
        (r.1.set (R.TE_STATE_STATE f.1) teRun).emit (.radio n i.antenna i.analog f.2 (outputStart r.1 f.1 n late) m.1 m.2 (r.1.frame f.2))
      else
        let t := engineEmpty r.1 f.1
        match (t.path n).interval with
        | none => t
        | some j => t.setPath n { t.path n with interval := some { j with frames := j.frames.filter fun x => x.1 ≠ f.1 } })
      s i.frames

/-- The planned ramp start of an interval, ns of the timebase: the earliest planned first symbol less T_RAMP. A stream has no
TX_TIMING: its T_RAMP and FE_LEAD are 0 (DESIGN CHOICE, log entry 145). -/
def rampStart (s : State) (n : Nat) (items : List WorkItem) : Nat :=
  (items.foldl (fun a w => min a w.planned) ((items.map fun w => w.planned).headD 0)) -
    (if n < 16 then s.get (R.TX_TIMING_T_RAMP n) * 1000 else 0)

/-- The latest start of an interval, ns of the timebase: the earliest latest first symbol of its frames less T_RAMP (R127). -/
def latestStart (s : State) (n : Nat) (items : List WorkItem) : Nat :=
  (items.foldl (fun a w => min a w.latest) ((items.map fun w => w.latest).headD 0)) -
    (if n < 16 then s.get (R.TX_TIMING_T_RAMP n) * 1000 else 0)

/-- The moment at which an armed interval can ramp (R128, R201): now, once its planned ramp start has come and every engine is ready;
none where that lies after its latest start. -/
def rampMoment (s : State) (n : Nat) (l : List (Nat × Nat)) : Option Nat :=
  let items := l.filterMap fun f => (s.te f.1).item
  let ready := l.foldl (fun a f => max a (s.te f.1).ready) 0
  let at_ := max (max (rampStart s n items) s.tbNs) ready
  if at_ ≤ latestStart s n items then some at_ else none

/-- An armed interval ramps where lock is held and the gate is open (R128): its frames go late by what the ramp is late. -/
def startWaiting (s : State) (n : Nat) : State :=
  match (s.path n).interval with
  | none => s
  | some i =>
    if i.ramped || i.frames.isEmpty || !lockHeld s n || !gateOpen s then s
    else
      match rampMoment s n i.frames with
      | none => s
      | some at_ => rampInterval s n (at_ - rampStart s n (i.frames.filterMap fun f => (s.te f.1).item))

/-! ## The converter port -/

/-- The external streams as paths. -/
def xsPaths : List Nat := (List.range 16).map fun i => 16 + i

/-- A link goes down (R140, R141): `dir` 0 receive, 1 transmit. -/
def jesdDown (s : State) (dir mask cause : Nat) : State :=
  let up := if dir = 0 then s.bit R.JESD_STATUS_RX_UP else s.bit R.JESD_STATUS_TX_UP
  if !up then s
  else
    let s := s.bump R.JESD_ERR_LINK_DOWN
    let s := if dir = 0 then
        foldState (fun t n => blankPath t n (R.CNT_RX_RX_UNLOCK n)) (s.set R.JESD_STATUS_RX_UP 0) xsPaths
      else
        foldState (fun t n => match (t.path n).interval with
          | some i => if i.ramped then abortInterval t n 2 else t
          | none => t) (s.set R.JESD_STATUS_TX_UP 0) xsPaths
    postEvent 0x0205 [(0, 1, dir), (1, 1, mask), (2, 1, cause)] s

/-! ## Synthesizers -/

/-- A retune command (R120): the path is blanked until lock. Frames in progress count in RX_UNLOCK (DESIGN CHOICE, log entry
145). -/
def retune (s : State) (n centre : Nat) : State :=
  let s := (s.set (R.SYNTH_CUR_FREQ n) centre).set (R.SYNTH_STATUS_RETUNE n) 1
  let s := s.set (R.SYNTH_STATUS_LOCK n) 0
  blankPath (s.setPath n { s.path n with restarted := false }) n (R.CNT_RX_RX_UNLOCK n)

end Sys2Proof.Machine
end

