-- ==== Sys2Proof/Machine/TimeOps.lean ====
section
/-!
DEFINITION. The timebase, pulse outputs and general timers: shared operations of chapter 15.
-/

namespace Sys2Proof.Machine

/-! ## The timebase -/

/-- {TB_NS, TB_FRAC} as one 96-bit number (R406). -/
def tbValue (s : State) : Nat := s.tb.ns.toNat * 2 ^ 32 + s.tb.frac.toNat

/-- The timebase at a 96-bit value. -/
def putTbValue (s : State) (v : Nat) : State :=
  s.putTb { s.tb with ns := BitVec.ofNat 64 (v / 2 ^ 32), frac := BitVec.ofNat 32 v }

/-- TB_INC: the increment in force, 2⁻³² ns (R406). -/
def tbInc (s : State) : Nat := s.get R.TB_INC_HI_INT * 2 ^ 32 + s.get R.TB_INC_LO_FRAC

/-- One clk_ts edge (R406). -/
def tbEdge (s : State) : State := if s.tb.running then putTbValue s ((tbValue s + tbInc s) % 2 ^ 96) else s

/-- The signed difference of two 64-bit times (R411). -/
def timeDiff (a b : Nat) : Int := signedOf 64 (a + 2 ^ 64 - b % 2 ^ 64)

/-- Enter a quality code with a bound; a change of code posts TIME_QUALITY (R418). -/
def setQuality (s : State) (code err : Nat) : State :=
  let old := s.get R.TIME_QUALITY_CODE
  let s := (s.set R.TIME_QUALITY_CODE code).set R.TIME_ERR_ERR (min 0xFFFFFFFF err)
  if old = code then s else postEvent 0x0D02 [(0, 1, code), (1, 1, old), (4, 4, min 0xFFFFFFFF err)] s

/-- The code and bound that a servo STATE gives (Table 15-1). -/
def servoQuality (s : State) : Nat × Nat :=
  match s.get R.TB_SERVO_STATE with
  | 0 => (0, 0xFFFFFFFF)
  | 1 => (1, s.get R.TB_SERVO_ERR)
  | 2 => (1, s.get R.TB_SERVO_ERR)
  | _ => (2, s.get R.TB_SERVO_ERR)

/-- The timebase is in a bridged code (R419). -/
def bridged (s : State) : Bool := decide (2 < s.get R.TIME_QUALITY_CODE)

/-- A correction was applied: a bridged code is left while STATE is 1 or 2 (R419). -/
def leaveBridged (s : State) : State :=
  if bridged s && [1, 2].contains (s.get R.TB_SERVO_STATE) then setQuality s (servoQuality s).1 (servoQuality s).2 else s

/-- The requester that TB_CTRL.OWNER names (R410). -/
def tbOwner (s : State) (q : Requester) : Bool :=
  match s.get R.TB_CTRL_OWNER, q with
  | 0, .control => true
  | 1, .host => true
  | 2, .app => true
  | _, _ => false

/-- A write of another requester is ignored (R410). -/
def notOwner (s : State) : State := (s.set R.TB_STATUS_RESULT 2).bump R.TB_CNT_NOT_OWNER

/-- A correction is refused (R408, R409). -/
def refuseCorrection (s : State) (result : Nat) : State := (s.set R.TB_STATUS_RESULT result).bump R.TB_CNT_REFUSED

/-! ## Pulse outputs -/

/-- The settings are ones that R416 enables. -/
def tsoLegal (s : State) (n : Nat) : Bool :=
  decide (8 ≤ s.get (R.TSO_WIDTH_WIDTH n)) &&
    (!s.bit (R.TSO_CTRL_MODE n) || (decide (16 ≤ s.get (R.TSO_PER_PER n)) &&
      decide (s.get (R.TSO_WIDTH_WIDTH n) < s.get (R.TSO_PER_PER n))))

/-- Keep TSO_CTRL.EN and its ACTIVE view. -/
def armTso (s : State) (n : Nat) (b : Bool) : State := (s.setBit (R.TSO_CTRL_EN n) b).setBit (R.TSO_STAT_ACTIVE n) b

/-- The next target of an output. -/
def tsoNext (s : State) (n : Nat) : Nat :=
  ((s.tso n).target + (if s.bit (R.TSO_CTRL_MODE n) then (s.tso n).k * s.get (R.TSO_PER_PER n) else 0)) % 2 ^ 64

/-- A pulse is still to come: periodic mode, or once mode before its pulse. -/
def tsoAwaits (s : State) (n : Nat) : Bool := s.bit (R.TSO_CTRL_MODE n) || decide ((s.tso n).k = 0)

/-- Targets that have passed by more than 2 clk_ts give no pulse (R417): once mode sets LATE and clears EN; periodic mode
moves to the first target ahead and counts the targets passed. -/
def tsoPassed (s : State) (n : Nat) : State :=
  let d := timeDiff s.tbNs (tsoNext s n)
  if !s.bit (R.TSO_CTRL_EN n) || !tsoAwaits s n || decide (d ≤ 4) then s
  else if s.bit (R.TSO_CTRL_MODE n) then
    let m := d.toNat / s.get (R.TSO_PER_PER n) + 1
    (s.setTso n { s.tso n with k := (s.tso n).k + m }).bumpBy (R.TSO_STAT_SKIP n) m
  else armTso (s.setBit (R.TSO_STAT_LATE n) true) n false

/-- Add a phase step to TB_NS in one edge (R409): it is counted and posted, a bridged code may end, and targets that it
passed give no pulse. -/
def applyStep (s : State) (x : Int) : State :=
  let s := s.putTb { s.tb with ns := BitVec.ofNat 64 (toField 64 ((s.tbNs : Int) + x)) }
  let s := (s.bumpWrap R.TB_STATUS_STEPS).set R.TB_STATUS_RESULT 0
  let s := postEvent 0x0D01 [(0, 8, toField 64 x), (8, 1, natBits (s.get R.TB_STATUS_STEPS) 0 4)] s
  foldState tsoPassed (leaveBridged s) [0, 1, 2, 3]

/-- The pending step applies at the boundary (R409). -/
def applyPendingStep (s : State) : State :=
  match s.tb.pendingStep with
  | none => s
  | some x => applyStep ((s.putTb { s.tb with pendingStep := none }).setBit R.TB_STATUS_PENDING false) x

/-! ## Stops and restarts -/

/-- clk_ts stops: the always-on domain keeps the bridge (R421). -/
def stopTimebase (s : State) : State :=
  if s.tb.running then s.putTb { s.tb with running := false, bridge := some (s.tbNs, s.get R.TIME_ERR_ERR) } else s

/-- The bound at a restart (R423): what the two oscillators add over their parts of the advance, rounded up. -/
def bridgeBound (s : State) (bound nLf nRc : Nat) : Nat :=
  if bound = 0xFFFFFFFF then bound
  else
    let num := nLf * s.get R.LF_RATIO_RATIO * s.get R.BRIDGE_CFG_XTAL_ERR +
      10 * nRc * s.get R.RC_RATIO_RATIO * s.get R.BRIDGE_CFG_RC_ERR
    bound + (num + 2 ^ 16 * 10000000 - 1) / (2 ^ 16 * 10000000) + 12

/-- clk_ts restarts after `nLf` and `nRc` ticks (R407, R423). `lag` is the time from the last clk_aon tick to the stop: the
image was written at that tick. -/
def startTimebase (s : State) (nLf nRc lag : Nat) : State :=
  match s.tb.bridge with
  | none => setQuality (s.putTb { s.tb with running := true, ns := 0#64, frac := 0#32 }) 0 0xFFFFFFFF
  | some (image, bound) =>
    let adv := (nLf * s.get R.LF_RATIO_RATIO + nRc * s.get R.RC_RATIO_RATIO) / 2 ^ 16
    let ns := BitVec.ofNat 64 (image + 2 ^ 64 - lag % 2 ^ 64 + adv)
    let s := s.putTb { s.tb with running := true, ns := ns, frac := 0#32, bridge := none }
    let err := bridgeBound s bound nLf nRc
    setQuality (s.set R.BRIDGE_LAST_SECONDS (adv / secondNs)) (if nRc = 0 then 3 else 4) err

/-! ## General timers -/

/-- Timer n is the high half of a linked pair (R429). -/
def gtIsHigh (s : State) (n : Nat) : Bool := decide (n % 2 = 1) && s.bit (R.GT_CFG_LINK (n - 1))

/-- Timer n is the low half of a linked pair. -/
def gtLinked (s : State) (n : Nat) : Bool := decide (n % 2 = 0) && s.bit (R.GT_CFG_LINK n)

/-- The timer's AIC source: asserted while a cause is set with its enable bit; never for the high half of a pair
(R426, R429). -/
def gtIrq (s : State) (n : Nat) : State :=
  let on (a b : Fld) : Bool := s.bit a && s.bit b
  aicLevel s n (!gtIsHigh s n &&
    (on (R.GT_STAT_MATCH n) (R.GT_CMPCFG_MATCH_IE n) || on (R.GT_STAT_CAP n) (R.GT_CMPCFG_CAP_IE n) ||
      on (R.GT_STAT_WRAP n) (R.GT_CMPCFG_WRAP_IE n) || on (R.GT_STAT_CAP_OVR n) (R.GT_CMPCFG_OVR_IE n)))

/-- The width of the count: 64 bits for a linked pair. -/
def gtWidth (s : State) (n : Nat) : Nat := if gtLinked s n then 64 else 32

/-- A value that a pair of registers of timers n and n + 1 holds, or that of timer n alone. -/
def gtPair (s : State) (n : Nat) (f : Nat → Fld) : Nat :=
  s.get (f n) + (if gtLinked s n then s.get (f (n + 1)) * 2 ^ 32 else 0)

/-- Write such a value. -/
def setGtPair (s : State) (n : Nat) (f : Nat → Fld) (v : Nat) : State :=
  if gtLinked s n then (s.set (f n) (v % 2 ^ 32)).set (f (n + 1)) (v / 2 ^ 32) else s.set (f n) v

/-- The output level after an action (R426): the output register shows it inverted by OUT_POL. -/
def gtAct (s : State) (n : Nat) : State :=
  let pol := s.bit (R.GT_CMPCFG_OUT_POL n)
  let level := s.bit (R.GT_STAT_OUT n) != pol
  match s.get (R.GT_CMPCFG_ACT n) with
  | 0 => s
  | 1 => s.setBit (R.GT_STAT_OUT n) (true != pol)
  | 2 => s.setBit (R.GT_STAT_OUT n) (false != pol)
  | _ => s.setBit (R.GT_STAT_OUT n) (!level != pol)

/-- The count has come onto a value by a step: a match when it is the compare value in force (R426). -/
def gtMatched (s : State) (n : Nat) : State :=
  if s.bit (R.GT_CMPCFG_CMP_EN n) && decide (gtPair s n R.GT_CNT_COUNT = gtPair s n R.GT_CMP_VALUE) then
    let s := (s.set (R.GT_STAT_MATCH n) 1).bumpWrap (R.GT_ERR_MATCHES n)
    let s := if s.get (R.GT_CFG_MODE n) = 3 then gtAct s n else s
    gtIrq (s.setGt n { s.gt n with clearNext := s.bit (R.GT_CMPCFG_CLR n) }) n
  else s

/-- The count steps onto `v`, with a wrap. -/
def gtOnto (s : State) (n v : Nat) (wrap : Bool) : State :=
  let s := setGtPair (s.setGt n { s.gt n with clearNext := false }) n R.GT_CNT_COUNT v
  gtMatched (if wrap then gtIrq (s.set (R.GT_STAT_WRAP n) 1) n else s) n

/-- One step of a timer (R424, R426): to 0 after a match with CLR, otherwise by 1 with a wrap at the top. -/
def gtStep (s : State) (n : Nat) : State :=
  if (s.gt n).clearNext then gtOnto s n 0 false
  else
    let v := (gtPair s n R.GT_CNT_COUNT + 1) % 2 ^ gtWidth s n
    gtOnto s n v (decide (v = 0))

/-- The timer counts at this sample: enabled, no high half, and in gated mode the input at its level (R424). -/
def gtCounts (s : State) (n : Nat) : Bool :=
  s.bit (R.GT_CFG_EN n) && !gtIsHigh s n &&
    (decide (s.get (R.GT_CFG_MODE n) ≠ 1) || ((s.gt n).input != s.bit (R.GT_CFG_LEVEL n)))

/-- One clk_tmr period of a timer: a step every PSC + 1 periods (R424). -/
def gtPeriod (s : State) (n : Nat) : State :=
  if gtCounts s n then
    if s.get (R.GT_PSC_PSC n) ≤ (s.gt n).phase then gtStep (s.setGt n { s.gt n with phase := 0 }) n
    else s.setGt n { s.gt n with phase := (s.gt n).phase + 1 }
  else s

/-- An advance of `k` steps in LF mode (R431, R432): a match when count minus compare passes from negative to zero or above. -/
def gtAdvance (s : State) (n k : Nat) : State :=
  let w := gtWidth s n
  let c := gtPair s n R.GT_CNT_COUNT
  let v := gtPair s n R.GT_CMP_VALUE
  let before := signedOf w (c + 2 ^ w - v)
  let cleared := (s.gt n).clearNext && decide (0 < k)
  let dst := if cleared then k - 1 else c + k
  let s := setGtPair s n R.GT_CNT_COUNT (dst % 2 ^ w)
  let s := if cleared then s.setGt n { s.gt n with clearNext := false } else s
  let s := if 2 ^ w ≤ dst then s.set (R.GT_STAT_WRAP n) 1 else s
  let after := signedOf w (gtPair s n R.GT_CNT_COUNT + 2 ^ w - v)
  if s.bit (R.GT_CMPCFG_CMP_EN n) && decide (before < 0) && decide (0 ≤ after) then
    let s := (s.set (R.GT_STAT_MATCH n) 1).bumpWrap (R.GT_ERR_MATCHES n)
    let s := if s.get (R.GT_CFG_MODE n) = 3 then gtAct s n else s
    gtIrq (if !s.bit (R.GT_CMPCFG_CLR n) then s
           else if after = 0 then s.setGt n { s.gt n with clearNext := true }
           else setGtPair s n R.GT_CNT_COUNT ((after.toNat - 1) % (v + 1))) n
  else gtIrq s n

/-- Add `units` 1/128 clk_tmr periods to a timer's accumulator and make the prescaled steps that it completes (R431). -/
def gtCredit (s : State) (n units : Nat) : State :=
  if gtCounts s n then
    let acc := (s.gt n).lfAcc + units
    let periods := (s.gt n).phase + acc / 128
    let psc := s.get (R.GT_PSC_PSC n) + 1
    gtAdvance (s.setGt n { s.gt n with lfAcc := acc % 128, phase := periods % psc }) n (periods / psc)
  else s

/-- The 32 timers. -/
def allTimers : List Nat := List.range 32

/-- An LFCLK tick in LF mode: 3,051 + 97/128 clk_tmr periods (R431). -/
def gtLfTick (s : State) : State :=
  foldState (fun t n => if t.bit (R.GT_CFG_EN n) && t.bit (R.GT_STAT_LF n) then gtCredit t n (3051 * 128 + 97) else t) s allTimers

/-- The conditions of LF mode: a debugger halts the application core, Pale or Sepia (R431). -/
def lfMode (s : State) : Bool := s.app.debugHalt || s.pwr.pale || decide (s.boot.phase = .sepia)

/-- LF mode begins or ends: GT_STAT.LF of every enabled timer (R431). -/
def setLfMode (s : State) (b : Bool) : State :=
  foldState (fun t n => t.setBit (R.GT_STAT_LF n) (b && t.bit (R.GT_CFG_EN n))) s allTimers

/-- LF mode ends with its clock still running: the periods elapsed since the last tick are credited (R432). -/
def endLfMode (s : State) (periods : Nat) : State :=
  setLfMode (foldState (fun t n => if t.bit (R.GT_STAT_LF n) then gtCredit t n (periods * 128) else t) s allTimers) false

/-- The fields of a timer register that a write sets, by the register's place in the block of a timer (Table 15-5). -/
def gtWrite (s : State) (n r v : Nat) : State :=
  if r = 0x00 then
    let v := if n % 2 = 1 then natSetBits v 30 1 0 else v
    let s := s.setBit (R.GT_STAT_LF n) (lfMode s && natBit v 31)
    gtIrq ((s.setWord (R.GT_CFG n) (BitVec.ofNat 32 (v / 8 * 8))).setGt n { s.gt n with edges := 0 }) n
  else if r = 0x04 then s.set (R.GT_PSC_PSC n) v
  else if r = 0x08 then
    let level := s.bit (R.GT_STAT_OUT n) != s.bit (R.GT_CMPCFG_OUT_POL n)
    let s := s.setWord (R.GT_CMPCFG n) (BitVec.ofNat 32 (v &&& 0x8F00000F))
    gtIrq (s.setBit (R.GT_STAT_OUT n) (level != s.bit (R.GT_CMPCFG_OUT_POL n))) n
  else if r = 0x0C then
    if gtLinked s n then s.setGt n { s.gt n with stagedCnt := v }
    else if gtIsHigh s n then
      let s := (s.set (R.GT_CNT_COUNT n) v).set (R.GT_CNT_COUNT (n - 1)) (s.gt (n - 1)).stagedCnt
      s.setGt (n - 1) { s.gt (n - 1) with clearNext := false }
    else (s.set (R.GT_CNT_COUNT n) v).setGt n { s.gt n with clearNext := false }
  else if r = 0x10 then
    let s := s.setGt n { s.gt n with stagedCmp := v }
    if gtLinked s n then s
    else if gtIsHigh s n then (s.set (R.GT_CMP_VALUE n) v).set (R.GT_CMP_VALUE (n - 1)) (s.gt (n - 1)).stagedCmp
    else s.set (R.GT_CMP_VALUE n) v
  else if r = 0x18 then
    gtIrq (s.setWord (R.GT_STAT n) (s.word (R.GT_STAT n) &&& ~~~(BitVec.ofNat 32 (v % 16)))) n
  else s

/-- Timer writes come into force in their order. -/
def gtApply (s : State) (l : List (Nat × Nat × Nat)) : State := foldState (fun t w => gtWrite t w.1 w.2.1 w.2.2) s l

/-- Every timer write under way comes into force, in the order issued (R36, R427). -/
def timersApply (s : State) : State := gtApply (s.putTb { s.tb with gtWrites := [] }) s.tb.gtWrites

/-- A write enters clk_tmr (R427). -/
def gtPost (s : State) (n r v : Nat) : State := s.putTb { s.tb with gtWrites := s.tb.gtWrites ++ [(n, r, v)] }

/-- A capture of the count (R425, R429). -/
def gtTake (s : State) (n : Nat) : State :=
  let s := if s.bit (R.GT_STAT_CAP n) then (s.set (R.GT_STAT_CAP_OVR n) 1).bump (R.GT_ERR_OVR n) else s
  gtIrq ((setGtPair s n R.GT_CAP_VALUE (gtPair s n R.GT_CNT_COUNT)).set (R.GT_STAT_CAP n) 1) n

/-- The polarity of an edge is one that an EDGE field selects: 0 and 3 rising, 1 falling, 2 both (R415, R425). -/
def edgeSelected (sel : Nat) (rising : Bool) : Bool := if sel = 1 then !rising else if sel = 2 then true else rising

/-! ## The clock of the idle step -/

/-- LFCLK ticks up to an elapsed time. -/
def lfTicks (ns : Nat) : Nat := ns * 32768 / secondNs

/-- One clk_ts edge passes with nothing to do (log entry 6): the timebase counts, every fifth edge is one of clk_tmr, and in
LF mode the timers count at LFCLK ticks. -/
def clockEdge (s : State) : State :=
  let t := tbEdge (s.later 2)
  let t := if t.now % 10 = 0 then
      foldState (fun u n => if u.bit (R.GT_STAT_LF n) then u else gtPeriod u n) t allTimers
    else t
  if lfTicks s.now < lfTicks t.now then gtLfTick t else t

end Sys2Proof.Machine
end

