-- ==== Sys2Proof/Machine/HostOps.lean ====
section
/-!
DEFINITION. The host interface (chapter 13), shared operations: activity of rings and queues, messages, frames of the host
frame queues.
-/

namespace Sys2Proof.Machine

/-! ## Activity and messages -/

/-- Host frame queue q is active: enabled and Bus Master Enable set (Table 13-10). -/
def hqActive (s : State) (q : Nat) : Bool := s.bit (R.HQ_CTRL_EN q) && s.pcie.bme

/-- The ACTIVE views of every ring and queue. -/
def viewActive (s : State) : State :=
  let s := foldState (fun t r => t.setBit (R.EVR_STAT_ACTIVE r) (ringActive t r)) s (List.range 16)
  foldState (fun t q => t.setBit (R.HQ_STAT_ACTIVE q) (hqActive t q)) s (List.range 8)

/-- What an unlisted word of the MSI-X table reads as: a vector control word has its mask bit set after a reset (PCI Express). -/
def msixCell (k : Nat) : BitVec 32 := if k % 4 = 3 then 1#32 else 0#32

/-- A word of the MSI-X table. -/
def msixWord (s : State) (k : Nat) : BitVec 32 := cellsRead msixCell s.pcie.msix k

/-- A vector is masked. -/
def vectorMasked (s : State) (v : Nat) : Bool := natBit (msixWord s (4 * v + 3)).toNat 0

/-- The message of a vector. -/
def msixOut (s : State) (v : Nat) : Output :=
  .msix v ((msixWord s (4 * v)).toNat + (msixWord s (4 * v + 1)).toNat * 2 ^ 32) (msixWord s (4 * v + 2)).toNat

/-- Send a message on a vector, or set its PBA bit while it is masked (R376). -/
def sendMsix (s : State) (v : Nat) : State :=
  if vectorMasked s v then s.putPcie { s.pcie with pba := s.pcie.pba ||| (1#64 <<< v) } else s.emit (msixOut s v)

/-- A vector is unmasked: its pending message is sent (R376). -/
def flushVector (s : State) (v : Nat) : State :=
  if s.pcie.pba.getLsbD v && !vectorMasked s v then
    (s.putPcie { s.pcie with pba := s.pcie.pba &&& ~~~(1#64 <<< v) }).emit (msixOut s v)
  else s

/-! ## Host frame queues -/

/-- The host address of a pair of registers. -/
def hostAddr (s : State) (lo hi : Fld) : Nat := s.get hi * 2 ^ 32 + s.get lo

/-- The host address of the descriptor at HQ_HEAD (R381). -/
def descAddr (s : State) (q : Nat) : Nat :=
  hostAddr s (R.HQ_BASE_LO_ADDR q) (R.HQ_BASE_HI_ADDR q) +
    s.get (R.HQ_HEAD_INDEX q) % 2 ^ s.get (R.HQ_CTRL_LOG2SZ q) * 32

/-- A descriptor is complete: HQ_HEAD advances, and its write-back follows (R381). -/
def advanceHead (s : State) (q : Nat) : State :=
  let s := (s.bumpWrap (R.HQ_HEAD_INDEX q)).bump (R.HQ_CNT_FRAMES q)
  s.emit (.hostWrite (hostAddr s (R.HQ_WB_LO_ADDR q) (R.HQ_WB_HI_ADDR q)) (toLE 4 (s.get (R.HQ_HEAD_INDEX q))))

/-- A management frame of a class is dropped for want of a buffer or an active queue (R383). -/
def dropHostFrame (s : State) (q : Nat) : State :=
  postEvent 0x0B02 [(0, 1, q)] (s.bump (R.HQ_CNT_DROP q))

/-- Deliver a received management frame to the HRQ of its class (R383); `written` is whether its buffer took it. -/
def deliverHost (s : State) (n : Nat) (f : RxFrame) (cls : Nat) (data : List Byte) (written : Bool) : State :=
  let q := 4 + natBits (s.get R.HQ_RXMAP_MAP) (2 * cls) 2
  if !hqActive s q || decide (s.get (R.HQ_HEAD_INDEX q) = s.get (R.HQ_TAIL_INDEX q)) then dropHostFrame s q
  else
    let at_ := descAddr s q
    let fields := toLE 2 data.length ++ toLE 1 cls ++ toLE 1 f.path ++ toLE 4 n ++ toLE 8 f.time ++
      toLE 1 (if written then 1 else 7) ++ toLE 1 f.mode ++ toLE 2 (toField 16 f.rssi) ++ toLE 1 f.lqi ++ [0#8, 0#8, 0#8]
    let s := (s.emit (.hostBuffer at_ data)).emit (.hostWrite (at_ + 8) fields)
    advanceHead s q

/-- The largest PSDU of a mode without the limit of BR_CFG (R398, R606). -/
def modePsdu (mode : Nat) : Nat := if modeFamily mode = 2 then 127 else 2047

/-- The status of a result of queueing a frame for a node (Table 13-6). -/
def downStatus (r : DownResult) : Nat :=
  match r with
  | .queued _ => 1
  | .noRoute => 4
  | .orphan => 10
  | .exhausted => 3
  | .full => 5
  | .poison => 4

/-- The same for a group. -/
def groupStatus (r : DownResult) : Nat :=
  match r with
  | .queued _ => 1
  | .noRoute => 6
  | .orphan => 11
  | .exhausted => 11
  | .full => 5
  | .poison => 5

/-- Octets of a group frame beside its payload: the 20 of Table 8-1 with the device's EUI-64 for no source address. -/
def groupOverhead : Nat := 28

/-- Queue a management frame for a node (R380, R382): the class is policed as it enters the packet core (R337). -/
def hostUnicast (s : State) (n cls : Nat) (data : List Byte) : State × Nat :=
  let pl := [0x40#8, 0xC5#8, BitVec.ofNat 8 cls] ++ data
  let (s, cls) := if cls = 0 then policeCrimson s pl.length else (s, cls)
  if !nodeValid s n then (s, 3)
  else
    match routeWalk s n with
    | .ok hops =>
      if modePsdu (lineGet (s.line (hops.headD n)) N.MODE) < 20 + pl.length then (s, 8)
      else
        let r := sendDown s n (fun h => .data h pl) purposeDown cls (fun _ => 20 + pl.length) none
        (r.1, downStatus r.2)
    | _ =>
      let r := sendDown s n (fun h => .data h pl) purposeDown cls (fun _ => 20 + pl.length) none
      (r.1, downStatus r.2)

/-- Queue a management frame for a group. -/
def hostGroup (s : State) (g cls : Nat) (data : List Byte) : State × Nat :=
  let pl := [0x40#8, 0xC5#8, BitVec.ofNat 8 cls] ++ data
  let (s, cls) := if cls = 0 then policeCrimson s pl.length else (s, cls)
  if !s.bit (R.MCAST_CFG_EN g) then (s, 6)
  else if modePsdu (s.get (R.MCAST_SLOT_MODE g)) < groupOverhead + pl.length then (s, 8)
  else
    let r := sendGroup s g cls (groupOverhead + pl.length) pl
    (r.1, groupStatus r.2)

/-- A descriptor is malformed (Table 13-6, status 2). -/
def descMalformed (d : List Byte) : Bool :=
  let len := leField d 8 2
  decide (len = 0) || decide (1984 < len) || decide (8 ≤ leField d 10 1) || decide (4 ≤ leField d 11 1) ||
    (natBit (leField d 11 1) 0 && decide (255 < leField d 12 4)) || decide (leField d 25 7 ≠ 0)

/-- Handle a transmit descriptor (R382): its frame is queued, or a status says why not. -/
def handleDescriptor (s : State) (d data : List Byte) (readOk : Bool) : State × Nat :=
  if descMalformed d then (s, 2)
  else if !readOk then (s, 7)
  else if !s.bit R.PAIR_STATUS_CLAIM_OUT then (s, 9)
  else
    let cls := natBits (leField d 10 1) 0 3
    let body := data.take (leField d 8 2)
    if natBit (leField d 11 1) 0 then hostGroup s (leField d 12 4) cls body
    else hostUnicast s (leField d 12 4) cls body

end Sys2Proof.Machine
end

