-- ==== Sys2Proof/Machine/EthOps.lean ====
section
/-!
DEFINITION. The Ethernet ports and the border function (chapter 14), shared operations: egress queues with their credit
buckets (R336), preemption (R391), addresses (R393 to R396), source routes (R400), fragmentation and reassembly
(R398, R399).
-/

namespace Sys2Proof.Machine

/-! ## Egress -/

/-- An Ethernet port with no activity. -/
def EthPortState.idle : EthPortState := { attempts := 0, verifying := false, sending := none, startedAt := 0, preempted := none, cut := false }

/-- The state of port e. -/
def ethPort (s : State) (e : Nat) : EthPortState := (assocGet s.eth.ports e).getD EthPortState.idle

/-- Replace the state of port e. -/
def setEthPort (s : State) (e : Nat) (x : EthPortState) : State := s.putEth { s.eth with ports := assocSet s.eth.ports e x }

/-- The handles that wait in the egress queue of a port and class. -/
def egressOf (s : State) (e c : Nat) : List Nat := (assocGet s.sched.egress (8 * e + c)).getD []

/-- Replace an egress queue. -/
def putEgress (s : State) (e c : Nat) (l : List Nat) : State :=
  s.putSched { s.sched with egress := assocSet s.sched.egress (8 * e + c) l }

/-- The eight classes. -/
def classes : List Nat := [0, 1, 2, 3, 4, 5, 6, 7]

/-- Length of an egress frame on the wire, with its FCS. -/
def egressLen (s : State) (h : Nat) : Option Nat := (assocGet s.eth.frames h).map fun f => f.data.length + 4

/-- Rate of a port in kb/s (Table 14-1). -/
def portRate (s : State) (e : Nat) : Nat :=
  if s.get (R.ETH_STATUS_SPEED e) = 0 then 1000000 else if s.get (R.ETH_STATUS_SPEED e) = 1 then 10000000 else 25000000

/-- The class of the frame in transmission. -/
def sendingClass (s : State) (e : Nat) : Option Nat :=
  (ethPort s e).sending.bind fun h => (assocGet s.eth.frames h).map fun f => f.cls

/-- One byte of credit. -/
def creditUnit : Int := 8000000

/-- A class's bucket up to now (R336): it falls while its frames are sent, rises while frames wait, and otherwise returns
to 0. -/
def accrueClass (s : State) (e c : Nat) : State :=
  let k := 8 * e + c
  if !s.bit (R.SHP_CFG_EN e c) then s
  else
    let old := (assocGet s.eth.credits k).getD 0
    let dt : Int := s.now - (assocGet s.eth.creditAt k).getD s.now
    let idle : Int := s.get (R.SHP_RATE_IDLE e c)
    let hi : Int := s.get (R.SHP_CRED_HI e c)
    let new :=
      if sendingClass s e = some c then max (s.getI (R.SHP_CRED_LO e c) * creditUnit) (old + (idle - portRate s e) * dt)
      else if egressOf s e c ≠ [] then min (hi * creditUnit) (old + idle * dt)
      else if old < 0 then min 0 (old + idle * dt) else 0
    let s := s.putEth { s.eth with credits := assocSet s.eth.credits k new, creditAt := assocSet s.eth.creditAt k s.now }
    s.setI (R.SHP_STAT_CREDIT e c) (new / creditUnit)

/-- Every bucket of a port up to now. -/
def accrue (s : State) (e : Nat) : State := foldState (fun t c => accrueClass t e c) s classes

/-- A class may send: its bucket is not negative, or it has none (R335, R336). -/
def eligible (s : State) (e c : Nat) : Bool :=
  !s.bit (R.SHP_CFG_EN e c) || decide (0 ≤ (assocGet s.eth.credits (8 * e + c)).getD 0)

/-- A class is express at a port (R391, R392): every class is while preemption is not active. -/
def express (s : State) (e c : Nat) : Bool :=
  !s.bit (R.ETH_STATUS_PREEMPT_ACT e) || natBit (s.get (R.ETH_CTRL_EXPRESS e)) c

/-- A frame's first bit leaves: its uplink delay is measured (R347, R349). -/
def firstBit (s : State) (e h : Nat) : State :=
  match assocGet s.eth.frames h with
  | none => s
  | some f =>
    let x := ethPort s e
    let s := setEthPort (s.emit (.eth e f.cls f.data)) e
      { x with sending := some h, startedAt := s.now, cut := x.cut && x.preempted.isSome }
    match f.stampReady with
    | none => s
    | some r =>
      let s := sampleDelay s f.cls f.cls (s.now - r)
      if f.cls = 0 then crimsonCheck s 1 (s.now - r) 0xFFFFFFFF else s

/-- The next frame of a port is chosen and starts (Table 11-1). One with poison is dropped where it is read (Table 18-2), and
the choice goes on; `fuel` bounds such frames in one choice. -/
def chooseEgress : Nat → Nat → State → State
  | 0, _, s => s
  | fuel + 1, e, s =>
    let r := nextClass s (2 ^ 21 + e) (fun c => (egressOf s e c).head?.bind (egressLen s)) (eligible s e)
      fun c => decide ((egressOf s e c).length ≤ 1)
    match r.2 with
    | none => r.1
    | some c =>
      match egressOf r.1 e c with
      | [] => r.1
      | h :: rest =>
        let s := putEgress r.1 e c rest
        if (match assocGet s.eth.frames h with | none => false | some f => f.poisoned) then
          chooseEgress fuel e (consumePoison (s.putEth { s.eth with frames := assocDel s.eth.frames h }) 0 0xFFFFFFFF)
        else firstBit s e h

/-- An express frame that waits interrupts a preemptable one at its next permitted boundary (R391); the
first interruption of a frame counts it in PREEMPTED (Table 14-6). -/
def tryPreempt (s : State) (e : Nat) : State :=
  let x := ethPort s e
  match x.sending, sendingClass s e with
  | some h, some c =>
    if express s e c || x.preempted.isSome then s
    else
      match classes.find? fun k => express s e k && (egressOf s e k ≠ []) && eligible s e k with
      | none => s
      | some k =>
        match egressOf s e k with
        | [] => s
        | g :: rest =>
          let s := setEthPort (if x.cut then s else s.bump (R.ETH_CNT2_PREEMPTED e)) e { x with preempted := some h, cut := true }
          firstBit (putEgress s e k rest) e g
  | _, _ => s

/-- An idle port starts its next frame: the rest of an interrupted one first (R331). -/
def startEgress (s : State) (e : Nat) : State :=
  let s := accrue s e
  let x := ethPort s e
  if !s.bit (R.ETH_STATUS_LINK e) || !gateOpen s then s
  else if x.sending.isSome then tryPreempt s e
  else
    match x.preempted with
    | some h => tryPreempt (setEthPort s e { x with sending := some h, preempted := none, startedAt := s.now }) e
    | none => chooseEgress 1024 e s

/-- Queue a frame for a port and class; an idle port starts it. -/
def egress (s : State) (e : Nat) (f : EgressFrame) : State :=
  let s := accrue s e
  let h := s.eth.nextFrame
  let s := s.putEth { s.eth with frames := assocSet s.eth.frames h f, nextFrame := h + 1 }
  startEgress (putEgress s e f.cls (egressOf s e f.cls ++ [h])) e

/-- The frames of a port that goes down: all that wait and the one in transmission (R390). -/
def dropPort (s : State) (e : Nat) : State :=
  let x := ethPort s e
  let waiting := (classes.map (egressOf s e)).flatten
  let gone := x.sending.toList ++ x.preempted.toList ++ waiting
  let s := foldState (fun t c => if egressOf t e c = [] then t else putEgress t e c []) (accrue s e) classes
  let s := s.putEth { s.eth with frames := s.eth.frames.filter fun f => !gone.contains f.1 }
  (setEthPort s e { EthPortState.idle with startedAt := x.startedAt }).bumpBy (R.ETH_CNT1_EGR_DROP e) gone.length

/-- A port goes down with a cause of ETH_LINK_DOWN (R390). -/
def portDown (s : State) (e cause : Nat) : State :=
  let s := dropPort s e
  postEvent 0x0C02 [(0, 1, e), (1, 1, cause)] ((s.set (R.ETH_STATUS_LINK e) 0).set (R.ETH_STATUS_PREEMPT_ACT e) 0)

/-- The port that PORTSEL gives a class: the port and whether it is up (R389, R390). -/
def portFor (s : State) (c : Nat) : Nat × Bool :=
  let up (e : Nat) : Bool := ethPresent s.part e && s.bit (R.ETH_STATUS_LINK e)
  let pair (a b : Nat) : Nat × Bool := if up a then (a, true) else if up b then (b, true) else (a, false)
  match s.get R.BR_CFG_PORTSEL with
  | 0 => (0, up 0)
  | 1 => (1, up 1)
  | 2 => pair 0 1
  | _ => if c ≤ 2 then pair 0 1 else pair 1 0

/-- Class of a PCP value, and PCP of a class. -/
def classOfPcp (s : State) (p : Nat) : Nat := natBits (s.get R.BR_PCP2TC_MAP) (3 * p) 3
def pcpOfClass (s : State) (c : Nat) : Nat := natBits (s.get R.BR_TC2PCP_MAP) (3 * c) 3

/-- An uplink packet leaves on Ethernet (R389): frames below the minimum of Table 14-1 are padded with zeros. -/
def sendEthernet (s : State) (cls : Nat) (packet : List Byte) (decoded : Nat) : State :=
  let (e, up) := portFor s cls
  if !up then s.bump (R.ETH_CNT1_EGR_DROP e)
  else
    let gw := toBE 2 (s.get (R.ETH_GW_HI_MAC e)) ++ toBE 4 (s.get (R.ETH_GW_LO_MAC e))
    let mac := toBE 2 (s.get (R.ETH_MAC_HI_MAC e)) ++ toBE 4 (s.get (R.ETH_MAC_LO_MAC e))
    let tci := pcpOfClass s cls * 2 ^ 13 + s.get (R.ETH_CTRL_VLAN_ID e)
    let data := gw ++ mac ++ [0x81#8, 0x00#8] ++ toBE 2 tci ++ [0x86#8, 0xDD#8] ++ packet
    let data := data ++ List.replicate (60 - data.length) 0#8
    egress s e { cls := cls, data := data, stampWanted := false, poisoned := false, stampReady := some decoded }

/-- A frame and its timestamp go to the control cores in lane 0 (R388): the frame's bytes, then the stamp in 0.1 ns. -/
def toControlCores (s : State) (data : List Byte) (stamp : Nat) : State :=
  let bytes := data ++ toLE 12 stamp
  pushItem s 20 0 { words := wordsFor bytes.length, poison := [], tag := 0, data := bytes }

/-- Correction of Table 14-3 in 0.1 ns. -/
def rxCorrection (speed : Nat) : Nat := if speed = 2 then 582 else if speed = 1 then 1126 else 3560
def txCorrection (speed : Nat) : Nat := if speed = 2 then 410 else if speed = 1 then 832 else 2400

/-! ## Mesh addresses -/

/-- The prefix: bits 127:68 of an address (R393). -/
def meshPrefix (s : State) : Nat := s.get R.BR_PFX_HI_PFX * 2 ^ 28 + s.get R.BR_PFX_LO_PFX

/-- Interface identifier of a short form: 0000:00FF:FE00:XXXX. -/
def shortIid (x : Nat) : Nat := 0x000000FFFE000000 + x % 65536

/-- The interface identifier of an EUI-64 held as the number of its little-endian bytes: bit 1 of its first octet inverted. -/
def euiIid (eui : Nat) : Nat := beBytes (toLE 8 eui) ^^^ 0x0200000000000000

/-- An address of the mesh: context c and interface identifier. -/
def meshAddr (s : State) (c iid : Nat) : Nat := (meshPrefix s * 16 + c) * 2 ^ 64 + iid

/-- The mesh address of node n, and that of the device (R393). -/
def nodeAddr (s : State) (n : Nat) : Nat := meshAddr s (n / 65536) (shortIid n)
def deviceAddr (s : State) : Nat := meshAddr s 0 (s.get R.BR_IID_HI_IID * 2 ^ 32 + s.get R.BR_IID_LO_IID)

/-- An address lies in the mesh prefix. -/
def inMesh (s : State) (d : Nat) : Bool := decide (d / 2 ^ 68 = meshPrefix s)

/-- The group that an address names (R396). -/
def groupOf (s : State) (d : Nat) : Option Nat :=
  if d / 2 ^ 96 = 0xFF350040 ∧ d / 2 ^ 32 % 2 ^ 64 = meshPrefix s * 16 ∧ d % 2 ^ 32 / 256 = 0 then some (d % 256) else none

/-- The node of a mesh destination (R394): the state after an EHT lookup, and the node. -/
def nodeOfAddr (s : State) (d : Nat) : State × Option Nat :=
  let c := d / 2 ^ 64 % 16
  let iid := d % 2 ^ 64
  let good (t : State) (n : Nat) : Option Nat := if nodeValid t n then some n else none
  if iid / 65536 = 0xFFFE00 then (s, good s (c * 65536 + iid % 65536))
  else
    let eui := leBytes (toBE 8 (iid ^^^ 0x0200000000000000))
    let r := ehtLookup s eui
    (r.1, r.2.bind fun n => if n / 65536 = c then good r.1 n else none)

/-! ## IPv6 packets -/

/-- Fields of an IPv6 packet: its traffic class, next header, source, destination. -/
def ipTraffic (p : List Byte) : Nat := beField p 0 2 / 16 % 256
def ipNext (p : List Byte) : Nat := beField p 6 1
def ipSource (p : List Byte) : Nat := beField p 8 16
def ipDest (p : List Byte) : Nat := beField p 24 16

/-- The packet without what follows its payload length. -/
def ipTrim (p : List Byte) : List Byte := p.take (40 + beField p 4 2)

/-- Leading octets that two addresses share, at most 15. -/
def sharedOctets (a b : Nat) : Nat :=
  ((List.range 15).filter fun k => decide (a / 2 ^ (8 * (15 - k)) = b / 2 ^ (8 * (15 - k)))).length

/-- The RFC 6554 Routing Header of R400 for the hops after the first, with the outer destination `outer`. -/
def routingHeader (s : State) (outer : Nat) (rest : List Nat) : List Byte :=
  let addrs := rest.map (nodeAddr s)
  let last := addrs.getLastD 0
  let inner := addrs.dropLast
  let cmprI := inner.foldl (fun m a => min m (sharedOctets outer a)) 15
  let cmprE := sharedOctets outer last
  let body := (inner.map fun a => (toBE 16 a).drop cmprI).flatten ++ (toBE 16 last).drop cmprE
  let pad := (8 - (8 + body.length) % 8) % 8
  [41#8, BitVec.ofNat 8 ((body.length + pad) / 8), 3#8, BitVec.ofNat 8 rest.length,
    BitVec.ofNat 8 (cmprI * 16 + cmprE), BitVec.ofNat 8 (pad * 16), 0#8, 0#8] ++ body ++ List.replicate pad 0#8

/-- The packet that goes to hops[0]: encapsulated when the route has more than one hop (R400). -/
def encapsulate (s : State) (hops : List Nat) (p : List Byte) : List Byte :=
  match hops with
  | first :: second :: rest =>
    let rh := routingHeader s (nodeAddr s first) (second :: rest)
    [0x60#8, 0#8, 0#8, 0#8] ++ toBE 2 (rh.length + p.length) ++ [43#8, 64#8] ++ toBE 16 (deviceAddr s) ++
      toBE 16 (nodeAddr s first) ++ rh ++ p
  | _ => p

/-- Cut the rest of a datagram into fragments of at most `room` bytes in units of 8 (RFC 4944): `at_` is the offset of the
rest in the datagram, in octets. -/
def fragmentRest (size tag room : Nat) : Nat → Nat → List Byte → List (List Byte)
  | 0, _, _ => []
  | fuel + 1, at_, l =>
    if l = [] then []
    else
      let k := if l.length ≤ room then l.length else room / 8 * 8
      (toBE 2 (0xE000 + size) ++ toBE 2 tag ++ toLE 1 (at_ / 8) ++ l.take k) ::
        fragmentRest size tag room fuel (at_ + k) (l.drop k)

/-- The 6LoWPAN payloads of a datagram of `size` octets compressed to `c`, for frames that carry at most `room` octets: one,
or the fragments of R398. The first fragment ends at a multiple of 8 octets of the datagram. -/
def fragmentsOf (size tag room : Nat) (c : List Byte) : List (List Byte) :=
  if c.length ≤ room then [c]
  else
    let saved := size - c.length
    let cut := (saved + (room - 4)) / 8 * 8 - saved
    (toBE 2 (0xC000 + size) ++ toBE 2 tag ++ c.take cut) :: fragmentRest size tag (room - 5) 256 (saved + cut) (c.drop cut)

/-- The PSDU limit of a mode (R398). -/
def psduLimit (s : State) (mode : Nat) : Nat := if modeFamily mode = 2 then 127 else s.get R.BR_CFG_L2_MAX

/-- The datagram tag rises by 1 per fragmented datagram (R398). -/
def takeTag (s : State) (l : List (List Byte)) : State :=
  if l.length < 2 then s else s.putEth { s.eth with tag := (s.eth.tag + 1) % 65536 }

/-- A downlink datagram is too large for the frame buffer or its queue as a whole: it is dropped (R339). -/
def roomForAll (s : State) (a cls overhead : Nat) (l : List (List Byte)) : Bool :=
  let cells := l.foldl (fun n x => n + frameCells (overhead + x.length)) 0
  let left := freeCells s
  decide (cells ≤ left) && (decide (cls = 0) || decide (cells + s.get R.SCHED_CFG_DL_RES ≤ left)) &&
    decide ((downlinkOf s a).length + l.length ≤ 16383)

/-- Send a packet to a node as frames of a class (R318, R398, R400). `stamp` is when it came in, for TC0 (R347). -/
def sendPacket (s : State) (n cls : Nat) (p : List Byte) (stamp : Option Nat) : State :=
  if nodesClosed s || s.bit R.SEC_STATUS_ERROR then s
  else
    match routeWalk s n with
    | .fail r l => routeFailed s n r l
    | .poison l => routeFailed (consumeLine s l) n (if l = n then 1 else 2) l
    | .ok hops =>
      let a := hops.headD n
      let q := encapsulate s hops p
      let c := Config.lowpanCompress (meshPrefix s) a q
      let l := fragmentsOf q.length s.eth.tag (psduLimit s (lineGet (s.line a) N.MODE) - 20) c
      if !roomForAll s a cls 20 l then s.bump R.SCHED_CNT3_DL_FULL
      else
        foldState (fun t x => (enqueueDown t hops n (.data (hops.drop 1) x) purposeDown cls (20 + x.length) stamp).1) (takeTag s l) l

/-- Send a packet to a group (R320, R396). -/
def sendToGroup (s : State) (g cls : Nat) (p : List Byte) : State :=
  let c := Config.lowpanCompress (meshPrefix s) (2 ^ 20) p
  let l := fragmentsOf p.length s.eth.tag (psduLimit s (s.get (R.MCAST_SLOT_MODE g)) - groupOverhead) c
  foldState (fun t x => (sendGroup t g cls (groupOverhead + x.length) x).1) (takeTag s l) l

/-- A downlink packet whose destination lies in the mesh or is a group enters the packet core (R394, R396, R398): `len` is
the frame's length there, `stamp` the elapsed time at which its last bit came in. -/
def downlinkPacket (s : State) (cls : Nat) (p : List Byte) (len stamp : Nat) : State :=
  let (s, cls) := if cls = 0 then policeCrimson s len else (s, cls)
  if 1280 < p.length then toControlCores (s.bump R.BR_CNT2_TOO_BIG) p 0
  else
    let s := sampleDelay s (8 + cls) cls (s.now - stamp)
    match groupOf s (ipDest p) with
    | some g => if s.bit (R.MCAST_CFG_EN g) then sendToGroup s g cls p else s.bump R.BR_CNT0_DST_UNKNOWN
    | none =>
      let (s, n) := nodeOfAddr s (ipDest p)
      match n with
      | none => s.bump R.BR_CNT0_DST_UNKNOWN
      | some n => sendPacket s n cls p (some stamp)

/-! ## Uplink -/

/-- Keep BR_STATUS.RS_USED in step with the contexts. -/
def putContexts (s : State) (l : List Reassembly) : State :=
  (s.putEth { s.eth with contexts := l }).set R.BR_STATUS_RS_USED l.length

/-- A context matches a key. -/
def contextIs (node tag size : Nat) (x : Reassembly) : Bool :=
  decide (x.node = node) && decide (x.tag = tag) && decide (x.size = size)

/-- Remove a context. -/
def freeContext (s : State) (node tag size : Nat) : State :=
  putContexts s (s.eth.contexts.filter fun x => !contextIs node tag size x)

/-- Two byte ranges overlap. -/
def rangesMeet (a la b lb : Nat) : Bool := decide (a < b + lb) && decide (b < a + la)

/-- A fragment joins its context (R399): the state, and the whole datagram when it is complete. -/
def reassemble (s : State) (node tag size at_ : Nat) (data : List Byte) : State × Option (List Byte) :=
  let mine := s.eth.contexts.find? (contextIs node tag size)
  let frags := match mine with | none => [] | some x => x.fragments
  if decide (1280 < size) || decide (size < at_ + data.length) then ((freeContext s node tag size).bump R.BR_CNT2_RS_BAD, none)
  else if frags.any fun f => decide (f.1 = at_) && decide (f.2.length = data.length) then (s, none)
  else if frags.any fun f => rangesMeet f.1 f.2.length at_ data.length then ((freeContext s node tag size).bump R.BR_CNT2_RS_BAD, none)
  else if mine.isNone && decide (1024 ≤ s.eth.contexts.length) then (s.bump R.BR_CNT2_RS_FULL, none)
  else
    let all := frags ++ [(at_, data)]
    if all.foldl (fun n f => n + f.2.length) 0 = size then
      let whole := all.foldl (fun m f => setBytes m f.1 f.2) ([] : ByteMem)
      (freeContext s node tag size, some (bytesAt whole 0 size))
    else
      let x : Reassembly := match mine with
        | none => { node := node, tag := tag, size := size, fragments := all, started := s.now }
        | some y => { y with fragments := all }
      (putContexts s (s.eth.contexts.filter (fun y => !contextIs node tag size y) ++ [x]), none)

/-- Remove an outer IPv6-in-IPv6 header that is addressed to the device (R395). -/
def stripOuter (s : State) (p : List Byte) : List Byte :=
  if ipNext p = 41 ∧ ipDest p = deviceAddr s then p.drop 40 else p

/-- A list of IPv6 options holds only Pad1, PadN and the RPL option of RFC 6553. -/
def onlyRpl : Nat → List Byte → Bool
  | 0, _ => false
  | _ + 1, [] => true
  | fuel + 1, o :: rest =>
    if o = 0#8 then onlyRpl fuel rest
    else if [1, 0x63, 0x23].contains o.toNat then onlyRpl fuel (rest.drop (1 + beField rest 0 1)) else false

/-- Remove a Hop-by-Hop header that holds only the RPL option and padding (R395). -/
def stripHbh (p : List Byte) : List Byte :=
  let len := 8 * (beField p 41 1 + 1)
  if ipNext p = 0 ∧ onlyRpl 64 (sliceBytes p 42 (len - 2)) = true then
    p.take 4 ++ toBE 2 (beField p 4 2 - len) ++ sliceBytes p 40 1 ++ sliceBytes p 7 33 ++ p.drop (40 + len)
  else p

/-- The source of an uplink packet is one of the sending node's (R395). -/
def sourceOk (s : State) (n src : Nat) : Bool :=
  decide (src = nodeAddr s n) || decide (src = meshAddr s (n / 65536) (euiIid (lineGet (s.line n) N.EUI)))

/-- The policing of R338 and R337 of an uplink frame of `len` octets: the state and the class. -/
def policeUplink (s : State) (n cls len : Nat) : State × Nat :=
  if cls ≠ 0 then (s, cls)
  else
    let unit := s.get R.NODE_POL_UNIT
    let need := (len + unit - 1) / max 1 unit
    let have_ := lineGet (s.line n) N.CREDIT
    if s.bit R.NODE_POL_EN then
      if need ≤ have_ then policeCrimson (setLineField s n N.CREDIT (have_ - need)) len
      else (s.bump R.SCHED_CNT0_NODE_DEMOTE, 1)
    else policeCrimson s len

/-- An uplink datagram that is whole (R395, R397): checked, classed, policed, and sent on. -/
def uplinkPacket (s : State) (n len decoded : Nat) (p : List Byte) : State :=
  if !sourceOk s n (ipSource p) then s.bump R.BR_CNT1_SRC_SPOOF
  else
    let p := stripHbh (stripOuter s (stripHbh p))
    let (s, cls) := policeUplink s n (classOfPcp s (ipTraffic p / 32)) len
    let d := ipDest p
    if d = deviceAddr s ∧ ipNext p = 58 ∧ beField p 40 1 = 155 then toControlCores s p 0
    else if inMesh s d then
      let s := s.bump R.BR_CNT3_LOOPBACK
      if d = deviceAddr s then toControlCores s p 0 else downlinkPacket s cls p p.length s.now
    else sendEthernet s cls p decoded

/-- The 6LoWPAN payload of an accepted frame of node n (R397, R399); `len` is its PSDU length. -/
def uplinkPayload (s : State) (n len decoded : Nat) (l : List Byte) : State :=
  let kind := beField l 0 1 / 8
  let size := beField l 0 2 % 2048
  let tag := beField l 2 2
  let give (r : State × Option (List Byte)) : State :=
    match r.2 with
    | none => r.1
    | some p => uplinkPacket r.1 n len decoded p
  if kind = 0x18 then
    match Config.lowpanDecompress (meshPrefix s) n size (l.drop 4) with
    | none => s.bump R.BR_CNT1_DECOMP_ERR
    | some p => give (reassemble s n tag size 0 p)
  else if kind = 0x1C then give (reassemble s n tag size (8 * beField l 4 1) (l.drop 5))
  else
    match Config.lowpanDecompress (meshPrefix s) n 0 l with
    | none => s.bump R.BR_CNT1_DECOMP_ERR
    | some p => uplinkPacket s n len decoded p

/-- A management frame (R380): its class, and the data after its class octet. -/
def managementOf (l : List Byte) : Option (Nat × List Byte) :=
  if beField l 0 2 = 0x40C5 ∧ 3 ≤ l.length ∧ beField l 2 1 < 8 then some (beField l 2 1, l.drop 3) else none

end Sys2Proof.Machine
end

