-- ==== Sys2Proof/Machine/DriftOps.lean ====
section
/-!
DEFINITION. Sleepy nodes and learned drift (chapter 09), shared operations: guards (R291, R292), the predicted lag
(R289, R290), grants (R283), agreement frames (R281, R282, R294), the validity of a model (R288).
-/

namespace Sys2Proof.Machine

/-! ## Line fields of the drift model (Table 9-2) -/

abbrev N.RATE : LineFld := ⟨192, 24⟩
abbrev N.AGEING : LineFld := ⟨216, 16⟩
abbrev N.SYNC : LineFld := ⟨232, 24⟩
abbrev N.S : LineFld := ⟨496, 8⟩
abbrev N.SPLIT : LineFld := ⟨504, 1⟩
abbrev N.ERES : LineFld := ⟨505, 7⟩

/-- RATE of a line, signed, 2⁻¹⁰ ppm. -/
def lineRate (l : Line) : Int := signedOf 24 (lineGet l N.RATE)

/-- e_res of a line in 2⁻⁸ ppm: RAW_TOL when ERES names no valid model (R287). -/
def lineEres (s : State) (l : Line) : Nat :=
  if lineGet l N.ERES = 0x7F then s.get R.DRIFT_CFG_RAW_TOL * 256 else lineGet l N.ERES * 16

/-- The device holds the claim. -/
def claims (s : State) : Bool := s.bit R.PAIR_STATUS_CLAIM_OUT

/-! ## Air times of a node's mode -/

/-- The air time in ns of a frame of `len` octets under the node's mode and map (R605, R225). -/
def nodeAir (s : State) (n len : Nat) : Nat :=
  let v := lineGet (s.line n) N.MAP
  airNs (nodeMode s n) (s.get R.PSM_SLOT_PRE_LEN) len (if v = 0 then defaultCbps else mapBits v)

/-- T_TA of a node in ns (R252). -/
def nodeTurn (s : State) (n : Nat) : Nat := turnaroundUs (nodeMode s n) * 1000

/-- T_POLL in ns. -/
def tPollNs (s : State) : Nat := s.get R.PSM_TIMING_T_POLL * 1000

/-! ## Guards -/

/-- G_LIM of a node, µs (R292). -/
def gLim (s : State) (n : Nat) : Nat :=
  let poll : Int := s.get R.PSM_TIMING_T_POLL
  let slot : Int := slotLenNs s
  let room := slot - 200000 - tPollNs s - nodeAir s n 31 - 2 * nodeTurn s n - nodeAir s n 20 - nodeAir s n 24
  (min (min (s.get R.DRIFT_GUARD_G_MAX : Int) (2 * (poll - 100))) (min (realDiv 11 (2 * room) 1000) 4094)).toNat

/-- ⌈G_RATE × Δt ÷ 256⌉ in µs, Δt in ns (R291). -/
def guardGrowth (gRate dt : Nat) : Nat := (gRate * dt + 256 * 1000000000 - 1) / (256 * 1000000000)

/-- G(Δt) of an agreement (R291). -/
def guardOf (a : Agreement) (dt : Nat) : Nat := min a.gCap (a.gFix + guardGrowth a.gRate dt)

/-- Minutes since the node's last accepted frame, by the age stamp (R270). -/
def silentMinutes (s : State) (n : Nat) : Nat := (s.get R.FWD_STATUS_NODE_MIN + 65536 - lineGet (s.line n) N.AGE) % 65536

/-- Slots since SYNC, modulo 2^24. -/
def syncSlots (s : State) (n : Nat) : Nat := (s.asnNat + 2 ^ 24 - lineGet (s.line n) N.SYNC) % 2 ^ 24

/-- Nanoseconds since the node's last accepted frame (R270): from SYNC while the age stamp shows less than 60 min, from
the age stamp beyond that. -/
def silentNs (s : State) (n : Nat) : Nat :=
  if silentMinutes s n < 60 then syncSlots s n * slotLenNs s else silentMinutes s n * 60 * secondNs

/-- τ of R290 and Δt of R291 in ns, from SYNC; the age stamp says how often SYNC has gone round since (log entry 152). -/
def sinceSync (s : State) (n : Nat) : Nat :=
  let round := 2 ^ 24 * slotLenNs s
  let base := syncSlots s n * slotLenNs s
  base + (silentMinutes s n * 60 * secondNs + round / 2 - base) / max 1 round * round

/-! ## The fit (R286, R287) -/

/-- A rational in units of 2^-k (log entry 3). -/
def fixRat (tag : Nat) (q : Rat) (k : Nat) : Int := realDiv tag (q.num * 2 ^ k) q.den

/-- A number of units of 2^-k as a rational. -/
def unfix (v : Int) (k : Nat) : Rat := (v : Rat) / (2 ^ k : Nat)

/-- Ageing of 1 ppb/day in ppm/s (R286). -/
def ageUnit : Rat := 1 / 86400000

/-- s of an entry, µs (R286). -/
def FitEntry.s (f : FitEntry) : Nat := realRoot 70 f.sSquare.toNat (2 ^ 20)

/-- e_res of an entry's P in 2⁻⁸ ppm (R286). -/
def residualOf (s : State) (p00 : Int) : Nat := max (s.get R.DRIFT_RAMP_E_MIN) (realRoot 71 (36 * p00.toNat) (2 ^ 24))

/-- A fit at its seed (R287): f in 2⁻¹⁰ ppm, a in ppb/day, s in µs and e_res in 2⁻⁸ ppm; P is diag((e_res ÷ 6)², (0.2 ppb/day)²). -/
def freshFit (f a : Int) (s eRes timings : Nat) (split valid : Bool) : FitEntry :=
  { f := f * 2 ^ 20, a := fixRat 72 ((a : Rat) * ageUnit) 50, p00 := fixRat 73 (((eRes : Rat) / 1536) * ((eRes : Rat) / 1536)) 40, p01 := 0,
    p11 := fixRat 74 (ageUnit / 5 * (ageUnit / 5)) 80, sSquare := s * s * 2 ^ 20, eRes := eRes, timings := timings, sinceK := 0, diffs := [],
    carrier := none, split := split, valid := valid }

/-- The fit of a node that has no entry: seeded from its line (R287). -/
def seedFit (s : State) (n : Nat) : FitEntry :=
  let l := s.line n
  let known := lineGet l N.ERES ≠ 0x7F
  freshFit (lineRate l) (signedOf 16 (lineGet l N.AGEING)) (4 * lineGet l N.S) (lineEres s l) (if known then 2 else 0) (lineBit l N.SPLIT)
    (known && s.bit R.DRIFT_CFG_EN)

/-- The live fit of a node. -/
def fitOf (s : State) (n : Nat) : FitEntry := (s.drift.cache.find? fun e => e.1 = n).elim (seedFit s n) (fun e => e.2)

/-- f in 2⁻¹⁰ ppm and a in ppb/day, as agreements and lines hold them. -/
def FitEntry.rate (f : FitEntry) : Int := realDiv 75 f.f (2 ^ 20)
def FitEntry.ageing (f : FitEntry) : Int := fixRat 76 (unfix f.a 50 / ageUnit) 0

/-- Whether a node's drift model is valid (R288). -/
def modelValid (s : State) (n : Nat) : Bool := (fitOf s n).valid && s.bit R.DRIFT_CFG_EN

/-- The cache of a list. -/
def putCache (s : State) (l : List (Nat × FitEntry)) : State :=
  (s.putDrift { s.drift with cache := l }).set R.DRIFT_STATUS_CACHE_USED l.length

/-- A node's entry as the one most recently fitted, at most 65,536 entries (R287). -/
def putFit (s : State) (n : Nat) (f : FitEntry) : State := putCache s (((n, f) :: s.drift.cache.filter fun e => e.1 ≠ n).take 65536)

/-- Change a node's entry without a fit: it keeps its place, and a new one is the next to be evicted (R287). -/
def setFit (s : State) (n : Nat) (f : FitEntry) : State :=
  if s.drift.cache.any fun e => decide (e.1 = n) then putCache s (s.drift.cache.map fun e => if e.1 = n then (n, f) else e)
  else putCache s (s.drift.cache.take 65535 ++ [(n, f)])

/-- The live guard parameters G_FIX and G_RATE (R291). -/
def liveFix (s : State) (n : Nat) : Nat := s.get R.DRIFT_GUARD_G_MIN + 3 * (fitOf s n).s
def liveRate (s : State) (n : Nat) : Nat := if modelValid s n then (fitOf s n).eRes else s.get R.DRIFT_CFG_RAW_TOL * 256

/-- The live guard over a time, before the cap of G_LIM. -/
def liveGuard (s : State) (n dt : Nat) : Nat := liveFix s n + guardGrowth (liveRate s n) dt

/-- The agreement a node holds: the last one it acknowledged, or what its line states (R282, R284). -/
def heldOf (s : State) (n : Nat) : Agreement :=
  match assocGet s.drift.held n with
  | some a => a
  | none =>
    let l := s.line n
    { k := lineGet l N.K, slot := lineGet l N.OFFSET, gFix := s.get R.DRIFT_GUARD_G_MIN + 12 * lineGet l N.S,
      gRate := lineEres s l, gCap := gLim s n, rate := lineRate l, valid := lineGet l N.ERES ≠ 0x7F }

/-- The agreement sent whose frame is outstanding, and those whose frame was dropped (R281, R282). -/
def sentOf (s : State) (n : Nat) : Option Agreement := assocGet s.drift.outstanding n
def doubtful (s : State) (n : Nat) : List Agreement := (s.drift.dropped.filter fun x => decide (x.1 = n)).map fun x => x.2

/-- The agreements that a node may hold beside the one it acknowledged last. -/
def otherAgreements (s : State) (n : Nat) : List Agreement := doubtful s n ++ (sentOf s n).toList

/-- The guard of an exchange, µs (R282, R291): the largest under the agreements that the node may hold. -/
def exchangeGuard (s : State) (n : Nat) : Nat :=
  (otherAgreements s n).foldl (fun g a => max g (guardOf a (sinceSync s n))) (guardOf (heldOf s n) (sinceSync s n))

/-! ## Prediction -/

/-- The integral of the change of DRIFT_REF over the last `dt` ns, in ns (R289). -/
def refTerm (s : State) (dt : Nat) : Int :=
  let m := dt / (60 * secondNs)
  let h := s.drift.refHistory.take m
  match h.getLast? with
  | none => 0
  | some base => realDiv 12 ((h.foldl (fun (a : Int) r => a + (r - base)) 0) * 60) 100

/-- The lag in ns under a rate (R290): −(f − RATE) × τ − a × τ² ÷ 2, with the term of R289. -/
def lagUnder (s : State) (n : Nat) (rate : Int) (dt : Nat) : Int :=
  let f := fitOf s n
  let tau : Rat := (dt : Rat) / secondNs
  fixRat 13 (-1000 * ((unfix f.f 30 - unfix rate 10) * tau + unfix f.a 50 * tau * tau / 2)) 0 + refTerm s dt

/-- The predicted lag of a node's wake slot, ns (R282, R290): the midpoint of the times under the rates of the agreements that the node
may hold; 0 while the model is invalid. -/
def predictLag (s : State) (n : Nat) : Int :=
  if !modelValid s n then 0
  else
    let dt := sinceSync s n
    let d := lagUnder s n (heldOf s n).rate dt
    let l := (otherAgreements s n).map fun a => lagUnder s n a.rate dt
    realDiv 15 (l.foldl min d + l.foldl max d) 2

/-- PRECORR: RATE + a × τ, 2⁻¹⁰ ppm (R290). -/
def precorr (s : State) (n : Nat) : Int := lineRate (s.line n) + fixRat 16 (unfix (fitOf s n).a 50 * ((sinceSync s n : Rat) / secondNs)) 10

/-- PREC_V (R290). -/
def precValid (s : State) (n : Nat) : Bool :=
  modelValid s n && !lineBit (s.line n) N.SPLIT && decide (lineGet (s.line n) N.ERES ≤ 64)

/-! ## Wake slots and grants -/

/-- The wake period P_k in slots and in ns (R279). -/
def wakePeriod (s : State) (k : Nat) : Nat := 2 ^ k * sfLen s
def wakeNs (s : State) (k : Nat) : Nat := wakePeriod s k * slotLenNs s

/-- An agreement makes a slot a wake slot of a node (R279). -/
def wakesAt (s : State) (a : Agreement) (n asn : Nat) : Bool :=
  decide (asn % wakePeriod s a.k = n % 2 ^ a.k * sfLen s + a.slot)

/-- The target exponent of a node (R283). -/
def targetOf (s : State) (n : Nat) : Nat := (assocGet s.drift.targets n).getD (s.get R.DRIFT_RAMP_K_DEF)

/-- The agreement sent last, else the one held. -/
def latestAgreement (s : State) (n : Nat) : Agreement := ((otherAgreements s n).getLast?).getD (heldOf s n)

/-- The exponent granted. -/
def grantedK (s : State) (n : Nat) : Nat := (latestAgreement s n).k

/-- The largest exponent up to `top` whose live guard at P_k lies within G_LIM and whose period is at most 2^22 slots. -/
def fitK (s : State) (n : Nat) : Nat → Option Nat
  | 0 => if wakePeriod s 0 ≤ 2 ^ 22 ∧ liveGuard s n (wakeNs s 0) ≤ gLim s n then some 0 else none
  | k + 1 => if wakePeriod s (k + 1) ≤ 2 ^ 22 ∧ liveGuard s n (wakeNs s (k + 1)) ≤ gLim s n then some (k + 1) else fitK s n k

/-- The exponent that R283 grants now, and whether no exponent fits. -/
def grantK (s : State) (n : Nat) : Nat × Bool :=
  let t := targetOf s n
  let k := grantedK s n
  let lower := fun (top : Nat) => match fitK s n top with | some x => (x, false) | none => (0, true)
  if !modelValid s n then lower t
  else if gLim s n < liveGuard s n (wakeNs s k) ∨ t < k then lower (min k t)
  else if s.get R.DRIFT_RAMP_R_OBS ≤ (fitOf s n).sinceK ∧ k < t ∧ wakePeriod s (k + 1) ≤ 2 ^ 22 ∧
      4 * liveGuard s n (wakeNs s (k + 1)) ≤ 3 * gLim s n then (k + 1, false)
  else (k, false)

/-- The agreement with the values current now (R281, R291). -/
def currentAgreement (s : State) (n k : Nat) : Agreement :=
  let h := heldOf s n
  let v := modelValid s n
  { k := k, slot := h.slot, gFix := liveFix s n, gRate := liveRate s n, gCap := gLim s n,
    rate := if v then clampInt (-8388608) 8388607 (fitOf s n).rate else h.rate, valid := v }

/-! ## Agreement frames -/

/-- A node has an agreement frame outstanding (R281). -/
def frameOutstanding (s : State) (n : Nat) : Bool := (sentOf s n).isSome

/-- Build and queue an agreement frame with exponent k (R281, R283). -/
def sendAgreement (s : State) (n k : Nat) (clamped : Bool) : State :=
  let a := currentAgreement s n k
  let was := grantedK s n
  let (s, r) := sendDirect s n (.agreement a.k a.slot a.gFix a.gRate a.gCap a.rate) purposeDown 44
  match r with
  | .queued _ =>
    let s := if k = was then s else setFit s n { fitOf s n with sinceK := 0 }
    let s := s.putDrift { s.drift with outstanding := assocSet s.drift.outstanding n a, framed := assocSet s.drift.framed n s.asnNat }
    let s := if clamped then s.bump R.DRIFT_CNT3_GUARD_CLAMP else s
    if was < k then s.bump R.DRIFT_CNT1_K_UP else if k < was then s.bump R.DRIFT_CNT1_K_DOWN else s
  | _ => s

/-- The conditions of R294 other than a change of k, against the agreement that the node was given last. -/
def guardDue (s : State) (n : Nat) : Bool :=
  let h := latestAgreement s n
  let dt := wakeNs s h.k
  let live := min (gLim s n) (liveGuard s n dt)
  let held := guardOf h dt
  let since := match assocGet s.drift.framed n with | none => 2 ^ 40 | some a => (s.asnNat + 2 ^ 40 - a) % 2 ^ 40
  (modelValid s n != h.valid) ||
    (modelValid s n && decide ((held : Rat) / 4 ≤ ((unfix (fitOf s n).f 30 - unfix h.rate 10).num.natAbs : Rat) /
        (unfix (fitOf s n).f 30 - unfix h.rate 10).den * (dt : Rat) / secondNs)) ||
    decide (held < live) || (decide (4 * live < 3 * held) && decide (8 * wakePeriod s h.k ≤ since))

/-- Send an agreement frame when R294 asks for one; while one is outstanding the change waits (R281). -/
def considerAgreement (s : State) (n : Nat) : State :=
  if !claims s || !nodeValid s n || frameOutstanding s n then s
  else
    let g := grantK s n
    if decide (g.1 ≠ grantedK s n) || guardDue s n then sendAgreement s n g.1 g.2 else s

/-- ERES of an agreement: 1/16 ppm, 0x7F without a valid model (Table 9-2). -/
def eresField (a : Agreement) : Nat := if a.valid then (clampInt 0 0x7E (realDiv 17 a.gRate 16)).toNat else 0x7F

/-- The wake slots under which the epoch in force polls a node stay until the next switch (R344). -/
def noteChange (s : State) (n : Nat) (was : Option (Nat × Nat)) : State :=
  if (assocGet s.drift.changed n).isSome then s else s.putDrift { s.drift with changed := assocSet s.drift.changed n was }

/-- An agreement stands (R282, R284): the line takes it, and it enters the next schedule epoch (R344). -/
def adoptAgreement (s : State) (n : Nat) (a : Agreement) : State :=
  let l := s.line n
  let l := lineSet (lineSet l N.K a.k) N.OFFSET a.slot
  let l := lineSet (lineSet l N.RATE (toField 24 a.rate)) N.ERES (eresField a)
  let l := lineSet l N.S (clampInt 0 255 (realDiv 18 ((a.gFix : Int) - s.get R.DRIFT_GUARD_G_MIN) 12)).toNat
  let s := noteChange (writeLine s n l) n (some ((heldOf s n).k, (heldOf s n).slot))
  let s := s.putDrift { s.drift with held := assocSet s.drift.held n a, dropped := s.drift.dropped.filter (fun x => x.1 ≠ n) }
  s.putSched { s.sched with epochPending := true }

/-- No agreement frame of the node is outstanding any more: a change that waited is sent (R281). -/
def agreementFreed (s : State) (n : Nat) : State := considerAgreement s n

/-- The node acknowledged the agreement frame (R282). -/
def agreementAcked (s : State) (n : Nat) : State :=
  match sentOf s n with
  | none => s
  | some a => agreementFreed (adoptAgreement (s.putDrift { s.drift with outstanding := assocDel s.drift.outstanding n }) n a) n

/-- An exchange completes in a slot: where a dropped frame left agreements in doubt and the slot belongs to only one of them all, that
one stands (R282). -/
def agreementSettled (s : State) (n asn : Nat) : State :=
  if (doubtful s n).isEmpty then s
  else
    match (heldOf s n :: otherAgreements s n).filter fun a => wakesAt s a n asn with
    | [a] =>
      if a = heldOf s n then considerAgreement (s.putDrift { s.drift with dropped := s.drift.dropped.filter (fun x => x.1 ≠ n) }) n
      else if sentOf s n = some a then s
      else considerAgreement (adoptAgreement s n a) n
    | _ => s

/-- Forget a node's drift state: it rejoins, or its line is gone. -/
def forgetDrift (s : State) (n : Nat) : State :=
  let d := s.drift
  putCache (s.putDrift { d with targets := assocDel d.targets n, held := assocDel d.held n, outstanding := assocDel d.outstanding n,
                                changed := assocDel d.changed n, dropped := d.dropped.filter (fun x => x.1 ≠ n),
                                framed := assocDel d.framed n }) (d.cache.filter fun e => e.1 ≠ n)

/-- A model becomes invalid (R288). -/
def invalidate (s : State) (n : Nat) (f : FitEntry) : State :=
  let was := modelValid s n
  let s := setFit s n { f with valid := false }
  if was then considerAgreement (s.bump R.DRIFT_CNT3_INVALID) n else s

/-! ## Observations -/

/-- An observation reaches the fitter's input queue, or is dropped (R287). -/
def observe (s : State) (o : Observation) : State :=
  if !s.bit R.DRIFT_CFG_EN then s
  else if 65536 ≤ s.drift.inputs.length then postEvent 0x0701 [] (s.bump R.DRIFT_CNT0_FIT_DROP)
  else s.putDrift { s.drift with inputs := s.drift.inputs ++ [o] }

/-- λ of R286. -/
def forgetting (s : State) : Rat := 1 - 1 / (2 ^ s.get R.DRIFT_CFG_LAMBDA_SH : Nat)

/-- One recursive least-squares update (R286) with h = (1, h2), noise r and observation y: the gain weighs the innovation, and P loses
what the observation tells. -/
def rlsUpdate (s : State) (f : FitEntry) (h2 r y : Rat) : FitEntry :=
  let lam := forgetting s
  let p00 := unfix f.p00 40
  let p01 := unfix f.p01 60
  let p11 := unfix f.p11 80
  let ph0 := p00 + p01 * h2
  let ph1 := p01 + p11 * h2
  let den := lam * r + ph0 + h2 * ph1
  let v := y - (unfix f.f 30 + h2 * unfix f.a 50)
  { f with f := fixRat 77 (unfix f.f 30 + ph0 / den * v) 30, a := fixRat 78 (unfix f.a 50 + ph1 / den * v) 50,
           p00 := fixRat 79 ((p00 - ph0 / den * ph0) / lam) 40, p01 := fixRat 80 ((p01 - ph0 / den * ph1) / lam) 60,
           p11 := fixRat 81 ((p11 - ph1 / den * ph1) / lam) 80 }

/-- The state moves to the new sync, `tau` seconds on (R286). -/
def rlsMove (f : FitEntry) (tau : Rat) : FitEntry :=
  { f with f := fixRat 82 (unfix f.f 30 + unfix f.a 50 * tau) 30,
           p00 := fixRat 83 (unfix f.p00 40 + 2 * tau * unfix f.p01 60 + tau * tau * unfix f.p11 80) 40,
           p01 := fixRat 84 (unfix f.p01 60 + tau * unfix f.p11 80) 60 }

/-- The timing update of R286: τ, lag and e in ns, RATE in 2⁻¹⁰ ppm. -/
def fitTiming (s : State) (f : FitEntry) (tauNs : Nat) (lag e rate : Int) : FitEntry :=
  let tau : Rat := (tauNs : Rat) / secondNs
  let y : Rat := unfix rate 10 - ((lag + e : Int) : Rat) / 1000 / tau
  let g := rlsUpdate s f (tau / 2) ((unfix f.sSquare 20 + 4) / (tau * tau)) y
  let eps := (y - (unfix g.f 30 + tau / 2 * unfix g.a 50)) * tau
  let g := rlsMove { g with sSquare := fixRat 85 (7 / 8 * unfix g.sSquare 20 + 1 / 8 * (eps * eps)) 20 } tau
  let diff (c : Int) : Int := fixRat 19 (y - unfix c 10) 10
  { g with eRes := residualOf s g.p00, timings := f.timings + 1, sinceK := f.sinceK + 1,
           diffs := match f.carrier with | none => f.diffs | some c => (diff c :: f.diffs).take 8 }

/-- The floor of the 40th root of n, below 2^64. -/
def root40 (n : Nat) : Nat :=
  (List.range 64).foldl (fun r i => if (r + 2 ^ (63 - i)) ^ 40 ≤ n then r + 2 ^ (63 - i) else r) 0

/-- The noise of a carrier observation, 0.64 × 10^(−SNR ÷ 10) ppm² (R286), in 2⁻⁴⁰ ppm²; the SNR in 0.25 dB. Its 40th power is
(16 ÷ 25)^40 × 2^1600 × 10^−snr; a root that is not whole is its floor or one above (log entry 3). -/
def carrierNoise (snr : Int) : Nat :=
  let num := 16 ^ 40 * 2 ^ 1600 * 10 ^ (-snr).toNat
  let den := 25 ^ 40 * 10 ^ snr.toNat
  let r := root40 (num / den)
  if r ^ 40 * den = num then r else r + (Config.realResult 86 [snr] % 2).toNat

/-- The carrier update of R286, c in 2⁻¹⁰ ppm. -/
def fitCarrier (s : State) (f : FitEntry) (c snr : Int) : FitEntry :=
  let g := rlsUpdate s f 0 (unfix (carrierNoise snr) 40) (unfix c 10)
  { g with eRes := residualOf s g.p00, carrier := some c }

/-- The mean of the last 8 differences exceeds 1 ppm (R288). -/
def splitDue (f : FitEntry) : Bool := decide (f.diffs.length = 8) && decide (8 * 1024 < (f.diffs.foldl (fun a b => a + b) 0).natAbs)

/-- The fitter takes one observation (R285 to R288, R284 for the line). -/
def fitObservation (s : State) (o : Observation) : State :=
  if !nodeValid s o.node then s
  else
    let n := o.node
    let was := modelValid s n
    let f := fitOf s n
    let f := match o.timing with | some (tau, lag, e, rate) => if tau = 0 then f else fitTiming s f tau lag e rate | none => f
    let f := if 12 ≤ o.snr ∧ f.split = false then fitCarrier s f o.carrier o.snr else f
    let newSplit := !f.split && splitDue f
    let f := { f with split := f.split || newSplit }
    let ok := decide (2 ≤ f.timings) && (decide (f.eRes ≤ s.get R.DRIFT_CFG_E_VALID * 16) || (f.valid && decide (f.eRes ≤ 2016)))
    let s := (putFit s n { f with valid := ok }).bumpWrap R.DRIFT_CNT0_FITS
    let l := lineSet (s.line n) N.AGEING (toField 16 (clampInt (-32768) 32767 f.ageing))
    let l := if claims s then lineSet l N.SPLIT (boolNat f.split) else l
    let s := if l = s.line n then s else writeLine s n l
    let s := if newSplit then s.bump R.DRIFT_CNT3_SPLIT else s
    let s := if was && !ok then s.bump R.DRIFT_CNT3_INVALID else s
    considerAgreement s n

end Sys2Proof.Machine
end

