-- ==== Sys2Proof/Machine/IndigoOps.lean ====
section
/-!
DEFINITION. The map unit (chapter 07): maps and their check (R224, R225), targets (R227), issue and CLEAR (R228 to
R231), confirmation and retries (R231, R232), re-issue (R233, R234).
-/

namespace Sys2Proof.Machine

/-! ## Maps -/

/-- The code of data index d in a map (R224). -/
def mapCode (v d : Nat) : Nat := natBits v (3 * d) 3

/-- The map with the given codes. -/
def mapOf (codes : List Nat) : Nat := codes.foldr (fun c a => c % 8 + 8 * a) 0

/-- The default map: code 2 on all 40 data subcarriers (R225). -/
def defaultMap : Nat := mapOf (List.replicate 40 2)

/-- One bit of MAP_CHK (R224). -/
def mapChkBit (crc : Nat) (bit : Bool) : Nat :=
  let fb := bit != natBit crc 3
  (crc * 2 % 16) ^^^ (if fb then 3 else 0)

/-- MAP_CHK of a map: the CRC-4 over its 15 bytes (R224). -/
def mapChk (v : Nat) : Nat := (List.range 120).foldl (fun crc i => mapChkBit crc (natBit v i)) 15

/-- The map a node has, or none (R224). -/
def nodeMap (s : State) (n : Nat) : Nat := lineGet (s.line n) N.MAP

/-- The node's present map; without one the default map counts (R227). -/
def presentMap (s : State) (n : Nat) : Nat := if nodeMap s n = 0 then defaultMap else nodeMap s n

/-- The node's code rate and bandwidth code (NCS byte 55, Table 6-2). -/
def nodeCodeRate (s : State) (n : Nat) : Nat := natBits (nodeMode s n) 2 2
def nodeBandwidth (s : State) (n : Nat) : Nat := natBits (nodeMode s n) 4 2

/-- The node's mode is Indigo. -/
def isIndigo (s : State) (n : Nat) : Bool := decide (modeFamily (nodeMode s n) = 3)

/-! ## Targets -/

/-- T_c and O_rate, 0.5 dB (R227). -/
def mapThreshold (s : State) (c : Nat) : Nat :=
  if c = 6 then s.get R.IMAP_THR_T6 else if c = 4 then s.get R.IMAP_THR_T4 else if c = 2 then s.get R.IMAP_THR_T2
  else s.get R.IMAP_THR_T1
def rateOffset (s : State) (r : Nat) : Nat :=
  if r = 1 then s.get R.IMAP_ROFS_O23 else if r = 2 then s.get R.IMAP_ROFS_O34 else if r = 3 then s.get R.IMAP_ROFS_O56 else 0

/-- The target code for a sum of S_d over `frames` frames, in 0.5 dB (R227). -/
def targetCode (s : State) (rate present sum frames : Nat) : Nat :=
  ([6, 4, 2, 1].find? fun c =>
    decide ((mapThreshold s c + rateOffset s rate + (if present < c then s.get R.IMAP_CFG_HYST else 0)) * frames ≤ sum)).getD 0

/-- The target codes of a node for its 40 sums. -/
def targetCodes (s : State) (n : Nat) (sums : List Nat) (frames : Nat) : List Nat :=
  (List.range 40).map fun d => targetCode s (nodeCodeRate s n) (mapCode (presentMap s n) d) (listGet 0 sums d) frames

/-- S_d of a trailer's q_d values, 0.5 dB: 2·q_d + 1 dB (R227). -/
def trailerSums (trailer : List Byte) : List Nat := (List.range 40).map fun d => 4 * natBits (leField trailer 0 20) (4 * d) 4 + 2

/-- The new map is issued: a code falls, or at least MIN_UP codes rise (R227). -/
def worthIssue (s : State) (n : Nat) (codes : List Nat) : Bool :=
  let cur := presentMap s n
  let cmp := (List.range 40).map fun d => (listGet 0 codes d, mapCode cur d)
  cmp.any (fun p => decide (p.1 < p.2)) || decide (s.get R.IMAP_CFG_MIN_UP ≤ (cmp.filter fun p => decide (p.2 < p.1)).length)

/-- One step down: 6, 4, 2, 1, 0 (R228). -/
def codeDown (c : Nat) : Nat := if c = 6 then 4 else if c = 4 then 2 else if c = 2 then 1 else 0

/-- The demotion of R228: the highest data index among those with the largest code. -/
def demote (codes : List Nat) : List Nat :=
  let top := codes.foldl max 0
  let at_ := (List.range 40).foldl (fun a d => if listGet 0 codes d = top then d else a) 0
  listSet codes at_ (codeDown top)

/-! ## Issue -/

/-- Replace a node's entry. -/
def setMapEntry (s : State) (n : Nat) (e : MapEntry) : State :=
  viewImap (s.putImap { s.imap with entries := assocSet s.imap.entries n e })

/-- The next MSN (R229): the issue counter rises, and its low 8 bits show in IMAP_STATUS. -/
def nextMsn (s : State) : State × Nat :=
  let m := (s.imap.issues + 1) % 256
  (((s.putImap { s.imap with issues := s.imap.issues + 1 }).set R.IMAP_STATUS_MSN m).bump R.IMAP_CNT0_ISSUED, m)

/-- Queue a map frame (R230): 47 octets, TC1. -/
def queueMapFrame (s : State) (n msn rate : Nat) (clear : Bool) (map : Nat) : State :=
  (sendDirect s n (.map msn rate (nodeBandwidth s n) clear map) purposeMap 47).1

/-- CLEAR is issued (R228, R229, R233): the line's map becomes zero and the entry is free. -/
def clearMap (s : State) (n : Nat) : State :=
  let (s, m) := nextMsn s
  let s := freeMapEntry (setLineField s n N.MAP 0) n
  queueMapFrame s n m (nodeCodeRate s n) true 0

/-- The learning table is full (R233). -/
def mapTableFull (s : State) (n : Nat) : State := postEvent 0x0502 [(0, 4, n)] ((clearMap s n).bump R.IMAP_CNT2_FULL_DROP)

/-- An entry is held or can be allocated. -/
def mapRoom (s : State) (n : Nat) : Bool := (assocGet s.imap.entries n).isSome || decide (s.imap.entries.length < 8192)

/-- A map becomes pending (R231): a map frame is enqueued; the frames it names count from 1. -/
def pendMap (s : State) (n map rate : Nat) : State :=
  if mapRoom s n then
    let (s, m) := nextMsn s
    let e : MapEntry := { status := .pending, frames := 0, sums := [], map := map, rate := rate, msn := m, tries := 1, sentAt := none, since := 0 }
    queueMapFrame (setMapEntry s n e) n m rate false map
  else mapTableFull s n

/-- A chosen map is issued (R228): a check equal to the present map's demotes it, fewer than 40 coded bits issue CLEAR. -/
def issueMap (s : State) (n : Nat) (codes : List Nat) : State :=
  let same := decide (mapChk (mapOf codes) = mapChk (presentMap s n))
  let s := if same then s.bump R.IMAP_CNT2_DEMOTE else s
  let v := mapOf (if same then demote codes else codes)
  if mapBits v < 40 then clearMap s n else pendMap s n v (nodeCodeRate s n)

/-- The present map is issued again as a pending map (R233, R234); a node without a map gets CLEAR. -/
def reissueMap (s : State) (n : Nat) : State :=
  if nodeMap s n = 0 then clearMap s n else pendMap s n (nodeMap s n) (nodeCodeRate s n)

/-- The averages of MAP_WIN frames decide (R227). -/
def learnDecide (s : State) (n : Nat) (e : MapEntry) : State :=
  let codes := targetCodes s n e.sums e.frames
  if worthIssue s n codes then issueMap s n codes else freeMapEntry s n

/-- A trailer's values enter the learning table (R227). -/
def learnTrailer (s : State) (n : Nat) (trailer : List Byte) : State :=
  let sums := trailerSums trailer
  let take := fun (t : State) (e : MapEntry) =>
    if s.get R.IMAP_CFG_MAP_WIN ≤ e.frames then learnDecide (setMapEntry t n e) n e else setMapEntry t n e
  match assocGet s.imap.entries n with
  | some e =>
    if e.status = .learn then
      take s { e with frames := e.frames + 1, sums := (List.range 40).map fun d => listGet 0 e.sums d + listGet 0 sums d }
    else s
  | none =>
    if targetCodes s n sums 1 = (List.range 40).map (mapCode (presentMap s n)) then s
    else if !mapRoom s n then mapTableFull s n
    else take s { status := .learn, frames := 1, sums := sums, map := 0, rate := 0, msn := 0, tries := 0, sentAt := none, since := 0 }

/-! ## Confirmation -/

/-- A frame whose MIC verified was decoded under the pending map: the map is confirmed (R231). -/
def confirmMap (s : State) (n : Nat) : State :=
  match assocGet s.imap.entries n with
  | none => s
  | some e =>
    if e.status = .pending then
      let l := lineSet (s.line n) N.MAP e.map
      let l := lineSet l N.MODE (natSetBits (lineGet l N.MODE) 2 2 e.rate)
      setMapEntry ((writeLine s n l).bump R.IMAP_CNT0_CONFIRMED) n { e with status := .hold, since := s.now }
    else s

/-- A frame whose reception began at `began` still names the present map (R232): where the map frame's transmit completion lies before,
another map frame, or abandonment. -/
def retryMap (s : State) (n began : Nat) : State :=
  match assocGet s.imap.entries n with
  | none => s
  | some e =>
    if e.status = .pending ∧ e.sentAt.any (fun t => decide (t < began)) = true then
      if s.get R.IMAP_CFG_MAP_TRIES ≤ e.tries then
        postEvent 0x0501 [(0, 4, n), (4, 1, e.msn), (5, 1, e.tries)] ((freeMapEntry s n).bump R.IMAP_CNT1_ABANDONED)
      else queueMapFrame (setMapEntry s n { e with tries := e.tries + 1, sentAt := none }) n e.msn e.rate false e.map
    else s

/-- The transmit completion of a map frame at `ended`, ns of the timebase: it counts for the issue whose MSN it carries (R232). -/
def mapFrameSent (s : State) (n msn ended : Nat) : State :=
  match assocGet s.imap.entries n with
  | none => s
  | some e => if e.status = .pending ∧ e.msn = msn then setMapEntry s n { e with sentAt := some ended } else s

/-- Byte 20 of a trailer says that the frame was decoded under the pending map: its bit 7 is 0 then (Table 7-8, log entry 149). -/
def underPending (trailer : List Byte) : Bool := !natBit (leField trailer 20 1) 7

/-- What an Indigo frame whose MIC verified says about the map (R227, R231, R232): its trailer goes to the map unit. -/
def mapHeard (s : State) (n began : Nat) (trailer : List Byte) : State :=
  if trailer.isEmpty then s
  else
    let s := if underPending trailer then confirmMap s n else retryMap s n began
    s.putImap { s.imap with trailers := s.imap.trailers ++ [(n, trailer)] }

end Sys2Proof.Machine
end

