-- ==== Sys2Proof/Machine/PsmOps.lean ====
section
/-!
DEFINITION. The polled slot MAC (chapter 08), shared operations: channels (R243), planned transmissions (R132, R198,
R253), exchanges and their follow-ons (R252 to R256), missed polls and supervision (R266 to R270), what a transmitted
frame does to its queue.
-/

namespace Sys2Proof.Machine

/-! ## Channels and slots -/

/-- The channel of a slot in kHz: map[(ASN + offset) mod LEN]; none for an undefined map (R243, R244). -/
def hopChannel (s : State) (map asn ofs : Nat) : Option Nat :=
  if mapLen s map = 0 then none else some (mapFreq s map ((asn + ofs) % mapLen s map))

/-- Start of the present slot, ns of the timebase. -/
def slotStart (s : State) : Nat := s.tb.slotAt

/-- End of the present slot. -/
def slotEnd (s : State) : Nat := s.tb.boundLast + slotLenNs s

/-- Replace an exchange. -/
def setExchange (s : State) (n : Nat) (e : Exchange) : State := s.putPsm { s.psm with exchanges := assocSet s.psm.exchanges n e }

/-- The exchange of a node in the present slot. -/
def exchangeOf (s : State) (n : Nat) : Option Exchange := assocGet s.psm.exchanges n

/-- The air time of a frame to a node, ns: map frames go under the default map (R225, R230). -/
def frameAir (s : State) (n : Nat) (f : TxFrame) : Nat :=
  match f.kind with
  | .map .. => airNs (nodeMode s n) (s.get R.PSM_SLOT_PRE_LEN) f.len defaultCbps
  | _ => nodeAir s n f.len

/-! ## Power (R132) -/

/-- The PAPR margin of a mode on a path, 0.5 dB; Table 4-4 for a stream, which has no margin register. -/
def marginOf (s : State) (path mode : Nat) : Nat :=
  let f := modeFamily mode
  if path < 16 then
    (if f = 0 then s.get (R.BACKOFF_M_FSK path) else if f = 1 then s.get (R.BACKOFF_M_OFDM path)
     else if f = 2 then s.get (R.BACKOFF_M_OQPSK path) else s.get (R.BACKOFF_M_INDIGO path))
  else if f = 1 then 12 else if f = 3 then 11 else 0

/-- 10·log10(n) rounded up to 0.5 dB, in 0.5 dB. -/
def concurrentBackoff (n : Nat) : Nat := [0, 0, 7, 10, 13, 14, 16, 17, 19].getD n 19

/-- A requested index under MAX_IDX. -/
def limitedIndex (s : State) (path i : Nat) : Nat := if path < 16 then min i (s.get (R.PWR_CFG_MAX_IDX path)) else i

/-- The air time of a work item's frame, ns: a frame with no node goes under the default map. -/
def itemAir (s : State) (w : WorkItem) : Nat :=
  match s.frame w.handle with
  | none => 0
  | some f => match f.dest with | none => airNs w.mode w.preamble f.len defaultCbps | some n => frameAir s n f

/-- The largest number of items of an interval that are on air at one time (R132). -/
def concurrent (s : State) (l : List WorkItem) : Nat :=
  l.foldl (fun a w => max a (l.filter fun x => decide (x.planned ≤ w.planned) && decide (w.planned < x.planned + max 1 (itemAir s x))).length) 0

/-- Give the items of one interval their analog entry and attenuations (R132). -/
def powerItems (s : State) (l : List WorkItem) : List WorkItem :=
  let analog := l.foldl (fun a w => max a w.index) 0
  let m := l.foldl (fun a w => max a (marginOf s w.path w.mode)) 0
  let n := concurrent s l
  let first := l.foldl (fun a w => min a w.planned) ((l.map fun w => w.planned).headD 0)
  l.map fun w => { w with first := first, analog := if w.path < 16 then analog else 0,
                          atten := concurrentBackoff n + m + (analog - w.index) }

/-- The blind margin of a transmit interval on each side, ns (R123); none on a stream, which has no TX_TIMING (DESIGN CHOICE, log
entry 145). -/
def rampLead (s : State) (path : Nat) : Nat :=
  if path < 16 then (s.get (R.TX_TIMING_T_RAMP path) + s.get (R.TX_TIMING_FE_LEAD path)) * 1000 else 0

/-- The items of a group by intervals (R132): those that would need more than 31.5 dB of attenuation go into a separate interval,
which follows the blind span of the first. -/
def splitItems (s : State) : Nat → Nat → List WorkItem → List WorkItem
  | 0, _, _ => []
  | fuel + 1, from_, l =>
    let l := l.map fun w => { w with planned := max w.planned from_ }
    let g := powerItems s l
    let stay := g.filter fun w => decide (w.atten ≤ 63)
    let rest := g.filter fun w => decide (63 < w.atten)
    if stay.isEmpty || rest.isEmpty then g
    else
      let now := powerItems s stay
      let ends := now.foldl (fun a w => max a (w.planned + itemAir s w + 2 * rampLead s w.path + 20000)) 0
      now ++ splitItems s fuel ends rest

/-- Plan the items of one group. -/
def planInterval (s : State) (l : List WorkItem) : State := s.putPsm { s.psm with plan := s.psm.plan ++ splitItems s l.length 0 l }

/-- A work item for a frame (R198), before its power is set. -/
def workItem (s : State) (path handle mode freq planned latest index antenna : Nat) : WorkItem :=
  { handle := handle, path := path, mode := mode, offset := ((freq : Int) - windowCentre s path) * 1000, planned := planned,
    latest := latest, index := limitedIndex s path index, analog := 0, atten := 0, antenna := antenna,
    preamble := s.get R.PSM_SLOT_PRE_LEN, first := planned }

/-- The requested index of a frame to a node or group (log entry 18). -/
def requestedIndex (dest handle : Nat) : Nat := Config.powerIndex dest handle % 64

/-! ## Overlap (TD4 of Table 11-2, R342) -/

/-- T_RSP with the predicted lag, ns from slot start (Table 8-4). -/
def replyDue (s : State) (n : Nat) (e : Exchange) : Int :=
  tPollNs s + (e.guard + 1) / 2 * 1000 + nodeAir s n 31 + nodeTurn s n + e.lag

/-- Another member's protected span or node ACK window meets a transmission from `a` to `b` (ns of the timebase). A
member whose reply is in progress is protected to its end. -/
def meetsSpan (s : State) (path n a b : Nat) : Bool :=
  let lo : Int := (a : Int) - rampLead s path
  let hi : Int := (b : Int) + rampLead s path + 20000
  s.psm.exchanges.any fun p =>
    let e := p.2
    decide (p.1 ≠ n) && decide (e.path = path) &&
      ((e.sent && !e.replied && !e.closed &&
          (let due := (slotStart s : Int) + replyDue s p.1 e
           let half : Int := ((e.guard + 1) / 2 * 1000 : Nat)
           let receiving := (pathCes s path).any fun c => decide (ceState s c = ceAcq) || decide (ceState s c = ceDecode)
           decide (due - half ≤ hi) && (decide (lo ≤ due + half) || receiving))) ||
       (match e.ackDue with | none => false | some w => decide ((w.1 : Int) - 100000 ≤ hi) && decide (lo ≤ w.2)))

/-- A node enters the solo list (R342): 4,096 entries, the oldest dropped. -/
def enterSolo (s : State) (n : Nat) : State :=
  let l := (s.sched.solo.filter fun x => x ≠ n) ++ [n]
  let l := l.drop (l.length - 4096)
  (s.putSched { s.sched with solo := l }).set R.SCHED_STATUS_SOLO_USED l.length

/-! ## Device frames of an exchange -/

/-- A frame for a node outside its queues: poll or ACK, sealed with the next counter (R245, R253); none is sealed once the counter is
exhausted (R265), and the handle is then that of no frame. -/
def controlFrame (s : State) (n : Nat) (kind : FrameKind) (len : Nat) : State × Nat :=
  if counterSpent s n then (checkExhausted s n, s.sched.nextHandle)
  else
    let (s, c) := takeCounter s n
    let s := keyRequest s n purposeDown
    let f := { newFrame kind (some n) n 1 len (some c) with epochSlot := (activeSlot s).getD 0, gen := lineGet (s.line n) N.GEN }
    let (s, h) := storeFrame s f
    (checkExhausted s n, h)

/-- Round half away from zero to whole µs, clamped to ±2,047 (R258). -/
def timeCorrection (e : Int) : Int :=
  let m : Int := ((e.natAbs + 500) / 1000 : Nat)
  clampInt (-2047) 2047 (if 0 ≤ e then -m else m)

/-- The device ACK of a reply (R253, R254, R258, R342): its pending bit is sampled now. -/
def planAck (s : State) (n dsn : Nat) (e : Int) (ended : Nat) : State :=
  match exchangeOf s n with
  | none => s
  | some x =>
    let pending := decide (lineGet (s.line n) N.QCOUNT ≠ 0)
    let start := ended + nodeTurn s n
    let (s, h) := controlFrame s n (.ack dsn pending (timeCorrection e)) 24
    if (s.frame h).isNone then s
    else if meetsSpan s x.path n start (start + nodeAir s n 24) then
      enterSolo (((removeFrame s h).bump R.PSM_CNT5_CTRL_DISCARD).bump R.SCHED_CNT1_ACK_YIELD) n
    else
      let w := workItem s x.path h (nodeMode s n) x.freq start (start + 100000) (requestedIndex n h) x.antenna
      planInterval (setExchange s n { x with pending := pending, answered := true }) [w]

/-- The next follow-on of a node's exchange, with its first symbol at `start` (R254, R255, R342). Its Frame Pending bit is fixed while
it has not been sent: a resend is unchanged (R256). -/
def planFollowOn (s : State) (n start : Nat) : State :=
  match exchangeOf s n with
  | none => s
  | some x =>
    let count := lineGet (s.line n) N.QCOUNT
    if count = 0 then s.bump R.PSM_CNT5_PEND_EMPTY
    else
      let (t, r) := nextDownlink s n
      match r with
      | none => s
      | some h =>
        match t.frame h with
        | none => s
        | some f =>
          let ends := start + frameAir t n f
          let ack := ends + nodeTurn t n
          let ackEnd := ack + nodeAir t n 20
          if slotEnd t < ackEnd + 200000 ∨ meetsSpan t x.path n start ends = true then s
          else
            let more := if f.sends = 0 then decide (1 < count) else f.more
            let t := if f.sends = 0 then takeVirtual (t.setFrame h { f with more := more }) h else t
            let w := workItem t x.path h (nodeMode t n) x.freq start (start + 100000) (requestedIndex n h) x.antenna
            planInterval (setExchange t n { x with follow := some h, more := more, ackDue := some (ack, ackEnd) }) [w]

/-! ## Missed polls and supervision -/

/-- The timeout of a supervision code in seconds; none when it disables supervision (R269). -/
def supervision (code : Nat) : Option Nat :=
  if code % 8 = 0 then none else some (min 131072 (code % 8 * 2 ^ (code / 8)))

/-- A missed poll (R266, R267, R270, R282). -/
def missedPoll (s : State) (n : Nat) (unionOnly : Bool) : State :=
  if unionOnly then s.bump R.DRIFT_CNT2_UNION_SKIP
  else
    let s := s.bump R.PSM_CNT0_POLL_MISS
    let l := s.line n
    let m := min 3 (lineGet l N.MISS + 1)
    let fresh := decide (m = 3) && !lineBit l N.SUSPECT
    let l := lineSet l N.MISS m
    let s := writeLine s n (if fresh then lineSet l N.SUSPECT 1 else l)
    let s := if fresh then postEvent 0x0601 [(0, 4, n), (4, 5, s.asnNat)] s else s
    match supervision (lineGet (s.line n) N.SUP) with
    | none => s
    | some t => if t * secondNs ≤ silentNs s n then loseNode s n else s

/-- A node's reply window ends (R266): a poll that was sent and drew no accepted reply was missed. -/
def replyWindowEnds (s : State) (n : Nat) : State :=
  match exchangeOf s n with
  | none => s
  | some e =>
    if e.closed then s
    else
      let s := setExchange s n { e with closed := true }
      if e.sent && !e.replied && nodeValid s n then missedPoll s n e.unionOnly else s

/-- A follow-on drew no node ACK (R256): it awaits resend, or is dropped after DL_RETRY sends. -/
def nodeAckMissed (s : State) (n : Nat) : State :=
  match exchangeOf s n with
  | none => s
  | some e =>
    match e.follow with
    | none => s
    | some h =>
      let s := setExchange s n { e with follow := none, more := false, ackDue := none }
      match s.frame h with
      | none => s
      | some f =>
        if f.sends = 0 then s
        else if s.get R.PSM_SUP_DL_RETRY ≤ f.sends then agreementFreed (discardFrame s h) n
        else s.putSched { s.sched with resend := assocSet s.sched.resend n h }

/-- A node's Enh-Ack came, with a sequence number (R247, R252 step 7): it acknowledges the follow-on that has that number, which leaves,
and the next one follows where Frame Pending was 1. -/
def nodeAckHeard (s : State) (n seq ended : Nat) : State :=
  match exchangeOf s n with
  | none => s
  | some e =>
    match e.follow with
    | none => s
    | some h =>
      if (s.frame h).any (fun f => decide (f.seq ≠ seq)) then s
      else
      let s := setExchange s n { e with follow := none, more := false, ackDue := none }
      match s.frame h with
      | none => s
      | some f =>
        let s := removeFrame s h
        let s := match f.kind with
          | .agreement .. => agreementAcked s n
          | .rekey .. =>
            s.putSec { s.sec with rekeys := s.sec.rekeys.map fun r => if r.1 = n then (r.1, r.2.1, true) else r }
          | _ => s
        if e.more then planFollowOn s n (ended + nodeTurn s n) else s

/-! ## What a transmitted frame does -/

/-- A queued frame's first send: the delay from readiness to the antenna, and the bound of a TC0 frame (R347, R349). -/
def firstSend (s : State) (f : TxFrame) : State :=
  match f.stampReady with
  | none => s
  | some r =>
    let s := sampleDelay s (16 + f.cls) f.cls (s.now - r)
    match f.stampIn with
    | none => s
    | some i => if f.cls = 0 then crimsonCheck s 0 (r - i) f.final else s

/-- BOOT_TIME.BEACON_MS at the first beacon. -/
def noteBeacon (s : State) : State :=
  if s.get R.BOOT_TIME_BEACON_MS = 0xFFFF then let r := bootMs s; r.1.set R.BOOT_TIME_BEACON_MS r.2 else s

/-- A frame was sent with completion status 0, its last symbol at `ended` (R251, R253, R254, R256, R266, R321). -/
def frameSent (s : State) (h ended : Nat) : State :=
  match s.frame h with
  | none => s
  | some f =>
    let n := f.dest.getD 0
    match f.kind with
    | .beacon .. => noteBeacon ((removeFrame s h).bump R.PSM_CNT6_BEACON_TX)
    | .poll .. =>
      let s := (removeFrame s h).bump R.PSM_CNT0_POLL_TX
      match exchangeOf s n with
      | none => s
      | some e => setExchange s n { e with sent := true }
    | .ack _ pending _ =>
      let s := removeFrame s h
      if pending then planFollowOn s n (ended + nodeTurn s n) else s
    | .joinAck .. => removeFrame s h
    | .joinResponse .. => removeFrame s h
    | .group .. => s.setFrame h { f with sends := f.sends + 1, lastSlot := some s.asnNat }
    | k =>
      let s := if f.sends = 0 then firstSend s f else s.bump R.PSM_CNT4_DL_RETRY_CNT
      let s := match k with
        | .map msn .. => mapFrameSent s n msn ended
        | .agreement .. => if f.sends = 0 then s.bump R.DRIFT_CNT2_AGREE_TX else s
        | _ => s
      s.setFrame h { f with sends := f.sends + 1, lastSlot := some s.asnNat }

end Sys2Proof.Machine
end

