-- ==== Sys2Proof/Machine/Scheduling.lean ====
section
/-!
DEFINITION. Scheduling (chapter 11): schedule epochs and draining (R344, R345), depth samples (R348).
-/

namespace Sys2Proof.Machine

open Host (Outcome)

/-- One full SF0 has passed under an epoch that drains the path (R345): DRAINED is set and PATH_DRAINED posted. -/
def drainCheck (s : State) (first : Nat) : State :=
  foldState (fun (t : State) p =>
    match (t.path p).drainSince with
    | none => t
    | some a =>
      if a + sfLen t ≤ first ∧ t.bit (R.PATH_SCHED_DRAINED p) = false ∧ t.bit (R.PATH_SCHED_DRAIN p) = true then
        postEvent 0x0903 [(0, 1, p), (2, 2, t.get R.SCHED_STATUS_EPOCH)] (t.set (R.PATH_SCHED_DRAINED p) 1)
      else t) s (presentPaths s)

/-- A path enters or leaves draining with the epoch whose first slot is `first` (R345). -/
def drainPath (s : State) (first p : Nat) : State :=
  s.setPath p { s.path p with drainSince := if s.bit (R.PATH_SCHED_DRAIN p) then some (((s.path p).drainSince).getD first) else none }

/-- The epoch in force gives a path an assignment. -/
def pathAssigned (s : State) (p : Nat) : Bool := !(epochChannels s p).isEmpty || !(reservedOffsets s p).isEmpty

/-- The epoch in force after `old` gives path p an assignment that it did not have (R170): it leaves draining, or gains a reservation or
a node whose agreement is new. -/
def pathGains (old s : State) (p : Nat) : Bool :=
  !s.sched.drains.contains p &&
    ((old.sched.drains.contains p && pathAssigned s p) || ((reservedOffsets s p).any fun o => !(reservedOffsets old p).contains o) ||
     (old.drift.changed.any fun c => nodeValid s c.1 && ((choosePath s c.1).any fun q => decide (q.1 = p))))

/-- What the schedule-epoch record carries of the epoch in force: CRIM_A (3p), CRIM_B (3p + 1) and DRAIN (3p + 2) of the paths
where they are not 0 (R533). -/
def epochFields (s : State) : List (Nat × Nat) :=
  (s.sched.crims.map fun c => (c.1 / 2 * 3 + c.1 % 2, c.2)) ++ s.sched.drains.map fun p => (3 * p + 2, 1)

/-- The registers of the paths and the changed agreements come into force as the epoch of that number, whose first slot is `first`
(R344). -/
def adoptEpoch (old : State) (number first : Nat) : State :=
  let ps := presentPaths old
  let s := foldState (fun t p => drainPath t first p) old ps
  let crims := (ps.map fun p => [(2 * p, (s.word (R.CRIM_A p)).toNat), (2 * p + 1, (s.word (R.CRIM_B p)).toNat)]).flatten.filter
    fun c => decide (c.2 ≠ 0)
  let s := s.putSched { s.sched with drains := ps.filter (fun p => s.bit (R.PATH_SCHED_DRAIN p)), crims := crims, epochPending := false }
  let s := s.putDrift { s.drift with changed := [] }
  foldState calPreempt (s.set R.SCHED_STATUS_EPOCH number) (ps.filter (pathGains old s))

/-- The barrier of a schedule epoch switch over the engines whose assignment it changes (R202, R203): those of drained paths are
released, in one step and before a coefficient barrier that is still outstanding. -/
def epochBarrier (s : State) : State :=
  foldState (fun (t : State) e =>
    if t.bit (R.CE_ASG0_ACTIVE e) && t.sched.drains.contains (t.get (R.CE_ASG0_PATH e)) then giveLoad t e (releaseLoad t e) else t)
    s (List.range 512)

/-- A new schedule epoch takes effect with the slot `first` (R344). -/
def switchEpoch (s : State) (first : Nat) : State :=
  let s := epochBarrier (adoptEpoch s (s.get R.SCHED_STATUS_EPOCH + 1) first)
  let e := s.get R.SCHED_STATUS_EPOCH
  let s := mirror s (.epoch e first (epochFields s))
  let s := postEvent 0x0904 [(0, 2, e), (4, 5, first)] s
  foldState viewTone s (presentPaths s)

/-- A schedule-epoch record of the claiming device (R522, R533): the registers and the epoch are taken over. -/
def takeEpoch (s : State) (number first : Nat) (fields : List (Nat × Nat)) : State :=
  let old := s.get R.SCHED_STATUS_EPOCH
  let val (k : Nat) : Nat := (assocGet fields k).getD 0
  let s := foldState (fun (t : State) p =>
    let t := (t.setWord (R.CRIM_A p) (BitVec.ofNat 32 (val (3 * p)))).setWord (R.CRIM_B p) (BitVec.ofNat 32 (val (3 * p + 1)))
    let t := t.set (R.PATH_SCHED_DRAIN p) (val (3 * p + 2))
    if val (3 * p + 2) = 1 then t else t.set (R.PATH_SCHED_DRAINED p) 0) s (presentPaths s)
  let s := epochBarrier (adoptEpoch s number first)
  if number = old then s else postEvent 0x0904 [(0, 2, number), (4, 5, first)] s

/-- SCHEDULE_EPOCH_SWITCH (R344, R345): issued ahead of the SF0 boundary that ends the present slot. -/
def execScheduleEpochSwitch (s : State) : Outcome State Fault Refusal :=
  let first := (s.asnNat + 1) % 2 ^ 40
  if !running s || !s.bit R.PSM_STATUS_RUN || decide (slotOffset s first ≠ 0) then done s
  else done (drainCheck (if s.sched.epochPending then switchEpoch s first else s) first)

/-- PATH_SCHED_WRITE (R345): a change waits for the next SF0 boundary; clearing DRAIN clears DRAINED at once. -/
def execPathSchedWrite (path : Nat) (drain : Bool) (s : State) : Outcome State Fault Refusal :=
  if !powered s || !pathPresent s.part path then done s
  else
    let s := s.setBit (R.PATH_SCHED_DRAIN path) drain
    let s := if drain then s else s.set (R.PATH_SCHED_DRAINED path) 0
    done (s.putSched { s.sched with epochPending := true })

/-- The depth in frames of measured queue q (Table 11-5): egress by port and class, then the packet-core input by class. -/
def depthOf (s : State) (q : Nat) : Nat :=
  if q < 16 then ((assocGet s.sched.egress q).getD []).length else ((s.queue 21).lane (q - 16)).length

/-- DEPTH_SAMPLE (R348). -/
def execDepthSample (s : State) : Outcome State Fault Refusal :=
  if !running s then done s
  else
    done (foldState (fun (t : State) q =>
      let d := depthOf t q
      (t.set (R.DEPTH_LAST q) d).set (R.DEPTH_MAX q) (max (t.get (R.DEPTH_MAX q)) d)) s (List.range 24))

end Sys2Proof.Machine
end

