-- ==== Sys2Proof/Machine/PairOps.lean ====
section
/-!
DEFINITION. The redundant pair (chapter 19), shared operations: the transmit gate (R526, R528), roles and claims (R521 to
R525), the end of a claim (R527, R529), the loss of the link (R538, R541), switchovers (R539, R540), the resync (R537).
-/

namespace Sys2Proof.Machine

/-! ## Roles -/

def roleActive : Nat := 0
def roleStandby : Nat := 1
def roleSolo : Nat := 2
def roleSpare : Nat := 3

/-- The device takes a role with a cause of Table 19-5. -/
def setRole (s : State) (role cause : Nat) : State :=
  let old := s.get R.PAIR_STATUS_ROLE
  postEvent 0x1101 [(0, 1, role), (1, 1, old), (2, 1, cause)] ((s.set R.PAIR_STATUS_ROLE role).set R.PAIR_STATUS_CAUSE cause)

/-! ## The transmit gate -/

/-- The gate closes during an Ethernet frame: the frame ends with an error and counts in EGR_DROP (R528). -/
def cutEgress (s : State) (e : Nat) : State :=
  let s := accrue s e
  let x := ethPort s e
  let gone := x.sending.toList ++ x.preempted.toList
  let s := s.putEth { s.eth with frames := s.eth.frames.filter fun f => !gone.contains f.1 }
  (setEthPort s e { x with sending := none, preempted := none }).bumpBy (R.ETH_CNT1_EGR_DROP e) gone.length

/-- PAIR_STATUS.GATE follows the two claims; `was` is whether the gate was open (R526, R528). -/
def gateChanged (was : Bool) (s : State) : State :=
  let open_ := gateOpen s
  let s := s.setBit R.PAIR_STATUS_GATE open_
  if was && !open_ then foldState cutEgress (closeRadioGate s) [0, 1]
  else if !was && open_ then foldState startEgress s [0, 1]
  else s

/-! ## Link records -/

/-- The link carries records of this device. -/
def linkUp (s : State) : Bool := s.bit R.HJ_STATUS_UP

/-- Send a record of the control kind (Table 19-4). -/
def sendControl (s : State) (r : MirrorRecord) : State := if linkUp s then sendRecord s r else s

/-- The control record that goes every 5 µs (R530, R533). -/
def controlRecord (s : State) : MirrorRecord :=
  .control (s.get R.PAIR_STATUS_ROLE) (s.bit R.PAIR_STATUS_CLAIM_OUT) (s.bit R.PAIR_STATUS_HOLD) s.asnNat
    (s.get R.FWD_STATUS_NODE_MIN)

/-- The two signs of the peer's release disagree (R524): IL_FAULT, counted as it appears. -/
def viewInterlock (s : State) : State :=
  let bad := linkUp s && !s.bit R.PAIR_STATUS_CLAIM_IN && s.pair.peerClaims && decide (s.pair.lastRecord = .control)
  let was := s.bit R.PAIR_STATUS_IL_FAULT
  let s := s.setBit R.PAIR_STATUS_IL_FAULT bad
  if bad && !was then s.bump R.PAIR_CNT3_IL_FAULT else s

/-! ## Claims -/

/-- The conditions of R523 that hold whatever the role: committed and past step 8 of Table 3-1 (R73), no security error, no
hold, the keeper refreshed, the peer's claim inactive, no interlock fault. -/
def readyToClaim (s : State) : Bool :=
  running s && s.boot.committed && decide (s.get R.BOOT_STATUS_PHASE = 5) && !s.bit R.SEC_STATUS_ERROR && !s.bit R.PAIR_STATUS_HOLD && s.pair.kept &&
    !s.bit R.PAIR_STATUS_CLAIM_IN && !s.bit R.PAIR_STATUS_IL_FAULT && !s.bit R.PAIR_STATUS_CLAIM_OUT

/-- The former active of a planned switchover may take its claim again (R541): its link is down, or 1 ms has passed. -/
def retaking (s : State) : Bool :=
  match s.pair.switchover with
  | none => false
  | some w => w.outgoing && (decide (w.phase = SwitchPhase.reclaim) || (decide (w.phase = SwitchPhase.released) && !linkUp s))

/-- The role and cause under which Table 19-2 lets the device claim, and the kind of the switchover that it ends. -/
def claimCondition (s : State) : Option (Nat × Nat × Option Nat) :=
  let role := s.get R.PAIR_STATUS_ROLE
  if !hjPresent s.part then some (roleSolo, 0, none)
  else if retaking s then some (roleSolo, 2, none)
  else if (match s.pair.switchover with | none => false | some w => w.outgoing) then none
  else if s.pair.step8 && (!linkUp s || !s.pair.peerClaims) then some (roleSolo, 0, none)
  else if role = roleStandby then
    if linkUp s && decide (s.pair.lastRecord = LastRecord.handover) then some (roleActive, 2, some 0)
    else if !linkUp s then some (roleSolo, 4, some 1)
    else if s.pair.lastRecord = LastRecord.release then some (roleSolo, 1, some 1)
    else none
  else if role = roleSpare && !linkUp s && s.bit R.PAIR_CFG_SPARE_CLAIM then some (roleSolo, 4, none)
  else none

/-- CLAIM_OUT_N is driven; the keeper's ASN test begins anew (R529), and the Crimson copies held now go first (R535). -/
def driveClaim (s : State) : State :=
  let was := gateOpen s
  let s := s.putPair { s.pair with step8 := false, asnAt := s.now, lastRecord := .none }
  let held := (s.sched.frames.filter fun p => decide (p.2.cls = 0) && p.2.dest.isSome).map fun p => p.1
  let s := s.putSched { s.sched with copies := held }
  gateChanged was (s.set R.PAIR_STATUS_CLAIM_OUT 1)

/-- CLAIM_OUT_N is released, with a release notice on the link (R533); both claims are no longer seen
(Table 19-9). -/
def releaseClaim (s : State) : State :=
  let was := gateOpen s
  gateChanged was (sendControl ((s.set R.PAIR_STATUS_CLAIM_OUT 0).set R.PAIR_STATUS_CONFLICT 0) .release)

/-- No switchover runs. -/
def clearSwitchover (s : State) : State := (s.putPair { s.pair with switchover := none }).set R.PAIR_STATUS_SWO 0

/-- The device is no longer in sync with a peer, and no resync runs. -/
def dropSync (s : State) : State :=
  (((s.set R.PAIR_STATUS_SYNC 0).set R.SYNC_STAT_STATE 0).set R.SYNC_STAT_LEFT 0).putPair { s.pair with dirty := [] }

/-- An event ends the device's claim (R525, R527, R529, Table 19-5): it becomes SPARE, or stays SOLO without the link. -/
def endClaim (s : State) (cause : Nat) : State :=
  if s.bit R.PAIR_STATUS_CLAIM_OUT then
    let s := clearSwitchover (releaseClaim s)
    let s := s.putPair { s.pair with step8 := false, serveFrom := 0 }
    if hjPresent s.part then setRole (dropSync s) roleSpare cause else s
  else s

/-- This device plans and serves slots as the claiming device (R522, R539, R540): it claims, it is not past boundary B of a
switchover that it gives away, and a device that took over unplanned has come to its first boundary. -/
def serving (s : State) : Bool :=
  s.bit R.PAIR_STATUS_CLAIM_OUT && gateOpen s &&
    (match s.pair.switchover with
     | none => true
     | some w => !(w.outgoing && (decide (w.phase ≠ .waitBoundary) || (s.bit R.PSM_STATUS_RUN && seqGe 40 s.asnNat w.boundary)))) &&
    (decide (s.pair.serveFrom = 0))

/-! ## Switchovers -/

/-- One above the highest block reserved for a node or district (R545). -/
def firstBlock (s : State) : Nat := s.pair.reserved.foldl (fun m p => max m p.2) 0 + 1

/-- A switchover ends with a duration in µs. -/
def switchDone (s : State) (w : Switchover) (us : Nat) : State :=
  let d := min us 0x7FFFFFFF
  let s := (s.set R.SWO_LAST_KIND w.kind).set R.SWO_LAST_DURATION d
  let s := (clearSwitchover s).bump R.PAIR_CNT2_SWITCHOVERS
  postEvent 0x1103 [(0, 1, w.kind), (4, 4, d), (8, 4, w.firstBlock)] s

/-- Its duration up to now. -/
def switchTime (s : State) (w : Switchover) : Nat := (s.now - w.started) / 1000

/-- The device may start a planned switchover: CMD_RES 1, or why not (R539, R541, Table 19-9). -/
def switchResult (s : State) : Nat :=
  if s.get R.PAIR_STATUS_ROLE ≠ roleActive then 2
  else if s.pair.switchover.isSome || decide (s.get R.SYNC_STAT_STATE ≠ 0) then 4
  else if !linkUp s || s.get R.HJ_STATUS_PEER_ROLE ≠ roleStandby || !s.bit R.PAIR_STATUS_SYNC then 3
  else 1

/-- The ASN of the first slot boundary at least 1 ms ahead (R539). -/
def boundaryAhead (s : State) : Nat :=
  let l := max 1 (slotLenNs s)
  let next := slotEnd s
  let k := if s.tbNs + 1000000 ≤ next then 0 else (s.tbNs + 1000000 - next + l - 1) / l
  (s.asnNat + 1 + k) % 2 ^ 40

/-- A planned switchover is accepted: the device waits for boundary B (R539). `next` is what follows it. -/
def startPlanned (s : State) (cause next : Nat) : State :=
  let w : Switchover := { phase := .waitBoundary, outgoing := true, kind := 0, cause := cause, boundary := boundaryAhead s,
                          started := s.now, released := 0, firstBlock := 0 }
  (s.putPair { s.pair with switchover := some w, then_ := next }).set R.PAIR_STATUS_SWO 1

/-- Bytes 20–23 of a line, or a district's broadcast counter, at a value that the claiming device has never used (R534); counters do
not wrap (R264), and the last one is exhausted (R265). -/
def counterAfter (block : Nat) : Nat := min 0xFFFFFFFF (1024 * (block + 1))

/-- Write a district's broadcast counter. -/
def setBcast (s : State) (d v : Nat) : State :=
  s.putTree { s.tree with bcast := cellsWrite zeroCell s.tree.bcast d (BitVec.ofNat 32 v) }

/-- A reservation of block k (R534). -/
def applyReservation (s : State) (node : Nat) (district : Bool) (block : Nat) : State :=
  let key := if district then 2 ^ 20 + node else node
  let s := if district then setBcast s node (counterAfter block) else setLineField s node N.TXCTR (counterAfter block)
  s.putPair { s.pair with reserved := assocSet s.pair.reserved key block }

/-- The former active rewrites every counter from its own reservations (R534, R541, Table 19-6 step 6). -/
def rewriteCounters (s : State) : State :=
  foldState (fun t (p : Nat × Nat) => applyReservation t (p.1 % 2 ^ 20) (decide (2 ^ 20 ≤ p.1)) p.2) s s.pair.reserved

/-- Drop the device's TC1 to TC7 downlink and egress frames at a planned release (Table 19-6 step 2). -/
def dropLower (s : State) : State :=
  let low := s.sched.frames.filter fun p => decide (p.2.cls ≠ 0) && p.2.dest.isSome
  let queued := (s.sched.downlink.map fun p => p.2).flatten
  let s := foldState (fun (t : State) (p : Nat × TxFrame) =>
    if queued.contains p.1 then (dropFrame t p.1).bump R.PAIR_CNT3_DL_LOST else dropFrame t p.1) s low
  let s := foldState (fun (t : State) (g : Nat × List (Nat × Nat)) =>
    putGroup (foldState (fun (u : State) (h : Nat × Nat) => (dropFrame u h.1).bump R.PAIR_CNT3_DL_LOST) t g.2) g.1 [])
    s s.fwd.groups
  foldState (fun (t : State) e =>
    foldState (fun (u : State) c =>
      let l := egressOf u e c
      if l = [] then u
      else
        let u := u.putEth { u.eth with frames := u.eth.frames.filter fun f => !l.contains f.1 }
        (putEgress u e c []).bumpBy (R.ETH_CNT1_EGR_DROP e) l.length) t [1, 2, 3, 4, 5, 6, 7]) s [0, 1]

/-! ## Resync -/

/-- The claiming device starts a resync (R537): tree state, schedule epoch and Crimson copies, then every line. The blocks
that the receiver's counters leave to the sender are reserved with it (R534). -/
def startResync (s : State) : State :=
  let s := s.putPair { s.pair with dirty := [], syncAt := s.now, syncLines := lineCount s }
  let s := (s.set R.SYNC_STAT_STATE 1).set R.SYNC_STAT_LEFT (lineCount s)
  let nodes := s.fwd.ncs.map fun c => (c.1, lineGet c.2 N.TXCTR / 1024 + 1)
  let districts := s.tree.bcast.map fun c => (2 ^ 20 + c.1, c.2.toNat / 1024 + 1)
  let s := s.putPair { s.pair with reserved := (nodes ++ districts).foldl (fun l p => assocSet l p.1 p.2) s.pair.reserved }
  let s := sendRecord s (.treeAll s.tree)
  let s := sendRecord s (.epoch (s.get R.SCHED_STATUS_EPOCH) s.asnNat (epochFields s))
  let copies := s.sched.frames.filter fun p => decide (p.2.cls = 0) && p.2.dest.isSome
  let s := foldState (fun t (p : Nat × TxFrame) => sendRecord t (.crimsonIn p.2)) s copies
  s.emit (.hjResync s.fwd.ncs)

/-- Offer a resync to a SPARE peer that is not on hold (R537, R542). -/
def offerResync (s : State) : State :=
  if s.bit R.PAIR_STATUS_CLAIM_OUT && linkUp s && !s.pair.controlOnly && !s.pair.peerHold &&
      decide (s.get R.HJ_STATUS_PEER_ROLE = roleSpare) && decide (s.get R.SYNC_STAT_STATE = 0) && s.pair.switchover.isNone then
    startResync s
  else s

/-! ## The loss of the link -/

/-- What the switchover in progress and the roles do when the link is gone (R538, R540, R541). -/
def rolesAlone (s : State) : State :=
  let role := s.get R.PAIR_STATUS_ROLE
  match s.pair.switchover with
  | some w =>
    if w.outgoing then
      if s.bit R.PAIR_STATUS_CLAIM_OUT then switchDone (setRole s roleSolo 4) w 0
      else if s.bit R.PAIR_STATUS_CLAIM_IN then setRole (clearSwitchover s) roleSpare 4
      else s
    else if s.bit R.PAIR_STATUS_CLAIM_OUT then
      if w.kind = 0 then setRole (switchDone s w (switchTime s w)) roleSolo 4 else s
    else if s.bit R.PAIR_STATUS_CLAIM_IN then setRole (clearSwitchover s) roleSpare 4
    else clearSwitchover s
  | none =>
    if role = roleActive then setRole s roleSolo 4
    else if role = roleStandby && s.bit R.PAIR_STATUS_CLAIM_IN then setRole s roleSpare 4
    else s

/-- The link goes down with the cause of HJ_LINK_DOWN (R531, R538): the session ends, SYNC is dropped and roles fall back. -/
def linkDown (s : State) (cause : Nat) : State :=
  if linkUp s then
    let s := s.bump R.PAIR_CNT1_LINK_DOWN
    let s := (((s.set R.HJ_STATUS_UP 0).set R.HJ_STATUS_LANES 0).set R.HJ_STATUS_AUTH 0).set R.PAIR_STATUS_MISMATCH 0
    let s := s.putPair { s.pair with unacked := [], lastRecord := .none, peerClaims := false, controlOnly := false,
                                     downAt := s.now }
    let s := postEvent 0x1105 [(0, 1, cause)] (dropSync s)
    viewInterlock (rolesAlone s)
  else s

end Sys2Proof.Machine
end

