-- ==== Sys2Proof/Machine/BootOps.lean ====
section
/-!
DEFINITION. Power-up, resets and the start of a boot, shared operations (chapters 02 and 03): what each reset keeps (R14,
R77, R109), fault hold (R106), the start of the boot ROM (R73, R83), warm restart (R77).
-/

namespace Sys2Proof.Machine

/-! ## What a reset keeps -/

/-- Register fields of the always-on domain (R14), TREE_LOST, which goes with the tree state (R464, R465), and the level of the
peer's claim, which is the peer's to change. -/
def alwaysOnFields : List Fld :=
  [R.AON_FAIL_COUNT, R.AON_FAIL_PHASE, R.AON_FAIL_CODE, R.LF_RATIO_RATIO, R.RC_RATIO_RATIO, R.PWR_STATUS_LAST_STATE,
   R.PWR_STATUS_WAKE_SRC, R.PWR_LAST_EXIT_US, R.PWR_LAST_ASLEEP, R.SEC_STATUS_TREE_LOST, R.PAIR_STATUS_CLAIM_IN]

/-- The latched straps. -/
def strapFields : List Fld := [R.STRAPS_PAIR_ID, R.STRAPS_BOOT_MODE]

/-- Every register at its Reset value but for the given fields, which keep theirs (R14). -/
def keptRegs (s : State) (l : List Fld) : RegFile := l.foldl (fun r f => regSet r f (regGet s.regs f)) []

/-- The always-on power state with the rails as given. -/
def railsState (core sram : Bool) : PowerState :=
  { PowerState.cold with enCore := core, enSram := sram, faultN := core, isolated := !core }

/-- Everything that a reset clears is cleared. Kept are the part, the boot flash, the OTP, the always-on items (R464, R164,
R421, R564), the flash budget (log entry 19), the level of PERST_N, and the registers `keep`. -/
def resetKeeping (s : State) (keep : List Fld) (power : PowerState) (phase : Phase) : State :=
  { State.reset with
    part := s.part, flash := s.flash, flashSize := s.flashSize, otp := s.otp, tree := s.tree,
    regs := keptRegs s keep, osc := { held := 0, kept := s.osc.kept, crowd := [], change := 0 },
    tb := { TimeState.cold with bridge := s.tb.bridge },
    upd := { UpdState.cold with probation := s.upd.probation },
    boot := { BootState.cold with phase := phase, commitTimes := s.boot.commitTimes, slotWrites := s.boot.slotWrites },
    pcie := { PcieState.cold with perst := s.pcie.perst },
    mi := { MiState.cold with fuses := s.mi.fuses },
    pwr := power, now := s.now, draws := s.draws, out := s.out, reply := s.reply, pending := s.pending }

/-! ## Failures -/

/-- Latch a failure code in AON_FAIL (R106, R109): code 0x06 never replaces a fatal code. -/
def latchFail (s : State) (phase code : Nat) : State :=
  let s := s.bump R.AON_FAIL_COUNT
  if code = 6 ∧ 1 ≤ s.get R.AON_FAIL_CODE ∧ s.get R.AON_FAIL_CODE ≤ 5 then s
  else (s.set R.AON_FAIL_CODE code).set R.AON_FAIL_PHASE phase

/-- Fault hold (R59, R106): the claim is released, FAULT_N is low, the rails are off. -/
def faultHold (s : State) (phase code : Nat) : State :=
  let s := stopTimebase (latchFail (endClaim s 13) phase code)
  resetKeeping s (alwaysOnFields ++ strapFields) PowerState.cold .faultHold

/-- The PHASE that AON_FAIL records while the rails come up (Table 3-19). -/
def powerPhase (s : State) : Nat := match s.boot.cause with | .sepiaExit => 0xA | _ => 0

/-! ## Boot -/

/-- BOOT_STATUS.PHASE. -/
def setPhase (s : State) (p : Nat) : State := s.set R.BOOT_STATUS_PHASE p

/-- Image wait (R83, R89): the host and the UART supply the images. -/
def imageWait (s : State) : State := setPhase (s.putBoot { s.boot with fromHost := true }) 8

/-- The boot ROM starts (R73, R78, R83): the directory is selected and the repair maps are applied. -/
def romStart (s : State) : State :=
  let s := setPhase (s.putBoot { s.boot with phase := .boot, comp := 0, second := false, lfMeasuring := true }) 1
  let page := selectDirectory s
  let s := s.putBoot { s.boot with page := page }
  let s := applyRepairs (wearView s)
  let s := s.setBit R.BOOT_STATUS_DIR_COPY (match page with | none => false | some a => decide (0x01000000 ≤ a))
  if page.isNone then imageWait s
  else if 2 ≤ s.get R.STRAPS_BOOT_MODE then s.putBoot { s.boot with fromHost := true }
  else s

/-- The warm restart itself (R77): Table 3-1 runs from step 3 with the rails kept on once the PLLs relock. The retired entries
of the overflow store stay retired until PORST_N (R498). -/
def warmClear (s : State) (phase : Phase) : State :=
  let retired := s.mi.retired
  let aonLf := s.pwr.aonLf
  let s := stopTimebase s
  let t := resetKeeping s (alwaysOnFields ++ strapFields) { railsState true true with aonLf := aonLf } phase
  let t := t.setBit R.BOOT_STATUS_AON_SRC (!aonLf)
  let t := t.putMi { t.mi with retired := retired }
  t.putBoot { t.boot with lfAccepted := aonLf, startAt := t.now, retryPost := s.boot.retryPost, lfPost := s.boot.lfPost,
                          lfFallen := s.boot.lfPost }

/-- The device performs a warm restart of its own (R77, R515): the claim is released, and 10 µs later it restarts. -/
def warmRestart (s : State) : State :=
  let s := endClaim s 13
  s.putBoot { s.boot with phase := .warmDelay }

end Sys2Proof.Machine
end

