-- ==== Sys2Proof/Machine/ConfigOps.lean ====
section
/-!
DEFINITION. The configuration image (chapter 03): its records (R92 to R95 and the record tables of the chapters), the validation
pass (R96, R97), applying records (R98) and the runtime-tunable fields (R101).
-/

namespace Sys2Proof.Machine

/-! ## Records -/

/-- A record of the image: its offset, type, flags and payload. -/
structure ConfigRecord where
  offset : Nat
  type : Nat
  flags : Nat
  data : List Byte
  deriving DecidableEq, Repr

/-- The records from an offset on; one that overruns the image has no content (R92). `fuel` bounds their number. -/
def parseRecords : Nat → Nat → List Byte → List (Nat × Option ConfigRecord)
  | 0, _, _ => []
  | fuel + 1, off, l =>
    if l.isEmpty then []
    else
      let n := leField l 4 4
      let size := 8 + (n + 7) / 8 * 8
      if l.length < 8 ∨ l.length < size then [(off, none)]
      else
        (off, some { offset := off, type := leField l 0 2, flags := leField l 2 2, data := sliceBytes l 8 n }) ::
          parseRecords fuel (off + size) (l.drop size)

/-- The records of an image. -/
def imageRecords (img : List Byte) : List (Nat × Option ConfigRecord) :=
  let body := (img.take (imageLength img)).drop 256
  parseRecords (body.length / 8 + 1) 256 body

/-- The little-endian words of a payload. -/
def wordsOf (l : List Byte) : List Nat := (List.range (l.length / 4)).map fun i => leField l (4 * i) 4

/-- Kind and index of a record's unit selector, and the words after it (R95). -/
def recordKind (r : ConfigRecord) : Nat := leField r.data 3 1
def recordIndex (r : ConfigRecord) : Nat := leField r.data 0 3
def recordWords (r : ConfigRecord) : List Nat := wordsOf (r.data.drop 4)

/-- The record is flagged optional, or runtime-tunable (Table 3-9). -/
def ConfigRecord.optional (r : ConfigRecord) : Bool := natBit r.flags 0
def ConfigRecord.tunable (r : ConfigRecord) : Bool := natBit r.flags 1

/-- The path that a record's selector names (R115). -/
def recordPath (r : ConfigRecord) : Nat := if recordKind r = 2 then recordIndex r + 16 else recordIndex r

/-- Type of the commit record (R94). -/
def commitType : Nat := 0xFFFF

/-- The selector kinds that a type takes, and its payload length where that is fixed; none for an unknown type. The record
tables: 4-20, 5-17, 6-21, R239, 8-13, 9-9, 10-15, 11-9, 13-11, 14-7, 15-9, 16-8, 17-12, R520, R545, R589. -/
def recordShape (t : Nat) : Option (List Nat × Option Nat) :=
  match t with
  | 0x0100 => some ([1], some 52)
  | 0x0101 => some ([1], some 260)
  | 0x0110 => some ([2], some 36)
  | 0x0111 => some ([2], some 12)
  | 0x0120 => some ([1], some 12)
  | 0x0121 => some ([2], some 8)
  | 0x0122 => some ([0], some 16)
  | 0x0200 => some ([3], some 32)
  | 0x0201 => some ([4], some 12)
  | 0x0202 => some ([5], some 8)
  | 0x0210 => some ([0], some 20)
  | 0x0300 => some ([0], some 20)
  | 0x0301 => some ([0], some 40)
  | 0x0302 => some ([0], none)
  | 0x0310 => some ([0], some 16)
  | 0x0311 => some ([0], some 24)
  | 0x0400 => some ([0], some 12)
  | 0x0401 => some ([0], some 20)
  | 0x0402 => some ([0], none)
  | 0x0500 => some ([0], some 32)
  | 0x0501 => some ([1, 2], some 12)
  | 0x0502 => some ([6], some 20)
  | 0x0600 => some ([0], some 20)
  | 0x0601 => some ([0], some 12)
  | 0x0602 => some ([0], some 8)
  | 0x0700 => some ([6], some 28)
  | 0x0701 => some ([0], some 32)
  | 0x0800 => some ([0], some 12)
  | 0x0801 => some ([0], some 28)
  | 0x0802 => some ([0], some 12)
  | 0x0900 => some ([0], some 16)
  | 0x0901 => some ([0], none)
  | 0x0A00 => some ([0], some 16)
  | 0x0B00 => some ([7], some 12)
  | 0x0C00 => some ([0], some 16)
  | 0x0D00 => some ([0], some 8)
  | 0x0D01 => some ([0], some 12)
  | _ => none

/-- The payload length is one that the type allows (R96, R278, R329, R496). -/
def lengthAllowed (r : ConfigRecord) (fixed : Option Nat) : Bool :=
  let n := r.data.length
  match fixed with
  | some k => decide (n = k)
  | none =>
    decide (8 ≤ n) &&
      (if r.type = 0x0302 then decide (n = 8 + 4 * natBits (leField r.data 4 4) 0 7)
       else if r.type = 0x0901 then decide (n = 8 + 112 * leField r.data 4 4)
       else decide (n % 4 = 0))

/-- The unit of a selector lies in the architectural range (Table 3-11a). -/
def selectorWellFormed (kind n : Nat) : Bool :=
  match kind with
  | 0 => decide (n = 0)
  | 1 => decide (n < 16)
  | 2 => decide (n < 16)
  | 3 => decide (n < 4)
  | 4 => decide (n < 512)
  | 5 => decide (n < 128)
  | 6 => decide (n < 2)
  | 7 => decide (n = 0)
  | 8 => decide (n < 2 ^ 20)
  | _ => false

/-- The unit of a selector is present (Table 3-11a). -/
def selectorPresent (p : Part) (kind n : Nat) : Bool :=
  match kind with
  | 0 => true
  | 1 => natBit (capUnits p) n
  | 2 => jesdPresent p
  | 3 => clusterPresent p n
  | 4 => clusterPresent p (ceCluster n)
  | 5 => clusterPresent p (teCluster n)
  | 6 => ethPresent p n
  | 7 => hjPresent p
  | 8 => decide (n < 2 ^ ncsLog2 p)
  | _ => false

/-- The engines of a cluster (R205). -/
def clusterEngines (c : Nat) : List Nat := (List.range 128).map fun k => 128 * c + k

/-- The registers that a record writes, with their words: each word sets the register that the record table names. -/
def recordWrites (r : ConfigRecord) : List (Nat × Nat) :=
  let n := recordIndex r
  let p := recordPath r
  let w := recordWords r
  let k := w.headD 0
  match r.type with
  | 0x0100 => [R.TRX_CTRL n, R.SYNTH_FREQ n, R.SYNTH_LOCK n, R.TX_TIMING n, R.FE_CTRL n, R.PWR_CFG n, R.BACKOFF_M n, R.RX_OFS n,
      R.PATH_LIMITS n].zip w
  | 0x0101 => ((List.range 64).map (R.PWR_ENTRY n)).zip w
  | 0x0110 => [R.JESD_CTRL, R.JESD_RX_LINK, R.JESD_TX_LINK, R.JESD_LANES, R.JESD_RXCH, R.JESD_TXCH, R.JESD_RATE, R.JESD_RBD].zip w
  | 0x0111 => [R.XS_RF n, R.XS_LAT n].zip w
  | 0x0120 => [R.CAL_CTRL n, R.CAL_PARAM n].zip w
  | 0x0121 => [R.XS_CAL n].zip w
  | 0x0122 => [R.OSC_CFG, R.OSC_PARAM, R.OSC_INIT].zip w
  | 0x0200 =>
    [R.CL_ANT n, R.CL_FD n, R.CL_BOARD_DLY n 0, R.CL_BOARD_DLY n 1, R.CL_BOARD_DLY n 2, R.CL_BOARD_DLY n 3].zip w ++
      (clusterEngines n).map fun e => (R.CE_DET e, listGet 0 w 6)
  | 0x0201 => [R.CE_CFG n, R.CE_DET n].zip w
  | 0x0202 => [R.TE_CFG n].zip w
  | 0x0210 => [R.IMAP_CFG, R.IMAP_THR, R.IMAP_ROFS, R.IMAP_HOLD].zip w
  | 0x0300 => [R.PSM_CTRL, R.PSM_SLOT, R.PSM_TIMING, R.PSM_SUP].zip w
  | 0x0301 => (R.BEACON_CFG :: ([0, 1, 2, 3].map R.BEACON_SLOT ++ [0, 1, 2, 3].map R.JOIN_SLOT)).zip w
  | 0x0302 => (R.CHMAP_HDR (k / 2 ^ 24), k % 2 ^ 24) :: ((List.range 127).map (R.CHMAP_ENT (k / 2 ^ 24))).zip (w.drop 1)
  | 0x0310 => [R.DRIFT_CFG, R.DRIFT_GUARD, R.DRIFT_RAMP].zip w
  | 0x0311 => [R.TRACK_CFG, R.TRACK_CH, R.TRACK_WIN, R.TRACK_EUI_LO, R.TRACK_EUI_HI].zip w
  | 0x0400 => [R.FWD_CFG, R.INFRA_CTRL].zip w
  | 0x0401 => [R.MCAST_CFG k, R.MCAST_SLOT k, R.MCAST_PATHS k].zip (w.drop 1)
  | 0x0402 => ((List.range (w.length - 1)).map fun j => R.INFRA_ENT (k + j)).zip (w.drop 1)
  | 0x0500 => [R.SCHED_CFG, R.DRR_Q0, R.DRR_Q1, R.DRR_Q2, R.CRIM_POL, R.NODE_POL, R.SAMP_CFG].zip w
  | 0x0501 => [R.CRIM_A p, R.CRIM_B p].zip w
  | 0x0502 => [R.SHP_CFG n k, R.SHP_RATE n k, R.SHP_CRED n k].zip (w.drop 1)
  | 0x0600 => ([0, 1, 2, 3].map R.EV_ROUTE).zip w
  | 0x0601 => [R.EV_MASK k].zip (w.drop 1)
  | 0x0602 => [R.HQ_RXMAP].zip w
  | 0x0700 => [R.ETH_CTRL n, R.ETH_MAC_LO n, R.ETH_MAC_HI n, R.ETH_GW_LO n, R.ETH_GW_HI n, R.ETH_PTP_DLY n].zip w
  | 0x0701 => [R.BR_CFG, R.BR_PCP2TC, R.BR_TC2PCP, R.BR_PFX_LO, R.BR_PFX_HI, R.BR_IID_LO, R.BR_IID_HI].zip w
  | 0x0800 => [R.TB_CTRL, R.BRIDGE_CFG].zip w
  | 0x0801 => [R.TSO_CTRL k, R.TSO_TGT_LO k, R.TSO_TGT_HI k, R.TSO_PER k, R.TSO_WIDTH k].zip (w.drop 1)
  | 0x0802 => [R.TSI_CTRL k].zip (w.drop 1)
  | 0x0900 => [R.SEC_CFG, R.SEC_JOIN, R.SEC_ST].zip w
  | 0x0A00 => [R.MI_CFG, R.MI_SCRUB, R.MI_ESC].zip w
  | 0x0B00 => [R.PAIR_CFG, R.HJ_ASYM].zip w
  | 0x0C00 => [R.PWR_CFG21, R.PWR_LEVEL, R.PWR_SLEEP].zip w
  | 0x0D00 => [R.WDOG_CFG].zip w
  | 0x0D01 => [R.GPIO_OUT, R.GPIO_OE].zip w
  | _ => []

/-- Every bit of a field, and of a register's writable fields, as a mask. -/
def fldBits (f : Fld) : Nat × Nat := (f.key, (2 ^ f.width - 1) * 2 ^ f.lo)
def regBits (key : Nat) : Nat × Nat :=
  (key, match regAt key with
    | none => 0
    | some r => r.fields.foldl (fun a f => if f.access = .rwl ∨ f.access = .rw then a ||| (2 ^ f.width - 1) * 2 ^ f.lo else a) 0)

/-- The fields that the runtime-tunable flag opens in a record, as register masks; none where the type may not carry it. -/
def recordOpens (r : ConfigRecord) : List (Nat × Nat) :=
  let n := recordIndex r
  let p := recordPath r
  let k := (recordWords r).headD 0
  match r.type with
  | 0x0100 => [fldBits (R.PWR_CFG_MAX_IDX n), regBits (R.RX_OFS n)]
  | 0x0111 => [regBits (R.XS_LAT n)]
  | 0x0120 => [regBits (R.CAL_CTRL n), regBits (R.CAL_PARAM n)]
  | 0x0122 => [regBits R.OSC_PARAM]
  | 0x0200 => [regBits (R.CL_ANT n), regBits (R.CL_FD n)] ++ (clusterEngines n).map fun e => regBits (R.CE_DET e)
  | 0x0201 => [regBits (R.CE_DET n)]
  | 0x0210 => [regBits R.IMAP_THR, regBits R.IMAP_ROFS, fldBits R.IMAP_CFG_HYST]
  | 0x0300 => [((fldBits R.PSM_SUP_DL_RETRY).1, (fldBits R.PSM_SUP_DL_RETRY).2 + (fldBits R.PSM_SUP_SUP_DEF).2)]
  | 0x0301 => [fldBits R.BEACON_CFG_PWR_IDX]
  | 0x0310 => [regBits R.DRIFT_GUARD, fldBits R.DRIFT_RAMP_K_DEF]
  | 0x0311 => [regBits R.TRACK_WIN]
  | 0x0400 =>
    [(R.FWD_CFG, (fldBits R.FWD_CFG_HB_HYST).2 + (fldBits R.FWD_CFG_HB_AGE).2 + (fldBits R.FWD_CFG_NODE_AGE).2),
     fldBits R.INFRA_CTRL_PERIOD]
  | 0x0401 => [fldBits (R.MCAST_CFG_REPEAT k)]
  | 0x0500 =>
    [fldBits R.SCHED_CFG_W_DEF, regBits R.DRR_Q0, regBits R.DRR_Q1, regBits R.DRR_Q2,
     (R.CRIM_POL, (fldBits R.CRIM_POL_RATE).2 + (fldBits R.CRIM_POL_BURST).2), regBits R.NODE_POL, regBits R.SAMP_CFG]
  | 0x0501 => [regBits (R.CRIM_A p), regBits (R.CRIM_B p)]
  | 0x0502 => [regBits (R.SHP_RATE n k), regBits (R.SHP_CRED n k)]
  | 0x0700 => [regBits (R.ETH_GW_LO n), regBits (R.ETH_GW_HI n), regBits (R.ETH_PTP_DLY n)]
  | 0x0701 => [fldBits R.BR_CFG_RS_TMO]
  | 0x0800 => [regBits R.BRIDGE_CFG]
  | 0x0900 => [fldBits R.SEC_JOIN_EN, fldBits R.SEC_ST_PERIOD]
  | 0x0A00 => [regBits R.MI_SCRUB, regBits R.MI_ESC]
  | 0x0B00 => [fldBits R.PAIR_CFG_KEEP_MS, regBits R.HJ_ASYM]
  | 0x0C00 => [(R.PWR_CFG21, (fldBits R.PWR_CFG21_WARN).2 + (fldBits R.PWR_CFG21_CRIT).2)]
  | 0x0D00 => [fldBits R.WDOG_CFG_TIMEOUT]
  | _ => []

/-! ## Values in range -/

/-- The record addresses an absent unit (R95, R96). -/
def recordAbsent (s : State) (r : ConfigRecord) : Bool := !selectorPresent s.part (recordKind r) (recordIndex r)

/-- The words that the image ends with, by register, the last write first (R96). -/
def imageWrites (s : State) (l : List (Nat × Option ConfigRecord)) : List (Nat × Nat) :=
  ((l.filterMap fun x => x.2).filter fun r =>
    !recordAbsent s r && (match recordShape r.type with | none => false | some x => lengthAllowed r x.2)).foldl
      (fun a r => (recordWrites r).reverse ++ a) []

/-- The value that a field holds at commit: the image's last word, or what the register holds now (R96). -/
def atCommit (s : State) (ws : List (Nat × Nat)) (f : Fld) : Nat :=
  match assocGet ws f.key with
  | none => s.get f
  | some v => natBits v f.lo f.width

/-- A field that the image ends with as a flag. -/
def commitBit (s : State) (ws : List (Nat × Nat)) (f : Fld) : Bool := decide (atCommit s ws f = 1)

/-- A word sets no reserved bit, no bit of a field that is RO, and every field of it lies in its stated range (R96). -/
def wordLegal (key v : Nat) : Bool :=
  match regAt key with
  | none => false
  | some r =>
    let open_ := r.fields.filter fun f => decide (f.access ≠ .ro)
    decide (open_.foldl (fun a f => a + natBits v f.lo f.width * 2 ^ f.lo) 0 = v) &&
      open_.all fun f => match f.range with
        | none => true
        | some (lo, hi) => decide (lo ≤ natBits v f.lo f.width) && decide (natBits v f.lo f.width ≤ hi)

/-- The path is one that the image enables for transmit (R251). -/
def commitTx (s : State) (ws : List (Nat × Nat)) (p : Nat) : Bool :=
  pathPresent s.part p &&
    (if p < 16 then commitBit s ws (R.TRX_CTRL_ENABLE p) else natBit (atCommit s ws R.JESD_TXCH_TX) (p - 16))

/-- Length of SF0 at commit. -/
def commitSf (s : State) (ws : List (Nat × Nat)) : Nat := atCommit s ws R.PSM_SLOT_SF_LEN + 1

/-- Two lanes of a map fall together among the first `l` logical lanes (R137). -/
def lanesClash (map l : Nat) : Bool :=
  (List.range l).any fun i => (List.range i).any fun j => decide (natBits map (2 * i) 2 = natBits map (2 * j) 2)

/-- One direction of the converter port keeps to Table 4-5 and R135: `m` converters, and the codes of L, D and S. -/
def jesdLegal (s : State) (ws : List (Nat × Nat)) (m l d s2 map : Nat) : Bool :=
  let lanes := 2 ^ l
  let bits := if commitBit s ws R.JESD_CTRL_N12 then 12 else 16
  let rate := 8000 * 2 ^ atCommit s ws R.JESD_RATE_FS
  let dev := atCommit s ws R.JESD_RATE_DEVCLK_KHZ
  let octets := m * (s2 + 1) * bits
  decide (m * bits * rate * 2 ^ d = 64 * lanes * dev) &&
    decide (3000000 * 2 ^ d ≤ 66 * dev) && decide (66 * dev ≤ 16220000 * 2 ^ d) &&
    decide (octets % (8 * lanes) = 0) && decide (1 ≤ octets / (8 * lanes)) && decide (octets / (8 * lanes) ≤ 256) &&
    !lanesClash map lanes

/-- Receive and transmit converters of the enables (Table 4-5). -/
def bitCount (v : Nat) : Nat := ((List.range 32).filter (natBit v)).length
def rxConverters (a b : Nat) : Nat := 2 * (bitCount a + bitCount b)
def txConverters (t : Nat) : Nat := 2 * bitCount t

/-- Record 0x0110 (R134 to R137, R144); a direction whose link is not enabled is not held to the equalities. -/
def jesdRecordOk (s : State) (ws : List (Nat × Nat)) : Bool :=
  let v := atCommit s ws
  let a := v R.JESD_RXCH_A
  let b := v R.JESD_RXCH_B
  (List.range 16).all (fun i => !natBit b i || natBit a i) &&
    (!commitBit s ws R.JESD_CTRL_RX_EN ||
      jesdLegal s ws (rxConverters a b) (v R.JESD_RX_LINK_L) (v R.JESD_RX_LINK_D) (v R.JESD_RX_LINK_S2) (v R.JESD_LANES_RX_MAP)) &&
    (!commitBit s ws R.JESD_CTRL_TX_EN ||
      jesdLegal s ws (txConverters (v R.JESD_TXCH_TX)) (v R.JESD_TX_LINK_L) (v R.JESD_TX_LINK_D) (v R.JESD_TX_LINK_S2)
        (v R.JESD_LANES_TX_MAP))

/-- The offsets of the enabled beacon and join slots. -/
def slotOffsets (s : State) (ws : List (Nat × Nat)) : List Nat :=
  (([0, 1, 2, 3].filter fun k => commitBit s ws (R.BEACON_SLOT_EN k)).map fun k => atCommit s ws (R.BEACON_SLOT_SLOT k)) ++
    (([0, 1, 2, 3].filter fun k => commitBit s ws (R.JOIN_SLOT_EN k)).map fun k => atCommit s ws (R.JOIN_SLOT_SLOT k))

/-- No element of a list occurs twice. -/
def noRepeat : List Nat → Bool
  | [] => true
  | x :: t => !t.contains x && noRepeat t

/-- Record 0x0301: beacon and join slots (R244, R251, R276, R606). `ws` gives the record's own fields, `at_` those at commit. -/
def beaconRecordOk (s : State) (ws at_ : List (Nat × Nat)) : Bool :=
  let v := atCommit s ws
  let four := [0, 1, 2, 3]
  let beacons := four.filter fun k => commitBit s ws (R.BEACON_SLOT_EN k)
  let joins := four.filter fun k => commitBit s ws (R.JOIN_SLOT_EN k)
  let mode := v R.BEACON_CFG_MODE
  let map := v (R.CHMAP_HDR_LEN (v R.BEACON_CFG_MAP))
  four.all (fun k => decide (v (R.BEACON_SLOT_SLOT k) < commitSf s ws) && decide (v (R.JOIN_SLOT_SLOT k) < commitSf s ws)) &&
    noRepeat (slotOffsets s ws) &&
    (four.filter fun k => commitBit s at_ (R.BEACON_SLOT_EN k)).all
      (fun k => !modeExcluded (atCommit s at_ (R.BEACON_SLOT_PATH k)) mode) &&
    beacons.all (fun k => !modeExcluded (v (R.BEACON_SLOT_PATH k)) (atCommit s at_ R.BEACON_CFG_MODE) &&
      commitTx s ws (v (R.BEACON_SLOT_PATH k))) &&
    joins.all (fun k => modeSupported (v (R.JOIN_SLOT_MODE k))) &&
    ((beacons.isEmpty && joins.isEmpty) || decide (map ≠ 0)) &&
    (beacons.isEmpty || decide (54 + 3 * beacons.length + 4 * joins.length + 3 * map ≤ modePsdu mode))

/-- Record 0x0401: a group (R329). -/
def groupRecordOk (s : State) (ws : List (Nat × Nat)) (g : Nat) : Bool :=
  let v := atCommit s ws
  decide (g ≤ 255) &&
    (!commitBit s ws (R.MCAST_CFG_EN g) ||
      (decide (v (R.MCAST_SLOT_SLOT g) < commitSf s ws) &&
        (List.range 32).all fun p => !natBit (v (R.MCAST_PATHS_PATHS g)) p || !modeExcluded p (v (R.MCAST_SLOT_MODE g))))

/-- Record 0x0402: infrastructure entries (R329). -/
def infraRecordOk (s : State) (ws : List (Nat × Nat)) (first : Nat) (l : List Nat) : Bool :=
  let held := (ws.map fun x => x.1).filter fun a => decide (R.INFRA_ENT 0 ≤ a) && decide (a < R.INFRA_ENT 16384)
  decide (first + l.length ≤ 16384) &&
    (List.range l.length).all fun j =>
      let e := listGet 0 l j
      !entValid e ||
        ((!entPin e || pathPresent s.part (entPath e)) &&
          !(held.any fun a =>
            let o := (assocGet ws a).getD 0
            decide (a ≠ R.INFRA_ENT (first + j)) && entValid o && decide (entIndex o = entIndex e)))

/-- The offsets of SF0 that a path's reservations may not take (R343). -/
def takenOffsets (s : State) (ws : List (Nat × Nat)) (p : Nat) : List Nat :=
  let v := atCommit s ws
  let four := [0, 1, 2, 3]
  ((four.filter fun k => commitBit s ws (R.BEACON_SLOT_EN k) && decide (v (R.BEACON_SLOT_PATH k) = p)).map fun k =>
      v (R.BEACON_SLOT_SLOT k)) ++
    ((four.filter fun k => commitBit s ws (R.JOIN_SLOT_EN k)).map fun k => v (R.JOIN_SLOT_SLOT k)) ++
    (if commitBit s ws R.TRACK_CFG_EN && decide (v R.TRACK_CFG_PATH = p) then [v R.TRACK_CFG_SLOT] else []) ++
    (((List.range 256).filter fun g => commitBit s ws (R.MCAST_CFG_EN g) && natBit (v (R.MCAST_PATHS_PATHS g)) p).map fun g =>
      v (R.MCAST_SLOT_SLOT g))

/-- A reservation word keeps to R351. -/
def crimOk (s : State) (ws : List (Nat × Nat)) (p w : Nat) : Bool :=
  let offs := (if natBit w 15 then [natBits w 0 12] else []) ++ (if natBit w 31 then [natBits w 16 12] else [])
  offs.all fun o => decide (o < commitSf s ws) && !(takenOffsets s ws p).contains o

/-- Rate in kb/s of an ETH_CTRL.SPEED code (Table 14-1). -/
def speedRate (c : Nat) : Nat := if c = 0 then 1000000 else if c = 1 then 10000000 else 25000000

/-- Record 0x0502: a bucket (R351, Table 11-7). -/
def bucketRecordOk (s : State) (ws : List (Nat × Nat)) (e c : Nat) : Bool :=
  let v := atCommit s ws
  decide (c ≤ 7) && !(decide (c = 0) && commitBit s ws (R.SHP_CFG_EN e c)) &&
    decide (v (R.SHP_RATE_IDLE e c) ≤ speedRate (v (R.ETH_CTRL_SPEED e))) &&
    decide (signedOf 16 (v (R.SHP_CRED_LO e c)) ≤ 0)

/-! ## Key transport (R482, R483) -/

/-- The entries of a 0x0901 payload: 112 bytes each. -/
def keyEntries (data : List Byte) : List (List Byte) :=
  (List.range (leField data 4 4)).map fun i => sliceBytes data (8 + 112 * i) 112

/-- K_M and K_JR unwrapped from the one entry that carries the device's serial (R483). -/
def unwrapKeys (s : State) (data : List Byte) : Option (BitVec 128 × BitVec 128) :=
  match (keyEntries data).filter fun e => decide (e.take 8 = s.otp.serial) with
  | [e] =>
    let z := Config.ecdhX (privateKey s.otp.secret labelKA) (sliceBytes e 8 64)
    let short := (toBE 32 (Config.sha256 z).toNat).take 16
    let kek := kdf (BitVec.ofNat 128 (beBytes short)) labelKT s.otp.serial
    (Config.kwUnwrap kek (sliceBytes e 72 40)).map fun k => (BitVec.ofNat 128 (beField k 0 16), BitVec.ofNat 128 (beField k 16 16))
  | _ => none

/-! ## The validation pass (R96) -/

/-- The band of a cluster's streams, kHz (Table 4-1): what the windows of its own transceivers reach. -/
def bandOk (cluster f : Nat) : Bool :=
  if cluster < 2 then decide (150000 ≤ f) && decide (f ≤ 960000) else decide (2400000 ≤ f) && decide (f ≤ 2483500)

/-- The checks of a record's own chapter: the fields it writes at the values it gives them (`o`), every other field at the value it
will hold at commit (`v`) (R96). -/
def valuesOk (s : State) (ws : List (Nat × Nat)) (r : ConfigRecord) : Bool :=
  let own := (recordWrites r).reverse ++ ws
  let o := atCommit s own
  let v := atCommit s ws
  let n := recordIndex r
  let w := recordWords r
  let k := w.headD 0
  match r.type with
  | 0x0100 =>
    let f := o (R.SYNTH_FREQ_FREQ n)
    (w.drop 9).all (fun x => decide (x = 0)) &&
      (!commitBit s ws (R.TRX_CTRL_ENABLE n) ||
        (if n < 8 then decide (156400 ≤ f) && decide (f ≤ 953600) else decide (2412800 ≤ f) && decide (f ≤ 2470700)))
  | 0x0101 => w.all fun x => decide (natBits x 0 7 ≤ if n < 8 then 63 else 64)
  | 0x0110 => jesdRecordOk s own
  | 0x0111 =>
    !(natBit (v R.JESD_RXCH_A) n || natBit (v R.JESD_TXCH_TX) n) || bandOk (n / 4) (o (R.XS_RF_FREQ n))
  | 0x0122 =>
    let slope := (signedOf 16 (o R.OSC_CFG_SLOPE)).natAbs
    decide (v R.OSC_CFG_MODE ≠ 1) || (decide (625 ≤ slope) && decide (slope ≤ 10000))
  | 0x0210 => decide (o R.IMAP_THR_T1 < o R.IMAP_THR_T2) && decide (o R.IMAP_THR_T2 < o R.IMAP_THR_T4) &&
      decide (o R.IMAP_THR_T4 < o R.IMAP_THR_T6)
  | 0x0300 => decide ((v R.ASN_INIT_HI_ASN * 2 ^ 32 + v R.ASN_INIT_LO_ASN) % commitSf s own = 0)
  | 0x0301 => beaconRecordOk s own ws
  | 0x0302 => decide (natBits k 0 7 ≤ 64)
  | 0x0311 =>
    let lo := o R.TRACK_WIN_W_MIN
    let hi := o R.TRACK_WIN_W_MAX
    decide (20 ≤ lo) && decide (lo ≤ hi) && decide (hi + 200 ≤ 2 * v R.PSM_TIMING_T_POLL) &&
      decide (o R.TRACK_CFG_SLOT < commitSf s ws) && !modeExcluded (v R.TRACK_CFG_PATH) (o R.TRACK_CFG_MODE)
  | 0x0401 => groupRecordOk s own k
  | 0x0402 => infraRecordOk s own k (w.drop 1)
  | 0x0501 => w.all (crimOk s ws (recordPath r))
  | 0x0502 => bucketRecordOk s own n k
  | 0x0601 => decide (k ≤ 0x1F)
  | 0x0700 => !(commitBit s own (R.ETH_CTRL_PREEMPT n) && !natBit (o (R.ETH_CTRL_EXPRESS n)) 0)
  | 0x0701 => decide (o R.BR_CFG_PORTSEL = 0) || ethPresent s.part 1
  | 0x0800 => decide (o R.TB_CTRL_STEP_MAX ≤ v R.PSM_SLOT_SLOT_LEN * 125)
  | 0x0801 =>
    decide (k ≤ 3) &&
      (!commitBit s own (R.TSO_CTRL_EN k) ||
        (decide (8 ≤ o (R.TSO_WIDTH_WIDTH k)) &&
          (!commitBit s own (R.TSO_CTRL_MODE k) ||
            (decide (16 ≤ o (R.TSO_PER_PER k)) && decide (o (R.TSO_WIDTH_WIDTH k) < o (R.TSO_PER_PER k))))))
  | 0x0802 => decide (k ≤ 1)
  | 0x0900 =>
    let p := o R.SEC_ST_PERIOD
    !(commitBit s own R.SEC_CFG_APPROVED && decide (p = 0)) && (decide (p = 0) || decide (60 ≤ p))
  | 0x0901 => decide (1 ≤ k) && decide (k ≤ 8) && (unwrapKeys s r.data).isSome
  | 0x0C00 => decide (85 ≤ o R.PWR_CFG21_WARN) && decide (v R.PWR_CFG21_WARN + 5 ≤ o R.PWR_CFG21_CRIT)
  | 0x0D00 => decide (10 ≤ o R.WDOG_CFG_TIMEOUT) && !(commitBit s own R.WDOG_CFG_EN && decide (o R.WDOG_CFG_LIMIT = 0))
  | _ => true

/-- The mandatory types. -/
def mandatoryTypes : List Nat := [0x0300, 0x0701, 0x0900, 0x0901]

/-- The reason with which a record other than the commit record rejects the image, or 0 (Table 3-11). -/
def recordReason (s : State) (ws : List (Nat × Nat)) (r : ConfigRecord) : Nat :=
  if natBits r.flags 2 14 ≠ 0 then 0x10
  else match recordShape r.type with
    | none => 0x11
    | some (kinds, fixed) =>
      if r.data.length < 4 ∨ lengthAllowed r fixed = false then 0x10
      else if !kinds.contains (recordKind r) || !selectorWellFormed (recordKind r) (recordIndex r) ||
          (decide (r.type = 0x0110) && decide (recordIndex r ≠ 0)) then 0x12
      else if recordAbsent s r then (if r.optional then 0 else 0x13)
      else if !((recordWrites r).all fun x => wordLegal x.1 x.2) || !valuesOk s ws r then 0x14
      else if r.tunable && (recordOpens r).isEmpty then 0x15
      else 0

/-- The reason of a commit record: it is well formed, it ends the image, and no mandatory type is missing. -/
def commitReason (r : ConfigRecord) (last : Bool) (seen : List Nat) : Nat :=
  if natBits r.flags 2 14 ≠ 0 ∨ r.data ≠ [] then 0x10
  else if r.tunable then 0x15
  else if r.flags ≠ 0 ∨ last = false then 0x16
  else if mandatoryTypes.all fun t => seen.contains t then 0
  else 0x16

/-- The validation pass over the records, in order: the reason and the offset where it was found (R96, R97). -/
def validate (s : State) (ws : List (Nat × Nat)) : List Nat → Nat → List (Nat × Option ConfigRecord) → Nat × Nat
  | _, at_, [] => (0x16, at_)
  | _, _, (o, none) :: _ => (0x10, o)
  | seen, _, (o, some r) :: t =>
    if r.type = commitType then (commitReason r t.isEmpty seen, o)
    else
      let reason := recordReason s ws r
      if reason ≠ 0 then (reason, o) else validate s ws (r.type :: seen) o t

/-- The verdict on the records of an image: the reason, 0 where it passes, and the offset. -/
def validateImage (s : State) (img : List Byte) : Nat × Nat :=
  let l := imageRecords img
  validate s (imageWrites s l) [] 256 l

/-- The records of a validated image that apply, and those that are skipped. -/
def commitRecords (img : List Byte) : List ConfigRecord :=
  ((imageRecords img).filterMap fun x => x.2).filter fun r => decide (r.type ≠ commitType)
def appliedRecords (s : State) (img : List Byte) : List ConfigRecord := (commitRecords img).filter fun r => !recordAbsent s r
def skippedRecords (s : State) (img : List Byte) : List ConfigRecord := (commitRecords img).filter (recordAbsent s)

/-- The words that a validated image ends with, by register in rising order. -/
def imageValues (s : State) (img : List Byte) : List (Nat × Nat) :=
  (appliedRecords s img).foldl (fun l r => (recordWrites r).foldl (fun m x => assocSet m x.1 x.2) l) []

/-- The fields opened to runtime tuning: the last record that writes a register decides (R101). -/
def imageTunable (s : State) (img : List Byte) : List (Nat × Nat) :=
  (appliedRecords s img).foldl (fun l r =>
    let l := (recordWrites r).foldl (fun m x => assocDel m x.1) l
    if r.tunable then (recordOpens r).foldl (fun m x => assocSet m x.1 x.2) l else l) []

/-! ## Writing configuration values -/

/-- A word's writable bits replaced by those of `v`; fields that software cannot write keep their value. -/
def mergeWord (key : Nat) (old : Word) (v : Nat) : Word :=
  match regAt key with
  | none => old
  | some r =>
    r.fields.foldl (fun w f => if f.access = .rw ∨ f.access = .rwl then setBits w f.lo f.width (natBits v f.lo f.width) else w) old

/-- Write a register as a record does. -/
def putConfig (s : State) (key v : Nat) : State := s.setWord key (mergeWord key (s.word key) v)

/-- The computed fields of the converter links (Table 4-17). -/
def viewJesd (s : State) : State :=
  let bits := if s.bit R.JESD_CTRL_N12 then 12 else 16
  let octets (m l s2 : Nat) : Nat := m * (s2 + 1) * bits / (8 * 2 ^ l)
  let rx := rxConverters (s.get R.JESD_RXCH_A) (s.get R.JESD_RXCH_B)
  let tx := txConverters (s.get R.JESD_TXCH_TX)
  let s := (s.set R.JESD_RX_LINK_M rx).set R.JESD_RX_LINK_F (octets rx (s.get R.JESD_RX_LINK_L) (s.get R.JESD_RX_LINK_S2) - 1)
  (s.set R.JESD_TX_LINK_M tx).set R.JESD_TX_LINK_F (octets tx (s.get R.JESD_TX_LINK_L) (s.get R.JESD_TX_LINK_S2) - 1)

/-- A pulse output takes the settings of its registers: a legal enable arms it (R416, R417). -/
def takeTso (s : State) (n : Nat) : State :=
  let t := s.get (R.TSO_TGT_HI_T n) * 2 ^ 32 + s.get (R.TSO_TGT_LO_T n)
  let on := s.bit (R.TSO_CTRL_EN n)
  let s := s.setTso n { s.tso n with target := t, stagedLo := s.get (R.TSO_TGT_LO_T n), k := 0, pulse := false }
  if on && tsoLegal s n then tsoPassed (armTso s n true) n else armTso s n false

/-- A channel engine takes its CE_CFG.EN: OFF while it is 0 (R183). -/
def takeCe (s : State) (n : Nat) : State :=
  if !s.bit (R.CE_CFG_EN n) then (s.set (R.CE_STATE_STATE n) 0).setCe n CeState.idle
  else if s.get (R.CE_STATE_STATE n) = 0 then s.set (R.CE_STATE_STATE n) 1
  else s

/-- A port that its ETH_CTRL disables goes down (Table 13-5). -/
def takeEth (s : State) (e : Nat) : State :=
  if !s.bit (R.ETH_CTRL_EN e) && s.bit (R.ETH_STATUS_LINK e) then portDown s e 2 else s

/-- The indexes below `n` whose register is among the written ones. -/
def writtenOf (keys : List Nat) (reg : Nat → Nat) (n : Nat) : List Nat := (List.range n).filter fun i => keys.contains (reg i)

/-- A path outside a transmit interval takes its receive levels from FE_CTRL (R133). -/
def takeFrontEnd (s : State) (n : Nat) : State := if (s.path n).interval.isNone then frontEndReceive s n else s

/-- The guard registers changed: an agreement frame goes to every node that R294 now asks it for. -/
def takeGuards (s : State) (keys : List Nat) : State :=
  if [R.DRIFT_CFG, R.DRIFT_RAMP, R.DRIFT_GUARD].any keys.contains then foldState considerAgreement s (validNodes s) else s

/-- What configuration values that were written bring with them beyond their registers. -/
def configTaken (s : State) (keys : List Nat) : State :=
  let s := foldState takeFrontEnd s (writtenOf keys R.FE_CTRL 16)
  let s := foldState takeCe s (writtenOf keys R.CE_CFG 512)
  let s := foldState takeTso s (writtenOf keys R.TSO_CTRL 4)
  let s := foldState takeEth s (writtenOf keys R.ETH_CTRL 2)
  let s := if !s.bit R.TRACK_CFG_EN then s.set R.TRACK_STATUS_STATE 0
    else if s.get R.TRACK_STATUS_STATE = 0 then s.set R.TRACK_STATUS_STATE 1 else s
  let s := if keys.contains R.GPIO_OUT then
      s.putApp { s.app with gpioOut := s.get R.GPIO_OUT_BITS, gpioOe := s.get R.GPIO_OE_BITS }
    else s
  let s := takeGuards s keys
  if jesdPresent s.part then viewJesd s else s

/-- Write a list of configuration words: infrastructure entries go through R317, the rest into their registers. -/
def putValues (s : State) (l : List (Nat × Nat)) : State :=
  foldState (fun (t : State) (x : Nat × Nat) =>
    if R.INFRA_ENT 0 ≤ x.1 ∧ x.1 < R.INFRA_ENT 16384 then infraWrite t ((x.1 - R.INFRA_ENT 0) / 4) x.2 else putConfig t x.1 x.2) s l

end Sys2Proof.Machine
end

