-- ==== Sys2Proof/Machine/AppOps.lean ====
section
/-!
DEFINITION. The application core and the control cores (chapter 16), shared operations: loading the image (R438, R556), the
reset of HOLD (R439), the watchdogs' counts (R435, R440).
-/

namespace Sys2Proof.Machine

/-- APP_STAT.STATE codes (Table 16-7). -/
def appReset : Nat := 0
def appRuns : Nat := 1
def appDebug : Nat := 2
def appDouble : Nat := 3

/-- Sizes of IRAM, DRAM and the part of DRAM that a reload keeps (R437, R556). -/
def iramSize : Nat := 0x100000
def dramSize : Nat := 0x80000
def dramKept : Nat := 0x7F000

/-- Copy the application image into IRAM and DRAM as its header directs; the top 4 KiB of DRAM keep what they hold (R438,
R556). -/
def loadApp (s : State) (img : List Byte) : State :=
  let iram := sliceBytes img 256 (leField img 164 4)
  let dram := sliceBytes img (256 + leField img 164 4) (leField img 168 4)
  let kept : ByteMem := s.app.dram.filter fun c => decide (dramKept ≤ c.1)
  s.putApp { s.app with iram := setBytes [] 0 (iram.take iramSize), dram := setBytes kept 0 (dram.take dramKept), entry := leField img 160 4, badWords := [] }

/-- The watchdog count restarts from 0 (R440). -/
def restartWdog (s : State) : State :=
  aicLevel (((s.putApp { s.app with kickAt := s.now }).set R.WDOG_STAT_WARN 0).set R.WDOG_STAT_COUNT 0) 70 false

/-- The core leaves reset at its entry address. -/
def releaseApp (s : State) : State :=
  restartWdog ((s.putApp { s.app with reloading := false, waiting := false }).set R.APP_STAT_STATE appRuns)

/-- The registers of the general timers and the GPIO functions take their reset values. -/
def appBlock (key : Nat) : Bool :=
  (decide (R.GT_CFG 0 ≤ key) && decide (key < R.GT_CFG 32)) || (decide (R.GPIO_CFG 0 ≤ key) && decide (key < R.GPIO_CFG 32))

/-- The core and its GPIO, timer, I²C, SPI and UART blocks enter reset; GPIO outputs take the values of record 0x0D01 (R439). -/
def resetApp (s : State) : State :=
  let s := s.putRegs (s.regs.filter fun c => !appBlock c.1)
  let s := s.putTb { s.tb with gt := [], gtWrites := [] }
  let s := (s.set R.GPIO_OUT_BITS s.app.gpioOut).set R.GPIO_OE_BITS s.app.gpioOe
  let s := s.putApp { s.app with reloading := false, waiting := false }
  foldState (fun t src => aicLevel t src false) (s.set R.APP_STAT_STATE appReset) (s.app.levels.filter fun l => decide (l < 68))

/-- The runtime begins to reload the image from the slot that booted (R439). -/
def reloadApp (s : State) : State := s.putApp { s.app with reloading := true }

/-- The application core is present in this boot: it has an image in force (R89). -/
def appLoaded (s : State) : Bool := (assocGet s.boot.images 4).isSome

/-- Milliseconds since the last kick (WDOG_STAT.COUNT). -/
def wdogCount (s : State) : Nat := (s.now - s.app.kickAt) / 1000000

/-- Control core n beside CPU_STAT. -/
def cpuOf (s : State) (n : Nat) : CpuState := (assocGet s.cpus n).getD { expiries := [], beat := 0, beatAt := 0 }

/-- HEARTBEAT of a core: it rises every millisecond while the core runs (R435). -/
def heartbeat (s : State) (n : Nat) : Nat :=
  (cpuOf s n).beat + (if s.get (R.CPU_STAT_STATE n) = 1 then (s.now - (cpuOf s n).beatAt) / 1000000 else 0)

/-- A control core enters a state of Table 16-1. -/
def setCpu (s : State) (n state : Nat) : State :=
  let b := heartbeat s n % 65536
  let s := s.putCpus (assocSet s.cpus n { cpuOf s n with beat := b, beatAt := s.now })
  (s.set (R.CPU_STAT_HEARTBEAT n) b).set (R.CPU_STAT_STATE n) state

end Sys2Proof.Machine
end

