-- ==== Sys2Proof/Machine/Forwarding.lean ====
section
/-!
DEFINITION. The commands of chapter 10: EHT, heard-by, NCS and snapshot commands, the sweeps, the infrastructure
table, BAR2 reads.
-/

namespace Sys2Proof.Machine

open Host (Outcome)

/-- The requester may use a privileged OP of the forwarding block (R328). -/
def fwdFull (q : Requester) : Bool := q = .control || q = .security

/-! ## EUI hash table -/

/-- The EUI-64 of a requester's EHT_EUI registers. -/
def ehtEuiOf (s : State) (q : Requester) : Nat := s.get (R.EHT_EUI_LO_EUI q.bank) + 2 ^ 32 * s.get (R.EHT_EUI_HI_EUI q.bank)

/-- EHT_STAT of a requester: result and index. -/
def ehtAnswer (s : State) (q : Requester) (result index : Nat) : State :=
  (s.set (R.EHT_STAT_RESULT q.bank) result).set (R.EHT_STAT_INDEX q.bank) index

/-- A soft error in one entry of the bucket of an EUI-64: `flip` is what it inverts (0 none). -/
def ehtUpset (s : State) (eui way flip : Nat) : State :=
  let k := 4 * ehtBucket s eui + way % 4
  if flip = 0 then s else s.setEht k (s.ehtAt k ^^^ BitVec.ofNat 96 flip)

/-- EHT_LOOKUP (R307, R309, R328). -/
def execEhtLookup (q : Requester) (way flip : Nat) (s : State) : Outcome State Fault Refusal :=
  if !openTo s q then done s else
  let eui := ehtEuiOf s q
  let s := ehtUpset s eui way flip
  let (t, hit) := ehtLookup s eui
  match hit with
  | some i => done (ehtAnswer t q 0 i)
  | none => done (ehtAnswer t q (if (ehtMet s eui).isEmpty then 1 else 4) 0)

/-- EHT_INSERT (R308, R328). -/
def execEhtInsert (q : Requester) (index : Nat) (s : State) : Outcome State Fault Refusal :=
  if !openTo s q then done s else
  if !fwdFull q then done (s.set (R.EHT_STAT_RESULT q.bank) 3)
  else
    let (t, result, i) := ehtInsert s (ehtEuiOf s q) index
    done (ehtAnswer t q result i)

/-- EHT_DELETE (R308, R328). -/
def execEhtDelete (q : Requester) (s : State) : Outcome State Fault Refusal :=
  if !openTo s q then done s else
  if !fwdFull q then done (s.set (R.EHT_STAT_RESULT q.bank) 3)
  else
    let eui := ehtEuiOf s q
    let (t, found) := ehtDelete s eui
    done (t.set (R.EHT_STAT_RESULT q.bank) (if found then 0 else if (ehtMet s eui).isEmpty then 1 else 4))

/-- EHT_REBUILD_DONE: the pass rewrites its buckets; those that failed meanwhile start the next pass (R309). -/
def execEhtRebuildDone (s : State) : Outcome State Fault Refusal :=
  let s := foldState rebuildBucket s s.fwd.pass
  let s := s.putFwd { s.fwd with pass := s.fwd.rebuild, rebuild := [] }
  done (s.setBit R.FWD_STATUS_REBUILD (!s.fwd.pass.isEmpty))

/-! ## Heard-by -/

/-- HEARD_BY_UPDATE: one learning write of cluster c, through its report queue (R19, R312). `flip` is what a soft error inverted in the entry. -/
def execHeardByUpdate (cluster node path ant : Nat) (rssi : Int) (flip : Nat) (s : State) : Outcome State Fault Refusal :=
  if running s = true ∧ clusterPresent s.part cluster ∧ node < lineCount s then
    let s := s.setHbWord cluster node (s.hbAt cluster node ^^^ BitVec.ofNat 16 flip)
    done (hbUpdate s cluster node path ant (rssiBucket rssi))
  else done s

/-- HB_TICK (R313). -/
def execHbTick (s : State) : Outcome State Fault Refusal := if running s then done (hbAdvance s 1) else done s

/-- HB_READ: HB_CMD OP 1 (R328, Table 10-11). -/
def execHbRead (q : Requester) (cluster index : Nat) (s : State) : Outcome State Fault Refusal :=
  if !openTo s q then done s else
  if !clusterPresent s.part cluster then done (s.set (R.HB_STAT_RESULT q.bank) 1)
  else
    let s := s.set (R.HB_STAT_ENTRY q.bank) (s.hbAt cluster index).toNat
    done (s.set (R.HB_STAT_RESULT q.bank) (if hbBad s cluster index then 3 else 0))

/-- HB_INVALIDATE: HB_CMD OP 2 (R328): a learned entry loses VALID; a static entry stays, and so does one with
bad parity, which counts as invalid (R313). -/
def execHbInvalidate (q : Requester) (cluster index : Nat) (s : State) : Outcome State Fault Refusal :=
  if !openTo s q then done s else
  if !clusterPresent s.part cluster then done (s.set (R.HB_STAT_RESULT q.bank) 1)
  else
    let e := hbFields (s.hbAt cluster index)
    if hbBad s cluster index then done (s.set (R.HB_STAT_RESULT q.bank) 3)
    else if e.static_ then done (s.set (R.HB_STAT_RESULT q.bank) 2)
    else done ((s.setHb cluster index { e with valid := false }).set (R.HB_STAT_RESULT q.bank) 0)

/-! ## NCS commands -/

/-- NCS_STAT.RESULT of a requester. -/
def ncsAnswer (s : State) (q : Requester) (result : Nat) : State := s.set (R.NCS_STAT_RESULT q.bank) result

/-- The checks every NCS line command makes first: index and bulk clear (Table 10-11). -/
def ncsCheck (s : State) (index : Nat) : Nat :=
  if lineCount s ≤ index then 1 else if s.bit R.FWD_STATUS_CLEARING then 4 else 0

/-- NCS_READ: the line goes to NCS_DATA0–15 (R328); a poisoned line leaves them. -/
def execNcsRead (q : Requester) (index : Nat) (s : State) : Outcome State Fault Refusal :=
  if !openTo s q then done s else
  let c := ncsCheck s index
  if c ≠ 0 then done (ncsAnswer s q c)
  else if linePoisoned s index then done (ncsAnswer s q 2)
  else
    let l := s.line index
    let s := foldState (fun (t : State) i => t.set (R.NCS_DATA_DATA i q.bank) (natBits l.toNat (32 * i) 32)) s (List.range 16)
    done (ncsAnswer s q 0)

/-- The byte mask and the data of a requester's NCS registers. -/
def ncsMask (s : State) (q : Requester) : Nat := s.get (R.NCS_MASK_LO_MASK q.bank) + 2 ^ 32 * s.get (R.NCS_MASK_HI_MASK q.bank)
def ncsData (s : State) (q : Requester) : Nat :=
  (List.range 16).foldl (fun a i => a + s.get (R.NCS_DATA_DATA i q.bank) * 2 ^ (32 * i)) 0

/-- A line with the masked bytes replaced. -/
def maskedLine (old : Line) (mask data : Nat) : Line :=
  BitVec.ofNat 512 ((List.range 64).foldl (fun a b => a +
    natBits (if natBit mask b then data else old.toNat) (8 * b) 8 * 2 ^ (8 * b)) 0)

/-- The map entry of a node goes when its line loses VALID or changes its EUI-64 (R237). -/
def mapForget (s : State) (n : Nat) (old new : Line) : State :=
  if (lineBit old N.VALID && !lineBit new N.VALID) || decide (lineGet old N.EUI ≠ lineGet new N.EUI) then freeMapEntry s n
  else s

/-- NCS_MASKED_WRITE (R303, R500, R328); a device that does not claim refuses it (R522). -/
def execNcsMaskedWrite (q : Requester) (index : Nat) (s : State) : Outcome State Fault Refusal :=
  if !openTo s q then done s else
  let c := ncsCheck s index
  if !fwdFull q || !s.bit R.PAIR_STATUS_CLAIM_OUT then done (ncsAnswer s q 3)
  else if c ≠ 0 then done (ncsAnswer s q c)
  else
    let mask := ncsMask s q
    if linePoisoned s index && decide (mask ≠ 2 ^ 64 - 1) then done (ncsAnswer (consumeLine s index) q 2)
    else
      let old := s.line index
      let new := maskedLine old mask (ncsData s q)
      done (ncsAnswer (mapForget (writeLine s index new) index old new) q 0)

/-- NCS_ZERO_LINE (R328, R237, R522). -/
def execNcsZeroLine (q : Requester) (index : Nat) (s : State) : Outcome State Fault Refusal :=
  if !openTo s q then done s else
  let c := ncsCheck s index
  if !fwdFull q || !s.bit R.PAIR_STATUS_CLAIM_OUT then done (ncsAnswer s q 3)
  else if c ≠ 0 then done (ncsAnswer s q c)
  else done (ncsAnswer (freeMapEntry (writeLine s index 0#512) index) q 0)

/-- Every line, the EHT, the overflow store and the heard-by tables are emptied, and every node downlink queue is
dropped (R327). -/
def clearNodes (s : State) (by_ : Nat) : State :=
  let s := flushAllDownlink s
  let s := s.putFwd { s.fwd with ncs := [], eht := [], hb := [], pass := [], rebuild := [],
                                 snap := { s.fwd.snap with job := .clearing, clearBy := by_ } }
  let s := s.putMi { s.mi with bad := s.mi.bad.filter (fun x => x.1 ≠ .ncs),
                               flipped := s.mi.flipped.filter (fun x => x.1 ≠ .ncs), tiles := [] }
  let s := s.putSec { s.sec with cache := [] }
  let s := viewImap (s.putImap { s.imap with entries := [] })
  let s := (s.set R.PSM_STATUS_SUSPECT 0).set R.FWD_STATUS_REBUILD 0
  viewOverflow (s.set R.FWD_STATUS_CLEARING 1)

/-- The requester code of NCS_CLEARED. -/
def clearCode (q : Requester) : Nat :=
  match q with
  | .host => 0
  | .app => 1
  | .control => 2
  | .security => 2

/-- NCS_BULK_CLEAR (R327, R328, R536, R522). -/
def execNcsBulkClear (q : Requester) (s : State) : Outcome State Fault Refusal :=
  if !openTo s q then done s else
  if !s.bit R.PAIR_STATUS_CLAIM_OUT then done (ncsAnswer s q 3)
  else
  match s.fwd.snap.job with
  | .clearing => done (ncsAnswer s q 4)
  | .idle =>
    let s := mirror s (.bulkClear (clearCode q))
    done (((clearNodes s (clearCode q)).set (R.NCS_STAT_BUSY q.bank) 1))
  | _ => done (ncsAnswer s q 5)

/-- BULK_CLEAR_DONE: the pins are re-applied and NCS_CLEARED is posted (R327). -/
def execBulkClearDone (s : State) : Outcome State Fault Refusal :=
  if s.fwd.snap.job = .clearing then
    let by_ := s.fwd.snap.clearBy
    let s := s.putFwd { s.fwd with snap := { SnapState.idle with sequence := s.fwd.snap.sequence } }
    let s := s.set R.FWD_STATUS_CLEARING 0
    let s := foldState (fun t q => if t.bit (R.NCS_STAT_BUSY q) then (t.set (R.NCS_STAT_BUSY q) 0).set (R.NCS_STAT_RESULT q) 0 else t)
      s [0, 1, 2]
    done (postEvent 0x0807 [(0, 1, by_)] (reapplyPins s))
  else done s

/-! ## Line ageing -/

/-- Zero a retired or freed line and count AGED (R315). -/
def ageOut (s : State) (n : Nat) : State := (freeMapEntry (writeLine s n 0#512) n).bump R.FWD_CNT2_AGED

/-- Delete every EHT entry that names a line (R315). -/
def ehtForget (s : State) (n : Nat) : State :=
  let mine := s.fwd.eht.filter fun c => ehtLive c.2 && decide (ehtIndex c.2 = n)
  foldState (fun t (c : Nat × BitVec 96) => ehtDrop t (ehtBucket t (ehtEui c.2)) c.1) s mine

/-- The visit of one line (R315). -/
def ageLine (s : State) (n : Nat) : State :=
  if linePoisoned s n then consumeLine s n
  else
    let l := s.line n
    let now := s.get R.FWD_STATUS_NODE_MIN
    let age := (now + 65536 - lineGet l N.AGE) % 65536
    let old := decide (s.get R.FWD_CFG_NODE_AGE < age)
    if old && !lineBit l N.VALID && !lineBit l N.ROUTER && !lineBit l N.REBUILD && decide (lineGet l N.EUI ≠ 0) then
      (ehtDelete (ageOut s n) (lineGet l N.EUI)).1
    else if old && lineBit l N.REBUILD && !lineBit l N.ROUTER then ehtForget (ageOut s n) n
    else if 61440 ≤ age then setLineField s n N.AGE (now + 65536 - 61440)
    else s

/-- The device takes its NODE_MIN from its peer (R315, R532): it does not claim, and a resync has started. -/
def followsPeer (s : State) : Bool :=
  !s.bit R.PAIR_STATUS_CLAIM_OUT && s.bit R.HJ_STATUS_UP && (s.bit R.PAIR_STATUS_SYNC || decide (s.get R.SYNC_STAT_STATE = 2))

/-- NODE_MINUTE_SWEEP: NODE_MIN rises, unless the device takes its peer's, and the sweeper visits the lines (R315);
the fitter keeps DRIFT_REF of the minute (R289). -/
def execNodeMinuteSweep (s : State) : Outcome State Fault Refusal :=
  if running s then
    let s := if followsPeer s then s else s.bumpWrap R.FWD_STATUS_NODE_MIN
    let s := s.putDrift { s.drift with refHistory := (s.getI R.DRIFT_REF_REF :: s.drift.refHistory).take 2880 }
    done (foldState ageLine s (s.fwd.ncs.map fun c => c.1))
  else done s

/-! ## Infrastructure table -/

/-- INFRA_ENTRY_WRITE: only the control cores write entries (R316, R317). -/
def execInfraEntryWrite (q : Requester) (entry v : Nat) (s : State) : Outcome State Fault Refusal :=
  if !openTo s q then done s else
  if q = .control ∧ entry < 16384 then done (infraWrite s entry v) else done s

/-- One entry of a compare pass, with the mismatches posted so far (R317). -/
def compareEntry (acc : State × Nat) (i : Nat) : State × Nat :=
  let s := acc.1
  let w := infraEnt s i
  let differs := decide (w ≠ infraShadow s i)
  if differs || oddParity 32 w then
    let s := (s.set R.INFRA_STAT_LAST_BAD i).bump R.FWD_CNT3_INFRA_MISMATCH
    if acc.2 < 16 then
      (postEvent 0x0803 [(0, 2, i), (2, 1, boolNat (!differs)), (4, 4, w), (8, 4, infraShadow s i)] s, acc.2 + 1)
    else (s, acc.2 + 1)
  else if infraAgrees s w then (s, acc.2)
  else ((infraApply s w).bump R.FWD_CNT3_DERIVED_FIX, acc.2)

/-- INFRA_COMPARE_PASS (R317). `entry` and `flip` are a soft error in the table that the pass meets (0 none). -/
def execInfraComparePass (entry flip : Nat) (s : State) : Outcome State Fault Refusal :=
  if running s && s.bit R.INFRA_CTRL_EN then
    let k := R.INFRA_ENT (entry % 16384)
    let s := if flip = 0 then s else s.setWord k (s.word k ^^^ BitVec.ofNat 32 flip)
    let shadowed := (s.fwd.shadow.map fun c => c.1).filter fun i => !(infraListed s).contains i
    let r := ((infraListed s ++ shadowed).foldl compareEntry (s, 0))
    done (r.1.setBit R.INFRA_STAT_MISMATCH (decide (r.2 ≠ 0)))
  else done s

/-! ## BAR2 -/

/-- The bytes of a BAR2 range, line by line (R322). -/
def bar2Bytes (s : State) (off len : Nat) : List Byte :=
  (List.range len).map fun i => BitVec.ofNat 8 (natBits (s.line ((off + i) / 64)).toNat (8 * ((off + i) % 64)) 8)

/-- The lines a range touches. -/
def bar2Lines (off len : Nat) : List Nat := (List.range ((off + len - 1) / 64 - off / 64 + 1)).map fun i => off / 64 + i

/-- The part of a range that lies in line n is served (R322, R365): the line's bytes, poisoned where the line stays so. -/
def bar2Line (s : State) (off len n : Nat) : State :=
  let a := max off (64 * n)
  let b := min (off + len) (64 * n + 64)
  let s := if linePoisoned s n then consumePoison (s.bump R.FWD_CNT3_BAR2_POISON) 2 n else s
  s.emit (.bar2 (bar2Bytes s a (b - a)) (linePoisoned s n))

/-- BAR2_READ (R37, R322, R365, R507): a read inside the 64 MiB window is served one line at a time, lines that the part does not
have as zeros. -/
def execBar2Read (off len : Nat) (s : State) : Outcome State Fault Refusal :=
  if !s.pcie.linkUp ∨ len = 0 then done s
  else if 2 ^ 26 < off + len then done (s.emit .unsupported)
  else done (foldState (fun t n => bar2Line t off len n) s (bar2Lines off len))

/-! ## Snapshots -/

/-- The descriptor of Table 10-8. -/
def snapDescriptor (s : State) : List Byte :=
  let b := toLE 4 0x4E5A534E ++ toLE 2 1 ++ toLE 1 (ncsLog2 s.part) ++ [0#8] ++ toLE 8 s.fwd.snap.asn ++
    toLE 8 s.fwd.snap.ns ++ toLE 2 s.fwd.snap.nodeMin ++ toLE 2 0 ++ toLE 4 s.fwd.snap.sequence ++ List.replicate 28 0#8
  b ++ toLE 4 (crc32c b)

/-- The buffer address (R323): its low 12 bits must be 0 and are taken as 0. -/
def snapAddr (s : State) : Nat :=
  s.get R.SNAP_ADDR_LO_ADDR / 4096 * 4096 + 2 ^ 32 * s.get R.SNAP_ADDR_HI_ADDR

/-- SNAPSHOT_EXPORT: the mark (R323). -/
def execSnapshotExport (s : State) : Outcome State Fault Refusal :=
  if !openTo s .host then done s else
  if s.fwd.snap.job = .idle then
    let snap : SnapState := { s.fwd.snap with
      job := .exporting, reserve := [], lines := s.fwd.ncs, asn := s.asnNat, ns := s.tbNs,
      nodeMin := s.get R.FWD_STATUS_NODE_MIN, sequence := s.fwd.snap.sequence + 1, started := s.now }
    let s := s.putFwd { s.fwd with snap := snap }
    done (((s.set R.SNAP_STAT_STATE 1).set R.SNAP_STAT_TILES 0).set R.SNAP_STAT_COW_PEAK 0)
  else done (s.set R.SNAP_STAT_RESULT 1)

/-- An export ends: the reserve is freed, the result stands in SNAP_STAT, and SNAPSHOT_DONE is posted (R324). -/
def exportEnd (s : State) (result : Nat) : State :=
  let seq := s.fwd.snap.sequence
  let us := (s.now - s.fwd.snap.started) / 1000
  let s := s.putFwd { s.fwd with snap := { SnapState.idle with sequence := seq } }
  let s := (s.set R.SNAP_STAT_STATE 0).set R.SNAP_STAT_RESULT result
  postEvent 0x0805 [(0, 1, result), (4, 4, seq), (8, 2, s.get R.SNAP_STAT_COW_PEAK), (12, 4, us)] s

/-- The tile checksums of a snapshot (Table 10-7), over what is exported (Table 18-2): of the tiles with a listed line. -/
def snapshotSums (lines : Cells 512) : List (Nat × Nat) :=
  (lines.map fun c => c.1 / 64).dedup.map fun t => (t, (tileSumOf (cellsRead zeroCell lines) t).toNat)

/-- SNAPSHOT_EXPORT_DONE: the buffer has been written (R323, R324); `misread` are the lines that both reads of a tile gave in the place
of others (R502); a poisoned line goes in its marked form (Table 18-2). -/
def execSnapshotExportDone (pcieError : Bool) (misread : List (Nat × Nat)) (s : State) : Outcome State Fault Refusal :=
  if s.fwd.snap.job = .exporting then
    if pcieError then done (exportEnd s 7)
    else
      let s := foldState (fun t i => tileFailed t i 1) s (tilesMisread s misread)
      let s := s.set R.SNAP_STAT_TILES (lineCount s / 64)
      let lines := s.fwd.snap.lines.map fun c => (c.1, if linePoisoned s c.1 then rebuildLine s else c.2)
      done (exportEnd (s.emit (.snapshot (snapAddr s) lines (snapshotSums lines) (snapDescriptor s))) 0)
  else done s

/-- SNAPSHOT_ABORT (R324). -/
def execSnapshotAbort (s : State) : Outcome State Fault Refusal :=
  if !openTo s .host then done s else
  if s.fwd.snap.job = .exporting then done (exportEnd s 5) else done s

/-- A restore descriptor is good (R325). -/
def descriptorOk (d : List Byte) : Bool :=
  decide (leField d 0 4 = 0x4E5A534E) && decide (leField d 4 2 = 1) && decide (leField d 60 4 = crc32c (d.take 60))

/-- The device serves alone (R325): SOLO, or a part without the link. -/
def servesAlone (s : State) : Bool := !hjPresent s.part || decide (s.get R.PAIR_STATUS_ROLE = 2)

/-- The reason a restore is refused (R325, Table 10-12), or 0. -/
def restoreRefusal (s : State) (d : List Byte) : Nat :=
  if !servesAlone s then 2
  else if s.fwd.snap.job ≠ .idle then 1
  else if s.get R.SNAP_SKIP_SKIP < 1024 then 6
  else if !descriptorOk d then 3
  else if leField d 6 1 ≠ ncsLog2 s.part then 4
  else 0

/-- SNAPSHOT_RESTORE: OP 2 with the 64 descriptor bytes read from the host buffer (R325 step 1). -/
def execSnapshotRestore (resume : Bool) (descriptor : List Byte) (s : State) : Outcome State Fault Refusal :=
  if !openTo s .host then done s else
  let r := restoreRefusal s descriptor
  if r ≠ 0 then done (s.set R.SNAP_STAT_RESULT r)
  else
    let s := flushAllDownlink s
    let snap : SnapState := { s.fwd.snap with
      job := .restoring, asn := leField descriptor 8 5, ns := leField descriptor 16 8, nodeMin := leField descriptor 24 2,
      resume := resume, started := s.now, badTiles := 0 }
    let s := viewOverflow (s.putFwd { s.fwd with hb := [], eht := [], pass := [], rebuild := [], snap := snap })
    done ((s.set R.SNAP_STAT_STATE 2).set R.SNAP_STAT_TILES 0)

/-- A restored line (R325 step 3, R326). -/
def restoredLine (s : State) (b : List Byte) : Line :=
  let l := lineOf b
  let minutes := if s.fwd.snap.resume then (s.tbNs - s.fwd.snap.ns) / (60 * secondNs) else 0
  let age := min 61440 ((s.fwd.snap.nodeMin + 65536 - lineGet l N.AGE) % 65536 + minutes)
  let l := lineSet l N.TXCTR (min 0xFFFFFFFF (lineGet l N.TXCTR + s.get R.SNAP_SKIP_SKIP))
  let l := lineSet (lineSet (lineSet (lineSet l N.MISS 0) N.SUSPECT 0) N.QHEAD 0) N.QCOUNT 0
  lineSet l N.AGE (s.get R.FWD_STATUS_NODE_MIN + 65536 - age)

/-- The tiles of a snapshot buffer that fail their checksum. -/
def restoreBad (s : State) (lines : List (Nat × List Byte)) (sums : List (Nat × Nat)) : List Nat :=
  let held := (sums.map fun p => p.1).dedup.filter fun t => decide (t < lineCount s / 64)
  held.filter fun t => decide ((tileSumOf (fun n => lineOf ((assocGet lines n).getD [])) t).toNat ≠ (assocGet sums t).getD 0)

/-- The tile checksums of a whole store, as differences from those of zero lines. -/
def tilesOf (ncs : Cells 512) : Cells 32 :=
  ncs.foldl (fun m c => cellsWrite zeroCell m (c.1 / 64) (cellsRead zeroCell m (c.1 / 64) ^^^ tileTerm 0#512 c.1 ^^^ tileTerm c.2 c.1)) []

/-- The map entries whose lines a restore changed go (R237): `old` is the store before it. -/
def restoreMaps (s : State) (old : Cells 512) : State :=
  foldState (fun t n => mapForget t n (cellsRead zeroCell old n) (t.line n)) s (s.imap.entries.map fun x => x.1)

/-- RESTORE_READ_DONE: the tiles have been read (R325 steps 2 to 4): the lines of the buffer (lines not listed are zero)
and the checksums of its tiles (a tile not listed carries the checksum of its lines). A tile that fails is written as zeros. -/
def execRestoreReadDone (lines : List (Nat × List Byte)) (sums : List (Nat × Nat)) (pcieError : Bool) (s : State) :
    Outcome State Fault Refusal :=
  if s.fwd.snap.job = .restoring then
    if pcieError then
      let s := s.putFwd { s.fwd with snap := { SnapState.idle with sequence := s.fwd.snap.sequence } }
      let s := (s.set R.SNAP_STAT_STATE 0).set R.SNAP_STAT_RESULT 7
      done (postEvent 0x0806 [(0, 1, 7), (8, 5, s.asnNat)] (reapplyPins (rebuildAll s)))
    else
      let bad := restoreBad s lines sums
      let keep := lines.filter fun p => decide (p.1 < lineCount s) && !bad.contains (p.1 / 64)
      let ncs := keep.foldl (fun m p => cellsWrite zeroCell m p.1 (restoredLine s p.2)) ([] : Cells 512)
      let old := s.fwd.ncs
      let s := s.putFwd { s.fwd with ncs := ncs, snap := { s.fwd.snap with job := .restoreBoundary, badTiles := bad.length } }
      let s := s.putMi { s.mi with bad := s.mi.bad.filter (fun x => x.1 ≠ .ncs),
                                   flipped := s.mi.flipped.filter (fun x => x.1 ≠ .ncs), tiles := tilesOf ncs }
      let s := restoreMaps s old
      let s := (s.putSec { s.sec with cache := [] }).set R.PSM_STATUS_SUSPECT 0
      let s := s.set R.SNAP_STAT_TILES (lineCount s / 64)
      let s := reapplyPins (rebuildAll s)
      done (foldState checkExhausted s (ncs.map fun c => c.1))
  else done s

/-- The ASN that a slot boundary at timebase T carries under RESUME (R326): round half up. -/
def resumeAsn (s : State) : Nat :=
  let d : Int := (s.tbNs : Int) - (s.fwd.snap.ns : Int)
  let l : Int := slotLenNs s
  toField 40 ((s.fwd.snap.asn : Int) + (2 * d + l) / (2 * max 1 l))

/-- The restore ends at a slot boundary whose slot has the present ASN (R325 step 5). -/
def restoreEnd (s : State) : State :=
  if s.fwd.snap.job = .restoreBoundary then
    let s := if s.fwd.snap.resume then s.putPsm { s.psm with asn := BitVec.ofNat 40 (resumeAsn s) } else s
    let bad := s.fwd.snap.badTiles
    let s := s.putFwd { s.fwd with snap := { SnapState.idle with sequence := s.fwd.snap.sequence } }
    let s := (s.set R.SNAP_STAT_STATE 0).set R.SNAP_STAT_RESULT 0
    postEvent 0x0806 [(0, 1, 0), (4, 4, bad), (8, 5, s.asnNat)] s
  else s

end Sys2Proof.Machine
end

