-- ==== Sys2Proof/Machine/Reports.lean ====
section
/-!
DEFINITION. Frame reports at the head of a cluster's receive queue (R186, R196, R226): what the packet core reads of an item (Tables 6-7,
7-8, 8-1), and which of its rows takes it.
-/

namespace Sys2Proof.Machine

/-! ## Reading an item -/

/-- The item at the head of a cluster's receive queue (lane 0), not taken yet. -/
def headReport (s : State) (c : Nat) : Option QueueItem :=
  match headItem (s.queue c).lanes with
  | some (0, i) => some i
  | _ => none

/-- Take it. -/
def dropReport (s : State) (c : Nat) : State := (popItem s c).1

/-- The ASN of the slot that holds a moment of the timebase, at or before the present slot (R413). -/
def asnAt (s : State) (time : Nat) : Nat :=
  let l := max 1 (slotLenNs s)
  let back := if time < s.tb.boundLast then (s.tb.boundLast - time + l - 1) / l else 0
  (s.asnNat + 2 ^ 40 - back % 2 ^ 40) % 2 ^ 40

/-- Start of a slot at or before the present one, ns of the timebase. -/
def slotStartOf (s : State) (asn : Nat) : Nat := s.tb.slotAt - (s.asnNat + 2 ^ 40 - asn) % 2 ^ 40 * slotLenNs s

/-- N_CBPS of a received Indigo frame: of the default map under MAPSEL 0, else of the expected node's pending or present map. -/
def reportCbps (s : State) (node : Option Nat) (trailer : List Byte) : Nat :=
  match node with
  | none => defaultCbps
  | some n =>
    if !natBit (leField trailer 20 1) 4 then defaultCbps
    else if underPending trailer then ((assocGet s.imap.entries n).map fun e => mapBits e.map).getD defaultCbps
    else mapBits (presentMap s n)

/-- The carrier offset of a report with the crowd's c of the last interval subtracted (R161), 2⁻¹⁰ ppm; c in 0.01 ppb. -/
def crowdCorrected (s : State) (offset : Int) : Int := offset - realDiv 89 (s.osc.change * 1024) 100000

/-- A frame that readMac does not read has no addresses. -/
def MacFrame.unread : MacFrame :=
  { type := 7, pending := false, ar := false, ie := false, seq := 0, dest := .none, source := .none, level := 0, counter := 0, body := [] }

/-- The frame of a queue item (R196, R226, R245, Table 6-7). -/
def rxFrame (s : State) (i : QueueItem) : RxFrame :=
  let d := i.data
  let len := leField d 0 2 % 2048
  let mode := leField d 2 1
  let flags := leField d 3 1
  let psdu := if len = 0 then [] else sliceBytes d 32 (len - (if natBit flags 4 then 4 else 2))
  let trailer := if modeFamily mode = 3 then sliceBytes d (32 + psdu.length) 24 else []
  let expected := if natBit flags 3 then i.expects else none
  let time := leField d 20 8
  let pre := s.get R.PSM_SLOT_PRE_LEN
  let began := time - preambleNs mode pre
  { path := leField d 0 2 / 2048, ant := boolNat (natBit flags 0), asn := asnAt s time, mode := mode, lqi := leField d 6 1, time := time,
    rssi := signedOf 16 (leField d 4 2), snr := signedOf 8 (leField d 7 1), carrier := crowdCorrected s (signedOf 32 (leField d 12 4)),
    timing := signedOf 32 (leField d 16 4), expected := expected, psdu := psdu, mac := (readMac psdu).getD MacFrame.unread, trailer := trailer,
    decoded := i.stamp, began := began, ended := began + airNs mode pre len (reportCbps s expected trailer) }

/-! ## Which row takes a frame -/

/-- The report has STALE set (R233). -/
def RxFrame.stale (f : RxFrame) : Bool := !f.trailer.isEmpty && natBit (leField f.trailer 20 1) 6

/-- TRACK_EUI (R296). -/
def trackEui (s : State) : Nat := s.get R.TRACK_EUI_LO_EUI + 2 ^ 32 * s.get R.TRACK_EUI_HI_EUI

/-- The extended source address of a frame. -/
def RxFrame.extSource (f : RxFrame) : Option Nat := match f.mac.source with | .eui _ e => some e | _ => none

/-- A beacon of the tracked peer, which the address filter does not see (R259, R296). -/
def peerBeacon (s : State) (f : RxFrame) : Bool :=
  s.bit R.TRACK_CFG_EN && decide (f.mac.type = typeBeacon) && decide (f.extSource = some (trackEui s))

/-- The content of the Join sub-IE of a join request (Tables 8-1b and 17-4): an unsecured data frame from an EUI-64 with a Join IE of kind
1; none for any other frame. -/
def joinContent (f : RxFrame) : Option (List Byte) :=
  if f.mac.type = typeData ∧ f.mac.level = 0 ∧ f.extSource.isSome then
    match readContent f.mac.ie f.mac.body with
    | none => none
    | some (ies, _) => (subIeOf ies 0x09).filter fun c => decide (leField c 0 1 = 1)
  else none

/-- Which row takes the frame at the head of a receive queue. -/
inductive RxKind where
  /-- It holds a POISON word (R507). -/
  | poison
  /-- A report with STALE set (R233). -/
  | stale
  | beacon
  | join
  /-- Any other frame: the address filter judges it (R259). -/
  | node
  deriving DecidableEq, Repr

def rxKind (s : State) (i : QueueItem) : RxKind :=
  let f := rxFrame s i
  if i.poisoned then .poison
  else if f.stale then .stale
  else if peerBeacon s f then .beacon
  else if (joinContent f).isSome then .join
  else .node

/-- The frame at the head of a cluster's receive queue, for the row that takes frames of its kind. -/
def headFrame (s : State) (c : Nat) (k : RxKind) : Option RxFrame :=
  (headReport s c).bind fun i => if rxKind s i = k then some (rxFrame s i) else none

end Sys2Proof.Machine
end

