-- ==== Sys2Proof/Machine/MiOps.lean ====
section
/-!
DEFINITION. Memory integrity (chapter 18), shared operations: outcomes of a fault (R503), hard faults and repair (R511 to
R515), escalation (R517).
-/

namespace Sys2Proof.Machine

/-- Lines of a memory (Table 18-1). -/
def memLines (s : State) : LineMem → Nat
  | .ncs => lineCount s
  | .frame => 262144
  | .control => 131072

/-- A fault ends with an outcome of MI_CRC_ERROR (R503). -/
def faultEnds (s : State) (m : LineMem) (line outcome : Nat) : State :=
  let s := ((s.set R.MI_LAST_MEM (memCode m)).set R.MI_LAST_OUTCOME outcome).set R.MI_LAST_LINE line
  postEvent 0x1001 [(0, 1, memCode m), (1, 1, outcome), (4, 4, line), (8, 2, lineSram m line)] s

/-! ## Escalation -/

/-- Step 4 (R517): the device serves on, degraded until its next restart. -/
def degrade (s : State) (m : LineMem) : State :=
  if s.bit R.MI_STATUS_DEGRADED then s
  else postEvent 0x1007 [(0, 1, 4), (1, 1, memCode m)] (s.set R.MI_STATUS_DEGRADED 1)

/-- Step 3 (R517): a planned switchover away from this device; where it cannot be taken it is passed over. -/
def escalate (s : State) (m : LineMem) : State :=
  if peerSource s && decide (switchResult s = 1) then
    startPlanned (postEvent 0x1007 [(0, 1, 3), (1, 1, memCode m)] s) 11 6
  else degrade s m

/-! ## Poison -/

/-- Frames that lie in a poisoned frame-buffer line carry its poison (R507). -/
def poisonFrames (s : State) (air eth : Option Nat) : State :=
  let s := match air with
    | none => s
    | some h => match s.frame h with
      | none => s
      | some f => s.setFrame h { f with poisoned := true }
  match eth with
  | none => s
  | some h => match assocGet s.eth.frames h with
    | none => s
    | some f => s.putEth { s.eth with frames := assocSet s.eth.frames h { f with poisoned := true } }

/-- A fault ends poisoned (R503 step 3, R506): counted towards the threshold of R517 unless MI_FLIP made it (R516). -/
def faultPoisoned (s : State) (m : LineMem) (line : Nat) : State :=
  let s := s.bump R.MI_CNT1_POISONED
  let s := s.putMi { s.mi with bad := if s.mi.bad.contains (m, line) then s.mi.bad else (m, line) :: s.mi.bad }
  let s := faultEnds s m line 3
  if s.mi.flipped.contains (m, line) then s
  else
    let times := s.now :: s.mi.poisonTimes.filter fun t => decide (s.now < t + secondNs)
    if s.get R.MI_ESC_LINES ≤ times.length then escalate (s.putMi { s.mi with poisonTimes := [] }) m
    else s.putMi { s.mi with poisonTimes := times }

/-! ## Hard faults and repair -/

/-- A STANDBY device applies its repairs: it leaves the role and restarts (R515). -/
def standbyRestart (s : State) : State := warmRestart (setRole (dropSync s) roleSpare 11)

/-- Pending repairs apply by themselves with AUTO_REPAIR set (R515). -/
def autoRepair (s : State) : State :=
  if !s.bit R.MI_CFG_AUTO_REPAIR || s.mi.waiting.isEmpty || !running s then s
  else if s.get R.PAIR_STATUS_ROLE = roleStandby then standbyRestart s
  else if peerSource s && decide (switchResult s = 1) then startPlanned s 11 1
  else s

/-- No spare of the needed kind is free (R512, R517). -/
def repairExhausted (s : State) (sram : Nat) : State :=
  if s.mi.exhausted.contains sram then s
  else
    let s := noteExhausted s sram
    if sram < 64 then escalate s .ncs else s

/-- Repair a hard fault (R512, R515, R517). -/
def repairFault (s : State) (sram row column : Nat) : State :=
  match repairSpare s sram row column with
  | none => s
  | some (e, true) => autoRepair (appendRepair s e)
  | some (_, false) => repairExhausted s sram

/-- A hard fault of a line (R511): counted, the line taken into the substitute store, and repaired. -/
def hardFault (s : State) (m : LineMem) (line column : Nat) : State :=
  let sram := lineSram m line
  let s := (s.bump R.MI_CNT2_HARD).bump (R.MI_MACRO_FAULTS sram)
  let s := if s.mi.subst.length < 64 then viewMi (s.putMi { s.mi with subst := (m, line) :: s.mi.subst })
    else s.bump R.MI_CNT3_SUBST_FULL
  repairFault s sram (lineRow line) column

/-- A fault is remembered, and is hard when the read-back of the recovered line fails or a third fault strikes the same row
within 24 h (R511). A line that MI_FLIP made wrong is excluded (R516). -/
def noteFault (s : State) (m : LineMem) (line column : Nat) (readbackOk flipped : Bool) : State :=
  if flipped then s
  else
    let f : FaultMark := { sram := lineSram m line, row := lineRow line, column := column, time := s.now }
    let s := s.putMi { s.mi with faults := f :: s.mi.faults }
    let same := s.mi.faults.filter fun g => decide (g.sram = f.sram) && decide (g.row = f.row) && decide (s.now < g.time + dayNs)
    if !readbackOk || decide (3 ≤ same.length) then hardFault s m line column else s

/-- Peer fetches end poisoned when the link or the peer's sync is lost (Table 18-4). -/
def dropPeerFetches (s : State) : State :=
  let mine := s.mi.recoveries.filter fun r => r.wait = .peer
  let s := viewMi (s.putMi { s.mi with recoveries := s.mi.recoveries.filter (fun r => r.wait ≠ .peer), refill := [] })
  foldState (fun t (r : Recovery) => faultPoisoned t r.mem r.line) s mine

/-- The link goes down (R538), and what rested on it. -/
def linkLost (s : State) (cause : Nat) : State := if linkUp s then dropPeerFetches (linkDown s cause) else s

end Sys2Proof.Machine
end

