-- ==== Sys2Proof/Machine/SecOps.lean ====
section
/-!
DEFINITION. Security (chapter 17), shared operations: changes of the tree state (R465 to R469, R476), rekey frames (R467),
zeroization (R489), engines and their self-tests (R491 to R493), signed commands (R485, R486), joins (R477 to R480), the
attestation report (R484).
-/

namespace Sys2Proof.Machine

/-! ## Tree state -/

/-- The slot that a new epoch takes: the first empty one, else the retired or revoked one installed first (R466). -/
def slotForNew (s : State) : Nat :=
  match (List.range 16).find? fun i => (s.tree.slot i).status = EpochStatus.empty with
  | some i => i
  | none =>
    let old := (List.range 16).filter fun i =>
      decide ((s.tree.slot i).status = EpochStatus.retired) || decide ((s.tree.slot i).status = EpochStatus.revoked)
    old.foldl (fun b i => if (s.tree.slot i).order < (s.tree.slot b).order then i else b) (old.headD 0)

/-- An installation is refused (R466). -/
def installRefused (s : State) (epoch act : Nat) : Bool :=
  seqGe 16 s.tree.highest epoch || (pendingSlot s).isSome ||
    decide (signedOf 40 (act + 2 ^ 40 - s.asnNat) < sfLen s)

/-- An epoch enters the tree state as pending, every district at generation 0 and not revoked (R466). -/
def installEpoch (s : State) (epoch act : Nat) : State :=
  let e : EpochSlot := { epoch := epoch % 65536, status := .pending, actAsn := act % 2 ^ 40, districts := [], order := s.tree.installs }
  let s := putSlot s (slotForNew s) e
  s.putTree { s.tree with highest := epoch % 65536, installs := s.tree.installs + 1 }

/-- The slots of the active and the pending epoch. -/
def liveSlots (s : State) : List Nat := (activeSlot s).toList ++ (pendingSlot s).toList

/-- A district's generation rises by 1, and its broadcast counter restarts (R469, R476). -/
def raiseDistrict (s : State) (d : Nat) : State :=
  restartBcast (foldState (fun (t : State) i =>
    let e := t.tree.slot i
    putSlot t i (setDistrict e d (min 15 (districtGen e d + 1)) (districtRevoked e d))) s (liveSlots s)) d

/-- A district is revoked (R469). -/
def revokeDistrict (s : State) (d : Nat) : State :=
  foldState (fun (t : State) i =>
    let e := t.tree.slot i
    putSlot t i (setDistrict e d (districtGen e d) true)) s (liveSlots s)

/-- The slot that holds an epoch which can be revoked. -/
def slotOfEpoch (s : State) (epoch : Nat) : Option Nat :=
  (s.tree.slots.find? fun p => decide (p.2.epoch = epoch) && decide (p.2.status ≠ .empty) && decide (p.2.status ≠ .revoked)).map
    fun p => p.1

/-- An epoch is revoked (R469). -/
def revokeEpoch (s : State) (epoch : Nat) : State :=
  match slotOfEpoch s epoch with
  | none => s
  | some i =>
    let s := putSlot s i { s.tree.slot i with status := .revoked }
    if s.sec.retiredKeep = some i then s.putSec { s.sec with retiredKeep := none } else s

/-- Every district of a slot is revoked. -/
def revokeAll (e : EpochSlot) : EpochSlot :=
  { e with districts := (List.range 4096).map fun d => (d, BitVec.ofNat 8 (districtGen e d + 16)) }

/-- What zeroization does to the tree state (R489). -/
def revokeEverything (s : State) : State := foldState (fun (t : State) i => putSlot t i (revokeAll (t.tree.slot i))) s (liveSlots s)

/-- Zeroization (R489): the keys, the cache and the DRBG states are erased, and every node is orphaned. -/
def zeroize (s : State) : State :=
  let s := s.putSec { s.sec with kM := none, kJR := none, cache := [], drbgErased := true, retiredKeep := none }
  revokeEverything (s.set R.SEC_STATUS_KEYS 0)

/-- What an activation does to the nodes (R467): the generation of each node that acknowledged its rekey frame is in force, and
each other valid node is orphaned. -/
def activateNodes (s : State) : State :=
  if !claims s then s.putSec { s.sec with rekeys := [], rekeyLeft := [], unrekeyed := [] }
  else
    let acked := (s.sec.rekeys.filter fun r => r.2.2).map fun r => (r.1, r.2.1)
    let lost := (validNodes s).filter fun n => !(acked.any fun a => decide (a.1 = n))
    let s := foldState (fun (t : State) (a : Nat × Nat) => setLineField t a.1 N.GEN a.2) s acked
    s.putSec { s.sec with rekeys := [], rekeyLeft := [], unrekeyed := lost }

/-- The pending epoch becomes active (R465, R466, R476). -/
def activatePending (s : State) : State :=
  match pendingSlot s with
  | none => s
  | some i =>
    let old := activeSlot s
    let s := match old with
      | none => s
      | some a => putSlot s a { s.tree.slot a with status := .retired }
    let s := putSlot s i { s.tree.slot i with status := .active }
    let s := s.putTree { s.tree with bcast := [], bcastSpent := [] }
    let s := s.putPair { s.pair with reserved := s.pair.reserved.filter fun p => decide (p.1 < 2 ^ 20) }
    let s := s.putSec { s.sec with retiredKeep := old }
    treeChanged (activateNodes (s.set R.SEC_STATUS_TREE_LOST 0)) 9 [s.tree.cmdSeq]

/-- At a boundary (R466): the retired epoch's keys are erased one slot after the activation, and a pending epoch whose slot has
come becomes active. -/
def epochBoundary (s : State) : State :=
  let s := s.putSec { s.sec with retiredKeep := none }
  match pendingSlot s with
  | none => s
  | some i => if seqGe 40 s.asnNat (s.tree.slot i).actAsn then activatePending s else s

/-- A change of the tree state by its operation (Table 17-7; 9 an activation). -/
def applyTree (s : State) (op : Nat) (args : List Nat) : State :=
  let a := args.headD 0
  match op with
  | 1 => installEpoch s a (args.getD 1 0)
  | 2 => raiseDistrict s a
  | 3 => revokeDistrict s a
  | 4 => revokeEpoch s a
  | 5 => revokeEverything s
  | 9 => activatePending s
  | _ => s

/-- A tree-state record of the claiming device (R486, R533): its last operand is the command sequence. -/
def mirrorTree (s : State) (op : Nat) (args : List Nat) : State :=
  let s := applyTree s op args.dropLast
  viewTree (s.putTree { s.tree with cmdSeq := (args.getLast?).getD s.tree.cmdSeq })

/-! ## Rekey frames -/

/-- Bytes 14–15 for a district at a generation. -/
def districtWord (d gen : Nat) : Nat := d % 4096 + gen % 16 * 4096

/-- K_N ‖ K_B for a line's EUI-64 and join counter in an epoch and district word (Table 17-4). -/
def nodeKeys (kM : BitVec 128) (epoch dist eui join : Nat) : List Byte :=
  keyBytes (nodeKey kM epoch dist eui join) ++ keyBytes (frameKey (districtKey kM epoch dist) purposeBcast)

/-- Queue a node's rekey frame for the pending epoch (R467, Table 17-4 kind 3): 77 octets, TC1. -/
def sendRekey (s : State) (n : Nat) : State × DownResult :=
  match pendingSlot s, s.sec.kM, keyOfNode s n (activeSlot s) with
  | some i, some kM, some kN =>
    let e := s.tree.slot i
    let l := s.line n
    let gen := districtGen e (lineGet l N.DISTRICT)
    let keys := nodeKeys kM e.epoch (districtWord (lineGet l N.DISTRICT) gen) (lineGet l N.EUI) (lineGet l N.JOIN)
    let wrapped := Config.kwWrap (frameKey kN purposeJoin) keys
    let (s, r) := sendDirect s n (.rekey e.epoch e.actAsn wrapped) purposeDown 77
    match r with
    | .queued h => (s.putSec { s.sec with rekeys := assocSet s.sec.rekeys n (gen, false) }, .queued h)
    | r => (s, r)
  | _, _, _ => (s, .noRoute)

/-- Queue rekey frames for a list of nodes as far as there is room; the rest waits. -/
def sendRekeys : List Nat → State → State
  | [], s => s.putSec { s.sec with rekeyLeft := [] }
  | n :: t, s =>
    let r := sendRekey s n
    match r.2 with
    | .full => r.1.putSec { r.1.sec with rekeyLeft := n :: t }
    | _ => sendRekeys t r.1

/-- The rekey frames that still wait (R467). -/
def pumpRekeys (s : State) : State := if claims s && !s.sec.rekeyLeft.isEmpty then sendRekeys s.sec.rekeyLeft s else s

/-! ## Engines -/

/-- The kind of an engine by its bit in SEC_ENG (Table 17-1), and its first bit. -/
def engineKind (b : Nat) : Nat := if b < 4 then 0 else min 5 ((b - 4) / 2 + 1)
def kindBase (k : Nat) : Nat := if k = 0 then 0 else 2 * k + 2

/-- The engines of a kind. -/
def kindEngines (k : Nat) : List Nat := if k = 0 then [0, 1, 2, 3] else [kindBase k, kindBase k + 1]

/-- The engines in service of a kind. -/
def enginesLeft (s : State) (k : Nat) : List Nat := (kindEngines k).filter (s.getBitAt R.SEC_ENG_OK)

/-- The module enters its error state (R493). -/
def errorState (s : State) (k : Nat) : State :=
  if s.bit R.SEC_STATUS_ERROR then s
  else endClaim (postEvent 0x0F04 [(0, 1, k)] (s.set R.SEC_STATUS_ERROR 1)) 7

/-- An engine failed a test (R492, R493). -/
def engineFails (s : State) (b test : Nat) : State :=
  let k := engineKind b
  let i := b - kindBase k
  let s := (s.setBitAt R.SEC_ENG_OK b false).bump R.SEC_CNT3_QUARANTINE
  let s := postEvent 0x0F03 [(0, 1, k), (1, 1, i)] (postEvent 0x0F02 [(0, 1, k), (1, 1, i), (2, 1, test)] s)
  if (enginesLeft s k).isEmpty then errorState s k else s

/-- Test the engines of a list that are in service (R491); `fails` names those that fail, with their test codes. -/
def testEngines (s : State) (l : List Nat) (fails : List (Nat × Nat)) : State :=
  foldState (fun (t : State) b =>
    if !t.getBitAt R.SEC_ENG_OK b then t
    else match assocGet fails b with
      | some test => engineFails t b test
      | none => t.bumpWrap R.SEC_CNT3_ST_PASS) s l

/-- Whether one of the engines of a list that are in service fails. -/
def someFails (s : State) (l : List Nat) (fails : List (Nat × Nat)) : Bool :=
  l.any fun b => s.getBitAt R.SEC_ENG_OK b && (assocGet fails b).isSome

/-- Every engine. -/
def allEngines : List Nat := List.range 14

/-! ## Commands -/

/-- SEC_RESULT of a requester. -/
def setResult (s : State) (q : Requester) (r : Nat) : State :=
  (s.set (R.SEC_RESULT_RESULT q.bank) r).set (R.SEC_RESULT_BUSY q.bank) 0

/-- The 192 bytes of a requester's SEC_SIGBUF. -/
def sigBytes (s : State) (q : Requester) : List Byte :=
  ((List.range 48).map fun i => toLE 4 (s.get (R.SEC_SIGBUF_DATA i q.bank))).flatten

/-- Fields of a signed command (Table 17-6). -/
def sigOp (b : List Byte) : Nat := leField b 4 1
def sigSlot (b : List Byte) : Nat := leField b 5 1
def sigSeq (b : List Byte) : Nat := leField b 16 4
def sigArg (b : List Byte) (a n : Nat) : Nat := leField b (20 + a) n
def sigKeyHash (b : List Byte) : BitVec 256 := Config.sha256 (sliceBytes b 64 64)

/-- No owner slot is programmed (R488). -/
def noOwner (s : State) : Bool := s.otp.owners.all fun o => o.1.isNone

/-- The key of a command is accepted (R486): it is that of the programmed, unrevoked slot named; with no slot programmed, an op
0x06 for slot 0 that programs the hash of its own key (R488). -/
def sigKeyOk (s : State) (b : List Byte) : Bool :=
  if noOwner s then
    decide (sigOp b = 6) && decide (sigArg b 0 1 = 0) && decide (hashField b 21 = sigKeyHash b)
  else match s.otp.owners[sigSlot b]? with
    | some (some h, false) => decide (h = sigKeyHash b)
    | _ => false

/-- The checks of R486 before the arguments: 0, or the result. -/
def sigCheck (s : State) (b : List Byte) : Nat :=
  if s.bit R.SEC_STATUS_ERROR then 5
  else if leField b 0 4 ≠ 0x4E5A5343 then 4
  else if !sigKeyOk s b || !Config.ecdsaVerify (sliceBytes b 64 64) (b.take 128) (sliceBytes b 128 64) then 1
  else if sliceBytes b 8 8 ≠ s.otp.serial ∧ sliceBytes b 8 8 ≠ List.replicate 8 0xFF#8 then 3
  else if sigSeq b ≤ s.tree.cmdSeq then 2
  else 0

/-- The buffer of a requester's signed command: as it was when the command began to run, else as it is now. -/
def commandBytes (s : State) (q : Requester) : List Byte :=
  match s.sec.command with
  | some (p, b) => if p = q then b else sigBytes s q
  | none => sigBytes s q

/-- A signed command of another requester runs (R487). -/
def commandBusy (s : State) (q : Requester) : Bool := s.sec.command.any fun c => decide (c.1 ≠ q)

/-- SEC_CMD OP 3 starts a signed command (R485, R487): while one runs, the write ends with RESULT 6. -/
def startCommand (s : State) (q : Requester) : State :=
  if s.sec.command.isSome then s.set (R.SEC_RESULT_RESULT q.bank) 6
  else (s.putSec { s.sec with command := some (q, sigBytes s q) }).set (R.SEC_RESULT_BUSY q.bank) 1

/-- Execute a signed command of operation `op` of a requester (R485 to R487): the one that runs, or one that it writes now, which the
command of another requester ends with RESULT 6. `check` answers 0 or the result of its arguments, `run` its effect, `record` the operands
of its tree-state record. -/
def signedCommand (s : State) (q : Requester) (op : Nat) (check : List Byte → Nat) (record : List Byte → List Nat)
    (run : List Byte → State → State) : State :=
  let b := commandBytes s q
  if !openTo s q || decide (sigOp b ≠ op) then s
  else if commandBusy s q then setResult s q 6
  else
    let s := s.putSec { s.sec with command := none }
    let r := sigCheck s b
    let r := if r ≠ 0 then r else check b
    if r ≠ 0 then setResult (s.bump R.SEC_CNT3_CMD_REJ) q r
    else
      let s := run b (s.putTree { s.tree with cmdSeq := sigSeq b })
      setResult (treeChanged s op (record b ++ [sigSeq b])) q 0

/-- DISTRICT_REVOKED with a kind of Table 13-5. -/
def postRevoked (s : State) (district kind gen epoch : Nat) : State :=
  postEvent 0x0F01 [(0, 2, district), (2, 1, kind), (3, 1, gen), (4, 2, epoch)] s

/-- The epoch that DISTRICT_REVOKED names: the active one, else the pending one. -/
def liveEpoch (s : State) : EpochSlot := match liveSlots s with | [] => EpochSlot.empty | i :: _ => s.tree.slot i

/-- Program an owner slot, or revoke it. -/
def setOwner (s : State) (i : Nat) (o : Option (BitVec 256) × Bool) : State :=
  s.putOtp { s.otp with owners := listSet s.otp.owners i o }

/-! ## Joins -/

/-- The window of 64 join slots (R480) holds a response. -/
def joinRecent (s : State) (j : JoinSent) : Bool := decide (s.sec.joinSlots < j.at_ + 64)

/-- K_Z and KEK of a join (R479). -/
def joinKek (kM : BitVec 128) (j : JoinSent) : BitVec 128 :=
  let z := toBE 32 (Config.sha256 (Config.ecdhX (privateKey kM labelJK) j.qe)).toNat
  kdf (BitVec.ofNat 128 (beBytes (z.take 16))) labelJW (j.nonce ++ toBE 8 j.nd ++ toLE 8 j.eui)

/-- The 124 bytes of a join response (Table 17-4 kind 2) under the present state of the line and the tree. -/
def joinIe (s : State) (j : JoinSent) : List Byte :=
  match s.sec.kM, s.sec.kJR, activeSlot s with
  | some kM, some kJR, some e =>
    let dist := lineDistrict (s.line j.line)
    let head := [0x02#8] ++ toLE 1 j.join ++ toLE 2 dist ++ toBE 8 j.nd ++ Config.ecPublic (privateKey kM labelJK) ++
      Config.kwWrap (joinKek kM j) (nodeKeys kM (s.tree.slot e).epoch dist j.eui j.join)
    head ++ (keyBytes (Config.aesCmac (factoryKey kJR j.eui) (head ++ toLE 8 j.eui ++ j.nonce))).take 8
  | _, _, _ => []

/-- PSDU length of a join response (Tables 8-1, 8-3, 9-1, 17-4): 180 octets and the channel map's entries. -/
def joinResponseLen (s : State) (n : Nat) : Nat := 180 + 3 * mapLen s (lineGet (s.line n) N.CHMAP)

/-- A join response is built, or built again, and waits for a join slot (R480): the line takes the present generation of its
district (R479). -/
def queueResponse (s : State) (j : JoinSent) : State :=
  let s := match activeSlot s with
    | none => s
    | some e =>
      let g := districtGen (s.tree.slot e) (lineGet (s.line j.line) N.DISTRICT)
      if lineGet (s.line j.line) N.GEN = g then s else setLineField s j.line N.GEN g
  let waiting := s.sched.frames.any fun f => match f.2.kind with | .joinResponse _ => decide (f.2.final = j.line) | _ => false
  let others := s.sec.joins.filter fun x => decide (x.eui ≠ j.eui ∨ x.nonce ≠ j.nonce) && joinRecent s x
  let s := s.putSec { s.sec with joins := { j with at_ := s.sec.joinSlots } :: others }
  if waiting then s
  else if !cellsFor s 1 (joinResponseLen s j.line) then s.bump R.SCHED_CNT3_DL_FULL
  else (storeFrame s (newFrame (.joinResponse (joinIe s j)) none j.line 1 (joinResponseLen s j.line) none)).1

/-- The lowest line with a zero EUI-64 and REBUILD clear (R478), from line `n` on. -/
def freeLineFrom (n : Nat) : Cells 512 → Nat
  | [] => n
  | (a, v) :: t =>
    if a < n then freeLineFrom n t
    else if n < a then n
    else if lineGet v N.EUI = 0 ∧ lineBit v N.REBUILD = false then n
    else freeLineFrom (n + 1) t

/-- The free line that a new node takes, or none (R478, R479). -/
def freeLine (s : State) : Option Nat :=
  let n := freeLineFrom 0 s.fwd.ncs
  if n < lineCount s then some n else none

/-- A join request is rejected (R478). -/
def rejectJoin (s : State) (eui reason : Nat) : State :=
  postEvent 0x0F06 [(0, 8, euiField eui), (8, 1, reason)] (s.bump R.SEC_CNT1_JOIN_REJ)

/-- Slot offsets that TD5 leaves to wake slots (R341): no beacon, join, tracking or group slot. -/
def wakeOffsets (s : State) : List Nat :=
  let four := [0, 1, 2, 3]
  let taken := ((four.filter fun k => s.bit (R.BEACON_SLOT_EN k)).map fun k => s.get (R.BEACON_SLOT_SLOT k)) ++
    ((four.filter fun k => s.bit (R.JOIN_SLOT_EN k)).map fun k => s.get (R.JOIN_SLOT_SLOT k)) ++
    (if s.bit R.TRACK_CFG_EN then [s.get R.TRACK_CFG_SLOT] else []) ++
    (((List.range 256).filter fun g => s.bit (R.MCAST_CFG_EN g)).map fun g => s.get (R.MCAST_SLOT_SLOT g))
  (List.range (sfLen s)).filter fun o => !taken.contains o

/-- The wake slot offset that the runtime assigns: one of those that TD5 leaves, which one is open. -/
def assignOffset (s : State) : Nat :=
  let l := wakeOffsets s
  l.getD (Config.wakeOffset s.draws % max 1 l.length) 0

/-- The join write (R480, and what other chapters state for a join: R237, R269, R283, R287, R301): the whole line. -/
def joinLine (s : State) (n eui j district mode offset : Nat) : Line :=
  let gen := match activeSlot s with | none => 0 | some e => districtGen (s.tree.slot e) district
  let l := lineSet (lineSet 0#512 N.EUI eui) N.JOIN j
  let l := lineSet (lineSet l N.DISTRICT district) N.GEN gen
  let l := lineSet (lineSet l N.VALID 1) N.ROUTER (lineGet (s.line n) N.ROUTER)
  let l := lineSet (lineSet l N.OFFSET offset) N.CHMAP (s.get R.BEACON_CFG_MAP)
  let l := lineSet (lineSet l N.SUP (s.get R.PSM_SUP_SUP_DEF)) N.AGE (s.get R.FWD_STATUS_NODE_MIN)
  let l := lineSet (lineSet l N.SYNC s.asnNat) N.MODE mode
  lineSet (lineSet l N.ERES 0x7F) N.S (s.get R.DRIFT_CFG_S_INIT)

/-- The wake exponent granted at a join under the target K_DEF (R283), and the agreement that the response carries (R281). -/
def grantJoin (s : State) (n : Nat) : State :=
  let s := s.putDrift { s.drift with targets := assocSet s.drift.targets n (s.get R.DRIFT_RAMP_K_DEF) }
  let g := grantK s n
  let s := setLineField s n N.K g.1
  let s := if g.2 then s.bump R.DRIFT_CNT3_GUARD_CLAMP else s
  let d := s.drift
  let s := noteChange (s.putDrift { d with held := assocSet d.held n (currentAgreement s n g.1), framed := assocSet d.framed n s.asnNat }) n none
  s.putSched { s.sched with epochPending := true }

/-- A join is accepted on line n (R479, R480): the line is written, block 1 is reserved with it (R534), frames of a prior
association are dropped, and the response waits for its join slot. -/
def acceptJoin (s : State) (n eui j district mode path ant : Nat) (nonce qe : List Byte) : State :=
  let s := forgetDrift (freeMapEntry (flushDownlink s n) n) n
  let offset := assignOffset s
  let s := writeLine s.drew n (joinLine s n eui j district mode offset)
  let s := s.putSec { s.sec with unrekeyed := s.sec.unrekeyed.filter (fun x => x ≠ n), drbgRequests := s.sec.drbgRequests + 1 }
  let s := s.putPair { s.pair with reserved := assocDel s.pair.reserved n }
  let s := s.putSched { s.sched with issuedCounter := assocDel s.sched.issuedCounter n }
  let s := grantJoin (reserve s n false 0) n
  let js : JoinSent := { eui := eui, nonce := nonce, line := n, join := j, nd := s.drawn % 2 ^ 64, qe := qe,
                         at_ := s.sec.joinSlots, path := path, ant := ant }
  let s := queueResponse s.drew js
  let s := postEvent 0x0F05 [(0, 4, n), (4, 8, euiField eui), (12, 1, j), (13, 2, district)] (s.bump R.SEC_CNT1_JOIN_OK)
  if (pendingSlot s).isSome then pumpRekeys (s.putSec { s.sec with rekeyLeft := s.sec.rekeyLeft ++ [n] }) else s

/-- Checks 4 to 6 of R478, and the join. -/
def decideJoin (s : State) (eui mode path ant : Nat) (ie : List Byte) : State :=
  let (s, found) := ehtLookup s eui
  let s := match found with
    | none => s
    | some n => if linePoisoned s n then consumeLine s n else s
  let kept := found.filter fun n => !lineBit (s.line n) N.REBUILD
  let district := match kept with | none => s.get R.SEC_JOIN_DEF_DIST | some n => lineGet (s.line n) N.DISTRICT
  let last := match kept with | none => 0 | some n => lineGet (s.line n) N.JOIN
  let j := max (leField ie 1 1) last + 1
  match activeSlot s with
  | none => rejectJoin s eui 4
  | some e =>
    if districtRevoked (s.tree.slot e) district then rejectJoin s eui 4
    else if 255 < j then rejectJoin s eui 5
    else
      let nonce := sliceBytes ie 2 8
      let qe := sliceBytes ie 10 64
      match found with
      | some n => acceptJoin s n eui j district mode path ant nonce qe
      | none =>
        match freeLine s with
        | none => rejectJoin s eui 6
        | some n =>
          let r := ehtInsert s eui n
          if r.2.1 ≠ 0 then rejectJoin r.1 eui 6
          else acceptJoin r.1 n eui j district mode path ant nonce qe

/-- TAG of a join request verifies (R477, R478 check 1). -/
def joinTagOk (s : State) (eui : Nat) (ie : List Byte) : Bool :=
  match s.sec.kJR with
  | none => false
  | some k => decide (sliceBytes ie 74 8 = (keyBytes (Config.aesCmac (factoryKey k eui) (ie.take 74 ++ toLE 8 eui))).take 8)

/-- The security firmware takes a join request (R478, R480). -/
def joinRequest (s : State) (eui mode path ant : Nat) (ie : List Byte) : State :=
  if !s.bit R.SEC_JOIN_EN || s.bit R.SEC_STATUS_ERROR then rejectJoin s eui 3
  else if !joinTagOk s eui ie then rejectJoin s eui 1
  else if !Config.ecValid (sliceBytes ie 10 64) then rejectJoin s eui 2
  else
    match s.sec.joins.find? fun j => decide (j.eui = eui) && decide (j.nonce = sliceBytes ie 2 8) && joinRecent s j with
    | some j => queueResponse s { j with path := path, ant := ant }
    | none => decideJoin s eui mode path ant ie

/-! ## Attestation -/

/-- The measurement of a component, as 32 bytes; zeros where no image is in force. -/
def measurement (s : State) (c : Nat) : List Byte :=
  match assocGet s.boot.images c with
  | none => List.replicate 32 0#8
  | some i => toBE 32 i.hash

/-- The committed configuration sequence. -/
def committedSequence (s : State) : Nat := match assocGet s.boot.images compConfig with | none => 0 | some i => configSequence i.image

/-- Bytes 0 to 287 of the attestation report (Table 17-6a) with a host nonce. -/
def reportBody (s : State) (nonce : List Byte) : List Byte :=
  let flags := boolNat (s.bit R.SEC_STATUS_APPROVED) + 2 * boolNat (s.bit R.SEC_STATUS_ERROR) + 4 * boolNat (s.bit R.SEC_STATUS_TREE_LOST)
  toLE 4 0x4E5A4154 ++ toLE 2 1 ++ toLE 1 flags ++ toLE 1 0 ++ s.otp.serial ++ toLE 4 (devId s.part) ++
    toLE 4 (s.word R.DEV_REV).toNat ++ nonce ++ toLE 8 (committedSequence s) ++
    ([0, 1, 2, 3, 4, 5].map (measurement s)).flatten ++ (List.range 5).map (fun c => BitVec.ofNat 8 (s.otp.arb.getD c 0)) ++
    toLE 3 0 ++ toLE 8 s.tbNs ++ toLE 2 (s.get R.SEC_EPOCH_ACTIVE) ++ toLE 2 0 ++ toLE 4 s.tree.cmdSeq ++
    toLE 4 (s.word R.BOOT_STATUS).toNat ++ toLE 4 0

/-- The identity key d_ID (R482). -/
def identityKey (s : State) : Nat := privateKey s.otp.secret labelID

end Sys2Proof.Machine
end

