-- ==== Sys2Proof/Machine/RxOps.lean ====
section
/-!
DEFINITION. Received frames (chapters 08, 10, 17), shared operations: the address filter (R259), copies (R260), keys and MIC
(R468 to R474), acceptance, duplicates and replays (R261 to R263, R268, R302, R312), delivery.
-/

namespace Sys2Proof.Machine

/-! ## The address filter -/

/-- PAN ID and destination pass (Table 8-5). A frame that does not read as one of R245 names no PAN ID (DESIGN CHOICE, log entry 145). -/
def addressedHere (s : State) (f : RxFrame) : Bool :=
  (match f.mac.source.pan with | none => false | some p => decide (p / 16 % 4096 = s.get R.PSM_CTRL_PAN_BASE)) &&
    (match f.mac.dest with | .none => true | .eui _ d => decide (d = Config.deviceEui s.otp.serial) | .short _ d => decide (d = 0xFFFF))

/-- The filter of Table 8-5: the state, and the node of a frame that passes. No node is known while the tables are closed (R325, R327). -/
def filterFrame (s : State) (f : RxFrame) : State × Option Nat :=
  if !addressedHere s f then (s.bump R.PSM_CNT3_FILT_PAN, none)
  else if nodesClosed s then (s.bump R.PSM_CNT3_FILT_NODE, none)
  else
    let (s, n) := match f.mac.source with
      | .short p a => (s, (some (p % 16 * 65536 + a)).filter (nodeValid s))
      | .eui _ e => ehtLookup s e
      | .none => (s, none)
    match n with
    | none => (s.bump R.PSM_CNT3_FILT_NODE, none)
    | some n => if f.expected.all fun e => decide (e = n) then (s, some n) else (s.bump R.PSM_CNT3_FILT_NODE, none)

/-! ## Keys and MIC -/

/-- The frame is a reply: data or Null at level 5 (Tables 8-1 and 17-3). -/
def isReply (f : RxFrame) : Bool := decide (f.mac.type = typeData) && decide (f.mac.level = 5)

/-- The frame is a node ACK, at level 1 (Tables 8-1 and 17-3). -/
def isNodeAck (f : RxFrame) : Bool := decide (f.mac.type = typeAck) && decide (f.mac.level = 1)

/-- The Enh-Ack of a node to its join response is unsecured (R607): it says nothing more. -/
def isJoinAck (f : RxFrame) : Bool := decide (f.mac.type = typeAck) && decide (f.mac.level = 0) && f.extSource.isSome

/-- The CCM* nonce (IEEE 802.15.4): the node's EUI-64, the frame counter, the security level (Table 17-3). -/
def rxNonce (eui : Nat) (f : RxFrame) : List Byte := toBE 8 eui ++ toBE 4 f.mac.counter ++ toBE 1 f.mac.level

/-- The key of a node's frame under an epoch slot, with the nonce (R462, R474). -/
def rxKey (s : State) (n slot : Nat) (f : RxFrame) : Option (BitVec 128 × List Byte) :=
  (keyOfNode s n (some slot)).map fun k => (frameKey k purposeUp, rxNonce (lineGet (s.line n) N.EUI) f)

/-- What a frame's octets carry once they are opened: the sub-IEs and the payload; none where a length overruns (R248). Level 5 hides what
follows the header IEs (IEEE 802.15.4, log entry 150). -/
def openFrame (k : BitVec 128 × List Byte) (f : RxFrame) : Option (List (Nat × List Byte) × List Byte) :=
  let b := f.mac.body
  if f.mac.level ≠ 5 then readContent f.mac.ie b
  else
    let head := if f.mac.ie then (passHeaderIes (b.length + 1) b).map (fun x => b.length - x.2.length) else some 0
    head.bind fun h => readContent f.mac.ie (b.take h ++ Config.ccmOpen k.1 k.2 5 (b.drop h))

/-- A frame fails its MIC (R261): dropped and counted. -/
def micFails (s : State) : State := s.bump R.PSM_CNT2_MIC_FAIL

/-- A frame of an orphaned node (R470). -/
def orphanFrame (s : State) : State := (micFails s).bump R.SEC_CNT0_ORPHAN

/-! ## What a verified frame does -/

/-- The heard-by learning of a copy on a path and antenna with an RSSI in 0.25 dBm, in the table of the path's cluster (R19, R312). -/
def learnCopy (s : State) (n path ant : Nat) (rssi : Int) : State := hbUpdate s (pathCluster path) n path ant (rssiBucket (rssi / 4))

/-- Learning from a frame whose MIC verified, and from the copies of it that came before (R312). -/
def learnFrame (s : State) (n : Nat) (f : RxFrame) : State :=
  let s := learnCopy s n f.path f.ant f.rssi
  match exchangeOf s n with
  | none => s
  | some x =>
    if !isReply f || decide (x.copy ≠ some f.mac.counter) || x.copies.isEmpty then s
    else foldState (fun (t : State) (c : Nat × Nat × Int) => learnCopy t n c.1 c.2.1 c.2.2) (setExchange s n { x with copies := [] }) x.copies

/-- The frame enters the crowd of the trim interval (R158): it was accepted, its node's model is valid, and its SNR is at least 10 dB. The
residual is the measured offset less f + a × τ, in 0.01 ppb; the weight is the inverse variance of the carrier estimate (R286). -/
def joinCrowd (s : State) (n : Nat) (f : RxFrame) : State :=
  if !modelValid s n || decide (f.snr < 40) then s
  else
    let m := fitOf s n
    let predicted := unfix m.f 30 + unfix m.a 50 * ((sinceSync s n : Rat) / secondNs)
    let r := fixRat 90 ((unfix f.carrier 10 - predicted) * 100000) 0
    s.putOsc { s.osc with crowd := s.osc.crowd ++ [(n, r, 2 ^ 80 / carrierNoise f.snr)] }

/-- The observations of a verified frame (R285): timing from an accepted reply under EXP_V 1, the carrier from every frame. -/
def observeFrame (s : State) (n : Nat) (f : RxFrame) (accepted : Bool) : State :=
  let timing := match exchangeOf s n, f.expected with
    | some x, some _ =>
      if accepted && isReply f then
        some (sinceSync s n - (s.asnNat + 2 ^ 40 - f.asn) % 2 ^ 40 * slotLenNs s, x.lag, f.timing, (heldOf s n).rate)
      else none
    | _, _ => none
  if timing.isNone && decide (f.snr < 12) then s
  else observe s { node := n, asn := f.asn, timing := timing, carrier := f.carrier, snr := f.snr }

/-- The transmit hint of a frame (Table 10-3). -/
def hintOf (f : RxFrame) : Nat := f.path % 32 + f.ant % 2 * 32 + 64 + rssiBucket (f.rssi / 4) * 256

/-- The node policing credit after an accepted frame (R338). -/
def creditAfter (s : State) (n asn : Nat) : Nat :=
  let l := s.line n
  if s.bit R.NODE_POL_EN then
    let elapsed := (asn + 2 ^ 24 - lineGet l N.SYNC) % 2 ^ 24
    min (s.get R.NODE_POL_BURST) (lineGet l N.CREDIT + elapsed * s.get R.NODE_POL_RATE / 16)
  else lineGet l N.CREDIT

/-- The line after an accepted frame, or after a duplicate (R261, R268, R302). -/
def lineAfter (s : State) (n : Nat) (f : RxFrame) (accepted : Bool) : Line :=
  let l := s.line n
  let l := if accepted then
      lineSet (lineSet (lineSet (lineSet (lineSet l N.RXCTR f.mac.counter) N.DSN f.mac.seq) N.SYNC f.asn) N.AGE
        (s.get R.FWD_STATUS_NODE_MIN)) N.CREDIT (creditAfter s n f.asn)
    else l
  lineSet (lineSet (lineSet l N.MISS 0) N.SUSPECT 0) N.HINT (hintOf f)

/-- A verified frame is accepted or found to be a duplicate: line, learning, recovery (R261, R262, R268). -/
def frameHeard (s : State) (n : Nat) (f : RxFrame) (accepted : Bool) : State :=
  let suspect := lineBit (s.line n) N.SUSPECT
  let l := lineAfter s n f accepted
  let s := observeFrame (if accepted then joinCrowd s n f else s) n f accepted
  let s := learnFrame (writeLine s n l) n f
  let s := if suspect then postEvent 0x0602 [(0, 4, n), (4, 5, s.asnNat)] s else s
  match exchangeOf s n with
  | none => s
  | some x => if isReply f then agreementSettled (setExchange s n { x with replied := true }) n f.asn else s

/-- Deliver the payload of an accepted reply (R261, R380, R397): a management frame to the host, any other to the border. -/
def deliver (s : State) (n : Nat) (f : RxFrame) (p : List Byte) (written : Bool) : State :=
  if !isReply f || p.isEmpty then s
  else
    match managementOf p with
    | some (cls, data) =>
      let r := policeUplink s n cls (20 + p.length)
      deliverHost r.1 n f r.2 data written
    | none => uplinkPayload s n (20 + p.length) f.decoded p

/-- What follows a verified frame that is accepted or a duplicate (R252, R254, R262): the end of a follow-on, or the ACK of a reply, one in
a reply window (R260). -/
def answerFrame (s : State) (n : Nat) (f : RxFrame) : State :=
  if isNodeAck f then nodeAckHeard s n f.mac.seq f.ended
  else if (exchangeOf s n).any (fun x => !x.answered) then planAck s n f.mac.seq f.timing f.ended
  else s

/-- A frame whose MIC verified, with its payload (R261 to R263, R522). -/
def verifiedFrame (s : State) (n : Nat) (f : RxFrame) (p : List Byte) (written : Bool) : State :=
  let last := lineGet (s.line n) N.RXCTR
  let c := f.mac.counter
  if !claims s then
    if c < last then s else learnFrame (observeFrame (if last < c then joinCrowd s n f else s) n f (decide (last < c))) n f
  else if last < c then deliver (mapHeard (answerFrame (frameHeard s n f true) n f) n f.began f.trailer) n f p written
  else if c = last then mapHeard (answerFrame (frameHeard (s.bump R.PSM_CNT1_DUP_RX) n f false) n f) n f.began f.trailer
  else s.bump R.PSM_CNT1_REPLAY_RX

/-- The first copy of a reply has come: later ones of its exchange are copies (R260). -/
def firstCopy (s : State) (n : Nat) (f : RxFrame) : State :=
  match exchangeOf s n with
  | none => s
  | some x => if isReply f then setExchange s n { x with copy := some f.mac.counter } else s

/-- The frame is a later copy (R260). -/
def isCopy (s : State) (n : Nat) (f : RxFrame) : Bool :=
  isReply f && (match exchangeOf s n with | none => false | some x => decide (x.copy = some f.mac.counter))

/-- A frame is judged under the tag its key was derived for (R473): a tree state that changed since then orphans it. -/
def judgeFrame (s : State) (n : Nat) (t : CacheTag) (f : RxFrame) (written : Bool) : State :=
  match slotFor s f.asn with
  | none => orphanFrame s
  | some e =>
    if orphanedIn s n (some e) || decide (keyTag s 4 n purposeUp e ≠ t) then orphanFrame s
    else
      match rxKey s n e f with
      | none => micFails s
      | some k =>
        if !Config.ccmVerify k.1 k.2 f.mac.level f.psdu then micFails s
        else
          match openFrame k f with
          | none => micFails s
          | some (_, p) => verifiedFrame s n f p written

/-- The packet core takes a filtered frame of node n (R260, R261, R468 to R473). A frame that has not the level of its kind cannot verify
(Table 17-3). A later copy waits to be learned while the MIC of the first is open (R312). -/
def takeFrame (s : State) (n : Nat) (f : RxFrame) (written : Bool) : State :=
  if linePoisoned s n then consumeLine s n
  else if isCopy s n f then
    let s := s.bump R.PSM_CNT2_COPY_RX
    match exchangeOf s n with
    | some x =>
      if x.replied then learnCopy s n f.path f.ant f.rssi
      else setExchange s n { x with copies := x.copies ++ [(f.path, f.ant, f.rssi)] }
    | none => s
  else if isJoinAck f || s.bit R.SEC_STATUS_ERROR then s
  else if !isReply f && !isNodeAck f then micFails s
  else
    let s := firstCopy s n f
    match slotFor s f.asn with
    | none => orphanFrame s
    | some e =>
      let t := keyTag s 4 n purposeUp e
      if orphanedIn s n (some e) then orphanFrame s
      else if cacheHit s t then judgeFrame (cacheTouch s t) n t f written
      else s.putSec { s.sec with deriving_ := s.sec.deriving_ ++ [(t, f)] }

end Sys2Proof.Machine
end

