-- ==== Sys2Proof/Machine/SlotOps.lean ====
section
/-!
DEFINITION. The slot engine: boundaries (R240, R241, R413, R414), the end of a slot, and the plan of a slot (R243, R251,
R252, R267, R314, R320, R321, R340 to R343, R480).
-/

namespace Sys2Proof.Machine

/-! ## Candidates -/

/-- A wake node of the slot with the path and antenna it is polled on, and its channel. -/
structure WakeNode where
  node : Nat
  path : Nat
  ant : Nat
  freq : Nat
  alt : Bool
  lag : Int
  guard : Nat
  unionOnly : Bool
  deriving DecidableEq, Repr

/-- The wake index w of a slot (R267). -/
def wakeIndex (s : State) (k : Nat) : Nat := s.asnNat / (sfLen s * 2 ^ k)

/-- The node is polled on its alternate map: suspect, odd wake index, and an alternate that is defined (R244, R267). -/
def polledAlt (s : State) (n : Nat) : Bool :=
  let l := s.line n
  let m := lineGet l N.CHMAP
  let a := s.get (R.CHMAP_HDR_ALT m)
  lineBit l N.SUSPECT && decide (wakeIndex s (heldOf s n).k % 2 = 1) && decide (a ≠ m) && decide (mapLen s a ≠ 0)

/-- The agreements under which a node is polled: the one it holds and those sent (R282). One that changed since the epoch in force
began is polled under both its old and its new agreement until the next epoch, and a node that joined since is not polled (R344, log
entry 151). -/
def wakeSets (s : State) (n : Nat) : List Agreement :=
  match assocGet s.drift.changed n with
  | some none => []
  | some (some (k, slot)) => { heldOf s n with k := k, slot := slot } :: heldOf s n :: otherAgreements s n
  | none => heldOf s n :: otherAgreements s n

/-- The slot is a wake slot of a node under some of its agreements, and under some but not all of them (R279, R282). -/
def wakesNow (s : State) (n : Nat) : Bool := (wakeSets s n).any fun a => wakesAt s a n s.asnNat
def wakesSome (s : State) (n : Nat) : Bool := wakesNow s n && !((wakeSets s n).all fun a => wakesAt s a n s.asnNat)

/-- The nodes that wake in the present slot. -/
def wakeNodes (s : State) : List Nat := (validNodes s).filter (wakesNow s)

/-- The pinned path of a node, from the infrastructure table. -/
def pinOf (s : State) (n : Nat) : Option Nat :=
  ((infraListed s).find? fun i => entValid (infraEnt s i) && entPin (infraEnt s i) && decide (entIndex (infraEnt s i) = n)).map
    fun i => entPath (infraEnt s i)

/-- A Crimson-enrolled node was moved off the path it is pinned to (R343). -/
def offPath (s : State) (n p : Nat) : Bool :=
  match pinOf s n with
  | none => false
  | some q => decide (q ≠ p) && decide ((heldOf s n).k = 0) && (reservedOffsets s q).contains (heldOf s n).slot

/-- One wake node is looked at: it becomes a candidate, or it is not polled, with the count that says why (R244, R314, R341,
R343, R470). -/
def considerNode (acc : State × List WakeNode) (n : Nat) : State × List WakeNode :=
  let s := acc.1
  let l := s.line n
  let map := if polledAlt s n then s.get (R.CHMAP_HDR_ALT (lineGet l N.CHMAP)) else lineGet l N.CHMAP
  if linePoisoned s n then (consumeLine s n, acc.2)
  else if orphaned s n then (if serving s then s.bump R.SEC_CNT2_ORPHAN_TX else s, acc.2)
  else
    let s := choiceParity s n
    match choosePath s n, hopChannel s map s.asnNat (n % 256) with
    | some (p, ant), some freq =>
      let s := if offPath s n p then s.bump R.SCHED_CNT3_CRIM_OFFPATH else s
      if (joinSlotNow s).isSome || pathTaken s p then (s.bump R.SCHED_CNT2_SLOT_CONFLICT, acc.2)
      else
        let w : WakeNode :=
          { node := n, path := p, ant := if lineBit l N.SUSPECT then 1 - lineGet l N.HANT else ant, freq := freq,
            alt := polledAlt s n, lag := predictLag s n, guard := exchangeGuard s n,
            unionOnly := wakesSome s n }
        (s, acc.2 ++ [w])
    | _, _ => (s.bump R.FWD_CNT0_NOPATH, acc.2)

/-! ## Admission -/

/-- A frame of one of the classes waits for an air destination. -/
def waitsIn (s : State) (n : Nat) (p : Nat → Bool) : Bool :=
  (downlinkOf s n).any fun h => match s.frame h with | none => false | some f => p f.cls

/-- The node is Crimson-enrolled on its path (R343). -/
def enrolled (s : State) (w : WakeNode) : Bool :=
  decide ((heldOf s w.node).k = 0) && (reservedOffsets s w.path).contains (heldOf s w.node).slot

/-- The rank of a candidate in the order of admission (R341, R343): enrolled nodes of a reserved slot, then TC0, then TC1 or
TC2, then the rest. -/
def admitRank (s : State) (w : WakeNode) : Nat :=
  if reservedNow s w.path && enrolled s w then 0
  else if waitsIn s w.node fun c => decide (c = 0) then 1
  else if waitsIn s w.node fun c => decide (c = 1) || decide (c = 2) then 2
  else 3

/-- A candidate comes before another: by rank, and among the remaining ones by the longest silence. -/
def comesBefore (s : State) (a b : WakeNode) : Bool :=
  let ra := admitRank s a
  let rb := admitRank s b
  decide (ra < rb) || (decide (ra = rb) && decide (silentNs s b.node < silentNs s a.node))

/-- Insert a candidate into an ordered list, after those it does not come before. -/
def insertNode (s : State) (w : WakeNode) : List WakeNode → List WakeNode
  | [] => [w]
  | x :: t => if comesBefore s w x then w :: x :: t else x :: insertNode s w t

/-- The candidates in the order of admission. -/
def admitOrder (s : State) (l : List WakeNode) : List WakeNode := l.foldl (fun a w => insertNode s w a) []

/-- D_POLL of a node. -/
def pollAir (s : State) (n : Nat) : Nat := nodeAir s n 31

/-- TD3 over a group of members (Table 11-2). -/
def groupFits (s : State) (path : Nat) (l : List WakeNode) : Bool :=
  let lags := l.map fun w => w.lag
  let airs := l.map fun w => pollAir s w.node
  let turns := l.map fun w => nodeTurn s w.node
  let spread : Int := (lags.foldl max (lags.headD 0) - lags.foldl min (lags.headD 0)) +
    ((airs.foldl max 0 : Nat) - (airs.foldl min (airs.headD 0) : Nat) : Int)
  decide (spread ≤ (turns.foldl min (turns.headD 0) : Nat) - (rampLead s path : Nat) - 20000)

/-- Members that a path's group may have: MAX_TE, or 8 on a stream, which has no such register. -/
def groupLimit (s : State) (path : Nat) : Nat := if path < 16 then s.get (R.PATH_LIMITS_MAX_TE path) else 8

/-- Channel engines of a cluster that the slot engine can assign. -/
def enginesOf (s : State) (c : Nat) : Nat :=
  ((clusterCes c).filter fun e => s.bit (R.CE_CFG_EN e) && !(s.ce e).loading).length -
    (if trackNow s && decide (pathCluster (s.get R.TRACK_CFG_PATH) = c) then 1 else 0)

/-- A candidate joins the groups admitted so far (R341 to R343, TD2, TD3). -/
def admits (s : State) (busy : List Nat) (done_ : List WakeNode) (w : WakeNode) : Bool :=
  let group := done_.filter fun x => decide (x.path = w.path)
  let used := (done_.filter fun x => decide (pathCluster x.path = pathCluster w.path)).length
  decide (used < enginesOf s (pathCluster w.path)) && decide (group.length < groupLimit s w.path) &&
    (match group with
     | [] => true
     | x :: _ => decide (x.ant = w.ant) && !s.sched.solo.contains x.node && !s.sched.solo.contains w.node &&
         groupFits s w.path (group ++ [w])) &&
    (!reservedNow s w.path || enrolled s w || !busy.contains w.path)

/-- Admit the candidates in order; one that is not admitted counts GROUP_FULL (R341). -/
def admitAll (s : State) (l : List WakeNode) : State × List WakeNode :=
  let busy := (l.filter fun w => reservedNow s w.path && enrolled s w && !(downlinkOf s w.node).isEmpty).map fun w => w.path
  (admitOrder s l).foldl (fun (acc : State × List WakeNode) w =>
    if admits acc.1 busy acc.2 w then (acc.1, acc.2 ++ [w]) else (acc.1.bump R.SCHED_CNT1_GROUP_FULL, acc.2)) (s, [])

/-! ## Exchanges -/

/-- The exchange of an admitted node, with the record of its reply assignment (R182, R290). -/
def exchangeFor (s : State) (w : WakeNode) : Exchange :=
  let mode := nodeMode s w.node
  let e : Exchange :=
    { asn := s.asnNat, path := w.path, antenna := w.ant, sent := false, replied := false, copy := none, copies := [], answered := false, unionOnly := w.unionOnly,
      pending := false, guard := w.guard, lag := w.lag, freq := w.freq, closed := false, follow := none, more := false,
      ackDue := none,
      record := { path := w.path, mode := mode, bw := leastBw mode / 25, ant := 0, hintB := w.ant, precV := boolNat (precValid s w.node),
                  precorr := toField 24 (precorr s w.node), expV := 1, expT := 0,
                  offset := toField 26 (((w.freq : Int) - windowCentre s w.path) * 1000), epoch := s.get R.SCHED_STATUS_EPOCH,
                  active := 1 } }
  let due : Int := (slotStart s : Int) + replyDue s w.node e + preambleNs mode (s.get R.PSM_SLOT_PRE_LEN)
  { e with record := { e.record with expT := toField 32 due } }

/-- The channels of the present slot on a path, kHz with their bandwidths: those of the admitted nodes, of the beacon and group
sends, of the tracking slot, and of a join slot that the home window holds (R120, R276). -/
def slotChannels (s : State) (p : Nat) (l : List WakeNode) : List (Nat × Nat) :=
  let main (ofs : Nat) : List Nat := (hopChannel s (s.get R.BEACON_CFG_MAP) s.asnNat ofs).toList
  ((l.filter fun w => decide (w.path = p)).map fun w => (w.freq, leastBw (nodeMode s w.node))) ++
  (match beaconSlotNow s with
   | none => []
   | some k => if s.get (R.BEACON_SLOT_PATH k) = p then (main (s.get (R.BEACON_SLOT_CH_OFS k))).map fun f => (f, leastBw (s.get R.BEACON_CFG_MODE)) else []) ++
  (((groupsNow s).filter fun g => natBit (s.get (R.MCAST_PATHS_PATHS g)) p).map fun g =>
    (main (s.get (R.MCAST_SLOT_CH_OFS g))).map fun f => (f, leastBw (s.get (R.MCAST_SLOT_MODE g)))).flatten ++
  (if trackNow s && decide (s.get R.TRACK_CFG_PATH = p) then
     (hopChannel s (s.get R.TRACK_CH_MAP) s.asnNat (s.get R.TRACK_CH_CH_OFS)).toList.map fun f => (f, leastBw (s.get R.TRACK_CFG_MODE))
   else []) ++
  (match joinSlotNow s with
   | none => []
   | some k => ((main (s.get (R.JOIN_SLOT_CH_OFS k))).map fun f => (f, leastBw (s.get (R.JOIN_SLOT_MODE k)))).filter fun x =>
       channelFits (homeCentre s p) (windowWidth s p) x.1 x.2)

/-- The window of a path moves when the channels of its slot do not fit the current one (R120, TD5): to the home window where they
fit that, else to their middle. -/
def moveWindow (s : State) (p : Nat) (l : List WakeNode) : State :=
  let chans := slotChannels s p l
  let fit (c : Nat) : Bool := chans.all fun x => channelFits c (windowWidth s p) x.1 x.2
  if 16 ≤ p || !pathEnabled s p || chans.isEmpty || reservedNow s p || s.sched.drains.contains p || fit (windowCentre s p) then s
  else if fit (homeCentre s p) then retune s p (homeCentre s p)
  else
    let fs := chans.map fun x => x.1
    retune s p ((fs.foldl max 0 + fs.foldl min (fs.headD 0)) / 2)

/-! ## Engine assignments (R182, R226, R276, R296) -/

/-- A receive assignment of the slot without an expected node: both chains, no pre-correction. -/
def plainRecord (s : State) (p mode freq : Nat) : Assignment :=
  { path := p, mode := mode, bw := leastBw mode / 25, ant := 0, hintB := 0, precV := 0, precorr := 0, expV := 0, expT := 0,
    offset := toField 26 (((freq : Int) - windowCentre s p) * 1000), epoch := s.get R.SCHED_STATUS_EPOCH, active := 1 }

/-- The maps that the slot engine loads with a node's Indigo assignment (R226): the present one, 0 for none, and the pending one. -/
def mapLoad (s : State) (n : Nat) : Option (Nat × Option Nat) :=
  if isIndigo s n then
    some (nodeMap s n, match assocGet s.imap.entries n with
      | some e => if e.status = .pending then some e.map else none
      | none => none)
  else none

/-- What the slot engine assigns in the present slot: the replies of the exchanges, the join slot on every enabled path whose home
window holds its channel, the tracking slot. -/
def slotLoads (s : State) : List EngineLoad :=
  (s.psm.exchanges.map fun x => { record := x.2.record, maps := mapLoad s x.1, node := some x.1 }) ++
  (match joinSlotNow s with
   | none => []
   | some k =>
     match hopChannel s (s.get R.BEACON_CFG_MAP) s.asnNat (s.get (R.JOIN_SLOT_CH_OFS k)) with
     | none => []
     | some f =>
       let m := s.get (R.JOIN_SLOT_MODE k)
       ((presentPaths s).filter fun p => pathEnabled s p && !s.sched.drains.contains p &&
         channelFits (homeCentre s p) (windowWidth s p) f (leastBw m)).map fun p => { record := plainRecord s p m f, maps := none, node := none }) ++
  (if trackNow s && !s.sched.drains.contains (s.get R.TRACK_CFG_PATH) then
     (hopChannel s (s.get R.TRACK_CH_MAP) s.asnNat (s.get R.TRACK_CH_CH_OFS)).toList.map fun f =>
       { record := plainRecord s (s.get R.TRACK_CFG_PATH) (s.get R.TRACK_CFG_MODE) f, maps := none, node := none }
   else [])

/-- Engine e can be given an assignment. -/
def ceFree (s : State) (e : Nat) : Bool := s.bit (R.CE_CFG_EN e) && !(s.ce e).loading

/-- The engine for a load: one that holds the same path, channel and mode already, else the first free one of the cluster. -/
def engineFor (s : State) (used : List Nat) (l : EngineLoad) : Option Nat :=
  let a := l.record
  let free := (clusterCes (pathCluster a.path)).filter fun e => ceFree s e && !used.contains e
  (free.find? fun e => s.bit (R.CE_ASG0_ACTIVE e) && decide (s.get (R.CE_ASG0_PATH e) = a.path) &&
    decide (s.get (R.CE_ASG1_OFFSET e) = a.offset) && decide (s.get (R.CE_ASG0_MODE e) = a.mode)).orElse fun _ => free.head?

/-- The records of the present slot, one for each engine used, and a release for each engine that the slot does not use. -/
def assignEngines (s : State) : State :=
  let l := (slotLoads s).foldl (fun (acc : List (Nat × EngineLoad)) x =>
    match engineFor s (acc.map fun y => y.1) x with | none => acc | some e => acc ++ [(e, x)]) []
  let idle := ((List.range 512).filter fun e => s.bit (R.CE_ASG0_ACTIVE e) && !(l.any fun y => decide (y.1 = e))).map fun e => (e, releaseLoad s e)
  s.putPsm { s.psm with assigns := idle ++ l }

/-- Plan the wake exchanges of the slot (R252, R340): every device plans them (R522). -/
def planExchanges (s : State) : State :=
  if nodesClosed s then foldState (fun (t : State) p => moveWindow t p []) s (presentPaths s)
  else
    let r := (wakeNodes s).foldl considerNode (s, [])
    let a := admitAll r.1 r.2
    let s := foldState (fun (t : State) p => moveWindow t p a.2) a.1 (presentPaths a.1)
    let s := foldState (fun (t : State) (w : WakeNode) => setExchange t w.node (exchangeFor t w)) s a.2
    let gone := a.2.map fun w => w.node
    let solo := s.sched.solo.filter fun n => !gone.contains n
    (s.putSched { s.sched with solo := solo }).set R.SCHED_STATUS_SOLO_USED solo.length

/-! ## Transmissions of a slot -/

/-- The poll of an exchange (R253, R267, Table 8-3). -/
def pollItem (s : State) (n : Nat) (e : Exchange) : State × List WorkItem :=
  let (s, h) := controlFrame s n (.poll (polledAlt s n) (lineBit (s.line n) N.SUSPECT)) 31
  if (s.frame h).isNone then (s, [])
  else
    let at_ := ((slotStart s : Int) + tPollNs s + e.lag).toNat
    (s, [workItem s e.path h (nodeMode s n) e.freq at_ (at_ + (e.guard + 1) / 2 * 1000) (requestedIndex n h) e.antenna])

/-- The polls of a path's group share one interval. -/
def sendPolls (s : State) (p : Nat) : State :=
  let mine := s.psm.exchanges.filter fun x => decide (x.2.path = p) && !x.2.sent && !x.2.closed
  let r := mine.foldl (fun (acc : State × List WorkItem) x => let t := pollItem acc.1 x.1 x.2; (t.1, acc.2 ++ t.2)) (s, [])
  if r.2.isEmpty then r.1 else planInterval r.1 r.2

/-- PSDU length of an enhanced beacon (R606). -/
def beaconLen (s : State) : Nat :=
  54 + 3 * (four.filter fun k => s.bit (R.BEACON_SLOT_EN k)).length + 4 * (four.filter fun k => s.bit (R.JOIN_SLOT_EN k)).length +
    3 * mapLen s (s.get R.BEACON_CFG_MAP)

/-- The path carries a beacon: enabled for transmit, in service, not drained (R251). -/
def beaconServes (s : State) (p : Nat) : Bool := pathTxEnabled s p && pathInService s p

/-- The beacon of the slot (R251): on antenna A, at T_POLL. -/
def sendBeacon (s : State) : State :=
  match beaconSlotNow s with
  | none => s
  | some k =>
    let p := s.get (R.BEACON_SLOT_PATH k)
    match hopChannel s (s.get R.BEACON_CFG_MAP) s.asnNat (s.get (R.BEACON_SLOT_CH_OFS k)) with
    | none => s
    | some freq =>
      if !beaconServes s p || reservedNow s p then s
      else
        let (s, h) := storeFrame s (newFrame (.beacon k s.asnNat) none 0xFFFF 1 (beaconLen s) none)
        let at_ := slotStart s + tPollNs s
        planInterval s [workItem s p h (s.get R.BEACON_CFG_MODE) freq at_ at_ (s.get R.BEACON_CFG_PWR_IDX) 0]

/-- The frame of a group that is sent next (R321): one that was sent before, else by the classes (Table 11-1). -/
def groupHead (s : State) (g : Nat) : State × Option Nat :=
  let q := groupQueue s g
  match q.find? fun x => decide (0 < x.2) with
  | some x => (s, some x.1)
  | none =>
    let hs := q.map fun x => x.1
    let first (c : Nat) : Option Nat := hs.find? fun h => match s.frame h with | none => false | some f => decide (f.cls = c)
    let r := nextClass s (2 ^ 20 + g) (fun c => (first c).bind (frameLen s)) (fun _ => true) (loneIn s hs)
    (r.1, r.2.bind first)

/-- The group send of the slot (R321): on every path of the mask that is in service, all at T_POLL. -/
def sendGroupSlot (s : State) (g : Nat) : State :=
  let (s, h) := groupHead s g
  match h, hopChannel s (s.get R.BEACON_CFG_MAP) s.asnNat (s.get (R.MCAST_SLOT_CH_OFS g)) with
  | some h, some freq =>
    let ps := (presentPaths s).filter fun p =>
      natBit (s.get (R.MCAST_PATHS_PATHS g)) p && pathTxEnabled s p && pathInService s p && !reservedNow s p
    let at_ := slotStart s + tPollNs s
    let s := putGroup s g ((groupQueue s g).map fun x => if x.1 = h then (x.1, x.2 + 1) else x)
    foldState (fun (t : State) p =>
      planInterval t [workItem t p h (t.get (R.MCAST_SLOT_MODE g)) freq at_ at_ (requestedIndex (2 ^ 20 + g) h) 0]) s ps
  | _, _ => s

/-- The join responses that wait, oldest first: (handle, response). -/
def waitingJoins (s : State) : List (Nat × JoinSent) :=
  s.sched.frames.filterMap fun p =>
    match p.2.kind with
    | .joinResponse _ => (s.sec.joins.find? fun j => decide (j.line = p.2.final)).map fun j => (p.1, j)
    | _ => none

/-- Send one response per path in a join slot (R271, R480), built again under the present tree state. -/
def sendJoins (s : State) : State :=
  match joinSlotNow s with
  | none => s
  | some k =>
    match hopChannel s (s.get R.BEACON_CFG_MAP) s.asnNat (s.get (R.JOIN_SLOT_CH_OFS k)) with
    | none => s
    | some freq =>
      let at_ := slotStart s + tPollNs s
      foldState (fun (t : State) p =>
        match (waitingJoins t).find? fun x => decide (x.2.path = p) with
        | none => t
        | some (h, j) =>
          if !pathTxEnabled t p || !pathInService t p then t
          else
            let t := queueResponse t j
            match t.frame h with
            | none => t
            | some f =>
              let t := t.setFrame h { f with kind := .joinResponse (joinIe t j), len := joinResponseLen t j.line }
              planInterval t [workItem t p h (t.get (R.JOIN_SLOT_MODE k)) freq at_
                (at_ + (t.get R.PSM_TIMING_G_JOIN + 1) / 2 * 1000) (requestedIndex j.line h) j.ant]) s (presentPaths s)

/-- The present slot lies at or after the boundary of a sleep entry: no transmit interval is planned (R579). -/
def sleepDue (s : State) : Bool := match s.pwr.request with | none => false | some r => decide (r.boundary ≤ s.tb.boundLast)

/-- The transmissions that the claiming device plans for the present slot. -/
def issueSlot (s : State) : State :=
  if !serving s || sleepDue s then s
  else
    let s := sendJoins (foldState sendGroupSlot (sendBeacon s) (groupsNow s))
    foldState sendPolls s (presentPaths s)

/-! ## Boundaries -/

/-- Group frames that were sent in REPEAT + 1 group slots leave their queue; so do frames that are gone (R321). -/
def groupsEnd (s : State) : State :=
  foldState (fun (t : State) (g : Nat × List (Nat × Nat)) =>
    let ended := g.2.filter fun x => decide (t.get (R.MCAST_CFG_REPEAT g.1) < x.2)
    let t := foldState (fun (u : State) (x : Nat × Nat) => (removeFrame u x.1).bumpWrap (R.MCAST_STAT_SENT g.1)) t ended
    let left := g.2.filter fun x => (t.frame x.1).isSome
    if left = g.2 then t else putGroup t g.1 left) s s.fwd.groups

/-- The slot in progress ends: open reply windows and node ACK windows end, and what was planned and not sent is given up. -/
def endSlot (s : State) : State :=
  let nodes := s.psm.exchanges.map fun x => x.1
  let s := foldState (fun (t : State) n => nodeAckMissed (replyWindowEnds t n) n) s nodes
  let plan := s.psm.plan
  let s := foldState (fun (t : State) (w : WorkItem) => abandonFrame t w.handle) (s.putPsm { s.psm with plan := [] }) plan
  groupsEnd (s.putPsm { s.psm with exchanges := [] })

/-- The lowest offset among the enabled beacon slots, or 0 (R241). -/
def firstBeacon (s : State) : Nat :=
  match (four.filter fun k => s.bit (R.BEACON_SLOT_EN k)).map fun k => s.get (R.BEACON_SLOT_SLOT k) with
  | [] => 0
  | o :: t => t.foldl min o

/-- The next boundary: after one that was counted, the next multiple of L; else the first one after the present time (R413). -/
def nextBoundary (s : State) : Nat :=
  let l := max 1 (slotLenNs s)
  if s.bit R.PSM_STATUS_RUN then s.tb.boundLast + l - s.tb.boundLast % l else s.tbNs + l - s.tbNs % l

/-- The ASN of the slot that begins at boundary `b` (R240, R241, R414, R532). -/
def nextAsn (s : State) (b : Nat) : Nat :=
  if s.pair.takeAsn then (s.pair.peerAsn + 1) % 2 ^ 40
  else if s.bit R.PSM_STATUS_RUN then (s.asnNat + 1) % 2 ^ 40
  else if s.psm.resume then (s.tb.asnLast + (b - s.tb.boundLast) / max 1 (slotLenNs s)) % 2 ^ 40
  else (s.get R.ASN_INIT_HI_ASN * 2 ^ 32 + s.get R.ASN_INIT_LO_ASN + firstBeacon s) % 2 ^ 40

/-- Count a boundary (R413): the ASN rises, then a pending step applies (R409). -/
def countBoundary (s : State) : State :=
  let b := nextBoundary s
  let asn := nextAsn s b
  let s := s.advanceTo b
  let s := s.putPsm { s.psm with asn := BitVec.ofNat 40 asn, resume := false }
  let step : Int := s.tb.pendingStep.getD 0
  let s := s.putTb { s.tb with boundLast := b, asnLast := asn, slotAt := ((b : Int) + step).toNat }
  let s := s.putPair { s.pair with asnAt := s.now, takeAsn := false }
  applyPendingStep (s.set R.PSM_STATUS_RUN 1)

/-- An unplanned takeover has come to the first slot it serves (R540). -/
def takeoverServes (s : State) : State :=
  if s.pair.serveFrom ≠ 0 ∧ s.pair.serveFrom ≤ s.tb.boundLast then
    let s := s.putPair { s.pair with serveFrom := 0 }
    match s.pair.switchover with
    | some w => if w.kind = 1 then switchDone s w (switchTime s w) else s
    | none => s
  else s

/-- The slot that ends counts for every enabled path that had no assignment in it (R169). -/
def countIdle (s : State) : State :=
  if !s.bit R.PSM_STATUS_RUN then s
  else
    foldState (fun (t : State) p =>
      if !pathEnabled t p then t
      else t.setPath p { t.path p with idleSlots := if pathIdle t p then (t.path p).idleSlots + 1 else 0 }) s (presentPaths s)

/-- What a path takes up at the start of a slot: a unit of a sliced request, the guard-band tone (R155, R168). -/
def slotOnPaths (s : State) : State := foldState (fun (t : State) p => viewTone (sliceBegins t p) p) s (presentPaths s)

/-- What is due at a boundary once its ASN is known: a restore ends, epochs activate, rekey frames that waited go, drained paths
are checked, pending repairs apply. -/
def boundaryDue (s : State) : State :=
  let s := epochBoundary (restoreEnd (takeoverServes s))
  let s := if (joinSlotNow s).isSome then s.putSec { s.sec with joinSlots := s.sec.joinSlots + 1 } else s
  let s := if nowOffset s = 0 then drainCheck s s.asnNat else s
  pumpRekeys s

end Sys2Proof.Machine
end

