-- ==== Sys2Proof/Machine/UpdOps.lean ====
section
/-!
DEFINITION. Firmware and configuration update (chapter 20), shared operations: staging checks (R548), slot changes (R549),
handovers (R552 to R557), probation (R559), confirmation (R560) and fallback (R562 to R565).
-/

namespace Sys2Proof.Machine

/-! ## Command register -/

/-- UPD_STATUS.STATE codes (Table 20-7). -/
def updIdle : Nat := 0
def updWriting : Nat := 2
def updStaged : Nat := 3
def updHandover : Nat := 4
def updProbation : Nat := 5
def updFallback : Nat := 6
def updSwitch : Nat := 7

/-- Set UPD_STATUS.STATE, and RESULT. -/
def setUpd (s : State) (state : Nat) : State := s.set R.UPD_STATUS_STATE state
def updResult (s : State) (r : Nat) : State := s.set R.UPD_STATUS_RESULT r

/-- The state and the component of the update. -/
def updState (s : State) : Nat := s.get R.UPD_STATUS_STATE
def updComp (s : State) : Nat := s.get R.UPD_STATUS_COMP

/-- Only the host and the control cores write UPD_CMD (R551). -/
def mayUpdate (q : Requester) : Bool := decide (q = Requester.host) || decide (q = Requester.control)

/-- A command of another requester: ignored and counted (R551, Table 20-7). -/
def badUpdate (s : State) : State := updResult (s.bump R.UPD_CNT_BAD_CMD) 2

/-! ## Slots -/

/-- The image that the image window holds, as long as its header says, and at least its header. -/
def windowImage (s : State) : List Byte := bytesAt s.window 0 (min 0x00800000 (max 256 (leAt s.window 8 4)))

/-- The slot of a component that is not active (R549). -/
def inactiveSlot (s : State) (comp : Nat) : Nat := 1 - min 1 (firstSlot s comp)

/-- A change of Table 20-3: the target slot's new state and active flag, and the other slot's where it changes. -/
def slotChange (s : State) (comp target state : Nat) (active : Bool) (other : Option (Nat × Bool)) (floor : Nat) : State × Bool :=
  match slotOf s comp target with
  | none => (s, false)
  | some e =>
    let l := putEntry (slotEntries s) { e with state := state, active := active }
    let l := match other, l.find? fun o => decide (o.comp = comp) && decide (o.slot = 1 - target) with
      | some (st, act), some o => putEntry l { o with state := st, active := act }
      | _, _ => l
    commitDirectory s floor l comp target

/-- The other slot's state. -/
def otherState (s : State) (comp target : Nat) : Nat := match slotOf s comp (1 - target) with | none => slotEmpty | some e => e.state

/-! ## Checks of a staged image (R548) -/

/-- A component's own vector is met by what runs: every entry names a running component (R548). -/
def vectorRuns (s : State) (comp : Nat) (l : List Byte) : Bool :=
  (vectorEntries comp l).all fun e => match assocGet (presentVersions s) e.1 with
    | none => false
    | some x => decide (e.2.1 ≤ x) && decide (x ≤ e.2.2)

/-- Components 1 to 4: the predecessor layout is the running image's state layout (R548). -/
def layoutFollows (s : State) (comp : Nat) (l : List Byte) : Bool :=
  if 1 ≤ comp ∧ comp ≤ 4 then
    match assocGet s.boot.images comp with
    | none => true
    | some i => decide (imagePredecessor l = imageLayout comp i.image)
  else true

/-- A runtime or configuration keeps the check of R531 passing while the link is up (R548). -/
def peerFits (s : State) (comp : Nat) (l : List Byte) : Bool :=
  if (comp = 2 ∨ comp = compConfig) ∧ linkUp s = true then
    vectorMet (vectorEntries comp l) [(2, s.pair.peerIfv)] && vectorMet s.pair.peerVector [(comp, imageIfv comp l)]
  else true

/-- The reason with which a staged image fails, or 0 (R548, R557). -/
def stageReason (s : State) (comp : Nat) (l : List Byte) (e : SlotEntry) : Nat :=
  if !wellPlaced s e then 0x09
  else
    let r := checkImage s comp l e.size
    if r ≠ 0 then r
    else if comp = compConfig ∧ configSequence l ≤ committedSequence s then 0x07
    else if !vectorRuns s comp l || !layoutFollows s comp l || !peerFits s comp l then 0x08
    else if comp = 2 ∧ 0x200000 < Config.runtimeCode l then 0x03
    else if comp = compConfig then (validateImage s l).1
    else 0

/-- An image fails a check: RESULT 3 and UPDATE_REJECTED (R550). -/
def rejectImage (s : State) (comp reason : Nat) : State :=
  postEvent 0x1205 [(0, 1, comp), (1, 1, reason)] (updResult (s.set R.UPD_STATUS_REASON reason) 3)

/-- Stage an image (R549, R550): the directory names the target slot empty, then the slot is erased and written. -/
def stageImage (s : State) (comp : Nat) : State :=
  let target := inactiveSlot s comp
  let img := windowImage s
  match slotOf s comp target with
  | none => rejectImage s comp 0x09
  | some e =>
    let reason := stageReason s comp img e
    if reason ≠ 0 then rejectImage s comp reason
    else
      let (s, ok) := slotChange s comp target slotEmpty false none (configFloor s)
      if !ok then updResult s 4
      else if !slotWriteAllowed s comp target then updResult (refuseFlash s 1 comp target) 4
      else
        let img := img.take (imageLength img)
        let s := countSlotWrite (programSlot s e img) comp target
        let s := s.putUpd { s.upd with target := target, image := img, backward := none, unhealthy := false }
        (setUpd (updResult s 0) updWriting).set R.UPD_STATUS_COMP comp

/-- The slot reads back: its body has the hash of its header (R550). -/
def readsBack (s : State) (comp : Nat) : Bool :=
  match slotOf s comp s.upd.target with
  | none => false
  | some e =>
    let l := slotImage s e
    decide (Config.sha256 (sliceBytes l 256 (imageLength l - 256)) = hashField l (hashOffset comp))

/-- The written slot becomes trial (R549, R550). -/
def stageEnds (s : State) (readOk : Bool) : State :=
  let comp := updComp s
  if !readOk || !readsBack s comp then setUpd (rejectImage s comp 0x04) updIdle
  else
    match slotOf s comp s.upd.target with
    | none => s
    | some e =>
      let e := { e with state := slotTrial, active := false, length := s.upd.image.length, erases := e.erases + 1,
                        stamp := writeStamp s }
      let (s, ok) := commitDirectory s (configFloor s) (putEntry (slotEntries s) e) comp s.upd.target
      if !ok then setUpd (updResult s 4) updIdle
      else postEvent 0x1201 [(0, 1, comp), (1, 1, s.upd.target), (4, 4, imageVersion comp s.upd.image)]
        (setUpd (updResult s 0) updStaged)

/-! ## Live configuration (R557, R558) -/

/-- The image in force of a component. -/
def inForce (s : State) (comp : Nat) : List Byte := match assocGet s.boot.images comp with | none => [] | some i => i.image

/-- The word that a register takes when `new` replaces the configuration in force. -/
def liveWord (s : State) (old new : List (Nat × Nat)) (key : Nat) : Word :=
  match assocGet new key with
  | some v => mergeWord key (s.word key) v
  | none => if (assocGet old key).isSome then mergeWord key (s.word key) (resetWord key).toNat else s.word key

/-- The fields of a register that a new word changes. -/
def changedFields (s : State) (key : Nat) (w : Word) : Nat :=
  match regAt key with
  | none => 0
  | some r => (r.fields.filter fun f => decide (getBits w f.lo f.width ≠ getBits (s.word key) f.lo f.width)).length

/-- The registers of Table 20-4, each with the bits that need a restart. -/
def restartBits (s : State) : List (Nat × Nat) :=
  [fldBits R.PSM_CTRL_PAN_BASE, fldBits R.PSM_SLOT_SLOT_LEN, fldBits R.PSM_SLOT_SF_LEN] ++
    (if jesdPresent s.part then
      [R.JESD_CTRL, R.JESD_RX_LINK, R.JESD_TX_LINK, R.JESD_LANES, R.JESD_RXCH, R.JESD_TXCH, R.JESD_RATE, R.JESD_RBD].map regBits
     else []) ++
    [fldBits (R.ETH_CTRL_SPEED 0), fldBits (R.ETH_CTRL_SPEED 1), regBits R.BR_PFX_LO, regBits R.BR_PFX_HI,
     fldBits R.SEC_CFG_APPROVED, fldBits R.PAIR_CFG_EN]

/-- The keys of a configuration differ from the loaded ones. -/
def keysChange (s : State) (img : List Byte) : Bool :=
  match (appliedRecords s img).find? fun r => decide (r.type = 0x0901) with
  | none => false
  | some r => match unwrapKeys s r.data with
    | none => false
    | some k => decide (s.sec.kM ≠ some k.1) || decide (s.sec.kJR ≠ some k.2)

/-- A configuration changes a field of Table 20-4 (R558). -/
def needsRestart (s : State) (img : List Byte) : Bool :=
  let old := imageValues s (inForce s compConfig)
  let new := imageValues s img
  keysChange s img ||
    (restartBits s).any fun x => decide ((liveWord s old new x.1).toNat &&& x.2 ≠ (s.word x.1).toNat &&& x.2)

/-- Apply a configuration live for the slotframe whose first slot is `first` (R557). -/
def liveApply (s : State) (slot first : Nat) (img : List Byte) : State :=
  let old := imageValues s (inForce s compConfig)
  let new := imageValues s img
  let keys := (old.map fun x => x.1) ++ (new.map fun x => x.1).filter fun k => (assocGet old k).isNone
  let moved := keys.filter fun k => decide (liveWord s old new k ≠ s.word k)
  let n := moved.foldl (fun a k => a + changedFields s k (liveWord s old new k)) 0
  let words := moved.map fun k => (k, (liveWord s old new k).toNat)
  let sched := moved.any fun k => decide (R.CRIM_A 0 ≤ k) && decide (k < R.PATH_SCHED 32)
  let s := configTaken (putValues s words) moved
  let s := s.putBoot { s.boot with tunable := imageTunable s img }
  let s := imageInForce s compConfig slot img
  let s := s.putUpd { s.upd with livePending := false, units := n }
  if sched then switchEpoch s first else s

/-! ## Handovers -/

/-- The handover of the update's component starts, forwards or backwards (R552, R562). -/
def startHandover (s : State) (state : Nat) : State :=
  let comp := updComp s
  let s := s.putUpd { s.upd with unit := 0, units := 0, swapped := [], startedAt := s.now }
  let s := if comp = compConfig then
      s.putUpd { s.upd with livePending := true, liveFrom := if state = updFallback then s.now else s.upd.liveFrom }
    else s
  let s := if comp = 4 then resetApp s else s
  setUpd s state

/-- The image that a handover brings into force, with its slot. -/
def handoverImage (s : State) : Nat × List Byte :=
  match s.upd.backward, s.upd.prev with
  | some _, some p => (p.slot, p.image)
  | _, _ => (s.upd.target, s.upd.image)

/-- The fall-back change, and what follows it (R562): the probation record goes, and UPDATE_FALLBACK is posted. -/
def fallBack (s : State) (reason : Nat) : State :=
  let comp := updComp s
  let (s, _) := slotChange s comp s.upd.target slotRejected false (some (otherState s comp s.upd.target, true)) (configFloor s)
  let s := match s.upd.prev with | none => s | some p => imageInForce s comp p.slot p.image
  let s := s.putUpd { s.upd with probation := none, backward := none, unhealthy := false, prev := none }
  let s := setUpd ((s.set R.UPD_LEFT_SECONDS 0).bump R.UPD_CNT_FALLBACKS) updIdle
  postEvent 0x1204 [(0, 1, comp), (1, 1, reason), (4, 4, imageVersion comp (inForce s comp))] s

/-- The device falls back with a reason (R562, R565): as STANDBY first where a health failure meets an ACTIVE device with a
peer in sync. -/
def beginFallback (s : State) (reason : Nat) : State :=
  let s := s.putUpd { s.upd with backward := some reason, probation := none }
  let s := s.set R.UPD_LEFT_SECONDS 0
  if reason = 1 ∧ switchResult s = 1 then startPlanned (setUpd s updSwitch) 12 5 else startHandover s updFallback

/-- A health failure of Table 20-5 for the components given: before HANDOVER_DONE it is remembered, in probation the device
falls back. -/
def healthFails (s : State) (comps : List Nat) : State :=
  if !comps.contains (updComp s) || s.upd.backward.isSome then s
  else if updState s = updHandover ∨ updState s = updSwitch then s.putUpd { s.upd with unhealthy := true }
  else if updState s = updProbation then beginFallback (s.putUpd { s.upd with unhealthy := true }) 1
  else s

/-- A security test may have ended an engine or the module (Table 20-5). -/
def secHealth (before s : State) : State :=
  if before.get R.SEC_ENG_OK ≠ s.get R.SEC_ENG_OK ∨ before.bit R.SEC_STATUS_ERROR ≠ s.bit R.SEC_STATUS_ERROR then healthFails s [1]
  else s

/-- HANDOVER_DONE: the units and the duration, and probation starts (R552, R559). -/
def handoverDone (s : State) (units : Nat) : State :=
  let comp := updComp s
  let s := postEvent 0x1206 [(0, 1, comp), (1, 1, units), (4, 4, (s.now - s.upd.startedAt) / 1000)] s
  let p : Probation := { comp := comp, slot := s.upd.target, started := s.now, ends := s.now + s.upd.seconds * secondNs }
  let s := setUpd ((s.putUpd { s.upd with probation := some p }).set R.UPD_LEFT_SECONDS s.upd.seconds) updProbation
  if s.upd.unhealthy then beginFallback s 1 else s

/-- Engines of the part that the microcode swap takes: channel engines, then transmit engines from 512. -/
def swapEngines (s : State) : List Nat :=
  ((List.range 512).filter fun e => clusterPresent s.part (ceCluster e)) ++
    ((List.range 128).filter fun e => clusterPresent s.part (teCluster e)).map fun e => 512 + e

/-- The handover of the component has come to its end (R553 to R557). -/
def handoverReady (s : State) : Bool :=
  match updComp s with
  | 2 => decide (s.upd.unit = 4)
  | 3 => (swapEngines s).all fun e => s.upd.swapped.contains e
  | 5 => !s.upd.livePending
  | _ => true

/-- The units that HANDOVER_DONE reports. -/
def handoverUnits (s : State) : Nat :=
  match updComp s with
  | 2 => 4
  | 3 => (swapEngines s).length
  | 5 => s.upd.units
  | _ => 1

/-- The new image takes over: the application core restarts on it (R556); the others have done so. -/
def takeOver (s : State) : State :=
  let (slot, img) := handoverImage s
  let s := if updComp s = compConfig then s else imageInForce s (updComp s) slot img
  if updComp s = 4 ∧ s.bit R.APP_CTRL_HOLD = false ∧ s.bit R.APP_STAT_HELD = false then releaseApp (loadApp s img) else s

/-- The handover ends; `fails` are the self-tests that the new security firmware fails (R555). -/
def endHandover (s : State) (fails : List (Nat × Nat)) : State :=
  if updComp s = 1 ∧ s.upd.backward = none ∧ someFails s allEngines fails = true then
    fallBack (testEngines s allEngines fails) 2
  else
    let s := if updComp s = 1 then testEngines s allEngines fails else s
    let s := takeOver s
    match s.upd.backward with
    | some reason => fallBack s reason
    | none => handoverDone s (handoverUnits s)

/-- A swap of microcode over one slot boundary (R554): the engines that were loading run again, and of each cluster at most 4
channel engines and 1 transmit engine without work are taken, in ascending number. -/
def swapMicrocode (s : State) : State :=
  let loading := (s.ces.filter fun p => p.2.loading).map fun p => p.1
  let s := foldState (fun (t : State) e => t.setCe e { t.ce e with loading := false }) s loading
  if updComp s ≠ 3 ∨ (updState s ≠ updHandover ∧ updState s ≠ updFallback) then s
  else
    foldState (fun (t : State) c =>
      if !clusterPresent t.part c then t
      else
        let ces := (((List.range 128).map fun k => 128 * c + k).filter fun e =>
          !t.upd.swapped.contains e && decide (ceState t e ≠ ceAcq) && decide (ceState t e ≠ ceDecode)).take 4
        let tes := (((List.range 32).map fun k => 32 * c + k).filter fun e =>
          !t.upd.swapped.contains (512 + e) && (t.te e).item.isNone).take 1
        let t := foldState (fun (u : State) e => u.setCe e { u.ce e with loading := true }) t ces
        t.putUpd { t.upd with swapped := t.upd.swapped ++ ces ++ tes.map fun e => 512 + e }) s [0, 1, 2, 3]

/-! ## Activation, confirmation -/

/-- The staged image becomes the active trial image (R549). -/
def activateChange (s : State) : State × Bool :=
  slotChange s (updComp s) s.upd.target slotTrial true (some (slotValid, false)) (configFloor s)

/-- OP 2 (R552, R558, R566). -/
def activate (s : State) (swap : Bool) : State :=
  let comp := updComp s
  if comp = compConfig ∧ needsRestart s s.upd.image = true then updResult s 6
  else if swap ∧ switchResult s ≠ 1 then updResult s 7
  else
    let (s, ok) := activateChange s
    if !ok then updResult s 4
    else
      let s := postEvent 0x1202 [(0, 1, comp), (1, 1, s.upd.target), (4, 4, imageVersion comp s.upd.image)] (updResult s 0)
      let s := s.putUpd { s.upd with seconds := s.get R.UPD_PROB_SECONDS, unhealthy := false, backward := none, swap := swap,
                                     prev := assocGet s.boot.images comp, liveFrom := s.now + 10000000 }
      if comp = 0 then setUpd s updIdle
      else if swap then startPlanned (setUpd s updSwitch) 12 4
      else startHandover s updHandover

/-- The slot of an image is confirmed (R560): the confirm change, the counter or floor, the event. `spent` is its probation in
seconds. -/
def confirmImage (s : State) (comp slot spent : Nat) : State :=
  let img := inForce s comp
  let floor := if comp = compConfig then max (configFloor s) (configSequence img) else configFloor s
  let (s, ok) := slotChange s comp slot slotValid true none floor
  if !ok then s
  else
    let s := if comp < 5 then
        (s.putOtp { s.otp with arb := listSet s.otp.arb comp (max (s.otp.arb.getD comp 0) (imageRollback comp img)) })
      else s
    let s := s.bump R.UPD_CNT_CONFIRMED
    postEvent 0x1203 [(0, 1, comp), (4, 4, imageVersion comp img), (8, 4, spent)] s

/-- The requester that confirms a component (R559). -/
def confirmer (comp : Nat) : Option Requester :=
  match comp with
  | 1 => some .security
  | 2 => some .control
  | 3 => some .control
  | 4 => some .app
  | 5 => some .control
  | _ => none

/-- The component in probation is confirmed (R560). -/
def confirmProbation (s : State) (p : Probation) : State :=
  let t := confirmImage s p.comp p.slot ((s.now - p.started) / secondNs)
  if s.get R.UPD_CNT_CONFIRMED = t.get R.UPD_CNT_CONFIRMED ∧ t.get R.UPD_CNT_CONFIRMED ≠ 255 then t
  else setUpd ((t.putUpd { t.upd with probation := none, prev := none }).set R.UPD_LEFT_SECONDS 0) updIdle

end Sys2Proof.Machine
end

