-- ==== Sys2Proof/Machine/StartOps.lean ====
section
/-!
DEFINITION. The loading of components at a boot (chapter 03), shared operations: the slots tried (R84, R564), what a slot's
failure does (R88, R89), a component taken into force (R87), images that the host or the UART supplies (R78, R89).
-/

namespace Sys2Proof.Machine

/-- The host supplies the boot images (Table 3-2, R89). -/
def hostLoads (s : State) : Bool :=
  decide (s.boot.phase = .boot) && s.boot.fromHost && (decide (s.get R.STRAPS_BOOT_MODE ≠ 3) || imageWaiting s)

/-- The UART supplies the boot images (Table 3-2, R89). -/
def uartLoads (s : State) : Bool :=
  decide (s.boot.phase = .boot) && s.boot.fromHost &&
    (decide (s.get R.STRAPS_BOOT_MODE = 3) || decide (s.get R.BOOT_STATUS_PHASE = 8))

/-- The probation record names the component about to be loaded: the boot makes the fall-back change and takes the other slot
(R564). -/
def probationFallback (s : State) : State :=
  match s.upd.probation with
  | none => s
  | some p =>
    if p.comp ≠ s.boot.comp then s
    else
      let other : Option (Nat × Bool) := some (otherState s p.comp p.slot, true)
      let s := (slotChange s p.comp p.slot slotRejected false other (configFloor s)).1
      let s := s.putUpd { s.upd with probation := none, fallbackPost := some (p.comp, 1) }
      s.putBoot { s.boot with probationBoot := some (2 * p.comp + (1 - p.slot)) }

/-- The slot that the boot tries first (Table 3-6, R564), and the one it tries now. -/
def slotBefore (s : State) : Nat :=
  match s.boot.probationBoot with
  | some x => if x / 2 = s.boot.comp then x % 2 else firstSlot s s.boot.comp
  | none => firstSlot s s.boot.comp
def slotTried (s : State) : Nat := if s.boot.second then 1 - slotBefore s else slotBefore s

/-- The other slot may boot: its state is valid or trial (R84). -/
def otherBoots (s : State) : Bool :=
  match slotOf s s.boot.comp (1 - slotBefore s) with
  | none => false
  | some e => decide (e.state = slotValid) || decide (e.state = slotTrial)

/-- Record a slot failure in BOOT_ERROR. -/
def bootError (s : State) (comp first second : Nat) : State :=
  ((s.set R.BOOT_ERROR_COMPONENT comp).set R.BOOT_ERROR_FIRST first).set R.BOOT_ERROR_SECOND second

/-- BOOT_SLOT_FALLBACK. -/
def postSlotFallback (s : State) (comp first second slot : Nat) : State :=
  postEvent 0x0104 [(0, 1, comp), (1, 1, first), (2, 1, second), (3, 1, slot)] s

/-- The component being loaded is settled, and the next one comes (Table 3-1): from the stage loader on PHASE reads 2, and 3 once
the configuration is to be read. In image wait PHASE stays. -/
def nextComponent (s : State) : State :=
  let c := s.boot.comp + 1
  let s := s.putBoot { s.boot with comp := c, second := false, firstReason := 0 }
  if s.get R.BOOT_STATUS_PHASE = 8 then s
  else if c = 5 ∧ s.boot.fromHost = false ∨ c = 6 then setPhase s 3
  else setPhase s 2

/-- The slot tried is good: the image is in force, and a second slot is reported (R88). -/
def slotBoots (s : State) (slot : Nat) (img : List Byte) : State :=
  let comp := s.boot.comp
  let s := imageInForce s comp slot img
  if s.boot.second then
    postSlotFallback (s.setBitAt R.BOOT_STATUS_FALLBACK comp true) comp s.boot.firstReason 0 slot
  else s

/-- The slot tried fails: the other slot is tried next, where it may boot; else `both` says what follows (R86, R89). -/
def slotFails (s : State) (reason : Nat) (both : Nat → Nat → State → State) : State :=
  let comp := s.boot.comp
  if s.boot.second then both s.boot.firstReason reason (bootError s comp s.boot.firstReason reason)
  else
    let s := bootError s comp reason 0
    if otherBoots s then s.putBoot { s.boot with second := true, firstReason := reason } else both reason 0 s

/-- Components 0 to 3 have no slot left: image wait. The application image has none: start-up goes on without it (R89). -/
def componentMissing (comp first second : Nat) (s : State) : State :=
  if comp = 4 then nextComponent (postSlotFallback s 4 first second 0xFF) else imageWait s

/-- POWER_RETRY, once the rings run (R104). -/
def postRetry (s : State) : State :=
  match s.boot.retryPost with
  | none => s
  | some p => postEvent 0x0105 [(0, 1, p)] (s.putBoot { s.boot with retryPost := none })

/-- LFCLK_FALLBACK of a loss that came while no ring ran (R107). -/
def postLfLoss (s : State) : State :=
  if s.boot.lfPost then postEvent 0x0106 [(0, 1, 1)] (s.putBoot { s.boot with lfPost := false }) else s

/-- The slot byte of an event about an image: open for one that came from no slot. -/
def slotByte (s : State) (slot : Nat) : State × Nat := if slot < 2 then (s, slot) else (s.drew, Config.openValue 0 s.draws % 256)

/-- No configuration is left to try: configuration wait (R89). -/
def configWait (s : State) : State := setPhase (s.putBoot { s.boot with comp := compConfig, fromHost := true }) 9

/-- A configuration image is rejected (R97): CFG_INFO and CFG_REJECTED; the offset is 0 for a header reason. -/
def configRejected (s : State) (slot reason offset : Nat) : State :=
  let s := (s.set R.CFG_INFO_REASON reason).set R.CFG_INFO_OFFSET offset
  let (s, b) := slotByte s slot
  postEvent 0x0102 [(0, 1, reason), (1, 1, b), (4, 4, offset)] s

/-- An image from outside the flash is offered for a component (R78, R89): its reason, 0 where it is taken. The configuration is
kept for its reading; one that fails its header checks is rejected as R97 says. -/
def offerImage (s : State) (comp : Nat) (img : List Byte) : State × Nat :=
  if comp ≠ s.boot.comp then (s, 0x01)
  else
    let r := checkImage s comp img 0x00800000
    if r ≠ 0 then (if comp = compConfig then configWait (configRejected s 2 r 0) else s, r)
    else if comp = compConfig then
      (setPhase (s.putBoot { s.boot with comp := 6 }) 3 |> fun (t : State) => t.putUpd { t.upd with image := img.take (imageLength img) }, 0)
    else (nextComponent (imageInForce s comp 2 img), 0)

end Sys2Proof.Machine
end

