-- ==== Sys2Proof/Machine/Aic.lean ====
section
/-!
DEFINITION. The rows of the GPIO block and of the interrupt controller (chapter 16).
-/

namespace Sys2Proof.Machine

open Host (Outcome)

/-- GPIO_SET_WRITE (R443). -/
def execGpioSetWrite (v : Nat) (s : State) : Outcome State Fault Refusal :=
  done (if openTo s .host then s.set R.GPIO_OUT_BITS (s.get R.GPIO_OUT_BITS ||| v % 2 ^ 32) else s)

/-- GPIO_CLR_WRITE (R443). -/
def execGpioClrWrite (v : Nat) (s : State) : Outcome State Fault Refusal :=
  done (if openTo s .host then s.set R.GPIO_OUT_BITS (s.get R.GPIO_OUT_BITS &&& (2 ^ 32 - 1 - v % 2 ^ 32)) else s)

/-- What a ball's new level does under GPIO_CFG.IRQ (R443). -/
def gpioPends (s : State) (n : Nat) (was level : Bool) : State :=
  match s.get (R.GPIO_CFG_IRQ n) with
  | 1 => if level && !was then aicEdge s (32 + n) else s
  | 2 => if was && !level then aicEdge s (32 + n) else s
  | 3 => if level != was then aicEdge s (32 + n) else s
  | 4 => aicLevel s (32 + n) level
  | 5 => aicLevel s (32 + n) (!level)
  | _ => s

/-- GPIO_INPUT_CHANGE (R443): ball n has a new level past its synchronizer. -/
def execGpioInputChange (n : Nat) (level : Bool) (s : State) : Outcome State Fault Refusal :=
  if running s && decide (n < 32) then
    let was := natBit (s.get R.GPIO_IN_BITS) n
    done (gpioPends (s.setBitAt R.GPIO_IN_BITS n level) n was level)
  else done s

/-- AIC_SOURCE_REQUEST (R444): an event of an edge source, or the synchronized request of a level source. -/
def execAicSourceRequest (src : Nat) (high : Bool) (s : State) : Outcome State Fault Refusal :=
  if running s && !aicReserved src then
    if aicIsLevel s src then done (aicLevel s src high) else done (if high then aicEdge s src else s)
  else done s

/-- Sources whose enable was cleared in the delivery window and that a claim may still return (R451). -/
def lateSources (s : State) : List Nat :=
  (s.app.lingering.filter fun e => decide (s.now < e.2) && aicPending s e.1 && decide (s.get (R.AIC_SRC_PRIO e.1) < aicRunning s)).map
    fun e => e.1

/-- A claim takes a source (R446): a level source whose request is high stays pending (R444, R450). -/
def claimSource (s : State) (src : Nat) : State :=
  let p := s.get (R.AIC_SRC_PRIO src)
  let s := setActive (setPending s src (aicIsLevel s src && s.app.levels.contains src)) src true
  let s := if 80 ≤ src ∧ src < 96 then s.setBitAt R.AIC_SWI_SWI (src - 80) false else s
  aicUpdate (s.putApp { s.app with stack := (p, src) :: s.app.stack, lingering := s.app.lingering.filter fun e => e.1 ≠ src })

/-- AIC_CLAIM_READ (R446, R448, R451). -/
def execAicClaimRead (q : Requester) (s : State) : Outcome State Fault Refusal :=
  if !openTo s q then done s
  else if q ≠ .app then done (s.answer q 0x3FF)
  else
    let s := aicUpdate s
    let late := lateSources s
    let more := if late.isEmpty || !Config.lateClaim s.draws then [] else late
    let s := if late.isEmpty then s else s.drew
    match ((aicCandidates s).filter (aicQualifies s) ++ more).foldl (aicBetter s) none with
    | none => done ((s.bump R.AIC_CNT_NONE).answer q 0x3FF)
    | some src => done ((claimSource s src).answer q (s.get (R.AIC_SRC_PRIO src) * 2 ^ 16 + src))

/-- AIC_EOI_WRITE (R447, R448, R450). -/
def execAicEoiWrite (q : Requester) (src : Nat) (s : State) : Outcome State Fault Refusal :=
  if !running s || decide (q ≠ Requester.app) then done s
  else match s.app.stack with
    | [] => done (s.bump R.AIC_CNT_EOI_EMPTY)
    | (_, r) :: rest =>
      let s := if src % 1024 ≠ r then s.bump R.AIC_CNT_EOI_MISMATCH else s
      let s := setActive (s.putApp { s.app with stack := rest }) r false
      let s := if aicIsLevel s r then
          setPending (s.putApp { s.app with ignored := (r, s.now + aicWindow) :: s.app.ignored }) r false
        else s
      done (aicUpdate s)

/-- AIC_GDIS_WRITE (R449). -/
def execAicGdisWrite (v : Nat) (s : State) : Outcome State Fault Refusal :=
  done (if openTo s .host then aicUpdate (s.set R.AIC_GDIS_GDIS (v % 2)) else s)

/-- AIC_SWI_WRITE (Table 16-7): each 1 sets its bit and pends its source. -/
def execAicSwiWrite (v : Nat) (s : State) : Outcome State Fault Refusal :=
  if openTo s .host then
    let s := s.set R.AIC_SWI_SWI (s.get R.AIC_SWI_SWI ||| v % 2 ^ 16)
    done (foldState (fun (t : State) i => aicEdge t (80 + i)) s ((List.range 16).filter (natBit v)))
  else done s

/-- AIC_EN_WRITE (R448, R451): word k of the enables, from the application core. -/
def execAicEnWrite (q : Requester) (k v : Nat) (s : State) : Outcome State Fault Refusal :=
  if running s && decide (q = Requester.app) && decide (k < 8) then
    let s := aicUpdate s
    let cleared := (wordSources (32 * k) (s.get (R.AIC_EN_BITS k) &&& (2 ^ 32 - 1 - v % 2 ^ 32))).filter (aicQualifies s)
    let linger : List (Nat × Nat) := match s.app.request with
      | none => []
      | some t => if s.now < t + aicWindow then cleared.map fun c => (c, t + aicWindow) else []
    let s := s.putApp { s.app with lingering := linger ++ s.app.lingering.filter fun e => decide (s.now < e.2) }
    done (aicUpdate (s.set (R.AIC_EN_BITS k) (v % 2 ^ 32)))
  else done s

end Sys2Proof.Machine
end

