-- ==== Sys2Proof/Machine/Calibration.lean ====
section
/-!
DEFINITION. In-traffic calibration (chapter 05): coefficient sets, estimators, the reference trim, cold-start
calibration and requested calibrations.
-/

namespace Sys2Proof.Machine

open Host (Outcome)

/-! ## Sets and barriers -/

/-- A list of 38 coefficients: a shorter one is filled with zeros. -/
def fullSet (l : List Int) : List Int := (l ++ List.replicate 38 0).take 38

/-- COEFF_SET_ISSUE (R147, R149, R150): a control core writes a receive set of a path. -/
def execCoeffSetIssue (path : Nat) (set_ : List Int) (s : State) : Outcome State Fault Refusal :=
  if calRuns s path then done (offerSet s path (fullSet set_)) else done s

/-- BARRIER_COMPLETE (R147, R148, R202): every engine of the path holds the latest set as its pending set. -/
def execBarrierComplete (path : Nat) (s : State) : Outcome State Fault Refusal :=
  match (s.path path).barrier with
  | none => done s
  | some e =>
    let s := s.setPath path { s.path path with barrier := none }
    let set_ := rxSetOf (s.path path)
    done (foldState (fun t c => if ceState t c = ceOff then t else t.setCe c { t.ce c with pendingSet := some (e, set_) }) s (pathCes s path))

/-! ## Estimators -/

/-- The figure of a path's chain in CAL_HEALTH0 or CAL_HEALTH1: 0 image rejection, 1 bandwidth error, 2 DC residual. -/
def healthFld (kind n chain : Nat) : Fld :=
  if kind = 0 then (if chain = 0 then R.CAL_HEALTH0_IRR_A n else R.CAL_HEALTH0_IRR_B n)
  else if kind = 1 then (if chain = 0 then R.CAL_HEALTH1_FILT_A n else R.CAL_HEALTH1_FILT_B n)
  else (if chain = 0 then R.CAL_HEALTH0_DC_A n else R.CAL_HEALTH0_DC_B n)

/-- The worst estimated rejection over the bins of a chain, dB. -/
def worstBin (p : PathState) (chain : Nat) : Nat :=
  let l := p.bins.filterMap fun b => if b.1 / 8 = chain then some b.2 else none
  (clampInt 0 255 ((l.foldl min (l.headD 0)) / 4)).toNat

/-- What an image update of a bin would rest on is complete (R153): 16 × MIN_FRAMES frames, of 2,000 on a stream, which has no
CAL_PARAM (DESIGN CHOICE, log entry 145), from at least 64 nodes. -/
def imageReady (s : State) (n : Nat) (c : ImageBin) : Bool :=
  decide (16 * (if n < 16 then s.get (R.CAL_PARAM_MIN_FRAMES n) else 0x7D) ≤ c.frames) && decide (64 ≤ c.nodes.length)

/-- An image update (R153) from what was collected: refused when it would lower the bin's estimated rejection by more than 3 dB or
when the half-width of its 95 % interval exceeds 2 dB (both in 0.25 dB); otherwise one eighth of the way to the estimate, the
correlation over the power. A bin of a stream, which nothing measured, has no rejection before its first update. -/
def imageUpdate (s : State) (n chain bin : Nat) (rejection halfWidth : Int) : State :=
  let p := s.path n
  let key := chain * 8 + bin
  let c := (assocGet p.images key).getD ImageBin.none_
  let was := (assocGet p.bins key).getD rejection
  if 12 < was - rejection ∨ 8 < halfWidth then bumpTrx s n (R.CNT_CAL_REJECT n)
  else
    let base := nextBase p
    let at_ := chain * 19 + 2 + 2 * bin
    let toward (i : Nat) (corr : Int) : Int :=
      listGet 0 base i + realDiv 5 (realDiv 60 (corr * 65536) c.power - listGet 0 base i) 8
    let l := listSet (listSet base at_ (toward at_ c.corrI)) (at_ + 1) (toward (at_ + 1) c.corrQ)
    let s := s.setPath n { p with bins := assocSet p.bins key rejection, images := assocDel p.images key }
    offerSet (setTrx s n (healthFld 0 n chain) (worstBin (s.path n) chain)) n l

/-- ESTIMATOR_RESULT (R149, R150, R153 to R156): `kind` 0 an image update of a bin, with the rejection and half-width that its
statistics show; 1 the filter bandwidth error `inPhase` (0.1 %) found in reports of a receive epoch, whose own correction is
removed; 2 the mean `inPhase`, `quad` of the window samples over `span` ns, with the residual `rejection` in dB below full scale. -/
def execEstimatorResult (path kind chain bin epoch span : Nat) (inPhase quad rejection halfWidth : Int) (s : State) :
    Outcome State Fault Refusal :=
  if !calRuns s path || !calEnabled s path kind || decide (1 < chain) || decide (7 < bin) || (decide (chain = 1) && !chainBEnabled s path) then
    done s
  else if kind = 0 then
    if imageReady s path ((assocGet (s.path path).images (chain * 8 + bin)).getD ImageBin.none_) then
      done (viewHealth (imageUpdate s path chain bin rejection halfWidth) path)
    else done s
  else if kind = 1 then
    let e := inPhase + listGet 0 (setOfEpoch s path epoch) (chain * 19 + 18)
    let l := listSet (nextBase (s.path path)) (chain * 19 + 18) e
    done (viewHealth (offerSet (setTrx s path (healthFld 1 path chain) (toField 8 (clampInt (-128) 127 inPhase))) path l) path)
  else if !dcCounts s path then done s
  else
    let m := (s.path path).dcMean
    let i := dcTrack (listGet 0 m (2 * chain)) inPhase span
    let q := dcTrack (listGet 0 m (2 * chain + 1)) quad span
    let m := listSet (listSet ((m ++ [0, 0, 0, 0]).take 4) (2 * chain) i) (2 * chain + 1) q
    let s := s.setPath path { s.path path with dcMean := m }
    let l := listSet (listSet (nextBase (s.path path)) (chain * 19) i) (chain * 19 + 1) q
    done (viewHealth (offerSet (setTrx s path (healthFld 2 path chain) (clampInt 0 255 rejection).toNat) path l) path)

/-- NOISE_REPORT_TIMER (R154, R197): an engine in SEARCH with NOISE set reports the power in its 4 sub-bands, tagged with
the receive epoch, into lane 7 of its receive queue; without room the report is gone. -/
def execNoiseReportTimer (engine : Nat) (powers : List Nat) (s : State) : Outcome State Fault Refusal :=
  let item : QueueItem := { words := 1, poison := [], tag := 0,
                            data := toLE 2 engine ++ toLE 2 (s.get (R.CE_STATE_EPOCH engine)) ++ ((powers.take 4).map (toLE 4)).flatten }
  if s.bit (R.CE_CFG_NOISE engine) && decide (ceState s engine = ceSearch) && canEnter (s.queue (ceCluster engine)) (ceCluster engine) 7 item then
    done (pushItem s (ceCluster engine) 7 item)
  else done s

/-! ## Reference oscillator -/

/-- The members of a list once each. -/
def distinct (l : List Nat) : List Nat := l.foldl (fun a x => if a.contains x then a else x :: a) []

/-- The crowd value of the interval in progress is valid (R158). -/
def crowdOk (s : State) : Bool :=
  decide (s.get R.OSC_PARAM_MIN_OBS * 100 ≤ s.osc.crowd.length) && decide (256 ≤ (distinct (s.osc.crowd.map (·.1))).length)

/-- The time value is valid (R158, R419): the servo reports lock to PTP or PPS, and the time is not bridged. -/
def timeOk (s : State) : Bool :=
  [1, 2].contains (s.get R.TB_SERVO_STATE) && !([3, 4].contains (s.get R.TIME_QUALITY_CODE))

/-- The time value p (R158, R419): TB_FERR, 0.01 ppb. -/
def timeValue (s : State) : Int := s.getI R.TB_FERR_P

/-- c of R159, 0.01 ppb: the weighted mean of the residuals, negated. -/
def crowdChange (l : List (Nat × Int × Nat)) : Int :=
  realDiv 6 (-(l.foldl (fun (a : Int) o => a + o.2.1 * o.2.2) 0)) (l.foldl (fun (a : Int) o => a + o.2.2) 0)

/-- e after the interval's updates, 0.01 ppb (R159): the reference change `c` seen by the crowd, then the anchor p. -/
def trimEstimate (s : State) (c : Int) (useTime : Bool) : Int :=
  let e := s.getI R.OSC_EST_ERR + c
  if useTime then e + realDiv 7 ((timeValue s - e) * s.get R.OSC_PARAM_TRIM_INT) (s.get R.OSC_PARAM_BIAS_TAU * 600) else e

/-- n of R159: the step of at most SLEW × TRIM_INT in codes; a code is SLOPE × 1,600 ÷ 65,535 of 0.01 ppb. -/
def trimCodes (s : State) (e : Int) : Int :=
  let most : Int := s.get R.OSC_PARAM_SLEW * 5000 * s.get R.OSC_PARAM_TRIM_INT
  realRound 8 (clampInt (-most) most (e * 3600) * 65535) (3600 * 1600 * s.getI R.OSC_CFG_SLOPE)

/-- Apply a step of the trim (R159, R161, R162, R164): `s` already holds e. RANGE stays while the code remains at the limit. -/
def trimStep (s : State) : State :=
  let e := s.getI R.OSC_EST_ERR
  let code : Int := s.get R.OSC_TRIM_CODE
  let want := code - trimCodes s e
  let new := clampInt 0 65535 want
  let step := realDiv 9 ((code - new) * s.getI R.OSC_CFG_SLOPE * 1600) 65535
  let s := (s.set R.OSC_TRIM_CODE new.toNat).setI R.OSC_EST_ERR (e - step)
  let s := (s.setI R.DRIFT_REF_REF (s.getI R.DRIFT_REF_REF - step)).putOsc { s.osc with kept := some new.toNat }
  let s := if new = code then s else s.bump R.CNT_OSC_STEPS
  let limit := decide (new = 0) || decide (new = 65535)
  if new ≠ want then
    postEvent 0x0306 [(0, 2, new.toNat), (4, 4, sfield 4 (s.getI R.OSC_EST_ERR))] (s.set R.OSC_STATUS_RANGE 1)
  else s.setBit R.OSC_STATUS_RANGE (s.bit R.OSC_STATUS_RANGE && limit)

/-- TRIM_INTERVAL (R158 to R163): an interval ends with the crowd that its accepted frames made (R158) and with the time value. Its c
is what the residuals that reach the drift fitter are reduced by from now on (R161, log entry 148). -/
def execTrimInterval (s : State) : Outcome State Fault Refusal :=
  if !running s then done s
  else
    let c := crowdOk s
    let t := timeOk s
    let change := if c then crowdChange s.osc.crowd else 0
    let s := (s.setBit R.OSC_STATUS_CROWD_OK c).setBit R.OSC_STATUS_TIME_OK t
    let s := s.setI R.OSC_EST_ERR (trimEstimate s change t)
    let s := s.putOsc { s.osc with crowd := [], change := change }
    let e := (s.get R.OSC_EST_ERR)
    if c && t then
      let held := s.osc.held
      let s := (s.set R.OSC_STATUS_HOLD 0).putOsc { s.osc with held := 0 }
      let s := if 0 < held then postEvent 0x0305 [(0, 4, e), (4, 2, min held 65535)] s else s
      done (if s.get R.OSC_CFG_MODE = 1 then trimStep s else s)
    else
      let s := if s.osc.held = 0 then postEvent 0x0304 [(0, 1, boolNat c + 2 * boolNat t), (4, 4, e)] s else s
      done (((s.set R.OSC_STATUS_HOLD 1).bump R.CNT_OSC_HOLD).putOsc { s.osc with held := s.osc.held + 1 })

/-- OSC_MAN_WRITE (R163): under MODE manual REF_TUNE follows. -/
def execOscManWrite (v : Nat) (s : State) : Outcome State Fault Refusal :=
  if !powered s then done s
  else
    let s := s.set R.OSC_MAN_CODE v
    if running s && decide (s.get R.OSC_CFG_MODE = 2) then
      done ((s.set R.OSC_TRIM_CODE v).putOsc { s.osc with kept := some (v % 65536) })
    else done s

/-- REF_TUNE at commit (R163, R164). -/
def oscCommit (s : State) : State :=
  let m := s.get R.OSC_CFG_MODE
  if m = 1 then
    let code := s.osc.kept.getD (s.get R.OSC_INIT_CODE)
    ((s.set R.OSC_TRIM_CODE code).setBit R.OSC_STATUS_KEPT s.osc.kept.isSome).putOsc { s.osc with kept := some code }
  else if m = 2 then (s.set R.OSC_TRIM_CODE (s.get R.OSC_MAN_CODE)).putOsc { s.osc with kept := some (s.get R.OSC_MAN_CODE) }
  else s.set R.OSC_TRIM_CODE 0x8000

/-! ## Cold-start calibration -/

/-- The receive set of a calibration in which the steps of `failed` (bits 2 to 5) failed their limits: the nominal value
of a failed step is no correction (R166). -/
def nominalSet (failed : Nat) (l : List Int) : List Int :=
  (List.range 38).map fun i =>
    let k := i % 19
    let step := if k < 2 then 2 else if k < 18 then 4 else 3
    if natBit failed step then 0 else listGet 0 l i

/-- CAL_FAIL for each failed step (R166). -/
def postFailedSteps (s : State) (n op failed : Nat) : State :=
  foldState (fun t k => if natBit failed k then postEvent 0x0302 [(0, 1, n), (1, 1, 0xC0 + k), (2, 1, op)] t else t) s [1, 2, 3, 4, 5]

/-- The nominal analog codes, which the spec does not state (log entry 2). -/
def nominalAnalog : List Int := (List.range 6).map fun i => (Config.openValue 5 i : Int)

/-- The analog settings of a calibration in which the steps of `failed` failed: DC DAC codes of step 2, filter codes of step 3
(R165, R166). -/
def trimmedAnalog (failed : Nat) (l : List Int) : List Int :=
  (List.range 6).map fun i => if natBit failed (if i < 4 then 2 else 3) then listGet 0 nominalAnalog i else listGet 0 l i

/-- The rejection of the 16 bins that step 4 measured, 0.25 dB: CAL_HEALTH0 gives the worst of each chain, with which every bin of
the chain starts (R153, R167). -/
def measuredBins (health0 : Nat) : List (Nat × Int) :=
  (List.range 16).map fun k => (k, ((4 * natBits health0 (if k < 8 then 24 else 16) 8 : Nat) : Int))

/-- Analog settings, both sets and the figures measured by steps 2 to 6 of Table 5-2; `first` writes epoch 1. -/
def putMeasured (s : State) (n : Nat) (first : Bool) (set_ tx analog : List Int) (health0 health1 failed : Nat) : State :=
  let l := nominalSet failed (fullSet set_)
  let s := if first then issueSet ((s.set (R.CAL_EPOCH_RX_EPOCH n) 0).set (R.CAL_EPOCH_TX_EPOCH n) 0) n l else offerSet s n l
  let s := putTxSet s n (if natBit failed 5 then [] else tx)
  let s := s.setPath n { s.path n with coldFailed := decide (failed % 64 ≠ 0), bins := measuredBins health0, images := [],
                                       analog := trimmedAnalog failed analog }
  (s.setWord (R.CAL_HEALTH0 n) (BitVec.ofNat 32 health0)).setWord (R.CAL_HEALTH1 n) (BitVec.ofNat 32 health1)

/-- COLD_CAL_DONE (R165, R166): the steps of a path have run; `failed` marks the steps that missed their limits. The path
is released to the slot engine in every case, and with the last one step 8 of Table 3-1 comes. A failed step has no request: its
CAL_FAIL carries OP 5, whose run is the same one (DESIGN CHOICE, log entry 145). -/
def execColdCalDone (path failed : Nat) (set_ tx analog : List Int) (health0 health1 : Nat) (s : State) : Outcome State Fault Refusal :=
  if !s.boot.coldPending.contains path then done s
  else
    let s := s.putBoot { s.boot with coldPending := s.boot.coldPending.filter fun x => x ≠ path }
    let s := (s.set (R.SYNTH_STATUS_LOCK path) (boolNat (!natBit failed 1))).set (R.SYNTH_STATUS_RETUNE path) (boolNat (natBit failed 1))
    let s := putMeasured (s.setPath path { s.path path with loopback := false }) path true set_ tx analog health0 health1 failed
    let s := viewHealth (postFailedSteps (s.set (R.CAL_STATUS_COLD path) 1) path 5 failed) path
    let s := viewTone (unblankPath s path) path
    done (if s.boot.coldPending.isEmpty then reachStep8 s else s)

/-! ## Requests -/

/-- A request arrives (R168 to R171): refused before COLD or while another is pending or running. A stream has no
request register. -/
def calRequest (s : State) (n op : Nat) (excl : Bool) : State :=
  if 16 ≤ n ∨ running s = false ∨ pathPresent s.part n = false then s
  else
    let s := s.set (R.CAL_STATUS_OP n) op
    if (s.path n).request.isSome || !s.bit (R.CAL_STATUS_COLD n) then calResult s n 5
    else
      let r : CalRequest := { op := op, exclusive := excl, running := false }
      calResult (s.setPath n { s.path n with request := some r, requestAt := s.now, yielded := false }) n (if excl then 3 else 4)

/-- CAL_IMAGE, OP 1 (R168). -/
def execCalImage (path : Nat) (excl : Bool) (s : State) : Outcome State Fault Refusal := done (calRequest s path 1 excl)

/-- CAL_ANALOG_FILTER, OP 2 (R168). -/
def execCalAnalogFilter (path : Nat) (excl : Bool) (s : State) : Outcome State Fault Refusal := done (calRequest s path 2 excl)

/-- CAL_ANALOG_DC, OP 3 (R168). -/
def execCalAnalogDc (path : Nat) (excl : Bool) (s : State) : Outcome State Fault Refusal := done (calRequest s path 3 excl)

/-- CAL_TX_IQ_LO, OP 4 (R168). -/
def execCalTxIqLo (path : Nat) (excl : Bool) (s : State) : Outcome State Fault Refusal := done (calRequest s path 4 excl)

/-- CAL_FULL, OP 5 (R169). -/
def execCalFull (path : Nat) (excl : Bool) (s : State) : Outcome State Fault Refusal := done (calRequest s path 5 excl)

/-- CAL_SELF_TEST, OP 8 (R172): the test bits of the last one clear. -/
def execCalSelfTest (path : Nat) (excl : Bool) (s : State) : Outcome State Fault Refusal := done (calRequest s path 8 excl)

/-- CAL_CANCEL, OP 0 (R171): the pending or running request is cancelled; an exclusive run restores its sets. -/
def execCalCancel (path : Nat) (s : State) : Outcome State Fault Refusal :=
  if path < 16 ∧ (s.path path).request.isSome = true then done (calResult (stopRequest s path) path 9) else done s

/-- The outcome of a self-test (R172): the four check bits, A, B, synthesizer, observation receiver. One that passes posts nothing
(DESIGN CHOICE, log entry 145). -/
def selfTestDone (s : State) (n stFail : Nat) : State :=
  let s := ((s.set (R.CAL_STATUS_ST_A n) stFail).set (R.CAL_STATUS_ST_B n) (stFail / 2)).set (R.CAL_STATUS_ST_SYN n) (stFail / 4)
  let s := s.set (R.CAL_STATUS_ST_OBS n) (stFail / 8)
  if stFail % 16 = 0 then calResult s n 1 else calFail (calResult s n 8) n 8

/-- A request has completed: CAL_DONE with both epochs. -/
def requestDone (s : State) (n op : Nat) : State :=
  postEvent 0x0301 [(0, 1, n), (1, 1, op), (2, 2, s.get (R.CAL_EPOCH_RX_EPOCH n)), (4, 2, s.get (R.CAL_EPOCH_TX_EPOCH n))] s

/-- The set after an operation: what it measured in place of the parts that it calibrates (1 image, 2 filter, 3 DC, 5 all of
them), and what waited to be merged (R150). -/
def opSet (op : Nat) (base l : List Int) : List Int :=
  (List.range 38).map fun i =>
    let k := i % 19
    if op = 5 ∨ (if k < 2 then op = 3 else if k < 18 then op = 1 else op = 2) then listGet 0 l i else listGet 0 base i

/-- The analog settings after a sliced operation: the filter codes by OP 2, the DC DAC codes by OP 3, all of them by OP 5. -/
def opAnalog (op : Nat) (old l : List Int) : List Int :=
  (List.range 6).map fun i => if op = 5 ∨ (if i < 4 then op = 3 else op = 2) then listGet 0 l i else listGet 0 old i

/-- SLICED_CAL_UNIT (R168): the unit of a sliced request that runs in the present idle slot ends at timebase `time`, at least 100 µs
before the slot boundary, with what it measured. A unit that changes an analog setting issues a set at once; the last of an image
calibration offers one. -/
def execSlicedCalUnit (path : Nat) (last : Bool) (set_ tx analog : List Int) (stFail time : Nat) (s : State) : Outcome State Fault Refusal :=
  match (s.path path).request with
  | none => done s
  | some r =>
    if r.exclusive || !r.running || decide (16 ≤ path) || decide (s.tb.boundLast + slotLenNs s < time + 100000) then done s
    else
      let s := s.advanceTo time
      let p := s.path path
      let l := opSet r.op (nextBase p) (fullSet set_)
      let s := if [2, 3, 5].contains r.op then issueSet (s.setPath path { p with analog := opAnalog r.op p.analog analog }) path l
        else if last && decide (r.op = 1) then offerSet s path l else s
      let s := if last && [4, 5].contains r.op then putTxSet s path tx else s
      if last then
        let s := calResult (endRequest s path) path 1
        done (if r.op = 8 then selfTestDone s path stFail else requestDone s path r.op)
      else done (sliceWaits s path)

/-- EXCLUSIVE_CAL_START (R169): the path is drained for one full slotframe, and MIN_INT has passed, so that its set can be issued
(R150); its sets and analog settings are kept for R170. Step 1 of Table 5-2 retunes the path and closes the loopback. -/
def execExclusiveCalStart (path : Nat) (s : State) : Outcome State Fault Refusal :=
  match (s.path path).request with
  | none => done s
  | some r =>
    if !r.exclusive || r.running || decide (16 ≤ path) || decide ((s.path path).idleSlots < sfLen s) || !epochAllowed s path then done s
    else
      let p := s.path path
      let s := s.setPath path { p with request := some { r with running := true }, saved := some (p.rxSet, p.txSet, p.analog),
                                       loopback := true, tone := none }
      let s := retune s path (homeCentre s path)
      done (calResult (s.set (R.SYNTH_STATUS_CAL path) 1) path 2)

/-- EXCLUSIVE_CAL_DONE (R169, R172): steps 1 to 6 of Table 5-2 have run, or the self-test. -/
def execExclusiveCalDone (path failed : Nat) (set_ tx analog : List Int) (health0 health1 stFail : Nat) (s : State) :
    Outcome State Fault Refusal :=
  match (s.path path).request with
  | none => done s
  | some r =>
    if !r.exclusive || !r.running || decide (16 ≤ path) then done s
    else
      let ok := decide (r.op = 8) || !natBit failed 1
      let s := (s.set (R.SYNTH_STATUS_LOCK path) (boolNat ok)).set (R.SYNTH_STATUS_RETUNE path) (boolNat !ok)
      let s := calResult (endRequest s path) path 1
      if r.op = 8 then done (selfTestDone s path stFail)
      else
        let s := postFailedSteps (putMeasured s path false set_ tx analog health0 health1 failed) path r.op failed
        done (requestDone (viewHealth s path) path r.op)

/-- CAL_REQUEST_TIMEOUT (R171): 600 s after it was written a request is abandoned, and the path keeps its current sets. -/
def execCalRequestTimeout (path : Nat) (s : State) : Outcome State Fault Refusal :=
  match (s.path path).request with
  | none => done s
  | some r =>
    if 16 ≤ path then done s
    else
      let s := s.reach ((s.path path).requestAt + 600 * secondNs)
      done (calFail (calResult (endRequest s path) path 7) path r.op)

end Sys2Proof.Machine
end

