-- ==== Sys2Proof/Machine/Queues.lean ====
section
/-!
DEFINITION. The commands of chapter 12: frame queues.
-/

namespace Sys2Proof.Machine

open Host (Outcome)

/-- The mailbox views follow the mailbox queues (R441, R442). -/
def queueViews (s : State) (q : Nat) : State := if q = mba ∨ q = mbc then mailChanged s else s

/-- QUEUE_ITEM_WRITE: a producer writes an item of `words` words into a lane, or waits (R354, R355, R359). -/
def execQueueItemWrite (queue lane words : Nat) (poison : List Nat) (tag : Nat) (data : List Byte) (s : State) :
    Outcome State Fault Refusal :=
  if queuePresent s.part queue && decide (0 < words) && decide (words ≤ laneSize queue lane) then
    done (queueViews (pushItem s queue lane { words := words, poison := poison.filter (fun k => decide (k < words)), tag := tag, data := data }) queue)
  else done s

/-- The first waiting item that can enter and that no earlier waiting item of its lane is ahead of (R354, R356); `held` are the
lanes already seen. -/
def nextWaiting (x : QueueState) (q : Nat) : List Nat → List (Nat × QueueItem) → Option (Nat × QueueItem)
  | _, [] => none
  | held, p :: rest =>
    if held.contains p.1 then nextWaiting x q held rest
    else if canEnter x q p.1 p.2 then some p
    else nextWaiting x q (p.1 :: held) rest

/-- The first waiting producer whose item can enter starts the item (R354, R359). -/
def admitOne (s : State) (q : Nat) : State :=
  let x := s.queue q
  match nextWaiting x q [] x.waiting with
  | none => s
  | some p => countReceived (putQueue s q (enter { x with waiting := x.waiting.erase p } p.1 p.2)) q p.1 p.2

/-- QUEUE_ROOM_AVAILABLE (R354). -/
def execQueueRoomAvailable (queue : Nat) (s : State) : Outcome State Fault Refusal :=
  if s.bit (R.Q_STAT_RESETTING queue) then done s else done (queueViews (admitOne s queue) queue)

/-- A read with no whole item (R358): UNDERRUN is set and counted. -/
def underrun (s : State) (q : Nat) : State := (s.set (R.Q_STAT_UNDERRUN q) 1).bump (R.Q_CNT_UNDERRUN q)

/-- An egress frame of the control cores reaches its port from queue EGRe (Table 12-1): the lane is its class, and tag 1 of an item
without poison requests its timestamp (R402). -/
def portItem (s : State) (q lane : Nat) (i : QueueItem) : State :=
  if (q = 24 ∨ q = 25) ∧ i.data ≠ [] then
    if s.bit (R.ETH_STATUS_LINK (q - 24)) then
      egress s (q - 24) { cls := lane, data := i.data, stampWanted := decide (i.tag = 1), poisoned := false, stampReady := none }
    else s.bump (R.ETH_CNT1_EGR_DROP (q - 24))
  else s

/-- QUEUE_ITEM_READ: the reader takes the head item of the lowest non-empty lane (R357); poison bites there (R507). Only a
software reader, a mailbox, reads an empty queue (R358). -/
def execQueueItemRead (queue : Nat) (s : State) : Outcome State Fault Refusal :=
  if s.bit (R.Q_STAT_RESETTING queue) then done s
  else
    let (t, item) := popItem s queue
    match item with
    | none => done (if queue = mba ∨ queue = mbc then underrun s queue else s)
    | some (l, i) =>
      let t := queueViews t queue
      done (if i.poisoned then consumeTag t i.tag else hbItemTaken (portItem t queue l i) queue l i)

/-- The consumer holds part of an item: it is handed one closing word with END and POISON set and tag 0xFFFF_FFFF, which bites
like any poisoned item without a node (R361, R507; log entry 142). In MBC the word shows in MB_RX_STAT. -/
def closingWord (s : State) (q : Nat) : State :=
  consumeTag (if q = mbc then s.set R.MB_RX_STAT_END 1 else s) 0xFFFFFFFF

/-- A forced reset starts (R360, R361), the reader having taken `held` words of the item it reads: every word is discarded, the tags
stay, and the item being written stays with its producer. -/
def resetQueue (s : State) (q : Nat) (byWriter : Bool) (held : Nat) : State :=
  if s.bit (R.Q_STAT_RESETTING q) || !queuePresent s.part q then s
  else
    let s := if (headItem (s.queue q).lanes).isSome ∧ 0 < held + (s.queue q).taken then closingWord s q else s
    let x := s.queue q
    let back := match x.building with | none => x.waiting | some i => (0, i) :: x.waiting
    let y : QueueState := { x with lanes := [], building := none, taken := 0, waiting := back, byWriter := byWriter,
                                   lost := x.items }
    queueViews ((putQueue s q y).set (R.Q_STAT_RESETTING q) 1) q

/-- QUEUE_POINTER_MISMATCH (R360). -/
def execQueuePointerMismatch (queue : Nat) (byWriter : Bool) (held : Nat) (s : State) : Outcome State Fault Refusal :=
  done (resetQueue s queue byWriter held)

/-- QUEUE_TEST_FORCE: Q_TEST.FORCE written 1 makes the reader find a mismatch (R360, Table 12-4). -/
def execQueueTestForce (queue held : Nat) (s : State) : Outcome State Fault Refusal := done (resetQueue s queue false held)

/-- QUEUE_RESET_DONE: the tags reach the consumer as poison-only items, the queue opens, and the fault is counted and
posted (R361). -/
def execQueueResetDone (queue : Nat) (s : State) : Outcome State Fault Refusal :=
  if s.bit (R.Q_STAT_RESETTING queue) then
    let x := s.queue queue
    let s := foldState consumeTag s x.tags
    let s := putQueue (s.set (R.Q_STAT_RESETTING queue) 0) queue { x with tags := [], lost := 0 }
    let s := (s.bump (R.Q_CNT_FAULTS queue)).bumpBy (R.Q_CNT_LOST queue) x.lost
    let s := postEvent 0x0A01 [(0, 1, queue), (1, 1, boolNat x.byWriter), (2, 1, x.tags.length), (4, 2, x.lost)] s
    done (queueViews (foldState (fun t _ => admitOne t queue) s x.waiting) queue)
  else done s

end Sys2Proof.Machine
end

