-- ==== Sys2Proof/Machine/Cores.lean ====
section
/-!
DEFINITION. The rows of the control cores, the application core, its watchdog and its mailboxes (chapter 16).
-/

namespace Sys2Proof.Machine

open Host (Outcome)

/-! ## Control cores -/

/-- A control core runs the runtime or restarts. -/
def cpuWorks (s : State) (core : Nat) : Bool :=
  running s && decide (core < 4) && (decide (s.get (R.CPU_STAT_STATE core) = 1) || decide (s.get (R.CPU_STAT_STATE core) = 2))

/-- CPU_WDOG_WARN (R436): 50 ms without a refresh. -/
def execCpuWdogWarn (core : Nat) (s : State) : Outcome State Fault Refusal :=
  done (if cpuWorks s core then postEvent 0x0E01 [(0, 1, 1 + core)] s else s)

/-- The hour of R436 in nanoseconds. -/
def hourNs : Nat := 3600 * secondNs

/-- CPU_WDOG_EXPIRY (R436): the core restarts alone; the fourth expiry within an hour restarts the device. -/
def execCpuWdogExpiry (core : Nat) (s : State) : Outcome State Fault Refusal :=
  if cpuWorks s core then
    let s := (setCpu s core 2).bump (R.CPU_STAT_RESETS core)
    let recent := ((cpuOf s core).expiries.filter fun t => decide (s.now < t + hourNs)) ++ [s.now]
    let s := s.putCpus (assocSet s.cpus core { cpuOf s core with expiries := recent })
    let s := postEvent 0x0E02 [(0, 1, 1 + core), (1, 1, s.get (R.CPU_STAT_RESETS core))] s
    let s := healthFails s [2, 3, 5]
    if 4 ≤ recent.length then
      done (warmRestart (postEvent 0x0E04 [(0, 1, core), (4, 4, Config.faultCode s.draws)] s.drew))
    else done s
  else done s

/-- CONTROL_CORE_RESTART_DONE (R436): the core runs the runtime again and takes its work back. -/
def execControlCoreRestartDone (core : Nat) (s : State) : Outcome State Fault Refusal :=
  done (if running s && decide (core < 4) && decide (s.get (R.CPU_STAT_STATE core) = 2) then setCpu s core 1 else s)

/-! ## Application core -/

/-- A byte address of IRAM or DRAM in the core's map (Table 16-2). -/
def appMemory (addr : Nat) : Bool :=
  decide (addr < iramSize) || (decide (0x20000000 ≤ addr) && decide (addr < 0x20000000 + dramSize))

/-- APP_ACCESS_FAULT (R437, R438): kind 0 fetch, 1 load, 2 store. The exception stays inside the core; a fetch or load that met bad
parity in its memories counts PARITY. -/
def execAppAccessFault (kind addr : Nat) (parity : Bool) (s : State) : Outcome State Fault Refusal :=
  if running s && decide (s.get R.APP_STAT_STATE = appRuns) && parity && decide (kind < 2) && appMemory addr then
    let w := addr - addr % 4
    let s := s.putApp { s.app with badWords := if s.app.badWords.contains w then s.app.badWords else w :: s.app.badWords }
    done (s.bump R.APP_CNT_PARITY)
  else done s

/-- APP_CORE_HALT with its cause. -/
def postHalt (s : State) (cause : Nat) : State := postEvent 0x0E03 [(0, 1, cause)] s

/-- APP_DOUBLE_FAULT (R438). -/
def execAppDoubleFault (s : State) : Outcome State Fault Refusal :=
  if running s && decide (s.get R.APP_STAT_STATE = appRuns) then
    done (healthFails (postHalt (s.set R.APP_STAT_STATE appDouble) 1) [4])
  else done s

/-- APP_HOLD (R439): only the host writes HOLD. -/
def execAppHold (q : Requester) (s : State) : Outcome State Fault Refusal :=
  if openTo s q && decide (q = Requester.host) && !s.bit R.APP_CTRL_HOLD then
    done (postHalt (resetApp (s.set R.APP_CTRL_HOLD 1)) 2)
  else done s

/-- APP_RELEASE (R439, R440): the runtime reloads the image; a core held by its watchdog starts a new count of resets. -/
def execAppRelease (q : Requester) (s : State) : Outcome State Fault Refusal :=
  if openTo s q && decide (q = Requester.host) && s.bit R.APP_CTRL_HOLD then
    let s := s.set R.APP_CTRL_HOLD 0
    let s := if s.bit R.APP_STAT_HELD then
        ((s.set R.APP_STAT_HELD 0).set R.WDOG_STAT_RESETS 0).putApp { s.app with firstReset := none }
      else s
    done (if running s && appLoaded s then reloadApp s else s)
  else done s

/-- The image in force of the application core passes its verification again (R439). -/
def appVerified (s : State) (readOk : Bool) : Bool :=
  match assocGet s.boot.images 4 with
  | none => false
  | some i => if i.slot < 2 then decide (checkSlot s 4 i.slot readOk = 0) else true

/-- APP_RELOAD_DONE (R439): `readOk` is whether the flash read succeeded. An image that fails leaves the core in reset. -/
def execAppReloadDone (readOk : Bool) (s : State) : Outcome State Fault Refusal :=
  if running s && s.app.reloading && !s.bit R.APP_CTRL_HOLD then
    if appVerified s readOk then done (releaseApp (loadApp s (inForce s 4)))
    else done (s.putApp { s.app with reloading := false })
  else done s

/-! ## The application watchdog -/

/-- The watchdog counts: enabled, the core out of reset, no debug halt (R440). -/
def wdogCounts (s : State) : Bool :=
  running s && s.bit R.WDOG_CFG_EN && (decide (s.get R.APP_STAT_STATE = appRuns) || decide (s.get R.APP_STAT_STATE = appDouble)) &&
    !s.app.debugHalt

/-- APP_WDOG_KICK (R440). -/
def execAppWdogKick (q : Requester) (v : Nat) (s : State) : Outcome State Fault Refusal :=
  if !running s then done s
  else if q = .app ∧ v = 0x5A17 then done (restartWdog s)
  else done (s.bump R.APP_CNT_BAD_KICK)

/-- APP_WDOG_HALF (R440): the count reaches half of TIMEOUT. -/
def execAppWdogHalf (s : State) : Outcome State Fault Refusal :=
  if wdogCounts s && !s.bit R.WDOG_STAT_WARN then
    let s := s.reach (s.app.kickAt + s.get R.WDOG_CFG_TIMEOUT * 500000)
    done (postEvent 0x0E01 [(0, 1, 0)] (aicLevel (s.set R.WDOG_STAT_WARN 1) 70 true))
  else done s

/-- APP_WDOG_EXPIRY (R440): the core is reset and reloaded, or held once RESETS reaches LIMIT within 24 h of the first. -/
def execAppWdogExpiry (s : State) : Outcome State Fault Refusal :=
  if wdogCounts s then
    let s := s.reach (s.app.kickAt + s.get R.WDOG_CFG_TIMEOUT * 1000000)
    let first := match s.app.firstReset with
      | none => s.now
      | some t => if s.now < t + dayNs then t else s.now
    let n := if s.app.firstReset = some first then min 15 (s.get R.WDOG_STAT_RESETS + 1) else 1
    let s := restartWdog (resetApp s)
    let s := s.putApp { s.app with firstReset := some first, resets := min 255 (s.app.resets + 1) }
    let s := postEvent 0x0E02 [(0, 1, 0), (1, 1, s.app.resets)] (s.set R.WDOG_STAT_RESETS n)
    let s := if s.get R.WDOG_CFG_LIMIT ≤ n then postHalt (s.set R.APP_STAT_HELD 1) 2 else reloadApp s
    done (healthFails s [4])
  else done s

/-! ## Mailboxes -/

/-- The words of MB_TX_DATA0–7 as the bytes of a queue word. -/
def mailWord (s : State) : List Byte := ((List.range 8).map fun k => toLE 4 (s.get (R.MB_TX_DATA_DATA k))).flatten

/-- MB_TX_PUSH (R441): one word of the message being built enters MBA; with END the message is whole. -/
def execMbTxPush (endWord : Bool) (s : State) : Outcome State Fault Refusal :=
  if running s && !s.bit (R.Q_STAT_RESETTING mba) then
    let x := s.queue mba
    if laneRoom x mba 0 1 then
      let old : QueueItem := x.building.getD { words := 0, poison := [], tag := 0, data := [] }
      let i : QueueItem := { old with words := old.words + 1, data := old.data ++ mailWord s }
      let y : QueueState := if endWord then enter { x with building := none } 0 i else { x with building := some i }
      done (queueViews (putQueue s mba y) mba)
    else done ((s.set R.MB_TX_STAT_FULL_ERR 1).putApp { s.app with roomWanted := true })
  else done s

/-- MB_RX_POP (R442, R358): the head word of MBC is taken. -/
def execMbRxPop (s : State) : Outcome State Fault Refusal :=
  if running s && !s.bit (R.Q_STAT_RESETTING mbc) then
    let x := s.queue mbc
    match headItem x.lanes with
    | none => done ((underrun s mbc).set R.MB_RX_STAT_UNDERRUN 1)
    | some (_, i) =>
      let t := if x.taken + 1 < i.words then putQueue s mbc { x with taken := x.taken + 1 } else (popItem s mbc).1
      done (queueViews t mbc)
  else done s

/-- The runtime takes a request of the application core, oldest first, if its service is one that `mine` names. -/
def takeRequest (s : State) (mine : Nat → Bool) : Option (State × List Byte) :=
  match headItem (s.queue mba).lanes with
  | none => none
  | some (_, i) =>
    if running s && !s.bit (R.Q_STAT_RESETTING mba) && !i.poisoned && mine (leField i.data 0 2) then
      some (queueViews (popItem s mba).1 mba, i.data)
    else none

/-- The payload of a request, where its stated length fits the message and is one that `good` allows (Table 16-3). -/
def requestPayload (m : List Byte) (good : Nat → Bool) : Option (List Byte) :=
  let n := leField m 4 2
  if n ≤ 248 ∧ 8 + n ≤ m.length ∧ good n = true then some (sliceBytes m 8 n) else none

/-- A reply with the tag of its request; it waits where MBC has no room (R354). -/
def replyMail (s : State) (m : List Byte) (status : Nat) (pl : List Byte) : State :=
  queueViews (pushItem s mbc 0 (mailMessage (leField m 0 2) (leField m 2 2) status pl)) mbc

/-- MB_ECHO: service 0x0001; services that Table 16-4 does not have are answered with status 1. -/
def execMbEcho (s : State) : Outcome State Fault Refusal :=
  match takeRequest s fun k => !([2, 3, 4].contains k) with
  | none => done s
  | some (t, m) =>
    if leField m 0 2 ≠ 1 then done (replyMail t m 1 [])
    else match requestPayload m fun _ => true with
      | none => done (replyMail t m 2 [])
      | some p => done (replyMail t m 0 p)

/-- MB_EVENT_SUBSCRIPTION: service 0x0002. -/
def execMbEventSubscription (s : State) : Outcome State Fault Refusal :=
  match takeRequest s fun k => decide (k = 2) with
  | none => done s
  | some (t, m) =>
    match requestPayload m fun n => decide (n = 4) with
    | none => done (replyMail t m 2 [])
    | some p => done (replyMail (t.putApp { t.app with forward := leBytes p }) m 0 [])

/-- MB_NODE_LINE_READ: service 0x0003; a poisoned line, and an address outside the store, answer status 3. -/
def execMbNodeLineRead (s : State) : Outcome State Fault Refusal :=
  match takeRequest s fun k => decide (k = 3) with
  | none => done s
  | some (t, m) =>
    match requestPayload m fun n => decide (n = 4) with
    | none => done (replyMail t m 2 [])
    | some p =>
      let a := leBytes p
      if lineCount t ≤ a ∨ linePoisoned t a = true then done (replyMail t m 3 [])
      else done (replyMail t m 0 (toLE 64 (t.line a).toNat))

/-- MB_TIMEBASE: service 0x0004. -/
def execMbTimebase (s : State) : Outcome State Fault Refusal :=
  match takeRequest s fun k => decide (k = 4) with
  | none => done s
  | some (t, m) =>
    match requestPayload m fun n => decide (n = 0) with
    | none => done (replyMail t m 2 [])
    | some _ =>
      done (replyMail t m 0 (toLE 8 t.tbNs ++ toLE 2 (t.get R.TIME_QUALITY_CODE) ++ toLE 4 (t.get R.TIME_ERR_ERR)))

end Sys2Proof.Machine
end

