-- ==== Sys2Proof/Machine/Drift.lean ====
section
/-!
DEFINITION. Sleepy nodes and learned drift (chapter 09): the rows of the fitter, of WAKE_REQ and of peer tracking.
-/

namespace Sys2Proof.Machine

open Host (Outcome)

/-- DRIFT_OBSERVATION (R285 to R288): the fitter takes the oldest observation of its input queue. -/
def execDriftObservation (s : State) : Outcome State Fault Refusal :=
  match s.drift.inputs with
  | [] => done s
  | o :: rest => done (fitObservation (s.putDrift { s.drift with inputs := rest }) o)

/-- MODEL_AGE_EXPIRY (R288): 2^23 slots have passed since a node's SYNC. -/
def execModelAgeExpiry (node : Nat) (s : State) : Outcome State Fault Refusal :=
  if running s && nodeValid s node && modelValid s node && decide (2 ^ 23 * slotLenNs s ≤ silentNs s node) then
    done (invalidate s node (fitOf s node))
  else done s

/-- WAKE_SET_TARGET (R283): WAKE_REQ OP 1. -/
def execWakeSetTarget (node k : Nat) (s : State) : Outcome State Fault Refusal :=
  if !openTo s .host then done s
  else if !nodeValid s node then done (s.set R.DRIFT_STATUS_REQ_RES 2)
  else
    let s := (s.set R.DRIFT_STATUS_REQ_RES 1).putDrift { s.drift with targets := assocSet s.drift.targets node (k % 16) }
    done (considerAgreement s node)

/-- WAKE_RESET_MODEL (R288): WAKE_REQ OP 2. The model starts afresh, and SPLIT clears. -/
def execWakeResetModel (node : Nat) (s : State) : Outcome State Fault Refusal :=
  if !openTo s .host then done s
  else if !nodeValid s node then done (s.set R.DRIFT_STATUS_REQ_RES 2)
  else
    let s := s.set R.DRIFT_STATUS_REQ_RES 1
    let l := s.line node
    let was := modelValid s node
    let s := setFit s node (freshFit (lineRate l) (signedOf 16 (lineGet l N.AGEING)) (s.get R.DRIFT_CFG_S_INIT * 4)
      (s.get R.DRIFT_CFG_RAW_TOL * 256) 0 false false)
    let s := if claims s then setLineField s node N.SPLIT 0 else s
    let s := if was then s.bump R.DRIFT_CNT3_INVALID else s
    done (considerAgreement s node)

/-! ## Tracking -/

/-- Tracker states (Table 9-4). -/
def trackOff : Nat := 0
def trackAcquire : Nat := 1
def trackTrack : Nat := 2
def trackHoldover : Nat := 3
def trackLost : Nat := 4

/-- Nanoseconds since the last accepted beacon. -/
def trackTau (s : State) : Nat := match s.drift.trackLast with | none => 0 | some t => s.tbNs - t

/-- The window in µs, `tau` ns after the last accepted beacon (R296, Table 9-4). -/
def trackWindow (s : State) (tau : Nat) : Nat :=
  let st := s.get R.TRACK_STATUS_STATE
  if st = trackAcquire ∨ st = trackLost then s.get R.TRACK_WIN_W_MAX
  else
    let rate := (s.getI R.TRACK_DRIFT_D).natAbs + 64 * s.get R.TRACK_CH_D_MARGIN
    min (s.get R.TRACK_WIN_W_MAX)
      (s.get R.TRACK_WIN_W_MIN + (realDiv 20 (2 * rate * tau : Nat) (1024 * 1000000000)).toNat)

/-- The slotframe of a slot. -/
def slotframeOf (s : State) (asn : Nat) : Nat := asn / max 1 (sfLen s)

/-- A slotframe without an accepted beacon (R297) counts once; in LOST nothing more is passed to the servo. -/
def trackMiss (s : State) (frame : Nat) : State :=
  let s := s.putDrift { s.drift with trackFrame := some frame }
  let s := (s.bump R.TRACK_CNT0_MISS).bump R.TRACK_STATUS_MISSES
  let m := s.get R.TRACK_STATUS_MISSES
  let post := fun (code state : Nat) =>
    postEvent code [(0, 1, m), (4, 4, s.get R.TRACK_DRIFT_D), (8, 4, trackWindow s (trackTau s))] (s.set R.TRACK_STATUS_STATE state)
  if m = 3 then post 0x0702 trackHoldover
  else if m = 16 then post 0x0703 trackLost |> fun t => t.putDrift { t.drift with passed := none }
  else s

/-- The frame came in the tracking slot, on the path, in the mode and on the channel of the tracker (R296). -/
def trackedSlot (s : State) (f : RxFrame) : Bool :=
  decide (f.asn % max 1 (sfLen s) = s.get R.TRACK_CFG_SLOT) && decide (f.path = s.get R.TRACK_CFG_PATH) && decide (f.mode = s.get R.TRACK_CFG_MODE)

/-- ASN and T_POLL, µs, of an enhanced beacon: its TSCH Synchronization IE and its PSM Timing IE (Tables 8-1a and 8-3). -/
def beaconContent (f : RxFrame) : Option (Nat × Nat) :=
  match passHeaderIes (f.mac.body.length + 1) f.mac.body with
  | none => none
  | some (_, b) =>
    match readContent f.mac.ie f.mac.body with
    | none => none
    | some (ies, _) =>
      if leField b 2 2 = 6 + 256 * 0x1A then (subIeOf ies 0x02).map fun c => (leField b 4 5, leField c 3 2) else none

/-- A beacon of the peer with its own ASN is accepted inside the window (R296, R297); `first` is the timebase of its first symbol. -/
def acceptBeacon (s : State) (asn tPoll first : Nat) : State :=
  let tau : Nat := match s.drift.trackLast with | none => 0 | some t => first - t
  let old := s.getI R.TRACK_PHASE_PHI
  let d := s.getI R.TRACK_DRIFT_D
  let phi : Int := (first : Int) - slotStartOf s asn - tPoll * 1000
  let off := phi - old - realDiv 21 (d * tau) (1024 * 1000000)
  if trackWindow s tau * 1000 < 2 * off.natAbs then s
  else
    let state := s.get R.TRACK_STATUS_STATE
    let misses := s.get R.TRACK_STATUS_MISSES
    let s := if s.drift.trackLast.isSome && decide (0 < tau) then
        s.setI R.TRACK_DRIFT_D (d + realDiv 22 (realDiv 23 ((phi - old) * 1024 * 1000000) tau - d) 8)
      else s
    let s := s.setI R.TRACK_PHASE_PHI phi
    let s := s.putDrift { s.drift with trackLast := some first, trackFrame := some (slotframeOf s asn), passed := some (phi, s.getI R.TRACK_DRIFT_D) }
    let s := ((s.set R.TRACK_STATUS_STATE trackTrack).set R.TRACK_STATUS_MISSES 0).bump R.TRACK_CNT0_RX
    if state = trackHoldover ∨ state = trackLost then postEvent 0x0704 [(0, 1, state), (1, 1, misses), (4, 4, sfield 4 phi)] s else s

/-- PEER_BEACON_RX (R259, R296, R297): the beacon of the tracked peer at the head of a cluster's receive queue; one outside the tracking
slot says nothing. -/
def execPeerBeaconRx (cluster : Nat) (s : State) : Outcome State Fault Refusal :=
  match headFrame s cluster .beacon with
  | none => done s
  | some f =>
    if !running s then done s
    else
      let s := dropReport s cluster
      match beaconContent f with
      | none => done s
      | some (asn, tPoll) =>
        if s.get R.TRACK_STATUS_STATE = trackOff ∨ trackedSlot s f = false then done s
        else if asn ≠ f.asn then
          let t := s.bump R.TRACK_CNT1_ASN_MISMATCH
          done (if s.drift.trackFrame = some (slotframeOf s f.asn) then t else trackMiss t (slotframeOf s f.asn))
        else done (acceptBeacon s f.asn tPoll f.began)

/-- TRACK_SLOTFRAME_MISS (R297): a slotframe ends its tracking slot with no beacon accepted. -/
def execTrackSlotframeMiss (s : State) : Outcome State Fault Refusal :=
  if running s && s.bit R.TRACK_CFG_EN && decide (s.get R.TRACK_STATUS_STATE ≠ trackOff) &&
      decide (s.drift.trackFrame ≠ some (slotframeOf s s.asnNat)) then done (trackMiss s (slotframeOf s s.asnNat))
  else done s

end Sys2Proof.Machine
end

