-- ==== Sys2Proof/Machine/Engines.lean ====
section
/-!
DEFINITION. Channel engines and transmit engines (chapter 06): the meanings of their rows.
-/

namespace Sys2Proof.Machine

open Host (Outcome)

/-! ## Channel engines -/

/-- The engine exists and is enabled. -/
def ceRuns (s : State) (e : Nat) : Bool :=
  running s && decide (e < 512) && clusterPresent s.part (ceCluster e) && s.bit (R.CE_CFG_EN e) && decide (ceState s e ≠ ceOff)

/-- ASSIGNMENT_RECORD (R182, R184, R226): the record that the slot engine prepared for an engine, with its load, reaches it. A frame
in progress keeps the old record; an accepted record preempts an exclusive calibration of the path (R170). -/
def execAssignmentRecord (engine : Nat) (s : State) : Outcome State Fault Refusal :=
  match assocGet s.psm.assigns engine with
  | none => done s
  | some l =>
    if !ceRuns s engine then done s
    else
      let s := giveLoad (s.putPsm { s.psm with assigns := assocDel s.psm.assigns engine }) engine l
      let s := if s.bit (R.CE_ASG0_ACTIVE engine) && (s.ce engine).pending.isNone then calPreempt s (s.get (R.CE_ASG0_PATH engine)) else s
      done (viewTone s l.record.path)

/-- The threshold of a mode's family, in 1/256 (R187). -/
def detThreshold (s : State) (e m : Nat) : Nat :=
  let f := modeFamily m
  if f = 0 then s.get (R.CE_DET_FSK e) else if f = 1 then s.get (R.CE_DET_OFDM e)
  else if f = 2 then s.get (R.CE_DET_OQPSK e) else s.get (R.CE_DET_INDIGO e)

/-- Chain `c` (0 A, 1 B) is correlated under the engine's record (R187, R189). -/
def chainUsed (s : State) (e c : Nat) : Bool :=
  let ant := s.get (R.CE_ASG0_ANT e)
  let n := s.get (R.CE_ASG0_PATH e)
  if c = 0 then decide (ant ≠ 2) && chainAEnabled s n else decide (ant ≠ 1) && chainBEnabled s n

/-- The carrier frequency of an engine's channel, Hz. -/
def ceCarrier (s : State) (e : Nat) : Int := (windowCentre s (s.get (R.CE_ASG0_PATH e)) : Int) * 1000 + ceOffset s e

/-- The range of the frequency hypotheses on each side, Hz (R187): 80 ppm of the carrier, or 2 ppm around a valid pre-correction. -/
def hypothesisRange (s : State) (e : Nat) : Int := (if s.bit (R.CE_ASG0_PREC_V e) then 2 else 80) * ceCarrier s e / 1000000

/-- Subcarrier spacing and occupied width of an Indigo mode, Hz (Table 7-1). -/
def indigoSpacing (m : Nat) : Nat := 3125 * 2 ^ natBits m 4 2
def indigoOccupied (m : Nat) : Nat := 45 * indigoSpacing m

/-- The width of the channel filter during SEARCH and ACQ, Hz (R221): B, or the occupied width with the range of the hypotheses on
both sides in an Indigo mode. -/
def searchWidth (s : State) (e : Nat) : Int :=
  let m := s.get (R.CE_ASG0_MODE e)
  if modeFamily m = 3 then indigoOccupied m + 2 * hypothesisRange s e else s.get (R.CE_ASG0_BW e) * 25000

/-- The engine tests a frequency hypothesis `h` Hz from its oscillator (R187, R221): inside the range and, in an Indigo mode, at a
multiple of the subcarrier spacing. -/
def hypothesisOk (s : State) (e : Nat) (h : Int) : Bool :=
  let m := s.get (R.CE_ASG0_MODE e)
  decide ((h.natAbs : Int) ≤ hypothesisRange s e) && (decide (modeFamily m ≠ 3) || decide (h % indigoSpacing m = 0))

/-- PREAMBLE_DETECT (R187): ρ of each chain, in 1/65536, at a frequency hypothesis, against the threshold of the mode's family. -/
def execPreambleDetect (engine rhoA rhoB : Nat) (hypothesis : Int) (s : State) : Outcome State Fault Refusal :=
  if !ceRuns s engine || decide (ceState s engine ≠ ceSearch) || !hypothesisOk s engine hypothesis then done s
  else
    let t := detThreshold s engine (s.get (R.CE_ASG0_MODE engine)) * 256
    if (chainUsed s engine 0 && decide (t ≤ rhoA)) || (chainUsed s engine 1 && decide (t ≤ rhoB)) then
      let s := (s.set (R.CE_STATE_STATE engine) ceAcq).bump (R.CE_CNT_DET_DET engine)
      let s := s.setCe engine { s.ce engine with chosen := none, metricA := 0, metricB := 0, sfdTime := none, stale := false,
                                                 usesPending := false, acquired := 0, len := 0 }
      done (markMirror s engine)
    else done s

/-- FALSE_DETECTION (R188): ACQ finds no SFD in time. -/
def execFalseDetection (engine : Nat) (s : State) : Outcome State Fault Refusal :=
  if !ceRuns s engine || decide (ceState s engine ≠ ceAcq) then done s
  else
    let s := s.bump (R.CE_CNT_DET_FALSE_DET engine)
    done (backToSearch (s.setCe engine { s.ce engine with falseSec := (s.ce engine).falseSec + 1 }) engine)

/-- FALSE_DET_SECOND (R188): the cluster's sum over one second against CL_FD.LIMIT. -/
def execFalseDetSecond (cluster : Nat) (s : State) : Outcome State Fault Refusal :=
  if !running s || !clusterPresent s.part cluster then done s
  else
    let sum := (clusterCes cluster).foldl (fun a e => a + (s.ce e).falseSec) 0
    let s := foldState (fun (t : State) e => if (t.ce e).falseSec = 0 then t else t.setCe e { t.ce e with falseSec := 0 })
      s (clusterCes cluster)
    if s.get (R.CL_FD_LIMIT cluster) < sum then
      if s.bit (R.CL_STAT_FD_HIGH cluster) then done s
      else done (postEvent 0x0402 [(0, 1, cluster), (4, 4, sum)] (s.set (R.CL_STAT_FD_HIGH cluster) 1))
    else done (s.set (R.CL_STAT_FD_HIGH cluster) 0)

/-- ANTENNA_DECISION (R189): the metrics of both chains in 0.25 dB; the hinted chain stays unless the other exceeds it by
more than HYST (0.1 dB). The metrics are compared as they are, and reported up to 63.75 dB (DESIGN CHOICE, log entry 145). -/
def execAntennaDecision (engine metricA metricB : Nat) (s : State) : Outcome State Fault Refusal :=
  if !ceRuns s engine || decide (ceState s engine ≠ ceAcq) || (s.ce engine).chosen.isSome then done s
  else
    let a := if chainUsed s engine 0 then metricA else 0
    let b := if chainUsed s engine 1 then metricB else 0
    let hint := s.get (R.CE_ASG0_HINT_B engine)
    let margin := 2 * s.get (R.CL_ANT_HYST (ceCluster engine))
    let chosen :=
      if !chainUsed s engine 1 then 0
      else if !chainUsed s engine 0 then 1
      else if hint = 0 then (if margin < 5 * (b - a) then 1 else 0)
      else (if margin < 5 * (a - b) then 0 else 1)
    done (s.setCe engine { s.ce engine with chosen := some chosen, metricA := min 255 a, metricB := min 255 b })

/-- SFD_DETECT (R147, R148, R193, R221): the pending set becomes the active set and the timebase is latched, in 2⁻¹⁶ ns. `estimate` is
the offset that the acquisition found, 2⁻¹⁰ ppm (0 but in an Indigo mode): the oscillator is retuned by it, and by the clocking of
Table 7-7 it is the sampling-rate error too (R222). -/
def execSfdDetect (engine time : Nat) (estimate : Int) (s : State) : Outcome State Fault Refusal :=
  if !ceRuns s engine || decide (ceState s engine ≠ ceAcq) || (s.ce engine).chosen.isNone then done s
  else
    let s := s.advanceTo time
    let c := s.ce engine
    let s := match c.pendingSet with | none => s | some e => s.set (R.CE_STATE_EPOCH engine) e.1
    let stamp := s.tbNs * 65536 + s.tb.frac.toNat / 65536
    let est := if modeFamily (s.get (R.CE_ASG0_MODE engine)) = 3 then estimate else 0
    let c := { c with activeSet := (match c.pendingSet with | none => c.activeSet | some e => e.2), pendingSet := none, sfdTime := some stamp,
                      acquired := est, shift := c.shift + realDiv 62 (est * ceCarrier s engine) (1024 * 1000000) }
    done (viewLag ((s.setCe engine c).set (R.CE_STATE_STATE engine) ceDecode) (s.get (R.CE_ASG0_PATH engine)))

/-- The CRC-8 of an Indigo header over its bits 0 to 25 (R214). -/
def headerCrc (h : Nat) : Nat :=
  (List.range 26).foldl (fun crc i => (crc * 2 % 256) ^^^ (if natBit h i != natBit crc 7 then 0x07 else 0)) 0xFF

/-- An Indigo header passes its check (R214): bit i of `h` is the i-th bit sent. -/
def headerOk (h : Nat) : Bool :=
  (List.range 8).all (fun i => natBit h (26 + i) == natBit (headerCrc h) (7 - i)) && decide (natBits h 23 3 = 0) &&
    decide ((if natBit h 18 then 4 else 2) ≤ natBits h 0 11) && (natBit h 13 || decide (natBits h 14 4 = 0))

/-- A PHR passes (R179): its PSDU length, whether the FCS has 4 octets, a reserved bit set, the mode-switch bit, its header
check and its MCS. -/
def phrOk (mode len : Nat) (fcs4 reserved modeSwitch hcsOk : Bool) (mcs : Nat) : Bool :=
  let f := modeFamily mode
  decide (len ≤ (if f = 2 then 127 else 2047)) && decide ((if f ≠ 2 ∧ fcs4 = true then 4 else 2) ≤ len) && !reserved &&
    !(decide (f = 0) && modeSwitch) && !(decide (f = 1) && (!hcsOk || !mcsOk (natBits mode 4 2) mcs))

/-- Which map an Indigo header names (R226, R231, R233): 0 one the engine can use, 1 the pending map, 2 none. -/
def headerMap (c : CeState) (h : Nat) : Nat :=
  if !natBit h 13 then 0
  else
    match c.maps with
    | none => 2
    | some (present, pending) =>
      if present ≠ 0 ∧ mapChk present = natBits h 14 4 then 0
      else if pending.any fun p => decide (mapChk p = natBits h 14 4) then 1
      else 2

/-- PHR_DECODE (R179, R214): the PHR, or the 40 bits of an Indigo header. -/
def execPhrDecode (engine header len : Nat) (fcs4 reserved modeSwitch hcsOk : Bool) (mcs : Nat) (s : State) : Outcome State Fault Refusal :=
  if !ceRuns s engine || decide (ceState s engine ≠ ceDecode) then done s
  else
    let m := s.get (R.CE_ASG0_MODE engine)
    let ok := if modeFamily m = 3 then headerOk header else phrOk m len fcs4 reserved modeSwitch hcsOk mcs
    if ok then
      let indigo := decide (modeFamily m = 3)
      let use := if indigo then headerMap (s.ce engine) header else 0
      done (s.setCe engine { s.ce engine with
        stale := decide (use = 2), usesPending := decide (use = 1), len := if indigo then natBits header 0 11 else len,
        fcs4 := if indigo then natBit header 18 else decide (modeFamily m ≠ 2) && fcs4, rate := if indigo then natBits header 11 2 else 0,
        mapSel := indigo && natBit header 13, mapChk := if indigo then natBits header 14 4 else 0, mreq := indigo && natBit header 22 })
    else done (backToSearch (s.bump (R.CE_CNT_ERR_PHR_ERR engine)) engine)

/-- D_DET of a mode, ns (Table 6-6). -/
def detDelay (m : Nat) : Nat :=
  let f := modeFamily m
  if f = 0 then [5000, 2500, 1667, 1250, 833].getD (natBits m 3 3) 5000
  else if f = 1 then 1200 else if f = 2 then 500 else [2500, 1250, 625, 312].getD (natBits m 4 2) 2500

/-- D_PATH + D_BOARD of a path, ns, receive (Table 6-6). -/
def rxPathDelay (s : State) (n : Nat) : Nat :=
  if n < 16 then (if n < 8 then 1850 else 1120) + s.get (R.CL_BOARD_DLY_RX (n / 4) (n % 4)) else 410 + s.get (R.XS_LAT_RX (n - 16))

/-- The timestamp of a received frame in 2⁻¹⁶ ns (R193): the latched time less C, with B in kHz. -/
def rxTimestamp (s : State) (e latched : Nat) : Nat :=
  let n := s.get (R.CE_ASG0_PATH e)
  let b := s.get (R.CE_ASG0_BW e) * 25
  let whole := rxPathDelay s n + 2500 + detDelay (s.get (R.CE_ASG0_MODE e))
  let c := realDiv 10 ((whole * 5 * b + 640000 * 5 + 26 * b) * 65536 : Nat) (5 * b : Nat)
  (((latched : Int) - c) % (2 ^ 80 : Int)).toNat

/-- LQI of an SNR in 0.25 dB (R192). -/
def lqi (snr : Int) : Nat := (clampInt 0 255 (roundHalfUp (17 * (snr + 20)) 8)).toNat

/-- RSSI in 0.25 dB: the power at the ball less RX_OFS of the chain (R191). -/
def rssiOf (s : State) (n chain : Nat) (power : Int) : Int :=
  let ofs := if 16 ≤ n then 0 else if chain = 0 then s.getI (R.RX_OFS_OFS_A n) else s.getI (R.RX_OFS_OFS_B n)
  clampInt (-560) 40 (power - ofs)

/-- The 32-byte report of Table 6-7. -/
def rxReport (s : State) (e len : Nat) (fcs4 saturated : Bool) (rssi snr residual : Int) : List Byte :=
  let c := s.ce e
  let stamp := rxTimestamp s e (c.sfdTime.getD 0)
  let ns := stamp / 65536
  let valid := s.bit (R.CE_ASG0_EXP_V e)
  let flags := c.chosen.getD 0 + 2 * s.get (R.CE_ASG0_PREC_V e) + 4 * boolNat saturated + 8 * boolNat valid + 16 * boolNat fcs4
  let pre := if s.bit (R.CE_ASG0_PREC_V e) then signedOf 24 (s.get (R.CE_ASG2_PRECORR e)) else 0
  let err := if valid then (ns + 2 ^ 32 - s.get (R.CE_ASG3_EXP_T e)) % 2 ^ 32 else 0
  toLE 2 (s.get (R.CE_ASG0_PATH e) * 2048 + len) ++ toLE 1 (s.get (R.CE_ASG0_MODE e)) ++ toLE 1 flags ++
    toLE 2 (toField 16 rssi) ++ toLE 1 (lqi snr) ++ toLE 1 (toField 8 snr) ++ toLE 1 c.metricA ++ toLE 1 c.metricB ++
    toLE 2 (s.get (R.CE_STATE_EPOCH e)) ++ toLE 4 (toField 32 (pre + residual)) ++ toLE 4 err ++ toLE 8 ns ++
    toLE 2 (stamp % 65536) ++ toLE 2 (s.get (R.CE_ASG4_SCHED_EPOCH e) % 128 * 512 + e % 128)

/-- q_d of a subcarrier's SNR in 0.25 dB (Table 7-8). -/
def qualityOf (snr : Int) : Nat := (clampInt 0 15 (snr / 8)).toNat

/-- The 24-byte quality trailer of an Indigo frame (Table 7-8): SNR_d of the 40 data subcarriers in 0.25 dB, the noise on the nulls
in dB, and what the header and the map load say. Bit 7 of byte 20 is 0 where the pending map was used (log entry 149). -/
def indigoTrailer (c : CeState) (snrs : List Int) (nulls : Int) : List Byte :=
  let q := (List.range 40).foldl (fun a d => a + qualityOf (listGet 0 snrs d) * 16 ^ d) 0
  toLE 20 q ++
    toLE 1 (c.mapChk + 16 * boolNat c.mapSel + 32 * boolNat c.mreq + 64 * boolNat c.stale + 128 * boolNat !c.usesPending) ++
    toLE 1 (toField 8 nulls) ++ [0#8, 0#8]

/-- The short source address of a decoded frame: the expected node where the frame names none. -/
def frameNode (s : State) (e : Nat) (psdu : List Byte) : Nat :=
  ((readMac psdu).bind fun f => f.shortIndex).getD ((s.ce e).node.getD 0)

/-- FRAME_END (R152, R179, R191 to R196, R226, R233): a frame ends with the octets decoded, whether its FCS verifies, whether a chain
saturated, the mean power and SNR in 0.25 dB, the tracked residual of the carrier offset in 2⁻¹⁰ ppm, SNR_d and the null noise of an
Indigo frame, and the mirror correlations of R152. The report, the PSDU without its FCS and the Indigo trailer enter the receive
queue; a frame under an unknown map is reported with PSDU length 0. Decoded on a chain, and the last reported, is a frame that is
reported (DESIGN CHOICE, log entry 145). -/
def execFrameEnd (engine : Nat) (psdu : List Byte) (fcsOk saturated : Bool) (power snr residual : Int) (snrs : List Int) (nulls : Int)
    (image : List Int) (s : State) : Outcome State Fault Refusal :=
  if !ceRuns s engine || decide (ceState s engine ≠ ceDecode) then done s
  else
    let c := s.ce engine
    let n := s.get (R.CE_ASG0_PATH engine)
    let chain := c.chosen.getD 0
    if !c.stale && !fcsOk then done (backToSearch (s.bump (R.CE_CNT_RX_FCS_ERR engine)) engine)
    else
      let rssi := rssiOf s n chain power
      let snr := clampInt (-128) 127 snr
      let octets := if c.stale then [] else (psdu ++ List.replicate c.len 0#8).take (c.len - (if c.fcs4 then 4 else 2))
      let report := rxReport s engine (if c.stale then 0 else c.len) c.fcs4 saturated rssi snr (c.acquired + residual)
      let tail := if modeFamily (s.get (R.CE_ASG0_MODE engine)) = 3 then indigoTrailer c snrs nulls else []
      let data := report ++ octets ++ tail
      let item : QueueItem := { words := wordsFor data.length, poison := [], tag := 0, data := data, stamp := s.now, expects := c.node }
      let s := (s.set (R.CE_LAST_ANT engine) chain).set (R.CE_LAST_LQI engine) (lqi snr)
      let s := s.set (R.CE_LAST_RSSI engine) (toField 16 rssi)
      let s := s.bump (if chain = 0 then R.CE_CNT_ANT_ANT_A engine else R.CE_CNT_ANT_ANT_B engine)
      let s := if calRuns s n && calEnabled s n 0 && !c.stale && qualifies s engine snr saturated then
          collectImage s engine (frameNode s engine octets) image
        else s
      done (backToSearch (pushItem s (ceCluster engine) 0 item) engine)

/-- RXQ_WAIT_TIMEOUT (R186): the receive queue took no frame of the engine within 100 µs. -/
def execRxqWaitTimeout (engine : Nat) (s : State) : Outcome State Fault Refusal :=
  let q := ceCluster engine
  let x := s.queue q
  match x.waiting.find? fun p => decide (p.1 = 0) && decide (leField p.2.data 30 2 % 128 = engine % 128) with
  | none => done s
  | some p =>
    if engine < 512 then
      done ((putQueue s q { x with waiting := x.waiting.erase p }).bump (R.CE_CNT_ERR_RXQ_DROP engine))
    else done s

/-! ## Transmit engines -/

/-- The engine exists and is enabled. -/
def teRuns (s : State) (e : Nat) : Bool :=
  running s && decide (e < 128) && clusterPresent s.part (teCluster e) && s.bit (R.TE_CFG_EN e)

/-- A transmit engine refuses a work item (R198): of those it is given, one of another cluster too. -/
def workRefused (s : State) (te : Nat) (w : WorkItem) : Bool :=
  decide (pathCluster w.path ≠ teCluster te) || !pathPresent s.part w.path || modeExcluded w.path w.mode ||
    !offsetFits s w.path w.offset (leastBw w.mode) || decide (63 < w.atten)

/-- The fields of TE_WORK (Table 6-17). -/
def viewWork (s : State) (te : Nat) (w : WorkItem) : State :=
  let s := (s.set (R.TE_WORK_PATH te) w.path).set (R.TE_WORK_MODE te) w.mode
  ((s.set (R.TE_WORK_IDX te) w.index).set (R.TE_WORK_ATTEN te) w.atten).set (R.TE_WORK_ANT te) w.antenna

/-- The planned work item of a frame for an engine: the one on a path of its cluster, else any. -/
def plannedItem (s : State) (te handle : Nat) : Option WorkItem :=
  let l := s.psm.plan.filter fun w => decide (w.handle = handle)
  (l.find? fun w => decide (pathCluster w.path = teCluster te)).orElse fun _ => l.head?

/-- TX_WORK_ITEM (R198, R199, R201): the planned work item of a frame reaches an idle transmit engine. It is refused, loaded, or loaded
late: one that comes less than 4 µs before step 1 of its interval is ready 4 µs after it came. -/
def execTxWorkItem (te handle : Nat) (s : State) : Outcome State Fault Refusal :=
  match plannedItem s te handle with
  | none => done s
  | some w =>
    if !teRuns s te || decide (s.get (R.TE_STATE_STATE te) ≠ teIdle) || (s.frame handle).isNone then done s
    else
      let s := s.putPsm { s.psm with plan := s.psm.plan.erase w }
      let s := s.setTe te { s.te te with item := some w, ready := 0 }
      if workRefused s te w then done ((teGiveBack s te 3).bump (R.TE_CNT2_REJ te))
      else
        let late := decide (w.first < s.tbNs + 4000 + rampLead s w.path)
        let s := (viewWork s te w).set (R.TE_STATE_STATE te) teLoaded
        done (if late then
            (s.setTe te { s.te te with ready := s.tbNs + 4000 }).bump (R.TE_CNT2_WORK_LATE te)
          else s)

/-- TX_FRAME_END (R194, R199, R200): a frame on air ends. The completion carries the actual first-symbol time plus
preamble and SFD, and the late offset; the last frame of the interval starts the ramp-down. -/
def execTxFrameEnd (te : Nat) (s : State) : Outcome State Fault Refusal :=
  match (s.te te).item with
  | none => done s
  | some w =>
    if s.get (R.TE_STATE_STATE te) ≠ teRun then done s
    else
      let late := match (s.path w.path).interval with | none => 0 | some i => i.late
      let first := w.planned + late
      let air := itemAir s w
      let stamp := first * 65536 + preambleFine w.mode w.preamble
      let s := s.advanceTo (first + air)
      let s := completion s te 0 late (stamp / 65536) (stamp % 65536)
      let s := (s.setTe te { s.te te with item := none, ready := 0 }).set (R.TE_STATE_STATE te) teIdle
      let s := s.bump (R.TE_CNT_SENT te)
      let s := if late = 0 then s else s.bump (R.TE_CNT_LATE te)
      let s := match (s.path w.path).interval with
        | none => s
        | some i =>
          let rest := i.frames.filter fun f => f.1 ≠ te
          let t := s.setPath w.path { s.path w.path with interval := some { i with frames := rest } }
          if rest.isEmpty then intervalEnds t w.path else t
      done (frameSent s w.handle (first + air))

end Sys2Proof.Machine
end

