-- ==== Sys2Proof/Machine/Ethernet.lean ====
section
/-!
DEFINITION. The commands of chapter 14: Ethernet ports and the border function.
-/

namespace Sys2Proof.Machine

open Host (Outcome)

/-- The port is present and its link is up. -/
def ethUp (s : State) (e : Nat) : Bool := ethPresent s.part e && s.bit (R.ETH_STATUS_LINK e)

/-- Packets are taken towards the mesh: the device claims, and no switchover has stopped them (R522, Table 19-6 step 2; log entry
157). -/
def meshIngress (s : State) : Bool :=
  s.bit R.PAIR_STATUS_CLAIM_OUT && (match s.pair.switchover with | none => true | some w => decide (w.phase ≠ .stopped))

/-- An accepted IPv6 packet (R388). -/
def ingressIp (s : State) (cls : Nat) (data p : List Byte) (stamp came : Nat) : State :=
  let d := ipDest p
  if d = deviceAddr s then toControlCores s data stamp
  else if (inMesh s d || (groupOf s d).isSome) && !meshIngress s then s.bump R.PAIR_CNT2_STBY_DISCARD
  else if inMesh s d || (groupOf s d).isSome then downlinkPacket s cls (ipTrim p) (data.length + 4) came
  else if d / 2 ^ 120 = 0xFF ∨ d / 2 ^ 118 = 0x3FA then toControlCores s data stamp
  else s.bump R.BR_CNT0_NOT_MESH

/-- A frame whose size and FCS are right, with its tag control word if it has one (R386 to R388). -/
def ingressFrame (s : State) (e : Nat) (data : List Byte) (stamp came : Nat) : State :=
  let tagged := decide (beField data 12 2 = 0x8100)
  let tci := beField data 14 2
  let vid := tci % 4096
  let ty := beField data (if tagged then 16 else 12) 2
  if tagged && decide (vid ≠ 0) && decide (vid ≠ s.get (R.ETH_CTRL_VLAN_ID e)) then s.bump (R.ETH_CNT0_VLAN_DROP e)
  else if ty = 0x8808 then s
  else
    let cls := if tagged then classOfPcp s (tci / 8192) else s.get (R.ETH_CTRL_UNTAG_TC e)
    if ty = 0x86DD then ingressIp s cls data (data.drop (if tagged then 18 else 14)) stamp came
    else toControlCores s data stamp

/-- ETH_INGRESS_FRAME: a frame without its FCS, whether the FCS was right, the latch at the end of its SFD in 0.1 ns, and the
time from its last bit to the end of its processing (R386 to R388, R394 to R402, R522). -/
def execEthIngressFrame (port : Nat) (data : List Byte) (fcsOk : Bool) (latch delay : Nat) (s : State) :
    Outcome State Fault Refusal :=
  if !ethUp s port || decide (data.length + 4 < 64) then done s
  else if 1536 < data.length + 4 then done (s.bump (R.ETH_CNT1_OVERSIZE port))
  else if !fcsOk then done (s.bump (R.ETH_CNT0_FCS_ERR port))
  else
    let came := s.now
    let stamp := latch - (rxCorrection (s.get (R.ETH_STATUS_SPEED port)) + s.get (R.ETH_PTP_DLY_RX port))
    done (ingressFrame (s.elapse delay) port data stamp came)

/-- ETH_PORT_LINK_UP: the speed is the configured one, and the verification of R392 starts where preemption is set. -/
def execEthPortLinkUp (port : Nat) (s : State) : Outcome State Fault Refusal :=
  if !ethPresent s.part port || !s.bit (R.ETH_CTRL_EN port) || s.bit (R.ETH_STATUS_LINK port) then done s
  else
    let speed := s.get (R.ETH_CTRL_SPEED port)
    let s := ((s.set (R.ETH_STATUS_LINK port) 1).set (R.ETH_STATUS_SPEED port) speed).set (R.ETH_STATUS_PREEMPT_ACT port) 0
    let verify := s.bit (R.ETH_CTRL_PREEMPT port) && decide (1 ≤ speed)
    let s := setEthPort s port { ethPort s port with attempts := 0, verifying := verify }
    done (startEgress (postEvent 0x0C01 [(0, 1, port), (1, 1, speed), (2, 1, s.get (R.ETH_STATUS_PREEMPT_ACT port))] s) port)

/-- ETH_PORT_LINK_DOWN (R390): cause 0 signal lost, 1 block lock lost, 2 disabled. -/
def execEthPortLinkDown (port cause : Nat) (s : State) : Outcome State Fault Refusal :=
  if !ethUp s port then done s else done (portDown s port cause)

/-- PREEMPT_VERIFY_TIMEOUT: an attempt drew no response in 10 ms; the third one ends verification (R392). -/
def execPreemptVerifyTimeout (port : Nat) (s : State) : Outcome State Fault Refusal :=
  let x := ethPort s port
  if !ethUp s port || !x.verifying then done s
  else if x.attempts + 1 < 3 then done (setEthPort s port { x with attempts := x.attempts + 1 })
  else
    let s := setEthPort s port { x with attempts := x.attempts + 1, verifying := false }
    done (postEvent 0x0C03 [(0, 1, port)] (s.bump (R.ETH_CNT2_PREEMPT_FAIL port)))

/-- PREEMPT_VERIFY_RESPONSE: the partner answered, so preemption is active (R391, R392). -/
def execPreemptVerifyResponse (port : Nat) (s : State) : Outcome State Fault Refusal :=
  let x := ethPort s port
  if !ethUp s port || !x.verifying then done s
  else done (startEgress ((setEthPort s port { x with verifying := false }).set (R.ETH_STATUS_PREEMPT_ACT port) 1) port)

/-- REASSEMBLY_TIMEOUT: RS_TMO seconds after a context's first fragment it is discarded (R399). -/
def execReassemblyTimeout (node tag size : Nat) (s : State) : Outcome State Fault Refusal :=
  match s.eth.contexts.find? (contextIs node tag size) with
  | none => done s
  | some x => done ((freeContext (s.reach (x.started + s.get R.BR_CFG_RS_TMO * secondNs)) node tag size).bump R.BR_CNT2_RS_TIMEOUT)

/-- Time a frame takes on the wire from its preamble to its FCS, ns, rounded up. -/
def wireTime (s : State) (e len : Nat) : Nat := ((len + 8) * 8000000 + portRate s e - 1) / portRate s e

/-- ETH_EGRESS_FRAME_DONE: the frame on the wire ends. A requested timestamp returns from the latch at the end of its SFD, in
0.1 ns (R402); the buckets follow and the next frame starts. -/
def execEthEgressFrameDone (port latch : Nat) (s : State) : Outcome State Fault Refusal :=
  let x := ethPort s port
  match x.sending with
  | none => done s
  | some h =>
    let s := s.reach (x.startedAt + wireTime s port ((egressLen s h).getD 0))
    let s := accrue s port
    let wanted := match assocGet s.eth.frames h with | none => false | some f => f.stampWanted
    let stamp := latch + txCorrection (s.get (R.ETH_STATUS_SPEED port)) + s.get (R.ETH_PTP_DLY_TX port)
    let s := s.putEth { s.eth with frames := assocDel s.eth.frames h,
                                   stamps := if wanted then s.eth.stamps ++ [(h, stamp)] else s.eth.stamps }
    done (startEgress (setEthPort s port { x with sending := none }) port)

end Sys2Proof.Machine
end

