-- ==== Sys2Proof/Machine/HostIf.lean ====
section
/-!
DEFINITION. The commands of chapter 13: the PCIe endpoint, event rings and host frame queues.
-/

namespace Sys2Proof.Machine

open Host (Outcome)

/-- The registers of the event-ring and host frame queue blocks lie between these offsets (Table 1-8). -/
def hostBlock (key : Nat) : Bool := decide (0x00100000 ≤ key) && decide (key < 0x01000000)

/-- The registers of chapter 13 take their reset values; records that waited for a ring go to the backlog (R366). -/
def resetHost (s : State) : State :=
  let s := foldState ringToBacklog s ((List.range 16).filter fun r => decide ((s.ring r).waiting ≠ []))
  let s := (s.putRegs (s.regs.filter fun c => !hostBlock c.1)).putHqs []
  let s := s.putEv { s.ev with rings := [] }
  (s.putPcie { s.pcie with bme := false, msix := [], pba := 0#64 }).set R.EV_STATUS_BACKLOG s.ev.backlog.length

/-- PCIE_RESET: PERST_N falls, or a Function Level Reset starts (R366). -/
def execPcieReset (flr : Bool) (s : State) : Outcome State Fault Refusal :=
  let s := resetHost s
  done (if flr then s else s.putPcie { s.pcie with perst := false, linkUp := false, width := 0, rate := 0 })

/-- PCIE_RESET_RELEASE: PERST_N rises (R75). -/
def execPcieResetRelease (s : State) : Outcome State Fault Refusal := done (s.putPcie { s.pcie with perst := true })

/-- PCIE_LINK_CHANGE: the link comes up, once PERST_N is high and the PLLs have locked, or goes down (R75, R364). -/
def execPcieLinkChange (up : Bool) (width rate : Nat) (s : State) : Outcome State Fault Refusal :=
  if up && !(s.pcie.perst && powered s) then done s
  else
    let w := if up then width else 0
    let r := if up then rate else 0
    let s := s.putPcie { s.pcie with linkUp := up, width := w, rate := r }
    done (postEvent 0x0B04 [(0, 1, boolNat up), (1, 1, w), (2, 1, r)] s)

/-- UNSUPPORTED_REQUEST (R365). -/
def execUnsupportedRequest (s : State) : Outcome State Fault Refusal := done (s.emit .unsupported)

/-- The types of each source (Table 13-5). -/
def eventTypes (source : Nat) : Nat :=
  listGet 0 [0, 9, 8, 6, 2, 2, 3, 4, 7, 4, 1, 4, 3, 3, 4, 8, 7, 7, 6, 4] source

/-- EVENT_GENERATE: a producer detects an occurrence of the catalogue, with its 16 payload bytes (R367 to R371, R375). -/
def execEventGenerate (code : Nat) (data : List Byte) (s : State) : Outcome State Fault Refusal :=
  if decide (1 ≤ code % 256) && decide (code % 256 ≤ eventTypes (code / 256)) then
    done (generate 2 code ((data ++ List.replicate 16 0#8).take 16) s)
  else done s

/-- EVENT_RECORD_WRITE: the next record of an active ring goes to host memory, or is dropped by a full ring (R373, R375). -/
def execEventRecordWrite (ring : Nat) (s : State) : Outcome State Fault Refusal :=
  match (s.ring ring).waiting with
  | [] => done s
  | e :: rest =>
    if !ringActive s ring then done s
    else
      let i := s.get (R.EVR_PROD_INDEX ring)
      let s := s.setRing ring { s.ring ring with waiting := rest }
      if (i + 2 ^ 32 - s.get (R.EVR_CONS_INDEX ring)) % 2 ^ 32 < ringSize s ring then
        let base := hostAddr s (R.EVR_BASE_LO_ADDR ring) (R.EVR_BASE_HI_ADDR ring)
        let phase := decide (i / ringSize s ring % 2 = 0)
        done ((s.emit (.hostWrite (base + i % ringSize s ring * 32) (recordBytes e phase))).bumpWrap (R.EVR_PROD_INDEX ring))
      else done (postEvent 0x0B01 [(0, 1, ring)] (countDrop s e.source ring))

/-- EVENT_WRITEBACK: PROD and the cumulative drops of an active ring (R373). -/
def execEventWriteback (ring : Nat) (s : State) : Outcome State Fault Refusal :=
  let p := s.get (R.EVR_PROD_INDEX ring)
  if ringActive s ring && decide ((s.ring ring).wbProd ≠ p) then
    let s := s.emit (.hostWrite (hostAddr s (R.EVR_WB_LO_ADDR ring) (R.EVR_WB_HI_ADDR ring)) (toLE 4 p ++ toLE 4 (s.ring ring).drops))
    done (s.setRing ring { s.ring ring with wbProd := p })
  else done s

/-- The message of a ring: MOD_US µs after its last one (R376). -/
def ringMessage (s : State) (r : Nat) : State :=
  let x := s.ring r
  if ringActive s r && decide (x.wbProd ≠ x.msgProd) then
    let s := if x.msgTime = 0 then s else s.reach (x.msgTime + s.get (R.EVR_CTRL_MOD_US r) * 1000)
    sendMsix (s.setRing r { x with msgProd := x.wbProd, msgTime := s.now }) (s.get (R.EVR_CTRL_VECTOR r))
  else s

/-- The message of a host frame queue: of an HTQ only for a completed NOTIFY descriptor (R381). -/
def queueMessage (s : State) (q : Nat) : State :=
  let x := s.hq q
  let head := s.get (R.HQ_HEAD_INDEX q)
  if hqActive s q && (if q < 4 then x.notify else decide (x.msgHead ≠ head)) then
    let s := if x.msgTime = 0 then s else s.reach (x.msgTime + s.get (R.HQ_CTRL_MOD_US q) * 1000)
    sendMsix (s.setHq q { msgHead := head, msgTime := s.now, notify := false }) (s.get (R.HQ_CTRL_VECTOR q))
  else s

/-- MSIX_MESSAGE: the message of ring `index`, or of host frame queue `index` - 16, that is due (R376, R381). -/
def execMsixMessage (index : Nat) (s : State) : Outcome State Fault Refusal :=
  if index < 16 then done (ringMessage s index) else if index < 24 then done (queueMessage s (index - 16)) else done s

/-- MSIX_VECTOR_UNMASK: the vector's mask bit clears, and its pending message is sent (R376). -/
def execMsixVectorUnmask (vector : Nat) (s : State) : Outcome State Fault Refusal :=
  if vector < 64 then
    let k := 4 * vector + 3
    let s := s.putPcie { s.pcie with msix := cellsWrite msixCell s.pcie.msix k (msixWord s k &&& ~~~1#32) }
    done (flushVector s vector)
  else done s

/-- BUS_MASTER_ENABLE_CHANGE: every ring and queue becomes active or inactive; on activation the backlog of a ring goes to
it first (R366, R377). -/
def execBusMasterEnableChange (on : Bool) (s : State) : Outcome State Fault Refusal :=
  if on = s.pcie.bme then done s
  else
    let rings := (List.range 16).filter fun r => s.bit (R.EVR_CTRL_EN r)
    if on then done (foldState backlogToRing (viewActive (s.putPcie { s.pcie with bme := true })) rings)
    else done (viewActive (foldState ringToBacklog (s.putPcie { s.pcie with bme := false }) rings))

/-- The fields that a write of EVR_CTRL or HQ_CTRL carries beside EN. -/
def putCtrl (s : State) (log vector mod_ : Fld) (v : Nat) : State :=
  ((s.set log (natBits v 24 5)).set vector (natBits v 16 6)).set mod_ (natBits v 0 10)

/-- EVR_CTRL_WRITE (R372, R377). -/
def execEvrCtrlWrite (ring v : Nat) (s : State) : Outcome State Fault Refusal :=
  let bad (t : State) : State := t.set (R.EVR_STAT_BAD_CFG ring) 1
  let put (t : State) : State := putCtrl t (R.EVR_CTRL_LOG2SZ ring) (R.EVR_CTRL_VECTOR ring) (R.EVR_CTRL_MOD_US ring) v
  let log := natBits v 24 5
  if s.bit (R.EVR_CTRL_EN ring) then
    if !natBit v 31 then
      done (viewActive (ringToBacklog ((put s).set (R.EVR_CTRL_EN ring) 0) ring))
    else if log ≠ s.get (R.EVR_CTRL_LOG2SZ ring) then done (bad s)
    else done (put s)
  else if !natBit v 31 then done (put s)
  else if decide (log < 6) || decide (16 < log) || decide (s.get (R.EVR_BASE_LO_ADDR ring) % 4096 ≠ 0) ||
      decide (s.get (R.EVR_WB_LO_ADDR ring) % 8 ≠ 0) then done (bad (put s))
  else
    let s := (put s).set (R.EVR_CTRL_EN ring) 1
    let s := (s.set (R.EVR_PROD_INDEX ring) 0).set (R.EVR_CONS_INDEX ring) 0
    let s := s.setRing ring { s.ring ring with waiting := [], wbProd := 0, msgProd := 0 }
    done (backlogToRing (viewActive s) ring)

/-- EVR_BASE_WRITE: word `part` of EVR_BASE_LO, EVR_BASE_HI, EVR_WB_LO, EVR_WB_HI (R372). -/
def execEvrBaseWrite (ring part v : Nat) (s : State) : Outcome State Fault Refusal :=
  if s.bit (R.EVR_CTRL_EN ring) then done (s.set (R.EVR_STAT_BAD_CFG ring) 1)
  else
    match part with
    | 0 => done (s.set (R.EVR_BASE_LO_ADDR ring) v)
    | 1 => done (s.set (R.EVR_BASE_HI_ADDR ring) v)
    | 2 => done (s.set (R.EVR_WB_LO_ADDR ring) v)
    | _ => done (s.set (R.EVR_WB_HI_ADDR ring) v)

/-- EVR_CONS_WRITE (R374). -/
def execEvrConsWrite (ring v : Nat) (s : State) : Outcome State Fault Refusal :=
  if !s.bit (R.EVR_CTRL_EN ring) then done s
  else if ringSize s ring < (s.get (R.EVR_PROD_INDEX ring) + 2 ^ 32 - v % 2 ^ 32) % 2 ^ 32 then
    done (s.set (R.EVR_STAT_BAD_CONS ring) 1)
  else done (s.set (R.EVR_CONS_INDEX ring) v)

/-- HQ_CTRL_WRITE (R372, R381). -/
def execHqCtrlWrite (hq v : Nat) (s : State) : Outcome State Fault Refusal :=
  let bad (t : State) : State := t.set (R.HQ_STAT_BAD_CFG hq) 1
  let put (t : State) : State := putCtrl t (R.HQ_CTRL_LOG2SZ hq) (R.HQ_CTRL_VECTOR hq) (R.HQ_CTRL_MOD_US hq) v
  let log := natBits v 24 5
  if s.bit (R.HQ_CTRL_EN hq) then
    if !natBit v 31 then done (viewActive ((put s).set (R.HQ_CTRL_EN hq) 0))
    else if log ≠ s.get (R.HQ_CTRL_LOG2SZ hq) then done (bad s)
    else done (put s)
  else if !natBit v 31 then done (put s)
  else if decide (log < 4) || decide (12 < log) || decide (s.get (R.HQ_BASE_LO_ADDR hq) % 4096 ≠ 0) ||
      decide (s.get (R.HQ_WB_LO_ADDR hq) % 4 ≠ 0) then done (bad (put s))
  else
    let s := (((put s).set (R.HQ_CTRL_EN hq) 1).set (R.HQ_HEAD_INDEX hq) 0).set (R.HQ_TAIL_INDEX hq) 0
    done (viewActive (s.setHq hq { s.hq hq with msgHead := 0, notify := false }))

/-- HQ_TAIL_WRITE (R374, R381). -/
def execHqTailWrite (hq v : Nat) (s : State) : Outcome State Fault Refusal :=
  if !s.bit (R.HQ_CTRL_EN hq) then done s
  else if 2 ^ s.get (R.HQ_CTRL_LOG2SZ hq) < (v % 2 ^ 32 + 2 ^ 32 - s.get (R.HQ_HEAD_INDEX hq)) % 2 ^ 32 then
    done (s.set (R.HQ_STAT_BAD_CONS hq) 1)
  else done (s.set (R.HQ_TAIL_INDEX hq) v)

/-- HOST_TX_DESCRIPTOR: the descriptor at HQ_HEAD of an active HTQ, its bytes and those of its buffer (R382). -/
def execHostTxDescriptor (hq : Nat) (desc data : List Byte) (readOk : Bool) (s : State) : Outcome State Fault Refusal :=
  let i := s.get (R.HQ_HEAD_INDEX hq)
  if !(decide (hq < 4) && hqActive s hq && decide (i ≠ s.get (R.HQ_TAIL_INDEX hq))) then done s
  else
    let at_ := descAddr s hq
    let (s, status) := handleDescriptor s desc data readOk
    let s := s.emit (.hostWrite (at_ + 24) (toLE 1 status))
    let s := if status = 1 then s else postEvent 0x0B03 [(0, 1, hq), (1, 1, status), (4, 4, i)] s
    let s := advanceHead s hq
    done (s.setHq hq { s.hq hq with notify := (s.hq hq).notify || natBit (leField desc 11 1) 1 })

end Sys2Proof.Machine
end

