-- ==== Sys2Proof/Machine/Indigo.lean ====
section
/-!
DEFINITION. The map unit's rows (chapter 07).
-/

namespace Sys2Proof.Machine

open Host (Outcome)

/-- What the map unit does with a trailer (R227, R234). -/
def takeTrailer (s : State) (n : Nat) (trailer : List Byte) : State :=
  let s := if natBit (leField trailer 20 1) 5 then
      let t := s.bump R.IMAP_CNT2_MREQ
      if mapRoom t n then reissueMap t n else mapTableFull t n
    else s
  if s.bit R.IMAP_CFG_EN then learnTrailer s n trailer else s

/-- MAP_TRAILER (R227, R234): the map unit takes the oldest trailer (Table 7-8) of a frame whose MIC verified. -/
def execMapTrailer (s : State) : Outcome State Fault Refusal :=
  match s.imap.trailers with
  | [] => done s
  | (n, trailer) :: rest =>
    let s := s.putImap { s.imap with trailers := rest }
    done (if running s && nodeValid s n && isIndigo s n then takeTrailer s n trailer else s)

/-- STALE_INDIGO_REPORT (R233): the packet core takes the report with STALE set at the head of a cluster's receive queue, and attributes
it to the node that the slot engine expected. -/
def execStaleIndigoReport (cluster : Nat) (s : State) : Outcome State Fault Refusal :=
  match headFrame s cluster .stale with
  | none => done s
  | some f =>
    if !running s then done s
    else
      let s := (dropReport s cluster).bump R.IMAP_CNT1_STALE
      match f.expected with
      | none => done s
      | some n => done (if nodeValid s n && isIndigo s n then reissueMap s n else s)

/-- MAP_HOLD_EXPIRY (R228): the HOLD period of a node's confirmed entry ends, IMAP_HOLD seconds after the confirmation. -/
def execMapHoldExpiry (node : Nat) (s : State) : Outcome State Fault Refusal :=
  match assocGet s.imap.entries node with
  | none => done s
  | some e =>
    if e.status = .hold then done (freeMapEntry (s.reach (e.since + s.get R.IMAP_HOLD_HOLD * secondNs)) node) else done s

/-- An IMAP_REQ on a node (R236): refused while it has an entry, or without Indigo mode; the result shows in REQ_RES. -/
def mapRequest (s : State) (n : Nat) (act : State → State) : State :=
  if !openTo s .host then s
  else if !nodeValid s n || !isIndigo s n then s.set R.IMAP_STATUS_REQ_RES 3
  else if (assocGet s.imap.entries n).isSome then s.set R.IMAP_STATUS_REQ_RES 2
  else (act s).set R.IMAP_STATUS_REQ_RES 1

/-- IMAP_RATE_CHANGE (R236): the present map is issued with the new rate. -/
def execImapRateChange (node rate : Nat) (s : State) : Outcome State Fault Refusal :=
  done (mapRequest s node fun t => pendMap t node (presentMap t node) rate)

/-- IMAP_CLEAR (R236). -/
def execImapClear (node : Nat) (s : State) : Outcome State Fault Refusal := done (mapRequest s node fun t => clearMap t node)

/-- IMAP_RESEND (R236). -/
def execImapResend (node : Nat) (s : State) : Outcome State Fault Refusal := done (mapRequest s node fun t => reissueMap t node)

end Sys2Proof.Machine
end

