-- ==== Sys2Proof/Machine/Integrity.lean ====
section
/-!
DEFINITION. The commands of chapter 18: memory integrity and in-service repair.
-/

namespace Sys2Proof.Machine

open Host (Outcome)

/-- Scrub codes of the memories. -/
def scrubOf (s : State) (m : Nat) : ScrubState :=
  (assocGet s.mi.scrubs m).getD { next := 0, discards := 0, retry := false, faults := 0, started := s.now }

/-- Replace the scrub state of a memory; SCRUB_RUN while a pass is under way. -/
def putScrub (s : State) (m : Nat) (x : Option ScrubState) : State :=
  let l := match x with | none => assocDel s.mi.scrubs m | some v => assocSet s.mi.scrubs m v
  (s.putMi { s.mi with scrubs := l }).setBit R.MI_STATUS_SCRUB_RUN (!l.isEmpty)

/-- LINE_CHECK_FAIL: a line fails its check at a read (R499, R503, R506, R511). `column` is the failing bit column;
`refetchOk` whether the second read passes; `code` whether a control-memory line holds runtime code or read-only data; `air`
and `eth` name the frame that a frame-buffer line holds; `scrub` whether the scrubber read it. -/
def execLineCheckFail (mem : LineMem) (line column : Nat) (refetchOk code scrub : Bool) (air eth : Option Nat) (s : State) :
    Outcome State Fault Refusal :=
  if !powered s || decide (memLines s mem ≤ line) || !sramPresent s (lineSram mem line) || s.mi.subst.contains (mem, line) ||
      s.mi.recoveries.any (fun r => r.mem = mem && decide (r.line = line)) then done s
  else
    let s := if scrub then putScrub s (memCode mem) (some { scrubOf s (memCode mem) with faults := (scrubOf s (memCode mem)).faults + 1 }) else s
    let flipped := s.mi.flipped.contains (mem, line)
    let wait (w : RecoveryWait) : State :=
      viewMi (s.putMi { s.mi with recoveries := s.mi.recoveries ++
        [{ mem := mem, line := line, column := column, wait := w, flipped := flipped }] })
    if 32 ≤ s.mi.recoveries.length then
      done (noteFault (faultPoisoned (poisonFrames (s.bump R.MI_CNT3_REC_FULL) air eth) mem line) mem line column true flipped)
    else if refetchOk && !flipped then
      done (noteFault (faultEnds (s.bump R.MI_CNT0_REFETCH_OK) mem line 0) mem line column true flipped)
    else
      match mem with
      | .ncs =>
        if peerSource s && s.bit R.MI_CFG_PEER_FETCH then done ((wait .peer).emit (.hjFetch line))
        else done (noteFault (faultPoisoned s mem line) mem line column true flipped)
      | .frame => done (noteFault (faultPoisoned (poisonFrames s air eth) mem line) mem line column true flipped)
      | .control =>
        if code then done (wait .flash)
        else
          let t := consumePoison (faultPoisoned s mem line) 2 0xFFFFFFFF
          let t := t.putMi { t.mi with bad := t.mi.bad.filter fun x => x ≠ (mem, line) }
          done (noteFault t mem line column true flipped)

/-- The recovery of a line that waits for a source. -/
def recoveryOf (s : State) (m : LineMem) (line : Nat) : Option Recovery :=
  s.mi.recoveries.find? fun r => r.mem = m && decide (r.line = line)

/-- A recovery slot is free again. -/
def freeRecovery (s : State) (m : LineMem) (line : Nat) : State :=
  viewMi (s.putMi { s.mi with recoveries := s.mi.recoveries.filter fun r => !(r.mem = m && decide (r.line = line)) })

/-- The peer's line as it is written: its TX frame counter past the highest block reserved for the node (R503). -/
def fetchedLine (s : State) (line : Nat) (bytes : List Byte) : Line :=
  let l := lineOf bytes
  let k := (assocGet s.pair.reserved line).getD (lineGet l N.TXCTR / 1024)
  lineSet l N.TXCTR (counterAfter k)

/-- PEER_LINE_ARRIVAL: the peer's copy of a faulty line, whether it passes its check, and whether the read-back of the
written line passes (R503, R511, Table 18-4). -/
def execPeerLineArrival (line : Nat) (bytes : List Byte) (ok readbackOk : Bool) (s : State) : Outcome State Fault Refusal :=
  match recoveryOf s .ncs line with
  | none =>
    if s.mi.refill.contains line then
      let s := s.putMi { s.mi with refill := s.mi.refill.filter fun x => x ≠ line }
      done (if ok then writeLine s line (fetchedLine s line bytes) else s)
    else done s
  | some r =>
    let s := freeRecovery s .ncs line
    if !ok then done (noteFault (faultPoisoned s .ncs line) .ncs line r.column true r.flipped)
    else
      let s := writeLine s line (fetchedLine s line bytes)
      done (noteFault (faultEnds (s.bump R.MI_CNT1_PEER_FETCH) .ncs line 2) .ncs line r.column readbackOk r.flipped)

/-- FLASH_RECOMPUTE_DONE: a control-memory line was reread from the boot flash (R503): whether it matches the stored check, and
whether the read-back passes. -/
def execFlashRecomputeDone (line : Nat) (matched readbackOk : Bool) (s : State) : Outcome State Fault Refusal :=
  match recoveryOf s .control line with
  | none => done s
  | some r =>
    let s := freeRecovery s .control line
    if !matched then done (noteFault (faultPoisoned s .control line) .control line r.column true r.flipped)
    else
      let s := checkWritten (s.bump R.MI_CNT0_RECOMPUTE) .control line
      done (noteFault (faultEnds s .control line 1) .control line r.column readbackOk r.flipped)

/-- Units of a scrub pass: tiles of the NCS, lines of the others. -/
def scrubUnits (s : State) (m : LineMem) : Nat := match m with | .ncs => lineCount s / 64 | _ => memLines s m

/-- The scrubber's unit is verified: the next one, or the end of the pass (R509). -/
def scrubNext (s : State) (m : LineMem) (x : ScrubState) : State :=
  let s := s.putMi { s.mi with tileDirty := false }
  if x.next + 1 < scrubUnits s m then
    putScrub s (memCode m) (some { x with next := x.next + 1, discards := 0, retry := false })
  else
    let seconds := (s.now - x.started) / secondNs
    postEvent 0x1004 [(0, 1, memCode m), (4, 4, x.faults), (8, 4, seconds)] (putScrub s (memCode m) none)

/-- SCRUB_READ: the scrubber verifies its next tile or line (R502, R509, R510). `misread` are the lines that the array gives in the
place of others at this read. -/
def execScrubRead (mem : LineMem) (misread : List (Nat × Nat)) (s : State) : Outcome State Fault Refusal :=
  if !running s || decide (s.fwd.snap.job = .exporting) then done s
  else
    let x := scrubOf s (memCode mem)
    match mem with
    | .ncs =>
      if s.mi.tileDirty && decide (x.discards < 3) then
        done ((putScrub s 0 (some { x with discards := x.discards + 1, retry := false })).putMi
          { (putScrub s 0 (some { x with discards := x.discards + 1, retry := false })).mi with tileDirty := false })
      else if tileReadOk s x.next misread then done (scrubNext s mem x)
      else if x.retry then done (scrubNext (tileFailed s x.next 0) mem x)
      else done (putScrub s 0 (some { x with retry := true }))
    | _ => done (scrubNext s mem x)

/-- Only the host and the application core write MI_CMD and MI_FLIP (R519). -/
def miWriter (q : Requester) : Bool := match q with | .host => true | .app => true | _ => false

/-- MI_SCRUB_NOW: MI_CMD OP 2 starts a pass of every memory (R509). -/
def execMiScrubNow (q : Requester) (s : State) : Outcome State Fault Refusal :=
  if !miWriter q || !openTo s q then done s
  else
    let fresh : ScrubState := { next := 0, discards := 0, retry := false, faults := 0, started := s.now }
    let s := s.putMi { s.mi with tileDirty := false }
    done ((putScrub (putScrub (putScrub s 0 (some fresh)) 1 (some fresh)) 2 (some fresh)).set R.MI_STATUS_CMD_RES 1)

/-- MI_APPLY_REPAIRS: MI_CMD OP 1 (R515). -/
def execMiApplyRepairs (q : Requester) (s : State) : Outcome State Fault Refusal :=
  if !miWriter q || !openTo s q then done s
  else if s.get R.PAIR_STATUS_ROLE = roleStandby then done (standbyRestart (s.set R.MI_STATUS_CMD_RES 1))
  else if s.get R.PAIR_STATUS_ROLE = roleActive && peerSource s then
    let r := switchResult s
    if r = 1 then done (startPlanned (s.set R.MI_STATUS_CMD_RES 1) 11 1)
    else done (s.set R.MI_STATUS_CMD_RES (if r = 4 then 3 else 2))
  else done (s.set R.MI_STATUS_CMD_RES 2)

/-- MI_FLIP_WRITE: ARM stays 0 for a macro of a parity table or an absent one (R516). -/
def execMiFlipWrite (q : Requester) (v : Nat) (s : State) : Outcome State Fault Refusal :=
  if !miWriter q || !openTo s q then done s
  else
    let m := natBits v 0 7
    let legal := sramPresent s m && !(decide (64 ≤ m) && decide (m < 84))
    done ((s.set R.MI_FLIP_MACRO m).setBit R.MI_FLIP_ARM (natBit v 31 && legal))

/-- FRAME_BUFFER_SWEEP: frames queued for a line marked REBUILD are freed into DL_DROP (R508). -/
def execFrameBufferSweep (s : State) : Outcome State Fault Refusal :=
  if !running s then done s
  else
    done (foldState (fun t (p : Nat × List Nat) => if lineBit (t.line p.1) N.REBUILD then flushDownlink t p.1 else t)
      s s.sched.downlink)

end Sys2Proof.Machine
end

