-- ==== Sys2Proof/Machine/PowerOps.lean ====
section
/-!
DEFINITION. Performance levels and sleep states (chapter 21), shared operations: level changes (R571, R573), what Sepia keeps and
the save list (Tables 21-3 and 21-4), entry and exit (Tables 21-5 and 21-7a), Umber (R585, R586).
-/

namespace Sys2Proof.Machine

/-! ## Performance levels -/

/-- A change to a level starts (Table 21-2): PWR_STATUS.CUR is the lower level meanwhile. A lower level's clocks switch at once; a
higher level's wait for the supply. -/
def startChange (s : State) (level : Nat) : State :=
  let old := s.get R.PWR_STATUS_CUR
  if s.pwr.change.isSome || decide (level = old) then s
  else
    let up := decide (old < level)
    let c : LevelChange := { from_ := old, level := level, started := s.now, switched := !up }
    let s := s.putPwr { s.pwr with change := some c, vsel := level, clockLevel := if up then old else level }
    (s.set R.PWR_STATUS_CUR (min old level)).set R.PWR_STATUS_CHANGING 1

/-- The level that the device is to hold: PL0 while throttled, else TARGET (R570, R574). -/
def wantedLevel (s : State) : Nat := if s.bit R.PWR_STATUS_THROTTLED then 0 else s.get R.PWR_LEVEL_TARGET

/-! ## What Sepia keeps -/

/-- A key lies among `n` registers of one kind that stand `stride` bytes apart from `base`. -/
def keyAmong (key base stride n : Nat) : Bool :=
  decide (base ≤ key) && decide ((key - base) % stride = 0) && decide ((key - base) / stride < n)

/-- A key lies in a block of addresses. -/
def keyWithin (key first last : Nat) : Bool := decide (first ≤ key) && decide (key ≤ last)

/-- The state words of Table 21-4 whose count goes on in the always-on domain (R431). -/
def timerState (key : Nat) : Bool := keyAmong key (R.GT_CNT 0) 0x40 32 || keyAmong key (R.GT_STAT 0) 0x40 32

/-- The registers of the save list (Table 21-4). -/
def inSaveList (key : Nat) : Bool :=
  [R.OSC_CFG, R.OSC_PARAM, R.OSC_INIT, R.OSC_MAN, R.PWR_CFG21, R.PWR_LEVEL, R.PWR_SLEEP, R.PWR_WAKE_TMR].contains key ||
  [R.TRX_CTRL 0, R.SYNTH_FREQ 0, R.SYNTH_LOCK 0, R.TX_TIMING 0, R.FE_CTRL 0, R.PWR_CFG 0, R.BACKOFF_M 0, R.RX_OFS 0, R.PATH_LIMITS 0,
    R.CAL_CTRL 0, R.CAL_PARAM 0, R.CAL_EPOCH 0].any (fun b => keyAmong key b 0x10000 16) ||
  keyWithin key R.JESD_CTRL R.JESD_RBD || keyWithin key (R.XS_RF 0) (R.XS_LAT 15) || keyWithin key (R.XS_CAL 0) (R.XS_CAL_EPOCH 15) ||
  [R.CL_ANT 0, R.CL_FD 0, R.CL_BOARD_DLY 0 0, R.CL_BOARD_DLY 0 1, R.CL_BOARD_DLY 0 2, R.CL_BOARD_DLY 0 3].any
    (fun b => keyAmong key b 0x1000 4) ||
  keyWithin key R.IMAP_CFG R.IMAP_HOLD || keyWithin key R.PSM_CTRL (R.JOIN_SLOT 3) || keyWithin key R.ASN_INIT_LO R.ASN_INIT_HI ||
  keyAmong key (R.CHMAP_HDR 0) 0x200 256 || keyWithin key R.DRIFT_CFG R.DRIFT_RAMP || keyWithin key R.TRACK_CFG R.TRACK_EUI_HI ||
  keyWithin key R.SCHED_CFG R.SCHED_STATUS || keyWithin key (R.CRIM_A 0) (R.CRIM_B 31) || keyWithin key (R.PATH_SCHED 0) (R.PATH_SCHED 31) ||
  [R.SHP_CFG 0 0, R.SHP_RATE 0 0, R.SHP_CRED 0 0, R.SHP_CFG 1 0, R.SHP_RATE 1 0, R.SHP_CRED 1 0].any (fun b => keyAmong key b 0x10 8) ||
  [R.FWD_CFG, R.FWD_STATUS, R.INFRA_CTRL].contains key ||
  [R.MCAST_CFG 0, R.MCAST_SLOT 0, R.MCAST_PATHS 0].any (fun b => keyAmong key b 0x10 256) ||
  keyWithin key (R.ETH_CTRL 0) (R.ETH_PTP_DLY 0) || keyWithin key (R.ETH_CTRL 1) (R.ETH_PTP_DLY 1) || keyWithin key R.BR_CFG R.BR_IID_HI ||
  [R.TB_CTRL, R.BRIDGE_CFG, R.TB_INC_LO, R.TB_INC_HI, R.TB_SERVO, R.TB_FERR, R.TB_STATUS].contains key ||
  [R.TSO_CTRL 0, R.TSO_TGT_LO 0, R.TSO_TGT_HI 0, R.TSO_PER 0, R.TSO_WIDTH 0].any (fun b => keyAmong key b 0x20 4) ||
  keyAmong key (R.TSI_CTRL 0) 0x20 2 ||
  [R.GT_CFG 0, R.GT_PSC 0, R.GT_CMPCFG 0, R.GT_CMP 0].any (fun b => keyAmong key b 0x40 32) || timerState key ||
  [R.WDOG_CFG, R.GPIO_OUT, R.GPIO_OE].contains key || keyWithin key (R.GPIO_CFG 0) (R.GPIO_CFG 31) ||
  [R.PAIR_CFG, R.HJ_ASYM, R.MI_CFG, R.MI_SCRUB, R.MI_ESC, R.SEC_CFG, R.SEC_JOIN, R.SEC_ST].contains key

/-- Registers that show what stays in retained SRAM, in the modules' own memories or in the always-on domain (Table 21-3), and
those that report the boot, which Sepia is not (R577). -/
def retained (key : Nat) : Bool :=
  keyWithin key R.BOOT_STATUS R.CFG_COUNTS || keyWithin key R.OSC_TRIM R.OSC_STATUS || [R.PWR_STATUS, R.PWR_LAST].contains key ||
  (List.range 16).any (fun n => keyWithin key (R.PWR_ENTRY n 0) (R.PWR_ENTRY n 63)) || [R.CAL_STATUS 0, R.CAL_HEALTH0 0, R.CAL_HEALTH1 0].any (fun b => keyAmong key b 0x10000 16) ||
  [R.CE_CFG 0, R.CE_DET 0].any (fun b => keyAmong key b 0x1000 512) || keyAmong key (R.TE_CFG 0) 0x1000 128 ||
  (List.range 256).any (fun m => keyWithin key (R.CHMAP_ENT m 0) (R.CHMAP_ENT m 63)) ||
  keyWithin key R.EHT_SEED R.EHT_OVF || keyWithin key (R.INFRA_ENT 0) (R.INFRA_ENT 16383) || key = R.INFRA_STAT ||
  key = R.SEC_STATUS || keyWithin key R.SEC_EPOCH R.SEC_ENG || keyWithin key (R.TREE_DIST 0) (R.TREE_DIST 4095) ||
  [R.TIME_QUALITY, R.TIME_ERR, R.LF_RATIO, R.RC_RATIO, R.BRIDGE_LAST, R.MI_STATUS, R.MI_REPAIR, R.GPIO_IN].contains key ||
  keyWithin key (R.UPD_RUNVER 0) (R.UPD_RUNIF 5) || key = R.PAIR_STATUS

/-! ## Sleep requests -/

/-- A wake source is enabled in PWR_SLEEP (R580). -/
def wakeEnabled (s : State) (src : Nat) : Bool :=
  match src with
  | 0 => s.bit R.PWR_SLEEP_TMR
  | 5 => s.bit R.PWR_SLEEP_PERST
  | 6 => s.bit R.PWR_SLEEP_PEER && hjPresent s.part
  | k => decide (k < 5) && natBit (s.get R.PWR_SLEEP_GPIO) (k - 1)

/-- An enabled source is at its active level now (R584): a GPIO input, or the peer's released claim. -/
def wakeActive (s : State) (src : Nat) : Bool :=
  wakeEnabled s src &&
    (if 1 ≤ src ∧ src ≤ 4 then natBit (s.get R.GPIO_IN_BITS) (src - 1) != natBit (s.get R.PWR_SLEEP_POL) (src - 1)
     else decide (src = 6) && !s.bit R.PAIR_STATUS_CLAIM_IN)

/-- A command is refused for work in progress (R578). -/
def sleepBusy (s : State) : Bool :=
  decide (updState s ≠ updIdle) || decide (s.fwd.snap.job ≠ .idle) || decide (s.get R.SYNC_STAT_STATE ≠ 0) ||
    s.paths.any (fun p => match p.2.request with | none => false | some r => r.exclusive && r.running) || s.pwr.request.isSome ||
    s.pair.switchover.isSome

/-- CMD_RES of a PWR_CMD write (Table 21-10, R578). -/
def sleepResult (s : State) (q : Requester) (key : Nat) : Nat :=
  if q ≠ .host ∧ q ≠ .control then 6
  else if key ≠ 0x534C then 4
  else if sleepBusy s then 2
  else if !((List.range 7).any (wakeEnabled s)) then 5
  else 1

/-- The request stands: entry comes at the first slot boundary at least 1 ms ahead (R579). A source that is active already is
latched (R584). -/
def requestSleep (s : State) (umber : Bool) : State :=
  let l := max 1 (slotLenNs s)
  let r : SleepRequest := { umber := umber, accepted := s.now, boundary := (s.tbNs + 1000000 + l - 1) / l * l }
  let src := (List.range 7).find? (wakeActive s)
  s.putPwr { s.pwr with request := some r, duringEntry := src.isSome, wake := src.map fun x => (x, s.now) }

/-- PWR_CMD OP 1 or 2 (R578, R585): an ACTIVE device with a STANDBY peer in SYNC runs a planned switchover first. -/
def sleepCommand (s : State) (q : Requester) (key : Nat) (umber : Bool) : State :=
  let r := sleepResult s q key
  let s := s.set R.PWR_STATUS_CMD_RES r
  if r ≠ 1 then s
  else if switchResult s = 1 then startPlanned s 2 (if umber then 3 else 2)
  else requestSleep s umber

/-! ## Exit -/

/-- Exit starts (Tables 2-7 and 21-7a): the wake is latched and the rails come up. -/
def startExit (s : State) : State :=
  match s.pwr.wake with
  | none => s
  | some (src, _) =>
    let umber := decide (s.boot.phase = .umber)
    let lost := s.boot.lfPost
    let s := if umber then resetKeeping s (alwaysOnFields ++ strapFields) s.pwr s.boot.phase else s
    let s := s.set R.PWR_STATUS_WAKE_SRC src
    let s := s.putPwr { s.pwr with exitAt := s.now, enCore := true, enSram := true, vsel := 0,
                                   wakePost := if s.pwr.duringEntry && umber then some (2, src) else none }
    s.putBoot { s.boot with phase := .powering, cause := if umber then .umberExit else .sepiaExit, powerRetried := false,
                            clockRetried := false, startAt := if umber then s.now else s.boot.startAt,
                            lfAccepted := s.boot.lfAccepted || s.pwr.aonLf, lfPost := lost, lfFallen := s.boot.lfFallen || lost }

/-! ## Sepia -/

/-- Transient path state is lost; coefficient sets and what the calibration learned are kept (R166). -/
def sleepPath (p : PathState) : PathState :=
  { PathState.idle with rxSet := p.rxSet, txSet := p.txSet, bins := p.bins, images := p.images, dcMean := p.dcMean, analog := p.analog,
                        coldFailed := p.coldFailed }

/-- The state after Sepia has taken everything that Table 21-3 does not keep. -/
def sepiaClear (s : State) : State :=
  let l := s.regs.filter fun c => inSaveList c.1 || retained c.1
  let saved := (s.regs.filter fun c => inSaveList c.1).map fun c => (c.1, c.2.toNat)
  { State.reset with
    part := s.part, flash := s.flash, flashSize := s.flashSize, otp := s.otp, tree := s.tree, osc := s.osc, regs := l,
    boot := { s.boot with lfMeasuring := false, phase := .sepia },
    ev := { EventState.cold with seqs := s.ev.seqs },
    pcie := { PcieState.cold with perst := s.pcie.perst },
    paths := s.paths.map fun p => (p.1, sleepPath p.2),
    psm := { PsmState.cold with dsn := s.psm.dsn },
    drift := { s.drift with inputs := [], trackLast := none, trackFrame := none, passed := none },
    fwd := { s.fwd with rebuild := [], snap := SnapState.idle, groups := [] },
    sched := { SchedState.cold with nextHandle := s.sched.nextHandle, issuedCounter := s.sched.issuedCounter,
                                    drains := s.sched.drains, crims := s.sched.crims },
    tb := { s.tb with stagedInc := 0, stagedStep := 0, pendingStep := none, tso := [], tsiLast := [] },
    sec := { s.sec with command := none, cache := [], deriving_ := [], joins := [], joinSlots := 0, rekeys := [],
                        rekeyLeft := s.sec.rekeyLeft ++ s.sec.rekeys.map (fun r => r.1) },
    app := { AppState.cold with iram := s.app.iram, dram := s.app.dram, entry := s.app.entry, badWords := s.app.badWords,
                                gpioOut := s.app.gpioOut, gpioOe := s.app.gpioOe },
    cpus := s.cpus, mi := { s.mi with recoveries := [], scrubs := [], refill := [], tileDirty := false },
    pair := { PairState.cold with reserved := s.pair.reserved },
    pwr := { s.pwr with change := none, request := none, save := some saved, pale := false, clockLevel := 0, vsel := 0,
                        enCore := false, isolated := true },
    now := s.now, draws := s.draws, out := s.out, reply := s.reply, pending := s.pending }

/-- What stops at the start of entry (step 1 of Table 21-5): the claim, the link and every queued frame. -/
def entryStops (s : State) : State :=
  let s := flushAllDownlink (endClaim s 13)
  linkDown (foldState dropPort s [0, 1]) 0

/-- A device that sleeps holds no performance level but PL0, and shows it (Table 21-5 step 6). -/
def sleepViews (s : State) (state : Nat) : State :=
  let s := ((s.set R.PWR_STATUS_CUR 0).set R.PWR_STATUS_CHANGING 0).set R.PWR_STATUS_THROTTLED 0
  ((s.set R.PWR_STATUS_CMD_RES 0).set R.PWR_STATUS_LAST_STATE state).set R.PWR_STATUS_RESTORE_FAIL 0

/-- Sepia entry, whole (Table 21-5); a wake that came before its end starts the exit at once (R584). -/
def enterSepia (s : State) : State :=
  let s := stopTimebase (entryStops s)
  let s := sleepViews (sepiaClear s) 1
  let s := ((s.set R.PAIR_STATUS_GATE 0).set R.PAIR_STATUS_SWO 0).set R.PAIR_STATUS_IL_FAULT 0
  let s := s.later 300000
  startExit (setLfMode (s.putPwr { s.pwr with asleepAt := s.now }) true)

/-- Umber entry, whole (R585). -/
def enterUmber (s : State) : State :=
  let keep := alwaysOnFields ++ strapFields ++ [R.PWR_SLEEP_PEER, R.PWR_SLEEP_PERST, R.PWR_SLEEP_TMR, R.PWR_SLEEP_POL, R.PWR_SLEEP_GPIO,
    R.PWR_WAKE_TMR_SECONDS]
  let wake := s.pwr.wake
  let during := s.pwr.duringEntry
  let aonLf := s.pwr.aonLf
  let s := stopTimebase (entryStops s)
  let power : PowerState := { PowerState.cold with faultN := true, aonLf := aonLf, wake := wake, duringEntry := during }
  let s := resetKeeping s keep power .umber
  let s := (s.set R.PWR_STATUS_LAST_STATE 2).setBit R.BOOT_STATUS_AON_SRC (!aonLf)
  let s := s.later 1150000
  startExit (s.putPwr { s.pwr with asleepAt := s.now })

/-- Write the save list back (step 6 of Table 21-7a); the timers' counts went on in the always-on domain. -/
def writeBack (s : State) : State :=
  let l := s.pwr.save.getD []
  foldState (fun (t : State) (x : Nat × Nat) => if timerState x.1 then t else t.setWord x.1 (BitVec.ofNat 32 x.2)) s l

/-- Node minutes and heard-by ticks advance by the bridged time, and the heard-by entries are swept (R313, R582). -/
def bridgeAges (s : State) : State :=
  let m := s.get R.BRIDGE_LAST_SECONDS / 60
  let tick := max 1 (s.get R.FWD_CFG_HB_TICK)
  hbAdvance (s.set R.FWD_STATUS_NODE_MIN (s.get R.FWD_STATUS_NODE_MIN + m)) (m / tick)

/-- Synthesizers retune to SYNTH_FREQ and lock (step 7 and 8 of Table 21-7a). -/
def exitSynths (s : State) : State :=
  foldState (fun (t : State) n =>
    if pathPresent t.part n && t.bit (R.TRX_CTRL_ENABLE n) then
      (t.set (R.SYNTH_CUR_FREQ n) (t.get (R.SYNTH_FREQ_FREQ n))).set (R.SYNTH_STATUS_LOCK n) 1
    else t) s (List.range 16)

/-- The cores resume, the application core at its entry address (R581). -/
def exitCores (s : State) : State :=
  let s := foldState (fun (t : State) n => setCpu t n 1) s [0, 1, 2, 3]
  if appLoaded s then releaseApp s else s

/-- The time of exit and of sleep in PWR_LAST, and the events (R581, R584). -/
def exitReport (s : State) : State :=
  let src := s.get R.PWR_STATUS_WAKE_SRC
  let asleep := s.pwr.exitAt - s.pwr.asleepAt
  let us := (s.now - s.pwr.exitAt) / 1000
  let s := (s.set R.PWR_LAST_EXIT_US (min 65535 us)).set R.PWR_LAST_ASLEEP (min 65535 (asleep / (60 * secondNs)))
  let s := postEvent 0x1302 [(0, 1, 1), (1, 1, src), (4, 4, asleep / secondNs), (8, 4, us)] s
  if s.pwr.duringEntry then postEvent 0x1303 [(0, 1, 1), (1, 1, src)] (s.bump R.PWR_CNT_WAKE_ENTRY) else s

/-- Sepia exit reaches readiness (R581, R582). -/
def sepiaReady (s : State) : State :=
  let s := (setLfMode (writeBack s) false).putBoot { s.boot with phase := .running, cause := .cold }
  let s := s.putPwr { s.pwr with save := none, wake := none, isolated := false, faultN := true }
  let s := foldState takeCe (bridgeAges s) (List.range 512)
  let s := configTaken s (R.TRACK_CFG :: (List.range 4).map R.TSO_CTRL)
  let s := foldState takeFrontEnd (exitCores (exitSynths s)) ((List.range 16).filter (pathPresent s.part))
  let s := s.putPsm { s.psm with resume := true }
  let s := s.putPair { s.pair with step8 := !s.bit R.PAIR_STATUS_CLAIM_IN }
  let s := exitReport (postLfLoss (postRetry s))
  (startChange s (wantedLevel s)).putPwr { (startChange s (wantedLevel s)).pwr with duringEntry := false }

/-- The save image failed its CRC: the exit goes on as an Umber exit (R583). -/
def restoreFails (s : State) : State :=
  let post := if s.pwr.duringEntry then some (1, s.get R.PWR_STATUS_WAKE_SRC) else none
  let power := railsState true true
  let power : PowerState := { power with aonLf := s.pwr.aonLf, wake := s.pwr.wake, wakePost := post }
  let power : PowerState := { power with exitAt := s.pwr.exitAt, asleepAt := s.pwr.asleepAt }
  let tb := s.tb
  let fields := alwaysOnFields ++ strapFields ++ [R.TIME_QUALITY_CODE, R.TIME_ERR_ERR, R.BRIDGE_LAST_SECONDS]
  let at_ := s.pwr.exitAt
  let t := resetKeeping s fields power .boot
  let t := t.putTb { TimeState.cold with running := tb.running, ns := tb.ns, frac := tb.frac }
  let t := t.putBoot { t.boot with cause := .umberExit, startAt := at_, lfAccepted := power.aonLf, retryPost := s.boot.retryPost,
                                   lfPost := s.boot.lfPost, lfFallen := s.boot.lfPost }
  romStart ((t.set R.PWR_STATUS_RESTORE_FAIL 1).setBit R.BOOT_STATUS_AON_SRC (!power.aonLf))

/-! ## After a planned switchover -/

/-- What a planned switchover was started for, once it has ended: as STANDBY the device goes on with it; where it kept its claim
a repair restart is passed over, a sleep request is refused (Table 21-7), an escalation takes step 4 (Table 18-4), and an update
proceeds where it stands (R515, R517, R563, R565, R566, R578). -/
def settle (s : State) : State :=
  if s.pair.then_ = 0 ∨ s.pair.switchover.isSome = true then s
  else
    let holds := s.bit R.PAIR_STATUS_CLAIM_OUT
    let n := s.pair.then_
    let s := s.putPair { s.pair with then_ := 0 }
    match n with
    | 1 => if holds then s else warmRestart (setRole (dropSync s) roleSpare 11)
    | 2 => if holds then s.set R.PWR_STATUS_CMD_RES 3 else requestSleep s false
    | 3 => if holds then s.set R.PWR_STATUS_CMD_RES 3 else requestSleep s true
    | 4 => startHandover s updHandover
    | 5 => startHandover s updFallback
    | 6 =>
      if holds then degrade s (if s.get R.MI_LAST_MEM = 0 then .ncs else if s.get R.MI_LAST_MEM = 1 then .frame else .control)
      else autoRepair s
    | _ => warmRestart s

end Sys2Proof.Machine
end

