-- ==== Sys2Proof/Machine/MirrorOps.lean ====
section
/-!
DEFINITION. The records of the Hjelno link as the receiver takes them (R522, R532 to R537, R541).
-/

namespace Sys2Proof.Machine

/-! ## What the receiver of mirror records does -/

/-- Mirror records apply: the device does not claim, and a compatible link is up (R531, R536). -/
def takesRecords (s : State) : Bool := running s && linkUp s && !s.pair.controlOnly && !s.bit R.PAIR_STATUS_CLAIM_OUT

/-- The EHT follows the EUIs of the lines (R305): an entry of the line's old EUI goes, its new EUI is inserted. -/
def ehtFollow (s : State) (n : Nat) (old new : Line) : State :=
  let a := lineGet old N.EUI
  let b := lineGet new N.EUI
  if a = b then s
  else
    let s := if a ≠ 0 ∧ (ehtLookup s a).2 = some n then (ehtDelete (ehtLookup s a).1 a).1 else s
    if b = 0 then s else (ehtInsert s b n).1

/-- A line as the mirror changes it. -/
def putMirrored (s : State) (n : Nat) (new : Line) : State :=
  if n < lineCount s then
    let old := s.line n
    ehtFollow (mapForget (writeLine s n new) n old new) n old new
  else s

/-- The bits of a mask below 64, in rising order. -/
def maskBytes (mask : Nat) : List Nat := (List.range 64).filter (natBit mask)

/-- An NCS change (Table 19-4): mirrored bytes of a line. -/
def applyNcs (s : State) (node mask : Nat) (bytes : List Byte) : State :=
  let new := ((maskBytes mask).zip bytes).foldl (fun (a : Nat) (x : Nat × Byte) =>
    if mirroredByte x.1 then natSetBits a (8 * x.1) 8 x.2.toNat else a) (s.line node).toNat
  putMirrored s node (BitVec.ofNat 512 new)

/-- A copied Crimson frame joins its air destination's TC0 queue (R535). -/
def applyCrimson (s : State) (f : TxFrame) : State :=
  match f.dest with
  | none => s
  | some a =>
    let (s, h) := keepFrame s f
    viewDownlink (s.putSched { s.sched with downlink := assocSet s.sched.downlink a (downlinkOf s a ++ [h]) }) a

/-- A copied Crimson frame leaves on its dequeue record (R535). -/
def applyCrimsonOut (s : State) (ident : Nat) : State :=
  match s.sched.frames.find? fun p => decide (p.2.cls = 0) && p.2.dest.isSome && decide (p.2.ident = ident) with
  | none => s
  | some p => removeFrame s p.1

/-- A resync starts here: the whole tree state is taken (R465, R537), each counter past what the sender has used (R534), and
frames queued before are dropped. -/
def takeTree (s : State) (t : TreeState) : State :=
  let next (c : Nat × BitVec 32) : Nat := c.2.toNat / 1024 + 1
  let s := flushAllDownlink (dropSync s)
  let s := viewTree ((s.putTree { t with bcast := t.bcast.map fun c => (c.1, BitVec.ofNat 32 (counterAfter (next c))) }).set R.SEC_STATUS_TREE_LOST 0)
  let s := s.putPair { s.pair with reserved := t.bcast.map (fun c => (2 ^ 20 + c.1, next c)), syncAt := s.now, syncLines := 0 }
  (s.set R.SYNC_STAT_STATE 2).set R.SYNC_STAT_LEFT (lineCount s)

/-- A resync line is written whole (R537): its counter past the sender's block, its queue recounted from the Crimson copies. -/
def applyLine (s : State) (n : Nat) (bytes : List Byte) : State :=
  if s.get R.SYNC_STAT_STATE ≠ 2 ∨ lineCount s ≤ n then s
  else
    let l := lineOf (bytes ++ List.replicate 64 0#8)
    let k := lineGet l N.TXCTR / 1024 + 1
    let l := lineSet (lineSet l N.TXCTR (counterAfter k)) ⟨448, 32⟩ 0
    let s := viewDownlink (putMirrored s n l) n
    let s := s.putPair { s.pair with reserved := assocSet s.pair.reserved n k, syncLines := s.pair.syncLines + 1 }
    s.set R.SYNC_STAT_LEFT (s.get R.SYNC_STAT_LEFT - 1)

/-- RESYNC_DONE. -/
def postResyncDone (s : State) : State := postEvent 0x1106 [(0, 4, (s.now - s.pair.syncAt) / 1000), (4, 4, s.pair.syncLines)] s

/-- The resync is complete: in sync, the receiver becomes STANDBY and the sender ACTIVE (R537). -/
def resyncDone (s : State) (role : Nat) : State :=
  let s := ((s.set R.SYNC_STAT_STATE 0).set R.SYNC_STAT_LEFT 0).set R.PAIR_STATUS_SYNC 1
  let s := s.putPair { s.pair with dirty := [], takeAsn := decide (role = roleStandby) }
  setRole (postResyncDone s) role 3

/-! ## Control records -/

/-- A cause that Table 19-5 does not name. -/
def openCause (s : State) : State × Nat := (s.drew, Config.openValue 4 s.draws % 16)

/-- The peer is no longer STANDBY: this claiming device has none (Table 19-1, R541, R542). -/
def peerLeft (s : State) : State :=
  match s.pair.switchover with
  | some w =>
    if w.outgoing then dropSync (switchDone (setRole s roleSolo 2) w 0)
    else s
  | none =>
    if s.get R.PAIR_STATUS_ROLE = roleActive then
      let (t, c) := if s.pair.peerHold then (s, 10) else openCause s
      setRole (dropSync t) roleSolo c
    else s

/-- What a claiming device does on a control record. -/
def controlToClaiming (s : State) (role : Nat) (hold : Bool) : State :=
  let s := match s.pair.switchover with
    | some w =>
      if w.outgoing = false ∧ w.kind = 0 ∧ role = roleStandby then
        let old := roleStandby
        postEvent 0x1101 [(0, 1, roleActive), (1, 1, old), (2, 1, w.cause)] (switchDone s w (switchTime s w))
      else if w.outgoing = true ∧ role ≠ roleStandby then peerLeft s
      else s
    | none => if role ≠ roleStandby then peerLeft s else s
  let s := if (role ≠ roleSpare ∨ hold = true) ∧ [1, 3].contains (s.get R.SYNC_STAT_STATE) = true then
      ((s.set R.SYNC_STAT_STATE 0).set R.SYNC_STAT_LEFT 0).putPair { s.pair with dirty := [] }
    else s
  offerResync s

/-- What a device that does not claim does on a control record (R532, R541). -/
def controlToOther (s : State) (role nodeMin : Nat) (claiming : Bool) : State :=
  let s := if s.bit R.PAIR_STATUS_SYNC || decide (s.get R.SYNC_STAT_STATE = 2) then s.set R.FWD_STATUS_NODE_MIN nodeMin else s
  if s.get R.PAIR_STATUS_ROLE = roleStandby ∧ role = roleSolo ∧ claiming = true then
    let (t, c) := openCause s
    setRole (clearSwitchover (dropSync t)) roleSpare c
  else s

/-- A control record (R532, R533): the peer's role, claim and hold, its ASN and NODE_MIN. A notice of release or handover
stands until the peer reports a claim again. -/
def applyControl (s : State) (role : Nat) (claiming hold : Bool) (asn nodeMin : Nat) : State :=
  let last := if claiming then LastRecord.control else s.pair.lastRecord
  let s := s.set R.HJ_STATUS_PEER_ROLE role
  let s := s.putPair { s.pair with peerClaims := claiming, peerHold := hold, peerAsn := asn % 2 ^ 40, lastRecord := last }
  let s := if s.pair.controlOnly then s
    else if s.bit R.PAIR_STATUS_CLAIM_OUT then controlToClaiming s role hold else controlToOther s role nodeMin claiming
  viewInterlock s

/-- A release notice (Table 19-4). -/
def applyRelease (s : State) : State :=
  viewInterlock (s.putPair { s.pair with peerClaims := false, lastRecord := if s.pair.lastRecord = .handover then .handover else .release })

/-- A handover record (Table 19-6 step 1). -/
def applyHandover (s : State) (asn : Nat) : State :=
  if s.get R.PAIR_STATUS_ROLE ≠ roleStandby then s
  else
    let w : Switchover := { phase := .incoming, outgoing := false, kind := 0, cause := 2, boundary := asn % 2 ^ 40, started := s.now,
                            released := 0, firstBlock := firstBlock s }
    let s := (s.putPair { s.pair with switchover := some w, lastRecord := .handover }).set R.PAIR_STATUS_SWO 1
    postEvent 0x1102 [(0, 1, 0), (1, 1, 2)] s

/-- A mirror record applies, and is counted. -/
def takeRecord (s : State) (f : State → State) : State := if takesRecords s then f (s.bumpWrap R.PAIR_CNT0_MIRROR_RX) else s

/-- A control record applies on any link that is up. -/
def takeControl (s : State) (f : State → State) : State :=
  if running s && linkUp s then settle (f (s.bumpWrap R.PAIR_CNT0_MIRROR_RX)) else s

/-- One record of a link frame, in the order of production (R536). -/
def applyRecord (s : State) (r : MirrorRecord) : State :=
  match r with
  | .ncs n m b => takeRecord s fun t => applyNcs t n m b
  | .reservation n d k => takeRecord s fun t => applyReservation t n d k
  | .crimsonIn f => takeRecord s fun t => applyCrimson t f
  | .crimsonOut i => takeRecord s fun t => applyCrimsonOut t i
  | .tree op args => takeRecord s fun t => mirrorTree t op args
  | .treeAll t => takeRecord s fun u => if u.bit R.PAIR_STATUS_HOLD then u else takeTree u t
  | .epoch n a l => takeRecord s fun t => takeEpoch t n a l
  | .bulkClear _ => takeRecord s fun t => clearNodes t 3
  | .control role c h a m => takeControl s fun t => applyControl t role c h a m
  | .release => takeControl s applyRelease
  | .handover a => takeControl s fun t => applyHandover t a
  | .line n b => takeRecord s fun t => applyLine t n b

end Sys2Proof.Machine
end

