-- ==== Sys2Proof/Machine/Pair.lean ====
section
/-!
DEFINITION. The rows of the redundant pair (chapter 19).
-/

namespace Sys2Proof.Machine

open Host (Outcome)

/-! ## Claims -/

/-- The timebase value of the first slot boundary at least 1 ms ahead (R540); 0 where no slots run. -/
def boundaryTime (s : State) : Nat :=
  if s.bit R.PSM_STATUS_RUN then
    let l := max 1 (slotLenNs s)
    slotEnd s + (if s.tbNs + 1000000 ≤ slotEnd s then 0 else (s.tbNs + 1000000 - slotEnd s + l - 1) / l) * l
  else 0

/-- A device that takes over keeps the block after each stored counter reserved (R534). -/
def reserveAll (s : State) : State :=
  let s := foldState (fun (t : State) n => reserve t n false (lineGet (t.line n) N.TXCTR)) s (validNodes s)
  foldState (fun (t : State) (c : Nat × BitVec 32) => reserve t (2 ^ 20 + c.1) true c.2.toNat) s s.tree.bcast

/-- The role changes where the device has another. -/
def takeRole (s : State) (role cause : Nat) : State := if s.get R.PAIR_STATUS_ROLE = role then s else setRole s role cause

/-- The standby of a planned switchover claims (Table 19-6 step 4): it is ACTIVE, ROLE_CHANGE follows with step 6, and the work
planned for slot B is issued. -/
def claimPlanned (s : State) : State :=
  let s := (s.set R.PAIR_STATUS_ROLE roleActive).set R.PAIR_STATUS_CAUSE 2
  let s := match s.pair.switchover with
    | none => s
    | some w => s.putPair { s.pair with switchover := some { w with phase := .rewrite } }
  issueSlot (reserveAll s)

/-- A standby takes over unplanned (R540). -/
def claimUnplanned (s : State) (cause : Nat) : State :=
  let w : Switchover := { phase := .rewrite, outgoing := false, kind := 1, cause := cause, boundary := 0, started := s.now, released := 0,
                          firstBlock := firstBlock s }
  let at_ := boundaryTime s
  let s := (s.putPair { s.pair with switchover := some w, serveFrom := at_ }).set R.PAIR_STATUS_SWO 1
  let s := setRole (reserveAll (dropSync (postEvent 0x1102 [(0, 1, 1), (1, 1, cause)] s))) roleSolo cause
  if at_ = 0 then switchDone s w 0 else s

/-- The former active of a planned switchover takes its claim back (R541). -/
def claimBack (s : State) : State :=
  let s := setRole (dropSync (reserveAll (rewriteCounters s))) roleSolo 2
  settle (match s.pair.switchover with | none => s | some w => switchDone s w (switchTime s w))

/-- CLAIM_ASSERT (R523, Table 19-2): the peer's claim has been inactive at so many consecutive clk_aon edges. -/
def execClaimAssert (edges : Nat) (s : State) : Outcome State Fault Refusal :=
  if !readyToClaim s || decide (edges < 2) then done s
  else match claimCondition s with
    | none => done s
    | some (role, cause, kind) =>
      let back := retaking s
      let s := driveClaim s
      match kind with
      | some 0 => done (claimPlanned s)
      | some _ => done (offerResync (claimUnplanned s cause))
      | none => done (offerResync (if back then claimBack s else reserveAll (takeRole s role cause)))

/-- The peer's claim asserts against the own one (R525): PAIR_ID decides. -/
def claimConflict (s : State) : State :=
  let id := s.get R.STRAPS_PAIR_ID
  let s := postEvent 0x1107 [(0, 1, id)] (s.set R.PAIR_STATUS_CONFLICT 1)
  if id = 1 then (endClaim (s.bump R.PAIR_CNT2_CONFLICT) 6).set R.PAIR_STATUS_CONFLICT 0 else s

/-- The peer claims while this device does not: a planned release has found its successor (Table 19-6 step 4), and a standby
whose peer claims again waits no longer. -/
def peerClaimed (s : State) : State :=
  match s.pair.switchover with
  | none => s
  | some w =>
    if w.outgoing && (decide (w.phase = .released) || decide (w.phase = .reclaim)) then
      if linkUp s then s.putPair { s.pair with switchover := some { w with phase := .rewrite } }
      else setRole (switchDone s w (switchTime s w)) roleSpare 4
    else if w.outgoing then s
    else clearSwitchover s

/-- PEER_CLAIM_CHANGE (R523 to R526). -/
def execPeerClaimChange (asserted : Bool) (s : State) : Outcome State Fault Refusal :=
  if !hjPresent s.part || decide (s.bit R.PAIR_STATUS_CLAIM_IN = asserted) then done s
  else if !running s then done (s.setBit R.PAIR_STATUS_CLAIM_IN asserted)
  else
    let was := gateOpen s
    let s := gateChanged was (s.setBit R.PAIR_STATUS_CLAIM_IN asserted)
    if asserted then
      let s := s.putPair { s.pair with step8 := false }
      done (viewInterlock (settle (if s.bit R.PAIR_STATUS_CLAIM_OUT then claimConflict s else peerClaimed s)))
    else done (viewInterlock (s.set R.PAIR_STATUS_CONFLICT 0))

/-- CLAIM_KEEPER_EXPIRY (R529): PAIR_KEEP was not written for KEEP_MS or, with `asnTest`, ASN_LO did not advance in time. -/
def execClaimKeeperExpiry (asnTest : Bool) (s : State) : Outcome State Fault Refusal :=
  if !running s || !s.pair.kept || (asnTest && !(s.bit R.PSM_STATUS_RUN && s.bit R.PAIR_STATUS_CLAIM_OUT)) then done s
  else
    let moment := if asnTest then s.pair.asnAt + 2 * slotLenNs s + 1000000 else s.pair.keptAt + s.get R.PAIR_CFG_KEEP_MS * 1000000
    let s := s.reach moment
    let s := s.putPair { s.pair with kept := false }
    done (if s.bit R.PAIR_STATUS_CLAIM_OUT then settle (endClaim (s.bump R.PAIR_CNT3_KEEP_EXPIRED) 8) else s)

/-- PAIR_KEEP_WRITE (R529): only the control cores refresh the keeper. -/
def execPairKeepWrite (q : Requester) (s : State) : Outcome State Fault Refusal :=
  if running s ∧ q = .control then done (s.putPair { s.pair with kept := true, keptAt := s.now }) else done s

/-! ## The link -/

/-- The link goes down, and what waited for a switchover that ends with it goes on. -/
def lostLink (s : State) (cause : Nat) : State := settle (linkLost s cause)

/-- Frames that the peer acknowledges leave the retry list. -/
def takeAcks (s : State) (acks : List Nat) : State :=
  s.putPair { s.pair with unacked := s.pair.unacked.filter fun f => !acks.contains f.seq }

/-- HJ_LINK_FRAME_RX (R530, R536): a frame with its sequence, whether its CRC and tag are good, the acknowledgements that it
brings and its records. A bad frame, or one out of sequence, is not acknowledged; a repeat is not applied again. -/
def execHjLinkFrameRx (seq : Nat) (good : Bool) (acks : List Nat) (records : List MirrorRecord) (s : State) :
    Outcome State Fault Refusal :=
  if !running s || !linkUp s || !good then done s
  else
    let s := takeAcks (s.putPair { s.pair with rxAt := s.now }) acks
    if s.pair.rxSeq < seq then done s
    else if seq < s.pair.rxSeq then done (s.emit (.hjAck seq))
    else
      let s := (s.putPair { s.pair with rxSeq := seq + 1 }).emit (.hjAck seq)
      done (foldState applyRecord s records)

/-- HJ_RETRY_TIMEOUT (R530): the frame is sent again, or on its ninth failure the link goes down. -/
def execHjRetryTimeout (seq : Nat) (s : State) : Outcome State Fault Refusal :=
  match s.pair.unacked.find? fun f => decide (f.seq = seq) with
  | none => done s
  | some f =>
    if !running s || !linkUp s then done s
    else if 9 ≤ f.sends then done (lostLink s 1)
    else
      let l := s.pair.unacked.map fun g => if g.seq = seq then { g with sends := g.sends + 1 } else g
      done (((s.putPair { s.pair with unacked := l }).bump R.PAIR_CNT1_RETRY).emit (.hjFrame seq f.records))

/-- HJ_IDLE_TIMEOUT (R530). -/
def execHjIdleTimeout (s : State) : Outcome State Fault Refusal :=
  if running s && linkUp s then
    let s := s.reach (s.pair.rxAt + 50000)
    done (lostLink s.drew (Config.openValue 3 s.draws % 256))
  else done s

/-- HJ_CONTROL_TIMER (R530, R533). -/
def execHjControlTimer (s : State) : Outcome State Fault Refusal :=
  done (if running s then sendControl s (controlRecord s) else s)

/-- Label NZHS of the session key (R531). -/
def labelHS : List Byte := [0x4E#8, 0x5A#8, 0x48#8, 0x53#8]

/-- K_S of R531 over the nonces of the device with PAIR_ID 0 and of that with PAIR_ID 1. -/
def sessionKeyOf (kM : BitVec 128) (n0 n1 : List Byte) : BitVec 128 := kdf (kdf kM labelHL [0#8, 0#8]) labelHS (n0 ++ n1)

/-- Training or authentication fails: HJ_LINK_DOWN with its cause. -/
def trainingFails (s : State) (cause : Nat) : State := postEvent 0x1105 [(0, 1, cause)] s

/-- The interface version and the compatibility vector of the own runtime. -/
def runtimeIfv (s : State) : Nat := imageIfv 2 (inForce s 2)
def runtimeVector (s : State) : List (Nat × Nat × Nat) := vectorEntries 2 (inForce s 2)

/-- The compatibility check of R531. -/
def peerCompatible (s : State) (ncsLog slotLen sfCode ifv : Nat) (vector : List (Nat × Nat × Nat)) : Bool :=
  decide (ncsLog = ncsLog2 s.part) && decide (slotLen = s.get R.PSM_SLOT_SLOT_LEN) && decide (sfCode = s.get R.PSM_SLOT_SF_LEN) &&
    vectorMet (runtimeVector s) [(2, ifv)] && vectorMet vector [(2, runtimeIfv s)]

/-- The link is up (R531): with a mismatch it carries control records only. -/
def linkTrained (s : State) (lanes : Nat) (key : BitVec 128) (ifv : Nat) (vector : List (Nat × Nat × Nat)) (fits : Bool) : State :=
  let s := ((s.set R.HJ_STATUS_UP 1).set R.HJ_STATUS_LANES lanes).set R.HJ_STATUS_AUTH 1
  let s := s.set R.HJ_STATUS_PEER_ROLE roleSpare
  let s := s.putPair { s.pair with sessionKey := key, peerIfv := ifv, peerVector := vector, txSeq := 0, rxSeq := 0, unacked := [],
                                   rxAt := s.now, controlOnly := !fits, lastRecord := .none, peerClaims := false, peerHold := false }
  let s := postEvent 0x1104 [(0, 1, lanes)] s
  if fits then offerResync s
  else if s.bit R.PAIR_STATUS_CLAIM_OUT then s
  else setRole (s.set R.PAIR_STATUS_MISMATCH 1) roleSpare 9

/-- HJ_TRAINING_DONE (R70, R531): the device has sent its own PAIR_ID and report; lanes and inversions found, the peer's PAIR_ID, nonce
and tag, and what it reports of itself: NCS_LOG2, SLOT_LEN, SF_LEN, the interface version of its runtime and that runtime's
compatibility vector. -/
def execHjTrainingDone (lanes inversions peerId : Nat) (nonce tag : List Byte) (ncsLog slotLen sfCode ifv : Nat)
    (vector : List (Nat × Nat × Nat)) (s : State) : Outcome State Fault Refusal :=
  if !running s || !hjPresent s.part || !s.bit R.PAIR_CFG_EN || linkUp s || s.pair.retrainAt.isSome ||
      decide (lanes ≠ 2 ∧ lanes ≠ 4) then done s
  else
    let s := s.emit (.hjTrain (s.get R.STRAPS_PAIR_ID) (ncsLog2 s.part) (s.get R.PSM_SLOT_SLOT_LEN) (s.get R.PSM_SLOT_SF_LEN)
      (runtimeIfv s) (runtimeVector s))
    let s := (s.set R.HJ_STATUS_INV inversions).set R.HJ_STATUS_PEER_ID peerId
    if peerId % 2 = s.get R.STRAPS_PAIR_ID then done (trainingFails s 3)
    else
      let own := toLE 16 s.drawn
      let s := s.drew
      let n0 := if s.get R.STRAPS_PAIR_ID = 0 then own else nonce
      let n1 := if s.get R.STRAPS_PAIR_ID = 0 then nonce else own
      match s.sec.kM with
      | none => done (trainingFails (s.putPair { s.pair with retrainAt := some (s.now + secondNs) }) 2)
      | some kM =>
        let k := sessionKeyOf kM n0 n1
        let s := s.emit (.hjAuth (own ++ Config.gcmTag k (n0 ++ n1 ++ toLE 1 (s.get R.STRAPS_PAIR_ID))))
        if Config.gcmVerify k (n0 ++ n1 ++ toLE 1 (peerId % 2) ++ tag) then
          done (linkTrained s lanes k ifv vector (peerCompatible s ncsLog slotLen sfCode ifv vector))
        else done (trainingFails (s.putPair { s.pair with retrainAt := some (s.now + secondNs) }) 2)

/-- HJ_RETRAIN_TIMER (R531): 1 s after a failed authentication the link trains again. -/
def execHjRetrainTimer (s : State) : Outcome State Fault Refusal :=
  match s.pair.retrainAt with
  | none => done s
  | some t =>
    let s := s.reach t
    done (s.putPair { s.pair with retrainAt := none })

/-- HJ_TIME_EXCHANGE (R532): own send, peer's receipt, peer's send and own receipt, each on its sender's or receiver's
timebase; HJ_TOFS is half the sum of the two differences, less HJ_ASYM. -/
def execHjTimeExchange (sent peerGot peerSent got : Nat) (s : State) : Outcome State Fault Refusal :=
  if running s && linkUp s then
    let sum := timeDiff peerGot sent + timeDiff peerSent got
    done (s.setI R.HJ_TOFS_OFS (realDiv 52 (5 * sum - s.getI R.HJ_ASYM_ASYM) 10))
  else done s

/-! ## Mirror records -/

/-- MIRROR_NCS_CHANGE (R533). -/
def execMirrorNcsChange (node mask : Nat) (bytes : List Byte) (s : State) : Outcome State Fault Refusal :=
  done (applyRecord s (.ncs node mask bytes))

/-- MIRROR_RESERVATION (R534). -/
def execMirrorReservation (node : Nat) (district : Bool) (block : Nat) (s : State) : Outcome State Fault Refusal :=
  done (applyRecord s (.reservation node district block))

/-- MIRROR_CRIMSON_ENQUEUE (R535). -/
def execMirrorCrimsonEnqueue (frame : TxFrame) (s : State) : Outcome State Fault Refusal := done (applyRecord s (.crimsonIn frame))

/-- MIRROR_CRIMSON_DEQUEUE (R535). -/
def execMirrorCrimsonDequeue (ident : Nat) (s : State) : Outcome State Fault Refusal := done (applyRecord s (.crimsonOut ident))

/-- MIRROR_TREE_STATE (R533). -/
def execMirrorTreeState (op : Nat) (args : List Nat) (s : State) : Outcome State Fault Refusal := done (applyRecord s (.tree op args))

/-- MIRROR_SCHEDULE_EPOCH (R522, R533). -/
def execMirrorScheduleEpoch (number asn : Nat) (fields : List (Nat × Nat)) (s : State) : Outcome State Fault Refusal :=
  done (applyRecord s (.epoch number asn fields))

/-- MIRROR_BULK_CLEAR (R536). -/
def execMirrorBulkClear (requester : Nat) (s : State) : Outcome State Fault Refusal := done (applyRecord s (.bulkClear requester))

/-- MIRROR_CONTROL (R532, R533): `kind` is 0 for a plain record, 1 for a release notice, 2 for a handover. -/
def execMirrorControl (kind role : Nat) (claiming hold : Bool) (asn nodeMin : Nat) (s : State) : Outcome State Fault Refusal :=
  done (match kind with
    | 0 => applyRecord s (.control (role % 4) claiming hold asn nodeMin)
    | 1 => applyRecord s .release
    | _ => applyRecord s (.handover asn))

/-- PEER_FETCH_REQUEST (R503, R504): a clean line goes to the peer. -/
def execPeerFetchRequest (line : Nat) (s : State) : Outcome State Fault Refusal :=
  done (if running s && peerSource s && decide (line < lineCount s) && !linePoisoned s line then
    s.emit (.hjLine line (lineBytes (s.line line))) else s)

/-! ## Resync -/

/-- RESYNC_LINE_RX (R537). -/
def execResyncLineRx (line : Nat) (bytes : List Byte) (s : State) : Outcome State Fault Refusal := done (applyRecord s (.line line bytes))

/-- Send the dirty lines of a pass (R537). -/
def sendDirty (s : State) : State :=
  let l := s.pair.dirty
  let s := s.putPair { s.pair with dirty := [], syncLines := s.pair.syncLines + l.length }
  let s := (s.set R.SYNC_STAT_STATE 3).set R.SYNC_STAT_LEFT l.length
  foldState (fun (t : State) n => sendRecord t (.line n (lineBytes (t.line n)))) s l

/-- RESYNC_PASS_END (R537): at the sender every line of the pass is acknowledged, `misread` are the lines that both reads
gave in the place of others (R502); at the receiver `more` is whether dirty lines follow. -/
def execResyncPassEnd (more : Bool) (misread : List (Nat × Nat)) (s : State) : Outcome State Fault Refusal :=
  if !running s || !linkUp s then done s
  else if resyncing s then
    let s := foldState (fun (t : State) k => tileFailed t k 2) s (tilesMisread s misread)
    done (if s.pair.dirty.isEmpty then resyncDone s roleActive else sendDirty s)
  else if s.get R.SYNC_STAT_STATE = 2 ∧ more = false then done (resyncDone s roleStandby)
  else done s

/-! ## PAIR_CMD -/

/-- CMD_RES of PAIR_CMD. -/
def pairResult (s : State) (r : Nat) : State := s.set R.PAIR_STATUS_CMD_RES r

/-- PAIR_CMD reaches the block: the device runs, and the part has the link (R75, R544). -/
def pairCommand (s : State) : Bool := openTo s .host && hjPresent s.part

/-- PAIR_PLANNED_SWITCHOVER, OP 1 (R539, R541, R567). -/
def execPairPlannedSwitchover (s : State) : Outcome State Fault Refusal :=
  if !pairCommand s then done s
  else
    let handover := decide (updState s = updHandover) || decide (updState s = updFallback)
    let r := if switchResult s = 1 && handover then 4 else switchResult s
    done (if r = 1 then startPlanned (pairResult s 1) 2 0 else pairResult s r)

/-- PAIR_RESTART_RESYNC, OP 2 (R538). -/
def execPairRestartResync (s : State) : Outcome State Fault Refusal :=
  if !pairCommand s then done s
  else if !s.bit R.PAIR_STATUS_CLAIM_OUT then done (pairResult s 2)
  else if s.pair.switchover.isSome then done (pairResult s 4)
  else if resyncing s || (linkUp s && !s.pair.controlOnly && !s.pair.peerHold && decide (s.get R.HJ_STATUS_PEER_ROLE = roleSpare)) then
    done (startResync (pairResult s 1))
  else done (pairResult s 3)

/-- PAIR_HOLD, OP 3 (R542). -/
def execPairHold (s : State) : Outcome State Fault Refusal :=
  if !pairCommand s then done s
  else if s.bit R.PAIR_STATUS_CLAIM_OUT || !([roleStandby, roleSpare].contains (s.get R.PAIR_STATUS_ROLE)) then done (pairResult s 2)
  else
    let s := clearSwitchover ((dropSync (pairResult s 1)).set R.PAIR_STATUS_HOLD 1)
    done (takeRole s roleSpare 10)

/-- PAIR_RESUME, OP 4 (R542). -/
def execPairResume (s : State) : Outcome State Fault Refusal :=
  if !pairCommand s then done s
  else if s.bit R.PAIR_STATUS_CLAIM_OUT || !([roleStandby, roleSpare].contains (s.get R.PAIR_STATUS_ROLE)) then done (pairResult s 2)
  else done ((pairResult s 1).set R.PAIR_STATUS_HOLD 0)

/-! ## The planned switchover, outgoing side -/

/-- SWITCHOVER_BOUNDARY (Table 19-6 step 1): boundary B has come. -/
def execSwitchoverBoundary (s : State) : Outcome State Fault Refusal :=
  match s.pair.switchover with
  | none => done s
  | some w =>
    if running s && w.outgoing && decide (w.phase = .waitBoundary) && (!s.bit R.PSM_STATUS_RUN || seqGe 40 s.asnNat w.boundary) then
      let w := { w with phase := .handover, started := s.now, firstBlock := firstBlock s }
      let s := postEvent 0x1102 [(0, 1, 0), (1, 1, w.cause)] (s.putPair { s.pair with switchover := some w })
      done (sendControl s (.handover w.boundary))
    else done s

/-- The TC0 egress queues are empty. -/
def egressDrained (s : State) : Bool := [0, 1].all fun e => (egressOf s e 0).isEmpty

/-- HANDOVER_ACK (Table 19-6 step 2): the handover is acknowledged and the TC0 egress queues are empty, so the claim goes; until
they are, ingress towards the mesh stands still. -/
def execHandoverAck (s : State) : Outcome State Fault Refusal :=
  match s.pair.switchover with
  | none => done s
  | some w =>
    if !running s || !w.outgoing || !(decide (w.phase = .handover) || decide (w.phase = .stopped)) then done s
    else if egressDrained s then
      let s := s.putPair { s.pair with switchover := some { w with phase := .released, released := s.now } }
      done (dropLower (releaseClaim s))
    else done (s.putPair { s.pair with switchover := some { w with phase := .stopped } })

/-- SWITCHOVER_REWRITE_DONE (Table 19-6 step 6). -/
def execSwitchoverRewriteDone (s : State) : Outcome State Fault Refusal :=
  match s.pair.switchover with
  | none => done s
  | some w =>
    if running s && w.outgoing && decide (w.phase = .rewrite) then
      let s := switchDone (rewriteCounters s) w (switchTime s w)
      done (settle (setRole s roleStandby w.cause))
    else done s

/-- SWITCHOVER_RECLAIM_TIMER (R541): 1 ms after the release no claim has followed. -/
def execSwitchoverReclaimTimer (s : State) : Outcome State Fault Refusal :=
  match s.pair.switchover with
  | none => done s
  | some w =>
    if running s && w.outgoing && decide (w.phase = .released) && !s.bit R.PAIR_STATUS_CLAIM_IN then
      let s := s.reach (w.released + 1000000)
      done (s.putPair { s.pair with switchover := some { w with phase := .reclaim } })
    else done s

end Sys2Proof.Machine
end

