-- ==== Sys2Proof/Machine/Power.lean ====
section
/-!
DEFINITION. The rows of performance levels and sleep states (chapter 21).
-/

namespace Sys2Proof.Machine

open Host (Outcome)

/-! ## Performance levels -/

/-- PWR_LEVEL_WRITE (R570, R573): a change starts on a running device that is not throttled. -/
def execPwrLevelWrite (q : Requester) (v : Nat) (s : State) : Outcome State Fault Refusal :=
  if !powered s || decide (q ≠ Requester.host ∧ q ≠ Requester.control) || decide (v % 4 = 3) then done s
  else
    let s := s.set R.PWR_LEVEL_TARGET (v % 4)
    done (if running s then startChange s (wantedLevel s) else s)

/-- PL_CLOCK_SWITCH_TIMER (Table 21-2): 25 µs after PWR_VSEL rose. -/
def execPlClockSwitchTimer (s : State) : Outcome State Fault Refusal :=
  match s.pwr.change with
  | none => done s
  | some c =>
    if c.switched then done s
    else
      let s := s.reach (c.started + 25000)
      done (s.putPwr { s.pwr with change := some { c with switched := true }, clockLevel := c.level })

/-- PL_CHANGE_DONE (R571, R573): the level is in force, and a newer TARGET starts a further change. -/
def execPlChangeDone (s : State) : Outcome State Fault Refusal :=
  match s.pwr.change with
  | none => done s
  | some c =>
    if !c.switched then done s
    else
      let s := s.putPwr { s.pwr with change := none }
      let s := ((s.set R.PWR_STATUS_CUR c.level).set R.PWR_STATUS_CHANGING 0).bumpWrap R.PWR_CNT_PL_CHANGES
      let s := postEvent 0x1301 [(0, 1, c.level), (1, 1, c.from_), (4, 4, (s.now - c.started) / 1000)] s
      done (startChange s (wantedLevel s))

/-- THERMAL_WARN with a level. -/
def thermalWarn (s : State) (level : Nat) : State :=
  let tj := s.getI R.PWR_TEMP_TJ
  postEvent 0x1304 [(0, 1, level), (2, 2, sfield 2 (realDiv 50 tj 4))] s

/-- The device is throttled to PL0 (R574). -/
def throttle (s : State) : State :=
  let s := thermalWarn ((s.set R.PWR_STATUS_THROTTLED 1).bump R.PWR_CNT_THROTTLE) 2
  startChange s 0

/-- TEMP_SAMPLE (R574): the junction temperature, 0.25 °C. -/
def execTempSample (tj : Int) (s : State) : Outcome State Fault Refusal :=
  if !powered s then done s
  else
    let s := s.setI R.PWR_TEMP_TJ tj
    let tj := s.getI R.PWR_TEMP_TJ
    let s := if s.getI R.PWR_TEMP_MAX < tj then s.setI R.PWR_TEMP_MAX tj else s
    let warn : Int := 4 * s.get R.PWR_CFG21_WARN
    let hot := decide (warn < tj)
    let s := if hot && !s.pwr.warned then thermalWarn s 1 else s
    let s := s.putPwr { s.pwr with warned := hot }
    let s := if decide ((4 * s.get R.PWR_CFG21_CRIT : Nat) < tj) && !s.bit R.PWR_STATUS_THROTTLED then throttle s else s
    let cool := if s.bit R.PWR_STATUS_THROTTLED && decide (tj < warn) then some (s.pwr.coolSince.getD s.now) else none
    done (s.putPwr { s.pwr with coolSince := cool })

/-- THROTTLE_RELEASE_TIMER (R574): 10 s below WARN. -/
def execThrottleReleaseTimer (s : State) : Outcome State Fault Refusal :=
  match s.pwr.coolSince with
  | none => done s
  | some t =>
    if s.bit R.PWR_STATUS_THROTTLED then
      let s := s.reach (t + 10 * secondNs)
      let s := (s.putPwr { s.pwr with coolSince := none }).set R.PWR_STATUS_THROTTLED 0
      done (thermalWarn (startChange s (wantedLevel s)) 0)
    else done s

/-! ## Pale -/

/-- PALE_ENTER (R575): the application core executes WFI. -/
def execPaleEnter (s : State) : Outcome State Fault Refusal :=
  if running s && s.bit R.PWR_CFG21_PALE_EN && !s.pwr.pale && decide (s.get R.APP_STAT_STATE = appRuns) && s.app.request.isNone &&
      !s.app.debugHalt then
    let s := s.putApp { s.app with waiting := true }
    done (setLfMode (s.putPwr { s.pwr with pale := true }) true)
  else done s

/-- PALE_EXIT (R575): the AIC request has risen, or a debugger asks; `periods` are the clk_tmr periods since the last LFCLK tick,
which the timers are credited with (R432). -/
def execPaleExit (debugger : Bool) (periods : Nat) (s : State) : Outcome State Fault Refusal :=
  if s.pwr.pale && (s.app.request.isSome || debugger) then
    let s := (s.putApp { s.app with waiting := false }).putPwr { s.pwr with pale := false }
    done (if lfMode s then s else endLfMode s periods)
  else done s

/-! ## Sleep -/

/-- PWR_CMD_SEPIA (R578). -/
def execPwrCmdSepia (q : Requester) (key : Nat) (s : State) : Outcome State Fault Refusal :=
  done (if running s then sleepCommand s q key false else s)

/-- PWR_CMD_UMBER (R578, R585). -/
def execPwrCmdUmber (q : Requester) (key : Nat) (s : State) : Outcome State Fault Refusal :=
  done (if running s then sleepCommand s q key true else s)

/-- SEPIA_ENTRY (R579, Table 21-5): at boundary B. -/
def execSepiaEntry (s : State) : Outcome State Fault Refusal :=
  match s.pwr.request with
  | none => done s
  | some r => if running s && !r.umber then done (enterSepia (s.advanceTo r.boundary)) else done s

/-- UMBER_ENTRY (R585): at boundary B. -/
def execUmberEntry (s : State) : Outcome State Fault Refusal :=
  match s.pwr.request with
  | none => done s
  | some r => if running s && r.umber then done (enterUmber (s.advanceTo r.boundary)) else done s

/-- The device sleeps. -/
def asleep (s : State) : Bool := decide (s.boot.phase = .sepia) || decide (s.boot.phase = .umber)

/-- A wake source is latched (R580, R584): in sleep the exit starts; before the end of entry it waits for it; a further one is
absorbed. -/
def latchWake (s : State) (src : Nat) : State :=
  if !wakeEnabled s src || s.pwr.wake.isSome then s
  else if asleep s then startExit (s.putPwr { s.pwr with wake := some (src, s.now) })
  else if running s && s.pwr.request.isSome then s.putPwr { s.pwr with wake := some (src, s.now), duringEntry := true }
  else s

/-- WAKE_SOURCE (R580, R584): sources 1 to 6 of Table 21-6. -/
def execWakeSource (src : Nat) (s : State) : Outcome State Fault Refusal :=
  done (if 1 ≤ src ∧ src ≤ 6 then latchWake s src else s)

/-- SLEEP_TIMER_EXPIRY (R580): PWR_WAKE_TMR seconds after entry. -/
def execSleepTimerExpiry (s : State) : Outcome State Fault Refusal :=
  if asleep s && wakeEnabled s 0 then
    done (latchWake (s.reach (s.pwr.asleepAt + s.get R.PWR_WAKE_TMR_SECONDS * secondNs)) 0)
  else done s

/-- SEPIA_EXIT_READY (R581, R583): `crcOk` is whether the save image passes its CRC. -/
def execSepiaExitReady (crcOk : Bool) (s : State) : Outcome State Fault Refusal :=
  if s.boot.phase = .pllWait ∧ s.boot.cause = .sepiaExit ∧ s.tb.running = true then
    done (if crcOk then sepiaReady s else restoreFails s)
  else done s

end Sys2Proof.Machine
end

