-- ==== Sys2Proof/Machine/Psm.lean ====
section
/-!
DEFINITION. The rows of the slot engine and of received frames (chapters 08, 10 and 17).
-/

namespace Sys2Proof.Machine

open Host (Outcome)

/-- Slotframes run (R73 step 9, R240): the start-up is past step 8, PSM_CTRL.EN is set and the timebase runs. -/
def slotframesRun (s : State) : Bool :=
  running s && decide (s.get R.BOOT_STATUS_PHASE = 5) && s.bit R.PSM_CTRL_EN && s.tb.running

/-- SLOT_BOUNDARY (R240, R413): the slot in progress ends, the ASN rises, and the next slot is planned. -/
def execSlotBoundary (s : State) : Outcome State Fault Refusal :=
  if slotframesRun s then
    let s := boundaryDue (countBoundary (endSlot (countIdle s)))
    let s := assignEngines (planExchanges (swapMicrocode (settle s)))
    done (autoRepair (issueSlot (slotOnPaths s)))
  else done s

/-- RECEIVED_FRAME (R259 to R263): the packet core takes the report at the head of a cluster's receive queue. A report of another row
(STALE, a tracked beacon, a join request) waits for it. `written` is whether the host's buffer took the data of a management frame. -/
def execReceivedFrame (cluster : Nat) (written : Bool) (s : State) : Outcome State Fault Refusal :=
  match headReport s cluster with
  | none => done s
  | some i =>
    if !running s then done s
    else
      match rxKind s i with
      | .poison => done (consumeTag (dropReport s cluster) i.tag)
      | .node =>
        let f := rxFrame s i
        let r := filterFrame (dropReport s cluster) f
        match r.2 with
        | none => done r.1
        | some n => done (takeFrame r.1 n f written)
      | .stale | .beacon | .join => done s

/-- REPLY_WINDOW_END (R266). -/
def execReplyWindowEnd (node : Nat) (s : State) : Outcome State Fault Refusal :=
  done (if running s then replyWindowEnds s node else s)

/-- NODE_ACK_WINDOW_END (R256). -/
def execNodeAckWindowEnd (node : Nat) (s : State) : Outcome State Fault Refusal :=
  done (if running s then nodeAckMissed s node else s)

/-- The acknowledgement of a join request (R247, R253, R272): unsecured, in the mode and on the channel of the join slot. -/
def ackJoin (s : State) (k asn path ant dsn eui ended : Nat) : State :=
  match hopChannel s (s.get R.BEACON_CFG_MAP) asn (s.get (R.JOIN_SLOT_CH_OFS k)) with
  | none => s
  | some freq =>
    let (s, h) := storeFrame s (newFrame (.joinAck dsn eui) none 0xFFFF 1 17 none)
    let mode := s.get (R.JOIN_SLOT_MODE k)
    let start := ended + turnaroundUs mode * 1000
    planInterval s [workItem s path h mode freq start (start + 100000) (requestedIndex 0xFFFF h) ant]

/-- The enabled join slot that an ASN falls into. -/
def joinSlotAt (s : State) (asn : Nat) : Option Nat :=
  four.find? fun k => s.bit (R.JOIN_SLOT_EN k) && decide (s.get (R.JOIN_SLOT_SLOT k) = asn % max 1 (sfLen s))

/-- What the packet core does with a join request (R240, R259, R272, R478): a device that takes joins acknowledges one that came in a join
slot, and the security firmware takes it. A lookup that finds no index passes the request on (Table 8-5). One outside a join slot, and one
that a device takes that does not claim or runs no slotframes, ends at the filter (DESIGN CHOICE, log entry 145). -/
def takeJoin (s : State) (f : RxFrame) (eui : Nat) (ie : List Byte) : State :=
  if !addressedHere s f then s.bump R.PSM_CNT3_FILT_PAN
  else if nodesClosed s || f.expected.isSome then s.bump R.PSM_CNT3_FILT_NODE
  else
    match joinSlotAt s f.asn with
    | none => s.bump R.PSM_CNT3_FILT_NODE
    | some k =>
      if !claims s || !s.bit R.PSM_CTRL_EN || !s.bit R.PSM_STATUS_RUN then s
      else joinRequest (ackJoin s k f.asn f.path f.ant f.mac.seq eui f.ended) eui (s.get (R.JOIN_SLOT_MODE k)) f.path f.ant ie

/-- JOIN_REQUEST (R259, R272, R478): the packet core takes the join request at the head of a cluster's receive queue (R607). -/
def execJoinRequest (cluster : Nat) (s : State) : Outcome State Fault Refusal :=
  match headFrame s cluster .join with
  | none => done s
  | some f =>
    match f.extSource, joinContent f with
    | some eui, some ie => if running s then done (takeJoin (dropReport s cluster) f eui ie) else done s
    | _, _ => done s

end Sys2Proof.Machine
end

