-- ==== Sys2Proof/Machine/Radio.lean ====
section
/-!
DEFINITION. Radio paths and the converter port (chapter 04): the meanings of the synthesizer, transmit-interval and
JESD204C rows.
-/

namespace Sys2Proof.Machine

open Host (Outcome)

/-- A transceiver path whose synthesizer runs. -/
def synthRuns (s : State) (n : Nat) : Bool := running s && decide (n < 16) && pathEnabled s n

/-- SYNTH_LOCK_ACQUIRED (R119, R120, R122): lock; an out-of-service path returns to service; a waiting ramp starts and
blanking ends. -/
def execSynthLockAcquired (path : Nat) (s : State) : Outcome State Fault Refusal :=
  if !synthRuns s path || s.bit (R.SYNTH_STATUS_LOCK path) then done s
  else
    let out := s.bit (R.SYNTH_STATUS_OOS path)
    let since := (s.path path).oosSince
    let s := (s.set (R.SYNTH_STATUS_LOCK path) 1).set (R.SYNTH_STATUS_RETUNE path) 0
    let s := (s.set (R.SYNTH_STATUS_OOS path) 0).setPath path { s.path path with restarted := false }
    let s := if out then
        postEvent 0x0204 [(0, 1, path), (4, 4, windowCentre s path), (8, 4, (s.now - since) / 1000000)] s
      else s
    done (unblankPath (startWaiting s path) path)

/-- SYNTH_LOCK_LOSS (R121): a transmit interval on air is aborted; frames in progress are discarded. -/
def execSynthLockLoss (path : Nat) (s : State) : Outcome State Fault Refusal :=
  if !synthRuns s path || !s.bit (R.SYNTH_STATUS_LOCK path) then done s
  else
    let s := (s.set (R.SYNTH_STATUS_LOCK path) 0).bump (R.CNT_SYNTH_UNLOCK path)
    let s := match (s.path path).interval with
      | some i => if i.ramped then abortInterval s path 0 else s
      | none => s
    done (blankPath s path (R.CNT_RX_RX_UNLOCK path))

/-- LOCK_TIMEOUT (R122): the first timeout of a retune restarts acquisition; the second puts the path out of service.
The timeout of a retry leaves the path out of service. -/
def execLockTimeout (path : Nat) (s : State) : Outcome State Fault Refusal :=
  if !synthRuns s path || s.bit (R.SYNTH_STATUS_LOCK path) || !s.bit (R.SYNTH_STATUS_RETUNE path) then done s
  else if !(s.path path).restarted then done (s.setPath path { s.path path with restarted := true })
  else
    let s := s.set (R.SYNTH_STATUS_RETUNE path) 0
    if s.bit (R.SYNTH_STATUS_OOS path) then done s
    else
      let s := (s.set (R.SYNTH_STATUS_OOS path) 1).setPath path { s.path path with oosSince := s.now }
      done (postEvent 0x0203 [(0, 1, path), (4, 4, windowCentre s path)] (s.bump (R.CNT_SYNTH_LOCK_FAIL path)))

/-- OOS_RETUNE_RETRY (R122): every 100 ms the retune of an out-of-service path is tried again. -/
def execOosRetuneRetry (path : Nat) (s : State) : Outcome State Fault Refusal :=
  if synthRuns s path && s.bit (R.SYNTH_STATUS_OOS path) then done (retune s path (windowCentre s path)) else done s

/-- The loaded engines of a path that share the interval, the antenna and the analog entry of the earliest frame (R125, R132), at most
MAX_TE. -/
def intervalEngines (s : State) (n : Nat) : List Nat :=
  let l := (clusterTes (pathCluster n)).filter fun e =>
    decide (s.get (R.TE_STATE_STATE e) = teLoaded) && ((s.te e).item.any fun w => decide (w.path = n))
  let first := l.foldl (fun (best : Option WorkItem) e =>
    match best, (s.te e).item with
    | none, w => w
    | some b, some w => if w.planned < b.planned then some w else some b
    | some b, none => some b) none
  match first with
  | none => []
  | some b =>
    (l.filter fun e => (s.te e).item.any fun w => decide (w.first = b.first) && decide (w.antenna = b.antenna) && decide (w.analog = b.analog)).take
      (if n < 16 then s.get (R.PATH_LIMITS_MAX_TE n) else 8)

/-- A further transmit interval of the path is planned for the slot (R129). -/
def intervalAhead (s : State) (n : Nat) : Bool :=
  (s.psm.plan.any fun w => decide (w.path = n)) || !(intervalEngines s n).isEmpty

/-- A unit that yielded goes back to waiting after the slot's last interval of the path (R129, R168). -/
def resumeSlice (s : State) (n : Nat) : State := if (s.path n).yielded && !intervalAhead s n then sliceWaits s n else s

/-- TX_INTERVAL_START (R123 to R128): step 1 of Table 4-3, and step 2 where lock is held and every engine is ready;
otherwise the ramp waits. With the transmit gate closed the planned interval is withdrawn (R528). -/
def execTxIntervalStart (path : Nat) (s : State) : Outcome State Fault Refusal :=
  let es := intervalEngines s path
  let items := es.filterMap fun e => (s.te e).item
  let busy := (s.path path).interval.any fun i => !i.frames.isEmpty
  match items with
  | [] => done s
  | w :: _ =>
    if busy || !pathTxEnabled s path then done s
    else if !gateOpen s then done (foldState (fun t e => teGiveBack t e 1) s es)
    else
      let start := rampStart s path items
      let s := s.advanceTo start
      let s := blankPath (calPreempt s path) path (R.CNT_RX_RX_BLINDED path)
      let epoch := if path < 16 then s.get (R.CAL_EPOCH_TX_EPOCH path) else 0
      let s := foldState (fun t e => (t.setTe e { t.te e with epoch := epoch }).set (R.TE_STATE_STATE e) teArmed) s es
      let frames := es.filterMap fun e => (s.te e).item.map fun x => (e, x.handle)
      let i : TxInterval := { frames := frames, antenna := w.antenna, analog := w.analog, ramped := false, late := 0, observed := false }
      let lna := decide (path < 16) && s.bit (R.PWR_ENTRY_LNA_EN path w.analog)
      let bias := if path < 16 then s.get (R.PWR_ENTRY_BIAS path w.analog) else 0
      let s := s.setPath path { s.path path with interval := some i, lna := lna, ant := w.antenna, bias := bias, tone := none }
      done (startWaiting s path)

/-- TX_LATEST_START_EXPIRY (R128): without lock or a ready engine the interval is deferred; blanking ends with lock. -/
def execTxLatestStartExpiry (path : Nat) (s : State) : Outcome State Fault Refusal :=
  match (s.path path).interval with
  | none => done s
  | some i =>
    if i.ramped || i.frames.isEmpty then done s
    else
      let cause := if path < 16 then (if lockHeld s path then 1 else 0) else (if lockHeld s path then 1 else 2)
      let s := bumpTrx (dropInterval s path 1) path (R.CNT_TX_TX_DEFER path)
      let s := postEvent 0x0201 [(0, 1, path), (1, 1, cause), (2, 1, i.frames.length), (4, 5, s.asnNat)] s
      done (resumeSlice (unblankPath s path) path)

/-- BLANKING_END (steps 6 and 7 of Table 4-3, R185): the front end returns to receive and the engines to preamble
search; a calibration that yielded resumes after the slot's last interval of the path (R129). -/
def execBlankingEnd (path : Nat) (s : State) : Outcome State Fault Refusal :=
  match (s.path path).interval with
  | none => done s
  | some i =>
    if !i.frames.isEmpty then done s
    else
      let s := unblankPath (frontEndReceive (s.setPath path { s.path path with interval := none }) path) path
      done (viewTone (resumeSlice s path) path)

/-- CAL_YIELD_REQUEST (R129, R168, R170): a sliced unit that runs on the path yields at its next symbol boundary, and is repeated; an
exclusive run is preempted. -/
def execCalYieldRequest (path : Nat) (s : State) : Outcome State Fault Refusal :=
  if synthRuns s path && s.bit (R.SYNTH_STATUS_CAL path) then
    match (s.path path).request with
    | none => done s
    | some r =>
      if r.exclusive then done (calPreempt s path)
      else
        let s := s.setPath path { s.path path with yielded := true, request := some { r with running := false } }
        done ((s.set (R.SYNTH_STATUS_CAL path) 0).bump (R.CNT_CAL_YIELD path))
  else done s

/-! ## The converter port -/

/-- The converter port runs: present, and a direction enabled. -/
def jesdRuns (s : State) : Bool := running s && jesdPresent s.part && (s.bit R.JESD_CTRL_RX_EN || s.bit R.JESD_CTRL_TX_EN)

/-- The physical lanes of a direction in use: logical lanes 0 to L − 1 under JESD_LANES (R137). -/
def jesdMask (s : State) (dir : Nat) : Nat :=
  let l := 2 ^ min 2 (if dir = 0 then s.get R.JESD_RX_LINK_L else s.get R.JESD_TX_LINK_L)
  let m := if dir = 0 then s.get R.JESD_LANES_RX_MAP else s.get R.JESD_LANES_TX_MAP
  (List.range l).foldl (fun a j => a ||| 2 ^ natBits m (2 * j) 2) 0

/-- DEVCLK_CHECK (R138): the frequency measured against REFCLK over 1 ms, Hz. -/
def execDevclkCheck (hz : Nat) (s : State) : Outcome State Fault Refusal :=
  let f := s.get R.JESD_RATE_DEVCLK_KHZ * 1000
  if !jesdRuns s then done s
  else if 2 * f < ((hz : Int) - f).natAbs * 1000000 then
    let s := jesdDown (jesdDown s 0 (jesdMask s 0) 2) 1 (jesdMask s 1) 2
    done (postEvent 0x0208 [(0, 4, sfield 4 (realDiv 4 (((hz : Int) - f) * 100000000) f))] (s.set R.JESD_STATUS_DEVCLK_ERR 1))
  else done (s.set R.JESD_STATUS_DEVCLK_ERR 0)

/-- JESD_ARM (R139): the next SYSREF edge aligns the port in one-shot mode. -/
def execJesdArm (s : State) : Outcome State Fault Refusal :=
  if running s && jesdPresent s.part then done (s.putJesd { s.jesd with armed := true }) else done s

/-- SYSREF_EDGE (R139): an edge at a position of the extended multiblock, in DEVCLK cycles. -/
def execSysrefEdge (position : Int) (s : State) : Outcome State Fault Refusal :=
  if !jesdRuns s then done s
  else if s.bit R.JESD_CTRL_SYSREF_PER then
    match s.jesd.phase with
    | none => done ((s.putJesd { s.jesd with phase := some position }).set R.JESD_STATUS_SYSREF_SEEN 1)
    | some p =>
      if 1 < (position - p).natAbs then
        let again := s.bit R.JESD_CTRL_REALIGN
        let s := if again then s.putJesd { s.jesd with phase := some position } else s
        done (postEvent 0x0207 [(0, 4, sfield 4 (position - p)), (4, 1, boolNat again)] s)
      else done s
  else if s.jesd.armed then
    done ((s.putJesd { s.jesd with armed := false, phase := some position }).set R.JESD_STATUS_SYSREF_SEEN 1)
  else done s

/-- JESD_MULTIBLOCK_RX (R140): a receive multiblock of a physical lane, with its CRC-12 and its sync header. -/
def execJesdMultiblockRx (lane : Nat) (crcOk syncOk : Bool) (s : State) : Outcome State Fault Refusal :=
  if !s.bit R.JESD_STATUS_RX_UP || !natBit (jesdMask s 0) lane then done s
  else
    let run := if crcOk then 0 else (assocGet s.jesd.crcRun lane).getD 0 + 1
    let s := if crcOk then s else s.bump R.JESD_ERR_CRC_ERR
    let s := s.putJesd { s.jesd with crcRun := assocSet s.jesd.crcRun lane run }
    if run < 8 && syncOk then done s
    else
      let s := jesdDown s 0 (2 ^ lane) (if 8 ≤ run then 0 else 1)
      done (s.putJesd { s.jesd with crcRun := [] })

/-- The first receive epoch of the streams when the port is up (R165). -/
def firstEpochs (s : State) : State :=
  foldState (fun t i => if pathEnabled t (16 + i) && decide (t.get (R.XS_CAL_EPOCH_EPOCH i) = 0) then issueSet t (16 + i) (List.replicate 38 0) else t)
    s (List.range 16)

/-- JESD_LINK_ALIGNED (R140, R141): a direction (0 receive, 1 transmit) comes up; blanking ends, or waiting ramps
start. -/
def execJesdLinkAligned (dir : Nat) (s : State) : Outcome State Fault Refusal :=
  if !jesdRuns s || s.bit R.JESD_STATUS_DEVCLK_ERR then done s
  else if dir = 0 ∧ s.bit R.JESD_CTRL_RX_EN = true ∧ s.bit R.JESD_STATUS_RX_UP = false then
    let s := postEvent 0x0206 [(0, 1, 0), (1, 1, 2 ^ s.get R.JESD_RX_LINK_L)] (s.set R.JESD_STATUS_RX_UP 1)
    done (foldState unblankPath (firstEpochs s) xsPaths)
  else if dir = 1 ∧ s.bit R.JESD_CTRL_TX_EN = true ∧ s.bit R.JESD_STATUS_TX_UP = false then
    let s := postEvent 0x0206 [(0, 1, 1), (1, 1, 2 ^ s.get R.JESD_TX_LINK_L)] (s.set R.JESD_STATUS_TX_UP 1)
    done (foldState startWaiting s xsPaths)
  else done s

end Sys2Proof.Machine
end

