-- ==== Sys2Proof/Machine/AccessOps.lean ====
section
/-!
DEFINITION. Register accesses: what a requester reaches (R4, R7, R35, R75), what a register reads as (Table 0-2), and
what a write does by its access type.
-/

namespace Sys2Proof.Machine

/-! ## What a requester reaches -/

/-- The index of an offset in an array of `n` elements. -/
def indexIn (off base stride n : Nat) : Option Nat :=
  if base ≤ off ∧ off < base + stride * n ∧ (off - base) % stride = 0 then some ((off - base) / stride) else none

/-- The unit of a register is present on a part (R4, R544). -/
def unitAt (p : Part) (off : Nat) : Bool :=
  if off < 0x01000000 then true
  else if off < 0x01100000 then pathPresent p ((off - 0x01000000) / 0x10000)
  else if off < 0x02000000 then jesdPresent p
  else if off < 0x02200000 then clusterPresent p (ceCluster ((off - 0x02000000) / 0x1000))
  else if off < 0x02300000 then clusterPresent p (teCluster ((off - 0x02200000) / 0x1000))
  else if off < 0x03000000 then clusterPresent p ((off - 0x02300000) / 0x1000)
  else if 0x03300400 ≤ off ∧ off < 0x03300600 then ethPresent p ((off - 0x03300400) / 0x100)
  else if 0x03400000 ≤ off ∧ off < 0x03400800 then queuePresent p ((off - 0x03400000) / 0x40)
  else if 0x07000000 ≤ off ∧ off < 0x08000000 then
    hjPresent p || decide (off = R.PAIR_CFG) || decide (off = R.PAIR_STATUS) || decide (off = R.PAIR_KEEP)
  else if 0x09000000 ≤ off ∧ off < 0x09002000 then ethPresent p ((off - 0x09000000) / 0x1000)
  else true

/-- The block of an offset answers accesses in the present phase (R75). -/
def blockOpen (s : State) (q : Requester) (off : Nat) : Bool :=
  if off < 0x00100000 then true
  else if 0x0B000000 ≤ off ∧ off < 0x0C000000 then true
  else if running s then true
  else if imageWaiting s && decide (q = Requester.host) then true
  else decide (off < 0x01000000) && decide (s.get R.BOOT_STATUS_PHASE = 3)

/-- The key under which the register file holds a register for a requester. -/
def regKey (r : RegDesc) (q : Requester) (off : Nat) : Nat := if r.banked then off + q.bank * bankSize else off

/-! ## Windows of the register space -/

/-- The MSI-X table and its PBA (Table 13-1): the word that an offset names. -/
def msixIndex (off : Nat) : Option Nat := indexIn off 0x00180000 4 256
def pbaIndex (off : Nat) : Option Nat := indexIn off 0x00181000 4 2

/-- The byte of the image window at an offset (Table 20-6). -/
def windowIndex (off : Nat) : Option Nat := if 0x0B800000 ≤ off ∧ off < 0x0C000000 then some (off - 0x0B800000) else none

/-- Write a word of the MSI-X table; a vector that becomes unmasked sends its pending message (R376). -/
def writeMsix (s : State) (k v : Nat) : State :=
  let w := if k % 4 = 3 then v % 2 else v
  let t := s.putPcie { s.pcie with msix := cellsWrite msixCell s.pcie.msix k (BitVec.ofNat 32 w) }
  if k % 4 = 3 then flushVector t (k / 4) else t

/-! ## What a register reads as -/

/-- The TREE_DIST word of district d (Table 17-10). -/
def treeDist (s : State) (d : Nat) : Nat :=
  let of (i : Option Nat) : EpochSlot := match i with | none => EpochSlot.empty | some k => s.tree.slot k
  let a := of (activeSlot s)
  let p := of (pendingSlot s)
  boolNat (districtRevoked a d) * 2 ^ 31 + boolNat (districtRevoked p d) * 2 ^ 30 + districtGen p d * 16 + districtGen a d

/-- SEC_OWNER (Table 17-10). -/
def ownerWord (s : State) : Nat :=
  let bits (f : Option (BitVec 256) × Bool → Bool) : Nat :=
    (List.range 4).foldl (fun a i => a + boolNat (f (s.otp.owners.getD i (none, false))) * 2 ^ i) 0
  bits (fun o => o.2) * 16 + bits (fun o => o.1.isSome)

/-- Probation left, in seconds: a second that has begun still counts (UPD_LEFT). -/
def probationLeft (s : State) : Nat :=
  match s.upd.probation with | none => 0 | some p => (p.ends - s.now + secondNs - 1) / secondNs

/-- WDOG_STAT.COUNT: milliseconds since the last kick, while the watchdog can count (R440). -/
def wdogView (s : State) : Nat :=
  if s.bit R.WDOG_CFG_EN && (decide (s.get R.APP_STAT_STATE = appRuns) || decide (s.get R.APP_STAT_STATE = appDouble)) then
    min 65535 (wdogCount s)
  else 0

/-- The configuration sequence in force (R557). -/
def cfgSequence (s : State) : Nat := if s.boot.committed then configSequence (inForce s compConfig) else 0

/-- A register word with one field replaced. -/
def wordWith (s : State) (f : Fld) (v : Nat) : Nat := (setBits (s.word f.key) f.lo f.width v).toNat

/-- Registers whose value the block computes from other state. -/
def liveValue (s : State) (off : Nat) : Option Nat :=
  if off = R.DEV_ID then some (devId s.part)
  else if off = R.CAP_UNITS then some (capUnits s.part)
  else if off = R.CAP_SIZES then some (capSizes s.part)
  else if off = R.ASN_LO then some (s.asnNat % 2 ^ 32)
  else if off = R.ASN_HI then some (s.asnNat / 2 ^ 32)
  else if off = R.TB_NS_LO then some (s.tbNs % 2 ^ 32)
  else if off = R.TB_NS_HI then some (s.tbNs / 2 ^ 32)
  else if off = R.TB_FRAC then some s.tb.frac.toNat
  else if off = R.UPD_LEFT then some (probationLeft s)
  else if off = R.UPD_CFGSEQ_LO then some (cfgSequence s % 2 ^ 32)
  else if off = R.UPD_CFGSEQ_HI then some (cfgSequence s / 2 ^ 32)
  else if off = R.WDOG_STAT then some (wordWith s R.WDOG_STAT_COUNT (wdogView s))
  else if off = R.MI_STATUS then some (wordWith s R.MI_STATUS_PEER_SRC (boolNat (peerSource s)))
  else if off = R.SEC_OWNER then some (ownerWord s)
  else if off = R.SEC_ARB0 then some ((List.range 4).foldl (fun a i => a + s.otp.arb.getD i 0 % 256 * 256 ^ i) 0)
  else if off = R.SEC_ARB1 then some (s.otp.arb.getD 4 0 % 256)
  else match indexIn off (R.CPU_STAT 0) 4 4 with
    | some n => some (wordWith s (R.CPU_STAT_HEARTBEAT n) (heartbeat s n))
    | none => match indexIn off (R.SEC_CERT 0) 4 52 with
      | some i => some (leField s.otp.certificate (4 * i) 4)
      | none => match indexIn off (R.TREE_DIST 0) 4 4096 with
        | some d => some (treeDist s d)
        | none => match msixIndex off with
          | some k => some (msixWord s k).toNat
          | none => match pbaIndex off with
            | some k => some (natBits s.pcie.pba.toNat (32 * k) 32)
            | none => match indexIn off (R.GT_CMP 0) 0x40 32 with
              | some n => some (s.gt n).stagedCmp
              | none => (windowIndex off).map fun a => leAt s.window (a / 4 * 4) 4

/-- What a register reads as for a requester, without the effects of the read: 0 where there is none (R7). -/
def plainValue (s : State) (q : Requester) (off : Nat) : Nat :=
  match liveValue s off with
  | some v => v
  | none => match regAt off with
    | none => 0
    | some r => (s.word (regKey r q off)).toNat

/-- What a register reads as: a read of RTW_DATA gives the value of the window's target, 0 for a register of an absent unit (R4, R102). -/
def regValue (s : State) (q : Requester) (off : Nat) : Nat :=
  if off = R.RTW_DATA 0 then
    let target := 4 * s.get (R.RTW_ADDR_OFFSET q.bank)
    if unitAt s.part target then plainValue s q target else 0
  else plainValue s q off

/-- The RC fields of a register clear to the value they have after reset (Table 0-2). -/
def clearRc (s : State) (key : Nat) (l : List FieldDesc) : State :=
  foldState (fun (t : State) (f : FieldDesc) => if f.access = .rc then t.set ⟨key, f.lo, f.width⟩ f.reset else t) s l

/-- A read of a register has taken place. -/
def afterRead (s : State) (q : Requester) (off : Nat) : State :=
  match regAt off with
  | none => s
  | some r => clearRc s (regKey r q off) r.fields

/-! ## What a write does -/

/-- One field of a written register (Table 0-2). -/
def writeField (s : State) (key v : Nat) (f : FieldDesc) : State :=
  let fld : Fld := ⟨key, f.lo, f.width⟩
  let x := natBits v f.lo f.width
  match f.access with
  | .rw => s.set fld x
  | .rwl => if s.boot.committed then s else s.set fld x
  | .w1c => s.set fld (s.get fld &&& (2 ^ f.width - 1 - x))
  | .w1s => s.set fld (s.get fld ||| x)
  | .ro => s
  | .rc => s
  | .wo => s

/-- A write to a register acts field by field by access type (R10). -/
def plainWrite (s : State) (key v : Nat) (l : List FieldDesc) : State :=
  foldState (fun (t : State) (f : FieldDesc) => writeField t key v f) s l

/-- A write to the offset of a register that has nothing special about it; elsewhere it is ignored (R7, R544). -/
def writePlain (s : State) (q : Requester) (off v : Nat) : State :=
  if off = R.PAIR_CFG && !hjPresent s.part then s
  else match regAt off with
  | none => s
  | some r => plainWrite s (regKey r q off) v r.fields

/-- A write that R6 discards is counted (Table 13-10). -/
def countNarrow (s : State) (q : Requester) : State :=
  match q with
  | .host => s.bump R.HIF_CNT_NARROW_HOST
  | .app => s.bump R.HIF_CNT_NARROW_APP
  | .control => s
  | .security => s

/-! ## Registers with rules of their own and no row -/

/-- A write of GPIO_CFG n: the ball's present level counts under the new IRQ selection where it is a level one (R443). -/
def writeGpioCfg (s : State) (n v : Nat) : State :=
  let src := 32 + n
  let was := aicIsLevel s src
  let s := (s.set (R.GPIO_CFG_TMR n) (natBits v 4 5)).set (R.GPIO_CFG_FUNC n) (natBits v 3 1)
  let s := s.set (R.GPIO_CFG_IRQ n) (natBits v 0 3)
  let level := natBit (s.get R.GPIO_IN_BITS) n
  match s.get (R.GPIO_CFG_IRQ n) with
  | 4 => aicLevel s src level
  | 5 => aicLevel s src (!level)
  | _ => if was then aicLevel s src false else s

/-- A write of AIC_SRC: ignored from the host (R448). -/
def writeAicSrc (s : State) (q : Requester) (n v : Nat) : State :=
  if q = .host then s else aicUpdate (s.set (R.AIC_SRC_PRIO n) (natBits v 0 4))

/-- A write of HQ_BASE or HQ_WB: ignored with BAD_CFG while the queue runs (R372, R381). -/
def writeHqBase (s : State) (q : Requester) (n off v : Nat) : State :=
  if s.bit (R.HQ_CTRL_EN n) then s.set (R.HQ_STAT_BAD_CFG n) 1 else writePlain s q off v

/-- UPD_PROB: a value outside 60 to 86,400 is ignored (Table 20-7). -/
def writeProb (s : State) (v : Nat) : State :=
  let n := natBits v 0 17
  if 60 ≤ n ∧ n ≤ 86400 then s.set R.UPD_PROB_SECONDS n else s

/-- A register that only the owner of the timebase may write (R410). -/
def ownerWrite (s : State) (q : Requester) (act : State → State) : State := if tbOwner s q then act s else notOwner s

/-! ## Reads that answer a snapshot -/

/-- The next read of a high half answers the snapshot taken with its low half, or the live value. -/
def snapAnswer (s : State) (q : Requester) (snap : Option Nat) (live : Nat) (taken : Snapshots) : State :=
  match snap with
  | none => s.answer q live
  | some v => (s.setSnaps q taken).answer q v

/-- A list of pairs without a key. -/
def dropKey (l : List (Nat × Nat)) (k : Nat) : List (Nat × Nat) := l.filter fun e => e.1 ≠ k

/-- Reads of the capture registers of input n (R412, R415). -/
def readTsi (s : State) (q : Requester) (n part : Nat) : State :=
  let x := s.snapsOf q
  let hi := s.get (R.TSI_NS_HI_NS n)
  let fr := s.get (R.TSI_FRAC_FRAC n)
  match part with
  | 0 => (s.setSnaps q { x with tsiHi := assocSet x.tsiHi n hi, tsiFrac := assocSet x.tsiFrac n fr }).answer q (s.get (R.TSI_NS_LO_NS n))
  | 1 => snapAnswer s q (assocGet x.tsiHi n) hi { x with tsiHi := dropKey x.tsiHi n }
  | _ => snapAnswer s q (assocGet x.tsiFrac n) fr { x with tsiFrac := dropKey x.tsiFrac n }

/-- A read of GT_CAP: the low half of a linked pair captures the high one (R430). -/
def readGtCap (s : State) (q : Requester) (n : Nat) : State :=
  let x := s.snapsOf q
  let v := s.get (R.GT_CAP_VALUE n)
  if gtLinked s n then
    (s.setSnaps q { x with gtCapHi := assocSet x.gtCapHi n (s.get (R.GT_CAP_VALUE (n + 1))) }).answer q v
  else if gtIsHigh s n then snapAnswer s q (assocGet x.gtCapHi (n - 1)) v { x with gtCapHi := dropKey x.gtCapHi (n - 1) }
  else s.answer q v

/-- A read of GT_CNT of the high half of a linked pair (R430). -/
def readGtHigh (s : State) (q : Requester) (n : Nat) : State :=
  let x := s.snapsOf q
  snapAnswer s q (assocGet x.gtHi (n - 1)) (s.get (R.GT_CNT_COUNT n)) { x with gtHi := dropKey x.gtHi (n - 1) }

/-- A read-back of AIC_EN word k closes the delivery window of its sources (R451). -/
def closeWindow (s : State) (k : Nat) : State :=
  s.putApp { s.app with lingering := s.app.lingering.filter fun e => e.1 / 32 ≠ k }

end Sys2Proof.Machine
end

