-- ==== Sys2Proof/Machine/Security.lean ====
section
/-!
DEFINITION. The security subsystem's rows (chapter 17).
-/

namespace Sys2Proof.Machine

open Host (Outcome)

/-- KEY_DERIVATION_DONE (R471 to R473): the derivation for the oldest waiting frame completes, its keys fill the cache under the
tag under which it began, and the frame is judged. `written` is as for RECEIVED_FRAME. -/
def execKeyDerivationDone (written : Bool) (s : State) : Outcome State Fault Refusal :=
  match s.sec.deriving_ with
  | [] => done s
  | (t, f) :: rest =>
    let s := s.putSec { s.sec with deriving_ := rest }
    done (judgeFrame (cacheFill s t) t.node t f written)

/-- SEC_ATTEST (R484): SEC_CMD OP 1 makes a report under the requester's nonce. -/
def execSecAttest (q : Requester) (s : State) : Outcome State Fault Refusal :=
  if !openTo s q then done s
  else if (enginesLeft s 2).isEmpty || (enginesLeft s 3).isEmpty then done (setResult s q 5)
  else
    let nonce := ((List.range 8).map fun i => toLE 4 (s.get (R.SEC_NONCE_DATA i q.bank))).flatten
    let body := reportBody s nonce
    let report := body ++ Config.ecdsaSign (identityKey s) s.draws body
    let s := foldState (fun (t : State) i => t.set (R.SEC_ATT_DATA i q.bank) (leField report (4 * i) 4)) s.drew (List.range 88)
    done (setResult s q 0)

/-- Self-tests on command (R491): the engines of a list, with the engines that fail and their test codes. -/
def testCommand (s : State) (q : Requester) (l : List Nat) (fails : List (Nat × Nat)) : State :=
  if !openTo s q then s
  else if s.bit R.SEC_STATUS_ERROR then setResult s q 5
  else setResult (secHealth s (testEngines s l fails)) q (if someFails s l fails then 7 else 0)

/-- SEC_SELFTEST_ALL (R491). -/
def execSecSelftestAll (q : Requester) (fails : List (Nat × Nat)) (s : State) : Outcome State Fault Refusal :=
  done (testCommand s q allEngines fails)

/-- SEC_SELFTEST_KIND (R491). -/
def execSecSelftestKind (q : Requester) (kind : Nat) (fails : List (Nat × Nat)) (s : State) : Outcome State Fault Refusal :=
  if 5 < kind then done (if openTo s q then setResult s q 4 else s) else done (testCommand s q (kindEngines kind) fails)

/-- INSTALL_EPOCH (R466, R467). -/
def execInstallEpoch (q : Requester) (s : State) : Outcome State Fault Refusal :=
  done (signedCommand s q 1 (fun b => if installRefused s (sigArg b 0 2) (sigArg b 2 5) then 4 else 0)
    (fun b => [sigArg b 0 2, sigArg b 2 5])
    (fun b t =>
      let t := installEpoch t (sigArg b 0 2) (sigArg b 2 5)
      pumpRekeys (t.putSec { t.sec with rekeys := [], rekeyLeft := if claims t then validNodes t else [] })))

/-- A district argument is refused: no such district, or neither an active nor a pending epoch. -/
def districtRefused (s : State) (b : List Byte) : Bool := decide (4096 ≤ sigArg b 0 2) || (liveSlots s).isEmpty

/-- RAISE_DISTRICT_GENERATION (R469, R476). -/
def execRaiseDistrictGeneration (q : Requester) (s : State) : Outcome State Fault Refusal :=
  done (signedCommand s q 2
    (fun b => if districtRefused s b || (liveSlots s).any (fun i => decide (districtGen (s.tree.slot i) (sigArg b 0 2) = 15)) then 4 else 0)
    (fun b => [sigArg b 0 2])
    (fun b t =>
      let t := raiseDistrict t (sigArg b 0 2)
      postRevoked t (sigArg b 0 2) 0 (districtGen (liveEpoch t) (sigArg b 0 2)) (liveEpoch t).epoch))

/-- REVOKE_DISTRICT (R469). -/
def execRevokeDistrict (q : Requester) (s : State) : Outcome State Fault Refusal :=
  done (signedCommand s q 3 (fun b => if districtRefused s b then 4 else 0) (fun b => [sigArg b 0 2])
    (fun b t => postRevoked (revokeDistrict t (sigArg b 0 2)) (sigArg b 0 2) 1 0 (liveEpoch t).epoch))

/-- REVOKE_EPOCH (R469). -/
def execRevokeEpoch (q : Requester) (s : State) : Outcome State Fault Refusal :=
  done (signedCommand s q 4 (fun b => if (slotOfEpoch s (sigArg b 0 2)).isNone then 4 else 0) (fun b => [sigArg b 0 2])
    (fun b t => postRevoked (revokeEpoch t (sigArg b 0 2)) 0 2 0 (sigArg b 0 2)))

/-- ZEROIZE (R489). -/
def execZeroize (q : Requester) (s : State) : Outcome State Fault Refusal :=
  done (signedCommand s q 5 (fun _ => 0) (fun _ => []) (fun _ t => zeroize t))

/-- PROGRAM_OWNER_HASH (R488). -/
def execProgramOwnerHash (q : Requester) (s : State) : Outcome State Fault Refusal :=
  done (signedCommand s q 6
    (fun b => if 4 ≤ sigArg b 0 1 then 4 else if (s.otp.owners.getD (sigArg b 0 1) (none, false)).1.isSome then 8 else 0)
    (fun _ => [])
    (fun b t => setOwner t (sigArg b 0 1) (some (hashField b 21), false)))

/-- REVOKE_OWNER_SLOT (R488). -/
def execRevokeOwnerSlot (q : Requester) (s : State) : Outcome State Fault Refusal :=
  done (signedCommand s q 7
    (fun b =>
      let i := sigArg b 0 1
      let good (k : Nat) : Bool := match s.otp.owners[k]? with | some (some _, false) => true | _ => false
      if 4 ≤ i then 4
      else if !good i || decide (i = sigSlot b) || !((four_ i).any good) then 8 else 0)
    (fun _ => [])
    (fun b t => setOwner t (sigArg b 0 1) ((t.otp.owners.getD (sigArg b 0 1) (none, false)).1, true)))
where
  /-- The slots other than one. -/
  four_ (i : Nat) : List Nat := [0, 1, 2, 3].filter fun k => decide (k ≠ i)

/-- DEBUG_TOKEN (R494): a grant of the control cores or of the security processor zeroizes first. -/
def execDebugToken (q : Requester) (s : State) : Outcome State Fault Refusal :=
  done (signedCommand s q 8 (fun _ => 0) (fun _ => [])
    (fun b t =>
      let bits := sigArg b 0 1 % 16
      let t := if natBits bits 1 2 = 0 then t else
        let z := zeroize t
        treeChanged z 5 [z.tree.cmdSeq]
      postEvent 0x0F07 [(0, 4, sigSeq b)] (t.putSec { t.sec with grants := t.sec.grants ||| bits })))

/-- JTAG_DEBUG_REQUEST (R494): port 0 application core, 1 control cores, 2 security processor, 3 boundary scan. -/
def execJtagDebugRequest (port : Nat) (s : State) : Outcome State Fault Refusal :=
  if powered s && decide (port < 4) && (natBit s.sec.grants port || (decide (port = 0) && !s.bit R.SEC_STATUS_APPROVED && running s)) then
    done (s.putSec { s.sec with debugOpen := s.sec.debugOpen ||| 2 ^ port })
  else done s

/-- SELFTEST_PERIOD (R491): the periodic tests of every engine. -/
def execSelftestPeriod (fails : List (Nat × Nat)) (s : State) : Outcome State Fault Refusal :=
  if running s && !s.bit R.SEC_STATUS_ERROR && decide (s.get R.SEC_ST_PERIOD ≠ 0) then done (secHealth s (testEngines s allEngines fails))
  else done s

/-- DRBG_RESEED (R491): engine 0 or 1; a reseed that fails its conditional test quarantines it (test code 4). -/
def execDrbgReseed (engine : Nat) (ok : Bool) (s : State) : Outcome State Fault Refusal :=
  if running s && decide (engine < 2) && s.getBitAt R.SEC_ENG_OK (10 + engine) && decide (2 ^ 20 ≤ s.sec.drbgRequests) then
    let t := s.putSec { s.sec with drbgRequests := 0 }
    done (if ok then t.bumpWrap R.SEC_CNT3_ST_PASS else secHealth s (engineFails t (10 + engine) 4))
  else done s

end Sys2Proof.Machine
end

