-- ==== Sys2Proof/Machine/CommitOps.lean ====
section
/-!
DEFINITION. The configuration commit (chapter 03): what applies at commit (R98, R99), the events and changes that wait for
running event rings (R104, R564, R584), the rejection of a configuration image (R89, R97).
-/

namespace Sys2Proof.Machine

/-! ## What waits for the event rings -/

/-- UPDATE_FALLBACK of a boot that met a probation record (R564). -/
def postFallback (s : State) : State :=
  match s.upd.fallbackPost with
  | none => s
  | some (comp, reason) =>
    let s := (s.putUpd { s.upd with fallbackPost := none }).bump R.UPD_CNT_FALLBACKS
    postEvent 0x1204 [(0, 1, comp), (1, 1, reason), (4, 4, imageVersion comp (inForce s comp))] s

/-- WAKE_DURING_ENTRY of an exit from Umber (R584, R586). -/
def postWake (s : State) : State :=
  match s.pwr.wakePost with
  | none => s
  | some (kind, src) =>
    let s := (s.putPwr { s.pwr with wakePost := none }).bump R.PWR_CNT_WAKE_ENTRY
    postEvent 0x1303 [(0, 1, kind), (1, 1, src)] s

/-! ## Steps of the commit -/

/-- The pre-operational self-tests put every engine in service but those that fail (R491, R492). -/
def bootTests (s : State) (fails : List (Nat × Nat)) : State := testEngines (s.set R.SEC_ENG_OK 0x3FFF) allEngines fails

/-- K_M and K_JR of the image's key transport record (R483). -/
def commitKeys (s : State) (img : List Byte) : State :=
  match ((appliedRecords s img).reverse.find? fun r => decide (r.type = 0x0901)).bind fun r => unwrapKeys s r.data with
  | none => s
  | some k => (s.putSec { s.sec with kM := some k.1, kJR := some k.2 }).set R.SEC_STATUS_KEYS 1

/-- The tree state at commit (R465): kept while it is intact, else the initial epoch alone, with TREE_LOST. -/
def commitTree (s : State) : State :=
  if s.tree.intact then viewTree s
  else
    let n := s.get R.SEC_CFG_INIT_EPOCH
    let e : EpochSlot := { epoch := n, status := .active, actAsn := 0, districts := [], order := 0 }
    let t : TreeState := { TreeState.lost with intact := true, slots := [(0, e)], highest := n, installs := 1 }
    viewTree ((s.putTree t).set R.SEC_STATUS_TREE_LOST 1)

/-- The enabled transceivers, whose cold-start calibration follows the commit (R165). -/
def coldPaths (s : State) : List Nat := (List.range 16).filter (pathEnabled s)

/-- Cold-start calibration begins (step 1 of Table 5-2): every enabled transceiver is tuned to its home window with its loopback closed;
with none, step 8 comes at once. -/
def startCold (s : State) : State :=
  let ps := coldPaths s
  let s := foldState takeFrontEnd s ((List.range 16).filter (pathPresent s.part))
  let s := foldState (fun (t : State) n =>
    let t := t.setPath n { t.path n with loopback := true }
    (t.set (R.SYNTH_CUR_FREQ n) (homeCentre t n)).set (R.SYNTH_STATUS_RETUNE n) 1) s ps
  let s := s.putBoot { s.boot with coldPending := ps }
  if ps.isEmpty then reachStep8 s else s

/-- The control cores run, and the application core leaves reset where it has an image (Table 3-1 step 6, R89). -/
def startCores (s : State) : State :=
  let s := foldState (fun (t : State) n => setCpu t n 1) s [0, 1, 2, 3]
  match assocGet s.boot.images 4 with
  | none => s
  | some i => if s.bit R.APP_CTRL_HOLD then loadApp s i.image else releaseApp (loadApp s i.image)

/-- The image of a component's flash slot that is not `slot`, as the image to return to; a slot that is not well placed is never read
(R81). -/
def otherImage (s : State) (comp slot : Nat) : Option ImageInForce :=
  match slotOf s comp (1 - slot) with
  | none => none
  | some e =>
    let img := slotImage s e
    if e.state = slotValid ∧ wellPlaced s e = true then some { slot := 1 - slot, image := img, hash := imageMeasure img } else none

/-- A component that runs from an active trial slot starts its probation at commit (R564); the stage loader is confirmed
(R561). -/
def trialBooted (s : State) (comp : Nat) : State :=
  match assocGet s.boot.images comp with
  | none => s
  | some i =>
    match slotOf s comp i.slot with
    | none => s
    | some e =>
      if e.state ≠ slotTrial ∨ e.active = false then s
      else if comp = 0 then confirmImage s 0 i.slot 0
      else
        let n := s.get R.UPD_PROB_SECONDS
        let p : Probation := { comp := comp, slot := i.slot, started := s.now, ends := s.now + n * secondNs }
        let s := s.putUpd { s.upd with target := i.slot, image := i.image, unhealthy := false, probation := some p, seconds := n,
                                       backward := none, prev := otherImage s comp i.slot }
        ((setUpd s updProbation).set R.UPD_STATUS_COMP comp).set R.UPD_LEFT_SECONDS n

/-- CFG_RECORD_SKIPPED for each skipped record (R98). -/
def postSkipped (s : State) (l : List ConfigRecord) : State :=
  foldState (fun (t : State) (r : ConfigRecord) => postEvent 0x0103 [(0, 4, r.offset), (4, 4, leField r.data 0 4), (8, 2, r.type)] t) s l

/-- CFG_SEQ, CFG_INFO.SLOT, CFG_COUNTS and BOOT_TIME.COMMIT_MS. -/
def commitReport (s : State) (slot : Nat) (img : List Byte) (applied skipped : Nat) : State :=
  let n := configSequence img
  let s := (s.set R.CFG_SEQ_LO_SEQ n).set R.CFG_SEQ_HI_SEQ (n / 2 ^ 32)
  let s := ((s.setBit R.CFG_INFO_SLOT (decide (slot = 1))).set R.CFG_COUNTS_APPLIED (min 65535 applied)).set R.CFG_COUNTS_SKIPPED (min 65535 skipped)
  let r := bootMs s
  r.1.set R.BOOT_TIME_COMMIT_MS r.2

/-- CFG_COMMITTED. -/
def postCommitted (s : State) (slot : Nat) (img : List Byte) (applied skipped : Nat) : State :=
  let (s, b) := slotByte s slot
  postEvent 0x0101 [(0, 8, configSequence img), (8, 1, b), (10, 2, min 65535 applied), (12, 2, min 65535 skipped)] s

/-- The records of a validated image apply, and every RWL field locks (R98, R99). -/
def applyImage (s : State) (img : List Byte) : State :=
  let l := imageValues s img
  let s := configTaken (putValues s l) (l.map fun x => x.1)
  let s := s.putBoot { s.boot with phase := .running, committed := true, tunable := imageTunable s img }
  setPhase s 4

/-- The security module takes its configuration. -/
def commitSecurity (s : State) (img : List Byte) : State :=
  let s := commitTree (commitKeys s img)
  let s := s.set R.EHT_SEED_SEED s.drawn
  s.drew.setBit R.SEC_STATUS_APPROVED (s.bit R.SEC_CFG_APPROVED)

/-- The level that record 0x0C00 names comes at commit (R76, R570). -/
def commitLevel (s : State) (img : List Byte) : State :=
  if (appliedRecords s img).any fun r => decide (r.type = 0x0C00) then startChange s (wantedLevel s) else s

/-- The configuration commit (step 6 of Table 3-1). -/
def commitImage (s : State) (slot : Nat) (img : List Byte) (fails : List (Nat × Nat)) : State :=
  let skipped := skippedRecords s img
  let applied := (appliedRecords s img).length
  let s := bootTests (applyImage s img) fails
  let s := commitSecurity (if slot < 2 then slotBoots s slot img else imageInForce s compConfig slot img) img
  let s := adoptEpoch s (s.get R.SCHED_STATUS_EPOCH) (nextAsn s 0)
  let s := if hjPresent s.part then s else setRole s roleSolo 0
  let s := commitReport (startCores (oscCommit s)) slot img applied skipped.length
  let s := postCommitted (postSkipped s skipped) slot img applied skipped.length
  let s := postWake (postFallback (postLfLoss (postRetry s)))
  startCold (commitLevel (foldState trialBooted s [0, 1, 2, 3, 4, 5]) img)

/-! ## Rejection -/

/-- The configuration slot tried is read once and judged (R86, R96): the reason, its offset and the image. -/
def judgeSlot (s : State) (slot : Nat) (readOk : Bool) : Nat × Nat × List Byte :=
  let img := match slotOf s compConfig slot with | none => [] | some e => slotImage s e
  let r := checkSlot s compConfig slot readOk
  if r ≠ 0 then (r, 0, img)
  else
    let img := img.take (imageLength img)
    let v := validateImage s img
    (v.1, v.2, img)

/-- The configuration of the flash slot tried. -/
def configFromSlot (s : State) (readOk : Bool) (fails : List (Nat × Nat)) : State :=
  let s := probationFallback s
  let slot := slotTried s
  let (reason, offset, img) := judgeSlot s slot readOk
  if reason = 0 then commitImage s slot img fails
  else slotFails (configRejected s slot reason offset) reason fun _ _ t => configWait t

/-- The configuration that the host or the UART offered. -/
def configFromHost (s : State) (fails : List (Nat × Nat)) : State :=
  let img := s.upd.image
  let v := validateImage s img
  if v.1 = 0 then commitImage (s.putUpd { s.upd with image := [] }) 2 img fails else configWait (configRejected s 2 v.1 v.2)

end Sys2Proof.Machine
end

