-- ==== Sys2Proof/Machine/Startup.lean ====
section
/-!
DEFINITION. The rows of power-up, resets, boot and configuration (chapters 02 and 03).
-/

namespace Sys2Proof.Machine

open Host (Outcome)

/-! ## Resets and rails -/

/-- PORST_N_RELEASE (R53, R57): the level of each strap at the edge, none where it floats (R54); the rails come up. -/
def execPorstNRelease (mode0 mode1 id : Option Bool) (s : State) : Outcome State Fault Refusal :=
  if s.boot.phase ≠ .porstLow then done s
  else
    let strap (k : Nat) (o : Option Bool) : Nat := boolNat (o.getD (Config.floatStrap k s.draws))
    let s1 := s.set R.STRAPS_BOOT_MODE (strap 0 mode0 + 2 * strap 1 mode1)
    let s1 := if hjPresent s.part then s1.set R.STRAPS_PAIR_ID (strap 2 id) else s1
    let s1 := s1.drew.putPwr { s1.pwr with enCore := true, enSram := true, vsel := 0 }
    done (s1.putBoot { s1.boot with phase := .powering, cause := .cold, powerRetried := false, clockRetried := false, startAt := s.now })

/-- PORST_N_ASSERT (R14, R50, R106). -/
def execPorstNAssert (s : State) : Outcome State Fault Refusal :=
  if s.boot.phase = .unpowered then done s
  else done (resetKeeping (stopTimebase (endClaim s 13)) alwaysOnFields PowerState.cold .porstLow)

/-- VDD_AON_LOSS (R14, R421, R464): the always-on domain is lost as well. -/
def execVddAonLoss (s : State) : Outcome State Fault Refusal :=
  let t := resetKeeping s [R.PAIR_STATUS_CLAIM_IN] PowerState.cold .unpowered
  let t := (t.putOsc { held := 0, kept := none, crowd := [], change := 0 }).putTb TimeState.cold
  done ((t.putTree TreeState.lost).putUpd UpdState.cold)

/-- VDD_AON_UP (R14): the supervisor still holds PORST_N low (R59). -/
def execVddAonUp (s : State) : Outcome State Fault Refusal :=
  done (if s.boot.phase = .unpowered then s.putBoot { s.boot with phase := .porstLow } else s)

/-- PWR_PG_HIGH (Table 2-7 step 5). -/
def execPwrPgHigh (s : State) : Outcome State Fault Refusal :=
  if s.boot.phase ≠ .powering then done s
  else
    let s := s.putPwr { s.pwr with isolated := false, faultN := true }
    done (s.putBoot { s.boot with phase := .pllWait, clockRetried := false })

/-- PWR_PG_TIMEOUT (R104). -/
def execPwrPgTimeout (s : State) : Outcome State Fault Refusal :=
  if s.boot.phase ≠ .powering then done s
  else if s.boot.powerRetried then done (faultHold s (powerPhase s) (if s.boot.cause = .sepiaExit then 2 else 1))
  else
    let s := s.putPwr { s.pwr with enCore := false, enSram := false }
    done (s.putBoot { s.boot with phase := .retryWait, powerRetried := true, retryPost := some (powerPhase s) })

/-- POWER_RETRY_WAIT_END (R104). -/
def execPowerRetryWaitEnd (s : State) : Outcome State Fault Refusal :=
  if s.boot.phase ≠ .retryWait then done s
  else
    let s := s.putPwr { s.pwr with enCore := true, enSram := true, vsel := 0 }
    done (s.putBoot { s.boot with phase := .powering })

/-- The rails are on and PWR_PG was seen. -/
def railsUp (s : State) : Bool :=
  powered s || decide (s.boot.phase = .pllWait) || decide (s.boot.phase = .warmLow) || decide (s.boot.phase = .warmDelay)

/-- PWR_PG_FALL (R59, R106). -/
def execPwrPgFall (s : State) : Outcome State Fault Refusal :=
  if railsUp s then done (faultHold s (if s.boot.phase = .pllWait then powerPhase s else s.get R.BOOT_STATUS_PHASE) 5) else done s

/-- PLL_LOCK (R57, R423): the timebase restarts after `nLf` and `nRc` ticks; `lag` is the time from the last tick to its stop. -/
def execPllLock (nLf nRc lag : Nat) (s : State) : Outcome State Fault Refusal :=
  if s.boot.phase = .pllWait ∧ s.tb.running = false then
    let s := startTimebase s nLf nRc lag
    done (if s.boot.cause = .sepiaExit then s else romStart s)
  else done s

/-- REFCLK_TIMEOUT (R105): code 3 without activity of REFCLK, 4 without lock. -/
def execRefclkTimeout (code : Nat) (s : State) : Outcome State Fault Refusal :=
  if s.boot.phase = .pllWait ∧ s.tb.running = false ∧ (code = 3 ∨ code = 4) then
    if s.boot.clockRetried then done (faultHold s (powerPhase s) code)
    else done (s.putBoot { s.boot with clockRetried := true })
  else done s

/-! ## Warm restart -/

/-- WARM_RST_N_ASSERT (R77). -/
def execWarmRstNAssert (s : State) : Outcome State Fault Refusal :=
  if powered s || decide (s.boot.phase = .warmDelay) || decide (s.boot.phase = .pllWait) then
    let s := stopTimebase (endClaim s 13)
    done (s.putBoot { s.boot with phase := .warmLow })
  else done s

/-- WARM_RST_N_RELEASE (R77). -/
def execWarmRstNRelease (s : State) : Outcome State Fault Refusal :=
  done (if s.boot.phase = .warmLow then warmClear s .pllWait else s)

/-- RESET_CTRL_WRITE (R77, Table 3-16). -/
def execResetCtrlWrite (key : Nat) (s : State) : Outcome State Fault Refusal :=
  done (if powered s && decide (key = 0x5752) then warmRestart s else s)

/-- WARM_RESTART_DELAY_END (R77). -/
def execWarmRestartDelayEnd (s : State) : Outcome State Fault Refusal :=
  done (if s.boot.phase = .warmDelay then warmClear s .pllWait else s)

/-! ## Loading -/

/-- COMPONENT_LOAD_DONE (R84 to R89): a slot of the component has been read; `readOk` is whether the read succeeded. -/
def execComponentLoadDone (readOk : Bool) (s : State) : Outcome State Fault Refusal :=
  if s.boot.phase ≠ .boot ∨ s.boot.fromHost = true ∨ 5 ≤ s.boot.comp then done s
  else
    let s := probationFallback s
    let comp := s.boot.comp
    let slot := slotTried s
    let r := checkSlot s comp slot readOk
    let img := match slotOf s comp slot with | none => [] | some e => slotImage s e
    if r = 0 then done (nextComponent (slotBoots s slot img)) else done (slotFails s r (componentMissing comp))

/-- CONFIG_IMAGE_READ (R96 to R99): the configuration is read and judged, and committed where it passes. `fails` are the
pre-operational self-tests that fail, by engine, with their test codes (R491). -/
def execConfigImageRead (readOk : Bool) (fails : List (Nat × Nat)) (s : State) : Outcome State Fault Refusal :=
  if s.boot.phase ≠ .boot then done s
  else if s.boot.comp = 5 ∧ s.boot.fromHost = false then done (configFromSlot s readOk fails)
  else if s.boot.comp = 6 then done (configFromHost s fails)
  else done s

/-! ## Recovery (R79) -/

/-- A recovery frame of a type with a payload (Table 3-3). -/
def recoveryFrame (type : Nat) (pl : List Byte) : List Byte :=
  let b := toLE 1 type ++ toLE 2 pl.length ++ pl
  [0x7E#8] ++ b ++ toLE 4 (crc32c b)

/-- The payload of a frame of a type that is well formed. -/
def recoveryPayload (type : Nat) (f : List Byte) : Option (List Byte) :=
  let n := leField f 2 2
  if leField f 0 1 = 0x7E ∧ leField f 1 1 = type ∧ n ≤ 4100 ∧ f.length = n + 8 ∧ leField f (4 + n) 4 = crc32c (sliceBytes f 1 (n + 3)) then
    some (sliceBytes f 4 n)
  else none

/-- The device acknowledges a frame, or refuses it with a reason. -/
def recoveryAck (s : State) : State := s.emit (.uart (recoveryFrame 3 []))
def recoveryNak (s : State) (reason : Nat) : State := s.emit (.uart (recoveryFrame 4 (toLE 1 reason)))

/-- The reason codes of Table 3-11 other than 0. -/
def imageReasons : List Nat := [1, 2, 3, 4, 5, 6, 7, 8, 9, 0x10, 0x11, 0x12, 0x13, 0x14, 0x15, 0x16]

/-- A frame that is damaged or out of place: which reason code of Table 3-11 it draws is open. -/
def recoveryBad (s : State) : State := recoveryNak s.drew (imageReasons.getD (Config.openValue 1 s.draws % 16) 1)

/-- The chunk of a component at an offset follows the one before it (R79). -/
def chunkInOrder (s : State) (comp off : Nat) : Bool := decide ((assocGet s.boot.recovery comp).getD 0 ≤ off)

/-- RECOVERY_CHUNK (R79): `frame` is the frame as received. -/
def execRecoveryChunk (frame : List Byte) (s : State) : Outcome State Fault Refusal :=
  if !uartLoads s then done s
  else match recoveryPayload 1 frame with
    | none => done (recoveryBad s)
    | some p =>
      let comp := leField p 0 1
      let off := leField p 4 4
      if p.length < 8 ∨ chunkInOrder s comp off = false then done (recoveryBad s)
      else if 0x00800000 < off + (p.length - 8) then done (recoveryNak s 0x03)
      else
        let s := s.putWindow (setBytes s.window off (p.drop 8))
        done (recoveryAck (s.putBoot { s.boot with recovery := assocSet s.boot.recovery comp (off + 1) }))

/-- RECOVERY_COMPONENT_DONE (R79): the component received is offered to the boot. -/
def execRecoveryComponentDone (frame : List Byte) (s : State) : Outcome State Fault Refusal :=
  if !uartLoads s then done s
  else match recoveryPayload 2 frame with
    | none => done (recoveryBad s)
    | some p =>
      if p.length ≠ 1 then done (recoveryBad s)
      else
        let s := s.putBoot { s.boot with recovery := assocDel s.boot.recovery (leField p 0 1) }
        let (s, r) := offerImage s (leField p 0 1) (windowImage s)
        done (if r = 0 then recoveryAck s else recoveryNak s r)

/-! ## LFCLK (R107) -/

/-- LFCLK lies within ±500 ppm: 256 of its periods are 312,500 REFCLK cycles at 32.768 kHz. -/
def lfGood (cycles : Nat) : Bool :=
  decide ((312500 - (cycles : Int)).natAbs * 1000000 ≤ 500 * cycles)

/-- LFCLK_MEASURE_DONE: 256 LFCLK periods took so many REFCLK cycles. -/
def execLfclkMeasureDone (cycles : Nat) (s : State) : Outcome State Fault Refusal :=
  if !powered s || !s.boot.lfMeasuring then done s
  else if cycles ≠ 0 ∧ lfGood cycles = true then
    let fallen := s.boot.lfFallen
    let s := (s.putPwr { s.pwr with aonLf := true }).set R.BOOT_STATUS_AON_SRC 0
    let s := s.putBoot { s.boot with lfMeasuring := false, lfAccepted := true, lfFallen := false }
    let err := realDiv 51 ((312500 - (cycles : Int)) * 100000000) cycles
    done (if fallen then postEvent 0x0107 [(0, 4, sfield 4 err)] s else s)
  else done (s.putBoot { s.boot with lfMeasuring := !s.boot.lfFallen })

/-- LFCLK_ACCEPT_TIMEOUT: 2,000 ms after the start. -/
def execLfclkAcceptTimeout (s : State) : Outcome State Fault Refusal :=
  if !powered s || s.boot.lfAccepted || s.boot.lfFallen then done s
  else
    let s := s.reach (s.boot.startAt + 2 * secondNs)
    let s := latchFail s (s.get R.BOOT_STATUS_PHASE) 6
    done (postEvent 0x0106 [(0, 1, 0)] (s.putBoot { s.boot with lfFallen := true, lfMeasuring := false }))

/-- LFCLK_REMEASURE_TIMER. -/
def execLfclkRemeasureTimer (s : State) : Outcome State Fault Refusal :=
  done (if powered s && s.boot.lfFallen then s.putBoot { s.boot with lfMeasuring := true } else s)

/-- LFCLK_EDGE_LOSS (R107): the loss is posted at once, or once the event rings run again. -/
def execLfclkEdgeLoss (s : State) : Outcome State Fault Refusal :=
  if !s.pwr.aonLf then done s
  else
    let s := latchFail s (s.get R.BOOT_STATUS_PHASE) 6
    let s := (s.putPwr { s.pwr with aonLf := false }).set R.BOOT_STATUS_AON_SRC 1
    let s := s.putBoot { s.boot with lfFallen := true, lfAccepted := false, lfMeasuring := false }
    done (if powered s then postEvent 0x0106 [(0, 1, 1)] s else s.putBoot { s.boot with lfPost := true })

/-! ## Runtime-tunable window and AON_FAIL -/

/-- A configuration handover is in progress (R103). -/
def configHandover (s : State) : Bool :=
  decide (updComp s = compConfig) && (decide (updState s = updHandover) || decide (updState s = updFallback))

/-- RTW_STATUS.RESULT of a window write of `v` to the register at `key` (R102, Table 3-23). -/
def windowResult (s : State) (key v : Nat) : Nat :=
  let mask := (assocGet s.boot.tunable key).getD 0
  if !s.boot.committed then 4
  else if configHandover s then 3
  else if mask = 0 then 1
  else if ((s.word key).toNat ^^^ (v % 2 ^ 32)) &&& (0xFFFFFFFF - mask % 2 ^ 32) ≠ 0 then 2
  else 0

/-- A register of the schedule epochs was written (R344). -/
def noteSchedule (s : State) (key : Nat) : State :=
  if R.CRIM_A 0 ≤ key ∧ key < R.CRIM_A 32 then s.putSched { s.sched with epochPending := true } else s

/-- RTW_DATA_WRITE (R101 to R103). -/
def execRtwDataWrite (q : Requester) (v : Nat) (s : State) : Outcome State Fault Refusal :=
  if !powered s || decide (q ≠ Requester.host ∧ q ≠ Requester.app) then done s
  else
    let key := 4 * s.get (R.RTW_ADDR_OFFSET q.bank)
    let r := windowResult s key v
    let s := s.set (R.RTW_STATUS_RESULT q.bank) r
    if r = 0 then done (noteSchedule (configTaken (putValues s [(key, v % 2 ^ 32)]) [key]) key)
    else done (s.bump (R.RTW_DENIED_COUNT q.bank))

/-- AON_FAIL_CLEAR (R109). -/
def execAonFailClear (s : State) : Outcome State Fault Refusal :=
  done (if powered s then ((s.set R.AON_FAIL_COUNT 0).set R.AON_FAIL_PHASE 0).set R.AON_FAIL_CODE 0 else s)

/-! ## Retention refresh (R113) -/

/-- A write stamp of this age, in days, is due for a refresh: none, or more than 3,652 days old. -/
def stampDue (s : State) (stamp : Nat) : Bool := decide (stamp = 0) || decide (stamp + 3652 < writeStamp s)

/-- FLASH_REFRESH. -/
def postRefresh (s : State) (comp slot stamp : Nat) : State := postEvent 0x0109 [(0, 1, comp), (1, 1, slot), (4, 4, stamp)] s

/-- The copy in a slot verifies: its body has the hash of its header. -/
def copyVerifies (s : State) (comp : Nat) (e : SlotEntry) : Bool :=
  let l := flashAt s.flash e.offset e.length
  decide (Config.sha256 (sliceBytes l 256 (imageLength l - 256)) = hashField l (hashOffset comp))

/-- Refresh the active slot of a component: its image goes to the other slot, which is verified and becomes active. `bad` are the
components whose copy fails its read-back; a copy that does not verify changes no directory entry (log entry 144). -/
def refreshSlot (bad : List Nat) (s : State) (comp : Nat) : State :=
  let slot := firstSlot s comp
  match slotOf s comp slot, slotOf s comp (1 - slot) with
  | some e, some o =>
    if !e.active || decide (e.state ≠ slotValid) || !stampDue s e.stamp || !wellPlaced s e || !wellPlaced s o ||
        decide (o.size < e.length) || (decide (updState s ≠ updIdle) && decide (updComp s = comp)) then s
    else if !commitAllowed s then refuseFlash s 0 comp (1 - slot)
    else if !slotWriteAllowed s comp (1 - slot) then refuseFlash s 1 comp (1 - slot)
    else
      let t := countSlotWrite (programSlot s o (flashAt s.flash e.offset e.length)) comp (1 - slot)
      if bad.contains comp || !copyVerifies t comp { o with length := e.length } then t else
      let l := putEntry (slotEntries t) { e with active := false }
      let l := putEntry l { o with state := slotValid, active := true, length := e.length, erases := o.erases + 1, stamp := writeStamp t }
      postRefresh (commitDirectory t (configFloor t) l comp (1 - slot)).1 comp slot e.stamp
  | _, _ => s

/-- The stamps of the entries of a soft repair map copy (Table 18-3). -/
def copyStamps (s : State) (copy : Nat) : List Nat :=
  if repairHeaderOk s copy then
    ((List.range 512).filterMap (repairEntryAt s copy)).filterMap fun b => if leField b 12 4 = crc32c (b.take 12) then some (leField b 8 4) else none
  else []

/-- Program a repair map copy anew with its header and entries. -/
def writeCopy (s : State) (copy : Nat) (l : List RepairEntry) : State :=
  let base := repairCopy s copy
  let size := (repairMap s).2
  let f := flashProgram (flashClear s.flash base size) base repairHeader
  let f := flashProgram f (base + 64) ((l.map (repairBytes s)).flatten)
  State.emit (s.putFlash f) (.flashErase base size)

/-- A soft repair map copy whose header is neither valid nor erased, which waits for this refresh (R513). -/
def copyUnheaded (s : State) (copy : Nat) : Bool := !repairHeaderOk s copy && !repairBlank s copy

/-- Refresh a soft repair map copy by the age of its oldest entry, or for want of a header. -/
def refreshCopy (s : State) (copy : Nat) : State :=
  if s.boot.page.isNone then s
  else
    let stamps := copyStamps s copy
    if !(stamps.any (stampDue s)) && !copyUnheaded s copy then s
    else if !commitAllowed s then refuseFlash s 0 0xFE copy
    else
      let t := writeCopy s copy (softEntries s)
      let t := t.putBoot { t.boot with commitTimes := t.now :: recentDay t t.boot.commitTimes }
      postRefresh t 0xFE copy (stamps.foldl min (stamps.headD 0))

/-- RETENTION_REFRESH (R110 to R113): `bad` are the components whose copy fails its read-back. -/
def execRetentionRefresh (bad : List Nat) (s : State) : Outcome State Fault Refusal :=
  if running s && calendarValid s && decide (updState s ≠ updProbation) then
    done (foldState refreshCopy (foldState (refreshSlot bad) s [0, 1, 2, 3, 4, 5]) [0, 1])
  else done s

end Sys2Proof.Machine
end

