-- ==== Sys2Proof/Machine/Timebase.lean ====
section
/-!
DEFINITION. The commands of chapter 15: timebase, captures, pulse outputs, general timers.
-/

namespace Sys2Proof.Machine

open Host (Outcome)

/-- TB_INC_COMMIT: a write of TB_INC_HI commits both halves, or the whole increment is refused when it differs from 2.0 ns by
more than 500 ppm (R408). -/
def execTbIncCommit (q : Requester) (v : Nat) (s : State) : Outcome State Fault Refusal :=
  let inc : Nat := v % 256 * 2 ^ 32 + s.tb.stagedInc
  let off : Int := (inc : Int) - 0x200000000
  if !tbOwner s q then done (notOwner s)
  else if 500 * 2 * 2 ^ 32 < off.natAbs * 1000000 then done (refuseCorrection s 3)
  else
    let s := (s.set R.TB_INC_HI_INT (inc / 2 ^ 32)).set R.TB_INC_LO_FRAC (inc % 2 ^ 32)
    done (leaveBridged (s.set R.TB_STATUS_RESULT 0))

/-- TB_STEP_COMMIT: a write of TB_STEP_HI commits a signed step, which is applied, held for a boundary or refused (R409). -/
def execTbStepCommit (q : Requester) (v : Nat) (s : State) : Outcome State Fault Refusal :=
  let x := signedOf 64 (v * 2 ^ 32 + s.tb.stagedStep)
  let run := s.bit R.PSM_STATUS_RUN
  if !tbOwner s q then done (notOwner s)
  else if run && decide (s.get R.TB_CTRL_STEP_MAX * 1000 < x.natAbs) then done (refuseCorrection s 4)
  else if s.tb.pendingStep.isSome then done (refuseCorrection s 1)
  else if run then done ((s.putTb { s.tb with pendingStep := some x }).setBit R.TB_STATUS_PENDING true)
  else done (applyStep s x)

/-- TB_SERVO_WRITE: the state changes the quality code at once, except in a bridged code (R419). -/
def execTbServoWrite (q : Requester) (v : Nat) (s : State) : Outcome State Fault Refusal :=
  if !tbOwner s q then done (notOwner s)
  else
    let s := s.setWord R.TB_SERVO (BitVec.ofNat 32 v)
    let x := servoQuality s
    done (if bridged s then s
          else if x.1 = 2 ∧ s.get R.TIME_QUALITY_CODE = 2 then s
          else setQuality s x.1 x.2)

/-- TB_NS_LO_READ (R412): the low half answers; the high half and the fraction are captured for the requester.
Timer writes of the block come into force first (R36). -/
def execTbNsLoRead (q : Requester) (s : State) : Outcome State Fault Refusal :=
  let s := timersApply s
  let x := { s.snapsOf q with tbHi := some (s.tbNs / 2 ^ 32), tbFrac := some s.tb.frac.toNat }
  done ((s.setSnaps q x).answer q (s.tbNs % 2 ^ 32))

/-- ASN_LO_READ (R277). -/
def execAsnLoRead (q : Requester) (s : State) : Outcome State Fault Refusal :=
  done ((s.setSnaps q { s.snapsOf q with asnHi := some (s.asnNat / 2 ^ 32) }).answer q (s.asnNat % 2 ^ 32))

/-- TS_INPUT_EDGE (R415): an edge that the input latches at `time` ns, at the start of a pulse of `width` ns. -/
def execTsInputEdge (tsi : Nat) (rising : Bool) (width time : Nat) (s : State) : Outcome State Fault Refusal :=
  if !s.bit (R.TSI_CTRL_EN tsi) || !s.tb.running || decide (width < 8) || !edgeSelected (s.get (R.TSI_CTRL_EDGE tsi)) rising then
    done s
  else
    let s := s.advanceTo time
    let early := match assocGet s.tb.tsiLast tsi with | none => false | some t => decide (s.now < t + 1000)
    if early then done (s.bump (R.TSI_STAT_IN_DROP tsi))
    else
      let s := s.putTb { s.tb with tsiLast := assocSet s.tb.tsiLast tsi s.now }
      let back := 9 * 2 ^ 32 + realDiv 40 (s.get (R.TSI_CTRL_DLY tsi) * 2 ^ 32) 10
      let v := toField 96 ((tbValue s : Int) - back)
      let s := ((s.set (R.TSI_NS_LO_NS tsi) (v / 2 ^ 32)).set (R.TSI_NS_HI_NS tsi) (v / 2 ^ 64)).set (R.TSI_FRAC_FRAC tsi) v
      let s := s.bumpWrap (R.TSI_STAT_CAPTURES tsi)
      done (postEvent 0x0D03 [(0, 1, tsi), (4, 2, v / 2 ^ 16), (8, 8, v / 2 ^ 32)] s)

/-- TSO_CTRL_WRITE arms or disarms a pulse output (R416, R417). -/
def execTsoCtrlWrite (tso v : Nat) (s : State) : Outcome State Fault Refusal :=
  let s := (s.set (R.TSO_CTRL_MODE tso) (natBits v 30 1)).set (R.TSO_CTRL_POL tso) (natBits v 29 1)
  if !natBit v 31 then done (armTso (s.setTso tso { s.tso tso with pulse := false }) tso false)
  else if tsoLegal s tso then
    done (tsoPassed (armTso (s.setTso tso { s.tso tso with k := 0 }) tso true) tso)
  else done (armTso ((s.setBit (R.TSO_STAT_BAD_CFG tso) true).setTso tso { s.tso tso with pulse := false }) tso false)

/-- TSO_TARGET_COMMIT: a write of TSO_TGT_HI commits the new target, which replaces the old one at once (R416, R417). -/
def execTsoTargetCommit (tso v : Nat) (s : State) : Outcome State Fault Refusal :=
  let t := v % 2 ^ 32 * 2 ^ 32 + (s.tso tso).stagedLo
  let s := s.setTso tso { s.tso tso with target := t, k := 0 }
  done (tsoPassed ((s.set (R.TSO_TGT_LO_T tso) (t % 2 ^ 32)).set (R.TSO_TGT_HI_T tso) v) tso)

/-- TSO_TARGET_REACHED: the timebase reaches the target of an armed output and the pulse begins (R411, R416). -/
def execTsoTargetReached (tso : Nat) (s : State) : Outcome State Fault Refusal :=
  if s.bit (R.TSO_CTRL_EN tso) && tsoAwaits s tso && s.tb.running && !(s.tso tso).pulse then
    let at_ := tsoNext s tso
    let s := s.advanceTo at_
    let ends := (at_ + s.get (R.TSO_WIDTH_WIDTH tso)) % 2 ^ 64
    done (s.setTso tso { s.tso tso with pulse := true, k := (s.tso tso).k + 1, ends := ends })
  else done s

/-- TSO_PULSE_END: WIDTH ns after the target the output returns to its inactive level (R416). -/
def execTsoPulseEnd (tso : Nat) (s : State) : Outcome State Fault Refusal :=
  if (s.tso tso).pulse then
    let x := s.tso tso
    done ((s.advanceTo x.ends).setTso tso { x with pulse := false })
  else done s

/-- TIME_ERR_SECOND: in codes 2 to 4 the bound grows by HOLD, 10 ns for each 10 ppb, and saturates (R418). -/
def execTimeErrSecond (s : State) : Outcome State Fault Refusal :=
  if s.tb.running && decide (2 ≤ s.get R.TIME_QUALITY_CODE) then
    done (s.bumpBy R.TIME_ERR_ERR (10 * s.get R.BRIDGE_CFG_HOLD))
  else done s

/-- RATIO_MEASURE_DONE: the last 65,536 ticks of a source took `ns` of the timebase (R422). -/
def execRatioMeasureDone (rc : Bool) (ns : Nat) (s : State) : Outcome State Fault Refusal :=
  if s.tb.running then done (s.set (if rc then R.RC_RATIO_RATIO else R.LF_RATIO_RATIO) (min 0xFFFFFFFF ns)) else done s

/-- GT_MATCH: the timer's step onto its compare value (R426, R429). -/
def execGtMatch (gt : Nat) (s : State) : Outcome State Fault Refusal :=
  if gtCounts s gt && s.bit (R.GT_CMPCFG_CMP_EN gt) then done (gtOnto s gt (gtPair s gt R.GT_CMP_VALUE) false) else done s

/-- GT_WRAP: the timer's step from its largest count to 0 (R424, R429). -/
def execGtWrap (gt : Nat) (s : State) : Outcome State Fault Refusal :=
  if gtCounts s gt then done (gtOnto s gt 0 true) else done s

/-- GT_CAPTURE: an edge of the filtered input; every (EPSC + 1)th qualified one captures the count in mode 2 (R424, R425). -/
def execGtCapture (gt : Nat) (rising : Bool) (s : State) : Outcome State Fault Refusal :=
  if 38 ≤ s.get (R.GT_CFG_INSEL gt) then done s
  else
    let s := s.setGt gt { s.gt gt with input := rising }
    if gtCounts s gt && decide (s.get (R.GT_CFG_MODE gt) = 2) && edgeSelected (s.get (R.GT_CFG_EDGE gt)) rising then
      if s.get (R.GT_CFG_EPSC gt) ≤ (s.gt gt).edges then done (gtTake (s.setGt gt { s.gt gt with edges := 0 }) gt)
      else done (s.setGt gt { s.gt gt with edges := (s.gt gt).edges + 1 })
    else done s

/-- GT_REGISTER_APPLY: the oldest write of the timer comes into force at W + 2, and with it those issued before it (R36, R427). -/
def execGtRegisterApply (gt : Nat) (s : State) : Outcome State Fault Refusal :=
  let l := s.tb.gtWrites
  let k := l.findIdx fun w => w.1 = gt
  if k < l.length then done (gtApply (s.putTb { s.tb with gtWrites := l.drop (k + 1) }) (l.take (k + 1))) else done s

/-- GT_CNT_LO_READ: a read of the low count of a linked pair captures the high one; writes under way come into force
first (R36, R430). -/
def execGtCntLoRead (q : Requester) (gt : Nat) (s : State) : Outcome State Fault Refusal :=
  let s := timersApply s
  let c := s.get (R.GT_CNT_COUNT gt)
  if gtLinked s gt then
    let x := s.snapsOf q
    done ((s.setSnaps q { x with gtHi := assocSet x.gtHi gt (s.get (R.GT_CNT_COUNT (gt + 1))) }).answer q c)
  else done (s.answer q c)

end Sys2Proof.Machine
end

