-- ==== Sys2Proof/Machine/Update.lean ====
section
/-!
DEFINITION. The rows of firmware and configuration update (chapter 20).
-/

namespace Sys2Proof.Machine

open Host (Outcome)

/-- A UPD_CMD write of a requester that may write it, on a running device; others are refused (R551). -/
def updateCommand (s : State) (q : Requester) (f : State → State) : State :=
  if !running s then s else if !mayUpdate q then badUpdate s else f s

/-- An image is staged and waits for OP 2, OP 4 or OP 6. -/
def staged (s : State) : Bool := decide (updState s = updStaged) && s.upd.atRestart.isNone

/-- UPD_STAGE (R550, R551). -/
def execUpdStage (q : Requester) (comp : Nat) (s : State) : Outcome State Fault Refusal :=
  done (updateCommand s q fun t => if updState t ≠ updIdle then updResult t 1 else stageImage t comp)

/-- STAGE_WRITE_DONE (R550): `readOk` is whether the read-back of the slot succeeded. -/
def execStageWriteDone (readOk : Bool) (s : State) : Outcome State Fault Refusal :=
  done (if running s && decide (updState s = updWriting) then stageEnds s readOk else s)

/-- UPD_ACTIVATE (R552, R558, R566). -/
def execUpdActivate (q : Requester) (swap : Bool) (s : State) : Outcome State Fault Refusal :=
  done (updateCommand s q fun t => if staged t then activate t swap else updResult t 5)

/-- UPD_REJECT (Table 20-5): a health failure by command of the host. -/
def execUpdReject (q : Requester) (s : State) : Outcome State Fault Refusal :=
  done (updateCommand s q fun t =>
    if q ≠ .host then updResult t 2
    else if updState t = updHandover ∨ updState t = updSwitch ∨ updState t = updProbation then
      updResult (healthFails t [updComp t]) 0
    else updResult t 5)

/-- UPD_ABORT (R549, R551). -/
def execUpdAbort (q : Requester) (s : State) : Outcome State Fault Refusal :=
  done (updateCommand s q fun t =>
    if staged t then
      let r := slotChange t (updComp t) t.upd.target slotEmpty false none (configFloor t)
      if r.2 then setUpd (updResult r.1 0) updIdle else updResult r.1 4
    else updResult t 5)

/-- UPD_BOOT_LOAD (R78, R89): the image in the window is offered to the boot. -/
def execUpdBootLoad (q : Requester) (comp : Nat) (s : State) : Outcome State Fault Refusal :=
  if !powered s then done s
  else if !mayUpdate q then done (badUpdate s)
  else if !hostLoads s then done (updResult s 1)
  else
    let (s, r) := offerImage s comp (windowImage s)
    done (if r = 0 then updResult s 0 else updResult (s.set R.UPD_STATUS_REASON r) 3)

/-- UPD_ACTIVATE_AT_RESTART (R558): the activate change alone; the next restart boots the image. -/
def execUpdActivateAtRestart (q : Requester) (s : State) : Outcome State Fault Refusal :=
  done (updateCommand s q fun t =>
    if staged t then
      let r := activateChange t
      if r.2 then updResult (r.1.putUpd { r.1.upd with atRestart := some (updComp t) }) 0 else updResult r.1 4
    else updResult t 5)

/-- The runtime of a handover runs, and a core is next to restart. -/
def coreNext (s : State) (core : Nat) : Bool :=
  decide (updComp s = 2) && (decide (updState s = updHandover) || decide (updState s = updFallback)) && decide (s.upd.unit = core) &&
    decide (core < 4)

/-- CORE_HANDOVER_DONE (R553): cores come up in ascending number. -/
def execCoreHandoverDone (core : Nat) (s : State) : Outcome State Fault Refusal :=
  if running s && coreNext s core then done (setCpu (s.putUpd { s.upd with unit := core + 1 }) core 1) else done s

/-- CORE_HANDOVER_TIMEOUT (R563): a warm restart from the previous slots, after a planned switchover where one is possible. -/
def execCoreHandoverTimeout (core : Nat) (s : State) : Outcome State Fault Refusal :=
  if running s && coreNext s core then
    let s := fallBack s 2
    done (if switchResult s = 1 then startPlanned s 12 7 else warmRestart s)
  else done s

/-- HANDOVER_COMPLETE (R552 to R557, R562): `fails` are the self-tests that fail under the new security firmware, with their
engines and test codes. -/
def execHandoverComplete (fails : List (Nat × Nat)) (s : State) : Outcome State Fault Refusal :=
  if running s && (decide (updState s = updHandover) || decide (updState s = updFallback)) && handoverReady s then
    done (endHandover s fails)
  else done s

/-- The next slot boundary begins an SF0. -/
def sfBegins (s : State) : Bool := decide (slotOffset s (s.asnNat + 1) = 0)

/-- The elapsed time of the next slot boundary. -/
def boundaryAt (s : State) : Nat := s.now + (slotEnd s - s.tbNs)

/-- CONFIG_LIVE_APPLY (R557): at the first SF0 boundary at least 10 ms after OP 2. -/
def execConfigLiveApply (s : State) : Outcome State Fault Refusal :=
  if running s && s.upd.livePending && s.bit R.PSM_STATUS_RUN && sfBegins s && decide (s.upd.liveFrom ≤ boundaryAt s) then
    let s := s.advanceTo (slotEnd s)
    let i := handoverImage s
    done (liveApply s i.1 ((s.asnNat + 1) % 2 ^ 40) i.2)
  else done s

/-- A confirmation that R559 accepts: the record that it confirms. -/
def confirmable (s : State) (q : Requester) (key comp : Nat) : Option Probation :=
  match s.upd.probation with
  | none => none
  | some p =>
    if key = 0x434F4E ∧ updState s = updProbation ∧ p.comp = comp ∧ confirmer comp = some q ∧ p.started + 60 * secondNs ≤ s.now ∧
        s.now < p.ends ∧ s.upd.unhealthy = false then some p else none

/-- UPD_CONFIRM_WRITE (R559 to R561). -/
def execUpdConfirmWrite (q : Requester) (key comp : Nat) (s : State) : Outcome State Fault Refusal :=
  if !running s then done s
  else match confirmable s q key comp with
    | none => done (s.bump R.UPD_CNT_BAD_CONFIRM)
    | some p => done (confirmProbation s p)

/-- PROBATION_EXPIRY (R562): the timer has run out. -/
def execProbationExpiry (s : State) : Outcome State Fault Refusal :=
  match s.upd.probation with
  | none => done s
  | some p => if running s && decide (updState s = updProbation) then done (beginFallback (s.reach p.ends) 0) else done s

/-- The configuration sequence in force, 0 until commit (R557). -/
def sequenceInForce (s : State) : Nat := if s.boot.committed then configSequence (inForce s compConfig) else 0

/-- UPD_CFGSEQ_LO_READ (R557): the read captures the high half for the requester. -/
def execUpdCfgseqLoRead (q : Requester) (s : State) : Outcome State Fault Refusal :=
  if !powered s then done s
  else
    let n := sequenceInForce s
    let x : Snapshots := { s.snapsOf q with cfgSeqHi := some (n / 2 ^ 32) }
    done ((s.setSnaps q x).answer q (n % 2 ^ 32))

end Sys2Proof.Machine
end

