-- ==== Sys2Proof/Machine/RegisterAccess.lean ====
section
/-!
DEFINITION. The rows of chapter 00: a write and a read of any register. A register with a row of its own takes that
row's meaning.
-/

namespace Sys2Proof.Machine

open Host (Outcome)

/-- The state in which a command leaves the block. -/
def settled (s : State) : Outcome State Fault Refusal → State
  | .next t => t
  | _ => s

/-! ## Writes that have a row of their own -/

/-- An OP that the forwarding block does not give the host or the application core is refused (R328); OP 0 is none. -/
def opRefused (s : State) (q : Requester) (op : Nat) (f : Fld) (result : Nat) : State :=
  if op ≠ 0 ∧ (q = .host ∨ q = .app) then s.set f result else s

/-- WAKE_REQ, IMAP_REQ, NCS_CMD, EHT_CMD and HB_CMD (Tables 9-6, 7-10 and 10-10). -/
def writeTableCommand (s : State) (q : Requester) (off v : Nat) : Option State :=
  let n := natBits v 0 20
  if off = R.WAKE_REQ then
    some (match natBits v 30 2 with
      | 1 => settled s (execWakeSetTarget n (natBits v 20 4) s)
      | 2 => settled s (execWakeResetModel n s)
      | _ => s)
  else if off = R.IMAP_REQ then
    some (match natBits v 22 2 with
      | 1 => settled s (execImapRateChange n (natBits v 20 2) s)
      | 2 => settled s (execImapClear n s)
      | 3 => settled s (execImapResend n s)
      | _ => s)
  else if off = R.NCS_CMD 0 then
    some (match natBits v 28 4 with
      | 1 => settled s (execNcsRead q n s)
      | 2 => settled s (execNcsMaskedWrite q n s)
      | 3 => settled s (execNcsZeroLine q n s)
      | 4 => settled s (execNcsBulkClear q s)
      | op => opRefused s q op (R.NCS_STAT_RESULT q.bank) 3)
  else if off = R.EHT_CMD 0 then
    some (match natBits v 28 4 with
      | 1 => settled s (execEhtLookup q 0 0 s)
      | 2 => settled s (execEhtInsert q n s)
      | 3 => settled s (execEhtDelete q s)
      | op => opRefused s q op (R.EHT_STAT_RESULT q.bank) 3)
  else if off = R.HB_CMD 0 then
    some (match natBits v 28 4 with
      | 1 => settled s (execHbRead q (natBits v 20 2) n s)
      | 2 => settled s (execHbInvalidate q (natBits v 20 2) n s)
      | op => opRefused s q op (R.HB_STAT_RESULT q.bank) 4)
  else none

/-- SEC_CMD OP 3 (R485, R487): the command in the requester's buffer runs until the command of its operation executes it; one with no such
operation is refused like a bad argument. -/
def writeSigned (s : State) (q : Requester) : State :=
  let b := sigBytes s q
  if !openTo s q then s
  else if s.sec.command.isSome ∨ (1 ≤ sigOp b ∧ sigOp b ≤ 8) then startCommand s q
  else setResult (s.bump R.SEC_CNT3_CMD_REJ) q (if sigCheck s b ≠ 0 then sigCheck s b else 4)

/-- SNAP_CTRL, SEC_CMD, PAIR_CMD, MI_CMD, UPD_CMD and PWR_CMD. `fails` is what self-tests find, `data` the descriptor that a restore
reads from host memory. -/
def writeCommand (s : State) (q : Requester) (off v : Nat) (fails : List (Nat × Nat)) (data : List Byte) : Option State :=
  let op := natBits v 28 4
  if off = R.SNAP_CTRL then
    some (match op with
      | 1 => settled s (execSnapshotExport s)
      | 2 => settled s (execSnapshotRestore (natBit v 27) data s)
      | 3 => settled s (execSnapshotAbort s)
      | _ => s)
  else if off = R.SEC_CMD 0 then
    some (match op with
      | 1 => settled s (execSecAttest q s)
      | 2 => settled s (execSecSelftestAll q fails s)
      | 3 => writeSigned s q
      | 4 => settled s (execSecSelftestKind q (natBits v 24 4) fails s)
      | _ => s)
  else if off = R.PAIR_CMD then
    some (match op with
      | 1 => settled s (execPairPlannedSwitchover s)
      | 2 => settled s (execPairRestartResync s)
      | 3 => settled s (execPairHold s)
      | 4 => settled s (execPairResume s)
      | _ => s)
  else if off = R.MI_CMD then
    some (match op with
      | 1 => settled s (execMiApplyRepairs q s)
      | 2 => settled s (execMiScrubNow q s)
      | _ => s)
  else if off = R.UPD_CMD then
    some (match op with
      | 1 => settled s (execUpdStage q (natBits v 0 3) s)
      | 2 => settled s (execUpdActivate q (natBit v 27) s)
      | 3 => settled s (execUpdReject q s)
      | 4 => settled s (execUpdAbort q s)
      | 5 => settled s (execUpdBootLoad q (natBits v 0 3) s)
      | 6 => settled s (execUpdActivateAtRestart q s)
      | _ => s)
  else if off = R.PWR_CMD then
    some (match op with
      | 1 => settled s (execPwrCmdSepia q (natBits v 0 16) s)
      | 2 => settled s (execPwrCmdUmber q (natBits v 0 16) s)
      | _ => s)
  else none

/-- Other single registers with a row or a rule of their own. -/
def writeSingle (s : State) (q : Requester) (off v : Nat) : Option State :=
  if off = R.RESET_CTRL then some (settled s (execResetCtrlWrite v s))
  else if off = R.AON_FAIL then some (if natBit v 16 then settled s (execAonFailClear s) else s)
  else if off = R.RTW_DATA 0 then some (settled s (execRtwDataWrite q v s))
  else if off = R.OSC_MAN then some (settled s (execOscManWrite (natBits v 0 16) s))
  else if off = R.PWR_LEVEL then some (settled s (execPwrLevelWrite q v s))
  else if off = R.JESD_CTRL then
    let t := writePlain s q off v
    some (if natBit v 6 then settled t (execJesdArm t) else t)
  else if off = R.TB_INC_LO then some (ownerWrite s q fun t => t.putTb { t.tb with stagedInc := v })
  else if off = R.TB_INC_HI then some (settled s (execTbIncCommit q v s))
  else if off = R.TB_STEP_LO then some (ownerWrite s q fun t => t.putTb { t.tb with stagedStep := v })
  else if off = R.TB_STEP_HI then some (settled s (execTbStepCommit q v s))
  else if off = R.TB_SERVO then some (settled s (execTbServoWrite q v s))
  else if off = R.TB_FERR then some (ownerWrite s q fun t => t.set R.TB_FERR_P v)
  else if off = R.PAIR_KEEP then some (settled s (execPairKeepWrite q s))
  else if off = R.MI_FLIP then some (settled s (execMiFlipWrite q v s))
  else if off = R.APP_CTRL then some (settled s (if natBit v 0 then execAppHold q s else execAppRelease q s))
  else if off = R.WDOG_KICK then some (settled s (execAppWdogKick q v s))
  else if off = R.MB_TX_PUSH then some (settled s (execMbTxPush (natBit v 0) s))
  else if off = R.MB_RX_POP then some (settled s (execMbRxPop s))
  else if off = R.GPIO_SET then some (settled s (execGpioSetWrite v s))
  else if off = R.GPIO_CLR then some (settled s (execGpioClrWrite v s))
  else if off = R.AIC_EOI then some (settled s (execAicEoiWrite q (natBits v 0 10) s))
  else if off = R.AIC_GDIS then some (settled s (execAicGdisWrite v s))
  else if off = R.AIC_SWI then some (settled s (execAicSwiWrite v s))
  else if off = R.UPD_PROB then some (writeProb s v)
  else if off = R.UPD_CONFIRM then some (settled s (execUpdConfirmWrite q (natBits v 8 24) (natBits v 0 3) s))
  else none

/-- CAL_REQ of a transceiver (Table 5-10). -/
def writeCalReq (s : State) (n v : Nat) : State :=
  let x := natBit v 8
  match natBits v 0 4 with
  | 0 => settled s (execCalCancel n s)
  | 1 => settled s (execCalImage n x s)
  | 2 => settled s (execCalAnalogFilter n x s)
  | 3 => settled s (execCalAnalogDc n x s)
  | 4 => settled s (execCalTxIqLo n x s)
  | 5 => settled s (execCalFull n x s)
  | 8 => settled s (execCalSelfTest n x s)
  | _ => s

/-- The registers of one event ring, by their place in its block. -/
def writeRing (s : State) (q : Requester) (n sub off v : Nat) : State :=
  match sub with
  | 0x00 => settled s (execEvrCtrlWrite n v s)
  | 0x08 => settled s (execEvrBaseWrite n 0 v s)
  | 0x0C => settled s (execEvrBaseWrite n 1 v s)
  | 0x10 => settled s (execEvrBaseWrite n 2 v s)
  | 0x14 => settled s (execEvrBaseWrite n 3 v s)
  | 0x1C => settled s (execEvrConsWrite n v s)
  | _ => writePlain s q off v

/-- The registers of one host frame queue. -/
def writeHostQueue (s : State) (q : Requester) (n sub off v : Nat) : State :=
  match sub with
  | 0x00 => settled s (execHqCtrlWrite n v s)
  | 0x08 => writeHqBase s q n off v
  | 0x0C => writeHqBase s q n off v
  | 0x10 => writeHqBase s q n off v
  | 0x14 => writeHqBase s q n off v
  | 0x18 => settled s (execHqTailWrite n v s)
  | _ => writePlain s q off v

/-- The registers of one pulse output. -/
def writeTso (s : State) (q : Requester) (n sub off v : Nat) : State :=
  match sub with
  | 0x00 => settled s (execTsoCtrlWrite n v s)
  | 0x04 => (s.set (R.TSO_TGT_LO_T n) v).setTso n { s.tso n with stagedLo := v }
  | 0x08 => settled s (execTsoTargetCommit n v s)
  | _ => writePlain s q off v

/-- Registers that exist once for each of a number of units. -/
def writeArray (s : State) (q : Requester) (off v : Nat) : Option State :=
  if 0x00101000 ≤ off ∧ off < 0x00101400 then some (writeRing s q ((off - 0x00101000) / 0x40) (off % 0x40) off v)
  else if 0x00200100 ≤ off ∧ off < 0x00200900 then some (writeHostQueue s q ((off - 0x00200100) / 0x100) (off % 0x100) off v)
  else if 0x06000100 ≤ off ∧ off < 0x06000180 then some (writeTso s q ((off - 0x06000100) / 0x20) (off % 0x20) off v)
  else if 0x06001000 ≤ off ∧ off < 0x06001800 then some (gtPost s ((off - 0x06001000) / 0x40) (off % 0x40) v)
  else match indexIn off (R.CAL_REQ 0) 0x10000 16 with
    | some n => some (writeCalReq s n v)
    | none => match indexIn off (R.PATH_SCHED 0) 4 32 with
      | some n => some (settled s (execPathSchedWrite n (natBit v 31) s))
      | none => match indexIn off (R.Q_TEST 0) 0x40 32 with
        | some n => some (if natBit v 0 then settled s (execQueueTestForce n 0 s) else s)
        | none => match indexIn off (R.INFRA_ENT 0) 4 16384 with
          | some n => some (settled s (execInfraEntryWrite q n v s))
          | none => match indexIn off (R.GPIO_CFG 0) 4 32 with
            | some n => some (writeGpioCfg s n v)
            | none => match indexIn off (R.AIC_EN 0) 4 8 with
              | some n => some (settled s (execAicEnWrite q n v s))
              | none => (indexIn off (R.AIC_SRC 0) 4 256).map fun n => writeAicSrc s q n v

/-- A register whose write has a rule of its own, with the state after it. -/
def writeSpecial (s : State) (q : Requester) (off v : Nat) (fails : List (Nat × Nat)) (data : List Byte) : Option State :=
  match writeSingle s q off v with
  | some t => some t
  | none => match writeCommand s q off v fails data with
    | some t => some t
    | none => match writeTableCommand s q off v with
      | some t => some t
      | none => match writeArray s q off v with
        | some t => some t
        | none => match msixIndex off with
          | some k => some (writeMsix s k v)
          | none => (windowIndex off).map fun a => (s.putWindow (setBytes s.window a (toLE 4 v)))

/-- One aligned 32-bit write that reaches its block. -/
def writeRegister (s : State) (q : Requester) (off v : Nat) (fails : List (Nat × Nat)) (data : List Byte) : State :=
  match writeSpecial s q off v fails data with
  | some t => t
  | none => writePlain s q off v

/-- One aligned 32-bit write: a closed block ignores it (R75), counting it during the configuration apply (R99), and so does an
absent unit (R4). -/
def writeWord (s : State) (q : Requester) (off v : Nat) (fails : List (Nat × Nat)) (data : List Byte) : State :=
  if !blockOpen s q off then
    if q = .host ∧ s.get R.BOOT_STATUS_PHASE = 3 then s.bump (R.RTW_DENIED_COUNT q.bank) else s
  else if !unitAt s.part off then s
  else writeRegister s q off v fails data

/-- The words that an access of `size` bytes at `off` touches, lowest first, and whether it covers them whole (R6). -/
def touched (off size : Nat) : List (Nat × Bool) :=
  (List.range ((off % 4 + size + 3) / 4)).map fun i =>
    let w := off / 4 * 4 + 4 * i
    (w, decide (off ≤ w) && decide (w + 4 ≤ off + size))

/-- REGISTER_WRITE (R6, R10): `size` bytes of `v` at BAR0 offset `off`. `poisoned` is the TLP's EP bit (R365); `fails` and `data` are
what a command that the write starts meets: the self-tests that fail, and the restore descriptor in host memory. -/
def execRegisterWrite (q : Requester) (off size v : Nat) (poisoned : Bool) (fails : List (Nat × Nat)) (data : List Byte) (s : State) :
    Outcome State Fault Refusal :=
  if !powered s then done s
  else if poisoned then done (s.bump R.HIF_CNT_POISONED)
  else
    done (foldState (fun (t : State) (w : Nat × Bool) =>
      if w.2 then writeWord t q w.1 (natBits v (8 * (w.1 - off)) 32) fails data else countNarrow t q) s (touched off size))

/-! ## Reads -/

/-- A read that has a row or a snapshot rule of its own. -/
def readSpecial (s : State) (q : Requester) (off : Nat) : Option State :=
  let x := s.snapsOf q
  if off = R.ASN_LO then some (settled s (execAsnLoRead q s))
  else if off = R.ASN_HI then some (snapAnswer s q x.asnHi (s.asnNat / 2 ^ 32) { x with asnHi := none })
  else if off = R.TB_NS_LO then some (settled s (execTbNsLoRead q s))
  else if off = R.TB_NS_HI then some (snapAnswer s q x.tbHi (s.tbNs / 2 ^ 32) { x with tbHi := none })
  else if off = R.TB_FRAC then some (snapAnswer s q x.tbFrac s.tb.frac.toNat { x with tbFrac := none })
  else if off = R.UPD_CFGSEQ_LO then some (settled s (execUpdCfgseqLoRead q s))
  else if off = R.UPD_CFGSEQ_HI then some (snapAnswer s q x.cfgSeqHi (cfgSequence s / 2 ^ 32) { x with cfgSeqHi := none })
  else if off = R.AIC_CLAIM then some (settled s (execAicClaimRead q s))
  else match indexIn off (R.TSI_NS_LO 0) 0x20 2 with
    | some n => some (readTsi s q n 0)
    | none => match indexIn off (R.TSI_NS_HI 0) 0x20 2 with
      | some n => some (readTsi s q n 1)
      | none => match indexIn off (R.TSI_FRAC 0) 0x20 2 with
        | some n => some (readTsi s q n 2)
        | none => match indexIn off (R.GT_CNT 0) 0x40 32 with
          | some n =>
            some (if gtIsHigh s n then readGtHigh s q n else settled s (execGtCntLoRead q n s))
          | none => (indexIn off (R.GT_CAP 0) 0x40 32).map fun n => readGtCap s q n

/-- What a read brings about before it answers: timer writes of its block come into force (R36), the interrupt controller settles, and a
read-back of AIC_EN closes its window (R451). -/
def beforeRead (s : State) (off : Nat) : State :=
  if 0x06000000 ≤ off ∧ off < 0x07000000 then timersApply s
  else if 0x0A001000 ≤ off ∧ off < 0x0A002000 then
    match indexIn off (R.AIC_EN 0) 4 8 with
    | some k => closeWindow (aicUpdate s) k
    | none => aicUpdate s
  else s

/-- One 32-bit read: the answer goes to the requester, and RC fields clear. -/
def readWord (s : State) (q : Requester) (off : Nat) : State :=
  if !blockOpen s q off || !unitAt s.part off then s.answer q 0
  else
    let s := beforeRead s off
    match readSpecial s q off with
    | some t => t
    | none => (afterRead s q off).answer q (regValue s q off)

/-- Read the words that an access touches, lowest first, gathering their values. -/
def readWords (q : Requester) : List (Nat × Bool) → Nat → Nat → State → State × Nat
  | [], _, acc, s => (s, acc)
  | w :: l, i, acc, s =>
    let t := readWord s q w.1
    readWords q l (i + 1) (acc + (assocGet t.reply q.bank).getD 0 * 2 ^ (32 * i)) t

/-- COUNTER_READ_CLEAR (R6, R10, R12): a read of `size` bytes at BAR0 offset `off` answers the bytes it addresses, and every RC field
of the registers it touches clears. -/
def execCounterReadClear (q : Requester) (off size : Nat) (s : State) : Outcome State Fault Refusal :=
  if !powered s then done s
  else
    let r := readWords q (touched off size) 0 0 s
    done (r.1.answer q (natBits r.2 (8 * (off % 4)) (8 * size)))

end Sys2Proof.Machine
end

