-- ==== Sys2Proof/Machine/Dispatch.lean ====
section
/-!
DEFINITION. Which meaning each command has.
-/

namespace Sys2Proof.Machine

open Host (Outcome)

/-- The effect of a command on everything but the queue. -/
def exec (i : Instr) (s : State) : Host.Outcome State Fault Refusal :=
  match i with
  | .porstNRelease mode0 mode1 id => Sys2Proof.Machine.execPorstNRelease mode0 mode1 id s
  | .porstNAssert => Sys2Proof.Machine.execPorstNAssert s
  | .vddAonLoss => Sys2Proof.Machine.execVddAonLoss s
  | .vddAonUp => Sys2Proof.Machine.execVddAonUp s
  | .pwrPgHigh => Sys2Proof.Machine.execPwrPgHigh s
  | .pwrPgTimeout => Sys2Proof.Machine.execPwrPgTimeout s
  | .powerRetryWaitEnd => Sys2Proof.Machine.execPowerRetryWaitEnd s
  | .pwrPgFall => Sys2Proof.Machine.execPwrPgFall s
  | .pllLock nLf nRc lag => Sys2Proof.Machine.execPllLock nLf nRc lag s
  | .refclkTimeout code => Sys2Proof.Machine.execRefclkTimeout code s
  | .componentLoadDone readOk => Sys2Proof.Machine.execComponentLoadDone readOk s
  | .configImageRead readOk fails => Sys2Proof.Machine.execConfigImageRead readOk fails s
  | .coldCalDone path failed set_ tx analog health0 health1 => Sys2Proof.Machine.execColdCalDone path failed set_ tx analog health0 health1 s
  | .warmRstNAssert => Sys2Proof.Machine.execWarmRstNAssert s
  | .warmRstNRelease => Sys2Proof.Machine.execWarmRstNRelease s
  | .resetCtrlWrite key => Sys2Proof.Machine.execResetCtrlWrite key s
  | .warmRestartDelayEnd => Sys2Proof.Machine.execWarmRestartDelayEnd s
  | .recoveryChunk frame => Sys2Proof.Machine.execRecoveryChunk frame s
  | .recoveryComponentDone frame => Sys2Proof.Machine.execRecoveryComponentDone frame s
  | .lfclkMeasureDone cycles => Sys2Proof.Machine.execLfclkMeasureDone cycles s
  | .lfclkAcceptTimeout => Sys2Proof.Machine.execLfclkAcceptTimeout s
  | .lfclkRemeasureTimer => Sys2Proof.Machine.execLfclkRemeasureTimer s
  | .lfclkEdgeLoss => Sys2Proof.Machine.execLfclkEdgeLoss s
  | .rtwDataWrite q v => Sys2Proof.Machine.execRtwDataWrite q v s
  | .aonFailClear => Sys2Proof.Machine.execAonFailClear s
  | .retentionRefresh bad => Sys2Proof.Machine.execRetentionRefresh bad s
  | .registerWrite q off size v poisoned fails data => Sys2Proof.Machine.execRegisterWrite q off size v poisoned fails data s
  | .counterReadClear q off size => Sys2Proof.Machine.execCounterReadClear q off size s
  | .synthLockAcquired path => Sys2Proof.Machine.execSynthLockAcquired path s
  | .synthLockLoss path => Sys2Proof.Machine.execSynthLockLoss path s
  | .lockTimeout path => Sys2Proof.Machine.execLockTimeout path s
  | .oosRetuneRetry path => Sys2Proof.Machine.execOosRetuneRetry path s
  | .txIntervalStart path => Sys2Proof.Machine.execTxIntervalStart path s
  | .blankingEnd path => Sys2Proof.Machine.execBlankingEnd path s
  | .txLatestStartExpiry path => Sys2Proof.Machine.execTxLatestStartExpiry path s
  | .calYieldRequest path => Sys2Proof.Machine.execCalYieldRequest path s
  | .devclkCheck hz => Sys2Proof.Machine.execDevclkCheck hz s
  | .jesdArm => Sys2Proof.Machine.execJesdArm s
  | .sysrefEdge position => Sys2Proof.Machine.execSysrefEdge position s
  | .jesdMultiblockRx lane crcOk syncOk => Sys2Proof.Machine.execJesdMultiblockRx lane crcOk syncOk s
  | .jesdLinkAligned dir => Sys2Proof.Machine.execJesdLinkAligned dir s
  | .coeffSetIssue path set_ => Sys2Proof.Machine.execCoeffSetIssue path set_ s
  | .barrierComplete path => Sys2Proof.Machine.execBarrierComplete path s
  | .estimatorResult path kind chain bin epoch span inPhase quad rejection halfWidth => Sys2Proof.Machine.execEstimatorResult path kind chain bin epoch span inPhase quad rejection halfWidth s
  | .noiseReportTimer engine powers => Sys2Proof.Machine.execNoiseReportTimer engine powers s
  | .trimInterval => Sys2Proof.Machine.execTrimInterval s
  | .oscManWrite v => Sys2Proof.Machine.execOscManWrite v s
  | .calCancel path => Sys2Proof.Machine.execCalCancel path s
  | .calImage path excl => Sys2Proof.Machine.execCalImage path excl s
  | .calAnalogFilter path excl => Sys2Proof.Machine.execCalAnalogFilter path excl s
  | .calAnalogDc path excl => Sys2Proof.Machine.execCalAnalogDc path excl s
  | .calTxIqLo path excl => Sys2Proof.Machine.execCalTxIqLo path excl s
  | .calFull path excl => Sys2Proof.Machine.execCalFull path excl s
  | .calSelfTest path excl => Sys2Proof.Machine.execCalSelfTest path excl s
  | .slicedCalUnit path last set_ tx analog stFail time => Sys2Proof.Machine.execSlicedCalUnit path last set_ tx analog stFail time s
  | .exclusiveCalStart path => Sys2Proof.Machine.execExclusiveCalStart path s
  | .exclusiveCalDone path failed set_ tx analog health0 health1 stFail => Sys2Proof.Machine.execExclusiveCalDone path failed set_ tx analog health0 health1 stFail s
  | .calRequestTimeout path => Sys2Proof.Machine.execCalRequestTimeout path s
  | .assignmentRecord engine => Sys2Proof.Machine.execAssignmentRecord engine s
  | .preambleDetect engine rhoA rhoB hypothesis => Sys2Proof.Machine.execPreambleDetect engine rhoA rhoB hypothesis s
  | .falseDetection engine => Sys2Proof.Machine.execFalseDetection engine s
  | .falseDetSecond cluster => Sys2Proof.Machine.execFalseDetSecond cluster s
  | .antennaDecision engine metricA metricB => Sys2Proof.Machine.execAntennaDecision engine metricA metricB s
  | .sfdDetect engine time estimate => Sys2Proof.Machine.execSfdDetect engine time estimate s
  | .phrDecode engine header len fcs4 reserved modeSwitch hcsOk mcs => Sys2Proof.Machine.execPhrDecode engine header len fcs4 reserved modeSwitch hcsOk mcs s
  | .frameEnd engine psdu fcsOk saturated power snr residual snrs nulls image => Sys2Proof.Machine.execFrameEnd engine psdu fcsOk saturated power snr residual snrs nulls image s
  | .rxqWaitTimeout engine => Sys2Proof.Machine.execRxqWaitTimeout engine s
  | .txWorkItem te handle => Sys2Proof.Machine.execTxWorkItem te handle s
  | .txFrameEnd te => Sys2Proof.Machine.execTxFrameEnd te s
  | .mapTrailer => Sys2Proof.Machine.execMapTrailer s
  | .staleIndigoReport cluster => Sys2Proof.Machine.execStaleIndigoReport cluster s
  | .mapHoldExpiry node => Sys2Proof.Machine.execMapHoldExpiry node s
  | .imapRateChange node rate => Sys2Proof.Machine.execImapRateChange node rate s
  | .imapClear node => Sys2Proof.Machine.execImapClear node s
  | .imapResend node => Sys2Proof.Machine.execImapResend node s
  | .slotBoundary => Sys2Proof.Machine.execSlotBoundary s
  | .receivedFrame cluster written => Sys2Proof.Machine.execReceivedFrame cluster written s
  | .replyWindowEnd node => Sys2Proof.Machine.execReplyWindowEnd node s
  | .nodeAckWindowEnd node => Sys2Proof.Machine.execNodeAckWindowEnd node s
  | .joinRequest cluster => Sys2Proof.Machine.execJoinRequest cluster s
  | .driftObservation => Sys2Proof.Machine.execDriftObservation s
  | .modelAgeExpiry node => Sys2Proof.Machine.execModelAgeExpiry node s
  | .wakeSetTarget node k => Sys2Proof.Machine.execWakeSetTarget node k s
  | .wakeResetModel node => Sys2Proof.Machine.execWakeResetModel node s
  | .peerBeaconRx cluster => Sys2Proof.Machine.execPeerBeaconRx cluster s
  | .trackSlotframeMiss => Sys2Proof.Machine.execTrackSlotframeMiss s
  | .ehtLookup q way flip => Sys2Proof.Machine.execEhtLookup q way flip s
  | .ehtInsert q index => Sys2Proof.Machine.execEhtInsert q index s
  | .ehtDelete q => Sys2Proof.Machine.execEhtDelete q s
  | .ehtRebuildDone => Sys2Proof.Machine.execEhtRebuildDone s
  | .heardByUpdate cluster node path ant rssi flip => Sys2Proof.Machine.execHeardByUpdate cluster node path ant rssi flip s
  | .hbTick => Sys2Proof.Machine.execHbTick s
  | .nodeMinuteSweep => Sys2Proof.Machine.execNodeMinuteSweep s
  | .infraEntryWrite q entry v => Sys2Proof.Machine.execInfraEntryWrite q entry v s
  | .infraComparePass entry flip => Sys2Proof.Machine.execInfraComparePass entry flip s
  | .bar2Read off len => Sys2Proof.Machine.execBar2Read off len s
  | .snapshotExport => Sys2Proof.Machine.execSnapshotExport s
  | .snapshotExportDone pcieError misread => Sys2Proof.Machine.execSnapshotExportDone pcieError misread s
  | .snapshotRestore resume descriptor => Sys2Proof.Machine.execSnapshotRestore resume descriptor s
  | .restoreReadDone lines sums pcieError => Sys2Proof.Machine.execRestoreReadDone lines sums pcieError s
  | .snapshotAbort => Sys2Proof.Machine.execSnapshotAbort s
  | .ncsRead q index => Sys2Proof.Machine.execNcsRead q index s
  | .ncsMaskedWrite q index => Sys2Proof.Machine.execNcsMaskedWrite q index s
  | .ncsZeroLine q index => Sys2Proof.Machine.execNcsZeroLine q index s
  | .ncsBulkClear q => Sys2Proof.Machine.execNcsBulkClear q s
  | .bulkClearDone => Sys2Proof.Machine.execBulkClearDone s
  | .hbRead q cluster index => Sys2Proof.Machine.execHbRead q cluster index s
  | .hbInvalidate q cluster index => Sys2Proof.Machine.execHbInvalidate q cluster index s
  | .scheduleEpochSwitch => Sys2Proof.Machine.execScheduleEpochSwitch s
  | .pathSchedWrite path drain => Sys2Proof.Machine.execPathSchedWrite path drain s
  | .depthSample => Sys2Proof.Machine.execDepthSample s
  | .queueItemWrite queue lane words poison tag data => Sys2Proof.Machine.execQueueItemWrite queue lane words poison tag data s
  | .queueRoomAvailable queue => Sys2Proof.Machine.execQueueRoomAvailable queue s
  | .queueItemRead queue => Sys2Proof.Machine.execQueueItemRead queue s
  | .queuePointerMismatch queue byWriter held => Sys2Proof.Machine.execQueuePointerMismatch queue byWriter held s
  | .queueResetDone queue => Sys2Proof.Machine.execQueueResetDone queue s
  | .queueTestForce queue held => Sys2Proof.Machine.execQueueTestForce queue held s
  | .pcieReset flr => Sys2Proof.Machine.execPcieReset flr s
  | .pcieResetRelease => Sys2Proof.Machine.execPcieResetRelease s
  | .pcieLinkChange up width rate => Sys2Proof.Machine.execPcieLinkChange up width rate s
  | .unsupportedRequest => Sys2Proof.Machine.execUnsupportedRequest s
  | .eventGenerate code data => Sys2Proof.Machine.execEventGenerate code data s
  | .eventRecordWrite ring => Sys2Proof.Machine.execEventRecordWrite ring s
  | .eventWriteback ring => Sys2Proof.Machine.execEventWriteback ring s
  | .msixMessage index => Sys2Proof.Machine.execMsixMessage index s
  | .evrCtrlWrite ring v => Sys2Proof.Machine.execEvrCtrlWrite ring v s
  | .evrBaseWrite ring part v => Sys2Proof.Machine.execEvrBaseWrite ring part v s
  | .evrConsWrite ring v => Sys2Proof.Machine.execEvrConsWrite ring v s
  | .hqCtrlWrite hq v => Sys2Proof.Machine.execHqCtrlWrite hq v s
  | .hqTailWrite hq v => Sys2Proof.Machine.execHqTailWrite hq v s
  | .hostTxDescriptor hq desc data readOk => Sys2Proof.Machine.execHostTxDescriptor hq desc data readOk s
  | .ethIngressFrame port data fcsOk latch delay => Sys2Proof.Machine.execEthIngressFrame port data fcsOk latch delay s
  | .ethPortLinkUp port => Sys2Proof.Machine.execEthPortLinkUp port s
  | .ethPortLinkDown port cause => Sys2Proof.Machine.execEthPortLinkDown port cause s
  | .preemptVerifyTimeout port => Sys2Proof.Machine.execPreemptVerifyTimeout port s
  | .reassemblyTimeout node tag size => Sys2Proof.Machine.execReassemblyTimeout node tag size s
  | .tbIncCommit q v => Sys2Proof.Machine.execTbIncCommit q v s
  | .tbStepCommit q v => Sys2Proof.Machine.execTbStepCommit q v s
  | .tbServoWrite q v => Sys2Proof.Machine.execTbServoWrite q v s
  | .tbNsLoRead q => Sys2Proof.Machine.execTbNsLoRead q s
  | .asnLoRead q => Sys2Proof.Machine.execAsnLoRead q s
  | .tsInputEdge tsi rising width time => Sys2Proof.Machine.execTsInputEdge tsi rising width time s
  | .tsoCtrlWrite tso v => Sys2Proof.Machine.execTsoCtrlWrite tso v s
  | .tsoTargetCommit tso v => Sys2Proof.Machine.execTsoTargetCommit tso v s
  | .tsoTargetReached tso => Sys2Proof.Machine.execTsoTargetReached tso s
  | .tsoPulseEnd tso => Sys2Proof.Machine.execTsoPulseEnd tso s
  | .timeErrSecond => Sys2Proof.Machine.execTimeErrSecond s
  | .ratioMeasureDone rc ns => Sys2Proof.Machine.execRatioMeasureDone rc ns s
  | .gtMatch gt => Sys2Proof.Machine.execGtMatch gt s
  | .gtWrap gt => Sys2Proof.Machine.execGtWrap gt s
  | .gtCapture gt rising => Sys2Proof.Machine.execGtCapture gt rising s
  | .gtRegisterApply gt => Sys2Proof.Machine.execGtRegisterApply gt s
  | .gtCntLoRead q gt => Sys2Proof.Machine.execGtCntLoRead q gt s
  | .cpuWdogWarn core => Sys2Proof.Machine.execCpuWdogWarn core s
  | .cpuWdogExpiry core => Sys2Proof.Machine.execCpuWdogExpiry core s
  | .appAccessFault kind addr parity => Sys2Proof.Machine.execAppAccessFault kind addr parity s
  | .appDoubleFault => Sys2Proof.Machine.execAppDoubleFault s
  | .appHold q => Sys2Proof.Machine.execAppHold q s
  | .appRelease q => Sys2Proof.Machine.execAppRelease q s
  | .appReloadDone readOk => Sys2Proof.Machine.execAppReloadDone readOk s
  | .appWdogKick q v => Sys2Proof.Machine.execAppWdogKick q v s
  | .appWdogHalf => Sys2Proof.Machine.execAppWdogHalf s
  | .appWdogExpiry => Sys2Proof.Machine.execAppWdogExpiry s
  | .mbTxPush endWord => Sys2Proof.Machine.execMbTxPush endWord s
  | .mbRxPop => Sys2Proof.Machine.execMbRxPop s
  | .mbEcho => Sys2Proof.Machine.execMbEcho s
  | .mbEventSubscription => Sys2Proof.Machine.execMbEventSubscription s
  | .mbNodeLineRead => Sys2Proof.Machine.execMbNodeLineRead s
  | .mbTimebase => Sys2Proof.Machine.execMbTimebase s
  | .gpioSetWrite v => Sys2Proof.Machine.execGpioSetWrite v s
  | .gpioClrWrite v => Sys2Proof.Machine.execGpioClrWrite v s
  | .gpioInputChange n level => Sys2Proof.Machine.execGpioInputChange n level s
  | .aicSourceRequest src high => Sys2Proof.Machine.execAicSourceRequest src high s
  | .aicClaimRead q => Sys2Proof.Machine.execAicClaimRead q s
  | .aicEoiWrite q src => Sys2Proof.Machine.execAicEoiWrite q src s
  | .aicGdisWrite v => Sys2Proof.Machine.execAicGdisWrite v s
  | .aicSwiWrite v => Sys2Proof.Machine.execAicSwiWrite v s
  | .aicEnWrite q k v => Sys2Proof.Machine.execAicEnWrite q k v s
  | .keyDerivationDone written => Sys2Proof.Machine.execKeyDerivationDone written s
  | .secAttest q => Sys2Proof.Machine.execSecAttest q s
  | .secSelftestAll q fails => Sys2Proof.Machine.execSecSelftestAll q fails s
  | .secSelftestKind q kind fails => Sys2Proof.Machine.execSecSelftestKind q kind fails s
  | .installEpoch q => Sys2Proof.Machine.execInstallEpoch q s
  | .raiseDistrictGeneration q => Sys2Proof.Machine.execRaiseDistrictGeneration q s
  | .revokeDistrict q => Sys2Proof.Machine.execRevokeDistrict q s
  | .revokeEpoch q => Sys2Proof.Machine.execRevokeEpoch q s
  | .zeroize q => Sys2Proof.Machine.execZeroize q s
  | .programOwnerHash q => Sys2Proof.Machine.execProgramOwnerHash q s
  | .revokeOwnerSlot q => Sys2Proof.Machine.execRevokeOwnerSlot q s
  | .debugToken q => Sys2Proof.Machine.execDebugToken q s
  | .jtagDebugRequest port => Sys2Proof.Machine.execJtagDebugRequest port s
  | .selftestPeriod fails => Sys2Proof.Machine.execSelftestPeriod fails s
  | .drbgReseed engine ok => Sys2Proof.Machine.execDrbgReseed engine ok s
  | .lineCheckFail mem line column refetchOk code scrub air eth => Sys2Proof.Machine.execLineCheckFail mem line column refetchOk code scrub air eth s
  | .peerLineArrival line bytes ok readbackOk => Sys2Proof.Machine.execPeerLineArrival line bytes ok readbackOk s
  | .flashRecomputeDone line matched readbackOk => Sys2Proof.Machine.execFlashRecomputeDone line matched readbackOk s
  | .scrubRead mem misread => Sys2Proof.Machine.execScrubRead mem misread s
  | .miScrubNow q => Sys2Proof.Machine.execMiScrubNow q s
  | .miApplyRepairs q => Sys2Proof.Machine.execMiApplyRepairs q s
  | .miFlipWrite q v => Sys2Proof.Machine.execMiFlipWrite q v s
  | .frameBufferSweep => Sys2Proof.Machine.execFrameBufferSweep s
  | .claimAssert edges => Sys2Proof.Machine.execClaimAssert edges s
  | .peerClaimChange asserted => Sys2Proof.Machine.execPeerClaimChange asserted s
  | .claimKeeperExpiry asnTest => Sys2Proof.Machine.execClaimKeeperExpiry asnTest s
  | .pairKeepWrite q => Sys2Proof.Machine.execPairKeepWrite q s
  | .hjLinkFrameRx seq good acks records => Sys2Proof.Machine.execHjLinkFrameRx seq good acks records s
  | .hjRetryTimeout seq => Sys2Proof.Machine.execHjRetryTimeout seq s
  | .hjIdleTimeout => Sys2Proof.Machine.execHjIdleTimeout s
  | .hjControlTimer => Sys2Proof.Machine.execHjControlTimer s
  | .hjTrainingDone lanes inversions peerId nonce tag ncsLog slotLen sfCode ifv vector => Sys2Proof.Machine.execHjTrainingDone lanes inversions peerId nonce tag ncsLog slotLen sfCode ifv vector s
  | .hjRetrainTimer => Sys2Proof.Machine.execHjRetrainTimer s
  | .hjTimeExchange sent peerGot peerSent got => Sys2Proof.Machine.execHjTimeExchange sent peerGot peerSent got s
  | .mirrorNcsChange node mask bytes => Sys2Proof.Machine.execMirrorNcsChange node mask bytes s
  | .mirrorReservation node district block => Sys2Proof.Machine.execMirrorReservation node district block s
  | .mirrorCrimsonEnqueue frame => Sys2Proof.Machine.execMirrorCrimsonEnqueue frame s
  | .mirrorCrimsonDequeue ident => Sys2Proof.Machine.execMirrorCrimsonDequeue ident s
  | .mirrorTreeState op args => Sys2Proof.Machine.execMirrorTreeState op args s
  | .mirrorScheduleEpoch number asn fields => Sys2Proof.Machine.execMirrorScheduleEpoch number asn fields s
  | .mirrorBulkClear requester => Sys2Proof.Machine.execMirrorBulkClear requester s
  | .mirrorControl kind role claiming hold asn nodeMin => Sys2Proof.Machine.execMirrorControl kind role claiming hold asn nodeMin s
  | .peerFetchRequest line => Sys2Proof.Machine.execPeerFetchRequest line s
  | .resyncLineRx line bytes => Sys2Proof.Machine.execResyncLineRx line bytes s
  | .resyncPassEnd more misread => Sys2Proof.Machine.execResyncPassEnd more misread s
  | .pairPlannedSwitchover => Sys2Proof.Machine.execPairPlannedSwitchover s
  | .pairRestartResync => Sys2Proof.Machine.execPairRestartResync s
  | .pairHold => Sys2Proof.Machine.execPairHold s
  | .pairResume => Sys2Proof.Machine.execPairResume s
  | .switchoverBoundary => Sys2Proof.Machine.execSwitchoverBoundary s
  | .handoverAck => Sys2Proof.Machine.execHandoverAck s
  | .switchoverRewriteDone => Sys2Proof.Machine.execSwitchoverRewriteDone s
  | .switchoverReclaimTimer => Sys2Proof.Machine.execSwitchoverReclaimTimer s
  | .updStage q comp => Sys2Proof.Machine.execUpdStage q comp s
  | .stageWriteDone readOk => Sys2Proof.Machine.execStageWriteDone readOk s
  | .updActivate q swap => Sys2Proof.Machine.execUpdActivate q swap s
  | .updReject q => Sys2Proof.Machine.execUpdReject q s
  | .updAbort q => Sys2Proof.Machine.execUpdAbort q s
  | .updBootLoad q comp => Sys2Proof.Machine.execUpdBootLoad q comp s
  | .updActivateAtRestart q => Sys2Proof.Machine.execUpdActivateAtRestart q s
  | .coreHandoverDone core => Sys2Proof.Machine.execCoreHandoverDone core s
  | .coreHandoverTimeout core => Sys2Proof.Machine.execCoreHandoverTimeout core s
  | .handoverComplete fails => Sys2Proof.Machine.execHandoverComplete fails s
  | .configLiveApply => Sys2Proof.Machine.execConfigLiveApply s
  | .updConfirmWrite q key comp => Sys2Proof.Machine.execUpdConfirmWrite q key comp s
  | .probationExpiry => Sys2Proof.Machine.execProbationExpiry s
  | .updCfgseqLoRead q => Sys2Proof.Machine.execUpdCfgseqLoRead q s
  | .pwrLevelWrite q v => Sys2Proof.Machine.execPwrLevelWrite q v s
  | .plClockSwitchTimer => Sys2Proof.Machine.execPlClockSwitchTimer s
  | .plChangeDone => Sys2Proof.Machine.execPlChangeDone s
  | .tempSample tj => Sys2Proof.Machine.execTempSample tj s
  | .throttleReleaseTimer => Sys2Proof.Machine.execThrottleReleaseTimer s
  | .paleEnter => Sys2Proof.Machine.execPaleEnter s
  | .paleExit debugger periods => Sys2Proof.Machine.execPaleExit debugger periods s
  | .pwrCmdSepia q key => Sys2Proof.Machine.execPwrCmdSepia q key s
  | .pwrCmdUmber q key => Sys2Proof.Machine.execPwrCmdUmber q key s
  | .sepiaEntry => Sys2Proof.Machine.execSepiaEntry s
  | .umberEntry => Sys2Proof.Machine.execUmberEntry s
  | .wakeSource src => Sys2Proof.Machine.execWakeSource src s
  | .sleepTimerExpiry => Sys2Proof.Machine.execSleepTimerExpiry s
  | .sepiaExitReady crcOk => Sys2Proof.Machine.execSepiaExitReady crcOk s
  | .busMasterEnableChange on => Sys2Proof.Machine.execBusMasterEnableChange on s
  | .msixVectorUnmask vector => Sys2Proof.Machine.execMsixVectorUnmask vector s
  | .preemptVerifyResponse port => Sys2Proof.Machine.execPreemptVerifyResponse port s
  | .ethEgressFrameDone port latch => Sys2Proof.Machine.execEthEgressFrameDone port latch s
  | .controlCoreRestartDone core => Sys2Proof.Machine.execControlCoreRestartDone core s

end Sys2Proof.Machine
end

