-- ==== Sys2Proof/Machine/Step.lean ====
section
/-!
DEFINITION. One step of the block: the command at the front of the queue, or one clk_ts edge while none waits.
-/

namespace Sys2Proof.Machine

/-- Take the command at the front of the queue and run it with the queue's rest; with an empty queue one clk_ts edge passes
(DESIGN CHOICE, log entry 6). -/
def step (s : State) : Host.Outcome State Fault Refusal :=
  match s.pending with
  | [] => .next (clockEdge s)
  | c :: rest => exec c { s with pending := rest }

/-- Put a command at the front of the queue. -/
def State.enqueueFront (s : State) (c : Instr) : State := { s with pending := c :: s.pending }

/-- Put the command that a word spells at the front of the queue; a word that spells none changes nothing. -/
def State.withFetchWord (s : State) (nbits w : Nat) : State :=
  match decodeTableWord nbits w with
  | none => s
  | some c => s.enqueueFront c

end Sys2Proof.Machine
end

