-- ==== Sys2Proof/Safety.lean ====
section
/-!
DEFINITION. What a safe run keeps: the stores stay in their canonical form, and what no command may change stays.
-/

namespace Sys2Proof.Machine

/-- Every store of the block is in its canonical form: addresses strictly rising, and no entry equal to what an unlisted address
reads as. The register file, the boot flash, the image window, the node context store, the EUI-64 hash table, the heard-by tables, the
infrastructure shadow, the MSI-X table, the application core's IRAM and DRAM. -/
def Memory.wf (s : State) : Bool :=
  cellsWf resetWord s.regs && cellsWf erasedCell s.flash && cellsWf zeroCell s.window && cellsWf zeroCell s.fwd.ncs &&
    cellsWf zeroCell s.fwd.eht && cellsWf zeroCell s.fwd.hb && cellsWf zeroCell s.fwd.shadow && cellsWf msixCell s.pcie.msix &&
    cellsWf zeroCell s.app.iram && cellsWf zeroCell s.app.dram

/-- What one command may do to the state as a whole: the part and the density of its flash stay (R2), the queue of commands stays,
time does not run back, and stores in canonical form stay so. -/
structure Keeps (s t : State) : Prop where
  part : t.part = s.part
  flashSize : t.flashSize = s.flashSize
  pending : t.pending = s.pending
  now : s.now ≤ t.now
  wf : Memory.wf s = true → Memory.wf t = true

/-- A command ends in a next state, which keeps what `Keeps` says. -/
def Completes (s : State) (o : Host.Outcome State Fault Refusal) : Prop := ∃ t, o = .next t ∧ Keeps s t

/-! ## Registers -/

/-- Registers that posting an event may write, since its record travels through the rings, the host queue and the application core's
mailbox: the event rings, the frame-queue views, and of the application core's block APP_CNT, MB_TX_STAT, MB_RX_DATA, MB_RX_STAT,
AIC_RUN and AIC_PEND. -/
def noisy (key : Nat) : Bool :=
  (decide (0x00100000 ≤ key) && decide (key < 0x00102000)) || (decide (0x03400000 ≤ key) && decide (key < 0x03400800)) ||
    (decide (0x0A000124 ≤ key) && decide (key < 0x0A000168)) || (decide (0x0A001100 ≤ key) && decide (key < 0x0A001180)) ||
    decide (key = 0x0A000040) || decide (key = 0x0A00100C)

/-- The registers that a command may write beside those of its events (`noisy`), for the commands that write few: the other
registers stay, in every form of the command. -/
def registerFrame : Instr → Option (List Nat)
  | .vddAonUp | .pwrPgHigh | .powerRetryWaitEnd | .recoveryChunk .. | .lfclkRemeasureTimer => some []
  | .porstNRelease .. => some [R.STRAPS]
  | .lfclkMeasureDone .. => some [R.BOOT_STATUS]
  | .lfclkAcceptTimeout | .aonFailClear => some [R.AON_FAIL]
  | .lfclkEdgeLoss => some [R.AON_FAIL, R.BOOT_STATUS]
  | .retentionRefresh .. => some [R.FLASH_WEAR]
  | .jesdArm | .barrierComplete .. | .antennaDecision .. => some []
  | .sysrefEdge .. => some [R.JESD_STATUS]
  | .lockTimeout p => some [R.CNT_SYNTH p, R.SYNTH_STATUS p]
  | .calImage p _ | .calAnalogFilter p _ | .calAnalogDc p _ | .calTxIqLo p _ | .calFull p _ | .calSelfTest p _ => some [R.CAL_STATUS p]
  | .oscManWrite .. => some [R.OSC_MAN, R.OSC_TRIM]
  | .mapHoldExpiry .. => some [R.IMAP_STATUS]
  | .trackSlotframeMiss => some [R.TRACK_CNT0, R.TRACK_STATUS]
  | .hbTick => some [R.FWD_STATUS]
  | .hbRead q _ _ | .hbInvalidate q _ _ => some [R.HB_STAT q.bank]
  | .ncsRead q _ => some (R.NCS_STAT q.bank :: (List.range 16).map fun i => R.NCS_DATA i q.bank)
  | .bar2Read .. => some [R.FWD_CNT3, R.MI_CNT2]
  | .snapshotAbort => some [R.SNAP_STAT]
  | .pathSchedWrite p _ => some [R.PATH_SCHED p]
  | .queueTestForce .. | .queuePointerMismatch .. =>
    some [R.MI_CNT2, R.MI_FLIP, R.MI_FLIP_ADDR, R.PAIR_CNT0, R.PSM_STATUS, R.SNAP_STAT]
  | .mbTxPush .. | .mbRxPop => some []
  | .eventGenerate .. | .eventRecordWrite .. | .eventWriteback .. | .evrConsWrite .. => some []
  | .pcieLinkChange .. | .pcieResetRelease | .msixMessage .. | .msixVectorUnmask .. | .unsupportedRequest => some []
  | .hqTailWrite h _ => some [R.HQ_STAT h, R.HQ_TAIL h]
  | .reassemblyTimeout .. => some [R.BR_CNT2, R.BR_STATUS]
  | .asnLoRead .. | .updCfgseqLoRead .. | .tsoTargetReached .. | .tsoPulseEnd .. => some []
  | .tsoCtrlWrite n _ => some [R.TSO_CTRL n, R.TSO_STAT n]
  | .tsInputEdge n .. => some [R.TSI_FRAC n, R.TSI_NS_HI n, R.TSI_NS_LO n, R.TSI_STAT n]
  | .timeErrSecond => some [R.TIME_ERR]
  | .ratioMeasureDone .. => some [R.LF_RATIO, R.RC_RATIO]
  | .appWdogHalf | .appWdogKick .. => some [R.WDOG_STAT]
  | .gpioSetWrite .. | .gpioClrWrite .. => some [R.GPIO_OUT]
  | .gpioInputChange .. => some [R.GPIO_IN]
  | .aicSourceRequest .. | .appAccessFault .. => some []
  | .aicEnWrite _ k _ => some [R.AIC_EN k]
  | .aicGdisWrite .. => some [R.AIC_GDIS]
  | .aicSwiWrite .. => some [R.AIC_SWI]
  | .jtagDebugRequest .. | .peerFetchRequest .. => some []
  | .miFlipWrite .. => some [R.MI_FLIP]
  | .miScrubNow .. => some [R.MI_STATUS]
  | .pairKeepWrite .. | .hjRetrainTimer | .switchoverReclaimTimer => some []
  | .hjControlTimer => some [R.PAIR_CNT0]
  | .hjTimeExchange .. => some [R.HJ_TOFS]
  | .pairPlannedSwitchover | .pairResume => some [R.PAIR_STATUS]
  | .pairHold => some [R.PAIR_STATUS, R.SYNC_STAT]
  | .switchoverBoundary => some [R.PAIR_CNT0]
  | .stageWriteDone .. => some [R.FLASH_WEAR, R.UPD_STATUS]
  | .updStage .. | .updAbort .. | .updActivateAtRestart .. => some [R.FLASH_WEAR, R.UPD_CNT, R.UPD_STATUS]
  | .updConfirmWrite .. => some [R.FLASH_WEAR, R.UPD_CNT, R.UPD_LEFT, R.UPD_STATUS]
  | .coreHandoverDone n => some [R.CPU_STAT n]
  | .pwrLevelWrite .. => some [R.PWR_LEVEL, R.PWR_STATUS]
  | .plClockSwitchTimer => some []
  | .plChangeDone => some [R.PWR_CNT, R.PWR_STATUS]
  | .tempSample .. => some [R.PWR_CNT, R.PWR_STATUS, R.PWR_TEMP]
  | .throttleReleaseTimer => some [R.PWR_STATUS]
  | .pwrCmdSepia .. | .pwrCmdUmber .. => some [R.PAIR_STATUS, R.PWR_STATUS]
  | _ => none

/-! ## Components -/

/-- The components of the state that a command may change: every field but the part, the flash density and the queue. -/
inductive Comp where
  | regs
  | boot
  | flash
  | window
  | otp
  | ev
  | pcie
  | hqs
  | paths
  | jesd
  | osc
  | ces
  | tes
  | imap
  | psm
  | drift
  | fwd
  | sched
  | queues
  | tb
  | sec
  | tree
  | eth
  | app
  | cpus
  | mi
  | pair
  | upd
  | pwr
  | snaps
  | now
  | draws
  | out
  | reply
  deriving DecidableEq, Repr

/-- The component is the same in both states. -/
def Comp.same : Comp → State → State → Prop
  | .regs, s, t => t.regs = s.regs
  | .boot, s, t => t.boot = s.boot
  | .flash, s, t => t.flash = s.flash
  | .window, s, t => t.window = s.window
  | .otp, s, t => t.otp = s.otp
  | .ev, s, t => t.ev = s.ev
  | .pcie, s, t => t.pcie = s.pcie
  | .hqs, s, t => t.hqs = s.hqs
  | .paths, s, t => t.paths = s.paths
  | .jesd, s, t => t.jesd = s.jesd
  | .osc, s, t => t.osc = s.osc
  | .ces, s, t => t.ces = s.ces
  | .tes, s, t => t.tes = s.tes
  | .imap, s, t => t.imap = s.imap
  | .psm, s, t => t.psm = s.psm
  | .drift, s, t => t.drift = s.drift
  | .fwd, s, t => t.fwd = s.fwd
  | .sched, s, t => t.sched = s.sched
  | .queues, s, t => t.queues = s.queues
  | .tb, s, t => t.tb = s.tb
  | .sec, s, t => t.sec = s.sec
  | .tree, s, t => t.tree = s.tree
  | .eth, s, t => t.eth = s.eth
  | .app, s, t => t.app = s.app
  | .cpus, s, t => t.cpus = s.cpus
  | .mi, s, t => t.mi = s.mi
  | .pair, s, t => t.pair = s.pair
  | .upd, s, t => t.upd = s.upd
  | .pwr, s, t => t.pwr = s.pwr
  | .snaps, s, t => t.snaps = s.snaps
  | .now, s, t => t.now = s.now
  | .draws, s, t => t.draws = s.draws
  | .out, s, t => t.out = s.out
  | .reply, s, t => t.reply = s.reply
/-- The components that a command may change: what its rules write, whatever the state (the components of every operation that its
meaning can reach). -/
def mayChange : Instr → List Comp
  | .porstNRelease .. =>
    [.regs, .boot, .pwr, .draws]
  | .porstNAssert .. | .pwrPgTimeout .. | .pwrPgFall .. | .refclkTimeout .. | .sepiaExitReady .. =>
    [.regs, .boot, .window, .ev, .pcie, .hqs, .paths, .jesd, .osc, .ces, .tes, .imap, .psm, .drift, .fwd, .sched, .queues, .tb,
     .sec, .eth, .app, .cpus, .mi, .pair, .upd, .pwr, .snaps, .draws, .out]
  | .vddAonLoss .. =>
    [.regs, .boot, .window, .ev, .pcie, .hqs, .paths, .jesd, .osc, .ces, .tes, .imap, .psm, .drift, .fwd, .sched, .queues, .tb,
     .sec, .tree, .eth, .app, .cpus, .mi, .pair, .upd, .pwr, .snaps]
  | .vddAonUp .. | .lfclkRemeasureTimer .. =>
    [.boot]
  | .pwrPgHigh .. | .powerRetryWaitEnd .. =>
    [.boot, .pwr]
  | .pllLock .. =>
    [.regs, .boot, .ev, .queues, .tb, .app, .mi, .draws]
  | .componentLoadDone .. | .updStage .. | .updActivateAtRestart .. =>
    [.regs, .boot, .flash, .ev, .queues, .app, .upd, .draws, .out]
  | .configImageRead .. =>
    [.regs, .boot, .flash, .otp, .ev, .paths, .osc, .ces, .tes, .imap, .psm, .drift, .fwd, .sched, .queues, .tb, .sec, .tree,
     .eth, .app, .cpus, .mi, .pair, .upd, .pwr, .draws, .out]
  | .coldCalDone .. =>
    [.regs, .boot, .ev, .paths, .ces, .queues, .app, .pair, .draws]
  | .warmRstNAssert .. =>
    [.regs, .boot, .ev, .paths, .tes, .psm, .fwd, .sched, .queues, .tb, .sec, .eth, .app, .mi, .pair, .draws, .out]
  | .warmRstNRelease .. | .warmRestartDelayEnd .. | .wakeSource .. =>
    [.regs, .boot, .window, .ev, .pcie, .hqs, .paths, .jesd, .osc, .ces, .tes, .imap, .psm, .drift, .fwd, .sched, .queues, .tb,
     .sec, .eth, .app, .cpus, .mi, .pair, .upd, .pwr, .snaps]
  | .resetCtrlWrite .. | .miApplyRepairs .. =>
    [.regs, .boot, .ev, .paths, .tes, .psm, .fwd, .sched, .queues, .sec, .eth, .app, .mi, .pair, .draws, .out]
  | .recoveryChunk .. =>
    [.boot, .window, .draws, .out]
  | .recoveryComponentDone .. =>
    [.regs, .boot, .ev, .queues, .app, .upd, .draws, .out]
  | .lfclkMeasureDone .. | .lfclkEdgeLoss .. =>
    [.regs, .boot, .ev, .queues, .app, .pwr, .draws]
  | .lfclkAcceptTimeout .. =>
    [.regs, .boot, .ev, .queues, .tb, .app, .now, .draws]
  | .rtwDataWrite .. =>
    [.regs, .ev, .paths, .ces, .imap, .psm, .drift, .fwd, .sched, .queues, .tb, .sec, .eth, .app, .mi, .pair, .draws, .out]
  | .aonFailClear .. | .ncsRead .. | .hbRead .. | .depthSample .. | .evrBaseWrite .. | .evrConsWrite .. | .hqTailWrite ..
  | .timeErrSecond .. | .ratioMeasureDone .. | .gpioSetWrite .. | .gpioClrWrite .. | .miFlipWrite .. | .hjTimeExchange ..
  | .pairResume .. =>
    [.regs]
  | .retentionRefresh .. | .stageWriteDone .. | .updAbort .. =>
    [.regs, .boot, .flash, .ev, .queues, .app, .draws, .out]
  | .registerWrite .. =>
    [.regs, .boot, .flash, .window, .otp, .ev, .pcie, .hqs, .paths, .jesd, .osc, .ces, .tes, .imap, .psm, .drift, .fwd, .sched,
     .queues, .tb, .sec, .eth, .app, .mi, .pair, .upd, .pwr, .draws, .out]
  | .counterReadClear .. =>
    [.regs, .tb, .app, .snaps, .draws, .reply]
  | .synthLockAcquired .. | .jesdLinkAligned .. =>
    [.regs, .ev, .paths, .ces, .tes, .imap, .psm, .drift, .fwd, .sched, .queues, .sec, .app, .mi, .pair, .draws, .out]
  | .synthLockLoss .. | .devclkCheck .. =>
    [.regs, .ev, .paths, .tes, .fwd, .sched, .queues, .sec, .app, .mi, .pair, .draws, .out]
  | .lockTimeout .. | .estimatorResult .. =>
    [.regs, .ev, .paths, .queues, .app, .draws]
  | .oosRetuneRetry .. | .coeffSetIssue .. | .calImage .. | .calAnalogFilter .. | .calAnalogDc .. | .calTxIqLo ..
  | .calFull .. | .calSelfTest .. | .exclusiveCalStart .. =>
    [.regs, .paths]
  | .txIntervalStart .. =>
    [.regs, .ev, .paths, .ces, .tes, .imap, .psm, .drift, .fwd, .sched, .queues, .tb, .sec, .app, .mi, .pair, .now, .draws,
     .out]
  | .blankingEnd .. | .calYieldRequest .. | .calCancel .. | .exclusiveCalDone .. | .frameEnd .. =>
    [.regs, .ev, .paths, .ces, .queues, .app, .draws]
  | .txLatestStartExpiry .. =>
    [.regs, .ev, .paths, .ces, .tes, .fwd, .sched, .queues, .sec, .app, .mi, .pair, .draws, .out]
  | .jesdArm .. =>
    [.jesd]
  | .sysrefEdge .. =>
    [.regs, .ev, .jesd, .queues, .app, .draws]
  | .jesdMultiblockRx .. =>
    [.regs, .ev, .paths, .jesd, .tes, .fwd, .sched, .queues, .sec, .app, .mi, .pair, .draws, .out]
  | .barrierComplete .. =>
    [.paths, .ces]
  | .noiseReportTimer .. | .rxqWaitTimeout .. =>
    [.regs, .queues]
  | .trimInterval .. =>
    [.regs, .ev, .osc, .queues, .app, .draws]
  | .oscManWrite .. =>
    [.regs, .osc]
  | .slicedCalUnit .. | .calRequestTimeout .. =>
    [.regs, .ev, .paths, .ces, .queues, .tb, .app, .now, .draws]
  | .assignmentRecord .. =>
    [.regs, .ev, .paths, .ces, .psm, .queues, .app, .draws]
  | .preambleDetect .. =>
    [.regs, .ces, .pair, .out]
  | .falseDetection .. | .falseDetSecond .. | .phrDecode .. =>
    [.regs, .ev, .ces, .queues, .app, .draws]
  | .antennaDecision .. =>
    [.ces]
  | .sfdDetect .. =>
    [.regs, .ces, .tb, .now]
  | .txWorkItem .. =>
    [.regs, .tes, .psm, .fwd, .sched, .queues, .sec, .mi, .pair, .out]
  | .txFrameEnd .. =>
    [.regs, .ev, .paths, .tes, .imap, .psm, .fwd, .sched, .queues, .tb, .sec, .app, .mi, .pair, .now, .draws, .out]
  | .mapTrailer .. | .staleIndigoReport .. | .imapRateChange .. | .imapClear .. | .imapResend .. | .replyWindowEnd ..
  | .nodeAckWindowEnd .. | .driftObservation .. | .modelAgeExpiry .. | .wakeSetTarget .. | .wakeResetModel .. =>
    [.regs, .ev, .imap, .psm, .drift, .fwd, .sched, .queues, .sec, .app, .mi, .pair, .draws, .out]
  | .mapHoldExpiry .. =>
    [.regs, .imap, .tb, .now]
  | .slotBoundary .. =>
    [.regs, .boot, .flash, .ev, .paths, .ces, .tes, .imap, .psm, .drift, .fwd, .sched, .queues, .tb, .sec, .tree, .eth, .app,
     .mi, .pair, .upd, .pwr, .now, .draws, .out]
  | .receivedFrame .. | .keyDerivationDone .. =>
    [.regs, .boot, .flash, .ev, .osc, .imap, .psm, .drift, .fwd, .sched, .queues, .sec, .tree, .eth, .app, .mi, .pair, .draws,
     .out]
  | .joinRequest .. =>
    [.regs, .boot, .flash, .ev, .imap, .psm, .drift, .fwd, .sched, .queues, .sec, .app, .mi, .pair, .draws, .out]
  | .peerBeaconRx .. | .trackSlotframeMiss .. =>
    [.regs, .ev, .drift, .queues, .app, .draws]
  | .ehtLookup .. | .ehtInsert .. | .ehtDelete .. | .heardByUpdate .. =>
    [.regs, .boot, .flash, .ev, .fwd, .queues, .app, .mi, .draws]
  | .ehtRebuildDone .. =>
    [.regs, .ev, .fwd, .queues, .app, .mi, .draws]
  | .hbTick .. | .hbInvalidate .. =>
    [.regs, .fwd]
  | .nodeMinuteSweep .. =>
    [.regs, .boot, .flash, .ev, .imap, .drift, .fwd, .queues, .sec, .app, .mi, .pair, .draws, .out]
  | .infraEntryWrite .. =>
    [.regs, .fwd, .sec, .mi, .pair, .out]
  | .infraComparePass .. | .bulkClearDone .. | .queuePointerMismatch .. | .queueResetDone .. | .queueTestForce .. =>
    [.regs, .ev, .fwd, .queues, .sec, .app, .mi, .pair, .draws, .out]
  | .bar2Read .. | .eventRecordWrite .. =>
    [.regs, .ev, .queues, .app, .draws, .out]
  | .snapshotExport .. =>
    [.regs, .fwd, .pair, .out]
  | .snapshotExportDone .. =>
    [.regs, .ev, .fwd, .queues, .app, .mi, .draws, .out]
  | .snapshotRestore .. | .frameBufferSweep .. =>
    [.regs, .drift, .fwd, .sched, .sec, .mi, .pair, .out]
  | .restoreReadDone .. =>
    [.regs, .ev, .imap, .drift, .fwd, .sched, .queues, .sec, .app, .mi, .pair, .draws, .out]
  | .snapshotAbort .. =>
    [.regs, .ev, .fwd, .queues, .app, .draws]
  | .ncsMaskedWrite .. =>
    [.regs, .ev, .imap, .fwd, .queues, .sec, .app, .mi, .pair, .draws, .out]
  | .ncsZeroLine .. =>
    [.regs, .imap, .fwd, .sec, .mi, .pair, .out]
  | .ncsBulkClear .. =>
    [.regs, .imap, .drift, .fwd, .sched, .sec, .mi, .pair, .out]
  | .scheduleEpochSwitch .. =>
    [.regs, .ev, .paths, .ces, .drift, .sched, .queues, .app, .pair, .draws, .out]
  | .pathSchedWrite .. =>
    [.regs, .sched]
  | .queueItemWrite .. | .queueRoomAvailable .. | .mbTxPush .. | .mbRxPop .. | .mbEcho .. | .mbEventSubscription ..
  | .mbNodeLineRead .. | .mbTimebase .. =>
    [.regs, .queues, .app]
  | .queueItemRead .. =>
    [.regs, .boot, .flash, .ev, .fwd, .sched, .queues, .sec, .eth, .app, .mi, .pair, .draws, .out]
  | .pcieReset .. =>
    [.regs, .ev, .pcie, .hqs]
  | .pcieResetRelease .. =>
    [.pcie]
  | .pcieLinkChange .. =>
    [.regs, .ev, .pcie, .queues, .app, .draws]
  | .unsupportedRequest .. | .peerFetchRequest .. =>
    [.out]
  | .eventGenerate .. | .tbIncCommit .. | .tbServoWrite .. | .cpuWdogWarn .. =>
    [.regs, .ev, .queues, .app, .draws]
  | .eventWriteback .. =>
    [.ev, .out]
  | .msixMessage .. =>
    [.ev, .pcie, .hqs, .tb, .now, .out]
  | .evrCtrlWrite .. =>
    [.regs, .ev]
  | .hqCtrlWrite .. =>
    [.regs, .hqs]
  | .hostTxDescriptor .. =>
    [.regs, .ev, .hqs, .imap, .psm, .drift, .fwd, .sched, .queues, .sec, .tree, .app, .mi, .pair, .draws, .out]
  | .ethIngressFrame .. =>
    [.regs, .boot, .flash, .ev, .imap, .psm, .drift, .fwd, .sched, .queues, .tb, .sec, .tree, .eth, .app, .mi, .pair, .now,
     .draws, .out]
  | .ethPortLinkUp .. | .ethPortLinkDown .. | .preemptVerifyResponse .. =>
    [.regs, .ev, .sched, .queues, .eth, .app, .draws, .out]
  | .preemptVerifyTimeout .. =>
    [.regs, .ev, .queues, .eth, .app, .draws]
  | .reassemblyTimeout .. =>
    [.regs, .tb, .eth, .now]
  | .tbStepCommit .. | .appHold .. =>
    [.regs, .ev, .queues, .tb, .app, .draws]
  | .tbNsLoRead .. | .gtCntLoRead .. =>
    [.regs, .tb, .app, .snaps, .reply]
  | .asnLoRead .. | .updCfgseqLoRead .. =>
    [.snaps, .reply]
  | .tsInputEdge .. | .appWdogHalf .. =>
    [.regs, .ev, .queues, .tb, .app, .now, .draws]
  | .tsoCtrlWrite .. | .tsoTargetCommit .. =>
    [.regs, .tb]
  | .tsoTargetReached .. | .tsoPulseEnd .. =>
    [.tb, .now]
  | .gtMatch .. | .gtWrap .. | .gtCapture .. | .gtRegisterApply .. =>
    [.regs, .tb, .app]
  | .cpuWdogExpiry .. =>
    [.regs, .boot, .ev, .paths, .tes, .psm, .fwd, .sched, .queues, .tb, .sec, .eth, .app, .cpus, .mi, .pair, .upd, .draws, .out]
  | .appAccessFault .. | .appRelease .. | .appReloadDone .. | .appWdogKick .. | .gpioInputChange .. | .aicSourceRequest ..
  | .aicEoiWrite .. | .aicGdisWrite .. | .aicSwiWrite .. | .aicEnWrite .. =>
    [.regs, .app]
  | .appDoubleFault .. =>
    [.regs, .ev, .queues, .tb, .app, .pair, .upd, .draws]
  | .appWdogExpiry .. =>
    [.regs, .ev, .queues, .tb, .app, .pair, .upd, .now, .draws]
  | .aicClaimRead .. =>
    [.regs, .app, .draws, .reply]
  | .secAttest .. =>
    [.regs, .draws]
  | .secSelftestAll .. | .secSelftestKind .. | .selftestPeriod .. | .drbgReseed .. =>
    [.regs, .ev, .paths, .tes, .psm, .fwd, .sched, .queues, .tb, .sec, .eth, .app, .mi, .pair, .upd, .draws, .out]
  | .installEpoch .. =>
    [.regs, .ev, .imap, .psm, .drift, .fwd, .sched, .queues, .sec, .tree, .app, .mi, .pair, .draws, .out]
  | .raiseDistrictGeneration .. | .revokeDistrict .. | .revokeEpoch .. | .debugToken .. =>
    [.regs, .ev, .queues, .sec, .tree, .app, .pair, .draws, .out]
  | .zeroize .. =>
    [.regs, .sec, .tree, .pair, .out]
  | .programOwnerHash .. | .revokeOwnerSlot .. =>
    [.regs, .otp, .sec, .tree, .pair, .out]
  | .jtagDebugRequest .. =>
    [.sec]
  | .lineCheckFail .. | .peerLineArrival .. | .flashRecomputeDone .. =>
    [.regs, .boot, .flash, .ev, .paths, .tes, .psm, .fwd, .sched, .queues, .sec, .eth, .app, .mi, .pair, .draws, .out]
  | .scrubRead .. =>
    [.regs, .ev, .queues, .app, .mi, .draws, .out]
  | .miScrubNow .. =>
    [.regs, .mi]
  | .claimAssert .. =>
    [.regs, .boot, .ev, .paths, .tes, .imap, .psm, .drift, .fwd, .sched, .queues, .tb, .sec, .tree, .eth, .app, .mi, .pair,
     .upd, .pwr, .draws, .out]
  | .peerClaimChange .. | .hjRetryTimeout .. =>
    [.regs, .boot, .ev, .paths, .tes, .psm, .fwd, .sched, .queues, .tb, .sec, .eth, .app, .mi, .pair, .upd, .pwr, .draws, .out]
  | .claimKeeperExpiry .. | .hjIdleTimeout .. =>
    [.regs, .boot, .ev, .paths, .tes, .psm, .fwd, .sched, .queues, .tb, .sec, .eth, .app, .mi, .pair, .upd, .pwr, .now, .draws,
     .out]
  | .pairKeepWrite .. =>
    [.pair]
  | .hjLinkFrameRx .. | .mirrorNcsChange .. | .mirrorReservation .. | .mirrorCrimsonEnqueue .. | .mirrorCrimsonDequeue ..
  | .mirrorTreeState .. | .mirrorScheduleEpoch .. | .mirrorBulkClear .. | .mirrorControl .. | .resyncLineRx .. =>
    [.regs, .boot, .flash, .ev, .paths, .ces, .tes, .imap, .psm, .drift, .fwd, .sched, .queues, .tb, .sec, .tree, .eth, .app,
     .mi, .pair, .upd, .pwr, .draws, .out]
  | .hjControlTimer .. | .pairRestartResync .. =>
    [.regs, .pair, .out]
  | .hjTrainingDone .. | .switchoverBoundary .. =>
    [.regs, .ev, .queues, .app, .pair, .draws, .out]
  | .hjRetrainTimer .. | .switchoverReclaimTimer .. =>
    [.tb, .pair, .now]
  | .resyncPassEnd .. =>
    [.regs, .ev, .queues, .app, .mi, .pair, .draws, .out]
  | .pairPlannedSwitchover .. =>
    [.regs, .pair]
  | .pairHold .. =>
    [.regs, .ev, .queues, .app, .pair, .draws]
  | .handoverAck .. =>
    [.regs, .ev, .paths, .tes, .psm, .drift, .fwd, .sched, .queues, .sec, .eth, .app, .mi, .pair, .draws, .out]
  | .switchoverRewriteDone .. =>
    [.regs, .boot, .ev, .paths, .tes, .psm, .fwd, .sched, .queues, .tb, .sec, .tree, .eth, .app, .mi, .pair, .upd, .pwr,
     .draws, .out]
  | .updActivate .. =>
    [.regs, .boot, .flash, .ev, .queues, .tb, .app, .pair, .upd, .draws, .out]
  | .updReject .. =>
    [.regs, .tb, .app, .pair, .upd]
  | .updBootLoad .. =>
    [.regs, .boot, .ev, .queues, .app, .upd, .draws]
  | .coreHandoverDone .. =>
    [.regs, .cpus, .upd]
  | .coreHandoverTimeout .. =>
    [.regs, .boot, .flash, .ev, .paths, .tes, .psm, .fwd, .sched, .queues, .sec, .eth, .app, .mi, .pair, .upd, .draws, .out]
  | .handoverComplete .. =>
    [.regs, .boot, .flash, .ev, .paths, .tes, .psm, .fwd, .sched, .queues, .tb, .sec, .eth, .app, .mi, .pair, .upd, .draws,
     .out]
  | .configLiveApply .. =>
    [.regs, .boot, .ev, .paths, .ces, .imap, .psm, .drift, .fwd, .sched, .queues, .tb, .sec, .eth, .app, .mi, .pair, .upd,
     .now, .draws, .out]
  | .updConfirmWrite .. =>
    [.regs, .boot, .flash, .otp, .ev, .queues, .app, .upd, .draws, .out]
  | .probationExpiry .. =>
    [.regs, .tb, .app, .pair, .upd, .now]
  | .pwrLevelWrite .. =>
    [.regs, .pwr]
  | .plClockSwitchTimer .. =>
    [.tb, .pwr, .now]
  | .plChangeDone .. | .tempSample .. =>
    [.regs, .ev, .queues, .app, .pwr, .draws]
  | .throttleReleaseTimer .. =>
    [.regs, .ev, .queues, .tb, .app, .pwr, .now, .draws]
  | .paleEnter .. =>
    [.regs, .app, .pwr]
  | .paleExit .. =>
    [.regs, .tb, .app, .pwr]
  | .pwrCmdSepia .. | .pwrCmdUmber .. =>
    [.regs, .pair, .pwr]
  | .sepiaEntry .. | .umberEntry .. =>
    [.regs, .boot, .window, .ev, .pcie, .hqs, .paths, .jesd, .osc, .ces, .tes, .imap, .psm, .drift, .fwd, .sched, .queues, .tb,
     .sec, .eth, .app, .cpus, .mi, .pair, .upd, .pwr, .snaps, .now, .draws, .out]
  | .sleepTimerExpiry .. =>
    [.regs, .boot, .window, .ev, .pcie, .hqs, .paths, .jesd, .osc, .ces, .tes, .imap, .psm, .drift, .fwd, .sched, .queues, .tb,
     .sec, .eth, .app, .cpus, .mi, .pair, .upd, .pwr, .snaps, .now]
  | .busMasterEnableChange .. =>
    [.regs, .ev, .pcie]
  | .msixVectorUnmask .. =>
    [.pcie, .out]
  | .ethEgressFrameDone .. =>
    [.regs, .ev, .sched, .queues, .tb, .eth, .app, .now, .draws, .out]
  | .controlCoreRestartDone .. =>
    [.regs, .cpus]

end Sys2Proof.Machine
end

