-- ==== Sys2Proof/Certificates/Slice0/Obligations.lean ====
section
/-!
DEFINITION. The statements for the provers. A statement named after the rows of a family says, per row, that the command ends in a next
state under the clause's conditions, and what that state holds. Where a clause follows a convention that the spec leaves open, its docstring
or NOTES.md names the log entry.
-/

section

open Sys2Proof Sys2Proof.Machine

/-! ## Register access (chapters 00 and 03) -/

/-- Register writes and reads (R6, R7, R10, R365, Table 0-2): whole words act field by field, narrow writes are discarded and counted,
poisoned ones too, and a read answers the register and clears its RC fields. -/
def Obligations.RegisterRowsComplete : Prop :=
  ∀ (s : State) (q : Requester), Memory.wf s = true → powered s = true →
    (∀ v fails data,
      ∃ t, exec (.registerWrite q R.PWR_SLEEP 4 v false fails data) s = .next t ∧ t.get R.PWR_SLEEP_GPIO = v % 16 ∧
        t.get R.PWR_SLEEP_POL = v / 16 % 16 ∧ t.get R.PWR_SLEEP_TMR = v / 256 % 2 ∧ t.get R.PWR_SLEEP_PERST = v / 512 % 2 ∧
        t.get R.PWR_SLEEP_PEER = v / 1024 % 2) ∧
    (∀ off v fails data r, off % 4 = 0 → blockOpen s q off = true → unitAt s.part off = true → off ≠ R.PAIR_CFG →
      writeSpecial s q off (natBits v 0 32) fails data = none → regAt off = some r →
      exec (.registerWrite q off 4 v false fails data) s = .next (plainWrite s (regKey r q off) (natBits v 0 32) r.fields)) ∧
    (∀ off v fails data, off % 4 = 0 → blockOpen s q off = true → unitAt s.part off = true →
      writeSpecial s q off (natBits v 0 32) fails data = none → regAt off = none → exec (.registerWrite q off 4 v false fails data) s = .next s) ∧
    (∀ off size v fails data, 0 < size → off % 4 + size < 4 → exec (.registerWrite q off size v false fails data) s = .next (countNarrow s q)) ∧
    (∀ off size v fails data, exec (.registerWrite q off size v true fails data) s = .next (s.bump R.HIF_CNT_POISONED)) ∧
    (∀ v fails data, running s = true → hjPresent s.part = true → natBits v 28 4 = 3 →
      exec (.registerWrite q R.PAIR_CMD 4 v false fails data) s = exec .pairHold s) ∧
    (∃ t, exec (.counterReadClear q R.PWR_TEMP 4) s = .next t ∧ assocGet t.reply q.bank = some (s.word R.PWR_TEMP).toNat ∧
      t.get R.PWR_TEMP_MAX = 0x8000 ∧ t.get R.PWR_TEMP_TJ = s.get R.PWR_TEMP_TJ) ∧
    (∀ off, off % 4 = 0 → blockOpen s q off = false →
      ∃ t, exec (.counterReadClear q off 4) s = .next t ∧ assocGet t.reply q.bank = some 0 ∧ t.regs = s.regs)

/-! ## Power-up and resets (chapters 02 and 03) -/

/-- Power-up, step by step (Tables 2-7 and 3-1): what each row does in the phase that it belongs to. -/
def Obligations.PowerUpRowsComplete : Prop :=
  ∀ s : State, Memory.wf s = true →
    (∀ m0 m1 id, s.boot.phase = .porstLow →
      ∃ t, exec (.porstNRelease m0 m1 id) s = .next t ∧ t.boot.phase = .powering ∧ t.boot.startAt = s.now ∧ t.pwr.enCore = true ∧
        t.pwr.enSram = true ∧ (∀ a b, m0 = some a → m1 = some b → t.get R.STRAPS_BOOT_MODE = boolNat a + 2 * boolNat b)) ∧
    (s.boot.phase = .unpowered → ∃ t, exec .vddAonUp s = .next t ∧ t = s.putBoot { s.boot with phase := .porstLow }) ∧
    (s.boot.phase = .powering →
      ∃ t, exec .pwrPgHigh s = .next t ∧ t.boot.phase = .pllWait ∧ t.pwr.isolated = false ∧ t.pwr.faultN = true ∧ t.regs = s.regs) ∧
    (s.boot.phase = .powering → s.boot.powerRetried = false →
      ∃ t, exec .pwrPgTimeout s = .next t ∧ t.boot.phase = .retryWait ∧ t.boot.powerRetried = true ∧ t.pwr.enCore = false ∧
        t.pwr.enSram = false) ∧
    (s.boot.phase = .powering → s.boot.powerRetried = true →
      ∃ t, exec .pwrPgTimeout s = .next t ∧ t.boot.phase = .faultHold ∧
        t.get R.AON_FAIL_CODE = (if s.boot.cause = .sepiaExit then 2 else 1)) ∧
    (s.boot.phase = .retryWait →
      ∃ t, exec .powerRetryWaitEnd s = .next t ∧ t.boot.phase = .powering ∧ t.boot.powerRetried = s.boot.powerRetried ∧
        t.pwr.enCore = true ∧ t.pwr.enSram = true) ∧
    (∀ nLf nRc lag, s.boot.phase = .pllWait → s.tb.running = false → s.boot.cause ≠ .sepiaExit →
      ∃ t, exec (.pllLock nLf nRc lag) s = .next t ∧ t.boot.phase = .boot ∧ t.boot.comp = 0 ∧ t.tb.running = true) ∧
    (∀ code, s.boot.phase = .pllWait → s.tb.running = false → code = 3 ∨ code = 4 → s.boot.clockRetried = false →
      ∃ t, exec (.refclkTimeout code) s = .next t ∧ t = s.putBoot { s.boot with clockRetried := true })

/-- Resets and failures of power (R14, R59, R77, R104 to R106): what each row clears and what it keeps. -/
def Obligations.ResetRowsComplete : Prop :=
  ∀ s : State, Memory.wf s = true →
    (s.boot.phase ≠ .unpowered →
      ∃ t, exec .porstNAssert s = .next t ∧ t.boot.phase = .porstLow ∧ t.pwr = PowerState.cold ∧ t.fwd = FwdState.cold ∧
        t.sec = SecState.cold ∧ t.flash = s.flash ∧ t.otp = s.otp ∧ t.tree = s.tree) ∧
    (∃ t, exec .vddAonLoss s = .next t ∧ t.boot.phase = .unpowered ∧ t.tree = TreeState.lost ∧ t.osc.kept = none ∧
      t.tb = TimeState.cold ∧ t.flash = s.flash ∧ t.otp = s.otp) ∧
    (railsUp s = true →
      ∃ t, exec .pwrPgFall s = .next t ∧ t.boot.phase = .faultHold ∧ t.get R.AON_FAIL_CODE = 5 ∧ t.pwr.faultN = false ∧
        t.pwr.enCore = false ∧ t.pwr.enSram = false ∧ t.tree = s.tree) ∧
    (powered s = true → ∃ t, exec .warmRstNAssert s = .next t ∧ t.boot.phase = .warmLow ∧ t.tb.running = false) ∧
    (s.boot.phase = .warmLow →
      ∃ t, exec .warmRstNRelease s = .next t ∧ t.boot.phase = .pllWait ∧ t.pwr.enCore = true ∧ t.pwr.enSram = true ∧
        t.sec = SecState.cold ∧ t.tree = s.tree ∧ t.mi.retired = s.mi.retired ∧ t.get R.STRAPS_BOOT_MODE = s.get R.STRAPS_BOOT_MODE) ∧
    (powered s = true → ∃ t, exec (.resetCtrlWrite 0x5752) s = .next t ∧ t.boot.phase = .warmDelay) ∧
    (s.boot.phase = .warmDelay →
      ∃ t, exec .warmRestartDelayEnd s = .next t ∧ t.boot.phase = .pllWait ∧ t.sec = SecState.cold ∧ t.tree = s.tree ∧
        t.get R.STRAPS_BOOT_MODE = s.get R.STRAPS_BOOT_MODE)

/-- The loading of images (R86 to R89, R96, R79, R113, R165): what a boot row does with what it finds. -/
def Obligations.BootRowsComplete : Prop :=
  ∀ s : State, Memory.wf s = true →
    (∀ readOk, s.boot.phase = .boot → s.boot.fromHost = false → s.boot.comp < 5 → s.upd.probation = none → s.boot.second = false →
      ∃ t, exec (.componentLoadDone readOk) s = .next t ∧
        (checkSlot s s.boot.comp (slotTried s) readOk = 0 → t.boot.comp = s.boot.comp + 1) ∧
        (checkSlot s s.boot.comp (slotTried s) readOk ≠ 0 → t.get R.BOOT_ERROR_COMPONENT = s.boot.comp ∧
          t.get R.BOOT_ERROR_FIRST = checkSlot s s.boot.comp (slotTried s) readOk % 256)) ∧
    (∀ readOk fails, s.boot.phase = .boot → s.boot.comp = 6 →
      ∃ t, exec (.configImageRead readOk fails) s = .next t ∧
        ((validateImage s s.upd.image).1 = 0 → t.boot.phase = .running ∧ t.boot.committed = true) ∧
        ((validateImage s s.upd.image).1 ≠ 0 → t.boot.phase = .boot ∧ t.boot.comp = 5 ∧ t.get R.BOOT_STATUS_PHASE = 9)) ∧
    (∀ frame p, uartLoads s = true → recoveryPayload 1 frame = some p → 8 ≤ p.length → chunkInOrder s (leField p 0 1) (leField p 4 4) = true →
      leField p 4 4 + (p.length - 8) ≤ 0x00800000 →
      ∃ t, exec (.recoveryChunk frame) s = .next t ∧ t.window = setBytes s.window (leField p 4 4) (p.drop 8) ∧
        assocGet t.boot.recovery (leField p 0 1) = some (leField p 4 4 + 1) ∧ t.out = .uart (recoveryFrame 3 []) :: s.out ∧ t.regs = s.regs) ∧
    (∀ frame p, uartLoads s = true → recoveryPayload 2 frame = some p → p.length = 1 →
      ∃ t, exec (.recoveryComponentDone frame) s = .next t ∧
        (leField p 0 1 ≠ s.boot.comp → t.out = .uart (recoveryFrame 4 [1#8]) :: s.out ∧ t.boot.comp = s.boot.comp) ∧
        (leField p 0 1 = s.boot.comp → checkImage s s.boot.comp (windowImage s) 0x00800000 = 0 →
          t.out = .uart (recoveryFrame 3 []) :: s.out ∧ t.boot.comp = s.boot.comp + 1) ∧ assocGet t.boot.recovery (leField p 0 1) = none) ∧
    (∀ path failed rx tx analog h0 h1, path ∈ s.boot.coldPending →
      ∃ t, exec (.coldCalDone path failed rx tx analog h0 h1) s = .next t ∧ t.boot.coldPending = s.boot.coldPending.filter (fun x => x ≠ path) ∧
        (s.boot.coldPending.filter (fun x => x ≠ path) = [] → t.get R.BOOT_STATUS_PHASE = 5)) ∧
    (∀ bad, running s = true → calendarValid s = true → updState s ≠ updProbation →
      exec (.retentionRefresh bad) s = .next (foldState refreshCopy (foldState (refreshSlot bad) s [0, 1, 2, 3, 4, 5]) [0, 1])) ∧
    (∀ bad comp e o, slotOf s comp (firstSlot s comp) = some e → slotOf s comp (1 - firstSlot s comp) = some o → e.active = true →
      e.state = slotValid → stampDue s e.stamp = true → wellPlaced s e = true → wellPlaced s o = true → e.length ≤ o.size →
      updState s = updIdle → commitAllowed s = true → slotWriteAllowed s comp (1 - firstSlot s comp) = true →
      (refreshSlot bad s comp).boot.slotWrites.head? = some (comp * 2 + (1 - firstSlot s comp), s.now) ∧
        (¬bad.contains comp → copyVerifies (countSlotWrite (programSlot s o (flashAt s.flash e.offset e.length)) comp (1 - firstSlot s comp))
            comp { o with length := e.length } = true →
          (refreshSlot bad s comp).boot.commitTimes.head? = some s.now))

/-- The low-frequency clock and the always-on failure record (R101, R107, R109). -/
def Obligations.ClockAndWindowRowsComplete : Prop :=
  ∀ s : State, Memory.wf s = true →
    (∀ cycles, powered s = true → s.boot.lfMeasuring = true → cycles ≠ 0 → lfGood cycles = true →
      ∃ t, exec (.lfclkMeasureDone cycles) s = .next t ∧ t.pwr.aonLf = true ∧ t.boot.lfAccepted = true ∧ t.boot.lfMeasuring = false ∧
        t.get R.BOOT_STATUS_AON_SRC = 0) ∧
    (powered s = true → s.boot.lfAccepted = false → s.boot.lfFallen = false →
      ∃ t, exec .lfclkAcceptTimeout s = .next t ∧ t.boot.lfFallen = true ∧ t.boot.lfMeasuring = false) ∧
    (powered s = true → s.boot.lfFallen = true →
      ∃ t, exec .lfclkRemeasureTimer s = .next t ∧ t = s.putBoot { s.boot with lfMeasuring := true }) ∧
    (s.pwr.aonLf = true →
      ∃ t, exec .lfclkEdgeLoss s = .next t ∧ t.pwr.aonLf = false ∧ t.boot.lfFallen = true ∧ t.get R.BOOT_STATUS_AON_SRC = 1) ∧
    (∀ q v, powered s = true → q = Requester.host ∨ q = Requester.app → 0x03300000 ≤ 4 * s.get (R.RTW_ADDR_OFFSET q.bank) →
      4 * s.get (R.RTW_ADDR_OFFSET q.bank) < 0x03310000 → windowResult s (4 * s.get (R.RTW_ADDR_OFFSET q.bank)) v = 0 →
      ∃ t, exec (.rtwDataWrite q v) s = .next t ∧ t.get (R.RTW_STATUS_RESULT q.bank) = 0 ∧
        t.word (4 * s.get (R.RTW_ADDR_OFFSET q.bank)) =
          mergeWord (4 * s.get (R.RTW_ADDR_OFFSET q.bank)) (s.word (4 * s.get (R.RTW_ADDR_OFFSET q.bank))) (v % 2 ^ 32)) ∧
    (∀ q v, powered s = true → q = Requester.host ∨ q = Requester.app →
      windowResult s (4 * s.get (R.RTW_ADDR_OFFSET q.bank)) v ≠ 0 →
      ∃ t, exec (.rtwDataWrite q v) s = .next t ∧
        t.get (R.RTW_STATUS_RESULT q.bank) = windowResult s (4 * s.get (R.RTW_ADDR_OFFSET q.bank)) v % 8 ∧
        t.get (R.RTW_DENIED_COUNT q.bank) = min 65535 (s.get (R.RTW_DENIED_COUNT q.bank) + 1)) ∧
    (powered s = true →
      ∃ t, exec .aonFailClear s = .next t ∧ t.get R.AON_FAIL_COUNT = 0 ∧ t.get R.AON_FAIL_PHASE = 0 ∧ t.get R.AON_FAIL_CODE = 0)

/-! ## Radio paths and the converter port (chapter 04) -/

/-- Synthesizers (R119 to R122, R129): lock, its loss, the lock timeout and the retry of a path that is out of service. The end of
blanking, blanking itself and a retune are the shared operations `unblankPath`, `blankPath` and `retune`. Transmit intervals (R123 to
R128): the start with the gate open opens an interval with the antenna and the analog entry of the first loaded frame; with the gate
closed it gives the frames back; the latest start and the end of blanking clear the interval. -/
def Obligations.RadioRowsComplete : Prop :=
  (∀ (s : State) (n : Nat), Memory.wf s = true → synthRuns s n = true →
      (s.bit (R.SYNTH_STATUS_LOCK n) = false → s.bit (R.SYNTH_STATUS_OOS n) = false →
        exec (.synthLockAcquired n) s = .next (unblankPath (startWaiting ((((s.set (R.SYNTH_STATUS_LOCK n) 1).set (R.SYNTH_STATUS_RETUNE n) 0).set
          (R.SYNTH_STATUS_OOS n) 0).setPath n { s.path n with restarted := false }) n) n)) ∧
      (s.bit (R.SYNTH_STATUS_LOCK n) = true → (∀ i, (s.path n).interval = some i → i.ramped = false) →
        exec (.synthLockLoss n) s =
          .next (blankPath ((s.set (R.SYNTH_STATUS_LOCK n) 0).bump (R.CNT_SYNTH_UNLOCK n)) n (R.CNT_RX_RX_UNLOCK n))) ∧
      (∀ i, s.bit (R.SYNTH_STATUS_LOCK n) = true → (s.path n).interval = some i → i.ramped = true →
        exec (.synthLockLoss n) s = .next (blankPath (abortInterval ((s.set (R.SYNTH_STATUS_LOCK n) 0).bump (R.CNT_SYNTH_UNLOCK n)) n 0) n
          (R.CNT_RX_RX_UNLOCK n))) ∧
      (s.bit (R.SYNTH_STATUS_LOCK n) = false → s.bit (R.SYNTH_STATUS_RETUNE n) = true → (s.path n).restarted = false →
        exec (.lockTimeout n) s = .next (s.setPath n { s.path n with restarted := true })) ∧
      (s.bit (R.SYNTH_STATUS_LOCK n) = false → s.bit (R.SYNTH_STATUS_RETUNE n) = true → (s.path n).restarted = true →
        s.bit (R.SYNTH_STATUS_OOS n) = false →
        ∃ t, exec (.lockTimeout n) s = .next t ∧ t.get (R.SYNTH_STATUS_OOS n) = 1 ∧ t.get (R.SYNTH_STATUS_RETUNE n) = 0 ∧
          (t.path n).oosSince = s.now ∧ t.get (R.CNT_SYNTH_LOCK_FAIL n) = min (2 ^ (R.CNT_SYNTH_LOCK_FAIL n).width - 1) (s.get (R.CNT_SYNTH_LOCK_FAIL n) + 1)) ∧
      (s.bit (R.SYNTH_STATUS_OOS n) = true → exec (.oosRetuneRetry n) s = .next (retune s n (windowCentre s n))) ∧
      (∀ r, s.bit (R.SYNTH_STATUS_CAL n) = true → (s.path n).request = some r → r.exclusive = true →
        exec (.calYieldRequest n) s = .next (calPreempt s n)) ∧
      (∀ r, s.bit (R.SYNTH_STATUS_CAL n) = true → (s.path n).request = some r → r.exclusive = false →
        ∃ t, exec (.calYieldRequest n) s = .next t ∧ t.get (R.SYNTH_STATUS_CAL n) = 0 ∧ (t.path n).yielded = true ∧
          (t.path n).request = some { r with running := false } ∧ t.get (R.CNT_CAL_YIELD n) = min (2 ^ (R.CNT_CAL_YIELD n).width - 1) (s.get (R.CNT_CAL_YIELD n) + 1))) ∧
  (∀ (s : State) (n : Nat), Memory.wf s = true →
      (∀ w rest, (intervalEngines s n).filterMap (fun e => (s.te e).item) = w :: rest →
        ((s.path n).interval.any fun i => !i.frames.isEmpty) = false → pathTxEnabled s n = true → gateOpen s = true →
        ∃ t i, exec (.txIntervalStart n) s = .next t ∧ (t.path n).interval = some i ∧ i.antenna = w.antenna ∧ i.analog = w.analog) ∧
      (∀ w rest, (intervalEngines s n).filterMap (fun e => (s.te e).item) = w :: rest →
        ((s.path n).interval.any fun i => !i.frames.isEmpty) = false → pathTxEnabled s n = true → gateOpen s = false →
        exec (.txIntervalStart n) s = .next (foldState (fun t e => teGiveBack t e 1) s (intervalEngines s n))) ∧
      (∀ i, (s.path n).interval = some i → i.ramped = false → i.frames ≠ [] →
        ∃ t, exec (.txLatestStartExpiry n) s = .next t ∧ (t.path n).interval = none) ∧
      (∀ i, (s.path n).interval = some i → i.frames = [] → ∃ t, exec (.blankingEnd n) s = .next t ∧ (t.path n).interval = none))

/-- The converter port (R138 to R141): the DEVCLK check, SYSREF in both modes, the receive multiblocks and the links. -/
def Obligations.JesdRowsComplete : Prop :=
  ∀ s : State, Memory.wf s = true →
    (∀ hz : Nat, jesdRuns s = true →
      ((hz : Int) - (s.get R.JESD_RATE_DEVCLK_KHZ * 1000 : Nat)).natAbs * 1000000 ≤ 2 * (s.get R.JESD_RATE_DEVCLK_KHZ * 1000) →
      exec (.devclkCheck hz) s = .next (s.set R.JESD_STATUS_DEVCLK_ERR 0)) ∧
    (∀ hz : Nat, jesdRuns s = true →
      2 * (s.get R.JESD_RATE_DEVCLK_KHZ * 1000) < ((hz : Int) - (s.get R.JESD_RATE_DEVCLK_KHZ * 1000 : Nat)).natAbs * 1000000 →
      ∃ t, exec (.devclkCheck hz) s = .next t ∧ t.get R.JESD_STATUS_DEVCLK_ERR = 1) ∧
    (running s = true → jesdPresent s.part = true → exec .jesdArm s = .next (s.putJesd { s.jesd with armed := true })) ∧
    (∀ p, jesdRuns s = true → s.bit R.JESD_CTRL_SYSREF_PER = false → s.jesd.armed = true →
      exec (.sysrefEdge p) s = .next ((s.putJesd { s.jesd with armed := false, phase := some p }).set R.JESD_STATUS_SYSREF_SEEN 1)) ∧
    (∀ p q, jesdRuns s = true → s.bit R.JESD_CTRL_SYSREF_PER = true → s.jesd.phase = some q →
      ∃ t, exec (.sysrefEdge p) s = .next t ∧
        t.jesd.phase = (if 1 < (p - q).natAbs ∧ s.bit R.JESD_CTRL_REALIGN = true then some p else some q) ∧ t.jesd.armed = s.jesd.armed) ∧
    (∀ lane, s.bit R.JESD_STATUS_RX_UP = true → natBit (jesdMask s 0) lane = true →
      exec (.jesdMultiblockRx lane true true) s = .next (s.putJesd { s.jesd with crcRun := assocSet s.jesd.crcRun lane 0 })) ∧
    (∀ lane sync, s.bit R.JESD_STATUS_RX_UP = true → natBit (jesdMask s 0) lane = true → 7 ≤ (assocGet s.jesd.crcRun lane).getD 0 →
      exec (.jesdMultiblockRx lane false sync) s = .next ((jesdDown ((s.bump R.JESD_ERR_CRC_ERR).putJesd { s.jesd with
        crcRun := assocSet s.jesd.crcRun lane ((assocGet s.jesd.crcRun lane).getD 0 + 1) }) 0 (2 ^ lane) 0).putJesd { s.jesd with crcRun := [] })) ∧
    (jesdRuns s = true → s.bit R.JESD_STATUS_DEVCLK_ERR = false → s.bit R.JESD_CTRL_RX_EN = true → s.bit R.JESD_STATUS_RX_UP = false →
      exec (.jesdLinkAligned 0) s = .next (foldState unblankPath (firstEpochs (postEvent 0x0206
        [(0, 1, 0), (1, 1, 2 ^ s.get R.JESD_RX_LINK_L)] (s.set R.JESD_STATUS_RX_UP 1))) xsPaths)) ∧
    (jesdRuns s = true → s.bit R.JESD_STATUS_DEVCLK_ERR = false → s.bit R.JESD_CTRL_TX_EN = true → s.bit R.JESD_STATUS_TX_UP = false →
      exec (.jesdLinkAligned 1) s = .next (foldState startWaiting (postEvent 0x0206
        [(0, 1, 1), (1, 1, 2 ^ s.get R.JESD_TX_LINK_L)] (s.set R.JESD_STATUS_TX_UP 1)) xsPaths))

/-! ## Calibration (chapter 05) -/

/-- Coefficient sets (R147 to R151, R154): a set is issued under the next epoch where MIN_INT allows it and merged where it does not;
the barrier hands it to every engine of the path; a noise report enters lane 7. The reference oscillator (R158, R160, R163): an interval
in which both values are valid ends the hold, one in which either is not holds; a manual word drives REF_TUNE under MODE manual. -/
def Obligations.TrimRowsComplete : Prop :=
  (∀ (s : State) (n : Nat), Memory.wf s = true →
      (∀ l, calRuns s n = true → epochAllowed s n = true →
        ∃ t, exec (.coeffSetIssue n l) s = .next t ∧ (t.path n).rxSet = fullSet l ∧ (t.path n).lastEpoch = some s.now ∧
          (t.path n).barrier = some ((rxEpoch s n + 1) % 65536) ∧ (t.path n).merged = none) ∧
      (∀ l, n < 16 → calRuns s n = true → epochAllowed s n = true →
        ∃ t, exec (.coeffSetIssue n l) s = .next t ∧ t.get (R.CAL_EPOCH_RX_EPOCH n) = (s.get (R.CAL_EPOCH_RX_EPOCH n) + 1) % 65536) ∧
      (∀ l, calRuns s n = true → epochAllowed s n = false →
        exec (.coeffSetIssue n l) s = .next (s.setPath n { s.path n with merged := some (fullSet l) })) ∧
      (∀ e, (s.path n).barrier = some e →
        ∃ t, exec (.barrierComplete n) s = .next t ∧ (t.path n).barrier = none ∧ t.regs = s.regs ∧
          ∀ c, c ∈ pathCes s n → ceState s c ≠ ceOff → (t.ce c).pendingSet = some (e, rxSetOf (s.path n))) ∧
      (∀ powers item, s.bit (R.CE_CFG_NOISE n) = true → ceState s n = ceSearch → item.words = 1 → item.poison = [] → item.tag = 0 →
        item.data = toLE 2 n ++ toLE 2 (s.get (R.CE_STATE_EPOCH n)) ++ ((powers.take 4).map (toLE 4)).flatten →
        canEnter (s.queue (ceCluster n)) (ceCluster n) 7 item = true →
        exec (.noiseReportTimer n powers) s = .next (pushItem s (ceCluster n) 7 item))) ∧
  (∀ s : State, Memory.wf s = true →
      (running s = true → crowdOk s = true → timeOk s = true →
        ∃ t, exec .trimInterval s = .next t ∧ t.get R.OSC_STATUS_HOLD = 0 ∧ t.osc.held = 0 ∧ t.osc.crowd = [] ∧
          t.osc.change = crowdChange s.osc.crowd ∧ t.get R.OSC_STATUS_CROWD_OK = 1 ∧
          t.get R.OSC_STATUS_TIME_OK = 1 ∧ (s.get R.OSC_CFG_MODE = 1 → t.osc.kept = some (t.get R.OSC_TRIM_CODE)) ∧
          (s.get R.OSC_CFG_MODE ≠ 1 → t.get R.OSC_TRIM_CODE = s.get R.OSC_TRIM_CODE)) ∧
      (running s = true → (crowdOk s && timeOk s) = false →
        ∃ t, exec .trimInterval s = .next t ∧ t.get R.OSC_STATUS_HOLD = 1 ∧ t.osc.held = s.osc.held + 1 ∧
          t.get R.OSC_STATUS_CROWD_OK = boolNat (crowdOk s) ∧ t.get R.OSC_STATUS_TIME_OK = boolNat (timeOk s) ∧
          t.get R.OSC_TRIM_CODE = s.get R.OSC_TRIM_CODE) ∧
      (∀ v, running s = true → s.get R.OSC_CFG_MODE = 2 →
        ∃ t, exec (.oscManWrite v) s = .next t ∧ t.get R.OSC_MAN_CODE = v % 65536 ∧ t.get R.OSC_TRIM_CODE = v % 65536 ∧
          t.osc.kept = some (v % 65536)) ∧
      (∀ v, powered s = true → s.get R.OSC_CFG_MODE ≠ 2 → exec (.oscManWrite v) s = .next (s.set R.OSC_MAN_CODE v)))

/-- Estimator results (R149, R152 to R156): the set that each kind of estimate makes where MIN_INT allows one at once, from the
collected mirror correlations, with the correction of the reports' own epoch removed, or from the tracked mean; and the estimates that
R153 refuses. -/
def Obligations.EstimatorRowsComplete : Prop :=
  ∀ (s : State) (n chain : Nat), Memory.wf s = true → calRuns s n = true → chain ≤ 1 → (chain = 1 → chainBEnabled s n = true) →
    (∀ bin e span i q rejection half c, bin ≤ 7 → calEnabled s n 0 = true → assocGet (s.path n).images (chain * 8 + bin) = some c →
      imageReady s n c = true → 12 < (assocGet (s.path n).bins (chain * 8 + bin)).getD rejection - rejection ∨ 8 < half →
      exec (.estimatorResult n 0 chain bin e span i q rejection half) s = .next (viewHealth (bumpTrx s n (R.CNT_CAL_REJECT n)) n)) ∧
    (∀ bin e span i q rejection half c, bin ≤ 7 → calEnabled s n 0 = true → epochAllowed s n = true →
      assocGet (s.path n).images (chain * 8 + bin) = some c → imageReady s n c = true →
      (assocGet (s.path n).bins (chain * 8 + bin)).getD rejection - rejection ≤ 12 → half ≤ 8 →
      ∃ t, exec (.estimatorResult n 0 chain bin e span i q rejection half) s = .next t ∧
        (t.path n).rxSet = listSet (listSet (nextBase (s.path n)) (chain * 19 + 2 + 2 * bin)
            (listGet 0 (nextBase (s.path n)) (chain * 19 + 2 + 2 * bin) +
              realDiv 5 (realDiv 60 (c.corrI * 65536) c.power - listGet 0 (nextBase (s.path n)) (chain * 19 + 2 + 2 * bin)) 8))
          (chain * 19 + 2 + 2 * bin + 1)
          (listGet 0 (nextBase (s.path n)) (chain * 19 + 2 + 2 * bin + 1) +
            realDiv 5 (realDiv 60 (c.corrQ * 65536) c.power - listGet 0 (nextBase (s.path n)) (chain * 19 + 2 + 2 * bin + 1)) 8)) ∧
    (∀ e span i q rejection half, calEnabled s n 1 = true → epochAllowed s n = true →
      ∃ t, exec (.estimatorResult n 1 chain 0 e span i q rejection half) s = .next t ∧
        (t.path n).rxSet = listSet (nextBase (s.path n)) (chain * 19 + 18) (i + listGet 0 (setOfEpoch s n e) (chain * 19 + 18))) ∧
    (∀ e span i q rejection half, calEnabled s n 2 = true → epochAllowed s n = true → dcCounts s n = true →
      ∃ t, exec (.estimatorResult n 2 chain 0 e span i q rejection half) s = .next t ∧
        (t.path n).rxSet = listSet (listSet (nextBase (s.path n)) (chain * 19) (dcTrack (listGet 0 (s.path n).dcMean (2 * chain)) i span))
          (chain * 19 + 1) (dcTrack (listGet 0 (s.path n).dcMean (2 * chain + 1)) q span))

/-- Calibration requests (R168 to R172): every operation is taken where the path is past its cold start and has no request, and refused
with RESULT 5 otherwise; cancelling and the 600 s limit end one. -/
def Obligations.CalRequestRowsComplete : Prop :=
  ∀ (s : State) (n : Nat), Memory.wf s = true → n < 16 →
    (∀ excl row op, (row, op) ∈ [(Instr.calImage n excl, 1), (.calAnalogFilter n excl, 2), (.calAnalogDc n excl, 3), (.calTxIqLo n excl, 4),
        (.calFull n excl, 5), (.calSelfTest n excl, 8)] →
      running s = true → pathPresent s.part n = true → s.bit (R.CAL_STATUS_COLD n) = true → (s.path n).request = none →
      ∃ t, exec row s = .next t ∧ (t.path n).request = some { op := op, exclusive := excl, running := false } ∧
        (t.path n).requestAt = s.now ∧ t.get (R.CAL_STATUS_OP n) = op ∧ t.get (R.CAL_STATUS_RESULT n) = (if excl then 3 else 4)) ∧
    (∀ excl row op, (row, op) ∈ [(Instr.calImage n excl, 1), (.calAnalogFilter n excl, 2), (.calAnalogDc n excl, 3), (.calTxIqLo n excl, 4),
        (.calFull n excl, 5), (.calSelfTest n excl, 8)] →
      running s = true → pathPresent s.part n = true → s.bit (R.CAL_STATUS_COLD n) = false ∨ (s.path n).request.isSome = true →
      ∃ t, exec row s = .next t ∧ t.paths = s.paths ∧ t.get (R.CAL_STATUS_OP n) = op ∧ t.get (R.CAL_STATUS_RESULT n) = 5) ∧
    (∀ r, (s.path n).request = some r →
      ∃ t, exec (.calCancel n) s = .next t ∧ (t.path n).request = none ∧ t.get (R.CAL_STATUS_RESULT n) = 9 ∧ t.get (R.SYNTH_STATUS_CAL n) = 0 ∧
        (∀ a b c, (s.path n).saved = some (a, b, c) → (t.path n).rxSet = a ∧ (t.path n).txSet = b ∧ (t.path n).analog = c)) ∧
    (∀ r, (s.path n).request = some r →
      ∃ t, exec (.calRequestTimeout n) s = .next t ∧ (t.path n).request = none ∧ t.get (R.CAL_STATUS_RESULT n) = 7 ∧
        t.get (R.SYNTH_STATUS_CAL n) = 0 ∧ (t.path n).rxSet = (s.path n).rxSet ∧ (t.path n).txSet = (s.path n).txSet)

/-- The run of a request (R168 to R172): a unit of a sliced request ends it or waits for the next idle slot; an exclusive one starts
once its path was idle for a slotframe, keeps the sets and the analog settings, and ends with the measured ones, under a new epoch where
MIN_INT allows one. -/
def Obligations.CalRunRowsComplete : Prop :=
  ∀ (s : State) (n : Nat) (r : CalRequest), Memory.wf s = true → n < 16 → (s.path n).request = some r →
    (∀ l tx an st time, r.exclusive = false → r.running = true → time + 100000 ≤ s.tb.boundLast + slotLenNs s →
      ∃ t, exec (.slicedCalUnit n false l tx an st time) s = .next t ∧ t.get (R.CAL_STATUS_RESULT n) = 4 ∧
        (t.path n).request = some { r with running := false } ∧ t.get (R.SYNTH_STATUS_CAL n) = 0 ∧
        (r.op ∈ [1, 4, 8] → (t.path n).rxSet = (s.path n).rxSet) ∧
        (r.op ∈ [2, 3, 5] → (t.path n).rxSet = opSet r.op (nextBase (s.path n)) (fullSet l) ∧
          (t.path n).analog = opAnalog r.op (s.path n).analog an)) ∧
    (∀ l tx an st time, r.exclusive = false → r.running = true → time + 100000 ≤ s.tb.boundLast + slotLenNs s → r.op ≠ 8 →
      ∃ t, exec (.slicedCalUnit n true l tx an st time) s = .next t ∧ (t.path n).request = none ∧ t.get (R.CAL_STATUS_RESULT n) = 1) ∧
    (∀ l tx an st time, r.exclusive = false → r.running = true → time + 100000 ≤ s.tb.boundLast + slotLenNs s → r.op = 8 →
      ∃ t, exec (.slicedCalUnit n true l tx an st time) s = .next t ∧ (t.path n).request = none ∧
        t.get (R.CAL_STATUS_RESULT n) = (if st % 16 = 0 then 1 else 8) ∧ t.get (R.CAL_STATUS_ST_A n) = st % 2) ∧
    (r.exclusive = true → r.running = false → sfLen s ≤ (s.path n).idleSlots → epochAllowed s n = true →
      ∃ t, exec (.exclusiveCalStart n) s = .next t ∧ t.get (R.CAL_STATUS_RESULT n) = 2 ∧ t.get (R.SYNTH_STATUS_CAL n) = 1 ∧
        (t.path n).saved = some ((s.path n).rxSet, (s.path n).txSet, (s.path n).analog) ∧
        (t.path n).request = some { r with running := true } ∧ (t.path n).loopback = true ∧ t.get (R.SYNTH_STATUS_RETUNE n) = 1) ∧
    (∀ failed l tx an h0 h1 st, r.exclusive = true → r.running = true → r.op ≠ 8 →
      ∃ t, exec (.exclusiveCalDone n failed l tx an h0 h1 st) s = .next t ∧ t.get (R.CAL_STATUS_RESULT n) = 1 ∧
        (t.path n).request = none ∧ (t.path n).txSet = (if natBit failed 5 then [] else tx) ∧
        (t.path n).analog = trimmedAnalog failed an ∧
        (epochAllowed s n = true → (t.path n).rxSet = nominalSet failed (fullSet l)) ∧
        (epochAllowed s n = false → (t.path n).rxSet = (s.path n).rxSet ∧ (t.path n).merged = some (nominalSet failed (fullSet l)))) ∧
    (∀ failed l tx an h0 h1 st, r.exclusive = true → r.running = true → r.op = 8 →
      ∃ t, exec (.exclusiveCalDone n failed l tx an h0 h1 st) s = .next t ∧ t.get (R.CAL_STATUS_RESULT n) = (if st % 16 = 0 then 1 else 8) ∧
        (t.path n).request = none ∧ (t.path n).rxSet = (s.path n).rxSet)

/-! ## Channel and transmit engines (chapter 06) -/

/-- Assignment and detection (R182, R184, R185, R187, R188): what a record does in each state of the engine, and what a preamble
detection and a false one do. -/
def Obligations.DetectionRowsComplete : Prop :=
  ∀ (s : State) (e : Nat), Memory.wf s = true →
    (∀ l, assocGet s.psm.assigns e = some l → ceRuns s e = true → ceState s e = ceAcq ∨ ceState s e = ceDecode →
      ∃ t, exec (.assignmentRecord e) s = .next t ∧ t.ce e = { s.ce e with pending := some l } ∧
        t.get (R.CE_STATE_PENDING e) = 1 ∧ ceState t e = ceState s e) ∧
    (∀ l, assocGet s.psm.assigns e = some l → ceRuns s e = true → ceState s e ≠ ceAcq → ceState s e ≠ ceDecode → l.record.active = 0 →
      ∃ t, exec (.assignmentRecord e) s = .next t ∧ ceState t e = ceIdle ∧ t.get (R.CE_ASG0_ACTIVE e) = 0) ∧
    (∀ l, assocGet s.psm.assigns e = some l → ceRuns s e = true → ceState s e ≠ ceAcq → ceState s e ≠ ceDecode → l.record.active = 1 →
      assignRefusal s e l.record = none →
      ∃ t, exec (.assignmentRecord e) s = .next t ∧ ceState t e = (if pathBlanked t l.record.path then ceBlank else ceSearch) ∧
        t.get (R.CE_ASG0_ACTIVE e) = 1 ∧ t.get (R.CE_ASG0_PATH e) = l.record.path % 32 ∧ t.get (R.CE_ASG0_MODE e) = l.record.mode % 256 ∧
        (t.ce e).activeSet = rxSetOf (s.path l.record.path) ∧ (t.ce e).maps = l.maps) ∧
    (∀ rhoA rhoB h, ceRuns s e = true → ceState s e = ceSearch → hypothesisOk s e h = true →
      (chainUsed s e 0 = true ∧ detThreshold s e (s.get (R.CE_ASG0_MODE e)) * 256 ≤ rhoA) ∨
        (chainUsed s e 1 = true ∧ detThreshold s e (s.get (R.CE_ASG0_MODE e)) * 256 ≤ rhoB) →
      ∃ t, exec (.preambleDetect e rhoA rhoB h) s = .next t ∧ ceState t e = ceAcq ∧ (t.ce e).chosen = none ∧ (t.ce e).sfdTime = none ∧
        t.get (R.CE_CNT_DET_DET e) = min (2 ^ (R.CE_CNT_DET_DET e).width - 1) (s.get (R.CE_CNT_DET_DET e) + 1)) ∧
    (ceRuns s e = true → ceState s e = ceAcq → (s.ce e).pending = none →
      ∃ t, exec (.falseDetection e) s = .next t ∧ ceState t e = ceSearch ∧ (t.ce e).falseSec = (s.ce e).falseSec + 1 ∧
        t.get (R.CE_CNT_DET_FALSE_DET e) = min (2 ^ (R.CE_CNT_DET_FALSE_DET e).width - 1) (s.get (R.CE_CNT_DET_FALSE_DET e) + 1)) ∧
    (∀ c, running s = true → clusterPresent s.part c = true →
      ∃ t, exec (.falseDetSecond c) s = .next t ∧
        t.get (R.CL_STAT_FD_HIGH c) =
          boolNat (decide (s.get (R.CL_FD_LIMIT c) < (clusterCes c).foldl (fun a x => a + (s.ce x).falseSec) 0)) ∧
        ∀ x, x ∈ clusterCes c → (t.ce x).falseSec = 0)

/-- Reception by an engine (R147, R148, R179, R186, R189, R191 to R193): the antenna decision, the SFD, the header and the end of a
frame. -/
def Obligations.ReceptionRowsComplete : Prop :=
  ∀ (s : State) (e : Nat), Memory.wf s = true →
    (∀ a b, ceRuns s e = true → ceState s e = ceAcq → (s.ce e).chosen = none → chainUsed s e 0 = true → chainUsed s e 1 = true →
      s.get (R.CE_ASG0_HINT_B e) = 0 →
      exec (.antennaDecision e a b) s = .next (s.setCe e { s.ce e with
        chosen := some (if 2 * s.get (R.CL_ANT_HYST (ceCluster e)) < 5 * (b - a) then 1 else 0), metricA := min 255 a, metricB := min 255 b })) ∧
    (∀ time est, ceRuns s e = true → ceState s e = ceAcq → (s.ce e).chosen.isSome = true →
      ∃ t, exec (.sfdDetect e time est) s = .next t ∧ ceState t e = ceDecode ∧ (t.ce e).pendingSet = none ∧
        (t.ce e).sfdTime = some (t.tbNs * 65536 + t.tb.frac.toNat / 65536) ∧
        (∀ x l, (s.ce e).pendingSet = some (x, l) → t.get (R.CE_STATE_EPOCH e) = x % 65536 ∧ (t.ce e).activeSet = l)) ∧
    (∀ h len f4 res sw hcs mcs, ceRuns s e = true → ceState s e = ceDecode → modeFamily (s.get (R.CE_ASG0_MODE e)) ≠ 3 →
      phrOk (s.get (R.CE_ASG0_MODE e)) len f4 res sw hcs mcs = true →
      exec (.phrDecode e h len f4 res sw hcs mcs) s = .next (s.setCe e { s.ce e with
        stale := false, usesPending := false, len := len, fcs4 := decide (modeFamily (s.get (R.CE_ASG0_MODE e)) ≠ 2) && f4, rate := 0,
        mapSel := false, mapChk := 0, mreq := false })) ∧
    (∀ h len f4 res sw hcs mcs, ceRuns s e = true → ceState s e = ceDecode → modeFamily (s.get (R.CE_ASG0_MODE e)) = 3 → headerOk h = true →
      ∃ t, exec (.phrDecode e h len f4 res sw hcs mcs) s = .next t ∧ (t.ce e).len = natBits h 0 11 ∧ (t.ce e).rate = natBits h 11 2 ∧
        (t.ce e).mapSel = natBit h 13 ∧ (t.ce e).mapChk = natBits h 14 4 ∧ (t.ce e).fcs4 = natBit h 18 ∧ (t.ce e).mreq = natBit h 22 ∧
        ((t.ce e).stale = true ↔ headerMap (s.ce e) h = 2) ∧ ((t.ce e).usesPending = true ↔ headerMap (s.ce e) h = 1)) ∧
    (∀ h len f4 res sw hcs mcs, ceRuns s e = true → ceState s e = ceDecode → (s.ce e).pending = none →
      (if modeFamily (s.get (R.CE_ASG0_MODE e)) = 3 then headerOk h else phrOk (s.get (R.CE_ASG0_MODE e)) len f4 res sw hcs mcs) = false →
      ∃ t, exec (.phrDecode e h len f4 res sw hcs mcs) s = .next t ∧ ceState t e = ceSearch ∧
        t.get (R.CE_CNT_ERR_PHR_ERR e) = min (2 ^ (R.CE_CNT_ERR_PHR_ERR e).width - 1) (s.get (R.CE_CNT_ERR_PHR_ERR e) + 1)) ∧
    (∀ psdu sat power snr res snrs nulls image, ceRuns s e = true → ceState s e = ceDecode → (s.ce e).stale = false →
      (s.ce e).pending = none →
      ∃ t, exec (.frameEnd e psdu false sat power snr res snrs nulls image) s = .next t ∧ ceState t e = ceSearch ∧ t.queues = s.queues ∧
        t.get (R.CE_CNT_RX_FCS_ERR e) = min (2 ^ (R.CE_CNT_RX_FCS_ERR e).width - 1) (s.get (R.CE_CNT_RX_FCS_ERR e) + 1)) ∧
    (∀ psdu sat power snr res snrs nulls image, ceRuns s e = true → ceState s e = ceDecode → (s.ce e).pending = none →
      ∃ t, exec (.frameEnd e psdu true sat power snr res snrs nulls image) s = .next t ∧ ceState t e = ceSearch ∧
        t.get (R.CE_LAST_LQI e) = lqi (clampInt (-128) 127 snr) ∧ t.get (R.CE_LAST_ANT e) = (s.ce e).chosen.getD 0 % 2) ∧
    (∀ p, e < 512 → (s.queue (ceCluster e)).waiting.find? (fun p => decide (p.1 = 0) && decide (leField p.2.data 30 2 % 128 = e % 128)) = some p →
      ∃ t, exec (.rxqWaitTimeout e) s = .next t ∧ (t.queue (ceCluster e)).waiting = (s.queue (ceCluster e)).waiting.erase p ∧
        t.get (R.CE_CNT_ERR_RXQ_DROP e) = min (2 ^ (R.CE_CNT_ERR_RXQ_DROP e).width - 1) (s.get (R.CE_CNT_ERR_RXQ_DROP e) + 1))

/-- Transmit engines (R194, R198 to R201): a work item is refused with status 3 or loaded; the end of its frame frees the engine. -/
def Obligations.TransmitRowsComplete : Prop :=
  ∀ (s : State) (e : Nat), Memory.wf s = true →
    (∀ h w, plannedItem s e h = some w →
      teRuns s e = true → s.get (R.TE_STATE_STATE e) = teIdle → (s.frame h).isSome = true → workRefused s e w = true →
      exec (.txWorkItem e h) s = .next ((teGiveBack ((s.putPsm { s.psm with plan := s.psm.plan.erase w }).setTe e
        { s.te e with item := some w, ready := 0 }) e 3).bump (R.TE_CNT2_REJ e))) ∧
    (∀ h w, plannedItem s e h = some w →
      teRuns s e = true → s.get (R.TE_STATE_STATE e) = teIdle → (s.frame h).isSome = true → workRefused s e w = false →
      ∃ t, exec (.txWorkItem e h) s = .next t ∧ t.get (R.TE_STATE_STATE e) = teLoaded ∧ (t.te e).item = some w ∧
        t.psm.plan = s.psm.plan.erase w ∧
        (t.te e).ready = (if w.first < s.tbNs + 4000 + rampLead s w.path then s.tbNs + 4000 else 0)) ∧
    (∀ w, (s.te e).item = some w → s.get (R.TE_STATE_STATE e) = teRun →
      ∃ t, exec (.txFrameEnd e) s = .next t ∧ (t.te e).item = none ∧ (t.te e).ready = 0 ∧
        ∀ i, (s.path w.path).interval = some i → (t.path w.path).interval = some { i with frames := i.frames.filter fun f => f.1 ≠ e })

/-! ## The map unit, the slot engine and drift (chapters 07 to 09) -/

/-- The map unit (R227, R228, R233, R234, R236): a first trailer opens a learning entry, MREQ re-issues the map, a stale report
re-issues the map of the node it names, HOLD ends, and IMAP_REQ is answered in REQ_RES. -/
def Obligations.MapRowsComplete : Prop :=
  ∀ (s : State) (n : Nat), Memory.wf s = true → running s = true →
    (∀ trailer rest, s.imap.trailers = (n, trailer) :: rest → nodeValid s n = true → isIndigo s n = true →
      natBit (leField trailer 20 1) 5 = false → s.bit R.IMAP_CFG_EN = true → assocGet s.imap.entries n = none →
      targetCodes s n (trailerSums trailer) 1 ≠ (List.range 40).map (mapCode (presentMap s n)) →
      s.imap.entries.length < 8192 → 1 < s.get R.IMAP_CFG_MAP_WIN →
      exec .mapTrailer s = .next (setMapEntry (s.putImap { s.imap with trailers := rest }) n
        { status := .learn, frames := 1, sums := trailerSums trailer, map := 0, rate := 0, msn := 0, tries := 0, sentAt := none, since := 0 })) ∧
    (∀ trailer rest, s.imap.trailers = (n, trailer) :: rest → nodeValid s n = true → isIndigo s n = true →
      natBit (leField trailer 20 1) 5 = true → s.bit R.IMAP_CFG_EN = false → mapRoom s n = true →
      exec .mapTrailer s = .next (reissueMap ((s.putImap { s.imap with trailers := rest }).bump R.IMAP_CNT2_MREQ) n)) ∧
    (∀ c f, headFrame s c .stale = some f → f.expected = none →
      exec (.staleIndigoReport c) s = .next ((dropReport s c).bump R.IMAP_CNT1_STALE)) ∧
    (∀ c f, headFrame s c .stale = some f → f.expected = some n → nodeValid s n = true → isIndigo s n = true →
      exec (.staleIndigoReport c) s = .next (reissueMap ((dropReport s c).bump R.IMAP_CNT1_STALE) n)) ∧
    (∀ e, assocGet s.imap.entries n = some e → e.status = .hold →
      ∃ t, exec (.mapHoldExpiry n) s = .next t ∧ assocGet t.imap.entries n = none ∧ t.fwd = s.fwd) ∧
    (∀ rate, nodeValid s n = true → isIndigo s n = true → assocGet s.imap.entries n = none →
      exec (.imapRateChange n rate) s = .next ((pendMap s n (presentMap s n) rate).set R.IMAP_STATUS_REQ_RES 1) ∧
      exec (.imapClear n) s = .next ((clearMap s n).set R.IMAP_STATUS_REQ_RES 1) ∧
      exec (.imapResend n) s = .next ((reissueMap s n).set R.IMAP_STATUS_REQ_RES 1)) ∧
    (∀ rate row, row ∈ [Instr.imapRateChange n rate, .imapClear n, .imapResend n] →
      (nodeValid s n = true → isIndigo s n = true → (assocGet s.imap.entries n).isSome = true →
        exec row s = .next (s.set R.IMAP_STATUS_REQ_RES 2)) ∧
      ((nodeValid s n && isIndigo s n) = false → exec row s = .next (s.set R.IMAP_STATUS_REQ_RES 3)))

/-- The slot engine (R240, R256, R260 to R263, R266, R272): a slot boundary is the sequence of the shared operations and counts one ASN;
a frame report goes through the filters to the packet core; windows that end miss a poll or resend a follow-on; a join request is
acknowledged and answered in its slot. -/
def Obligations.SlotRowsComplete : Prop :=
  ∀ s : State, Memory.wf s = true →
    (slotframesRun s = true →
      exec .slotBoundary s = .next (autoRepair (issueSlot (slotOnPaths (assignEngines (planExchanges (swapMicrocode (settle
        (boundaryDue (countBoundary (endSlot (countIdle s)))))))))))) ∧
    (s.pair.takeAsn = false → s.bit R.PSM_STATUS_RUN = true →
      (countBoundary s).asnNat = (s.asnNat + 1) % 2 ^ 40 ∧ (countBoundary s).pair.asnAt = (countBoundary s).now) ∧
    (∀ c w i, running s = true → headReport s c = some i → rxKind s i = .poison →
      exec (.receivedFrame c w) s = .next (consumeTag (dropReport s c) i.tag)) ∧
    (∀ c w i, running s = true → headReport s c = some i → rxKind s i = .node →
      exec (.receivedFrame c w) s = .next (match filterFrame (dropReport s c) (rxFrame s i) with
        | (u, none) => u
        | (u, some n) => takeFrame u n (rxFrame s i) w)) ∧
    (∀ n e, running s = true → exchangeOf s n = some e → e.closed = false → e.sent = true → e.replied = false → nodeValid s n = true →
      exec (.replyWindowEnd n) s = .next (missedPoll (setExchange s n { e with closed := true }) n e.unionOnly)) ∧
    (∀ n e, running s = true → exchangeOf s n = some e → e.closed = false → e.sent = false ∨ e.replied = true →
      exec (.replyWindowEnd n) s = .next (setExchange s n { e with closed := true })) ∧
    (∀ n e h f, running s = true → exchangeOf s n = some e → e.follow = some h → s.frame h = some f → f.sends ≠ 0 →
      f.sends < s.get R.PSM_SUP_DL_RETRY →
      ∃ t, exec (.nodeAckWindowEnd n) s = .next t ∧ exchangeOf t n = some { e with follow := none, more := false, ackDue := none } ∧
        assocGet t.sched.resend n = some h ∧ t.frame h = some f) ∧
    (∀ c f eui ie k d, running s = true → headFrame s c .join = some f → f.extSource = some eui → joinContent f = some ie →
      d = dropReport s c → addressedHere d f = true → nodesClosed d = false → f.expected = none → joinSlotAt d f.asn = some k →
      claims d = true → d.bit R.PSM_CTRL_EN = true → d.bit R.PSM_STATUS_RUN = true →
      exec (.joinRequest c) s = .next (joinRequest (ackJoin d k f.asn f.path f.ant f.mac.seq eui f.ended) eui
        (d.get (R.JOIN_SLOT_MODE k)) f.path f.ant ie)) ∧
    (∀ c f eui ie d, running s = true → headFrame s c .join = some f → f.extSource = some eui → joinContent f = some ie →
      d = dropReport s c → addressedHere d f = false → exec (.joinRequest c) s = .next (d.bump R.PSM_CNT3_FILT_PAN))

/-- Learned drift (R283, R285 to R288): the fitter takes its oldest observation, an old model ends, and WAKE_REQ sets a target or starts
a model afresh. Peer tracking (R296, R297): a beacon inside the window sets the tracker to TRACK with no misses, one with another ASN
and a slotframe without one count a miss, and the 3rd and the 16th miss change the state. -/
def Obligations.DriftAndTrackRowsComplete : Prop :=
  (∀ (s : State) (n : Nat), Memory.wf s = true →
      (∀ o rest, s.drift.inputs = o :: rest → nodeValid s o.node = false →
        exec .driftObservation s = .next (s.putDrift { s.drift with inputs := rest })) ∧
      (∀ o rest, s.drift.inputs = o :: rest → nodeValid s o.node = true →
        ∃ t, exec .driftObservation s = .next t ∧ t = fitObservation (s.putDrift { s.drift with inputs := rest }) o) ∧
      (running s = true → nodeValid s n = true → modelValid s n = true → 2 ^ 23 * slotLenNs s ≤ silentNs s n →
        exec (.modelAgeExpiry n) s = .next (considerAgreement ((setFit s n { fitOf s n with valid := false }).bump R.DRIFT_CNT3_INVALID) n)) ∧
      (∀ k, running s = true → nodeValid s n = true →
        exec (.wakeSetTarget n k) s = .next (considerAgreement ((s.set R.DRIFT_STATUS_REQ_RES 1).putDrift
          { s.drift with targets := assocSet s.drift.targets n (k % 16) }) n)) ∧
      (running s = true → nodeValid s n = true →
        ∃ u t, exec (.wakeResetModel n) s = .next t ∧ t = considerAgreement u n ∧ (fitOf u n).valid = false ∧
          (fitOf u n).timings = 0 ∧ (fitOf u n).split = false ∧ (fitOf u n).p01 = 0 ∧ (fitOf u n).eRes = s.get R.DRIFT_CFG_RAW_TOL * 256 ∧
          u.get R.DRIFT_STATUS_REQ_RES = 1) ∧
      (∀ k row, row ∈ [Instr.wakeSetTarget n k, .wakeResetModel n] → running s = true → nodeValid s n = false →
        exec row s = .next (s.set R.DRIFT_STATUS_REQ_RES 2))) ∧
  (∀ s : State, Memory.wf s = true → running s = true →
      (∀ c f tPoll d tau, headFrame s c .beacon = some f → beaconContent f = some (f.asn, tPoll) → d = dropReport s c →
        d.get R.TRACK_STATUS_STATE ≠ trackOff → trackedSlot d f = true → tau = d.drift.trackLast.elim 0 (fun t => f.began - t) →
        2 * ((f.began : Int) - slotStartOf d f.asn - (tPoll * 1000 : Nat) - d.getI R.TRACK_PHASE_PHI -
          realDiv 21 (d.getI R.TRACK_DRIFT_D * tau) (1024 * 1000000)).natAbs ≤ trackWindow d tau * 1000 →
        ∃ t, exec (.peerBeaconRx c) s = .next t ∧ t.get R.TRACK_STATUS_STATE = trackTrack ∧ t.get R.TRACK_STATUS_MISSES = 0 ∧
          t.drift.trackLast = some f.began) ∧
      (∀ c f asn tPoll d, headFrame s c .beacon = some f → beaconContent f = some (asn, tPoll) → asn ≠ f.asn → d = dropReport s c →
        d.get R.TRACK_STATUS_STATE ≠ trackOff → trackedSlot d f = true → d.drift.trackFrame ≠ some (slotframeOf d f.asn) →
        exec (.peerBeaconRx c) s = .next (trackMiss (d.bump R.TRACK_CNT1_ASN_MISMATCH) (slotframeOf d f.asn))) ∧
      (s.bit R.TRACK_CFG_EN = true → s.get R.TRACK_STATUS_STATE ≠ trackOff → s.drift.trackFrame ≠ some (slotframeOf s s.asnNat) →
        ∃ t, exec .trackSlotframeMiss s = .next t ∧
          t.get R.TRACK_STATUS_MISSES = min (2 ^ R.TRACK_STATUS_MISSES.width - 1) (s.get R.TRACK_STATUS_MISSES + 1) ∧
          t.get R.TRACK_STATUS_STATE = (if s.get R.TRACK_STATUS_MISSES = 2 then trackHoldover
            else if s.get R.TRACK_STATUS_MISSES = 15 then trackLost else s.get R.TRACK_STATUS_STATE)))

/-! ## Forwarding tables (chapter 10) -/

/-- The EUI hash table (R307 to R309, R328): lookups, inserts and deletes answer in EHT_STAT, commands of a requester without the right
are refused with RESULT 3, and a finished pass leaves the buckets of the next one. -/
def Obligations.EhtRowsComplete : Prop :=
  ∀ (s : State) (q : Requester), Memory.wf s = true →
    (∀ way flip i, openTo s q = true → (ehtLookup (ehtUpset s (ehtEuiOf s q) way flip) (ehtEuiOf s q)).2 = some i →
      ∃ t, exec (.ehtLookup q way flip) s = .next t ∧ t.get (R.EHT_STAT_RESULT q.bank) = 0 ∧ t.get (R.EHT_STAT_INDEX q.bank) = i % 2 ^ 20 ∧
        t.fwd.ncs = s.fwd.ncs) ∧
    (∀ way, openTo s q = true → (ehtLookup s (ehtEuiOf s q)).2 = none → ehtMet s (ehtEuiOf s q) = [] →
      ∃ t, exec (.ehtLookup q way 0) s = .next t ∧ t.get (R.EHT_STAT_RESULT q.bank) = 1 ∧ t.fwd = s.fwd) ∧
    (∀ index u r i, openTo s q = true → fwdFull q = true → ehtInsert s (ehtEuiOf s q) index = (u, r, i) →
      ∃ t, exec (.ehtInsert q index) s = .next t ∧ t.get (R.EHT_STAT_RESULT q.bank) = r % 8 ∧
        t.get (R.EHT_STAT_INDEX q.bank) = i % 2 ^ 20 ∧ t.fwd = u.fwd) ∧
    (openTo s q = true → fwdFull q = true → (ehtDelete s (ehtEuiOf s q)).2 = true →
      ∃ t, exec (.ehtDelete q) s = .next t ∧ t.get (R.EHT_STAT_RESULT q.bank) = 0 ∧ t.fwd = (ehtDelete s (ehtEuiOf s q)).1.fwd) ∧
    (∀ index row, row ∈ [Instr.ehtInsert q index, .ehtDelete q] → openTo s q = true → fwdFull q = false →
      exec row s = .next (s.set (R.EHT_STAT_RESULT q.bank) 3)) ∧
    (∃ t, exec .ehtRebuildDone s = .next t ∧ t.fwd.rebuild = [] ∧ t.get R.FWD_STATUS_REBUILD = boolNat (!t.fwd.pass.isEmpty) ∧
      t.fwd.ncs = s.fwd.ncs)

/-- The heard-by tables and the infrastructure table (R19, R312, R313, R316, R317, R328): a learning write, which a static entry keeps
out, the tick, the two commands of HB_CMD, the write of an entry and the compare pass. -/
def Obligations.HeardByRowsComplete : Prop :=
  ∀ s : State, Memory.wf s = true → running s = true →
    (∀ c n path ant rssi flip, clusterPresent s.part c = true → n < lineCount s →
      exec (.heardByUpdate c n path ant rssi flip) s =
        .next (hbUpdate (s.setHbWord c n (s.hbAt c n ^^^ BitVec.ofNat 16 flip)) c n path ant (rssiBucket rssi))) ∧
    (∀ c n path ant rssi, clusterPresent s.part c = true → n < lineCount s → pathCluster path = c → s.bit (R.Q_STAT_RESETTING (4 + c)) = false →
      (s.queue (4 + c)).lane 1 = [] → (s.queue (4 + c)).waiting = [] → hbBad s c n = false → (hbFields (s.hbAt c n)).static_ = false →
      (hbFields (s.hbAt c n)).valid = false →
      ∃ t, exec (.heardByUpdate c n path ant rssi 0) s = .next t ∧ t.regs = s.regs ∧ t.fwd.ncs = s.fwd.ncs ∧
        t.hbAt c n =
          hbWord { path := path, ant := ant, bkt := rssiBucket rssi, static_ := false, valid := true, tb := s.get R.FWD_STATUS_HB_NOW }) ∧
    (∀ c n path ant rssi, clusterPresent s.part c = true → n < lineCount s → pathCluster path = c → s.bit (R.Q_STAT_RESETTING (4 + c)) = false →
      (s.queue (4 + c)).lane 1 = [] → (s.queue (4 + c)).waiting = [] → hbBad s c n = false → (hbFields (s.hbAt c n)).static_ = true →
      ∃ t, exec (.heardByUpdate c n path ant rssi 0) s = .next t ∧ t.hbAt c n = s.hbAt c n ∧ t.regs = s.regs ∧ t.fwd.ncs = s.fwd.ncs) ∧
    (∃ t, exec .hbTick s = .next t ∧ t.get R.FWD_STATUS_HB_NOW = (s.get R.FWD_STATUS_HB_NOW + 1) % 8 ∧
      t.fwd.ncs = s.fwd.ncs ∧ t.fwd.eht = s.fwd.eht) ∧
    (∀ q c n, clusterPresent s.part c = true →
      ∃ t, exec (.hbRead q c n) s = .next t ∧ t.get (R.HB_STAT_ENTRY q.bank) = (s.hbAt c n).toNat ∧
        t.get (R.HB_STAT_RESULT q.bank) = (if hbBad s c n then 3 else 0) ∧ t.fwd = s.fwd) ∧
    (∀ q c n, clusterPresent s.part c = true → hbBad s c n = false → (hbFields (s.hbAt c n)).static_ = false →
      ∃ t, exec (.hbInvalidate q c n) s = .next t ∧ (hbFields (t.hbAt c n)).valid = false ∧ t.get (R.HB_STAT_RESULT q.bank) = 0) ∧
    (∀ q c n, clusterPresent s.part c = true → hbBad s c n = false → (hbFields (s.hbAt c n)).static_ = true →
      exec (.hbInvalidate q c n) s = .next (s.set (R.HB_STAT_RESULT q.bank) 2)) ∧
    (∀ q c n row, row ∈ [Instr.hbRead q c n, .hbInvalidate q c n] → clusterPresent s.part c = false →
      exec row s = .next (s.set (R.HB_STAT_RESULT q.bank) 1)) ∧
    (∀ i w, i < 16384 → infraRefused s i w = false →
      ∃ t, exec (.infraEntryWrite .control i w) s = .next t ∧ infraEnt t i = w % 2 ^ 32 ∧ infraShadow t i = w % 2 ^ 32) ∧
    (∀ i w, i < 16384 → infraRefused s i w = true →
      exec (.infraEntryWrite .control i w) s = .next (s.bump R.FWD_CNT3_INFRA_REJ)) ∧
    (∀ q i w, q ≠ .control → exec (.infraEntryWrite q i w) s = .next s) ∧
    (∀ i flip u l r, s.bit R.INFRA_CTRL_EN = true →
      u = (if flip = 0 then s else s.setWord (R.INFRA_ENT (i % 16384)) (s.word (R.INFRA_ENT (i % 16384)) ^^^ BitVec.ofNat 32 flip)) →
      l = infraListed u ++ (u.fwd.shadow.map fun c => c.1).filter (fun i => !(infraListed u).contains i) →
      r = l.foldl compareEntry (u, 0) →
      exec (.infraComparePass i flip) s = .next (r.1.setBit R.INFRA_STAT_MISMATCH (decide (r.2 ≠ 0)))) ∧
    (∀ q c n, clusterPresent s.part c = true → hbBad s c n = true →
      exec (.hbInvalidate q c n) s = .next (s.set (R.HB_STAT_RESULT q.bank) 3))

/-- The node context store (R303, R315, R327, R328): reads, masked writes and zeroed lines with their results, the bulk clear and its
end, and the minute sweep. -/
def Obligations.StoreRowsComplete : Prop :=
  ∀ (s : State) (q : Requester), Memory.wf s = true →
    (∀ n, openTo s q = true → ncsCheck s n = 0 → linePoisoned s n = false →
      ∃ t, exec (.ncsRead q n) s = .next t ∧ t.get (R.NCS_STAT_RESULT q.bank) = 0 ∧ t.fwd = s.fwd ∧
        ∀ i, i < 16 → t.get (R.NCS_DATA_DATA i q.bank) = natBits (s.line n).toNat (32 * i) 32) ∧
    (∀ n, openTo s q = true → ncsCheck s n = 0 → linePoisoned s n = true → exec (.ncsRead q n) s = .next (s.set (R.NCS_STAT_RESULT q.bank) 2)) ∧
    (∀ n, openTo s q = true → fwdFull q = true → s.bit R.PAIR_STATUS_CLAIM_OUT = true → ncsCheck s n = 0 → linePoisoned s n = false →
      ∃ t, exec (.ncsMaskedWrite q n) s = .next t ∧ t.get (R.NCS_STAT_RESULT q.bank) = 0 ∧
        t.line n = maskedLine (s.line n) (ncsMask s q) (ncsData s q) ∧ ∀ m, m ≠ n → t.line m = s.line m) ∧
    (∀ n, openTo s q = true → fwdFull q = true → s.bit R.PAIR_STATUS_CLAIM_OUT = true → ncsCheck s n = 0 →
      ∃ t, exec (.ncsZeroLine q n) s = .next t ∧ t.get (R.NCS_STAT_RESULT q.bank) = 0 ∧ t.line n = 0#512 ∧
        assocGet t.imap.entries n = none ∧ ∀ m, m ≠ n → t.line m = s.line m) ∧
    (∀ n row, row ∈ [Instr.ncsMaskedWrite q n, .ncsZeroLine q n] → openTo s q = true → fwdFull q = false ∨ s.bit R.PAIR_STATUS_CLAIM_OUT = false →
      exec row s = .next (s.set (R.NCS_STAT_RESULT q.bank) 3)) ∧
    (openTo s q = true → s.bit R.PAIR_STATUS_CLAIM_OUT = true → s.fwd.snap.job = .idle →
      ∃ t, exec (.ncsBulkClear q) s = .next t ∧ (∀ n, t.line n = 0#512) ∧ t.fwd.eht = [] ∧ t.fwd.hb = [] ∧ t.fwd.snap.job = .clearing ∧
        t.imap.entries = [] ∧ t.get R.FWD_STATUS_CLEARING = 1) ∧
    (s.fwd.snap.job = .clearing → ∃ t, exec .bulkClearDone s = .next t ∧ t.fwd.snap.job = .idle) ∧
    (running s = true → followsPeer s = false →
      exec .nodeMinuteSweep s = .next (foldState ageLine ((s.bumpWrap R.FWD_STATUS_NODE_MIN).putDrift
        { s.drift with refHistory := (s.getI R.DRIFT_REF_REF :: s.drift.refHistory).take 2880 }) (s.fwd.ncs.map fun c => c.1)))

/-- BAR2 and snapshots (R322 to R325): a read of BAR2 line by line, the export with its end and its abort, the restore and the end of
its reads. -/
def Obligations.SnapshotRowsComplete : Prop :=
  ∀ s : State, Memory.wf s = true → running s = true →
    (∀ off len, s.pcie.linkUp = true → len ≠ 0 → 2 ^ 26 < off + len → exec (.bar2Read off len) s = .next (s.emit .unsupported)) ∧
    (∀ off len, s.pcie.linkUp = true → len ≠ 0 → off + len ≤ 2 ^ 26 →
      exec (.bar2Read off len) s = .next (foldState (fun t n => bar2Line t off len n) s (bar2Lines off len))) ∧
    (∀ off len, s.pcie.linkUp = true → len ≠ 0 → off + len ≤ 2 ^ 26 → (off + len - 1) / 64 = off / 64 → linePoisoned s (off / 64) = false →
      exec (.bar2Read off len) s = .next (s.emit (.bar2 (bar2Bytes s off len) false))) ∧
    (s.fwd.snap.job = .idle →
      ∃ t, exec .snapshotExport s = .next t ∧ t.fwd.snap.job = .exporting ∧ t.fwd.snap.lines = s.fwd.ncs ∧ t.fwd.snap.asn = s.asnNat ∧
        t.fwd.snap.sequence = s.fwd.snap.sequence + 1 ∧ t.get R.SNAP_STAT_STATE = 1 ∧ t.fwd.ncs = s.fwd.ncs) ∧
    (s.fwd.snap.job ≠ .idle → exec .snapshotExport s = .next (s.set R.SNAP_STAT_RESULT 1)) ∧
    (∀ err misread, s.fwd.snap.job = .exporting →
      ∃ t, exec (.snapshotExportDone err misread) s = .next t ∧ t.fwd.snap.job = .idle ∧ t.get R.SNAP_STAT_STATE = 0 ∧
        t.get R.SNAP_STAT_RESULT = (if err then 7 else 0)) ∧
    (∀ l, s.fwd.snap.job = .exporting → l = s.fwd.snap.lines.map (fun c => (c.1, if linePoisoned s c.1 then rebuildLine s else c.2)) →
      ∃ t, exec (.snapshotExportDone false []) s = .next t ∧
        t.out = .snapshot (snapAddr s) l (snapshotSums l) (snapDescriptor s) :: s.out) ∧
    (s.fwd.snap.job = .exporting →
      ∃ t, exec .snapshotAbort s = .next t ∧ t.fwd.snap.job = .idle ∧ t.get R.SNAP_STAT_STATE = 0 ∧ t.get R.SNAP_STAT_RESULT = 5 ∧
        t.fwd.ncs = s.fwd.ncs) ∧
    (∀ resume d, restoreRefusal s d = 0 →
      ∃ t, exec (.snapshotRestore resume d) s = .next t ∧ t.fwd.snap.job = .restoring ∧ t.fwd.snap.resume = resume ∧ t.fwd.hb = [] ∧
        t.fwd.eht = [] ∧ t.get R.SNAP_STAT_STATE = 2 ∧ t.get R.SNAP_STAT_TILES = 0) ∧
    (∀ resume d, restoreRefusal s d ≠ 0 → exec (.snapshotRestore resume d) s = .next (s.set R.SNAP_STAT_RESULT (restoreRefusal s d))) ∧
    (∀ lines sums, s.fwd.snap.job = .restoring →
      ∃ t, exec (.restoreReadDone lines sums true) s = .next t ∧ t.fwd.snap.job = .idle ∧ t.get R.SNAP_STAT_STATE = 0 ∧
        t.get R.SNAP_STAT_RESULT = 7) ∧
    (∀ lines sums, s.fwd.snap.job = .restoring →
      ∃ t, exec (.restoreReadDone lines sums false) s = .next t ∧ t.fwd.snap.job = .restoreBoundary ∧ t.sec.cache = [] ∧
        t.fwd.snap.badTiles = (restoreBad s lines sums).length)

/-! ## Scheduling, queues and the host interface (chapters 11 to 13) -/

/-- Scheduling (R344, R345, R348): an SF0 boundary takes a pending epoch into force, a write of PATH_SCHED waits for it and clears
DRAINED at once, and a depth sample follows every measured queue. -/
def Obligations.ScheduleRowsComplete : Prop :=
  ∀ s : State, Memory.wf s = true →
    (running s = true → s.bit R.PSM_STATUS_RUN = true → slotOffset s ((s.asnNat + 1) % 2 ^ 40) = 0 → s.sched.epochPending = true →
      ∃ t, exec .scheduleEpochSwitch s = .next t ∧ t.get R.SCHED_STATUS_EPOCH = (s.get R.SCHED_STATUS_EPOCH + 1) % 65536 ∧
        t.sched.epochPending = false) ∧
    (∀ first, running s = true → s.bit R.PSM_STATUS_RUN = true → first = (s.asnNat + 1) % 2 ^ 40 → slotOffset s first = 0 →
      exec .scheduleEpochSwitch s = .next (drainCheck (if s.sched.epochPending then switchEpoch s first else s) first)) ∧
    (∀ p drain, powered s = true → pathPresent s.part p = true →
      ∃ t, exec (.pathSchedWrite p drain) s = .next t ∧ t.get (R.PATH_SCHED_DRAIN p) = boolNat drain ∧ t.sched.epochPending = true ∧
        t.sched.drains = s.sched.drains ∧
        t.get (R.PATH_SCHED_DRAINED p) = (if drain then s.get (R.PATH_SCHED_DRAINED p) else 0)) ∧
    (running s = true → ∃ t, exec .depthSample s = .next t ∧ t.queues = s.queues ∧ t.sched = s.sched ∧
      ∀ q, q < 24 → t.get (R.DEPTH_LAST q) = depthOf s q % 65536 ∧
        t.get (R.DEPTH_MAX q) = max (s.get (R.DEPTH_MAX q)) (depthOf s q) % 65536)

/-- Frame queues (R354, R355, R357 to R361): a producer's item enters or waits, a waiting one is admitted when there is room, the reader
takes the head item, and a forced reset empties the queue, then opens it again. -/
def Obligations.QueueRowsComplete : Prop :=
  ∀ (s : State) (q : Nat), Memory.wf s = true → q < 32 →
    (∀ lane w poison tag data, queuePresent s.part q = true → 0 < w → w ≤ laneSize q lane →
      exec (.queueItemWrite q lane w poison tag data) s = .next (queueViews (pushItem s q lane
        { words := w, poison := poison.filter (fun k => decide (k < w)), tag := tag, data := data }) q)) ∧
    (∀ lane i, canEnter (s.queue q) q lane i = true → s.bit (R.Q_STAT_RESETTING q) = false →
      (∀ p ∈ (s.queue q).waiting, p.1 ≠ lane) →
      ((pushItem s q lane i).queue q).lane lane = (s.queue q).lane lane ++ [i]) ∧
    (s.bit (R.Q_STAT_RESETTING q) = false → exec (.queueRoomAvailable q) s = .next (queueViews (admitOne s q) q)) ∧
    (∀ l i t, s.bit (R.Q_STAT_RESETTING q) = false → popItem s q = (t, some (l, i)) → i.poisoned = false →
      exec (.queueItemRead q) s = .next (hbItemTaken (portItem (queueViews t q) q l i) q l i)) ∧
    (∀ l i t, s.bit (R.Q_STAT_RESETTING q) = false → popItem s q = (t, some (l, i)) → i.poisoned = true →
      exec (.queueItemRead q) s = .next (consumeTag (queueViews t q) i.tag)) ∧
    (s.bit (R.Q_STAT_RESETTING q) = false → q = mba ∨ q = mbc → headItem (s.queue q).lanes = none →
      ∃ t, exec (.queueItemRead q) s = .next t ∧ t.get (R.Q_STAT_UNDERRUN q) = 1 ∧ t.queues = s.queues) ∧
    (∀ w held row, row ∈ [Instr.queuePointerMismatch q w held, .queueTestForce q held] → s.bit (R.Q_STAT_RESETTING q) = false → queuePresent s.part q = true →
      ∃ t, exec row s = .next t ∧ t.get (R.Q_STAT_RESETTING q) = 1 ∧ (t.queue q).lanes = [] ∧ (t.queue q).lost = (s.queue q).items ∧
        (t.queue q).tags = (s.queue q).tags) ∧
    (s.bit (R.Q_STAT_RESETTING q) = true →
      ∃ t, exec (.queueResetDone q) s = .next t ∧ t.get (R.Q_STAT_RESETTING q) = 0 ∧ (t.queue q).lost = 0)

/-- The PCIe endpoint and its messages (R75, R364 to R366, R376): resets, the link, an unsupported request, Bus Master Enable and a
vector that is unmasked. -/
def Obligations.PcieRowsComplete : Prop :=
  ∀ s : State, Memory.wf s = true →
    (∀ flr, ∃ t, exec (.pcieReset flr) s = .next t ∧ t.pcie.bme = false ∧ t.pcie.msix = [] ∧ t.pcie.pba = 0#64 ∧ t.hqs = [] ∧
      t.pcie.linkUp = (flr && s.pcie.linkUp) ∧ t.pcie.perst = (flr && s.pcie.perst) ∧
      (∀ r, r < 16 → t.get (R.EVR_CTRL_EN r) = 0) ∧ ∀ q, q < 8 → t.get (R.HQ_CTRL_EN q) = 0) ∧
    (exec .pcieResetRelease s = .next (s.putPcie { s.pcie with perst := true })) ∧
    (∀ w r, s.pcie.perst = true → powered s = true →
      ∃ t, exec (.pcieLinkChange true w r) s = .next t ∧ t.pcie = { s.pcie with linkUp := true, width := w, rate := r }) ∧
    (∀ w r, ∃ t, exec (.pcieLinkChange false w r) s = .next t ∧ t.pcie = { s.pcie with linkUp := false, width := 0, rate := 0 }) ∧
    (exec .unsupportedRequest s = .next (s.emit .unsupported)) ∧
    (∀ on_, on_ ≠ s.pcie.bme → ∃ t, exec (.busMasterEnableChange on_) s = .next t ∧ t.pcie = { s.pcie with bme := on_ }) ∧
    (∀ v, v < 64 → ∃ t, exec (.msixVectorUnmask v) s = .next t ∧ vectorMasked t v = false ∧ t.pcie.pba.getLsbD v = false) ∧
    (∀ r, r < 16 → ringActive s r = true → (s.ring r).wbProd ≠ (s.ring r).msgProd → (s.ring r).msgTime = 0 →
      vectorMasked s (s.get (R.EVR_CTRL_VECTOR r)) = false →
      ∃ t, exec (.msixMessage r) s = .next t ∧ (t.ring r).msgProd = (s.ring r).wbProd ∧ (t.ring r).msgTime = s.now ∧
        t.out = msixOut s (s.get (R.EVR_CTRL_VECTOR r)) :: s.out)

/-- Events and event rings (R366 to R377): an occurrence takes its source's next number; a record of an active ring goes to host memory
with PROD, and the write-back follows; EVR_CTRL, EVR_BASE and EVR_CONS obey R372 and R374. -/
def Obligations.EventRowsComplete : Prop :=
  ∀ (s : State) (r : Nat), Memory.wf s = true → r < 16 →
    (∀ code data, 1 ≤ code % 256 → code % 256 ≤ eventTypes (code / 256) → eventMasked s (code / 256) (code % 256) = false →
      rateLimited code = false → ringActive s (eventRing s (code / 256)) = false → s.ev.backlog.length < 256 →
      ∃ t, exec (.eventGenerate code data) s = .next t ∧ t.ev.backlog.length = s.ev.backlog.length + 1 ∧
        assocGet t.ev.seqs (code / 256) = some ((sourceSeq s (code / 256) + 1) % 65536)) ∧
    (∀ e rest, (s.ring r).waiting = e :: rest → ringActive s r = true →
      (s.get (R.EVR_PROD_INDEX r) + 2 ^ 32 - s.get (R.EVR_CONS_INDEX r)) % 2 ^ 32 < ringSize s r →
      ∃ t, exec (.eventRecordWrite r) s = .next t ∧ (t.ring r).waiting = rest ∧
        t.get (R.EVR_PROD_INDEX r) = (s.get (R.EVR_PROD_INDEX r) + 1) % 2 ^ 32 ∧
        t.out = .hostWrite (hostAddr s (R.EVR_BASE_LO_ADDR r) (R.EVR_BASE_HI_ADDR r) + s.get (R.EVR_PROD_INDEX r) % ringSize s r * 32)
          (recordBytes e (decide (s.get (R.EVR_PROD_INDEX r) / ringSize s r % 2 = 0))) :: s.out) ∧
    (ringActive s r = true → (s.ring r).wbProd ≠ s.get (R.EVR_PROD_INDEX r) →
      ∃ t, exec (.eventWriteback r) s = .next t ∧ (t.ring r).wbProd = s.get (R.EVR_PROD_INDEX r) ∧ t.regs = s.regs ∧
        t.out = .hostWrite (hostAddr s (R.EVR_WB_LO_ADDR r) (R.EVR_WB_HI_ADDR r))
          (toLE 4 (s.get (R.EVR_PROD_INDEX r)) ++ toLE 4 (s.ring r).drops) :: s.out) ∧
    (∀ v, s.bit (R.EVR_CTRL_EN r) = false → natBit v 31 = true → 6 ≤ natBits v 24 5 → natBits v 24 5 ≤ 16 →
      s.get (R.EVR_BASE_LO_ADDR r) % 4096 = 0 → s.get (R.EVR_WB_LO_ADDR r) % 8 = 0 →
      ∃ t, exec (.evrCtrlWrite r v) s = .next t ∧ t.get (R.EVR_CTRL_EN r) = 1 ∧ t.get (R.EVR_CTRL_LOG2SZ r) = natBits v 24 5 ∧
        t.get (R.EVR_PROD_INDEX r) = 0 ∧ t.get (R.EVR_CONS_INDEX r) = 0) ∧
    (∀ v, s.bit (R.EVR_CTRL_EN r) = false → natBit v 31 = true → natBits v 24 5 < 6 ∨ 16 < natBits v 24 5 →
      ∃ t, exec (.evrCtrlWrite r v) s = .next t ∧ t.get (R.EVR_CTRL_EN r) = 0 ∧ t.get (R.EVR_STAT_BAD_CFG r) = 1) ∧
    (∀ v, s.bit (R.EVR_CTRL_EN r) = false →
      exec (.evrBaseWrite r 0 v) s = .next (s.set (R.EVR_BASE_LO_ADDR r) v) ∧
      exec (.evrBaseWrite r 3 v) s = .next (s.set (R.EVR_WB_HI_ADDR r) v)) ∧
    (∀ part v, s.bit (R.EVR_CTRL_EN r) = true → exec (.evrBaseWrite r part v) s = .next (s.set (R.EVR_STAT_BAD_CFG r) 1)) ∧
    (∀ v, s.bit (R.EVR_CTRL_EN r) = true →
      (s.get (R.EVR_PROD_INDEX r) + 2 ^ 32 - v % 2 ^ 32) % 2 ^ 32 ≤ ringSize s r →
      exec (.evrConsWrite r v) s = .next (s.set (R.EVR_CONS_INDEX r) v))

/-- Host frame queues (R372, R374, R381, R382): the control and the tail of a queue, and a transmit descriptor. -/
def Obligations.HostQueueRowsComplete : Prop :=
  ∀ (s : State) (h : Nat), Memory.wf s = true → h < 8 →
    (∀ v, s.bit (R.HQ_CTRL_EN h) = false → natBit v 31 = true → 4 ≤ natBits v 24 5 → natBits v 24 5 ≤ 12 →
      s.get (R.HQ_BASE_LO_ADDR h) % 4096 = 0 → s.get (R.HQ_WB_LO_ADDR h) % 4 = 0 →
      ∃ t, exec (.hqCtrlWrite h v) s = .next t ∧ t.get (R.HQ_CTRL_EN h) = 1 ∧ t.get (R.HQ_HEAD_INDEX h) = 0 ∧ t.get (R.HQ_TAIL_INDEX h) = 0) ∧
    (∀ v, s.bit (R.HQ_CTRL_EN h) = true → natBit v 31 = false →
      ∃ t, exec (.hqCtrlWrite h v) s = .next t ∧ t.get (R.HQ_CTRL_EN h) = 0) ∧
    (∀ v, s.bit (R.HQ_CTRL_EN h) = true →
      (v % 2 ^ 32 + 2 ^ 32 - s.get (R.HQ_HEAD_INDEX h)) % 2 ^ 32 ≤ 2 ^ s.get (R.HQ_CTRL_LOG2SZ h) →
      exec (.hqTailWrite h v) s = .next (s.set (R.HQ_TAIL_INDEX h) v)) ∧
    (∀ v, s.bit (R.HQ_CTRL_EN h) = true →
      2 ^ s.get (R.HQ_CTRL_LOG2SZ h) < (v % 2 ^ 32 + 2 ^ 32 - s.get (R.HQ_HEAD_INDEX h)) % 2 ^ 32 →
      exec (.hqTailWrite h v) s = .next (s.set (R.HQ_STAT_BAD_CONS h) 1)) ∧
    (∀ desc data ok, h < 4 → hqActive s h = true → s.get (R.HQ_HEAD_INDEX h) ≠ s.get (R.HQ_TAIL_INDEX h) → descMalformed desc = true →
      ∃ t o, exec (.hostTxDescriptor h desc data ok) s = .next t ∧ t.get (R.HQ_HEAD_INDEX h) = (s.get (R.HQ_HEAD_INDEX h) + 1) % 2 ^ 32 ∧
        t.out = o :: .hostWrite (descAddr s h + 24) [2#8] :: s.out) ∧
    (∀ desc data ok, h < 4 → hqActive s h = true → s.get (R.HQ_HEAD_INDEX h) ≠ s.get (R.HQ_TAIL_INDEX h) →
      ∃ t, exec (.hostTxDescriptor h desc data ok) s = .next t ∧
        (t.hq h).notify = ((s.hq h).notify || natBit (leField desc 11 1) 1) ∧ t.pcie = s.pcie)

/-! ## Ethernet (chapter 14) -/

/-- The Ethernet ports (R386 to R392, R399, R402): ingress with its size and FCS checks, the link, the preemption verification, the
reassembly timeout and the end of an egress frame. -/
def Obligations.EthernetRowsComplete : Prop :=
  ∀ (s : State) (e : Nat), Memory.wf s = true →
    (∀ data fcs latch delay, ethUp s e = true → 1536 < data.length + 4 →
      exec (.ethIngressFrame e data fcs latch delay) s = .next (s.bump (R.ETH_CNT1_OVERSIZE e))) ∧
    (∀ data latch delay, ethUp s e = true → 64 ≤ data.length + 4 → data.length + 4 ≤ 1536 →
      exec (.ethIngressFrame e data false latch delay) s = .next (s.bump (R.ETH_CNT0_FCS_ERR e)) ∧
      exec (.ethIngressFrame e data true latch delay) s = .next (ingressFrame (s.elapse delay) e data
        (latch - (rxCorrection (s.get (R.ETH_STATUS_SPEED e)) + s.get (R.ETH_PTP_DLY_RX e))) s.now)) ∧
    (ethPresent s.part e = true → s.bit (R.ETH_CTRL_EN e) = true → s.bit (R.ETH_STATUS_LINK e) = false →
      ∃ u t, exec (.ethPortLinkUp e) s = .next t ∧ t = startEgress u e ∧ u.get (R.ETH_STATUS_LINK e) = 1 ∧
        u.get (R.ETH_STATUS_SPEED e) = s.get (R.ETH_CTRL_SPEED e) ∧ u.get (R.ETH_STATUS_PREEMPT_ACT e) = 0 ∧
        (ethPort u e).verifying = (s.bit (R.ETH_CTRL_PREEMPT e) && decide (1 ≤ s.get (R.ETH_CTRL_SPEED e)))) ∧
    (∀ cause, ethUp s e = true →
      ∃ t, exec (.ethPortLinkDown e cause) s = .next t ∧ t.get (R.ETH_STATUS_LINK e) = 0 ∧ t.get (R.ETH_STATUS_PREEMPT_ACT e) = 0 ∧
        (ethPort t e).sending = none ∧ (ethPort t e).verifying = false ∧ ∀ c, c < 8 → egressOf t e c = []) ∧
    (ethUp s e = true → (ethPort s e).verifying = true → (ethPort s e).attempts + 1 < 3 →
      exec (.preemptVerifyTimeout e) s = .next (setEthPort s e { ethPort s e with attempts := (ethPort s e).attempts + 1 })) ∧
    (ethUp s e = true → (ethPort s e).verifying = true → 3 ≤ (ethPort s e).attempts + 1 →
      ∃ t, exec (.preemptVerifyTimeout e) s = .next t ∧ (ethPort t e).verifying = false ∧
        t.get (R.ETH_CNT2_PREEMPT_FAIL e) = min (2 ^ (R.ETH_CNT2_PREEMPT_FAIL e).width - 1) (s.get (R.ETH_CNT2_PREEMPT_FAIL e) + 1)) ∧
    (ethUp s e = true → (ethPort s e).verifying = true →
      exec (.preemptVerifyResponse e) s =
        .next (startEgress ((setEthPort s e { ethPort s e with verifying := false }).set (R.ETH_STATUS_PREEMPT_ACT e) 1) e)) ∧
    (∀ node tag size x, s.eth.contexts.find? (contextIs node tag size) = some x →
      ∃ t, exec (.reassemblyTimeout node tag size) s = .next t ∧ t.eth.contexts.find? (contextIs node tag size) = none ∧
        t.get R.BR_CNT2_RS_TIMEOUT = min (2 ^ R.BR_CNT2_RS_TIMEOUT.width - 1) (s.get R.BR_CNT2_RS_TIMEOUT + 1)) ∧
    (∀ h latch, e < 2 → (ethPort s e).sending = some h →
      ∃ u t, exec (.ethEgressFrameDone e latch) s = .next t ∧ t = startEgress u e ∧ (ethPort u e).sending = none ∧
        assocGet u.eth.frames h = none ∧
        (∀ f, assocGet s.eth.frames h = some f → f.stampWanted = true → u.eth.stamps = s.eth.stamps ++
          [(h, latch + txCorrection (s.get (R.ETH_STATUS_SPEED e)) + s.get (R.ETH_PTP_DLY_TX e))]))

/-! ## Time (chapter 15) -/

/-- The timebase (R277, R406 to R412, R418, R419, R422): rate and step corrections of the owner and of another requester, the servo
state, the reads that capture, the growth of the bound and the ratio measurements. Captures and pulse outputs (R415 to R417): a first
edge is captured and a second one within 1 µs is dropped; TSO_CTRL arms an output or refuses its settings; a target, its pulse and the
end of the pulse. -/
def Obligations.TimeRowsComplete : Prop :=
  (∀ (s : State) (q : Requester), Memory.wf s = true →
      (∀ v inc, inc = v % 256 * 2 ^ 32 + s.tb.stagedInc → tbOwner s q = true → ((inc : Int) - 0x200000000).natAbs * 1000000 ≤ 500 * 2 * 2 ^ 32 →
        ∃ t, exec (.tbIncCommit q v) s = .next t ∧ t.get R.TB_INC_LO_FRAC = inc % 2 ^ 32 ∧
          t.get R.TB_INC_HI_INT = inc / 2 ^ 32 % 2 ^ R.TB_INC_HI_INT.width ∧ t.get R.TB_STATUS_RESULT = 0 ∧ t.tb = s.tb) ∧
      (∀ v inc, inc = v % 256 * 2 ^ 32 + s.tb.stagedInc → tbOwner s q = true → 500 * 2 * 2 ^ 32 < ((inc : Int) - 0x200000000).natAbs * 1000000 →
        exec (.tbIncCommit q v) s = .next ((s.set R.TB_STATUS_RESULT 3).bump R.TB_CNT_REFUSED)) ∧
      (∀ v x, x = signedOf 64 (v * 2 ^ 32 + s.tb.stagedStep) → tbOwner s q = true → s.tb.pendingStep = none → s.bit R.PSM_STATUS_RUN = true →
        x.natAbs ≤ s.get R.TB_CTRL_STEP_MAX * 1000 →
        ∃ t, exec (.tbStepCommit q v) s = .next t ∧ t.tb = { s.tb with pendingStep := some x } ∧ t.get R.TB_STATUS_PENDING = 1) ∧
      (∀ v x, x = signedOf 64 (v * 2 ^ 32 + s.tb.stagedStep) → tbOwner s q = true → s.tb.pendingStep = none → s.bit R.PSM_STATUS_RUN = false →
        ∃ t, exec (.tbStepCommit q v) s = .next t ∧ t.tb.ns = BitVec.ofNat 64 (toField 64 ((s.tbNs : Int) + x)) ∧ t.tb.pendingStep = none) ∧
      (∀ v, tbOwner s q = true → bridged s = false →
        ∃ t, exec (.tbServoWrite q v) s = .next t ∧ t.word R.TB_SERVO = BitVec.ofNat 32 v ∧
          t.get R.TIME_QUALITY_CODE = (servoQuality (s.setWord R.TB_SERVO (BitVec.ofNat 32 v))).1) ∧
      (∀ v row, row ∈ [Instr.tbIncCommit q v, .tbStepCommit q v, .tbServoWrite q v] → tbOwner s q = false →
        exec row s = .next ((s.set R.TB_STATUS_RESULT 2).bump R.TB_CNT_NOT_OWNER)) ∧
      (∃ t, exec (.tbNsLoRead q) s = .next t ∧ assocGet t.reply q.bank = some (s.tbNs % 2 ^ 32) ∧
        (t.snapsOf q).tbHi = some (s.tbNs / 2 ^ 32) ∧ (t.snapsOf q).tbFrac = some s.tb.frac.toNat ∧ t.regs = (timersApply s).regs) ∧
      (∃ t, exec (.asnLoRead q) s = .next t ∧ assocGet t.reply q.bank = some (s.asnNat % 2 ^ 32) ∧
        (t.snapsOf q).asnHi = some (s.asnNat / 2 ^ 32) ∧ t.regs = s.regs) ∧
      (s.tb.running = true → 2 ≤ s.get R.TIME_QUALITY_CODE →
        exec .timeErrSecond s = .next (s.bumpBy R.TIME_ERR_ERR (10 * s.get R.BRIDGE_CFG_HOLD))) ∧
      (∀ ns, s.tb.running = true →
        exec (.ratioMeasureDone false ns) s = .next (s.set R.LF_RATIO_RATIO (min 0xFFFFFFFF ns)) ∧
        exec (.ratioMeasureDone true ns) s = .next (s.set R.RC_RATIO_RATIO (min 0xFFFFFFFF ns)))) ∧
  (∀ (s : State) (n : Nat), Memory.wf s = true →
      (∀ rising width time, n < 4 → s.bit (R.TSI_CTRL_EN n) = true → s.tb.running = true → 8 ≤ width →
        edgeSelected (s.get (R.TSI_CTRL_EDGE n)) rising = true → assocGet s.tb.tsiLast n = none →
        ∃ t, exec (.tsInputEdge n rising width time) s = .next t ∧ assocGet t.tb.tsiLast n = some t.now ∧
          t.get (R.TSI_STAT_CAPTURES n) = (s.get (R.TSI_STAT_CAPTURES n) + 1) % 2 ^ (R.TSI_STAT_CAPTURES n).width) ∧
      (∀ rising width time last, s.bit (R.TSI_CTRL_EN n) = true → s.tb.running = true → 8 ≤ width →
        edgeSelected (s.get (R.TSI_CTRL_EDGE n)) rising = true → assocGet s.tb.tsiLast n = some last → (s.advanceTo time).now < last + 1000 →
        exec (.tsInputEdge n rising width time) s = .next ((s.advanceTo time).bump (R.TSI_STAT_IN_DROP n))) ∧
      (∀ v, natBit v 31 = false →
        ∃ t, exec (.tsoCtrlWrite n v) s = .next t ∧ t.get (R.TSO_CTRL_EN n) = 0 ∧ (t.tso n).pulse = false ∧
          t.get (R.TSO_CTRL_MODE n) = natBits v 30 1) ∧
      (∀ v, natBit v 31 = true → tsoLegal ((s.set (R.TSO_CTRL_MODE n) (natBits v 30 1)).set (R.TSO_CTRL_POL n) (natBits v 29 1)) n = false →
        ∃ t, exec (.tsoCtrlWrite n v) s = .next t ∧ t.get (R.TSO_CTRL_EN n) = 0 ∧ t.get (R.TSO_STAT_BAD_CFG n) = 1) ∧
      (∀ v, natBit v 31 = true → tsoLegal ((s.set (R.TSO_CTRL_MODE n) (natBits v 30 1)).set (R.TSO_CTRL_POL n) (natBits v 29 1)) n = true →
        ∃ u t, exec (.tsoCtrlWrite n v) s = .next t ∧ t = tsoPassed u n ∧ u.get (R.TSO_CTRL_EN n) = 1 ∧ (u.tso n).k = 0 ∧ u.now = s.now) ∧
      (∀ v, ∃ t, exec (.tsoTargetCommit n v) s = .next t ∧ (t.tso n).target = v % 2 ^ 32 * 2 ^ 32 + (s.tso n).stagedLo) ∧
      (s.bit (R.TSO_CTRL_EN n) = true → tsoAwaits s n = true → s.tb.running = true → (s.tso n).pulse = false →
        ∃ t, exec (.tsoTargetReached n) s = .next t ∧ (t.tso n).pulse = true ∧ (t.tso n).k = (s.tso n).k + 1 ∧
          (t.tso n).ends = (tsoNext s n + s.get (R.TSO_WIDTH_WIDTH n)) % 2 ^ 64 ∧ t.regs = s.regs) ∧
      ((s.tso n).pulse = true → ∃ t, exec (.tsoPulseEnd n) s = .next t ∧ t.tso n = { s.tso n with pulse := false } ∧ t.regs = s.regs ∧
        t.now = (s.advanceTo (s.tso n).ends).now))

/-- General timers (R424 to R430): a step onto the compare value, the wrap, a capture in mode 2, a write that comes into force and the
read of the count. -/
def Obligations.TimerRowsComplete : Prop :=
  ∀ (s : State) (n : Nat), Memory.wf s = true → n < 32 →
    (gtCounts s n = true → s.bit (R.GT_CMPCFG_CMP_EN n) = true →
      ∃ t, exec (.gtMatch n) s = .next t ∧ t.get (R.GT_STAT_MATCH n) = 1 ∧
        t.get (R.GT_ERR_MATCHES n) = (s.get (R.GT_ERR_MATCHES n) + 1) % 2 ^ (R.GT_ERR_MATCHES n).width ∧
        (t.gt n).clearNext = s.bit (R.GT_CMPCFG_CLR n)) ∧
    (gtCounts s n = true →
      ∃ t, exec (.gtWrap n) s = .next t ∧ t.get (R.GT_STAT_WRAP n) = 1 ∧ t.get (R.GT_CNT_COUNT n) = 0) ∧
    (∀ rising, s.get (R.GT_CFG_INSEL n) < 38 → gtCounts s n = true → s.get (R.GT_CFG_MODE n) = 2 →
      edgeSelected (s.get (R.GT_CFG_EDGE n)) rising = true → s.get (R.GT_CFG_EPSC n) ≤ (s.gt n).edges →
      ∃ t, exec (.gtCapture n rising) s = .next t ∧ t.get (R.GT_STAT_CAP n) = 1 ∧ t.get (R.GT_CAP_VALUE n) = s.get (R.GT_CNT_COUNT n) ∧
        (t.gt n).edges = 0) ∧
    (∀ rising, s.get (R.GT_CFG_INSEL n) < 38 → gtCounts s n = true → s.get (R.GT_CFG_MODE n) = 2 →
      edgeSelected (s.get (R.GT_CFG_EDGE n)) rising = true → (s.gt n).edges < s.get (R.GT_CFG_EPSC n) →
      ∃ t, exec (.gtCapture n rising) s = .next t ∧ (t.gt n).edges = (s.gt n).edges + 1 ∧ t.regs = s.regs) ∧
    (∀ k, k = s.tb.gtWrites.findIdx (fun w => decide (w.1 = n)) → k < s.tb.gtWrites.length →
      exec (.gtRegisterApply n) s =
        .next (gtApply (s.putTb { s.tb with gtWrites := s.tb.gtWrites.drop (k + 1) }) (s.tb.gtWrites.take (k + 1)))) ∧
    (∀ v rest, s.tb.gtWrites = (n, 0x04, v) :: rest →
      ∃ t, exec (.gtRegisterApply n) s = .next t ∧ t.get (R.GT_PSC_PSC n) = v % 2 ^ (R.GT_PSC_PSC n).width ∧ t.tb.gtWrites = rest) ∧
    (∀ q u, u = timersApply s → gtLinked u n = false →
      ∃ t, exec (.gtCntLoRead q n) s = .next t ∧ assocGet t.reply q.bank = some (u.get (R.GT_CNT_COUNT n)) ∧ t.regs = u.regs) ∧
    (∀ q u, u = timersApply s → gtLinked u n = true →
      ∃ t, exec (.gtCntLoRead q n) s = .next t ∧ assocGet t.reply q.bank = some (u.get (R.GT_CNT_COUNT n)) ∧
        assocGet (t.snapsOf q).gtHi n = some (u.get (R.GT_CNT_COUNT (n + 1))) ∧ t.regs = u.regs)

/-! ## Cores, mailboxes, GPIO and the interrupt controller (chapter 16) -/

/-- The control cores and the application core's halts (R436 to R440): a warning, the expiry of a control core and its return, a parity
fault, a double fault, HOLD and its release, and the reload. The application watchdog (R440): the kick word restarts the count, another
word is counted, half of TIMEOUT warns, and an expiry resets and reloads the core, or holds it once LIMIT is reached. -/
def Obligations.CoreAndWatchdogRowsComplete : Prop :=
  (∀ s : State, Memory.wf s = true →
      (∀ c, cpuWorks s c = true → exec (.cpuWdogWarn c) s = .next (postEvent 0x0E01 [(0, 1, 1 + c)] s)) ∧
      (∀ c, cpuWorks s c = true →
        ∃ u t, exec (.cpuWdogExpiry c) s = .next t ∧ u.get (R.CPU_STAT_STATE c) = 2 ∧
          u.get (R.CPU_STAT_RESETS c) = min 255 (s.get (R.CPU_STAT_RESETS c) + 1) ∧
          (cpuOf u c).expiries = ((cpuOf s c).expiries.filter fun x => decide (s.now < x + hourNs)) ++ [s.now] ∧
          ((cpuOf u c).expiries.length < 4 → t = healthFails u [2, 3, 5]) ∧ (4 ≤ (cpuOf u c).expiries.length → t.boot.phase = .warmDelay)) ∧
      (∀ c, running s = true → c < 4 → s.get (R.CPU_STAT_STATE c) = 2 →
        ∃ t, exec (.controlCoreRestartDone c) s = .next t ∧ t.get (R.CPU_STAT_STATE c) = 1 ∧ (cpuOf t c).expiries = (cpuOf s c).expiries) ∧
      (∀ kind addr, running s = true → s.get R.APP_STAT_STATE = appRuns → kind < 2 → appMemory addr = true →
        ∃ t, exec (.appAccessFault kind addr true) s = .next t ∧ addr - addr % 4 ∈ t.app.badWords ∧
          t.get R.APP_CNT_PARITY = min (2 ^ R.APP_CNT_PARITY.width - 1) (s.get R.APP_CNT_PARITY + 1)) ∧
      (∀ kind addr, exec (.appAccessFault kind addr false) s = .next s) ∧
      (running s = true → s.get R.APP_STAT_STATE = appRuns →
        ∃ u t, exec .appDoubleFault s = .next t ∧ t = healthFails u [4] ∧ u.get R.APP_STAT_STATE = appDouble ∧ u.upd = s.upd) ∧
      (running s = true → s.bit R.APP_CTRL_HOLD = false →
        ∃ t, exec (.appHold .host) s = .next t ∧ t.get R.APP_CTRL_HOLD = 1 ∧ t.get R.APP_STAT_STATE = appReset ∧ t.tb.gt = [] ∧
          t.get R.GPIO_OUT_BITS = s.app.gpioOut % 2 ^ 32) ∧
      (running s = true → s.bit R.APP_CTRL_HOLD = true → appLoaded s = true →
        ∃ t, exec (.appRelease .host) s = .next t ∧ t.get R.APP_CTRL_HOLD = 0 ∧ t.app.reloading = true ∧
          (s.bit R.APP_STAT_HELD = true → t.get R.APP_STAT_HELD = 0 ∧ t.app.firstReset = none)) ∧
      (∀ ok, running s = true → s.app.reloading = true → s.bit R.APP_CTRL_HOLD = false → appVerified s ok = true →
        ∃ t, exec (.appReloadDone ok) s = .next t ∧ t.get R.APP_STAT_STATE = appRuns ∧ t.app.reloading = false ∧
          t.app.entry = leField (inForce s 4) 160 4) ∧
      (∀ ok, running s = true → s.app.reloading = true → s.bit R.APP_CTRL_HOLD = false → appVerified s ok = false →
        exec (.appReloadDone ok) s = .next (s.putApp { s.app with reloading := false }))) ∧
  (∀ s : State, Memory.wf s = true →
      (running s = true → ∃ t, exec (.appWdogKick .app 0x5A17) s = .next t ∧ t.app.kickAt = s.now ∧ t.get R.WDOG_STAT_WARN = 0) ∧
      (∀ q v, running s = true → q ≠ Requester.app ∨ v ≠ 0x5A17 → exec (.appWdogKick q v) s = .next (s.bump R.APP_CNT_BAD_KICK)) ∧
      (wdogCounts s = true → s.bit R.WDOG_STAT_WARN = false →
        ∃ t, exec .appWdogHalf s = .next t ∧ t.get R.WDOG_STAT_WARN = 1 ∧ t.app.kickAt = s.app.kickAt) ∧
      (wdogCounts s = true → s.app.firstReset = none →
        ∃ u t, exec .appWdogExpiry s = .next t ∧ t = healthFails u [4] ∧ u.get R.WDOG_STAT_RESETS = 1 ∧ u.app.firstReset = some u.now ∧
          u.app.kickAt = u.now ∧ u.get R.APP_STAT_STATE = appReset ∧
          (if s.get R.WDOG_CFG_LIMIT ≤ 1 then u.get R.APP_STAT_HELD = 1 else u.app.reloading = true)))

/-- The mailboxes (R358, R441, R442, Table 16-4): a word enters MBA or sets FULL_ERR, a pop takes a word of MBC, and each service of the
runtime answers its request. -/
def Obligations.MailboxRowsComplete : Prop :=
  ∀ s : State, Memory.wf s = true →
    (running s = true → s.bit (R.Q_STAT_RESETTING mba) = false → laneRoom (s.queue mba) mba 0 1 = true →
      (∃ t, exec (.mbTxPush true) s = .next t ∧ (t.queue mba).building = none ∧
        ((t.queue mba).lane 0).length = ((s.queue mba).lane 0).length + 1) ∧
      ∃ t, exec (.mbTxPush false) s = .next t ∧ ((t.queue mba).building.map fun i => i.words) =
        some (((s.queue mba).building.elim 0 fun i => i.words) + 1)) ∧
    (∀ endWord, running s = true → s.bit (R.Q_STAT_RESETTING mba) = false → laneRoom (s.queue mba) mba 0 1 = false →
      exec (.mbTxPush endWord) s = .next ((s.set R.MB_TX_STAT_FULL_ERR 1).putApp { s.app with roomWanted := true })) ∧
    (running s = true → s.bit (R.Q_STAT_RESETTING mbc) = false → headItem (s.queue mbc).lanes = none →
      exec .mbRxPop s = .next ((((s.set (R.Q_STAT_UNDERRUN mbc) 1).bump (R.Q_CNT_UNDERRUN mbc))).set R.MB_RX_STAT_UNDERRUN 1)) ∧
    (∀ l i, running s = true → s.bit (R.Q_STAT_RESETTING mbc) = false → headItem (s.queue mbc).lanes = some (l, i) →
      (s.queue mbc).taken + 1 < i.words →
      ∃ t, exec .mbRxPop s = .next t ∧ (t.queue mbc).taken = (s.queue mbc).taken + 1 ∧ (t.queue mbc).lanes = (s.queue mbc).lanes) ∧
    (∀ t m, takeRequest s (fun k => !([2, 3, 4].contains k)) = some (t, m) → leField m 0 2 ≠ 1 →
      exec .mbEcho s = .next (replyMail t m 1 [])) ∧
    (∀ t m p, takeRequest s (fun k => !([2, 3, 4].contains k)) = some (t, m) → leField m 0 2 = 1 → requestPayload m (fun _ => true) = some p →
      exec .mbEcho s = .next (replyMail t m 0 p)) ∧
    (∀ t m p, takeRequest s (fun k => decide (k = 2)) = some (t, m) → requestPayload m (fun n => decide (n = 4)) = some p →
      exec .mbEventSubscription s = .next (replyMail (t.putApp { t.app with forward := leBytes p }) m 0 [])) ∧
    (∀ t m p, takeRequest s (fun k => decide (k = 3)) = some (t, m) → requestPayload m (fun n => decide (n = 4)) = some p →
      leBytes p < lineCount t → linePoisoned t (leBytes p) = false →
      exec .mbNodeLineRead s = .next (replyMail t m 0 (toLE 64 (t.line (leBytes p)).toNat))) ∧
    (∀ t m p, takeRequest s (fun k => decide (k = 4)) = some (t, m) → requestPayload m (fun n => decide (n = 0)) = some p →
      exec .mbTimebase s = .next (replyMail t m 0 (toLE 8 t.tbNs ++ toLE 2 (t.get R.TIME_QUALITY_CODE) ++ toLE 4 (t.get R.TIME_ERR_ERR))))

/-- GPIO and the interrupt controller (R443 to R451): the outputs, an input change, a source's request, a claim with and without a
source, the end of an interrupt, the global disable, software interrupts and the enables. -/
def Obligations.InterruptRowsComplete : Prop :=
  ∀ s : State, Memory.wf s = true → running s = true →
    (∀ v, exec (.gpioSetWrite v) s = .next (s.set R.GPIO_OUT_BITS (s.get R.GPIO_OUT_BITS ||| v % 2 ^ 32)) ∧
      exec (.gpioClrWrite v) s = .next (s.set R.GPIO_OUT_BITS (s.get R.GPIO_OUT_BITS &&& (2 ^ 32 - 1 - v % 2 ^ 32)))) ∧
    (∀ n level, n < 32 → ∃ t, exec (.gpioInputChange n level) s = .next t ∧ natBit (t.get R.GPIO_IN_BITS) n = level ∧
      (s.get (R.GPIO_CFG_IRQ n) = 1 → level = true → natBit (s.get R.GPIO_IN_BITS) n = false → aicPending t (32 + n) = true)) ∧
    (∀ src, aicReserved src = false → aicIsLevel s src = false →
      ∃ t, exec (.aicSourceRequest src true) s = .next t ∧ aicPending t src = true) ∧
    (∀ src high, aicReserved src = true → exec (.aicSourceRequest src high) s = .next s) ∧
    (∀ q, q ≠ Requester.app → exec (.aicClaimRead q) s = .next (s.answer q 0x3FF)) ∧
    (∀ src, s.app.ignored = [] → s.app.lingering = [] → aicBest s = some src →
      ∃ t, exec (.aicClaimRead .app) s = .next t ∧ assocGet t.reply Requester.app.bank = some (s.get (R.AIC_SRC_PRIO src) * 2 ^ 16 + src) ∧
        t.app.stack = (s.get (R.AIC_SRC_PRIO src), src) :: s.app.stack) ∧
    (s.app.ignored = [] → s.app.lingering = [] → aicBest s = none →
      ∃ t, exec (.aicClaimRead .app) s = .next t ∧ assocGet t.reply Requester.app.bank = some 0x3FF ∧ t.app.stack = s.app.stack) ∧
    (∀ p rest src, s.app.stack = (p, src % 1024) :: rest →
      ∃ t, exec (.aicEoiWrite .app src) s = .next t ∧ t.app.stack = rest) ∧
    (∀ src, s.app.stack = [] → exec (.aicEoiWrite .app src) s = .next (s.bump R.AIC_CNT_EOI_EMPTY)) ∧
    (∀ v, ∃ t, exec (.aicGdisWrite v) s = .next t ∧ t.get R.AIC_GDIS_GDIS = v % 2 ∧ (v % 2 = 1 → t.app.request = none)) ∧
    (∀ v, ∃ t, exec (.aicSwiWrite v) s = .next t ∧ t.get R.AIC_SWI_SWI = s.get R.AIC_SWI_SWI ||| v % 2 ^ 16) ∧
    (∀ k v, k < 8 → ∃ t, exec (.aicEnWrite .app k v) s = .next t ∧ t.get (R.AIC_EN_BITS k) = v % 2 ^ 32)

/-! ## Security (chapter 17) -/

/-- Signed commands (R466, R469, R485 to R489, R494). The key, the signature and the hash are opaque functions (log entry 4), so each
clause says what follows from the command's check. A command that a check refuses counts CMD_REJ, answers the check's result and changes
nothing else; one that is written while another requester's runs ends with RESULT 6. -/
def Obligations.SignedCommandRowsComplete : Prop :=
  ∀ (s : State) (q : Requester) (b : List Byte), Memory.wf s = true → running s = true → b = commandBytes s q →
    (∀ row op, (row, op) ∈ [(Instr.installEpoch q, 1), (.raiseDistrictGeneration q, 2), (.revokeDistrict q, 3), (.revokeEpoch q, 4), (.zeroize q, 5),
        (.programOwnerHash q, 6), (.revokeOwnerSlot q, 7), (.debugToken q, 8)] → sigOp b = op → commandBusy s q = true →
      exec row s = .next (setResult s q 6)) ∧
    (∀ row op, (row, op) ∈ [(Instr.installEpoch q, 1), (.raiseDistrictGeneration q, 2), (.revokeDistrict q, 3), (.revokeEpoch q, 4), (.zeroize q, 5),
        (.programOwnerHash q, 6), (.revokeOwnerSlot q, 7), (.debugToken q, 8)] → sigOp b = op → commandBusy s q = false → sigCheck s b ≠ 0 →
      exec row s = .next (setResult ((s.putSec { s.sec with command := none }).bump R.SEC_CNT3_CMD_REJ) q (sigCheck s b))) ∧
    (commandBusy s q = false → sigOp b = 1 → installRefused s (sigArg b 0 2) (sigArg b 2 5) = false →
      ∃ t, exec (.installEpoch q) s = .next t ∧ (sigCheck s b = 0 → t.get (R.SEC_RESULT_RESULT q.bank) = 0 ∧ t.tree.cmdSeq = sigSeq b ∧
        t.tree.highest = sigArg b 0 2 % 65536 ∧ t.tree.installs = s.tree.installs + 1)) ∧
    (commandBusy s q = false → sigOp b = 2 → districtRefused s b = false → (s.tree.slots.map fun p => p.1).Nodup →
      (∀ i, i ∈ liveSlots s → cellsWf zeroCell (s.tree.slot i).districts = true ∧ districtGen (s.tree.slot i) (sigArg b 0 2) < 15) →
      ∃ t, exec (.raiseDistrictGeneration q) s = .next t ∧ (sigCheck s b = 0 → t.get (R.SEC_RESULT_RESULT q.bank) = 0 ∧ t.tree.cmdSeq = sigSeq b ∧
        ∀ i, i ∈ liveSlots s → districtGen (t.tree.slot i) (sigArg b 0 2) = districtGen (s.tree.slot i) (sigArg b 0 2) + 1)) ∧
    (commandBusy s q = false → sigOp b = 3 → districtRefused s b = false → (∀ i, i ∈ liveSlots s → cellsWf zeroCell (s.tree.slot i).districts = true) →
      ∃ t, exec (.revokeDistrict q) s = .next t ∧ (sigCheck s b = 0 → t.get (R.SEC_RESULT_RESULT q.bank) = 0 ∧ t.tree.cmdSeq = sigSeq b ∧
        ∀ i, i ∈ liveSlots s → districtRevoked (t.tree.slot i) (sigArg b 0 2) = true)) ∧
    (∀ i, commandBusy s q = false → sigOp b = 4 → slotOfEpoch s (sigArg b 0 2) = some i →
      ∃ t, exec (.revokeEpoch q) s = .next t ∧ (sigCheck s b = 0 → t.get (R.SEC_RESULT_RESULT q.bank) = 0 ∧ t.tree.cmdSeq = sigSeq b ∧
        (t.tree.slot i).status = .revoked)) ∧
    (sigOp b = 5 →
      ∃ t, exec (.zeroize q) s = .next t ∧ (sigCheck s b = 0 → t.get (R.SEC_RESULT_RESULT q.bank) = 0 ∧ t.tree.cmdSeq = sigSeq b ∧
        t.sec.kM = none ∧ t.sec.kJR = none ∧ t.sec.cache = [] ∧ t.sec.drbgErased = true)) ∧
    (commandBusy s q = false → sigOp b = 6 → sigArg b 0 1 < 4 → (s.otp.owners.getD (sigArg b 0 1) (none, false)).1 = none →
      ∃ t, exec (.programOwnerHash q) s = .next t ∧ (sigCheck s b = 0 → t.get (R.SEC_RESULT_RESULT q.bank) = 0 ∧ t.tree.cmdSeq = sigSeq b ∧
        t.otp.owners = listSet s.otp.owners (sigArg b 0 1) (some (hashField b 21), false))) ∧
    (∀ h o k, commandBusy s q = false → sigOp b = 7 → sigArg b 0 1 < 4 → s.otp.owners[sigArg b 0 1]? = some (some h, false) → sigArg b 0 1 ≠ sigSlot b →
      k < 4 → k ≠ sigArg b 0 1 → s.otp.owners[k]? = some (some o, false) →
      ∃ t, exec (.revokeOwnerSlot q) s = .next t ∧ (sigCheck s b = 0 → t.get (R.SEC_RESULT_RESULT q.bank) = 0 ∧ t.tree.cmdSeq = sigSeq b ∧
        t.otp.owners = listSet s.otp.owners (sigArg b 0 1) (some h, true))) ∧
    (sigOp b = 8 →
      ∃ t, exec (.debugToken q) s = .next t ∧ (sigCheck s b = 0 → t.get (R.SEC_RESULT_RESULT q.bank) = 0 ∧ t.tree.cmdSeq = sigSeq b ∧
        t.sec.grants = s.sec.grants ||| sigArg b 0 1 % 16 ∧ (natBits (sigArg b 0 1) 1 2 ≠ 0 → t.sec.kM = none)))

/-- The security module's other rows (R471 to R473, R484, R491, R494): a derivation judges its frame, attestation fills the report,
self-tests that pass leave every engine in service, and a granted debug request opens its port. -/
def Obligations.SecurityRowsComplete : Prop :=
  ∀ (s : State) (q : Requester), Memory.wf s = true →
    (∀ tag f rest w, s.sec.deriving_ = (tag, f) :: rest →
      exec (.keyDerivationDone w) s = .next (judgeFrame (cacheFill (s.putSec { s.sec with deriving_ := rest }) tag) tag.node tag f w)) ∧
    (running s = true → enginesLeft s 2 ≠ [] → enginesLeft s 3 ≠ [] →
      ∃ t, exec (.secAttest q) s = .next t ∧ t.get (R.SEC_RESULT_RESULT q.bank) = 0 ∧ t.draws = s.draws + 1 ∧ t.tree = s.tree ∧
        t.get (R.SEC_ATT_DATA 0 q.bank) = 0x4E5A4154) ∧
    (running s = true → enginesLeft s 2 = [] ∨ enginesLeft s 3 = [] → exec (.secAttest q) s = .next (setResult s q 5)) ∧
    (running s = true → s.bit R.SEC_STATUS_ERROR = false →
      ∃ t, exec (.secSelftestAll q []) s = .next t ∧ t.get (R.SEC_RESULT_RESULT q.bank) = 0 ∧ t.get R.SEC_ENG_OK = s.get R.SEC_ENG_OK) ∧
    (∀ fails, running s = true → s.bit R.SEC_STATUS_ERROR = false → someFails s allEngines fails = true →
      ∃ t, exec (.secSelftestAll q fails) s = .next t ∧ t.get (R.SEC_RESULT_RESULT q.bank) = 7) ∧
    (∀ k, k ≤ 5 → running s = true → s.bit R.SEC_STATUS_ERROR = false →
      ∃ t, exec (.secSelftestKind q k []) s = .next t ∧ t.get (R.SEC_RESULT_RESULT q.bank) = 0 ∧ t.get R.SEC_ENG_OK = s.get R.SEC_ENG_OK) ∧
    (∀ k fails, 5 < k → running s = true → exec (.secSelftestKind q k fails) s = .next (setResult s q 4)) ∧
    (running s = true → s.bit R.SEC_STATUS_ERROR = false → s.get R.SEC_ST_PERIOD ≠ 0 →
      ∃ t, exec (.selftestPeriod []) s = .next t ∧ t.get R.SEC_ENG_OK = s.get R.SEC_ENG_OK ∧
        t.get R.SEC_CNT3_ST_PASS = (s.get R.SEC_CNT3_ST_PASS + (allEngines.filter (s.getBitAt R.SEC_ENG_OK)).length) %
          2 ^ R.SEC_CNT3_ST_PASS.width) ∧
    (∀ port, powered s = true → port < 4 → natBit s.sec.grants port = true →
      exec (.jtagDebugRequest port) s = .next (s.putSec { s.sec with debugOpen := s.sec.debugOpen ||| 2 ^ port })) ∧
    (∀ e, running s = true → e < 2 → s.getBitAt R.SEC_ENG_OK (10 + e) = true → 2 ^ 20 ≤ s.sec.drbgRequests →
      exec (.drbgReseed e true) s = .next ((s.putSec { s.sec with drbgRequests := 0 }).bumpWrap R.SEC_CNT3_ST_PASS))

/-! ## Memory integrity (chapter 18) -/

/-- Faults of a line (R499, R503, R506, R511): a read that passes the second time, a fetch from the peer, a control-memory line that is
read again from the flash, and what their answers do. The outcome, the poison and the memory of faults are the shared operations
`faultEnds`, `faultPoisoned` and `noteFault`. -/
def Obligations.LineFaultRowsComplete : Prop :=
  ∀ (s : State) (line col : Nat) (air eth : Option Nat), Memory.wf s = true →
    (∀ mem code, powered s = true → line < memLines s mem → sramPresent s (lineSram mem line) = true → s.mi.subst.contains (mem, line) = false →
      s.mi.recoveries = [] → s.mi.flipped.contains (mem, line) = false →
      exec (.lineCheckFail mem line col true code false air eth) s =
        .next (noteFault (faultEnds (s.bump R.MI_CNT0_REFETCH_OK) mem line 0) mem line col true false)) ∧
    (∀ code, powered s = true → line < memLines s .ncs → sramPresent s (lineSram .ncs line) = true → s.mi.subst.contains (.ncs, line) = false →
      s.mi.recoveries = [] → peerSource s = true → s.bit R.MI_CFG_PEER_FETCH = true →
      ∃ t, exec (.lineCheckFail .ncs line col false code false air eth) s = .next t ∧ t.out = .hjFetch line :: s.out ∧
        t.mi.recoveries = [{ mem := .ncs, line := line, column := col, wait := .peer, flipped := s.mi.flipped.contains (.ncs, line) }] ∧
        t.get R.MI_STATUS_REC_USED = 1) ∧
    (∀ code, powered s = true → line < memLines s .ncs → sramPresent s (lineSram .ncs line) = true → s.mi.subst.contains (.ncs, line) = false →
      s.mi.recoveries = [] → (peerSource s && s.bit R.MI_CFG_PEER_FETCH) = false →
      exec (.lineCheckFail .ncs line col false code false air eth) s =
        .next (noteFault (faultPoisoned s .ncs line) .ncs line col true (s.mi.flipped.contains (.ncs, line)))) ∧
    (powered s = true → line < memLines s .control → sramPresent s (lineSram .control line) = true → s.mi.subst.contains (.control, line) = false →
      s.mi.recoveries = [] →
      ∃ t, exec (.lineCheckFail .control line col false true false air eth) s = .next t ∧ t.out = s.out ∧
        t.mi.recoveries = [{ mem := .control, line := line, column := col, wait := .flash, flipped := s.mi.flipped.contains (.control, line) }]) ∧
    (∀ bytes rb, recoveryOf s .ncs line = none → s.mi.refill.contains line = true →
      exec (.peerLineArrival line bytes true rb) s = .next (writeLine (s.putMi { s.mi with refill := s.mi.refill.filter fun x => x ≠ line })
        line (fetchedLine s line bytes))) ∧
    (∀ bytes rb r, recoveryOf s .ncs line = some r →
      exec (.peerLineArrival line bytes false rb) s =
        .next (noteFault (faultPoisoned (freeRecovery s .ncs line) .ncs line) .ncs line r.column true r.flipped)) ∧
    (∀ bytes rb r, recoveryOf s .ncs line = some r →
      ∃ u t, exec (.peerLineArrival line bytes true rb) s = .next t ∧ t = noteFault (faultEnds u .ncs line 2) .ncs line r.column rb r.flipped ∧
        recoveryOf u .ncs line = none ∧ (line < lineCount s → u.line line = fetchedLine s line bytes)) ∧
    (∀ rb r, recoveryOf s .control line = some r →
      ∃ u t, exec (.flashRecomputeDone line true rb) s = .next t ∧
        t = noteFault (faultEnds u .control line 1) .control line r.column rb r.flipped ∧ recoveryOf u .control line = none ∧
        u.get R.MI_CNT0_RECOMPUTE = min (2 ^ R.MI_CNT0_RECOMPUTE.width - 1) (s.get R.MI_CNT0_RECOMPUTE + 1))

/-- Scrubbing, repair and the test of a check (R502, R508 to R510, R515, R516): the scrubber's reads, MI_CMD, MI_FLIP and the sweep of
the frame buffer. -/
def Obligations.IntegrityRowsComplete : Prop :=
  ∀ (s : State) (q : Requester), Memory.wf s = true → running s = true →
    (∀ misread, s.fwd.snap.job ≠ .exporting →
      exec (.scrubRead .frame misread) s = .next (scrubNext s .frame (scrubOf s 1)) ∧
      exec (.scrubRead .control misread) s = .next (scrubNext s .control (scrubOf s 2))) ∧
    (∀ misread, s.fwd.snap.job ≠ .exporting → s.mi.tileDirty = true → (scrubOf s 0).discards < 3 →
      ∃ t, exec (.scrubRead .ncs misread) s = .next t ∧ t.mi.tileDirty = false ∧
        scrubOf t 0 = { scrubOf s 0 with discards := (scrubOf s 0).discards + 1, retry := false }) ∧
    (∀ misread, s.fwd.snap.job ≠ .exporting → s.mi.tileDirty = false → tileReadOk s (scrubOf s 0).next misread = true →
      exec (.scrubRead .ncs misread) s = .next (scrubNext s .ncs (scrubOf s 0))) ∧
    (∀ misread, s.fwd.snap.job ≠ .exporting → s.mi.tileDirty = false → tileReadOk s (scrubOf s 0).next misread = false →
      (scrubOf s 0).retry = false →
      ∃ t, exec (.scrubRead .ncs misread) s = .next t ∧ scrubOf t 0 = { scrubOf s 0 with retry := true }) ∧
    (∀ misread, s.fwd.snap.job ≠ .exporting → s.mi.tileDirty = false → tileReadOk s (scrubOf s 0).next misread = false →
      (scrubOf s 0).retry = true →
      exec (.scrubRead .ncs misread) s = .next (scrubNext (tileFailed s (scrubOf s 0).next 0) .ncs (scrubOf s 0))) ∧
    (miWriter q = true →
      ∃ t, exec (.miScrubNow q) s = .next t ∧ t.get R.MI_STATUS_CMD_RES = 1 ∧ t.get R.MI_STATUS_SCRUB_RUN = 1 ∧
        (scrubOf t 0).next = 0 ∧ (scrubOf t 1).next = 0 ∧ (scrubOf t 2).next = 0) ∧
    (miWriter q = true → s.get R.PAIR_STATUS_ROLE = roleStandby →
      ∃ t, exec (.miApplyRepairs q) s = .next t ∧ t.boot.phase = .warmDelay) ∧
    (miWriter q = true → s.get R.PAIR_STATUS_ROLE = roleActive → peerSource s = true → switchResult s = 1 →
      exec (.miApplyRepairs q) s = .next (startPlanned (s.set R.MI_STATUS_CMD_RES 1) 11 1)) ∧
    (miWriter q = true → s.get R.PAIR_STATUS_ROLE ≠ roleStandby → s.get R.PAIR_STATUS_ROLE ≠ roleActive →
      exec (.miApplyRepairs q) s = .next (s.set R.MI_STATUS_CMD_RES 2)) ∧
    (∀ v, miWriter q = true →
      ∃ t, exec (.miFlipWrite q v) s = .next t ∧ t.get R.MI_FLIP_MACRO = natBits v 0 7 ∧
        t.get R.MI_FLIP_ARM = boolNat (natBit v 31 && (sramPresent s (natBits v 0 7) &&
          !(decide (64 ≤ natBits v 0 7) && decide (natBits v 0 7 < 84))))) ∧
    (exec .frameBufferSweep s = .next (foldState (fun t (p : Nat × List Nat) =>
      if lineBit (t.line p.1) N.REBUILD then flushDownlink t p.1 else t) s s.sched.downlink))

/-! ## The redundant pair (chapter 19) -/

/-- Claims (R523 to R529, R540, R541): a claim that Table 19-2 allows is driven with the role that it names, the peer's claim moves the
gate, and the claim keeper is refreshed by the control cores alone and ends a claim when it expires. -/
def Obligations.ClaimRowsComplete : Prop :=
  ∀ s : State, Memory.wf s = true →
    (∀ edges role cause, 2 ≤ edges → readyToClaim s = true → retaking s = false → claimCondition s = some (role, cause, none) →
      exec (.claimAssert edges) s = .next (offerResync (reserveAll (takeRole (driveClaim s) role cause)))) ∧
    (∀ edges role cause, 2 ≤ edges → readyToClaim s = true → claimCondition s = some (role, cause, some 0) →
      exec (.claimAssert edges) s = .next (claimPlanned (driveClaim s))) ∧
    (∀ edges role cause, 2 ≤ edges → readyToClaim s = true → claimCondition s = some (role, cause, some 1) →
      exec (.claimAssert edges) s = .next (offerResync (claimUnplanned (driveClaim s) cause))) ∧
    (∀ asserted, hjPresent s.part = true → s.bit R.PAIR_STATUS_CLAIM_IN ≠ asserted → running s = false →
      ∃ t, exec (.peerClaimChange asserted) s = .next t ∧ t = s.set R.PAIR_STATUS_CLAIM_IN (boolNat asserted)) ∧
    (hjPresent s.part = true → s.bit R.PAIR_STATUS_CLAIM_IN = true → running s = true → s.bit R.PAIR_STATUS_CLAIM_OUT = false → linkUp s = false →
      ∃ t, exec (.peerClaimChange false) s = .next t ∧ t.get R.PAIR_STATUS_CLAIM_IN = 0 ∧ t.get R.PAIR_STATUS_GATE = 0 ∧
        t.get R.PAIR_STATUS_CONFLICT = 0 ∧ t.get R.PAIR_STATUS_IL_FAULT = 0 ∧ t.get R.PAIR_STATUS_ROLE = s.get R.PAIR_STATUS_ROLE) ∧
    (hjPresent s.part = true → s.bit R.PAIR_STATUS_CLAIM_IN = true → running s = true →
      exec (.peerClaimChange false) s =
        .next (viewInterlock ((gateChanged (gateOpen s) (s.set R.PAIR_STATUS_CLAIM_IN 0)).set R.PAIR_STATUS_CONFLICT 0))) ∧
    (∀ u, u = s.reach (s.pair.keptAt + s.get R.PAIR_CFG_KEEP_MS * 1000000) → running s = true → s.pair.kept = true →
      u.bit R.PAIR_STATUS_CLAIM_OUT = true →
      exec (.claimKeeperExpiry false) s =
        .next (settle (endClaim ((u.putPair { u.pair with kept := false }).bump R.PAIR_CNT3_KEEP_EXPIRED) 8))) ∧
    (∀ u, u = s.reach (s.pair.asnAt + 2 * slotLenNs s + 1000000) → running s = true → s.pair.kept = true → s.bit R.PSM_STATUS_RUN = true →
      s.bit R.PAIR_STATUS_CLAIM_OUT = true → u.bit R.PAIR_STATUS_CLAIM_OUT = true →
      exec (.claimKeeperExpiry true) s =
        .next (settle (endClaim ((u.putPair { u.pair with kept := false }).bump R.PAIR_CNT3_KEEP_EXPIRED) 8))) ∧
    (running s = true →
      ∃ t, exec (.pairKeepWrite .control) s = .next t ∧ t = s.putPair { s.pair with kept := true, keptAt := s.now }) ∧
    (∀ q, q ≠ Requester.control → exec (.pairKeepWrite q) s = .next s)

/-- The Hjelno link (R530 to R532): frames in sequence, repeats, retries, control records, training and the time exchange. -/
def Obligations.LinkRowsComplete : Prop :=
  ∀ s : State, Memory.wf s = true →
    (∀ seq acks records, running s = true → linkUp s = true → s.pair.rxSeq = seq →
      ∃ u, exec (.hjLinkFrameRx seq true acks records) s = .next (foldState applyRecord u records) ∧ u.pair.rxSeq = seq + 1 ∧
        u.pair.rxAt = s.now ∧ u.out = .hjAck seq :: s.out ∧ u.pair.unacked = s.pair.unacked.filter (fun f => !acks.contains f.seq) ∧
        u.regs = s.regs) ∧
    (∀ seq acks records, running s = true → linkUp s = true → seq < s.pair.rxSeq →
      ∃ t, exec (.hjLinkFrameRx seq true acks records) s = .next t ∧ t.out = .hjAck seq :: s.out ∧ t.pair.rxSeq = s.pair.rxSeq ∧
        t.regs = s.regs ∧ t.fwd = s.fwd) ∧
    (∀ seq acks records, exec (.hjLinkFrameRx seq false acks records) s = .next s) ∧
    (∀ seq f, running s = true → linkUp s = true → (s.pair.unacked.find? fun g => decide (g.seq = seq)) = some f → f.sends < 9 →
      ∃ t, exec (.hjRetryTimeout seq) s = .next t ∧ t.out = .hjFrame seq f.records :: s.out ∧
        t.get R.PAIR_CNT1_RETRY = min (2 ^ R.PAIR_CNT1_RETRY.width - 1) (s.get R.PAIR_CNT1_RETRY + 1) ∧
        t.pair.unacked = s.pair.unacked.map (fun g => if g.seq = seq then { g with sends := g.sends + 1 } else g)) ∧
    (∀ seq f, running s = true → linkUp s = true → (s.pair.unacked.find? fun g => decide (g.seq = seq)) = some f → 9 ≤ f.sends →
      exec (.hjRetryTimeout seq) s = .next (settle (linkLost s 1))) ∧
    (∀ u, u = s.reach (s.pair.rxAt + 50000) → running s = true → linkUp s = true →
      exec .hjIdleTimeout s = .next (settle (linkLost u.drew (Config.openValue 3 u.draws % 256)))) ∧
    (running s = true → linkUp s = true →
      ∃ t, exec .hjControlTimer s = .next t ∧ t.out = .hjFrame s.pair.txSeq [controlRecord s] :: s.out ∧ t.pair.txSeq = s.pair.txSeq + 1 ∧
        t.get R.PAIR_CNT0_MIRROR_TX = (s.get R.PAIR_CNT0_MIRROR_TX + 1) % 2 ^ R.PAIR_CNT0_MIRROR_TX.width) ∧
    (∀ lanes inv peer nonce tag ncs slot sf ifv vector k n0 n1, running s = true → hjPresent s.part = true → s.bit R.PAIR_CFG_EN = true →
      linkUp s = false → s.pair.retrainAt = none → lanes = 2 ∨ lanes = 4 → peer % 2 ≠ s.get R.STRAPS_PAIR_ID → s.sec.kM = some k →
      s.bit R.PAIR_STATUS_CLAIM_OUT = false → n0 = (if s.get R.STRAPS_PAIR_ID = 0 then toLE 16 s.drawn else nonce) →
      n1 = (if s.get R.STRAPS_PAIR_ID = 0 then nonce else toLE 16 s.drawn) →
      ∃ t, exec (.hjTrainingDone lanes inv peer nonce tag ncs slot sf ifv vector) s = .next t ∧
        (Config.gcmVerify (sessionKeyOf k n0 n1) (n0 ++ n1 ++ toLE 1 (peer % 2) ++ tag) = true →
          t.get R.HJ_STATUS_UP = 1 ∧ t.get R.HJ_STATUS_LANES = lanes ∧ t.get R.HJ_STATUS_AUTH = 1 ∧ t.pair.txSeq = 0 ∧ t.pair.rxSeq = 0 ∧
            t.pair.sessionKey = sessionKeyOf k n0 n1) ∧
        (Config.gcmVerify (sessionKeyOf k n0 n1) (n0 ++ n1 ++ toLE 1 (peer % 2) ++ tag) = false →
          t.bit R.HJ_STATUS_UP = false ∧ t.pair.retrainAt = some (s.now + secondNs))) ∧
    (∀ lanes inv peer nonce tag ncs slot sf ifv vector, running s = true → hjPresent s.part = true → s.bit R.PAIR_CFG_EN = true →
      linkUp s = false → s.pair.retrainAt = none → lanes = 2 ∨ lanes = 4 → peer % 2 = s.get R.STRAPS_PAIR_ID →
      ∃ t, exec (.hjTrainingDone lanes inv peer nonce tag ncs slot sf ifv vector) s = .next t ∧ t.bit R.HJ_STATUS_UP = false ∧
        t.get R.HJ_STATUS_PEER_ID = peer % 2 ∧ t.pair = s.pair) ∧
    (∀ x, s.pair.retrainAt = some x →
      ∃ t, exec .hjRetrainTimer s = .next t ∧ t = (s.reach x).putPair { (s.reach x).pair with retrainAt := none }) ∧
    (∀ sent peerGot peerSent got x, running s = true → linkUp s = true →
      5 * (timeDiff peerGot sent + timeDiff peerSent got) - s.getI R.HJ_ASYM_ASYM = 10 * x →
      ∃ t, exec (.hjTimeExchange sent peerGot peerSent got) s = .next t ∧ t = s.setI R.HJ_TOFS_OFS x)

/-- Mirror records and the resync at their receiver and sender (R503, R532 to R537). -/
def Obligations.MirrorRowsComplete : Prop :=
  ∀ s u : State, Memory.wf s = true → u = s.bumpWrap R.PAIR_CNT0_MIRROR_RX →
    (∀ node mask bytes, takesRecords s = true → exec (.mirrorNcsChange node mask bytes) s = .next (applyNcs u node mask bytes)) ∧
    (∀ node block, takesRecords s = true → node < lineCount s →
      ∃ t, exec (.mirrorReservation node false block) s = .next t ∧ lineGet (t.line node) N.TXCTR = counterAfter block ∧
        t.pair.reserved = assocSet s.pair.reserved node block) ∧
    (∀ district block, takesRecords s = true → cellsWf zeroCell s.tree.bcast = true →
      ∃ t, exec (.mirrorReservation district true block) s = .next t ∧
        cellsRead zeroCell t.tree.bcast district = BitVec.ofNat 32 (counterAfter block)) ∧
    (∀ frame, takesRecords s = true → exec (.mirrorCrimsonEnqueue frame) s = .next (applyCrimson u frame)) ∧
    (∀ ident p, takesRecords s = true →
      (s.sched.frames.find? fun p => decide (p.2.cls = 0) && p.2.dest.isSome && decide (p.2.ident = ident)) = some p →
      exec (.mirrorCrimsonDequeue ident) s = .next (removeFrame u p.1)) ∧
    (∀ op args, takesRecords s = true → exec (.mirrorTreeState op args) s = .next (mirrorTree u op args)) ∧
    (∀ number asn fields, takesRecords s = true → exec (.mirrorScheduleEpoch number asn fields) s = .next (takeEpoch u number asn fields)) ∧
    (∀ requester, takesRecords s = true → exec (.mirrorBulkClear requester) s = .next (clearNodes u 3)) ∧
    (∀ role claiming hold asn nodeMin, running s = true → linkUp s = true → s.pair.then_ = 0 → s.pair.controlOnly = true →
      ∃ t, exec (.mirrorControl 0 role claiming hold asn nodeMin) s = .next t ∧ t.get R.HJ_STATUS_PEER_ROLE = role % 4 ∧
        t.pair.peerClaims = claiming ∧ t.pair.peerHold = hold ∧ t.pair.peerAsn = asn % 2 ^ 40) ∧
    (∀ role claiming hold asn nodeMin, running s = true → linkUp s = true → s.pair.then_ = 0 →
      ∃ t, exec (.mirrorControl 1 role claiming hold asn nodeMin) s = .next t ∧ t.pair.peerClaims = false ∧ t.get R.PAIR_STATUS_IL_FAULT = 0) ∧
    (∀ role claiming hold asn nodeMin, running s = true → linkUp s = true → s.pair.then_ = 0 → s.get R.PAIR_STATUS_ROLE = roleStandby →
      ∃ t w, exec (.mirrorControl 2 role claiming hold asn nodeMin) s = .next t ∧ t.get R.PAIR_STATUS_SWO = 1 ∧
        t.pair.switchover = some w ∧ w.outgoing = false ∧ w.boundary = asn % 2 ^ 40) ∧
    (∀ line, running s = true → peerSource s = true → line < lineCount s → linePoisoned s line = false →
      ∃ t, exec (.peerFetchRequest line) s = .next t ∧ t = s.emit (.hjLine line (lineBytes (s.line line)))) ∧
    (∀ line bytes, takesRecords s = true → s.get R.SYNC_STAT_STATE = 2 → line < lineCount s →
      exec (.resyncLineRx line bytes) s = .next (applyLine u line bytes)) ∧
    (∀ line bytes, takesRecords s = true → s.get R.SYNC_STAT_STATE ≠ 2 → exec (.resyncLineRx line bytes) s = .next u) ∧
    (∀ more, running s = true → linkUp s = true → resyncing s = true → s.pair.dirty = [] →
      ∃ t, exec (.resyncPassEnd more []) s = .next t ∧ t.get R.SYNC_STAT_STATE = 0 ∧ t.get R.SYNC_STAT_LEFT = 0 ∧
        t.get R.PAIR_STATUS_SYNC = 1 ∧ t.get R.PAIR_STATUS_ROLE = roleActive ∧ t.get R.PAIR_STATUS_CAUSE = 3) ∧
    (∀ more, running s = true → linkUp s = true → resyncing s = true → s.pair.dirty ≠ [] →
      exec (.resyncPassEnd more []) s = .next (sendDirty s)) ∧
    (∀ bad, running s = true → linkUp s = true → s.get R.SYNC_STAT_STATE = 2 →
      ∃ t, exec (.resyncPassEnd false bad) s = .next t ∧ t.get R.PAIR_STATUS_SYNC = 1 ∧ t.get R.PAIR_STATUS_ROLE = roleStandby ∧
        t.get R.PAIR_STATUS_CAUSE = 3 ∧ t.pair.takeAsn = true)

/-- PAIR_CMD and the planned switchover (R538, R539, R541, R542, Table 19-6). -/
def Obligations.SwitchoverRowsComplete : Prop :=
  ∀ s : State, Memory.wf s = true →
    (pairCommand s = true → switchResult s = 1 → updState s ≠ updHandover → updState s ≠ updFallback →
      ∃ t w, exec .pairPlannedSwitchover s = .next t ∧ t.pair.switchover = some w ∧ w.phase = .waitBoundary ∧ w.outgoing = true ∧ w.kind = 0 ∧
        w.boundary = boundaryAhead s ∧ t.get R.PAIR_STATUS_CMD_RES = 1 ∧ t.get R.PAIR_STATUS_SWO = 1 ∧ t.pair.then_ = 0) ∧
    (pairCommand s = true → switchResult s ≠ 1 →
      ∃ t, exec .pairPlannedSwitchover s = .next t ∧ t = s.set R.PAIR_STATUS_CMD_RES (switchResult s)) ∧
    (pairCommand s = true → s.bit R.PAIR_STATUS_CLAIM_OUT = true → s.pair.switchover = none → resyncing s = true →
      exec .pairRestartResync s = .next (startResync (s.set R.PAIR_STATUS_CMD_RES 1))) ∧
    (pairCommand s = true → s.bit R.PAIR_STATUS_CLAIM_OUT = false →
      ∃ t, exec .pairRestartResync s = .next t ∧ t = s.set R.PAIR_STATUS_CMD_RES 2) ∧
    (pairCommand s = true → s.bit R.PAIR_STATUS_CLAIM_OUT = false → s.get R.PAIR_STATUS_ROLE = roleStandby ∨ s.get R.PAIR_STATUS_ROLE = roleSpare →
      ∃ t, exec .pairHold s = .next t ∧ t.get R.PAIR_STATUS_CMD_RES = 1 ∧ t.get R.PAIR_STATUS_HOLD = 1 ∧ t.get R.PAIR_STATUS_SYNC = 0 ∧
        t.get R.PAIR_STATUS_ROLE = roleSpare ∧ t.pair.switchover = none ∧
        (s.get R.PAIR_STATUS_ROLE = roleStandby → t.get R.PAIR_STATUS_CAUSE = 10)) ∧
    (pairCommand s = true → s.bit R.PAIR_STATUS_CLAIM_OUT = false → s.get R.PAIR_STATUS_ROLE = roleStandby ∨ s.get R.PAIR_STATUS_ROLE = roleSpare →
      ∃ t, exec .pairResume s = .next t ∧ t = (s.set R.PAIR_STATUS_CMD_RES 1).set R.PAIR_STATUS_HOLD 0) ∧
    (pairCommand s = true → s.bit R.PAIR_STATUS_CLAIM_OUT = true →
      exec .pairHold s = .next (s.set R.PAIR_STATUS_CMD_RES 2) ∧ exec .pairResume s = .next (s.set R.PAIR_STATUS_CMD_RES 2)) ∧
    (∀ w, s.pair.switchover = some w → running s = true → w.outgoing = true → w.phase = .waitBoundary →
      s.bit R.PSM_STATUS_RUN = false ∨ seqGe 40 s.asnNat w.boundary = true →
      ∃ t, exec .switchoverBoundary s = .next t ∧
        t.pair.switchover = some { w with phase := .handover, started := s.now, firstBlock := firstBlock s } ∧
        (linkUp s = true → t.pair.txSeq = s.pair.txSeq + 1)) ∧
    (∀ w, s.pair.switchover = some w → running s = true → w.outgoing = true → w.phase = .handover ∨ w.phase = .stopped →
      egressDrained s = true → exec .handoverAck s =
        .next (dropLower (releaseClaim (s.putPair { s.pair with switchover := some { w with phase := .released, released := s.now } })))) ∧
    (∀ w, s.pair.switchover = some w → running s = true → w.outgoing = true → w.phase = .rewrite →
      exec .switchoverRewriteDone s =
        .next (settle (setRole (switchDone (rewriteCounters s) w (switchTime s w)) roleStandby w.cause))) ∧
    (∀ w, s.pair.switchover = some w → running s = true → w.outgoing = true → w.phase = .released → s.bit R.PAIR_STATUS_CLAIM_IN = false →
      ∃ t, exec .switchoverReclaimTimer s = .next t ∧ t.pair.switchover = some { w with phase := .reclaim }) ∧
    (∀ w, s.pair.switchover = some w → running s = true → w.outgoing = true → w.phase = .handover → egressDrained s = false →
      exec .handoverAck s = .next (s.putPair { s.pair with switchover := some { w with phase := .stopped } }))

/-! ## Firmware and configuration update (chapter 20) -/

/-- UPD_CMD (R78, R89, R549 to R552, R558, R566): each command on a running device. The checks of an image rest on opaque functions (log
entry 4), so a clause says what follows from the reason that they give. A requester that may not write UPD_CMD gets RESULT 2. -/
def Obligations.UpdateRowsComplete : Prop :=
  ∀ (s : State) (q : Requester) (e : SlotEntry), Memory.wf s = true →
    (∀ row, row ∈ [Instr.updStage q 0, .updActivate q false, .updReject q, .updAbort q, .updActivateAtRestart q] → running s = true →
      q = Requester.app ∨ q = Requester.security → exec row s = .next (updResult (s.bump R.UPD_CNT_BAD_CMD) 2)) ∧
    (∀ comp, mayUpdate q = true → running s = true → updState s = updIdle → slotOf s comp (inactiveSlot s comp) = some e → commitAllowed s = true →
      slotWriteAllowed s comp (inactiveSlot s comp) = true →
      ∃ t, exec (.updStage q comp) s = .next t ∧
        (stageReason s comp (windowImage s) e ≠ 0 → t.get R.UPD_STATUS_RESULT = 3 ∧
          t.get R.UPD_STATUS_REASON = stageReason s comp (windowImage s) e % 256) ∧
        (stageReason s comp (windowImage s) e = 0 → t.get R.UPD_STATUS_RESULT = 0 ∧ t.get R.UPD_STATUS_STATE = updWriting ∧
          t.get R.UPD_STATUS_COMP = comp % 8 ∧ t.upd.target = inactiveSlot s comp)) ∧
    (∀ comp, mayUpdate q = true → running s = true → updState s ≠ updIdle →
      exec (.updStage q comp) s = .next (s.set R.UPD_STATUS_RESULT 1)) ∧
    (running s = true → updState s = updWriting → slotOf s (updComp s) s.upd.target = some e → commitAllowed s = true →
      ∃ t, exec (.stageWriteDone true) s = .next t ∧
        (readsBack s (updComp s) = true → t.get R.UPD_STATUS_STATE = updStaged ∧ t.get R.UPD_STATUS_RESULT = 0) ∧
        (readsBack s (updComp s) = false → t.get R.UPD_STATUS_STATE = updIdle ∧ t.get R.UPD_STATUS_RESULT = 3 ∧ t.get R.UPD_STATUS_REASON = 4)) ∧
    (running s = true → updState s = updWriting →
      ∃ t, exec (.stageWriteDone false) s = .next t ∧ t.get R.UPD_STATUS_STATE = updIdle ∧ t.get R.UPD_STATUS_RESULT = 3 ∧
        t.get R.UPD_STATUS_REASON = 4 ∧ t.flash = s.flash) ∧
    (mayUpdate q = true → running s = true → staged s = true → slotOf s (updComp s) s.upd.target = some e → commitAllowed s = true →
      updComp s ≠ 4 → updComp s ≠ 5 →
      ∃ t, exec (.updActivate q false) s = .next t ∧ t.get R.UPD_STATUS_RESULT = 0 ∧
        t.get R.UPD_STATUS_STATE = (if updComp s = 0 then updIdle else updHandover) ∧ t.upd.seconds = s.get R.UPD_PROB_SECONDS) ∧
    (∀ swap, mayUpdate q = true → running s = true → staged s = true → exec (.updActivate q swap) s = .next (activate s swap)) ∧
    (mayUpdate q = true → running s = true → staged s = true → switchResult s ≠ 1 → updComp s ≠ 5 →
      exec (.updActivate q true) s = .next (s.set R.UPD_STATUS_RESULT 7)) ∧
    (∀ row, row ∈ [Instr.updActivate q false, .updActivate q true, .updAbort q, .updActivateAtRestart q] → mayUpdate q = true → running s = true →
      staged s = false → exec row s = .next (s.set R.UPD_STATUS_RESULT 5)) ∧
    (running s = true → updState s = updHandover → s.upd.backward = none →
      ∃ t, exec (.updReject .host) s = .next t ∧ t.get R.UPD_STATUS_RESULT = 0 ∧ t.upd.unhealthy = true ∧ t.flash = s.flash) ∧
    (running s = true → updState s = updProbation → s.upd.backward = none → switchResult s ≠ 1 → updComp s ≠ 4 →
      ∃ t, exec (.updReject .host) s = .next t ∧ t.get R.UPD_STATUS_RESULT = 0 ∧ t.get R.UPD_STATUS_STATE = updFallback ∧
        t.upd.backward = some 1 ∧ t.upd.probation = none ∧ t.get R.UPD_LEFT_SECONDS = 0) ∧
    (running s = true → exec (.updReject .control) s = .next (s.set R.UPD_STATUS_RESULT 2)) ∧
    (mayUpdate q = true → running s = true → staged s = true → slotOf s (updComp s) s.upd.target = some e → commitAllowed s = true →
      ∃ t, exec (.updAbort q) s = .next t ∧ t.get R.UPD_STATUS_RESULT = 0 ∧ t.get R.UPD_STATUS_STATE = updIdle) ∧
    (∀ comp, comp ≤ 5 → powered s = true → mayUpdate q = true → hostLoads s = true → comp = s.boot.comp →
      ∃ t, exec (.updBootLoad q comp) s = .next t ∧
        (checkImage s comp (windowImage s) 0x00800000 = 0 → t.get R.UPD_STATUS_RESULT = 0 ∧ t.boot.comp = comp + 1) ∧
        (checkImage s comp (windowImage s) 0x00800000 ≠ 0 → t.get R.UPD_STATUS_RESULT = 3 ∧ (comp ≠ 5 → t.boot = s.boot) ∧
          t.get R.UPD_STATUS_REASON = checkImage s comp (windowImage s) 0x00800000 % 256)) ∧
    (mayUpdate q = true → running s = true → staged s = true → slotOf s (updComp s) s.upd.target = some e → commitAllowed s = true →
      ∃ t, exec (.updActivateAtRestart q) s = .next t ∧ t.get R.UPD_STATUS_RESULT = 0 ∧ t.upd.atRestart = some (updComp s) ∧
        t.get R.UPD_STATUS_STATE = updStaged)

/-- Handovers, probation and the configuration sequence (R552 to R557, R559 to R563). -/
def Obligations.HandoverRowsComplete : Prop :=
  ∀ s : State, Memory.wf s = true →
    (∀ core, running s = true → coreNext s core = true →
      ∃ t, exec (.coreHandoverDone core) s = .next t ∧ t.upd.unit = core + 1 ∧ t.get (R.CPU_STAT_STATE core) = 1 ∧
        t.get R.UPD_STATUS_STATE = s.get R.UPD_STATUS_STATE) ∧
    (∀ core u, u = fallBack s 2 → running s = true → coreNext s core = true → switchResult u ≠ 1 →
      exec (.coreHandoverTimeout core) s = .next (warmRestart u)) ∧
    (∀ core u, u = fallBack s 2 → running s = true → coreNext s core = true → switchResult u = 1 →
      exec (.coreHandoverTimeout core) s = .next (startPlanned u 12 7)) ∧
    (running s = true → updState s = updHandover → handoverReady s = true → updComp s = 2 ∨ updComp s = 3 ∨ updComp s = 5 →
      s.upd.backward = none → s.upd.unhealthy = false →
      ∃ t, exec (.handoverComplete []) s = .next t ∧ t.get R.UPD_STATUS_STATE = updProbation ∧
        t.get R.UPD_LEFT_SECONDS = s.upd.seconds % 2 ^ R.UPD_LEFT_SECONDS.width ∧
        t.upd.probation = some { comp := updComp s, slot := s.upd.target, started := s.now, ends := s.now + s.upd.seconds * secondNs }) ∧
    (∀ fails, running s = true → updState s = updHandover ∨ updState s = updFallback → handoverReady s = true →
      exec (.handoverComplete fails) s = .next (endHandover s fails)) ∧
    (∀ u, u = s.advanceTo (slotEnd s) → running s = true → s.upd.livePending = true → s.bit R.PSM_STATUS_RUN = true → sfBegins s = true →
      s.upd.liveFrom ≤ boundaryAt s →
      ∃ t, exec .configLiveApply s = .next t ∧ t = liveApply u (handoverImage u).1 ((u.asnNat + 1) % 2 ^ 40) (handoverImage u).2 ∧
        t.upd.livePending = false) ∧
    (∀ q key comp p e, running s = true → confirmable s q key comp = some p → slotOf s p.comp p.slot = some e → commitAllowed s = true →
      ∃ t, exec (.updConfirmWrite q key comp) s = .next t ∧ t.get R.UPD_STATUS_STATE = updIdle ∧ t.upd.probation = none ∧
        t.get R.UPD_LEFT_SECONDS = 0 ∧ t.get R.UPD_CNT_CONFIRMED = min 255 (s.get R.UPD_CNT_CONFIRMED + 1)) ∧
    (∀ q key comp, running s = true → confirmable s q key comp = none →
      exec (.updConfirmWrite q key comp) s = .next (s.bump R.UPD_CNT_BAD_CONFIRM)) ∧
    (∀ p, s.upd.probation = some p → running s = true → updState s = updProbation → updComp s ≠ 4 →
      ∃ t, exec .probationExpiry s = .next t ∧ t.get R.UPD_STATUS_STATE = updFallback ∧ t.upd.probation = none ∧ t.upd.backward = some 0 ∧
        t.get R.UPD_LEFT_SECONDS = 0) ∧
    (∀ q, powered s = true →
      ∃ t, exec (.updCfgseqLoRead q) s = .next t ∧ assocGet t.reply q.bank = some (sequenceInForce s % 2 ^ 32) ∧
        (t.snapsOf q).cfgSeqHi = some (sequenceInForce s / 2 ^ 32) ∧ t.regs = s.regs)

/-! ## Power (chapter 21) -/

/-- Performance levels, temperature and Pale (R570, R571, R573 to R575, Table 21-2). -/
def Obligations.LevelRowsComplete : Prop :=
  ∀ s : State, Memory.wf s = true →
    (∀ q v, running s = true → q = Requester.host ∨ q = Requester.control → v < 3 → s.bit R.PWR_STATUS_THROTTLED = false →
      s.pwr.change = none → s.get R.PWR_STATUS_CUR < v →
      ∃ t c, exec (.pwrLevelWrite q v) s = .next t ∧ t.get R.PWR_LEVEL_TARGET = v ∧ t.get R.PWR_STATUS_CHANGING = 1 ∧
        t.get R.PWR_STATUS_CUR = s.get R.PWR_STATUS_CUR ∧ t.pwr.vsel = v ∧ t.pwr.clockLevel = s.get R.PWR_STATUS_CUR ∧
        t.pwr.change = some c ∧ c.switched = false ∧ c.level = v) ∧
    (∀ q v, running s = true → q = Requester.host ∨ q = Requester.control → s.bit R.PWR_STATUS_THROTTLED = false →
      s.pwr.change = none → v < s.get R.PWR_STATUS_CUR → v < 3 →
      ∃ t, exec (.pwrLevelWrite q v) s = .next t ∧ t.get R.PWR_LEVEL_TARGET = v ∧ t.get R.PWR_STATUS_CHANGING = 1 ∧
        t.get R.PWR_STATUS_CUR = v ∧ t.pwr.vsel = v ∧ t.pwr.clockLevel = v) ∧
    (∀ c, s.pwr.change = some c → c.switched = false →
      ∃ t, exec .plClockSwitchTimer s = .next t ∧ t.pwr.clockLevel = c.level ∧ t.pwr.change = some { c with switched := true } ∧
        t.regs = s.regs) ∧
    (∀ c, s.pwr.change = some c → c.switched = true → c.level < 3 → wantedLevel s = c.level →
      ∃ t, exec .plChangeDone s = .next t ∧ t.get R.PWR_STATUS_CUR = c.level ∧ t.get R.PWR_STATUS_CHANGING = 0 ∧ t.pwr.change = none ∧
        t.get R.PWR_CNT_PL_CHANGES = (s.get R.PWR_CNT_PL_CHANGES + 1) % 2 ^ R.PWR_CNT_PL_CHANGES.width) ∧
    (∀ tj : Int, powered s = true → -32768 ≤ tj → tj ≤ 4 * (s.get R.PWR_CFG21_WARN : Int) → tj ≤ 4 * (s.get R.PWR_CFG21_CRIT : Int) →
      ∃ t, exec (.tempSample tj) s = .next t ∧ t.getI R.PWR_TEMP_TJ = tj ∧ t.getI R.PWR_TEMP_MAX = max (s.getI R.PWR_TEMP_MAX) tj ∧
        t.pwr.warned = false ∧ t.get R.PWR_STATUS_THROTTLED = s.get R.PWR_STATUS_THROTTLED) ∧
    (∀ tj : Int, powered s = true → tj ≤ 32767 → 4 * (s.get R.PWR_CFG21_WARN : Int) < tj → 4 * (s.get R.PWR_CFG21_CRIT : Int) < tj →
      ∃ t, exec (.tempSample tj) s = .next t ∧ t.getI R.PWR_TEMP_TJ = tj ∧ t.get R.PWR_STATUS_THROTTLED = 1 ∧ t.pwr.warned = true) ∧
    (∀ x, s.pwr.coolSince = some x → s.bit R.PWR_STATUS_THROTTLED = true →
      ∃ t, exec .throttleReleaseTimer s = .next t ∧ t.get R.PWR_STATUS_THROTTLED = 0 ∧ t.pwr.coolSince = none) ∧
    (running s = true → s.bit R.PWR_CFG21_PALE_EN = true → s.pwr.pale = false → s.get R.APP_STAT_STATE = appRuns → s.app.request = none →
      s.app.debugHalt = false →
      ∃ t, exec .paleEnter s = .next t ∧ t.pwr.pale = true ∧ t.app.waiting = true ∧
        ∀ n, n < 32 → t.get (R.GT_STAT_LF n) = s.get (R.GT_CFG_EN n)) ∧
    (∀ debugger periods, s.pwr.pale = true → s.app.request.isSome = true ∨ debugger = true →
      ∃ t, exec (.paleExit debugger periods) s = .next t ∧ t.pwr.pale = false)

/-- Sleep (R578 to R581, R583 to R585, Tables 21-3 and 21-5): requests, entry, wake sources and exit. -/
def Obligations.SleepRowsComplete : Prop :=
  ∀ s : State, Memory.wf s = true →
    (∀ q, running s = true → q = Requester.host ∨ q = Requester.control → sleepBusy s = false → (List.range 7).any (wakeEnabled s) = true →
      switchResult s ≠ 1 →
      (∃ t r, exec (.pwrCmdSepia q 0x534C) s = .next t ∧ t.pwr.request = some r ∧ r.umber = false ∧ t.get R.PWR_STATUS_CMD_RES = 1) ∧
      (∃ t r, exec (.pwrCmdUmber q 0x534C) s = .next t ∧ t.pwr.request = some r ∧ r.umber = true ∧ t.get R.PWR_STATUS_CMD_RES = 1)) ∧
    (∀ q key, running s = true → sleepResult s q key ≠ 1 →
      exec (.pwrCmdSepia q key) s = .next (s.set R.PWR_STATUS_CMD_RES (sleepResult s q key)) ∧
      exec (.pwrCmdUmber q key) s = .next (s.set R.PWR_STATUS_CMD_RES (sleepResult s q key))) ∧
    (∀ r, s.pwr.request = some r → running s = true → r.umber = false → s.pwr.wake = none →
      ∃ t, exec .sepiaEntry s = .next t ∧ t.boot.phase = .sepia ∧ t.pwr.enCore = false ∧ t.pwr.isolated = true ∧ t.pwr.request = none ∧
        t.tb.running = false ∧ t.flash = s.flash ∧ t.otp = s.otp ∧ t.queues = []) ∧
    (∀ r, s.pwr.request = some r → running s = true → r.umber = true → s.pwr.wake = none →
      ∃ t, exec .umberEntry s = .next t ∧ t.boot.phase = .umber ∧ t.pwr.enCore = false ∧ t.pwr.enSram = false ∧ t.sec = SecState.cold ∧
        t.tb.running = false ∧ t.flash = s.flash ∧ t.otp = s.otp) ∧
    (∀ src, 1 ≤ src → src ≤ 6 → wakeEnabled s src = true → s.pwr.wake = none → s.boot.phase = .sepia ∨ s.boot.phase = .umber →
      ∃ t, exec (.wakeSource src) s = .next t ∧ t.boot.phase = .powering ∧ t.get R.PWR_STATUS_WAKE_SRC = src ∧ t.pwr.enCore = true ∧
        t.pwr.enSram = true ∧ t.boot.cause = (if s.boot.phase = .umber then .umberExit else .sepiaExit)) ∧
    (∀ src, 1 ≤ src → src ≤ 6 → wakeEnabled s src = true → s.pwr.wake = none → running s = true → s.pwr.request.isSome = true →
      ∃ t, exec (.wakeSource src) s = .next t ∧ t.pwr.wake = some (src, s.now) ∧ t.pwr.duringEntry = true ∧ t.regs = s.regs) ∧
    (wakeEnabled s 0 = true → s.pwr.wake = none → s.boot.phase = .sepia ∨ s.boot.phase = .umber →
      ∃ t, exec .sleepTimerExpiry s = .next t ∧ t.boot.phase = .powering ∧ t.get R.PWR_STATUS_WAKE_SRC = 0) ∧
    (s.boot.phase = .pllWait → s.boot.cause = .sepiaExit → s.tb.running = true →
      exec (.sepiaExitReady true) s = .next (sepiaReady s) ∧ (sepiaReady s).boot.phase = .running ∧ (sepiaReady s).pwr.save = none) ∧
    (s.boot.phase = .pllWait → s.boot.cause = .sepiaExit → s.tb.running = true →
      ∃ t, exec (.sepiaExitReady false) s = .next t ∧ t.boot.phase = .boot ∧ t.boot.cause = .umberExit ∧ t.get R.PWR_STATUS_RESTORE_FAIL = 1)

/-! ## Rules of the whole block -/

/-- A step runs the command at the front of the queue: it is `exec` of that command on the state with the queue's rest. -/
def Obligations.StepRunsFront : Prop :=
  ∀ (c : Instr) (s : State), step (s.enqueueFront c) = exec c s ∧
    ∀ rest, s.pending = c :: rest → step s = exec c { s with pending := rest }

/-- On an empty queue one clk_ts edge passes, 2 ns (the model's choice, log entry 6): a timebase that runs gains TB_INC in its 96-bit
value, wrapping, and one that does not stays (R406, R407). -/
def Obligations.EmptyQueueClockEdge : Prop :=
  ∀ s : State, s.pending = [] →
    ∃ t, step s = .next t ∧ t.now = s.now + 2 ∧ t.pending = [] ∧
      tbValue t = (if s.tb.running then
        (tbValue s + (s.get R.TB_INC_HI_INT * 2 ^ 32 + s.get R.TB_INC_LO_FRAC)) % 2 ^ 96 else tbValue s)

/-- Every store of the reset state is in its canonical form. -/
def Obligations.ResetStoresCanonical : Prop :=
  Memory.wf State.reset = true

/-- What reset leaves (R14): every register reads the Reset column of its table, the stores are empty and no command waits. Registers of
five tables stand for the rest; the part, the flash and the OTP are the model's choice (log entry 8). -/
def Obligations.ResetRegisterValues : Prop :=
  (∀ key, State.reset.word key = resetWord key) ∧ State.reset.fwd.ncs = [] ∧ State.reset.window = [] ∧ State.reset.pcie.msix = [] ∧
    State.reset.queues = [] ∧ State.reset.tb.running = false ∧ State.reset.pending = [] ∧
    State.reset.get R.TB_INC_HI_INT = 2 ∧ State.reset.get R.TB_INC_LO_FRAC = 0 ∧ State.reset.get R.PWR_WAKE_TMR_SECONDS = 3600 ∧
    State.reset.get R.PWR_TEMP_MAX = 0x8000 ∧ State.reset.get R.PAIR_STATUS_CLAIM_OUT = 0 ∧ State.reset.get R.BOOT_STATUS_PHASE = 1 ∧
    State.reset.get R.TIME_QUALITY_CODE = 0

/-- Every step keeps every store in its canonical form: register file, flash, image window, node context store, EUI hash table, heard-by
tables, infrastructure shadow, MSI-X table, and the application core's memories. It holds from every state in that form, whatever the
command and its operands. -/
def Obligations.StoresCanonicalKept : Prop :=
  ∀ s t : State, Memory.wf s = true → step s = .next t → Memory.wf t = true

/-- Every command, in every state, ends in a next state, which keeps the part, the flash density, the commands that wait and the stores'
form, and in which the elapsed time has not run back. No command is refused and none faults. -/
def Obligations.EveryCommandCompletes : Prop :=
  ∀ (c : Instr) (s : State), ∃ t, exec c s = .next t ∧ t.part = s.part ∧ t.flashSize = s.flashSize ∧ t.pending = s.pending ∧
    s.now ≤ t.now ∧ (Memory.wf s = true → Memory.wf t = true)

/-- The frame of every command: each component of the state that the command's entry in `mayChange` does not name stays, whatever the
state and the operands. -/
def Obligations.OnlyNamedComponentsChange : Prop :=
  ∀ (c : Instr) (s t : State), exec c s = .next t → ∀ k : Comp, k ∉ mayChange c → k.same s t

/-- The frame among the registers: a command of `registerFrame` leaves every register alone but those of its list and those that the
record of an event may write. -/
def Obligations.ListedRegistersChange : Prop :=
  ∀ (c : Instr) (s t : State) (keys : List Nat), Memory.wf s = true → registerFrame c = some keys → exec c s = .next t →
    ∀ key, key ∉ keys → noisy key = false → t.word key = s.word key

/-- The frame of the stores: a command that writes one line, entry, chunk or slot leaves every other address as it was. -/
def Obligations.StoreWritesStayInPlace : Prop :=
  ∀ (s t : State) (q : Requester), Memory.wf s = true →
    (∀ n row, row ∈ [Instr.ncsMaskedWrite q n, .ncsZeroLine q n, .mirrorReservation n false 0] → exec row s = .next t →
      ∀ m, m ≠ n → t.line m = s.line m) ∧
    (∀ c n, exec (.hbInvalidate q c n) s = .next t → ∀ a, a ≠ hbKey c n →
      cellsRead zeroCell t.fwd.hb a = cellsRead zeroCell s.fwd.hb a) ∧
    (∀ frame p, recoveryPayload 1 frame = some p → exec (.recoveryChunk frame) s = .next t →
      ∀ a, a < leField p 4 4 ∨ leField p 4 4 + (p.length - 8) ≤ a → cellsRead zeroCell t.window a = cellsRead zeroCell s.window a) ∧
    (∀ frame, recoveryPayload 1 frame = none → exec (.recoveryChunk frame) s = .next t → t.window = s.window) ∧
    (∀ off v fails data, 0x0B800000 ≤ off → off < 0x0C000000 → off % 4 = 0 → exec (.registerWrite q off 4 v false fails data) s = .next t →
      ∀ a, a < off - 0x0B800000 ∨ off - 0x0B800000 + 4 ≤ a → cellsRead zeroCell t.window a = cellsRead zeroCell s.window a) ∧
    (∀ k v fails data, k < 256 → exec (.registerWrite q (0x00180000 + 4 * k) 4 v false fails data) s = .next t →
      ∀ a, a ≠ k → cellsRead msixCell t.pcie.msix a = cellsRead msixCell s.pcie.msix a) ∧
    (∀ row, row ∈ [Instr.updAbort q, .updActivateAtRestart q, .stageWriteDone true, .stageWriteDone false] → exec row s = .next t →
      ∀ a, (∀ copy, copy < 2 → a < dirSector copy ∨ dirSector copy + sectorSize ≤ a) →
        cellsRead erasedCell t.flash a = cellsRead erasedCell s.flash a) ∧
    (∀ comp e, slotOf s comp (inactiveSlot s comp) = some e → exec (.updStage q comp) s = .next t →
      ∀ a, (∀ copy, copy < 2 → a < dirSector copy ∨ dirSector copy + sectorSize ≤ a) → a < e.offset ∨ e.offset + e.size ≤ a →
        cellsRead erasedCell t.flash a = cellsRead erasedCell s.flash a)

/-- The one-time-programmable store only grows (Table 17-7, R488, R490): no command changes the secret, the serial, the vendor hash or
the certificate, lowers an anti-rollback counter, replaces a programmed owner hash or takes back a revocation. -/
def Obligations.OtpOnlyGrows : Prop :=
  ∀ (c : Instr) (s t : State), exec c s = .next t →
    t.otp.secret = s.otp.secret ∧ t.otp.serial = s.otp.serial ∧ t.otp.vendorHash = s.otp.vendorHash ∧
      t.otp.certificate = s.otp.certificate ∧ (∀ k : Nat, s.otp.arb.getD k 0 ≤ t.otp.arb.getD k 0) ∧
      (∀ (k : Nat) (h : BitVec 256) (r : Bool), s.otp.owners[k]? = some (some h, r) → ∃ r' : Bool, t.otp.owners[k]? = some (some h, r') ∧ (r = true → r' = true))

/-! ## Rules of single chapters -/

/-- Registers of an absent unit (R4): a read answers 0x0000_0000, a write changes nothing, and neither makes an error response. -/
def Obligations.AbsentUnitsReadZero : Prop :=
  ∀ (s : State) (q : Requester) (off : Nat), running s = true → unitAt s.part off = false → off % 4 = 0 →
    (∀ v fails data, exec (.registerWrite q off 4 v false fails data) s = .next s) ∧
    (∃ t, exec (.counterReadClear q off 4) s = .next t ∧ assocGet t.reply q.bank = some 0 ∧ t.out = s.out ∧ t.regs = s.regs)

/-- A window write during a configuration handover (R103): result 3, counted, and nothing but RTW_STATUS and RTW_DENIED of the requester
changes. -/
def Obligations.HandoverDeniesWindowWrite : Prop :=
  ∀ (s : State) (q : Requester) (v : Nat), Memory.wf s = true → powered s = true → q = Requester.host ∨ q = Requester.app →
    s.boot.committed = true → configHandover s = true →
    ∃ t, exec (.rtwDataWrite q v) s = .next t ∧ t.get (R.RTW_STATUS_RESULT q.bank) = 3 ∧
      t.get (R.RTW_DENIED_COUNT q.bank) = min 65535 (s.get (R.RTW_DENIED_COUNT q.bank) + 1) ∧
      (∀ key, key ≠ R.RTW_STATUS q.bank → key ≠ R.RTW_DENIED q.bank → t.word key = s.word key) ∧ t.flash = s.flash

/-- The clock retry (R105): the first time the rails stay on and the device waits once more, the second time it enters fault hold with
code 3 (no REFCLK) or 4 (no lock). -/
def Obligations.ClockFailureHolds : Prop :=
  ∀ (s : State) (code : Nat), Memory.wf s = true → s.boot.phase = .pllWait → s.tb.running = false → code = 3 ∨ code = 4 →
    (s.boot.clockRetried = false →
      ∃ t, exec (.refclkTimeout code) s = .next t ∧ t.boot.clockRetried = true ∧ t.boot.phase = .pllWait ∧ t.pwr = s.pwr ∧ t.regs = s.regs) ∧
    (s.boot.clockRetried = true →
      ∃ t, exec (.refclkTimeout code) s = .next t ∧ t.boot.phase = .faultHold ∧ t.get R.AON_FAIL_CODE = code)

/-- The ASN snapshot (R277): a read of ASN_LO captures bits 39:32 for its requester alone, the next read of ASN_HI returns them, and one
without a preceding read of ASN_LO returns the live value. -/
def Obligations.AsnHighReadIsSnapshot : Prop :=
  ∀ (s : State) (q : Requester), running s = true →
    (∃ t, exec (.asnLoRead q) s = .next t ∧ assocGet t.reply q.bank = some (s.asnNat % 2 ^ 32) ∧
      (t.snapsOf q).asnHi = some (s.asnNat / 2 ^ 32) ∧ ∀ p, p ≠ q → t.snapsOf p = s.snapsOf p) ∧
    (∀ v, (s.snapsOf q).asnHi = some v → v < 2 ^ 32 →
      ∃ t, exec (.counterReadClear q R.ASN_HI 4) s = .next t ∧ assocGet t.reply q.bank = some v ∧ (t.snapsOf q).asnHi = none) ∧
    ((s.snapsOf q).asnHi = none →
      ∃ t, exec (.counterReadClear q R.ASN_HI 4) s = .next t ∧ assocGet t.reply q.bank = some (s.asnNat / 2 ^ 32))

/-- The owner of the timebase (R410): a write by another requester to one of the six registers is ignored, sets RESULT 2 and counts
NOT_OWNER. -/
def Obligations.TimebaseOwnerAlone : Prop :=
  ∀ (s : State) (q : Requester) (v : Nat) (fails : List (Nat × Nat)) (data : List Byte), Memory.wf s = true → running s = true →
    tbOwner s q = false →
    ∀ row, row ∈ [Instr.tbIncCommit q v, .tbStepCommit q v, .tbServoWrite q v, .registerWrite q R.TB_INC_LO 4 v false fails data,
      .registerWrite q R.TB_INC_HI 4 v false fails data, .registerWrite q R.TB_STEP_LO 4 v false fails data,
      .registerWrite q R.TB_STEP_HI 4 v false fails data, .registerWrite q R.TB_SERVO 4 v false fails data,
      .registerWrite q R.TB_FERR 4 v false fails data] →
    ∃ t, exec row s = .next t ∧ t.get R.TB_STATUS_RESULT = 2 ∧
      t.get R.TB_CNT_NOT_OWNER = min (2 ^ R.TB_CNT_NOT_OWNER.width - 1) (s.get R.TB_CNT_NOT_OWNER + 1) ∧ t.tb = s.tb ∧
      ∀ key, key ∈ [R.TB_INC_LO, R.TB_INC_HI, R.TB_STEP_LO, R.TB_STEP_HI, R.TB_SERVO, R.TB_FERR] → t.word key = s.word key

/-- A masked write meets a poisoned line (R500, R508): one that covers all 64 bytes replaces the line and clears the poison, a narrower
one is discarded and the line is marked for rebuild, every byte zero but REBUILD and the age stamp. -/
def Obligations.PoisonedLineMaskedWrite : Prop :=
  ∀ (s : State) (q : Requester) (n : Nat), Memory.wf s = true → openTo s q = true → fwdFull q = true → s.bit R.PAIR_STATUS_CLAIM_OUT = true →
    ncsCheck s n = 0 →
    linePoisoned s n = true →
    (ncsMask s q = 2 ^ 64 - 1 →
      ∃ t, exec (.ncsMaskedWrite q n) s = .next t ∧ t.line n = BitVec.ofNat 512 (ncsData s q) ∧ linePoisoned t n = false) ∧
    (ncsMask s q ≠ 2 ^ 64 - 1 →
      ∃ t, exec (.ncsMaskedWrite q n) s = .next t ∧ t.line n = rebuildLine s)

end
end

