-- ==== Sys2Proof/Laws/Cells.lean ====
section
/-!
SUPPORT. Laws of the sparse stores: reading what was written, leaving every other address alone, keeping the canonical form.
-/

namespace Sys2Proof.Machine

variable {w : Nat} {d : Nat → BitVec w}

theorem cellsWfFrom_mono {a b : Nat} (h : a ≤ b) : ∀ {l : Cells w}, cellsWfFrom d b l = true → cellsWfFrom d a l = true
  | [], _ => rfl
  | (k, v) :: t, hw => by
    simp only [cellsWfFrom, Bool.and_eq_true, decide_eq_true_eq] at hw ⊢
    exact ⟨⟨Nat.le_trans h hw.1.1, hw.1.2⟩, hw.2⟩

theorem cellsWfFrom_write (k : Nat) (v : BitVec w) :
    ∀ {lo : Nat} {l : Cells w}, cellsWfFrom d lo l = true → lo ≤ k → cellsWfFrom d lo (cellsWrite d l k v) = true
  | lo, [], _, hk => by
    simp only [cellsWrite]
    split
    · rfl
    · rename_i hv
      simp [cellsWfFrom, hk, hv]
  | lo, (a, u) :: t, hw, hk => by
    simp only [cellsWfFrom, Bool.and_eq_true, decide_eq_true_eq] at hw
    obtain ⟨⟨h1, h2⟩, h3⟩ := hw
    simp only [cellsWrite]
    split
    · rename_i ha
      subst ha
      split
      · exact cellsWfFrom_mono (Nat.le_succ_of_le hk) h3
      · rename_i hv
        simp [cellsWfFrom, hk, hv, h3]
    · rename_i ha
      split
      · rename_i hlt
        split
        · simp [cellsWfFrom, h1, h2, h3]
        · rename_i hv
          simp [cellsWfFrom, hk, hv, h2, h3, hlt]
      · rename_i hge
        have := cellsWfFrom_write k v h3 (by omega)
        simp [cellsWfFrom, h1, h2, this]

/-- A write keeps the canonical form. -/
theorem cellsWf_write {l : Cells w} (h : cellsWf d l = true) (k : Nat) (v : BitVec w) : cellsWf d (cellsWrite d l k v) = true :=
  cellsWfFrom_write k v h (Nat.zero_le k)

theorem cellsWfFrom_filter (p : Nat × BitVec w → Bool) :
    ∀ {lo : Nat} {l : Cells w}, cellsWfFrom d lo l = true → cellsWfFrom d lo (l.filter p) = true
  | _, [], _ => rfl
  | lo, (a, u) :: t, hw => by
    simp only [cellsWfFrom, Bool.and_eq_true, decide_eq_true_eq] at hw
    obtain ⟨⟨h1, h2⟩, h3⟩ := hw
    have ih := cellsWfFrom_filter p h3
    rw [List.filter_cons]
    split
    · simp [cellsWfFrom, h1, h2, ih]
    · exact cellsWfFrom_mono (by omega) ih

/-- The empty store is canonical. -/
theorem cellsWf_nil : cellsWf d ([] : Cells w) = true := rfl

/-- Dropping entries keeps the canonical form. -/
theorem cellsWf_filter {l : Cells w} (h : cellsWf d l = true) (p : Nat × BitVec w → Bool) : cellsWf d (l.filter p) = true :=
  cellsWfFrom_filter p h

theorem cellsWfFrom_map (f : BitVec w → BitVec w) :
    ∀ {lo : Nat} {l : Cells w}, cellsWfFrom zeroCell lo l = true →
      cellsWfFrom zeroCell lo ((l.map fun c => (c.1, f c.2)).filter fun c => decide (c.2 ≠ 0#w)) = true
  | _, [], _ => rfl
  | lo, (a, u) :: t, hw => by
    simp only [cellsWfFrom, Bool.and_eq_true, decide_eq_true_eq] at hw
    obtain ⟨⟨h1, _⟩, h3⟩ := hw
    have ih := cellsWfFrom_map f h3
    rw [List.map_cons, List.filter_cons]
    split
    · rename_i hv
      have hv' : f u ≠ 0#w := by simpa using hv
      simp only [cellsWfFrom, Bool.and_eq_true, decide_eq_true_eq]
      exact ⟨⟨h1, hv'⟩, ih⟩
    · exact cellsWfFrom_mono (by omega) ih

/-- Below every listed address a store reads its default. -/
theorem cellsRead_below : ∀ {lo : Nat} {l : Cells w} {k : Nat}, cellsWfFrom d lo l = true → k < lo → cellsRead d l k = d k
  | _, [], _, _, _ => rfl
  | lo, (a, u) :: t, k, hw, hk => by
    simp only [cellsWfFrom, Bool.and_eq_true, decide_eq_true_eq] at hw
    have h1 : a ≠ k := by omega
    have h2 : k < a := by omega
    simp [cellsRead, h1, h2]

theorem cellsRead_write_from (k : Nat) (v : BitVec w) (j : Nat) :
    ∀ {lo : Nat} {l : Cells w}, cellsWfFrom d lo l = true →
      cellsRead d (cellsWrite d l k v) j = if j = k then v else cellsRead d l j
  | lo, [], _ => by
    simp only [cellsWrite]
    split
    · rename_i hv
      by_cases hj : j = k
      · subst hj; simp [cellsRead, hv]
      · simp [cellsRead, hj]
    · by_cases hj : j = k
      · subst hj; simp [cellsRead]
      · have hk : k ≠ j := fun e => hj e.symm
        simp [cellsRead, hj, hk]
  | lo, (a, u) :: t, hw => by
    simp only [cellsWfFrom, Bool.and_eq_true, decide_eq_true_eq] at hw
    obtain ⟨⟨h1, h2⟩, h3⟩ := hw
    simp only [cellsWrite]
    split
    · rename_i ha
      subst ha
      by_cases hj : j = a
      · subst hj
        split
        · rename_i hv
          rw [cellsRead_below h3 (by omega), if_pos rfl, hv]
        · simp [cellsRead]
      · have hk : a ≠ j := fun e => hj e.symm
        split
        · by_cases hlt : j < a
          · rw [cellsRead_below h3 (by omega)]; simp [cellsRead, hk, hlt]
          · simp [cellsRead, hk, hlt]
        · simp [cellsRead, hk]
    · rename_i ha
      split
      · rename_i hlt
        by_cases hj : j = k
        · subst hj
          split
          · rename_i hv
            simp [cellsRead, ha, hlt, hv]
          · simp [cellsRead]
        · have hk : k ≠ j := fun e => hj e.symm
          split
          · simp
          · by_cases hjk : j < k
            · have hja : j < a := by omega
              have hne : a ≠ j := by omega
              simp [cellsRead, hk, hjk, hne, hja]
            · simp [cellsRead, hk, hjk]
      · have ih := cellsRead_write_from k v j h3
        by_cases hj : j = k
        · subst hj
          rename_i hge
          simp only [cellsRead, ha, hge, if_false, ih]
        · simp only [cellsRead, ih, hj, if_false]

/-- A read after a write: the value written at that address, what was there at every other. -/
theorem cellsRead_write {l : Cells w} (h : cellsWf d l = true) (k : Nat) (v : BitVec w) (j : Nat) :
    cellsRead d (cellsWrite d l k v) j = if j = k then v else cellsRead d l j :=
  cellsRead_write_from k v j h

theorem setBytes_wf : ∀ (bs : List Byte) (a : Nat) {m : ByteMem}, cellsWf zeroCell m = true → cellsWf zeroCell (setBytes m a bs) = true
  | [], _, _, h => h
  | b :: bs, a, _, h => setBytes_wf bs (a + 1) (cellsWf_write h a b)

theorem flashProgram_wf :
    ∀ (bs : List Byte) (a : Nat) {m : ByteMem}, cellsWf erasedCell m = true → cellsWf erasedCell (flashProgram m a bs) = true
  | [], _, _, h => h
  | b :: bs, a, _, h => flashProgram_wf bs (a + 1) (cellsWf_write h a b)

theorem flashClear_wf {m : ByteMem} (h : cellsWf erasedCell m = true) (a n : Nat) : cellsWf erasedCell (flashClear m a n) = true :=
  cellsWf_filter h _

/-- Writes in a row keep the canonical form. -/
theorem cellsWf_foldl {α : Type} (key : α → Nat) (val : α → BitVec w) : ∀ (l : List α) (m : Cells w), cellsWf d m = true →
    cellsWf d (l.foldl (fun m p => cellsWrite d m (key p) (val p)) m) = true
  | [], _, h => h
  | _ :: l, _, h => cellsWf_foldl key val l _ (cellsWf_write h _ _)

end Sys2Proof.Machine
end

