-- ==== Sys2Proof/Laws/Keeps.lean ====
section
/-!
SUPPORT. How `Keeps` composes: the relation is reflexive, holds of every update that leaves the stores, the part and the queue alone, and
passes through choices and folds. Each `<operation>_keeps` of the files `Keeps…` says that an operation keeps what a state before it
kept.
-/

namespace Sys2Proof.Machine

theorem Keeps.refl (s : State) : Keeps s s := ⟨rfl, rfl, rfl, Nat.le_refl _, id⟩

theorem Keeps.trans {a b c : State} (h : Keeps a b) (k : Keeps b c) : Keeps a c :=
  ⟨k.part.trans h.part, k.flashSize.trans h.flashSize, k.pending.trans h.pending, Nat.le_trans h.now k.now, fun w => k.wf (h.wf w)⟩

/-- The stores of a state, one by one. -/
theorem wf_iff (s : State) : Memory.wf s = true ↔
    cellsWf resetWord s.regs = true ∧ cellsWf erasedCell s.flash = true ∧ cellsWf zeroCell s.window = true ∧
      cellsWf zeroCell s.fwd.ncs = true ∧ cellsWf zeroCell s.fwd.eht = true ∧ cellsWf zeroCell s.fwd.hb = true ∧
      cellsWf zeroCell s.fwd.shadow = true ∧ cellsWf msixCell s.pcie.msix = true ∧ cellsWf zeroCell s.app.iram = true ∧
      cellsWf zeroCell s.app.dram = true := by
  simp only [Memory.wf, Bool.and_eq_true, and_assoc]

/-- An update that changes none of the stores. -/
theorem Keeps.same {s0 s t : State} (h : Keeps s0 s) (part : t.part = s.part) (flashSize : t.flashSize = s.flashSize)
    (pending : t.pending = s.pending) (now : s.now ≤ t.now) (regs : t.regs = s.regs) (flash : t.flash = s.flash)
    (window : t.window = s.window) (ncs : t.fwd.ncs = s.fwd.ncs) (eht : t.fwd.eht = s.fwd.eht) (hb : t.fwd.hb = s.fwd.hb)
    (shadow : t.fwd.shadow = s.fwd.shadow) (msix : t.pcie.msix = s.pcie.msix) (iram : t.app.iram = s.app.iram)
    (dram : t.app.dram = s.app.dram) : Keeps s0 t :=
  h.trans ⟨part, flashSize, pending, now, fun w => by
    rw [wf_iff] at w ⊢
    rw [regs, flash, window, ncs, eht, hb, shadow, msix, iram, dram]
    exact w⟩

variable {s0 s : State}

theorem wf_regs (w : Memory.wf s = true) : cellsWf resetWord s.regs = true := ((wf_iff s).1 w).1

theorem wf_flash (w : Memory.wf s = true) : cellsWf erasedCell s.flash = true := ((wf_iff s).1 w).2.1

theorem wf_window (w : Memory.wf s = true) : cellsWf zeroCell s.window = true := ((wf_iff s).1 w).2.2.1

theorem wf_ncs (w : Memory.wf s = true) : cellsWf zeroCell s.fwd.ncs = true := ((wf_iff s).1 w).2.2.2.1

theorem wf_eht (w : Memory.wf s = true) : cellsWf zeroCell s.fwd.eht = true := ((wf_iff s).1 w).2.2.2.2.1

theorem wf_hb (w : Memory.wf s = true) : cellsWf zeroCell s.fwd.hb = true := ((wf_iff s).1 w).2.2.2.2.2.1

theorem wf_shadow (w : Memory.wf s = true) : cellsWf zeroCell s.fwd.shadow = true := ((wf_iff s).1 w).2.2.2.2.2.2.1

theorem wf_msix (w : Memory.wf s = true) : cellsWf msixCell s.pcie.msix = true := ((wf_iff s).1 w).2.2.2.2.2.2.2.1

theorem wf_iram (w : Memory.wf s = true) : cellsWf zeroCell s.app.iram = true := ((wf_iff s).1 w).2.2.2.2.2.2.2.2.1

theorem wf_dram (w : Memory.wf s = true) : cellsWf zeroCell s.app.dram = true := ((wf_iff s).1 w).2.2.2.2.2.2.2.2.2

/-! ## One field -/

theorem Keeps.withRegs (h : Keeps s0 s) (x : RegFile) (hx : Memory.wf s = true → cellsWf resetWord x = true) :
    Keeps s0 { s with regs := x } :=
  h.trans ⟨rfl, rfl, rfl, Nat.le_refl _, fun w => by
    have k := hx w
    rw [wf_iff] at w ⊢
    exact ⟨k, w.2⟩⟩

theorem Keeps.withFlash (h : Keeps s0 s) (x : ByteMem) (hx : Memory.wf s = true → cellsWf erasedCell x = true) :
    Keeps s0 { s with flash := x } :=
  h.trans ⟨rfl, rfl, rfl, Nat.le_refl _, fun w => by
    have k := hx w
    rw [wf_iff] at w ⊢
    exact ⟨w.1, k, w.2.2⟩⟩

theorem Keeps.withWindow (h : Keeps s0 s) (x : ByteMem) (hx : Memory.wf s = true → cellsWf zeroCell x = true) :
    Keeps s0 { s with window := x } :=
  h.trans ⟨rfl, rfl, rfl, Nat.le_refl _, fun w => by
    have k := hx w
    rw [wf_iff] at w ⊢
    exact ⟨w.1, w.2.1, k, w.2.2.2⟩⟩

theorem Keeps.withFwd (h : Keeps s0 s) (x : FwdState)
    (hx : Memory.wf s = true → cellsWf zeroCell x.ncs = true ∧ cellsWf zeroCell x.eht = true ∧ cellsWf zeroCell x.hb = true ∧
      cellsWf zeroCell x.shadow = true) : Keeps s0 { s with fwd := x } :=
  h.trans ⟨rfl, rfl, rfl, Nat.le_refl _, fun w => by
    have k := hx w
    rw [wf_iff] at w ⊢
    exact ⟨w.1, w.2.1, w.2.2.1, k.1, k.2.1, k.2.2.1, k.2.2.2, w.2.2.2.2.2.2.2⟩⟩

theorem Keeps.withPcie (h : Keeps s0 s) (x : PcieState) (hx : Memory.wf s = true → cellsWf msixCell x.msix = true) :
    Keeps s0 { s with pcie := x } :=
  h.trans ⟨rfl, rfl, rfl, Nat.le_refl _, fun w => by
    have k := hx w
    rw [wf_iff] at w ⊢
    exact ⟨w.1, w.2.1, w.2.2.1, w.2.2.2.1, w.2.2.2.2.1, w.2.2.2.2.2.1, w.2.2.2.2.2.2.1, k, w.2.2.2.2.2.2.2.2⟩⟩

theorem Keeps.withApp (h : Keeps s0 s) (x : AppState)
    (hx : Memory.wf s = true → cellsWf zeroCell x.iram = true ∧ cellsWf zeroCell x.dram = true) : Keeps s0 { s with app := x } :=
  h.trans ⟨rfl, rfl, rfl, Nat.le_refl _, fun w => by
    have k := hx w
    rw [wf_iff] at w ⊢
    exact ⟨w.1, w.2.1, w.2.2.1, w.2.2.2.1, w.2.2.2.2.1, w.2.2.2.2.2.1, w.2.2.2.2.2.2.1, w.2.2.2.2.2.2.2.1, k⟩⟩

theorem Keeps.withNow (h : Keeps s0 s) (x : Nat) (hx : s.now ≤ x) : Keeps s0 { s with now := x } :=
  h.trans ⟨rfl, rfl, rfl, hx, id⟩

/-! ## Choices and folds -/

theorem Keeps.ite {s0 a b : State} {c : Prop} [Decidable c] (ha : Keeps s0 a) (hb : Keeps s0 b) : Keeps s0 (if c then a else b) := by
  split
  · exact ha
  · exact hb

theorem Keeps.ite_fst {α : Type} {s0 : State} {a b : State × α} {c : Prop} [Decidable c] (ha : Keeps s0 a.1) (hb : Keeps s0 b.1) :
    Keeps s0 (if c then a else b).1 := by
  split
  · exact ha
  · exact hb

theorem Keeps.fold {α : Type} {s0 : State} {f : State → α → State} {l : List α} {s : State} (h : Keeps s0 s)
    (hf : ∀ t x, Keeps s0 t → Keeps s0 (f t x)) : Keeps s0 (foldState f s l) := by
  induction l generalizing s with
  | nil => exact h
  | cons x l ih => exact ih (hf s x h)

theorem Keeps.of_pair {α : Type} {s0 : State} {x : State × α} {t : State} {a : α} (e : x = (t, a)) (h : Keeps s0 x.1) : Keeps s0 t := by
  subst e; exact h

theorem Keeps.foldl_fst {α β : Type} {s0 : State} {f : State × β → α → State × β} {l : List α} {acc : State × β} (h : Keeps s0 acc.1)
    (hf : ∀ a x, Keeps s0 a.1 → Keeps s0 (f a x).1) : Keeps s0 (l.foldl f acc).1 := by
  induction l generalizing acc with
  | nil => exact h
  | cons x l ih => exact ih (hf acc x h)

theorem Completes.next {s0 s : State} (h : Keeps s0 s) : Completes s0 (done s) := ⟨s, rfl, h⟩

theorem Completes.ite {s0 : State} {a b : Host.Outcome State Fault Refusal} {c : Prop} [Decidable c] (ha : Completes s0 a)
    (hb : Completes s0 b) : Completes s0 (if c then a else b) := by
  split
  · exact ha
  · exact hb

/-! ## Optional states -/

/-- The state that an operation may answer keeps what `Keeps` says. -/
structure OptKeeps (s0 : State) (o : Option State) : Prop where
  of : ∀ t, o = some t → Keeps s0 t

theorem OptKeeps.get {s0 t : State} {o : Option State} (h : OptKeeps s0 o) (e : o = some t) : Keeps s0 t := h.of t e

theorem OptKeeps.some {s0 s : State} (h : Keeps s0 s) : OptKeeps s0 (some s) := ⟨fun _ e => Option.some.inj e ▸ h⟩

theorem OptKeeps.none {s0 : State} : OptKeeps s0 none := ⟨fun _ e => nomatch e⟩

theorem OptKeeps.ite {s0 : State} {a b : Option State} {c : Prop} [Decidable c] (ha : OptKeeps s0 a) (hb : OptKeeps s0 b) :
    OptKeeps s0 (if c then a else b) := by
  split
  · exact ha
  · exact hb

theorem OptKeeps.map {α : Type} {s0 : State} {f : α → State} {o : Option α} (h : ∀ x, Keeps s0 (f x)) : OptKeeps s0 (o.map f) := by
  cases o with
  | none => exact OptKeeps.none
  | some x => exact OptKeeps.some (h x)

end Sys2Proof.Machine
end

