-- ==== Sys2Proof/Laws/KeepsOps.lean ====
section
/-!
SUPPORT. What the operations of Machine/Ops.lean keep (`Keeps`).
-/

namespace Sys2Proof.Machine

set_option linter.unusedVariables false
set_option linter.unusedTactic false
set_option linter.unreachableTactic false



theorem State.putRegs_keeps {s0 s : State} (h : Keeps s0 s) (x : RegFile)
    (hx : Memory.wf s = true → cellsWf resetWord x = true) : Keeps s0 (s.putRegs x) :=
  h.withRegs x hx

theorem State.set_keeps {s0 s : State} (h : Keeps s0 s) (f : Fld) (v : Nat) : Keeps s0 (s.set f v) :=
  State.putRegs_keeps h _ fun w => cellsWf_write (wf_regs w) _ _

theorem State.setBit_keeps {s0 s : State} (h : Keeps s0 s) (f : Fld) (b : Bool) : Keeps s0 (State.setBit s f b) := by
  unfold State.setBit
  repeat' first
    | (with_reducible assumption) | intro _ | (with_reducible apply State.set_keeps) | extract_lets | split | (dsimp -zeta only)
    | (dsimp +zetaDelta -zeta only)

theorem State.setI_keeps {s0 s : State} (h : Keeps s0 s) (f : Fld) (x : Int) : Keeps s0 (State.setI s f x) := by
  unfold State.setI
  repeat' first
    | (with_reducible assumption) | intro _ | (with_reducible apply State.set_keeps) | extract_lets | split | (dsimp -zeta only)
    | (dsimp +zetaDelta -zeta only)

theorem State.setWord_keeps {s0 s : State} (h : Keeps s0 s) (key : Nat) (w : Word) : Keeps s0 (s.setWord key w) :=
  State.putRegs_keeps h _ fun c => cellsWf_write (wf_regs c) _ _

theorem State.bumpBy_keeps {s0 s : State} (h : Keeps s0 s) (f : Fld) (n : Nat) : Keeps s0 (State.bumpBy s f n) := by
  unfold State.bumpBy
  repeat' first
    | (with_reducible assumption) | intro _ | (with_reducible apply State.set_keeps) | extract_lets | split | (dsimp -zeta only)
    | (dsimp +zetaDelta -zeta only)

theorem State.bump_keeps {s0 s : State} (h : Keeps s0 s) (f : Fld) : Keeps s0 (State.bump s f) := by
  unfold State.bump
  repeat' first
    | (with_reducible assumption) | intro _ | (with_reducible apply State.bumpBy_keeps) | extract_lets | split
    | (dsimp -zeta only) | (dsimp +zetaDelta -zeta only)

theorem State.bumpWrap_keeps {s0 s : State} (h : Keeps s0 s) (f : Fld) : Keeps s0 (State.bumpWrap s f) := by
  unfold State.bumpWrap
  repeat' first
    | (with_reducible assumption) | intro _ | (with_reducible apply State.set_keeps) | extract_lets | split | (dsimp -zeta only)
    | (dsimp +zetaDelta -zeta only)

theorem State.setBitAt_keeps {s0 s : State} (h : Keeps s0 s) (f : Fld) (i : Nat) (b : Bool) :
    Keeps s0 (State.setBitAt s f i b) := by
  unfold State.setBitAt
  repeat' first
    | (with_reducible assumption) | intro _ | (with_reducible apply State.set_keeps) | extract_lets | split | (dsimp -zeta only)
    | (dsimp +zetaDelta -zeta only)

theorem State.drew_keeps {s0 s : State} (h : Keeps s0 s) : Keeps s0 s.drew :=
  h.same rfl rfl rfl (Nat.le_refl _) rfl rfl rfl rfl rfl rfl rfl rfl rfl rfl

theorem State.putBoot_keeps {s0 s : State} (h : Keeps s0 s) (x : BootState) : Keeps s0 (s.putBoot x) :=
  h.same rfl rfl rfl (Nat.le_refl _) rfl rfl rfl rfl rfl rfl rfl rfl rfl rfl

theorem State.putEv_keeps {s0 s : State} (h : Keeps s0 s) (x : EventState) : Keeps s0 (s.putEv x) :=
  h.same rfl rfl rfl (Nat.le_refl _) rfl rfl rfl rfl rfl rfl rfl rfl rfl rfl

theorem State.putPcie_keeps {s0 s : State} (h : Keeps s0 s) (x : PcieState)
    (hx : Memory.wf s = true → cellsWf msixCell x.msix = true) : Keeps s0 (s.putPcie x) :=
  h.withPcie x hx

theorem State.putJesd_keeps {s0 s : State} (h : Keeps s0 s) (x : JesdState) : Keeps s0 (s.putJesd x) :=
  h.same rfl rfl rfl (Nat.le_refl _) rfl rfl rfl rfl rfl rfl rfl rfl rfl rfl

theorem State.putOsc_keeps {s0 s : State} (h : Keeps s0 s) (x : OscState) : Keeps s0 (s.putOsc x) :=
  h.same rfl rfl rfl (Nat.le_refl _) rfl rfl rfl rfl rfl rfl rfl rfl rfl rfl

theorem State.putImap_keeps {s0 s : State} (h : Keeps s0 s) (x : ImapState) : Keeps s0 (s.putImap x) :=
  h.same rfl rfl rfl (Nat.le_refl _) rfl rfl rfl rfl rfl rfl rfl rfl rfl rfl

theorem State.putPsm_keeps {s0 s : State} (h : Keeps s0 s) (x : PsmState) : Keeps s0 (s.putPsm x) :=
  h.same rfl rfl rfl (Nat.le_refl _) rfl rfl rfl rfl rfl rfl rfl rfl rfl rfl

theorem State.putDrift_keeps {s0 s : State} (h : Keeps s0 s) (x : DriftState) : Keeps s0 (s.putDrift x) :=
  h.same rfl rfl rfl (Nat.le_refl _) rfl rfl rfl rfl rfl rfl rfl rfl rfl rfl

theorem State.putFwd_keeps {s0 s : State} (h : Keeps s0 s) (x : FwdState)
    (hx : Memory.wf s = true → cellsWf zeroCell x.ncs = true ∧ cellsWf zeroCell x.eht = true ∧ cellsWf zeroCell x.hb = true ∧
      cellsWf zeroCell x.shadow = true) : Keeps s0 (s.putFwd x) :=
  h.withFwd x hx

theorem State.putSched_keeps {s0 s : State} (h : Keeps s0 s) (x : SchedState) : Keeps s0 (s.putSched x) :=
  h.same rfl rfl rfl (Nat.le_refl _) rfl rfl rfl rfl rfl rfl rfl rfl rfl rfl

theorem State.putTb_keeps {s0 s : State} (h : Keeps s0 s) (x : TimeState) : Keeps s0 (s.putTb x) :=
  h.same rfl rfl rfl (Nat.le_refl _) rfl rfl rfl rfl rfl rfl rfl rfl rfl rfl

theorem State.putSec_keeps {s0 s : State} (h : Keeps s0 s) (x : SecState) : Keeps s0 (s.putSec x) :=
  h.same rfl rfl rfl (Nat.le_refl _) rfl rfl rfl rfl rfl rfl rfl rfl rfl rfl

theorem State.putTree_keeps {s0 s : State} (h : Keeps s0 s) (x : TreeState) : Keeps s0 (s.putTree x) :=
  h.same rfl rfl rfl (Nat.le_refl _) rfl rfl rfl rfl rfl rfl rfl rfl rfl rfl

theorem State.putEth_keeps {s0 s : State} (h : Keeps s0 s) (x : EthState) : Keeps s0 (s.putEth x) :=
  h.same rfl rfl rfl (Nat.le_refl _) rfl rfl rfl rfl rfl rfl rfl rfl rfl rfl

theorem State.putApp_keeps {s0 s : State} (h : Keeps s0 s) (x : AppState)
    (hx : Memory.wf s = true → cellsWf zeroCell x.iram = true ∧ cellsWf zeroCell x.dram = true) : Keeps s0 (s.putApp x) :=
  h.withApp x hx

theorem State.putMi_keeps {s0 s : State} (h : Keeps s0 s) (x : MiState) : Keeps s0 (s.putMi x) :=
  h.same rfl rfl rfl (Nat.le_refl _) rfl rfl rfl rfl rfl rfl rfl rfl rfl rfl

theorem State.putPair_keeps {s0 s : State} (h : Keeps s0 s) (x : PairState) : Keeps s0 (s.putPair x) :=
  h.same rfl rfl rfl (Nat.le_refl _) rfl rfl rfl rfl rfl rfl rfl rfl rfl rfl

theorem State.putUpd_keeps {s0 s : State} (h : Keeps s0 s) (x : UpdState) : Keeps s0 (s.putUpd x) :=
  h.same rfl rfl rfl (Nat.le_refl _) rfl rfl rfl rfl rfl rfl rfl rfl rfl rfl

theorem State.putPwr_keeps {s0 s : State} (h : Keeps s0 s) (x : PowerState) : Keeps s0 (s.putPwr x) :=
  h.same rfl rfl rfl (Nat.le_refl _) rfl rfl rfl rfl rfl rfl rfl rfl rfl rfl

theorem State.putFlash_keeps {s0 s : State} (h : Keeps s0 s) (x : ByteMem)
    (hx : Memory.wf s = true → cellsWf erasedCell x = true) : Keeps s0 (s.putFlash x) :=
  h.withFlash x hx

theorem State.putWindow_keeps {s0 s : State} (h : Keeps s0 s) (x : ByteMem)
    (hx : Memory.wf s = true → cellsWf zeroCell x = true) : Keeps s0 (s.putWindow x) :=
  h.withWindow x hx

theorem State.putOtp_keeps {s0 s : State} (h : Keeps s0 s) (x : OtpState) : Keeps s0 (s.putOtp x) :=
  h.same rfl rfl rfl (Nat.le_refl _) rfl rfl rfl rfl rfl rfl rfl rfl rfl rfl

theorem State.putCpus_keeps {s0 s : State} (h : Keeps s0 s) (x : List (Nat × CpuState)) : Keeps s0 (s.putCpus x) :=
  h.same rfl rfl rfl (Nat.le_refl _) rfl rfl rfl rfl rfl rfl rfl rfl rfl rfl

theorem State.putHqs_keeps {s0 s : State} (h : Keeps s0 s) (x : List (Nat × HostQueueState)) : Keeps s0 (s.putHqs x) :=
  h.same rfl rfl rfl (Nat.le_refl _) rfl rfl rfl rfl rfl rfl rfl rfl rfl rfl

theorem State.later_keeps {s0 s : State} (h : Keeps s0 s) (ns : Nat) : Keeps s0 (s.later ns) :=
  h.withNow _ (Nat.le_add_right _ _)

theorem State.setPath_keeps {s0 s : State} (h : Keeps s0 s) (n : Nat) (p : PathState) : Keeps s0 (s.setPath n p) :=
  h.same rfl rfl rfl (Nat.le_refl _) rfl rfl rfl rfl rfl rfl rfl rfl rfl rfl

theorem State.setCe_keeps {s0 s : State} (h : Keeps s0 s) (n : Nat) (c : CeState) : Keeps s0 (s.setCe n c) :=
  h.same rfl rfl rfl (Nat.le_refl _) rfl rfl rfl rfl rfl rfl rfl rfl rfl rfl

theorem State.setTe_keeps {s0 s : State} (h : Keeps s0 s) (n : Nat) (t : TeState) : Keeps s0 (s.setTe n t) :=
  h.same rfl rfl rfl (Nat.le_refl _) rfl rfl rfl rfl rfl rfl rfl rfl rfl rfl

theorem State.setRing_keeps {s0 s : State} (h : Keeps s0 s) (r : Nat) (x : RingState) : Keeps s0 (s.setRing r x) :=
  h.same rfl rfl rfl (Nat.le_refl _) rfl rfl rfl rfl rfl rfl rfl rfl rfl rfl

theorem State.setTso_keeps {s0 s : State} (h : Keeps s0 s) (n : Nat) (x : TsoState) : Keeps s0 (s.setTso n x) :=
  h.same rfl rfl rfl (Nat.le_refl _) rfl rfl rfl rfl rfl rfl rfl rfl rfl rfl

theorem State.setGt_keeps {s0 s : State} (h : Keeps s0 s) (n : Nat) (x : GtState) : Keeps s0 (s.setGt n x) :=
  h.same rfl rfl rfl (Nat.le_refl _) rfl rfl rfl rfl rfl rfl rfl rfl rfl rfl

theorem State.setSnaps_keeps {s0 s : State} (h : Keeps s0 s) (q : Requester) (x : Snapshots) : Keeps s0 (s.setSnaps q x) :=
  h.same rfl rfl rfl (Nat.le_refl _) rfl rfl rfl rfl rfl rfl rfl rfl rfl rfl

theorem State.setQueue_keeps {s0 s : State} (h : Keeps s0 s) (q : Nat) (x : QueueState) : Keeps s0 (s.setQueue q x) :=
  h.same rfl rfl rfl (Nat.le_refl _) rfl rfl rfl rfl rfl rfl rfl rfl rfl rfl

theorem State.setHq_keeps {s0 s : State} (h : Keeps s0 s) (q : Nat) (x : HostQueueState) : Keeps s0 (s.setHq q x) :=
  h.same rfl rfl rfl (Nat.le_refl _) rfl rfl rfl rfl rfl rfl rfl rfl rfl rfl

theorem State.emit_keeps {s0 s : State} (h : Keeps s0 s) (o : Output) : Keeps s0 (s.emit o) :=
  h.same rfl rfl rfl (Nat.le_refl _) rfl rfl rfl rfl rfl rfl rfl rfl rfl rfl

theorem State.answer_keeps {s0 s : State} (h : Keeps s0 s) (q : Requester) (v : Nat) : Keeps s0 (s.answer q v) :=
  h.same rfl rfl rfl (Nat.le_refl _) rfl rfl rfl rfl rfl rfl rfl rfl rfl rfl

theorem State.advanceTo_keeps {s0 s : State} (h : Keeps s0 s) (t : Nat) : Keeps s0 (State.advanceTo s t) := by
  unfold State.advanceTo
  repeat' first
    | (with_reducible assumption) | intro _ | (with_reducible apply Keeps.ite) | (with_reducible apply Keeps.ite_fst)
    | (with_reducible apply State.later_keeps) | (with_reducible apply State.putTb_keeps) | extract_lets | split
    | (dsimp -zeta only) | (dsimp +zetaDelta -zeta only)

theorem State.elapse_keeps {s0 s : State} (h : Keeps s0 s) (ns : Nat) : Keeps s0 (State.elapse s ns) := by
  unfold State.elapse
  repeat' first
    | (with_reducible assumption) | intro _ | (with_reducible apply Keeps.ite) | (with_reducible apply Keeps.ite_fst)
    | (with_reducible apply State.advanceTo_keeps) | (with_reducible apply State.later_keeps) | extract_lets | split
    | (dsimp -zeta only) | (dsimp +zetaDelta -zeta only)

theorem State.reach_keeps {s0 s : State} (h : Keeps s0 s) (moment : Nat) : Keeps s0 (State.reach s moment) := by
  unfold State.reach
  repeat' first
    | (with_reducible assumption) | intro _ | (with_reducible apply State.elapse_keeps) | extract_lets | split
    | (dsimp -zeta only) | (dsimp +zetaDelta -zeta only)

theorem bootMs_keeps {s0 s : State} (h : Keeps s0 s) : Keeps s0 (bootMs s).1 := by
  unfold bootMs
  repeat' first
    | (with_reducible assumption) | intro _ | (with_reducible apply Keeps.ite) | (with_reducible apply Keeps.ite_fst)
    | (with_reducible apply State.drew_keeps) | extract_lets | split | (dsimp -zeta only) | (dsimp +zetaDelta -zeta only)

end Sys2Proof.Machine
end

