-- ==== Sys2Proof/Laws/Fields.lean ====
section
/-!
SUPPORT. Laws of register fields: reading a field that was written gives the value reduced to the field's width, and leaves every
field that shares no bit with it alone.
-/

namespace Sys2Proof.Machine

/-! ## Bit fields of a number -/

theorem natBits_eq_mod_div (v lo n : Nat) : natBits v lo n = v % 2 ^ (lo + n) / 2 ^ lo := by
  rw [natBits, pow_add, Nat.mod_mul_right_div_self]

theorem natSetBits_mod (v lo n x : Nat) : natSetBits v lo n x % 2 ^ lo = v % 2 ^ lo := by
  rw [natSetBits, pow_add, Nat.mul_comm (v / _), Nat.mul_assoc, Nat.add_mul_mod_self_left, Nat.add_mul_mod_self_right, Nat.mod_mod]

theorem natSetBits_low_lt (v lo n x : Nat) : v % 2 ^ lo + x % 2 ^ n * 2 ^ lo < 2 ^ (lo + n) := by
  have ha : v % 2 ^ lo < 2 ^ lo := Nat.mod_lt _ (Nat.two_pow_pos _)
  have hb : x % 2 ^ n + 1 ≤ 2 ^ n := Nat.mod_lt _ (Nat.two_pow_pos _)
  calc v % 2 ^ lo + x % 2 ^ n * 2 ^ lo < (x % 2 ^ n + 1) * 2 ^ lo := by rw [Nat.add_mul, Nat.one_mul]; omega
    _ ≤ 2 ^ n * 2 ^ lo := Nat.mul_le_mul_right _ hb
    _ = 2 ^ (lo + n) := by rw [pow_add, Nat.mul_comm]

theorem natSetBits_div (v lo n x : Nat) : natSetBits v lo n x / 2 ^ (lo + n) = v / 2 ^ (lo + n) := by
  rw [natSetBits, Nat.add_mul_div_right _ _ (Nat.two_pow_pos _), Nat.div_eq_of_lt (natSetBits_low_lt v lo n x), Nat.zero_add]

theorem natBits_natSetBits_self (v lo n x : Nat) : natBits (natSetBits v lo n x) lo n = x % 2 ^ n := by
  rw [natBits_eq_mod_div, natSetBits, Nat.add_mul_mod_self_right, Nat.mod_eq_of_lt (natSetBits_low_lt v lo n x),
    Nat.add_mul_div_right _ _ (Nat.two_pow_pos _), Nat.div_eq_of_lt (Nat.mod_lt _ (Nat.two_pow_pos _)), Nat.zero_add]

theorem natBits_natSetBits_below (v lo n x l m : Nat) (h : l + m ≤ lo) : natBits (natSetBits v lo n x) l m = natBits v l m := by
  have e : ∀ w, w % 2 ^ (l + m) = w % 2 ^ lo % 2 ^ (l + m) := fun w => (Nat.mod_mod_of_dvd w (pow_dvd_pow 2 h)).symm
  rw [natBits_eq_mod_div, natBits_eq_mod_div, e, natSetBits_mod, ← e]

theorem natBits_natSetBits_above (v lo n x l m : Nat) (h : lo + n ≤ l) : natBits (natSetBits v lo n x) l m = natBits v l m := by
  obtain ⟨k, rfl⟩ := Nat.exists_eq_add_of_le h
  rw [natBits, natBits, pow_add, ← Nat.div_div_eq_div_mul, ← Nat.div_div_eq_div_mul, natSetBits_div]

theorem natSetBits_lt (v lo n x w : Nat) (hv : v < 2 ^ w) (h : lo + n ≤ w) : natSetBits v lo n x < 2 ^ w := by
  obtain ⟨k, rfl⟩ := Nat.exists_eq_add_of_le h
  have hc : v / 2 ^ (lo + n) + 1 ≤ 2 ^ k := Nat.div_lt_of_lt_mul (by rwa [← pow_add])
  have := natSetBits_low_lt v lo n x
  calc natSetBits v lo n x < (v / 2 ^ (lo + n) + 1) * 2 ^ (lo + n) := by rw [natSetBits, Nat.add_mul, Nat.one_mul]; omega
    _ ≤ 2 ^ k * 2 ^ (lo + n) := Nat.mul_le_mul_right _ hc
    _ = 2 ^ (lo + n + k) := by rw [pow_add 2 (lo + n), Nat.mul_comm]

theorem natBits_lt (v lo n : Nat) : natBits v lo n < 2 ^ n := Nat.mod_lt _ (Nat.two_pow_pos _)

/-! ## Fields of a word -/

theorem setBits_toNat (w : Word) (lo n v : Nat) (h : lo + n ≤ 32) : (setBits w lo n v).toNat = natSetBits w.toNat lo n v := by
  rw [setBits, BitVec.toNat_ofNat, Nat.mod_eq_of_lt (natSetBits_lt _ _ _ _ _ w.isLt h)]

theorem getBits_setBits_self (w : Word) (lo n v : Nat) (h : lo + n ≤ 32) : getBits (setBits w lo n v) lo n = v % 2 ^ n := by
  rw [getBits, setBits_toNat _ _ _ _ h, natBits_natSetBits_self]

theorem getBits_setBits_ne (w : Word) (lo n v l m : Nat) (h : lo + n ≤ 32) (d : l + m ≤ lo ∨ lo + n ≤ l) :
    getBits (setBits w lo n v) l m = getBits w l m := by
  rw [getBits, getBits, setBits_toNat _ _ _ _ h]
  exact d.elim (natBits_natSetBits_below _ _ _ _ _ _) (natBits_natSetBits_above _ _ _ _ _ _)

/-! ## Fields of the register file -/

/-- Two fields share no bit. -/
abbrev Apart (f g : Fld) : Prop := f.key ≠ g.key ∨ g.lo + g.width ≤ f.lo ∨ f.lo + f.width ≤ g.lo

/-- A field lies inside its word. -/
abbrev Fits (f : Fld) : Prop := f.lo + f.width ≤ 32

variable {s : State}

theorem word_set (h : Memory.wf s = true) (f : Fld) (v key : Nat) :
    (s.set f v).word key = if key = f.key then setBits (s.word f.key) f.lo f.width v else s.word key :=
  cellsRead_write (wf_regs h) _ _ _

theorem word_setWord (h : Memory.wf s = true) (key : Nat) (w : Word) (k : Nat) :
    (s.setWord key w).word k = if k = key then w else s.word k :=
  cellsRead_write (wf_regs h) _ _ _

theorem get_eq_word (f : Fld) : s.get f = getBits (s.word f.key) f.lo f.width := rfl

theorem get_lt (f : Fld) : s.get f < 2 ^ f.width := natBits_lt _ _ _

theorem get_set_self (h : Memory.wf s = true) {f : Fld} (hf : Fits f) (v : Nat) : (s.set f v).get f = v % 2 ^ f.width := by
  rw [get_eq_word, word_set h, if_pos rfl, getBits_setBits_self _ _ _ _ hf]

theorem get_set_apart (h : Memory.wf s = true) {f g : Fld} (hf : Fits f) (hfg : Apart f g) (v : Nat) : (s.set f v).get g = s.get g := by
  rw [get_eq_word, word_set h]
  split
  · rename_i e
    rw [getBits_setBits_ne _ _ _ _ _ _ hf (hfg.resolve_left fun n => n e.symm), ← e]
    rfl
  · rfl

theorem get_setWord_key (h : Memory.wf s = true) {f : Fld} {key : Nat} (hk : f.key ≠ key) (w : Word) :
    (s.setWord key w).get f = s.get f := by
  rw [get_eq_word, word_setWord h, if_neg hk]
  rfl

theorem get_bump_self (h : Memory.wf s = true) {f : Fld} (hf : Fits f) : (s.bump f).get f = min (2 ^ f.width - 1) (s.get f + 1) := by
  rw [State.bump, State.bumpBy, get_set_self h hf]
  refine Nat.mod_eq_of_lt ?_
  have := Nat.two_pow_pos f.width
  omega

theorem get_bump_apart (h : Memory.wf s = true) {f g : Fld} (hf : Fits f) (hfg : Apart f g) : (s.bump f).get g = s.get g :=
  get_set_apart h hf hfg _

theorem bit_eq_get (f : Fld) : s.bit f = decide (s.get f = 1) := rfl

theorem bit_set_self (h : Memory.wf s = true) {f : Fld} (hf : Fits f) (v : Nat) : (s.set f v).bit f = decide (v % 2 ^ f.width = 1) := by
  rw [bit_eq_get, get_set_self h hf]

theorem bit_set_apart (h : Memory.wf s = true) {f g : Fld} (hf : Fits f) (hfg : Apart f g) (v : Nat) : (s.set f v).bit g = s.bit g := by
  rw [bit_eq_get, bit_eq_get, get_set_apart h hf hfg]

/-! ## The canonical form along updates -/

theorem wf_keeps {t : State} (k : Keeps s t) (h : Memory.wf s = true) : Memory.wf t = true := k.wf h

theorem wf_set (h : Memory.wf s = true) (f : Fld) (v : Nat) : Memory.wf (s.set f v) = true :=
  (State.set_keeps (Keeps.refl s) f v).wf h

theorem wf_setWord (h : Memory.wf s = true) (key : Nat) (w : Word) : Memory.wf (s.setWord key w) = true :=
  (State.setWord_keeps (Keeps.refl s) key w).wf h

theorem wf_bump (h : Memory.wf s = true) (f : Fld) : Memory.wf (s.bump f) = true := wf_set h f _

theorem wf_same {t : State} (h : Memory.wf s = true) (e : Memory.wf t = Memory.wf s) : Memory.wf t = true := e.trans h

end Sys2Proof.Machine
end

