-- ==== Sys2Proof/Laws/Frame.lean ====
section
/-!
SUPPORT. How component frames compose. `Frame m s t` says that `t` differs from `s` in no component outside the set that the bits of `m`
name; each `<operation>_frame` of the files `Frame…` says which components an operation may change.
-/

namespace Sys2Proof.Machine

/-- The place of a component in a set. -/
def Comp.bit : Comp → Nat
  | .regs => 0
  | .boot => 1
  | .flash => 2
  | .window => 3
  | .otp => 4
  | .ev => 5
  | .pcie => 6
  | .hqs => 7
  | .paths => 8
  | .jesd => 9
  | .osc => 10
  | .ces => 11
  | .tes => 12
  | .imap => 13
  | .psm => 14
  | .drift => 15
  | .fwd => 16
  | .sched => 17
  | .queues => 18
  | .tb => 19
  | .sec => 20
  | .tree => 21
  | .eth => 22
  | .app => 23
  | .cpus => 24
  | .mi => 25
  | .pair => 26
  | .upd => 27
  | .pwr => 28
  | .snaps => 29
  | .now => 30
  | .draws => 31
  | .out => 32
  | .reply => 33

/-- The set `a` lies inside the set `b`. -/
def sub (a b : Nat) : Bool := Nat.beq (a &&& b) a

theorem sub_iff {a b : Nat} : sub a b = true ↔ a &&& b = a := ⟨Nat.eq_of_beq_eq_true, fun e => by rw [sub, e, Nat.beq_refl]⟩

theorem sub_trans {a b c : Nat} (h : sub a b = true) (k : sub b c = true) : sub a c = true := by
  rw [sub_iff] at *
  rw [← h, Nat.and_assoc, k]

theorem testBit_of_sub {a b i : Nat} (h : sub a b = true) (k : b.testBit i = false) : a.testBit i = false := by
  rw [sub_iff] at h
  rw [← h, Nat.testBit_and, k, Bool.and_false]

/-- No component outside `m` changes from `s` to `t`. -/
structure Frame (m : Nat) (s t : State) : Prop where
  of : ∀ c : Comp, m.testBit c.bit = false → c.same s t

theorem Comp.same_refl (c : Comp) (s : State) : c.same s s := by cases c <;> rfl

theorem Comp.same_trans {c : Comp} {s t u : State} (h : c.same s t) (k : c.same t u) : c.same s u := by
  cases c <;> exact Eq.trans k h

theorem Frame.refl (m : Nat) (s : State) : Frame m s s := ⟨fun c _ => c.same_refl s⟩

theorem Frame.step {m k : Nat} {s0 s t : State} (h : Frame m s0 s) (hm : sub k m = true)
    (hs : ∀ c : Comp, k.testBit c.bit = false → c.same s t) : Frame m s0 t :=
  ⟨fun c hc => Comp.same_trans (h.of c hc) (hs c (testBit_of_sub hm hc))⟩

theorem Frame.ite {m : Nat} {s0 a b : State} {c : Prop} [Decidable c] (ha : Frame m s0 a) (hb : Frame m s0 b) :
    Frame m s0 (if c then a else b) := by
  split
  · exact ha
  · exact hb

theorem Frame.ite_fst {α : Type} {m : Nat} {s0 : State} {a b : State × α} {c : Prop} [Decidable c] (ha : Frame m s0 a.1)
    (hb : Frame m s0 b.1) : Frame m s0 (if c then a else b).1 := by
  split
  · exact ha
  · exact hb

theorem Frame.fold {α : Type} {m : Nat} {s0 : State} {f : State → α → State} {l : List α} {s : State} (h : Frame m s0 s)
    (hf : ∀ t x, Frame m s0 t → Frame m s0 (f t x)) : Frame m s0 (foldState f s l) := by
  induction l generalizing s with
  | nil => exact h
  | cons x l ih => exact ih (hf s x h)

theorem Frame.of_pair {α : Type} {m : Nat} {s0 : State} {x : State × α} {t : State} {a : α} (e : x = (t, a)) (h : Frame m s0 x.1) :
    Frame m s0 t := by
  subst e; exact h

theorem Frame.foldl_fst {α β : Type} {m : Nat} {s0 : State} {f : State × β → α → State × β} {l : List α} {acc : State × β}
    (h : Frame m s0 acc.1) (hf : ∀ a x, Frame m s0 a.1 → Frame m s0 (f a x).1) : Frame m s0 (l.foldl f acc).1 := by
  induction l generalizing acc with
  | nil => exact h
  | cons x l ih => exact ih (hf acc x h)

/-- The next state of an outcome, if it is one, changes no component outside `m`. -/
structure OutFrame (m : Nat) (s0 : State) (o : Host.Outcome State Fault Refusal) : Prop where
  of : ∀ t, o = .next t → Frame m s0 t

theorem OutFrame.next {m : Nat} {s0 s : State} (h : Frame m s0 s) : OutFrame m s0 (done s) :=
  ⟨fun _ e => by cases e; exact h⟩

theorem OutFrame.ite {m : Nat} {s0 : State} {a b : Host.Outcome State Fault Refusal} {c : Prop} [Decidable c] (ha : OutFrame m s0 a)
    (hb : OutFrame m s0 b) : OutFrame m s0 (if c then a else b) := by
  split
  · exact ha
  · exact hb

/-- The state that an operation may answer changes no component outside `m`. -/
structure OptFrame (m : Nat) (s0 : State) (o : Option State) : Prop where
  of : ∀ t, o = some t → Frame m s0 t

theorem OptFrame.get {m : Nat} {s0 t : State} {o : Option State} (h : OptFrame m s0 o) (e : o = some t) : Frame m s0 t := h.of t e

theorem OptFrame.some {m : Nat} {s0 s : State} (h : Frame m s0 s) : OptFrame m s0 (some s) := ⟨fun _ e => Option.some.inj e ▸ h⟩

theorem OptFrame.none {m : Nat} {s0 : State} : OptFrame m s0 none := ⟨fun _ e => nomatch e⟩

theorem OptFrame.ite {m : Nat} {s0 : State} {a b : Option State} {c : Prop} [Decidable c] (ha : OptFrame m s0 a) (hb : OptFrame m s0 b) :
    OptFrame m s0 (if c then a else b) := by
  split
  · exact ha
  · exact hb

theorem OptFrame.map {α : Type} {m : Nat} {s0 : State} {f : α → State} {o : Option α} (h : ∀ x, Frame m s0 (f x)) :
    OptFrame m s0 (o.map f) := by
  cases o with
  | none => exact OptFrame.none
  | some x => exact OptFrame.some (h x)

end Sys2Proof.Machine
end

