-- ==== Sys2Proof/Laws/FrameOps.lean ====
section
/-!
SUPPORT. Which components the operations of Machine/Ops.lean may change (`Frame`).
-/

namespace Sys2Proof.Machine

set_option linter.unusedVariables false
set_option linter.unusedTactic false
set_option linter.unreachableTactic false

theorem done_frame {m : Nat} {s0 s : State} (hm : sub 0x0 m = true) (h : Frame m s0 s) :
    OutFrame m s0 (done s) := by
  unfold done
  repeat' first
    | (with_reducible assumption) | (exact sub_trans rfl hm) | intro _ | (with_reducible apply OutFrame.next)
    | (with_reducible apply OutFrame.ite) | extract_lets | split | (dsimp -zeta only) | (dsimp +zetaDelta -zeta only)

theorem State.putRegs_frame {m : Nat} {s0 s : State} (hm : sub 0x1 m = true) (h : Frame m s0 s) (x : RegFile) :
    Frame m s0 (State.putRegs s x) :=
  h.step hm fun c hc => by cases c <;> first | rfl | cases hc

theorem State.set_frame {m : Nat} {s0 s : State} (hm : sub 0x1 m = true) (h : Frame m s0 s) (f : Fld) (v : Nat) :
    Frame m s0 (State.set s f v) := by
  unfold State.set
  repeat' first
    | (with_reducible assumption) | (exact sub_trans rfl hm) | intro _ | (with_reducible apply State.putRegs_frame)
    | extract_lets | split | (dsimp -zeta only) | (dsimp +zetaDelta -zeta only)

theorem State.setBit_frame {m : Nat} {s0 s : State} (hm : sub 0x1 m = true) (h : Frame m s0 s) (f : Fld) (b : Bool) :
    Frame m s0 (State.setBit s f b) := by
  unfold State.setBit
  repeat' first
    | (with_reducible assumption) | (exact sub_trans rfl hm) | intro _ | (with_reducible apply State.set_frame) | extract_lets
    | split | (dsimp -zeta only) | (dsimp +zetaDelta -zeta only)

theorem State.setI_frame {m : Nat} {s0 s : State} (hm : sub 0x1 m = true) (h : Frame m s0 s) (f : Fld) (x : Int) :
    Frame m s0 (State.setI s f x) := by
  unfold State.setI
  repeat' first
    | (with_reducible assumption) | (exact sub_trans rfl hm) | intro _ | (with_reducible apply State.set_frame) | extract_lets
    | split | (dsimp -zeta only) | (dsimp +zetaDelta -zeta only)

theorem State.setWord_frame {m : Nat} {s0 s : State} (hm : sub 0x1 m = true) (h : Frame m s0 s) (key : Nat) (w : Word) :
    Frame m s0 (State.setWord s key w) := by
  unfold State.setWord
  repeat' first
    | (with_reducible assumption) | (exact sub_trans rfl hm) | intro _ | (with_reducible apply State.putRegs_frame)
    | extract_lets | split | (dsimp -zeta only) | (dsimp +zetaDelta -zeta only)

theorem State.bumpBy_frame {m : Nat} {s0 s : State} (hm : sub 0x1 m = true) (h : Frame m s0 s) (f : Fld) (n : Nat) :
    Frame m s0 (State.bumpBy s f n) := by
  unfold State.bumpBy
  repeat' first
    | (with_reducible assumption) | (exact sub_trans rfl hm) | intro _ | (with_reducible apply State.set_frame) | extract_lets
    | split | (dsimp -zeta only) | (dsimp +zetaDelta -zeta only)

theorem State.bump_frame {m : Nat} {s0 s : State} (hm : sub 0x1 m = true) (h : Frame m s0 s) (f : Fld) :
    Frame m s0 (State.bump s f) := by
  unfold State.bump
  repeat' first
    | (with_reducible assumption) | (exact sub_trans rfl hm) | intro _ | (with_reducible apply State.bumpBy_frame)
    | extract_lets | split | (dsimp -zeta only) | (dsimp +zetaDelta -zeta only)

theorem State.bumpWrap_frame {m : Nat} {s0 s : State} (hm : sub 0x1 m = true) (h : Frame m s0 s) (f : Fld) :
    Frame m s0 (State.bumpWrap s f) := by
  unfold State.bumpWrap
  repeat' first
    | (with_reducible assumption) | (exact sub_trans rfl hm) | intro _ | (with_reducible apply State.set_frame) | extract_lets
    | split | (dsimp -zeta only) | (dsimp +zetaDelta -zeta only)

theorem State.setBitAt_frame {m : Nat} {s0 s : State} (hm : sub 0x1 m = true) (h : Frame m s0 s) (f : Fld) (i : Nat) (b : Bool) :
    Frame m s0 (State.setBitAt s f i b) := by
  unfold State.setBitAt
  repeat' first
    | (with_reducible assumption) | (exact sub_trans rfl hm) | intro _ | (with_reducible apply State.set_frame) | extract_lets
    | split | (dsimp -zeta only) | (dsimp +zetaDelta -zeta only)

theorem State.drew_frame {m : Nat} {s0 s : State} (hm : sub 0x80000000 m = true) (h : Frame m s0 s)  :
    Frame m s0 (State.drew s) :=
  h.step hm fun c hc => by cases c <;> first | rfl | cases hc

theorem State.putBoot_frame {m : Nat} {s0 s : State} (hm : sub 0x2 m = true) (h : Frame m s0 s) (x : BootState) :
    Frame m s0 (State.putBoot s x) :=
  h.step hm fun c hc => by cases c <;> first | rfl | cases hc

theorem State.putEv_frame {m : Nat} {s0 s : State} (hm : sub 0x20 m = true) (h : Frame m s0 s) (x : EventState) :
    Frame m s0 (State.putEv s x) :=
  h.step hm fun c hc => by cases c <;> first | rfl | cases hc

theorem State.putPcie_frame {m : Nat} {s0 s : State} (hm : sub 0x40 m = true) (h : Frame m s0 s) (x : PcieState) :
    Frame m s0 (State.putPcie s x) :=
  h.step hm fun c hc => by cases c <;> first | rfl | cases hc

theorem State.putJesd_frame {m : Nat} {s0 s : State} (hm : sub 0x200 m = true) (h : Frame m s0 s) (x : JesdState) :
    Frame m s0 (State.putJesd s x) :=
  h.step hm fun c hc => by cases c <;> first | rfl | cases hc

theorem State.putOsc_frame {m : Nat} {s0 s : State} (hm : sub 0x400 m = true) (h : Frame m s0 s) (x : OscState) :
    Frame m s0 (State.putOsc s x) :=
  h.step hm fun c hc => by cases c <;> first | rfl | cases hc

theorem State.putImap_frame {m : Nat} {s0 s : State} (hm : sub 0x2000 m = true) (h : Frame m s0 s) (x : ImapState) :
    Frame m s0 (State.putImap s x) :=
  h.step hm fun c hc => by cases c <;> first | rfl | cases hc

theorem State.putPsm_frame {m : Nat} {s0 s : State} (hm : sub 0x4000 m = true) (h : Frame m s0 s) (x : PsmState) :
    Frame m s0 (State.putPsm s x) :=
  h.step hm fun c hc => by cases c <;> first | rfl | cases hc

theorem State.putDrift_frame {m : Nat} {s0 s : State} (hm : sub 0x8000 m = true) (h : Frame m s0 s) (x : DriftState) :
    Frame m s0 (State.putDrift s x) :=
  h.step hm fun c hc => by cases c <;> first | rfl | cases hc

theorem State.putFwd_frame {m : Nat} {s0 s : State} (hm : sub 0x10000 m = true) (h : Frame m s0 s) (x : FwdState) :
    Frame m s0 (State.putFwd s x) :=
  h.step hm fun c hc => by cases c <;> first | rfl | cases hc

theorem State.putSched_frame {m : Nat} {s0 s : State} (hm : sub 0x20000 m = true) (h : Frame m s0 s) (x : SchedState) :
    Frame m s0 (State.putSched s x) :=
  h.step hm fun c hc => by cases c <;> first | rfl | cases hc

theorem State.putTb_frame {m : Nat} {s0 s : State} (hm : sub 0x80000 m = true) (h : Frame m s0 s) (x : TimeState) :
    Frame m s0 (State.putTb s x) :=
  h.step hm fun c hc => by cases c <;> first | rfl | cases hc

theorem State.putSec_frame {m : Nat} {s0 s : State} (hm : sub 0x100000 m = true) (h : Frame m s0 s) (x : SecState) :
    Frame m s0 (State.putSec s x) :=
  h.step hm fun c hc => by cases c <;> first | rfl | cases hc

theorem State.putTree_frame {m : Nat} {s0 s : State} (hm : sub 0x200000 m = true) (h : Frame m s0 s) (x : TreeState) :
    Frame m s0 (State.putTree s x) :=
  h.step hm fun c hc => by cases c <;> first | rfl | cases hc

theorem State.putEth_frame {m : Nat} {s0 s : State} (hm : sub 0x400000 m = true) (h : Frame m s0 s) (x : EthState) :
    Frame m s0 (State.putEth s x) :=
  h.step hm fun c hc => by cases c <;> first | rfl | cases hc

theorem State.putApp_frame {m : Nat} {s0 s : State} (hm : sub 0x800000 m = true) (h : Frame m s0 s) (x : AppState) :
    Frame m s0 (State.putApp s x) :=
  h.step hm fun c hc => by cases c <;> first | rfl | cases hc

theorem State.putMi_frame {m : Nat} {s0 s : State} (hm : sub 0x2000000 m = true) (h : Frame m s0 s) (x : MiState) :
    Frame m s0 (State.putMi s x) :=
  h.step hm fun c hc => by cases c <;> first | rfl | cases hc

theorem State.putPair_frame {m : Nat} {s0 s : State} (hm : sub 0x4000000 m = true) (h : Frame m s0 s) (x : PairState) :
    Frame m s0 (State.putPair s x) :=
  h.step hm fun c hc => by cases c <;> first | rfl | cases hc

theorem State.putUpd_frame {m : Nat} {s0 s : State} (hm : sub 0x8000000 m = true) (h : Frame m s0 s) (x : UpdState) :
    Frame m s0 (State.putUpd s x) :=
  h.step hm fun c hc => by cases c <;> first | rfl | cases hc

theorem State.putPwr_frame {m : Nat} {s0 s : State} (hm : sub 0x10000000 m = true) (h : Frame m s0 s) (x : PowerState) :
    Frame m s0 (State.putPwr s x) :=
  h.step hm fun c hc => by cases c <;> first | rfl | cases hc

theorem State.putFlash_frame {m : Nat} {s0 s : State} (hm : sub 0x4 m = true) (h : Frame m s0 s) (x : ByteMem) :
    Frame m s0 (State.putFlash s x) :=
  h.step hm fun c hc => by cases c <;> first | rfl | cases hc

theorem State.putWindow_frame {m : Nat} {s0 s : State} (hm : sub 0x8 m = true) (h : Frame m s0 s) (x : ByteMem) :
    Frame m s0 (State.putWindow s x) :=
  h.step hm fun c hc => by cases c <;> first | rfl | cases hc

theorem State.putOtp_frame {m : Nat} {s0 s : State} (hm : sub 0x10 m = true) (h : Frame m s0 s) (x : OtpState) :
    Frame m s0 (State.putOtp s x) :=
  h.step hm fun c hc => by cases c <;> first | rfl | cases hc

theorem State.putCpus_frame {m : Nat} {s0 s : State} (hm : sub 0x1000000 m = true) (h : Frame m s0 s) (x : List (Nat × CpuState)) :
    Frame m s0 (State.putCpus s x) :=
  h.step hm fun c hc => by cases c <;> first | rfl | cases hc

theorem State.putHqs_frame {m : Nat} {s0 s : State} (hm : sub 0x80 m = true) (h : Frame m s0 s) (x : List (Nat × HostQueueState)) :
    Frame m s0 (State.putHqs s x) :=
  h.step hm fun c hc => by cases c <;> first | rfl | cases hc

theorem State.later_frame {m : Nat} {s0 s : State} (hm : sub 0x40000000 m = true) (h : Frame m s0 s) (ns : Nat) :
    Frame m s0 (State.later s ns) :=
  h.step hm fun c hc => by cases c <;> first | rfl | cases hc

theorem State.setPath_frame {m : Nat} {s0 s : State} (hm : sub 0x100 m = true) (h : Frame m s0 s) (n : Nat) (p : PathState) :
    Frame m s0 (State.setPath s n p) :=
  h.step hm fun c hc => by cases c <;> first | rfl | cases hc

theorem State.setCe_frame {m : Nat} {s0 s : State} (hm : sub 0x800 m = true) (h : Frame m s0 s) (n : Nat) (c : CeState) :
    Frame m s0 (State.setCe s n c) :=
  h.step hm fun c hc => by cases c <;> first | rfl | cases hc

theorem State.setTe_frame {m : Nat} {s0 s : State} (hm : sub 0x1000 m = true) (h : Frame m s0 s) (n : Nat) (t : TeState) :
    Frame m s0 (State.setTe s n t) :=
  h.step hm fun c hc => by cases c <;> first | rfl | cases hc

theorem State.setRing_frame {m : Nat} {s0 s : State} (hm : sub 0x20 m = true) (h : Frame m s0 s) (r : Nat) (x : RingState) :
    Frame m s0 (State.setRing s r x) := by
  unfold State.setRing
  repeat' first
    | (with_reducible assumption) | (exact sub_trans rfl hm) | intro _ | (with_reducible apply State.putEv_frame) | extract_lets
    | split | (dsimp -zeta only) | (dsimp +zetaDelta -zeta only)

theorem State.setTso_frame {m : Nat} {s0 s : State} (hm : sub 0x80000 m = true) (h : Frame m s0 s) (n : Nat) (x : TsoState) :
    Frame m s0 (State.setTso s n x) := by
  unfold State.setTso
  repeat' first
    | (with_reducible assumption) | (exact sub_trans rfl hm) | intro _ | (with_reducible apply State.putTb_frame) | extract_lets
    | split | (dsimp -zeta only) | (dsimp +zetaDelta -zeta only)

theorem State.setGt_frame {m : Nat} {s0 s : State} (hm : sub 0x80000 m = true) (h : Frame m s0 s) (n : Nat) (x : GtState) :
    Frame m s0 (State.setGt s n x) := by
  unfold State.setGt
  repeat' first
    | (with_reducible assumption) | (exact sub_trans rfl hm) | intro _ | (with_reducible apply State.putTb_frame) | extract_lets
    | split | (dsimp -zeta only) | (dsimp +zetaDelta -zeta only)

theorem State.setSnaps_frame {m : Nat} {s0 s : State} (hm : sub 0x20000000 m = true) (h : Frame m s0 s) (q : Requester) (x : Snapshots) :
    Frame m s0 (State.setSnaps s q x) :=
  h.step hm fun c hc => by cases c <;> first | rfl | cases hc

theorem State.setQueue_frame {m : Nat} {s0 s : State} (hm : sub 0x40000 m = true) (h : Frame m s0 s) (q : Nat) (x : QueueState) :
    Frame m s0 (State.setQueue s q x) :=
  h.step hm fun c hc => by cases c <;> first | rfl | cases hc

theorem State.setHq_frame {m : Nat} {s0 s : State} (hm : sub 0x80 m = true) (h : Frame m s0 s) (q : Nat) (x : HostQueueState) :
    Frame m s0 (State.setHq s q x) :=
  h.step hm fun c hc => by cases c <;> first | rfl | cases hc

theorem State.emit_frame {m : Nat} {s0 s : State} (hm : sub 0x100000000 m = true) (h : Frame m s0 s) (o : Output) :
    Frame m s0 (State.emit s o) :=
  h.step hm fun c hc => by cases c <;> first | rfl | cases hc

theorem State.answer_frame {m : Nat} {s0 s : State} (hm : sub 0x200000000 m = true) (h : Frame m s0 s) (q : Requester) (v : Nat) :
    Frame m s0 (State.answer s q v) :=
  h.step hm fun c hc => by cases c <;> first | rfl | cases hc

theorem State.advanceTo_frame {m : Nat} {s0 s : State} (hm : sub 0x40080000 m = true) (h : Frame m s0 s) (t : Nat) :
    Frame m s0 (State.advanceTo s t) := by
  unfold State.advanceTo
  repeat' first
    | (with_reducible assumption) | (exact sub_trans rfl hm) | intro _ | (with_reducible apply Frame.ite)
    | (with_reducible apply Frame.ite_fst) | (with_reducible apply State.later_frame) | (with_reducible apply State.putTb_frame)
    | extract_lets | split | (dsimp -zeta only) | (dsimp +zetaDelta -zeta only)

theorem State.elapse_frame {m : Nat} {s0 s : State} (hm : sub 0x40080000 m = true) (h : Frame m s0 s) (ns : Nat) :
    Frame m s0 (State.elapse s ns) := by
  unfold State.elapse
  repeat' first
    | (with_reducible assumption) | (exact sub_trans rfl hm) | intro _ | (with_reducible apply Frame.ite)
    | (with_reducible apply Frame.ite_fst) | (with_reducible apply State.advanceTo_frame)
    | (with_reducible apply State.later_frame) | extract_lets | split | (dsimp -zeta only) | (dsimp +zetaDelta -zeta only)

theorem State.reach_frame {m : Nat} {s0 s : State} (hm : sub 0x40080000 m = true) (h : Frame m s0 s) (moment : Nat) :
    Frame m s0 (State.reach s moment) := by
  unfold State.reach
  repeat' first
    | (with_reducible assumption) | (exact sub_trans rfl hm) | intro _ | (with_reducible apply State.elapse_frame)
    | extract_lets | split | (dsimp -zeta only) | (dsimp +zetaDelta -zeta only)

theorem bootMs_frame {m : Nat} {s0 s : State} (hm : sub 0x80000000 m = true) (h : Frame m s0 s) :
    Frame m s0 (bootMs s).1 := by
  unfold bootMs
  repeat' first
    | (with_reducible assumption) | (exact sub_trans rfl hm) | intro _ | (with_reducible apply Frame.ite)
    | (with_reducible apply Frame.ite_fst) | (with_reducible apply State.drew_frame) | extract_lets | split | (dsimp -zeta only)
    | (dsimp +zetaDelta -zeta only)

end Sys2Proof.Machine
end

