-- ==== Sys2Proof/Laws/FrameQueueOps.lean ====
section
/-!
SUPPORT. Which components the operations of Machine/QueueOps.lean may change (`Frame`).
-/

namespace Sys2Proof.Machine

set_option linter.unusedVariables false
set_option linter.unusedTactic false
set_option linter.unreachableTactic false

theorem viewQueue_frame {m : Nat} {s0 s : State} (hm : sub 0x1 m = true) (h : Frame m s0 s) (q : Nat) :
    Frame m s0 (viewQueue s q) := by
  unfold viewQueue
  repeat' first
    | (with_reducible assumption) | (exact sub_trans rfl hm) | intro _ | (with_reducible apply State.set_frame)
    | (with_reducible apply Frame.fold) | extract_lets | split | (dsimp -zeta only) | (dsimp +zetaDelta -zeta only)

theorem putQueue_frame {m : Nat} {s0 s : State} (hm : sub 0x40001 m = true) (h : Frame m s0 s) (q : Nat) (x : QueueState) :
    Frame m s0 (putQueue s q x) := by
  unfold putQueue
  repeat' first
    | (with_reducible assumption) | (exact sub_trans rfl hm) | intro _ | (with_reducible apply viewQueue_frame)
    | (with_reducible apply State.setQueue_frame) | extract_lets | split | (dsimp -zeta only) | (dsimp +zetaDelta -zeta only)

theorem countReceived_frame {m : Nat} {s0 s : State} (hm : sub 0x1 m = true) (h : Frame m s0 s) (q l : Nat) (i : QueueItem) :
    Frame m s0 (countReceived s q l i) := by
  unfold countReceived
  repeat' first
    | (with_reducible assumption) | (exact sub_trans rfl hm) | intro _ | (with_reducible apply Frame.ite)
    | (with_reducible apply Frame.ite_fst) | (with_reducible apply State.bump_frame) | extract_lets | split | (dsimp -zeta only)
    | (dsimp +zetaDelta -zeta only)

theorem pushItem_frame {m : Nat} {s0 s : State} (hm : sub 0x40001 m = true) (h : Frame m s0 s) (q l : Nat) (i : QueueItem) :
    Frame m s0 (pushItem s q l i) := by
  unfold pushItem
  repeat' first
    | (with_reducible assumption) | (exact sub_trans rfl hm) | intro _ | (with_reducible apply Frame.ite)
    | (with_reducible apply Frame.ite_fst) | (with_reducible apply countReceived_frame) | (with_reducible apply putQueue_frame)
    | extract_lets | split | (dsimp -zeta only) | (dsimp +zetaDelta -zeta only)

theorem popItem_frame {m : Nat} {s0 s : State} (hm : sub 0x40001 m = true) (h : Frame m s0 s) (q : Nat) :
    Frame m s0 (popItem s q).1 := by
  unfold popItem
  repeat' first
    | (with_reducible assumption) | (exact sub_trans rfl hm) | intro _ | (with_reducible apply Frame.ite)
    | (with_reducible apply Frame.ite_fst) | (with_reducible apply putQueue_frame) | extract_lets | split | (dsimp -zeta only)
    | (dsimp +zetaDelta -zeta only)

end Sys2Proof.Machine
end

