-- ==== Sys2Proof/Laws/FrameAicOps.lean ====
section
/-!
SUPPORT. Which components the operations of Machine/AicOps.lean may change (`Frame`).
-/

namespace Sys2Proof.Machine

set_option linter.unusedVariables false
set_option linter.unusedTactic false
set_option linter.unreachableTactic false

theorem setPending_frame {m : Nat} {s0 s : State} (hm : sub 0x1 m = true) (h : Frame m s0 s) (src : Nat) (b : Bool) :
    Frame m s0 (setPending s src b) := by
  unfold setPending
  repeat' first
    | (with_reducible assumption) | (exact sub_trans rfl hm) | intro _ | (with_reducible apply Frame.ite)
    | (with_reducible apply Frame.ite_fst) | (with_reducible apply State.setBitAt_frame) | extract_lets | split
    | (dsimp -zeta only) | (dsimp +zetaDelta -zeta only)

theorem setActive_frame {m : Nat} {s0 s : State} (hm : sub 0x1 m = true) (h : Frame m s0 s) (src : Nat) (b : Bool) :
    Frame m s0 (setActive s src b) := by
  unfold setActive
  repeat' first
    | (with_reducible assumption) | (exact sub_trans rfl hm) | intro _ | (with_reducible apply State.setBitAt_frame)
    | extract_lets | split | (dsimp -zeta only) | (dsimp +zetaDelta -zeta only)

theorem aicExpire_frame {m : Nat} {s0 s : State} (hm : sub 0x800001 m = true) (h : Frame m s0 s) :
    Frame m s0 (aicExpire s) := by
  unfold aicExpire
  repeat' first
    | (with_reducible assumption) | (exact sub_trans rfl hm) | intro _ | (with_reducible apply Frame.ite)
    | (with_reducible apply Frame.ite_fst) | (with_reducible apply setPending_frame) | (with_reducible apply State.putApp_frame)
    | (with_reducible apply Frame.fold) | extract_lets | split | (dsimp -zeta only) | (dsimp +zetaDelta -zeta only)

theorem aicUpdate_frame {m : Nat} {a0 s0 : State} (hm : sub 0x800001 m = true) (h : Frame m a0 s0) :
    Frame m a0 (aicUpdate s0) := by
  unfold aicUpdate
  repeat' first
    | (with_reducible assumption) | (exact sub_trans rfl hm) | intro _ | (with_reducible apply Frame.ite)
    | (with_reducible apply Frame.ite_fst) | (with_reducible apply aicExpire_frame) | (with_reducible apply State.set_frame)
    | (with_reducible apply State.putApp_frame) | extract_lets | split | (dsimp -zeta only) | (dsimp +zetaDelta -zeta only)

theorem aicEdge_frame {m : Nat} {s0 s : State} (hm : sub 0x800001 m = true) (h : Frame m s0 s) (src : Nat) :
    Frame m s0 (aicEdge s src) := by
  unfold aicEdge
  repeat' first
    | (with_reducible assumption) | (exact sub_trans rfl hm) | intro _ | (with_reducible apply Frame.ite)
    | (with_reducible apply Frame.ite_fst) | (with_reducible apply aicUpdate_frame) | (with_reducible apply setPending_frame)
    | extract_lets | split | (dsimp -zeta only) | (dsimp +zetaDelta -zeta only)

theorem aicLevel_frame {m : Nat} {s0 s : State} (hm : sub 0x800001 m = true) (h : Frame m s0 s) (src : Nat) (high : Bool) :
    Frame m s0 (aicLevel s src high) := by
  unfold aicLevel
  repeat' first
    | (with_reducible assumption) | (exact sub_trans rfl hm) | intro _ | (with_reducible apply Frame.ite)
    | (with_reducible apply Frame.ite_fst) | (with_reducible apply State.putApp_frame) | (with_reducible apply aicUpdate_frame)
    | (with_reducible apply setPending_frame) | extract_lets | split | (dsimp -zeta only) | (dsimp +zetaDelta -zeta only)

theorem viewMail_frame {m : Nat} {s0 s : State} (hm : sub 0x1 m = true) (h : Frame m s0 s) :
    Frame m s0 (viewMail s) := by
  unfold viewMail
  repeat' first
    | (with_reducible assumption) | (exact sub_trans rfl hm) | intro _ | (with_reducible apply State.set_frame)
    | (with_reducible apply State.setBit_frame) | (with_reducible apply Frame.fold) | extract_lets | split | (dsimp -zeta only)
    | (dsimp +zetaDelta -zeta only)

theorem mailChanged_frame {m : Nat} {s0 s : State} (hm : sub 0x800001 m = true) (h : Frame m s0 s) :
    Frame m s0 (mailChanged s) := by
  unfold mailChanged
  repeat' first
    | (with_reducible assumption) | (exact sub_trans rfl hm) | intro _ | (with_reducible apply Frame.ite)
    | (with_reducible apply Frame.ite_fst) | (with_reducible apply aicLevel_frame) | (with_reducible apply viewMail_frame)
    | (with_reducible apply aicEdge_frame) | (with_reducible apply State.putApp_frame) | extract_lets | split
    | (dsimp -zeta only) | (dsimp +zetaDelta -zeta only)

theorem mailTo_frame {m : Nat} {s0 s : State} (hm : sub 0x840001 m = true) (h : Frame m s0 s) (i : QueueItem) :
    Frame m s0 (mailTo s i) := by
  unfold mailTo
  repeat' first
    | (with_reducible assumption) | (exact sub_trans rfl hm) | intro _ | (with_reducible apply mailChanged_frame)
    | (with_reducible apply putQueue_frame) | extract_lets | split | (dsimp -zeta only) | (dsimp +zetaDelta -zeta only)

end Sys2Proof.Machine
end

