-- ==== Sys2Proof/Laws/FrameEvents.lean ====
section
/-!
SUPPORT. Which components the operations of Machine/Events.lean may change (`Frame`).
-/

namespace Sys2Proof.Machine

set_option linter.unusedVariables false
set_option linter.unusedTactic false
set_option linter.unreachableTactic false

theorem takeSeq_frame {m : Nat} {s0 s : State} (hm : sub 0x20 m = true) (h : Frame m s0 s) (src : Nat) :
    Frame m s0 (takeSeq s src) := by
  unfold takeSeq
  repeat' first
    | (with_reducible assumption) | (exact sub_trans rfl hm) | intro _ | (with_reducible apply State.putEv_frame) | extract_lets
    | split | (dsimp -zeta only) | (dsimp +zetaDelta -zeta only)

theorem countDrop_frame {m : Nat} {s0 s : State} (hm : sub 0x21 m = true) (h : Frame m s0 s) (src r : Nat) :
    Frame m s0 (countDrop s src r) := by
  unfold countDrop
  repeat' first
    | (with_reducible assumption) | (exact sub_trans rfl hm) | intro _ | (with_reducible apply Frame.ite)
    | (with_reducible apply Frame.ite_fst) | (with_reducible apply State.bump_frame)
    | (with_reducible apply State.setRing_frame) | (with_reducible apply State.putEv_frame) | extract_lets | split
    | (dsimp -zeta only) | (dsimp +zetaDelta -zeta only)

theorem clearLoss_frame {m : Nat} {s0 s : State} (hm : sub 0x20 m = true) (h : Frame m s0 s) (src : Nat) :
    Frame m s0 (clearLoss s src) := by
  unfold clearLoss
  repeat' first
    | (with_reducible assumption) | (exact sub_trans rfl hm) | intro _ | (with_reducible apply State.putEv_frame) | extract_lets
    | split | (dsimp -zeta only) | (dsimp +zetaDelta -zeta only)

theorem setBacklog_frame {m : Nat} {s0 s : State} (hm : sub 0x21 m = true) (h : Frame m s0 s) (l : List (Nat × EventRecord)) :
    Frame m s0 (setBacklog s l) := by
  unfold setBacklog
  repeat' first
    | (with_reducible assumption) | (exact sub_trans rfl hm) | intro _ | (with_reducible apply State.set_frame)
    | (with_reducible apply State.putEv_frame) | extract_lets | split | (dsimp -zeta only) | (dsimp +zetaDelta -zeta only)

theorem holdRecord_frame {m : Nat} {s0 s : State} (hm : sub 0x21 m = true) (h : Frame m s0 s) (r : Nat) (e : EventRecord) :
    Frame m s0 (holdRecord s r e).1 := by
  unfold holdRecord
  repeat' first
    | (with_reducible assumption) | (exact sub_trans rfl hm) | intro _ | (with_reducible apply Frame.ite)
    | (with_reducible apply Frame.ite_fst) | (with_reducible apply clearLoss_frame) | (with_reducible apply State.setRing_frame)
    | (with_reducible apply countDrop_frame) | (with_reducible apply setBacklog_frame) | extract_lets | split
    | (dsimp -zeta only) | (dsimp +zetaDelta -zeta only)

theorem putLimit_frame {m : Nat} {s0 s : State} (hm : sub 0x20 m = true) (h : Frame m s0 s) (e : EventLimit) :
    Frame m s0 (putLimit s e) := by
  unfold putLimit
  repeat' first
    | (with_reducible assumption) | (exact sub_trans rfl hm) | intro _ | (with_reducible apply State.putEv_frame) | extract_lets
    | split | (dsimp -zeta only) | (dsimp +zetaDelta -zeta only)

theorem forwardRecord_frame {m : Nat} {s0 s : State} (hm : sub 0x80840001 m = true) (h : Frame m s0 s) (e : EventRecord) :
    Frame m s0 (forwardRecord s e) := by
  unfold forwardRecord
  repeat' first
    | (with_reducible assumption) | (exact sub_trans rfl hm) | intro _ | (with_reducible apply Frame.ite)
    | (with_reducible apply Frame.ite_fst) | (with_reducible apply mailTo_frame) | (with_reducible apply State.drew_frame)
    | (with_reducible apply State.bump_frame) | extract_lets | split | (dsimp -zeta only) | (dsimp +zetaDelta -zeta only)

theorem generate_frame {m : Nat} {s0 : State} (hm : sub 0x80840021 m = true) :
    ∀ (fuel code : Nat) (pl : List Byte) {s : State}, Frame m s0 s → Frame m s0 (generate fuel code pl s)
  | 0, code, pl, s, h => by
    unfold generate
    repeat' first
      | (with_reducible assumption) | (exact sub_trans rfl hm) | intro _ | (with_reducible apply Frame.ite)
      | (with_reducible apply putLimit_frame) | (with_reducible apply takeSeq_frame) | (with_reducible apply forwardRecord_frame)
      | (with_reducible apply holdRecord_frame) | extract_lets | split | (dsimp -zeta only) | (dsimp +zetaDelta -zeta only)
  | n + 1, code, pl, s, h => by
    unfold generate
    repeat' first
      | (with_reducible assumption) | (exact sub_trans rfl hm) | intro _ | (with_reducible apply Frame.ite)
      | (with_reducible apply generate_frame hm n) | (with_reducible apply putLimit_frame) | (with_reducible apply takeSeq_frame)
      | (with_reducible apply forwardRecord_frame) | (with_reducible apply holdRecord_frame) | extract_lets | split
      | (dsimp -zeta only) | (dsimp +zetaDelta -zeta only)

theorem postEvent_frame {m : Nat} {s0 s : State} (hm : sub 0x80840021 m = true) (h : Frame m s0 s) (code : Nat) (fields : List (Nat × Nat × Nat)) :
    Frame m s0 (postEvent code fields s) := by
  unfold postEvent
  repeat' first
    | (with_reducible assumption) | (exact sub_trans rfl hm) | intro _ | (with_reducible apply generate_frame) | extract_lets
    | split | (dsimp -zeta only) | (dsimp +zetaDelta -zeta only)

theorem clearEvents_frame {m : Nat} {s0 s : State} (hm : sub 0x21 m = true) (h : Frame m s0 s) :
    Frame m s0 (clearEvents s) := by
  unfold clearEvents
  repeat' first
    | (with_reducible assumption) | (exact sub_trans rfl hm) | intro _ | (with_reducible apply State.set_frame)
    | (with_reducible apply State.putEv_frame) | extract_lets | split | (dsimp -zeta only) | (dsimp +zetaDelta -zeta only)

theorem ringToBacklog_frame {m : Nat} {s0 s : State} (hm : sub 0x21 m = true) (h : Frame m s0 s) (r : Nat) :
    Frame m s0 (ringToBacklog s r) := by
  unfold ringToBacklog
  repeat' first
    | (with_reducible assumption) | (exact sub_trans rfl hm) | intro _ | (with_reducible apply State.setRing_frame)
    | (with_reducible apply setBacklog_frame) | (with_reducible apply countDrop_frame) | (with_reducible apply Frame.fold)
    | extract_lets | split | (dsimp -zeta only) | (dsimp +zetaDelta -zeta only)

theorem backlogToRing_frame {m : Nat} {s0 s : State} (hm : sub 0x21 m = true) (h : Frame m s0 s) (r : Nat) :
    Frame m s0 (backlogToRing s r) := by
  unfold backlogToRing
  repeat' first
    | (with_reducible assumption) | (exact sub_trans rfl hm) | intro _ | (with_reducible apply Frame.ite)
    | (with_reducible apply Frame.ite_fst) | (with_reducible apply setBacklog_frame)
    | (with_reducible apply State.setRing_frame) | extract_lets | split | (dsimp -zeta only) | (dsimp +zetaDelta -zeta only)

end Sys2Proof.Machine
end

