-- ==== Sys2Proof/Laws/FrameFlash.lean ====
section
/-!
SUPPORT. Which components the operations of Machine/Flash.lean may change (`Frame`).
-/

namespace Sys2Proof.Machine

set_option linter.unusedVariables false
set_option linter.unusedTactic false
set_option linter.unreachableTactic false

theorem refuseFlash_frame {m : Nat} {s0 s : State} (hm : sub 0x80840021 m = true) (h : Frame m s0 s) (kind comp slot : Nat) :
    Frame m s0 (refuseFlash s kind comp slot) := by
  unfold refuseFlash
  repeat' first
    | (with_reducible assumption) | (exact sub_trans rfl hm) | intro _ | (with_reducible apply postEvent_frame)
    | (with_reducible apply State.bump_frame) | extract_lets | split | (dsimp -zeta only) | (dsimp +zetaDelta -zeta only)

theorem countSlotWrite_frame {m : Nat} {s0 s : State} (hm : sub 0x2 m = true) (h : Frame m s0 s) (comp slot : Nat) :
    Frame m s0 (countSlotWrite s comp slot) := by
  unfold countSlotWrite
  repeat' first
    | (with_reducible assumption) | (exact sub_trans rfl hm) | intro _ | (with_reducible apply State.putBoot_frame)
    | extract_lets | split | (dsimp -zeta only) | (dsimp +zetaDelta -zeta only)

theorem writePage_frame {m : Nat} {s0 s : State} (hm : sub 0x100000004 m = true) (h : Frame m s0 s) (copy generation floor : Nat) (entries : List SlotEntry) (p : List Byte) :
    Frame m s0 (writePage s copy generation floor entries p).1 := by
  unfold writePage
  repeat' first
    | (with_reducible assumption) | (exact sub_trans rfl hm) | intro _ | (with_reducible apply State.putFlash_frame)
    | (with_reducible apply State.emit_frame) | extract_lets | split | (dsimp -zeta only) | (dsimp +zetaDelta -zeta only)

theorem wearView_frame {m : Nat} {s0 s : State} (hm : sub 0x1 m = true) (h : Frame m s0 s) :
    Frame m s0 (wearView s) := by
  unfold wearView
  repeat' first
    | (with_reducible assumption) | (exact sub_trans rfl hm) | intro _ | (with_reducible apply State.set_frame)
    | (with_reducible apply Frame.foldl_fst) | extract_lets | split | (dsimp -zeta only) | (dsimp +zetaDelta -zeta only)

theorem commitDirectory_frame {m : Nat} {s0 s : State} (hm : sub 0x180840027 m = true) (h : Frame m s0 s) (floor : Nat) (entries : List SlotEntry) (comp slot : Nat) :
    Frame m s0 (commitDirectory s floor entries comp slot).1 := by
  unfold commitDirectory
  repeat' first
    | (with_reducible assumption) | (exact sub_trans rfl hm) | intro _ | (with_reducible apply Frame.ite)
    | (with_reducible apply Frame.ite_fst) | (with_reducible apply refuseFlash_frame) | (with_reducible apply writePage_frame)
    | (with_reducible apply wearView_frame) | (with_reducible apply State.putBoot_frame)
    | (with_reducible refine Frame.of_pair (by assumption) ?_) | extract_lets | split | (dsimp -zeta only)
    | (dsimp +zetaDelta -zeta only)

theorem programSlot_frame {m : Nat} {s0 s : State} (hm : sub 0x100000004 m = true) (h : Frame m s0 s) (e : SlotEntry) (image : List Byte) :
    Frame m s0 (programSlot s e image) := by
  unfold programSlot
  repeat' first
    | (with_reducible assumption) | (exact sub_trans rfl hm) | intro _ | (with_reducible apply State.emit_frame)
    | (with_reducible apply State.putFlash_frame) | extract_lets | split | (dsimp -zeta only) | (dsimp +zetaDelta -zeta only)

theorem imageInForce_frame {m : Nat} {s0 s : State} (hm : sub 0x3 m = true) (h : Frame m s0 s) (comp slot : Nat) (l : List Byte) :
    Frame m s0 (imageInForce s comp slot l) := by
  unfold imageInForce
  repeat' first
    | (with_reducible assumption) | (exact sub_trans rfl hm) | intro _ | (with_reducible apply State.putBoot_frame)
    | (with_reducible apply State.setBitAt_frame) | (with_reducible apply State.set_frame) | extract_lets | split
    | (dsimp -zeta only) | (dsimp +zetaDelta -zeta only)

end Sys2Proof.Machine
end

