-- ==== Sys2Proof/Laws/FrameNcsOps.lean ====
section
/-!
SUPPORT. Which components the operations of Machine/NcsOps.lean may change (`Frame`).
-/

namespace Sys2Proof.Machine

set_option linter.unusedVariables false
set_option linter.unusedTactic false
set_option linter.unreachableTactic false

theorem sendRecord_frame {m : Nat} {s0 s : State} (hm : sub 0x104000001 m = true) (h : Frame m s0 s) (r : MirrorRecord) :
    Frame m s0 (sendRecord s r) := by
  unfold sendRecord
  repeat' first
    | (with_reducible assumption) | (exact sub_trans rfl hm) | intro _ | (with_reducible apply State.putPair_frame)
    | (with_reducible apply State.bumpWrap_frame) | (with_reducible apply State.emit_frame) | extract_lets | split
    | (dsimp -zeta only) | (dsimp +zetaDelta -zeta only)

theorem mirror_frame {m : Nat} {s0 s : State} (hm : sub 0x104000001 m = true) (h : Frame m s0 s) (r : MirrorRecord) :
    Frame m s0 (mirror s r) := by
  unfold mirror
  repeat' first
    | (with_reducible assumption) | (exact sub_trans rfl hm) | intro _ | (with_reducible apply Frame.ite)
    | (with_reducible apply Frame.ite_fst) | (with_reducible apply sendRecord_frame) | extract_lets | split | (dsimp -zeta only)
    | (dsimp +zetaDelta -zeta only)

theorem mirrorLine_frame {m : Nat} {s0 s : State} (hm : sub 0x104000001 m = true) (h : Frame m s0 s) (n : Nat) (old new : Line) :
    Frame m s0 (mirrorLine s n old new) := by
  unfold mirrorLine
  repeat' first
    | (with_reducible assumption) | (exact sub_trans rfl hm) | intro _ | (with_reducible apply Frame.ite)
    | (with_reducible apply Frame.ite_fst) | (with_reducible apply State.putPair_frame)
    | (with_reducible apply sendRecord_frame) | extract_lets | split | (dsimp -zeta only) | (dsimp +zetaDelta -zeta only)

theorem checkWritten_frame {m0 : Nat} {s0 s : State} (hm : sub 0x2000001 m0 = true) (h : Frame m0 s0 s) (m : LineMem) (line : Nat) :
    Frame m0 s0 (checkWritten s m line) := by
  unfold checkWritten
  repeat' first
    | (with_reducible assumption) | (exact sub_trans rfl hm) | intro _ | (with_reducible apply Frame.ite)
    | (with_reducible apply Frame.ite_fst) | (with_reducible apply State.putMi_frame) | (with_reducible apply State.set_frame)
    | extract_lets | split | (dsimp -zeta only) | (dsimp +zetaDelta -zeta only)

theorem snapshotWrite_frame {m : Nat} {s0 s : State} (hm : sub 0x104010001 m = true) (h : Frame m s0 s) (n : Nat) :
    Frame m s0 (snapshotWrite s n) := by
  unfold snapshotWrite
  repeat' first
    | (with_reducible assumption) | (exact sub_trans rfl hm) | intro _ | (with_reducible apply Frame.ite)
    | (with_reducible apply Frame.ite_fst) | (with_reducible apply State.putFwd_frame) | (with_reducible apply reserve_frame)
    | (with_reducible apply State.set_frame) | extract_lets | split | (dsimp -zeta only) | (dsimp +zetaDelta -zeta only)

theorem cacheForget_frame {m : Nat} {s0 s : State} (hm : sub 0x100000 m = true) (h : Frame m s0 s) (n : Nat) (old new : Line) :
    Frame m s0 (cacheForget s n old new) := by
  unfold cacheForget
  repeat' first
    | (with_reducible assumption) | (exact sub_trans rfl hm) | intro _ | (with_reducible apply Frame.ite)
    | (with_reducible apply Frame.ite_fst) | (with_reducible apply State.putSec_frame) | extract_lets | split
    | (dsimp -zeta only) | (dsimp +zetaDelta -zeta only)

theorem suspectView_frame {m : Nat} {s0 s : State} (hm : sub 0x1 m = true) (h : Frame m s0 s) (old new : Line) :
    Frame m s0 (suspectView s old new) := by
  unfold suspectView
  repeat' first
    | (with_reducible assumption) | (exact sub_trans rfl hm) | intro _ | (with_reducible apply State.set_frame) | extract_lets
    | split | (dsimp -zeta only) | (dsimp +zetaDelta -zeta only)

theorem tileTouched_frame {m : Nat} {s0 s : State} (hm : sub 0x2000000 m = true) (h : Frame m s0 s) (n : Nat) :
    Frame m s0 (tileTouched s n) := by
  unfold tileTouched
  repeat' first
    | (with_reducible assumption) | (exact sub_trans rfl hm) | intro _ | (with_reducible apply Frame.ite)
    | (with_reducible apply Frame.ite_fst) | (with_reducible apply State.putMi_frame) | extract_lets | split
    | (dsimp -zeta only) | (dsimp +zetaDelta -zeta only)

theorem tileUpdate_frame {m : Nat} {s0 s : State} (hm : sub 0x2000000 m = true) (h : Frame m s0 s) (n : Nat) (old new : Line) :
    Frame m s0 (tileUpdate s n old new) := by
  unfold tileUpdate
  repeat' first
    | (with_reducible assumption) | (exact sub_trans rfl hm) | intro _ | (with_reducible apply State.putMi_frame) | extract_lets
    | split | (dsimp -zeta only) | (dsimp +zetaDelta -zeta only)

theorem tileReseal_frame {m : Nat} {s0 s : State} (hm : sub 0x2000000 m = true) (h : Frame m s0 s) (tile : Nat) :
    Frame m s0 (tileReseal s tile) := by
  unfold tileReseal
  repeat' first
    | (with_reducible assumption) | (exact sub_trans rfl hm) | intro _ | (with_reducible apply State.putMi_frame) | extract_lets
    | split | (dsimp -zeta only) | (dsimp +zetaDelta -zeta only)

theorem writeLine_frame {m : Nat} {s0 s : State} (hm : sub 0x106110001 m = true) (h : Frame m s0 s) (n : Nat) (new : Line) :
    Frame m s0 (writeLine s n new) := by
  unfold writeLine
  repeat' first
    | (with_reducible assumption) | (exact sub_trans rfl hm) | intro _ | (with_reducible apply Frame.ite)
    | (with_reducible apply Frame.ite_fst) | (with_reducible apply snapshotWrite_frame)
    | (with_reducible apply State.putFwd_frame) | (with_reducible apply checkWritten_frame)
    | (with_reducible apply tileUpdate_frame) | (with_reducible apply tileTouched_frame)
    | (with_reducible apply suspectView_frame) | (with_reducible apply cacheForget_frame)
    | (with_reducible apply mirrorLine_frame) | extract_lets | split | (dsimp -zeta only) | (dsimp +zetaDelta -zeta only)

theorem markRebuild_frame {m : Nat} {s0 s : State} (hm : sub 0x106110001 m = true) (h : Frame m s0 s) (n : Nat) :
    Frame m s0 (markRebuild s n) := by
  unfold markRebuild
  repeat' first
    | (with_reducible assumption) | (exact sub_trans rfl hm) | intro _ | (with_reducible apply writeLine_frame) | extract_lets
    | split | (dsimp -zeta only) | (dsimp +zetaDelta -zeta only)

theorem setLineField_frame {m : Nat} {s0 s : State} (hm : sub 0x106110001 m = true) (h : Frame m s0 s) (n : Nat) (f : LineFld) (v : Nat) :
    Frame m s0 (setLineField s n f v) := by
  unfold setLineField
  repeat' first
    | (with_reducible assumption) | (exact sub_trans rfl hm) | intro _ | (with_reducible apply Frame.ite)
    | (with_reducible apply Frame.ite_fst) | (with_reducible apply writeLine_frame) | extract_lets | split | (dsimp -zeta only)
    | (dsimp +zetaDelta -zeta only)

theorem consumePoison_frame {m : Nat} {s0 s : State} (hm : sub 0x80840021 m = true) (h : Frame m s0 s) (consumer tag : Nat) :
    Frame m s0 (consumePoison s consumer tag) := by
  unfold consumePoison
  repeat' first
    | (with_reducible assumption) | (exact sub_trans rfl hm) | intro _ | (with_reducible apply postEvent_frame)
    | (with_reducible apply State.bump_frame) | extract_lets | split | (dsimp -zeta only) | (dsimp +zetaDelta -zeta only)

theorem consumeTag_frame {m : Nat} {s0 s : State} (hm : sub 0x186950021 m = true) (h : Frame m s0 s) (tag : Nat) :
    Frame m s0 (consumeTag s tag) := by
  unfold consumeTag
  repeat' first
    | (with_reducible assumption) | (exact sub_trans rfl hm) | intro _ | (with_reducible apply Frame.ite)
    | (with_reducible apply Frame.ite_fst) | (with_reducible apply consumePoison_frame)
    | (with_reducible apply markRebuild_frame) | extract_lets | split | (dsimp -zeta only) | (dsimp +zetaDelta -zeta only)

theorem consumeLine_frame {m : Nat} {s0 s : State} (hm : sub 0x186950021 m = true) (h : Frame m s0 s) (n : Nat) :
    Frame m s0 (consumeLine s n) := by
  unfold consumeLine
  repeat' first
    | (with_reducible assumption) | (exact sub_trans rfl hm) | intro _ | (with_reducible apply markRebuild_frame)
    | (with_reducible apply consumePoison_frame) | extract_lets | split | (dsimp -zeta only) | (dsimp +zetaDelta -zeta only)

theorem tileFailed_frame {m : Nat} {s0 s : State} (hm : sub 0x182840021 m = true) (h : Frame m s0 s) (tile use : Nat) :
    Frame m s0 (tileFailed s tile use) := by
  unfold tileFailed
  repeat' first
    | (with_reducible assumption) | (exact sub_trans rfl hm) | intro _ | (with_reducible apply Frame.ite)
    | (with_reducible apply Frame.ite_fst) | (with_reducible apply State.bump_frame) | (with_reducible apply State.emit_frame)
    | (with_reducible apply State.putMi_frame) | (with_reducible apply tileReseal_frame)
    | (with_reducible apply postEvent_frame) | (with_reducible apply Frame.fold) | extract_lets | split | (dsimp -zeta only)
    | (dsimp +zetaDelta -zeta only)

end Sys2Proof.Machine
end

