-- ==== Sys2Proof/Laws/FrameRepairOps.lean ====
section
/-!
SUPPORT. Which components the operations of Machine/RepairOps.lean may change (`Frame`).
-/

namespace Sys2Proof.Machine

set_option linter.unusedVariables false
set_option linter.unusedTactic false
set_option linter.unreachableTactic false

theorem viewRepairs_frame {m : Nat} {s0 s : State} (hm : sub 0x1 m = true) (h : Frame m s0 s) :
    Frame m s0 (viewRepairs s) := by
  unfold viewRepairs
  repeat' first
    | (with_reducible assumption) | (exact sub_trans rfl hm) | intro _ | (with_reducible apply State.set_frame)
    | (with_reducible apply State.setBit_frame) | (with_reducible apply Frame.fold) | extract_lets | split | (dsimp -zeta only)
    | (dsimp +zetaDelta -zeta only)

theorem applyRepairs_frame {m : Nat} {s0 s : State} (hm : sub 0x2000001 m = true) (h : Frame m s0 s) :
    Frame m s0 (applyRepairs s) := by
  unfold applyRepairs
  repeat' first
    | (with_reducible assumption) | (exact sub_trans rfl hm) | intro _ | (with_reducible apply viewRepairs_frame)
    | (with_reducible apply State.putMi_frame) | extract_lets | split | (dsimp -zeta only) | (dsimp +zetaDelta -zeta only)

theorem viewMi_frame {m : Nat} {s0 s : State} (hm : sub 0x1 m = true) (h : Frame m s0 s) :
    Frame m s0 (viewMi s) := by
  unfold viewMi
  repeat' first
    | (with_reducible assumption) | (exact sub_trans rfl hm) | intro _ | (with_reducible apply State.set_frame) | extract_lets
    | split | (dsimp -zeta only) | (dsimp +zetaDelta -zeta only)

theorem appendCopy_frame {m : Nat} {s0 s : State} (hm : sub 0x4 m = true) (h : Frame m s0 s) (copy : Nat) (e : RepairEntry) :
    Frame m s0 (appendCopy s copy e) := by
  unfold appendCopy
  repeat' first
    | (with_reducible assumption) | (exact sub_trans rfl hm) | intro _ | (with_reducible apply Frame.ite)
    | (with_reducible apply Frame.ite_fst) | (with_reducible apply State.putFlash_frame) | extract_lets | split
    | (dsimp -zeta only) | (dsimp +zetaDelta -zeta only)

theorem appendRepair_frame {m : Nat} {s0 s : State} (hm : sub 0x82840027 m = true) (h : Frame m s0 s) (e : RepairEntry) :
    Frame m s0 (appendRepair s e) := by
  unfold appendRepair
  repeat' first
    | (with_reducible assumption) | (exact sub_trans rfl hm) | intro _ | (with_reducible apply Frame.ite)
    | (with_reducible apply Frame.ite_fst) | (with_reducible apply refuseFlash_frame) | (with_reducible apply appendCopy_frame)
    | (with_reducible apply State.putBoot_frame) | (with_reducible apply viewRepairs_frame)
    | (with_reducible apply State.putMi_frame) | (with_reducible apply postEvent_frame) | extract_lets | split
    | (dsimp -zeta only) | (dsimp +zetaDelta -zeta only)

theorem noteExhausted_frame {m : Nat} {s0 s : State} (hm : sub 0x82840021 m = true) (h : Frame m s0 s) (sram : Nat) :
    Frame m s0 (noteExhausted s sram) := by
  unfold noteExhausted
  repeat' first
    | (with_reducible assumption) | (exact sub_trans rfl hm) | intro _ | (with_reducible apply Frame.ite)
    | (with_reducible apply Frame.ite_fst) | (with_reducible apply postEvent_frame) | (with_reducible apply State.putMi_frame)
    | extract_lets | split | (dsimp -zeta only) | (dsimp +zetaDelta -zeta only)

theorem parityHard_frame {m : Nat} {s0 s : State} (hm : sub 0x82840027 m = true) (h : Frame m s0 s) (key : Nat) :
    Frame m s0 (parityHard s key) := by
  unfold parityHard
  repeat' first
    | (with_reducible assumption) | (exact sub_trans rfl hm) | intro _ | (with_reducible apply Frame.ite)
    | (with_reducible apply Frame.ite_fst) | (with_reducible apply State.putMi_frame) | (with_reducible apply State.bump_frame)
    | (with_reducible apply appendRepair_frame) | (with_reducible apply noteExhausted_frame) | extract_lets | split
    | (dsimp -zeta only) | (dsimp +zetaDelta -zeta only)

theorem parityMet_frame {m : Nat} {s0 s : State} (hm : sub 0x82840027 m = true) (h : Frame m s0 s) (key : Nat) :
    Frame m s0 (parityMet s key) := by
  unfold parityMet
  repeat' first
    | (with_reducible assumption) | (exact sub_trans rfl hm) | intro _ | (with_reducible apply Frame.ite)
    | (with_reducible apply Frame.ite_fst) | (with_reducible apply parityHard_frame) | (with_reducible apply State.putMi_frame)
    | extract_lets | split | (dsimp -zeta only) | (dsimp +zetaDelta -zeta only)

theorem parityRewritten_frame {m : Nat} {s0 s : State} (hm : sub 0x2000000 m = true) (h : Frame m s0 s) (key : Nat) :
    Frame m s0 (parityRewritten s key) := by
  unfold parityRewritten
  repeat' first
    | (with_reducible assumption) | (exact sub_trans rfl hm) | intro _ | (with_reducible apply Frame.ite)
    | (with_reducible apply Frame.ite_fst) | (with_reducible apply State.putMi_frame) | extract_lets | split
    | (dsimp -zeta only) | (dsimp +zetaDelta -zeta only)

end Sys2Proof.Machine
end

