-- ==== Sys2Proof/Laws/FrameFwdOps.lean ====
section
/-!
SUPPORT. Which components the operations of Machine/FwdOps.lean may change (`Frame`).
-/

namespace Sys2Proof.Machine

set_option linter.unusedVariables false
set_option linter.unusedTactic false
set_option linter.unreachableTactic false

theorem State.setEht_frame {m : Nat} {s0 s : State} (hm : sub 0x10000 m = true) (h : Frame m s0 s) (k : Nat) (e : BitVec 96) :
    Frame m s0 (State.setEht s k e) := by
  unfold State.setEht
  repeat' first
    | (with_reducible assumption) | (exact sub_trans rfl hm) | intro _ | (with_reducible apply State.putFwd_frame)
    | extract_lets | split | (dsimp -zeta only) | (dsimp +zetaDelta -zeta only)

theorem viewOverflow_frame {m : Nat} {s0 s : State} (hm : sub 0x1 m = true) (h : Frame m s0 s) :
    Frame m s0 (viewOverflow s) := by
  unfold viewOverflow
  repeat' first
    | (with_reducible assumption) | (exact sub_trans rfl hm) | intro _ | (with_reducible apply State.set_frame) | extract_lets
    | split | (dsimp -zeta only) | (dsimp +zetaDelta -zeta only)

theorem startRebuild_frame {m : Nat} {s0 s : State} (hm : sub 0x10001 m = true) (h : Frame m s0 s) (b : Nat) :
    Frame m s0 (startRebuild s b) := by
  unfold startRebuild
  repeat' first
    | (with_reducible assumption) | (exact sub_trans rfl hm) | intro _ | (with_reducible apply Frame.ite)
    | (with_reducible apply Frame.ite_fst) | (with_reducible apply State.putFwd_frame) | (with_reducible apply State.set_frame)
    | extract_lets | split | (dsimp -zeta only) | (dsimp +zetaDelta -zeta only)

theorem ehtParity_frame {m : Nat} {s0 s : State} (hm : sub 0x82850027 m = true) (h : Frame m s0 s) (eui : Nat) :
    Frame m s0 (ehtParity s eui) := by
  unfold ehtParity
  repeat' first
    | (with_reducible assumption) | (exact sub_trans rfl hm) | intro _ | (with_reducible apply Frame.ite)
    | (with_reducible apply Frame.ite_fst) | (with_reducible apply parityMet_frame) | (with_reducible apply startRebuild_frame)
    | (with_reducible apply postEvent_frame) | (with_reducible apply State.bumpBy_frame) | (with_reducible apply Frame.fold)
    | extract_lets | split | (dsimp -zeta only) | (dsimp +zetaDelta -zeta only)

theorem ehtLookup_frame {m : Nat} {s0 s : State} (hm : sub 0x82850027 m = true) (h : Frame m s0 s) (eui : Nat) :
    Frame m s0 (ehtLookup s eui).1 := by
  unfold ehtLookup
  repeat' first
    | (with_reducible assumption) | (exact sub_trans rfl hm) | intro _ | (with_reducible apply ehtParity_frame) | extract_lets
    | split | (dsimp -zeta only) | (dsimp +zetaDelta -zeta only)

theorem setOvf_frame {m : Nat} {s0 s : State} (hm : sub 0x10000 m = true) (h : Frame m s0 s) (b v : Nat) :
    Frame m s0 (setOvf s b v) := by
  unfold setOvf
  repeat' first
    | (with_reducible assumption) | (exact sub_trans rfl hm) | intro _ | (with_reducible apply Frame.ite)
    | (with_reducible apply Frame.ite_fst) | (with_reducible apply State.setEht_frame) | extract_lets | split
    | (dsimp -zeta only) | (dsimp +zetaDelta -zeta only)

theorem setEntry_frame {m : Nat} {s0 s : State} (hm : sub 0x10000 m = true) (h : Frame m s0 s) (k eui index state : Nat) :
    Frame m s0 (setEntry s k eui index state) := by
  unfold setEntry
  repeat' first
    | (with_reducible assumption) | (exact sub_trans rfl hm) | intro _ | (with_reducible apply State.setEht_frame)
    | extract_lets | split | (dsimp -zeta only) | (dsimp +zetaDelta -zeta only)

theorem ehtPut_frame {m : Nat} {s0 s : State} (hm : sub 0x10001 m = true) (h : Frame m s0 s) (b k eui index : Nat) :
    Frame m s0 (ehtPut s b k eui index) := by
  unfold ehtPut
  repeat' first
    | (with_reducible assumption) | (exact sub_trans rfl hm) | intro _ | (with_reducible apply Frame.ite)
    | (with_reducible apply Frame.ite_fst) | (with_reducible apply setEntry_frame) | (with_reducible apply viewOverflow_frame)
    | (with_reducible apply setOvf_frame) | extract_lets | split | (dsimp -zeta only) | (dsimp +zetaDelta -zeta only)

theorem ehtFull_frame {m : Nat} {s0 s : State} (hm : sub 0x80840021 m = true) (h : Frame m s0 s) (eui : Nat) :
    Frame m s0 (ehtFull s eui) := by
  unfold ehtFull
  repeat' first
    | (with_reducible assumption) | (exact sub_trans rfl hm) | intro _ | (with_reducible apply postEvent_frame)
    | (with_reducible apply State.bump_frame) | extract_lets | split | (dsimp -zeta only) | (dsimp +zetaDelta -zeta only)

theorem ehtInsert_frame {m : Nat} {s0 s : State} (hm : sub 0x82850027 m = true) (h : Frame m s0 s) (eui index : Nat) :
    Frame m s0 (ehtInsert s eui index).1 := by
  unfold ehtInsert
  repeat' first
    | (with_reducible assumption) | (exact sub_trans rfl hm) | intro _ | (with_reducible apply ehtParity_frame)
    | (with_reducible apply ehtFull_frame) | (with_reducible apply ehtPut_frame) | extract_lets | split | (dsimp -zeta only)
    | (dsimp +zetaDelta -zeta only)

theorem ehtDrop_frame {m : Nat} {s0 s : State} (hm : sub 0x10001 m = true) (h : Frame m s0 s) (b k : Nat) :
    Frame m s0 (ehtDrop s b k) := by
  unfold ehtDrop
  repeat' first
    | (with_reducible assumption) | (exact sub_trans rfl hm) | intro _ | (with_reducible apply Frame.ite)
    | (with_reducible apply Frame.ite_fst) | (with_reducible apply State.setEht_frame)
    | (with_reducible apply viewOverflow_frame) | (with_reducible apply setOvf_frame) | (with_reducible apply setEntry_frame)
    | extract_lets | split | (dsimp -zeta only) | (dsimp +zetaDelta -zeta only)

theorem ehtDelete_frame {m : Nat} {s0 s : State} (hm : sub 0x82850027 m = true) (h : Frame m s0 s) (eui : Nat) :
    Frame m s0 (ehtDelete s eui).1 := by
  unfold ehtDelete
  repeat' first
    | (with_reducible assumption) | (exact sub_trans rfl hm) | intro _ | (with_reducible apply ehtParity_frame)
    | (with_reducible apply ehtDrop_frame) | extract_lets | split | (dsimp -zeta only) | (dsimp +zetaDelta -zeta only)

theorem rebuildBucket_frame {m : Nat} {s0 s : State} (hm : sub 0x82850021 m = true) (h : Frame m s0 s) (b : Nat) :
    Frame m s0 (rebuildBucket s b) := by
  unfold rebuildBucket
  repeat' first
    | (with_reducible assumption) | (exact sub_trans rfl hm) | intro _ | (with_reducible apply Frame.ite)
    | (with_reducible apply Frame.ite_fst) | (with_reducible apply parityRewritten_frame)
    | (with_reducible apply State.setEht_frame) | (with_reducible apply viewOverflow_frame)
    | (with_reducible apply ehtFull_frame) | (with_reducible apply ehtPut_frame) | (with_reducible apply Frame.fold)
    | extract_lets | split | (dsimp -zeta only) | (dsimp +zetaDelta -zeta only)

theorem rebuildAll_frame {m : Nat} {s0 s : State} (hm : sub 0x80850021 m = true) (h : Frame m s0 s) :
    Frame m s0 (rebuildAll s) := by
  unfold rebuildAll
  repeat' first
    | (with_reducible assumption) | (exact sub_trans rfl hm) | intro _ | (with_reducible apply State.putFwd_frame)
    | (with_reducible apply State.set_frame) | (with_reducible apply viewOverflow_frame) | (with_reducible apply ehtFull_frame)
    | (with_reducible apply ehtPut_frame) | (with_reducible apply Frame.fold) | extract_lets | split | (dsimp -zeta only)
    | (dsimp +zetaDelta -zeta only)

theorem State.setHbWord_frame {m : Nat} {s0 s : State} (hm : sub 0x10000 m = true) (h : Frame m s0 s) (c n : Nat) (w : BitVec 16) :
    Frame m s0 (State.setHbWord s c n w) := by
  unfold State.setHbWord
  repeat' first
    | (with_reducible assumption) | (exact sub_trans rfl hm) | intro _ | (with_reducible apply State.putFwd_frame)
    | extract_lets | split | (dsimp -zeta only) | (dsimp +zetaDelta -zeta only)

theorem State.setHb_frame {m : Nat} {s0 s : State} (hm : sub 0x10000 m = true) (h : Frame m s0 s) (c n : Nat) (e : HbEntry) :
    Frame m s0 (State.setHb s c n e) := by
  unfold State.setHb
  repeat' first
    | (with_reducible assumption) | (exact sub_trans rfl hm) | intro _ | (with_reducible apply State.setHbWord_frame)
    | extract_lets | split | (dsimp -zeta only) | (dsimp +zetaDelta -zeta only)

theorem hbParity_frame {m : Nat} {s0 s : State} (hm : sub 0x82840027 m = true) (h : Frame m s0 s) (c n : Nat) :
    Frame m s0 (hbParity s c n) := by
  unfold hbParity
  repeat' first
    | (with_reducible assumption) | (exact sub_trans rfl hm) | intro _ | (with_reducible apply Frame.ite)
    | (with_reducible apply Frame.ite_fst) | (with_reducible apply parityMet_frame) | (with_reducible apply postEvent_frame)
    | (with_reducible apply State.bump_frame) | extract_lets | split | (dsimp -zeta only) | (dsimp +zetaDelta -zeta only)

theorem hbLearn_frame {m : Nat} {s0 s : State} (hm : sub 0x82850027 m = true) (h : Frame m s0 s) (c n path ant bkt : Nat) :
    Frame m s0 (hbLearn s c n path ant bkt) := by
  unfold hbLearn
  repeat' first
    | (with_reducible assumption) | (exact sub_trans rfl hm) | intro _ | (with_reducible apply Frame.ite)
    | (with_reducible apply Frame.ite_fst) | (with_reducible apply hbParity_frame)
    | (with_reducible apply parityRewritten_frame) | (with_reducible apply State.setHb_frame)
    | (with_reducible apply State.bump_frame) | extract_lets | split | (dsimp -zeta only) | (dsimp +zetaDelta -zeta only)

theorem hbAdvance_frame {m : Nat} {s0 s : State} (hm : sub 0x10001 m = true) (h : Frame m s0 s) (n : Nat) :
    Frame m s0 (hbAdvance s n) := by
  unfold hbAdvance
  repeat' first
    | (with_reducible assumption) | (exact sub_trans rfl hm) | intro _ | (with_reducible apply State.set_frame)
    | (with_reducible apply State.putFwd_frame) | extract_lets | split | (dsimp -zeta only) | (dsimp +zetaDelta -zeta only)

theorem hbUpdate_frame {m : Nat} {s0 s : State} (hm : sub 0x82850027 m = true) (h : Frame m s0 s) (c n path ant bkt : Nat) :
    Frame m s0 (hbUpdate s c n path ant bkt) := by
  unfold hbUpdate
  repeat' first
    | (with_reducible assumption) | (exact sub_trans rfl hm) | intro _ | (with_reducible apply Frame.ite)
    | (with_reducible apply Frame.ite_fst) | (with_reducible apply pushItem_frame) | (with_reducible apply hbLearn_frame)
    | extract_lets | split | (dsimp -zeta only) | (dsimp +zetaDelta -zeta only)

theorem hbItemTaken_frame {m : Nat} {s0 s : State} (hm : sub 0x82850027 m = true) (h : Frame m s0 s) (q lane : Nat) (i : QueueItem) :
    Frame m s0 (hbItemTaken s q lane i) := by
  unfold hbItemTaken
  repeat' first
    | (with_reducible assumption) | (exact sub_trans rfl hm) | intro _ | (with_reducible apply Frame.ite)
    | (with_reducible apply Frame.ite_fst) | (with_reducible apply hbLearn_frame) | extract_lets | split | (dsimp -zeta only)
    | (dsimp +zetaDelta -zeta only)

theorem choiceParity_frame {m : Nat} {s0 s : State} (hm : sub 0x82840027 m = true) (h : Frame m s0 s) (x : Nat) :
    Frame m s0 (choiceParity s x) := by
  unfold choiceParity
  repeat' first
    | (with_reducible assumption) | (exact sub_trans rfl hm) | intro _ | (with_reducible apply hbParity_frame)
    | (with_reducible apply Frame.fold) | extract_lets | split | (dsimp -zeta only) | (dsimp +zetaDelta -zeta only)

theorem routeFailed_frame {m : Nat} {s0 s : State} (hm : sub 0x80840021 m = true) (h : Frame m s0 s) (d reason line : Nat) :
    Frame m s0 (routeFailed s d reason line) := by
  unfold routeFailed
  repeat' first
    | (with_reducible assumption) | (exact sub_trans rfl hm) | intro _ | (with_reducible apply postEvent_frame)
    | (with_reducible apply State.bump_frame) | extract_lets | split | (dsimp -zeta only) | (dsimp +zetaDelta -zeta only)

theorem infraUndo_frame {m : Nat} {s0 s : State} (hm : sub 0x106110001 m = true) (h : Frame m s0 s) (w : Nat) :
    Frame m s0 (infraUndo s w) := by
  unfold infraUndo
  repeat' first
    | (with_reducible assumption) | (exact sub_trans rfl hm) | intro _ | (with_reducible apply Frame.ite)
    | (with_reducible apply Frame.ite_fst) | (with_reducible apply State.setHb_frame)
    | (with_reducible apply setLineField_frame) | extract_lets | split | (dsimp -zeta only) | (dsimp +zetaDelta -zeta only)

theorem infraApply_frame {m : Nat} {s0 s : State} (hm : sub 0x106110001 m = true) (h : Frame m s0 s) (w : Nat) :
    Frame m s0 (infraApply s w) := by
  unfold infraApply
  repeat' first
    | (with_reducible assumption) | (exact sub_trans rfl hm) | intro _ | (with_reducible apply Frame.ite)
    | (with_reducible apply Frame.ite_fst) | (with_reducible apply State.setHb_frame)
    | (with_reducible apply setLineField_frame) | extract_lets | split | (dsimp -zeta only) | (dsimp +zetaDelta -zeta only)

theorem reapplyPins_frame {m : Nat} {s0 s : State} (hm : sub 0x106110001 m = true) (h : Frame m s0 s) :
    Frame m s0 (reapplyPins s) := by
  unfold reapplyPins
  repeat' first
    | (with_reducible assumption) | (exact sub_trans rfl hm) | intro _ | (with_reducible apply infraApply_frame)
    | (with_reducible apply Frame.fold) | extract_lets | split | (dsimp -zeta only) | (dsimp +zetaDelta -zeta only)

theorem infraWrite_frame {m : Nat} {s0 s : State} (hm : sub 0x106110001 m = true) (h : Frame m s0 s) (i w : Nat) :
    Frame m s0 (infraWrite s i w) := by
  unfold infraWrite
  repeat' first
    | (with_reducible assumption) | (exact sub_trans rfl hm) | intro _ | (with_reducible apply Frame.ite)
    | (with_reducible apply Frame.ite_fst) | (with_reducible apply State.bump_frame) | (with_reducible apply infraUndo_frame)
    | (with_reducible apply State.setWord_frame) | (with_reducible apply State.putFwd_frame)
    | (with_reducible apply infraApply_frame) | extract_lets | split | (dsimp -zeta only) | (dsimp +zetaDelta -zeta only)

end Sys2Proof.Machine
end

