-- ==== Sys2Proof/Laws/FrameKeyOps.lean ====
section
/-!
SUPPORT. Which components the operations of Machine/KeyOps.lean may change (`Frame`).
-/

namespace Sys2Proof.Machine

set_option linter.unusedVariables false
set_option linter.unusedTactic false
set_option linter.unreachableTactic false

theorem putSlot_frame {m : Nat} {s0 s : State} (hm : sub 0x200000 m = true) (h : Frame m s0 s) (i : Nat) (e : EpochSlot) :
    Frame m s0 (putSlot s i e) := by
  unfold putSlot
  repeat' first
    | (with_reducible assumption) | (exact sub_trans rfl hm) | intro _ | (with_reducible apply State.putTree_frame)
    | extract_lets | split | (dsimp -zeta only) | (dsimp +zetaDelta -zeta only)

theorem viewTree_frame {m : Nat} {s0 s : State} (hm : sub 0x1 m = true) (h : Frame m s0 s) :
    Frame m s0 (viewTree s) := by
  unfold viewTree
  repeat' first
    | (with_reducible assumption) | (exact sub_trans rfl hm) | intro _ | (with_reducible apply State.set_frame) | extract_lets
    | split | (dsimp -zeta only) | (dsimp +zetaDelta -zeta only)

theorem treeChanged_frame {m : Nat} {s0 s : State} (hm : sub 0x104000001 m = true) (h : Frame m s0 s) (op : Nat) (args : List Nat) :
    Frame m s0 (treeChanged s op args) := by
  unfold treeChanged
  repeat' first
    | (with_reducible assumption) | (exact sub_trans rfl hm) | intro _ | (with_reducible apply mirror_frame)
    | (with_reducible apply viewTree_frame) | extract_lets | split | (dsimp -zeta only) | (dsimp +zetaDelta -zeta only)

theorem cacheTouch_frame {m : Nat} {s0 s : State} (hm : sub 0x100000 m = true) (h : Frame m s0 s) (t : CacheTag) :
    Frame m s0 (cacheTouch s t) := by
  unfold cacheTouch
  repeat' first
    | (with_reducible assumption) | (exact sub_trans rfl hm) | intro _ | (with_reducible apply State.putSec_frame)
    | extract_lets | split | (dsimp -zeta only) | (dsimp +zetaDelta -zeta only)

theorem cacheFill_frame {m : Nat} {s0 s : State} (hm : sub 0x100001 m = true) (h : Frame m s0 s) (t : CacheTag) :
    Frame m s0 (cacheFill s t) := by
  unfold cacheFill
  repeat' first
    | (with_reducible assumption) | (exact sub_trans rfl hm) | intro _ | (with_reducible apply cacheTouch_frame)
    | (with_reducible apply State.bump_frame) | extract_lets | split | (dsimp -zeta only) | (dsimp +zetaDelta -zeta only)

theorem keyRequest_frame {m : Nat} {s0 s : State} (hm : sub 0x100001 m = true) (h : Frame m s0 s) (n purpose : Nat) :
    Frame m s0 (keyRequest s n purpose) := by
  unfold keyRequest
  repeat' first
    | (with_reducible assumption) | (exact sub_trans rfl hm) | intro _ | (with_reducible apply Frame.ite)
    | (with_reducible apply Frame.ite_fst) | (with_reducible apply cacheTouch_frame) | (with_reducible apply cacheFill_frame)
    | extract_lets | split | (dsimp -zeta only) | (dsimp +zetaDelta -zeta only)

theorem reserve_frame {m : Nat} {s0 s : State} (hm : sub 0x104000001 m = true) (h : Frame m s0 s) (key : Nat) (district : Bool) (c : Nat) :
    Frame m s0 (reserve s key district c) := by
  unfold reserve
  repeat' first
    | (with_reducible assumption) | (exact sub_trans rfl hm) | intro _ | (with_reducible apply Frame.ite)
    | (with_reducible apply Frame.ite_fst) | (with_reducible apply mirror_frame) | (with_reducible apply State.putPair_frame)
    | extract_lets | split | (dsimp -zeta only) | (dsimp +zetaDelta -zeta only)

theorem restartBcast_frame {m : Nat} {s0 s : State} (hm : sub 0x4200000 m = true) (h : Frame m s0 s) (d : Nat) :
    Frame m s0 (restartBcast s d) := by
  unfold restartBcast
  repeat' first
    | (with_reducible assumption) | (exact sub_trans rfl hm) | intro _ | (with_reducible apply State.putTree_frame)
    | (with_reducible apply State.putPair_frame) | extract_lets | split | (dsimp -zeta only) | (dsimp +zetaDelta -zeta only)

end Sys2Proof.Machine
end

