-- ==== Sys2Proof/Laws/FrameSchedOps.lean ====
section
/-!
SUPPORT. Which components the operations of Machine/SchedOps.lean may change (`Frame`).
-/

namespace Sys2Proof.Machine

set_option linter.unusedVariables false
set_option linter.unusedTactic false
set_option linter.unreachableTactic false

theorem State.setFrame_frame {m : Nat} {s0 s : State} (hm : sub 0x20000 m = true) (h : Frame m s0 s) (h : Nat) (f : TxFrame) :
    Frame m s0 (State.setFrame s h f) := by
  unfold State.setFrame
  repeat' first
    | (with_reducible assumption) | (exact sub_trans rfl hm) | intro _ | (with_reducible apply State.putSched_frame)
    | extract_lets | split | (dsimp -zeta only) | (dsimp +zetaDelta -zeta only)

theorem keepFrame_frame {m : Nat} {s0 s : State} (hm : sub 0x20000 m = true) (h : Frame m s0 s) (f : TxFrame) :
    Frame m s0 (keepFrame s f).1 := by
  unfold keepFrame
  repeat' first
    | (with_reducible assumption) | (exact sub_trans rfl hm) | intro _ | (with_reducible apply State.putSched_frame)
    | extract_lets | split | (dsimp -zeta only) | (dsimp +zetaDelta -zeta only)

theorem storeFrame_frame {m : Nat} {s0 s : State} (hm : sub 0x24000 m = true) (h : Frame m s0 s) (f : TxFrame) :
    Frame m s0 (storeFrame s f).1 := by
  unfold storeFrame
  repeat' first
    | (with_reducible assumption) | (exact sub_trans rfl hm) | intro _ | (with_reducible apply keepFrame_frame)
    | (with_reducible apply State.putPsm_frame) | (with_reducible refine Frame.of_pair (by assumption) ?_) | extract_lets
    | split | (dsimp -zeta only) | (dsimp +zetaDelta -zeta only)

theorem viewDownlink_frame {m : Nat} {s0 s : State} (hm : sub 0x106110001 m = true) (h : Frame m s0 s) (a : Nat) :
    Frame m s0 (viewDownlink s a) := by
  unfold viewDownlink
  repeat' first
    | (with_reducible assumption) | (exact sub_trans rfl hm) | intro _ | (with_reducible apply setLineField_frame)
    | extract_lets | split | (dsimp -zeta only) | (dsimp +zetaDelta -zeta only)

theorem removeFrame_frame {m : Nat} {s0 s : State} (hm : sub 0x106130001 m = true) (h : Frame m s0 s) (h : Nat) :
    Frame m s0 (removeFrame s h) := by
  unfold removeFrame
  repeat' first
    | (with_reducible assumption) | (exact sub_trans rfl hm) | intro _ | (with_reducible apply Frame.ite)
    | (with_reducible apply Frame.ite_fst) | (with_reducible apply mirror_frame) | (with_reducible apply State.putSched_frame)
    | (with_reducible apply viewDownlink_frame) | extract_lets | split | (dsimp -zeta only) | (dsimp +zetaDelta -zeta only)

theorem dropAgreement_frame {m : Nat} {s0 s : State} (hm : sub 0x8000 m = true) (h : Frame m s0 s) (n : Nat) :
    Frame m s0 (dropAgreement s n) := by
  unfold dropAgreement
  repeat' first
    | (with_reducible assumption) | (exact sub_trans rfl hm) | intro _ | (with_reducible apply State.putDrift_frame)
    | extract_lets | split | (dsimp -zeta only) | (dsimp +zetaDelta -zeta only)

theorem dropFrame_frame {m : Nat} {s0 s : State} (hm : sub 0x106138001 m = true) (h : Frame m s0 s) (h : Nat) :
    Frame m s0 (dropFrame s h) := by
  unfold dropFrame
  repeat' first
    | (with_reducible assumption) | (exact sub_trans rfl hm) | intro _ | (with_reducible apply removeFrame_frame)
    | (with_reducible apply dropAgreement_frame) | extract_lets | split | (dsimp -zeta only) | (dsimp +zetaDelta -zeta only)

theorem discardFrame_frame {m : Nat} {s0 s : State} (hm : sub 0x106138001 m = true) (h : Frame m s0 s) (h : Nat) :
    Frame m s0 (discardFrame s h) := by
  unfold discardFrame
  repeat' first
    | (with_reducible assumption) | (exact sub_trans rfl hm) | intro _ | (with_reducible apply dropFrame_frame)
    | (with_reducible apply State.bump_frame) | extract_lets | split | (dsimp -zeta only) | (dsimp +zetaDelta -zeta only)

theorem flushDownlink_frame {m : Nat} {s0 s : State} (hm : sub 0x106138001 m = true) (h : Frame m s0 s) (a : Nat) :
    Frame m s0 (flushDownlink s a) := by
  unfold flushDownlink
  repeat' first
    | (with_reducible assumption) | (exact sub_trans rfl hm) | intro _ | (with_reducible apply discardFrame_frame)
    | (with_reducible apply Frame.fold) | extract_lets | split | (dsimp -zeta only) | (dsimp +zetaDelta -zeta only)

theorem flushAllDownlink_frame {m : Nat} {s0 s : State} (hm : sub 0x106138001 m = true) (h : Frame m s0 s) :
    Frame m s0 (flushAllDownlink s) := by
  unfold flushAllDownlink
  repeat' first
    | (with_reducible assumption) | (exact sub_trans rfl hm) | intro _ | (with_reducible apply flushDownlink_frame)
    | (with_reducible apply Frame.fold) | extract_lets | split | (dsimp -zeta only) | (dsimp +zetaDelta -zeta only)

theorem recordDelay_frame {m0 : Nat} {s0 s : State} (hm : sub 0x1 m0 = true) (h : Frame m0 s0 s) (m ns : Nat) :
    Frame m0 s0 (recordDelay s m ns) := by
  unfold recordDelay
  repeat' first
    | (with_reducible assumption) | (exact sub_trans rfl hm) | intro _ | (with_reducible apply Frame.ite)
    | (with_reducible apply Frame.ite_fst) | (with_reducible apply State.bump_frame) | (with_reducible apply State.set_frame)
    | extract_lets | split | (dsimp -zeta only) | (dsimp +zetaDelta -zeta only)

theorem sampleDelay_frame {m0 : Nat} {s0 s : State} (hm : sub 0x20001 m0 = true) (h : Frame m0 s0 s) (m cls ns : Nat) :
    Frame m0 s0 (sampleDelay s m cls ns) := by
  unfold sampleDelay
  repeat' first
    | (with_reducible assumption) | (exact sub_trans rfl hm) | intro _ | (with_reducible apply Frame.ite)
    | (with_reducible apply Frame.ite_fst) | (with_reducible apply recordDelay_frame)
    | (with_reducible apply State.putSched_frame) | extract_lets | split | (dsimp -zeta only) | (dsimp +zetaDelta -zeta only)

theorem crimsonCheck_frame {m : Nat} {s0 s : State} (hm : sub 0x80840021 m = true) (h : Frame m s0 s) (bound ns node : Nat) :
    Frame m s0 (crimsonCheck s bound ns node) := by
  unfold crimsonCheck
  repeat' first
    | (with_reducible assumption) | (exact sub_trans rfl hm) | intro _ | (with_reducible apply Frame.ite)
    | (with_reducible apply Frame.ite_fst) | (with_reducible apply postEvent_frame) | (with_reducible apply State.bump_frame)
    | extract_lets | split | (dsimp -zeta only) | (dsimp +zetaDelta -zeta only)

theorem policeCrimson_frame {m : Nat} {s0 s : State} (hm : sub 0x80860021 m = true) (h : Frame m s0 s) (len : Nat) :
    Frame m s0 (policeCrimson s len).1 := by
  unfold policeCrimson
  repeat' first
    | (with_reducible assumption) | (exact sub_trans rfl hm) | intro _ | (with_reducible apply Frame.ite)
    | (with_reducible apply Frame.ite_fst) | (with_reducible apply State.putSched_frame)
    | (with_reducible apply postEvent_frame) | (with_reducible apply State.bump_frame) | extract_lets | split
    | (dsimp -zeta only) | (dsimp +zetaDelta -zeta only)

theorem viewImap_frame {m : Nat} {s0 s : State} (hm : sub 0x1 m = true) (h : Frame m s0 s) :
    Frame m s0 (viewImap s) := by
  unfold viewImap
  repeat' first
    | (with_reducible assumption) | (exact sub_trans rfl hm) | intro _ | (with_reducible apply State.set_frame)
    | (with_reducible apply State.setBit_frame) | extract_lets | split | (dsimp -zeta only) | (dsimp +zetaDelta -zeta only)

theorem freeMapEntry_frame {m : Nat} {s0 s : State} (hm : sub 0x2001 m = true) (h : Frame m s0 s) (n : Nat) :
    Frame m s0 (freeMapEntry s n) := by
  unfold freeMapEntry
  repeat' first
    | (with_reducible assumption) | (exact sub_trans rfl hm) | intro _ | (with_reducible apply viewImap_frame)
    | (with_reducible apply State.putImap_frame) | extract_lets | split | (dsimp -zeta only) | (dsimp +zetaDelta -zeta only)

theorem loseNode_frame {m : Nat} {s0 s : State} (hm : sub 0x18697A021 m = true) (h : Frame m s0 s) (n : Nat) :
    Frame m s0 (loseNode s n) := by
  unfold loseNode
  repeat' first
    | (with_reducible assumption) | (exact sub_trans rfl hm) | intro _ | (with_reducible apply setLineField_frame)
    | (with_reducible apply flushDownlink_frame) | (with_reducible apply freeMapEntry_frame)
    | (with_reducible apply postEvent_frame) | (with_reducible apply State.bump_frame) | extract_lets | split
    | (dsimp -zeta only) | (dsimp +zetaDelta -zeta only)

theorem keepDrr_frame {m : Nat} {s0 s : State} (hm : sub 0x20000 m = true) (h : Frame m s0 s) (point : Nat) (p : DrrPlace) :
    Frame m s0 (keepDrr s point p) := by
  unfold keepDrr
  repeat' first
    | (with_reducible assumption) | (exact sub_trans rfl hm) | intro _ | (with_reducible apply State.putSched_frame)
    | (with_reducible apply Frame.foldl_fst) | extract_lets | split | (dsimp -zeta only) | (dsimp +zetaDelta -zeta only)

theorem nextClass_frame {m : Nat} {s0 s : State} (hm : sub 0x20000 m = true) (h : Frame m s0 s) (point : Nat) (head : Nat → Option Nat) (ok lone : Nat → Bool) :
    Frame m s0 (nextClass s point head ok lone).1 := by
  unfold nextClass
  repeat' first
    | (with_reducible assumption) | (exact sub_trans rfl hm) | intro _ | (with_reducible apply Frame.ite)
    | (with_reducible apply Frame.ite_fst) | (with_reducible apply keepDrr_frame) | extract_lets | split | (dsimp -zeta only)
    | (dsimp +zetaDelta -zeta only)

theorem nextDownlink_frame {m : Nat} {s0 s : State} (hm : sub 0x20000 m = true) (h : Frame m s0 s) (a : Nat) :
    Frame m s0 (nextDownlink s a).1 := by
  unfold nextDownlink
  repeat' first
    | (with_reducible assumption) | (exact sub_trans rfl hm) | intro _ | (with_reducible apply nextClass_frame)
    | (with_reducible refine Frame.of_pair (by assumption) ?_) | extract_lets | split | (dsimp -zeta only)
    | (dsimp +zetaDelta -zeta only)

theorem takeVirtual_frame {m : Nat} {s0 s : State} (hm : sub 0x20000 m = true) (h : Frame m s0 s) (h : Nat) :
    Frame m s0 (takeVirtual s h) := by
  unfold takeVirtual
  repeat' first
    | (with_reducible assumption) | (exact sub_trans rfl hm) | intro _ | (with_reducible apply State.putSched_frame)
    | extract_lets | split | (dsimp -zeta only) | (dsimp +zetaDelta -zeta only)

theorem takeCounter_frame {m : Nat} {s0 s : State} (hm : sub 0x106110001 m = true) (h : Frame m s0 s) (a : Nat) :
    Frame m s0 (takeCounter s a).1 := by
  unfold takeCounter
  repeat' first
    | (with_reducible assumption) | (exact sub_trans rfl hm) | intro _ | (with_reducible apply reserve_frame)
    | (with_reducible apply setLineField_frame) | extract_lets | split | (dsimp -zeta only) | (dsimp +zetaDelta -zeta only)

theorem checkExhausted_frame {m : Nat} {s0 s : State} (hm : sub 0x18697A021 m = true) (h : Frame m s0 s) (a : Nat) :
    Frame m s0 (checkExhausted s a) := by
  unfold checkExhausted
  repeat' first
    | (with_reducible assumption) | (exact sub_trans rfl hm) | intro _ | (with_reducible apply Frame.ite)
    | (with_reducible apply Frame.ite_fst) | (with_reducible apply loseNode_frame) | extract_lets | split | (dsimp -zeta only)
    | (dsimp +zetaDelta -zeta only)

theorem enqueueDown_frame {m : Nat} {s0 s : State} (hm : sub 0x18697E021 m = true) (h : Frame m s0 s) (hops : List Nat) (final : Nat) (kind : FrameKind) (purpose cls len : Nat) (stamp : Option Nat) :
    Frame m s0 (enqueueDown s hops final kind purpose cls len stamp).1 := by
  unfold enqueueDown
  repeat' first
    | (with_reducible assumption) | (exact sub_trans rfl hm) | intro _ | (with_reducible apply Frame.ite)
    | (with_reducible apply Frame.ite_fst) | (with_reducible apply State.bump_frame)
    | (with_reducible apply checkExhausted_frame) | (with_reducible apply takeCounter_frame)
    | (with_reducible apply keyRequest_frame) | (with_reducible apply storeFrame_frame)
    | (with_reducible apply viewDownlink_frame) | (with_reducible apply State.putSched_frame)
    | (with_reducible apply mirror_frame) | (with_reducible refine Frame.of_pair (by assumption) ?_) | extract_lets | split
    | (dsimp -zeta only) | (dsimp +zetaDelta -zeta only)

theorem sendDown_frame {m : Nat} {s0 s : State} (hm : sub 0x18697E021 m = true) (h : Frame m s0 s) (n : Nat) (kind : List Nat → FrameKind) (purpose cls : Nat) (len : List Nat → Nat) (stamp : Option Nat) :
    Frame m s0 (sendDown s n kind purpose cls len stamp).1 := by
  unfold sendDown
  repeat' first
    | (with_reducible assumption) | (exact sub_trans rfl hm) | intro _ | (with_reducible apply Frame.ite)
    | (with_reducible apply Frame.ite_fst) | (with_reducible apply routeFailed_frame) | (with_reducible apply consumeLine_frame)
    | (with_reducible apply enqueueDown_frame) | (with_reducible refine Frame.of_pair (by assumption) ?_) | extract_lets | split
    | (dsimp -zeta only) | (dsimp +zetaDelta -zeta only)

theorem sendDirect_frame {m : Nat} {s0 s : State} (hm : sub 0x18697E021 m = true) (h : Frame m s0 s) (n : Nat) (kind : FrameKind) (purpose len : Nat) :
    Frame m s0 (sendDirect s n kind purpose len).1 := by
  unfold sendDirect
  repeat' first
    | (with_reducible assumption) | (exact sub_trans rfl hm) | intro _ | (with_reducible apply Frame.ite)
    | (with_reducible apply Frame.ite_fst) | (with_reducible apply consumeLine_frame) | (with_reducible apply enqueueDown_frame)
    | extract_lets | split | (dsimp -zeta only) | (dsimp +zetaDelta -zeta only)

theorem issueFrame_frame {m : Nat} {s0 s : State} (hm : sub 0x18697A021 m = true) (h : Frame m s0 s) (h : Nat) :
    Frame m s0 (issueFrame s h).1 := by
  unfold issueFrame
  repeat' first
    | (with_reducible assumption) | (exact sub_trans rfl hm) | intro _ | (with_reducible apply Frame.ite)
    | (with_reducible apply Frame.ite_fst) | (with_reducible apply consumePoison_frame) | (with_reducible apply dropFrame_frame)
    | (with_reducible apply State.bump_frame) | (with_reducible apply checkExhausted_frame)
    | (with_reducible apply takeCounter_frame) | (with_reducible apply State.putSched_frame)
    | (with_reducible apply State.setFrame_frame) | (with_reducible refine Frame.of_pair (by assumption) ?_) | extract_lets
    | split | (dsimp -zeta only) | (dsimp +zetaDelta -zeta only)

theorem putGroup_frame {m : Nat} {s0 s : State} (hm : sub 0x10001 m = true) (h : Frame m s0 s) (g : Nat) (l : List (Nat × Nat)) :
    Frame m s0 (putGroup s g l) := by
  unfold putGroup
  repeat' first
    | (with_reducible assumption) | (exact sub_trans rfl hm) | intro _ | (with_reducible apply State.putFwd_frame)
    | (with_reducible apply State.set_frame) | extract_lets | split | (dsimp -zeta only) | (dsimp +zetaDelta -zeta only)

theorem flushDistrict_frame {m : Nat} {s0 s : State} (hm : sub 0x106138001 m = true) (h : Frame m s0 s) (d : Nat) :
    Frame m s0 (flushDistrict s d) := by
  unfold flushDistrict
  repeat' first
    | (with_reducible assumption) | (exact sub_trans rfl hm) | intro _ | (with_reducible apply Frame.ite)
    | (with_reducible apply Frame.ite_fst) | (with_reducible apply putGroup_frame) | (with_reducible apply discardFrame_frame)
    | (with_reducible apply Frame.fold) | extract_lets | split | (dsimp -zeta only) | (dsimp +zetaDelta -zeta only)

theorem checkBcast_frame {m : Nat} {s0 s : State} (hm : sub 0x186B78021 m = true) (h : Frame m s0 s) (d : Nat) :
    Frame m s0 (checkBcast s d) := by
  unfold checkBcast
  repeat' first
    | (with_reducible assumption) | (exact sub_trans rfl hm) | intro _ | (with_reducible apply Frame.ite)
    | (with_reducible apply Frame.ite_fst) | (with_reducible apply flushDistrict_frame) | (with_reducible apply postEvent_frame)
    | (with_reducible apply State.putTree_frame) | extract_lets | split | (dsimp -zeta only) | (dsimp +zetaDelta -zeta only)

theorem sendGroup_frame {m : Nat} {s0 s : State} (hm : sub 0x186B7C021 m = true) (h : Frame m s0 s) (g cls len : Nat) (payload : List Byte) :
    Frame m s0 (sendGroup s g cls len payload).1 := by
  unfold sendGroup
  repeat' first
    | (with_reducible assumption) | (exact sub_trans rfl hm) | intro _ | (with_reducible apply Frame.ite)
    | (with_reducible apply Frame.ite_fst) | (with_reducible apply State.bump_frame) | (with_reducible apply checkBcast_frame)
    | (with_reducible apply State.putTree_frame) | (with_reducible apply reserve_frame)
    | (with_reducible apply storeFrame_frame) | (with_reducible apply putGroup_frame)
    | (with_reducible refine Frame.of_pair (by assumption) ?_) | extract_lets | split | (dsimp -zeta only)
    | (dsimp +zetaDelta -zeta only)

end Sys2Proof.Machine
end

