-- ==== Sys2Proof/Laws/FrameRadioOps.lean ====
section
/-!
SUPPORT. Which components the operations of Machine/RadioOps.lean may change (`Frame`).
-/

namespace Sys2Proof.Machine

set_option linter.unusedVariables false
set_option linter.unusedTactic false
set_option linter.unreachableTactic false

theorem reachStep8_frame {m : Nat} {s0 s : State} (hm : sub 0x4000001 m = true) (h : Frame m s0 s) :
    Frame m s0 (reachStep8 s) := by
  unfold reachStep8
  repeat' first
    | (with_reducible assumption) | (exact sub_trans rfl hm) | intro _ | (with_reducible apply State.set_frame)
    | (with_reducible apply State.putPair_frame) | extract_lets | split | (dsimp -zeta only) | (dsimp +zetaDelta -zeta only)

theorem bumpTrx_frame {m : Nat} {s0 s : State} (hm : sub 0x101 m = true) (h : Frame m s0 s) (n : Nat) (f : Fld) :
    Frame m s0 (bumpTrx s n f) := by
  unfold bumpTrx
  repeat' first
    | (with_reducible assumption) | (exact sub_trans rfl hm) | intro _ | (with_reducible apply Frame.ite)
    | (with_reducible apply Frame.ite_fst) | (with_reducible apply State.bump_frame)
    | (with_reducible apply State.setPath_frame) | extract_lets | split | (dsimp -zeta only) | (dsimp +zetaDelta -zeta only)

theorem setTrx_frame {m : Nat} {s0 s : State} (hm : sub 0x1 m = true) (h : Frame m s0 s) (n : Nat) (f : Fld) (v : Nat) :
    Frame m s0 (setTrx s n f v) := by
  unfold setTrx
  repeat' first
    | (with_reducible assumption) | (exact sub_trans rfl hm) | intro _ | (with_reducible apply Frame.ite)
    | (with_reducible apply Frame.ite_fst) | (with_reducible apply State.set_frame) | extract_lets | split | (dsimp -zeta only)
    | (dsimp +zetaDelta -zeta only)

theorem viewLag_frame {m : Nat} {s0 s : State} (hm : sub 0x1 m = true) (h : Frame m s0 s) (n : Nat) :
    Frame m s0 (viewLag s n) := by
  unfold viewLag
  repeat' first
    | (with_reducible assumption) | (exact sub_trans rfl hm) | intro _ | (with_reducible apply setTrx_frame) | extract_lets
    | split | (dsimp -zeta only) | (dsimp +zetaDelta -zeta only)

theorem writeAssignment_frame {m : Nat} {s0 s : State} (hm : sub 0x1 m = true) (h : Frame m s0 s) (e : Nat) (a : Assignment) :
    Frame m s0 (writeAssignment s e a) := by
  unfold writeAssignment
  repeat' first
    | (with_reducible assumption) | (exact sub_trans rfl hm) | intro _ | (with_reducible apply State.set_frame) | extract_lets
    | split | (dsimp -zeta only) | (dsimp +zetaDelta -zeta only)

theorem takeAssignment_frame {m : Nat} {s0 s : State} (hm : sub 0x80840821 m = true) (h : Frame m s0 s) (e : Nat) (l : EngineLoad) :
    Frame m s0 (takeAssignment s e l) := by
  unfold takeAssignment
  repeat' first
    | (with_reducible assumption) | (exact sub_trans rfl hm) | intro _ | (with_reducible apply Frame.ite)
    | (with_reducible apply Frame.ite_fst) | (with_reducible apply State.setCe_frame) | (with_reducible apply State.set_frame)
    | (with_reducible apply viewLag_frame) | (with_reducible apply writeAssignment_frame)
    | (with_reducible apply pushItem_frame) | (with_reducible apply postEvent_frame) | (with_reducible apply State.bump_frame)
    | extract_lets | split | (dsimp -zeta only) | (dsimp +zetaDelta -zeta only)

theorem backToSearch_frame {m : Nat} {s0 s : State} (hm : sub 0x80840821 m = true) (h : Frame m s0 s) (e : Nat) :
    Frame m s0 (backToSearch s e) := by
  unfold backToSearch
  repeat' first
    | (with_reducible assumption) | (exact sub_trans rfl hm) | intro _ | (with_reducible apply takeAssignment_frame)
    | (with_reducible apply State.set_frame) | extract_lets | split | (dsimp -zeta only) | (dsimp +zetaDelta -zeta only)

theorem giveLoad_frame {m : Nat} {s0 s : State} (hm : sub 0x80840821 m = true) (h : Frame m s0 s) (e : Nat) (l : EngineLoad) :
    Frame m s0 (giveLoad s e l) := by
  unfold giveLoad
  repeat' first
    | (with_reducible assumption) | (exact sub_trans rfl hm) | intro _ | (with_reducible apply Frame.ite)
    | (with_reducible apply Frame.ite_fst) | (with_reducible apply State.setCe_frame) | (with_reducible apply State.set_frame)
    | (with_reducible apply takeAssignment_frame) | extract_lets | split | (dsimp -zeta only) | (dsimp +zetaDelta -zeta only)

theorem blankPath_frame {m : Nat} {s0 s : State} (hm : sub 0x101 m = true) (h : Frame m s0 s) (n : Nat) (f : Fld) :
    Frame m s0 (blankPath s n f) := by
  unfold blankPath
  repeat' first
    | (with_reducible assumption) | (exact sub_trans rfl hm) | intro _ | (with_reducible apply Frame.ite)
    | (with_reducible apply Frame.ite_fst) | (with_reducible apply bumpTrx_frame) | (with_reducible apply State.set_frame)
    | (with_reducible apply Frame.fold) | extract_lets | split | (dsimp -zeta only) | (dsimp +zetaDelta -zeta only)

theorem unblankPath_frame {m : Nat} {s0 s : State} (hm : sub 0x80840821 m = true) (h : Frame m s0 s) (n : Nat) :
    Frame m s0 (unblankPath s n) := by
  unfold unblankPath
  repeat' first
    | (with_reducible assumption) | (exact sub_trans rfl hm) | intro _ | (with_reducible apply Frame.ite)
    | (with_reducible apply Frame.ite_fst) | (with_reducible apply backToSearch_frame) | (with_reducible apply Frame.fold)
    | extract_lets | split | (dsimp -zeta only) | (dsimp +zetaDelta -zeta only)

theorem issueSet_frame {m : Nat} {s0 s : State} (hm : sub 0x101 m = true) (h : Frame m s0 s) (n : Nat) (l : List Int) :
    Frame m s0 (issueSet s n l) := by
  unfold issueSet
  repeat' first
    | (with_reducible assumption) | (exact sub_trans rfl hm) | intro _ | (with_reducible apply Frame.ite)
    | (with_reducible apply Frame.ite_fst) | (with_reducible apply State.set_frame)
    | (with_reducible apply State.bumpWrap_frame) | (with_reducible apply viewLag_frame)
    | (with_reducible apply State.setPath_frame) | extract_lets | split | (dsimp -zeta only) | (dsimp +zetaDelta -zeta only)

theorem offerSet_frame {m : Nat} {s0 s : State} (hm : sub 0x101 m = true) (h : Frame m s0 s) (n : Nat) (l : List Int) :
    Frame m s0 (offerSet s n l) := by
  unfold offerSet
  repeat' first
    | (with_reducible assumption) | (exact sub_trans rfl hm) | intro _ | (with_reducible apply Frame.ite)
    | (with_reducible apply Frame.ite_fst) | (with_reducible apply issueSet_frame) | (with_reducible apply State.setPath_frame)
    | extract_lets | split | (dsimp -zeta only) | (dsimp +zetaDelta -zeta only)

theorem putTxSet_frame {m : Nat} {s0 s : State} (hm : sub 0x101 m = true) (h : Frame m s0 s) (n : Nat) (l : List Int) :
    Frame m s0 (putTxSet s n l) := by
  unfold putTxSet
  repeat' first
    | (with_reducible assumption) | (exact sub_trans rfl hm) | intro _ | (with_reducible apply State.setPath_frame)
    | (with_reducible apply State.set_frame) | extract_lets | split | (dsimp -zeta only) | (dsimp +zetaDelta -zeta only)

theorem markMirror_frame {m : Nat} {s0 s : State} (hm : sub 0x104000801 m = true) (h : Frame m s0 s) (e : Nat) :
    Frame m s0 (markMirror s e) := by
  unfold markMirror
  repeat' first
    | (with_reducible assumption) | (exact sub_trans rfl hm) | intro _ | (with_reducible apply State.setCe_frame)
    | (with_reducible apply mirror_frame) | (with_reducible apply Frame.fold) | extract_lets | split | (dsimp -zeta only)
    | (dsimp +zetaDelta -zeta only)

theorem collectImage_frame {m : Nat} {s0 s : State} (hm : sub 0x100 m = true) (h : Frame m s0 s) (e node : Nat) (image : List Int) :
    Frame m s0 (collectImage s e node image) := by
  unfold collectImage
  repeat' first
    | (with_reducible assumption) | (exact sub_trans rfl hm) | intro _ | (with_reducible apply Frame.ite)
    | (with_reducible apply Frame.ite_fst) | (with_reducible apply State.setPath_frame) | (with_reducible apply Frame.fold)
    | extract_lets | split | (dsimp -zeta only) | (dsimp +zetaDelta -zeta only)

theorem viewHealth_frame {m : Nat} {s0 s : State} (hm : sub 0x80840021 m = true) (h : Frame m s0 s) (n : Nat) :
    Frame m s0 (viewHealth s n) := by
  unfold viewHealth
  repeat' first
    | (with_reducible assumption) | (exact sub_trans rfl hm) | intro _ | (with_reducible apply Frame.ite)
    | (with_reducible apply Frame.ite_fst) | (with_reducible apply State.setBit_frame) | (with_reducible apply postEvent_frame)
    | extract_lets | split | (dsimp -zeta only) | (dsimp +zetaDelta -zeta only)

theorem issueTxSet_frame {m : Nat} {s0 s : State} (hm : sub 0x80840121 m = true) (h : Frame m s0 s) (n : Nat) :
    Frame m s0 (issueTxSet s n) := by
  unfold issueTxSet
  repeat' first
    | (with_reducible assumption) | (exact sub_trans rfl hm) | intro _ | (with_reducible apply putTxSet_frame)
    | (with_reducible apply viewHealth_frame) | (with_reducible apply State.set_frame) | (with_reducible apply State.drew_frame)
    | extract_lets | split | (dsimp -zeta only) | (dsimp +zetaDelta -zeta only)

theorem viewTone_frame {m : Nat} {s0 s : State} (hm : sub 0x101 m = true) (h : Frame m s0 s) (n : Nat) :
    Frame m s0 (viewTone s n) := by
  unfold viewTone
  repeat' first
    | (with_reducible assumption) | (exact sub_trans rfl hm) | intro _ | (with_reducible apply Frame.ite)
    | (with_reducible apply Frame.ite_fst) | (with_reducible apply State.setPath_frame)
    | (with_reducible apply State.setBit_frame) | extract_lets | split | (dsimp -zeta only) | (dsimp +zetaDelta -zeta only)

theorem calResult_frame {m : Nat} {s0 s : State} (hm : sub 0x1 m = true) (h : Frame m s0 s) (n r : Nat) :
    Frame m s0 (calResult s n r) := by
  unfold calResult
  repeat' first
    | (with_reducible assumption) | (exact sub_trans rfl hm) | intro _ | (with_reducible apply State.set_frame) | extract_lets
    | split | (dsimp -zeta only) | (dsimp +zetaDelta -zeta only)

theorem calFail_frame {m : Nat} {s0 s : State} (hm : sub 0x80840021 m = true) (h : Frame m s0 s) (n op : Nat) :
    Frame m s0 (calFail s n op) := by
  unfold calFail
  repeat' first
    | (with_reducible assumption) | (exact sub_trans rfl hm) | intro _ | (with_reducible apply postEvent_frame) | extract_lets
    | split | (dsimp -zeta only) | (dsimp +zetaDelta -zeta only)

theorem endRequest_frame {m : Nat} {s0 s : State} (hm : sub 0x80840921 m = true) (h : Frame m s0 s) (n : Nat) :
    Frame m s0 (endRequest s n) := by
  unfold endRequest
  repeat' first
    | (with_reducible assumption) | (exact sub_trans rfl hm) | intro _ | (with_reducible apply State.setPath_frame)
    | (with_reducible apply unblankPath_frame) | (with_reducible apply State.set_frame) | extract_lets | split
    | (dsimp -zeta only) | (dsimp +zetaDelta -zeta only)

theorem stopRequest_frame {m : Nat} {s0 s : State} (hm : sub 0x80840921 m = true) (h : Frame m s0 s) (n : Nat) :
    Frame m s0 (stopRequest s n) := by
  unfold stopRequest
  repeat' first
    | (with_reducible assumption) | (exact sub_trans rfl hm) | intro _ | (with_reducible apply endRequest_frame)
    | (with_reducible apply State.setPath_frame) | extract_lets | split | (dsimp -zeta only) | (dsimp +zetaDelta -zeta only)

theorem sliceWaits_frame {m : Nat} {s0 s : State} (hm : sub 0x101 m = true) (h : Frame m s0 s) (n : Nat) :
    Frame m s0 (sliceWaits s n) := by
  unfold sliceWaits
  repeat' first
    | (with_reducible assumption) | (exact sub_trans rfl hm) | intro _ | (with_reducible apply Frame.ite)
    | (with_reducible apply Frame.ite_fst) | (with_reducible apply State.setPath_frame) | (with_reducible apply calResult_frame)
    | (with_reducible apply State.set_frame) | extract_lets | split | (dsimp -zeta only) | (dsimp +zetaDelta -zeta only)

theorem sliceBegins_frame {m : Nat} {s0 s : State} (hm : sub 0x101 m = true) (h : Frame m s0 s) (n : Nat) :
    Frame m s0 (sliceBegins s n) := by
  unfold sliceBegins
  repeat' first
    | (with_reducible assumption) | (exact sub_trans rfl hm) | intro _ | (with_reducible apply Frame.ite)
    | (with_reducible apply Frame.ite_fst) | (with_reducible apply State.setPath_frame) | (with_reducible apply calResult_frame)
    | (with_reducible apply State.set_frame) | (with_reducible apply sliceWaits_frame) | extract_lets | split
    | (dsimp -zeta only) | (dsimp +zetaDelta -zeta only)

theorem calPreempt_frame {m : Nat} {s0 s : State} (hm : sub 0x80840921 m = true) (h : Frame m s0 s) (n : Nat) :
    Frame m s0 (calPreempt s n) := by
  unfold calPreempt
  repeat' first
    | (with_reducible assumption) | (exact sub_trans rfl hm) | intro _ | (with_reducible apply Frame.ite)
    | (with_reducible apply Frame.ite_fst) | (with_reducible apply stopRequest_frame) | (with_reducible apply State.bump_frame)
    | (with_reducible apply calFail_frame) | (with_reducible apply calResult_frame) | extract_lets | split | (dsimp -zeta only)
    | (dsimp +zetaDelta -zeta only)

theorem completion_frame {m : Nat} {s0 s : State} (hm : sub 0x40001 m = true) (h : Frame m s0 s) (te : Nat) (status late stamp frac : Nat) :
    Frame m s0 (completion s te status late stamp frac) := by
  unfold completion
  repeat' first
    | (with_reducible assumption) | (exact sub_trans rfl hm) | intro _ | (with_reducible apply Frame.ite)
    | (with_reducible apply Frame.ite_fst) | (with_reducible apply pushItem_frame) | extract_lets | split | (dsimp -zeta only)
    | (dsimp +zetaDelta -zeta only)

theorem abandonFrame_frame {m : Nat} {s0 s : State} (hm : sub 0x106130001 m = true) (h : Frame m s0 s) (h : Nat) :
    Frame m s0 (abandonFrame s h) := by
  unfold abandonFrame
  repeat' first
    | (with_reducible assumption) | (exact sub_trans rfl hm) | intro _ | (with_reducible apply removeFrame_frame)
    | (with_reducible apply State.bump_frame) | (with_reducible apply State.putSched_frame) | extract_lets | split
    | (dsimp -zeta only) | (dsimp +zetaDelta -zeta only)

theorem teGiveBack_frame {m : Nat} {s0 s : State} (hm : sub 0x106171001 m = true) (h : Frame m s0 s) (te status : Nat) :
    Frame m s0 (teGiveBack s te status) := by
  unfold teGiveBack
  repeat' first
    | (with_reducible assumption) | (exact sub_trans rfl hm) | intro _ | (with_reducible apply completion_frame)
    | (with_reducible apply State.setTe_frame) | (with_reducible apply State.set_frame)
    | (with_reducible apply abandonFrame_frame) | extract_lets | split | (dsimp -zeta only) | (dsimp +zetaDelta -zeta only)

theorem frontEndReceive_frame {m : Nat} {s0 s : State} (hm : sub 0x100 m = true) (h : Frame m s0 s) (n : Nat) :
    Frame m s0 (frontEndReceive s n) := by
  unfold frontEndReceive
  repeat' first
    | (with_reducible assumption) | (exact sub_trans rfl hm) | intro _ | (with_reducible apply State.setPath_frame)
    | extract_lets | split | (dsimp -zeta only) | (dsimp +zetaDelta -zeta only)

theorem dropInterval_frame {m : Nat} {s0 s : State} (hm : sub 0x106171101 m = true) (h : Frame m s0 s) (n status : Nat) :
    Frame m s0 (dropInterval s n status) := by
  unfold dropInterval
  repeat' first
    | (with_reducible assumption) | (exact sub_trans rfl hm) | intro _ | (with_reducible apply teGiveBack_frame)
    | (with_reducible apply frontEndReceive_frame) | (with_reducible apply State.setPath_frame)
    | (with_reducible apply Frame.fold) | extract_lets | split | (dsimp -zeta only) | (dsimp +zetaDelta -zeta only)

theorem observeEnd_frame {m : Nat} {s0 s : State} (hm : sub 0x80840121 m = true) (h : Frame m s0 s) (n : Nat) :
    Frame m s0 (observeEnd s n) := by
  unfold observeEnd
  repeat' first
    | (with_reducible assumption) | (exact sub_trans rfl hm) | intro _ | (with_reducible apply Frame.ite)
    | (with_reducible apply Frame.ite_fst) | (with_reducible apply State.setPath_frame)
    | (with_reducible apply issueTxSet_frame) | extract_lets | split | (dsimp -zeta only) | (dsimp +zetaDelta -zeta only)

theorem intervalOver_frame {m : Nat} {s0 s : State} (hm : sub 0x100 m = true) (h : Frame m s0 s) (n : Nat) :
    Frame m s0 (intervalOver s n) := by
  unfold intervalOver
  repeat' first
    | (with_reducible assumption) | (exact sub_trans rfl hm) | intro _ | (with_reducible apply State.setPath_frame)
    | extract_lets | split | (dsimp -zeta only) | (dsimp +zetaDelta -zeta only)

theorem intervalEnds_frame {m : Nat} {s0 s : State} (hm : sub 0x80840121 m = true) (h : Frame m s0 s) (n : Nat) :
    Frame m s0 (intervalEnds s n) := by
  unfold intervalEnds
  repeat' first
    | (with_reducible assumption) | (exact sub_trans rfl hm) | intro _ | (with_reducible apply Frame.ite)
    | (with_reducible apply Frame.ite_fst) | (with_reducible apply observeEnd_frame) | (with_reducible apply intervalOver_frame)
    | extract_lets | split | (dsimp -zeta only) | (dsimp +zetaDelta -zeta only)

theorem abortInterval_frame {m : Nat} {s0 s : State} (hm : sub 0x186971121 m = true) (h : Frame m s0 s) (n cause : Nat) :
    Frame m s0 (abortInterval s n cause) := by
  unfold abortInterval
  repeat' first
    | (with_reducible assumption) | (exact sub_trans rfl hm) | intro _ | (with_reducible apply Frame.ite)
    | (with_reducible apply Frame.ite_fst) | (with_reducible apply teGiveBack_frame) | (with_reducible apply bumpTrx_frame)
    | (with_reducible apply intervalOver_frame) | (with_reducible apply postEvent_frame) | (with_reducible apply Frame.fold)
    | extract_lets | split | (dsimp -zeta only) | (dsimp +zetaDelta -zeta only)

theorem closeRadioGate_frame {m : Nat} {s0 s : State} (hm : sub 0x186975121 m = true) (h : Frame m s0 s) :
    Frame m s0 (closeRadioGate s) := by
  unfold closeRadioGate
  repeat' first
    | (with_reducible assumption) | (exact sub_trans rfl hm) | intro _ | (with_reducible apply abortInterval_frame)
    | (with_reducible apply abandonFrame_frame) | (with_reducible apply State.putPsm_frame)
    | (with_reducible apply teGiveBack_frame) | (with_reducible apply Frame.fold) | extract_lets | split | (dsimp -zeta only)
    | (dsimp +zetaDelta -zeta only)

theorem engineEmpty_frame {m : Nat} {s0 s : State} (hm : sub 0x80041001 m = true) (h : Frame m s0 s) (te : Nat) :
    Frame m s0 (engineEmpty s te) := by
  unfold engineEmpty
  repeat' first
    | (with_reducible assumption) | (exact sub_trans rfl hm) | intro _ | (with_reducible apply completion_frame)
    | (with_reducible apply State.drew_frame) | (with_reducible apply State.setTe_frame)
    | (with_reducible apply State.set_frame) | extract_lets | split | (dsimp -zeta only) | (dsimp +zetaDelta -zeta only)

theorem rampInterval_frame {m : Nat} {s0 s : State} (hm : sub 0x18697F121 m = true) (h : Frame m s0 s) (n late : Nat) :
    Frame m s0 (rampInterval s n late) := by
  unfold rampInterval
  repeat' first
    | (with_reducible assumption) | (exact sub_trans rfl hm) | intro _ | (with_reducible apply Frame.ite)
    | (with_reducible apply Frame.ite_fst) | (with_reducible apply State.putPsm_frame)
    | (with_reducible apply State.setPath_frame) | (with_reducible apply issueFrame_frame)
    | (with_reducible apply State.emit_frame) | (with_reducible apply engineEmpty_frame)
    | (with_reducible apply State.set_frame) | (with_reducible apply Frame.fold) | (with_reducible apply Frame.foldl_fst)
    | (with_reducible refine Frame.of_pair (by assumption) ?_) | extract_lets | split | (dsimp -zeta only)
    | (dsimp +zetaDelta -zeta only)

theorem startWaiting_frame {m : Nat} {s0 s : State} (hm : sub 0x18697F121 m = true) (h : Frame m s0 s) (n : Nat) :
    Frame m s0 (startWaiting s n) := by
  unfold startWaiting
  repeat' first
    | (with_reducible assumption) | (exact sub_trans rfl hm) | intro _ | (with_reducible apply Frame.ite)
    | (with_reducible apply Frame.ite_fst) | (with_reducible apply rampInterval_frame) | extract_lets | split
    | (dsimp -zeta only) | (dsimp +zetaDelta -zeta only)

theorem jesdDown_frame {m : Nat} {s0 s : State} (hm : sub 0x186971121 m = true) (h : Frame m s0 s) (dir mask cause : Nat) :
    Frame m s0 (jesdDown s dir mask cause) := by
  unfold jesdDown
  repeat' first
    | (with_reducible assumption) | (exact sub_trans rfl hm) | intro _ | (with_reducible apply Frame.ite)
    | (with_reducible apply Frame.ite_fst) | (with_reducible apply State.bump_frame) | (with_reducible apply blankPath_frame)
    | (with_reducible apply State.set_frame) | (with_reducible apply abortInterval_frame)
    | (with_reducible apply postEvent_frame) | (with_reducible apply Frame.fold) | extract_lets | split | (dsimp -zeta only)
    | (dsimp +zetaDelta -zeta only)

theorem retune_frame {m : Nat} {s0 s : State} (hm : sub 0x101 m = true) (h : Frame m s0 s) (n centre : Nat) :
    Frame m s0 (retune s n centre) := by
  unfold retune
  repeat' first
    | (with_reducible assumption) | (exact sub_trans rfl hm) | intro _ | (with_reducible apply State.set_frame)
    | (with_reducible apply blankPath_frame) | (with_reducible apply State.setPath_frame) | extract_lets | split
    | (dsimp -zeta only) | (dsimp +zetaDelta -zeta only)

end Sys2Proof.Machine
end

