-- ==== Sys2Proof/Laws/FrameTimeOps.lean ====
section
/-!
SUPPORT. Which components the operations of Machine/TimeOps.lean may change (`Frame`).
-/

namespace Sys2Proof.Machine

set_option linter.unusedVariables false
set_option linter.unusedTactic false
set_option linter.unreachableTactic false

theorem putTbValue_frame {m : Nat} {s0 s : State} (hm : sub 0x80000 m = true) (h : Frame m s0 s) (v : Nat) :
    Frame m s0 (putTbValue s v) := by
  unfold putTbValue
  repeat' first
    | (with_reducible assumption) | (exact sub_trans rfl hm) | intro _ | (with_reducible apply State.putTb_frame) | extract_lets
    | split | (dsimp -zeta only) | (dsimp +zetaDelta -zeta only)

theorem tbEdge_frame {m : Nat} {s0 s : State} (hm : sub 0x80000 m = true) (h : Frame m s0 s) :
    Frame m s0 (tbEdge s) := by
  unfold tbEdge
  repeat' first
    | (with_reducible assumption) | (exact sub_trans rfl hm) | intro _ | (with_reducible apply Frame.ite)
    | (with_reducible apply Frame.ite_fst) | (with_reducible apply putTbValue_frame) | extract_lets | split | (dsimp -zeta only)
    | (dsimp +zetaDelta -zeta only)

theorem setQuality_frame {m : Nat} {s0 s : State} (hm : sub 0x80840021 m = true) (h : Frame m s0 s) (code err : Nat) :
    Frame m s0 (setQuality s code err) := by
  unfold setQuality
  repeat' first
    | (with_reducible assumption) | (exact sub_trans rfl hm) | intro _ | (with_reducible apply Frame.ite)
    | (with_reducible apply Frame.ite_fst) | (with_reducible apply State.set_frame) | (with_reducible apply postEvent_frame)
    | extract_lets | split | (dsimp -zeta only) | (dsimp +zetaDelta -zeta only)

theorem leaveBridged_frame {m : Nat} {s0 s : State} (hm : sub 0x80840021 m = true) (h : Frame m s0 s) :
    Frame m s0 (leaveBridged s) := by
  unfold leaveBridged
  repeat' first
    | (with_reducible assumption) | (exact sub_trans rfl hm) | intro _ | (with_reducible apply Frame.ite)
    | (with_reducible apply Frame.ite_fst) | (with_reducible apply setQuality_frame) | extract_lets | split | (dsimp -zeta only)
    | (dsimp +zetaDelta -zeta only)

theorem notOwner_frame {m : Nat} {s0 s : State} (hm : sub 0x1 m = true) (h : Frame m s0 s) :
    Frame m s0 (notOwner s) := by
  unfold notOwner
  repeat' first
    | (with_reducible assumption) | (exact sub_trans rfl hm) | intro _ | (with_reducible apply State.set_frame)
    | (with_reducible apply State.bump_frame) | extract_lets | split | (dsimp -zeta only) | (dsimp +zetaDelta -zeta only)

theorem refuseCorrection_frame {m : Nat} {s0 s : State} (hm : sub 0x1 m = true) (h : Frame m s0 s) (result : Nat) :
    Frame m s0 (refuseCorrection s result) := by
  unfold refuseCorrection
  repeat' first
    | (with_reducible assumption) | (exact sub_trans rfl hm) | intro _ | (with_reducible apply State.set_frame)
    | (with_reducible apply State.bump_frame) | extract_lets | split | (dsimp -zeta only) | (dsimp +zetaDelta -zeta only)

theorem armTso_frame {m : Nat} {s0 s : State} (hm : sub 0x1 m = true) (h : Frame m s0 s) (n : Nat) (b : Bool) :
    Frame m s0 (armTso s n b) := by
  unfold armTso
  repeat' first
    | (with_reducible assumption) | (exact sub_trans rfl hm) | intro _ | (with_reducible apply State.setBit_frame)
    | extract_lets | split | (dsimp -zeta only) | (dsimp +zetaDelta -zeta only)

theorem tsoPassed_frame {m : Nat} {s0 s : State} (hm : sub 0x80001 m = true) (h : Frame m s0 s) (n : Nat) :
    Frame m s0 (tsoPassed s n) := by
  unfold tsoPassed
  repeat' first
    | (with_reducible assumption) | (exact sub_trans rfl hm) | intro _ | (with_reducible apply Frame.ite)
    | (with_reducible apply Frame.ite_fst) | (with_reducible apply State.setTso_frame)
    | (with_reducible apply State.bumpBy_frame) | (with_reducible apply armTso_frame)
    | (with_reducible apply State.setBit_frame) | extract_lets | split | (dsimp -zeta only) | (dsimp +zetaDelta -zeta only)

theorem applyStep_frame {m : Nat} {s0 s : State} (hm : sub 0x808C0021 m = true) (h : Frame m s0 s) (x : Int) :
    Frame m s0 (applyStep s x) := by
  unfold applyStep
  repeat' first
    | (with_reducible assumption) | (exact sub_trans rfl hm) | intro _ | (with_reducible apply State.putTb_frame)
    | (with_reducible apply State.bumpWrap_frame) | (with_reducible apply State.set_frame)
    | (with_reducible apply postEvent_frame) | (with_reducible apply tsoPassed_frame)
    | (with_reducible apply leaveBridged_frame) | (with_reducible apply Frame.fold) | extract_lets | split | (dsimp -zeta only)
    | (dsimp +zetaDelta -zeta only)

theorem applyPendingStep_frame {m : Nat} {s0 s : State} (hm : sub 0x808C0021 m = true) (h : Frame m s0 s) :
    Frame m s0 (applyPendingStep s) := by
  unfold applyPendingStep
  repeat' first
    | (with_reducible assumption) | (exact sub_trans rfl hm) | intro _ | (with_reducible apply applyStep_frame)
    | (with_reducible apply State.putTb_frame) | (with_reducible apply State.setBit_frame) | extract_lets | split
    | (dsimp -zeta only) | (dsimp +zetaDelta -zeta only)

theorem stopTimebase_frame {m : Nat} {s0 s : State} (hm : sub 0x80000 m = true) (h : Frame m s0 s) :
    Frame m s0 (stopTimebase s) := by
  unfold stopTimebase
  repeat' first
    | (with_reducible assumption) | (exact sub_trans rfl hm) | intro _ | (with_reducible apply Frame.ite)
    | (with_reducible apply Frame.ite_fst) | (with_reducible apply State.putTb_frame) | extract_lets | split
    | (dsimp -zeta only) | (dsimp +zetaDelta -zeta only)

theorem startTimebase_frame {m : Nat} {s0 s : State} (hm : sub 0x808C0021 m = true) (h : Frame m s0 s) (nLf nRc lag : Nat) :
    Frame m s0 (startTimebase s nLf nRc lag) := by
  unfold startTimebase
  repeat' first
    | (with_reducible assumption) | (exact sub_trans rfl hm) | intro _ | (with_reducible apply Frame.ite)
    | (with_reducible apply Frame.ite_fst) | (with_reducible apply setQuality_frame) | (with_reducible apply State.putTb_frame)
    | (with_reducible apply State.set_frame) | extract_lets | split | (dsimp -zeta only) | (dsimp +zetaDelta -zeta only)

theorem gtIrq_frame {m : Nat} {s0 s : State} (hm : sub 0x800001 m = true) (h : Frame m s0 s) (n : Nat) :
    Frame m s0 (gtIrq s n) := by
  unfold gtIrq
  repeat' first
    | (with_reducible assumption) | (exact sub_trans rfl hm) | intro _ | (with_reducible apply aicLevel_frame) | extract_lets
    | split | (dsimp -zeta only) | (dsimp +zetaDelta -zeta only)

theorem setGtPair_frame {m : Nat} {s0 s : State} (hm : sub 0x1 m = true) (h : Frame m s0 s) (n : Nat) (f : Nat → Fld) (v : Nat) :
    Frame m s0 (setGtPair s n f v) := by
  unfold setGtPair
  repeat' first
    | (with_reducible assumption) | (exact sub_trans rfl hm) | intro _ | (with_reducible apply Frame.ite)
    | (with_reducible apply Frame.ite_fst) | (with_reducible apply State.set_frame) | extract_lets | split | (dsimp -zeta only)
    | (dsimp +zetaDelta -zeta only)

theorem gtAct_frame {m : Nat} {s0 s : State} (hm : sub 0x1 m = true) (h : Frame m s0 s) (n : Nat) :
    Frame m s0 (gtAct s n) := by
  unfold gtAct
  repeat' first
    | (with_reducible assumption) | (exact sub_trans rfl hm) | intro _ | (with_reducible apply State.setBit_frame)
    | extract_lets | split | (dsimp -zeta only) | (dsimp +zetaDelta -zeta only)

theorem gtMatched_frame {m : Nat} {s0 s : State} (hm : sub 0x880001 m = true) (h : Frame m s0 s) (n : Nat) :
    Frame m s0 (gtMatched s n) := by
  unfold gtMatched
  repeat' first
    | (with_reducible assumption) | (exact sub_trans rfl hm) | intro _ | (with_reducible apply Frame.ite)
    | (with_reducible apply Frame.ite_fst) | (with_reducible apply State.set_frame)
    | (with_reducible apply State.bumpWrap_frame) | (with_reducible apply gtAct_frame) | (with_reducible apply gtIrq_frame)
    | (with_reducible apply State.setGt_frame) | extract_lets | split | (dsimp -zeta only) | (dsimp +zetaDelta -zeta only)

theorem gtOnto_frame {m : Nat} {s0 s : State} (hm : sub 0x880001 m = true) (h : Frame m s0 s) (n v : Nat) (wrap : Bool) :
    Frame m s0 (gtOnto s n v wrap) := by
  unfold gtOnto
  repeat' first
    | (with_reducible assumption) | (exact sub_trans rfl hm) | intro _ | (with_reducible apply Frame.ite)
    | (with_reducible apply Frame.ite_fst) | (with_reducible apply setGtPair_frame) | (with_reducible apply State.setGt_frame)
    | (with_reducible apply gtMatched_frame) | (with_reducible apply gtIrq_frame) | (with_reducible apply State.set_frame)
    | extract_lets | split | (dsimp -zeta only) | (dsimp +zetaDelta -zeta only)

theorem gtStep_frame {m : Nat} {s0 s : State} (hm : sub 0x880001 m = true) (h : Frame m s0 s) (n : Nat) :
    Frame m s0 (gtStep s n) := by
  unfold gtStep
  repeat' first
    | (with_reducible assumption) | (exact sub_trans rfl hm) | intro _ | (with_reducible apply Frame.ite)
    | (with_reducible apply Frame.ite_fst) | (with_reducible apply gtOnto_frame) | extract_lets | split | (dsimp -zeta only)
    | (dsimp +zetaDelta -zeta only)

theorem gtPeriod_frame {m : Nat} {s0 s : State} (hm : sub 0x880001 m = true) (h : Frame m s0 s) (n : Nat) :
    Frame m s0 (gtPeriod s n) := by
  unfold gtPeriod
  repeat' first
    | (with_reducible assumption) | (exact sub_trans rfl hm) | intro _ | (with_reducible apply Frame.ite)
    | (with_reducible apply Frame.ite_fst) | (with_reducible apply gtStep_frame) | (with_reducible apply State.setGt_frame)
    | extract_lets | split | (dsimp -zeta only) | (dsimp +zetaDelta -zeta only)

theorem gtAdvance_frame {m : Nat} {s0 s : State} (hm : sub 0x880001 m = true) (h : Frame m s0 s) (n k : Nat) :
    Frame m s0 (gtAdvance s n k) := by
  unfold gtAdvance
  repeat' first
    | (with_reducible assumption) | (exact sub_trans rfl hm) | intro _ | (with_reducible apply Frame.ite)
    | (with_reducible apply Frame.ite_fst) | (with_reducible apply setGtPair_frame) | (with_reducible apply State.setGt_frame)
    | (with_reducible apply State.set_frame) | (with_reducible apply State.bumpWrap_frame) | (with_reducible apply gtAct_frame)
    | (with_reducible apply gtIrq_frame) | extract_lets | split | (dsimp -zeta only) | (dsimp +zetaDelta -zeta only)

theorem gtCredit_frame {m : Nat} {s0 s : State} (hm : sub 0x880001 m = true) (h : Frame m s0 s) (n units : Nat) :
    Frame m s0 (gtCredit s n units) := by
  unfold gtCredit
  repeat' first
    | (with_reducible assumption) | (exact sub_trans rfl hm) | intro _ | (with_reducible apply Frame.ite)
    | (with_reducible apply Frame.ite_fst) | (with_reducible apply gtAdvance_frame) | (with_reducible apply State.setGt_frame)
    | extract_lets | split | (dsimp -zeta only) | (dsimp +zetaDelta -zeta only)

theorem gtLfTick_frame {m : Nat} {s0 s : State} (hm : sub 0x880001 m = true) (h : Frame m s0 s) :
    Frame m s0 (gtLfTick s) := by
  unfold gtLfTick
  repeat' first
    | (with_reducible assumption) | (exact sub_trans rfl hm) | intro _ | (with_reducible apply Frame.ite)
    | (with_reducible apply Frame.ite_fst) | (with_reducible apply gtCredit_frame) | (with_reducible apply Frame.fold)
    | extract_lets | split | (dsimp -zeta only) | (dsimp +zetaDelta -zeta only)

theorem setLfMode_frame {m : Nat} {s0 s : State} (hm : sub 0x1 m = true) (h : Frame m s0 s) (b : Bool) :
    Frame m s0 (setLfMode s b) := by
  unfold setLfMode
  repeat' first
    | (with_reducible assumption) | (exact sub_trans rfl hm) | intro _ | (with_reducible apply State.setBit_frame)
    | (with_reducible apply Frame.fold) | extract_lets | split | (dsimp -zeta only) | (dsimp +zetaDelta -zeta only)

theorem endLfMode_frame {m : Nat} {s0 s : State} (hm : sub 0x880001 m = true) (h : Frame m s0 s) (periods : Nat) :
    Frame m s0 (endLfMode s periods) := by
  unfold endLfMode
  repeat' first
    | (with_reducible assumption) | (exact sub_trans rfl hm) | intro _ | (with_reducible apply Frame.ite)
    | (with_reducible apply Frame.ite_fst) | (with_reducible apply setLfMode_frame) | (with_reducible apply gtCredit_frame)
    | (with_reducible apply Frame.fold) | extract_lets | split | (dsimp -zeta only) | (dsimp +zetaDelta -zeta only)

theorem gtWrite_frame {m : Nat} {s0 s : State} (hm : sub 0x880001 m = true) (h : Frame m s0 s) (n r v : Nat) :
    Frame m s0 (gtWrite s n r v) := by
  unfold gtWrite
  repeat' first
    | (with_reducible assumption) | (exact sub_trans rfl hm) | intro _ | (with_reducible apply Frame.ite)
    | (with_reducible apply Frame.ite_fst) | (with_reducible apply State.setBit_frame) | (with_reducible apply gtIrq_frame)
    | (with_reducible apply State.setWord_frame) | (with_reducible apply State.setGt_frame)
    | (with_reducible apply State.set_frame) | extract_lets | split | (dsimp -zeta only) | (dsimp +zetaDelta -zeta only)

theorem gtApply_frame {m : Nat} {s0 s : State} (hm : sub 0x880001 m = true) (h : Frame m s0 s) (l : List (Nat × Nat × Nat)) :
    Frame m s0 (gtApply s l) := by
  unfold gtApply
  repeat' first
    | (with_reducible assumption) | (exact sub_trans rfl hm) | intro _ | (with_reducible apply gtWrite_frame)
    | (with_reducible apply Frame.fold) | extract_lets | split | (dsimp -zeta only) | (dsimp +zetaDelta -zeta only)

theorem timersApply_frame {m : Nat} {s0 s : State} (hm : sub 0x880001 m = true) (h : Frame m s0 s) :
    Frame m s0 (timersApply s) := by
  unfold timersApply
  repeat' first
    | (with_reducible assumption) | (exact sub_trans rfl hm) | intro _ | (with_reducible apply gtApply_frame)
    | (with_reducible apply State.putTb_frame) | extract_lets | split | (dsimp -zeta only) | (dsimp +zetaDelta -zeta only)

theorem gtPost_frame {m : Nat} {s0 s : State} (hm : sub 0x80000 m = true) (h : Frame m s0 s) (n r v : Nat) :
    Frame m s0 (gtPost s n r v) := by
  unfold gtPost
  repeat' first
    | (with_reducible assumption) | (exact sub_trans rfl hm) | intro _ | (with_reducible apply State.putTb_frame) | extract_lets
    | split | (dsimp -zeta only) | (dsimp +zetaDelta -zeta only)

theorem gtTake_frame {m : Nat} {s0 s : State} (hm : sub 0x800001 m = true) (h : Frame m s0 s) (n : Nat) :
    Frame m s0 (gtTake s n) := by
  unfold gtTake
  repeat' first
    | (with_reducible assumption) | (exact sub_trans rfl hm) | intro _ | (with_reducible apply Frame.ite)
    | (with_reducible apply Frame.ite_fst) | (with_reducible apply State.set_frame) | (with_reducible apply State.bump_frame)
    | (with_reducible apply gtIrq_frame) | (with_reducible apply setGtPair_frame) | extract_lets | split | (dsimp -zeta only)
    | (dsimp +zetaDelta -zeta only)

theorem clockEdge_frame {m : Nat} {s0 s : State} (hm : sub 0x40880001 m = true) (h : Frame m s0 s) :
    Frame m s0 (clockEdge s) := by
  unfold clockEdge
  repeat' first
    | (with_reducible assumption) | (exact sub_trans rfl hm) | intro _ | (with_reducible apply Frame.ite)
    | (with_reducible apply Frame.ite_fst) | (with_reducible apply tbEdge_frame) | (with_reducible apply State.later_frame)
    | (with_reducible apply gtPeriod_frame) | (with_reducible apply gtLfTick_frame) | (with_reducible apply Frame.fold)
    | extract_lets | split | (dsimp -zeta only) | (dsimp +zetaDelta -zeta only)

end Sys2Proof.Machine
end

