-- ==== Sys2Proof/Laws/FrameHostOps.lean ====
section
/-!
SUPPORT. Which components the operations of Machine/HostOps.lean may change (`Frame`).
-/

namespace Sys2Proof.Machine

set_option linter.unusedVariables false
set_option linter.unusedTactic false
set_option linter.unreachableTactic false

theorem viewActive_frame {m : Nat} {s0 s : State} (hm : sub 0x1 m = true) (h : Frame m s0 s) :
    Frame m s0 (viewActive s) := by
  unfold viewActive
  repeat' first
    | (with_reducible assumption) | (exact sub_trans rfl hm) | intro _ | (with_reducible apply State.setBit_frame)
    | (with_reducible apply Frame.fold) | extract_lets | split | (dsimp -zeta only) | (dsimp +zetaDelta -zeta only)

theorem sendMsix_frame {m : Nat} {s0 s : State} (hm : sub 0x100000040 m = true) (h : Frame m s0 s) (v : Nat) :
    Frame m s0 (sendMsix s v) := by
  unfold sendMsix
  repeat' first
    | (with_reducible assumption) | (exact sub_trans rfl hm) | intro _ | (with_reducible apply Frame.ite)
    | (with_reducible apply Frame.ite_fst) | (with_reducible apply State.putPcie_frame)
    | (with_reducible apply State.emit_frame) | extract_lets | split | (dsimp -zeta only) | (dsimp +zetaDelta -zeta only)

theorem flushVector_frame {m : Nat} {s0 s : State} (hm : sub 0x100000040 m = true) (h : Frame m s0 s) (v : Nat) :
    Frame m s0 (flushVector s v) := by
  unfold flushVector
  repeat' first
    | (with_reducible assumption) | (exact sub_trans rfl hm) | intro _ | (with_reducible apply Frame.ite)
    | (with_reducible apply Frame.ite_fst) | (with_reducible apply State.putPcie_frame)
    | (with_reducible apply State.emit_frame) | extract_lets | split | (dsimp -zeta only) | (dsimp +zetaDelta -zeta only)

theorem advanceHead_frame {m : Nat} {s0 s : State} (hm : sub 0x100000001 m = true) (h : Frame m s0 s) (q : Nat) :
    Frame m s0 (advanceHead s q) := by
  unfold advanceHead
  repeat' first
    | (with_reducible assumption) | (exact sub_trans rfl hm) | intro _ | (with_reducible apply State.bumpWrap_frame)
    | (with_reducible apply State.bump_frame) | (with_reducible apply State.emit_frame) | extract_lets | split
    | (dsimp -zeta only) | (dsimp +zetaDelta -zeta only)

theorem dropHostFrame_frame {m : Nat} {s0 s : State} (hm : sub 0x80840021 m = true) (h : Frame m s0 s) (q : Nat) :
    Frame m s0 (dropHostFrame s q) := by
  unfold dropHostFrame
  repeat' first
    | (with_reducible assumption) | (exact sub_trans rfl hm) | intro _ | (with_reducible apply postEvent_frame)
    | (with_reducible apply State.bump_frame) | extract_lets | split | (dsimp -zeta only) | (dsimp +zetaDelta -zeta only)

theorem deliverHost_frame {m : Nat} {s0 s : State} (hm : sub 0x180840021 m = true) (h : Frame m s0 s) (n : Nat) (f : RxFrame) (cls : Nat) (data : List Byte) (written : Bool) :
    Frame m s0 (deliverHost s n f cls data written) := by
  unfold deliverHost
  repeat' first
    | (with_reducible assumption) | (exact sub_trans rfl hm) | intro _ | (with_reducible apply Frame.ite)
    | (with_reducible apply Frame.ite_fst) | (with_reducible apply dropHostFrame_frame)
    | (with_reducible apply State.emit_frame) | (with_reducible apply advanceHead_frame) | extract_lets | split
    | (dsimp -zeta only) | (dsimp +zetaDelta -zeta only)

theorem hostUnicast_frame {m : Nat} {s0 s : State} (hm : sub 0x18697E021 m = true) (h : Frame m s0 s) (n cls : Nat) (data : List Byte) :
    Frame m s0 (hostUnicast s n cls data).1 := by
  unfold hostUnicast
  repeat' first
    | (with_reducible assumption) | (exact sub_trans rfl hm) | intro _ | (with_reducible apply Frame.ite)
    | (with_reducible apply Frame.ite_fst) | (with_reducible apply policeCrimson_frame) | (with_reducible apply sendDown_frame)
    | (with_reducible refine Frame.of_pair (by assumption) ?_) | extract_lets | split | (dsimp -zeta only)
    | (dsimp +zetaDelta -zeta only)

theorem hostGroup_frame {m : Nat} {s0 s : State} (hm : sub 0x186B7C021 m = true) (h : Frame m s0 s) (g cls : Nat) (data : List Byte) :
    Frame m s0 (hostGroup s g cls data).1 := by
  unfold hostGroup
  repeat' first
    | (with_reducible assumption) | (exact sub_trans rfl hm) | intro _ | (with_reducible apply Frame.ite)
    | (with_reducible apply Frame.ite_fst) | (with_reducible apply policeCrimson_frame) | (with_reducible apply sendGroup_frame)
    | (with_reducible refine Frame.of_pair (by assumption) ?_) | extract_lets | split | (dsimp -zeta only)
    | (dsimp +zetaDelta -zeta only)

theorem handleDescriptor_frame {m : Nat} {s0 s : State} (hm : sub 0x186B7E021 m = true) (h : Frame m s0 s) (d data : List Byte) (readOk : Bool) :
    Frame m s0 (handleDescriptor s d data readOk).1 := by
  unfold handleDescriptor
  repeat' first
    | (with_reducible assumption) | (exact sub_trans rfl hm) | intro _ | (with_reducible apply Frame.ite)
    | (with_reducible apply Frame.ite_fst) | (with_reducible apply hostGroup_frame) | (with_reducible apply hostUnicast_frame)
    | extract_lets | split | (dsimp -zeta only) | (dsimp +zetaDelta -zeta only)

end Sys2Proof.Machine
end

