-- ==== Sys2Proof/Laws/FrameEthOps.lean ====
section
/-!
SUPPORT. Which components the operations of Machine/EthOps.lean may change (`Frame`).
-/

namespace Sys2Proof.Machine

set_option linter.unusedVariables false
set_option linter.unusedTactic false
set_option linter.unreachableTactic false

theorem setEthPort_frame {m : Nat} {s0 s : State} (hm : sub 0x400000 m = true) (h : Frame m s0 s) (e : Nat) (x : EthPortState) :
    Frame m s0 (setEthPort s e x) := by
  unfold setEthPort
  repeat' first
    | (with_reducible assumption) | (exact sub_trans rfl hm) | intro _ | (with_reducible apply State.putEth_frame)
    | extract_lets | split | (dsimp -zeta only) | (dsimp +zetaDelta -zeta only)

theorem putEgress_frame {m : Nat} {s0 s : State} (hm : sub 0x180C60021 m = true) (h : Frame m s0 s) (e c : Nat) (l : List Nat) :
    Frame m s0 (putEgress s e c l) := by
  unfold putEgress
  repeat' first
    | (with_reducible assumption) | (exact sub_trans rfl hm) | intro _ | (with_reducible apply State.putSched_frame)
    | (with_reducible apply egress_frame) | extract_lets | split | (dsimp -zeta only) | (dsimp +zetaDelta -zeta only)

theorem accrueClass_frame {m : Nat} {s0 s : State} (hm : sub 0x400001 m = true) (h : Frame m s0 s) (e c : Nat) :
    Frame m s0 (accrueClass s e c) := by
  unfold accrueClass
  repeat' first
    | (with_reducible assumption) | (exact sub_trans rfl hm) | intro _ | (with_reducible apply Frame.ite)
    | (with_reducible apply Frame.ite_fst) | (with_reducible apply State.putEth_frame) | (with_reducible apply State.setI_frame)
    | extract_lets | split | (dsimp -zeta only) | (dsimp +zetaDelta -zeta only)

theorem accrue_frame {m : Nat} {s0 s : State} (hm : sub 0x400001 m = true) (h : Frame m s0 s) (e : Nat) :
    Frame m s0 (accrue s e) := by
  unfold accrue
  repeat' first
    | (with_reducible assumption) | (exact sub_trans rfl hm) | intro _ | (with_reducible apply accrueClass_frame)
    | (with_reducible apply Frame.fold) | extract_lets | split | (dsimp -zeta only) | (dsimp +zetaDelta -zeta only)

theorem firstBit_frame {m : Nat} {s0 s : State} (hm : sub 0x180C60021 m = true) (h : Frame m s0 s) (e h : Nat) :
    Frame m s0 (firstBit s e h) := by
  unfold firstBit
  repeat' first
    | (with_reducible assumption) | (exact sub_trans rfl hm) | intro _ | (with_reducible apply Frame.ite)
    | (with_reducible apply Frame.ite_fst) | (with_reducible apply setEthPort_frame) | (with_reducible apply State.emit_frame)
    | (with_reducible apply sampleDelay_frame) | (with_reducible apply crimsonCheck_frame) | extract_lets | split
    | (dsimp -zeta only) | (dsimp +zetaDelta -zeta only)

theorem chooseEgress_frame {m : Nat} {s0 : State} (hm : sub 0x180C60021 m = true) :
    ∀ (fuel e : Nat) {s : State}, Frame m s0 s → Frame m s0 (chooseEgress fuel e s)
  | 0, _, _, h => h
  | n + 1, e, s, h => by
    unfold chooseEgress
    repeat' first
      | (with_reducible assumption) | (exact sub_trans rfl hm) | intro _ | (with_reducible apply Frame.ite)
      | (with_reducible apply chooseEgress_frame hm n) | (with_reducible apply nextClass_frame)
      | (with_reducible apply putEgress_frame) | (with_reducible apply consumePoison_frame)
      | (with_reducible apply State.putEth_frame) | (with_reducible apply firstBit_frame) | extract_lets | split
      | (dsimp -zeta only) | (dsimp +zetaDelta -zeta only)

theorem tryPreempt_frame {m : Nat} {s0 s : State} (hm : sub 0x180C60021 m = true) (h : Frame m s0 s) (e : Nat) :
    Frame m s0 (tryPreempt s e) := by
  unfold tryPreempt
  repeat' first
    | (with_reducible assumption) | (exact sub_trans rfl hm) | intro _ | (with_reducible apply Frame.ite)
    | (with_reducible apply Frame.ite_fst) | (with_reducible apply setEthPort_frame) | (with_reducible apply State.bump_frame)
    | (with_reducible apply firstBit_frame) | (with_reducible apply putEgress_frame) | extract_lets | split | (dsimp -zeta only)
    | (dsimp +zetaDelta -zeta only)

theorem startEgress_frame {m : Nat} {s0 s : State} (hm : sub 0x180C60021 m = true) (h : Frame m s0 s) (e : Nat) :
    Frame m s0 (startEgress s e) := by
  unfold startEgress
  repeat' first
    | (with_reducible assumption) | (exact sub_trans rfl hm) | intro _ | (with_reducible apply Frame.ite)
    | (with_reducible apply Frame.ite_fst) | (with_reducible apply accrue_frame) | (with_reducible apply tryPreempt_frame)
    | (with_reducible apply setEthPort_frame) | (with_reducible apply chooseEgress_frame) | extract_lets | split
    | (dsimp -zeta only) | (dsimp +zetaDelta -zeta only)

theorem egress_frame {m : Nat} {s0 s : State} (hm : sub 0x180C60021 m = true) (h : Frame m s0 s) (e : Nat) (f : EgressFrame) :
    Frame m s0 (egress s e f) := by
  unfold egress
  repeat' first
    | (with_reducible assumption) | (exact sub_trans rfl hm) | intro _ | (with_reducible apply accrue_frame)
    | (with_reducible apply State.putEth_frame) | (with_reducible apply startEgress_frame)
    | (with_reducible apply putEgress_frame) | extract_lets | split | (dsimp -zeta only) | (dsimp +zetaDelta -zeta only)

theorem dropPort_frame {m : Nat} {s0 s : State} (hm : sub 0x180C60021 m = true) (h : Frame m s0 s) (e : Nat) :
    Frame m s0 (dropPort s e) := by
  unfold dropPort
  repeat' first
    | (with_reducible assumption) | (exact sub_trans rfl hm) | intro _ | (with_reducible apply Frame.ite)
    | (with_reducible apply Frame.ite_fst) | (with_reducible apply putEgress_frame) | (with_reducible apply accrue_frame)
    | (with_reducible apply State.putEth_frame) | (with_reducible apply setEthPort_frame)
    | (with_reducible apply State.bumpBy_frame) | (with_reducible apply Frame.fold) | extract_lets | split | (dsimp -zeta only)
    | (dsimp +zetaDelta -zeta only)

theorem portDown_frame {m : Nat} {s0 s : State} (hm : sub 0x180C60021 m = true) (h : Frame m s0 s) (e cause : Nat) :
    Frame m s0 (portDown s e cause) := by
  unfold portDown
  repeat' first
    | (with_reducible assumption) | (exact sub_trans rfl hm) | intro _ | (with_reducible apply dropPort_frame)
    | (with_reducible apply postEvent_frame) | (with_reducible apply State.set_frame) | extract_lets | split
    | (dsimp -zeta only) | (dsimp +zetaDelta -zeta only)

theorem sendEthernet_frame {m : Nat} {s0 s : State} (hm : sub 0x180C60021 m = true) (h : Frame m s0 s) (cls : Nat) (packet : List Byte) (decoded : Nat) :
    Frame m s0 (sendEthernet s cls packet decoded) := by
  unfold sendEthernet
  repeat' first
    | (with_reducible assumption) | (exact sub_trans rfl hm) | intro _ | (with_reducible apply Frame.ite)
    | (with_reducible apply Frame.ite_fst) | (with_reducible apply State.bump_frame) | (with_reducible apply egress_frame)
    | extract_lets | split | (dsimp -zeta only) | (dsimp +zetaDelta -zeta only)

theorem toControlCores_frame {m : Nat} {s0 s : State} (hm : sub 0x40001 m = true) (h : Frame m s0 s) (data : List Byte) (stamp : Nat) :
    Frame m s0 (toControlCores s data stamp) := by
  unfold toControlCores
  repeat' first
    | (with_reducible assumption) | (exact sub_trans rfl hm) | intro _ | (with_reducible apply pushItem_frame) | extract_lets
    | split | (dsimp -zeta only) | (dsimp +zetaDelta -zeta only)

theorem nodeOfAddr_frame {m : Nat} {s0 s : State} (hm : sub 0x82850027 m = true) (h : Frame m s0 s) (d : Nat) :
    Frame m s0 (nodeOfAddr s d).1 := by
  unfold nodeOfAddr
  repeat' first
    | (with_reducible assumption) | (exact sub_trans rfl hm) | intro _ | (with_reducible apply Frame.ite)
    | (with_reducible apply Frame.ite_fst) | (with_reducible apply ehtLookup_frame) | extract_lets | split | (dsimp -zeta only)
    | (dsimp +zetaDelta -zeta only)

theorem takeTag_frame {m : Nat} {s0 s : State} (hm : sub 0x400000 m = true) (h : Frame m s0 s) (l : List (List Byte)) :
    Frame m s0 (takeTag s l) := by
  unfold takeTag
  repeat' first
    | (with_reducible assumption) | (exact sub_trans rfl hm) | intro _ | (with_reducible apply Frame.ite)
    | (with_reducible apply Frame.ite_fst) | (with_reducible apply State.putEth_frame) | extract_lets | split
    | (dsimp -zeta only) | (dsimp +zetaDelta -zeta only)

theorem sendPacket_frame {m : Nat} {s0 s : State} (hm : sub 0x186D7E021 m = true) (h : Frame m s0 s) (n cls : Nat) (p : List Byte) (stamp : Option Nat) :
    Frame m s0 (sendPacket s n cls p stamp) := by
  unfold sendPacket
  repeat' first
    | (with_reducible assumption) | (exact sub_trans rfl hm) | intro _ | (with_reducible apply Frame.ite)
    | (with_reducible apply Frame.ite_fst) | (with_reducible apply routeFailed_frame) | (with_reducible apply consumeLine_frame)
    | (with_reducible apply State.bump_frame) | (with_reducible apply enqueueDown_frame) | (with_reducible apply takeTag_frame)
    | (with_reducible apply Frame.fold) | (with_reducible refine Frame.of_pair (by assumption) ?_) | extract_lets | split
    | (dsimp -zeta only) | (dsimp +zetaDelta -zeta only)

theorem sendToGroup_frame {m : Nat} {s0 s : State} (hm : sub 0x186F7C021 m = true) (h : Frame m s0 s) (g cls : Nat) (p : List Byte) :
    Frame m s0 (sendToGroup s g cls p) := by
  unfold sendToGroup
  repeat' first
    | (with_reducible assumption) | (exact sub_trans rfl hm) | intro _ | (with_reducible apply sendGroup_frame)
    | (with_reducible apply takeTag_frame) | (with_reducible apply Frame.fold) | extract_lets | split | (dsimp -zeta only)
    | (dsimp +zetaDelta -zeta only)

theorem downlinkPacket_frame {m : Nat} {s0 s : State} (hm : sub 0x186F7E027 m = true) (h : Frame m s0 s) (cls : Nat) (p : List Byte) (len stamp : Nat) :
    Frame m s0 (downlinkPacket s cls p len stamp) := by
  unfold downlinkPacket
  repeat' first
    | (with_reducible assumption) | (exact sub_trans rfl hm) | intro _ | (with_reducible apply Frame.ite)
    | (with_reducible apply Frame.ite_fst) | (with_reducible apply policeCrimson_frame)
    | (with_reducible apply toControlCores_frame) | (with_reducible apply State.bump_frame)
    | (with_reducible apply sampleDelay_frame) | (with_reducible apply sendToGroup_frame)
    | (with_reducible apply nodeOfAddr_frame) | (with_reducible apply sendPacket_frame)
    | (with_reducible refine Frame.of_pair (by assumption) ?_) | extract_lets | split | (dsimp -zeta only)
    | (dsimp +zetaDelta -zeta only)

theorem putContexts_frame {m : Nat} {s0 s : State} (hm : sub 0x400001 m = true) (h : Frame m s0 s) (l : List Reassembly) :
    Frame m s0 (putContexts s l) := by
  unfold putContexts
  repeat' first
    | (with_reducible assumption) | (exact sub_trans rfl hm) | intro _ | (with_reducible apply State.putEth_frame)
    | (with_reducible apply State.set_frame) | extract_lets | split | (dsimp -zeta only) | (dsimp +zetaDelta -zeta only)

theorem freeContext_frame {m : Nat} {s0 s : State} (hm : sub 0x400001 m = true) (h : Frame m s0 s) (node tag size : Nat) :
    Frame m s0 (freeContext s node tag size) := by
  unfold freeContext
  repeat' first
    | (with_reducible assumption) | (exact sub_trans rfl hm) | intro _ | (with_reducible apply putContexts_frame) | extract_lets
    | split | (dsimp -zeta only) | (dsimp +zetaDelta -zeta only)

theorem reassemble_frame {m : Nat} {s0 s : State} (hm : sub 0x400001 m = true) (h : Frame m s0 s) (node tag size at_ : Nat) (data : List Byte) :
    Frame m s0 (reassemble s node tag size at_ data).1 := by
  unfold reassemble
  repeat' first
    | (with_reducible assumption) | (exact sub_trans rfl hm) | intro _ | (with_reducible apply Frame.ite)
    | (with_reducible apply Frame.ite_fst) | (with_reducible apply freeContext_frame) | (with_reducible apply State.bump_frame)
    | (with_reducible apply putContexts_frame) | (with_reducible apply Frame.foldl_fst) | extract_lets | split
    | (dsimp -zeta only) | (dsimp +zetaDelta -zeta only)

theorem policeUplink_frame {m : Nat} {s0 s : State} (hm : sub 0x186970021 m = true) (h : Frame m s0 s) (n cls len : Nat) :
    Frame m s0 (policeUplink s n cls len).1 := by
  unfold policeUplink
  repeat' first
    | (with_reducible assumption) | (exact sub_trans rfl hm) | intro _ | (with_reducible apply Frame.ite)
    | (with_reducible apply Frame.ite_fst) | (with_reducible apply policeCrimson_frame)
    | (with_reducible apply setLineField_frame) | (with_reducible apply State.bump_frame) | extract_lets | split
    | (dsimp -zeta only) | (dsimp +zetaDelta -zeta only)

theorem uplinkPacket_frame {m : Nat} {s0 s : State} (hm : sub 0x186F7E027 m = true) (h : Frame m s0 s) (n len decoded : Nat) (p : List Byte) :
    Frame m s0 (uplinkPacket s n len decoded p) := by
  unfold uplinkPacket
  repeat' first
    | (with_reducible assumption) | (exact sub_trans rfl hm) | intro _ | (with_reducible apply Frame.ite)
    | (with_reducible apply Frame.ite_fst) | (with_reducible apply State.bump_frame) | (with_reducible apply policeUplink_frame)
    | (with_reducible apply toControlCores_frame) | (with_reducible apply downlinkPacket_frame)
    | (with_reducible apply sendEthernet_frame) | (with_reducible refine Frame.of_pair (by assumption) ?_) | extract_lets
    | split | (dsimp -zeta only) | (dsimp +zetaDelta -zeta only)

theorem uplinkPayload_frame {m : Nat} {s0 s : State} (hm : sub 0x186F7E027 m = true) (h : Frame m s0 s) (n len decoded : Nat) (l : List Byte) :
    Frame m s0 (uplinkPayload s n len decoded l) := by
  unfold uplinkPayload
  repeat' first
    | (with_reducible assumption) | (exact sub_trans rfl hm) | intro _ | (with_reducible apply Frame.ite)
    | (with_reducible apply Frame.ite_fst) | (with_reducible apply uplinkPacket_frame) | (with_reducible apply State.bump_frame)
    | (with_reducible apply reassemble_frame) | (with_reducible refine Frame.of_pair (by assumption) ?_) | extract_lets | split
    | (dsimp -zeta only) | (dsimp +zetaDelta -zeta only)

end Sys2Proof.Machine
end

