-- ==== Sys2Proof/Laws/FrameDriftOps.lean ====
section
/-!
SUPPORT. Which components the operations of Machine/DriftOps.lean may change (`Frame`).
-/

namespace Sys2Proof.Machine

set_option linter.unusedVariables false
set_option linter.unusedTactic false
set_option linter.unreachableTactic false

theorem putCache_frame {m : Nat} {s0 s : State} (hm : sub 0x8001 m = true) (h : Frame m s0 s) (l : List (Nat × FitEntry)) :
    Frame m s0 (putCache s l) := by
  unfold putCache
  repeat' first
    | (with_reducible assumption) | (exact sub_trans rfl hm) | intro _ | (with_reducible apply State.putDrift_frame)
    | (with_reducible apply State.set_frame) | extract_lets | split | (dsimp -zeta only) | (dsimp +zetaDelta -zeta only)

theorem putFit_frame {m : Nat} {s0 s : State} (hm : sub 0x8001 m = true) (h : Frame m s0 s) (n : Nat) (f : FitEntry) :
    Frame m s0 (putFit s n f) := by
  unfold putFit
  repeat' first
    | (with_reducible assumption) | (exact sub_trans rfl hm) | intro _ | (with_reducible apply putCache_frame) | extract_lets
    | split | (dsimp -zeta only) | (dsimp +zetaDelta -zeta only)

theorem setFit_frame {m : Nat} {s0 s : State} (hm : sub 0x8001 m = true) (h : Frame m s0 s) (n : Nat) (f : FitEntry) :
    Frame m s0 (setFit s n f) := by
  unfold setFit
  repeat' first
    | (with_reducible assumption) | (exact sub_trans rfl hm) | intro _ | (with_reducible apply Frame.ite)
    | (with_reducible apply Frame.ite_fst) | (with_reducible apply putCache_frame) | extract_lets | split | (dsimp -zeta only)
    | (dsimp +zetaDelta -zeta only)

theorem sendAgreement_frame {m : Nat} {s0 s : State} (hm : sub 0x18697E021 m = true) (h : Frame m s0 s) (n k : Nat) (clamped : Bool) :
    Frame m s0 (sendAgreement s n k clamped) := by
  unfold sendAgreement
  repeat' first
    | (with_reducible assumption) | (exact sub_trans rfl hm) | intro _ | (with_reducible apply Frame.ite)
    | (with_reducible apply Frame.ite_fst) | (with_reducible apply sendDirect_frame) | (with_reducible apply setFit_frame)
    | (with_reducible apply State.putDrift_frame) | (with_reducible apply State.bump_frame)
    | (with_reducible refine Frame.of_pair (by assumption) ?_) | extract_lets | split | (dsimp -zeta only)
    | (dsimp +zetaDelta -zeta only)

theorem considerAgreement_frame {m : Nat} {s0 s : State} (hm : sub 0x18697E021 m = true) (h : Frame m s0 s) (n : Nat) :
    Frame m s0 (considerAgreement s n) := by
  unfold considerAgreement
  repeat' first
    | (with_reducible assumption) | (exact sub_trans rfl hm) | intro _ | (with_reducible apply Frame.ite)
    | (with_reducible apply Frame.ite_fst) | (with_reducible apply sendAgreement_frame) | extract_lets | split
    | (dsimp -zeta only) | (dsimp +zetaDelta -zeta only)

theorem noteChange_frame {m : Nat} {s0 s : State} (hm : sub 0x8000 m = true) (h : Frame m s0 s) (n : Nat) (was : Option (Nat × Nat)) :
    Frame m s0 (noteChange s n was) := by
  unfold noteChange
  repeat' first
    | (with_reducible assumption) | (exact sub_trans rfl hm) | intro _ | (with_reducible apply Frame.ite)
    | (with_reducible apply Frame.ite_fst) | (with_reducible apply State.putDrift_frame) | extract_lets | split
    | (dsimp -zeta only) | (dsimp +zetaDelta -zeta only)

theorem adoptAgreement_frame {m : Nat} {s0 s : State} (hm : sub 0x106138001 m = true) (h : Frame m s0 s) (n : Nat) (a : Agreement) :
    Frame m s0 (adoptAgreement s n a) := by
  unfold adoptAgreement
  repeat' first
    | (with_reducible assumption) | (exact sub_trans rfl hm) | intro _ | (with_reducible apply noteChange_frame)
    | (with_reducible apply writeLine_frame) | (with_reducible apply State.putDrift_frame)
    | (with_reducible apply State.putSched_frame) | extract_lets | split | (dsimp -zeta only) | (dsimp +zetaDelta -zeta only)

theorem agreementFreed_frame {m : Nat} {s0 s : State} (hm : sub 0x18697E021 m = true) (h : Frame m s0 s) (n : Nat) :
    Frame m s0 (agreementFreed s n) := by
  unfold agreementFreed
  repeat' first
    | (with_reducible assumption) | (exact sub_trans rfl hm) | intro _ | (with_reducible apply considerAgreement_frame)
    | extract_lets | split | (dsimp -zeta only) | (dsimp +zetaDelta -zeta only)

theorem agreementAcked_frame {m : Nat} {s0 s : State} (hm : sub 0x18697E021 m = true) (h : Frame m s0 s) (n : Nat) :
    Frame m s0 (agreementAcked s n) := by
  unfold agreementAcked
  repeat' first
    | (with_reducible assumption) | (exact sub_trans rfl hm) | intro _ | (with_reducible apply agreementFreed_frame)
    | (with_reducible apply adoptAgreement_frame) | (with_reducible apply State.putDrift_frame) | extract_lets | split
    | (dsimp -zeta only) | (dsimp +zetaDelta -zeta only)

theorem agreementSettled_frame {m : Nat} {s0 s : State} (hm : sub 0x18697E021 m = true) (h : Frame m s0 s) (n asn : Nat) :
    Frame m s0 (agreementSettled s n asn) := by
  unfold agreementSettled
  repeat' first
    | (with_reducible assumption) | (exact sub_trans rfl hm) | intro _ | (with_reducible apply Frame.ite)
    | (with_reducible apply Frame.ite_fst) | (with_reducible apply considerAgreement_frame)
    | (with_reducible apply State.putDrift_frame) | (with_reducible apply adoptAgreement_frame) | extract_lets | split
    | (dsimp -zeta only) | (dsimp +zetaDelta -zeta only)

theorem forgetDrift_frame {m : Nat} {s0 s : State} (hm : sub 0x8001 m = true) (h : Frame m s0 s) (n : Nat) :
    Frame m s0 (forgetDrift s n) := by
  unfold forgetDrift
  repeat' first
    | (with_reducible assumption) | (exact sub_trans rfl hm) | intro _ | (with_reducible apply putCache_frame)
    | (with_reducible apply State.putDrift_frame) | extract_lets | split | (dsimp -zeta only) | (dsimp +zetaDelta -zeta only)

theorem invalidate_frame {m : Nat} {s0 s : State} (hm : sub 0x18697E021 m = true) (h : Frame m s0 s) (n : Nat) (f : FitEntry) :
    Frame m s0 (invalidate s n f) := by
  unfold invalidate
  repeat' first
    | (with_reducible assumption) | (exact sub_trans rfl hm) | intro _ | (with_reducible apply Frame.ite)
    | (with_reducible apply Frame.ite_fst) | (with_reducible apply setFit_frame)
    | (with_reducible apply considerAgreement_frame) | (with_reducible apply State.bump_frame) | extract_lets | split
    | (dsimp -zeta only) | (dsimp +zetaDelta -zeta only)

theorem observe_frame {m : Nat} {s0 s : State} (hm : sub 0x80848021 m = true) (h : Frame m s0 s) (o : Observation) :
    Frame m s0 (observe s o) := by
  unfold observe
  repeat' first
    | (with_reducible assumption) | (exact sub_trans rfl hm) | intro _ | (with_reducible apply Frame.ite)
    | (with_reducible apply Frame.ite_fst) | (with_reducible apply postEvent_frame) | (with_reducible apply State.bump_frame)
    | (with_reducible apply State.putDrift_frame) | extract_lets | split | (dsimp -zeta only) | (dsimp +zetaDelta -zeta only)

theorem fitObservation_frame {m : Nat} {s0 s : State} (hm : sub 0x18697E021 m = true) (h : Frame m s0 s) (o : Observation) :
    Frame m s0 (fitObservation s o) := by
  unfold fitObservation
  repeat' first
    | (with_reducible assumption) | (exact sub_trans rfl hm) | intro _ | (with_reducible apply Frame.ite)
    | (with_reducible apply Frame.ite_fst) | (with_reducible apply putFit_frame) | (with_reducible apply State.bumpWrap_frame)
    | (with_reducible apply writeLine_frame) | (with_reducible apply State.bump_frame)
    | (with_reducible apply considerAgreement_frame) | extract_lets | split | (dsimp -zeta only) | (dsimp +zetaDelta -zeta only)

end Sys2Proof.Machine
end

