-- ==== Sys2Proof/Laws/FrameIndigoOps.lean ====
section
/-!
SUPPORT. Which components the operations of Machine/IndigoOps.lean may change (`Frame`).
-/

namespace Sys2Proof.Machine

set_option linter.unusedVariables false
set_option linter.unusedTactic false
set_option linter.unreachableTactic false

theorem setMapEntry_frame {m : Nat} {s0 s : State} (hm : sub 0x2001 m = true) (h : Frame m s0 s) (n : Nat) (e : MapEntry) :
    Frame m s0 (setMapEntry s n e) := by
  unfold setMapEntry
  repeat' first
    | (with_reducible assumption) | (exact sub_trans rfl hm) | intro _ | (with_reducible apply viewImap_frame)
    | (with_reducible apply State.putImap_frame) | extract_lets | split | (dsimp -zeta only) | (dsimp +zetaDelta -zeta only)

theorem nextMsn_frame {m : Nat} {s0 s : State} (hm : sub 0x2001 m = true) (h : Frame m s0 s) :
    Frame m s0 (nextMsn s).1 := by
  unfold nextMsn
  repeat' first
    | (with_reducible assumption) | (exact sub_trans rfl hm) | intro _ | (with_reducible apply State.putImap_frame)
    | (with_reducible apply State.set_frame) | (with_reducible apply State.bump_frame) | extract_lets | split
    | (dsimp -zeta only) | (dsimp +zetaDelta -zeta only)

theorem queueMapFrame_frame {m : Nat} {s0 s : State} (hm : sub 0x18697E021 m = true) (h : Frame m s0 s) (n msn rate : Nat) (clear : Bool) (map : Nat) :
    Frame m s0 (queueMapFrame s n msn rate clear map) := by
  unfold queueMapFrame
  repeat' first
    | (with_reducible assumption) | (exact sub_trans rfl hm) | intro _ | (with_reducible apply sendDirect_frame) | extract_lets
    | split | (dsimp -zeta only) | (dsimp +zetaDelta -zeta only)

theorem clearMap_frame {m : Nat} {s0 s : State} (hm : sub 0x18697E021 m = true) (h : Frame m s0 s) (n : Nat) :
    Frame m s0 (clearMap s n) := by
  unfold clearMap
  repeat' first
    | (with_reducible assumption) | (exact sub_trans rfl hm) | intro _ | (with_reducible apply nextMsn_frame)
    | (with_reducible apply freeMapEntry_frame) | (with_reducible apply setLineField_frame)
    | (with_reducible apply queueMapFrame_frame) | (with_reducible refine Frame.of_pair (by assumption) ?_) | extract_lets
    | split | (dsimp -zeta only) | (dsimp +zetaDelta -zeta only)

theorem mapTableFull_frame {m : Nat} {s0 s : State} (hm : sub 0x18697E021 m = true) (h : Frame m s0 s) (n : Nat) :
    Frame m s0 (mapTableFull s n) := by
  unfold mapTableFull
  repeat' first
    | (with_reducible assumption) | (exact sub_trans rfl hm) | intro _ | (with_reducible apply postEvent_frame)
    | (with_reducible apply clearMap_frame) | (with_reducible apply State.bump_frame) | extract_lets | split
    | (dsimp -zeta only) | (dsimp +zetaDelta -zeta only)

theorem pendMap_frame {m : Nat} {s0 s : State} (hm : sub 0x18697E021 m = true) (h : Frame m s0 s) (n map rate : Nat) :
    Frame m s0 (pendMap s n map rate) := by
  unfold pendMap
  repeat' first
    | (with_reducible assumption) | (exact sub_trans rfl hm) | intro _ | (with_reducible apply Frame.ite)
    | (with_reducible apply Frame.ite_fst) | (with_reducible apply nextMsn_frame) | (with_reducible apply queueMapFrame_frame)
    | (with_reducible apply setMapEntry_frame) | (with_reducible apply mapTableFull_frame)
    | (with_reducible refine Frame.of_pair (by assumption) ?_) | extract_lets | split | (dsimp -zeta only)
    | (dsimp +zetaDelta -zeta only)

theorem issueMap_frame {m : Nat} {s0 s : State} (hm : sub 0x18697E021 m = true) (h : Frame m s0 s) (n : Nat) (codes : List Nat) :
    Frame m s0 (issueMap s n codes) := by
  unfold issueMap
  repeat' first
    | (with_reducible assumption) | (exact sub_trans rfl hm) | intro _ | (with_reducible apply Frame.ite)
    | (with_reducible apply Frame.ite_fst) | (with_reducible apply State.bump_frame) | (with_reducible apply clearMap_frame)
    | (with_reducible apply pendMap_frame) | extract_lets | split | (dsimp -zeta only) | (dsimp +zetaDelta -zeta only)

theorem reissueMap_frame {m : Nat} {s0 s : State} (hm : sub 0x18697E021 m = true) (h : Frame m s0 s) (n : Nat) :
    Frame m s0 (reissueMap s n) := by
  unfold reissueMap
  repeat' first
    | (with_reducible assumption) | (exact sub_trans rfl hm) | intro _ | (with_reducible apply Frame.ite)
    | (with_reducible apply Frame.ite_fst) | (with_reducible apply clearMap_frame) | (with_reducible apply pendMap_frame)
    | extract_lets | split | (dsimp -zeta only) | (dsimp +zetaDelta -zeta only)

theorem learnDecide_frame {m : Nat} {s0 s : State} (hm : sub 0x18697E021 m = true) (h : Frame m s0 s) (n : Nat) (e : MapEntry) :
    Frame m s0 (learnDecide s n e) := by
  unfold learnDecide
  repeat' first
    | (with_reducible assumption) | (exact sub_trans rfl hm) | intro _ | (with_reducible apply Frame.ite)
    | (with_reducible apply Frame.ite_fst) | (with_reducible apply issueMap_frame) | (with_reducible apply freeMapEntry_frame)
    | extract_lets | split | (dsimp -zeta only) | (dsimp +zetaDelta -zeta only)

theorem learnTrailer_frame {m : Nat} {s0 s : State} (hm : sub 0x18697E021 m = true) (h : Frame m s0 s) (n : Nat) (trailer : List Byte) :
    Frame m s0 (learnTrailer s n trailer) := by
  unfold learnTrailer
  repeat' first
    | (with_reducible assumption) | (exact sub_trans rfl hm) | intro _ | (with_reducible apply Frame.ite)
    | (with_reducible apply Frame.ite_fst) | (with_reducible apply learnDecide_frame) | (with_reducible apply setMapEntry_frame)
    | (with_reducible apply mapTableFull_frame) | extract_lets | split | (dsimp -zeta only) | (dsimp +zetaDelta -zeta only)

theorem confirmMap_frame {m : Nat} {s0 s : State} (hm : sub 0x106112001 m = true) (h : Frame m s0 s) (n : Nat) :
    Frame m s0 (confirmMap s n) := by
  unfold confirmMap
  repeat' first
    | (with_reducible assumption) | (exact sub_trans rfl hm) | intro _ | (with_reducible apply Frame.ite)
    | (with_reducible apply Frame.ite_fst) | (with_reducible apply setMapEntry_frame) | (with_reducible apply writeLine_frame)
    | (with_reducible apply State.bump_frame) | extract_lets | split | (dsimp -zeta only) | (dsimp +zetaDelta -zeta only)

theorem retryMap_frame {m : Nat} {s0 s : State} (hm : sub 0x18697E021 m = true) (h : Frame m s0 s) (n began : Nat) :
    Frame m s0 (retryMap s n began) := by
  unfold retryMap
  repeat' first
    | (with_reducible assumption) | (exact sub_trans rfl hm) | intro _ | (with_reducible apply Frame.ite)
    | (with_reducible apply Frame.ite_fst) | (with_reducible apply postEvent_frame) | (with_reducible apply freeMapEntry_frame)
    | (with_reducible apply State.bump_frame) | (with_reducible apply queueMapFrame_frame)
    | (with_reducible apply setMapEntry_frame) | extract_lets | split | (dsimp -zeta only) | (dsimp +zetaDelta -zeta only)

theorem mapFrameSent_frame {m : Nat} {s0 s : State} (hm : sub 0x2001 m = true) (h : Frame m s0 s) (n msn ended : Nat) :
    Frame m s0 (mapFrameSent s n msn ended) := by
  unfold mapFrameSent
  repeat' first
    | (with_reducible assumption) | (exact sub_trans rfl hm) | intro _ | (with_reducible apply Frame.ite)
    | (with_reducible apply Frame.ite_fst) | (with_reducible apply setMapEntry_frame) | extract_lets | split
    | (dsimp -zeta only) | (dsimp +zetaDelta -zeta only)

theorem mapHeard_frame {m : Nat} {s0 s : State} (hm : sub 0x18697E021 m = true) (h : Frame m s0 s) (n began : Nat) (trailer : List Byte) :
    Frame m s0 (mapHeard s n began trailer) := by
  unfold mapHeard
  repeat' first
    | (with_reducible assumption) | (exact sub_trans rfl hm) | intro _ | (with_reducible apply Frame.ite)
    | (with_reducible apply Frame.ite_fst) | (with_reducible apply confirmMap_frame) | (with_reducible apply retryMap_frame)
    | (with_reducible apply State.putImap_frame) | extract_lets | split | (dsimp -zeta only) | (dsimp +zetaDelta -zeta only)

end Sys2Proof.Machine
end

