-- ==== Sys2Proof/Laws/FramePsmOps.lean ====
section
/-!
SUPPORT. Which components the operations of Machine/PsmOps.lean may change (`Frame`).
-/

namespace Sys2Proof.Machine

set_option linter.unusedVariables false
set_option linter.unusedTactic false
set_option linter.unreachableTactic false

theorem setExchange_frame {m : Nat} {s0 s : State} (hm : sub 0x4000 m = true) (h : Frame m s0 s) (n : Nat) (e : Exchange) :
    Frame m s0 (setExchange s n e) := by
  unfold setExchange
  repeat' first
    | (with_reducible assumption) | (exact sub_trans rfl hm) | intro _ | (with_reducible apply State.putPsm_frame)
    | extract_lets | split | (dsimp -zeta only) | (dsimp +zetaDelta -zeta only)

theorem planInterval_frame {m : Nat} {s0 s : State} (hm : sub 0x4000 m = true) (h : Frame m s0 s) (l : List WorkItem) :
    Frame m s0 (planInterval s l) := by
  unfold planInterval
  repeat' first
    | (with_reducible assumption) | (exact sub_trans rfl hm) | intro _ | (with_reducible apply State.putPsm_frame)
    | extract_lets | split | (dsimp -zeta only) | (dsimp +zetaDelta -zeta only)

theorem enterSolo_frame {m : Nat} {s0 s : State} (hm : sub 0x20001 m = true) (h : Frame m s0 s) (n : Nat) :
    Frame m s0 (enterSolo s n) := by
  unfold enterSolo
  repeat' first
    | (with_reducible assumption) | (exact sub_trans rfl hm) | intro _ | (with_reducible apply State.putSched_frame)
    | (with_reducible apply State.set_frame) | extract_lets | split | (dsimp -zeta only) | (dsimp +zetaDelta -zeta only)

theorem controlFrame_frame {m : Nat} {s0 s : State} (hm : sub 0x18697E021 m = true) (h : Frame m s0 s) (n : Nat) (kind : FrameKind) (len : Nat) :
    Frame m s0 (controlFrame s n kind len).1 := by
  unfold controlFrame
  repeat' first
    | (with_reducible assumption) | (exact sub_trans rfl hm) | intro _ | (with_reducible apply Frame.ite)
    | (with_reducible apply Frame.ite_fst) | (with_reducible apply checkExhausted_frame)
    | (with_reducible apply takeCounter_frame) | (with_reducible apply keyRequest_frame)
    | (with_reducible apply storeFrame_frame) | (with_reducible refine Frame.of_pair (by assumption) ?_) | extract_lets | split
    | (dsimp -zeta only) | (dsimp +zetaDelta -zeta only)

theorem planAck_frame {m : Nat} {s0 s : State} (hm : sub 0x18697E021 m = true) (h : Frame m s0 s) (n dsn : Nat) (e : Int) (ended : Nat) :
    Frame m s0 (planAck s n dsn e ended) := by
  unfold planAck
  repeat' first
    | (with_reducible assumption) | (exact sub_trans rfl hm) | intro _ | (with_reducible apply Frame.ite)
    | (with_reducible apply Frame.ite_fst) | (with_reducible apply controlFrame_frame) | (with_reducible apply enterSolo_frame)
    | (with_reducible apply removeFrame_frame) | (with_reducible apply State.bump_frame)
    | (with_reducible apply planInterval_frame) | (with_reducible apply setExchange_frame)
    | (with_reducible refine Frame.of_pair (by assumption) ?_) | extract_lets | split | (dsimp -zeta only)
    | (dsimp +zetaDelta -zeta only)

theorem planFollowOn_frame {m : Nat} {s0 s : State} (hm : sub 0x24001 m = true) (h : Frame m s0 s) (n start : Nat) :
    Frame m s0 (planFollowOn s n start) := by
  unfold planFollowOn
  repeat' first
    | (with_reducible assumption) | (exact sub_trans rfl hm) | intro _ | (with_reducible apply Frame.ite)
    | (with_reducible apply Frame.ite_fst) | (with_reducible apply State.bump_frame) | (with_reducible apply nextDownlink_frame)
    | (with_reducible apply takeVirtual_frame) | (with_reducible apply State.setFrame_frame)
    | (with_reducible apply planInterval_frame) | (with_reducible apply setExchange_frame)
    | (with_reducible refine Frame.of_pair (by assumption) ?_) | extract_lets | split | (dsimp -zeta only)
    | (dsimp +zetaDelta -zeta only)

theorem missedPoll_frame {m : Nat} {s0 s : State} (hm : sub 0x18697A021 m = true) (h : Frame m s0 s) (n : Nat) (unionOnly : Bool) :
    Frame m s0 (missedPoll s n unionOnly) := by
  unfold missedPoll
  repeat' first
    | (with_reducible assumption) | (exact sub_trans rfl hm) | intro _ | (with_reducible apply Frame.ite)
    | (with_reducible apply Frame.ite_fst) | (with_reducible apply State.bump_frame) | (with_reducible apply writeLine_frame)
    | (with_reducible apply postEvent_frame) | (with_reducible apply loseNode_frame) | extract_lets | split | (dsimp -zeta only)
    | (dsimp +zetaDelta -zeta only)

theorem replyWindowEnds_frame {m : Nat} {s0 s : State} (hm : sub 0x18697E021 m = true) (h : Frame m s0 s) (n : Nat) :
    Frame m s0 (replyWindowEnds s n) := by
  unfold replyWindowEnds
  repeat' first
    | (with_reducible assumption) | (exact sub_trans rfl hm) | intro _ | (with_reducible apply Frame.ite)
    | (with_reducible apply Frame.ite_fst) | (with_reducible apply setExchange_frame) | (with_reducible apply missedPoll_frame)
    | extract_lets | split | (dsimp -zeta only) | (dsimp +zetaDelta -zeta only)

theorem nodeAckMissed_frame {m : Nat} {s0 s : State} (hm : sub 0x18697E021 m = true) (h : Frame m s0 s) (n : Nat) :
    Frame m s0 (nodeAckMissed s n) := by
  unfold nodeAckMissed
  repeat' first
    | (with_reducible assumption) | (exact sub_trans rfl hm) | intro _ | (with_reducible apply Frame.ite)
    | (with_reducible apply Frame.ite_fst) | (with_reducible apply setExchange_frame)
    | (with_reducible apply agreementFreed_frame) | (with_reducible apply discardFrame_frame)
    | (with_reducible apply State.putSched_frame) | extract_lets | split | (dsimp -zeta only) | (dsimp +zetaDelta -zeta only)

theorem nodeAckHeard_frame {m : Nat} {s0 s : State} (hm : sub 0x18697E021 m = true) (h : Frame m s0 s) (n seq ended : Nat) :
    Frame m s0 (nodeAckHeard s n seq ended) := by
  unfold nodeAckHeard
  repeat' first
    | (with_reducible assumption) | (exact sub_trans rfl hm) | intro _ | (with_reducible apply Frame.ite)
    | (with_reducible apply Frame.ite_fst) | (with_reducible apply setExchange_frame) | (with_reducible apply removeFrame_frame)
    | (with_reducible apply agreementAcked_frame) | (with_reducible apply State.putSec_frame)
    | (with_reducible apply planFollowOn_frame) | extract_lets | split | (dsimp -zeta only) | (dsimp +zetaDelta -zeta only)

theorem firstSend_frame {m : Nat} {s0 s : State} (hm : sub 0x80860021 m = true) (h : Frame m s0 s) (f : TxFrame) :
    Frame m s0 (firstSend s f) := by
  unfold firstSend
  repeat' first
    | (with_reducible assumption) | (exact sub_trans rfl hm) | intro _ | (with_reducible apply Frame.ite)
    | (with_reducible apply Frame.ite_fst) | (with_reducible apply sampleDelay_frame)
    | (with_reducible apply crimsonCheck_frame) | extract_lets | split | (dsimp -zeta only) | (dsimp +zetaDelta -zeta only)

theorem noteBeacon_frame {m : Nat} {s0 s : State} (hm : sub 0x80000001 m = true) (h : Frame m s0 s) :
    Frame m s0 (noteBeacon s) := by
  unfold noteBeacon
  repeat' first
    | (with_reducible assumption) | (exact sub_trans rfl hm) | intro _ | (with_reducible apply Frame.ite)
    | (with_reducible apply Frame.ite_fst) | (with_reducible apply bootMs_frame) | (with_reducible apply State.set_frame)
    | extract_lets | split | (dsimp -zeta only) | (dsimp +zetaDelta -zeta only)

theorem frameSent_frame {m : Nat} {s0 s : State} (hm : sub 0x186976021 m = true) (h : Frame m s0 s) (h ended : Nat) :
    Frame m s0 (frameSent s h ended) := by
  unfold frameSent
  repeat' first
    | (with_reducible assumption) | (exact sub_trans rfl hm) | intro _ | (with_reducible apply Frame.ite)
    | (with_reducible apply Frame.ite_fst) | (with_reducible apply noteBeacon_frame) | (with_reducible apply removeFrame_frame)
    | (with_reducible apply State.bump_frame) | (with_reducible apply setExchange_frame)
    | (with_reducible apply planFollowOn_frame) | (with_reducible apply State.setFrame_frame)
    | (with_reducible apply firstSend_frame) | (with_reducible apply mapFrameSent_frame) | extract_lets | split
    | (dsimp -zeta only) | (dsimp +zetaDelta -zeta only)

end Sys2Proof.Machine
end

