-- ==== Sys2Proof/Laws/FrameScheduling.lean ====
section
/-!
SUPPORT. Which components the operations of Machine/Scheduling.lean may change (`Frame`).
-/

namespace Sys2Proof.Machine

set_option linter.unusedVariables false
set_option linter.unusedTactic false
set_option linter.unreachableTactic false

theorem drainCheck_frame {m : Nat} {s0 s : State} (hm : sub 0x80840021 m = true) (h : Frame m s0 s) (first : Nat) :
    Frame m s0 (drainCheck s first) := by
  unfold drainCheck
  repeat' first
    | (with_reducible assumption) | (exact sub_trans rfl hm) | intro _ | (with_reducible apply Frame.ite)
    | (with_reducible apply Frame.ite_fst) | (with_reducible apply postEvent_frame) | (with_reducible apply State.set_frame)
    | (with_reducible apply Frame.fold) | extract_lets | split | (dsimp -zeta only) | (dsimp +zetaDelta -zeta only)

theorem drainPath_frame {m : Nat} {s0 s : State} (hm : sub 0x100 m = true) (h : Frame m s0 s) (first p : Nat) :
    Frame m s0 (drainPath s first p) := by
  unfold drainPath
  repeat' first
    | (with_reducible assumption) | (exact sub_trans rfl hm) | intro _ | (with_reducible apply Frame.ite)
    | (with_reducible apply Frame.ite_fst) | (with_reducible apply State.setPath_frame) | extract_lets | split
    | (dsimp -zeta only) | (dsimp +zetaDelta -zeta only)

theorem adoptEpoch_frame {m : Nat} {s0 old : State} (hm : sub 0x80868921 m = true) (h : Frame m s0 old) (number first : Nat) :
    Frame m s0 (adoptEpoch old number first) := by
  unfold adoptEpoch
  repeat' first
    | (with_reducible assumption) | (exact sub_trans rfl hm) | intro _ | (with_reducible apply drainPath_frame)
    | (with_reducible apply State.putSched_frame) | (with_reducible apply State.putDrift_frame)
    | (with_reducible apply calPreempt_frame) | (with_reducible apply State.set_frame) | (with_reducible apply Frame.fold)
    | extract_lets | split | (dsimp -zeta only) | (dsimp +zetaDelta -zeta only)

theorem epochBarrier_frame {m : Nat} {s0 s : State} (hm : sub 0x80840821 m = true) (h : Frame m s0 s) :
    Frame m s0 (epochBarrier s) := by
  unfold epochBarrier
  repeat' first
    | (with_reducible assumption) | (exact sub_trans rfl hm) | intro _ | (with_reducible apply Frame.ite)
    | (with_reducible apply Frame.ite_fst) | (with_reducible apply giveLoad_frame) | (with_reducible apply Frame.fold)
    | extract_lets | split | (dsimp -zeta only) | (dsimp +zetaDelta -zeta only)

theorem switchEpoch_frame {m : Nat} {s0 s : State} (hm : sub 0x184868921 m = true) (h : Frame m s0 s) (first : Nat) :
    Frame m s0 (switchEpoch s first) := by
  unfold switchEpoch
  repeat' first
    | (with_reducible assumption) | (exact sub_trans rfl hm) | intro _ | (with_reducible apply epochBarrier_frame)
    | (with_reducible apply adoptEpoch_frame) | (with_reducible apply mirror_frame) | (with_reducible apply postEvent_frame)
    | (with_reducible apply viewTone_frame) | (with_reducible apply Frame.fold) | extract_lets | split | (dsimp -zeta only)
    | (dsimp +zetaDelta -zeta only)

theorem takeEpoch_frame {m : Nat} {s0 s : State} (hm : sub 0x80868921 m = true) (h : Frame m s0 s) (number first : Nat) (fields : List (Nat × Nat)) :
    Frame m s0 (takeEpoch s number first fields) := by
  unfold takeEpoch
  repeat' first
    | (with_reducible assumption) | (exact sub_trans rfl hm) | intro _ | (with_reducible apply Frame.ite)
    | (with_reducible apply Frame.ite_fst) | (with_reducible apply State.setWord_frame) | (with_reducible apply State.set_frame)
    | (with_reducible apply epochBarrier_frame) | (with_reducible apply adoptEpoch_frame)
    | (with_reducible apply postEvent_frame) | (with_reducible apply Frame.fold) | extract_lets | split | (dsimp -zeta only)
    | (dsimp +zetaDelta -zeta only)

theorem execScheduleEpochSwitch_frame {m : Nat} {s0 s : State} (hm : sub 0x184868921 m = true) (h : Frame m s0 s) :
    OutFrame m s0 (execScheduleEpochSwitch s) := by
  unfold execScheduleEpochSwitch
  repeat' first
    | (with_reducible assumption) | (exact sub_trans rfl hm) | intro _ | (with_reducible apply OutFrame.next)
    | (with_reducible apply OutFrame.ite) | (with_reducible apply Frame.ite) | (with_reducible apply Frame.ite_fst)
    | (with_reducible apply drainCheck_frame) | (with_reducible apply switchEpoch_frame) | extract_lets | split
    | (dsimp -zeta only) | (dsimp +zetaDelta -zeta only)

theorem execPathSchedWrite_frame {m : Nat} {s0 s : State} (hm : sub 0x20001 m = true) (h : Frame m s0 s) (path : Nat) (drain : Bool) :
    OutFrame m s0 (execPathSchedWrite path drain s) := by
  unfold execPathSchedWrite
  repeat' first
    | (with_reducible assumption) | (exact sub_trans rfl hm) | intro _ | (with_reducible apply OutFrame.next)
    | (with_reducible apply OutFrame.ite) | (with_reducible apply Frame.ite) | (with_reducible apply Frame.ite_fst)
    | (with_reducible apply State.setBit_frame) | (with_reducible apply State.set_frame)
    | (with_reducible apply State.putSched_frame) | extract_lets | split | (dsimp -zeta only) | (dsimp +zetaDelta -zeta only)

theorem execDepthSample_frame {m : Nat} {s0 s : State} (hm : sub 0x1 m = true) (h : Frame m s0 s) :
    OutFrame m s0 (execDepthSample s) := by
  unfold execDepthSample
  repeat' first
    | (with_reducible assumption) | (exact sub_trans rfl hm) | intro _ | (with_reducible apply OutFrame.next)
    | (with_reducible apply OutFrame.ite) | (with_reducible apply Frame.ite) | (with_reducible apply Frame.ite_fst)
    | (with_reducible apply State.set_frame) | (with_reducible apply Frame.fold) | extract_lets | split | (dsimp -zeta only)
    | (dsimp +zetaDelta -zeta only)

end Sys2Proof.Machine
end

