-- ==== Sys2Proof/Laws/FramePairOps.lean ====
section
/-!
SUPPORT. Which components the operations of Machine/PairOps.lean may change (`Frame`).
-/

namespace Sys2Proof.Machine

set_option linter.unusedVariables false
set_option linter.unusedTactic false
set_option linter.unreachableTactic false

theorem setRole_frame {m : Nat} {s0 s : State} (hm : sub 0x80840021 m = true) (h : Frame m s0 s) (role cause : Nat) :
    Frame m s0 (setRole s role cause) := by
  unfold setRole
  repeat' first
    | (with_reducible assumption) | (exact sub_trans rfl hm) | intro _ | (with_reducible apply postEvent_frame)
    | (with_reducible apply State.set_frame) | extract_lets | split | (dsimp -zeta only) | (dsimp +zetaDelta -zeta only)

theorem cutEgress_frame {m : Nat} {s0 s : State} (hm : sub 0x400001 m = true) (h : Frame m s0 s) (e : Nat) :
    Frame m s0 (cutEgress s e) := by
  unfold cutEgress
  repeat' first
    | (with_reducible assumption) | (exact sub_trans rfl hm) | intro _ | (with_reducible apply accrue_frame)
    | (with_reducible apply State.putEth_frame) | (with_reducible apply setEthPort_frame)
    | (with_reducible apply State.bumpBy_frame) | extract_lets | split | (dsimp -zeta only) | (dsimp +zetaDelta -zeta only)

theorem gateChanged_frame {m : Nat} {s0 s : State} (hm : sub 0x186D75121 m = true) (h : Frame m s0 s) (was : Bool) :
    Frame m s0 (gateChanged was s) := by
  unfold gateChanged
  repeat' first
    | (with_reducible assumption) | (exact sub_trans rfl hm) | intro _ | (with_reducible apply Frame.ite)
    | (with_reducible apply Frame.ite_fst) | (with_reducible apply State.setBit_frame) | (with_reducible apply cutEgress_frame)
    | (with_reducible apply closeRadioGate_frame) | (with_reducible apply startEgress_frame) | (with_reducible apply Frame.fold)
    | extract_lets | split | (dsimp -zeta only) | (dsimp +zetaDelta -zeta only)

theorem sendControl_frame {m : Nat} {s0 s : State} (hm : sub 0x104000001 m = true) (h : Frame m s0 s) (r : MirrorRecord) :
    Frame m s0 (sendControl s r) := by
  unfold sendControl
  repeat' first
    | (with_reducible assumption) | (exact sub_trans rfl hm) | intro _ | (with_reducible apply Frame.ite)
    | (with_reducible apply Frame.ite_fst) | (with_reducible apply sendRecord_frame) | extract_lets | split | (dsimp -zeta only)
    | (dsimp +zetaDelta -zeta only)

theorem viewInterlock_frame {m : Nat} {s0 s : State} (hm : sub 0x1 m = true) (h : Frame m s0 s) :
    Frame m s0 (viewInterlock s) := by
  unfold viewInterlock
  repeat' first
    | (with_reducible assumption) | (exact sub_trans rfl hm) | intro _ | (with_reducible apply Frame.ite)
    | (with_reducible apply Frame.ite_fst) | (with_reducible apply State.setBit_frame) | (with_reducible apply State.bump_frame)
    | extract_lets | split | (dsimp -zeta only) | (dsimp +zetaDelta -zeta only)

theorem driveClaim_frame {m : Nat} {s0 s : State} (hm : sub 0x186D75121 m = true) (h : Frame m s0 s) :
    Frame m s0 (driveClaim s) := by
  unfold driveClaim
  repeat' first
    | (with_reducible assumption) | (exact sub_trans rfl hm) | intro _ | (with_reducible apply State.putPair_frame)
    | (with_reducible apply State.putSched_frame) | (with_reducible apply gateChanged_frame)
    | (with_reducible apply State.set_frame) | extract_lets | split | (dsimp -zeta only) | (dsimp +zetaDelta -zeta only)

theorem releaseClaim_frame {m : Nat} {s0 s : State} (hm : sub 0x186D75121 m = true) (h : Frame m s0 s) :
    Frame m s0 (releaseClaim s) := by
  unfold releaseClaim
  repeat' first
    | (with_reducible assumption) | (exact sub_trans rfl hm) | intro _ | (with_reducible apply gateChanged_frame)
    | (with_reducible apply sendControl_frame) | (with_reducible apply State.set_frame) | extract_lets | split
    | (dsimp -zeta only) | (dsimp +zetaDelta -zeta only)

theorem clearSwitchover_frame {m : Nat} {s0 s : State} (hm : sub 0x4000001 m = true) (h : Frame m s0 s) :
    Frame m s0 (clearSwitchover s) := by
  unfold clearSwitchover
  repeat' first
    | (with_reducible assumption) | (exact sub_trans rfl hm) | intro _ | (with_reducible apply State.putPair_frame)
    | (with_reducible apply State.set_frame) | extract_lets | split | (dsimp -zeta only) | (dsimp +zetaDelta -zeta only)

theorem dropSync_frame {m : Nat} {s0 s : State} (hm : sub 0x4000001 m = true) (h : Frame m s0 s) :
    Frame m s0 (dropSync s) := by
  unfold dropSync
  repeat' first
    | (with_reducible assumption) | (exact sub_trans rfl hm) | intro _ | (with_reducible apply State.set_frame)
    | (with_reducible apply State.putPair_frame) | extract_lets | split | (dsimp -zeta only) | (dsimp +zetaDelta -zeta only)

theorem endClaim_frame {m : Nat} {s0 s : State} (hm : sub 0x186D75121 m = true) (h : Frame m s0 s) (cause : Nat) :
    Frame m s0 (endClaim s cause) := by
  unfold endClaim
  repeat' first
    | (with_reducible assumption) | (exact sub_trans rfl hm) | intro _ | (with_reducible apply Frame.ite)
    | (with_reducible apply Frame.ite_fst) | (with_reducible apply clearSwitchover_frame)
    | (with_reducible apply releaseClaim_frame) | (with_reducible apply State.putPair_frame)
    | (with_reducible apply setRole_frame) | (with_reducible apply dropSync_frame) | extract_lets | split | (dsimp -zeta only)
    | (dsimp +zetaDelta -zeta only)

theorem switchDone_frame {m : Nat} {s0 s : State} (hm : sub 0x84840021 m = true) (h : Frame m s0 s) (w : Switchover) (us : Nat) :
    Frame m s0 (switchDone s w us) := by
  unfold switchDone
  repeat' first
    | (with_reducible assumption) | (exact sub_trans rfl hm) | intro _ | (with_reducible apply State.set_frame)
    | (with_reducible apply clearSwitchover_frame) | (with_reducible apply State.bump_frame)
    | (with_reducible apply postEvent_frame) | extract_lets | split | (dsimp -zeta only) | (dsimp +zetaDelta -zeta only)

theorem startPlanned_frame {m : Nat} {s0 s : State} (hm : sub 0x4000001 m = true) (h : Frame m s0 s) (cause next : Nat) :
    Frame m s0 (startPlanned s cause next) := by
  unfold startPlanned
  repeat' first
    | (with_reducible assumption) | (exact sub_trans rfl hm) | intro _ | (with_reducible apply State.putPair_frame)
    | (with_reducible apply State.set_frame) | extract_lets | split | (dsimp -zeta only) | (dsimp +zetaDelta -zeta only)

theorem setBcast_frame {m : Nat} {s0 s : State} (hm : sub 0x200000 m = true) (h : Frame m s0 s) (d v : Nat) :
    Frame m s0 (setBcast s d v) := by
  unfold setBcast
  repeat' first
    | (with_reducible assumption) | (exact sub_trans rfl hm) | intro _ | (with_reducible apply State.putTree_frame)
    | extract_lets | split | (dsimp -zeta only) | (dsimp +zetaDelta -zeta only)

theorem applyReservation_frame {m : Nat} {s0 s : State} (hm : sub 0x106310001 m = true) (h : Frame m s0 s) (node : Nat) (district : Bool) (block : Nat) :
    Frame m s0 (applyReservation s node district block) := by
  unfold applyReservation
  repeat' first
    | (with_reducible assumption) | (exact sub_trans rfl hm) | intro _ | (with_reducible apply Frame.ite)
    | (with_reducible apply Frame.ite_fst) | (with_reducible apply setBcast_frame) | (with_reducible apply setLineField_frame)
    | (with_reducible apply State.putPair_frame) | extract_lets | split | (dsimp -zeta only) | (dsimp +zetaDelta -zeta only)

theorem rewriteCounters_frame {m : Nat} {s0 s : State} (hm : sub 0x106310001 m = true) (h : Frame m s0 s) :
    Frame m s0 (rewriteCounters s) := by
  unfold rewriteCounters
  repeat' first
    | (with_reducible assumption) | (exact sub_trans rfl hm) | intro _ | (with_reducible apply applyReservation_frame)
    | (with_reducible apply Frame.fold) | extract_lets | split | (dsimp -zeta only) | (dsimp +zetaDelta -zeta only)

theorem dropLower_frame {m : Nat} {s0 s : State} (hm : sub 0x186D78021 m = true) (h : Frame m s0 s) :
    Frame m s0 (dropLower s) := by
  unfold dropLower
  repeat' first
    | (with_reducible assumption) | (exact sub_trans rfl hm) | intro _ | (with_reducible apply Frame.ite)
    | (with_reducible apply Frame.ite_fst) | (with_reducible apply dropFrame_frame) | (with_reducible apply State.bump_frame)
    | (with_reducible apply putGroup_frame) | (with_reducible apply State.putEth_frame) | (with_reducible apply putEgress_frame)
    | (with_reducible apply State.bumpBy_frame) | (with_reducible apply Frame.fold) | extract_lets | split | (dsimp -zeta only)
    | (dsimp +zetaDelta -zeta only)

theorem startResync_frame {m : Nat} {s0 s : State} (hm : sub 0x104000001 m = true) (h : Frame m s0 s) :
    Frame m s0 (startResync s) := by
  unfold startResync
  repeat' first
    | (with_reducible assumption) | (exact sub_trans rfl hm) | intro _ | (with_reducible apply State.putPair_frame)
    | (with_reducible apply State.set_frame) | (with_reducible apply sendRecord_frame) | (with_reducible apply State.emit_frame)
    | (with_reducible apply Frame.fold) | (with_reducible apply Frame.foldl_fst) | extract_lets | split | (dsimp -zeta only)
    | (dsimp +zetaDelta -zeta only)

theorem offerResync_frame {m : Nat} {s0 s : State} (hm : sub 0x104000001 m = true) (h : Frame m s0 s) :
    Frame m s0 (offerResync s) := by
  unfold offerResync
  repeat' first
    | (with_reducible assumption) | (exact sub_trans rfl hm) | intro _ | (with_reducible apply Frame.ite)
    | (with_reducible apply Frame.ite_fst) | (with_reducible apply startResync_frame) | extract_lets | split
    | (dsimp -zeta only) | (dsimp +zetaDelta -zeta only)

theorem rolesAlone_frame {m : Nat} {s0 s : State} (hm : sub 0x84840021 m = true) (h : Frame m s0 s) :
    Frame m s0 (rolesAlone s) := by
  unfold rolesAlone
  repeat' first
    | (with_reducible assumption) | (exact sub_trans rfl hm) | intro _ | (with_reducible apply Frame.ite)
    | (with_reducible apply Frame.ite_fst) | (with_reducible apply switchDone_frame) | (with_reducible apply setRole_frame)
    | (with_reducible apply clearSwitchover_frame) | extract_lets | split | (dsimp -zeta only) | (dsimp +zetaDelta -zeta only)

theorem linkDown_frame {m : Nat} {s0 s : State} (hm : sub 0x84840021 m = true) (h : Frame m s0 s) (cause : Nat) :
    Frame m s0 (linkDown s cause) := by
  unfold linkDown
  repeat' first
    | (with_reducible assumption) | (exact sub_trans rfl hm) | intro _ | (with_reducible apply Frame.ite)
    | (with_reducible apply Frame.ite_fst) | (with_reducible apply State.bump_frame) | (with_reducible apply State.set_frame)
    | (with_reducible apply State.putPair_frame) | (with_reducible apply postEvent_frame)
    | (with_reducible apply dropSync_frame) | (with_reducible apply viewInterlock_frame)
    | (with_reducible apply rolesAlone_frame) | extract_lets | split | (dsimp -zeta only) | (dsimp +zetaDelta -zeta only)

end Sys2Proof.Machine
end

