-- ==== Sys2Proof/Laws/FrameBootOps.lean ====
section
/-!
SUPPORT. Which components the operations of Machine/BootOps.lean may change (`Frame`).
-/

namespace Sys2Proof.Machine

set_option linter.unusedVariables false
set_option linter.unusedTactic false
set_option linter.unreachableTactic false

theorem resetKeeping_frame {m : Nat} {s0 s : State} (hm : sub 0x3FDFFFEB m = true) (h : Frame m s0 s) (keep : List Fld) (power : PowerState) (phase : Phase) :
    Frame m s0 (resetKeeping s keep power phase) :=
  h.step hm fun c hc => by cases c <;> first | rfl | cases hc

theorem latchFail_frame {m : Nat} {s0 s : State} (hm : sub 0x1 m = true) (h : Frame m s0 s) (phase code : Nat) :
    Frame m s0 (latchFail s phase code) := by
  unfold latchFail
  repeat' first
    | (with_reducible assumption) | (exact sub_trans rfl hm) | intro _ | (with_reducible apply Frame.ite)
    | (with_reducible apply Frame.ite_fst) | (with_reducible apply State.bump_frame) | (with_reducible apply State.set_frame)
    | extract_lets | split | (dsimp -zeta only) | (dsimp +zetaDelta -zeta only)

theorem faultHold_frame {m : Nat} {s0 s : State} (hm : sub 0x1BFDFFFEB m = true) (h : Frame m s0 s) (phase code : Nat) :
    Frame m s0 (faultHold s phase code) := by
  unfold faultHold
  repeat' first
    | (with_reducible assumption) | (exact sub_trans rfl hm) | intro _ | (with_reducible apply stopTimebase_frame)
    | (with_reducible apply latchFail_frame) | (with_reducible apply endClaim_frame) | (with_reducible apply resetKeeping_frame)
    | extract_lets | split | (dsimp -zeta only) | (dsimp +zetaDelta -zeta only)

theorem setPhase_frame {m : Nat} {s0 s : State} (hm : sub 0x1 m = true) (h : Frame m s0 s) (p : Nat) :
    Frame m s0 (setPhase s p) := by
  unfold setPhase
  repeat' first
    | (with_reducible assumption) | (exact sub_trans rfl hm) | intro _ | (with_reducible apply State.set_frame) | extract_lets
    | split | (dsimp -zeta only) | (dsimp +zetaDelta -zeta only)

theorem imageWait_frame {m : Nat} {s0 s : State} (hm : sub 0x3 m = true) (h : Frame m s0 s) :
    Frame m s0 (imageWait s) := by
  unfold imageWait
  repeat' first
    | (with_reducible assumption) | (exact sub_trans rfl hm) | intro _ | (with_reducible apply setPhase_frame)
    | (with_reducible apply State.putBoot_frame) | extract_lets | split | (dsimp -zeta only) | (dsimp +zetaDelta -zeta only)

theorem romStart_frame {m : Nat} {s0 s : State} (hm : sub 0x2000003 m = true) (h : Frame m s0 s) :
    Frame m s0 (romStart s) := by
  unfold romStart
  repeat' first
    | (with_reducible assumption) | (exact sub_trans rfl hm) | intro _ | (with_reducible apply Frame.ite)
    | (with_reducible apply Frame.ite_fst) | (with_reducible apply setPhase_frame) | (with_reducible apply State.putBoot_frame)
    | (with_reducible apply applyRepairs_frame) | (with_reducible apply wearView_frame)
    | (with_reducible apply State.setBit_frame) | (with_reducible apply imageWait_frame) | extract_lets | split
    | (dsimp -zeta only) | (dsimp +zetaDelta -zeta only)

theorem warmClear_frame {m : Nat} {s0 s : State} (hm : sub 0x3FDFFFEB m = true) (h : Frame m s0 s) (phase : Phase) :
    Frame m s0 (warmClear s phase) := by
  unfold warmClear
  repeat' first
    | (with_reducible assumption) | (exact sub_trans rfl hm) | intro _ | (with_reducible apply stopTimebase_frame)
    | (with_reducible apply resetKeeping_frame) | (with_reducible apply State.setBit_frame)
    | (with_reducible apply State.putMi_frame) | (with_reducible apply State.putBoot_frame) | extract_lets | split
    | (dsimp -zeta only) | (dsimp +zetaDelta -zeta only)

theorem warmRestart_frame {m : Nat} {s0 s : State} (hm : sub 0x186D75123 m = true) (h : Frame m s0 s) :
    Frame m s0 (warmRestart s) := by
  unfold warmRestart
  repeat' first
    | (with_reducible assumption) | (exact sub_trans rfl hm) | intro _ | (with_reducible apply endClaim_frame)
    | (with_reducible apply State.putBoot_frame) | extract_lets | split | (dsimp -zeta only) | (dsimp +zetaDelta -zeta only)

end Sys2Proof.Machine
end

