-- ==== Sys2Proof/Laws/FrameConfigOps.lean ====
section
/-!
SUPPORT. Which components the operations of Machine/ConfigOps.lean may change (`Frame`).
-/

namespace Sys2Proof.Machine

set_option linter.unusedVariables false
set_option linter.unusedTactic false
set_option linter.unreachableTactic false

theorem putConfig_frame {m : Nat} {s0 s : State} (hm : sub 0x1 m = true) (h : Frame m s0 s) (key v : Nat) :
    Frame m s0 (putConfig s key v) := by
  unfold putConfig
  repeat' first
    | (with_reducible assumption) | (exact sub_trans rfl hm) | intro _ | (with_reducible apply State.setWord_frame)
    | extract_lets | split | (dsimp -zeta only) | (dsimp +zetaDelta -zeta only)

theorem viewJesd_frame {m : Nat} {s0 s : State} (hm : sub 0x1 m = true) (h : Frame m s0 s) :
    Frame m s0 (viewJesd s) := by
  unfold viewJesd
  repeat' first
    | (with_reducible assumption) | (exact sub_trans rfl hm) | intro _ | (with_reducible apply Frame.ite)
    | (with_reducible apply Frame.ite_fst) | (with_reducible apply State.set_frame) | extract_lets | split | (dsimp -zeta only)
    | (dsimp +zetaDelta -zeta only)

theorem takeTso_frame {m : Nat} {s0 s : State} (hm : sub 0x80001 m = true) (h : Frame m s0 s) (n : Nat) :
    Frame m s0 (takeTso s n) := by
  unfold takeTso
  repeat' first
    | (with_reducible assumption) | (exact sub_trans rfl hm) | intro _ | (with_reducible apply Frame.ite)
    | (with_reducible apply Frame.ite_fst) | (with_reducible apply State.setTso_frame) | (with_reducible apply tsoPassed_frame)
    | (with_reducible apply armTso_frame) | extract_lets | split | (dsimp -zeta only) | (dsimp +zetaDelta -zeta only)

theorem takeCe_frame {m : Nat} {s0 s : State} (hm : sub 0x801 m = true) (h : Frame m s0 s) (n : Nat) :
    Frame m s0 (takeCe s n) := by
  unfold takeCe
  repeat' first
    | (with_reducible assumption) | (exact sub_trans rfl hm) | intro _ | (with_reducible apply Frame.ite)
    | (with_reducible apply Frame.ite_fst) | (with_reducible apply State.set_frame) | (with_reducible apply State.setCe_frame)
    | extract_lets | split | (dsimp -zeta only) | (dsimp +zetaDelta -zeta only)

theorem takeEth_frame {m : Nat} {s0 s : State} (hm : sub 0x180C60021 m = true) (h : Frame m s0 s) (e : Nat) :
    Frame m s0 (takeEth s e) := by
  unfold takeEth
  repeat' first
    | (with_reducible assumption) | (exact sub_trans rfl hm) | intro _ | (with_reducible apply Frame.ite)
    | (with_reducible apply Frame.ite_fst) | (with_reducible apply portDown_frame) | extract_lets | split | (dsimp -zeta only)
    | (dsimp +zetaDelta -zeta only)

theorem takeFrontEnd_frame {m : Nat} {s0 s : State} (hm : sub 0x100 m = true) (h : Frame m s0 s) (n : Nat) :
    Frame m s0 (takeFrontEnd s n) := by
  unfold takeFrontEnd
  repeat' first
    | (with_reducible assumption) | (exact sub_trans rfl hm) | intro _ | (with_reducible apply Frame.ite)
    | (with_reducible apply Frame.ite_fst) | (with_reducible apply frontEndReceive_frame) | extract_lets | split
    | (dsimp -zeta only) | (dsimp +zetaDelta -zeta only)

theorem takeGuards_frame {m : Nat} {s0 s : State} (hm : sub 0x18697E021 m = true) (h : Frame m s0 s) (keys : List Nat) :
    Frame m s0 (takeGuards s keys) := by
  unfold takeGuards
  repeat' first
    | (with_reducible assumption) | (exact sub_trans rfl hm) | intro _ | (with_reducible apply Frame.ite)
    | (with_reducible apply Frame.ite_fst) | (with_reducible apply considerAgreement_frame) | (with_reducible apply Frame.fold)
    | extract_lets | split | (dsimp -zeta only) | (dsimp +zetaDelta -zeta only)

theorem configTaken_frame {m : Nat} {s0 s : State} (hm : sub 0x186DFE921 m = true) (h : Frame m s0 s) (keys : List Nat) :
    Frame m s0 (configTaken s keys) := by
  unfold configTaken
  repeat' first
    | (with_reducible assumption) | (exact sub_trans rfl hm) | intro _ | (with_reducible apply Frame.ite)
    | (with_reducible apply Frame.ite_fst) | (with_reducible apply takeFrontEnd_frame) | (with_reducible apply takeCe_frame)
    | (with_reducible apply takeTso_frame) | (with_reducible apply takeEth_frame) | (with_reducible apply State.set_frame)
    | (with_reducible apply State.putApp_frame) | (with_reducible apply takeGuards_frame)
    | (with_reducible apply viewJesd_frame) | (with_reducible apply Frame.fold) | extract_lets | split | (dsimp -zeta only)
    | (dsimp +zetaDelta -zeta only)

theorem putValues_frame {m : Nat} {s0 s : State} (hm : sub 0x106110001 m = true) (h : Frame m s0 s) (l : List (Nat × Nat)) :
    Frame m s0 (putValues s l) := by
  unfold putValues
  repeat' first
    | (with_reducible assumption) | (exact sub_trans rfl hm) | intro _ | (with_reducible apply Frame.ite)
    | (with_reducible apply Frame.ite_fst) | (with_reducible apply infraWrite_frame) | (with_reducible apply putConfig_frame)
    | (with_reducible apply Frame.fold) | extract_lets | split | (dsimp -zeta only) | (dsimp +zetaDelta -zeta only)

end Sys2Proof.Machine
end

