-- ==== Sys2Proof/Laws/FrameAppOps.lean ====
section
/-!
SUPPORT. Which components the operations of Machine/AppOps.lean may change (`Frame`).
-/

namespace Sys2Proof.Machine

set_option linter.unusedVariables false
set_option linter.unusedTactic false
set_option linter.unreachableTactic false

theorem loadApp_frame {m : Nat} {s0 s : State} (hm : sub 0x800000 m = true) (h : Frame m s0 s) (img : List Byte) :
    Frame m s0 (loadApp s img) := by
  unfold loadApp
  repeat' first
    | (with_reducible assumption) | (exact sub_trans rfl hm) | intro _ | (with_reducible apply State.putApp_frame)
    | extract_lets | split | (dsimp -zeta only) | (dsimp +zetaDelta -zeta only)

theorem restartWdog_frame {m : Nat} {s0 s : State} (hm : sub 0x800001 m = true) (h : Frame m s0 s) :
    Frame m s0 (restartWdog s) := by
  unfold restartWdog
  repeat' first
    | (with_reducible assumption) | (exact sub_trans rfl hm) | intro _ | (with_reducible apply aicLevel_frame)
    | (with_reducible apply State.putApp_frame) | (with_reducible apply State.set_frame) | extract_lets | split
    | (dsimp -zeta only) | (dsimp +zetaDelta -zeta only)

theorem releaseApp_frame {m : Nat} {s0 s : State} (hm : sub 0x800001 m = true) (h : Frame m s0 s) :
    Frame m s0 (releaseApp s) := by
  unfold releaseApp
  repeat' first
    | (with_reducible assumption) | (exact sub_trans rfl hm) | intro _ | (with_reducible apply restartWdog_frame)
    | (with_reducible apply State.putApp_frame) | (with_reducible apply State.set_frame) | extract_lets | split
    | (dsimp -zeta only) | (dsimp +zetaDelta -zeta only)

theorem resetApp_frame {m : Nat} {s0 s : State} (hm : sub 0x880001 m = true) (h : Frame m s0 s) :
    Frame m s0 (resetApp s) := by
  unfold resetApp
  repeat' first
    | (with_reducible assumption) | (exact sub_trans rfl hm) | intro _ | (with_reducible apply State.putRegs_frame)
    | (with_reducible apply State.putTb_frame) | (with_reducible apply State.set_frame)
    | (with_reducible apply State.putApp_frame) | (with_reducible apply aicLevel_frame) | (with_reducible apply Frame.fold)
    | extract_lets | split | (dsimp -zeta only) | (dsimp +zetaDelta -zeta only)

theorem reloadApp_frame {m : Nat} {s0 s : State} (hm : sub 0x800000 m = true) (h : Frame m s0 s) :
    Frame m s0 (reloadApp s) := by
  unfold reloadApp
  repeat' first
    | (with_reducible assumption) | (exact sub_trans rfl hm) | intro _ | (with_reducible apply State.putApp_frame)
    | extract_lets | split | (dsimp -zeta only) | (dsimp +zetaDelta -zeta only)

theorem setCpu_frame {m : Nat} {s0 s : State} (hm : sub 0x1000001 m = true) (h : Frame m s0 s) (n state : Nat) :
    Frame m s0 (setCpu s n state) := by
  unfold setCpu
  repeat' first
    | (with_reducible assumption) | (exact sub_trans rfl hm) | intro _ | (with_reducible apply State.putCpus_frame)
    | (with_reducible apply State.set_frame) | extract_lets | split | (dsimp -zeta only) | (dsimp +zetaDelta -zeta only)

end Sys2Proof.Machine
end

