-- ==== Sys2Proof/Laws/FrameForwarding.lean ====
section
/-!
SUPPORT. Which components the operations of Machine/Forwarding.lean may change (`Frame`).
-/

namespace Sys2Proof.Machine

set_option linter.unusedVariables false
set_option linter.unusedTactic false
set_option linter.unreachableTactic false

theorem ehtAnswer_frame {m : Nat} {s0 s : State} (hm : sub 0x1 m = true) (h : Frame m s0 s) (q : Requester) (result index : Nat) :
    Frame m s0 (ehtAnswer s q result index) := by
  unfold ehtAnswer
  repeat' first
    | (with_reducible assumption) | (exact sub_trans rfl hm) | intro _ | (with_reducible apply State.set_frame) | extract_lets
    | split | (dsimp -zeta only) | (dsimp +zetaDelta -zeta only)

theorem ehtUpset_frame {m : Nat} {s0 s : State} (hm : sub 0x10000 m = true) (h : Frame m s0 s) (eui way flip : Nat) :
    Frame m s0 (ehtUpset s eui way flip) := by
  unfold ehtUpset
  repeat' first
    | (with_reducible assumption) | (exact sub_trans rfl hm) | intro _ | (with_reducible apply Frame.ite)
    | (with_reducible apply Frame.ite_fst) | (with_reducible apply State.setEht_frame) | extract_lets | split
    | (dsimp -zeta only) | (dsimp +zetaDelta -zeta only)

theorem execEhtLookup_frame {m : Nat} {s0 s : State} (hm : sub 0x82850027 m = true) (h : Frame m s0 s) (q : Requester) (way flip : Nat) :
    OutFrame m s0 (execEhtLookup q way flip s) := by
  unfold execEhtLookup
  repeat' first
    | (with_reducible assumption) | (exact sub_trans rfl hm) | intro _ | (with_reducible apply OutFrame.next)
    | (with_reducible apply OutFrame.ite) | (with_reducible apply Frame.ite) | (with_reducible apply Frame.ite_fst)
    | (with_reducible apply ehtUpset_frame) | (with_reducible apply ehtLookup_frame) | (with_reducible apply ehtAnswer_frame)
    | (with_reducible refine Frame.of_pair (by assumption) ?_) | extract_lets | split | (dsimp -zeta only)
    | (dsimp +zetaDelta -zeta only)

theorem execEhtInsert_frame {m : Nat} {s0 s : State} (hm : sub 0x82850027 m = true) (h : Frame m s0 s) (q : Requester) (index : Nat) :
    OutFrame m s0 (execEhtInsert q index s) := by
  unfold execEhtInsert
  repeat' first
    | (with_reducible assumption) | (exact sub_trans rfl hm) | intro _ | (with_reducible apply OutFrame.next)
    | (with_reducible apply OutFrame.ite) | (with_reducible apply Frame.ite) | (with_reducible apply Frame.ite_fst)
    | (with_reducible apply State.set_frame) | (with_reducible apply ehtInsert_frame) | (with_reducible apply ehtAnswer_frame)
    | (with_reducible refine Frame.of_pair (by assumption) ?_) | extract_lets | split | (dsimp -zeta only)
    | (dsimp +zetaDelta -zeta only)

theorem execEhtDelete_frame {m : Nat} {s0 s : State} (hm : sub 0x82850027 m = true) (h : Frame m s0 s) (q : Requester) :
    OutFrame m s0 (execEhtDelete q s) := by
  unfold execEhtDelete
  repeat' first
    | (with_reducible assumption) | (exact sub_trans rfl hm) | intro _ | (with_reducible apply OutFrame.next)
    | (with_reducible apply OutFrame.ite) | (with_reducible apply Frame.ite) | (with_reducible apply Frame.ite_fst)
    | (with_reducible apply State.set_frame) | (with_reducible apply ehtDelete_frame)
    | (with_reducible refine Frame.of_pair (by assumption) ?_) | extract_lets | split | (dsimp -zeta only)
    | (dsimp +zetaDelta -zeta only)

theorem execEhtRebuildDone_frame {m : Nat} {s0 s : State} (hm : sub 0x82850021 m = true) (h : Frame m s0 s) :
    OutFrame m s0 (execEhtRebuildDone s) := by
  unfold execEhtRebuildDone
  repeat' first
    | (with_reducible assumption) | (exact sub_trans rfl hm) | intro _ | (with_reducible apply OutFrame.next)
    | (with_reducible apply OutFrame.ite) | (with_reducible apply rebuildBucket_frame)
    | (with_reducible apply State.putFwd_frame) | (with_reducible apply State.setBit_frame) | (with_reducible apply Frame.fold)
    | extract_lets | split | (dsimp -zeta only) | (dsimp +zetaDelta -zeta only)

theorem execHeardByUpdate_frame {m : Nat} {s0 s : State} (hm : sub 0x82850027 m = true) (h : Frame m s0 s) (cluster node path ant : Nat) (rssi : Int) (flip : Nat) :
    OutFrame m s0 (execHeardByUpdate cluster node path ant rssi flip s) := by
  unfold execHeardByUpdate
  repeat' first
    | (with_reducible assumption) | (exact sub_trans rfl hm) | intro _ | (with_reducible apply OutFrame.next)
    | (with_reducible apply OutFrame.ite) | (with_reducible apply Frame.ite) | (with_reducible apply Frame.ite_fst)
    | (with_reducible apply State.setHbWord_frame) | (with_reducible apply hbUpdate_frame) | extract_lets | split
    | (dsimp -zeta only) | (dsimp +zetaDelta -zeta only)

theorem execHbTick_frame {m : Nat} {s0 s : State} (hm : sub 0x10001 m = true) (h : Frame m s0 s) :
    OutFrame m s0 (execHbTick s) := by
  unfold execHbTick
  repeat' first
    | (with_reducible assumption) | (exact sub_trans rfl hm) | intro _ | (with_reducible apply OutFrame.next)
    | (with_reducible apply OutFrame.ite) | (with_reducible apply Frame.ite) | (with_reducible apply Frame.ite_fst)
    | (with_reducible apply hbAdvance_frame) | extract_lets | split | (dsimp -zeta only) | (dsimp +zetaDelta -zeta only)

theorem execHbRead_frame {m : Nat} {s0 s : State} (hm : sub 0x1 m = true) (h : Frame m s0 s) (q : Requester) (cluster index : Nat) :
    OutFrame m s0 (execHbRead q cluster index s) := by
  unfold execHbRead
  repeat' first
    | (with_reducible assumption) | (exact sub_trans rfl hm) | intro _ | (with_reducible apply OutFrame.next)
    | (with_reducible apply OutFrame.ite) | (with_reducible apply Frame.ite) | (with_reducible apply Frame.ite_fst)
    | (with_reducible apply State.set_frame) | extract_lets | split | (dsimp -zeta only) | (dsimp +zetaDelta -zeta only)

theorem execHbInvalidate_frame {m : Nat} {s0 s : State} (hm : sub 0x10001 m = true) (h : Frame m s0 s) (q : Requester) (cluster index : Nat) :
    OutFrame m s0 (execHbInvalidate q cluster index s) := by
  unfold execHbInvalidate
  repeat' first
    | (with_reducible assumption) | (exact sub_trans rfl hm) | intro _ | (with_reducible apply OutFrame.next)
    | (with_reducible apply OutFrame.ite) | (with_reducible apply Frame.ite) | (with_reducible apply Frame.ite_fst)
    | (with_reducible apply State.set_frame) | (with_reducible apply State.setHb_frame) | extract_lets | split
    | (dsimp -zeta only) | (dsimp +zetaDelta -zeta only)

theorem ncsAnswer_frame {m : Nat} {s0 s : State} (hm : sub 0x1 m = true) (h : Frame m s0 s) (q : Requester) (result : Nat) :
    Frame m s0 (ncsAnswer s q result) := by
  unfold ncsAnswer
  repeat' first
    | (with_reducible assumption) | (exact sub_trans rfl hm) | intro _ | (with_reducible apply State.set_frame) | extract_lets
    | split | (dsimp -zeta only) | (dsimp +zetaDelta -zeta only)

theorem execNcsRead_frame {m : Nat} {s0 s : State} (hm : sub 0x1 m = true) (h : Frame m s0 s) (q : Requester) (index : Nat) :
    OutFrame m s0 (execNcsRead q index s) := by
  unfold execNcsRead
  repeat' first
    | (with_reducible assumption) | (exact sub_trans rfl hm) | intro _ | (with_reducible apply OutFrame.next)
    | (with_reducible apply OutFrame.ite) | (with_reducible apply Frame.ite) | (with_reducible apply Frame.ite_fst)
    | (with_reducible apply ncsAnswer_frame) | (with_reducible apply State.set_frame) | (with_reducible apply Frame.fold)
    | extract_lets | split | (dsimp -zeta only) | (dsimp +zetaDelta -zeta only)

theorem mapForget_frame {m : Nat} {s0 s : State} (hm : sub 0x2001 m = true) (h : Frame m s0 s) (n : Nat) (old new : Line) :
    Frame m s0 (mapForget s n old new) := by
  unfold mapForget
  repeat' first
    | (with_reducible assumption) | (exact sub_trans rfl hm) | intro _ | (with_reducible apply Frame.ite)
    | (with_reducible apply Frame.ite_fst) | (with_reducible apply freeMapEntry_frame) | extract_lets | split
    | (dsimp -zeta only) | (dsimp +zetaDelta -zeta only)

theorem execNcsMaskedWrite_frame {m : Nat} {s0 s : State} (hm : sub 0x186952021 m = true) (h : Frame m s0 s) (q : Requester) (index : Nat) :
    OutFrame m s0 (execNcsMaskedWrite q index s) := by
  unfold execNcsMaskedWrite
  repeat' first
    | (with_reducible assumption) | (exact sub_trans rfl hm) | intro _ | (with_reducible apply OutFrame.next)
    | (with_reducible apply OutFrame.ite) | (with_reducible apply Frame.ite) | (with_reducible apply Frame.ite_fst)
    | (with_reducible apply ncsAnswer_frame) | (with_reducible apply consumeLine_frame) | (with_reducible apply mapForget_frame)
    | (with_reducible apply writeLine_frame) | extract_lets | split | (dsimp -zeta only) | (dsimp +zetaDelta -zeta only)

theorem execNcsZeroLine_frame {m : Nat} {s0 s : State} (hm : sub 0x106112001 m = true) (h : Frame m s0 s) (q : Requester) (index : Nat) :
    OutFrame m s0 (execNcsZeroLine q index s) := by
  unfold execNcsZeroLine
  repeat' first
    | (with_reducible assumption) | (exact sub_trans rfl hm) | intro _ | (with_reducible apply OutFrame.next)
    | (with_reducible apply OutFrame.ite) | (with_reducible apply Frame.ite) | (with_reducible apply Frame.ite_fst)
    | (with_reducible apply ncsAnswer_frame) | (with_reducible apply freeMapEntry_frame)
    | (with_reducible apply writeLine_frame) | extract_lets | split | (dsimp -zeta only) | (dsimp +zetaDelta -zeta only)

theorem clearNodes_frame {m : Nat} {s0 s : State} (hm : sub 0x10613A001 m = true) (h : Frame m s0 s) (by_ : Nat) :
    Frame m s0 (clearNodes s by_) := by
  unfold clearNodes
  repeat' first
    | (with_reducible assumption) | (exact sub_trans rfl hm) | intro _ | (with_reducible apply flushAllDownlink_frame)
    | (with_reducible apply State.putFwd_frame) | (with_reducible apply State.putMi_frame)
    | (with_reducible apply State.putSec_frame) | (with_reducible apply viewImap_frame)
    | (with_reducible apply State.putImap_frame) | (with_reducible apply State.set_frame)
    | (with_reducible apply viewOverflow_frame) | extract_lets | split | (dsimp -zeta only) | (dsimp +zetaDelta -zeta only)

theorem execNcsBulkClear_frame {m : Nat} {s0 s : State} (hm : sub 0x10613A001 m = true) (h : Frame m s0 s) (q : Requester) :
    OutFrame m s0 (execNcsBulkClear q s) := by
  unfold execNcsBulkClear
  repeat' first
    | (with_reducible assumption) | (exact sub_trans rfl hm) | intro _ | (with_reducible apply OutFrame.next)
    | (with_reducible apply OutFrame.ite) | (with_reducible apply Frame.ite) | (with_reducible apply Frame.ite_fst)
    | (with_reducible apply ncsAnswer_frame) | (with_reducible apply mirror_frame) | (with_reducible apply clearNodes_frame)
    | (with_reducible apply State.set_frame) | extract_lets | split | (dsimp -zeta only) | (dsimp +zetaDelta -zeta only)

theorem execBulkClearDone_frame {m : Nat} {s0 s : State} (hm : sub 0x186950021 m = true) (h : Frame m s0 s) :
    OutFrame m s0 (execBulkClearDone s) := by
  unfold execBulkClearDone
  repeat' first
    | (with_reducible assumption) | (exact sub_trans rfl hm) | intro _ | (with_reducible apply OutFrame.next)
    | (with_reducible apply OutFrame.ite) | (with_reducible apply Frame.ite) | (with_reducible apply Frame.ite_fst)
    | (with_reducible apply State.putFwd_frame) | (with_reducible apply State.set_frame)
    | (with_reducible apply postEvent_frame) | (with_reducible apply reapplyPins_frame) | (with_reducible apply Frame.fold)
    | extract_lets | split | (dsimp -zeta only) | (dsimp +zetaDelta -zeta only)

theorem ageOut_frame {m : Nat} {s0 s : State} (hm : sub 0x106112001 m = true) (h : Frame m s0 s) (n : Nat) :
    Frame m s0 (ageOut s n) := by
  unfold ageOut
  repeat' first
    | (with_reducible assumption) | (exact sub_trans rfl hm) | intro _ | (with_reducible apply freeMapEntry_frame)
    | (with_reducible apply writeLine_frame) | (with_reducible apply State.bump_frame) | extract_lets | split
    | (dsimp -zeta only) | (dsimp +zetaDelta -zeta only)

theorem ehtForget_frame {m : Nat} {s0 s : State} (hm : sub 0x10001 m = true) (h : Frame m s0 s) (n : Nat) :
    Frame m s0 (ehtForget s n) := by
  unfold ehtForget
  repeat' first
    | (with_reducible assumption) | (exact sub_trans rfl hm) | intro _ | (with_reducible apply ehtDrop_frame)
    | (with_reducible apply Frame.fold) | extract_lets | split | (dsimp -zeta only) | (dsimp +zetaDelta -zeta only)

theorem ageLine_frame {m : Nat} {s0 s : State} (hm : sub 0x186952027 m = true) (h : Frame m s0 s) (n : Nat) :
    Frame m s0 (ageLine s n) := by
  unfold ageLine
  repeat' first
    | (with_reducible assumption) | (exact sub_trans rfl hm) | intro _ | (with_reducible apply Frame.ite)
    | (with_reducible apply Frame.ite_fst) | (with_reducible apply consumeLine_frame) | (with_reducible apply ehtDelete_frame)
    | (with_reducible apply ageOut_frame) | (with_reducible apply ehtForget_frame) | (with_reducible apply setLineField_frame)
    | extract_lets | split | (dsimp -zeta only) | (dsimp +zetaDelta -zeta only)

theorem execNodeMinuteSweep_frame {m : Nat} {s0 s : State} (hm : sub 0x18695A027 m = true) (h : Frame m s0 s) :
    OutFrame m s0 (execNodeMinuteSweep s) := by
  unfold execNodeMinuteSweep
  repeat' first
    | (with_reducible assumption) | (exact sub_trans rfl hm) | intro _ | (with_reducible apply OutFrame.next)
    | (with_reducible apply OutFrame.ite) | (with_reducible apply Frame.ite) | (with_reducible apply Frame.ite_fst)
    | (with_reducible apply State.bumpWrap_frame) | (with_reducible apply State.putDrift_frame)
    | (with_reducible apply ageLine_frame) | (with_reducible apply Frame.fold) | extract_lets | split | (dsimp -zeta only)
    | (dsimp +zetaDelta -zeta only)

theorem execInfraEntryWrite_frame {m : Nat} {s0 s : State} (hm : sub 0x106110001 m = true) (h : Frame m s0 s) (q : Requester) (entry v : Nat) :
    OutFrame m s0 (execInfraEntryWrite q entry v s) := by
  unfold execInfraEntryWrite
  repeat' first
    | (with_reducible assumption) | (exact sub_trans rfl hm) | intro _ | (with_reducible apply OutFrame.next)
    | (with_reducible apply OutFrame.ite) | (with_reducible apply Frame.ite) | (with_reducible apply Frame.ite_fst)
    | (with_reducible apply infraWrite_frame) | extract_lets | split | (dsimp -zeta only) | (dsimp +zetaDelta -zeta only)

theorem compareEntry_frame {m : Nat} {s0 : State} (hm : sub 0x186950021 m = true) {acc : State × Nat} (h : Frame m s0 acc.1) (i : Nat) : Frame m s0 (compareEntry acc i).1 := by
  unfold compareEntry
  repeat' first
    | (with_reducible assumption) | (exact sub_trans rfl hm) | intro _ | (with_reducible apply Frame.ite_fst) | (with_reducible apply postEvent_frame)
    | (with_reducible apply State.bump_frame) | (with_reducible apply State.set_frame) | (with_reducible apply infraApply_frame)
    | extract_lets | split | (dsimp -zeta only)

theorem execInfraComparePass_frame {m : Nat} {s0 s : State} (hm : sub 0x186950021 m = true) (h : Frame m s0 s) (entry flip : Nat) :
    OutFrame m s0 (execInfraComparePass entry flip s) := by
  unfold execInfraComparePass
  repeat' first
    | (with_reducible assumption) | (exact sub_trans rfl hm) | intro _ | (with_reducible apply OutFrame.next)
    | (with_reducible apply OutFrame.ite) | (with_reducible apply Frame.ite) | (with_reducible apply Frame.ite_fst)
    | (with_reducible apply State.setWord_frame) | (with_reducible apply compareEntry_frame)
    | (with_reducible apply State.setBit_frame) | (with_reducible apply Frame.foldl_fst)
    | (with_reducible apply compareEntry_frame) | extract_lets | split | (dsimp -zeta only) | (dsimp +zetaDelta -zeta only)

theorem bar2Line_frame {m : Nat} {s0 s : State} (hm : sub 0x180840021 m = true) (h : Frame m s0 s) (off len n : Nat) :
    Frame m s0 (bar2Line s off len n) := by
  unfold bar2Line
  repeat' first
    | (with_reducible assumption) | (exact sub_trans rfl hm) | intro _ | (with_reducible apply Frame.ite)
    | (with_reducible apply Frame.ite_fst) | (with_reducible apply consumePoison_frame)
    | (with_reducible apply State.bump_frame) | (with_reducible apply State.emit_frame) | extract_lets | split
    | (dsimp -zeta only) | (dsimp +zetaDelta -zeta only)

theorem execBar2Read_frame {m : Nat} {s0 s : State} (hm : sub 0x180840021 m = true) (h : Frame m s0 s) (off len : Nat) :
    OutFrame m s0 (execBar2Read off len s) := by
  unfold execBar2Read
  repeat' first
    | (with_reducible assumption) | (exact sub_trans rfl hm) | intro _ | (with_reducible apply OutFrame.next)
    | (with_reducible apply OutFrame.ite) | (with_reducible apply Frame.ite) | (with_reducible apply Frame.ite_fst)
    | (with_reducible apply State.emit_frame) | (with_reducible apply bar2Line_frame) | (with_reducible apply Frame.fold)
    | extract_lets | split | (dsimp -zeta only) | (dsimp +zetaDelta -zeta only)

theorem execSnapshotExport_frame {m : Nat} {s0 s : State} (hm : sub 0x104010001 m = true) (h : Frame m s0 s) :
    OutFrame m s0 (execSnapshotExport s) := by
  unfold execSnapshotExport
  repeat' first
    | (with_reducible assumption) | (exact sub_trans rfl hm) | intro _ | (with_reducible apply OutFrame.next)
    | (with_reducible apply OutFrame.ite) | (with_reducible apply Frame.ite) | (with_reducible apply Frame.ite_fst)
    | (with_reducible apply reserve_frame) | (with_reducible apply State.putFwd_frame) | (with_reducible apply State.set_frame)
    | extract_lets | split | (dsimp -zeta only) | (dsimp +zetaDelta -zeta only)

theorem exportEnd_frame {m : Nat} {s0 s : State} (hm : sub 0x80850021 m = true) (h : Frame m s0 s) (result : Nat) :
    Frame m s0 (exportEnd s result) := by
  unfold exportEnd
  repeat' first
    | (with_reducible assumption) | (exact sub_trans rfl hm) | intro _ | (with_reducible apply State.putFwd_frame)
    | (with_reducible apply State.set_frame) | (with_reducible apply postEvent_frame) | extract_lets | split
    | (dsimp -zeta only) | (dsimp +zetaDelta -zeta only)

theorem execSnapshotExportDone_frame {m : Nat} {s0 s : State} (hm : sub 0x182850021 m = true) (h : Frame m s0 s) (pcieError : Bool) (misread : List (Nat × Nat)) :
    OutFrame m s0 (execSnapshotExportDone pcieError misread s) := by
  unfold execSnapshotExportDone
  repeat' first
    | (with_reducible assumption) | (exact sub_trans rfl hm) | intro _ | (with_reducible apply OutFrame.next)
    | (with_reducible apply OutFrame.ite) | (with_reducible apply Frame.ite) | (with_reducible apply Frame.ite_fst)
    | (with_reducible apply exportEnd_frame) | (with_reducible apply tileFailed_frame) | (with_reducible apply State.set_frame)
    | (with_reducible apply State.emit_frame) | (with_reducible apply Frame.fold) | extract_lets | split | (dsimp -zeta only)
    | (dsimp +zetaDelta -zeta only)

theorem execSnapshotAbort_frame {m : Nat} {s0 s : State} (hm : sub 0x80850021 m = true) (h : Frame m s0 s) :
    OutFrame m s0 (execSnapshotAbort s) := by
  unfold execSnapshotAbort
  repeat' first
    | (with_reducible assumption) | (exact sub_trans rfl hm) | intro _ | (with_reducible apply OutFrame.next)
    | (with_reducible apply OutFrame.ite) | (with_reducible apply Frame.ite) | (with_reducible apply Frame.ite_fst)
    | (with_reducible apply exportEnd_frame) | extract_lets | split | (dsimp -zeta only) | (dsimp +zetaDelta -zeta only)

theorem execSnapshotRestore_frame {m : Nat} {s0 s : State} (hm : sub 0x106138001 m = true) (h : Frame m s0 s) (resume : Bool) (descriptor : List Byte) :
    OutFrame m s0 (execSnapshotRestore resume descriptor s) := by
  unfold execSnapshotRestore
  repeat' first
    | (with_reducible assumption) | (exact sub_trans rfl hm) | intro _ | (with_reducible apply OutFrame.next)
    | (with_reducible apply OutFrame.ite) | (with_reducible apply Frame.ite) | (with_reducible apply Frame.ite_fst)
    | (with_reducible apply State.set_frame) | (with_reducible apply flushAllDownlink_frame)
    | (with_reducible apply viewOverflow_frame) | (with_reducible apply State.putFwd_frame) | extract_lets | split
    | (dsimp -zeta only) | (dsimp +zetaDelta -zeta only)

theorem restoreMaps_frame {m : Nat} {s0 s : State} (hm : sub 0x2001 m = true) (h : Frame m s0 s) (old : Cells 512) :
    Frame m s0 (restoreMaps s old) := by
  unfold restoreMaps
  repeat' first
    | (with_reducible assumption) | (exact sub_trans rfl hm) | intro _ | (with_reducible apply mapForget_frame)
    | (with_reducible apply Frame.fold) | extract_lets | split | (dsimp -zeta only) | (dsimp +zetaDelta -zeta only)

theorem execRestoreReadDone_frame {m : Nat} {s0 s : State} (hm : sub 0x18697A021 m = true) (h : Frame m s0 s) (lines : List (Nat × List Byte)) (sums : List (Nat × Nat)) (pcieError : Bool) :
    OutFrame m s0 (execRestoreReadDone lines sums pcieError s) := by
  unfold execRestoreReadDone
  repeat' first
    | (with_reducible assumption) | (exact sub_trans rfl hm) | intro _ | (with_reducible apply OutFrame.next)
    | (with_reducible apply OutFrame.ite) | (with_reducible apply Frame.ite) | (with_reducible apply Frame.ite_fst)
    | (with_reducible apply State.putFwd_frame) | (with_reducible apply State.set_frame)
    | (with_reducible apply postEvent_frame) | (with_reducible apply reapplyPins_frame)
    | (with_reducible apply rebuildAll_frame) | (with_reducible apply State.putMi_frame)
    | (with_reducible apply restoreMaps_frame) | (with_reducible apply State.putSec_frame)
    | (with_reducible apply checkExhausted_frame) | (with_reducible apply Frame.fold) | (with_reducible apply Frame.foldl_fst)
    | extract_lets | split | (dsimp -zeta only) | (dsimp +zetaDelta -zeta only)

theorem restoreEnd_frame {m : Nat} {s0 s : State} (hm : sub 0x80854021 m = true) (h : Frame m s0 s) :
    Frame m s0 (restoreEnd s) := by
  unfold restoreEnd
  repeat' first
    | (with_reducible assumption) | (exact sub_trans rfl hm) | intro _ | (with_reducible apply Frame.ite)
    | (with_reducible apply Frame.ite_fst) | (with_reducible apply State.putPsm_frame)
    | (with_reducible apply State.putFwd_frame) | (with_reducible apply State.set_frame)
    | (with_reducible apply postEvent_frame) | extract_lets | split | (dsimp -zeta only) | (dsimp +zetaDelta -zeta only)

end Sys2Proof.Machine
end

