-- ==== Sys2Proof/Laws/FrameReports.lean ====
section
/-!
SUPPORT. Which components the operations of Machine/Reports.lean may change (`Frame`).
-/

namespace Sys2Proof.Machine

set_option linter.unusedVariables false
set_option linter.unusedTactic false
set_option linter.unreachableTactic false

theorem dropReport_frame {m : Nat} {s0 s : State} (hm : sub 0x40001 m = true) (h : Frame m s0 s) (c : Nat) :
    Frame m s0 (dropReport s c) := by
  unfold dropReport
  repeat' first
    | (with_reducible assumption) | (exact sub_trans rfl hm) | intro _ | (with_reducible apply popItem_frame) | extract_lets
    | split | (dsimp -zeta only) | (dsimp +zetaDelta -zeta only)

end Sys2Proof.Machine
end

