-- ==== Sys2Proof/Laws/FrameMiOps.lean ====
section
/-!
SUPPORT. Which components the operations of Machine/MiOps.lean may change (`Frame`).
-/

namespace Sys2Proof.Machine

set_option linter.unusedVariables false
set_option linter.unusedTactic false
set_option linter.unreachableTactic false

theorem faultEnds_frame {m0 : Nat} {s0 s : State} (hm : sub 0x80840021 m0 = true) (h : Frame m0 s0 s) (m : LineMem) (line outcome : Nat) :
    Frame m0 s0 (faultEnds s m line outcome) := by
  unfold faultEnds
  repeat' first
    | (with_reducible assumption) | (exact sub_trans rfl hm) | intro _ | (with_reducible apply State.set_frame)
    | (with_reducible apply postEvent_frame) | extract_lets | split | (dsimp -zeta only) | (dsimp +zetaDelta -zeta only)

theorem degrade_frame {m0 : Nat} {s0 s : State} (hm : sub 0x80840021 m0 = true) (h : Frame m0 s0 s) (m : LineMem) :
    Frame m0 s0 (degrade s m) := by
  unfold degrade
  repeat' first
    | (with_reducible assumption) | (exact sub_trans rfl hm) | intro _ | (with_reducible apply Frame.ite)
    | (with_reducible apply Frame.ite_fst) | (with_reducible apply postEvent_frame) | (with_reducible apply State.set_frame)
    | extract_lets | split | (dsimp -zeta only) | (dsimp +zetaDelta -zeta only)

theorem escalate_frame {m0 : Nat} {s0 s : State} (hm : sub 0x84840021 m0 = true) (h : Frame m0 s0 s) (m : LineMem) :
    Frame m0 s0 (escalate s m) := by
  unfold escalate
  repeat' first
    | (with_reducible assumption) | (exact sub_trans rfl hm) | intro _ | (with_reducible apply Frame.ite)
    | (with_reducible apply Frame.ite_fst) | (with_reducible apply startPlanned_frame) | (with_reducible apply postEvent_frame)
    | (with_reducible apply degrade_frame) | extract_lets | split | (dsimp -zeta only) | (dsimp +zetaDelta -zeta only)

theorem poisonFrames_frame {m : Nat} {s0 s : State} (hm : sub 0x420000 m = true) (h : Frame m s0 s) (air eth : Option Nat) :
    Frame m s0 (poisonFrames s air eth) := by
  unfold poisonFrames
  repeat' first
    | (with_reducible assumption) | (exact sub_trans rfl hm) | intro _ | (with_reducible apply State.setFrame_frame)
    | (with_reducible apply State.putEth_frame) | extract_lets | split | (dsimp -zeta only) | (dsimp +zetaDelta -zeta only)

theorem faultPoisoned_frame {m0 : Nat} {s0 s : State} (hm : sub 0x86840021 m0 = true) (h : Frame m0 s0 s) (m : LineMem) (line : Nat) :
    Frame m0 s0 (faultPoisoned s m line) := by
  unfold faultPoisoned
  repeat' first
    | (with_reducible assumption) | (exact sub_trans rfl hm) | intro _ | (with_reducible apply Frame.ite)
    | (with_reducible apply Frame.ite_fst) | (with_reducible apply State.bump_frame) | (with_reducible apply State.putMi_frame)
    | (with_reducible apply faultEnds_frame) | (with_reducible apply escalate_frame) | extract_lets | split | (dsimp -zeta only)
    | (dsimp +zetaDelta -zeta only)

theorem standbyRestart_frame {m : Nat} {s0 s : State} (hm : sub 0x186D75123 m = true) (h : Frame m s0 s) :
    Frame m s0 (standbyRestart s) := by
  unfold standbyRestart
  repeat' first
    | (with_reducible assumption) | (exact sub_trans rfl hm) | intro _ | (with_reducible apply warmRestart_frame)
    | (with_reducible apply setRole_frame) | (with_reducible apply dropSync_frame) | extract_lets | split | (dsimp -zeta only)
    | (dsimp +zetaDelta -zeta only)

theorem autoRepair_frame {m : Nat} {s0 s : State} (hm : sub 0x186D75123 m = true) (h : Frame m s0 s) :
    Frame m s0 (autoRepair s) := by
  unfold autoRepair
  repeat' first
    | (with_reducible assumption) | (exact sub_trans rfl hm) | intro _ | (with_reducible apply Frame.ite)
    | (with_reducible apply Frame.ite_fst) | (with_reducible apply standbyRestart_frame)
    | (with_reducible apply startPlanned_frame) | extract_lets | split | (dsimp -zeta only) | (dsimp +zetaDelta -zeta only)

theorem repairExhausted_frame {m : Nat} {s0 s : State} (hm : sub 0x86840021 m = true) (h : Frame m s0 s) (sram : Nat) :
    Frame m s0 (repairExhausted s sram) := by
  unfold repairExhausted
  repeat' first
    | (with_reducible assumption) | (exact sub_trans rfl hm) | intro _ | (with_reducible apply Frame.ite)
    | (with_reducible apply Frame.ite_fst) | (with_reducible apply noteExhausted_frame) | (with_reducible apply escalate_frame)
    | extract_lets | split | (dsimp -zeta only) | (dsimp +zetaDelta -zeta only)

theorem repairFault_frame {m : Nat} {s0 s : State} (hm : sub 0x186D75127 m = true) (h : Frame m s0 s) (sram row column : Nat) :
    Frame m s0 (repairFault s sram row column) := by
  unfold repairFault
  repeat' first
    | (with_reducible assumption) | (exact sub_trans rfl hm) | intro _ | (with_reducible apply autoRepair_frame)
    | (with_reducible apply appendRepair_frame) | (with_reducible apply repairExhausted_frame) | extract_lets | split
    | (dsimp -zeta only) | (dsimp +zetaDelta -zeta only)

theorem hardFault_frame {m0 : Nat} {s0 s : State} (hm : sub 0x186D75127 m0 = true) (h : Frame m0 s0 s) (m : LineMem) (line column : Nat) :
    Frame m0 s0 (hardFault s m line column) := by
  unfold hardFault
  repeat' first
    | (with_reducible assumption) | (exact sub_trans rfl hm) | intro _ | (with_reducible apply Frame.ite)
    | (with_reducible apply Frame.ite_fst) | (with_reducible apply State.bump_frame) | (with_reducible apply viewMi_frame)
    | (with_reducible apply State.putMi_frame) | (with_reducible apply repairFault_frame) | extract_lets | split
    | (dsimp -zeta only) | (dsimp +zetaDelta -zeta only)

theorem noteFault_frame {m0 : Nat} {s0 s : State} (hm : sub 0x186D75127 m0 = true) (h : Frame m0 s0 s) (m : LineMem) (line column : Nat) (readbackOk flipped : Bool) :
    Frame m0 s0 (noteFault s m line column readbackOk flipped) := by
  unfold noteFault
  repeat' first
    | (with_reducible assumption) | (exact sub_trans rfl hm) | intro _ | (with_reducible apply Frame.ite)
    | (with_reducible apply Frame.ite_fst) | (with_reducible apply State.putMi_frame) | (with_reducible apply hardFault_frame)
    | extract_lets | split | (dsimp -zeta only) | (dsimp +zetaDelta -zeta only)

theorem dropPeerFetches_frame {m : Nat} {s0 s : State} (hm : sub 0x86840021 m = true) (h : Frame m s0 s) :
    Frame m s0 (dropPeerFetches s) := by
  unfold dropPeerFetches
  repeat' first
    | (with_reducible assumption) | (exact sub_trans rfl hm) | intro _ | (with_reducible apply viewMi_frame)
    | (with_reducible apply State.putMi_frame) | (with_reducible apply faultPoisoned_frame) | (with_reducible apply Frame.fold)
    | extract_lets | split | (dsimp -zeta only) | (dsimp +zetaDelta -zeta only)

theorem linkLost_frame {m : Nat} {s0 s : State} (hm : sub 0x86840021 m = true) (h : Frame m s0 s) (cause : Nat) :
    Frame m s0 (linkLost s cause) := by
  unfold linkLost
  repeat' first
    | (with_reducible assumption) | (exact sub_trans rfl hm) | intro _ | (with_reducible apply Frame.ite)
    | (with_reducible apply Frame.ite_fst) | (with_reducible apply dropPeerFetches_frame)
    | (with_reducible apply linkDown_frame) | extract_lets | split | (dsimp -zeta only) | (dsimp +zetaDelta -zeta only)

end Sys2Proof.Machine
end

