-- ==== Sys2Proof/Laws/FrameSecOps.lean ====
section
/-!
SUPPORT. Which components the operations of Machine/SecOps.lean may change (`Frame`).
-/

namespace Sys2Proof.Machine

set_option linter.unusedVariables false
set_option linter.unusedTactic false
set_option linter.unreachableTactic false

theorem installEpoch_frame {m : Nat} {s0 s : State} (hm : sub 0x200000 m = true) (h : Frame m s0 s) (epoch act : Nat) :
    Frame m s0 (installEpoch s epoch act) := by
  unfold installEpoch
  repeat' first
    | (with_reducible assumption) | (exact sub_trans rfl hm) | intro _ | (with_reducible apply putSlot_frame)
    | (with_reducible apply State.putTree_frame) | extract_lets | split | (dsimp -zeta only) | (dsimp +zetaDelta -zeta only)

theorem raiseDistrict_frame {m : Nat} {s0 s : State} (hm : sub 0x4200000 m = true) (h : Frame m s0 s) (d : Nat) :
    Frame m s0 (raiseDistrict s d) := by
  unfold raiseDistrict
  repeat' first
    | (with_reducible assumption) | (exact sub_trans rfl hm) | intro _ | (with_reducible apply restartBcast_frame)
    | (with_reducible apply putSlot_frame) | (with_reducible apply Frame.fold) | extract_lets | split | (dsimp -zeta only)
    | (dsimp +zetaDelta -zeta only)

theorem revokeDistrict_frame {m : Nat} {s0 s : State} (hm : sub 0x200000 m = true) (h : Frame m s0 s) (d : Nat) :
    Frame m s0 (revokeDistrict s d) := by
  unfold revokeDistrict
  repeat' first
    | (with_reducible assumption) | (exact sub_trans rfl hm) | intro _ | (with_reducible apply putSlot_frame)
    | (with_reducible apply Frame.fold) | extract_lets | split | (dsimp -zeta only) | (dsimp +zetaDelta -zeta only)

theorem revokeEpoch_frame {m : Nat} {s0 s : State} (hm : sub 0x300000 m = true) (h : Frame m s0 s) (epoch : Nat) :
    Frame m s0 (revokeEpoch s epoch) := by
  unfold revokeEpoch
  repeat' first
    | (with_reducible assumption) | (exact sub_trans rfl hm) | intro _ | (with_reducible apply Frame.ite)
    | (with_reducible apply Frame.ite_fst) | (with_reducible apply putSlot_frame) | (with_reducible apply State.putSec_frame)
    | extract_lets | split | (dsimp -zeta only) | (dsimp +zetaDelta -zeta only)

theorem revokeEverything_frame {m : Nat} {s0 s : State} (hm : sub 0x200000 m = true) (h : Frame m s0 s) :
    Frame m s0 (revokeEverything s) := by
  unfold revokeEverything
  repeat' first
    | (with_reducible assumption) | (exact sub_trans rfl hm) | intro _ | (with_reducible apply putSlot_frame)
    | (with_reducible apply Frame.fold) | extract_lets | split | (dsimp -zeta only) | (dsimp +zetaDelta -zeta only)

theorem zeroize_frame {m : Nat} {s0 s : State} (hm : sub 0x300001 m = true) (h : Frame m s0 s) :
    Frame m s0 (zeroize s) := by
  unfold zeroize
  repeat' first
    | (with_reducible assumption) | (exact sub_trans rfl hm) | intro _ | (with_reducible apply State.putSec_frame)
    | (with_reducible apply revokeEverything_frame) | (with_reducible apply State.set_frame) | extract_lets | split
    | (dsimp -zeta only) | (dsimp +zetaDelta -zeta only)

theorem activateNodes_frame {m : Nat} {s0 s : State} (hm : sub 0x106110001 m = true) (h : Frame m s0 s) :
    Frame m s0 (activateNodes s) := by
  unfold activateNodes
  repeat' first
    | (with_reducible assumption) | (exact sub_trans rfl hm) | intro _ | (with_reducible apply Frame.ite)
    | (with_reducible apply Frame.ite_fst) | (with_reducible apply State.putSec_frame)
    | (with_reducible apply setLineField_frame) | (with_reducible apply Frame.fold) | extract_lets | split | (dsimp -zeta only)
    | (dsimp +zetaDelta -zeta only)

theorem activatePending_frame {m : Nat} {s0 s : State} (hm : sub 0x106310001 m = true) (h : Frame m s0 s) :
    Frame m s0 (activatePending s) := by
  unfold activatePending
  repeat' first
    | (with_reducible assumption) | (exact sub_trans rfl hm) | intro _ | (with_reducible apply putSlot_frame)
    | (with_reducible apply State.putTree_frame) | (with_reducible apply State.putPair_frame)
    | (with_reducible apply State.putSec_frame) | (with_reducible apply treeChanged_frame)
    | (with_reducible apply activateNodes_frame) | (with_reducible apply State.set_frame) | extract_lets | split
    | (dsimp -zeta only) | (dsimp +zetaDelta -zeta only)

theorem epochBoundary_frame {m : Nat} {s0 s : State} (hm : sub 0x106310001 m = true) (h : Frame m s0 s) :
    Frame m s0 (epochBoundary s) := by
  unfold epochBoundary
  repeat' first
    | (with_reducible assumption) | (exact sub_trans rfl hm) | intro _ | (with_reducible apply Frame.ite)
    | (with_reducible apply Frame.ite_fst) | (with_reducible apply State.putSec_frame)
    | (with_reducible apply activatePending_frame) | extract_lets | split | (dsimp -zeta only) | (dsimp +zetaDelta -zeta only)

theorem applyTree_frame {m : Nat} {s0 s : State} (hm : sub 0x106310001 m = true) (h : Frame m s0 s) (op : Nat) (args : List Nat) :
    Frame m s0 (applyTree s op args) := by
  unfold applyTree
  repeat' first
    | (with_reducible assumption) | (exact sub_trans rfl hm) | intro _ | (with_reducible apply installEpoch_frame)
    | (with_reducible apply raiseDistrict_frame) | (with_reducible apply revokeDistrict_frame)
    | (with_reducible apply revokeEpoch_frame) | (with_reducible apply revokeEverything_frame)
    | (with_reducible apply activatePending_frame) | extract_lets | split | (dsimp -zeta only) | (dsimp +zetaDelta -zeta only)

theorem mirrorTree_frame {m : Nat} {s0 s : State} (hm : sub 0x106310001 m = true) (h : Frame m s0 s) (op : Nat) (args : List Nat) :
    Frame m s0 (mirrorTree s op args) := by
  unfold mirrorTree
  repeat' first
    | (with_reducible assumption) | (exact sub_trans rfl hm) | intro _ | (with_reducible apply applyTree_frame)
    | (with_reducible apply viewTree_frame) | (with_reducible apply State.putTree_frame) | extract_lets | split
    | (dsimp -zeta only) | (dsimp +zetaDelta -zeta only)

theorem sendRekey_frame {m : Nat} {s0 s : State} (hm : sub 0x18697E021 m = true) (h : Frame m s0 s) (n : Nat) :
    Frame m s0 (sendRekey s n).1 := by
  unfold sendRekey
  repeat' first
    | (with_reducible assumption) | (exact sub_trans rfl hm) | intro _ | (with_reducible apply sendDirect_frame)
    | (with_reducible apply State.putSec_frame) | (with_reducible refine Frame.of_pair (by assumption) ?_) | extract_lets
    | split | (dsimp -zeta only) | (dsimp +zetaDelta -zeta only)

theorem sendRekeys_frame {m : Nat} {s0 : State} (hm : sub 0x18697E021 m = true) : ∀ (l : List Nat) {s : State}, Frame m s0 s → Frame m s0 (sendRekeys l s)
  | [], _, h => State.putSec_frame (sub_trans rfl hm) h _
  | n :: t, s, h => by
    unfold sendRekeys
    repeat' first
      | (with_reducible assumption) | (exact sub_trans rfl hm) | intro _ | (with_reducible apply sendRekeys_frame hm t)
      | (with_reducible apply sendRekey_frame) | (with_reducible apply State.putSec_frame) | extract_lets | split
      | (dsimp -zeta only) | (dsimp +zetaDelta -zeta only)

theorem pumpRekeys_frame {m : Nat} {s0 s : State} (hm : sub 0x18697E021 m = true) (h : Frame m s0 s) :
    Frame m s0 (pumpRekeys s) := by
  unfold pumpRekeys
  repeat' first
    | (with_reducible assumption) | (exact sub_trans rfl hm) | intro _ | (with_reducible apply Frame.ite)
    | (with_reducible apply Frame.ite_fst) | (with_reducible apply sendRekeys_frame) | extract_lets | split | (dsimp -zeta only)
    | (dsimp +zetaDelta -zeta only)

theorem errorState_frame {m : Nat} {s0 s : State} (hm : sub 0x186D75121 m = true) (h : Frame m s0 s) (k : Nat) :
    Frame m s0 (errorState s k) := by
  unfold errorState
  repeat' first
    | (with_reducible assumption) | (exact sub_trans rfl hm) | intro _ | (with_reducible apply Frame.ite)
    | (with_reducible apply Frame.ite_fst) | (with_reducible apply endClaim_frame) | (with_reducible apply postEvent_frame)
    | (with_reducible apply State.set_frame) | extract_lets | split | (dsimp -zeta only) | (dsimp +zetaDelta -zeta only)

theorem engineFails_frame {m : Nat} {s0 s : State} (hm : sub 0x186D75121 m = true) (h : Frame m s0 s) (b test : Nat) :
    Frame m s0 (engineFails s b test) := by
  unfold engineFails
  repeat' first
    | (with_reducible assumption) | (exact sub_trans rfl hm) | intro _ | (with_reducible apply Frame.ite)
    | (with_reducible apply Frame.ite_fst) | (with_reducible apply State.setBitAt_frame)
    | (with_reducible apply State.bump_frame) | (with_reducible apply postEvent_frame) | (with_reducible apply errorState_frame)
    | extract_lets | split | (dsimp -zeta only) | (dsimp +zetaDelta -zeta only)

theorem testEngines_frame {m : Nat} {s0 s : State} (hm : sub 0x186D75121 m = true) (h : Frame m s0 s) (l : List Nat) (fails : List (Nat × Nat)) :
    Frame m s0 (testEngines s l fails) := by
  unfold testEngines
  repeat' first
    | (with_reducible assumption) | (exact sub_trans rfl hm) | intro _ | (with_reducible apply Frame.ite)
    | (with_reducible apply Frame.ite_fst) | (with_reducible apply engineFails_frame)
    | (with_reducible apply State.bumpWrap_frame) | (with_reducible apply Frame.fold) | extract_lets | split
    | (dsimp -zeta only) | (dsimp +zetaDelta -zeta only)

theorem setResult_frame {m : Nat} {s0 s : State} (hm : sub 0x1 m = true) (h : Frame m s0 s) (q : Requester) (r : Nat) :
    Frame m s0 (setResult s q r) := by
  unfold setResult
  repeat' first
    | (with_reducible assumption) | (exact sub_trans rfl hm) | intro _ | (with_reducible apply State.set_frame) | extract_lets
    | split | (dsimp -zeta only) | (dsimp +zetaDelta -zeta only)

theorem startCommand_frame {m : Nat} {s0 s : State} (hm : sub 0x100001 m = true) (h : Frame m s0 s) (q : Requester) :
    Frame m s0 (startCommand s q) := by
  unfold startCommand
  repeat' first
    | (with_reducible assumption) | (exact sub_trans rfl hm) | intro _ | (with_reducible apply Frame.ite)
    | (with_reducible apply Frame.ite_fst) | (with_reducible apply State.set_frame) | (with_reducible apply State.putSec_frame)
    | extract_lets | split | (dsimp -zeta only) | (dsimp +zetaDelta -zeta only)

theorem signedCommand_frame {m : Nat} {s0 s : State} (hm : sub 0x104300001 m = true) (h : Frame m s0 s) (q : Requester) (op : Nat) (check : List Byte → Nat)
    (record : List Byte → List Nat) (run : List Byte → State → State) (hr : ∀ b t, Frame m s0 t → Frame m s0 (run b t)) :
    Frame m s0 (signedCommand s q op check record run) := by
  unfold signedCommand
  repeat' first
    | (with_reducible assumption) | (exact sub_trans rfl hm) | intro _ | (with_reducible apply Frame.ite) | (with_reducible apply setResult_frame)
    | (with_reducible apply treeChanged_frame) | (with_reducible apply State.bump_frame)
    | (with_reducible apply State.putSec_frame) | (with_reducible apply State.putTree_frame) | (with_reducible apply hr)
    | extract_lets | split | (dsimp -zeta only)

theorem postRevoked_frame {m : Nat} {s0 s : State} (hm : sub 0x80840021 m = true) (h : Frame m s0 s) (district kind gen epoch : Nat) :
    Frame m s0 (postRevoked s district kind gen epoch) := by
  unfold postRevoked
  repeat' first
    | (with_reducible assumption) | (exact sub_trans rfl hm) | intro _ | (with_reducible apply postEvent_frame) | extract_lets
    | split | (dsimp -zeta only) | (dsimp +zetaDelta -zeta only)

theorem setOwner_frame {m : Nat} {s0 s : State} (hm : sub 0x10 m = true) (h : Frame m s0 s) (i : Nat) (o : Option (BitVec 256) × Bool) :
    Frame m s0 (setOwner s i o) := by
  unfold setOwner
  repeat' first
    | (with_reducible assumption) | (exact sub_trans rfl hm) | intro _ | (with_reducible apply State.putOtp_frame)
    | extract_lets | split | (dsimp -zeta only) | (dsimp +zetaDelta -zeta only)

theorem queueResponse_frame {m : Nat} {s0 s : State} (hm : sub 0x106134001 m = true) (h : Frame m s0 s) (j : JoinSent) :
    Frame m s0 (queueResponse s j) := by
  unfold queueResponse
  repeat' first
    | (with_reducible assumption) | (exact sub_trans rfl hm) | intro _ | (with_reducible apply Frame.ite)
    | (with_reducible apply Frame.ite_fst) | (with_reducible apply setLineField_frame)
    | (with_reducible apply State.putSec_frame) | (with_reducible apply State.bump_frame)
    | (with_reducible apply storeFrame_frame) | (with_reducible refine Frame.of_pair (by assumption) ?_) | extract_lets | split
    | (dsimp -zeta only) | (dsimp +zetaDelta -zeta only)

theorem rejectJoin_frame {m : Nat} {s0 s : State} (hm : sub 0x80840021 m = true) (h : Frame m s0 s) (eui reason : Nat) :
    Frame m s0 (rejectJoin s eui reason) := by
  unfold rejectJoin
  repeat' first
    | (with_reducible assumption) | (exact sub_trans rfl hm) | intro _ | (with_reducible apply postEvent_frame)
    | (with_reducible apply State.bump_frame) | extract_lets | split | (dsimp -zeta only) | (dsimp +zetaDelta -zeta only)

theorem grantJoin_frame {m : Nat} {s0 s : State} (hm : sub 0x106138001 m = true) (h : Frame m s0 s) (n : Nat) :
    Frame m s0 (grantJoin s n) := by
  unfold grantJoin
  repeat' first
    | (with_reducible assumption) | (exact sub_trans rfl hm) | intro _ | (with_reducible apply Frame.ite)
    | (with_reducible apply Frame.ite_fst) | (with_reducible apply State.putDrift_frame)
    | (with_reducible apply setLineField_frame) | (with_reducible apply State.bump_frame)
    | (with_reducible apply noteChange_frame) | (with_reducible apply State.putSched_frame) | extract_lets | split
    | (dsimp -zeta only) | (dsimp +zetaDelta -zeta only)

theorem acceptJoin_frame {m : Nat} {s0 s : State} (hm : sub 0x18697E021 m = true) (h : Frame m s0 s) (n eui j district mode path ant : Nat) (nonce qe : List Byte) :
    Frame m s0 (acceptJoin s n eui j district mode path ant nonce qe) := by
  unfold acceptJoin
  repeat' first
    | (with_reducible assumption) | (exact sub_trans rfl hm) | intro _ | (with_reducible apply Frame.ite)
    | (with_reducible apply Frame.ite_fst) | (with_reducible apply forgetDrift_frame)
    | (with_reducible apply freeMapEntry_frame) | (with_reducible apply flushDownlink_frame)
    | (with_reducible apply writeLine_frame) | (with_reducible apply State.drew_frame)
    | (with_reducible apply State.putSec_frame) | (with_reducible apply State.putPair_frame)
    | (with_reducible apply State.putSched_frame) | (with_reducible apply grantJoin_frame)
    | (with_reducible apply reserve_frame) | (with_reducible apply queueResponse_frame) | (with_reducible apply postEvent_frame)
    | (with_reducible apply State.bump_frame) | (with_reducible apply pumpRekeys_frame) | extract_lets | split
    | (dsimp -zeta only) | (dsimp +zetaDelta -zeta only)

theorem decideJoin_frame {m : Nat} {s0 s : State} (hm : sub 0x18697E027 m = true) (h : Frame m s0 s) (eui mode path ant : Nat) (ie : List Byte) :
    Frame m s0 (decideJoin s eui mode path ant ie) := by
  unfold decideJoin
  repeat' first
    | (with_reducible assumption) | (exact sub_trans rfl hm) | intro _ | (with_reducible apply Frame.ite)
    | (with_reducible apply Frame.ite_fst) | (with_reducible apply ehtLookup_frame) | (with_reducible apply consumeLine_frame)
    | (with_reducible apply rejectJoin_frame) | (with_reducible apply acceptJoin_frame) | (with_reducible apply ehtInsert_frame)
    | (with_reducible refine Frame.of_pair (by assumption) ?_) | extract_lets | split | (dsimp -zeta only)
    | (dsimp +zetaDelta -zeta only)

theorem joinRequest_frame {m : Nat} {s0 s : State} (hm : sub 0x18697E027 m = true) (h : Frame m s0 s) (eui mode path ant : Nat) (ie : List Byte) :
    Frame m s0 (joinRequest s eui mode path ant ie) := by
  unfold joinRequest
  repeat' first
    | (with_reducible assumption) | (exact sub_trans rfl hm) | intro _ | (with_reducible apply Frame.ite)
    | (with_reducible apply Frame.ite_fst) | (with_reducible apply rejectJoin_frame)
    | (with_reducible apply queueResponse_frame) | (with_reducible apply decideJoin_frame) | extract_lets | split
    | (dsimp -zeta only) | (dsimp +zetaDelta -zeta only)

end Sys2Proof.Machine
end

