-- ==== Sys2Proof/Laws/FrameRxOps.lean ====
section
/-!
SUPPORT. Which components the operations of Machine/RxOps.lean may change (`Frame`).
-/

namespace Sys2Proof.Machine

set_option linter.unusedVariables false
set_option linter.unusedTactic false
set_option linter.unreachableTactic false

theorem filterFrame_frame {m : Nat} {s0 s : State} (hm : sub 0x82850027 m = true) (h : Frame m s0 s) (f : RxFrame) :
    Frame m s0 (filterFrame s f).1 := by
  unfold filterFrame
  repeat' first
    | (with_reducible assumption) | (exact sub_trans rfl hm) | intro _ | (with_reducible apply Frame.ite)
    | (with_reducible apply Frame.ite_fst) | (with_reducible apply State.bump_frame) | (with_reducible apply ehtLookup_frame)
    | (with_reducible refine Frame.of_pair (by assumption) ?_) | extract_lets | split | (dsimp -zeta only)
    | (dsimp +zetaDelta -zeta only)

theorem micFails_frame {m : Nat} {s0 s : State} (hm : sub 0x1 m = true) (h : Frame m s0 s) :
    Frame m s0 (micFails s) := by
  unfold micFails
  repeat' first
    | (with_reducible assumption) | (exact sub_trans rfl hm) | intro _ | (with_reducible apply State.bump_frame) | extract_lets
    | split | (dsimp -zeta only) | (dsimp +zetaDelta -zeta only)

theorem orphanFrame_frame {m : Nat} {s0 s : State} (hm : sub 0x1 m = true) (h : Frame m s0 s) :
    Frame m s0 (orphanFrame s) := by
  unfold orphanFrame
  repeat' first
    | (with_reducible assumption) | (exact sub_trans rfl hm) | intro _ | (with_reducible apply micFails_frame)
    | (with_reducible apply State.bump_frame) | extract_lets | split | (dsimp -zeta only) | (dsimp +zetaDelta -zeta only)

theorem learnCopy_frame {m : Nat} {s0 s : State} (hm : sub 0x82850027 m = true) (h : Frame m s0 s) (n path ant : Nat) (rssi : Int) :
    Frame m s0 (learnCopy s n path ant rssi) := by
  unfold learnCopy
  repeat' first
    | (with_reducible assumption) | (exact sub_trans rfl hm) | intro _ | (with_reducible apply hbUpdate_frame) | extract_lets
    | split | (dsimp -zeta only) | (dsimp +zetaDelta -zeta only)

theorem learnFrame_frame {m : Nat} {s0 s : State} (hm : sub 0x82854027 m = true) (h : Frame m s0 s) (n : Nat) (f : RxFrame) :
    Frame m s0 (learnFrame s n f) := by
  unfold learnFrame
  repeat' first
    | (with_reducible assumption) | (exact sub_trans rfl hm) | intro _ | (with_reducible apply Frame.ite)
    | (with_reducible apply Frame.ite_fst) | (with_reducible apply learnCopy_frame) | (with_reducible apply setExchange_frame)
    | (with_reducible apply Frame.fold) | extract_lets | split | (dsimp -zeta only) | (dsimp +zetaDelta -zeta only)

theorem joinCrowd_frame {m : Nat} {s0 s : State} (hm : sub 0x400 m = true) (h : Frame m s0 s) (n : Nat) (f : RxFrame) :
    Frame m s0 (joinCrowd s n f) := by
  unfold joinCrowd
  repeat' first
    | (with_reducible assumption) | (exact sub_trans rfl hm) | intro _ | (with_reducible apply Frame.ite)
    | (with_reducible apply Frame.ite_fst) | (with_reducible apply State.putOsc_frame) | extract_lets | split
    | (dsimp -zeta only) | (dsimp +zetaDelta -zeta only)

theorem observeFrame_frame {m : Nat} {s0 s : State} (hm : sub 0x80848021 m = true) (h : Frame m s0 s) (n : Nat) (f : RxFrame) (accepted : Bool) :
    Frame m s0 (observeFrame s n f accepted) := by
  unfold observeFrame
  repeat' first
    | (with_reducible assumption) | (exact sub_trans rfl hm) | intro _ | (with_reducible apply Frame.ite)
    | (with_reducible apply Frame.ite_fst) | (with_reducible apply observe_frame) | extract_lets | split | (dsimp -zeta only)
    | (dsimp +zetaDelta -zeta only)

theorem frameHeard_frame {m : Nat} {s0 s : State} (hm : sub 0x18697E427 m = true) (h : Frame m s0 s) (n : Nat) (f : RxFrame) (accepted : Bool) :
    Frame m s0 (frameHeard s n f accepted) := by
  unfold frameHeard
  repeat' first
    | (with_reducible assumption) | (exact sub_trans rfl hm) | intro _ | (with_reducible apply Frame.ite)
    | (with_reducible apply Frame.ite_fst) | (with_reducible apply observeFrame_frame) | (with_reducible apply joinCrowd_frame)
    | (with_reducible apply learnFrame_frame) | (with_reducible apply writeLine_frame) | (with_reducible apply postEvent_frame)
    | (with_reducible apply agreementSettled_frame) | (with_reducible apply setExchange_frame) | extract_lets | split
    | (dsimp -zeta only) | (dsimp +zetaDelta -zeta only)

theorem deliver_frame {m : Nat} {s0 s : State} (hm : sub 0x186F7E027 m = true) (h : Frame m s0 s) (n : Nat) (f : RxFrame) (p : List Byte) (written : Bool) :
    Frame m s0 (deliver s n f p written) := by
  unfold deliver
  repeat' first
    | (with_reducible assumption) | (exact sub_trans rfl hm) | intro _ | (with_reducible apply Frame.ite)
    | (with_reducible apply Frame.ite_fst) | (with_reducible apply policeUplink_frame)
    | (with_reducible apply deliverHost_frame) | (with_reducible apply uplinkPayload_frame)
    | (with_reducible refine Frame.of_pair (by assumption) ?_) | extract_lets | split | (dsimp -zeta only)
    | (dsimp +zetaDelta -zeta only)

theorem answerFrame_frame {m : Nat} {s0 s : State} (hm : sub 0x18697E021 m = true) (h : Frame m s0 s) (n : Nat) (f : RxFrame) :
    Frame m s0 (answerFrame s n f) := by
  unfold answerFrame
  repeat' first
    | (with_reducible assumption) | (exact sub_trans rfl hm) | intro _ | (with_reducible apply Frame.ite)
    | (with_reducible apply Frame.ite_fst) | (with_reducible apply nodeAckHeard_frame) | (with_reducible apply planAck_frame)
    | extract_lets | split | (dsimp -zeta only) | (dsimp +zetaDelta -zeta only)

theorem verifiedFrame_frame {m : Nat} {s0 s : State} (hm : sub 0x186F7E427 m = true) (h : Frame m s0 s) (n : Nat) (f : RxFrame) (p : List Byte) (written : Bool) :
    Frame m s0 (verifiedFrame s n f p written) := by
  unfold verifiedFrame
  repeat' first
    | (with_reducible assumption) | (exact sub_trans rfl hm) | intro _ | (with_reducible apply Frame.ite)
    | (with_reducible apply Frame.ite_fst) | (with_reducible apply learnFrame_frame) | (with_reducible apply observeFrame_frame)
    | (with_reducible apply joinCrowd_frame) | (with_reducible apply deliver_frame) | (with_reducible apply mapHeard_frame)
    | (with_reducible apply answerFrame_frame) | (with_reducible apply frameHeard_frame)
    | (with_reducible apply State.bump_frame) | extract_lets | split | (dsimp -zeta only) | (dsimp +zetaDelta -zeta only)

theorem firstCopy_frame {m : Nat} {s0 s : State} (hm : sub 0x4000 m = true) (h : Frame m s0 s) (n : Nat) (f : RxFrame) :
    Frame m s0 (firstCopy s n f) := by
  unfold firstCopy
  repeat' first
    | (with_reducible assumption) | (exact sub_trans rfl hm) | intro _ | (with_reducible apply Frame.ite)
    | (with_reducible apply Frame.ite_fst) | (with_reducible apply setExchange_frame) | extract_lets | split
    | (dsimp -zeta only) | (dsimp +zetaDelta -zeta only)

theorem judgeFrame_frame {m : Nat} {s0 s : State} (hm : sub 0x186F7E427 m = true) (h : Frame m s0 s) (n : Nat) (t : CacheTag) (f : RxFrame) (written : Bool) :
    Frame m s0 (judgeFrame s n t f written) := by
  unfold judgeFrame
  repeat' first
    | (with_reducible assumption) | (exact sub_trans rfl hm) | intro _ | (with_reducible apply Frame.ite)
    | (with_reducible apply Frame.ite_fst) | (with_reducible apply orphanFrame_frame) | (with_reducible apply micFails_frame)
    | (with_reducible apply verifiedFrame_frame) | extract_lets | split | (dsimp -zeta only) | (dsimp +zetaDelta -zeta only)

theorem takeFrame_frame {m : Nat} {s0 s : State} (hm : sub 0x186F7E427 m = true) (h : Frame m s0 s) (n : Nat) (f : RxFrame) (written : Bool) :
    Frame m s0 (takeFrame s n f written) := by
  unfold takeFrame
  repeat' first
    | (with_reducible assumption) | (exact sub_trans rfl hm) | intro _ | (with_reducible apply Frame.ite)
    | (with_reducible apply Frame.ite_fst) | (with_reducible apply consumeLine_frame) | (with_reducible apply State.bump_frame)
    | (with_reducible apply learnCopy_frame) | (with_reducible apply setExchange_frame) | (with_reducible apply micFails_frame)
    | (with_reducible apply firstCopy_frame) | (with_reducible apply orphanFrame_frame)
    | (with_reducible apply judgeFrame_frame) | (with_reducible apply cacheTouch_frame)
    | (with_reducible apply State.putSec_frame) | extract_lets | split | (dsimp -zeta only) | (dsimp +zetaDelta -zeta only)

end Sys2Proof.Machine
end

