-- ==== Sys2Proof/Laws/FrameSlotOps.lean ====
section
/-!
SUPPORT. Which components the operations of Machine/SlotOps.lean may change (`Frame`).
-/

namespace Sys2Proof.Machine

set_option linter.unusedVariables false
set_option linter.unusedTactic false
set_option linter.unreachableTactic false

theorem considerNode_frame {m : Nat} {s0 : State} (hm : sub 0x186950027 m = true) {acc : State × List WakeNode} (h : Frame m s0 acc.1) (n : Nat) : Frame m s0 (considerNode acc n).1 := by
  unfold considerNode
  repeat' first
    | (with_reducible assumption) | (exact sub_trans rfl hm) | intro _ | (with_reducible apply Frame.ite_fst) | (with_reducible apply Frame.ite)
    | (with_reducible apply consumeLine_frame) | (with_reducible apply State.bump_frame)
    | (with_reducible apply State.set_frame) | (with_reducible apply choiceParity_frame) | extract_lets | split
    | (dsimp -zeta only)

theorem admitAll_frame {m : Nat} {s0 s : State} (hm : sub 0x1 m = true) (h : Frame m s0 s) (l : List WakeNode) :
    Frame m s0 (admitAll s l).1 := by
  unfold admitAll
  repeat' first
    | (with_reducible assumption) | (exact sub_trans rfl hm) | intro _ | (with_reducible apply Frame.ite)
    | (with_reducible apply Frame.ite_fst) | (with_reducible apply State.bump_frame) | (with_reducible apply Frame.foldl_fst)
    | extract_lets | split | (dsimp -zeta only) | (dsimp +zetaDelta -zeta only)

theorem moveWindow_frame {m : Nat} {s0 s : State} (hm : sub 0x101 m = true) (h : Frame m s0 s) (p : Nat) (l : List WakeNode) :
    Frame m s0 (moveWindow s p l) := by
  unfold moveWindow
  repeat' first
    | (with_reducible assumption) | (exact sub_trans rfl hm) | intro _ | (with_reducible apply Frame.ite)
    | (with_reducible apply Frame.ite_fst) | (with_reducible apply retune_frame) | (with_reducible apply Frame.foldl_fst)
    | extract_lets | split | (dsimp -zeta only) | (dsimp +zetaDelta -zeta only)

theorem assignEngines_frame {m : Nat} {s0 s : State} (hm : sub 0x4000 m = true) (h : Frame m s0 s) :
    Frame m s0 (assignEngines s) := by
  unfold assignEngines
  repeat' first
    | (with_reducible assumption) | (exact sub_trans rfl hm) | intro _ | (with_reducible apply State.putPsm_frame)
    | (with_reducible apply Frame.foldl_fst) | extract_lets | split | (dsimp -zeta only) | (dsimp +zetaDelta -zeta only)

theorem planExchanges_frame {m : Nat} {s0 s : State} (hm : sub 0x186974127 m = true) (h : Frame m s0 s) :
    Frame m s0 (planExchanges s) := by
  unfold planExchanges
  repeat' first
    | (with_reducible assumption) | (exact sub_trans rfl hm) | intro _ | (with_reducible apply Frame.ite)
    | (with_reducible apply Frame.ite_fst) | (with_reducible apply moveWindow_frame) | (with_reducible apply considerNode_frame)
    | (with_reducible apply admitAll_frame) | (with_reducible apply setExchange_frame)
    | (with_reducible apply State.putSched_frame) | (with_reducible apply State.set_frame) | (with_reducible apply Frame.fold)
    | (with_reducible apply Frame.foldl_fst) | extract_lets | split | (dsimp -zeta only) | (dsimp +zetaDelta -zeta only)

theorem pollItem_frame {m : Nat} {s0 s : State} (hm : sub 0x18697E021 m = true) (h : Frame m s0 s) (n : Nat) (e : Exchange) :
    Frame m s0 (pollItem s n e).1 := by
  unfold pollItem
  repeat' first
    | (with_reducible assumption) | (exact sub_trans rfl hm) | intro _ | (with_reducible apply Frame.ite)
    | (with_reducible apply Frame.ite_fst) | (with_reducible apply controlFrame_frame)
    | (with_reducible refine Frame.of_pair (by assumption) ?_) | extract_lets | split | (dsimp -zeta only)
    | (dsimp +zetaDelta -zeta only)

theorem sendPolls_frame {m : Nat} {s0 s : State} (hm : sub 0x18697E021 m = true) (h : Frame m s0 s) (p : Nat) :
    Frame m s0 (sendPolls s p) := by
  unfold sendPolls
  repeat' first
    | (with_reducible assumption) | (exact sub_trans rfl hm) | intro _ | (with_reducible apply Frame.ite)
    | (with_reducible apply Frame.ite_fst) | (with_reducible apply pollItem_frame) | (with_reducible apply planInterval_frame)
    | (with_reducible apply Frame.foldl_fst) | extract_lets | split | (dsimp -zeta only) | (dsimp +zetaDelta -zeta only)

theorem sendBeacon_frame {m : Nat} {s0 s : State} (hm : sub 0x24000 m = true) (h : Frame m s0 s) :
    Frame m s0 (sendBeacon s) := by
  unfold sendBeacon
  repeat' first
    | (with_reducible assumption) | (exact sub_trans rfl hm) | intro _ | (with_reducible apply Frame.ite)
    | (with_reducible apply Frame.ite_fst) | (with_reducible apply storeFrame_frame) | (with_reducible apply planInterval_frame)
    | (with_reducible refine Frame.of_pair (by assumption) ?_) | extract_lets | split | (dsimp -zeta only)
    | (dsimp +zetaDelta -zeta only)

theorem groupHead_frame {m : Nat} {s0 s : State} (hm : sub 0x20000 m = true) (h : Frame m s0 s) (g : Nat) :
    Frame m s0 (groupHead s g).1 := by
  unfold groupHead
  repeat' first
    | (with_reducible assumption) | (exact sub_trans rfl hm) | intro _ | (with_reducible apply nextClass_frame)
    | (with_reducible refine Frame.of_pair (by assumption) ?_) | extract_lets | split | (dsimp -zeta only)
    | (dsimp +zetaDelta -zeta only)

theorem sendGroupSlot_frame {m : Nat} {s0 s : State} (hm : sub 0x34001 m = true) (h : Frame m s0 s) (g : Nat) :
    Frame m s0 (sendGroupSlot s g) := by
  unfold sendGroupSlot
  repeat' first
    | (with_reducible assumption) | (exact sub_trans rfl hm) | intro _ | (with_reducible apply Frame.ite)
    | (with_reducible apply Frame.ite_fst) | (with_reducible apply groupHead_frame) | (with_reducible apply putGroup_frame)
    | (with_reducible apply planInterval_frame) | (with_reducible apply Frame.fold)
    | (with_reducible refine Frame.of_pair (by assumption) ?_) | extract_lets | split | (dsimp -zeta only)
    | (dsimp +zetaDelta -zeta only)

theorem sendJoins_frame {m : Nat} {s0 s : State} (hm : sub 0x106134001 m = true) (h : Frame m s0 s) :
    Frame m s0 (sendJoins s) := by
  unfold sendJoins
  repeat' first
    | (with_reducible assumption) | (exact sub_trans rfl hm) | intro _ | (with_reducible apply Frame.ite)
    | (with_reducible apply Frame.ite_fst) | (with_reducible apply queueResponse_frame)
    | (with_reducible apply State.setFrame_frame) | (with_reducible apply planInterval_frame)
    | (with_reducible apply Frame.fold) | extract_lets | split | (dsimp -zeta only) | (dsimp +zetaDelta -zeta only)

theorem issueSlot_frame {m : Nat} {s0 s : State} (hm : sub 0x18697E021 m = true) (h : Frame m s0 s) :
    Frame m s0 (issueSlot s) := by
  unfold issueSlot
  repeat' first
    | (with_reducible assumption) | (exact sub_trans rfl hm) | intro _ | (with_reducible apply Frame.ite)
    | (with_reducible apply Frame.ite_fst) | (with_reducible apply sendJoins_frame) | (with_reducible apply sendGroupSlot_frame)
    | (with_reducible apply sendBeacon_frame) | (with_reducible apply sendPolls_frame) | (with_reducible apply Frame.fold)
    | extract_lets | split | (dsimp -zeta only) | (dsimp +zetaDelta -zeta only)

theorem groupsEnd_frame {m : Nat} {s0 s : State} (hm : sub 0x106130001 m = true) (h : Frame m s0 s) :
    Frame m s0 (groupsEnd s) := by
  unfold groupsEnd
  repeat' first
    | (with_reducible assumption) | (exact sub_trans rfl hm) | intro _ | (with_reducible apply Frame.ite)
    | (with_reducible apply Frame.ite_fst) | (with_reducible apply removeFrame_frame)
    | (with_reducible apply State.bumpWrap_frame) | (with_reducible apply putGroup_frame) | (with_reducible apply Frame.fold)
    | extract_lets | split | (dsimp -zeta only) | (dsimp +zetaDelta -zeta only)

theorem endSlot_frame {m : Nat} {s0 s : State} (hm : sub 0x18697E021 m = true) (h : Frame m s0 s) :
    Frame m s0 (endSlot s) := by
  unfold endSlot
  repeat' first
    | (with_reducible assumption) | (exact sub_trans rfl hm) | intro _ | (with_reducible apply nodeAckMissed_frame)
    | (with_reducible apply replyWindowEnds_frame) | (with_reducible apply abandonFrame_frame)
    | (with_reducible apply State.putPsm_frame) | (with_reducible apply groupsEnd_frame) | (with_reducible apply Frame.fold)
    | extract_lets | split | (dsimp -zeta only) | (dsimp +zetaDelta -zeta only)

theorem countBoundary_frame {m : Nat} {s0 s : State} (hm : sub 0xC48C4021 m = true) (h : Frame m s0 s) :
    Frame m s0 (countBoundary s) := by
  unfold countBoundary
  repeat' first
    | (with_reducible assumption) | (exact sub_trans rfl hm) | intro _ | (with_reducible apply State.advanceTo_frame)
    | (with_reducible apply State.putPsm_frame) | (with_reducible apply State.putTb_frame)
    | (with_reducible apply State.putPair_frame) | (with_reducible apply applyPendingStep_frame)
    | (with_reducible apply State.set_frame) | extract_lets | split | (dsimp -zeta only) | (dsimp +zetaDelta -zeta only)

theorem takeoverServes_frame {m : Nat} {s0 s : State} (hm : sub 0x84840021 m = true) (h : Frame m s0 s) :
    Frame m s0 (takeoverServes s) := by
  unfold takeoverServes
  repeat' first
    | (with_reducible assumption) | (exact sub_trans rfl hm) | intro _ | (with_reducible apply Frame.ite)
    | (with_reducible apply Frame.ite_fst) | (with_reducible apply State.putPair_frame)
    | (with_reducible apply switchDone_frame) | extract_lets | split | (dsimp -zeta only) | (dsimp +zetaDelta -zeta only)

theorem countIdle_frame {m : Nat} {s0 s : State} (hm : sub 0x100 m = true) (h : Frame m s0 s) :
    Frame m s0 (countIdle s) := by
  unfold countIdle
  repeat' first
    | (with_reducible assumption) | (exact sub_trans rfl hm) | intro _ | (with_reducible apply Frame.ite)
    | (with_reducible apply Frame.ite_fst) | (with_reducible apply State.setPath_frame) | (with_reducible apply Frame.fold)
    | extract_lets | split | (dsimp -zeta only) | (dsimp +zetaDelta -zeta only)

theorem slotOnPaths_frame {m : Nat} {s0 s : State} (hm : sub 0x101 m = true) (h : Frame m s0 s) :
    Frame m s0 (slotOnPaths s) := by
  unfold slotOnPaths
  repeat' first
    | (with_reducible assumption) | (exact sub_trans rfl hm) | intro _ | (with_reducible apply viewTone_frame)
    | (with_reducible apply sliceBegins_frame) | (with_reducible apply Frame.fold) | extract_lets | split | (dsimp -zeta only)
    | (dsimp +zetaDelta -zeta only)

theorem boundaryDue_frame {m : Nat} {s0 s : State} (hm : sub 0x186B7E021 m = true) (h : Frame m s0 s) :
    Frame m s0 (boundaryDue s) := by
  unfold boundaryDue
  repeat' first
    | (with_reducible assumption) | (exact sub_trans rfl hm) | intro _ | (with_reducible apply Frame.ite)
    | (with_reducible apply Frame.ite_fst) | (with_reducible apply epochBoundary_frame)
    | (with_reducible apply restoreEnd_frame) | (with_reducible apply takeoverServes_frame)
    | (with_reducible apply State.putSec_frame) | (with_reducible apply drainCheck_frame)
    | (with_reducible apply pumpRekeys_frame) | extract_lets | split | (dsimp -zeta only) | (dsimp +zetaDelta -zeta only)

end Sys2Proof.Machine
end

