-- ==== Sys2Proof/Laws/FrameUpdOps.lean ====
section
/-!
SUPPORT. Which components the operations of Machine/UpdOps.lean may change (`Frame`).
-/

namespace Sys2Proof.Machine

set_option linter.unusedVariables false
set_option linter.unusedTactic false
set_option linter.unreachableTactic false

theorem setUpd_frame {m : Nat} {s0 s : State} (hm : sub 0x1 m = true) (h : Frame m s0 s) (state : Nat) :
    Frame m s0 (setUpd s state) := by
  unfold setUpd
  repeat' first
    | (with_reducible assumption) | (exact sub_trans rfl hm) | intro _ | (with_reducible apply State.set_frame) | extract_lets
    | split | (dsimp -zeta only) | (dsimp +zetaDelta -zeta only)

theorem updResult_frame {m : Nat} {s0 s : State} (hm : sub 0x1 m = true) (h : Frame m s0 s) (r : Nat) :
    Frame m s0 (updResult s r) := by
  unfold updResult
  repeat' first
    | (with_reducible assumption) | (exact sub_trans rfl hm) | intro _ | (with_reducible apply State.set_frame) | extract_lets
    | split | (dsimp -zeta only) | (dsimp +zetaDelta -zeta only)

theorem badUpdate_frame {m : Nat} {s0 s : State} (hm : sub 0x1 m = true) (h : Frame m s0 s) :
    Frame m s0 (badUpdate s) := by
  unfold badUpdate
  repeat' first
    | (with_reducible assumption) | (exact sub_trans rfl hm) | intro _ | (with_reducible apply updResult_frame)
    | (with_reducible apply State.bump_frame) | extract_lets | split | (dsimp -zeta only) | (dsimp +zetaDelta -zeta only)

theorem slotChange_frame {m : Nat} {s0 s : State} (hm : sub 0x180840027 m = true) (h : Frame m s0 s) (comp target state : Nat) (active : Bool) (other : Option (Nat × Bool)) (floor : Nat) :
    Frame m s0 (slotChange s comp target state active other floor).1 := by
  unfold slotChange
  repeat' first
    | (with_reducible assumption) | (exact sub_trans rfl hm) | intro _ | (with_reducible apply commitDirectory_frame)
    | (with_reducible refine Frame.of_pair (by assumption) ?_) | extract_lets | split | (dsimp -zeta only)
    | (dsimp +zetaDelta -zeta only)

theorem rejectImage_frame {m : Nat} {s0 s : State} (hm : sub 0x80840021 m = true) (h : Frame m s0 s) (comp reason : Nat) :
    Frame m s0 (rejectImage s comp reason) := by
  unfold rejectImage
  repeat' first
    | (with_reducible assumption) | (exact sub_trans rfl hm) | intro _ | (with_reducible apply postEvent_frame)
    | (with_reducible apply updResult_frame) | (with_reducible apply State.set_frame) | extract_lets | split
    | (dsimp -zeta only) | (dsimp +zetaDelta -zeta only)

theorem stageImage_frame {m : Nat} {s0 s : State} (hm : sub 0x188840027 m = true) (h : Frame m s0 s) (comp : Nat) :
    Frame m s0 (stageImage s comp) := by
  unfold stageImage
  repeat' first
    | (with_reducible assumption) | (exact sub_trans rfl hm) | intro _ | (with_reducible apply Frame.ite)
    | (with_reducible apply Frame.ite_fst) | (with_reducible apply rejectImage_frame) | (with_reducible apply slotChange_frame)
    | (with_reducible apply updResult_frame) | (with_reducible apply refuseFlash_frame)
    | (with_reducible apply countSlotWrite_frame) | (with_reducible apply programSlot_frame)
    | (with_reducible apply State.putUpd_frame) | (with_reducible apply setUpd_frame) | (with_reducible apply State.set_frame)
    | (with_reducible refine Frame.of_pair (by assumption) ?_) | extract_lets | split | (dsimp -zeta only)
    | (dsimp +zetaDelta -zeta only)

theorem stageEnds_frame {m : Nat} {s0 s : State} (hm : sub 0x180840027 m = true) (h : Frame m s0 s) (readOk : Bool) :
    Frame m s0 (stageEnds s readOk) := by
  unfold stageEnds
  repeat' first
    | (with_reducible assumption) | (exact sub_trans rfl hm) | intro _ | (with_reducible apply Frame.ite)
    | (with_reducible apply Frame.ite_fst) | (with_reducible apply setUpd_frame) | (with_reducible apply rejectImage_frame)
    | (with_reducible apply commitDirectory_frame) | (with_reducible apply updResult_frame)
    | (with_reducible apply postEvent_frame) | (with_reducible refine Frame.of_pair (by assumption) ?_) | extract_lets | split
    | (dsimp -zeta only) | (dsimp +zetaDelta -zeta only)

theorem liveApply_frame {m : Nat} {s0 s : State} (hm : sub 0x18EDFE923 m = true) (h : Frame m s0 s) (slot first : Nat) (img : List Byte) :
    Frame m s0 (liveApply s slot first img) := by
  unfold liveApply
  repeat' first
    | (with_reducible assumption) | (exact sub_trans rfl hm) | intro _ | (with_reducible apply Frame.ite)
    | (with_reducible apply Frame.ite_fst) | (with_reducible apply configTaken_frame) | (with_reducible apply putValues_frame)
    | (with_reducible apply State.putBoot_frame) | (with_reducible apply imageInForce_frame)
    | (with_reducible apply State.putUpd_frame) | (with_reducible apply switchEpoch_frame)
    | (with_reducible apply Frame.foldl_fst) | extract_lets | split | (dsimp -zeta only) | (dsimp +zetaDelta -zeta only)

theorem startHandover_frame {m : Nat} {s0 s : State} (hm : sub 0x8880001 m = true) (h : Frame m s0 s) (state : Nat) :
    Frame m s0 (startHandover s state) := by
  unfold startHandover
  repeat' first
    | (with_reducible assumption) | (exact sub_trans rfl hm) | intro _ | (with_reducible apply Frame.ite)
    | (with_reducible apply Frame.ite_fst) | (with_reducible apply State.putUpd_frame) | (with_reducible apply resetApp_frame)
    | (with_reducible apply setUpd_frame) | extract_lets | split | (dsimp -zeta only) | (dsimp +zetaDelta -zeta only)

theorem fallBack_frame {m : Nat} {s0 s : State} (hm : sub 0x188840027 m = true) (h : Frame m s0 s) (reason : Nat) :
    Frame m s0 (fallBack s reason) := by
  unfold fallBack
  repeat' first
    | (with_reducible assumption) | (exact sub_trans rfl hm) | intro _ | (with_reducible apply slotChange_frame)
    | (with_reducible apply imageInForce_frame) | (with_reducible apply State.putUpd_frame)
    | (with_reducible apply setUpd_frame) | (with_reducible apply State.set_frame) | (with_reducible apply State.bump_frame)
    | (with_reducible apply postEvent_frame) | (with_reducible refine Frame.of_pair (by assumption) ?_) | extract_lets | split
    | (dsimp -zeta only) | (dsimp +zetaDelta -zeta only)

theorem beginFallback_frame {m : Nat} {s0 s : State} (hm : sub 0xC880001 m = true) (h : Frame m s0 s) (reason : Nat) :
    Frame m s0 (beginFallback s reason) := by
  unfold beginFallback
  repeat' first
    | (with_reducible assumption) | (exact sub_trans rfl hm) | intro _ | (with_reducible apply Frame.ite)
    | (with_reducible apply Frame.ite_fst) | (with_reducible apply State.putUpd_frame) | (with_reducible apply State.set_frame)
    | (with_reducible apply startPlanned_frame) | (with_reducible apply setUpd_frame)
    | (with_reducible apply startHandover_frame) | extract_lets | split | (dsimp -zeta only) | (dsimp +zetaDelta -zeta only)

theorem healthFails_frame {m : Nat} {s0 s : State} (hm : sub 0xC880001 m = true) (h : Frame m s0 s) (comps : List Nat) :
    Frame m s0 (healthFails s comps) := by
  unfold healthFails
  repeat' first
    | (with_reducible assumption) | (exact sub_trans rfl hm) | intro _ | (with_reducible apply Frame.ite)
    | (with_reducible apply Frame.ite_fst) | (with_reducible apply State.putUpd_frame)
    | (with_reducible apply beginFallback_frame) | extract_lets | split | (dsimp -zeta only) | (dsimp +zetaDelta -zeta only)

theorem secHealth_frame {m : Nat} {s0 s : State} (hm : sub 0xC880001 m = true) (h : Frame m s0 s) (before : State) : Frame m s0 (secHealth before s) := by
  unfold secHealth
  repeat' first
    | (with_reducible assumption) | (exact sub_trans rfl hm) | intro _ | (with_reducible apply Frame.ite) | (with_reducible apply healthFails_frame)
    | extract_lets | split | (dsimp -zeta only)

theorem handoverDone_frame {m : Nat} {s0 s : State} (hm : sub 0x8C8C0021 m = true) (h : Frame m s0 s) (units : Nat) :
    Frame m s0 (handoverDone s units) := by
  unfold handoverDone
  repeat' first
    | (with_reducible assumption) | (exact sub_trans rfl hm) | intro _ | (with_reducible apply Frame.ite)
    | (with_reducible apply Frame.ite_fst) | (with_reducible apply postEvent_frame) | (with_reducible apply setUpd_frame)
    | (with_reducible apply State.putUpd_frame) | (with_reducible apply State.set_frame)
    | (with_reducible apply beginFallback_frame) | extract_lets | split | (dsimp -zeta only) | (dsimp +zetaDelta -zeta only)

theorem takeOver_frame {m : Nat} {s0 s : State} (hm : sub 0x800003 m = true) (h : Frame m s0 s) :
    Frame m s0 (takeOver s) := by
  unfold takeOver
  repeat' first
    | (with_reducible assumption) | (exact sub_trans rfl hm) | intro _ | (with_reducible apply Frame.ite)
    | (with_reducible apply Frame.ite_fst) | (with_reducible apply imageInForce_frame) | (with_reducible apply releaseApp_frame)
    | (with_reducible apply loadApp_frame) | extract_lets | split | (dsimp -zeta only) | (dsimp +zetaDelta -zeta only)

theorem endHandover_frame {m : Nat} {s0 s : State} (hm : sub 0x18EDF5127 m = true) (h : Frame m s0 s) (fails : List (Nat × Nat)) :
    Frame m s0 (endHandover s fails) := by
  unfold endHandover
  repeat' first
    | (with_reducible assumption) | (exact sub_trans rfl hm) | intro _ | (with_reducible apply Frame.ite)
    | (with_reducible apply Frame.ite_fst) | (with_reducible apply fallBack_frame) | (with_reducible apply testEngines_frame)
    | (with_reducible apply takeOver_frame) | (with_reducible apply handoverDone_frame) | extract_lets | split
    | (dsimp -zeta only) | (dsimp +zetaDelta -zeta only)

theorem swapMicrocode_frame {m : Nat} {s0 s : State} (hm : sub 0x8000800 m = true) (h : Frame m s0 s) :
    Frame m s0 (swapMicrocode s) := by
  unfold swapMicrocode
  repeat' first
    | (with_reducible assumption) | (exact sub_trans rfl hm) | intro _ | (with_reducible apply Frame.ite)
    | (with_reducible apply Frame.ite_fst) | (with_reducible apply State.setCe_frame)
    | (with_reducible apply State.putUpd_frame) | (with_reducible apply Frame.fold) | extract_lets | split | (dsimp -zeta only)
    | (dsimp +zetaDelta -zeta only)

theorem activateChange_frame {m : Nat} {s0 s : State} (hm : sub 0x180840027 m = true) (h : Frame m s0 s) :
    Frame m s0 (activateChange s).1 := by
  unfold activateChange
  repeat' first
    | (with_reducible assumption) | (exact sub_trans rfl hm) | intro _ | (with_reducible apply slotChange_frame) | extract_lets
    | split | (dsimp -zeta only) | (dsimp +zetaDelta -zeta only)

theorem activate_frame {m : Nat} {s0 s : State} (hm : sub 0x18C8C0027 m = true) (h : Frame m s0 s) (swap : Bool) :
    Frame m s0 (activate s swap) := by
  unfold activate
  repeat' first
    | (with_reducible assumption) | (exact sub_trans rfl hm) | intro _ | (with_reducible apply Frame.ite)
    | (with_reducible apply Frame.ite_fst) | (with_reducible apply updResult_frame)
    | (with_reducible apply activateChange_frame) | (with_reducible apply postEvent_frame)
    | (with_reducible apply State.putUpd_frame) | (with_reducible apply setUpd_frame)
    | (with_reducible apply startPlanned_frame) | (with_reducible apply startHandover_frame)
    | (with_reducible refine Frame.of_pair (by assumption) ?_) | extract_lets | split | (dsimp -zeta only)
    | (dsimp +zetaDelta -zeta only)

theorem confirmImage_frame {m : Nat} {s0 s : State} (hm : sub 0x180840037 m = true) (h : Frame m s0 s) (comp slot spent : Nat) :
    Frame m s0 (confirmImage s comp slot spent) := by
  unfold confirmImage
  repeat' first
    | (with_reducible assumption) | (exact sub_trans rfl hm) | intro _ | (with_reducible apply Frame.ite)
    | (with_reducible apply Frame.ite_fst) | (with_reducible apply slotChange_frame) | (with_reducible apply State.putOtp_frame)
    | (with_reducible apply State.bump_frame) | (with_reducible apply postEvent_frame)
    | (with_reducible refine Frame.of_pair (by assumption) ?_) | extract_lets | split | (dsimp -zeta only)
    | (dsimp +zetaDelta -zeta only)

theorem confirmProbation_frame {m : Nat} {s0 s : State} (hm : sub 0x188840037 m = true) (h : Frame m s0 s) (p : Probation) :
    Frame m s0 (confirmProbation s p) := by
  unfold confirmProbation
  repeat' first
    | (with_reducible assumption) | (exact sub_trans rfl hm) | intro _ | (with_reducible apply Frame.ite)
    | (with_reducible apply Frame.ite_fst) | (with_reducible apply confirmImage_frame) | (with_reducible apply setUpd_frame)
    | (with_reducible apply State.putUpd_frame) | (with_reducible apply State.set_frame) | extract_lets | split
    | (dsimp -zeta only) | (dsimp +zetaDelta -zeta only)

end Sys2Proof.Machine
end

