-- ==== Sys2Proof/Laws/FrameStartOps.lean ====
section
/-!
SUPPORT. Which components the operations of Machine/StartOps.lean may change (`Frame`).
-/

namespace Sys2Proof.Machine

set_option linter.unusedVariables false
set_option linter.unusedTactic false
set_option linter.unreachableTactic false

theorem probationFallback_frame {m : Nat} {s0 s : State} (hm : sub 0x188840027 m = true) (h : Frame m s0 s) :
    Frame m s0 (probationFallback s) := by
  unfold probationFallback
  repeat' first
    | (with_reducible assumption) | (exact sub_trans rfl hm) | intro _ | (with_reducible apply Frame.ite)
    | (with_reducible apply Frame.ite_fst) | (with_reducible apply slotChange_frame) | (with_reducible apply State.putUpd_frame)
    | (with_reducible apply State.putBoot_frame) | (with_reducible refine Frame.of_pair (by assumption) ?_) | extract_lets
    | split | (dsimp -zeta only) | (dsimp +zetaDelta -zeta only)

theorem bootError_frame {m : Nat} {s0 s : State} (hm : sub 0x1 m = true) (h : Frame m s0 s) (comp first second : Nat) :
    Frame m s0 (bootError s comp first second) := by
  unfold bootError
  repeat' first
    | (with_reducible assumption) | (exact sub_trans rfl hm) | intro _ | (with_reducible apply State.set_frame) | extract_lets
    | split | (dsimp -zeta only) | (dsimp +zetaDelta -zeta only)

theorem postSlotFallback_frame {m : Nat} {s0 s : State} (hm : sub 0x80840021 m = true) (h : Frame m s0 s) (comp first second slot : Nat) :
    Frame m s0 (postSlotFallback s comp first second slot) := by
  unfold postSlotFallback
  repeat' first
    | (with_reducible assumption) | (exact sub_trans rfl hm) | intro _ | (with_reducible apply postEvent_frame) | extract_lets
    | split | (dsimp -zeta only) | (dsimp +zetaDelta -zeta only)

theorem nextComponent_frame {m : Nat} {s0 s : State} (hm : sub 0x3 m = true) (h : Frame m s0 s) :
    Frame m s0 (nextComponent s) := by
  unfold nextComponent
  repeat' first
    | (with_reducible assumption) | (exact sub_trans rfl hm) | intro _ | (with_reducible apply Frame.ite)
    | (with_reducible apply Frame.ite_fst) | (with_reducible apply State.putBoot_frame) | (with_reducible apply setPhase_frame)
    | extract_lets | split | (dsimp -zeta only) | (dsimp +zetaDelta -zeta only)

theorem slotBoots_frame {m : Nat} {s0 s : State} (hm : sub 0x80840023 m = true) (h : Frame m s0 s) (slot : Nat) (img : List Byte) :
    Frame m s0 (slotBoots s slot img) := by
  unfold slotBoots
  repeat' first
    | (with_reducible assumption) | (exact sub_trans rfl hm) | intro _ | (with_reducible apply Frame.ite)
    | (with_reducible apply Frame.ite_fst) | (with_reducible apply imageInForce_frame)
    | (with_reducible apply postSlotFallback_frame) | (with_reducible apply State.setBitAt_frame) | extract_lets | split
    | (dsimp -zeta only) | (dsimp +zetaDelta -zeta only)

theorem slotFails_frame {m : Nat} {s0 s : State} (hm : sub 0x3 m = true) (h : Frame m s0 s) (reason : Nat) (both : Nat → Nat → State → State)
    (hb : ∀ a b t, Frame m s0 t → Frame m s0 (both a b t)) : Frame m s0 (slotFails s reason both) := by
  unfold slotFails
  repeat' first
    | (with_reducible assumption) | (exact sub_trans rfl hm) | intro _ | (with_reducible apply Frame.ite) | (with_reducible apply bootError_frame)
    | (with_reducible apply State.putBoot_frame) | (with_reducible apply hb) | extract_lets | split | (dsimp -zeta only)

theorem componentMissing_frame {m : Nat} {s0 s : State} (hm : sub 0x80840023 m = true) (h : Frame m s0 s) (comp first second : Nat) :
    Frame m s0 (componentMissing comp first second s) := by
  unfold componentMissing
  repeat' first
    | (with_reducible assumption) | (exact sub_trans rfl hm) | intro _ | (with_reducible apply Frame.ite)
    | (with_reducible apply Frame.ite_fst) | (with_reducible apply nextComponent_frame)
    | (with_reducible apply postSlotFallback_frame) | (with_reducible apply imageWait_frame) | extract_lets | split
    | (dsimp -zeta only) | (dsimp +zetaDelta -zeta only)

theorem postRetry_frame {m : Nat} {s0 s : State} (hm : sub 0x80840023 m = true) (h : Frame m s0 s) :
    Frame m s0 (postRetry s) := by
  unfold postRetry
  repeat' first
    | (with_reducible assumption) | (exact sub_trans rfl hm) | intro _ | (with_reducible apply postEvent_frame)
    | (with_reducible apply State.putBoot_frame) | extract_lets | split | (dsimp -zeta only) | (dsimp +zetaDelta -zeta only)

theorem postLfLoss_frame {m : Nat} {s0 s : State} (hm : sub 0x80840023 m = true) (h : Frame m s0 s) :
    Frame m s0 (postLfLoss s) := by
  unfold postLfLoss
  repeat' first
    | (with_reducible assumption) | (exact sub_trans rfl hm) | intro _ | (with_reducible apply Frame.ite)
    | (with_reducible apply Frame.ite_fst) | (with_reducible apply postEvent_frame) | (with_reducible apply State.putBoot_frame)
    | extract_lets | split | (dsimp -zeta only) | (dsimp +zetaDelta -zeta only)

theorem slotByte_frame {m : Nat} {s0 s : State} (hm : sub 0x80000000 m = true) (h : Frame m s0 s) (slot : Nat) :
    Frame m s0 (slotByte s slot).1 := by
  unfold slotByte
  repeat' first
    | (with_reducible assumption) | (exact sub_trans rfl hm) | intro _ | (with_reducible apply Frame.ite)
    | (with_reducible apply Frame.ite_fst) | (with_reducible apply State.drew_frame) | extract_lets | split | (dsimp -zeta only)
    | (dsimp +zetaDelta -zeta only)

theorem configWait_frame {m : Nat} {s0 s : State} (hm : sub 0x3 m = true) (h : Frame m s0 s) :
    Frame m s0 (configWait s) := by
  unfold configWait
  repeat' first
    | (with_reducible assumption) | (exact sub_trans rfl hm) | intro _ | (with_reducible apply setPhase_frame)
    | (with_reducible apply State.putBoot_frame) | extract_lets | split | (dsimp -zeta only) | (dsimp +zetaDelta -zeta only)

theorem configRejected_frame {m : Nat} {s0 s : State} (hm : sub 0x80840021 m = true) (h : Frame m s0 s) (slot reason offset : Nat) :
    Frame m s0 (configRejected s slot reason offset) := by
  unfold configRejected
  repeat' first
    | (with_reducible assumption) | (exact sub_trans rfl hm) | intro _ | (with_reducible apply State.set_frame)
    | (with_reducible apply slotByte_frame) | (with_reducible apply postEvent_frame)
    | (with_reducible refine Frame.of_pair (by assumption) ?_) | extract_lets | split | (dsimp -zeta only)
    | (dsimp +zetaDelta -zeta only)

theorem offerImage_frame {m : Nat} {s0 s : State} (hm : sub 0x88840023 m = true) (h : Frame m s0 s) (comp : Nat) (img : List Byte) :
    Frame m s0 (offerImage s comp img).1 := by
  unfold offerImage
  repeat' first
    | (with_reducible assumption) | (exact sub_trans rfl hm) | intro _ | (with_reducible apply Frame.ite)
    | (with_reducible apply Frame.ite_fst) | (with_reducible apply configWait_frame)
    | (with_reducible apply configRejected_frame) | (with_reducible apply setPhase_frame)
    | (with_reducible apply State.putBoot_frame) | (with_reducible apply State.putUpd_frame)
    | (with_reducible apply nextComponent_frame) | (with_reducible apply imageInForce_frame) | extract_lets | split
    | (dsimp -zeta only) | (dsimp +zetaDelta -zeta only)

end Sys2Proof.Machine
end

