-- ==== Sys2Proof/Laws/FrameAccessOps.lean ====
section
/-!
SUPPORT. Which components the operations of Machine/AccessOps.lean may change (`Frame`).
-/

namespace Sys2Proof.Machine

set_option linter.unusedVariables false
set_option linter.unusedTactic false
set_option linter.unreachableTactic false

theorem writeMsix_frame {m : Nat} {s0 s : State} (hm : sub 0x100000040 m = true) (h : Frame m s0 s) (k v : Nat) :
    Frame m s0 (writeMsix s k v) := by
  unfold writeMsix
  repeat' first
    | (with_reducible assumption) | (exact sub_trans rfl hm) | intro _ | (with_reducible apply Frame.ite)
    | (with_reducible apply Frame.ite_fst) | (with_reducible apply State.putPcie_frame)
    | (with_reducible apply flushVector_frame) | extract_lets | split | (dsimp -zeta only) | (dsimp +zetaDelta -zeta only)

theorem clearRc_frame {m : Nat} {s0 s : State} (hm : sub 0x1 m = true) (h : Frame m s0 s) (key : Nat) (l : List FieldDesc) :
    Frame m s0 (clearRc s key l) := by
  unfold clearRc
  repeat' first
    | (with_reducible assumption) | (exact sub_trans rfl hm) | intro _ | (with_reducible apply Frame.ite)
    | (with_reducible apply Frame.ite_fst) | (with_reducible apply State.set_frame) | (with_reducible apply Frame.fold)
    | extract_lets | split | (dsimp -zeta only) | (dsimp +zetaDelta -zeta only)

theorem afterRead_frame {m : Nat} {s0 s : State} (hm : sub 0x1 m = true) (h : Frame m s0 s) (q : Requester) (off : Nat) :
    Frame m s0 (afterRead s q off) := by
  unfold afterRead
  repeat' first
    | (with_reducible assumption) | (exact sub_trans rfl hm) | intro _ | (with_reducible apply clearRc_frame) | extract_lets
    | split | (dsimp -zeta only) | (dsimp +zetaDelta -zeta only)

theorem writeField_frame {m : Nat} {s0 s : State} (hm : sub 0x1 m = true) (h : Frame m s0 s) (key v : Nat) (f : FieldDesc) :
    Frame m s0 (writeField s key v f) := by
  unfold writeField
  repeat' first
    | (with_reducible assumption) | (exact sub_trans rfl hm) | intro _ | (with_reducible apply Frame.ite)
    | (with_reducible apply Frame.ite_fst) | (with_reducible apply State.set_frame) | extract_lets | split | (dsimp -zeta only)
    | (dsimp +zetaDelta -zeta only)

theorem plainWrite_frame {m : Nat} {s0 s : State} (hm : sub 0x1 m = true) (h : Frame m s0 s) (key v : Nat) (l : List FieldDesc) :
    Frame m s0 (plainWrite s key v l) := by
  unfold plainWrite
  repeat' first
    | (with_reducible assumption) | (exact sub_trans rfl hm) | intro _ | (with_reducible apply writeField_frame)
    | (with_reducible apply Frame.fold) | extract_lets | split | (dsimp -zeta only) | (dsimp +zetaDelta -zeta only)

theorem writePlain_frame {m : Nat} {s0 s : State} (hm : sub 0x1 m = true) (h : Frame m s0 s) (q : Requester) (off v : Nat) :
    Frame m s0 (writePlain s q off v) := by
  unfold writePlain
  repeat' first
    | (with_reducible assumption) | (exact sub_trans rfl hm) | intro _ | (with_reducible apply Frame.ite)
    | (with_reducible apply Frame.ite_fst) | (with_reducible apply plainWrite_frame) | extract_lets | split | (dsimp -zeta only)
    | (dsimp +zetaDelta -zeta only)

theorem countNarrow_frame {m : Nat} {s0 s : State} (hm : sub 0x1 m = true) (h : Frame m s0 s) (q : Requester) :
    Frame m s0 (countNarrow s q) := by
  unfold countNarrow
  repeat' first
    | (with_reducible assumption) | (exact sub_trans rfl hm) | intro _ | (with_reducible apply State.bump_frame) | extract_lets
    | split | (dsimp -zeta only) | (dsimp +zetaDelta -zeta only)

theorem writeGpioCfg_frame {m : Nat} {s0 s : State} (hm : sub 0x800001 m = true) (h : Frame m s0 s) (n v : Nat) :
    Frame m s0 (writeGpioCfg s n v) := by
  unfold writeGpioCfg
  repeat' first
    | (with_reducible assumption) | (exact sub_trans rfl hm) | intro _ | (with_reducible apply Frame.ite)
    | (with_reducible apply Frame.ite_fst) | (with_reducible apply State.set_frame) | (with_reducible apply aicLevel_frame)
    | extract_lets | split | (dsimp -zeta only) | (dsimp +zetaDelta -zeta only)

theorem writeAicSrc_frame {m : Nat} {s0 s : State} (hm : sub 0x800001 m = true) (h : Frame m s0 s) (q : Requester) (n v : Nat) :
    Frame m s0 (writeAicSrc s q n v) := by
  unfold writeAicSrc
  repeat' first
    | (with_reducible assumption) | (exact sub_trans rfl hm) | intro _ | (with_reducible apply Frame.ite)
    | (with_reducible apply Frame.ite_fst) | (with_reducible apply aicUpdate_frame) | (with_reducible apply State.set_frame)
    | extract_lets | split | (dsimp -zeta only) | (dsimp +zetaDelta -zeta only)

theorem writeHqBase_frame {m : Nat} {s0 s : State} (hm : sub 0x1 m = true) (h : Frame m s0 s) (q : Requester) (n off v : Nat) :
    Frame m s0 (writeHqBase s q n off v) := by
  unfold writeHqBase
  repeat' first
    | (with_reducible assumption) | (exact sub_trans rfl hm) | intro _ | (with_reducible apply Frame.ite)
    | (with_reducible apply Frame.ite_fst) | (with_reducible apply State.set_frame) | (with_reducible apply writePlain_frame)
    | extract_lets | split | (dsimp -zeta only) | (dsimp +zetaDelta -zeta only)

theorem writeProb_frame {m : Nat} {s0 s : State} (hm : sub 0x1 m = true) (h : Frame m s0 s) (v : Nat) :
    Frame m s0 (writeProb s v) := by
  unfold writeProb
  repeat' first
    | (with_reducible assumption) | (exact sub_trans rfl hm) | intro _ | (with_reducible apply Frame.ite)
    | (with_reducible apply Frame.ite_fst) | (with_reducible apply State.set_frame) | extract_lets | split | (dsimp -zeta only)
    | (dsimp +zetaDelta -zeta only)

theorem ownerWrite_frame {m : Nat} {s0 s : State} (hm : sub 0x1 m = true) (h : Frame m s0 s) (q : Requester) (act : State → State)
    (ha : ∀ t, Frame m s0 t → Frame m s0 (act t)) : Frame m s0 (ownerWrite s q act) := by
  unfold ownerWrite
  repeat' first
    | (with_reducible assumption) | (exact sub_trans rfl hm) | intro _ | (with_reducible apply Frame.ite) | (with_reducible apply ha)
    | (with_reducible apply notOwner_frame) | extract_lets | split | (dsimp -zeta only)

theorem snapAnswer_frame {m : Nat} {s0 s : State} (hm : sub 0x220000000 m = true) (h : Frame m s0 s) (q : Requester) (snap : Option Nat) (live : Nat) (taken : Snapshots) :
    Frame m s0 (snapAnswer s q snap live taken) := by
  unfold snapAnswer
  repeat' first
    | (with_reducible assumption) | (exact sub_trans rfl hm) | intro _ | (with_reducible apply State.answer_frame)
    | (with_reducible apply State.setSnaps_frame) | extract_lets | split | (dsimp -zeta only) | (dsimp +zetaDelta -zeta only)

theorem readTsi_frame {m : Nat} {s0 s : State} (hm : sub 0x220000000 m = true) (h : Frame m s0 s) (q : Requester) (n part : Nat) :
    Frame m s0 (readTsi s q n part) := by
  unfold readTsi
  repeat' first
    | (with_reducible assumption) | (exact sub_trans rfl hm) | intro _ | (with_reducible apply State.setSnaps_frame)
    | (with_reducible apply State.answer_frame) | (with_reducible apply snapAnswer_frame) | extract_lets | split
    | (dsimp -zeta only) | (dsimp +zetaDelta -zeta only)

theorem readGtCap_frame {m : Nat} {s0 s : State} (hm : sub 0x220000000 m = true) (h : Frame m s0 s) (q : Requester) (n : Nat) :
    Frame m s0 (readGtCap s q n) := by
  unfold readGtCap
  repeat' first
    | (with_reducible assumption) | (exact sub_trans rfl hm) | intro _ | (with_reducible apply Frame.ite)
    | (with_reducible apply Frame.ite_fst) | (with_reducible apply State.setSnaps_frame)
    | (with_reducible apply State.answer_frame) | (with_reducible apply snapAnswer_frame) | extract_lets | split
    | (dsimp -zeta only) | (dsimp +zetaDelta -zeta only)

theorem readGtHigh_frame {m : Nat} {s0 s : State} (hm : sub 0x220000000 m = true) (h : Frame m s0 s) (q : Requester) (n : Nat) :
    Frame m s0 (readGtHigh s q n) := by
  unfold readGtHigh
  repeat' first
    | (with_reducible assumption) | (exact sub_trans rfl hm) | intro _ | (with_reducible apply snapAnswer_frame) | extract_lets
    | split | (dsimp -zeta only) | (dsimp +zetaDelta -zeta only)

theorem closeWindow_frame {m : Nat} {s0 s : State} (hm : sub 0x800000 m = true) (h : Frame m s0 s) (k : Nat) :
    Frame m s0 (closeWindow s k) := by
  unfold closeWindow
  repeat' first
    | (with_reducible assumption) | (exact sub_trans rfl hm) | intro _ | (with_reducible apply State.putApp_frame)
    | extract_lets | split | (dsimp -zeta only) | (dsimp +zetaDelta -zeta only)

end Sys2Proof.Machine
end

