-- ==== Sys2Proof/Laws/FrameAic.lean ====
section
/-!
SUPPORT. Which components the operations of Machine/Aic.lean may change (`Frame`).
-/

namespace Sys2Proof.Machine

set_option linter.unusedVariables false
set_option linter.unusedTactic false
set_option linter.unreachableTactic false

theorem execGpioSetWrite_frame {m : Nat} {s0 s : State} (hm : sub 0x1 m = true) (h : Frame m s0 s) (v : Nat) :
    OutFrame m s0 (execGpioSetWrite v s) := by
  unfold execGpioSetWrite
  repeat' first
    | (with_reducible assumption) | (exact sub_trans rfl hm) | intro _ | (with_reducible apply OutFrame.next)
    | (with_reducible apply OutFrame.ite) | (with_reducible apply Frame.ite) | (with_reducible apply Frame.ite_fst)
    | (with_reducible apply State.set_frame) | extract_lets | split | (dsimp -zeta only) | (dsimp +zetaDelta -zeta only)

theorem execGpioClrWrite_frame {m : Nat} {s0 s : State} (hm : sub 0x1 m = true) (h : Frame m s0 s) (v : Nat) :
    OutFrame m s0 (execGpioClrWrite v s) := by
  unfold execGpioClrWrite
  repeat' first
    | (with_reducible assumption) | (exact sub_trans rfl hm) | intro _ | (with_reducible apply OutFrame.next)
    | (with_reducible apply OutFrame.ite) | (with_reducible apply Frame.ite) | (with_reducible apply Frame.ite_fst)
    | (with_reducible apply State.set_frame) | extract_lets | split | (dsimp -zeta only) | (dsimp +zetaDelta -zeta only)

theorem gpioPends_frame {m : Nat} {s0 s : State} (hm : sub 0x800001 m = true) (h : Frame m s0 s) (n : Nat) (was level : Bool) :
    Frame m s0 (gpioPends s n was level) := by
  unfold gpioPends
  repeat' first
    | (with_reducible assumption) | (exact sub_trans rfl hm) | intro _ | (with_reducible apply Frame.ite)
    | (with_reducible apply Frame.ite_fst) | (with_reducible apply aicEdge_frame) | (with_reducible apply aicLevel_frame)
    | extract_lets | split | (dsimp -zeta only) | (dsimp +zetaDelta -zeta only)

theorem execGpioInputChange_frame {m : Nat} {s0 s : State} (hm : sub 0x800001 m = true) (h : Frame m s0 s) (n : Nat) (level : Bool) :
    OutFrame m s0 (execGpioInputChange n level s) := by
  unfold execGpioInputChange
  repeat' first
    | (with_reducible assumption) | (exact sub_trans rfl hm) | intro _ | (with_reducible apply OutFrame.next)
    | (with_reducible apply OutFrame.ite) | (with_reducible apply Frame.ite) | (with_reducible apply Frame.ite_fst)
    | (with_reducible apply gpioPends_frame) | (with_reducible apply State.setBitAt_frame) | extract_lets | split
    | (dsimp -zeta only) | (dsimp +zetaDelta -zeta only)

theorem execAicSourceRequest_frame {m : Nat} {s0 s : State} (hm : sub 0x800001 m = true) (h : Frame m s0 s) (src : Nat) (high : Bool) :
    OutFrame m s0 (execAicSourceRequest src high s) := by
  unfold execAicSourceRequest
  repeat' first
    | (with_reducible assumption) | (exact sub_trans rfl hm) | intro _ | (with_reducible apply OutFrame.next)
    | (with_reducible apply OutFrame.ite) | (with_reducible apply Frame.ite) | (with_reducible apply Frame.ite_fst)
    | (with_reducible apply aicLevel_frame) | (with_reducible apply aicEdge_frame) | extract_lets | split | (dsimp -zeta only)
    | (dsimp +zetaDelta -zeta only)

theorem claimSource_frame {m : Nat} {s0 s : State} (hm : sub 0x800001 m = true) (h : Frame m s0 s) (src : Nat) :
    Frame m s0 (claimSource s src) := by
  unfold claimSource
  repeat' first
    | (with_reducible assumption) | (exact sub_trans rfl hm) | intro _ | (with_reducible apply Frame.ite)
    | (with_reducible apply Frame.ite_fst) | (with_reducible apply setActive_frame) | (with_reducible apply setPending_frame)
    | (with_reducible apply State.setBitAt_frame) | (with_reducible apply aicUpdate_frame)
    | (with_reducible apply State.putApp_frame) | extract_lets | split | (dsimp -zeta only) | (dsimp +zetaDelta -zeta only)

theorem execAicClaimRead_frame {m : Nat} {s0 s : State} (hm : sub 0x280800001 m = true) (h : Frame m s0 s) (q : Requester) :
    OutFrame m s0 (execAicClaimRead q s) := by
  unfold execAicClaimRead
  repeat' first
    | (with_reducible assumption) | (exact sub_trans rfl hm) | intro _ | (with_reducible apply OutFrame.next)
    | (with_reducible apply OutFrame.ite) | (with_reducible apply Frame.ite) | (with_reducible apply Frame.ite_fst)
    | (with_reducible apply State.answer_frame) | (with_reducible apply aicUpdate_frame)
    | (with_reducible apply State.drew_frame) | (with_reducible apply State.bump_frame)
    | (with_reducible apply claimSource_frame) | (with_reducible apply Frame.foldl_fst) | extract_lets | split
    | (dsimp -zeta only) | (dsimp +zetaDelta -zeta only)

theorem execAicEoiWrite_frame {m : Nat} {s0 s : State} (hm : sub 0x800001 m = true) (h : Frame m s0 s) (q : Requester) (src : Nat) :
    OutFrame m s0 (execAicEoiWrite q src s) := by
  unfold execAicEoiWrite
  repeat' first
    | (with_reducible assumption) | (exact sub_trans rfl hm) | intro _ | (with_reducible apply OutFrame.next)
    | (with_reducible apply OutFrame.ite) | (with_reducible apply Frame.ite) | (with_reducible apply Frame.ite_fst)
    | (with_reducible apply State.bump_frame) | (with_reducible apply setActive_frame)
    | (with_reducible apply State.putApp_frame) | (with_reducible apply setPending_frame)
    | (with_reducible apply aicUpdate_frame) | extract_lets | split | (dsimp -zeta only) | (dsimp +zetaDelta -zeta only)

theorem execAicGdisWrite_frame {m : Nat} {s0 s : State} (hm : sub 0x800001 m = true) (h : Frame m s0 s) (v : Nat) :
    OutFrame m s0 (execAicGdisWrite v s) := by
  unfold execAicGdisWrite
  repeat' first
    | (with_reducible assumption) | (exact sub_trans rfl hm) | intro _ | (with_reducible apply OutFrame.next)
    | (with_reducible apply OutFrame.ite) | (with_reducible apply Frame.ite) | (with_reducible apply Frame.ite_fst)
    | (with_reducible apply aicUpdate_frame) | (with_reducible apply State.set_frame) | extract_lets | split
    | (dsimp -zeta only) | (dsimp +zetaDelta -zeta only)

theorem execAicSwiWrite_frame {m : Nat} {s0 s : State} (hm : sub 0x800001 m = true) (h : Frame m s0 s) (v : Nat) :
    OutFrame m s0 (execAicSwiWrite v s) := by
  unfold execAicSwiWrite
  repeat' first
    | (with_reducible assumption) | (exact sub_trans rfl hm) | intro _ | (with_reducible apply OutFrame.next)
    | (with_reducible apply OutFrame.ite) | (with_reducible apply Frame.ite) | (with_reducible apply Frame.ite_fst)
    | (with_reducible apply State.set_frame) | (with_reducible apply aicEdge_frame) | (with_reducible apply Frame.fold)
    | extract_lets | split | (dsimp -zeta only) | (dsimp +zetaDelta -zeta only)

theorem execAicEnWrite_frame {m : Nat} {s0 s : State} (hm : sub 0x800001 m = true) (h : Frame m s0 s) (q : Requester) (k v : Nat) :
    OutFrame m s0 (execAicEnWrite q k v s) := by
  unfold execAicEnWrite
  repeat' first
    | (with_reducible assumption) | (exact sub_trans rfl hm) | intro _ | (with_reducible apply OutFrame.next)
    | (with_reducible apply OutFrame.ite) | (with_reducible apply Frame.ite) | (with_reducible apply Frame.ite_fst)
    | (with_reducible apply aicUpdate_frame) | (with_reducible apply State.putApp_frame)
    | (with_reducible apply State.set_frame) | extract_lets | split | (dsimp -zeta only) | (dsimp +zetaDelta -zeta only)

end Sys2Proof.Machine
end

