-- ==== Sys2Proof/Laws/FrameCalibration.lean ====
section
/-!
SUPPORT. Which components the operations of Machine/Calibration.lean may change (`Frame`).
-/

namespace Sys2Proof.Machine

set_option linter.unusedVariables false
set_option linter.unusedTactic false
set_option linter.unreachableTactic false

theorem execCoeffSetIssue_frame {m : Nat} {s0 s : State} (hm : sub 0x101 m = true) (h : Frame m s0 s) (path : Nat) (set_ : List Int) :
    OutFrame m s0 (execCoeffSetIssue path set_ s) := by
  unfold execCoeffSetIssue
  repeat' first
    | (with_reducible assumption) | (exact sub_trans rfl hm) | intro _ | (with_reducible apply OutFrame.next)
    | (with_reducible apply OutFrame.ite) | (with_reducible apply Frame.ite) | (with_reducible apply Frame.ite_fst)
    | (with_reducible apply offerSet_frame) | extract_lets | split | (dsimp -zeta only) | (dsimp +zetaDelta -zeta only)

theorem execBarrierComplete_frame {m : Nat} {s0 s : State} (hm : sub 0x900 m = true) (h : Frame m s0 s) (path : Nat) :
    OutFrame m s0 (execBarrierComplete path s) := by
  unfold execBarrierComplete
  repeat' first
    | (with_reducible assumption) | (exact sub_trans rfl hm) | intro _ | (with_reducible apply OutFrame.next)
    | (with_reducible apply OutFrame.ite) | (with_reducible apply Frame.ite) | (with_reducible apply Frame.ite_fst)
    | (with_reducible apply State.setPath_frame) | (with_reducible apply State.setCe_frame) | (with_reducible apply Frame.fold)
    | extract_lets | split | (dsimp -zeta only) | (dsimp +zetaDelta -zeta only)

theorem imageUpdate_frame {m : Nat} {s0 s : State} (hm : sub 0x101 m = true) (h : Frame m s0 s) (n chain bin : Nat) (rejection halfWidth : Int) :
    Frame m s0 (imageUpdate s n chain bin rejection halfWidth) := by
  unfold imageUpdate
  repeat' first
    | (with_reducible assumption) | (exact sub_trans rfl hm) | intro _ | (with_reducible apply Frame.ite)
    | (with_reducible apply Frame.ite_fst) | (with_reducible apply bumpTrx_frame) | (with_reducible apply State.setPath_frame)
    | (with_reducible apply offerSet_frame) | (with_reducible apply setTrx_frame) | extract_lets | split | (dsimp -zeta only)
    | (dsimp +zetaDelta -zeta only)

theorem execEstimatorResult_frame {m : Nat} {s0 s : State} (hm : sub 0x80840121 m = true) (h : Frame m s0 s) (path kind chain bin epoch span : Nat) (inPhase quad rejection halfWidth : Int) :
    OutFrame m s0 (execEstimatorResult path kind chain bin epoch span inPhase quad rejection halfWidth s) := by
  unfold execEstimatorResult
  repeat' first
    | (with_reducible assumption) | (exact sub_trans rfl hm) | intro _ | (with_reducible apply OutFrame.next)
    | (with_reducible apply OutFrame.ite) | (with_reducible apply Frame.ite) | (with_reducible apply Frame.ite_fst)
    | (with_reducible apply viewHealth_frame) | (with_reducible apply imageUpdate_frame) | (with_reducible apply offerSet_frame)
    | (with_reducible apply setTrx_frame) | (with_reducible apply State.setPath_frame) | extract_lets | split
    | (dsimp -zeta only) | (dsimp +zetaDelta -zeta only)

theorem execNoiseReportTimer_frame {m : Nat} {s0 s : State} (hm : sub 0x40001 m = true) (h : Frame m s0 s) (engine : Nat) (powers : List Nat) :
    OutFrame m s0 (execNoiseReportTimer engine powers s) := by
  unfold execNoiseReportTimer
  repeat' first
    | (with_reducible assumption) | (exact sub_trans rfl hm) | intro _ | (with_reducible apply OutFrame.next)
    | (with_reducible apply OutFrame.ite) | (with_reducible apply Frame.ite) | (with_reducible apply Frame.ite_fst)
    | (with_reducible apply pushItem_frame) | extract_lets | split | (dsimp -zeta only) | (dsimp +zetaDelta -zeta only)

theorem trimStep_frame {m : Nat} {s0 s : State} (hm : sub 0x80840421 m = true) (h : Frame m s0 s) :
    Frame m s0 (trimStep s) := by
  unfold trimStep
  repeat' first
    | (with_reducible assumption) | (exact sub_trans rfl hm) | intro _ | (with_reducible apply Frame.ite)
    | (with_reducible apply Frame.ite_fst) | (with_reducible apply State.set_frame) | (with_reducible apply State.setI_frame)
    | (with_reducible apply State.putOsc_frame) | (with_reducible apply State.bump_frame)
    | (with_reducible apply postEvent_frame) | (with_reducible apply State.setBit_frame) | extract_lets | split
    | (dsimp -zeta only) | (dsimp +zetaDelta -zeta only)

theorem execTrimInterval_frame {m : Nat} {s0 s : State} (hm : sub 0x80840421 m = true) (h : Frame m s0 s) :
    OutFrame m s0 (execTrimInterval s) := by
  unfold execTrimInterval
  repeat' first
    | (with_reducible assumption) | (exact sub_trans rfl hm) | intro _ | (with_reducible apply OutFrame.next)
    | (with_reducible apply OutFrame.ite) | (with_reducible apply Frame.ite) | (with_reducible apply Frame.ite_fst)
    | (with_reducible apply State.setBit_frame) | (with_reducible apply State.setI_frame)
    | (with_reducible apply State.putOsc_frame) | (with_reducible apply State.set_frame)
    | (with_reducible apply postEvent_frame) | (with_reducible apply trimStep_frame) | (with_reducible apply State.bump_frame)
    | extract_lets | split | (dsimp -zeta only) | (dsimp +zetaDelta -zeta only)

theorem execOscManWrite_frame {m : Nat} {s0 s : State} (hm : sub 0x401 m = true) (h : Frame m s0 s) (v : Nat) :
    OutFrame m s0 (execOscManWrite v s) := by
  unfold execOscManWrite
  repeat' first
    | (with_reducible assumption) | (exact sub_trans rfl hm) | intro _ | (with_reducible apply OutFrame.next)
    | (with_reducible apply OutFrame.ite) | (with_reducible apply Frame.ite) | (with_reducible apply Frame.ite_fst)
    | (with_reducible apply State.set_frame) | (with_reducible apply State.putOsc_frame) | extract_lets | split
    | (dsimp -zeta only) | (dsimp +zetaDelta -zeta only)

theorem oscCommit_frame {m : Nat} {s0 s : State} (hm : sub 0x401 m = true) (h : Frame m s0 s) :
    Frame m s0 (oscCommit s) := by
  unfold oscCommit
  repeat' first
    | (with_reducible assumption) | (exact sub_trans rfl hm) | intro _ | (with_reducible apply Frame.ite)
    | (with_reducible apply Frame.ite_fst) | (with_reducible apply State.set_frame) | (with_reducible apply State.setBit_frame)
    | (with_reducible apply State.putOsc_frame) | extract_lets | split | (dsimp -zeta only) | (dsimp +zetaDelta -zeta only)

theorem postFailedSteps_frame {m : Nat} {s0 s : State} (hm : sub 0x80840021 m = true) (h : Frame m s0 s) (n op failed : Nat) :
    Frame m s0 (postFailedSteps s n op failed) := by
  unfold postFailedSteps
  repeat' first
    | (with_reducible assumption) | (exact sub_trans rfl hm) | intro _ | (with_reducible apply Frame.ite)
    | (with_reducible apply Frame.ite_fst) | (with_reducible apply postEvent_frame) | (with_reducible apply Frame.fold)
    | extract_lets | split | (dsimp -zeta only) | (dsimp +zetaDelta -zeta only)

theorem putMeasured_frame {m : Nat} {s0 s : State} (hm : sub 0x101 m = true) (h : Frame m s0 s) (n : Nat) (first : Bool) (set_ tx analog : List Int) (health0 health1 failed : Nat) :
    Frame m s0 (putMeasured s n first set_ tx analog health0 health1 failed) := by
  unfold putMeasured
  repeat' first
    | (with_reducible assumption) | (exact sub_trans rfl hm) | intro _ | (with_reducible apply Frame.ite)
    | (with_reducible apply Frame.ite_fst) | (with_reducible apply issueSet_frame) | (with_reducible apply State.set_frame)
    | (with_reducible apply offerSet_frame) | (with_reducible apply putTxSet_frame) | (with_reducible apply State.setPath_frame)
    | (with_reducible apply State.setWord_frame) | extract_lets | split | (dsimp -zeta only) | (dsimp +zetaDelta -zeta only)

theorem execColdCalDone_frame {m : Nat} {s0 s : State} (hm : sub 0x84840923 m = true) (h : Frame m s0 s) (path failed : Nat) (set_ tx analog : List Int) (health0 health1 : Nat) :
    OutFrame m s0 (execColdCalDone path failed set_ tx analog health0 health1 s) := by
  unfold execColdCalDone
  repeat' first
    | (with_reducible assumption) | (exact sub_trans rfl hm) | intro _ | (with_reducible apply OutFrame.next)
    | (with_reducible apply OutFrame.ite) | (with_reducible apply Frame.ite) | (with_reducible apply Frame.ite_fst)
    | (with_reducible apply State.putBoot_frame) | (with_reducible apply State.set_frame)
    | (with_reducible apply putMeasured_frame) | (with_reducible apply State.setPath_frame)
    | (with_reducible apply viewHealth_frame) | (with_reducible apply postFailedSteps_frame)
    | (with_reducible apply viewTone_frame) | (with_reducible apply unblankPath_frame) | (with_reducible apply reachStep8_frame)
    | extract_lets | split | (dsimp -zeta only) | (dsimp +zetaDelta -zeta only)

theorem calRequest_frame {m : Nat} {s0 s : State} (hm : sub 0x101 m = true) (h : Frame m s0 s) (n op : Nat) (excl : Bool) :
    Frame m s0 (calRequest s n op excl) := by
  unfold calRequest
  repeat' first
    | (with_reducible assumption) | (exact sub_trans rfl hm) | intro _ | (with_reducible apply Frame.ite)
    | (with_reducible apply Frame.ite_fst) | (with_reducible apply State.set_frame) | (with_reducible apply calResult_frame)
    | (with_reducible apply State.setPath_frame) | extract_lets | split | (dsimp -zeta only) | (dsimp +zetaDelta -zeta only)

theorem execCalImage_frame {m : Nat} {s0 s : State} (hm : sub 0x101 m = true) (h : Frame m s0 s) (path : Nat) (excl : Bool) :
    OutFrame m s0 (execCalImage path excl s) := by
  unfold execCalImage
  repeat' first
    | (with_reducible assumption) | (exact sub_trans rfl hm) | intro _ | (with_reducible apply OutFrame.next)
    | (with_reducible apply OutFrame.ite) | (with_reducible apply calRequest_frame) | extract_lets | split | (dsimp -zeta only)
    | (dsimp +zetaDelta -zeta only)

theorem execCalAnalogFilter_frame {m : Nat} {s0 s : State} (hm : sub 0x101 m = true) (h : Frame m s0 s) (path : Nat) (excl : Bool) :
    OutFrame m s0 (execCalAnalogFilter path excl s) := by
  unfold execCalAnalogFilter
  repeat' first
    | (with_reducible assumption) | (exact sub_trans rfl hm) | intro _ | (with_reducible apply OutFrame.next)
    | (with_reducible apply OutFrame.ite) | (with_reducible apply calRequest_frame) | extract_lets | split | (dsimp -zeta only)
    | (dsimp +zetaDelta -zeta only)

theorem execCalAnalogDc_frame {m : Nat} {s0 s : State} (hm : sub 0x101 m = true) (h : Frame m s0 s) (path : Nat) (excl : Bool) :
    OutFrame m s0 (execCalAnalogDc path excl s) := by
  unfold execCalAnalogDc
  repeat' first
    | (with_reducible assumption) | (exact sub_trans rfl hm) | intro _ | (with_reducible apply OutFrame.next)
    | (with_reducible apply OutFrame.ite) | (with_reducible apply calRequest_frame) | extract_lets | split | (dsimp -zeta only)
    | (dsimp +zetaDelta -zeta only)

theorem execCalTxIqLo_frame {m : Nat} {s0 s : State} (hm : sub 0x101 m = true) (h : Frame m s0 s) (path : Nat) (excl : Bool) :
    OutFrame m s0 (execCalTxIqLo path excl s) := by
  unfold execCalTxIqLo
  repeat' first
    | (with_reducible assumption) | (exact sub_trans rfl hm) | intro _ | (with_reducible apply OutFrame.next)
    | (with_reducible apply OutFrame.ite) | (with_reducible apply calRequest_frame) | extract_lets | split | (dsimp -zeta only)
    | (dsimp +zetaDelta -zeta only)

theorem execCalFull_frame {m : Nat} {s0 s : State} (hm : sub 0x101 m = true) (h : Frame m s0 s) (path : Nat) (excl : Bool) :
    OutFrame m s0 (execCalFull path excl s) := by
  unfold execCalFull
  repeat' first
    | (with_reducible assumption) | (exact sub_trans rfl hm) | intro _ | (with_reducible apply OutFrame.next)
    | (with_reducible apply OutFrame.ite) | (with_reducible apply calRequest_frame) | extract_lets | split | (dsimp -zeta only)
    | (dsimp +zetaDelta -zeta only)

theorem execCalSelfTest_frame {m : Nat} {s0 s : State} (hm : sub 0x101 m = true) (h : Frame m s0 s) (path : Nat) (excl : Bool) :
    OutFrame m s0 (execCalSelfTest path excl s) := by
  unfold execCalSelfTest
  repeat' first
    | (with_reducible assumption) | (exact sub_trans rfl hm) | intro _ | (with_reducible apply OutFrame.next)
    | (with_reducible apply OutFrame.ite) | (with_reducible apply calRequest_frame) | extract_lets | split | (dsimp -zeta only)
    | (dsimp +zetaDelta -zeta only)

theorem execCalCancel_frame {m : Nat} {s0 s : State} (hm : sub 0x80840921 m = true) (h : Frame m s0 s) (path : Nat) :
    OutFrame m s0 (execCalCancel path s) := by
  unfold execCalCancel
  repeat' first
    | (with_reducible assumption) | (exact sub_trans rfl hm) | intro _ | (with_reducible apply OutFrame.next)
    | (with_reducible apply OutFrame.ite) | (with_reducible apply Frame.ite) | (with_reducible apply Frame.ite_fst)
    | (with_reducible apply calResult_frame) | (with_reducible apply stopRequest_frame) | extract_lets | split
    | (dsimp -zeta only) | (dsimp +zetaDelta -zeta only)

theorem selfTestDone_frame {m : Nat} {s0 s : State} (hm : sub 0x80840021 m = true) (h : Frame m s0 s) (n stFail : Nat) :
    Frame m s0 (selfTestDone s n stFail) := by
  unfold selfTestDone
  repeat' first
    | (with_reducible assumption) | (exact sub_trans rfl hm) | intro _ | (with_reducible apply Frame.ite)
    | (with_reducible apply Frame.ite_fst) | (with_reducible apply State.set_frame) | (with_reducible apply calResult_frame)
    | (with_reducible apply calFail_frame) | extract_lets | split | (dsimp -zeta only) | (dsimp +zetaDelta -zeta only)

theorem requestDone_frame {m : Nat} {s0 s : State} (hm : sub 0x80840021 m = true) (h : Frame m s0 s) (n op : Nat) :
    Frame m s0 (requestDone s n op) := by
  unfold requestDone
  repeat' first
    | (with_reducible assumption) | (exact sub_trans rfl hm) | intro _ | (with_reducible apply postEvent_frame) | extract_lets
    | split | (dsimp -zeta only) | (dsimp +zetaDelta -zeta only)

theorem execSlicedCalUnit_frame {m : Nat} {s0 s : State} (hm : sub 0xC08C0921 m = true) (h : Frame m s0 s) (path : Nat) (last : Bool) (set_ tx analog : List Int) (stFail time : Nat) :
    OutFrame m s0 (execSlicedCalUnit path last set_ tx analog stFail time s) := by
  unfold execSlicedCalUnit
  repeat' first
    | (with_reducible assumption) | (exact sub_trans rfl hm) | intro _ | (with_reducible apply OutFrame.next)
    | (with_reducible apply OutFrame.ite) | (with_reducible apply Frame.ite) | (with_reducible apply Frame.ite_fst)
    | (with_reducible apply State.advanceTo_frame) | (with_reducible apply issueSet_frame)
    | (with_reducible apply State.setPath_frame) | (with_reducible apply offerSet_frame) | (with_reducible apply putTxSet_frame)
    | (with_reducible apply calResult_frame) | (with_reducible apply endRequest_frame)
    | (with_reducible apply selfTestDone_frame) | (with_reducible apply requestDone_frame)
    | (with_reducible apply sliceWaits_frame) | extract_lets | split | (dsimp -zeta only) | (dsimp +zetaDelta -zeta only)

theorem execExclusiveCalStart_frame {m : Nat} {s0 s : State} (hm : sub 0x101 m = true) (h : Frame m s0 s) (path : Nat) :
    OutFrame m s0 (execExclusiveCalStart path s) := by
  unfold execExclusiveCalStart
  repeat' first
    | (with_reducible assumption) | (exact sub_trans rfl hm) | intro _ | (with_reducible apply OutFrame.next)
    | (with_reducible apply OutFrame.ite) | (with_reducible apply Frame.ite) | (with_reducible apply Frame.ite_fst)
    | (with_reducible apply State.setPath_frame) | (with_reducible apply retune_frame) | (with_reducible apply calResult_frame)
    | (with_reducible apply State.set_frame) | extract_lets | split | (dsimp -zeta only) | (dsimp +zetaDelta -zeta only)

theorem execExclusiveCalDone_frame {m : Nat} {s0 s : State} (hm : sub 0x80840921 m = true) (h : Frame m s0 s) (path failed : Nat) (set_ tx analog : List Int) (health0 health1 stFail : Nat) :
    OutFrame m s0 (execExclusiveCalDone path failed set_ tx analog health0 health1 stFail s) := by
  unfold execExclusiveCalDone
  repeat' first
    | (with_reducible assumption) | (exact sub_trans rfl hm) | intro _ | (with_reducible apply OutFrame.next)
    | (with_reducible apply OutFrame.ite) | (with_reducible apply Frame.ite) | (with_reducible apply Frame.ite_fst)
    | (with_reducible apply State.set_frame) | (with_reducible apply calResult_frame) | (with_reducible apply endRequest_frame)
    | (with_reducible apply selfTestDone_frame) | (with_reducible apply postFailedSteps_frame)
    | (with_reducible apply putMeasured_frame) | (with_reducible apply requestDone_frame)
    | (with_reducible apply viewHealth_frame) | extract_lets | split | (dsimp -zeta only) | (dsimp +zetaDelta -zeta only)

theorem execCalRequestTimeout_frame {m : Nat} {s0 s : State} (hm : sub 0xC08C0921 m = true) (h : Frame m s0 s) (path : Nat) :
    OutFrame m s0 (execCalRequestTimeout path s) := by
  unfold execCalRequestTimeout
  repeat' first
    | (with_reducible assumption) | (exact sub_trans rfl hm) | intro _ | (with_reducible apply OutFrame.next)
    | (with_reducible apply OutFrame.ite) | (with_reducible apply Frame.ite) | (with_reducible apply Frame.ite_fst)
    | (with_reducible apply State.reach_frame) | (with_reducible apply calFail_frame) | (with_reducible apply calResult_frame)
    | (with_reducible apply endRequest_frame) | extract_lets | split | (dsimp -zeta only) | (dsimp +zetaDelta -zeta only)

end Sys2Proof.Machine
end

