-- ==== Sys2Proof/Laws/FramePowerOps.lean ====
section
/-!
SUPPORT. Which components the operations of Machine/PowerOps.lean may change (`Frame`).
-/

namespace Sys2Proof.Machine

set_option linter.unusedVariables false
set_option linter.unusedTactic false
set_option linter.unreachableTactic false

theorem startChange_frame {m : Nat} {s0 s : State} (hm : sub 0x10000001 m = true) (h : Frame m s0 s) (level : Nat) :
    Frame m s0 (startChange s level) := by
  unfold startChange
  repeat' first
    | (with_reducible assumption) | (exact sub_trans rfl hm) | intro _ | (with_reducible apply Frame.ite)
    | (with_reducible apply Frame.ite_fst) | (with_reducible apply State.putPwr_frame) | (with_reducible apply State.set_frame)
    | extract_lets | split | (dsimp -zeta only) | (dsimp +zetaDelta -zeta only)

theorem requestSleep_frame {m : Nat} {s0 s : State} (hm : sub 0x10000000 m = true) (h : Frame m s0 s) (umber : Bool) :
    Frame m s0 (requestSleep s umber) := by
  unfold requestSleep
  repeat' first
    | (with_reducible assumption) | (exact sub_trans rfl hm) | intro _ | (with_reducible apply State.putPwr_frame)
    | extract_lets | split | (dsimp -zeta only) | (dsimp +zetaDelta -zeta only)

theorem sleepCommand_frame {m : Nat} {s0 s : State} (hm : sub 0x14000001 m = true) (h : Frame m s0 s) (q : Requester) (key : Nat) (umber : Bool) :
    Frame m s0 (sleepCommand s q key umber) := by
  unfold sleepCommand
  repeat' first
    | (with_reducible assumption) | (exact sub_trans rfl hm) | intro _ | (with_reducible apply Frame.ite)
    | (with_reducible apply Frame.ite_fst) | (with_reducible apply State.set_frame) | (with_reducible apply startPlanned_frame)
    | (with_reducible apply requestSleep_frame) | extract_lets | split | (dsimp -zeta only) | (dsimp +zetaDelta -zeta only)

theorem startExit_frame {m : Nat} {s0 s : State} (hm : sub 0x3FDFFFEB m = true) (h : Frame m s0 s) :
    Frame m s0 (startExit s) := by
  unfold startExit
  repeat' first
    | (with_reducible assumption) | (exact sub_trans rfl hm) | intro _ | (with_reducible apply Frame.ite)
    | (with_reducible apply Frame.ite_fst) | (with_reducible apply resetKeeping_frame) | (with_reducible apply State.set_frame)
    | (with_reducible apply State.putPwr_frame) | (with_reducible apply State.putBoot_frame) | extract_lets | split
    | (dsimp -zeta only) | (dsimp +zetaDelta -zeta only)

theorem sepiaClear_frame {m : Nat} {s0 s : State} (hm : sub 0x3EDFFBEB m = true) (h : Frame m s0 s)  :
    Frame m s0 (sepiaClear s) :=
  h.step hm fun c hc => by cases c <;> first | rfl | cases hc

theorem entryStops_frame {m : Nat} {s0 s : State} (hm : sub 0x186D7D121 m = true) (h : Frame m s0 s) :
    Frame m s0 (entryStops s) := by
  unfold entryStops
  repeat' first
    | (with_reducible assumption) | (exact sub_trans rfl hm) | intro _ | (with_reducible apply flushAllDownlink_frame)
    | (with_reducible apply endClaim_frame) | (with_reducible apply linkDown_frame) | (with_reducible apply dropPort_frame)
    | (with_reducible apply Frame.fold) | extract_lets | split | (dsimp -zeta only) | (dsimp +zetaDelta -zeta only)

theorem sleepViews_frame {m : Nat} {s0 s : State} (hm : sub 0x1 m = true) (h : Frame m s0 s) (state : Nat) :
    Frame m s0 (sleepViews s state) := by
  unfold sleepViews
  repeat' first
    | (with_reducible assumption) | (exact sub_trans rfl hm) | intro _ | (with_reducible apply State.set_frame) | extract_lets
    | split | (dsimp -zeta only) | (dsimp +zetaDelta -zeta only)

theorem enterSepia_frame {m : Nat} {s0 s : State} (hm : sub 0x1FFDFFFEB m = true) (h : Frame m s0 s) :
    Frame m s0 (enterSepia s) := by
  unfold enterSepia
  repeat' first
    | (with_reducible assumption) | (exact sub_trans rfl hm) | intro _ | (with_reducible apply stopTimebase_frame)
    | (with_reducible apply entryStops_frame) | (with_reducible apply sleepViews_frame)
    | (with_reducible apply sepiaClear_frame) | (with_reducible apply State.set_frame)
    | (with_reducible apply State.later_frame) | (with_reducible apply startExit_frame) | (with_reducible apply setLfMode_frame)
    | (with_reducible apply State.putPwr_frame) | extract_lets | split | (dsimp -zeta only) | (dsimp +zetaDelta -zeta only)

theorem enterUmber_frame {m : Nat} {s0 s : State} (hm : sub 0x1FFDFFFEB m = true) (h : Frame m s0 s) :
    Frame m s0 (enterUmber s) := by
  unfold enterUmber
  repeat' first
    | (with_reducible assumption) | (exact sub_trans rfl hm) | intro _ | (with_reducible apply stopTimebase_frame)
    | (with_reducible apply entryStops_frame) | (with_reducible apply resetKeeping_frame)
    | (with_reducible apply State.set_frame) | (with_reducible apply State.setBit_frame)
    | (with_reducible apply State.later_frame) | (with_reducible apply startExit_frame)
    | (with_reducible apply State.putPwr_frame) | extract_lets | split | (dsimp -zeta only) | (dsimp +zetaDelta -zeta only)

theorem writeBack_frame {m : Nat} {s0 s : State} (hm : sub 0x1 m = true) (h : Frame m s0 s) :
    Frame m s0 (writeBack s) := by
  unfold writeBack
  repeat' first
    | (with_reducible assumption) | (exact sub_trans rfl hm) | intro _ | (with_reducible apply Frame.ite)
    | (with_reducible apply Frame.ite_fst) | (with_reducible apply State.setWord_frame) | (with_reducible apply Frame.fold)
    | extract_lets | split | (dsimp -zeta only) | (dsimp +zetaDelta -zeta only)

theorem bridgeAges_frame {m : Nat} {s0 s : State} (hm : sub 0x10001 m = true) (h : Frame m s0 s) :
    Frame m s0 (bridgeAges s) := by
  unfold bridgeAges
  repeat' first
    | (with_reducible assumption) | (exact sub_trans rfl hm) | intro _ | (with_reducible apply hbAdvance_frame)
    | (with_reducible apply State.set_frame) | extract_lets | split | (dsimp -zeta only) | (dsimp +zetaDelta -zeta only)

theorem exitSynths_frame {m : Nat} {s0 s : State} (hm : sub 0x1 m = true) (h : Frame m s0 s) :
    Frame m s0 (exitSynths s) := by
  unfold exitSynths
  repeat' first
    | (with_reducible assumption) | (exact sub_trans rfl hm) | intro _ | (with_reducible apply Frame.ite)
    | (with_reducible apply Frame.ite_fst) | (with_reducible apply State.set_frame) | (with_reducible apply Frame.fold)
    | extract_lets | split | (dsimp -zeta only) | (dsimp +zetaDelta -zeta only)

theorem exitCores_frame {m : Nat} {s0 s : State} (hm : sub 0x1800001 m = true) (h : Frame m s0 s) :
    Frame m s0 (exitCores s) := by
  unfold exitCores
  repeat' first
    | (with_reducible assumption) | (exact sub_trans rfl hm) | intro _ | (with_reducible apply Frame.ite)
    | (with_reducible apply Frame.ite_fst) | (with_reducible apply setCpu_frame) | (with_reducible apply releaseApp_frame)
    | (with_reducible apply Frame.fold) | extract_lets | split | (dsimp -zeta only) | (dsimp +zetaDelta -zeta only)

theorem exitReport_frame {m : Nat} {s0 s : State} (hm : sub 0x80840021 m = true) (h : Frame m s0 s) :
    Frame m s0 (exitReport s) := by
  unfold exitReport
  repeat' first
    | (with_reducible assumption) | (exact sub_trans rfl hm) | intro _ | (with_reducible apply Frame.ite)
    | (with_reducible apply Frame.ite_fst) | (with_reducible apply State.set_frame) | (with_reducible apply postEvent_frame)
    | (with_reducible apply State.bump_frame) | extract_lets | split | (dsimp -zeta only) | (dsimp +zetaDelta -zeta only)

theorem sepiaReady_frame {m : Nat} {s0 s : State} (hm : sub 0x197DFE923 m = true) (h : Frame m s0 s) :
    Frame m s0 (sepiaReady s) := by
  unfold sepiaReady
  repeat' first
    | (with_reducible assumption) | (exact sub_trans rfl hm) | intro _ | (with_reducible apply setLfMode_frame)
    | (with_reducible apply writeBack_frame) | (with_reducible apply State.putBoot_frame)
    | (with_reducible apply State.putPwr_frame) | (with_reducible apply takeCe_frame) | (with_reducible apply bridgeAges_frame)
    | (with_reducible apply configTaken_frame) | (with_reducible apply takeFrontEnd_frame)
    | (with_reducible apply exitCores_frame) | (with_reducible apply exitSynths_frame)
    | (with_reducible apply State.putPsm_frame) | (with_reducible apply State.putPair_frame)
    | (with_reducible apply exitReport_frame) | (with_reducible apply postLfLoss_frame) | (with_reducible apply postRetry_frame)
    | (with_reducible apply startChange_frame) | (with_reducible apply Frame.fold) | extract_lets | split | (dsimp -zeta only)
    | (dsimp +zetaDelta -zeta only)

theorem restoreFails_frame {m : Nat} {s0 s : State} (hm : sub 0x3FDFFFEB m = true) (h : Frame m s0 s) :
    Frame m s0 (restoreFails s) := by
  unfold restoreFails
  repeat' first
    | (with_reducible assumption) | (exact sub_trans rfl hm) | intro _ | (with_reducible apply Frame.ite)
    | (with_reducible apply Frame.ite_fst) | (with_reducible apply resetKeeping_frame)
    | (with_reducible apply State.putTb_frame) | (with_reducible apply State.putBoot_frame)
    | (with_reducible apply romStart_frame) | (with_reducible apply State.set_frame) | (with_reducible apply State.setBit_frame)
    | extract_lets | split | (dsimp -zeta only) | (dsimp +zetaDelta -zeta only)

theorem settle_frame {m : Nat} {s0 s : State} (hm : sub 0x19EDF5123 m = true) (h : Frame m s0 s) :
    Frame m s0 (settle s) := by
  unfold settle
  repeat' first
    | (with_reducible assumption) | (exact sub_trans rfl hm) | intro _ | (with_reducible apply Frame.ite)
    | (with_reducible apply Frame.ite_fst) | (with_reducible apply State.putPair_frame)
    | (with_reducible apply warmRestart_frame) | (with_reducible apply setRole_frame) | (with_reducible apply dropSync_frame)
    | (with_reducible apply State.set_frame) | (with_reducible apply requestSleep_frame)
    | (with_reducible apply startHandover_frame) | (with_reducible apply degrade_frame)
    | (with_reducible apply autoRepair_frame) | extract_lets | split | (dsimp -zeta only) | (dsimp +zetaDelta -zeta only)

end Sys2Proof.Machine
end

