-- ==== Sys2Proof/Laws/FrameCommitOps.lean ====
section
/-!
SUPPORT. Which components the operations of Machine/CommitOps.lean may change (`Frame`).
-/

namespace Sys2Proof.Machine

set_option linter.unusedVariables false
set_option linter.unusedTactic false
set_option linter.unreachableTactic false

theorem postFallback_frame {m : Nat} {s0 s : State} (hm : sub 0x88840021 m = true) (h : Frame m s0 s) :
    Frame m s0 (postFallback s) := by
  unfold postFallback
  repeat' first
    | (with_reducible assumption) | (exact sub_trans rfl hm) | intro _ | (with_reducible apply State.putUpd_frame)
    | (with_reducible apply State.bump_frame) | (with_reducible apply postEvent_frame) | extract_lets | split
    | (dsimp -zeta only) | (dsimp +zetaDelta -zeta only)

theorem postWake_frame {m : Nat} {s0 s : State} (hm : sub 0x90840021 m = true) (h : Frame m s0 s) :
    Frame m s0 (postWake s) := by
  unfold postWake
  repeat' first
    | (with_reducible assumption) | (exact sub_trans rfl hm) | intro _ | (with_reducible apply State.putPwr_frame)
    | (with_reducible apply State.bump_frame) | (with_reducible apply postEvent_frame) | extract_lets | split
    | (dsimp -zeta only) | (dsimp +zetaDelta -zeta only)

theorem bootTests_frame {m : Nat} {s0 s : State} (hm : sub 0x186D75121 m = true) (h : Frame m s0 s) (fails : List (Nat × Nat)) :
    Frame m s0 (bootTests s fails) := by
  unfold bootTests
  repeat' first
    | (with_reducible assumption) | (exact sub_trans rfl hm) | intro _ | (with_reducible apply testEngines_frame)
    | (with_reducible apply State.set_frame) | extract_lets | split | (dsimp -zeta only) | (dsimp +zetaDelta -zeta only)

theorem commitKeys_frame {m : Nat} {s0 s : State} (hm : sub 0x100001 m = true) (h : Frame m s0 s) (img : List Byte) :
    Frame m s0 (commitKeys s img) := by
  unfold commitKeys
  repeat' first
    | (with_reducible assumption) | (exact sub_trans rfl hm) | intro _ | (with_reducible apply State.putSec_frame)
    | (with_reducible apply State.set_frame) | extract_lets | split | (dsimp -zeta only) | (dsimp +zetaDelta -zeta only)

theorem commitTree_frame {m : Nat} {s0 s : State} (hm : sub 0x200001 m = true) (h : Frame m s0 s) :
    Frame m s0 (commitTree s) := by
  unfold commitTree
  repeat' first
    | (with_reducible assumption) | (exact sub_trans rfl hm) | intro _ | (with_reducible apply Frame.ite)
    | (with_reducible apply Frame.ite_fst) | (with_reducible apply viewTree_frame) | (with_reducible apply State.putTree_frame)
    | (with_reducible apply State.set_frame) | extract_lets | split | (dsimp -zeta only) | (dsimp +zetaDelta -zeta only)

theorem startCold_frame {m : Nat} {s0 s : State} (hm : sub 0x4000103 m = true) (h : Frame m s0 s) :
    Frame m s0 (startCold s) := by
  unfold startCold
  repeat' first
    | (with_reducible assumption) | (exact sub_trans rfl hm) | intro _ | (with_reducible apply Frame.ite)
    | (with_reducible apply Frame.ite_fst) | (with_reducible apply takeFrontEnd_frame)
    | (with_reducible apply State.setPath_frame) | (with_reducible apply State.set_frame)
    | (with_reducible apply State.putBoot_frame) | (with_reducible apply reachStep8_frame) | (with_reducible apply Frame.fold)
    | extract_lets | split | (dsimp -zeta only) | (dsimp +zetaDelta -zeta only)

theorem startCores_frame {m : Nat} {s0 s : State} (hm : sub 0x1800001 m = true) (h : Frame m s0 s) :
    Frame m s0 (startCores s) := by
  unfold startCores
  repeat' first
    | (with_reducible assumption) | (exact sub_trans rfl hm) | intro _ | (with_reducible apply Frame.ite)
    | (with_reducible apply Frame.ite_fst) | (with_reducible apply setCpu_frame) | (with_reducible apply loadApp_frame)
    | (with_reducible apply releaseApp_frame) | (with_reducible apply Frame.fold) | extract_lets | split | (dsimp -zeta only)
    | (dsimp +zetaDelta -zeta only)

theorem trialBooted_frame {m : Nat} {s0 s : State} (hm : sub 0x188840037 m = true) (h : Frame m s0 s) (comp : Nat) :
    Frame m s0 (trialBooted s comp) := by
  unfold trialBooted
  repeat' first
    | (with_reducible assumption) | (exact sub_trans rfl hm) | intro _ | (with_reducible apply Frame.ite)
    | (with_reducible apply Frame.ite_fst) | (with_reducible apply confirmImage_frame)
    | (with_reducible apply State.putUpd_frame) | (with_reducible apply setUpd_frame) | (with_reducible apply State.set_frame)
    | extract_lets | split | (dsimp -zeta only) | (dsimp +zetaDelta -zeta only)

theorem postSkipped_frame {m : Nat} {s0 s : State} (hm : sub 0x80840021 m = true) (h : Frame m s0 s) (l : List ConfigRecord) :
    Frame m s0 (postSkipped s l) := by
  unfold postSkipped
  repeat' first
    | (with_reducible assumption) | (exact sub_trans rfl hm) | intro _ | (with_reducible apply postEvent_frame)
    | (with_reducible apply Frame.fold) | extract_lets | split | (dsimp -zeta only) | (dsimp +zetaDelta -zeta only)

theorem commitReport_frame {m : Nat} {s0 s : State} (hm : sub 0x80000001 m = true) (h : Frame m s0 s) (slot : Nat) (img : List Byte) (applied skipped : Nat) :
    Frame m s0 (commitReport s slot img applied skipped) := by
  unfold commitReport
  repeat' first
    | (with_reducible assumption) | (exact sub_trans rfl hm) | intro _ | (with_reducible apply State.set_frame)
    | (with_reducible apply State.setBit_frame) | (with_reducible apply bootMs_frame) | extract_lets | split
    | (dsimp -zeta only) | (dsimp +zetaDelta -zeta only)

theorem postCommitted_frame {m : Nat} {s0 s : State} (hm : sub 0x80840021 m = true) (h : Frame m s0 s) (slot : Nat) (img : List Byte) (applied skipped : Nat) :
    Frame m s0 (postCommitted s slot img applied skipped) := by
  unfold postCommitted
  repeat' first
    | (with_reducible assumption) | (exact sub_trans rfl hm) | intro _ | (with_reducible apply slotByte_frame)
    | (with_reducible apply postEvent_frame) | (with_reducible refine Frame.of_pair (by assumption) ?_) | extract_lets | split
    | (dsimp -zeta only) | (dsimp +zetaDelta -zeta only)

theorem applyImage_frame {m : Nat} {s0 s : State} (hm : sub 0x186DFE923 m = true) (h : Frame m s0 s) (img : List Byte) :
    Frame m s0 (applyImage s img) := by
  unfold applyImage
  repeat' first
    | (with_reducible assumption) | (exact sub_trans rfl hm) | intro _ | (with_reducible apply configTaken_frame)
    | (with_reducible apply putValues_frame) | (with_reducible apply State.putBoot_frame)
    | (with_reducible apply setPhase_frame) | extract_lets | split | (dsimp -zeta only) | (dsimp +zetaDelta -zeta only)

theorem commitSecurity_frame {m : Nat} {s0 s : State} (hm : sub 0x80300001 m = true) (h : Frame m s0 s) (img : List Byte) :
    Frame m s0 (commitSecurity s img) := by
  unfold commitSecurity
  repeat' first
    | (with_reducible assumption) | (exact sub_trans rfl hm) | intro _ | (with_reducible apply commitTree_frame)
    | (with_reducible apply commitKeys_frame) | (with_reducible apply State.set_frame)
    | (with_reducible apply State.setBit_frame) | (with_reducible apply State.drew_frame) | extract_lets | split
    | (dsimp -zeta only) | (dsimp +zetaDelta -zeta only)

theorem commitLevel_frame {m : Nat} {s0 s : State} (hm : sub 0x10000001 m = true) (h : Frame m s0 s) (img : List Byte) :
    Frame m s0 (commitLevel s img) := by
  unfold commitLevel
  repeat' first
    | (with_reducible assumption) | (exact sub_trans rfl hm) | intro _ | (with_reducible apply Frame.ite)
    | (with_reducible apply Frame.ite_fst) | (with_reducible apply startChange_frame) | extract_lets | split
    | (dsimp -zeta only) | (dsimp +zetaDelta -zeta only)

theorem commitImage_frame {m : Nat} {s0 s : State} (hm : sub 0x19FFFFD37 m = true) (h : Frame m s0 s) (slot : Nat) (img : List Byte) (fails : List (Nat × Nat)) :
    Frame m s0 (commitImage s slot img fails) := by
  unfold commitImage
  repeat' first
    | (with_reducible assumption) | (exact sub_trans rfl hm) | intro _ | (with_reducible apply Frame.ite)
    | (with_reducible apply Frame.ite_fst) | (with_reducible apply bootTests_frame) | (with_reducible apply applyImage_frame)
    | (with_reducible apply commitSecurity_frame) | (with_reducible apply slotBoots_frame)
    | (with_reducible apply imageInForce_frame) | (with_reducible apply adoptEpoch_frame) | (with_reducible apply setRole_frame)
    | (with_reducible apply commitReport_frame) | (with_reducible apply startCores_frame)
    | (with_reducible apply oscCommit_frame) | (with_reducible apply postCommitted_frame)
    | (with_reducible apply postSkipped_frame) | (with_reducible apply postWake_frame)
    | (with_reducible apply postFallback_frame) | (with_reducible apply postLfLoss_frame)
    | (with_reducible apply postRetry_frame) | (with_reducible apply startCold_frame) | (with_reducible apply commitLevel_frame)
    | (with_reducible apply trialBooted_frame) | (with_reducible apply Frame.fold) | extract_lets | split | (dsimp -zeta only)
    | (dsimp +zetaDelta -zeta only)

theorem configFromSlot_frame {m : Nat} {s0 s : State} (hm : sub 0x19FFFFD37 m = true) (h : Frame m s0 s) (readOk : Bool) (fails : List (Nat × Nat)) :
    Frame m s0 (configFromSlot s readOk fails) := by
  unfold configFromSlot
  repeat' first
    | (with_reducible assumption) | (exact sub_trans rfl hm) | intro _ | (with_reducible apply Frame.ite)
    | (with_reducible apply Frame.ite_fst) | (with_reducible apply probationFallback_frame)
    | (with_reducible apply commitImage_frame) | (with_reducible apply slotFails_frame)
    | (with_reducible apply configRejected_frame) | (with_reducible apply configWait_frame) | extract_lets | split
    | (dsimp -zeta only) | (dsimp +zetaDelta -zeta only)

theorem configFromHost_frame {m : Nat} {s0 s : State} (hm : sub 0x19FFFFD37 m = true) (h : Frame m s0 s) (fails : List (Nat × Nat)) :
    Frame m s0 (configFromHost s fails) := by
  unfold configFromHost
  repeat' first
    | (with_reducible assumption) | (exact sub_trans rfl hm) | intro _ | (with_reducible apply Frame.ite)
    | (with_reducible apply Frame.ite_fst) | (with_reducible apply commitImage_frame)
    | (with_reducible apply State.putUpd_frame) | (with_reducible apply configWait_frame)
    | (with_reducible apply configRejected_frame) | extract_lets | split | (dsimp -zeta only) | (dsimp +zetaDelta -zeta only)

end Sys2Proof.Machine
end

