-- ==== Sys2Proof/Laws/FrameQueues.lean ====
section
/-!
SUPPORT. Which components the operations of Machine/Queues.lean may change (`Frame`).
-/

namespace Sys2Proof.Machine

set_option linter.unusedVariables false
set_option linter.unusedTactic false
set_option linter.unreachableTactic false

theorem queueViews_frame {m : Nat} {s0 s : State} (hm : sub 0x800001 m = true) (h : Frame m s0 s) (q : Nat) :
    Frame m s0 (queueViews s q) := by
  unfold queueViews
  repeat' first
    | (with_reducible assumption) | (exact sub_trans rfl hm) | intro _ | (with_reducible apply Frame.ite)
    | (with_reducible apply Frame.ite_fst) | (with_reducible apply mailChanged_frame) | extract_lets | split
    | (dsimp -zeta only) | (dsimp +zetaDelta -zeta only)

theorem execQueueItemWrite_frame {m : Nat} {s0 s : State} (hm : sub 0x840001 m = true) (h : Frame m s0 s) (queue lane words : Nat) (poison : List Nat) (tag : Nat) (data : List Byte) :
    OutFrame m s0 (execQueueItemWrite queue lane words poison tag data s) := by
  unfold execQueueItemWrite
  repeat' first
    | (with_reducible assumption) | (exact sub_trans rfl hm) | intro _ | (with_reducible apply OutFrame.next)
    | (with_reducible apply OutFrame.ite) | (with_reducible apply Frame.ite) | (with_reducible apply Frame.ite_fst)
    | (with_reducible apply queueViews_frame) | (with_reducible apply pushItem_frame) | extract_lets | split
    | (dsimp -zeta only) | (dsimp +zetaDelta -zeta only)

theorem admitOne_frame {m : Nat} {s0 s : State} (hm : sub 0x40001 m = true) (h : Frame m s0 s) (q : Nat) :
    Frame m s0 (admitOne s q) := by
  unfold admitOne
  repeat' first
    | (with_reducible assumption) | (exact sub_trans rfl hm) | intro _ | (with_reducible apply countReceived_frame)
    | (with_reducible apply putQueue_frame) | extract_lets | split | (dsimp -zeta only) | (dsimp +zetaDelta -zeta only)

theorem execQueueRoomAvailable_frame {m : Nat} {s0 s : State} (hm : sub 0x840001 m = true) (h : Frame m s0 s) (queue : Nat) :
    OutFrame m s0 (execQueueRoomAvailable queue s) := by
  unfold execQueueRoomAvailable
  repeat' first
    | (with_reducible assumption) | (exact sub_trans rfl hm) | intro _ | (with_reducible apply OutFrame.next)
    | (with_reducible apply OutFrame.ite) | (with_reducible apply Frame.ite) | (with_reducible apply Frame.ite_fst)
    | (with_reducible apply queueViews_frame) | (with_reducible apply admitOne_frame) | extract_lets | split
    | (dsimp -zeta only) | (dsimp +zetaDelta -zeta only)

theorem underrun_frame {m : Nat} {s0 s : State} (hm : sub 0x1 m = true) (h : Frame m s0 s) (q : Nat) :
    Frame m s0 (underrun s q) := by
  unfold underrun
  repeat' first
    | (with_reducible assumption) | (exact sub_trans rfl hm) | intro _ | (with_reducible apply State.set_frame)
    | (with_reducible apply State.bump_frame) | extract_lets | split | (dsimp -zeta only) | (dsimp +zetaDelta -zeta only)

theorem portItem_frame {m : Nat} {s0 s : State} (hm : sub 0x180C60021 m = true) (h : Frame m s0 s) (q lane : Nat) (i : QueueItem) :
    Frame m s0 (portItem s q lane i) := by
  unfold portItem
  repeat' first
    | (with_reducible assumption) | (exact sub_trans rfl hm) | intro _ | (with_reducible apply Frame.ite)
    | (with_reducible apply Frame.ite_fst) | (with_reducible apply egress_frame) | (with_reducible apply State.bump_frame)
    | extract_lets | split | (dsimp -zeta only) | (dsimp +zetaDelta -zeta only)

theorem execQueueItemRead_frame {m : Nat} {s0 s : State} (hm : sub 0x186D70027 m = true) (h : Frame m s0 s) (queue : Nat) :
    OutFrame m s0 (execQueueItemRead queue s) := by
  unfold execQueueItemRead
  repeat' first
    | (with_reducible assumption) | (exact sub_trans rfl hm) | intro _ | (with_reducible apply OutFrame.next)
    | (with_reducible apply OutFrame.ite) | (with_reducible apply Frame.ite) | (with_reducible apply Frame.ite_fst)
    | (with_reducible apply popItem_frame) | (with_reducible apply underrun_frame) | (with_reducible apply queueViews_frame)
    | (with_reducible apply consumeTag_frame) | (with_reducible apply hbItemTaken_frame) | (with_reducible apply portItem_frame)
    | (with_reducible refine Frame.of_pair (by assumption) ?_) | extract_lets | split | (dsimp -zeta only)
    | (dsimp +zetaDelta -zeta only)

theorem closingWord_frame {m : Nat} {s0 s : State} (hm : sub 0x186950021 m = true) (h : Frame m s0 s) (q : Nat) :
    Frame m s0 (closingWord s q) := by
  unfold closingWord
  repeat' first
    | (with_reducible assumption) | (exact sub_trans rfl hm) | intro _ | (with_reducible apply Frame.ite)
    | (with_reducible apply Frame.ite_fst) | (with_reducible apply consumeTag_frame) | (with_reducible apply State.set_frame)
    | extract_lets | split | (dsimp -zeta only) | (dsimp +zetaDelta -zeta only)

theorem resetQueue_frame {m : Nat} {s0 s : State} (hm : sub 0x186950021 m = true) (h : Frame m s0 s) (q : Nat) (byWriter : Bool) (held : Nat) :
    Frame m s0 (resetQueue s q byWriter held) := by
  unfold resetQueue
  repeat' first
    | (with_reducible assumption) | (exact sub_trans rfl hm) | intro _ | (with_reducible apply Frame.ite)
    | (with_reducible apply Frame.ite_fst) | (with_reducible apply closingWord_frame) | (with_reducible apply queueViews_frame)
    | (with_reducible apply putQueue_frame) | (with_reducible apply State.set_frame) | extract_lets | split | (dsimp -zeta only)
    | (dsimp +zetaDelta -zeta only)

theorem execQueuePointerMismatch_frame {m : Nat} {s0 s : State} (hm : sub 0x186950021 m = true) (h : Frame m s0 s) (queue : Nat) (byWriter : Bool) (held : Nat) :
    OutFrame m s0 (execQueuePointerMismatch queue byWriter held s) := by
  unfold execQueuePointerMismatch
  repeat' first
    | (with_reducible assumption) | (exact sub_trans rfl hm) | intro _ | (with_reducible apply OutFrame.next)
    | (with_reducible apply OutFrame.ite) | (with_reducible apply resetQueue_frame) | extract_lets | split | (dsimp -zeta only)
    | (dsimp +zetaDelta -zeta only)

theorem execQueueTestForce_frame {m : Nat} {s0 s : State} (hm : sub 0x186950021 m = true) (h : Frame m s0 s) (queue held : Nat) :
    OutFrame m s0 (execQueueTestForce queue held s) := by
  unfold execQueueTestForce
  repeat' first
    | (with_reducible assumption) | (exact sub_trans rfl hm) | intro _ | (with_reducible apply OutFrame.next)
    | (with_reducible apply OutFrame.ite) | (with_reducible apply resetQueue_frame) | extract_lets | split | (dsimp -zeta only)
    | (dsimp +zetaDelta -zeta only)

theorem execQueueResetDone_frame {m : Nat} {s0 s : State} (hm : sub 0x186950021 m = true) (h : Frame m s0 s) (queue : Nat) :
    OutFrame m s0 (execQueueResetDone queue s) := by
  unfold execQueueResetDone
  repeat' first
    | (with_reducible assumption) | (exact sub_trans rfl hm) | intro _ | (with_reducible apply OutFrame.next)
    | (with_reducible apply OutFrame.ite) | (with_reducible apply Frame.ite) | (with_reducible apply Frame.ite_fst)
    | (with_reducible apply consumeTag_frame) | (with_reducible apply putQueue_frame) | (with_reducible apply State.set_frame)
    | (with_reducible apply State.bump_frame) | (with_reducible apply State.bumpBy_frame)
    | (with_reducible apply postEvent_frame) | (with_reducible apply queueViews_frame) | (with_reducible apply admitOne_frame)
    | (with_reducible apply Frame.fold) | extract_lets | split | (dsimp -zeta only) | (dsimp +zetaDelta -zeta only)

end Sys2Proof.Machine
end

