-- ==== Sys2Proof/Laws/FrameCores.lean ====
section
/-!
SUPPORT. Which components the operations of Machine/Cores.lean may change (`Frame`).
-/

namespace Sys2Proof.Machine

set_option linter.unusedVariables false
set_option linter.unusedTactic false
set_option linter.unreachableTactic false

theorem execCpuWdogWarn_frame {m : Nat} {s0 s : State} (hm : sub 0x80840021 m = true) (h : Frame m s0 s) (core : Nat) :
    OutFrame m s0 (execCpuWdogWarn core s) := by
  unfold execCpuWdogWarn
  repeat' first
    | (with_reducible assumption) | (exact sub_trans rfl hm) | intro _ | (with_reducible apply OutFrame.next)
    | (with_reducible apply OutFrame.ite) | (with_reducible apply Frame.ite) | (with_reducible apply Frame.ite_fst)
    | (with_reducible apply postEvent_frame) | extract_lets | split | (dsimp -zeta only) | (dsimp +zetaDelta -zeta only)

theorem execCpuWdogExpiry_frame {m : Nat} {s0 s : State} (hm : sub 0x18FDF5123 m = true) (h : Frame m s0 s) (core : Nat) :
    OutFrame m s0 (execCpuWdogExpiry core s) := by
  unfold execCpuWdogExpiry
  repeat' first
    | (with_reducible assumption) | (exact sub_trans rfl hm) | intro _ | (with_reducible apply OutFrame.next)
    | (with_reducible apply OutFrame.ite) | (with_reducible apply Frame.ite) | (with_reducible apply Frame.ite_fst)
    | (with_reducible apply setCpu_frame) | (with_reducible apply State.bump_frame) | (with_reducible apply State.putCpus_frame)
    | (with_reducible apply postEvent_frame) | (with_reducible apply healthFails_frame)
    | (with_reducible apply warmRestart_frame) | (with_reducible apply State.drew_frame) | extract_lets | split
    | (dsimp -zeta only) | (dsimp +zetaDelta -zeta only)

theorem execControlCoreRestartDone_frame {m : Nat} {s0 s : State} (hm : sub 0x1000001 m = true) (h : Frame m s0 s) (core : Nat) :
    OutFrame m s0 (execControlCoreRestartDone core s) := by
  unfold execControlCoreRestartDone
  repeat' first
    | (with_reducible assumption) | (exact sub_trans rfl hm) | intro _ | (with_reducible apply OutFrame.next)
    | (with_reducible apply OutFrame.ite) | (with_reducible apply Frame.ite) | (with_reducible apply Frame.ite_fst)
    | (with_reducible apply setCpu_frame) | extract_lets | split | (dsimp -zeta only) | (dsimp +zetaDelta -zeta only)

theorem execAppAccessFault_frame {m : Nat} {s0 s : State} (hm : sub 0x800001 m = true) (h : Frame m s0 s) (kind addr : Nat) (parity : Bool) :
    OutFrame m s0 (execAppAccessFault kind addr parity s) := by
  unfold execAppAccessFault
  repeat' first
    | (with_reducible assumption) | (exact sub_trans rfl hm) | intro _ | (with_reducible apply OutFrame.next)
    | (with_reducible apply OutFrame.ite) | (with_reducible apply Frame.ite) | (with_reducible apply Frame.ite_fst)
    | (with_reducible apply State.putApp_frame) | (with_reducible apply State.bump_frame) | extract_lets | split
    | (dsimp -zeta only) | (dsimp +zetaDelta -zeta only)

theorem postHalt_frame {m : Nat} {s0 s : State} (hm : sub 0x80840021 m = true) (h : Frame m s0 s) (cause : Nat) :
    Frame m s0 (postHalt s cause) := by
  unfold postHalt
  repeat' first
    | (with_reducible assumption) | (exact sub_trans rfl hm) | intro _ | (with_reducible apply postEvent_frame) | extract_lets
    | split | (dsimp -zeta only) | (dsimp +zetaDelta -zeta only)

theorem execAppDoubleFault_frame {m : Nat} {s0 s : State} (hm : sub 0x8C8C0021 m = true) (h : Frame m s0 s) :
    OutFrame m s0 (execAppDoubleFault s) := by
  unfold execAppDoubleFault
  repeat' first
    | (with_reducible assumption) | (exact sub_trans rfl hm) | intro _ | (with_reducible apply OutFrame.next)
    | (with_reducible apply OutFrame.ite) | (with_reducible apply Frame.ite) | (with_reducible apply Frame.ite_fst)
    | (with_reducible apply healthFails_frame) | (with_reducible apply postHalt_frame) | (with_reducible apply State.set_frame)
    | extract_lets | split | (dsimp -zeta only) | (dsimp +zetaDelta -zeta only)

theorem execAppHold_frame {m : Nat} {s0 s : State} (hm : sub 0x808C0021 m = true) (h : Frame m s0 s) (q : Requester) :
    OutFrame m s0 (execAppHold q s) := by
  unfold execAppHold
  repeat' first
    | (with_reducible assumption) | (exact sub_trans rfl hm) | intro _ | (with_reducible apply OutFrame.next)
    | (with_reducible apply OutFrame.ite) | (with_reducible apply Frame.ite) | (with_reducible apply Frame.ite_fst)
    | (with_reducible apply postHalt_frame) | (with_reducible apply resetApp_frame) | (with_reducible apply State.set_frame)
    | extract_lets | split | (dsimp -zeta only) | (dsimp +zetaDelta -zeta only)

theorem execAppRelease_frame {m : Nat} {s0 s : State} (hm : sub 0x800001 m = true) (h : Frame m s0 s) (q : Requester) :
    OutFrame m s0 (execAppRelease q s) := by
  unfold execAppRelease
  repeat' first
    | (with_reducible assumption) | (exact sub_trans rfl hm) | intro _ | (with_reducible apply OutFrame.next)
    | (with_reducible apply OutFrame.ite) | (with_reducible apply Frame.ite) | (with_reducible apply Frame.ite_fst)
    | (with_reducible apply State.set_frame) | (with_reducible apply State.putApp_frame)
    | (with_reducible apply reloadApp_frame) | extract_lets | split | (dsimp -zeta only) | (dsimp +zetaDelta -zeta only)

theorem execAppReloadDone_frame {m : Nat} {s0 s : State} (hm : sub 0x800001 m = true) (h : Frame m s0 s) (readOk : Bool) :
    OutFrame m s0 (execAppReloadDone readOk s) := by
  unfold execAppReloadDone
  repeat' first
    | (with_reducible assumption) | (exact sub_trans rfl hm) | intro _ | (with_reducible apply OutFrame.next)
    | (with_reducible apply OutFrame.ite) | (with_reducible apply Frame.ite) | (with_reducible apply Frame.ite_fst)
    | (with_reducible apply releaseApp_frame) | (with_reducible apply loadApp_frame) | (with_reducible apply State.putApp_frame)
    | extract_lets | split | (dsimp -zeta only) | (dsimp +zetaDelta -zeta only)

theorem execAppWdogKick_frame {m : Nat} {s0 s : State} (hm : sub 0x800001 m = true) (h : Frame m s0 s) (q : Requester) (v : Nat) :
    OutFrame m s0 (execAppWdogKick q v s) := by
  unfold execAppWdogKick
  repeat' first
    | (with_reducible assumption) | (exact sub_trans rfl hm) | intro _ | (with_reducible apply OutFrame.next)
    | (with_reducible apply OutFrame.ite) | (with_reducible apply Frame.ite) | (with_reducible apply Frame.ite_fst)
    | (with_reducible apply restartWdog_frame) | (with_reducible apply State.bump_frame) | extract_lets | split
    | (dsimp -zeta only) | (dsimp +zetaDelta -zeta only)

theorem execAppWdogHalf_frame {m : Nat} {s0 s : State} (hm : sub 0xC08C0021 m = true) (h : Frame m s0 s) :
    OutFrame m s0 (execAppWdogHalf s) := by
  unfold execAppWdogHalf
  repeat' first
    | (with_reducible assumption) | (exact sub_trans rfl hm) | intro _ | (with_reducible apply OutFrame.next)
    | (with_reducible apply OutFrame.ite) | (with_reducible apply Frame.ite) | (with_reducible apply Frame.ite_fst)
    | (with_reducible apply State.reach_frame) | (with_reducible apply postEvent_frame) | (with_reducible apply aicLevel_frame)
    | (with_reducible apply State.set_frame) | extract_lets | split | (dsimp -zeta only) | (dsimp +zetaDelta -zeta only)

theorem execAppWdogExpiry_frame {m : Nat} {s0 s : State} (hm : sub 0xCC8C0021 m = true) (h : Frame m s0 s) :
    OutFrame m s0 (execAppWdogExpiry s) := by
  unfold execAppWdogExpiry
  repeat' first
    | (with_reducible assumption) | (exact sub_trans rfl hm) | intro _ | (with_reducible apply OutFrame.next)
    | (with_reducible apply OutFrame.ite) | (with_reducible apply Frame.ite) | (with_reducible apply Frame.ite_fst)
    | (with_reducible apply State.reach_frame) | (with_reducible apply restartWdog_frame)
    | (with_reducible apply resetApp_frame) | (with_reducible apply State.putApp_frame) | (with_reducible apply postEvent_frame)
    | (with_reducible apply State.set_frame) | (with_reducible apply postHalt_frame) | (with_reducible apply reloadApp_frame)
    | (with_reducible apply healthFails_frame) | extract_lets | split | (dsimp -zeta only) | (dsimp +zetaDelta -zeta only)

theorem execMbTxPush_frame {m : Nat} {s0 s : State} (hm : sub 0x840001 m = true) (h : Frame m s0 s) (endWord : Bool) :
    OutFrame m s0 (execMbTxPush endWord s) := by
  unfold execMbTxPush
  repeat' first
    | (with_reducible assumption) | (exact sub_trans rfl hm) | intro _ | (with_reducible apply OutFrame.next)
    | (with_reducible apply OutFrame.ite) | (with_reducible apply Frame.ite) | (with_reducible apply Frame.ite_fst)
    | (with_reducible apply queueViews_frame) | (with_reducible apply putQueue_frame) | (with_reducible apply State.set_frame)
    | (with_reducible apply State.putApp_frame) | extract_lets | split | (dsimp -zeta only) | (dsimp +zetaDelta -zeta only)

theorem execMbRxPop_frame {m : Nat} {s0 s : State} (hm : sub 0x840001 m = true) (h : Frame m s0 s) :
    OutFrame m s0 (execMbRxPop s) := by
  unfold execMbRxPop
  repeat' first
    | (with_reducible assumption) | (exact sub_trans rfl hm) | intro _ | (with_reducible apply OutFrame.next)
    | (with_reducible apply OutFrame.ite) | (with_reducible apply Frame.ite) | (with_reducible apply Frame.ite_fst)
    | (with_reducible apply underrun_frame) | (with_reducible apply State.set_frame) | (with_reducible apply putQueue_frame)
    | (with_reducible apply popItem_frame) | (with_reducible apply queueViews_frame)
    | (with_reducible refine Frame.of_pair (by assumption) ?_) | extract_lets | split | (dsimp -zeta only)
    | (dsimp +zetaDelta -zeta only)

theorem takeRequest_frame {m : Nat} {s0 s t : State} {mine : Nat → Bool} {b : List Byte} (hm : sub 0x840001 m = true) (h : Frame m s0 s)
    (e : takeRequest s mine = some (t, b)) : Frame m s0 t := by
  unfold takeRequest at e
  split at e
  · cases e
  · split at e
    · cases e
      exact queueViews_frame (sub_trans rfl hm) (popItem_frame (sub_trans rfl hm) h _) _
    · cases e

theorem replyMail_frame {m0 : Nat} {s0 s : State} (hm : sub 0x840001 m0 = true) (h : Frame m0 s0 s) (m : List Byte) (status : Nat) (pl : List Byte) :
    Frame m0 s0 (replyMail s m status pl) := by
  unfold replyMail
  repeat' first
    | (with_reducible assumption) | (exact sub_trans rfl hm) | intro _ | (with_reducible apply queueViews_frame)
    | (with_reducible apply pushItem_frame) | extract_lets | split | (dsimp -zeta only) | (dsimp +zetaDelta -zeta only)

theorem execMbEcho_frame {m : Nat} {s0 s : State} (hm : sub 0x840001 m = true) (h : Frame m s0 s) :
    OutFrame m s0 (execMbEcho s) := by
  unfold execMbEcho
  repeat' first
    | (with_reducible assumption) | (exact sub_trans rfl hm) | intro _ | (with_reducible apply OutFrame.next)
    | (with_reducible apply OutFrame.ite) | (with_reducible apply Frame.ite) | (with_reducible apply Frame.ite_fst)
    | (with_reducible apply replyMail_frame) | (with_reducible exact takeRequest_frame (sub_trans rfl hm) h ‹_›) | extract_lets
    | split | (dsimp -zeta only) | (dsimp +zetaDelta -zeta only)

theorem execMbEventSubscription_frame {m : Nat} {s0 s : State} (hm : sub 0x840001 m = true) (h : Frame m s0 s) :
    OutFrame m s0 (execMbEventSubscription s) := by
  unfold execMbEventSubscription
  repeat' first
    | (with_reducible assumption) | (exact sub_trans rfl hm) | intro _ | (with_reducible apply OutFrame.next)
    | (with_reducible apply OutFrame.ite) | (with_reducible apply replyMail_frame) | (with_reducible apply State.putApp_frame)
    | (with_reducible exact takeRequest_frame (sub_trans rfl hm) h ‹_›) | extract_lets | split | (dsimp -zeta only)
    | (dsimp +zetaDelta -zeta only)

theorem execMbNodeLineRead_frame {m : Nat} {s0 s : State} (hm : sub 0x840001 m = true) (h : Frame m s0 s) :
    OutFrame m s0 (execMbNodeLineRead s) := by
  unfold execMbNodeLineRead
  repeat' first
    | (with_reducible assumption) | (exact sub_trans rfl hm) | intro _ | (with_reducible apply OutFrame.next)
    | (with_reducible apply OutFrame.ite) | (with_reducible apply Frame.ite) | (with_reducible apply Frame.ite_fst)
    | (with_reducible apply replyMail_frame) | (with_reducible exact takeRequest_frame (sub_trans rfl hm) h ‹_›) | extract_lets
    | split | (dsimp -zeta only) | (dsimp +zetaDelta -zeta only)

theorem execMbTimebase_frame {m : Nat} {s0 s : State} (hm : sub 0x840001 m = true) (h : Frame m s0 s) :
    OutFrame m s0 (execMbTimebase s) := by
  unfold execMbTimebase
  repeat' first
    | (with_reducible assumption) | (exact sub_trans rfl hm) | intro _ | (with_reducible apply OutFrame.next)
    | (with_reducible apply OutFrame.ite) | (with_reducible apply replyMail_frame)
    | (with_reducible exact takeRequest_frame (sub_trans rfl hm) h ‹_›) | extract_lets | split | (dsimp -zeta only)
    | (dsimp +zetaDelta -zeta only)

end Sys2Proof.Machine
end

