-- ==== Sys2Proof/Laws/FrameDrift.lean ====
section
/-!
SUPPORT. Which components the operations of Machine/Drift.lean may change (`Frame`).
-/

namespace Sys2Proof.Machine

set_option linter.unusedVariables false
set_option linter.unusedTactic false
set_option linter.unreachableTactic false

theorem execDriftObservation_frame {m : Nat} {s0 s : State} (hm : sub 0x18697E021 m = true) (h : Frame m s0 s) :
    OutFrame m s0 (execDriftObservation s) := by
  unfold execDriftObservation
  repeat' first
    | (with_reducible assumption) | (exact sub_trans rfl hm) | intro _ | (with_reducible apply OutFrame.next)
    | (with_reducible apply OutFrame.ite) | (with_reducible apply fitObservation_frame)
    | (with_reducible apply State.putDrift_frame) | extract_lets | split | (dsimp -zeta only) | (dsimp +zetaDelta -zeta only)

theorem execModelAgeExpiry_frame {m : Nat} {s0 s : State} (hm : sub 0x18697E021 m = true) (h : Frame m s0 s) (node : Nat) :
    OutFrame m s0 (execModelAgeExpiry node s) := by
  unfold execModelAgeExpiry
  repeat' first
    | (with_reducible assumption) | (exact sub_trans rfl hm) | intro _ | (with_reducible apply OutFrame.next)
    | (with_reducible apply OutFrame.ite) | (with_reducible apply Frame.ite) | (with_reducible apply Frame.ite_fst)
    | (with_reducible apply invalidate_frame) | extract_lets | split | (dsimp -zeta only) | (dsimp +zetaDelta -zeta only)

theorem execWakeSetTarget_frame {m : Nat} {s0 s : State} (hm : sub 0x18697E021 m = true) (h : Frame m s0 s) (node k : Nat) :
    OutFrame m s0 (execWakeSetTarget node k s) := by
  unfold execWakeSetTarget
  repeat' first
    | (with_reducible assumption) | (exact sub_trans rfl hm) | intro _ | (with_reducible apply OutFrame.next)
    | (with_reducible apply OutFrame.ite) | (with_reducible apply Frame.ite) | (with_reducible apply Frame.ite_fst)
    | (with_reducible apply State.set_frame) | (with_reducible apply State.putDrift_frame)
    | (with_reducible apply considerAgreement_frame) | extract_lets | split | (dsimp -zeta only) | (dsimp +zetaDelta -zeta only)

theorem execWakeResetModel_frame {m : Nat} {s0 s : State} (hm : sub 0x18697E021 m = true) (h : Frame m s0 s) (node : Nat) :
    OutFrame m s0 (execWakeResetModel node s) := by
  unfold execWakeResetModel
  repeat' first
    | (with_reducible assumption) | (exact sub_trans rfl hm) | intro _ | (with_reducible apply OutFrame.next)
    | (with_reducible apply OutFrame.ite) | (with_reducible apply Frame.ite) | (with_reducible apply Frame.ite_fst)
    | (with_reducible apply State.set_frame) | (with_reducible apply setFit_frame) | (with_reducible apply setLineField_frame)
    | (with_reducible apply State.bump_frame) | (with_reducible apply considerAgreement_frame) | extract_lets | split
    | (dsimp -zeta only) | (dsimp +zetaDelta -zeta only)

theorem trackMiss_frame {m : Nat} {s0 s : State} (hm : sub 0x80848021 m = true) (h : Frame m s0 s) (frame : Nat) :
    Frame m s0 (trackMiss s frame) := by
  unfold trackMiss
  repeat' first
    | (with_reducible assumption) | (exact sub_trans rfl hm) | intro _ | (with_reducible apply Frame.ite)
    | (with_reducible apply Frame.ite_fst) | (with_reducible apply State.putDrift_frame)
    | (with_reducible apply State.bump_frame) | (with_reducible apply postEvent_frame) | (with_reducible apply State.set_frame)
    | extract_lets | split | (dsimp -zeta only) | (dsimp +zetaDelta -zeta only)

theorem acceptBeacon_frame {m : Nat} {s0 s : State} (hm : sub 0x80848021 m = true) (h : Frame m s0 s) (asn tPoll first : Nat) :
    Frame m s0 (acceptBeacon s asn tPoll first) := by
  unfold acceptBeacon
  repeat' first
    | (with_reducible assumption) | (exact sub_trans rfl hm) | intro _ | (with_reducible apply Frame.ite)
    | (with_reducible apply Frame.ite_fst) | (with_reducible apply State.setI_frame)
    | (with_reducible apply State.putDrift_frame) | (with_reducible apply State.set_frame)
    | (with_reducible apply State.bump_frame) | (with_reducible apply postEvent_frame) | extract_lets | split
    | (dsimp -zeta only) | (dsimp +zetaDelta -zeta only)

theorem execPeerBeaconRx_frame {m : Nat} {s0 s : State} (hm : sub 0x80848021 m = true) (h : Frame m s0 s) (cluster : Nat) :
    OutFrame m s0 (execPeerBeaconRx cluster s) := by
  unfold execPeerBeaconRx
  repeat' first
    | (with_reducible assumption) | (exact sub_trans rfl hm) | intro _ | (with_reducible apply OutFrame.next)
    | (with_reducible apply OutFrame.ite) | (with_reducible apply Frame.ite) | (with_reducible apply Frame.ite_fst)
    | (with_reducible apply dropReport_frame) | (with_reducible apply State.bump_frame) | (with_reducible apply trackMiss_frame)
    | (with_reducible apply acceptBeacon_frame) | extract_lets | split | (dsimp -zeta only) | (dsimp +zetaDelta -zeta only)

theorem execTrackSlotframeMiss_frame {m : Nat} {s0 s : State} (hm : sub 0x80848021 m = true) (h : Frame m s0 s) :
    OutFrame m s0 (execTrackSlotframeMiss s) := by
  unfold execTrackSlotframeMiss
  repeat' first
    | (with_reducible assumption) | (exact sub_trans rfl hm) | intro _ | (with_reducible apply OutFrame.next)
    | (with_reducible apply OutFrame.ite) | (with_reducible apply Frame.ite) | (with_reducible apply Frame.ite_fst)
    | (with_reducible apply trackMiss_frame) | extract_lets | split | (dsimp -zeta only) | (dsimp +zetaDelta -zeta only)

end Sys2Proof.Machine
end

