-- ==== Sys2Proof/Laws/FrameEngines.lean ====
section
/-!
SUPPORT. Which components the operations of Machine/Engines.lean may change (`Frame`).
-/

namespace Sys2Proof.Machine

set_option linter.unusedVariables false
set_option linter.unusedTactic false
set_option linter.unreachableTactic false

theorem execAssignmentRecord_frame {m : Nat} {s0 s : State} (hm : sub 0x80844921 m = true) (h : Frame m s0 s) (engine : Nat) :
    OutFrame m s0 (execAssignmentRecord engine s) := by
  unfold execAssignmentRecord
  repeat' first
    | (with_reducible assumption) | (exact sub_trans rfl hm) | intro _ | (with_reducible apply OutFrame.next)
    | (with_reducible apply OutFrame.ite) | (with_reducible apply Frame.ite) | (with_reducible apply Frame.ite_fst)
    | (with_reducible apply giveLoad_frame) | (with_reducible apply State.putPsm_frame)
    | (with_reducible apply calPreempt_frame) | (with_reducible apply viewTone_frame) | extract_lets | split
    | (dsimp -zeta only) | (dsimp +zetaDelta -zeta only)

theorem execPreambleDetect_frame {m : Nat} {s0 s : State} (hm : sub 0x104000801 m = true) (h : Frame m s0 s) (engine rhoA rhoB : Nat) (hypothesis : Int) :
    OutFrame m s0 (execPreambleDetect engine rhoA rhoB hypothesis s) := by
  unfold execPreambleDetect
  repeat' first
    | (with_reducible assumption) | (exact sub_trans rfl hm) | intro _ | (with_reducible apply OutFrame.next)
    | (with_reducible apply OutFrame.ite) | (with_reducible apply Frame.ite) | (with_reducible apply Frame.ite_fst)
    | (with_reducible apply State.set_frame) | (with_reducible apply State.bump_frame)
    | (with_reducible apply State.setCe_frame) | (with_reducible apply markMirror_frame) | extract_lets | split
    | (dsimp -zeta only) | (dsimp +zetaDelta -zeta only)

theorem execFalseDetection_frame {m : Nat} {s0 s : State} (hm : sub 0x80840821 m = true) (h : Frame m s0 s) (engine : Nat) :
    OutFrame m s0 (execFalseDetection engine s) := by
  unfold execFalseDetection
  repeat' first
    | (with_reducible assumption) | (exact sub_trans rfl hm) | intro _ | (with_reducible apply OutFrame.next)
    | (with_reducible apply OutFrame.ite) | (with_reducible apply Frame.ite) | (with_reducible apply Frame.ite_fst)
    | (with_reducible apply State.bump_frame) | (with_reducible apply backToSearch_frame)
    | (with_reducible apply State.setCe_frame) | extract_lets | split | (dsimp -zeta only) | (dsimp +zetaDelta -zeta only)

theorem execFalseDetSecond_frame {m : Nat} {s0 s : State} (hm : sub 0x80840821 m = true) (h : Frame m s0 s) (cluster : Nat) :
    OutFrame m s0 (execFalseDetSecond cluster s) := by
  unfold execFalseDetSecond
  repeat' first
    | (with_reducible assumption) | (exact sub_trans rfl hm) | intro _ | (with_reducible apply OutFrame.next)
    | (with_reducible apply OutFrame.ite) | (with_reducible apply Frame.ite) | (with_reducible apply Frame.ite_fst)
    | (with_reducible apply State.setCe_frame) | (with_reducible apply postEvent_frame) | (with_reducible apply State.set_frame)
    | (with_reducible apply Frame.fold) | (with_reducible apply Frame.foldl_fst) | extract_lets | split | (dsimp -zeta only)
    | (dsimp +zetaDelta -zeta only)

theorem execAntennaDecision_frame {m : Nat} {s0 s : State} (hm : sub 0x800 m = true) (h : Frame m s0 s) (engine metricA metricB : Nat) :
    OutFrame m s0 (execAntennaDecision engine metricA metricB s) := by
  unfold execAntennaDecision
  repeat' first
    | (with_reducible assumption) | (exact sub_trans rfl hm) | intro _ | (with_reducible apply OutFrame.next)
    | (with_reducible apply OutFrame.ite) | (with_reducible apply Frame.ite) | (with_reducible apply Frame.ite_fst)
    | (with_reducible apply State.setCe_frame) | extract_lets | split | (dsimp -zeta only) | (dsimp +zetaDelta -zeta only)

theorem execSfdDetect_frame {m : Nat} {s0 s : State} (hm : sub 0x40080801 m = true) (h : Frame m s0 s) (engine time : Nat) (estimate : Int) :
    OutFrame m s0 (execSfdDetect engine time estimate s) := by
  unfold execSfdDetect
  repeat' first
    | (with_reducible assumption) | (exact sub_trans rfl hm) | intro _ | (with_reducible apply OutFrame.next)
    | (with_reducible apply OutFrame.ite) | (with_reducible apply Frame.ite) | (with_reducible apply Frame.ite_fst)
    | (with_reducible apply State.advanceTo_frame) | (with_reducible apply State.set_frame)
    | (with_reducible apply viewLag_frame) | (with_reducible apply State.setCe_frame) | extract_lets | split
    | (dsimp -zeta only) | (dsimp +zetaDelta -zeta only)

theorem execPhrDecode_frame {m : Nat} {s0 s : State} (hm : sub 0x80840821 m = true) (h : Frame m s0 s) (engine header len : Nat) (fcs4 reserved modeSwitch hcsOk : Bool) (mcs : Nat) :
    OutFrame m s0 (execPhrDecode engine header len fcs4 reserved modeSwitch hcsOk mcs s) := by
  unfold execPhrDecode
  repeat' first
    | (with_reducible assumption) | (exact sub_trans rfl hm) | intro _ | (with_reducible apply OutFrame.next)
    | (with_reducible apply OutFrame.ite) | (with_reducible apply Frame.ite) | (with_reducible apply Frame.ite_fst)
    | (with_reducible apply State.setCe_frame) | (with_reducible apply backToSearch_frame)
    | (with_reducible apply State.bump_frame) | extract_lets | split | (dsimp -zeta only) | (dsimp +zetaDelta -zeta only)

theorem execFrameEnd_frame {m : Nat} {s0 s : State} (hm : sub 0x80840921 m = true) (h : Frame m s0 s) (engine : Nat) (psdu : List Byte) (fcsOk saturated : Bool) (power snr residual : Int) (snrs : List Int) (nulls : Int) (image : List Int) :
    OutFrame m s0 (execFrameEnd engine psdu fcsOk saturated power snr residual snrs nulls image s) := by
  unfold execFrameEnd
  repeat' first
    | (with_reducible assumption) | (exact sub_trans rfl hm) | intro _ | (with_reducible apply OutFrame.next)
    | (with_reducible apply OutFrame.ite) | (with_reducible apply Frame.ite) | (with_reducible apply Frame.ite_fst)
    | (with_reducible apply backToSearch_frame) | (with_reducible apply State.bump_frame)
    | (with_reducible apply State.set_frame) | (with_reducible apply collectImage_frame) | (with_reducible apply pushItem_frame)
    | extract_lets | split | (dsimp -zeta only) | (dsimp +zetaDelta -zeta only)

theorem execRxqWaitTimeout_frame {m : Nat} {s0 s : State} (hm : sub 0x40001 m = true) (h : Frame m s0 s) (engine : Nat) :
    OutFrame m s0 (execRxqWaitTimeout engine s) := by
  unfold execRxqWaitTimeout
  repeat' first
    | (with_reducible assumption) | (exact sub_trans rfl hm) | intro _ | (with_reducible apply OutFrame.next)
    | (with_reducible apply OutFrame.ite) | (with_reducible apply Frame.ite) | (with_reducible apply Frame.ite_fst)
    | (with_reducible apply putQueue_frame) | (with_reducible apply State.bump_frame) | extract_lets | split
    | (dsimp -zeta only) | (dsimp +zetaDelta -zeta only)

theorem viewWork_frame {m : Nat} {s0 s : State} (hm : sub 0x1 m = true) (h : Frame m s0 s) (te : Nat) (w : WorkItem) :
    Frame m s0 (viewWork s te w) := by
  unfold viewWork
  repeat' first
    | (with_reducible assumption) | (exact sub_trans rfl hm) | intro _ | (with_reducible apply State.set_frame) | extract_lets
    | split | (dsimp -zeta only) | (dsimp +zetaDelta -zeta only)

theorem execTxWorkItem_frame {m : Nat} {s0 s : State} (hm : sub 0x106175001 m = true) (h : Frame m s0 s) (te handle : Nat) :
    OutFrame m s0 (execTxWorkItem te handle s) := by
  unfold execTxWorkItem
  repeat' first
    | (with_reducible assumption) | (exact sub_trans rfl hm) | intro _ | (with_reducible apply OutFrame.next)
    | (with_reducible apply OutFrame.ite) | (with_reducible apply Frame.ite) | (with_reducible apply Frame.ite_fst)
    | (with_reducible apply State.putPsm_frame) | (with_reducible apply State.setTe_frame)
    | (with_reducible apply teGiveBack_frame) | (with_reducible apply State.bump_frame) | (with_reducible apply viewWork_frame)
    | (with_reducible apply State.set_frame) | extract_lets | split | (dsimp -zeta only) | (dsimp +zetaDelta -zeta only)

theorem execTxFrameEnd_frame {m : Nat} {s0 s : State} (hm : sub 0x1C69F7121 m = true) (h : Frame m s0 s) (te : Nat) :
    OutFrame m s0 (execTxFrameEnd te s) := by
  unfold execTxFrameEnd
  repeat' first
    | (with_reducible assumption) | (exact sub_trans rfl hm) | intro _ | (with_reducible apply OutFrame.next)
    | (with_reducible apply OutFrame.ite) | (with_reducible apply Frame.ite) | (with_reducible apply Frame.ite_fst)
    | (with_reducible apply State.advanceTo_frame) | (with_reducible apply completion_frame)
    | (with_reducible apply State.setTe_frame) | (with_reducible apply State.set_frame)
    | (with_reducible apply State.bump_frame) | (with_reducible apply State.setPath_frame)
    | (with_reducible apply intervalEnds_frame) | (with_reducible apply frameSent_frame) | extract_lets | split
    | (dsimp -zeta only) | (dsimp +zetaDelta -zeta only)

end Sys2Proof.Machine
end

