-- ==== Sys2Proof/Laws/FrameEthernet.lean ====
section
/-!
SUPPORT. Which components the operations of Machine/Ethernet.lean may change (`Frame`).
-/

namespace Sys2Proof.Machine

set_option linter.unusedVariables false
set_option linter.unusedTactic false
set_option linter.unreachableTactic false

theorem ingressIp_frame {m : Nat} {s0 s : State} (hm : sub 0x186F7E027 m = true) (h : Frame m s0 s) (cls : Nat) (data p : List Byte) (stamp came : Nat) :
    Frame m s0 (ingressIp s cls data p stamp came) := by
  unfold ingressIp
  repeat' first
    | (with_reducible assumption) | (exact sub_trans rfl hm) | intro _ | (with_reducible apply Frame.ite)
    | (with_reducible apply Frame.ite_fst) | (with_reducible apply toControlCores_frame)
    | (with_reducible apply State.bump_frame) | (with_reducible apply downlinkPacket_frame) | extract_lets | split
    | (dsimp -zeta only) | (dsimp +zetaDelta -zeta only)

theorem ingressFrame_frame {m : Nat} {s0 s : State} (hm : sub 0x186F7E027 m = true) (h : Frame m s0 s) (e : Nat) (data : List Byte) (stamp came : Nat) :
    Frame m s0 (ingressFrame s e data stamp came) := by
  unfold ingressFrame
  repeat' first
    | (with_reducible assumption) | (exact sub_trans rfl hm) | intro _ | (with_reducible apply Frame.ite)
    | (with_reducible apply Frame.ite_fst) | (with_reducible apply State.bump_frame) | (with_reducible apply ingressIp_frame)
    | (with_reducible apply toControlCores_frame) | extract_lets | split | (dsimp -zeta only) | (dsimp +zetaDelta -zeta only)

theorem execEthIngressFrame_frame {m : Nat} {s0 s : State} (hm : sub 0x1C6FFE027 m = true) (h : Frame m s0 s) (port : Nat) (data : List Byte) (fcsOk : Bool) (latch delay : Nat) :
    OutFrame m s0 (execEthIngressFrame port data fcsOk latch delay s) := by
  unfold execEthIngressFrame
  repeat' first
    | (with_reducible assumption) | (exact sub_trans rfl hm) | intro _ | (with_reducible apply OutFrame.next)
    | (with_reducible apply OutFrame.ite) | (with_reducible apply Frame.ite) | (with_reducible apply Frame.ite_fst)
    | (with_reducible apply State.bump_frame) | (with_reducible apply ingressFrame_frame)
    | (with_reducible apply State.elapse_frame) | extract_lets | split | (dsimp -zeta only) | (dsimp +zetaDelta -zeta only)

theorem execEthPortLinkUp_frame {m : Nat} {s0 s : State} (hm : sub 0x180C60021 m = true) (h : Frame m s0 s) (port : Nat) :
    OutFrame m s0 (execEthPortLinkUp port s) := by
  unfold execEthPortLinkUp
  repeat' first
    | (with_reducible assumption) | (exact sub_trans rfl hm) | intro _ | (with_reducible apply OutFrame.next)
    | (with_reducible apply OutFrame.ite) | (with_reducible apply Frame.ite) | (with_reducible apply Frame.ite_fst)
    | (with_reducible apply State.set_frame) | (with_reducible apply setEthPort_frame)
    | (with_reducible apply startEgress_frame) | (with_reducible apply postEvent_frame) | extract_lets | split
    | (dsimp -zeta only) | (dsimp +zetaDelta -zeta only)

theorem execEthPortLinkDown_frame {m : Nat} {s0 s : State} (hm : sub 0x180C60021 m = true) (h : Frame m s0 s) (port cause : Nat) :
    OutFrame m s0 (execEthPortLinkDown port cause s) := by
  unfold execEthPortLinkDown
  repeat' first
    | (with_reducible assumption) | (exact sub_trans rfl hm) | intro _ | (with_reducible apply OutFrame.next)
    | (with_reducible apply OutFrame.ite) | (with_reducible apply Frame.ite) | (with_reducible apply Frame.ite_fst)
    | (with_reducible apply portDown_frame) | extract_lets | split | (dsimp -zeta only) | (dsimp +zetaDelta -zeta only)

theorem execPreemptVerifyTimeout_frame {m : Nat} {s0 s : State} (hm : sub 0x80C40021 m = true) (h : Frame m s0 s) (port : Nat) :
    OutFrame m s0 (execPreemptVerifyTimeout port s) := by
  unfold execPreemptVerifyTimeout
  repeat' first
    | (with_reducible assumption) | (exact sub_trans rfl hm) | intro _ | (with_reducible apply OutFrame.next)
    | (with_reducible apply OutFrame.ite) | (with_reducible apply Frame.ite) | (with_reducible apply Frame.ite_fst)
    | (with_reducible apply setEthPort_frame) | (with_reducible apply postEvent_frame) | (with_reducible apply State.bump_frame)
    | extract_lets | split | (dsimp -zeta only) | (dsimp +zetaDelta -zeta only)

theorem execPreemptVerifyResponse_frame {m : Nat} {s0 s : State} (hm : sub 0x180C60021 m = true) (h : Frame m s0 s) (port : Nat) :
    OutFrame m s0 (execPreemptVerifyResponse port s) := by
  unfold execPreemptVerifyResponse
  repeat' first
    | (with_reducible assumption) | (exact sub_trans rfl hm) | intro _ | (with_reducible apply OutFrame.next)
    | (with_reducible apply OutFrame.ite) | (with_reducible apply Frame.ite) | (with_reducible apply Frame.ite_fst)
    | (with_reducible apply startEgress_frame) | (with_reducible apply setEthPort_frame)
    | (with_reducible apply State.set_frame) | extract_lets | split | (dsimp -zeta only) | (dsimp +zetaDelta -zeta only)

theorem execReassemblyTimeout_frame {m : Nat} {s0 s : State} (hm : sub 0x40480001 m = true) (h : Frame m s0 s) (node tag size : Nat) :
    OutFrame m s0 (execReassemblyTimeout node tag size s) := by
  unfold execReassemblyTimeout
  repeat' first
    | (with_reducible assumption) | (exact sub_trans rfl hm) | intro _ | (with_reducible apply OutFrame.next)
    | (with_reducible apply OutFrame.ite) | (with_reducible apply freeContext_frame) | (with_reducible apply State.reach_frame)
    | (with_reducible apply State.bump_frame) | extract_lets | split | (dsimp -zeta only) | (dsimp +zetaDelta -zeta only)

theorem execEthEgressFrameDone_frame {m : Nat} {s0 s : State} (hm : sub 0x1C0CE0021 m = true) (h : Frame m s0 s) (port latch : Nat) :
    OutFrame m s0 (execEthEgressFrameDone port latch s) := by
  unfold execEthEgressFrameDone
  repeat' first
    | (with_reducible assumption) | (exact sub_trans rfl hm) | intro _ | (with_reducible apply OutFrame.next)
    | (with_reducible apply OutFrame.ite) | (with_reducible apply Frame.ite) | (with_reducible apply Frame.ite_fst)
    | (with_reducible apply State.reach_frame) | (with_reducible apply accrue_frame) | (with_reducible apply State.putEth_frame)
    | (with_reducible apply startEgress_frame) | (with_reducible apply setEthPort_frame) | extract_lets | split
    | (dsimp -zeta only) | (dsimp +zetaDelta -zeta only)

end Sys2Proof.Machine
end

