-- ==== Sys2Proof/Laws/FrameHostIf.lean ====
section
/-!
SUPPORT. Which components the operations of Machine/HostIf.lean may change (`Frame`).
-/

namespace Sys2Proof.Machine

set_option linter.unusedVariables false
set_option linter.unusedTactic false
set_option linter.unreachableTactic false

theorem resetHost_frame {m : Nat} {s0 s : State} (hm : sub 0xE1 m = true) (h : Frame m s0 s) :
    Frame m s0 (resetHost s) := by
  unfold resetHost
  repeat' first
    | (with_reducible assumption) | (exact sub_trans rfl hm) | intro _ | (with_reducible apply ringToBacklog_frame)
    | (with_reducible apply State.putRegs_frame) | (with_reducible apply State.putHqs_frame)
    | (with_reducible apply State.putEv_frame) | (with_reducible apply State.putPcie_frame)
    | (with_reducible apply State.set_frame) | (with_reducible apply Frame.fold) | extract_lets | split | (dsimp -zeta only)
    | (dsimp +zetaDelta -zeta only)

theorem execPcieReset_frame {m : Nat} {s0 s : State} (hm : sub 0xE1 m = true) (h : Frame m s0 s) (flr : Bool) :
    OutFrame m s0 (execPcieReset flr s) := by
  unfold execPcieReset
  repeat' first
    | (with_reducible assumption) | (exact sub_trans rfl hm) | intro _ | (with_reducible apply OutFrame.next)
    | (with_reducible apply OutFrame.ite) | (with_reducible apply Frame.ite) | (with_reducible apply Frame.ite_fst)
    | (with_reducible apply resetHost_frame) | (with_reducible apply State.putPcie_frame) | extract_lets | split
    | (dsimp -zeta only) | (dsimp +zetaDelta -zeta only)

theorem execPcieResetRelease_frame {m : Nat} {s0 s : State} (hm : sub 0x40 m = true) (h : Frame m s0 s) :
    OutFrame m s0 (execPcieResetRelease s) := by
  unfold execPcieResetRelease
  repeat' first
    | (with_reducible assumption) | (exact sub_trans rfl hm) | intro _ | (with_reducible apply OutFrame.next)
    | (with_reducible apply OutFrame.ite) | (with_reducible apply State.putPcie_frame) | extract_lets | split
    | (dsimp -zeta only) | (dsimp +zetaDelta -zeta only)

theorem execPcieLinkChange_frame {m : Nat} {s0 s : State} (hm : sub 0x80840061 m = true) (h : Frame m s0 s) (up : Bool) (width rate : Nat) :
    OutFrame m s0 (execPcieLinkChange up width rate s) := by
  unfold execPcieLinkChange
  repeat' first
    | (with_reducible assumption) | (exact sub_trans rfl hm) | intro _ | (with_reducible apply OutFrame.next)
    | (with_reducible apply OutFrame.ite) | (with_reducible apply Frame.ite) | (with_reducible apply Frame.ite_fst)
    | (with_reducible apply State.putPcie_frame) | (with_reducible apply postEvent_frame) | extract_lets | split
    | (dsimp -zeta only) | (dsimp +zetaDelta -zeta only)

theorem execUnsupportedRequest_frame {m : Nat} {s0 s : State} (hm : sub 0x100000000 m = true) (h : Frame m s0 s) :
    OutFrame m s0 (execUnsupportedRequest s) := by
  unfold execUnsupportedRequest
  repeat' first
    | (with_reducible assumption) | (exact sub_trans rfl hm) | intro _ | (with_reducible apply OutFrame.next)
    | (with_reducible apply OutFrame.ite) | (with_reducible apply State.emit_frame) | extract_lets | split | (dsimp -zeta only)
    | (dsimp +zetaDelta -zeta only)

theorem execEventGenerate_frame {m : Nat} {s0 s : State} (hm : sub 0x80840021 m = true) (h : Frame m s0 s) (code : Nat) (data : List Byte) :
    OutFrame m s0 (execEventGenerate code data s) := by
  unfold execEventGenerate
  repeat' first
    | (with_reducible assumption) | (exact sub_trans rfl hm) | intro _ | (with_reducible apply OutFrame.next)
    | (with_reducible apply OutFrame.ite) | (with_reducible apply Frame.ite) | (with_reducible apply Frame.ite_fst)
    | (with_reducible apply generate_frame) | extract_lets | split | (dsimp -zeta only) | (dsimp +zetaDelta -zeta only)

theorem execEventRecordWrite_frame {m : Nat} {s0 s : State} (hm : sub 0x180840021 m = true) (h : Frame m s0 s) (ring : Nat) :
    OutFrame m s0 (execEventRecordWrite ring s) := by
  unfold execEventRecordWrite
  repeat' first
    | (with_reducible assumption) | (exact sub_trans rfl hm) | intro _ | (with_reducible apply OutFrame.next)
    | (with_reducible apply OutFrame.ite) | (with_reducible apply Frame.ite) | (with_reducible apply Frame.ite_fst)
    | (with_reducible apply State.setRing_frame) | (with_reducible apply State.emit_frame)
    | (with_reducible apply State.bumpWrap_frame) | (with_reducible apply postEvent_frame)
    | (with_reducible apply countDrop_frame) | extract_lets | split | (dsimp -zeta only) | (dsimp +zetaDelta -zeta only)

theorem execEventWriteback_frame {m : Nat} {s0 s : State} (hm : sub 0x100000020 m = true) (h : Frame m s0 s) (ring : Nat) :
    OutFrame m s0 (execEventWriteback ring s) := by
  unfold execEventWriteback
  repeat' first
    | (with_reducible assumption) | (exact sub_trans rfl hm) | intro _ | (with_reducible apply OutFrame.next)
    | (with_reducible apply OutFrame.ite) | (with_reducible apply Frame.ite) | (with_reducible apply Frame.ite_fst)
    | (with_reducible apply State.emit_frame) | (with_reducible apply State.setRing_frame) | extract_lets | split
    | (dsimp -zeta only) | (dsimp +zetaDelta -zeta only)

theorem ringMessage_frame {m : Nat} {s0 s : State} (hm : sub 0x140080060 m = true) (h : Frame m s0 s) (r : Nat) :
    Frame m s0 (ringMessage s r) := by
  unfold ringMessage
  repeat' first
    | (with_reducible assumption) | (exact sub_trans rfl hm) | intro _ | (with_reducible apply Frame.ite)
    | (with_reducible apply Frame.ite_fst) | (with_reducible apply State.reach_frame) | (with_reducible apply sendMsix_frame)
    | (with_reducible apply State.setRing_frame) | extract_lets | split | (dsimp -zeta only) | (dsimp +zetaDelta -zeta only)

theorem queueMessage_frame {m : Nat} {s0 s : State} (hm : sub 0x1400800C0 m = true) (h : Frame m s0 s) (q : Nat) :
    Frame m s0 (queueMessage s q) := by
  unfold queueMessage
  repeat' first
    | (with_reducible assumption) | (exact sub_trans rfl hm) | intro _ | (with_reducible apply Frame.ite)
    | (with_reducible apply Frame.ite_fst) | (with_reducible apply State.reach_frame) | (with_reducible apply sendMsix_frame)
    | (with_reducible apply State.setHq_frame) | extract_lets | split | (dsimp -zeta only) | (dsimp +zetaDelta -zeta only)

theorem execMsixMessage_frame {m : Nat} {s0 s : State} (hm : sub 0x1400800E0 m = true) (h : Frame m s0 s) (index : Nat) :
    OutFrame m s0 (execMsixMessage index s) := by
  unfold execMsixMessage
  repeat' first
    | (with_reducible assumption) | (exact sub_trans rfl hm) | intro _ | (with_reducible apply OutFrame.next)
    | (with_reducible apply OutFrame.ite) | (with_reducible apply Frame.ite) | (with_reducible apply Frame.ite_fst)
    | (with_reducible apply ringMessage_frame) | (with_reducible apply queueMessage_frame) | extract_lets | split
    | (dsimp -zeta only) | (dsimp +zetaDelta -zeta only)

theorem execMsixVectorUnmask_frame {m : Nat} {s0 s : State} (hm : sub 0x100000040 m = true) (h : Frame m s0 s) (vector : Nat) :
    OutFrame m s0 (execMsixVectorUnmask vector s) := by
  unfold execMsixVectorUnmask
  repeat' first
    | (with_reducible assumption) | (exact sub_trans rfl hm) | intro _ | (with_reducible apply OutFrame.next)
    | (with_reducible apply OutFrame.ite) | (with_reducible apply Frame.ite) | (with_reducible apply Frame.ite_fst)
    | (with_reducible apply State.putPcie_frame) | (with_reducible apply flushVector_frame) | extract_lets | split
    | (dsimp -zeta only) | (dsimp +zetaDelta -zeta only)

theorem execBusMasterEnableChange_frame {m : Nat} {s0 s : State} (hm : sub 0x61 m = true) (h : Frame m s0 s) (on : Bool) :
    OutFrame m s0 (execBusMasterEnableChange on s) := by
  unfold execBusMasterEnableChange
  repeat' first
    | (with_reducible assumption) | (exact sub_trans rfl hm) | intro _ | (with_reducible apply OutFrame.next)
    | (with_reducible apply OutFrame.ite) | (with_reducible apply Frame.ite) | (with_reducible apply Frame.ite_fst)
    | (with_reducible apply backlogToRing_frame) | (with_reducible apply viewActive_frame)
    | (with_reducible apply State.putPcie_frame) | (with_reducible apply ringToBacklog_frame)
    | (with_reducible apply Frame.fold) | extract_lets | split | (dsimp -zeta only) | (dsimp +zetaDelta -zeta only)

theorem putCtrl_frame {m : Nat} {s0 s : State} (hm : sub 0x1 m = true) (h : Frame m s0 s) (log vector mod_ : Fld) (v : Nat) :
    Frame m s0 (putCtrl s log vector mod_ v) := by
  unfold putCtrl
  repeat' first
    | (with_reducible assumption) | (exact sub_trans rfl hm) | intro _ | (with_reducible apply State.set_frame) | extract_lets
    | split | (dsimp -zeta only) | (dsimp +zetaDelta -zeta only)

theorem execEvrCtrlWrite_frame {m : Nat} {s0 s : State} (hm : sub 0x21 m = true) (h : Frame m s0 s) (ring v : Nat) :
    OutFrame m s0 (execEvrCtrlWrite ring v s) := by
  unfold execEvrCtrlWrite
  repeat' first
    | (with_reducible assumption) | (exact sub_trans rfl hm) | intro _ | (with_reducible apply OutFrame.next)
    | (with_reducible apply OutFrame.ite) | (with_reducible apply Frame.ite) | (with_reducible apply Frame.ite_fst)
    | (with_reducible apply State.set_frame) | (with_reducible apply putCtrl_frame) | (with_reducible apply viewActive_frame)
    | (with_reducible apply ringToBacklog_frame) | (with_reducible apply State.setRing_frame)
    | (with_reducible apply backlogToRing_frame) | extract_lets | split | (dsimp -zeta only) | (dsimp +zetaDelta -zeta only)

theorem execEvrBaseWrite_frame {m : Nat} {s0 s : State} (hm : sub 0x1 m = true) (h : Frame m s0 s) (ring part v : Nat) :
    OutFrame m s0 (execEvrBaseWrite ring part v s) := by
  unfold execEvrBaseWrite
  repeat' first
    | (with_reducible assumption) | (exact sub_trans rfl hm) | intro _ | (with_reducible apply OutFrame.next)
    | (with_reducible apply OutFrame.ite) | (with_reducible apply Frame.ite) | (with_reducible apply Frame.ite_fst)
    | (with_reducible apply State.set_frame) | extract_lets | split | (dsimp -zeta only) | (dsimp +zetaDelta -zeta only)

theorem execEvrConsWrite_frame {m : Nat} {s0 s : State} (hm : sub 0x1 m = true) (h : Frame m s0 s) (ring v : Nat) :
    OutFrame m s0 (execEvrConsWrite ring v s) := by
  unfold execEvrConsWrite
  repeat' first
    | (with_reducible assumption) | (exact sub_trans rfl hm) | intro _ | (with_reducible apply OutFrame.next)
    | (with_reducible apply OutFrame.ite) | (with_reducible apply Frame.ite) | (with_reducible apply Frame.ite_fst)
    | (with_reducible apply State.set_frame) | extract_lets | split | (dsimp -zeta only) | (dsimp +zetaDelta -zeta only)

theorem execHqCtrlWrite_frame {m : Nat} {s0 s : State} (hm : sub 0x81 m = true) (h : Frame m s0 s) (hq v : Nat) :
    OutFrame m s0 (execHqCtrlWrite hq v s) := by
  unfold execHqCtrlWrite
  repeat' first
    | (with_reducible assumption) | (exact sub_trans rfl hm) | intro _ | (with_reducible apply OutFrame.next)
    | (with_reducible apply OutFrame.ite) | (with_reducible apply Frame.ite) | (with_reducible apply Frame.ite_fst)
    | (with_reducible apply State.set_frame) | (with_reducible apply putCtrl_frame) | (with_reducible apply viewActive_frame)
    | (with_reducible apply State.setHq_frame) | extract_lets | split | (dsimp -zeta only) | (dsimp +zetaDelta -zeta only)

theorem execHqTailWrite_frame {m : Nat} {s0 s : State} (hm : sub 0x1 m = true) (h : Frame m s0 s) (hq v : Nat) :
    OutFrame m s0 (execHqTailWrite hq v s) := by
  unfold execHqTailWrite
  repeat' first
    | (with_reducible assumption) | (exact sub_trans rfl hm) | intro _ | (with_reducible apply OutFrame.next)
    | (with_reducible apply OutFrame.ite) | (with_reducible apply Frame.ite) | (with_reducible apply Frame.ite_fst)
    | (with_reducible apply State.set_frame) | extract_lets | split | (dsimp -zeta only) | (dsimp +zetaDelta -zeta only)

theorem execHostTxDescriptor_frame {m : Nat} {s0 s : State} (hm : sub 0x186B7E0A1 m = true) (h : Frame m s0 s) (hq : Nat) (desc data : List Byte) (readOk : Bool) :
    OutFrame m s0 (execHostTxDescriptor hq desc data readOk s) := by
  unfold execHostTxDescriptor
  repeat' first
    | (with_reducible assumption) | (exact sub_trans rfl hm) | intro _ | (with_reducible apply OutFrame.next)
    | (with_reducible apply OutFrame.ite) | (with_reducible apply Frame.ite) | (with_reducible apply Frame.ite_fst)
    | (with_reducible apply handleDescriptor_frame) | (with_reducible apply State.emit_frame)
    | (with_reducible apply postEvent_frame) | (with_reducible apply advanceHead_frame)
    | (with_reducible apply State.setHq_frame) | (with_reducible refine Frame.of_pair (by assumption) ?_) | extract_lets | split
    | (dsimp -zeta only) | (dsimp +zetaDelta -zeta only)

end Sys2Proof.Machine
end

