-- ==== Sys2Proof/Laws/FrameIndigo.lean ====
section
/-!
SUPPORT. Which components the operations of Machine/Indigo.lean may change (`Frame`).
-/

namespace Sys2Proof.Machine

set_option linter.unusedVariables false
set_option linter.unusedTactic false
set_option linter.unreachableTactic false

theorem takeTrailer_frame {m : Nat} {s0 s : State} (hm : sub 0x18697E021 m = true) (h : Frame m s0 s) (n : Nat) (trailer : List Byte) :
    Frame m s0 (takeTrailer s n trailer) := by
  unfold takeTrailer
  repeat' first
    | (with_reducible assumption) | (exact sub_trans rfl hm) | intro _ | (with_reducible apply Frame.ite)
    | (with_reducible apply Frame.ite_fst) | (with_reducible apply State.bump_frame) | (with_reducible apply reissueMap_frame)
    | (with_reducible apply mapTableFull_frame) | (with_reducible apply learnTrailer_frame) | extract_lets | split
    | (dsimp -zeta only) | (dsimp +zetaDelta -zeta only)

theorem execMapTrailer_frame {m : Nat} {s0 s : State} (hm : sub 0x18697E021 m = true) (h : Frame m s0 s) :
    OutFrame m s0 (execMapTrailer s) := by
  unfold execMapTrailer
  repeat' first
    | (with_reducible assumption) | (exact sub_trans rfl hm) | intro _ | (with_reducible apply OutFrame.next)
    | (with_reducible apply OutFrame.ite) | (with_reducible apply Frame.ite) | (with_reducible apply Frame.ite_fst)
    | (with_reducible apply State.putImap_frame) | (with_reducible apply takeTrailer_frame) | extract_lets | split
    | (dsimp -zeta only) | (dsimp +zetaDelta -zeta only)

theorem execStaleIndigoReport_frame {m : Nat} {s0 s : State} (hm : sub 0x18697E021 m = true) (h : Frame m s0 s) (cluster : Nat) :
    OutFrame m s0 (execStaleIndigoReport cluster s) := by
  unfold execStaleIndigoReport
  repeat' first
    | (with_reducible assumption) | (exact sub_trans rfl hm) | intro _ | (with_reducible apply OutFrame.next)
    | (with_reducible apply OutFrame.ite) | (with_reducible apply Frame.ite) | (with_reducible apply Frame.ite_fst)
    | (with_reducible apply dropReport_frame) | (with_reducible apply State.bump_frame)
    | (with_reducible apply reissueMap_frame) | extract_lets | split | (dsimp -zeta only) | (dsimp +zetaDelta -zeta only)

theorem execMapHoldExpiry_frame {m : Nat} {s0 s : State} (hm : sub 0x40082001 m = true) (h : Frame m s0 s) (node : Nat) :
    OutFrame m s0 (execMapHoldExpiry node s) := by
  unfold execMapHoldExpiry
  repeat' first
    | (with_reducible assumption) | (exact sub_trans rfl hm) | intro _ | (with_reducible apply OutFrame.next)
    | (with_reducible apply OutFrame.ite) | (with_reducible apply Frame.ite) | (with_reducible apply Frame.ite_fst)
    | (with_reducible apply freeMapEntry_frame) | (with_reducible apply State.reach_frame) | extract_lets | split
    | (dsimp -zeta only) | (dsimp +zetaDelta -zeta only)

theorem mapRequest_frame {m : Nat} {s0 s : State} (hm : sub 0x1 m = true) (h : Frame m s0 s) (n : Nat) (act : State → State)
    (ha : ∀ t, Frame m s0 t → Frame m s0 (act t)) : Frame m s0 (mapRequest s n act) := by
  unfold mapRequest
  repeat' first
    | (with_reducible assumption) | (exact sub_trans rfl hm) | intro _ | (with_reducible apply Frame.ite) | (with_reducible apply ha)
    | (with_reducible apply State.set_frame) | extract_lets | split | (dsimp -zeta only)

theorem execImapRateChange_frame {m : Nat} {s0 s : State} (hm : sub 0x18697E021 m = true) (h : Frame m s0 s) (node rate : Nat) :
    OutFrame m s0 (execImapRateChange node rate s) := by
  unfold execImapRateChange
  repeat' first
    | (with_reducible assumption) | (exact sub_trans rfl hm) | intro _ | (with_reducible apply OutFrame.next)
    | (with_reducible apply OutFrame.ite) | (with_reducible apply mapRequest_frame) | (with_reducible apply pendMap_frame)
    | extract_lets | split | (dsimp -zeta only) | (dsimp +zetaDelta -zeta only)

theorem execImapClear_frame {m : Nat} {s0 s : State} (hm : sub 0x18697E021 m = true) (h : Frame m s0 s) (node : Nat) :
    OutFrame m s0 (execImapClear node s) := by
  unfold execImapClear
  repeat' first
    | (with_reducible assumption) | (exact sub_trans rfl hm) | intro _ | (with_reducible apply OutFrame.next)
    | (with_reducible apply OutFrame.ite) | (with_reducible apply mapRequest_frame) | (with_reducible apply clearMap_frame)
    | extract_lets | split | (dsimp -zeta only) | (dsimp +zetaDelta -zeta only)

theorem execImapResend_frame {m : Nat} {s0 s : State} (hm : sub 0x18697E021 m = true) (h : Frame m s0 s) (node : Nat) :
    OutFrame m s0 (execImapResend node s) := by
  unfold execImapResend
  repeat' first
    | (with_reducible assumption) | (exact sub_trans rfl hm) | intro _ | (with_reducible apply OutFrame.next)
    | (with_reducible apply OutFrame.ite) | (with_reducible apply mapRequest_frame) | (with_reducible apply reissueMap_frame)
    | extract_lets | split | (dsimp -zeta only) | (dsimp +zetaDelta -zeta only)

end Sys2Proof.Machine
end

