-- ==== Sys2Proof/Laws/FrameIntegrity.lean ====
section
/-!
SUPPORT. Which components the operations of Machine/Integrity.lean may change (`Frame`).
-/

namespace Sys2Proof.Machine

set_option linter.unusedVariables false
set_option linter.unusedTactic false
set_option linter.unreachableTactic false

theorem putScrub_frame {m0 : Nat} {s0 s : State} (hm : sub 0x2000001 m0 = true) (h : Frame m0 s0 s) (m : Nat) (x : Option ScrubState) :
    Frame m0 s0 (putScrub s m x) := by
  unfold putScrub
  repeat' first
    | (with_reducible assumption) | (exact sub_trans rfl hm) | intro _ | (with_reducible apply State.putMi_frame)
    | (with_reducible apply State.setBit_frame) | extract_lets | split | (dsimp -zeta only) | (dsimp +zetaDelta -zeta only)

theorem execLineCheckFail_frame {m : Nat} {s0 s : State} (hm : sub 0x186D75127 m = true) (h : Frame m s0 s) (mem : LineMem) (line column : Nat) (refetchOk code scrub : Bool) (air eth : Option Nat) :
    OutFrame m s0 (execLineCheckFail mem line column refetchOk code scrub air eth s) := by
  unfold execLineCheckFail
  repeat' first
    | (with_reducible assumption) | (exact sub_trans rfl hm) | intro _ | (with_reducible apply OutFrame.next)
    | (with_reducible apply OutFrame.ite) | (with_reducible apply Frame.ite) | (with_reducible apply Frame.ite_fst)
    | (with_reducible apply putScrub_frame) | (with_reducible apply viewMi_frame) | (with_reducible apply State.putMi_frame)
    | (with_reducible apply noteFault_frame) | (with_reducible apply faultPoisoned_frame)
    | (with_reducible apply poisonFrames_frame) | (with_reducible apply State.bump_frame)
    | (with_reducible apply faultEnds_frame) | (with_reducible apply State.emit_frame)
    | (with_reducible apply consumePoison_frame) | extract_lets | split | (dsimp -zeta only) | (dsimp +zetaDelta -zeta only)

theorem freeRecovery_frame {m0 : Nat} {s0 s : State} (hm : sub 0x2000001 m0 = true) (h : Frame m0 s0 s) (m : LineMem) (line : Nat) :
    Frame m0 s0 (freeRecovery s m line) := by
  unfold freeRecovery
  repeat' first
    | (with_reducible assumption) | (exact sub_trans rfl hm) | intro _ | (with_reducible apply viewMi_frame)
    | (with_reducible apply State.putMi_frame) | extract_lets | split | (dsimp -zeta only) | (dsimp +zetaDelta -zeta only)

theorem execPeerLineArrival_frame {m : Nat} {s0 s : State} (hm : sub 0x186D75127 m = true) (h : Frame m s0 s) (line : Nat) (bytes : List Byte) (ok readbackOk : Bool) :
    OutFrame m s0 (execPeerLineArrival line bytes ok readbackOk s) := by
  unfold execPeerLineArrival
  repeat' first
    | (with_reducible assumption) | (exact sub_trans rfl hm) | intro _ | (with_reducible apply OutFrame.next)
    | (with_reducible apply OutFrame.ite) | (with_reducible apply Frame.ite) | (with_reducible apply Frame.ite_fst)
    | (with_reducible apply State.putMi_frame) | (with_reducible apply writeLine_frame)
    | (with_reducible apply freeRecovery_frame) | (with_reducible apply noteFault_frame)
    | (with_reducible apply faultPoisoned_frame) | (with_reducible apply faultEnds_frame)
    | (with_reducible apply State.bump_frame) | extract_lets | split | (dsimp -zeta only) | (dsimp +zetaDelta -zeta only)

theorem execFlashRecomputeDone_frame {m : Nat} {s0 s : State} (hm : sub 0x186D75127 m = true) (h : Frame m s0 s) (line : Nat) (matched readbackOk : Bool) :
    OutFrame m s0 (execFlashRecomputeDone line matched readbackOk s) := by
  unfold execFlashRecomputeDone
  repeat' first
    | (with_reducible assumption) | (exact sub_trans rfl hm) | intro _ | (with_reducible apply OutFrame.next)
    | (with_reducible apply OutFrame.ite) | (with_reducible apply Frame.ite) | (with_reducible apply Frame.ite_fst)
    | (with_reducible apply freeRecovery_frame) | (with_reducible apply noteFault_frame)
    | (with_reducible apply faultPoisoned_frame) | (with_reducible apply checkWritten_frame)
    | (with_reducible apply State.bump_frame) | (with_reducible apply faultEnds_frame) | extract_lets | split
    | (dsimp -zeta only) | (dsimp +zetaDelta -zeta only)

theorem scrubNext_frame {m0 : Nat} {s0 s : State} (hm : sub 0x82840021 m0 = true) (h : Frame m0 s0 s) (m : LineMem) (x : ScrubState) :
    Frame m0 s0 (scrubNext s m x) := by
  unfold scrubNext
  repeat' first
    | (with_reducible assumption) | (exact sub_trans rfl hm) | intro _ | (with_reducible apply Frame.ite)
    | (with_reducible apply Frame.ite_fst) | (with_reducible apply State.putMi_frame) | (with_reducible apply putScrub_frame)
    | (with_reducible apply postEvent_frame) | extract_lets | split | (dsimp -zeta only) | (dsimp +zetaDelta -zeta only)

theorem execScrubRead_frame {m : Nat} {s0 s : State} (hm : sub 0x182840021 m = true) (h : Frame m s0 s) (mem : LineMem) (misread : List (Nat × Nat)) :
    OutFrame m s0 (execScrubRead mem misread s) := by
  unfold execScrubRead
  repeat' first
    | (with_reducible assumption) | (exact sub_trans rfl hm) | intro _ | (with_reducible apply OutFrame.next)
    | (with_reducible apply OutFrame.ite) | (with_reducible apply Frame.ite) | (with_reducible apply Frame.ite_fst)
    | (with_reducible apply putScrub_frame) | (with_reducible apply State.putMi_frame) | (with_reducible apply scrubNext_frame)
    | (with_reducible apply tileFailed_frame) | extract_lets | split | (dsimp -zeta only) | (dsimp +zetaDelta -zeta only)

theorem execMiScrubNow_frame {m : Nat} {s0 s : State} (hm : sub 0x2000001 m = true) (h : Frame m s0 s) (q : Requester) :
    OutFrame m s0 (execMiScrubNow q s) := by
  unfold execMiScrubNow
  repeat' first
    | (with_reducible assumption) | (exact sub_trans rfl hm) | intro _ | (with_reducible apply OutFrame.next)
    | (with_reducible apply OutFrame.ite) | (with_reducible apply Frame.ite) | (with_reducible apply Frame.ite_fst)
    | (with_reducible apply State.putMi_frame) | (with_reducible apply putScrub_frame) | (with_reducible apply State.set_frame)
    | extract_lets | split | (dsimp -zeta only) | (dsimp +zetaDelta -zeta only)

theorem execMiApplyRepairs_frame {m : Nat} {s0 s : State} (hm : sub 0x186D75123 m = true) (h : Frame m s0 s) (q : Requester) :
    OutFrame m s0 (execMiApplyRepairs q s) := by
  unfold execMiApplyRepairs
  repeat' first
    | (with_reducible assumption) | (exact sub_trans rfl hm) | intro _ | (with_reducible apply OutFrame.next)
    | (with_reducible apply OutFrame.ite) | (with_reducible apply Frame.ite) | (with_reducible apply Frame.ite_fst)
    | (with_reducible apply standbyRestart_frame) | (with_reducible apply State.set_frame)
    | (with_reducible apply startPlanned_frame) | extract_lets | split | (dsimp -zeta only) | (dsimp +zetaDelta -zeta only)

theorem execMiFlipWrite_frame {m : Nat} {s0 s : State} (hm : sub 0x1 m = true) (h : Frame m s0 s) (q : Requester) (v : Nat) :
    OutFrame m s0 (execMiFlipWrite q v s) := by
  unfold execMiFlipWrite
  repeat' first
    | (with_reducible assumption) | (exact sub_trans rfl hm) | intro _ | (with_reducible apply OutFrame.next)
    | (with_reducible apply OutFrame.ite) | (with_reducible apply Frame.ite) | (with_reducible apply Frame.ite_fst)
    | (with_reducible apply State.set_frame) | (with_reducible apply State.setBit_frame) | extract_lets | split
    | (dsimp -zeta only) | (dsimp +zetaDelta -zeta only)

theorem execFrameBufferSweep_frame {m : Nat} {s0 s : State} (hm : sub 0x106138001 m = true) (h : Frame m s0 s) :
    OutFrame m s0 (execFrameBufferSweep s) := by
  unfold execFrameBufferSweep
  repeat' first
    | (with_reducible assumption) | (exact sub_trans rfl hm) | intro _ | (with_reducible apply OutFrame.next)
    | (with_reducible apply OutFrame.ite) | (with_reducible apply Frame.ite) | (with_reducible apply Frame.ite_fst)
    | (with_reducible apply flushDownlink_frame) | (with_reducible apply Frame.fold) | extract_lets | split | (dsimp -zeta only)
    | (dsimp +zetaDelta -zeta only)

end Sys2Proof.Machine
end

