-- ==== Sys2Proof/Laws/FrameMirrorOps.lean ====
section
/-!
SUPPORT. Which components the operations of Machine/MirrorOps.lean may change (`Frame`).
-/

namespace Sys2Proof.Machine

set_option linter.unusedVariables false
set_option linter.unusedTactic false
set_option linter.unreachableTactic false

theorem ehtFollow_frame {m : Nat} {s0 s : State} (hm : sub 0x82850027 m = true) (h : Frame m s0 s) (n : Nat) (old new : Line) :
    Frame m s0 (ehtFollow s n old new) := by
  unfold ehtFollow
  repeat' first
    | (with_reducible assumption) | (exact sub_trans rfl hm) | intro _ | (with_reducible apply Frame.ite)
    | (with_reducible apply Frame.ite_fst) | (with_reducible apply ehtLookup_frame) | (with_reducible apply ehtDelete_frame)
    | (with_reducible apply ehtInsert_frame) | extract_lets | split | (dsimp -zeta only) | (dsimp +zetaDelta -zeta only)

theorem putMirrored_frame {m : Nat} {s0 s : State} (hm : sub 0x186952027 m = true) (h : Frame m s0 s) (n : Nat) (new : Line) :
    Frame m s0 (putMirrored s n new) := by
  unfold putMirrored
  repeat' first
    | (with_reducible assumption) | (exact sub_trans rfl hm) | intro _ | (with_reducible apply Frame.ite)
    | (with_reducible apply Frame.ite_fst) | (with_reducible apply ehtFollow_frame) | (with_reducible apply mapForget_frame)
    | (with_reducible apply writeLine_frame) | extract_lets | split | (dsimp -zeta only) | (dsimp +zetaDelta -zeta only)

theorem applyNcs_frame {m : Nat} {s0 s : State} (hm : sub 0x186952027 m = true) (h : Frame m s0 s) (node mask : Nat) (bytes : List Byte) :
    Frame m s0 (applyNcs s node mask bytes) := by
  unfold applyNcs
  repeat' first
    | (with_reducible assumption) | (exact sub_trans rfl hm) | intro _ | (with_reducible apply Frame.ite)
    | (with_reducible apply Frame.ite_fst) | (with_reducible apply putMirrored_frame) | (with_reducible apply Frame.foldl_fst)
    | extract_lets | split | (dsimp -zeta only) | (dsimp +zetaDelta -zeta only)

theorem applyCrimson_frame {m : Nat} {s0 s : State} (hm : sub 0x106130001 m = true) (h : Frame m s0 s) (f : TxFrame) :
    Frame m s0 (applyCrimson s f) := by
  unfold applyCrimson
  repeat' first
    | (with_reducible assumption) | (exact sub_trans rfl hm) | intro _ | (with_reducible apply keepFrame_frame)
    | (with_reducible apply viewDownlink_frame) | (with_reducible apply State.putSched_frame)
    | (with_reducible refine Frame.of_pair (by assumption) ?_) | extract_lets | split | (dsimp -zeta only)
    | (dsimp +zetaDelta -zeta only)

theorem applyCrimsonOut_frame {m : Nat} {s0 s : State} (hm : sub 0x106130001 m = true) (h : Frame m s0 s) (ident : Nat) :
    Frame m s0 (applyCrimsonOut s ident) := by
  unfold applyCrimsonOut
  repeat' first
    | (with_reducible assumption) | (exact sub_trans rfl hm) | intro _ | (with_reducible apply removeFrame_frame) | extract_lets
    | split | (dsimp -zeta only) | (dsimp +zetaDelta -zeta only)

theorem takeTree_frame {m : Nat} {s0 s : State} (hm : sub 0x106338001 m = true) (h : Frame m s0 s) (t : TreeState) :
    Frame m s0 (takeTree s t) := by
  unfold takeTree
  repeat' first
    | (with_reducible assumption) | (exact sub_trans rfl hm) | intro _ | (with_reducible apply flushAllDownlink_frame)
    | (with_reducible apply dropSync_frame) | (with_reducible apply viewTree_frame) | (with_reducible apply State.putTree_frame)
    | (with_reducible apply State.set_frame) | (with_reducible apply State.putPair_frame) | extract_lets | split
    | (dsimp -zeta only) | (dsimp +zetaDelta -zeta only)

theorem applyLine_frame {m : Nat} {s0 s : State} (hm : sub 0x186952027 m = true) (h : Frame m s0 s) (n : Nat) (bytes : List Byte) :
    Frame m s0 (applyLine s n bytes) := by
  unfold applyLine
  repeat' first
    | (with_reducible assumption) | (exact sub_trans rfl hm) | intro _ | (with_reducible apply Frame.ite)
    | (with_reducible apply Frame.ite_fst) | (with_reducible apply viewDownlink_frame)
    | (with_reducible apply putMirrored_frame) | (with_reducible apply State.putPair_frame)
    | (with_reducible apply State.set_frame) | extract_lets | split | (dsimp -zeta only) | (dsimp +zetaDelta -zeta only)

theorem postResyncDone_frame {m : Nat} {s0 s : State} (hm : sub 0x80840021 m = true) (h : Frame m s0 s) :
    Frame m s0 (postResyncDone s) := by
  unfold postResyncDone
  repeat' first
    | (with_reducible assumption) | (exact sub_trans rfl hm) | intro _ | (with_reducible apply postEvent_frame) | extract_lets
    | split | (dsimp -zeta only) | (dsimp +zetaDelta -zeta only)

theorem resyncDone_frame {m : Nat} {s0 s : State} (hm : sub 0x84840021 m = true) (h : Frame m s0 s) (role : Nat) :
    Frame m s0 (resyncDone s role) := by
  unfold resyncDone
  repeat' first
    | (with_reducible assumption) | (exact sub_trans rfl hm) | intro _ | (with_reducible apply State.set_frame)
    | (with_reducible apply State.putPair_frame) | (with_reducible apply setRole_frame)
    | (with_reducible apply postResyncDone_frame) | extract_lets | split | (dsimp -zeta only) | (dsimp +zetaDelta -zeta only)

theorem openCause_frame {m : Nat} {s0 s : State} (hm : sub 0x80000000 m = true) (h : Frame m s0 s) :
    Frame m s0 (openCause s).1 := by
  unfold openCause
  repeat' first
    | (with_reducible assumption) | (exact sub_trans rfl hm) | intro _ | (with_reducible apply State.drew_frame) | extract_lets
    | split | (dsimp -zeta only) | (dsimp +zetaDelta -zeta only)

theorem peerLeft_frame {m : Nat} {s0 s : State} (hm : sub 0x84840021 m = true) (h : Frame m s0 s) :
    Frame m s0 (peerLeft s) := by
  unfold peerLeft
  repeat' first
    | (with_reducible assumption) | (exact sub_trans rfl hm) | intro _ | (with_reducible apply Frame.ite)
    | (with_reducible apply Frame.ite_fst) | (with_reducible apply dropSync_frame) | (with_reducible apply switchDone_frame)
    | (with_reducible apply setRole_frame) | (with_reducible apply openCause_frame)
    | (with_reducible refine Frame.of_pair (by assumption) ?_) | extract_lets | split | (dsimp -zeta only)
    | (dsimp +zetaDelta -zeta only)

theorem controlToClaiming_frame {m : Nat} {s0 s : State} (hm : sub 0x184840021 m = true) (h : Frame m s0 s) (role : Nat) (hold : Bool) :
    Frame m s0 (controlToClaiming s role hold) := by
  unfold controlToClaiming
  repeat' first
    | (with_reducible assumption) | (exact sub_trans rfl hm) | intro _ | (with_reducible apply Frame.ite)
    | (with_reducible apply Frame.ite_fst) | (with_reducible apply postEvent_frame) | (with_reducible apply switchDone_frame)
    | (with_reducible apply peerLeft_frame) | (with_reducible apply State.set_frame)
    | (with_reducible apply State.putPair_frame) | (with_reducible apply offerResync_frame) | extract_lets | split
    | (dsimp -zeta only) | (dsimp +zetaDelta -zeta only)

theorem controlToOther_frame {m : Nat} {s0 s : State} (hm : sub 0x84840021 m = true) (h : Frame m s0 s) (role nodeMin : Nat) (claiming : Bool) :
    Frame m s0 (controlToOther s role nodeMin claiming) := by
  unfold controlToOther
  repeat' first
    | (with_reducible assumption) | (exact sub_trans rfl hm) | intro _ | (with_reducible apply Frame.ite)
    | (with_reducible apply Frame.ite_fst) | (with_reducible apply State.set_frame) | (with_reducible apply openCause_frame)
    | (with_reducible apply setRole_frame) | (with_reducible apply clearSwitchover_frame)
    | (with_reducible apply dropSync_frame) | (with_reducible refine Frame.of_pair (by assumption) ?_) | extract_lets | split
    | (dsimp -zeta only) | (dsimp +zetaDelta -zeta only)

theorem applyControl_frame {m : Nat} {s0 s : State} (hm : sub 0x184840021 m = true) (h : Frame m s0 s) (role : Nat) (claiming hold : Bool) (asn nodeMin : Nat) :
    Frame m s0 (applyControl s role claiming hold asn nodeMin) := by
  unfold applyControl
  repeat' first
    | (with_reducible assumption) | (exact sub_trans rfl hm) | intro _ | (with_reducible apply Frame.ite)
    | (with_reducible apply Frame.ite_fst) | (with_reducible apply State.set_frame) | (with_reducible apply State.putPair_frame)
    | (with_reducible apply controlToClaiming_frame) | (with_reducible apply controlToOther_frame)
    | (with_reducible apply viewInterlock_frame) | extract_lets | split | (dsimp -zeta only) | (dsimp +zetaDelta -zeta only)

theorem applyRelease_frame {m : Nat} {s0 s : State} (hm : sub 0x4000001 m = true) (h : Frame m s0 s) :
    Frame m s0 (applyRelease s) := by
  unfold applyRelease
  repeat' first
    | (with_reducible assumption) | (exact sub_trans rfl hm) | intro _ | (with_reducible apply Frame.ite)
    | (with_reducible apply Frame.ite_fst) | (with_reducible apply viewInterlock_frame)
    | (with_reducible apply State.putPair_frame) | extract_lets | split | (dsimp -zeta only) | (dsimp +zetaDelta -zeta only)

theorem applyHandover_frame {m : Nat} {s0 s : State} (hm : sub 0x84840021 m = true) (h : Frame m s0 s) (asn : Nat) :
    Frame m s0 (applyHandover s asn) := by
  unfold applyHandover
  repeat' first
    | (with_reducible assumption) | (exact sub_trans rfl hm) | intro _ | (with_reducible apply Frame.ite)
    | (with_reducible apply Frame.ite_fst) | (with_reducible apply State.putPair_frame) | (with_reducible apply State.set_frame)
    | (with_reducible apply postEvent_frame) | extract_lets | split | (dsimp -zeta only) | (dsimp +zetaDelta -zeta only)

theorem takeRecord_frame {m : Nat} {s0 s : State} (hm : sub 0x1 m = true) (h : Frame m s0 s) (f : State → State)
    (hf : ∀ t, Frame m s0 t → Frame m s0 (f t)) : Frame m s0 (takeRecord s f) := by
  unfold takeRecord
  repeat' first
    | (with_reducible assumption) | (exact sub_trans rfl hm) | intro _ | (with_reducible apply Frame.ite) | (with_reducible apply hf)
    | (with_reducible apply State.bumpWrap_frame) | extract_lets | split | (dsimp -zeta only)

theorem takeControl_frame {m : Nat} {s0 s : State} (hm : sub 0x19EDF5123 m = true) (h : Frame m s0 s) (f : State → State)
    (hf : ∀ t, Frame m s0 t → Frame m s0 (f t)) : Frame m s0 (takeControl s f) := by
  unfold takeControl
  repeat' first
    | (with_reducible assumption) | (exact sub_trans rfl hm) | intro _ | (with_reducible apply Frame.ite) | (with_reducible apply settle_frame)
    | (with_reducible apply hf) | (with_reducible apply State.bumpWrap_frame) | (with_reducible apply State.putPair_frame)
    | extract_lets | split | (dsimp -zeta only)

theorem applyRecord_frame {m : Nat} {s0 s : State} (hm : sub 0x19EFFF927 m = true) (h : Frame m s0 s) (r : MirrorRecord) :
    Frame m s0 (applyRecord s r) := by
  unfold applyRecord
  repeat' first
    | (with_reducible assumption) | (exact sub_trans rfl hm) | intro _ | (with_reducible apply Frame.ite)
    | (with_reducible apply Frame.ite_fst) | (with_reducible apply takeRecord_frame) | (with_reducible apply applyNcs_frame)
    | (with_reducible apply applyReservation_frame) | (with_reducible apply applyCrimson_frame)
    | (with_reducible apply applyCrimsonOut_frame) | (with_reducible apply mirrorTree_frame)
    | (with_reducible apply takeTree_frame) | (with_reducible apply takeEpoch_frame) | (with_reducible apply clearNodes_frame)
    | (with_reducible apply takeControl_frame) | (with_reducible apply applyControl_frame)
    | (with_reducible apply applyRelease_frame) | (with_reducible apply applyHandover_frame)
    | (with_reducible apply applyLine_frame) | extract_lets | split | (dsimp -zeta only) | (dsimp +zetaDelta -zeta only)

end Sys2Proof.Machine
end

