-- ==== Sys2Proof/Laws/FramePair.lean ====
section
/-!
SUPPORT. Which components the operations of Machine/Pair.lean may change (`Frame`).
-/

namespace Sys2Proof.Machine

set_option linter.unusedVariables false
set_option linter.unusedTactic false
set_option linter.unreachableTactic false

theorem reserveAll_frame {m : Nat} {s0 s : State} (hm : sub 0x104000001 m = true) (h : Frame m s0 s) :
    Frame m s0 (reserveAll s) := by
  unfold reserveAll
  repeat' first
    | (with_reducible assumption) | (exact sub_trans rfl hm) | intro _ | (with_reducible apply reserve_frame)
    | (with_reducible apply Frame.fold) | extract_lets | split | (dsimp -zeta only) | (dsimp +zetaDelta -zeta only)

theorem takeRole_frame {m : Nat} {s0 s : State} (hm : sub 0x80840021 m = true) (h : Frame m s0 s) (role cause : Nat) :
    Frame m s0 (takeRole s role cause) := by
  unfold takeRole
  repeat' first
    | (with_reducible assumption) | (exact sub_trans rfl hm) | intro _ | (with_reducible apply Frame.ite)
    | (with_reducible apply Frame.ite_fst) | (with_reducible apply setRole_frame) | extract_lets | split | (dsimp -zeta only)
    | (dsimp +zetaDelta -zeta only)

theorem claimPlanned_frame {m : Nat} {s0 s : State} (hm : sub 0x18697E021 m = true) (h : Frame m s0 s) :
    Frame m s0 (claimPlanned s) := by
  unfold claimPlanned
  repeat' first
    | (with_reducible assumption) | (exact sub_trans rfl hm) | intro _ | (with_reducible apply State.set_frame)
    | (with_reducible apply State.putPair_frame) | (with_reducible apply issueSlot_frame)
    | (with_reducible apply reserveAll_frame) | extract_lets | split | (dsimp -zeta only) | (dsimp +zetaDelta -zeta only)

theorem claimUnplanned_frame {m : Nat} {s0 s : State} (hm : sub 0x184840021 m = true) (h : Frame m s0 s) (cause : Nat) :
    Frame m s0 (claimUnplanned s cause) := by
  unfold claimUnplanned
  repeat' first
    | (with_reducible assumption) | (exact sub_trans rfl hm) | intro _ | (with_reducible apply Frame.ite)
    | (with_reducible apply Frame.ite_fst) | (with_reducible apply State.putPair_frame) | (with_reducible apply State.set_frame)
    | (with_reducible apply setRole_frame) | (with_reducible apply reserveAll_frame) | (with_reducible apply dropSync_frame)
    | (with_reducible apply postEvent_frame) | (with_reducible apply switchDone_frame) | extract_lets | split
    | (dsimp -zeta only) | (dsimp +zetaDelta -zeta only)

theorem claimBack_frame {m : Nat} {s0 s : State} (hm : sub 0x19EFF5123 m = true) (h : Frame m s0 s) :
    Frame m s0 (claimBack s) := by
  unfold claimBack
  repeat' first
    | (with_reducible assumption) | (exact sub_trans rfl hm) | intro _ | (with_reducible apply setRole_frame)
    | (with_reducible apply dropSync_frame) | (with_reducible apply reserveAll_frame)
    | (with_reducible apply rewriteCounters_frame) | (with_reducible apply settle_frame)
    | (with_reducible apply switchDone_frame) | extract_lets | split | (dsimp -zeta only) | (dsimp +zetaDelta -zeta only)

theorem execClaimAssert_frame {m : Nat} {s0 s : State} (hm : sub 0x19EFFF123 m = true) (h : Frame m s0 s) (edges : Nat) :
    OutFrame m s0 (execClaimAssert edges s) := by
  unfold execClaimAssert
  repeat' first
    | (with_reducible assumption) | (exact sub_trans rfl hm) | intro _ | (with_reducible apply OutFrame.next)
    | (with_reducible apply OutFrame.ite) | (with_reducible apply Frame.ite) | (with_reducible apply Frame.ite_fst)
    | (with_reducible apply driveClaim_frame) | (with_reducible apply claimPlanned_frame)
    | (with_reducible apply offerResync_frame) | (with_reducible apply claimUnplanned_frame)
    | (with_reducible apply claimBack_frame) | (with_reducible apply reserveAll_frame) | (with_reducible apply takeRole_frame)
    | extract_lets | split | (dsimp -zeta only) | (dsimp +zetaDelta -zeta only)

theorem claimConflict_frame {m : Nat} {s0 s : State} (hm : sub 0x186D75121 m = true) (h : Frame m s0 s) :
    Frame m s0 (claimConflict s) := by
  unfold claimConflict
  repeat' first
    | (with_reducible assumption) | (exact sub_trans rfl hm) | intro _ | (with_reducible apply Frame.ite)
    | (with_reducible apply Frame.ite_fst) | (with_reducible apply postEvent_frame) | (with_reducible apply State.set_frame)
    | (with_reducible apply endClaim_frame) | (with_reducible apply State.bump_frame) | extract_lets | split
    | (dsimp -zeta only) | (dsimp +zetaDelta -zeta only)

theorem peerClaimed_frame {m : Nat} {s0 s : State} (hm : sub 0x84840021 m = true) (h : Frame m s0 s) :
    Frame m s0 (peerClaimed s) := by
  unfold peerClaimed
  repeat' first
    | (with_reducible assumption) | (exact sub_trans rfl hm) | intro _ | (with_reducible apply Frame.ite)
    | (with_reducible apply Frame.ite_fst) | (with_reducible apply State.putPair_frame) | (with_reducible apply setRole_frame)
    | (with_reducible apply switchDone_frame) | (with_reducible apply clearSwitchover_frame) | extract_lets | split
    | (dsimp -zeta only) | (dsimp +zetaDelta -zeta only)

theorem execPeerClaimChange_frame {m : Nat} {s0 s : State} (hm : sub 0x19EDF5123 m = true) (h : Frame m s0 s) (asserted : Bool) :
    OutFrame m s0 (execPeerClaimChange asserted s) := by
  unfold execPeerClaimChange
  repeat' first
    | (with_reducible assumption) | (exact sub_trans rfl hm) | intro _ | (with_reducible apply OutFrame.next)
    | (with_reducible apply OutFrame.ite) | (with_reducible apply Frame.ite) | (with_reducible apply Frame.ite_fst)
    | (with_reducible apply State.setBit_frame) | (with_reducible apply gateChanged_frame)
    | (with_reducible apply State.putPair_frame) | (with_reducible apply viewInterlock_frame)
    | (with_reducible apply settle_frame) | (with_reducible apply claimConflict_frame)
    | (with_reducible apply peerClaimed_frame) | (with_reducible apply State.set_frame) | extract_lets | split
    | (dsimp -zeta only) | (dsimp +zetaDelta -zeta only)

theorem execClaimKeeperExpiry_frame {m : Nat} {s0 s : State} (hm : sub 0x1DEDF5123 m = true) (h : Frame m s0 s) (asnTest : Bool) :
    OutFrame m s0 (execClaimKeeperExpiry asnTest s) := by
  unfold execClaimKeeperExpiry
  repeat' first
    | (with_reducible assumption) | (exact sub_trans rfl hm) | intro _ | (with_reducible apply OutFrame.next)
    | (with_reducible apply OutFrame.ite) | (with_reducible apply Frame.ite) | (with_reducible apply Frame.ite_fst)
    | (with_reducible apply State.reach_frame) | (with_reducible apply State.putPair_frame)
    | (with_reducible apply settle_frame) | (with_reducible apply endClaim_frame) | (with_reducible apply State.bump_frame)
    | extract_lets | split | (dsimp -zeta only) | (dsimp +zetaDelta -zeta only)

theorem execPairKeepWrite_frame {m : Nat} {s0 s : State} (hm : sub 0x4000000 m = true) (h : Frame m s0 s) (q : Requester) :
    OutFrame m s0 (execPairKeepWrite q s) := by
  unfold execPairKeepWrite
  repeat' first
    | (with_reducible assumption) | (exact sub_trans rfl hm) | intro _ | (with_reducible apply OutFrame.next)
    | (with_reducible apply OutFrame.ite) | (with_reducible apply Frame.ite) | (with_reducible apply Frame.ite_fst)
    | (with_reducible apply State.putPair_frame) | extract_lets | split | (dsimp -zeta only) | (dsimp +zetaDelta -zeta only)

theorem lostLink_frame {m : Nat} {s0 s : State} (hm : sub 0x19EDF5123 m = true) (h : Frame m s0 s) (cause : Nat) :
    Frame m s0 (lostLink s cause) := by
  unfold lostLink
  repeat' first
    | (with_reducible assumption) | (exact sub_trans rfl hm) | intro _ | (with_reducible apply settle_frame)
    | (with_reducible apply linkLost_frame) | extract_lets | split | (dsimp -zeta only) | (dsimp +zetaDelta -zeta only)

theorem takeAcks_frame {m : Nat} {s0 s : State} (hm : sub 0x4000000 m = true) (h : Frame m s0 s) (acks : List Nat) :
    Frame m s0 (takeAcks s acks) := by
  unfold takeAcks
  repeat' first
    | (with_reducible assumption) | (exact sub_trans rfl hm) | intro _ | (with_reducible apply State.putPair_frame)
    | extract_lets | split | (dsimp -zeta only) | (dsimp +zetaDelta -zeta only)

theorem execHjLinkFrameRx_frame {m : Nat} {s0 s : State} (hm : sub 0x19EFFF927 m = true) (h : Frame m s0 s) (seq : Nat) (good : Bool) (acks : List Nat) (records : List MirrorRecord) :
    OutFrame m s0 (execHjLinkFrameRx seq good acks records s) := by
  unfold execHjLinkFrameRx
  repeat' first
    | (with_reducible assumption) | (exact sub_trans rfl hm) | intro _ | (with_reducible apply OutFrame.next)
    | (with_reducible apply OutFrame.ite) | (with_reducible apply Frame.ite) | (with_reducible apply Frame.ite_fst)
    | (with_reducible apply takeAcks_frame) | (with_reducible apply State.putPair_frame)
    | (with_reducible apply State.emit_frame) | (with_reducible apply applyRecord_frame) | (with_reducible apply Frame.fold)
    | extract_lets | split | (dsimp -zeta only) | (dsimp +zetaDelta -zeta only)

theorem execHjRetryTimeout_frame {m : Nat} {s0 s : State} (hm : sub 0x19EDF5123 m = true) (h : Frame m s0 s) (seq : Nat) :
    OutFrame m s0 (execHjRetryTimeout seq s) := by
  unfold execHjRetryTimeout
  repeat' first
    | (with_reducible assumption) | (exact sub_trans rfl hm) | intro _ | (with_reducible apply OutFrame.next)
    | (with_reducible apply OutFrame.ite) | (with_reducible apply Frame.ite) | (with_reducible apply Frame.ite_fst)
    | (with_reducible apply lostLink_frame) | (with_reducible apply State.putPair_frame)
    | (with_reducible apply State.bump_frame) | (with_reducible apply State.emit_frame) | extract_lets | split
    | (dsimp -zeta only) | (dsimp +zetaDelta -zeta only)

theorem execHjIdleTimeout_frame {m : Nat} {s0 s : State} (hm : sub 0x1DEDF5123 m = true) (h : Frame m s0 s) :
    OutFrame m s0 (execHjIdleTimeout s) := by
  unfold execHjIdleTimeout
  repeat' first
    | (with_reducible assumption) | (exact sub_trans rfl hm) | intro _ | (with_reducible apply OutFrame.next)
    | (with_reducible apply OutFrame.ite) | (with_reducible apply Frame.ite) | (with_reducible apply Frame.ite_fst)
    | (with_reducible apply State.reach_frame) | (with_reducible apply lostLink_frame) | (with_reducible apply State.drew_frame)
    | extract_lets | split | (dsimp -zeta only) | (dsimp +zetaDelta -zeta only)

theorem execHjControlTimer_frame {m : Nat} {s0 s : State} (hm : sub 0x104000001 m = true) (h : Frame m s0 s) :
    OutFrame m s0 (execHjControlTimer s) := by
  unfold execHjControlTimer
  repeat' first
    | (with_reducible assumption) | (exact sub_trans rfl hm) | intro _ | (with_reducible apply OutFrame.next)
    | (with_reducible apply OutFrame.ite) | (with_reducible apply Frame.ite) | (with_reducible apply Frame.ite_fst)
    | (with_reducible apply sendControl_frame) | extract_lets | split | (dsimp -zeta only) | (dsimp +zetaDelta -zeta only)

theorem trainingFails_frame {m : Nat} {s0 s : State} (hm : sub 0x80840021 m = true) (h : Frame m s0 s) (cause : Nat) :
    Frame m s0 (trainingFails s cause) := by
  unfold trainingFails
  repeat' first
    | (with_reducible assumption) | (exact sub_trans rfl hm) | intro _ | (with_reducible apply postEvent_frame) | extract_lets
    | split | (dsimp -zeta only) | (dsimp +zetaDelta -zeta only)

theorem linkTrained_frame {m : Nat} {s0 s : State} (hm : sub 0x184840021 m = true) (h : Frame m s0 s) (lanes : Nat) (key : BitVec 128) (ifv : Nat) (vector : List (Nat × Nat × Nat)) (fits : Bool) :
    Frame m s0 (linkTrained s lanes key ifv vector fits) := by
  unfold linkTrained
  repeat' first
    | (with_reducible assumption) | (exact sub_trans rfl hm) | intro _ | (with_reducible apply Frame.ite)
    | (with_reducible apply Frame.ite_fst) | (with_reducible apply State.set_frame) | (with_reducible apply State.putPair_frame)
    | (with_reducible apply postEvent_frame) | (with_reducible apply offerResync_frame) | (with_reducible apply setRole_frame)
    | extract_lets | split | (dsimp -zeta only) | (dsimp +zetaDelta -zeta only)

theorem execHjTrainingDone_frame {m : Nat} {s0 s : State} (hm : sub 0x184840021 m = true) (h : Frame m s0 s) (lanes inversions peerId : Nat) (nonce tag : List Byte) (ncsLog slotLen sfCode ifv : Nat) (vector : List (Nat × Nat × Nat)) :
    OutFrame m s0 (execHjTrainingDone lanes inversions peerId nonce tag ncsLog slotLen sfCode ifv vector s) := by
  unfold execHjTrainingDone
  repeat' first
    | (with_reducible assumption) | (exact sub_trans rfl hm) | intro _ | (with_reducible apply OutFrame.next)
    | (with_reducible apply OutFrame.ite) | (with_reducible apply Frame.ite) | (with_reducible apply Frame.ite_fst)
    | (with_reducible apply State.emit_frame) | (with_reducible apply State.set_frame)
    | (with_reducible apply trainingFails_frame) | (with_reducible apply State.drew_frame)
    | (with_reducible apply State.putPair_frame) | (with_reducible apply linkTrained_frame) | extract_lets | split
    | (dsimp -zeta only) | (dsimp +zetaDelta -zeta only)

theorem execHjRetrainTimer_frame {m : Nat} {s0 s : State} (hm : sub 0x44080000 m = true) (h : Frame m s0 s) :
    OutFrame m s0 (execHjRetrainTimer s) := by
  unfold execHjRetrainTimer
  repeat' first
    | (with_reducible assumption) | (exact sub_trans rfl hm) | intro _ | (with_reducible apply OutFrame.next)
    | (with_reducible apply OutFrame.ite) | (with_reducible apply State.reach_frame)
    | (with_reducible apply State.putPair_frame) | extract_lets | split | (dsimp -zeta only) | (dsimp +zetaDelta -zeta only)

theorem execHjTimeExchange_frame {m : Nat} {s0 s : State} (hm : sub 0x1 m = true) (h : Frame m s0 s) (sent peerGot peerSent got : Nat) :
    OutFrame m s0 (execHjTimeExchange sent peerGot peerSent got s) := by
  unfold execHjTimeExchange
  repeat' first
    | (with_reducible assumption) | (exact sub_trans rfl hm) | intro _ | (with_reducible apply OutFrame.next)
    | (with_reducible apply OutFrame.ite) | (with_reducible apply Frame.ite) | (with_reducible apply Frame.ite_fst)
    | (with_reducible apply State.setI_frame) | extract_lets | split | (dsimp -zeta only) | (dsimp +zetaDelta -zeta only)

theorem execMirrorNcsChange_frame {m : Nat} {s0 s : State} (hm : sub 0x19EFFF927 m = true) (h : Frame m s0 s) (node mask : Nat) (bytes : List Byte) :
    OutFrame m s0 (execMirrorNcsChange node mask bytes s) := by
  unfold execMirrorNcsChange
  repeat' first
    | (with_reducible assumption) | (exact sub_trans rfl hm) | intro _ | (with_reducible apply OutFrame.next)
    | (with_reducible apply OutFrame.ite) | (with_reducible apply applyRecord_frame) | extract_lets | split | (dsimp -zeta only)
    | (dsimp +zetaDelta -zeta only)

theorem execMirrorReservation_frame {m : Nat} {s0 s : State} (hm : sub 0x19EFFF927 m = true) (h : Frame m s0 s) (node : Nat) (district : Bool) (block : Nat) :
    OutFrame m s0 (execMirrorReservation node district block s) := by
  unfold execMirrorReservation
  repeat' first
    | (with_reducible assumption) | (exact sub_trans rfl hm) | intro _ | (with_reducible apply OutFrame.next)
    | (with_reducible apply OutFrame.ite) | (with_reducible apply applyRecord_frame) | extract_lets | split | (dsimp -zeta only)
    | (dsimp +zetaDelta -zeta only)

theorem execMirrorCrimsonEnqueue_frame {m : Nat} {s0 s : State} (hm : sub 0x19EFFF927 m = true) (h : Frame m s0 s) (frame : TxFrame) :
    OutFrame m s0 (execMirrorCrimsonEnqueue frame s) := by
  unfold execMirrorCrimsonEnqueue
  repeat' first
    | (with_reducible assumption) | (exact sub_trans rfl hm) | intro _ | (with_reducible apply OutFrame.next)
    | (with_reducible apply OutFrame.ite) | (with_reducible apply applyRecord_frame) | extract_lets | split | (dsimp -zeta only)
    | (dsimp +zetaDelta -zeta only)

theorem execMirrorCrimsonDequeue_frame {m : Nat} {s0 s : State} (hm : sub 0x19EFFF927 m = true) (h : Frame m s0 s) (ident : Nat) :
    OutFrame m s0 (execMirrorCrimsonDequeue ident s) := by
  unfold execMirrorCrimsonDequeue
  repeat' first
    | (with_reducible assumption) | (exact sub_trans rfl hm) | intro _ | (with_reducible apply OutFrame.next)
    | (with_reducible apply OutFrame.ite) | (with_reducible apply applyRecord_frame) | extract_lets | split | (dsimp -zeta only)
    | (dsimp +zetaDelta -zeta only)

theorem execMirrorTreeState_frame {m : Nat} {s0 s : State} (hm : sub 0x19EFFF927 m = true) (h : Frame m s0 s) (op : Nat) (args : List Nat) :
    OutFrame m s0 (execMirrorTreeState op args s) := by
  unfold execMirrorTreeState
  repeat' first
    | (with_reducible assumption) | (exact sub_trans rfl hm) | intro _ | (with_reducible apply OutFrame.next)
    | (with_reducible apply OutFrame.ite) | (with_reducible apply applyRecord_frame) | extract_lets | split | (dsimp -zeta only)
    | (dsimp +zetaDelta -zeta only)

theorem execMirrorScheduleEpoch_frame {m : Nat} {s0 s : State} (hm : sub 0x19EFFF927 m = true) (h : Frame m s0 s) (number asn : Nat) (fields : List (Nat × Nat)) :
    OutFrame m s0 (execMirrorScheduleEpoch number asn fields s) := by
  unfold execMirrorScheduleEpoch
  repeat' first
    | (with_reducible assumption) | (exact sub_trans rfl hm) | intro _ | (with_reducible apply OutFrame.next)
    | (with_reducible apply OutFrame.ite) | (with_reducible apply applyRecord_frame) | extract_lets | split | (dsimp -zeta only)
    | (dsimp +zetaDelta -zeta only)

theorem execMirrorBulkClear_frame {m : Nat} {s0 s : State} (hm : sub 0x19EFFF927 m = true) (h : Frame m s0 s) (requester : Nat) :
    OutFrame m s0 (execMirrorBulkClear requester s) := by
  unfold execMirrorBulkClear
  repeat' first
    | (with_reducible assumption) | (exact sub_trans rfl hm) | intro _ | (with_reducible apply OutFrame.next)
    | (with_reducible apply OutFrame.ite) | (with_reducible apply applyRecord_frame) | extract_lets | split | (dsimp -zeta only)
    | (dsimp +zetaDelta -zeta only)

theorem execMirrorControl_frame {m : Nat} {s0 s : State} (hm : sub 0x19EFFF927 m = true) (h : Frame m s0 s) (kind role : Nat) (claiming hold : Bool) (asn nodeMin : Nat) :
    OutFrame m s0 (execMirrorControl kind role claiming hold asn nodeMin s) := by
  unfold execMirrorControl
  repeat' first
    | (with_reducible assumption) | (exact sub_trans rfl hm) | intro _ | (with_reducible apply OutFrame.next)
    | (with_reducible apply OutFrame.ite) | (with_reducible apply applyRecord_frame) | extract_lets | split | (dsimp -zeta only)
    | (dsimp +zetaDelta -zeta only)

theorem execPeerFetchRequest_frame {m : Nat} {s0 s : State} (hm : sub 0x100000000 m = true) (h : Frame m s0 s) (line : Nat) :
    OutFrame m s0 (execPeerFetchRequest line s) := by
  unfold execPeerFetchRequest
  repeat' first
    | (with_reducible assumption) | (exact sub_trans rfl hm) | intro _ | (with_reducible apply OutFrame.next)
    | (with_reducible apply OutFrame.ite) | (with_reducible apply Frame.ite) | (with_reducible apply Frame.ite_fst)
    | (with_reducible apply State.emit_frame) | extract_lets | split | (dsimp -zeta only) | (dsimp +zetaDelta -zeta only)

theorem execResyncLineRx_frame {m : Nat} {s0 s : State} (hm : sub 0x19EFFF927 m = true) (h : Frame m s0 s) (line : Nat) (bytes : List Byte) :
    OutFrame m s0 (execResyncLineRx line bytes s) := by
  unfold execResyncLineRx
  repeat' first
    | (with_reducible assumption) | (exact sub_trans rfl hm) | intro _ | (with_reducible apply OutFrame.next)
    | (with_reducible apply OutFrame.ite) | (with_reducible apply applyRecord_frame) | extract_lets | split | (dsimp -zeta only)
    | (dsimp +zetaDelta -zeta only)

theorem sendDirty_frame {m : Nat} {s0 s : State} (hm : sub 0x104000001 m = true) (h : Frame m s0 s) :
    Frame m s0 (sendDirty s) := by
  unfold sendDirty
  repeat' first
    | (with_reducible assumption) | (exact sub_trans rfl hm) | intro _ | (with_reducible apply State.putPair_frame)
    | (with_reducible apply State.set_frame) | (with_reducible apply sendRecord_frame) | (with_reducible apply Frame.fold)
    | extract_lets | split | (dsimp -zeta only) | (dsimp +zetaDelta -zeta only)

theorem execResyncPassEnd_frame {m : Nat} {s0 s : State} (hm : sub 0x186840021 m = true) (h : Frame m s0 s) (more : Bool) (misread : List (Nat × Nat)) :
    OutFrame m s0 (execResyncPassEnd more misread s) := by
  unfold execResyncPassEnd
  repeat' first
    | (with_reducible assumption) | (exact sub_trans rfl hm) | intro _ | (with_reducible apply OutFrame.next)
    | (with_reducible apply OutFrame.ite) | (with_reducible apply Frame.ite) | (with_reducible apply Frame.ite_fst)
    | (with_reducible apply tileFailed_frame) | (with_reducible apply resyncDone_frame) | (with_reducible apply sendDirty_frame)
    | (with_reducible apply Frame.fold) | extract_lets | split | (dsimp -zeta only) | (dsimp +zetaDelta -zeta only)

theorem pairResult_frame {m : Nat} {s0 s : State} (hm : sub 0x1 m = true) (h : Frame m s0 s) (r : Nat) :
    Frame m s0 (pairResult s r) := by
  unfold pairResult
  repeat' first
    | (with_reducible assumption) | (exact sub_trans rfl hm) | intro _ | (with_reducible apply State.set_frame) | extract_lets
    | split | (dsimp -zeta only) | (dsimp +zetaDelta -zeta only)

theorem execPairPlannedSwitchover_frame {m : Nat} {s0 s : State} (hm : sub 0x4000001 m = true) (h : Frame m s0 s) :
    OutFrame m s0 (execPairPlannedSwitchover s) := by
  unfold execPairPlannedSwitchover
  repeat' first
    | (with_reducible assumption) | (exact sub_trans rfl hm) | intro _ | (with_reducible apply OutFrame.next)
    | (with_reducible apply OutFrame.ite) | (with_reducible apply Frame.ite) | (with_reducible apply Frame.ite_fst)
    | (with_reducible apply startPlanned_frame) | (with_reducible apply pairResult_frame) | extract_lets | split
    | (dsimp -zeta only) | (dsimp +zetaDelta -zeta only)

theorem execPairRestartResync_frame {m : Nat} {s0 s : State} (hm : sub 0x104000001 m = true) (h : Frame m s0 s) :
    OutFrame m s0 (execPairRestartResync s) := by
  unfold execPairRestartResync
  repeat' first
    | (with_reducible assumption) | (exact sub_trans rfl hm) | intro _ | (with_reducible apply OutFrame.next)
    | (with_reducible apply OutFrame.ite) | (with_reducible apply Frame.ite) | (with_reducible apply Frame.ite_fst)
    | (with_reducible apply pairResult_frame) | (with_reducible apply startResync_frame) | extract_lets | split
    | (dsimp -zeta only) | (dsimp +zetaDelta -zeta only)

theorem execPairHold_frame {m : Nat} {s0 s : State} (hm : sub 0x84840021 m = true) (h : Frame m s0 s) :
    OutFrame m s0 (execPairHold s) := by
  unfold execPairHold
  repeat' first
    | (with_reducible assumption) | (exact sub_trans rfl hm) | intro _ | (with_reducible apply OutFrame.next)
    | (with_reducible apply OutFrame.ite) | (with_reducible apply Frame.ite) | (with_reducible apply Frame.ite_fst)
    | (with_reducible apply pairResult_frame) | (with_reducible apply clearSwitchover_frame)
    | (with_reducible apply dropSync_frame) | (with_reducible apply State.set_frame) | (with_reducible apply takeRole_frame)
    | extract_lets | split | (dsimp -zeta only) | (dsimp +zetaDelta -zeta only)

theorem execPairResume_frame {m : Nat} {s0 s : State} (hm : sub 0x1 m = true) (h : Frame m s0 s) :
    OutFrame m s0 (execPairResume s) := by
  unfold execPairResume
  repeat' first
    | (with_reducible assumption) | (exact sub_trans rfl hm) | intro _ | (with_reducible apply OutFrame.next)
    | (with_reducible apply OutFrame.ite) | (with_reducible apply Frame.ite) | (with_reducible apply Frame.ite_fst)
    | (with_reducible apply pairResult_frame) | (with_reducible apply State.set_frame) | extract_lets | split
    | (dsimp -zeta only) | (dsimp +zetaDelta -zeta only)

theorem execSwitchoverBoundary_frame {m : Nat} {s0 s : State} (hm : sub 0x184840021 m = true) (h : Frame m s0 s) :
    OutFrame m s0 (execSwitchoverBoundary s) := by
  unfold execSwitchoverBoundary
  repeat' first
    | (with_reducible assumption) | (exact sub_trans rfl hm) | intro _ | (with_reducible apply OutFrame.next)
    | (with_reducible apply OutFrame.ite) | (with_reducible apply Frame.ite) | (with_reducible apply Frame.ite_fst)
    | (with_reducible apply postEvent_frame) | (with_reducible apply State.putPair_frame)
    | (with_reducible apply sendControl_frame) | extract_lets | split | (dsimp -zeta only) | (dsimp +zetaDelta -zeta only)

theorem execHandoverAck_frame {m : Nat} {s0 s : State} (hm : sub 0x186D7D121 m = true) (h : Frame m s0 s) :
    OutFrame m s0 (execHandoverAck s) := by
  unfold execHandoverAck
  repeat' first
    | (with_reducible assumption) | (exact sub_trans rfl hm) | intro _ | (with_reducible apply OutFrame.next)
    | (with_reducible apply OutFrame.ite) | (with_reducible apply Frame.ite) | (with_reducible apply Frame.ite_fst)
    | (with_reducible apply State.putPair_frame) | (with_reducible apply dropLower_frame)
    | (with_reducible apply releaseClaim_frame) | extract_lets | split | (dsimp -zeta only) | (dsimp +zetaDelta -zeta only)

theorem execSwitchoverRewriteDone_frame {m : Nat} {s0 s : State} (hm : sub 0x19EFF5123 m = true) (h : Frame m s0 s) :
    OutFrame m s0 (execSwitchoverRewriteDone s) := by
  unfold execSwitchoverRewriteDone
  repeat' first
    | (with_reducible assumption) | (exact sub_trans rfl hm) | intro _ | (with_reducible apply OutFrame.next)
    | (with_reducible apply OutFrame.ite) | (with_reducible apply Frame.ite) | (with_reducible apply Frame.ite_fst)
    | (with_reducible apply switchDone_frame) | (with_reducible apply rewriteCounters_frame)
    | (with_reducible apply settle_frame) | (with_reducible apply setRole_frame) | extract_lets | split | (dsimp -zeta only)
    | (dsimp +zetaDelta -zeta only)

theorem execSwitchoverReclaimTimer_frame {m : Nat} {s0 s : State} (hm : sub 0x44080000 m = true) (h : Frame m s0 s) :
    OutFrame m s0 (execSwitchoverReclaimTimer s) := by
  unfold execSwitchoverReclaimTimer
  repeat' first
    | (with_reducible assumption) | (exact sub_trans rfl hm) | intro _ | (with_reducible apply OutFrame.next)
    | (with_reducible apply OutFrame.ite) | (with_reducible apply Frame.ite) | (with_reducible apply Frame.ite_fst)
    | (with_reducible apply State.reach_frame) | (with_reducible apply State.putPair_frame) | extract_lets | split
    | (dsimp -zeta only) | (dsimp +zetaDelta -zeta only)

end Sys2Proof.Machine
end

