-- ==== Sys2Proof/Laws/FramePower.lean ====
section
/-!
SUPPORT. Which components the operations of Machine/Power.lean may change (`Frame`).
-/

namespace Sys2Proof.Machine

set_option linter.unusedVariables false
set_option linter.unusedTactic false
set_option linter.unreachableTactic false

theorem execPwrLevelWrite_frame {m : Nat} {s0 s : State} (hm : sub 0x10000001 m = true) (h : Frame m s0 s) (q : Requester) (v : Nat) :
    OutFrame m s0 (execPwrLevelWrite q v s) := by
  unfold execPwrLevelWrite
  repeat' first
    | (with_reducible assumption) | (exact sub_trans rfl hm) | intro _ | (with_reducible apply OutFrame.next)
    | (with_reducible apply OutFrame.ite) | (with_reducible apply Frame.ite) | (with_reducible apply Frame.ite_fst)
    | (with_reducible apply State.set_frame) | (with_reducible apply startChange_frame) | extract_lets | split
    | (dsimp -zeta only) | (dsimp +zetaDelta -zeta only)

theorem execPlClockSwitchTimer_frame {m : Nat} {s0 s : State} (hm : sub 0x50080000 m = true) (h : Frame m s0 s) :
    OutFrame m s0 (execPlClockSwitchTimer s) := by
  unfold execPlClockSwitchTimer
  repeat' first
    | (with_reducible assumption) | (exact sub_trans rfl hm) | intro _ | (with_reducible apply OutFrame.next)
    | (with_reducible apply OutFrame.ite) | (with_reducible apply Frame.ite) | (with_reducible apply Frame.ite_fst)
    | (with_reducible apply State.reach_frame) | (with_reducible apply State.putPwr_frame) | extract_lets | split
    | (dsimp -zeta only) | (dsimp +zetaDelta -zeta only)

theorem execPlChangeDone_frame {m : Nat} {s0 s : State} (hm : sub 0x90840021 m = true) (h : Frame m s0 s) :
    OutFrame m s0 (execPlChangeDone s) := by
  unfold execPlChangeDone
  repeat' first
    | (with_reducible assumption) | (exact sub_trans rfl hm) | intro _ | (with_reducible apply OutFrame.next)
    | (with_reducible apply OutFrame.ite) | (with_reducible apply Frame.ite) | (with_reducible apply Frame.ite_fst)
    | (with_reducible apply State.putPwr_frame) | (with_reducible apply State.set_frame)
    | (with_reducible apply State.bumpWrap_frame) | (with_reducible apply postEvent_frame)
    | (with_reducible apply startChange_frame) | extract_lets | split | (dsimp -zeta only) | (dsimp +zetaDelta -zeta only)

theorem thermalWarn_frame {m : Nat} {s0 s : State} (hm : sub 0x80840021 m = true) (h : Frame m s0 s) (level : Nat) :
    Frame m s0 (thermalWarn s level) := by
  unfold thermalWarn
  repeat' first
    | (with_reducible assumption) | (exact sub_trans rfl hm) | intro _ | (with_reducible apply postEvent_frame) | extract_lets
    | split | (dsimp -zeta only) | (dsimp +zetaDelta -zeta only)

theorem throttle_frame {m : Nat} {s0 s : State} (hm : sub 0x90840021 m = true) (h : Frame m s0 s) :
    Frame m s0 (throttle s) := by
  unfold throttle
  repeat' first
    | (with_reducible assumption) | (exact sub_trans rfl hm) | intro _ | (with_reducible apply thermalWarn_frame)
    | (with_reducible apply State.set_frame) | (with_reducible apply State.bump_frame)
    | (with_reducible apply startChange_frame) | extract_lets | split | (dsimp -zeta only) | (dsimp +zetaDelta -zeta only)

theorem execTempSample_frame {m : Nat} {s0 s : State} (hm : sub 0x90840021 m = true) (h : Frame m s0 s) (tj : Int) :
    OutFrame m s0 (execTempSample tj s) := by
  unfold execTempSample
  repeat' first
    | (with_reducible assumption) | (exact sub_trans rfl hm) | intro _ | (with_reducible apply OutFrame.next)
    | (with_reducible apply OutFrame.ite) | (with_reducible apply Frame.ite) | (with_reducible apply Frame.ite_fst)
    | (with_reducible apply State.setI_frame) | (with_reducible apply thermalWarn_frame)
    | (with_reducible apply State.putPwr_frame) | (with_reducible apply throttle_frame) | extract_lets | split
    | (dsimp -zeta only) | (dsimp +zetaDelta -zeta only)

theorem execThrottleReleaseTimer_frame {m : Nat} {s0 s : State} (hm : sub 0xD08C0021 m = true) (h : Frame m s0 s) :
    OutFrame m s0 (execThrottleReleaseTimer s) := by
  unfold execThrottleReleaseTimer
  repeat' first
    | (with_reducible assumption) | (exact sub_trans rfl hm) | intro _ | (with_reducible apply OutFrame.next)
    | (with_reducible apply OutFrame.ite) | (with_reducible apply Frame.ite) | (with_reducible apply Frame.ite_fst)
    | (with_reducible apply State.reach_frame) | (with_reducible apply State.putPwr_frame)
    | (with_reducible apply State.set_frame) | (with_reducible apply thermalWarn_frame)
    | (with_reducible apply startChange_frame) | extract_lets | split | (dsimp -zeta only) | (dsimp +zetaDelta -zeta only)

theorem execPaleEnter_frame {m : Nat} {s0 s : State} (hm : sub 0x10800001 m = true) (h : Frame m s0 s) :
    OutFrame m s0 (execPaleEnter s) := by
  unfold execPaleEnter
  repeat' first
    | (with_reducible assumption) | (exact sub_trans rfl hm) | intro _ | (with_reducible apply OutFrame.next)
    | (with_reducible apply OutFrame.ite) | (with_reducible apply Frame.ite) | (with_reducible apply Frame.ite_fst)
    | (with_reducible apply State.putApp_frame) | (with_reducible apply setLfMode_frame)
    | (with_reducible apply State.putPwr_frame) | extract_lets | split | (dsimp -zeta only) | (dsimp +zetaDelta -zeta only)

theorem execPaleExit_frame {m : Nat} {s0 s : State} (hm : sub 0x10880001 m = true) (h : Frame m s0 s) (debugger : Bool) (periods : Nat) :
    OutFrame m s0 (execPaleExit debugger periods s) := by
  unfold execPaleExit
  repeat' first
    | (with_reducible assumption) | (exact sub_trans rfl hm) | intro _ | (with_reducible apply OutFrame.next)
    | (with_reducible apply OutFrame.ite) | (with_reducible apply Frame.ite) | (with_reducible apply Frame.ite_fst)
    | (with_reducible apply State.putApp_frame) | (with_reducible apply State.putPwr_frame)
    | (with_reducible apply endLfMode_frame) | extract_lets | split | (dsimp -zeta only) | (dsimp +zetaDelta -zeta only)

theorem execPwrCmdSepia_frame {m : Nat} {s0 s : State} (hm : sub 0x14000001 m = true) (h : Frame m s0 s) (q : Requester) (key : Nat) :
    OutFrame m s0 (execPwrCmdSepia q key s) := by
  unfold execPwrCmdSepia
  repeat' first
    | (with_reducible assumption) | (exact sub_trans rfl hm) | intro _ | (with_reducible apply OutFrame.next)
    | (with_reducible apply OutFrame.ite) | (with_reducible apply Frame.ite) | (with_reducible apply Frame.ite_fst)
    | (with_reducible apply sleepCommand_frame) | extract_lets | split | (dsimp -zeta only) | (dsimp +zetaDelta -zeta only)

theorem execPwrCmdUmber_frame {m : Nat} {s0 s : State} (hm : sub 0x14000001 m = true) (h : Frame m s0 s) (q : Requester) (key : Nat) :
    OutFrame m s0 (execPwrCmdUmber q key s) := by
  unfold execPwrCmdUmber
  repeat' first
    | (with_reducible assumption) | (exact sub_trans rfl hm) | intro _ | (with_reducible apply OutFrame.next)
    | (with_reducible apply OutFrame.ite) | (with_reducible apply Frame.ite) | (with_reducible apply Frame.ite_fst)
    | (with_reducible apply sleepCommand_frame) | extract_lets | split | (dsimp -zeta only) | (dsimp +zetaDelta -zeta only)

theorem execSepiaEntry_frame {m : Nat} {s0 s : State} (hm : sub 0x1FFDFFFEB m = true) (h : Frame m s0 s) :
    OutFrame m s0 (execSepiaEntry s) := by
  unfold execSepiaEntry
  repeat' first
    | (with_reducible assumption) | (exact sub_trans rfl hm) | intro _ | (with_reducible apply OutFrame.next)
    | (with_reducible apply OutFrame.ite) | (with_reducible apply Frame.ite) | (with_reducible apply Frame.ite_fst)
    | (with_reducible apply enterSepia_frame) | (with_reducible apply State.advanceTo_frame) | extract_lets | split
    | (dsimp -zeta only) | (dsimp +zetaDelta -zeta only)

theorem execUmberEntry_frame {m : Nat} {s0 s : State} (hm : sub 0x1FFDFFFEB m = true) (h : Frame m s0 s) :
    OutFrame m s0 (execUmberEntry s) := by
  unfold execUmberEntry
  repeat' first
    | (with_reducible assumption) | (exact sub_trans rfl hm) | intro _ | (with_reducible apply OutFrame.next)
    | (with_reducible apply OutFrame.ite) | (with_reducible apply Frame.ite) | (with_reducible apply Frame.ite_fst)
    | (with_reducible apply enterUmber_frame) | (with_reducible apply State.advanceTo_frame) | extract_lets | split
    | (dsimp -zeta only) | (dsimp +zetaDelta -zeta only)

theorem latchWake_frame {m : Nat} {s0 s : State} (hm : sub 0x3FDFFFEB m = true) (h : Frame m s0 s) (src : Nat) :
    Frame m s0 (latchWake s src) := by
  unfold latchWake
  repeat' first
    | (with_reducible assumption) | (exact sub_trans rfl hm) | intro _ | (with_reducible apply Frame.ite)
    | (with_reducible apply Frame.ite_fst) | (with_reducible apply startExit_frame) | (with_reducible apply State.putPwr_frame)
    | extract_lets | split | (dsimp -zeta only) | (dsimp +zetaDelta -zeta only)

theorem execWakeSource_frame {m : Nat} {s0 s : State} (hm : sub 0x3FDFFFEB m = true) (h : Frame m s0 s) (src : Nat) :
    OutFrame m s0 (execWakeSource src s) := by
  unfold execWakeSource
  repeat' first
    | (with_reducible assumption) | (exact sub_trans rfl hm) | intro _ | (with_reducible apply OutFrame.next)
    | (with_reducible apply OutFrame.ite) | (with_reducible apply Frame.ite) | (with_reducible apply Frame.ite_fst)
    | (with_reducible apply latchWake_frame) | extract_lets | split | (dsimp -zeta only) | (dsimp +zetaDelta -zeta only)

theorem execSleepTimerExpiry_frame {m : Nat} {s0 s : State} (hm : sub 0x7FDFFFEB m = true) (h : Frame m s0 s) :
    OutFrame m s0 (execSleepTimerExpiry s) := by
  unfold execSleepTimerExpiry
  repeat' first
    | (with_reducible assumption) | (exact sub_trans rfl hm) | intro _ | (with_reducible apply OutFrame.next)
    | (with_reducible apply OutFrame.ite) | (with_reducible apply Frame.ite) | (with_reducible apply Frame.ite_fst)
    | (with_reducible apply latchWake_frame) | (with_reducible apply State.reach_frame) | extract_lets | split
    | (dsimp -zeta only) | (dsimp +zetaDelta -zeta only)

theorem execSepiaExitReady_frame {m : Nat} {s0 s : State} (hm : sub 0x1BFDFFFEB m = true) (h : Frame m s0 s) (crcOk : Bool) :
    OutFrame m s0 (execSepiaExitReady crcOk s) := by
  unfold execSepiaExitReady
  repeat' first
    | (with_reducible assumption) | (exact sub_trans rfl hm) | intro _ | (with_reducible apply OutFrame.next)
    | (with_reducible apply OutFrame.ite) | (with_reducible apply Frame.ite) | (with_reducible apply Frame.ite_fst)
    | (with_reducible apply sepiaReady_frame) | (with_reducible apply restoreFails_frame) | extract_lets | split
    | (dsimp -zeta only) | (dsimp +zetaDelta -zeta only)

end Sys2Proof.Machine
end

