-- ==== Sys2Proof/Laws/FramePsm.lean ====
section
/-!
SUPPORT. Which components the operations of Machine/Psm.lean may change (`Frame`).
-/

namespace Sys2Proof.Machine

set_option linter.unusedVariables false
set_option linter.unusedTactic false
set_option linter.unreachableTactic false

theorem execSlotBoundary_frame {m : Nat} {s0 s : State} (hm : sub 0x1DEFFF927 m = true) (h : Frame m s0 s) :
    OutFrame m s0 (execSlotBoundary s) := by
  unfold execSlotBoundary
  repeat' first
    | (with_reducible assumption) | (exact sub_trans rfl hm) | intro _ | (with_reducible apply OutFrame.next)
    | (with_reducible apply OutFrame.ite) | (with_reducible apply Frame.ite) | (with_reducible apply Frame.ite_fst)
    | (with_reducible apply boundaryDue_frame) | (with_reducible apply countBoundary_frame)
    | (with_reducible apply endSlot_frame) | (with_reducible apply countIdle_frame) | (with_reducible apply assignEngines_frame)
    | (with_reducible apply planExchanges_frame) | (with_reducible apply swapMicrocode_frame)
    | (with_reducible apply settle_frame) | (with_reducible apply autoRepair_frame) | (with_reducible apply issueSlot_frame)
    | (with_reducible apply slotOnPaths_frame) | extract_lets | split | (dsimp -zeta only) | (dsimp +zetaDelta -zeta only)

theorem execReceivedFrame_frame {m : Nat} {s0 s : State} (hm : sub 0x186F7E427 m = true) (h : Frame m s0 s) (cluster : Nat) (written : Bool) :
    OutFrame m s0 (execReceivedFrame cluster written s) := by
  unfold execReceivedFrame
  repeat' first
    | (with_reducible assumption) | (exact sub_trans rfl hm) | intro _ | (with_reducible apply OutFrame.next)
    | (with_reducible apply OutFrame.ite) | (with_reducible apply Frame.ite) | (with_reducible apply Frame.ite_fst)
    | (with_reducible apply consumeTag_frame) | (with_reducible apply dropReport_frame)
    | (with_reducible apply filterFrame_frame) | (with_reducible apply takeFrame_frame)
    | (with_reducible refine Frame.of_pair (by assumption) ?_) | extract_lets | split | (dsimp -zeta only)
    | (dsimp +zetaDelta -zeta only)

theorem execReplyWindowEnd_frame {m : Nat} {s0 s : State} (hm : sub 0x18697E021 m = true) (h : Frame m s0 s) (node : Nat) :
    OutFrame m s0 (execReplyWindowEnd node s) := by
  unfold execReplyWindowEnd
  repeat' first
    | (with_reducible assumption) | (exact sub_trans rfl hm) | intro _ | (with_reducible apply OutFrame.next)
    | (with_reducible apply OutFrame.ite) | (with_reducible apply Frame.ite) | (with_reducible apply Frame.ite_fst)
    | (with_reducible apply replyWindowEnds_frame) | extract_lets | split | (dsimp -zeta only) | (dsimp +zetaDelta -zeta only)

theorem execNodeAckWindowEnd_frame {m : Nat} {s0 s : State} (hm : sub 0x18697E021 m = true) (h : Frame m s0 s) (node : Nat) :
    OutFrame m s0 (execNodeAckWindowEnd node s) := by
  unfold execNodeAckWindowEnd
  repeat' first
    | (with_reducible assumption) | (exact sub_trans rfl hm) | intro _ | (with_reducible apply OutFrame.next)
    | (with_reducible apply OutFrame.ite) | (with_reducible apply Frame.ite) | (with_reducible apply Frame.ite_fst)
    | (with_reducible apply nodeAckMissed_frame) | extract_lets | split | (dsimp -zeta only) | (dsimp +zetaDelta -zeta only)

theorem ackJoin_frame {m : Nat} {s0 s : State} (hm : sub 0x24000 m = true) (h : Frame m s0 s) (k asn path ant dsn eui ended : Nat) :
    Frame m s0 (ackJoin s k asn path ant dsn eui ended) := by
  unfold ackJoin
  repeat' first
    | (with_reducible assumption) | (exact sub_trans rfl hm) | intro _ | (with_reducible apply storeFrame_frame)
    | (with_reducible apply planInterval_frame) | (with_reducible refine Frame.of_pair (by assumption) ?_) | extract_lets
    | split | (dsimp -zeta only) | (dsimp +zetaDelta -zeta only)

theorem takeJoin_frame {m : Nat} {s0 s : State} (hm : sub 0x18697E027 m = true) (h : Frame m s0 s) (f : RxFrame) (eui : Nat) (ie : List Byte) :
    Frame m s0 (takeJoin s f eui ie) := by
  unfold takeJoin
  repeat' first
    | (with_reducible assumption) | (exact sub_trans rfl hm) | intro _ | (with_reducible apply Frame.ite)
    | (with_reducible apply Frame.ite_fst) | (with_reducible apply State.bump_frame) | (with_reducible apply joinRequest_frame)
    | (with_reducible apply ackJoin_frame) | extract_lets | split | (dsimp -zeta only) | (dsimp +zetaDelta -zeta only)

theorem execJoinRequest_frame {m : Nat} {s0 s : State} (hm : sub 0x18697E027 m = true) (h : Frame m s0 s) (cluster : Nat) :
    OutFrame m s0 (execJoinRequest cluster s) := by
  unfold execJoinRequest
  repeat' first
    | (with_reducible assumption) | (exact sub_trans rfl hm) | intro _ | (with_reducible apply OutFrame.next)
    | (with_reducible apply OutFrame.ite) | (with_reducible apply Frame.ite) | (with_reducible apply Frame.ite_fst)
    | (with_reducible apply takeJoin_frame) | (with_reducible apply dropReport_frame) | extract_lets | split
    | (dsimp -zeta only) | (dsimp +zetaDelta -zeta only)

end Sys2Proof.Machine
end

