-- ==== Sys2Proof/Laws/FrameRadio.lean ====
section
/-!
SUPPORT. Which components the operations of Machine/Radio.lean may change (`Frame`).
-/

namespace Sys2Proof.Machine

set_option linter.unusedVariables false
set_option linter.unusedTactic false
set_option linter.unreachableTactic false

theorem execSynthLockAcquired_frame {m : Nat} {s0 s : State} (hm : sub 0x18697F921 m = true) (h : Frame m s0 s) (path : Nat) :
    OutFrame m s0 (execSynthLockAcquired path s) := by
  unfold execSynthLockAcquired
  repeat' first
    | (with_reducible assumption) | (exact sub_trans rfl hm) | intro _ | (with_reducible apply OutFrame.next)
    | (with_reducible apply OutFrame.ite) | (with_reducible apply Frame.ite) | (with_reducible apply Frame.ite_fst)
    | (with_reducible apply State.set_frame) | (with_reducible apply State.setPath_frame)
    | (with_reducible apply postEvent_frame) | (with_reducible apply unblankPath_frame)
    | (with_reducible apply startWaiting_frame) | extract_lets | split | (dsimp -zeta only) | (dsimp +zetaDelta -zeta only)

theorem execSynthLockLoss_frame {m : Nat} {s0 s : State} (hm : sub 0x186971121 m = true) (h : Frame m s0 s) (path : Nat) :
    OutFrame m s0 (execSynthLockLoss path s) := by
  unfold execSynthLockLoss
  repeat' first
    | (with_reducible assumption) | (exact sub_trans rfl hm) | intro _ | (with_reducible apply OutFrame.next)
    | (with_reducible apply OutFrame.ite) | (with_reducible apply Frame.ite) | (with_reducible apply Frame.ite_fst)
    | (with_reducible apply State.set_frame) | (with_reducible apply State.bump_frame)
    | (with_reducible apply abortInterval_frame) | (with_reducible apply blankPath_frame) | extract_lets | split
    | (dsimp -zeta only) | (dsimp +zetaDelta -zeta only)

theorem execLockTimeout_frame {m : Nat} {s0 s : State} (hm : sub 0x80840121 m = true) (h : Frame m s0 s) (path : Nat) :
    OutFrame m s0 (execLockTimeout path s) := by
  unfold execLockTimeout
  repeat' first
    | (with_reducible assumption) | (exact sub_trans rfl hm) | intro _ | (with_reducible apply OutFrame.next)
    | (with_reducible apply OutFrame.ite) | (with_reducible apply Frame.ite) | (with_reducible apply Frame.ite_fst)
    | (with_reducible apply State.setPath_frame) | (with_reducible apply State.set_frame)
    | (with_reducible apply postEvent_frame) | (with_reducible apply State.bump_frame) | extract_lets | split
    | (dsimp -zeta only) | (dsimp +zetaDelta -zeta only)

theorem execOosRetuneRetry_frame {m : Nat} {s0 s : State} (hm : sub 0x101 m = true) (h : Frame m s0 s) (path : Nat) :
    OutFrame m s0 (execOosRetuneRetry path s) := by
  unfold execOosRetuneRetry
  repeat' first
    | (with_reducible assumption) | (exact sub_trans rfl hm) | intro _ | (with_reducible apply OutFrame.next)
    | (with_reducible apply OutFrame.ite) | (with_reducible apply Frame.ite) | (with_reducible apply Frame.ite_fst)
    | (with_reducible apply retune_frame) | extract_lets | split | (dsimp -zeta only) | (dsimp +zetaDelta -zeta only)

theorem resumeSlice_frame {m : Nat} {s0 s : State} (hm : sub 0x101 m = true) (h : Frame m s0 s) (n : Nat) :
    Frame m s0 (resumeSlice s n) := by
  unfold resumeSlice
  repeat' first
    | (with_reducible assumption) | (exact sub_trans rfl hm) | intro _ | (with_reducible apply Frame.ite)
    | (with_reducible apply Frame.ite_fst) | (with_reducible apply sliceWaits_frame) | extract_lets | split | (dsimp -zeta only)
    | (dsimp +zetaDelta -zeta only)

theorem execTxIntervalStart_frame {m : Nat} {s0 s : State} (hm : sub 0x1C69FF921 m = true) (h : Frame m s0 s) (path : Nat) :
    OutFrame m s0 (execTxIntervalStart path s) := by
  unfold execTxIntervalStart
  repeat' first
    | (with_reducible assumption) | (exact sub_trans rfl hm) | intro _ | (with_reducible apply OutFrame.next)
    | (with_reducible apply OutFrame.ite) | (with_reducible apply Frame.ite) | (with_reducible apply Frame.ite_fst)
    | (with_reducible apply teGiveBack_frame) | (with_reducible apply State.advanceTo_frame)
    | (with_reducible apply blankPath_frame) | (with_reducible apply calPreempt_frame)
    | (with_reducible apply State.setTe_frame) | (with_reducible apply State.set_frame)
    | (with_reducible apply State.setPath_frame) | (with_reducible apply startWaiting_frame) | (with_reducible apply Frame.fold)
    | extract_lets | split | (dsimp -zeta only) | (dsimp +zetaDelta -zeta only)

theorem execTxLatestStartExpiry_frame {m : Nat} {s0 s : State} (hm : sub 0x186971921 m = true) (h : Frame m s0 s) (path : Nat) :
    OutFrame m s0 (execTxLatestStartExpiry path s) := by
  unfold execTxLatestStartExpiry
  repeat' first
    | (with_reducible assumption) | (exact sub_trans rfl hm) | intro _ | (with_reducible apply OutFrame.next)
    | (with_reducible apply OutFrame.ite) | (with_reducible apply Frame.ite) | (with_reducible apply Frame.ite_fst)
    | (with_reducible apply bumpTrx_frame) | (with_reducible apply dropInterval_frame) | (with_reducible apply postEvent_frame)
    | (with_reducible apply resumeSlice_frame) | (with_reducible apply unblankPath_frame) | extract_lets | split
    | (dsimp -zeta only) | (dsimp +zetaDelta -zeta only)

theorem execBlankingEnd_frame {m : Nat} {s0 s : State} (hm : sub 0x80840921 m = true) (h : Frame m s0 s) (path : Nat) :
    OutFrame m s0 (execBlankingEnd path s) := by
  unfold execBlankingEnd
  repeat' first
    | (with_reducible assumption) | (exact sub_trans rfl hm) | intro _ | (with_reducible apply OutFrame.next)
    | (with_reducible apply OutFrame.ite) | (with_reducible apply Frame.ite) | (with_reducible apply Frame.ite_fst)
    | (with_reducible apply unblankPath_frame) | (with_reducible apply frontEndReceive_frame)
    | (with_reducible apply State.setPath_frame) | (with_reducible apply viewTone_frame)
    | (with_reducible apply resumeSlice_frame) | extract_lets | split | (dsimp -zeta only) | (dsimp +zetaDelta -zeta only)

theorem execCalYieldRequest_frame {m : Nat} {s0 s : State} (hm : sub 0x80840921 m = true) (h : Frame m s0 s) (path : Nat) :
    OutFrame m s0 (execCalYieldRequest path s) := by
  unfold execCalYieldRequest
  repeat' first
    | (with_reducible assumption) | (exact sub_trans rfl hm) | intro _ | (with_reducible apply OutFrame.next)
    | (with_reducible apply OutFrame.ite) | (with_reducible apply Frame.ite) | (with_reducible apply Frame.ite_fst)
    | (with_reducible apply calPreempt_frame) | (with_reducible apply State.setPath_frame)
    | (with_reducible apply State.set_frame) | (with_reducible apply State.bump_frame) | extract_lets | split
    | (dsimp -zeta only) | (dsimp +zetaDelta -zeta only)

theorem execDevclkCheck_frame {m : Nat} {s0 s : State} (hm : sub 0x186971121 m = true) (h : Frame m s0 s) (hz : Nat) :
    OutFrame m s0 (execDevclkCheck hz s) := by
  unfold execDevclkCheck
  repeat' first
    | (with_reducible assumption) | (exact sub_trans rfl hm) | intro _ | (with_reducible apply OutFrame.next)
    | (with_reducible apply OutFrame.ite) | (with_reducible apply Frame.ite) | (with_reducible apply Frame.ite_fst)
    | (with_reducible apply jesdDown_frame) | (with_reducible apply postEvent_frame) | (with_reducible apply State.set_frame)
    | extract_lets | split | (dsimp -zeta only) | (dsimp +zetaDelta -zeta only)

theorem execJesdArm_frame {m : Nat} {s0 s : State} (hm : sub 0x200 m = true) (h : Frame m s0 s) :
    OutFrame m s0 (execJesdArm s) := by
  unfold execJesdArm
  repeat' first
    | (with_reducible assumption) | (exact sub_trans rfl hm) | intro _ | (with_reducible apply OutFrame.next)
    | (with_reducible apply OutFrame.ite) | (with_reducible apply Frame.ite) | (with_reducible apply Frame.ite_fst)
    | (with_reducible apply State.putJesd_frame) | extract_lets | split | (dsimp -zeta only) | (dsimp +zetaDelta -zeta only)

theorem execSysrefEdge_frame {m : Nat} {s0 s : State} (hm : sub 0x80840221 m = true) (h : Frame m s0 s) (position : Int) :
    OutFrame m s0 (execSysrefEdge position s) := by
  unfold execSysrefEdge
  repeat' first
    | (with_reducible assumption) | (exact sub_trans rfl hm) | intro _ | (with_reducible apply OutFrame.next)
    | (with_reducible apply OutFrame.ite) | (with_reducible apply Frame.ite) | (with_reducible apply Frame.ite_fst)
    | (with_reducible apply State.putJesd_frame) | (with_reducible apply State.set_frame)
    | (with_reducible apply postEvent_frame) | extract_lets | split | (dsimp -zeta only) | (dsimp +zetaDelta -zeta only)

theorem execJesdMultiblockRx_frame {m : Nat} {s0 s : State} (hm : sub 0x186971321 m = true) (h : Frame m s0 s) (lane : Nat) (crcOk syncOk : Bool) :
    OutFrame m s0 (execJesdMultiblockRx lane crcOk syncOk s) := by
  unfold execJesdMultiblockRx
  repeat' first
    | (with_reducible assumption) | (exact sub_trans rfl hm) | intro _ | (with_reducible apply OutFrame.next)
    | (with_reducible apply OutFrame.ite) | (with_reducible apply Frame.ite) | (with_reducible apply Frame.ite_fst)
    | (with_reducible apply State.bump_frame) | (with_reducible apply State.putJesd_frame)
    | (with_reducible apply jesdDown_frame) | extract_lets | split | (dsimp -zeta only) | (dsimp +zetaDelta -zeta only)

theorem firstEpochs_frame {m : Nat} {s0 s : State} (hm : sub 0x101 m = true) (h : Frame m s0 s) :
    Frame m s0 (firstEpochs s) := by
  unfold firstEpochs
  repeat' first
    | (with_reducible assumption) | (exact sub_trans rfl hm) | intro _ | (with_reducible apply Frame.ite)
    | (with_reducible apply Frame.ite_fst) | (with_reducible apply issueSet_frame) | (with_reducible apply Frame.fold)
    | extract_lets | split | (dsimp -zeta only) | (dsimp +zetaDelta -zeta only)

theorem execJesdLinkAligned_frame {m : Nat} {s0 s : State} (hm : sub 0x18697F921 m = true) (h : Frame m s0 s) (dir : Nat) :
    OutFrame m s0 (execJesdLinkAligned dir s) := by
  unfold execJesdLinkAligned
  repeat' first
    | (with_reducible assumption) | (exact sub_trans rfl hm) | intro _ | (with_reducible apply OutFrame.next)
    | (with_reducible apply OutFrame.ite) | (with_reducible apply Frame.ite) | (with_reducible apply Frame.ite_fst)
    | (with_reducible apply postEvent_frame) | (with_reducible apply State.set_frame) | (with_reducible apply unblankPath_frame)
    | (with_reducible apply firstEpochs_frame) | (with_reducible apply startWaiting_frame) | (with_reducible apply Frame.fold)
    | extract_lets | split | (dsimp -zeta only) | (dsimp +zetaDelta -zeta only)

end Sys2Proof.Machine
end

