-- ==== Sys2Proof/Laws/FrameSecurity.lean ====
section
/-!
SUPPORT. Which components the operations of Machine/Security.lean may change (`Frame`).
-/

namespace Sys2Proof.Machine

set_option linter.unusedVariables false
set_option linter.unusedTactic false
set_option linter.unreachableTactic false

theorem execKeyDerivationDone_frame {m : Nat} {s0 s : State} (hm : sub 0x186F7E427 m = true) (h : Frame m s0 s) (written : Bool) :
    OutFrame m s0 (execKeyDerivationDone written s) := by
  unfold execKeyDerivationDone
  repeat' first
    | (with_reducible assumption) | (exact sub_trans rfl hm) | intro _ | (with_reducible apply OutFrame.next)
    | (with_reducible apply OutFrame.ite) | (with_reducible apply State.putSec_frame) | (with_reducible apply judgeFrame_frame)
    | (with_reducible apply cacheFill_frame) | extract_lets | split | (dsimp -zeta only) | (dsimp +zetaDelta -zeta only)

theorem execSecAttest_frame {m : Nat} {s0 s : State} (hm : sub 0x80000001 m = true) (h : Frame m s0 s) (q : Requester) :
    OutFrame m s0 (execSecAttest q s) := by
  unfold execSecAttest
  repeat' first
    | (with_reducible assumption) | (exact sub_trans rfl hm) | intro _ | (with_reducible apply OutFrame.next)
    | (with_reducible apply OutFrame.ite) | (with_reducible apply Frame.ite) | (with_reducible apply Frame.ite_fst)
    | (with_reducible apply setResult_frame) | (with_reducible apply State.set_frame) | (with_reducible apply State.drew_frame)
    | (with_reducible apply Frame.fold) | extract_lets | split | (dsimp -zeta only) | (dsimp +zetaDelta -zeta only)

theorem testCommand_frame {m : Nat} {s0 s : State} (hm : sub 0x18EDF5121 m = true) (h : Frame m s0 s) (q : Requester) (l : List Nat) (fails : List (Nat × Nat)) :
    Frame m s0 (testCommand s q l fails) := by
  unfold testCommand
  repeat' first
    | (with_reducible assumption) | (exact sub_trans rfl hm) | intro _ | (with_reducible apply Frame.ite)
    | (with_reducible apply Frame.ite_fst) | (with_reducible apply setResult_frame) | (with_reducible apply secHealth_frame)
    | (with_reducible apply testEngines_frame) | extract_lets | split | (dsimp -zeta only) | (dsimp +zetaDelta -zeta only)

theorem execSecSelftestAll_frame {m : Nat} {s0 s : State} (hm : sub 0x18EDF5121 m = true) (h : Frame m s0 s) (q : Requester) (fails : List (Nat × Nat)) :
    OutFrame m s0 (execSecSelftestAll q fails s) := by
  unfold execSecSelftestAll
  repeat' first
    | (with_reducible assumption) | (exact sub_trans rfl hm) | intro _ | (with_reducible apply OutFrame.next)
    | (with_reducible apply OutFrame.ite) | (with_reducible apply testCommand_frame) | extract_lets | split | (dsimp -zeta only)
    | (dsimp +zetaDelta -zeta only)

theorem execSecSelftestKind_frame {m : Nat} {s0 s : State} (hm : sub 0x18EDF5121 m = true) (h : Frame m s0 s) (q : Requester) (kind : Nat) (fails : List (Nat × Nat)) :
    OutFrame m s0 (execSecSelftestKind q kind fails s) := by
  unfold execSecSelftestKind
  repeat' first
    | (with_reducible assumption) | (exact sub_trans rfl hm) | intro _ | (with_reducible apply OutFrame.next)
    | (with_reducible apply OutFrame.ite) | (with_reducible apply Frame.ite) | (with_reducible apply Frame.ite_fst)
    | (with_reducible apply setResult_frame) | (with_reducible apply testCommand_frame) | extract_lets | split
    | (dsimp -zeta only) | (dsimp +zetaDelta -zeta only)

theorem execInstallEpoch_frame {m : Nat} {s0 s : State} (hm : sub 0x186B7E021 m = true) (h : Frame m s0 s) (q : Requester) :
    OutFrame m s0 (execInstallEpoch q s) := by
  unfold execInstallEpoch
  repeat' first
    | (with_reducible assumption) | (exact sub_trans rfl hm) | intro _ | (with_reducible apply OutFrame.next)
    | (with_reducible apply OutFrame.ite) | (with_reducible apply Frame.ite) | (with_reducible apply Frame.ite_fst)
    | (with_reducible apply signedCommand_frame) | (with_reducible apply installEpoch_frame)
    | (with_reducible apply pumpRekeys_frame) | (with_reducible apply State.putSec_frame) | extract_lets | split
    | (dsimp -zeta only) | (dsimp +zetaDelta -zeta only)

theorem execRaiseDistrictGeneration_frame {m : Nat} {s0 s : State} (hm : sub 0x184B40021 m = true) (h : Frame m s0 s) (q : Requester) :
    OutFrame m s0 (execRaiseDistrictGeneration q s) := by
  unfold execRaiseDistrictGeneration
  repeat' first
    | (with_reducible assumption) | (exact sub_trans rfl hm) | intro _ | (with_reducible apply OutFrame.next)
    | (with_reducible apply OutFrame.ite) | (with_reducible apply Frame.ite) | (with_reducible apply Frame.ite_fst)
    | (with_reducible apply signedCommand_frame) | (with_reducible apply raiseDistrict_frame)
    | (with_reducible apply postRevoked_frame) | extract_lets | split | (dsimp -zeta only) | (dsimp +zetaDelta -zeta only)

theorem execRevokeDistrict_frame {m : Nat} {s0 s : State} (hm : sub 0x184B40021 m = true) (h : Frame m s0 s) (q : Requester) :
    OutFrame m s0 (execRevokeDistrict q s) := by
  unfold execRevokeDistrict
  repeat' first
    | (with_reducible assumption) | (exact sub_trans rfl hm) | intro _ | (with_reducible apply OutFrame.next)
    | (with_reducible apply OutFrame.ite) | (with_reducible apply Frame.ite) | (with_reducible apply Frame.ite_fst)
    | (with_reducible apply signedCommand_frame) | (with_reducible apply postRevoked_frame)
    | (with_reducible apply revokeDistrict_frame) | extract_lets | split | (dsimp -zeta only) | (dsimp +zetaDelta -zeta only)

theorem execRevokeEpoch_frame {m : Nat} {s0 s : State} (hm : sub 0x184B40021 m = true) (h : Frame m s0 s) (q : Requester) :
    OutFrame m s0 (execRevokeEpoch q s) := by
  unfold execRevokeEpoch
  repeat' first
    | (with_reducible assumption) | (exact sub_trans rfl hm) | intro _ | (with_reducible apply OutFrame.next)
    | (with_reducible apply OutFrame.ite) | (with_reducible apply Frame.ite) | (with_reducible apply Frame.ite_fst)
    | (with_reducible apply signedCommand_frame) | (with_reducible apply postRevoked_frame)
    | (with_reducible apply revokeEpoch_frame) | extract_lets | split | (dsimp -zeta only) | (dsimp +zetaDelta -zeta only)

theorem execZeroize_frame {m : Nat} {s0 s : State} (hm : sub 0x104300001 m = true) (h : Frame m s0 s) (q : Requester) :
    OutFrame m s0 (execZeroize q s) := by
  unfold execZeroize
  repeat' first
    | (with_reducible assumption) | (exact sub_trans rfl hm) | intro _ | (with_reducible apply OutFrame.next)
    | (with_reducible apply OutFrame.ite) | (with_reducible apply signedCommand_frame) | (with_reducible apply zeroize_frame)
    | extract_lets | split | (dsimp -zeta only) | (dsimp +zetaDelta -zeta only)

theorem execProgramOwnerHash_frame {m : Nat} {s0 s : State} (hm : sub 0x104300011 m = true) (h : Frame m s0 s) (q : Requester) :
    OutFrame m s0 (execProgramOwnerHash q s) := by
  unfold execProgramOwnerHash
  repeat' first
    | (with_reducible assumption) | (exact sub_trans rfl hm) | intro _ | (with_reducible apply OutFrame.next)
    | (with_reducible apply OutFrame.ite) | (with_reducible apply Frame.ite) | (with_reducible apply Frame.ite_fst)
    | (with_reducible apply signedCommand_frame) | (with_reducible apply setOwner_frame) | extract_lets | split
    | (dsimp -zeta only) | (dsimp +zetaDelta -zeta only)

theorem execRevokeOwnerSlot_frame {m : Nat} {s0 s : State} (hm : sub 0x104300011 m = true) (h : Frame m s0 s) (q : Requester) :
    OutFrame m s0 (execRevokeOwnerSlot q s) := by
  unfold execRevokeOwnerSlot
  repeat' first
    | (with_reducible assumption) | (exact sub_trans rfl hm) | intro _ | (with_reducible apply OutFrame.next)
    | (with_reducible apply OutFrame.ite) | (with_reducible apply Frame.ite) | (with_reducible apply Frame.ite_fst)
    | (with_reducible apply signedCommand_frame) | (with_reducible apply setOwner_frame) | extract_lets | split
    | (dsimp -zeta only) | (dsimp +zetaDelta -zeta only)

theorem execDebugToken_frame {m : Nat} {s0 s : State} (hm : sub 0x184B40021 m = true) (h : Frame m s0 s) (q : Requester) :
    OutFrame m s0 (execDebugToken q s) := by
  unfold execDebugToken
  repeat' first
    | (with_reducible assumption) | (exact sub_trans rfl hm) | intro _ | (with_reducible apply OutFrame.next)
    | (with_reducible apply OutFrame.ite) | (with_reducible apply Frame.ite) | (with_reducible apply Frame.ite_fst)
    | (with_reducible apply signedCommand_frame) | (with_reducible apply zeroize_frame)
    | (with_reducible apply treeChanged_frame) | (with_reducible apply postEvent_frame)
    | (with_reducible apply State.putSec_frame) | extract_lets | split | (dsimp -zeta only) | (dsimp +zetaDelta -zeta only)

theorem execJtagDebugRequest_frame {m : Nat} {s0 s : State} (hm : sub 0x100000 m = true) (h : Frame m s0 s) (port : Nat) :
    OutFrame m s0 (execJtagDebugRequest port s) := by
  unfold execJtagDebugRequest
  repeat' first
    | (with_reducible assumption) | (exact sub_trans rfl hm) | intro _ | (with_reducible apply OutFrame.next)
    | (with_reducible apply OutFrame.ite) | (with_reducible apply Frame.ite) | (with_reducible apply Frame.ite_fst)
    | (with_reducible apply State.putSec_frame) | extract_lets | split | (dsimp -zeta only) | (dsimp +zetaDelta -zeta only)

theorem execSelftestPeriod_frame {m : Nat} {s0 s : State} (hm : sub 0x18EDF5121 m = true) (h : Frame m s0 s) (fails : List (Nat × Nat)) :
    OutFrame m s0 (execSelftestPeriod fails s) := by
  unfold execSelftestPeriod
  repeat' first
    | (with_reducible assumption) | (exact sub_trans rfl hm) | intro _ | (with_reducible apply OutFrame.next)
    | (with_reducible apply OutFrame.ite) | (with_reducible apply Frame.ite) | (with_reducible apply Frame.ite_fst)
    | (with_reducible apply secHealth_frame) | (with_reducible apply testEngines_frame) | extract_lets | split
    | (dsimp -zeta only) | (dsimp +zetaDelta -zeta only)

theorem execDrbgReseed_frame {m : Nat} {s0 s : State} (hm : sub 0x18EDF5121 m = true) (h : Frame m s0 s) (engine : Nat) (ok : Bool) :
    OutFrame m s0 (execDrbgReseed engine ok s) := by
  unfold execDrbgReseed
  repeat' first
    | (with_reducible assumption) | (exact sub_trans rfl hm) | intro _ | (with_reducible apply OutFrame.next)
    | (with_reducible apply OutFrame.ite) | (with_reducible apply Frame.ite) | (with_reducible apply Frame.ite_fst)
    | (with_reducible apply State.putSec_frame) | (with_reducible apply State.bumpWrap_frame)
    | (with_reducible apply secHealth_frame) | (with_reducible apply engineFails_frame) | extract_lets | split
    | (dsimp -zeta only) | (dsimp +zetaDelta -zeta only)

end Sys2Proof.Machine
end

