-- ==== Sys2Proof/Laws/FrameStartup.lean ====
section
/-!
SUPPORT. Which components the operations of Machine/Startup.lean may change (`Frame`).
-/

namespace Sys2Proof.Machine

set_option linter.unusedVariables false
set_option linter.unusedTactic false
set_option linter.unreachableTactic false

theorem execPorstNRelease_frame {m : Nat} {s0 s : State} (hm : sub 0x90000003 m = true) (h : Frame m s0 s) (mode0 mode1 id : Option Bool) :
    OutFrame m s0 (execPorstNRelease mode0 mode1 id s) := by
  unfold execPorstNRelease
  repeat' first
    | (with_reducible assumption) | (exact sub_trans rfl hm) | intro _ | (with_reducible apply OutFrame.next)
    | (with_reducible apply OutFrame.ite) | (with_reducible apply Frame.ite) | (with_reducible apply Frame.ite_fst)
    | (with_reducible apply State.set_frame) | (with_reducible apply State.putPwr_frame)
    | (with_reducible apply State.drew_frame) | (with_reducible apply State.putBoot_frame) | extract_lets | split
    | (dsimp -zeta only) | (dsimp +zetaDelta -zeta only)

theorem execPorstNAssert_frame {m : Nat} {s0 s : State} (hm : sub 0x1BFDFFFEB m = true) (h : Frame m s0 s) :
    OutFrame m s0 (execPorstNAssert s) := by
  unfold execPorstNAssert
  repeat' first
    | (with_reducible assumption) | (exact sub_trans rfl hm) | intro _ | (with_reducible apply OutFrame.next)
    | (with_reducible apply OutFrame.ite) | (with_reducible apply Frame.ite) | (with_reducible apply Frame.ite_fst)
    | (with_reducible apply resetKeeping_frame) | (with_reducible apply stopTimebase_frame)
    | (with_reducible apply endClaim_frame) | extract_lets | split | (dsimp -zeta only) | (dsimp +zetaDelta -zeta only)

theorem execVddAonLoss_frame {m : Nat} {s0 s : State} (hm : sub 0x3FFFFFEB m = true) (h : Frame m s0 s) :
    OutFrame m s0 (execVddAonLoss s) := by
  unfold execVddAonLoss
  repeat' first
    | (with_reducible assumption) | (exact sub_trans rfl hm) | intro _ | (with_reducible apply OutFrame.next)
    | (with_reducible apply OutFrame.ite) | (with_reducible apply resetKeeping_frame)
    | (with_reducible apply State.putOsc_frame) | (with_reducible apply State.putTb_frame)
    | (with_reducible apply State.putTree_frame) | (with_reducible apply State.putUpd_frame) | extract_lets | split
    | (dsimp -zeta only) | (dsimp +zetaDelta -zeta only)

theorem execVddAonUp_frame {m : Nat} {s0 s : State} (hm : sub 0x2 m = true) (h : Frame m s0 s) :
    OutFrame m s0 (execVddAonUp s) := by
  unfold execVddAonUp
  repeat' first
    | (with_reducible assumption) | (exact sub_trans rfl hm) | intro _ | (with_reducible apply OutFrame.next)
    | (with_reducible apply OutFrame.ite) | (with_reducible apply Frame.ite) | (with_reducible apply Frame.ite_fst)
    | (with_reducible apply State.putBoot_frame) | extract_lets | split | (dsimp -zeta only) | (dsimp +zetaDelta -zeta only)

theorem execPwrPgHigh_frame {m : Nat} {s0 s : State} (hm : sub 0x10000002 m = true) (h : Frame m s0 s) :
    OutFrame m s0 (execPwrPgHigh s) := by
  unfold execPwrPgHigh
  repeat' first
    | (with_reducible assumption) | (exact sub_trans rfl hm) | intro _ | (with_reducible apply OutFrame.next)
    | (with_reducible apply OutFrame.ite) | (with_reducible apply Frame.ite) | (with_reducible apply Frame.ite_fst)
    | (with_reducible apply State.putPwr_frame) | (with_reducible apply State.putBoot_frame) | extract_lets | split
    | (dsimp -zeta only) | (dsimp +zetaDelta -zeta only)

theorem execPwrPgTimeout_frame {m : Nat} {s0 s : State} (hm : sub 0x1BFDFFFEB m = true) (h : Frame m s0 s) :
    OutFrame m s0 (execPwrPgTimeout s) := by
  unfold execPwrPgTimeout
  repeat' first
    | (with_reducible assumption) | (exact sub_trans rfl hm) | intro _ | (with_reducible apply OutFrame.next)
    | (with_reducible apply OutFrame.ite) | (with_reducible apply Frame.ite) | (with_reducible apply Frame.ite_fst)
    | (with_reducible apply faultHold_frame) | (with_reducible apply State.putPwr_frame)
    | (with_reducible apply State.putBoot_frame) | extract_lets | split | (dsimp -zeta only) | (dsimp +zetaDelta -zeta only)

theorem execPowerRetryWaitEnd_frame {m : Nat} {s0 s : State} (hm : sub 0x10000002 m = true) (h : Frame m s0 s) :
    OutFrame m s0 (execPowerRetryWaitEnd s) := by
  unfold execPowerRetryWaitEnd
  repeat' first
    | (with_reducible assumption) | (exact sub_trans rfl hm) | intro _ | (with_reducible apply OutFrame.next)
    | (with_reducible apply OutFrame.ite) | (with_reducible apply Frame.ite) | (with_reducible apply Frame.ite_fst)
    | (with_reducible apply State.putPwr_frame) | (with_reducible apply State.putBoot_frame) | extract_lets | split
    | (dsimp -zeta only) | (dsimp +zetaDelta -zeta only)

theorem execPwrPgFall_frame {m : Nat} {s0 s : State} (hm : sub 0x1BFDFFFEB m = true) (h : Frame m s0 s) :
    OutFrame m s0 (execPwrPgFall s) := by
  unfold execPwrPgFall
  repeat' first
    | (with_reducible assumption) | (exact sub_trans rfl hm) | intro _ | (with_reducible apply OutFrame.next)
    | (with_reducible apply OutFrame.ite) | (with_reducible apply Frame.ite) | (with_reducible apply Frame.ite_fst)
    | (with_reducible apply faultHold_frame) | extract_lets | split | (dsimp -zeta only) | (dsimp +zetaDelta -zeta only)

theorem execPllLock_frame {m : Nat} {s0 s : State} (hm : sub 0x828C0023 m = true) (h : Frame m s0 s) (nLf nRc lag : Nat) :
    OutFrame m s0 (execPllLock nLf nRc lag s) := by
  unfold execPllLock
  repeat' first
    | (with_reducible assumption) | (exact sub_trans rfl hm) | intro _ | (with_reducible apply OutFrame.next)
    | (with_reducible apply OutFrame.ite) | (with_reducible apply Frame.ite) | (with_reducible apply Frame.ite_fst)
    | (with_reducible apply startTimebase_frame) | (with_reducible apply romStart_frame) | extract_lets | split
    | (dsimp -zeta only) | (dsimp +zetaDelta -zeta only)

theorem execRefclkTimeout_frame {m : Nat} {s0 s : State} (hm : sub 0x1BFDFFFEB m = true) (h : Frame m s0 s) (code : Nat) :
    OutFrame m s0 (execRefclkTimeout code s) := by
  unfold execRefclkTimeout
  repeat' first
    | (with_reducible assumption) | (exact sub_trans rfl hm) | intro _ | (with_reducible apply OutFrame.next)
    | (with_reducible apply OutFrame.ite) | (with_reducible apply Frame.ite) | (with_reducible apply Frame.ite_fst)
    | (with_reducible apply faultHold_frame) | (with_reducible apply State.putBoot_frame) | extract_lets | split
    | (dsimp -zeta only) | (dsimp +zetaDelta -zeta only)

theorem execWarmRstNAssert_frame {m : Nat} {s0 s : State} (hm : sub 0x186DF5123 m = true) (h : Frame m s0 s) :
    OutFrame m s0 (execWarmRstNAssert s) := by
  unfold execWarmRstNAssert
  repeat' first
    | (with_reducible assumption) | (exact sub_trans rfl hm) | intro _ | (with_reducible apply OutFrame.next)
    | (with_reducible apply OutFrame.ite) | (with_reducible apply Frame.ite) | (with_reducible apply Frame.ite_fst)
    | (with_reducible apply stopTimebase_frame) | (with_reducible apply endClaim_frame)
    | (with_reducible apply State.putBoot_frame) | extract_lets | split | (dsimp -zeta only) | (dsimp +zetaDelta -zeta only)

theorem execWarmRstNRelease_frame {m : Nat} {s0 s : State} (hm : sub 0x3FDFFFEB m = true) (h : Frame m s0 s) :
    OutFrame m s0 (execWarmRstNRelease s) := by
  unfold execWarmRstNRelease
  repeat' first
    | (with_reducible assumption) | (exact sub_trans rfl hm) | intro _ | (with_reducible apply OutFrame.next)
    | (with_reducible apply OutFrame.ite) | (with_reducible apply Frame.ite) | (with_reducible apply Frame.ite_fst)
    | (with_reducible apply warmClear_frame) | extract_lets | split | (dsimp -zeta only) | (dsimp +zetaDelta -zeta only)

theorem execResetCtrlWrite_frame {m : Nat} {s0 s : State} (hm : sub 0x186D75123 m = true) (h : Frame m s0 s) (key : Nat) :
    OutFrame m s0 (execResetCtrlWrite key s) := by
  unfold execResetCtrlWrite
  repeat' first
    | (with_reducible assumption) | (exact sub_trans rfl hm) | intro _ | (with_reducible apply OutFrame.next)
    | (with_reducible apply OutFrame.ite) | (with_reducible apply Frame.ite) | (with_reducible apply Frame.ite_fst)
    | (with_reducible apply warmRestart_frame) | extract_lets | split | (dsimp -zeta only) | (dsimp +zetaDelta -zeta only)

theorem execWarmRestartDelayEnd_frame {m : Nat} {s0 s : State} (hm : sub 0x3FDFFFEB m = true) (h : Frame m s0 s) :
    OutFrame m s0 (execWarmRestartDelayEnd s) := by
  unfold execWarmRestartDelayEnd
  repeat' first
    | (with_reducible assumption) | (exact sub_trans rfl hm) | intro _ | (with_reducible apply OutFrame.next)
    | (with_reducible apply OutFrame.ite) | (with_reducible apply Frame.ite) | (with_reducible apply Frame.ite_fst)
    | (with_reducible apply warmClear_frame) | extract_lets | split | (dsimp -zeta only) | (dsimp +zetaDelta -zeta only)

theorem execComponentLoadDone_frame {m : Nat} {s0 s : State} (hm : sub 0x188840027 m = true) (h : Frame m s0 s) (readOk : Bool) :
    OutFrame m s0 (execComponentLoadDone readOk s) := by
  unfold execComponentLoadDone
  repeat' first
    | (with_reducible assumption) | (exact sub_trans rfl hm) | intro _ | (with_reducible apply OutFrame.next)
    | (with_reducible apply OutFrame.ite) | (with_reducible apply Frame.ite) | (with_reducible apply Frame.ite_fst)
    | (with_reducible apply probationFallback_frame) | (with_reducible apply nextComponent_frame)
    | (with_reducible apply slotBoots_frame) | (with_reducible apply slotFails_frame)
    | (with_reducible apply componentMissing_frame) | extract_lets | split | (dsimp -zeta only) | (dsimp +zetaDelta -zeta only)

theorem execConfigImageRead_frame {m : Nat} {s0 s : State} (hm : sub 0x19FFFFD37 m = true) (h : Frame m s0 s) (readOk : Bool) (fails : List (Nat × Nat)) :
    OutFrame m s0 (execConfigImageRead readOk fails s) := by
  unfold execConfigImageRead
  repeat' first
    | (with_reducible assumption) | (exact sub_trans rfl hm) | intro _ | (with_reducible apply OutFrame.next)
    | (with_reducible apply OutFrame.ite) | (with_reducible apply Frame.ite) | (with_reducible apply Frame.ite_fst)
    | (with_reducible apply configFromSlot_frame) | (with_reducible apply configFromHost_frame) | extract_lets | split
    | (dsimp -zeta only) | (dsimp +zetaDelta -zeta only)

theorem recoveryAck_frame {m : Nat} {s0 s : State} (hm : sub 0x100000000 m = true) (h : Frame m s0 s) :
    Frame m s0 (recoveryAck s) := by
  unfold recoveryAck
  repeat' first
    | (with_reducible assumption) | (exact sub_trans rfl hm) | intro _ | (with_reducible apply State.emit_frame) | extract_lets
    | split | (dsimp -zeta only) | (dsimp +zetaDelta -zeta only)

theorem recoveryNak_frame {m : Nat} {s0 s : State} (hm : sub 0x100000000 m = true) (h : Frame m s0 s) (reason : Nat) :
    Frame m s0 (recoveryNak s reason) := by
  unfold recoveryNak
  repeat' first
    | (with_reducible assumption) | (exact sub_trans rfl hm) | intro _ | (with_reducible apply State.emit_frame) | extract_lets
    | split | (dsimp -zeta only) | (dsimp +zetaDelta -zeta only)

theorem recoveryBad_frame {m : Nat} {s0 s : State} (hm : sub 0x180000000 m = true) (h : Frame m s0 s) :
    Frame m s0 (recoveryBad s) := by
  unfold recoveryBad
  repeat' first
    | (with_reducible assumption) | (exact sub_trans rfl hm) | intro _ | (with_reducible apply recoveryNak_frame)
    | (with_reducible apply State.drew_frame) | extract_lets | split | (dsimp -zeta only) | (dsimp +zetaDelta -zeta only)

theorem execRecoveryChunk_frame {m : Nat} {s0 s : State} (hm : sub 0x18000000A m = true) (h : Frame m s0 s) (frame : List Byte) :
    OutFrame m s0 (execRecoveryChunk frame s) := by
  unfold execRecoveryChunk
  repeat' first
    | (with_reducible assumption) | (exact sub_trans rfl hm) | intro _ | (with_reducible apply OutFrame.next)
    | (with_reducible apply OutFrame.ite) | (with_reducible apply Frame.ite) | (with_reducible apply Frame.ite_fst)
    | (with_reducible apply recoveryBad_frame) | (with_reducible apply recoveryNak_frame)
    | (with_reducible apply State.putWindow_frame) | (with_reducible apply recoveryAck_frame)
    | (with_reducible apply State.putBoot_frame) | extract_lets | split | (dsimp -zeta only) | (dsimp +zetaDelta -zeta only)

theorem execRecoveryComponentDone_frame {m : Nat} {s0 s : State} (hm : sub 0x188840023 m = true) (h : Frame m s0 s) (frame : List Byte) :
    OutFrame m s0 (execRecoveryComponentDone frame s) := by
  unfold execRecoveryComponentDone
  repeat' first
    | (with_reducible assumption) | (exact sub_trans rfl hm) | intro _ | (with_reducible apply OutFrame.next)
    | (with_reducible apply OutFrame.ite) | (with_reducible apply Frame.ite) | (with_reducible apply Frame.ite_fst)
    | (with_reducible apply recoveryBad_frame) | (with_reducible apply State.putBoot_frame)
    | (with_reducible apply offerImage_frame) | (with_reducible apply recoveryAck_frame)
    | (with_reducible apply recoveryNak_frame) | (with_reducible refine Frame.of_pair (by assumption) ?_) | extract_lets | split
    | (dsimp -zeta only) | (dsimp +zetaDelta -zeta only)

theorem execLfclkMeasureDone_frame {m : Nat} {s0 s : State} (hm : sub 0x90840023 m = true) (h : Frame m s0 s) (cycles : Nat) :
    OutFrame m s0 (execLfclkMeasureDone cycles s) := by
  unfold execLfclkMeasureDone
  repeat' first
    | (with_reducible assumption) | (exact sub_trans rfl hm) | intro _ | (with_reducible apply OutFrame.next)
    | (with_reducible apply OutFrame.ite) | (with_reducible apply Frame.ite) | (with_reducible apply Frame.ite_fst)
    | (with_reducible apply State.putPwr_frame) | (with_reducible apply State.set_frame)
    | (with_reducible apply State.putBoot_frame) | (with_reducible apply postEvent_frame) | extract_lets | split
    | (dsimp -zeta only) | (dsimp +zetaDelta -zeta only)

theorem execLfclkAcceptTimeout_frame {m : Nat} {s0 s : State} (hm : sub 0xC08C0023 m = true) (h : Frame m s0 s) :
    OutFrame m s0 (execLfclkAcceptTimeout s) := by
  unfold execLfclkAcceptTimeout
  repeat' first
    | (with_reducible assumption) | (exact sub_trans rfl hm) | intro _ | (with_reducible apply OutFrame.next)
    | (with_reducible apply OutFrame.ite) | (with_reducible apply Frame.ite) | (with_reducible apply Frame.ite_fst)
    | (with_reducible apply State.reach_frame) | (with_reducible apply latchFail_frame) | (with_reducible apply postEvent_frame)
    | (with_reducible apply State.putBoot_frame) | extract_lets | split | (dsimp -zeta only) | (dsimp +zetaDelta -zeta only)

theorem execLfclkRemeasureTimer_frame {m : Nat} {s0 s : State} (hm : sub 0x2 m = true) (h : Frame m s0 s) :
    OutFrame m s0 (execLfclkRemeasureTimer s) := by
  unfold execLfclkRemeasureTimer
  repeat' first
    | (with_reducible assumption) | (exact sub_trans rfl hm) | intro _ | (with_reducible apply OutFrame.next)
    | (with_reducible apply OutFrame.ite) | (with_reducible apply Frame.ite) | (with_reducible apply Frame.ite_fst)
    | (with_reducible apply State.putBoot_frame) | extract_lets | split | (dsimp -zeta only) | (dsimp +zetaDelta -zeta only)

theorem execLfclkEdgeLoss_frame {m : Nat} {s0 s : State} (hm : sub 0x90840023 m = true) (h : Frame m s0 s) :
    OutFrame m s0 (execLfclkEdgeLoss s) := by
  unfold execLfclkEdgeLoss
  repeat' first
    | (with_reducible assumption) | (exact sub_trans rfl hm) | intro _ | (with_reducible apply OutFrame.next)
    | (with_reducible apply OutFrame.ite) | (with_reducible apply Frame.ite) | (with_reducible apply Frame.ite_fst)
    | (with_reducible apply latchFail_frame) | (with_reducible apply State.putPwr_frame)
    | (with_reducible apply State.set_frame) | (with_reducible apply State.putBoot_frame)
    | (with_reducible apply postEvent_frame) | extract_lets | split | (dsimp -zeta only) | (dsimp +zetaDelta -zeta only)

theorem noteSchedule_frame {m : Nat} {s0 s : State} (hm : sub 0x20000 m = true) (h : Frame m s0 s) (key : Nat) :
    Frame m s0 (noteSchedule s key) := by
  unfold noteSchedule
  repeat' first
    | (with_reducible assumption) | (exact sub_trans rfl hm) | intro _ | (with_reducible apply Frame.ite)
    | (with_reducible apply Frame.ite_fst) | (with_reducible apply State.putSched_frame) | extract_lets | split
    | (dsimp -zeta only) | (dsimp +zetaDelta -zeta only)

theorem execRtwDataWrite_frame {m : Nat} {s0 s : State} (hm : sub 0x186DFE921 m = true) (h : Frame m s0 s) (q : Requester) (v : Nat) :
    OutFrame m s0 (execRtwDataWrite q v s) := by
  unfold execRtwDataWrite
  repeat' first
    | (with_reducible assumption) | (exact sub_trans rfl hm) | intro _ | (with_reducible apply OutFrame.next)
    | (with_reducible apply OutFrame.ite) | (with_reducible apply Frame.ite) | (with_reducible apply Frame.ite_fst)
    | (with_reducible apply State.set_frame) | (with_reducible apply noteSchedule_frame)
    | (with_reducible apply configTaken_frame) | (with_reducible apply putValues_frame)
    | (with_reducible apply State.bump_frame) | extract_lets | split | (dsimp -zeta only) | (dsimp +zetaDelta -zeta only)

theorem execAonFailClear_frame {m : Nat} {s0 s : State} (hm : sub 0x1 m = true) (h : Frame m s0 s) :
    OutFrame m s0 (execAonFailClear s) := by
  unfold execAonFailClear
  repeat' first
    | (with_reducible assumption) | (exact sub_trans rfl hm) | intro _ | (with_reducible apply OutFrame.next)
    | (with_reducible apply OutFrame.ite) | (with_reducible apply Frame.ite) | (with_reducible apply Frame.ite_fst)
    | (with_reducible apply State.set_frame) | extract_lets | split | (dsimp -zeta only) | (dsimp +zetaDelta -zeta only)

theorem postRefresh_frame {m : Nat} {s0 s : State} (hm : sub 0x80840021 m = true) (h : Frame m s0 s) (comp slot stamp : Nat) :
    Frame m s0 (postRefresh s comp slot stamp) := by
  unfold postRefresh
  repeat' first
    | (with_reducible assumption) | (exact sub_trans rfl hm) | intro _ | (with_reducible apply postEvent_frame) | extract_lets
    | split | (dsimp -zeta only) | (dsimp +zetaDelta -zeta only)

theorem refreshSlot_frame {m : Nat} {s0 s : State} (hm : sub 0x180840027 m = true) (h : Frame m s0 s) (bad : List Nat) (comp : Nat) :
    Frame m s0 (refreshSlot bad s comp) := by
  unfold refreshSlot
  repeat' first
    | (with_reducible assumption) | (exact sub_trans rfl hm) | intro _ | (with_reducible apply Frame.ite)
    | (with_reducible apply Frame.ite_fst) | (with_reducible apply refuseFlash_frame)
    | (with_reducible apply countSlotWrite_frame) | (with_reducible apply programSlot_frame)
    | (with_reducible apply postRefresh_frame) | (with_reducible apply commitDirectory_frame)
    | (with_reducible refine Frame.of_pair (by assumption) ?_) | extract_lets | split | (dsimp -zeta only)
    | (dsimp +zetaDelta -zeta only)

theorem writeCopy_frame {m : Nat} {s0 s : State} (hm : sub 0x100000004 m = true) (h : Frame m s0 s) (copy : Nat) (l : List RepairEntry) :
    Frame m s0 (writeCopy s copy l) := by
  unfold writeCopy
  repeat' first
    | (with_reducible assumption) | (exact sub_trans rfl hm) | intro _ | (with_reducible apply State.emit_frame)
    | (with_reducible apply State.putFlash_frame) | extract_lets | split | (dsimp -zeta only) | (dsimp +zetaDelta -zeta only)

theorem refreshCopy_frame {m : Nat} {s0 s : State} (hm : sub 0x180840027 m = true) (h : Frame m s0 s) (copy : Nat) :
    Frame m s0 (refreshCopy s copy) := by
  unfold refreshCopy
  repeat' first
    | (with_reducible assumption) | (exact sub_trans rfl hm) | intro _ | (with_reducible apply Frame.ite)
    | (with_reducible apply Frame.ite_fst) | (with_reducible apply refuseFlash_frame) | (with_reducible apply writeCopy_frame)
    | (with_reducible apply State.putBoot_frame) | (with_reducible apply postRefresh_frame)
    | (with_reducible apply Frame.foldl_fst) | extract_lets | split | (dsimp -zeta only) | (dsimp +zetaDelta -zeta only)

theorem execRetentionRefresh_frame {m : Nat} {s0 s : State} (hm : sub 0x180840027 m = true) (h : Frame m s0 s) (bad : List Nat) :
    OutFrame m s0 (execRetentionRefresh bad s) := by
  unfold execRetentionRefresh
  repeat' first
    | (with_reducible assumption) | (exact sub_trans rfl hm) | intro _ | (with_reducible apply OutFrame.next)
    | (with_reducible apply OutFrame.ite) | (with_reducible apply Frame.ite) | (with_reducible apply Frame.ite_fst)
    | (with_reducible apply refreshCopy_frame) | (with_reducible apply refreshSlot_frame) | (with_reducible apply Frame.fold)
    | extract_lets | split | (dsimp -zeta only) | (dsimp +zetaDelta -zeta only)

end Sys2Proof.Machine
end

