-- ==== Sys2Proof/Laws/FrameTimebase.lean ====
section
/-!
SUPPORT. Which components the operations of Machine/Timebase.lean may change (`Frame`).
-/

namespace Sys2Proof.Machine

set_option linter.unusedVariables false
set_option linter.unusedTactic false
set_option linter.unreachableTactic false

theorem execTbIncCommit_frame {m : Nat} {s0 s : State} (hm : sub 0x80840021 m = true) (h : Frame m s0 s) (q : Requester) (v : Nat) :
    OutFrame m s0 (execTbIncCommit q v s) := by
  unfold execTbIncCommit
  repeat' first
    | (with_reducible assumption) | (exact sub_trans rfl hm) | intro _ | (with_reducible apply OutFrame.next)
    | (with_reducible apply OutFrame.ite) | (with_reducible apply Frame.ite) | (with_reducible apply Frame.ite_fst)
    | (with_reducible apply notOwner_frame) | (with_reducible apply refuseCorrection_frame)
    | (with_reducible apply State.set_frame) | (with_reducible apply leaveBridged_frame) | extract_lets | split
    | (dsimp -zeta only) | (dsimp +zetaDelta -zeta only)

theorem execTbStepCommit_frame {m : Nat} {s0 s : State} (hm : sub 0x808C0021 m = true) (h : Frame m s0 s) (q : Requester) (v : Nat) :
    OutFrame m s0 (execTbStepCommit q v s) := by
  unfold execTbStepCommit
  repeat' first
    | (with_reducible assumption) | (exact sub_trans rfl hm) | intro _ | (with_reducible apply OutFrame.next)
    | (with_reducible apply OutFrame.ite) | (with_reducible apply Frame.ite) | (with_reducible apply Frame.ite_fst)
    | (with_reducible apply notOwner_frame) | (with_reducible apply refuseCorrection_frame)
    | (with_reducible apply State.putTb_frame) | (with_reducible apply State.setBit_frame)
    | (with_reducible apply applyStep_frame) | extract_lets | split | (dsimp -zeta only) | (dsimp +zetaDelta -zeta only)

theorem execTbServoWrite_frame {m : Nat} {s0 s : State} (hm : sub 0x80840021 m = true) (h : Frame m s0 s) (q : Requester) (v : Nat) :
    OutFrame m s0 (execTbServoWrite q v s) := by
  unfold execTbServoWrite
  repeat' first
    | (with_reducible assumption) | (exact sub_trans rfl hm) | intro _ | (with_reducible apply OutFrame.next)
    | (with_reducible apply OutFrame.ite) | (with_reducible apply Frame.ite) | (with_reducible apply Frame.ite_fst)
    | (with_reducible apply notOwner_frame) | (with_reducible apply State.setWord_frame)
    | (with_reducible apply setQuality_frame) | extract_lets | split | (dsimp -zeta only) | (dsimp +zetaDelta -zeta only)

theorem execTbNsLoRead_frame {m : Nat} {s0 s : State} (hm : sub 0x220880001 m = true) (h : Frame m s0 s) (q : Requester) :
    OutFrame m s0 (execTbNsLoRead q s) := by
  unfold execTbNsLoRead
  repeat' first
    | (with_reducible assumption) | (exact sub_trans rfl hm) | intro _ | (with_reducible apply OutFrame.next)
    | (with_reducible apply OutFrame.ite) | (with_reducible apply timersApply_frame)
    | (with_reducible apply State.setSnaps_frame) | (with_reducible apply State.answer_frame) | extract_lets | split
    | (dsimp -zeta only) | (dsimp +zetaDelta -zeta only)

theorem execAsnLoRead_frame {m : Nat} {s0 s : State} (hm : sub 0x220000000 m = true) (h : Frame m s0 s) (q : Requester) :
    OutFrame m s0 (execAsnLoRead q s) := by
  unfold execAsnLoRead
  repeat' first
    | (with_reducible assumption) | (exact sub_trans rfl hm) | intro _ | (with_reducible apply OutFrame.next)
    | (with_reducible apply OutFrame.ite) | (with_reducible apply State.setSnaps_frame)
    | (with_reducible apply State.answer_frame) | extract_lets | split | (dsimp -zeta only) | (dsimp +zetaDelta -zeta only)

theorem execTsInputEdge_frame {m : Nat} {s0 s : State} (hm : sub 0xC08C0021 m = true) (h : Frame m s0 s) (tsi : Nat) (rising : Bool) (width time : Nat) :
    OutFrame m s0 (execTsInputEdge tsi rising width time s) := by
  unfold execTsInputEdge
  repeat' first
    | (with_reducible assumption) | (exact sub_trans rfl hm) | intro _ | (with_reducible apply OutFrame.next)
    | (with_reducible apply OutFrame.ite) | (with_reducible apply Frame.ite) | (with_reducible apply Frame.ite_fst)
    | (with_reducible apply State.advanceTo_frame) | (with_reducible apply State.bump_frame)
    | (with_reducible apply State.putTb_frame) | (with_reducible apply State.set_frame)
    | (with_reducible apply State.bumpWrap_frame) | (with_reducible apply postEvent_frame) | extract_lets | split
    | (dsimp -zeta only) | (dsimp +zetaDelta -zeta only)

theorem execTsoCtrlWrite_frame {m : Nat} {s0 s : State} (hm : sub 0x80001 m = true) (h : Frame m s0 s) (tso v : Nat) :
    OutFrame m s0 (execTsoCtrlWrite tso v s) := by
  unfold execTsoCtrlWrite
  repeat' first
    | (with_reducible assumption) | (exact sub_trans rfl hm) | intro _ | (with_reducible apply OutFrame.next)
    | (with_reducible apply OutFrame.ite) | (with_reducible apply Frame.ite) | (with_reducible apply Frame.ite_fst)
    | (with_reducible apply State.set_frame) | (with_reducible apply armTso_frame) | (with_reducible apply State.setTso_frame)
    | (with_reducible apply tsoPassed_frame) | (with_reducible apply State.setBit_frame) | extract_lets | split
    | (dsimp -zeta only) | (dsimp +zetaDelta -zeta only)

theorem execTsoTargetCommit_frame {m : Nat} {s0 s : State} (hm : sub 0x80001 m = true) (h : Frame m s0 s) (tso v : Nat) :
    OutFrame m s0 (execTsoTargetCommit tso v s) := by
  unfold execTsoTargetCommit
  repeat' first
    | (with_reducible assumption) | (exact sub_trans rfl hm) | intro _ | (with_reducible apply OutFrame.next)
    | (with_reducible apply OutFrame.ite) | (with_reducible apply State.setTso_frame) | (with_reducible apply tsoPassed_frame)
    | (with_reducible apply State.set_frame) | extract_lets | split | (dsimp -zeta only) | (dsimp +zetaDelta -zeta only)

theorem execTsoTargetReached_frame {m : Nat} {s0 s : State} (hm : sub 0x40080000 m = true) (h : Frame m s0 s) (tso : Nat) :
    OutFrame m s0 (execTsoTargetReached tso s) := by
  unfold execTsoTargetReached
  repeat' first
    | (with_reducible assumption) | (exact sub_trans rfl hm) | intro _ | (with_reducible apply OutFrame.next)
    | (with_reducible apply OutFrame.ite) | (with_reducible apply Frame.ite) | (with_reducible apply Frame.ite_fst)
    | (with_reducible apply State.advanceTo_frame) | (with_reducible apply State.setTso_frame) | extract_lets | split
    | (dsimp -zeta only) | (dsimp +zetaDelta -zeta only)

theorem execTsoPulseEnd_frame {m : Nat} {s0 s : State} (hm : sub 0x40080000 m = true) (h : Frame m s0 s) (tso : Nat) :
    OutFrame m s0 (execTsoPulseEnd tso s) := by
  unfold execTsoPulseEnd
  repeat' first
    | (with_reducible assumption) | (exact sub_trans rfl hm) | intro _ | (with_reducible apply OutFrame.next)
    | (with_reducible apply OutFrame.ite) | (with_reducible apply Frame.ite) | (with_reducible apply Frame.ite_fst)
    | (with_reducible apply State.advanceTo_frame) | (with_reducible apply State.setTso_frame) | extract_lets | split
    | (dsimp -zeta only) | (dsimp +zetaDelta -zeta only)

theorem execTimeErrSecond_frame {m : Nat} {s0 s : State} (hm : sub 0x1 m = true) (h : Frame m s0 s) :
    OutFrame m s0 (execTimeErrSecond s) := by
  unfold execTimeErrSecond
  repeat' first
    | (with_reducible assumption) | (exact sub_trans rfl hm) | intro _ | (with_reducible apply OutFrame.next)
    | (with_reducible apply OutFrame.ite) | (with_reducible apply Frame.ite) | (with_reducible apply Frame.ite_fst)
    | (with_reducible apply State.bumpBy_frame) | extract_lets | split | (dsimp -zeta only) | (dsimp +zetaDelta -zeta only)

theorem execRatioMeasureDone_frame {m : Nat} {s0 s : State} (hm : sub 0x1 m = true) (h : Frame m s0 s) (rc : Bool) (ns : Nat) :
    OutFrame m s0 (execRatioMeasureDone rc ns s) := by
  unfold execRatioMeasureDone
  repeat' first
    | (with_reducible assumption) | (exact sub_trans rfl hm) | intro _ | (with_reducible apply OutFrame.next)
    | (with_reducible apply OutFrame.ite) | (with_reducible apply Frame.ite) | (with_reducible apply Frame.ite_fst)
    | (with_reducible apply State.set_frame) | extract_lets | split | (dsimp -zeta only) | (dsimp +zetaDelta -zeta only)

theorem execGtMatch_frame {m : Nat} {s0 s : State} (hm : sub 0x880001 m = true) (h : Frame m s0 s) (gt : Nat) :
    OutFrame m s0 (execGtMatch gt s) := by
  unfold execGtMatch
  repeat' first
    | (with_reducible assumption) | (exact sub_trans rfl hm) | intro _ | (with_reducible apply OutFrame.next)
    | (with_reducible apply OutFrame.ite) | (with_reducible apply Frame.ite) | (with_reducible apply Frame.ite_fst)
    | (with_reducible apply gtOnto_frame) | extract_lets | split | (dsimp -zeta only) | (dsimp +zetaDelta -zeta only)

theorem execGtWrap_frame {m : Nat} {s0 s : State} (hm : sub 0x880001 m = true) (h : Frame m s0 s) (gt : Nat) :
    OutFrame m s0 (execGtWrap gt s) := by
  unfold execGtWrap
  repeat' first
    | (with_reducible assumption) | (exact sub_trans rfl hm) | intro _ | (with_reducible apply OutFrame.next)
    | (with_reducible apply OutFrame.ite) | (with_reducible apply Frame.ite) | (with_reducible apply Frame.ite_fst)
    | (with_reducible apply gtOnto_frame) | extract_lets | split | (dsimp -zeta only) | (dsimp +zetaDelta -zeta only)

theorem execGtCapture_frame {m : Nat} {s0 s : State} (hm : sub 0x880001 m = true) (h : Frame m s0 s) (gt : Nat) (rising : Bool) :
    OutFrame m s0 (execGtCapture gt rising s) := by
  unfold execGtCapture
  repeat' first
    | (with_reducible assumption) | (exact sub_trans rfl hm) | intro _ | (with_reducible apply OutFrame.next)
    | (with_reducible apply OutFrame.ite) | (with_reducible apply Frame.ite) | (with_reducible apply Frame.ite_fst)
    | (with_reducible apply State.setGt_frame) | (with_reducible apply gtTake_frame) | extract_lets | split | (dsimp -zeta only)
    | (dsimp +zetaDelta -zeta only)

theorem execGtRegisterApply_frame {m : Nat} {s0 s : State} (hm : sub 0x880001 m = true) (h : Frame m s0 s) (gt : Nat) :
    OutFrame m s0 (execGtRegisterApply gt s) := by
  unfold execGtRegisterApply
  repeat' first
    | (with_reducible assumption) | (exact sub_trans rfl hm) | intro _ | (with_reducible apply OutFrame.next)
    | (with_reducible apply OutFrame.ite) | (with_reducible apply Frame.ite) | (with_reducible apply Frame.ite_fst)
    | (with_reducible apply gtApply_frame) | (with_reducible apply State.putTb_frame) | extract_lets | split
    | (dsimp -zeta only) | (dsimp +zetaDelta -zeta only)

theorem execGtCntLoRead_frame {m : Nat} {s0 s : State} (hm : sub 0x220880001 m = true) (h : Frame m s0 s) (q : Requester) (gt : Nat) :
    OutFrame m s0 (execGtCntLoRead q gt s) := by
  unfold execGtCntLoRead
  repeat' first
    | (with_reducible assumption) | (exact sub_trans rfl hm) | intro _ | (with_reducible apply OutFrame.next)
    | (with_reducible apply OutFrame.ite) | (with_reducible apply Frame.ite) | (with_reducible apply Frame.ite_fst)
    | (with_reducible apply timersApply_frame) | (with_reducible apply State.setSnaps_frame)
    | (with_reducible apply State.answer_frame) | extract_lets | split | (dsimp -zeta only) | (dsimp +zetaDelta -zeta only)

end Sys2Proof.Machine
end

