-- ==== Sys2Proof/Laws/FrameUpdate.lean ====
section
/-!
SUPPORT. Which components the operations of Machine/Update.lean may change (`Frame`).
-/

namespace Sys2Proof.Machine

set_option linter.unusedVariables false
set_option linter.unusedTactic false
set_option linter.unreachableTactic false

theorem updateCommand_frame {m : Nat} {s0 s : State} (hm : sub 0x1 m = true) (h : Frame m s0 s) (q : Requester) (f : State → State)
    (hf : ∀ t, Frame m s0 t → Frame m s0 (f t)) : Frame m s0 (updateCommand s q f) := by
  unfold updateCommand
  repeat' first
    | (with_reducible assumption) | (exact sub_trans rfl hm) | intro _ | (with_reducible apply Frame.ite) | (with_reducible apply hf)
    | (with_reducible apply badUpdate_frame) | extract_lets | split | (dsimp -zeta only)

theorem execUpdStage_frame {m : Nat} {s0 s : State} (hm : sub 0x188840027 m = true) (h : Frame m s0 s) (q : Requester) (comp : Nat) :
    OutFrame m s0 (execUpdStage q comp s) := by
  unfold execUpdStage
  repeat' first
    | (with_reducible assumption) | (exact sub_trans rfl hm) | intro _ | (with_reducible apply OutFrame.next)
    | (with_reducible apply OutFrame.ite) | (with_reducible apply Frame.ite) | (with_reducible apply Frame.ite_fst)
    | (with_reducible apply updateCommand_frame) | (with_reducible apply updResult_frame)
    | (with_reducible apply stageImage_frame) | extract_lets | split | (dsimp -zeta only) | (dsimp +zetaDelta -zeta only)

theorem execStageWriteDone_frame {m : Nat} {s0 s : State} (hm : sub 0x180840027 m = true) (h : Frame m s0 s) (readOk : Bool) :
    OutFrame m s0 (execStageWriteDone readOk s) := by
  unfold execStageWriteDone
  repeat' first
    | (with_reducible assumption) | (exact sub_trans rfl hm) | intro _ | (with_reducible apply OutFrame.next)
    | (with_reducible apply OutFrame.ite) | (with_reducible apply Frame.ite) | (with_reducible apply Frame.ite_fst)
    | (with_reducible apply stageEnds_frame) | extract_lets | split | (dsimp -zeta only) | (dsimp +zetaDelta -zeta only)

theorem execUpdActivate_frame {m : Nat} {s0 s : State} (hm : sub 0x18C8C0027 m = true) (h : Frame m s0 s) (q : Requester) (swap : Bool) :
    OutFrame m s0 (execUpdActivate q swap s) := by
  unfold execUpdActivate
  repeat' first
    | (with_reducible assumption) | (exact sub_trans rfl hm) | intro _ | (with_reducible apply OutFrame.next)
    | (with_reducible apply OutFrame.ite) | (with_reducible apply Frame.ite) | (with_reducible apply Frame.ite_fst)
    | (with_reducible apply updateCommand_frame) | (with_reducible apply activate_frame)
    | (with_reducible apply updResult_frame) | extract_lets | split | (dsimp -zeta only) | (dsimp +zetaDelta -zeta only)

theorem execUpdReject_frame {m : Nat} {s0 s : State} (hm : sub 0xC880001 m = true) (h : Frame m s0 s) (q : Requester) :
    OutFrame m s0 (execUpdReject q s) := by
  unfold execUpdReject
  repeat' first
    | (with_reducible assumption) | (exact sub_trans rfl hm) | intro _ | (with_reducible apply OutFrame.next)
    | (with_reducible apply OutFrame.ite) | (with_reducible apply Frame.ite) | (with_reducible apply Frame.ite_fst)
    | (with_reducible apply updateCommand_frame) | (with_reducible apply updResult_frame)
    | (with_reducible apply healthFails_frame) | extract_lets | split | (dsimp -zeta only) | (dsimp +zetaDelta -zeta only)

theorem execUpdAbort_frame {m : Nat} {s0 s : State} (hm : sub 0x180840027 m = true) (h : Frame m s0 s) (q : Requester) :
    OutFrame m s0 (execUpdAbort q s) := by
  unfold execUpdAbort
  repeat' first
    | (with_reducible assumption) | (exact sub_trans rfl hm) | intro _ | (with_reducible apply OutFrame.next)
    | (with_reducible apply OutFrame.ite) | (with_reducible apply Frame.ite) | (with_reducible apply Frame.ite_fst)
    | (with_reducible apply updateCommand_frame) | (with_reducible apply slotChange_frame) | (with_reducible apply setUpd_frame)
    | (with_reducible apply updResult_frame) | extract_lets | split | (dsimp -zeta only) | (dsimp +zetaDelta -zeta only)

theorem execUpdBootLoad_frame {m : Nat} {s0 s : State} (hm : sub 0x88840023 m = true) (h : Frame m s0 s) (q : Requester) (comp : Nat) :
    OutFrame m s0 (execUpdBootLoad q comp s) := by
  unfold execUpdBootLoad
  repeat' first
    | (with_reducible assumption) | (exact sub_trans rfl hm) | intro _ | (with_reducible apply OutFrame.next)
    | (with_reducible apply OutFrame.ite) | (with_reducible apply Frame.ite) | (with_reducible apply Frame.ite_fst)
    | (with_reducible apply badUpdate_frame) | (with_reducible apply updResult_frame) | (with_reducible apply offerImage_frame)
    | (with_reducible apply State.set_frame) | (with_reducible refine Frame.of_pair (by assumption) ?_) | extract_lets | split
    | (dsimp -zeta only) | (dsimp +zetaDelta -zeta only)

theorem execUpdActivateAtRestart_frame {m : Nat} {s0 s : State} (hm : sub 0x188840027 m = true) (h : Frame m s0 s) (q : Requester) :
    OutFrame m s0 (execUpdActivateAtRestart q s) := by
  unfold execUpdActivateAtRestart
  repeat' first
    | (with_reducible assumption) | (exact sub_trans rfl hm) | intro _ | (with_reducible apply OutFrame.next)
    | (with_reducible apply OutFrame.ite) | (with_reducible apply Frame.ite) | (with_reducible apply Frame.ite_fst)
    | (with_reducible apply updateCommand_frame) | (with_reducible apply activateChange_frame)
    | (with_reducible apply updResult_frame) | (with_reducible apply State.putUpd_frame) | extract_lets | split
    | (dsimp -zeta only) | (dsimp +zetaDelta -zeta only)

theorem execCoreHandoverDone_frame {m : Nat} {s0 s : State} (hm : sub 0x9000001 m = true) (h : Frame m s0 s) (core : Nat) :
    OutFrame m s0 (execCoreHandoverDone core s) := by
  unfold execCoreHandoverDone
  repeat' first
    | (with_reducible assumption) | (exact sub_trans rfl hm) | intro _ | (with_reducible apply OutFrame.next)
    | (with_reducible apply OutFrame.ite) | (with_reducible apply Frame.ite) | (with_reducible apply Frame.ite_fst)
    | (with_reducible apply setCpu_frame) | (with_reducible apply State.putUpd_frame) | extract_lets | split
    | (dsimp -zeta only) | (dsimp +zetaDelta -zeta only)

theorem execCoreHandoverTimeout_frame {m : Nat} {s0 s : State} (hm : sub 0x18ED75127 m = true) (h : Frame m s0 s) (core : Nat) :
    OutFrame m s0 (execCoreHandoverTimeout core s) := by
  unfold execCoreHandoverTimeout
  repeat' first
    | (with_reducible assumption) | (exact sub_trans rfl hm) | intro _ | (with_reducible apply OutFrame.next)
    | (with_reducible apply OutFrame.ite) | (with_reducible apply Frame.ite) | (with_reducible apply Frame.ite_fst)
    | (with_reducible apply fallBack_frame) | (with_reducible apply startPlanned_frame)
    | (with_reducible apply warmRestart_frame) | extract_lets | split | (dsimp -zeta only) | (dsimp +zetaDelta -zeta only)

theorem execHandoverComplete_frame {m : Nat} {s0 s : State} (hm : sub 0x18EDF5127 m = true) (h : Frame m s0 s) (fails : List (Nat × Nat)) :
    OutFrame m s0 (execHandoverComplete fails s) := by
  unfold execHandoverComplete
  repeat' first
    | (with_reducible assumption) | (exact sub_trans rfl hm) | intro _ | (with_reducible apply OutFrame.next)
    | (with_reducible apply OutFrame.ite) | (with_reducible apply Frame.ite) | (with_reducible apply Frame.ite_fst)
    | (with_reducible apply endHandover_frame) | extract_lets | split | (dsimp -zeta only) | (dsimp +zetaDelta -zeta only)

theorem execConfigLiveApply_frame {m : Nat} {s0 s : State} (hm : sub 0x1CEDFE923 m = true) (h : Frame m s0 s) :
    OutFrame m s0 (execConfigLiveApply s) := by
  unfold execConfigLiveApply
  repeat' first
    | (with_reducible assumption) | (exact sub_trans rfl hm) | intro _ | (with_reducible apply OutFrame.next)
    | (with_reducible apply OutFrame.ite) | (with_reducible apply Frame.ite) | (with_reducible apply Frame.ite_fst)
    | (with_reducible apply State.advanceTo_frame) | (with_reducible apply liveApply_frame) | extract_lets | split
    | (dsimp -zeta only) | (dsimp +zetaDelta -zeta only)

theorem execUpdConfirmWrite_frame {m : Nat} {s0 s : State} (hm : sub 0x188840037 m = true) (h : Frame m s0 s) (q : Requester) (key comp : Nat) :
    OutFrame m s0 (execUpdConfirmWrite q key comp s) := by
  unfold execUpdConfirmWrite
  repeat' first
    | (with_reducible assumption) | (exact sub_trans rfl hm) | intro _ | (with_reducible apply OutFrame.next)
    | (with_reducible apply OutFrame.ite) | (with_reducible apply Frame.ite) | (with_reducible apply Frame.ite_fst)
    | (with_reducible apply State.bump_frame) | (with_reducible apply confirmProbation_frame) | extract_lets | split
    | (dsimp -zeta only) | (dsimp +zetaDelta -zeta only)

theorem execProbationExpiry_frame {m : Nat} {s0 s : State} (hm : sub 0x4C880001 m = true) (h : Frame m s0 s) :
    OutFrame m s0 (execProbationExpiry s) := by
  unfold execProbationExpiry
  repeat' first
    | (with_reducible assumption) | (exact sub_trans rfl hm) | intro _ | (with_reducible apply OutFrame.next)
    | (with_reducible apply OutFrame.ite) | (with_reducible apply Frame.ite) | (with_reducible apply Frame.ite_fst)
    | (with_reducible apply beginFallback_frame) | (with_reducible apply State.reach_frame) | extract_lets | split
    | (dsimp -zeta only) | (dsimp +zetaDelta -zeta only)

theorem execUpdCfgseqLoRead_frame {m : Nat} {s0 s : State} (hm : sub 0x220000000 m = true) (h : Frame m s0 s) (q : Requester) :
    OutFrame m s0 (execUpdCfgseqLoRead q s) := by
  unfold execUpdCfgseqLoRead
  repeat' first
    | (with_reducible assumption) | (exact sub_trans rfl hm) | intro _ | (with_reducible apply OutFrame.next)
    | (with_reducible apply OutFrame.ite) | (with_reducible apply Frame.ite) | (with_reducible apply Frame.ite_fst)
    | (with_reducible apply State.setSnaps_frame) | (with_reducible apply State.answer_frame) | extract_lets | split
    | (dsimp -zeta only) | (dsimp +zetaDelta -zeta only)

end Sys2Proof.Machine
end

