-- ==== Sys2Proof/Laws/FrameRegisterAccess.lean ====
section
/-!
SUPPORT. Which components the operations of Machine/RegisterAccess.lean may change (`Frame`).
-/

namespace Sys2Proof.Machine

set_option linter.unusedVariables false
set_option linter.unusedTactic false
set_option linter.unreachableTactic false

theorem settled_frame {m : Nat} {s0 s : State} {o : Host.Outcome State Fault Refusal} (h : Frame m s0 s) (ho : OutFrame m s0 o) :
    Frame m s0 (settled s o) := by
  cases o with
  | next t => exact ho.of t rfl
  | fault f => exact h
  | refused r => exact h

theorem opRefused_frame {m : Nat} {s0 s : State} (hm : sub 0x1 m = true) (h : Frame m s0 s) (q : Requester) (op : Nat) (f : Fld) (result : Nat) :
    Frame m s0 (opRefused s q op f result) := by
  unfold opRefused
  repeat' first
    | (with_reducible assumption) | (exact sub_trans rfl hm) | intro _ | (with_reducible apply Frame.ite)
    | (with_reducible apply Frame.ite_fst) | (with_reducible apply State.set_frame) | extract_lets | split | (dsimp -zeta only)
    | (dsimp +zetaDelta -zeta only)

theorem writeTableCommand_frame {m : Nat} {s0 s : State} (hm : sub 0x18697E027 m = true) (h : Frame m s0 s) (q : Requester) (off v : Nat) :
    OptFrame m s0 (writeTableCommand s q off v) := by
  unfold writeTableCommand
  repeat' first
    | (with_reducible assumption) | (exact sub_trans rfl hm) | intro _ | (with_reducible apply OptFrame.ite)
    | (with_reducible apply OptFrame.some) | (with_reducible apply OptFrame.none) | (with_reducible apply OptFrame.map)
    | (with_reducible apply Frame.ite) | (with_reducible apply Frame.ite_fst) | (with_reducible apply settled_frame)
    | (with_reducible apply execWakeSetTarget_frame) | (with_reducible apply execWakeResetModel_frame)
    | (with_reducible apply execImapRateChange_frame) | (with_reducible apply execImapClear_frame)
    | (with_reducible apply execImapResend_frame) | (with_reducible apply execNcsRead_frame)
    | (with_reducible apply execNcsMaskedWrite_frame) | (with_reducible apply execNcsZeroLine_frame)
    | (with_reducible apply execNcsBulkClear_frame) | (with_reducible apply opRefused_frame)
    | (with_reducible apply execEhtLookup_frame) | (with_reducible apply execEhtInsert_frame)
    | (with_reducible apply execEhtDelete_frame) | (with_reducible apply execHbRead_frame)
    | (with_reducible apply execHbInvalidate_frame) | extract_lets | split | (dsimp -zeta only) | (dsimp +zetaDelta -zeta only)

theorem writeSigned_frame {m : Nat} {s0 s : State} (hm : sub 0x100001 m = true) (h : Frame m s0 s) (q : Requester) :
    Frame m s0 (writeSigned s q) := by
  unfold writeSigned
  repeat' first
    | (with_reducible assumption) | (exact sub_trans rfl hm) | intro _ | (with_reducible apply Frame.ite)
    | (with_reducible apply Frame.ite_fst) | (with_reducible apply startCommand_frame) | (with_reducible apply setResult_frame)
    | (with_reducible apply State.bump_frame) | extract_lets | split | (dsimp -zeta only) | (dsimp +zetaDelta -zeta only)

theorem writeCommand_frame {m : Nat} {s0 s : State} (hm : sub 0x19EDFD127 m = true) (h : Frame m s0 s) (q : Requester) (off v : Nat) (fails : List (Nat × Nat)) (data : List Byte) :
    OptFrame m s0 (writeCommand s q off v fails data) := by
  unfold writeCommand
  repeat' first
    | (with_reducible assumption) | (exact sub_trans rfl hm) | intro _ | (with_reducible apply OptFrame.ite)
    | (with_reducible apply OptFrame.some) | (with_reducible apply OptFrame.none) | (with_reducible apply OptFrame.map)
    | (with_reducible apply Frame.ite) | (with_reducible apply Frame.ite_fst) | (with_reducible apply settled_frame)
    | (with_reducible apply execSnapshotExport_frame) | (with_reducible apply execSnapshotRestore_frame)
    | (with_reducible apply execSnapshotAbort_frame) | (with_reducible apply execSecAttest_frame)
    | (with_reducible apply execSecSelftestAll_frame) | (with_reducible apply writeSigned_frame)
    | (with_reducible apply execSecSelftestKind_frame) | (with_reducible apply execPairPlannedSwitchover_frame)
    | (with_reducible apply execPairRestartResync_frame) | (with_reducible apply execPairHold_frame)
    | (with_reducible apply execPairResume_frame) | (with_reducible apply execMiApplyRepairs_frame)
    | (with_reducible apply execMiScrubNow_frame) | (with_reducible apply execUpdStage_frame)
    | (with_reducible apply execUpdActivate_frame) | (with_reducible apply execUpdReject_frame)
    | (with_reducible apply execUpdAbort_frame) | (with_reducible apply execUpdBootLoad_frame)
    | (with_reducible apply execUpdActivateAtRestart_frame) | (with_reducible apply execPwrCmdSepia_frame)
    | (with_reducible apply execPwrCmdUmber_frame) | extract_lets | split | (dsimp -zeta only) | (dsimp +zetaDelta -zeta only)

theorem writeSingle_frame {m : Nat} {s0 s : State} (hm : sub 0x19EDFFF37 m = true) (h : Frame m s0 s) (q : Requester) (off v : Nat) :
    OptFrame m s0 (writeSingle s q off v) := by
  unfold writeSingle
  repeat' first
    | (with_reducible assumption) | (exact sub_trans rfl hm) | intro _ | (with_reducible apply OptFrame.ite)
    | (with_reducible apply OptFrame.some) | (with_reducible apply OptFrame.none) | (with_reducible apply OptFrame.map)
    | (with_reducible apply Frame.ite) | (with_reducible apply Frame.ite_fst) | (with_reducible apply settled_frame)
    | (with_reducible apply execResetCtrlWrite_frame) | (with_reducible apply execAonFailClear_frame)
    | (with_reducible apply execRtwDataWrite_frame) | (with_reducible apply execOscManWrite_frame)
    | (with_reducible apply execPwrLevelWrite_frame) | (with_reducible apply writePlain_frame)
    | (with_reducible apply execJesdArm_frame) | (with_reducible apply ownerWrite_frame)
    | (with_reducible apply State.putTb_frame) | (with_reducible apply execTbIncCommit_frame)
    | (with_reducible apply execTbStepCommit_frame) | (with_reducible apply execTbServoWrite_frame)
    | (with_reducible apply State.set_frame) | (with_reducible apply execPairKeepWrite_frame)
    | (with_reducible apply execMiFlipWrite_frame) | (with_reducible apply execAppHold_frame)
    | (with_reducible apply execAppRelease_frame) | (with_reducible apply execAppWdogKick_frame)
    | (with_reducible apply execMbTxPush_frame) | (with_reducible apply execMbRxPop_frame)
    | (with_reducible apply execGpioSetWrite_frame) | (with_reducible apply execGpioClrWrite_frame)
    | (with_reducible apply execAicEoiWrite_frame) | (with_reducible apply execAicGdisWrite_frame)
    | (with_reducible apply execAicSwiWrite_frame) | (with_reducible apply writeProb_frame)
    | (with_reducible apply execUpdConfirmWrite_frame) | extract_lets | split | (dsimp -zeta only)
    | (dsimp +zetaDelta -zeta only)

theorem writeCalReq_frame {m : Nat} {s0 s : State} (hm : sub 0x80840921 m = true) (h : Frame m s0 s) (n v : Nat) :
    Frame m s0 (writeCalReq s n v) := by
  unfold writeCalReq
  repeat' first
    | (with_reducible assumption) | (exact sub_trans rfl hm) | intro _ | (with_reducible apply settled_frame)
    | (with_reducible apply execCalCancel_frame) | (with_reducible apply execCalImage_frame)
    | (with_reducible apply execCalAnalogFilter_frame) | (with_reducible apply execCalAnalogDc_frame)
    | (with_reducible apply execCalTxIqLo_frame) | (with_reducible apply execCalFull_frame)
    | (with_reducible apply execCalSelfTest_frame) | extract_lets | split | (dsimp -zeta only) | (dsimp +zetaDelta -zeta only)

theorem writeRing_frame {m : Nat} {s0 s : State} (hm : sub 0x21 m = true) (h : Frame m s0 s) (q : Requester) (n sub off v : Nat) :
    Frame m s0 (writeRing s q n sub off v) := by
  unfold writeRing
  repeat' first
    | (with_reducible assumption) | (exact sub_trans rfl hm) | intro _ | (with_reducible apply settled_frame)
    | (with_reducible apply execEvrCtrlWrite_frame) | (with_reducible apply execEvrBaseWrite_frame)
    | (with_reducible apply execEvrConsWrite_frame) | (with_reducible apply writePlain_frame) | extract_lets | split
    | (dsimp -zeta only) | (dsimp +zetaDelta -zeta only)

theorem writeHostQueue_frame {m : Nat} {s0 s : State} (hm : sub 0x81 m = true) (h : Frame m s0 s) (q : Requester) (n sub off v : Nat) :
    Frame m s0 (writeHostQueue s q n sub off v) := by
  unfold writeHostQueue
  repeat' first
    | (with_reducible assumption) | (exact sub_trans rfl hm) | intro _ | (with_reducible apply settled_frame)
    | (with_reducible apply execHqCtrlWrite_frame) | (with_reducible apply writeHqBase_frame)
    | (with_reducible apply execHqTailWrite_frame) | (with_reducible apply writePlain_frame) | extract_lets | split
    | (dsimp -zeta only) | (dsimp +zetaDelta -zeta only)

theorem writeTso_frame {m : Nat} {s0 s : State} (hm : sub 0x80001 m = true) (h : Frame m s0 s) (q : Requester) (n sub off v : Nat) :
    Frame m s0 (writeTso s q n sub off v) := by
  unfold writeTso
  repeat' first
    | (with_reducible assumption) | (exact sub_trans rfl hm) | intro _ | (with_reducible apply settled_frame)
    | (with_reducible apply execTsoCtrlWrite_frame) | (with_reducible apply State.set_frame)
    | (with_reducible apply State.setTso_frame) | (with_reducible apply execTsoTargetCommit_frame)
    | (with_reducible apply writePlain_frame) | extract_lets | split | (dsimp -zeta only) | (dsimp +zetaDelta -zeta only)

theorem writeArray_frame {m : Nat} {s0 s : State} (hm : sub 0x1869F09A1 m = true) (h : Frame m s0 s) (q : Requester) (off v : Nat) :
    OptFrame m s0 (writeArray s q off v) := by
  unfold writeArray
  repeat' first
    | (with_reducible assumption) | (exact sub_trans rfl hm) | intro _ | (with_reducible apply OptFrame.ite)
    | (with_reducible apply OptFrame.some) | (with_reducible apply OptFrame.none) | (with_reducible apply OptFrame.map)
    | (with_reducible apply Frame.ite) | (with_reducible apply Frame.ite_fst) | (with_reducible apply settled_frame)
    | (with_reducible apply writeRing_frame) | (with_reducible apply writeHostQueue_frame)
    | (with_reducible apply writeTso_frame) | (with_reducible apply gtPost_frame) | (with_reducible apply writeCalReq_frame)
    | (with_reducible apply execPathSchedWrite_frame) | (with_reducible apply execQueueTestForce_frame)
    | (with_reducible apply execInfraEntryWrite_frame) | (with_reducible apply writeGpioCfg_frame)
    | (with_reducible apply execAicEnWrite_frame) | (with_reducible apply writeAicSrc_frame) | extract_lets | split
    | (dsimp -zeta only) | (dsimp +zetaDelta -zeta only)

theorem writeSpecial_frame {m : Nat} {s0 s : State} (hm : sub 0x19EDFFFFF m = true) (h : Frame m s0 s) (q : Requester) (off v : Nat) (fails : List (Nat × Nat)) (data : List Byte) :
    OptFrame m s0 (writeSpecial s q off v fails data) := by
  unfold writeSpecial
  repeat' first
    | (with_reducible assumption) | (exact sub_trans rfl hm) | intro _ | (with_reducible apply OptFrame.ite)
    | (with_reducible apply OptFrame.some) | (with_reducible apply OptFrame.none) | (with_reducible apply OptFrame.map)
    | (with_reducible apply writeSingle_frame) | (with_reducible apply writeCommand_frame)
    | (with_reducible apply writeTableCommand_frame) | (with_reducible apply writeArray_frame)
    | (with_reducible apply writeMsix_frame) | (with_reducible apply State.putWindow_frame)
    | (with_reducible refine OptFrame.get ?_ (by assumption)) | extract_lets | split | (dsimp -zeta only)
    | (dsimp +zetaDelta -zeta only)

theorem writeRegister_frame {m : Nat} {s0 s : State} (hm : sub 0x19EDFFFFF m = true) (h : Frame m s0 s) (q : Requester) (off v : Nat) (fails : List (Nat × Nat)) (data : List Byte) :
    Frame m s0 (writeRegister s q off v fails data) := by
  unfold writeRegister
  repeat' first
    | (with_reducible assumption) | (exact sub_trans rfl hm) | intro _ | (with_reducible apply writeSpecial_frame)
    | (with_reducible apply writePlain_frame) | (with_reducible refine OptFrame.get ?_ (by assumption)) | extract_lets | split
    | (dsimp -zeta only) | (dsimp +zetaDelta -zeta only)

theorem writeWord_frame {m : Nat} {s0 s : State} (hm : sub 0x19EDFFFFF m = true) (h : Frame m s0 s) (q : Requester) (off v : Nat) (fails : List (Nat × Nat)) (data : List Byte) :
    Frame m s0 (writeWord s q off v fails data) := by
  unfold writeWord
  repeat' first
    | (with_reducible assumption) | (exact sub_trans rfl hm) | intro _ | (with_reducible apply Frame.ite)
    | (with_reducible apply Frame.ite_fst) | (with_reducible apply State.bump_frame)
    | (with_reducible apply writeRegister_frame) | extract_lets | split | (dsimp -zeta only) | (dsimp +zetaDelta -zeta only)

theorem execRegisterWrite_frame {m : Nat} {s0 s : State} (hm : sub 0x19EDFFFFF m = true) (h : Frame m s0 s) (q : Requester) (off size v : Nat) (poisoned : Bool) (fails : List (Nat × Nat)) (data : List Byte) :
    OutFrame m s0 (execRegisterWrite q off size v poisoned fails data s) := by
  unfold execRegisterWrite
  repeat' first
    | (with_reducible assumption) | (exact sub_trans rfl hm) | intro _ | (with_reducible apply OutFrame.next)
    | (with_reducible apply OutFrame.ite) | (with_reducible apply Frame.ite) | (with_reducible apply Frame.ite_fst)
    | (with_reducible apply State.bump_frame) | (with_reducible apply writeWord_frame)
    | (with_reducible apply countNarrow_frame) | (with_reducible apply Frame.fold) | extract_lets | split | (dsimp -zeta only)
    | (dsimp +zetaDelta -zeta only)

theorem readSpecial_frame {m : Nat} {s0 s : State} (hm : sub 0x2A0880001 m = true) (h : Frame m s0 s) (q : Requester) (off : Nat) :
    OptFrame m s0 (readSpecial s q off) := by
  unfold readSpecial
  repeat' first
    | (with_reducible assumption) | (exact sub_trans rfl hm) | intro _ | (with_reducible apply OptFrame.ite)
    | (with_reducible apply OptFrame.some) | (with_reducible apply OptFrame.none) | (with_reducible apply OptFrame.map)
    | (with_reducible apply Frame.ite) | (with_reducible apply Frame.ite_fst) | (with_reducible apply settled_frame)
    | (with_reducible apply execAsnLoRead_frame) | (with_reducible apply snapAnswer_frame)
    | (with_reducible apply execTbNsLoRead_frame) | (with_reducible apply execUpdCfgseqLoRead_frame)
    | (with_reducible apply execAicClaimRead_frame) | (with_reducible apply readTsi_frame)
    | (with_reducible apply readGtHigh_frame) | (with_reducible apply execGtCntLoRead_frame)
    | (with_reducible apply readGtCap_frame) | extract_lets | split | (dsimp -zeta only) | (dsimp +zetaDelta -zeta only)

theorem beforeRead_frame {m : Nat} {s0 s : State} (hm : sub 0x880001 m = true) (h : Frame m s0 s) (off : Nat) :
    Frame m s0 (beforeRead s off) := by
  unfold beforeRead
  repeat' first
    | (with_reducible assumption) | (exact sub_trans rfl hm) | intro _ | (with_reducible apply Frame.ite)
    | (with_reducible apply Frame.ite_fst) | (with_reducible apply timersApply_frame) | (with_reducible apply closeWindow_frame)
    | (with_reducible apply aicUpdate_frame) | extract_lets | split | (dsimp -zeta only) | (dsimp +zetaDelta -zeta only)

theorem readWord_frame {m : Nat} {s0 s : State} (hm : sub 0x2A0880001 m = true) (h : Frame m s0 s) (q : Requester) (off : Nat) :
    Frame m s0 (readWord s q off) := by
  unfold readWord
  repeat' first
    | (with_reducible assumption) | (exact sub_trans rfl hm) | intro _ | (with_reducible apply Frame.ite)
    | (with_reducible apply Frame.ite_fst) | (with_reducible apply State.answer_frame) | (with_reducible apply beforeRead_frame)
    | (with_reducible apply readSpecial_frame) | (with_reducible apply afterRead_frame)
    | (with_reducible refine OptFrame.get ?_ (by assumption)) | extract_lets | split | (dsimp -zeta only)
    | (dsimp +zetaDelta -zeta only)

theorem readWords_frame {m : Nat} {s0 : State} (hm : sub 0x2A0880001 m = true) (q : Requester) :
    ∀ (l : List (Nat × Bool)) (i acc : Nat) {s : State}, Frame m s0 s → Frame m s0 (readWords q l i acc s).1
  | [], _, _, _, h => h
  | _ :: l, _, _, _, h => readWords_frame hm q l _ _ (readWord_frame (sub_trans rfl hm) h q _)

theorem execCounterReadClear_frame {m : Nat} {s0 s : State} (hm : sub 0x2A0880001 m = true) (h : Frame m s0 s) (q : Requester) (off size : Nat) :
    OutFrame m s0 (execCounterReadClear q off size s) := by
  unfold execCounterReadClear
  repeat' first
    | (with_reducible assumption) | (exact sub_trans rfl hm) | intro _ | (with_reducible apply OutFrame.next)
    | (with_reducible apply OutFrame.ite) | (with_reducible apply Frame.ite) | (with_reducible apply Frame.ite_fst)
    | (with_reducible apply readWords_frame) | (with_reducible apply State.answer_frame) | extract_lets | split
    | (dsimp -zeta only) | (dsimp +zetaDelta -zeta only)

end Sys2Proof.Machine
end

