-- ==== Sys2Proof/Laws/KeepsQueueOps.lean ====
section
/-!
SUPPORT. What the operations of Machine/QueueOps.lean keep (`Keeps`).
-/

namespace Sys2Proof.Machine

set_option linter.unusedVariables false
set_option linter.unusedTactic false
set_option linter.unreachableTactic false

theorem viewQueue_keeps {s0 s : State} (h : Keeps s0 s) (q : Nat) : Keeps s0 (viewQueue s q) := by
  unfold viewQueue
  repeat' first
    | (with_reducible assumption) | intro _ | (with_reducible apply State.set_keeps) | (with_reducible apply Keeps.fold)
    | extract_lets | split | (dsimp -zeta only) | (dsimp +zetaDelta -zeta only)

theorem putQueue_keeps {s0 s : State} (h : Keeps s0 s) (q : Nat) (x : QueueState) : Keeps s0 (putQueue s q x) := by
  unfold putQueue
  repeat' first
    | (with_reducible assumption) | intro _ | (with_reducible apply viewQueue_keeps)
    | (with_reducible apply State.setQueue_keeps) | extract_lets | split | (dsimp -zeta only) | (dsimp +zetaDelta -zeta only)

theorem countReceived_keeps {s0 s : State} (h : Keeps s0 s) (q l : Nat) (i : QueueItem) : Keeps s0 (countReceived s q l i) := by
  unfold countReceived
  repeat' first
    | (with_reducible assumption) | intro _ | (with_reducible apply Keeps.ite) | (with_reducible apply Keeps.ite_fst)
    | (with_reducible apply State.bump_keeps) | extract_lets | split | (dsimp -zeta only) | (dsimp +zetaDelta -zeta only)

theorem pushItem_keeps {s0 s : State} (h : Keeps s0 s) (q l : Nat) (i : QueueItem) : Keeps s0 (pushItem s q l i) := by
  unfold pushItem
  repeat' first
    | (with_reducible assumption) | intro _ | (with_reducible apply Keeps.ite) | (with_reducible apply Keeps.ite_fst)
    | (with_reducible apply countReceived_keeps) | (with_reducible apply putQueue_keeps) | extract_lets | split
    | (dsimp -zeta only) | (dsimp +zetaDelta -zeta only)

theorem popItem_keeps {s0 s : State} (h : Keeps s0 s) (q : Nat) : Keeps s0 (popItem s q).1 := by
  unfold popItem
  repeat' first
    | (with_reducible assumption) | intro _ | (with_reducible apply Keeps.ite) | (with_reducible apply Keeps.ite_fst)
    | (with_reducible apply putQueue_keeps) | extract_lets | split | (dsimp -zeta only) | (dsimp +zetaDelta -zeta only)

end Sys2Proof.Machine
end

