-- ==== Sys2Proof/Laws/KeepsAicOps.lean ====
section
/-!
SUPPORT. What the operations of Machine/AicOps.lean keep (`Keeps`).
-/

namespace Sys2Proof.Machine

set_option linter.unusedVariables false
set_option linter.unusedTactic false
set_option linter.unreachableTactic false

theorem setPending_keeps {s0 s : State} (h : Keeps s0 s) (src : Nat) (b : Bool) : Keeps s0 (setPending s src b) := by
  unfold setPending
  repeat' first
    | (with_reducible assumption) | intro _ | (with_reducible apply Keeps.ite) | (with_reducible apply Keeps.ite_fst)
    | (with_reducible apply State.setBitAt_keeps) | extract_lets | split | (dsimp -zeta only) | (dsimp +zetaDelta -zeta only)

theorem setActive_keeps {s0 s : State} (h : Keeps s0 s) (src : Nat) (b : Bool) : Keeps s0 (setActive s src b) := by
  unfold setActive
  repeat' first
    | (with_reducible assumption) | intro _ | (with_reducible apply State.setBitAt_keeps) | extract_lets | split
    | (dsimp -zeta only) | (dsimp +zetaDelta -zeta only)

theorem aicExpire_keeps {s0 s : State} (h : Keeps s0 s) : Keeps s0 (aicExpire s) := by
  unfold aicExpire
  repeat' first
    | (with_reducible assumption) | intro _ | (with_reducible apply Keeps.ite) | (with_reducible apply Keeps.ite_fst)
    | (with_reducible apply setPending_keeps) | (with_reducible apply State.putApp_keeps) | (with_reducible apply Keeps.fold)
    | (with_reducible apply cellsWf_nil) | (with_reducible apply flashProgram_wf) | (with_reducible apply flashClear_wf)
    | (with_reducible apply setBytes_wf) | (with_reducible apply cellsWf_filter) | (with_reducible apply cellsWf_write)
    | (with_reducible apply And.intro) | (with_reducible exact wf_regs (by assumption))
    | (with_reducible exact wf_flash (by assumption)) | (with_reducible exact wf_window (by assumption))
    | (with_reducible exact wf_ncs (by assumption)) | (with_reducible exact wf_eht (by assumption))
    | (with_reducible exact wf_hb (by assumption)) | (with_reducible exact wf_shadow (by assumption))
    | (with_reducible exact wf_msix (by assumption)) | (with_reducible exact wf_iram (by assumption))
    | (with_reducible exact wf_dram (by assumption)) | (exact (wf_iram ‹Memory.wf _ = true› :))
    | (exact (wf_dram ‹Memory.wf _ = true› :)) | extract_lets | split | (dsimp -zeta only) | (dsimp +zetaDelta -zeta only)

theorem aicUpdate_keeps {a0 s0 : State} (h : Keeps a0 s0) : Keeps a0 (aicUpdate s0) := by
  unfold aicUpdate
  repeat' first
    | (with_reducible assumption) | intro _ | (with_reducible apply Keeps.ite) | (with_reducible apply Keeps.ite_fst)
    | (with_reducible apply aicExpire_keeps) | (with_reducible apply State.set_keeps)
    | (with_reducible apply State.putApp_keeps) | (with_reducible apply cellsWf_nil) | (with_reducible apply flashProgram_wf)
    | (with_reducible apply flashClear_wf) | (with_reducible apply setBytes_wf) | (with_reducible apply cellsWf_filter)
    | (with_reducible apply cellsWf_write) | (with_reducible apply And.intro) | (with_reducible exact wf_regs (by assumption))
    | (with_reducible exact wf_flash (by assumption)) | (with_reducible exact wf_window (by assumption))
    | (with_reducible exact wf_ncs (by assumption)) | (with_reducible exact wf_eht (by assumption))
    | (with_reducible exact wf_hb (by assumption)) | (with_reducible exact wf_shadow (by assumption))
    | (with_reducible exact wf_msix (by assumption)) | (with_reducible exact wf_iram (by assumption))
    | (with_reducible exact wf_dram (by assumption)) | (exact (wf_iram ‹Memory.wf _ = true› :))
    | (exact (wf_dram ‹Memory.wf _ = true› :)) | extract_lets | split | (dsimp -zeta only) | (dsimp +zetaDelta -zeta only)

theorem aicEdge_keeps {s0 s : State} (h : Keeps s0 s) (src : Nat) : Keeps s0 (aicEdge s src) := by
  unfold aicEdge
  repeat' first
    | (with_reducible assumption) | intro _ | (with_reducible apply Keeps.ite) | (with_reducible apply Keeps.ite_fst)
    | (with_reducible apply aicUpdate_keeps) | (with_reducible apply setPending_keeps) | extract_lets | split
    | (dsimp -zeta only) | (dsimp +zetaDelta -zeta only)

theorem aicLevel_keeps {s0 s : State} (h : Keeps s0 s) (src : Nat) (high : Bool) : Keeps s0 (aicLevel s src high) := by
  unfold aicLevel
  repeat' first
    | (with_reducible assumption) | intro _ | (with_reducible apply Keeps.ite) | (with_reducible apply Keeps.ite_fst)
    | (with_reducible apply State.putApp_keeps) | (with_reducible apply aicUpdate_keeps)
    | (with_reducible apply setPending_keeps) | (with_reducible apply cellsWf_nil) | (with_reducible apply flashProgram_wf)
    | (with_reducible apply flashClear_wf) | (with_reducible apply setBytes_wf) | (with_reducible apply cellsWf_filter)
    | (with_reducible apply cellsWf_write) | (with_reducible apply And.intro) | (with_reducible exact wf_regs (by assumption))
    | (with_reducible exact wf_flash (by assumption)) | (with_reducible exact wf_window (by assumption))
    | (with_reducible exact wf_ncs (by assumption)) | (with_reducible exact wf_eht (by assumption))
    | (with_reducible exact wf_hb (by assumption)) | (with_reducible exact wf_shadow (by assumption))
    | (with_reducible exact wf_msix (by assumption)) | (with_reducible exact wf_iram (by assumption))
    | (with_reducible exact wf_dram (by assumption)) | (exact (wf_iram ‹Memory.wf _ = true› :))
    | (exact (wf_dram ‹Memory.wf _ = true› :)) | extract_lets | split | (dsimp -zeta only) | (dsimp +zetaDelta -zeta only)

theorem viewMail_keeps {s0 s : State} (h : Keeps s0 s) : Keeps s0 (viewMail s) := by
  unfold viewMail
  repeat' first
    | (with_reducible assumption) | intro _ | (with_reducible apply State.set_keeps) | (with_reducible apply State.setBit_keeps)
    | (with_reducible apply Keeps.fold) | extract_lets | split | (dsimp -zeta only) | (dsimp +zetaDelta -zeta only)

theorem mailChanged_keeps {s0 s : State} (h : Keeps s0 s) : Keeps s0 (mailChanged s) := by
  unfold mailChanged
  repeat' first
    | (with_reducible assumption) | intro _ | (with_reducible apply Keeps.ite) | (with_reducible apply Keeps.ite_fst)
    | (with_reducible apply aicLevel_keeps) | (with_reducible apply viewMail_keeps) | (with_reducible apply aicEdge_keeps)
    | (with_reducible apply State.putApp_keeps) | (with_reducible apply cellsWf_nil) | (with_reducible apply flashProgram_wf)
    | (with_reducible apply flashClear_wf) | (with_reducible apply setBytes_wf) | (with_reducible apply cellsWf_filter)
    | (with_reducible apply cellsWf_write) | (with_reducible apply And.intro) | (with_reducible exact wf_regs (by assumption))
    | (with_reducible exact wf_flash (by assumption)) | (with_reducible exact wf_window (by assumption))
    | (with_reducible exact wf_ncs (by assumption)) | (with_reducible exact wf_eht (by assumption))
    | (with_reducible exact wf_hb (by assumption)) | (with_reducible exact wf_shadow (by assumption))
    | (with_reducible exact wf_msix (by assumption)) | (with_reducible exact wf_iram (by assumption))
    | (with_reducible exact wf_dram (by assumption)) | (exact (wf_iram ‹Memory.wf _ = true› :))
    | (exact (wf_dram ‹Memory.wf _ = true› :)) | extract_lets | split | (dsimp -zeta only) | (dsimp +zetaDelta -zeta only)

theorem mailTo_keeps {s0 s : State} (h : Keeps s0 s) (i : QueueItem) : Keeps s0 (mailTo s i) := by
  unfold mailTo
  repeat' first
    | (with_reducible assumption) | intro _ | (with_reducible apply mailChanged_keeps) | (with_reducible apply putQueue_keeps)
    | extract_lets | split | (dsimp -zeta only) | (dsimp +zetaDelta -zeta only)

end Sys2Proof.Machine
end

