-- ==== Sys2Proof/Laws/KeepsEvents.lean ====
section
/-!
SUPPORT. What the operations of Machine/Events.lean keep (`Keeps`).
-/

namespace Sys2Proof.Machine

set_option linter.unusedVariables false
set_option linter.unusedTactic false
set_option linter.unreachableTactic false

theorem takeSeq_keeps {s0 s : State} (h : Keeps s0 s) (src : Nat) : Keeps s0 (takeSeq s src) := by
  unfold takeSeq
  repeat' first
    | (with_reducible assumption) | intro _ | (with_reducible apply State.putEv_keeps) | extract_lets | split
    | (dsimp -zeta only) | (dsimp +zetaDelta -zeta only)

theorem countDrop_keeps {s0 s : State} (h : Keeps s0 s) (src r : Nat) : Keeps s0 (countDrop s src r) := by
  unfold countDrop
  repeat' first
    | (with_reducible assumption) | intro _ | (with_reducible apply Keeps.ite) | (with_reducible apply Keeps.ite_fst)
    | (with_reducible apply State.bump_keeps) | (with_reducible apply State.setRing_keeps)
    | (with_reducible apply State.putEv_keeps) | extract_lets | split | (dsimp -zeta only) | (dsimp +zetaDelta -zeta only)

theorem clearLoss_keeps {s0 s : State} (h : Keeps s0 s) (src : Nat) : Keeps s0 (clearLoss s src) := by
  unfold clearLoss
  repeat' first
    | (with_reducible assumption) | intro _ | (with_reducible apply State.putEv_keeps) | extract_lets | split
    | (dsimp -zeta only) | (dsimp +zetaDelta -zeta only)

theorem setBacklog_keeps {s0 s : State} (h : Keeps s0 s) (l : List (Nat × EventRecord)) : Keeps s0 (setBacklog s l) := by
  unfold setBacklog
  repeat' first
    | (with_reducible assumption) | intro _ | (with_reducible apply State.set_keeps) | (with_reducible apply State.putEv_keeps)
    | extract_lets | split | (dsimp -zeta only) | (dsimp +zetaDelta -zeta only)

theorem holdRecord_keeps {s0 s : State} (h : Keeps s0 s) (r : Nat) (e : EventRecord) : Keeps s0 (holdRecord s r e).1 := by
  unfold holdRecord
  repeat' first
    | (with_reducible assumption) | intro _ | (with_reducible apply Keeps.ite) | (with_reducible apply Keeps.ite_fst)
    | (with_reducible apply clearLoss_keeps) | (with_reducible apply State.setRing_keeps)
    | (with_reducible apply countDrop_keeps) | (with_reducible apply setBacklog_keeps) | extract_lets | split
    | (dsimp -zeta only) | (dsimp +zetaDelta -zeta only)

theorem putLimit_keeps {s0 s : State} (h : Keeps s0 s) (e : EventLimit) : Keeps s0 (putLimit s e) := by
  unfold putLimit
  repeat' first
    | (with_reducible assumption) | intro _ | (with_reducible apply State.putEv_keeps) | extract_lets | split
    | (dsimp -zeta only) | (dsimp +zetaDelta -zeta only)

theorem forwardRecord_keeps {s0 s : State} (h : Keeps s0 s) (e : EventRecord) : Keeps s0 (forwardRecord s e) := by
  unfold forwardRecord
  repeat' first
    | (with_reducible assumption) | intro _ | (with_reducible apply Keeps.ite) | (with_reducible apply Keeps.ite_fst)
    | (with_reducible apply mailTo_keeps) | (with_reducible apply State.drew_keeps) | (with_reducible apply State.bump_keeps)
    | extract_lets | split | (dsimp -zeta only) | (dsimp +zetaDelta -zeta only)

theorem generate_keeps {s0 : State} : ∀ (fuel code : Nat) (pl : List Byte) {s : State}, Keeps s0 s → Keeps s0 (generate fuel code pl s)
  | fuel, code, pl, s, h => by
    cases fuel with
    | zero =>
      unfold generate
      repeat' first
        | (with_reducible assumption) | intro _ | (with_reducible apply Keeps.ite) | (with_reducible apply putLimit_keeps)
        | (with_reducible apply takeSeq_keeps) | (with_reducible apply forwardRecord_keeps)
        | (with_reducible apply holdRecord_keeps) | extract_lets | split | (dsimp -zeta only)
    | succ n =>
      unfold generate
      repeat' first
        | (with_reducible assumption) | intro _ | (with_reducible apply Keeps.ite) | (with_reducible apply generate_keeps n)
        | (with_reducible apply putLimit_keeps) | (with_reducible apply takeSeq_keeps) | (with_reducible apply forwardRecord_keeps)
        | (with_reducible apply holdRecord_keeps) | extract_lets | split | (dsimp -zeta only)

theorem postEvent_keeps {s0 s : State} (h : Keeps s0 s) (code : Nat) (fields : List (Nat × Nat × Nat)) :
    Keeps s0 (postEvent code fields s) := by
  unfold postEvent
  repeat' first
    | (with_reducible assumption) | intro _ | (with_reducible apply generate_keeps) | extract_lets | split | (dsimp -zeta only)
    | (dsimp +zetaDelta -zeta only)

theorem clearEvents_keeps {s0 s : State} (h : Keeps s0 s) : Keeps s0 (clearEvents s) := by
  unfold clearEvents
  repeat' first
    | (with_reducible assumption) | intro _ | (with_reducible apply State.set_keeps) | (with_reducible apply State.putEv_keeps)
    | extract_lets | split | (dsimp -zeta only) | (dsimp +zetaDelta -zeta only)

theorem ringToBacklog_keeps {s0 s : State} (h : Keeps s0 s) (r : Nat) : Keeps s0 (ringToBacklog s r) := by
  unfold ringToBacklog
  repeat' first
    | (with_reducible assumption) | intro _ | (with_reducible apply State.setRing_keeps)
    | (with_reducible apply setBacklog_keeps) | (with_reducible apply countDrop_keeps) | (with_reducible apply Keeps.fold)
    | extract_lets | split | (dsimp -zeta only) | (dsimp +zetaDelta -zeta only)

theorem backlogToRing_keeps {s0 s : State} (h : Keeps s0 s) (r : Nat) : Keeps s0 (backlogToRing s r) := by
  unfold backlogToRing
  repeat' first
    | (with_reducible assumption) | intro _ | (with_reducible apply Keeps.ite) | (with_reducible apply Keeps.ite_fst)
    | (with_reducible apply setBacklog_keeps) | (with_reducible apply State.setRing_keeps) | extract_lets | split
    | (dsimp -zeta only) | (dsimp +zetaDelta -zeta only)

end Sys2Proof.Machine
end

