-- ==== Sys2Proof/Laws/KeepsFlash.lean ====
section
/-!
SUPPORT. What the operations of Machine/Flash.lean keep (`Keeps`).
-/

namespace Sys2Proof.Machine

set_option linter.unusedVariables false
set_option linter.unusedTactic false
set_option linter.unreachableTactic false

theorem refuseFlash_keeps {s0 s : State} (h : Keeps s0 s) (kind comp slot : Nat) : Keeps s0 (refuseFlash s kind comp slot) := by
  unfold refuseFlash
  repeat' first
    | (with_reducible assumption) | intro _ | (with_reducible apply postEvent_keeps) | (with_reducible apply State.bump_keeps)
    | extract_lets | split | (dsimp -zeta only) | (dsimp +zetaDelta -zeta only)

theorem countSlotWrite_keeps {s0 s : State} (h : Keeps s0 s) (comp slot : Nat) : Keeps s0 (countSlotWrite s comp slot) := by
  unfold countSlotWrite
  repeat' first
    | (with_reducible assumption) | intro _ | (with_reducible apply State.putBoot_keeps) | extract_lets | split
    | (dsimp -zeta only) | (dsimp +zetaDelta -zeta only)

theorem writePage_keeps {s0 s : State} (h : Keeps s0 s) (copy generation floor : Nat) (entries : List SlotEntry) (p : List Byte) :
    Keeps s0 (writePage s copy generation floor entries p).1 := by
  unfold writePage
  repeat' first
    | (with_reducible assumption) | intro _ | (with_reducible apply State.putFlash_keeps)
    | (with_reducible apply State.emit_keeps) | (with_reducible apply cellsWf_nil) | (with_reducible apply flashProgram_wf)
    | (with_reducible apply flashClear_wf) | (with_reducible apply setBytes_wf) | (with_reducible apply cellsWf_filter)
    | (with_reducible apply cellsWf_write) | (with_reducible apply And.intro) | (with_reducible exact wf_regs (by assumption))
    | (with_reducible exact wf_flash (by assumption)) | (with_reducible exact wf_window (by assumption))
    | (with_reducible exact wf_ncs (by assumption)) | (with_reducible exact wf_eht (by assumption))
    | (with_reducible exact wf_hb (by assumption)) | (with_reducible exact wf_shadow (by assumption))
    | (with_reducible exact wf_msix (by assumption)) | (with_reducible exact wf_iram (by assumption))
    | (with_reducible exact wf_dram (by assumption)) | extract_lets | split | (dsimp -zeta only) | (dsimp +zetaDelta -zeta only)

theorem wearView_keeps {s0 s : State} (h : Keeps s0 s) : Keeps s0 (wearView s) := by
  unfold wearView
  repeat' first
    | (with_reducible assumption) | intro _ | (with_reducible apply State.set_keeps) | (with_reducible apply Keeps.foldl_fst)
    | extract_lets | split | (dsimp -zeta only) | (dsimp +zetaDelta -zeta only)

theorem commitDirectory_keeps {s0 s : State} (h : Keeps s0 s) (floor : Nat) (entries : List SlotEntry) (comp slot : Nat) :
    Keeps s0 (commitDirectory s floor entries comp slot).1 := by
  unfold commitDirectory
  repeat' first
    | (with_reducible assumption) | intro _ | (with_reducible apply Keeps.ite) | (with_reducible apply Keeps.ite_fst)
    | (with_reducible apply refuseFlash_keeps) | (with_reducible apply writePage_keeps) | (with_reducible apply wearView_keeps)
    | (with_reducible apply State.putBoot_keeps) | (with_reducible refine Keeps.of_pair (by assumption) ?_) | extract_lets
    | split | (dsimp -zeta only) | (dsimp +zetaDelta -zeta only)

theorem programSlot_keeps {s0 s : State} (h : Keeps s0 s) (e : SlotEntry) (image : List Byte) :
    Keeps s0 (programSlot s e image) := by
  unfold programSlot
  repeat' first
    | (with_reducible assumption) | intro _ | (with_reducible apply State.emit_keeps)
    | (with_reducible apply State.putFlash_keeps) | (with_reducible apply cellsWf_nil) | (with_reducible apply flashProgram_wf)
    | (with_reducible apply flashClear_wf) | (with_reducible apply setBytes_wf) | (with_reducible apply cellsWf_filter)
    | (with_reducible apply cellsWf_write) | (with_reducible apply And.intro) | (with_reducible exact wf_regs (by assumption))
    | (with_reducible exact wf_flash (by assumption)) | (with_reducible exact wf_window (by assumption))
    | (with_reducible exact wf_ncs (by assumption)) | (with_reducible exact wf_eht (by assumption))
    | (with_reducible exact wf_hb (by assumption)) | (with_reducible exact wf_shadow (by assumption))
    | (with_reducible exact wf_msix (by assumption)) | (with_reducible exact wf_iram (by assumption))
    | (with_reducible exact wf_dram (by assumption)) | extract_lets | split | (dsimp -zeta only) | (dsimp +zetaDelta -zeta only)

theorem imageInForce_keeps {s0 s : State} (h : Keeps s0 s) (comp slot : Nat) (l : List Byte) :
    Keeps s0 (imageInForce s comp slot l) := by
  unfold imageInForce
  repeat' first
    | (with_reducible assumption) | intro _ | (with_reducible apply State.putBoot_keeps)
    | (with_reducible apply State.setBitAt_keeps) | (with_reducible apply State.set_keeps) | extract_lets | split
    | (dsimp -zeta only) | (dsimp +zetaDelta -zeta only)

end Sys2Proof.Machine
end

