-- ==== Sys2Proof/Laws/KeepsNcsOps.lean ====
section
/-!
SUPPORT. What the operations of Machine/NcsOps.lean keep (`Keeps`).
-/

namespace Sys2Proof.Machine

set_option linter.unusedVariables false
set_option linter.unusedTactic false
set_option linter.unreachableTactic false

theorem sendRecord_keeps {s0 s : State} (h : Keeps s0 s) (r : MirrorRecord) : Keeps s0 (sendRecord s r) := by
  unfold sendRecord
  repeat' first
    | (with_reducible assumption) | intro _ | (with_reducible apply State.putPair_keeps)
    | (with_reducible apply State.bumpWrap_keeps) | (with_reducible apply State.emit_keeps) | extract_lets | split
    | (dsimp -zeta only) | (dsimp +zetaDelta -zeta only)

theorem mirror_keeps {s0 s : State} (h : Keeps s0 s) (r : MirrorRecord) : Keeps s0 (mirror s r) := by
  unfold mirror
  repeat' first
    | (with_reducible assumption) | intro _ | (with_reducible apply Keeps.ite) | (with_reducible apply Keeps.ite_fst)
    | (with_reducible apply sendRecord_keeps) | extract_lets | split | (dsimp -zeta only) | (dsimp +zetaDelta -zeta only)

theorem mirrorLine_keeps {s0 s : State} (h : Keeps s0 s) (n : Nat) (old new : Line) : Keeps s0 (mirrorLine s n old new) := by
  unfold mirrorLine
  repeat' first
    | (with_reducible assumption) | intro _ | (with_reducible apply Keeps.ite) | (with_reducible apply Keeps.ite_fst)
    | (with_reducible apply State.putPair_keeps) | (with_reducible apply sendRecord_keeps) | extract_lets | split
    | (dsimp -zeta only) | (dsimp +zetaDelta -zeta only)

theorem checkWritten_keeps {s0 s : State} (h : Keeps s0 s) (m : LineMem) (line : Nat) : Keeps s0 (checkWritten s m line) := by
  unfold checkWritten
  repeat' first
    | (with_reducible assumption) | intro _ | (with_reducible apply Keeps.ite) | (with_reducible apply Keeps.ite_fst)
    | (with_reducible apply State.putMi_keeps) | (with_reducible apply State.set_keeps) | extract_lets | split
    | (dsimp -zeta only) | (dsimp +zetaDelta -zeta only)

theorem snapshotWrite_keeps {s0 s : State} (h : Keeps s0 s) (n : Nat) : Keeps s0 (snapshotWrite s n) := by
  unfold snapshotWrite
  repeat' first
    | (with_reducible assumption) | intro _ | (with_reducible apply Keeps.ite) | (with_reducible apply Keeps.ite_fst)
    | (with_reducible apply State.putFwd_keeps) | (with_reducible apply reserve_keeps) | (with_reducible apply State.set_keeps)
    | (with_reducible apply cellsWf_nil) | (with_reducible apply flashProgram_wf) | (with_reducible apply flashClear_wf)
    | (with_reducible apply setBytes_wf) | (with_reducible apply cellsWf_filter) | (with_reducible apply cellsWf_write)
    | (with_reducible apply And.intro) | (with_reducible exact wf_regs (by assumption))
    | (with_reducible exact wf_flash (by assumption)) | (with_reducible exact wf_window (by assumption))
    | (with_reducible exact wf_ncs (by assumption)) | (with_reducible exact wf_eht (by assumption))
    | (with_reducible exact wf_hb (by assumption)) | (with_reducible exact wf_shadow (by assumption))
    | (with_reducible exact wf_msix (by assumption)) | (with_reducible exact wf_iram (by assumption))
    | (with_reducible exact wf_dram (by assumption)) | extract_lets | split | (dsimp -zeta only) | (dsimp +zetaDelta -zeta only)

theorem cacheForget_keeps {s0 s : State} (h : Keeps s0 s) (n : Nat) (old new : Line) : Keeps s0 (cacheForget s n old new) := by
  unfold cacheForget
  repeat' first
    | (with_reducible assumption) | intro _ | (with_reducible apply Keeps.ite) | (with_reducible apply Keeps.ite_fst)
    | (with_reducible apply State.putSec_keeps) | extract_lets | split | (dsimp -zeta only) | (dsimp +zetaDelta -zeta only)

theorem suspectView_keeps {s0 s : State} (h : Keeps s0 s) (old new : Line) : Keeps s0 (suspectView s old new) := by
  unfold suspectView
  repeat' first
    | (with_reducible assumption) | intro _ | (with_reducible apply State.set_keeps) | extract_lets | split | (dsimp -zeta only)
    | (dsimp +zetaDelta -zeta only)

theorem tileTouched_keeps {s0 s : State} (h : Keeps s0 s) (n : Nat) : Keeps s0 (tileTouched s n) := by
  unfold tileTouched
  repeat' first
    | (with_reducible assumption) | intro _ | (with_reducible apply Keeps.ite) | (with_reducible apply Keeps.ite_fst)
    | (with_reducible apply State.putMi_keeps) | extract_lets | split | (dsimp -zeta only) | (dsimp +zetaDelta -zeta only)

theorem tileUpdate_keeps {s0 s : State} (h : Keeps s0 s) (n : Nat) (old new : Line) : Keeps s0 (tileUpdate s n old new) := by
  unfold tileUpdate
  repeat' first
    | (with_reducible assumption) | intro _ | (with_reducible apply State.putMi_keeps) | extract_lets | split
    | (dsimp -zeta only) | (dsimp +zetaDelta -zeta only)

theorem tileReseal_keeps {s0 s : State} (h : Keeps s0 s) (tile : Nat) : Keeps s0 (tileReseal s tile) := by
  unfold tileReseal
  repeat' first
    | (with_reducible assumption) | intro _ | (with_reducible apply State.putMi_keeps) | extract_lets | split
    | (dsimp -zeta only) | (dsimp +zetaDelta -zeta only)

theorem writeLine_keeps {s0 s : State} (h : Keeps s0 s) (n : Nat) (new : Line) : Keeps s0 (writeLine s n new) := by
  unfold writeLine
  repeat' first
    | (with_reducible assumption) | intro _ | (with_reducible apply Keeps.ite) | (with_reducible apply Keeps.ite_fst)
    | (with_reducible apply snapshotWrite_keeps) | (with_reducible apply State.putFwd_keeps)
    | (with_reducible apply checkWritten_keeps) | (with_reducible apply tileUpdate_keeps)
    | (with_reducible apply tileTouched_keeps) | (with_reducible apply suspectView_keeps)
    | (with_reducible apply cacheForget_keeps) | (with_reducible apply mirrorLine_keeps) | (with_reducible apply cellsWf_nil)
    | (with_reducible apply flashProgram_wf) | (with_reducible apply flashClear_wf) | (with_reducible apply setBytes_wf)
    | (with_reducible apply cellsWf_filter) | (with_reducible apply cellsWf_write) | (with_reducible apply And.intro)
    | (with_reducible exact wf_regs (by assumption)) | (with_reducible exact wf_flash (by assumption))
    | (with_reducible exact wf_window (by assumption)) | (with_reducible exact wf_ncs (by assumption))
    | (with_reducible exact wf_eht (by assumption)) | (with_reducible exact wf_hb (by assumption))
    | (with_reducible exact wf_shadow (by assumption)) | (with_reducible exact wf_msix (by assumption))
    | (with_reducible exact wf_iram (by assumption)) | (with_reducible exact wf_dram (by assumption)) | extract_lets | split
    | (dsimp -zeta only) | (dsimp +zetaDelta -zeta only)

theorem setLineField_keeps {s0 s : State} (h : Keeps s0 s) (n : Nat) (f : LineFld) (v : Nat) : Keeps s0 (setLineField s n f v) := by
  unfold setLineField
  repeat' first
    | (with_reducible assumption) | intro _ | (with_reducible apply writeLine_keeps) | extract_lets | split | (dsimp -zeta only)
    | (dsimp +zetaDelta -zeta only)

theorem markRebuild_keeps {s0 s : State} (h : Keeps s0 s) (n : Nat) : Keeps s0 (markRebuild s n) := by
  unfold markRebuild
  repeat' first
    | (with_reducible assumption) | intro _ | (with_reducible apply writeLine_keeps) | extract_lets | split | (dsimp -zeta only)
    | (dsimp +zetaDelta -zeta only)

theorem consumePoison_keeps {s0 s : State} (h : Keeps s0 s) (consumer tag : Nat) : Keeps s0 (consumePoison s consumer tag) := by
  unfold consumePoison
  repeat' first
    | (with_reducible assumption) | intro _ | (with_reducible apply postEvent_keeps) | (with_reducible apply State.bump_keeps)
    | extract_lets | split | (dsimp -zeta only) | (dsimp +zetaDelta -zeta only)

theorem consumeTag_keeps {s0 s : State} (h : Keeps s0 s) (tag : Nat) : Keeps s0 (consumeTag s tag) := by
  unfold consumeTag
  repeat' first
    | (with_reducible assumption) | intro _ | (with_reducible apply Keeps.ite) | (with_reducible apply Keeps.ite_fst)
    | (with_reducible apply consumePoison_keeps) | (with_reducible apply markRebuild_keeps) | extract_lets | split
    | (dsimp -zeta only) | (dsimp +zetaDelta -zeta only)

theorem consumeLine_keeps {s0 s : State} (h : Keeps s0 s) (n : Nat) : Keeps s0 (consumeLine s n) := by
  unfold consumeLine
  repeat' first
    | (with_reducible assumption) | intro _ | (with_reducible apply markRebuild_keeps)
    | (with_reducible apply consumePoison_keeps) | extract_lets | split | (dsimp -zeta only) | (dsimp +zetaDelta -zeta only)

theorem tileFailed_keeps {s0 s : State} (h : Keeps s0 s) (tile use : Nat) : Keeps s0 (tileFailed s tile use) := by
  unfold tileFailed
  repeat' first
    | (with_reducible assumption) | intro _ | (with_reducible apply Keeps.ite) | (with_reducible apply Keeps.ite_fst)
    | (with_reducible apply State.bump_keeps) | (with_reducible apply State.emit_keeps)
    | (with_reducible apply State.putMi_keeps) | (with_reducible apply tileReseal_keeps)
    | (with_reducible apply postEvent_keeps) | (with_reducible apply Keeps.fold) | extract_lets | split | (dsimp -zeta only)
    | (dsimp +zetaDelta -zeta only)

end Sys2Proof.Machine
end

