-- ==== Sys2Proof/Laws/KeepsRepairOps.lean ====
section
/-!
SUPPORT. What the operations of Machine/RepairOps.lean keep (`Keeps`).
-/

namespace Sys2Proof.Machine

set_option linter.unusedVariables false
set_option linter.unusedTactic false
set_option linter.unreachableTactic false

theorem viewRepairs_keeps {s0 s : State} (h : Keeps s0 s) : Keeps s0 (viewRepairs s) := by
  unfold viewRepairs
  repeat' first
    | (with_reducible assumption) | intro _ | (with_reducible apply State.set_keeps) | (with_reducible apply State.setBit_keeps)
    | (with_reducible apply Keeps.fold) | extract_lets | split | (dsimp -zeta only) | (dsimp +zetaDelta -zeta only)

theorem applyRepairs_keeps {s0 s : State} (h : Keeps s0 s) : Keeps s0 (applyRepairs s) := by
  unfold applyRepairs
  repeat' first
    | (with_reducible assumption) | intro _ | (with_reducible apply viewRepairs_keeps)
    | (with_reducible apply State.putMi_keeps) | extract_lets | split | (dsimp -zeta only) | (dsimp +zetaDelta -zeta only)

theorem viewMi_keeps {s0 s : State} (h : Keeps s0 s) : Keeps s0 (viewMi s) := by
  unfold viewMi
  repeat' first
    | (with_reducible assumption) | intro _ | (with_reducible apply State.set_keeps) | extract_lets | split | (dsimp -zeta only)
    | (dsimp +zetaDelta -zeta only)

theorem appendCopy_keeps {s0 s : State} (h : Keeps s0 s) (copy : Nat) (e : RepairEntry) : Keeps s0 (appendCopy s copy e) := by
  unfold appendCopy
  repeat' first
    | (with_reducible assumption) | intro _ | (with_reducible apply Keeps.ite) | (with_reducible apply Keeps.ite_fst)
    | (with_reducible apply State.putFlash_keeps) | (with_reducible apply cellsWf_nil) | (with_reducible apply flashProgram_wf)
    | (with_reducible apply flashClear_wf) | (with_reducible apply setBytes_wf) | (with_reducible apply cellsWf_filter)
    | (with_reducible apply cellsWf_write) | (with_reducible apply And.intro) | (with_reducible exact wf_regs (by assumption))
    | (with_reducible exact wf_flash (by assumption)) | (with_reducible exact wf_window (by assumption))
    | (with_reducible exact wf_ncs (by assumption)) | (with_reducible exact wf_eht (by assumption))
    | (with_reducible exact wf_hb (by assumption)) | (with_reducible exact wf_shadow (by assumption))
    | (with_reducible exact wf_msix (by assumption)) | (with_reducible exact wf_iram (by assumption))
    | (with_reducible exact wf_dram (by assumption)) | extract_lets | split | (dsimp -zeta only) | (dsimp +zetaDelta -zeta only)

theorem appendRepair_keeps {s0 s : State} (h : Keeps s0 s) (e : RepairEntry) : Keeps s0 (appendRepair s e) := by
  unfold appendRepair
  repeat' first
    | (with_reducible assumption) | intro _ | (with_reducible apply Keeps.ite) | (with_reducible apply Keeps.ite_fst)
    | (with_reducible apply refuseFlash_keeps) | (with_reducible apply appendCopy_keeps)
    | (with_reducible apply State.putBoot_keeps) | (with_reducible apply viewRepairs_keeps)
    | (with_reducible apply State.putMi_keeps) | (with_reducible apply postEvent_keeps) | extract_lets | split
    | (dsimp -zeta only) | (dsimp +zetaDelta -zeta only)

theorem noteExhausted_keeps {s0 s : State} (h : Keeps s0 s) (sram : Nat) : Keeps s0 (noteExhausted s sram) := by
  unfold noteExhausted
  repeat' first
    | (with_reducible assumption) | intro _ | (with_reducible apply Keeps.ite) | (with_reducible apply Keeps.ite_fst)
    | (with_reducible apply postEvent_keeps) | (with_reducible apply State.putMi_keeps) | extract_lets | split
    | (dsimp -zeta only) | (dsimp +zetaDelta -zeta only)

theorem parityHard_keeps {s0 s : State} (h : Keeps s0 s) (key : Nat) : Keeps s0 (parityHard s key) := by
  unfold parityHard
  repeat' first
    | (with_reducible assumption) | intro _ | (with_reducible apply Keeps.ite) | (with_reducible apply Keeps.ite_fst)
    | (with_reducible apply State.putMi_keeps) | (with_reducible apply State.bump_keeps)
    | (with_reducible apply appendRepair_keeps) | (with_reducible apply noteExhausted_keeps) | extract_lets | split
    | (dsimp -zeta only) | (dsimp +zetaDelta -zeta only)

theorem parityMet_keeps {s0 s : State} (h : Keeps s0 s) (key : Nat) : Keeps s0 (parityMet s key) := by
  unfold parityMet
  repeat' first
    | (with_reducible assumption) | intro _ | (with_reducible apply Keeps.ite) | (with_reducible apply Keeps.ite_fst)
    | (with_reducible apply parityHard_keeps) | (with_reducible apply State.putMi_keeps) | extract_lets | split
    | (dsimp -zeta only) | (dsimp +zetaDelta -zeta only)

theorem parityRewritten_keeps {s0 s : State} (h : Keeps s0 s) (key : Nat) : Keeps s0 (parityRewritten s key) := by
  unfold parityRewritten
  repeat' first
    | (with_reducible assumption) | intro _ | (with_reducible apply Keeps.ite) | (with_reducible apply Keeps.ite_fst)
    | (with_reducible apply State.putMi_keeps) | extract_lets | split | (dsimp -zeta only) | (dsimp +zetaDelta -zeta only)

end Sys2Proof.Machine
end

