-- ==== Sys2Proof/Laws/KeepsFwdOps.lean ====
section
/-!
SUPPORT. What the operations of Machine/FwdOps.lean keep (`Keeps`).
-/

namespace Sys2Proof.Machine

set_option linter.unusedVariables false
set_option linter.unusedTactic false
set_option linter.unreachableTactic false

theorem State.setEht_keeps {s0 s : State} (h : Keeps s0 s) (k : Nat) (e : BitVec 96) : Keeps s0 (State.setEht s k e) := by
  unfold State.setEht
  repeat' first
    | (with_reducible assumption) | intro _ | (with_reducible apply State.putFwd_keeps) | (with_reducible apply cellsWf_nil)
    | (with_reducible apply flashProgram_wf) | (with_reducible apply flashClear_wf) | (with_reducible apply setBytes_wf)
    | (with_reducible apply cellsWf_filter) | (with_reducible apply cellsWf_write) | (with_reducible apply And.intro)
    | (with_reducible exact wf_regs (by assumption)) | (with_reducible exact wf_flash (by assumption))
    | (with_reducible exact wf_window (by assumption)) | (with_reducible exact wf_ncs (by assumption))
    | (with_reducible exact wf_eht (by assumption)) | (with_reducible exact wf_hb (by assumption))
    | (with_reducible exact wf_shadow (by assumption)) | (with_reducible exact wf_msix (by assumption))
    | (with_reducible exact wf_iram (by assumption)) | (with_reducible exact wf_dram (by assumption)) | extract_lets | split
    | (dsimp -zeta only) | (dsimp +zetaDelta -zeta only)

theorem viewOverflow_keeps {s0 s : State} (h : Keeps s0 s) : Keeps s0 (viewOverflow s) := by
  unfold viewOverflow
  repeat' first
    | (with_reducible assumption) | intro _ | (with_reducible apply State.set_keeps) | extract_lets | split | (dsimp -zeta only)
    | (dsimp +zetaDelta -zeta only)

theorem startRebuild_keeps {s0 s : State} (h : Keeps s0 s) (b : Nat) : Keeps s0 (startRebuild s b) := by
  unfold startRebuild
  repeat' first
    | (with_reducible assumption) | intro _ | (with_reducible apply Keeps.ite) | (with_reducible apply Keeps.ite_fst)
    | (with_reducible apply State.putFwd_keeps) | (with_reducible apply State.set_keeps) | (with_reducible apply cellsWf_nil)
    | (with_reducible apply flashProgram_wf) | (with_reducible apply flashClear_wf) | (with_reducible apply setBytes_wf)
    | (with_reducible apply cellsWf_filter) | (with_reducible apply cellsWf_write) | (with_reducible apply And.intro)
    | (with_reducible exact wf_regs (by assumption)) | (with_reducible exact wf_flash (by assumption))
    | (with_reducible exact wf_window (by assumption)) | (with_reducible exact wf_ncs (by assumption))
    | (with_reducible exact wf_eht (by assumption)) | (with_reducible exact wf_hb (by assumption))
    | (with_reducible exact wf_shadow (by assumption)) | (with_reducible exact wf_msix (by assumption))
    | (with_reducible exact wf_iram (by assumption)) | (with_reducible exact wf_dram (by assumption)) | extract_lets | split
    | (dsimp -zeta only) | (dsimp +zetaDelta -zeta only)

theorem ehtParity_keeps {s0 s : State} (h : Keeps s0 s) (eui : Nat) : Keeps s0 (ehtParity s eui) := by
  unfold ehtParity
  repeat' first
    | (with_reducible assumption) | intro _ | (with_reducible apply Keeps.ite) | (with_reducible apply Keeps.ite_fst)
    | (with_reducible apply parityMet_keeps) | (with_reducible apply startRebuild_keeps)
    | (with_reducible apply postEvent_keeps) | (with_reducible apply State.bumpBy_keeps) | (with_reducible apply Keeps.fold)
    | extract_lets | split | (dsimp -zeta only) | (dsimp +zetaDelta -zeta only)

theorem ehtLookup_keeps {s0 s : State} (h : Keeps s0 s) (eui : Nat) : Keeps s0 (ehtLookup s eui).1 := by
  unfold ehtLookup
  repeat' first
    | (with_reducible assumption) | intro _ | (with_reducible apply ehtParity_keeps) | extract_lets | split | (dsimp -zeta only)
    | (dsimp +zetaDelta -zeta only)

theorem setOvf_keeps {s0 s : State} (h : Keeps s0 s) (b v : Nat) : Keeps s0 (setOvf s b v) := by
  unfold setOvf
  repeat' first
    | (with_reducible assumption) | intro _ | (with_reducible apply Keeps.ite) | (with_reducible apply Keeps.ite_fst)
    | (with_reducible apply State.setEht_keeps) | extract_lets | split | (dsimp -zeta only) | (dsimp +zetaDelta -zeta only)

theorem setEntry_keeps {s0 s : State} (h : Keeps s0 s) (k eui index state : Nat) : Keeps s0 (setEntry s k eui index state) := by
  unfold setEntry
  repeat' first
    | (with_reducible assumption) | intro _ | (with_reducible apply State.setEht_keeps) | extract_lets | split
    | (dsimp -zeta only) | (dsimp +zetaDelta -zeta only)

theorem ehtPut_keeps {s0 s : State} (h : Keeps s0 s) (b k eui index : Nat) : Keeps s0 (ehtPut s b k eui index) := by
  unfold ehtPut
  repeat' first
    | (with_reducible assumption) | intro _ | (with_reducible apply Keeps.ite) | (with_reducible apply Keeps.ite_fst)
    | (with_reducible apply setEntry_keeps) | (with_reducible apply viewOverflow_keeps) | (with_reducible apply setOvf_keeps)
    | extract_lets | split | (dsimp -zeta only) | (dsimp +zetaDelta -zeta only)

theorem ehtFull_keeps {s0 s : State} (h : Keeps s0 s) (eui : Nat) : Keeps s0 (ehtFull s eui) := by
  unfold ehtFull
  repeat' first
    | (with_reducible assumption) | intro _ | (with_reducible apply postEvent_keeps) | (with_reducible apply State.bump_keeps)
    | extract_lets | split | (dsimp -zeta only) | (dsimp +zetaDelta -zeta only)

theorem ehtInsert_keeps {s0 s : State} (h : Keeps s0 s) (eui index : Nat) : Keeps s0 (ehtInsert s eui index).1 := by
  unfold ehtInsert
  repeat' first
    | (with_reducible assumption) | intro _ | (with_reducible apply ehtParity_keeps) | (with_reducible apply ehtFull_keeps)
    | (with_reducible apply ehtPut_keeps) | extract_lets | split | (dsimp -zeta only) | (dsimp +zetaDelta -zeta only)

theorem ehtDrop_keeps {s0 s : State} (h : Keeps s0 s) (b k : Nat) : Keeps s0 (ehtDrop s b k) := by
  unfold ehtDrop
  repeat' first
    | (with_reducible assumption) | intro _ | (with_reducible apply Keeps.ite) | (with_reducible apply Keeps.ite_fst)
    | (with_reducible apply State.setEht_keeps) | (with_reducible apply viewOverflow_keeps)
    | (with_reducible apply setOvf_keeps) | (with_reducible apply setEntry_keeps) | extract_lets | split | (dsimp -zeta only)
    | (dsimp +zetaDelta -zeta only)

theorem ehtDelete_keeps {s0 s : State} (h : Keeps s0 s) (eui : Nat) : Keeps s0 (ehtDelete s eui).1 := by
  unfold ehtDelete
  repeat' first
    | (with_reducible assumption) | intro _ | (with_reducible apply ehtParity_keeps) | (with_reducible apply ehtDrop_keeps)
    | extract_lets | split | (dsimp -zeta only) | (dsimp +zetaDelta -zeta only)

theorem rebuildBucket_keeps {s0 s : State} (h : Keeps s0 s) (b : Nat) : Keeps s0 (rebuildBucket s b) := by
  unfold rebuildBucket
  repeat' first
    | (with_reducible assumption) | intro _ | (with_reducible apply Keeps.ite) | (with_reducible apply Keeps.ite_fst)
    | (with_reducible apply parityRewritten_keeps) | (with_reducible apply State.setEht_keeps)
    | (with_reducible apply viewOverflow_keeps) | (with_reducible apply ehtFull_keeps) | (with_reducible apply ehtPut_keeps)
    | (with_reducible apply Keeps.fold) | extract_lets | split | (dsimp -zeta only) | (dsimp +zetaDelta -zeta only)

theorem rebuildAll_keeps {s0 s : State} (h : Keeps s0 s) : Keeps s0 (rebuildAll s) := by
  unfold rebuildAll
  repeat' first
    | (with_reducible assumption) | intro _ | (with_reducible apply State.putFwd_keeps) | (with_reducible apply State.set_keeps)
    | (with_reducible apply viewOverflow_keeps) | (with_reducible apply ehtFull_keeps) | (with_reducible apply ehtPut_keeps)
    | (with_reducible apply Keeps.fold) | (with_reducible apply cellsWf_nil) | (with_reducible apply flashProgram_wf)
    | (with_reducible apply flashClear_wf) | (with_reducible apply setBytes_wf) | (with_reducible apply cellsWf_filter)
    | (with_reducible apply cellsWf_write) | (with_reducible apply And.intro) | (with_reducible exact wf_regs (by assumption))
    | (with_reducible exact wf_flash (by assumption)) | (with_reducible exact wf_window (by assumption))
    | (with_reducible exact wf_ncs (by assumption)) | (with_reducible exact wf_eht (by assumption))
    | (with_reducible exact wf_hb (by assumption)) | (with_reducible exact wf_shadow (by assumption))
    | (with_reducible exact wf_msix (by assumption)) | (with_reducible exact wf_iram (by assumption))
    | (with_reducible exact wf_dram (by assumption)) | extract_lets | split | (dsimp -zeta only) | (dsimp +zetaDelta -zeta only)

theorem State.setHbWord_keeps {s0 s : State} (h : Keeps s0 s) (c n : Nat) (w : BitVec 16) : Keeps s0 (State.setHbWord s c n w) := by
  unfold State.setHbWord
  repeat' first
    | (with_reducible assumption) | intro _ | (with_reducible apply State.putFwd_keeps) | (with_reducible apply cellsWf_nil)
    | (with_reducible apply flashProgram_wf) | (with_reducible apply flashClear_wf) | (with_reducible apply setBytes_wf)
    | (with_reducible apply cellsWf_filter) | (with_reducible apply cellsWf_write) | (with_reducible apply And.intro)
    | (with_reducible exact wf_regs (by assumption)) | (with_reducible exact wf_flash (by assumption))
    | (with_reducible exact wf_window (by assumption)) | (with_reducible exact wf_ncs (by assumption))
    | (with_reducible exact wf_eht (by assumption)) | (with_reducible exact wf_hb (by assumption))
    | (with_reducible exact wf_shadow (by assumption)) | (with_reducible exact wf_msix (by assumption))
    | (with_reducible exact wf_iram (by assumption)) | (with_reducible exact wf_dram (by assumption)) | extract_lets | split
    | (dsimp -zeta only) | (dsimp +zetaDelta -zeta only)

theorem State.setHb_keeps {s0 s : State} (h : Keeps s0 s) (c n : Nat) (e : HbEntry) : Keeps s0 (State.setHb s c n e) := by
  unfold State.setHb
  repeat' first
    | (with_reducible assumption) | intro _ | (with_reducible apply State.setHbWord_keeps) | extract_lets | split
    | (dsimp -zeta only) | (dsimp +zetaDelta -zeta only)

theorem hbParity_keeps {s0 s : State} (h : Keeps s0 s) (c n : Nat) : Keeps s0 (hbParity s c n) := by
  unfold hbParity
  repeat' first
    | (with_reducible assumption) | intro _ | (with_reducible apply Keeps.ite) | (with_reducible apply Keeps.ite_fst)
    | (with_reducible apply parityMet_keeps) | (with_reducible apply postEvent_keeps) | (with_reducible apply State.bump_keeps)
    | extract_lets | split | (dsimp -zeta only) | (dsimp +zetaDelta -zeta only)

theorem hbLearn_keeps {s0 s : State} (h : Keeps s0 s) (c n path ant bkt : Nat) : Keeps s0 (hbLearn s c n path ant bkt) := by
  unfold hbLearn
  repeat' first
    | (with_reducible assumption) | intro _ | (with_reducible apply Keeps.ite) | (with_reducible apply Keeps.ite_fst)
    | (with_reducible apply hbParity_keeps) | (with_reducible apply parityRewritten_keeps)
    | (with_reducible apply State.setHb_keeps) | (with_reducible apply State.bump_keeps) | extract_lets | split
    | (dsimp -zeta only) | (dsimp +zetaDelta -zeta only)

theorem hbAdvance_keeps {s0 s : State} (h : Keeps s0 s) (n : Nat) : Keeps s0 (hbAdvance s n) :=
  State.putFwd_keeps (State.set_keeps h _ _) _ fun w => ⟨(wf_ncs w :), (wf_eht w :), cellsWfFrom_map _ (wf_hb w :), (wf_shadow w :)⟩

theorem hbUpdate_keeps {s0 s : State} (h : Keeps s0 s) (c n path ant bkt : Nat) : Keeps s0 (hbUpdate s c n path ant bkt) := by
  unfold hbUpdate
  repeat' first
    | (with_reducible assumption) | intro _ | (with_reducible apply Keeps.ite) | (with_reducible apply Keeps.ite_fst)
    | (with_reducible apply pushItem_keeps) | (with_reducible apply hbLearn_keeps) | extract_lets | split | (dsimp -zeta only)
    | (dsimp +zetaDelta -zeta only)

theorem hbItemTaken_keeps {s0 s : State} (h : Keeps s0 s) (q lane : Nat) (i : QueueItem) : Keeps s0 (hbItemTaken s q lane i) := by
  unfold hbItemTaken
  repeat' first
    | (with_reducible assumption) | intro _ | (with_reducible apply Keeps.ite) | (with_reducible apply Keeps.ite_fst)
    | (with_reducible apply hbLearn_keeps) | extract_lets | split | (dsimp -zeta only) | (dsimp +zetaDelta -zeta only)

theorem choiceParity_keeps {s0 s : State} (h : Keeps s0 s) (x : Nat) : Keeps s0 (choiceParity s x) := by
  unfold choiceParity
  repeat' first
    | (with_reducible assumption) | intro _ | (with_reducible apply hbParity_keeps) | (with_reducible apply Keeps.fold)
    | extract_lets | split | (dsimp -zeta only) | (dsimp +zetaDelta -zeta only)

theorem routeFailed_keeps {s0 s : State} (h : Keeps s0 s) (d reason line : Nat) : Keeps s0 (routeFailed s d reason line) := by
  unfold routeFailed
  repeat' first
    | (with_reducible assumption) | intro _ | (with_reducible apply postEvent_keeps) | (with_reducible apply State.bump_keeps)
    | extract_lets | split | (dsimp -zeta only) | (dsimp +zetaDelta -zeta only)

theorem infraUndo_keeps {s0 s : State} (h : Keeps s0 s) (w : Nat) : Keeps s0 (infraUndo s w) := by
  unfold infraUndo
  repeat' first
    | (with_reducible assumption) | intro _ | (with_reducible apply Keeps.ite) | (with_reducible apply Keeps.ite_fst)
    | (with_reducible apply State.setHb_keeps) | (with_reducible apply setLineField_keeps) | extract_lets | split
    | (dsimp -zeta only) | (dsimp +zetaDelta -zeta only)

theorem infraApply_keeps {s0 s : State} (h : Keeps s0 s) (w : Nat) : Keeps s0 (infraApply s w) := by
  unfold infraApply
  repeat' first
    | (with_reducible assumption) | intro _ | (with_reducible apply Keeps.ite) | (with_reducible apply Keeps.ite_fst)
    | (with_reducible apply State.setHb_keeps) | (with_reducible apply setLineField_keeps) | extract_lets | split
    | (dsimp -zeta only) | (dsimp +zetaDelta -zeta only)

theorem reapplyPins_keeps {s0 s : State} (h : Keeps s0 s) : Keeps s0 (reapplyPins s) := by
  unfold reapplyPins
  repeat' first
    | (with_reducible assumption) | intro _ | (with_reducible apply infraApply_keeps) | (with_reducible apply Keeps.fold)
    | extract_lets | split | (dsimp -zeta only) | (dsimp +zetaDelta -zeta only)

theorem infraWrite_keeps {s0 s : State} (h : Keeps s0 s) (i w : Nat) : Keeps s0 (infraWrite s i w) := by
  unfold infraWrite
  repeat' first
    | (with_reducible assumption) | intro _ | (with_reducible apply Keeps.ite) | (with_reducible apply Keeps.ite_fst)
    | (with_reducible apply State.bump_keeps) | (with_reducible apply infraUndo_keeps)
    | (with_reducible apply State.setWord_keeps) | (with_reducible apply State.putFwd_keeps)
    | (with_reducible apply infraApply_keeps) | (with_reducible apply cellsWf_nil) | (with_reducible apply flashProgram_wf)
    | (with_reducible apply flashClear_wf) | (with_reducible apply setBytes_wf) | (with_reducible apply cellsWf_filter)
    | (with_reducible apply cellsWf_write) | (with_reducible apply And.intro) | (with_reducible exact wf_regs (by assumption))
    | (with_reducible exact wf_flash (by assumption)) | (with_reducible exact wf_window (by assumption))
    | (with_reducible exact wf_ncs (by assumption)) | (with_reducible exact wf_eht (by assumption))
    | (with_reducible exact wf_hb (by assumption)) | (with_reducible exact wf_shadow (by assumption))
    | (with_reducible exact wf_msix (by assumption)) | (with_reducible exact wf_iram (by assumption))
    | (with_reducible exact wf_dram (by assumption)) | extract_lets | split | (dsimp -zeta only) | (dsimp +zetaDelta -zeta only)

end Sys2Proof.Machine
end

