-- ==== Sys2Proof/Laws/KeepsKeyOps.lean ====
section
/-!
SUPPORT. What the operations of Machine/KeyOps.lean keep (`Keeps`).
-/

namespace Sys2Proof.Machine

set_option linter.unusedVariables false
set_option linter.unusedTactic false
set_option linter.unreachableTactic false

theorem putSlot_keeps {s0 s : State} (h : Keeps s0 s) (i : Nat) (e : EpochSlot) : Keeps s0 (putSlot s i e) := by
  unfold putSlot
  repeat' first
    | (with_reducible assumption) | intro _ | (with_reducible apply State.putTree_keeps) | extract_lets | split
    | (dsimp -zeta only) | (dsimp +zetaDelta -zeta only)

theorem viewTree_keeps {s0 s : State} (h : Keeps s0 s) : Keeps s0 (viewTree s) := by
  unfold viewTree
  repeat' first
    | (with_reducible assumption) | intro _ | (with_reducible apply State.set_keeps) | extract_lets | split | (dsimp -zeta only)
    | (dsimp +zetaDelta -zeta only)

theorem treeChanged_keeps {s0 s : State} (h : Keeps s0 s) (op : Nat) (args : List Nat) : Keeps s0 (treeChanged s op args) := by
  unfold treeChanged
  repeat' first
    | (with_reducible assumption) | intro _ | (with_reducible apply mirror_keeps) | (with_reducible apply viewTree_keeps)
    | extract_lets | split | (dsimp -zeta only) | (dsimp +zetaDelta -zeta only)

theorem cacheTouch_keeps {s0 s : State} (h : Keeps s0 s) (t : CacheTag) : Keeps s0 (cacheTouch s t) := by
  unfold cacheTouch
  repeat' first
    | (with_reducible assumption) | intro _ | (with_reducible apply State.putSec_keeps) | extract_lets | split
    | (dsimp -zeta only) | (dsimp +zetaDelta -zeta only)

theorem cacheFill_keeps {s0 s : State} (h : Keeps s0 s) (t : CacheTag) : Keeps s0 (cacheFill s t) := by
  unfold cacheFill
  repeat' first
    | (with_reducible assumption) | intro _ | (with_reducible apply cacheTouch_keeps) | (with_reducible apply State.bump_keeps)
    | extract_lets | split | (dsimp -zeta only) | (dsimp +zetaDelta -zeta only)

theorem keyRequest_keeps {s0 s : State} (h : Keeps s0 s) (n purpose : Nat) : Keeps s0 (keyRequest s n purpose) := by
  unfold keyRequest
  repeat' first
    | (with_reducible assumption) | intro _ | (with_reducible apply Keeps.ite) | (with_reducible apply Keeps.ite_fst)
    | (with_reducible apply cacheTouch_keeps) | (with_reducible apply cacheFill_keeps) | extract_lets | split
    | (dsimp -zeta only) | (dsimp +zetaDelta -zeta only)

theorem reserve_keeps {s0 s : State} (h : Keeps s0 s) (key : Nat) (district : Bool) (c : Nat) :
    Keeps s0 (reserve s key district c) := by
  unfold reserve
  repeat' first
    | (with_reducible assumption) | intro _ | (with_reducible apply Keeps.ite) | (with_reducible apply Keeps.ite_fst)
    | (with_reducible apply mirror_keeps) | (with_reducible apply State.putPair_keeps) | extract_lets | split
    | (dsimp -zeta only) | (dsimp +zetaDelta -zeta only)

theorem restartBcast_keeps {s0 s : State} (h : Keeps s0 s) (d : Nat) : Keeps s0 (restartBcast s d) := by
  unfold restartBcast
  repeat' first
    | (with_reducible assumption) | intro _ | (with_reducible apply State.putTree_keeps)
    | (with_reducible apply State.putPair_keeps) | extract_lets | split | (dsimp -zeta only) | (dsimp +zetaDelta -zeta only)

end Sys2Proof.Machine
end

