-- ==== Sys2Proof/Laws/KeepsSchedOps.lean ====
section
/-!
SUPPORT. What the operations of Machine/SchedOps.lean keep (`Keeps`).
-/

namespace Sys2Proof.Machine

set_option linter.unusedVariables false
set_option linter.unusedTactic false
set_option linter.unreachableTactic false

theorem State.setFrame_keeps {s0 s : State} (h : Keeps s0 s) (h : Nat) (f : TxFrame) : Keeps s0 (State.setFrame s h f) := by
  unfold State.setFrame
  repeat' first
    | (with_reducible assumption) | intro _ | (with_reducible apply State.putSched_keeps) | extract_lets | split
    | (dsimp -zeta only) | (dsimp +zetaDelta -zeta only)

theorem keepFrame_keeps {s0 s : State} (h : Keeps s0 s) (f : TxFrame) : Keeps s0 (keepFrame s f).1 := by
  unfold keepFrame
  repeat' first
    | (with_reducible assumption) | intro _ | (with_reducible apply State.putSched_keeps) | extract_lets | split
    | (dsimp -zeta only) | (dsimp +zetaDelta -zeta only)

theorem storeFrame_keeps {s0 s : State} (h : Keeps s0 s) (f : TxFrame) : Keeps s0 (storeFrame s f).1 := by
  unfold storeFrame
  repeat' first
    | (with_reducible assumption) | intro _ | (with_reducible apply keepFrame_keeps) | (with_reducible apply State.putPsm_keeps)
    | (with_reducible refine Keeps.of_pair (by assumption) ?_) | extract_lets | split | (dsimp -zeta only)
    | (dsimp +zetaDelta -zeta only)

theorem viewDownlink_keeps {s0 s : State} (h : Keeps s0 s) (a : Nat) : Keeps s0 (viewDownlink s a) := by
  unfold viewDownlink
  repeat' first
    | (with_reducible assumption) | intro _ | (with_reducible apply setLineField_keeps) | extract_lets | split
    | (dsimp -zeta only) | (dsimp +zetaDelta -zeta only)

theorem removeFrame_keeps {s0 s : State} (h : Keeps s0 s) (h : Nat) : Keeps s0 (removeFrame s h) := by
  unfold removeFrame
  repeat' first
    | (with_reducible assumption) | intro _ | (with_reducible apply Keeps.ite) | (with_reducible apply Keeps.ite_fst)
    | (with_reducible apply mirror_keeps) | (with_reducible apply State.putSched_keeps)
    | (with_reducible apply viewDownlink_keeps) | extract_lets | split | (dsimp -zeta only) | (dsimp +zetaDelta -zeta only)

theorem dropAgreement_keeps {s0 s : State} (h : Keeps s0 s) (n : Nat) : Keeps s0 (dropAgreement s n) := by
  unfold dropAgreement
  repeat' first
    | (with_reducible assumption) | intro _ | (with_reducible apply State.putDrift_keeps) | extract_lets | split
    | (dsimp -zeta only) | (dsimp +zetaDelta -zeta only)

theorem dropFrame_keeps {s0 s : State} (h : Keeps s0 s) (h : Nat) : Keeps s0 (dropFrame s h) := by
  unfold dropFrame
  repeat' first
    | (with_reducible assumption) | intro _ | (with_reducible apply removeFrame_keeps)
    | (with_reducible apply dropAgreement_keeps) | extract_lets | split | (dsimp -zeta only) | (dsimp +zetaDelta -zeta only)

theorem discardFrame_keeps {s0 s : State} (h : Keeps s0 s) (h : Nat) : Keeps s0 (discardFrame s h) := by
  unfold discardFrame
  repeat' first
    | (with_reducible assumption) | intro _ | (with_reducible apply dropFrame_keeps) | (with_reducible apply State.bump_keeps)
    | extract_lets | split | (dsimp -zeta only) | (dsimp +zetaDelta -zeta only)

theorem flushDownlink_keeps {s0 s : State} (h : Keeps s0 s) (a : Nat) : Keeps s0 (flushDownlink s a) := by
  unfold flushDownlink
  repeat' first
    | (with_reducible assumption) | intro _ | (with_reducible apply discardFrame_keeps) | (with_reducible apply Keeps.fold)
    | extract_lets | split | (dsimp -zeta only) | (dsimp +zetaDelta -zeta only)

theorem flushAllDownlink_keeps {s0 s : State} (h : Keeps s0 s) : Keeps s0 (flushAllDownlink s) := by
  unfold flushAllDownlink
  repeat' first
    | (with_reducible assumption) | intro _ | (with_reducible apply flushDownlink_keeps) | (with_reducible apply Keeps.fold)
    | extract_lets | split | (dsimp -zeta only) | (dsimp +zetaDelta -zeta only)

theorem recordDelay_keeps {s0 s : State} (h : Keeps s0 s) (m ns : Nat) : Keeps s0 (recordDelay s m ns) := by
  unfold recordDelay
  repeat' first
    | (with_reducible assumption) | intro _ | (with_reducible apply Keeps.ite) | (with_reducible apply Keeps.ite_fst)
    | (with_reducible apply State.bump_keeps) | (with_reducible apply State.set_keeps) | extract_lets | split
    | (dsimp -zeta only) | (dsimp +zetaDelta -zeta only)

theorem sampleDelay_keeps {s0 s : State} (h : Keeps s0 s) (m cls ns : Nat) : Keeps s0 (sampleDelay s m cls ns) := by
  unfold sampleDelay
  repeat' first
    | (with_reducible assumption) | intro _ | (with_reducible apply Keeps.ite) | (with_reducible apply Keeps.ite_fst)
    | (with_reducible apply recordDelay_keeps) | (with_reducible apply State.putSched_keeps) | extract_lets | split
    | (dsimp -zeta only) | (dsimp +zetaDelta -zeta only)

theorem crimsonCheck_keeps {s0 s : State} (h : Keeps s0 s) (bound ns node : Nat) : Keeps s0 (crimsonCheck s bound ns node) := by
  unfold crimsonCheck
  repeat' first
    | (with_reducible assumption) | intro _ | (with_reducible apply Keeps.ite) | (with_reducible apply Keeps.ite_fst)
    | (with_reducible apply postEvent_keeps) | (with_reducible apply State.bump_keeps) | extract_lets | split
    | (dsimp -zeta only) | (dsimp +zetaDelta -zeta only)

theorem policeCrimson_keeps {s0 s : State} (h : Keeps s0 s) (len : Nat) : Keeps s0 (policeCrimson s len).1 := by
  unfold policeCrimson
  repeat' first
    | (with_reducible assumption) | intro _ | (with_reducible apply Keeps.ite) | (with_reducible apply Keeps.ite_fst)
    | (with_reducible apply State.putSched_keeps) | (with_reducible apply postEvent_keeps)
    | (with_reducible apply State.bump_keeps) | extract_lets | split | (dsimp -zeta only) | (dsimp +zetaDelta -zeta only)

theorem viewImap_keeps {s0 s : State} (h : Keeps s0 s) : Keeps s0 (viewImap s) := by
  unfold viewImap
  repeat' first
    | (with_reducible assumption) | intro _ | (with_reducible apply State.set_keeps) | (with_reducible apply State.setBit_keeps)
    | extract_lets | split | (dsimp -zeta only) | (dsimp +zetaDelta -zeta only)

theorem freeMapEntry_keeps {s0 s : State} (h : Keeps s0 s) (n : Nat) : Keeps s0 (freeMapEntry s n) := by
  unfold freeMapEntry
  repeat' first
    | (with_reducible assumption) | intro _ | (with_reducible apply viewImap_keeps) | (with_reducible apply State.putImap_keeps)
    | extract_lets | split | (dsimp -zeta only) | (dsimp +zetaDelta -zeta only)

theorem loseNode_keeps {s0 s : State} (h : Keeps s0 s) (n : Nat) : Keeps s0 (loseNode s n) := by
  unfold loseNode
  repeat' first
    | (with_reducible assumption) | intro _ | (with_reducible apply setLineField_keeps)
    | (with_reducible apply flushDownlink_keeps) | (with_reducible apply freeMapEntry_keeps)
    | (with_reducible apply postEvent_keeps) | (with_reducible apply State.bump_keeps) | extract_lets | split
    | (dsimp -zeta only) | (dsimp +zetaDelta -zeta only)

theorem keepDrr_keeps {s0 s : State} (h : Keeps s0 s) (point : Nat) (p : DrrPlace) : Keeps s0 (keepDrr s point p) := by
  unfold keepDrr
  repeat' first
    | (with_reducible assumption) | intro _ | (with_reducible apply State.putSched_keeps)
    | (with_reducible apply Keeps.foldl_fst) | extract_lets | split | (dsimp -zeta only) | (dsimp +zetaDelta -zeta only)

theorem nextClass_keeps {s0 s : State} (h : Keeps s0 s) (point : Nat) (head : Nat → Option Nat) (ok lone : Nat → Bool) :
    Keeps s0 (nextClass s point head ok lone).1 := by
  unfold nextClass
  repeat' first
    | (with_reducible assumption) | intro _ | (with_reducible apply Keeps.ite) | (with_reducible apply Keeps.ite_fst)
    | (with_reducible apply keepDrr_keeps) | extract_lets | split | (dsimp -zeta only) | (dsimp +zetaDelta -zeta only)

theorem nextDownlink_keeps {s0 s : State} (h : Keeps s0 s) (a : Nat) : Keeps s0 (nextDownlink s a).1 := by
  unfold nextDownlink
  repeat' first
    | (with_reducible assumption) | intro _ | (with_reducible apply nextClass_keeps)
    | (with_reducible refine Keeps.of_pair (by assumption) ?_) | extract_lets | split | (dsimp -zeta only)
    | (dsimp +zetaDelta -zeta only)

theorem takeVirtual_keeps {s0 s : State} (h : Keeps s0 s) (h : Nat) : Keeps s0 (takeVirtual s h) := by
  unfold takeVirtual
  repeat' first
    | (with_reducible assumption) | intro _ | (with_reducible apply State.putSched_keeps) | extract_lets | split
    | (dsimp -zeta only) | (dsimp +zetaDelta -zeta only)

theorem takeCounter_keeps {s0 s : State} (h : Keeps s0 s) (a : Nat) : Keeps s0 (takeCounter s a).1 := by
  unfold takeCounter
  repeat' first
    | (with_reducible assumption) | intro _ | (with_reducible apply reserve_keeps) | (with_reducible apply setLineField_keeps)
    | extract_lets | split | (dsimp -zeta only) | (dsimp +zetaDelta -zeta only)

theorem checkExhausted_keeps {s0 s : State} (h : Keeps s0 s) (a : Nat) : Keeps s0 (checkExhausted s a) := by
  unfold checkExhausted
  repeat' first
    | (with_reducible assumption) | intro _ | (with_reducible apply Keeps.ite) | (with_reducible apply Keeps.ite_fst)
    | (with_reducible apply loseNode_keeps) | extract_lets | split | (dsimp -zeta only) | (dsimp +zetaDelta -zeta only)

theorem enqueueDown_keeps {s0 s : State} (h : Keeps s0 s) (hops : List Nat) (final : Nat) (kind : FrameKind) (purpose cls len : Nat) (stamp : Option Nat) :
    Keeps s0 (enqueueDown s hops final kind purpose cls len stamp).1 := by
  unfold enqueueDown
  repeat' first
    | (with_reducible assumption) | intro _ | (with_reducible apply Keeps.ite) | (with_reducible apply Keeps.ite_fst)
    | (with_reducible apply State.bump_keeps) | (with_reducible apply checkExhausted_keeps)
    | (with_reducible apply takeCounter_keeps) | (with_reducible apply keyRequest_keeps)
    | (with_reducible apply storeFrame_keeps) | (with_reducible apply viewDownlink_keeps)
    | (with_reducible apply State.putSched_keeps) | (with_reducible apply mirror_keeps)
    | (with_reducible refine Keeps.of_pair (by assumption) ?_) | extract_lets | split | (dsimp -zeta only)
    | (dsimp +zetaDelta -zeta only)

theorem sendDown_keeps {s0 s : State} (h : Keeps s0 s) (n : Nat) (kind : List Nat → FrameKind) (purpose cls : Nat) (len : List Nat → Nat) (stamp : Option Nat) :
    Keeps s0 (sendDown s n kind purpose cls len stamp).1 := by
  unfold sendDown
  repeat' first
    | (with_reducible assumption) | intro _ | (with_reducible apply Keeps.ite) | (with_reducible apply Keeps.ite_fst)
    | (with_reducible apply routeFailed_keeps) | (with_reducible apply consumeLine_keeps)
    | (with_reducible apply enqueueDown_keeps) | (with_reducible refine Keeps.of_pair (by assumption) ?_) | extract_lets | split
    | (dsimp -zeta only) | (dsimp +zetaDelta -zeta only)

theorem sendDirect_keeps {s0 s : State} (h : Keeps s0 s) (n : Nat) (kind : FrameKind) (purpose len : Nat) :
    Keeps s0 (sendDirect s n kind purpose len).1 := by
  unfold sendDirect
  repeat' first
    | (with_reducible assumption) | intro _ | (with_reducible apply Keeps.ite) | (with_reducible apply Keeps.ite_fst)
    | (with_reducible apply consumeLine_keeps) | (with_reducible apply enqueueDown_keeps) | extract_lets | split
    | (dsimp -zeta only) | (dsimp +zetaDelta -zeta only)

theorem issueFrame_keeps {s0 s : State} (h : Keeps s0 s) (h : Nat) : Keeps s0 (issueFrame s h).1 := by
  unfold issueFrame
  repeat' first
    | (with_reducible assumption) | intro _ | (with_reducible apply Keeps.ite) | (with_reducible apply Keeps.ite_fst)
    | (with_reducible apply consumePoison_keeps) | (with_reducible apply dropFrame_keeps)
    | (with_reducible apply State.bump_keeps) | (with_reducible apply checkExhausted_keeps)
    | (with_reducible apply takeCounter_keeps) | (with_reducible apply State.putSched_keeps)
    | (with_reducible apply State.setFrame_keeps) | (with_reducible refine Keeps.of_pair (by assumption) ?_) | extract_lets
    | split | (dsimp -zeta only) | (dsimp +zetaDelta -zeta only)

theorem putGroup_keeps {s0 s : State} (h : Keeps s0 s) (g : Nat) (l : List (Nat × Nat)) : Keeps s0 (putGroup s g l) := by
  unfold putGroup
  repeat' first
    | (with_reducible assumption) | intro _ | (with_reducible apply State.putFwd_keeps) | (with_reducible apply State.set_keeps)
    | (with_reducible apply cellsWf_nil) | (with_reducible apply flashProgram_wf) | (with_reducible apply flashClear_wf)
    | (with_reducible apply setBytes_wf) | (with_reducible apply cellsWf_filter) | (with_reducible apply cellsWf_write)
    | (with_reducible apply And.intro) | (with_reducible exact wf_regs (by assumption))
    | (with_reducible exact wf_flash (by assumption)) | (with_reducible exact wf_window (by assumption))
    | (with_reducible exact wf_ncs (by assumption)) | (with_reducible exact wf_eht (by assumption))
    | (with_reducible exact wf_hb (by assumption)) | (with_reducible exact wf_shadow (by assumption))
    | (with_reducible exact wf_msix (by assumption)) | (with_reducible exact wf_iram (by assumption))
    | (with_reducible exact wf_dram (by assumption)) | extract_lets | split | (dsimp -zeta only) | (dsimp +zetaDelta -zeta only)

theorem flushDistrict_keeps {s0 s : State} (h : Keeps s0 s) (d : Nat) : Keeps s0 (flushDistrict s d) := by
  unfold flushDistrict
  repeat' first
    | (with_reducible assumption) | intro _ | (with_reducible apply Keeps.ite) | (with_reducible apply Keeps.ite_fst)
    | (with_reducible apply putGroup_keeps) | (with_reducible apply discardFrame_keeps) | (with_reducible apply Keeps.fold)
    | extract_lets | split | (dsimp -zeta only) | (dsimp +zetaDelta -zeta only)

theorem checkBcast_keeps {s0 s : State} (h : Keeps s0 s) (d : Nat) : Keeps s0 (checkBcast s d) := by
  unfold checkBcast
  repeat' first
    | (with_reducible assumption) | intro _ | (with_reducible apply Keeps.ite) | (with_reducible apply Keeps.ite_fst)
    | (with_reducible apply flushDistrict_keeps) | (with_reducible apply postEvent_keeps)
    | (with_reducible apply State.putTree_keeps) | extract_lets | split | (dsimp -zeta only) | (dsimp +zetaDelta -zeta only)

theorem sendGroup_keeps {s0 s : State} (h : Keeps s0 s) (g cls len : Nat) (payload : List Byte) :
    Keeps s0 (sendGroup s g cls len payload).1 := by
  unfold sendGroup
  repeat' first
    | (with_reducible assumption) | intro _ | (with_reducible apply Keeps.ite) | (with_reducible apply Keeps.ite_fst)
    | (with_reducible apply State.bump_keeps) | (with_reducible apply checkBcast_keeps)
    | (with_reducible apply State.putTree_keeps) | (with_reducible apply reserve_keeps)
    | (with_reducible apply storeFrame_keeps) | (with_reducible apply putGroup_keeps)
    | (with_reducible refine Keeps.of_pair (by assumption) ?_) | extract_lets | split | (dsimp -zeta only)
    | (dsimp +zetaDelta -zeta only)

end Sys2Proof.Machine
end

