-- ==== Sys2Proof/Laws/KeepsRadioOps.lean ====
section
/-!
SUPPORT. What the operations of Machine/RadioOps.lean keep (`Keeps`).
-/

namespace Sys2Proof.Machine

set_option linter.unusedVariables false
set_option linter.unusedTactic false
set_option linter.unreachableTactic false

theorem reachStep8_keeps {s0 s : State} (h : Keeps s0 s) : Keeps s0 (reachStep8 s) := by
  unfold reachStep8
  repeat' first
    | (with_reducible assumption) | intro _ | (with_reducible apply State.set_keeps)
    | (with_reducible apply State.putPair_keeps) | extract_lets | split | (dsimp -zeta only) | (dsimp +zetaDelta -zeta only)

theorem bumpTrx_keeps {s0 s : State} (h : Keeps s0 s) (n : Nat) (f : Fld) : Keeps s0 (bumpTrx s n f) := by
  unfold bumpTrx
  repeat' first
    | (with_reducible assumption) | intro _ | (with_reducible apply Keeps.ite) | (with_reducible apply Keeps.ite_fst)
    | (with_reducible apply State.bump_keeps) | (with_reducible apply State.setPath_keeps) | extract_lets | split
    | (dsimp -zeta only) | (dsimp +zetaDelta -zeta only)

theorem setTrx_keeps {s0 s : State} (h : Keeps s0 s) (n : Nat) (f : Fld) (v : Nat) : Keeps s0 (setTrx s n f v) := by
  unfold setTrx
  repeat' first
    | (with_reducible assumption) | intro _ | (with_reducible apply Keeps.ite) | (with_reducible apply Keeps.ite_fst)
    | (with_reducible apply State.set_keeps) | extract_lets | split | (dsimp -zeta only) | (dsimp +zetaDelta -zeta only)

theorem viewLag_keeps {s0 s : State} (h : Keeps s0 s) (n : Nat) : Keeps s0 (viewLag s n) := by
  unfold viewLag
  repeat' first
    | (with_reducible assumption) | intro _ | (with_reducible apply setTrx_keeps) | extract_lets | split | (dsimp -zeta only)
    | (dsimp +zetaDelta -zeta only)

theorem writeAssignment_keeps {s0 s : State} (h : Keeps s0 s) (e : Nat) (a : Assignment) : Keeps s0 (writeAssignment s e a) := by
  unfold writeAssignment
  repeat' first
    | (with_reducible assumption) | intro _ | (with_reducible apply State.set_keeps) | extract_lets | split | (dsimp -zeta only)
    | (dsimp +zetaDelta -zeta only)

theorem takeAssignment_keeps {s0 s : State} (h : Keeps s0 s) (e : Nat) (l : EngineLoad) : Keeps s0 (takeAssignment s e l) := by
  unfold takeAssignment
  repeat' first
    | (with_reducible assumption) | intro _ | (with_reducible apply Keeps.ite) | (with_reducible apply Keeps.ite_fst)
    | (with_reducible apply State.setCe_keeps) | (with_reducible apply State.set_keeps) | (with_reducible apply viewLag_keeps)
    | (with_reducible apply writeAssignment_keeps) | (with_reducible apply pushItem_keeps)
    | (with_reducible apply postEvent_keeps) | (with_reducible apply State.bump_keeps) | extract_lets | split
    | (dsimp -zeta only) | (dsimp +zetaDelta -zeta only)

theorem backToSearch_keeps {s0 s : State} (h : Keeps s0 s) (e : Nat) : Keeps s0 (backToSearch s e) := by
  unfold backToSearch
  repeat' first
    | (with_reducible assumption) | intro _ | (with_reducible apply takeAssignment_keeps)
    | (with_reducible apply State.set_keeps) | extract_lets | split | (dsimp -zeta only) | (dsimp +zetaDelta -zeta only)

theorem giveLoad_keeps {s0 s : State} (h : Keeps s0 s) (e : Nat) (l : EngineLoad) : Keeps s0 (giveLoad s e l) := by
  unfold giveLoad
  repeat' first
    | (with_reducible assumption) | intro _ | (with_reducible apply Keeps.ite) | (with_reducible apply Keeps.ite_fst)
    | (with_reducible apply State.setCe_keeps) | (with_reducible apply State.set_keeps)
    | (with_reducible apply takeAssignment_keeps) | extract_lets | split | (dsimp -zeta only) | (dsimp +zetaDelta -zeta only)

theorem blankPath_keeps {s0 s : State} (h : Keeps s0 s) (n : Nat) (f : Fld) : Keeps s0 (blankPath s n f) := by
  unfold blankPath
  repeat' first
    | (with_reducible assumption) | intro _ | (with_reducible apply Keeps.ite) | (with_reducible apply Keeps.ite_fst)
    | (with_reducible apply bumpTrx_keeps) | (with_reducible apply State.set_keeps) | (with_reducible apply Keeps.fold)
    | extract_lets | split | (dsimp -zeta only) | (dsimp +zetaDelta -zeta only)

theorem unblankPath_keeps {s0 s : State} (h : Keeps s0 s) (n : Nat) : Keeps s0 (unblankPath s n) := by
  unfold unblankPath
  repeat' first
    | (with_reducible assumption) | intro _ | (with_reducible apply Keeps.ite) | (with_reducible apply Keeps.ite_fst)
    | (with_reducible apply backToSearch_keeps) | (with_reducible apply Keeps.fold) | extract_lets | split | (dsimp -zeta only)
    | (dsimp +zetaDelta -zeta only)

theorem issueSet_keeps {s0 s : State} (h : Keeps s0 s) (n : Nat) (l : List Int) : Keeps s0 (issueSet s n l) := by
  unfold issueSet
  repeat' first
    | (with_reducible assumption) | intro _ | (with_reducible apply Keeps.ite) | (with_reducible apply Keeps.ite_fst)
    | (with_reducible apply State.set_keeps) | (with_reducible apply State.bumpWrap_keeps)
    | (with_reducible apply viewLag_keeps) | (with_reducible apply State.setPath_keeps) | extract_lets | split
    | (dsimp -zeta only) | (dsimp +zetaDelta -zeta only)

theorem offerSet_keeps {s0 s : State} (h : Keeps s0 s) (n : Nat) (l : List Int) : Keeps s0 (offerSet s n l) := by
  unfold offerSet
  repeat' first
    | (with_reducible assumption) | intro _ | (with_reducible apply Keeps.ite) | (with_reducible apply Keeps.ite_fst)
    | (with_reducible apply issueSet_keeps) | (with_reducible apply State.setPath_keeps) | extract_lets | split
    | (dsimp -zeta only) | (dsimp +zetaDelta -zeta only)

theorem putTxSet_keeps {s0 s : State} (h : Keeps s0 s) (n : Nat) (l : List Int) : Keeps s0 (putTxSet s n l) := by
  unfold putTxSet
  repeat' first
    | (with_reducible assumption) | intro _ | (with_reducible apply State.setPath_keeps)
    | (with_reducible apply State.set_keeps) | extract_lets | split | (dsimp -zeta only) | (dsimp +zetaDelta -zeta only)

theorem markMirror_keeps {s0 s : State} (h : Keeps s0 s) (e : Nat) : Keeps s0 (markMirror s e) := by
  unfold markMirror
  repeat' first
    | (with_reducible assumption) | intro _ | (with_reducible apply State.setCe_keeps) | (with_reducible apply mirror_keeps)
    | (with_reducible apply Keeps.fold) | extract_lets | split | (dsimp -zeta only) | (dsimp +zetaDelta -zeta only)

theorem collectImage_keeps {s0 s : State} (h : Keeps s0 s) (e node : Nat) (image : List Int) :
    Keeps s0 (collectImage s e node image) := by
  unfold collectImage
  repeat' first
    | (with_reducible assumption) | intro _ | (with_reducible apply Keeps.ite) | (with_reducible apply Keeps.ite_fst)
    | (with_reducible apply State.setPath_keeps) | (with_reducible apply Keeps.fold) | extract_lets | split | (dsimp -zeta only)
    | (dsimp +zetaDelta -zeta only)

theorem viewHealth_keeps {s0 s : State} (h : Keeps s0 s) (n : Nat) : Keeps s0 (viewHealth s n) := by
  unfold viewHealth
  repeat' first
    | (with_reducible assumption) | intro _ | (with_reducible apply Keeps.ite) | (with_reducible apply Keeps.ite_fst)
    | (with_reducible apply State.setBit_keeps) | (with_reducible apply postEvent_keeps) | extract_lets | split
    | (dsimp -zeta only) | (dsimp +zetaDelta -zeta only)

theorem issueTxSet_keeps {s0 s : State} (h : Keeps s0 s) (n : Nat) : Keeps s0 (issueTxSet s n) := by
  unfold issueTxSet
  repeat' first
    | (with_reducible assumption) | intro _ | (with_reducible apply putTxSet_keeps) | (with_reducible apply viewHealth_keeps)
    | (with_reducible apply State.set_keeps) | (with_reducible apply State.drew_keeps) | extract_lets | split
    | (dsimp -zeta only) | (dsimp +zetaDelta -zeta only)

theorem viewTone_keeps {s0 s : State} (h : Keeps s0 s) (n : Nat) : Keeps s0 (viewTone s n) := by
  unfold viewTone
  repeat' first
    | (with_reducible assumption) | intro _ | (with_reducible apply Keeps.ite) | (with_reducible apply Keeps.ite_fst)
    | (with_reducible apply State.setPath_keeps) | (with_reducible apply State.setBit_keeps) | extract_lets | split
    | (dsimp -zeta only) | (dsimp +zetaDelta -zeta only)

theorem calResult_keeps {s0 s : State} (h : Keeps s0 s) (n r : Nat) : Keeps s0 (calResult s n r) := by
  unfold calResult
  repeat' first
    | (with_reducible assumption) | intro _ | (with_reducible apply State.set_keeps) | extract_lets | split | (dsimp -zeta only)
    | (dsimp +zetaDelta -zeta only)

theorem calFail_keeps {s0 s : State} (h : Keeps s0 s) (n op : Nat) : Keeps s0 (calFail s n op) := by
  unfold calFail
  repeat' first
    | (with_reducible assumption) | intro _ | (with_reducible apply postEvent_keeps) | extract_lets | split | (dsimp -zeta only)
    | (dsimp +zetaDelta -zeta only)

theorem endRequest_keeps {s0 s : State} (h : Keeps s0 s) (n : Nat) : Keeps s0 (endRequest s n) := by
  unfold endRequest
  repeat' first
    | (with_reducible assumption) | intro _ | (with_reducible apply State.setPath_keeps)
    | (with_reducible apply unblankPath_keeps) | (with_reducible apply State.set_keeps) | extract_lets | split
    | (dsimp -zeta only) | (dsimp +zetaDelta -zeta only)

theorem stopRequest_keeps {s0 s : State} (h : Keeps s0 s) (n : Nat) : Keeps s0 (stopRequest s n) := by
  unfold stopRequest
  repeat' first
    | (with_reducible assumption) | intro _ | (with_reducible apply endRequest_keeps)
    | (with_reducible apply State.setPath_keeps) | extract_lets | split | (dsimp -zeta only) | (dsimp +zetaDelta -zeta only)

theorem sliceWaits_keeps {s0 s : State} (h : Keeps s0 s) (n : Nat) : Keeps s0 (sliceWaits s n) := by
  unfold sliceWaits
  repeat' first
    | (with_reducible assumption) | intro _ | (with_reducible apply Keeps.ite) | (with_reducible apply Keeps.ite_fst)
    | (with_reducible apply State.setPath_keeps) | (with_reducible apply calResult_keeps)
    | (with_reducible apply State.set_keeps) | extract_lets | split | (dsimp -zeta only) | (dsimp +zetaDelta -zeta only)

theorem sliceBegins_keeps {s0 s : State} (h : Keeps s0 s) (n : Nat) : Keeps s0 (sliceBegins s n) := by
  unfold sliceBegins
  repeat' first
    | (with_reducible assumption) | intro _ | (with_reducible apply Keeps.ite) | (with_reducible apply Keeps.ite_fst)
    | (with_reducible apply State.setPath_keeps) | (with_reducible apply calResult_keeps)
    | (with_reducible apply State.set_keeps) | (with_reducible apply sliceWaits_keeps) | extract_lets | split
    | (dsimp -zeta only) | (dsimp +zetaDelta -zeta only)

theorem calPreempt_keeps {s0 s : State} (h : Keeps s0 s) (n : Nat) : Keeps s0 (calPreempt s n) := by
  unfold calPreempt
  repeat' first
    | (with_reducible assumption) | intro _ | (with_reducible apply Keeps.ite) | (with_reducible apply Keeps.ite_fst)
    | (with_reducible apply stopRequest_keeps) | (with_reducible apply State.bump_keeps) | (with_reducible apply calFail_keeps)
    | (with_reducible apply calResult_keeps) | extract_lets | split | (dsimp -zeta only) | (dsimp +zetaDelta -zeta only)

theorem completion_keeps {s0 s : State} (h : Keeps s0 s) (te : Nat) (status late stamp frac : Nat) :
    Keeps s0 (completion s te status late stamp frac) := by
  unfold completion
  repeat' first
    | (with_reducible assumption) | intro _ | (with_reducible apply Keeps.ite) | (with_reducible apply Keeps.ite_fst)
    | (with_reducible apply pushItem_keeps) | extract_lets | split | (dsimp -zeta only) | (dsimp +zetaDelta -zeta only)

theorem abandonFrame_keeps {s0 s : State} (h : Keeps s0 s) (h : Nat) : Keeps s0 (abandonFrame s h) := by
  unfold abandonFrame
  repeat' first
    | (with_reducible assumption) | intro _ | (with_reducible apply removeFrame_keeps) | (with_reducible apply State.bump_keeps)
    | (with_reducible apply State.putSched_keeps) | extract_lets | split | (dsimp -zeta only) | (dsimp +zetaDelta -zeta only)

theorem teGiveBack_keeps {s0 s : State} (h : Keeps s0 s) (te status : Nat) : Keeps s0 (teGiveBack s te status) := by
  unfold teGiveBack
  repeat' first
    | (with_reducible assumption) | intro _ | (with_reducible apply completion_keeps) | (with_reducible apply State.setTe_keeps)
    | (with_reducible apply State.set_keeps) | (with_reducible apply abandonFrame_keeps) | extract_lets | split
    | (dsimp -zeta only) | (dsimp +zetaDelta -zeta only)

theorem frontEndReceive_keeps {s0 s : State} (h : Keeps s0 s) (n : Nat) : Keeps s0 (frontEndReceive s n) := by
  unfold frontEndReceive
  repeat' first
    | (with_reducible assumption) | intro _ | (with_reducible apply State.setPath_keeps) | extract_lets | split
    | (dsimp -zeta only) | (dsimp +zetaDelta -zeta only)

theorem dropInterval_keeps {s0 s : State} (h : Keeps s0 s) (n status : Nat) : Keeps s0 (dropInterval s n status) := by
  unfold dropInterval
  repeat' first
    | (with_reducible assumption) | intro _ | (with_reducible apply teGiveBack_keeps)
    | (with_reducible apply frontEndReceive_keeps) | (with_reducible apply State.setPath_keeps)
    | (with_reducible apply Keeps.fold) | extract_lets | split | (dsimp -zeta only) | (dsimp +zetaDelta -zeta only)

theorem observeEnd_keeps {s0 s : State} (h : Keeps s0 s) (n : Nat) : Keeps s0 (observeEnd s n) := by
  unfold observeEnd
  repeat' first
    | (with_reducible assumption) | intro _ | (with_reducible apply Keeps.ite) | (with_reducible apply Keeps.ite_fst)
    | (with_reducible apply State.setPath_keeps) | (with_reducible apply issueTxSet_keeps) | extract_lets | split
    | (dsimp -zeta only) | (dsimp +zetaDelta -zeta only)

theorem intervalOver_keeps {s0 s : State} (h : Keeps s0 s) (n : Nat) : Keeps s0 (intervalOver s n) := by
  unfold intervalOver
  repeat' first
    | (with_reducible assumption) | intro _ | (with_reducible apply State.setPath_keeps) | extract_lets | split
    | (dsimp -zeta only) | (dsimp +zetaDelta -zeta only)

theorem intervalEnds_keeps {s0 s : State} (h : Keeps s0 s) (n : Nat) : Keeps s0 (intervalEnds s n) := by
  unfold intervalEnds
  repeat' first
    | (with_reducible assumption) | intro _ | (with_reducible apply Keeps.ite) | (with_reducible apply Keeps.ite_fst)
    | (with_reducible apply observeEnd_keeps) | (with_reducible apply intervalOver_keeps) | extract_lets | split
    | (dsimp -zeta only) | (dsimp +zetaDelta -zeta only)

theorem abortInterval_keeps {s0 s : State} (h : Keeps s0 s) (n cause : Nat) : Keeps s0 (abortInterval s n cause) := by
  unfold abortInterval
  repeat' first
    | (with_reducible assumption) | intro _ | (with_reducible apply Keeps.ite) | (with_reducible apply Keeps.ite_fst)
    | (with_reducible apply teGiveBack_keeps) | (with_reducible apply bumpTrx_keeps) | (with_reducible apply intervalOver_keeps)
    | (with_reducible apply postEvent_keeps) | (with_reducible apply Keeps.fold) | extract_lets | split | (dsimp -zeta only)
    | (dsimp +zetaDelta -zeta only)

theorem closeRadioGate_keeps {s0 s : State} (h : Keeps s0 s) : Keeps s0 (closeRadioGate s) := by
  unfold closeRadioGate
  repeat' first
    | (with_reducible assumption) | intro _ | (with_reducible apply abortInterval_keeps)
    | (with_reducible apply abandonFrame_keeps) | (with_reducible apply State.putPsm_keeps)
    | (with_reducible apply teGiveBack_keeps) | (with_reducible apply Keeps.fold) | extract_lets | split | (dsimp -zeta only)
    | (dsimp +zetaDelta -zeta only)

theorem engineEmpty_keeps {s0 s : State} (h : Keeps s0 s) (te : Nat) : Keeps s0 (engineEmpty s te) := by
  unfold engineEmpty
  repeat' first
    | (with_reducible assumption) | intro _ | (with_reducible apply completion_keeps) | (with_reducible apply State.drew_keeps)
    | (with_reducible apply State.setTe_keeps) | (with_reducible apply State.set_keeps) | extract_lets | split
    | (dsimp -zeta only) | (dsimp +zetaDelta -zeta only)

theorem rampInterval_keeps {s0 s : State} (h : Keeps s0 s) (n late : Nat) : Keeps s0 (rampInterval s n late) := by
  unfold rampInterval
  repeat' first
    | (with_reducible assumption) | intro _ | (with_reducible apply Keeps.ite) | (with_reducible apply Keeps.ite_fst)
    | (with_reducible apply State.putPsm_keeps) | (with_reducible apply State.setPath_keeps)
    | (with_reducible apply issueFrame_keeps) | (with_reducible apply State.emit_keeps)
    | (with_reducible apply engineEmpty_keeps) | (with_reducible apply State.set_keeps) | (with_reducible apply Keeps.fold)
    | (with_reducible apply Keeps.foldl_fst) | (with_reducible refine Keeps.of_pair (by assumption) ?_) | extract_lets | split
    | (dsimp -zeta only) | (dsimp +zetaDelta -zeta only)

theorem startWaiting_keeps {s0 s : State} (h : Keeps s0 s) (n : Nat) : Keeps s0 (startWaiting s n) := by
  unfold startWaiting
  repeat' first
    | (with_reducible assumption) | intro _ | (with_reducible apply Keeps.ite) | (with_reducible apply Keeps.ite_fst)
    | (with_reducible apply rampInterval_keeps) | extract_lets | split | (dsimp -zeta only) | (dsimp +zetaDelta -zeta only)

theorem jesdDown_keeps {s0 s : State} (h : Keeps s0 s) (dir mask cause : Nat) : Keeps s0 (jesdDown s dir mask cause) := by
  unfold jesdDown
  repeat' first
    | (with_reducible assumption) | intro _ | (with_reducible apply Keeps.ite) | (with_reducible apply Keeps.ite_fst)
    | (with_reducible apply State.bump_keeps) | (with_reducible apply blankPath_keeps) | (with_reducible apply State.set_keeps)
    | (with_reducible apply abortInterval_keeps) | (with_reducible apply postEvent_keeps) | (with_reducible apply Keeps.fold)
    | extract_lets | split | (dsimp -zeta only) | (dsimp +zetaDelta -zeta only)

theorem retune_keeps {s0 s : State} (h : Keeps s0 s) (n centre : Nat) : Keeps s0 (retune s n centre) := by
  unfold retune
  repeat' first
    | (with_reducible assumption) | intro _ | (with_reducible apply State.set_keeps) | (with_reducible apply blankPath_keeps)
    | (with_reducible apply State.setPath_keeps) | extract_lets | split | (dsimp -zeta only) | (dsimp +zetaDelta -zeta only)

end Sys2Proof.Machine
end

