-- ==== Sys2Proof/Laws/KeepsTimeOps.lean ====
section
/-!
SUPPORT. What the operations of Machine/TimeOps.lean keep (`Keeps`).
-/

namespace Sys2Proof.Machine

set_option linter.unusedVariables false
set_option linter.unusedTactic false
set_option linter.unreachableTactic false

theorem putTbValue_keeps {s0 s : State} (h : Keeps s0 s) (v : Nat) : Keeps s0 (putTbValue s v) := by
  unfold putTbValue
  repeat' first
    | (with_reducible assumption) | intro _ | (with_reducible apply State.putTb_keeps) | extract_lets | split
    | (dsimp -zeta only) | (dsimp +zetaDelta -zeta only)

theorem tbEdge_keeps {s0 s : State} (h : Keeps s0 s) : Keeps s0 (tbEdge s) := by
  unfold tbEdge
  repeat' first
    | (with_reducible assumption) | intro _ | (with_reducible apply Keeps.ite) | (with_reducible apply Keeps.ite_fst)
    | (with_reducible apply putTbValue_keeps) | extract_lets | split | (dsimp -zeta only) | (dsimp +zetaDelta -zeta only)

theorem setQuality_keeps {s0 s : State} (h : Keeps s0 s) (code err : Nat) : Keeps s0 (setQuality s code err) := by
  unfold setQuality
  repeat' first
    | (with_reducible assumption) | intro _ | (with_reducible apply Keeps.ite) | (with_reducible apply Keeps.ite_fst)
    | (with_reducible apply State.set_keeps) | (with_reducible apply postEvent_keeps) | extract_lets | split
    | (dsimp -zeta only) | (dsimp +zetaDelta -zeta only)

theorem leaveBridged_keeps {s0 s : State} (h : Keeps s0 s) : Keeps s0 (leaveBridged s) := by
  unfold leaveBridged
  repeat' first
    | (with_reducible assumption) | intro _ | (with_reducible apply Keeps.ite) | (with_reducible apply Keeps.ite_fst)
    | (with_reducible apply setQuality_keeps) | extract_lets | split | (dsimp -zeta only) | (dsimp +zetaDelta -zeta only)

theorem notOwner_keeps {s0 s : State} (h : Keeps s0 s) : Keeps s0 (notOwner s) := by
  unfold notOwner
  repeat' first
    | (with_reducible assumption) | intro _ | (with_reducible apply State.set_keeps) | (with_reducible apply State.bump_keeps)
    | extract_lets | split | (dsimp -zeta only) | (dsimp +zetaDelta -zeta only)

theorem refuseCorrection_keeps {s0 s : State} (h : Keeps s0 s) (result : Nat) : Keeps s0 (refuseCorrection s result) := by
  unfold refuseCorrection
  repeat' first
    | (with_reducible assumption) | intro _ | (with_reducible apply State.set_keeps) | (with_reducible apply State.bump_keeps)
    | extract_lets | split | (dsimp -zeta only) | (dsimp +zetaDelta -zeta only)

theorem armTso_keeps {s0 s : State} (h : Keeps s0 s) (n : Nat) (b : Bool) : Keeps s0 (armTso s n b) := by
  unfold armTso
  repeat' first
    | (with_reducible assumption) | intro _ | (with_reducible apply State.setBit_keeps) | extract_lets | split
    | (dsimp -zeta only) | (dsimp +zetaDelta -zeta only)

theorem tsoPassed_keeps {s0 s : State} (h : Keeps s0 s) (n : Nat) : Keeps s0 (tsoPassed s n) := by
  unfold tsoPassed
  repeat' first
    | (with_reducible assumption) | intro _ | (with_reducible apply Keeps.ite) | (with_reducible apply Keeps.ite_fst)
    | (with_reducible apply State.setTso_keeps) | (with_reducible apply State.bumpBy_keeps)
    | (with_reducible apply armTso_keeps) | (with_reducible apply State.setBit_keeps) | extract_lets | split
    | (dsimp -zeta only) | (dsimp +zetaDelta -zeta only)

theorem applyStep_keeps {s0 s : State} (h : Keeps s0 s) (x : Int) : Keeps s0 (applyStep s x) := by
  unfold applyStep
  repeat' first
    | (with_reducible assumption) | intro _ | (with_reducible apply State.putTb_keeps)
    | (with_reducible apply State.bumpWrap_keeps) | (with_reducible apply State.set_keeps)
    | (with_reducible apply postEvent_keeps) | (with_reducible apply tsoPassed_keeps)
    | (with_reducible apply leaveBridged_keeps) | (with_reducible apply Keeps.fold) | extract_lets | split | (dsimp -zeta only)
    | (dsimp +zetaDelta -zeta only)

theorem applyPendingStep_keeps {s0 s : State} (h : Keeps s0 s) : Keeps s0 (applyPendingStep s) := by
  unfold applyPendingStep
  repeat' first
    | (with_reducible assumption) | intro _ | (with_reducible apply applyStep_keeps) | (with_reducible apply State.putTb_keeps)
    | (with_reducible apply State.setBit_keeps) | extract_lets | split | (dsimp -zeta only) | (dsimp +zetaDelta -zeta only)

theorem stopTimebase_keeps {s0 s : State} (h : Keeps s0 s) : Keeps s0 (stopTimebase s) := by
  unfold stopTimebase
  repeat' first
    | (with_reducible assumption) | intro _ | (with_reducible apply Keeps.ite) | (with_reducible apply Keeps.ite_fst)
    | (with_reducible apply State.putTb_keeps) | extract_lets | split | (dsimp -zeta only) | (dsimp +zetaDelta -zeta only)

theorem startTimebase_keeps {s0 s : State} (h : Keeps s0 s) (nLf nRc lag : Nat) : Keeps s0 (startTimebase s nLf nRc lag) := by
  unfold startTimebase
  repeat' first
    | (with_reducible assumption) | intro _ | (with_reducible apply Keeps.ite) | (with_reducible apply Keeps.ite_fst)
    | (with_reducible apply setQuality_keeps) | (with_reducible apply State.putTb_keeps)
    | (with_reducible apply State.set_keeps) | extract_lets | split | (dsimp -zeta only) | (dsimp +zetaDelta -zeta only)

theorem gtIrq_keeps {s0 s : State} (h : Keeps s0 s) (n : Nat) : Keeps s0 (gtIrq s n) := by
  unfold gtIrq
  repeat' first
    | (with_reducible assumption) | intro _ | (with_reducible apply aicLevel_keeps) | extract_lets | split | (dsimp -zeta only)
    | (dsimp +zetaDelta -zeta only)

theorem setGtPair_keeps {s0 s : State} (h : Keeps s0 s) (n : Nat) (f : Nat → Fld) (v : Nat) : Keeps s0 (setGtPair s n f v) := by
  unfold setGtPair
  repeat' first
    | (with_reducible assumption) | intro _ | (with_reducible apply Keeps.ite) | (with_reducible apply Keeps.ite_fst)
    | (with_reducible apply State.set_keeps) | extract_lets | split | (dsimp -zeta only) | (dsimp +zetaDelta -zeta only)

theorem gtAct_keeps {s0 s : State} (h : Keeps s0 s) (n : Nat) : Keeps s0 (gtAct s n) := by
  unfold gtAct
  repeat' first
    | (with_reducible assumption) | intro _ | (with_reducible apply State.setBit_keeps) | extract_lets | split
    | (dsimp -zeta only) | (dsimp +zetaDelta -zeta only)

theorem gtMatched_keeps {s0 s : State} (h : Keeps s0 s) (n : Nat) : Keeps s0 (gtMatched s n) := by
  unfold gtMatched
  repeat' first
    | (with_reducible assumption) | intro _ | (with_reducible apply Keeps.ite) | (with_reducible apply Keeps.ite_fst)
    | (with_reducible apply State.set_keeps) | (with_reducible apply State.bumpWrap_keeps) | (with_reducible apply gtAct_keeps)
    | (with_reducible apply gtIrq_keeps) | (with_reducible apply State.setGt_keeps) | extract_lets | split | (dsimp -zeta only)
    | (dsimp +zetaDelta -zeta only)

theorem gtOnto_keeps {s0 s : State} (h : Keeps s0 s) (n v : Nat) (wrap : Bool) : Keeps s0 (gtOnto s n v wrap) := by
  unfold gtOnto
  repeat' first
    | (with_reducible assumption) | intro _ | (with_reducible apply Keeps.ite) | (with_reducible apply Keeps.ite_fst)
    | (with_reducible apply setGtPair_keeps) | (with_reducible apply State.setGt_keeps) | (with_reducible apply gtMatched_keeps)
    | (with_reducible apply gtIrq_keeps) | (with_reducible apply State.set_keeps) | extract_lets | split | (dsimp -zeta only)
    | (dsimp +zetaDelta -zeta only)

theorem gtStep_keeps {s0 s : State} (h : Keeps s0 s) (n : Nat) : Keeps s0 (gtStep s n) := by
  unfold gtStep
  repeat' first
    | (with_reducible assumption) | intro _ | (with_reducible apply Keeps.ite) | (with_reducible apply Keeps.ite_fst)
    | (with_reducible apply gtOnto_keeps) | extract_lets | split | (dsimp -zeta only) | (dsimp +zetaDelta -zeta only)

theorem gtPeriod_keeps {s0 s : State} (h : Keeps s0 s) (n : Nat) : Keeps s0 (gtPeriod s n) := by
  unfold gtPeriod
  repeat' first
    | (with_reducible assumption) | intro _ | (with_reducible apply Keeps.ite) | (with_reducible apply Keeps.ite_fst)
    | (with_reducible apply gtStep_keeps) | (with_reducible apply State.setGt_keeps) | extract_lets | split | (dsimp -zeta only)
    | (dsimp +zetaDelta -zeta only)

theorem gtAdvance_keeps {s0 s : State} (h : Keeps s0 s) (n k : Nat) : Keeps s0 (gtAdvance s n k) := by
  unfold gtAdvance
  repeat' first
    | (with_reducible assumption) | intro _ | (with_reducible apply Keeps.ite) | (with_reducible apply Keeps.ite_fst)
    | (with_reducible apply setGtPair_keeps) | (with_reducible apply State.setGt_keeps) | (with_reducible apply State.set_keeps)
    | (with_reducible apply State.bumpWrap_keeps) | (with_reducible apply gtAct_keeps) | (with_reducible apply gtIrq_keeps)
    | extract_lets | split | (dsimp -zeta only) | (dsimp +zetaDelta -zeta only)

theorem gtCredit_keeps {s0 s : State} (h : Keeps s0 s) (n units : Nat) : Keeps s0 (gtCredit s n units) := by
  unfold gtCredit
  repeat' first
    | (with_reducible assumption) | intro _ | (with_reducible apply Keeps.ite) | (with_reducible apply Keeps.ite_fst)
    | (with_reducible apply gtAdvance_keeps) | (with_reducible apply State.setGt_keeps) | extract_lets | split
    | (dsimp -zeta only) | (dsimp +zetaDelta -zeta only)

theorem gtLfTick_keeps {s0 s : State} (h : Keeps s0 s) : Keeps s0 (gtLfTick s) := by
  unfold gtLfTick
  repeat' first
    | (with_reducible assumption) | intro _ | (with_reducible apply Keeps.ite) | (with_reducible apply Keeps.ite_fst)
    | (with_reducible apply gtCredit_keeps) | (with_reducible apply Keeps.fold) | extract_lets | split | (dsimp -zeta only)
    | (dsimp +zetaDelta -zeta only)

theorem setLfMode_keeps {s0 s : State} (h : Keeps s0 s) (b : Bool) : Keeps s0 (setLfMode s b) := by
  unfold setLfMode
  repeat' first
    | (with_reducible assumption) | intro _ | (with_reducible apply State.setBit_keeps) | (with_reducible apply Keeps.fold)
    | extract_lets | split | (dsimp -zeta only) | (dsimp +zetaDelta -zeta only)

theorem endLfMode_keeps {s0 s : State} (h : Keeps s0 s) (periods : Nat) : Keeps s0 (endLfMode s periods) := by
  unfold endLfMode
  repeat' first
    | (with_reducible assumption) | intro _ | (with_reducible apply Keeps.ite) | (with_reducible apply Keeps.ite_fst)
    | (with_reducible apply setLfMode_keeps) | (with_reducible apply gtCredit_keeps) | (with_reducible apply Keeps.fold)
    | extract_lets | split | (dsimp -zeta only) | (dsimp +zetaDelta -zeta only)

theorem gtWrite_keeps {s0 s : State} (h : Keeps s0 s) (n r v : Nat) : Keeps s0 (gtWrite s n r v) := by
  unfold gtWrite
  repeat' first
    | (with_reducible assumption) | intro _ | (with_reducible apply Keeps.ite) | (with_reducible apply Keeps.ite_fst)
    | (with_reducible apply State.setBit_keeps) | (with_reducible apply gtIrq_keeps)
    | (with_reducible apply State.setWord_keeps) | (with_reducible apply State.setGt_keeps)
    | (with_reducible apply State.set_keeps) | extract_lets | split | (dsimp -zeta only) | (dsimp +zetaDelta -zeta only)

theorem gtApply_keeps {s0 s : State} (h : Keeps s0 s) (l : List (Nat × Nat × Nat)) : Keeps s0 (gtApply s l) := by
  unfold gtApply
  repeat' first
    | (with_reducible assumption) | intro _ | (with_reducible apply gtWrite_keeps) | (with_reducible apply Keeps.fold)
    | extract_lets | split | (dsimp -zeta only) | (dsimp +zetaDelta -zeta only)

theorem timersApply_keeps {s0 s : State} (h : Keeps s0 s) : Keeps s0 (timersApply s) := by
  unfold timersApply
  repeat' first
    | (with_reducible assumption) | intro _ | (with_reducible apply gtApply_keeps) | (with_reducible apply State.putTb_keeps)
    | extract_lets | split | (dsimp -zeta only) | (dsimp +zetaDelta -zeta only)

theorem gtPost_keeps {s0 s : State} (h : Keeps s0 s) (n r v : Nat) : Keeps s0 (gtPost s n r v) := by
  unfold gtPost
  repeat' first
    | (with_reducible assumption) | intro _ | (with_reducible apply State.putTb_keeps) | extract_lets | split
    | (dsimp -zeta only) | (dsimp +zetaDelta -zeta only)

theorem gtTake_keeps {s0 s : State} (h : Keeps s0 s) (n : Nat) : Keeps s0 (gtTake s n) := by
  unfold gtTake
  repeat' first
    | (with_reducible assumption) | intro _ | (with_reducible apply Keeps.ite) | (with_reducible apply Keeps.ite_fst)
    | (with_reducible apply State.set_keeps) | (with_reducible apply State.bump_keeps) | (with_reducible apply gtIrq_keeps)
    | (with_reducible apply setGtPair_keeps) | extract_lets | split | (dsimp -zeta only) | (dsimp +zetaDelta -zeta only)

theorem clockEdge_keeps {s0 s : State} (h : Keeps s0 s) : Keeps s0 (clockEdge s) := by
  unfold clockEdge
  repeat' first
    | (with_reducible assumption) | intro _ | (with_reducible apply Keeps.ite) | (with_reducible apply Keeps.ite_fst)
    | (with_reducible apply tbEdge_keeps) | (with_reducible apply State.later_keeps) | (with_reducible apply gtPeriod_keeps)
    | (with_reducible apply gtLfTick_keeps) | (with_reducible apply Keeps.fold) | extract_lets | split | (dsimp -zeta only)
    | (dsimp +zetaDelta -zeta only)

end Sys2Proof.Machine
end

