-- ==== Sys2Proof/Laws/KeepsHostOps.lean ====
section
/-!
SUPPORT. What the operations of Machine/HostOps.lean keep (`Keeps`).
-/

namespace Sys2Proof.Machine

set_option linter.unusedVariables false
set_option linter.unusedTactic false
set_option linter.unreachableTactic false

theorem viewActive_keeps {s0 s : State} (h : Keeps s0 s) : Keeps s0 (viewActive s) := by
  unfold viewActive
  repeat' first
    | (with_reducible assumption) | intro _ | (with_reducible apply State.setBit_keeps) | (with_reducible apply Keeps.fold)
    | extract_lets | split | (dsimp -zeta only) | (dsimp +zetaDelta -zeta only)

theorem sendMsix_keeps {s0 s : State} (h : Keeps s0 s) (v : Nat) : Keeps s0 (sendMsix s v) := by
  unfold sendMsix
  repeat' first
    | (with_reducible assumption) | intro _ | (with_reducible apply Keeps.ite) | (with_reducible apply Keeps.ite_fst)
    | (with_reducible apply State.putPcie_keeps) | (with_reducible apply State.emit_keeps) | (with_reducible apply cellsWf_nil)
    | (with_reducible apply flashProgram_wf) | (with_reducible apply flashClear_wf) | (with_reducible apply setBytes_wf)
    | (with_reducible apply cellsWf_filter) | (with_reducible apply cellsWf_write) | (with_reducible apply And.intro)
    | (with_reducible exact wf_regs (by assumption)) | (with_reducible exact wf_flash (by assumption))
    | (with_reducible exact wf_window (by assumption)) | (with_reducible exact wf_ncs (by assumption))
    | (with_reducible exact wf_eht (by assumption)) | (with_reducible exact wf_hb (by assumption))
    | (with_reducible exact wf_shadow (by assumption)) | (with_reducible exact wf_msix (by assumption))
    | (with_reducible exact wf_iram (by assumption)) | (with_reducible exact wf_dram (by assumption)) | extract_lets | split
    | (dsimp -zeta only) | (dsimp +zetaDelta -zeta only)

theorem flushVector_keeps {s0 s : State} (h : Keeps s0 s) (v : Nat) : Keeps s0 (flushVector s v) := by
  unfold flushVector
  repeat' first
    | (with_reducible assumption) | intro _ | (with_reducible apply Keeps.ite) | (with_reducible apply Keeps.ite_fst)
    | (with_reducible apply State.putPcie_keeps) | (with_reducible apply State.emit_keeps) | (with_reducible apply cellsWf_nil)
    | (with_reducible apply flashProgram_wf) | (with_reducible apply flashClear_wf) | (with_reducible apply setBytes_wf)
    | (with_reducible apply cellsWf_filter) | (with_reducible apply cellsWf_write) | (with_reducible apply And.intro)
    | (with_reducible exact wf_regs (by assumption)) | (with_reducible exact wf_flash (by assumption))
    | (with_reducible exact wf_window (by assumption)) | (with_reducible exact wf_ncs (by assumption))
    | (with_reducible exact wf_eht (by assumption)) | (with_reducible exact wf_hb (by assumption))
    | (with_reducible exact wf_shadow (by assumption)) | (with_reducible exact wf_msix (by assumption))
    | (with_reducible exact wf_iram (by assumption)) | (with_reducible exact wf_dram (by assumption)) | extract_lets | split
    | (dsimp -zeta only) | (dsimp +zetaDelta -zeta only)

theorem advanceHead_keeps {s0 s : State} (h : Keeps s0 s) (q : Nat) : Keeps s0 (advanceHead s q) := by
  unfold advanceHead
  repeat' first
    | (with_reducible assumption) | intro _ | (with_reducible apply State.bumpWrap_keeps)
    | (with_reducible apply State.bump_keeps) | (with_reducible apply State.emit_keeps) | extract_lets | split
    | (dsimp -zeta only) | (dsimp +zetaDelta -zeta only)

theorem dropHostFrame_keeps {s0 s : State} (h : Keeps s0 s) (q : Nat) : Keeps s0 (dropHostFrame s q) := by
  unfold dropHostFrame
  repeat' first
    | (with_reducible assumption) | intro _ | (with_reducible apply postEvent_keeps) | (with_reducible apply State.bump_keeps)
    | extract_lets | split | (dsimp -zeta only) | (dsimp +zetaDelta -zeta only)

theorem deliverHost_keeps {s0 s : State} (h : Keeps s0 s) (n : Nat) (f : RxFrame) (cls : Nat) (data : List Byte) (written : Bool) :
    Keeps s0 (deliverHost s n f cls data written) := by
  unfold deliverHost
  repeat' first
    | (with_reducible assumption) | intro _ | (with_reducible apply Keeps.ite) | (with_reducible apply Keeps.ite_fst)
    | (with_reducible apply dropHostFrame_keeps) | (with_reducible apply State.emit_keeps)
    | (with_reducible apply advanceHead_keeps) | extract_lets | split | (dsimp -zeta only) | (dsimp +zetaDelta -zeta only)

theorem hostUnicast_keeps {s0 s : State} (h : Keeps s0 s) (n cls : Nat) (data : List Byte) :
    Keeps s0 (hostUnicast s n cls data).1 := by
  unfold hostUnicast
  repeat' first
    | (with_reducible assumption) | intro _ | (with_reducible apply Keeps.ite) | (with_reducible apply Keeps.ite_fst)
    | (with_reducible apply policeCrimson_keeps) | (with_reducible apply sendDown_keeps)
    | (with_reducible refine Keeps.of_pair (by assumption) ?_) | extract_lets | split | (dsimp -zeta only)
    | (dsimp +zetaDelta -zeta only)

theorem hostGroup_keeps {s0 s : State} (h : Keeps s0 s) (g cls : Nat) (data : List Byte) : Keeps s0 (hostGroup s g cls data).1 := by
  unfold hostGroup
  repeat' first
    | (with_reducible assumption) | intro _ | (with_reducible apply Keeps.ite) | (with_reducible apply Keeps.ite_fst)
    | (with_reducible apply policeCrimson_keeps) | (with_reducible apply sendGroup_keeps)
    | (with_reducible refine Keeps.of_pair (by assumption) ?_) | extract_lets | split | (dsimp -zeta only)
    | (dsimp +zetaDelta -zeta only)

theorem handleDescriptor_keeps {s0 s : State} (h : Keeps s0 s) (d data : List Byte) (readOk : Bool) :
    Keeps s0 (handleDescriptor s d data readOk).1 := by
  unfold handleDescriptor
  repeat' first
    | (with_reducible assumption) | intro _ | (with_reducible apply Keeps.ite) | (with_reducible apply Keeps.ite_fst)
    | (with_reducible apply hostGroup_keeps) | (with_reducible apply hostUnicast_keeps) | extract_lets | split
    | (dsimp -zeta only) | (dsimp +zetaDelta -zeta only)

end Sys2Proof.Machine
end

