-- ==== Sys2Proof/Laws/KeepsEthOps.lean ====
section
/-!
SUPPORT. What the operations of Machine/EthOps.lean keep (`Keeps`).
-/

namespace Sys2Proof.Machine

set_option linter.unusedVariables false
set_option linter.unusedTactic false
set_option linter.unreachableTactic false

theorem setEthPort_keeps {s0 s : State} (h : Keeps s0 s) (e : Nat) (x : EthPortState) : Keeps s0 (setEthPort s e x) := by
  unfold setEthPort
  repeat' first
    | (with_reducible assumption) | intro _ | (with_reducible apply State.putEth_keeps) | extract_lets | split
    | (dsimp -zeta only) | (dsimp +zetaDelta -zeta only)

theorem putEgress_keeps {s0 s : State} (h : Keeps s0 s) (e c : Nat) (l : List Nat) : Keeps s0 (putEgress s e c l) := by
  unfold putEgress
  repeat' first
    | (with_reducible assumption) | intro _ | (with_reducible apply State.putSched_keeps) | (with_reducible apply egress_keeps)
    | extract_lets | split | (dsimp -zeta only) | (dsimp +zetaDelta -zeta only)

theorem accrueClass_keeps {s0 s : State} (h : Keeps s0 s) (e c : Nat) : Keeps s0 (accrueClass s e c) := by
  unfold accrueClass
  repeat' first
    | (with_reducible assumption) | intro _ | (with_reducible apply Keeps.ite) | (with_reducible apply Keeps.ite_fst)
    | (with_reducible apply State.putEth_keeps) | (with_reducible apply State.setI_keeps) | extract_lets | split
    | (dsimp -zeta only) | (dsimp +zetaDelta -zeta only)

theorem accrue_keeps {s0 s : State} (h : Keeps s0 s) (e : Nat) : Keeps s0 (accrue s e) := by
  unfold accrue
  repeat' first
    | (with_reducible assumption) | intro _ | (with_reducible apply accrueClass_keeps) | (with_reducible apply Keeps.fold)
    | extract_lets | split | (dsimp -zeta only) | (dsimp +zetaDelta -zeta only)

theorem firstBit_keeps {s0 s : State} (h : Keeps s0 s) (e h : Nat) : Keeps s0 (firstBit s e h) := by
  unfold firstBit
  repeat' first
    | (with_reducible assumption) | intro _ | (with_reducible apply Keeps.ite) | (with_reducible apply Keeps.ite_fst)
    | (with_reducible apply setEthPort_keeps) | (with_reducible apply State.emit_keeps)
    | (with_reducible apply sampleDelay_keeps) | (with_reducible apply crimsonCheck_keeps) | extract_lets | split
    | (dsimp -zeta only) | (dsimp +zetaDelta -zeta only)

theorem chooseEgress_keeps {s0 : State} : ∀ (fuel e : Nat) {s : State}, Keeps s0 s → Keeps s0 (chooseEgress fuel e s)
  | 0, _, _, h => h
  | n + 1, e, s, h => by
    unfold chooseEgress
    repeat' first
      | (with_reducible assumption) | intro _ | (with_reducible apply Keeps.ite) | (with_reducible apply chooseEgress_keeps n)
      | (with_reducible apply nextClass_keeps) | (with_reducible apply putEgress_keeps)
      | (with_reducible apply consumePoison_keeps) | (with_reducible apply State.putEth_keeps)
      | (with_reducible apply firstBit_keeps) | extract_lets | split | (dsimp -zeta only)

theorem tryPreempt_keeps {s0 s : State} (h : Keeps s0 s) (e : Nat) : Keeps s0 (tryPreempt s e) := by
  unfold tryPreempt
  repeat' first
    | (with_reducible assumption) | intro _ | (with_reducible apply Keeps.ite) | (with_reducible apply Keeps.ite_fst)
    | (with_reducible apply setEthPort_keeps) | (with_reducible apply State.bump_keeps) | (with_reducible apply firstBit_keeps)
    | (with_reducible apply putEgress_keeps) | extract_lets | split | (dsimp -zeta only) | (dsimp +zetaDelta -zeta only)

theorem startEgress_keeps {s0 s : State} (h : Keeps s0 s) (e : Nat) : Keeps s0 (startEgress s e) := by
  unfold startEgress
  repeat' first
    | (with_reducible assumption) | intro _ | (with_reducible apply Keeps.ite) | (with_reducible apply Keeps.ite_fst)
    | (with_reducible apply accrue_keeps) | (with_reducible apply tryPreempt_keeps) | (with_reducible apply setEthPort_keeps)
    | (with_reducible apply chooseEgress_keeps) | extract_lets | split | (dsimp -zeta only) | (dsimp +zetaDelta -zeta only)

theorem egress_keeps {s0 s : State} (h : Keeps s0 s) (e : Nat) (f : EgressFrame) : Keeps s0 (egress s e f) := by
  unfold egress
  repeat' first
    | (with_reducible assumption) | intro _ | (with_reducible apply accrue_keeps) | (with_reducible apply State.putEth_keeps)
    | (with_reducible apply startEgress_keeps) | (with_reducible apply putEgress_keeps) | extract_lets | split
    | (dsimp -zeta only) | (dsimp +zetaDelta -zeta only)

theorem dropPort_keeps {s0 s : State} (h : Keeps s0 s) (e : Nat) : Keeps s0 (dropPort s e) := by
  unfold dropPort
  repeat' first
    | (with_reducible assumption) | intro _ | (with_reducible apply Keeps.ite) | (with_reducible apply Keeps.ite_fst)
    | (with_reducible apply putEgress_keeps) | (with_reducible apply accrue_keeps) | (with_reducible apply State.putEth_keeps)
    | (with_reducible apply setEthPort_keeps) | (with_reducible apply State.bumpBy_keeps) | (with_reducible apply Keeps.fold)
    | extract_lets | split | (dsimp -zeta only) | (dsimp +zetaDelta -zeta only)

theorem portDown_keeps {s0 s : State} (h : Keeps s0 s) (e cause : Nat) : Keeps s0 (portDown s e cause) := by
  unfold portDown
  repeat' first
    | (with_reducible assumption) | intro _ | (with_reducible apply dropPort_keeps) | (with_reducible apply postEvent_keeps)
    | (with_reducible apply State.set_keeps) | extract_lets | split | (dsimp -zeta only) | (dsimp +zetaDelta -zeta only)

theorem sendEthernet_keeps {s0 s : State} (h : Keeps s0 s) (cls : Nat) (packet : List Byte) (decoded : Nat) :
    Keeps s0 (sendEthernet s cls packet decoded) := by
  unfold sendEthernet
  repeat' first
    | (with_reducible assumption) | intro _ | (with_reducible apply Keeps.ite) | (with_reducible apply Keeps.ite_fst)
    | (with_reducible apply State.bump_keeps) | (with_reducible apply egress_keeps) | extract_lets | split | (dsimp -zeta only)
    | (dsimp +zetaDelta -zeta only)

theorem toControlCores_keeps {s0 s : State} (h : Keeps s0 s) (data : List Byte) (stamp : Nat) :
    Keeps s0 (toControlCores s data stamp) := by
  unfold toControlCores
  repeat' first
    | (with_reducible assumption) | intro _ | (with_reducible apply pushItem_keeps) | extract_lets | split | (dsimp -zeta only)
    | (dsimp +zetaDelta -zeta only)

theorem nodeOfAddr_keeps {s0 s : State} (h : Keeps s0 s) (d : Nat) : Keeps s0 (nodeOfAddr s d).1 := by
  unfold nodeOfAddr
  repeat' first
    | (with_reducible assumption) | intro _ | (with_reducible apply Keeps.ite) | (with_reducible apply Keeps.ite_fst)
    | (with_reducible apply ehtLookup_keeps) | extract_lets | split | (dsimp -zeta only) | (dsimp +zetaDelta -zeta only)

theorem takeTag_keeps {s0 s : State} (h : Keeps s0 s) (l : List (List Byte)) : Keeps s0 (takeTag s l) := by
  unfold takeTag
  repeat' first
    | (with_reducible assumption) | intro _ | (with_reducible apply Keeps.ite) | (with_reducible apply Keeps.ite_fst)
    | (with_reducible apply State.putEth_keeps) | extract_lets | split | (dsimp -zeta only) | (dsimp +zetaDelta -zeta only)

theorem sendPacket_keeps {s0 s : State} (h : Keeps s0 s) (n cls : Nat) (p : List Byte) (stamp : Option Nat) :
    Keeps s0 (sendPacket s n cls p stamp) := by
  unfold sendPacket
  repeat' first
    | (with_reducible assumption) | intro _ | (with_reducible apply Keeps.ite) | (with_reducible apply Keeps.ite_fst)
    | (with_reducible apply routeFailed_keeps) | (with_reducible apply consumeLine_keeps)
    | (with_reducible apply State.bump_keeps) | (with_reducible apply enqueueDown_keeps) | (with_reducible apply takeTag_keeps)
    | (with_reducible apply Keeps.fold) | (with_reducible refine Keeps.of_pair (by assumption) ?_) | extract_lets | split
    | (dsimp -zeta only) | (dsimp +zetaDelta -zeta only)

theorem sendToGroup_keeps {s0 s : State} (h : Keeps s0 s) (g cls : Nat) (p : List Byte) : Keeps s0 (sendToGroup s g cls p) := by
  unfold sendToGroup
  repeat' first
    | (with_reducible assumption) | intro _ | (with_reducible apply sendGroup_keeps) | (with_reducible apply takeTag_keeps)
    | (with_reducible apply Keeps.fold) | extract_lets | split | (dsimp -zeta only) | (dsimp +zetaDelta -zeta only)

theorem downlinkPacket_keeps {s0 s : State} (h : Keeps s0 s) (cls : Nat) (p : List Byte) (len stamp : Nat) :
    Keeps s0 (downlinkPacket s cls p len stamp) := by
  unfold downlinkPacket
  repeat' first
    | (with_reducible assumption) | intro _ | (with_reducible apply Keeps.ite) | (with_reducible apply Keeps.ite_fst)
    | (with_reducible apply policeCrimson_keeps) | (with_reducible apply toControlCores_keeps)
    | (with_reducible apply State.bump_keeps) | (with_reducible apply sampleDelay_keeps)
    | (with_reducible apply sendToGroup_keeps) | (with_reducible apply nodeOfAddr_keeps)
    | (with_reducible apply sendPacket_keeps) | (with_reducible refine Keeps.of_pair (by assumption) ?_) | extract_lets | split
    | (dsimp -zeta only) | (dsimp +zetaDelta -zeta only)

theorem putContexts_keeps {s0 s : State} (h : Keeps s0 s) (l : List Reassembly) : Keeps s0 (putContexts s l) := by
  unfold putContexts
  repeat' first
    | (with_reducible assumption) | intro _ | (with_reducible apply State.putEth_keeps) | (with_reducible apply State.set_keeps)
    | extract_lets | split | (dsimp -zeta only) | (dsimp +zetaDelta -zeta only)

theorem freeContext_keeps {s0 s : State} (h : Keeps s0 s) (node tag size : Nat) : Keeps s0 (freeContext s node tag size) := by
  unfold freeContext
  repeat' first
    | (with_reducible assumption) | intro _ | (with_reducible apply putContexts_keeps) | extract_lets | split
    | (dsimp -zeta only) | (dsimp +zetaDelta -zeta only)

theorem reassemble_keeps {s0 s : State} (h : Keeps s0 s) (node tag size at_ : Nat) (data : List Byte) :
    Keeps s0 (reassemble s node tag size at_ data).1 := by
  unfold reassemble
  repeat' first
    | (with_reducible assumption) | intro _ | (with_reducible apply Keeps.ite) | (with_reducible apply Keeps.ite_fst)
    | (with_reducible apply freeContext_keeps) | (with_reducible apply State.bump_keeps)
    | (with_reducible apply putContexts_keeps) | (with_reducible apply Keeps.foldl_fst) | extract_lets | split
    | (dsimp -zeta only) | (dsimp +zetaDelta -zeta only)

theorem policeUplink_keeps {s0 s : State} (h : Keeps s0 s) (n cls len : Nat) : Keeps s0 (policeUplink s n cls len).1 := by
  unfold policeUplink
  repeat' first
    | (with_reducible assumption) | intro _ | (with_reducible apply Keeps.ite) | (with_reducible apply Keeps.ite_fst)
    | (with_reducible apply policeCrimson_keeps) | (with_reducible apply setLineField_keeps)
    | (with_reducible apply State.bump_keeps) | extract_lets | split | (dsimp -zeta only) | (dsimp +zetaDelta -zeta only)

theorem uplinkPacket_keeps {s0 s : State} (h : Keeps s0 s) (n len decoded : Nat) (p : List Byte) :
    Keeps s0 (uplinkPacket s n len decoded p) := by
  unfold uplinkPacket
  repeat' first
    | (with_reducible assumption) | intro _ | (with_reducible apply Keeps.ite) | (with_reducible apply Keeps.ite_fst)
    | (with_reducible apply State.bump_keeps) | (with_reducible apply policeUplink_keeps)
    | (with_reducible apply toControlCores_keeps) | (with_reducible apply downlinkPacket_keeps)
    | (with_reducible apply sendEthernet_keeps) | (with_reducible refine Keeps.of_pair (by assumption) ?_) | extract_lets
    | split | (dsimp -zeta only) | (dsimp +zetaDelta -zeta only)

theorem uplinkPayload_keeps {s0 s : State} (h : Keeps s0 s) (n len decoded : Nat) (l : List Byte) :
    Keeps s0 (uplinkPayload s n len decoded l) := by
  unfold uplinkPayload
  repeat' first
    | (with_reducible assumption) | intro _ | (with_reducible apply Keeps.ite) | (with_reducible apply Keeps.ite_fst)
    | (with_reducible apply uplinkPacket_keeps) | (with_reducible apply State.bump_keeps)
    | (with_reducible apply reassemble_keeps) | (with_reducible refine Keeps.of_pair (by assumption) ?_) | extract_lets | split
    | (dsimp -zeta only) | (dsimp +zetaDelta -zeta only)

end Sys2Proof.Machine
end

