-- ==== Sys2Proof/Laws/KeepsDriftOps.lean ====
section
/-!
SUPPORT. What the operations of Machine/DriftOps.lean keep (`Keeps`).
-/

namespace Sys2Proof.Machine

set_option linter.unusedVariables false
set_option linter.unusedTactic false
set_option linter.unreachableTactic false

theorem putCache_keeps {s0 s : State} (h : Keeps s0 s) (l : List (Nat × FitEntry)) : Keeps s0 (putCache s l) := by
  unfold putCache
  repeat' first
    | (with_reducible assumption) | intro _ | (with_reducible apply State.putDrift_keeps)
    | (with_reducible apply State.set_keeps) | extract_lets | split | (dsimp -zeta only) | (dsimp +zetaDelta -zeta only)

theorem putFit_keeps {s0 s : State} (h : Keeps s0 s) (n : Nat) (f : FitEntry) : Keeps s0 (putFit s n f) := by
  unfold putFit
  repeat' first
    | (with_reducible assumption) | intro _ | (with_reducible apply putCache_keeps) | extract_lets | split | (dsimp -zeta only)
    | (dsimp +zetaDelta -zeta only)

theorem setFit_keeps {s0 s : State} (h : Keeps s0 s) (n : Nat) (f : FitEntry) : Keeps s0 (setFit s n f) := by
  unfold setFit
  repeat' first
    | (with_reducible assumption) | intro _ | (with_reducible apply Keeps.ite) | (with_reducible apply Keeps.ite_fst)
    | (with_reducible apply putCache_keeps) | extract_lets | split | (dsimp -zeta only) | (dsimp +zetaDelta -zeta only)

theorem sendAgreement_keeps {s0 s : State} (h : Keeps s0 s) (n k : Nat) (clamped : Bool) :
    Keeps s0 (sendAgreement s n k clamped) := by
  unfold sendAgreement
  repeat' first
    | (with_reducible assumption) | intro _ | (with_reducible apply Keeps.ite) | (with_reducible apply Keeps.ite_fst)
    | (with_reducible apply sendDirect_keeps) | (with_reducible apply setFit_keeps)
    | (with_reducible apply State.putDrift_keeps) | (with_reducible apply State.bump_keeps)
    | (with_reducible refine Keeps.of_pair (by assumption) ?_) | extract_lets | split | (dsimp -zeta only)
    | (dsimp +zetaDelta -zeta only)

theorem considerAgreement_keeps {s0 s : State} (h : Keeps s0 s) (n : Nat) : Keeps s0 (considerAgreement s n) := by
  unfold considerAgreement
  repeat' first
    | (with_reducible assumption) | intro _ | (with_reducible apply Keeps.ite) | (with_reducible apply Keeps.ite_fst)
    | (with_reducible apply sendAgreement_keeps) | extract_lets | split | (dsimp -zeta only) | (dsimp +zetaDelta -zeta only)

theorem noteChange_keeps {s0 s : State} (h : Keeps s0 s) (n : Nat) (was : Option (Nat × Nat)) : Keeps s0 (noteChange s n was) := by
  unfold noteChange
  repeat' first
    | (with_reducible assumption) | intro _ | (with_reducible apply Keeps.ite) | (with_reducible apply Keeps.ite_fst)
    | (with_reducible apply State.putDrift_keeps) | extract_lets | split | (dsimp -zeta only) | (dsimp +zetaDelta -zeta only)

theorem adoptAgreement_keeps {s0 s : State} (h : Keeps s0 s) (n : Nat) (a : Agreement) : Keeps s0 (adoptAgreement s n a) := by
  unfold adoptAgreement
  repeat' first
    | (with_reducible assumption) | intro _ | (with_reducible apply noteChange_keeps) | (with_reducible apply writeLine_keeps)
    | (with_reducible apply State.putDrift_keeps) | (with_reducible apply State.putSched_keeps) | extract_lets | split
    | (dsimp -zeta only) | (dsimp +zetaDelta -zeta only)

theorem agreementFreed_keeps {s0 s : State} (h : Keeps s0 s) (n : Nat) : Keeps s0 (agreementFreed s n) := by
  unfold agreementFreed
  repeat' first
    | (with_reducible assumption) | intro _ | (with_reducible apply considerAgreement_keeps) | extract_lets | split
    | (dsimp -zeta only) | (dsimp +zetaDelta -zeta only)

theorem agreementAcked_keeps {s0 s : State} (h : Keeps s0 s) (n : Nat) : Keeps s0 (agreementAcked s n) := by
  unfold agreementAcked
  repeat' first
    | (with_reducible assumption) | intro _ | (with_reducible apply agreementFreed_keeps)
    | (with_reducible apply adoptAgreement_keeps) | (with_reducible apply State.putDrift_keeps) | extract_lets | split
    | (dsimp -zeta only) | (dsimp +zetaDelta -zeta only)

theorem agreementSettled_keeps {s0 s : State} (h : Keeps s0 s) (n asn : Nat) : Keeps s0 (agreementSettled s n asn) := by
  unfold agreementSettled
  repeat' first
    | (with_reducible assumption) | intro _ | (with_reducible apply Keeps.ite) | (with_reducible apply Keeps.ite_fst)
    | (with_reducible apply considerAgreement_keeps) | (with_reducible apply State.putDrift_keeps)
    | (with_reducible apply adoptAgreement_keeps) | extract_lets | split | (dsimp -zeta only) | (dsimp +zetaDelta -zeta only)

theorem forgetDrift_keeps {s0 s : State} (h : Keeps s0 s) (n : Nat) : Keeps s0 (forgetDrift s n) := by
  unfold forgetDrift
  repeat' first
    | (with_reducible assumption) | intro _ | (with_reducible apply putCache_keeps)
    | (with_reducible apply State.putDrift_keeps) | extract_lets | split | (dsimp -zeta only) | (dsimp +zetaDelta -zeta only)

theorem invalidate_keeps {s0 s : State} (h : Keeps s0 s) (n : Nat) (f : FitEntry) : Keeps s0 (invalidate s n f) := by
  unfold invalidate
  repeat' first
    | (with_reducible assumption) | intro _ | (with_reducible apply Keeps.ite) | (with_reducible apply Keeps.ite_fst)
    | (with_reducible apply setFit_keeps) | (with_reducible apply considerAgreement_keeps)
    | (with_reducible apply State.bump_keeps) | extract_lets | split | (dsimp -zeta only) | (dsimp +zetaDelta -zeta only)

theorem observe_keeps {s0 s : State} (h : Keeps s0 s) (o : Observation) : Keeps s0 (observe s o) := by
  unfold observe
  repeat' first
    | (with_reducible assumption) | intro _ | (with_reducible apply Keeps.ite) | (with_reducible apply Keeps.ite_fst)
    | (with_reducible apply postEvent_keeps) | (with_reducible apply State.bump_keeps)
    | (with_reducible apply State.putDrift_keeps) | extract_lets | split | (dsimp -zeta only) | (dsimp +zetaDelta -zeta only)

theorem fitObservation_keeps {s0 s : State} (h : Keeps s0 s) (o : Observation) : Keeps s0 (fitObservation s o) := by
  unfold fitObservation
  repeat' first
    | (with_reducible assumption) | intro _ | (with_reducible apply Keeps.ite) | (with_reducible apply Keeps.ite_fst)
    | (with_reducible apply putFit_keeps) | (with_reducible apply State.bumpWrap_keeps) | (with_reducible apply writeLine_keeps)
    | (with_reducible apply State.bump_keeps) | (with_reducible apply considerAgreement_keeps) | extract_lets | split
    | (dsimp -zeta only) | (dsimp +zetaDelta -zeta only)

end Sys2Proof.Machine
end

