-- ==== Sys2Proof/Laws/KeepsIndigoOps.lean ====
section
/-!
SUPPORT. What the operations of Machine/IndigoOps.lean keep (`Keeps`).
-/

namespace Sys2Proof.Machine

set_option linter.unusedVariables false
set_option linter.unusedTactic false
set_option linter.unreachableTactic false

theorem setMapEntry_keeps {s0 s : State} (h : Keeps s0 s) (n : Nat) (e : MapEntry) : Keeps s0 (setMapEntry s n e) := by
  unfold setMapEntry
  repeat' first
    | (with_reducible assumption) | intro _ | (with_reducible apply viewImap_keeps) | (with_reducible apply State.putImap_keeps)
    | extract_lets | split | (dsimp -zeta only) | (dsimp +zetaDelta -zeta only)

theorem nextMsn_keeps {s0 s : State} (h : Keeps s0 s) : Keeps s0 (nextMsn s).1 := by
  unfold nextMsn
  repeat' first
    | (with_reducible assumption) | intro _ | (with_reducible apply State.putImap_keeps)
    | (with_reducible apply State.set_keeps) | (with_reducible apply State.bump_keeps) | extract_lets | split
    | (dsimp -zeta only) | (dsimp +zetaDelta -zeta only)

theorem queueMapFrame_keeps {s0 s : State} (h : Keeps s0 s) (n msn rate : Nat) (clear : Bool) (map : Nat) :
    Keeps s0 (queueMapFrame s n msn rate clear map) := by
  unfold queueMapFrame
  repeat' first
    | (with_reducible assumption) | intro _ | (with_reducible apply sendDirect_keeps) | extract_lets | split
    | (dsimp -zeta only) | (dsimp +zetaDelta -zeta only)

theorem clearMap_keeps {s0 s : State} (h : Keeps s0 s) (n : Nat) : Keeps s0 (clearMap s n) := by
  unfold clearMap
  repeat' first
    | (with_reducible assumption) | intro _ | (with_reducible apply nextMsn_keeps) | (with_reducible apply freeMapEntry_keeps)
    | (with_reducible apply setLineField_keeps) | (with_reducible apply queueMapFrame_keeps)
    | (with_reducible refine Keeps.of_pair (by assumption) ?_) | extract_lets | split | (dsimp -zeta only)
    | (dsimp +zetaDelta -zeta only)

theorem mapTableFull_keeps {s0 s : State} (h : Keeps s0 s) (n : Nat) : Keeps s0 (mapTableFull s n) := by
  unfold mapTableFull
  repeat' first
    | (with_reducible assumption) | intro _ | (with_reducible apply postEvent_keeps) | (with_reducible apply clearMap_keeps)
    | (with_reducible apply State.bump_keeps) | extract_lets | split | (dsimp -zeta only) | (dsimp +zetaDelta -zeta only)

theorem pendMap_keeps {s0 s : State} (h : Keeps s0 s) (n map rate : Nat) : Keeps s0 (pendMap s n map rate) := by
  unfold pendMap
  repeat' first
    | (with_reducible assumption) | intro _ | (with_reducible apply Keeps.ite) | (with_reducible apply Keeps.ite_fst)
    | (with_reducible apply nextMsn_keeps) | (with_reducible apply queueMapFrame_keeps)
    | (with_reducible apply setMapEntry_keeps) | (with_reducible apply mapTableFull_keeps)
    | (with_reducible refine Keeps.of_pair (by assumption) ?_) | extract_lets | split | (dsimp -zeta only)
    | (dsimp +zetaDelta -zeta only)

theorem issueMap_keeps {s0 s : State} (h : Keeps s0 s) (n : Nat) (codes : List Nat) : Keeps s0 (issueMap s n codes) := by
  unfold issueMap
  repeat' first
    | (with_reducible assumption) | intro _ | (with_reducible apply Keeps.ite) | (with_reducible apply Keeps.ite_fst)
    | (with_reducible apply State.bump_keeps) | (with_reducible apply clearMap_keeps) | (with_reducible apply pendMap_keeps)
    | extract_lets | split | (dsimp -zeta only) | (dsimp +zetaDelta -zeta only)

theorem reissueMap_keeps {s0 s : State} (h : Keeps s0 s) (n : Nat) : Keeps s0 (reissueMap s n) := by
  unfold reissueMap
  repeat' first
    | (with_reducible assumption) | intro _ | (with_reducible apply Keeps.ite) | (with_reducible apply Keeps.ite_fst)
    | (with_reducible apply clearMap_keeps) | (with_reducible apply pendMap_keeps) | extract_lets | split | (dsimp -zeta only)
    | (dsimp +zetaDelta -zeta only)

theorem learnDecide_keeps {s0 s : State} (h : Keeps s0 s) (n : Nat) (e : MapEntry) : Keeps s0 (learnDecide s n e) := by
  unfold learnDecide
  repeat' first
    | (with_reducible assumption) | intro _ | (with_reducible apply Keeps.ite) | (with_reducible apply Keeps.ite_fst)
    | (with_reducible apply issueMap_keeps) | (with_reducible apply freeMapEntry_keeps) | extract_lets | split
    | (dsimp -zeta only) | (dsimp +zetaDelta -zeta only)

theorem learnTrailer_keeps {s0 s : State} (h : Keeps s0 s) (n : Nat) (trailer : List Byte) :
    Keeps s0 (learnTrailer s n trailer) := by
  unfold learnTrailer
  repeat' first
    | (with_reducible assumption) | intro _ | (with_reducible apply Keeps.ite) | (with_reducible apply Keeps.ite_fst)
    | (with_reducible apply learnDecide_keeps) | (with_reducible apply setMapEntry_keeps)
    | (with_reducible apply mapTableFull_keeps) | extract_lets | split | (dsimp -zeta only) | (dsimp +zetaDelta -zeta only)

theorem confirmMap_keeps {s0 s : State} (h : Keeps s0 s) (n : Nat) : Keeps s0 (confirmMap s n) := by
  unfold confirmMap
  repeat' first
    | (with_reducible assumption) | intro _ | (with_reducible apply Keeps.ite) | (with_reducible apply Keeps.ite_fst)
    | (with_reducible apply setMapEntry_keeps) | (with_reducible apply writeLine_keeps)
    | (with_reducible apply State.bump_keeps) | extract_lets | split | (dsimp -zeta only) | (dsimp +zetaDelta -zeta only)

theorem retryMap_keeps {s0 s : State} (h : Keeps s0 s) (n began : Nat) : Keeps s0 (retryMap s n began) := by
  unfold retryMap
  repeat' first
    | (with_reducible assumption) | intro _ | (with_reducible apply Keeps.ite) | (with_reducible apply Keeps.ite_fst)
    | (with_reducible apply postEvent_keeps) | (with_reducible apply freeMapEntry_keeps)
    | (with_reducible apply State.bump_keeps) | (with_reducible apply queueMapFrame_keeps)
    | (with_reducible apply setMapEntry_keeps) | extract_lets | split | (dsimp -zeta only) | (dsimp +zetaDelta -zeta only)

theorem mapFrameSent_keeps {s0 s : State} (h : Keeps s0 s) (n msn ended : Nat) : Keeps s0 (mapFrameSent s n msn ended) := by
  unfold mapFrameSent
  repeat' first
    | (with_reducible assumption) | intro _ | (with_reducible apply Keeps.ite) | (with_reducible apply Keeps.ite_fst)
    | (with_reducible apply setMapEntry_keeps) | extract_lets | split | (dsimp -zeta only) | (dsimp +zetaDelta -zeta only)

theorem mapHeard_keeps {s0 s : State} (h : Keeps s0 s) (n began : Nat) (trailer : List Byte) :
    Keeps s0 (mapHeard s n began trailer) := by
  unfold mapHeard
  repeat' first
    | (with_reducible assumption) | intro _ | (with_reducible apply Keeps.ite) | (with_reducible apply Keeps.ite_fst)
    | (with_reducible apply confirmMap_keeps) | (with_reducible apply retryMap_keeps)
    | (with_reducible apply State.putImap_keeps) | extract_lets | split | (dsimp -zeta only) | (dsimp +zetaDelta -zeta only)

end Sys2Proof.Machine
end

