-- ==== Sys2Proof/Laws/KeepsPsmOps.lean ====
section
/-!
SUPPORT. What the operations of Machine/PsmOps.lean keep (`Keeps`).
-/

namespace Sys2Proof.Machine

set_option linter.unusedVariables false
set_option linter.unusedTactic false
set_option linter.unreachableTactic false

theorem setExchange_keeps {s0 s : State} (h : Keeps s0 s) (n : Nat) (e : Exchange) : Keeps s0 (setExchange s n e) := by
  unfold setExchange
  repeat' first
    | (with_reducible assumption) | intro _ | (with_reducible apply State.putPsm_keeps) | extract_lets | split
    | (dsimp -zeta only) | (dsimp +zetaDelta -zeta only)

theorem planInterval_keeps {s0 s : State} (h : Keeps s0 s) (l : List WorkItem) : Keeps s0 (planInterval s l) := by
  unfold planInterval
  repeat' first
    | (with_reducible assumption) | intro _ | (with_reducible apply State.putPsm_keeps) | extract_lets | split
    | (dsimp -zeta only) | (dsimp +zetaDelta -zeta only)

theorem enterSolo_keeps {s0 s : State} (h : Keeps s0 s) (n : Nat) : Keeps s0 (enterSolo s n) := by
  unfold enterSolo
  repeat' first
    | (with_reducible assumption) | intro _ | (with_reducible apply State.putSched_keeps)
    | (with_reducible apply State.set_keeps) | extract_lets | split | (dsimp -zeta only) | (dsimp +zetaDelta -zeta only)

theorem controlFrame_keeps {s0 s : State} (h : Keeps s0 s) (n : Nat) (kind : FrameKind) (len : Nat) :
    Keeps s0 (controlFrame s n kind len).1 := by
  unfold controlFrame
  repeat' first
    | (with_reducible assumption) | intro _ | (with_reducible apply Keeps.ite) | (with_reducible apply Keeps.ite_fst)
    | (with_reducible apply checkExhausted_keeps) | (with_reducible apply takeCounter_keeps)
    | (with_reducible apply keyRequest_keeps) | (with_reducible apply storeFrame_keeps)
    | (with_reducible refine Keeps.of_pair (by assumption) ?_) | extract_lets | split | (dsimp -zeta only)
    | (dsimp +zetaDelta -zeta only)

theorem planAck_keeps {s0 s : State} (h : Keeps s0 s) (n dsn : Nat) (e : Int) (ended : Nat) :
    Keeps s0 (planAck s n dsn e ended) := by
  unfold planAck
  repeat' first
    | (with_reducible assumption) | intro _ | (with_reducible apply Keeps.ite) | (with_reducible apply Keeps.ite_fst)
    | (with_reducible apply controlFrame_keeps) | (with_reducible apply enterSolo_keeps)
    | (with_reducible apply removeFrame_keeps) | (with_reducible apply State.bump_keeps)
    | (with_reducible apply planInterval_keeps) | (with_reducible apply setExchange_keeps)
    | (with_reducible refine Keeps.of_pair (by assumption) ?_) | extract_lets | split | (dsimp -zeta only)
    | (dsimp +zetaDelta -zeta only)

theorem planFollowOn_keeps {s0 s : State} (h : Keeps s0 s) (n start : Nat) : Keeps s0 (planFollowOn s n start) := by
  unfold planFollowOn
  repeat' first
    | (with_reducible assumption) | intro _ | (with_reducible apply Keeps.ite) | (with_reducible apply Keeps.ite_fst)
    | (with_reducible apply State.bump_keeps) | (with_reducible apply nextDownlink_keeps)
    | (with_reducible apply takeVirtual_keeps) | (with_reducible apply State.setFrame_keeps)
    | (with_reducible apply planInterval_keeps) | (with_reducible apply setExchange_keeps)
    | (with_reducible refine Keeps.of_pair (by assumption) ?_) | extract_lets | split | (dsimp -zeta only)
    | (dsimp +zetaDelta -zeta only)

theorem missedPoll_keeps {s0 s : State} (h : Keeps s0 s) (n : Nat) (unionOnly : Bool) : Keeps s0 (missedPoll s n unionOnly) := by
  unfold missedPoll
  repeat' first
    | (with_reducible assumption) | intro _ | (with_reducible apply Keeps.ite) | (with_reducible apply Keeps.ite_fst)
    | (with_reducible apply State.bump_keeps) | (with_reducible apply writeLine_keeps) | (with_reducible apply postEvent_keeps)
    | (with_reducible apply loseNode_keeps) | extract_lets | split | (dsimp -zeta only) | (dsimp +zetaDelta -zeta only)

theorem replyWindowEnds_keeps {s0 s : State} (h : Keeps s0 s) (n : Nat) : Keeps s0 (replyWindowEnds s n) := by
  unfold replyWindowEnds
  repeat' first
    | (with_reducible assumption) | intro _ | (with_reducible apply Keeps.ite) | (with_reducible apply Keeps.ite_fst)
    | (with_reducible apply setExchange_keeps) | (with_reducible apply missedPoll_keeps) | extract_lets | split
    | (dsimp -zeta only) | (dsimp +zetaDelta -zeta only)

theorem nodeAckMissed_keeps {s0 s : State} (h : Keeps s0 s) (n : Nat) : Keeps s0 (nodeAckMissed s n) := by
  unfold nodeAckMissed
  repeat' first
    | (with_reducible assumption) | intro _ | (with_reducible apply Keeps.ite) | (with_reducible apply Keeps.ite_fst)
    | (with_reducible apply setExchange_keeps) | (with_reducible apply agreementFreed_keeps)
    | (with_reducible apply discardFrame_keeps) | (with_reducible apply State.putSched_keeps) | extract_lets | split
    | (dsimp -zeta only) | (dsimp +zetaDelta -zeta only)

theorem nodeAckHeard_keeps {s0 s : State} (h : Keeps s0 s) (n seq ended : Nat) : Keeps s0 (nodeAckHeard s n seq ended) := by
  unfold nodeAckHeard
  repeat' first
    | (with_reducible assumption) | intro _ | (with_reducible apply Keeps.ite) | (with_reducible apply Keeps.ite_fst)
    | (with_reducible apply setExchange_keeps) | (with_reducible apply removeFrame_keeps)
    | (with_reducible apply agreementAcked_keeps) | (with_reducible apply State.putSec_keeps)
    | (with_reducible apply planFollowOn_keeps) | extract_lets | split | (dsimp -zeta only) | (dsimp +zetaDelta -zeta only)

theorem firstSend_keeps {s0 s : State} (h : Keeps s0 s) (f : TxFrame) : Keeps s0 (firstSend s f) := by
  unfold firstSend
  repeat' first
    | (with_reducible assumption) | intro _ | (with_reducible apply Keeps.ite) | (with_reducible apply Keeps.ite_fst)
    | (with_reducible apply sampleDelay_keeps) | (with_reducible apply crimsonCheck_keeps) | extract_lets | split
    | (dsimp -zeta only) | (dsimp +zetaDelta -zeta only)

theorem noteBeacon_keeps {s0 s : State} (h : Keeps s0 s) : Keeps s0 (noteBeacon s) := by
  unfold noteBeacon
  repeat' first
    | (with_reducible assumption) | intro _ | (with_reducible apply Keeps.ite) | (with_reducible apply Keeps.ite_fst)
    | (with_reducible apply bootMs_keeps) | (with_reducible apply State.set_keeps) | extract_lets | split | (dsimp -zeta only)
    | (dsimp +zetaDelta -zeta only)

theorem frameSent_keeps {s0 s : State} (h : Keeps s0 s) (h ended : Nat) : Keeps s0 (frameSent s h ended) := by
  unfold frameSent
  repeat' first
    | (with_reducible assumption) | intro _ | (with_reducible apply Keeps.ite) | (with_reducible apply Keeps.ite_fst)
    | (with_reducible apply noteBeacon_keeps) | (with_reducible apply removeFrame_keeps)
    | (with_reducible apply State.bump_keeps) | (with_reducible apply setExchange_keeps)
    | (with_reducible apply planFollowOn_keeps) | (with_reducible apply State.setFrame_keeps)
    | (with_reducible apply firstSend_keeps) | (with_reducible apply mapFrameSent_keeps) | extract_lets | split
    | (dsimp -zeta only) | (dsimp +zetaDelta -zeta only)

end Sys2Proof.Machine
end

