-- ==== Sys2Proof/Laws/KeepsScheduling.lean ====
section
/-!
SUPPORT. What the operations of Machine/Scheduling.lean keep (`Keeps`).
-/

namespace Sys2Proof.Machine

set_option linter.unusedVariables false
set_option linter.unusedTactic false
set_option linter.unreachableTactic false

theorem drainCheck_keeps {s0 s : State} (h : Keeps s0 s) (first : Nat) : Keeps s0 (drainCheck s first) := by
  unfold drainCheck
  repeat' first
    | (with_reducible assumption) | intro _ | (with_reducible apply Keeps.ite) | (with_reducible apply Keeps.ite_fst)
    | (with_reducible apply postEvent_keeps) | (with_reducible apply State.set_keeps) | (with_reducible apply Keeps.fold)
    | extract_lets | split | (dsimp -zeta only) | (dsimp +zetaDelta -zeta only)

theorem drainPath_keeps {s0 s : State} (h : Keeps s0 s) (first p : Nat) : Keeps s0 (drainPath s first p) := by
  unfold drainPath
  repeat' first
    | (with_reducible assumption) | intro _ | (with_reducible apply Keeps.ite) | (with_reducible apply Keeps.ite_fst)
    | (with_reducible apply State.setPath_keeps) | extract_lets | split | (dsimp -zeta only) | (dsimp +zetaDelta -zeta only)

theorem adoptEpoch_keeps {s0 old : State} (h : Keeps s0 old) (number first : Nat) : Keeps s0 (adoptEpoch old number first) := by
  unfold adoptEpoch
  repeat' first
    | (with_reducible assumption) | intro _ | (with_reducible apply drainPath_keeps)
    | (with_reducible apply State.putSched_keeps) | (with_reducible apply State.putDrift_keeps)
    | (with_reducible apply calPreempt_keeps) | (with_reducible apply State.set_keeps) | (with_reducible apply Keeps.fold)
    | extract_lets | split | (dsimp -zeta only) | (dsimp +zetaDelta -zeta only)

theorem epochBarrier_keeps {s0 s : State} (h : Keeps s0 s) : Keeps s0 (epochBarrier s) := by
  unfold epochBarrier
  repeat' first
    | (with_reducible assumption) | intro _ | (with_reducible apply Keeps.ite) | (with_reducible apply Keeps.ite_fst)
    | (with_reducible apply giveLoad_keeps) | (with_reducible apply Keeps.fold) | extract_lets | split | (dsimp -zeta only)
    | (dsimp +zetaDelta -zeta only)

theorem switchEpoch_keeps {s0 s : State} (h : Keeps s0 s) (first : Nat) : Keeps s0 (switchEpoch s first) := by
  unfold switchEpoch
  repeat' first
    | (with_reducible assumption) | intro _ | (with_reducible apply epochBarrier_keeps)
    | (with_reducible apply adoptEpoch_keeps) | (with_reducible apply mirror_keeps) | (with_reducible apply postEvent_keeps)
    | (with_reducible apply viewTone_keeps) | (with_reducible apply Keeps.fold) | extract_lets | split | (dsimp -zeta only)
    | (dsimp +zetaDelta -zeta only)

theorem takeEpoch_keeps {s0 s : State} (h : Keeps s0 s) (number first : Nat) (fields : List (Nat × Nat)) :
    Keeps s0 (takeEpoch s number first fields) := by
  unfold takeEpoch
  repeat' first
    | (with_reducible assumption) | intro _ | (with_reducible apply Keeps.ite) | (with_reducible apply Keeps.ite_fst)
    | (with_reducible apply State.setWord_keeps) | (with_reducible apply State.set_keeps)
    | (with_reducible apply epochBarrier_keeps) | (with_reducible apply adoptEpoch_keeps)
    | (with_reducible apply postEvent_keeps) | (with_reducible apply Keeps.fold) | extract_lets | split | (dsimp -zeta only)
    | (dsimp +zetaDelta -zeta only)

theorem execScheduleEpochSwitch_keeps {s0 s : State} (h : Keeps s0 s) : Completes s0 (execScheduleEpochSwitch s) := by
  unfold execScheduleEpochSwitch
  repeat' first
    | (with_reducible assumption) | intro _ | (with_reducible apply Completes.next) | (with_reducible apply Completes.ite)
    | (with_reducible apply Keeps.ite) | (with_reducible apply Keeps.ite_fst) | (with_reducible apply done_keeps)
    | (with_reducible apply drainCheck_keeps) | (with_reducible apply switchEpoch_keeps) | extract_lets | split
    | (dsimp -zeta only) | (dsimp +zetaDelta -zeta only)

theorem execPathSchedWrite_keeps {s0 s : State} (h : Keeps s0 s) (path : Nat) (drain : Bool) :
    Completes s0 (execPathSchedWrite path drain s) := by
  unfold execPathSchedWrite
  repeat' first
    | (with_reducible assumption) | intro _ | (with_reducible apply Completes.next) | (with_reducible apply Completes.ite)
    | (with_reducible apply Keeps.ite) | (with_reducible apply Keeps.ite_fst) | (with_reducible apply done_keeps)
    | (with_reducible apply State.setBit_keeps) | (with_reducible apply State.set_keeps)
    | (with_reducible apply State.putSched_keeps) | extract_lets | split | (dsimp -zeta only) | (dsimp +zetaDelta -zeta only)

theorem execDepthSample_keeps {s0 s : State} (h : Keeps s0 s) : Completes s0 (execDepthSample s) := by
  unfold execDepthSample
  repeat' first
    | (with_reducible assumption) | intro _ | (with_reducible apply Completes.next) | (with_reducible apply Completes.ite)
    | (with_reducible apply Keeps.ite) | (with_reducible apply Keeps.ite_fst) | (with_reducible apply done_keeps)
    | (with_reducible apply State.set_keeps) | (with_reducible apply Keeps.fold) | extract_lets | split | (dsimp -zeta only)
    | (dsimp +zetaDelta -zeta only)

end Sys2Proof.Machine
end

