-- ==== Sys2Proof/Laws/KeepsPairOps.lean ====
section
/-!
SUPPORT. What the operations of Machine/PairOps.lean keep (`Keeps`).
-/

namespace Sys2Proof.Machine

set_option linter.unusedVariables false
set_option linter.unusedTactic false
set_option linter.unreachableTactic false

theorem setRole_keeps {s0 s : State} (h : Keeps s0 s) (role cause : Nat) : Keeps s0 (setRole s role cause) := by
  unfold setRole
  repeat' first
    | (with_reducible assumption) | intro _ | (with_reducible apply postEvent_keeps) | (with_reducible apply State.set_keeps)
    | extract_lets | split | (dsimp -zeta only) | (dsimp +zetaDelta -zeta only)

theorem cutEgress_keeps {s0 s : State} (h : Keeps s0 s) (e : Nat) : Keeps s0 (cutEgress s e) := by
  unfold cutEgress
  repeat' first
    | (with_reducible assumption) | intro _ | (with_reducible apply accrue_keeps) | (with_reducible apply State.putEth_keeps)
    | (with_reducible apply setEthPort_keeps) | (with_reducible apply State.bumpBy_keeps) | extract_lets | split
    | (dsimp -zeta only) | (dsimp +zetaDelta -zeta only)

theorem gateChanged_keeps {s0 s : State} (h : Keeps s0 s) (was : Bool) : Keeps s0 (gateChanged was s) := by
  unfold gateChanged
  repeat' first
    | (with_reducible assumption) | intro _ | (with_reducible apply Keeps.ite) | (with_reducible apply Keeps.ite_fst)
    | (with_reducible apply State.setBit_keeps) | (with_reducible apply cutEgress_keeps)
    | (with_reducible apply closeRadioGate_keeps) | (with_reducible apply startEgress_keeps) | (with_reducible apply Keeps.fold)
    | extract_lets | split | (dsimp -zeta only) | (dsimp +zetaDelta -zeta only)

theorem sendControl_keeps {s0 s : State} (h : Keeps s0 s) (r : MirrorRecord) : Keeps s0 (sendControl s r) := by
  unfold sendControl
  repeat' first
    | (with_reducible assumption) | intro _ | (with_reducible apply Keeps.ite) | (with_reducible apply Keeps.ite_fst)
    | (with_reducible apply sendRecord_keeps) | extract_lets | split | (dsimp -zeta only) | (dsimp +zetaDelta -zeta only)

theorem viewInterlock_keeps {s0 s : State} (h : Keeps s0 s) : Keeps s0 (viewInterlock s) := by
  unfold viewInterlock
  repeat' first
    | (with_reducible assumption) | intro _ | (with_reducible apply Keeps.ite) | (with_reducible apply Keeps.ite_fst)
    | (with_reducible apply State.setBit_keeps) | (with_reducible apply State.bump_keeps) | extract_lets | split
    | (dsimp -zeta only) | (dsimp +zetaDelta -zeta only)

theorem driveClaim_keeps {s0 s : State} (h : Keeps s0 s) : Keeps s0 (driveClaim s) := by
  unfold driveClaim
  repeat' first
    | (with_reducible assumption) | intro _ | (with_reducible apply State.putPair_keeps)
    | (with_reducible apply State.putSched_keeps) | (with_reducible apply gateChanged_keeps)
    | (with_reducible apply State.set_keeps) | extract_lets | split | (dsimp -zeta only) | (dsimp +zetaDelta -zeta only)

theorem releaseClaim_keeps {s0 s : State} (h : Keeps s0 s) : Keeps s0 (releaseClaim s) := by
  unfold releaseClaim
  repeat' first
    | (with_reducible assumption) | intro _ | (with_reducible apply gateChanged_keeps)
    | (with_reducible apply sendControl_keeps) | (with_reducible apply State.set_keeps) | extract_lets | split
    | (dsimp -zeta only) | (dsimp +zetaDelta -zeta only)

theorem clearSwitchover_keeps {s0 s : State} (h : Keeps s0 s) : Keeps s0 (clearSwitchover s) := by
  unfold clearSwitchover
  repeat' first
    | (with_reducible assumption) | intro _ | (with_reducible apply State.putPair_keeps)
    | (with_reducible apply State.set_keeps) | extract_lets | split | (dsimp -zeta only) | (dsimp +zetaDelta -zeta only)

theorem dropSync_keeps {s0 s : State} (h : Keeps s0 s) : Keeps s0 (dropSync s) := by
  unfold dropSync
  repeat' first
    | (with_reducible assumption) | intro _ | (with_reducible apply State.set_keeps)
    | (with_reducible apply State.putPair_keeps) | extract_lets | split | (dsimp -zeta only) | (dsimp +zetaDelta -zeta only)

theorem endClaim_keeps {s0 s : State} (h : Keeps s0 s) (cause : Nat) : Keeps s0 (endClaim s cause) := by
  unfold endClaim
  repeat' first
    | (with_reducible assumption) | intro _ | (with_reducible apply Keeps.ite) | (with_reducible apply Keeps.ite_fst)
    | (with_reducible apply clearSwitchover_keeps) | (with_reducible apply releaseClaim_keeps)
    | (with_reducible apply State.putPair_keeps) | (with_reducible apply setRole_keeps) | (with_reducible apply dropSync_keeps)
    | extract_lets | split | (dsimp -zeta only) | (dsimp +zetaDelta -zeta only)

theorem switchDone_keeps {s0 s : State} (h : Keeps s0 s) (w : Switchover) (us : Nat) : Keeps s0 (switchDone s w us) := by
  unfold switchDone
  repeat' first
    | (with_reducible assumption) | intro _ | (with_reducible apply State.set_keeps)
    | (with_reducible apply clearSwitchover_keeps) | (with_reducible apply State.bump_keeps)
    | (with_reducible apply postEvent_keeps) | extract_lets | split | (dsimp -zeta only) | (dsimp +zetaDelta -zeta only)

theorem startPlanned_keeps {s0 s : State} (h : Keeps s0 s) (cause next : Nat) : Keeps s0 (startPlanned s cause next) := by
  unfold startPlanned
  repeat' first
    | (with_reducible assumption) | intro _ | (with_reducible apply State.putPair_keeps)
    | (with_reducible apply State.set_keeps) | extract_lets | split | (dsimp -zeta only) | (dsimp +zetaDelta -zeta only)

theorem setBcast_keeps {s0 s : State} (h : Keeps s0 s) (d v : Nat) : Keeps s0 (setBcast s d v) := by
  unfold setBcast
  repeat' first
    | (with_reducible assumption) | intro _ | (with_reducible apply State.putTree_keeps) | extract_lets | split
    | (dsimp -zeta only) | (dsimp +zetaDelta -zeta only)

theorem applyReservation_keeps {s0 s : State} (h : Keeps s0 s) (node : Nat) (district : Bool) (block : Nat) :
    Keeps s0 (applyReservation s node district block) := by
  unfold applyReservation
  repeat' first
    | (with_reducible assumption) | intro _ | (with_reducible apply Keeps.ite) | (with_reducible apply Keeps.ite_fst)
    | (with_reducible apply setBcast_keeps) | (with_reducible apply setLineField_keeps)
    | (with_reducible apply State.putPair_keeps) | extract_lets | split | (dsimp -zeta only) | (dsimp +zetaDelta -zeta only)

theorem rewriteCounters_keeps {s0 s : State} (h : Keeps s0 s) : Keeps s0 (rewriteCounters s) := by
  unfold rewriteCounters
  repeat' first
    | (with_reducible assumption) | intro _ | (with_reducible apply applyReservation_keeps) | (with_reducible apply Keeps.fold)
    | extract_lets | split | (dsimp -zeta only) | (dsimp +zetaDelta -zeta only)

theorem dropLower_keeps {s0 s : State} (h : Keeps s0 s) : Keeps s0 (dropLower s) := by
  unfold dropLower
  repeat' first
    | (with_reducible assumption) | intro _ | (with_reducible apply Keeps.ite) | (with_reducible apply Keeps.ite_fst)
    | (with_reducible apply dropFrame_keeps) | (with_reducible apply State.bump_keeps) | (with_reducible apply putGroup_keeps)
    | (with_reducible apply State.putEth_keeps) | (with_reducible apply putEgress_keeps)
    | (with_reducible apply State.bumpBy_keeps) | (with_reducible apply Keeps.fold) | extract_lets | split | (dsimp -zeta only)
    | (dsimp +zetaDelta -zeta only)

theorem startResync_keeps {s0 s : State} (h : Keeps s0 s) : Keeps s0 (startResync s) := by
  unfold startResync
  repeat' first
    | (with_reducible assumption) | intro _ | (with_reducible apply State.putPair_keeps)
    | (with_reducible apply State.set_keeps) | (with_reducible apply sendRecord_keeps) | (with_reducible apply State.emit_keeps)
    | (with_reducible apply Keeps.fold) | (with_reducible apply Keeps.foldl_fst) | extract_lets | split | (dsimp -zeta only)
    | (dsimp +zetaDelta -zeta only)

theorem offerResync_keeps {s0 s : State} (h : Keeps s0 s) : Keeps s0 (offerResync s) := by
  unfold offerResync
  repeat' first
    | (with_reducible assumption) | intro _ | (with_reducible apply Keeps.ite) | (with_reducible apply Keeps.ite_fst)
    | (with_reducible apply startResync_keeps) | extract_lets | split | (dsimp -zeta only) | (dsimp +zetaDelta -zeta only)

theorem rolesAlone_keeps {s0 s : State} (h : Keeps s0 s) : Keeps s0 (rolesAlone s) := by
  unfold rolesAlone
  repeat' first
    | (with_reducible assumption) | intro _ | (with_reducible apply Keeps.ite) | (with_reducible apply Keeps.ite_fst)
    | (with_reducible apply switchDone_keeps) | (with_reducible apply setRole_keeps)
    | (with_reducible apply clearSwitchover_keeps) | extract_lets | split | (dsimp -zeta only) | (dsimp +zetaDelta -zeta only)

theorem linkDown_keeps {s0 s : State} (h : Keeps s0 s) (cause : Nat) : Keeps s0 (linkDown s cause) := by
  unfold linkDown
  repeat' first
    | (with_reducible assumption) | intro _ | (with_reducible apply Keeps.ite) | (with_reducible apply Keeps.ite_fst)
    | (with_reducible apply State.bump_keeps) | (with_reducible apply State.set_keeps)
    | (with_reducible apply State.putPair_keeps) | (with_reducible apply postEvent_keeps)
    | (with_reducible apply dropSync_keeps) | (with_reducible apply viewInterlock_keeps)
    | (with_reducible apply rolesAlone_keeps) | extract_lets | split | (dsimp -zeta only) | (dsimp +zetaDelta -zeta only)

end Sys2Proof.Machine
end

