-- ==== Sys2Proof/Laws/KeepsBootOps.lean ====
section
/-!
SUPPORT. What the operations of Machine/BootOps.lean keep (`Keeps`).
-/

namespace Sys2Proof.Machine

set_option linter.unusedVariables false
set_option linter.unusedTactic false
set_option linter.unreachableTactic false

theorem keptRegs_wf (s : State) (l : List Fld) : cellsWf resetWord (keptRegs s l) = true := by
  suffices ∀ r, cellsWf resetWord r = true → cellsWf resetWord (l.foldl (fun r f => regSet r f (regGet s.regs f)) r) = true from
    this [] rfl
  induction l with
  | nil => exact fun r hr => hr
  | cons f l ih => exact fun r hr => ih _ (cellsWf_write hr _ _)

theorem resetKeeping_keeps {s0 s : State} (h : Keeps s0 s) (keep : List Fld) (power : PowerState) (phase : Phase) :
    Keeps s0 (resetKeeping s keep power phase) :=
  h.trans ⟨rfl, rfl, rfl, Nat.le_refl _, fun w =>
    (wf_iff _).2 ⟨keptRegs_wf s keep, (wf_flash w :), rfl, rfl, rfl, rfl, rfl, rfl, rfl, rfl⟩⟩

theorem latchFail_keeps {s0 s : State} (h : Keeps s0 s) (phase code : Nat) : Keeps s0 (latchFail s phase code) := by
  unfold latchFail
  repeat' first
    | (with_reducible assumption) | intro _ | (with_reducible apply Keeps.ite) | (with_reducible apply Keeps.ite_fst)
    | (with_reducible apply State.bump_keeps) | (with_reducible apply State.set_keeps) | extract_lets | split
    | (dsimp -zeta only) | (dsimp +zetaDelta -zeta only)

theorem faultHold_keeps {s0 s : State} (h : Keeps s0 s) (phase code : Nat) : Keeps s0 (faultHold s phase code) := by
  unfold faultHold
  repeat' first
    | (with_reducible assumption) | intro _ | (with_reducible apply stopTimebase_keeps) | (with_reducible apply latchFail_keeps)
    | (with_reducible apply endClaim_keeps) | (with_reducible apply resetKeeping_keeps) | extract_lets | split
    | (dsimp -zeta only) | (dsimp +zetaDelta -zeta only)

theorem setPhase_keeps {s0 s : State} (h : Keeps s0 s) (p : Nat) : Keeps s0 (setPhase s p) := by
  unfold setPhase
  repeat' first
    | (with_reducible assumption) | intro _ | (with_reducible apply State.set_keeps) | extract_lets | split | (dsimp -zeta only)
    | (dsimp +zetaDelta -zeta only)

theorem imageWait_keeps {s0 s : State} (h : Keeps s0 s) : Keeps s0 (imageWait s) := by
  unfold imageWait
  repeat' first
    | (with_reducible assumption) | intro _ | (with_reducible apply setPhase_keeps) | (with_reducible apply State.putBoot_keeps)
    | extract_lets | split | (dsimp -zeta only) | (dsimp +zetaDelta -zeta only)

theorem romStart_keeps {s0 s : State} (h : Keeps s0 s) : Keeps s0 (romStart s) := by
  unfold romStart
  repeat' first
    | (with_reducible assumption) | intro _ | (with_reducible apply Keeps.ite) | (with_reducible apply Keeps.ite_fst)
    | (with_reducible apply setPhase_keeps) | (with_reducible apply State.putBoot_keeps)
    | (with_reducible apply applyRepairs_keeps) | (with_reducible apply wearView_keeps)
    | (with_reducible apply State.setBit_keeps) | (with_reducible apply imageWait_keeps) | extract_lets | split
    | (dsimp -zeta only) | (dsimp +zetaDelta -zeta only)

theorem warmClear_keeps {s0 s : State} (h : Keeps s0 s) (phase : Phase) : Keeps s0 (warmClear s phase) := by
  unfold warmClear
  repeat' first
    | (with_reducible assumption) | intro _ | (with_reducible apply stopTimebase_keeps)
    | (with_reducible apply resetKeeping_keeps) | (with_reducible apply State.setBit_keeps)
    | (with_reducible apply State.putMi_keeps) | (with_reducible apply State.putBoot_keeps) | extract_lets | split
    | (dsimp -zeta only) | (dsimp +zetaDelta -zeta only)

theorem warmRestart_keeps {s0 s : State} (h : Keeps s0 s) : Keeps s0 (warmRestart s) := by
  unfold warmRestart
  repeat' first
    | (with_reducible assumption) | intro _ | (with_reducible apply endClaim_keeps) | (with_reducible apply State.putBoot_keeps)
    | extract_lets | split | (dsimp -zeta only) | (dsimp +zetaDelta -zeta only)

end Sys2Proof.Machine
end

