-- ==== Sys2Proof/Laws/KeepsConfigOps.lean ====
section
/-!
SUPPORT. What the operations of Machine/ConfigOps.lean keep (`Keeps`).
-/

namespace Sys2Proof.Machine

set_option linter.unusedVariables false
set_option linter.unusedTactic false
set_option linter.unreachableTactic false

theorem putConfig_keeps {s0 s : State} (h : Keeps s0 s) (key v : Nat) : Keeps s0 (putConfig s key v) := by
  unfold putConfig
  repeat' first
    | (with_reducible assumption) | intro _ | (with_reducible apply State.setWord_keeps) | extract_lets | split
    | (dsimp -zeta only) | (dsimp +zetaDelta -zeta only)

theorem viewJesd_keeps {s0 s : State} (h : Keeps s0 s) : Keeps s0 (viewJesd s) := by
  unfold viewJesd
  repeat' first
    | (with_reducible assumption) | intro _ | (with_reducible apply Keeps.ite) | (with_reducible apply Keeps.ite_fst)
    | (with_reducible apply State.set_keeps) | extract_lets | split | (dsimp -zeta only) | (dsimp +zetaDelta -zeta only)

theorem takeTso_keeps {s0 s : State} (h : Keeps s0 s) (n : Nat) : Keeps s0 (takeTso s n) := by
  unfold takeTso
  repeat' first
    | (with_reducible assumption) | intro _ | (with_reducible apply Keeps.ite) | (with_reducible apply Keeps.ite_fst)
    | (with_reducible apply State.setTso_keeps) | (with_reducible apply tsoPassed_keeps) | (with_reducible apply armTso_keeps)
    | extract_lets | split | (dsimp -zeta only) | (dsimp +zetaDelta -zeta only)

theorem takeCe_keeps {s0 s : State} (h : Keeps s0 s) (n : Nat) : Keeps s0 (takeCe s n) := by
  unfold takeCe
  repeat' first
    | (with_reducible assumption) | intro _ | (with_reducible apply Keeps.ite) | (with_reducible apply Keeps.ite_fst)
    | (with_reducible apply State.set_keeps) | (with_reducible apply State.setCe_keeps) | extract_lets | split
    | (dsimp -zeta only) | (dsimp +zetaDelta -zeta only)

theorem takeEth_keeps {s0 s : State} (h : Keeps s0 s) (e : Nat) : Keeps s0 (takeEth s e) := by
  unfold takeEth
  repeat' first
    | (with_reducible assumption) | intro _ | (with_reducible apply Keeps.ite) | (with_reducible apply Keeps.ite_fst)
    | (with_reducible apply portDown_keeps) | extract_lets | split | (dsimp -zeta only) | (dsimp +zetaDelta -zeta only)

theorem takeFrontEnd_keeps {s0 s : State} (h : Keeps s0 s) (n : Nat) : Keeps s0 (takeFrontEnd s n) := by
  unfold takeFrontEnd
  repeat' first
    | (with_reducible assumption) | intro _ | (with_reducible apply Keeps.ite) | (with_reducible apply Keeps.ite_fst)
    | (with_reducible apply frontEndReceive_keeps) | extract_lets | split | (dsimp -zeta only) | (dsimp +zetaDelta -zeta only)

theorem takeGuards_keeps {s0 s : State} (h : Keeps s0 s) (keys : List Nat) : Keeps s0 (takeGuards s keys) := by
  unfold takeGuards
  repeat' first
    | (with_reducible assumption) | intro _ | (with_reducible apply Keeps.ite) | (with_reducible apply Keeps.ite_fst)
    | (with_reducible apply considerAgreement_keeps) | (with_reducible apply Keeps.fold) | extract_lets | split
    | (dsimp -zeta only) | (dsimp +zetaDelta -zeta only)

theorem configTaken_keeps {s0 s : State} (h : Keeps s0 s) (keys : List Nat) : Keeps s0 (configTaken s keys) := by
  unfold configTaken
  repeat' first
    | (with_reducible assumption) | intro _ | (with_reducible apply Keeps.ite) | (with_reducible apply Keeps.ite_fst)
    | (with_reducible apply takeFrontEnd_keeps) | (with_reducible apply takeCe_keeps) | (with_reducible apply takeTso_keeps)
    | (with_reducible apply takeEth_keeps) | (with_reducible apply State.set_keeps) | (with_reducible apply State.putApp_keeps)
    | (with_reducible apply takeGuards_keeps) | (with_reducible apply viewJesd_keeps) | (with_reducible apply Keeps.fold)
    | (with_reducible apply cellsWf_nil) | (with_reducible apply flashProgram_wf) | (with_reducible apply flashClear_wf)
    | (with_reducible apply setBytes_wf) | (with_reducible apply cellsWf_filter) | (with_reducible apply cellsWf_write)
    | (with_reducible apply And.intro) | (with_reducible exact wf_regs (by assumption))
    | (with_reducible exact wf_flash (by assumption)) | (with_reducible exact wf_window (by assumption))
    | (with_reducible exact wf_ncs (by assumption)) | (with_reducible exact wf_eht (by assumption))
    | (with_reducible exact wf_hb (by assumption)) | (with_reducible exact wf_shadow (by assumption))
    | (with_reducible exact wf_msix (by assumption)) | (with_reducible exact wf_iram (by assumption))
    | (with_reducible exact wf_dram (by assumption)) | (exact (wf_iram ‹Memory.wf _ = true› :))
    | (exact (wf_dram ‹Memory.wf _ = true› :)) | extract_lets | split | (dsimp -zeta only) | (dsimp +zetaDelta -zeta only)

theorem putValues_keeps {s0 s : State} (h : Keeps s0 s) (l : List (Nat × Nat)) : Keeps s0 (putValues s l) := by
  unfold putValues
  repeat' first
    | (with_reducible assumption) | intro _ | (with_reducible apply Keeps.ite) | (with_reducible apply Keeps.ite_fst)
    | (with_reducible apply infraWrite_keeps) | (with_reducible apply putConfig_keeps) | (with_reducible apply Keeps.fold)
    | extract_lets | split | (dsimp -zeta only) | (dsimp +zetaDelta -zeta only)

end Sys2Proof.Machine
end

