-- ==== Sys2Proof/Laws/KeepsAppOps.lean ====
section
/-!
SUPPORT. What the operations of Machine/AppOps.lean keep (`Keeps`).
-/

namespace Sys2Proof.Machine

set_option linter.unusedVariables false
set_option linter.unusedTactic false
set_option linter.unreachableTactic false

theorem loadApp_keeps {s0 s : State} (h : Keeps s0 s) (img : List Byte) : Keeps s0 (loadApp s img) := by
  unfold loadApp
  repeat' first
    | (with_reducible assumption) | intro _ | (with_reducible apply State.putApp_keeps) | (with_reducible apply cellsWf_nil)
    | (with_reducible apply flashProgram_wf) | (with_reducible apply flashClear_wf) | (with_reducible apply setBytes_wf)
    | (with_reducible apply cellsWf_filter) | (with_reducible apply cellsWf_write) | (with_reducible apply And.intro)
    | (with_reducible exact wf_regs (by assumption)) | (with_reducible exact wf_flash (by assumption))
    | (with_reducible exact wf_window (by assumption)) | (with_reducible exact wf_ncs (by assumption))
    | (with_reducible exact wf_eht (by assumption)) | (with_reducible exact wf_hb (by assumption))
    | (with_reducible exact wf_shadow (by assumption)) | (with_reducible exact wf_msix (by assumption))
    | (with_reducible exact wf_iram (by assumption)) | (with_reducible exact wf_dram (by assumption))
    | (exact (wf_iram ‹Memory.wf _ = true› :)) | (exact (wf_dram ‹Memory.wf _ = true› :)) | extract_lets | split
    | (dsimp -zeta only) | (dsimp +zetaDelta -zeta only)

theorem restartWdog_keeps {s0 s : State} (h : Keeps s0 s) : Keeps s0 (restartWdog s) := by
  unfold restartWdog
  repeat' first
    | (with_reducible assumption) | intro _ | (with_reducible apply aicLevel_keeps) | (with_reducible apply State.putApp_keeps)
    | (with_reducible apply State.set_keeps) | (with_reducible apply cellsWf_nil) | (with_reducible apply flashProgram_wf)
    | (with_reducible apply flashClear_wf) | (with_reducible apply setBytes_wf) | (with_reducible apply cellsWf_filter)
    | (with_reducible apply cellsWf_write) | (with_reducible apply And.intro) | (with_reducible exact wf_regs (by assumption))
    | (with_reducible exact wf_flash (by assumption)) | (with_reducible exact wf_window (by assumption))
    | (with_reducible exact wf_ncs (by assumption)) | (with_reducible exact wf_eht (by assumption))
    | (with_reducible exact wf_hb (by assumption)) | (with_reducible exact wf_shadow (by assumption))
    | (with_reducible exact wf_msix (by assumption)) | (with_reducible exact wf_iram (by assumption))
    | (with_reducible exact wf_dram (by assumption)) | (exact (wf_iram ‹Memory.wf _ = true› :))
    | (exact (wf_dram ‹Memory.wf _ = true› :)) | extract_lets | split | (dsimp -zeta only) | (dsimp +zetaDelta -zeta only)

theorem releaseApp_keeps {s0 s : State} (h : Keeps s0 s) : Keeps s0 (releaseApp s) := by
  unfold releaseApp
  repeat' first
    | (with_reducible assumption) | intro _ | (with_reducible apply restartWdog_keeps)
    | (with_reducible apply State.putApp_keeps) | (with_reducible apply State.set_keeps) | (with_reducible apply cellsWf_nil)
    | (with_reducible apply flashProgram_wf) | (with_reducible apply flashClear_wf) | (with_reducible apply setBytes_wf)
    | (with_reducible apply cellsWf_filter) | (with_reducible apply cellsWf_write) | (with_reducible apply And.intro)
    | (with_reducible exact wf_regs (by assumption)) | (with_reducible exact wf_flash (by assumption))
    | (with_reducible exact wf_window (by assumption)) | (with_reducible exact wf_ncs (by assumption))
    | (with_reducible exact wf_eht (by assumption)) | (with_reducible exact wf_hb (by assumption))
    | (with_reducible exact wf_shadow (by assumption)) | (with_reducible exact wf_msix (by assumption))
    | (with_reducible exact wf_iram (by assumption)) | (with_reducible exact wf_dram (by assumption))
    | (exact (wf_iram ‹Memory.wf _ = true› :)) | (exact (wf_dram ‹Memory.wf _ = true› :)) | extract_lets | split
    | (dsimp -zeta only) | (dsimp +zetaDelta -zeta only)

theorem resetApp_keeps {s0 s : State} (h : Keeps s0 s) : Keeps s0 (resetApp s) := by
  unfold resetApp
  repeat' first
    | (with_reducible assumption) | intro _ | (with_reducible apply State.putRegs_keeps)
    | (with_reducible apply State.putTb_keeps) | (with_reducible apply State.set_keeps)
    | (with_reducible apply State.putApp_keeps) | (with_reducible apply aicLevel_keeps) | (with_reducible apply Keeps.fold)
    | (with_reducible apply cellsWf_nil) | (with_reducible apply flashProgram_wf) | (with_reducible apply flashClear_wf)
    | (with_reducible apply setBytes_wf) | (with_reducible apply cellsWf_filter) | (with_reducible apply cellsWf_write)
    | (with_reducible apply And.intro) | (with_reducible exact wf_regs (by assumption))
    | (with_reducible exact wf_flash (by assumption)) | (with_reducible exact wf_window (by assumption))
    | (with_reducible exact wf_ncs (by assumption)) | (with_reducible exact wf_eht (by assumption))
    | (with_reducible exact wf_hb (by assumption)) | (with_reducible exact wf_shadow (by assumption))
    | (with_reducible exact wf_msix (by assumption)) | (with_reducible exact wf_iram (by assumption))
    | (with_reducible exact wf_dram (by assumption)) | (exact (wf_iram ‹Memory.wf _ = true› :))
    | (exact (wf_dram ‹Memory.wf _ = true› :)) | extract_lets | split | (dsimp -zeta only) | (dsimp +zetaDelta -zeta only)

theorem reloadApp_keeps {s0 s : State} (h : Keeps s0 s) : Keeps s0 (reloadApp s) := by
  unfold reloadApp
  repeat' first
    | (with_reducible assumption) | intro _ | (with_reducible apply State.putApp_keeps) | (with_reducible apply cellsWf_nil)
    | (with_reducible apply flashProgram_wf) | (with_reducible apply flashClear_wf) | (with_reducible apply setBytes_wf)
    | (with_reducible apply cellsWf_filter) | (with_reducible apply cellsWf_write) | (with_reducible apply And.intro)
    | (with_reducible exact wf_regs (by assumption)) | (with_reducible exact wf_flash (by assumption))
    | (with_reducible exact wf_window (by assumption)) | (with_reducible exact wf_ncs (by assumption))
    | (with_reducible exact wf_eht (by assumption)) | (with_reducible exact wf_hb (by assumption))
    | (with_reducible exact wf_shadow (by assumption)) | (with_reducible exact wf_msix (by assumption))
    | (with_reducible exact wf_iram (by assumption)) | (with_reducible exact wf_dram (by assumption))
    | (exact (wf_iram ‹Memory.wf _ = true› :)) | (exact (wf_dram ‹Memory.wf _ = true› :)) | extract_lets | split
    | (dsimp -zeta only) | (dsimp +zetaDelta -zeta only)

theorem setCpu_keeps {s0 s : State} (h : Keeps s0 s) (n state : Nat) : Keeps s0 (setCpu s n state) := by
  unfold setCpu
  repeat' first
    | (with_reducible assumption) | intro _ | (with_reducible apply State.putCpus_keeps)
    | (with_reducible apply State.set_keeps) | extract_lets | split | (dsimp -zeta only) | (dsimp +zetaDelta -zeta only)

end Sys2Proof.Machine
end

