-- ==== Sys2Proof/Laws/KeepsForwarding.lean ====
section
/-!
SUPPORT. What the operations of Machine/Forwarding.lean keep (`Keeps`).
-/

namespace Sys2Proof.Machine

set_option linter.unusedVariables false
set_option linter.unusedTactic false
set_option linter.unreachableTactic false

theorem ehtAnswer_keeps {s0 s : State} (h : Keeps s0 s) (q : Requester) (result index : Nat) :
    Keeps s0 (ehtAnswer s q result index) := by
  unfold ehtAnswer
  repeat' first
    | (with_reducible assumption) | intro _ | (with_reducible apply State.set_keeps) | extract_lets | split | (dsimp -zeta only)
    | (dsimp +zetaDelta -zeta only)

theorem ehtUpset_keeps {s0 s : State} (h : Keeps s0 s) (eui way flip : Nat) : Keeps s0 (ehtUpset s eui way flip) := by
  unfold ehtUpset
  repeat' first
    | (with_reducible assumption) | intro _ | (with_reducible apply Keeps.ite) | (with_reducible apply Keeps.ite_fst)
    | (with_reducible apply State.setEht_keeps) | extract_lets | split | (dsimp -zeta only) | (dsimp +zetaDelta -zeta only)

theorem execEhtLookup_keeps {s0 s : State} (h : Keeps s0 s) (q : Requester) (way flip : Nat) :
    Completes s0 (execEhtLookup q way flip s) := by
  unfold execEhtLookup
  repeat' first
    | (with_reducible assumption) | intro _ | (with_reducible apply Completes.next) | (with_reducible apply Completes.ite)
    | (with_reducible apply Keeps.ite) | (with_reducible apply Keeps.ite_fst) | (with_reducible apply done_keeps)
    | (with_reducible apply ehtUpset_keeps) | (with_reducible apply ehtLookup_keeps) | (with_reducible apply ehtAnswer_keeps)
    | (with_reducible refine Keeps.of_pair (by assumption) ?_) | extract_lets | split | (dsimp -zeta only)
    | (dsimp +zetaDelta -zeta only)

theorem execEhtInsert_keeps {s0 s : State} (h : Keeps s0 s) (q : Requester) (index : Nat) :
    Completes s0 (execEhtInsert q index s) := by
  unfold execEhtInsert
  repeat' first
    | (with_reducible assumption) | intro _ | (with_reducible apply Completes.next) | (with_reducible apply Completes.ite)
    | (with_reducible apply Keeps.ite) | (with_reducible apply Keeps.ite_fst) | (with_reducible apply done_keeps)
    | (with_reducible apply State.set_keeps) | (with_reducible apply ehtInsert_keeps) | (with_reducible apply ehtAnswer_keeps)
    | (with_reducible refine Keeps.of_pair (by assumption) ?_) | extract_lets | split | (dsimp -zeta only)
    | (dsimp +zetaDelta -zeta only)

theorem execEhtDelete_keeps {s0 s : State} (h : Keeps s0 s) (q : Requester) : Completes s0 (execEhtDelete q s) := by
  unfold execEhtDelete
  repeat' first
    | (with_reducible assumption) | intro _ | (with_reducible apply Completes.next) | (with_reducible apply Completes.ite)
    | (with_reducible apply Keeps.ite) | (with_reducible apply Keeps.ite_fst) | (with_reducible apply done_keeps)
    | (with_reducible apply State.set_keeps) | (with_reducible apply ehtDelete_keeps)
    | (with_reducible refine Keeps.of_pair (by assumption) ?_) | extract_lets | split | (dsimp -zeta only)
    | (dsimp +zetaDelta -zeta only)

theorem execEhtRebuildDone_keeps {s0 s : State} (h : Keeps s0 s) : Completes s0 (execEhtRebuildDone s) := by
  unfold execEhtRebuildDone
  repeat' first
    | (with_reducible assumption) | intro _ | (with_reducible apply Completes.next) | (with_reducible apply Completes.ite)
    | (with_reducible apply rebuildBucket_keeps) | (with_reducible apply State.putFwd_keeps) | (with_reducible apply done_keeps)
    | (with_reducible apply State.setBit_keeps) | (with_reducible apply Keeps.fold) | (with_reducible apply cellsWf_nil)
    | (with_reducible apply flashProgram_wf) | (with_reducible apply flashClear_wf) | (with_reducible apply setBytes_wf)
    | (with_reducible apply cellsWf_filter) | (with_reducible apply cellsWf_write) | (with_reducible apply And.intro)
    | (with_reducible exact wf_regs (by assumption)) | (with_reducible exact wf_flash (by assumption))
    | (with_reducible exact wf_window (by assumption)) | (with_reducible exact wf_ncs (by assumption))
    | (with_reducible exact wf_eht (by assumption)) | (with_reducible exact wf_hb (by assumption))
    | (with_reducible exact wf_shadow (by assumption)) | (with_reducible exact wf_msix (by assumption))
    | (with_reducible exact wf_iram (by assumption)) | (with_reducible exact wf_dram (by assumption)) | extract_lets | split
    | (dsimp -zeta only) | (dsimp +zetaDelta -zeta only)

theorem execHeardByUpdate_keeps {s0 s : State} (h : Keeps s0 s) (cluster node path ant : Nat) (rssi : Int) (flip : Nat) :
    Completes s0 (execHeardByUpdate cluster node path ant rssi flip s) := by
  unfold execHeardByUpdate
  repeat' first
    | (with_reducible assumption) | intro _ | (with_reducible apply Completes.next) | (with_reducible apply Completes.ite)
    | (with_reducible apply Keeps.ite) | (with_reducible apply Keeps.ite_fst) | (with_reducible apply State.setHbWord_keeps)
    | (with_reducible apply done_keeps) | (with_reducible apply hbUpdate_keeps) | extract_lets | split | (dsimp -zeta only)
    | (dsimp +zetaDelta -zeta only)

theorem execHbTick_keeps {s0 s : State} (h : Keeps s0 s) : Completes s0 (execHbTick s) := by
  unfold execHbTick
  repeat' first
    | (with_reducible assumption) | intro _ | (with_reducible apply Completes.next) | (with_reducible apply Completes.ite)
    | (with_reducible apply Keeps.ite) | (with_reducible apply Keeps.ite_fst) | (with_reducible apply done_keeps)
    | (with_reducible apply hbAdvance_keeps) | extract_lets | split | (dsimp -zeta only) | (dsimp +zetaDelta -zeta only)

theorem execHbRead_keeps {s0 s : State} (h : Keeps s0 s) (q : Requester) (cluster index : Nat) :
    Completes s0 (execHbRead q cluster index s) := by
  unfold execHbRead
  repeat' first
    | (with_reducible assumption) | intro _ | (with_reducible apply Completes.next) | (with_reducible apply Completes.ite)
    | (with_reducible apply Keeps.ite) | (with_reducible apply Keeps.ite_fst) | (with_reducible apply done_keeps)
    | (with_reducible apply State.set_keeps) | extract_lets | split | (dsimp -zeta only) | (dsimp +zetaDelta -zeta only)

theorem execHbInvalidate_keeps {s0 s : State} (h : Keeps s0 s) (q : Requester) (cluster index : Nat) :
    Completes s0 (execHbInvalidate q cluster index s) := by
  unfold execHbInvalidate
  repeat' first
    | (with_reducible assumption) | intro _ | (with_reducible apply Completes.next) | (with_reducible apply Completes.ite)
    | (with_reducible apply Keeps.ite) | (with_reducible apply Keeps.ite_fst) | (with_reducible apply done_keeps)
    | (with_reducible apply State.set_keeps) | (with_reducible apply State.setHb_keeps) | extract_lets | split
    | (dsimp -zeta only) | (dsimp +zetaDelta -zeta only)

theorem ncsAnswer_keeps {s0 s : State} (h : Keeps s0 s) (q : Requester) (result : Nat) : Keeps s0 (ncsAnswer s q result) := by
  unfold ncsAnswer
  repeat' first
    | (with_reducible assumption) | intro _ | (with_reducible apply State.set_keeps) | extract_lets | split | (dsimp -zeta only)
    | (dsimp +zetaDelta -zeta only)

theorem execNcsRead_keeps {s0 s : State} (h : Keeps s0 s) (q : Requester) (index : Nat) : Completes s0 (execNcsRead q index s) := by
  unfold execNcsRead
  repeat' first
    | (with_reducible assumption) | intro _ | (with_reducible apply Completes.next) | (with_reducible apply Completes.ite)
    | (with_reducible apply Keeps.ite) | (with_reducible apply Keeps.ite_fst) | (with_reducible apply done_keeps)
    | (with_reducible apply ncsAnswer_keeps) | (with_reducible apply State.set_keeps) | (with_reducible apply Keeps.fold)
    | extract_lets | split | (dsimp -zeta only) | (dsimp +zetaDelta -zeta only)

theorem mapForget_keeps {s0 s : State} (h : Keeps s0 s) (n : Nat) (old new : Line) : Keeps s0 (mapForget s n old new) := by
  unfold mapForget
  repeat' first
    | (with_reducible assumption) | intro _ | (with_reducible apply Keeps.ite) | (with_reducible apply Keeps.ite_fst)
    | (with_reducible apply freeMapEntry_keeps) | extract_lets | split | (dsimp -zeta only) | (dsimp +zetaDelta -zeta only)

theorem execNcsMaskedWrite_keeps {s0 s : State} (h : Keeps s0 s) (q : Requester) (index : Nat) :
    Completes s0 (execNcsMaskedWrite q index s) := by
  unfold execNcsMaskedWrite
  repeat' first
    | (with_reducible assumption) | intro _ | (with_reducible apply Completes.next) | (with_reducible apply Completes.ite)
    | (with_reducible apply Keeps.ite) | (with_reducible apply Keeps.ite_fst) | (with_reducible apply done_keeps)
    | (with_reducible apply ncsAnswer_keeps) | (with_reducible apply consumeLine_keeps) | (with_reducible apply mapForget_keeps)
    | (with_reducible apply writeLine_keeps) | extract_lets | split | (dsimp -zeta only) | (dsimp +zetaDelta -zeta only)

theorem execNcsZeroLine_keeps {s0 s : State} (h : Keeps s0 s) (q : Requester) (index : Nat) :
    Completes s0 (execNcsZeroLine q index s) := by
  unfold execNcsZeroLine
  repeat' first
    | (with_reducible assumption) | intro _ | (with_reducible apply Completes.next) | (with_reducible apply Completes.ite)
    | (with_reducible apply Keeps.ite) | (with_reducible apply Keeps.ite_fst) | (with_reducible apply done_keeps)
    | (with_reducible apply ncsAnswer_keeps) | (with_reducible apply freeMapEntry_keeps)
    | (with_reducible apply writeLine_keeps) | extract_lets | split | (dsimp -zeta only) | (dsimp +zetaDelta -zeta only)

theorem clearNodes_keeps {s0 s : State} (h : Keeps s0 s) (by_ : Nat) : Keeps s0 (clearNodes s by_) := by
  unfold clearNodes
  repeat' first
    | (with_reducible assumption) | intro _ | (with_reducible apply flushAllDownlink_keeps)
    | (with_reducible apply State.putFwd_keeps) | (with_reducible apply State.putMi_keeps)
    | (with_reducible apply State.putSec_keeps) | (with_reducible apply viewImap_keeps)
    | (with_reducible apply State.putImap_keeps) | (with_reducible apply State.set_keeps)
    | (with_reducible apply viewOverflow_keeps) | (with_reducible apply cellsWf_nil) | (with_reducible apply flashProgram_wf)
    | (with_reducible apply flashClear_wf) | (with_reducible apply setBytes_wf) | (with_reducible apply cellsWf_filter)
    | (with_reducible apply cellsWf_write) | (with_reducible apply And.intro) | (with_reducible exact wf_regs (by assumption))
    | (with_reducible exact wf_flash (by assumption)) | (with_reducible exact wf_window (by assumption))
    | (with_reducible exact wf_ncs (by assumption)) | (with_reducible exact wf_eht (by assumption))
    | (with_reducible exact wf_hb (by assumption)) | (with_reducible exact wf_shadow (by assumption))
    | (with_reducible exact wf_msix (by assumption)) | (with_reducible exact wf_iram (by assumption))
    | (with_reducible exact wf_dram (by assumption)) | extract_lets | split | (dsimp -zeta only) | (dsimp +zetaDelta -zeta only)

theorem execNcsBulkClear_keeps {s0 s : State} (h : Keeps s0 s) (q : Requester) : Completes s0 (execNcsBulkClear q s) := by
  unfold execNcsBulkClear
  repeat' first
    | (with_reducible assumption) | intro _ | (with_reducible apply Completes.next) | (with_reducible apply Completes.ite)
    | (with_reducible apply Keeps.ite) | (with_reducible apply Keeps.ite_fst) | (with_reducible apply done_keeps)
    | (with_reducible apply ncsAnswer_keeps) | (with_reducible apply mirror_keeps) | (with_reducible apply clearNodes_keeps)
    | (with_reducible apply State.set_keeps) | extract_lets | split | (dsimp -zeta only) | (dsimp +zetaDelta -zeta only)

theorem execBulkClearDone_keeps {s0 s : State} (h : Keeps s0 s) : Completes s0 (execBulkClearDone s) := by
  unfold execBulkClearDone
  repeat' first
    | (with_reducible assumption) | intro _ | (with_reducible apply Completes.next) | (with_reducible apply Completes.ite)
    | (with_reducible apply Keeps.ite) | (with_reducible apply Keeps.ite_fst) | (with_reducible apply State.putFwd_keeps)
    | (with_reducible apply State.set_keeps) | (with_reducible apply done_keeps) | (with_reducible apply postEvent_keeps)
    | (with_reducible apply reapplyPins_keeps) | (with_reducible apply Keeps.fold) | (with_reducible apply cellsWf_nil)
    | (with_reducible apply flashProgram_wf) | (with_reducible apply flashClear_wf) | (with_reducible apply setBytes_wf)
    | (with_reducible apply cellsWf_filter) | (with_reducible apply cellsWf_write) | (with_reducible apply And.intro)
    | (with_reducible exact wf_regs (by assumption)) | (with_reducible exact wf_flash (by assumption))
    | (with_reducible exact wf_window (by assumption)) | (with_reducible exact wf_ncs (by assumption))
    | (with_reducible exact wf_eht (by assumption)) | (with_reducible exact wf_hb (by assumption))
    | (with_reducible exact wf_shadow (by assumption)) | (with_reducible exact wf_msix (by assumption))
    | (with_reducible exact wf_iram (by assumption)) | (with_reducible exact wf_dram (by assumption)) | extract_lets | split
    | (dsimp -zeta only) | (dsimp +zetaDelta -zeta only)

theorem ageOut_keeps {s0 s : State} (h : Keeps s0 s) (n : Nat) : Keeps s0 (ageOut s n) := by
  unfold ageOut
  repeat' first
    | (with_reducible assumption) | intro _ | (with_reducible apply freeMapEntry_keeps) | (with_reducible apply writeLine_keeps)
    | (with_reducible apply State.bump_keeps) | extract_lets | split | (dsimp -zeta only) | (dsimp +zetaDelta -zeta only)

theorem ehtForget_keeps {s0 s : State} (h : Keeps s0 s) (n : Nat) : Keeps s0 (ehtForget s n) := by
  unfold ehtForget
  repeat' first
    | (with_reducible assumption) | intro _ | (with_reducible apply ehtDrop_keeps) | (with_reducible apply Keeps.fold)
    | extract_lets | split | (dsimp -zeta only) | (dsimp +zetaDelta -zeta only)

theorem ageLine_keeps {s0 s : State} (h : Keeps s0 s) (n : Nat) : Keeps s0 (ageLine s n) := by
  unfold ageLine
  repeat' first
    | (with_reducible assumption) | intro _ | (with_reducible apply Keeps.ite) | (with_reducible apply Keeps.ite_fst)
    | (with_reducible apply consumeLine_keeps) | (with_reducible apply ehtDelete_keeps) | (with_reducible apply ageOut_keeps)
    | (with_reducible apply ehtForget_keeps) | (with_reducible apply setLineField_keeps) | extract_lets | split
    | (dsimp -zeta only) | (dsimp +zetaDelta -zeta only)

theorem execNodeMinuteSweep_keeps {s0 s : State} (h : Keeps s0 s) : Completes s0 (execNodeMinuteSweep s) := by
  unfold execNodeMinuteSweep
  repeat' first
    | (with_reducible assumption) | intro _ | (with_reducible apply Completes.next) | (with_reducible apply Completes.ite)
    | (with_reducible apply Keeps.ite) | (with_reducible apply Keeps.ite_fst) | (with_reducible apply State.bumpWrap_keeps)
    | (with_reducible apply State.putDrift_keeps) | (with_reducible apply done_keeps) | (with_reducible apply ageLine_keeps)
    | (with_reducible apply Keeps.fold) | extract_lets | split | (dsimp -zeta only) | (dsimp +zetaDelta -zeta only)

theorem execInfraEntryWrite_keeps {s0 s : State} (h : Keeps s0 s) (q : Requester) (entry v : Nat) :
    Completes s0 (execInfraEntryWrite q entry v s) := by
  unfold execInfraEntryWrite
  repeat' first
    | (with_reducible assumption) | intro _ | (with_reducible apply Completes.next) | (with_reducible apply Completes.ite)
    | (with_reducible apply Keeps.ite) | (with_reducible apply Keeps.ite_fst) | (with_reducible apply done_keeps)
    | (with_reducible apply infraWrite_keeps) | extract_lets | split | (dsimp -zeta only) | (dsimp +zetaDelta -zeta only)

theorem compareEntry_keeps {s0 : State} {acc : State × Nat} (h : Keeps s0 acc.1) (i : Nat) : Keeps s0 (compareEntry acc i).1 := by
  unfold compareEntry
  repeat' first
    | (with_reducible assumption) | intro _ | (with_reducible apply Keeps.ite_fst) | (with_reducible apply postEvent_keeps)
    | (with_reducible apply State.bump_keeps) | (with_reducible apply State.set_keeps) | (with_reducible apply infraApply_keeps)
    | extract_lets | split | (dsimp -zeta only)

theorem execInfraComparePass_keeps {s0 s : State} (h : Keeps s0 s) (entry flip : Nat) :
    Completes s0 (execInfraComparePass entry flip s) := by
  unfold execInfraComparePass
  repeat' first
    | (with_reducible assumption) | intro _ | (with_reducible apply Completes.next) | (with_reducible apply Completes.ite)
    | (with_reducible apply Keeps.ite) | (with_reducible apply Keeps.ite_fst) | (with_reducible apply State.setWord_keeps)
    | (with_reducible apply compareEntry_keeps) | (with_reducible apply done_keeps) | (with_reducible apply State.setBit_keeps)
    | (with_reducible apply Keeps.foldl_fst) | (with_reducible apply compareEntry_keeps) | extract_lets | split
    | (dsimp -zeta only) | (dsimp +zetaDelta -zeta only)

theorem bar2Line_keeps {s0 s : State} (h : Keeps s0 s) (off len n : Nat) : Keeps s0 (bar2Line s off len n) := by
  unfold bar2Line
  repeat' first
    | (with_reducible assumption) | intro _ | (with_reducible apply Keeps.ite) | (with_reducible apply Keeps.ite_fst)
    | (with_reducible apply consumePoison_keeps) | (with_reducible apply State.bump_keeps)
    | (with_reducible apply State.emit_keeps) | extract_lets | split | (dsimp -zeta only) | (dsimp +zetaDelta -zeta only)

theorem execBar2Read_keeps {s0 s : State} (h : Keeps s0 s) (off len : Nat) : Completes s0 (execBar2Read off len s) := by
  unfold execBar2Read
  repeat' first
    | (with_reducible assumption) | intro _ | (with_reducible apply Completes.next) | (with_reducible apply Completes.ite)
    | (with_reducible apply Keeps.ite) | (with_reducible apply Keeps.ite_fst) | (with_reducible apply done_keeps)
    | (with_reducible apply State.emit_keeps) | (with_reducible apply bar2Line_keeps) | (with_reducible apply Keeps.fold)
    | extract_lets | split | (dsimp -zeta only) | (dsimp +zetaDelta -zeta only)

theorem execSnapshotExport_keeps {s0 s : State} (h : Keeps s0 s) : Completes s0 (execSnapshotExport s) := by
  unfold execSnapshotExport
  repeat' first
    | (with_reducible assumption) | intro _ | (with_reducible apply Completes.next) | (with_reducible apply Completes.ite)
    | (with_reducible apply Keeps.ite) | (with_reducible apply Keeps.ite_fst) | (with_reducible apply done_keeps)
    | (with_reducible apply reserve_keeps) | (with_reducible apply State.putFwd_keeps) | (with_reducible apply State.set_keeps)
    | (with_reducible apply cellsWf_nil) | (with_reducible apply flashProgram_wf) | (with_reducible apply flashClear_wf)
    | (with_reducible apply setBytes_wf) | (with_reducible apply cellsWf_filter) | (with_reducible apply cellsWf_write)
    | (with_reducible apply And.intro) | (with_reducible exact wf_regs (by assumption))
    | (with_reducible exact wf_flash (by assumption)) | (with_reducible exact wf_window (by assumption))
    | (with_reducible exact wf_ncs (by assumption)) | (with_reducible exact wf_eht (by assumption))
    | (with_reducible exact wf_hb (by assumption)) | (with_reducible exact wf_shadow (by assumption))
    | (with_reducible exact wf_msix (by assumption)) | (with_reducible exact wf_iram (by assumption))
    | (with_reducible exact wf_dram (by assumption)) | extract_lets | split | (dsimp -zeta only) | (dsimp +zetaDelta -zeta only)

theorem exportEnd_keeps {s0 s : State} (h : Keeps s0 s) (result : Nat) : Keeps s0 (exportEnd s result) := by
  unfold exportEnd
  repeat' first
    | (with_reducible assumption) | intro _ | (with_reducible apply State.putFwd_keeps) | (with_reducible apply State.set_keeps)
    | (with_reducible apply postEvent_keeps) | (with_reducible apply cellsWf_nil) | (with_reducible apply flashProgram_wf)
    | (with_reducible apply flashClear_wf) | (with_reducible apply setBytes_wf) | (with_reducible apply cellsWf_filter)
    | (with_reducible apply cellsWf_write) | (with_reducible apply And.intro) | (with_reducible exact wf_regs (by assumption))
    | (with_reducible exact wf_flash (by assumption)) | (with_reducible exact wf_window (by assumption))
    | (with_reducible exact wf_ncs (by assumption)) | (with_reducible exact wf_eht (by assumption))
    | (with_reducible exact wf_hb (by assumption)) | (with_reducible exact wf_shadow (by assumption))
    | (with_reducible exact wf_msix (by assumption)) | (with_reducible exact wf_iram (by assumption))
    | (with_reducible exact wf_dram (by assumption)) | extract_lets | split | (dsimp -zeta only) | (dsimp +zetaDelta -zeta only)

theorem execSnapshotExportDone_keeps {s0 s : State} (h : Keeps s0 s) (pcieError : Bool) (misread : List (Nat × Nat)) :
    Completes s0 (execSnapshotExportDone pcieError misread s) := by
  unfold execSnapshotExportDone
  repeat' first
    | (with_reducible assumption) | intro _ | (with_reducible apply Completes.next) | (with_reducible apply Completes.ite)
    | (with_reducible apply Keeps.ite) | (with_reducible apply Keeps.ite_fst) | (with_reducible apply done_keeps)
    | (with_reducible apply exportEnd_keeps) | (with_reducible apply tileFailed_keeps) | (with_reducible apply State.set_keeps)
    | (with_reducible apply State.emit_keeps) | (with_reducible apply Keeps.fold) | extract_lets | split | (dsimp -zeta only)
    | (dsimp +zetaDelta -zeta only)

theorem execSnapshotAbort_keeps {s0 s : State} (h : Keeps s0 s) : Completes s0 (execSnapshotAbort s) := by
  unfold execSnapshotAbort
  repeat' first
    | (with_reducible assumption) | intro _ | (with_reducible apply Completes.next) | (with_reducible apply Completes.ite)
    | (with_reducible apply Keeps.ite) | (with_reducible apply Keeps.ite_fst) | (with_reducible apply done_keeps)
    | (with_reducible apply exportEnd_keeps) | extract_lets | split | (dsimp -zeta only) | (dsimp +zetaDelta -zeta only)

theorem execSnapshotRestore_keeps {s0 s : State} (h : Keeps s0 s) (resume : Bool) (descriptor : List Byte) :
    Completes s0 (execSnapshotRestore resume descriptor s) := by
  unfold execSnapshotRestore
  repeat' first
    | (with_reducible assumption) | intro _ | (with_reducible apply Completes.next) | (with_reducible apply Completes.ite)
    | (with_reducible apply Keeps.ite) | (with_reducible apply Keeps.ite_fst) | (with_reducible apply done_keeps)
    | (with_reducible apply State.set_keeps) | (with_reducible apply flushAllDownlink_keeps)
    | (with_reducible apply viewOverflow_keeps) | (with_reducible apply State.putFwd_keeps) | (with_reducible apply cellsWf_nil)
    | (with_reducible apply flashProgram_wf) | (with_reducible apply flashClear_wf) | (with_reducible apply setBytes_wf)
    | (with_reducible apply cellsWf_filter) | (with_reducible apply cellsWf_write) | (with_reducible apply And.intro)
    | (with_reducible exact wf_regs (by assumption)) | (with_reducible exact wf_flash (by assumption))
    | (with_reducible exact wf_window (by assumption)) | (with_reducible exact wf_ncs (by assumption))
    | (with_reducible exact wf_eht (by assumption)) | (with_reducible exact wf_hb (by assumption))
    | (with_reducible exact wf_shadow (by assumption)) | (with_reducible exact wf_msix (by assumption))
    | (with_reducible exact wf_iram (by assumption)) | (with_reducible exact wf_dram (by assumption)) | extract_lets | split
    | (dsimp -zeta only) | (dsimp +zetaDelta -zeta only)

theorem restoreMaps_keeps {s0 s : State} (h : Keeps s0 s) (old : Cells 512) : Keeps s0 (restoreMaps s old) := by
  unfold restoreMaps
  repeat' first
    | (with_reducible assumption) | intro _ | (with_reducible apply mapForget_keeps) | (with_reducible apply Keeps.fold)
    | extract_lets | split | (dsimp -zeta only) | (dsimp +zetaDelta -zeta only)

theorem execRestoreReadDone_keeps {s0 s : State} (h : Keeps s0 s) (lines : List (Nat × List Byte)) (sums : List (Nat × Nat)) (pcieError : Bool) :
    Completes s0 (execRestoreReadDone lines sums pcieError s) := by
  unfold execRestoreReadDone
  repeat' first
    | (with_reducible assumption) | intro _ | (with_reducible apply Completes.next) | (with_reducible apply Completes.ite)
    | (with_reducible apply Keeps.ite) | (with_reducible apply Keeps.ite_fst) | (with_reducible apply State.putFwd_keeps)
    | (with_reducible apply State.set_keeps) | (with_reducible apply done_keeps) | (with_reducible apply postEvent_keeps)
    | (with_reducible apply reapplyPins_keeps) | (with_reducible apply rebuildAll_keeps)
    | (with_reducible apply State.putMi_keeps) | (with_reducible apply restoreMaps_keeps)
    | (with_reducible apply State.putSec_keeps) | (with_reducible apply checkExhausted_keeps)
    | (with_reducible apply Keeps.fold) | (with_reducible apply Keeps.foldl_fst) | (with_reducible apply cellsWf_foldl)
    | (with_reducible apply cellsWf_nil) | (with_reducible apply flashProgram_wf) | (with_reducible apply flashClear_wf)
    | (with_reducible apply setBytes_wf) | (with_reducible apply cellsWf_filter) | (with_reducible apply cellsWf_write)
    | (with_reducible apply And.intro) | (with_reducible exact wf_regs (by assumption))
    | (with_reducible exact wf_flash (by assumption)) | (with_reducible exact wf_window (by assumption))
    | (with_reducible exact wf_ncs (by assumption)) | (with_reducible exact wf_eht (by assumption))
    | (with_reducible exact wf_hb (by assumption)) | (with_reducible exact wf_shadow (by assumption))
    | (with_reducible exact wf_msix (by assumption)) | (with_reducible exact wf_iram (by assumption))
    | (with_reducible exact wf_dram (by assumption)) | extract_lets | split | (dsimp -zeta only) | (dsimp +zetaDelta -zeta only)

theorem restoreEnd_keeps {s0 s : State} (h : Keeps s0 s) : Keeps s0 (restoreEnd s) := by
  unfold restoreEnd
  repeat' first
    | (with_reducible assumption) | intro _ | (with_reducible apply Keeps.ite) | (with_reducible apply Keeps.ite_fst)
    | (with_reducible apply State.putPsm_keeps) | (with_reducible apply State.putFwd_keeps)
    | (with_reducible apply State.set_keeps) | (with_reducible apply postEvent_keeps) | (with_reducible apply cellsWf_nil)
    | (with_reducible apply flashProgram_wf) | (with_reducible apply flashClear_wf) | (with_reducible apply setBytes_wf)
    | (with_reducible apply cellsWf_filter) | (with_reducible apply cellsWf_write) | (with_reducible apply And.intro)
    | (with_reducible exact wf_regs (by assumption)) | (with_reducible exact wf_flash (by assumption))
    | (with_reducible exact wf_window (by assumption)) | (with_reducible exact wf_ncs (by assumption))
    | (with_reducible exact wf_eht (by assumption)) | (with_reducible exact wf_hb (by assumption))
    | (with_reducible exact wf_shadow (by assumption)) | (with_reducible exact wf_msix (by assumption))
    | (with_reducible exact wf_iram (by assumption)) | (with_reducible exact wf_dram (by assumption)) | extract_lets | split
    | (dsimp -zeta only) | (dsimp +zetaDelta -zeta only)

end Sys2Proof.Machine
end

