-- ==== Sys2Proof/Laws/KeepsReports.lean ====
section
/-!
SUPPORT. What the operations of Machine/Reports.lean keep (`Keeps`).
-/

namespace Sys2Proof.Machine

set_option linter.unusedVariables false
set_option linter.unusedTactic false
set_option linter.unreachableTactic false

theorem dropReport_keeps {s0 s : State} (h : Keeps s0 s) (c : Nat) : Keeps s0 (dropReport s c) := by
  unfold dropReport
  repeat' first
    | (with_reducible assumption) | intro _ | (with_reducible apply popItem_keeps) | extract_lets | split | (dsimp -zeta only)
    | (dsimp +zetaDelta -zeta only)

end Sys2Proof.Machine
end

