-- ==== Sys2Proof/Laws/KeepsMiOps.lean ====
section
/-!
SUPPORT. What the operations of Machine/MiOps.lean keep (`Keeps`).
-/

namespace Sys2Proof.Machine

set_option linter.unusedVariables false
set_option linter.unusedTactic false
set_option linter.unreachableTactic false

theorem faultEnds_keeps {s0 s : State} (h : Keeps s0 s) (m : LineMem) (line outcome : Nat) :
    Keeps s0 (faultEnds s m line outcome) := by
  unfold faultEnds
  repeat' first
    | (with_reducible assumption) | intro _ | (with_reducible apply State.set_keeps) | (with_reducible apply postEvent_keeps)
    | extract_lets | split | (dsimp -zeta only) | (dsimp +zetaDelta -zeta only)

theorem degrade_keeps {s0 s : State} (h : Keeps s0 s) (m : LineMem) : Keeps s0 (degrade s m) := by
  unfold degrade
  repeat' first
    | (with_reducible assumption) | intro _ | (with_reducible apply Keeps.ite) | (with_reducible apply Keeps.ite_fst)
    | (with_reducible apply postEvent_keeps) | (with_reducible apply State.set_keeps) | extract_lets | split
    | (dsimp -zeta only) | (dsimp +zetaDelta -zeta only)

theorem escalate_keeps {s0 s : State} (h : Keeps s0 s) (m : LineMem) : Keeps s0 (escalate s m) := by
  unfold escalate
  repeat' first
    | (with_reducible assumption) | intro _ | (with_reducible apply Keeps.ite) | (with_reducible apply Keeps.ite_fst)
    | (with_reducible apply startPlanned_keeps) | (with_reducible apply postEvent_keeps) | (with_reducible apply degrade_keeps)
    | extract_lets | split | (dsimp -zeta only) | (dsimp +zetaDelta -zeta only)

theorem poisonFrames_keeps {s0 s : State} (h : Keeps s0 s) (air eth : Option Nat) : Keeps s0 (poisonFrames s air eth) := by
  unfold poisonFrames
  repeat' first
    | (with_reducible assumption) | intro _ | (with_reducible apply State.setFrame_keeps)
    | (with_reducible apply State.putEth_keeps) | extract_lets | split | (dsimp -zeta only) | (dsimp +zetaDelta -zeta only)

theorem faultPoisoned_keeps {s0 s : State} (h : Keeps s0 s) (m : LineMem) (line : Nat) : Keeps s0 (faultPoisoned s m line) := by
  unfold faultPoisoned
  repeat' first
    | (with_reducible assumption) | intro _ | (with_reducible apply Keeps.ite) | (with_reducible apply Keeps.ite_fst)
    | (with_reducible apply State.bump_keeps) | (with_reducible apply State.putMi_keeps)
    | (with_reducible apply faultEnds_keeps) | (with_reducible apply escalate_keeps) | extract_lets | split | (dsimp -zeta only)
    | (dsimp +zetaDelta -zeta only)

theorem standbyRestart_keeps {s0 s : State} (h : Keeps s0 s) : Keeps s0 (standbyRestart s) := by
  unfold standbyRestart
  repeat' first
    | (with_reducible assumption) | intro _ | (with_reducible apply warmRestart_keeps) | (with_reducible apply setRole_keeps)
    | (with_reducible apply dropSync_keeps) | extract_lets | split | (dsimp -zeta only) | (dsimp +zetaDelta -zeta only)

theorem autoRepair_keeps {s0 s : State} (h : Keeps s0 s) : Keeps s0 (autoRepair s) := by
  unfold autoRepair
  repeat' first
    | (with_reducible assumption) | intro _ | (with_reducible apply Keeps.ite) | (with_reducible apply Keeps.ite_fst)
    | (with_reducible apply standbyRestart_keeps) | (with_reducible apply startPlanned_keeps) | extract_lets | split
    | (dsimp -zeta only) | (dsimp +zetaDelta -zeta only)

theorem repairExhausted_keeps {s0 s : State} (h : Keeps s0 s) (sram : Nat) : Keeps s0 (repairExhausted s sram) := by
  unfold repairExhausted
  repeat' first
    | (with_reducible assumption) | intro _ | (with_reducible apply Keeps.ite) | (with_reducible apply Keeps.ite_fst)
    | (with_reducible apply noteExhausted_keeps) | (with_reducible apply escalate_keeps) | extract_lets | split
    | (dsimp -zeta only) | (dsimp +zetaDelta -zeta only)

theorem repairFault_keeps {s0 s : State} (h : Keeps s0 s) (sram row column : Nat) : Keeps s0 (repairFault s sram row column) := by
  unfold repairFault
  repeat' first
    | (with_reducible assumption) | intro _ | (with_reducible apply autoRepair_keeps)
    | (with_reducible apply appendRepair_keeps) | (with_reducible apply repairExhausted_keeps) | extract_lets | split
    | (dsimp -zeta only) | (dsimp +zetaDelta -zeta only)

theorem hardFault_keeps {s0 s : State} (h : Keeps s0 s) (m : LineMem) (line column : Nat) :
    Keeps s0 (hardFault s m line column) := by
  unfold hardFault
  repeat' first
    | (with_reducible assumption) | intro _ | (with_reducible apply Keeps.ite) | (with_reducible apply Keeps.ite_fst)
    | (with_reducible apply State.bump_keeps) | (with_reducible apply viewMi_keeps) | (with_reducible apply State.putMi_keeps)
    | (with_reducible apply repairFault_keeps) | extract_lets | split | (dsimp -zeta only) | (dsimp +zetaDelta -zeta only)

theorem noteFault_keeps {s0 s : State} (h : Keeps s0 s) (m : LineMem) (line column : Nat) (readbackOk flipped : Bool) :
    Keeps s0 (noteFault s m line column readbackOk flipped) := by
  unfold noteFault
  repeat' first
    | (with_reducible assumption) | intro _ | (with_reducible apply Keeps.ite) | (with_reducible apply Keeps.ite_fst)
    | (with_reducible apply State.putMi_keeps) | (with_reducible apply hardFault_keeps) | extract_lets | split
    | (dsimp -zeta only) | (dsimp +zetaDelta -zeta only)

theorem dropPeerFetches_keeps {s0 s : State} (h : Keeps s0 s) : Keeps s0 (dropPeerFetches s) := by
  unfold dropPeerFetches
  repeat' first
    | (with_reducible assumption) | intro _ | (with_reducible apply viewMi_keeps) | (with_reducible apply State.putMi_keeps)
    | (with_reducible apply faultPoisoned_keeps) | (with_reducible apply Keeps.fold) | extract_lets | split | (dsimp -zeta only)
    | (dsimp +zetaDelta -zeta only)

theorem linkLost_keeps {s0 s : State} (h : Keeps s0 s) (cause : Nat) : Keeps s0 (linkLost s cause) := by
  unfold linkLost
  repeat' first
    | (with_reducible assumption) | intro _ | (with_reducible apply Keeps.ite) | (with_reducible apply Keeps.ite_fst)
    | (with_reducible apply dropPeerFetches_keeps) | (with_reducible apply linkDown_keeps) | extract_lets | split
    | (dsimp -zeta only) | (dsimp +zetaDelta -zeta only)

end Sys2Proof.Machine
end

