-- ==== Sys2Proof/Laws/KeepsSecOps.lean ====
section
/-!
SUPPORT. What the operations of Machine/SecOps.lean keep (`Keeps`).
-/

namespace Sys2Proof.Machine

set_option linter.unusedVariables false
set_option linter.unusedTactic false
set_option linter.unreachableTactic false

theorem installEpoch_keeps {s0 s : State} (h : Keeps s0 s) (epoch act : Nat) : Keeps s0 (installEpoch s epoch act) := by
  unfold installEpoch
  repeat' first
    | (with_reducible assumption) | intro _ | (with_reducible apply putSlot_keeps) | (with_reducible apply State.putTree_keeps)
    | extract_lets | split | (dsimp -zeta only) | (dsimp +zetaDelta -zeta only)

theorem raiseDistrict_keeps {s0 s : State} (h : Keeps s0 s) (d : Nat) : Keeps s0 (raiseDistrict s d) := by
  unfold raiseDistrict
  repeat' first
    | (with_reducible assumption) | intro _ | (with_reducible apply restartBcast_keeps) | (with_reducible apply putSlot_keeps)
    | (with_reducible apply Keeps.fold) | extract_lets | split | (dsimp -zeta only) | (dsimp +zetaDelta -zeta only)

theorem revokeDistrict_keeps {s0 s : State} (h : Keeps s0 s) (d : Nat) : Keeps s0 (revokeDistrict s d) := by
  unfold revokeDistrict
  repeat' first
    | (with_reducible assumption) | intro _ | (with_reducible apply putSlot_keeps) | (with_reducible apply Keeps.fold)
    | extract_lets | split | (dsimp -zeta only) | (dsimp +zetaDelta -zeta only)

theorem revokeEpoch_keeps {s0 s : State} (h : Keeps s0 s) (epoch : Nat) : Keeps s0 (revokeEpoch s epoch) := by
  unfold revokeEpoch
  repeat' first
    | (with_reducible assumption) | intro _ | (with_reducible apply Keeps.ite) | (with_reducible apply Keeps.ite_fst)
    | (with_reducible apply putSlot_keeps) | (with_reducible apply State.putSec_keeps) | extract_lets | split
    | (dsimp -zeta only) | (dsimp +zetaDelta -zeta only)

theorem revokeEverything_keeps {s0 s : State} (h : Keeps s0 s) : Keeps s0 (revokeEverything s) := by
  unfold revokeEverything
  repeat' first
    | (with_reducible assumption) | intro _ | (with_reducible apply putSlot_keeps) | (with_reducible apply Keeps.fold)
    | extract_lets | split | (dsimp -zeta only) | (dsimp +zetaDelta -zeta only)

theorem zeroize_keeps {s0 s : State} (h : Keeps s0 s) : Keeps s0 (zeroize s) := by
  unfold zeroize
  repeat' first
    | (with_reducible assumption) | intro _ | (with_reducible apply State.putSec_keeps)
    | (with_reducible apply revokeEverything_keeps) | (with_reducible apply State.set_keeps) | extract_lets | split
    | (dsimp -zeta only) | (dsimp +zetaDelta -zeta only)

theorem activateNodes_keeps {s0 s : State} (h : Keeps s0 s) : Keeps s0 (activateNodes s) := by
  unfold activateNodes
  repeat' first
    | (with_reducible assumption) | intro _ | (with_reducible apply Keeps.ite) | (with_reducible apply Keeps.ite_fst)
    | (with_reducible apply State.putSec_keeps) | (with_reducible apply setLineField_keeps) | (with_reducible apply Keeps.fold)
    | extract_lets | split | (dsimp -zeta only) | (dsimp +zetaDelta -zeta only)

theorem activatePending_keeps {s0 s : State} (h : Keeps s0 s) : Keeps s0 (activatePending s) := by
  unfold activatePending
  repeat' first
    | (with_reducible assumption) | intro _ | (with_reducible apply putSlot_keeps) | (with_reducible apply State.putTree_keeps)
    | (with_reducible apply State.putPair_keeps) | (with_reducible apply State.putSec_keeps)
    | (with_reducible apply treeChanged_keeps) | (with_reducible apply activateNodes_keeps)
    | (with_reducible apply State.set_keeps) | extract_lets | split | (dsimp -zeta only) | (dsimp +zetaDelta -zeta only)

theorem epochBoundary_keeps {s0 s : State} (h : Keeps s0 s) : Keeps s0 (epochBoundary s) := by
  unfold epochBoundary
  repeat' first
    | (with_reducible assumption) | intro _ | (with_reducible apply Keeps.ite) | (with_reducible apply Keeps.ite_fst)
    | (with_reducible apply State.putSec_keeps) | (with_reducible apply activatePending_keeps) | extract_lets | split
    | (dsimp -zeta only) | (dsimp +zetaDelta -zeta only)

theorem applyTree_keeps {s0 s : State} (h : Keeps s0 s) (op : Nat) (args : List Nat) : Keeps s0 (applyTree s op args) := by
  unfold applyTree
  repeat' first
    | (with_reducible assumption) | intro _ | (with_reducible apply installEpoch_keeps)
    | (with_reducible apply raiseDistrict_keeps) | (with_reducible apply revokeDistrict_keeps)
    | (with_reducible apply revokeEpoch_keeps) | (with_reducible apply revokeEverything_keeps)
    | (with_reducible apply activatePending_keeps) | extract_lets | split | (dsimp -zeta only) | (dsimp +zetaDelta -zeta only)

theorem mirrorTree_keeps {s0 s : State} (h : Keeps s0 s) (op : Nat) (args : List Nat) : Keeps s0 (mirrorTree s op args) := by
  unfold mirrorTree
  repeat' first
    | (with_reducible assumption) | intro _ | (with_reducible apply applyTree_keeps) | (with_reducible apply viewTree_keeps)
    | (with_reducible apply State.putTree_keeps) | extract_lets | split | (dsimp -zeta only) | (dsimp +zetaDelta -zeta only)

theorem sendRekey_keeps {s0 s : State} (h : Keeps s0 s) (n : Nat) : Keeps s0 (sendRekey s n).1 := by
  unfold sendRekey
  repeat' first
    | (with_reducible assumption) | intro _ | (with_reducible apply sendDirect_keeps)
    | (with_reducible apply State.putSec_keeps) | (with_reducible refine Keeps.of_pair (by assumption) ?_) | extract_lets
    | split | (dsimp -zeta only) | (dsimp +zetaDelta -zeta only)

theorem sendRekeys_keeps {s0 : State} : ∀ (l : List Nat) {s : State}, Keeps s0 s → Keeps s0 (sendRekeys l s)
  | [], _, h => State.putSec_keeps h _
  | n :: t, s, h => by
    unfold sendRekeys
    repeat' first
      | (with_reducible assumption) | intro _ | (with_reducible apply sendRekeys_keeps t) | (with_reducible apply sendRekey_keeps)
      | (with_reducible apply State.putSec_keeps) | extract_lets | split | (dsimp -zeta only)

theorem pumpRekeys_keeps {s0 s : State} (h : Keeps s0 s) : Keeps s0 (pumpRekeys s) := by
  unfold pumpRekeys
  repeat' first
    | (with_reducible assumption) | intro _ | (with_reducible apply Keeps.ite) | (with_reducible apply Keeps.ite_fst)
    | (with_reducible apply sendRekeys_keeps) | extract_lets | split | (dsimp -zeta only) | (dsimp +zetaDelta -zeta only)

theorem errorState_keeps {s0 s : State} (h : Keeps s0 s) (k : Nat) : Keeps s0 (errorState s k) := by
  unfold errorState
  repeat' first
    | (with_reducible assumption) | intro _ | (with_reducible apply Keeps.ite) | (with_reducible apply Keeps.ite_fst)
    | (with_reducible apply endClaim_keeps) | (with_reducible apply postEvent_keeps) | (with_reducible apply State.set_keeps)
    | extract_lets | split | (dsimp -zeta only) | (dsimp +zetaDelta -zeta only)

theorem engineFails_keeps {s0 s : State} (h : Keeps s0 s) (b test : Nat) : Keeps s0 (engineFails s b test) := by
  unfold engineFails
  repeat' first
    | (with_reducible assumption) | intro _ | (with_reducible apply Keeps.ite) | (with_reducible apply Keeps.ite_fst)
    | (with_reducible apply State.setBitAt_keeps) | (with_reducible apply State.bump_keeps)
    | (with_reducible apply postEvent_keeps) | (with_reducible apply errorState_keeps) | extract_lets | split
    | (dsimp -zeta only) | (dsimp +zetaDelta -zeta only)

theorem testEngines_keeps {s0 s : State} (h : Keeps s0 s) (l : List Nat) (fails : List (Nat × Nat)) :
    Keeps s0 (testEngines s l fails) := by
  unfold testEngines
  repeat' first
    | (with_reducible assumption) | intro _ | (with_reducible apply Keeps.ite) | (with_reducible apply Keeps.ite_fst)
    | (with_reducible apply engineFails_keeps) | (with_reducible apply State.bumpWrap_keeps) | (with_reducible apply Keeps.fold)
    | extract_lets | split | (dsimp -zeta only) | (dsimp +zetaDelta -zeta only)

theorem setResult_keeps {s0 s : State} (h : Keeps s0 s) (q : Requester) (r : Nat) : Keeps s0 (setResult s q r) := by
  unfold setResult
  repeat' first
    | (with_reducible assumption) | intro _ | (with_reducible apply State.set_keeps) | extract_lets | split | (dsimp -zeta only)
    | (dsimp +zetaDelta -zeta only)

theorem startCommand_keeps {s0 s : State} (h : Keeps s0 s) (q : Requester) : Keeps s0 (startCommand s q) := by
  unfold startCommand
  repeat' first
    | (with_reducible assumption) | intro _ | (with_reducible apply Keeps.ite) | (with_reducible apply Keeps.ite_fst)
    | (with_reducible apply State.set_keeps) | (with_reducible apply State.putSec_keeps) | extract_lets | split
    | (dsimp -zeta only) | (dsimp +zetaDelta -zeta only)

theorem signedCommand_keeps {s0 s : State} (h : Keeps s0 s) (q : Requester) (op : Nat) (check : List Byte → Nat)
    (record : List Byte → List Nat) (run : List Byte → State → State) (hr : ∀ b t, Keeps s0 t → Keeps s0 (run b t)) :
    Keeps s0 (signedCommand s q op check record run) := by
  unfold signedCommand
  repeat' first
    | (with_reducible assumption) | intro _ | (with_reducible apply Keeps.ite) | (with_reducible apply setResult_keeps)
    | (with_reducible apply treeChanged_keeps) | (with_reducible apply State.bump_keeps)
    | (with_reducible apply State.putSec_keeps) | (with_reducible apply State.putTree_keeps) | (with_reducible apply hr)
    | extract_lets | split | (dsimp -zeta only)

theorem postRevoked_keeps {s0 s : State} (h : Keeps s0 s) (district kind gen epoch : Nat) :
    Keeps s0 (postRevoked s district kind gen epoch) := by
  unfold postRevoked
  repeat' first
    | (with_reducible assumption) | intro _ | (with_reducible apply postEvent_keeps) | extract_lets | split | (dsimp -zeta only)
    | (dsimp +zetaDelta -zeta only)

theorem setOwner_keeps {s0 s : State} (h : Keeps s0 s) (i : Nat) (o : Option (BitVec 256) × Bool) : Keeps s0 (setOwner s i o) := by
  unfold setOwner
  repeat' first
    | (with_reducible assumption) | intro _ | (with_reducible apply State.putOtp_keeps) | extract_lets | split
    | (dsimp -zeta only) | (dsimp +zetaDelta -zeta only)

theorem queueResponse_keeps {s0 s : State} (h : Keeps s0 s) (j : JoinSent) : Keeps s0 (queueResponse s j) := by
  unfold queueResponse
  repeat' first
    | (with_reducible assumption) | intro _ | (with_reducible apply Keeps.ite) | (with_reducible apply Keeps.ite_fst)
    | (with_reducible apply setLineField_keeps) | (with_reducible apply State.putSec_keeps)
    | (with_reducible apply State.bump_keeps) | (with_reducible apply storeFrame_keeps)
    | (with_reducible refine Keeps.of_pair (by assumption) ?_) | extract_lets | split | (dsimp -zeta only)
    | (dsimp +zetaDelta -zeta only)

theorem rejectJoin_keeps {s0 s : State} (h : Keeps s0 s) (eui reason : Nat) : Keeps s0 (rejectJoin s eui reason) := by
  unfold rejectJoin
  repeat' first
    | (with_reducible assumption) | intro _ | (with_reducible apply postEvent_keeps) | (with_reducible apply State.bump_keeps)
    | extract_lets | split | (dsimp -zeta only) | (dsimp +zetaDelta -zeta only)

theorem grantJoin_keeps {s0 s : State} (h : Keeps s0 s) (n : Nat) : Keeps s0 (grantJoin s n) := by
  unfold grantJoin
  repeat' first
    | (with_reducible assumption) | intro _ | (with_reducible apply Keeps.ite) | (with_reducible apply Keeps.ite_fst)
    | (with_reducible apply State.putDrift_keeps) | (with_reducible apply setLineField_keeps)
    | (with_reducible apply State.bump_keeps) | (with_reducible apply noteChange_keeps)
    | (with_reducible apply State.putSched_keeps) | extract_lets | split | (dsimp -zeta only) | (dsimp +zetaDelta -zeta only)

theorem acceptJoin_keeps {s0 s : State} (h : Keeps s0 s) (n eui j district mode path ant : Nat) (nonce qe : List Byte) :
    Keeps s0 (acceptJoin s n eui j district mode path ant nonce qe) := by
  unfold acceptJoin
  repeat' first
    | (with_reducible assumption) | intro _ | (with_reducible apply Keeps.ite) | (with_reducible apply Keeps.ite_fst)
    | (with_reducible apply forgetDrift_keeps) | (with_reducible apply freeMapEntry_keeps)
    | (with_reducible apply flushDownlink_keeps) | (with_reducible apply writeLine_keeps)
    | (with_reducible apply State.drew_keeps) | (with_reducible apply State.putSec_keeps)
    | (with_reducible apply State.putPair_keeps) | (with_reducible apply State.putSched_keeps)
    | (with_reducible apply grantJoin_keeps) | (with_reducible apply reserve_keeps) | (with_reducible apply queueResponse_keeps)
    | (with_reducible apply postEvent_keeps) | (with_reducible apply State.bump_keeps) | (with_reducible apply pumpRekeys_keeps)
    | extract_lets | split | (dsimp -zeta only) | (dsimp +zetaDelta -zeta only)

theorem decideJoin_keeps {s0 s : State} (h : Keeps s0 s) (eui mode path ant : Nat) (ie : List Byte) :
    Keeps s0 (decideJoin s eui mode path ant ie) := by
  unfold decideJoin
  repeat' first
    | (with_reducible assumption) | intro _ | (with_reducible apply Keeps.ite) | (with_reducible apply Keeps.ite_fst)
    | (with_reducible apply ehtLookup_keeps) | (with_reducible apply consumeLine_keeps)
    | (with_reducible apply rejectJoin_keeps) | (with_reducible apply acceptJoin_keeps) | (with_reducible apply ehtInsert_keeps)
    | (with_reducible refine Keeps.of_pair (by assumption) ?_) | extract_lets | split | (dsimp -zeta only)
    | (dsimp +zetaDelta -zeta only)

theorem joinRequest_keeps {s0 s : State} (h : Keeps s0 s) (eui mode path ant : Nat) (ie : List Byte) :
    Keeps s0 (joinRequest s eui mode path ant ie) := by
  unfold joinRequest
  repeat' first
    | (with_reducible assumption) | intro _ | (with_reducible apply Keeps.ite) | (with_reducible apply Keeps.ite_fst)
    | (with_reducible apply rejectJoin_keeps) | (with_reducible apply queueResponse_keeps)
    | (with_reducible apply decideJoin_keeps) | extract_lets | split | (dsimp -zeta only) | (dsimp +zetaDelta -zeta only)

end Sys2Proof.Machine
end

