-- ==== Sys2Proof/Laws/KeepsRxOps.lean ====
section
/-!
SUPPORT. What the operations of Machine/RxOps.lean keep (`Keeps`).
-/

namespace Sys2Proof.Machine

set_option linter.unusedVariables false
set_option linter.unusedTactic false
set_option linter.unreachableTactic false

theorem filterFrame_keeps {s0 s : State} (h : Keeps s0 s) (f : RxFrame) : Keeps s0 (filterFrame s f).1 := by
  unfold filterFrame
  repeat' first
    | (with_reducible assumption) | intro _ | (with_reducible apply Keeps.ite) | (with_reducible apply Keeps.ite_fst)
    | (with_reducible apply State.bump_keeps) | (with_reducible apply ehtLookup_keeps)
    | (with_reducible refine Keeps.of_pair (by assumption) ?_) | extract_lets | split | (dsimp -zeta only)
    | (dsimp +zetaDelta -zeta only)

theorem micFails_keeps {s0 s : State} (h : Keeps s0 s) : Keeps s0 (micFails s) := by
  unfold micFails
  repeat' first
    | (with_reducible assumption) | intro _ | (with_reducible apply State.bump_keeps) | extract_lets | split
    | (dsimp -zeta only) | (dsimp +zetaDelta -zeta only)

theorem orphanFrame_keeps {s0 s : State} (h : Keeps s0 s) : Keeps s0 (orphanFrame s) := by
  unfold orphanFrame
  repeat' first
    | (with_reducible assumption) | intro _ | (with_reducible apply micFails_keeps) | (with_reducible apply State.bump_keeps)
    | extract_lets | split | (dsimp -zeta only) | (dsimp +zetaDelta -zeta only)

theorem learnCopy_keeps {s0 s : State} (h : Keeps s0 s) (n path ant : Nat) (rssi : Int) :
    Keeps s0 (learnCopy s n path ant rssi) := by
  unfold learnCopy
  repeat' first
    | (with_reducible assumption) | intro _ | (with_reducible apply hbUpdate_keeps) | extract_lets | split | (dsimp -zeta only)
    | (dsimp +zetaDelta -zeta only)

theorem learnFrame_keeps {s0 s : State} (h : Keeps s0 s) (n : Nat) (f : RxFrame) : Keeps s0 (learnFrame s n f) := by
  unfold learnFrame
  repeat' first
    | (with_reducible assumption) | intro _ | (with_reducible apply Keeps.ite) | (with_reducible apply Keeps.ite_fst)
    | (with_reducible apply learnCopy_keeps) | (with_reducible apply setExchange_keeps) | (with_reducible apply Keeps.fold)
    | extract_lets | split | (dsimp -zeta only) | (dsimp +zetaDelta -zeta only)

theorem joinCrowd_keeps {s0 s : State} (h : Keeps s0 s) (n : Nat) (f : RxFrame) : Keeps s0 (joinCrowd s n f) := by
  unfold joinCrowd
  repeat' first
    | (with_reducible assumption) | intro _ | (with_reducible apply Keeps.ite) | (with_reducible apply Keeps.ite_fst)
    | (with_reducible apply State.putOsc_keeps) | extract_lets | split | (dsimp -zeta only) | (dsimp +zetaDelta -zeta only)

theorem observeFrame_keeps {s0 s : State} (h : Keeps s0 s) (n : Nat) (f : RxFrame) (accepted : Bool) :
    Keeps s0 (observeFrame s n f accepted) := by
  unfold observeFrame
  repeat' first
    | (with_reducible assumption) | intro _ | (with_reducible apply Keeps.ite) | (with_reducible apply Keeps.ite_fst)
    | (with_reducible apply observe_keeps) | extract_lets | split | (dsimp -zeta only) | (dsimp +zetaDelta -zeta only)

theorem frameHeard_keeps {s0 s : State} (h : Keeps s0 s) (n : Nat) (f : RxFrame) (accepted : Bool) :
    Keeps s0 (frameHeard s n f accepted) := by
  unfold frameHeard
  repeat' first
    | (with_reducible assumption) | intro _ | (with_reducible apply Keeps.ite) | (with_reducible apply Keeps.ite_fst)
    | (with_reducible apply observeFrame_keeps) | (with_reducible apply joinCrowd_keeps)
    | (with_reducible apply learnFrame_keeps) | (with_reducible apply writeLine_keeps) | (with_reducible apply postEvent_keeps)
    | (with_reducible apply agreementSettled_keeps) | (with_reducible apply setExchange_keeps) | extract_lets | split
    | (dsimp -zeta only) | (dsimp +zetaDelta -zeta only)

theorem deliver_keeps {s0 s : State} (h : Keeps s0 s) (n : Nat) (f : RxFrame) (p : List Byte) (written : Bool) :
    Keeps s0 (deliver s n f p written) := by
  unfold deliver
  repeat' first
    | (with_reducible assumption) | intro _ | (with_reducible apply Keeps.ite) | (with_reducible apply Keeps.ite_fst)
    | (with_reducible apply policeUplink_keeps) | (with_reducible apply deliverHost_keeps)
    | (with_reducible apply uplinkPayload_keeps) | (with_reducible refine Keeps.of_pair (by assumption) ?_) | extract_lets
    | split | (dsimp -zeta only) | (dsimp +zetaDelta -zeta only)

theorem answerFrame_keeps {s0 s : State} (h : Keeps s0 s) (n : Nat) (f : RxFrame) : Keeps s0 (answerFrame s n f) := by
  unfold answerFrame
  repeat' first
    | (with_reducible assumption) | intro _ | (with_reducible apply Keeps.ite) | (with_reducible apply Keeps.ite_fst)
    | (with_reducible apply nodeAckHeard_keeps) | (with_reducible apply planAck_keeps) | extract_lets | split
    | (dsimp -zeta only) | (dsimp +zetaDelta -zeta only)

theorem verifiedFrame_keeps {s0 s : State} (h : Keeps s0 s) (n : Nat) (f : RxFrame) (p : List Byte) (written : Bool) :
    Keeps s0 (verifiedFrame s n f p written) := by
  unfold verifiedFrame
  repeat' first
    | (with_reducible assumption) | intro _ | (with_reducible apply Keeps.ite) | (with_reducible apply Keeps.ite_fst)
    | (with_reducible apply learnFrame_keeps) | (with_reducible apply observeFrame_keeps)
    | (with_reducible apply joinCrowd_keeps) | (with_reducible apply deliver_keeps) | (with_reducible apply mapHeard_keeps)
    | (with_reducible apply answerFrame_keeps) | (with_reducible apply frameHeard_keeps)
    | (with_reducible apply State.bump_keeps) | extract_lets | split | (dsimp -zeta only) | (dsimp +zetaDelta -zeta only)

theorem firstCopy_keeps {s0 s : State} (h : Keeps s0 s) (n : Nat) (f : RxFrame) : Keeps s0 (firstCopy s n f) := by
  unfold firstCopy
  repeat' first
    | (with_reducible assumption) | intro _ | (with_reducible apply Keeps.ite) | (with_reducible apply Keeps.ite_fst)
    | (with_reducible apply setExchange_keeps) | extract_lets | split | (dsimp -zeta only) | (dsimp +zetaDelta -zeta only)

theorem judgeFrame_keeps {s0 s : State} (h : Keeps s0 s) (n : Nat) (t : CacheTag) (f : RxFrame) (written : Bool) :
    Keeps s0 (judgeFrame s n t f written) := by
  unfold judgeFrame
  repeat' first
    | (with_reducible assumption) | intro _ | (with_reducible apply Keeps.ite) | (with_reducible apply Keeps.ite_fst)
    | (with_reducible apply orphanFrame_keeps) | (with_reducible apply micFails_keeps)
    | (with_reducible apply verifiedFrame_keeps) | extract_lets | split | (dsimp -zeta only) | (dsimp +zetaDelta -zeta only)

theorem takeFrame_keeps {s0 s : State} (h : Keeps s0 s) (n : Nat) (f : RxFrame) (written : Bool) :
    Keeps s0 (takeFrame s n f written) := by
  unfold takeFrame
  repeat' first
    | (with_reducible assumption) | intro _ | (with_reducible apply Keeps.ite) | (with_reducible apply Keeps.ite_fst)
    | (with_reducible apply consumeLine_keeps) | (with_reducible apply State.bump_keeps)
    | (with_reducible apply learnCopy_keeps) | (with_reducible apply setExchange_keeps) | (with_reducible apply micFails_keeps)
    | (with_reducible apply firstCopy_keeps) | (with_reducible apply orphanFrame_keeps)
    | (with_reducible apply judgeFrame_keeps) | (with_reducible apply cacheTouch_keeps)
    | (with_reducible apply State.putSec_keeps) | extract_lets | split | (dsimp -zeta only) | (dsimp +zetaDelta -zeta only)

end Sys2Proof.Machine
end

