-- ==== Sys2Proof/Laws/KeepsSlotOps.lean ====
section
/-!
SUPPORT. What the operations of Machine/SlotOps.lean keep (`Keeps`).
-/

namespace Sys2Proof.Machine

set_option linter.unusedVariables false
set_option linter.unusedTactic false
set_option linter.unreachableTactic false

theorem considerNode_keeps {s0 : State} {acc : State × List WakeNode} (h : Keeps s0 acc.1) (n : Nat) : Keeps s0 (considerNode acc n).1 := by
  unfold considerNode
  repeat' first
    | (with_reducible assumption) | intro _ | (with_reducible apply Keeps.ite_fst) | (with_reducible apply Keeps.ite)
    | (with_reducible apply consumeLine_keeps) | (with_reducible apply State.bump_keeps)
    | (with_reducible apply State.set_keeps) | (with_reducible apply choiceParity_keeps) | extract_lets | split
    | (dsimp -zeta only)

theorem admitAll_keeps {s0 s : State} (h : Keeps s0 s) (l : List WakeNode) : Keeps s0 (admitAll s l).1 := by
  unfold admitAll
  repeat' first
    | (with_reducible assumption) | intro _ | (with_reducible apply Keeps.ite) | (with_reducible apply Keeps.ite_fst)
    | (with_reducible apply State.bump_keeps) | (with_reducible apply Keeps.foldl_fst) | extract_lets | split
    | (dsimp -zeta only) | (dsimp +zetaDelta -zeta only)

theorem moveWindow_keeps {s0 s : State} (h : Keeps s0 s) (p : Nat) (l : List WakeNode) : Keeps s0 (moveWindow s p l) := by
  unfold moveWindow
  repeat' first
    | (with_reducible assumption) | intro _ | (with_reducible apply Keeps.ite) | (with_reducible apply Keeps.ite_fst)
    | (with_reducible apply retune_keeps) | (with_reducible apply Keeps.foldl_fst) | extract_lets | split | (dsimp -zeta only)
    | (dsimp +zetaDelta -zeta only)

theorem assignEngines_keeps {s0 s : State} (h : Keeps s0 s) : Keeps s0 (assignEngines s) := by
  unfold assignEngines
  repeat' first
    | (with_reducible assumption) | intro _ | (with_reducible apply State.putPsm_keeps) | (with_reducible apply Keeps.foldl_fst)
    | extract_lets | split | (dsimp -zeta only) | (dsimp +zetaDelta -zeta only)

theorem planExchanges_keeps {s0 s : State} (h : Keeps s0 s) : Keeps s0 (planExchanges s) := by
  unfold planExchanges
  repeat' first
    | (with_reducible assumption) | intro _ | (with_reducible apply Keeps.ite) | (with_reducible apply Keeps.ite_fst)
    | (with_reducible apply moveWindow_keeps) | (with_reducible apply considerNode_keeps)
    | (with_reducible apply admitAll_keeps) | (with_reducible apply setExchange_keeps)
    | (with_reducible apply State.putSched_keeps) | (with_reducible apply State.set_keeps) | (with_reducible apply Keeps.fold)
    | (with_reducible apply Keeps.foldl_fst) | extract_lets | split | (dsimp -zeta only) | (dsimp +zetaDelta -zeta only)

theorem pollItem_keeps {s0 s : State} (h : Keeps s0 s) (n : Nat) (e : Exchange) : Keeps s0 (pollItem s n e).1 := by
  unfold pollItem
  repeat' first
    | (with_reducible assumption) | intro _ | (with_reducible apply Keeps.ite) | (with_reducible apply Keeps.ite_fst)
    | (with_reducible apply controlFrame_keeps) | (with_reducible refine Keeps.of_pair (by assumption) ?_) | extract_lets
    | split | (dsimp -zeta only) | (dsimp +zetaDelta -zeta only)

theorem sendPolls_keeps {s0 s : State} (h : Keeps s0 s) (p : Nat) : Keeps s0 (sendPolls s p) := by
  unfold sendPolls
  repeat' first
    | (with_reducible assumption) | intro _ | (with_reducible apply Keeps.ite) | (with_reducible apply Keeps.ite_fst)
    | (with_reducible apply pollItem_keeps) | (with_reducible apply planInterval_keeps) | (with_reducible apply Keeps.foldl_fst)
    | extract_lets | split | (dsimp -zeta only) | (dsimp +zetaDelta -zeta only)

theorem sendBeacon_keeps {s0 s : State} (h : Keeps s0 s) : Keeps s0 (sendBeacon s) := by
  unfold sendBeacon
  repeat' first
    | (with_reducible assumption) | intro _ | (with_reducible apply Keeps.ite) | (with_reducible apply Keeps.ite_fst)
    | (with_reducible apply storeFrame_keeps) | (with_reducible apply planInterval_keeps)
    | (with_reducible refine Keeps.of_pair (by assumption) ?_) | extract_lets | split | (dsimp -zeta only)
    | (dsimp +zetaDelta -zeta only)

theorem groupHead_keeps {s0 s : State} (h : Keeps s0 s) (g : Nat) : Keeps s0 (groupHead s g).1 := by
  unfold groupHead
  repeat' first
    | (with_reducible assumption) | intro _ | (with_reducible apply nextClass_keeps)
    | (with_reducible refine Keeps.of_pair (by assumption) ?_) | extract_lets | split | (dsimp -zeta only)
    | (dsimp +zetaDelta -zeta only)

theorem sendGroupSlot_keeps {s0 s : State} (h : Keeps s0 s) (g : Nat) : Keeps s0 (sendGroupSlot s g) := by
  unfold sendGroupSlot
  repeat' first
    | (with_reducible assumption) | intro _ | (with_reducible apply Keeps.ite) | (with_reducible apply Keeps.ite_fst)
    | (with_reducible apply groupHead_keeps) | (with_reducible apply putGroup_keeps) | (with_reducible apply planInterval_keeps)
    | (with_reducible apply Keeps.fold) | (with_reducible refine Keeps.of_pair (by assumption) ?_) | extract_lets | split
    | (dsimp -zeta only) | (dsimp +zetaDelta -zeta only)

theorem sendJoins_keeps {s0 s : State} (h : Keeps s0 s) : Keeps s0 (sendJoins s) := by
  unfold sendJoins
  repeat' first
    | (with_reducible assumption) | intro _ | (with_reducible apply Keeps.ite) | (with_reducible apply Keeps.ite_fst)
    | (with_reducible apply queueResponse_keeps) | (with_reducible apply State.setFrame_keeps)
    | (with_reducible apply planInterval_keeps) | (with_reducible apply Keeps.fold) | extract_lets | split | (dsimp -zeta only)
    | (dsimp +zetaDelta -zeta only)

theorem issueSlot_keeps {s0 s : State} (h : Keeps s0 s) : Keeps s0 (issueSlot s) := by
  unfold issueSlot
  repeat' first
    | (with_reducible assumption) | intro _ | (with_reducible apply Keeps.ite) | (with_reducible apply Keeps.ite_fst)
    | (with_reducible apply sendJoins_keeps) | (with_reducible apply sendGroupSlot_keeps)
    | (with_reducible apply sendBeacon_keeps) | (with_reducible apply sendPolls_keeps) | (with_reducible apply Keeps.fold)
    | extract_lets | split | (dsimp -zeta only) | (dsimp +zetaDelta -zeta only)

theorem groupsEnd_keeps {s0 s : State} (h : Keeps s0 s) : Keeps s0 (groupsEnd s) := by
  unfold groupsEnd
  repeat' first
    | (with_reducible assumption) | intro _ | (with_reducible apply Keeps.ite) | (with_reducible apply Keeps.ite_fst)
    | (with_reducible apply removeFrame_keeps) | (with_reducible apply State.bumpWrap_keeps)
    | (with_reducible apply putGroup_keeps) | (with_reducible apply Keeps.fold) | extract_lets | split | (dsimp -zeta only)
    | (dsimp +zetaDelta -zeta only)

theorem endSlot_keeps {s0 s : State} (h : Keeps s0 s) : Keeps s0 (endSlot s) := by
  unfold endSlot
  repeat' first
    | (with_reducible assumption) | intro _ | (with_reducible apply nodeAckMissed_keeps)
    | (with_reducible apply replyWindowEnds_keeps) | (with_reducible apply abandonFrame_keeps)
    | (with_reducible apply State.putPsm_keeps) | (with_reducible apply groupsEnd_keeps) | (with_reducible apply Keeps.fold)
    | extract_lets | split | (dsimp -zeta only) | (dsimp +zetaDelta -zeta only)

theorem countBoundary_keeps {s0 s : State} (h : Keeps s0 s) : Keeps s0 (countBoundary s) := by
  unfold countBoundary
  repeat' first
    | (with_reducible assumption) | intro _ | (with_reducible apply State.advanceTo_keeps)
    | (with_reducible apply State.putPsm_keeps) | (with_reducible apply State.putTb_keeps)
    | (with_reducible apply State.putPair_keeps) | (with_reducible apply applyPendingStep_keeps)
    | (with_reducible apply State.set_keeps) | extract_lets | split | (dsimp -zeta only) | (dsimp +zetaDelta -zeta only)

theorem takeoverServes_keeps {s0 s : State} (h : Keeps s0 s) : Keeps s0 (takeoverServes s) := by
  unfold takeoverServes
  repeat' first
    | (with_reducible assumption) | intro _ | (with_reducible apply Keeps.ite) | (with_reducible apply Keeps.ite_fst)
    | (with_reducible apply State.putPair_keeps) | (with_reducible apply switchDone_keeps) | extract_lets | split
    | (dsimp -zeta only) | (dsimp +zetaDelta -zeta only)

theorem countIdle_keeps {s0 s : State} (h : Keeps s0 s) : Keeps s0 (countIdle s) := by
  unfold countIdle
  repeat' first
    | (with_reducible assumption) | intro _ | (with_reducible apply Keeps.ite) | (with_reducible apply Keeps.ite_fst)
    | (with_reducible apply State.setPath_keeps) | (with_reducible apply Keeps.fold) | extract_lets | split | (dsimp -zeta only)
    | (dsimp +zetaDelta -zeta only)

theorem slotOnPaths_keeps {s0 s : State} (h : Keeps s0 s) : Keeps s0 (slotOnPaths s) := by
  unfold slotOnPaths
  repeat' first
    | (with_reducible assumption) | intro _ | (with_reducible apply viewTone_keeps) | (with_reducible apply sliceBegins_keeps)
    | (with_reducible apply Keeps.fold) | extract_lets | split | (dsimp -zeta only) | (dsimp +zetaDelta -zeta only)

theorem boundaryDue_keeps {s0 s : State} (h : Keeps s0 s) : Keeps s0 (boundaryDue s) := by
  unfold boundaryDue
  repeat' first
    | (with_reducible assumption) | intro _ | (with_reducible apply Keeps.ite) | (with_reducible apply Keeps.ite_fst)
    | (with_reducible apply epochBoundary_keeps) | (with_reducible apply restoreEnd_keeps)
    | (with_reducible apply takeoverServes_keeps) | (with_reducible apply State.putSec_keeps)
    | (with_reducible apply drainCheck_keeps) | (with_reducible apply pumpRekeys_keeps) | extract_lets | split
    | (dsimp -zeta only) | (dsimp +zetaDelta -zeta only)

end Sys2Proof.Machine
end

