-- ==== Sys2Proof/Laws/KeepsUpdOps.lean ====
section
/-!
SUPPORT. What the operations of Machine/UpdOps.lean keep (`Keeps`).
-/

namespace Sys2Proof.Machine

set_option linter.unusedVariables false
set_option linter.unusedTactic false
set_option linter.unreachableTactic false

theorem setUpd_keeps {s0 s : State} (h : Keeps s0 s) (state : Nat) : Keeps s0 (setUpd s state) := by
  unfold setUpd
  repeat' first
    | (with_reducible assumption) | intro _ | (with_reducible apply State.set_keeps) | extract_lets | split | (dsimp -zeta only)
    | (dsimp +zetaDelta -zeta only)

theorem updResult_keeps {s0 s : State} (h : Keeps s0 s) (r : Nat) : Keeps s0 (updResult s r) := by
  unfold updResult
  repeat' first
    | (with_reducible assumption) | intro _ | (with_reducible apply State.set_keeps) | extract_lets | split | (dsimp -zeta only)
    | (dsimp +zetaDelta -zeta only)

theorem badUpdate_keeps {s0 s : State} (h : Keeps s0 s) : Keeps s0 (badUpdate s) := by
  unfold badUpdate
  repeat' first
    | (with_reducible assumption) | intro _ | (with_reducible apply updResult_keeps) | (with_reducible apply State.bump_keeps)
    | extract_lets | split | (dsimp -zeta only) | (dsimp +zetaDelta -zeta only)

theorem slotChange_keeps {s0 s : State} (h : Keeps s0 s) (comp target state : Nat) (active : Bool) (other : Option (Nat × Bool)) (floor : Nat) :
    Keeps s0 (slotChange s comp target state active other floor).1 := by
  unfold slotChange
  repeat' first
    | (with_reducible assumption) | intro _ | (with_reducible apply commitDirectory_keeps)
    | (with_reducible refine Keeps.of_pair (by assumption) ?_) | extract_lets | split | (dsimp -zeta only)
    | (dsimp +zetaDelta -zeta only)

theorem rejectImage_keeps {s0 s : State} (h : Keeps s0 s) (comp reason : Nat) : Keeps s0 (rejectImage s comp reason) := by
  unfold rejectImage
  repeat' first
    | (with_reducible assumption) | intro _ | (with_reducible apply postEvent_keeps) | (with_reducible apply updResult_keeps)
    | (with_reducible apply State.set_keeps) | extract_lets | split | (dsimp -zeta only) | (dsimp +zetaDelta -zeta only)

theorem stageImage_keeps {s0 s : State} (h : Keeps s0 s) (comp : Nat) : Keeps s0 (stageImage s comp) := by
  unfold stageImage
  repeat' first
    | (with_reducible assumption) | intro _ | (with_reducible apply Keeps.ite) | (with_reducible apply Keeps.ite_fst)
    | (with_reducible apply rejectImage_keeps) | (with_reducible apply slotChange_keeps)
    | (with_reducible apply updResult_keeps) | (with_reducible apply refuseFlash_keeps)
    | (with_reducible apply countSlotWrite_keeps) | (with_reducible apply programSlot_keeps)
    | (with_reducible apply State.putUpd_keeps) | (with_reducible apply setUpd_keeps) | (with_reducible apply State.set_keeps)
    | (with_reducible refine Keeps.of_pair (by assumption) ?_) | extract_lets | split | (dsimp -zeta only)
    | (dsimp +zetaDelta -zeta only)

theorem stageEnds_keeps {s0 s : State} (h : Keeps s0 s) (readOk : Bool) : Keeps s0 (stageEnds s readOk) := by
  unfold stageEnds
  repeat' first
    | (with_reducible assumption) | intro _ | (with_reducible apply Keeps.ite) | (with_reducible apply Keeps.ite_fst)
    | (with_reducible apply setUpd_keeps) | (with_reducible apply rejectImage_keeps)
    | (with_reducible apply commitDirectory_keeps) | (with_reducible apply updResult_keeps)
    | (with_reducible apply postEvent_keeps) | (with_reducible refine Keeps.of_pair (by assumption) ?_) | extract_lets | split
    | (dsimp -zeta only) | (dsimp +zetaDelta -zeta only)

theorem liveApply_keeps {s0 s : State} (h : Keeps s0 s) (slot first : Nat) (img : List Byte) :
    Keeps s0 (liveApply s slot first img) := by
  unfold liveApply
  repeat' first
    | (with_reducible assumption) | intro _ | (with_reducible apply Keeps.ite) | (with_reducible apply Keeps.ite_fst)
    | (with_reducible apply configTaken_keeps) | (with_reducible apply putValues_keeps)
    | (with_reducible apply State.putBoot_keeps) | (with_reducible apply imageInForce_keeps)
    | (with_reducible apply State.putUpd_keeps) | (with_reducible apply switchEpoch_keeps)
    | (with_reducible apply Keeps.foldl_fst) | extract_lets | split | (dsimp -zeta only) | (dsimp +zetaDelta -zeta only)

theorem startHandover_keeps {s0 s : State} (h : Keeps s0 s) (state : Nat) : Keeps s0 (startHandover s state) := by
  unfold startHandover
  repeat' first
    | (with_reducible assumption) | intro _ | (with_reducible apply Keeps.ite) | (with_reducible apply Keeps.ite_fst)
    | (with_reducible apply State.putUpd_keeps) | (with_reducible apply resetApp_keeps) | (with_reducible apply setUpd_keeps)
    | extract_lets | split | (dsimp -zeta only) | (dsimp +zetaDelta -zeta only)

theorem fallBack_keeps {s0 s : State} (h : Keeps s0 s) (reason : Nat) : Keeps s0 (fallBack s reason) := by
  unfold fallBack
  repeat' first
    | (with_reducible assumption) | intro _ | (with_reducible apply slotChange_keeps)
    | (with_reducible apply imageInForce_keeps) | (with_reducible apply State.putUpd_keeps)
    | (with_reducible apply setUpd_keeps) | (with_reducible apply State.set_keeps) | (with_reducible apply State.bump_keeps)
    | (with_reducible apply postEvent_keeps) | (with_reducible refine Keeps.of_pair (by assumption) ?_) | extract_lets | split
    | (dsimp -zeta only) | (dsimp +zetaDelta -zeta only)

theorem beginFallback_keeps {s0 s : State} (h : Keeps s0 s) (reason : Nat) : Keeps s0 (beginFallback s reason) := by
  unfold beginFallback
  repeat' first
    | (with_reducible assumption) | intro _ | (with_reducible apply Keeps.ite) | (with_reducible apply Keeps.ite_fst)
    | (with_reducible apply State.putUpd_keeps) | (with_reducible apply State.set_keeps)
    | (with_reducible apply startPlanned_keeps) | (with_reducible apply setUpd_keeps)
    | (with_reducible apply startHandover_keeps) | extract_lets | split | (dsimp -zeta only) | (dsimp +zetaDelta -zeta only)

theorem healthFails_keeps {s0 s : State} (h : Keeps s0 s) (comps : List Nat) : Keeps s0 (healthFails s comps) := by
  unfold healthFails
  repeat' first
    | (with_reducible assumption) | intro _ | (with_reducible apply Keeps.ite) | (with_reducible apply Keeps.ite_fst)
    | (with_reducible apply State.putUpd_keeps) | (with_reducible apply beginFallback_keeps) | extract_lets | split
    | (dsimp -zeta only) | (dsimp +zetaDelta -zeta only)

theorem secHealth_keeps {s0 s : State} (h : Keeps s0 s) (before : State) : Keeps s0 (secHealth before s) := by
  unfold secHealth
  repeat' first
    | (with_reducible assumption) | intro _ | (with_reducible apply Keeps.ite) | (with_reducible apply healthFails_keeps)
    | extract_lets | split | (dsimp -zeta only)

theorem handoverDone_keeps {s0 s : State} (h : Keeps s0 s) (units : Nat) : Keeps s0 (handoverDone s units) := by
  unfold handoverDone
  repeat' first
    | (with_reducible assumption) | intro _ | (with_reducible apply Keeps.ite) | (with_reducible apply Keeps.ite_fst)
    | (with_reducible apply postEvent_keeps) | (with_reducible apply setUpd_keeps) | (with_reducible apply State.putUpd_keeps)
    | (with_reducible apply State.set_keeps) | (with_reducible apply beginFallback_keeps) | extract_lets | split
    | (dsimp -zeta only) | (dsimp +zetaDelta -zeta only)

theorem takeOver_keeps {s0 s : State} (h : Keeps s0 s) : Keeps s0 (takeOver s) := by
  unfold takeOver
  repeat' first
    | (with_reducible assumption) | intro _ | (with_reducible apply Keeps.ite) | (with_reducible apply Keeps.ite_fst)
    | (with_reducible apply imageInForce_keeps) | (with_reducible apply releaseApp_keeps) | (with_reducible apply loadApp_keeps)
    | extract_lets | split | (dsimp -zeta only) | (dsimp +zetaDelta -zeta only)

theorem endHandover_keeps {s0 s : State} (h : Keeps s0 s) (fails : List (Nat × Nat)) : Keeps s0 (endHandover s fails) := by
  unfold endHandover
  repeat' first
    | (with_reducible assumption) | intro _ | (with_reducible apply Keeps.ite) | (with_reducible apply Keeps.ite_fst)
    | (with_reducible apply fallBack_keeps) | (with_reducible apply testEngines_keeps) | (with_reducible apply takeOver_keeps)
    | (with_reducible apply handoverDone_keeps) | extract_lets | split | (dsimp -zeta only) | (dsimp +zetaDelta -zeta only)

theorem swapMicrocode_keeps {s0 s : State} (h : Keeps s0 s) : Keeps s0 (swapMicrocode s) := by
  unfold swapMicrocode
  repeat' first
    | (with_reducible assumption) | intro _ | (with_reducible apply Keeps.ite) | (with_reducible apply Keeps.ite_fst)
    | (with_reducible apply State.setCe_keeps) | (with_reducible apply State.putUpd_keeps) | (with_reducible apply Keeps.fold)
    | extract_lets | split | (dsimp -zeta only) | (dsimp +zetaDelta -zeta only)

theorem activateChange_keeps {s0 s : State} (h : Keeps s0 s) : Keeps s0 (activateChange s).1 := by
  unfold activateChange
  repeat' first
    | (with_reducible assumption) | intro _ | (with_reducible apply slotChange_keeps) | extract_lets | split
    | (dsimp -zeta only) | (dsimp +zetaDelta -zeta only)

theorem activate_keeps {s0 s : State} (h : Keeps s0 s) (swap : Bool) : Keeps s0 (activate s swap) := by
  unfold activate
  repeat' first
    | (with_reducible assumption) | intro _ | (with_reducible apply Keeps.ite) | (with_reducible apply Keeps.ite_fst)
    | (with_reducible apply updResult_keeps) | (with_reducible apply activateChange_keeps)
    | (with_reducible apply postEvent_keeps) | (with_reducible apply State.putUpd_keeps) | (with_reducible apply setUpd_keeps)
    | (with_reducible apply startPlanned_keeps) | (with_reducible apply startHandover_keeps)
    | (with_reducible refine Keeps.of_pair (by assumption) ?_) | extract_lets | split | (dsimp -zeta only)
    | (dsimp +zetaDelta -zeta only)

theorem confirmImage_keeps {s0 s : State} (h : Keeps s0 s) (comp slot spent : Nat) : Keeps s0 (confirmImage s comp slot spent) := by
  unfold confirmImage
  repeat' first
    | (with_reducible assumption) | intro _ | (with_reducible apply Keeps.ite) | (with_reducible apply Keeps.ite_fst)
    | (with_reducible apply slotChange_keeps) | (with_reducible apply State.putOtp_keeps)
    | (with_reducible apply State.bump_keeps) | (with_reducible apply postEvent_keeps)
    | (with_reducible refine Keeps.of_pair (by assumption) ?_) | extract_lets | split | (dsimp -zeta only)
    | (dsimp +zetaDelta -zeta only)

theorem confirmProbation_keeps {s0 s : State} (h : Keeps s0 s) (p : Probation) : Keeps s0 (confirmProbation s p) := by
  unfold confirmProbation
  repeat' first
    | (with_reducible assumption) | intro _ | (with_reducible apply Keeps.ite) | (with_reducible apply Keeps.ite_fst)
    | (with_reducible apply confirmImage_keeps) | (with_reducible apply setUpd_keeps)
    | (with_reducible apply State.putUpd_keeps) | (with_reducible apply State.set_keeps) | extract_lets | split
    | (dsimp -zeta only) | (dsimp +zetaDelta -zeta only)

end Sys2Proof.Machine
end

