-- ==== Sys2Proof/Laws/KeepsStartOps.lean ====
section
/-!
SUPPORT. What the operations of Machine/StartOps.lean keep (`Keeps`).
-/

namespace Sys2Proof.Machine

set_option linter.unusedVariables false
set_option linter.unusedTactic false
set_option linter.unreachableTactic false

theorem probationFallback_keeps {s0 s : State} (h : Keeps s0 s) : Keeps s0 (probationFallback s) := by
  unfold probationFallback
  repeat' first
    | (with_reducible assumption) | intro _ | (with_reducible apply Keeps.ite) | (with_reducible apply Keeps.ite_fst)
    | (with_reducible apply slotChange_keeps) | (with_reducible apply State.putUpd_keeps)
    | (with_reducible apply State.putBoot_keeps) | (with_reducible refine Keeps.of_pair (by assumption) ?_) | extract_lets
    | split | (dsimp -zeta only) | (dsimp +zetaDelta -zeta only)

theorem bootError_keeps {s0 s : State} (h : Keeps s0 s) (comp first second : Nat) : Keeps s0 (bootError s comp first second) := by
  unfold bootError
  repeat' first
    | (with_reducible assumption) | intro _ | (with_reducible apply State.set_keeps) | extract_lets | split | (dsimp -zeta only)
    | (dsimp +zetaDelta -zeta only)

theorem postSlotFallback_keeps {s0 s : State} (h : Keeps s0 s) (comp first second slot : Nat) :
    Keeps s0 (postSlotFallback s comp first second slot) := by
  unfold postSlotFallback
  repeat' first
    | (with_reducible assumption) | intro _ | (with_reducible apply postEvent_keeps) | extract_lets | split | (dsimp -zeta only)
    | (dsimp +zetaDelta -zeta only)

theorem nextComponent_keeps {s0 s : State} (h : Keeps s0 s) : Keeps s0 (nextComponent s) := by
  unfold nextComponent
  repeat' first
    | (with_reducible assumption) | intro _ | (with_reducible apply Keeps.ite) | (with_reducible apply Keeps.ite_fst)
    | (with_reducible apply State.putBoot_keeps) | (with_reducible apply setPhase_keeps) | extract_lets | split
    | (dsimp -zeta only) | (dsimp +zetaDelta -zeta only)

theorem slotBoots_keeps {s0 s : State} (h : Keeps s0 s) (slot : Nat) (img : List Byte) : Keeps s0 (slotBoots s slot img) := by
  unfold slotBoots
  repeat' first
    | (with_reducible assumption) | intro _ | (with_reducible apply Keeps.ite) | (with_reducible apply Keeps.ite_fst)
    | (with_reducible apply imageInForce_keeps) | (with_reducible apply postSlotFallback_keeps)
    | (with_reducible apply State.setBitAt_keeps) | extract_lets | split | (dsimp -zeta only) | (dsimp +zetaDelta -zeta only)

theorem slotFails_keeps {s0 s : State} (h : Keeps s0 s) (reason : Nat) (both : Nat → Nat → State → State)
    (hb : ∀ a b t, Keeps s0 t → Keeps s0 (both a b t)) : Keeps s0 (slotFails s reason both) := by
  unfold slotFails
  repeat' first
    | (with_reducible assumption) | intro _ | (with_reducible apply Keeps.ite) | (with_reducible apply bootError_keeps)
    | (with_reducible apply State.putBoot_keeps) | (with_reducible apply hb) | extract_lets | split | (dsimp -zeta only)

theorem componentMissing_keeps {s0 s : State} (h : Keeps s0 s) (comp first second : Nat) :
    Keeps s0 (componentMissing comp first second s) := by
  unfold componentMissing
  repeat' first
    | (with_reducible assumption) | intro _ | (with_reducible apply Keeps.ite) | (with_reducible apply Keeps.ite_fst)
    | (with_reducible apply nextComponent_keeps) | (with_reducible apply postSlotFallback_keeps)
    | (with_reducible apply imageWait_keeps) | extract_lets | split | (dsimp -zeta only) | (dsimp +zetaDelta -zeta only)

theorem postRetry_keeps {s0 s : State} (h : Keeps s0 s) : Keeps s0 (postRetry s) := by
  unfold postRetry
  repeat' first
    | (with_reducible assumption) | intro _ | (with_reducible apply postEvent_keeps)
    | (with_reducible apply State.putBoot_keeps) | extract_lets | split | (dsimp -zeta only) | (dsimp +zetaDelta -zeta only)

theorem postLfLoss_keeps {s0 s : State} (h : Keeps s0 s) : Keeps s0 (postLfLoss s) := by
  unfold postLfLoss
  repeat' first
    | (with_reducible assumption) | intro _ | (with_reducible apply Keeps.ite) | (with_reducible apply Keeps.ite_fst)
    | (with_reducible apply postEvent_keeps) | (with_reducible apply State.putBoot_keeps) | extract_lets | split
    | (dsimp -zeta only) | (dsimp +zetaDelta -zeta only)

theorem slotByte_keeps {s0 s : State} (h : Keeps s0 s) (slot : Nat) : Keeps s0 (slotByte s slot).1 := by
  unfold slotByte
  repeat' first
    | (with_reducible assumption) | intro _ | (with_reducible apply Keeps.ite) | (with_reducible apply Keeps.ite_fst)
    | (with_reducible apply State.drew_keeps) | extract_lets | split | (dsimp -zeta only) | (dsimp +zetaDelta -zeta only)

theorem configWait_keeps {s0 s : State} (h : Keeps s0 s) : Keeps s0 (configWait s) := by
  unfold configWait
  repeat' first
    | (with_reducible assumption) | intro _ | (with_reducible apply setPhase_keeps) | (with_reducible apply State.putBoot_keeps)
    | extract_lets | split | (dsimp -zeta only) | (dsimp +zetaDelta -zeta only)

theorem configRejected_keeps {s0 s : State} (h : Keeps s0 s) (slot reason offset : Nat) :
    Keeps s0 (configRejected s slot reason offset) := by
  unfold configRejected
  repeat' first
    | (with_reducible assumption) | intro _ | (with_reducible apply State.set_keeps) | (with_reducible apply slotByte_keeps)
    | (with_reducible apply postEvent_keeps) | (with_reducible refine Keeps.of_pair (by assumption) ?_) | extract_lets | split
    | (dsimp -zeta only) | (dsimp +zetaDelta -zeta only)

theorem offerImage_keeps {s0 s : State} (h : Keeps s0 s) (comp : Nat) (img : List Byte) : Keeps s0 (offerImage s comp img).1 := by
  unfold offerImage
  repeat' first
    | (with_reducible assumption) | intro _ | (with_reducible apply Keeps.ite) | (with_reducible apply Keeps.ite_fst)
    | (with_reducible apply configWait_keeps) | (with_reducible apply configRejected_keeps)
    | (with_reducible apply setPhase_keeps) | (with_reducible apply State.putBoot_keeps)
    | (with_reducible apply State.putUpd_keeps) | (with_reducible apply nextComponent_keeps)
    | (with_reducible apply imageInForce_keeps) | extract_lets | split | (dsimp -zeta only) | (dsimp +zetaDelta -zeta only)

end Sys2Proof.Machine
end

