-- ==== Sys2Proof/Laws/KeepsAccessOps.lean ====
section
/-!
SUPPORT. What the operations of Machine/AccessOps.lean keep (`Keeps`).
-/

namespace Sys2Proof.Machine

set_option linter.unusedVariables false
set_option linter.unusedTactic false
set_option linter.unreachableTactic false

theorem writeMsix_keeps {s0 s : State} (h : Keeps s0 s) (k v : Nat) : Keeps s0 (writeMsix s k v) := by
  unfold writeMsix
  repeat' first
    | (with_reducible assumption) | intro _ | (with_reducible apply Keeps.ite) | (with_reducible apply Keeps.ite_fst)
    | (with_reducible apply State.putPcie_keeps) | (with_reducible apply flushVector_keeps) | (with_reducible apply cellsWf_nil)
    | (with_reducible apply flashProgram_wf) | (with_reducible apply flashClear_wf) | (with_reducible apply setBytes_wf)
    | (with_reducible apply cellsWf_filter) | (with_reducible apply cellsWf_write) | (with_reducible apply And.intro)
    | (with_reducible exact wf_regs (by assumption)) | (with_reducible exact wf_flash (by assumption))
    | (with_reducible exact wf_window (by assumption)) | (with_reducible exact wf_ncs (by assumption))
    | (with_reducible exact wf_eht (by assumption)) | (with_reducible exact wf_hb (by assumption))
    | (with_reducible exact wf_shadow (by assumption)) | (with_reducible exact wf_msix (by assumption))
    | (with_reducible exact wf_iram (by assumption)) | (with_reducible exact wf_dram (by assumption)) | extract_lets | split
    | (dsimp -zeta only) | (dsimp +zetaDelta -zeta only)

theorem clearRc_keeps {s0 s : State} (h : Keeps s0 s) (key : Nat) (l : List FieldDesc) : Keeps s0 (clearRc s key l) := by
  unfold clearRc
  repeat' first
    | (with_reducible assumption) | intro _ | (with_reducible apply Keeps.ite) | (with_reducible apply Keeps.ite_fst)
    | (with_reducible apply State.set_keeps) | (with_reducible apply Keeps.fold) | extract_lets | split | (dsimp -zeta only)
    | (dsimp +zetaDelta -zeta only)

theorem afterRead_keeps {s0 s : State} (h : Keeps s0 s) (q : Requester) (off : Nat) : Keeps s0 (afterRead s q off) := by
  unfold afterRead
  repeat' first
    | (with_reducible assumption) | intro _ | (with_reducible apply clearRc_keeps) | extract_lets | split | (dsimp -zeta only)
    | (dsimp +zetaDelta -zeta only)

theorem writeField_keeps {s0 s : State} (h : Keeps s0 s) (key v : Nat) (f : FieldDesc) : Keeps s0 (writeField s key v f) := by
  unfold writeField
  repeat' first
    | (with_reducible assumption) | intro _ | (with_reducible apply Keeps.ite) | (with_reducible apply Keeps.ite_fst)
    | (with_reducible apply State.set_keeps) | extract_lets | split | (dsimp -zeta only) | (dsimp +zetaDelta -zeta only)

theorem plainWrite_keeps {s0 s : State} (h : Keeps s0 s) (key v : Nat) (l : List FieldDesc) : Keeps s0 (plainWrite s key v l) := by
  unfold plainWrite
  repeat' first
    | (with_reducible assumption) | intro _ | (with_reducible apply writeField_keeps) | (with_reducible apply Keeps.fold)
    | extract_lets | split | (dsimp -zeta only) | (dsimp +zetaDelta -zeta only)

theorem writePlain_keeps {s0 s : State} (h : Keeps s0 s) (q : Requester) (off v : Nat) : Keeps s0 (writePlain s q off v) := by
  unfold writePlain
  repeat' first
    | (with_reducible assumption) | intro _ | (with_reducible apply Keeps.ite) | (with_reducible apply Keeps.ite_fst)
    | (with_reducible apply plainWrite_keeps) | extract_lets | split | (dsimp -zeta only) | (dsimp +zetaDelta -zeta only)

theorem countNarrow_keeps {s0 s : State} (h : Keeps s0 s) (q : Requester) : Keeps s0 (countNarrow s q) := by
  unfold countNarrow
  repeat' first
    | (with_reducible assumption) | intro _ | (with_reducible apply State.bump_keeps) | extract_lets | split
    | (dsimp -zeta only) | (dsimp +zetaDelta -zeta only)

theorem writeGpioCfg_keeps {s0 s : State} (h : Keeps s0 s) (n v : Nat) : Keeps s0 (writeGpioCfg s n v) := by
  unfold writeGpioCfg
  repeat' first
    | (with_reducible assumption) | intro _ | (with_reducible apply Keeps.ite) | (with_reducible apply Keeps.ite_fst)
    | (with_reducible apply State.set_keeps) | (with_reducible apply aicLevel_keeps) | extract_lets | split | (dsimp -zeta only)
    | (dsimp +zetaDelta -zeta only)

theorem writeAicSrc_keeps {s0 s : State} (h : Keeps s0 s) (q : Requester) (n v : Nat) : Keeps s0 (writeAicSrc s q n v) := by
  unfold writeAicSrc
  repeat' first
    | (with_reducible assumption) | intro _ | (with_reducible apply Keeps.ite) | (with_reducible apply Keeps.ite_fst)
    | (with_reducible apply aicUpdate_keeps) | (with_reducible apply State.set_keeps) | extract_lets | split
    | (dsimp -zeta only) | (dsimp +zetaDelta -zeta only)

theorem writeHqBase_keeps {s0 s : State} (h : Keeps s0 s) (q : Requester) (n off v : Nat) : Keeps s0 (writeHqBase s q n off v) := by
  unfold writeHqBase
  repeat' first
    | (with_reducible assumption) | intro _ | (with_reducible apply Keeps.ite) | (with_reducible apply Keeps.ite_fst)
    | (with_reducible apply State.set_keeps) | (with_reducible apply writePlain_keeps) | extract_lets | split
    | (dsimp -zeta only) | (dsimp +zetaDelta -zeta only)

theorem writeProb_keeps {s0 s : State} (h : Keeps s0 s) (v : Nat) : Keeps s0 (writeProb s v) := by
  unfold writeProb
  repeat' first
    | (with_reducible assumption) | intro _ | (with_reducible apply Keeps.ite) | (with_reducible apply Keeps.ite_fst)
    | (with_reducible apply State.set_keeps) | extract_lets | split | (dsimp -zeta only) | (dsimp +zetaDelta -zeta only)

theorem ownerWrite_keeps {s0 s : State} (h : Keeps s0 s) (q : Requester) (act : State → State)
    (ha : ∀ t, Keeps s0 t → Keeps s0 (act t)) : Keeps s0 (ownerWrite s q act) := by
  unfold ownerWrite
  repeat' first
    | (with_reducible assumption) | intro _ | (with_reducible apply Keeps.ite) | (with_reducible apply ha)
    | (with_reducible apply notOwner_keeps) | extract_lets | split | (dsimp -zeta only)

theorem snapAnswer_keeps {s0 s : State} (h : Keeps s0 s) (q : Requester) (snap : Option Nat) (live : Nat) (taken : Snapshots) :
    Keeps s0 (snapAnswer s q snap live taken) := by
  unfold snapAnswer
  repeat' first
    | (with_reducible assumption) | intro _ | (with_reducible apply State.answer_keeps)
    | (with_reducible apply State.setSnaps_keeps) | extract_lets | split | (dsimp -zeta only) | (dsimp +zetaDelta -zeta only)

theorem readTsi_keeps {s0 s : State} (h : Keeps s0 s) (q : Requester) (n part : Nat) : Keeps s0 (readTsi s q n part) := by
  unfold readTsi
  repeat' first
    | (with_reducible assumption) | intro _ | (with_reducible apply State.setSnaps_keeps)
    | (with_reducible apply State.answer_keeps) | (with_reducible apply snapAnswer_keeps) | extract_lets | split
    | (dsimp -zeta only) | (dsimp +zetaDelta -zeta only)

theorem readGtCap_keeps {s0 s : State} (h : Keeps s0 s) (q : Requester) (n : Nat) : Keeps s0 (readGtCap s q n) := by
  unfold readGtCap
  repeat' first
    | (with_reducible assumption) | intro _ | (with_reducible apply Keeps.ite) | (with_reducible apply Keeps.ite_fst)
    | (with_reducible apply State.setSnaps_keeps) | (with_reducible apply State.answer_keeps)
    | (with_reducible apply snapAnswer_keeps) | extract_lets | split | (dsimp -zeta only) | (dsimp +zetaDelta -zeta only)

theorem readGtHigh_keeps {s0 s : State} (h : Keeps s0 s) (q : Requester) (n : Nat) : Keeps s0 (readGtHigh s q n) := by
  unfold readGtHigh
  repeat' first
    | (with_reducible assumption) | intro _ | (with_reducible apply snapAnswer_keeps) | extract_lets | split
    | (dsimp -zeta only) | (dsimp +zetaDelta -zeta only)

theorem closeWindow_keeps {s0 s : State} (h : Keeps s0 s) (k : Nat) : Keeps s0 (closeWindow s k) := by
  unfold closeWindow
  repeat' first
    | (with_reducible assumption) | intro _ | (with_reducible apply State.putApp_keeps) | (with_reducible apply cellsWf_nil)
    | (with_reducible apply flashProgram_wf) | (with_reducible apply flashClear_wf) | (with_reducible apply setBytes_wf)
    | (with_reducible apply cellsWf_filter) | (with_reducible apply cellsWf_write) | (with_reducible apply And.intro)
    | (with_reducible exact wf_regs (by assumption)) | (with_reducible exact wf_flash (by assumption))
    | (with_reducible exact wf_window (by assumption)) | (with_reducible exact wf_ncs (by assumption))
    | (with_reducible exact wf_eht (by assumption)) | (with_reducible exact wf_hb (by assumption))
    | (with_reducible exact wf_shadow (by assumption)) | (with_reducible exact wf_msix (by assumption))
    | (with_reducible exact wf_iram (by assumption)) | (with_reducible exact wf_dram (by assumption))
    | (exact (wf_iram ‹Memory.wf _ = true› :)) | (exact (wf_dram ‹Memory.wf _ = true› :)) | extract_lets | split
    | (dsimp -zeta only) | (dsimp +zetaDelta -zeta only)

end Sys2Proof.Machine
end

