-- ==== Sys2Proof/Laws/KeepsAic.lean ====
section
/-!
SUPPORT. What the operations of Machine/Aic.lean keep (`Keeps`).
-/

namespace Sys2Proof.Machine

set_option linter.unusedVariables false
set_option linter.unusedTactic false
set_option linter.unreachableTactic false

theorem execGpioSetWrite_keeps {s0 s : State} (h : Keeps s0 s) (v : Nat) : Completes s0 (execGpioSetWrite v s) := by
  unfold execGpioSetWrite
  repeat' first
    | (with_reducible assumption) | intro _ | (with_reducible apply Completes.next) | (with_reducible apply Completes.ite)
    | (with_reducible apply Keeps.ite) | (with_reducible apply Keeps.ite_fst) | (with_reducible apply done_keeps)
    | (with_reducible apply State.set_keeps) | extract_lets | split | (dsimp -zeta only) | (dsimp +zetaDelta -zeta only)

theorem execGpioClrWrite_keeps {s0 s : State} (h : Keeps s0 s) (v : Nat) : Completes s0 (execGpioClrWrite v s) := by
  unfold execGpioClrWrite
  repeat' first
    | (with_reducible assumption) | intro _ | (with_reducible apply Completes.next) | (with_reducible apply Completes.ite)
    | (with_reducible apply Keeps.ite) | (with_reducible apply Keeps.ite_fst) | (with_reducible apply done_keeps)
    | (with_reducible apply State.set_keeps) | extract_lets | split | (dsimp -zeta only) | (dsimp +zetaDelta -zeta only)

theorem gpioPends_keeps {s0 s : State} (h : Keeps s0 s) (n : Nat) (was level : Bool) : Keeps s0 (gpioPends s n was level) := by
  unfold gpioPends
  repeat' first
    | (with_reducible assumption) | intro _ | (with_reducible apply Keeps.ite) | (with_reducible apply Keeps.ite_fst)
    | (with_reducible apply aicEdge_keeps) | (with_reducible apply aicLevel_keeps) | extract_lets | split | (dsimp -zeta only)
    | (dsimp +zetaDelta -zeta only)

theorem execGpioInputChange_keeps {s0 s : State} (h : Keeps s0 s) (n : Nat) (level : Bool) :
    Completes s0 (execGpioInputChange n level s) := by
  unfold execGpioInputChange
  repeat' first
    | (with_reducible assumption) | intro _ | (with_reducible apply Completes.next) | (with_reducible apply Completes.ite)
    | (with_reducible apply Keeps.ite) | (with_reducible apply Keeps.ite_fst) | (with_reducible apply done_keeps)
    | (with_reducible apply gpioPends_keeps) | (with_reducible apply State.setBitAt_keeps) | extract_lets | split
    | (dsimp -zeta only) | (dsimp +zetaDelta -zeta only)

theorem execAicSourceRequest_keeps {s0 s : State} (h : Keeps s0 s) (src : Nat) (high : Bool) :
    Completes s0 (execAicSourceRequest src high s) := by
  unfold execAicSourceRequest
  repeat' first
    | (with_reducible assumption) | intro _ | (with_reducible apply Completes.next) | (with_reducible apply Completes.ite)
    | (with_reducible apply Keeps.ite) | (with_reducible apply Keeps.ite_fst) | (with_reducible apply done_keeps)
    | (with_reducible apply aicLevel_keeps) | (with_reducible apply aicEdge_keeps) | extract_lets | split | (dsimp -zeta only)
    | (dsimp +zetaDelta -zeta only)

theorem claimSource_keeps {s0 s : State} (h : Keeps s0 s) (src : Nat) : Keeps s0 (claimSource s src) := by
  unfold claimSource
  repeat' first
    | (with_reducible assumption) | intro _ | (with_reducible apply Keeps.ite) | (with_reducible apply Keeps.ite_fst)
    | (with_reducible apply setActive_keeps) | (with_reducible apply setPending_keeps)
    | (with_reducible apply State.setBitAt_keeps) | (with_reducible apply aicUpdate_keeps)
    | (with_reducible apply State.putApp_keeps) | (with_reducible apply cellsWf_nil) | (with_reducible apply flashProgram_wf)
    | (with_reducible apply flashClear_wf) | (with_reducible apply setBytes_wf) | (with_reducible apply cellsWf_filter)
    | (with_reducible apply cellsWf_write) | (with_reducible apply And.intro) | (with_reducible exact wf_regs (by assumption))
    | (with_reducible exact wf_flash (by assumption)) | (with_reducible exact wf_window (by assumption))
    | (with_reducible exact wf_ncs (by assumption)) | (with_reducible exact wf_eht (by assumption))
    | (with_reducible exact wf_hb (by assumption)) | (with_reducible exact wf_shadow (by assumption))
    | (with_reducible exact wf_msix (by assumption)) | (with_reducible exact wf_iram (by assumption))
    | (with_reducible exact wf_dram (by assumption)) | (exact (wf_iram ‹Memory.wf _ = true› :))
    | (exact (wf_dram ‹Memory.wf _ = true› :)) | extract_lets | split | (dsimp -zeta only) | (dsimp +zetaDelta -zeta only)

theorem execAicClaimRead_keeps {s0 s : State} (h : Keeps s0 s) (q : Requester) : Completes s0 (execAicClaimRead q s) := by
  unfold execAicClaimRead
  repeat' first
    | (with_reducible assumption) | intro _ | (with_reducible apply Completes.next) | (with_reducible apply Completes.ite)
    | (with_reducible apply Keeps.ite) | (with_reducible apply Keeps.ite_fst) | (with_reducible apply done_keeps)
    | (with_reducible apply State.answer_keeps) | (with_reducible apply aicUpdate_keeps)
    | (with_reducible apply State.drew_keeps) | (with_reducible apply State.bump_keeps)
    | (with_reducible apply claimSource_keeps) | (with_reducible apply Keeps.foldl_fst) | extract_lets | split
    | (dsimp -zeta only) | (dsimp +zetaDelta -zeta only)

theorem execAicEoiWrite_keeps {s0 s : State} (h : Keeps s0 s) (q : Requester) (src : Nat) :
    Completes s0 (execAicEoiWrite q src s) := by
  unfold execAicEoiWrite
  repeat' first
    | (with_reducible assumption) | intro _ | (with_reducible apply Completes.next) | (with_reducible apply Completes.ite)
    | (with_reducible apply Keeps.ite) | (with_reducible apply Keeps.ite_fst) | (with_reducible apply done_keeps)
    | (with_reducible apply State.bump_keeps) | (with_reducible apply setActive_keeps)
    | (with_reducible apply State.putApp_keeps) | (with_reducible apply setPending_keeps)
    | (with_reducible apply aicUpdate_keeps) | (with_reducible apply cellsWf_nil) | (with_reducible apply flashProgram_wf)
    | (with_reducible apply flashClear_wf) | (with_reducible apply setBytes_wf) | (with_reducible apply cellsWf_filter)
    | (with_reducible apply cellsWf_write) | (with_reducible apply And.intro) | (with_reducible exact wf_regs (by assumption))
    | (with_reducible exact wf_flash (by assumption)) | (with_reducible exact wf_window (by assumption))
    | (with_reducible exact wf_ncs (by assumption)) | (with_reducible exact wf_eht (by assumption))
    | (with_reducible exact wf_hb (by assumption)) | (with_reducible exact wf_shadow (by assumption))
    | (with_reducible exact wf_msix (by assumption)) | (with_reducible exact wf_iram (by assumption))
    | (with_reducible exact wf_dram (by assumption)) | (exact (wf_iram ‹Memory.wf _ = true› :))
    | (exact (wf_dram ‹Memory.wf _ = true› :)) | extract_lets | split | (dsimp -zeta only) | (dsimp +zetaDelta -zeta only)

theorem execAicGdisWrite_keeps {s0 s : State} (h : Keeps s0 s) (v : Nat) : Completes s0 (execAicGdisWrite v s) := by
  unfold execAicGdisWrite
  repeat' first
    | (with_reducible assumption) | intro _ | (with_reducible apply Completes.next) | (with_reducible apply Completes.ite)
    | (with_reducible apply Keeps.ite) | (with_reducible apply Keeps.ite_fst) | (with_reducible apply done_keeps)
    | (with_reducible apply aicUpdate_keeps) | (with_reducible apply State.set_keeps) | extract_lets | split
    | (dsimp -zeta only) | (dsimp +zetaDelta -zeta only)

theorem execAicSwiWrite_keeps {s0 s : State} (h : Keeps s0 s) (v : Nat) : Completes s0 (execAicSwiWrite v s) := by
  unfold execAicSwiWrite
  repeat' first
    | (with_reducible assumption) | intro _ | (with_reducible apply Completes.next) | (with_reducible apply Completes.ite)
    | (with_reducible apply Keeps.ite) | (with_reducible apply Keeps.ite_fst) | (with_reducible apply State.set_keeps)
    | (with_reducible apply done_keeps) | (with_reducible apply aicEdge_keeps) | (with_reducible apply Keeps.fold)
    | extract_lets | split | (dsimp -zeta only) | (dsimp +zetaDelta -zeta only)

theorem execAicEnWrite_keeps {s0 s : State} (h : Keeps s0 s) (q : Requester) (k v : Nat) :
    Completes s0 (execAicEnWrite q k v s) := by
  unfold execAicEnWrite
  repeat' first
    | (with_reducible assumption) | intro _ | (with_reducible apply Completes.next) | (with_reducible apply Completes.ite)
    | (with_reducible apply Keeps.ite) | (with_reducible apply Keeps.ite_fst) | (with_reducible apply aicUpdate_keeps)
    | (with_reducible apply State.putApp_keeps) | (with_reducible apply done_keeps) | (with_reducible apply State.set_keeps)
    | (with_reducible apply cellsWf_nil) | (with_reducible apply flashProgram_wf) | (with_reducible apply flashClear_wf)
    | (with_reducible apply setBytes_wf) | (with_reducible apply cellsWf_filter) | (with_reducible apply cellsWf_write)
    | (with_reducible apply And.intro) | (with_reducible exact wf_regs (by assumption))
    | (with_reducible exact wf_flash (by assumption)) | (with_reducible exact wf_window (by assumption))
    | (with_reducible exact wf_ncs (by assumption)) | (with_reducible exact wf_eht (by assumption))
    | (with_reducible exact wf_hb (by assumption)) | (with_reducible exact wf_shadow (by assumption))
    | (with_reducible exact wf_msix (by assumption)) | (with_reducible exact wf_iram (by assumption))
    | (with_reducible exact wf_dram (by assumption)) | (exact (wf_iram ‹Memory.wf _ = true› :))
    | (exact (wf_dram ‹Memory.wf _ = true› :)) | extract_lets | split | (dsimp -zeta only) | (dsimp +zetaDelta -zeta only)

end Sys2Proof.Machine
end

