-- ==== Sys2Proof/Laws/KeepsCalibration.lean ====
section
/-!
SUPPORT. What the operations of Machine/Calibration.lean keep (`Keeps`).
-/

namespace Sys2Proof.Machine

set_option linter.unusedVariables false
set_option linter.unusedTactic false
set_option linter.unreachableTactic false

theorem execCoeffSetIssue_keeps {s0 s : State} (h : Keeps s0 s) (path : Nat) (set_ : List Int) :
    Completes s0 (execCoeffSetIssue path set_ s) := by
  unfold execCoeffSetIssue
  repeat' first
    | (with_reducible assumption) | intro _ | (with_reducible apply Completes.next) | (with_reducible apply Completes.ite)
    | (with_reducible apply Keeps.ite) | (with_reducible apply Keeps.ite_fst) | (with_reducible apply done_keeps)
    | (with_reducible apply offerSet_keeps) | extract_lets | split | (dsimp -zeta only) | (dsimp +zetaDelta -zeta only)

theorem execBarrierComplete_keeps {s0 s : State} (h : Keeps s0 s) (path : Nat) : Completes s0 (execBarrierComplete path s) := by
  unfold execBarrierComplete
  repeat' first
    | (with_reducible assumption) | intro _ | (with_reducible apply Completes.next) | (with_reducible apply Completes.ite)
    | (with_reducible apply Keeps.ite) | (with_reducible apply Keeps.ite_fst) | (with_reducible apply done_keeps)
    | (with_reducible apply State.setPath_keeps) | (with_reducible apply State.setCe_keeps) | (with_reducible apply Keeps.fold)
    | extract_lets | split | (dsimp -zeta only) | (dsimp +zetaDelta -zeta only)

theorem imageUpdate_keeps {s0 s : State} (h : Keeps s0 s) (n chain bin : Nat) (rejection halfWidth : Int) :
    Keeps s0 (imageUpdate s n chain bin rejection halfWidth) := by
  unfold imageUpdate
  repeat' first
    | (with_reducible assumption) | intro _ | (with_reducible apply Keeps.ite) | (with_reducible apply Keeps.ite_fst)
    | (with_reducible apply bumpTrx_keeps) | (with_reducible apply State.setPath_keeps) | (with_reducible apply offerSet_keeps)
    | (with_reducible apply setTrx_keeps) | extract_lets | split | (dsimp -zeta only) | (dsimp +zetaDelta -zeta only)

theorem execEstimatorResult_keeps {s0 s : State} (h : Keeps s0 s) (path kind chain bin epoch span : Nat) (inPhase quad rejection halfWidth : Int) :
    Completes s0 (execEstimatorResult path kind chain bin epoch span inPhase quad rejection halfWidth s) := by
  unfold execEstimatorResult
  repeat' first
    | (with_reducible assumption) | intro _ | (with_reducible apply Completes.next) | (with_reducible apply Completes.ite)
    | (with_reducible apply Keeps.ite) | (with_reducible apply Keeps.ite_fst) | (with_reducible apply done_keeps)
    | (with_reducible apply viewHealth_keeps) | (with_reducible apply imageUpdate_keeps) | (with_reducible apply offerSet_keeps)
    | (with_reducible apply setTrx_keeps) | (with_reducible apply State.setPath_keeps) | extract_lets | split
    | (dsimp -zeta only) | (dsimp +zetaDelta -zeta only)

theorem execNoiseReportTimer_keeps {s0 s : State} (h : Keeps s0 s) (engine : Nat) (powers : List Nat) :
    Completes s0 (execNoiseReportTimer engine powers s) := by
  unfold execNoiseReportTimer
  repeat' first
    | (with_reducible assumption) | intro _ | (with_reducible apply Completes.next) | (with_reducible apply Completes.ite)
    | (with_reducible apply Keeps.ite) | (with_reducible apply Keeps.ite_fst) | (with_reducible apply done_keeps)
    | (with_reducible apply pushItem_keeps) | extract_lets | split | (dsimp -zeta only) | (dsimp +zetaDelta -zeta only)

theorem trimStep_keeps {s0 s : State} (h : Keeps s0 s) : Keeps s0 (trimStep s) := by
  unfold trimStep
  repeat' first
    | (with_reducible assumption) | intro _ | (with_reducible apply Keeps.ite) | (with_reducible apply Keeps.ite_fst)
    | (with_reducible apply State.set_keeps) | (with_reducible apply State.setI_keeps)
    | (with_reducible apply State.putOsc_keeps) | (with_reducible apply State.bump_keeps)
    | (with_reducible apply postEvent_keeps) | (with_reducible apply State.setBit_keeps) | extract_lets | split
    | (dsimp -zeta only) | (dsimp +zetaDelta -zeta only)

theorem execTrimInterval_keeps {s0 s : State} (h : Keeps s0 s) : Completes s0 (execTrimInterval s) := by
  unfold execTrimInterval
  repeat' first
    | (with_reducible assumption) | intro _ | (with_reducible apply Completes.next) | (with_reducible apply Completes.ite)
    | (with_reducible apply Keeps.ite) | (with_reducible apply Keeps.ite_fst) | (with_reducible apply done_keeps)
    | (with_reducible apply State.setBit_keeps) | (with_reducible apply State.setI_keeps)
    | (with_reducible apply State.putOsc_keeps) | (with_reducible apply State.set_keeps)
    | (with_reducible apply postEvent_keeps) | (with_reducible apply trimStep_keeps) | (with_reducible apply State.bump_keeps)
    | extract_lets | split | (dsimp -zeta only) | (dsimp +zetaDelta -zeta only)

theorem execOscManWrite_keeps {s0 s : State} (h : Keeps s0 s) (v : Nat) : Completes s0 (execOscManWrite v s) := by
  unfold execOscManWrite
  repeat' first
    | (with_reducible assumption) | intro _ | (with_reducible apply Completes.next) | (with_reducible apply Completes.ite)
    | (with_reducible apply Keeps.ite) | (with_reducible apply Keeps.ite_fst) | (with_reducible apply done_keeps)
    | (with_reducible apply State.set_keeps) | (with_reducible apply State.putOsc_keeps) | extract_lets | split
    | (dsimp -zeta only) | (dsimp +zetaDelta -zeta only)

theorem oscCommit_keeps {s0 s : State} (h : Keeps s0 s) : Keeps s0 (oscCommit s) := by
  unfold oscCommit
  repeat' first
    | (with_reducible assumption) | intro _ | (with_reducible apply Keeps.ite) | (with_reducible apply Keeps.ite_fst)
    | (with_reducible apply State.set_keeps) | (with_reducible apply State.setBit_keeps)
    | (with_reducible apply State.putOsc_keeps) | extract_lets | split | (dsimp -zeta only) | (dsimp +zetaDelta -zeta only)

theorem postFailedSteps_keeps {s0 s : State} (h : Keeps s0 s) (n op failed : Nat) : Keeps s0 (postFailedSteps s n op failed) := by
  unfold postFailedSteps
  repeat' first
    | (with_reducible assumption) | intro _ | (with_reducible apply Keeps.ite) | (with_reducible apply Keeps.ite_fst)
    | (with_reducible apply postEvent_keeps) | (with_reducible apply Keeps.fold) | extract_lets | split | (dsimp -zeta only)
    | (dsimp +zetaDelta -zeta only)

theorem putMeasured_keeps {s0 s : State} (h : Keeps s0 s) (n : Nat) (first : Bool) (set_ tx analog : List Int) (health0 health1 failed : Nat) :
    Keeps s0 (putMeasured s n first set_ tx analog health0 health1 failed) := by
  unfold putMeasured
  repeat' first
    | (with_reducible assumption) | intro _ | (with_reducible apply Keeps.ite) | (with_reducible apply Keeps.ite_fst)
    | (with_reducible apply issueSet_keeps) | (with_reducible apply State.set_keeps) | (with_reducible apply offerSet_keeps)
    | (with_reducible apply putTxSet_keeps) | (with_reducible apply State.setPath_keeps)
    | (with_reducible apply State.setWord_keeps) | extract_lets | split | (dsimp -zeta only) | (dsimp +zetaDelta -zeta only)

theorem execColdCalDone_keeps {s0 s : State} (h : Keeps s0 s) (path failed : Nat) (set_ tx analog : List Int) (health0 health1 : Nat) :
    Completes s0 (execColdCalDone path failed set_ tx analog health0 health1 s) := by
  unfold execColdCalDone
  repeat' first
    | (with_reducible assumption) | intro _ | (with_reducible apply Completes.next) | (with_reducible apply Completes.ite)
    | (with_reducible apply Keeps.ite) | (with_reducible apply Keeps.ite_fst) | (with_reducible apply done_keeps)
    | (with_reducible apply State.putBoot_keeps) | (with_reducible apply State.set_keeps)
    | (with_reducible apply putMeasured_keeps) | (with_reducible apply State.setPath_keeps)
    | (with_reducible apply viewHealth_keeps) | (with_reducible apply postFailedSteps_keeps)
    | (with_reducible apply viewTone_keeps) | (with_reducible apply unblankPath_keeps) | (with_reducible apply reachStep8_keeps)
    | extract_lets | split | (dsimp -zeta only) | (dsimp +zetaDelta -zeta only)

theorem calRequest_keeps {s0 s : State} (h : Keeps s0 s) (n op : Nat) (excl : Bool) : Keeps s0 (calRequest s n op excl) := by
  unfold calRequest
  repeat' first
    | (with_reducible assumption) | intro _ | (with_reducible apply Keeps.ite) | (with_reducible apply Keeps.ite_fst)
    | (with_reducible apply State.set_keeps) | (with_reducible apply calResult_keeps)
    | (with_reducible apply State.setPath_keeps) | extract_lets | split | (dsimp -zeta only) | (dsimp +zetaDelta -zeta only)

theorem execCalImage_keeps {s0 s : State} (h : Keeps s0 s) (path : Nat) (excl : Bool) :
    Completes s0 (execCalImage path excl s) := by
  unfold execCalImage
  repeat' first
    | (with_reducible assumption) | intro _ | (with_reducible apply Completes.next) | (with_reducible apply Completes.ite)
    | (with_reducible apply done_keeps) | (with_reducible apply calRequest_keeps) | extract_lets | split | (dsimp -zeta only)
    | (dsimp +zetaDelta -zeta only)

theorem execCalAnalogFilter_keeps {s0 s : State} (h : Keeps s0 s) (path : Nat) (excl : Bool) :
    Completes s0 (execCalAnalogFilter path excl s) := by
  unfold execCalAnalogFilter
  repeat' first
    | (with_reducible assumption) | intro _ | (with_reducible apply Completes.next) | (with_reducible apply Completes.ite)
    | (with_reducible apply done_keeps) | (with_reducible apply calRequest_keeps) | extract_lets | split | (dsimp -zeta only)
    | (dsimp +zetaDelta -zeta only)

theorem execCalAnalogDc_keeps {s0 s : State} (h : Keeps s0 s) (path : Nat) (excl : Bool) :
    Completes s0 (execCalAnalogDc path excl s) := by
  unfold execCalAnalogDc
  repeat' first
    | (with_reducible assumption) | intro _ | (with_reducible apply Completes.next) | (with_reducible apply Completes.ite)
    | (with_reducible apply done_keeps) | (with_reducible apply calRequest_keeps) | extract_lets | split | (dsimp -zeta only)
    | (dsimp +zetaDelta -zeta only)

theorem execCalTxIqLo_keeps {s0 s : State} (h : Keeps s0 s) (path : Nat) (excl : Bool) :
    Completes s0 (execCalTxIqLo path excl s) := by
  unfold execCalTxIqLo
  repeat' first
    | (with_reducible assumption) | intro _ | (with_reducible apply Completes.next) | (with_reducible apply Completes.ite)
    | (with_reducible apply done_keeps) | (with_reducible apply calRequest_keeps) | extract_lets | split | (dsimp -zeta only)
    | (dsimp +zetaDelta -zeta only)

theorem execCalFull_keeps {s0 s : State} (h : Keeps s0 s) (path : Nat) (excl : Bool) : Completes s0 (execCalFull path excl s) := by
  unfold execCalFull
  repeat' first
    | (with_reducible assumption) | intro _ | (with_reducible apply Completes.next) | (with_reducible apply Completes.ite)
    | (with_reducible apply done_keeps) | (with_reducible apply calRequest_keeps) | extract_lets | split | (dsimp -zeta only)
    | (dsimp +zetaDelta -zeta only)

theorem execCalSelfTest_keeps {s0 s : State} (h : Keeps s0 s) (path : Nat) (excl : Bool) :
    Completes s0 (execCalSelfTest path excl s) := by
  unfold execCalSelfTest
  repeat' first
    | (with_reducible assumption) | intro _ | (with_reducible apply Completes.next) | (with_reducible apply Completes.ite)
    | (with_reducible apply done_keeps) | (with_reducible apply calRequest_keeps) | extract_lets | split | (dsimp -zeta only)
    | (dsimp +zetaDelta -zeta only)

theorem execCalCancel_keeps {s0 s : State} (h : Keeps s0 s) (path : Nat) : Completes s0 (execCalCancel path s) := by
  unfold execCalCancel
  repeat' first
    | (with_reducible assumption) | intro _ | (with_reducible apply Completes.next) | (with_reducible apply Completes.ite)
    | (with_reducible apply Keeps.ite) | (with_reducible apply Keeps.ite_fst) | (with_reducible apply done_keeps)
    | (with_reducible apply calResult_keeps) | (with_reducible apply stopRequest_keeps) | extract_lets | split
    | (dsimp -zeta only) | (dsimp +zetaDelta -zeta only)

theorem selfTestDone_keeps {s0 s : State} (h : Keeps s0 s) (n stFail : Nat) : Keeps s0 (selfTestDone s n stFail) := by
  unfold selfTestDone
  repeat' first
    | (with_reducible assumption) | intro _ | (with_reducible apply Keeps.ite) | (with_reducible apply Keeps.ite_fst)
    | (with_reducible apply State.set_keeps) | (with_reducible apply calResult_keeps) | (with_reducible apply calFail_keeps)
    | extract_lets | split | (dsimp -zeta only) | (dsimp +zetaDelta -zeta only)

theorem requestDone_keeps {s0 s : State} (h : Keeps s0 s) (n op : Nat) : Keeps s0 (requestDone s n op) := by
  unfold requestDone
  repeat' first
    | (with_reducible assumption) | intro _ | (with_reducible apply postEvent_keeps) | extract_lets | split | (dsimp -zeta only)
    | (dsimp +zetaDelta -zeta only)

theorem execSlicedCalUnit_keeps {s0 s : State} (h : Keeps s0 s) (path : Nat) (last : Bool) (set_ tx analog : List Int) (stFail time : Nat) :
    Completes s0 (execSlicedCalUnit path last set_ tx analog stFail time s) := by
  unfold execSlicedCalUnit
  repeat' first
    | (with_reducible assumption) | intro _ | (with_reducible apply Completes.next) | (with_reducible apply Completes.ite)
    | (with_reducible apply Keeps.ite) | (with_reducible apply Keeps.ite_fst) | (with_reducible apply done_keeps)
    | (with_reducible apply State.advanceTo_keeps) | (with_reducible apply issueSet_keeps)
    | (with_reducible apply State.setPath_keeps) | (with_reducible apply offerSet_keeps) | (with_reducible apply putTxSet_keeps)
    | (with_reducible apply calResult_keeps) | (with_reducible apply endRequest_keeps)
    | (with_reducible apply selfTestDone_keeps) | (with_reducible apply requestDone_keeps)
    | (with_reducible apply sliceWaits_keeps) | extract_lets | split | (dsimp -zeta only) | (dsimp +zetaDelta -zeta only)

theorem execExclusiveCalStart_keeps {s0 s : State} (h : Keeps s0 s) (path : Nat) : Completes s0 (execExclusiveCalStart path s) := by
  unfold execExclusiveCalStart
  repeat' first
    | (with_reducible assumption) | intro _ | (with_reducible apply Completes.next) | (with_reducible apply Completes.ite)
    | (with_reducible apply Keeps.ite) | (with_reducible apply Keeps.ite_fst) | (with_reducible apply done_keeps)
    | (with_reducible apply State.setPath_keeps) | (with_reducible apply retune_keeps) | (with_reducible apply calResult_keeps)
    | (with_reducible apply State.set_keeps) | extract_lets | split | (dsimp -zeta only) | (dsimp +zetaDelta -zeta only)

theorem execExclusiveCalDone_keeps {s0 s : State} (h : Keeps s0 s) (path failed : Nat) (set_ tx analog : List Int) (health0 health1 stFail : Nat) :
    Completes s0 (execExclusiveCalDone path failed set_ tx analog health0 health1 stFail s) := by
  unfold execExclusiveCalDone
  repeat' first
    | (with_reducible assumption) | intro _ | (with_reducible apply Completes.next) | (with_reducible apply Completes.ite)
    | (with_reducible apply Keeps.ite) | (with_reducible apply Keeps.ite_fst) | (with_reducible apply done_keeps)
    | (with_reducible apply State.set_keeps) | (with_reducible apply calResult_keeps) | (with_reducible apply endRequest_keeps)
    | (with_reducible apply selfTestDone_keeps) | (with_reducible apply postFailedSteps_keeps)
    | (with_reducible apply putMeasured_keeps) | (with_reducible apply requestDone_keeps)
    | (with_reducible apply viewHealth_keeps) | extract_lets | split | (dsimp -zeta only) | (dsimp +zetaDelta -zeta only)

theorem execCalRequestTimeout_keeps {s0 s : State} (h : Keeps s0 s) (path : Nat) : Completes s0 (execCalRequestTimeout path s) := by
  unfold execCalRequestTimeout
  repeat' first
    | (with_reducible assumption) | intro _ | (with_reducible apply Completes.next) | (with_reducible apply Completes.ite)
    | (with_reducible apply Keeps.ite) | (with_reducible apply Keeps.ite_fst) | (with_reducible apply done_keeps)
    | (with_reducible apply State.reach_keeps) | (with_reducible apply calFail_keeps) | (with_reducible apply calResult_keeps)
    | (with_reducible apply endRequest_keeps) | extract_lets | split | (dsimp -zeta only) | (dsimp +zetaDelta -zeta only)

end Sys2Proof.Machine
end

