-- ==== Sys2Proof/Laws/KeepsPowerOps.lean ====
section
/-!
SUPPORT. What the operations of Machine/PowerOps.lean keep (`Keeps`).
-/

namespace Sys2Proof.Machine

set_option linter.unusedVariables false
set_option linter.unusedTactic false
set_option linter.unreachableTactic false

theorem startChange_keeps {s0 s : State} (h : Keeps s0 s) (level : Nat) : Keeps s0 (startChange s level) := by
  unfold startChange
  repeat' first
    | (with_reducible assumption) | intro _ | (with_reducible apply Keeps.ite) | (with_reducible apply Keeps.ite_fst)
    | (with_reducible apply State.putPwr_keeps) | (with_reducible apply State.set_keeps) | extract_lets | split
    | (dsimp -zeta only) | (dsimp +zetaDelta -zeta only)

theorem requestSleep_keeps {s0 s : State} (h : Keeps s0 s) (umber : Bool) : Keeps s0 (requestSleep s umber) := by
  unfold requestSleep
  repeat' first
    | (with_reducible assumption) | intro _ | (with_reducible apply State.putPwr_keeps) | extract_lets | split
    | (dsimp -zeta only) | (dsimp +zetaDelta -zeta only)

theorem sleepCommand_keeps {s0 s : State} (h : Keeps s0 s) (q : Requester) (key : Nat) (umber : Bool) :
    Keeps s0 (sleepCommand s q key umber) := by
  unfold sleepCommand
  repeat' first
    | (with_reducible assumption) | intro _ | (with_reducible apply Keeps.ite) | (with_reducible apply Keeps.ite_fst)
    | (with_reducible apply State.set_keeps) | (with_reducible apply startPlanned_keeps)
    | (with_reducible apply requestSleep_keeps) | extract_lets | split | (dsimp -zeta only) | (dsimp +zetaDelta -zeta only)

theorem startExit_keeps {s0 s : State} (h : Keeps s0 s) : Keeps s0 (startExit s) := by
  unfold startExit
  repeat' first
    | (with_reducible assumption) | intro _ | (with_reducible apply Keeps.ite) | (with_reducible apply Keeps.ite_fst)
    | (with_reducible apply resetKeeping_keeps) | (with_reducible apply State.set_keeps)
    | (with_reducible apply State.putPwr_keeps) | (with_reducible apply State.putBoot_keeps) | extract_lets | split
    | (dsimp -zeta only) | (dsimp +zetaDelta -zeta only)

theorem sepiaClear_keeps {s0 s : State} (h : Keeps s0 s) : Keeps s0 (sepiaClear s) :=
  h.trans ⟨rfl, rfl, rfl, Nat.le_refl _, fun w =>
    (wf_iff _).2 ⟨(cellsWf_filter (wf_regs w) _ :), (wf_flash w :), rfl, (wf_ncs w :), (wf_eht w :), (wf_hb w :), (wf_shadow w :), rfl,
      (wf_iram w :), (wf_dram w :)⟩⟩

theorem entryStops_keeps {s0 s : State} (h : Keeps s0 s) : Keeps s0 (entryStops s) := by
  unfold entryStops
  repeat' first
    | (with_reducible assumption) | intro _ | (with_reducible apply flushAllDownlink_keeps)
    | (with_reducible apply endClaim_keeps) | (with_reducible apply linkDown_keeps) | (with_reducible apply dropPort_keeps)
    | (with_reducible apply Keeps.fold) | extract_lets | split | (dsimp -zeta only) | (dsimp +zetaDelta -zeta only)

theorem sleepViews_keeps {s0 s : State} (h : Keeps s0 s) (state : Nat) : Keeps s0 (sleepViews s state) := by
  unfold sleepViews
  repeat' first
    | (with_reducible assumption) | intro _ | (with_reducible apply State.set_keeps) | extract_lets | split | (dsimp -zeta only)
    | (dsimp +zetaDelta -zeta only)

theorem enterSepia_keeps {s0 s : State} (h : Keeps s0 s) : Keeps s0 (enterSepia s) := by
  unfold enterSepia
  repeat' first
    | (with_reducible assumption) | intro _ | (with_reducible apply stopTimebase_keeps)
    | (with_reducible apply entryStops_keeps) | (with_reducible apply sleepViews_keeps)
    | (with_reducible apply sepiaClear_keeps) | (with_reducible apply State.set_keeps)
    | (with_reducible apply State.later_keeps) | (with_reducible apply startExit_keeps) | (with_reducible apply setLfMode_keeps)
    | (with_reducible apply State.putPwr_keeps) | extract_lets | split | (dsimp -zeta only) | (dsimp +zetaDelta -zeta only)

theorem enterUmber_keeps {s0 s : State} (h : Keeps s0 s) : Keeps s0 (enterUmber s) := by
  unfold enterUmber
  repeat' first
    | (with_reducible assumption) | intro _ | (with_reducible apply stopTimebase_keeps)
    | (with_reducible apply entryStops_keeps) | (with_reducible apply resetKeeping_keeps)
    | (with_reducible apply State.set_keeps) | (with_reducible apply State.setBit_keeps)
    | (with_reducible apply State.later_keeps) | (with_reducible apply startExit_keeps)
    | (with_reducible apply State.putPwr_keeps) | extract_lets | split | (dsimp -zeta only) | (dsimp +zetaDelta -zeta only)

theorem writeBack_keeps {s0 s : State} (h : Keeps s0 s) : Keeps s0 (writeBack s) := by
  unfold writeBack
  repeat' first
    | (with_reducible assumption) | intro _ | (with_reducible apply Keeps.ite) | (with_reducible apply Keeps.ite_fst)
    | (with_reducible apply State.setWord_keeps) | (with_reducible apply Keeps.fold) | extract_lets | split | (dsimp -zeta only)
    | (dsimp +zetaDelta -zeta only)

theorem bridgeAges_keeps {s0 s : State} (h : Keeps s0 s) : Keeps s0 (bridgeAges s) := by
  unfold bridgeAges
  repeat' first
    | (with_reducible assumption) | intro _ | (with_reducible apply hbAdvance_keeps) | (with_reducible apply State.set_keeps)
    | extract_lets | split | (dsimp -zeta only) | (dsimp +zetaDelta -zeta only)

theorem exitSynths_keeps {s0 s : State} (h : Keeps s0 s) : Keeps s0 (exitSynths s) := by
  unfold exitSynths
  repeat' first
    | (with_reducible assumption) | intro _ | (with_reducible apply Keeps.ite) | (with_reducible apply Keeps.ite_fst)
    | (with_reducible apply State.set_keeps) | (with_reducible apply Keeps.fold) | extract_lets | split | (dsimp -zeta only)
    | (dsimp +zetaDelta -zeta only)

theorem exitCores_keeps {s0 s : State} (h : Keeps s0 s) : Keeps s0 (exitCores s) := by
  unfold exitCores
  repeat' first
    | (with_reducible assumption) | intro _ | (with_reducible apply Keeps.ite) | (with_reducible apply Keeps.ite_fst)
    | (with_reducible apply setCpu_keeps) | (with_reducible apply releaseApp_keeps) | (with_reducible apply Keeps.fold)
    | extract_lets | split | (dsimp -zeta only) | (dsimp +zetaDelta -zeta only)

theorem exitReport_keeps {s0 s : State} (h : Keeps s0 s) : Keeps s0 (exitReport s) := by
  unfold exitReport
  repeat' first
    | (with_reducible assumption) | intro _ | (with_reducible apply Keeps.ite) | (with_reducible apply Keeps.ite_fst)
    | (with_reducible apply State.set_keeps) | (with_reducible apply postEvent_keeps) | (with_reducible apply State.bump_keeps)
    | extract_lets | split | (dsimp -zeta only) | (dsimp +zetaDelta -zeta only)

theorem sepiaReady_keeps {s0 s : State} (h : Keeps s0 s) : Keeps s0 (sepiaReady s) := by
  unfold sepiaReady
  repeat' first
    | (with_reducible assumption) | intro _ | (with_reducible apply setLfMode_keeps) | (with_reducible apply writeBack_keeps)
    | (with_reducible apply State.putBoot_keeps) | (with_reducible apply State.putPwr_keeps)
    | (with_reducible apply takeCe_keeps) | (with_reducible apply bridgeAges_keeps) | (with_reducible apply configTaken_keeps)
    | (with_reducible apply takeFrontEnd_keeps) | (with_reducible apply exitCores_keeps)
    | (with_reducible apply exitSynths_keeps) | (with_reducible apply State.putPsm_keeps)
    | (with_reducible apply State.putPair_keeps) | (with_reducible apply exitReport_keeps)
    | (with_reducible apply postLfLoss_keeps) | (with_reducible apply postRetry_keeps)
    | (with_reducible apply startChange_keeps) | (with_reducible apply Keeps.fold) | extract_lets | split | (dsimp -zeta only)
    | (dsimp +zetaDelta -zeta only)

theorem restoreFails_keeps {s0 s : State} (h : Keeps s0 s) : Keeps s0 (restoreFails s) := by
  unfold restoreFails
  repeat' first
    | (with_reducible assumption) | intro _ | (with_reducible apply Keeps.ite) | (with_reducible apply Keeps.ite_fst)
    | (with_reducible apply resetKeeping_keeps) | (with_reducible apply State.putTb_keeps)
    | (with_reducible apply State.putBoot_keeps) | (with_reducible apply romStart_keeps)
    | (with_reducible apply State.set_keeps) | (with_reducible apply State.setBit_keeps) | extract_lets | split
    | (dsimp -zeta only) | (dsimp +zetaDelta -zeta only)

theorem settle_keeps {s0 s : State} (h : Keeps s0 s) : Keeps s0 (settle s) := by
  unfold settle
  repeat' first
    | (with_reducible assumption) | intro _ | (with_reducible apply Keeps.ite) | (with_reducible apply Keeps.ite_fst)
    | (with_reducible apply State.putPair_keeps) | (with_reducible apply warmRestart_keeps)
    | (with_reducible apply setRole_keeps) | (with_reducible apply dropSync_keeps) | (with_reducible apply State.set_keeps)
    | (with_reducible apply requestSleep_keeps) | (with_reducible apply startHandover_keeps)
    | (with_reducible apply degrade_keeps) | (with_reducible apply autoRepair_keeps) | extract_lets | split | (dsimp -zeta only)
    | (dsimp +zetaDelta -zeta only)

end Sys2Proof.Machine
end

