-- ==== Sys2Proof/Laws/KeepsCommitOps.lean ====
section
/-!
SUPPORT. What the operations of Machine/CommitOps.lean keep (`Keeps`).
-/

namespace Sys2Proof.Machine

set_option linter.unusedVariables false
set_option linter.unusedTactic false
set_option linter.unreachableTactic false

theorem postFallback_keeps {s0 s : State} (h : Keeps s0 s) : Keeps s0 (postFallback s) := by
  unfold postFallback
  repeat' first
    | (with_reducible assumption) | intro _ | (with_reducible apply State.putUpd_keeps)
    | (with_reducible apply State.bump_keeps) | (with_reducible apply postEvent_keeps) | extract_lets | split
    | (dsimp -zeta only) | (dsimp +zetaDelta -zeta only)

theorem postWake_keeps {s0 s : State} (h : Keeps s0 s) : Keeps s0 (postWake s) := by
  unfold postWake
  repeat' first
    | (with_reducible assumption) | intro _ | (with_reducible apply State.putPwr_keeps)
    | (with_reducible apply State.bump_keeps) | (with_reducible apply postEvent_keeps) | extract_lets | split
    | (dsimp -zeta only) | (dsimp +zetaDelta -zeta only)

theorem bootTests_keeps {s0 s : State} (h : Keeps s0 s) (fails : List (Nat × Nat)) : Keeps s0 (bootTests s fails) := by
  unfold bootTests
  repeat' first
    | (with_reducible assumption) | intro _ | (with_reducible apply testEngines_keeps) | (with_reducible apply State.set_keeps)
    | extract_lets | split | (dsimp -zeta only) | (dsimp +zetaDelta -zeta only)

theorem commitKeys_keeps {s0 s : State} (h : Keeps s0 s) (img : List Byte) : Keeps s0 (commitKeys s img) := by
  unfold commitKeys
  repeat' first
    | (with_reducible assumption) | intro _ | (with_reducible apply State.putSec_keeps) | (with_reducible apply State.set_keeps)
    | extract_lets | split | (dsimp -zeta only) | (dsimp +zetaDelta -zeta only)

theorem commitTree_keeps {s0 s : State} (h : Keeps s0 s) : Keeps s0 (commitTree s) := by
  unfold commitTree
  repeat' first
    | (with_reducible assumption) | intro _ | (with_reducible apply Keeps.ite) | (with_reducible apply Keeps.ite_fst)
    | (with_reducible apply viewTree_keeps) | (with_reducible apply State.putTree_keeps)
    | (with_reducible apply State.set_keeps) | extract_lets | split | (dsimp -zeta only) | (dsimp +zetaDelta -zeta only)

theorem startCold_keeps {s0 s : State} (h : Keeps s0 s) : Keeps s0 (startCold s) := by
  unfold startCold
  repeat' first
    | (with_reducible assumption) | intro _ | (with_reducible apply Keeps.ite) | (with_reducible apply Keeps.ite_fst)
    | (with_reducible apply takeFrontEnd_keeps) | (with_reducible apply State.setPath_keeps)
    | (with_reducible apply State.set_keeps) | (with_reducible apply State.putBoot_keeps)
    | (with_reducible apply reachStep8_keeps) | (with_reducible apply Keeps.fold) | extract_lets | split | (dsimp -zeta only)
    | (dsimp +zetaDelta -zeta only)

theorem startCores_keeps {s0 s : State} (h : Keeps s0 s) : Keeps s0 (startCores s) := by
  unfold startCores
  repeat' first
    | (with_reducible assumption) | intro _ | (with_reducible apply Keeps.ite) | (with_reducible apply Keeps.ite_fst)
    | (with_reducible apply setCpu_keeps) | (with_reducible apply loadApp_keeps) | (with_reducible apply releaseApp_keeps)
    | (with_reducible apply Keeps.fold) | extract_lets | split | (dsimp -zeta only) | (dsimp +zetaDelta -zeta only)

theorem trialBooted_keeps {s0 s : State} (h : Keeps s0 s) (comp : Nat) : Keeps s0 (trialBooted s comp) := by
  unfold trialBooted
  repeat' first
    | (with_reducible assumption) | intro _ | (with_reducible apply Keeps.ite) | (with_reducible apply Keeps.ite_fst)
    | (with_reducible apply confirmImage_keeps) | (with_reducible apply State.putUpd_keeps)
    | (with_reducible apply setUpd_keeps) | (with_reducible apply State.set_keeps) | extract_lets | split | (dsimp -zeta only)
    | (dsimp +zetaDelta -zeta only)

theorem postSkipped_keeps {s0 s : State} (h : Keeps s0 s) (l : List ConfigRecord) : Keeps s0 (postSkipped s l) := by
  unfold postSkipped
  repeat' first
    | (with_reducible assumption) | intro _ | (with_reducible apply postEvent_keeps) | (with_reducible apply Keeps.fold)
    | extract_lets | split | (dsimp -zeta only) | (dsimp +zetaDelta -zeta only)

theorem commitReport_keeps {s0 s : State} (h : Keeps s0 s) (slot : Nat) (img : List Byte) (applied skipped : Nat) :
    Keeps s0 (commitReport s slot img applied skipped) := by
  unfold commitReport
  repeat' first
    | (with_reducible assumption) | intro _ | (with_reducible apply State.set_keeps) | (with_reducible apply State.setBit_keeps)
    | (with_reducible apply bootMs_keeps) | extract_lets | split | (dsimp -zeta only) | (dsimp +zetaDelta -zeta only)

theorem postCommitted_keeps {s0 s : State} (h : Keeps s0 s) (slot : Nat) (img : List Byte) (applied skipped : Nat) :
    Keeps s0 (postCommitted s slot img applied skipped) := by
  unfold postCommitted
  repeat' first
    | (with_reducible assumption) | intro _ | (with_reducible apply slotByte_keeps) | (with_reducible apply postEvent_keeps)
    | (with_reducible refine Keeps.of_pair (by assumption) ?_) | extract_lets | split | (dsimp -zeta only)
    | (dsimp +zetaDelta -zeta only)

theorem applyImage_keeps {s0 s : State} (h : Keeps s0 s) (img : List Byte) : Keeps s0 (applyImage s img) := by
  unfold applyImage
  repeat' first
    | (with_reducible assumption) | intro _ | (with_reducible apply configTaken_keeps) | (with_reducible apply putValues_keeps)
    | (with_reducible apply State.putBoot_keeps) | (with_reducible apply setPhase_keeps) | extract_lets | split
    | (dsimp -zeta only) | (dsimp +zetaDelta -zeta only)

theorem commitSecurity_keeps {s0 s : State} (h : Keeps s0 s) (img : List Byte) : Keeps s0 (commitSecurity s img) := by
  unfold commitSecurity
  repeat' first
    | (with_reducible assumption) | intro _ | (with_reducible apply commitTree_keeps) | (with_reducible apply commitKeys_keeps)
    | (with_reducible apply State.set_keeps) | (with_reducible apply State.setBit_keeps)
    | (with_reducible apply State.drew_keeps) | extract_lets | split | (dsimp -zeta only) | (dsimp +zetaDelta -zeta only)

theorem commitLevel_keeps {s0 s : State} (h : Keeps s0 s) (img : List Byte) : Keeps s0 (commitLevel s img) := by
  unfold commitLevel
  repeat' first
    | (with_reducible assumption) | intro _ | (with_reducible apply Keeps.ite) | (with_reducible apply Keeps.ite_fst)
    | (with_reducible apply startChange_keeps) | extract_lets | split | (dsimp -zeta only) | (dsimp +zetaDelta -zeta only)

theorem commitImage_keeps {s0 s : State} (h : Keeps s0 s) (slot : Nat) (img : List Byte) (fails : List (Nat × Nat)) :
    Keeps s0 (commitImage s slot img fails) := by
  unfold commitImage
  repeat' first
    | (with_reducible assumption) | intro _ | (with_reducible apply Keeps.ite) | (with_reducible apply Keeps.ite_fst)
    | (with_reducible apply bootTests_keeps) | (with_reducible apply applyImage_keeps)
    | (with_reducible apply commitSecurity_keeps) | (with_reducible apply slotBoots_keeps)
    | (with_reducible apply imageInForce_keeps) | (with_reducible apply adoptEpoch_keeps) | (with_reducible apply setRole_keeps)
    | (with_reducible apply commitReport_keeps) | (with_reducible apply startCores_keeps)
    | (with_reducible apply oscCommit_keeps) | (with_reducible apply postCommitted_keeps)
    | (with_reducible apply postSkipped_keeps) | (with_reducible apply postWake_keeps)
    | (with_reducible apply postFallback_keeps) | (with_reducible apply postLfLoss_keeps)
    | (with_reducible apply postRetry_keeps) | (with_reducible apply startCold_keeps) | (with_reducible apply commitLevel_keeps)
    | (with_reducible apply trialBooted_keeps) | (with_reducible apply Keeps.fold) | extract_lets | split | (dsimp -zeta only)
    | (dsimp +zetaDelta -zeta only)

theorem configFromSlot_keeps {s0 s : State} (h : Keeps s0 s) (readOk : Bool) (fails : List (Nat × Nat)) :
    Keeps s0 (configFromSlot s readOk fails) := by
  unfold configFromSlot
  repeat' first
    | (with_reducible assumption) | intro _ | (with_reducible apply Keeps.ite) | (with_reducible apply Keeps.ite_fst)
    | (with_reducible apply probationFallback_keeps) | (with_reducible apply commitImage_keeps)
    | (with_reducible apply slotFails_keeps) | (with_reducible apply configRejected_keeps)
    | (with_reducible apply configWait_keeps) | extract_lets | split | (dsimp -zeta only) | (dsimp +zetaDelta -zeta only)

theorem configFromHost_keeps {s0 s : State} (h : Keeps s0 s) (fails : List (Nat × Nat)) : Keeps s0 (configFromHost s fails) := by
  unfold configFromHost
  repeat' first
    | (with_reducible assumption) | intro _ | (with_reducible apply Keeps.ite) | (with_reducible apply Keeps.ite_fst)
    | (with_reducible apply commitImage_keeps) | (with_reducible apply State.putUpd_keeps)
    | (with_reducible apply configWait_keeps) | (with_reducible apply configRejected_keeps) | extract_lets | split
    | (dsimp -zeta only) | (dsimp +zetaDelta -zeta only)

end Sys2Proof.Machine
end

