-- ==== Sys2Proof/Laws/KeepsQueues.lean ====
section
/-!
SUPPORT. What the operations of Machine/Queues.lean keep (`Keeps`).
-/

namespace Sys2Proof.Machine

set_option linter.unusedVariables false
set_option linter.unusedTactic false
set_option linter.unreachableTactic false

theorem queueViews_keeps {s0 s : State} (h : Keeps s0 s) (q : Nat) : Keeps s0 (queueViews s q) := by
  unfold queueViews
  repeat' first
    | (with_reducible assumption) | intro _ | (with_reducible apply Keeps.ite) | (with_reducible apply Keeps.ite_fst)
    | (with_reducible apply mailChanged_keeps) | extract_lets | split | (dsimp -zeta only) | (dsimp +zetaDelta -zeta only)

theorem execQueueItemWrite_keeps {s0 s : State} (h : Keeps s0 s) (queue lane words : Nat) (poison : List Nat) (tag : Nat) (data : List Byte) :
    Completes s0 (execQueueItemWrite queue lane words poison tag data s) := by
  unfold execQueueItemWrite
  repeat' first
    | (with_reducible assumption) | intro _ | (with_reducible apply Completes.next) | (with_reducible apply Completes.ite)
    | (with_reducible apply Keeps.ite) | (with_reducible apply Keeps.ite_fst) | (with_reducible apply done_keeps)
    | (with_reducible apply queueViews_keeps) | (with_reducible apply pushItem_keeps) | extract_lets | split
    | (dsimp -zeta only) | (dsimp +zetaDelta -zeta only)

theorem admitOne_keeps {s0 s : State} (h : Keeps s0 s) (q : Nat) : Keeps s0 (admitOne s q) := by
  unfold admitOne
  repeat' first
    | (with_reducible assumption) | intro _ | (with_reducible apply countReceived_keeps) | (with_reducible apply putQueue_keeps)
    | extract_lets | split | (dsimp -zeta only) | (dsimp +zetaDelta -zeta only)

theorem execQueueRoomAvailable_keeps {s0 s : State} (h : Keeps s0 s) (queue : Nat) :
    Completes s0 (execQueueRoomAvailable queue s) := by
  unfold execQueueRoomAvailable
  repeat' first
    | (with_reducible assumption) | intro _ | (with_reducible apply Completes.next) | (with_reducible apply Completes.ite)
    | (with_reducible apply Keeps.ite) | (with_reducible apply Keeps.ite_fst) | (with_reducible apply done_keeps)
    | (with_reducible apply queueViews_keeps) | (with_reducible apply admitOne_keeps) | extract_lets | split
    | (dsimp -zeta only) | (dsimp +zetaDelta -zeta only)

theorem underrun_keeps {s0 s : State} (h : Keeps s0 s) (q : Nat) : Keeps s0 (underrun s q) := by
  unfold underrun
  repeat' first
    | (with_reducible assumption) | intro _ | (with_reducible apply State.set_keeps) | (with_reducible apply State.bump_keeps)
    | extract_lets | split | (dsimp -zeta only) | (dsimp +zetaDelta -zeta only)

theorem portItem_keeps {s0 s : State} (h : Keeps s0 s) (q lane : Nat) (i : QueueItem) : Keeps s0 (portItem s q lane i) := by
  unfold portItem
  repeat' first
    | (with_reducible assumption) | intro _ | (with_reducible apply Keeps.ite) | (with_reducible apply Keeps.ite_fst)
    | (with_reducible apply egress_keeps) | (with_reducible apply State.bump_keeps) | extract_lets | split | (dsimp -zeta only)
    | (dsimp +zetaDelta -zeta only)

theorem execQueueItemRead_keeps {s0 s : State} (h : Keeps s0 s) (queue : Nat) : Completes s0 (execQueueItemRead queue s) := by
  unfold execQueueItemRead
  repeat' first
    | (with_reducible assumption) | intro _ | (with_reducible apply Completes.next) | (with_reducible apply Completes.ite)
    | (with_reducible apply Keeps.ite) | (with_reducible apply Keeps.ite_fst) | (with_reducible apply done_keeps)
    | (with_reducible apply popItem_keeps) | (with_reducible apply underrun_keeps) | (with_reducible apply queueViews_keeps)
    | (with_reducible apply consumeTag_keeps) | (with_reducible apply hbItemTaken_keeps) | (with_reducible apply portItem_keeps)
    | (with_reducible refine Keeps.of_pair (by assumption) ?_) | extract_lets | split | (dsimp -zeta only)
    | (dsimp +zetaDelta -zeta only)

theorem closingWord_keeps {s0 s : State} (h : Keeps s0 s) (q : Nat) : Keeps s0 (closingWord s q) := by
  unfold closingWord
  repeat' first
    | (with_reducible assumption) | intro _ | (with_reducible apply Keeps.ite) | (with_reducible apply Keeps.ite_fst)
    | (with_reducible apply consumeTag_keeps) | (with_reducible apply State.set_keeps) | extract_lets | split
    | (dsimp -zeta only) | (dsimp +zetaDelta -zeta only)

theorem resetQueue_keeps {s0 s : State} (h : Keeps s0 s) (q : Nat) (byWriter : Bool) (held : Nat) :
    Keeps s0 (resetQueue s q byWriter held) := by
  unfold resetQueue
  repeat' first
    | (with_reducible assumption) | intro _ | (with_reducible apply Keeps.ite) | (with_reducible apply Keeps.ite_fst)
    | (with_reducible apply closingWord_keeps) | (with_reducible apply queueViews_keeps) | (with_reducible apply putQueue_keeps)
    | (with_reducible apply State.set_keeps) | extract_lets | split | (dsimp -zeta only) | (dsimp +zetaDelta -zeta only)

theorem execQueuePointerMismatch_keeps {s0 s : State} (h : Keeps s0 s) (queue : Nat) (byWriter : Bool) (held : Nat) :
    Completes s0 (execQueuePointerMismatch queue byWriter held s) := by
  unfold execQueuePointerMismatch
  repeat' first
    | (with_reducible assumption) | intro _ | (with_reducible apply Completes.next) | (with_reducible apply Completes.ite)
    | (with_reducible apply done_keeps) | (with_reducible apply resetQueue_keeps) | extract_lets | split | (dsimp -zeta only)
    | (dsimp +zetaDelta -zeta only)

theorem execQueueTestForce_keeps {s0 s : State} (h : Keeps s0 s) (queue held : Nat) :
    Completes s0 (execQueueTestForce queue held s) := by
  unfold execQueueTestForce
  repeat' first
    | (with_reducible assumption) | intro _ | (with_reducible apply Completes.next) | (with_reducible apply Completes.ite)
    | (with_reducible apply done_keeps) | (with_reducible apply resetQueue_keeps) | extract_lets | split | (dsimp -zeta only)
    | (dsimp +zetaDelta -zeta only)

theorem execQueueResetDone_keeps {s0 s : State} (h : Keeps s0 s) (queue : Nat) : Completes s0 (execQueueResetDone queue s) := by
  unfold execQueueResetDone
  repeat' first
    | (with_reducible assumption) | intro _ | (with_reducible apply Completes.next) | (with_reducible apply Completes.ite)
    | (with_reducible apply Keeps.ite) | (with_reducible apply Keeps.ite_fst) | (with_reducible apply consumeTag_keeps)
    | (with_reducible apply putQueue_keeps) | (with_reducible apply State.set_keeps) | (with_reducible apply State.bump_keeps)
    | (with_reducible apply State.bumpBy_keeps) | (with_reducible apply postEvent_keeps) | (with_reducible apply done_keeps)
    | (with_reducible apply queueViews_keeps) | (with_reducible apply admitOne_keeps) | (with_reducible apply Keeps.fold)
    | extract_lets | split | (dsimp -zeta only) | (dsimp +zetaDelta -zeta only)

end Sys2Proof.Machine
end

