-- ==== Sys2Proof/Laws/KeepsCores.lean ====
section
/-!
SUPPORT. What the operations of Machine/Cores.lean keep (`Keeps`).
-/

namespace Sys2Proof.Machine

set_option linter.unusedVariables false
set_option linter.unusedTactic false
set_option linter.unreachableTactic false

theorem execCpuWdogWarn_keeps {s0 s : State} (h : Keeps s0 s) (core : Nat) : Completes s0 (execCpuWdogWarn core s) := by
  unfold execCpuWdogWarn
  repeat' first
    | (with_reducible assumption) | intro _ | (with_reducible apply Completes.next) | (with_reducible apply Completes.ite)
    | (with_reducible apply Keeps.ite) | (with_reducible apply Keeps.ite_fst) | (with_reducible apply done_keeps)
    | (with_reducible apply postEvent_keeps) | extract_lets | split | (dsimp -zeta only) | (dsimp +zetaDelta -zeta only)

theorem execCpuWdogExpiry_keeps {s0 s : State} (h : Keeps s0 s) (core : Nat) : Completes s0 (execCpuWdogExpiry core s) := by
  unfold execCpuWdogExpiry
  repeat' first
    | (with_reducible assumption) | intro _ | (with_reducible apply Completes.next) | (with_reducible apply Completes.ite)
    | (with_reducible apply Keeps.ite) | (with_reducible apply Keeps.ite_fst) | (with_reducible apply setCpu_keeps)
    | (with_reducible apply State.bump_keeps) | (with_reducible apply State.putCpus_keeps)
    | (with_reducible apply postEvent_keeps) | (with_reducible apply healthFails_keeps) | (with_reducible apply done_keeps)
    | (with_reducible apply warmRestart_keeps) | (with_reducible apply State.drew_keeps) | extract_lets | split
    | (dsimp -zeta only) | (dsimp +zetaDelta -zeta only)

theorem execControlCoreRestartDone_keeps {s0 s : State} (h : Keeps s0 s) (core : Nat) :
    Completes s0 (execControlCoreRestartDone core s) := by
  unfold execControlCoreRestartDone
  repeat' first
    | (with_reducible assumption) | intro _ | (with_reducible apply Completes.next) | (with_reducible apply Completes.ite)
    | (with_reducible apply Keeps.ite) | (with_reducible apply Keeps.ite_fst) | (with_reducible apply done_keeps)
    | (with_reducible apply setCpu_keeps) | extract_lets | split | (dsimp -zeta only) | (dsimp +zetaDelta -zeta only)

theorem execAppAccessFault_keeps {s0 s : State} (h : Keeps s0 s) (kind addr : Nat) (parity : Bool) :
    Completes s0 (execAppAccessFault kind addr parity s) := by
  unfold execAppAccessFault
  repeat' first
    | (with_reducible assumption) | intro _ | (with_reducible apply Completes.next) | (with_reducible apply Completes.ite)
    | (with_reducible apply Keeps.ite) | (with_reducible apply Keeps.ite_fst) | (with_reducible apply State.putApp_keeps)
    | (with_reducible apply done_keeps) | (with_reducible apply State.bump_keeps) | (with_reducible apply cellsWf_nil)
    | (with_reducible apply flashProgram_wf) | (with_reducible apply flashClear_wf) | (with_reducible apply setBytes_wf)
    | (with_reducible apply cellsWf_filter) | (with_reducible apply cellsWf_write) | (with_reducible apply And.intro)
    | (with_reducible exact wf_regs (by assumption)) | (with_reducible exact wf_flash (by assumption))
    | (with_reducible exact wf_window (by assumption)) | (with_reducible exact wf_ncs (by assumption))
    | (with_reducible exact wf_eht (by assumption)) | (with_reducible exact wf_hb (by assumption))
    | (with_reducible exact wf_shadow (by assumption)) | (with_reducible exact wf_msix (by assumption))
    | (with_reducible exact wf_iram (by assumption)) | (with_reducible exact wf_dram (by assumption))
    | (exact (wf_iram ‹Memory.wf _ = true› :)) | (exact (wf_dram ‹Memory.wf _ = true› :)) | extract_lets | split
    | (dsimp -zeta only) | (dsimp +zetaDelta -zeta only)

theorem postHalt_keeps {s0 s : State} (h : Keeps s0 s) (cause : Nat) : Keeps s0 (postHalt s cause) := by
  unfold postHalt
  repeat' first
    | (with_reducible assumption) | intro _ | (with_reducible apply postEvent_keeps) | extract_lets | split | (dsimp -zeta only)
    | (dsimp +zetaDelta -zeta only)

theorem execAppDoubleFault_keeps {s0 s : State} (h : Keeps s0 s) : Completes s0 (execAppDoubleFault s) := by
  unfold execAppDoubleFault
  repeat' first
    | (with_reducible assumption) | intro _ | (with_reducible apply Completes.next) | (with_reducible apply Completes.ite)
    | (with_reducible apply Keeps.ite) | (with_reducible apply Keeps.ite_fst) | (with_reducible apply done_keeps)
    | (with_reducible apply healthFails_keeps) | (with_reducible apply postHalt_keeps) | (with_reducible apply State.set_keeps)
    | extract_lets | split | (dsimp -zeta only) | (dsimp +zetaDelta -zeta only)

theorem execAppHold_keeps {s0 s : State} (h : Keeps s0 s) (q : Requester) : Completes s0 (execAppHold q s) := by
  unfold execAppHold
  repeat' first
    | (with_reducible assumption) | intro _ | (with_reducible apply Completes.next) | (with_reducible apply Completes.ite)
    | (with_reducible apply Keeps.ite) | (with_reducible apply Keeps.ite_fst) | (with_reducible apply done_keeps)
    | (with_reducible apply postHalt_keeps) | (with_reducible apply resetApp_keeps) | (with_reducible apply State.set_keeps)
    | extract_lets | split | (dsimp -zeta only) | (dsimp +zetaDelta -zeta only)

theorem execAppRelease_keeps {s0 s : State} (h : Keeps s0 s) (q : Requester) : Completes s0 (execAppRelease q s) := by
  unfold execAppRelease
  repeat' first
    | (with_reducible assumption) | intro _ | (with_reducible apply Completes.next) | (with_reducible apply Completes.ite)
    | (with_reducible apply Keeps.ite) | (with_reducible apply Keeps.ite_fst) | (with_reducible apply State.set_keeps)
    | (with_reducible apply State.putApp_keeps) | (with_reducible apply done_keeps) | (with_reducible apply reloadApp_keeps)
    | (with_reducible apply cellsWf_nil) | (with_reducible apply flashProgram_wf) | (with_reducible apply flashClear_wf)
    | (with_reducible apply setBytes_wf) | (with_reducible apply cellsWf_filter) | (with_reducible apply cellsWf_write)
    | (with_reducible apply And.intro) | (with_reducible exact wf_regs (by assumption))
    | (with_reducible exact wf_flash (by assumption)) | (with_reducible exact wf_window (by assumption))
    | (with_reducible exact wf_ncs (by assumption)) | (with_reducible exact wf_eht (by assumption))
    | (with_reducible exact wf_hb (by assumption)) | (with_reducible exact wf_shadow (by assumption))
    | (with_reducible exact wf_msix (by assumption)) | (with_reducible exact wf_iram (by assumption))
    | (with_reducible exact wf_dram (by assumption)) | (exact (wf_iram ‹Memory.wf _ = true› :))
    | (exact (wf_dram ‹Memory.wf _ = true› :)) | extract_lets | split | (dsimp -zeta only) | (dsimp +zetaDelta -zeta only)

theorem execAppReloadDone_keeps {s0 s : State} (h : Keeps s0 s) (readOk : Bool) : Completes s0 (execAppReloadDone readOk s) := by
  unfold execAppReloadDone
  repeat' first
    | (with_reducible assumption) | intro _ | (with_reducible apply Completes.next) | (with_reducible apply Completes.ite)
    | (with_reducible apply Keeps.ite) | (with_reducible apply Keeps.ite_fst) | (with_reducible apply done_keeps)
    | (with_reducible apply releaseApp_keeps) | (with_reducible apply loadApp_keeps) | (with_reducible apply State.putApp_keeps)
    | (with_reducible apply cellsWf_nil) | (with_reducible apply flashProgram_wf) | (with_reducible apply flashClear_wf)
    | (with_reducible apply setBytes_wf) | (with_reducible apply cellsWf_filter) | (with_reducible apply cellsWf_write)
    | (with_reducible apply And.intro) | (with_reducible exact wf_regs (by assumption))
    | (with_reducible exact wf_flash (by assumption)) | (with_reducible exact wf_window (by assumption))
    | (with_reducible exact wf_ncs (by assumption)) | (with_reducible exact wf_eht (by assumption))
    | (with_reducible exact wf_hb (by assumption)) | (with_reducible exact wf_shadow (by assumption))
    | (with_reducible exact wf_msix (by assumption)) | (with_reducible exact wf_iram (by assumption))
    | (with_reducible exact wf_dram (by assumption)) | (exact (wf_iram ‹Memory.wf _ = true› :))
    | (exact (wf_dram ‹Memory.wf _ = true› :)) | extract_lets | split | (dsimp -zeta only) | (dsimp +zetaDelta -zeta only)

theorem execAppWdogKick_keeps {s0 s : State} (h : Keeps s0 s) (q : Requester) (v : Nat) : Completes s0 (execAppWdogKick q v s) := by
  unfold execAppWdogKick
  repeat' first
    | (with_reducible assumption) | intro _ | (with_reducible apply Completes.next) | (with_reducible apply Completes.ite)
    | (with_reducible apply Keeps.ite) | (with_reducible apply Keeps.ite_fst) | (with_reducible apply done_keeps)
    | (with_reducible apply restartWdog_keeps) | (with_reducible apply State.bump_keeps) | extract_lets | split
    | (dsimp -zeta only) | (dsimp +zetaDelta -zeta only)

theorem execAppWdogHalf_keeps {s0 s : State} (h : Keeps s0 s) : Completes s0 (execAppWdogHalf s) := by
  unfold execAppWdogHalf
  repeat' first
    | (with_reducible assumption) | intro _ | (with_reducible apply Completes.next) | (with_reducible apply Completes.ite)
    | (with_reducible apply Keeps.ite) | (with_reducible apply Keeps.ite_fst) | (with_reducible apply State.reach_keeps)
    | (with_reducible apply done_keeps) | (with_reducible apply postEvent_keeps) | (with_reducible apply aicLevel_keeps)
    | (with_reducible apply State.set_keeps) | extract_lets | split | (dsimp -zeta only) | (dsimp +zetaDelta -zeta only)

theorem execAppWdogExpiry_keeps {s0 s : State} (h : Keeps s0 s) : Completes s0 (execAppWdogExpiry s) := by
  unfold execAppWdogExpiry
  repeat' first
    | (with_reducible assumption) | intro _ | (with_reducible apply Completes.next) | (with_reducible apply Completes.ite)
    | (with_reducible apply Keeps.ite) | (with_reducible apply Keeps.ite_fst) | (with_reducible apply State.reach_keeps)
    | (with_reducible apply restartWdog_keeps) | (with_reducible apply resetApp_keeps)
    | (with_reducible apply State.putApp_keeps) | (with_reducible apply postEvent_keeps)
    | (with_reducible apply State.set_keeps) | (with_reducible apply postHalt_keeps) | (with_reducible apply reloadApp_keeps)
    | (with_reducible apply done_keeps) | (with_reducible apply healthFails_keeps) | (with_reducible apply cellsWf_nil)
    | (with_reducible apply flashProgram_wf) | (with_reducible apply flashClear_wf) | (with_reducible apply setBytes_wf)
    | (with_reducible apply cellsWf_filter) | (with_reducible apply cellsWf_write) | (with_reducible apply And.intro)
    | (with_reducible exact wf_regs (by assumption)) | (with_reducible exact wf_flash (by assumption))
    | (with_reducible exact wf_window (by assumption)) | (with_reducible exact wf_ncs (by assumption))
    | (with_reducible exact wf_eht (by assumption)) | (with_reducible exact wf_hb (by assumption))
    | (with_reducible exact wf_shadow (by assumption)) | (with_reducible exact wf_msix (by assumption))
    | (with_reducible exact wf_iram (by assumption)) | (with_reducible exact wf_dram (by assumption))
    | (exact (wf_iram ‹Memory.wf _ = true› :)) | (exact (wf_dram ‹Memory.wf _ = true› :)) | extract_lets | split
    | (dsimp -zeta only) | (dsimp +zetaDelta -zeta only)

theorem execMbTxPush_keeps {s0 s : State} (h : Keeps s0 s) (endWord : Bool) : Completes s0 (execMbTxPush endWord s) := by
  unfold execMbTxPush
  repeat' first
    | (with_reducible assumption) | intro _ | (with_reducible apply Completes.next) | (with_reducible apply Completes.ite)
    | (with_reducible apply Keeps.ite) | (with_reducible apply Keeps.ite_fst) | (with_reducible apply done_keeps)
    | (with_reducible apply queueViews_keeps) | (with_reducible apply putQueue_keeps) | (with_reducible apply State.set_keeps)
    | (with_reducible apply State.putApp_keeps) | (with_reducible apply cellsWf_nil) | (with_reducible apply flashProgram_wf)
    | (with_reducible apply flashClear_wf) | (with_reducible apply setBytes_wf) | (with_reducible apply cellsWf_filter)
    | (with_reducible apply cellsWf_write) | (with_reducible apply And.intro) | (with_reducible exact wf_regs (by assumption))
    | (with_reducible exact wf_flash (by assumption)) | (with_reducible exact wf_window (by assumption))
    | (with_reducible exact wf_ncs (by assumption)) | (with_reducible exact wf_eht (by assumption))
    | (with_reducible exact wf_hb (by assumption)) | (with_reducible exact wf_shadow (by assumption))
    | (with_reducible exact wf_msix (by assumption)) | (with_reducible exact wf_iram (by assumption))
    | (with_reducible exact wf_dram (by assumption)) | (exact (wf_iram ‹Memory.wf _ = true› :))
    | (exact (wf_dram ‹Memory.wf _ = true› :)) | extract_lets | split | (dsimp -zeta only) | (dsimp +zetaDelta -zeta only)

theorem execMbRxPop_keeps {s0 s : State} (h : Keeps s0 s) : Completes s0 (execMbRxPop s) := by
  unfold execMbRxPop
  repeat' first
    | (with_reducible assumption) | intro _ | (with_reducible apply Completes.next) | (with_reducible apply Completes.ite)
    | (with_reducible apply Keeps.ite) | (with_reducible apply Keeps.ite_fst) | (with_reducible apply done_keeps)
    | (with_reducible apply underrun_keeps) | (with_reducible apply State.set_keeps) | (with_reducible apply putQueue_keeps)
    | (with_reducible apply popItem_keeps) | (with_reducible apply queueViews_keeps)
    | (with_reducible refine Keeps.of_pair (by assumption) ?_) | extract_lets | split | (dsimp -zeta only)
    | (dsimp +zetaDelta -zeta only)

theorem takeRequest_keeps {s0 s t : State} {mine : Nat → Bool} {m : List Byte} (h : Keeps s0 s)
    (e : takeRequest s mine = some (t, m)) : Keeps s0 t := by
  unfold takeRequest at e
  split at e
  · cases e
  · split at e
    · cases e
      exact queueViews_keeps (popItem_keeps h _) _
    · cases e

theorem replyMail_keeps {s0 s : State} (h : Keeps s0 s) (m : List Byte) (status : Nat) (pl : List Byte) :
    Keeps s0 (replyMail s m status pl) := by
  unfold replyMail
  repeat' first
    | (with_reducible assumption) | intro _ | (with_reducible apply queueViews_keeps) | (with_reducible apply pushItem_keeps)
    | extract_lets | split | (dsimp -zeta only) | (dsimp +zetaDelta -zeta only)

theorem execMbEcho_keeps {s0 s : State} (h : Keeps s0 s) : Completes s0 (execMbEcho s) := by
  unfold execMbEcho
  repeat' first
    | (with_reducible assumption) | intro _ | (with_reducible apply Completes.next) | (with_reducible apply Completes.ite)
    | (with_reducible apply Keeps.ite) | (with_reducible apply Keeps.ite_fst) | (with_reducible apply done_keeps)
    | (with_reducible apply replyMail_keeps) | (with_reducible exact takeRequest_keeps h ‹_›) | extract_lets | split
    | (dsimp -zeta only) | (dsimp +zetaDelta -zeta only)

theorem execMbEventSubscription_keeps {s0 s : State} (h : Keeps s0 s) : Completes s0 (execMbEventSubscription s) := by
  unfold execMbEventSubscription
  repeat' first
    | (with_reducible assumption) | intro _ | (with_reducible apply Completes.next) | (with_reducible apply Completes.ite)
    | (with_reducible apply done_keeps) | (with_reducible apply replyMail_keeps) | (with_reducible apply State.putApp_keeps)
    | (with_reducible exact takeRequest_keeps h ‹_›) | (with_reducible apply cellsWf_nil)
    | (with_reducible apply flashProgram_wf) | (with_reducible apply flashClear_wf) | (with_reducible apply setBytes_wf)
    | (with_reducible apply cellsWf_filter) | (with_reducible apply cellsWf_write) | (with_reducible apply And.intro)
    | (with_reducible exact wf_regs (by assumption)) | (with_reducible exact wf_flash (by assumption))
    | (with_reducible exact wf_window (by assumption)) | (with_reducible exact wf_ncs (by assumption))
    | (with_reducible exact wf_eht (by assumption)) | (with_reducible exact wf_hb (by assumption))
    | (with_reducible exact wf_shadow (by assumption)) | (with_reducible exact wf_msix (by assumption))
    | (with_reducible exact wf_iram (by assumption)) | (with_reducible exact wf_dram (by assumption))
    | (exact (wf_iram ‹Memory.wf _ = true› :)) | (exact (wf_dram ‹Memory.wf _ = true› :)) | extract_lets | split
    | (dsimp -zeta only) | (dsimp +zetaDelta -zeta only)

theorem execMbNodeLineRead_keeps {s0 s : State} (h : Keeps s0 s) : Completes s0 (execMbNodeLineRead s) := by
  unfold execMbNodeLineRead
  repeat' first
    | (with_reducible assumption) | intro _ | (with_reducible apply Completes.next) | (with_reducible apply Completes.ite)
    | (with_reducible apply Keeps.ite) | (with_reducible apply Keeps.ite_fst) | (with_reducible apply done_keeps)
    | (with_reducible apply replyMail_keeps) | (with_reducible exact takeRequest_keeps h ‹_›) | extract_lets | split
    | (dsimp -zeta only) | (dsimp +zetaDelta -zeta only)

theorem execMbTimebase_keeps {s0 s : State} (h : Keeps s0 s) : Completes s0 (execMbTimebase s) := by
  unfold execMbTimebase
  repeat' first
    | (with_reducible assumption) | intro _ | (with_reducible apply Completes.next) | (with_reducible apply Completes.ite)
    | (with_reducible apply done_keeps) | (with_reducible apply replyMail_keeps)
    | (with_reducible exact takeRequest_keeps h ‹_›) | extract_lets | split | (dsimp -zeta only) | (dsimp +zetaDelta -zeta only)

end Sys2Proof.Machine
end

