-- ==== Sys2Proof/Laws/KeepsDrift.lean ====
section
/-!
SUPPORT. What the operations of Machine/Drift.lean keep (`Keeps`).
-/

namespace Sys2Proof.Machine

set_option linter.unusedVariables false
set_option linter.unusedTactic false
set_option linter.unreachableTactic false

theorem execDriftObservation_keeps {s0 s : State} (h : Keeps s0 s) : Completes s0 (execDriftObservation s) := by
  unfold execDriftObservation
  repeat' first
    | (with_reducible assumption) | intro _ | (with_reducible apply Completes.next) | (with_reducible apply Completes.ite)
    | (with_reducible apply done_keeps) | (with_reducible apply fitObservation_keeps)
    | (with_reducible apply State.putDrift_keeps) | extract_lets | split | (dsimp -zeta only) | (dsimp +zetaDelta -zeta only)

theorem execModelAgeExpiry_keeps {s0 s : State} (h : Keeps s0 s) (node : Nat) : Completes s0 (execModelAgeExpiry node s) := by
  unfold execModelAgeExpiry
  repeat' first
    | (with_reducible assumption) | intro _ | (with_reducible apply Completes.next) | (with_reducible apply Completes.ite)
    | (with_reducible apply Keeps.ite) | (with_reducible apply Keeps.ite_fst) | (with_reducible apply done_keeps)
    | (with_reducible apply invalidate_keeps) | extract_lets | split | (dsimp -zeta only) | (dsimp +zetaDelta -zeta only)

theorem execWakeSetTarget_keeps {s0 s : State} (h : Keeps s0 s) (node k : Nat) : Completes s0 (execWakeSetTarget node k s) := by
  unfold execWakeSetTarget
  repeat' first
    | (with_reducible assumption) | intro _ | (with_reducible apply Completes.next) | (with_reducible apply Completes.ite)
    | (with_reducible apply Keeps.ite) | (with_reducible apply Keeps.ite_fst) | (with_reducible apply done_keeps)
    | (with_reducible apply State.set_keeps) | (with_reducible apply State.putDrift_keeps)
    | (with_reducible apply considerAgreement_keeps) | extract_lets | split | (dsimp -zeta only) | (dsimp +zetaDelta -zeta only)

theorem execWakeResetModel_keeps {s0 s : State} (h : Keeps s0 s) (node : Nat) : Completes s0 (execWakeResetModel node s) := by
  unfold execWakeResetModel
  repeat' first
    | (with_reducible assumption) | intro _ | (with_reducible apply Completes.next) | (with_reducible apply Completes.ite)
    | (with_reducible apply Keeps.ite) | (with_reducible apply Keeps.ite_fst) | (with_reducible apply done_keeps)
    | (with_reducible apply State.set_keeps) | (with_reducible apply setFit_keeps) | (with_reducible apply setLineField_keeps)
    | (with_reducible apply State.bump_keeps) | (with_reducible apply considerAgreement_keeps) | extract_lets | split
    | (dsimp -zeta only) | (dsimp +zetaDelta -zeta only)

theorem trackMiss_keeps {s0 s : State} (h : Keeps s0 s) (frame : Nat) : Keeps s0 (trackMiss s frame) := by
  unfold trackMiss
  repeat' first
    | (with_reducible assumption) | intro _ | (with_reducible apply Keeps.ite) | (with_reducible apply Keeps.ite_fst)
    | (with_reducible apply State.putDrift_keeps) | (with_reducible apply State.bump_keeps)
    | (with_reducible apply postEvent_keeps) | (with_reducible apply State.set_keeps) | extract_lets | split
    | (dsimp -zeta only) | (dsimp +zetaDelta -zeta only)

theorem acceptBeacon_keeps {s0 s : State} (h : Keeps s0 s) (asn tPoll first : Nat) : Keeps s0 (acceptBeacon s asn tPoll first) := by
  unfold acceptBeacon
  repeat' first
    | (with_reducible assumption) | intro _ | (with_reducible apply Keeps.ite) | (with_reducible apply Keeps.ite_fst)
    | (with_reducible apply State.setI_keeps) | (with_reducible apply State.putDrift_keeps)
    | (with_reducible apply State.set_keeps) | (with_reducible apply State.bump_keeps) | (with_reducible apply postEvent_keeps)
    | extract_lets | split | (dsimp -zeta only) | (dsimp +zetaDelta -zeta only)

theorem execPeerBeaconRx_keeps {s0 s : State} (h : Keeps s0 s) (cluster : Nat) : Completes s0 (execPeerBeaconRx cluster s) := by
  unfold execPeerBeaconRx
  repeat' first
    | (with_reducible assumption) | intro _ | (with_reducible apply Completes.next) | (with_reducible apply Completes.ite)
    | (with_reducible apply Keeps.ite) | (with_reducible apply Keeps.ite_fst) | (with_reducible apply done_keeps)
    | (with_reducible apply dropReport_keeps) | (with_reducible apply State.bump_keeps) | (with_reducible apply trackMiss_keeps)
    | (with_reducible apply acceptBeacon_keeps) | extract_lets | split | (dsimp -zeta only) | (dsimp +zetaDelta -zeta only)

theorem execTrackSlotframeMiss_keeps {s0 s : State} (h : Keeps s0 s) : Completes s0 (execTrackSlotframeMiss s) := by
  unfold execTrackSlotframeMiss
  repeat' first
    | (with_reducible assumption) | intro _ | (with_reducible apply Completes.next) | (with_reducible apply Completes.ite)
    | (with_reducible apply Keeps.ite) | (with_reducible apply Keeps.ite_fst) | (with_reducible apply done_keeps)
    | (with_reducible apply trackMiss_keeps) | extract_lets | split | (dsimp -zeta only) | (dsimp +zetaDelta -zeta only)

end Sys2Proof.Machine
end

