-- ==== Sys2Proof/Laws/KeepsEngines.lean ====
section
/-!
SUPPORT. What the operations of Machine/Engines.lean keep (`Keeps`).
-/

namespace Sys2Proof.Machine

set_option linter.unusedVariables false
set_option linter.unusedTactic false
set_option linter.unreachableTactic false

theorem execAssignmentRecord_keeps {s0 s : State} (h : Keeps s0 s) (engine : Nat) :
    Completes s0 (execAssignmentRecord engine s) := by
  unfold execAssignmentRecord
  repeat' first
    | (with_reducible assumption) | intro _ | (with_reducible apply Completes.next) | (with_reducible apply Completes.ite)
    | (with_reducible apply Keeps.ite) | (with_reducible apply Keeps.ite_fst) | (with_reducible apply done_keeps)
    | (with_reducible apply giveLoad_keeps) | (with_reducible apply State.putPsm_keeps)
    | (with_reducible apply calPreempt_keeps) | (with_reducible apply viewTone_keeps) | extract_lets | split
    | (dsimp -zeta only) | (dsimp +zetaDelta -zeta only)

theorem execPreambleDetect_keeps {s0 s : State} (h : Keeps s0 s) (engine rhoA rhoB : Nat) (hypothesis : Int) :
    Completes s0 (execPreambleDetect engine rhoA rhoB hypothesis s) := by
  unfold execPreambleDetect
  repeat' first
    | (with_reducible assumption) | intro _ | (with_reducible apply Completes.next) | (with_reducible apply Completes.ite)
    | (with_reducible apply Keeps.ite) | (with_reducible apply Keeps.ite_fst) | (with_reducible apply done_keeps)
    | (with_reducible apply State.set_keeps) | (with_reducible apply State.bump_keeps)
    | (with_reducible apply State.setCe_keeps) | (with_reducible apply markMirror_keeps) | extract_lets | split
    | (dsimp -zeta only) | (dsimp +zetaDelta -zeta only)

theorem execFalseDetection_keeps {s0 s : State} (h : Keeps s0 s) (engine : Nat) : Completes s0 (execFalseDetection engine s) := by
  unfold execFalseDetection
  repeat' first
    | (with_reducible assumption) | intro _ | (with_reducible apply Completes.next) | (with_reducible apply Completes.ite)
    | (with_reducible apply Keeps.ite) | (with_reducible apply Keeps.ite_fst) | (with_reducible apply done_keeps)
    | (with_reducible apply State.bump_keeps) | (with_reducible apply backToSearch_keeps)
    | (with_reducible apply State.setCe_keeps) | extract_lets | split | (dsimp -zeta only) | (dsimp +zetaDelta -zeta only)

theorem execFalseDetSecond_keeps {s0 s : State} (h : Keeps s0 s) (cluster : Nat) : Completes s0 (execFalseDetSecond cluster s) := by
  unfold execFalseDetSecond
  repeat' first
    | (with_reducible assumption) | intro _ | (with_reducible apply Completes.next) | (with_reducible apply Completes.ite)
    | (with_reducible apply Keeps.ite) | (with_reducible apply Keeps.ite_fst) | (with_reducible apply done_keeps)
    | (with_reducible apply State.setCe_keeps) | (with_reducible apply postEvent_keeps) | (with_reducible apply State.set_keeps)
    | (with_reducible apply Keeps.fold) | (with_reducible apply Keeps.foldl_fst) | extract_lets | split | (dsimp -zeta only)
    | (dsimp +zetaDelta -zeta only)

theorem execAntennaDecision_keeps {s0 s : State} (h : Keeps s0 s) (engine metricA metricB : Nat) :
    Completes s0 (execAntennaDecision engine metricA metricB s) := by
  unfold execAntennaDecision
  repeat' first
    | (with_reducible assumption) | intro _ | (with_reducible apply Completes.next) | (with_reducible apply Completes.ite)
    | (with_reducible apply Keeps.ite) | (with_reducible apply Keeps.ite_fst) | (with_reducible apply done_keeps)
    | (with_reducible apply State.setCe_keeps) | extract_lets | split | (dsimp -zeta only) | (dsimp +zetaDelta -zeta only)

theorem execSfdDetect_keeps {s0 s : State} (h : Keeps s0 s) (engine time : Nat) (estimate : Int) :
    Completes s0 (execSfdDetect engine time estimate s) := by
  unfold execSfdDetect
  repeat' first
    | (with_reducible assumption) | intro _ | (with_reducible apply Completes.next) | (with_reducible apply Completes.ite)
    | (with_reducible apply Keeps.ite) | (with_reducible apply Keeps.ite_fst) | (with_reducible apply done_keeps)
    | (with_reducible apply State.advanceTo_keeps) | (with_reducible apply State.set_keeps)
    | (with_reducible apply viewLag_keeps) | (with_reducible apply State.setCe_keeps) | extract_lets | split
    | (dsimp -zeta only) | (dsimp +zetaDelta -zeta only)

theorem execPhrDecode_keeps {s0 s : State} (h : Keeps s0 s) (engine header len : Nat) (fcs4 reserved modeSwitch hcsOk : Bool) (mcs : Nat) :
    Completes s0 (execPhrDecode engine header len fcs4 reserved modeSwitch hcsOk mcs s) := by
  unfold execPhrDecode
  repeat' first
    | (with_reducible assumption) | intro _ | (with_reducible apply Completes.next) | (with_reducible apply Completes.ite)
    | (with_reducible apply Keeps.ite) | (with_reducible apply Keeps.ite_fst) | (with_reducible apply done_keeps)
    | (with_reducible apply State.setCe_keeps) | (with_reducible apply backToSearch_keeps)
    | (with_reducible apply State.bump_keeps) | extract_lets | split | (dsimp -zeta only) | (dsimp +zetaDelta -zeta only)

theorem execFrameEnd_keeps {s0 s : State} (h : Keeps s0 s) (engine : Nat) (psdu : List Byte) (fcsOk saturated : Bool) (power snr residual : Int) (snrs : List Int) (nulls : Int) (image : List Int) :
    Completes s0 (execFrameEnd engine psdu fcsOk saturated power snr residual snrs nulls image s) := by
  unfold execFrameEnd
  repeat' first
    | (with_reducible assumption) | intro _ | (with_reducible apply Completes.next) | (with_reducible apply Completes.ite)
    | (with_reducible apply Keeps.ite) | (with_reducible apply Keeps.ite_fst) | (with_reducible apply done_keeps)
    | (with_reducible apply backToSearch_keeps) | (with_reducible apply State.bump_keeps)
    | (with_reducible apply State.set_keeps) | (with_reducible apply collectImage_keeps) | (with_reducible apply pushItem_keeps)
    | extract_lets | split | (dsimp -zeta only) | (dsimp +zetaDelta -zeta only)

theorem execRxqWaitTimeout_keeps {s0 s : State} (h : Keeps s0 s) (engine : Nat) : Completes s0 (execRxqWaitTimeout engine s) := by
  unfold execRxqWaitTimeout
  repeat' first
    | (with_reducible assumption) | intro _ | (with_reducible apply Completes.next) | (with_reducible apply Completes.ite)
    | (with_reducible apply Keeps.ite) | (with_reducible apply Keeps.ite_fst) | (with_reducible apply done_keeps)
    | (with_reducible apply putQueue_keeps) | (with_reducible apply State.bump_keeps) | extract_lets | split
    | (dsimp -zeta only) | (dsimp +zetaDelta -zeta only)

theorem viewWork_keeps {s0 s : State} (h : Keeps s0 s) (te : Nat) (w : WorkItem) : Keeps s0 (viewWork s te w) := by
  unfold viewWork
  repeat' first
    | (with_reducible assumption) | intro _ | (with_reducible apply State.set_keeps) | extract_lets | split | (dsimp -zeta only)
    | (dsimp +zetaDelta -zeta only)

theorem execTxWorkItem_keeps {s0 s : State} (h : Keeps s0 s) (te handle : Nat) : Completes s0 (execTxWorkItem te handle s) := by
  unfold execTxWorkItem
  repeat' first
    | (with_reducible assumption) | intro _ | (with_reducible apply Completes.next) | (with_reducible apply Completes.ite)
    | (with_reducible apply Keeps.ite) | (with_reducible apply Keeps.ite_fst) | (with_reducible apply done_keeps)
    | (with_reducible apply State.putPsm_keeps) | (with_reducible apply State.setTe_keeps)
    | (with_reducible apply teGiveBack_keeps) | (with_reducible apply State.bump_keeps) | (with_reducible apply viewWork_keeps)
    | (with_reducible apply State.set_keeps) | extract_lets | split | (dsimp -zeta only) | (dsimp +zetaDelta -zeta only)

theorem execTxFrameEnd_keeps {s0 s : State} (h : Keeps s0 s) (te : Nat) : Completes s0 (execTxFrameEnd te s) := by
  unfold execTxFrameEnd
  repeat' first
    | (with_reducible assumption) | intro _ | (with_reducible apply Completes.next) | (with_reducible apply Completes.ite)
    | (with_reducible apply Keeps.ite) | (with_reducible apply Keeps.ite_fst) | (with_reducible apply done_keeps)
    | (with_reducible apply State.advanceTo_keeps) | (with_reducible apply completion_keeps)
    | (with_reducible apply State.setTe_keeps) | (with_reducible apply State.set_keeps)
    | (with_reducible apply State.bump_keeps) | (with_reducible apply State.setPath_keeps)
    | (with_reducible apply intervalEnds_keeps) | (with_reducible apply frameSent_keeps) | extract_lets | split
    | (dsimp -zeta only) | (dsimp +zetaDelta -zeta only)

end Sys2Proof.Machine
end

