-- ==== Sys2Proof/Laws/KeepsEthernet.lean ====
section
/-!
SUPPORT. What the operations of Machine/Ethernet.lean keep (`Keeps`).
-/

namespace Sys2Proof.Machine

set_option linter.unusedVariables false
set_option linter.unusedTactic false
set_option linter.unreachableTactic false

theorem ingressIp_keeps {s0 s : State} (h : Keeps s0 s) (cls : Nat) (data p : List Byte) (stamp came : Nat) :
    Keeps s0 (ingressIp s cls data p stamp came) := by
  unfold ingressIp
  repeat' first
    | (with_reducible assumption) | intro _ | (with_reducible apply Keeps.ite) | (with_reducible apply Keeps.ite_fst)
    | (with_reducible apply toControlCores_keeps) | (with_reducible apply State.bump_keeps)
    | (with_reducible apply downlinkPacket_keeps) | extract_lets | split | (dsimp -zeta only) | (dsimp +zetaDelta -zeta only)

theorem ingressFrame_keeps {s0 s : State} (h : Keeps s0 s) (e : Nat) (data : List Byte) (stamp came : Nat) :
    Keeps s0 (ingressFrame s e data stamp came) := by
  unfold ingressFrame
  repeat' first
    | (with_reducible assumption) | intro _ | (with_reducible apply Keeps.ite) | (with_reducible apply Keeps.ite_fst)
    | (with_reducible apply State.bump_keeps) | (with_reducible apply ingressIp_keeps)
    | (with_reducible apply toControlCores_keeps) | extract_lets | split | (dsimp -zeta only) | (dsimp +zetaDelta -zeta only)

theorem execEthIngressFrame_keeps {s0 s : State} (h : Keeps s0 s) (port : Nat) (data : List Byte) (fcsOk : Bool) (latch delay : Nat) :
    Completes s0 (execEthIngressFrame port data fcsOk latch delay s) := by
  unfold execEthIngressFrame
  repeat' first
    | (with_reducible assumption) | intro _ | (with_reducible apply Completes.next) | (with_reducible apply Completes.ite)
    | (with_reducible apply Keeps.ite) | (with_reducible apply Keeps.ite_fst) | (with_reducible apply done_keeps)
    | (with_reducible apply State.bump_keeps) | (with_reducible apply ingressFrame_keeps)
    | (with_reducible apply State.elapse_keeps) | extract_lets | split | (dsimp -zeta only) | (dsimp +zetaDelta -zeta only)

theorem execEthPortLinkUp_keeps {s0 s : State} (h : Keeps s0 s) (port : Nat) : Completes s0 (execEthPortLinkUp port s) := by
  unfold execEthPortLinkUp
  repeat' first
    | (with_reducible assumption) | intro _ | (with_reducible apply Completes.next) | (with_reducible apply Completes.ite)
    | (with_reducible apply Keeps.ite) | (with_reducible apply Keeps.ite_fst) | (with_reducible apply done_keeps)
    | (with_reducible apply State.set_keeps) | (with_reducible apply setEthPort_keeps)
    | (with_reducible apply startEgress_keeps) | (with_reducible apply postEvent_keeps) | extract_lets | split
    | (dsimp -zeta only) | (dsimp +zetaDelta -zeta only)

theorem execEthPortLinkDown_keeps {s0 s : State} (h : Keeps s0 s) (port cause : Nat) :
    Completes s0 (execEthPortLinkDown port cause s) := by
  unfold execEthPortLinkDown
  repeat' first
    | (with_reducible assumption) | intro _ | (with_reducible apply Completes.next) | (with_reducible apply Completes.ite)
    | (with_reducible apply Keeps.ite) | (with_reducible apply Keeps.ite_fst) | (with_reducible apply done_keeps)
    | (with_reducible apply portDown_keeps) | extract_lets | split | (dsimp -zeta only) | (dsimp +zetaDelta -zeta only)

theorem execPreemptVerifyTimeout_keeps {s0 s : State} (h : Keeps s0 s) (port : Nat) :
    Completes s0 (execPreemptVerifyTimeout port s) := by
  unfold execPreemptVerifyTimeout
  repeat' first
    | (with_reducible assumption) | intro _ | (with_reducible apply Completes.next) | (with_reducible apply Completes.ite)
    | (with_reducible apply Keeps.ite) | (with_reducible apply Keeps.ite_fst) | (with_reducible apply done_keeps)
    | (with_reducible apply setEthPort_keeps) | (with_reducible apply postEvent_keeps) | (with_reducible apply State.bump_keeps)
    | extract_lets | split | (dsimp -zeta only) | (dsimp +zetaDelta -zeta only)

theorem execPreemptVerifyResponse_keeps {s0 s : State} (h : Keeps s0 s) (port : Nat) :
    Completes s0 (execPreemptVerifyResponse port s) := by
  unfold execPreemptVerifyResponse
  repeat' first
    | (with_reducible assumption) | intro _ | (with_reducible apply Completes.next) | (with_reducible apply Completes.ite)
    | (with_reducible apply Keeps.ite) | (with_reducible apply Keeps.ite_fst) | (with_reducible apply done_keeps)
    | (with_reducible apply startEgress_keeps) | (with_reducible apply setEthPort_keeps)
    | (with_reducible apply State.set_keeps) | extract_lets | split | (dsimp -zeta only) | (dsimp +zetaDelta -zeta only)

theorem execReassemblyTimeout_keeps {s0 s : State} (h : Keeps s0 s) (node tag size : Nat) :
    Completes s0 (execReassemblyTimeout node tag size s) := by
  unfold execReassemblyTimeout
  repeat' first
    | (with_reducible assumption) | intro _ | (with_reducible apply Completes.next) | (with_reducible apply Completes.ite)
    | (with_reducible apply done_keeps) | (with_reducible apply freeContext_keeps) | (with_reducible apply State.reach_keeps)
    | (with_reducible apply State.bump_keeps) | extract_lets | split | (dsimp -zeta only) | (dsimp +zetaDelta -zeta only)

theorem execEthEgressFrameDone_keeps {s0 s : State} (h : Keeps s0 s) (port latch : Nat) :
    Completes s0 (execEthEgressFrameDone port latch s) := by
  unfold execEthEgressFrameDone
  repeat' first
    | (with_reducible assumption) | intro _ | (with_reducible apply Completes.next) | (with_reducible apply Completes.ite)
    | (with_reducible apply Keeps.ite) | (with_reducible apply Keeps.ite_fst) | (with_reducible apply done_keeps)
    | (with_reducible apply State.reach_keeps) | (with_reducible apply accrue_keeps) | (with_reducible apply State.putEth_keeps)
    | (with_reducible apply startEgress_keeps) | (with_reducible apply setEthPort_keeps) | extract_lets | split
    | (dsimp -zeta only) | (dsimp +zetaDelta -zeta only)

end Sys2Proof.Machine
end

