-- ==== Sys2Proof/Laws/KeepsHostIf.lean ====
section
/-!
SUPPORT. What the operations of Machine/HostIf.lean keep (`Keeps`).
-/

namespace Sys2Proof.Machine

set_option linter.unusedVariables false
set_option linter.unusedTactic false
set_option linter.unreachableTactic false

theorem resetHost_keeps {s0 s : State} (h : Keeps s0 s) : Keeps s0 (resetHost s) := by
  unfold resetHost
  repeat' first
    | (with_reducible assumption) | intro _ | (with_reducible apply ringToBacklog_keeps)
    | (with_reducible apply State.putRegs_keeps) | (with_reducible apply State.putHqs_keeps)
    | (with_reducible apply State.putEv_keeps) | (with_reducible apply State.putPcie_keeps)
    | (with_reducible apply State.set_keeps) | (with_reducible apply Keeps.fold) | (with_reducible apply cellsWf_nil)
    | (with_reducible apply flashProgram_wf) | (with_reducible apply flashClear_wf) | (with_reducible apply setBytes_wf)
    | (with_reducible apply cellsWf_filter) | (with_reducible apply cellsWf_write) | (with_reducible apply And.intro)
    | (with_reducible exact wf_regs (by assumption)) | (with_reducible exact wf_flash (by assumption))
    | (with_reducible exact wf_window (by assumption)) | (with_reducible exact wf_ncs (by assumption))
    | (with_reducible exact wf_eht (by assumption)) | (with_reducible exact wf_hb (by assumption))
    | (with_reducible exact wf_shadow (by assumption)) | (with_reducible exact wf_msix (by assumption))
    | (with_reducible exact wf_iram (by assumption)) | (with_reducible exact wf_dram (by assumption)) | extract_lets | split
    | (dsimp -zeta only) | (dsimp +zetaDelta -zeta only)

theorem execPcieReset_keeps {s0 s : State} (h : Keeps s0 s) (flr : Bool) : Completes s0 (execPcieReset flr s) := by
  unfold execPcieReset
  repeat' first
    | (with_reducible assumption) | intro _ | (with_reducible apply Completes.next) | (with_reducible apply Completes.ite)
    | (with_reducible apply Keeps.ite) | (with_reducible apply Keeps.ite_fst) | (with_reducible apply resetHost_keeps)
    | (with_reducible apply done_keeps) | (with_reducible apply State.putPcie_keeps) | (with_reducible apply cellsWf_nil)
    | (with_reducible apply flashProgram_wf) | (with_reducible apply flashClear_wf) | (with_reducible apply setBytes_wf)
    | (with_reducible apply cellsWf_filter) | (with_reducible apply cellsWf_write) | (with_reducible apply And.intro)
    | (with_reducible exact wf_regs (by assumption)) | (with_reducible exact wf_flash (by assumption))
    | (with_reducible exact wf_window (by assumption)) | (with_reducible exact wf_ncs (by assumption))
    | (with_reducible exact wf_eht (by assumption)) | (with_reducible exact wf_hb (by assumption))
    | (with_reducible exact wf_shadow (by assumption)) | (with_reducible exact wf_msix (by assumption))
    | (with_reducible exact wf_iram (by assumption)) | (with_reducible exact wf_dram (by assumption)) | extract_lets | split
    | (dsimp -zeta only) | (dsimp +zetaDelta -zeta only)

theorem execPcieResetRelease_keeps {s0 s : State} (h : Keeps s0 s) : Completes s0 (execPcieResetRelease s) := by
  unfold execPcieResetRelease
  repeat' first
    | (with_reducible assumption) | intro _ | (with_reducible apply Completes.next) | (with_reducible apply Completes.ite)
    | (with_reducible apply done_keeps) | (with_reducible apply State.putPcie_keeps) | (with_reducible apply cellsWf_nil)
    | (with_reducible apply flashProgram_wf) | (with_reducible apply flashClear_wf) | (with_reducible apply setBytes_wf)
    | (with_reducible apply cellsWf_filter) | (with_reducible apply cellsWf_write) | (with_reducible apply And.intro)
    | (with_reducible exact wf_regs (by assumption)) | (with_reducible exact wf_flash (by assumption))
    | (with_reducible exact wf_window (by assumption)) | (with_reducible exact wf_ncs (by assumption))
    | (with_reducible exact wf_eht (by assumption)) | (with_reducible exact wf_hb (by assumption))
    | (with_reducible exact wf_shadow (by assumption)) | (with_reducible exact wf_msix (by assumption))
    | (with_reducible exact wf_iram (by assumption)) | (with_reducible exact wf_dram (by assumption)) | extract_lets | split
    | (dsimp -zeta only) | (dsimp +zetaDelta -zeta only)

theorem execPcieLinkChange_keeps {s0 s : State} (h : Keeps s0 s) (up : Bool) (width rate : Nat) :
    Completes s0 (execPcieLinkChange up width rate s) := by
  unfold execPcieLinkChange
  repeat' first
    | (with_reducible assumption) | intro _ | (with_reducible apply Completes.next) | (with_reducible apply Completes.ite)
    | (with_reducible apply Keeps.ite) | (with_reducible apply Keeps.ite_fst) | (with_reducible apply done_keeps)
    | (with_reducible apply State.putPcie_keeps) | (with_reducible apply postEvent_keeps) | (with_reducible apply cellsWf_nil)
    | (with_reducible apply flashProgram_wf) | (with_reducible apply flashClear_wf) | (with_reducible apply setBytes_wf)
    | (with_reducible apply cellsWf_filter) | (with_reducible apply cellsWf_write) | (with_reducible apply And.intro)
    | (with_reducible exact wf_regs (by assumption)) | (with_reducible exact wf_flash (by assumption))
    | (with_reducible exact wf_window (by assumption)) | (with_reducible exact wf_ncs (by assumption))
    | (with_reducible exact wf_eht (by assumption)) | (with_reducible exact wf_hb (by assumption))
    | (with_reducible exact wf_shadow (by assumption)) | (with_reducible exact wf_msix (by assumption))
    | (with_reducible exact wf_iram (by assumption)) | (with_reducible exact wf_dram (by assumption)) | extract_lets | split
    | (dsimp -zeta only) | (dsimp +zetaDelta -zeta only)

theorem execUnsupportedRequest_keeps {s0 s : State} (h : Keeps s0 s) : Completes s0 (execUnsupportedRequest s) := by
  unfold execUnsupportedRequest
  repeat' first
    | (with_reducible assumption) | intro _ | (with_reducible apply Completes.next) | (with_reducible apply Completes.ite)
    | (with_reducible apply done_keeps) | (with_reducible apply State.emit_keeps) | extract_lets | split | (dsimp -zeta only)
    | (dsimp +zetaDelta -zeta only)

theorem execEventGenerate_keeps {s0 s : State} (h : Keeps s0 s) (code : Nat) (data : List Byte) :
    Completes s0 (execEventGenerate code data s) := by
  unfold execEventGenerate
  repeat' first
    | (with_reducible assumption) | intro _ | (with_reducible apply Completes.next) | (with_reducible apply Completes.ite)
    | (with_reducible apply Keeps.ite) | (with_reducible apply Keeps.ite_fst) | (with_reducible apply done_keeps)
    | (with_reducible apply generate_keeps) | extract_lets | split | (dsimp -zeta only) | (dsimp +zetaDelta -zeta only)

theorem execEventRecordWrite_keeps {s0 s : State} (h : Keeps s0 s) (ring : Nat) : Completes s0 (execEventRecordWrite ring s) := by
  unfold execEventRecordWrite
  repeat' first
    | (with_reducible assumption) | intro _ | (with_reducible apply Completes.next) | (with_reducible apply Completes.ite)
    | (with_reducible apply Keeps.ite) | (with_reducible apply Keeps.ite_fst) | (with_reducible apply done_keeps)
    | (with_reducible apply State.setRing_keeps) | (with_reducible apply State.emit_keeps)
    | (with_reducible apply State.bumpWrap_keeps) | (with_reducible apply postEvent_keeps)
    | (with_reducible apply countDrop_keeps) | extract_lets | split | (dsimp -zeta only) | (dsimp +zetaDelta -zeta only)

theorem execEventWriteback_keeps {s0 s : State} (h : Keeps s0 s) (ring : Nat) : Completes s0 (execEventWriteback ring s) := by
  unfold execEventWriteback
  repeat' first
    | (with_reducible assumption) | intro _ | (with_reducible apply Completes.next) | (with_reducible apply Completes.ite)
    | (with_reducible apply Keeps.ite) | (with_reducible apply Keeps.ite_fst) | (with_reducible apply State.emit_keeps)
    | (with_reducible apply done_keeps) | (with_reducible apply State.setRing_keeps) | extract_lets | split | (dsimp -zeta only)
    | (dsimp +zetaDelta -zeta only)

theorem ringMessage_keeps {s0 s : State} (h : Keeps s0 s) (r : Nat) : Keeps s0 (ringMessage s r) := by
  unfold ringMessage
  repeat' first
    | (with_reducible assumption) | intro _ | (with_reducible apply Keeps.ite) | (with_reducible apply Keeps.ite_fst)
    | (with_reducible apply State.reach_keeps) | (with_reducible apply sendMsix_keeps)
    | (with_reducible apply State.setRing_keeps) | extract_lets | split | (dsimp -zeta only) | (dsimp +zetaDelta -zeta only)

theorem queueMessage_keeps {s0 s : State} (h : Keeps s0 s) (q : Nat) : Keeps s0 (queueMessage s q) := by
  unfold queueMessage
  repeat' first
    | (with_reducible assumption) | intro _ | (with_reducible apply Keeps.ite) | (with_reducible apply Keeps.ite_fst)
    | (with_reducible apply State.reach_keeps) | (with_reducible apply sendMsix_keeps)
    | (with_reducible apply State.setHq_keeps) | extract_lets | split | (dsimp -zeta only) | (dsimp +zetaDelta -zeta only)

theorem execMsixMessage_keeps {s0 s : State} (h : Keeps s0 s) (index : Nat) : Completes s0 (execMsixMessage index s) := by
  unfold execMsixMessage
  repeat' first
    | (with_reducible assumption) | intro _ | (with_reducible apply Completes.next) | (with_reducible apply Completes.ite)
    | (with_reducible apply Keeps.ite) | (with_reducible apply Keeps.ite_fst) | (with_reducible apply done_keeps)
    | (with_reducible apply ringMessage_keeps) | (with_reducible apply queueMessage_keeps) | extract_lets | split
    | (dsimp -zeta only) | (dsimp +zetaDelta -zeta only)

theorem execMsixVectorUnmask_keeps {s0 s : State} (h : Keeps s0 s) (vector : Nat) :
    Completes s0 (execMsixVectorUnmask vector s) := by
  unfold execMsixVectorUnmask
  repeat' first
    | (with_reducible assumption) | intro _ | (with_reducible apply Completes.next) | (with_reducible apply Completes.ite)
    | (with_reducible apply Keeps.ite) | (with_reducible apply Keeps.ite_fst) | (with_reducible apply State.putPcie_keeps)
    | (with_reducible apply done_keeps) | (with_reducible apply flushVector_keeps) | (with_reducible apply cellsWf_nil)
    | (with_reducible apply flashProgram_wf) | (with_reducible apply flashClear_wf) | (with_reducible apply setBytes_wf)
    | (with_reducible apply cellsWf_filter) | (with_reducible apply cellsWf_write) | (with_reducible apply And.intro)
    | (with_reducible exact wf_regs (by assumption)) | (with_reducible exact wf_flash (by assumption))
    | (with_reducible exact wf_window (by assumption)) | (with_reducible exact wf_ncs (by assumption))
    | (with_reducible exact wf_eht (by assumption)) | (with_reducible exact wf_hb (by assumption))
    | (with_reducible exact wf_shadow (by assumption)) | (with_reducible exact wf_msix (by assumption))
    | (with_reducible exact wf_iram (by assumption)) | (with_reducible exact wf_dram (by assumption)) | extract_lets | split
    | (dsimp -zeta only) | (dsimp +zetaDelta -zeta only)

theorem execBusMasterEnableChange_keeps {s0 s : State} (h : Keeps s0 s) (on : Bool) :
    Completes s0 (execBusMasterEnableChange on s) := by
  unfold execBusMasterEnableChange
  repeat' first
    | (with_reducible assumption) | intro _ | (with_reducible apply Completes.next) | (with_reducible apply Completes.ite)
    | (with_reducible apply Keeps.ite) | (with_reducible apply Keeps.ite_fst) | (with_reducible apply done_keeps)
    | (with_reducible apply backlogToRing_keeps) | (with_reducible apply viewActive_keeps)
    | (with_reducible apply State.putPcie_keeps) | (with_reducible apply ringToBacklog_keeps)
    | (with_reducible apply Keeps.fold) | (with_reducible apply cellsWf_nil) | (with_reducible apply flashProgram_wf)
    | (with_reducible apply flashClear_wf) | (with_reducible apply setBytes_wf) | (with_reducible apply cellsWf_filter)
    | (with_reducible apply cellsWf_write) | (with_reducible apply And.intro) | (with_reducible exact wf_regs (by assumption))
    | (with_reducible exact wf_flash (by assumption)) | (with_reducible exact wf_window (by assumption))
    | (with_reducible exact wf_ncs (by assumption)) | (with_reducible exact wf_eht (by assumption))
    | (with_reducible exact wf_hb (by assumption)) | (with_reducible exact wf_shadow (by assumption))
    | (with_reducible exact wf_msix (by assumption)) | (with_reducible exact wf_iram (by assumption))
    | (with_reducible exact wf_dram (by assumption)) | extract_lets | split | (dsimp -zeta only) | (dsimp +zetaDelta -zeta only)

theorem putCtrl_keeps {s0 s : State} (h : Keeps s0 s) (log vector mod_ : Fld) (v : Nat) :
    Keeps s0 (putCtrl s log vector mod_ v) := by
  unfold putCtrl
  repeat' first
    | (with_reducible assumption) | intro _ | (with_reducible apply State.set_keeps) | extract_lets | split | (dsimp -zeta only)
    | (dsimp +zetaDelta -zeta only)

theorem execEvrCtrlWrite_keeps {s0 s : State} (h : Keeps s0 s) (ring v : Nat) : Completes s0 (execEvrCtrlWrite ring v s) := by
  unfold execEvrCtrlWrite
  repeat' first
    | (with_reducible assumption) | intro _ | (with_reducible apply Completes.next) | (with_reducible apply Completes.ite)
    | (with_reducible apply Keeps.ite) | (with_reducible apply Keeps.ite_fst) | (with_reducible apply State.set_keeps)
    | (with_reducible apply putCtrl_keeps) | (with_reducible apply done_keeps) | (with_reducible apply viewActive_keeps)
    | (with_reducible apply ringToBacklog_keeps) | (with_reducible apply State.setRing_keeps)
    | (with_reducible apply backlogToRing_keeps) | extract_lets | split | (dsimp -zeta only) | (dsimp +zetaDelta -zeta only)

theorem execEvrBaseWrite_keeps {s0 s : State} (h : Keeps s0 s) (ring part v : Nat) :
    Completes s0 (execEvrBaseWrite ring part v s) := by
  unfold execEvrBaseWrite
  repeat' first
    | (with_reducible assumption) | intro _ | (with_reducible apply Completes.next) | (with_reducible apply Completes.ite)
    | (with_reducible apply Keeps.ite) | (with_reducible apply Keeps.ite_fst) | (with_reducible apply done_keeps)
    | (with_reducible apply State.set_keeps) | extract_lets | split | (dsimp -zeta only) | (dsimp +zetaDelta -zeta only)

theorem execEvrConsWrite_keeps {s0 s : State} (h : Keeps s0 s) (ring v : Nat) : Completes s0 (execEvrConsWrite ring v s) := by
  unfold execEvrConsWrite
  repeat' first
    | (with_reducible assumption) | intro _ | (with_reducible apply Completes.next) | (with_reducible apply Completes.ite)
    | (with_reducible apply Keeps.ite) | (with_reducible apply Keeps.ite_fst) | (with_reducible apply done_keeps)
    | (with_reducible apply State.set_keeps) | extract_lets | split | (dsimp -zeta only) | (dsimp +zetaDelta -zeta only)

theorem execHqCtrlWrite_keeps {s0 s : State} (h : Keeps s0 s) (hq v : Nat) : Completes s0 (execHqCtrlWrite hq v s) := by
  unfold execHqCtrlWrite
  repeat' first
    | (with_reducible assumption) | intro _ | (with_reducible apply Completes.next) | (with_reducible apply Completes.ite)
    | (with_reducible apply Keeps.ite) | (with_reducible apply Keeps.ite_fst) | (with_reducible apply State.set_keeps)
    | (with_reducible apply putCtrl_keeps) | (with_reducible apply done_keeps) | (with_reducible apply viewActive_keeps)
    | (with_reducible apply State.setHq_keeps) | extract_lets | split | (dsimp -zeta only) | (dsimp +zetaDelta -zeta only)

theorem execHqTailWrite_keeps {s0 s : State} (h : Keeps s0 s) (hq v : Nat) : Completes s0 (execHqTailWrite hq v s) := by
  unfold execHqTailWrite
  repeat' first
    | (with_reducible assumption) | intro _ | (with_reducible apply Completes.next) | (with_reducible apply Completes.ite)
    | (with_reducible apply Keeps.ite) | (with_reducible apply Keeps.ite_fst) | (with_reducible apply done_keeps)
    | (with_reducible apply State.set_keeps) | extract_lets | split | (dsimp -zeta only) | (dsimp +zetaDelta -zeta only)

theorem execHostTxDescriptor_keeps {s0 s : State} (h : Keeps s0 s) (hq : Nat) (desc data : List Byte) (readOk : Bool) :
    Completes s0 (execHostTxDescriptor hq desc data readOk s) := by
  unfold execHostTxDescriptor
  repeat' first
    | (with_reducible assumption) | intro _ | (with_reducible apply Completes.next) | (with_reducible apply Completes.ite)
    | (with_reducible apply Keeps.ite) | (with_reducible apply Keeps.ite_fst) | (with_reducible apply done_keeps)
    | (with_reducible apply handleDescriptor_keeps) | (with_reducible apply State.emit_keeps)
    | (with_reducible apply postEvent_keeps) | (with_reducible apply advanceHead_keeps)
    | (with_reducible apply State.setHq_keeps) | (with_reducible refine Keeps.of_pair (by assumption) ?_) | extract_lets | split
    | (dsimp -zeta only) | (dsimp +zetaDelta -zeta only)

end Sys2Proof.Machine
end

