-- ==== Sys2Proof/Laws/KeepsIndigo.lean ====
section
/-!
SUPPORT. What the operations of Machine/Indigo.lean keep (`Keeps`).
-/

namespace Sys2Proof.Machine

set_option linter.unusedVariables false
set_option linter.unusedTactic false
set_option linter.unreachableTactic false

theorem takeTrailer_keeps {s0 s : State} (h : Keeps s0 s) (n : Nat) (trailer : List Byte) : Keeps s0 (takeTrailer s n trailer) := by
  unfold takeTrailer
  repeat' first
    | (with_reducible assumption) | intro _ | (with_reducible apply Keeps.ite) | (with_reducible apply Keeps.ite_fst)
    | (with_reducible apply State.bump_keeps) | (with_reducible apply reissueMap_keeps)
    | (with_reducible apply mapTableFull_keeps) | (with_reducible apply learnTrailer_keeps) | extract_lets | split
    | (dsimp -zeta only) | (dsimp +zetaDelta -zeta only)

theorem execMapTrailer_keeps {s0 s : State} (h : Keeps s0 s) : Completes s0 (execMapTrailer s) := by
  unfold execMapTrailer
  repeat' first
    | (with_reducible assumption) | intro _ | (with_reducible apply Completes.next) | (with_reducible apply Completes.ite)
    | (with_reducible apply Keeps.ite) | (with_reducible apply Keeps.ite_fst) | (with_reducible apply done_keeps)
    | (with_reducible apply State.putImap_keeps) | (with_reducible apply takeTrailer_keeps) | extract_lets | split
    | (dsimp -zeta only) | (dsimp +zetaDelta -zeta only)

theorem execStaleIndigoReport_keeps {s0 s : State} (h : Keeps s0 s) (cluster : Nat) :
    Completes s0 (execStaleIndigoReport cluster s) := by
  unfold execStaleIndigoReport
  repeat' first
    | (with_reducible assumption) | intro _ | (with_reducible apply Completes.next) | (with_reducible apply Completes.ite)
    | (with_reducible apply Keeps.ite) | (with_reducible apply Keeps.ite_fst) | (with_reducible apply done_keeps)
    | (with_reducible apply dropReport_keeps) | (with_reducible apply State.bump_keeps)
    | (with_reducible apply reissueMap_keeps) | extract_lets | split | (dsimp -zeta only) | (dsimp +zetaDelta -zeta only)

theorem execMapHoldExpiry_keeps {s0 s : State} (h : Keeps s0 s) (node : Nat) : Completes s0 (execMapHoldExpiry node s) := by
  unfold execMapHoldExpiry
  repeat' first
    | (with_reducible assumption) | intro _ | (with_reducible apply Completes.next) | (with_reducible apply Completes.ite)
    | (with_reducible apply Keeps.ite) | (with_reducible apply Keeps.ite_fst) | (with_reducible apply done_keeps)
    | (with_reducible apply freeMapEntry_keeps) | (with_reducible apply State.reach_keeps) | extract_lets | split
    | (dsimp -zeta only) | (dsimp +zetaDelta -zeta only)

theorem mapRequest_keeps {s0 s : State} (h : Keeps s0 s) (n : Nat) (act : State → State)
    (ha : ∀ t, Keeps s0 t → Keeps s0 (act t)) : Keeps s0 (mapRequest s n act) := by
  unfold mapRequest
  repeat' first
    | (with_reducible assumption) | intro _ | (with_reducible apply Keeps.ite) | (with_reducible apply ha)
    | (with_reducible apply State.set_keeps) | extract_lets | split | (dsimp -zeta only)

theorem execImapRateChange_keeps {s0 s : State} (h : Keeps s0 s) (node rate : Nat) :
    Completes s0 (execImapRateChange node rate s) := by
  unfold execImapRateChange
  repeat' first
    | (with_reducible assumption) | intro _ | (with_reducible apply Completes.next) | (with_reducible apply Completes.ite)
    | (with_reducible apply done_keeps) | (with_reducible apply mapRequest_keeps) | (with_reducible apply pendMap_keeps)
    | extract_lets | split | (dsimp -zeta only) | (dsimp +zetaDelta -zeta only)

theorem execImapClear_keeps {s0 s : State} (h : Keeps s0 s) (node : Nat) : Completes s0 (execImapClear node s) := by
  unfold execImapClear
  repeat' first
    | (with_reducible assumption) | intro _ | (with_reducible apply Completes.next) | (with_reducible apply Completes.ite)
    | (with_reducible apply done_keeps) | (with_reducible apply mapRequest_keeps) | (with_reducible apply clearMap_keeps)
    | extract_lets | split | (dsimp -zeta only) | (dsimp +zetaDelta -zeta only)

theorem execImapResend_keeps {s0 s : State} (h : Keeps s0 s) (node : Nat) : Completes s0 (execImapResend node s) := by
  unfold execImapResend
  repeat' first
    | (with_reducible assumption) | intro _ | (with_reducible apply Completes.next) | (with_reducible apply Completes.ite)
    | (with_reducible apply done_keeps) | (with_reducible apply mapRequest_keeps) | (with_reducible apply reissueMap_keeps)
    | extract_lets | split | (dsimp -zeta only) | (dsimp +zetaDelta -zeta only)

end Sys2Proof.Machine
end

