-- ==== Sys2Proof/Laws/KeepsIntegrity.lean ====
section
/-!
SUPPORT. What the operations of Machine/Integrity.lean keep (`Keeps`).
-/

namespace Sys2Proof.Machine

set_option linter.unusedVariables false
set_option linter.unusedTactic false
set_option linter.unreachableTactic false

theorem putScrub_keeps {s0 s : State} (h : Keeps s0 s) (m : Nat) (x : Option ScrubState) : Keeps s0 (putScrub s m x) := by
  unfold putScrub
  repeat' first
    | (with_reducible assumption) | intro _ | (with_reducible apply State.putMi_keeps)
    | (with_reducible apply State.setBit_keeps) | extract_lets | split | (dsimp -zeta only) | (dsimp +zetaDelta -zeta only)

theorem execLineCheckFail_keeps {s0 s : State} (h : Keeps s0 s) (mem : LineMem) (line column : Nat) (refetchOk code scrub : Bool) (air eth : Option Nat) :
    Completes s0 (execLineCheckFail mem line column refetchOk code scrub air eth s) := by
  unfold execLineCheckFail
  repeat' first
    | (with_reducible assumption) | intro _ | (with_reducible apply Completes.next) | (with_reducible apply Completes.ite)
    | (with_reducible apply Keeps.ite) | (with_reducible apply Keeps.ite_fst) | (with_reducible apply done_keeps)
    | (with_reducible apply putScrub_keeps) | (with_reducible apply viewMi_keeps) | (with_reducible apply State.putMi_keeps)
    | (with_reducible apply noteFault_keeps) | (with_reducible apply faultPoisoned_keeps)
    | (with_reducible apply poisonFrames_keeps) | (with_reducible apply State.bump_keeps)
    | (with_reducible apply faultEnds_keeps) | (with_reducible apply State.emit_keeps)
    | (with_reducible apply consumePoison_keeps) | extract_lets | split | (dsimp -zeta only) | (dsimp +zetaDelta -zeta only)

theorem freeRecovery_keeps {s0 s : State} (h : Keeps s0 s) (m : LineMem) (line : Nat) : Keeps s0 (freeRecovery s m line) := by
  unfold freeRecovery
  repeat' first
    | (with_reducible assumption) | intro _ | (with_reducible apply viewMi_keeps) | (with_reducible apply State.putMi_keeps)
    | extract_lets | split | (dsimp -zeta only) | (dsimp +zetaDelta -zeta only)

theorem execPeerLineArrival_keeps {s0 s : State} (h : Keeps s0 s) (line : Nat) (bytes : List Byte) (ok readbackOk : Bool) :
    Completes s0 (execPeerLineArrival line bytes ok readbackOk s) := by
  unfold execPeerLineArrival
  repeat' first
    | (with_reducible assumption) | intro _ | (with_reducible apply Completes.next) | (with_reducible apply Completes.ite)
    | (with_reducible apply Keeps.ite) | (with_reducible apply Keeps.ite_fst) | (with_reducible apply State.putMi_keeps)
    | (with_reducible apply done_keeps) | (with_reducible apply writeLine_keeps) | (with_reducible apply freeRecovery_keeps)
    | (with_reducible apply noteFault_keeps) | (with_reducible apply faultPoisoned_keeps)
    | (with_reducible apply faultEnds_keeps) | (with_reducible apply State.bump_keeps) | extract_lets | split
    | (dsimp -zeta only) | (dsimp +zetaDelta -zeta only)

theorem execFlashRecomputeDone_keeps {s0 s : State} (h : Keeps s0 s) (line : Nat) (matched readbackOk : Bool) :
    Completes s0 (execFlashRecomputeDone line matched readbackOk s) := by
  unfold execFlashRecomputeDone
  repeat' first
    | (with_reducible assumption) | intro _ | (with_reducible apply Completes.next) | (with_reducible apply Completes.ite)
    | (with_reducible apply Keeps.ite) | (with_reducible apply Keeps.ite_fst) | (with_reducible apply done_keeps)
    | (with_reducible apply freeRecovery_keeps) | (with_reducible apply noteFault_keeps)
    | (with_reducible apply faultPoisoned_keeps) | (with_reducible apply checkWritten_keeps)
    | (with_reducible apply State.bump_keeps) | (with_reducible apply faultEnds_keeps) | extract_lets | split
    | (dsimp -zeta only) | (dsimp +zetaDelta -zeta only)

theorem scrubNext_keeps {s0 s : State} (h : Keeps s0 s) (m : LineMem) (x : ScrubState) : Keeps s0 (scrubNext s m x) := by
  unfold scrubNext
  repeat' first
    | (with_reducible assumption) | intro _ | (with_reducible apply Keeps.ite) | (with_reducible apply Keeps.ite_fst)
    | (with_reducible apply State.putMi_keeps) | (with_reducible apply putScrub_keeps) | (with_reducible apply postEvent_keeps)
    | extract_lets | split | (dsimp -zeta only) | (dsimp +zetaDelta -zeta only)

theorem execScrubRead_keeps {s0 s : State} (h : Keeps s0 s) (mem : LineMem) (misread : List (Nat × Nat)) :
    Completes s0 (execScrubRead mem misread s) := by
  unfold execScrubRead
  repeat' first
    | (with_reducible assumption) | intro _ | (with_reducible apply Completes.next) | (with_reducible apply Completes.ite)
    | (with_reducible apply Keeps.ite) | (with_reducible apply Keeps.ite_fst) | (with_reducible apply done_keeps)
    | (with_reducible apply putScrub_keeps) | (with_reducible apply State.putMi_keeps) | (with_reducible apply scrubNext_keeps)
    | (with_reducible apply tileFailed_keeps) | extract_lets | split | (dsimp -zeta only) | (dsimp +zetaDelta -zeta only)

theorem execMiScrubNow_keeps {s0 s : State} (h : Keeps s0 s) (q : Requester) : Completes s0 (execMiScrubNow q s) := by
  unfold execMiScrubNow
  repeat' first
    | (with_reducible assumption) | intro _ | (with_reducible apply Completes.next) | (with_reducible apply Completes.ite)
    | (with_reducible apply Keeps.ite) | (with_reducible apply Keeps.ite_fst) | (with_reducible apply done_keeps)
    | (with_reducible apply State.putMi_keeps) | (with_reducible apply putScrub_keeps) | (with_reducible apply State.set_keeps)
    | extract_lets | split | (dsimp -zeta only) | (dsimp +zetaDelta -zeta only)

theorem execMiApplyRepairs_keeps {s0 s : State} (h : Keeps s0 s) (q : Requester) : Completes s0 (execMiApplyRepairs q s) := by
  unfold execMiApplyRepairs
  repeat' first
    | (with_reducible assumption) | intro _ | (with_reducible apply Completes.next) | (with_reducible apply Completes.ite)
    | (with_reducible apply Keeps.ite) | (with_reducible apply Keeps.ite_fst) | (with_reducible apply done_keeps)
    | (with_reducible apply standbyRestart_keeps) | (with_reducible apply State.set_keeps)
    | (with_reducible apply startPlanned_keeps) | extract_lets | split | (dsimp -zeta only) | (dsimp +zetaDelta -zeta only)

theorem execMiFlipWrite_keeps {s0 s : State} (h : Keeps s0 s) (q : Requester) (v : Nat) : Completes s0 (execMiFlipWrite q v s) := by
  unfold execMiFlipWrite
  repeat' first
    | (with_reducible assumption) | intro _ | (with_reducible apply Completes.next) | (with_reducible apply Completes.ite)
    | (with_reducible apply Keeps.ite) | (with_reducible apply Keeps.ite_fst) | (with_reducible apply done_keeps)
    | (with_reducible apply State.set_keeps) | (with_reducible apply State.setBit_keeps) | extract_lets | split
    | (dsimp -zeta only) | (dsimp +zetaDelta -zeta only)

theorem execFrameBufferSweep_keeps {s0 s : State} (h : Keeps s0 s) : Completes s0 (execFrameBufferSweep s) := by
  unfold execFrameBufferSweep
  repeat' first
    | (with_reducible assumption) | intro _ | (with_reducible apply Completes.next) | (with_reducible apply Completes.ite)
    | (with_reducible apply Keeps.ite) | (with_reducible apply Keeps.ite_fst) | (with_reducible apply done_keeps)
    | (with_reducible apply flushDownlink_keeps) | (with_reducible apply Keeps.fold) | extract_lets | split | (dsimp -zeta only)
    | (dsimp +zetaDelta -zeta only)

end Sys2Proof.Machine
end

