-- ==== Sys2Proof/Laws/KeepsMirrorOps.lean ====
section
/-!
SUPPORT. What the operations of Machine/MirrorOps.lean keep (`Keeps`).
-/

namespace Sys2Proof.Machine

set_option linter.unusedVariables false
set_option linter.unusedTactic false
set_option linter.unreachableTactic false

theorem ehtFollow_keeps {s0 s : State} (h : Keeps s0 s) (n : Nat) (old new : Line) : Keeps s0 (ehtFollow s n old new) := by
  unfold ehtFollow
  repeat' first
    | (with_reducible assumption) | intro _ | (with_reducible apply Keeps.ite) | (with_reducible apply Keeps.ite_fst)
    | (with_reducible apply ehtLookup_keeps) | (with_reducible apply ehtDelete_keeps) | (with_reducible apply ehtInsert_keeps)
    | extract_lets | split | (dsimp -zeta only) | (dsimp +zetaDelta -zeta only)

theorem putMirrored_keeps {s0 s : State} (h : Keeps s0 s) (n : Nat) (new : Line) : Keeps s0 (putMirrored s n new) := by
  unfold putMirrored
  repeat' first
    | (with_reducible assumption) | intro _ | (with_reducible apply Keeps.ite) | (with_reducible apply Keeps.ite_fst)
    | (with_reducible apply ehtFollow_keeps) | (with_reducible apply mapForget_keeps) | (with_reducible apply writeLine_keeps)
    | extract_lets | split | (dsimp -zeta only) | (dsimp +zetaDelta -zeta only)

theorem applyNcs_keeps {s0 s : State} (h : Keeps s0 s) (node mask : Nat) (bytes : List Byte) :
    Keeps s0 (applyNcs s node mask bytes) := by
  unfold applyNcs
  repeat' first
    | (with_reducible assumption) | intro _ | (with_reducible apply Keeps.ite) | (with_reducible apply Keeps.ite_fst)
    | (with_reducible apply putMirrored_keeps) | (with_reducible apply Keeps.foldl_fst) | extract_lets | split
    | (dsimp -zeta only) | (dsimp +zetaDelta -zeta only)

theorem applyCrimson_keeps {s0 s : State} (h : Keeps s0 s) (f : TxFrame) : Keeps s0 (applyCrimson s f) := by
  unfold applyCrimson
  repeat' first
    | (with_reducible assumption) | intro _ | (with_reducible apply keepFrame_keeps) | (with_reducible apply viewDownlink_keeps)
    | (with_reducible apply State.putSched_keeps) | (with_reducible refine Keeps.of_pair (by assumption) ?_) | extract_lets
    | split | (dsimp -zeta only) | (dsimp +zetaDelta -zeta only)

theorem applyCrimsonOut_keeps {s0 s : State} (h : Keeps s0 s) (ident : Nat) : Keeps s0 (applyCrimsonOut s ident) := by
  unfold applyCrimsonOut
  repeat' first
    | (with_reducible assumption) | intro _ | (with_reducible apply removeFrame_keeps) | extract_lets | split
    | (dsimp -zeta only) | (dsimp +zetaDelta -zeta only)

theorem takeTree_keeps {s0 s : State} (h : Keeps s0 s) (t : TreeState) : Keeps s0 (takeTree s t) := by
  unfold takeTree
  repeat' first
    | (with_reducible assumption) | intro _ | (with_reducible apply flushAllDownlink_keeps)
    | (with_reducible apply dropSync_keeps) | (with_reducible apply viewTree_keeps) | (with_reducible apply State.putTree_keeps)
    | (with_reducible apply State.set_keeps) | (with_reducible apply State.putPair_keeps) | extract_lets | split
    | (dsimp -zeta only) | (dsimp +zetaDelta -zeta only)

theorem applyLine_keeps {s0 s : State} (h : Keeps s0 s) (n : Nat) (bytes : List Byte) : Keeps s0 (applyLine s n bytes) := by
  unfold applyLine
  repeat' first
    | (with_reducible assumption) | intro _ | (with_reducible apply Keeps.ite) | (with_reducible apply Keeps.ite_fst)
    | (with_reducible apply viewDownlink_keeps) | (with_reducible apply putMirrored_keeps)
    | (with_reducible apply State.putPair_keeps) | (with_reducible apply State.set_keeps) | extract_lets | split
    | (dsimp -zeta only) | (dsimp +zetaDelta -zeta only)

theorem postResyncDone_keeps {s0 s : State} (h : Keeps s0 s) : Keeps s0 (postResyncDone s) := by
  unfold postResyncDone
  repeat' first
    | (with_reducible assumption) | intro _ | (with_reducible apply postEvent_keeps) | extract_lets | split | (dsimp -zeta only)
    | (dsimp +zetaDelta -zeta only)

theorem resyncDone_keeps {s0 s : State} (h : Keeps s0 s) (role : Nat) : Keeps s0 (resyncDone s role) := by
  unfold resyncDone
  repeat' first
    | (with_reducible assumption) | intro _ | (with_reducible apply State.set_keeps)
    | (with_reducible apply State.putPair_keeps) | (with_reducible apply setRole_keeps)
    | (with_reducible apply postResyncDone_keeps) | extract_lets | split | (dsimp -zeta only) | (dsimp +zetaDelta -zeta only)

theorem openCause_keeps {s0 s : State} (h : Keeps s0 s) : Keeps s0 (openCause s).1 := by
  unfold openCause
  repeat' first
    | (with_reducible assumption) | intro _ | (with_reducible apply State.drew_keeps) | extract_lets | split
    | (dsimp -zeta only) | (dsimp +zetaDelta -zeta only)

theorem peerLeft_keeps {s0 s : State} (h : Keeps s0 s) : Keeps s0 (peerLeft s) := by
  unfold peerLeft
  repeat' first
    | (with_reducible assumption) | intro _ | (with_reducible apply Keeps.ite) | (with_reducible apply Keeps.ite_fst)
    | (with_reducible apply dropSync_keeps) | (with_reducible apply switchDone_keeps) | (with_reducible apply setRole_keeps)
    | (with_reducible apply openCause_keeps) | (with_reducible refine Keeps.of_pair (by assumption) ?_) | extract_lets | split
    | (dsimp -zeta only) | (dsimp +zetaDelta -zeta only)

theorem controlToClaiming_keeps {s0 s : State} (h : Keeps s0 s) (role : Nat) (hold : Bool) :
    Keeps s0 (controlToClaiming s role hold) := by
  unfold controlToClaiming
  repeat' first
    | (with_reducible assumption) | intro _ | (with_reducible apply Keeps.ite) | (with_reducible apply Keeps.ite_fst)
    | (with_reducible apply postEvent_keeps) | (with_reducible apply switchDone_keeps) | (with_reducible apply peerLeft_keeps)
    | (with_reducible apply State.set_keeps) | (with_reducible apply State.putPair_keeps)
    | (with_reducible apply offerResync_keeps) | extract_lets | split | (dsimp -zeta only) | (dsimp +zetaDelta -zeta only)

theorem controlToOther_keeps {s0 s : State} (h : Keeps s0 s) (role nodeMin : Nat) (claiming : Bool) :
    Keeps s0 (controlToOther s role nodeMin claiming) := by
  unfold controlToOther
  repeat' first
    | (with_reducible assumption) | intro _ | (with_reducible apply Keeps.ite) | (with_reducible apply Keeps.ite_fst)
    | (with_reducible apply State.set_keeps) | (with_reducible apply openCause_keeps) | (with_reducible apply setRole_keeps)
    | (with_reducible apply clearSwitchover_keeps) | (with_reducible apply dropSync_keeps)
    | (with_reducible refine Keeps.of_pair (by assumption) ?_) | extract_lets | split | (dsimp -zeta only)
    | (dsimp +zetaDelta -zeta only)

theorem applyControl_keeps {s0 s : State} (h : Keeps s0 s) (role : Nat) (claiming hold : Bool) (asn nodeMin : Nat) :
    Keeps s0 (applyControl s role claiming hold asn nodeMin) := by
  unfold applyControl
  repeat' first
    | (with_reducible assumption) | intro _ | (with_reducible apply Keeps.ite) | (with_reducible apply Keeps.ite_fst)
    | (with_reducible apply State.set_keeps) | (with_reducible apply State.putPair_keeps)
    | (with_reducible apply controlToClaiming_keeps) | (with_reducible apply controlToOther_keeps)
    | (with_reducible apply viewInterlock_keeps) | extract_lets | split | (dsimp -zeta only) | (dsimp +zetaDelta -zeta only)

theorem applyRelease_keeps {s0 s : State} (h : Keeps s0 s) : Keeps s0 (applyRelease s) := by
  unfold applyRelease
  repeat' first
    | (with_reducible assumption) | intro _ | (with_reducible apply Keeps.ite) | (with_reducible apply Keeps.ite_fst)
    | (with_reducible apply viewInterlock_keeps) | (with_reducible apply State.putPair_keeps) | extract_lets | split
    | (dsimp -zeta only) | (dsimp +zetaDelta -zeta only)

theorem applyHandover_keeps {s0 s : State} (h : Keeps s0 s) (asn : Nat) : Keeps s0 (applyHandover s asn) := by
  unfold applyHandover
  repeat' first
    | (with_reducible assumption) | intro _ | (with_reducible apply Keeps.ite) | (with_reducible apply Keeps.ite_fst)
    | (with_reducible apply State.putPair_keeps) | (with_reducible apply State.set_keeps)
    | (with_reducible apply postEvent_keeps) | extract_lets | split | (dsimp -zeta only) | (dsimp +zetaDelta -zeta only)

theorem takeRecord_keeps {s0 s : State} (h : Keeps s0 s) (f : State → State)
    (hf : ∀ t, Keeps s0 t → Keeps s0 (f t)) : Keeps s0 (takeRecord s f) := by
  unfold takeRecord
  repeat' first
    | (with_reducible assumption) | intro _ | (with_reducible apply Keeps.ite) | (with_reducible apply hf)
    | (with_reducible apply State.bumpWrap_keeps) | extract_lets | split | (dsimp -zeta only)

theorem takeControl_keeps {s0 s : State} (h : Keeps s0 s) (f : State → State)
    (hf : ∀ t, Keeps s0 t → Keeps s0 (f t)) : Keeps s0 (takeControl s f) := by
  unfold takeControl
  repeat' first
    | (with_reducible assumption) | intro _ | (with_reducible apply Keeps.ite) | (with_reducible apply settle_keeps)
    | (with_reducible apply hf) | (with_reducible apply State.bumpWrap_keeps) | (with_reducible apply State.putPair_keeps)
    | extract_lets | split | (dsimp -zeta only)

theorem applyRecord_keeps {s0 s : State} (h : Keeps s0 s) (r : MirrorRecord) : Keeps s0 (applyRecord s r) := by
  unfold applyRecord
  repeat' first
    | (with_reducible assumption) | intro _ | (with_reducible apply Keeps.ite) | (with_reducible apply Keeps.ite_fst)
    | (with_reducible apply takeRecord_keeps) | (with_reducible apply applyNcs_keeps)
    | (with_reducible apply applyReservation_keeps) | (with_reducible apply applyCrimson_keeps)
    | (with_reducible apply applyCrimsonOut_keeps) | (with_reducible apply mirrorTree_keeps)
    | (with_reducible apply takeTree_keeps) | (with_reducible apply takeEpoch_keeps) | (with_reducible apply clearNodes_keeps)
    | (with_reducible apply takeControl_keeps) | (with_reducible apply applyControl_keeps)
    | (with_reducible apply applyRelease_keeps) | (with_reducible apply applyHandover_keeps)
    | (with_reducible apply applyLine_keeps) | extract_lets | split | (dsimp -zeta only) | (dsimp +zetaDelta -zeta only)

end Sys2Proof.Machine
end

