-- ==== Sys2Proof/Laws/KeepsPair.lean ====
section
/-!
SUPPORT. What the operations of Machine/Pair.lean keep (`Keeps`).
-/

namespace Sys2Proof.Machine

set_option linter.unusedVariables false
set_option linter.unusedTactic false
set_option linter.unreachableTactic false

theorem reserveAll_keeps {s0 s : State} (h : Keeps s0 s) : Keeps s0 (reserveAll s) := by
  unfold reserveAll
  repeat' first
    | (with_reducible assumption) | intro _ | (with_reducible apply reserve_keeps) | (with_reducible apply Keeps.fold)
    | extract_lets | split | (dsimp -zeta only) | (dsimp +zetaDelta -zeta only)

theorem takeRole_keeps {s0 s : State} (h : Keeps s0 s) (role cause : Nat) : Keeps s0 (takeRole s role cause) := by
  unfold takeRole
  repeat' first
    | (with_reducible assumption) | intro _ | (with_reducible apply Keeps.ite) | (with_reducible apply Keeps.ite_fst)
    | (with_reducible apply setRole_keeps) | extract_lets | split | (dsimp -zeta only) | (dsimp +zetaDelta -zeta only)

theorem claimPlanned_keeps {s0 s : State} (h : Keeps s0 s) : Keeps s0 (claimPlanned s) := by
  unfold claimPlanned
  repeat' first
    | (with_reducible assumption) | intro _ | (with_reducible apply State.set_keeps)
    | (with_reducible apply State.putPair_keeps) | (with_reducible apply issueSlot_keeps)
    | (with_reducible apply reserveAll_keeps) | extract_lets | split | (dsimp -zeta only) | (dsimp +zetaDelta -zeta only)

theorem claimUnplanned_keeps {s0 s : State} (h : Keeps s0 s) (cause : Nat) : Keeps s0 (claimUnplanned s cause) := by
  unfold claimUnplanned
  repeat' first
    | (with_reducible assumption) | intro _ | (with_reducible apply Keeps.ite) | (with_reducible apply Keeps.ite_fst)
    | (with_reducible apply State.putPair_keeps) | (with_reducible apply State.set_keeps) | (with_reducible apply setRole_keeps)
    | (with_reducible apply reserveAll_keeps) | (with_reducible apply dropSync_keeps) | (with_reducible apply postEvent_keeps)
    | (with_reducible apply switchDone_keeps) | extract_lets | split | (dsimp -zeta only) | (dsimp +zetaDelta -zeta only)

theorem claimBack_keeps {s0 s : State} (h : Keeps s0 s) : Keeps s0 (claimBack s) := by
  unfold claimBack
  repeat' first
    | (with_reducible assumption) | intro _ | (with_reducible apply setRole_keeps) | (with_reducible apply dropSync_keeps)
    | (with_reducible apply reserveAll_keeps) | (with_reducible apply rewriteCounters_keeps)
    | (with_reducible apply settle_keeps) | (with_reducible apply switchDone_keeps) | extract_lets | split | (dsimp -zeta only)
    | (dsimp +zetaDelta -zeta only)

theorem execClaimAssert_keeps {s0 s : State} (h : Keeps s0 s) (edges : Nat) : Completes s0 (execClaimAssert edges s) := by
  unfold execClaimAssert
  repeat' first
    | (with_reducible assumption) | intro _ | (with_reducible apply Completes.next) | (with_reducible apply Completes.ite)
    | (with_reducible apply Keeps.ite) | (with_reducible apply Keeps.ite_fst) | (with_reducible apply done_keeps)
    | (with_reducible apply driveClaim_keeps) | (with_reducible apply claimPlanned_keeps)
    | (with_reducible apply offerResync_keeps) | (with_reducible apply claimUnplanned_keeps)
    | (with_reducible apply claimBack_keeps) | (with_reducible apply reserveAll_keeps) | (with_reducible apply takeRole_keeps)
    | extract_lets | split | (dsimp -zeta only) | (dsimp +zetaDelta -zeta only)

theorem claimConflict_keeps {s0 s : State} (h : Keeps s0 s) : Keeps s0 (claimConflict s) := by
  unfold claimConflict
  repeat' first
    | (with_reducible assumption) | intro _ | (with_reducible apply Keeps.ite) | (with_reducible apply Keeps.ite_fst)
    | (with_reducible apply postEvent_keeps) | (with_reducible apply State.set_keeps) | (with_reducible apply endClaim_keeps)
    | (with_reducible apply State.bump_keeps) | extract_lets | split | (dsimp -zeta only) | (dsimp +zetaDelta -zeta only)

theorem peerClaimed_keeps {s0 s : State} (h : Keeps s0 s) : Keeps s0 (peerClaimed s) := by
  unfold peerClaimed
  repeat' first
    | (with_reducible assumption) | intro _ | (with_reducible apply Keeps.ite) | (with_reducible apply Keeps.ite_fst)
    | (with_reducible apply State.putPair_keeps) | (with_reducible apply setRole_keeps)
    | (with_reducible apply switchDone_keeps) | (with_reducible apply clearSwitchover_keeps) | extract_lets | split
    | (dsimp -zeta only) | (dsimp +zetaDelta -zeta only)

theorem execPeerClaimChange_keeps {s0 s : State} (h : Keeps s0 s) (asserted : Bool) :
    Completes s0 (execPeerClaimChange asserted s) := by
  unfold execPeerClaimChange
  repeat' first
    | (with_reducible assumption) | intro _ | (with_reducible apply Completes.next) | (with_reducible apply Completes.ite)
    | (with_reducible apply Keeps.ite) | (with_reducible apply Keeps.ite_fst) | (with_reducible apply done_keeps)
    | (with_reducible apply State.setBit_keeps) | (with_reducible apply gateChanged_keeps)
    | (with_reducible apply State.putPair_keeps) | (with_reducible apply viewInterlock_keeps)
    | (with_reducible apply settle_keeps) | (with_reducible apply claimConflict_keeps)
    | (with_reducible apply peerClaimed_keeps) | (with_reducible apply State.set_keeps) | extract_lets | split
    | (dsimp -zeta only) | (dsimp +zetaDelta -zeta only)

theorem execClaimKeeperExpiry_keeps {s0 s : State} (h : Keeps s0 s) (asnTest : Bool) :
    Completes s0 (execClaimKeeperExpiry asnTest s) := by
  unfold execClaimKeeperExpiry
  repeat' first
    | (with_reducible assumption) | intro _ | (with_reducible apply Completes.next) | (with_reducible apply Completes.ite)
    | (with_reducible apply Keeps.ite) | (with_reducible apply Keeps.ite_fst) | (with_reducible apply done_keeps)
    | (with_reducible apply State.reach_keeps) | (with_reducible apply State.putPair_keeps)
    | (with_reducible apply settle_keeps) | (with_reducible apply endClaim_keeps) | (with_reducible apply State.bump_keeps)
    | extract_lets | split | (dsimp -zeta only) | (dsimp +zetaDelta -zeta only)

theorem execPairKeepWrite_keeps {s0 s : State} (h : Keeps s0 s) (q : Requester) : Completes s0 (execPairKeepWrite q s) := by
  unfold execPairKeepWrite
  repeat' first
    | (with_reducible assumption) | intro _ | (with_reducible apply Completes.next) | (with_reducible apply Completes.ite)
    | (with_reducible apply Keeps.ite) | (with_reducible apply Keeps.ite_fst) | (with_reducible apply done_keeps)
    | (with_reducible apply State.putPair_keeps) | extract_lets | split | (dsimp -zeta only) | (dsimp +zetaDelta -zeta only)

theorem lostLink_keeps {s0 s : State} (h : Keeps s0 s) (cause : Nat) : Keeps s0 (lostLink s cause) := by
  unfold lostLink
  repeat' first
    | (with_reducible assumption) | intro _ | (with_reducible apply settle_keeps) | (with_reducible apply linkLost_keeps)
    | extract_lets | split | (dsimp -zeta only) | (dsimp +zetaDelta -zeta only)

theorem takeAcks_keeps {s0 s : State} (h : Keeps s0 s) (acks : List Nat) : Keeps s0 (takeAcks s acks) := by
  unfold takeAcks
  repeat' first
    | (with_reducible assumption) | intro _ | (with_reducible apply State.putPair_keeps) | extract_lets | split
    | (dsimp -zeta only) | (dsimp +zetaDelta -zeta only)

theorem execHjLinkFrameRx_keeps {s0 s : State} (h : Keeps s0 s) (seq : Nat) (good : Bool) (acks : List Nat) (records : List MirrorRecord) :
    Completes s0 (execHjLinkFrameRx seq good acks records s) := by
  unfold execHjLinkFrameRx
  repeat' first
    | (with_reducible assumption) | intro _ | (with_reducible apply Completes.next) | (with_reducible apply Completes.ite)
    | (with_reducible apply Keeps.ite) | (with_reducible apply Keeps.ite_fst) | (with_reducible apply done_keeps)
    | (with_reducible apply takeAcks_keeps) | (with_reducible apply State.putPair_keeps)
    | (with_reducible apply State.emit_keeps) | (with_reducible apply applyRecord_keeps) | (with_reducible apply Keeps.fold)
    | extract_lets | split | (dsimp -zeta only) | (dsimp +zetaDelta -zeta only)

theorem execHjRetryTimeout_keeps {s0 s : State} (h : Keeps s0 s) (seq : Nat) : Completes s0 (execHjRetryTimeout seq s) := by
  unfold execHjRetryTimeout
  repeat' first
    | (with_reducible assumption) | intro _ | (with_reducible apply Completes.next) | (with_reducible apply Completes.ite)
    | (with_reducible apply Keeps.ite) | (with_reducible apply Keeps.ite_fst) | (with_reducible apply done_keeps)
    | (with_reducible apply lostLink_keeps) | (with_reducible apply State.putPair_keeps)
    | (with_reducible apply State.bump_keeps) | (with_reducible apply State.emit_keeps) | extract_lets | split
    | (dsimp -zeta only) | (dsimp +zetaDelta -zeta only)

theorem execHjIdleTimeout_keeps {s0 s : State} (h : Keeps s0 s) : Completes s0 (execHjIdleTimeout s) := by
  unfold execHjIdleTimeout
  repeat' first
    | (with_reducible assumption) | intro _ | (with_reducible apply Completes.next) | (with_reducible apply Completes.ite)
    | (with_reducible apply Keeps.ite) | (with_reducible apply Keeps.ite_fst) | (with_reducible apply State.reach_keeps)
    | (with_reducible apply done_keeps) | (with_reducible apply lostLink_keeps) | (with_reducible apply State.drew_keeps)
    | extract_lets | split | (dsimp -zeta only) | (dsimp +zetaDelta -zeta only)

theorem execHjControlTimer_keeps {s0 s : State} (h : Keeps s0 s) : Completes s0 (execHjControlTimer s) := by
  unfold execHjControlTimer
  repeat' first
    | (with_reducible assumption) | intro _ | (with_reducible apply Completes.next) | (with_reducible apply Completes.ite)
    | (with_reducible apply Keeps.ite) | (with_reducible apply Keeps.ite_fst) | (with_reducible apply done_keeps)
    | (with_reducible apply sendControl_keeps) | extract_lets | split | (dsimp -zeta only) | (dsimp +zetaDelta -zeta only)

theorem trainingFails_keeps {s0 s : State} (h : Keeps s0 s) (cause : Nat) : Keeps s0 (trainingFails s cause) := by
  unfold trainingFails
  repeat' first
    | (with_reducible assumption) | intro _ | (with_reducible apply postEvent_keeps) | extract_lets | split | (dsimp -zeta only)
    | (dsimp +zetaDelta -zeta only)

theorem linkTrained_keeps {s0 s : State} (h : Keeps s0 s) (lanes : Nat) (key : BitVec 128) (ifv : Nat) (vector : List (Nat × Nat × Nat)) (fits : Bool) :
    Keeps s0 (linkTrained s lanes key ifv vector fits) := by
  unfold linkTrained
  repeat' first
    | (with_reducible assumption) | intro _ | (with_reducible apply Keeps.ite) | (with_reducible apply Keeps.ite_fst)
    | (with_reducible apply State.set_keeps) | (with_reducible apply State.putPair_keeps)
    | (with_reducible apply postEvent_keeps) | (with_reducible apply offerResync_keeps) | (with_reducible apply setRole_keeps)
    | extract_lets | split | (dsimp -zeta only) | (dsimp +zetaDelta -zeta only)

theorem execHjTrainingDone_keeps {s0 s : State} (h : Keeps s0 s) (lanes inversions peerId : Nat) (nonce tag : List Byte) (ncsLog slotLen sfCode ifv : Nat) (vector : List (Nat × Nat × Nat)) :
    Completes s0 (execHjTrainingDone lanes inversions peerId nonce tag ncsLog slotLen sfCode ifv vector s) := by
  unfold execHjTrainingDone
  repeat' first
    | (with_reducible assumption) | intro _ | (with_reducible apply Completes.next) | (with_reducible apply Completes.ite)
    | (with_reducible apply Keeps.ite) | (with_reducible apply Keeps.ite_fst) | (with_reducible apply done_keeps)
    | (with_reducible apply State.emit_keeps) | (with_reducible apply State.set_keeps)
    | (with_reducible apply trainingFails_keeps) | (with_reducible apply State.drew_keeps)
    | (with_reducible apply State.putPair_keeps) | (with_reducible apply linkTrained_keeps) | extract_lets | split
    | (dsimp -zeta only) | (dsimp +zetaDelta -zeta only)

theorem execHjRetrainTimer_keeps {s0 s : State} (h : Keeps s0 s) : Completes s0 (execHjRetrainTimer s) := by
  unfold execHjRetrainTimer
  repeat' first
    | (with_reducible assumption) | intro _ | (with_reducible apply Completes.next) | (with_reducible apply Completes.ite)
    | (with_reducible apply done_keeps) | (with_reducible apply State.reach_keeps) | (with_reducible apply State.putPair_keeps)
    | extract_lets | split | (dsimp -zeta only) | (dsimp +zetaDelta -zeta only)

theorem execHjTimeExchange_keeps {s0 s : State} (h : Keeps s0 s) (sent peerGot peerSent got : Nat) :
    Completes s0 (execHjTimeExchange sent peerGot peerSent got s) := by
  unfold execHjTimeExchange
  repeat' first
    | (with_reducible assumption) | intro _ | (with_reducible apply Completes.next) | (with_reducible apply Completes.ite)
    | (with_reducible apply Keeps.ite) | (with_reducible apply Keeps.ite_fst) | (with_reducible apply done_keeps)
    | (with_reducible apply State.setI_keeps) | extract_lets | split | (dsimp -zeta only) | (dsimp +zetaDelta -zeta only)

theorem execMirrorNcsChange_keeps {s0 s : State} (h : Keeps s0 s) (node mask : Nat) (bytes : List Byte) :
    Completes s0 (execMirrorNcsChange node mask bytes s) := by
  unfold execMirrorNcsChange
  repeat' first
    | (with_reducible assumption) | intro _ | (with_reducible apply Completes.next) | (with_reducible apply Completes.ite)
    | (with_reducible apply done_keeps) | (with_reducible apply applyRecord_keeps) | extract_lets | split | (dsimp -zeta only)
    | (dsimp +zetaDelta -zeta only)

theorem execMirrorReservation_keeps {s0 s : State} (h : Keeps s0 s) (node : Nat) (district : Bool) (block : Nat) :
    Completes s0 (execMirrorReservation node district block s) := by
  unfold execMirrorReservation
  repeat' first
    | (with_reducible assumption) | intro _ | (with_reducible apply Completes.next) | (with_reducible apply Completes.ite)
    | (with_reducible apply done_keeps) | (with_reducible apply applyRecord_keeps) | extract_lets | split | (dsimp -zeta only)
    | (dsimp +zetaDelta -zeta only)

theorem execMirrorCrimsonEnqueue_keeps {s0 s : State} (h : Keeps s0 s) (frame : TxFrame) :
    Completes s0 (execMirrorCrimsonEnqueue frame s) := by
  unfold execMirrorCrimsonEnqueue
  repeat' first
    | (with_reducible assumption) | intro _ | (with_reducible apply Completes.next) | (with_reducible apply Completes.ite)
    | (with_reducible apply done_keeps) | (with_reducible apply applyRecord_keeps) | extract_lets | split | (dsimp -zeta only)
    | (dsimp +zetaDelta -zeta only)

theorem execMirrorCrimsonDequeue_keeps {s0 s : State} (h : Keeps s0 s) (ident : Nat) :
    Completes s0 (execMirrorCrimsonDequeue ident s) := by
  unfold execMirrorCrimsonDequeue
  repeat' first
    | (with_reducible assumption) | intro _ | (with_reducible apply Completes.next) | (with_reducible apply Completes.ite)
    | (with_reducible apply done_keeps) | (with_reducible apply applyRecord_keeps) | extract_lets | split | (dsimp -zeta only)
    | (dsimp +zetaDelta -zeta only)

theorem execMirrorTreeState_keeps {s0 s : State} (h : Keeps s0 s) (op : Nat) (args : List Nat) :
    Completes s0 (execMirrorTreeState op args s) := by
  unfold execMirrorTreeState
  repeat' first
    | (with_reducible assumption) | intro _ | (with_reducible apply Completes.next) | (with_reducible apply Completes.ite)
    | (with_reducible apply done_keeps) | (with_reducible apply applyRecord_keeps) | extract_lets | split | (dsimp -zeta only)
    | (dsimp +zetaDelta -zeta only)

theorem execMirrorScheduleEpoch_keeps {s0 s : State} (h : Keeps s0 s) (number asn : Nat) (fields : List (Nat × Nat)) :
    Completes s0 (execMirrorScheduleEpoch number asn fields s) := by
  unfold execMirrorScheduleEpoch
  repeat' first
    | (with_reducible assumption) | intro _ | (with_reducible apply Completes.next) | (with_reducible apply Completes.ite)
    | (with_reducible apply done_keeps) | (with_reducible apply applyRecord_keeps) | extract_lets | split | (dsimp -zeta only)
    | (dsimp +zetaDelta -zeta only)

theorem execMirrorBulkClear_keeps {s0 s : State} (h : Keeps s0 s) (requester : Nat) :
    Completes s0 (execMirrorBulkClear requester s) := by
  unfold execMirrorBulkClear
  repeat' first
    | (with_reducible assumption) | intro _ | (with_reducible apply Completes.next) | (with_reducible apply Completes.ite)
    | (with_reducible apply done_keeps) | (with_reducible apply applyRecord_keeps) | extract_lets | split | (dsimp -zeta only)
    | (dsimp +zetaDelta -zeta only)

theorem execMirrorControl_keeps {s0 s : State} (h : Keeps s0 s) (kind role : Nat) (claiming hold : Bool) (asn nodeMin : Nat) :
    Completes s0 (execMirrorControl kind role claiming hold asn nodeMin s) := by
  unfold execMirrorControl
  repeat' first
    | (with_reducible assumption) | intro _ | (with_reducible apply Completes.next) | (with_reducible apply Completes.ite)
    | (with_reducible apply done_keeps) | (with_reducible apply applyRecord_keeps) | extract_lets | split | (dsimp -zeta only)
    | (dsimp +zetaDelta -zeta only)

theorem execPeerFetchRequest_keeps {s0 s : State} (h : Keeps s0 s) (line : Nat) : Completes s0 (execPeerFetchRequest line s) := by
  unfold execPeerFetchRequest
  repeat' first
    | (with_reducible assumption) | intro _ | (with_reducible apply Completes.next) | (with_reducible apply Completes.ite)
    | (with_reducible apply Keeps.ite) | (with_reducible apply Keeps.ite_fst) | (with_reducible apply done_keeps)
    | (with_reducible apply State.emit_keeps) | extract_lets | split | (dsimp -zeta only) | (dsimp +zetaDelta -zeta only)

theorem execResyncLineRx_keeps {s0 s : State} (h : Keeps s0 s) (line : Nat) (bytes : List Byte) :
    Completes s0 (execResyncLineRx line bytes s) := by
  unfold execResyncLineRx
  repeat' first
    | (with_reducible assumption) | intro _ | (with_reducible apply Completes.next) | (with_reducible apply Completes.ite)
    | (with_reducible apply done_keeps) | (with_reducible apply applyRecord_keeps) | extract_lets | split | (dsimp -zeta only)
    | (dsimp +zetaDelta -zeta only)

theorem sendDirty_keeps {s0 s : State} (h : Keeps s0 s) : Keeps s0 (sendDirty s) := by
  unfold sendDirty
  repeat' first
    | (with_reducible assumption) | intro _ | (with_reducible apply State.putPair_keeps)
    | (with_reducible apply State.set_keeps) | (with_reducible apply sendRecord_keeps) | (with_reducible apply Keeps.fold)
    | extract_lets | split | (dsimp -zeta only) | (dsimp +zetaDelta -zeta only)

theorem execResyncPassEnd_keeps {s0 s : State} (h : Keeps s0 s) (more : Bool) (misread : List (Nat × Nat)) :
    Completes s0 (execResyncPassEnd more misread s) := by
  unfold execResyncPassEnd
  repeat' first
    | (with_reducible assumption) | intro _ | (with_reducible apply Completes.next) | (with_reducible apply Completes.ite)
    | (with_reducible apply Keeps.ite) | (with_reducible apply Keeps.ite_fst) | (with_reducible apply done_keeps)
    | (with_reducible apply tileFailed_keeps) | (with_reducible apply resyncDone_keeps) | (with_reducible apply sendDirty_keeps)
    | (with_reducible apply Keeps.fold) | extract_lets | split | (dsimp -zeta only) | (dsimp +zetaDelta -zeta only)

theorem pairResult_keeps {s0 s : State} (h : Keeps s0 s) (r : Nat) : Keeps s0 (pairResult s r) := by
  unfold pairResult
  repeat' first
    | (with_reducible assumption) | intro _ | (with_reducible apply State.set_keeps) | extract_lets | split | (dsimp -zeta only)
    | (dsimp +zetaDelta -zeta only)

theorem execPairPlannedSwitchover_keeps {s0 s : State} (h : Keeps s0 s) : Completes s0 (execPairPlannedSwitchover s) := by
  unfold execPairPlannedSwitchover
  repeat' first
    | (with_reducible assumption) | intro _ | (with_reducible apply Completes.next) | (with_reducible apply Completes.ite)
    | (with_reducible apply Keeps.ite) | (with_reducible apply Keeps.ite_fst) | (with_reducible apply done_keeps)
    | (with_reducible apply startPlanned_keeps) | (with_reducible apply pairResult_keeps) | extract_lets | split
    | (dsimp -zeta only) | (dsimp +zetaDelta -zeta only)

theorem execPairRestartResync_keeps {s0 s : State} (h : Keeps s0 s) : Completes s0 (execPairRestartResync s) := by
  unfold execPairRestartResync
  repeat' first
    | (with_reducible assumption) | intro _ | (with_reducible apply Completes.next) | (with_reducible apply Completes.ite)
    | (with_reducible apply Keeps.ite) | (with_reducible apply Keeps.ite_fst) | (with_reducible apply done_keeps)
    | (with_reducible apply pairResult_keeps) | (with_reducible apply startResync_keeps) | extract_lets | split
    | (dsimp -zeta only) | (dsimp +zetaDelta -zeta only)

theorem execPairHold_keeps {s0 s : State} (h : Keeps s0 s) : Completes s0 (execPairHold s) := by
  unfold execPairHold
  repeat' first
    | (with_reducible assumption) | intro _ | (with_reducible apply Completes.next) | (with_reducible apply Completes.ite)
    | (with_reducible apply Keeps.ite) | (with_reducible apply Keeps.ite_fst) | (with_reducible apply done_keeps)
    | (with_reducible apply pairResult_keeps) | (with_reducible apply clearSwitchover_keeps)
    | (with_reducible apply dropSync_keeps) | (with_reducible apply State.set_keeps) | (with_reducible apply takeRole_keeps)
    | extract_lets | split | (dsimp -zeta only) | (dsimp +zetaDelta -zeta only)

theorem execPairResume_keeps {s0 s : State} (h : Keeps s0 s) : Completes s0 (execPairResume s) := by
  unfold execPairResume
  repeat' first
    | (with_reducible assumption) | intro _ | (with_reducible apply Completes.next) | (with_reducible apply Completes.ite)
    | (with_reducible apply Keeps.ite) | (with_reducible apply Keeps.ite_fst) | (with_reducible apply done_keeps)
    | (with_reducible apply pairResult_keeps) | (with_reducible apply State.set_keeps) | extract_lets | split
    | (dsimp -zeta only) | (dsimp +zetaDelta -zeta only)

theorem execSwitchoverBoundary_keeps {s0 s : State} (h : Keeps s0 s) : Completes s0 (execSwitchoverBoundary s) := by
  unfold execSwitchoverBoundary
  repeat' first
    | (with_reducible assumption) | intro _ | (with_reducible apply Completes.next) | (with_reducible apply Completes.ite)
    | (with_reducible apply Keeps.ite) | (with_reducible apply Keeps.ite_fst) | (with_reducible apply done_keeps)
    | (with_reducible apply postEvent_keeps) | (with_reducible apply State.putPair_keeps)
    | (with_reducible apply sendControl_keeps) | extract_lets | split | (dsimp -zeta only) | (dsimp +zetaDelta -zeta only)

theorem execHandoverAck_keeps {s0 s : State} (h : Keeps s0 s) : Completes s0 (execHandoverAck s) := by
  unfold execHandoverAck
  repeat' first
    | (with_reducible assumption) | intro _ | (with_reducible apply Completes.next) | (with_reducible apply Completes.ite)
    | (with_reducible apply Keeps.ite) | (with_reducible apply Keeps.ite_fst) | (with_reducible apply done_keeps)
    | (with_reducible apply State.putPair_keeps) | (with_reducible apply dropLower_keeps)
    | (with_reducible apply releaseClaim_keeps) | extract_lets | split | (dsimp -zeta only) | (dsimp +zetaDelta -zeta only)

theorem execSwitchoverRewriteDone_keeps {s0 s : State} (h : Keeps s0 s) : Completes s0 (execSwitchoverRewriteDone s) := by
  unfold execSwitchoverRewriteDone
  repeat' first
    | (with_reducible assumption) | intro _ | (with_reducible apply Completes.next) | (with_reducible apply Completes.ite)
    | (with_reducible apply Keeps.ite) | (with_reducible apply Keeps.ite_fst) | (with_reducible apply done_keeps)
    | (with_reducible apply switchDone_keeps) | (with_reducible apply rewriteCounters_keeps)
    | (with_reducible apply settle_keeps) | (with_reducible apply setRole_keeps) | extract_lets | split | (dsimp -zeta only)
    | (dsimp +zetaDelta -zeta only)

theorem execSwitchoverReclaimTimer_keeps {s0 s : State} (h : Keeps s0 s) : Completes s0 (execSwitchoverReclaimTimer s) := by
  unfold execSwitchoverReclaimTimer
  repeat' first
    | (with_reducible assumption) | intro _ | (with_reducible apply Completes.next) | (with_reducible apply Completes.ite)
    | (with_reducible apply Keeps.ite) | (with_reducible apply Keeps.ite_fst) | (with_reducible apply done_keeps)
    | (with_reducible apply State.reach_keeps) | (with_reducible apply State.putPair_keeps) | extract_lets | split
    | (dsimp -zeta only) | (dsimp +zetaDelta -zeta only)

end Sys2Proof.Machine
end

