-- ==== Sys2Proof/Laws/KeepsPower.lean ====
section
/-!
SUPPORT. What the operations of Machine/Power.lean keep (`Keeps`).
-/

namespace Sys2Proof.Machine

set_option linter.unusedVariables false
set_option linter.unusedTactic false
set_option linter.unreachableTactic false

theorem execPwrLevelWrite_keeps {s0 s : State} (h : Keeps s0 s) (q : Requester) (v : Nat) :
    Completes s0 (execPwrLevelWrite q v s) := by
  unfold execPwrLevelWrite
  repeat' first
    | (with_reducible assumption) | intro _ | (with_reducible apply Completes.next) | (with_reducible apply Completes.ite)
    | (with_reducible apply Keeps.ite) | (with_reducible apply Keeps.ite_fst) | (with_reducible apply done_keeps)
    | (with_reducible apply State.set_keeps) | (with_reducible apply startChange_keeps) | extract_lets | split
    | (dsimp -zeta only) | (dsimp +zetaDelta -zeta only)

theorem execPlClockSwitchTimer_keeps {s0 s : State} (h : Keeps s0 s) : Completes s0 (execPlClockSwitchTimer s) := by
  unfold execPlClockSwitchTimer
  repeat' first
    | (with_reducible assumption) | intro _ | (with_reducible apply Completes.next) | (with_reducible apply Completes.ite)
    | (with_reducible apply Keeps.ite) | (with_reducible apply Keeps.ite_fst) | (with_reducible apply done_keeps)
    | (with_reducible apply State.reach_keeps) | (with_reducible apply State.putPwr_keeps) | extract_lets | split
    | (dsimp -zeta only) | (dsimp +zetaDelta -zeta only)

theorem execPlChangeDone_keeps {s0 s : State} (h : Keeps s0 s) : Completes s0 (execPlChangeDone s) := by
  unfold execPlChangeDone
  repeat' first
    | (with_reducible assumption) | intro _ | (with_reducible apply Completes.next) | (with_reducible apply Completes.ite)
    | (with_reducible apply Keeps.ite) | (with_reducible apply Keeps.ite_fst) | (with_reducible apply done_keeps)
    | (with_reducible apply State.putPwr_keeps) | (with_reducible apply State.set_keeps)
    | (with_reducible apply State.bumpWrap_keeps) | (with_reducible apply postEvent_keeps)
    | (with_reducible apply startChange_keeps) | extract_lets | split | (dsimp -zeta only) | (dsimp +zetaDelta -zeta only)

theorem thermalWarn_keeps {s0 s : State} (h : Keeps s0 s) (level : Nat) : Keeps s0 (thermalWarn s level) := by
  unfold thermalWarn
  repeat' first
    | (with_reducible assumption) | intro _ | (with_reducible apply postEvent_keeps) | extract_lets | split | (dsimp -zeta only)
    | (dsimp +zetaDelta -zeta only)

theorem throttle_keeps {s0 s : State} (h : Keeps s0 s) : Keeps s0 (throttle s) := by
  unfold throttle
  repeat' first
    | (with_reducible assumption) | intro _ | (with_reducible apply thermalWarn_keeps) | (with_reducible apply State.set_keeps)
    | (with_reducible apply State.bump_keeps) | (with_reducible apply startChange_keeps) | extract_lets | split
    | (dsimp -zeta only) | (dsimp +zetaDelta -zeta only)

theorem execTempSample_keeps {s0 s : State} (h : Keeps s0 s) (tj : Int) : Completes s0 (execTempSample tj s) := by
  unfold execTempSample
  repeat' first
    | (with_reducible assumption) | intro _ | (with_reducible apply Completes.next) | (with_reducible apply Completes.ite)
    | (with_reducible apply Keeps.ite) | (with_reducible apply Keeps.ite_fst) | (with_reducible apply done_keeps)
    | (with_reducible apply State.setI_keeps) | (with_reducible apply thermalWarn_keeps)
    | (with_reducible apply State.putPwr_keeps) | (with_reducible apply throttle_keeps) | extract_lets | split
    | (dsimp -zeta only) | (dsimp +zetaDelta -zeta only)

theorem execThrottleReleaseTimer_keeps {s0 s : State} (h : Keeps s0 s) : Completes s0 (execThrottleReleaseTimer s) := by
  unfold execThrottleReleaseTimer
  repeat' first
    | (with_reducible assumption) | intro _ | (with_reducible apply Completes.next) | (with_reducible apply Completes.ite)
    | (with_reducible apply Keeps.ite) | (with_reducible apply Keeps.ite_fst) | (with_reducible apply done_keeps)
    | (with_reducible apply State.reach_keeps) | (with_reducible apply State.putPwr_keeps)
    | (with_reducible apply State.set_keeps) | (with_reducible apply thermalWarn_keeps)
    | (with_reducible apply startChange_keeps) | extract_lets | split | (dsimp -zeta only) | (dsimp +zetaDelta -zeta only)

theorem execPaleEnter_keeps {s0 s : State} (h : Keeps s0 s) : Completes s0 (execPaleEnter s) := by
  unfold execPaleEnter
  repeat' first
    | (with_reducible assumption) | intro _ | (with_reducible apply Completes.next) | (with_reducible apply Completes.ite)
    | (with_reducible apply Keeps.ite) | (with_reducible apply Keeps.ite_fst) | (with_reducible apply State.putApp_keeps)
    | (with_reducible apply done_keeps) | (with_reducible apply setLfMode_keeps) | (with_reducible apply State.putPwr_keeps)
    | (with_reducible apply cellsWf_nil) | (with_reducible apply flashProgram_wf) | (with_reducible apply flashClear_wf)
    | (with_reducible apply setBytes_wf) | (with_reducible apply cellsWf_filter) | (with_reducible apply cellsWf_write)
    | (with_reducible apply And.intro) | (with_reducible exact wf_regs (by assumption))
    | (with_reducible exact wf_flash (by assumption)) | (with_reducible exact wf_window (by assumption))
    | (with_reducible exact wf_ncs (by assumption)) | (with_reducible exact wf_eht (by assumption))
    | (with_reducible exact wf_hb (by assumption)) | (with_reducible exact wf_shadow (by assumption))
    | (with_reducible exact wf_msix (by assumption)) | (with_reducible exact wf_iram (by assumption))
    | (with_reducible exact wf_dram (by assumption)) | (exact (wf_iram ‹Memory.wf _ = true› :))
    | (exact (wf_dram ‹Memory.wf _ = true› :)) | extract_lets | split | (dsimp -zeta only) | (dsimp +zetaDelta -zeta only)

theorem execPaleExit_keeps {s0 s : State} (h : Keeps s0 s) (debugger : Bool) (periods : Nat) :
    Completes s0 (execPaleExit debugger periods s) := by
  unfold execPaleExit
  repeat' first
    | (with_reducible assumption) | intro _ | (with_reducible apply Completes.next) | (with_reducible apply Completes.ite)
    | (with_reducible apply Keeps.ite) | (with_reducible apply Keeps.ite_fst) | (with_reducible apply State.putApp_keeps)
    | (with_reducible apply State.putPwr_keeps) | (with_reducible apply done_keeps) | (with_reducible apply endLfMode_keeps)
    | (with_reducible apply cellsWf_nil) | (with_reducible apply flashProgram_wf) | (with_reducible apply flashClear_wf)
    | (with_reducible apply setBytes_wf) | (with_reducible apply cellsWf_filter) | (with_reducible apply cellsWf_write)
    | (with_reducible apply And.intro) | (with_reducible exact wf_regs (by assumption))
    | (with_reducible exact wf_flash (by assumption)) | (with_reducible exact wf_window (by assumption))
    | (with_reducible exact wf_ncs (by assumption)) | (with_reducible exact wf_eht (by assumption))
    | (with_reducible exact wf_hb (by assumption)) | (with_reducible exact wf_shadow (by assumption))
    | (with_reducible exact wf_msix (by assumption)) | (with_reducible exact wf_iram (by assumption))
    | (with_reducible exact wf_dram (by assumption)) | (exact (wf_iram ‹Memory.wf _ = true› :))
    | (exact (wf_dram ‹Memory.wf _ = true› :)) | extract_lets | split | (dsimp -zeta only) | (dsimp +zetaDelta -zeta only)

theorem execPwrCmdSepia_keeps {s0 s : State} (h : Keeps s0 s) (q : Requester) (key : Nat) :
    Completes s0 (execPwrCmdSepia q key s) := by
  unfold execPwrCmdSepia
  repeat' first
    | (with_reducible assumption) | intro _ | (with_reducible apply Completes.next) | (with_reducible apply Completes.ite)
    | (with_reducible apply Keeps.ite) | (with_reducible apply Keeps.ite_fst) | (with_reducible apply done_keeps)
    | (with_reducible apply sleepCommand_keeps) | extract_lets | split | (dsimp -zeta only) | (dsimp +zetaDelta -zeta only)

theorem execPwrCmdUmber_keeps {s0 s : State} (h : Keeps s0 s) (q : Requester) (key : Nat) :
    Completes s0 (execPwrCmdUmber q key s) := by
  unfold execPwrCmdUmber
  repeat' first
    | (with_reducible assumption) | intro _ | (with_reducible apply Completes.next) | (with_reducible apply Completes.ite)
    | (with_reducible apply Keeps.ite) | (with_reducible apply Keeps.ite_fst) | (with_reducible apply done_keeps)
    | (with_reducible apply sleepCommand_keeps) | extract_lets | split | (dsimp -zeta only) | (dsimp +zetaDelta -zeta only)

theorem execSepiaEntry_keeps {s0 s : State} (h : Keeps s0 s) : Completes s0 (execSepiaEntry s) := by
  unfold execSepiaEntry
  repeat' first
    | (with_reducible assumption) | intro _ | (with_reducible apply Completes.next) | (with_reducible apply Completes.ite)
    | (with_reducible apply Keeps.ite) | (with_reducible apply Keeps.ite_fst) | (with_reducible apply done_keeps)
    | (with_reducible apply enterSepia_keeps) | (with_reducible apply State.advanceTo_keeps) | extract_lets | split
    | (dsimp -zeta only) | (dsimp +zetaDelta -zeta only)

theorem execUmberEntry_keeps {s0 s : State} (h : Keeps s0 s) : Completes s0 (execUmberEntry s) := by
  unfold execUmberEntry
  repeat' first
    | (with_reducible assumption) | intro _ | (with_reducible apply Completes.next) | (with_reducible apply Completes.ite)
    | (with_reducible apply Keeps.ite) | (with_reducible apply Keeps.ite_fst) | (with_reducible apply done_keeps)
    | (with_reducible apply enterUmber_keeps) | (with_reducible apply State.advanceTo_keeps) | extract_lets | split
    | (dsimp -zeta only) | (dsimp +zetaDelta -zeta only)

theorem latchWake_keeps {s0 s : State} (h : Keeps s0 s) (src : Nat) : Keeps s0 (latchWake s src) := by
  unfold latchWake
  repeat' first
    | (with_reducible assumption) | intro _ | (with_reducible apply Keeps.ite) | (with_reducible apply Keeps.ite_fst)
    | (with_reducible apply startExit_keeps) | (with_reducible apply State.putPwr_keeps) | extract_lets | split
    | (dsimp -zeta only) | (dsimp +zetaDelta -zeta only)

theorem execWakeSource_keeps {s0 s : State} (h : Keeps s0 s) (src : Nat) : Completes s0 (execWakeSource src s) := by
  unfold execWakeSource
  repeat' first
    | (with_reducible assumption) | intro _ | (with_reducible apply Completes.next) | (with_reducible apply Completes.ite)
    | (with_reducible apply Keeps.ite) | (with_reducible apply Keeps.ite_fst) | (with_reducible apply done_keeps)
    | (with_reducible apply latchWake_keeps) | extract_lets | split | (dsimp -zeta only) | (dsimp +zetaDelta -zeta only)

theorem execSleepTimerExpiry_keeps {s0 s : State} (h : Keeps s0 s) : Completes s0 (execSleepTimerExpiry s) := by
  unfold execSleepTimerExpiry
  repeat' first
    | (with_reducible assumption) | intro _ | (with_reducible apply Completes.next) | (with_reducible apply Completes.ite)
    | (with_reducible apply Keeps.ite) | (with_reducible apply Keeps.ite_fst) | (with_reducible apply done_keeps)
    | (with_reducible apply latchWake_keeps) | (with_reducible apply State.reach_keeps) | extract_lets | split
    | (dsimp -zeta only) | (dsimp +zetaDelta -zeta only)

theorem execSepiaExitReady_keeps {s0 s : State} (h : Keeps s0 s) (crcOk : Bool) : Completes s0 (execSepiaExitReady crcOk s) := by
  unfold execSepiaExitReady
  repeat' first
    | (with_reducible assumption) | intro _ | (with_reducible apply Completes.next) | (with_reducible apply Completes.ite)
    | (with_reducible apply Keeps.ite) | (with_reducible apply Keeps.ite_fst) | (with_reducible apply done_keeps)
    | (with_reducible apply sepiaReady_keeps) | (with_reducible apply restoreFails_keeps) | extract_lets | split
    | (dsimp -zeta only) | (dsimp +zetaDelta -zeta only)

end Sys2Proof.Machine
end

