-- ==== Sys2Proof/Laws/KeepsPsm.lean ====
section
/-!
SUPPORT. What the operations of Machine/Psm.lean keep (`Keeps`).
-/

namespace Sys2Proof.Machine

set_option linter.unusedVariables false
set_option linter.unusedTactic false
set_option linter.unreachableTactic false

theorem execSlotBoundary_keeps {s0 s : State} (h : Keeps s0 s) : Completes s0 (execSlotBoundary s) := by
  unfold execSlotBoundary
  repeat' first
    | (with_reducible assumption) | intro _ | (with_reducible apply Completes.next) | (with_reducible apply Completes.ite)
    | (with_reducible apply Keeps.ite) | (with_reducible apply Keeps.ite_fst) | (with_reducible apply boundaryDue_keeps)
    | (with_reducible apply countBoundary_keeps) | (with_reducible apply endSlot_keeps) | (with_reducible apply countIdle_keeps)
    | (with_reducible apply assignEngines_keeps) | (with_reducible apply planExchanges_keeps)
    | (with_reducible apply swapMicrocode_keeps) | (with_reducible apply settle_keeps) | (with_reducible apply done_keeps)
    | (with_reducible apply autoRepair_keeps) | (with_reducible apply issueSlot_keeps)
    | (with_reducible apply slotOnPaths_keeps) | extract_lets | split | (dsimp -zeta only) | (dsimp +zetaDelta -zeta only)

theorem execReceivedFrame_keeps {s0 s : State} (h : Keeps s0 s) (cluster : Nat) (written : Bool) :
    Completes s0 (execReceivedFrame cluster written s) := by
  unfold execReceivedFrame
  repeat' first
    | (with_reducible assumption) | intro _ | (with_reducible apply Completes.next) | (with_reducible apply Completes.ite)
    | (with_reducible apply Keeps.ite) | (with_reducible apply Keeps.ite_fst) | (with_reducible apply done_keeps)
    | (with_reducible apply consumeTag_keeps) | (with_reducible apply dropReport_keeps)
    | (with_reducible apply filterFrame_keeps) | (with_reducible apply takeFrame_keeps)
    | (with_reducible refine Keeps.of_pair (by assumption) ?_) | extract_lets | split | (dsimp -zeta only)
    | (dsimp +zetaDelta -zeta only)

theorem execReplyWindowEnd_keeps {s0 s : State} (h : Keeps s0 s) (node : Nat) : Completes s0 (execReplyWindowEnd node s) := by
  unfold execReplyWindowEnd
  repeat' first
    | (with_reducible assumption) | intro _ | (with_reducible apply Completes.next) | (with_reducible apply Completes.ite)
    | (with_reducible apply Keeps.ite) | (with_reducible apply Keeps.ite_fst) | (with_reducible apply done_keeps)
    | (with_reducible apply replyWindowEnds_keeps) | extract_lets | split | (dsimp -zeta only) | (dsimp +zetaDelta -zeta only)

theorem execNodeAckWindowEnd_keeps {s0 s : State} (h : Keeps s0 s) (node : Nat) : Completes s0 (execNodeAckWindowEnd node s) := by
  unfold execNodeAckWindowEnd
  repeat' first
    | (with_reducible assumption) | intro _ | (with_reducible apply Completes.next) | (with_reducible apply Completes.ite)
    | (with_reducible apply Keeps.ite) | (with_reducible apply Keeps.ite_fst) | (with_reducible apply done_keeps)
    | (with_reducible apply nodeAckMissed_keeps) | extract_lets | split | (dsimp -zeta only) | (dsimp +zetaDelta -zeta only)

theorem ackJoin_keeps {s0 s : State} (h : Keeps s0 s) (k asn path ant dsn eui ended : Nat) :
    Keeps s0 (ackJoin s k asn path ant dsn eui ended) := by
  unfold ackJoin
  repeat' first
    | (with_reducible assumption) | intro _ | (with_reducible apply storeFrame_keeps)
    | (with_reducible apply planInterval_keeps) | (with_reducible refine Keeps.of_pair (by assumption) ?_) | extract_lets
    | split | (dsimp -zeta only) | (dsimp +zetaDelta -zeta only)

theorem takeJoin_keeps {s0 s : State} (h : Keeps s0 s) (f : RxFrame) (eui : Nat) (ie : List Byte) :
    Keeps s0 (takeJoin s f eui ie) := by
  unfold takeJoin
  repeat' first
    | (with_reducible assumption) | intro _ | (with_reducible apply Keeps.ite) | (with_reducible apply Keeps.ite_fst)
    | (with_reducible apply State.bump_keeps) | (with_reducible apply joinRequest_keeps) | (with_reducible apply ackJoin_keeps)
    | extract_lets | split | (dsimp -zeta only) | (dsimp +zetaDelta -zeta only)

theorem execJoinRequest_keeps {s0 s : State} (h : Keeps s0 s) (cluster : Nat) : Completes s0 (execJoinRequest cluster s) := by
  unfold execJoinRequest
  repeat' first
    | (with_reducible assumption) | intro _ | (with_reducible apply Completes.next) | (with_reducible apply Completes.ite)
    | (with_reducible apply Keeps.ite) | (with_reducible apply Keeps.ite_fst) | (with_reducible apply done_keeps)
    | (with_reducible apply takeJoin_keeps) | (with_reducible apply dropReport_keeps) | extract_lets | split
    | (dsimp -zeta only) | (dsimp +zetaDelta -zeta only)

end Sys2Proof.Machine
end

