-- ==== Sys2Proof/Laws/KeepsRadio.lean ====
section
/-!
SUPPORT. What the operations of Machine/Radio.lean keep (`Keeps`).
-/

namespace Sys2Proof.Machine

set_option linter.unusedVariables false
set_option linter.unusedTactic false
set_option linter.unreachableTactic false

theorem execSynthLockAcquired_keeps {s0 s : State} (h : Keeps s0 s) (path : Nat) : Completes s0 (execSynthLockAcquired path s) := by
  unfold execSynthLockAcquired
  repeat' first
    | (with_reducible assumption) | intro _ | (with_reducible apply Completes.next) | (with_reducible apply Completes.ite)
    | (with_reducible apply Keeps.ite) | (with_reducible apply Keeps.ite_fst) | (with_reducible apply done_keeps)
    | (with_reducible apply State.set_keeps) | (with_reducible apply State.setPath_keeps)
    | (with_reducible apply postEvent_keeps) | (with_reducible apply unblankPath_keeps)
    | (with_reducible apply startWaiting_keeps) | extract_lets | split | (dsimp -zeta only) | (dsimp +zetaDelta -zeta only)

theorem execSynthLockLoss_keeps {s0 s : State} (h : Keeps s0 s) (path : Nat) : Completes s0 (execSynthLockLoss path s) := by
  unfold execSynthLockLoss
  repeat' first
    | (with_reducible assumption) | intro _ | (with_reducible apply Completes.next) | (with_reducible apply Completes.ite)
    | (with_reducible apply Keeps.ite) | (with_reducible apply Keeps.ite_fst) | (with_reducible apply done_keeps)
    | (with_reducible apply State.set_keeps) | (with_reducible apply State.bump_keeps)
    | (with_reducible apply abortInterval_keeps) | (with_reducible apply blankPath_keeps) | extract_lets | split
    | (dsimp -zeta only) | (dsimp +zetaDelta -zeta only)

theorem execLockTimeout_keeps {s0 s : State} (h : Keeps s0 s) (path : Nat) : Completes s0 (execLockTimeout path s) := by
  unfold execLockTimeout
  repeat' first
    | (with_reducible assumption) | intro _ | (with_reducible apply Completes.next) | (with_reducible apply Completes.ite)
    | (with_reducible apply Keeps.ite) | (with_reducible apply Keeps.ite_fst) | (with_reducible apply done_keeps)
    | (with_reducible apply State.setPath_keeps) | (with_reducible apply State.set_keeps)
    | (with_reducible apply postEvent_keeps) | (with_reducible apply State.bump_keeps) | extract_lets | split
    | (dsimp -zeta only) | (dsimp +zetaDelta -zeta only)

theorem execOosRetuneRetry_keeps {s0 s : State} (h : Keeps s0 s) (path : Nat) : Completes s0 (execOosRetuneRetry path s) := by
  unfold execOosRetuneRetry
  repeat' first
    | (with_reducible assumption) | intro _ | (with_reducible apply Completes.next) | (with_reducible apply Completes.ite)
    | (with_reducible apply Keeps.ite) | (with_reducible apply Keeps.ite_fst) | (with_reducible apply done_keeps)
    | (with_reducible apply retune_keeps) | extract_lets | split | (dsimp -zeta only) | (dsimp +zetaDelta -zeta only)

theorem resumeSlice_keeps {s0 s : State} (h : Keeps s0 s) (n : Nat) : Keeps s0 (resumeSlice s n) := by
  unfold resumeSlice
  repeat' first
    | (with_reducible assumption) | intro _ | (with_reducible apply Keeps.ite) | (with_reducible apply Keeps.ite_fst)
    | (with_reducible apply sliceWaits_keeps) | extract_lets | split | (dsimp -zeta only) | (dsimp +zetaDelta -zeta only)

theorem execTxIntervalStart_keeps {s0 s : State} (h : Keeps s0 s) (path : Nat) : Completes s0 (execTxIntervalStart path s) := by
  unfold execTxIntervalStart
  repeat' first
    | (with_reducible assumption) | intro _ | (with_reducible apply Completes.next) | (with_reducible apply Completes.ite)
    | (with_reducible apply Keeps.ite) | (with_reducible apply Keeps.ite_fst) | (with_reducible apply done_keeps)
    | (with_reducible apply teGiveBack_keeps) | (with_reducible apply State.advanceTo_keeps)
    | (with_reducible apply blankPath_keeps) | (with_reducible apply calPreempt_keeps)
    | (with_reducible apply State.setTe_keeps) | (with_reducible apply State.set_keeps)
    | (with_reducible apply State.setPath_keeps) | (with_reducible apply startWaiting_keeps) | (with_reducible apply Keeps.fold)
    | extract_lets | split | (dsimp -zeta only) | (dsimp +zetaDelta -zeta only)

theorem execTxLatestStartExpiry_keeps {s0 s : State} (h : Keeps s0 s) (path : Nat) :
    Completes s0 (execTxLatestStartExpiry path s) := by
  unfold execTxLatestStartExpiry
  repeat' first
    | (with_reducible assumption) | intro _ | (with_reducible apply Completes.next) | (with_reducible apply Completes.ite)
    | (with_reducible apply Keeps.ite) | (with_reducible apply Keeps.ite_fst) | (with_reducible apply done_keeps)
    | (with_reducible apply bumpTrx_keeps) | (with_reducible apply dropInterval_keeps) | (with_reducible apply postEvent_keeps)
    | (with_reducible apply resumeSlice_keeps) | (with_reducible apply unblankPath_keeps) | extract_lets | split
    | (dsimp -zeta only) | (dsimp +zetaDelta -zeta only)

theorem execBlankingEnd_keeps {s0 s : State} (h : Keeps s0 s) (path : Nat) : Completes s0 (execBlankingEnd path s) := by
  unfold execBlankingEnd
  repeat' first
    | (with_reducible assumption) | intro _ | (with_reducible apply Completes.next) | (with_reducible apply Completes.ite)
    | (with_reducible apply Keeps.ite) | (with_reducible apply Keeps.ite_fst) | (with_reducible apply done_keeps)
    | (with_reducible apply unblankPath_keeps) | (with_reducible apply frontEndReceive_keeps)
    | (with_reducible apply State.setPath_keeps) | (with_reducible apply viewTone_keeps)
    | (with_reducible apply resumeSlice_keeps) | extract_lets | split | (dsimp -zeta only) | (dsimp +zetaDelta -zeta only)

theorem execCalYieldRequest_keeps {s0 s : State} (h : Keeps s0 s) (path : Nat) : Completes s0 (execCalYieldRequest path s) := by
  unfold execCalYieldRequest
  repeat' first
    | (with_reducible assumption) | intro _ | (with_reducible apply Completes.next) | (with_reducible apply Completes.ite)
    | (with_reducible apply Keeps.ite) | (with_reducible apply Keeps.ite_fst) | (with_reducible apply done_keeps)
    | (with_reducible apply calPreempt_keeps) | (with_reducible apply State.setPath_keeps)
    | (with_reducible apply State.set_keeps) | (with_reducible apply State.bump_keeps) | extract_lets | split
    | (dsimp -zeta only) | (dsimp +zetaDelta -zeta only)

theorem execDevclkCheck_keeps {s0 s : State} (h : Keeps s0 s) (hz : Nat) : Completes s0 (execDevclkCheck hz s) := by
  unfold execDevclkCheck
  repeat' first
    | (with_reducible assumption) | intro _ | (with_reducible apply Completes.next) | (with_reducible apply Completes.ite)
    | (with_reducible apply Keeps.ite) | (with_reducible apply Keeps.ite_fst) | (with_reducible apply done_keeps)
    | (with_reducible apply jesdDown_keeps) | (with_reducible apply postEvent_keeps) | (with_reducible apply State.set_keeps)
    | extract_lets | split | (dsimp -zeta only) | (dsimp +zetaDelta -zeta only)

theorem execJesdArm_keeps {s0 s : State} (h : Keeps s0 s) : Completes s0 (execJesdArm s) := by
  unfold execJesdArm
  repeat' first
    | (with_reducible assumption) | intro _ | (with_reducible apply Completes.next) | (with_reducible apply Completes.ite)
    | (with_reducible apply Keeps.ite) | (with_reducible apply Keeps.ite_fst) | (with_reducible apply done_keeps)
    | (with_reducible apply State.putJesd_keeps) | extract_lets | split | (dsimp -zeta only) | (dsimp +zetaDelta -zeta only)

theorem execSysrefEdge_keeps {s0 s : State} (h : Keeps s0 s) (position : Int) : Completes s0 (execSysrefEdge position s) := by
  unfold execSysrefEdge
  repeat' first
    | (with_reducible assumption) | intro _ | (with_reducible apply Completes.next) | (with_reducible apply Completes.ite)
    | (with_reducible apply Keeps.ite) | (with_reducible apply Keeps.ite_fst) | (with_reducible apply done_keeps)
    | (with_reducible apply State.putJesd_keeps) | (with_reducible apply State.set_keeps)
    | (with_reducible apply postEvent_keeps) | extract_lets | split | (dsimp -zeta only) | (dsimp +zetaDelta -zeta only)

theorem execJesdMultiblockRx_keeps {s0 s : State} (h : Keeps s0 s) (lane : Nat) (crcOk syncOk : Bool) :
    Completes s0 (execJesdMultiblockRx lane crcOk syncOk s) := by
  unfold execJesdMultiblockRx
  repeat' first
    | (with_reducible assumption) | intro _ | (with_reducible apply Completes.next) | (with_reducible apply Completes.ite)
    | (with_reducible apply Keeps.ite) | (with_reducible apply Keeps.ite_fst) | (with_reducible apply done_keeps)
    | (with_reducible apply State.bump_keeps) | (with_reducible apply State.putJesd_keeps)
    | (with_reducible apply jesdDown_keeps) | extract_lets | split | (dsimp -zeta only) | (dsimp +zetaDelta -zeta only)

theorem firstEpochs_keeps {s0 s : State} (h : Keeps s0 s) : Keeps s0 (firstEpochs s) := by
  unfold firstEpochs
  repeat' first
    | (with_reducible assumption) | intro _ | (with_reducible apply Keeps.ite) | (with_reducible apply Keeps.ite_fst)
    | (with_reducible apply issueSet_keeps) | (with_reducible apply Keeps.fold) | extract_lets | split | (dsimp -zeta only)
    | (dsimp +zetaDelta -zeta only)

theorem execJesdLinkAligned_keeps {s0 s : State} (h : Keeps s0 s) (dir : Nat) : Completes s0 (execJesdLinkAligned dir s) := by
  unfold execJesdLinkAligned
  repeat' first
    | (with_reducible assumption) | intro _ | (with_reducible apply Completes.next) | (with_reducible apply Completes.ite)
    | (with_reducible apply Keeps.ite) | (with_reducible apply Keeps.ite_fst) | (with_reducible apply done_keeps)
    | (with_reducible apply postEvent_keeps) | (with_reducible apply State.set_keeps) | (with_reducible apply unblankPath_keeps)
    | (with_reducible apply firstEpochs_keeps) | (with_reducible apply startWaiting_keeps) | (with_reducible apply Keeps.fold)
    | extract_lets | split | (dsimp -zeta only) | (dsimp +zetaDelta -zeta only)

end Sys2Proof.Machine
end

