-- ==== Sys2Proof/Laws/KeepsSecurity.lean ====
section
/-!
SUPPORT. What the operations of Machine/Security.lean keep (`Keeps`).
-/

namespace Sys2Proof.Machine

set_option linter.unusedVariables false
set_option linter.unusedTactic false
set_option linter.unreachableTactic false

theorem execKeyDerivationDone_keeps {s0 s : State} (h : Keeps s0 s) (written : Bool) :
    Completes s0 (execKeyDerivationDone written s) := by
  unfold execKeyDerivationDone
  repeat' first
    | (with_reducible assumption) | intro _ | (with_reducible apply Completes.next) | (with_reducible apply Completes.ite)
    | (with_reducible apply done_keeps) | (with_reducible apply State.putSec_keeps) | (with_reducible apply judgeFrame_keeps)
    | (with_reducible apply cacheFill_keeps) | extract_lets | split | (dsimp -zeta only) | (dsimp +zetaDelta -zeta only)

theorem execSecAttest_keeps {s0 s : State} (h : Keeps s0 s) (q : Requester) : Completes s0 (execSecAttest q s) := by
  unfold execSecAttest
  repeat' first
    | (with_reducible assumption) | intro _ | (with_reducible apply Completes.next) | (with_reducible apply Completes.ite)
    | (with_reducible apply Keeps.ite) | (with_reducible apply Keeps.ite_fst) | (with_reducible apply done_keeps)
    | (with_reducible apply setResult_keeps) | (with_reducible apply State.set_keeps) | (with_reducible apply State.drew_keeps)
    | (with_reducible apply Keeps.fold) | extract_lets | split | (dsimp -zeta only) | (dsimp +zetaDelta -zeta only)

theorem testCommand_keeps {s0 s : State} (h : Keeps s0 s) (q : Requester) (l : List Nat) (fails : List (Nat × Nat)) :
    Keeps s0 (testCommand s q l fails) := by
  unfold testCommand
  repeat' first
    | (with_reducible assumption) | intro _ | (with_reducible apply Keeps.ite) | (with_reducible apply Keeps.ite_fst)
    | (with_reducible apply setResult_keeps) | (with_reducible apply secHealth_keeps) | (with_reducible apply testEngines_keeps)
    | extract_lets | split | (dsimp -zeta only) | (dsimp +zetaDelta -zeta only)

theorem execSecSelftestAll_keeps {s0 s : State} (h : Keeps s0 s) (q : Requester) (fails : List (Nat × Nat)) :
    Completes s0 (execSecSelftestAll q fails s) := by
  unfold execSecSelftestAll
  repeat' first
    | (with_reducible assumption) | intro _ | (with_reducible apply Completes.next) | (with_reducible apply Completes.ite)
    | (with_reducible apply done_keeps) | (with_reducible apply testCommand_keeps) | extract_lets | split | (dsimp -zeta only)
    | (dsimp +zetaDelta -zeta only)

theorem execSecSelftestKind_keeps {s0 s : State} (h : Keeps s0 s) (q : Requester) (kind : Nat) (fails : List (Nat × Nat)) :
    Completes s0 (execSecSelftestKind q kind fails s) := by
  unfold execSecSelftestKind
  repeat' first
    | (with_reducible assumption) | intro _ | (with_reducible apply Completes.next) | (with_reducible apply Completes.ite)
    | (with_reducible apply Keeps.ite) | (with_reducible apply Keeps.ite_fst) | (with_reducible apply done_keeps)
    | (with_reducible apply setResult_keeps) | (with_reducible apply testCommand_keeps) | extract_lets | split
    | (dsimp -zeta only) | (dsimp +zetaDelta -zeta only)

theorem execInstallEpoch_keeps {s0 s : State} (h : Keeps s0 s) (q : Requester) : Completes s0 (execInstallEpoch q s) := by
  unfold execInstallEpoch
  repeat' first
    | (with_reducible assumption) | intro _ | (with_reducible apply Completes.next) | (with_reducible apply Completes.ite)
    | (with_reducible apply Keeps.ite) | (with_reducible apply Keeps.ite_fst) | (with_reducible apply done_keeps)
    | (with_reducible apply signedCommand_keeps) | (with_reducible apply installEpoch_keeps)
    | (with_reducible apply pumpRekeys_keeps) | (with_reducible apply State.putSec_keeps) | extract_lets | split
    | (dsimp -zeta only) | (dsimp +zetaDelta -zeta only)

theorem execRaiseDistrictGeneration_keeps {s0 s : State} (h : Keeps s0 s) (q : Requester) :
    Completes s0 (execRaiseDistrictGeneration q s) := by
  unfold execRaiseDistrictGeneration
  repeat' first
    | (with_reducible assumption) | intro _ | (with_reducible apply Completes.next) | (with_reducible apply Completes.ite)
    | (with_reducible apply Keeps.ite) | (with_reducible apply Keeps.ite_fst) | (with_reducible apply done_keeps)
    | (with_reducible apply signedCommand_keeps) | (with_reducible apply raiseDistrict_keeps)
    | (with_reducible apply postRevoked_keeps) | extract_lets | split | (dsimp -zeta only) | (dsimp +zetaDelta -zeta only)

theorem execRevokeDistrict_keeps {s0 s : State} (h : Keeps s0 s) (q : Requester) : Completes s0 (execRevokeDistrict q s) := by
  unfold execRevokeDistrict
  repeat' first
    | (with_reducible assumption) | intro _ | (with_reducible apply Completes.next) | (with_reducible apply Completes.ite)
    | (with_reducible apply Keeps.ite) | (with_reducible apply Keeps.ite_fst) | (with_reducible apply done_keeps)
    | (with_reducible apply signedCommand_keeps) | (with_reducible apply postRevoked_keeps)
    | (with_reducible apply revokeDistrict_keeps) | extract_lets | split | (dsimp -zeta only) | (dsimp +zetaDelta -zeta only)

theorem execRevokeEpoch_keeps {s0 s : State} (h : Keeps s0 s) (q : Requester) : Completes s0 (execRevokeEpoch q s) := by
  unfold execRevokeEpoch
  repeat' first
    | (with_reducible assumption) | intro _ | (with_reducible apply Completes.next) | (with_reducible apply Completes.ite)
    | (with_reducible apply Keeps.ite) | (with_reducible apply Keeps.ite_fst) | (with_reducible apply done_keeps)
    | (with_reducible apply signedCommand_keeps) | (with_reducible apply postRevoked_keeps)
    | (with_reducible apply revokeEpoch_keeps) | extract_lets | split | (dsimp -zeta only) | (dsimp +zetaDelta -zeta only)

theorem execZeroize_keeps {s0 s : State} (h : Keeps s0 s) (q : Requester) : Completes s0 (execZeroize q s) := by
  unfold execZeroize
  repeat' first
    | (with_reducible assumption) | intro _ | (with_reducible apply Completes.next) | (with_reducible apply Completes.ite)
    | (with_reducible apply done_keeps) | (with_reducible apply signedCommand_keeps) | (with_reducible apply zeroize_keeps)
    | extract_lets | split | (dsimp -zeta only) | (dsimp +zetaDelta -zeta only)

theorem execProgramOwnerHash_keeps {s0 s : State} (h : Keeps s0 s) (q : Requester) : Completes s0 (execProgramOwnerHash q s) := by
  unfold execProgramOwnerHash
  repeat' first
    | (with_reducible assumption) | intro _ | (with_reducible apply Completes.next) | (with_reducible apply Completes.ite)
    | (with_reducible apply Keeps.ite) | (with_reducible apply Keeps.ite_fst) | (with_reducible apply done_keeps)
    | (with_reducible apply signedCommand_keeps) | (with_reducible apply setOwner_keeps) | extract_lets | split
    | (dsimp -zeta only) | (dsimp +zetaDelta -zeta only)

theorem execRevokeOwnerSlot_keeps {s0 s : State} (h : Keeps s0 s) (q : Requester) : Completes s0 (execRevokeOwnerSlot q s) := by
  unfold execRevokeOwnerSlot
  repeat' first
    | (with_reducible assumption) | intro _ | (with_reducible apply Completes.next) | (with_reducible apply Completes.ite)
    | (with_reducible apply Keeps.ite) | (with_reducible apply Keeps.ite_fst) | (with_reducible apply done_keeps)
    | (with_reducible apply signedCommand_keeps) | (with_reducible apply setOwner_keeps) | extract_lets | split
    | (dsimp -zeta only) | (dsimp +zetaDelta -zeta only)

theorem execDebugToken_keeps {s0 s : State} (h : Keeps s0 s) (q : Requester) : Completes s0 (execDebugToken q s) := by
  unfold execDebugToken
  repeat' first
    | (with_reducible assumption) | intro _ | (with_reducible apply Completes.next) | (with_reducible apply Completes.ite)
    | (with_reducible apply Keeps.ite) | (with_reducible apply Keeps.ite_fst) | (with_reducible apply done_keeps)
    | (with_reducible apply signedCommand_keeps) | (with_reducible apply zeroize_keeps)
    | (with_reducible apply treeChanged_keeps) | (with_reducible apply postEvent_keeps)
    | (with_reducible apply State.putSec_keeps) | extract_lets | split | (dsimp -zeta only) | (dsimp +zetaDelta -zeta only)

theorem execJtagDebugRequest_keeps {s0 s : State} (h : Keeps s0 s) (port : Nat) : Completes s0 (execJtagDebugRequest port s) := by
  unfold execJtagDebugRequest
  repeat' first
    | (with_reducible assumption) | intro _ | (with_reducible apply Completes.next) | (with_reducible apply Completes.ite)
    | (with_reducible apply Keeps.ite) | (with_reducible apply Keeps.ite_fst) | (with_reducible apply done_keeps)
    | (with_reducible apply State.putSec_keeps) | extract_lets | split | (dsimp -zeta only) | (dsimp +zetaDelta -zeta only)

theorem execSelftestPeriod_keeps {s0 s : State} (h : Keeps s0 s) (fails : List (Nat × Nat)) :
    Completes s0 (execSelftestPeriod fails s) := by
  unfold execSelftestPeriod
  repeat' first
    | (with_reducible assumption) | intro _ | (with_reducible apply Completes.next) | (with_reducible apply Completes.ite)
    | (with_reducible apply Keeps.ite) | (with_reducible apply Keeps.ite_fst) | (with_reducible apply done_keeps)
    | (with_reducible apply secHealth_keeps) | (with_reducible apply testEngines_keeps) | extract_lets | split
    | (dsimp -zeta only) | (dsimp +zetaDelta -zeta only)

theorem execDrbgReseed_keeps {s0 s : State} (h : Keeps s0 s) (engine : Nat) (ok : Bool) :
    Completes s0 (execDrbgReseed engine ok s) := by
  unfold execDrbgReseed
  repeat' first
    | (with_reducible assumption) | intro _ | (with_reducible apply Completes.next) | (with_reducible apply Completes.ite)
    | (with_reducible apply Keeps.ite) | (with_reducible apply Keeps.ite_fst) | (with_reducible apply State.putSec_keeps)
    | (with_reducible apply done_keeps) | (with_reducible apply State.bumpWrap_keeps) | (with_reducible apply secHealth_keeps)
    | (with_reducible apply engineFails_keeps) | extract_lets | split | (dsimp -zeta only) | (dsimp +zetaDelta -zeta only)

end Sys2Proof.Machine
end

