-- ==== Sys2Proof/Laws/KeepsStartup.lean ====
section
/-!
SUPPORT. What the operations of Machine/Startup.lean keep (`Keeps`).
-/

namespace Sys2Proof.Machine

set_option linter.unusedVariables false
set_option linter.unusedTactic false
set_option linter.unreachableTactic false

theorem execPorstNRelease_keeps {s0 s : State} (h : Keeps s0 s) (mode0 mode1 id : Option Bool) :
    Completes s0 (execPorstNRelease mode0 mode1 id s) := by
  unfold execPorstNRelease
  repeat' first
    | (with_reducible assumption) | intro _ | (with_reducible apply Completes.next) | (with_reducible apply Completes.ite)
    | (with_reducible apply Keeps.ite) | (with_reducible apply Keeps.ite_fst) | (with_reducible apply done_keeps)
    | (with_reducible apply State.set_keeps) | (with_reducible apply State.putPwr_keeps)
    | (with_reducible apply State.drew_keeps) | (with_reducible apply State.putBoot_keeps) | extract_lets | split
    | (dsimp -zeta only) | (dsimp +zetaDelta -zeta only)

theorem execPorstNAssert_keeps {s0 s : State} (h : Keeps s0 s) : Completes s0 (execPorstNAssert s) := by
  unfold execPorstNAssert
  repeat' first
    | (with_reducible assumption) | intro _ | (with_reducible apply Completes.next) | (with_reducible apply Completes.ite)
    | (with_reducible apply Keeps.ite) | (with_reducible apply Keeps.ite_fst) | (with_reducible apply done_keeps)
    | (with_reducible apply resetKeeping_keeps) | (with_reducible apply stopTimebase_keeps)
    | (with_reducible apply endClaim_keeps) | extract_lets | split | (dsimp -zeta only) | (dsimp +zetaDelta -zeta only)

theorem execVddAonLoss_keeps {s0 s : State} (h : Keeps s0 s) : Completes s0 (execVddAonLoss s) := by
  unfold execVddAonLoss
  repeat' first
    | (with_reducible assumption) | intro _ | (with_reducible apply Completes.next) | (with_reducible apply Completes.ite)
    | (with_reducible apply resetKeeping_keeps) | (with_reducible apply State.putOsc_keeps)
    | (with_reducible apply State.putTb_keeps) | (with_reducible apply done_keeps) | (with_reducible apply State.putTree_keeps)
    | (with_reducible apply State.putUpd_keeps) | extract_lets | split | (dsimp -zeta only) | (dsimp +zetaDelta -zeta only)

theorem execVddAonUp_keeps {s0 s : State} (h : Keeps s0 s) : Completes s0 (execVddAonUp s) := by
  unfold execVddAonUp
  repeat' first
    | (with_reducible assumption) | intro _ | (with_reducible apply Completes.next) | (with_reducible apply Completes.ite)
    | (with_reducible apply Keeps.ite) | (with_reducible apply Keeps.ite_fst) | (with_reducible apply done_keeps)
    | (with_reducible apply State.putBoot_keeps) | extract_lets | split | (dsimp -zeta only) | (dsimp +zetaDelta -zeta only)

theorem execPwrPgHigh_keeps {s0 s : State} (h : Keeps s0 s) : Completes s0 (execPwrPgHigh s) := by
  unfold execPwrPgHigh
  repeat' first
    | (with_reducible assumption) | intro _ | (with_reducible apply Completes.next) | (with_reducible apply Completes.ite)
    | (with_reducible apply Keeps.ite) | (with_reducible apply Keeps.ite_fst) | (with_reducible apply done_keeps)
    | (with_reducible apply State.putPwr_keeps) | (with_reducible apply State.putBoot_keeps) | extract_lets | split
    | (dsimp -zeta only) | (dsimp +zetaDelta -zeta only)

theorem execPwrPgTimeout_keeps {s0 s : State} (h : Keeps s0 s) : Completes s0 (execPwrPgTimeout s) := by
  unfold execPwrPgTimeout
  repeat' first
    | (with_reducible assumption) | intro _ | (with_reducible apply Completes.next) | (with_reducible apply Completes.ite)
    | (with_reducible apply Keeps.ite) | (with_reducible apply Keeps.ite_fst) | (with_reducible apply done_keeps)
    | (with_reducible apply faultHold_keeps) | (with_reducible apply State.putPwr_keeps)
    | (with_reducible apply State.putBoot_keeps) | extract_lets | split | (dsimp -zeta only) | (dsimp +zetaDelta -zeta only)

theorem execPowerRetryWaitEnd_keeps {s0 s : State} (h : Keeps s0 s) : Completes s0 (execPowerRetryWaitEnd s) := by
  unfold execPowerRetryWaitEnd
  repeat' first
    | (with_reducible assumption) | intro _ | (with_reducible apply Completes.next) | (with_reducible apply Completes.ite)
    | (with_reducible apply Keeps.ite) | (with_reducible apply Keeps.ite_fst) | (with_reducible apply done_keeps)
    | (with_reducible apply State.putPwr_keeps) | (with_reducible apply State.putBoot_keeps) | extract_lets | split
    | (dsimp -zeta only) | (dsimp +zetaDelta -zeta only)

theorem execPwrPgFall_keeps {s0 s : State} (h : Keeps s0 s) : Completes s0 (execPwrPgFall s) := by
  unfold execPwrPgFall
  repeat' first
    | (with_reducible assumption) | intro _ | (with_reducible apply Completes.next) | (with_reducible apply Completes.ite)
    | (with_reducible apply Keeps.ite) | (with_reducible apply Keeps.ite_fst) | (with_reducible apply done_keeps)
    | (with_reducible apply faultHold_keeps) | extract_lets | split | (dsimp -zeta only) | (dsimp +zetaDelta -zeta only)

theorem execPllLock_keeps {s0 s : State} (h : Keeps s0 s) (nLf nRc lag : Nat) : Completes s0 (execPllLock nLf nRc lag s) := by
  unfold execPllLock
  repeat' first
    | (with_reducible assumption) | intro _ | (with_reducible apply Completes.next) | (with_reducible apply Completes.ite)
    | (with_reducible apply Keeps.ite) | (with_reducible apply Keeps.ite_fst) | (with_reducible apply startTimebase_keeps)
    | (with_reducible apply done_keeps) | (with_reducible apply romStart_keeps) | extract_lets | split | (dsimp -zeta only)
    | (dsimp +zetaDelta -zeta only)

theorem execRefclkTimeout_keeps {s0 s : State} (h : Keeps s0 s) (code : Nat) : Completes s0 (execRefclkTimeout code s) := by
  unfold execRefclkTimeout
  repeat' first
    | (with_reducible assumption) | intro _ | (with_reducible apply Completes.next) | (with_reducible apply Completes.ite)
    | (with_reducible apply Keeps.ite) | (with_reducible apply Keeps.ite_fst) | (with_reducible apply done_keeps)
    | (with_reducible apply faultHold_keeps) | (with_reducible apply State.putBoot_keeps) | extract_lets | split
    | (dsimp -zeta only) | (dsimp +zetaDelta -zeta only)

theorem execWarmRstNAssert_keeps {s0 s : State} (h : Keeps s0 s) : Completes s0 (execWarmRstNAssert s) := by
  unfold execWarmRstNAssert
  repeat' first
    | (with_reducible assumption) | intro _ | (with_reducible apply Completes.next) | (with_reducible apply Completes.ite)
    | (with_reducible apply Keeps.ite) | (with_reducible apply Keeps.ite_fst) | (with_reducible apply stopTimebase_keeps)
    | (with_reducible apply endClaim_keeps) | (with_reducible apply done_keeps) | (with_reducible apply State.putBoot_keeps)
    | extract_lets | split | (dsimp -zeta only) | (dsimp +zetaDelta -zeta only)

theorem execWarmRstNRelease_keeps {s0 s : State} (h : Keeps s0 s) : Completes s0 (execWarmRstNRelease s) := by
  unfold execWarmRstNRelease
  repeat' first
    | (with_reducible assumption) | intro _ | (with_reducible apply Completes.next) | (with_reducible apply Completes.ite)
    | (with_reducible apply Keeps.ite) | (with_reducible apply Keeps.ite_fst) | (with_reducible apply done_keeps)
    | (with_reducible apply warmClear_keeps) | extract_lets | split | (dsimp -zeta only) | (dsimp +zetaDelta -zeta only)

theorem execResetCtrlWrite_keeps {s0 s : State} (h : Keeps s0 s) (key : Nat) : Completes s0 (execResetCtrlWrite key s) := by
  unfold execResetCtrlWrite
  repeat' first
    | (with_reducible assumption) | intro _ | (with_reducible apply Completes.next) | (with_reducible apply Completes.ite)
    | (with_reducible apply Keeps.ite) | (with_reducible apply Keeps.ite_fst) | (with_reducible apply done_keeps)
    | (with_reducible apply warmRestart_keeps) | extract_lets | split | (dsimp -zeta only) | (dsimp +zetaDelta -zeta only)

theorem execWarmRestartDelayEnd_keeps {s0 s : State} (h : Keeps s0 s) : Completes s0 (execWarmRestartDelayEnd s) := by
  unfold execWarmRestartDelayEnd
  repeat' first
    | (with_reducible assumption) | intro _ | (with_reducible apply Completes.next) | (with_reducible apply Completes.ite)
    | (with_reducible apply Keeps.ite) | (with_reducible apply Keeps.ite_fst) | (with_reducible apply done_keeps)
    | (with_reducible apply warmClear_keeps) | extract_lets | split | (dsimp -zeta only) | (dsimp +zetaDelta -zeta only)

theorem execComponentLoadDone_keeps {s0 s : State} (h : Keeps s0 s) (readOk : Bool) :
    Completes s0 (execComponentLoadDone readOk s) := by
  unfold execComponentLoadDone
  repeat' first
    | (with_reducible assumption) | intro _ | (with_reducible apply Completes.next) | (with_reducible apply Completes.ite)
    | (with_reducible apply Keeps.ite) | (with_reducible apply Keeps.ite_fst) | (with_reducible apply done_keeps)
    | (with_reducible apply probationFallback_keeps) | (with_reducible apply nextComponent_keeps)
    | (with_reducible apply slotBoots_keeps) | (with_reducible apply slotFails_keeps)
    | (with_reducible apply componentMissing_keeps) | extract_lets | split | (dsimp -zeta only) | (dsimp +zetaDelta -zeta only)

theorem execConfigImageRead_keeps {s0 s : State} (h : Keeps s0 s) (readOk : Bool) (fails : List (Nat × Nat)) :
    Completes s0 (execConfigImageRead readOk fails s) := by
  unfold execConfigImageRead
  repeat' first
    | (with_reducible assumption) | intro _ | (with_reducible apply Completes.next) | (with_reducible apply Completes.ite)
    | (with_reducible apply Keeps.ite) | (with_reducible apply Keeps.ite_fst) | (with_reducible apply done_keeps)
    | (with_reducible apply configFromSlot_keeps) | (with_reducible apply configFromHost_keeps) | extract_lets | split
    | (dsimp -zeta only) | (dsimp +zetaDelta -zeta only)

theorem recoveryAck_keeps {s0 s : State} (h : Keeps s0 s) : Keeps s0 (recoveryAck s) := by
  unfold recoveryAck
  repeat' first
    | (with_reducible assumption) | intro _ | (with_reducible apply State.emit_keeps) | extract_lets | split
    | (dsimp -zeta only) | (dsimp +zetaDelta -zeta only)

theorem recoveryNak_keeps {s0 s : State} (h : Keeps s0 s) (reason : Nat) : Keeps s0 (recoveryNak s reason) := by
  unfold recoveryNak
  repeat' first
    | (with_reducible assumption) | intro _ | (with_reducible apply State.emit_keeps) | extract_lets | split
    | (dsimp -zeta only) | (dsimp +zetaDelta -zeta only)

theorem recoveryBad_keeps {s0 s : State} (h : Keeps s0 s) : Keeps s0 (recoveryBad s) := by
  unfold recoveryBad
  repeat' first
    | (with_reducible assumption) | intro _ | (with_reducible apply recoveryNak_keeps) | (with_reducible apply State.drew_keeps)
    | extract_lets | split | (dsimp -zeta only) | (dsimp +zetaDelta -zeta only)

theorem execRecoveryChunk_keeps {s0 s : State} (h : Keeps s0 s) (frame : List Byte) : Completes s0 (execRecoveryChunk frame s) := by
  unfold execRecoveryChunk
  repeat' first
    | (with_reducible assumption) | intro _ | (with_reducible apply Completes.next) | (with_reducible apply Completes.ite)
    | (with_reducible apply Keeps.ite) | (with_reducible apply Keeps.ite_fst) | (with_reducible apply done_keeps)
    | (with_reducible apply recoveryBad_keeps) | (with_reducible apply recoveryNak_keeps)
    | (with_reducible apply State.putWindow_keeps) | (with_reducible apply recoveryAck_keeps)
    | (with_reducible apply State.putBoot_keeps) | (with_reducible apply cellsWf_nil) | (with_reducible apply flashProgram_wf)
    | (with_reducible apply flashClear_wf) | (with_reducible apply setBytes_wf) | (with_reducible apply cellsWf_filter)
    | (with_reducible apply cellsWf_write) | (with_reducible apply And.intro) | (with_reducible exact wf_regs (by assumption))
    | (with_reducible exact wf_flash (by assumption)) | (with_reducible exact wf_window (by assumption))
    | (with_reducible exact wf_ncs (by assumption)) | (with_reducible exact wf_eht (by assumption))
    | (with_reducible exact wf_hb (by assumption)) | (with_reducible exact wf_shadow (by assumption))
    | (with_reducible exact wf_msix (by assumption)) | (with_reducible exact wf_iram (by assumption))
    | (with_reducible exact wf_dram (by assumption)) | extract_lets | split | (dsimp -zeta only) | (dsimp +zetaDelta -zeta only)

theorem execRecoveryComponentDone_keeps {s0 s : State} (h : Keeps s0 s) (frame : List Byte) :
    Completes s0 (execRecoveryComponentDone frame s) := by
  unfold execRecoveryComponentDone
  repeat' first
    | (with_reducible assumption) | intro _ | (with_reducible apply Completes.next) | (with_reducible apply Completes.ite)
    | (with_reducible apply Keeps.ite) | (with_reducible apply Keeps.ite_fst) | (with_reducible apply done_keeps)
    | (with_reducible apply recoveryBad_keeps) | (with_reducible apply State.putBoot_keeps)
    | (with_reducible apply offerImage_keeps) | (with_reducible apply recoveryAck_keeps)
    | (with_reducible apply recoveryNak_keeps) | (with_reducible refine Keeps.of_pair (by assumption) ?_) | extract_lets | split
    | (dsimp -zeta only) | (dsimp +zetaDelta -zeta only)

theorem execLfclkMeasureDone_keeps {s0 s : State} (h : Keeps s0 s) (cycles : Nat) :
    Completes s0 (execLfclkMeasureDone cycles s) := by
  unfold execLfclkMeasureDone
  repeat' first
    | (with_reducible assumption) | intro _ | (with_reducible apply Completes.next) | (with_reducible apply Completes.ite)
    | (with_reducible apply Keeps.ite) | (with_reducible apply Keeps.ite_fst) | (with_reducible apply done_keeps)
    | (with_reducible apply State.putPwr_keeps) | (with_reducible apply State.set_keeps)
    | (with_reducible apply State.putBoot_keeps) | (with_reducible apply postEvent_keeps) | extract_lets | split
    | (dsimp -zeta only) | (dsimp +zetaDelta -zeta only)

theorem execLfclkAcceptTimeout_keeps {s0 s : State} (h : Keeps s0 s) : Completes s0 (execLfclkAcceptTimeout s) := by
  unfold execLfclkAcceptTimeout
  repeat' first
    | (with_reducible assumption) | intro _ | (with_reducible apply Completes.next) | (with_reducible apply Completes.ite)
    | (with_reducible apply Keeps.ite) | (with_reducible apply Keeps.ite_fst) | (with_reducible apply done_keeps)
    | (with_reducible apply State.reach_keeps) | (with_reducible apply latchFail_keeps) | (with_reducible apply postEvent_keeps)
    | (with_reducible apply State.putBoot_keeps) | extract_lets | split | (dsimp -zeta only) | (dsimp +zetaDelta -zeta only)

theorem execLfclkRemeasureTimer_keeps {s0 s : State} (h : Keeps s0 s) : Completes s0 (execLfclkRemeasureTimer s) := by
  unfold execLfclkRemeasureTimer
  repeat' first
    | (with_reducible assumption) | intro _ | (with_reducible apply Completes.next) | (with_reducible apply Completes.ite)
    | (with_reducible apply Keeps.ite) | (with_reducible apply Keeps.ite_fst) | (with_reducible apply done_keeps)
    | (with_reducible apply State.putBoot_keeps) | extract_lets | split | (dsimp -zeta only) | (dsimp +zetaDelta -zeta only)

theorem execLfclkEdgeLoss_keeps {s0 s : State} (h : Keeps s0 s) : Completes s0 (execLfclkEdgeLoss s) := by
  unfold execLfclkEdgeLoss
  repeat' first
    | (with_reducible assumption) | intro _ | (with_reducible apply Completes.next) | (with_reducible apply Completes.ite)
    | (with_reducible apply Keeps.ite) | (with_reducible apply Keeps.ite_fst) | (with_reducible apply done_keeps)
    | (with_reducible apply latchFail_keeps) | (with_reducible apply State.putPwr_keeps)
    | (with_reducible apply State.set_keeps) | (with_reducible apply State.putBoot_keeps)
    | (with_reducible apply postEvent_keeps) | extract_lets | split | (dsimp -zeta only) | (dsimp +zetaDelta -zeta only)

theorem noteSchedule_keeps {s0 s : State} (h : Keeps s0 s) (key : Nat) : Keeps s0 (noteSchedule s key) := by
  unfold noteSchedule
  repeat' first
    | (with_reducible assumption) | intro _ | (with_reducible apply Keeps.ite) | (with_reducible apply Keeps.ite_fst)
    | (with_reducible apply State.putSched_keeps) | extract_lets | split | (dsimp -zeta only) | (dsimp +zetaDelta -zeta only)

theorem execRtwDataWrite_keeps {s0 s : State} (h : Keeps s0 s) (q : Requester) (v : Nat) :
    Completes s0 (execRtwDataWrite q v s) := by
  unfold execRtwDataWrite
  repeat' first
    | (with_reducible assumption) | intro _ | (with_reducible apply Completes.next) | (with_reducible apply Completes.ite)
    | (with_reducible apply Keeps.ite) | (with_reducible apply Keeps.ite_fst) | (with_reducible apply done_keeps)
    | (with_reducible apply State.set_keeps) | (with_reducible apply noteSchedule_keeps)
    | (with_reducible apply configTaken_keeps) | (with_reducible apply putValues_keeps)
    | (with_reducible apply State.bump_keeps) | extract_lets | split | (dsimp -zeta only) | (dsimp +zetaDelta -zeta only)

theorem execAonFailClear_keeps {s0 s : State} (h : Keeps s0 s) : Completes s0 (execAonFailClear s) := by
  unfold execAonFailClear
  repeat' first
    | (with_reducible assumption) | intro _ | (with_reducible apply Completes.next) | (with_reducible apply Completes.ite)
    | (with_reducible apply Keeps.ite) | (with_reducible apply Keeps.ite_fst) | (with_reducible apply done_keeps)
    | (with_reducible apply State.set_keeps) | extract_lets | split | (dsimp -zeta only) | (dsimp +zetaDelta -zeta only)

theorem postRefresh_keeps {s0 s : State} (h : Keeps s0 s) (comp slot stamp : Nat) : Keeps s0 (postRefresh s comp slot stamp) := by
  unfold postRefresh
  repeat' first
    | (with_reducible assumption) | intro _ | (with_reducible apply postEvent_keeps) | extract_lets | split | (dsimp -zeta only)
    | (dsimp +zetaDelta -zeta only)

theorem refreshSlot_keeps {s0 s : State} (h : Keeps s0 s) (bad : List Nat) (comp : Nat) : Keeps s0 (refreshSlot bad s comp) := by
  unfold refreshSlot
  repeat' first
    | (with_reducible assumption) | intro _ | (with_reducible apply Keeps.ite) | (with_reducible apply Keeps.ite_fst)
    | (with_reducible apply refuseFlash_keeps) | (with_reducible apply countSlotWrite_keeps)
    | (with_reducible apply programSlot_keeps) | (with_reducible apply postRefresh_keeps)
    | (with_reducible apply commitDirectory_keeps) | (with_reducible refine Keeps.of_pair (by assumption) ?_) | extract_lets
    | split | (dsimp -zeta only) | (dsimp +zetaDelta -zeta only)

theorem writeCopy_keeps {s0 s : State} (h : Keeps s0 s) (copy : Nat) (l : List RepairEntry) : Keeps s0 (writeCopy s copy l) := by
  unfold writeCopy
  repeat' first
    | (with_reducible assumption) | intro _ | (with_reducible apply State.emit_keeps)
    | (with_reducible apply State.putFlash_keeps) | (with_reducible apply cellsWf_nil) | (with_reducible apply flashProgram_wf)
    | (with_reducible apply flashClear_wf) | (with_reducible apply setBytes_wf) | (with_reducible apply cellsWf_filter)
    | (with_reducible apply cellsWf_write) | (with_reducible apply And.intro) | (with_reducible exact wf_regs (by assumption))
    | (with_reducible exact wf_flash (by assumption)) | (with_reducible exact wf_window (by assumption))
    | (with_reducible exact wf_ncs (by assumption)) | (with_reducible exact wf_eht (by assumption))
    | (with_reducible exact wf_hb (by assumption)) | (with_reducible exact wf_shadow (by assumption))
    | (with_reducible exact wf_msix (by assumption)) | (with_reducible exact wf_iram (by assumption))
    | (with_reducible exact wf_dram (by assumption)) | extract_lets | split | (dsimp -zeta only) | (dsimp +zetaDelta -zeta only)

theorem refreshCopy_keeps {s0 s : State} (h : Keeps s0 s) (copy : Nat) : Keeps s0 (refreshCopy s copy) := by
  unfold refreshCopy
  repeat' first
    | (with_reducible assumption) | intro _ | (with_reducible apply Keeps.ite) | (with_reducible apply Keeps.ite_fst)
    | (with_reducible apply refuseFlash_keeps) | (with_reducible apply writeCopy_keeps)
    | (with_reducible apply State.putBoot_keeps) | (with_reducible apply postRefresh_keeps)
    | (with_reducible apply Keeps.foldl_fst) | extract_lets | split | (dsimp -zeta only) | (dsimp +zetaDelta -zeta only)

theorem execRetentionRefresh_keeps {s0 s : State} (h : Keeps s0 s) (bad : List Nat) :
    Completes s0 (execRetentionRefresh bad s) := by
  unfold execRetentionRefresh
  repeat' first
    | (with_reducible assumption) | intro _ | (with_reducible apply Completes.next) | (with_reducible apply Completes.ite)
    | (with_reducible apply Keeps.ite) | (with_reducible apply Keeps.ite_fst) | (with_reducible apply done_keeps)
    | (with_reducible apply refreshCopy_keeps) | (with_reducible apply refreshSlot_keeps) | (with_reducible apply Keeps.fold)
    | extract_lets | split | (dsimp -zeta only) | (dsimp +zetaDelta -zeta only)

end Sys2Proof.Machine
end

