-- ==== Sys2Proof/Laws/KeepsTimebase.lean ====
section
/-!
SUPPORT. What the operations of Machine/Timebase.lean keep (`Keeps`).
-/

namespace Sys2Proof.Machine

set_option linter.unusedVariables false
set_option linter.unusedTactic false
set_option linter.unreachableTactic false

theorem execTbIncCommit_keeps {s0 s : State} (h : Keeps s0 s) (q : Requester) (v : Nat) : Completes s0 (execTbIncCommit q v s) := by
  unfold execTbIncCommit
  repeat' first
    | (with_reducible assumption) | intro _ | (with_reducible apply Completes.next) | (with_reducible apply Completes.ite)
    | (with_reducible apply Keeps.ite) | (with_reducible apply Keeps.ite_fst) | (with_reducible apply done_keeps)
    | (with_reducible apply notOwner_keeps) | (with_reducible apply refuseCorrection_keeps)
    | (with_reducible apply State.set_keeps) | (with_reducible apply leaveBridged_keeps) | extract_lets | split
    | (dsimp -zeta only) | (dsimp +zetaDelta -zeta only)

theorem execTbStepCommit_keeps {s0 s : State} (h : Keeps s0 s) (q : Requester) (v : Nat) :
    Completes s0 (execTbStepCommit q v s) := by
  unfold execTbStepCommit
  repeat' first
    | (with_reducible assumption) | intro _ | (with_reducible apply Completes.next) | (with_reducible apply Completes.ite)
    | (with_reducible apply Keeps.ite) | (with_reducible apply Keeps.ite_fst) | (with_reducible apply done_keeps)
    | (with_reducible apply notOwner_keeps) | (with_reducible apply refuseCorrection_keeps)
    | (with_reducible apply State.putTb_keeps) | (with_reducible apply State.setBit_keeps)
    | (with_reducible apply applyStep_keeps) | extract_lets | split | (dsimp -zeta only) | (dsimp +zetaDelta -zeta only)

theorem execTbServoWrite_keeps {s0 s : State} (h : Keeps s0 s) (q : Requester) (v : Nat) :
    Completes s0 (execTbServoWrite q v s) := by
  unfold execTbServoWrite
  repeat' first
    | (with_reducible assumption) | intro _ | (with_reducible apply Completes.next) | (with_reducible apply Completes.ite)
    | (with_reducible apply Keeps.ite) | (with_reducible apply Keeps.ite_fst) | (with_reducible apply done_keeps)
    | (with_reducible apply notOwner_keeps) | (with_reducible apply State.setWord_keeps)
    | (with_reducible apply setQuality_keeps) | extract_lets | split | (dsimp -zeta only) | (dsimp +zetaDelta -zeta only)

theorem execTbNsLoRead_keeps {s0 s : State} (h : Keeps s0 s) (q : Requester) : Completes s0 (execTbNsLoRead q s) := by
  unfold execTbNsLoRead
  repeat' first
    | (with_reducible assumption) | intro _ | (with_reducible apply Completes.next) | (with_reducible apply Completes.ite)
    | (with_reducible apply timersApply_keeps) | (with_reducible apply done_keeps) | (with_reducible apply State.setSnaps_keeps)
    | (with_reducible apply State.answer_keeps) | extract_lets | split | (dsimp -zeta only) | (dsimp +zetaDelta -zeta only)

theorem execAsnLoRead_keeps {s0 s : State} (h : Keeps s0 s) (q : Requester) : Completes s0 (execAsnLoRead q s) := by
  unfold execAsnLoRead
  repeat' first
    | (with_reducible assumption) | intro _ | (with_reducible apply Completes.next) | (with_reducible apply Completes.ite)
    | (with_reducible apply done_keeps) | (with_reducible apply State.setSnaps_keeps)
    | (with_reducible apply State.answer_keeps) | extract_lets | split | (dsimp -zeta only) | (dsimp +zetaDelta -zeta only)

theorem execTsInputEdge_keeps {s0 s : State} (h : Keeps s0 s) (tsi : Nat) (rising : Bool) (width time : Nat) :
    Completes s0 (execTsInputEdge tsi rising width time s) := by
  unfold execTsInputEdge
  repeat' first
    | (with_reducible assumption) | intro _ | (with_reducible apply Completes.next) | (with_reducible apply Completes.ite)
    | (with_reducible apply Keeps.ite) | (with_reducible apply Keeps.ite_fst) | (with_reducible apply done_keeps)
    | (with_reducible apply State.advanceTo_keeps) | (with_reducible apply State.bump_keeps)
    | (with_reducible apply State.putTb_keeps) | (with_reducible apply State.set_keeps)
    | (with_reducible apply State.bumpWrap_keeps) | (with_reducible apply postEvent_keeps) | extract_lets | split
    | (dsimp -zeta only) | (dsimp +zetaDelta -zeta only)

theorem execTsoCtrlWrite_keeps {s0 s : State} (h : Keeps s0 s) (tso v : Nat) : Completes s0 (execTsoCtrlWrite tso v s) := by
  unfold execTsoCtrlWrite
  repeat' first
    | (with_reducible assumption) | intro _ | (with_reducible apply Completes.next) | (with_reducible apply Completes.ite)
    | (with_reducible apply Keeps.ite) | (with_reducible apply Keeps.ite_fst) | (with_reducible apply State.set_keeps)
    | (with_reducible apply done_keeps) | (with_reducible apply armTso_keeps) | (with_reducible apply State.setTso_keeps)
    | (with_reducible apply tsoPassed_keeps) | (with_reducible apply State.setBit_keeps) | extract_lets | split
    | (dsimp -zeta only) | (dsimp +zetaDelta -zeta only)

theorem execTsoTargetCommit_keeps {s0 s : State} (h : Keeps s0 s) (tso v : Nat) : Completes s0 (execTsoTargetCommit tso v s) := by
  unfold execTsoTargetCommit
  repeat' first
    | (with_reducible assumption) | intro _ | (with_reducible apply Completes.next) | (with_reducible apply Completes.ite)
    | (with_reducible apply State.setTso_keeps) | (with_reducible apply done_keeps) | (with_reducible apply tsoPassed_keeps)
    | (with_reducible apply State.set_keeps) | extract_lets | split | (dsimp -zeta only) | (dsimp +zetaDelta -zeta only)

theorem execTsoTargetReached_keeps {s0 s : State} (h : Keeps s0 s) (tso : Nat) : Completes s0 (execTsoTargetReached tso s) := by
  unfold execTsoTargetReached
  repeat' first
    | (with_reducible assumption) | intro _ | (with_reducible apply Completes.next) | (with_reducible apply Completes.ite)
    | (with_reducible apply Keeps.ite) | (with_reducible apply Keeps.ite_fst) | (with_reducible apply State.advanceTo_keeps)
    | (with_reducible apply done_keeps) | (with_reducible apply State.setTso_keeps) | extract_lets | split | (dsimp -zeta only)
    | (dsimp +zetaDelta -zeta only)

theorem execTsoPulseEnd_keeps {s0 s : State} (h : Keeps s0 s) (tso : Nat) : Completes s0 (execTsoPulseEnd tso s) := by
  unfold execTsoPulseEnd
  repeat' first
    | (with_reducible assumption) | intro _ | (with_reducible apply Completes.next) | (with_reducible apply Completes.ite)
    | (with_reducible apply Keeps.ite) | (with_reducible apply Keeps.ite_fst) | (with_reducible apply done_keeps)
    | (with_reducible apply State.advanceTo_keeps) | (with_reducible apply State.setTso_keeps) | extract_lets | split
    | (dsimp -zeta only) | (dsimp +zetaDelta -zeta only)

theorem execTimeErrSecond_keeps {s0 s : State} (h : Keeps s0 s) : Completes s0 (execTimeErrSecond s) := by
  unfold execTimeErrSecond
  repeat' first
    | (with_reducible assumption) | intro _ | (with_reducible apply Completes.next) | (with_reducible apply Completes.ite)
    | (with_reducible apply Keeps.ite) | (with_reducible apply Keeps.ite_fst) | (with_reducible apply done_keeps)
    | (with_reducible apply State.bumpBy_keeps) | extract_lets | split | (dsimp -zeta only) | (dsimp +zetaDelta -zeta only)

theorem execRatioMeasureDone_keeps {s0 s : State} (h : Keeps s0 s) (rc : Bool) (ns : Nat) :
    Completes s0 (execRatioMeasureDone rc ns s) := by
  unfold execRatioMeasureDone
  repeat' first
    | (with_reducible assumption) | intro _ | (with_reducible apply Completes.next) | (with_reducible apply Completes.ite)
    | (with_reducible apply Keeps.ite) | (with_reducible apply Keeps.ite_fst) | (with_reducible apply done_keeps)
    | (with_reducible apply State.set_keeps) | extract_lets | split | (dsimp -zeta only) | (dsimp +zetaDelta -zeta only)

theorem execGtMatch_keeps {s0 s : State} (h : Keeps s0 s) (gt : Nat) : Completes s0 (execGtMatch gt s) := by
  unfold execGtMatch
  repeat' first
    | (with_reducible assumption) | intro _ | (with_reducible apply Completes.next) | (with_reducible apply Completes.ite)
    | (with_reducible apply Keeps.ite) | (with_reducible apply Keeps.ite_fst) | (with_reducible apply done_keeps)
    | (with_reducible apply gtOnto_keeps) | extract_lets | split | (dsimp -zeta only) | (dsimp +zetaDelta -zeta only)

theorem execGtWrap_keeps {s0 s : State} (h : Keeps s0 s) (gt : Nat) : Completes s0 (execGtWrap gt s) := by
  unfold execGtWrap
  repeat' first
    | (with_reducible assumption) | intro _ | (with_reducible apply Completes.next) | (with_reducible apply Completes.ite)
    | (with_reducible apply Keeps.ite) | (with_reducible apply Keeps.ite_fst) | (with_reducible apply done_keeps)
    | (with_reducible apply gtOnto_keeps) | extract_lets | split | (dsimp -zeta only) | (dsimp +zetaDelta -zeta only)

theorem execGtCapture_keeps {s0 s : State} (h : Keeps s0 s) (gt : Nat) (rising : Bool) :
    Completes s0 (execGtCapture gt rising s) := by
  unfold execGtCapture
  repeat' first
    | (with_reducible assumption) | intro _ | (with_reducible apply Completes.next) | (with_reducible apply Completes.ite)
    | (with_reducible apply Keeps.ite) | (with_reducible apply Keeps.ite_fst) | (with_reducible apply done_keeps)
    | (with_reducible apply State.setGt_keeps) | (with_reducible apply gtTake_keeps) | extract_lets | split | (dsimp -zeta only)
    | (dsimp +zetaDelta -zeta only)

theorem execGtRegisterApply_keeps {s0 s : State} (h : Keeps s0 s) (gt : Nat) : Completes s0 (execGtRegisterApply gt s) := by
  unfold execGtRegisterApply
  repeat' first
    | (with_reducible assumption) | intro _ | (with_reducible apply Completes.next) | (with_reducible apply Completes.ite)
    | (with_reducible apply Keeps.ite) | (with_reducible apply Keeps.ite_fst) | (with_reducible apply done_keeps)
    | (with_reducible apply gtApply_keeps) | (with_reducible apply State.putTb_keeps) | extract_lets | split
    | (dsimp -zeta only) | (dsimp +zetaDelta -zeta only)

theorem execGtCntLoRead_keeps {s0 s : State} (h : Keeps s0 s) (q : Requester) (gt : Nat) :
    Completes s0 (execGtCntLoRead q gt s) := by
  unfold execGtCntLoRead
  repeat' first
    | (with_reducible assumption) | intro _ | (with_reducible apply Completes.next) | (with_reducible apply Completes.ite)
    | (with_reducible apply Keeps.ite) | (with_reducible apply Keeps.ite_fst) | (with_reducible apply timersApply_keeps)
    | (with_reducible apply done_keeps) | (with_reducible apply State.setSnaps_keeps)
    | (with_reducible apply State.answer_keeps) | extract_lets | split | (dsimp -zeta only) | (dsimp +zetaDelta -zeta only)

end Sys2Proof.Machine
end

