-- ==== Sys2Proof/Laws/KeepsUpdate.lean ====
section
/-!
SUPPORT. What the operations of Machine/Update.lean keep (`Keeps`).
-/

namespace Sys2Proof.Machine

set_option linter.unusedVariables false
set_option linter.unusedTactic false
set_option linter.unreachableTactic false

theorem updateCommand_keeps {s0 s : State} (h : Keeps s0 s) (q : Requester) (f : State → State)
    (hf : ∀ t, Keeps s0 t → Keeps s0 (f t)) : Keeps s0 (updateCommand s q f) := by
  unfold updateCommand
  repeat' first
    | (with_reducible assumption) | intro _ | (with_reducible apply Keeps.ite) | (with_reducible apply hf)
    | (with_reducible apply badUpdate_keeps) | extract_lets | split | (dsimp -zeta only)

theorem execUpdStage_keeps {s0 s : State} (h : Keeps s0 s) (q : Requester) (comp : Nat) : Completes s0 (execUpdStage q comp s) := by
  unfold execUpdStage
  repeat' first
    | (with_reducible assumption) | intro _ | (with_reducible apply Completes.next) | (with_reducible apply Completes.ite)
    | (with_reducible apply Keeps.ite) | (with_reducible apply Keeps.ite_fst) | (with_reducible apply done_keeps)
    | (with_reducible apply updateCommand_keeps) | (with_reducible apply updResult_keeps)
    | (with_reducible apply stageImage_keeps) | extract_lets | split | (dsimp -zeta only) | (dsimp +zetaDelta -zeta only)

theorem execStageWriteDone_keeps {s0 s : State} (h : Keeps s0 s) (readOk : Bool) : Completes s0 (execStageWriteDone readOk s) := by
  unfold execStageWriteDone
  repeat' first
    | (with_reducible assumption) | intro _ | (with_reducible apply Completes.next) | (with_reducible apply Completes.ite)
    | (with_reducible apply Keeps.ite) | (with_reducible apply Keeps.ite_fst) | (with_reducible apply done_keeps)
    | (with_reducible apply stageEnds_keeps) | extract_lets | split | (dsimp -zeta only) | (dsimp +zetaDelta -zeta only)

theorem execUpdActivate_keeps {s0 s : State} (h : Keeps s0 s) (q : Requester) (swap : Bool) :
    Completes s0 (execUpdActivate q swap s) := by
  unfold execUpdActivate
  repeat' first
    | (with_reducible assumption) | intro _ | (with_reducible apply Completes.next) | (with_reducible apply Completes.ite)
    | (with_reducible apply Keeps.ite) | (with_reducible apply Keeps.ite_fst) | (with_reducible apply done_keeps)
    | (with_reducible apply updateCommand_keeps) | (with_reducible apply activate_keeps)
    | (with_reducible apply updResult_keeps) | extract_lets | split | (dsimp -zeta only) | (dsimp +zetaDelta -zeta only)

theorem execUpdReject_keeps {s0 s : State} (h : Keeps s0 s) (q : Requester) : Completes s0 (execUpdReject q s) := by
  unfold execUpdReject
  repeat' first
    | (with_reducible assumption) | intro _ | (with_reducible apply Completes.next) | (with_reducible apply Completes.ite)
    | (with_reducible apply Keeps.ite) | (with_reducible apply Keeps.ite_fst) | (with_reducible apply done_keeps)
    | (with_reducible apply updateCommand_keeps) | (with_reducible apply updResult_keeps)
    | (with_reducible apply healthFails_keeps) | extract_lets | split | (dsimp -zeta only) | (dsimp +zetaDelta -zeta only)

theorem execUpdAbort_keeps {s0 s : State} (h : Keeps s0 s) (q : Requester) : Completes s0 (execUpdAbort q s) := by
  unfold execUpdAbort
  repeat' first
    | (with_reducible assumption) | intro _ | (with_reducible apply Completes.next) | (with_reducible apply Completes.ite)
    | (with_reducible apply Keeps.ite) | (with_reducible apply Keeps.ite_fst) | (with_reducible apply done_keeps)
    | (with_reducible apply updateCommand_keeps) | (with_reducible apply slotChange_keeps) | (with_reducible apply setUpd_keeps)
    | (with_reducible apply updResult_keeps) | extract_lets | split | (dsimp -zeta only) | (dsimp +zetaDelta -zeta only)

theorem execUpdBootLoad_keeps {s0 s : State} (h : Keeps s0 s) (q : Requester) (comp : Nat) :
    Completes s0 (execUpdBootLoad q comp s) := by
  unfold execUpdBootLoad
  repeat' first
    | (with_reducible assumption) | intro _ | (with_reducible apply Completes.next) | (with_reducible apply Completes.ite)
    | (with_reducible apply Keeps.ite) | (with_reducible apply Keeps.ite_fst) | (with_reducible apply done_keeps)
    | (with_reducible apply badUpdate_keeps) | (with_reducible apply updResult_keeps) | (with_reducible apply offerImage_keeps)
    | (with_reducible apply State.set_keeps) | (with_reducible refine Keeps.of_pair (by assumption) ?_) | extract_lets | split
    | (dsimp -zeta only) | (dsimp +zetaDelta -zeta only)

theorem execUpdActivateAtRestart_keeps {s0 s : State} (h : Keeps s0 s) (q : Requester) :
    Completes s0 (execUpdActivateAtRestart q s) := by
  unfold execUpdActivateAtRestart
  repeat' first
    | (with_reducible assumption) | intro _ | (with_reducible apply Completes.next) | (with_reducible apply Completes.ite)
    | (with_reducible apply Keeps.ite) | (with_reducible apply Keeps.ite_fst) | (with_reducible apply done_keeps)
    | (with_reducible apply updateCommand_keeps) | (with_reducible apply activateChange_keeps)
    | (with_reducible apply updResult_keeps) | (with_reducible apply State.putUpd_keeps) | extract_lets | split
    | (dsimp -zeta only) | (dsimp +zetaDelta -zeta only)

theorem execCoreHandoverDone_keeps {s0 s : State} (h : Keeps s0 s) (core : Nat) : Completes s0 (execCoreHandoverDone core s) := by
  unfold execCoreHandoverDone
  repeat' first
    | (with_reducible assumption) | intro _ | (with_reducible apply Completes.next) | (with_reducible apply Completes.ite)
    | (with_reducible apply Keeps.ite) | (with_reducible apply Keeps.ite_fst) | (with_reducible apply done_keeps)
    | (with_reducible apply setCpu_keeps) | (with_reducible apply State.putUpd_keeps) | extract_lets | split
    | (dsimp -zeta only) | (dsimp +zetaDelta -zeta only)

theorem execCoreHandoverTimeout_keeps {s0 s : State} (h : Keeps s0 s) (core : Nat) :
    Completes s0 (execCoreHandoverTimeout core s) := by
  unfold execCoreHandoverTimeout
  repeat' first
    | (with_reducible assumption) | intro _ | (with_reducible apply Completes.next) | (with_reducible apply Completes.ite)
    | (with_reducible apply Keeps.ite) | (with_reducible apply Keeps.ite_fst) | (with_reducible apply fallBack_keeps)
    | (with_reducible apply done_keeps) | (with_reducible apply startPlanned_keeps) | (with_reducible apply warmRestart_keeps)
    | extract_lets | split | (dsimp -zeta only) | (dsimp +zetaDelta -zeta only)

theorem execHandoverComplete_keeps {s0 s : State} (h : Keeps s0 s) (fails : List (Nat × Nat)) :
    Completes s0 (execHandoverComplete fails s) := by
  unfold execHandoverComplete
  repeat' first
    | (with_reducible assumption) | intro _ | (with_reducible apply Completes.next) | (with_reducible apply Completes.ite)
    | (with_reducible apply Keeps.ite) | (with_reducible apply Keeps.ite_fst) | (with_reducible apply done_keeps)
    | (with_reducible apply endHandover_keeps) | extract_lets | split | (dsimp -zeta only) | (dsimp +zetaDelta -zeta only)

theorem execConfigLiveApply_keeps {s0 s : State} (h : Keeps s0 s) : Completes s0 (execConfigLiveApply s) := by
  unfold execConfigLiveApply
  repeat' first
    | (with_reducible assumption) | intro _ | (with_reducible apply Completes.next) | (with_reducible apply Completes.ite)
    | (with_reducible apply Keeps.ite) | (with_reducible apply Keeps.ite_fst) | (with_reducible apply State.advanceTo_keeps)
    | (with_reducible apply done_keeps) | (with_reducible apply liveApply_keeps) | extract_lets | split | (dsimp -zeta only)
    | (dsimp +zetaDelta -zeta only)

theorem execUpdConfirmWrite_keeps {s0 s : State} (h : Keeps s0 s) (q : Requester) (key comp : Nat) :
    Completes s0 (execUpdConfirmWrite q key comp s) := by
  unfold execUpdConfirmWrite
  repeat' first
    | (with_reducible assumption) | intro _ | (with_reducible apply Completes.next) | (with_reducible apply Completes.ite)
    | (with_reducible apply Keeps.ite) | (with_reducible apply Keeps.ite_fst) | (with_reducible apply done_keeps)
    | (with_reducible apply State.bump_keeps) | (with_reducible apply confirmProbation_keeps) | extract_lets | split
    | (dsimp -zeta only) | (dsimp +zetaDelta -zeta only)

theorem execProbationExpiry_keeps {s0 s : State} (h : Keeps s0 s) : Completes s0 (execProbationExpiry s) := by
  unfold execProbationExpiry
  repeat' first
    | (with_reducible assumption) | intro _ | (with_reducible apply Completes.next) | (with_reducible apply Completes.ite)
    | (with_reducible apply Keeps.ite) | (with_reducible apply Keeps.ite_fst) | (with_reducible apply done_keeps)
    | (with_reducible apply beginFallback_keeps) | (with_reducible apply State.reach_keeps) | extract_lets | split
    | (dsimp -zeta only) | (dsimp +zetaDelta -zeta only)

theorem execUpdCfgseqLoRead_keeps {s0 s : State} (h : Keeps s0 s) (q : Requester) : Completes s0 (execUpdCfgseqLoRead q s) := by
  unfold execUpdCfgseqLoRead
  repeat' first
    | (with_reducible assumption) | intro _ | (with_reducible apply Completes.next) | (with_reducible apply Completes.ite)
    | (with_reducible apply Keeps.ite) | (with_reducible apply Keeps.ite_fst) | (with_reducible apply done_keeps)
    | (with_reducible apply State.setSnaps_keeps) | (with_reducible apply State.answer_keeps) | extract_lets | split
    | (dsimp -zeta only) | (dsimp +zetaDelta -zeta only)

end Sys2Proof.Machine
end

