-- ==== Sys2Proof/Laws/KeepsRegisterAccess.lean ====
section
/-!
SUPPORT. What the operations of Machine/RegisterAccess.lean keep (`Keeps`).
-/

namespace Sys2Proof.Machine

set_option linter.unusedVariables false
set_option linter.unusedTactic false
set_option linter.unreachableTactic false

theorem settled_keeps {s0 s : State} {o : Host.Outcome State Fault Refusal} (h : Completes s0 o) : Keeps s0 (settled s o) := by
  obtain ⟨t, rfl, ht⟩ := h
  exact ht

theorem opRefused_keeps {s0 s : State} (h : Keeps s0 s) (q : Requester) (op : Nat) (f : Fld) (result : Nat) :
    Keeps s0 (opRefused s q op f result) := by
  unfold opRefused
  repeat' first
    | (with_reducible assumption) | intro _ | (with_reducible apply Keeps.ite) | (with_reducible apply Keeps.ite_fst)
    | (with_reducible apply State.set_keeps) | extract_lets | split | (dsimp -zeta only) | (dsimp +zetaDelta -zeta only)

theorem writeTableCommand_keeps {s0 s : State} (h : Keeps s0 s) (q : Requester) (off v : Nat) :
    OptKeeps s0 (writeTableCommand s q off v) := by
  unfold writeTableCommand
  repeat' first
    | (with_reducible assumption) | intro _ | (with_reducible apply OptKeeps.ite) | (with_reducible apply OptKeeps.some)
    | (with_reducible apply OptKeeps.none) | (with_reducible apply OptKeeps.map) | (with_reducible apply Keeps.ite)
    | (with_reducible apply Keeps.ite_fst) | (with_reducible apply settled_keeps)
    | (with_reducible apply execWakeSetTarget_keeps) | (with_reducible apply execWakeResetModel_keeps)
    | (with_reducible apply execImapRateChange_keeps) | (with_reducible apply execImapClear_keeps)
    | (with_reducible apply execImapResend_keeps) | (with_reducible apply execNcsRead_keeps)
    | (with_reducible apply execNcsMaskedWrite_keeps) | (with_reducible apply execNcsZeroLine_keeps)
    | (with_reducible apply execNcsBulkClear_keeps) | (with_reducible apply opRefused_keeps)
    | (with_reducible apply execEhtLookup_keeps) | (with_reducible apply execEhtInsert_keeps)
    | (with_reducible apply execEhtDelete_keeps) | (with_reducible apply execHbRead_keeps)
    | (with_reducible apply execHbInvalidate_keeps) | extract_lets | split | (dsimp -zeta only) | (dsimp +zetaDelta -zeta only)

theorem writeSigned_keeps {s0 s : State} (h : Keeps s0 s) (q : Requester) : Keeps s0 (writeSigned s q) := by
  unfold writeSigned
  repeat' first
    | (with_reducible assumption) | intro _ | (with_reducible apply Keeps.ite) | (with_reducible apply Keeps.ite_fst)
    | (with_reducible apply startCommand_keeps) | (with_reducible apply setResult_keeps)
    | (with_reducible apply State.bump_keeps) | extract_lets | split | (dsimp -zeta only) | (dsimp +zetaDelta -zeta only)

theorem writeCommand_keeps {s0 s : State} (h : Keeps s0 s) (q : Requester) (off v : Nat) (fails : List (Nat × Nat)) (data : List Byte) :
    OptKeeps s0 (writeCommand s q off v fails data) := by
  unfold writeCommand
  repeat' first
    | (with_reducible assumption) | intro _ | (with_reducible apply OptKeeps.ite) | (with_reducible apply OptKeeps.some)
    | (with_reducible apply OptKeeps.none) | (with_reducible apply OptKeeps.map) | (with_reducible apply Keeps.ite)
    | (with_reducible apply Keeps.ite_fst) | (with_reducible apply settled_keeps)
    | (with_reducible apply execSnapshotExport_keeps) | (with_reducible apply execSnapshotRestore_keeps)
    | (with_reducible apply execSnapshotAbort_keeps) | (with_reducible apply execSecAttest_keeps)
    | (with_reducible apply execSecSelftestAll_keeps) | (with_reducible apply writeSigned_keeps)
    | (with_reducible apply execSecSelftestKind_keeps) | (with_reducible apply execPairPlannedSwitchover_keeps)
    | (with_reducible apply execPairRestartResync_keeps) | (with_reducible apply execPairHold_keeps)
    | (with_reducible apply execPairResume_keeps) | (with_reducible apply execMiApplyRepairs_keeps)
    | (with_reducible apply execMiScrubNow_keeps) | (with_reducible apply execUpdStage_keeps)
    | (with_reducible apply execUpdActivate_keeps) | (with_reducible apply execUpdReject_keeps)
    | (with_reducible apply execUpdAbort_keeps) | (with_reducible apply execUpdBootLoad_keeps)
    | (with_reducible apply execUpdActivateAtRestart_keeps) | (with_reducible apply execPwrCmdSepia_keeps)
    | (with_reducible apply execPwrCmdUmber_keeps) | extract_lets | split | (dsimp -zeta only) | (dsimp +zetaDelta -zeta only)

theorem writeSingle_keeps {s0 s : State} (h : Keeps s0 s) (q : Requester) (off v : Nat) : OptKeeps s0 (writeSingle s q off v) := by
  unfold writeSingle
  repeat' first
    | (with_reducible assumption) | intro _ | (with_reducible apply OptKeeps.ite) | (with_reducible apply OptKeeps.some)
    | (with_reducible apply OptKeeps.none) | (with_reducible apply OptKeeps.map) | (with_reducible apply Keeps.ite)
    | (with_reducible apply Keeps.ite_fst) | (with_reducible apply settled_keeps)
    | (with_reducible apply execResetCtrlWrite_keeps) | (with_reducible apply execAonFailClear_keeps)
    | (with_reducible apply execRtwDataWrite_keeps) | (with_reducible apply execOscManWrite_keeps)
    | (with_reducible apply execPwrLevelWrite_keeps) | (with_reducible apply writePlain_keeps)
    | (with_reducible apply execJesdArm_keeps) | (with_reducible apply ownerWrite_keeps)
    | (with_reducible apply State.putTb_keeps) | (with_reducible apply execTbIncCommit_keeps)
    | (with_reducible apply execTbStepCommit_keeps) | (with_reducible apply execTbServoWrite_keeps)
    | (with_reducible apply State.set_keeps) | (with_reducible apply execPairKeepWrite_keeps)
    | (with_reducible apply execMiFlipWrite_keeps) | (with_reducible apply execAppHold_keeps)
    | (with_reducible apply execAppRelease_keeps) | (with_reducible apply execAppWdogKick_keeps)
    | (with_reducible apply execMbTxPush_keeps) | (with_reducible apply execMbRxPop_keeps)
    | (with_reducible apply execGpioSetWrite_keeps) | (with_reducible apply execGpioClrWrite_keeps)
    | (with_reducible apply execAicEoiWrite_keeps) | (with_reducible apply execAicGdisWrite_keeps)
    | (with_reducible apply execAicSwiWrite_keeps) | (with_reducible apply writeProb_keeps)
    | (with_reducible apply execUpdConfirmWrite_keeps) | extract_lets | split | (dsimp -zeta only)
    | (dsimp +zetaDelta -zeta only)

theorem writeCalReq_keeps {s0 s : State} (h : Keeps s0 s) (n v : Nat) : Keeps s0 (writeCalReq s n v) := by
  unfold writeCalReq
  repeat' first
    | (with_reducible assumption) | intro _ | (with_reducible apply settled_keeps) | (with_reducible apply execCalCancel_keeps)
    | (with_reducible apply execCalImage_keeps) | (with_reducible apply execCalAnalogFilter_keeps)
    | (with_reducible apply execCalAnalogDc_keeps) | (with_reducible apply execCalTxIqLo_keeps)
    | (with_reducible apply execCalFull_keeps) | (with_reducible apply execCalSelfTest_keeps) | extract_lets | split
    | (dsimp -zeta only) | (dsimp +zetaDelta -zeta only)

theorem writeRing_keeps {s0 s : State} (h : Keeps s0 s) (q : Requester) (n sub off v : Nat) :
    Keeps s0 (writeRing s q n sub off v) := by
  unfold writeRing
  repeat' first
    | (with_reducible assumption) | intro _ | (with_reducible apply settled_keeps)
    | (with_reducible apply execEvrCtrlWrite_keeps) | (with_reducible apply execEvrBaseWrite_keeps)
    | (with_reducible apply execEvrConsWrite_keeps) | (with_reducible apply writePlain_keeps) | extract_lets | split
    | (dsimp -zeta only) | (dsimp +zetaDelta -zeta only)

theorem writeHostQueue_keeps {s0 s : State} (h : Keeps s0 s) (q : Requester) (n sub off v : Nat) :
    Keeps s0 (writeHostQueue s q n sub off v) := by
  unfold writeHostQueue
  repeat' first
    | (with_reducible assumption) | intro _ | (with_reducible apply settled_keeps)
    | (with_reducible apply execHqCtrlWrite_keeps) | (with_reducible apply writeHqBase_keeps)
    | (with_reducible apply execHqTailWrite_keeps) | (with_reducible apply writePlain_keeps) | extract_lets | split
    | (dsimp -zeta only) | (dsimp +zetaDelta -zeta only)

theorem writeTso_keeps {s0 s : State} (h : Keeps s0 s) (q : Requester) (n sub off v : Nat) :
    Keeps s0 (writeTso s q n sub off v) := by
  unfold writeTso
  repeat' first
    | (with_reducible assumption) | intro _ | (with_reducible apply settled_keeps)
    | (with_reducible apply execTsoCtrlWrite_keeps) | (with_reducible apply State.set_keeps)
    | (with_reducible apply State.setTso_keeps) | (with_reducible apply execTsoTargetCommit_keeps)
    | (with_reducible apply writePlain_keeps) | extract_lets | split | (dsimp -zeta only) | (dsimp +zetaDelta -zeta only)

theorem writeArray_keeps {s0 s : State} (h : Keeps s0 s) (q : Requester) (off v : Nat) : OptKeeps s0 (writeArray s q off v) := by
  unfold writeArray
  repeat' first
    | (with_reducible assumption) | intro _ | (with_reducible apply OptKeeps.ite) | (with_reducible apply OptKeeps.some)
    | (with_reducible apply OptKeeps.none) | (with_reducible apply OptKeeps.map) | (with_reducible apply Keeps.ite)
    | (with_reducible apply Keeps.ite_fst) | (with_reducible apply writeRing_keeps)
    | (with_reducible apply writeHostQueue_keeps) | (with_reducible apply writeTso_keeps) | (with_reducible apply gtPost_keeps)
    | (with_reducible apply writeCalReq_keeps) | (with_reducible apply settled_keeps)
    | (with_reducible apply execPathSchedWrite_keeps) | (with_reducible apply execQueueTestForce_keeps)
    | (with_reducible apply execInfraEntryWrite_keeps) | (with_reducible apply writeGpioCfg_keeps)
    | (with_reducible apply execAicEnWrite_keeps) | (with_reducible apply writeAicSrc_keeps) | extract_lets | split
    | (dsimp -zeta only) | (dsimp +zetaDelta -zeta only)

theorem writeSpecial_keeps {s0 s : State} (h : Keeps s0 s) (q : Requester) (off v : Nat) (fails : List (Nat × Nat)) (data : List Byte) :
    OptKeeps s0 (writeSpecial s q off v fails data) := by
  unfold writeSpecial
  repeat' first
    | (with_reducible assumption) | intro _ | (with_reducible apply OptKeeps.ite) | (with_reducible apply OptKeeps.some)
    | (with_reducible apply OptKeeps.none) | (with_reducible apply OptKeeps.map) | (with_reducible apply writeSingle_keeps)
    | (with_reducible apply writeCommand_keeps) | (with_reducible apply writeTableCommand_keeps)
    | (with_reducible apply writeArray_keeps) | (with_reducible apply writeMsix_keeps)
    | (with_reducible apply State.putWindow_keeps) | (with_reducible refine OptKeeps.get ?_ (by assumption))
    | (with_reducible apply cellsWf_nil) | (with_reducible apply flashProgram_wf) | (with_reducible apply flashClear_wf)
    | (with_reducible apply setBytes_wf) | (with_reducible apply cellsWf_filter) | (with_reducible apply cellsWf_write)
    | (with_reducible apply And.intro) | (with_reducible exact wf_regs (by assumption))
    | (with_reducible exact wf_flash (by assumption)) | (with_reducible exact wf_window (by assumption))
    | (with_reducible exact wf_ncs (by assumption)) | (with_reducible exact wf_eht (by assumption))
    | (with_reducible exact wf_hb (by assumption)) | (with_reducible exact wf_shadow (by assumption))
    | (with_reducible exact wf_msix (by assumption)) | (with_reducible exact wf_iram (by assumption))
    | (with_reducible exact wf_dram (by assumption)) | extract_lets | split | (dsimp -zeta only) | (dsimp +zetaDelta -zeta only)

theorem writeRegister_keeps {s0 s : State} (h : Keeps s0 s) (q : Requester) (off v : Nat) (fails : List (Nat × Nat)) (data : List Byte) :
    Keeps s0 (writeRegister s q off v fails data) := by
  unfold writeRegister
  repeat' first
    | (with_reducible assumption) | intro _ | (with_reducible apply writeSpecial_keeps)
    | (with_reducible apply writePlain_keeps) | (with_reducible refine OptKeeps.get ?_ (by assumption)) | extract_lets | split
    | (dsimp -zeta only) | (dsimp +zetaDelta -zeta only)

theorem writeWord_keeps {s0 s : State} (h : Keeps s0 s) (q : Requester) (off v : Nat) (fails : List (Nat × Nat)) (data : List Byte) :
    Keeps s0 (writeWord s q off v fails data) := by
  unfold writeWord
  repeat' first
    | (with_reducible assumption) | intro _ | (with_reducible apply Keeps.ite) | (with_reducible apply Keeps.ite_fst)
    | (with_reducible apply State.bump_keeps) | (with_reducible apply writeRegister_keeps) | extract_lets | split
    | (dsimp -zeta only) | (dsimp +zetaDelta -zeta only)

theorem execRegisterWrite_keeps {s0 s : State} (h : Keeps s0 s) (q : Requester) (off size v : Nat) (poisoned : Bool) (fails : List (Nat × Nat)) (data : List Byte) :
    Completes s0 (execRegisterWrite q off size v poisoned fails data s) := by
  unfold execRegisterWrite
  repeat' first
    | (with_reducible assumption) | intro _ | (with_reducible apply Completes.next) | (with_reducible apply Completes.ite)
    | (with_reducible apply Keeps.ite) | (with_reducible apply Keeps.ite_fst) | (with_reducible apply done_keeps)
    | (with_reducible apply State.bump_keeps) | (with_reducible apply writeWord_keeps)
    | (with_reducible apply countNarrow_keeps) | (with_reducible apply Keeps.fold) | extract_lets | split | (dsimp -zeta only)
    | (dsimp +zetaDelta -zeta only)

theorem readSpecial_keeps {s0 s : State} (h : Keeps s0 s) (q : Requester) (off : Nat) : OptKeeps s0 (readSpecial s q off) := by
  unfold readSpecial
  repeat' first
    | (with_reducible assumption) | intro _ | (with_reducible apply OptKeeps.ite) | (with_reducible apply OptKeeps.some)
    | (with_reducible apply OptKeeps.none) | (with_reducible apply OptKeeps.map) | (with_reducible apply Keeps.ite)
    | (with_reducible apply Keeps.ite_fst) | (with_reducible apply settled_keeps) | (with_reducible apply execAsnLoRead_keeps)
    | (with_reducible apply snapAnswer_keeps) | (with_reducible apply execTbNsLoRead_keeps)
    | (with_reducible apply execUpdCfgseqLoRead_keeps) | (with_reducible apply execAicClaimRead_keeps)
    | (with_reducible apply readTsi_keeps) | (with_reducible apply readGtHigh_keeps)
    | (with_reducible apply execGtCntLoRead_keeps) | (with_reducible apply readGtCap_keeps) | extract_lets | split
    | (dsimp -zeta only) | (dsimp +zetaDelta -zeta only)

theorem beforeRead_keeps {s0 s : State} (h : Keeps s0 s) (off : Nat) : Keeps s0 (beforeRead s off) := by
  unfold beforeRead
  repeat' first
    | (with_reducible assumption) | intro _ | (with_reducible apply Keeps.ite) | (with_reducible apply Keeps.ite_fst)
    | (with_reducible apply timersApply_keeps) | (with_reducible apply closeWindow_keeps)
    | (with_reducible apply aicUpdate_keeps) | extract_lets | split | (dsimp -zeta only) | (dsimp +zetaDelta -zeta only)

theorem readWord_keeps {s0 s : State} (h : Keeps s0 s) (q : Requester) (off : Nat) : Keeps s0 (readWord s q off) := by
  unfold readWord
  repeat' first
    | (with_reducible assumption) | intro _ | (with_reducible apply Keeps.ite) | (with_reducible apply Keeps.ite_fst)
    | (with_reducible apply State.answer_keeps) | (with_reducible apply beforeRead_keeps)
    | (with_reducible apply readSpecial_keeps) | (with_reducible apply afterRead_keeps)
    | (with_reducible refine OptKeeps.get ?_ (by assumption)) | extract_lets | split | (dsimp -zeta only)
    | (dsimp +zetaDelta -zeta only)

theorem readWords_keeps {s0 : State} (q : Requester) :
    ∀ (l : List (Nat × Bool)) (i acc : Nat) {s : State}, Keeps s0 s → Keeps s0 (readWords q l i acc s).1
  | [], _, _, _, h => h
  | _ :: l, _, _, _, h => readWords_keeps q l _ _ (readWord_keeps h q _)

theorem execCounterReadClear_keeps {s0 s : State} (h : Keeps s0 s) (q : Requester) (off size : Nat) :
    Completes s0 (execCounterReadClear q off size s) := by
  unfold execCounterReadClear
  repeat' first
    | (with_reducible assumption) | intro _ | (with_reducible apply Completes.next) | (with_reducible apply Completes.ite)
    | (with_reducible apply Keeps.ite) | (with_reducible apply Keeps.ite_fst) | (with_reducible apply done_keeps)
    | (with_reducible apply readWords_keeps) | (with_reducible apply State.answer_keeps) | extract_lets | split
    | (dsimp -zeta only) | (dsimp +zetaDelta -zeta only)

end Sys2Proof.Machine
end

