-- ==== Sys2Proof/Laws/State.lean ====
section
/-!
SUPPORT. One lemma per field per update of the state, each true by `rfl`, so that no proof unfolds a record update.
-/

namespace Sys2Proof.Machine

variable (s : State)

/-! ## `putRegs` -/

@[simp] theorem State.putRegs_part (x : RegFile) : (s.putRegs x).part = s.part := rfl
@[simp] theorem State.putRegs_regs (x : RegFile) : (s.putRegs x).regs = x := rfl
@[simp] theorem State.putRegs_boot (x : RegFile) : (s.putRegs x).boot = s.boot := rfl
@[simp] theorem State.putRegs_flash (x : RegFile) : (s.putRegs x).flash = s.flash := rfl
@[simp] theorem State.putRegs_flashSize (x : RegFile) : (s.putRegs x).flashSize = s.flashSize := rfl
@[simp] theorem State.putRegs_window (x : RegFile) : (s.putRegs x).window = s.window := rfl
@[simp] theorem State.putRegs_otp (x : RegFile) : (s.putRegs x).otp = s.otp := rfl
@[simp] theorem State.putRegs_ev (x : RegFile) : (s.putRegs x).ev = s.ev := rfl
@[simp] theorem State.putRegs_pcie (x : RegFile) : (s.putRegs x).pcie = s.pcie := rfl
@[simp] theorem State.putRegs_hqs (x : RegFile) : (s.putRegs x).hqs = s.hqs := rfl
@[simp] theorem State.putRegs_paths (x : RegFile) : (s.putRegs x).paths = s.paths := rfl
@[simp] theorem State.putRegs_jesd (x : RegFile) : (s.putRegs x).jesd = s.jesd := rfl
@[simp] theorem State.putRegs_osc (x : RegFile) : (s.putRegs x).osc = s.osc := rfl
@[simp] theorem State.putRegs_ces (x : RegFile) : (s.putRegs x).ces = s.ces := rfl
@[simp] theorem State.putRegs_tes (x : RegFile) : (s.putRegs x).tes = s.tes := rfl
@[simp] theorem State.putRegs_imap (x : RegFile) : (s.putRegs x).imap = s.imap := rfl
@[simp] theorem State.putRegs_psm (x : RegFile) : (s.putRegs x).psm = s.psm := rfl
@[simp] theorem State.putRegs_drift (x : RegFile) : (s.putRegs x).drift = s.drift := rfl
@[simp] theorem State.putRegs_fwd (x : RegFile) : (s.putRegs x).fwd = s.fwd := rfl
@[simp] theorem State.putRegs_sched (x : RegFile) : (s.putRegs x).sched = s.sched := rfl
@[simp] theorem State.putRegs_queues (x : RegFile) : (s.putRegs x).queues = s.queues := rfl
@[simp] theorem State.putRegs_tb (x : RegFile) : (s.putRegs x).tb = s.tb := rfl
@[simp] theorem State.putRegs_sec (x : RegFile) : (s.putRegs x).sec = s.sec := rfl
@[simp] theorem State.putRegs_tree (x : RegFile) : (s.putRegs x).tree = s.tree := rfl
@[simp] theorem State.putRegs_eth (x : RegFile) : (s.putRegs x).eth = s.eth := rfl
@[simp] theorem State.putRegs_app (x : RegFile) : (s.putRegs x).app = s.app := rfl
@[simp] theorem State.putRegs_cpus (x : RegFile) : (s.putRegs x).cpus = s.cpus := rfl
@[simp] theorem State.putRegs_mi (x : RegFile) : (s.putRegs x).mi = s.mi := rfl
@[simp] theorem State.putRegs_pair (x : RegFile) : (s.putRegs x).pair = s.pair := rfl
@[simp] theorem State.putRegs_upd (x : RegFile) : (s.putRegs x).upd = s.upd := rfl
@[simp] theorem State.putRegs_pwr (x : RegFile) : (s.putRegs x).pwr = s.pwr := rfl
@[simp] theorem State.putRegs_snaps (x : RegFile) : (s.putRegs x).snaps = s.snaps := rfl
@[simp] theorem State.putRegs_now (x : RegFile) : (s.putRegs x).now = s.now := rfl
@[simp] theorem State.putRegs_draws (x : RegFile) : (s.putRegs x).draws = s.draws := rfl
@[simp] theorem State.putRegs_out (x : RegFile) : (s.putRegs x).out = s.out := rfl
@[simp] theorem State.putRegs_reply (x : RegFile) : (s.putRegs x).reply = s.reply := rfl
@[simp] theorem State.putRegs_pending (x : RegFile) : (s.putRegs x).pending = s.pending := rfl
@[simp] theorem State.putRegs_path (x : RegFile) (k : Nat) : (s.putRegs x).path k = s.path k := rfl
@[simp] theorem State.putRegs_ce (x : RegFile) (k : Nat) : (s.putRegs x).ce k = s.ce k := rfl
@[simp] theorem State.putRegs_te (x : RegFile) (k : Nat) : (s.putRegs x).te k = s.te k := rfl
@[simp] theorem State.putRegs_ring (x : RegFile) (k : Nat) : (s.putRegs x).ring k = s.ring k := rfl
@[simp] theorem State.putRegs_tso (x : RegFile) (k : Nat) : (s.putRegs x).tso k = s.tso k := rfl
@[simp] theorem State.putRegs_gt (x : RegFile) (k : Nat) : (s.putRegs x).gt k = s.gt k := rfl
@[simp] theorem State.putRegs_snapsOf (x : RegFile) (k : Requester) : (s.putRegs x).snapsOf k = s.snapsOf k := rfl
@[simp] theorem State.putRegs_queue (x : RegFile) (k : Nat) : (s.putRegs x).queue k = s.queue k := rfl
@[simp] theorem State.putRegs_hq (x : RegFile) (k : Nat) : (s.putRegs x).hq k = s.hq k := rfl
@[simp] theorem State.putRegs_tbNs (x : RegFile) : (s.putRegs x).tbNs = s.tbNs := rfl
@[simp] theorem State.putRegs_asnNat (x : RegFile) : (s.putRegs x).asnNat = s.asnNat := rfl

/-! ## `putBoot` -/

@[simp] theorem State.putBoot_part (x : BootState) : (s.putBoot x).part = s.part := rfl
@[simp] theorem State.putBoot_regs (x : BootState) : (s.putBoot x).regs = s.regs := rfl
@[simp] theorem State.putBoot_boot (x : BootState) : (s.putBoot x).boot = x := rfl
@[simp] theorem State.putBoot_flash (x : BootState) : (s.putBoot x).flash = s.flash := rfl
@[simp] theorem State.putBoot_flashSize (x : BootState) : (s.putBoot x).flashSize = s.flashSize := rfl
@[simp] theorem State.putBoot_window (x : BootState) : (s.putBoot x).window = s.window := rfl
@[simp] theorem State.putBoot_otp (x : BootState) : (s.putBoot x).otp = s.otp := rfl
@[simp] theorem State.putBoot_ev (x : BootState) : (s.putBoot x).ev = s.ev := rfl
@[simp] theorem State.putBoot_pcie (x : BootState) : (s.putBoot x).pcie = s.pcie := rfl
@[simp] theorem State.putBoot_hqs (x : BootState) : (s.putBoot x).hqs = s.hqs := rfl
@[simp] theorem State.putBoot_paths (x : BootState) : (s.putBoot x).paths = s.paths := rfl
@[simp] theorem State.putBoot_jesd (x : BootState) : (s.putBoot x).jesd = s.jesd := rfl
@[simp] theorem State.putBoot_osc (x : BootState) : (s.putBoot x).osc = s.osc := rfl
@[simp] theorem State.putBoot_ces (x : BootState) : (s.putBoot x).ces = s.ces := rfl
@[simp] theorem State.putBoot_tes (x : BootState) : (s.putBoot x).tes = s.tes := rfl
@[simp] theorem State.putBoot_imap (x : BootState) : (s.putBoot x).imap = s.imap := rfl
@[simp] theorem State.putBoot_psm (x : BootState) : (s.putBoot x).psm = s.psm := rfl
@[simp] theorem State.putBoot_drift (x : BootState) : (s.putBoot x).drift = s.drift := rfl
@[simp] theorem State.putBoot_fwd (x : BootState) : (s.putBoot x).fwd = s.fwd := rfl
@[simp] theorem State.putBoot_sched (x : BootState) : (s.putBoot x).sched = s.sched := rfl
@[simp] theorem State.putBoot_queues (x : BootState) : (s.putBoot x).queues = s.queues := rfl
@[simp] theorem State.putBoot_tb (x : BootState) : (s.putBoot x).tb = s.tb := rfl
@[simp] theorem State.putBoot_sec (x : BootState) : (s.putBoot x).sec = s.sec := rfl
@[simp] theorem State.putBoot_tree (x : BootState) : (s.putBoot x).tree = s.tree := rfl
@[simp] theorem State.putBoot_eth (x : BootState) : (s.putBoot x).eth = s.eth := rfl
@[simp] theorem State.putBoot_app (x : BootState) : (s.putBoot x).app = s.app := rfl
@[simp] theorem State.putBoot_cpus (x : BootState) : (s.putBoot x).cpus = s.cpus := rfl
@[simp] theorem State.putBoot_mi (x : BootState) : (s.putBoot x).mi = s.mi := rfl
@[simp] theorem State.putBoot_pair (x : BootState) : (s.putBoot x).pair = s.pair := rfl
@[simp] theorem State.putBoot_upd (x : BootState) : (s.putBoot x).upd = s.upd := rfl
@[simp] theorem State.putBoot_pwr (x : BootState) : (s.putBoot x).pwr = s.pwr := rfl
@[simp] theorem State.putBoot_snaps (x : BootState) : (s.putBoot x).snaps = s.snaps := rfl
@[simp] theorem State.putBoot_now (x : BootState) : (s.putBoot x).now = s.now := rfl
@[simp] theorem State.putBoot_draws (x : BootState) : (s.putBoot x).draws = s.draws := rfl
@[simp] theorem State.putBoot_out (x : BootState) : (s.putBoot x).out = s.out := rfl
@[simp] theorem State.putBoot_reply (x : BootState) : (s.putBoot x).reply = s.reply := rfl
@[simp] theorem State.putBoot_pending (x : BootState) : (s.putBoot x).pending = s.pending := rfl
@[simp] theorem State.putBoot_path (x : BootState) (k : Nat) : (s.putBoot x).path k = s.path k := rfl
@[simp] theorem State.putBoot_ce (x : BootState) (k : Nat) : (s.putBoot x).ce k = s.ce k := rfl
@[simp] theorem State.putBoot_te (x : BootState) (k : Nat) : (s.putBoot x).te k = s.te k := rfl
@[simp] theorem State.putBoot_ring (x : BootState) (k : Nat) : (s.putBoot x).ring k = s.ring k := rfl
@[simp] theorem State.putBoot_tso (x : BootState) (k : Nat) : (s.putBoot x).tso k = s.tso k := rfl
@[simp] theorem State.putBoot_gt (x : BootState) (k : Nat) : (s.putBoot x).gt k = s.gt k := rfl
@[simp] theorem State.putBoot_snapsOf (x : BootState) (k : Requester) : (s.putBoot x).snapsOf k = s.snapsOf k := rfl
@[simp] theorem State.putBoot_queue (x : BootState) (k : Nat) : (s.putBoot x).queue k = s.queue k := rfl
@[simp] theorem State.putBoot_hq (x : BootState) (k : Nat) : (s.putBoot x).hq k = s.hq k := rfl
@[simp] theorem State.putBoot_tbNs (x : BootState) : (s.putBoot x).tbNs = s.tbNs := rfl
@[simp] theorem State.putBoot_asnNat (x : BootState) : (s.putBoot x).asnNat = s.asnNat := rfl
@[simp] theorem State.putBoot_get (x : BootState) (g : Fld) : (s.putBoot x).get g = s.get g := rfl
@[simp] theorem State.putBoot_bit (x : BootState) (g : Fld) : (s.putBoot x).bit g = s.bit g := rfl
@[simp] theorem State.putBoot_getI (x : BootState) (g : Fld) : (s.putBoot x).getI g = s.getI g := rfl
@[simp] theorem State.putBoot_word (x : BootState) (k : Nat) : (s.putBoot x).word k = s.word k := rfl

/-! ## `putEv` -/

@[simp] theorem State.putEv_part (x : EventState) : (s.putEv x).part = s.part := rfl
@[simp] theorem State.putEv_regs (x : EventState) : (s.putEv x).regs = s.regs := rfl
@[simp] theorem State.putEv_boot (x : EventState) : (s.putEv x).boot = s.boot := rfl
@[simp] theorem State.putEv_flash (x : EventState) : (s.putEv x).flash = s.flash := rfl
@[simp] theorem State.putEv_flashSize (x : EventState) : (s.putEv x).flashSize = s.flashSize := rfl
@[simp] theorem State.putEv_window (x : EventState) : (s.putEv x).window = s.window := rfl
@[simp] theorem State.putEv_otp (x : EventState) : (s.putEv x).otp = s.otp := rfl
@[simp] theorem State.putEv_ev (x : EventState) : (s.putEv x).ev = x := rfl
@[simp] theorem State.putEv_pcie (x : EventState) : (s.putEv x).pcie = s.pcie := rfl
@[simp] theorem State.putEv_hqs (x : EventState) : (s.putEv x).hqs = s.hqs := rfl
@[simp] theorem State.putEv_paths (x : EventState) : (s.putEv x).paths = s.paths := rfl
@[simp] theorem State.putEv_jesd (x : EventState) : (s.putEv x).jesd = s.jesd := rfl
@[simp] theorem State.putEv_osc (x : EventState) : (s.putEv x).osc = s.osc := rfl
@[simp] theorem State.putEv_ces (x : EventState) : (s.putEv x).ces = s.ces := rfl
@[simp] theorem State.putEv_tes (x : EventState) : (s.putEv x).tes = s.tes := rfl
@[simp] theorem State.putEv_imap (x : EventState) : (s.putEv x).imap = s.imap := rfl
@[simp] theorem State.putEv_psm (x : EventState) : (s.putEv x).psm = s.psm := rfl
@[simp] theorem State.putEv_drift (x : EventState) : (s.putEv x).drift = s.drift := rfl
@[simp] theorem State.putEv_fwd (x : EventState) : (s.putEv x).fwd = s.fwd := rfl
@[simp] theorem State.putEv_sched (x : EventState) : (s.putEv x).sched = s.sched := rfl
@[simp] theorem State.putEv_queues (x : EventState) : (s.putEv x).queues = s.queues := rfl
@[simp] theorem State.putEv_tb (x : EventState) : (s.putEv x).tb = s.tb := rfl
@[simp] theorem State.putEv_sec (x : EventState) : (s.putEv x).sec = s.sec := rfl
@[simp] theorem State.putEv_tree (x : EventState) : (s.putEv x).tree = s.tree := rfl
@[simp] theorem State.putEv_eth (x : EventState) : (s.putEv x).eth = s.eth := rfl
@[simp] theorem State.putEv_app (x : EventState) : (s.putEv x).app = s.app := rfl
@[simp] theorem State.putEv_cpus (x : EventState) : (s.putEv x).cpus = s.cpus := rfl
@[simp] theorem State.putEv_mi (x : EventState) : (s.putEv x).mi = s.mi := rfl
@[simp] theorem State.putEv_pair (x : EventState) : (s.putEv x).pair = s.pair := rfl
@[simp] theorem State.putEv_upd (x : EventState) : (s.putEv x).upd = s.upd := rfl
@[simp] theorem State.putEv_pwr (x : EventState) : (s.putEv x).pwr = s.pwr := rfl
@[simp] theorem State.putEv_snaps (x : EventState) : (s.putEv x).snaps = s.snaps := rfl
@[simp] theorem State.putEv_now (x : EventState) : (s.putEv x).now = s.now := rfl
@[simp] theorem State.putEv_draws (x : EventState) : (s.putEv x).draws = s.draws := rfl
@[simp] theorem State.putEv_out (x : EventState) : (s.putEv x).out = s.out := rfl
@[simp] theorem State.putEv_reply (x : EventState) : (s.putEv x).reply = s.reply := rfl
@[simp] theorem State.putEv_pending (x : EventState) : (s.putEv x).pending = s.pending := rfl
@[simp] theorem State.putEv_path (x : EventState) (k : Nat) : (s.putEv x).path k = s.path k := rfl
@[simp] theorem State.putEv_ce (x : EventState) (k : Nat) : (s.putEv x).ce k = s.ce k := rfl
@[simp] theorem State.putEv_te (x : EventState) (k : Nat) : (s.putEv x).te k = s.te k := rfl
@[simp] theorem State.putEv_tso (x : EventState) (k : Nat) : (s.putEv x).tso k = s.tso k := rfl
@[simp] theorem State.putEv_gt (x : EventState) (k : Nat) : (s.putEv x).gt k = s.gt k := rfl
@[simp] theorem State.putEv_snapsOf (x : EventState) (k : Requester) : (s.putEv x).snapsOf k = s.snapsOf k := rfl
@[simp] theorem State.putEv_queue (x : EventState) (k : Nat) : (s.putEv x).queue k = s.queue k := rfl
@[simp] theorem State.putEv_hq (x : EventState) (k : Nat) : (s.putEv x).hq k = s.hq k := rfl
@[simp] theorem State.putEv_tbNs (x : EventState) : (s.putEv x).tbNs = s.tbNs := rfl
@[simp] theorem State.putEv_asnNat (x : EventState) : (s.putEv x).asnNat = s.asnNat := rfl
@[simp] theorem State.putEv_get (x : EventState) (g : Fld) : (s.putEv x).get g = s.get g := rfl
@[simp] theorem State.putEv_bit (x : EventState) (g : Fld) : (s.putEv x).bit g = s.bit g := rfl
@[simp] theorem State.putEv_getI (x : EventState) (g : Fld) : (s.putEv x).getI g = s.getI g := rfl
@[simp] theorem State.putEv_word (x : EventState) (k : Nat) : (s.putEv x).word k = s.word k := rfl

/-! ## `putPcie` -/

@[simp] theorem State.putPcie_part (x : PcieState) : (s.putPcie x).part = s.part := rfl
@[simp] theorem State.putPcie_regs (x : PcieState) : (s.putPcie x).regs = s.regs := rfl
@[simp] theorem State.putPcie_boot (x : PcieState) : (s.putPcie x).boot = s.boot := rfl
@[simp] theorem State.putPcie_flash (x : PcieState) : (s.putPcie x).flash = s.flash := rfl
@[simp] theorem State.putPcie_flashSize (x : PcieState) : (s.putPcie x).flashSize = s.flashSize := rfl
@[simp] theorem State.putPcie_window (x : PcieState) : (s.putPcie x).window = s.window := rfl
@[simp] theorem State.putPcie_otp (x : PcieState) : (s.putPcie x).otp = s.otp := rfl
@[simp] theorem State.putPcie_ev (x : PcieState) : (s.putPcie x).ev = s.ev := rfl
@[simp] theorem State.putPcie_pcie (x : PcieState) : (s.putPcie x).pcie = x := rfl
@[simp] theorem State.putPcie_hqs (x : PcieState) : (s.putPcie x).hqs = s.hqs := rfl
@[simp] theorem State.putPcie_paths (x : PcieState) : (s.putPcie x).paths = s.paths := rfl
@[simp] theorem State.putPcie_jesd (x : PcieState) : (s.putPcie x).jesd = s.jesd := rfl
@[simp] theorem State.putPcie_osc (x : PcieState) : (s.putPcie x).osc = s.osc := rfl
@[simp] theorem State.putPcie_ces (x : PcieState) : (s.putPcie x).ces = s.ces := rfl
@[simp] theorem State.putPcie_tes (x : PcieState) : (s.putPcie x).tes = s.tes := rfl
@[simp] theorem State.putPcie_imap (x : PcieState) : (s.putPcie x).imap = s.imap := rfl
@[simp] theorem State.putPcie_psm (x : PcieState) : (s.putPcie x).psm = s.psm := rfl
@[simp] theorem State.putPcie_drift (x : PcieState) : (s.putPcie x).drift = s.drift := rfl
@[simp] theorem State.putPcie_fwd (x : PcieState) : (s.putPcie x).fwd = s.fwd := rfl
@[simp] theorem State.putPcie_sched (x : PcieState) : (s.putPcie x).sched = s.sched := rfl
@[simp] theorem State.putPcie_queues (x : PcieState) : (s.putPcie x).queues = s.queues := rfl
@[simp] theorem State.putPcie_tb (x : PcieState) : (s.putPcie x).tb = s.tb := rfl
@[simp] theorem State.putPcie_sec (x : PcieState) : (s.putPcie x).sec = s.sec := rfl
@[simp] theorem State.putPcie_tree (x : PcieState) : (s.putPcie x).tree = s.tree := rfl
@[simp] theorem State.putPcie_eth (x : PcieState) : (s.putPcie x).eth = s.eth := rfl
@[simp] theorem State.putPcie_app (x : PcieState) : (s.putPcie x).app = s.app := rfl
@[simp] theorem State.putPcie_cpus (x : PcieState) : (s.putPcie x).cpus = s.cpus := rfl
@[simp] theorem State.putPcie_mi (x : PcieState) : (s.putPcie x).mi = s.mi := rfl
@[simp] theorem State.putPcie_pair (x : PcieState) : (s.putPcie x).pair = s.pair := rfl
@[simp] theorem State.putPcie_upd (x : PcieState) : (s.putPcie x).upd = s.upd := rfl
@[simp] theorem State.putPcie_pwr (x : PcieState) : (s.putPcie x).pwr = s.pwr := rfl
@[simp] theorem State.putPcie_snaps (x : PcieState) : (s.putPcie x).snaps = s.snaps := rfl
@[simp] theorem State.putPcie_now (x : PcieState) : (s.putPcie x).now = s.now := rfl
@[simp] theorem State.putPcie_draws (x : PcieState) : (s.putPcie x).draws = s.draws := rfl
@[simp] theorem State.putPcie_out (x : PcieState) : (s.putPcie x).out = s.out := rfl
@[simp] theorem State.putPcie_reply (x : PcieState) : (s.putPcie x).reply = s.reply := rfl
@[simp] theorem State.putPcie_pending (x : PcieState) : (s.putPcie x).pending = s.pending := rfl
@[simp] theorem State.putPcie_path (x : PcieState) (k : Nat) : (s.putPcie x).path k = s.path k := rfl
@[simp] theorem State.putPcie_ce (x : PcieState) (k : Nat) : (s.putPcie x).ce k = s.ce k := rfl
@[simp] theorem State.putPcie_te (x : PcieState) (k : Nat) : (s.putPcie x).te k = s.te k := rfl
@[simp] theorem State.putPcie_ring (x : PcieState) (k : Nat) : (s.putPcie x).ring k = s.ring k := rfl
@[simp] theorem State.putPcie_tso (x : PcieState) (k : Nat) : (s.putPcie x).tso k = s.tso k := rfl
@[simp] theorem State.putPcie_gt (x : PcieState) (k : Nat) : (s.putPcie x).gt k = s.gt k := rfl
@[simp] theorem State.putPcie_snapsOf (x : PcieState) (k : Requester) : (s.putPcie x).snapsOf k = s.snapsOf k := rfl
@[simp] theorem State.putPcie_queue (x : PcieState) (k : Nat) : (s.putPcie x).queue k = s.queue k := rfl
@[simp] theorem State.putPcie_hq (x : PcieState) (k : Nat) : (s.putPcie x).hq k = s.hq k := rfl
@[simp] theorem State.putPcie_tbNs (x : PcieState) : (s.putPcie x).tbNs = s.tbNs := rfl
@[simp] theorem State.putPcie_asnNat (x : PcieState) : (s.putPcie x).asnNat = s.asnNat := rfl
@[simp] theorem State.putPcie_get (x : PcieState) (g : Fld) : (s.putPcie x).get g = s.get g := rfl
@[simp] theorem State.putPcie_bit (x : PcieState) (g : Fld) : (s.putPcie x).bit g = s.bit g := rfl
@[simp] theorem State.putPcie_getI (x : PcieState) (g : Fld) : (s.putPcie x).getI g = s.getI g := rfl
@[simp] theorem State.putPcie_word (x : PcieState) (k : Nat) : (s.putPcie x).word k = s.word k := rfl

/-! ## `putJesd` -/

@[simp] theorem State.putJesd_part (x : JesdState) : (s.putJesd x).part = s.part := rfl
@[simp] theorem State.putJesd_regs (x : JesdState) : (s.putJesd x).regs = s.regs := rfl
@[simp] theorem State.putJesd_boot (x : JesdState) : (s.putJesd x).boot = s.boot := rfl
@[simp] theorem State.putJesd_flash (x : JesdState) : (s.putJesd x).flash = s.flash := rfl
@[simp] theorem State.putJesd_flashSize (x : JesdState) : (s.putJesd x).flashSize = s.flashSize := rfl
@[simp] theorem State.putJesd_window (x : JesdState) : (s.putJesd x).window = s.window := rfl
@[simp] theorem State.putJesd_otp (x : JesdState) : (s.putJesd x).otp = s.otp := rfl
@[simp] theorem State.putJesd_ev (x : JesdState) : (s.putJesd x).ev = s.ev := rfl
@[simp] theorem State.putJesd_pcie (x : JesdState) : (s.putJesd x).pcie = s.pcie := rfl
@[simp] theorem State.putJesd_hqs (x : JesdState) : (s.putJesd x).hqs = s.hqs := rfl
@[simp] theorem State.putJesd_paths (x : JesdState) : (s.putJesd x).paths = s.paths := rfl
@[simp] theorem State.putJesd_jesd (x : JesdState) : (s.putJesd x).jesd = x := rfl
@[simp] theorem State.putJesd_osc (x : JesdState) : (s.putJesd x).osc = s.osc := rfl
@[simp] theorem State.putJesd_ces (x : JesdState) : (s.putJesd x).ces = s.ces := rfl
@[simp] theorem State.putJesd_tes (x : JesdState) : (s.putJesd x).tes = s.tes := rfl
@[simp] theorem State.putJesd_imap (x : JesdState) : (s.putJesd x).imap = s.imap := rfl
@[simp] theorem State.putJesd_psm (x : JesdState) : (s.putJesd x).psm = s.psm := rfl
@[simp] theorem State.putJesd_drift (x : JesdState) : (s.putJesd x).drift = s.drift := rfl
@[simp] theorem State.putJesd_fwd (x : JesdState) : (s.putJesd x).fwd = s.fwd := rfl
@[simp] theorem State.putJesd_sched (x : JesdState) : (s.putJesd x).sched = s.sched := rfl
@[simp] theorem State.putJesd_queues (x : JesdState) : (s.putJesd x).queues = s.queues := rfl
@[simp] theorem State.putJesd_tb (x : JesdState) : (s.putJesd x).tb = s.tb := rfl
@[simp] theorem State.putJesd_sec (x : JesdState) : (s.putJesd x).sec = s.sec := rfl
@[simp] theorem State.putJesd_tree (x : JesdState) : (s.putJesd x).tree = s.tree := rfl
@[simp] theorem State.putJesd_eth (x : JesdState) : (s.putJesd x).eth = s.eth := rfl
@[simp] theorem State.putJesd_app (x : JesdState) : (s.putJesd x).app = s.app := rfl
@[simp] theorem State.putJesd_cpus (x : JesdState) : (s.putJesd x).cpus = s.cpus := rfl
@[simp] theorem State.putJesd_mi (x : JesdState) : (s.putJesd x).mi = s.mi := rfl
@[simp] theorem State.putJesd_pair (x : JesdState) : (s.putJesd x).pair = s.pair := rfl
@[simp] theorem State.putJesd_upd (x : JesdState) : (s.putJesd x).upd = s.upd := rfl
@[simp] theorem State.putJesd_pwr (x : JesdState) : (s.putJesd x).pwr = s.pwr := rfl
@[simp] theorem State.putJesd_snaps (x : JesdState) : (s.putJesd x).snaps = s.snaps := rfl
@[simp] theorem State.putJesd_now (x : JesdState) : (s.putJesd x).now = s.now := rfl
@[simp] theorem State.putJesd_draws (x : JesdState) : (s.putJesd x).draws = s.draws := rfl
@[simp] theorem State.putJesd_out (x : JesdState) : (s.putJesd x).out = s.out := rfl
@[simp] theorem State.putJesd_reply (x : JesdState) : (s.putJesd x).reply = s.reply := rfl
@[simp] theorem State.putJesd_pending (x : JesdState) : (s.putJesd x).pending = s.pending := rfl
@[simp] theorem State.putJesd_path (x : JesdState) (k : Nat) : (s.putJesd x).path k = s.path k := rfl
@[simp] theorem State.putJesd_ce (x : JesdState) (k : Nat) : (s.putJesd x).ce k = s.ce k := rfl
@[simp] theorem State.putJesd_te (x : JesdState) (k : Nat) : (s.putJesd x).te k = s.te k := rfl
@[simp] theorem State.putJesd_ring (x : JesdState) (k : Nat) : (s.putJesd x).ring k = s.ring k := rfl
@[simp] theorem State.putJesd_tso (x : JesdState) (k : Nat) : (s.putJesd x).tso k = s.tso k := rfl
@[simp] theorem State.putJesd_gt (x : JesdState) (k : Nat) : (s.putJesd x).gt k = s.gt k := rfl
@[simp] theorem State.putJesd_snapsOf (x : JesdState) (k : Requester) : (s.putJesd x).snapsOf k = s.snapsOf k := rfl
@[simp] theorem State.putJesd_queue (x : JesdState) (k : Nat) : (s.putJesd x).queue k = s.queue k := rfl
@[simp] theorem State.putJesd_hq (x : JesdState) (k : Nat) : (s.putJesd x).hq k = s.hq k := rfl
@[simp] theorem State.putJesd_tbNs (x : JesdState) : (s.putJesd x).tbNs = s.tbNs := rfl
@[simp] theorem State.putJesd_asnNat (x : JesdState) : (s.putJesd x).asnNat = s.asnNat := rfl
@[simp] theorem State.putJesd_get (x : JesdState) (g : Fld) : (s.putJesd x).get g = s.get g := rfl
@[simp] theorem State.putJesd_bit (x : JesdState) (g : Fld) : (s.putJesd x).bit g = s.bit g := rfl
@[simp] theorem State.putJesd_getI (x : JesdState) (g : Fld) : (s.putJesd x).getI g = s.getI g := rfl
@[simp] theorem State.putJesd_word (x : JesdState) (k : Nat) : (s.putJesd x).word k = s.word k := rfl

/-! ## `putOsc` -/

@[simp] theorem State.putOsc_part (x : OscState) : (s.putOsc x).part = s.part := rfl
@[simp] theorem State.putOsc_regs (x : OscState) : (s.putOsc x).regs = s.regs := rfl
@[simp] theorem State.putOsc_boot (x : OscState) : (s.putOsc x).boot = s.boot := rfl
@[simp] theorem State.putOsc_flash (x : OscState) : (s.putOsc x).flash = s.flash := rfl
@[simp] theorem State.putOsc_flashSize (x : OscState) : (s.putOsc x).flashSize = s.flashSize := rfl
@[simp] theorem State.putOsc_window (x : OscState) : (s.putOsc x).window = s.window := rfl
@[simp] theorem State.putOsc_otp (x : OscState) : (s.putOsc x).otp = s.otp := rfl
@[simp] theorem State.putOsc_ev (x : OscState) : (s.putOsc x).ev = s.ev := rfl
@[simp] theorem State.putOsc_pcie (x : OscState) : (s.putOsc x).pcie = s.pcie := rfl
@[simp] theorem State.putOsc_hqs (x : OscState) : (s.putOsc x).hqs = s.hqs := rfl
@[simp] theorem State.putOsc_paths (x : OscState) : (s.putOsc x).paths = s.paths := rfl
@[simp] theorem State.putOsc_jesd (x : OscState) : (s.putOsc x).jesd = s.jesd := rfl
@[simp] theorem State.putOsc_osc (x : OscState) : (s.putOsc x).osc = x := rfl
@[simp] theorem State.putOsc_ces (x : OscState) : (s.putOsc x).ces = s.ces := rfl
@[simp] theorem State.putOsc_tes (x : OscState) : (s.putOsc x).tes = s.tes := rfl
@[simp] theorem State.putOsc_imap (x : OscState) : (s.putOsc x).imap = s.imap := rfl
@[simp] theorem State.putOsc_psm (x : OscState) : (s.putOsc x).psm = s.psm := rfl
@[simp] theorem State.putOsc_drift (x : OscState) : (s.putOsc x).drift = s.drift := rfl
@[simp] theorem State.putOsc_fwd (x : OscState) : (s.putOsc x).fwd = s.fwd := rfl
@[simp] theorem State.putOsc_sched (x : OscState) : (s.putOsc x).sched = s.sched := rfl
@[simp] theorem State.putOsc_queues (x : OscState) : (s.putOsc x).queues = s.queues := rfl
@[simp] theorem State.putOsc_tb (x : OscState) : (s.putOsc x).tb = s.tb := rfl
@[simp] theorem State.putOsc_sec (x : OscState) : (s.putOsc x).sec = s.sec := rfl
@[simp] theorem State.putOsc_tree (x : OscState) : (s.putOsc x).tree = s.tree := rfl
@[simp] theorem State.putOsc_eth (x : OscState) : (s.putOsc x).eth = s.eth := rfl
@[simp] theorem State.putOsc_app (x : OscState) : (s.putOsc x).app = s.app := rfl
@[simp] theorem State.putOsc_cpus (x : OscState) : (s.putOsc x).cpus = s.cpus := rfl
@[simp] theorem State.putOsc_mi (x : OscState) : (s.putOsc x).mi = s.mi := rfl
@[simp] theorem State.putOsc_pair (x : OscState) : (s.putOsc x).pair = s.pair := rfl
@[simp] theorem State.putOsc_upd (x : OscState) : (s.putOsc x).upd = s.upd := rfl
@[simp] theorem State.putOsc_pwr (x : OscState) : (s.putOsc x).pwr = s.pwr := rfl
@[simp] theorem State.putOsc_snaps (x : OscState) : (s.putOsc x).snaps = s.snaps := rfl
@[simp] theorem State.putOsc_now (x : OscState) : (s.putOsc x).now = s.now := rfl
@[simp] theorem State.putOsc_draws (x : OscState) : (s.putOsc x).draws = s.draws := rfl
@[simp] theorem State.putOsc_out (x : OscState) : (s.putOsc x).out = s.out := rfl
@[simp] theorem State.putOsc_reply (x : OscState) : (s.putOsc x).reply = s.reply := rfl
@[simp] theorem State.putOsc_pending (x : OscState) : (s.putOsc x).pending = s.pending := rfl
@[simp] theorem State.putOsc_path (x : OscState) (k : Nat) : (s.putOsc x).path k = s.path k := rfl
@[simp] theorem State.putOsc_ce (x : OscState) (k : Nat) : (s.putOsc x).ce k = s.ce k := rfl
@[simp] theorem State.putOsc_te (x : OscState) (k : Nat) : (s.putOsc x).te k = s.te k := rfl
@[simp] theorem State.putOsc_ring (x : OscState) (k : Nat) : (s.putOsc x).ring k = s.ring k := rfl
@[simp] theorem State.putOsc_tso (x : OscState) (k : Nat) : (s.putOsc x).tso k = s.tso k := rfl
@[simp] theorem State.putOsc_gt (x : OscState) (k : Nat) : (s.putOsc x).gt k = s.gt k := rfl
@[simp] theorem State.putOsc_snapsOf (x : OscState) (k : Requester) : (s.putOsc x).snapsOf k = s.snapsOf k := rfl
@[simp] theorem State.putOsc_queue (x : OscState) (k : Nat) : (s.putOsc x).queue k = s.queue k := rfl
@[simp] theorem State.putOsc_hq (x : OscState) (k : Nat) : (s.putOsc x).hq k = s.hq k := rfl
@[simp] theorem State.putOsc_tbNs (x : OscState) : (s.putOsc x).tbNs = s.tbNs := rfl
@[simp] theorem State.putOsc_asnNat (x : OscState) : (s.putOsc x).asnNat = s.asnNat := rfl
@[simp] theorem State.putOsc_get (x : OscState) (g : Fld) : (s.putOsc x).get g = s.get g := rfl
@[simp] theorem State.putOsc_bit (x : OscState) (g : Fld) : (s.putOsc x).bit g = s.bit g := rfl
@[simp] theorem State.putOsc_getI (x : OscState) (g : Fld) : (s.putOsc x).getI g = s.getI g := rfl
@[simp] theorem State.putOsc_word (x : OscState) (k : Nat) : (s.putOsc x).word k = s.word k := rfl

/-! ## `putImap` -/

@[simp] theorem State.putImap_part (x : ImapState) : (s.putImap x).part = s.part := rfl
@[simp] theorem State.putImap_regs (x : ImapState) : (s.putImap x).regs = s.regs := rfl
@[simp] theorem State.putImap_boot (x : ImapState) : (s.putImap x).boot = s.boot := rfl
@[simp] theorem State.putImap_flash (x : ImapState) : (s.putImap x).flash = s.flash := rfl
@[simp] theorem State.putImap_flashSize (x : ImapState) : (s.putImap x).flashSize = s.flashSize := rfl
@[simp] theorem State.putImap_window (x : ImapState) : (s.putImap x).window = s.window := rfl
@[simp] theorem State.putImap_otp (x : ImapState) : (s.putImap x).otp = s.otp := rfl
@[simp] theorem State.putImap_ev (x : ImapState) : (s.putImap x).ev = s.ev := rfl
@[simp] theorem State.putImap_pcie (x : ImapState) : (s.putImap x).pcie = s.pcie := rfl
@[simp] theorem State.putImap_hqs (x : ImapState) : (s.putImap x).hqs = s.hqs := rfl
@[simp] theorem State.putImap_paths (x : ImapState) : (s.putImap x).paths = s.paths := rfl
@[simp] theorem State.putImap_jesd (x : ImapState) : (s.putImap x).jesd = s.jesd := rfl
@[simp] theorem State.putImap_osc (x : ImapState) : (s.putImap x).osc = s.osc := rfl
@[simp] theorem State.putImap_ces (x : ImapState) : (s.putImap x).ces = s.ces := rfl
@[simp] theorem State.putImap_tes (x : ImapState) : (s.putImap x).tes = s.tes := rfl
@[simp] theorem State.putImap_imap (x : ImapState) : (s.putImap x).imap = x := rfl
@[simp] theorem State.putImap_psm (x : ImapState) : (s.putImap x).psm = s.psm := rfl
@[simp] theorem State.putImap_drift (x : ImapState) : (s.putImap x).drift = s.drift := rfl
@[simp] theorem State.putImap_fwd (x : ImapState) : (s.putImap x).fwd = s.fwd := rfl
@[simp] theorem State.putImap_sched (x : ImapState) : (s.putImap x).sched = s.sched := rfl
@[simp] theorem State.putImap_queues (x : ImapState) : (s.putImap x).queues = s.queues := rfl
@[simp] theorem State.putImap_tb (x : ImapState) : (s.putImap x).tb = s.tb := rfl
@[simp] theorem State.putImap_sec (x : ImapState) : (s.putImap x).sec = s.sec := rfl
@[simp] theorem State.putImap_tree (x : ImapState) : (s.putImap x).tree = s.tree := rfl
@[simp] theorem State.putImap_eth (x : ImapState) : (s.putImap x).eth = s.eth := rfl
@[simp] theorem State.putImap_app (x : ImapState) : (s.putImap x).app = s.app := rfl
@[simp] theorem State.putImap_cpus (x : ImapState) : (s.putImap x).cpus = s.cpus := rfl
@[simp] theorem State.putImap_mi (x : ImapState) : (s.putImap x).mi = s.mi := rfl
@[simp] theorem State.putImap_pair (x : ImapState) : (s.putImap x).pair = s.pair := rfl
@[simp] theorem State.putImap_upd (x : ImapState) : (s.putImap x).upd = s.upd := rfl
@[simp] theorem State.putImap_pwr (x : ImapState) : (s.putImap x).pwr = s.pwr := rfl
@[simp] theorem State.putImap_snaps (x : ImapState) : (s.putImap x).snaps = s.snaps := rfl
@[simp] theorem State.putImap_now (x : ImapState) : (s.putImap x).now = s.now := rfl
@[simp] theorem State.putImap_draws (x : ImapState) : (s.putImap x).draws = s.draws := rfl
@[simp] theorem State.putImap_out (x : ImapState) : (s.putImap x).out = s.out := rfl
@[simp] theorem State.putImap_reply (x : ImapState) : (s.putImap x).reply = s.reply := rfl
@[simp] theorem State.putImap_pending (x : ImapState) : (s.putImap x).pending = s.pending := rfl
@[simp] theorem State.putImap_path (x : ImapState) (k : Nat) : (s.putImap x).path k = s.path k := rfl
@[simp] theorem State.putImap_ce (x : ImapState) (k : Nat) : (s.putImap x).ce k = s.ce k := rfl
@[simp] theorem State.putImap_te (x : ImapState) (k : Nat) : (s.putImap x).te k = s.te k := rfl
@[simp] theorem State.putImap_ring (x : ImapState) (k : Nat) : (s.putImap x).ring k = s.ring k := rfl
@[simp] theorem State.putImap_tso (x : ImapState) (k : Nat) : (s.putImap x).tso k = s.tso k := rfl
@[simp] theorem State.putImap_gt (x : ImapState) (k : Nat) : (s.putImap x).gt k = s.gt k := rfl
@[simp] theorem State.putImap_snapsOf (x : ImapState) (k : Requester) : (s.putImap x).snapsOf k = s.snapsOf k := rfl
@[simp] theorem State.putImap_queue (x : ImapState) (k : Nat) : (s.putImap x).queue k = s.queue k := rfl
@[simp] theorem State.putImap_hq (x : ImapState) (k : Nat) : (s.putImap x).hq k = s.hq k := rfl
@[simp] theorem State.putImap_tbNs (x : ImapState) : (s.putImap x).tbNs = s.tbNs := rfl
@[simp] theorem State.putImap_asnNat (x : ImapState) : (s.putImap x).asnNat = s.asnNat := rfl
@[simp] theorem State.putImap_get (x : ImapState) (g : Fld) : (s.putImap x).get g = s.get g := rfl
@[simp] theorem State.putImap_bit (x : ImapState) (g : Fld) : (s.putImap x).bit g = s.bit g := rfl
@[simp] theorem State.putImap_getI (x : ImapState) (g : Fld) : (s.putImap x).getI g = s.getI g := rfl
@[simp] theorem State.putImap_word (x : ImapState) (k : Nat) : (s.putImap x).word k = s.word k := rfl

/-! ## `putPsm` -/

@[simp] theorem State.putPsm_part (x : PsmState) : (s.putPsm x).part = s.part := rfl
@[simp] theorem State.putPsm_regs (x : PsmState) : (s.putPsm x).regs = s.regs := rfl
@[simp] theorem State.putPsm_boot (x : PsmState) : (s.putPsm x).boot = s.boot := rfl
@[simp] theorem State.putPsm_flash (x : PsmState) : (s.putPsm x).flash = s.flash := rfl
@[simp] theorem State.putPsm_flashSize (x : PsmState) : (s.putPsm x).flashSize = s.flashSize := rfl
@[simp] theorem State.putPsm_window (x : PsmState) : (s.putPsm x).window = s.window := rfl
@[simp] theorem State.putPsm_otp (x : PsmState) : (s.putPsm x).otp = s.otp := rfl
@[simp] theorem State.putPsm_ev (x : PsmState) : (s.putPsm x).ev = s.ev := rfl
@[simp] theorem State.putPsm_pcie (x : PsmState) : (s.putPsm x).pcie = s.pcie := rfl
@[simp] theorem State.putPsm_hqs (x : PsmState) : (s.putPsm x).hqs = s.hqs := rfl
@[simp] theorem State.putPsm_paths (x : PsmState) : (s.putPsm x).paths = s.paths := rfl
@[simp] theorem State.putPsm_jesd (x : PsmState) : (s.putPsm x).jesd = s.jesd := rfl
@[simp] theorem State.putPsm_osc (x : PsmState) : (s.putPsm x).osc = s.osc := rfl
@[simp] theorem State.putPsm_ces (x : PsmState) : (s.putPsm x).ces = s.ces := rfl
@[simp] theorem State.putPsm_tes (x : PsmState) : (s.putPsm x).tes = s.tes := rfl
@[simp] theorem State.putPsm_imap (x : PsmState) : (s.putPsm x).imap = s.imap := rfl
@[simp] theorem State.putPsm_psm (x : PsmState) : (s.putPsm x).psm = x := rfl
@[simp] theorem State.putPsm_drift (x : PsmState) : (s.putPsm x).drift = s.drift := rfl
@[simp] theorem State.putPsm_fwd (x : PsmState) : (s.putPsm x).fwd = s.fwd := rfl
@[simp] theorem State.putPsm_sched (x : PsmState) : (s.putPsm x).sched = s.sched := rfl
@[simp] theorem State.putPsm_queues (x : PsmState) : (s.putPsm x).queues = s.queues := rfl
@[simp] theorem State.putPsm_tb (x : PsmState) : (s.putPsm x).tb = s.tb := rfl
@[simp] theorem State.putPsm_sec (x : PsmState) : (s.putPsm x).sec = s.sec := rfl
@[simp] theorem State.putPsm_tree (x : PsmState) : (s.putPsm x).tree = s.tree := rfl
@[simp] theorem State.putPsm_eth (x : PsmState) : (s.putPsm x).eth = s.eth := rfl
@[simp] theorem State.putPsm_app (x : PsmState) : (s.putPsm x).app = s.app := rfl
@[simp] theorem State.putPsm_cpus (x : PsmState) : (s.putPsm x).cpus = s.cpus := rfl
@[simp] theorem State.putPsm_mi (x : PsmState) : (s.putPsm x).mi = s.mi := rfl
@[simp] theorem State.putPsm_pair (x : PsmState) : (s.putPsm x).pair = s.pair := rfl
@[simp] theorem State.putPsm_upd (x : PsmState) : (s.putPsm x).upd = s.upd := rfl
@[simp] theorem State.putPsm_pwr (x : PsmState) : (s.putPsm x).pwr = s.pwr := rfl
@[simp] theorem State.putPsm_snaps (x : PsmState) : (s.putPsm x).snaps = s.snaps := rfl
@[simp] theorem State.putPsm_now (x : PsmState) : (s.putPsm x).now = s.now := rfl
@[simp] theorem State.putPsm_draws (x : PsmState) : (s.putPsm x).draws = s.draws := rfl
@[simp] theorem State.putPsm_out (x : PsmState) : (s.putPsm x).out = s.out := rfl
@[simp] theorem State.putPsm_reply (x : PsmState) : (s.putPsm x).reply = s.reply := rfl
@[simp] theorem State.putPsm_pending (x : PsmState) : (s.putPsm x).pending = s.pending := rfl
@[simp] theorem State.putPsm_path (x : PsmState) (k : Nat) : (s.putPsm x).path k = s.path k := rfl
@[simp] theorem State.putPsm_ce (x : PsmState) (k : Nat) : (s.putPsm x).ce k = s.ce k := rfl
@[simp] theorem State.putPsm_te (x : PsmState) (k : Nat) : (s.putPsm x).te k = s.te k := rfl
@[simp] theorem State.putPsm_ring (x : PsmState) (k : Nat) : (s.putPsm x).ring k = s.ring k := rfl
@[simp] theorem State.putPsm_tso (x : PsmState) (k : Nat) : (s.putPsm x).tso k = s.tso k := rfl
@[simp] theorem State.putPsm_gt (x : PsmState) (k : Nat) : (s.putPsm x).gt k = s.gt k := rfl
@[simp] theorem State.putPsm_snapsOf (x : PsmState) (k : Requester) : (s.putPsm x).snapsOf k = s.snapsOf k := rfl
@[simp] theorem State.putPsm_queue (x : PsmState) (k : Nat) : (s.putPsm x).queue k = s.queue k := rfl
@[simp] theorem State.putPsm_hq (x : PsmState) (k : Nat) : (s.putPsm x).hq k = s.hq k := rfl
@[simp] theorem State.putPsm_tbNs (x : PsmState) : (s.putPsm x).tbNs = s.tbNs := rfl
@[simp] theorem State.putPsm_get (x : PsmState) (g : Fld) : (s.putPsm x).get g = s.get g := rfl
@[simp] theorem State.putPsm_bit (x : PsmState) (g : Fld) : (s.putPsm x).bit g = s.bit g := rfl
@[simp] theorem State.putPsm_getI (x : PsmState) (g : Fld) : (s.putPsm x).getI g = s.getI g := rfl
@[simp] theorem State.putPsm_word (x : PsmState) (k : Nat) : (s.putPsm x).word k = s.word k := rfl

/-! ## `putDrift` -/

@[simp] theorem State.putDrift_part (x : DriftState) : (s.putDrift x).part = s.part := rfl
@[simp] theorem State.putDrift_regs (x : DriftState) : (s.putDrift x).regs = s.regs := rfl
@[simp] theorem State.putDrift_boot (x : DriftState) : (s.putDrift x).boot = s.boot := rfl
@[simp] theorem State.putDrift_flash (x : DriftState) : (s.putDrift x).flash = s.flash := rfl
@[simp] theorem State.putDrift_flashSize (x : DriftState) : (s.putDrift x).flashSize = s.flashSize := rfl
@[simp] theorem State.putDrift_window (x : DriftState) : (s.putDrift x).window = s.window := rfl
@[simp] theorem State.putDrift_otp (x : DriftState) : (s.putDrift x).otp = s.otp := rfl
@[simp] theorem State.putDrift_ev (x : DriftState) : (s.putDrift x).ev = s.ev := rfl
@[simp] theorem State.putDrift_pcie (x : DriftState) : (s.putDrift x).pcie = s.pcie := rfl
@[simp] theorem State.putDrift_hqs (x : DriftState) : (s.putDrift x).hqs = s.hqs := rfl
@[simp] theorem State.putDrift_paths (x : DriftState) : (s.putDrift x).paths = s.paths := rfl
@[simp] theorem State.putDrift_jesd (x : DriftState) : (s.putDrift x).jesd = s.jesd := rfl
@[simp] theorem State.putDrift_osc (x : DriftState) : (s.putDrift x).osc = s.osc := rfl
@[simp] theorem State.putDrift_ces (x : DriftState) : (s.putDrift x).ces = s.ces := rfl
@[simp] theorem State.putDrift_tes (x : DriftState) : (s.putDrift x).tes = s.tes := rfl
@[simp] theorem State.putDrift_imap (x : DriftState) : (s.putDrift x).imap = s.imap := rfl
@[simp] theorem State.putDrift_psm (x : DriftState) : (s.putDrift x).psm = s.psm := rfl
@[simp] theorem State.putDrift_drift (x : DriftState) : (s.putDrift x).drift = x := rfl
@[simp] theorem State.putDrift_fwd (x : DriftState) : (s.putDrift x).fwd = s.fwd := rfl
@[simp] theorem State.putDrift_sched (x : DriftState) : (s.putDrift x).sched = s.sched := rfl
@[simp] theorem State.putDrift_queues (x : DriftState) : (s.putDrift x).queues = s.queues := rfl
@[simp] theorem State.putDrift_tb (x : DriftState) : (s.putDrift x).tb = s.tb := rfl
@[simp] theorem State.putDrift_sec (x : DriftState) : (s.putDrift x).sec = s.sec := rfl
@[simp] theorem State.putDrift_tree (x : DriftState) : (s.putDrift x).tree = s.tree := rfl
@[simp] theorem State.putDrift_eth (x : DriftState) : (s.putDrift x).eth = s.eth := rfl
@[simp] theorem State.putDrift_app (x : DriftState) : (s.putDrift x).app = s.app := rfl
@[simp] theorem State.putDrift_cpus (x : DriftState) : (s.putDrift x).cpus = s.cpus := rfl
@[simp] theorem State.putDrift_mi (x : DriftState) : (s.putDrift x).mi = s.mi := rfl
@[simp] theorem State.putDrift_pair (x : DriftState) : (s.putDrift x).pair = s.pair := rfl
@[simp] theorem State.putDrift_upd (x : DriftState) : (s.putDrift x).upd = s.upd := rfl
@[simp] theorem State.putDrift_pwr (x : DriftState) : (s.putDrift x).pwr = s.pwr := rfl
@[simp] theorem State.putDrift_snaps (x : DriftState) : (s.putDrift x).snaps = s.snaps := rfl
@[simp] theorem State.putDrift_now (x : DriftState) : (s.putDrift x).now = s.now := rfl
@[simp] theorem State.putDrift_draws (x : DriftState) : (s.putDrift x).draws = s.draws := rfl
@[simp] theorem State.putDrift_out (x : DriftState) : (s.putDrift x).out = s.out := rfl
@[simp] theorem State.putDrift_reply (x : DriftState) : (s.putDrift x).reply = s.reply := rfl
@[simp] theorem State.putDrift_pending (x : DriftState) : (s.putDrift x).pending = s.pending := rfl
@[simp] theorem State.putDrift_path (x : DriftState) (k : Nat) : (s.putDrift x).path k = s.path k := rfl
@[simp] theorem State.putDrift_ce (x : DriftState) (k : Nat) : (s.putDrift x).ce k = s.ce k := rfl
@[simp] theorem State.putDrift_te (x : DriftState) (k : Nat) : (s.putDrift x).te k = s.te k := rfl
@[simp] theorem State.putDrift_ring (x : DriftState) (k : Nat) : (s.putDrift x).ring k = s.ring k := rfl
@[simp] theorem State.putDrift_tso (x : DriftState) (k : Nat) : (s.putDrift x).tso k = s.tso k := rfl
@[simp] theorem State.putDrift_gt (x : DriftState) (k : Nat) : (s.putDrift x).gt k = s.gt k := rfl
@[simp] theorem State.putDrift_snapsOf (x : DriftState) (k : Requester) : (s.putDrift x).snapsOf k = s.snapsOf k := rfl
@[simp] theorem State.putDrift_queue (x : DriftState) (k : Nat) : (s.putDrift x).queue k = s.queue k := rfl
@[simp] theorem State.putDrift_hq (x : DriftState) (k : Nat) : (s.putDrift x).hq k = s.hq k := rfl
@[simp] theorem State.putDrift_tbNs (x : DriftState) : (s.putDrift x).tbNs = s.tbNs := rfl
@[simp] theorem State.putDrift_asnNat (x : DriftState) : (s.putDrift x).asnNat = s.asnNat := rfl
@[simp] theorem State.putDrift_get (x : DriftState) (g : Fld) : (s.putDrift x).get g = s.get g := rfl
@[simp] theorem State.putDrift_bit (x : DriftState) (g : Fld) : (s.putDrift x).bit g = s.bit g := rfl
@[simp] theorem State.putDrift_getI (x : DriftState) (g : Fld) : (s.putDrift x).getI g = s.getI g := rfl
@[simp] theorem State.putDrift_word (x : DriftState) (k : Nat) : (s.putDrift x).word k = s.word k := rfl

/-! ## `putFwd` -/

@[simp] theorem State.putFwd_part (x : FwdState) : (s.putFwd x).part = s.part := rfl
@[simp] theorem State.putFwd_regs (x : FwdState) : (s.putFwd x).regs = s.regs := rfl
@[simp] theorem State.putFwd_boot (x : FwdState) : (s.putFwd x).boot = s.boot := rfl
@[simp] theorem State.putFwd_flash (x : FwdState) : (s.putFwd x).flash = s.flash := rfl
@[simp] theorem State.putFwd_flashSize (x : FwdState) : (s.putFwd x).flashSize = s.flashSize := rfl
@[simp] theorem State.putFwd_window (x : FwdState) : (s.putFwd x).window = s.window := rfl
@[simp] theorem State.putFwd_otp (x : FwdState) : (s.putFwd x).otp = s.otp := rfl
@[simp] theorem State.putFwd_ev (x : FwdState) : (s.putFwd x).ev = s.ev := rfl
@[simp] theorem State.putFwd_pcie (x : FwdState) : (s.putFwd x).pcie = s.pcie := rfl
@[simp] theorem State.putFwd_hqs (x : FwdState) : (s.putFwd x).hqs = s.hqs := rfl
@[simp] theorem State.putFwd_paths (x : FwdState) : (s.putFwd x).paths = s.paths := rfl
@[simp] theorem State.putFwd_jesd (x : FwdState) : (s.putFwd x).jesd = s.jesd := rfl
@[simp] theorem State.putFwd_osc (x : FwdState) : (s.putFwd x).osc = s.osc := rfl
@[simp] theorem State.putFwd_ces (x : FwdState) : (s.putFwd x).ces = s.ces := rfl
@[simp] theorem State.putFwd_tes (x : FwdState) : (s.putFwd x).tes = s.tes := rfl
@[simp] theorem State.putFwd_imap (x : FwdState) : (s.putFwd x).imap = s.imap := rfl
@[simp] theorem State.putFwd_psm (x : FwdState) : (s.putFwd x).psm = s.psm := rfl
@[simp] theorem State.putFwd_drift (x : FwdState) : (s.putFwd x).drift = s.drift := rfl
@[simp] theorem State.putFwd_fwd (x : FwdState) : (s.putFwd x).fwd = x := rfl
@[simp] theorem State.putFwd_sched (x : FwdState) : (s.putFwd x).sched = s.sched := rfl
@[simp] theorem State.putFwd_queues (x : FwdState) : (s.putFwd x).queues = s.queues := rfl
@[simp] theorem State.putFwd_tb (x : FwdState) : (s.putFwd x).tb = s.tb := rfl
@[simp] theorem State.putFwd_sec (x : FwdState) : (s.putFwd x).sec = s.sec := rfl
@[simp] theorem State.putFwd_tree (x : FwdState) : (s.putFwd x).tree = s.tree := rfl
@[simp] theorem State.putFwd_eth (x : FwdState) : (s.putFwd x).eth = s.eth := rfl
@[simp] theorem State.putFwd_app (x : FwdState) : (s.putFwd x).app = s.app := rfl
@[simp] theorem State.putFwd_cpus (x : FwdState) : (s.putFwd x).cpus = s.cpus := rfl
@[simp] theorem State.putFwd_mi (x : FwdState) : (s.putFwd x).mi = s.mi := rfl
@[simp] theorem State.putFwd_pair (x : FwdState) : (s.putFwd x).pair = s.pair := rfl
@[simp] theorem State.putFwd_upd (x : FwdState) : (s.putFwd x).upd = s.upd := rfl
@[simp] theorem State.putFwd_pwr (x : FwdState) : (s.putFwd x).pwr = s.pwr := rfl
@[simp] theorem State.putFwd_snaps (x : FwdState) : (s.putFwd x).snaps = s.snaps := rfl
@[simp] theorem State.putFwd_now (x : FwdState) : (s.putFwd x).now = s.now := rfl
@[simp] theorem State.putFwd_draws (x : FwdState) : (s.putFwd x).draws = s.draws := rfl
@[simp] theorem State.putFwd_out (x : FwdState) : (s.putFwd x).out = s.out := rfl
@[simp] theorem State.putFwd_reply (x : FwdState) : (s.putFwd x).reply = s.reply := rfl
@[simp] theorem State.putFwd_pending (x : FwdState) : (s.putFwd x).pending = s.pending := rfl
@[simp] theorem State.putFwd_path (x : FwdState) (k : Nat) : (s.putFwd x).path k = s.path k := rfl
@[simp] theorem State.putFwd_ce (x : FwdState) (k : Nat) : (s.putFwd x).ce k = s.ce k := rfl
@[simp] theorem State.putFwd_te (x : FwdState) (k : Nat) : (s.putFwd x).te k = s.te k := rfl
@[simp] theorem State.putFwd_ring (x : FwdState) (k : Nat) : (s.putFwd x).ring k = s.ring k := rfl
@[simp] theorem State.putFwd_tso (x : FwdState) (k : Nat) : (s.putFwd x).tso k = s.tso k := rfl
@[simp] theorem State.putFwd_gt (x : FwdState) (k : Nat) : (s.putFwd x).gt k = s.gt k := rfl
@[simp] theorem State.putFwd_snapsOf (x : FwdState) (k : Requester) : (s.putFwd x).snapsOf k = s.snapsOf k := rfl
@[simp] theorem State.putFwd_queue (x : FwdState) (k : Nat) : (s.putFwd x).queue k = s.queue k := rfl
@[simp] theorem State.putFwd_hq (x : FwdState) (k : Nat) : (s.putFwd x).hq k = s.hq k := rfl
@[simp] theorem State.putFwd_tbNs (x : FwdState) : (s.putFwd x).tbNs = s.tbNs := rfl
@[simp] theorem State.putFwd_asnNat (x : FwdState) : (s.putFwd x).asnNat = s.asnNat := rfl
@[simp] theorem State.putFwd_get (x : FwdState) (g : Fld) : (s.putFwd x).get g = s.get g := rfl
@[simp] theorem State.putFwd_bit (x : FwdState) (g : Fld) : (s.putFwd x).bit g = s.bit g := rfl
@[simp] theorem State.putFwd_getI (x : FwdState) (g : Fld) : (s.putFwd x).getI g = s.getI g := rfl
@[simp] theorem State.putFwd_word (x : FwdState) (k : Nat) : (s.putFwd x).word k = s.word k := rfl

/-! ## `putSched` -/

@[simp] theorem State.putSched_part (x : SchedState) : (s.putSched x).part = s.part := rfl
@[simp] theorem State.putSched_regs (x : SchedState) : (s.putSched x).regs = s.regs := rfl
@[simp] theorem State.putSched_boot (x : SchedState) : (s.putSched x).boot = s.boot := rfl
@[simp] theorem State.putSched_flash (x : SchedState) : (s.putSched x).flash = s.flash := rfl
@[simp] theorem State.putSched_flashSize (x : SchedState) : (s.putSched x).flashSize = s.flashSize := rfl
@[simp] theorem State.putSched_window (x : SchedState) : (s.putSched x).window = s.window := rfl
@[simp] theorem State.putSched_otp (x : SchedState) : (s.putSched x).otp = s.otp := rfl
@[simp] theorem State.putSched_ev (x : SchedState) : (s.putSched x).ev = s.ev := rfl
@[simp] theorem State.putSched_pcie (x : SchedState) : (s.putSched x).pcie = s.pcie := rfl
@[simp] theorem State.putSched_hqs (x : SchedState) : (s.putSched x).hqs = s.hqs := rfl
@[simp] theorem State.putSched_paths (x : SchedState) : (s.putSched x).paths = s.paths := rfl
@[simp] theorem State.putSched_jesd (x : SchedState) : (s.putSched x).jesd = s.jesd := rfl
@[simp] theorem State.putSched_osc (x : SchedState) : (s.putSched x).osc = s.osc := rfl
@[simp] theorem State.putSched_ces (x : SchedState) : (s.putSched x).ces = s.ces := rfl
@[simp] theorem State.putSched_tes (x : SchedState) : (s.putSched x).tes = s.tes := rfl
@[simp] theorem State.putSched_imap (x : SchedState) : (s.putSched x).imap = s.imap := rfl
@[simp] theorem State.putSched_psm (x : SchedState) : (s.putSched x).psm = s.psm := rfl
@[simp] theorem State.putSched_drift (x : SchedState) : (s.putSched x).drift = s.drift := rfl
@[simp] theorem State.putSched_fwd (x : SchedState) : (s.putSched x).fwd = s.fwd := rfl
@[simp] theorem State.putSched_sched (x : SchedState) : (s.putSched x).sched = x := rfl
@[simp] theorem State.putSched_queues (x : SchedState) : (s.putSched x).queues = s.queues := rfl
@[simp] theorem State.putSched_tb (x : SchedState) : (s.putSched x).tb = s.tb := rfl
@[simp] theorem State.putSched_sec (x : SchedState) : (s.putSched x).sec = s.sec := rfl
@[simp] theorem State.putSched_tree (x : SchedState) : (s.putSched x).tree = s.tree := rfl
@[simp] theorem State.putSched_eth (x : SchedState) : (s.putSched x).eth = s.eth := rfl
@[simp] theorem State.putSched_app (x : SchedState) : (s.putSched x).app = s.app := rfl
@[simp] theorem State.putSched_cpus (x : SchedState) : (s.putSched x).cpus = s.cpus := rfl
@[simp] theorem State.putSched_mi (x : SchedState) : (s.putSched x).mi = s.mi := rfl
@[simp] theorem State.putSched_pair (x : SchedState) : (s.putSched x).pair = s.pair := rfl
@[simp] theorem State.putSched_upd (x : SchedState) : (s.putSched x).upd = s.upd := rfl
@[simp] theorem State.putSched_pwr (x : SchedState) : (s.putSched x).pwr = s.pwr := rfl
@[simp] theorem State.putSched_snaps (x : SchedState) : (s.putSched x).snaps = s.snaps := rfl
@[simp] theorem State.putSched_now (x : SchedState) : (s.putSched x).now = s.now := rfl
@[simp] theorem State.putSched_draws (x : SchedState) : (s.putSched x).draws = s.draws := rfl
@[simp] theorem State.putSched_out (x : SchedState) : (s.putSched x).out = s.out := rfl
@[simp] theorem State.putSched_reply (x : SchedState) : (s.putSched x).reply = s.reply := rfl
@[simp] theorem State.putSched_pending (x : SchedState) : (s.putSched x).pending = s.pending := rfl
@[simp] theorem State.putSched_path (x : SchedState) (k : Nat) : (s.putSched x).path k = s.path k := rfl
@[simp] theorem State.putSched_ce (x : SchedState) (k : Nat) : (s.putSched x).ce k = s.ce k := rfl
@[simp] theorem State.putSched_te (x : SchedState) (k : Nat) : (s.putSched x).te k = s.te k := rfl
@[simp] theorem State.putSched_ring (x : SchedState) (k : Nat) : (s.putSched x).ring k = s.ring k := rfl
@[simp] theorem State.putSched_tso (x : SchedState) (k : Nat) : (s.putSched x).tso k = s.tso k := rfl
@[simp] theorem State.putSched_gt (x : SchedState) (k : Nat) : (s.putSched x).gt k = s.gt k := rfl
@[simp] theorem State.putSched_snapsOf (x : SchedState) (k : Requester) : (s.putSched x).snapsOf k = s.snapsOf k := rfl
@[simp] theorem State.putSched_queue (x : SchedState) (k : Nat) : (s.putSched x).queue k = s.queue k := rfl
@[simp] theorem State.putSched_hq (x : SchedState) (k : Nat) : (s.putSched x).hq k = s.hq k := rfl
@[simp] theorem State.putSched_tbNs (x : SchedState) : (s.putSched x).tbNs = s.tbNs := rfl
@[simp] theorem State.putSched_asnNat (x : SchedState) : (s.putSched x).asnNat = s.asnNat := rfl
@[simp] theorem State.putSched_get (x : SchedState) (g : Fld) : (s.putSched x).get g = s.get g := rfl
@[simp] theorem State.putSched_bit (x : SchedState) (g : Fld) : (s.putSched x).bit g = s.bit g := rfl
@[simp] theorem State.putSched_getI (x : SchedState) (g : Fld) : (s.putSched x).getI g = s.getI g := rfl
@[simp] theorem State.putSched_word (x : SchedState) (k : Nat) : (s.putSched x).word k = s.word k := rfl

/-! ## `putTb` -/

@[simp] theorem State.putTb_part (x : TimeState) : (s.putTb x).part = s.part := rfl
@[simp] theorem State.putTb_regs (x : TimeState) : (s.putTb x).regs = s.regs := rfl
@[simp] theorem State.putTb_boot (x : TimeState) : (s.putTb x).boot = s.boot := rfl
@[simp] theorem State.putTb_flash (x : TimeState) : (s.putTb x).flash = s.flash := rfl
@[simp] theorem State.putTb_flashSize (x : TimeState) : (s.putTb x).flashSize = s.flashSize := rfl
@[simp] theorem State.putTb_window (x : TimeState) : (s.putTb x).window = s.window := rfl
@[simp] theorem State.putTb_otp (x : TimeState) : (s.putTb x).otp = s.otp := rfl
@[simp] theorem State.putTb_ev (x : TimeState) : (s.putTb x).ev = s.ev := rfl
@[simp] theorem State.putTb_pcie (x : TimeState) : (s.putTb x).pcie = s.pcie := rfl
@[simp] theorem State.putTb_hqs (x : TimeState) : (s.putTb x).hqs = s.hqs := rfl
@[simp] theorem State.putTb_paths (x : TimeState) : (s.putTb x).paths = s.paths := rfl
@[simp] theorem State.putTb_jesd (x : TimeState) : (s.putTb x).jesd = s.jesd := rfl
@[simp] theorem State.putTb_osc (x : TimeState) : (s.putTb x).osc = s.osc := rfl
@[simp] theorem State.putTb_ces (x : TimeState) : (s.putTb x).ces = s.ces := rfl
@[simp] theorem State.putTb_tes (x : TimeState) : (s.putTb x).tes = s.tes := rfl
@[simp] theorem State.putTb_imap (x : TimeState) : (s.putTb x).imap = s.imap := rfl
@[simp] theorem State.putTb_psm (x : TimeState) : (s.putTb x).psm = s.psm := rfl
@[simp] theorem State.putTb_drift (x : TimeState) : (s.putTb x).drift = s.drift := rfl
@[simp] theorem State.putTb_fwd (x : TimeState) : (s.putTb x).fwd = s.fwd := rfl
@[simp] theorem State.putTb_sched (x : TimeState) : (s.putTb x).sched = s.sched := rfl
@[simp] theorem State.putTb_queues (x : TimeState) : (s.putTb x).queues = s.queues := rfl
@[simp] theorem State.putTb_tb (x : TimeState) : (s.putTb x).tb = x := rfl
@[simp] theorem State.putTb_sec (x : TimeState) : (s.putTb x).sec = s.sec := rfl
@[simp] theorem State.putTb_tree (x : TimeState) : (s.putTb x).tree = s.tree := rfl
@[simp] theorem State.putTb_eth (x : TimeState) : (s.putTb x).eth = s.eth := rfl
@[simp] theorem State.putTb_app (x : TimeState) : (s.putTb x).app = s.app := rfl
@[simp] theorem State.putTb_cpus (x : TimeState) : (s.putTb x).cpus = s.cpus := rfl
@[simp] theorem State.putTb_mi (x : TimeState) : (s.putTb x).mi = s.mi := rfl
@[simp] theorem State.putTb_pair (x : TimeState) : (s.putTb x).pair = s.pair := rfl
@[simp] theorem State.putTb_upd (x : TimeState) : (s.putTb x).upd = s.upd := rfl
@[simp] theorem State.putTb_pwr (x : TimeState) : (s.putTb x).pwr = s.pwr := rfl
@[simp] theorem State.putTb_snaps (x : TimeState) : (s.putTb x).snaps = s.snaps := rfl
@[simp] theorem State.putTb_now (x : TimeState) : (s.putTb x).now = s.now := rfl
@[simp] theorem State.putTb_draws (x : TimeState) : (s.putTb x).draws = s.draws := rfl
@[simp] theorem State.putTb_out (x : TimeState) : (s.putTb x).out = s.out := rfl
@[simp] theorem State.putTb_reply (x : TimeState) : (s.putTb x).reply = s.reply := rfl
@[simp] theorem State.putTb_pending (x : TimeState) : (s.putTb x).pending = s.pending := rfl
@[simp] theorem State.putTb_path (x : TimeState) (k : Nat) : (s.putTb x).path k = s.path k := rfl
@[simp] theorem State.putTb_ce (x : TimeState) (k : Nat) : (s.putTb x).ce k = s.ce k := rfl
@[simp] theorem State.putTb_te (x : TimeState) (k : Nat) : (s.putTb x).te k = s.te k := rfl
@[simp] theorem State.putTb_ring (x : TimeState) (k : Nat) : (s.putTb x).ring k = s.ring k := rfl
@[simp] theorem State.putTb_snapsOf (x : TimeState) (k : Requester) : (s.putTb x).snapsOf k = s.snapsOf k := rfl
@[simp] theorem State.putTb_queue (x : TimeState) (k : Nat) : (s.putTb x).queue k = s.queue k := rfl
@[simp] theorem State.putTb_hq (x : TimeState) (k : Nat) : (s.putTb x).hq k = s.hq k := rfl
@[simp] theorem State.putTb_asnNat (x : TimeState) : (s.putTb x).asnNat = s.asnNat := rfl
@[simp] theorem State.putTb_get (x : TimeState) (g : Fld) : (s.putTb x).get g = s.get g := rfl
@[simp] theorem State.putTb_bit (x : TimeState) (g : Fld) : (s.putTb x).bit g = s.bit g := rfl
@[simp] theorem State.putTb_getI (x : TimeState) (g : Fld) : (s.putTb x).getI g = s.getI g := rfl
@[simp] theorem State.putTb_word (x : TimeState) (k : Nat) : (s.putTb x).word k = s.word k := rfl

/-! ## `putSec` -/

@[simp] theorem State.putSec_part (x : SecState) : (s.putSec x).part = s.part := rfl
@[simp] theorem State.putSec_regs (x : SecState) : (s.putSec x).regs = s.regs := rfl
@[simp] theorem State.putSec_boot (x : SecState) : (s.putSec x).boot = s.boot := rfl
@[simp] theorem State.putSec_flash (x : SecState) : (s.putSec x).flash = s.flash := rfl
@[simp] theorem State.putSec_flashSize (x : SecState) : (s.putSec x).flashSize = s.flashSize := rfl
@[simp] theorem State.putSec_window (x : SecState) : (s.putSec x).window = s.window := rfl
@[simp] theorem State.putSec_otp (x : SecState) : (s.putSec x).otp = s.otp := rfl
@[simp] theorem State.putSec_ev (x : SecState) : (s.putSec x).ev = s.ev := rfl
@[simp] theorem State.putSec_pcie (x : SecState) : (s.putSec x).pcie = s.pcie := rfl
@[simp] theorem State.putSec_hqs (x : SecState) : (s.putSec x).hqs = s.hqs := rfl
@[simp] theorem State.putSec_paths (x : SecState) : (s.putSec x).paths = s.paths := rfl
@[simp] theorem State.putSec_jesd (x : SecState) : (s.putSec x).jesd = s.jesd := rfl
@[simp] theorem State.putSec_osc (x : SecState) : (s.putSec x).osc = s.osc := rfl
@[simp] theorem State.putSec_ces (x : SecState) : (s.putSec x).ces = s.ces := rfl
@[simp] theorem State.putSec_tes (x : SecState) : (s.putSec x).tes = s.tes := rfl
@[simp] theorem State.putSec_imap (x : SecState) : (s.putSec x).imap = s.imap := rfl
@[simp] theorem State.putSec_psm (x : SecState) : (s.putSec x).psm = s.psm := rfl
@[simp] theorem State.putSec_drift (x : SecState) : (s.putSec x).drift = s.drift := rfl
@[simp] theorem State.putSec_fwd (x : SecState) : (s.putSec x).fwd = s.fwd := rfl
@[simp] theorem State.putSec_sched (x : SecState) : (s.putSec x).sched = s.sched := rfl
@[simp] theorem State.putSec_queues (x : SecState) : (s.putSec x).queues = s.queues := rfl
@[simp] theorem State.putSec_tb (x : SecState) : (s.putSec x).tb = s.tb := rfl
@[simp] theorem State.putSec_sec (x : SecState) : (s.putSec x).sec = x := rfl
@[simp] theorem State.putSec_tree (x : SecState) : (s.putSec x).tree = s.tree := rfl
@[simp] theorem State.putSec_eth (x : SecState) : (s.putSec x).eth = s.eth := rfl
@[simp] theorem State.putSec_app (x : SecState) : (s.putSec x).app = s.app := rfl
@[simp] theorem State.putSec_cpus (x : SecState) : (s.putSec x).cpus = s.cpus := rfl
@[simp] theorem State.putSec_mi (x : SecState) : (s.putSec x).mi = s.mi := rfl
@[simp] theorem State.putSec_pair (x : SecState) : (s.putSec x).pair = s.pair := rfl
@[simp] theorem State.putSec_upd (x : SecState) : (s.putSec x).upd = s.upd := rfl
@[simp] theorem State.putSec_pwr (x : SecState) : (s.putSec x).pwr = s.pwr := rfl
@[simp] theorem State.putSec_snaps (x : SecState) : (s.putSec x).snaps = s.snaps := rfl
@[simp] theorem State.putSec_now (x : SecState) : (s.putSec x).now = s.now := rfl
@[simp] theorem State.putSec_draws (x : SecState) : (s.putSec x).draws = s.draws := rfl
@[simp] theorem State.putSec_out (x : SecState) : (s.putSec x).out = s.out := rfl
@[simp] theorem State.putSec_reply (x : SecState) : (s.putSec x).reply = s.reply := rfl
@[simp] theorem State.putSec_pending (x : SecState) : (s.putSec x).pending = s.pending := rfl
@[simp] theorem State.putSec_path (x : SecState) (k : Nat) : (s.putSec x).path k = s.path k := rfl
@[simp] theorem State.putSec_ce (x : SecState) (k : Nat) : (s.putSec x).ce k = s.ce k := rfl
@[simp] theorem State.putSec_te (x : SecState) (k : Nat) : (s.putSec x).te k = s.te k := rfl
@[simp] theorem State.putSec_ring (x : SecState) (k : Nat) : (s.putSec x).ring k = s.ring k := rfl
@[simp] theorem State.putSec_tso (x : SecState) (k : Nat) : (s.putSec x).tso k = s.tso k := rfl
@[simp] theorem State.putSec_gt (x : SecState) (k : Nat) : (s.putSec x).gt k = s.gt k := rfl
@[simp] theorem State.putSec_snapsOf (x : SecState) (k : Requester) : (s.putSec x).snapsOf k = s.snapsOf k := rfl
@[simp] theorem State.putSec_queue (x : SecState) (k : Nat) : (s.putSec x).queue k = s.queue k := rfl
@[simp] theorem State.putSec_hq (x : SecState) (k : Nat) : (s.putSec x).hq k = s.hq k := rfl
@[simp] theorem State.putSec_tbNs (x : SecState) : (s.putSec x).tbNs = s.tbNs := rfl
@[simp] theorem State.putSec_asnNat (x : SecState) : (s.putSec x).asnNat = s.asnNat := rfl
@[simp] theorem State.putSec_get (x : SecState) (g : Fld) : (s.putSec x).get g = s.get g := rfl
@[simp] theorem State.putSec_bit (x : SecState) (g : Fld) : (s.putSec x).bit g = s.bit g := rfl
@[simp] theorem State.putSec_getI (x : SecState) (g : Fld) : (s.putSec x).getI g = s.getI g := rfl
@[simp] theorem State.putSec_word (x : SecState) (k : Nat) : (s.putSec x).word k = s.word k := rfl

/-! ## `putTree` -/

@[simp] theorem State.putTree_part (x : TreeState) : (s.putTree x).part = s.part := rfl
@[simp] theorem State.putTree_regs (x : TreeState) : (s.putTree x).regs = s.regs := rfl
@[simp] theorem State.putTree_boot (x : TreeState) : (s.putTree x).boot = s.boot := rfl
@[simp] theorem State.putTree_flash (x : TreeState) : (s.putTree x).flash = s.flash := rfl
@[simp] theorem State.putTree_flashSize (x : TreeState) : (s.putTree x).flashSize = s.flashSize := rfl
@[simp] theorem State.putTree_window (x : TreeState) : (s.putTree x).window = s.window := rfl
@[simp] theorem State.putTree_otp (x : TreeState) : (s.putTree x).otp = s.otp := rfl
@[simp] theorem State.putTree_ev (x : TreeState) : (s.putTree x).ev = s.ev := rfl
@[simp] theorem State.putTree_pcie (x : TreeState) : (s.putTree x).pcie = s.pcie := rfl
@[simp] theorem State.putTree_hqs (x : TreeState) : (s.putTree x).hqs = s.hqs := rfl
@[simp] theorem State.putTree_paths (x : TreeState) : (s.putTree x).paths = s.paths := rfl
@[simp] theorem State.putTree_jesd (x : TreeState) : (s.putTree x).jesd = s.jesd := rfl
@[simp] theorem State.putTree_osc (x : TreeState) : (s.putTree x).osc = s.osc := rfl
@[simp] theorem State.putTree_ces (x : TreeState) : (s.putTree x).ces = s.ces := rfl
@[simp] theorem State.putTree_tes (x : TreeState) : (s.putTree x).tes = s.tes := rfl
@[simp] theorem State.putTree_imap (x : TreeState) : (s.putTree x).imap = s.imap := rfl
@[simp] theorem State.putTree_psm (x : TreeState) : (s.putTree x).psm = s.psm := rfl
@[simp] theorem State.putTree_drift (x : TreeState) : (s.putTree x).drift = s.drift := rfl
@[simp] theorem State.putTree_fwd (x : TreeState) : (s.putTree x).fwd = s.fwd := rfl
@[simp] theorem State.putTree_sched (x : TreeState) : (s.putTree x).sched = s.sched := rfl
@[simp] theorem State.putTree_queues (x : TreeState) : (s.putTree x).queues = s.queues := rfl
@[simp] theorem State.putTree_tb (x : TreeState) : (s.putTree x).tb = s.tb := rfl
@[simp] theorem State.putTree_sec (x : TreeState) : (s.putTree x).sec = s.sec := rfl
@[simp] theorem State.putTree_tree (x : TreeState) : (s.putTree x).tree = x := rfl
@[simp] theorem State.putTree_eth (x : TreeState) : (s.putTree x).eth = s.eth := rfl
@[simp] theorem State.putTree_app (x : TreeState) : (s.putTree x).app = s.app := rfl
@[simp] theorem State.putTree_cpus (x : TreeState) : (s.putTree x).cpus = s.cpus := rfl
@[simp] theorem State.putTree_mi (x : TreeState) : (s.putTree x).mi = s.mi := rfl
@[simp] theorem State.putTree_pair (x : TreeState) : (s.putTree x).pair = s.pair := rfl
@[simp] theorem State.putTree_upd (x : TreeState) : (s.putTree x).upd = s.upd := rfl
@[simp] theorem State.putTree_pwr (x : TreeState) : (s.putTree x).pwr = s.pwr := rfl
@[simp] theorem State.putTree_snaps (x : TreeState) : (s.putTree x).snaps = s.snaps := rfl
@[simp] theorem State.putTree_now (x : TreeState) : (s.putTree x).now = s.now := rfl
@[simp] theorem State.putTree_draws (x : TreeState) : (s.putTree x).draws = s.draws := rfl
@[simp] theorem State.putTree_out (x : TreeState) : (s.putTree x).out = s.out := rfl
@[simp] theorem State.putTree_reply (x : TreeState) : (s.putTree x).reply = s.reply := rfl
@[simp] theorem State.putTree_pending (x : TreeState) : (s.putTree x).pending = s.pending := rfl
@[simp] theorem State.putTree_path (x : TreeState) (k : Nat) : (s.putTree x).path k = s.path k := rfl
@[simp] theorem State.putTree_ce (x : TreeState) (k : Nat) : (s.putTree x).ce k = s.ce k := rfl
@[simp] theorem State.putTree_te (x : TreeState) (k : Nat) : (s.putTree x).te k = s.te k := rfl
@[simp] theorem State.putTree_ring (x : TreeState) (k : Nat) : (s.putTree x).ring k = s.ring k := rfl
@[simp] theorem State.putTree_tso (x : TreeState) (k : Nat) : (s.putTree x).tso k = s.tso k := rfl
@[simp] theorem State.putTree_gt (x : TreeState) (k : Nat) : (s.putTree x).gt k = s.gt k := rfl
@[simp] theorem State.putTree_snapsOf (x : TreeState) (k : Requester) : (s.putTree x).snapsOf k = s.snapsOf k := rfl
@[simp] theorem State.putTree_queue (x : TreeState) (k : Nat) : (s.putTree x).queue k = s.queue k := rfl
@[simp] theorem State.putTree_hq (x : TreeState) (k : Nat) : (s.putTree x).hq k = s.hq k := rfl
@[simp] theorem State.putTree_tbNs (x : TreeState) : (s.putTree x).tbNs = s.tbNs := rfl
@[simp] theorem State.putTree_asnNat (x : TreeState) : (s.putTree x).asnNat = s.asnNat := rfl
@[simp] theorem State.putTree_get (x : TreeState) (g : Fld) : (s.putTree x).get g = s.get g := rfl
@[simp] theorem State.putTree_bit (x : TreeState) (g : Fld) : (s.putTree x).bit g = s.bit g := rfl
@[simp] theorem State.putTree_getI (x : TreeState) (g : Fld) : (s.putTree x).getI g = s.getI g := rfl
@[simp] theorem State.putTree_word (x : TreeState) (k : Nat) : (s.putTree x).word k = s.word k := rfl

/-! ## `putEth` -/

@[simp] theorem State.putEth_part (x : EthState) : (s.putEth x).part = s.part := rfl
@[simp] theorem State.putEth_regs (x : EthState) : (s.putEth x).regs = s.regs := rfl
@[simp] theorem State.putEth_boot (x : EthState) : (s.putEth x).boot = s.boot := rfl
@[simp] theorem State.putEth_flash (x : EthState) : (s.putEth x).flash = s.flash := rfl
@[simp] theorem State.putEth_flashSize (x : EthState) : (s.putEth x).flashSize = s.flashSize := rfl
@[simp] theorem State.putEth_window (x : EthState) : (s.putEth x).window = s.window := rfl
@[simp] theorem State.putEth_otp (x : EthState) : (s.putEth x).otp = s.otp := rfl
@[simp] theorem State.putEth_ev (x : EthState) : (s.putEth x).ev = s.ev := rfl
@[simp] theorem State.putEth_pcie (x : EthState) : (s.putEth x).pcie = s.pcie := rfl
@[simp] theorem State.putEth_hqs (x : EthState) : (s.putEth x).hqs = s.hqs := rfl
@[simp] theorem State.putEth_paths (x : EthState) : (s.putEth x).paths = s.paths := rfl
@[simp] theorem State.putEth_jesd (x : EthState) : (s.putEth x).jesd = s.jesd := rfl
@[simp] theorem State.putEth_osc (x : EthState) : (s.putEth x).osc = s.osc := rfl
@[simp] theorem State.putEth_ces (x : EthState) : (s.putEth x).ces = s.ces := rfl
@[simp] theorem State.putEth_tes (x : EthState) : (s.putEth x).tes = s.tes := rfl
@[simp] theorem State.putEth_imap (x : EthState) : (s.putEth x).imap = s.imap := rfl
@[simp] theorem State.putEth_psm (x : EthState) : (s.putEth x).psm = s.psm := rfl
@[simp] theorem State.putEth_drift (x : EthState) : (s.putEth x).drift = s.drift := rfl
@[simp] theorem State.putEth_fwd (x : EthState) : (s.putEth x).fwd = s.fwd := rfl
@[simp] theorem State.putEth_sched (x : EthState) : (s.putEth x).sched = s.sched := rfl
@[simp] theorem State.putEth_queues (x : EthState) : (s.putEth x).queues = s.queues := rfl
@[simp] theorem State.putEth_tb (x : EthState) : (s.putEth x).tb = s.tb := rfl
@[simp] theorem State.putEth_sec (x : EthState) : (s.putEth x).sec = s.sec := rfl
@[simp] theorem State.putEth_tree (x : EthState) : (s.putEth x).tree = s.tree := rfl
@[simp] theorem State.putEth_eth (x : EthState) : (s.putEth x).eth = x := rfl
@[simp] theorem State.putEth_app (x : EthState) : (s.putEth x).app = s.app := rfl
@[simp] theorem State.putEth_cpus (x : EthState) : (s.putEth x).cpus = s.cpus := rfl
@[simp] theorem State.putEth_mi (x : EthState) : (s.putEth x).mi = s.mi := rfl
@[simp] theorem State.putEth_pair (x : EthState) : (s.putEth x).pair = s.pair := rfl
@[simp] theorem State.putEth_upd (x : EthState) : (s.putEth x).upd = s.upd := rfl
@[simp] theorem State.putEth_pwr (x : EthState) : (s.putEth x).pwr = s.pwr := rfl
@[simp] theorem State.putEth_snaps (x : EthState) : (s.putEth x).snaps = s.snaps := rfl
@[simp] theorem State.putEth_now (x : EthState) : (s.putEth x).now = s.now := rfl
@[simp] theorem State.putEth_draws (x : EthState) : (s.putEth x).draws = s.draws := rfl
@[simp] theorem State.putEth_out (x : EthState) : (s.putEth x).out = s.out := rfl
@[simp] theorem State.putEth_reply (x : EthState) : (s.putEth x).reply = s.reply := rfl
@[simp] theorem State.putEth_pending (x : EthState) : (s.putEth x).pending = s.pending := rfl
@[simp] theorem State.putEth_path (x : EthState) (k : Nat) : (s.putEth x).path k = s.path k := rfl
@[simp] theorem State.putEth_ce (x : EthState) (k : Nat) : (s.putEth x).ce k = s.ce k := rfl
@[simp] theorem State.putEth_te (x : EthState) (k : Nat) : (s.putEth x).te k = s.te k := rfl
@[simp] theorem State.putEth_ring (x : EthState) (k : Nat) : (s.putEth x).ring k = s.ring k := rfl
@[simp] theorem State.putEth_tso (x : EthState) (k : Nat) : (s.putEth x).tso k = s.tso k := rfl
@[simp] theorem State.putEth_gt (x : EthState) (k : Nat) : (s.putEth x).gt k = s.gt k := rfl
@[simp] theorem State.putEth_snapsOf (x : EthState) (k : Requester) : (s.putEth x).snapsOf k = s.snapsOf k := rfl
@[simp] theorem State.putEth_queue (x : EthState) (k : Nat) : (s.putEth x).queue k = s.queue k := rfl
@[simp] theorem State.putEth_hq (x : EthState) (k : Nat) : (s.putEth x).hq k = s.hq k := rfl
@[simp] theorem State.putEth_tbNs (x : EthState) : (s.putEth x).tbNs = s.tbNs := rfl
@[simp] theorem State.putEth_asnNat (x : EthState) : (s.putEth x).asnNat = s.asnNat := rfl
@[simp] theorem State.putEth_get (x : EthState) (g : Fld) : (s.putEth x).get g = s.get g := rfl
@[simp] theorem State.putEth_bit (x : EthState) (g : Fld) : (s.putEth x).bit g = s.bit g := rfl
@[simp] theorem State.putEth_getI (x : EthState) (g : Fld) : (s.putEth x).getI g = s.getI g := rfl
@[simp] theorem State.putEth_word (x : EthState) (k : Nat) : (s.putEth x).word k = s.word k := rfl

/-! ## `putApp` -/

@[simp] theorem State.putApp_part (x : AppState) : (s.putApp x).part = s.part := rfl
@[simp] theorem State.putApp_regs (x : AppState) : (s.putApp x).regs = s.regs := rfl
@[simp] theorem State.putApp_boot (x : AppState) : (s.putApp x).boot = s.boot := rfl
@[simp] theorem State.putApp_flash (x : AppState) : (s.putApp x).flash = s.flash := rfl
@[simp] theorem State.putApp_flashSize (x : AppState) : (s.putApp x).flashSize = s.flashSize := rfl
@[simp] theorem State.putApp_window (x : AppState) : (s.putApp x).window = s.window := rfl
@[simp] theorem State.putApp_otp (x : AppState) : (s.putApp x).otp = s.otp := rfl
@[simp] theorem State.putApp_ev (x : AppState) : (s.putApp x).ev = s.ev := rfl
@[simp] theorem State.putApp_pcie (x : AppState) : (s.putApp x).pcie = s.pcie := rfl
@[simp] theorem State.putApp_hqs (x : AppState) : (s.putApp x).hqs = s.hqs := rfl
@[simp] theorem State.putApp_paths (x : AppState) : (s.putApp x).paths = s.paths := rfl
@[simp] theorem State.putApp_jesd (x : AppState) : (s.putApp x).jesd = s.jesd := rfl
@[simp] theorem State.putApp_osc (x : AppState) : (s.putApp x).osc = s.osc := rfl
@[simp] theorem State.putApp_ces (x : AppState) : (s.putApp x).ces = s.ces := rfl
@[simp] theorem State.putApp_tes (x : AppState) : (s.putApp x).tes = s.tes := rfl
@[simp] theorem State.putApp_imap (x : AppState) : (s.putApp x).imap = s.imap := rfl
@[simp] theorem State.putApp_psm (x : AppState) : (s.putApp x).psm = s.psm := rfl
@[simp] theorem State.putApp_drift (x : AppState) : (s.putApp x).drift = s.drift := rfl
@[simp] theorem State.putApp_fwd (x : AppState) : (s.putApp x).fwd = s.fwd := rfl
@[simp] theorem State.putApp_sched (x : AppState) : (s.putApp x).sched = s.sched := rfl
@[simp] theorem State.putApp_queues (x : AppState) : (s.putApp x).queues = s.queues := rfl
@[simp] theorem State.putApp_tb (x : AppState) : (s.putApp x).tb = s.tb := rfl
@[simp] theorem State.putApp_sec (x : AppState) : (s.putApp x).sec = s.sec := rfl
@[simp] theorem State.putApp_tree (x : AppState) : (s.putApp x).tree = s.tree := rfl
@[simp] theorem State.putApp_eth (x : AppState) : (s.putApp x).eth = s.eth := rfl
@[simp] theorem State.putApp_app (x : AppState) : (s.putApp x).app = x := rfl
@[simp] theorem State.putApp_cpus (x : AppState) : (s.putApp x).cpus = s.cpus := rfl
@[simp] theorem State.putApp_mi (x : AppState) : (s.putApp x).mi = s.mi := rfl
@[simp] theorem State.putApp_pair (x : AppState) : (s.putApp x).pair = s.pair := rfl
@[simp] theorem State.putApp_upd (x : AppState) : (s.putApp x).upd = s.upd := rfl
@[simp] theorem State.putApp_pwr (x : AppState) : (s.putApp x).pwr = s.pwr := rfl
@[simp] theorem State.putApp_snaps (x : AppState) : (s.putApp x).snaps = s.snaps := rfl
@[simp] theorem State.putApp_now (x : AppState) : (s.putApp x).now = s.now := rfl
@[simp] theorem State.putApp_draws (x : AppState) : (s.putApp x).draws = s.draws := rfl
@[simp] theorem State.putApp_out (x : AppState) : (s.putApp x).out = s.out := rfl
@[simp] theorem State.putApp_reply (x : AppState) : (s.putApp x).reply = s.reply := rfl
@[simp] theorem State.putApp_pending (x : AppState) : (s.putApp x).pending = s.pending := rfl
@[simp] theorem State.putApp_path (x : AppState) (k : Nat) : (s.putApp x).path k = s.path k := rfl
@[simp] theorem State.putApp_ce (x : AppState) (k : Nat) : (s.putApp x).ce k = s.ce k := rfl
@[simp] theorem State.putApp_te (x : AppState) (k : Nat) : (s.putApp x).te k = s.te k := rfl
@[simp] theorem State.putApp_ring (x : AppState) (k : Nat) : (s.putApp x).ring k = s.ring k := rfl
@[simp] theorem State.putApp_tso (x : AppState) (k : Nat) : (s.putApp x).tso k = s.tso k := rfl
@[simp] theorem State.putApp_gt (x : AppState) (k : Nat) : (s.putApp x).gt k = s.gt k := rfl
@[simp] theorem State.putApp_snapsOf (x : AppState) (k : Requester) : (s.putApp x).snapsOf k = s.snapsOf k := rfl
@[simp] theorem State.putApp_queue (x : AppState) (k : Nat) : (s.putApp x).queue k = s.queue k := rfl
@[simp] theorem State.putApp_hq (x : AppState) (k : Nat) : (s.putApp x).hq k = s.hq k := rfl
@[simp] theorem State.putApp_tbNs (x : AppState) : (s.putApp x).tbNs = s.tbNs := rfl
@[simp] theorem State.putApp_asnNat (x : AppState) : (s.putApp x).asnNat = s.asnNat := rfl
@[simp] theorem State.putApp_get (x : AppState) (g : Fld) : (s.putApp x).get g = s.get g := rfl
@[simp] theorem State.putApp_bit (x : AppState) (g : Fld) : (s.putApp x).bit g = s.bit g := rfl
@[simp] theorem State.putApp_getI (x : AppState) (g : Fld) : (s.putApp x).getI g = s.getI g := rfl
@[simp] theorem State.putApp_word (x : AppState) (k : Nat) : (s.putApp x).word k = s.word k := rfl

/-! ## `putMi` -/

@[simp] theorem State.putMi_part (x : MiState) : (s.putMi x).part = s.part := rfl
@[simp] theorem State.putMi_regs (x : MiState) : (s.putMi x).regs = s.regs := rfl
@[simp] theorem State.putMi_boot (x : MiState) : (s.putMi x).boot = s.boot := rfl
@[simp] theorem State.putMi_flash (x : MiState) : (s.putMi x).flash = s.flash := rfl
@[simp] theorem State.putMi_flashSize (x : MiState) : (s.putMi x).flashSize = s.flashSize := rfl
@[simp] theorem State.putMi_window (x : MiState) : (s.putMi x).window = s.window := rfl
@[simp] theorem State.putMi_otp (x : MiState) : (s.putMi x).otp = s.otp := rfl
@[simp] theorem State.putMi_ev (x : MiState) : (s.putMi x).ev = s.ev := rfl
@[simp] theorem State.putMi_pcie (x : MiState) : (s.putMi x).pcie = s.pcie := rfl
@[simp] theorem State.putMi_hqs (x : MiState) : (s.putMi x).hqs = s.hqs := rfl
@[simp] theorem State.putMi_paths (x : MiState) : (s.putMi x).paths = s.paths := rfl
@[simp] theorem State.putMi_jesd (x : MiState) : (s.putMi x).jesd = s.jesd := rfl
@[simp] theorem State.putMi_osc (x : MiState) : (s.putMi x).osc = s.osc := rfl
@[simp] theorem State.putMi_ces (x : MiState) : (s.putMi x).ces = s.ces := rfl
@[simp] theorem State.putMi_tes (x : MiState) : (s.putMi x).tes = s.tes := rfl
@[simp] theorem State.putMi_imap (x : MiState) : (s.putMi x).imap = s.imap := rfl
@[simp] theorem State.putMi_psm (x : MiState) : (s.putMi x).psm = s.psm := rfl
@[simp] theorem State.putMi_drift (x : MiState) : (s.putMi x).drift = s.drift := rfl
@[simp] theorem State.putMi_fwd (x : MiState) : (s.putMi x).fwd = s.fwd := rfl
@[simp] theorem State.putMi_sched (x : MiState) : (s.putMi x).sched = s.sched := rfl
@[simp] theorem State.putMi_queues (x : MiState) : (s.putMi x).queues = s.queues := rfl
@[simp] theorem State.putMi_tb (x : MiState) : (s.putMi x).tb = s.tb := rfl
@[simp] theorem State.putMi_sec (x : MiState) : (s.putMi x).sec = s.sec := rfl
@[simp] theorem State.putMi_tree (x : MiState) : (s.putMi x).tree = s.tree := rfl
@[simp] theorem State.putMi_eth (x : MiState) : (s.putMi x).eth = s.eth := rfl
@[simp] theorem State.putMi_app (x : MiState) : (s.putMi x).app = s.app := rfl
@[simp] theorem State.putMi_cpus (x : MiState) : (s.putMi x).cpus = s.cpus := rfl
@[simp] theorem State.putMi_mi (x : MiState) : (s.putMi x).mi = x := rfl
@[simp] theorem State.putMi_pair (x : MiState) : (s.putMi x).pair = s.pair := rfl
@[simp] theorem State.putMi_upd (x : MiState) : (s.putMi x).upd = s.upd := rfl
@[simp] theorem State.putMi_pwr (x : MiState) : (s.putMi x).pwr = s.pwr := rfl
@[simp] theorem State.putMi_snaps (x : MiState) : (s.putMi x).snaps = s.snaps := rfl
@[simp] theorem State.putMi_now (x : MiState) : (s.putMi x).now = s.now := rfl
@[simp] theorem State.putMi_draws (x : MiState) : (s.putMi x).draws = s.draws := rfl
@[simp] theorem State.putMi_out (x : MiState) : (s.putMi x).out = s.out := rfl
@[simp] theorem State.putMi_reply (x : MiState) : (s.putMi x).reply = s.reply := rfl
@[simp] theorem State.putMi_pending (x : MiState) : (s.putMi x).pending = s.pending := rfl
@[simp] theorem State.putMi_path (x : MiState) (k : Nat) : (s.putMi x).path k = s.path k := rfl
@[simp] theorem State.putMi_ce (x : MiState) (k : Nat) : (s.putMi x).ce k = s.ce k := rfl
@[simp] theorem State.putMi_te (x : MiState) (k : Nat) : (s.putMi x).te k = s.te k := rfl
@[simp] theorem State.putMi_ring (x : MiState) (k : Nat) : (s.putMi x).ring k = s.ring k := rfl
@[simp] theorem State.putMi_tso (x : MiState) (k : Nat) : (s.putMi x).tso k = s.tso k := rfl
@[simp] theorem State.putMi_gt (x : MiState) (k : Nat) : (s.putMi x).gt k = s.gt k := rfl
@[simp] theorem State.putMi_snapsOf (x : MiState) (k : Requester) : (s.putMi x).snapsOf k = s.snapsOf k := rfl
@[simp] theorem State.putMi_queue (x : MiState) (k : Nat) : (s.putMi x).queue k = s.queue k := rfl
@[simp] theorem State.putMi_hq (x : MiState) (k : Nat) : (s.putMi x).hq k = s.hq k := rfl
@[simp] theorem State.putMi_tbNs (x : MiState) : (s.putMi x).tbNs = s.tbNs := rfl
@[simp] theorem State.putMi_asnNat (x : MiState) : (s.putMi x).asnNat = s.asnNat := rfl
@[simp] theorem State.putMi_get (x : MiState) (g : Fld) : (s.putMi x).get g = s.get g := rfl
@[simp] theorem State.putMi_bit (x : MiState) (g : Fld) : (s.putMi x).bit g = s.bit g := rfl
@[simp] theorem State.putMi_getI (x : MiState) (g : Fld) : (s.putMi x).getI g = s.getI g := rfl
@[simp] theorem State.putMi_word (x : MiState) (k : Nat) : (s.putMi x).word k = s.word k := rfl

/-! ## `putPair` -/

@[simp] theorem State.putPair_part (x : PairState) : (s.putPair x).part = s.part := rfl
@[simp] theorem State.putPair_regs (x : PairState) : (s.putPair x).regs = s.regs := rfl
@[simp] theorem State.putPair_boot (x : PairState) : (s.putPair x).boot = s.boot := rfl
@[simp] theorem State.putPair_flash (x : PairState) : (s.putPair x).flash = s.flash := rfl
@[simp] theorem State.putPair_flashSize (x : PairState) : (s.putPair x).flashSize = s.flashSize := rfl
@[simp] theorem State.putPair_window (x : PairState) : (s.putPair x).window = s.window := rfl
@[simp] theorem State.putPair_otp (x : PairState) : (s.putPair x).otp = s.otp := rfl
@[simp] theorem State.putPair_ev (x : PairState) : (s.putPair x).ev = s.ev := rfl
@[simp] theorem State.putPair_pcie (x : PairState) : (s.putPair x).pcie = s.pcie := rfl
@[simp] theorem State.putPair_hqs (x : PairState) : (s.putPair x).hqs = s.hqs := rfl
@[simp] theorem State.putPair_paths (x : PairState) : (s.putPair x).paths = s.paths := rfl
@[simp] theorem State.putPair_jesd (x : PairState) : (s.putPair x).jesd = s.jesd := rfl
@[simp] theorem State.putPair_osc (x : PairState) : (s.putPair x).osc = s.osc := rfl
@[simp] theorem State.putPair_ces (x : PairState) : (s.putPair x).ces = s.ces := rfl
@[simp] theorem State.putPair_tes (x : PairState) : (s.putPair x).tes = s.tes := rfl
@[simp] theorem State.putPair_imap (x : PairState) : (s.putPair x).imap = s.imap := rfl
@[simp] theorem State.putPair_psm (x : PairState) : (s.putPair x).psm = s.psm := rfl
@[simp] theorem State.putPair_drift (x : PairState) : (s.putPair x).drift = s.drift := rfl
@[simp] theorem State.putPair_fwd (x : PairState) : (s.putPair x).fwd = s.fwd := rfl
@[simp] theorem State.putPair_sched (x : PairState) : (s.putPair x).sched = s.sched := rfl
@[simp] theorem State.putPair_queues (x : PairState) : (s.putPair x).queues = s.queues := rfl
@[simp] theorem State.putPair_tb (x : PairState) : (s.putPair x).tb = s.tb := rfl
@[simp] theorem State.putPair_sec (x : PairState) : (s.putPair x).sec = s.sec := rfl
@[simp] theorem State.putPair_tree (x : PairState) : (s.putPair x).tree = s.tree := rfl
@[simp] theorem State.putPair_eth (x : PairState) : (s.putPair x).eth = s.eth := rfl
@[simp] theorem State.putPair_app (x : PairState) : (s.putPair x).app = s.app := rfl
@[simp] theorem State.putPair_cpus (x : PairState) : (s.putPair x).cpus = s.cpus := rfl
@[simp] theorem State.putPair_mi (x : PairState) : (s.putPair x).mi = s.mi := rfl
@[simp] theorem State.putPair_pair (x : PairState) : (s.putPair x).pair = x := rfl
@[simp] theorem State.putPair_upd (x : PairState) : (s.putPair x).upd = s.upd := rfl
@[simp] theorem State.putPair_pwr (x : PairState) : (s.putPair x).pwr = s.pwr := rfl
@[simp] theorem State.putPair_snaps (x : PairState) : (s.putPair x).snaps = s.snaps := rfl
@[simp] theorem State.putPair_now (x : PairState) : (s.putPair x).now = s.now := rfl
@[simp] theorem State.putPair_draws (x : PairState) : (s.putPair x).draws = s.draws := rfl
@[simp] theorem State.putPair_out (x : PairState) : (s.putPair x).out = s.out := rfl
@[simp] theorem State.putPair_reply (x : PairState) : (s.putPair x).reply = s.reply := rfl
@[simp] theorem State.putPair_pending (x : PairState) : (s.putPair x).pending = s.pending := rfl
@[simp] theorem State.putPair_path (x : PairState) (k : Nat) : (s.putPair x).path k = s.path k := rfl
@[simp] theorem State.putPair_ce (x : PairState) (k : Nat) : (s.putPair x).ce k = s.ce k := rfl
@[simp] theorem State.putPair_te (x : PairState) (k : Nat) : (s.putPair x).te k = s.te k := rfl
@[simp] theorem State.putPair_ring (x : PairState) (k : Nat) : (s.putPair x).ring k = s.ring k := rfl
@[simp] theorem State.putPair_tso (x : PairState) (k : Nat) : (s.putPair x).tso k = s.tso k := rfl
@[simp] theorem State.putPair_gt (x : PairState) (k : Nat) : (s.putPair x).gt k = s.gt k := rfl
@[simp] theorem State.putPair_snapsOf (x : PairState) (k : Requester) : (s.putPair x).snapsOf k = s.snapsOf k := rfl
@[simp] theorem State.putPair_queue (x : PairState) (k : Nat) : (s.putPair x).queue k = s.queue k := rfl
@[simp] theorem State.putPair_hq (x : PairState) (k : Nat) : (s.putPair x).hq k = s.hq k := rfl
@[simp] theorem State.putPair_tbNs (x : PairState) : (s.putPair x).tbNs = s.tbNs := rfl
@[simp] theorem State.putPair_asnNat (x : PairState) : (s.putPair x).asnNat = s.asnNat := rfl
@[simp] theorem State.putPair_get (x : PairState) (g : Fld) : (s.putPair x).get g = s.get g := rfl
@[simp] theorem State.putPair_bit (x : PairState) (g : Fld) : (s.putPair x).bit g = s.bit g := rfl
@[simp] theorem State.putPair_getI (x : PairState) (g : Fld) : (s.putPair x).getI g = s.getI g := rfl
@[simp] theorem State.putPair_word (x : PairState) (k : Nat) : (s.putPair x).word k = s.word k := rfl

/-! ## `putUpd` -/

@[simp] theorem State.putUpd_part (x : UpdState) : (s.putUpd x).part = s.part := rfl
@[simp] theorem State.putUpd_regs (x : UpdState) : (s.putUpd x).regs = s.regs := rfl
@[simp] theorem State.putUpd_boot (x : UpdState) : (s.putUpd x).boot = s.boot := rfl
@[simp] theorem State.putUpd_flash (x : UpdState) : (s.putUpd x).flash = s.flash := rfl
@[simp] theorem State.putUpd_flashSize (x : UpdState) : (s.putUpd x).flashSize = s.flashSize := rfl
@[simp] theorem State.putUpd_window (x : UpdState) : (s.putUpd x).window = s.window := rfl
@[simp] theorem State.putUpd_otp (x : UpdState) : (s.putUpd x).otp = s.otp := rfl
@[simp] theorem State.putUpd_ev (x : UpdState) : (s.putUpd x).ev = s.ev := rfl
@[simp] theorem State.putUpd_pcie (x : UpdState) : (s.putUpd x).pcie = s.pcie := rfl
@[simp] theorem State.putUpd_hqs (x : UpdState) : (s.putUpd x).hqs = s.hqs := rfl
@[simp] theorem State.putUpd_paths (x : UpdState) : (s.putUpd x).paths = s.paths := rfl
@[simp] theorem State.putUpd_jesd (x : UpdState) : (s.putUpd x).jesd = s.jesd := rfl
@[simp] theorem State.putUpd_osc (x : UpdState) : (s.putUpd x).osc = s.osc := rfl
@[simp] theorem State.putUpd_ces (x : UpdState) : (s.putUpd x).ces = s.ces := rfl
@[simp] theorem State.putUpd_tes (x : UpdState) : (s.putUpd x).tes = s.tes := rfl
@[simp] theorem State.putUpd_imap (x : UpdState) : (s.putUpd x).imap = s.imap := rfl
@[simp] theorem State.putUpd_psm (x : UpdState) : (s.putUpd x).psm = s.psm := rfl
@[simp] theorem State.putUpd_drift (x : UpdState) : (s.putUpd x).drift = s.drift := rfl
@[simp] theorem State.putUpd_fwd (x : UpdState) : (s.putUpd x).fwd = s.fwd := rfl
@[simp] theorem State.putUpd_sched (x : UpdState) : (s.putUpd x).sched = s.sched := rfl
@[simp] theorem State.putUpd_queues (x : UpdState) : (s.putUpd x).queues = s.queues := rfl
@[simp] theorem State.putUpd_tb (x : UpdState) : (s.putUpd x).tb = s.tb := rfl
@[simp] theorem State.putUpd_sec (x : UpdState) : (s.putUpd x).sec = s.sec := rfl
@[simp] theorem State.putUpd_tree (x : UpdState) : (s.putUpd x).tree = s.tree := rfl
@[simp] theorem State.putUpd_eth (x : UpdState) : (s.putUpd x).eth = s.eth := rfl
@[simp] theorem State.putUpd_app (x : UpdState) : (s.putUpd x).app = s.app := rfl
@[simp] theorem State.putUpd_cpus (x : UpdState) : (s.putUpd x).cpus = s.cpus := rfl
@[simp] theorem State.putUpd_mi (x : UpdState) : (s.putUpd x).mi = s.mi := rfl
@[simp] theorem State.putUpd_pair (x : UpdState) : (s.putUpd x).pair = s.pair := rfl
@[simp] theorem State.putUpd_upd (x : UpdState) : (s.putUpd x).upd = x := rfl
@[simp] theorem State.putUpd_pwr (x : UpdState) : (s.putUpd x).pwr = s.pwr := rfl
@[simp] theorem State.putUpd_snaps (x : UpdState) : (s.putUpd x).snaps = s.snaps := rfl
@[simp] theorem State.putUpd_now (x : UpdState) : (s.putUpd x).now = s.now := rfl
@[simp] theorem State.putUpd_draws (x : UpdState) : (s.putUpd x).draws = s.draws := rfl
@[simp] theorem State.putUpd_out (x : UpdState) : (s.putUpd x).out = s.out := rfl
@[simp] theorem State.putUpd_reply (x : UpdState) : (s.putUpd x).reply = s.reply := rfl
@[simp] theorem State.putUpd_pending (x : UpdState) : (s.putUpd x).pending = s.pending := rfl
@[simp] theorem State.putUpd_path (x : UpdState) (k : Nat) : (s.putUpd x).path k = s.path k := rfl
@[simp] theorem State.putUpd_ce (x : UpdState) (k : Nat) : (s.putUpd x).ce k = s.ce k := rfl
@[simp] theorem State.putUpd_te (x : UpdState) (k : Nat) : (s.putUpd x).te k = s.te k := rfl
@[simp] theorem State.putUpd_ring (x : UpdState) (k : Nat) : (s.putUpd x).ring k = s.ring k := rfl
@[simp] theorem State.putUpd_tso (x : UpdState) (k : Nat) : (s.putUpd x).tso k = s.tso k := rfl
@[simp] theorem State.putUpd_gt (x : UpdState) (k : Nat) : (s.putUpd x).gt k = s.gt k := rfl
@[simp] theorem State.putUpd_snapsOf (x : UpdState) (k : Requester) : (s.putUpd x).snapsOf k = s.snapsOf k := rfl
@[simp] theorem State.putUpd_queue (x : UpdState) (k : Nat) : (s.putUpd x).queue k = s.queue k := rfl
@[simp] theorem State.putUpd_hq (x : UpdState) (k : Nat) : (s.putUpd x).hq k = s.hq k := rfl
@[simp] theorem State.putUpd_tbNs (x : UpdState) : (s.putUpd x).tbNs = s.tbNs := rfl
@[simp] theorem State.putUpd_asnNat (x : UpdState) : (s.putUpd x).asnNat = s.asnNat := rfl
@[simp] theorem State.putUpd_get (x : UpdState) (g : Fld) : (s.putUpd x).get g = s.get g := rfl
@[simp] theorem State.putUpd_bit (x : UpdState) (g : Fld) : (s.putUpd x).bit g = s.bit g := rfl
@[simp] theorem State.putUpd_getI (x : UpdState) (g : Fld) : (s.putUpd x).getI g = s.getI g := rfl
@[simp] theorem State.putUpd_word (x : UpdState) (k : Nat) : (s.putUpd x).word k = s.word k := rfl

/-! ## `putPwr` -/

@[simp] theorem State.putPwr_part (x : PowerState) : (s.putPwr x).part = s.part := rfl
@[simp] theorem State.putPwr_regs (x : PowerState) : (s.putPwr x).regs = s.regs := rfl
@[simp] theorem State.putPwr_boot (x : PowerState) : (s.putPwr x).boot = s.boot := rfl
@[simp] theorem State.putPwr_flash (x : PowerState) : (s.putPwr x).flash = s.flash := rfl
@[simp] theorem State.putPwr_flashSize (x : PowerState) : (s.putPwr x).flashSize = s.flashSize := rfl
@[simp] theorem State.putPwr_window (x : PowerState) : (s.putPwr x).window = s.window := rfl
@[simp] theorem State.putPwr_otp (x : PowerState) : (s.putPwr x).otp = s.otp := rfl
@[simp] theorem State.putPwr_ev (x : PowerState) : (s.putPwr x).ev = s.ev := rfl
@[simp] theorem State.putPwr_pcie (x : PowerState) : (s.putPwr x).pcie = s.pcie := rfl
@[simp] theorem State.putPwr_hqs (x : PowerState) : (s.putPwr x).hqs = s.hqs := rfl
@[simp] theorem State.putPwr_paths (x : PowerState) : (s.putPwr x).paths = s.paths := rfl
@[simp] theorem State.putPwr_jesd (x : PowerState) : (s.putPwr x).jesd = s.jesd := rfl
@[simp] theorem State.putPwr_osc (x : PowerState) : (s.putPwr x).osc = s.osc := rfl
@[simp] theorem State.putPwr_ces (x : PowerState) : (s.putPwr x).ces = s.ces := rfl
@[simp] theorem State.putPwr_tes (x : PowerState) : (s.putPwr x).tes = s.tes := rfl
@[simp] theorem State.putPwr_imap (x : PowerState) : (s.putPwr x).imap = s.imap := rfl
@[simp] theorem State.putPwr_psm (x : PowerState) : (s.putPwr x).psm = s.psm := rfl
@[simp] theorem State.putPwr_drift (x : PowerState) : (s.putPwr x).drift = s.drift := rfl
@[simp] theorem State.putPwr_fwd (x : PowerState) : (s.putPwr x).fwd = s.fwd := rfl
@[simp] theorem State.putPwr_sched (x : PowerState) : (s.putPwr x).sched = s.sched := rfl
@[simp] theorem State.putPwr_queues (x : PowerState) : (s.putPwr x).queues = s.queues := rfl
@[simp] theorem State.putPwr_tb (x : PowerState) : (s.putPwr x).tb = s.tb := rfl
@[simp] theorem State.putPwr_sec (x : PowerState) : (s.putPwr x).sec = s.sec := rfl
@[simp] theorem State.putPwr_tree (x : PowerState) : (s.putPwr x).tree = s.tree := rfl
@[simp] theorem State.putPwr_eth (x : PowerState) : (s.putPwr x).eth = s.eth := rfl
@[simp] theorem State.putPwr_app (x : PowerState) : (s.putPwr x).app = s.app := rfl
@[simp] theorem State.putPwr_cpus (x : PowerState) : (s.putPwr x).cpus = s.cpus := rfl
@[simp] theorem State.putPwr_mi (x : PowerState) : (s.putPwr x).mi = s.mi := rfl
@[simp] theorem State.putPwr_pair (x : PowerState) : (s.putPwr x).pair = s.pair := rfl
@[simp] theorem State.putPwr_upd (x : PowerState) : (s.putPwr x).upd = s.upd := rfl
@[simp] theorem State.putPwr_pwr (x : PowerState) : (s.putPwr x).pwr = x := rfl
@[simp] theorem State.putPwr_snaps (x : PowerState) : (s.putPwr x).snaps = s.snaps := rfl
@[simp] theorem State.putPwr_now (x : PowerState) : (s.putPwr x).now = s.now := rfl
@[simp] theorem State.putPwr_draws (x : PowerState) : (s.putPwr x).draws = s.draws := rfl
@[simp] theorem State.putPwr_out (x : PowerState) : (s.putPwr x).out = s.out := rfl
@[simp] theorem State.putPwr_reply (x : PowerState) : (s.putPwr x).reply = s.reply := rfl
@[simp] theorem State.putPwr_pending (x : PowerState) : (s.putPwr x).pending = s.pending := rfl
@[simp] theorem State.putPwr_path (x : PowerState) (k : Nat) : (s.putPwr x).path k = s.path k := rfl
@[simp] theorem State.putPwr_ce (x : PowerState) (k : Nat) : (s.putPwr x).ce k = s.ce k := rfl
@[simp] theorem State.putPwr_te (x : PowerState) (k : Nat) : (s.putPwr x).te k = s.te k := rfl
@[simp] theorem State.putPwr_ring (x : PowerState) (k : Nat) : (s.putPwr x).ring k = s.ring k := rfl
@[simp] theorem State.putPwr_tso (x : PowerState) (k : Nat) : (s.putPwr x).tso k = s.tso k := rfl
@[simp] theorem State.putPwr_gt (x : PowerState) (k : Nat) : (s.putPwr x).gt k = s.gt k := rfl
@[simp] theorem State.putPwr_snapsOf (x : PowerState) (k : Requester) : (s.putPwr x).snapsOf k = s.snapsOf k := rfl
@[simp] theorem State.putPwr_queue (x : PowerState) (k : Nat) : (s.putPwr x).queue k = s.queue k := rfl
@[simp] theorem State.putPwr_hq (x : PowerState) (k : Nat) : (s.putPwr x).hq k = s.hq k := rfl
@[simp] theorem State.putPwr_tbNs (x : PowerState) : (s.putPwr x).tbNs = s.tbNs := rfl
@[simp] theorem State.putPwr_asnNat (x : PowerState) : (s.putPwr x).asnNat = s.asnNat := rfl
@[simp] theorem State.putPwr_get (x : PowerState) (g : Fld) : (s.putPwr x).get g = s.get g := rfl
@[simp] theorem State.putPwr_bit (x : PowerState) (g : Fld) : (s.putPwr x).bit g = s.bit g := rfl
@[simp] theorem State.putPwr_getI (x : PowerState) (g : Fld) : (s.putPwr x).getI g = s.getI g := rfl
@[simp] theorem State.putPwr_word (x : PowerState) (k : Nat) : (s.putPwr x).word k = s.word k := rfl

/-! ## `putFlash` -/

@[simp] theorem State.putFlash_part (x : ByteMem) : (s.putFlash x).part = s.part := rfl
@[simp] theorem State.putFlash_regs (x : ByteMem) : (s.putFlash x).regs = s.regs := rfl
@[simp] theorem State.putFlash_boot (x : ByteMem) : (s.putFlash x).boot = s.boot := rfl
@[simp] theorem State.putFlash_flash (x : ByteMem) : (s.putFlash x).flash = x := rfl
@[simp] theorem State.putFlash_flashSize (x : ByteMem) : (s.putFlash x).flashSize = s.flashSize := rfl
@[simp] theorem State.putFlash_window (x : ByteMem) : (s.putFlash x).window = s.window := rfl
@[simp] theorem State.putFlash_otp (x : ByteMem) : (s.putFlash x).otp = s.otp := rfl
@[simp] theorem State.putFlash_ev (x : ByteMem) : (s.putFlash x).ev = s.ev := rfl
@[simp] theorem State.putFlash_pcie (x : ByteMem) : (s.putFlash x).pcie = s.pcie := rfl
@[simp] theorem State.putFlash_hqs (x : ByteMem) : (s.putFlash x).hqs = s.hqs := rfl
@[simp] theorem State.putFlash_paths (x : ByteMem) : (s.putFlash x).paths = s.paths := rfl
@[simp] theorem State.putFlash_jesd (x : ByteMem) : (s.putFlash x).jesd = s.jesd := rfl
@[simp] theorem State.putFlash_osc (x : ByteMem) : (s.putFlash x).osc = s.osc := rfl
@[simp] theorem State.putFlash_ces (x : ByteMem) : (s.putFlash x).ces = s.ces := rfl
@[simp] theorem State.putFlash_tes (x : ByteMem) : (s.putFlash x).tes = s.tes := rfl
@[simp] theorem State.putFlash_imap (x : ByteMem) : (s.putFlash x).imap = s.imap := rfl
@[simp] theorem State.putFlash_psm (x : ByteMem) : (s.putFlash x).psm = s.psm := rfl
@[simp] theorem State.putFlash_drift (x : ByteMem) : (s.putFlash x).drift = s.drift := rfl
@[simp] theorem State.putFlash_fwd (x : ByteMem) : (s.putFlash x).fwd = s.fwd := rfl
@[simp] theorem State.putFlash_sched (x : ByteMem) : (s.putFlash x).sched = s.sched := rfl
@[simp] theorem State.putFlash_queues (x : ByteMem) : (s.putFlash x).queues = s.queues := rfl
@[simp] theorem State.putFlash_tb (x : ByteMem) : (s.putFlash x).tb = s.tb := rfl
@[simp] theorem State.putFlash_sec (x : ByteMem) : (s.putFlash x).sec = s.sec := rfl
@[simp] theorem State.putFlash_tree (x : ByteMem) : (s.putFlash x).tree = s.tree := rfl
@[simp] theorem State.putFlash_eth (x : ByteMem) : (s.putFlash x).eth = s.eth := rfl
@[simp] theorem State.putFlash_app (x : ByteMem) : (s.putFlash x).app = s.app := rfl
@[simp] theorem State.putFlash_cpus (x : ByteMem) : (s.putFlash x).cpus = s.cpus := rfl
@[simp] theorem State.putFlash_mi (x : ByteMem) : (s.putFlash x).mi = s.mi := rfl
@[simp] theorem State.putFlash_pair (x : ByteMem) : (s.putFlash x).pair = s.pair := rfl
@[simp] theorem State.putFlash_upd (x : ByteMem) : (s.putFlash x).upd = s.upd := rfl
@[simp] theorem State.putFlash_pwr (x : ByteMem) : (s.putFlash x).pwr = s.pwr := rfl
@[simp] theorem State.putFlash_snaps (x : ByteMem) : (s.putFlash x).snaps = s.snaps := rfl
@[simp] theorem State.putFlash_now (x : ByteMem) : (s.putFlash x).now = s.now := rfl
@[simp] theorem State.putFlash_draws (x : ByteMem) : (s.putFlash x).draws = s.draws := rfl
@[simp] theorem State.putFlash_out (x : ByteMem) : (s.putFlash x).out = s.out := rfl
@[simp] theorem State.putFlash_reply (x : ByteMem) : (s.putFlash x).reply = s.reply := rfl
@[simp] theorem State.putFlash_pending (x : ByteMem) : (s.putFlash x).pending = s.pending := rfl
@[simp] theorem State.putFlash_path (x : ByteMem) (k : Nat) : (s.putFlash x).path k = s.path k := rfl
@[simp] theorem State.putFlash_ce (x : ByteMem) (k : Nat) : (s.putFlash x).ce k = s.ce k := rfl
@[simp] theorem State.putFlash_te (x : ByteMem) (k : Nat) : (s.putFlash x).te k = s.te k := rfl
@[simp] theorem State.putFlash_ring (x : ByteMem) (k : Nat) : (s.putFlash x).ring k = s.ring k := rfl
@[simp] theorem State.putFlash_tso (x : ByteMem) (k : Nat) : (s.putFlash x).tso k = s.tso k := rfl
@[simp] theorem State.putFlash_gt (x : ByteMem) (k : Nat) : (s.putFlash x).gt k = s.gt k := rfl
@[simp] theorem State.putFlash_snapsOf (x : ByteMem) (k : Requester) : (s.putFlash x).snapsOf k = s.snapsOf k := rfl
@[simp] theorem State.putFlash_queue (x : ByteMem) (k : Nat) : (s.putFlash x).queue k = s.queue k := rfl
@[simp] theorem State.putFlash_hq (x : ByteMem) (k : Nat) : (s.putFlash x).hq k = s.hq k := rfl
@[simp] theorem State.putFlash_tbNs (x : ByteMem) : (s.putFlash x).tbNs = s.tbNs := rfl
@[simp] theorem State.putFlash_asnNat (x : ByteMem) : (s.putFlash x).asnNat = s.asnNat := rfl
@[simp] theorem State.putFlash_get (x : ByteMem) (g : Fld) : (s.putFlash x).get g = s.get g := rfl
@[simp] theorem State.putFlash_bit (x : ByteMem) (g : Fld) : (s.putFlash x).bit g = s.bit g := rfl
@[simp] theorem State.putFlash_getI (x : ByteMem) (g : Fld) : (s.putFlash x).getI g = s.getI g := rfl
@[simp] theorem State.putFlash_word (x : ByteMem) (k : Nat) : (s.putFlash x).word k = s.word k := rfl

/-! ## `putWindow` -/

@[simp] theorem State.putWindow_part (x : ByteMem) : (s.putWindow x).part = s.part := rfl
@[simp] theorem State.putWindow_regs (x : ByteMem) : (s.putWindow x).regs = s.regs := rfl
@[simp] theorem State.putWindow_boot (x : ByteMem) : (s.putWindow x).boot = s.boot := rfl
@[simp] theorem State.putWindow_flash (x : ByteMem) : (s.putWindow x).flash = s.flash := rfl
@[simp] theorem State.putWindow_flashSize (x : ByteMem) : (s.putWindow x).flashSize = s.flashSize := rfl
@[simp] theorem State.putWindow_window (x : ByteMem) : (s.putWindow x).window = x := rfl
@[simp] theorem State.putWindow_otp (x : ByteMem) : (s.putWindow x).otp = s.otp := rfl
@[simp] theorem State.putWindow_ev (x : ByteMem) : (s.putWindow x).ev = s.ev := rfl
@[simp] theorem State.putWindow_pcie (x : ByteMem) : (s.putWindow x).pcie = s.pcie := rfl
@[simp] theorem State.putWindow_hqs (x : ByteMem) : (s.putWindow x).hqs = s.hqs := rfl
@[simp] theorem State.putWindow_paths (x : ByteMem) : (s.putWindow x).paths = s.paths := rfl
@[simp] theorem State.putWindow_jesd (x : ByteMem) : (s.putWindow x).jesd = s.jesd := rfl
@[simp] theorem State.putWindow_osc (x : ByteMem) : (s.putWindow x).osc = s.osc := rfl
@[simp] theorem State.putWindow_ces (x : ByteMem) : (s.putWindow x).ces = s.ces := rfl
@[simp] theorem State.putWindow_tes (x : ByteMem) : (s.putWindow x).tes = s.tes := rfl
@[simp] theorem State.putWindow_imap (x : ByteMem) : (s.putWindow x).imap = s.imap := rfl
@[simp] theorem State.putWindow_psm (x : ByteMem) : (s.putWindow x).psm = s.psm := rfl
@[simp] theorem State.putWindow_drift (x : ByteMem) : (s.putWindow x).drift = s.drift := rfl
@[simp] theorem State.putWindow_fwd (x : ByteMem) : (s.putWindow x).fwd = s.fwd := rfl
@[simp] theorem State.putWindow_sched (x : ByteMem) : (s.putWindow x).sched = s.sched := rfl
@[simp] theorem State.putWindow_queues (x : ByteMem) : (s.putWindow x).queues = s.queues := rfl
@[simp] theorem State.putWindow_tb (x : ByteMem) : (s.putWindow x).tb = s.tb := rfl
@[simp] theorem State.putWindow_sec (x : ByteMem) : (s.putWindow x).sec = s.sec := rfl
@[simp] theorem State.putWindow_tree (x : ByteMem) : (s.putWindow x).tree = s.tree := rfl
@[simp] theorem State.putWindow_eth (x : ByteMem) : (s.putWindow x).eth = s.eth := rfl
@[simp] theorem State.putWindow_app (x : ByteMem) : (s.putWindow x).app = s.app := rfl
@[simp] theorem State.putWindow_cpus (x : ByteMem) : (s.putWindow x).cpus = s.cpus := rfl
@[simp] theorem State.putWindow_mi (x : ByteMem) : (s.putWindow x).mi = s.mi := rfl
@[simp] theorem State.putWindow_pair (x : ByteMem) : (s.putWindow x).pair = s.pair := rfl
@[simp] theorem State.putWindow_upd (x : ByteMem) : (s.putWindow x).upd = s.upd := rfl
@[simp] theorem State.putWindow_pwr (x : ByteMem) : (s.putWindow x).pwr = s.pwr := rfl
@[simp] theorem State.putWindow_snaps (x : ByteMem) : (s.putWindow x).snaps = s.snaps := rfl
@[simp] theorem State.putWindow_now (x : ByteMem) : (s.putWindow x).now = s.now := rfl
@[simp] theorem State.putWindow_draws (x : ByteMem) : (s.putWindow x).draws = s.draws := rfl
@[simp] theorem State.putWindow_out (x : ByteMem) : (s.putWindow x).out = s.out := rfl
@[simp] theorem State.putWindow_reply (x : ByteMem) : (s.putWindow x).reply = s.reply := rfl
@[simp] theorem State.putWindow_pending (x : ByteMem) : (s.putWindow x).pending = s.pending := rfl
@[simp] theorem State.putWindow_path (x : ByteMem) (k : Nat) : (s.putWindow x).path k = s.path k := rfl
@[simp] theorem State.putWindow_ce (x : ByteMem) (k : Nat) : (s.putWindow x).ce k = s.ce k := rfl
@[simp] theorem State.putWindow_te (x : ByteMem) (k : Nat) : (s.putWindow x).te k = s.te k := rfl
@[simp] theorem State.putWindow_ring (x : ByteMem) (k : Nat) : (s.putWindow x).ring k = s.ring k := rfl
@[simp] theorem State.putWindow_tso (x : ByteMem) (k : Nat) : (s.putWindow x).tso k = s.tso k := rfl
@[simp] theorem State.putWindow_gt (x : ByteMem) (k : Nat) : (s.putWindow x).gt k = s.gt k := rfl
@[simp] theorem State.putWindow_snapsOf (x : ByteMem) (k : Requester) : (s.putWindow x).snapsOf k = s.snapsOf k := rfl
@[simp] theorem State.putWindow_queue (x : ByteMem) (k : Nat) : (s.putWindow x).queue k = s.queue k := rfl
@[simp] theorem State.putWindow_hq (x : ByteMem) (k : Nat) : (s.putWindow x).hq k = s.hq k := rfl
@[simp] theorem State.putWindow_tbNs (x : ByteMem) : (s.putWindow x).tbNs = s.tbNs := rfl
@[simp] theorem State.putWindow_asnNat (x : ByteMem) : (s.putWindow x).asnNat = s.asnNat := rfl
@[simp] theorem State.putWindow_get (x : ByteMem) (g : Fld) : (s.putWindow x).get g = s.get g := rfl
@[simp] theorem State.putWindow_bit (x : ByteMem) (g : Fld) : (s.putWindow x).bit g = s.bit g := rfl
@[simp] theorem State.putWindow_getI (x : ByteMem) (g : Fld) : (s.putWindow x).getI g = s.getI g := rfl
@[simp] theorem State.putWindow_word (x : ByteMem) (k : Nat) : (s.putWindow x).word k = s.word k := rfl

/-! ## `putOtp` -/

@[simp] theorem State.putOtp_part (x : OtpState) : (s.putOtp x).part = s.part := rfl
@[simp] theorem State.putOtp_regs (x : OtpState) : (s.putOtp x).regs = s.regs := rfl
@[simp] theorem State.putOtp_boot (x : OtpState) : (s.putOtp x).boot = s.boot := rfl
@[simp] theorem State.putOtp_flash (x : OtpState) : (s.putOtp x).flash = s.flash := rfl
@[simp] theorem State.putOtp_flashSize (x : OtpState) : (s.putOtp x).flashSize = s.flashSize := rfl
@[simp] theorem State.putOtp_window (x : OtpState) : (s.putOtp x).window = s.window := rfl
@[simp] theorem State.putOtp_otp (x : OtpState) : (s.putOtp x).otp = x := rfl
@[simp] theorem State.putOtp_ev (x : OtpState) : (s.putOtp x).ev = s.ev := rfl
@[simp] theorem State.putOtp_pcie (x : OtpState) : (s.putOtp x).pcie = s.pcie := rfl
@[simp] theorem State.putOtp_hqs (x : OtpState) : (s.putOtp x).hqs = s.hqs := rfl
@[simp] theorem State.putOtp_paths (x : OtpState) : (s.putOtp x).paths = s.paths := rfl
@[simp] theorem State.putOtp_jesd (x : OtpState) : (s.putOtp x).jesd = s.jesd := rfl
@[simp] theorem State.putOtp_osc (x : OtpState) : (s.putOtp x).osc = s.osc := rfl
@[simp] theorem State.putOtp_ces (x : OtpState) : (s.putOtp x).ces = s.ces := rfl
@[simp] theorem State.putOtp_tes (x : OtpState) : (s.putOtp x).tes = s.tes := rfl
@[simp] theorem State.putOtp_imap (x : OtpState) : (s.putOtp x).imap = s.imap := rfl
@[simp] theorem State.putOtp_psm (x : OtpState) : (s.putOtp x).psm = s.psm := rfl
@[simp] theorem State.putOtp_drift (x : OtpState) : (s.putOtp x).drift = s.drift := rfl
@[simp] theorem State.putOtp_fwd (x : OtpState) : (s.putOtp x).fwd = s.fwd := rfl
@[simp] theorem State.putOtp_sched (x : OtpState) : (s.putOtp x).sched = s.sched := rfl
@[simp] theorem State.putOtp_queues (x : OtpState) : (s.putOtp x).queues = s.queues := rfl
@[simp] theorem State.putOtp_tb (x : OtpState) : (s.putOtp x).tb = s.tb := rfl
@[simp] theorem State.putOtp_sec (x : OtpState) : (s.putOtp x).sec = s.sec := rfl
@[simp] theorem State.putOtp_tree (x : OtpState) : (s.putOtp x).tree = s.tree := rfl
@[simp] theorem State.putOtp_eth (x : OtpState) : (s.putOtp x).eth = s.eth := rfl
@[simp] theorem State.putOtp_app (x : OtpState) : (s.putOtp x).app = s.app := rfl
@[simp] theorem State.putOtp_cpus (x : OtpState) : (s.putOtp x).cpus = s.cpus := rfl
@[simp] theorem State.putOtp_mi (x : OtpState) : (s.putOtp x).mi = s.mi := rfl
@[simp] theorem State.putOtp_pair (x : OtpState) : (s.putOtp x).pair = s.pair := rfl
@[simp] theorem State.putOtp_upd (x : OtpState) : (s.putOtp x).upd = s.upd := rfl
@[simp] theorem State.putOtp_pwr (x : OtpState) : (s.putOtp x).pwr = s.pwr := rfl
@[simp] theorem State.putOtp_snaps (x : OtpState) : (s.putOtp x).snaps = s.snaps := rfl
@[simp] theorem State.putOtp_now (x : OtpState) : (s.putOtp x).now = s.now := rfl
@[simp] theorem State.putOtp_draws (x : OtpState) : (s.putOtp x).draws = s.draws := rfl
@[simp] theorem State.putOtp_out (x : OtpState) : (s.putOtp x).out = s.out := rfl
@[simp] theorem State.putOtp_reply (x : OtpState) : (s.putOtp x).reply = s.reply := rfl
@[simp] theorem State.putOtp_pending (x : OtpState) : (s.putOtp x).pending = s.pending := rfl
@[simp] theorem State.putOtp_path (x : OtpState) (k : Nat) : (s.putOtp x).path k = s.path k := rfl
@[simp] theorem State.putOtp_ce (x : OtpState) (k : Nat) : (s.putOtp x).ce k = s.ce k := rfl
@[simp] theorem State.putOtp_te (x : OtpState) (k : Nat) : (s.putOtp x).te k = s.te k := rfl
@[simp] theorem State.putOtp_ring (x : OtpState) (k : Nat) : (s.putOtp x).ring k = s.ring k := rfl
@[simp] theorem State.putOtp_tso (x : OtpState) (k : Nat) : (s.putOtp x).tso k = s.tso k := rfl
@[simp] theorem State.putOtp_gt (x : OtpState) (k : Nat) : (s.putOtp x).gt k = s.gt k := rfl
@[simp] theorem State.putOtp_snapsOf (x : OtpState) (k : Requester) : (s.putOtp x).snapsOf k = s.snapsOf k := rfl
@[simp] theorem State.putOtp_queue (x : OtpState) (k : Nat) : (s.putOtp x).queue k = s.queue k := rfl
@[simp] theorem State.putOtp_hq (x : OtpState) (k : Nat) : (s.putOtp x).hq k = s.hq k := rfl
@[simp] theorem State.putOtp_tbNs (x : OtpState) : (s.putOtp x).tbNs = s.tbNs := rfl
@[simp] theorem State.putOtp_asnNat (x : OtpState) : (s.putOtp x).asnNat = s.asnNat := rfl
@[simp] theorem State.putOtp_get (x : OtpState) (g : Fld) : (s.putOtp x).get g = s.get g := rfl
@[simp] theorem State.putOtp_bit (x : OtpState) (g : Fld) : (s.putOtp x).bit g = s.bit g := rfl
@[simp] theorem State.putOtp_getI (x : OtpState) (g : Fld) : (s.putOtp x).getI g = s.getI g := rfl
@[simp] theorem State.putOtp_word (x : OtpState) (k : Nat) : (s.putOtp x).word k = s.word k := rfl

/-! ## `putCpus` -/

@[simp] theorem State.putCpus_part (x : List (Nat × CpuState)) : (s.putCpus x).part = s.part := rfl
@[simp] theorem State.putCpus_regs (x : List (Nat × CpuState)) : (s.putCpus x).regs = s.regs := rfl
@[simp] theorem State.putCpus_boot (x : List (Nat × CpuState)) : (s.putCpus x).boot = s.boot := rfl
@[simp] theorem State.putCpus_flash (x : List (Nat × CpuState)) : (s.putCpus x).flash = s.flash := rfl
@[simp] theorem State.putCpus_flashSize (x : List (Nat × CpuState)) : (s.putCpus x).flashSize = s.flashSize := rfl
@[simp] theorem State.putCpus_window (x : List (Nat × CpuState)) : (s.putCpus x).window = s.window := rfl
@[simp] theorem State.putCpus_otp (x : List (Nat × CpuState)) : (s.putCpus x).otp = s.otp := rfl
@[simp] theorem State.putCpus_ev (x : List (Nat × CpuState)) : (s.putCpus x).ev = s.ev := rfl
@[simp] theorem State.putCpus_pcie (x : List (Nat × CpuState)) : (s.putCpus x).pcie = s.pcie := rfl
@[simp] theorem State.putCpus_hqs (x : List (Nat × CpuState)) : (s.putCpus x).hqs = s.hqs := rfl
@[simp] theorem State.putCpus_paths (x : List (Nat × CpuState)) : (s.putCpus x).paths = s.paths := rfl
@[simp] theorem State.putCpus_jesd (x : List (Nat × CpuState)) : (s.putCpus x).jesd = s.jesd := rfl
@[simp] theorem State.putCpus_osc (x : List (Nat × CpuState)) : (s.putCpus x).osc = s.osc := rfl
@[simp] theorem State.putCpus_ces (x : List (Nat × CpuState)) : (s.putCpus x).ces = s.ces := rfl
@[simp] theorem State.putCpus_tes (x : List (Nat × CpuState)) : (s.putCpus x).tes = s.tes := rfl
@[simp] theorem State.putCpus_imap (x : List (Nat × CpuState)) : (s.putCpus x).imap = s.imap := rfl
@[simp] theorem State.putCpus_psm (x : List (Nat × CpuState)) : (s.putCpus x).psm = s.psm := rfl
@[simp] theorem State.putCpus_drift (x : List (Nat × CpuState)) : (s.putCpus x).drift = s.drift := rfl
@[simp] theorem State.putCpus_fwd (x : List (Nat × CpuState)) : (s.putCpus x).fwd = s.fwd := rfl
@[simp] theorem State.putCpus_sched (x : List (Nat × CpuState)) : (s.putCpus x).sched = s.sched := rfl
@[simp] theorem State.putCpus_queues (x : List (Nat × CpuState)) : (s.putCpus x).queues = s.queues := rfl
@[simp] theorem State.putCpus_tb (x : List (Nat × CpuState)) : (s.putCpus x).tb = s.tb := rfl
@[simp] theorem State.putCpus_sec (x : List (Nat × CpuState)) : (s.putCpus x).sec = s.sec := rfl
@[simp] theorem State.putCpus_tree (x : List (Nat × CpuState)) : (s.putCpus x).tree = s.tree := rfl
@[simp] theorem State.putCpus_eth (x : List (Nat × CpuState)) : (s.putCpus x).eth = s.eth := rfl
@[simp] theorem State.putCpus_app (x : List (Nat × CpuState)) : (s.putCpus x).app = s.app := rfl
@[simp] theorem State.putCpus_cpus (x : List (Nat × CpuState)) : (s.putCpus x).cpus = x := rfl
@[simp] theorem State.putCpus_mi (x : List (Nat × CpuState)) : (s.putCpus x).mi = s.mi := rfl
@[simp] theorem State.putCpus_pair (x : List (Nat × CpuState)) : (s.putCpus x).pair = s.pair := rfl
@[simp] theorem State.putCpus_upd (x : List (Nat × CpuState)) : (s.putCpus x).upd = s.upd := rfl
@[simp] theorem State.putCpus_pwr (x : List (Nat × CpuState)) : (s.putCpus x).pwr = s.pwr := rfl
@[simp] theorem State.putCpus_snaps (x : List (Nat × CpuState)) : (s.putCpus x).snaps = s.snaps := rfl
@[simp] theorem State.putCpus_now (x : List (Nat × CpuState)) : (s.putCpus x).now = s.now := rfl
@[simp] theorem State.putCpus_draws (x : List (Nat × CpuState)) : (s.putCpus x).draws = s.draws := rfl
@[simp] theorem State.putCpus_out (x : List (Nat × CpuState)) : (s.putCpus x).out = s.out := rfl
@[simp] theorem State.putCpus_reply (x : List (Nat × CpuState)) : (s.putCpus x).reply = s.reply := rfl
@[simp] theorem State.putCpus_pending (x : List (Nat × CpuState)) : (s.putCpus x).pending = s.pending := rfl
@[simp] theorem State.putCpus_path (x : List (Nat × CpuState)) (k : Nat) : (s.putCpus x).path k = s.path k := rfl
@[simp] theorem State.putCpus_ce (x : List (Nat × CpuState)) (k : Nat) : (s.putCpus x).ce k = s.ce k := rfl
@[simp] theorem State.putCpus_te (x : List (Nat × CpuState)) (k : Nat) : (s.putCpus x).te k = s.te k := rfl
@[simp] theorem State.putCpus_ring (x : List (Nat × CpuState)) (k : Nat) : (s.putCpus x).ring k = s.ring k := rfl
@[simp] theorem State.putCpus_tso (x : List (Nat × CpuState)) (k : Nat) : (s.putCpus x).tso k = s.tso k := rfl
@[simp] theorem State.putCpus_gt (x : List (Nat × CpuState)) (k : Nat) : (s.putCpus x).gt k = s.gt k := rfl
@[simp] theorem State.putCpus_snapsOf (x : List (Nat × CpuState)) (k : Requester) : (s.putCpus x).snapsOf k = s.snapsOf k := rfl
@[simp] theorem State.putCpus_queue (x : List (Nat × CpuState)) (k : Nat) : (s.putCpus x).queue k = s.queue k := rfl
@[simp] theorem State.putCpus_hq (x : List (Nat × CpuState)) (k : Nat) : (s.putCpus x).hq k = s.hq k := rfl
@[simp] theorem State.putCpus_tbNs (x : List (Nat × CpuState)) : (s.putCpus x).tbNs = s.tbNs := rfl
@[simp] theorem State.putCpus_asnNat (x : List (Nat × CpuState)) : (s.putCpus x).asnNat = s.asnNat := rfl
@[simp] theorem State.putCpus_get (x : List (Nat × CpuState)) (g : Fld) : (s.putCpus x).get g = s.get g := rfl
@[simp] theorem State.putCpus_bit (x : List (Nat × CpuState)) (g : Fld) : (s.putCpus x).bit g = s.bit g := rfl
@[simp] theorem State.putCpus_getI (x : List (Nat × CpuState)) (g : Fld) : (s.putCpus x).getI g = s.getI g := rfl
@[simp] theorem State.putCpus_word (x : List (Nat × CpuState)) (k : Nat) : (s.putCpus x).word k = s.word k := rfl

/-! ## `putHqs` -/

@[simp] theorem State.putHqs_part (x : List (Nat × HostQueueState)) : (s.putHqs x).part = s.part := rfl
@[simp] theorem State.putHqs_regs (x : List (Nat × HostQueueState)) : (s.putHqs x).regs = s.regs := rfl
@[simp] theorem State.putHqs_boot (x : List (Nat × HostQueueState)) : (s.putHqs x).boot = s.boot := rfl
@[simp] theorem State.putHqs_flash (x : List (Nat × HostQueueState)) : (s.putHqs x).flash = s.flash := rfl
@[simp] theorem State.putHqs_flashSize (x : List (Nat × HostQueueState)) : (s.putHqs x).flashSize = s.flashSize := rfl
@[simp] theorem State.putHqs_window (x : List (Nat × HostQueueState)) : (s.putHqs x).window = s.window := rfl
@[simp] theorem State.putHqs_otp (x : List (Nat × HostQueueState)) : (s.putHqs x).otp = s.otp := rfl
@[simp] theorem State.putHqs_ev (x : List (Nat × HostQueueState)) : (s.putHqs x).ev = s.ev := rfl
@[simp] theorem State.putHqs_pcie (x : List (Nat × HostQueueState)) : (s.putHqs x).pcie = s.pcie := rfl
@[simp] theorem State.putHqs_hqs (x : List (Nat × HostQueueState)) : (s.putHqs x).hqs = x := rfl
@[simp] theorem State.putHqs_paths (x : List (Nat × HostQueueState)) : (s.putHqs x).paths = s.paths := rfl
@[simp] theorem State.putHqs_jesd (x : List (Nat × HostQueueState)) : (s.putHqs x).jesd = s.jesd := rfl
@[simp] theorem State.putHqs_osc (x : List (Nat × HostQueueState)) : (s.putHqs x).osc = s.osc := rfl
@[simp] theorem State.putHqs_ces (x : List (Nat × HostQueueState)) : (s.putHqs x).ces = s.ces := rfl
@[simp] theorem State.putHqs_tes (x : List (Nat × HostQueueState)) : (s.putHqs x).tes = s.tes := rfl
@[simp] theorem State.putHqs_imap (x : List (Nat × HostQueueState)) : (s.putHqs x).imap = s.imap := rfl
@[simp] theorem State.putHqs_psm (x : List (Nat × HostQueueState)) : (s.putHqs x).psm = s.psm := rfl
@[simp] theorem State.putHqs_drift (x : List (Nat × HostQueueState)) : (s.putHqs x).drift = s.drift := rfl
@[simp] theorem State.putHqs_fwd (x : List (Nat × HostQueueState)) : (s.putHqs x).fwd = s.fwd := rfl
@[simp] theorem State.putHqs_sched (x : List (Nat × HostQueueState)) : (s.putHqs x).sched = s.sched := rfl
@[simp] theorem State.putHqs_queues (x : List (Nat × HostQueueState)) : (s.putHqs x).queues = s.queues := rfl
@[simp] theorem State.putHqs_tb (x : List (Nat × HostQueueState)) : (s.putHqs x).tb = s.tb := rfl
@[simp] theorem State.putHqs_sec (x : List (Nat × HostQueueState)) : (s.putHqs x).sec = s.sec := rfl
@[simp] theorem State.putHqs_tree (x : List (Nat × HostQueueState)) : (s.putHqs x).tree = s.tree := rfl
@[simp] theorem State.putHqs_eth (x : List (Nat × HostQueueState)) : (s.putHqs x).eth = s.eth := rfl
@[simp] theorem State.putHqs_app (x : List (Nat × HostQueueState)) : (s.putHqs x).app = s.app := rfl
@[simp] theorem State.putHqs_cpus (x : List (Nat × HostQueueState)) : (s.putHqs x).cpus = s.cpus := rfl
@[simp] theorem State.putHqs_mi (x : List (Nat × HostQueueState)) : (s.putHqs x).mi = s.mi := rfl
@[simp] theorem State.putHqs_pair (x : List (Nat × HostQueueState)) : (s.putHqs x).pair = s.pair := rfl
@[simp] theorem State.putHqs_upd (x : List (Nat × HostQueueState)) : (s.putHqs x).upd = s.upd := rfl
@[simp] theorem State.putHqs_pwr (x : List (Nat × HostQueueState)) : (s.putHqs x).pwr = s.pwr := rfl
@[simp] theorem State.putHqs_snaps (x : List (Nat × HostQueueState)) : (s.putHqs x).snaps = s.snaps := rfl
@[simp] theorem State.putHqs_now (x : List (Nat × HostQueueState)) : (s.putHqs x).now = s.now := rfl
@[simp] theorem State.putHqs_draws (x : List (Nat × HostQueueState)) : (s.putHqs x).draws = s.draws := rfl
@[simp] theorem State.putHqs_out (x : List (Nat × HostQueueState)) : (s.putHqs x).out = s.out := rfl
@[simp] theorem State.putHqs_reply (x : List (Nat × HostQueueState)) : (s.putHqs x).reply = s.reply := rfl
@[simp] theorem State.putHqs_pending (x : List (Nat × HostQueueState)) : (s.putHqs x).pending = s.pending := rfl
@[simp] theorem State.putHqs_path (x : List (Nat × HostQueueState)) (k : Nat) : (s.putHqs x).path k = s.path k := rfl
@[simp] theorem State.putHqs_ce (x : List (Nat × HostQueueState)) (k : Nat) : (s.putHqs x).ce k = s.ce k := rfl
@[simp] theorem State.putHqs_te (x : List (Nat × HostQueueState)) (k : Nat) : (s.putHqs x).te k = s.te k := rfl
@[simp] theorem State.putHqs_ring (x : List (Nat × HostQueueState)) (k : Nat) : (s.putHqs x).ring k = s.ring k := rfl
@[simp] theorem State.putHqs_tso (x : List (Nat × HostQueueState)) (k : Nat) : (s.putHqs x).tso k = s.tso k := rfl
@[simp] theorem State.putHqs_gt (x : List (Nat × HostQueueState)) (k : Nat) : (s.putHqs x).gt k = s.gt k := rfl
@[simp] theorem State.putHqs_snapsOf (x : List (Nat × HostQueueState)) (k : Requester) : (s.putHqs x).snapsOf k = s.snapsOf k := rfl
@[simp] theorem State.putHqs_queue (x : List (Nat × HostQueueState)) (k : Nat) : (s.putHqs x).queue k = s.queue k := rfl
@[simp] theorem State.putHqs_tbNs (x : List (Nat × HostQueueState)) : (s.putHqs x).tbNs = s.tbNs := rfl
@[simp] theorem State.putHqs_asnNat (x : List (Nat × HostQueueState)) : (s.putHqs x).asnNat = s.asnNat := rfl
@[simp] theorem State.putHqs_get (x : List (Nat × HostQueueState)) (g : Fld) : (s.putHqs x).get g = s.get g := rfl
@[simp] theorem State.putHqs_bit (x : List (Nat × HostQueueState)) (g : Fld) : (s.putHqs x).bit g = s.bit g := rfl
@[simp] theorem State.putHqs_getI (x : List (Nat × HostQueueState)) (g : Fld) : (s.putHqs x).getI g = s.getI g := rfl
@[simp] theorem State.putHqs_word (x : List (Nat × HostQueueState)) (k : Nat) : (s.putHqs x).word k = s.word k := rfl

/-! ## `setPath` -/

@[simp] theorem State.setPath_part (n : Nat) (x : PathState) : (s.setPath n x).part = s.part := rfl
@[simp] theorem State.setPath_regs (n : Nat) (x : PathState) : (s.setPath n x).regs = s.regs := rfl
@[simp] theorem State.setPath_boot (n : Nat) (x : PathState) : (s.setPath n x).boot = s.boot := rfl
@[simp] theorem State.setPath_flash (n : Nat) (x : PathState) : (s.setPath n x).flash = s.flash := rfl
@[simp] theorem State.setPath_flashSize (n : Nat) (x : PathState) : (s.setPath n x).flashSize = s.flashSize := rfl
@[simp] theorem State.setPath_window (n : Nat) (x : PathState) : (s.setPath n x).window = s.window := rfl
@[simp] theorem State.setPath_otp (n : Nat) (x : PathState) : (s.setPath n x).otp = s.otp := rfl
@[simp] theorem State.setPath_ev (n : Nat) (x : PathState) : (s.setPath n x).ev = s.ev := rfl
@[simp] theorem State.setPath_pcie (n : Nat) (x : PathState) : (s.setPath n x).pcie = s.pcie := rfl
@[simp] theorem State.setPath_hqs (n : Nat) (x : PathState) : (s.setPath n x).hqs = s.hqs := rfl
@[simp] theorem State.setPath_paths (n : Nat) (x : PathState) : (s.setPath n x).paths = assocSet s.paths n x := rfl
@[simp] theorem State.setPath_jesd (n : Nat) (x : PathState) : (s.setPath n x).jesd = s.jesd := rfl
@[simp] theorem State.setPath_osc (n : Nat) (x : PathState) : (s.setPath n x).osc = s.osc := rfl
@[simp] theorem State.setPath_ces (n : Nat) (x : PathState) : (s.setPath n x).ces = s.ces := rfl
@[simp] theorem State.setPath_tes (n : Nat) (x : PathState) : (s.setPath n x).tes = s.tes := rfl
@[simp] theorem State.setPath_imap (n : Nat) (x : PathState) : (s.setPath n x).imap = s.imap := rfl
@[simp] theorem State.setPath_psm (n : Nat) (x : PathState) : (s.setPath n x).psm = s.psm := rfl
@[simp] theorem State.setPath_drift (n : Nat) (x : PathState) : (s.setPath n x).drift = s.drift := rfl
@[simp] theorem State.setPath_fwd (n : Nat) (x : PathState) : (s.setPath n x).fwd = s.fwd := rfl
@[simp] theorem State.setPath_sched (n : Nat) (x : PathState) : (s.setPath n x).sched = s.sched := rfl
@[simp] theorem State.setPath_queues (n : Nat) (x : PathState) : (s.setPath n x).queues = s.queues := rfl
@[simp] theorem State.setPath_tb (n : Nat) (x : PathState) : (s.setPath n x).tb = s.tb := rfl
@[simp] theorem State.setPath_sec (n : Nat) (x : PathState) : (s.setPath n x).sec = s.sec := rfl
@[simp] theorem State.setPath_tree (n : Nat) (x : PathState) : (s.setPath n x).tree = s.tree := rfl
@[simp] theorem State.setPath_eth (n : Nat) (x : PathState) : (s.setPath n x).eth = s.eth := rfl
@[simp] theorem State.setPath_app (n : Nat) (x : PathState) : (s.setPath n x).app = s.app := rfl
@[simp] theorem State.setPath_cpus (n : Nat) (x : PathState) : (s.setPath n x).cpus = s.cpus := rfl
@[simp] theorem State.setPath_mi (n : Nat) (x : PathState) : (s.setPath n x).mi = s.mi := rfl
@[simp] theorem State.setPath_pair (n : Nat) (x : PathState) : (s.setPath n x).pair = s.pair := rfl
@[simp] theorem State.setPath_upd (n : Nat) (x : PathState) : (s.setPath n x).upd = s.upd := rfl
@[simp] theorem State.setPath_pwr (n : Nat) (x : PathState) : (s.setPath n x).pwr = s.pwr := rfl
@[simp] theorem State.setPath_snaps (n : Nat) (x : PathState) : (s.setPath n x).snaps = s.snaps := rfl
@[simp] theorem State.setPath_now (n : Nat) (x : PathState) : (s.setPath n x).now = s.now := rfl
@[simp] theorem State.setPath_draws (n : Nat) (x : PathState) : (s.setPath n x).draws = s.draws := rfl
@[simp] theorem State.setPath_out (n : Nat) (x : PathState) : (s.setPath n x).out = s.out := rfl
@[simp] theorem State.setPath_reply (n : Nat) (x : PathState) : (s.setPath n x).reply = s.reply := rfl
@[simp] theorem State.setPath_pending (n : Nat) (x : PathState) : (s.setPath n x).pending = s.pending := rfl
@[simp] theorem State.setPath_ce (n : Nat) (x : PathState) (k : Nat) : (s.setPath n x).ce k = s.ce k := rfl
@[simp] theorem State.setPath_te (n : Nat) (x : PathState) (k : Nat) : (s.setPath n x).te k = s.te k := rfl
@[simp] theorem State.setPath_ring (n : Nat) (x : PathState) (k : Nat) : (s.setPath n x).ring k = s.ring k := rfl
@[simp] theorem State.setPath_tso (n : Nat) (x : PathState) (k : Nat) : (s.setPath n x).tso k = s.tso k := rfl
@[simp] theorem State.setPath_gt (n : Nat) (x : PathState) (k : Nat) : (s.setPath n x).gt k = s.gt k := rfl
@[simp] theorem State.setPath_snapsOf (n : Nat) (x : PathState) (k : Requester) : (s.setPath n x).snapsOf k = s.snapsOf k := rfl
@[simp] theorem State.setPath_queue (n : Nat) (x : PathState) (k : Nat) : (s.setPath n x).queue k = s.queue k := rfl
@[simp] theorem State.setPath_hq (n : Nat) (x : PathState) (k : Nat) : (s.setPath n x).hq k = s.hq k := rfl
@[simp] theorem State.setPath_tbNs (n : Nat) (x : PathState) : (s.setPath n x).tbNs = s.tbNs := rfl
@[simp] theorem State.setPath_asnNat (n : Nat) (x : PathState) : (s.setPath n x).asnNat = s.asnNat := rfl
@[simp] theorem State.setPath_get (n : Nat) (x : PathState) (g : Fld) : (s.setPath n x).get g = s.get g := rfl
@[simp] theorem State.setPath_bit (n : Nat) (x : PathState) (g : Fld) : (s.setPath n x).bit g = s.bit g := rfl
@[simp] theorem State.setPath_getI (n : Nat) (x : PathState) (g : Fld) : (s.setPath n x).getI g = s.getI g := rfl
@[simp] theorem State.setPath_word (n : Nat) (x : PathState) (k : Nat) : (s.setPath n x).word k = s.word k := rfl

/-! ## `setCe` -/

@[simp] theorem State.setCe_part (n : Nat) (x : CeState) : (s.setCe n x).part = s.part := rfl
@[simp] theorem State.setCe_regs (n : Nat) (x : CeState) : (s.setCe n x).regs = s.regs := rfl
@[simp] theorem State.setCe_boot (n : Nat) (x : CeState) : (s.setCe n x).boot = s.boot := rfl
@[simp] theorem State.setCe_flash (n : Nat) (x : CeState) : (s.setCe n x).flash = s.flash := rfl
@[simp] theorem State.setCe_flashSize (n : Nat) (x : CeState) : (s.setCe n x).flashSize = s.flashSize := rfl
@[simp] theorem State.setCe_window (n : Nat) (x : CeState) : (s.setCe n x).window = s.window := rfl
@[simp] theorem State.setCe_otp (n : Nat) (x : CeState) : (s.setCe n x).otp = s.otp := rfl
@[simp] theorem State.setCe_ev (n : Nat) (x : CeState) : (s.setCe n x).ev = s.ev := rfl
@[simp] theorem State.setCe_pcie (n : Nat) (x : CeState) : (s.setCe n x).pcie = s.pcie := rfl
@[simp] theorem State.setCe_hqs (n : Nat) (x : CeState) : (s.setCe n x).hqs = s.hqs := rfl
@[simp] theorem State.setCe_paths (n : Nat) (x : CeState) : (s.setCe n x).paths = s.paths := rfl
@[simp] theorem State.setCe_jesd (n : Nat) (x : CeState) : (s.setCe n x).jesd = s.jesd := rfl
@[simp] theorem State.setCe_osc (n : Nat) (x : CeState) : (s.setCe n x).osc = s.osc := rfl
@[simp] theorem State.setCe_ces (n : Nat) (x : CeState) : (s.setCe n x).ces = assocSet s.ces n x := rfl
@[simp] theorem State.setCe_tes (n : Nat) (x : CeState) : (s.setCe n x).tes = s.tes := rfl
@[simp] theorem State.setCe_imap (n : Nat) (x : CeState) : (s.setCe n x).imap = s.imap := rfl
@[simp] theorem State.setCe_psm (n : Nat) (x : CeState) : (s.setCe n x).psm = s.psm := rfl
@[simp] theorem State.setCe_drift (n : Nat) (x : CeState) : (s.setCe n x).drift = s.drift := rfl
@[simp] theorem State.setCe_fwd (n : Nat) (x : CeState) : (s.setCe n x).fwd = s.fwd := rfl
@[simp] theorem State.setCe_sched (n : Nat) (x : CeState) : (s.setCe n x).sched = s.sched := rfl
@[simp] theorem State.setCe_queues (n : Nat) (x : CeState) : (s.setCe n x).queues = s.queues := rfl
@[simp] theorem State.setCe_tb (n : Nat) (x : CeState) : (s.setCe n x).tb = s.tb := rfl
@[simp] theorem State.setCe_sec (n : Nat) (x : CeState) : (s.setCe n x).sec = s.sec := rfl
@[simp] theorem State.setCe_tree (n : Nat) (x : CeState) : (s.setCe n x).tree = s.tree := rfl
@[simp] theorem State.setCe_eth (n : Nat) (x : CeState) : (s.setCe n x).eth = s.eth := rfl
@[simp] theorem State.setCe_app (n : Nat) (x : CeState) : (s.setCe n x).app = s.app := rfl
@[simp] theorem State.setCe_cpus (n : Nat) (x : CeState) : (s.setCe n x).cpus = s.cpus := rfl
@[simp] theorem State.setCe_mi (n : Nat) (x : CeState) : (s.setCe n x).mi = s.mi := rfl
@[simp] theorem State.setCe_pair (n : Nat) (x : CeState) : (s.setCe n x).pair = s.pair := rfl
@[simp] theorem State.setCe_upd (n : Nat) (x : CeState) : (s.setCe n x).upd = s.upd := rfl
@[simp] theorem State.setCe_pwr (n : Nat) (x : CeState) : (s.setCe n x).pwr = s.pwr := rfl
@[simp] theorem State.setCe_snaps (n : Nat) (x : CeState) : (s.setCe n x).snaps = s.snaps := rfl
@[simp] theorem State.setCe_now (n : Nat) (x : CeState) : (s.setCe n x).now = s.now := rfl
@[simp] theorem State.setCe_draws (n : Nat) (x : CeState) : (s.setCe n x).draws = s.draws := rfl
@[simp] theorem State.setCe_out (n : Nat) (x : CeState) : (s.setCe n x).out = s.out := rfl
@[simp] theorem State.setCe_reply (n : Nat) (x : CeState) : (s.setCe n x).reply = s.reply := rfl
@[simp] theorem State.setCe_pending (n : Nat) (x : CeState) : (s.setCe n x).pending = s.pending := rfl
@[simp] theorem State.setCe_path (n : Nat) (x : CeState) (k : Nat) : (s.setCe n x).path k = s.path k := rfl
@[simp] theorem State.setCe_te (n : Nat) (x : CeState) (k : Nat) : (s.setCe n x).te k = s.te k := rfl
@[simp] theorem State.setCe_ring (n : Nat) (x : CeState) (k : Nat) : (s.setCe n x).ring k = s.ring k := rfl
@[simp] theorem State.setCe_tso (n : Nat) (x : CeState) (k : Nat) : (s.setCe n x).tso k = s.tso k := rfl
@[simp] theorem State.setCe_gt (n : Nat) (x : CeState) (k : Nat) : (s.setCe n x).gt k = s.gt k := rfl
@[simp] theorem State.setCe_snapsOf (n : Nat) (x : CeState) (k : Requester) : (s.setCe n x).snapsOf k = s.snapsOf k := rfl
@[simp] theorem State.setCe_queue (n : Nat) (x : CeState) (k : Nat) : (s.setCe n x).queue k = s.queue k := rfl
@[simp] theorem State.setCe_hq (n : Nat) (x : CeState) (k : Nat) : (s.setCe n x).hq k = s.hq k := rfl
@[simp] theorem State.setCe_tbNs (n : Nat) (x : CeState) : (s.setCe n x).tbNs = s.tbNs := rfl
@[simp] theorem State.setCe_asnNat (n : Nat) (x : CeState) : (s.setCe n x).asnNat = s.asnNat := rfl
@[simp] theorem State.setCe_get (n : Nat) (x : CeState) (g : Fld) : (s.setCe n x).get g = s.get g := rfl
@[simp] theorem State.setCe_bit (n : Nat) (x : CeState) (g : Fld) : (s.setCe n x).bit g = s.bit g := rfl
@[simp] theorem State.setCe_getI (n : Nat) (x : CeState) (g : Fld) : (s.setCe n x).getI g = s.getI g := rfl
@[simp] theorem State.setCe_word (n : Nat) (x : CeState) (k : Nat) : (s.setCe n x).word k = s.word k := rfl

/-! ## `setTe` -/

@[simp] theorem State.setTe_part (n : Nat) (x : TeState) : (s.setTe n x).part = s.part := rfl
@[simp] theorem State.setTe_regs (n : Nat) (x : TeState) : (s.setTe n x).regs = s.regs := rfl
@[simp] theorem State.setTe_boot (n : Nat) (x : TeState) : (s.setTe n x).boot = s.boot := rfl
@[simp] theorem State.setTe_flash (n : Nat) (x : TeState) : (s.setTe n x).flash = s.flash := rfl
@[simp] theorem State.setTe_flashSize (n : Nat) (x : TeState) : (s.setTe n x).flashSize = s.flashSize := rfl
@[simp] theorem State.setTe_window (n : Nat) (x : TeState) : (s.setTe n x).window = s.window := rfl
@[simp] theorem State.setTe_otp (n : Nat) (x : TeState) : (s.setTe n x).otp = s.otp := rfl
@[simp] theorem State.setTe_ev (n : Nat) (x : TeState) : (s.setTe n x).ev = s.ev := rfl
@[simp] theorem State.setTe_pcie (n : Nat) (x : TeState) : (s.setTe n x).pcie = s.pcie := rfl
@[simp] theorem State.setTe_hqs (n : Nat) (x : TeState) : (s.setTe n x).hqs = s.hqs := rfl
@[simp] theorem State.setTe_paths (n : Nat) (x : TeState) : (s.setTe n x).paths = s.paths := rfl
@[simp] theorem State.setTe_jesd (n : Nat) (x : TeState) : (s.setTe n x).jesd = s.jesd := rfl
@[simp] theorem State.setTe_osc (n : Nat) (x : TeState) : (s.setTe n x).osc = s.osc := rfl
@[simp] theorem State.setTe_ces (n : Nat) (x : TeState) : (s.setTe n x).ces = s.ces := rfl
@[simp] theorem State.setTe_tes (n : Nat) (x : TeState) : (s.setTe n x).tes = assocSet s.tes n x := rfl
@[simp] theorem State.setTe_imap (n : Nat) (x : TeState) : (s.setTe n x).imap = s.imap := rfl
@[simp] theorem State.setTe_psm (n : Nat) (x : TeState) : (s.setTe n x).psm = s.psm := rfl
@[simp] theorem State.setTe_drift (n : Nat) (x : TeState) : (s.setTe n x).drift = s.drift := rfl
@[simp] theorem State.setTe_fwd (n : Nat) (x : TeState) : (s.setTe n x).fwd = s.fwd := rfl
@[simp] theorem State.setTe_sched (n : Nat) (x : TeState) : (s.setTe n x).sched = s.sched := rfl
@[simp] theorem State.setTe_queues (n : Nat) (x : TeState) : (s.setTe n x).queues = s.queues := rfl
@[simp] theorem State.setTe_tb (n : Nat) (x : TeState) : (s.setTe n x).tb = s.tb := rfl
@[simp] theorem State.setTe_sec (n : Nat) (x : TeState) : (s.setTe n x).sec = s.sec := rfl
@[simp] theorem State.setTe_tree (n : Nat) (x : TeState) : (s.setTe n x).tree = s.tree := rfl
@[simp] theorem State.setTe_eth (n : Nat) (x : TeState) : (s.setTe n x).eth = s.eth := rfl
@[simp] theorem State.setTe_app (n : Nat) (x : TeState) : (s.setTe n x).app = s.app := rfl
@[simp] theorem State.setTe_cpus (n : Nat) (x : TeState) : (s.setTe n x).cpus = s.cpus := rfl
@[simp] theorem State.setTe_mi (n : Nat) (x : TeState) : (s.setTe n x).mi = s.mi := rfl
@[simp] theorem State.setTe_pair (n : Nat) (x : TeState) : (s.setTe n x).pair = s.pair := rfl
@[simp] theorem State.setTe_upd (n : Nat) (x : TeState) : (s.setTe n x).upd = s.upd := rfl
@[simp] theorem State.setTe_pwr (n : Nat) (x : TeState) : (s.setTe n x).pwr = s.pwr := rfl
@[simp] theorem State.setTe_snaps (n : Nat) (x : TeState) : (s.setTe n x).snaps = s.snaps := rfl
@[simp] theorem State.setTe_now (n : Nat) (x : TeState) : (s.setTe n x).now = s.now := rfl
@[simp] theorem State.setTe_draws (n : Nat) (x : TeState) : (s.setTe n x).draws = s.draws := rfl
@[simp] theorem State.setTe_out (n : Nat) (x : TeState) : (s.setTe n x).out = s.out := rfl
@[simp] theorem State.setTe_reply (n : Nat) (x : TeState) : (s.setTe n x).reply = s.reply := rfl
@[simp] theorem State.setTe_pending (n : Nat) (x : TeState) : (s.setTe n x).pending = s.pending := rfl
@[simp] theorem State.setTe_path (n : Nat) (x : TeState) (k : Nat) : (s.setTe n x).path k = s.path k := rfl
@[simp] theorem State.setTe_ce (n : Nat) (x : TeState) (k : Nat) : (s.setTe n x).ce k = s.ce k := rfl
@[simp] theorem State.setTe_ring (n : Nat) (x : TeState) (k : Nat) : (s.setTe n x).ring k = s.ring k := rfl
@[simp] theorem State.setTe_tso (n : Nat) (x : TeState) (k : Nat) : (s.setTe n x).tso k = s.tso k := rfl
@[simp] theorem State.setTe_gt (n : Nat) (x : TeState) (k : Nat) : (s.setTe n x).gt k = s.gt k := rfl
@[simp] theorem State.setTe_snapsOf (n : Nat) (x : TeState) (k : Requester) : (s.setTe n x).snapsOf k = s.snapsOf k := rfl
@[simp] theorem State.setTe_queue (n : Nat) (x : TeState) (k : Nat) : (s.setTe n x).queue k = s.queue k := rfl
@[simp] theorem State.setTe_hq (n : Nat) (x : TeState) (k : Nat) : (s.setTe n x).hq k = s.hq k := rfl
@[simp] theorem State.setTe_tbNs (n : Nat) (x : TeState) : (s.setTe n x).tbNs = s.tbNs := rfl
@[simp] theorem State.setTe_asnNat (n : Nat) (x : TeState) : (s.setTe n x).asnNat = s.asnNat := rfl
@[simp] theorem State.setTe_get (n : Nat) (x : TeState) (g : Fld) : (s.setTe n x).get g = s.get g := rfl
@[simp] theorem State.setTe_bit (n : Nat) (x : TeState) (g : Fld) : (s.setTe n x).bit g = s.bit g := rfl
@[simp] theorem State.setTe_getI (n : Nat) (x : TeState) (g : Fld) : (s.setTe n x).getI g = s.getI g := rfl
@[simp] theorem State.setTe_word (n : Nat) (x : TeState) (k : Nat) : (s.setTe n x).word k = s.word k := rfl

/-! ## `setRing` -/

@[simp] theorem State.setRing_part (n : Nat) (x : RingState) : (s.setRing n x).part = s.part := rfl
@[simp] theorem State.setRing_regs (n : Nat) (x : RingState) : (s.setRing n x).regs = s.regs := rfl
@[simp] theorem State.setRing_boot (n : Nat) (x : RingState) : (s.setRing n x).boot = s.boot := rfl
@[simp] theorem State.setRing_flash (n : Nat) (x : RingState) : (s.setRing n x).flash = s.flash := rfl
@[simp] theorem State.setRing_flashSize (n : Nat) (x : RingState) : (s.setRing n x).flashSize = s.flashSize := rfl
@[simp] theorem State.setRing_window (n : Nat) (x : RingState) : (s.setRing n x).window = s.window := rfl
@[simp] theorem State.setRing_otp (n : Nat) (x : RingState) : (s.setRing n x).otp = s.otp := rfl
@[simp] theorem State.setRing_pcie (n : Nat) (x : RingState) : (s.setRing n x).pcie = s.pcie := rfl
@[simp] theorem State.setRing_hqs (n : Nat) (x : RingState) : (s.setRing n x).hqs = s.hqs := rfl
@[simp] theorem State.setRing_paths (n : Nat) (x : RingState) : (s.setRing n x).paths = s.paths := rfl
@[simp] theorem State.setRing_jesd (n : Nat) (x : RingState) : (s.setRing n x).jesd = s.jesd := rfl
@[simp] theorem State.setRing_osc (n : Nat) (x : RingState) : (s.setRing n x).osc = s.osc := rfl
@[simp] theorem State.setRing_ces (n : Nat) (x : RingState) : (s.setRing n x).ces = s.ces := rfl
@[simp] theorem State.setRing_tes (n : Nat) (x : RingState) : (s.setRing n x).tes = s.tes := rfl
@[simp] theorem State.setRing_imap (n : Nat) (x : RingState) : (s.setRing n x).imap = s.imap := rfl
@[simp] theorem State.setRing_psm (n : Nat) (x : RingState) : (s.setRing n x).psm = s.psm := rfl
@[simp] theorem State.setRing_drift (n : Nat) (x : RingState) : (s.setRing n x).drift = s.drift := rfl
@[simp] theorem State.setRing_fwd (n : Nat) (x : RingState) : (s.setRing n x).fwd = s.fwd := rfl
@[simp] theorem State.setRing_sched (n : Nat) (x : RingState) : (s.setRing n x).sched = s.sched := rfl
@[simp] theorem State.setRing_queues (n : Nat) (x : RingState) : (s.setRing n x).queues = s.queues := rfl
@[simp] theorem State.setRing_tb (n : Nat) (x : RingState) : (s.setRing n x).tb = s.tb := rfl
@[simp] theorem State.setRing_sec (n : Nat) (x : RingState) : (s.setRing n x).sec = s.sec := rfl
@[simp] theorem State.setRing_tree (n : Nat) (x : RingState) : (s.setRing n x).tree = s.tree := rfl
@[simp] theorem State.setRing_eth (n : Nat) (x : RingState) : (s.setRing n x).eth = s.eth := rfl
@[simp] theorem State.setRing_app (n : Nat) (x : RingState) : (s.setRing n x).app = s.app := rfl
@[simp] theorem State.setRing_cpus (n : Nat) (x : RingState) : (s.setRing n x).cpus = s.cpus := rfl
@[simp] theorem State.setRing_mi (n : Nat) (x : RingState) : (s.setRing n x).mi = s.mi := rfl
@[simp] theorem State.setRing_pair (n : Nat) (x : RingState) : (s.setRing n x).pair = s.pair := rfl
@[simp] theorem State.setRing_upd (n : Nat) (x : RingState) : (s.setRing n x).upd = s.upd := rfl
@[simp] theorem State.setRing_pwr (n : Nat) (x : RingState) : (s.setRing n x).pwr = s.pwr := rfl
@[simp] theorem State.setRing_snaps (n : Nat) (x : RingState) : (s.setRing n x).snaps = s.snaps := rfl
@[simp] theorem State.setRing_now (n : Nat) (x : RingState) : (s.setRing n x).now = s.now := rfl
@[simp] theorem State.setRing_draws (n : Nat) (x : RingState) : (s.setRing n x).draws = s.draws := rfl
@[simp] theorem State.setRing_out (n : Nat) (x : RingState) : (s.setRing n x).out = s.out := rfl
@[simp] theorem State.setRing_reply (n : Nat) (x : RingState) : (s.setRing n x).reply = s.reply := rfl
@[simp] theorem State.setRing_pending (n : Nat) (x : RingState) : (s.setRing n x).pending = s.pending := rfl
@[simp] theorem State.setRing_path (n : Nat) (x : RingState) (k : Nat) : (s.setRing n x).path k = s.path k := rfl
@[simp] theorem State.setRing_ce (n : Nat) (x : RingState) (k : Nat) : (s.setRing n x).ce k = s.ce k := rfl
@[simp] theorem State.setRing_te (n : Nat) (x : RingState) (k : Nat) : (s.setRing n x).te k = s.te k := rfl
@[simp] theorem State.setRing_tso (n : Nat) (x : RingState) (k : Nat) : (s.setRing n x).tso k = s.tso k := rfl
@[simp] theorem State.setRing_gt (n : Nat) (x : RingState) (k : Nat) : (s.setRing n x).gt k = s.gt k := rfl
@[simp] theorem State.setRing_snapsOf (n : Nat) (x : RingState) (k : Requester) : (s.setRing n x).snapsOf k = s.snapsOf k := rfl
@[simp] theorem State.setRing_queue (n : Nat) (x : RingState) (k : Nat) : (s.setRing n x).queue k = s.queue k := rfl
@[simp] theorem State.setRing_hq (n : Nat) (x : RingState) (k : Nat) : (s.setRing n x).hq k = s.hq k := rfl
@[simp] theorem State.setRing_tbNs (n : Nat) (x : RingState) : (s.setRing n x).tbNs = s.tbNs := rfl
@[simp] theorem State.setRing_asnNat (n : Nat) (x : RingState) : (s.setRing n x).asnNat = s.asnNat := rfl
@[simp] theorem State.setRing_get (n : Nat) (x : RingState) (g : Fld) : (s.setRing n x).get g = s.get g := rfl
@[simp] theorem State.setRing_bit (n : Nat) (x : RingState) (g : Fld) : (s.setRing n x).bit g = s.bit g := rfl
@[simp] theorem State.setRing_getI (n : Nat) (x : RingState) (g : Fld) : (s.setRing n x).getI g = s.getI g := rfl
@[simp] theorem State.setRing_word (n : Nat) (x : RingState) (k : Nat) : (s.setRing n x).word k = s.word k := rfl

/-! ## `setTso` -/

@[simp] theorem State.setTso_part (n : Nat) (x : TsoState) : (s.setTso n x).part = s.part := rfl
@[simp] theorem State.setTso_regs (n : Nat) (x : TsoState) : (s.setTso n x).regs = s.regs := rfl
@[simp] theorem State.setTso_boot (n : Nat) (x : TsoState) : (s.setTso n x).boot = s.boot := rfl
@[simp] theorem State.setTso_flash (n : Nat) (x : TsoState) : (s.setTso n x).flash = s.flash := rfl
@[simp] theorem State.setTso_flashSize (n : Nat) (x : TsoState) : (s.setTso n x).flashSize = s.flashSize := rfl
@[simp] theorem State.setTso_window (n : Nat) (x : TsoState) : (s.setTso n x).window = s.window := rfl
@[simp] theorem State.setTso_otp (n : Nat) (x : TsoState) : (s.setTso n x).otp = s.otp := rfl
@[simp] theorem State.setTso_ev (n : Nat) (x : TsoState) : (s.setTso n x).ev = s.ev := rfl
@[simp] theorem State.setTso_pcie (n : Nat) (x : TsoState) : (s.setTso n x).pcie = s.pcie := rfl
@[simp] theorem State.setTso_hqs (n : Nat) (x : TsoState) : (s.setTso n x).hqs = s.hqs := rfl
@[simp] theorem State.setTso_paths (n : Nat) (x : TsoState) : (s.setTso n x).paths = s.paths := rfl
@[simp] theorem State.setTso_jesd (n : Nat) (x : TsoState) : (s.setTso n x).jesd = s.jesd := rfl
@[simp] theorem State.setTso_osc (n : Nat) (x : TsoState) : (s.setTso n x).osc = s.osc := rfl
@[simp] theorem State.setTso_ces (n : Nat) (x : TsoState) : (s.setTso n x).ces = s.ces := rfl
@[simp] theorem State.setTso_tes (n : Nat) (x : TsoState) : (s.setTso n x).tes = s.tes := rfl
@[simp] theorem State.setTso_imap (n : Nat) (x : TsoState) : (s.setTso n x).imap = s.imap := rfl
@[simp] theorem State.setTso_psm (n : Nat) (x : TsoState) : (s.setTso n x).psm = s.psm := rfl
@[simp] theorem State.setTso_drift (n : Nat) (x : TsoState) : (s.setTso n x).drift = s.drift := rfl
@[simp] theorem State.setTso_fwd (n : Nat) (x : TsoState) : (s.setTso n x).fwd = s.fwd := rfl
@[simp] theorem State.setTso_sched (n : Nat) (x : TsoState) : (s.setTso n x).sched = s.sched := rfl
@[simp] theorem State.setTso_queues (n : Nat) (x : TsoState) : (s.setTso n x).queues = s.queues := rfl
@[simp] theorem State.setTso_sec (n : Nat) (x : TsoState) : (s.setTso n x).sec = s.sec := rfl
@[simp] theorem State.setTso_tree (n : Nat) (x : TsoState) : (s.setTso n x).tree = s.tree := rfl
@[simp] theorem State.setTso_eth (n : Nat) (x : TsoState) : (s.setTso n x).eth = s.eth := rfl
@[simp] theorem State.setTso_app (n : Nat) (x : TsoState) : (s.setTso n x).app = s.app := rfl
@[simp] theorem State.setTso_cpus (n : Nat) (x : TsoState) : (s.setTso n x).cpus = s.cpus := rfl
@[simp] theorem State.setTso_mi (n : Nat) (x : TsoState) : (s.setTso n x).mi = s.mi := rfl
@[simp] theorem State.setTso_pair (n : Nat) (x : TsoState) : (s.setTso n x).pair = s.pair := rfl
@[simp] theorem State.setTso_upd (n : Nat) (x : TsoState) : (s.setTso n x).upd = s.upd := rfl
@[simp] theorem State.setTso_pwr (n : Nat) (x : TsoState) : (s.setTso n x).pwr = s.pwr := rfl
@[simp] theorem State.setTso_snaps (n : Nat) (x : TsoState) : (s.setTso n x).snaps = s.snaps := rfl
@[simp] theorem State.setTso_now (n : Nat) (x : TsoState) : (s.setTso n x).now = s.now := rfl
@[simp] theorem State.setTso_draws (n : Nat) (x : TsoState) : (s.setTso n x).draws = s.draws := rfl
@[simp] theorem State.setTso_out (n : Nat) (x : TsoState) : (s.setTso n x).out = s.out := rfl
@[simp] theorem State.setTso_reply (n : Nat) (x : TsoState) : (s.setTso n x).reply = s.reply := rfl
@[simp] theorem State.setTso_pending (n : Nat) (x : TsoState) : (s.setTso n x).pending = s.pending := rfl
@[simp] theorem State.setTso_path (n : Nat) (x : TsoState) (k : Nat) : (s.setTso n x).path k = s.path k := rfl
@[simp] theorem State.setTso_ce (n : Nat) (x : TsoState) (k : Nat) : (s.setTso n x).ce k = s.ce k := rfl
@[simp] theorem State.setTso_te (n : Nat) (x : TsoState) (k : Nat) : (s.setTso n x).te k = s.te k := rfl
@[simp] theorem State.setTso_ring (n : Nat) (x : TsoState) (k : Nat) : (s.setTso n x).ring k = s.ring k := rfl
@[simp] theorem State.setTso_snapsOf (n : Nat) (x : TsoState) (k : Requester) : (s.setTso n x).snapsOf k = s.snapsOf k := rfl
@[simp] theorem State.setTso_queue (n : Nat) (x : TsoState) (k : Nat) : (s.setTso n x).queue k = s.queue k := rfl
@[simp] theorem State.setTso_hq (n : Nat) (x : TsoState) (k : Nat) : (s.setTso n x).hq k = s.hq k := rfl
@[simp] theorem State.setTso_asnNat (n : Nat) (x : TsoState) : (s.setTso n x).asnNat = s.asnNat := rfl
@[simp] theorem State.setTso_get (n : Nat) (x : TsoState) (g : Fld) : (s.setTso n x).get g = s.get g := rfl
@[simp] theorem State.setTso_bit (n : Nat) (x : TsoState) (g : Fld) : (s.setTso n x).bit g = s.bit g := rfl
@[simp] theorem State.setTso_getI (n : Nat) (x : TsoState) (g : Fld) : (s.setTso n x).getI g = s.getI g := rfl
@[simp] theorem State.setTso_word (n : Nat) (x : TsoState) (k : Nat) : (s.setTso n x).word k = s.word k := rfl

/-! ## `setGt` -/

@[simp] theorem State.setGt_part (n : Nat) (x : GtState) : (s.setGt n x).part = s.part := rfl
@[simp] theorem State.setGt_regs (n : Nat) (x : GtState) : (s.setGt n x).regs = s.regs := rfl
@[simp] theorem State.setGt_boot (n : Nat) (x : GtState) : (s.setGt n x).boot = s.boot := rfl
@[simp] theorem State.setGt_flash (n : Nat) (x : GtState) : (s.setGt n x).flash = s.flash := rfl
@[simp] theorem State.setGt_flashSize (n : Nat) (x : GtState) : (s.setGt n x).flashSize = s.flashSize := rfl
@[simp] theorem State.setGt_window (n : Nat) (x : GtState) : (s.setGt n x).window = s.window := rfl
@[simp] theorem State.setGt_otp (n : Nat) (x : GtState) : (s.setGt n x).otp = s.otp := rfl
@[simp] theorem State.setGt_ev (n : Nat) (x : GtState) : (s.setGt n x).ev = s.ev := rfl
@[simp] theorem State.setGt_pcie (n : Nat) (x : GtState) : (s.setGt n x).pcie = s.pcie := rfl
@[simp] theorem State.setGt_hqs (n : Nat) (x : GtState) : (s.setGt n x).hqs = s.hqs := rfl
@[simp] theorem State.setGt_paths (n : Nat) (x : GtState) : (s.setGt n x).paths = s.paths := rfl
@[simp] theorem State.setGt_jesd (n : Nat) (x : GtState) : (s.setGt n x).jesd = s.jesd := rfl
@[simp] theorem State.setGt_osc (n : Nat) (x : GtState) : (s.setGt n x).osc = s.osc := rfl
@[simp] theorem State.setGt_ces (n : Nat) (x : GtState) : (s.setGt n x).ces = s.ces := rfl
@[simp] theorem State.setGt_tes (n : Nat) (x : GtState) : (s.setGt n x).tes = s.tes := rfl
@[simp] theorem State.setGt_imap (n : Nat) (x : GtState) : (s.setGt n x).imap = s.imap := rfl
@[simp] theorem State.setGt_psm (n : Nat) (x : GtState) : (s.setGt n x).psm = s.psm := rfl
@[simp] theorem State.setGt_drift (n : Nat) (x : GtState) : (s.setGt n x).drift = s.drift := rfl
@[simp] theorem State.setGt_fwd (n : Nat) (x : GtState) : (s.setGt n x).fwd = s.fwd := rfl
@[simp] theorem State.setGt_sched (n : Nat) (x : GtState) : (s.setGt n x).sched = s.sched := rfl
@[simp] theorem State.setGt_queues (n : Nat) (x : GtState) : (s.setGt n x).queues = s.queues := rfl
@[simp] theorem State.setGt_sec (n : Nat) (x : GtState) : (s.setGt n x).sec = s.sec := rfl
@[simp] theorem State.setGt_tree (n : Nat) (x : GtState) : (s.setGt n x).tree = s.tree := rfl
@[simp] theorem State.setGt_eth (n : Nat) (x : GtState) : (s.setGt n x).eth = s.eth := rfl
@[simp] theorem State.setGt_app (n : Nat) (x : GtState) : (s.setGt n x).app = s.app := rfl
@[simp] theorem State.setGt_cpus (n : Nat) (x : GtState) : (s.setGt n x).cpus = s.cpus := rfl
@[simp] theorem State.setGt_mi (n : Nat) (x : GtState) : (s.setGt n x).mi = s.mi := rfl
@[simp] theorem State.setGt_pair (n : Nat) (x : GtState) : (s.setGt n x).pair = s.pair := rfl
@[simp] theorem State.setGt_upd (n : Nat) (x : GtState) : (s.setGt n x).upd = s.upd := rfl
@[simp] theorem State.setGt_pwr (n : Nat) (x : GtState) : (s.setGt n x).pwr = s.pwr := rfl
@[simp] theorem State.setGt_snaps (n : Nat) (x : GtState) : (s.setGt n x).snaps = s.snaps := rfl
@[simp] theorem State.setGt_now (n : Nat) (x : GtState) : (s.setGt n x).now = s.now := rfl
@[simp] theorem State.setGt_draws (n : Nat) (x : GtState) : (s.setGt n x).draws = s.draws := rfl
@[simp] theorem State.setGt_out (n : Nat) (x : GtState) : (s.setGt n x).out = s.out := rfl
@[simp] theorem State.setGt_reply (n : Nat) (x : GtState) : (s.setGt n x).reply = s.reply := rfl
@[simp] theorem State.setGt_pending (n : Nat) (x : GtState) : (s.setGt n x).pending = s.pending := rfl
@[simp] theorem State.setGt_path (n : Nat) (x : GtState) (k : Nat) : (s.setGt n x).path k = s.path k := rfl
@[simp] theorem State.setGt_ce (n : Nat) (x : GtState) (k : Nat) : (s.setGt n x).ce k = s.ce k := rfl
@[simp] theorem State.setGt_te (n : Nat) (x : GtState) (k : Nat) : (s.setGt n x).te k = s.te k := rfl
@[simp] theorem State.setGt_ring (n : Nat) (x : GtState) (k : Nat) : (s.setGt n x).ring k = s.ring k := rfl
@[simp] theorem State.setGt_snapsOf (n : Nat) (x : GtState) (k : Requester) : (s.setGt n x).snapsOf k = s.snapsOf k := rfl
@[simp] theorem State.setGt_queue (n : Nat) (x : GtState) (k : Nat) : (s.setGt n x).queue k = s.queue k := rfl
@[simp] theorem State.setGt_hq (n : Nat) (x : GtState) (k : Nat) : (s.setGt n x).hq k = s.hq k := rfl
@[simp] theorem State.setGt_asnNat (n : Nat) (x : GtState) : (s.setGt n x).asnNat = s.asnNat := rfl
@[simp] theorem State.setGt_get (n : Nat) (x : GtState) (g : Fld) : (s.setGt n x).get g = s.get g := rfl
@[simp] theorem State.setGt_bit (n : Nat) (x : GtState) (g : Fld) : (s.setGt n x).bit g = s.bit g := rfl
@[simp] theorem State.setGt_getI (n : Nat) (x : GtState) (g : Fld) : (s.setGt n x).getI g = s.getI g := rfl
@[simp] theorem State.setGt_word (n : Nat) (x : GtState) (k : Nat) : (s.setGt n x).word k = s.word k := rfl

/-! ## `setSnaps` -/

@[simp] theorem State.setSnaps_part (q : Requester) (x : Snapshots) : (s.setSnaps q x).part = s.part := rfl
@[simp] theorem State.setSnaps_regs (q : Requester) (x : Snapshots) : (s.setSnaps q x).regs = s.regs := rfl
@[simp] theorem State.setSnaps_boot (q : Requester) (x : Snapshots) : (s.setSnaps q x).boot = s.boot := rfl
@[simp] theorem State.setSnaps_flash (q : Requester) (x : Snapshots) : (s.setSnaps q x).flash = s.flash := rfl
@[simp] theorem State.setSnaps_flashSize (q : Requester) (x : Snapshots) : (s.setSnaps q x).flashSize = s.flashSize := rfl
@[simp] theorem State.setSnaps_window (q : Requester) (x : Snapshots) : (s.setSnaps q x).window = s.window := rfl
@[simp] theorem State.setSnaps_otp (q : Requester) (x : Snapshots) : (s.setSnaps q x).otp = s.otp := rfl
@[simp] theorem State.setSnaps_ev (q : Requester) (x : Snapshots) : (s.setSnaps q x).ev = s.ev := rfl
@[simp] theorem State.setSnaps_pcie (q : Requester) (x : Snapshots) : (s.setSnaps q x).pcie = s.pcie := rfl
@[simp] theorem State.setSnaps_hqs (q : Requester) (x : Snapshots) : (s.setSnaps q x).hqs = s.hqs := rfl
@[simp] theorem State.setSnaps_paths (q : Requester) (x : Snapshots) : (s.setSnaps q x).paths = s.paths := rfl
@[simp] theorem State.setSnaps_jesd (q : Requester) (x : Snapshots) : (s.setSnaps q x).jesd = s.jesd := rfl
@[simp] theorem State.setSnaps_osc (q : Requester) (x : Snapshots) : (s.setSnaps q x).osc = s.osc := rfl
@[simp] theorem State.setSnaps_ces (q : Requester) (x : Snapshots) : (s.setSnaps q x).ces = s.ces := rfl
@[simp] theorem State.setSnaps_tes (q : Requester) (x : Snapshots) : (s.setSnaps q x).tes = s.tes := rfl
@[simp] theorem State.setSnaps_imap (q : Requester) (x : Snapshots) : (s.setSnaps q x).imap = s.imap := rfl
@[simp] theorem State.setSnaps_psm (q : Requester) (x : Snapshots) : (s.setSnaps q x).psm = s.psm := rfl
@[simp] theorem State.setSnaps_drift (q : Requester) (x : Snapshots) : (s.setSnaps q x).drift = s.drift := rfl
@[simp] theorem State.setSnaps_fwd (q : Requester) (x : Snapshots) : (s.setSnaps q x).fwd = s.fwd := rfl
@[simp] theorem State.setSnaps_sched (q : Requester) (x : Snapshots) : (s.setSnaps q x).sched = s.sched := rfl
@[simp] theorem State.setSnaps_queues (q : Requester) (x : Snapshots) : (s.setSnaps q x).queues = s.queues := rfl
@[simp] theorem State.setSnaps_tb (q : Requester) (x : Snapshots) : (s.setSnaps q x).tb = s.tb := rfl
@[simp] theorem State.setSnaps_sec (q : Requester) (x : Snapshots) : (s.setSnaps q x).sec = s.sec := rfl
@[simp] theorem State.setSnaps_tree (q : Requester) (x : Snapshots) : (s.setSnaps q x).tree = s.tree := rfl
@[simp] theorem State.setSnaps_eth (q : Requester) (x : Snapshots) : (s.setSnaps q x).eth = s.eth := rfl
@[simp] theorem State.setSnaps_app (q : Requester) (x : Snapshots) : (s.setSnaps q x).app = s.app := rfl
@[simp] theorem State.setSnaps_cpus (q : Requester) (x : Snapshots) : (s.setSnaps q x).cpus = s.cpus := rfl
@[simp] theorem State.setSnaps_mi (q : Requester) (x : Snapshots) : (s.setSnaps q x).mi = s.mi := rfl
@[simp] theorem State.setSnaps_pair (q : Requester) (x : Snapshots) : (s.setSnaps q x).pair = s.pair := rfl
@[simp] theorem State.setSnaps_upd (q : Requester) (x : Snapshots) : (s.setSnaps q x).upd = s.upd := rfl
@[simp] theorem State.setSnaps_pwr (q : Requester) (x : Snapshots) : (s.setSnaps q x).pwr = s.pwr := rfl
@[simp] theorem State.setSnaps_snaps (q : Requester) (x : Snapshots) : (s.setSnaps q x).snaps = assocSet s.snaps q.bank x := rfl
@[simp] theorem State.setSnaps_now (q : Requester) (x : Snapshots) : (s.setSnaps q x).now = s.now := rfl
@[simp] theorem State.setSnaps_draws (q : Requester) (x : Snapshots) : (s.setSnaps q x).draws = s.draws := rfl
@[simp] theorem State.setSnaps_out (q : Requester) (x : Snapshots) : (s.setSnaps q x).out = s.out := rfl
@[simp] theorem State.setSnaps_reply (q : Requester) (x : Snapshots) : (s.setSnaps q x).reply = s.reply := rfl
@[simp] theorem State.setSnaps_pending (q : Requester) (x : Snapshots) : (s.setSnaps q x).pending = s.pending := rfl
@[simp] theorem State.setSnaps_path (q : Requester) (x : Snapshots) (k : Nat) : (s.setSnaps q x).path k = s.path k := rfl
@[simp] theorem State.setSnaps_ce (q : Requester) (x : Snapshots) (k : Nat) : (s.setSnaps q x).ce k = s.ce k := rfl
@[simp] theorem State.setSnaps_te (q : Requester) (x : Snapshots) (k : Nat) : (s.setSnaps q x).te k = s.te k := rfl
@[simp] theorem State.setSnaps_ring (q : Requester) (x : Snapshots) (k : Nat) : (s.setSnaps q x).ring k = s.ring k := rfl
@[simp] theorem State.setSnaps_tso (q : Requester) (x : Snapshots) (k : Nat) : (s.setSnaps q x).tso k = s.tso k := rfl
@[simp] theorem State.setSnaps_gt (q : Requester) (x : Snapshots) (k : Nat) : (s.setSnaps q x).gt k = s.gt k := rfl
@[simp] theorem State.setSnaps_queue (q : Requester) (x : Snapshots) (k : Nat) : (s.setSnaps q x).queue k = s.queue k := rfl
@[simp] theorem State.setSnaps_hq (q : Requester) (x : Snapshots) (k : Nat) : (s.setSnaps q x).hq k = s.hq k := rfl
@[simp] theorem State.setSnaps_tbNs (q : Requester) (x : Snapshots) : (s.setSnaps q x).tbNs = s.tbNs := rfl
@[simp] theorem State.setSnaps_asnNat (q : Requester) (x : Snapshots) : (s.setSnaps q x).asnNat = s.asnNat := rfl
@[simp] theorem State.setSnaps_get (q : Requester) (x : Snapshots) (g : Fld) : (s.setSnaps q x).get g = s.get g := rfl
@[simp] theorem State.setSnaps_bit (q : Requester) (x : Snapshots) (g : Fld) : (s.setSnaps q x).bit g = s.bit g := rfl
@[simp] theorem State.setSnaps_getI (q : Requester) (x : Snapshots) (g : Fld) : (s.setSnaps q x).getI g = s.getI g := rfl
@[simp] theorem State.setSnaps_word (q : Requester) (x : Snapshots) (k : Nat) : (s.setSnaps q x).word k = s.word k := rfl

/-! ## `setQueue` -/

@[simp] theorem State.setQueue_part (n : Nat) (x : QueueState) : (s.setQueue n x).part = s.part := rfl
@[simp] theorem State.setQueue_regs (n : Nat) (x : QueueState) : (s.setQueue n x).regs = s.regs := rfl
@[simp] theorem State.setQueue_boot (n : Nat) (x : QueueState) : (s.setQueue n x).boot = s.boot := rfl
@[simp] theorem State.setQueue_flash (n : Nat) (x : QueueState) : (s.setQueue n x).flash = s.flash := rfl
@[simp] theorem State.setQueue_flashSize (n : Nat) (x : QueueState) : (s.setQueue n x).flashSize = s.flashSize := rfl
@[simp] theorem State.setQueue_window (n : Nat) (x : QueueState) : (s.setQueue n x).window = s.window := rfl
@[simp] theorem State.setQueue_otp (n : Nat) (x : QueueState) : (s.setQueue n x).otp = s.otp := rfl
@[simp] theorem State.setQueue_ev (n : Nat) (x : QueueState) : (s.setQueue n x).ev = s.ev := rfl
@[simp] theorem State.setQueue_pcie (n : Nat) (x : QueueState) : (s.setQueue n x).pcie = s.pcie := rfl
@[simp] theorem State.setQueue_hqs (n : Nat) (x : QueueState) : (s.setQueue n x).hqs = s.hqs := rfl
@[simp] theorem State.setQueue_paths (n : Nat) (x : QueueState) : (s.setQueue n x).paths = s.paths := rfl
@[simp] theorem State.setQueue_jesd (n : Nat) (x : QueueState) : (s.setQueue n x).jesd = s.jesd := rfl
@[simp] theorem State.setQueue_osc (n : Nat) (x : QueueState) : (s.setQueue n x).osc = s.osc := rfl
@[simp] theorem State.setQueue_ces (n : Nat) (x : QueueState) : (s.setQueue n x).ces = s.ces := rfl
@[simp] theorem State.setQueue_tes (n : Nat) (x : QueueState) : (s.setQueue n x).tes = s.tes := rfl
@[simp] theorem State.setQueue_imap (n : Nat) (x : QueueState) : (s.setQueue n x).imap = s.imap := rfl
@[simp] theorem State.setQueue_psm (n : Nat) (x : QueueState) : (s.setQueue n x).psm = s.psm := rfl
@[simp] theorem State.setQueue_drift (n : Nat) (x : QueueState) : (s.setQueue n x).drift = s.drift := rfl
@[simp] theorem State.setQueue_fwd (n : Nat) (x : QueueState) : (s.setQueue n x).fwd = s.fwd := rfl
@[simp] theorem State.setQueue_sched (n : Nat) (x : QueueState) : (s.setQueue n x).sched = s.sched := rfl
@[simp] theorem State.setQueue_queues (n : Nat) (x : QueueState) : (s.setQueue n x).queues = assocSet s.queues n x := rfl
@[simp] theorem State.setQueue_tb (n : Nat) (x : QueueState) : (s.setQueue n x).tb = s.tb := rfl
@[simp] theorem State.setQueue_sec (n : Nat) (x : QueueState) : (s.setQueue n x).sec = s.sec := rfl
@[simp] theorem State.setQueue_tree (n : Nat) (x : QueueState) : (s.setQueue n x).tree = s.tree := rfl
@[simp] theorem State.setQueue_eth (n : Nat) (x : QueueState) : (s.setQueue n x).eth = s.eth := rfl
@[simp] theorem State.setQueue_app (n : Nat) (x : QueueState) : (s.setQueue n x).app = s.app := rfl
@[simp] theorem State.setQueue_cpus (n : Nat) (x : QueueState) : (s.setQueue n x).cpus = s.cpus := rfl
@[simp] theorem State.setQueue_mi (n : Nat) (x : QueueState) : (s.setQueue n x).mi = s.mi := rfl
@[simp] theorem State.setQueue_pair (n : Nat) (x : QueueState) : (s.setQueue n x).pair = s.pair := rfl
@[simp] theorem State.setQueue_upd (n : Nat) (x : QueueState) : (s.setQueue n x).upd = s.upd := rfl
@[simp] theorem State.setQueue_pwr (n : Nat) (x : QueueState) : (s.setQueue n x).pwr = s.pwr := rfl
@[simp] theorem State.setQueue_snaps (n : Nat) (x : QueueState) : (s.setQueue n x).snaps = s.snaps := rfl
@[simp] theorem State.setQueue_now (n : Nat) (x : QueueState) : (s.setQueue n x).now = s.now := rfl
@[simp] theorem State.setQueue_draws (n : Nat) (x : QueueState) : (s.setQueue n x).draws = s.draws := rfl
@[simp] theorem State.setQueue_out (n : Nat) (x : QueueState) : (s.setQueue n x).out = s.out := rfl
@[simp] theorem State.setQueue_reply (n : Nat) (x : QueueState) : (s.setQueue n x).reply = s.reply := rfl
@[simp] theorem State.setQueue_pending (n : Nat) (x : QueueState) : (s.setQueue n x).pending = s.pending := rfl
@[simp] theorem State.setQueue_path (n : Nat) (x : QueueState) (k : Nat) : (s.setQueue n x).path k = s.path k := rfl
@[simp] theorem State.setQueue_ce (n : Nat) (x : QueueState) (k : Nat) : (s.setQueue n x).ce k = s.ce k := rfl
@[simp] theorem State.setQueue_te (n : Nat) (x : QueueState) (k : Nat) : (s.setQueue n x).te k = s.te k := rfl
@[simp] theorem State.setQueue_ring (n : Nat) (x : QueueState) (k : Nat) : (s.setQueue n x).ring k = s.ring k := rfl
@[simp] theorem State.setQueue_tso (n : Nat) (x : QueueState) (k : Nat) : (s.setQueue n x).tso k = s.tso k := rfl
@[simp] theorem State.setQueue_gt (n : Nat) (x : QueueState) (k : Nat) : (s.setQueue n x).gt k = s.gt k := rfl
@[simp] theorem State.setQueue_snapsOf (n : Nat) (x : QueueState) (k : Requester) : (s.setQueue n x).snapsOf k = s.snapsOf k := rfl
@[simp] theorem State.setQueue_hq (n : Nat) (x : QueueState) (k : Nat) : (s.setQueue n x).hq k = s.hq k := rfl
@[simp] theorem State.setQueue_tbNs (n : Nat) (x : QueueState) : (s.setQueue n x).tbNs = s.tbNs := rfl
@[simp] theorem State.setQueue_asnNat (n : Nat) (x : QueueState) : (s.setQueue n x).asnNat = s.asnNat := rfl
@[simp] theorem State.setQueue_get (n : Nat) (x : QueueState) (g : Fld) : (s.setQueue n x).get g = s.get g := rfl
@[simp] theorem State.setQueue_bit (n : Nat) (x : QueueState) (g : Fld) : (s.setQueue n x).bit g = s.bit g := rfl
@[simp] theorem State.setQueue_getI (n : Nat) (x : QueueState) (g : Fld) : (s.setQueue n x).getI g = s.getI g := rfl
@[simp] theorem State.setQueue_word (n : Nat) (x : QueueState) (k : Nat) : (s.setQueue n x).word k = s.word k := rfl

/-! ## `setHq` -/

@[simp] theorem State.setHq_part (n : Nat) (x : HostQueueState) : (s.setHq n x).part = s.part := rfl
@[simp] theorem State.setHq_regs (n : Nat) (x : HostQueueState) : (s.setHq n x).regs = s.regs := rfl
@[simp] theorem State.setHq_boot (n : Nat) (x : HostQueueState) : (s.setHq n x).boot = s.boot := rfl
@[simp] theorem State.setHq_flash (n : Nat) (x : HostQueueState) : (s.setHq n x).flash = s.flash := rfl
@[simp] theorem State.setHq_flashSize (n : Nat) (x : HostQueueState) : (s.setHq n x).flashSize = s.flashSize := rfl
@[simp] theorem State.setHq_window (n : Nat) (x : HostQueueState) : (s.setHq n x).window = s.window := rfl
@[simp] theorem State.setHq_otp (n : Nat) (x : HostQueueState) : (s.setHq n x).otp = s.otp := rfl
@[simp] theorem State.setHq_ev (n : Nat) (x : HostQueueState) : (s.setHq n x).ev = s.ev := rfl
@[simp] theorem State.setHq_pcie (n : Nat) (x : HostQueueState) : (s.setHq n x).pcie = s.pcie := rfl
@[simp] theorem State.setHq_hqs (n : Nat) (x : HostQueueState) : (s.setHq n x).hqs = assocSet s.hqs n x := rfl
@[simp] theorem State.setHq_paths (n : Nat) (x : HostQueueState) : (s.setHq n x).paths = s.paths := rfl
@[simp] theorem State.setHq_jesd (n : Nat) (x : HostQueueState) : (s.setHq n x).jesd = s.jesd := rfl
@[simp] theorem State.setHq_osc (n : Nat) (x : HostQueueState) : (s.setHq n x).osc = s.osc := rfl
@[simp] theorem State.setHq_ces (n : Nat) (x : HostQueueState) : (s.setHq n x).ces = s.ces := rfl
@[simp] theorem State.setHq_tes (n : Nat) (x : HostQueueState) : (s.setHq n x).tes = s.tes := rfl
@[simp] theorem State.setHq_imap (n : Nat) (x : HostQueueState) : (s.setHq n x).imap = s.imap := rfl
@[simp] theorem State.setHq_psm (n : Nat) (x : HostQueueState) : (s.setHq n x).psm = s.psm := rfl
@[simp] theorem State.setHq_drift (n : Nat) (x : HostQueueState) : (s.setHq n x).drift = s.drift := rfl
@[simp] theorem State.setHq_fwd (n : Nat) (x : HostQueueState) : (s.setHq n x).fwd = s.fwd := rfl
@[simp] theorem State.setHq_sched (n : Nat) (x : HostQueueState) : (s.setHq n x).sched = s.sched := rfl
@[simp] theorem State.setHq_queues (n : Nat) (x : HostQueueState) : (s.setHq n x).queues = s.queues := rfl
@[simp] theorem State.setHq_tb (n : Nat) (x : HostQueueState) : (s.setHq n x).tb = s.tb := rfl
@[simp] theorem State.setHq_sec (n : Nat) (x : HostQueueState) : (s.setHq n x).sec = s.sec := rfl
@[simp] theorem State.setHq_tree (n : Nat) (x : HostQueueState) : (s.setHq n x).tree = s.tree := rfl
@[simp] theorem State.setHq_eth (n : Nat) (x : HostQueueState) : (s.setHq n x).eth = s.eth := rfl
@[simp] theorem State.setHq_app (n : Nat) (x : HostQueueState) : (s.setHq n x).app = s.app := rfl
@[simp] theorem State.setHq_cpus (n : Nat) (x : HostQueueState) : (s.setHq n x).cpus = s.cpus := rfl
@[simp] theorem State.setHq_mi (n : Nat) (x : HostQueueState) : (s.setHq n x).mi = s.mi := rfl
@[simp] theorem State.setHq_pair (n : Nat) (x : HostQueueState) : (s.setHq n x).pair = s.pair := rfl
@[simp] theorem State.setHq_upd (n : Nat) (x : HostQueueState) : (s.setHq n x).upd = s.upd := rfl
@[simp] theorem State.setHq_pwr (n : Nat) (x : HostQueueState) : (s.setHq n x).pwr = s.pwr := rfl
@[simp] theorem State.setHq_snaps (n : Nat) (x : HostQueueState) : (s.setHq n x).snaps = s.snaps := rfl
@[simp] theorem State.setHq_now (n : Nat) (x : HostQueueState) : (s.setHq n x).now = s.now := rfl
@[simp] theorem State.setHq_draws (n : Nat) (x : HostQueueState) : (s.setHq n x).draws = s.draws := rfl
@[simp] theorem State.setHq_out (n : Nat) (x : HostQueueState) : (s.setHq n x).out = s.out := rfl
@[simp] theorem State.setHq_reply (n : Nat) (x : HostQueueState) : (s.setHq n x).reply = s.reply := rfl
@[simp] theorem State.setHq_pending (n : Nat) (x : HostQueueState) : (s.setHq n x).pending = s.pending := rfl
@[simp] theorem State.setHq_path (n : Nat) (x : HostQueueState) (k : Nat) : (s.setHq n x).path k = s.path k := rfl
@[simp] theorem State.setHq_ce (n : Nat) (x : HostQueueState) (k : Nat) : (s.setHq n x).ce k = s.ce k := rfl
@[simp] theorem State.setHq_te (n : Nat) (x : HostQueueState) (k : Nat) : (s.setHq n x).te k = s.te k := rfl
@[simp] theorem State.setHq_ring (n : Nat) (x : HostQueueState) (k : Nat) : (s.setHq n x).ring k = s.ring k := rfl
@[simp] theorem State.setHq_tso (n : Nat) (x : HostQueueState) (k : Nat) : (s.setHq n x).tso k = s.tso k := rfl
@[simp] theorem State.setHq_gt (n : Nat) (x : HostQueueState) (k : Nat) : (s.setHq n x).gt k = s.gt k := rfl
@[simp] theorem State.setHq_snapsOf (n : Nat) (x : HostQueueState) (k : Requester) : (s.setHq n x).snapsOf k = s.snapsOf k := rfl
@[simp] theorem State.setHq_queue (n : Nat) (x : HostQueueState) (k : Nat) : (s.setHq n x).queue k = s.queue k := rfl
@[simp] theorem State.setHq_tbNs (n : Nat) (x : HostQueueState) : (s.setHq n x).tbNs = s.tbNs := rfl
@[simp] theorem State.setHq_asnNat (n : Nat) (x : HostQueueState) : (s.setHq n x).asnNat = s.asnNat := rfl
@[simp] theorem State.setHq_get (n : Nat) (x : HostQueueState) (g : Fld) : (s.setHq n x).get g = s.get g := rfl
@[simp] theorem State.setHq_bit (n : Nat) (x : HostQueueState) (g : Fld) : (s.setHq n x).bit g = s.bit g := rfl
@[simp] theorem State.setHq_getI (n : Nat) (x : HostQueueState) (g : Fld) : (s.setHq n x).getI g = s.getI g := rfl
@[simp] theorem State.setHq_word (n : Nat) (x : HostQueueState) (k : Nat) : (s.setHq n x).word k = s.word k := rfl

/-! ## `emit` -/

@[simp] theorem State.emit_part (o : Output) : (s.emit o).part = s.part := rfl
@[simp] theorem State.emit_regs (o : Output) : (s.emit o).regs = s.regs := rfl
@[simp] theorem State.emit_boot (o : Output) : (s.emit o).boot = s.boot := rfl
@[simp] theorem State.emit_flash (o : Output) : (s.emit o).flash = s.flash := rfl
@[simp] theorem State.emit_flashSize (o : Output) : (s.emit o).flashSize = s.flashSize := rfl
@[simp] theorem State.emit_window (o : Output) : (s.emit o).window = s.window := rfl
@[simp] theorem State.emit_otp (o : Output) : (s.emit o).otp = s.otp := rfl
@[simp] theorem State.emit_ev (o : Output) : (s.emit o).ev = s.ev := rfl
@[simp] theorem State.emit_pcie (o : Output) : (s.emit o).pcie = s.pcie := rfl
@[simp] theorem State.emit_hqs (o : Output) : (s.emit o).hqs = s.hqs := rfl
@[simp] theorem State.emit_paths (o : Output) : (s.emit o).paths = s.paths := rfl
@[simp] theorem State.emit_jesd (o : Output) : (s.emit o).jesd = s.jesd := rfl
@[simp] theorem State.emit_osc (o : Output) : (s.emit o).osc = s.osc := rfl
@[simp] theorem State.emit_ces (o : Output) : (s.emit o).ces = s.ces := rfl
@[simp] theorem State.emit_tes (o : Output) : (s.emit o).tes = s.tes := rfl
@[simp] theorem State.emit_imap (o : Output) : (s.emit o).imap = s.imap := rfl
@[simp] theorem State.emit_psm (o : Output) : (s.emit o).psm = s.psm := rfl
@[simp] theorem State.emit_drift (o : Output) : (s.emit o).drift = s.drift := rfl
@[simp] theorem State.emit_fwd (o : Output) : (s.emit o).fwd = s.fwd := rfl
@[simp] theorem State.emit_sched (o : Output) : (s.emit o).sched = s.sched := rfl
@[simp] theorem State.emit_queues (o : Output) : (s.emit o).queues = s.queues := rfl
@[simp] theorem State.emit_tb (o : Output) : (s.emit o).tb = s.tb := rfl
@[simp] theorem State.emit_sec (o : Output) : (s.emit o).sec = s.sec := rfl
@[simp] theorem State.emit_tree (o : Output) : (s.emit o).tree = s.tree := rfl
@[simp] theorem State.emit_eth (o : Output) : (s.emit o).eth = s.eth := rfl
@[simp] theorem State.emit_app (o : Output) : (s.emit o).app = s.app := rfl
@[simp] theorem State.emit_cpus (o : Output) : (s.emit o).cpus = s.cpus := rfl
@[simp] theorem State.emit_mi (o : Output) : (s.emit o).mi = s.mi := rfl
@[simp] theorem State.emit_pair (o : Output) : (s.emit o).pair = s.pair := rfl
@[simp] theorem State.emit_upd (o : Output) : (s.emit o).upd = s.upd := rfl
@[simp] theorem State.emit_pwr (o : Output) : (s.emit o).pwr = s.pwr := rfl
@[simp] theorem State.emit_snaps (o : Output) : (s.emit o).snaps = s.snaps := rfl
@[simp] theorem State.emit_now (o : Output) : (s.emit o).now = s.now := rfl
@[simp] theorem State.emit_draws (o : Output) : (s.emit o).draws = s.draws := rfl
@[simp] theorem State.emit_out (o : Output) : (s.emit o).out = o :: s.out := rfl
@[simp] theorem State.emit_reply (o : Output) : (s.emit o).reply = s.reply := rfl
@[simp] theorem State.emit_pending (o : Output) : (s.emit o).pending = s.pending := rfl
@[simp] theorem State.emit_path (o : Output) (k : Nat) : (s.emit o).path k = s.path k := rfl
@[simp] theorem State.emit_ce (o : Output) (k : Nat) : (s.emit o).ce k = s.ce k := rfl
@[simp] theorem State.emit_te (o : Output) (k : Nat) : (s.emit o).te k = s.te k := rfl
@[simp] theorem State.emit_ring (o : Output) (k : Nat) : (s.emit o).ring k = s.ring k := rfl
@[simp] theorem State.emit_tso (o : Output) (k : Nat) : (s.emit o).tso k = s.tso k := rfl
@[simp] theorem State.emit_gt (o : Output) (k : Nat) : (s.emit o).gt k = s.gt k := rfl
@[simp] theorem State.emit_snapsOf (o : Output) (k : Requester) : (s.emit o).snapsOf k = s.snapsOf k := rfl
@[simp] theorem State.emit_queue (o : Output) (k : Nat) : (s.emit o).queue k = s.queue k := rfl
@[simp] theorem State.emit_hq (o : Output) (k : Nat) : (s.emit o).hq k = s.hq k := rfl
@[simp] theorem State.emit_tbNs (o : Output) : (s.emit o).tbNs = s.tbNs := rfl
@[simp] theorem State.emit_asnNat (o : Output) : (s.emit o).asnNat = s.asnNat := rfl
@[simp] theorem State.emit_get (o : Output) (g : Fld) : (s.emit o).get g = s.get g := rfl
@[simp] theorem State.emit_bit (o : Output) (g : Fld) : (s.emit o).bit g = s.bit g := rfl
@[simp] theorem State.emit_getI (o : Output) (g : Fld) : (s.emit o).getI g = s.getI g := rfl
@[simp] theorem State.emit_word (o : Output) (k : Nat) : (s.emit o).word k = s.word k := rfl

/-! ## `drew` -/

@[simp] theorem State.drew_part : (s.drew).part = s.part := rfl
@[simp] theorem State.drew_regs : (s.drew).regs = s.regs := rfl
@[simp] theorem State.drew_boot : (s.drew).boot = s.boot := rfl
@[simp] theorem State.drew_flash : (s.drew).flash = s.flash := rfl
@[simp] theorem State.drew_flashSize : (s.drew).flashSize = s.flashSize := rfl
@[simp] theorem State.drew_window : (s.drew).window = s.window := rfl
@[simp] theorem State.drew_otp : (s.drew).otp = s.otp := rfl
@[simp] theorem State.drew_ev : (s.drew).ev = s.ev := rfl
@[simp] theorem State.drew_pcie : (s.drew).pcie = s.pcie := rfl
@[simp] theorem State.drew_hqs : (s.drew).hqs = s.hqs := rfl
@[simp] theorem State.drew_paths : (s.drew).paths = s.paths := rfl
@[simp] theorem State.drew_jesd : (s.drew).jesd = s.jesd := rfl
@[simp] theorem State.drew_osc : (s.drew).osc = s.osc := rfl
@[simp] theorem State.drew_ces : (s.drew).ces = s.ces := rfl
@[simp] theorem State.drew_tes : (s.drew).tes = s.tes := rfl
@[simp] theorem State.drew_imap : (s.drew).imap = s.imap := rfl
@[simp] theorem State.drew_psm : (s.drew).psm = s.psm := rfl
@[simp] theorem State.drew_drift : (s.drew).drift = s.drift := rfl
@[simp] theorem State.drew_fwd : (s.drew).fwd = s.fwd := rfl
@[simp] theorem State.drew_sched : (s.drew).sched = s.sched := rfl
@[simp] theorem State.drew_queues : (s.drew).queues = s.queues := rfl
@[simp] theorem State.drew_tb : (s.drew).tb = s.tb := rfl
@[simp] theorem State.drew_sec : (s.drew).sec = s.sec := rfl
@[simp] theorem State.drew_tree : (s.drew).tree = s.tree := rfl
@[simp] theorem State.drew_eth : (s.drew).eth = s.eth := rfl
@[simp] theorem State.drew_app : (s.drew).app = s.app := rfl
@[simp] theorem State.drew_cpus : (s.drew).cpus = s.cpus := rfl
@[simp] theorem State.drew_mi : (s.drew).mi = s.mi := rfl
@[simp] theorem State.drew_pair : (s.drew).pair = s.pair := rfl
@[simp] theorem State.drew_upd : (s.drew).upd = s.upd := rfl
@[simp] theorem State.drew_pwr : (s.drew).pwr = s.pwr := rfl
@[simp] theorem State.drew_snaps : (s.drew).snaps = s.snaps := rfl
@[simp] theorem State.drew_now : (s.drew).now = s.now := rfl
@[simp] theorem State.drew_draws : (s.drew).draws = s.draws + 1 := rfl
@[simp] theorem State.drew_out : (s.drew).out = s.out := rfl
@[simp] theorem State.drew_reply : (s.drew).reply = s.reply := rfl
@[simp] theorem State.drew_pending : (s.drew).pending = s.pending := rfl
@[simp] theorem State.drew_path (k : Nat) : (s.drew).path k = s.path k := rfl
@[simp] theorem State.drew_ce (k : Nat) : (s.drew).ce k = s.ce k := rfl
@[simp] theorem State.drew_te (k : Nat) : (s.drew).te k = s.te k := rfl
@[simp] theorem State.drew_ring (k : Nat) : (s.drew).ring k = s.ring k := rfl
@[simp] theorem State.drew_tso (k : Nat) : (s.drew).tso k = s.tso k := rfl
@[simp] theorem State.drew_gt (k : Nat) : (s.drew).gt k = s.gt k := rfl
@[simp] theorem State.drew_snapsOf (k : Requester) : (s.drew).snapsOf k = s.snapsOf k := rfl
@[simp] theorem State.drew_queue (k : Nat) : (s.drew).queue k = s.queue k := rfl
@[simp] theorem State.drew_hq (k : Nat) : (s.drew).hq k = s.hq k := rfl
@[simp] theorem State.drew_tbNs : (s.drew).tbNs = s.tbNs := rfl
@[simp] theorem State.drew_asnNat : (s.drew).asnNat = s.asnNat := rfl
@[simp] theorem State.drew_get (g : Fld) : (s.drew).get g = s.get g := rfl
@[simp] theorem State.drew_bit (g : Fld) : (s.drew).bit g = s.bit g := rfl
@[simp] theorem State.drew_getI (g : Fld) : (s.drew).getI g = s.getI g := rfl
@[simp] theorem State.drew_word (k : Nat) : (s.drew).word k = s.word k := rfl

/-! ## `later` -/

@[simp] theorem State.later_part (ns : Nat) : (s.later ns).part = s.part := rfl
@[simp] theorem State.later_regs (ns : Nat) : (s.later ns).regs = s.regs := rfl
@[simp] theorem State.later_boot (ns : Nat) : (s.later ns).boot = s.boot := rfl
@[simp] theorem State.later_flash (ns : Nat) : (s.later ns).flash = s.flash := rfl
@[simp] theorem State.later_flashSize (ns : Nat) : (s.later ns).flashSize = s.flashSize := rfl
@[simp] theorem State.later_window (ns : Nat) : (s.later ns).window = s.window := rfl
@[simp] theorem State.later_otp (ns : Nat) : (s.later ns).otp = s.otp := rfl
@[simp] theorem State.later_ev (ns : Nat) : (s.later ns).ev = s.ev := rfl
@[simp] theorem State.later_pcie (ns : Nat) : (s.later ns).pcie = s.pcie := rfl
@[simp] theorem State.later_hqs (ns : Nat) : (s.later ns).hqs = s.hqs := rfl
@[simp] theorem State.later_paths (ns : Nat) : (s.later ns).paths = s.paths := rfl
@[simp] theorem State.later_jesd (ns : Nat) : (s.later ns).jesd = s.jesd := rfl
@[simp] theorem State.later_osc (ns : Nat) : (s.later ns).osc = s.osc := rfl
@[simp] theorem State.later_ces (ns : Nat) : (s.later ns).ces = s.ces := rfl
@[simp] theorem State.later_tes (ns : Nat) : (s.later ns).tes = s.tes := rfl
@[simp] theorem State.later_imap (ns : Nat) : (s.later ns).imap = s.imap := rfl
@[simp] theorem State.later_psm (ns : Nat) : (s.later ns).psm = s.psm := rfl
@[simp] theorem State.later_drift (ns : Nat) : (s.later ns).drift = s.drift := rfl
@[simp] theorem State.later_fwd (ns : Nat) : (s.later ns).fwd = s.fwd := rfl
@[simp] theorem State.later_sched (ns : Nat) : (s.later ns).sched = s.sched := rfl
@[simp] theorem State.later_queues (ns : Nat) : (s.later ns).queues = s.queues := rfl
@[simp] theorem State.later_tb (ns : Nat) : (s.later ns).tb = s.tb := rfl
@[simp] theorem State.later_sec (ns : Nat) : (s.later ns).sec = s.sec := rfl
@[simp] theorem State.later_tree (ns : Nat) : (s.later ns).tree = s.tree := rfl
@[simp] theorem State.later_eth (ns : Nat) : (s.later ns).eth = s.eth := rfl
@[simp] theorem State.later_app (ns : Nat) : (s.later ns).app = s.app := rfl
@[simp] theorem State.later_cpus (ns : Nat) : (s.later ns).cpus = s.cpus := rfl
@[simp] theorem State.later_mi (ns : Nat) : (s.later ns).mi = s.mi := rfl
@[simp] theorem State.later_pair (ns : Nat) : (s.later ns).pair = s.pair := rfl
@[simp] theorem State.later_upd (ns : Nat) : (s.later ns).upd = s.upd := rfl
@[simp] theorem State.later_pwr (ns : Nat) : (s.later ns).pwr = s.pwr := rfl
@[simp] theorem State.later_snaps (ns : Nat) : (s.later ns).snaps = s.snaps := rfl
@[simp] theorem State.later_now (ns : Nat) : (s.later ns).now = s.now + ns := rfl
@[simp] theorem State.later_draws (ns : Nat) : (s.later ns).draws = s.draws := rfl
@[simp] theorem State.later_out (ns : Nat) : (s.later ns).out = s.out := rfl
@[simp] theorem State.later_reply (ns : Nat) : (s.later ns).reply = s.reply := rfl
@[simp] theorem State.later_pending (ns : Nat) : (s.later ns).pending = s.pending := rfl
@[simp] theorem State.later_path (ns : Nat) (k : Nat) : (s.later ns).path k = s.path k := rfl
@[simp] theorem State.later_ce (ns : Nat) (k : Nat) : (s.later ns).ce k = s.ce k := rfl
@[simp] theorem State.later_te (ns : Nat) (k : Nat) : (s.later ns).te k = s.te k := rfl
@[simp] theorem State.later_ring (ns : Nat) (k : Nat) : (s.later ns).ring k = s.ring k := rfl
@[simp] theorem State.later_tso (ns : Nat) (k : Nat) : (s.later ns).tso k = s.tso k := rfl
@[simp] theorem State.later_gt (ns : Nat) (k : Nat) : (s.later ns).gt k = s.gt k := rfl
@[simp] theorem State.later_snapsOf (ns : Nat) (k : Requester) : (s.later ns).snapsOf k = s.snapsOf k := rfl
@[simp] theorem State.later_queue (ns : Nat) (k : Nat) : (s.later ns).queue k = s.queue k := rfl
@[simp] theorem State.later_hq (ns : Nat) (k : Nat) : (s.later ns).hq k = s.hq k := rfl
@[simp] theorem State.later_tbNs (ns : Nat) : (s.later ns).tbNs = s.tbNs := rfl
@[simp] theorem State.later_asnNat (ns : Nat) : (s.later ns).asnNat = s.asnNat := rfl
@[simp] theorem State.later_get (ns : Nat) (g : Fld) : (s.later ns).get g = s.get g := rfl
@[simp] theorem State.later_bit (ns : Nat) (g : Fld) : (s.later ns).bit g = s.bit g := rfl
@[simp] theorem State.later_getI (ns : Nat) (g : Fld) : (s.later ns).getI g = s.getI g := rfl
@[simp] theorem State.later_word (ns : Nat) (k : Nat) : (s.later ns).word k = s.word k := rfl

/-! ## `answer` -/

@[simp] theorem State.answer_part (q : Requester) (v : Nat) : (s.answer q v).part = s.part := rfl
@[simp] theorem State.answer_regs (q : Requester) (v : Nat) : (s.answer q v).regs = s.regs := rfl
@[simp] theorem State.answer_boot (q : Requester) (v : Nat) : (s.answer q v).boot = s.boot := rfl
@[simp] theorem State.answer_flash (q : Requester) (v : Nat) : (s.answer q v).flash = s.flash := rfl
@[simp] theorem State.answer_flashSize (q : Requester) (v : Nat) : (s.answer q v).flashSize = s.flashSize := rfl
@[simp] theorem State.answer_window (q : Requester) (v : Nat) : (s.answer q v).window = s.window := rfl
@[simp] theorem State.answer_otp (q : Requester) (v : Nat) : (s.answer q v).otp = s.otp := rfl
@[simp] theorem State.answer_ev (q : Requester) (v : Nat) : (s.answer q v).ev = s.ev := rfl
@[simp] theorem State.answer_pcie (q : Requester) (v : Nat) : (s.answer q v).pcie = s.pcie := rfl
@[simp] theorem State.answer_hqs (q : Requester) (v : Nat) : (s.answer q v).hqs = s.hqs := rfl
@[simp] theorem State.answer_paths (q : Requester) (v : Nat) : (s.answer q v).paths = s.paths := rfl
@[simp] theorem State.answer_jesd (q : Requester) (v : Nat) : (s.answer q v).jesd = s.jesd := rfl
@[simp] theorem State.answer_osc (q : Requester) (v : Nat) : (s.answer q v).osc = s.osc := rfl
@[simp] theorem State.answer_ces (q : Requester) (v : Nat) : (s.answer q v).ces = s.ces := rfl
@[simp] theorem State.answer_tes (q : Requester) (v : Nat) : (s.answer q v).tes = s.tes := rfl
@[simp] theorem State.answer_imap (q : Requester) (v : Nat) : (s.answer q v).imap = s.imap := rfl
@[simp] theorem State.answer_psm (q : Requester) (v : Nat) : (s.answer q v).psm = s.psm := rfl
@[simp] theorem State.answer_drift (q : Requester) (v : Nat) : (s.answer q v).drift = s.drift := rfl
@[simp] theorem State.answer_fwd (q : Requester) (v : Nat) : (s.answer q v).fwd = s.fwd := rfl
@[simp] theorem State.answer_sched (q : Requester) (v : Nat) : (s.answer q v).sched = s.sched := rfl
@[simp] theorem State.answer_queues (q : Requester) (v : Nat) : (s.answer q v).queues = s.queues := rfl
@[simp] theorem State.answer_tb (q : Requester) (v : Nat) : (s.answer q v).tb = s.tb := rfl
@[simp] theorem State.answer_sec (q : Requester) (v : Nat) : (s.answer q v).sec = s.sec := rfl
@[simp] theorem State.answer_tree (q : Requester) (v : Nat) : (s.answer q v).tree = s.tree := rfl
@[simp] theorem State.answer_eth (q : Requester) (v : Nat) : (s.answer q v).eth = s.eth := rfl
@[simp] theorem State.answer_app (q : Requester) (v : Nat) : (s.answer q v).app = s.app := rfl
@[simp] theorem State.answer_cpus (q : Requester) (v : Nat) : (s.answer q v).cpus = s.cpus := rfl
@[simp] theorem State.answer_mi (q : Requester) (v : Nat) : (s.answer q v).mi = s.mi := rfl
@[simp] theorem State.answer_pair (q : Requester) (v : Nat) : (s.answer q v).pair = s.pair := rfl
@[simp] theorem State.answer_upd (q : Requester) (v : Nat) : (s.answer q v).upd = s.upd := rfl
@[simp] theorem State.answer_pwr (q : Requester) (v : Nat) : (s.answer q v).pwr = s.pwr := rfl
@[simp] theorem State.answer_snaps (q : Requester) (v : Nat) : (s.answer q v).snaps = s.snaps := rfl
@[simp] theorem State.answer_now (q : Requester) (v : Nat) : (s.answer q v).now = s.now := rfl
@[simp] theorem State.answer_draws (q : Requester) (v : Nat) : (s.answer q v).draws = s.draws := rfl
@[simp] theorem State.answer_out (q : Requester) (v : Nat) : (s.answer q v).out = s.out := rfl
@[simp] theorem State.answer_reply (q : Requester) (v : Nat) : (s.answer q v).reply = assocSet s.reply q.bank v := rfl
@[simp] theorem State.answer_pending (q : Requester) (v : Nat) : (s.answer q v).pending = s.pending := rfl
@[simp] theorem State.answer_path (q : Requester) (v : Nat) (k : Nat) : (s.answer q v).path k = s.path k := rfl
@[simp] theorem State.answer_ce (q : Requester) (v : Nat) (k : Nat) : (s.answer q v).ce k = s.ce k := rfl
@[simp] theorem State.answer_te (q : Requester) (v : Nat) (k : Nat) : (s.answer q v).te k = s.te k := rfl
@[simp] theorem State.answer_ring (q : Requester) (v : Nat) (k : Nat) : (s.answer q v).ring k = s.ring k := rfl
@[simp] theorem State.answer_tso (q : Requester) (v : Nat) (k : Nat) : (s.answer q v).tso k = s.tso k := rfl
@[simp] theorem State.answer_gt (q : Requester) (v : Nat) (k : Nat) : (s.answer q v).gt k = s.gt k := rfl
@[simp] theorem State.answer_snapsOf (q : Requester) (v : Nat) (k : Requester) : (s.answer q v).snapsOf k = s.snapsOf k := rfl
@[simp] theorem State.answer_queue (q : Requester) (v : Nat) (k : Nat) : (s.answer q v).queue k = s.queue k := rfl
@[simp] theorem State.answer_hq (q : Requester) (v : Nat) (k : Nat) : (s.answer q v).hq k = s.hq k := rfl
@[simp] theorem State.answer_tbNs (q : Requester) (v : Nat) : (s.answer q v).tbNs = s.tbNs := rfl
@[simp] theorem State.answer_asnNat (q : Requester) (v : Nat) : (s.answer q v).asnNat = s.asnNat := rfl
@[simp] theorem State.answer_get (q : Requester) (v : Nat) (g : Fld) : (s.answer q v).get g = s.get g := rfl
@[simp] theorem State.answer_bit (q : Requester) (v : Nat) (g : Fld) : (s.answer q v).bit g = s.bit g := rfl
@[simp] theorem State.answer_getI (q : Requester) (v : Nat) (g : Fld) : (s.answer q v).getI g = s.getI g := rfl
@[simp] theorem State.answer_word (q : Requester) (v : Nat) (k : Nat) : (s.answer q v).word k = s.word k := rfl

/-! ## `set` -/

@[simp] theorem State.set_part (f : Fld) (v : Nat) : (s.set f v).part = s.part := rfl
@[simp] theorem State.set_boot (f : Fld) (v : Nat) : (s.set f v).boot = s.boot := rfl
@[simp] theorem State.set_flash (f : Fld) (v : Nat) : (s.set f v).flash = s.flash := rfl
@[simp] theorem State.set_flashSize (f : Fld) (v : Nat) : (s.set f v).flashSize = s.flashSize := rfl
@[simp] theorem State.set_window (f : Fld) (v : Nat) : (s.set f v).window = s.window := rfl
@[simp] theorem State.set_otp (f : Fld) (v : Nat) : (s.set f v).otp = s.otp := rfl
@[simp] theorem State.set_ev (f : Fld) (v : Nat) : (s.set f v).ev = s.ev := rfl
@[simp] theorem State.set_pcie (f : Fld) (v : Nat) : (s.set f v).pcie = s.pcie := rfl
@[simp] theorem State.set_hqs (f : Fld) (v : Nat) : (s.set f v).hqs = s.hqs := rfl
@[simp] theorem State.set_paths (f : Fld) (v : Nat) : (s.set f v).paths = s.paths := rfl
@[simp] theorem State.set_jesd (f : Fld) (v : Nat) : (s.set f v).jesd = s.jesd := rfl
@[simp] theorem State.set_osc (f : Fld) (v : Nat) : (s.set f v).osc = s.osc := rfl
@[simp] theorem State.set_ces (f : Fld) (v : Nat) : (s.set f v).ces = s.ces := rfl
@[simp] theorem State.set_tes (f : Fld) (v : Nat) : (s.set f v).tes = s.tes := rfl
@[simp] theorem State.set_imap (f : Fld) (v : Nat) : (s.set f v).imap = s.imap := rfl
@[simp] theorem State.set_psm (f : Fld) (v : Nat) : (s.set f v).psm = s.psm := rfl
@[simp] theorem State.set_drift (f : Fld) (v : Nat) : (s.set f v).drift = s.drift := rfl
@[simp] theorem State.set_fwd (f : Fld) (v : Nat) : (s.set f v).fwd = s.fwd := rfl
@[simp] theorem State.set_sched (f : Fld) (v : Nat) : (s.set f v).sched = s.sched := rfl
@[simp] theorem State.set_queues (f : Fld) (v : Nat) : (s.set f v).queues = s.queues := rfl
@[simp] theorem State.set_tb (f : Fld) (v : Nat) : (s.set f v).tb = s.tb := rfl
@[simp] theorem State.set_sec (f : Fld) (v : Nat) : (s.set f v).sec = s.sec := rfl
@[simp] theorem State.set_tree (f : Fld) (v : Nat) : (s.set f v).tree = s.tree := rfl
@[simp] theorem State.set_eth (f : Fld) (v : Nat) : (s.set f v).eth = s.eth := rfl
@[simp] theorem State.set_app (f : Fld) (v : Nat) : (s.set f v).app = s.app := rfl
@[simp] theorem State.set_cpus (f : Fld) (v : Nat) : (s.set f v).cpus = s.cpus := rfl
@[simp] theorem State.set_mi (f : Fld) (v : Nat) : (s.set f v).mi = s.mi := rfl
@[simp] theorem State.set_pair (f : Fld) (v : Nat) : (s.set f v).pair = s.pair := rfl
@[simp] theorem State.set_upd (f : Fld) (v : Nat) : (s.set f v).upd = s.upd := rfl
@[simp] theorem State.set_pwr (f : Fld) (v : Nat) : (s.set f v).pwr = s.pwr := rfl
@[simp] theorem State.set_snaps (f : Fld) (v : Nat) : (s.set f v).snaps = s.snaps := rfl
@[simp] theorem State.set_now (f : Fld) (v : Nat) : (s.set f v).now = s.now := rfl
@[simp] theorem State.set_draws (f : Fld) (v : Nat) : (s.set f v).draws = s.draws := rfl
@[simp] theorem State.set_out (f : Fld) (v : Nat) : (s.set f v).out = s.out := rfl
@[simp] theorem State.set_reply (f : Fld) (v : Nat) : (s.set f v).reply = s.reply := rfl
@[simp] theorem State.set_pending (f : Fld) (v : Nat) : (s.set f v).pending = s.pending := rfl
@[simp] theorem State.set_path (f : Fld) (v : Nat) (k : Nat) : (s.set f v).path k = s.path k := rfl
@[simp] theorem State.set_ce (f : Fld) (v : Nat) (k : Nat) : (s.set f v).ce k = s.ce k := rfl
@[simp] theorem State.set_te (f : Fld) (v : Nat) (k : Nat) : (s.set f v).te k = s.te k := rfl
@[simp] theorem State.set_ring (f : Fld) (v : Nat) (k : Nat) : (s.set f v).ring k = s.ring k := rfl
@[simp] theorem State.set_tso (f : Fld) (v : Nat) (k : Nat) : (s.set f v).tso k = s.tso k := rfl
@[simp] theorem State.set_gt (f : Fld) (v : Nat) (k : Nat) : (s.set f v).gt k = s.gt k := rfl
@[simp] theorem State.set_snapsOf (f : Fld) (v : Nat) (k : Requester) : (s.set f v).snapsOf k = s.snapsOf k := rfl
@[simp] theorem State.set_queue (f : Fld) (v : Nat) (k : Nat) : (s.set f v).queue k = s.queue k := rfl
@[simp] theorem State.set_hq (f : Fld) (v : Nat) (k : Nat) : (s.set f v).hq k = s.hq k := rfl
@[simp] theorem State.set_tbNs (f : Fld) (v : Nat) : (s.set f v).tbNs = s.tbNs := rfl
@[simp] theorem State.set_asnNat (f : Fld) (v : Nat) : (s.set f v).asnNat = s.asnNat := rfl

/-! ## `setBit` -/

@[simp] theorem State.setBit_part (f : Fld) (b : Bool) : (s.setBit f b).part = s.part := rfl
@[simp] theorem State.setBit_boot (f : Fld) (b : Bool) : (s.setBit f b).boot = s.boot := rfl
@[simp] theorem State.setBit_flash (f : Fld) (b : Bool) : (s.setBit f b).flash = s.flash := rfl
@[simp] theorem State.setBit_flashSize (f : Fld) (b : Bool) : (s.setBit f b).flashSize = s.flashSize := rfl
@[simp] theorem State.setBit_window (f : Fld) (b : Bool) : (s.setBit f b).window = s.window := rfl
@[simp] theorem State.setBit_otp (f : Fld) (b : Bool) : (s.setBit f b).otp = s.otp := rfl
@[simp] theorem State.setBit_ev (f : Fld) (b : Bool) : (s.setBit f b).ev = s.ev := rfl
@[simp] theorem State.setBit_pcie (f : Fld) (b : Bool) : (s.setBit f b).pcie = s.pcie := rfl
@[simp] theorem State.setBit_hqs (f : Fld) (b : Bool) : (s.setBit f b).hqs = s.hqs := rfl
@[simp] theorem State.setBit_paths (f : Fld) (b : Bool) : (s.setBit f b).paths = s.paths := rfl
@[simp] theorem State.setBit_jesd (f : Fld) (b : Bool) : (s.setBit f b).jesd = s.jesd := rfl
@[simp] theorem State.setBit_osc (f : Fld) (b : Bool) : (s.setBit f b).osc = s.osc := rfl
@[simp] theorem State.setBit_ces (f : Fld) (b : Bool) : (s.setBit f b).ces = s.ces := rfl
@[simp] theorem State.setBit_tes (f : Fld) (b : Bool) : (s.setBit f b).tes = s.tes := rfl
@[simp] theorem State.setBit_imap (f : Fld) (b : Bool) : (s.setBit f b).imap = s.imap := rfl
@[simp] theorem State.setBit_psm (f : Fld) (b : Bool) : (s.setBit f b).psm = s.psm := rfl
@[simp] theorem State.setBit_drift (f : Fld) (b : Bool) : (s.setBit f b).drift = s.drift := rfl
@[simp] theorem State.setBit_fwd (f : Fld) (b : Bool) : (s.setBit f b).fwd = s.fwd := rfl
@[simp] theorem State.setBit_sched (f : Fld) (b : Bool) : (s.setBit f b).sched = s.sched := rfl
@[simp] theorem State.setBit_queues (f : Fld) (b : Bool) : (s.setBit f b).queues = s.queues := rfl
@[simp] theorem State.setBit_tb (f : Fld) (b : Bool) : (s.setBit f b).tb = s.tb := rfl
@[simp] theorem State.setBit_sec (f : Fld) (b : Bool) : (s.setBit f b).sec = s.sec := rfl
@[simp] theorem State.setBit_tree (f : Fld) (b : Bool) : (s.setBit f b).tree = s.tree := rfl
@[simp] theorem State.setBit_eth (f : Fld) (b : Bool) : (s.setBit f b).eth = s.eth := rfl
@[simp] theorem State.setBit_app (f : Fld) (b : Bool) : (s.setBit f b).app = s.app := rfl
@[simp] theorem State.setBit_cpus (f : Fld) (b : Bool) : (s.setBit f b).cpus = s.cpus := rfl
@[simp] theorem State.setBit_mi (f : Fld) (b : Bool) : (s.setBit f b).mi = s.mi := rfl
@[simp] theorem State.setBit_pair (f : Fld) (b : Bool) : (s.setBit f b).pair = s.pair := rfl
@[simp] theorem State.setBit_upd (f : Fld) (b : Bool) : (s.setBit f b).upd = s.upd := rfl
@[simp] theorem State.setBit_pwr (f : Fld) (b : Bool) : (s.setBit f b).pwr = s.pwr := rfl
@[simp] theorem State.setBit_snaps (f : Fld) (b : Bool) : (s.setBit f b).snaps = s.snaps := rfl
@[simp] theorem State.setBit_now (f : Fld) (b : Bool) : (s.setBit f b).now = s.now := rfl
@[simp] theorem State.setBit_draws (f : Fld) (b : Bool) : (s.setBit f b).draws = s.draws := rfl
@[simp] theorem State.setBit_out (f : Fld) (b : Bool) : (s.setBit f b).out = s.out := rfl
@[simp] theorem State.setBit_reply (f : Fld) (b : Bool) : (s.setBit f b).reply = s.reply := rfl
@[simp] theorem State.setBit_pending (f : Fld) (b : Bool) : (s.setBit f b).pending = s.pending := rfl
@[simp] theorem State.setBit_path (f : Fld) (b : Bool) (k : Nat) : (s.setBit f b).path k = s.path k := rfl
@[simp] theorem State.setBit_ce (f : Fld) (b : Bool) (k : Nat) : (s.setBit f b).ce k = s.ce k := rfl
@[simp] theorem State.setBit_te (f : Fld) (b : Bool) (k : Nat) : (s.setBit f b).te k = s.te k := rfl
@[simp] theorem State.setBit_ring (f : Fld) (b : Bool) (k : Nat) : (s.setBit f b).ring k = s.ring k := rfl
@[simp] theorem State.setBit_tso (f : Fld) (b : Bool) (k : Nat) : (s.setBit f b).tso k = s.tso k := rfl
@[simp] theorem State.setBit_gt (f : Fld) (b : Bool) (k : Nat) : (s.setBit f b).gt k = s.gt k := rfl
@[simp] theorem State.setBit_snapsOf (f : Fld) (b : Bool) (k : Requester) : (s.setBit f b).snapsOf k = s.snapsOf k := rfl
@[simp] theorem State.setBit_queue (f : Fld) (b : Bool) (k : Nat) : (s.setBit f b).queue k = s.queue k := rfl
@[simp] theorem State.setBit_hq (f : Fld) (b : Bool) (k : Nat) : (s.setBit f b).hq k = s.hq k := rfl
@[simp] theorem State.setBit_tbNs (f : Fld) (b : Bool) : (s.setBit f b).tbNs = s.tbNs := rfl
@[simp] theorem State.setBit_asnNat (f : Fld) (b : Bool) : (s.setBit f b).asnNat = s.asnNat := rfl

/-! ## `setI` -/

@[simp] theorem State.setI_part (f : Fld) (x : Int) : (s.setI f x).part = s.part := rfl
@[simp] theorem State.setI_boot (f : Fld) (x : Int) : (s.setI f x).boot = s.boot := rfl
@[simp] theorem State.setI_flash (f : Fld) (x : Int) : (s.setI f x).flash = s.flash := rfl
@[simp] theorem State.setI_flashSize (f : Fld) (x : Int) : (s.setI f x).flashSize = s.flashSize := rfl
@[simp] theorem State.setI_window (f : Fld) (x : Int) : (s.setI f x).window = s.window := rfl
@[simp] theorem State.setI_otp (f : Fld) (x : Int) : (s.setI f x).otp = s.otp := rfl
@[simp] theorem State.setI_ev (f : Fld) (x : Int) : (s.setI f x).ev = s.ev := rfl
@[simp] theorem State.setI_pcie (f : Fld) (x : Int) : (s.setI f x).pcie = s.pcie := rfl
@[simp] theorem State.setI_hqs (f : Fld) (x : Int) : (s.setI f x).hqs = s.hqs := rfl
@[simp] theorem State.setI_paths (f : Fld) (x : Int) : (s.setI f x).paths = s.paths := rfl
@[simp] theorem State.setI_jesd (f : Fld) (x : Int) : (s.setI f x).jesd = s.jesd := rfl
@[simp] theorem State.setI_osc (f : Fld) (x : Int) : (s.setI f x).osc = s.osc := rfl
@[simp] theorem State.setI_ces (f : Fld) (x : Int) : (s.setI f x).ces = s.ces := rfl
@[simp] theorem State.setI_tes (f : Fld) (x : Int) : (s.setI f x).tes = s.tes := rfl
@[simp] theorem State.setI_imap (f : Fld) (x : Int) : (s.setI f x).imap = s.imap := rfl
@[simp] theorem State.setI_psm (f : Fld) (x : Int) : (s.setI f x).psm = s.psm := rfl
@[simp] theorem State.setI_drift (f : Fld) (x : Int) : (s.setI f x).drift = s.drift := rfl
@[simp] theorem State.setI_fwd (f : Fld) (x : Int) : (s.setI f x).fwd = s.fwd := rfl
@[simp] theorem State.setI_sched (f : Fld) (x : Int) : (s.setI f x).sched = s.sched := rfl
@[simp] theorem State.setI_queues (f : Fld) (x : Int) : (s.setI f x).queues = s.queues := rfl
@[simp] theorem State.setI_tb (f : Fld) (x : Int) : (s.setI f x).tb = s.tb := rfl
@[simp] theorem State.setI_sec (f : Fld) (x : Int) : (s.setI f x).sec = s.sec := rfl
@[simp] theorem State.setI_tree (f : Fld) (x : Int) : (s.setI f x).tree = s.tree := rfl
@[simp] theorem State.setI_eth (f : Fld) (x : Int) : (s.setI f x).eth = s.eth := rfl
@[simp] theorem State.setI_app (f : Fld) (x : Int) : (s.setI f x).app = s.app := rfl
@[simp] theorem State.setI_cpus (f : Fld) (x : Int) : (s.setI f x).cpus = s.cpus := rfl
@[simp] theorem State.setI_mi (f : Fld) (x : Int) : (s.setI f x).mi = s.mi := rfl
@[simp] theorem State.setI_pair (f : Fld) (x : Int) : (s.setI f x).pair = s.pair := rfl
@[simp] theorem State.setI_upd (f : Fld) (x : Int) : (s.setI f x).upd = s.upd := rfl
@[simp] theorem State.setI_pwr (f : Fld) (x : Int) : (s.setI f x).pwr = s.pwr := rfl
@[simp] theorem State.setI_snaps (f : Fld) (x : Int) : (s.setI f x).snaps = s.snaps := rfl
@[simp] theorem State.setI_now (f : Fld) (x : Int) : (s.setI f x).now = s.now := rfl
@[simp] theorem State.setI_draws (f : Fld) (x : Int) : (s.setI f x).draws = s.draws := rfl
@[simp] theorem State.setI_out (f : Fld) (x : Int) : (s.setI f x).out = s.out := rfl
@[simp] theorem State.setI_reply (f : Fld) (x : Int) : (s.setI f x).reply = s.reply := rfl
@[simp] theorem State.setI_pending (f : Fld) (x : Int) : (s.setI f x).pending = s.pending := rfl
@[simp] theorem State.setI_path (f : Fld) (x : Int) (k : Nat) : (s.setI f x).path k = s.path k := rfl
@[simp] theorem State.setI_ce (f : Fld) (x : Int) (k : Nat) : (s.setI f x).ce k = s.ce k := rfl
@[simp] theorem State.setI_te (f : Fld) (x : Int) (k : Nat) : (s.setI f x).te k = s.te k := rfl
@[simp] theorem State.setI_ring (f : Fld) (x : Int) (k : Nat) : (s.setI f x).ring k = s.ring k := rfl
@[simp] theorem State.setI_tso (f : Fld) (x : Int) (k : Nat) : (s.setI f x).tso k = s.tso k := rfl
@[simp] theorem State.setI_gt (f : Fld) (x : Int) (k : Nat) : (s.setI f x).gt k = s.gt k := rfl
@[simp] theorem State.setI_snapsOf (f : Fld) (x : Int) (k : Requester) : (s.setI f x).snapsOf k = s.snapsOf k := rfl
@[simp] theorem State.setI_queue (f : Fld) (x : Int) (k : Nat) : (s.setI f x).queue k = s.queue k := rfl
@[simp] theorem State.setI_hq (f : Fld) (x : Int) (k : Nat) : (s.setI f x).hq k = s.hq k := rfl
@[simp] theorem State.setI_tbNs (f : Fld) (x : Int) : (s.setI f x).tbNs = s.tbNs := rfl
@[simp] theorem State.setI_asnNat (f : Fld) (x : Int) : (s.setI f x).asnNat = s.asnNat := rfl

/-! ## `setWord` -/

@[simp] theorem State.setWord_part (key : Nat) (w : Word) : (s.setWord key w).part = s.part := rfl
@[simp] theorem State.setWord_boot (key : Nat) (w : Word) : (s.setWord key w).boot = s.boot := rfl
@[simp] theorem State.setWord_flash (key : Nat) (w : Word) : (s.setWord key w).flash = s.flash := rfl
@[simp] theorem State.setWord_flashSize (key : Nat) (w : Word) : (s.setWord key w).flashSize = s.flashSize := rfl
@[simp] theorem State.setWord_window (key : Nat) (w : Word) : (s.setWord key w).window = s.window := rfl
@[simp] theorem State.setWord_otp (key : Nat) (w : Word) : (s.setWord key w).otp = s.otp := rfl
@[simp] theorem State.setWord_ev (key : Nat) (w : Word) : (s.setWord key w).ev = s.ev := rfl
@[simp] theorem State.setWord_pcie (key : Nat) (w : Word) : (s.setWord key w).pcie = s.pcie := rfl
@[simp] theorem State.setWord_hqs (key : Nat) (w : Word) : (s.setWord key w).hqs = s.hqs := rfl
@[simp] theorem State.setWord_paths (key : Nat) (w : Word) : (s.setWord key w).paths = s.paths := rfl
@[simp] theorem State.setWord_jesd (key : Nat) (w : Word) : (s.setWord key w).jesd = s.jesd := rfl
@[simp] theorem State.setWord_osc (key : Nat) (w : Word) : (s.setWord key w).osc = s.osc := rfl
@[simp] theorem State.setWord_ces (key : Nat) (w : Word) : (s.setWord key w).ces = s.ces := rfl
@[simp] theorem State.setWord_tes (key : Nat) (w : Word) : (s.setWord key w).tes = s.tes := rfl
@[simp] theorem State.setWord_imap (key : Nat) (w : Word) : (s.setWord key w).imap = s.imap := rfl
@[simp] theorem State.setWord_psm (key : Nat) (w : Word) : (s.setWord key w).psm = s.psm := rfl
@[simp] theorem State.setWord_drift (key : Nat) (w : Word) : (s.setWord key w).drift = s.drift := rfl
@[simp] theorem State.setWord_fwd (key : Nat) (w : Word) : (s.setWord key w).fwd = s.fwd := rfl
@[simp] theorem State.setWord_sched (key : Nat) (w : Word) : (s.setWord key w).sched = s.sched := rfl
@[simp] theorem State.setWord_queues (key : Nat) (w : Word) : (s.setWord key w).queues = s.queues := rfl
@[simp] theorem State.setWord_tb (key : Nat) (w : Word) : (s.setWord key w).tb = s.tb := rfl
@[simp] theorem State.setWord_sec (key : Nat) (w : Word) : (s.setWord key w).sec = s.sec := rfl
@[simp] theorem State.setWord_tree (key : Nat) (w : Word) : (s.setWord key w).tree = s.tree := rfl
@[simp] theorem State.setWord_eth (key : Nat) (w : Word) : (s.setWord key w).eth = s.eth := rfl
@[simp] theorem State.setWord_app (key : Nat) (w : Word) : (s.setWord key w).app = s.app := rfl
@[simp] theorem State.setWord_cpus (key : Nat) (w : Word) : (s.setWord key w).cpus = s.cpus := rfl
@[simp] theorem State.setWord_mi (key : Nat) (w : Word) : (s.setWord key w).mi = s.mi := rfl
@[simp] theorem State.setWord_pair (key : Nat) (w : Word) : (s.setWord key w).pair = s.pair := rfl
@[simp] theorem State.setWord_upd (key : Nat) (w : Word) : (s.setWord key w).upd = s.upd := rfl
@[simp] theorem State.setWord_pwr (key : Nat) (w : Word) : (s.setWord key w).pwr = s.pwr := rfl
@[simp] theorem State.setWord_snaps (key : Nat) (w : Word) : (s.setWord key w).snaps = s.snaps := rfl
@[simp] theorem State.setWord_now (key : Nat) (w : Word) : (s.setWord key w).now = s.now := rfl
@[simp] theorem State.setWord_draws (key : Nat) (w : Word) : (s.setWord key w).draws = s.draws := rfl
@[simp] theorem State.setWord_out (key : Nat) (w : Word) : (s.setWord key w).out = s.out := rfl
@[simp] theorem State.setWord_reply (key : Nat) (w : Word) : (s.setWord key w).reply = s.reply := rfl
@[simp] theorem State.setWord_pending (key : Nat) (w : Word) : (s.setWord key w).pending = s.pending := rfl
@[simp] theorem State.setWord_path (key : Nat) (w : Word) (k : Nat) : (s.setWord key w).path k = s.path k := rfl
@[simp] theorem State.setWord_ce (key : Nat) (w : Word) (k : Nat) : (s.setWord key w).ce k = s.ce k := rfl
@[simp] theorem State.setWord_te (key : Nat) (w : Word) (k : Nat) : (s.setWord key w).te k = s.te k := rfl
@[simp] theorem State.setWord_ring (key : Nat) (w : Word) (k : Nat) : (s.setWord key w).ring k = s.ring k := rfl
@[simp] theorem State.setWord_tso (key : Nat) (w : Word) (k : Nat) : (s.setWord key w).tso k = s.tso k := rfl
@[simp] theorem State.setWord_gt (key : Nat) (w : Word) (k : Nat) : (s.setWord key w).gt k = s.gt k := rfl
@[simp] theorem State.setWord_snapsOf (key : Nat) (w : Word) (k : Requester) : (s.setWord key w).snapsOf k = s.snapsOf k := rfl
@[simp] theorem State.setWord_queue (key : Nat) (w : Word) (k : Nat) : (s.setWord key w).queue k = s.queue k := rfl
@[simp] theorem State.setWord_hq (key : Nat) (w : Word) (k : Nat) : (s.setWord key w).hq k = s.hq k := rfl
@[simp] theorem State.setWord_tbNs (key : Nat) (w : Word) : (s.setWord key w).tbNs = s.tbNs := rfl
@[simp] theorem State.setWord_asnNat (key : Nat) (w : Word) : (s.setWord key w).asnNat = s.asnNat := rfl

/-! ## `bump` -/

@[simp] theorem State.bump_part (f : Fld) : (s.bump f).part = s.part := rfl
@[simp] theorem State.bump_boot (f : Fld) : (s.bump f).boot = s.boot := rfl
@[simp] theorem State.bump_flash (f : Fld) : (s.bump f).flash = s.flash := rfl
@[simp] theorem State.bump_flashSize (f : Fld) : (s.bump f).flashSize = s.flashSize := rfl
@[simp] theorem State.bump_window (f : Fld) : (s.bump f).window = s.window := rfl
@[simp] theorem State.bump_otp (f : Fld) : (s.bump f).otp = s.otp := rfl
@[simp] theorem State.bump_ev (f : Fld) : (s.bump f).ev = s.ev := rfl
@[simp] theorem State.bump_pcie (f : Fld) : (s.bump f).pcie = s.pcie := rfl
@[simp] theorem State.bump_hqs (f : Fld) : (s.bump f).hqs = s.hqs := rfl
@[simp] theorem State.bump_paths (f : Fld) : (s.bump f).paths = s.paths := rfl
@[simp] theorem State.bump_jesd (f : Fld) : (s.bump f).jesd = s.jesd := rfl
@[simp] theorem State.bump_osc (f : Fld) : (s.bump f).osc = s.osc := rfl
@[simp] theorem State.bump_ces (f : Fld) : (s.bump f).ces = s.ces := rfl
@[simp] theorem State.bump_tes (f : Fld) : (s.bump f).tes = s.tes := rfl
@[simp] theorem State.bump_imap (f : Fld) : (s.bump f).imap = s.imap := rfl
@[simp] theorem State.bump_psm (f : Fld) : (s.bump f).psm = s.psm := rfl
@[simp] theorem State.bump_drift (f : Fld) : (s.bump f).drift = s.drift := rfl
@[simp] theorem State.bump_fwd (f : Fld) : (s.bump f).fwd = s.fwd := rfl
@[simp] theorem State.bump_sched (f : Fld) : (s.bump f).sched = s.sched := rfl
@[simp] theorem State.bump_queues (f : Fld) : (s.bump f).queues = s.queues := rfl
@[simp] theorem State.bump_tb (f : Fld) : (s.bump f).tb = s.tb := rfl
@[simp] theorem State.bump_sec (f : Fld) : (s.bump f).sec = s.sec := rfl
@[simp] theorem State.bump_tree (f : Fld) : (s.bump f).tree = s.tree := rfl
@[simp] theorem State.bump_eth (f : Fld) : (s.bump f).eth = s.eth := rfl
@[simp] theorem State.bump_app (f : Fld) : (s.bump f).app = s.app := rfl
@[simp] theorem State.bump_cpus (f : Fld) : (s.bump f).cpus = s.cpus := rfl
@[simp] theorem State.bump_mi (f : Fld) : (s.bump f).mi = s.mi := rfl
@[simp] theorem State.bump_pair (f : Fld) : (s.bump f).pair = s.pair := rfl
@[simp] theorem State.bump_upd (f : Fld) : (s.bump f).upd = s.upd := rfl
@[simp] theorem State.bump_pwr (f : Fld) : (s.bump f).pwr = s.pwr := rfl
@[simp] theorem State.bump_snaps (f : Fld) : (s.bump f).snaps = s.snaps := rfl
@[simp] theorem State.bump_now (f : Fld) : (s.bump f).now = s.now := rfl
@[simp] theorem State.bump_draws (f : Fld) : (s.bump f).draws = s.draws := rfl
@[simp] theorem State.bump_out (f : Fld) : (s.bump f).out = s.out := rfl
@[simp] theorem State.bump_reply (f : Fld) : (s.bump f).reply = s.reply := rfl
@[simp] theorem State.bump_pending (f : Fld) : (s.bump f).pending = s.pending := rfl
@[simp] theorem State.bump_path (f : Fld) (k : Nat) : (s.bump f).path k = s.path k := rfl
@[simp] theorem State.bump_ce (f : Fld) (k : Nat) : (s.bump f).ce k = s.ce k := rfl
@[simp] theorem State.bump_te (f : Fld) (k : Nat) : (s.bump f).te k = s.te k := rfl
@[simp] theorem State.bump_ring (f : Fld) (k : Nat) : (s.bump f).ring k = s.ring k := rfl
@[simp] theorem State.bump_tso (f : Fld) (k : Nat) : (s.bump f).tso k = s.tso k := rfl
@[simp] theorem State.bump_gt (f : Fld) (k : Nat) : (s.bump f).gt k = s.gt k := rfl
@[simp] theorem State.bump_snapsOf (f : Fld) (k : Requester) : (s.bump f).snapsOf k = s.snapsOf k := rfl
@[simp] theorem State.bump_queue (f : Fld) (k : Nat) : (s.bump f).queue k = s.queue k := rfl
@[simp] theorem State.bump_hq (f : Fld) (k : Nat) : (s.bump f).hq k = s.hq k := rfl
@[simp] theorem State.bump_tbNs (f : Fld) : (s.bump f).tbNs = s.tbNs := rfl
@[simp] theorem State.bump_asnNat (f : Fld) : (s.bump f).asnNat = s.asnNat := rfl

/-! ## `bumpBy` -/

@[simp] theorem State.bumpBy_part (f : Fld) (n : Nat) : (s.bumpBy f n).part = s.part := rfl
@[simp] theorem State.bumpBy_boot (f : Fld) (n : Nat) : (s.bumpBy f n).boot = s.boot := rfl
@[simp] theorem State.bumpBy_flash (f : Fld) (n : Nat) : (s.bumpBy f n).flash = s.flash := rfl
@[simp] theorem State.bumpBy_flashSize (f : Fld) (n : Nat) : (s.bumpBy f n).flashSize = s.flashSize := rfl
@[simp] theorem State.bumpBy_window (f : Fld) (n : Nat) : (s.bumpBy f n).window = s.window := rfl
@[simp] theorem State.bumpBy_otp (f : Fld) (n : Nat) : (s.bumpBy f n).otp = s.otp := rfl
@[simp] theorem State.bumpBy_ev (f : Fld) (n : Nat) : (s.bumpBy f n).ev = s.ev := rfl
@[simp] theorem State.bumpBy_pcie (f : Fld) (n : Nat) : (s.bumpBy f n).pcie = s.pcie := rfl
@[simp] theorem State.bumpBy_hqs (f : Fld) (n : Nat) : (s.bumpBy f n).hqs = s.hqs := rfl
@[simp] theorem State.bumpBy_paths (f : Fld) (n : Nat) : (s.bumpBy f n).paths = s.paths := rfl
@[simp] theorem State.bumpBy_jesd (f : Fld) (n : Nat) : (s.bumpBy f n).jesd = s.jesd := rfl
@[simp] theorem State.bumpBy_osc (f : Fld) (n : Nat) : (s.bumpBy f n).osc = s.osc := rfl
@[simp] theorem State.bumpBy_ces (f : Fld) (n : Nat) : (s.bumpBy f n).ces = s.ces := rfl
@[simp] theorem State.bumpBy_tes (f : Fld) (n : Nat) : (s.bumpBy f n).tes = s.tes := rfl
@[simp] theorem State.bumpBy_imap (f : Fld) (n : Nat) : (s.bumpBy f n).imap = s.imap := rfl
@[simp] theorem State.bumpBy_psm (f : Fld) (n : Nat) : (s.bumpBy f n).psm = s.psm := rfl
@[simp] theorem State.bumpBy_drift (f : Fld) (n : Nat) : (s.bumpBy f n).drift = s.drift := rfl
@[simp] theorem State.bumpBy_fwd (f : Fld) (n : Nat) : (s.bumpBy f n).fwd = s.fwd := rfl
@[simp] theorem State.bumpBy_sched (f : Fld) (n : Nat) : (s.bumpBy f n).sched = s.sched := rfl
@[simp] theorem State.bumpBy_queues (f : Fld) (n : Nat) : (s.bumpBy f n).queues = s.queues := rfl
@[simp] theorem State.bumpBy_tb (f : Fld) (n : Nat) : (s.bumpBy f n).tb = s.tb := rfl
@[simp] theorem State.bumpBy_sec (f : Fld) (n : Nat) : (s.bumpBy f n).sec = s.sec := rfl
@[simp] theorem State.bumpBy_tree (f : Fld) (n : Nat) : (s.bumpBy f n).tree = s.tree := rfl
@[simp] theorem State.bumpBy_eth (f : Fld) (n : Nat) : (s.bumpBy f n).eth = s.eth := rfl
@[simp] theorem State.bumpBy_app (f : Fld) (n : Nat) : (s.bumpBy f n).app = s.app := rfl
@[simp] theorem State.bumpBy_cpus (f : Fld) (n : Nat) : (s.bumpBy f n).cpus = s.cpus := rfl
@[simp] theorem State.bumpBy_mi (f : Fld) (n : Nat) : (s.bumpBy f n).mi = s.mi := rfl
@[simp] theorem State.bumpBy_pair (f : Fld) (n : Nat) : (s.bumpBy f n).pair = s.pair := rfl
@[simp] theorem State.bumpBy_upd (f : Fld) (n : Nat) : (s.bumpBy f n).upd = s.upd := rfl
@[simp] theorem State.bumpBy_pwr (f : Fld) (n : Nat) : (s.bumpBy f n).pwr = s.pwr := rfl
@[simp] theorem State.bumpBy_snaps (f : Fld) (n : Nat) : (s.bumpBy f n).snaps = s.snaps := rfl
@[simp] theorem State.bumpBy_now (f : Fld) (n : Nat) : (s.bumpBy f n).now = s.now := rfl
@[simp] theorem State.bumpBy_draws (f : Fld) (n : Nat) : (s.bumpBy f n).draws = s.draws := rfl
@[simp] theorem State.bumpBy_out (f : Fld) (n : Nat) : (s.bumpBy f n).out = s.out := rfl
@[simp] theorem State.bumpBy_reply (f : Fld) (n : Nat) : (s.bumpBy f n).reply = s.reply := rfl
@[simp] theorem State.bumpBy_pending (f : Fld) (n : Nat) : (s.bumpBy f n).pending = s.pending := rfl
@[simp] theorem State.bumpBy_path (f : Fld) (n : Nat) (k : Nat) : (s.bumpBy f n).path k = s.path k := rfl
@[simp] theorem State.bumpBy_ce (f : Fld) (n : Nat) (k : Nat) : (s.bumpBy f n).ce k = s.ce k := rfl
@[simp] theorem State.bumpBy_te (f : Fld) (n : Nat) (k : Nat) : (s.bumpBy f n).te k = s.te k := rfl
@[simp] theorem State.bumpBy_ring (f : Fld) (n : Nat) (k : Nat) : (s.bumpBy f n).ring k = s.ring k := rfl
@[simp] theorem State.bumpBy_tso (f : Fld) (n : Nat) (k : Nat) : (s.bumpBy f n).tso k = s.tso k := rfl
@[simp] theorem State.bumpBy_gt (f : Fld) (n : Nat) (k : Nat) : (s.bumpBy f n).gt k = s.gt k := rfl
@[simp] theorem State.bumpBy_snapsOf (f : Fld) (n : Nat) (k : Requester) : (s.bumpBy f n).snapsOf k = s.snapsOf k := rfl
@[simp] theorem State.bumpBy_queue (f : Fld) (n : Nat) (k : Nat) : (s.bumpBy f n).queue k = s.queue k := rfl
@[simp] theorem State.bumpBy_hq (f : Fld) (n : Nat) (k : Nat) : (s.bumpBy f n).hq k = s.hq k := rfl
@[simp] theorem State.bumpBy_tbNs (f : Fld) (n : Nat) : (s.bumpBy f n).tbNs = s.tbNs := rfl
@[simp] theorem State.bumpBy_asnNat (f : Fld) (n : Nat) : (s.bumpBy f n).asnNat = s.asnNat := rfl

/-! ## `bumpWrap` -/

@[simp] theorem State.bumpWrap_part (f : Fld) : (s.bumpWrap f).part = s.part := rfl
@[simp] theorem State.bumpWrap_boot (f : Fld) : (s.bumpWrap f).boot = s.boot := rfl
@[simp] theorem State.bumpWrap_flash (f : Fld) : (s.bumpWrap f).flash = s.flash := rfl
@[simp] theorem State.bumpWrap_flashSize (f : Fld) : (s.bumpWrap f).flashSize = s.flashSize := rfl
@[simp] theorem State.bumpWrap_window (f : Fld) : (s.bumpWrap f).window = s.window := rfl
@[simp] theorem State.bumpWrap_otp (f : Fld) : (s.bumpWrap f).otp = s.otp := rfl
@[simp] theorem State.bumpWrap_ev (f : Fld) : (s.bumpWrap f).ev = s.ev := rfl
@[simp] theorem State.bumpWrap_pcie (f : Fld) : (s.bumpWrap f).pcie = s.pcie := rfl
@[simp] theorem State.bumpWrap_hqs (f : Fld) : (s.bumpWrap f).hqs = s.hqs := rfl
@[simp] theorem State.bumpWrap_paths (f : Fld) : (s.bumpWrap f).paths = s.paths := rfl
@[simp] theorem State.bumpWrap_jesd (f : Fld) : (s.bumpWrap f).jesd = s.jesd := rfl
@[simp] theorem State.bumpWrap_osc (f : Fld) : (s.bumpWrap f).osc = s.osc := rfl
@[simp] theorem State.bumpWrap_ces (f : Fld) : (s.bumpWrap f).ces = s.ces := rfl
@[simp] theorem State.bumpWrap_tes (f : Fld) : (s.bumpWrap f).tes = s.tes := rfl
@[simp] theorem State.bumpWrap_imap (f : Fld) : (s.bumpWrap f).imap = s.imap := rfl
@[simp] theorem State.bumpWrap_psm (f : Fld) : (s.bumpWrap f).psm = s.psm := rfl
@[simp] theorem State.bumpWrap_drift (f : Fld) : (s.bumpWrap f).drift = s.drift := rfl
@[simp] theorem State.bumpWrap_fwd (f : Fld) : (s.bumpWrap f).fwd = s.fwd := rfl
@[simp] theorem State.bumpWrap_sched (f : Fld) : (s.bumpWrap f).sched = s.sched := rfl
@[simp] theorem State.bumpWrap_queues (f : Fld) : (s.bumpWrap f).queues = s.queues := rfl
@[simp] theorem State.bumpWrap_tb (f : Fld) : (s.bumpWrap f).tb = s.tb := rfl
@[simp] theorem State.bumpWrap_sec (f : Fld) : (s.bumpWrap f).sec = s.sec := rfl
@[simp] theorem State.bumpWrap_tree (f : Fld) : (s.bumpWrap f).tree = s.tree := rfl
@[simp] theorem State.bumpWrap_eth (f : Fld) : (s.bumpWrap f).eth = s.eth := rfl
@[simp] theorem State.bumpWrap_app (f : Fld) : (s.bumpWrap f).app = s.app := rfl
@[simp] theorem State.bumpWrap_cpus (f : Fld) : (s.bumpWrap f).cpus = s.cpus := rfl
@[simp] theorem State.bumpWrap_mi (f : Fld) : (s.bumpWrap f).mi = s.mi := rfl
@[simp] theorem State.bumpWrap_pair (f : Fld) : (s.bumpWrap f).pair = s.pair := rfl
@[simp] theorem State.bumpWrap_upd (f : Fld) : (s.bumpWrap f).upd = s.upd := rfl
@[simp] theorem State.bumpWrap_pwr (f : Fld) : (s.bumpWrap f).pwr = s.pwr := rfl
@[simp] theorem State.bumpWrap_snaps (f : Fld) : (s.bumpWrap f).snaps = s.snaps := rfl
@[simp] theorem State.bumpWrap_now (f : Fld) : (s.bumpWrap f).now = s.now := rfl
@[simp] theorem State.bumpWrap_draws (f : Fld) : (s.bumpWrap f).draws = s.draws := rfl
@[simp] theorem State.bumpWrap_out (f : Fld) : (s.bumpWrap f).out = s.out := rfl
@[simp] theorem State.bumpWrap_reply (f : Fld) : (s.bumpWrap f).reply = s.reply := rfl
@[simp] theorem State.bumpWrap_pending (f : Fld) : (s.bumpWrap f).pending = s.pending := rfl
@[simp] theorem State.bumpWrap_path (f : Fld) (k : Nat) : (s.bumpWrap f).path k = s.path k := rfl
@[simp] theorem State.bumpWrap_ce (f : Fld) (k : Nat) : (s.bumpWrap f).ce k = s.ce k := rfl
@[simp] theorem State.bumpWrap_te (f : Fld) (k : Nat) : (s.bumpWrap f).te k = s.te k := rfl
@[simp] theorem State.bumpWrap_ring (f : Fld) (k : Nat) : (s.bumpWrap f).ring k = s.ring k := rfl
@[simp] theorem State.bumpWrap_tso (f : Fld) (k : Nat) : (s.bumpWrap f).tso k = s.tso k := rfl
@[simp] theorem State.bumpWrap_gt (f : Fld) (k : Nat) : (s.bumpWrap f).gt k = s.gt k := rfl
@[simp] theorem State.bumpWrap_snapsOf (f : Fld) (k : Requester) : (s.bumpWrap f).snapsOf k = s.snapsOf k := rfl
@[simp] theorem State.bumpWrap_queue (f : Fld) (k : Nat) : (s.bumpWrap f).queue k = s.queue k := rfl
@[simp] theorem State.bumpWrap_hq (f : Fld) (k : Nat) : (s.bumpWrap f).hq k = s.hq k := rfl
@[simp] theorem State.bumpWrap_tbNs (f : Fld) : (s.bumpWrap f).tbNs = s.tbNs := rfl
@[simp] theorem State.bumpWrap_asnNat (f : Fld) : (s.bumpWrap f).asnNat = s.asnNat := rfl

/-! ## `setBitAt` -/

@[simp] theorem State.setBitAt_part (f : Fld) (i : Nat) (b : Bool) : (s.setBitAt f i b).part = s.part := rfl
@[simp] theorem State.setBitAt_boot (f : Fld) (i : Nat) (b : Bool) : (s.setBitAt f i b).boot = s.boot := rfl
@[simp] theorem State.setBitAt_flash (f : Fld) (i : Nat) (b : Bool) : (s.setBitAt f i b).flash = s.flash := rfl
@[simp] theorem State.setBitAt_flashSize (f : Fld) (i : Nat) (b : Bool) : (s.setBitAt f i b).flashSize = s.flashSize := rfl
@[simp] theorem State.setBitAt_window (f : Fld) (i : Nat) (b : Bool) : (s.setBitAt f i b).window = s.window := rfl
@[simp] theorem State.setBitAt_otp (f : Fld) (i : Nat) (b : Bool) : (s.setBitAt f i b).otp = s.otp := rfl
@[simp] theorem State.setBitAt_ev (f : Fld) (i : Nat) (b : Bool) : (s.setBitAt f i b).ev = s.ev := rfl
@[simp] theorem State.setBitAt_pcie (f : Fld) (i : Nat) (b : Bool) : (s.setBitAt f i b).pcie = s.pcie := rfl
@[simp] theorem State.setBitAt_hqs (f : Fld) (i : Nat) (b : Bool) : (s.setBitAt f i b).hqs = s.hqs := rfl
@[simp] theorem State.setBitAt_paths (f : Fld) (i : Nat) (b : Bool) : (s.setBitAt f i b).paths = s.paths := rfl
@[simp] theorem State.setBitAt_jesd (f : Fld) (i : Nat) (b : Bool) : (s.setBitAt f i b).jesd = s.jesd := rfl
@[simp] theorem State.setBitAt_osc (f : Fld) (i : Nat) (b : Bool) : (s.setBitAt f i b).osc = s.osc := rfl
@[simp] theorem State.setBitAt_ces (f : Fld) (i : Nat) (b : Bool) : (s.setBitAt f i b).ces = s.ces := rfl
@[simp] theorem State.setBitAt_tes (f : Fld) (i : Nat) (b : Bool) : (s.setBitAt f i b).tes = s.tes := rfl
@[simp] theorem State.setBitAt_imap (f : Fld) (i : Nat) (b : Bool) : (s.setBitAt f i b).imap = s.imap := rfl
@[simp] theorem State.setBitAt_psm (f : Fld) (i : Nat) (b : Bool) : (s.setBitAt f i b).psm = s.psm := rfl
@[simp] theorem State.setBitAt_drift (f : Fld) (i : Nat) (b : Bool) : (s.setBitAt f i b).drift = s.drift := rfl
@[simp] theorem State.setBitAt_fwd (f : Fld) (i : Nat) (b : Bool) : (s.setBitAt f i b).fwd = s.fwd := rfl
@[simp] theorem State.setBitAt_sched (f : Fld) (i : Nat) (b : Bool) : (s.setBitAt f i b).sched = s.sched := rfl
@[simp] theorem State.setBitAt_queues (f : Fld) (i : Nat) (b : Bool) : (s.setBitAt f i b).queues = s.queues := rfl
@[simp] theorem State.setBitAt_tb (f : Fld) (i : Nat) (b : Bool) : (s.setBitAt f i b).tb = s.tb := rfl
@[simp] theorem State.setBitAt_sec (f : Fld) (i : Nat) (b : Bool) : (s.setBitAt f i b).sec = s.sec := rfl
@[simp] theorem State.setBitAt_tree (f : Fld) (i : Nat) (b : Bool) : (s.setBitAt f i b).tree = s.tree := rfl
@[simp] theorem State.setBitAt_eth (f : Fld) (i : Nat) (b : Bool) : (s.setBitAt f i b).eth = s.eth := rfl
@[simp] theorem State.setBitAt_app (f : Fld) (i : Nat) (b : Bool) : (s.setBitAt f i b).app = s.app := rfl
@[simp] theorem State.setBitAt_cpus (f : Fld) (i : Nat) (b : Bool) : (s.setBitAt f i b).cpus = s.cpus := rfl
@[simp] theorem State.setBitAt_mi (f : Fld) (i : Nat) (b : Bool) : (s.setBitAt f i b).mi = s.mi := rfl
@[simp] theorem State.setBitAt_pair (f : Fld) (i : Nat) (b : Bool) : (s.setBitAt f i b).pair = s.pair := rfl
@[simp] theorem State.setBitAt_upd (f : Fld) (i : Nat) (b : Bool) : (s.setBitAt f i b).upd = s.upd := rfl
@[simp] theorem State.setBitAt_pwr (f : Fld) (i : Nat) (b : Bool) : (s.setBitAt f i b).pwr = s.pwr := rfl
@[simp] theorem State.setBitAt_snaps (f : Fld) (i : Nat) (b : Bool) : (s.setBitAt f i b).snaps = s.snaps := rfl
@[simp] theorem State.setBitAt_now (f : Fld) (i : Nat) (b : Bool) : (s.setBitAt f i b).now = s.now := rfl
@[simp] theorem State.setBitAt_draws (f : Fld) (i : Nat) (b : Bool) : (s.setBitAt f i b).draws = s.draws := rfl
@[simp] theorem State.setBitAt_out (f : Fld) (i : Nat) (b : Bool) : (s.setBitAt f i b).out = s.out := rfl
@[simp] theorem State.setBitAt_reply (f : Fld) (i : Nat) (b : Bool) : (s.setBitAt f i b).reply = s.reply := rfl
@[simp] theorem State.setBitAt_pending (f : Fld) (i : Nat) (b : Bool) : (s.setBitAt f i b).pending = s.pending := rfl
@[simp] theorem State.setBitAt_path (f : Fld) (i : Nat) (b : Bool) (k : Nat) : (s.setBitAt f i b).path k = s.path k := rfl
@[simp] theorem State.setBitAt_ce (f : Fld) (i : Nat) (b : Bool) (k : Nat) : (s.setBitAt f i b).ce k = s.ce k := rfl
@[simp] theorem State.setBitAt_te (f : Fld) (i : Nat) (b : Bool) (k : Nat) : (s.setBitAt f i b).te k = s.te k := rfl
@[simp] theorem State.setBitAt_ring (f : Fld) (i : Nat) (b : Bool) (k : Nat) : (s.setBitAt f i b).ring k = s.ring k := rfl
@[simp] theorem State.setBitAt_tso (f : Fld) (i : Nat) (b : Bool) (k : Nat) : (s.setBitAt f i b).tso k = s.tso k := rfl
@[simp] theorem State.setBitAt_gt (f : Fld) (i : Nat) (b : Bool) (k : Nat) : (s.setBitAt f i b).gt k = s.gt k := rfl
@[simp] theorem State.setBitAt_snapsOf (f : Fld) (i : Nat) (b : Bool) (k : Requester) : (s.setBitAt f i b).snapsOf k = s.snapsOf k := rfl
@[simp] theorem State.setBitAt_queue (f : Fld) (i : Nat) (b : Bool) (k : Nat) : (s.setBitAt f i b).queue k = s.queue k := rfl
@[simp] theorem State.setBitAt_hq (f : Fld) (i : Nat) (b : Bool) (k : Nat) : (s.setBitAt f i b).hq k = s.hq k := rfl
@[simp] theorem State.setBitAt_tbNs (f : Fld) (i : Nat) (b : Bool) : (s.setBitAt f i b).tbNs = s.tbNs := rfl
@[simp] theorem State.setBitAt_asnNat (f : Fld) (i : Nat) (b : Bool) : (s.setBitAt f i b).asnNat = s.asnNat := rfl

end Sys2Proof.Machine
end

