-- ==== Sys2Proof/Laws/Quiet.lean ====
section
/-!
SUPPORT. What posting an event leaves alone among the registers: everything outside the event-ring registers, the frame-queue views
and what mail and interrupts show of the application core (`Quiet`).
-/

namespace Sys2Proof.Machine

/-- The application core's state without the interrupt controller's levels, windows and request, and the mailbox's wanted room. -/
def AppState.core (a : AppState) : AppState := { a with levels := [], ignored := [], request := none, roomWanted := false }

/-- Registers outside the noisy blocks stay, and so does what `Keeps` says and what the application core holds. -/
structure Quiet (s0 s : State) : Prop where
  keeps : Keeps s0 s
  of : Memory.wf s0 = true → ∀ key, noisy key = false → s.word key = s0.word key
  core : s.app.core = s0.app.core

theorem Quiet.refl (s : State) : Quiet s s := ⟨Keeps.refl s, fun _ _ _ => rfl, rfl⟩

theorem Quiet.trans {a b c : State} (h : Quiet a b) (k : Quiet b c) : Quiet a c :=
  ⟨h.keeps.trans k.keeps, fun w key n => (k.of (h.keeps.wf w) key n).trans (h.of w key n), k.core.trans h.core⟩

theorem Quiet.same {s0 s t : State} (h : Quiet s0 s) (k : Keeps s t) (r : t.regs = s.regs) (a : t.app.core = s.app.core) : Quiet s0 t :=
  ⟨h.keeps.trans k, fun w key n => by rw [State.word, r]; exact h.of w key n, a.trans h.core⟩

theorem Quiet.app {s0 s : State} (h : Quiet s0 s) (x : AppState) (hx : x.core = s.app.core) : Quiet s0 (s.putApp x) :=
  have hi : x.iram = s.app.iram := (congrArg AppState.iram hx : x.core.iram = s.app.core.iram)
  have hd : x.dram = s.app.dram := (congrArg AppState.dram hx : x.core.dram = s.app.core.dram)
  h.same (State.putApp_keeps (Keeps.refl s) x fun w => ⟨hi ▸ wf_iram w, hd ▸ wf_dram w⟩) rfl hx

theorem Quiet.ev {s0 s : State} (h : Quiet s0 s) (x : EventState) : Quiet s0 (s.putEv x) :=
  h.same (State.putEv_keeps (Keeps.refl s) x) rfl rfl

theorem Quiet.ring {s0 s : State} (h : Quiet s0 s) (r : Nat) (x : RingState) : Quiet s0 (s.setRing r x) := h.ev _

theorem Quiet.set {s0 s : State} (h : Quiet s0 s) (f : Fld) (v : Nat) (hf : noisy f.key = true) : Quiet s0 (s.set f v) :=
  ⟨State.set_keeps h.keeps f v, fun w key n => by
    rw [word_set (h.keeps.wf w), if_neg (fun e => by rw [e, hf] at n; cases n)]
    exact h.of w key n, h.core⟩

theorem Quiet.get {s0 s : State} (h : Quiet s0 s) (w : Memory.wf s0 = true) (f : Fld) (n : noisy f.key = false) : s.get f = s0.get f := by
  rw [get_eq_word, get_eq_word, h.of w _ n]

theorem Quiet.bit {s0 s : State} (h : Quiet s0 s) (w : Memory.wf s0 = true) (f : Fld) (n : noisy f.key = false) : s.bit f = s0.bit f := by
  rw [bit_eq_get, bit_eq_get, h.get w f n]

theorem Quiet.ite {s0 a b : State} {c : Prop} [Decidable c] (ha : Quiet s0 a) (hb : Quiet s0 b) : Quiet s0 (if c then a else b) := by
  split
  · exact ha
  · exact hb

theorem Quiet.ite_fst {α : Type} {s0 : State} {a b : State × α} {c : Prop} [Decidable c] (ha : Quiet s0 a.1) (hb : Quiet s0 b.1) :
    Quiet s0 (if c then a else b).1 := by
  split
  · exact ha
  · exact hb

theorem Quiet.fold {α : Type} {s0 : State} {f : State → α → State} {l : List α} {s : State} (h : Quiet s0 s)
    (hf : ∀ t x, x ∈ l → Quiet s0 t → Quiet s0 (f t x)) : Quiet s0 (foldState f s l) := by
  induction l generalizing s with
  | nil => exact h
  | cons x l ih => exact ih (hf s x (List.mem_cons_self ..) h) fun t y hy => hf t y (List.mem_cons_of_mem _ hy)

theorem noisy_ev {key : Nat} (a : 0x00100000 ≤ key) (b : key < 0x00102000) : noisy key = true := by
  simp only [noisy, a, b, decide_true, Bool.and_self, Bool.true_or]

theorem noisy_queue {key : Nat} (a : 0x03400000 ≤ key) (b : key < 0x03400800) : noisy key = true := by
  simp only [noisy, a, b, decide_true, Bool.and_self, Bool.true_or, Bool.or_true]

theorem noisy_mail {key : Nat} (a : 0x0A000124 ≤ key) (b : key < 0x0A000168) : noisy key = true := by
  simp only [noisy, a, b, decide_true, Bool.and_self, Bool.true_or, Bool.or_true]

theorem noisy_pend {key : Nat} (a : 0x0A001100 ≤ key) (b : key < 0x0A001180) : noisy key = true := by
  simp only [noisy, a, b, decide_true, Bool.and_self, Bool.true_or, Bool.or_true]

/-! ## Queues and mailboxes -/

theorem viewQueue_quiet {s0 s : State} (h : Quiet s0 s) {q : Nat} (hq : q < 32) : Quiet s0 (viewQueue s q) := by
  have k : ∀ a b, a < 0x40 → b = 0x03400000 + q * 0x40 + a → noisy b = true := fun a b ha hb =>
    noisy_queue (by omega) (by omega)
  unfold viewQueue
  refine Quiet.fold (Quiet.set (Quiet.set (Quiet.set (Quiet.set h _ _ ?_) _ _ ?_) _ _ ?_) _ _ ?_) fun t x hx ht => ?_
  · exact k 0 _ (by omega) rfl
  · exact k 0 _ (by omega) rfl
  · exact k 4 _ (by omega) (by show 0x03400004 + q * 0x40 = _; omega)
  · exact k 4 _ (by omega) (by show 0x03400004 + q * 0x40 = _; omega)
  · have hx : x < 4 := by fin_cases hx <;> decide
    refine Quiet.set (Quiet.set ht _ _ ?_) _ _ ?_ <;>
      exact k (8 + x * 4) _ (by omega) (by show 0x03400008 + q * 0x40 + x * 0x4 = _; omega)

theorem putQueue_quiet {s0 s : State} (h : Quiet s0 s) {q : Nat} (hq : q < 32) (x : QueueState) : Quiet s0 (putQueue s q x) :=
  viewQueue_quiet (h.same (State.setQueue_keeps (Keeps.refl s) q x) rfl rfl) hq

theorem setPending_quiet {s0 s : State} (h : Quiet s0 s) (src : Nat) (b : Bool) : Quiet s0 (setPending s src b) := by
  unfold setPending
  split
  · exact h
  · rename_i hr
    have : src ≤ 95 := by
      simp only [aicReserved, Bool.or_eq_true, decide_eq_true_eq, not_or, not_lt] at hr
      exact hr.2
    exact Quiet.set h _ _ (noisy_pend (by show _ ≤ 0x0A001100 + src / 32 * 0x4; omega) (by show 0x0A001100 + src / 32 * 0x4 < _; omega))

theorem aicUpdate_quiet {s0 s : State} (h : Quiet s0 s) : Quiet s0 (aicUpdate s) := by
  have e : Quiet s0 (aicExpire s) := by
    unfold aicExpire
    refine Quiet.fold (Quiet.app h _ rfl) fun t x _ ht => ?_
    exact Quiet.ite (Quiet.ite (setPending_quiet ht _ _) ht) ht
  unfold aicUpdate
  have k := Quiet.set (Quiet.set e R.AIC_RUN_DEPTH (aicExpire s).app.stack.length rfl) R.AIC_RUN_PRIO (aicRunning (aicExpire s)) rfl
  exact Quiet.ite (Quiet.app k _ rfl)
    (Quiet.app k _ rfl)

theorem aicLevel_quiet {s0 s : State} (h : Quiet s0 s) (src : Nat) (high : Bool) : Quiet s0 (aicLevel s src high) := by
  unfold aicLevel
  refine Quiet.ite h (aicUpdate_quiet (setPending_quiet (Quiet.app h _ ?_) _ _)); rfl

theorem aicEdge_quiet {s0 s : State} (h : Quiet s0 s) (src : Nat) : Quiet s0 (aicEdge s src) := by
  unfold aicEdge
  exact Quiet.ite h (aicUpdate_quiet (setPending_quiet h _ _))

theorem viewMail_quiet {s0 s : State} (h : Quiet s0 s) : Quiet s0 (viewMail s) := by
  unfold viewMail
  have k := Quiet.set (Quiet.set h R.MB_TX_STAT_ROOM (1024 - (s.queue mba).words) rfl) R.MB_RX_STAT_ITEMS (s.queue mbc).items rfl
  extract_lets
  split
  · exact k
  · refine Quiet.fold (Quiet.set k _ _ rfl) fun t x hx ht => Quiet.set ht _ _ ?_
    have hx : x < 8 := by fin_cases hx <;> decide
    exact noisy_mail (by show _ ≤ 0x0A000140 + x * 0x4; omega) (by show 0x0A000140 + x * 0x4 < _; omega)

theorem mailChanged_quiet {s0 s : State} (h : Quiet s0 s) : Quiet s0 (mailChanged s) := by
  unfold mailChanged
  have k := aicLevel_quiet (viewMail_quiet h) 68 (decide (0 < (s.queue mbc).items))
  refine Quiet.ite (aicEdge_quiet (Quiet.app k _ ?_) _) k; rfl

theorem mailTo_quiet {s0 s : State} (h : Quiet s0 s) (i : QueueItem) : Quiet s0 (mailTo s i) :=
  mailChanged_quiet (putQueue_quiet h (by decide) _)

/-! ## Events -/

theorem countDrop_quiet {s0 s : State} (h : Quiet s0 s) {src r : Nat} (hs : src < 256) (hr : r < 16) : Quiet s0 (countDrop s src r) := by
  have a : noisy (R.EV_DROP_COUNT src).key = true :=
    noisy_ev (by show _ ≤ 0x00100180 + src * 0x4; omega) (by show 0x00100180 + src * 0x4 < _; omega)
  have b : noisy (R.EVR_DROP_COUNT r).key = true :=
    noisy_ev (by show _ ≤ 0x00101020 + r * 0x40; omega) (by show 0x00101020 + r * 0x40 < _; omega)
  unfold countDrop
  exact Quiet.ev (Quiet.ring (Quiet.set (Quiet.set h _ _ a) _ _ b) _ _) _

theorem clearLoss_quiet {s0 s : State} (h : Quiet s0 s) (src : Nat) : Quiet s0 (clearLoss s src) := by
  unfold clearLoss
  exact Quiet.ev h _

theorem setBacklog_quiet {s0 s : State} (h : Quiet s0 s) (l : List (Nat × EventRecord)) : Quiet s0 (setBacklog s l) := by
  unfold setBacklog
  exact Quiet.set (Quiet.ev h _) R.EV_STATUS_BACKLOG _ rfl

theorem holdRecord_quiet {s0 s : State} (h : Quiet s0 s) {r : Nat} (hr : r < 16) (e : EventRecord) (he : e.source < 256) :
    Quiet s0 (holdRecord s r e).1 := by
  unfold holdRecord
  exact Quiet.ite_fst (Quiet.ite_fst (Quiet.ring (clearLoss_quiet h _) _ _) (countDrop_quiet h he hr))
    (Quiet.ite_fst (setBacklog_quiet (clearLoss_quiet h _) _) (countDrop_quiet h he hr))

theorem forwardRecord_quiet {s0 s : State} (h : Quiet s0 s) (e : EventRecord) : Quiet s0 (forwardRecord s e) := by
  unfold forwardRecord
  exact Quiet.ite (Quiet.ite (mailTo_quiet (h.same (State.drew_keeps (Keeps.refl _)) rfl rfl) _)
    (Quiet.set h R.APP_CNT_FWD_DROP _ rfl)) h

theorem eventRing_lt (s : State) (src : Nat) : eventRing s src < 16 := natBits_lt _ _ 4

theorem putLimit_quiet {s0 s : State} (h : Quiet s0 s) (e : EventLimit) : Quiet s0 (putLimit s e) := by
  unfold putLimit
  exact Quiet.ev h _

theorem takeSeq_quiet {s0 s : State} (h : Quiet s0 s) (src : Nat) : Quiet s0 (takeSeq s src) := by
  unfold takeSeq
  exact Quiet.ev h _

theorem generate_quiet {s0 : State} : ∀ (fuel code : Nat) (pl : List Byte) {s : State}, code < 65536 → Quiet s0 s →
    Quiet s0 (generate fuel code pl s)
  | fuel, code, pl, s, hc, h => by
    unfold generate
    extract_lets src key lim masked held e s1 s2 s3 r
    refine Quiet.ite (Quiet.ite (putLimit_quiet h _) h) ?_
    have h2 : Quiet s0 s2 := Quiet.ite (putLimit_quiet (takeSeq_quiet h src) _) (takeSeq_quiet h src)
    have he : e.source < 256 := by show code / 256 < 256; omega
    have k : Quiet s0 (holdRecord s3 r e).1 := holdRecord_quiet (forwardRecord_quiet h2 e) (eventRing_lt _ _) e he
    cases fuel with
    | zero => exact k
    | succ n => exact Quiet.ite (generate_quiet n _ _ (by decide) k) k

/-- Posting an event leaves every register alone outside the noisy blocks. -/
theorem postEvent_quiet {s0 s : State} (h : Quiet s0 s) {code : Nat} (hc : code < 65536) (fields : List (Nat × Nat × Nat)) :
    Quiet s0 (postEvent code fields s) :=
  generate_quiet 2 code _ hc h

theorem get_postEvent {s : State} (w : Memory.wf s = true) {code : Nat} (hc : code < 65536) (fields : List (Nat × Nat × Nat)) (f : Fld)
    (n : noisy f.key = false) : (postEvent code fields s).get f = s.get f :=
  (postEvent_quiet (Quiet.refl s) hc fields).get w f n

end Sys2Proof.Machine
end

