-- ==== Sys2Proof/Machine/AirFrames.lean ====
section
/-!
DEFINITION. What a device frame carries on air (chapter 08): addresses (R246, R247), security (R245, R474), the content of the
PSM sub-IEs (R248 to R251, R280, R229, R477), and its octets from frame control to FCS (R245, R247, R606, R607), composed from the frame
and the state at its ramp-up.
-/

namespace Sys2Proof.Machine

/-! ## Sub-IEs (R248, R249, Table 8-2) -/

/-- Poll (Table 8-3): ALT and SUSPECT. -/
def pollIe (alt suspect : Bool) : List Byte := subIe 0x01 [BitVec.ofNat 8 (boolNat alt + 2 * boolNat suspect), 0#8]

/-- The enabled beacon slots and join slots, in their order. -/
def beaconSlots (s : State) : List Nat := four.filter fun k => s.bit (R.BEACON_SLOT_EN k)
def joinSlots (s : State) : List Nat := four.filter fun k => s.bit (R.JOIN_SLOT_EN k)

/-- PSM Timing (Table 8-3). -/
def timingIe (s : State) : List Byte :=
  subIe 0x02 (toLE 1 (s.get R.PSM_SLOT_SLOT_LEN) ++ toLE 2 (sfLen s) ++ toLE 2 (s.get R.PSM_TIMING_T_POLL) ++
    toLE 2 (s.get R.PSM_TIMING_G_JOIN) ++ toLE 1 (s.get R.PSM_SLOT_PRE_LEN) ++ toLE 1 (s.get R.BEACON_CFG_MAP) ++
    toLE 1 (beaconSlots s).length ++
    ((beaconSlots s).map fun k => toLE 2 (s.get (R.BEACON_SLOT_SLOT k)) ++ toLE 1 (s.get (R.BEACON_SLOT_CH_OFS k))).flatten)

/-- Join Slots (Table 8-3). -/
def joinSlotsIe (s : State) : List Byte :=
  subIe 0x03 (toLE 1 (joinSlots s).length ++
    ((joinSlots s).map fun k => toLE 2 (s.get (R.JOIN_SLOT_SLOT k)) ++ toLE 1 (s.get (R.JOIN_SLOT_CH_OFS k)) ++
      toLE 1 (s.get (R.JOIN_SLOT_MODE k))).flatten)

/-- Channel Map of map m (Table 8-3). -/
def channelMapIe (s : State) (m : Nat) : List Byte :=
  subIe 0x04 (toLE 1 m ++ toLE 1 (s.get (R.CHMAP_HDR_ALT m)) ++ toLE 1 (mapLen s m) ++
    ((List.range (mapLen s m)).map fun i => toLE 3 (mapFreq s m i)).flatten)

/-- Supervision (Table 8-3). -/
def supervisionIe (code : Nat) : List Byte := subIe 0x05 (toLE 1 code)

/-- Wake and Guard (Table 9-1). -/
def wakeIe (k slot : Nat) : List Byte := subIe 0x06 (toLE 1 (k % 16) ++ toLE 2 (slot % 4096))
def guardIe (gFix gRate gCap : Nat) (rate : Int) : List Byte :=
  subIe 0x07 (toLE 2 gFix ++ toLE 2 gRate ++ toLE 2 gCap ++ toLE 3 (toField 24 rate) ++ [0#8])

/-- Indigo map (Table 7-9). -/
def indigoMapIe (msn rate bw : Nat) (clear : Bool) (map : Nat) : List Byte :=
  subIe 0x08 (toLE 1 msn ++ toLE 1 (rate % 4 + 4 * (bw % 4) + 16 * boolNat clear) ++ toLE 15 (if clear then 0 else map) ++
    toLE 1 (mapChk (if clear then 0 else map)))

/-- Join, kind 3 (Table 17-4). -/
def rekeyIe (epoch actAsn : Nat) (wrapped : List Byte) : List Byte :=
  subIe 0x09 ([0x03#8] ++ toLE 2 epoch ++ toLE 5 actAsn ++ wrapped)

/-- Address (Table 8-3): the node's 20-bit index. -/
def addressIe (n : Nat) : List Byte := subIe 0x0A (toLE 3 (n % 2 ^ 20))

/-- The PSM sub-IEs of a frame (Table 8-1): none where it has no PSM payload IE. The other sub-IEs of a join response hold what
the node's line and its agreement say (R281, R480). -/
def frameIes (s : State) (f : TxFrame) : List Byte :=
  match f.kind with
  | .beacon _ _ => timingIe s ++ joinSlotsIe s ++ channelMapIe s (s.get R.BEACON_CFG_MAP)
  | .poll alt suspect => pollIe alt suspect
  | .joinResponse ie =>
    let a := heldOf s f.final
    let l := s.line f.final
    subIe 0x09 ie ++ addressIe f.final ++ wakeIe a.k a.slot ++ guardIe a.gFix a.gRate a.gCap a.rate ++
      channelMapIe s (lineGet l N.CHMAP) ++ supervisionIe (lineGet l N.SUP)
  | .map msn rate bw clear value => indigoMapIe msn rate bw clear value
  | .agreement k slot gFix gRate gCap rate => wakeIe k slot ++ guardIe gFix gRate gCap rate
  | .rekey epoch actAsn wrapped => rekeyIe epoch actAsn wrapped
  | .ack .. | .joinAck .. | .data .. | .group .. => []

/-! ## Addresses and security -/

/-- PAN_BASE, its low 4 bits zero (R246). -/
def panBase (s : State) : Nat := 16 * s.get R.PSM_CTRL_PAN_BASE

/-- A node's air address (R246). -/
def nodeAddress (s : State) (n : Nat) : AirAddress := .short (panBase s + n / 65536 % 16) (n % 65536)

def lineAddress (s : State) (n : Nat) : AirAddress := .eui (panBase s) (lineGet (s.line n) N.EUI)

/-- The device's own address. -/
def deviceAddress (s : State) : AirAddress := .eui (panBase s) (Config.deviceEui s.otp.serial)

/-- How a frame is secured (Table 17-3): its level, the purpose of its key, the EUI-64 of its nonce, its frame counter. -/
structure AirSecurity where
  level : Nat
  purpose : Nat
  address : Nat
  counter : Nat
  deriving DecidableEq, Repr

/-- A frame as it goes on air: type, addresses, security, the AR and Frame Pending bits, header IEs, payload IEs, payload. -/
structure AirFrame where
  type : Nat
  dest : AirAddress
  source : AirAddress
  security : Option AirSecurity
  ar : Bool
  framePending : Bool
  headerIes : List Byte
  payloadIes : List Byte
  payload : List Byte
  deriving DecidableEq, Repr

/-- Security under a node's key of a purpose (R245, R474). -/
def nodeSecurity (s : State) (f : TxFrame) (level purpose : Nat) : Option AirSecurity :=
  f.counter.map fun c => { level := level, purpose := purpose, address := lineGet (s.line (f.dest.getD f.final)) N.EUI, counter := c }

/-- A data frame to the node of `f` at level 5, with AR, and its PSM payload IE where it has one (Table 8-1). -/
def dataFrame (s : State) (f : TxFrame) : AirFrame :=
  let ies := frameIes s f
  { type := typeData, dest := nodeAddress s (f.dest.getD f.final), source := .none, security := nodeSecurity s f 5 purposeDown, ar := true,
    framePending := f.more, headerIes := if ies.isEmpty then [] else ht1, payloadIes := if ies.isEmpty then [] else psmIe ies, payload := [] }

/-- A device frame on air (Tables 8-1, 8-1a, 8-1b and 17-3). -/
def airFrame (s : State) (f : TxFrame) : AirFrame :=
  let d := dataFrame s f
  match f.kind with
  | .beacon _ asn =>
    { d with type := typeBeacon, dest := .none, source := deviceAddress s, security := none, ar := false, payloadIes := tschIe asn ++ d.payloadIes }
  | .poll _ _ => { d with ar := false, framePending := false }
  | .ack _ pending corr =>
    { d with type := typeAck, security := nodeSecurity s f 1 purposeDown, ar := false, framePending := pending, headerIes := timeCorrectionIe corr }
  | .joinAck _ eui => { d with type := typeAck, dest := .eui (panBase s) eui, security := none, ar := false, framePending := false }
  | .joinResponse _ => { d with dest := lineAddress s f.final, security := none, framePending := false }
  | .data _ payload => { d with payload := payload }
  | .map .. => { d with security := nodeSecurity s f 5 purposeMap }
  | .agreement .. | .rekey .. => d
  | .group _ payload =>
    { d with dest := .short (panBase s) 0xFFFF, source := deviceAddress s, ar := false, framePending := false, payload := payload,
             security := f.counter.map fun c =>
               { level := 5, purpose := purposeBcast, address := Config.deviceEui s.otp.serial, counter := c } }

/-! ## Octets -/

/-- The MAC header of an air frame with a sequence number: frame control, addressing fields, auxiliary security header, header IEs. -/
def AirFrame.header (a : AirFrame) (seq : Nat) : List Byte :=
  frameControl a.type a.security.isSome a.framePending a.ar (!a.headerIes.isEmpty) a.dest.mode a.source.mode ++ toLE 1 seq ++
    a.dest.octets ++ a.source.octets ++ (match a.security with | none => [] | some x => auxHeader x.level x.counter) ++ a.headerIes

/-- What follows the header under a key: in the clear; with a MIC under level 1; hidden, with a MIC, under level 5 (R245). -/
def AirFrame.sealed (a : AirFrame) (seq : Nat) (key : BitVec 128) : List Byte :=
  let h := a.header seq
  let p := a.payloadIes ++ a.payload
  match a.security with
  | none => p
  | some x =>
    let nonce := toBE 8 x.address ++ toBE 4 x.counter ++ toBE 1 x.level
    if x.level = 5 then Config.ccmSeal key nonce 5 h p else p ++ Config.ccmSeal key nonce x.level (h ++ p) []

/-- The key of a frame: a node's by the purpose, a group's district broadcast key (Table 17-3); zeros where it is gone. -/
def airKey (s : State) (f : TxFrame) (x : AirSecurity) : BitVec 128 :=
  match f.kind with
  | .group g _ =>
    match s.sec.kM with
    | none => 0#128
    | some kM => frameKey (districtKey kM (s.tree.slot f.epochSlot).epoch (districtWord (s.get (R.MCAST_CFG_DISTRICT g)) f.gen)) x.purpose
  | _ => ((keyOfNode s (f.dest.getD f.final) (some f.epochSlot)).map fun k => frameKey k x.purpose).getD 0#128

/-- The octets of a device frame in a PHY mode (R245, R247): an FCS of 2 octets in O-QPSK, of 4 in any other mode. -/
def airOctets (s : State) (f : TxFrame) (mode : Nat) : List Byte :=
  let a := airFrame s f
  let o := a.header f.seq ++ a.sealed f.seq ((a.security.map (airKey s f)).getD 0#128)
  o ++ Config.fcs (if modeFamily mode = 2 then 2 else 4) o

end Sys2Proof.Machine
end

