-- ==== Sys2Proof/Machine/Pins.lean ====
section
/-!
DEFINITION. The outputs at the balls as functions of the state: Table 2-3 by phase (R49, R50, R51, R59, R60, R133).
-/

namespace Sys2Proof.Machine

/-- The columns of Table 2-3. -/
inductive Column where
  | unpowered
  | porstLow
  | warmLow
  | boot
  | running
  | sepia
  | umber
  | faultHold
  deriving DecidableEq, Repr

/-- What a ball carries. -/
inductive Level where
  /-- High impedance. -/
  | z
  /-- An open-drain output released. -/
  | released
  | low
  | high
  /-- A converter's or a bus's code. -/
  | code (c : Nat)
  /-- A serial lane at electrical idle. -/
  | electricalIdle
  /-- As the unit behind the ball drives it: a bus in its protocol, a link, the application firmware. -/
  | byUnit
  /-- Kept as it was by the retention latches (Sepia). -/
  | held
  deriving DecidableEq, Repr

/-- The column in force: boot lasts from a release to commit, and an exit from Sepia stays in its column until the device runs
again, its latches holding (Table 2-3; log entry 138). -/
def column (s : State) : Column :=
  match s.boot.phase with
  | .unpowered => .unpowered
  | .porstLow => .porstLow
  | .warmLow => .warmLow
  | .powering | .retryWait | .pllWait => if s.boot.cause = .sepiaExit then .sepia else .boot
  | .boot => .boot
  | .running | .warmDelay => .running
  | .sepia => .sepia
  | .umber => .umber
  | .faultHold => .faultHold

def levelOf (b : Bool) : Level := if b then .high else .low

/-- A front-end line of transceiver n at its polarity: `pol` 0 drives high for on, and for antenna B (R133). The balls of an absent
transceiver never drive (R66). -/
def frontEnd (s : State) (n : Nat) (on pol : Bool) : Level :=
  if 16 ≤ n || !pathPresent s.part n then .z
  else match column s with
  | .running => levelOf (on != pol)
  | .sepia => levelOf pol
  | _ => .z

/-- FEn_PA_EN, FEn_LNA_EN and FEn_ANT_SEL (R49, R133): in Sepia PA off, LNA off, antenna A. -/
def pinPaEn (s : State) (n : Nat) : Level := frontEnd s n (s.path n).pa (s.bit (R.FE_CTRL_PA_POL n))
def pinLnaEn (s : State) (n : Nat) : Level := frontEnd s n (s.path n).lna (s.bit (R.FE_CTRL_LNA_POL n))
def pinAntSel (s : State) (n : Nat) : Level := frontEnd s n (decide ((s.path n).ant = 1)) (s.bit (R.FE_CTRL_ANT_POL n))

/-- FEn_BIAS: the code of its DAC; absent, it never drives (R66). -/
def pinBias (s : State) (n : Nat) : Level :=
  if 16 ≤ n || !pathPresent s.part n then .z else match column s with | .running => .code (s.path n).bias | _ => .z

/-- REF_TUNE: the code of its DAC, at mid-scale from the start of the boot ROM to the commit (R163, R164; log entry 138). -/
def pinRefTune (s : State) : Level :=
  match column s with
  | .running => .code (s.get R.OSC_TRIM_CODE)
  | .boot => if s.boot.phase = .boot then .code 0x8000 else .z
  | _ => .z

/-- CLAIM_OUT_N: pulled low only by a running device that claims (R49, R50), and never where the part lacks it (R66). -/
def pinClaimOut (s : State) : Level :=
  if !hjPresent s.part then .released
  else match column s with
  | .running => if s.bit R.PAIR_STATUS_CLAIM_OUT then .low else .released
  | _ => .released

/-- FAULT_N: low in fault hold, high once PWR_PG has been seen. -/
def pinFault (s : State) : Level :=
  match column s with
  | .unpowered | .porstLow => .z
  | .faultHold => .low
  | _ => if s.pwr.faultN then .high else .z

/-- PWR_EN_SRAM and PWR_EN_CORE. -/
def railPin (s : State) (on : Bool) : Level :=
  match column s with
  | .unpowered | .porstLow | .faultHold => .z
  | _ => levelOf on
def pinEnSram (s : State) : Level := railPin s s.pwr.enSram
def pinEnCore (s : State) : Level := railPin s s.pwr.enCore

/-- PWR_VSEL[1:0] (R60): the set point of VDD_CORE. -/
def pinVsel (s : State) : Level :=
  match column s with
  | .unpowered | .porstLow | .faultHold => .z
  | _ => .code s.pwr.vsel

/-- The set point that a code of PWR_VSEL selects, mV (R60). -/
def vddCore (code : Nat) : Nat := [650, 750, 850].getD code 0

/-- XSPI_CLK, XSPI_RESET_N, XSPI_DQ and XSPI_DQS; XSPI_CS_N, which is high between the commands of a running device, whose flash
accesses are over within a step. -/
def pinXspi (s : State) : Level := match column s with | .boot | .running => .byUnit | _ => .z
def pinXspiCs (s : State) : Level := match column s with | .boot => .byUnit | .running => .high | _ => .z

/-- The units with serial transmit lanes. -/
inductive LaneUnit where
  | pcie
  | eth (e : Nat)
  | hjelno
  | converter
  deriving DecidableEq, Repr

/-- The part has the unit, and so the balls of its lanes (R66, Table 2-8). -/
def laneUnitPresent (p : Part) : LaneUnit → Bool
  | .pcie => true
  | .eth e => ethPresent p e
  | .hjelno => hjPresent p
  | .converter => jesdPresent p

/-- Serial transmit lanes: the PCIe endpoint is enabled from the start of the boot ROM with PERST_N high (R75), the others at commit. -/
def pinLanes (s : State) (u : LaneUnit) : Level :=
  if !laneUnitPresent s.part u then .z
  else match column s with
  | .warmLow => .electricalIdle
  | .boot => if u = .pcie ∧ s.boot.phase = .boot ∧ s.pcie.perst = true then .byUnit else .electricalIdle
  | .running => .byUnit
  | _ => .z

/-- TS_OUTn (R416): the active level during a pulse; low where no program runs. -/
def pinTsOut (s : State) (n : Nat) : Level :=
  match column s with
  | .running => levelOf (((s.tso n).pulse && s.bit (R.TSO_CTRL_EN n)) != s.bit (R.TSO_CTRL_POL n))
  | .warmLow | .boot | .sepia => .low
  | _ => .z

/-- GPIOn: driven where its output is enabled, by GPIO_OUT or the output of the timer that GPIO_CFG names (R443), held in Sepia. -/
def pinGpio (s : State) (n : Nat) : Level :=
  match column s with
  | .running =>
    if !natBit (s.get R.GPIO_OE_BITS) n then .z
    else if s.bit (R.GPIO_CFG_FUNC n) then levelOf (s.bit (R.GT_STAT_OUT (s.get (R.GPIO_CFG_TMR n))))
    else levelOf (natBit (s.get R.GPIO_OUT_BITS) n)
  | .sepia => .held
  | _ => .z

/-- The SPI outputs, the UART outputs, and the I²C lines. Table 2-3 has the UART at Z in boot, and R79 and R89 have it answer in a
recovery boot and in image wait: it drives there (DESIGN CHOICE, log entry 138). -/
def pinSpi (s : State) : Level := match column s with | .running => .byUnit | .sepia => .held | _ => .z
def pinUart (s : State) : Level :=
  match column s with
  | .running => .byUnit
  | .sepia => .held
  | .boot => if uartLoads s then .byUnit else .z
  | _ => .z
def pinI2c (s : State) : Level := match column s with | .running => .byUnit | _ => .released

/-- TDO: driven by the TAP while it shifts. -/
def pinTdo (s : State) : Level := match column s with | .running => .byUnit | _ => .z

/-- TRXn_TX and the JESD transmit lanes carry a signal: a frame of the path is on air and the gate is open (R51). -/
def txCarries (s : State) (n : Nat) : Bool :=
  gateOpen s && (match (s.path n).interval with | none => false | some i => i.ramped && !i.frames.isEmpty)

end Sys2Proof.Machine
end

