-- ==== Sys2Proof/Machine/Converters.lean ====
section
/-!
DEFINITION. The converters of the JESD204C port (R136): their numbers, their samples, the transmit flag, and the octets of a frame. The
order of the bits of packed samples is that of JESD204C, which the spec names and does not restate (PRESUMED, log entry 153).
-/

namespace Sys2Proof.Machine

/-- A converter: its stream, its chain (0 A, 1 B), and whether it carries Q. -/
structure Converter where
  stream : Nat
  chain : Nat
  quad : Bool
  deriving DecidableEq, Repr

/-- The I, Q pair of a chain. -/
def iqPair (stream chain : Nat) : List Converter := [false, true].map fun q => { stream := stream, chain := chain, quad := q }

/-- The receive converters in the order of their numbers, under the enables of chains A and B (R136). -/
def rxConverterList (a b : Nat) : List Converter :=
  ((List.range 16).map fun n => if natBit a n then iqPair n 0 ++ (if natBit b n then iqPair n 1 else []) else []).flatten

/-- The transmit converters in the order of their numbers. -/
def txConverterList (t : Nat) : List Converter := ((List.range 16).map fun n => if natBit t n then iqPair n 0 else []).flatten

/-- The converters of the device. -/
def rxPort (s : State) : List Converter := rxConverterList (s.get R.JESD_RXCH_A) (s.get R.JESD_RXCH_B)
def txPort (s : State) : List Converter := txConverterList (s.get R.JESD_TXCH_TX)

/-- N' (Table 4-5). -/
def sampleWidth (s : State) : Nat := if s.bit R.JESD_CTRL_N12 then 12 else 16

/-- The stream is inside its transmit interval, from step 2 to step 5 of Table 4-3. -/
def inTxInterval (s : State) (stream : Nat) : Bool := match (s.path (16 + stream)).interval with | none => false | some i => i.ramped

/-- The word of a transmit sample (R136): two's complement, zero outside the stream's transmit interval; with TX_FLAG and N' = 16 the data
has 15 significant bits, and bit 0 of an I sample says whether the interval runs. -/
def txSample (s : State) (c : Converter) (v : Int) : Nat :=
  let inside := inTxInterval s c.stream
  let w := if inside then toField (sampleWidth s) v else 0
  if s.bit R.JESD_CTRL_TX_FLAG && decide (sampleWidth s = 16) then w / 2 * 2 + boolNat (inside && !c.quad) else w

/-- The value of a received word (R136). -/
def rxSample (s : State) (w : Nat) : Int := signedOf (sampleWidth s) w

/-- The bits of a word, most significant first. -/
def wordBits (width w : Nat) : List Bool := (List.range width).map fun i => natBit w (width - 1 - i)

/-- Bits in octets, the first bit the most significant. -/
def octetsOf : List Bool → List Byte
  | b7 :: b6 :: b5 :: b4 :: b3 :: b2 :: b1 :: b0 :: t =>
    BitVec.ofNat 8 ([b7, b6, b5, b4, b3, b2, b1, b0].foldl (fun a b => 2 * a + boolNat b) 0) :: octetsOf t
  | _ => []

/-- The samples of the converters in a frame, packed without padding: those of converter 0, then of converter 1, and so on. -/
def packSamples (width : Nat) (samples : List (List Nat)) : List Byte := octetsOf ((samples.map fun l => (l.map (wordBits width)).flatten).flatten)

/-- The octets of a transmit frame, from the sample values of each converter in their order. -/
def txFrameOctets (s : State) (values : List (List Int)) : List Byte :=
  packSamples (sampleWidth s) (((txPort s).zip values).map fun x => x.2.map (txSample s x.1))

end Sys2Proof.Machine
end

