-- ==== Sys2Proof/Machine/Waveform.lean ====
section
/-!
DEFINITION. The Indigo waveform (chapter 07): numerology (R206), subcarriers and training values (R207, R210, R211, R212), the samples of a
symbol (R208), the header (R213, R214), scrambling, coding, puncturing and mapping of a PSDU (R215 to R219), and the frame of a transmit
engine (R225, R230, R231). A value on a
subcarrier is a pair of levels (I, Q) with the square of its scale: the value is the pair divided by the root of the scale.
-/

namespace Sys2Proof.Machine

/-! ## Numerology (Table 7-1) -/

/-- The sample rate of a mode, S/s: it equals the bandwidth. -/
def sampleRate (m : Nat) : Nat := leastBw m * 1000

/-- Useful time, cyclic prefix and symbol of a mode, ns: 64 samples, a quarter of that, both. -/
def usefulNs (m : Nat) : Nat := 64 * 1000000000 / sampleRate m
def prefixNs (m : Nat) : Nat := usefulNs m / 4

/-! ## Subcarriers (Table 7-2) -/

/-- The role of a subcarrier. -/
inductive Role where
  | guard
  | dc
  | pilot (m : Nat)
  | data (d : Nat)
  deriving DecidableEq, Repr

/-- The role of subcarrier k. -/
def role (k : Int) : Role :=
  if k < -22 ∨ 22 < k then .guard
  else if k = 0 then .dc
  else if k = -21 then .pilot 0
  else if k = -7 then .pilot 1
  else if k = 7 then .pilot 2
  else if k = 21 then .pilot 3
  else
    let i := if k < 0 then k + 22 else k + 21
    .data (i - (if -21 < k then 1 else 0) - (if -7 < k then 1 else 0) - (if 7 < k then 1 else 0) - (if 21 < k then 1 else 0)).toNat

/-- The subcarriers in ascending order. -/
def subcarriers : List Int := (List.range 64).map fun i => (i : Int) - 32

/-- A value on a subcarrier: I and Q levels and the square of the divisor. -/
structure Point where
  i : Int
  q : Int
  scale : Nat
  deriving DecidableEq, Repr

def Point.zero : Point := { i := 0, q := 0, scale := 1 }

/-! ## Training symbols -/

/-- The signs c_k of a short training symbol (R210). -/
def shortSign (k : Int) : Int :=
  if k = -20 ∨ k = -12 ∨ k = 12 ∨ k = 16 ∨ k = 20 then 1
  else if k = -16 ∨ k = -8 ∨ k = -4 ∨ k = 4 ∨ k = 8 then -1
  else 0

/-- STSn, n from 1 to 4, on subcarrier k (R210): levels over the root of 2, times the root of 4.4; STS4 is negated. With both
factors the divisor's square is 2 / 4.4 = 5 / 11, so the levels count 11 times over a square of 55. -/
def shortTraining (n : Nat) (k : Int) : Point :=
  let c := if n = 4 then -shortSign k else shortSign k
  { i := 11 * c, q := 11 * c, scale := 55 }

/-- The word of R211. -/
def longWord : Nat := 0xB4E1D92AC67

/-- LTS1 and LTS2 on subcarrier k (R211). -/
def longTraining (k : Int) : Point :=
  if k = 0 ∨ k < -22 ∨ 22 < k then Point.zero
  else
    let i := (if k < 0 then k + 22 else k + 21).toNat
    { i := if natBit longWord i then -1 else 1, q := 0, scale := 1 }

/-! ## The generator (R212, R215) -/

/-- One output of the generator and its next state. -/
def lfsrStep (s : Nat) : Nat × Nat :=
  let f := boolNat (natBit s 6 != natBit s 3)
  (f, (2 * s + f) % 128)

/-- The first n outputs of the generator from a state. -/
def lfsrBits : Nat → Nat → List Nat
  | _, 0 => []
  | s, n + 1 => (lfsrStep s).1 :: lfsrBits (lfsrStep s).2 n

/-- The seed 0b1111 ‖ SCR (R215). -/
def scrSeed (scr : Nat) : Nat := 0x78 + scr % 8

/-- Pilot Pm of symbol n, counted from the header symbol (R212). -/
def pilot (m n : Nat) : Point :=
  let f := (lfsrBits 0x7F (n + 1)).getD n 0
  let a : Int := if m = 3 then -1 else 1
  { i := a * (1 - 2 * (f : Int)), q := 0, scale := 1 }

/-! ## The header (Table 7-3) -/

/-- The header check of bits 0 to 25 in its place: bit 26 + i carries CRC bit 7 − i (R214). -/
def hcsBits (h : Nat) : Nat := (List.range 8).foldl (fun a i => a + boolNat (natBit (headerCrc h) (7 - i)) * 2 ^ (26 + i)) 0

/-- The 40 bits of a header, bit 0 sent first (R213, R214). -/
def indigoHeader (length rate : Nat) (loaded : Bool) (chk : Nat) (fcs4 : Bool) (scr : Nat) (mreq : Bool) : Nat :=
  let h := length % 2 ^ 11 + rate % 4 * 2 ^ 11 + boolNat loaded * 2 ^ 13 + (if loaded then chk % 16 else 0) * 2 ^ 14 +
    boolNat fcs4 * 2 ^ 18 + scr % 8 * 2 ^ 19 + boolNat mreq * 2 ^ 22
  h + hcsBits h

/-- The header of a frame that the device sends to a node under a map, or under the default map (R213, R225, R230): `fcs4` by
R245, MREQ 0; the map's code rate and check. The device's choice of SCR is open (log entry 139). -/
def deviceHeader (length rate map scr : Nat) : Nat := indigoHeader length rate (map ≠ 0) (mapChk map) true scr false

/-! ## Coding (R216, R217) -/

/-- The two outputs A and B of the encoder, generators 133 and 171 (octal), for the newest bit and the six before it. -/
def encoderOut (window : Nat) : Nat × Nat :=
  let parity (g : Nat) : Nat := ((List.range 7).foldl (fun a i => a + boolNat (natBit g i && natBit window i)) 0) % 2
  (parity 0o133, parity 0o171)

/-- The coded pairs of an input from an encoder state: bit 6 of the window is the newest bit. -/
def encode2 : Nat → List Nat → List (Nat × Nat)
  | _, [] => []
  | st, b :: l =>
    let w := 64 * (b % 2) + st
    encoderOut w :: encode2 (w / 2) l

/-- The pairs of a period that puncturing keeps, A and B by place (Table 7-4). -/
def keepMask (rate : Nat) : List (Bool × Bool) :=
  [[(true, true)], [(true, true), (true, false)], [(true, true), (true, false), (false, true)],
   [(true, true), (true, false), (false, true), (true, false), (false, true)]].getD rate [(true, true)]

/-- Puncture a stream of coded pairs; `i` is the place in the period. -/
def puncture (rate : Nat) : Nat → List (Nat × Nat) → List Nat
  | _, [] => []
  | i, (a, b) :: l =>
    let m := (keepMask rate).getD (i % (keepMask rate).length) (true, true)
    (if m.1 then [a] else []) ++ (if m.2 then [b] else []) ++ puncture rate (i + 1) l

/-- The bits of octets, octet 0 first, least significant bit first (R215). -/
def octetBits (l : List Byte) : List Nat := (l.map fun b => (List.range 8).map fun i => boolNat (natBit b.toNat i)).flatten

/-- The PSDU bits after scrambling (R215). -/
def scrambled (scr : Nat) (psdu : List Byte) : List Nat :=
  let b := octetBits psdu
  (b.zip (lfsrBits (scrSeed scr) b.length)).map fun x => (x.1 + x.2) % 2

/-- The encoder's input: the scrambled PSDU, six tail bits, and the least padding to the period (R216). -/
def encoderInput (rate scr : Nat) (psdu : List Byte) : List Nat :=
  let l := scrambled scr psdu ++ List.replicate 6 0
  let p := (keepMask rate).length
  l ++ List.replicate ((p - l.length % p) % p) 0

/-- The punctured stream of a payload (R216, R217). -/
def codedBits (rate scr : Nat) (psdu : List Byte) : List Nat := puncture rate 0 (encode2 0 (encoderInput rate scr psdu))

/-- The coded bits of the header: rate 1/2, neither scrambled nor punctured, from a zero state (R213). -/
def headerBits (h : Nat) : List Nat :=
  ((encode2 0 ((List.range 40).map fun i => boolNat (natBit h i))).map fun p => [p.1, p.2]).flatten

/-! ## Mapping (R218, R219) -/

/-- The places of a symbol's coded bits in the order in which they are filled: (d, j) (R218). -/
def bitPlaces (map : Nat) : List (Nat × Nat) :=
  ((List.range 6).map fun j => ((List.range 40).map fun i => (13 * i % 40, j)).filter fun p => decide (j < mapCode map p.1)).flatten

/-- The bits of data subcarrier d, bit[d][0] first, out of a symbol's coded bits; bits that are wanting are 0 (R216). -/
def carrierBits (map : Nat) (bits : List Nat) (d : Nat) : List Nat :=
  let p := bitPlaces map
  (List.range (mapCode map d)).map fun j => bits.getD (p.findIdx fun x => x = (d, j)) 0

/-- A level of Table 7-5: a Gray code of its bits, first bit the sign. -/
def levelOfBits : List Nat → Int
  | [b] => if b = 0 then -1 else 1
  | [b, c] => (if b = 0 then -1 else 1) * (if c = 0 then 3 else 1)
  | [b, c, d] => (if b = 0 then -1 else 1) * (if c = 0 then (if d = 0 then 7 else 5) else (if d = 0 then 1 else 3))
  | _ => 0

/-- The point of a subcarrier's bits under its code (Table 7-5); code 0 carries nothing. -/
def pointOf (code : Nat) (bits : List Nat) : Point :=
  if code = 1 then { i := levelOfBits bits, q := 0, scale := 1 }
  else if code = 2 ∨ code = 4 ∨ code = 6 then
    { i := levelOfBits (bits.take (code / 2)), q := levelOfBits (bits.drop (code / 2)),
      scale := if code = 2 then 2 else if code = 4 then 10 else 42 }
  else Point.zero

/-- The values of symbol n (0 the header symbol) on the 64 subcarriers, from its coded bits under a map (R207, R212, R219). -/
def symbolPoints (map n : Nat) (bits : List Nat) : List Point :=
  subcarriers.map fun k =>
    match role k with
    | .guard | .dc => Point.zero
    | .pilot m => pilot m n
    | .data d => pointOf (mapCode map d) (carrierBits map bits d)

/-- The header symbol: QPSK on all data subcarriers (R213). -/
def headerSymbol (h : Nat) : List Point := symbolPoints defaultMap 0 (headerBits h)

/-- Payload symbol n, n from 1: the n-th run of N_CBPS coded bits, completed with 0 (R216). -/
def payloadSymbol (map rate scr n : Nat) (psdu : List Byte) : List Point :=
  let c := mapBits map
  symbolPoints map n (((codedBits rate scr psdu).drop ((n - 1) * c)).take c)

/-- A sample as a sum over the subcarriers: each value X_k with the phase by which it is turned, in 64ths of a circle. -/
abbrev Sample := List (Point × Nat)

/-- x[n] = Σ X_k · exp(j2πkn/64) of a symbol's values in the order of `subcarriers` (R208). -/
def sampleAt (points : List Point) (n : Nat) : Sample :=
  (points.zip subcarriers).map fun x => (x.1, ((x.2 * n) % 64 : Int).toNat)

/-- The 80 samples of a symbol by their index into the 64 of the transform: x[48..63], then x[0..63] (R208). -/
def cyclicOrder : List Nat := ((List.range 16).map fun i => 48 + i) ++ List.range 64

/-- A symbol as it is sent (R208). -/
def symbolSamples (points : List Point) : List Sample := cyclicOrder.map (sampleAt points)

/-- The symbols of a frame that the device sends (R209): STS1 to STS4, LTS1, LTS2, the header, the payload; `map` 0 is no map,
under which the default map counts (R225). -/
def deviceFrame (map rate scr : Nat) (psdu : List Byte) : List (List Point) :=
  let used := if map = 0 then defaultMap else map
  ((List.range 4).map fun n => subcarriers.map (shortTraining (n + 1))) ++
    List.replicate 2 (subcarriers.map longTraining) ++ [headerSymbol (deviceHeader psdu.length rate map scr)] ++
    (List.range (indigoSymbols rate (mapBits used) psdu.length)).map fun n => payloadSymbol used rate scr (n + 1) psdu

/-- The samples of an Indigo frame that a transmit engine sends in a mode (R208, R209): under the node's map with MAPSEL 1, and under the
default map with MAPSEL 0 where the node has none, and for a map frame and a frame to no node (R225, R230, R231); at the mode's rate. -/
def sentSamples (s : State) (f : TxFrame) (mode scr : Nat) : List Sample :=
  ((deviceFrame (sentMap s f) (natBits mode 2 2) scr (airOctets s f mode)).map symbolSamples).flatten

end Sys2Proof.Machine
end

