-- ==== Sys2Proof/WellFormed.lean ====
section
/-!
DEFINITION. Which commands are well formed: each number within the range of what it names (a unit's number, a register's or a
field's width, a code's range), each byte string of the length its format has.
-/

namespace Sys2Proof

open Sys2Proof.Machine

/-- The operands of a command are within the ranges of what they name. -/
def Instr.wellFormed : Instr → Bool
  | .porstNRelease _ _ _ => true
  | .porstNAssert => true
  | .vddAonLoss => true
  | .vddAonUp => true
  | .pwrPgHigh => true
  | .pwrPgTimeout => true
  | .powerRetryWaitEnd => true
  | .pwrPgFall => true
  | .pllLock _ _ _ => true
  | .refclkTimeout code => decide (code < 256)
  | .componentLoadDone _ => true
  | .configImageRead _ _ => true
  | .coldCalDone path failed _ _ _ health0 health1 => decide (path < 32) && decide (failed < 0x10000) && decide (health0 < 2 ^ 32) && decide (health1 < 2 ^ 32)
  | .warmRstNAssert => true
  | .warmRstNRelease => true
  | .resetCtrlWrite key => decide (key < 2 ^ 32)
  | .warmRestartDelayEnd => true
  | .recoveryChunk _ => true
  | .recoveryComponentDone _ => true
  | .lfclkMeasureDone _ => true
  | .lfclkAcceptTimeout => true
  | .lfclkRemeasureTimer => true
  | .lfclkEdgeLoss => true
  | .rtwDataWrite _ v => decide (v < 2 ^ 32)
  | .aonFailClear => true
  | .retentionRefresh bad => bad.all fun c => decide (c < 6)
  | .registerWrite _ off size v _ _ _ => decide (off < 2 ^ 28) && [1, 2, 4, 8].contains size && decide (v < 2 ^ 64)
  | .counterReadClear _ off size => decide (off < 2 ^ 28) && [1, 2, 4, 8].contains size
  | .synthLockAcquired path => decide (path < 32)
  | .synthLockLoss path => decide (path < 32)
  | .lockTimeout path => decide (path < 32)
  | .oosRetuneRetry path => decide (path < 32)
  | .txIntervalStart path => decide (path < 32)
  | .blankingEnd path => decide (path < 32)
  | .txLatestStartExpiry path => decide (path < 32)
  | .calYieldRequest path => decide (path < 32)
  | .devclkCheck _ => true
  | .jesdArm => true
  | .sysrefEdge _ => true
  | .jesdMultiblockRx lane _ _ => decide (lane < 8)
  | .jesdLinkAligned dir => decide (dir < 2)
  | .coeffSetIssue path _ => decide (path < 32)
  | .barrierComplete path => decide (path < 32)
  | .estimatorResult path kind chain bin _ _ _ _ _ _ => decide (path < 32) && decide (kind < 4) && decide (chain < 2) && decide (bin < 8)
  | .noiseReportTimer engine _ => decide (engine < 512)
  | .trimInterval => true
  | .oscManWrite v => decide (v < 0x10000)
  | .calCancel path => decide (path < 32)
  | .calImage path _ => decide (path < 32)
  | .calAnalogFilter path _ => decide (path < 32)
  | .calAnalogDc path _ => decide (path < 32)
  | .calTxIqLo path _ => decide (path < 32)
  | .calFull path _ => decide (path < 32)
  | .calSelfTest path _ => decide (path < 32)
  | .slicedCalUnit path _ _ _ _ stFail _ => decide (path < 32) && decide (stFail < 16)
  | .exclusiveCalStart path => decide (path < 32)
  | .exclusiveCalDone path failed _ _ _ health0 health1 stFail => decide (path < 32) && decide (failed < 0x10000) && decide (health0 < 2 ^ 32) && decide (health1 < 2 ^ 32) && decide
    (stFail < 16)
  | .calRequestTimeout path => decide (path < 32)
  | .assignmentRecord engine => decide (engine < 512)
  | .preambleDetect engine rhoA rhoB _ => decide (engine < 512) && decide (rhoA ≤ 65536) && decide (rhoB ≤ 65536)
  | .falseDetection engine => decide (engine < 512)
  | .falseDetSecond cluster => decide (cluster < 4)
  | .antennaDecision engine _ _ => decide (engine < 512)
  | .sfdDetect engine time _ => decide (engine < 512) && decide (time < 2 ^ 64)
  | .phrDecode engine header len _ _ _ _ mcs =>
    decide (engine < 512) && decide (header < 2 ^ 40) && decide (len < 0x1000) && decide (mcs < 16)
  | .frameEnd engine psdu _ _ _ _ _ snrs _ _ => decide (engine < 512) && decide (psdu.length ≤ 2047) && decide (snrs.length ≤ 40)
  | .rxqWaitTimeout engine => decide (engine < 512)
  | .txWorkItem te _ => decide (te < 128)
  | .txFrameEnd te => decide (te < 128)
  | .mapTrailer => true
  | .staleIndigoReport cluster => decide (cluster < 4)
  | .mapHoldExpiry node => decide (node < 2 ^ 20)
  | .imapRateChange node rate => decide (node < 2 ^ 20) && decide (rate < 4)
  | .imapClear node => decide (node < 2 ^ 20)
  | .imapResend node => decide (node < 2 ^ 20)
  | .slotBoundary => true
  | .receivedFrame cluster _ => decide (cluster < 4)
  | .replyWindowEnd node => decide (node < 2 ^ 20)
  | .nodeAckWindowEnd node => decide (node < 2 ^ 20)
  | .joinRequest cluster => decide (cluster < 4)
  | .driftObservation => true
  | .modelAgeExpiry node => decide (node < 2 ^ 20)
  | .wakeSetTarget node k => decide (node < 2 ^ 20) && decide (k < 16)
  | .wakeResetModel node => decide (node < 2 ^ 20)
  | .peerBeaconRx cluster => decide (cluster < 4)
  | .trackSlotframeMiss => true
  | .ehtLookup _ way flip => decide (way < 4) && decide (flip < 2 ^ 96)
  | .ehtInsert _ index => decide (index < 2 ^ 20)
  | .ehtDelete _ => true
  | .ehtRebuildDone => true
  | .heardByUpdate cluster node path ant _ flip =>
    decide (cluster < 4) && decide (node < 2 ^ 20) && decide (path < 32) && decide (ant < 2) && decide (flip < 0x10000)
  | .hbTick => true
  | .nodeMinuteSweep => true
  | .infraEntryWrite _ entry v => decide (entry < 0x4000) && decide (v < 2 ^ 32)
  | .infraComparePass entry flip => decide (entry < 0x4000) && decide (flip < 2 ^ 32)
  | .bar2Read off _ => decide (off < 2 ^ 26)
  | .snapshotExport => true
  | .snapshotExportDone _ _ => true
  | .snapshotRestore _ descriptor => decide (descriptor.length = 64)
  | .restoreReadDone _ _ _ => true
  | .snapshotAbort => true
  | .ncsRead _ index => decide (index < 2 ^ 20)
  | .ncsMaskedWrite _ index => decide (index < 2 ^ 20)
  | .ncsZeroLine _ index => decide (index < 2 ^ 20)
  | .ncsBulkClear _ => true
  | .bulkClearDone => true
  | .hbRead _ cluster index => decide (cluster < 4) && decide (index < 2 ^ 20)
  | .hbInvalidate _ cluster index => decide (cluster < 4) && decide (index < 2 ^ 20)
  | .scheduleEpochSwitch => true
  | .pathSchedWrite path _ => decide (path < 32)
  | .depthSample => true
  | .queueItemWrite queue lane words _ tag _ =>
    decide (queue < 32) && decide (lane < 8) && decide (words < 2048) && decide (tag < 2 ^ 32)
  | .queueRoomAvailable queue => decide (queue < 32)
  | .queueItemRead queue => decide (queue < 32)
  | .queuePointerMismatch queue _ held => decide (queue < 32) && decide (held < 2048)
  | .queueResetDone queue => decide (queue < 32)
  | .queueTestForce queue held => decide (queue < 32) && decide (held < 2048)
  | .pcieReset _ => true
  | .pcieResetRelease => true
  | .pcieLinkChange _ width rate => decide (width < 17) && decide (rate < 5)
  | .unsupportedRequest => true
  | .eventGenerate code data => decide (code < 0x10000) && decide (data.length = 16)
  | .eventRecordWrite ring => decide (ring < 16)
  | .eventWriteback ring => decide (ring < 16)
  | .msixMessage index => decide (index < 24)
  | .evrCtrlWrite ring v => decide (ring < 16) && decide (v < 2 ^ 32)
  | .evrBaseWrite ring part v => decide (ring < 16) && decide (part < 4) && decide (v < 2 ^ 32)
  | .evrConsWrite ring v => decide (ring < 16) && decide (v < 2 ^ 32)
  | .hqCtrlWrite hq v => decide (hq < 8) && decide (v < 2 ^ 32)
  | .hqTailWrite hq v => decide (hq < 8) && decide (v < 2 ^ 32)
  | .hostTxDescriptor hq desc _ _ => decide (hq < 8) && decide (desc.length = 32)
  | .ethIngressFrame port _ _ latch _ => decide (port < 2) && decide (latch < 2 ^ 64)
  | .ethPortLinkUp port => decide (port < 2)
  | .ethPortLinkDown port cause => decide (port < 2) && decide (cause < 3)
  | .preemptVerifyTimeout port => decide (port < 2)
  | .reassemblyTimeout node tag size => decide (node < 2 ^ 20) && decide (tag < 0x10000) && decide (size < 2048)
  | .tbIncCommit _ v => decide (v < 2 ^ 32)
  | .tbStepCommit _ v => decide (v < 2 ^ 32)
  | .tbServoWrite _ v => decide (v < 2 ^ 32)
  | .tbNsLoRead _ => true
  | .asnLoRead _ => true
  | .tsInputEdge tsi _ width time => decide (tsi < 2) && decide (width < 0x10000) && decide (time < 2 ^ 64)
  | .tsoCtrlWrite tso v => decide (tso < 4) && decide (v < 2 ^ 32)
  | .tsoTargetCommit tso v => decide (tso < 4) && decide (v < 2 ^ 32)
  | .tsoTargetReached tso => decide (tso < 4)
  | .tsoPulseEnd tso => decide (tso < 4)
  | .timeErrSecond => true
  | .ratioMeasureDone _ _ => true
  | .gtMatch gt => decide (gt < 32)
  | .gtWrap gt => decide (gt < 32)
  | .gtCapture gt _ => decide (gt < 32)
  | .gtRegisterApply gt => decide (gt < 32)
  | .gtCntLoRead _ gt => decide (gt < 32)
  | .cpuWdogWarn core => decide (core < 4)
  | .cpuWdogExpiry core => decide (core < 4)
  | .appAccessFault kind addr _ => decide (kind < 3) && decide (addr < 2 ^ 32)
  | .appDoubleFault => true
  | .appHold _ => true
  | .appRelease _ => true
  | .appReloadDone _ => true
  | .appWdogKick _ v => decide (v < 2 ^ 32)
  | .appWdogHalf => true
  | .appWdogExpiry => true
  | .mbTxPush _ => true
  | .mbRxPop => true
  | .mbEcho => true
  | .mbEventSubscription => true
  | .mbNodeLineRead => true
  | .mbTimebase => true
  | .gpioSetWrite v => decide (v < 2 ^ 32)
  | .gpioClrWrite v => decide (v < 2 ^ 32)
  | .gpioInputChange n _ => decide (n < 32)
  | .aicSourceRequest src _ => decide (src < 256)
  | .aicClaimRead _ => true
  | .aicEoiWrite _ src => decide (src < 1024)
  | .aicGdisWrite v => decide (v < 2 ^ 32)
  | .aicSwiWrite v => decide (v < 2 ^ 32)
  | .aicEnWrite _ k v => decide (k < 8) && decide (v < 2 ^ 32)
  | .keyDerivationDone _ => true
  | .secAttest _ => true
  | .secSelftestAll _ _ => true
  | .secSelftestKind _ kind _ => decide (kind < 16)
  | .installEpoch _ => true
  | .raiseDistrictGeneration _ => true
  | .revokeDistrict _ => true
  | .revokeEpoch _ => true
  | .zeroize _ => true
  | .programOwnerHash _ => true
  | .revokeOwnerSlot _ => true
  | .debugToken _ => true
  | .jtagDebugRequest port => decide (port < 4)
  | .selftestPeriod _ => true
  | .drbgReseed engine _ => decide (engine < 2)
  | .lineCheckFail _ line column _ _ _ _ _ => decide (line < 2 ^ 20) && decide (column < 512)
  | .peerLineArrival line bytes _ _ => decide (line < 2 ^ 20) && decide (bytes.length = 64)
  | .flashRecomputeDone line _ _ => decide (line < 2 ^ 20)
  | .scrubRead _ _ => true
  | .miScrubNow _ => true
  | .miApplyRepairs _ => true
  | .miFlipWrite _ v => decide (v < 2 ^ 32)
  | .frameBufferSweep => true
  | .claimAssert _ => true
  | .peerClaimChange _ => true
  | .claimKeeperExpiry _ => true
  | .pairKeepWrite _ => true
  | .hjLinkFrameRx seq _ _ _ => decide (seq < 0x10000)
  | .hjRetryTimeout seq => decide (seq < 0x10000)
  | .hjIdleTimeout => true
  | .hjControlTimer => true
  | .hjTrainingDone lanes inversions peerId _ _ ncsLog slotLen sfCode ifv _ =>
    decide (lanes < 8) && decide (inversions < 16) && decide (peerId < 2) && decide (ncsLog < 32) && decide (slotLen < 128)
    && decide (sfCode < 0x1000) && decide (ifv < 256)
  | .hjRetrainTimer => true
  | .hjTimeExchange sent peerGot peerSent got =>
    decide (sent < 2 ^ 64) && decide (peerGot < 2 ^ 64) && decide (peerSent < 2 ^ 64) && decide (got < 2 ^ 64)
  | .mirrorNcsChange node mask bytes => decide (node < 2 ^ 20) && decide (mask < 2 ^ 64) && decide (bytes.length = 64)
  | .mirrorReservation node _ block => decide (node < 2 ^ 20) && decide (block < 2 ^ 32)
  | .mirrorCrimsonEnqueue _ => true
  | .mirrorCrimsonDequeue ident => decide (ident < 2 ^ 64)
  | .mirrorTreeState op _ => decide (op < 8)
  | .mirrorScheduleEpoch number asn _ => decide (number < 0x10000) && decide (asn < 2 ^ 40)
  | .mirrorBulkClear requester => decide (requester < 4)
  | .mirrorControl kind role _ _ asn nodeMin =>
    decide (kind < 3) && decide (role < 4) && decide (asn < 2 ^ 40) && decide (nodeMin < 0x10000)
  | .peerFetchRequest line => decide (line < 2 ^ 20)
  | .resyncLineRx line bytes => decide (line < 2 ^ 20) && decide (bytes.length = 64)
  | .resyncPassEnd _ _ => true
  | .pairPlannedSwitchover => true
  | .pairRestartResync => true
  | .pairHold => true
  | .pairResume => true
  | .switchoverBoundary => true
  | .handoverAck => true
  | .switchoverRewriteDone => true
  | .switchoverReclaimTimer => true
  | .updStage _ comp => decide (comp < 8)
  | .stageWriteDone _ => true
  | .updActivate _ _ => true
  | .updReject _ => true
  | .updAbort _ => true
  | .updBootLoad _ comp => decide (comp < 8)
  | .updActivateAtRestart _ => true
  | .coreHandoverDone core => decide (core < 4)
  | .coreHandoverTimeout core => decide (core < 4)
  | .handoverComplete _ => true
  | .configLiveApply => true
  | .updConfirmWrite _ key comp => decide (key < 2 ^ 24) && decide (comp < 8)
  | .probationExpiry => true
  | .updCfgseqLoRead _ => true
  | .pwrLevelWrite _ v => decide (v < 2 ^ 32)
  | .plClockSwitchTimer => true
  | .plChangeDone => true
  | .tempSample _ => true
  | .throttleReleaseTimer => true
  | .paleEnter => true
  | .paleExit _ _ => true
  | .pwrCmdSepia _ key => decide (key < 0x10000)
  | .pwrCmdUmber _ key => decide (key < 0x10000)
  | .sepiaEntry => true
  | .umberEntry => true
  | .wakeSource src => decide (src < 8)
  | .sleepTimerExpiry => true
  | .sepiaExitReady _ => true
  | .busMasterEnableChange _ => true
  | .msixVectorUnmask vector => decide (vector < 64)
  | .preemptVerifyResponse port => decide (port < 2)
  | .ethEgressFrameDone port latch => decide (port < 2) && decide (latch < 2 ^ 64)
  | .controlCoreRestartDone core => decide (core < 4)

end Sys2Proof
end

