-- ==== Sys2Proof/Tests/Slice0.lean ====
section
/-!
SUPPORT. Tests: an ill-formed term for each check of WellFormed.lean, single steps against values that the spec prints or that follow
from its rules by hand, and, for each statement with hypotheses, states and operands that meet them together, clause by clause.
-/

namespace Sys2Proof.Tests

open Sys2Proof Sys2Proof.Machine

set_option Elab.async false

/-! ## Small states -/

def noDesc : RegDesc := { name := "", off := 0, dims := [], banked := false, fields := [] }
def runs (p : Part) : State :=
  ({ State.reset with part := p }.putBoot { BootState.cold with phase := .running, committed := true }).set R.BOOT_STATUS_PHASE 4
def runsA : State := runs .nz5120a
def ent (place : Nat) (st : Nat) (act : Bool) : SlotEntry := { place := place, comp := place / 2, slot := place % 2, state := st, active := act, offset := 0x100000 + place * 0x10000, size := 0x10000, length := 256, erases := 0, stamp := 0 }
def withEnts (s : State) (l : List SlotEntry) : State := (s.putFlash (l.foldl (fun f e => flashProgram f (32 + 32 * e.place) (slotBytes e)) s.flash)).putBoot { s.boot with page := some 0 }
def withDir (s : State) : State := withEnts s [ent 4 1 true, ent 5 1 false]
def dirA : State := withDir runsA
def at_ (s : State) (p : Phase) : State := s.putBoot { s.boot with phase := p }
def r0 : State := State.reset
def booting : State := at_ r0 .boot
def recFrame (ty : Nat) (p : List Byte) : List Byte := recoveryFrame ty p
def pairRole (s : State) (role : Nat) : State := s.set R.PAIR_STATUS_ROLE role
def trx (s : State) (n : Nat) : State := s.set (R.TRX_CTRL_ENABLE n) 1
def cold1 (s : State) (n : Nat) : State := (trx s n).set (R.CAL_STATUS_COLD n) 1
def work0 (h n : Nat) : WorkItem := { handle := h, path := n, mode := 0, offset := 0, planned := 100000, latest := 200000, index := 0, analog := 3, atten := 0, antenna := 1, preamble := 8, first := 100000 }
def loaded : State := ((runsA.setTe 0 { TeState.idle with item := some (work0 7 2) }).set (R.TE_STATE_STATE 0) teLoaded).set (R.PATH_LIMITS_MAX_TE 2) 4
def txReady : State := ((trx loaded 2).set R.PAIR_STATUS_CLAIM_OUT 1)
def jesdOn : State := ((runsA.set R.JESD_CTRL_RX_EN 1).set R.JESD_CTRL_TX_EN 1).set R.JESD_RATE_DEVCLK_KHZ 50000
def withReq (s : State) (n : Nat) (r : CalRequest) : State := s.setPath n { s.path n with request := some r, idleSlots := 200 }
def ce0 (s : State) (e st : Nat) : State := (s.set (R.CE_CFG_EN e) 1).set (R.CE_STATE_STATE e) st
def asg (n act : Nat) : Assignment := { path := n, mode := 0, bw := 8, ant := 0, hintB := 0, precV := 0, precorr := 0, expV := 0, expT := 0, offset := 0, epoch := 0, active := act }
def tframe (d : Option Nat) : TxFrame := { kind := .data [] [1#8], dest := d, final := 0, cls := 1, len := 20, counter := none, epochSlot := 0, gen := 0, finish := 0, issued := false, sends := 0, lastSlot := none, cells := 0, stampIn := none, stampReady := none, poisoned := false, ident := 0, seq := 0, more := false }
def lineV (mode : Nat) : Line := lineSet (lineSet 0#512 N.VALID 1) N.MODE mode
def withNode (s : State) (n : Nat) (l : Line) : State := s.putFwd { s.fwd with ncs := cellsWrite zeroCell s.fwd.ncs n l }
def claimed (s : State) : State := s.set R.PAIR_STATUS_CLAIM_OUT 1
def indN : State := withNode runsA 5 (lineV 0xC0)
def mapE (st : MapStatus) : MapEntry := { status := st, frames := 0, sums := [], map := 0, rate := 0, msn := 0, tries := 1, sentAt := none, since := 0 }
def withMap (s : State) (n : Nat) (e : MapEntry) : State := s.putImap { s.imap with entries := assocSet s.imap.entries n e }
def slotState : State := ((((claimed (withNode runsA 5 (lineV 0x40))).set R.BOOT_STATUS_PHASE 5).set R.PSM_CTRL_EN 1).putTb { runsA.tb with running := true }).set R.PSM_STATUS_RUN 1
def exch : Exchange := { asn := 0, path := 0, antenna := 0, sent := false, replied := false, copy := none, copies := [], answered := false, unionOnly := false, pending := false, guard := 100, lag := 0, freq := 0, closed := false, follow := none, more := false, ackDue := none, record := asg 0 1 }
def withEx (s : State) (n : Nat) (e : Exchange) : State := s.putPsm { s.psm with exchanges := assocSet s.psm.exchanges n e }
def rxf : RxFrame := { path := 0, ant := 0, asn := 0, mode := 0x40, lqi := 0, time := 0, rssi := 0, snr := 0, carrier := 0, timing := 0, expected := none, psdu := [], mac := { type := 1, pending := false, ar := false, ie := false, seq := 0, dest := .none, source := .short 0 5, level := 0, counter := 0, body := [] }, trailer := [], decoded := 0, began := 0, ended := 0 }
def pkt : QueueItem := { words := 2, poison := [], tag := 0, data := [] }
def fw : State := claimed (withNode runsA 5 (lineSet (lineV 0x40) N.EUI 77))
def withEht (s : State) (k : Nat) (e : BitVec 96) : State := s.setEht k e
def withEui (s : State) (bank eui : Nat) : State := s.set (R.EHT_EUI_LO_EUI bank) eui
def eh77 : State := let s := withEui (withEui fw 2 77) 0 77; ehtPut s (ehtBucket s 77) (4 * ehtBucket s 77) 77 5
def snapJob (s : State) (j : StoreJob) : State := s.putFwd { s.fwd with snap := { s.fwd.snap with job := j } }
def descr : List Byte := let b := toLE 4 0x4E5A534E ++ toLE 2 1 ++ toLE 1 (ncsLog2 .nz5120a) ++ [0#8] ++ toLE 8 9 ++ toLE 8 9 ++ toLE 2 3 ++ toLE 2 0 ++ toLE 4 1 ++ List.replicate 28 0#8; b ++ toLE 4 (crc32c b)
def ringOn (s : State) (r : Nat) : State := ((s.set (R.EVR_CTRL_EN r) 1).set (R.EVR_CTRL_LOG2SZ r) 6).putPcie { s.pcie with bme := true }
def evrec : EventRecord := { source := 3, type := 1, seq := 0, pl := 0, tbEpoch := 0, coalesced := 0, loss := false, first := true, time := 0, payload := List.replicate 16 0#8 }
def hqOn (s : State) (r : Nat) : State := (((s.set (R.HQ_CTRL_EN r) 1).set (R.HQ_CTRL_LOG2SZ r) 4).set (R.HQ_TAIL_INDEX r) 3).putPcie { s.pcie with bme := true }
def fwdAll (s : State) : State := s.putApp { s.app with forward := 2 ^ 32 - 1 }
def ethOn (s : State) (e : Nat) : State := ((s.set (R.ETH_CTRL_EN e) 1).set (R.ETH_STATUS_LINK e) 1).set (R.ETH_CTRL_PREEMPT e) 1
def ethVer (s : State) (e a : Nat) : State := setEthPort (ethOn s e) e { EthPortState.idle with verifying := true, attempts := a }
def ethFrame (c : Nat) (w : Bool) : EgressFrame := { cls := c, data := List.replicate 60 1#8, stampWanted := w, poisoned := false, stampReady := none }
def ethSend (s : State) (e : Nat) : State := setEthPort ((ethOn s e).putEth { s.eth with frames := [(4, ethFrame 2 true), (5, ethFrame 1 false)] }) e { EthPortState.idle with sending := some 4 }
def tbOn (s : State) : State := s.putTb { s.tb with running := true }
def gtOn (s : State) (n : Nat) : State := s.set (R.GT_CFG_EN n) 1
def appOn (s : State) : State := s.set R.APP_STAT_STATE appRuns
def appImg : ImageInForce := { slot := 2, image := List.replicate 160 0#8 ++ toLE 4 0x100 ++ List.replicate 92 0#8, hash := 0 }
def withApp (s : State) : State := s.putBoot { s.boot with images := [(4, appImg)] }
def wdOn (s : State) : State := (appOn s).set R.WDOG_CFG_EN 1
def mail (svc n : Nat) (pl : List Byte) : QueueItem := { words := 1, poison := [], tag := 0, data := (toLE 2 svc ++ toLE 2 9 ++ toLE 2 n ++ [0#8, 0#8] ++ pl ++ List.replicate 24 0#8).take 32 }
def withMail (s : State) (i : QueueItem) : State := s.setQueue mba { QueueState.idle with lanes := [(0, [i])] }
def sigFor (op : Nat) (args : List (Nat × Nat)) (s : State) (bank : Nat) : State :=
  args.foldl (fun t a => t.set (R.SEC_SIGBUF_DATA a.1 bank) a.2) ((s.set (R.SEC_SIGBUF_DATA 0 bank) 0x4E5A5343).set (R.SEC_SIGBUF_DATA 1 bank) op)
def epoch1 : EpochSlot := { epoch := 3, status := .active, actAsn := 0, districts := [], order := 0 }
def epoch2 : EpochSlot := { epoch := 4, status := .pending, actAsn := 9, districts := [(2, 5#8)], order := 1 }
def withTree (s : State) : State := s.putTree { s.tree with slots := [(0, epoch1), (1, epoch2)] }
def engOk (s : State) : State := s.setWord R.SEC_ENG (BitVec.ofNat 32 (2 ^ 14 - 1))
def linkPeer (s : State) (mine peer : Nat) : State := (((s.set R.HJ_STATUS_UP 1).set R.HJ_STATUS_PEER_ROLE peer).set R.PAIR_STATUS_SYNC 1).set R.PAIR_STATUS_ROLE mine
def recov (m : LineMem) (l : Nat) (w : RecoveryWait) : Recovery := { mem := m, line := l, column := 7, wait := w, flipped := false }
def withRec (s : State) (r : Recovery) : State := s.putMi { s.mi with recoveries := [r] }
def paired (s : State) (mine peer : Nat) : State := linkPeer (s.set R.PAIR_CFG_EN 1) mine peer
def claimReady : State := ((runsA.set R.BOOT_STATUS_PHASE 5).putPair { runsA.pair with kept := true, step8 := true }).set R.PAIR_STATUS_ROLE 3
def swo (ph : SwitchPhase) (out : Bool) : Switchover := { phase := ph, outgoing := out, kind := 0, cause := 2, boundary := 5, started := 0, released := 0, firstBlock := 0 }
def withSwo (s : State) (w : Switchover) : State := (s.putPair { s.pair with switchover := some w }).set R.PAIR_STATUS_SWO 1
def hjf (sends : Nat) : HjFrame := { seq := 4, sends := sends, records := [.release] }
def follower : State := paired (withNode runsA 5 (lineV 0x40)) 1 0
def upd (s : State) (st comp : Nat) : State := (s.set R.UPD_STATUS_STATE st).set R.UPD_STATUS_COMP comp
def probat : Probation := { comp := 2, slot := 0, started := 0, ends := 900000000000 }
def sleepOk (s : State) : State := s.set R.PWR_SLEEP_TMR 1
def slReq (u : Bool) : SleepRequest := { umber := u, accepted := 0, boundary := 5000000 }
def pwrReq (s : State) (u : Bool) : State := (sleepOk (fwdAll s)).putPwr { s.pwr with request := some (slReq u) }
def rxItem (mode flags : Nat) (psdu trailer : List Byte) (expects : Option Nat) : QueueItem := { words := 3, poison := [], tag := 0, data := toLE 2 (if psdu.isEmpty then 0 else psdu.length + (if natBit flags 4 then 4 else 2)) ++ toLE 1 mode ++ toLE 1 flags ++ List.replicate 28 0#8 ++ psdu ++ trailer, expects := expects }
def withRx (s : State) (c : Nat) (i : QueueItem) : State := s.setQueue c { QueueState.idle with lanes := [(0, [i])] }
def headOr (s : State) (c : Nat) (k : RxKind) : RxFrame := (headFrame s c k).getD rxf
def staleT : List Byte := List.replicate 20 0#8 ++ [0x40#8, 0#8, 0#8, 0#8]
def staleN : State := withRx indN 0 (rxItem 0xC0 8 [] staleT (some 5))
def staleU : State := withRx indN 0 (rxItem 0xC0 0 [] staleT none)
def euiFrame (type : Nat) (ies : List Byte) : List Byte := frameControl type false false true true 0 3 ++ [9#8] ++ (AirAddress.eui 0xABC7 77).octets ++ ht1 ++ ies ++ payloadEnd
def joinSt (pan : Nat) : State := withRx ((((slotState.set (R.JOIN_SLOT_EN 1) 1).set (R.JOIN_SLOT_SLOT 1) 0).set R.PSM_CTRL_PAN_BASE pan)) 1 (rxItem 0 0 (euiFrame typeData (psmIe (subIe 0x09 [1#8, 0#8]))) [] none)
def trackSt (asn : Nat) : State := let u := (((slotState.set R.TRACK_CFG_EN 1).set R.TRACK_STATUS_STATE 1).set R.TRACK_CFG_SLOT 0).set R.TRACK_WIN_W_MAX 20000; withRx ((((u.set R.TRACK_EUI_LO_EUI 77).set R.TRACK_CFG_MODE 0))) 1 (rxItem 0 0 (euiFrame typeBeacon (tschIe asn ++ psmIe (subIe 0x02 (List.replicate 3 0#8 ++ toLE 2 2)))) [] none)
def sigBusy (s : State) : State := s.putSec { s.sec with command := some (.app, []) }
def staleTile (s : State) : State := s.putMi { s.mi with tiles := cellsWrite zeroCell s.mi.tiles 0 1#32 }


/-! ## Well-formedness: a term that fails each check, and terms that pass them -/

theorem test_wf_refuses_1 : (([
    .refclkTimeout 256, .coldCalDone 32 0 [] [] [] 0 0, .coldCalDone 0 0x10000 [] [] [] 0 0, .coldCalDone 0 0 [] [] [] (2 ^ 32) 0,
    .coldCalDone 0 0 [] [] [] 0 (2 ^ 32), .resetCtrlWrite (2 ^ 32), .rtwDataWrite .app (2 ^ 32), .retentionRefresh [6],
    .registerWrite .app (2 ^ 28) 4 0 false [] [], .registerWrite .app 0 3 0 false [] [], .registerWrite .app 0 4 (2 ^ 64) false [] [],
    .counterReadClear .app (2 ^ 28) 4, .counterReadClear .app 0 3, .synthLockAcquired 32, .synthLockLoss 32, .lockTimeout 32,
    .oosRetuneRetry 32, .txIntervalStart 32, .blankingEnd 32, .txLatestStartExpiry 32, .calYieldRequest 32,
    .jesdMultiblockRx 8 false false, .jesdLinkAligned 2, .coeffSetIssue 32 [], .barrierComplete 32,
    .estimatorResult 32 0 0 0 0 0 0 0 0 0, .estimatorResult 0 4 0 0 0 0 0 0 0 0, .estimatorResult 0 0 2 0 0 0 0 0 0 0,
    .estimatorResult 0 0 0 8 0 0 0 0 0 0, .noiseReportTimer 512 [], .oscManWrite 0x10000, .calCancel 32, .calImage 32 false,
    .calAnalogFilter 32 false, .calAnalogDc 32 false, .calTxIqLo 32 false, .calFull 32 false, .calSelfTest 32 false,
    .slicedCalUnit 32 false [] [] [] 0 0, .slicedCalUnit 0 false [] [] [] 16 0] : List Instr).all fun i => !i.wellFormed) = true := by decide +kernel

theorem test_wf_refuses_2 : (([
    .exclusiveCalStart 32, .exclusiveCalDone 32 0 [] [] [] 0 0 0, .exclusiveCalDone 0 0x10000 [] [] [] 0 0 0,
    .exclusiveCalDone 0 0 [] [] [] (2 ^ 32) 0 0, .exclusiveCalDone 0 0 [] [] [] 0 (2 ^ 32) 0, .exclusiveCalDone 0 0 [] [] [] 0 0 16,
    .calRequestTimeout 32, .assignmentRecord 512, .preambleDetect 512 0 0 0, .preambleDetect 0 65537 0 0, .preambleDetect 0 0 65537 0,
    .falseDetection 512, .falseDetSecond 4, .antennaDecision 512 0 0, .sfdDetect 512 0 0, .sfdDetect 0 (2 ^ 64) 0,
    .phrDecode 512 0 0 false false false false 0, .phrDecode 0 (2 ^ 40) 0 false false false false 0,
    .phrDecode 0 0 0x1000 false false false false 0, .phrDecode 0 0 0 false false false false 16,
    .frameEnd 512 [] false false 0 0 0 [] 0 [], .frameEnd 0 (List.replicate 2048 0#8) false false 0 0 0 [] 0 [],
    .frameEnd 0 [] false false 0 0 0 (List.replicate 41 0) 0 [], .rxqWaitTimeout 512, .txWorkItem 128 0, .txFrameEnd 128,
    .staleIndigoReport 4, .mapHoldExpiry (2 ^ 20), .imapRateChange (2 ^ 20) 0, .imapRateChange 0 4, .imapClear (2 ^ 20),
    .imapResend (2 ^ 20), .receivedFrame 4 false, .replyWindowEnd (2 ^ 20), .nodeAckWindowEnd (2 ^ 20), .joinRequest 4,
    .modelAgeExpiry (2 ^ 20), .wakeSetTarget (2 ^ 20) 0, .wakeSetTarget 0 16, .wakeResetModel (2 ^ 20)] : List Instr).all fun i => !i.wellFormed) = true := by decide +kernel

theorem test_wf_refuses_3 : (([
    .peerBeaconRx 4, .ehtLookup .app 4 0, .ehtLookup .app 0 (2 ^ 96), .ehtInsert .app (2 ^ 20), .heardByUpdate 4 0 0 0 0 0,
    .heardByUpdate 0 (2 ^ 20) 0 0 0 0, .heardByUpdate 0 0 32 0 0 0, .heardByUpdate 0 0 0 2 0 0, .heardByUpdate 0 0 0 0 0 0x10000,
    .infraEntryWrite .app 0x4000 0, .infraEntryWrite .app 0 (2 ^ 32), .infraComparePass 0x4000 0, .infraComparePass 0 (2 ^ 32),
    .bar2Read (2 ^ 26) 0, .snapshotRestore false (List.replicate 65 0#8), .ncsRead .app (2 ^ 20), .ncsMaskedWrite .app (2 ^ 20),
    .ncsZeroLine .app (2 ^ 20), .hbRead .app 4 0, .hbRead .app 0 (2 ^ 20), .hbInvalidate .app 4 0, .hbInvalidate .app 0 (2 ^ 20),
    .pathSchedWrite 32 false, .queueItemWrite 32 0 0 [] 0 [], .queueItemWrite 0 8 0 [] 0 [], .queueItemWrite 0 0 2048 [] 0 [],
    .queueItemWrite 0 0 0 [] (2 ^ 32) [], .queueRoomAvailable 32, .queueItemRead 32, .queuePointerMismatch 32 false 0,
    .queuePointerMismatch 0 false 2048, .queueResetDone 32, .queueTestForce 32 0, .queueTestForce 0 2048, .pcieLinkChange false 17 0,
    .pcieLinkChange false 0 5, .eventGenerate 0x10000 (List.replicate 16 0#8), .eventGenerate 0 (List.replicate 17 0#8),
    .eventRecordWrite 16, .eventWriteback 16] : List Instr).all fun i => !i.wellFormed) = true := by decide +kernel

theorem test_wf_refuses_4 : (([
    .msixMessage 24, .evrCtrlWrite 16 0, .evrCtrlWrite 0 (2 ^ 32), .evrBaseWrite 16 0 0, .evrBaseWrite 0 4 0,
    .evrBaseWrite 0 0 (2 ^ 32), .evrConsWrite 16 0, .evrConsWrite 0 (2 ^ 32), .hqCtrlWrite 8 0, .hqCtrlWrite 0 (2 ^ 32),
    .hqTailWrite 8 0, .hqTailWrite 0 (2 ^ 32), .hostTxDescriptor 8 (List.replicate 32 0#8) [] false,
    .hostTxDescriptor 0 (List.replicate 33 0#8) [] false, .ethIngressFrame 2 [] false 0 0, .ethIngressFrame 0 [] false (2 ^ 64) 0,
    .ethPortLinkUp 2, .ethPortLinkDown 2 0, .ethPortLinkDown 0 3, .preemptVerifyTimeout 2, .reassemblyTimeout (2 ^ 20) 0 0,
    .reassemblyTimeout 0 0x10000 0, .reassemblyTimeout 0 0 2048, .tbIncCommit .app (2 ^ 32), .tbStepCommit .app (2 ^ 32),
    .tbServoWrite .app (2 ^ 32), .tsInputEdge 2 false 0 0, .tsInputEdge 0 false 0x10000 0, .tsInputEdge 0 false 0 (2 ^ 64),
    .tsoCtrlWrite 4 0, .tsoCtrlWrite 0 (2 ^ 32), .tsoTargetCommit 4 0, .tsoTargetCommit 0 (2 ^ 32), .tsoTargetReached 4, .tsoPulseEnd 4,
    .gtMatch 32, .gtWrap 32, .gtCapture 32 false, .gtRegisterApply 32, .gtCntLoRead .app 32] : List Instr).all fun i => !i.wellFormed) = true := by decide +kernel

theorem test_wf_refuses_5 : (([
    .cpuWdogWarn 4, .cpuWdogExpiry 4, .appAccessFault 3 0 false, .appAccessFault 0 (2 ^ 32) false, .appWdogKick .app (2 ^ 32),
    .gpioSetWrite (2 ^ 32), .gpioClrWrite (2 ^ 32), .gpioInputChange 32 false, .aicSourceRequest 256 false, .aicEoiWrite .app 1024,
    .aicGdisWrite (2 ^ 32), .aicSwiWrite (2 ^ 32), .aicEnWrite .app 8 0, .aicEnWrite .app 0 (2 ^ 32), .secSelftestKind .app 16 [],
    .jtagDebugRequest 4, .drbgReseed 2 false, .lineCheckFail .ncs (2 ^ 20) 0 false false false none none,
    .lineCheckFail .ncs 0 512 false false false none none, .peerLineArrival (2 ^ 20) (List.replicate 64 0#8) false false,
    .peerLineArrival 0 (List.replicate 65 0#8) false false, .flashRecomputeDone (2 ^ 20) false false, .miFlipWrite .app (2 ^ 32),
    .hjLinkFrameRx 0x10000 false [] [], .hjRetryTimeout 0x10000, .hjTrainingDone 8 0 0 [] [] 0 0 0 0 [],
    .hjTrainingDone 0 16 0 [] [] 0 0 0 0 [], .hjTrainingDone 0 0 2 [] [] 0 0 0 0 [], .hjTrainingDone 0 0 0 [] [] 32 0 0 0 [],
    .hjTrainingDone 0 0 0 [] [] 0 128 0 0 [], .hjTrainingDone 0 0 0 [] [] 0 0 0x1000 0 [], .hjTrainingDone 0 0 0 [] [] 0 0 0 256 [],
    .hjTimeExchange (2 ^ 64) 0 0 0, .hjTimeExchange 0 (2 ^ 64) 0 0, .hjTimeExchange 0 0 (2 ^ 64) 0, .hjTimeExchange 0 0 0 (2 ^ 64),
    .mirrorNcsChange (2 ^ 20) 0 (List.replicate 64 0#8), .mirrorNcsChange 0 (2 ^ 64) (List.replicate 64 0#8),
    .mirrorNcsChange 0 0 (List.replicate 65 0#8), .mirrorReservation (2 ^ 20) false 0] : List Instr).all fun i => !i.wellFormed) = true := by decide +kernel

theorem test_wf_refuses_6 : (([
    .mirrorReservation 0 false (2 ^ 32), .mirrorCrimsonDequeue (2 ^ 64), .mirrorTreeState 8 [], .mirrorScheduleEpoch 0x10000 0 [],
    .mirrorScheduleEpoch 0 (2 ^ 40) [], .mirrorBulkClear 4, .mirrorControl 3 0 false false 0 0, .mirrorControl 0 4 false false 0 0,
    .mirrorControl 0 0 false false (2 ^ 40) 0, .mirrorControl 0 0 false false 0 0x10000, .peerFetchRequest (2 ^ 20),
    .resyncLineRx (2 ^ 20) (List.replicate 64 0#8), .resyncLineRx 0 (List.replicate 65 0#8), .updStage .app 8, .updBootLoad .app 8,
    .coreHandoverDone 4, .coreHandoverTimeout 4, .updConfirmWrite .app (2 ^ 24) 0, .updConfirmWrite .app 0 8,
    .pwrLevelWrite .app (2 ^ 32), .pwrCmdSepia .app 0x10000, .pwrCmdUmber .app 0x10000, .wakeSource 8, .msixVectorUnmask 64,
    .preemptVerifyResponse 2, .ethEgressFrameDone 2 0, .ethEgressFrameDone 0 (2 ^ 64), .controlCoreRestartDone 4] : List Instr).all fun i => !i.wellFormed) = true := by decide +kernel

theorem test_wf_accepts_1 : (([
    .refclkTimeout 0, .coldCalDone 0 0 [] [] [] 0 0, .resetCtrlWrite 0, .rtwDataWrite .app 0, .retentionRefresh [],
    .registerWrite .app 0 4 0 false [] [], .counterReadClear .app 0 4, .synthLockAcquired 0, .synthLockLoss 0, .lockTimeout 0,
    .oosRetuneRetry 0, .txIntervalStart 0, .blankingEnd 0, .txLatestStartExpiry 0, .calYieldRequest 0, .jesdMultiblockRx 0 false false,
    .jesdLinkAligned 0, .coeffSetIssue 0 [], .barrierComplete 0, .estimatorResult 0 0 0 0 0 0 0 0 0 0, .noiseReportTimer 0 [],
    .oscManWrite 0, .calCancel 0, .calImage 0 false, .calAnalogFilter 0 false, .calAnalogDc 0 false, .calTxIqLo 0 false,
    .calFull 0 false, .calSelfTest 0 false, .slicedCalUnit 0 false [] [] [] 0 0, .exclusiveCalStart 0,
    .exclusiveCalDone 0 0 [] [] [] 0 0 0, .calRequestTimeout 0, .assignmentRecord 0, .preambleDetect 0 0 0 0, .falseDetection 0,
    .falseDetSecond 0, .antennaDecision 0 0 0, .sfdDetect 0 0 0, .phrDecode 0 0 0 false false false false 0,
    .frameEnd 0 [] false false 0 0 0 [] 0 [], .rxqWaitTimeout 0, .txWorkItem 0 0, .txFrameEnd 0, .staleIndigoReport 0, .mapHoldExpiry 0,
    .imapRateChange 0 0, .imapClear 0, .imapResend 0, .receivedFrame 0 false] : List Instr).all Instr.wellFormed) = true := by decide +kernel

theorem test_wf_accepts_2 : (([
    .replyWindowEnd 0, .nodeAckWindowEnd 0, .joinRequest 0, .modelAgeExpiry 0, .wakeSetTarget 0 0, .wakeResetModel 0, .peerBeaconRx 0,
    .ehtLookup .app 0 0, .ehtInsert .app 0, .heardByUpdate 0 0 0 0 0 0, .infraEntryWrite .app 0 0, .infraComparePass 0 0, .bar2Read 0 0,
    .snapshotRestore false (List.replicate 64 0#8), .ncsRead .app 0, .ncsMaskedWrite .app 0, .ncsZeroLine .app 0, .hbRead .app 0 0,
    .hbInvalidate .app 0 0, .pathSchedWrite 0 false, .queueItemWrite 0 0 0 [] 0 [], .queueRoomAvailable 0, .queueItemRead 0,
    .queuePointerMismatch 0 false 0, .queueResetDone 0, .queueTestForce 0 0, .pcieLinkChange false 0 0,
    .eventGenerate 0 (List.replicate 16 0#8), .eventRecordWrite 0, .eventWriteback 0, .msixMessage 0, .evrCtrlWrite 0 0,
    .evrBaseWrite 0 0 0, .evrConsWrite 0 0, .hqCtrlWrite 0 0, .hqTailWrite 0 0, .hostTxDescriptor 0 (List.replicate 32 0#8) [] false,
    .ethIngressFrame 0 [] false 0 0, .ethPortLinkUp 0, .ethPortLinkDown 0 0, .preemptVerifyTimeout 0, .reassemblyTimeout 0 0 0,
    .tbIncCommit .app 0, .tbStepCommit .app 0, .tbServoWrite .app 0, .tsInputEdge 0 false 0 0, .tsoCtrlWrite 0 0, .tsoTargetCommit 0 0,
    .tsoTargetReached 0, .tsoPulseEnd 0] : List Instr).all Instr.wellFormed) = true := by decide +kernel

theorem test_wf_accepts_3 : (([
    .gtMatch 0, .gtWrap 0, .gtCapture 0 false, .gtRegisterApply 0, .gtCntLoRead .app 0, .cpuWdogWarn 0, .cpuWdogExpiry 0,
    .appAccessFault 0 0 false, .appWdogKick .app 0, .gpioSetWrite 0, .gpioClrWrite 0, .gpioInputChange 0 false,
    .aicSourceRequest 0 false, .aicEoiWrite .app 0, .aicGdisWrite 0, .aicSwiWrite 0, .aicEnWrite .app 0 0, .secSelftestKind .app 0 [],
    .jtagDebugRequest 0, .drbgReseed 0 false, .lineCheckFail .ncs 0 0 false false false none none,
    .peerLineArrival 0 (List.replicate 64 0#8) false false, .flashRecomputeDone 0 false false, .miFlipWrite .app 0,
    .hjLinkFrameRx 0 false [] [], .hjRetryTimeout 0, .hjTrainingDone 0 0 0 [] [] 0 0 0 0 [], .hjTimeExchange 0 0 0 0,
    .mirrorNcsChange 0 0 (List.replicate 64 0#8), .mirrorReservation 0 false 0, .mirrorCrimsonDequeue 0, .mirrorTreeState 0 [],
    .mirrorScheduleEpoch 0 0 [], .mirrorBulkClear 0, .mirrorControl 0 0 false false 0 0, .peerFetchRequest 0,
    .resyncLineRx 0 (List.replicate 64 0#8), .updStage .app 0, .updBootLoad .app 0, .coreHandoverDone 0, .coreHandoverTimeout 0,
    .updConfirmWrite .app 0 0, .pwrLevelWrite .app 0, .pwrCmdSepia .app 0, .pwrCmdUmber .app 0, .wakeSource 0, .msixVectorUnmask 0,
    .preemptVerifyResponse 0, .ethEgressFrameDone 0 0, .controlCoreRestartDone 0] : List Instr).all Instr.wellFormed) = true := by decide +kernel

/-! ## Single steps -/

/-- The state after a command. -/
def after (c : Instr) (s : State) : State := match exec c s with | .next t => t | _ => s

/-- The published check value of CRC-32C (R5, R305). -/
theorem test_crc32c : crc32c [0x31#8, 0x32#8, 0x33#8, 0x34#8, 0x35#8, 0x36#8, 0x37#8, 0x38#8, 0x39#8] = 0xE3069283 := by
  decide +kernel

/-- No row of the command table gives bits: no word spells a command. -/
theorem test_no_word_spells_a_command : decodeTableWord 32 0x12345678 = none ∧ (State.reset.withFetchWord 32 0x12345678).pending = [] := by
  decide +kernel

/-- The fields of PWR_SLEEP, low to high: GPIO, POL, TMR, PERST, PEER (Table 21-7). -/
theorem test_write_sleep_register :
    (fun t : State => [t.get R.PWR_SLEEP_GPIO, t.get R.PWR_SLEEP_POL, t.get R.PWR_SLEEP_TMR, t.get R.PWR_SLEEP_PERST, t.get R.PWR_SLEEP_PEER])
      (after (.registerWrite .host R.PWR_SLEEP 4 0x5AF false [] []) runsA) = [15, 10, 1, 0, 1] := by decide +kernel

/-- The NZ-2560S has no TRX4 (Table 1-2): a read of its block answers 0 (R4). -/
theorem test_absent_path_reads_zero :
    assocGet (after (.counterReadClear .host 0x01040004 4) (runs .nz2560s)).reply Requester.host.bank = some 0 := by decide +kernel

/-- One clk_ts edge adds TB_INC, 2 ns at reset (R406, R407). -/
theorem test_clock_edge : step (tbOn runsA) = .next (clockEdge (tbOn runsA)) ∧ (clockEdge (tbOn runsA)).tbNs = 2 := by
  exact ⟨rfl, by decide +kernel⟩

/-- 500 ppm of 2 ns is 4,294,967.296 parts in 2^32 of a nanosecond: one part more is refused with RESULT 3 (R408). -/
theorem test_increment_limit :
    (after (.tbIncCommit .control 2) (after (.registerWrite .control R.TB_INC_LO 4 4294967 false [] []) runsA)).get R.TB_INC_LO_FRAC = 4294967 ∧
      (after (.tbIncCommit .control 2) (after (.registerWrite .control R.TB_INC_LO 4 4294968 false [] []) runsA)).get R.TB_STATUS_RESULT = 3 := by
  decide +kernel

/-- A step of −1 ns (R409). -/
theorem test_step_back :
    (after (.tbStepCommit .control 0xFFFFFFFF) (after (.registerWrite .control R.TB_STEP_LO 4 0xFFFFFFFF false [] [])
      (runsA.putTb { runsA.tb with ns := 100#64 }))).tbNs = 99 := by decide +kernel

/-- An entry inserted for an EUI-64 is found, with its index, and is gone after its delete (R305 to R308). -/
theorem test_eht_insert_lookup_delete :
    (fun t : State => (t.get (R.EHT_STAT_RESULT 2), t.get (R.EHT_STAT_INDEX 2)))
        (after (.ehtLookup .control 0 0) (after (.ehtInsert .control 5) (withEui fw 2 77))) = (0, 5) ∧
      (after (.ehtLookup .control 0 0) (after (.ehtDelete .control) (after (.ehtInsert .control 5) (withEui fw 2 77)))).get
        (R.EHT_STAT_RESULT 2) = 1 := by decide +kernel

/-- GPIO_SET and GPIO_CLR (R443). -/
theorem test_gpio_set_clear : (after (.gpioClrWrite 1) (after (.gpioSetWrite 5) runsA)).get R.GPIO_OUT_BITS = 4 := by decide +kernel

/-- The lowest sample lifts TEMP_MAX from its reset value of −32,768 (Table 21-7). -/
theorem test_temperature_sample :
    (fun t : State => (t.getI R.PWR_TEMP_TJ, t.getI R.PWR_TEMP_MAX)) (after (.tempSample (-8)) runsA) = (-8, -8) := by decide +kernel

/-- The second clock failure of a start holds the device with code 4 (R105). -/
theorem test_clock_failure :
    (fun t : State => (t.boot.phase, t.get R.AON_FAIL_CODE)) (after (.refclkTimeout 4) (after (.refclkTimeout 3) (at_ r0 .pllWait))) =
      (.faultHold, 4) := by decide +kernel

/-- A ring of 2^4 descriptors holds 16: a tail 17 ahead of the head is refused (R379). -/
theorem test_tail_too_far :
    (after (.hqTailWrite 0 17) (hqOn runsA 0)).get (R.HQ_STAT_BAD_CONS 0) = 1 ∧
      (after (.hqTailWrite 0 16) (hqOn runsA 0)).get (R.HQ_TAIL_INDEX 0) = 16 := by decide +kernel

/-- Table 2-3, PORST_N low: nothing drives, open-drain outputs are released (R50). -/
theorem test_pins_at_reset :
    [pinPaEn State.reset 0, pinFault State.reset, pinEnCore State.reset, pinVsel State.reset, pinTsOut State.reset 0] =
      [.z, .z, .z, .z, .z] ∧ pinClaimOut State.reset = .released := by decide +kernel

/-- A running device that claims pulls CLAIM_OUT_N low; PA off, antenna A and code 0 on a path at rest (Table 2-3). -/
theorem test_pins_running :
    pinClaimOut (runsA.set R.PAIR_STATUS_CLAIM_OUT 1) = .low ∧ pinClaimOut (runsA.set R.PAIR_STATUS_CLAIM_OUT 0) = .released ∧
      [pinPaEn runsA 0, pinAntSel runsA 0, pinBias runsA 0] = [.low, .low, .code 0] := by decide +kernel

/-- Table 7-2: four pilots, 40 data indices in ascending order, 19 guards and the DC null. -/
theorem test_subcarrier_roles :
    (subcarriers.map role).filterMap (fun r => match r with | .data d => some d | _ => none) = List.range 40 ∧
      (subcarriers.map role).filterMap (fun r => match r with | .pilot m => some m | _ => none) = [0, 1, 2, 3] ∧
      ((subcarriers.map role).filter fun r => r = .guard).length = 19 := by decide +kernel

/-- A header made by R213 and R214 passes its check; with one bit changed it does not. -/
theorem test_header_passes :
    headerOk (indigoHeader 127 1 true 9 true 5 false) = true ∧ headerOk (indigoHeader 127 1 true 9 true 5 false + 2 ^ 20) = false := by
  decide +kernel

/-- The example after Table 7-6: 120 octets at rate 3/4 give 1,288 coded bits, 17 symbols under the default map. -/
theorem test_coded_length :
    (codedBits 2 3 (List.replicate 120 0xA5#8)).length = 1288 ∧ indigoSymbols 2 defaultCbps 120 = 17 := by decide +kernel

/-- The first 16 coded bits of a symbol fall on data indices 13 apart (R218); Gray levels of Table 7-5. -/
theorem test_mapping :
    (bitPlaces defaultMap).take 4 = [(0, 0), (13, 0), (26, 0), (39, 0)] ∧
      pointOf 6 [1, 0, 0, 0, 1, 1] = { i := 7, q := -3, scale := 42 } ∧ pointOf 4 [1, 0, 0, 1] = { i := 3, q := -1, scale := 10 } := by
  decide +kernel

/-- Ties between bins go to the lower one (R181). -/
theorem test_nearest_bin : [400000, 400001, -400000, 1200000].map (fun o : Int => (nearestBin o).1) = [0, 1, -1, 1] := by decide +kernel

/-- A poll's sub-IE and an agreement frame's, octet by octet (Tables 8-2, 8-3 and 9-1). -/
theorem test_sub_ies :
    pollIe true true = [0x01#8, 0x02#8, 0x03#8, 0x00#8] ∧ wakeIe 5 0x123 = [0x06#8, 0x03#8, 0x05#8, 0x23#8, 0x01#8] ∧
      guardIe 0x102 3 4 (-1) = [0x07#8, 0x0A#8, 0x02#8, 0x01#8, 0x03#8, 0x00#8, 0x04#8, 0x00#8, 0xFF#8, 0xFF#8, 0xFF#8, 0x00#8] := by
  decide +kernel


/-! ## Witnesses of the statements' hypotheses -/

def ownedA : State := runsA.putOtp { runsA.otp with owners := [(some 7#256, false)] }

def chunkPayload : List Byte := toLE 4 2 ++ toLE 4 0 ++ [1#8, 2#8, 3#8, 4#8]
def chunk0 : List Byte := recoveryFrame 1 chunkPayload

theorem test_witness_StepRunsFront : ∃ (s : State) (c : Instr) (rest : List Instr), s.pending = c :: rest :=
  ⟨{ runsA with pending := [.pairHold] }, .pairHold, [], rfl⟩

theorem test_witness_StoresCanonicalKept : ∃ s t : State, Memory.wf s = true ∧ step s = .next t :=
  ⟨fw, clockEdge fw, by decide +kernel, rfl⟩

theorem test_witness_EveryCommandCompletes : ∃ s : State, Memory.wf s = true := ⟨fw, by decide +kernel⟩

theorem test_witness_OnlyNamedComponentsChange :
    ∃ (c : Instr) (s t : State) (k : Comp), exec c s = .next t ∧ k ∉ mayChange c :=
  ⟨.gpioSetWrite 5, runsA, after (.gpioSetWrite 5) runsA, .flash, rfl, by decide +kernel⟩

theorem test_witness_ListedRegistersChange :
    ∃ (c : Instr) (s t : State) (keys : List Nat) (key : Nat), Memory.wf s = true ∧ registerFrame c = some keys ∧ exec c s = .next t ∧
      key ∉ keys ∧ noisy key = false :=
  ⟨.gpioSetWrite 5, runsA, after (.gpioSetWrite 5) runsA, [R.GPIO_OUT], R.PWR_SLEEP, by decide +kernel, rfl, rfl,
    by decide +kernel, by decide +kernel⟩

theorem test_witness_OtpOnlyGrows :
    ∃ (c : Instr) (s t : State) (k : Nat) (h : BitVec 256) (r : Bool), exec c s = .next t ∧ s.otp.owners[k]? = some (some h, r) :=
  ⟨.gpioSetWrite 5, ownedA, after (.gpioSetWrite 5) ownedA, 0, 7#256, false, rfl, by decide +kernel⟩

theorem test_witness_StoreWritesStayInPlace :
    (∃ (s t : State) (q : Requester) (n m : Nat), Memory.wf s = true ∧ exec (.ncsMaskedWrite q n) s = .next t ∧ m ≠ n) ∧
    (∃ (s t : State) (q : Requester) (c n a : Nat), Memory.wf s = true ∧ exec (.hbInvalidate q c n) s = .next t ∧ a ≠ hbKey c n) ∧
    (∃ (s t : State) (frame p : List Byte) (a : Nat), Memory.wf s = true ∧ recoveryPayload 1 frame = some p ∧
      exec (.recoveryChunk frame) s = .next t ∧ (a < leField p 4 4 ∨ leField p 4 4 + (p.length - 8) ≤ a)) ∧
    (∃ (s t : State) (frame : List Byte), Memory.wf s = true ∧ recoveryPayload 1 frame = none ∧ exec (.recoveryChunk frame) s = .next t) ∧
    (∃ (s t : State) (off v a : Nat), Memory.wf s = true ∧ 0x0B800000 ≤ off ∧ off < 0x0C000000 ∧ off % 4 = 0 ∧
      exec (.registerWrite .host off 4 v false [] []) s = .next t ∧ (a < off - 0x0B800000 ∨ off - 0x0B800000 + 4 ≤ a)) ∧
    (∃ (s t : State) (k v a : Nat), Memory.wf s = true ∧ k < 256 ∧
      exec (.registerWrite .host (0x00180000 + 4 * k) 4 v false [] []) s = .next t ∧ a ≠ k) ∧
    (∃ (s t : State) (a : Nat), Memory.wf s = true ∧ exec (.updAbort .host) s = .next t ∧
      ∀ copy, copy < 2 → a < dirSector copy ∨ dirSector copy + sectorSize ≤ a) ∧
    (∃ (s t : State) (comp a : Nat) (e : SlotEntry), Memory.wf s = true ∧ slotOf s comp (inactiveSlot s comp) = some e ∧
      exec (.updStage .host comp) s = .next t ∧ (∀ copy, copy < 2 → a < dirSector copy ∨ dirSector copy + sectorSize ≤ a) ∧
      (a < e.offset ∨ e.offset + e.size ≤ a)) :=
  ⟨⟨fw, after (.ncsMaskedWrite .control 5) fw, .control, 5, 6, by decide +kernel, rfl, by decide⟩,
    ⟨fw, after (.hbInvalidate .control 0 5) fw, .control, 0, 5, hbKey 1 5, by decide +kernel, rfl, by decide⟩,
    ⟨booting, after (.recoveryChunk chunk0) booting, chunk0, chunkPayload, 4, by decide +kernel, by decide +kernel, rfl, by decide +kernel⟩,
    ⟨booting, after (.recoveryChunk []) booting, [], by decide +kernel, by decide +kernel, rfl⟩,
    ⟨runsA, after (.registerWrite .host 0x0B800000 4 1 false [] []) runsA, 0x0B800000, 1, 4, by decide +kernel, by decide, by decide, by decide,
      rfl, by decide⟩,
    ⟨runsA, after (.registerWrite .host (0x00180000 + 4 * 255) 4 1 false [] []) runsA, 255, 1, 254, by decide +kernel, by decide, rfl, by decide⟩,
    ⟨dirA, after (.updAbort .host) dirA, 0x10000, by decide +kernel, rfl, by decide +kernel⟩,
    ⟨dirA, after (.updStage .host 2) dirA, 2, 0x10000, ent 5 1 false, by decide +kernel, by decide +kernel, rfl, by decide +kernel, by decide +kernel⟩⟩


theorem test_witness_RegisterRowsComplete :
    (∃ s : State, Memory.wf s = true ∧ powered s = true) ∧
    (∃ s : State, ∃ q : Requester, ∃ off : Nat, ∃ v : Nat, ∃ fails : List (Nat × Nat), ∃ data : List Byte, ∃ r : RegDesc, Memory.wf s =
      true ∧ powered s = true ∧ off % 4 = 0 ∧ blockOpen s q off = true ∧ unitAt s.part off = true ∧ off ≠ R.PAIR_CFG ∧ writeSpecial s q
      off (natBits v 0 32) fails data = none ∧ regAt off = some r) ∧
    (∃ s : State, ∃ q : Requester, ∃ off : Nat, ∃ v : Nat, ∃ fails : List (Nat × Nat), ∃ data : List Byte, Memory.wf s = true ∧ powered s
      = true ∧ off % 4 = 0 ∧ blockOpen s q off = true ∧ unitAt s.part off = true ∧ writeSpecial s q off (natBits v 0 32) fails data = none
      ∧ regAt off = none) ∧
    (∃ s : State, ∃ off : Nat, ∃ size : Nat, Memory.wf s = true ∧ powered s = true ∧ 0 < size ∧ off % 4 + size < 4) ∧
    (∃ s : State, ∃ v : Nat, Memory.wf s = true ∧ powered s = true ∧ running s = true ∧ hjPresent s.part = true ∧ natBits v 28 4 = 3) ∧
    (∃ s : State, ∃ q : Requester, ∃ off : Nat, Memory.wf s = true ∧ powered s = true ∧ off % 4 = 0 ∧ blockOpen s q off = false) :=
  ⟨⟨runsA, by decide +kernel⟩,
    ⟨(runsA.set R.MI_SCRUB_FB_MIN 3), .host, 0x08000004, 0x12345, ([]), ([]), (((regAt 0x08000004).getD noDesc)), by decide +kernel⟩,
    ⟨runsA, .host, 0x00011FF0, 0x12345, ([]), ([]), by decide +kernel⟩,
    ⟨runsA, 0x08000005, 2, by decide +kernel⟩,
    ⟨(runsA.set R.PAIR_STATUS_ROLE 2), 0x30000000, by decide +kernel⟩,
    ⟨booting, .app, 0x08000004, by decide +kernel⟩⟩

theorem test_witness_PowerUpRowsComplete :
    (∃ s : State, Memory.wf s = true ∧ s.boot.phase = .porstLow) ∧
    (∃ s : State, Memory.wf s = true ∧ s.boot.phase = .unpowered) ∧
    (∃ s : State, Memory.wf s = true ∧ s.boot.phase = .powering) ∧
    (∃ s : State, Memory.wf s = true ∧ s.boot.phase = .powering ∧ s.boot.powerRetried = false) ∧
    (∃ s : State, Memory.wf s = true ∧ s.boot.phase = .powering ∧ s.boot.powerRetried = true) ∧
    (∃ s : State, Memory.wf s = true ∧ s.boot.phase = .retryWait) ∧
    (∃ s : State, Memory.wf s = true ∧ s.boot.phase = .pllWait ∧ s.tb.running = false ∧ s.boot.cause ≠ .sepiaExit) ∧
    (∃ s : State, ∃ code : Nat, Memory.wf s = true ∧ s.boot.phase = .pllWait ∧ s.tb.running = false ∧ (code = 3 ∨ code = 4) ∧
      s.boot.clockRetried = false) :=
  ⟨⟨r0, by decide +kernel⟩,
    ⟨(at_ r0 .unpowered), by decide +kernel⟩,
    ⟨(at_ r0 .powering), by decide +kernel⟩,
    ⟨(at_ r0 .powering), by decide +kernel⟩,
    ⟨((at_ r0 .powering).putBoot { (at_ r0 .powering).boot with powerRetried := true }), by decide +kernel⟩,
    ⟨(at_ r0 .retryWait), by decide +kernel⟩,
    ⟨(at_ r0 .pllWait), by decide +kernel⟩,
    ⟨(at_ r0 .pllWait), 3, by decide +kernel⟩⟩

theorem test_witness_ResetRowsComplete :
    (∃ s : State, Memory.wf s = true ∧ s.boot.phase ≠ .unpowered) ∧
    (∃ s : State, Memory.wf s = true) ∧
    (∃ s : State, Memory.wf s = true ∧ railsUp s = true) ∧
    (∃ s : State, Memory.wf s = true ∧ powered s = true) ∧
    (∃ s : State, Memory.wf s = true ∧ s.boot.phase = .warmLow) ∧
    (∃ s : State, Memory.wf s = true ∧ s.boot.phase = .warmDelay) :=
  ⟨⟨runsA, by decide +kernel⟩,
    ⟨runsA, by decide +kernel⟩,
    ⟨runsA, by decide +kernel⟩,
    ⟨booting, by decide +kernel⟩,
    ⟨(at_ (r0.set R.STRAPS_BOOT_MODE 2) .warmLow), by decide +kernel⟩,
    ⟨(at_ (r0.set R.STRAPS_BOOT_MODE 2) .warmDelay), by decide +kernel⟩⟩

theorem test_witness_BootRowsComplete :
    (∃ s : State, Memory.wf s = true ∧ s.boot.phase = .boot ∧ s.boot.fromHost = false ∧ s.boot.comp < 5 ∧ s.upd.probation = none ∧
      s.boot.second = false) ∧
    (∃ s : State, Memory.wf s = true ∧ s.boot.phase = .boot ∧ s.boot.comp = 6) ∧
    (∃ s : State, ∃ frame : List Byte, ∃ p : List Byte, Memory.wf s = true ∧ uartLoads s = true ∧ recoveryPayload 1 frame = some p ∧ 8 ≤
      p.length ∧ chunkInOrder s (leField p 0 1) (leField p 4 4) = true ∧ leField p 4 4 + (p.length - 8) ≤ 0x00800000) ∧
    (∃ s : State, ∃ frame : List Byte, ∃ p : List Byte, Memory.wf s = true ∧ uartLoads s = true ∧ recoveryPayload 2 frame = some p ∧
      p.length = 1) ∧
    (∃ s : State, ∃ path : Nat, Memory.wf s = true ∧ path ∈ s.boot.coldPending) ∧
    (∃ s : State, Memory.wf s = true ∧ running s = true ∧ calendarValid s = true ∧ updState s ≠ updProbation) ∧
    (∃ s : State, ∃ comp : Nat, ∃ e : SlotEntry, ∃ o : SlotEntry, Memory.wf s = true ∧ slotOf s comp (firstSlot s comp) = some e ∧ slotOf
      s comp (1 - firstSlot s comp) = some o ∧ e.active = true ∧ e.state = slotValid ∧ stampDue s e.stamp = true ∧ wellPlaced s e = true ∧
      wellPlaced s o = true ∧ e.length ≤ o.size ∧ updState s = updIdle ∧ commitAllowed s = true ∧ slotWriteAllowed s comp (1 - firstSlot s
      comp) = true) :=
  ⟨⟨booting, by decide +kernel⟩,
    ⟨(booting.putBoot { booting.boot with comp := 6, fromHost := true }), by decide +kernel⟩,
    ⟨((booting.putBoot { booting.boot with fromHost := true }).set R.STRAPS_BOOT_MODE 3), (recFrame 1 (toLE 4 0 ++ toLE 4 0x7FFFFF ++
      [9#8])), (toLE 4 0 ++ toLE 4 0x7FFFFF ++ [9#8]), by decide +kernel⟩,
    ⟨((booting.putBoot { booting.boot with fromHost := true }).set R.STRAPS_BOOT_MODE 3), (recFrame 2 [1#8]), ([1#8]), by decide +kernel⟩,
    ⟨(runsA.putBoot { runsA.boot with coldPending := [3, 7] }), 3, by decide +kernel⟩,
    ⟨(((dirA.set R.TIME_QUALITY_CODE 1).set R.TIME_ERR_ERR 100).putTb { dirA.tb with ns := 1800000000000000000#64 }), by decide +kernel⟩,
    ⟨(((dirA.set R.TIME_QUALITY_CODE 1).set R.TIME_ERR_ERR 100).putTb { dirA.tb with ns := 1800000000000000000#64 }), 2, (ent 4 1 true),
      (ent 5 1 false), by decide +kernel⟩⟩

theorem test_witness_ClockAndWindowRowsComplete :
    (∃ s : State, ∃ cycles : Nat, Memory.wf s = true ∧ powered s = true ∧ s.boot.lfMeasuring = true ∧ cycles ≠ 0 ∧ lfGood cycles = true) ∧
    (∃ s : State, Memory.wf s = true ∧ powered s = true ∧ s.boot.lfAccepted = false ∧ s.boot.lfFallen = false) ∧
    (∃ s : State, Memory.wf s = true ∧ powered s = true ∧ s.boot.lfFallen = true) ∧
    (∃ s : State, Memory.wf s = true ∧ s.pwr.aonLf = true) ∧
    (∃ s : State, ∃ q, ∃ v : Nat, Memory.wf s = true ∧ powered s = true ∧ (q = Requester.host ∨ q = Requester.app) ∧ 0x03300000 ≤ 4 *
      s.get (R.RTW_ADDR_OFFSET q.bank) ∧ 4 * s.get (R.RTW_ADDR_OFFSET q.bank) < 0x03310000 ∧ windowResult s (4 * s.get (R.RTW_ADDR_OFFSET
      q.bank)) v = 0) ∧
    (∃ s : State, ∃ q, ∃ v : Nat, Memory.wf s = true ∧ powered s = true ∧ (q = Requester.host ∨ q = Requester.app) ∧ windowResult s (4 *
      s.get (R.RTW_ADDR_OFFSET q.bank)) v ≠ 0) ∧
    (∃ s : State, Memory.wf s = true ∧ powered s = true) :=
  ⟨⟨(runsA.putBoot { runsA.boot with lfMeasuring := true }), 312500, by decide +kernel⟩,
    ⟨runsA, by decide +kernel⟩,
    ⟨(runsA.putBoot { runsA.boot with lfFallen := true }), by decide +kernel⟩,
    ⟨(runsA.putPwr { runsA.pwr with aonLf := true }), by decide +kernel⟩,
    ⟨((runsA.putBoot { runsA.boot with tunable := [(0x03300000, 0xFFFFFFFF)] }).set (R.RTW_ADDR_OFFSET 0) (0x03300000 / 4)), .host, 7,
      by decide +kernel⟩,
    ⟨runsA, .app, 7, by decide +kernel⟩,
    ⟨runsA, by decide +kernel⟩⟩

theorem test_witness_RadioRowsComplete :
    (∃ s : State, ∃ n : Nat, Memory.wf s = true ∧ synthRuns s n = true ∧ s.bit (R.SYNTH_STATUS_LOCK n) = false ∧ s.bit (R.SYNTH_STATUS_OOS
      n) = false) ∧
    (∃ s : State, ∃ n : Nat, Memory.wf s = true ∧ synthRuns s n = true ∧ s.bit (R.SYNTH_STATUS_LOCK n) = true ∧ (∀ i, (s.path n).interval
      = some i → i.ramped = false)) ∧
    (∃ s : State, ∃ n : Nat, ∃ i : TxInterval, Memory.wf s = true ∧ synthRuns s n = true ∧ s.bit (R.SYNTH_STATUS_LOCK n) = true ∧ (s.path
      n).interval = some i ∧ i.ramped = true) ∧
    (∃ s : State, ∃ n : Nat, Memory.wf s = true ∧ synthRuns s n = true ∧ s.bit (R.SYNTH_STATUS_LOCK n) = false ∧ s.bit
      (R.SYNTH_STATUS_RETUNE n) = true ∧ (s.path n).restarted = false) ∧
    (∃ s : State, ∃ n : Nat, Memory.wf s = true ∧ synthRuns s n = true ∧ s.bit (R.SYNTH_STATUS_LOCK n) = false ∧ s.bit
      (R.SYNTH_STATUS_RETUNE n) = true ∧ (s.path n).restarted = true ∧ s.bit (R.SYNTH_STATUS_OOS n) = false) ∧
    (∃ s : State, ∃ n : Nat, Memory.wf s = true ∧ synthRuns s n = true ∧ s.bit (R.SYNTH_STATUS_OOS n) = true) ∧
    (∃ s : State, ∃ n : Nat, ∃ r : CalRequest, Memory.wf s = true ∧ synthRuns s n = true ∧ s.bit (R.SYNTH_STATUS_CAL n) = true ∧ (s.path
      n).request = some r ∧ r.exclusive = true) ∧
    (∃ s : State, ∃ n : Nat, ∃ r : CalRequest, Memory.wf s = true ∧ synthRuns s n = true ∧ s.bit (R.SYNTH_STATUS_CAL n) = true ∧ (s.path
      n).request = some r ∧ r.exclusive = false) ∧
    (∃ s : State, ∃ n : Nat, ∃ w : WorkItem, ∃ rest : List WorkItem, Memory.wf s = true ∧ (intervalEngines s n).filterMap (fun e => (s.te
      e).item) = w :: rest ∧ ((s.path n).interval.any fun i => !i.frames.isEmpty) = false ∧ pathTxEnabled s n = true ∧ gateOpen s = true) ∧
    (∃ s : State, ∃ n : Nat, ∃ w : WorkItem, ∃ rest : List WorkItem, Memory.wf s = true ∧ (intervalEngines s n).filterMap (fun e => (s.te
      e).item) = w :: rest ∧ ((s.path n).interval.any fun i => !i.frames.isEmpty) = false ∧ pathTxEnabled s n = true ∧ gateOpen s = false) ∧
    (∃ s : State, ∃ n : Nat, ∃ i : TxInterval, Memory.wf s = true ∧ (s.path n).interval = some i ∧ i.ramped = false ∧ i.frames ≠ []) ∧
    (∃ s : State, ∃ n : Nat, ∃ i : TxInterval, Memory.wf s = true ∧ (s.path n).interval = some i ∧ i.frames = []) :=
  ⟨⟨(trx runsA 3), 3, by decide +kernel⟩,
    ⟨((trx runsA 15).set (R.SYNTH_STATUS_LOCK 15) 1), 15, by decide +kernel⟩,
    ⟨((((trx runsA 0).set (R.SYNTH_STATUS_LOCK 0) 1)).setPath 0
      { PathState.idle with interval := some { frames := [(0, 7)], antenna := 0, analog := 3, ramped := true, late := 0, observed := false } }),
      0, ({ frames := [(0, 7)], antenna := 0, analog := 3, ramped := true, late := 0, observed := false }), by decide +kernel⟩,
    ⟨((trx runsA 0).set (R.SYNTH_STATUS_RETUNE 0) 1), 0, by decide +kernel⟩,
    ⟨(((trx runsA 0).set (R.SYNTH_STATUS_RETUNE 0) 1).setPath 0 { PathState.idle with restarted := true }), 0, by decide +kernel⟩,
    ⟨(((trx runsA 0).set (R.SYNTH_STATUS_OOS 0) 1)), 0, by decide +kernel⟩,
    ⟨(((trx runsA 0).set (R.SYNTH_STATUS_CAL 0) 1).setPath 0
      { PathState.idle with request := some { op := 5, exclusive := true, running := true } }), 0,
      ({ op := 5, exclusive := true, running := true }), by decide +kernel⟩,
    ⟨(((trx runsA 0).set (R.SYNTH_STATUS_CAL 0) 1).setPath 0
      { PathState.idle with request := some { op := 1, exclusive := false, running := true } }), 0,
      ({ op := 1, exclusive := false, running := true }), by decide +kernel⟩,
    ⟨txReady, 2, (work0 7 2), ([]), by decide +kernel⟩,
    ⟨(txReady.set R.PAIR_STATUS_CLAIM_IN 1), 2, (work0 7 2), ([]), by decide +kernel⟩,
    ⟨(runsA.setPath 2
      { PathState.idle with interval := some { frames := [(0, 7)], antenna := 0, analog := 3, ramped := false, late := 0, observed := false } }),
      2, ({ frames := [(0, 7)], antenna := 0, analog := 3, ramped := false, late := 0, observed := false }), by decide +kernel⟩,
    ⟨(runsA.setPath 2
      { PathState.idle with interval := some { frames := [], antenna := 0, analog := 3, ramped := true, late := 0, observed := false } }),
      2, ({ frames := [], antenna := 0, analog := 3, ramped := true, late := 0, observed := false }), by decide +kernel⟩⟩

theorem test_witness_JesdRowsComplete :
    (∃ s : State, ∃ hz : Nat, Memory.wf s = true ∧ jesdRuns s = true ∧ ((hz : Int) - (s.get R.JESD_RATE_DEVCLK_KHZ * 1000 : Nat)).natAbs *
      1000000 ≤ 2 * (s.get R.JESD_RATE_DEVCLK_KHZ * 1000)) ∧
    (∃ s : State, ∃ hz : Nat, Memory.wf s = true ∧ jesdRuns s = true ∧ 2 * (s.get R.JESD_RATE_DEVCLK_KHZ * 1000) < ((hz : Int) - (s.get
      R.JESD_RATE_DEVCLK_KHZ * 1000 : Nat)).natAbs * 1000000) ∧
    (∃ s : State, Memory.wf s = true ∧ running s = true ∧ jesdPresent s.part = true) ∧
    (∃ s : State, Memory.wf s = true ∧ jesdRuns s = true ∧ s.bit R.JESD_CTRL_SYSREF_PER = false ∧ s.jesd.armed = true) ∧
    (∃ s : State, ∃ q : Int, Memory.wf s = true ∧ jesdRuns s = true ∧ s.bit R.JESD_CTRL_SYSREF_PER = true ∧ s.jesd.phase = some q) ∧
    (∃ s : State, ∃ lane : Nat, Memory.wf s = true ∧ s.bit R.JESD_STATUS_RX_UP = true ∧ natBit (jesdMask s 0) lane = true) ∧
    (∃ s : State, ∃ lane : Nat, Memory.wf s = true ∧ s.bit R.JESD_STATUS_RX_UP = true ∧ natBit (jesdMask s 0) lane = true ∧ 7 ≤ (assocGet
      s.jesd.crcRun lane).getD 0) ∧
    (∃ s : State, Memory.wf s = true ∧ jesdRuns s = true ∧ s.bit R.JESD_STATUS_DEVCLK_ERR = false ∧ s.bit R.JESD_CTRL_RX_EN = true ∧ s.bit
      R.JESD_STATUS_RX_UP = false) ∧
    (∃ s : State, Memory.wf s = true ∧ jesdRuns s = true ∧ s.bit R.JESD_STATUS_DEVCLK_ERR = false ∧ s.bit R.JESD_CTRL_TX_EN = true ∧ s.bit
      R.JESD_STATUS_TX_UP = false) :=
  ⟨⟨jesdOn, 50000100, by decide +kernel⟩,
    ⟨jesdOn, 49999899, by decide +kernel⟩,
    ⟨runsA, by decide +kernel⟩,
    ⟨(jesdOn.putJesd { jesdOn.jesd with armed := true }), by decide +kernel⟩,
    ⟨((jesdOn.putJesd { jesdOn.jesd with phase := some 10 }).set R.JESD_CTRL_SYSREF_PER 1), 10, by decide +kernel⟩,
    ⟨(jesdOn.set R.JESD_STATUS_RX_UP 1), 0, by decide +kernel⟩,
    ⟨((jesdOn.set R.JESD_STATUS_RX_UP 1).putJesd { jesdOn.jesd with crcRun := [(0, 7)] }), 0, by decide +kernel⟩,
    ⟨jesdOn, by decide +kernel⟩,
    ⟨jesdOn, by decide +kernel⟩⟩

theorem test_witness_TrimRowsComplete :
    (∃ s : State, ∃ n : Nat, Memory.wf s = true ∧ calRuns s n = true ∧ epochAllowed s n = true) ∧
    (∃ s : State, ∃ n : Nat, Memory.wf s = true ∧ n < 16 ∧ calRuns s n = true ∧ epochAllowed s n = true) ∧
    (∃ s : State, ∃ n : Nat, Memory.wf s = true ∧ calRuns s n = true ∧ epochAllowed s n = false) ∧
    (∃ s : State, ∃ n : Nat, ∃ e : Nat, Memory.wf s = true ∧ (s.path n).barrier = some e) ∧
    (∃ s : State, ∃ n : Nat, ∃ powers : List Nat, ∃ item : QueueItem, Memory.wf s = true ∧ s.bit (R.CE_CFG_NOISE n) = true ∧ ceState s n =
      ceSearch ∧ item.words = 1 ∧ item.poison = [] ∧ item.tag = 0 ∧ item.data = toLE 2 n ++ toLE 2 (s.get (R.CE_STATE_EPOCH n)) ++
      ((powers.take 4).map (toLE 4)).flatten ∧ canEnter (s.queue (ceCluster n)) (ceCluster n) 7 item = true) ∧
    (∃ s : State, Memory.wf s = true ∧ running s = true ∧ crowdOk s = true ∧ timeOk s = true) ∧
    (∃ s : State, Memory.wf s = true ∧ running s = true ∧ (crowdOk s && timeOk s) = false) ∧
    (∃ s : State, Memory.wf s = true ∧ running s = true ∧ s.get R.OSC_CFG_MODE = 2) ∧
    (∃ s : State, Memory.wf s = true ∧ powered s = true ∧ s.get R.OSC_CFG_MODE ≠ 2) :=
  ⟨⟨(cold1 runsA 0), 0, by decide +kernel⟩,
    ⟨(cold1 runsA 15), 15, by decide +kernel⟩,
    ⟨((cold1 runsA 0).setPath 0 { PathState.idle with lastEpoch := some 0 }), 0, by decide +kernel⟩,
    ⟨(((((ce0 runsA 5 ceSearch).set (R.CE_ASG0_ACTIVE 5) 1).set (R.CE_ASG0_PATH 5) 2)).setPath 2
      { PathState.idle with barrier := some 9 }), 2, 9, by decide +kernel⟩,
    ⟨((ce0 runsA 5 ceSearch).set (R.CE_CFG_NOISE 5) 1), 5, ([1, 2, 3, 4]),
      ({ words := 1, poison := [], tag := 0, data := toLE 2 5 ++ toLE 2 0 ++ ([1, 2, 3, 4].map (toLE 4)).flatten }), by decide +kernel⟩,
    ⟨(let u := ((runsA.set R.TB_SERVO_STATE 2).set R.OSC_PARAM_MIN_OBS 2).set R.OSC_CFG_MODE 1; u.putOsc
      { u.osc with crowd := (List.range 256).map fun i => (i, 10, 100) }), by decide +kernel⟩,
    ⟨(runsA.set R.TB_SERVO_STATE 1), by decide +kernel⟩,
    ⟨(runsA.set R.OSC_CFG_MODE 2), by decide +kernel⟩,
    ⟨booting, by decide +kernel⟩⟩

theorem test_witness_EstimatorRowsComplete :
    (∃ s : State, ∃ n : Nat, ∃ chain : Nat, ∃ bin : Nat, ∃ rejection : Int, ∃ half : Int, ∃ c : ImageBin, Memory.wf s = true ∧ calRuns s n
      = true ∧ chain ≤ 1 ∧ (chain = 1 → chainBEnabled s n = true) ∧ bin ≤ 7 ∧ calEnabled s n 0 = true ∧ assocGet (s.path n).images (chain
      * 8 + bin) = some c ∧ imageReady s n c = true ∧ (12 < (assocGet (s.path n).bins (chain * 8 + bin)).getD rejection - rejection ∨ 8 <
      half)) ∧
    (∃ s : State, ∃ n : Nat, ∃ chain : Nat, ∃ bin : Nat, ∃ rejection : Int, ∃ half : Int, ∃ c : ImageBin, Memory.wf s = true ∧ calRuns s n
      = true ∧ chain ≤ 1 ∧ (chain = 1 → chainBEnabled s n = true) ∧ bin ≤ 7 ∧ calEnabled s n 0 = true ∧ epochAllowed s n = true ∧ assocGet
      (s.path n).images (chain * 8 + bin) = some c ∧ imageReady s n c = true ∧ (assocGet (s.path n).bins (chain * 8 + bin)).getD rejection
      - rejection ≤ 12 ∧ half ≤ 8) ∧
    (∃ s : State, ∃ n : Nat, ∃ chain : Nat, Memory.wf s = true ∧ calRuns s n = true ∧ chain ≤ 1 ∧ (chain = 1 → chainBEnabled s n = true) ∧
      calEnabled s n 1 = true ∧ epochAllowed s n = true) ∧
    (∃ s : State, ∃ n : Nat, ∃ chain : Nat, Memory.wf s = true ∧ calRuns s n = true ∧ chain ≤ 1 ∧ (chain = 1 → chainBEnabled s n = true) ∧
      calEnabled s n 2 = true ∧ epochAllowed s n = true ∧ dcCounts s n = true) :=
  ⟨⟨(((cold1 runsA 0).set (R.CAL_CTRL_IMG 0) 1).setPath 0
      { PathState.idle with images := [(15, { frames := 1000000, nodes := List.range 64, corrI := 5, corrQ := 7, power := 65536 })] }), 0,
      1, 7, 0, 9, ({ frames := 1000000, nodes := List.range 64, corrI := 5, corrQ := 7, power := 65536 }), by decide +kernel⟩,
    ⟨(((cold1 runsA 0).set (R.CAL_CTRL_IMG 0) 1).setPath 0
      { PathState.idle with images := [(15, { frames := 1000000, nodes := List.range 64, corrI := 5, corrQ := 7, power := 65536 })] }), 0,
      1, 7, 0, 8, ({ frames := 1000000, nodes := List.range 64, corrI := 5, corrQ := 7, power := 65536 }), by decide +kernel⟩,
    ⟨((cold1 runsA 0).set (R.CAL_CTRL_FILT 0) 1), 0, 0, by decide +kernel⟩,
    ⟨((((jesdOn.set R.JESD_STATUS_RX_UP 1).set R.JESD_RXCH_A 1).set R.JESD_RXCH_B 1).set (R.XS_CAL_DC 0) 1), 16, 1, by decide +kernel⟩⟩

theorem test_witness_CalRequestRowsComplete :
    (∃ s : State, ∃ n : Nat, ∃ excl : Bool, ∃ row op, (row, op) ∈ [(Instr.calImage n excl, 1), (.calAnalogFilter n excl, 2), (.calAnalogDc
      n excl, 3), (.calTxIqLo n excl, 4), (.calFull n excl, 5), (.calSelfTest n excl, 8)] ∧ Memory.wf s = true ∧ n < 16 ∧ running s = true
      ∧ pathPresent s.part n = true ∧ s.bit (R.CAL_STATUS_COLD n) = true ∧ (s.path n).request = none) ∧
    (∃ s : State, ∃ n : Nat, ∃ excl : Bool, ∃ row op, (row, op) ∈ [(Instr.calImage n excl, 1), (.calAnalogFilter n excl, 2), (.calAnalogDc
      n excl, 3), (.calTxIqLo n excl, 4), (.calFull n excl, 5), (.calSelfTest n excl, 8)] ∧ Memory.wf s = true ∧ n < 16 ∧ running s = true
      ∧ pathPresent s.part n = true ∧ (s.bit (R.CAL_STATUS_COLD n) = false ∨ (s.path n).request.isSome = true)) ∧
    (∃ s : State, ∃ n : Nat, ∃ r : CalRequest, Memory.wf s = true ∧ n < 16 ∧ (s.path n).request = some r) :=
  ⟨⟨(cold1 runsA 15), 15, true, _, _, List.mem_cons_self, by decide +kernel⟩,
    ⟨(trx runsA 15), 15, false, _, _, List.mem_cons_self, by decide +kernel⟩,
    ⟨((withReq (cold1 runsA 0) 0 { op := 5, exclusive := true, running := true }).setPath 0
      { PathState.idle with request := some { op := 5, exclusive := true, running := true }, saved := some ([1], [2], [3]) }), 0,
      ({ op := 5, exclusive := true, running := true }), by decide +kernel⟩⟩

theorem test_witness_CalRunRowsComplete :
    (∃ s : State, ∃ n : Nat, ∃ r : CalRequest, ∃ time : Nat, Memory.wf s = true ∧ n < 16 ∧ (s.path n).request = some r ∧ r.exclusive =
      false ∧ r.running = true ∧ time + 100000 ≤ s.tb.boundLast + slotLenNs s) ∧
    (∃ s : State, ∃ n : Nat, ∃ r : CalRequest, ∃ time : Nat, Memory.wf s = true ∧ n < 16 ∧ (s.path n).request = some r ∧ r.exclusive =
      false ∧ r.running = true ∧ time + 100000 ≤ s.tb.boundLast + slotLenNs s ∧ r.op ≠ 8) ∧
    (∃ s : State, ∃ n : Nat, ∃ r : CalRequest, ∃ time : Nat, Memory.wf s = true ∧ n < 16 ∧ (s.path n).request = some r ∧ r.exclusive =
      false ∧ r.running = true ∧ time + 100000 ≤ s.tb.boundLast + slotLenNs s ∧ r.op = 8) ∧
    (∃ s : State, ∃ n : Nat, ∃ r : CalRequest, Memory.wf s = true ∧ n < 16 ∧ (s.path n).request = some r ∧ r.exclusive = true ∧ r.running
      = false ∧ sfLen s ≤ (s.path n).idleSlots ∧ epochAllowed s n = true) ∧
    (∃ s : State, ∃ n : Nat, ∃ r : CalRequest, Memory.wf s = true ∧ n < 16 ∧ (s.path n).request = some r ∧ r.exclusive = true ∧ r.running
      = true ∧ r.op ≠ 8) ∧
    (∃ s : State, ∃ n : Nat, ∃ r : CalRequest, Memory.wf s = true ∧ n < 16 ∧ (s.path n).request = some r ∧ r.exclusive = true ∧ r.running
      = true ∧ r.op = 8) :=
  ⟨⟨(let u := withReq (cold1 runsA 0) 0 { op := 1, exclusive := false, running := true }; u.setPath 0 { u.path 0 with yielded := true }),
      0, ({ op := 1, exclusive := false, running := true }), 1000, by decide +kernel⟩,
    ⟨(withReq (cold1 runsA 0) 0 { op := 5, exclusive := false, running := true }), 0, ({ op := 5, exclusive := false, running := true }),
      1000, by decide +kernel⟩,
    ⟨(withReq (cold1 runsA 0) 0 { op := 8, exclusive := false, running := true }), 0, ({ op := 8, exclusive := false, running := true }),
      1000, by decide +kernel⟩,
    ⟨(withReq (cold1 runsA 0) 0 { op := 5, exclusive := true, running := false }), 0, ({ op := 5, exclusive := true, running := false }),
      by decide +kernel⟩,
    ⟨(withReq (cold1 runsA 0) 0 { op := 5, exclusive := true, running := true }), 0, ({ op := 5, exclusive := true, running := true }),
      by decide +kernel⟩,
    ⟨(withReq (cold1 runsA 0) 0 { op := 8, exclusive := true, running := true }), 0, ({ op := 8, exclusive := true, running := true }),
      by decide +kernel⟩⟩

theorem test_witness_DetectionRowsComplete :
    (∃ s : State, ∃ e : Nat, ∃ l : EngineLoad, Memory.wf s = true ∧ assocGet s.psm.assigns e = some l ∧ ceRuns s e = true ∧ (ceState s e =
      ceAcq ∨ ceState s e = ceDecode)) ∧
    (∃ s : State, ∃ e : Nat, ∃ l : EngineLoad, Memory.wf s = true ∧ assocGet s.psm.assigns e = some l ∧ ceRuns s e = true ∧ ceState s e ≠
      ceAcq ∧ ceState s e ≠ ceDecode ∧ l.record.active = 0) ∧
    (∃ s : State, ∃ e : Nat, ∃ l : EngineLoad, Memory.wf s = true ∧ assocGet s.psm.assigns e = some l ∧ ceRuns s e = true ∧ ceState s e ≠
      ceAcq ∧ ceState s e ≠ ceDecode ∧ l.record.active = 1 ∧ assignRefusal s e l.record = none) ∧
    (∃ s : State, ∃ e : Nat, ∃ rhoA : Nat, ∃ rhoB : Nat, ∃ h : Int, Memory.wf s = true ∧ ceRuns s e = true ∧ ceState s e = ceSearch ∧
      hypothesisOk s e h = true ∧ (chainUsed s e 0 = true ∧ detThreshold s e (s.get (R.CE_ASG0_MODE e)) * 256 ≤ rhoA) ∨ (chainUsed s e 1 =
      true ∧ detThreshold s e (s.get (R.CE_ASG0_MODE e)) * 256 ≤ rhoB)) ∧
    (∃ s : State, ∃ e : Nat, Memory.wf s = true ∧ ceRuns s e = true ∧ ceState s e = ceAcq ∧ (s.ce e).pending = none) ∧
    (∃ s : State, ∃ c : Nat, Memory.wf s = true ∧ running s = true ∧ clusterPresent s.part c = true) :=
  ⟨⟨(let u := ce0 runsA 511 ceAcq; u.putPsm { u.psm with assigns := [(511, { record := asg 2 1, maps := none, node := none })] }), 511,
      ({ record := asg 2 1, maps := none, node := none }), by decide +kernel⟩,
    ⟨(let u := (ce0 runsA 5 ceSearch).set (R.CE_ASG0_ACTIVE 5) 1; u.putPsm
      { u.psm with assigns := [(5, { record := asg 2 0, maps := none, node := none })] }), 5,
      ({ record := asg 2 0, maps := none, node := none }), by decide +kernel⟩,
    ⟨(let u := trx (ce0 runsA 5 ceIdle) 2; u.putPsm { u.psm with assigns := [(5, { record := asg 2 1, maps := none, node := none })] }),
      5, ({ record := asg 2 1, maps := none, node := none }), by decide +kernel⟩,
    ⟨((ce0 runsA 5 ceSearch).set (R.CE_DET_FSK 5) 100), 5, 25600, 0, 0, by decide +kernel⟩,
    ⟨(ce0 runsA 5 ceAcq), 5, by decide +kernel⟩,
    ⟨((runsA.setCe 5 { CeState.idle with falseSec := 3 }).set (R.CL_FD_LIMIT 0) 2), 0, by decide +kernel⟩⟩

theorem test_witness_ReceptionRowsComplete :
    (∃ s : State, ∃ e : Nat, Memory.wf s = true ∧ ceRuns s e = true ∧ ceState s e = ceAcq ∧ (s.ce e).chosen = none ∧ chainUsed s e 0 =
      true ∧ chainUsed s e 1 = true ∧ s.get (R.CE_ASG0_HINT_B e) = 0) ∧
    (∃ s : State, ∃ e : Nat, Memory.wf s = true ∧ ceRuns s e = true ∧ ceState s e = ceAcq ∧ (s.ce e).chosen.isSome = true) ∧
    (∃ s : State, ∃ e : Nat, ∃ len : Nat, ∃ f4 : Bool, ∃ res : Bool, ∃ sw : Bool, ∃ hcs : Bool, ∃ mcs : Nat, Memory.wf s = true ∧ ceRuns s
      e = true ∧ ceState s e = ceDecode ∧ modeFamily (s.get (R.CE_ASG0_MODE e)) ≠ 3 ∧ phrOk (s.get (R.CE_ASG0_MODE e)) len f4 res sw hcs
      mcs = true) ∧
    (∃ s : State, ∃ e : Nat, ∃ h : Nat, Memory.wf s = true ∧ ceRuns s e = true ∧ ceState s e = ceDecode ∧ modeFamily (s.get
      (R.CE_ASG0_MODE e)) = 3 ∧ headerOk h = true) ∧
    (∃ s : State, ∃ e : Nat, ∃ h : Nat, ∃ len : Nat, ∃ f4 : Bool, ∃ res : Bool, ∃ sw : Bool, ∃ hcs : Bool, ∃ mcs : Nat, Memory.wf s = true
      ∧ ceRuns s e = true ∧ ceState s e = ceDecode ∧ (s.ce e).pending = none ∧ (if modeFamily (s.get (R.CE_ASG0_MODE e)) = 3 then headerOk
      h else phrOk (s.get (R.CE_ASG0_MODE e)) len f4 res sw hcs mcs) = false) ∧
    (∃ s : State, ∃ e : Nat, Memory.wf s = true ∧ ceRuns s e = true ∧ ceState s e = ceDecode ∧ (s.ce e).stale = false ∧ (s.ce e).pending =
      none) ∧
    (∃ s : State, ∃ e : Nat, Memory.wf s = true ∧ ceRuns s e = true ∧ ceState s e = ceDecode ∧ (s.ce e).pending = none) ∧
    (∃ s : State, ∃ e : Nat, ∃ p : Nat × QueueItem, Memory.wf s = true ∧ e < 512 ∧ (s.queue (ceCluster e)).waiting.find? (fun p =>
      decide (p.1 = 0) && decide (leField p.2.data 30 2 % 128 = e % 128)) = some p) :=
  ⟨⟨(ce0 runsA 5 ceAcq), 5, by decide +kernel⟩,
    ⟨((ce0 runsA 5 ceAcq).setCe 5 { CeState.idle with chosen := some 0, pendingSet := some (70000, [1]) }), 5, by decide +kernel⟩,
    ⟨(ce0 runsA 5 ceDecode), 5, 2047, false, false, false, true, 0, by decide +kernel⟩,
    ⟨((ce0 runsA 5 ceDecode).set (R.CE_ASG0_MODE 5) 0xC0), 5, 6109790228, by decide +kernel⟩,
    ⟨(ce0 runsA 5 ceDecode), 5, 0, 2048, false, false, false, true, 0, by decide +kernel⟩,
    ⟨(ce0 runsA 5 ceDecode), 5, by decide +kernel⟩,
    ⟨(ce0 runsA 5 ceDecode), 5, by decide +kernel⟩,
    ⟨(runsA.setQueue 0
      { QueueState.idle with waiting := [(0, { words := 1, poison := [], tag := 0, data := List.replicate 30 0#8 ++ toLE 2 5 })] }), 5,
      ((0, { words := 1, poison := [], tag := 0, data := List.replicate 30 0#8 ++ toLE 2 5 })), by decide +kernel⟩⟩

theorem test_witness_TransmitRowsComplete :
    (∃ s : State, ∃ e : Nat, ∃ h : Nat, ∃ w : WorkItem, Memory.wf s = true ∧ plannedItem s e h = some w ∧ teRuns s e = true ∧ s.get
      (R.TE_STATE_STATE e) = teIdle ∧ (s.frame h).isSome = true ∧ workRefused s e w = true) ∧
    (∃ s : State, ∃ e : Nat, ∃ h : Nat, ∃ w : WorkItem, Memory.wf s = true ∧ plannedItem s e h = some w ∧ teRuns s e = true ∧ s.get
      (R.TE_STATE_STATE e) = teIdle ∧ (s.frame h).isSome = true ∧ workRefused s e w = false) ∧
    (∃ s : State, ∃ e : Nat, ∃ w : WorkItem, Memory.wf s = true ∧ (s.te e).item = some w ∧ s.get (R.TE_STATE_STATE e) = teRun) :=
  ⟨⟨(let u := (runsA.set (R.TE_CFG_EN 0) 1); (u.putPsm { u.psm with plan := [{ work0 7 2 with atten := 64 }] }).putSched
      { u.sched with frames := [(7, tframe (some 3))] }), 0, 7, ({ work0 7 2 with atten := 64 }), by decide +kernel⟩,
    ⟨(let u := (runsA.set (R.TE_CFG_EN 0) 1); (u.putPsm { u.psm with plan := [work0 7 2] }).putSched
      { u.sched with frames := [(7, tframe (some 3))] }), 0, 7, (work0 7 2), by decide +kernel⟩,
    ⟨(let u := ((runsA.setTe 0 { TeState.idle with item := some (work0 7 2) }).set (R.TE_STATE_STATE 0) teRun); u.setPath 2
      { PathState.idle with interval := some { frames := [(0, 7), (1, 8)], antenna := 1, analog := 3, ramped := true, late := 0, observed := false } }),
      0, (work0 7 2), by decide +kernel⟩⟩

theorem test_witness_MapRowsComplete :
    (∃ s : State, ∃ n : Nat, ∃ trailer : List Byte, ∃ rest : List (Nat × List Byte), Memory.wf s = true ∧ running s = true ∧
      s.imap.trailers = (n, trailer) :: rest ∧ nodeValid s n = true ∧ isIndigo s n = true ∧ natBit (leField trailer 20 1) 5 = false ∧
      s.bit R.IMAP_CFG_EN = true ∧ assocGet s.imap.entries n = none ∧ targetCodes s n (trailerSums trailer) 1 ≠ (List.range 40).map
      (mapCode (presentMap s n)) ∧ s.imap.entries.length < 8192 ∧ 1 < s.get R.IMAP_CFG_MAP_WIN) ∧
    (∃ s : State, ∃ n : Nat, ∃ trailer : List Byte, ∃ rest : List (Nat × List Byte), Memory.wf s = true ∧ running s = true ∧
      s.imap.trailers = (n, trailer) :: rest ∧ nodeValid s n = true ∧ isIndigo s n = true ∧ natBit (leField trailer 20 1) 5 = true ∧ s.bit
      R.IMAP_CFG_EN = false ∧ mapRoom s n = true) ∧
    (∃ s : State, ∃ c : Nat, ∃ f : RxFrame, Memory.wf s = true ∧ running s = true ∧ headFrame s c .stale = some f ∧ f.expected = none) ∧
    (∃ s : State, ∃ n : Nat, ∃ c : Nat, ∃ f : RxFrame, Memory.wf s = true ∧ running s = true ∧ headFrame s c .stale = some f ∧ f.expected
      = some n ∧ nodeValid s n = true ∧ isIndigo s n = true) ∧
    (∃ s : State, ∃ n : Nat, ∃ e : MapEntry, Memory.wf s = true ∧ running s = true ∧ assocGet s.imap.entries n = some e ∧ e.status =
      .hold) ∧
    (∃ s : State, ∃ n : Nat, Memory.wf s = true ∧ running s = true ∧ nodeValid s n = true ∧ isIndigo s n = true ∧ assocGet s.imap.entries
      n = none) ∧
    (∃ s : State, ∃ n : Nat, ∃ rate : Nat, ∃ row : Instr, row ∈ [Instr.imapRateChange n rate, .imapClear n, .imapResend n] ∧ Memory.wf s =
      true ∧ running s = true) :=
  ⟨⟨(let u := (indN.set R.IMAP_CFG_EN 1).set R.IMAP_CFG_MAP_WIN 4; u.putImap { u.imap with trailers := [(5, List.replicate 24 0#8)] }),
      5, (List.replicate 24 0#8), ([]), by decide +kernel⟩,
    ⟨(let u := indN.set R.IMAP_CFG_EN 0; u.putImap { u.imap with trailers := [(5, List.replicate 20 0#8 ++ [0x20#8, 0#8, 0#8, 0#8])] }),
      5, (List.replicate 20 0#8 ++ [0x20#8, 0#8, 0#8, 0#8]), ([]), by decide +kernel⟩,
    ⟨staleU, 0, (headOr staleU 0 .stale), by decide +kernel⟩,
    ⟨staleN, 5, 0, (headOr staleN 0 .stale), by decide +kernel⟩,
    ⟨(withMap indN 5 (mapE .hold)), 5, (mapE .hold), by decide +kernel⟩,
    ⟨indN, 5, by decide +kernel⟩,
    ⟨(withMap indN 5 (mapE .hold)), 5, 1, _, List.mem_cons_self, by decide +kernel⟩⟩

theorem test_witness_SlotRowsComplete :
    (∃ s : State, Memory.wf s = true ∧ slotframesRun s = true) ∧
    (∃ s : State, Memory.wf s = true ∧ s.pair.takeAsn = false ∧ s.bit R.PSM_STATUS_RUN = true) ∧
    (∃ s : State, ∃ c : Nat, ∃ i : QueueItem, Memory.wf s = true ∧ running s = true ∧ headReport s c = some i ∧ rxKind s i = .poison) ∧
    (∃ s : State, ∃ c : Nat, ∃ i : QueueItem, Memory.wf s = true ∧ running s = true ∧ headReport s c = some i ∧ rxKind s i = .node) ∧
    (∃ s : State, ∃ n : Nat, ∃ e : Exchange, Memory.wf s = true ∧ running s = true ∧ exchangeOf s n = some e ∧ e.closed = false ∧ e.sent =
      true ∧ e.replied = false ∧ nodeValid s n = true) ∧
    (∃ s : State, ∃ n : Nat, ∃ e : Exchange, Memory.wf s = true ∧ running s = true ∧ exchangeOf s n = some e ∧ e.closed = false ∧ (e.sent
      = false ∨ e.replied = true)) ∧
    (∃ s : State, ∃ n : Nat, ∃ e : Exchange, ∃ h : Nat, ∃ f : TxFrame, Memory.wf s = true ∧ running s = true ∧ exchangeOf s n = some e ∧
      e.follow = some h ∧ s.frame h = some f ∧ f.sends ≠ 0 ∧ f.sends < s.get R.PSM_SUP_DL_RETRY) ∧
    (∃ s : State, ∃ c : Nat, ∃ f : RxFrame, ∃ eui : Nat, ∃ ie : List Byte, ∃ k : Nat, ∃ d : State, Memory.wf s = true ∧ running s = true ∧
      headFrame s c .join = some f ∧ f.extSource = some eui ∧ joinContent f = some ie ∧ d = dropReport s c ∧ addressedHere d f = true ∧
      nodesClosed d = false ∧ f.expected = none ∧ joinSlotAt d f.asn = some k ∧ claims d = true ∧ d.bit R.PSM_CTRL_EN = true ∧ d.bit
      R.PSM_STATUS_RUN = true) ∧
    (∃ s : State, ∃ c : Nat, ∃ f : RxFrame, ∃ eui : Nat, ∃ ie : List Byte, ∃ d : State, Memory.wf s = true ∧ running s = true ∧ headFrame
      s c .join = some f ∧ f.extSource = some eui ∧ joinContent f = some ie ∧ d = dropReport s c ∧ addressedHere d f = false) :=
  ⟨⟨slotState, by decide +kernel⟩,
    ⟨slotState, by decide +kernel⟩,
    ⟨(slotState.setQueue 0 { QueueState.idle with lanes := [(0, [{ pkt with poison := [0] }])] }), 0, ({ pkt with poison := [0] }),
      by decide +kernel⟩,
    ⟨(withRx slotState 0 (rxItem 0x40 0 (List.replicate 9 0#8) [] none)), 0, (rxItem 0x40 0 (List.replicate 9 0#8) [] none),
      by decide +kernel⟩,
    ⟨(withEx slotState 5 { exch with sent := true }), 5, ({ exch with sent := true }), by decide +kernel⟩,
    ⟨(withEx slotState 5 exch), 5, exch, by decide +kernel⟩,
    ⟨(((withEx slotState 5 { exch with follow := some 9, ackDue := some (0, 100) }).setFrame 9 { tframe (some 5) with sends := 1 }).set
      R.PSM_SUP_DL_RETRY 3), 5, ({ exch with follow := some 9, ackDue := some (0, 100) }), 9, ({ tframe (some 5) with sends := 1 }),
      by decide +kernel⟩,
    ⟨(joinSt 0xABC), 1, (headOr (joinSt 0xABC) 1 .join), 77, ([1#8, 0#8]), 1, (dropReport (joinSt 0xABC) 1), by decide +kernel⟩,
    ⟨(joinSt 0xABD), 1, (headOr (joinSt 0xABD) 1 .join), 77, ([1#8, 0#8]), (dropReport (joinSt 0xABD) 1), by decide +kernel⟩⟩

theorem test_witness_DriftAndTrackRowsComplete :
    (∃ s : State, ∃ o : Observation, ∃ rest : List Observation, Memory.wf s = true ∧ s.drift.inputs = o :: rest ∧ nodeValid s o.node =
      false) ∧
    (∃ s : State, ∃ o : Observation, ∃ rest : List Observation, Memory.wf s = true ∧ s.drift.inputs = o :: rest ∧ nodeValid s o.node =
      true) ∧
    (∃ s : State, ∃ n : Nat, Memory.wf s = true ∧ running s = true ∧ nodeValid s n = true ∧ modelValid s n = true ∧ 2 ^ 23 * slotLenNs s ≤
      silentNs s n) ∧
    (∃ s : State, ∃ n : Nat, Memory.wf s = true ∧ running s = true ∧ nodeValid s n = true) ∧
    (∃ s : State, ∃ n : Nat, ∃ k : Nat, ∃ row : Instr, row ∈ [Instr.wakeSetTarget n k, .wakeResetModel n] ∧ Memory.wf s = true ∧ running s
      = true ∧ nodeValid s n = false) ∧
    (∃ s : State, ∃ c : Nat, ∃ f : RxFrame, ∃ tPoll : Nat, ∃ d : State, ∃ tau : Nat, Memory.wf s = true ∧ running s = true ∧ headFrame s c
      .beacon = some f ∧ beaconContent f = some (f.asn, tPoll) ∧ d = dropReport s c ∧ d.get R.TRACK_STATUS_STATE ≠ trackOff ∧ trackedSlot
      d f = true ∧ tau = d.drift.trackLast.elim 0 (fun t => f.began - t) ∧ 2 * ((f.began : Int) - slotStartOf d f.asn - (tPoll * 1000 :
      Nat) - d.getI R.TRACK_PHASE_PHI - realDiv 21 (d.getI R.TRACK_DRIFT_D * tau) (1024 * 1000000)).natAbs ≤ trackWindow d tau * 1000) ∧
    (∃ s : State, ∃ c : Nat, ∃ f : RxFrame, ∃ asn : Nat, ∃ tPoll : Nat, ∃ d : State, Memory.wf s = true ∧ running s = true ∧ headFrame s c
      .beacon = some f ∧ beaconContent f = some (asn, tPoll) ∧ asn ≠ f.asn ∧ d = dropReport s c ∧ d.get R.TRACK_STATUS_STATE ≠ trackOff ∧
      trackedSlot d f = true ∧ d.drift.trackFrame ≠ some (slotframeOf d f.asn)) ∧
    (∃ s : State, Memory.wf s = true ∧ running s = true ∧ s.bit R.TRACK_CFG_EN = true ∧ s.get R.TRACK_STATUS_STATE ≠ trackOff ∧
      s.drift.trackFrame ≠ some (slotframeOf s s.asnNat)) :=
  ⟨⟨(slotState.putDrift { slotState.drift with inputs := [{ node := 6, asn := 0, timing := none, carrier := 0, snr := 0 }] }),
      ({ node := 6, asn := 0, timing := none, carrier := 0, snr := 0 }), ([]), by decide +kernel⟩,
    ⟨(slotState.putDrift
      { slotState.drift with inputs := [{ node := 5, asn := 0, timing := some (10, 2, 3, 4), carrier := 0, snr := 4 }] }),
      ({ node := 5, asn := 0, timing := some (10, 2, 3, 4), carrier := 0, snr := 4 }), ([]), by decide +kernel⟩,
    ⟨(((putFit slotState 5 { fitOf slotState 5 with valid := true }).set R.DRIFT_CFG_EN 1).set R.FWD_STATUS_NODE_MIN 60000), 5,
      by decide +kernel⟩,
    ⟨slotState, 5, by decide +kernel⟩,
    ⟨slotState, 6, 3, _, List.mem_cons_self, by decide +kernel⟩,
    ⟨(trackSt 0), 1, (headOr (trackSt 0) 1 .beacon), 2, (dropReport (trackSt 0) 1), 0, by decide +kernel⟩,
    ⟨(trackSt 3), 1, (headOr (trackSt 3) 1 .beacon), 3, 2, (dropReport (trackSt 3) 1), by decide +kernel⟩,
    ⟨((((slotState.set R.TRACK_CFG_EN 1).set R.TRACK_STATUS_STATE 3).set R.TRACK_WIN_W_MAX 2000).set R.TRACK_STATUS_MISSES 15),
      by decide +kernel⟩⟩

theorem test_witness_EhtRowsComplete :
    (∃ s : State, ∃ q : Requester, ∃ way : Nat, ∃ flip : Nat, ∃ i : Nat, Memory.wf s = true ∧ openTo s q = true ∧ (ehtLookup (ehtUpset s
      (ehtEuiOf s q) way flip) (ehtEuiOf s q)).2 = some i) ∧
    (∃ s : State, ∃ q : Requester, Memory.wf s = true ∧ openTo s q = true ∧ (ehtLookup s (ehtEuiOf s q)).2 = none ∧ ehtMet s (ehtEuiOf s
      q) = []) ∧
    (∃ s : State, ∃ q : Requester, ∃ index : Nat, ∃ u : State, ∃ r : Nat, ∃ i : Nat, Memory.wf s = true ∧ openTo s q = true ∧ fwdFull q =
      true ∧ ehtInsert s (ehtEuiOf s q) index = (u, r, i)) ∧
    (∃ s : State, ∃ q : Requester, Memory.wf s = true ∧ openTo s q = true ∧ fwdFull q = true ∧ (ehtDelete s (ehtEuiOf s q)).2 = true) ∧
    (∃ s : State, ∃ q : Requester, ∃ index : Nat, ∃ row : Instr, row ∈ [Instr.ehtInsert q index, .ehtDelete q] ∧ Memory.wf s = true ∧
      openTo s q = true ∧ fwdFull q = false) ∧
    (∃ s : State, Memory.wf s = true) :=
  ⟨⟨eh77, .host, 1, 3, 5, by decide +kernel⟩,
    ⟨(eh77.set (R.EHT_EUI_LO_EUI 0) 78), .host, by decide +kernel⟩,
    ⟨eh77, .control, 6, ((ehtInsert eh77 (ehtEuiOf eh77 .control) 6).1), ((ehtInsert eh77 (ehtEuiOf eh77 .control) 6).2.1), ((ehtInsert
      eh77 (ehtEuiOf eh77 .control) 6).2.2), by decide +kernel⟩,
    ⟨eh77, .control, by decide +kernel⟩,
    ⟨eh77, .app, 6, _, List.mem_cons_self, by decide +kernel⟩,
    ⟨(eh77.putFwd { eh77.fwd with pass := [ehtBucket eh77 77], rebuild := [3] }), by decide +kernel⟩⟩

theorem test_witness_HeardByRowsComplete :
    (∃ s : State, ∃ c : Nat, ∃ n : Nat, Memory.wf s = true ∧ running s = true ∧ clusterPresent s.part c = true ∧ n < lineCount s) ∧
    (∃ s : State, ∃ c : Nat, ∃ n : Nat, ∃ path : Nat, Memory.wf s = true ∧ running s = true ∧ clusterPresent s.part c = true ∧ n <
      lineCount s ∧ pathCluster path = c ∧ s.bit (R.Q_STAT_RESETTING (4 + c)) = false ∧ (s.queue (4 + c)).lane 1 = [] ∧ (s.queue (4 +
      c)).waiting = [] ∧ hbBad s c n = false ∧ (hbFields (s.hbAt c n)).static_ = false ∧ (hbFields (s.hbAt c n)).valid = false) ∧
    (∃ s : State, ∃ c : Nat, ∃ n : Nat, ∃ path : Nat, Memory.wf s = true ∧ running s = true ∧ clusterPresent s.part c = true ∧ n <
      lineCount s ∧ pathCluster path = c ∧ s.bit (R.Q_STAT_RESETTING (4 + c)) = false ∧ (s.queue (4 + c)).lane 1 = [] ∧ (s.queue (4 +
      c)).waiting = [] ∧ hbBad s c n = false ∧ (hbFields (s.hbAt c n)).static_ = true) ∧
    (∃ s : State, Memory.wf s = true ∧ running s = true) ∧
    (∃ s : State, ∃ c : Nat, Memory.wf s = true ∧ running s = true ∧ clusterPresent s.part c = true) ∧
    (∃ s : State, ∃ c : Nat, ∃ n : Nat, Memory.wf s = true ∧ running s = true ∧ clusterPresent s.part c = true ∧ hbBad s c n = false ∧
      (hbFields (s.hbAt c n)).static_ = false) ∧
    (∃ s : State, ∃ c : Nat, ∃ n : Nat, Memory.wf s = true ∧ running s = true ∧ clusterPresent s.part c = true ∧ hbBad s c n = false ∧
      (hbFields (s.hbAt c n)).static_ = true) ∧
    (∃ s : State, ∃ q : Requester, ∃ c : Nat, ∃ n : Nat, ∃ row : Instr, row ∈ [Instr.hbRead q c n, .hbInvalidate q c n] ∧ Memory.wf s =
      true ∧ running s = true ∧ clusterPresent s.part c = false) ∧
    (∃ s : State, ∃ i : Nat, ∃ w : Nat, Memory.wf s = true ∧ running s = true ∧ i < 16384 ∧ infraRefused s i w = false) ∧
    (∃ s : State, ∃ i : Nat, ∃ w : Nat, Memory.wf s = true ∧ running s = true ∧ i < 16384 ∧ infraRefused s i w = true) ∧
    (∃ s : State, ∃ q : Requester, Memory.wf s = true ∧ running s = true ∧ q ≠ .control) ∧
    (∃ s : State, ∃ i : Nat, ∃ flip : Nat, ∃ u : State, ∃ l : List Nat, ∃ r : State × Nat, Memory.wf s = true ∧ running s = true ∧ s.bit
      R.INFRA_CTRL_EN = true ∧ u = (if flip = 0 then s else s.setWord (R.INFRA_ENT (i % 16384)) (s.word (R.INFRA_ENT (i % 16384)) ^^^
      BitVec.ofNat 32 flip)) ∧ l = infraListed u ++ (u.fwd.shadow.map fun c => c.1).filter (fun i => !(infraListed u).contains i) ∧ r =
      l.foldl compareEntry (u, 0)) ∧
    (∃ s : State, ∃ c : Nat, ∃ n : Nat, Memory.wf s = true ∧ running s = true ∧ clusterPresent s.part c = true ∧ hbBad s c n = true) :=
  ⟨⟨fw, 1, 5, by decide +kernel⟩,
    ⟨fw, 0, 5, 2, by decide +kernel⟩,
    ⟨(fw.setHb 0 5 { path := 9, ant := 1, bkt := 3, static_ := true, valid := true, tb := 0 }), 0, 5, 2, by decide +kernel⟩,
    ⟨(fw.setHb 1 5 { path := 9, ant := 1, bkt := 3, static_ := false, valid := true, tb := 0 }), by decide +kernel⟩,
    ⟨(fw.setHb 1 5 { path := 9, ant := 1, bkt := 3, static_ := false, valid := true, tb := 0 }), 1, by decide +kernel⟩,
    ⟨(fw.setHb 1 5 { path := 9, ant := 1, bkt := 3, static_ := false, valid := true, tb := 0 }), 1, 5, by decide +kernel⟩,
    ⟨(fw.setHb 1 5 { path := 9, ant := 1, bkt := 3, static_ := true, valid := true, tb := 0 }), 1, 5, by decide +kernel⟩,
    ⟨(runs .nz2560a), .app, 3, 5, _, List.mem_cons_self, by decide +kernel⟩,
    ⟨fw, 16383, 7, by decide +kernel⟩,
    ⟨(fw.setWord (R.INFRA_ENT 0) (BitVec.ofNat 32 (2 ^ 21 + 5))), 16383, (2 ^ 21 + 5), by decide +kernel⟩,
    ⟨fw, .host, by decide +kernel⟩,
    ⟨(fw.set R.INFRA_CTRL_EN 1), 16383, 4, ((fw.set R.INFRA_CTRL_EN 1).setWord (R.INFRA_ENT 16383) ((fw.set R.INFRA_CTRL_EN 1).word
      (R.INFRA_ENT 16383) ^^^ BitVec.ofNat 32 4)), (infraListed ((fw.set R.INFRA_CTRL_EN 1).setWord (R.INFRA_ENT 16383) ((fw.set
      R.INFRA_CTRL_EN 1).word (R.INFRA_ENT 16383) ^^^ BitVec.ofNat 32 4)) ++ (((fw.set R.INFRA_CTRL_EN 1).setWord (R.INFRA_ENT 16383)
      ((fw.set R.INFRA_CTRL_EN 1).word (R.INFRA_ENT 16383) ^^^ BitVec.ofNat 32 4)).fwd.shadow.map fun c => c.1).filter (fun i =>
      !(infraListed ((fw.set R.INFRA_CTRL_EN 1).setWord (R.INFRA_ENT 16383) ((fw.set R.INFRA_CTRL_EN 1).word (R.INFRA_ENT 16383) ^^^
      BitVec.ofNat 32 4))).contains 16383)), ((infraListed ((fw.set R.INFRA_CTRL_EN 1).setWord (R.INFRA_ENT 16383) ((fw.set
      R.INFRA_CTRL_EN 1).word (R.INFRA_ENT 16383) ^^^ BitVec.ofNat 32 4)) ++ (((fw.set R.INFRA_CTRL_EN 1).setWord (R.INFRA_ENT 16383)
      ((fw.set R.INFRA_CTRL_EN 1).word (R.INFRA_ENT 16383) ^^^ BitVec.ofNat 32 4)).fwd.shadow.map fun c => c.1).filter (fun i =>
      !(infraListed ((fw.set R.INFRA_CTRL_EN 1).setWord (R.INFRA_ENT 16383) ((fw.set R.INFRA_CTRL_EN 1).word (R.INFRA_ENT 16383) ^^^
      BitVec.ofNat 32 4))).contains 16383)).foldl compareEntry (((fw.set R.INFRA_CTRL_EN 1).setWord (R.INFRA_ENT 16383) ((fw.set
      R.INFRA_CTRL_EN 1).word (R.INFRA_ENT 16383) ^^^ BitVec.ofNat 32 4)), 0)), by decide +kernel⟩,
    ⟨(fw.setHbWord 1 5 1), 1, 5, by decide +kernel⟩⟩

theorem test_witness_StoreRowsComplete :
    (∃ s : State, ∃ q : Requester, ∃ n : Nat, Memory.wf s = true ∧ openTo s q = true ∧ ncsCheck s n = 0 ∧ linePoisoned s n = false) ∧
    (∃ s : State, ∃ q : Requester, ∃ n : Nat, Memory.wf s = true ∧ openTo s q = true ∧ ncsCheck s n = 0 ∧ linePoisoned s n = true) ∧
    (∃ s : State, ∃ q : Requester, ∃ n : Nat, Memory.wf s = true ∧ openTo s q = true ∧ fwdFull q = true ∧ s.bit R.PAIR_STATUS_CLAIM_OUT =
      true ∧ ncsCheck s n = 0 ∧ linePoisoned s n = false) ∧
    (∃ s : State, ∃ q : Requester, ∃ n : Nat, Memory.wf s = true ∧ openTo s q = true ∧ fwdFull q = true ∧ s.bit R.PAIR_STATUS_CLAIM_OUT =
      true ∧ ncsCheck s n = 0) ∧
    (∃ s : State, ∃ q : Requester, ∃ n : Nat, ∃ row : Instr, row ∈ [Instr.ncsMaskedWrite q n, .ncsZeroLine q n] ∧ Memory.wf s = true ∧
      openTo s q = true ∧ (fwdFull q = false ∨ s.bit R.PAIR_STATUS_CLAIM_OUT = false)) ∧
    (∃ s : State, ∃ q : Requester, Memory.wf s = true ∧ openTo s q = true ∧ s.bit R.PAIR_STATUS_CLAIM_OUT = true ∧ s.fwd.snap.job = .idle) ∧
    (∃ s : State, Memory.wf s = true ∧ s.fwd.snap.job = .clearing) ∧
    (∃ s : State, Memory.wf s = true ∧ running s = true ∧ followsPeer s = false) :=
  ⟨⟨fw, .host, 5, by decide +kernel⟩,
    ⟨(fw.putMi { fw.mi with bad := [(.ncs, 5)] }), .host, 5, by decide +kernel⟩,
    ⟨((fw.set (R.NCS_MASK_LO_MASK 2) 0xFF).set (R.NCS_DATA_DATA 0 2) 0x12345678), .control, 5, by decide +kernel⟩,
    ⟨(withMap fw 5 (mapE .hold)), .control, 5, by decide +kernel⟩,
    ⟨fw, .host, 5, _, List.mem_cons_self, by decide +kernel⟩,
    ⟨fw, .control, by decide +kernel⟩,
    ⟨(snapJob fw .clearing), by decide +kernel⟩,
    ⟨fw, by decide +kernel⟩⟩

theorem test_witness_SnapshotRowsComplete :
    (∃ s : State, ∃ off : Nat, ∃ len : Nat, Memory.wf s = true ∧ running s = true ∧ s.pcie.linkUp = true ∧ len ≠ 0 ∧ 2 ^ 26 < off + len) ∧
    (∃ s : State, ∃ off : Nat, ∃ len : Nat, Memory.wf s = true ∧ running s = true ∧ s.pcie.linkUp = true ∧ len ≠ 0 ∧ off + len ≤ 2 ^ 26) ∧
    (∃ s : State, ∃ off : Nat, ∃ len : Nat, Memory.wf s = true ∧ running s = true ∧ s.pcie.linkUp = true ∧ len ≠ 0 ∧ off + len ≤ 2 ^ 26 ∧
      (off + len - 1) / 64 = off / 64 ∧ linePoisoned s (off / 64) = false) ∧
    (∃ s : State, Memory.wf s = true ∧ running s = true ∧ s.fwd.snap.job = .idle) ∧
    (∃ s : State, Memory.wf s = true ∧ running s = true ∧ s.fwd.snap.job ≠ .idle) ∧
    (∃ s : State, Memory.wf s = true ∧ running s = true ∧ s.fwd.snap.job = .exporting) ∧
    (∃ s : State, ∃ l : List (Nat × Line), Memory.wf s = true ∧ running s = true ∧ s.fwd.snap.job = .exporting ∧ l = s.fwd.snap.lines.map
      (fun c => (c.1, if linePoisoned s c.1 then rebuildLine s else c.2))) ∧
    (∃ s : State, ∃ d : List Byte, Memory.wf s = true ∧ running s = true ∧ restoreRefusal s d = 0) ∧
    (∃ s : State, ∃ d : List Byte, Memory.wf s = true ∧ running s = true ∧ restoreRefusal s d ≠ 0) ∧
    (∃ s : State, Memory.wf s = true ∧ running s = true ∧ s.fwd.snap.job = .restoring) :=
  ⟨⟨(fw.putPcie { fw.pcie with linkUp := true }), 67108800, 65, by decide +kernel⟩,
    ⟨(fw.putPcie { fw.pcie with linkUp := true }), 320, 128, by decide +kernel⟩,
    ⟨(fw.putPcie { fw.pcie with linkUp := true }), 320, 64, by decide +kernel⟩,
    ⟨fw, by decide +kernel⟩,
    ⟨(snapJob fw .restoring), by decide +kernel⟩,
    ⟨(snapJob fw .exporting), by decide +kernel⟩,
    ⟨(snapJob fw .exporting), ((snapJob fw .exporting).fwd.snap.lines.map (fun c => (c.1, if linePoisoned (snapJob fw .exporting) c.1 then
      rebuildLine (snapJob fw .exporting) else c.2))), by decide +kernel⟩,
    ⟨((fw.set R.PAIR_STATUS_ROLE 2).set R.SNAP_SKIP_SKIP 1024), descr, by decide +kernel⟩,
    ⟨((fw.set R.PAIR_STATUS_ROLE 2).set R.SNAP_SKIP_SKIP 1023), descr, by decide +kernel⟩,
    ⟨(snapJob fw .restoring), by decide +kernel⟩⟩

theorem test_witness_ScheduleRowsComplete :
    (∃ s : State, Memory.wf s = true ∧ running s = true ∧ s.bit R.PSM_STATUS_RUN = true ∧ slotOffset s ((s.asnNat + 1) % 2 ^ 40) = 0 ∧
      s.sched.epochPending = true) ∧
    (∃ s : State, ∃ first : Nat, Memory.wf s = true ∧ running s = true ∧ s.bit R.PSM_STATUS_RUN = true ∧ first = (s.asnNat + 1) % 2 ^ 40 ∧
      slotOffset s first = 0) ∧
    (∃ s : State, ∃ p : Nat, Memory.wf s = true ∧ powered s = true ∧ pathPresent s.part p = true) ∧
    (∃ s : State, Memory.wf s = true ∧ running s = true) :=
  ⟨⟨((((slotState.set R.PSM_SLOT_SF_LEN 0)).putSched { slotState.sched with epochPending := true }).set R.SCHED_STATUS_EPOCH 65535),
      by decide +kernel⟩,
    ⟨((slotState.set R.PSM_SLOT_SF_LEN 0).putSched { slotState.sched with epochPending := true }), 1, by decide +kernel⟩,
    ⟨(slotState.set (R.PATH_SCHED_DRAINED 31) 1), 31, by decide +kernel⟩,
    ⟨(slotState.setQueue 21 { QueueState.idle with lanes := [(0, [pkt]), (3, [pkt, pkt])] }), by decide +kernel⟩⟩

theorem test_witness_QueueRowsComplete :
    (∃ s : State, ∃ q : Nat, ∃ lane : Nat, ∃ w : Nat, Memory.wf s = true ∧ q < 32 ∧ queuePresent s.part q = true ∧ 0 < w ∧ w ≤ laneSize q
      lane) ∧
    (∃ s : State, ∃ q : Nat, ∃ lane : Nat, ∃ i : QueueItem, Memory.wf s = true ∧ q < 32 ∧ canEnter (s.queue q) q lane i = true ∧ s.bit
      (R.Q_STAT_RESETTING q) = false ∧ (∀ p ∈ (s.queue q).waiting, p.1 ≠ lane)) ∧
    (∃ s : State, ∃ q : Nat, Memory.wf s = true ∧ q < 32 ∧ s.bit (R.Q_STAT_RESETTING q) = false) ∧
    (∃ s : State, ∃ q : Nat, ∃ l : Nat, ∃ i : QueueItem, ∃ t : State, Memory.wf s = true ∧ q < 32 ∧ s.bit (R.Q_STAT_RESETTING q) = false ∧
      popItem s q = (t, some (l, i)) ∧ i.poisoned = false) ∧
    (∃ s : State, ∃ q : Nat, ∃ l : Nat, ∃ i : QueueItem, ∃ t : State, Memory.wf s = true ∧ q < 32 ∧ s.bit (R.Q_STAT_RESETTING q) = false ∧
      popItem s q = (t, some (l, i)) ∧ i.poisoned = true) ∧
    (∃ s : State, ∃ q : Nat, Memory.wf s = true ∧ q < 32 ∧ s.bit (R.Q_STAT_RESETTING q) = false ∧ (q = mba ∨ q = mbc) ∧ headItem (s.queue
      q).lanes = none) ∧
    (∃ s : State, ∃ q : Nat, ∃ w : Bool, ∃ held : Nat, ∃ row : Instr, row ∈ [Instr.queuePointerMismatch q w held, .queueTestForce q held]
      ∧ Memory.wf s = true ∧ q < 32 ∧ s.bit (R.Q_STAT_RESETTING q) = false ∧ queuePresent s.part q = true) ∧
    (∃ s : State, ∃ q : Nat, Memory.wf s = true ∧ q < 32 ∧ s.bit (R.Q_STAT_RESETTING q) = true) :=
  ⟨⟨runsA, 3, 0, 2, by decide +kernel⟩,
    ⟨(runsA.setQueue 31 { QueueState.idle with lanes := [(0, [pkt])] }), 31, 0, pkt, by decide +kernel⟩,
    ⟨(runsA.setQueue 31 { QueueState.idle with lanes := [(0, [pkt])], waiting := [(0, pkt)] }), 31, by decide +kernel⟩,
    ⟨(runsA.setQueue 3 { QueueState.idle with lanes := [(0, [pkt])], waiting := [(0, pkt)] }), 3, 0, pkt, ((popItem (runsA.setQueue 3
      { QueueState.idle with lanes := [(0, [pkt])], waiting := [(0, pkt)] }) 3).1), by decide +kernel⟩,
    ⟨(runsA.setQueue 3 { QueueState.idle with lanes := [(0, [{ pkt with poison := [1] }])], waiting := [(0, pkt)] }), 3, 0,
      ({ pkt with poison := [1] }), ((popItem (runsA.setQueue 3
      { QueueState.idle with lanes := [(0, [{ pkt with poison := [1] }])], waiting := [(0, pkt)] }) 3).1), by decide +kernel⟩,
    ⟨(fwdAll runsA), 31, by decide +kernel⟩,
    ⟨(fwdAll (runsA.setQueue 31
      { QueueState.idle with lanes := [(0, [pkt])], waiting := [(0, pkt)], tags := [3], building := some pkt })), 31, true, 0, _,
      List.mem_cons_self, by decide +kernel⟩,
    ⟨(fwdAll ((runsA.setQueue 31 { QueueState.idle with lost := 4, waiting := [(0, pkt)], tags := [3] }).set (R.Q_STAT_RESETTING 31) 1)),
      31, by decide +kernel⟩⟩

theorem test_witness_PcieRowsComplete :
    (∃ s : State, Memory.wf s = true) ∧
    (∃ s : State, Memory.wf s = true ∧ s.pcie.perst = true ∧ powered s = true) ∧
    (∃ s : State, ∃ on_ : Bool, Memory.wf s = true ∧ on_ ≠ s.pcie.bme) ∧
    (∃ s : State, ∃ v : Nat, Memory.wf s = true ∧ v < 64) ∧
    (∃ s : State, ∃ r : Nat, Memory.wf s = true ∧ r < 16 ∧ ringActive s r = true ∧ (s.ring r).wbProd ≠ (s.ring r).msgProd ∧ (s.ring
      r).msgTime = 0 ∧ vectorMasked s (s.get (R.EVR_CTRL_VECTOR r)) = false) :=
  ⟨⟨(fwdAll (hqOn (ringOn (runsA.setRing 3 { waiting := [evrec], drops := 0, wbProd := 0, msgProd := 0, msgTime := 0 }) 3) 2)),
      by decide +kernel⟩,
    ⟨(fwdAll (runsA.putPcie { runsA.pcie with perst := true })), by decide +kernel⟩,
    ⟨(fwdAll (hqOn (ringOn (runsA.setRing 3 { waiting := [evrec], drops := 0, wbProd := 0, msgProd := 0, msgTime := 0 }) 3) 2)), false,
      by decide +kernel⟩,
    ⟨(runsA.putPcie { runsA.pcie with pba := 2#64 ^ 63 }), 63, by decide +kernel⟩,
    ⟨((ringOn (runsA.setRing 3 { waiting := [], drops := 0, wbProd := 5, msgProd := 0, msgTime := 0 }) 3).putPcie
      { runsA.pcie with bme := true, msix := cellsWrite msixCell [] 15 0#32 }), 3, by decide +kernel⟩⟩

theorem test_witness_EventRowsComplete :
    (∃ s : State, ∃ r : Nat, ∃ code : Nat, Memory.wf s = true ∧ r < 16 ∧ 1 ≤ code % 256 ∧ code % 256 ≤ eventTypes (code / 256) ∧
      eventMasked s (code / 256) (code % 256) = false ∧ rateLimited code = false ∧ ringActive s (eventRing s (code / 256)) = false ∧
      s.ev.backlog.length < 256) ∧
    (∃ s : State, ∃ r : Nat, ∃ e : EventRecord, ∃ rest : List EventRecord, Memory.wf s = true ∧ r < 16 ∧ (s.ring r).waiting = e :: rest ∧
      ringActive s r = true ∧ (s.get (R.EVR_PROD_INDEX r) + 2 ^ 32 - s.get (R.EVR_CONS_INDEX r)) % 2 ^ 32 < ringSize s r) ∧
    (∃ s : State, ∃ r : Nat, Memory.wf s = true ∧ r < 16 ∧ ringActive s r = true ∧ (s.ring r).wbProd ≠ s.get (R.EVR_PROD_INDEX r)) ∧
    (∃ s : State, ∃ r : Nat, ∃ v : Nat, Memory.wf s = true ∧ r < 16 ∧ s.bit (R.EVR_CTRL_EN r) = false ∧ natBit v 31 = true ∧ 6 ≤ natBits v
      24 5 ∧ natBits v 24 5 ≤ 16 ∧ s.get (R.EVR_BASE_LO_ADDR r) % 4096 = 0 ∧ s.get (R.EVR_WB_LO_ADDR r) % 8 = 0) ∧
    (∃ s : State, ∃ r : Nat, ∃ v : Nat, Memory.wf s = true ∧ r < 16 ∧ s.bit (R.EVR_CTRL_EN r) = false ∧ natBit v 31 = true ∧ (natBits v 24
      5 < 6 ∨ 16 < natBits v 24 5)) ∧
    (∃ s : State, ∃ r : Nat, Memory.wf s = true ∧ r < 16 ∧ s.bit (R.EVR_CTRL_EN r) = false) ∧
    (∃ s : State, ∃ r : Nat, Memory.wf s = true ∧ r < 16 ∧ s.bit (R.EVR_CTRL_EN r) = true) ∧
    (∃ s : State, ∃ r : Nat, ∃ v : Nat, Memory.wf s = true ∧ r < 16 ∧ s.bit (R.EVR_CTRL_EN r) = true ∧ (s.get (R.EVR_PROD_INDEX r) + 2 ^
      32 - v % 2 ^ 32) % 2 ^ 32 ≤ ringSize s r) :=
  ⟨⟨(fwdAll runsA), 0, 0x0201, by decide +kernel⟩,
    ⟨(ringOn (runsA.setRing 3 { waiting := [evrec], drops := 0, wbProd := 5, msgProd := 0, msgTime := 0 }) 3), 3, evrec, ([]),
      by decide +kernel⟩,
    ⟨(ringOn (runsA.setRing 3 { waiting := [evrec], drops := 0, wbProd := 5, msgProd := 0, msgTime := 0 }) 3), 3, by decide +kernel⟩,
    ⟨(runsA.putPcie { runsA.pcie with bme := true }), 15, (2 ^ 40 + 2 ^ 31 + 16 * 2 ^ 24), by decide +kernel⟩,
    ⟨runsA, 15, (2 ^ 40 + 2 ^ 31 + 17 * 2 ^ 24), by decide +kernel⟩,
    ⟨runsA, 15, by decide +kernel⟩,
    ⟨(ringOn runsA 15), 15, by decide +kernel⟩,
    ⟨((ringOn runsA 15).set (R.EVR_PROD_INDEX 15) 64), 15, (2 ^ 32), by decide +kernel⟩⟩

theorem test_witness_HostQueueRowsComplete :
    (∃ s : State, ∃ h : Nat, ∃ v : Nat, Memory.wf s = true ∧ h < 8 ∧ s.bit (R.HQ_CTRL_EN h) = false ∧ natBit v 31 = true ∧ 4 ≤ natBits v
      24 5 ∧ natBits v 24 5 ≤ 12 ∧ s.get (R.HQ_BASE_LO_ADDR h) % 4096 = 0 ∧ s.get (R.HQ_WB_LO_ADDR h) % 4 = 0) ∧
    (∃ s : State, ∃ h : Nat, ∃ v : Nat, Memory.wf s = true ∧ h < 8 ∧ s.bit (R.HQ_CTRL_EN h) = true ∧ natBit v 31 = false) ∧
    (∃ s : State, ∃ h : Nat, ∃ v : Nat, Memory.wf s = true ∧ h < 8 ∧ s.bit (R.HQ_CTRL_EN h) = true ∧ (v % 2 ^ 32 + 2 ^ 32 - s.get
      (R.HQ_HEAD_INDEX h)) % 2 ^ 32 ≤ 2 ^ s.get (R.HQ_CTRL_LOG2SZ h)) ∧
    (∃ s : State, ∃ h : Nat, ∃ v : Nat, Memory.wf s = true ∧ h < 8 ∧ s.bit (R.HQ_CTRL_EN h) = true ∧ 2 ^ s.get (R.HQ_CTRL_LOG2SZ h) < (v %
      2 ^ 32 + 2 ^ 32 - s.get (R.HQ_HEAD_INDEX h)) % 2 ^ 32) ∧
    (∃ s : State, ∃ h : Nat, ∃ desc : List Byte, Memory.wf s = true ∧ h < 8 ∧ h < 4 ∧ hqActive s h = true ∧ s.get (R.HQ_HEAD_INDEX h) ≠
      s.get (R.HQ_TAIL_INDEX h) ∧ descMalformed desc = true) ∧
    (∃ s : State, ∃ h : Nat, Memory.wf s = true ∧ h < 8 ∧ h < 4 ∧ hqActive s h = true ∧ s.get (R.HQ_HEAD_INDEX h) ≠ s.get (R.HQ_TAIL_INDEX
      h)) :=
  ⟨⟨(runsA.putPcie { runsA.pcie with bme := true }), 7, (2 ^ 40 + 2 ^ 31 + 12 * 2 ^ 24), by decide +kernel⟩,
    ⟨(hqOn runsA 7), 7, (2 ^ 30), by decide +kernel⟩,
    ⟨(hqOn runsA 7), 7, 16, by decide +kernel⟩,
    ⟨(hqOn runsA 7), 7, 17, by decide +kernel⟩,
    ⟨(fwdAll (hqOn runsA 3)), 3, (List.replicate 32 0#8), by decide +kernel⟩,
    ⟨(fwdAll (hqOn fw 3)), 3, by decide +kernel⟩⟩

theorem test_witness_EthernetRowsComplete :
    (∃ s : State, ∃ e : Nat, ∃ data : List Byte, Memory.wf s = true ∧ ethUp s e = true ∧ 1536 < data.length + 4) ∧
    (∃ s : State, ∃ e : Nat, ∃ data : List Byte, Memory.wf s = true ∧ ethUp s e = true ∧ 64 ≤ data.length + 4 ∧ data.length + 4 ≤ 1536) ∧
    (∃ s : State, ∃ e : Nat, Memory.wf s = true ∧ ethPresent s.part e = true ∧ s.bit (R.ETH_CTRL_EN e) = true ∧ s.bit (R.ETH_STATUS_LINK
      e) = false) ∧
    (∃ s : State, ∃ e : Nat, Memory.wf s = true ∧ ethUp s e = true) ∧
    (∃ s : State, ∃ e : Nat, Memory.wf s = true ∧ ethUp s e = true ∧ (ethPort s e).verifying = true ∧ (ethPort s e).attempts + 1 < 3) ∧
    (∃ s : State, ∃ e : Nat, Memory.wf s = true ∧ ethUp s e = true ∧ (ethPort s e).verifying = true ∧ 3 ≤ (ethPort s e).attempts + 1) ∧
    (∃ s : State, ∃ e : Nat, Memory.wf s = true ∧ ethUp s e = true ∧ (ethPort s e).verifying = true) ∧
    (∃ s : State, ∃ node : Nat, ∃ tag : Nat, ∃ size : Nat, ∃ x : Reassembly, Memory.wf s = true ∧ s.eth.contexts.find? (contextIs node tag
      size) = some x) ∧
    (∃ s : State, ∃ e : Nat, ∃ h : Nat, Memory.wf s = true ∧ e < 2 ∧ (ethPort s e).sending = some h) :=
  ⟨⟨(fwdAll (ethOn fw 1)), 1, (List.replicate 1533 0#8), by decide +kernel⟩,
    ⟨(fwdAll (ethOn fw 1)), 1, (List.replicate 1532 0#8), by decide +kernel⟩,
    ⟨(fwdAll ((ethOn fw 1).set (R.ETH_STATUS_LINK 1) 0)), 1, by decide +kernel⟩,
    ⟨(putEgress (ethSend fw 1) 1 3 [5]), 1, by decide +kernel⟩,
    ⟨(ethVer fw 0 1), 0, by decide +kernel⟩,
    ⟨(ethVer fw 0 2), 0, by decide +kernel⟩,
    ⟨(ethVer fw 0 2), 0, by decide +kernel⟩,
    ⟨(fw.putEth { fw.eth with contexts := [{ node := 5, tag := 1, size := 100, fragments := [], started := 0 }] }), 5, 1, 100,
      ({ node := 5, tag := 1, size := 100, fragments := [], started := 0 }), by decide +kernel⟩,
    ⟨(putEgress (ethSend fw 1) 1 3 [5]), 1, 4, by decide +kernel⟩⟩

theorem test_witness_TimeRowsComplete :
    (∃ s : State, ∃ q : Requester, ∃ v : Nat, ∃ inc : Nat, Memory.wf s = true ∧ inc = v % 256 * 2 ^ 32 + s.tb.stagedInc ∧ tbOwner s q =
      true ∧ ((inc : Int) - 0x200000000).natAbs * 1000000 ≤ 500 * 2 * 2 ^ 32) ∧
    (∃ s : State, ∃ q : Requester, ∃ v : Nat, ∃ inc : Nat, Memory.wf s = true ∧ inc = v % 256 * 2 ^ 32 + s.tb.stagedInc ∧ tbOwner s q =
      true ∧ 500 * 2 * 2 ^ 32 < ((inc : Int) - 0x200000000).natAbs * 1000000) ∧
    (∃ s : State, ∃ q : Requester, ∃ v : Nat, ∃ x : Int, Memory.wf s = true ∧ x = signedOf 64 (v * 2 ^ 32 + s.tb.stagedStep) ∧ tbOwner s q
      = true ∧ s.tb.pendingStep = none ∧ s.bit R.PSM_STATUS_RUN = true ∧ x.natAbs ≤ s.get R.TB_CTRL_STEP_MAX * 1000) ∧
    (∃ s : State, ∃ q : Requester, ∃ v : Nat, ∃ x : Int, Memory.wf s = true ∧ x = signedOf 64 (v * 2 ^ 32 + s.tb.stagedStep) ∧ tbOwner s q
      = true ∧ s.tb.pendingStep = none ∧ s.bit R.PSM_STATUS_RUN = false) ∧
    (∃ s : State, ∃ q : Requester, Memory.wf s = true ∧ tbOwner s q = true ∧ bridged s = false) ∧
    (∃ s : State, ∃ q : Requester, ∃ v : Nat, ∃ row : Instr, row ∈ [Instr.tbIncCommit q v, .tbStepCommit q v, .tbServoWrite q v] ∧
      Memory.wf s = true ∧ tbOwner s q = false) ∧
    (∃ s : State, Memory.wf s = true) ∧
    (∃ s : State, Memory.wf s = true ∧ s.tb.running = true ∧ 2 ≤ s.get R.TIME_QUALITY_CODE) ∧
    (∃ s : State, Memory.wf s = true ∧ s.tb.running = true) ∧
    (∃ s : State, ∃ n : Nat, ∃ rising : Bool, ∃ width : Nat, Memory.wf s = true ∧ n < 4 ∧ s.bit (R.TSI_CTRL_EN n) = true ∧ s.tb.running =
      true ∧ 8 ≤ width ∧ edgeSelected (s.get (R.TSI_CTRL_EDGE n)) rising = true ∧ assocGet s.tb.tsiLast n = none) ∧
    (∃ s : State, ∃ n : Nat, ∃ rising : Bool, ∃ width : Nat, ∃ time : Nat, ∃ last : Nat, Memory.wf s = true ∧ s.bit (R.TSI_CTRL_EN n) =
      true ∧ s.tb.running = true ∧ 8 ≤ width ∧ edgeSelected (s.get (R.TSI_CTRL_EDGE n)) rising = true ∧ assocGet s.tb.tsiLast n = some
      last ∧ (s.advanceTo time).now < last + 1000) ∧
    (∃ s : State, ∃ v : Nat, Memory.wf s = true ∧ natBit v 31 = false) ∧
    (∃ s : State, ∃ n : Nat, ∃ v : Nat, Memory.wf s = true ∧ natBit v 31 = true ∧ tsoLegal ((s.set (R.TSO_CTRL_MODE n) (natBits v 30
      1)).set (R.TSO_CTRL_POL n) (natBits v 29 1)) n = false) ∧
    (∃ s : State, ∃ n : Nat, ∃ v : Nat, Memory.wf s = true ∧ natBit v 31 = true ∧ tsoLegal ((s.set (R.TSO_CTRL_MODE n) (natBits v 30
      1)).set (R.TSO_CTRL_POL n) (natBits v 29 1)) n = true) ∧
    (∃ s : State, ∃ n : Nat, Memory.wf s = true ∧ s.bit (R.TSO_CTRL_EN n) = true ∧ tsoAwaits s n = true ∧ s.tb.running = true ∧ (s.tso
      n).pulse = false) ∧
    (∃ s : State, ∃ n : Nat, Memory.wf s = true ∧ (s.tso n).pulse = true) :=
  ⟨⟨runsA, .control, (2 ^ 40 + 2), ((2 ^ 40 + 2) % 256 * 2 ^ 32 + runsA.tb.stagedInc), by decide +kernel⟩,
    ⟨runsA, .control, (2 ^ 40 + 3), ((2 ^ 40 + 3) % 256 * 2 ^ 32 + runsA.tb.stagedInc), by decide +kernel⟩,
    ⟨slotState, .control, 0, (signedOf 64 (0 * 2 ^ 32 + slotState.tb.stagedStep)), by decide +kernel⟩,
    ⟨(slotState.set R.PSM_STATUS_RUN 0), .control, (2 ^ 31 + 5), (signedOf 64 ((2 ^ 31 + 5) * 2 ^ 32 + (slotState.set R.PSM_STATUS_RUN
      0).tb.stagedStep)), by decide +kernel⟩,
    ⟨slotState, .control, by decide +kernel⟩,
    ⟨slotState, .app, (2 ^ 32 - 1), _, List.mem_cons_self, by decide +kernel⟩,
    ⟨(slotState.putTb { slotState.tb with ns := -5#64, frac := 9#32 }), by decide +kernel⟩,
    ⟨((tbOn runsA).set R.TIME_QUALITY_CODE 4), by decide +kernel⟩,
    ⟨((tbOn runsA).set R.TIME_QUALITY_CODE 4), by decide +kernel⟩,
    ⟨((tbOn runsA).set (R.TSI_CTRL_EN 3) 1), 3, true, 8, by decide +kernel⟩,
    ⟨(((tbOn runsA).set (R.TSI_CTRL_EN 3) 1).putTb { (tbOn runsA).tb with tsiLast := [(3, 10)] }), 3, true, 8, 1000, 10,
      by decide +kernel⟩,
    ⟨((tbOn runsA).set (R.TSO_CTRL_EN 3) 1), (2 ^ 30), by decide +kernel⟩,
    ⟨((tbOn runsA).set (R.TSO_WIDTH_WIDTH 3) 8), 3, (2 ^ 31 + 2 ^ 30), by decide +kernel⟩,
    ⟨(((tbOn runsA).set (R.TSO_WIDTH_WIDTH 3) 8).set (R.TSO_PER_PER 3) 16), 3, (2 ^ 31 + 2 ^ 30), by decide +kernel⟩,
    ⟨((((tbOn runsA).set (R.TSO_WIDTH_WIDTH 3) 8).set (R.TSO_CTRL_EN 3) 1).setTso 3 { (runsA.tso 3) with target := 1000 }), 3,
      by decide +kernel⟩,
    ⟨(((((tbOn runsA).set (R.TSO_WIDTH_WIDTH 3) 8).set (R.TSO_CTRL_EN 3) 1).setTso 3
      { (runsA.tso 3) with target := 1000, pulse := true, ends := 2000 })), 3, by decide +kernel⟩⟩

theorem test_witness_TimerRowsComplete :
    (∃ s : State, ∃ n : Nat, Memory.wf s = true ∧ n < 32 ∧ gtCounts s n = true ∧ s.bit (R.GT_CMPCFG_CMP_EN n) = true) ∧
    (∃ s : State, ∃ n : Nat, Memory.wf s = true ∧ n < 32 ∧ gtCounts s n = true) ∧
    (∃ s : State, ∃ n : Nat, ∃ rising : Bool, Memory.wf s = true ∧ n < 32 ∧ s.get (R.GT_CFG_INSEL n) < 38 ∧ gtCounts s n = true ∧ s.get
      (R.GT_CFG_MODE n) = 2 ∧ edgeSelected (s.get (R.GT_CFG_EDGE n)) rising = true ∧ s.get (R.GT_CFG_EPSC n) ≤ (s.gt n).edges) ∧
    (∃ s : State, ∃ n : Nat, ∃ rising : Bool, Memory.wf s = true ∧ n < 32 ∧ s.get (R.GT_CFG_INSEL n) < 38 ∧ gtCounts s n = true ∧ s.get
      (R.GT_CFG_MODE n) = 2 ∧ edgeSelected (s.get (R.GT_CFG_EDGE n)) rising = true ∧ (s.gt n).edges < s.get (R.GT_CFG_EPSC n)) ∧
    (∃ s : State, ∃ n : Nat, ∃ k : Nat, Memory.wf s = true ∧ n < 32 ∧ k = s.tb.gtWrites.findIdx (fun w => decide (w.1 = n)) ∧ k <
      s.tb.gtWrites.length) ∧
    (∃ s : State, ∃ n : Nat, ∃ v : Nat, ∃ rest : List (Nat × Nat × Nat), Memory.wf s = true ∧ n < 32 ∧ s.tb.gtWrites = (n, 0x04, v) ::
      rest) ∧
    (∃ s : State, ∃ n : Nat, ∃ u : State, Memory.wf s = true ∧ n < 32 ∧ u = timersApply s ∧ gtLinked u n = false) ∧
    (∃ s : State, ∃ n : Nat, ∃ u : State, Memory.wf s = true ∧ n < 32 ∧ u = timersApply s ∧ gtLinked u n = true) :=
  ⟨⟨((((gtOn runsA 4).set (R.GT_CFG_LINK 4) 1).set (R.GT_CMPCFG_CMP_EN 4) 1).set (R.GT_CMP_VALUE 5) 9), 4, by decide +kernel⟩,
    ⟨((((gtOn runsA 4).set (R.GT_CFG_LINK 4) 1).set (R.GT_CMPCFG_CMP_EN 4) 1).set (R.GT_CMP_VALUE 5) 9), 4, by decide +kernel⟩,
    ⟨(((((gtOn runsA 4).set (R.GT_CFG_LINK 4) 1).set (R.GT_CFG_MODE 4) 2).set (R.GT_CNT_COUNT 4) 77).set (R.GT_STAT_CAP 4) 1), 4, true,
      by decide +kernel⟩,
    ⟨(((((gtOn runsA 4).set (R.GT_CFG_LINK 4) 1).set (R.GT_CFG_MODE 4) 2).set (R.GT_CNT_COUNT 4) 77).set (R.GT_CFG_EPSC 4) 1), 4, true,
      by decide +kernel⟩,
    ⟨(let u := gtOn runsA 4; u.putTb { u.tb with gtWrites := [(5, 0x10, 7), (4, 0x0C, 5), (4, 0x10, 7)] }), 4, 1, by decide +kernel⟩,
    ⟨(let u := gtOn runsA 4; u.putTb { u.tb with gtWrites := [(4, 0x04, 2 ^ 40 + 5), (4, 0x10, 7)] }), 4, (2 ^ 40 + 5), ([(4, 0x10, 7)]),
      by decide +kernel⟩,
    ⟨((gtOn runsA 5).set (R.GT_CNT_COUNT 5) 77), 5, (timersApply ((gtOn runsA 5).set (R.GT_CNT_COUNT 5) 77)), by decide +kernel⟩,
    ⟨(((gtOn runsA 30).set (R.GT_CFG_LINK 30) 1).set (R.GT_CNT_COUNT 31) 77), 30, (timersApply (((gtOn runsA 30).set (R.GT_CFG_LINK 30)
      1).set (R.GT_CNT_COUNT 31) 77)), by decide +kernel⟩⟩

theorem test_witness_CoreAndWatchdogRowsComplete :
    (∃ s : State, ∃ c : Nat, Memory.wf s = true ∧ cpuWorks s c = true) ∧
    (∃ s : State, ∃ c : Nat, Memory.wf s = true ∧ running s = true ∧ c < 4 ∧ s.get (R.CPU_STAT_STATE c) = 2) ∧
    (∃ s : State, ∃ kind : Nat, ∃ addr : Nat, Memory.wf s = true ∧ running s = true ∧ s.get R.APP_STAT_STATE = appRuns ∧ kind < 2 ∧
      appMemory addr = true) ∧
    (∃ s : State, Memory.wf s = true) ∧
    (∃ s : State, Memory.wf s = true ∧ running s = true ∧ s.get R.APP_STAT_STATE = appRuns) ∧
    (∃ s : State, Memory.wf s = true ∧ running s = true ∧ s.bit R.APP_CTRL_HOLD = false) ∧
    (∃ s : State, Memory.wf s = true ∧ running s = true ∧ s.bit R.APP_CTRL_HOLD = true ∧ appLoaded s = true) ∧
    (∃ s : State, ∃ ok : Bool, Memory.wf s = true ∧ running s = true ∧ s.app.reloading = true ∧ s.bit R.APP_CTRL_HOLD = false ∧
      appVerified s ok = true) ∧
    (∃ s : State, ∃ ok : Bool, Memory.wf s = true ∧ running s = true ∧ s.app.reloading = true ∧ s.bit R.APP_CTRL_HOLD = false ∧
      appVerified s ok = false) ∧
    (∃ s : State, Memory.wf s = true ∧ running s = true) ∧
    (∃ s : State, ∃ q : Requester, ∃ v : Nat, Memory.wf s = true ∧ running s = true ∧ (q ≠ Requester.app ∨ v ≠ 0x5A17)) ∧
    (∃ s : State, Memory.wf s = true ∧ wdogCounts s = true ∧ s.bit R.WDOG_STAT_WARN = false) ∧
    (∃ s : State, Memory.wf s = true ∧ wdogCounts s = true ∧ s.app.firstReset = none) :=
  ⟨⟨(fwdAll (runsA.set (R.CPU_STAT_STATE 3) 1)), 3, by decide +kernel⟩,
    ⟨(fwdAll ((runsA.set (R.CPU_STAT_STATE 3) 2).putCpus [(3, { expiries := [0, 0, 0], beat := 0, beatAt := 0 })])), 3, by decide +kernel⟩,
    ⟨(appOn runsA), 1, 0x2007FFFF, by decide +kernel⟩,
    ⟨(appOn runsA), by decide +kernel⟩,
    ⟨(appOn runsA), by decide +kernel⟩,
    ⟨(fwdAll (appOn (runsA.set R.APP_CTRL_HOLD 0))), by decide +kernel⟩,
    ⟨(withApp ((runsA.set R.APP_CTRL_HOLD 1).set R.APP_STAT_HELD 1)), by decide +kernel⟩,
    ⟨(let t := withApp (runsA.set R.APP_CTRL_HOLD 0); t.putApp { t.app with reloading := true }), true, by decide +kernel⟩,
    ⟨(let t := (runsA.set R.APP_CTRL_HOLD 0); t.putApp { t.app with reloading := true }), true, by decide +kernel⟩,
    ⟨(wdOn runsA), by decide +kernel⟩,
    ⟨(wdOn runsA), .app, (2 ^ 32 + 0x5A17), by decide +kernel⟩,
    ⟨(fwdAll (wdOn runsA)), by decide +kernel⟩,
    ⟨(fwdAll (wdOn runsA)), by decide +kernel⟩⟩

theorem test_witness_MailboxRowsComplete :
    (∃ s : State, Memory.wf s = true ∧ running s = true ∧ s.bit (R.Q_STAT_RESETTING mba) = false ∧ laneRoom (s.queue mba) mba 0 1 = true) ∧
    (∃ s : State, Memory.wf s = true ∧ running s = true ∧ s.bit (R.Q_STAT_RESETTING mba) = false ∧ laneRoom (s.queue mba) mba 0 1 = false) ∧
    (∃ s : State, Memory.wf s = true ∧ running s = true ∧ s.bit (R.Q_STAT_RESETTING mbc) = false ∧ headItem (s.queue mbc).lanes = none) ∧
    (∃ s : State, ∃ l : Nat, ∃ i : QueueItem, Memory.wf s = true ∧ running s = true ∧ s.bit (R.Q_STAT_RESETTING mbc) = false ∧ headItem
      (s.queue mbc).lanes = some (l, i) ∧ (s.queue mbc).taken + 1 < i.words) ∧
    (∃ s : State, ∃ t : State, ∃ m : List Byte, Memory.wf s = true ∧ takeRequest s (fun k => !([2, 3, 4].contains k)) = some (t, m) ∧
      leField m 0 2 ≠ 1) ∧
    (∃ s : State, ∃ t : State, ∃ m : List Byte, ∃ p : List Byte, Memory.wf s = true ∧ takeRequest s (fun k => !([2, 3, 4].contains k)) =
      some (t, m) ∧ leField m 0 2 = 1 ∧ requestPayload m (fun _ => true) = some p) ∧
    (∃ s : State, ∃ t : State, ∃ m : List Byte, ∃ p : List Byte, Memory.wf s = true ∧ takeRequest s (fun k => decide (k = 2)) = some (t,
      m) ∧ requestPayload m (fun n => decide (n = 4)) = some p) ∧
    (∃ s : State, ∃ t : State, ∃ m : List Byte, ∃ p : List Byte, Memory.wf s = true ∧ takeRequest s (fun k => decide (k = 3)) = some (t,
      m) ∧ requestPayload m (fun n => decide (n = 4)) = some p ∧ leBytes p < lineCount t ∧ linePoisoned t (leBytes p) = false) ∧
    (∃ s : State, ∃ t : State, ∃ m : List Byte, ∃ p : List Byte, Memory.wf s = true ∧ takeRequest s (fun k => decide (k = 4)) = some (t,
      m) ∧ requestPayload m (fun n => decide (n = 0)) = some p) :=
  ⟨⟨(withMail runsA (mail 1 0 [])), by decide +kernel⟩,
    ⟨(runsA.setQueue mba { QueueState.idle with lanes := [(0, [{ words := 1024, poison := [], tag := 0, data := [] }])] }),
      by decide +kernel⟩,
    ⟨runsA, by decide +kernel⟩,
    ⟨(runsA.setQueue mbc { QueueState.idle with lanes := [(0, [{ words := 3, poison := [], tag := 0, data := [] }])], taken := 1 }), 0,
      ({ words := 3, poison := [], tag := 0, data := [] }), by decide +kernel⟩,
    ⟨(withMail runsA (mail 77 0 [])), ((((takeRequest (withMail runsA (mail 77 0 [])) (fun k => !([2, 3, 4].contains k))).getD ((withMail
      runsA (mail 77 0 [])), [])).1)), ((((takeRequest (withMail runsA (mail 77 0 [])) (fun k => !([2, 3, 4].contains k))).getD ((withMail
      runsA (mail 77 0 [])), [])).2)), by decide +kernel⟩,
    ⟨(withMail runsA (mail 1 3 [1#8, 2#8, 3#8])), ((((takeRequest (withMail runsA (mail 1 3 [1#8, 2#8, 3#8])) (fun k => !([2, 3,
      4].contains k))).getD ((withMail runsA (mail 1 3 [1#8, 2#8, 3#8])), [])).1)), ((((takeRequest (withMail runsA (mail 1 3 [1#8, 2#8,
      3#8])) (fun k => !([2, 3, 4].contains k))).getD ((withMail runsA (mail 1 3 [1#8, 2#8, 3#8])), [])).2)), ([1#8, 2#8, 3#8]),
      by decide +kernel⟩,
    ⟨(withMail runsA (mail 2 4 [1#8, 2#8, 3#8, 4#8])), ((((takeRequest (withMail runsA (mail 2 4 [1#8, 2#8, 3#8, 4#8])) (fun k =>
      decide (k = 2))).getD ((withMail runsA (mail 2 4 [1#8, 2#8, 3#8, 4#8])), [])).1)), ((((takeRequest (withMail runsA (mail 2 4 [1#8,
      2#8, 3#8, 4#8])) (fun k => decide (k = 2))).getD ((withMail runsA (mail 2 4 [1#8, 2#8, 3#8, 4#8])), [])).2)), ([1#8, 2#8, 3#8,
      4#8]), by decide +kernel⟩,
    ⟨(withMail runsA (mail 3 4 [1#8, 2#8, 3#8, 0#8])), ((((takeRequest (withMail runsA (mail 3 4 [1#8, 2#8, 3#8, 0#8])) (fun k =>
      decide (k = 3))).getD ((withMail runsA (mail 3 4 [1#8, 2#8, 3#8, 0#8])), [])).1)), ((((takeRequest (withMail runsA (mail 3 4 [1#8,
      2#8, 3#8, 0#8])) (fun k => decide (k = 3))).getD ((withMail runsA (mail 3 4 [1#8, 2#8, 3#8, 0#8])), [])).2)), ([1#8, 2#8, 3#8,
      0#8]), by decide +kernel⟩,
    ⟨(withMail runsA (mail 4 0 [])), ((((takeRequest (withMail runsA (mail 4 0 [])) (fun k => decide (k = 4))).getD ((withMail runsA (mail
      4 0 [])), [])).1)), ((((takeRequest (withMail runsA (mail 4 0 [])) (fun k => decide (k = 4))).getD ((withMail runsA (mail 4 0 [])),
      [])).2)), ([]), by decide +kernel⟩⟩

theorem test_witness_InterruptRowsComplete :
    (∃ s : State, Memory.wf s = true ∧ running s = true) ∧
    (∃ s : State, ∃ n : Nat, Memory.wf s = true ∧ running s = true ∧ n < 32) ∧
    (∃ s : State, ∃ src : Nat, Memory.wf s = true ∧ running s = true ∧ aicReserved src = false ∧ aicIsLevel s src = false) ∧
    (∃ s : State, ∃ src : Nat, Memory.wf s = true ∧ running s = true ∧ aicReserved src = true) ∧
    (∃ s : State, ∃ q : Requester, Memory.wf s = true ∧ running s = true ∧ q ≠ Requester.app) ∧
    (∃ s : State, ∃ src : Nat, Memory.wf s = true ∧ running s = true ∧ s.app.ignored = [] ∧ s.app.lingering = [] ∧ aicBest s = some src) ∧
    (∃ s : State, Memory.wf s = true ∧ running s = true ∧ s.app.ignored = [] ∧ s.app.lingering = [] ∧ aicBest s = none) ∧
    (∃ s : State, ∃ p : Nat, ∃ rest : List (Nat × Nat), ∃ src : Nat, Memory.wf s = true ∧ running s = true ∧ s.app.stack = (p, src % 1024)
      :: rest) ∧
    (∃ s : State, Memory.wf s = true ∧ running s = true ∧ s.app.stack = []) ∧
    (∃ s : State, ∃ k : Nat, Memory.wf s = true ∧ running s = true ∧ k < 8) :=
  ⟨⟨(runsA.set R.GPIO_OUT_BITS 5), by decide +kernel⟩,
    ⟨(runsA.set (R.GPIO_CFG_IRQ 31) 1), 31, by decide +kernel⟩,
    ⟨runsA, 95, by decide +kernel⟩,
    ⟨runsA, 96, by decide +kernel⟩,
    ⟨runsA, .host, by decide +kernel⟩,
    ⟨((((runsA.set (R.AIC_PEND_BITS 2) 0x80000000).set (R.AIC_EN_BITS 2) 0x80000000).set R.AIC_SWI_SWI 0x8000).set (R.AIC_SRC_PRIO 95) 3),
      95, by decide +kernel⟩,
    ⟨((((runsA.set (R.AIC_PEND_BITS 2) 0x80000000).set (R.AIC_EN_BITS 2) 0x40000000).set R.AIC_SWI_SWI 0x8000).set (R.AIC_SRC_PRIO 95) 3),
      by decide +kernel⟩,
    ⟨(runsA.putApp { runsA.app with stack := [(3, 31), (4, 5)] }), 3, ([(4, 5)]), (1024 + 31), by decide +kernel⟩,
    ⟨runsA, by decide +kernel⟩,
    ⟨((((runsA.set (R.AIC_PEND_BITS 2) 0x80000000).set (R.AIC_EN_BITS 2) 0x40000000).set R.AIC_SWI_SWI 0x8000).set (R.AIC_SRC_PRIO 95) 3),
      7, by decide +kernel⟩⟩

theorem test_witness_SignedCommandRowsComplete :
    (∃ s : State, ∃ q : Requester, ∃ b : List Byte, ∃ row op, (row, op) ∈ [(Instr.installEpoch q, 1), (.raiseDistrictGeneration q, 2),
      (.revokeDistrict q, 3), (.revokeEpoch q, 4), (.zeroize q, 5), (.programOwnerHash q, 6), (.revokeOwnerSlot q, 7), (.debugToken q, 8)]
      ∧ Memory.wf s = true ∧ running s = true ∧ b = commandBytes s q ∧ sigOp b = op ∧ commandBusy s q = true) ∧
    (∃ s : State, ∃ q : Requester, ∃ b : List Byte, ∃ row op, (row, op) ∈ [(Instr.installEpoch q, 1), (.raiseDistrictGeneration q, 2),
      (.revokeDistrict q, 3), (.revokeEpoch q, 4), (.zeroize q, 5), (.programOwnerHash q, 6), (.revokeOwnerSlot q, 7), (.debugToken q, 8)]
      ∧ Memory.wf s = true ∧ running s = true ∧ b = commandBytes s q ∧ sigOp b = op ∧ commandBusy s q = false ∧ sigCheck s b ≠ 0) ∧
    (∃ s : State, ∃ q : Requester, ∃ b : List Byte, Memory.wf s = true ∧ running s = true ∧ b = commandBytes s q ∧ commandBusy s q = false
      ∧ sigOp b = 1 ∧ installRefused s (sigArg b 0 2) (sigArg b 2 5) = false) ∧
    (∃ s : State, ∃ q : Requester, ∃ b : List Byte, Memory.wf s = true ∧ running s = true ∧ b = commandBytes s q ∧ commandBusy s q = false
      ∧ sigOp b = 2 ∧ districtRefused s b = false ∧ (s.tree.slots.map fun p => p.1).Nodup ∧ (∀ i, i ∈ liveSlots s → cellsWf zeroCell
      (s.tree.slot i).districts = true ∧ districtGen (s.tree.slot i) (sigArg b 0 2) < 15)) ∧
    (∃ s : State, ∃ q : Requester, ∃ b : List Byte, Memory.wf s = true ∧ running s = true ∧ b = commandBytes s q ∧ commandBusy s q = false
      ∧ sigOp b = 3 ∧ districtRefused s b = false ∧ (∀ i, i ∈ liveSlots s → cellsWf zeroCell (s.tree.slot i).districts = true)) ∧
    (∃ s : State, ∃ q : Requester, ∃ b : List Byte, ∃ i : Nat, Memory.wf s = true ∧ running s = true ∧ b = commandBytes s q ∧ commandBusy
      s q = false ∧ sigOp b = 4 ∧ slotOfEpoch s (sigArg b 0 2) = some i) ∧
    (∃ s : State, ∃ q : Requester, ∃ b : List Byte, Memory.wf s = true ∧ running s = true ∧ b = commandBytes s q ∧ sigOp b = 5) ∧
    (∃ s : State, ∃ q : Requester, ∃ b : List Byte, Memory.wf s = true ∧ running s = true ∧ b = commandBytes s q ∧ commandBusy s q = false
      ∧ sigOp b = 6 ∧ sigArg b 0 1 < 4 ∧ (s.otp.owners.getD (sigArg b 0 1) (none, false)).1 = none) ∧
    (∃ s : State, ∃ q : Requester, ∃ b : List Byte, ∃ h : BitVec 256, ∃ o : BitVec 256, ∃ k : Nat, Memory.wf s = true ∧ running s = true ∧
      b = commandBytes s q ∧ commandBusy s q = false ∧ sigOp b = 7 ∧ sigArg b 0 1 < 4 ∧ s.otp.owners[sigArg b 0 1]? = some (some h, false)
      ∧ sigArg b 0 1 ≠ sigSlot b ∧ k < 4 ∧ k ≠ sigArg b 0 1 ∧ s.otp.owners[k]? = some (some o, false)) ∧
    (∃ s : State, ∃ q : Requester, ∃ b : List Byte, Memory.wf s = true ∧ running s = true ∧ b = commandBytes s q ∧ sigOp b = 8) :=
  ⟨⟨((sigBusy (sigFor 1 [] runsA 0))), .host, (commandBytes ((sigBusy (sigFor 1 [] runsA 0))) .host), _, _, List.mem_cons_self,
      by decide +kernel⟩,
    ⟨((sigFor 1 [] runsA 0)), .host, (commandBytes ((sigFor 1 [] runsA 0)) .host), _, _, List.mem_cons_self, by decide +kernel⟩,
    ⟨(sigFor 1 [(5, 5), (6, 0x100)] (runsA.putTree { runsA.tree with slots := [(0, epoch1)] }) 0), .host, (commandBytes (sigFor 1 [(5, 5),
      (6, 0x100)] (runsA.putTree { runsA.tree with slots := [(0, epoch1)] }) 0) .host), by decide +kernel⟩,
    ⟨(sigFor 2 [(5, 2)] (withTree runsA) 0), .host, (commandBytes (sigFor 2 [(5, 2)] (withTree runsA) 0) .host), by decide +kernel⟩,
    ⟨(sigFor 3 [(5, 2)] (withTree runsA) 0), .host, (commandBytes (sigFor 3 [(5, 2)] (withTree runsA) 0) .host), by decide +kernel⟩,
    ⟨(sigFor 4 [(5, 3)] (withTree runsA) 0), .host, (commandBytes (sigFor 4 [(5, 3)] (withTree runsA) 0) .host), 0, by decide +kernel⟩,
    ⟨(sigFor 5 [] (withTree runsA) 0), .host, (commandBytes (sigFor 5 [] (withTree runsA) 0) .host), by decide +kernel⟩,
    ⟨(sigFor 6 [] (withTree runsA) 0), .host, (commandBytes (sigFor 6 [] (withTree runsA) 0) .host), by decide +kernel⟩,
    ⟨(let t := sigFor 7 [(5, 1)] (withTree runsA) 0; t.putOtp
      { t.otp with owners := [(some 1#256, false), (some 2#256, false), (none, false), (none, false)] }), .host, (commandBytes (let t := sigFor 7 [(5, 1)] (withTree runsA) 0; t.putOtp
      { t.otp with owners := [(some 1#256, false), (some 2#256, false), (none, false), (none, false)] }) .host), (2#256), (1#256), 0,
      by decide +kernel⟩,
    ⟨(sigFor 8 [] (withTree runsA) 0), .host, (commandBytes (sigFor 8 [] (withTree runsA) 0) .host), by decide +kernel⟩⟩

theorem test_witness_SecurityRowsComplete :
    (∃ s : State, ∃ tag : CacheTag, ∃ f : RxFrame, ∃ rest : List (CacheTag × RxFrame), Memory.wf s = true ∧ s.sec.deriving_ = (tag, f) ::
      rest) ∧
    (∃ s : State, Memory.wf s = true ∧ running s = true ∧ enginesLeft s 2 ≠ [] ∧ enginesLeft s 3 ≠ []) ∧
    (∃ s : State, Memory.wf s = true ∧ running s = true ∧ (enginesLeft s 2 = [] ∨ enginesLeft s 3 = [])) ∧
    (∃ s : State, Memory.wf s = true ∧ running s = true ∧ s.bit R.SEC_STATUS_ERROR = false) ∧
    (∃ s : State, ∃ fails : List (Nat × Nat), Memory.wf s = true ∧ running s = true ∧ s.bit R.SEC_STATUS_ERROR = false ∧ someFails s
      allEngines fails = true) ∧
    (∃ s : State, ∃ k : Nat, Memory.wf s = true ∧ k ≤ 5 ∧ running s = true ∧ s.bit R.SEC_STATUS_ERROR = false) ∧
    (∃ s : State, ∃ k : Nat, Memory.wf s = true ∧ 5 < k ∧ running s = true) ∧
    (∃ s : State, Memory.wf s = true ∧ running s = true ∧ s.bit R.SEC_STATUS_ERROR = false ∧ s.get R.SEC_ST_PERIOD ≠ 0) ∧
    (∃ s : State, ∃ port : Nat, Memory.wf s = true ∧ powered s = true ∧ port < 4 ∧ natBit s.sec.grants port = true) ∧
    (∃ s : State, ∃ e : Nat, Memory.wf s = true ∧ running s = true ∧ e < 2 ∧ s.getBitAt R.SEC_ENG_OK (10 + e) = true ∧ 2 ^ 20 ≤
      s.sec.drbgRequests) :=
  ⟨⟨(runsA.putSec { runsA.sec with deriving_ := [({ level := 2, node := 5, purpose := 0, slot := 0, gen := 0, join := 0 }, rxf)] }),
      ({ level := 2, node := 5, purpose := 0, slot := 0, gen := 0, join := 0 }), rxf, ([]), by decide +kernel⟩,
    ⟨(engOk runsA), by decide +kernel⟩,
    ⟨(runsA.setWord R.SEC_ENG (BitVec.ofNat 32 0)), by decide +kernel⟩,
    ⟨(engOk runsA), by decide +kernel⟩,
    ⟨(engOk runsA), ([(3, 1)]), by decide +kernel⟩,
    ⟨(engOk runsA), 5, by decide +kernel⟩,
    ⟨(engOk runsA), 6, by decide +kernel⟩,
    ⟨((engOk runsA).set R.SEC_ST_PERIOD 4), by decide +kernel⟩,
    ⟨(runsA.putSec { runsA.sec with grants := 8 }), 3, by decide +kernel⟩,
    ⟨(let t := engOk runsA; t.putSec { t.sec with drbgRequests := 2 ^ 20 }), 1, by decide +kernel⟩⟩

theorem test_witness_LineFaultRowsComplete :
    (∃ s : State, ∃ line : Nat, ∃ mem : LineMem, Memory.wf s = true ∧ powered s = true ∧ line < memLines s mem ∧ sramPresent s (lineSram
      mem line) = true ∧ s.mi.subst.contains (mem, line) = false ∧ s.mi.recoveries = [] ∧ s.mi.flipped.contains (mem, line) = false) ∧
    (∃ s : State, ∃ line : Nat, Memory.wf s = true ∧ powered s = true ∧ line < memLines s .ncs ∧ sramPresent s (lineSram .ncs line) = true
      ∧ s.mi.subst.contains (.ncs, line) = false ∧ s.mi.recoveries = [] ∧ peerSource s = true ∧ s.bit R.MI_CFG_PEER_FETCH = true) ∧
    (∃ s : State, ∃ line : Nat, Memory.wf s = true ∧ powered s = true ∧ line < memLines s .ncs ∧ sramPresent s (lineSram .ncs line) = true
      ∧ s.mi.subst.contains (.ncs, line) = false ∧ s.mi.recoveries = [] ∧ (peerSource s && s.bit R.MI_CFG_PEER_FETCH) = false) ∧
    (∃ s : State, ∃ line : Nat, Memory.wf s = true ∧ powered s = true ∧ line < memLines s .control ∧ sramPresent s (lineSram .control
      line) = true ∧ s.mi.subst.contains (.control, line) = false ∧ s.mi.recoveries = []) ∧
    (∃ s : State, ∃ line : Nat, Memory.wf s = true ∧ recoveryOf s .ncs line = none ∧ s.mi.refill.contains line = true) ∧
    (∃ s : State, ∃ line : Nat, ∃ r : Recovery, Memory.wf s = true ∧ recoveryOf s .ncs line = some r) ∧
    (∃ s : State, ∃ line : Nat, ∃ r : Recovery, Memory.wf s = true ∧ recoveryOf s .control line = some r) :=
  ⟨⟨fw, 5, .ncs, by decide +kernel⟩,
    ⟨(linkPeer fw 0 1), 5, by decide +kernel⟩,
    ⟨fw, 5, by decide +kernel⟩,
    ⟨fw, 5, by decide +kernel⟩,
    ⟨(fw.putMi { fw.mi with refill := [5] }), 5, by decide +kernel⟩,
    ⟨(withRec (linkPeer fw 0 1) (recov .ncs 5 .peer)), 5, (recov .ncs 5 .peer), by decide +kernel⟩,
    ⟨(withRec (linkPeer fw 0 1) (recov .control 5 .flash)), 5, (recov .control 5 .flash), by decide +kernel⟩⟩

theorem test_witness_IntegrityRowsComplete :
    (∃ s : State, Memory.wf s = true ∧ running s = true ∧ s.fwd.snap.job ≠ .exporting) ∧
    (∃ s : State, Memory.wf s = true ∧ running s = true ∧ s.fwd.snap.job ≠ .exporting ∧ s.mi.tileDirty = true ∧ (scrubOf s 0).discards <
      3) ∧
    (∃ s : State, ∃ misread : List (Nat × Nat), Memory.wf s = true ∧ running s = true ∧ s.fwd.snap.job ≠ .exporting ∧ s.mi.tileDirty =
      false ∧ tileReadOk s (scrubOf s 0).next misread = true) ∧
    (∃ s : State, ∃ misread : List (Nat × Nat), Memory.wf s = true ∧ running s = true ∧ s.fwd.snap.job ≠ .exporting ∧ s.mi.tileDirty =
      false ∧ tileReadOk s (scrubOf s 0).next misread = false ∧ (scrubOf s 0).retry = false) ∧
    (∃ s : State, ∃ misread : List (Nat × Nat), Memory.wf s = true ∧ running s = true ∧ s.fwd.snap.job ≠ .exporting ∧ s.mi.tileDirty =
      false ∧ tileReadOk s (scrubOf s 0).next misread = false ∧ (scrubOf s 0).retry = true) ∧
    (∃ s : State, ∃ q : Requester, Memory.wf s = true ∧ running s = true ∧ miWriter q = true) ∧
    (∃ s : State, ∃ q : Requester, Memory.wf s = true ∧ running s = true ∧ miWriter q = true ∧ s.get R.PAIR_STATUS_ROLE = roleStandby) ∧
    (∃ s : State, ∃ q : Requester, Memory.wf s = true ∧ running s = true ∧ miWriter q = true ∧ s.get R.PAIR_STATUS_ROLE = roleActive ∧
      peerSource s = true ∧ switchResult s = 1) ∧
    (∃ s : State, ∃ q : Requester, Memory.wf s = true ∧ running s = true ∧ miWriter q = true ∧ s.get R.PAIR_STATUS_ROLE ≠ roleStandby ∧
      s.get R.PAIR_STATUS_ROLE ≠ roleActive) ∧
    (∃ s : State, Memory.wf s = true ∧ running s = true) :=
  ⟨⟨fw, by decide +kernel⟩,
    ⟨(fw.putMi { fw.mi with tileDirty := true }), by decide +kernel⟩,
    ⟨runsA, ([]), by decide +kernel⟩,
    ⟨(staleTile runsA), ([]), by decide +kernel⟩,
    ⟨(let u := staleTile runsA; u.putMi
      { u.mi with scrubs := [(0, { next := 0, discards := 0, retry := true, faults := 0, started := 0 })] }), ([]), by decide +kernel⟩,
    ⟨fw, .host, by decide +kernel⟩,
    ⟨(linkPeer fw 1 0), .host, by decide +kernel⟩,
    ⟨(linkPeer (fw.set R.HJ_STATUS_UP 1) 0 1), .host, by decide +kernel⟩,
    ⟨(linkPeer fw 2 0), .host, by decide +kernel⟩,
    ⟨fw, by decide +kernel⟩⟩

theorem test_witness_ClaimRowsComplete :
    (∃ s : State, ∃ edges : Nat, ∃ role : Nat, ∃ cause : Nat, Memory.wf s = true ∧ 2 ≤ edges ∧ readyToClaim s = true ∧ retaking s = false
      ∧ claimCondition s = some (role, cause, none)) ∧
    (∃ s : State, ∃ edges : Nat, ∃ role : Nat, ∃ cause : Nat, Memory.wf s = true ∧ 2 ≤ edges ∧ readyToClaim s = true ∧ claimCondition s =
      some (role, cause, some 0)) ∧
    (∃ s : State, ∃ edges : Nat, ∃ role : Nat, ∃ cause : Nat, Memory.wf s = true ∧ 2 ≤ edges ∧ readyToClaim s = true ∧ claimCondition s =
      some (role, cause, some 1)) ∧
    (∃ s : State, ∃ asserted : Bool, Memory.wf s = true ∧ hjPresent s.part = true ∧ s.bit R.PAIR_STATUS_CLAIM_IN ≠ asserted ∧ running s =
      false) ∧
    (∃ s : State, Memory.wf s = true ∧ hjPresent s.part = true ∧ s.bit R.PAIR_STATUS_CLAIM_IN = true ∧ running s = true ∧ s.bit
      R.PAIR_STATUS_CLAIM_OUT = false ∧ linkUp s = false) ∧
    (∃ s : State, Memory.wf s = true ∧ hjPresent s.part = true ∧ s.bit R.PAIR_STATUS_CLAIM_IN = true ∧ running s = true) ∧
    (∃ s : State, ∃ u, Memory.wf s = true ∧ u = s.reach (s.pair.keptAt + s.get R.PAIR_CFG_KEEP_MS * 1000000) ∧ running s = true ∧
      s.pair.kept = true ∧ u.bit R.PAIR_STATUS_CLAIM_OUT = true) ∧
    (∃ s : State, ∃ u, Memory.wf s = true ∧ u = s.reach (s.pair.asnAt + 2 * slotLenNs s + 1000000) ∧ running s = true ∧ s.pair.kept = true
      ∧ s.bit R.PSM_STATUS_RUN = true ∧ s.bit R.PAIR_STATUS_CLAIM_OUT = true ∧ u.bit R.PAIR_STATUS_CLAIM_OUT = true) ∧
    (∃ s : State, Memory.wf s = true ∧ running s = true) ∧
    (∃ s : State, ∃ q : Requester, Memory.wf s = true ∧ q ≠ Requester.control) :=
  ⟨⟨claimReady, 2, 2, 0, by decide +kernel⟩,
    ⟨(let t := paired ((runsA.set R.BOOT_STATUS_PHASE 5).putPair { runsA.pair with kept := true, lastRecord := .handover }) 1 0; withSwo t
      (swo .incoming false)), 2, 0, 2, by decide +kernel⟩,
    ⟨(((runsA.set R.BOOT_STATUS_PHASE 5).putPair { runsA.pair with kept := true }).set R.PAIR_STATUS_ROLE 1), 2, 2, 4, by decide +kernel⟩,
    ⟨(r0.putBoot { r0.boot with phase := .boot }), true, by decide +kernel⟩,
    ⟨(((runsA.set R.PAIR_STATUS_CLAIM_IN 1).set R.PAIR_STATUS_CONFLICT 1).set R.PAIR_STATUS_IL_FAULT 1), by decide +kernel⟩,
    ⟨((claimed (runsA.set R.PAIR_STATUS_CLAIM_IN 1)).set R.PAIR_STATUS_CONFLICT 1), by decide +kernel⟩,
    ⟨(claimed claimReady), ((claimed claimReady).reach ((claimed claimReady).pair.keptAt + (claimed claimReady).get R.PAIR_CFG_KEEP_MS *
      1000000)), by decide +kernel⟩,
    ⟨((claimed claimReady).set R.PSM_STATUS_RUN 1), (((claimed claimReady).set R.PSM_STATUS_RUN 1).reach (((claimed claimReady).set
      R.PSM_STATUS_RUN 1).pair.asnAt + 2 * slotLenNs ((claimed claimReady).set R.PSM_STATUS_RUN 1) + 1000000)), by decide +kernel⟩,
    ⟨claimReady, by decide +kernel⟩,
    ⟨claimReady, .host, by decide +kernel⟩⟩

theorem test_witness_LinkRowsComplete :
    (∃ s : State, ∃ seq : Nat, Memory.wf s = true ∧ running s = true ∧ linkUp s = true ∧ s.pair.rxSeq = seq) ∧
    (∃ s : State, ∃ seq : Nat, Memory.wf s = true ∧ running s = true ∧ linkUp s = true ∧ seq < s.pair.rxSeq) ∧
    (∃ s : State, Memory.wf s = true) ∧
    (∃ s : State, ∃ seq : Nat, ∃ f : HjFrame, Memory.wf s = true ∧ running s = true ∧ linkUp s = true ∧ (s.pair.unacked.find? fun g =>
      decide (g.seq = seq)) = some f ∧ f.sends < 9) ∧
    (∃ s : State, ∃ seq : Nat, ∃ f : HjFrame, Memory.wf s = true ∧ running s = true ∧ linkUp s = true ∧ (s.pair.unacked.find? fun g =>
      decide (g.seq = seq)) = some f ∧ 9 ≤ f.sends) ∧
    (∃ s : State, ∃ u, Memory.wf s = true ∧ u = s.reach (s.pair.rxAt + 50000) ∧ running s = true ∧ linkUp s = true) ∧
    (∃ s : State, Memory.wf s = true ∧ running s = true ∧ linkUp s = true) ∧
    (∃ s : State, ∃ lanes : Nat, ∃ peer : Nat, ∃ nonce : List Byte, ∃ k : BitVec 128, ∃ n0 : List Byte, ∃ n1 : List Byte, Memory.wf s =
      true ∧ running s = true ∧ hjPresent s.part = true ∧ s.bit R.PAIR_CFG_EN = true ∧ linkUp s = false ∧ s.pair.retrainAt = none ∧ (lanes
      = 2 ∨ lanes = 4) ∧ peer % 2 ≠ s.get R.STRAPS_PAIR_ID ∧ s.sec.kM = some k ∧ s.bit R.PAIR_STATUS_CLAIM_OUT = false ∧ n0 = (if s.get
      R.STRAPS_PAIR_ID = 0 then toLE 16 s.drawn else nonce) ∧ n1 = (if s.get R.STRAPS_PAIR_ID = 0 then nonce else toLE 16 s.drawn)) ∧
    (∃ s : State, ∃ lanes : Nat, ∃ peer : Nat, Memory.wf s = true ∧ running s = true ∧ hjPresent s.part = true ∧ s.bit R.PAIR_CFG_EN =
      true ∧ linkUp s = false ∧ s.pair.retrainAt = none ∧ (lanes = 2 ∨ lanes = 4) ∧ peer % 2 = s.get R.STRAPS_PAIR_ID) ∧
    (∃ s : State, ∃ x : Nat, Memory.wf s = true ∧ s.pair.retrainAt = some x) ∧
    (∃ s : State, ∃ sent : Nat, ∃ peerGot : Nat, ∃ peerSent : Nat, ∃ got : Nat, ∃ x : Int, Memory.wf s = true ∧ running s = true ∧ linkUp
      s = true ∧ 5 * (timeDiff peerGot sent + timeDiff peerSent got) - s.getI R.HJ_ASYM_ASYM = 10 * x) :=
  ⟨⟨follower, 0, by decide +kernel⟩,
    ⟨(follower.putPair { follower.pair with rxSeq := 5 }), 4, by decide +kernel⟩,
    ⟨follower, by decide +kernel⟩,
    ⟨(follower.putPair { follower.pair with unacked := [hjf 8] }), 4, (hjf 8), by decide +kernel⟩,
    ⟨(follower.putPair { follower.pair with unacked := [hjf 9] }), 4, (hjf 9), by decide +kernel⟩,
    ⟨follower, (follower.reach (follower.pair.rxAt + 50000)), by decide +kernel⟩,
    ⟨follower, by decide +kernel⟩,
    (by refine ⟨(let t := (runsA.set R.PAIR_CFG_EN 1); t.putSec { t.sec with kM := some 5#128 }), 4, 3, ([1#8]), (5#128), ((if (let t := (runsA.set R.PAIR_CFG_EN 1); t.putSec
      { t.sec with kM := some 5#128 }).get R.STRAPS_PAIR_ID = 0 then toLE 16 (let t := (runsA.set R.PAIR_CFG_EN 1); t.putSec
      { t.sec with kM := some 5#128 }).drawn else ([1#8]))), ((if (let t := (runsA.set R.PAIR_CFG_EN 1); t.putSec
      { t.sec with kM := some 5#128 }).get R.STRAPS_PAIR_ID = 0 then ([1#8]) else toLE 16 (let t := (runsA.set R.PAIR_CFG_EN 1); t.putSec
      { t.sec with kM := some 5#128 }).drawn)), ?_, ?_, ?_, ?_, ?_, ?_, ?_, ?_, ?_, ?_, rfl, rfl⟩ <;> decide +kernel),
    ⟨((runsA.set R.PAIR_CFG_EN 1)), 4, 2, by decide +kernel⟩,
    ⟨(runsA.putPair { runsA.pair with retrainAt := some 77 }), 77, by decide +kernel⟩,
    ⟨follower, 100, 1000, 1100, 300, 850, by decide +kernel⟩⟩

theorem test_witness_MirrorRowsComplete :
    (∃ s : State, ∃ u : State, Memory.wf s = true ∧ u = s.bumpWrap R.PAIR_CNT0_MIRROR_RX ∧ takesRecords s = true) ∧
    (∃ s : State, ∃ u : State, ∃ node : Nat, Memory.wf s = true ∧ u = s.bumpWrap R.PAIR_CNT0_MIRROR_RX ∧ takesRecords s = true ∧ node <
      lineCount s) ∧
    (∃ s : State, ∃ u : State, Memory.wf s = true ∧ u = s.bumpWrap R.PAIR_CNT0_MIRROR_RX ∧ takesRecords s = true ∧ cellsWf zeroCell
      s.tree.bcast = true) ∧
    (∃ s : State, ∃ u : State, ∃ ident : Nat, ∃ p : Nat × TxFrame, Memory.wf s = true ∧ u = s.bumpWrap R.PAIR_CNT0_MIRROR_RX ∧
      takesRecords s = true ∧ (s.sched.frames.find? fun p => decide (p.2.cls = 0) && p.2.dest.isSome && decide (p.2.ident = ident)) = some
      p) ∧
    (∃ s : State, ∃ u : State, Memory.wf s = true ∧ u = s.bumpWrap R.PAIR_CNT0_MIRROR_RX ∧ running s = true ∧ linkUp s = true ∧
      s.pair.then_ = 0 ∧ s.pair.controlOnly = true) ∧
    (∃ s : State, ∃ u : State, Memory.wf s = true ∧ u = s.bumpWrap R.PAIR_CNT0_MIRROR_RX ∧ running s = true ∧ linkUp s = true ∧
      s.pair.then_ = 0) ∧
    (∃ s : State, ∃ u : State, Memory.wf s = true ∧ u = s.bumpWrap R.PAIR_CNT0_MIRROR_RX ∧ running s = true ∧ linkUp s = true ∧
      s.pair.then_ = 0 ∧ s.get R.PAIR_STATUS_ROLE = roleStandby) ∧
    (∃ s : State, ∃ u : State, ∃ line : Nat, Memory.wf s = true ∧ u = s.bumpWrap R.PAIR_CNT0_MIRROR_RX ∧ running s = true ∧ peerSource s =
      true ∧ line < lineCount s ∧ linePoisoned s line = false) ∧
    (∃ s : State, ∃ u : State, ∃ line : Nat, Memory.wf s = true ∧ u = s.bumpWrap R.PAIR_CNT0_MIRROR_RX ∧ takesRecords s = true ∧ s.get
      R.SYNC_STAT_STATE = 2 ∧ line < lineCount s) ∧
    (∃ s : State, ∃ u : State, Memory.wf s = true ∧ u = s.bumpWrap R.PAIR_CNT0_MIRROR_RX ∧ takesRecords s = true ∧ s.get R.SYNC_STAT_STATE
      ≠ 2) ∧
    (∃ s : State, ∃ u : State, Memory.wf s = true ∧ u = s.bumpWrap R.PAIR_CNT0_MIRROR_RX ∧ running s = true ∧ linkUp s = true ∧ resyncing
      s = true ∧ s.pair.dirty = []) ∧
    (∃ s : State, ∃ u : State, Memory.wf s = true ∧ u = s.bumpWrap R.PAIR_CNT0_MIRROR_RX ∧ running s = true ∧ linkUp s = true ∧ resyncing
      s = true ∧ s.pair.dirty ≠ []) ∧
    (∃ s : State, ∃ u : State, Memory.wf s = true ∧ u = s.bumpWrap R.PAIR_CNT0_MIRROR_RX ∧ running s = true ∧ linkUp s = true ∧ s.get
      R.SYNC_STAT_STATE = 2) :=
  ⟨⟨follower, (follower.bumpWrap R.PAIR_CNT0_MIRROR_RX), by decide +kernel⟩,
    ⟨follower, (follower.bumpWrap R.PAIR_CNT0_MIRROR_RX), 5, by decide +kernel⟩,
    ⟨follower, (follower.bumpWrap R.PAIR_CNT0_MIRROR_RX), by decide +kernel⟩,
    ⟨(follower.setFrame 9 { (tframe (some 5)) with cls := 0 }), ((follower.setFrame 9 { (tframe (some 5)) with cls := 0 }).bumpWrap
      R.PAIR_CNT0_MIRROR_RX), 0, ((9, { (tframe (some 5)) with cls := 0 })), by decide +kernel⟩,
    ⟨(follower.putPair { follower.pair with controlOnly := true }), ((follower.putPair
      { follower.pair with controlOnly := true }).bumpWrap R.PAIR_CNT0_MIRROR_RX), by decide +kernel⟩,
    ⟨((follower.putPair { follower.pair with peerClaims := true }).set R.PAIR_STATUS_IL_FAULT 1), (((follower.putPair
      { follower.pair with peerClaims := true }).set R.PAIR_STATUS_IL_FAULT 1).bumpWrap R.PAIR_CNT0_MIRROR_RX), by decide +kernel⟩,
    ⟨(fwdAll follower), ((fwdAll follower).bumpWrap R.PAIR_CNT0_MIRROR_RX), by decide +kernel⟩,
    ⟨follower, (follower.bumpWrap R.PAIR_CNT0_MIRROR_RX), 5, by decide +kernel⟩,
    ⟨(follower.set R.SYNC_STAT_STATE 2), ((follower.set R.SYNC_STAT_STATE 2).bumpWrap R.PAIR_CNT0_MIRROR_RX), 5, by decide +kernel⟩,
    ⟨follower, (follower.bumpWrap R.PAIR_CNT0_MIRROR_RX), by decide +kernel⟩,
    ⟨(fwdAll ((claimed (paired runsA 2 3)).set R.SYNC_STAT_STATE 3)), ((fwdAll ((claimed (paired runsA 2 3)).set R.SYNC_STAT_STATE
      3)).bumpWrap R.PAIR_CNT0_MIRROR_RX), by decide +kernel⟩,
    ⟨(let t := (claimed (paired runsA 2 3)).set R.SYNC_STAT_STATE 3; t.putPair { t.pair with dirty := [5, 6] }), ((let t := (claimed (paired runsA 2 3)).set R.SYNC_STAT_STATE 3; t.putPair
      { t.pair with dirty := [5, 6] }).bumpWrap R.PAIR_CNT0_MIRROR_RX), by decide +kernel⟩,
    ⟨(fwdAll ((paired runsA 3 2).set R.SYNC_STAT_STATE 2)), ((fwdAll ((paired runsA 3 2).set R.SYNC_STAT_STATE 2)).bumpWrap
      R.PAIR_CNT0_MIRROR_RX), by decide +kernel⟩⟩

theorem test_witness_SwitchoverRowsComplete :
    (∃ s : State, Memory.wf s = true ∧ pairCommand s = true ∧ switchResult s = 1 ∧ updState s ≠ updHandover ∧ updState s ≠ updFallback) ∧
    (∃ s : State, Memory.wf s = true ∧ pairCommand s = true ∧ switchResult s ≠ 1) ∧
    (∃ s : State, Memory.wf s = true ∧ pairCommand s = true ∧ s.bit R.PAIR_STATUS_CLAIM_OUT = true ∧ s.pair.switchover = none ∧ resyncing
      s = true) ∧
    (∃ s : State, Memory.wf s = true ∧ pairCommand s = true ∧ s.bit R.PAIR_STATUS_CLAIM_OUT = false) ∧
    (∃ s : State, Memory.wf s = true ∧ pairCommand s = true ∧ s.bit R.PAIR_STATUS_CLAIM_OUT = false ∧ (s.get R.PAIR_STATUS_ROLE =
      roleStandby ∨ s.get R.PAIR_STATUS_ROLE = roleSpare)) ∧
    (∃ s : State, Memory.wf s = true ∧ pairCommand s = true ∧ s.bit R.PAIR_STATUS_CLAIM_OUT = true) ∧
    (∃ s : State, ∃ w : Switchover, Memory.wf s = true ∧ s.pair.switchover = some w ∧ running s = true ∧ w.outgoing = true ∧ w.phase =
      .waitBoundary ∧ (s.bit R.PSM_STATUS_RUN = false ∨ seqGe 40 s.asnNat w.boundary = true)) ∧
    (∃ s : State, ∃ w : Switchover, Memory.wf s = true ∧ s.pair.switchover = some w ∧ running s = true ∧ w.outgoing = true ∧ (w.phase =
      .handover ∨ w.phase = .stopped) ∧ egressDrained s = true) ∧
    (∃ s : State, ∃ w : Switchover, Memory.wf s = true ∧ s.pair.switchover = some w ∧ running s = true ∧ w.outgoing = true ∧ w.phase =
      .rewrite) ∧
    (∃ s : State, ∃ w : Switchover, Memory.wf s = true ∧ s.pair.switchover = some w ∧ running s = true ∧ w.outgoing = true ∧ w.phase =
      .released ∧ s.bit R.PAIR_STATUS_CLAIM_IN = false) ∧
    (∃ s : State, ∃ w : Switchover, Memory.wf s = true ∧ s.pair.switchover = some w ∧ running s = true ∧ w.outgoing = true ∧ w.phase =
      .handover ∧ egressDrained s = false) :=
  ⟨⟨(claimed (paired runsA 0 1)), by decide +kernel⟩,
    ⟨(claimed (paired runsA 0 3)), by decide +kernel⟩,
    ⟨((claimed (paired runsA 0 3)).set R.SYNC_STAT_STATE 1), by decide +kernel⟩,
    ⟨(paired runsA 1 0), by decide +kernel⟩,
    ⟨(withSwo (paired runsA 1 0) (swo .incoming false)), by decide +kernel⟩,
    ⟨(claimed (paired runsA 0 3)), by decide +kernel⟩,
    ⟨(withSwo (claimed (paired runsA 0 1)) (swo .waitBoundary true)), (swo .waitBoundary true), by decide +kernel⟩,
    ⟨(withSwo (claimed (paired runsA 0 1)) (swo .handover true)), (swo .handover true), by decide +kernel⟩,
    ⟨(withSwo (paired runsA 0 0) (swo .rewrite true)), (swo .rewrite true), by decide +kernel⟩,
    ⟨(withSwo (paired runsA 0 1) (swo .released true)), (swo .released true), by decide +kernel⟩,
    ⟨((withSwo (claimed (paired runsA 0 1)) (swo .handover true)).putSched
      { (claimed (paired runsA 0 1)).sched with egress := [(0, [1])] }), (swo .handover true), by decide +kernel⟩⟩

theorem test_witness_UpdateRowsComplete :
    (∃ s : State, ∃ q : Requester, ∃ row : Instr, row ∈ [Instr.updStage q 0, .updActivate q false, .updReject q, .updAbort q,
      .updActivateAtRestart q] ∧ Memory.wf s = true ∧ running s = true ∧ (q = Requester.app ∨ q = Requester.security)) ∧
    (∃ s : State, ∃ q : Requester, ∃ e : SlotEntry, ∃ comp : Nat, Memory.wf s = true ∧ mayUpdate q = true ∧ running s = true ∧ updState s
      = updIdle ∧ slotOf s comp (inactiveSlot s comp) = some e ∧ commitAllowed s = true ∧ slotWriteAllowed s comp (inactiveSlot s comp) =
      true) ∧
    (∃ s : State, ∃ q : Requester, Memory.wf s = true ∧ mayUpdate q = true ∧ running s = true ∧ updState s ≠ updIdle) ∧
    (∃ s : State, ∃ e : SlotEntry, Memory.wf s = true ∧ running s = true ∧ updState s = updWriting ∧ slotOf s (updComp s) s.upd.target =
      some e ∧ commitAllowed s = true) ∧
    (∃ s : State, Memory.wf s = true ∧ running s = true ∧ updState s = updWriting) ∧
    (∃ s : State, ∃ q : Requester, ∃ e : SlotEntry, Memory.wf s = true ∧ mayUpdate q = true ∧ running s = true ∧ staged s = true ∧ slotOf
      s (updComp s) s.upd.target = some e ∧ commitAllowed s = true ∧ updComp s ≠ 4 ∧ updComp s ≠ 5) ∧
    (∃ s : State, ∃ q : Requester, Memory.wf s = true ∧ mayUpdate q = true ∧ running s = true ∧ staged s = true) ∧
    (∃ s : State, ∃ q : Requester, Memory.wf s = true ∧ mayUpdate q = true ∧ running s = true ∧ staged s = true ∧ switchResult s ≠ 1 ∧
      updComp s ≠ 5) ∧
    (∃ s : State, ∃ q : Requester, ∃ row : Instr, row ∈ [Instr.updActivate q false, .updActivate q true, .updAbort q,
      .updActivateAtRestart q] ∧ Memory.wf s = true ∧ mayUpdate q = true ∧ running s = true ∧ staged s = false) ∧
    (∃ s : State, Memory.wf s = true ∧ running s = true ∧ updState s = updHandover ∧ s.upd.backward = none) ∧
    (∃ s : State, Memory.wf s = true ∧ running s = true ∧ updState s = updProbation ∧ s.upd.backward = none ∧ switchResult s ≠ 1 ∧ updComp
      s ≠ 4) ∧
    (∃ s : State, Memory.wf s = true ∧ running s = true) ∧
    (∃ s : State, ∃ q : Requester, ∃ e : SlotEntry, Memory.wf s = true ∧ mayUpdate q = true ∧ running s = true ∧ staged s = true ∧ slotOf
      s (updComp s) s.upd.target = some e ∧ commitAllowed s = true) ∧
    (∃ s : State, ∃ q : Requester, ∃ comp : Nat, Memory.wf s = true ∧ comp ≤ 5 ∧ powered s = true ∧ mayUpdate q = true ∧ hostLoads s =
      true ∧ comp = s.boot.comp) :=
  ⟨⟨runsA, .app, _, List.mem_cons_self, by decide +kernel⟩,
    ⟨dirA, .host, (ent 5 1 false), 2, by decide +kernel⟩,
    ⟨(upd runsA updStaged 2), .host, by decide +kernel⟩,
    ⟨(let t := upd dirA updWriting 2; t.putUpd { t.upd with target := 1 }), (ent 5 1 false), by decide +kernel⟩,
    ⟨(let t := upd dirA updWriting 2; t.putUpd { t.upd with target := 1 }), by decide +kernel⟩,
    ⟨(let t := upd dirA updStaged 2; t.putUpd { t.upd with target := 1 }), .host, (ent 5 1 false), by decide +kernel⟩,
    ⟨(let t := upd dirA updStaged 2; t.putUpd { t.upd with target := 1 }), .host, by decide +kernel⟩,
    ⟨(upd runsA updStaged 2), .host, by decide +kernel⟩,
    ⟨(upd runsA updIdle 2), .host, _, List.mem_cons_self, by decide +kernel⟩,
    ⟨(upd runsA updHandover 2), by decide +kernel⟩,
    ⟨(upd runsA updProbation 5), by decide +kernel⟩,
    ⟨(upd runsA updProbation 5), by decide +kernel⟩,
    ⟨(let t := upd dirA updStaged 2; t.putUpd { t.upd with target := 1 }), .host, (ent 5 1 false), by decide +kernel⟩,
    ⟨((at_ (r0.putBoot { r0.boot with fromHost := true, comp := 2 }) .boot).set R.BOOT_STATUS_PHASE 8), .host, 2, by decide +kernel⟩⟩

theorem test_witness_HandoverRowsComplete :
    (∃ s : State, ∃ core : Nat, Memory.wf s = true ∧ running s = true ∧ coreNext s core = true) ∧
    (∃ s : State, ∃ core : Nat, ∃ u, Memory.wf s = true ∧ u = fallBack s 2 ∧ running s = true ∧ coreNext s core = true ∧ switchResult u ≠
      1) ∧
    (∃ s : State, ∃ core : Nat, ∃ u, Memory.wf s = true ∧ u = fallBack s 2 ∧ running s = true ∧ coreNext s core = true ∧ switchResult u =
      1) ∧
    (∃ s : State, Memory.wf s = true ∧ running s = true ∧ updState s = updHandover ∧ handoverReady s = true ∧ (updComp s = 2 ∨ updComp s =
      3 ∨ updComp s = 5) ∧ s.upd.backward = none ∧ s.upd.unhealthy = false) ∧
    (∃ s : State, Memory.wf s = true ∧ running s = true ∧ (updState s = updHandover ∨ updState s = updFallback) ∧ handoverReady s = true) ∧
    (∃ s : State, ∃ u, Memory.wf s = true ∧ u = s.advanceTo (slotEnd s) ∧ running s = true ∧ s.upd.livePending = true ∧ s.bit
      R.PSM_STATUS_RUN = true ∧ sfBegins s = true ∧ s.upd.liveFrom ≤ boundaryAt s) ∧
    (∃ s : State, ∃ q : Requester, ∃ key : Nat, ∃ comp : Nat, ∃ p : Probation, ∃ e : SlotEntry, Memory.wf s = true ∧ running s = true ∧
      confirmable s q key comp = some p ∧ slotOf s p.comp p.slot = some e ∧ commitAllowed s = true) ∧
    (∃ s : State, ∃ q : Requester, ∃ key : Nat, ∃ comp : Nat, Memory.wf s = true ∧ running s = true ∧ confirmable s q key comp = none) ∧
    (∃ s : State, ∃ p : Probation, Memory.wf s = true ∧ s.upd.probation = some p ∧ running s = true ∧ updState s = updProbation ∧ updComp
      s ≠ 4) ∧
    (∃ s : State, Memory.wf s = true ∧ powered s = true) :=
  ⟨⟨(let t := upd runsA updHandover 2; t.putUpd { t.upd with unit := 3 }), 3, by decide +kernel⟩,
    ⟨(let t := upd runsA updHandover 2; t.putUpd { t.upd with unit := 3 }), 3, (fallBack (let t := upd runsA updHandover 2; t.putUpd
      { t.upd with unit := 3 }) 2), by decide +kernel⟩,
    ⟨(let t := upd (claimed (paired runsA 0 1)) updHandover 2; t.putUpd { t.upd with unit := 3 }), 3, (fallBack (let t := upd (claimed (paired runsA 0 1)) updHandover 2; t.putUpd
      { t.upd with unit := 3 }) 2), by decide +kernel⟩,
    ⟨(let t := upd runsA updHandover 2; t.putUpd { t.upd with unit := 4, seconds := 100 }), by decide +kernel⟩,
    ⟨(let t := upd runsA updHandover 2; t.putUpd { t.upd with unit := 4, seconds := 100 }), by decide +kernel⟩,
    ⟨(let t := (tbOn runsA).set R.PSM_STATUS_RUN 1; (t.putUpd { t.upd with livePending := true }).set R.PSM_SLOT_SF_LEN 0), ((let t := (tbOn runsA).set R.PSM_STATUS_RUN 1; (t.putUpd
      { t.upd with livePending := true }).set R.PSM_SLOT_SF_LEN 0).advanceTo (slotEnd (let t := (tbOn runsA).set R.PSM_STATUS_RUN 1; (t.putUpd
      { t.upd with livePending := true }).set R.PSM_SLOT_SF_LEN 0))), by decide +kernel⟩,
    ⟨(let t := upd dirA updProbation 2; { t.putUpd { t.upd with probation := some probat } with now := 60000000000 }), .control, 0x434F4E,
      2, probat, (ent 4 1 true), by decide +kernel⟩,
    ⟨(let t := upd runsA updProbation 2; { t.putUpd { t.upd with probation := some probat } with now := 59000000000 }), .control,
      0x434F4E, 2, by decide +kernel⟩,
    ⟨(let t := upd runsA updProbation 2; { t.putUpd { t.upd with probation := some probat } with now := 59000000000 }), probat,
      by decide +kernel⟩,
    ⟨runsA, by decide +kernel⟩⟩

theorem test_witness_LevelRowsComplete :
    (∃ s : State, ∃ q : Requester, ∃ v : Nat, Memory.wf s = true ∧ running s = true ∧ (q = Requester.host ∨ q = Requester.control) ∧ v < 3
      ∧ s.bit R.PWR_STATUS_THROTTLED = false ∧ s.pwr.change = none ∧ s.get R.PWR_STATUS_CUR < v) ∧
    (∃ s : State, ∃ q : Requester, ∃ v : Nat, Memory.wf s = true ∧ running s = true ∧ (q = Requester.host ∨ q = Requester.control) ∧ s.bit
      R.PWR_STATUS_THROTTLED = false ∧ s.pwr.change = none ∧ v < s.get R.PWR_STATUS_CUR ∧ v < 3) ∧
    (∃ s : State, ∃ c : LevelChange, Memory.wf s = true ∧ s.pwr.change = some c ∧ c.switched = false) ∧
    (∃ s : State, ∃ c : LevelChange, Memory.wf s = true ∧ s.pwr.change = some c ∧ c.switched = true ∧ c.level < 3 ∧ wantedLevel s =
      c.level) ∧
    (∃ s : State, ∃ tj : Int, Memory.wf s = true ∧ powered s = true ∧ -32768 ≤ tj ∧ tj ≤ 4 * (s.get R.PWR_CFG21_WARN : Int) ∧ tj ≤ 4 *
      (s.get R.PWR_CFG21_CRIT : Int)) ∧
    (∃ s : State, ∃ tj : Int, Memory.wf s = true ∧ powered s = true ∧ tj ≤ 32767 ∧ 4 * (s.get R.PWR_CFG21_WARN : Int) < tj ∧ 4 * (s.get
      R.PWR_CFG21_CRIT : Int) < tj) ∧
    (∃ s : State, ∃ x : Nat, Memory.wf s = true ∧ s.pwr.coolSince = some x ∧ s.bit R.PWR_STATUS_THROTTLED = true) ∧
    (∃ s : State, Memory.wf s = true ∧ running s = true ∧ s.bit R.PWR_CFG21_PALE_EN = true ∧ s.pwr.pale = false ∧ s.get R.APP_STAT_STATE =
      appRuns ∧ s.app.request = none ∧ s.app.debugHalt = false) ∧
    (∃ s : State, ∃ debugger : Bool, Memory.wf s = true ∧ s.pwr.pale = true ∧ (s.app.request.isSome = true ∨ debugger = true)) :=
  ⟨⟨runsA, .host, 2, by decide +kernel⟩,
    ⟨(runsA.set R.PWR_STATUS_CUR 2), .control, 1, by decide +kernel⟩,
    ⟨(runsA.putPwr { runsA.pwr with change := some { from_ := 0, level := 2, started := 5, switched := false } }),
      ({ from_ := 0, level := 2, started := 5, switched := false }), by decide +kernel⟩,
    ⟨((runsA.putPwr { runsA.pwr with change := some { from_ := 0, level := 2, started := 5, switched := true } }).set R.PWR_LEVEL_TARGET
      2), ({ from_ := 0, level := 2, started := 5, switched := true }), by decide +kernel⟩,
    ⟨runsA, (-32768), by decide +kernel⟩,
    ⟨(fwdAll (runsA.putPwr { runsA.pwr with coolSince := some 5 })), 32767, by decide +kernel⟩,
    ⟨(fwdAll ((runsA.putPwr { runsA.pwr with coolSince := some 5 }).set R.PWR_STATUS_THROTTLED 1)), 5, by decide +kernel⟩,
    ⟨((gtOn (appOn runsA) 31).set R.PWR_CFG21_PALE_EN 1), by decide +kernel⟩,
    ⟨((gtOn (appOn runsA) 31).putPwr { runsA.pwr with pale := true }), true, by decide +kernel⟩⟩

theorem test_witness_SleepRowsComplete :
    (∃ s : State, ∃ q : Requester, Memory.wf s = true ∧ running s = true ∧ (q = Requester.host ∨ q = Requester.control) ∧ sleepBusy s =
      false ∧ (List.range 7).any (wakeEnabled s) = true ∧ switchResult s ≠ 1) ∧
    (∃ s : State, ∃ q : Requester, ∃ key : Nat, Memory.wf s = true ∧ running s = true ∧ sleepResult s q key ≠ 1) ∧
    (∃ s : State, ∃ r : SleepRequest, Memory.wf s = true ∧ s.pwr.request = some r ∧ running s = true ∧ r.umber = false ∧ s.pwr.wake =
      none) ∧
    (∃ s : State, ∃ r : SleepRequest, Memory.wf s = true ∧ s.pwr.request = some r ∧ running s = true ∧ r.umber = true ∧ s.pwr.wake = none) ∧
    (∃ s : State, ∃ src : Nat, Memory.wf s = true ∧ 1 ≤ src ∧ src ≤ 6 ∧ wakeEnabled s src = true ∧ s.pwr.wake = none ∧ (s.boot.phase =
      .sepia ∨ s.boot.phase = .umber)) ∧
    (∃ s : State, ∃ src : Nat, Memory.wf s = true ∧ 1 ≤ src ∧ src ≤ 6 ∧ wakeEnabled s src = true ∧ s.pwr.wake = none ∧ running s = true ∧
      s.pwr.request.isSome = true) ∧
    (∃ s : State, Memory.wf s = true ∧ wakeEnabled s 0 = true ∧ s.pwr.wake = none ∧ (s.boot.phase = .sepia ∨ s.boot.phase = .umber)) ∧
    (∃ s : State, Memory.wf s = true ∧ s.boot.phase = .pllWait ∧ s.boot.cause = .sepiaExit ∧ s.tb.running = true) :=
  ⟨⟨(sleepOk runsA), .host, by decide +kernel⟩,
    ⟨runsA, .host, 0x534C, by decide +kernel⟩,
    ⟨(pwrReq runsA false), (slReq false), by decide +kernel⟩,
    ⟨(pwrReq runsA true), (slReq true), by decide +kernel⟩,
    ⟨(at_ ((runsA.set R.PWR_SLEEP_GPIO 8)) .umber), 4, by decide +kernel⟩,
    ⟨(pwrReq ((runsA.set R.PWR_SLEEP_GPIO 8)) false), 4, by decide +kernel⟩,
    ⟨(at_ (sleepOk runsA) .umber), by decide +kernel⟩,
    ⟨(let t := tbOn (at_ runsA .pllWait); t.putBoot { t.boot with cause := .sepiaExit }), by decide +kernel⟩⟩

theorem test_witness_EmptyQueueClockEdge :
    ∃ s : State, s.pending = [] :=
  ⟨(tbOn runsA), by decide +kernel⟩

theorem test_witness_AbsentUnitsReadZero :
    ∃ s : State, ∃ off : Nat, running s = true ∧ unitAt s.part off = false ∧ off % 4 = 0 :=
  ⟨(runs .nz2560s), 0x01040000, by decide +kernel⟩

theorem test_witness_HandoverDeniesWindowWrite :
    ∃ s : State, ∃ q : Requester, Memory.wf s = true ∧ powered s = true ∧ (q = Requester.host ∨ q = Requester.app) ∧ s.boot.committed =
      true ∧ configHandover s = true :=
  ⟨((runsA.set R.UPD_STATUS_STATE updHandover).set R.UPD_STATUS_COMP compConfig), .host, by decide +kernel⟩

theorem test_witness_ClockFailureHolds :
    (∃ s : State, ∃ code : Nat, Memory.wf s = true ∧ s.boot.phase = .pllWait ∧ s.tb.running = false ∧ (code = 3 ∨ code = 4) ∧
      s.boot.clockRetried = false) ∧
    (∃ s : State, ∃ code : Nat, Memory.wf s = true ∧ s.boot.phase = .pllWait ∧ s.tb.running = false ∧ (code = 3 ∨ code = 4) ∧
      s.boot.clockRetried = true) :=
  ⟨⟨(at_ r0 .pllWait), 3, by decide +kernel⟩,
    ⟨(let t := at_ r0 .pllWait; t.putBoot { t.boot with clockRetried := true }), 4, by decide +kernel⟩⟩

theorem test_witness_AsnHighReadIsSnapshot :
    (∃ s : State, running s = true) ∧
    (∃ s : State, ∃ q : Requester, ∃ v : Nat, running s = true ∧ (s.snapsOf q).asnHi = some v ∧ v < 2 ^ 32) ∧
    (∃ s : State, ∃ q : Requester, running s = true ∧ (s.snapsOf q).asnHi = none) :=
  ⟨⟨(runsA.putPsm { runsA.psm with asn := 0x1234567890 }), by decide +kernel⟩,
    ⟨(runsA.setSnaps .control { runsA.snapsOf .control with asnHi := some 77 }), .control, 77, by decide +kernel⟩,
    ⟨(runsA.putPsm { runsA.psm with asn := 0x1234567890 }), .host, by decide +kernel⟩⟩

theorem test_witness_TimebaseOwnerAlone :
    ∃ s : State, ∃ q : Requester, ∃ v : Nat, ∃ fails : List (Nat × Nat), ∃ data : List Byte, ∃ row : Instr, row ∈ [Instr.tbIncCommit q v,
      .tbStepCommit q v, .tbServoWrite q v, .registerWrite q R.TB_INC_LO 4 v false fails data, .registerWrite q R.TB_INC_HI 4 v false
      fails data, .registerWrite q R.TB_STEP_LO 4 v false fails data, .registerWrite q R.TB_STEP_HI 4 v false fails data, .registerWrite q
      R.TB_SERVO 4 v false fails data, .registerWrite q R.TB_FERR 4 v false fails data] ∧ Memory.wf s = true ∧ running s = true ∧ tbOwner
      s q = false :=
  ⟨runsA, .app, 2, ([]), ([]), _, List.mem_cons_self, by decide +kernel⟩

theorem test_witness_PoisonedLineMaskedWrite :
    (∃ s : State, ∃ q : Requester, ∃ n : Nat, Memory.wf s = true ∧ openTo s q = true ∧ fwdFull q = true ∧ s.bit R.PAIR_STATUS_CLAIM_OUT =
      true ∧ ncsCheck s n = 0 ∧ linePoisoned s n = true ∧ ncsMask s q = 2 ^ 64 - 1) ∧
    (∃ s : State, ∃ q : Requester, ∃ n : Nat, Memory.wf s = true ∧ openTo s q = true ∧ fwdFull q = true ∧ s.bit R.PAIR_STATUS_CLAIM_OUT =
      true ∧ ncsCheck s n = 0 ∧ linePoisoned s n = true ∧ ncsMask s q ≠ 2 ^ 64 - 1) :=
  ⟨⟨(let t := fw.putMi { fw.mi with bad := [(.ncs, 5)] }; (List.range 16).foldl (fun t k => t.set (R.NCS_DATA_DATA k 2) (k * 77)) ((t.set
      (R.NCS_MASK_LO_MASK 2) 0xFFFFFFFF).set (R.NCS_MASK_HI_MASK 2) 0xFFFFFFFF)), .control, 5, by decide +kernel⟩,
    ⟨(fw.putMi { fw.mi with bad := [(.ncs, 5)] }), .control, 5, by decide +kernel⟩⟩

end Sys2Proof.Tests
end

section
/-!
Accesses to one aligned word (R6), and what they do at a register of an absent unit (R4).
-/

namespace Sys2Proof.Machine

/-! ## Association lists -/

@[simp] theorem assocGet_assocSet_self {α : Type} (l : List (Nat × α)) (k : Nat) (v : α) : assocGet (assocSet l k v) k = some v := by
  induction l with
  | nil => simp [assocSet, assocGet]
  | cons p l ih =>
    rw [assocSet]
    split_ifs with hhere hbefore
    · simp [assocGet]
    · simp [assocGet]
    · simpa [assocGet, hhere] using ih

/-! ## A running device takes accesses to every block -/

theorem powered_of_running {s : State} (h : running s = true) : powered s = true := by
  unfold running at h
  rw [powered, h, Bool.or_true]

theorem blockOpen_of_running {s : State} (h : running s = true) (q : Requester) (off : Nat) : blockOpen s q off = true := by
  simp [blockOpen, h]

/-! ## An aligned word -/

theorem touched_word {off : Nat} (h : off % 4 = 0) : touched off 4 = [(off, true)] := by
  have hbase : off / 4 * 4 = off := Nat.div_mul_cancel (Nat.dvd_of_mod_eq_zero h)
  simp [touched, h, hbase]

theorem exec_registerWrite_word {s : State} {off : Nat} (hs : powered s = true) (h : off % 4 = 0) (q : Requester) (v : Nat)
    (fails : List (Nat × Nat)) (data : List Byte) :
    exec (.registerWrite q off 4 v false fails data) s = .next (writeWord s q off (natBits v 0 32) fails data) := by
  change execRegisterWrite q off 4 v false fails data s = _
  simp [execRegisterWrite, hs, touched_word h, foldState, done]

/-- The read answers the low 32 bits of what its one word answered. -/
theorem exec_counterReadClear_word {s : State} {off : Nat} (hs : powered s = true) (h : off % 4 = 0) (q : Requester) :
    exec (.counterReadClear q off 4) s =
      .next ((readWord s q off).answer q (natBits ((assocGet (readWord s q off).reply q.bank).getD 0) 0 32)) := by
  change execCounterReadClear q off 4 s = _
  simp [execCounterReadClear, hs, h, touched_word h, readWords, done]

/-! ## A register of an absent unit (R4) -/

theorem writeWord_of_absent {s : State} {q : Requester} {off : Nat} (hopen : blockOpen s q off = true)
    (habsent : unitAt s.part off = false) (v : Nat) (fails : List (Nat × Nat)) (data : List Byte) :
    writeWord s q off v fails data = s := by
  simp [writeWord, hopen, habsent]

theorem readWord_of_absent {s : State} {off : Nat} (habsent : unitAt s.part off = false) (q : Requester) :
    readWord s q off = s.answer q 0 := by
  simp [readWord, habsent]

/-- Settles O55: the write stops at the absent unit, and the read answers without reaching the register. -/
theorem absentUnitsReadZero : Obligations.AbsentUnitsReadZero := by
  intro s q off hrun habsent halign
  have hpow := powered_of_running hrun
  constructor
  · intro v fails data
    rw [exec_registerWrite_word hpow halign, writeWord_of_absent (blockOpen_of_running hrun q off) habsent]
  · refine ⟨_, exec_counterReadClear_word hpow halign q, ?_⟩
    rw [readWord_of_absent habsent]
    simp [natBits]

end Sys2Proof.Machine
end

section
/-!
Window writes that are denied (R101 to R103), and the clock retry with what fault hold records of it (R105, R106).
-/

namespace Sys2Proof.Machine

/-! ## Fields that share no bit, and words that a field's write leaves alone -/

theorem apart_symm {f g : Fld} (h : Apart f g) : Apart g f := h.imp Ne.symm Or.symm

theorem word_set_of_ne {s : State} (hwf : Memory.wf s = true) {f : Fld} {key : Nat} (hkey : key ≠ f.key) (v : Nat) :
    (s.set f v).word key = s.word key := by
  rw [word_set hwf, if_neg hkey]

/-! ## Denied window writes -/

theorem windowResult_of_configHandover {s : State} (hcommitted : s.boot.committed = true) (hhandover : configHandover s = true)
    (key v : Nat) : windowResult s key v = 3 := by
  simp [windowResult, hcommitted, hhandover]

/-- The state after a window write is denied with `result`: the requester reads the result and one more denial (R102, R103). -/
def rtwDenied (s : State) (q : Requester) (result : Nat) : State :=
  (s.set (R.RTW_STATUS_RESULT q.bank) result).bump (R.RTW_DENIED_COUNT q.bank)

theorem exec_rtwDataWrite_denied {s : State} {q : Requester} {v r : Nat} (hpow : powered s = true)
    (hq : q = Requester.host ∨ q = Requester.app) (hr : windowResult s (4 * s.get (R.RTW_ADDR_OFFSET q.bank)) v = r) (hne : r ≠ 0) :
    exec (.rtwDataWrite q v) s = .next (rtwDenied s q r) := by
  have hmay : ¬(q ≠ Requester.host ∧ q ≠ Requester.app) := fun ⟨hhost, happ⟩ => hq.elim hhost happ
  change execRtwDataWrite q v s = _
  simp [execRtwDataWrite, hpow, hmay, hr, hne, rtwDenied, done]

theorem apart_rtwStatusResult_rtwDeniedCount (bank : Nat) : Apart (R.RTW_STATUS_RESULT bank) (R.RTW_DENIED_COUNT bank) :=
  .inl (show 0x00010108 + bank * 0x10000000 ≠ 0x0001010C + bank * 0x10000000 by omega)

theorem fits_rtwStatusResult (bank : Nat) : Fits (R.RTW_STATUS_RESULT bank) := show 0 + 3 ≤ 32 by decide

theorem fits_rtwDeniedCount (bank : Nat) : Fits (R.RTW_DENIED_COUNT bank) := show 0 + 16 ≤ 32 by decide

theorem get_rtwDenied_result {s : State} (hwf : Memory.wf s = true) (q : Requester) (r : Nat) :
    (rtwDenied s q r).get (R.RTW_STATUS_RESULT q.bank) = r % 8 := by
  rw [rtwDenied, get_bump_apart (wf_set hwf _ _) (fits_rtwDeniedCount _) (apart_symm (apart_rtwStatusResult_rtwDeniedCount _)),
    get_set_self hwf (fits_rtwStatusResult _)]
  rfl

theorem get_rtwDenied_count {s : State} (hwf : Memory.wf s = true) (q : Requester) (r : Nat) :
    (rtwDenied s q r).get (R.RTW_DENIED_COUNT q.bank) = min 65535 (s.get (R.RTW_DENIED_COUNT q.bank) + 1) := by
  rw [rtwDenied, get_bump_self (wf_set hwf _ _) (fits_rtwDeniedCount _),
    get_set_apart hwf (fits_rtwStatusResult _) (apart_rtwStatusResult_rtwDeniedCount _)]
  rfl

theorem word_rtwDenied {s : State} (hwf : Memory.wf s = true) {q : Requester} {key : Nat} (hstatus : key ≠ R.RTW_STATUS q.bank)
    (hdenied : key ≠ R.RTW_DENIED q.bank) (r : Nat) : (rtwDenied s q r).word key = s.word key :=
  (word_set_of_ne (wf_set hwf _ _) hdenied _).trans (word_set_of_ne hwf hstatus r)

/-- Settles O56: a committed device in a handover judges every window write 3, and `rtwDenied` is all that a denied write does. -/
theorem handoverDeniesWindowWrite : Obligations.HandoverDeniesWindowWrite := by
  intro s q v hwf hpow hq hcommitted hhandover
  have hresult := windowResult_of_configHandover hcommitted hhandover (4 * s.get (R.RTW_ADDR_OFFSET q.bank)) v
  exact ⟨_, exec_rtwDataWrite_denied hpow hq hresult (by decide), get_rtwDenied_result hwf q 3, get_rtwDenied_count hwf q 3,
    fun _ hstatus hdenied => word_rtwDenied hwf hstatus hdenied 3, rfl⟩

/-! ## The fields that a reset keeps -/

theorem regGet_regSet_self {m : RegFile} (hm : cellsWf resetWord m = true) {f : Fld} (hf : Fits f) (v : Nat) :
    regGet (regSet m f v) f = v % 2 ^ f.width := by
  rw [regGet, regSet, cellsRead_write hm, if_pos rfl, getBits_setBits_self _ _ _ _ hf]

theorem regGet_regSet_apart {m : RegFile} (hm : cellsWf resetWord m = true) {f g : Fld} (hf : Fits f) (hfg : Apart f g) (v : Nat) :
    regGet (regSet m f v) g = regGet m g := by
  rw [regGet, regGet, regSet, cellsRead_write hm]
  split
  · rename_i hkey
    rw [getBits_setBits_ne _ _ _ _ _ _ hf (hfg.resolve_left fun hne => hne hkey.symm), hkey]
  · rfl

/-- A kept field reads after a reset what it read before: its own write puts that value there, and the others share no bit with it. -/
theorem regGet_keptRegs {s : State} {l : List Fld} {f : Fld} (hl : ∀ g ∈ l, Fits g ∧ (g = f ∨ Apart g f)) (hf : f ∈ l) :
    regGet (keptRegs s l) f = s.get f := by
  suffices hfold : ∀ m : RegFile, cellsWf resetWord m = true → f ∈ l ∨ regGet m f = s.get f →
      regGet (l.foldl (fun r g => regSet r g (regGet s.regs g)) m) f = s.get f from
    hfold [] cellsWf_nil (.inl hf)
  clear hf
  induction l with
  | nil => exact fun m _ h => h.resolve_left List.not_mem_nil
  | cons g l ih =>
    intro m hm h
    obtain ⟨⟨hfits, hg⟩, htail⟩ := List.forall_mem_cons.1 hl
    refine ih htail _ (cellsWf_write hm _ _) ?_
    by_cases hgf : g = f
    · subst hgf
      exact .inr ((regGet_regSet_self hm hfits _).trans (Nat.mod_eq_of_lt (get_lt g)))
    · rw [regGet_regSet_apart hm hfits (hg.resolve_left hgf)]
      exact h.imp_left fun hmem => (List.mem_cons.1 hmem).resolve_left (Ne.symm hgf)

theorem get_resetKeeping {s : State} {l : List Fld} {f : Fld} (hl : ∀ g ∈ l, Fits g ∧ (g = f ∨ Apart g f)) (hf : f ∈ l)
    (power : PowerState) (phase : Phase) : (resetKeeping s l power phase).get f = s.get f :=
  regGet_keptRegs hl hf

/-! ## Fault hold -/

/-- The exception of R109 for a fatal code latched before is for the code 0x06 alone. -/
theorem get_latchFail_code {s : State} (hwf : Memory.wf s = true) {code : Nat} (hcode : code ≠ 6) (phase : Nat) :
    (latchFail s phase code).get R.AON_FAIL_CODE = code % 256 := by
  have hbump := wf_bump hwf R.AON_FAIL_COUNT
  rw [latchFail, if_neg fun h => hcode h.1, get_set_apart (wf_set hbump _ _) (by decide) (by decide), get_set_self hbump (by decide)]
  rfl

@[simp] theorem regs_stopTimebase (s : State) : (stopTimebase s).regs = s.regs :=
  (stopTimebase_frame rfl (Frame.refl 0x80000 s)).of .regs rfl

@[simp] theorem get_stopTimebase (s : State) (f : Fld) : (stopTimebase s).get f = s.get f :=
  congrArg (regGet · f) (regs_stopTimebase s)

@[simp] theorem phase_faultHold (s : State) (phase code : Nat) : (faultHold s phase code).boot.phase = .faultHold := rfl

theorem get_faultHold_code {s : State} (hwf : Memory.wf s = true) {code : Nat} (hcode : code ≠ 6) (phase : Nat) :
    (faultHold s phase code).get R.AON_FAIL_CODE = code % 256 := by
  have hend := wf_keeps (endClaim_keeps (Keeps.refl s) 13) hwf
  rw [faultHold, get_resetKeeping (by decide) (by decide), get_stopTimebase, get_latchFail_code hend hcode]

/-! ## The clock retry -/

theorem exec_refclkTimeout_first {s : State} {code : Nat} (hphase : s.boot.phase = .pllWait) (hstopped : s.tb.running = false)
    (hcode : code = 3 ∨ code = 4) (hretried : s.boot.clockRetried = false) :
    exec (.refclkTimeout code) s = .next (s.putBoot { s.boot with clockRetried := true }) := by
  change execRefclkTimeout code s = _
  simp [execRefclkTimeout, hphase, hstopped, hcode, hretried, done]

theorem exec_refclkTimeout_second {s : State} {code : Nat} (hphase : s.boot.phase = .pllWait) (hstopped : s.tb.running = false)
    (hcode : code = 3 ∨ code = 4) (hretried : s.boot.clockRetried = true) :
    exec (.refclkTimeout code) s = .next (faultHold s (powerPhase s) code) := by
  change execRefclkTimeout code s = _
  simp [execRefclkTimeout, hphase, hstopped, hcode, hretried, done]

/-- Settles O57: the first timeout marks the retry and nothing else, the second latches its code, which fault hold keeps. -/
theorem clockFailureHolds : Obligations.ClockFailureHolds := by
  intro s code hwf hphase hstopped hcode
  constructor
  · intro hretried
    exact ⟨_, exec_refclkTimeout_first hphase hstopped hcode hretried, rfl, hphase, rfl, rfl⟩
  · intro hretried
    refine ⟨_, exec_refclkTimeout_second hphase hstopped hcode hretried, phase_faultHold .., ?_⟩
    rw [get_faultHold_code hwf (by omega)]
    omega

end Sys2Proof.Machine
end

section
/-!
The ASN read by halves (R277): the snapshots of the requesters, and a read of ASN_HI.
-/

namespace Sys2Proof.Machine

/-! ## Each requester has its own snapshots -/

@[simp] theorem assocGet_assocSet_of_ne {α : Type} {k j : Nat} (hjk : j ≠ k) (l : List (Nat × α)) (v : α) :
    assocGet (assocSet l k v) j = assocGet l j := by
  induction l with
  | nil => simp [assocSet, assocGet, hjk.symm]
  | cons p l ih =>
    rw [assocSet]
    split_ifs with hhere hbefore
    · simp [assocGet, hhere, hjk.symm]
    · simp [assocGet, hjk.symm]
    · simp [assocGet, ih]

@[simp] theorem bank_inj {p q : Requester} : p.bank = q.bank ↔ p = q := by
  cases p <;> cases q <;> decide

@[simp] theorem snapsOf_setSnaps_self (s : State) (q : Requester) (x : Snapshots) : (s.setSnaps q x).snapsOf q = x := by
  simp [State.snapsOf, State.setSnaps]

@[simp] theorem snapsOf_setSnaps_of_ne {p q : Requester} (hpq : p ≠ q) (s : State) (x : Snapshots) :
    (s.setSnaps q x).snapsOf p = s.snapsOf p := by
  simp [State.snapsOf, State.setSnaps, hpq]

/-! ## Answers -/

@[simp] theorem snapsOf_answer (s : State) (q p : Requester) (v : Nat) : (s.answer q v).snapsOf p = s.snapsOf p := rfl

@[simp] theorem reply_answer_self (s : State) (q : Requester) (v : Nat) : assocGet (s.answer q v).reply q.bank = some v :=
  assocGet_assocSet_self ..

/-- A word read that answered `v` answers `v` for its 32 bits. -/
theorem exec_counterReadClear_of_answer {s t : State} {q : Requester} {off v : Nat} (hs : powered s = true) (halign : off % 4 = 0)
    (hread : readWord s q off = t.answer q v) (hv : v < 2 ^ 32) :
    exec (.counterReadClear q off 4) s = .next ((t.answer q v).answer q v) := by
  have hbits : natBits v 0 32 = v := by rw [natBits, pow_zero, Nat.div_one, Nat.mod_eq_of_lt hv]
  rw [exec_counterReadClear_word hs halign, hread, reply_answer_self, Option.getD_some, hbits]

/-! ## A read of ASN_HI -/

theorem asnHigh_lt (s : State) : s.asnNat / 2 ^ 32 < 2 ^ 32 :=
  Nat.div_lt_of_lt_mul (s.psm.asn.isLt.trans (by decide))

theorem readWord_asnHi {s : State} (hrun : running s = true) (q : Requester) :
    readWord s q R.ASN_HI =
      snapAnswer s q (s.snapsOf q).asnHi (s.asnNat / 2 ^ 32) { s.snapsOf q with asnHi := none } := by
  have hunit : unitAt s.part R.ASN_HI = true := rfl
  have hbefore : beforeRead s R.ASN_HI = s := rfl
  have hspecial : readSpecial s q R.ASN_HI =
      some (snapAnswer s q (s.snapsOf q).asnHi (s.asnNat / 2 ^ 32) { s.snapsOf q with asnHi := none }) := rfl
  simp [readWord, blockOpen_of_running hrun, hunit, hbefore, hspecial]

theorem readWord_asnHi_of_snapshot {s : State} (hrun : running s = true) {q : Requester} {v : Nat}
    (hsnap : (s.snapsOf q).asnHi = some v) :
    readWord s q R.ASN_HI = (s.setSnaps q { s.snapsOf q with asnHi := none }).answer q v := by
  rw [readWord_asnHi hrun, hsnap, snapAnswer]

theorem readWord_asnHi_live {s : State} (hrun : running s = true) {q : Requester} (hsnap : (s.snapsOf q).asnHi = none) :
    readWord s q R.ASN_HI = s.answer q (s.asnNat / 2 ^ 32) := by
  rw [readWord_asnHi hrun, hsnap, snapAnswer]

/-- Settles O58: the first read sets the snapshot under its requester's own bank; the read of ASN_HI answers that snapshot and uses it up
(the model's choice, log 128), or answers the live value where there is none. -/
theorem asnHighReadIsSnapshot : Obligations.AsnHighReadIsSnapshot := by
  intro s q hrun
  have hpow := powered_of_running hrun
  refine ⟨⟨_, rfl, ?_, ?_, ?_⟩, fun v hsnap hv => ?_, fun hsnap => ?_⟩
  · exact reply_answer_self ..
  · rw [snapsOf_answer, snapsOf_setSnaps_self]
  · intro p hpq
    rw [snapsOf_answer, snapsOf_setSnaps_of_ne hpq]
  · refine ⟨_, exec_counterReadClear_of_answer hpow rfl (readWord_asnHi_of_snapshot hrun hsnap) hv, reply_answer_self .., ?_⟩
    rw [snapsOf_answer, snapsOf_answer, snapsOf_setSnaps_self]
  · exact ⟨_, exec_counterReadClear_of_answer hpow rfl (readWord_asnHi_live hrun hsnap) (asnHigh_lt s), reply_answer_self ..⟩

end Sys2Proof.Machine
end

section
/-!
The owner of the timebase (R410): every way of writing one of its six registers reaches `notOwner` for another requester.
-/

namespace Sys2Proof.Machine

/-! ## What a write of another requester leaves -/

theorem get_notOwner_result {s : State} (hwf : Memory.wf s = true) : (notOwner s).get R.TB_STATUS_RESULT = 2 := by
  rw [notOwner, get_bump_apart (wf_set hwf _ _) (by decide) (by decide), get_set_self hwf (by decide)]
  rfl

theorem get_notOwner_count {s : State} (hwf : Memory.wf s = true) :
    (notOwner s).get R.TB_CNT_NOT_OWNER = min (2 ^ R.TB_CNT_NOT_OWNER.width - 1) (s.get R.TB_CNT_NOT_OWNER + 1) := by
  rw [notOwner, get_bump_self (wf_set hwf _ _) (by decide), get_set_apart hwf (by decide) (by decide)]

@[simp] theorem tb_notOwner (s : State) : (notOwner s).tb = s.tb := rfl

theorem word_notOwner {s : State} (hwf : Memory.wf s = true) {key : Nat} (hstatus : key ≠ R.TB_STATUS) (hcount : key ≠ R.TB_CNT) :
    (notOwner s).word key = s.word key :=
  (word_set_of_ne (wf_set hwf _ _) hcount _).trans (word_set_of_ne hwf hstatus 2)

/-! ## The registers of the owner -/

/-- The registers that only the owner of the timebase writes (R410). -/
def tbOwnedRegs : List Nat := [R.TB_INC_LO, R.TB_INC_HI, R.TB_STEP_LO, R.TB_STEP_HI, R.TB_SERVO, R.TB_FERR]

theorem ne_status_count_of_mem_tbOwnedRegs : ∀ key ∈ tbOwnedRegs, key ≠ R.TB_STATUS ∧ key ≠ R.TB_CNT := by decide

theorem align_of_mem_tbOwnedRegs : ∀ off ∈ tbOwnedRegs, off % 4 = 0 := by decide

theorem unitAt_of_mem_tbOwnedRegs (p : Part) : ∀ off ∈ tbOwnedRegs, unitAt p off = true :=
  List.forall_iff_forall_mem.1 ⟨rfl, rfl, rfl, rfl, rfl, rfl⟩

/-! ## The writes of another requester -/

section
variable {s : State} {q : Requester} (hother : tbOwner s q = false)
include hother

theorem ownerWrite_of_other (act : State → State) : ownerWrite s q act = notOwner s := by
  simp [ownerWrite, hother]

theorem execTbIncCommit_of_other (v : Nat) : execTbIncCommit q v s = .next (notOwner s) := by
  simp [execTbIncCommit, hother, done]

theorem execTbStepCommit_of_other (v : Nat) : execTbStepCommit q v s = .next (notOwner s) := by
  simp [execTbStepCommit, hother, done]

theorem execTbServoWrite_of_other (v : Nat) : execTbServoWrite q v s = .next (notOwner s) := by
  simp [execTbServoWrite, hother, done]

/-- The high halves and the servo word take the command of their row, the other three are guarded where they are written. -/
theorem writeSingle_of_other (v : Nat) : ∀ off ∈ tbOwnedRegs, writeSingle s q off v = some (notOwner s) := by
  refine List.forall_iff_forall_mem.1 ⟨?incLo, ?incHi, ?stepLo, ?stepHi, ?servo, ?ferr⟩
  case incLo | stepLo | ferr => exact congrArg some (ownerWrite_of_other hother _)
  case incHi => exact congrArg (some ∘ settled s) (execTbIncCommit_of_other hother v)
  case stepHi => exact congrArg (some ∘ settled s) (execTbStepCommit_of_other hother v)
  case servo => exact congrArg (some ∘ settled s) (execTbServoWrite_of_other hother v)

end

theorem writeWord_of_writeSingle {s t : State} {q : Requester} {off v : Nat} (hopen : blockOpen s q off = true)
    (hpresent : unitAt s.part off = true) (hsingle : writeSingle s q off v = some t) (fails : List (Nat × Nat)) (data : List Byte) :
    writeWord s q off v fails data = t := by
  simp [writeWord, hopen, hpresent, writeRegister, writeSpecial, hsingle]

theorem exec_registerWrite_tbOwned_of_other {s : State} {q : Requester} (hrun : running s = true) (hother : tbOwner s q = false)
    {off : Nat} (hoff : off ∈ tbOwnedRegs) (v : Nat) (fails : List (Nat × Nat)) (data : List Byte) :
    exec (.registerWrite q off 4 v false fails data) s = .next (notOwner s) := by
  rw [exec_registerWrite_word (powered_of_running hrun) (align_of_mem_tbOwnedRegs off hoff),
    writeWord_of_writeSingle (blockOpen_of_running hrun q off) (unitAt_of_mem_tbOwnedRegs s.part off hoff)
      (writeSingle_of_other hother _ off hoff)]

/-- Settles O59: each of the three commands and each of the six register writes ends in `notOwner`, which changes TB_STATUS and
TB_CNT alone. -/
theorem timebaseOwnerAlone : Obligations.TimebaseOwnerAlone := by
  intro s q v fails data hwf hrun hother row hrow
  have hexec : exec row s = .next (notOwner s) := by
    have hwrite {off : Nat} (hoff : off ∈ tbOwnedRegs) := exec_registerWrite_tbOwned_of_other hrun hother hoff v fails data
    revert row
    exact List.forall_iff_forall_mem.1 ⟨execTbIncCommit_of_other hother v, execTbStepCommit_of_other hother v,
      execTbServoWrite_of_other hother v, hwrite (by decide), hwrite (by decide), hwrite (by decide), hwrite (by decide),
      hwrite (by decide), hwrite (by decide)⟩
  refine ⟨_, hexec, get_notOwner_result hwf, get_notOwner_count hwf, tb_notOwner s, fun key hkey => ?_⟩
  obtain ⟨hstatus, hcount⟩ := ne_status_count_of_mem_tbOwnedRegs key hkey
  exact word_notOwner hwf hstatus hcount

end Sys2Proof.Machine
end

section
/-!
A masked write that meets a poisoned NCS line (R500, R508): what one write of a line leaves in the store and among the poisoned lines.
-/

namespace Sys2Proof.Machine

/-! ## What a line's reads depend on -/

theorem line_of_fwd_eq {s t : State} (h : t.fwd = s.fwd) (n : Nat) : t.line n = s.line n := by rw [State.line, State.line, h]

theorem linePoisoned_of_mi_eq {s t : State} (h : t.mi = s.mi) (n : Nat) : linePoisoned t n = linePoisoned s n := by
  rw [linePoisoned, linePoisoned, h]

theorem lineCount_of_keeps {s t : State} (h : Keeps s t) : lineCount t = lineCount s := by rw [lineCount, lineCount, h.part]

/-! ## One write of a line (R303) -/

/-- The copy-on-write of an export moves the snapshot's reserve and no line. -/
@[simp] theorem ncs_snapshotWrite (s : State) (n : Nat) : (snapshotWrite s n).fwd.ncs = s.fwd.ncs := by
  unfold snapshotWrite
  split_ifs <;> rfl

@[simp] theorem bad_checkWritten (s : State) (m : LineMem) (n : Nat) :
    (checkWritten s m n).mi.bad = s.mi.bad.filter (fun x => x ≠ (m, n)) := by
  simp only [checkWritten]
  split_ifs <;> rfl

@[simp] theorem bad_tileTouched (s : State) (n : Nat) : (tileTouched s n).mi.bad = s.mi.bad := by
  unfold tileTouched
  split
  · split_ifs <;> rfl
  · rfl

/-- What follows a line's write outside the store and its checks: the suspect count, the derived-key cache and the mirror. -/
def lineFollowers (s : State) (n : Nat) (old new : Line) : State :=
  mirrorLine (cacheForget (suspectView s old new) n old new) n old new

theorem lineFollowers_frame (s : State) (n : Nat) (old new : Line) : Frame 0x104100001 s (lineFollowers s n old new) :=
  mirrorLine_frame rfl (cacheForget_frame rfl (suspectView_frame rfl (Frame.refl _ s) old new) n old new) n old new

@[simp] theorem fwd_lineFollowers (s : State) (n : Nat) (old new : Line) : (lineFollowers s n old new).fwd = s.fwd :=
  (lineFollowers_frame s n old new).of .fwd rfl

@[simp] theorem mi_lineFollowers (s : State) (n : Nat) (old new : Line) : (lineFollowers s n old new).mi = s.mi :=
  (lineFollowers_frame s n old new).of .mi rfl

/-- The store takes a new content for a line, after the copy-on-write of an export (R323). -/
def lineStored (s : State) (n : Nat) (new : Line) : State :=
  let s := snapshotWrite s n
  s.putFwd { s.fwd with ncs := cellsWrite zeroCell s.fwd.ncs n new }

/-- The tile checksum and the check of a line follow its new content (R501, R500). -/
def lineChecked (s : State) (n : Nat) (old new : Line) : State := tileTouched (checkWritten (tileUpdate s n old new) .ncs n) n

theorem fwd_lineChecked (s : State) (n : Nat) (old new : Line) : (lineChecked s n old new).fwd = s.fwd :=
  (tileTouched_frame rfl (checkWritten_frame rfl (tileUpdate_frame rfl (Frame.refl 0x2000001 s) n old new) .ncs n) n).of .fwd rfl

theorem linePoisoned_lineChecked (s : State) (n : Nat) (old new : Line) : linePoisoned (lineChecked s n old new) n = false := by
  simp [linePoisoned, lineChecked]

theorem writeLine_of_lt {s : State} {n : Nat} (hn : n < lineCount s) (new : Line) :
    writeLine s n new = lineFollowers (lineChecked (lineStored s n new) n (s.line n) new) n (s.line n) new := by
  rw [writeLine, if_pos hn]
  rfl

theorem line_lineStored {s : State} (hwf : Memory.wf s = true) (n : Nat) (new : Line) : (lineStored s n new).line n = new := by
  have hcells : (lineStored s n new).fwd.ncs = cellsWrite zeroCell s.fwd.ncs n new := by simp [lineStored]
  rw [State.line, hcells, cellsRead_write (wf_ncs hwf), if_pos rfl]

theorem line_writeLine_self {s : State} (hwf : Memory.wf s = true) {n : Nat} (hn : n < lineCount s) (new : Line) :
    (writeLine s n new).line n = new := by
  rw [writeLine_of_lt hn, line_of_fwd_eq (fwd_lineFollowers ..), line_of_fwd_eq (fwd_lineChecked ..), line_lineStored hwf]

/-- Whatever is written to a line, its reads are clean afterwards (R500). -/
theorem linePoisoned_writeLine_self {s : State} {n : Nat} (hn : n < lineCount s) (new : Line) :
    linePoisoned (writeLine s n new) n = false := by
  rw [writeLine_of_lt hn, linePoisoned_of_mi_eq (mi_lineFollowers ..), linePoisoned_lineChecked]

/-! ## A poisoned line is consumed (R507) -/

theorem rebuildLine_consumePoison {s : State} (hwf : Memory.wf s = true) (consumer tag : Nat) :
    rebuildLine (consumePoison s consumer tag) = rebuildLine s := by
  rw [rebuildLine, rebuildLine, consumePoison, get_postEvent (wf_bump hwf _) (by decide) _ _ rfl,
    get_bump_apart hwf (by decide) (by decide)]

theorem line_consumeLine_self {s : State} (hwf : Memory.wf s = true) {n : Nat} (hn : n < lineCount s) :
    (consumeLine s n).line n = rebuildLine s := by
  have hkeeps := consumePoison_keeps (Keeps.refl s) 1 n
  rw [consumeLine, markRebuild, line_writeLine_self (wf_keeps hkeeps hwf) (lineCount_of_keeps hkeeps ▸ hn),
    rebuildLine_consumePoison hwf]

/-! ## A mask of all 64 bytes -/

theorem natBit_eq_testBit (v i : Nat) : natBit v i = v.testBit i := by
  rw [natBit, natBits, pow_one, Nat.testBit_eq_decide_div_mod_eq]

theorem natBit_ones {w i : Nat} (hi : i < w) : natBit (2 ^ w - 1) i = true := by
  rw [natBit_eq_testBit, Nat.testBit_two_pow_sub_one, decide_eq_true hi]

/-- The first `k` bytes of a number, each put back at its place. -/
theorem foldl_natBits_bytes (v k : Nat) :
    (List.range k).foldl (fun a b => a + natBits v (8 * b) 8 * 2 ^ (8 * b)) 0 = v % 2 ^ (8 * k) := by
  induction k with
  | zero => simp [Nat.mod_one]
  | succ k ih =>
    rw [List.range_succ, List.foldl_concat, ih, natBits, Nat.mul_succ, pow_add, Nat.mod_mul, Nat.mul_comm (2 ^ (8 * k))]

theorem ofNat_foldl_natBits_bytes (v k : Nat) :
    BitVec.ofNat (8 * k) ((List.range k).foldl (fun a b => a + natBits v (8 * b) 8 * 2 ^ (8 * b)) 0) = BitVec.ofNat (8 * k) v := by
  rw [foldl_natBits_bytes]
  exact BitVec.eq_of_toNat_eq (Nat.mod_mod ..)

theorem maskedLine_full (old : Line) (data : Nat) : maskedLine old (2 ^ 64 - 1) data = BitVec.ofNat 512 data :=
  calc maskedLine old (2 ^ 64 - 1) data
    _ = BitVec.ofNat 512 ((List.range 64).foldl (fun a b => a + natBits data (8 * b) 8 * 2 ^ (8 * b)) 0) :=
        congrArg (BitVec.ofNat 512) <| List.foldl_ext _ _ _ fun a b hb => by
          rw [natBit_ones (List.mem_range.1 hb), if_pos rfl]
    _ = BitVec.ofNat 512 data := ofNat_foldl_natBits_bytes data 64

/-! ## The command -/

theorem lt_lineCount_of_ncsCheck {s : State} {n : Nat} (h : ncsCheck s n = 0) : n < lineCount s := by
  by_contra hge
  rw [ncsCheck, if_pos (Nat.le_of_not_lt hge)] at h
  exact absurd h (by decide)

@[simp] theorem fwd_ncsAnswer (s : State) (q : Requester) (r : Nat) : (ncsAnswer s q r).fwd = s.fwd := rfl

@[simp] theorem mi_ncsAnswer (s : State) (q : Requester) (r : Nat) : (ncsAnswer s q r).mi = s.mi := rfl

@[simp] theorem fwd_mapForget (s : State) (n : Nat) (old new : Line) : (mapForget s n old new).fwd = s.fwd :=
  (mapForget_frame rfl (Frame.refl 0x2001 s) n old new).of .fwd rfl

@[simp] theorem mi_mapForget (s : State) (n : Nat) (old new : Line) : (mapForget s n old new).mi = s.mi :=
  (mapForget_frame rfl (Frame.refl 0x2001 s) n old new).of .mi rfl

section
variable {s : State} {q : Requester} {n : Nat} (hopen : openTo s q = true) (hfull : fwdFull q = true)
  (hclaim : s.bit R.PAIR_STATUS_CLAIM_OUT = true) (hcheck : ncsCheck s n = 0)
include hopen hfull hclaim hcheck

theorem exec_ncsMaskedWrite_whole (hmask : ncsMask s q = 2 ^ 64 - 1) :
    exec (.ncsMaskedWrite q n) s = .next (ncsAnswer (mapForget (writeLine s n (BitVec.ofNat 512 (ncsData s q))) n (s.line n)
      (BitVec.ofNat 512 (ncsData s q))) q 0) := by
  change execNcsMaskedWrite q n s = _
  simp [execNcsMaskedWrite, hopen, hfull, hclaim, hcheck, hmask, ← maskedLine_full (s.line n), done]

theorem exec_ncsMaskedWrite_narrow_poisoned (hpoison : linePoisoned s n = true) (hmask : ncsMask s q ≠ 2 ^ 64 - 1) :
    exec (.ncsMaskedWrite q n) s = .next (ncsAnswer (consumeLine s n) q 2) := by
  change execNcsMaskedWrite q n s = _
  have hnarrow : ncsMask s q ≠ 18446744073709551615 := hmask
  simp [execNcsMaskedWrite, hopen, hfull, hclaim, hcheck, hpoison, hnarrow, done]

end

/-- Settles O60: both cases end in one `writeLine`, of the written data or of the rebuild mark; NODE_MIN, which the mark takes, is not
touched by the event that consuming the poison posts. -/
theorem poisonedLineMaskedWrite : Obligations.PoisonedLineMaskedWrite := by
  intro s q n hwf hopen hfull hclaim hcheck hpoison
  have hn := lt_lineCount_of_ncsCheck hcheck
  constructor
  · intro hmask
    refine ⟨_, exec_ncsMaskedWrite_whole hopen hfull hclaim hcheck hmask, ?_, ?_⟩
    · rw [line_of_fwd_eq (fwd_ncsAnswer ..), line_of_fwd_eq (fwd_mapForget ..), line_writeLine_self hwf hn]
    · rw [linePoisoned_of_mi_eq (mi_ncsAnswer ..), linePoisoned_of_mi_eq (mi_mapForget ..), linePoisoned_writeLine_self hn]
  · intro hmask
    refine ⟨_, exec_ncsMaskedWrite_narrow_poisoned hopen hfull hclaim hcheck hpoison hmask, ?_⟩
    rw [line_of_fwd_eq (fwd_ncsAnswer ..), line_consumeLine_self hwf hn]

end Sys2Proof.Machine
end

section
/-!
What holds of every command in every state: it completes with what `Keeps` says, and it changes no component that `mayChange` does not
name. Each is a table over the commands, one law of Laws/Keeps… or Laws/Frame… a row.
-/

namespace Sys2Proof.Machine

/-! ## Every command completes -/

theorem exec_completes (c : Instr) (s : State) : Completes s (exec c s) :=
  match c with
  | .porstNRelease .. => execPorstNRelease_keeps (Keeps.refl s) ..
  | .porstNAssert => execPorstNAssert_keeps (Keeps.refl s)
  | .vddAonLoss => execVddAonLoss_keeps (Keeps.refl s)
  | .vddAonUp => execVddAonUp_keeps (Keeps.refl s)
  | .pwrPgHigh => execPwrPgHigh_keeps (Keeps.refl s)
  | .pwrPgTimeout => execPwrPgTimeout_keeps (Keeps.refl s)
  | .powerRetryWaitEnd => execPowerRetryWaitEnd_keeps (Keeps.refl s)
  | .pwrPgFall => execPwrPgFall_keeps (Keeps.refl s)
  | .pllLock .. => execPllLock_keeps (Keeps.refl s) ..
  | .refclkTimeout .. => execRefclkTimeout_keeps (Keeps.refl s) ..
  | .componentLoadDone .. => execComponentLoadDone_keeps (Keeps.refl s) ..
  | .configImageRead .. => execConfigImageRead_keeps (Keeps.refl s) ..
  | .coldCalDone .. => execColdCalDone_keeps (Keeps.refl s) ..
  | .warmRstNAssert => execWarmRstNAssert_keeps (Keeps.refl s)
  | .warmRstNRelease => execWarmRstNRelease_keeps (Keeps.refl s)
  | .resetCtrlWrite .. => execResetCtrlWrite_keeps (Keeps.refl s) ..
  | .warmRestartDelayEnd => execWarmRestartDelayEnd_keeps (Keeps.refl s)
  | .recoveryChunk .. => execRecoveryChunk_keeps (Keeps.refl s) ..
  | .recoveryComponentDone .. => execRecoveryComponentDone_keeps (Keeps.refl s) ..
  | .lfclkMeasureDone .. => execLfclkMeasureDone_keeps (Keeps.refl s) ..
  | .lfclkAcceptTimeout => execLfclkAcceptTimeout_keeps (Keeps.refl s)
  | .lfclkRemeasureTimer => execLfclkRemeasureTimer_keeps (Keeps.refl s)
  | .lfclkEdgeLoss => execLfclkEdgeLoss_keeps (Keeps.refl s)
  | .rtwDataWrite .. => execRtwDataWrite_keeps (Keeps.refl s) ..
  | .aonFailClear => execAonFailClear_keeps (Keeps.refl s)
  | .retentionRefresh .. => execRetentionRefresh_keeps (Keeps.refl s) ..
  | .registerWrite .. => execRegisterWrite_keeps (Keeps.refl s) ..
  | .counterReadClear .. => execCounterReadClear_keeps (Keeps.refl s) ..
  | .synthLockAcquired .. => execSynthLockAcquired_keeps (Keeps.refl s) ..
  | .synthLockLoss .. => execSynthLockLoss_keeps (Keeps.refl s) ..
  | .lockTimeout .. => execLockTimeout_keeps (Keeps.refl s) ..
  | .oosRetuneRetry .. => execOosRetuneRetry_keeps (Keeps.refl s) ..
  | .txIntervalStart .. => execTxIntervalStart_keeps (Keeps.refl s) ..
  | .blankingEnd .. => execBlankingEnd_keeps (Keeps.refl s) ..
  | .txLatestStartExpiry .. => execTxLatestStartExpiry_keeps (Keeps.refl s) ..
  | .calYieldRequest .. => execCalYieldRequest_keeps (Keeps.refl s) ..
  | .devclkCheck .. => execDevclkCheck_keeps (Keeps.refl s) ..
  | .jesdArm => execJesdArm_keeps (Keeps.refl s)
  | .sysrefEdge .. => execSysrefEdge_keeps (Keeps.refl s) ..
  | .jesdMultiblockRx .. => execJesdMultiblockRx_keeps (Keeps.refl s) ..
  | .jesdLinkAligned .. => execJesdLinkAligned_keeps (Keeps.refl s) ..
  | .coeffSetIssue .. => execCoeffSetIssue_keeps (Keeps.refl s) ..
  | .barrierComplete .. => execBarrierComplete_keeps (Keeps.refl s) ..
  | .estimatorResult .. => execEstimatorResult_keeps (Keeps.refl s) ..
  | .noiseReportTimer .. => execNoiseReportTimer_keeps (Keeps.refl s) ..
  | .trimInterval => execTrimInterval_keeps (Keeps.refl s)
  | .oscManWrite .. => execOscManWrite_keeps (Keeps.refl s) ..
  | .calCancel .. => execCalCancel_keeps (Keeps.refl s) ..
  | .calImage .. => execCalImage_keeps (Keeps.refl s) ..
  | .calAnalogFilter .. => execCalAnalogFilter_keeps (Keeps.refl s) ..
  | .calAnalogDc .. => execCalAnalogDc_keeps (Keeps.refl s) ..
  | .calTxIqLo .. => execCalTxIqLo_keeps (Keeps.refl s) ..
  | .calFull .. => execCalFull_keeps (Keeps.refl s) ..
  | .calSelfTest .. => execCalSelfTest_keeps (Keeps.refl s) ..
  | .slicedCalUnit .. => execSlicedCalUnit_keeps (Keeps.refl s) ..
  | .exclusiveCalStart .. => execExclusiveCalStart_keeps (Keeps.refl s) ..
  | .exclusiveCalDone .. => execExclusiveCalDone_keeps (Keeps.refl s) ..
  | .calRequestTimeout .. => execCalRequestTimeout_keeps (Keeps.refl s) ..
  | .assignmentRecord .. => execAssignmentRecord_keeps (Keeps.refl s) ..
  | .preambleDetect .. => execPreambleDetect_keeps (Keeps.refl s) ..
  | .falseDetection .. => execFalseDetection_keeps (Keeps.refl s) ..
  | .falseDetSecond .. => execFalseDetSecond_keeps (Keeps.refl s) ..
  | .antennaDecision .. => execAntennaDecision_keeps (Keeps.refl s) ..
  | .sfdDetect .. => execSfdDetect_keeps (Keeps.refl s) ..
  | .phrDecode .. => execPhrDecode_keeps (Keeps.refl s) ..
  | .frameEnd .. => execFrameEnd_keeps (Keeps.refl s) ..
  | .rxqWaitTimeout .. => execRxqWaitTimeout_keeps (Keeps.refl s) ..
  | .txWorkItem .. => execTxWorkItem_keeps (Keeps.refl s) ..
  | .txFrameEnd .. => execTxFrameEnd_keeps (Keeps.refl s) ..
  | .mapTrailer => execMapTrailer_keeps (Keeps.refl s)
  | .staleIndigoReport .. => execStaleIndigoReport_keeps (Keeps.refl s) ..
  | .mapHoldExpiry .. => execMapHoldExpiry_keeps (Keeps.refl s) ..
  | .imapRateChange .. => execImapRateChange_keeps (Keeps.refl s) ..
  | .imapClear .. => execImapClear_keeps (Keeps.refl s) ..
  | .imapResend .. => execImapResend_keeps (Keeps.refl s) ..
  | .slotBoundary => execSlotBoundary_keeps (Keeps.refl s)
  | .receivedFrame .. => execReceivedFrame_keeps (Keeps.refl s) ..
  | .replyWindowEnd .. => execReplyWindowEnd_keeps (Keeps.refl s) ..
  | .nodeAckWindowEnd .. => execNodeAckWindowEnd_keeps (Keeps.refl s) ..
  | .joinRequest .. => execJoinRequest_keeps (Keeps.refl s) ..
  | .driftObservation => execDriftObservation_keeps (Keeps.refl s)
  | .modelAgeExpiry .. => execModelAgeExpiry_keeps (Keeps.refl s) ..
  | .wakeSetTarget .. => execWakeSetTarget_keeps (Keeps.refl s) ..
  | .wakeResetModel .. => execWakeResetModel_keeps (Keeps.refl s) ..
  | .peerBeaconRx .. => execPeerBeaconRx_keeps (Keeps.refl s) ..
  | .trackSlotframeMiss => execTrackSlotframeMiss_keeps (Keeps.refl s)
  | .ehtLookup .. => execEhtLookup_keeps (Keeps.refl s) ..
  | .ehtInsert .. => execEhtInsert_keeps (Keeps.refl s) ..
  | .ehtDelete .. => execEhtDelete_keeps (Keeps.refl s) ..
  | .ehtRebuildDone => execEhtRebuildDone_keeps (Keeps.refl s)
  | .heardByUpdate .. => execHeardByUpdate_keeps (Keeps.refl s) ..
  | .hbTick => execHbTick_keeps (Keeps.refl s)
  | .nodeMinuteSweep => execNodeMinuteSweep_keeps (Keeps.refl s)
  | .infraEntryWrite .. => execInfraEntryWrite_keeps (Keeps.refl s) ..
  | .infraComparePass .. => execInfraComparePass_keeps (Keeps.refl s) ..
  | .bar2Read .. => execBar2Read_keeps (Keeps.refl s) ..
  | .snapshotExport => execSnapshotExport_keeps (Keeps.refl s)
  | .snapshotExportDone .. => execSnapshotExportDone_keeps (Keeps.refl s) ..
  | .snapshotRestore .. => execSnapshotRestore_keeps (Keeps.refl s) ..
  | .restoreReadDone .. => execRestoreReadDone_keeps (Keeps.refl s) ..
  | .snapshotAbort => execSnapshotAbort_keeps (Keeps.refl s)
  | .ncsRead .. => execNcsRead_keeps (Keeps.refl s) ..
  | .ncsMaskedWrite .. => execNcsMaskedWrite_keeps (Keeps.refl s) ..
  | .ncsZeroLine .. => execNcsZeroLine_keeps (Keeps.refl s) ..
  | .ncsBulkClear .. => execNcsBulkClear_keeps (Keeps.refl s) ..
  | .bulkClearDone => execBulkClearDone_keeps (Keeps.refl s)
  | .hbRead .. => execHbRead_keeps (Keeps.refl s) ..
  | .hbInvalidate .. => execHbInvalidate_keeps (Keeps.refl s) ..
  | .scheduleEpochSwitch => execScheduleEpochSwitch_keeps (Keeps.refl s)
  | .pathSchedWrite .. => execPathSchedWrite_keeps (Keeps.refl s) ..
  | .depthSample => execDepthSample_keeps (Keeps.refl s)
  | .queueItemWrite .. => execQueueItemWrite_keeps (Keeps.refl s) ..
  | .queueRoomAvailable .. => execQueueRoomAvailable_keeps (Keeps.refl s) ..
  | .queueItemRead .. => execQueueItemRead_keeps (Keeps.refl s) ..
  | .queuePointerMismatch .. => execQueuePointerMismatch_keeps (Keeps.refl s) ..
  | .queueResetDone .. => execQueueResetDone_keeps (Keeps.refl s) ..
  | .queueTestForce .. => execQueueTestForce_keeps (Keeps.refl s) ..
  | .pcieReset .. => execPcieReset_keeps (Keeps.refl s) ..
  | .pcieResetRelease => execPcieResetRelease_keeps (Keeps.refl s)
  | .pcieLinkChange .. => execPcieLinkChange_keeps (Keeps.refl s) ..
  | .unsupportedRequest => execUnsupportedRequest_keeps (Keeps.refl s)
  | .eventGenerate .. => execEventGenerate_keeps (Keeps.refl s) ..
  | .eventRecordWrite .. => execEventRecordWrite_keeps (Keeps.refl s) ..
  | .eventWriteback .. => execEventWriteback_keeps (Keeps.refl s) ..
  | .msixMessage .. => execMsixMessage_keeps (Keeps.refl s) ..
  | .evrCtrlWrite .. => execEvrCtrlWrite_keeps (Keeps.refl s) ..
  | .evrBaseWrite .. => execEvrBaseWrite_keeps (Keeps.refl s) ..
  | .evrConsWrite .. => execEvrConsWrite_keeps (Keeps.refl s) ..
  | .hqCtrlWrite .. => execHqCtrlWrite_keeps (Keeps.refl s) ..
  | .hqTailWrite .. => execHqTailWrite_keeps (Keeps.refl s) ..
  | .hostTxDescriptor .. => execHostTxDescriptor_keeps (Keeps.refl s) ..
  | .ethIngressFrame .. => execEthIngressFrame_keeps (Keeps.refl s) ..
  | .ethPortLinkUp .. => execEthPortLinkUp_keeps (Keeps.refl s) ..
  | .ethPortLinkDown .. => execEthPortLinkDown_keeps (Keeps.refl s) ..
  | .preemptVerifyTimeout .. => execPreemptVerifyTimeout_keeps (Keeps.refl s) ..
  | .reassemblyTimeout .. => execReassemblyTimeout_keeps (Keeps.refl s) ..
  | .tbIncCommit .. => execTbIncCommit_keeps (Keeps.refl s) ..
  | .tbStepCommit .. => execTbStepCommit_keeps (Keeps.refl s) ..
  | .tbServoWrite .. => execTbServoWrite_keeps (Keeps.refl s) ..
  | .tbNsLoRead .. => execTbNsLoRead_keeps (Keeps.refl s) ..
  | .asnLoRead .. => execAsnLoRead_keeps (Keeps.refl s) ..
  | .tsInputEdge .. => execTsInputEdge_keeps (Keeps.refl s) ..
  | .tsoCtrlWrite .. => execTsoCtrlWrite_keeps (Keeps.refl s) ..
  | .tsoTargetCommit .. => execTsoTargetCommit_keeps (Keeps.refl s) ..
  | .tsoTargetReached .. => execTsoTargetReached_keeps (Keeps.refl s) ..
  | .tsoPulseEnd .. => execTsoPulseEnd_keeps (Keeps.refl s) ..
  | .timeErrSecond => execTimeErrSecond_keeps (Keeps.refl s)
  | .ratioMeasureDone .. => execRatioMeasureDone_keeps (Keeps.refl s) ..
  | .gtMatch .. => execGtMatch_keeps (Keeps.refl s) ..
  | .gtWrap .. => execGtWrap_keeps (Keeps.refl s) ..
  | .gtCapture .. => execGtCapture_keeps (Keeps.refl s) ..
  | .gtRegisterApply .. => execGtRegisterApply_keeps (Keeps.refl s) ..
  | .gtCntLoRead .. => execGtCntLoRead_keeps (Keeps.refl s) ..
  | .cpuWdogWarn .. => execCpuWdogWarn_keeps (Keeps.refl s) ..
  | .cpuWdogExpiry .. => execCpuWdogExpiry_keeps (Keeps.refl s) ..
  | .appAccessFault .. => execAppAccessFault_keeps (Keeps.refl s) ..
  | .appDoubleFault => execAppDoubleFault_keeps (Keeps.refl s)
  | .appHold .. => execAppHold_keeps (Keeps.refl s) ..
  | .appRelease .. => execAppRelease_keeps (Keeps.refl s) ..
  | .appReloadDone .. => execAppReloadDone_keeps (Keeps.refl s) ..
  | .appWdogKick .. => execAppWdogKick_keeps (Keeps.refl s) ..
  | .appWdogHalf => execAppWdogHalf_keeps (Keeps.refl s)
  | .appWdogExpiry => execAppWdogExpiry_keeps (Keeps.refl s)
  | .mbTxPush .. => execMbTxPush_keeps (Keeps.refl s) ..
  | .mbRxPop => execMbRxPop_keeps (Keeps.refl s)
  | .mbEcho => execMbEcho_keeps (Keeps.refl s)
  | .mbEventSubscription => execMbEventSubscription_keeps (Keeps.refl s)
  | .mbNodeLineRead => execMbNodeLineRead_keeps (Keeps.refl s)
  | .mbTimebase => execMbTimebase_keeps (Keeps.refl s)
  | .gpioSetWrite .. => execGpioSetWrite_keeps (Keeps.refl s) ..
  | .gpioClrWrite .. => execGpioClrWrite_keeps (Keeps.refl s) ..
  | .gpioInputChange .. => execGpioInputChange_keeps (Keeps.refl s) ..
  | .aicSourceRequest .. => execAicSourceRequest_keeps (Keeps.refl s) ..
  | .aicClaimRead .. => execAicClaimRead_keeps (Keeps.refl s) ..
  | .aicEoiWrite .. => execAicEoiWrite_keeps (Keeps.refl s) ..
  | .aicGdisWrite .. => execAicGdisWrite_keeps (Keeps.refl s) ..
  | .aicSwiWrite .. => execAicSwiWrite_keeps (Keeps.refl s) ..
  | .aicEnWrite .. => execAicEnWrite_keeps (Keeps.refl s) ..
  | .keyDerivationDone .. => execKeyDerivationDone_keeps (Keeps.refl s) ..
  | .secAttest .. => execSecAttest_keeps (Keeps.refl s) ..
  | .secSelftestAll .. => execSecSelftestAll_keeps (Keeps.refl s) ..
  | .secSelftestKind .. => execSecSelftestKind_keeps (Keeps.refl s) ..
  | .installEpoch .. => execInstallEpoch_keeps (Keeps.refl s) ..
  | .raiseDistrictGeneration .. => execRaiseDistrictGeneration_keeps (Keeps.refl s) ..
  | .revokeDistrict .. => execRevokeDistrict_keeps (Keeps.refl s) ..
  | .revokeEpoch .. => execRevokeEpoch_keeps (Keeps.refl s) ..
  | .zeroize .. => execZeroize_keeps (Keeps.refl s) ..
  | .programOwnerHash .. => execProgramOwnerHash_keeps (Keeps.refl s) ..
  | .revokeOwnerSlot .. => execRevokeOwnerSlot_keeps (Keeps.refl s) ..
  | .debugToken .. => execDebugToken_keeps (Keeps.refl s) ..
  | .jtagDebugRequest .. => execJtagDebugRequest_keeps (Keeps.refl s) ..
  | .selftestPeriod .. => execSelftestPeriod_keeps (Keeps.refl s) ..
  | .drbgReseed .. => execDrbgReseed_keeps (Keeps.refl s) ..
  | .lineCheckFail .. => execLineCheckFail_keeps (Keeps.refl s) ..
  | .peerLineArrival .. => execPeerLineArrival_keeps (Keeps.refl s) ..
  | .flashRecomputeDone .. => execFlashRecomputeDone_keeps (Keeps.refl s) ..
  | .scrubRead .. => execScrubRead_keeps (Keeps.refl s) ..
  | .miScrubNow .. => execMiScrubNow_keeps (Keeps.refl s) ..
  | .miApplyRepairs .. => execMiApplyRepairs_keeps (Keeps.refl s) ..
  | .miFlipWrite .. => execMiFlipWrite_keeps (Keeps.refl s) ..
  | .frameBufferSweep => execFrameBufferSweep_keeps (Keeps.refl s)
  | .claimAssert .. => execClaimAssert_keeps (Keeps.refl s) ..
  | .peerClaimChange .. => execPeerClaimChange_keeps (Keeps.refl s) ..
  | .claimKeeperExpiry .. => execClaimKeeperExpiry_keeps (Keeps.refl s) ..
  | .pairKeepWrite .. => execPairKeepWrite_keeps (Keeps.refl s) ..
  | .hjLinkFrameRx .. => execHjLinkFrameRx_keeps (Keeps.refl s) ..
  | .hjRetryTimeout .. => execHjRetryTimeout_keeps (Keeps.refl s) ..
  | .hjIdleTimeout => execHjIdleTimeout_keeps (Keeps.refl s)
  | .hjControlTimer => execHjControlTimer_keeps (Keeps.refl s)
  | .hjTrainingDone .. => execHjTrainingDone_keeps (Keeps.refl s) ..
  | .hjRetrainTimer => execHjRetrainTimer_keeps (Keeps.refl s)
  | .hjTimeExchange .. => execHjTimeExchange_keeps (Keeps.refl s) ..
  | .mirrorNcsChange .. => execMirrorNcsChange_keeps (Keeps.refl s) ..
  | .mirrorReservation .. => execMirrorReservation_keeps (Keeps.refl s) ..
  | .mirrorCrimsonEnqueue .. => execMirrorCrimsonEnqueue_keeps (Keeps.refl s) ..
  | .mirrorCrimsonDequeue .. => execMirrorCrimsonDequeue_keeps (Keeps.refl s) ..
  | .mirrorTreeState .. => execMirrorTreeState_keeps (Keeps.refl s) ..
  | .mirrorScheduleEpoch .. => execMirrorScheduleEpoch_keeps (Keeps.refl s) ..
  | .mirrorBulkClear .. => execMirrorBulkClear_keeps (Keeps.refl s) ..
  | .mirrorControl .. => execMirrorControl_keeps (Keeps.refl s) ..
  | .peerFetchRequest .. => execPeerFetchRequest_keeps (Keeps.refl s) ..
  | .resyncLineRx .. => execResyncLineRx_keeps (Keeps.refl s) ..
  | .resyncPassEnd .. => execResyncPassEnd_keeps (Keeps.refl s) ..
  | .pairPlannedSwitchover => execPairPlannedSwitchover_keeps (Keeps.refl s)
  | .pairRestartResync => execPairRestartResync_keeps (Keeps.refl s)
  | .pairHold => execPairHold_keeps (Keeps.refl s)
  | .pairResume => execPairResume_keeps (Keeps.refl s)
  | .switchoverBoundary => execSwitchoverBoundary_keeps (Keeps.refl s)
  | .handoverAck => execHandoverAck_keeps (Keeps.refl s)
  | .switchoverRewriteDone => execSwitchoverRewriteDone_keeps (Keeps.refl s)
  | .switchoverReclaimTimer => execSwitchoverReclaimTimer_keeps (Keeps.refl s)
  | .updStage .. => execUpdStage_keeps (Keeps.refl s) ..
  | .stageWriteDone .. => execStageWriteDone_keeps (Keeps.refl s) ..
  | .updActivate .. => execUpdActivate_keeps (Keeps.refl s) ..
  | .updReject .. => execUpdReject_keeps (Keeps.refl s) ..
  | .updAbort .. => execUpdAbort_keeps (Keeps.refl s) ..
  | .updBootLoad .. => execUpdBootLoad_keeps (Keeps.refl s) ..
  | .updActivateAtRestart .. => execUpdActivateAtRestart_keeps (Keeps.refl s) ..
  | .coreHandoverDone .. => execCoreHandoverDone_keeps (Keeps.refl s) ..
  | .coreHandoverTimeout .. => execCoreHandoverTimeout_keeps (Keeps.refl s) ..
  | .handoverComplete .. => execHandoverComplete_keeps (Keeps.refl s) ..
  | .configLiveApply => execConfigLiveApply_keeps (Keeps.refl s)
  | .updConfirmWrite .. => execUpdConfirmWrite_keeps (Keeps.refl s) ..
  | .probationExpiry => execProbationExpiry_keeps (Keeps.refl s)
  | .updCfgseqLoRead .. => execUpdCfgseqLoRead_keeps (Keeps.refl s) ..
  | .pwrLevelWrite .. => execPwrLevelWrite_keeps (Keeps.refl s) ..
  | .plClockSwitchTimer => execPlClockSwitchTimer_keeps (Keeps.refl s)
  | .plChangeDone => execPlChangeDone_keeps (Keeps.refl s)
  | .tempSample .. => execTempSample_keeps (Keeps.refl s) ..
  | .throttleReleaseTimer => execThrottleReleaseTimer_keeps (Keeps.refl s)
  | .paleEnter => execPaleEnter_keeps (Keeps.refl s)
  | .paleExit .. => execPaleExit_keeps (Keeps.refl s) ..
  | .pwrCmdSepia .. => execPwrCmdSepia_keeps (Keeps.refl s) ..
  | .pwrCmdUmber .. => execPwrCmdUmber_keeps (Keeps.refl s) ..
  | .sepiaEntry => execSepiaEntry_keeps (Keeps.refl s)
  | .umberEntry => execUmberEntry_keeps (Keeps.refl s)
  | .wakeSource .. => execWakeSource_keeps (Keeps.refl s) ..
  | .sleepTimerExpiry => execSleepTimerExpiry_keeps (Keeps.refl s)
  | .sepiaExitReady .. => execSepiaExitReady_keeps (Keeps.refl s) ..
  | .busMasterEnableChange .. => execBusMasterEnableChange_keeps (Keeps.refl s) ..
  | .msixVectorUnmask .. => execMsixVectorUnmask_keeps (Keeps.refl s) ..
  | .preemptVerifyResponse .. => execPreemptVerifyResponse_keeps (Keeps.refl s) ..
  | .ethEgressFrameDone .. => execEthEgressFrameDone_keeps (Keeps.refl s) ..
  | .controlCoreRestartDone .. => execControlCoreRestartDone_keeps (Keeps.refl s) ..

theorem keeps_of_exec {c : Instr} {s t : State} (h : exec c s = .next t) : Keeps s t := by
  obtain ⟨u, hu, hkeeps⟩ := exec_completes c s
  cases hu.symm.trans h
  exact hkeeps

/-- Settles O50: what `Completes` says, field by field. -/
theorem everyCommandCompletes : Obligations.EveryCommandCompletes := by
  intro c s
  obtain ⟨t, ht, hkeeps⟩ := exec_completes c s
  exact ⟨t, ht, hkeeps.part, hkeeps.flashSize, hkeeps.pending, hkeeps.now, hkeeps.wf⟩

/-- Settles O49: the queue is no store, so that taking its front keeps the form, and then the command or the clock edge does. -/
theorem storesCanonicalKept : Obligations.StoresCanonicalKept := by
  intro s t hwf hstep
  unfold step at hstep
  split at hstep
  · cases hstep
    exact wf_keeps (clockEdge_keeps (Keeps.refl s)) hwf
  · exact wf_keeps (keeps_of_exec hstep) hwf

/-! ## The frame of every command -/

/-- The components of a list, as a set of places. -/
def maskOf (l : List Comp) : Nat := l.foldl (fun m k => m ||| 2 ^ k.bit) 0

theorem bit_inj {k j : Comp} : k.bit = j.bit ↔ k = j := by
  cases k <;> cases j <;> decide

theorem testBit_foldl_comp {k : Comp} {l : List Comp} (hk : k ∉ l) {m : Nat} (hm : m.testBit k.bit = false) :
    (l.foldl (fun m j => m ||| 2 ^ j.bit) m).testBit k.bit = false := by
  induction l generalizing m with
  | nil => exact hm
  | cons j l ih =>
    obtain ⟨hj, hl⟩ := List.ne_and_not_mem_of_not_mem_cons hk
    refine ih hl ?_
    rw [Nat.testBit_or, hm, Bool.false_or, Nat.testBit_two_pow_of_ne fun h => hj (bit_inj.1 h.symm)]

theorem testBit_maskOf {k : Comp} {l : List Comp} (hk : k ∉ l) : (maskOf l).testBit k.bit = false :=
  testBit_foldl_comp hk (Nat.zero_testBit _)

theorem exec_outFrame {c : Instr} {l : List Comp} (hl : mayChange c = l) (s : State) : OutFrame (maskOf l) s (exec c s) := by
  cases c <;> (rw [mayChange] at hl; subst hl)
  case porstNRelease => exact execPorstNRelease_frame rfl (Frame.refl _ s) ..
  case porstNAssert => exact execPorstNAssert_frame rfl (Frame.refl _ s)
  case vddAonLoss => exact execVddAonLoss_frame rfl (Frame.refl _ s)
  case vddAonUp => exact execVddAonUp_frame rfl (Frame.refl _ s)
  case pwrPgHigh => exact execPwrPgHigh_frame rfl (Frame.refl _ s)
  case pwrPgTimeout => exact execPwrPgTimeout_frame rfl (Frame.refl _ s)
  case powerRetryWaitEnd => exact execPowerRetryWaitEnd_frame rfl (Frame.refl _ s)
  case pwrPgFall => exact execPwrPgFall_frame rfl (Frame.refl _ s)
  case pllLock => exact execPllLock_frame rfl (Frame.refl _ s) ..
  case refclkTimeout => exact execRefclkTimeout_frame rfl (Frame.refl _ s) ..
  case componentLoadDone => exact execComponentLoadDone_frame rfl (Frame.refl _ s) ..
  case configImageRead => exact execConfigImageRead_frame rfl (Frame.refl _ s) ..
  case coldCalDone => exact execColdCalDone_frame rfl (Frame.refl _ s) ..
  case warmRstNAssert => exact execWarmRstNAssert_frame rfl (Frame.refl _ s)
  case warmRstNRelease => exact execWarmRstNRelease_frame rfl (Frame.refl _ s)
  case resetCtrlWrite => exact execResetCtrlWrite_frame rfl (Frame.refl _ s) ..
  case warmRestartDelayEnd => exact execWarmRestartDelayEnd_frame rfl (Frame.refl _ s)
  case recoveryChunk => exact execRecoveryChunk_frame rfl (Frame.refl _ s) ..
  case recoveryComponentDone => exact execRecoveryComponentDone_frame rfl (Frame.refl _ s) ..
  case lfclkMeasureDone => exact execLfclkMeasureDone_frame rfl (Frame.refl _ s) ..
  case lfclkAcceptTimeout => exact execLfclkAcceptTimeout_frame rfl (Frame.refl _ s)
  case lfclkRemeasureTimer => exact execLfclkRemeasureTimer_frame rfl (Frame.refl _ s)
  case lfclkEdgeLoss => exact execLfclkEdgeLoss_frame rfl (Frame.refl _ s)
  case rtwDataWrite => exact execRtwDataWrite_frame rfl (Frame.refl _ s) ..
  case aonFailClear => exact execAonFailClear_frame rfl (Frame.refl _ s)
  case retentionRefresh => exact execRetentionRefresh_frame rfl (Frame.refl _ s) ..
  case registerWrite => exact execRegisterWrite_frame rfl (Frame.refl _ s) ..
  case counterReadClear => exact execCounterReadClear_frame rfl (Frame.refl _ s) ..
  case synthLockAcquired => exact execSynthLockAcquired_frame rfl (Frame.refl _ s) ..
  case synthLockLoss => exact execSynthLockLoss_frame rfl (Frame.refl _ s) ..
  case lockTimeout => exact execLockTimeout_frame rfl (Frame.refl _ s) ..
  case oosRetuneRetry => exact execOosRetuneRetry_frame rfl (Frame.refl _ s) ..
  case txIntervalStart => exact execTxIntervalStart_frame rfl (Frame.refl _ s) ..
  case blankingEnd => exact execBlankingEnd_frame rfl (Frame.refl _ s) ..
  case txLatestStartExpiry => exact execTxLatestStartExpiry_frame rfl (Frame.refl _ s) ..
  case calYieldRequest => exact execCalYieldRequest_frame rfl (Frame.refl _ s) ..
  case devclkCheck => exact execDevclkCheck_frame rfl (Frame.refl _ s) ..
  case jesdArm => exact execJesdArm_frame rfl (Frame.refl _ s)
  case sysrefEdge => exact execSysrefEdge_frame rfl (Frame.refl _ s) ..
  case jesdMultiblockRx => exact execJesdMultiblockRx_frame rfl (Frame.refl _ s) ..
  case jesdLinkAligned => exact execJesdLinkAligned_frame rfl (Frame.refl _ s) ..
  case coeffSetIssue => exact execCoeffSetIssue_frame rfl (Frame.refl _ s) ..
  case barrierComplete => exact execBarrierComplete_frame rfl (Frame.refl _ s) ..
  case estimatorResult => exact execEstimatorResult_frame rfl (Frame.refl _ s) ..
  case noiseReportTimer => exact execNoiseReportTimer_frame rfl (Frame.refl _ s) ..
  case trimInterval => exact execTrimInterval_frame rfl (Frame.refl _ s)
  case oscManWrite => exact execOscManWrite_frame rfl (Frame.refl _ s) ..
  case calCancel => exact execCalCancel_frame rfl (Frame.refl _ s) ..
  case calImage => exact execCalImage_frame rfl (Frame.refl _ s) ..
  case calAnalogFilter => exact execCalAnalogFilter_frame rfl (Frame.refl _ s) ..
  case calAnalogDc => exact execCalAnalogDc_frame rfl (Frame.refl _ s) ..
  case calTxIqLo => exact execCalTxIqLo_frame rfl (Frame.refl _ s) ..
  case calFull => exact execCalFull_frame rfl (Frame.refl _ s) ..
  case calSelfTest => exact execCalSelfTest_frame rfl (Frame.refl _ s) ..
  case slicedCalUnit => exact execSlicedCalUnit_frame rfl (Frame.refl _ s) ..
  case exclusiveCalStart => exact execExclusiveCalStart_frame rfl (Frame.refl _ s) ..
  case exclusiveCalDone => exact execExclusiveCalDone_frame rfl (Frame.refl _ s) ..
  case calRequestTimeout => exact execCalRequestTimeout_frame rfl (Frame.refl _ s) ..
  case assignmentRecord => exact execAssignmentRecord_frame rfl (Frame.refl _ s) ..
  case preambleDetect => exact execPreambleDetect_frame rfl (Frame.refl _ s) ..
  case falseDetection => exact execFalseDetection_frame rfl (Frame.refl _ s) ..
  case falseDetSecond => exact execFalseDetSecond_frame rfl (Frame.refl _ s) ..
  case antennaDecision => exact execAntennaDecision_frame rfl (Frame.refl _ s) ..
  case sfdDetect => exact execSfdDetect_frame rfl (Frame.refl _ s) ..
  case phrDecode => exact execPhrDecode_frame rfl (Frame.refl _ s) ..
  case frameEnd => exact execFrameEnd_frame rfl (Frame.refl _ s) ..
  case rxqWaitTimeout => exact execRxqWaitTimeout_frame rfl (Frame.refl _ s) ..
  case txWorkItem => exact execTxWorkItem_frame rfl (Frame.refl _ s) ..
  case txFrameEnd => exact execTxFrameEnd_frame rfl (Frame.refl _ s) ..
  case mapTrailer => exact execMapTrailer_frame rfl (Frame.refl _ s)
  case staleIndigoReport => exact execStaleIndigoReport_frame rfl (Frame.refl _ s) ..
  case mapHoldExpiry => exact execMapHoldExpiry_frame rfl (Frame.refl _ s) ..
  case imapRateChange => exact execImapRateChange_frame rfl (Frame.refl _ s) ..
  case imapClear => exact execImapClear_frame rfl (Frame.refl _ s) ..
  case imapResend => exact execImapResend_frame rfl (Frame.refl _ s) ..
  case slotBoundary => exact execSlotBoundary_frame rfl (Frame.refl _ s)
  case receivedFrame => exact execReceivedFrame_frame rfl (Frame.refl _ s) ..
  case replyWindowEnd => exact execReplyWindowEnd_frame rfl (Frame.refl _ s) ..
  case nodeAckWindowEnd => exact execNodeAckWindowEnd_frame rfl (Frame.refl _ s) ..
  case joinRequest => exact execJoinRequest_frame rfl (Frame.refl _ s) ..
  case driftObservation => exact execDriftObservation_frame rfl (Frame.refl _ s)
  case modelAgeExpiry => exact execModelAgeExpiry_frame rfl (Frame.refl _ s) ..
  case wakeSetTarget => exact execWakeSetTarget_frame rfl (Frame.refl _ s) ..
  case wakeResetModel => exact execWakeResetModel_frame rfl (Frame.refl _ s) ..
  case peerBeaconRx => exact execPeerBeaconRx_frame rfl (Frame.refl _ s) ..
  case trackSlotframeMiss => exact execTrackSlotframeMiss_frame rfl (Frame.refl _ s)
  case ehtLookup => exact execEhtLookup_frame rfl (Frame.refl _ s) ..
  case ehtInsert => exact execEhtInsert_frame rfl (Frame.refl _ s) ..
  case ehtDelete => exact execEhtDelete_frame rfl (Frame.refl _ s) ..
  case ehtRebuildDone => exact execEhtRebuildDone_frame rfl (Frame.refl _ s)
  case heardByUpdate => exact execHeardByUpdate_frame rfl (Frame.refl _ s) ..
  case hbTick => exact execHbTick_frame rfl (Frame.refl _ s)
  case nodeMinuteSweep => exact execNodeMinuteSweep_frame rfl (Frame.refl _ s)
  case infraEntryWrite => exact execInfraEntryWrite_frame rfl (Frame.refl _ s) ..
  case infraComparePass => exact execInfraComparePass_frame rfl (Frame.refl _ s) ..
  case bar2Read => exact execBar2Read_frame rfl (Frame.refl _ s) ..
  case snapshotExport => exact execSnapshotExport_frame rfl (Frame.refl _ s)
  case snapshotExportDone => exact execSnapshotExportDone_frame rfl (Frame.refl _ s) ..
  case snapshotRestore => exact execSnapshotRestore_frame rfl (Frame.refl _ s) ..
  case restoreReadDone => exact execRestoreReadDone_frame rfl (Frame.refl _ s) ..
  case snapshotAbort => exact execSnapshotAbort_frame rfl (Frame.refl _ s)
  case ncsRead => exact execNcsRead_frame rfl (Frame.refl _ s) ..
  case ncsMaskedWrite => exact execNcsMaskedWrite_frame rfl (Frame.refl _ s) ..
  case ncsZeroLine => exact execNcsZeroLine_frame rfl (Frame.refl _ s) ..
  case ncsBulkClear => exact execNcsBulkClear_frame rfl (Frame.refl _ s) ..
  case bulkClearDone => exact execBulkClearDone_frame rfl (Frame.refl _ s)
  case hbRead => exact execHbRead_frame rfl (Frame.refl _ s) ..
  case hbInvalidate => exact execHbInvalidate_frame rfl (Frame.refl _ s) ..
  case scheduleEpochSwitch => exact execScheduleEpochSwitch_frame rfl (Frame.refl _ s)
  case pathSchedWrite => exact execPathSchedWrite_frame rfl (Frame.refl _ s) ..
  case depthSample => exact execDepthSample_frame rfl (Frame.refl _ s)
  case queueItemWrite => exact execQueueItemWrite_frame rfl (Frame.refl _ s) ..
  case queueRoomAvailable => exact execQueueRoomAvailable_frame rfl (Frame.refl _ s) ..
  case queueItemRead => exact execQueueItemRead_frame rfl (Frame.refl _ s) ..
  case queuePointerMismatch => exact execQueuePointerMismatch_frame rfl (Frame.refl _ s) ..
  case queueResetDone => exact execQueueResetDone_frame rfl (Frame.refl _ s) ..
  case queueTestForce => exact execQueueTestForce_frame rfl (Frame.refl _ s) ..
  case pcieReset => exact execPcieReset_frame rfl (Frame.refl _ s) ..
  case pcieResetRelease => exact execPcieResetRelease_frame rfl (Frame.refl _ s)
  case pcieLinkChange => exact execPcieLinkChange_frame rfl (Frame.refl _ s) ..
  case unsupportedRequest => exact execUnsupportedRequest_frame rfl (Frame.refl _ s)
  case eventGenerate => exact execEventGenerate_frame rfl (Frame.refl _ s) ..
  case eventRecordWrite => exact execEventRecordWrite_frame rfl (Frame.refl _ s) ..
  case eventWriteback => exact execEventWriteback_frame rfl (Frame.refl _ s) ..
  case msixMessage => exact execMsixMessage_frame rfl (Frame.refl _ s) ..
  case evrCtrlWrite => exact execEvrCtrlWrite_frame rfl (Frame.refl _ s) ..
  case evrBaseWrite => exact execEvrBaseWrite_frame rfl (Frame.refl _ s) ..
  case evrConsWrite => exact execEvrConsWrite_frame rfl (Frame.refl _ s) ..
  case hqCtrlWrite => exact execHqCtrlWrite_frame rfl (Frame.refl _ s) ..
  case hqTailWrite => exact execHqTailWrite_frame rfl (Frame.refl _ s) ..
  case hostTxDescriptor => exact execHostTxDescriptor_frame rfl (Frame.refl _ s) ..
  case ethIngressFrame => exact execEthIngressFrame_frame rfl (Frame.refl _ s) ..
  case ethPortLinkUp => exact execEthPortLinkUp_frame rfl (Frame.refl _ s) ..
  case ethPortLinkDown => exact execEthPortLinkDown_frame rfl (Frame.refl _ s) ..
  case preemptVerifyTimeout => exact execPreemptVerifyTimeout_frame rfl (Frame.refl _ s) ..
  case reassemblyTimeout => exact execReassemblyTimeout_frame rfl (Frame.refl _ s) ..
  case tbIncCommit => exact execTbIncCommit_frame rfl (Frame.refl _ s) ..
  case tbStepCommit => exact execTbStepCommit_frame rfl (Frame.refl _ s) ..
  case tbServoWrite => exact execTbServoWrite_frame rfl (Frame.refl _ s) ..
  case tbNsLoRead => exact execTbNsLoRead_frame rfl (Frame.refl _ s) ..
  case asnLoRead => exact execAsnLoRead_frame rfl (Frame.refl _ s) ..
  case tsInputEdge => exact execTsInputEdge_frame rfl (Frame.refl _ s) ..
  case tsoCtrlWrite => exact execTsoCtrlWrite_frame rfl (Frame.refl _ s) ..
  case tsoTargetCommit => exact execTsoTargetCommit_frame rfl (Frame.refl _ s) ..
  case tsoTargetReached => exact execTsoTargetReached_frame rfl (Frame.refl _ s) ..
  case tsoPulseEnd => exact execTsoPulseEnd_frame rfl (Frame.refl _ s) ..
  case timeErrSecond => exact execTimeErrSecond_frame rfl (Frame.refl _ s)
  case ratioMeasureDone => exact execRatioMeasureDone_frame rfl (Frame.refl _ s) ..
  case gtMatch => exact execGtMatch_frame rfl (Frame.refl _ s) ..
  case gtWrap => exact execGtWrap_frame rfl (Frame.refl _ s) ..
  case gtCapture => exact execGtCapture_frame rfl (Frame.refl _ s) ..
  case gtRegisterApply => exact execGtRegisterApply_frame rfl (Frame.refl _ s) ..
  case gtCntLoRead => exact execGtCntLoRead_frame rfl (Frame.refl _ s) ..
  case cpuWdogWarn => exact execCpuWdogWarn_frame rfl (Frame.refl _ s) ..
  case cpuWdogExpiry => exact execCpuWdogExpiry_frame rfl (Frame.refl _ s) ..
  case appAccessFault => exact execAppAccessFault_frame rfl (Frame.refl _ s) ..
  case appDoubleFault => exact execAppDoubleFault_frame rfl (Frame.refl _ s)
  case appHold => exact execAppHold_frame rfl (Frame.refl _ s) ..
  case appRelease => exact execAppRelease_frame rfl (Frame.refl _ s) ..
  case appReloadDone => exact execAppReloadDone_frame rfl (Frame.refl _ s) ..
  case appWdogKick => exact execAppWdogKick_frame rfl (Frame.refl _ s) ..
  case appWdogHalf => exact execAppWdogHalf_frame rfl (Frame.refl _ s)
  case appWdogExpiry => exact execAppWdogExpiry_frame rfl (Frame.refl _ s)
  case mbTxPush => exact execMbTxPush_frame rfl (Frame.refl _ s) ..
  case mbRxPop => exact execMbRxPop_frame rfl (Frame.refl _ s)
  case mbEcho => exact execMbEcho_frame rfl (Frame.refl _ s)
  case mbEventSubscription => exact execMbEventSubscription_frame rfl (Frame.refl _ s)
  case mbNodeLineRead => exact execMbNodeLineRead_frame rfl (Frame.refl _ s)
  case mbTimebase => exact execMbTimebase_frame rfl (Frame.refl _ s)
  case gpioSetWrite => exact execGpioSetWrite_frame rfl (Frame.refl _ s) ..
  case gpioClrWrite => exact execGpioClrWrite_frame rfl (Frame.refl _ s) ..
  case gpioInputChange => exact execGpioInputChange_frame rfl (Frame.refl _ s) ..
  case aicSourceRequest => exact execAicSourceRequest_frame rfl (Frame.refl _ s) ..
  case aicClaimRead => exact execAicClaimRead_frame rfl (Frame.refl _ s) ..
  case aicEoiWrite => exact execAicEoiWrite_frame rfl (Frame.refl _ s) ..
  case aicGdisWrite => exact execAicGdisWrite_frame rfl (Frame.refl _ s) ..
  case aicSwiWrite => exact execAicSwiWrite_frame rfl (Frame.refl _ s) ..
  case aicEnWrite => exact execAicEnWrite_frame rfl (Frame.refl _ s) ..
  case keyDerivationDone => exact execKeyDerivationDone_frame rfl (Frame.refl _ s) ..
  case secAttest => exact execSecAttest_frame rfl (Frame.refl _ s) ..
  case secSelftestAll => exact execSecSelftestAll_frame rfl (Frame.refl _ s) ..
  case secSelftestKind => exact execSecSelftestKind_frame rfl (Frame.refl _ s) ..
  case installEpoch => exact execInstallEpoch_frame rfl (Frame.refl _ s) ..
  case raiseDistrictGeneration => exact execRaiseDistrictGeneration_frame rfl (Frame.refl _ s) ..
  case revokeDistrict => exact execRevokeDistrict_frame rfl (Frame.refl _ s) ..
  case revokeEpoch => exact execRevokeEpoch_frame rfl (Frame.refl _ s) ..
  case zeroize => exact execZeroize_frame rfl (Frame.refl _ s) ..
  case programOwnerHash => exact execProgramOwnerHash_frame rfl (Frame.refl _ s) ..
  case revokeOwnerSlot => exact execRevokeOwnerSlot_frame rfl (Frame.refl _ s) ..
  case debugToken => exact execDebugToken_frame rfl (Frame.refl _ s) ..
  case jtagDebugRequest => exact execJtagDebugRequest_frame rfl (Frame.refl _ s) ..
  case selftestPeriod => exact execSelftestPeriod_frame rfl (Frame.refl _ s) ..
  case drbgReseed => exact execDrbgReseed_frame rfl (Frame.refl _ s) ..
  case lineCheckFail => exact execLineCheckFail_frame rfl (Frame.refl _ s) ..
  case peerLineArrival => exact execPeerLineArrival_frame rfl (Frame.refl _ s) ..
  case flashRecomputeDone => exact execFlashRecomputeDone_frame rfl (Frame.refl _ s) ..
  case scrubRead => exact execScrubRead_frame rfl (Frame.refl _ s) ..
  case miScrubNow => exact execMiScrubNow_frame rfl (Frame.refl _ s) ..
  case miApplyRepairs => exact execMiApplyRepairs_frame rfl (Frame.refl _ s) ..
  case miFlipWrite => exact execMiFlipWrite_frame rfl (Frame.refl _ s) ..
  case frameBufferSweep => exact execFrameBufferSweep_frame rfl (Frame.refl _ s)
  case claimAssert => exact execClaimAssert_frame rfl (Frame.refl _ s) ..
  case peerClaimChange => exact execPeerClaimChange_frame rfl (Frame.refl _ s) ..
  case claimKeeperExpiry => exact execClaimKeeperExpiry_frame rfl (Frame.refl _ s) ..
  case pairKeepWrite => exact execPairKeepWrite_frame rfl (Frame.refl _ s) ..
  case hjLinkFrameRx => exact execHjLinkFrameRx_frame rfl (Frame.refl _ s) ..
  case hjRetryTimeout => exact execHjRetryTimeout_frame rfl (Frame.refl _ s) ..
  case hjIdleTimeout => exact execHjIdleTimeout_frame rfl (Frame.refl _ s)
  case hjControlTimer => exact execHjControlTimer_frame rfl (Frame.refl _ s)
  case hjTrainingDone => exact execHjTrainingDone_frame rfl (Frame.refl _ s) ..
  case hjRetrainTimer => exact execHjRetrainTimer_frame rfl (Frame.refl _ s)
  case hjTimeExchange => exact execHjTimeExchange_frame rfl (Frame.refl _ s) ..
  case mirrorNcsChange => exact execMirrorNcsChange_frame rfl (Frame.refl _ s) ..
  case mirrorReservation => exact execMirrorReservation_frame rfl (Frame.refl _ s) ..
  case mirrorCrimsonEnqueue => exact execMirrorCrimsonEnqueue_frame rfl (Frame.refl _ s) ..
  case mirrorCrimsonDequeue => exact execMirrorCrimsonDequeue_frame rfl (Frame.refl _ s) ..
  case mirrorTreeState => exact execMirrorTreeState_frame rfl (Frame.refl _ s) ..
  case mirrorScheduleEpoch => exact execMirrorScheduleEpoch_frame rfl (Frame.refl _ s) ..
  case mirrorBulkClear => exact execMirrorBulkClear_frame rfl (Frame.refl _ s) ..
  case mirrorControl => exact execMirrorControl_frame rfl (Frame.refl _ s) ..
  case peerFetchRequest => exact execPeerFetchRequest_frame rfl (Frame.refl _ s) ..
  case resyncLineRx => exact execResyncLineRx_frame rfl (Frame.refl _ s) ..
  case resyncPassEnd => exact execResyncPassEnd_frame rfl (Frame.refl _ s) ..
  case pairPlannedSwitchover => exact execPairPlannedSwitchover_frame rfl (Frame.refl _ s)
  case pairRestartResync => exact execPairRestartResync_frame rfl (Frame.refl _ s)
  case pairHold => exact execPairHold_frame rfl (Frame.refl _ s)
  case pairResume => exact execPairResume_frame rfl (Frame.refl _ s)
  case switchoverBoundary => exact execSwitchoverBoundary_frame rfl (Frame.refl _ s)
  case handoverAck => exact execHandoverAck_frame rfl (Frame.refl _ s)
  case switchoverRewriteDone => exact execSwitchoverRewriteDone_frame rfl (Frame.refl _ s)
  case switchoverReclaimTimer => exact execSwitchoverReclaimTimer_frame rfl (Frame.refl _ s)
  case updStage => exact execUpdStage_frame rfl (Frame.refl _ s) ..
  case stageWriteDone => exact execStageWriteDone_frame rfl (Frame.refl _ s) ..
  case updActivate => exact execUpdActivate_frame rfl (Frame.refl _ s) ..
  case updReject => exact execUpdReject_frame rfl (Frame.refl _ s) ..
  case updAbort => exact execUpdAbort_frame rfl (Frame.refl _ s) ..
  case updBootLoad => exact execUpdBootLoad_frame rfl (Frame.refl _ s) ..
  case updActivateAtRestart => exact execUpdActivateAtRestart_frame rfl (Frame.refl _ s) ..
  case coreHandoverDone => exact execCoreHandoverDone_frame rfl (Frame.refl _ s) ..
  case coreHandoverTimeout => exact execCoreHandoverTimeout_frame rfl (Frame.refl _ s) ..
  case handoverComplete => exact execHandoverComplete_frame rfl (Frame.refl _ s) ..
  case configLiveApply => exact execConfigLiveApply_frame rfl (Frame.refl _ s)
  case updConfirmWrite => exact execUpdConfirmWrite_frame rfl (Frame.refl _ s) ..
  case probationExpiry => exact execProbationExpiry_frame rfl (Frame.refl _ s)
  case updCfgseqLoRead => exact execUpdCfgseqLoRead_frame rfl (Frame.refl _ s) ..
  case pwrLevelWrite => exact execPwrLevelWrite_frame rfl (Frame.refl _ s) ..
  case plClockSwitchTimer => exact execPlClockSwitchTimer_frame rfl (Frame.refl _ s)
  case plChangeDone => exact execPlChangeDone_frame rfl (Frame.refl _ s)
  case tempSample => exact execTempSample_frame rfl (Frame.refl _ s) ..
  case throttleReleaseTimer => exact execThrottleReleaseTimer_frame rfl (Frame.refl _ s)
  case paleEnter => exact execPaleEnter_frame rfl (Frame.refl _ s)
  case paleExit => exact execPaleExit_frame rfl (Frame.refl _ s) ..
  case pwrCmdSepia => exact execPwrCmdSepia_frame rfl (Frame.refl _ s) ..
  case pwrCmdUmber => exact execPwrCmdUmber_frame rfl (Frame.refl _ s) ..
  case sepiaEntry => exact execSepiaEntry_frame rfl (Frame.refl _ s)
  case umberEntry => exact execUmberEntry_frame rfl (Frame.refl _ s)
  case wakeSource => exact execWakeSource_frame rfl (Frame.refl _ s) ..
  case sleepTimerExpiry => exact execSleepTimerExpiry_frame rfl (Frame.refl _ s)
  case sepiaExitReady => exact execSepiaExitReady_frame rfl (Frame.refl _ s) ..
  case busMasterEnableChange => exact execBusMasterEnableChange_frame rfl (Frame.refl _ s) ..
  case msixVectorUnmask => exact execMsixVectorUnmask_frame rfl (Frame.refl _ s) ..
  case preemptVerifyResponse => exact execPreemptVerifyResponse_frame rfl (Frame.refl _ s) ..
  case ethEgressFrameDone => exact execEthEgressFrameDone_frame rfl (Frame.refl _ s) ..
  case controlCoreRestartDone => exact execControlCoreRestartDone_frame rfl (Frame.refl _ s) ..

/-- Settles O51: the frame law of each command is stated for the components of its entry. -/
theorem onlyNamedComponentsChange : Obligations.OnlyNamedComponentsChange := fun _ s _ ht _ hk =>
  ((exec_outFrame rfl s).of _ ht).of _ (testBit_maskOf hk)

end Sys2Proof.Machine
end
section
/-!
The one-time-programmable store only grows (Table 17-7, R488, R490): three operations write it, and each of them only adds. Every other
operation leaves the component alone, which its frame says.
-/

namespace Sys2Proof.Machine

theorem listSet_eq_set {α : Type} (l : List α) (i : Nat) (v : α) : listSet l i v = l.set i v := by
  induction l generalizing i with
  | nil => rfl
  | cons x l ih => cases i with
    | zero => rfl
    | succ i => exact congrArg (x :: ·) (ih i)

/-! ## The order of OTP contents -/

/-- The contents `b` hold all that `a` holds: the same identity, counters no lower, every programmed owner hash and every
revocation. -/
structure OtpGrows (a b : OtpState) : Prop where
  secret : b.secret = a.secret
  serial : b.serial = a.serial
  vendorHash : b.vendorHash = a.vendorHash
  certificate : b.certificate = a.certificate
  arb : ∀ k : Nat, a.arb.getD k 0 ≤ b.arb.getD k 0
  owners : ∀ (k : Nat) (h : BitVec 256) (r : Bool), a.owners[k]? = some (some h, r) →
    ∃ r' : Bool, b.owners[k]? = some (some h, r') ∧ (r = true → r' = true)

theorem OtpGrows.refl (a : OtpState) : OtpGrows a a := ⟨rfl, rfl, rfl, rfl, fun _ => Nat.le_refl _, fun _ _ r e => ⟨r, e, id⟩⟩

theorem OtpGrows.trans {a b c : OtpState} (h : OtpGrows a b) (k : OtpGrows b c) : OtpGrows a c where
  secret := k.secret.trans h.secret
  serial := k.serial.trans h.serial
  vendorHash := k.vendorHash.trans h.vendorHash
  certificate := k.certificate.trans h.certificate
  arb n := (h.arb n).trans (k.arb n)
  owners n hash r e := by
    obtain ⟨r', e', hr'⟩ := h.owners n hash r e
    obtain ⟨r'', e'', hr''⟩ := k.owners n hash r' e'
    exact ⟨r'', e'', hr'' ∘ hr'⟩

theorem OtpGrows.of_frame {m : Nat} {s t : State} (h : Frame m s t) (hm : m.testBit Comp.otp.bit = false) : OtpGrows s.otp t.otp := by
  rw [show t.otp = s.otp from h.of .otp hm]
  exact OtpGrows.refl _

theorem OtpGrows.raise_arb (a : OtpState) (i v : Nat) : OtpGrows a { a with arb := listSet a.arb i (max (a.arb.getD i 0) v) } where
  secret := rfl
  serial := rfl
  vendorHash := rfl
  certificate := rfl
  arb k := by
    change _ ≤ (listSet a.arb i _).getD k 0
    rw [listSet_eq_set, List.getD_eq_getElem?_getD, List.getD_eq_getElem?_getD, List.getElem?_set]
    split_ifs with hik hlt
    · rw [hik]
      simp [List.getD_eq_getElem?_getD]
    · simp [← hik, List.getElem?_eq_none (Nat.le_of_not_lt hlt)]
    · exact Nat.le_refl _
  owners _ _ r e := ⟨r, e, id⟩

/-- An owner slot takes an entry that keeps the hash that it held, and is revoked if that one was. -/
theorem OtpGrows.set_owner (a : OtpState) (i : Nat) (o : Option (BitVec 256) × Bool)
    (ho : ∀ h r, a.owners[i]? = some (some h, r) → o.1 = some h ∧ (r = true → o.2 = true)) :
    OtpGrows a { a with owners := listSet a.owners i o } where
  secret := rfl
  serial := rfl
  vendorHash := rfl
  certificate := rfl
  arb _ := Nat.le_refl _
  owners k h r e := by
    change ∃ r', (listSet a.owners i o)[k]? = _ ∧ _
    by_cases hik : i = k
    · subst hik
      obtain ⟨hhash, hrevoked⟩ := ho h r e
      have hlt : i < a.owners.length := by
        by_contra hge
        simp [List.getElem?_eq_none (Nat.le_of_not_lt hge)] at e
      exact ⟨o.2, by rw [listSet_eq_set, List.getElem?_set_self hlt, ← hhash], hrevoked⟩
    · exact ⟨r, by rw [listSet_eq_set, List.getElem?_set_ne hik, e], id⟩

/-! ## The three operations that write OTP -/

theorem OtpGrows.ite {a : OtpState} {s t : State} {c : Prop} [Decidable c] (hs : c → OtpGrows a s.otp) (ht : ¬c → OtpGrows a t.otp) :
    OtpGrows a (if c then s else t).otp := by
  split
  · exact hs ‹_›
  · exact ht ‹_›

theorem confirmImage_otp (s : State) (comp slot spent : Nat) : OtpGrows s.otp (confirmImage s comp slot spent).otp := by
  unfold confirmImage
  dsimp only
  generalize hr : slotChange s comp slot slotValid true none _ = r
  have hslot : OtpGrows s.otp r.1.otp := by
    rw [← hr]
    exact OtpGrows.of_frame (slotChange_frame rfl (Frame.refl 0x180840027 s) comp slot slotValid true none _) rfl
  refine OtpGrows.ite (fun _ => hslot) fun _ => ?_
  refine (hslot.trans ?_).trans
    (OtpGrows.of_frame (postEvent_frame rfl (State.bump_frame rfl (Frame.refl 0x80840021 _) _) _ _) rfl)
  exact OtpGrows.ite (fun _ => OtpGrows.raise_arb ..) fun _ => OtpGrows.refl _

theorem confirmProbation_otp (s : State) (p : Probation) : OtpGrows s.otp (confirmProbation s p).otp := by
  unfold confirmProbation
  extract_lets t
  split_ifs
  · exact confirmImage_otp ..
  · exact confirmImage_otp ..

/-- A signed command changes OTP by its effect alone, and that runs with arguments that its check lets pass. -/
theorem signedCommand_otp {s : State} {q : Requester} {op : Nat} {check : List Byte → Nat} {record : List Byte → List Nat}
    {run : List Byte → State → State} (hrun : ∀ b t, check b = 0 → t.otp = s.otp → OtpGrows s.otp (run b t).otp) :
    OtpGrows s.otp (signedCommand s q op check record run).otp := by
  unfold signedCommand
  refine OtpGrows.ite (fun _ => OtpGrows.refl _) fun _ => OtpGrows.ite (fun _ => OtpGrows.refl _) fun _ =>
    OtpGrows.ite (fun _ => OtpGrows.refl _) fun hpass => ?_
  have hcheck : check (commandBytes s q) = 0 := by
    rw [Classical.not_not] at hpass
    split at hpass
    · next hsig => exact absurd hpass hsig
    · exact hpass
  refine (hrun _ _ hcheck ?_).trans
    (OtpGrows.of_frame (setResult_frame rfl (treeChanged_frame rfl (Frame.refl 0x104000001 _) _ _) _ _) rfl)
  rfl

theorem execProgramOwnerHash_otp (q : Requester) (s t : State) (h : execProgramOwnerHash q s = .next t) : OtpGrows s.otp t.otp := by
  cases h
  refine signedCommand_otp fun b t hcheck ht => ?_
  rw [← ht, setOwner]
  refine OtpGrows.set_owner _ _ _ fun hash r he => absurd hcheck ?_
  rw [ht] at he
  have hsome : (s.otp.owners.getD (sigArg b 0 1) (none, false)).1.isSome = true := by
    rw [List.getD_eq_getElem?_getD, he]
    rfl
  rw [if_pos hsome]
  split <;> decide

theorem execRevokeOwnerSlot_otp (q : Requester) (s t : State) (h : execRevokeOwnerSlot q s = .next t) : OtpGrows s.otp t.otp := by
  cases h
  refine signedCommand_otp fun b t _ ht => ?_
  rw [← ht, setOwner]
  refine OtpGrows.set_owner _ _ _ fun hash r he => ⟨?_, fun _ => rfl⟩
  rw [List.getD_eq_getElem?_getD, he]
  rfl

/-! ## The commands that reach them -/

theorem execUpdConfirmWrite_otp (q : Requester) (key comp : Nat) (s t : State) (h : execUpdConfirmWrite q key comp s = .next t) :
    OtpGrows s.otp t.otp := by
  unfold execUpdConfirmWrite at h
  split_ifs at h
  · cases h
    exact OtpGrows.refl _
  · split at h <;> cases h
    · exact OtpGrows.refl _
    · exact confirmProbation_otp ..

theorem trialBooted_otp (s : State) (comp : Nat) : OtpGrows s.otp (trialBooted s comp).otp := by
  unfold trialBooted
  split
  · exact OtpGrows.refl _
  · split
    · exact OtpGrows.refl _
    · split_ifs
      · exact OtpGrows.refl _
      · exact confirmImage_otp ..
      · exact OtpGrows.refl _

theorem foldState_otp {α : Type} {f : State → α → State} (hf : ∀ s x, OtpGrows s.otp (f s x).otp) (l : List α) (s : State) :
    OtpGrows s.otp (foldState f s l).otp := by
  induction l generalizing s with
  | nil => exact OtpGrows.refl _
  | cons x l ih => exact (hf s x).trans (ih (f s x))

/-- At a commit only the stage loader's first boot from a trial slot is a confirmation (R561). -/
theorem commitImage_otp (s : State) (slot : Nat) (img : List Byte) (fails : List (Nat × Nat)) :
    OtpGrows s.otp (commitImage s slot img fails).otp := by
  have hbooted := bootTests_frame rfl (applyImage_frame rfl (Frame.refl 0x1FFFFFFEF s) img) fails
  have hsecurity (c : Prop) [Decidable c] := commitSecurity_frame rfl
    (Frame.ite (c := c) (slotBoots_frame rfl hbooted slot img) (imageInForce_frame rfl hbooted compConfig slot img)) img
  have hrole (c : Prop) [Decidable c] (d : Prop) [Decidable d] (n first : Nat) :=
    have hepoch := adoptEpoch_frame rfl (hsecurity d) n first
    Frame.ite (c := c) hepoch (setRole_frame rfl hepoch roleSolo 0)
  have hcores (c : Prop) [Decidable c] (d : Prop) [Decidable d] (n first a k : Nat) (l : List ConfigRecord) :=
    postWake_frame rfl (postFallback_frame rfl (postLfLoss_frame rfl (postRetry_frame rfl (postCommitted_frame rfl (postSkipped_frame rfl
      (commitReport_frame rfl (startCores_frame rfl (oscCommit_frame rfl (hrole c d n first))) slot img a k) l) slot img a k))))
  exact ((OtpGrows.of_frame (hcores _ _ _ _ _ _ _) rfl).trans (foldState_otp trialBooted_otp _ _)).trans
    (OtpGrows.of_frame (startCold_frame rfl (commitLevel_frame rfl (Frame.refl 0x14000103 _) img)) rfl)

theorem execConfigImageRead_otp (readOk : Bool) (fails : List (Nat × Nat)) (s t : State)
    (h : execConfigImageRead readOk fails s = .next t) : OtpGrows s.otp t.otp := by
  unfold execConfigImageRead at h
  split_ifs at h <;> cases h
  · exact OtpGrows.refl _
  · unfold configFromSlot
    have hback := OtpGrows.of_frame (probationFallback_frame rfl (Frame.refl 0x188840027 s)) rfl
    dsimp only
    split
    · exact hback.trans (commitImage_otp ..)
    · exact hback.trans (OtpGrows.of_frame (slotFails_frame rfl (configRejected_frame rfl (Frame.refl 0x80840023 _) _ _ _) _ _
        fun _ _ _ ht => configWait_frame rfl ht) rfl)
  · unfold configFromHost
    dsimp only
    split
    · have hput := OtpGrows.of_frame (State.putUpd_frame rfl (Frame.refl 0x8000000 s) { s.upd with image := [] }) rfl
      exact hput.trans (commitImage_otp ..)
    · exact OtpGrows.of_frame (configWait_frame rfl (configRejected_frame rfl (Frame.refl 0x80840023 s) _ _ _)) rfl
  · exact OtpGrows.refl _

/-! ## Register writes -/

/-- The state that an operation may answer holds all that OTP held. -/
structure OptGrows (s : State) (o : Option State) : Prop where
  of : ∀ t, o = some t → OtpGrows s.otp t.otp

theorem OptGrows.none {s : State} : OptGrows s none := ⟨fun _ e => nomatch e⟩

theorem OptGrows.of_frame {s t : State} (h : Frame 0x3FFFFFFEF s t) : OptGrows s (some t) :=
  ⟨fun _ e => Option.some.inj e ▸ OtpGrows.of_frame h rfl⟩

theorem OptGrows.of_optFrame {s : State} {o : Option State} (h : OptFrame 0x3FFFFFFEF s o) : OptGrows s o :=
  ⟨fun t e => OtpGrows.of_frame (h.of t e) rfl⟩

theorem OptGrows.of_settled {s : State} {o : Host.Outcome State Fault Refusal} (h : ∀ t, o = .next t → OtpGrows s.otp t.otp) :
    OptGrows s (some (settled s o)) := by
  refine ⟨fun t e => ?_⟩
  cases e
  cases o with
  | next u => exact h u rfl
  | fault _ => exact OtpGrows.refl _
  | refused _ => exact OtpGrows.refl _

theorem OptGrows.ite {s : State} {a b : Option State} {c : Prop} [Decidable c] (ha : OptGrows s a) (hb : OptGrows s b) :
    OptGrows s (if c then a else b) := by
  split
  · exact ha
  · exact hb

/-- Of the single registers with a rule of their own UPD_CONFIRM alone reaches OTP. -/
theorem writeSingle_otp (s : State) (q : Requester) (off v : Nat) : OptGrows s (writeSingle s q off v) := by
  have h := Frame.refl 0x3FFFFFFEF s
  have hplain := writePlain_frame rfl h q off v
  unfold writeSingle
  repeat' with_reducible apply OptGrows.ite
  · exact .of_frame (settled_frame h (execResetCtrlWrite_frame rfl h ..))
  · exact .of_frame (Frame.ite (settled_frame h (execAonFailClear_frame rfl h)) h)
  · exact .of_frame (settled_frame h (execRtwDataWrite_frame rfl h ..))
  · exact .of_frame (settled_frame h (execOscManWrite_frame rfl h ..))
  · exact .of_frame (settled_frame h (execPwrLevelWrite_frame rfl h ..))
  · exact .of_frame (Frame.ite (settled_frame hplain (execJesdArm_frame rfl hplain)) hplain)
  · exact .of_frame (ownerWrite_frame rfl h q _ fun _ ht => State.putTb_frame rfl ht _)
  · exact .of_frame (settled_frame h (execTbIncCommit_frame rfl h ..))
  · exact .of_frame (ownerWrite_frame rfl h q _ fun _ ht => State.putTb_frame rfl ht _)
  · exact .of_frame (settled_frame h (execTbStepCommit_frame rfl h ..))
  · exact .of_frame (settled_frame h (execTbServoWrite_frame rfl h ..))
  · exact .of_frame (ownerWrite_frame rfl h q _ fun _ ht => State.set_frame rfl ht _ _)
  · exact .of_frame (settled_frame h (execPairKeepWrite_frame rfl h ..))
  · exact .of_frame (settled_frame h (execMiFlipWrite_frame rfl h ..))
  · exact .of_frame (settled_frame h (OutFrame.ite (execAppHold_frame rfl h q) (execAppRelease_frame rfl h q)))
  · exact .of_frame (settled_frame h (execAppWdogKick_frame rfl h ..))
  · exact .of_frame (settled_frame h (execMbTxPush_frame rfl h ..))
  · exact .of_frame (settled_frame h (execMbRxPop_frame rfl h ..))
  · exact .of_frame (settled_frame h (execGpioSetWrite_frame rfl h ..))
  · exact .of_frame (settled_frame h (execGpioClrWrite_frame rfl h ..))
  · exact .of_frame (settled_frame h (execAicEoiWrite_frame rfl h ..))
  · exact .of_frame (settled_frame h (execAicGdisWrite_frame rfl h ..))
  · exact .of_frame (settled_frame h (execAicSwiWrite_frame rfl h ..))
  · exact .of_frame (writeProb_frame rfl h v)
  · exact .of_settled fun t ht => execUpdConfirmWrite_otp _ _ _ _ _ ht
  · exact .none

theorem writeSpecial_otp (s : State) (q : Requester) (off v : Nat) (fails : List (Nat × Nat)) (data : List Byte) :
    OptGrows s (writeSpecial s q off v fails data) := by
  have h := Frame.refl 0x3FFFFFFEF s
  have hsingle := writeSingle_otp s q off v
  unfold writeSpecial
  split
  · next t ht => exact ht ▸ hsingle
  refine .of_optFrame ?_
  split
  · next t ht => exact ht ▸ writeCommand_frame rfl h q off v fails data
  split
  · next t ht => exact ht ▸ writeTableCommand_frame rfl h q off v
  split
  · next t ht => exact ht ▸ writeArray_frame rfl h q off v
  split
  · exact .some (writeMsix_frame rfl h ..)
  · exact .map fun a => State.putWindow_frame rfl h _

theorem writeWord_otp (q : Requester) (off v : Nat) (fails : List (Nat × Nat)) (data : List Byte) (s : State) :
    OtpGrows s.otp (writeWord s q off v fails data).otp := by
  unfold writeWord
  refine OtpGrows.ite (fun _ => OtpGrows.ite (fun _ => OtpGrows.refl _) fun _ => OtpGrows.refl _) fun _ =>
    OtpGrows.ite (fun _ => OtpGrows.refl _) fun _ => ?_
  unfold writeRegister
  split
  · next t ht => exact (writeSpecial_otp s q off v fails data).of t ht
  · exact OtpGrows.of_frame (writePlain_frame rfl (Frame.refl 0x3FFFFFFEF s) q off v) rfl

theorem execRegisterWrite_otp (q : Requester) (off size v : Nat) (poisoned : Bool) (fails : List (Nat × Nat)) (data : List Byte)
    (s t : State) (h : execRegisterWrite q off size v poisoned fails data s = .next t) : OtpGrows s.otp t.otp := by
  unfold execRegisterWrite at h
  split_ifs at h <;> cases h
  · exact OtpGrows.refl _
  · exact OtpGrows.refl _
  · refine foldState_otp (fun u w => OtpGrows.ite (fun _ => writeWord_otp ..) fun _ => ?_) _ _
    exact OtpGrows.of_frame (countNarrow_frame rfl (Frame.refl 0x3FFFFFFEF u) q) rfl

/-! ## Every command -/

/-- The commands whose entry in `mayChange` names OTP are the five that reach the three operations. -/
theorem otpGrows_of_exec {c : Instr} {s t : State} (h : exec c s = .next t) : OtpGrows s.otp t.otp := by
  by_cases hc : Comp.otp ∈ mayChange c
  · cases c
    case configImageRead => exact execConfigImageRead_otp _ _ _ _ h
    case registerWrite => exact execRegisterWrite_otp _ _ _ _ _ _ _ _ _ h
    case programOwnerHash => exact execProgramOwnerHash_otp _ _ _ h
    case revokeOwnerSlot => exact execRevokeOwnerSlot_otp _ _ _ h
    case updConfirmWrite => exact execUpdConfirmWrite_otp _ _ _ _ _ h
    all_goals exact absurd hc (by rw [mayChange]; decide)
  · rw [show t.otp = s.otp from onlyNamedComponentsChange _ _ _ h .otp hc]
    exact OtpGrows.refl _

/-- Settles O54: field by field, what `OtpGrows` says. -/
theorem otpOnlyGrows : Obligations.OtpOnlyGrows := by
  intro c s t h
  have hgrows := otpGrows_of_exec h
  exact ⟨hgrows.secret, hgrows.serial, hgrows.vendorHash, hgrows.certificate, hgrows.arb, hgrows.owners⟩

end Sys2Proof.Machine
end

section
/-!
One step: the front of the queue, and the clock edge of an empty one (R406, R407). What reset leaves (R14).
-/

namespace Sys2Proof.Machine

/-- Settles O45: `step` looks at the front of the queue alone, and a queue whose front was just put there has the old one as its
rest. -/
theorem stepRunsFront : Obligations.StepRunsFront := by
  intro c s
  refine ⟨rfl, fun rest h => ?_⟩
  rw [step, h]

/-! ## The timebase's value along the timers of an edge -/

/-- The timebase holds the same value at the same elapsed time; its timers may differ. -/
structure TbKept (s t : State) : Prop where
  value : tbValue t = tbValue s
  now : t.now = s.now

namespace TbKept

theorem refl (s : State) : TbKept s s := ⟨rfl, rfl⟩

variable {s0 s : State}

theorem frame {m : Nat} {t : State} (h : TbKept s0 s) (k : Frame m s t) (hm : m.testBit Comp.tb.bit = false)
    (hn : m.testBit Comp.now.bit = false) : TbKept s0 t := by
  refine ⟨Eq.trans ?_ h.value, Eq.trans (k.of .now hn) h.now⟩
  rw [tbValue, tbValue, show t.tb = s.tb from k.of .tb hm]

theorem set (h : TbKept s0 s) (f : Fld) (v : Nat) : TbKept s0 (s.set f v) := ⟨h.value, h.now⟩

theorem setGt (h : TbKept s0 s) (n : Nat) (x : GtState) : TbKept s0 (s.setGt n x) := ⟨h.value, h.now⟩

theorem ite {a b : State} {c : Prop} [Decidable c] (ha : TbKept s0 a) (hb : TbKept s0 b) : TbKept s0 (if c then a else b) := by
  split
  · exact ha
  · exact hb

theorem fold {α : Type} {f : State → α → State} {l : List α} (h : TbKept s0 s) (hf : ∀ t x, TbKept s0 t → TbKept s0 (f t x)) :
    TbKept s0 (foldState f s l) := by
  induction l generalizing s with
  | nil => exact h
  | cons x l ih => exact ih (hf s x h)

theorem setGtPair (h : TbKept s0 s) (n : Nat) (f : Nat → Fld) (v : Nat) : TbKept s0 (setGtPair s n f v) :=
  h.frame (setGtPair_frame rfl (Frame.refl 1 s) n f v) rfl rfl

theorem gtIrq (h : TbKept s0 s) (n : Nat) : TbKept s0 (gtIrq s n) :=
  h.frame (gtIrq_frame rfl (Frame.refl 0x800001 s) n) rfl rfl

theorem gtAct (h : TbKept s0 s) (n : Nat) : TbKept s0 (gtAct s n) := h.frame (gtAct_frame rfl (Frame.refl 1 s) n) rfl rfl

theorem bumpWrap (h : TbKept s0 s) (f : Fld) : TbKept s0 (s.bumpWrap f) := h.set ..

theorem gtMatched (h : TbKept s0 s) (n : Nat) : TbKept s0 (gtMatched s n) := by
  unfold Machine.gtMatched
  refine ite ?_ h
  have hcount := (h.set (R.GT_STAT_MATCH n) 1).bumpWrap (R.GT_ERR_MATCHES n)
  exact (TbKept.setGt (ite (hcount.gtAct n) hcount) n _).gtIrq n

theorem gtStep (h : TbKept s0 s) (n : Nat) : TbKept s0 (gtStep s n) := by
  have honto (v : Nat) (wrap : Bool) : TbKept s0 (gtOnto s n v wrap) :=
    have hpair := (h.setGt n _).setGtPair n R.GT_CNT_COUNT v
    (ite ((hpair.set (R.GT_STAT_WRAP n) 1).gtIrq n) hpair).gtMatched n
  exact ite (honto 0 false) (honto _ _)

theorem gtPeriod (h : TbKept s0 s) (n : Nat) : TbKept s0 (gtPeriod s n) :=
  ite (ite ((h.setGt n _).gtStep n) (h.setGt n _)) h

theorem gtAdvance (h : TbKept s0 s) (n k : Nat) : TbKept s0 (gtAdvance s n k) := by
  unfold Machine.gtAdvance
  extract_lets w c v before cleared dst s1 g s2 s3 after s4 s5
  have h1 : TbKept s0 s1 := h.setGtPair ..
  have h2 : TbKept s0 s2 := ite (h1.setGt ..) h1
  have h3 : TbKept s0 s3 := ite (h2.set ..) h2
  have h4 : TbKept s0 s4 := (h3.set ..).bumpWrap _
  have h5 : TbKept s0 s5 := ite (h4.gtAct n) h4
  exact ite (gtIrq (ite h5 (ite (h5.setGt ..) (h5.setGtPair ..))) n) (h3.gtIrq n)

theorem gtLfTick (h : TbKept s0 s) : TbKept s0 (gtLfTick s) :=
  h.fold fun _ _ ht => ite (ite ((ht.setGt _ _).gtAdvance _ _) ht) ht

end TbKept

theorem clockEdge_tbKept (s : State) : TbKept (tbEdge (s.later 2)) (clockEdge s) := by
  unfold clockEdge
  extract_lets t u
  have ht := TbKept.refl t
  have hu : TbKept t u := TbKept.ite (ht.fold fun _ _ hv => TbKept.ite hv (hv.gtPeriod _)) ht
  exact TbKept.ite hu.gtLfTick hu

theorem tbValue_tbEdge (s : State) :
    tbValue (tbEdge s) = if s.tb.running then (tbValue s + tbInc s) % 2 ^ 96 else tbValue s := by
  unfold tbEdge
  split
  · generalize hv : (tbValue s + tbInc s) % 2 ^ 96 = v
    have hlt : v < 2 ^ 96 := hv ▸ Nat.mod_lt _ (by decide)
    rw [tbValue, putTbValue, State.putTb_tb, BitVec.toNat_ofNat, BitVec.toNat_ofNat]
    omega
  · rfl

/-- Settles O46: the edge adds the increment, and the timers that it may step leave the value and the elapsed time alone. -/
theorem emptyQueueClockEdge : Obligations.EmptyQueueClockEdge := by
  intro s hempty
  have hkept := clockEdge_tbKept s
  have hnow : (tbEdge (s.later 2)).now = s.now + 2 := (tbEdge_frame rfl (Frame.refl 0x80000 (s.later 2))).of .now rfl
  refine ⟨clockEdge s, by rw [step, hempty], hkept.now.trans hnow, (clockEdge_keeps (Keeps.refl s)).pending.trans hempty, ?_⟩
  exact hkept.value.trans (tbValue_tbEdge (s.later 2))

/-! ## Reset -/

/-- Settles O47: every store of the reset state is empty. -/
theorem resetStoresCanonical : Obligations.ResetStoresCanonical := rfl

/-- Settles O48: the register file is empty, so that every key reads its reset word. -/
theorem resetRegisterValues : Obligations.ResetRegisterValues := by
  refine ⟨fun _ => rfl, rfl, rfl, rfl, rfl, rfl, rfl, ?_⟩
  decide +kernel

end Sys2Proof.Machine
end

section
/-!
Where the stores are written: a store's write of bytes, of a page, of a slot and of a line leaves every other address as it was.
-/

namespace Sys2Proof.Machine

/-! ## Sparse stores -/

theorem cellsRead_filter_from {w : Nat} {d : Nat → BitVec w} {p : Nat × BitVec w → Bool} {a : Nat} (hp : ∀ v, p (a, v) = true) :
    ∀ {lo : Nat} {l : Cells w}, cellsWfFrom d lo l = true → cellsRead d (l.filter p) a = cellsRead d l a
  | _, [], _ => rfl
  | lo, (k, u) :: t, hw => by
    simp only [cellsWfFrom, Bool.and_eq_true, decide_eq_true_eq] at hw
    obtain ⟨_, ht⟩ := hw
    have ih := cellsRead_filter_from hp ht
    rw [List.filter_cons]
    by_cases hk : k = a
    · subst hk
      simp [hp, cellsRead]
    · split
      · simp only [cellsRead, hk, ih]
      · rw [ih, cellsRead, if_neg hk]
        split
        · exact cellsRead_below ht (by omega)
        · rfl

/-- Entries that a filter keeps read as before. -/
theorem cellsRead_filter {w : Nat} {d : Nat → BitVec w} {l : Cells w} (h : cellsWf d l = true) {p : Nat × BitVec w → Bool} {a : Nat}
    (hp : ∀ v, p (a, v) = true) : cellsRead d (l.filter p) a = cellsRead d l a :=
  cellsRead_filter_from hp h

theorem cellsRead_setBytes {a : Nat} : ∀ (bs : List Byte) (b : Nat) {m : ByteMem}, cellsWf zeroCell m = true →
    a < b ∨ b + bs.length ≤ a → cellsRead zeroCell (setBytes m b bs) a = cellsRead zeroCell m a
  | [], _, _, _, _ => rfl
  | x :: bs, b, m, hm, ha => by
    rw [List.length_cons] at ha
    have hb : cellsWf zeroCell (setByte m b x) = true := cellsWf_write hm b x
    rw [setBytes, cellsRead_setBytes bs (b + 1) hb (by omega), setByte, cellsRead_write hm, if_neg (by omega)]

theorem cellsRead_flashProgram {a : Nat} : ∀ (bs : List Byte) (b : Nat) {m : ByteMem}, cellsWf erasedCell m = true →
    a < b ∨ b + bs.length ≤ a → cellsRead erasedCell (flashProgram m b bs) a = cellsRead erasedCell m a
  | [], _, _, _, _ => rfl
  | x :: bs, b, m, hm, ha => by
    rw [List.length_cons] at ha
    rw [flashProgram, cellsRead_flashProgram bs (b + 1) (cellsWf_write hm b x) (by omega), cellsRead_write hm, if_neg (by omega)]

theorem cellsRead_flashClear {a b n : Nat} {m : ByteMem} (hm : cellsWf erasedCell m = true) (ha : a < b ∨ b + n ≤ a) :
    cellsRead erasedCell (flashClear m b n) a = cellsRead erasedCell m a :=
  cellsRead_filter hm fun _ => decide_eq_true ha

@[simp] theorem length_toLE (n v : Nat) : (toLE n v).length = n := by
  induction n generalizing v with
  | zero => rfl
  | succ n ih => rw [toLE, List.length_cons, ih]

@[simp] theorem length_flashAt (m : ByteMem) (a n : Nat) : (flashAt m a n).length = n := by
  induction n generalizing a with
  | zero => rfl
  | succ n ih => rw [flashAt, List.length_cons, ih]

/-! ## The directory's sectors (R81, R84) -/

/-- An address outside both directory sectors. -/
def OutsideDirectory (a : Nat) : Prop := ∀ copy, copy < 2 → a < dirSector copy ∨ dirSector copy + sectorSize ≤ a

/-- The flash reads as before outside the directory sectors. -/
structure DirOnly (s0 s : State) : Prop where
  keeps : Keeps s0 s
  of : Memory.wf s0 = true → ∀ a, OutsideDirectory a → cellsRead erasedCell s.flash a = cellsRead erasedCell s0.flash a

theorem DirOnly.refl (s : State) : DirOnly s s := ⟨Keeps.refl s, fun _ _ _ => rfl⟩

theorem DirOnly.trans {a b c : State} (h : DirOnly a b) (k : DirOnly b c) : DirOnly a c :=
  ⟨h.keeps.trans k.keeps, fun w x hx => (k.of (h.keeps.wf w) x hx).trans (h.of w x hx)⟩

theorem DirOnly.of_frame {m : Nat} {s t : State} (hk : Keeps s t) (h : Frame m s t) (hm : m.testBit Comp.flash.bit = false) :
    DirOnly s t := by
  refine ⟨hk, fun _ _ _ => ?_⟩
  rw [show t.flash = s.flash from h.of .flash hm]

theorem DirOnly.ite {s0 s t : State} {c : Prop} [Decidable c] (hs : DirOnly s0 s) (ht : DirOnly s0 t) :
    DirOnly s0 (if c then s else t) := by
  split
  · exact hs
  · exact ht

theorem length_slotBytes (e : SlotEntry) : (slotBytes e).length = 32 := by simp [slotBytes]

theorem length_slotEntries_le (s : State) : (slotEntries s).length ≤ 12 := by
  unfold slotEntries
  split
  · exact Nat.zero_le _
  · simp

theorem length_flatten_slotBytes (l : List SlotEntry) : (l.map slotBytes).flatten.length = 32 * l.length := by
  induction l with
  | nil => rfl
  | cons e l ih => simp [length_slotBytes, ih]; omega

/-- A page with at most 12 entries fits its place. -/
theorem length_buildPage_le (p : List Byte) (generation erases floor : Nat) {entries : List SlotEntry} (h : entries.length ≤ 12) :
    (buildPage p generation erases floor entries).length ≤ pageSize := by
  simp only [buildPage, List.length_append, length_toLE, length_flatten_slotBytes, List.length_replicate, List.length_take, sliceBytes,
    List.length_drop, pageSize]
  omega

theorem erasedPage_mem {s : State} {copy a : Nat} (h : erasedPage s copy = some a) :
    dirSector copy ≤ a ∧ a + pageSize ≤ dirSector copy + sectorSize := by
  have hmem := List.mem_of_find?_eq_some h
  simp only [copyPages, List.mem_map, List.mem_range] at hmem
  obtain ⟨i, hi, rfl⟩ := hmem
  simp only [pageSize, sectorSize]
  omega

theorem writePage_dirOnly (s : State) {copy : Nat} (hcopy : copy < 2) (generation floor : Nat) {entries : List SlotEntry}
    (hentries : entries.length ≤ 12) (p : List Byte) : DirOnly s (writePage s copy generation floor entries p).1 := by
  refine ⟨writePage_keeps (Keeps.refl s) .., fun w a ha => ?_⟩
  have hlen (e : Nat) := length_buildPage_le p generation e floor hentries
  have hout := ha copy hcopy
  unfold writePage
  split
  · next b hb =>
    have hpage := erasedPage_mem hb
    exact cellsRead_flashProgram _ _ (wf_flash w) (by have := hlen (sectorErases s copy); omega)
  · have hclear := cellsRead_flashClear (wf_flash w) hout
    refine (cellsRead_flashProgram _ _ (flashClear_wf (wf_flash w) _ _) ?_).trans hclear
    have := hlen (sectorErases s copy + 1)
    simp only [pageSize] at this
    simp only [sectorSize] at hout
    omega

theorem length_putEntry (l : List SlotEntry) (e : SlotEntry) : (putEntry l e).length = l.length := by simp [putEntry]

theorem commitDirectory_dirOnly (s : State) (floor : Nat) {entries : List SlotEntry} (hentries : entries.length ≤ 12) (comp slot : Nat) :
    DirOnly s (commitDirectory s floor entries comp slot).1 := by
  unfold commitDirectory
  split
  · exact .of_frame (refuseFlash_keeps (Keeps.refl s) ..) (refuseFlash_frame rfl (Frame.refl 0x80840021 s) 0 comp slot) rfl
  split
  · exact .refl s
  · extract_lets p gen
    have h0 := writePage_dirOnly s (show 0 < 2 by decide) gen floor hentries p
    have h1 := h0.trans (writePage_dirOnly _ (show 1 < 2 by decide) gen floor hentries p)
    exact h1.trans (.of_frame (wearView_keeps (State.putBoot_keeps (Keeps.refl _) _))
      (wearView_frame rfl (State.putBoot_frame rfl (Frame.refl 3 _) _)) rfl)

theorem slotChange_dirOnly (s : State) (comp target state : Nat) (active : Bool) (other : Option (Nat × Bool)) (floor : Nat) :
    DirOnly s (slotChange s comp target state active other floor).1 := by
  unfold slotChange
  split
  · exact .refl s
  · extract_lets l l'
    have hl : l.length ≤ 12 := by
      rw [length_putEntry]
      exact length_slotEntries_le s
    refine commitDirectory_dirOnly s _ ?_ ..
    unfold l'
    split
    · rw [length_putEntry]
      exact hl
    · exact hl

/-! ## Commands that change a slot's entry -/

/-- A flag or a counter of the register file changes after a directory commit. -/
theorem DirOnly.putRegs {s0 s : State} (h : DirOnly s0 s) (x : RegFile) (hx : Memory.wf s = true → cellsWf resetWord x = true) :
    DirOnly s0 (s.putRegs x) := h.trans ⟨State.putRegs_keeps (Keeps.refl s) x hx, fun _ _ _ => rfl⟩

theorem DirOnly.set {s0 s : State} (h : DirOnly s0 s) (f : Fld) (v : Nat) : DirOnly s0 (s.set f v) :=
  h.putRegs _ fun w => cellsWf_write (wf_regs w) _ _

theorem DirOnly.putUpd {s0 s : State} (h : DirOnly s0 s) (x : UpdState) : DirOnly s0 (s.putUpd x) :=
  h.trans ⟨State.putUpd_keeps (Keeps.refl s) x, fun _ _ _ => rfl⟩

theorem DirOnly.postEvent {s0 s : State} (h : DirOnly s0 s) (code : Nat) (fields : List (Nat × Nat × Nat)) :
    DirOnly s0 (postEvent code fields s) :=
  h.trans (.of_frame (postEvent_keeps (Keeps.refl s) code fields) (postEvent_frame rfl (Frame.refl 0x80840021 s) code fields) rfl)

theorem updateCommand_dirOnly {s : State} {q : Requester} {f : State → State} (hf : DirOnly s (f s)) : DirOnly s (updateCommand s q f) := by
  unfold updateCommand
  exact .ite (.refl s) (.ite ((DirOnly.refl s).set _ _ |>.set _ _) hf)

theorem rejectImage_dirOnly (s : State) (comp reason : Nat) : DirOnly s (rejectImage s comp reason) :=
  (((DirOnly.refl s).set _ _).set _ _).postEvent _ _

theorem stageEnds_dirOnly (s : State) (readOk : Bool) : DirOnly s (stageEnds s readOk) := by
  unfold stageEnds
  extract_lets comp
  split
  · exact (rejectImage_dirOnly ..).set _ _
  split
  · exact .refl s
  · next e he =>
    extract_lets e'
    have hlen : (putEntry (slotEntries s) e').length ≤ 12 := by
      rw [length_putEntry]
      exact length_slotEntries_le s
    have hcommit := commitDirectory_dirOnly s (configFloor s) hlen comp s.upd.target
    split
    next u ok hu =>
      rw [hu] at hcommit
      exact .ite ((hcommit.set _ _).set _ _) (((hcommit.set _ _).set _ _).postEvent _ _)

theorem exec_dirOnly {s t : State} {q : Requester} :
    ∀ row ∈ [Instr.updAbort q, .updActivateAtRestart q, .stageWriteDone true, .stageWriteDone false], exec row s = .next t →
      DirOnly s t := by
  have hstage (readOk : Bool) : DirOnly s (if running s && decide (updState s = updWriting) then stageEnds s readOk else s) :=
    .ite (stageEnds_dirOnly s readOk) (.refl s)
  refine List.forall_iff_forall_mem.1 ⟨?abort, ?activate, ?readOk, ?readBad⟩ <;> intro h <;> cases h
  case abort =>
    have hslot := slotChange_dirOnly s (updComp s) s.upd.target slotEmpty false none (configFloor s)
    exact updateCommand_dirOnly (.ite (.ite ((hslot.set _ _).set _ _) (hslot.set _ _)) ((DirOnly.refl s).set _ _))
  case activate =>
    have hslot : DirOnly s (activateChange s).1 := slotChange_dirOnly ..
    exact updateCommand_dirOnly (.ite (.ite ((hslot.putUpd _).set _ _) (hslot.set _ _)) ((DirOnly.refl s).set _ _))
  case readOk => exact hstage true
  case readBad => exact hstage false

/-! ## Staging writes the directory and the slot -/

/-- A checked image is no longer than the place it is checked for. -/
theorem imageLength_le_of_checkImage {s : State} {comp alloc : Nat} {l : List Byte} (h : checkImage s comp l alloc = 0) :
    imageLength l ≤ alloc := by
  unfold checkImage at h
  dsimp only at h
  split_ifs at h with h1 h2 h3
  have hok : lengthOk comp l alloc = true := by simpa using h3
  simp only [lengthOk, Bool.and_eq_true, decide_eq_true_eq] at hok
  obtain ⟨⟨⟨_, hle⟩, _⟩, _⟩ := hok
  exact hle

theorem imageLength_le_of_stageReason {s : State} {comp : Nat} {l : List Byte} {e : SlotEntry} (h : stageReason s comp l e = 0) :
    imageLength l ≤ e.size := by
  by_cases hcheck : checkImage s comp l e.size = 0
  · exact imageLength_le_of_checkImage hcheck
  · simp only [stageReason, ne_eq, hcheck, not_false_eq_true, if_true] at h
    split at h
    · contradiction
    · exact absurd h hcheck

theorem cellsRead_programSlot {s : State} (w : Memory.wf s = true) {e : SlotEntry} {img : List Byte} (hlen : img.length ≤ e.size) {a : Nat}
    (ha : a < e.offset ∨ e.offset + e.size ≤ a) :
    cellsRead erasedCell (programSlot s e img).flash a = cellsRead erasedCell s.flash a :=
  (cellsRead_flashProgram img e.offset (flashClear_wf (wf_flash w) _ _) (by omega)).trans (cellsRead_flashClear (wf_flash w) ha)

theorem cellsRead_updStage {s t : State} (w : Memory.wf s = true) {q : Requester} {comp : Nat} {e : SlotEntry}
    (he : slotOf s comp (inactiveSlot s comp) = some e) (h : exec (.updStage q comp) s = .next t) {a : Nat} (hdir : OutsideDirectory a)
    (ha : a < e.offset ∨ e.offset + e.size ≤ a) : cellsRead erasedCell t.flash a = cellsRead erasedCell s.flash a := by
  cases h
  unfold updateCommand
  split
  · rfl
  split
  · rfl
  dsimp only
  split
  · rfl
  unfold stageImage
  simp only [he]
  split
  · exact (rejectImage_dirOnly ..).of w a hdir
  next hreason =>
    have hslot := slotChange_dirOnly s comp (inactiveSlot s comp) slotEmpty false none (configFloor s)
    have hread := hslot.of w a hdir
    split
    · exact (hslot.set _ _).of w a hdir
    split
    · exact ((hslot.trans (.of_frame (refuseFlash_keeps (Keeps.refl _) ..) (refuseFlash_frame rfl (Frame.refl 0x80840021 _) 1 comp _)
        rfl)).set _ _).of w a hdir
    · have hlen : ((windowImage s).take (imageLength (windowImage s))).length ≤ e.size := by
        rw [List.length_take]
        exact (Nat.min_le_left _ _).trans (imageLength_le_of_stageReason (not_not.1 hreason))
      simp only [setUpd, updResult, countSlotWrite, State.set_flash, State.putUpd_flash, State.putBoot_flash]
      exact (cellsRead_programSlot (hslot.keeps.wf w) hlen ha).trans hread

/-! ## The node context store -/

theorem line_lineStored_of_ne {s : State} (w : Memory.wf s = true) {n m : Nat} (hm : m ≠ n) (new : Line) :
    (lineStored s n new).line m = s.line m := by
  have hcells : (lineStored s n new).fwd.ncs = cellsWrite zeroCell s.fwd.ncs n new := by simp [lineStored]
  rw [State.line, hcells, cellsRead_write (wf_ncs w), if_neg hm, State.line]

theorem line_writeLine_of_ne {s : State} (w : Memory.wf s = true) {n m : Nat} (hm : m ≠ n) (new : Line) :
    (writeLine s n new).line m = s.line m := by
  by_cases hn : n < lineCount s
  · rw [writeLine_of_lt hn, line_of_fwd_eq (fwd_lineFollowers ..), line_of_fwd_eq (fwd_lineChecked ..), line_lineStored_of_ne w hm]
  · rw [writeLine, if_neg hn]

theorem line_consumeLine_of_ne {s : State} (w : Memory.wf s = true) {n m : Nat} (hm : m ≠ n) : (consumeLine s n).line m = s.line m := by
  have hpoison : (consumePoison s 1 n).fwd = s.fwd := (consumePoison_frame rfl (Frame.refl 0x80840021 s) 1 n).of .fwd rfl
  rw [consumeLine, markRebuild, line_writeLine_of_ne (wf_keeps (consumePoison_keeps (Keeps.refl s) 1 n) w) hm, line_of_fwd_eq hpoison]

theorem fwd_freeMapEntry (s : State) (n : Nat) : (freeMapEntry s n).fwd = s.fwd :=
  (freeMapEntry_frame rfl (Frame.refl 0x2001 s) n).of .fwd rfl

theorem line_ncsAnswer (s : State) (q : Requester) (r m : Nat) : (ncsAnswer s q r).line m = s.line m := rfl

theorem line_ncsMaskedWrite_of_ne {s t : State} (w : Memory.wf s = true) {q : Requester} {n m : Nat} (hm : m ≠ n)
    (h : execNcsMaskedWrite q n s = .next t) : t.line m = s.line m := by
  unfold execNcsMaskedWrite at h
  dsimp only [done] at h
  split at h
  · cases h; rfl
  split at h
  · cases h; rfl
  split at h
  · cases h; rfl
  split at h <;> cases h
  · exact line_consumeLine_of_ne w hm
  · exact (line_of_fwd_eq (fwd_mapForget ..) m).trans (line_writeLine_of_ne w hm _)

theorem line_ncsZeroLine_of_ne {s t : State} (w : Memory.wf s = true) {q : Requester} {n m : Nat} (hm : m ≠ n)
    (h : execNcsZeroLine q n s = .next t) : t.line m = s.line m := by
  unfold execNcsZeroLine at h
  dsimp only [done] at h
  split at h
  · cases h; rfl
  split at h
  · cases h; exact line_ncsAnswer ..
  split at h <;> cases h <;> rw [line_ncsAnswer]
  exact (line_of_fwd_eq (fwd_freeMapEntry _ n) m).trans (line_writeLine_of_ne w hm _)

theorem line_mirrorReservation_of_ne {s t : State} (w : Memory.wf s = true) {n m block : Nat} (hm : m ≠ n)
    (h : execMirrorReservation n false block s = .next t) : t.line m = s.line m := by
  cases h
  dsimp only [applyRecord, takeRecord]
  split
  · have hline := line_writeLine_of_ne (wf_keeps (State.bumpWrap_keeps (Keeps.refl s) R.PAIR_CNT0_MIRROR_RX) w) hm
    simp only [applyReservation, Bool.false_eq_true, if_false, setLineField]
    exact (line_of_fwd_eq (State.putPair_fwd _ _) m).trans (hline _)
  · rfl

/-! ## The heard-by tables, the image window and the MSI-X table -/

theorem cellsRead_hbInvalidate {s t : State} (w : Memory.wf s = true) {q : Requester} {c n : Nat}
    (h : exec (.hbInvalidate q c n) s = .next t) {a : Nat} (ha : a ≠ hbKey c n) :
    cellsRead zeroCell t.fwd.hb a = cellsRead zeroCell s.fwd.hb a := by
  change execHbInvalidate q c n s = _ at h
  unfold execHbInvalidate at h
  dsimp only [done] at h
  split at h
  · cases h; rfl
  split at h
  · cases h; rfl
  split at h
  · cases h; rfl
  split at h <;> cases h
  · rfl
  · change cellsRead zeroCell (cellsWrite zeroCell s.fwd.hb (hbKey c n) _) a = _
    rw [cellsRead_write (wf_hb w), if_neg ha]

theorem cellsRead_recoveryChunk {s t : State} (w : Memory.wf s = true) {frame p : List Byte} (hp : recoveryPayload 1 frame = some p)
    (h : exec (.recoveryChunk frame) s = .next t) {a : Nat} (ha : a < leField p 4 4 ∨ leField p 4 4 + (p.length - 8) ≤ a) :
    cellsRead zeroCell t.window a = cellsRead zeroCell s.window a := by
  change execRecoveryChunk frame s = _ at h
  simp only [execRecoveryChunk, hp, done] at h
  split_ifs at h <;> cases h
  · rfl
  · rfl
  · rfl
  · exact cellsRead_setBytes _ _ (wf_window w) (by rwa [List.length_drop])

theorem window_recoveryChunk_of_none {s t : State} {frame : List Byte} (hp : recoveryPayload 1 frame = none)
    (h : exec (.recoveryChunk frame) s = .next t) : t.window = s.window := by
  change execRecoveryChunk frame s = _ at h
  simp only [execRecoveryChunk, hp, done] at h
  split_ifs at h <;> cases h <;> rfl

/-! ## Register writes beside the register file -/

/-- The single registers whose write has a rule of its own. -/
def singleRegs : List Nat :=
  [R.RESET_CTRL, R.AON_FAIL, R.RTW_DATA 0, R.OSC_MAN, R.PWR_LEVEL, R.JESD_CTRL, R.TB_INC_LO, R.TB_INC_HI, R.TB_STEP_LO, R.TB_STEP_HI,
    R.TB_SERVO, R.TB_FERR, R.PAIR_KEEP, R.MI_FLIP, R.APP_CTRL, R.WDOG_KICK, R.MB_TX_PUSH, R.MB_RX_POP, R.GPIO_SET, R.GPIO_CLR,
    R.AIC_EOI, R.AIC_GDIS, R.AIC_SWI, R.UPD_PROB, R.UPD_CONFIRM]

/-- The command registers whose OP selects a row. -/
def commandRegs : List Nat :=
  [R.SNAP_CTRL, R.SEC_CMD 0, R.PAIR_CMD, R.MI_CMD, R.UPD_CMD, R.PWR_CMD, R.WAKE_REQ, R.IMAP_REQ, R.NCS_CMD 0, R.EHT_CMD 0, R.HB_CMD 0]

section
variable {off : Nat} (s : State) (q : Requester) (v : Nat)

theorem writeSingle_of_not_mem (h : off ∉ singleRegs) : writeSingle s q off v = none := by
  simp only [singleRegs, List.mem_cons, List.not_mem_nil, or_false, not_or] at h
  simp only [writeSingle, h, if_false]

theorem writeCommand_of_not_mem (h : off ∉ commandRegs) (fails : List (Nat × Nat)) (data : List Byte) :
    writeCommand s q off v fails data = none := by
  simp only [commandRegs, List.mem_cons, List.not_mem_nil, or_false, not_or] at h
  simp only [writeCommand, h, if_false]

theorem writeTableCommand_of_not_mem (h : off ∉ commandRegs) : writeTableCommand s q off v = none := by
  simp only [commandRegs, List.mem_cons, List.not_mem_nil, or_false, not_or] at h
  simp only [writeTableCommand, h, if_false]

end

theorem indexIn_of_not_range {off base stride n : Nat} (h : off < base ∨ base + stride * n ≤ off) : indexIn off base stride n = none :=
  if_neg fun ⟨h1, h2, _⟩ => by omega

/-- The MSI-X table and the image window lie beside every array of registers. -/
theorem writeArray_of_far {off : Nat} (s : State) (q : Requester) (v : Nat)
    (h : 0x00180000 ≤ off ∧ off < 0x00180400 ∨ 0x0B800000 ≤ off ∧ off < 0x0C000000) : writeArray s q off v = none := by
  have hcal : indexIn off (R.CAL_REQ 0) 0x10000 16 = none := indexIn_of_not_range (by rw [R.CAL_REQ]; omega)
  have hpath : indexIn off (R.PATH_SCHED 0) 4 32 = none := indexIn_of_not_range (by rw [R.PATH_SCHED]; omega)
  have hqueue : indexIn off (R.Q_TEST 0) 0x40 32 = none := indexIn_of_not_range (by rw [R.Q_TEST]; omega)
  have hinfra : indexIn off (R.INFRA_ENT 0) 4 16384 = none := indexIn_of_not_range (by rw [R.INFRA_ENT]; omega)
  have hgpio : indexIn off (R.GPIO_CFG 0) 4 32 = none := indexIn_of_not_range (by rw [R.GPIO_CFG]; omega)
  have hen : indexIn off (R.AIC_EN 0) 4 8 = none := indexIn_of_not_range (by rw [R.AIC_EN]; omega)
  have hsrc : indexIn off (R.AIC_SRC 0) 4 256 = none := indexIn_of_not_range (by rw [R.AIC_SRC]; omega)
  rw [writeArray, if_neg (by omega), if_neg (by omega), if_neg (by omega), if_neg (by omega)]
  simp only [hcal, hpath, hqueue, hinfra, hgpio, hen, hsrc, Option.map_none]

/-- No single register and no command register lies in the MSI-X table or in the image window. -/
theorem not_mem_regs_of_far {off : Nat} (h : 0x00180000 ≤ off ∧ off < 0x00180400 ∨ 0x0B800000 ≤ off ∧ off < 0x0C000000) :
    off ∉ singleRegs ∧ off ∉ commandRegs := by
  have hall : ∀ r ∈ singleRegs ++ commandRegs, ¬(0x00180000 ≤ r ∧ r < 0x00180400 ∨ 0x0B800000 ≤ r ∧ r < 0x0C000000) := by decide
  exact ⟨fun hmem => hall off (List.mem_append_left _ hmem) h, fun hmem => hall off (List.mem_append_right _ hmem) h⟩

section
variable {off : Nat} (s : State) (q : Requester) (v : Nat) (fails : List (Nat × Nat)) (data : List Byte)

theorem writeSpecial_of_msix {k : Nat} (h : 0x00180000 ≤ off ∧ off < 0x00180400) (hk : msixIndex off = some k) :
    writeSpecial s q off v fails data = some (writeMsix s k v) := by
  obtain ⟨hsingle, hcommand⟩ := not_mem_regs_of_far (.inl h)
  simp only [writeSpecial, writeSingle_of_not_mem s q v hsingle, writeCommand_of_not_mem s q v hcommand,
    writeTableCommand_of_not_mem s q v hcommand, writeArray_of_far s q v (.inl h), hk]

theorem writeSpecial_of_window (hlo : 0x0B800000 ≤ off) (hhi : off < 0x0C000000) :
    writeSpecial s q off v fails data = some (s.putWindow (setBytes s.window (off - 0x0B800000) (toLE 4 v))) := by
  have hmsix : msixIndex off = none := indexIn_of_not_range (by omega)
  have hwindow : windowIndex off = some (off - 0x0B800000) := if_pos ⟨hlo, hhi⟩
  obtain ⟨hsingle, hcommand⟩ := not_mem_regs_of_far (.inr ⟨hlo, hhi⟩)
  simp only [writeSpecial, writeSingle_of_not_mem s q v hsingle, writeCommand_of_not_mem s q v hcommand,
    writeTableCommand_of_not_mem s q v hcommand, writeArray_of_far s q v (.inr ⟨hlo, hhi⟩), hmsix, hwindow, Option.map_some]

end

theorem writeWord_cases {P : State → Prop} {s : State} {q : Requester} {off v : Nat} {fails : List (Nat × Nat)} {data : List Byte}
    (hsame : P s) (hcount : ∀ f, P (s.bump f)) (hwrite : P (writeRegister s q off v fails data)) :
    P (writeWord s q off v fails data) := by
  unfold writeWord
  split
  · exact Decidable.byCases (fun h => by rw [if_pos h]; exact hcount _) (fun h => by rw [if_neg h]; exact hsame)
  · exact Decidable.byCases (fun h => by rw [if_pos h]; exact hsame) (fun h => by rw [if_neg h]; exact hwrite)

theorem registerWrite_word_cases {P : State → Prop} {s t : State} {q : Requester} {off v : Nat} {fails : List (Nat × Nat)} {data : List Byte}
    (halign : off % 4 = 0) (h : exec (.registerWrite q off 4 v false fails data) s = .next t) (hsame : P s) (hcount : ∀ f, P (s.bump f))
    (hwrite : P (writeRegister s q off (natBits v 0 32) fails data)) : P t := by
  by_cases hp : powered s = true
  · rw [exec_registerWrite_word hp halign] at h
    cases h
    exact writeWord_cases hsame hcount hwrite
  · change execRegisterWrite .. = _ at h
    simp only [execRegisterWrite, hp, Bool.not_false, if_true, done] at h
    cases h
    exact hsame

theorem cellsRead_windowWrite {s t : State} (w : Memory.wf s = true) {q : Requester} {off v : Nat} {fails : List (Nat × Nat)}
    {data : List Byte} (hlo : 0x0B800000 ≤ off) (hhi : off < 0x0C000000) (halign : off % 4 = 0)
    (h : exec (.registerWrite q off 4 v false fails data) s = .next t) {a : Nat} (ha : a < off - 0x0B800000 ∨ off - 0x0B800000 + 4 ≤ a) :
    cellsRead zeroCell t.window a = cellsRead zeroCell s.window a := by
  refine registerWrite_word_cases (P := fun u => cellsRead zeroCell u.window a = cellsRead zeroCell s.window a) halign h rfl
    (fun _ => rfl) ?_
  rw [writeRegister, writeSpecial_of_window s q _ fails data hlo hhi]
  exact cellsRead_setBytes _ _ (wf_window w) (by rwa [length_toLE])

theorem msixIndex_entry {k : Nat} (hk : k < 256) : msixIndex (0x00180000 + 4 * k) = some k := by
  have hrange : 0x00180000 ≤ 0x00180000 + 4 * k ∧ 0x00180000 + 4 * k < 0x00180000 + 4 * 256 ∧ (0x00180000 + 4 * k - 0x00180000) % 4 = 0 := by omega
  rw [msixIndex, indexIn, if_pos hrange]
  congr 1
  omega

theorem msix_flushVector (s : State) (v : Nat) : (flushVector s v).pcie.msix = s.pcie.msix := by
  unfold flushVector
  split <;> rfl

theorem cellsRead_writeMsix {s : State} (w : Memory.wf s = true) {k v a : Nat} (ha : a ≠ k) :
    cellsRead msixCell (writeMsix s k v).pcie.msix a = cellsRead msixCell s.pcie.msix a := by
  have hcells (c : BitVec 32) : cellsRead msixCell (cellsWrite msixCell s.pcie.msix k c) a = cellsRead msixCell s.pcie.msix a := by
    rw [cellsRead_write (wf_msix w), if_neg ha]
  unfold writeMsix
  dsimp only
  split
  · rw [msix_flushVector]; exact hcells _
  · exact hcells _

theorem cellsRead_msixWrite {s t : State} (w : Memory.wf s = true) {q : Requester} {k v : Nat} {fails : List (Nat × Nat)}
    {data : List Byte} (hk : k < 256) (h : exec (.registerWrite q (0x00180000 + 4 * k) 4 v false fails data) s = .next t) {a : Nat}
    (ha : a ≠ k) : cellsRead msixCell t.pcie.msix a = cellsRead msixCell s.pcie.msix a := by
  refine registerWrite_word_cases (P := fun u => cellsRead msixCell u.pcie.msix a = cellsRead msixCell s.pcie.msix a) (by omega) h rfl
    (fun _ => rfl) ?_
  rw [writeRegister, writeSpecial_of_msix s q _ fails data (by omega) (msixIndex_entry hk)]
  exact cellsRead_writeMsix w ha

/-- Settles O53: one lemma per store, each from the read-after-write rule of canonical cells. -/
theorem storeWritesStayInPlace : Obligations.StoreWritesStayInPlace := by
  intro s t q w
  refine ⟨?line, ?heardBy, ?chunk, ?noChunk, ?window, ?msix, ?directory, ?slot⟩
  case line =>
    intro n
    refine List.forall_iff_forall_mem.1 ⟨?_, ?_, ?_⟩ <;> intro h m hm
    · exact line_ncsMaskedWrite_of_ne w hm h
    · exact line_ncsZeroLine_of_ne w hm h
    · exact line_mirrorReservation_of_ne w hm h
  case heardBy => exact fun c n h a ha => cellsRead_hbInvalidate w h ha
  case chunk => exact fun frame p hp h a ha => cellsRead_recoveryChunk w hp h ha
  case noChunk => exact fun frame hp h => window_recoveryChunk_of_none hp h
  case window => exact fun off v fails data hlo hhi halign h a ha => cellsRead_windowWrite w hlo hhi halign h ha
  case msix => exact fun k v fails data hk h a ha => cellsRead_msixWrite w hk h ha
  case directory => exact fun row hrow h a ha => (exec_dirOnly row hrow h).of w a ha
  case slot => exact fun comp e he h a hdir ha => cellsRead_updStage w he h hdir ha

end Sys2Proof.Machine
end

section
/-!
Reading register fields after writes, for `simp`. A field is unfolded to its key, lowest bit and width; the one condition is the register
file's canonical form, so that substates put in between do not matter.
-/

namespace Sys2Proof.Machine

variable (s : State)

/-! ## The canonical form of the register file -/

/-- The canonical form after one write, under a name of its own: `regsWf_set` then has no condition, and `simp` follows a chain of writes
down to the state that they started from. -/
def setWf (f : Fld) (v : Nat) : Bool := cellsWf resetWord (s.set f v).regs

@[simp] theorem regsWf_set (f : Fld) (v : Nat) : cellsWf resetWord (s.set f v).regs = (cellsWf resetWord s.regs || setWf s f v) := by
  cases h : cellsWf resetWord s.regs with
  | false => rfl
  | true => exact cellsWf_write h _ _

/-- The same for a whole word. -/
def setWordWf (key : Nat) (x : Word) : Bool := cellsWf resetWord (s.setWord key x).regs

@[simp] theorem regsWf_setWord (key : Nat) (x : Word) :
    cellsWf resetWord (s.setWord key x).regs = (cellsWf resetWord s.regs || setWordWf s key x) := by
  cases h : cellsWf resetWord s.regs with
  | false => rfl
  | true => exact cellsWf_write h _ _

/-! ## Counters and flags as plain writes and reads -/

section
variable (key lo n v : Nat)

@[simp] theorem bumpBy_mk : s.bumpBy ⟨key, lo, n⟩ v = s.set ⟨key, lo, n⟩ (min (2 ^ n - 1) (s.get ⟨key, lo, n⟩ + v)) := rfl

@[simp] theorem bump_mk : s.bump ⟨key, lo, n⟩ = s.set ⟨key, lo, n⟩ (min (2 ^ n - 1) (s.get ⟨key, lo, n⟩ + 1)) := rfl

@[simp] theorem bumpWrap_mk : s.bumpWrap ⟨key, lo, n⟩ = s.set ⟨key, lo, n⟩ (s.get ⟨key, lo, n⟩ + 1) := rfl

@[simp] theorem setBit_mk (b : Bool) : s.setBit ⟨key, lo, n⟩ b = s.set ⟨key, lo, n⟩ (boolNat b) := rfl

@[simp] theorem bit_mk : s.bit ⟨key, lo, n⟩ = decide (s.get ⟨key, lo, n⟩ = 1) := rfl

end

/-! ## Reading after a write -/

section
variable {s} (h : cellsWf resetWord s.regs = true)
include h

theorem word_regsWf_set (f : Fld) (v key : Nat) :
    (s.set f v).word key = if key = f.key then setBits (s.word f.key) f.lo f.width v else s.word key :=
  cellsRead_write h _ _ _

/-- A field that was written reads as the value written, reduced to its width. -/
@[simp] theorem get_set_same {key lo n : Nat} (hfit : lo + n ≤ 32) (v : Nat) : (s.set ⟨key, lo, n⟩ v).get ⟨key, lo, n⟩ = v % 2 ^ n := by
  rw [get_eq_word, word_regsWf_set h, if_pos rfl, getBits_setBits_self _ _ _ _ hfit]

/-- A write to one register leaves the fields of another. -/
@[simp] theorem get_set_key {key key' : Nat} (hkey : key' ≠ key) (lo n v lo' n' : Nat) :
    (s.set ⟨key, lo, n⟩ v).get ⟨key', lo', n'⟩ = s.get ⟨key', lo', n'⟩ := by
  rw [get_eq_word, word_regsWf_set h, if_neg hkey, get_eq_word]

/-- A write to one field leaves the others of its register. -/
@[simp] theorem get_set_bits (key : Nat) {lo n lo' n' : Nat} (hfit : lo + n ≤ 32) (hapart : lo' + n' ≤ lo ∨ lo + n ≤ lo') (v : Nat) :
    (s.set ⟨key, lo, n⟩ v).get ⟨key, lo', n'⟩ = s.get ⟨key, lo', n'⟩ := by
  rw [get_eq_word, word_regsWf_set h, if_pos rfl, getBits_setBits_ne _ _ _ _ _ _ hfit hapart, get_eq_word]

@[simp] theorem word_set_key {key key' : Nat} (hkey : key' ≠ key) (lo n v : Nat) : (s.set ⟨key, lo, n⟩ v).word key' = s.word key' := by
  rw [word_regsWf_set h, if_neg hkey]

@[simp] theorem get_setWord_other {key key' : Nat} (hkey : key' ≠ key) (x : Word) (lo n : Nat) :
    (s.setWord key x).get ⟨key', lo, n⟩ = s.get ⟨key', lo, n⟩ := by
  have hword : (s.setWord key x).word key' = s.word key' := (cellsRead_write h _ _ _).trans (if_neg hkey)
  rw [get_eq_word, get_eq_word, hword]

end

end Sys2Proof.Machine
end

section
/-!
Register writes and reads (R6, R7, R10): the rows of O1.
-/

namespace Sys2Proof.Machine

/-! ## Writes -/

theorem natBits_low (v n : Nat) : natBits v 0 n = v % 2 ^ n := by rw [natBits, pow_zero, Nat.div_one]

theorem natBits_natBits_low {lo n w : Nat} (h : lo + n ≤ w) (v : Nat) : natBits (natBits v 0 w) lo n = natBits v lo n := by
  rw [natBits_low, natBits_eq_mod_div, natBits_eq_mod_div, Nat.mod_mod_of_dvd v (pow_dvd_pow 2 h)]

/-- A word that reaches its block. -/
theorem exec_registerWrite_open {s : State} {q : Requester} {off : Nat} (hs : powered s = true) (halign : off % 4 = 0)
    (hopen : blockOpen s q off = true) (hunit : unitAt s.part off = true) (v : Nat) (fails : List (Nat × Nat)) (data : List Byte) :
    exec (.registerWrite q off 4 v false fails data) s = .next (writeRegister s q off (natBits v 0 32) fails data) := by
  simp [exec_registerWrite_word hs halign, writeWord, hopen, hunit]

theorem writeRegister_plain {s : State} {q : Requester} {off v : Nat} {fails : List (Nat × Nat)} {data : List Byte}
    (h : writeSpecial s q off v fails data = none) : writeRegister s q off v fails data = writePlain s q off v := by
  simp [writeRegister, h]

theorem writePlain_of_regAt {s : State} {off : Nat} {r : RegDesc} (hcfg : off ≠ R.PAIR_CFG) (hr : regAt off = some r) (q : Requester) (v : Nat) :
    writePlain s q off v = plainWrite s (regKey r q off) v r.fields := by
  simp [writePlain, hcfg, hr]

theorem writePlain_of_none {off : Nat} (hr : regAt off = none) (s : State) (q : Requester) (v : Nat) : writePlain s q off v = s := by
  simp [writePlain, hr]

theorem writeSpecial_pwrSleep (s : State) (q : Requester) (v : Nat) (fails : List (Nat × Nat)) (data : List Byte) :
    writeSpecial s q R.PWR_SLEEP v fails data = none := rfl

theorem regAt_pwrSleep : regAt R.PWR_SLEEP = some ⟨"PWR_SLEEP", R.PWR_SLEEP, [], false,
    [⟨10, 1, .rw, 0x0, none⟩, ⟨9, 1, .rw, 0x0, none⟩, ⟨8, 1, .rw, 0x0, none⟩, ⟨4, 4, .rw, 0x0, none⟩, ⟨0, 4, .rw, 0x0, none⟩]⟩ := by
  decide

theorem exec_registerWrite_pwrSleep {s : State} (hs : powered s = true) (q : Requester) (v : Nat) (fails : List (Nat × Nat)) (data : List Byte) :
    exec (.registerWrite q R.PWR_SLEEP 4 v false fails data) s = .next (((((s.set R.PWR_SLEEP_PEER (v / 1024 % 2)).set R.PWR_SLEEP_PERST
      (v / 512 % 2)).set R.PWR_SLEEP_TMR (v / 256 % 2)).set R.PWR_SLEEP_POL (v / 16 % 16)).set R.PWR_SLEEP_GPIO (v % 16)) := by
  rw [exec_registerWrite_open hs rfl rfl rfl, writeRegister_plain (writeSpecial_pwrSleep ..), writePlain_of_regAt (by decide) regAt_pwrSleep]
  simp only [plainWrite, foldState, List.foldl_cons, List.foldl_nil, writeField, regKey, Bool.false_eq_true, if_false]
  simp (disch := decide) only [natBits_natBits_low]
  simp [natBits, R.PWR_SLEEP_PEER, R.PWR_SLEEP_PERST, R.PWR_SLEEP_TMR, R.PWR_SLEEP_POL, R.PWR_SLEEP_GPIO]

theorem touched_narrow {off size : Nat} (hpos : 0 < size) (h : off % 4 + size < 4) : touched off size = [(off / 4 * 4, false)] := by
  have hone : (off % 4 + size + 3) / 4 = 1 := by omega
  have hpart : ¬(off ≤ off / 4 * 4 ∧ off / 4 * 4 + 4 ≤ off + size) := by omega
  simpa [touched, hone] using hpart

theorem exec_registerWrite_narrow {s : State} (hs : powered s = true) {off size : Nat} (hpos : 0 < size) (h : off % 4 + size < 4) (q : Requester)
    (v : Nat) (fails : List (Nat × Nat)) (data : List Byte) :
    exec (.registerWrite q off size v false fails data) s = .next (countNarrow s q) := by
  change execRegisterWrite q off size v false fails data s = _
  simp [execRegisterWrite, hs, touched_narrow hpos h, foldState]

theorem exec_registerWrite_poisoned {s : State} (hs : powered s = true) (q : Requester) (off size v : Nat) (fails : List (Nat × Nat))
    (data : List Byte) : exec (.registerWrite q off size v true fails data) s = .next (s.bump R.HIF_CNT_POISONED) := by
  change execRegisterWrite q off size v true fails data s = _
  simp [execRegisterWrite, hs]

/-- OP 3 of PAIR_CMD is PAIR_HOLD. -/
theorem writeRegister_pairHold {v : Nat} (hop : natBits v 28 4 = 3) (s : State) (q : Requester) (fails : List (Nat × Nat)) (data : List Byte) :
    writeRegister s q R.PAIR_CMD v fails data = settled s (execPairHold s) := by
  have hcommand : writeCommand s q R.PAIR_CMD v fails data = some (settled s (execPairHold s)) := by
    simp [writeCommand, hop, R.PAIR_CMD, R.SNAP_CTRL, R.SEC_CMD]
  have hsingle : writeSingle s q R.PAIR_CMD v = none := rfl
  simp [writeRegister, writeSpecial, hsingle, hcommand]

theorem exec_registerWrite_pairHold {s : State} (hrun : running s = true) (hlink : hjPresent s.part = true) {v : Nat} (hop : natBits v 28 4 = 3)
    (q : Requester) (fails : List (Nat × Nat)) (data : List Byte) :
    exec (.registerWrite q R.PAIR_CMD 4 v false fails data) s = exec .pairHold s := by
  have hunit : unitAt s.part R.PAIR_CMD = true := by simp [unitAt, R.PAIR_CMD, hlink]
  rw [exec_registerWrite_open (powered_of_running hrun) rfl (blockOpen_of_running hrun q _) hunit,
    writeRegister_pairHold (by rw [natBits_natBits_low (by decide), hop])]
  obtain ⟨t, ht, -⟩ := everyCommandCompletes .pairHold s
  rw [show execPairHold s = .next t from ht, ht]
  rfl

/-! ## Reads -/

theorem readWord_closed {s : State} {q : Requester} {off : Nat} (h : blockOpen s q off = false) : readWord s q off = s.answer q 0 := by
  simp [readWord, h]

theorem readWord_pwrTemp (s : State) (q : Requester) :
    readWord s q R.PWR_TEMP = (s.set R.PWR_TEMP_MAX 0x8000).answer q (s.word R.PWR_TEMP).toNat := rfl

/-- Settles O1: an aligned word is `writeRegister`, which is the row of a command or `plainWrite`; the other accesses are one step each. -/
theorem registerRowsComplete : Obligations.RegisterRowsComplete := by
  intro s q w hs
  refine ⟨?sleep, ?plain, ?unused, ?narrow, ?poisoned, ?hold, ?temperature, ?closed⟩
  case sleep =>
    intro v fails data
    refine ⟨_, exec_registerWrite_pwrSleep hs q v fails data, ?_⟩
    simp [wf_regs w, R.PWR_SLEEP_PEER, R.PWR_SLEEP_PERST, R.PWR_SLEEP_TMR, R.PWR_SLEEP_POL, R.PWR_SLEEP_GPIO]
  case plain =>
    intro off v fails data r halign hopen hunit hcfg hspecial hr
    rw [exec_registerWrite_open hs halign hopen hunit, writeRegister_plain hspecial, writePlain_of_regAt hcfg hr]
  case unused =>
    intro off v fails data halign hopen hunit hspecial hr
    rw [exec_registerWrite_open hs halign hopen hunit, writeRegister_plain hspecial, writePlain_of_none hr]
  case narrow => exact fun off size v fails data hpos h => exec_registerWrite_narrow hs hpos h q v fails data
  case poisoned => exact fun off size v fails data => exec_registerWrite_poisoned hs q off size v fails data
  case hold => exact fun v fails data hrun hlink hop => exec_registerWrite_pairHold hrun hlink hop q fails data
  case temperature =>
    refine ⟨_, exec_counterReadClear_word hs rfl q, ?_, ?_, ?_⟩
    · have hword : natBits (s.word R.PWR_TEMP).toNat 0 32 = (s.word R.PWR_TEMP).toNat := by
        rw [natBits_low, Nat.mod_eq_of_lt (s.word R.PWR_TEMP).isLt]
      simp [readWord_pwrTemp, State.answer, assocGet_assocSet_self, hword]
    · exact get_set_self (f := R.PWR_TEMP_MAX) w (by decide) _
    · exact get_set_apart (f := R.PWR_TEMP_MAX) w (by decide) (by decide) _
  case closed =>
    intro off halign hclosed
    refine ⟨_, exec_counterReadClear_word hs halign q, ?_, ?_⟩
    · simp [readWord_closed hclosed, State.answer, assocGet_assocSet_self, natBits]
    · rw [readWord_closed hclosed]; rfl

end Sys2Proof.Machine
end

section
/-!
Power-up (Tables 2-7 and 3-1): the rows of O2.
-/

namespace Sys2Proof.Machine

/-! ## The start of the timebase and of the boot ROM -/

theorem boot_startTimebase (s : State) (nLf nRc lag : Nat) : (startTimebase s nLf nRc lag).boot = s.boot :=
  (startTimebase_frame rfl (Frame.refl 0x808C0021 s) nLf nRc lag).of .boot rfl

/-- Setting the time quality leaves the timebase alone. -/
theorem tb_setQuality (s : State) (code err : Nat) : (setQuality s code err).tb = s.tb :=
  (setQuality_frame rfl (Frame.refl 0x80840021 s) code err).of .tb rfl

theorem running_startTimebase (s : State) (nLf nRc lag : Nat) : (startTimebase s nLf nRc lag).tb.running = true := by
  unfold startTimebase
  cases s.tb.bridge with
  | none => exact congrArg TimeState.running (tb_setQuality ..)
  | some b => exact congrArg TimeState.running (tb_setQuality ..)

theorem boot_setBit (s : State) (f : Fld) (b : Bool) : (s.setBit f b).boot = s.boot := rfl

theorem boot_applyRepairs (s : State) : (applyRepairs s).boot = s.boot :=
  (applyRepairs_frame rfl (Frame.refl 0x2000001 s)).of .boot rfl

theorem boot_wearView (s : State) : (wearView s).boot = s.boot :=
  (wearView_frame rfl (Frame.refl 0x1 s)).of .boot rfl

/-- The boot ROM begins with component 0. -/
theorem boot_romStart (s : State) : (romStart s).boot.phase = .boot ∧ (romStart s).boot.comp = 0 := by
  unfold romStart
  extract_lets src1 s1 page src2 s2 s3 s4 src3
  have hboot : s4.boot = s2.boot := (boot_applyRepairs _).trans (boot_wearView _)
  have hphase : s4.boot.phase = .boot := congrArg BootState.phase hboot
  have hcomp : s4.boot.comp = 0 := congrArg BootState.comp hboot
  split
  · exact ⟨hphase, hcomp⟩
  split
  · exact ⟨hphase, hcomp⟩
  · exact ⟨hphase, hcomp⟩

theorem tb_romStart (s : State) : (romStart s).tb = s.tb :=
  (romStart_frame rfl (Frame.refl 0x2000003 s)).of .tb rfl

/-! ## The rows -/

theorem exec_porstNRelease {s : State} (w : Memory.wf s = true) (hphase : s.boot.phase = .porstLow) (m0 m1 id : Option Bool) :
    ∃ t, exec (.porstNRelease m0 m1 id) s = .next t ∧ t.boot.phase = .powering ∧ t.boot.startAt = s.now ∧ t.pwr.enCore = true ∧
      t.pwr.enSram = true ∧ ∀ a b, m0 = some a → m1 = some b → t.get R.STRAPS_BOOT_MODE = boolNat a + 2 * boolNat b := by
  have hmode (a b : Bool) : (boolNat a + 2 * boolNat b) % 4 = boolNat a + 2 * boolNat b := by cases a <;> cases b <;> rfl
  change ∃ t, execPorstNRelease m0 m1 id s = .next t ∧ _
  rw [execPorstNRelease, if_neg (not_not.2 hphase)]
  refine ⟨_, rfl, rfl, rfl, rfl, rfl, ?_⟩
  rintro a b rfl rfl
  have hread (u : State) (hu : u.get R.STRAPS_BOOT_MODE = (boolNat a + 2 * boolNat b) % 4) : u.get R.STRAPS_BOOT_MODE = boolNat a + 2 * boolNat b :=
    hu.trans (hmode a b)
  refine hread _ ?_
  simp only [State.putBoot_get, State.putPwr_get, State.drew_get, Option.getD_some]
  split
  · rw [get_set_apart (wf_set w _ _) (by decide) (by decide), get_set_self w (by decide)]; rfl
  · rw [get_set_self w (by decide)]; rfl

theorem exec_pllLock {s : State} (hphase : s.boot.phase = .pllWait) (hstopped : s.tb.running = false) (hcause : s.boot.cause ≠ .sepiaExit)
    (nLf nRc lag : Nat) : exec (.pllLock nLf nRc lag) s = .next (romStart (startTimebase s nLf nRc lag)) := by
  change execPllLock nLf nRc lag s = _
  simp [execPllLock, hphase, hstopped, boot_startTimebase, hcause]

/-- Settles O2. -/
theorem powerUpRowsComplete : Obligations.PowerUpRowsComplete := by
  intro s w
  refine ⟨?release, ?aonUp, ?good, ?retry, ?fail, ?again, ?lock, ?refclk⟩
  case release => exact fun m0 m1 id hphase => exec_porstNRelease w hphase m0 m1 id
  case aonUp =>
    intro hphase
    exact ⟨_, congrArg Host.Outcome.next (if_pos hphase), rfl⟩
  case good =>
    intro hphase
    exact ⟨_, if_neg (not_not.2 hphase), rfl, rfl, rfl, rfl⟩
  case retry =>
    intro hphase hretried
    refine ⟨_, (if_neg (not_not.2 hphase)).trans (if_neg (by rw [hretried]; decide)), rfl, rfl, rfl, rfl⟩
  case fail =>
    intro hphase hretried
    refine ⟨_, (if_neg (not_not.2 hphase)).trans (if_pos hretried), phase_faultHold .., ?_⟩
    rw [get_faultHold_code w (by split <;> decide)]
    split <;> rfl
  case again =>
    intro hphase
    exact ⟨_, if_neg (not_not.2 hphase), rfl, rfl, rfl, rfl⟩
  case lock =>
    intro nLf nRc lag hphase hstopped hcause
    refine ⟨_, exec_pllLock hphase hstopped hcause nLf nRc lag, (boot_romStart _).1, (boot_romStart _).2, ?_⟩
    rw [tb_romStart, running_startTimebase]
  case refclk =>
    intro code hphase hstopped hcode hretried
    exact ⟨_, exec_refclkTimeout_first hphase hstopped hcode hretried, rfl⟩

end Sys2Proof.Machine
end

section
/-!
Resets and failures of power (R14, R59, R77, R104 to R106): the rows of O3.
-/

namespace Sys2Proof.Machine

/-! ## What the end of a claim and of the timebase leave alone -/

/-- The components that a reset keeps lie outside what ends with a claim. -/
theorem kept_endClaim (s : State) (cause : Nat) : (endClaim s cause).flash = s.flash ∧ (endClaim s cause).otp = s.otp ∧
    (endClaim s cause).tree = s.tree ∧ (endClaim s cause).tb = s.tb := by
  have h := endClaim_frame rfl (Frame.refl 0x186D75121 s) cause
  exact ⟨h.of .flash rfl, h.of .otp rfl, h.of .tree rfl, h.of .tb rfl⟩

theorem kept_stopTimebase (s : State) : (stopTimebase s).flash = s.flash ∧ (stopTimebase s).otp = s.otp ∧ (stopTimebase s).tree = s.tree ∧
    (stopTimebase s).mi = s.mi := by
  have h := stopTimebase_frame rfl (Frame.refl 0x80000 s)
  exact ⟨h.of .flash rfl, h.of .otp rfl, h.of .tree rfl, h.of .mi rfl⟩

theorem running_stopTimebase (s : State) : (stopTimebase s).tb.running = false := by
  unfold stopTimebase
  split
  · rfl
  next h => exact Bool.not_eq_true _ ▸ h

section
variable (s : State) (keep : List Fld) (power : PowerState) (phase : Phase)

@[simp] theorem resetKeeping_phase : (resetKeeping s keep power phase).boot.phase = phase := rfl
@[simp] theorem resetKeeping_pwr : (resetKeeping s keep power phase).pwr = power := rfl
@[simp] theorem resetKeeping_fwd : (resetKeeping s keep power phase).fwd = FwdState.cold := rfl
@[simp] theorem resetKeeping_sec : (resetKeeping s keep power phase).sec = SecState.cold := rfl
@[simp] theorem resetKeeping_flash : (resetKeeping s keep power phase).flash = s.flash := rfl
@[simp] theorem resetKeeping_otp : (resetKeeping s keep power phase).otp = s.otp := rfl
@[simp] theorem resetKeeping_tree : (resetKeeping s keep power phase).tree = s.tree := rfl
@[simp] theorem resetKeeping_tb_running : (resetKeeping s keep power phase).tb.running = false := rfl
@[simp] theorem resetKeeping_queues : (resetKeeping s keep power phase).queues = [] := rfl
@[simp] theorem resetKeeping_regsWf : cellsWf resetWord (resetKeeping s keep power phase).regs = true := keptRegs_wf s keep

end

/-- Fault hold resets what a reset clears, with the rails off. -/
theorem faultHold_eq (s : State) (phase code : Nat) : ∃ u keep, faultHold s phase code = resetKeeping u keep PowerState.cold .faultHold ∧
    u.tree = s.tree := by
  have hlatch (u : State) : (latchFail u phase code).tree = u.tree := (latchFail_frame rfl (Frame.refl 0x1 u) phase code).of .tree rfl
  exact ⟨_, _, rfl, (kept_stopTimebase _).2.2.1.trans ((hlatch _).trans (kept_endClaim s 13).2.2.1)⟩

/-! ## The warm restart -/

/-- A warm restart resets what a reset clears, then restores what R77 keeps. -/
theorem warmClear_eq (s : State) (phase : Phase) : ∃ u boot power mi, u = resetKeeping (stopTimebase s) (alwaysOnFields ++ strapFields) power phase ∧
    power.enCore = true ∧ power.enSram = true ∧ boot.phase = phase ∧ mi.retired = s.mi.retired ∧
    warmClear s phase = ((u.setBit R.BOOT_STATUS_AON_SRC (!s.pwr.aonLf)).putMi mi).putBoot boot := by
  refine ⟨_, _, { railsState true true with aonLf := s.pwr.aonLf }, _, rfl, rfl, rfl, ?_, ?_, rfl⟩ <;> rfl

/-- What a warm restart clears and keeps. -/
theorem warmClear_kept (s : State) (phase : Phase) : (warmClear s phase).boot.phase = phase ∧ (warmClear s phase).pwr.enCore = true ∧
    (warmClear s phase).pwr.enSram = true ∧ (warmClear s phase).sec = SecState.cold ∧ (warmClear s phase).tree = s.tree ∧
    (warmClear s phase).mi.retired = s.mi.retired ∧ (warmClear s phase).get R.STRAPS_BOOT_MODE = s.get R.STRAPS_BOOT_MODE := by
  obtain ⟨u, boot, power, mi, hu, hcore, hsram, hboot, hmi, h⟩ := warmClear_eq s phase
  have hmode : u.get R.STRAPS_BOOT_MODE = s.get R.STRAPS_BOOT_MODE := by
    rw [hu, get_resetKeeping (by decide) (by decide), get_stopTimebase]
  have hwf : cellsWf resetWord u.regs = true := by rw [hu, resetKeeping_regsWf]
  have htree : u.tree = s.tree := by rw [hu, resetKeeping_tree, (kept_stopTimebase s).2.2.1]
  have hread : (u.setBit R.BOOT_STATUS_AON_SRC (!s.pwr.aonLf)).get R.STRAPS_BOOT_MODE = u.get R.STRAPS_BOOT_MODE := by
    simp [hwf, R.BOOT_STATUS_AON_SRC, R.STRAPS_BOOT_MODE, R.BOOT_STATUS, R.STRAPS]
  have hpwr : u.pwr = power := by rw [hu, resetKeeping_pwr]
  have hsec : u.sec = SecState.cold := by rw [hu, resetKeeping_sec]
  rw [h]
  exact ⟨hboot, (congrArg PowerState.enCore hpwr).trans hcore, (congrArg PowerState.enSram hpwr).trans hsram, hsec, htree, hmi,
    hread.trans hmode⟩

/-- Settles O3. -/
theorem resetRowsComplete : Obligations.ResetRowsComplete := by
  intro s w
  refine ⟨?porst, ?aonLoss, ?fall, ?warmLow, ?warmHigh, ?resetCtrl, ?delay⟩
  case porst =>
    intro hphase
    obtain ⟨hflash, hotp, htree, -⟩ := kept_endClaim s 13
    obtain ⟨kflash, kotp, ktree, -⟩ := kept_stopTimebase (endClaim s 13)
    refine ⟨_, if_neg hphase, resetKeeping_phase .., resetKeeping_pwr .., resetKeeping_fwd .., resetKeeping_sec .., ?_, ?_, ?_⟩
    · rw [resetKeeping_flash, kflash, hflash]
    · rw [resetKeeping_otp, kotp, hotp]
    · rw [resetKeeping_tree, ktree, htree]
  case aonLoss =>
    generalize hu : resetKeeping s [R.PAIR_STATUS_CLAIM_IN] PowerState.cold .unpowered = u
    refine ⟨(((u.putOsc { held := 0, kept := none, crowd := [], change := 0 }).putTb TimeState.cold).putTree TreeState.lost).putUpd UpdState.cold,
      by rw [← hu]; rfl, ?_, rfl, rfl, rfl, ?_, ?_⟩
    · rw [State.putUpd_boot, State.putTree_boot, State.putTb_boot, State.putOsc_boot, ← hu, resetKeeping_phase]
    · rw [State.putUpd_flash, State.putTree_flash, State.putTb_flash, State.putOsc_flash, ← hu, resetKeeping_flash]
    · rw [State.putUpd_otp, State.putTree_otp, State.putTb_otp, State.putOsc_otp, ← hu, resetKeeping_otp]
  case fall =>
    intro hup
    refine ⟨_, if_pos hup, phase_faultHold .., get_faultHold_code w (by decide) _, ?_⟩
    obtain ⟨u, keep, h, htree⟩ := faultHold_eq s (if s.boot.phase = .pllWait then powerPhase s else s.get R.BOOT_STATUS_PHASE) 5
    rw [h, resetKeeping_pwr, resetKeeping_tree]
    exact ⟨rfl, rfl, rfl, htree⟩
  case warmLow =>
    intro hs
    exact ⟨_, if_pos (by simp [hs]), rfl, running_stopTimebase _⟩
  case warmHigh =>
    intro hphase
    exact ⟨_, congrArg Host.Outcome.next (if_pos hphase), warmClear_kept s .pllWait⟩
  case resetCtrl =>
    intro hs
    exact ⟨_, congrArg Host.Outcome.next (if_pos (by simp [hs])), rfl⟩
  case delay =>
    intro hphase
    obtain ⟨hp, -, -, hsec, htree, -, hmode⟩ := warmClear_kept s .pllWait
    exact ⟨_, congrArg Host.Outcome.next (if_pos hphase), hp, hsec, htree, hmode⟩

end Sys2Proof.Machine
end

section
/-!
The loading of images (R86 to R89, R96, R79, R113, R165): the rows of O4.
-/

namespace Sys2Proof.Machine

/-! ## What start-up's operations leave alone of the start-up state -/

/-- The start-up state without the images in force, the directory page, the budget of commits, the posts that wait and the paths whose
calibration is pending. -/
def BootState.core (b : BootState) : BootState :=
  { b with images := [], page := none, retryPost := none, lfPost := false, coldPending := [], commitTimes := [] }

/-- The core of the start-up state is the same. -/
def CoreKept (s t : State) : Prop := t.boot.core = s.boot.core

theorem CoreKept.of_boot {s t : State} (h : t.boot = s.boot) : CoreKept s t := congrArg BootState.core h

theorem CoreKept.trans {s t u : State} (h : CoreKept s t) (k : CoreKept t u) : CoreKept s u := Eq.trans k h

theorem CoreKept.phase {s t : State} (h : CoreKept s t) : t.boot.phase = s.boot.phase := (congrArg BootState.phase h : t.boot.core.phase = _)

theorem CoreKept.committed {s t : State} (h : CoreKept s t) : t.boot.committed = s.boot.committed :=
  (congrArg BootState.committed h : t.boot.core.committed = _)

theorem CoreKept.comp {s t : State} (h : CoreKept s t) : t.boot.comp = s.boot.comp := (congrArg BootState.comp h : t.boot.core.comp = _)

theorem CoreKept.second {s t : State} (h : CoreKept s t) : t.boot.second = s.boot.second := (congrArg BootState.second h : t.boot.core.second = _)

theorem CoreKept.recovery {s t : State} (h : CoreKept s t) : t.boot.recovery = s.boot.recovery :=
  (congrArg BootState.recovery h : t.boot.core.recovery = _)

theorem CoreKept.slotWrites {s t : State} (h : CoreKept s t) : t.boot.slotWrites = s.boot.slotWrites :=
  (congrArg BootState.slotWrites h : t.boot.core.slotWrites = _)

theorem CoreKept.fold {α : Type} {f : State → α → State} (hf : ∀ t x, CoreKept t (f t x)) (s : State) (l : List α) :
    CoreKept s (foldState f s l) := by
  induction l generalizing s with
  | nil => exact rfl
  | cons x l ih => exact (hf s x).trans (ih (f s x))

theorem boot_postEvent (code : Nat) (fields : List (Nat × Nat × Nat)) (s : State) : (postEvent code fields s).boot = s.boot :=
  (postEvent_frame rfl (Frame.refl 0x80840021 s) code fields).of .boot rfl

theorem boot_imageInForce (s : State) (comp slot : Nat) (l : List Byte) : ∃ images, (imageInForce s comp slot l).boot = { s.boot with images := images } := by
  unfold imageInForce
  rw [State.set_boot, State.set_boot, State.set_boot, State.set_boot, State.setBitAt_boot, State.putBoot_boot]
  exact ⟨_, rfl⟩

theorem imageInForce_core (s : State) (comp slot : Nat) (l : List Byte) : CoreKept s (imageInForce s comp slot l) := by
  obtain ⟨images, h⟩ := boot_imageInForce s comp slot l
  rw [CoreKept, h]
  rfl

theorem slotBoots_core (s : State) (slot : Nat) (img : List Byte) : CoreKept s (slotBoots s slot img) := by
  unfold slotBoots
  extract_lets comp u
  have hu : CoreKept s u := imageInForce_core ..
  split
  · exact hu.trans (.of_boot ((boot_postEvent ..).trans (State.setBitAt_boot ..)))
  · exact hu

theorem boot_writePage (s : State) (copy gen floor : Nat) (l : List SlotEntry) (p : List Byte) : (writePage s copy gen floor l p).1.boot = s.boot :=
  (writePage_frame rfl (Frame.refl 0x100000004 s) copy gen floor l p).of .boot rfl

theorem commitDirectory_core (s : State) (floor : Nat) (l : List SlotEntry) (comp slot : Nat) :
    CoreKept s (commitDirectory s floor l comp slot).1 := by
  unfold commitDirectory
  split
  · exact .of_boot (boot_postEvent ..)
  split
  · exact rfl
  next a _ =>
    extract_lets p gen
    have h := (boot_writePage (writePage s 0 gen floor l p).1 1 gen floor l p).trans (boot_writePage s 0 gen floor l p)
    dsimp only
    rw [CoreKept, boot_wearView, State.putBoot_boot, h]
    rfl

theorem slotChange_core (s : State) (comp target state : Nat) (active : Bool) (other : Option (Nat × Bool)) (floor : Nat) :
    CoreKept s (slotChange s comp target state active other floor).1 := by
  unfold slotChange
  split
  · exact rfl
  · exact commitDirectory_core ..

theorem confirmImage_core (s : State) (comp slot spent : Nat) : CoreKept s (confirmImage s comp slot spent) := by
  unfold confirmImage
  extract_lets img floor
  have hchange := slotChange_core s comp slot slotValid true none floor
  split
  next u ok hu =>
    rw [hu] at hchange
    split
    · exact hchange
    · refine hchange.trans (.of_boot ((boot_postEvent ..).trans ?_))
      exact (apply_ite State.boot ..).trans (ite_self _)

theorem trialBooted_core (s : State) (comp : Nat) : CoreKept s (trialBooted s comp) := by
  unfold trialBooted
  split
  · exact rfl
  split
  · exact rfl
  split
  · exact rfl
  split
  · exact confirmImage_core ..
  · exact rfl

theorem postRetry_core (s : State) : CoreKept s (postRetry s) := by
  unfold postRetry
  split
  · exact rfl
  · exact (congrArg BootState.core (boot_postEvent ..)).trans rfl

theorem postLfLoss_core (s : State) : CoreKept s (postLfLoss s) := by
  unfold postLfLoss
  split
  · exact (congrArg BootState.core (boot_postEvent ..)).trans rfl
  · exact rfl

theorem startCold_core (s : State) : CoreKept s (startCold s) := by
  unfold startCold
  extract_lets ps s1 s2
  have h1 : CoreKept s s1 := CoreKept.fold (fun t n => .of_boot ((takeFrontEnd_frame rfl (Frame.refl 0x100 t) n).of .boot rfl)) _ _
  have h2 : CoreKept s s2 := by
    refine h1.trans (CoreKept.fold (fun t n => .of_boot ?_) s1 ps)
    exact (State.set_boot ..).trans ((State.set_boot ..).trans (State.setPath_boot ..))
  split
  · exact h2
  · exact h2

/-! ## The commit -/

theorem applyImage_boot (s : State) (img : List Byte) : (applyImage s img).boot.phase = .running ∧ (applyImage s img).boot.committed = true := by
  unfold applyImage setPhase
  extract_lets l u src v
  rw [State.set_boot]
  exact ⟨rfl, rfl⟩

/-- After the records are applied, the commit leaves the core of the start-up state alone. -/
theorem commitImage_core (s : State) (slot : Nat) (img : List Byte) (fails : List (Nat × Nat)) :
    CoreKept (applyImage s img) (commitImage s slot img fails) := by
  unfold commitImage
  extract_lets skipped applied s1 s2 s3 s4 s5 s6 s7
  have h1 : CoreKept (applyImage s img) s1 := .of_boot ((bootTests_frame rfl (Frame.refl 0x186D75121 _) fails).of .boot rfl)
  have h2 : CoreKept s1 s2 := by
    refine .trans ?_ (.of_boot ((commitSecurity_frame rfl (Frame.refl 0x80300001 _) img).of .boot rfl))
    split
    · exact slotBoots_core ..
    · exact imageInForce_core ..
  have h3 : CoreKept s2 s3 := .of_boot ((adoptEpoch_frame rfl (Frame.refl 0x80868921 _) _ _).of .boot rfl)
  have h4 : CoreKept s3 s4 := by
    show CoreKept s3 (if hjPresent s3.part then s3 else setRole s3 roleSolo 0)
    split
    · exact rfl
    · exact .of_boot ((setRole_frame rfl (Frame.refl 0x80840021 _) _ _).of .boot rfl)
  have h5 : CoreKept s4 s5 := by
    refine .of_boot (((commitReport_frame rfl (Frame.refl 0x80000001 _) ..).of .boot rfl).trans ?_)
    exact ((startCores_frame rfl (Frame.refl 0x1800001 _)).of .boot rfl).trans ((oscCommit_frame rfl (Frame.refl 0x401 _)).of .boot rfl)
  have h6 : CoreKept s5 s6 := by
    refine .of_boot (((postCommitted_frame rfl (Frame.refl 0x80840021 _) ..).of .boot rfl).trans ?_)
    exact (postSkipped_frame rfl (Frame.refl 0x80840021 _) _).of .boot rfl
  have h7 : CoreKept s6 s7 := by
    refine ((postRetry_core s6).trans (postLfLoss_core _)).trans (.of_boot ?_)
    exact ((postWake_frame rfl (Frame.refl 0x90840021 _)).of .boot rfl).trans ((postFallback_frame rfl (Frame.refl 0x88840021 _)).of .boot rfl)
  have h8 : CoreKept s7 (commitLevel (foldState trialBooted s7 [0, 1, 2, 3, 4, 5]) img) :=
    (CoreKept.fold trialBooted_core _ _).trans (.of_boot ((commitLevel_frame rfl (Frame.refl 0x10000001 _) img).of .boot rfl))
  exact (((((((h1.trans h2).trans h3).trans h4).trans h5).trans h6).trans h7).trans h8).trans (startCold_core _)

theorem commitImage_boot (s : State) (slot : Nat) (img : List Byte) (fails : List (Nat × Nat)) :
    (commitImage s slot img fails).boot.phase = .running ∧ (commitImage s slot img fails).boot.committed = true := by
  have h := commitImage_core s slot img fails
  rw [h.phase, h.committed]
  exact applyImage_boot s img

theorem boot_configRejected (s : State) (slot reason offset : Nat) : (configRejected s slot reason offset).boot = s.boot :=
  (configRejected_frame rfl (Frame.refl 0x80840021 s) slot reason offset).of .boot rfl

/-- A rejected configuration from outside the flash: the device waits for another one. -/
theorem configWait_rejected {s : State} (w : Memory.wf s = true) (slot reason offset : Nat) :
    (configWait (configRejected s slot reason offset)).boot.phase = s.boot.phase ∧ (configWait (configRejected s slot reason offset)).boot.comp = 5 ∧
    (configWait (configRejected s slot reason offset)).get R.BOOT_STATUS_PHASE = 9 := by
  have hwf := wf_regs (wf_keeps (configRejected_keeps (Keeps.refl s) slot reason offset) w)
  have hboot : (configRejected s slot reason offset).boot = s.boot :=
    boot_configRejected s slot reason offset
  generalize configRejected s slot reason offset = u at hwf hboot
  refine ⟨?_, ?_, ?_⟩
  · rw [configWait, setPhase, State.set_boot, ← hboot]; rfl
  · rw [configWait, setPhase, State.set_boot]; rfl
  · simp [configWait, setPhase, hwf, R.BOOT_STATUS_PHASE]

/-! ## A component from its slot -/

theorem exec_componentLoadDone {s : State} (hphase : s.boot.phase = .boot) (hflash : s.boot.fromHost = false) (hcomp : s.boot.comp < 5)
    (hprob : s.upd.probation = none) (readOk : Bool) : ∃ img, exec (.componentLoadDone readOk) s =
      .next (if checkSlot s s.boot.comp (slotTried s) readOk = 0 then nextComponent (slotBoots s (slotTried s) img)
        else slotFails s (checkSlot s s.boot.comp (slotTried s) readOk) (componentMissing s.boot.comp)) := by
  have hfall : probationFallback s = s := by simp [probationFallback, hprob]
  have hguard : ¬(s.boot.phase ≠ .boot ∨ s.boot.fromHost = true ∨ 5 ≤ s.boot.comp) := by simp [hphase, hflash, hcomp]
  refine ⟨match slotOf s s.boot.comp (slotTried s) with | none => [] | some e => slotImage s e, ?_⟩
  change execComponentLoadDone readOk s = _
  rw [execComponentLoadDone, if_neg hguard, hfall]
  exact (apply_ite Host.Outcome.next ..).symm

theorem boot_setPhase (s : State) (p : Nat) : (setPhase s p).boot = s.boot := State.set_boot ..

theorem comp_nextComponent (s : State) : (nextComponent s).boot.comp = s.boot.comp + 1 := by
  unfold nextComponent
  extract_lets c src u
  split
  · rfl
  split <;> rw [boot_setPhase] <;> rfl

/-- BOOT_ERROR holds the component and the reason of its first slot. -/
structure ErrorShown (comp first : Nat) (s : State) : Prop where
  wf : cellsWf resetWord s.regs = true
  component : s.get R.BOOT_ERROR_COMPONENT = comp
  reason : s.get R.BOOT_ERROR_FIRST = first

theorem ErrorShown.of_set {comp first : Nat} {s : State} (h : ErrorShown comp first s) {f : Fld} (hf : f.key ≠ R.BOOT_ERROR) (v : Nat) :
    ErrorShown comp first (s.set f v) := by
  refine ⟨by simp [h.wf], ?_, ?_⟩
  · rw [get_eq_word, word_regsWf_set h.wf, if_neg (show R.BOOT_ERROR_COMPONENT.key ≠ f.key from Ne.symm hf)]; exact h.component
  · rw [get_eq_word, word_regsWf_set h.wf, if_neg (show R.BOOT_ERROR_FIRST.key ≠ f.key from Ne.symm hf)]; exact h.reason

theorem ErrorShown.putBoot {comp first : Nat} {s : State} (h : ErrorShown comp first s) (b : BootState) :
    ErrorShown comp first (s.putBoot b) := ⟨h.wf, h.component, h.reason⟩

theorem ErrorShown.imageWait {comp first : Nat} {s : State} (h : ErrorShown comp first s) : ErrorShown comp first (imageWait s) :=
  (h.putBoot { s.boot with fromHost := true }).of_set (f := R.BOOT_STATUS_PHASE) (by decide) 8

theorem ErrorShown.nextComponent {comp first : Nat} {s : State} (h : ErrorShown comp first s) : ErrorShown comp first (nextComponent s) := by
  unfold Machine.nextComponent
  extract_lets c src u
  have hu : ErrorShown comp first u := h.putBoot _
  split
  · exact hu
  split
  · exact hu.of_set (f := R.BOOT_STATUS_PHASE) (by decide) 3
  · exact hu.of_set (f := R.BOOT_STATUS_PHASE) (by decide) 2

theorem errorShown_bootError {s : State} (w : Memory.wf s = true) {comp : Nat} (hcomp : comp < 5) (first second : Nat) :
    ErrorShown comp (first % 256) (bootError s comp first second) := by
  have hsmall : comp % 16 = comp := by omega
  refine ⟨?_, ?_, ?_⟩ <;>
    simp [bootError, wf_regs w, R.BOOT_ERROR_COMPONENT, R.BOOT_ERROR_FIRST, R.BOOT_ERROR_SECOND, hsmall]

theorem errorShown_slotFails {s : State} (w : Memory.wf s = true) (hsecond : s.boot.second = false) (hcomp : s.boot.comp < 5) (reason : Nat) :
    ErrorShown s.boot.comp (reason % 256) (slotFails s reason (componentMissing s.boot.comp)) := by
  have herror := errorShown_bootError w hcomp reason 0
  have hwf : Memory.wf (bootError s s.boot.comp reason 0) = true := wf_set (wf_set (wf_set w _ _) _ _) _ _
  rw [slotFails, if_neg (by rw [hsecond]; decide)]
  dsimp only
  split
  · exact herror.putBoot _
  · unfold componentMissing
    split
    · refine ErrorShown.nextComponent ⟨?_, ?_, ?_⟩
      · exact wf_regs (wf_keeps (postSlotFallback_keeps (Keeps.refl _) ..) hwf)
      · exact (get_postEvent hwf (by decide) _ _ rfl).trans herror.component
      · exact (get_postEvent hwf (by decide) _ _ rfl).trans herror.reason
    · exact herror.imageWait

/-! ## Recovery over the UART -/

theorem checkImage_putRecovery (s : State) (l : List (Nat × Nat)) (comp : Nat) (img : List Byte) (alloc : Nat) :
    checkImage (s.putBoot { s.boot with recovery := l }) comp img alloc = checkImage s comp img alloc := rfl

theorem out_nextComponent (s : State) : (nextComponent s).out = s.out := (nextComponent_frame rfl (Frame.refl 0x3 s)).of .out rfl

theorem nextComponent_recovery (s : State) : (nextComponent s).boot.recovery = s.boot.recovery := by
  unfold nextComponent
  extract_lets c src u
  split
  · rfl
  split <;> exact (congrArg BootState.recovery (boot_setPhase u _)).trans rfl

theorem imageInForce_out (s : State) (comp slot : Nat) (l : List Byte) : (imageInForce s comp slot l).out = s.out :=
  (imageInForce_frame rfl (Frame.refl 0x3 s) comp slot l).of .out rfl

theorem recovery_configWait_rejected (s : State) (slot reason offset : Nat) :
    (configWait (configRejected s slot reason offset)).boot.recovery = s.boot.recovery := by
  have h := boot_configRejected s slot reason offset
  generalize configRejected s slot reason offset = u at h
  rw [configWait, boot_setPhase, ← h]
  rfl

/-- An offered image leaves what was received of the recovery transfer. -/
theorem recovery_offerImage (s : State) (comp : Nat) (img : List Byte) : (offerImage s comp img).1.boot.recovery = s.boot.recovery := by
  unfold offerImage
  split
  · rfl
  dsimp only
  split
  · split
    · exact recovery_configWait_rejected s 2 _ 0
    · rfl
  split
  · rw [State.putUpd_boot, boot_setPhase]; rfl
  · rw [nextComponent_recovery]; exact (imageInForce_core ..).recovery

/-- An image that passes its checks moves the boot on to the next component. -/
theorem offerImage_taken {s : State} {img : List Byte} (h : checkImage s s.boot.comp img 0x00800000 = 0) :
    (offerImage s s.boot.comp img).2 = 0 ∧ (offerImage s s.boot.comp img).1.boot.comp = s.boot.comp + 1 ∧
    (offerImage s s.boot.comp img).1.out = s.out := by
  unfold offerImage
  rw [if_neg (not_not.2 rfl), h]
  dsimp only
  rw [if_neg (not_not.2 rfl)]
  split
  next hconfig =>
    refine ⟨rfl, ?_, rfl⟩
    rw [State.putUpd_boot, boot_setPhase, hconfig]; rfl
  · refine ⟨rfl, ?_, ?_⟩
    · rw [comp_nextComponent, (imageInForce_core ..).comp]
    · rw [out_nextComponent, imageInForce_out]

theorem assocGet_assocDel {α : Type} (l : List (Nat × α)) (k : Nat) : assocGet (assocDel l k) k = none := by
  induction l with
  | nil => rfl
  | cons p l ih =>
    by_cases hp : p.1 = k
    · simpa [assocDel, hp] using ih
    · simpa [assocDel, assocGet, hp] using ih

/-! ## Cold-start calibration -/

theorem exec_coldCalDone_boot {s : State} (w : Memory.wf s = true) {path : Nat} (hpath : path ∈ s.boot.coldPending) (failed : Nat)
    (rx tx analog : List Int) (h0 h1 : Nat) : ∃ t, exec (.coldCalDone path failed rx tx analog h0 h1) s = .next t ∧
      t.boot.coldPending = s.boot.coldPending.filter (fun x => x ≠ path) ∧
      (s.boot.coldPending.filter (fun x => x ≠ path) = [] → t.get R.BOOT_STATUS_PHASE = 5) := by
  have hguard : ¬(!s.boot.coldPending.contains path) = true := by simpa using hpath
  change ∃ t, execColdCalDone path failed rx tx analog h0 h1 s = .next t ∧ _
  rw [execColdCalDone, if_neg hguard]
  extract_lets src s1 s2 src2 s3 s4 s5
  have hkeeps : Keeps s s5 := by
    refine viewTone_keeps (unblankPath_keeps (viewHealth_keeps (postFailedSteps_keeps (State.set_keeps (putMeasured_keeps ?_ ..) ..) ..) _) _) _
    exact State.setPath_keeps (State.set_keeps (State.set_keeps (State.putBoot_keeps (Keeps.refl s) _) _ _) _ _) _ _
  have hboot : s5.boot = s1.boot := by
    have h5 : s5.boot = (unblankPath s4 path).boot := (viewTone_frame rfl (Frame.refl 0x101 _) path).of .boot rfl
    have hu : (unblankPath s4 path).boot = s4.boot := (unblankPath_frame rfl (Frame.refl 0x80840821 _) path).of .boot rfl
    have h4 : s4.boot = (postFailedSteps (s3.set (R.CAL_STATUS_COLD path) 1) path 5 failed).boot :=
      (viewHealth_frame rfl (Frame.refl 0x80840021 _) path).of .boot rfl
    have hp : (postFailedSteps (s3.set (R.CAL_STATUS_COLD path) 1) path 5 failed).boot = (s3.set (R.CAL_STATUS_COLD path) 1).boot :=
      (postFailedSteps_frame rfl (Frame.refl 0x80840021 _) path 5 failed).of .boot rfl
    have h3 : s3.boot = (s2.setPath path { s2.path path with loopback := false }).boot :=
      (putMeasured_frame rfl (Frame.refl 0x101 _) path true rx tx analog h0 h1 failed).of .boot rfl
    rw [h5, hu, h4, hp, State.set_boot, h3, State.setPath_boot, State.set_boot, State.set_boot]
  have hpending : s5.boot.coldPending = s.boot.coldPending.filter (fun x => x ≠ path) := congrArg BootState.coldPending hboot
  refine ⟨_, rfl, ?_, fun hempty => ?_⟩
  · split
    · rw [reachStep8, State.putPair_boot, State.set_boot, hpending]
    · exact hpending
  · rw [if_pos (by rw [hpending, hempty]; rfl), reachStep8, State.putPair_get]
    exact get_set_self (wf_keeps hkeeps w) (by decide) 5

/-! ## Retention refresh -/

theorem page_of_slotOf {s : State} {comp slot : Nat} {e : SlotEntry} (h : slotOf s comp slot = some e) : ∃ a, s.boot.page = some a := by
  cases hpage : s.boot.page with
  | none => simp [slotOf, slotEntries, hpage] at h
  | some a => exact ⟨a, rfl⟩

theorem commitTimes_commitDirectory {s : State} {a : Nat} (hpage : s.boot.page = some a) (hallowed : commitAllowed s = true) (floor : Nat)
    (l : List SlotEntry) (comp slot : Nat) : (commitDirectory s floor l comp slot).1.boot.commitTimes.head? = some s.now := by
  have hnow (t : State) (copy gen : Nat) (p : List Byte) : (writePage t copy gen floor l p).1.now = t.now :=
    (writePage_frame rfl (Frame.refl 0x100000004 t) copy gen floor l p).of .now rfl
  unfold commitDirectory
  rw [if_neg (by rw [hallowed]; decide), hpage]
  simp only
  generalize pageAt s a = p
  generalize (leField p 8 4 + 1) % 2 ^ 32 = gen
  have h0 := hnow s 0 gen p
  generalize writePage s 0 gen floor l p = first at h0 ⊢
  obtain ⟨s0, p0⟩ := first
  have h1 := hnow s0 1 gen p
  simp only at h0 ⊢
  generalize writePage s0 1 gen floor l p = second at h1 ⊢
  obtain ⟨s1, p1⟩ := second
  simp only at h1 ⊢
  rw [boot_wearView, State.putBoot_boot]
  exact congrArg some (h1.trans h0)

theorem boot_programSlot (s : State) (e : SlotEntry) (img : List Byte) : (programSlot s e img).boot = s.boot := rfl

theorem boot_postRefresh (s : State) (comp slot stamp : Nat) : (postRefresh s comp slot stamp).boot = s.boot := boot_postEvent ..

/-- The image of the active slot goes to the other slot, and the directory follows a copy that verifies. -/
theorem refreshSlot_boot {s : State} {bad : List Nat} {comp : Nat} {e o : SlotEntry} (he : slotOf s comp (firstSlot s comp) = some e)
    (ho : slotOf s comp (1 - firstSlot s comp) = some o) (hactive : e.active = true) (hvalid : e.state = slotValid)
    (hdue : stampDue s e.stamp = true) (hplaced : wellPlaced s e = true) (hother : wellPlaced s o = true) (hlen : e.length ≤ o.size)
    (hidle : updState s = updIdle) (hcommit : commitAllowed s = true) (hwrite : slotWriteAllowed s comp (1 - firstSlot s comp) = true) :
    (refreshSlot bad s comp).boot.slotWrites.head? = some (comp * 2 + (1 - firstSlot s comp), s.now) ∧
      (¬bad.contains comp → copyVerifies (countSlotWrite (programSlot s o (flashAt s.flash e.offset e.length)) comp (1 - firstSlot s comp))
          comp { o with length := e.length } = true → (refreshSlot bad s comp).boot.commitTimes.head? = some s.now) := by
  obtain ⟨a, hpage⟩ := page_of_slotOf he
  have hguard : ¬(!e.active || decide (e.state ≠ slotValid) || !stampDue s e.stamp || !wellPlaced s e || !wellPlaced s o ||
      decide (o.size < e.length) || (decide (updState s ≠ updIdle) && decide (updComp s = comp))) = true := by
    simp [hactive, hvalid, hdue, hplaced, hother, hidle, Nat.not_lt.2 hlen]
  unfold refreshSlot
  simp only [he, ho]
  rw [if_neg hguard, if_neg (by rw [hcommit]; decide), if_neg (by rw [hwrite]; decide)]
  generalize ht : countSlotWrite (programSlot s o (flashAt s.flash e.offset e.length)) comp (1 - firstSlot s comp) = t
  have hslots : t.boot.slotWrites.head? = some (comp * 2 + (1 - firstSlot s comp), s.now) := by rw [← ht]; rfl
  have htpage : t.boot.page = some a := by rw [← ht]; exact hpage
  have htnow : t.now = s.now := by rw [← ht]; rfl
  have htcommit : commitAllowed t = true := by rw [← ht]; exact hcommit
  split
  next hbad =>
    refine ⟨hslots, fun hnot hverifies => absurd hbad ?_⟩
    rw [hverifies]
    simpa using hnot
  · refine ⟨?_, fun _ _ => ?_⟩
    · rw [boot_postRefresh, (commitDirectory_core ..).slotWrites]
      exact hslots
    · rw [boot_postRefresh, ← htnow]
      exact commitTimes_commitDirectory htpage htcommit ..

/-- Settles O4: the commit leaves the phase that the applied records set; the others follow the slot, the frame or the path. -/
theorem bootRowsComplete : Obligations.BootRowsComplete := by
  intro s w
  refine ⟨?component, ?config, ?chunk, ?offered, ?cold, ?refresh, ?slot⟩
  case component =>
    intro readOk hphase hflash hcomp hprob hsecond
    obtain ⟨img, h⟩ := exec_componentLoadDone hphase hflash hcomp hprob readOk
    refine ⟨_, h, fun hgood => ?_, fun hbad => ?_⟩
    · rw [if_pos hgood, comp_nextComponent, (slotBoots_core ..).comp]
    · rw [if_neg hbad]
      have hshown := errorShown_slotFails w hsecond hcomp (checkSlot s s.boot.comp (slotTried s) readOk)
      exact ⟨hshown.component, hshown.reason⟩
  case config =>
    intro readOk fails hphase hcomp
    have h : exec (.configImageRead readOk fails) s = .next (configFromHost s fails) := by
      change execConfigImageRead readOk fails s = _
      simp [execConfigImageRead, hphase, hcomp]
    refine ⟨_, h, fun hgood => ?_, fun hbad => ?_⟩
    · rw [configFromHost, if_pos hgood]
      exact commitImage_boot ..
    · rw [configFromHost, if_neg hbad]
      obtain ⟨h1, h2, h3⟩ := configWait_rejected w 2 (validateImage s s.upd.image).1 (validateImage s s.upd.image).2
      exact ⟨h1.trans hphase, h2, h3⟩
  case chunk =>
    intro frame p hloads hp hlen horder hfits
    have hguard : ¬(p.length < 8 ∨ chunkInOrder s (leField p 0 1) (leField p 4 4) = false) := by simp [hlen, horder]
    have h : exec (.recoveryChunk frame) s = .next (recoveryAck ((s.putWindow (setBytes s.window (leField p 4 4) (p.drop 8))).putBoot
        { s.boot with recovery := assocSet s.boot.recovery (leField p 0 1) (leField p 4 4 + 1) })) := by
      change execRecoveryChunk frame s = _
      rw [execRecoveryChunk, if_neg (by rw [hloads]; decide), hp]
      dsimp only
      rw [if_neg hguard, if_neg (Nat.not_lt.2 hfits)]
      rfl
    exact ⟨_, h, rfl, assocGet_assocSet_self .., rfl, rfl⟩
  case offered =>
    intro frame p hloads hp hlen
    generalize hu : s.putBoot { s.boot with recovery := assocDel s.boot.recovery (leField p 0 1) } = u
    have hucomp : u.boot.comp = s.boot.comp := by rw [← hu]; rfl
    have huout : u.out = s.out := by rw [← hu]; rfl
    have hurecovery : assocGet u.boot.recovery (leField p 0 1) = none := by rw [← hu]; exact assocGet_assocDel ..
    have hucheck (comp : Nat) (img : List Byte) : checkImage u comp img 0x00800000 = checkImage s comp img 0x00800000 := by
      rw [← hu]; exact checkImage_putRecovery ..
    have hwindow : windowImage u = windowImage s := by rw [← hu]; rfl
    have h : exec (.recoveryComponentDone frame) s = .next (if (offerImage u (leField p 0 1) (windowImage u)).2 = 0 then
        recoveryAck (offerImage u (leField p 0 1) (windowImage u)).1
        else recoveryNak (offerImage u (leField p 0 1) (windowImage u)).1 (offerImage u (leField p 0 1) (windowImage u)).2) := by
      change execRecoveryComponentDone frame s = _
      rw [execRecoveryComponentDone, if_neg (by rw [hloads]; decide), hp]
      dsimp only
      rw [if_neg (not_not.2 hlen), hu]
    refine ⟨_, h, fun hne => ?_, fun heq hgood => ?_, ?_⟩
    · have hoffer : offerImage u (leField p 0 1) (windowImage u) = (u, 0x01) := by rw [offerImage, if_pos (by rwa [hucomp])]
      rw [hoffer, if_neg (show ¬(0x01 : Nat) = 0 by decide)]
      exact ⟨congrArg (_ :: ·) huout, hucomp⟩
    · obtain ⟨hok, hnext, hout⟩ := offerImage_taken (s := u) (img := windowImage u) (by rw [hucheck, hucomp, hwindow, hgood])
      rw [heq, ← hucomp, if_pos hok]
      exact ⟨congrArg (_ :: ·) (hout.trans huout), hnext⟩
    · rw [apply_ite State.boot]
      exact (congrArg (fun b : BootState => assocGet b.recovery (leField p 0 1)) (ite_self _)).trans
        ((congrArg (assocGet · (leField p 0 1)) (recovery_offerImage ..)).trans hurecovery)
  case cold => exact fun path failed rx tx analog h0 h1 hpath => exec_coldCalDone_boot w hpath failed rx tx analog h0 h1
  case refresh =>
    intro bad hrun hcal hprob
    exact if_pos (by simp [hrun, hcal, hprob])
  case slot =>
    exact fun bad comp e o he ho hactive hvalid hdue hplaced hother hlen hidle hcommit hwrite =>
      refreshSlot_boot he ho hactive hvalid hdue hplaced hother hlen hidle hcommit hwrite

end Sys2Proof.Machine
end

section
/-!
The low-frequency clock, the runtime-tunable window and the failure record (R101, R107, R109): the rows of O5.
-/

namespace Sys2Proof.Machine

/-! ## What an event and the latched failure leave alone -/

theorem pwr_postEvent (s : State) (code : Nat) (fields : List (Nat × Nat × Nat)) : (postEvent code fields s).pwr = s.pwr :=
  (postEvent_frame rfl (Frame.refl 0x80840021 s) code fields).of .pwr rfl

theorem boot_latchFail (s : State) (phase code : Nat) : (latchFail s phase code).boot = s.boot :=
  (latchFail_frame rfl (Frame.refl 0x1 s) phase code).of .boot rfl

/-! ## The low-frequency clock -/

/-- The state in which a measurement is accepted, before its event. -/
def lfAccept (s : State) : State :=
  let s := (s.putPwr { s.pwr with aonLf := true }).set R.BOOT_STATUS_AON_SRC 0
  s.putBoot { s.boot with lfMeasuring := false, lfAccepted := true, lfFallen := false }

theorem lfAccept_keeps (s : State) : Keeps s (lfAccept s) :=
  State.putBoot_keeps (State.set_keeps (State.putPwr_keeps (Keeps.refl s) _) _ _) _

theorem exec_lfclkMeasureDone_good {s : State} {cycles : Nat} (hs : powered s = true) (hmeasuring : s.boot.lfMeasuring = true) (hne : cycles ≠ 0)
    (hgood : lfGood cycles = true) : exec (.lfclkMeasureDone cycles) s = .next (if s.boot.lfFallen then
      postEvent 0x0107 [(0, 4, sfield 4 (realDiv 51 ((312500 - (cycles : Int)) * 100000000) cycles))] (lfAccept s) else lfAccept s) := by
  change execLfclkMeasureDone cycles s = _
  rw [execLfclkMeasureDone, if_neg (by simp [hs, hmeasuring]), if_pos ⟨hne, hgood⟩]
  rfl

theorem lfclkMeasureDone_row {s : State} (w : Memory.wf s = true) {cycles : Nat} (hs : powered s = true) (hmeasuring : s.boot.lfMeasuring = true)
    (hne : cycles ≠ 0) (hgood : lfGood cycles = true) : ∃ t, exec (.lfclkMeasureDone cycles) s = .next t ∧ t.pwr.aonLf = true ∧
      t.boot.lfAccepted = true ∧ t.boot.lfMeasuring = false ∧ t.get R.BOOT_STATUS_AON_SRC = 0 := by
  have hsrc : (lfAccept s).get R.BOOT_STATUS_AON_SRC = 0 :=
    get_set_self (wf_keeps (State.putPwr_keeps (Keeps.refl s) _) w) (by decide) 0
  refine ⟨_, exec_lfclkMeasureDone_good hs hmeasuring hne hgood, ?_⟩
  split
  · rw [pwr_postEvent, boot_postEvent, get_postEvent (wf_keeps (lfAccept_keeps s) w) (by decide) _ _ rfl]
    exact ⟨rfl, rfl, rfl, hsrc⟩
  · exact ⟨rfl, rfl, rfl, hsrc⟩

/-- The state in which the loss of the clock is recorded, before its event. -/
def lfLost (s : State) : State :=
  let s := latchFail s (s.get R.BOOT_STATUS_PHASE) 6
  let s := (s.putPwr { s.pwr with aonLf := false }).set R.BOOT_STATUS_AON_SRC 1
  s.putBoot { s.boot with lfFallen := true, lfAccepted := false, lfMeasuring := false }

theorem lfLost_keeps (s : State) : Keeps s (lfLost s) :=
  State.putBoot_keeps (State.set_keeps (State.putPwr_keeps (latchFail_keeps (Keeps.refl s) _ _) _) _ _) _

theorem exec_lfclkEdgeLoss_on {s : State} (hlf : s.pwr.aonLf = true) : exec .lfclkEdgeLoss s = .next (if powered (lfLost s) then
    postEvent 0x0106 [(0, 1, 1)] (lfLost s) else (lfLost s).putBoot { (lfLost s).boot with lfPost := true }) := by
  change execLfclkEdgeLoss s = _
  rw [execLfclkEdgeLoss, if_neg (by simp [hlf])]
  rfl

theorem lfclkEdgeLoss_row {s : State} (w : Memory.wf s = true) (hlf : s.pwr.aonLf = true) : ∃ t, exec .lfclkEdgeLoss s = .next t ∧
    t.pwr.aonLf = false ∧ t.boot.lfFallen = true ∧ t.get R.BOOT_STATUS_AON_SRC = 1 := by
  have hsrc : (lfLost s).get R.BOOT_STATUS_AON_SRC = 1 :=
    get_set_self (wf_keeps (State.putPwr_keeps (latchFail_keeps (Keeps.refl s) _ _) _) w) (by decide) 1
  refine ⟨_, exec_lfclkEdgeLoss_on hlf, ?_⟩
  split
  · rw [pwr_postEvent, boot_postEvent, get_postEvent (wf_keeps (lfLost_keeps s) w) (by decide) _ _ rfl]
    exact ⟨rfl, rfl, hsrc⟩
  · exact ⟨rfl, rfl, hsrc⟩

/-! ## The window -/

theorem writtenOf_nil {key : Nat} {reg : Nat → Nat} {n : Nat} (h : ∀ i < n, reg i ≠ key) : writtenOf [key] reg n = [] := by
  simp only [writtenOf, List.filter_eq_nil_iff, List.mem_range]
  exact fun i hi => by simp [h i hi]

/-- The registers that follow the converter links and the tracker's enable. -/
theorem word_viewJesd {s : State} (w : Memory.wf s = true) {key : Nat} (hrx : key ≠ R.JESD_RX_LINK) (htx : key ≠ R.JESD_TX_LINK) :
    (viewJesd s).word key = s.word key := by
  have h := wf_regs w
  simp [viewJesd, h, R.JESD_RX_LINK_M, R.JESD_RX_LINK_F, R.JESD_TX_LINK_M, R.JESD_TX_LINK_F, hrx, htx]

/-- A value written to the scheduling block brings along nothing but the computed fields of other blocks. -/
theorem word_configTaken {s : State} (w : Memory.wf s = true) {target key : Nat} (hlo : 0x03300000 ≤ target) (hhi : target < 0x03310000)
    (hrx : key ≠ R.JESD_RX_LINK) (htx : key ≠ R.JESD_TX_LINK) (htrack : key ≠ R.TRACK_STATUS) :
    (configTaken s [target]).word key = s.word key := by
  have hfe : writtenOf [target] R.FE_CTRL 16 = [] := writtenOf_nil fun i hi => by simp only [R.FE_CTRL]; omega
  have hce : writtenOf [target] R.CE_CFG 512 = [] := writtenOf_nil fun i hi => by simp only [R.CE_CFG]; omega
  have htso : writtenOf [target] R.TSO_CTRL 4 = [] := writtenOf_nil fun i hi => by simp only [R.TSO_CTRL]; omega
  have heth : writtenOf [target] R.ETH_CTRL 2 = [] := writtenOf_nil fun i hi => by simp only [R.ETH_CTRL]; omega
  have hgpio : [target].contains R.GPIO_OUT = false := by simp [R.GPIO_OUT]; omega
  have hguards (u : State) : takeGuards u [target] = u := if_neg (by simp [R.DRIFT_CFG, R.DRIFT_RAMP, R.DRIFT_GUARD]; omega)
  unfold configTaken
  simp only [hfe, hce, htso, heth, foldState, List.foldl_nil, hguards, hgpio, Bool.false_eq_true, if_false]
  have hstate (v : Nat) : (s.set R.TRACK_STATUS_STATE v).word key = s.word key := word_set_of_ne w htrack v
  have hview (u : State) (hu : Memory.wf u = true) : (if jesdPresent u.part then viewJesd u else u).word key = u.word key := by
    split
    · exact word_viewJesd hu hrx htx
    · rfl
  split
  · rw [hview _ (wf_set w _ _), hstate]
  split
  · rw [hview _ (wf_set w _ _), hstate]
  · exact hview s w

theorem word_noteSchedule (s : State) (key k : Nat) : (noteSchedule s key).word k = s.word k := by
  unfold noteSchedule
  split <;> rfl

theorem rtwDataWrite_row {s : State} (w : Memory.wf s = true) {q : Requester} (v : Nat) (hs : powered s = true) (hq : q = .host ∨ q = .app)
    {key : Nat} (hkey : 4 * s.get (R.RTW_ADDR_OFFSET q.bank) = key) (hlo : 0x03300000 ≤ key) (hhi : key < 0x03310000)
    (hr : windowResult s key v = 0) : ∃ t, exec (.rtwDataWrite q v) s = .next t ∧ t.get (R.RTW_STATUS_RESULT q.bank) = 0 ∧
      t.word key = mergeWord key (s.word key) (v % 2 ^ 32) := by
  have hstatus : R.RTW_STATUS q.bank ≠ key := by
    rcases hq with rfl | rfl <;> simp only [R.RTW_STATUS, Requester.bank] <;> omega
  have hu := wf_set w (R.RTW_STATUS_RESULT q.bank) 0
  have hput : putValues (s.set (R.RTW_STATUS_RESULT q.bank) 0) [(key, v % 2 ^ 32)] =
      putConfig (s.set (R.RTW_STATUS_RESULT q.bank) 0) key (v % 2 ^ 32) :=
    if_neg (fun hinfra => by simp only [R.INFRA_ENT] at hinfra; omega)
  have hexec : exec (.rtwDataWrite q v) s =
      .next (noteSchedule (configTaken (putConfig (s.set (R.RTW_STATUS_RESULT q.bank) 0) key (v % 2 ^ 32)) [key]) key) := by
    have hmay : ¬(q ≠ Requester.host ∧ q ≠ Requester.app) := fun ⟨hhost, happ⟩ => hq.elim hhost happ
    change execRtwDataWrite q v s = _
    simp only [execRtwDataWrite, hs, hmay, hkey, hr, ← hput, Bool.not_true, Bool.false_or, decide_false, Bool.false_eq_true, if_false, if_true, done]
  have hword (k : Nat) (hrx : k ≠ R.JESD_RX_LINK) (htx : k ≠ R.JESD_TX_LINK) (htrack : k ≠ R.TRACK_STATUS) :
      (noteSchedule (configTaken (putConfig (s.set (R.RTW_STATUS_RESULT q.bank) 0) key (v % 2 ^ 32)) [key]) key).word k =
        (putConfig (s.set (R.RTW_STATUS_RESULT q.bank) 0) key (v % 2 ^ 32)).word k := by
    rw [word_noteSchedule, word_configTaken (wf_keeps (State.setWord_keeps (Keeps.refl _) _ _) hu : Memory.wf (putConfig _ key _) = true)
      hlo hhi hrx htx htrack]
  refine ⟨_, hexec, ?_, ?_⟩
  · have hbank : (R.RTW_STATUS_RESULT q.bank).key ≠ R.JESD_RX_LINK ∧ (R.RTW_STATUS_RESULT q.bank).key ≠ R.JESD_TX_LINK ∧
        (R.RTW_STATUS_RESULT q.bank).key ≠ R.TRACK_STATUS := by rcases hq with rfl | rfl <;> decide
    rw [get_eq_word, hword _ hbank.1 hbank.2.1 hbank.2.2, putConfig, ← get_eq_word, get_setWord_key hu hstatus,
      get_set_self w (fits_rtwStatusResult _)]
    rfl
  · rw [hword key (by simp only [R.JESD_RX_LINK]; omega) (by simp only [R.JESD_TX_LINK]; omega) (by simp only [R.TRACK_STATUS]; omega),
      putConfig, word_setWord hu, if_pos rfl, word_set_of_ne w (Ne.symm hstatus)]

/-- Settles O5: the clock's rows end in the two states above with or without their event, the window's in a word of the configuration or
in `rtwDenied`. -/
theorem clockAndWindowRowsComplete : Obligations.ClockAndWindowRowsComplete := by
  intro s w
  refine ⟨?measure, ?timeout, ?again, ?loss, ?write, ?denied, ?clear⟩
  case measure => exact fun cycles hs hm hne hgood => lfclkMeasureDone_row w hs hm hne hgood
  case timeout =>
    intro hs haccepted hfallen
    refine ⟨_, if_neg (by simp [hs, haccepted, hfallen]), ?_⟩
    rw [boot_postEvent]
    exact ⟨rfl, rfl⟩
  case again => exact fun hs hfallen => ⟨_, congrArg Host.Outcome.next (if_pos (by simp [hs, hfallen])), rfl⟩
  case loss => exact fun hlf => lfclkEdgeLoss_row w hlf
  case write => exact fun q v hs hq hlo hhi hr => rtwDataWrite_row w v hs hq rfl hlo hhi hr
  case denied =>
    intro q v hs hq hne
    exact ⟨_, exec_rtwDataWrite_denied hs hq rfl hne, get_rtwDenied_result w q _, get_rtwDenied_count w q _⟩
  case clear =>
    intro hs
    refine ⟨_, congrArg Host.Outcome.next (if_pos hs), ?_⟩
    simp [wf_regs w, R.AON_FAIL_COUNT, R.AON_FAIL_PHASE, R.AON_FAIL_CODE]

end Sys2Proof.Machine
end

section
/-!
Operations that leave one register alone: the relation that the rows of the larger operations read their fields through.
-/

namespace Sys2Proof.Machine

/-- The register at `key` stays, and so does what `Keeps` says. -/
structure Leaves (key : Nat) (s0 s : State) : Prop where
  keeps : Keeps s0 s
  word : Memory.wf s0 = true → s.word key = s0.word key

namespace Leaves

variable {key : Nat} {s0 s t : State}

theorem refl (key : Nat) (s : State) : Leaves key s s := ⟨Keeps.refl s, fun _ => rfl⟩

theorem trans (h : Leaves key s0 s) (k : Leaves key s t) : Leaves key s0 t :=
  ⟨h.keeps.trans k.keeps, fun w => (k.word (h.keeps.wf w)).trans (h.word w)⟩

/-- The register file is untouched. -/
theorem same (h : Leaves key s0 s) (k : Keeps s t) (r : t.regs = s.regs) : Leaves key s0 t :=
  h.trans ⟨k, fun _ => by rw [State.word, r]; rfl⟩

theorem quiet (h : Leaves key s0 s) (k : Quiet s t) (n : noisy key = false) : Leaves key s0 t := h.trans ⟨k.keeps, fun w => k.of w key n⟩

theorem set (h : Leaves key s0 s) (f : Fld) (v : Nat) (hf : f.key ≠ key) : Leaves key s0 (s.set f v) :=
  h.trans ⟨State.set_keeps (Keeps.refl s) f v, fun w => word_set_of_ne w hf.symm v⟩

theorem bump (h : Leaves key s0 s) (f : Fld) (hf : f.key ≠ key) : Leaves key s0 (s.bump f) := h.set f _ hf

theorem bumpBy (h : Leaves key s0 s) (f : Fld) (n : Nat) (hf : f.key ≠ key) : Leaves key s0 (s.bumpBy f n) := h.set f _ hf

theorem setBit (h : Leaves key s0 s) (f : Fld) (b : Bool) (hf : f.key ≠ key) : Leaves key s0 (s.setBit f b) := h.set f _ hf

theorem setWord (h : Leaves key s0 s) (k : Nat) (x : Word) (hk : k ≠ key) : Leaves key s0 (s.setWord k x) :=
  h.trans ⟨State.setWord_keeps (Keeps.refl s) k x, fun w => (word_setWord w k x key).trans (if_neg hk.symm)⟩

theorem ite {a b : State} {c : Prop} [Decidable c] (ha : Leaves key s0 a) (hb : Leaves key s0 b) : Leaves key s0 (if c then a else b) := by
  split
  · exact ha
  · exact hb

theorem ite_fst {α : Type} {a b : State × α} {c : Prop} [Decidable c] (ha : Leaves key s0 a.1) (hb : Leaves key s0 b.1) :
    Leaves key s0 (if c then a else b).1 := by
  split
  · exact ha
  · exact hb

theorem fold {α : Type} {f : State → α → State} {l : List α} (h : Leaves key s0 s) (hf : ∀ u x, x ∈ l → Leaves key s0 u → Leaves key s0 (f u x)) :
    Leaves key s0 (foldState f s l) := by
  induction l generalizing s with
  | nil => exact h
  | cons x l ih => exact ih (hf s x (List.mem_cons_self ..) h) fun u y hy => hf u y (List.mem_cons_of_mem _ hy)

theorem get {f : Fld} (h : Leaves f.key s0 s) (w : Memory.wf s0 = true) : s.get f = s0.get f := by rw [get_eq_word, get_eq_word, h.word w]

theorem bit {f : Fld} (h : Leaves f.key s0 s) (w : Memory.wf s0 = true) : s.bit f = s0.bit f := by rw [bit_eq_get, bit_eq_get, h.get w]

theorem postEvent (h : Leaves key s0 s) {code : Nat} (hc : code < 65536) (fields : List (Nat × Nat × Nat)) (n : noisy key = false) :
    Leaves key s0 (Machine.postEvent code fields s) := h.quiet (postEvent_quiet (Quiet.refl s) hc fields) n

theorem setPath (h : Leaves key s0 s) (n : Nat) (x : PathState) : Leaves key s0 (s.setPath n x) :=
  h.same (State.setPath_keeps (Keeps.refl s) n x) rfl

end Leaves

end Sys2Proof.Machine
end

section
/-!
Synthesizers and transmit intervals (R119 to R129): the rows of O6.
-/

namespace Sys2Proof.Machine

/-! ## The state of a path -/

theorem path_setPath_self (s : State) (n : Nat) (p : PathState) : (s.setPath n p).path n = p := by
  rw [State.path, State.setPath, assocGet_assocSet_self]; rfl

theorem path_setPath_of_ne (s : State) {n m : Nat} (hne : m ≠ n) (p : PathState) : (s.setPath n p).path m = s.path m := by
  rw [State.path, State.setPath, assocGet_assocSet_of_ne hne]; rfl

theorem path_of_paths {s t : State} (h : t.paths = s.paths) (n : Nat) : t.path n = s.path n := by rw [State.path, h]; rfl

theorem paths_unblankPath (s : State) (n : Nat) : (unblankPath s n).paths = s.paths :=
  (unblankPath_frame rfl (Frame.refl 0x80840821 s) n).of .paths rfl

theorem paths_postEvent (s : State) (code : Nat) (fields : List (Nat × Nat × Nat)) : (postEvent code fields s).paths = s.paths :=
  (postEvent_frame rfl (Frame.refl 0x80840021 s) code fields).of .paths rfl

/-! ## The interval of a path -/

theorem interval_bumpTrx (s : State) (n : Nat) (f : Fld) : ((bumpTrx s n f).path n).interval = (s.path n).interval := by
  unfold bumpTrx
  split
  · rfl
  · rw [path_setPath_self]

theorem interval_sliceWaits (s : State) (n : Nat) : ((sliceWaits s n).path n).interval = (s.path n).interval := by
  unfold sliceWaits
  cases (s.path n).request with
  | none => rfl
  | some r =>
    dsimp only
    split
    · rfl
    · rw [calResult, State.set_path, State.set_path, path_setPath_self]

theorem interval_resumeSlice (s : State) (n : Nat) : ((resumeSlice s n).path n).interval = (s.path n).interval := by
  unfold resumeSlice
  split
  · exact interval_sliceWaits s n
  · rfl

theorem interval_viewTone (s : State) (n : Nat) : ((viewTone s n).path n).interval = (s.path n).interval := by
  unfold viewTone
  split
  · rw [State.setBit, State.set_path, path_setPath_self]
  · rfl

theorem interval_frontEndReceive (s : State) (n : Nat) : ((frontEndReceive s n).path n).interval = (s.path n).interval := by
  rw [frontEndReceive, path_setPath_self]

theorem interval_unblankPath (s : State) (n : Nat) : ((unblankPath s n).path n).interval = (s.path n).interval := by
  rw [path_of_paths (paths_unblankPath s n)]

theorem interval_dropInterval {s : State} {n : Nat} {i : TxInterval} (h : (s.path n).interval = some i) (status : Nat) :
    ((dropInterval s n status).path n).interval = none := by
  rw [dropInterval, h]
  dsimp only
  rw [interval_frontEndReceive, path_setPath_self]

/-! ## The ramp of an interval -/

/-- The path has an interval with this antenna and this analog entry. -/
def IntervalWith (n antenna analog : Nat) (s : State) : Prop := ∃ i, (s.path n).interval = some i ∧ i.antenna = antenna ∧ i.analog = analog

theorem intervalWith_setPath {n antenna analog : Nat} {i : TxInterval} {p : PathState} (hp : p.interval = some i) (ha : i.antenna = antenna)
    (hg : i.analog = analog) (s : State) : IntervalWith n antenna analog (s.setPath n p) :=
  ⟨i, by rw [path_setPath_self, hp], ha, hg⟩

theorem IntervalWith.of_paths {n antenna analog : Nat} {s t : State} (h : IntervalWith n antenna analog s) (hp : t.paths = s.paths) :
    IntervalWith n antenna analog t := by
  obtain ⟨i, hi, ha⟩ := h
  exact ⟨i, by rw [path_of_paths hp, hi], ha⟩

theorem IntervalWith.fold {α : Type} {n antenna analog : Nat} {f : State → α → State} {l : List α} {s : State}
    (h : IntervalWith n antenna analog s) (hf : ∀ t x, IntervalWith n antenna analog t → IntervalWith n antenna analog (f t x)) :
    IntervalWith n antenna analog (foldState f s l) := by
  induction l generalizing s with
  | nil => exact h
  | cons x l ih => exact ih (hf s x h)

theorem paths_issueFrame (s : State) (h : Nat) : (issueFrame s h).1.paths = s.paths :=
  (issueFrame_frame rfl (Frame.refl 0x18697A021 s) h).of .paths rfl

theorem paths_engineEmpty (s : State) (e : Nat) : (engineEmpty s e).paths = s.paths :=
  (engineEmpty_frame rfl (Frame.refl 0x80041001 s) e).of .paths rfl

theorem rampInterval_intervalWith {s : State} {n antenna analog : Nat} (h : IntervalWith n antenna analog s) (late : Nat) :
    IntervalWith n antenna analog (rampInterval s n late) := by
  obtain ⟨i, hi, ha, hg⟩ := h
  unfold rampInterval
  rw [hi]
  dsimp only
  refine IntervalWith.fold (intervalWith_setPath rfl (by exact ha) (by exact hg) _) fun t f ht => ?_
  have hissue := ht.of_paths (paths_issueFrame t f.2)
  split
  · exact hissue.of_paths rfl
  · obtain ⟨j, hj, hja, hjg⟩ := hissue.of_paths (paths_engineEmpty _ f.1)
    rw [hj]
    exact intervalWith_setPath rfl (by exact hja) (by exact hjg) _

theorem startWaiting_intervalWith {s : State} {n antenna analog : Nat} (h : IntervalWith n antenna analog s) :
    IntervalWith n antenna analog (startWaiting s n) := by
  have hramp (late : Nat) := rampInterval_intervalWith h late
  obtain ⟨i, hi, -⟩ := id h
  unfold startWaiting
  rw [hi]
  dsimp only
  split
  · exact h
  · cases rampMoment s n i.frames with
    | none => exact h
    | some at_ => exact hramp _

/-! ## The rows -/

section
variable {s : State} {n : Nat}

theorem exec_synthLockAcquired {s : State} {n : Nat} (hrun : synthRuns s n = true) (hlock : s.bit (R.SYNTH_STATUS_LOCK n) = false)
    (hoos : s.bit (R.SYNTH_STATUS_OOS n) = false) : exec (.synthLockAcquired n) s =
      .next (unblankPath (startWaiting ((((s.set (R.SYNTH_STATUS_LOCK n) 1).set (R.SYNTH_STATUS_RETUNE n) 0).set
        (R.SYNTH_STATUS_OOS n) 0).setPath n { s.path n with restarted := false }) n) n) := by
  change execSynthLockAcquired n s = _
  rw [execSynthLockAcquired, if_neg (by simp [hrun, hlock])]
  simp [hoos]

theorem lt_of_synthRuns (h : synthRuns s n = true) : n < 16 := by
  simp only [synthRuns, Bool.and_eq_true, decide_eq_true_eq] at h
  exact h.1.2

theorem exec_synthLockLoss_quiet (hrun : synthRuns s n = true) (hlock : s.bit (R.SYNTH_STATUS_LOCK n) = true)
    (hquiet : ∀ i, (s.path n).interval = some i → i.ramped = false) : exec (.synthLockLoss n) s =
      .next (blankPath ((s.set (R.SYNTH_STATUS_LOCK n) 0).bump (R.CNT_SYNTH_UNLOCK n)) n (R.CNT_RX_RX_UNLOCK n)) := by
  change execSynthLockLoss n s = _
  rw [execSynthLockLoss, if_neg (by simp [hrun, hlock])]
  dsimp only
  rw [State.bump, State.bumpBy, State.set_path, State.set_path]
  cases hi : (s.path n).interval with
  | none => rfl
  | some i =>
    dsimp only
    rw [if_neg (by simp [hquiet i hi])]

theorem exec_synthLockLoss_ramped (hrun : synthRuns s n = true) (hlock : s.bit (R.SYNTH_STATUS_LOCK n) = true) {i : TxInterval}
    (hi : (s.path n).interval = some i) (hramped : i.ramped = true) : exec (.synthLockLoss n) s =
      .next (blankPath (abortInterval ((s.set (R.SYNTH_STATUS_LOCK n) 0).bump (R.CNT_SYNTH_UNLOCK n)) n 0) n (R.CNT_RX_RX_UNLOCK n)) := by
  change execSynthLockLoss n s = _
  rw [execSynthLockLoss, if_neg (by simp [hrun, hlock])]
  dsimp only
  rw [State.bump, State.bumpBy, State.set_path, State.set_path, hi]
  dsimp only
  rw [if_pos hramped]

theorem lockTimeout_row (w : Memory.wf s = true) (hrun : synthRuns s n = true) (hlock : s.bit (R.SYNTH_STATUS_LOCK n) = false)
    (hretune : s.bit (R.SYNTH_STATUS_RETUNE n) = true) (hrestarted : (s.path n).restarted = true) (hoos : s.bit (R.SYNTH_STATUS_OOS n) = false) :
    ∃ t, exec (.lockTimeout n) s = .next t ∧ t.get (R.SYNTH_STATUS_OOS n) = 1 ∧ t.get (R.SYNTH_STATUS_RETUNE n) = 0 ∧
      (t.path n).oosSince = s.now ∧
      t.get (R.CNT_SYNTH_LOCK_FAIL n) = min (2 ^ (R.CNT_SYNTH_LOCK_FAIL n).width - 1) (s.get (R.CNT_SYNTH_LOCK_FAIL n) + 1) := by
  have hn := lt_of_synthRuns hrun
  have hoos0 : (s.set (R.SYNTH_STATUS_RETUNE n) 0).bit (R.SYNTH_STATUS_OOS n) = false := by
    rw [← hoos]
    simp [wf_regs w, R.SYNTH_STATUS_RETUNE, R.SYNTH_STATUS_OOS]
  generalize ht : (((s.set (R.SYNTH_STATUS_RETUNE n) 0).set (R.SYNTH_STATUS_OOS n) 1).setPath n
    { s.path n with oosSince := s.now }).bump (R.CNT_SYNTH_LOCK_FAIL n) = t
  have hexec : exec (.lockTimeout n) s = .next (postEvent 0x0203 [(0, 1, n), (4, 4,
      windowCentre (((s.set (R.SYNTH_STATUS_RETUNE n) 0).set (R.SYNTH_STATUS_OOS n) 1).setPath n { s.path n with oosSince := s.now }) n)] t) := by
    change execLockTimeout n s = _
    rw [execLockTimeout, if_neg (by simp [hrun, hlock, hretune]), if_neg (by simp [hrestarted])]
    dsimp only
    rw [if_neg (by simp [hoos0]), ← ht]
    rfl
  have hwf : Memory.wf t = true := by rw [← ht]; exact wf_bump (wf_keeps (State.setPath_keeps (Keeps.refl _) _ _) (wf_set (wf_set w _ _) _ _)) _
  have hquiet (k : Nat) (hk : k = R.SYNTH_STATUS n ∨ k = R.CNT_SYNTH n) : noisy k = false := by
    simp only [noisy, Bool.or_eq_false_iff, Bool.and_eq_false_iff, decide_eq_false_iff_not, R.SYNTH_STATUS, R.CNT_SYNTH] at hk ⊢
    omega
  refine ⟨_, hexec, ?_, ?_, ?_, ?_⟩
  · rw [get_postEvent hwf (by decide) _ _ (hquiet _ (.inl rfl)), ← ht]
    simp [wf_regs w, R.SYNTH_STATUS_RETUNE, R.SYNTH_STATUS_OOS, R.CNT_SYNTH_LOCK_FAIL, R.SYNTH_STATUS, R.CNT_SYNTH]
  · rw [get_postEvent hwf (by decide) _ _ (hquiet _ (.inl rfl)), ← ht]
    simp [wf_regs w, R.SYNTH_STATUS_RETUNE, R.SYNTH_STATUS_OOS, R.CNT_SYNTH_LOCK_FAIL, R.SYNTH_STATUS, R.CNT_SYNTH]
  · rw [path_of_paths (paths_postEvent ..), ← ht, State.bump, State.bumpBy, State.set_path, path_setPath_self]
  · rw [get_postEvent hwf (by decide) _ _ (hquiet _ (.inr rfl)), ← ht]
    simp [wf_regs w, R.SYNTH_STATUS_RETUNE, R.SYNTH_STATUS_OOS, R.CNT_SYNTH_LOCK_FAIL, R.SYNTH_STATUS, R.CNT_SYNTH]

theorem calYieldRequest_row (w : Memory.wf s = true) (hrun : synthRuns s n = true) (hcal : s.bit (R.SYNTH_STATUS_CAL n) = true) {r : CalRequest}
    (hr : (s.path n).request = some r) (hsliced : r.exclusive = false) : ∃ t, exec (.calYieldRequest n) s = .next t ∧
      t.get (R.SYNTH_STATUS_CAL n) = 0 ∧ (t.path n).yielded = true ∧ (t.path n).request = some { r with running := false } ∧
      t.get (R.CNT_CAL_YIELD n) = min (2 ^ (R.CNT_CAL_YIELD n).width - 1) (s.get (R.CNT_CAL_YIELD n) + 1) := by
  have hexec : exec (.calYieldRequest n) s = .next (((s.setPath n { s.path n with yielded := true, request := some { r with running := false } }).set
      (R.SYNTH_STATUS_CAL n) 0).bump (R.CNT_CAL_YIELD n)) := by
    change execCalYieldRequest n s = _
    rw [execCalYieldRequest, if_pos (by simp [hrun, hcal]), hr]
    exact if_neg (by simp [hsliced])
  refine ⟨_, hexec, ?_, ?_, ?_, ?_⟩
  · simp [wf_regs w, R.SYNTH_STATUS_CAL, R.CNT_CAL_YIELD, R.SYNTH_STATUS, R.CNT_CAL]
  · rw [State.bump, State.bumpBy, State.set_path, State.set_path, path_setPath_self]
  · rw [State.bump, State.bumpBy, State.set_path, State.set_path, path_setPath_self]
  · simp [wf_regs w, R.SYNTH_STATUS_CAL, R.CNT_CAL_YIELD, R.SYNTH_STATUS, R.CNT_CAL]

end

section
variable {s : State} {n : Nat}

theorem txIntervalStart_open {w : WorkItem} {rest : List WorkItem} (hitems : (intervalEngines s n).filterMap (fun e => (s.te e).item) = w :: rest)
    (hbusy : ((s.path n).interval.any fun i => !i.frames.isEmpty) = false) (hpath : pathTxEnabled s n = true) (hgate : gateOpen s = true) :
    ∃ t i, exec (.txIntervalStart n) s = .next t ∧ (t.path n).interval = some i ∧ i.antenna = w.antenna ∧ i.analog = w.analog := by
  have hexec : ∃ (u : State) (p : PathState) (i : TxInterval), exec (.txIntervalStart n) s = .next (startWaiting (u.setPath n p) n) ∧ p.interval = some i ∧
      i.antenna = w.antenna ∧ i.analog = w.analog := by
    change ∃ (u : State) (p : PathState) (i : TxInterval), execTxIntervalStart n s = _ ∧ _ ∧ _
    simp only [execTxIntervalStart, hitems, hbusy, hpath, hgate, Bool.not_true, Bool.or_self, Bool.false_eq_true, if_false]
    exact ⟨_, _, _, rfl, rfl, rfl, rfl⟩
  obtain ⟨u, p, i, h, hp, ha, hg⟩ := hexec
  obtain ⟨j, hj, hja, hjg⟩ := startWaiting_intervalWith (intervalWith_setPath (n := n) hp ha hg u)
  exact ⟨_, j, h, hj, hja, hjg⟩

theorem txIntervalStart_closed {w : WorkItem} {rest : List WorkItem} (hitems : (intervalEngines s n).filterMap (fun e => (s.te e).item) = w :: rest)
    (hbusy : ((s.path n).interval.any fun i => !i.frames.isEmpty) = false) (hpath : pathTxEnabled s n = true) (hgate : gateOpen s = false) :
    exec (.txIntervalStart n) s = .next (foldState (fun t e => teGiveBack t e 1) s (intervalEngines s n)) := by
  change execTxIntervalStart n s = _
  simp only [execTxIntervalStart, hitems, hbusy, hpath, hgate, Bool.not_true, Bool.not_false, Bool.or_self, Bool.false_eq_true, if_false, if_true]

theorem txLatestStartExpiry_row {i : TxInterval} (hi : (s.path n).interval = some i) (hramped : i.ramped = false) (hframes : i.frames ≠ []) :
    ∃ t, exec (.txLatestStartExpiry n) s = .next t ∧ (t.path n).interval = none := by
  have hexec : ∃ code fields, exec (.txLatestStartExpiry n) s = .next (resumeSlice (unblankPath (postEvent code fields
      (bumpTrx (dropInterval s n 1) n (R.CNT_TX_TX_DEFER n))) n) n) := by
    change ∃ code fields, execTxLatestStartExpiry n s = _
    rw [execTxLatestStartExpiry, hi]
    dsimp only
    rw [if_neg (by simp [hramped, hframes])]
    exact ⟨_, _, rfl⟩
  obtain ⟨code, fields, h⟩ := hexec
  refine ⟨_, h, ?_⟩
  rw [interval_resumeSlice, interval_unblankPath, path_of_paths (paths_postEvent ..), interval_bumpTrx, interval_dropInterval hi]

theorem blankingEnd_row {i : TxInterval} (hi : (s.path n).interval = some i) (hframes : i.frames = []) :
    ∃ t, exec (.blankingEnd n) s = .next t ∧ (t.path n).interval = none := by
  have hexec : exec (.blankingEnd n) s = .next (viewTone (resumeSlice (unblankPath (frontEndReceive
      (s.setPath n { s.path n with interval := none }) n) n) n) n) := by
    change execBlankingEnd n s = _
    rw [execBlankingEnd, hi]
    exact if_neg (by simp [hframes])
  refine ⟨_, hexec, ?_⟩
  rw [interval_viewTone, interval_resumeSlice, interval_unblankPath, interval_frontEndReceive, path_setPath_self]

end

/-- Settles O6: the synthesizer's rows are read off their definitions; an interval keeps its antenna and its analog entry through a ramp,
and stays cleared through the end of blanking. -/
theorem radioRowsComplete : Obligations.RadioRowsComplete := by
  constructor
  · intro s n w hrun
    refine ⟨exec_synthLockAcquired hrun, exec_synthLockLoss_quiet hrun, fun i hl hi hr => exec_synthLockLoss_ramped hrun hl hi hr, ?_,
      lockTimeout_row w hrun, ?_, ?_, fun r hcal hr hsliced => calYieldRequest_row w hrun hcal hr hsliced⟩
    · intro hlock hretune hrestarted
      exact (if_neg (by simp [hrun, hlock, hretune])).trans (if_pos (by simp [hrestarted]))
    · exact fun hoos => if_pos (by simp [hrun, hoos])
    · intro r hcal hr hexcl
      change execCalYieldRequest n s = _
      rw [execCalYieldRequest, if_pos (by simp [hrun, hcal]), hr]
      exact if_pos hexcl
  · intro s n w
    exact ⟨fun x rest hitems hbusy hpath hgate => txIntervalStart_open hitems hbusy hpath hgate,
      fun x rest hitems hbusy hpath hgate => txIntervalStart_closed hitems hbusy hpath hgate,
      fun i hi hramped hframes => txLatestStartExpiry_row hi hramped hframes, fun i hi hframes => blankingEnd_row hi hframes⟩

end Sys2Proof.Machine
end

section
/-!
The converter port (R138 to R141): the rows of O7.
-/

namespace Sys2Proof.Machine

variable {s : State}

theorem jesd_postEvent (s : State) (code : Nat) (fields : List (Nat × Nat × Nat)) : (postEvent code fields s).jesd = s.jesd :=
  (postEvent_frame rfl (Frame.refl 0x80840021 s) code fields).of .jesd rfl

theorem devclkCheck_fault (w : Memory.wf s = true) {hz : Nat} (hrun : jesdRuns s = true)
    (hoff : 2 * (s.get R.JESD_RATE_DEVCLK_KHZ * 1000) < ((hz : Int) - (s.get R.JESD_RATE_DEVCLK_KHZ * 1000 : Nat)).natAbs * 1000000) :
    ∃ t, exec (.devclkCheck hz) s = .next t ∧ t.get R.JESD_STATUS_DEVCLK_ERR = 1 := by
  have hdown : Keeps s (jesdDown (jesdDown s 0 (jesdMask s 0) 2) 1 (jesdMask s 1) 2) :=
    jesdDown_keeps (jesdDown_keeps (Keeps.refl s) _ _ _) _ _ _
  refine ⟨_, (if_neg (by simp [hrun])).trans (if_pos hoff), ?_⟩
  rw [get_postEvent (wf_set (wf_keeps hdown w) _ _) (by decide) _ _ rfl, get_set_self (wf_keeps hdown w) (by decide)]
  rfl

theorem sysrefEdge_periodic {p q : Int} (hrun : jesdRuns s = true) (hper : s.bit R.JESD_CTRL_SYSREF_PER = true) (hphase : s.jesd.phase = some q) :
    ∃ t, exec (.sysrefEdge p) s = .next t ∧
      t.jesd.phase = (if 1 < (p - q).natAbs ∧ s.bit R.JESD_CTRL_REALIGN = true then some p else some q) ∧ t.jesd.armed = s.jesd.armed := by
  change ∃ t, execSysrefEdge p s = .next t ∧ _
  rw [execSysrefEdge, if_neg (by simp [hrun]), if_pos hper, hphase]
  dsimp only
  by_cases hfar : 1 < (p - q).natAbs
  · rw [if_pos hfar]
    refine ⟨_, rfl, ?_⟩
    rw [jesd_postEvent]
    cases hagain : s.bit R.JESD_CTRL_REALIGN with
    | false => simp [hphase]
    | true => simp [hfar]
  · rw [if_neg hfar, if_neg fun h => hfar h.1]
    exact ⟨s, rfl, hphase, rfl⟩

theorem exec_jesdMultiblockRx_good {lane : Nat} (hup : s.bit R.JESD_STATUS_RX_UP = true) (hlane : natBit (jesdMask s 0) lane = true) :
    exec (.jesdMultiblockRx lane true true) s = .next (s.putJesd { s.jesd with crcRun := assocSet s.jesd.crcRun lane 0 }) :=
  (if_neg (by simp [hup, hlane])).trans (if_pos rfl)

theorem exec_jesdMultiblockRx_bad {lane : Nat} (sync : Bool) (hup : s.bit R.JESD_STATUS_RX_UP = true) (hlane : natBit (jesdMask s 0) lane = true)
    (hrun : 7 ≤ (assocGet s.jesd.crcRun lane).getD 0) : exec (.jesdMultiblockRx lane false sync) s =
      .next ((jesdDown ((s.bump R.JESD_ERR_CRC_ERR).putJesd { s.jesd with
        crcRun := assocSet s.jesd.crcRun lane ((assocGet s.jesd.crcRun lane).getD 0 + 1) }) 0 (2 ^ lane) 0).putJesd { s.jesd with crcRun := [] }) := by
  have hmany : 8 ≤ (assocGet s.jesd.crcRun lane).getD 0 + 1 := by omega
  have hjesd (u : State) : (jesdDown u 0 (2 ^ lane) 0).jesd = u.jesd := (jesdDown_frame rfl (Frame.refl 0x186971121 u) 0 (2 ^ lane) 0).of .jesd rfl
  change execJesdMultiblockRx lane false sync s = _
  rw [execJesdMultiblockRx, if_neg (by simp [hup, hlane])]
  simp only [Bool.false_eq_true, if_false]
  rw [if_neg (by simp [Nat.not_lt.2 hmany]), if_pos hmany, hjesd]
  rfl

theorem exec_jesdLinkAligned_rx (hrun : jesdRuns s = true) (hclk : s.bit R.JESD_STATUS_DEVCLK_ERR = false) (hen : s.bit R.JESD_CTRL_RX_EN = true)
    (hdown : s.bit R.JESD_STATUS_RX_UP = false) : exec (.jesdLinkAligned 0) s = .next (foldState unblankPath (firstEpochs (postEvent 0x0206
      [(0, 1, 0), (1, 1, 2 ^ s.get R.JESD_RX_LINK_L)] (s.set R.JESD_STATUS_RX_UP 1))) xsPaths) := by
  change execJesdLinkAligned 0 s = _
  rw [execJesdLinkAligned, if_neg (by simp [hrun, hclk]), if_pos ⟨rfl, hen, hdown⟩]

theorem exec_jesdLinkAligned_tx (hrun : jesdRuns s = true) (hclk : s.bit R.JESD_STATUS_DEVCLK_ERR = false) (hen : s.bit R.JESD_CTRL_TX_EN = true)
    (hdown : s.bit R.JESD_STATUS_TX_UP = false) : exec (.jesdLinkAligned 1) s = .next (foldState startWaiting (postEvent 0x0206
      [(0, 1, 1), (1, 1, 2 ^ s.get R.JESD_TX_LINK_L)] (s.set R.JESD_STATUS_TX_UP 1)) xsPaths) := by
  change execJesdLinkAligned 1 s = _
  rw [execJesdLinkAligned, if_neg (by simp [hrun, hclk]), if_neg (fun h => absurd h.1 (by decide)), if_pos ⟨rfl, hen, hdown⟩]

/-- Settles O7. -/
theorem jesdRowsComplete : Obligations.JesdRowsComplete := by
  intro s w
  refine ⟨?good, ?fault, ?arm, ?once, ?periodic, ?block, ?crc, ?rx, ?tx⟩
  case good => exact fun hz hrun hnear => (if_neg (by simp [hrun])).trans (if_neg (Nat.not_lt.2 hnear))
  case fault => exact fun hz hrun hoff => devclkCheck_fault w hrun hoff
  case arm => exact fun hrun hpresent => if_pos (by simp [hrun, hpresent])
  case once =>
    intro p hrun hper harmed
    exact (if_neg (by simp [hrun])).trans ((if_neg (by simp [hper])).trans (if_pos harmed))
  case periodic => exact fun p q hrun hper hphase => sysrefEdge_periodic hrun hper hphase
  case block => exact fun lane hup hlane => exec_jesdMultiblockRx_good hup hlane
  case crc => exact fun lane sync hup hlane hrun => exec_jesdMultiblockRx_bad sync hup hlane hrun
  case rx => exact exec_jesdLinkAligned_rx
  case tx => exact exec_jesdLinkAligned_tx

end Sys2Proof.Machine
end

section
/-!
Coefficient sets and the reference oscillator (R147 to R163): O8, whose clause on noise reports fails.
-/

namespace Sys2Proof.Machine

/-! ## An item that enters its queue -/

theorem queues_viewQueue (s : State) (q : Nat) : (viewQueue s q).queues = s.queues :=
  (viewQueue_frame rfl (Frame.refl 0x1 s) q).of .queues rfl

theorem queue_of_queues {s t : State} (h : t.queues = s.queues) (q : Nat) : t.queue q = s.queue q := by rw [State.queue, h]; rfl

theorem queue_setQueue_self (s : State) (q : Nat) (x : QueueState) : (s.setQueue q x).queue q = x := by
  rw [State.queue, State.setQueue, assocGet_assocSet_self]; rfl

theorem queue_putQueue_self (s : State) (q : Nat) (x : QueueState) : (putQueue s q x).queue q = x := by
  rw [putQueue, queue_of_queues (queues_viewQueue ..), queue_setQueue_self]

theorem queues_countReceived (s : State) (q l : Nat) (i : QueueItem) : (countReceived s q l i).queues = s.queues :=
  (countReceived_frame rfl (Frame.refl 0x1 s) q l i).of .queues rfl

/-- Nothing keeps an item from its lane. -/
def enters (s : State) (q l : Nat) (i : QueueItem) : Bool :=
  canEnter (s.queue q) q l i && !s.bit (R.Q_STAT_RESETTING q) && !(s.queue q).waiting.any (fun p => decide (p.1 = l))

theorem pushItem_of_enters {s : State} {q l : Nat} {i : QueueItem} (h : enters s q l i = true) :
    pushItem s q l i = countReceived (putQueue s q (enter (s.queue q) l i)) q l i := if_pos h

theorem queue_pushItem_of_enters {s : State} {q l : Nat} {i : QueueItem} (h : enters s q l i = true) :
    (pushItem s q l i).queue q = enter (s.queue q) l i := by
  rw [pushItem_of_enters h, queue_of_queues (queues_countReceived ..), queue_putQueue_self]

theorem lane_enter (x : QueueState) (l : Nat) (i : QueueItem) : (enter x l i).lane l = x.lane l ++ [i] := by
  rw [QueueState.lane, enter, assocGet_assocSet_self]; rfl

/-! ## The refutation -/

/-- Engine 0 searches with NOISE set, and its receive queue is empty. -/
def noiseState : State := (State.reset.set (R.CE_CFG_NOISE 0) 1).set (R.CE_STATE_STATE 0) ceSearch

/-- A report of engine 0 with a stamp, of which the clause on noise reports says nothing. -/
def stampedReport (stamp : Nat) : QueueItem := { words := 1, poison := [], tag := 0, data := [0#8, 0#8, 0#8, 0#8], stamp := stamp }

theorem wf_noiseState : Memory.wf noiseState = true := wf_set (wf_set resetStoresCanonical _ _) _ _

/-- What the timer reports of an engine. -/
def noiseReport (s : State) (e : Nat) (powers : List Nat) : QueueItem :=
  { words := 1, poison := [], tag := 0, data := toLE 2 e ++ toLE 2 (s.get (R.CE_STATE_EPOCH e)) ++ ((powers.take 4).map (toLE 4)).flatten }

theorem exec_noiseReportTimer {s : State} {e : Nat} {powers : List Nat} (hnoise : s.bit (R.CE_CFG_NOISE e) = true)
    (hsearch : ceState s e = ceSearch) (hroom : canEnter (s.queue (ceCluster e)) (ceCluster e) 7 (noiseReport s e powers) = true) :
    exec (.noiseReportTimer e powers) s = .next (pushItem s (ceCluster e) 7 (noiseReport s e powers)) := by
  change execNoiseReportTimer e powers s = _
  rw [execNoiseReportTimer]
  change (if (s.bit (R.CE_CFG_NOISE e) && decide (ceState s e = ceSearch) &&
    canEnter (s.queue (ceCluster e)) (ceCluster e) 7 (noiseReport s e powers)) = true then _ else _) = _
  rw [if_pos (by simp [hnoise, hsearch, hroom])]
  rfl

theorem exec_noiseReportTimer_noiseState : exec (.noiseReportTimer 0 []) noiseState = .next (pushItem noiseState 0 7 (stampedReport 0)) :=
  exec_noiseReportTimer (by decide) (by decide) (by decide)

theorem lane_noiseState (stamp : Nat) (h : enters noiseState 0 7 (stampedReport stamp) = true) :
    ((pushItem noiseState 0 7 (stampedReport stamp)).queue 0).lane 7 = [stampedReport stamp] := by
  rw [queue_pushItem_of_enters h, lane_enter]; rfl

/-- Refutes O8: the clause on noise reports lets the item's stamp be any number, but the row enters an item with the stamp 0. -/
theorem not_trimRowsComplete : ¬ Obligations.TrimRowsComplete := by
  intro h
  obtain ⟨-, -, -, -, hnoise⟩ := h.1 noiseState 0 wf_noiseState
  have hexec := hnoise [] (stampedReport 1) (by decide) (by decide) rfl rfl rfl (by decide) (by decide)
  have hstate := Host.Outcome.next.inj (exec_noiseReportTimer_noiseState.symm.trans hexec)
  have hlane := congrArg (fun t : State => (t.queue 0).lane 7) hstate
  rw [lane_noiseState 0 (by decide), show ceCluster 0 = 0 from rfl, lane_noiseState 1 (by decide)] at hlane
  exact absurd hlane (by decide)

end Sys2Proof.Machine
end

section
/-!
Estimator results (R149, R152 to R156): the rows of O9.
-/

namespace Sys2Proof.Machine

variable {s t : State} {n : Nat}

/-! ## The receive set of a path -/

theorem paths_viewHealth (s : State) (n : Nat) : (viewHealth s n).paths = s.paths :=
  (viewHealth_frame rfl (Frame.refl 0x80840021 s) n).of .paths rfl

theorem paths_viewLag (s : State) (n : Nat) : (viewLag s n).paths = s.paths := (viewLag_frame rfl (Frame.refl 0x1 s) n).of .paths rfl

theorem paths_setTrx (s : State) (n : Nat) (f : Fld) (v : Nat) : (setTrx s n f v).paths = s.paths :=
  (setTrx_frame rfl (Frame.refl 0x1 s) n f v).of .paths rfl

theorem now_setTrx (s : State) (n : Nat) (f : Fld) (v : Nat) : (setTrx s n f v).now = s.now :=
  (setTrx_frame rfl (Frame.refl 0x1 s) n f v).of .now rfl

/-- A set is issued: the path holds it under the next epoch. -/
theorem path_issueSet (s : State) (n : Nat) (l : List Int) : (issueSet s n l).path n =
    { s.path n with rxSet := l, merged := none, lastEpoch := some s.now, barrier := some ((rxEpoch s n + 1) % 65536) } := by
  unfold issueSet
  rw [path_of_paths (paths_viewLag ..), path_setPath_self]
  split <;> rfl

theorem offerSet_of_allowed (h : epochAllowed s n = true) (l : List Int) : offerSet s n l = issueSet s n l := if_pos h

/-- Whether a set may be issued rests on the last one, the time and MIN_INT. -/
theorem epochAllowed_congr (hlast : (t.path n).lastEpoch = (s.path n).lastEpoch) (hnow : t.now = s.now)
    (hmin : t.get (R.CAL_PARAM_MIN_INT n) = s.get (R.CAL_PARAM_MIN_INT n)) : epochAllowed t n = epochAllowed s n := by
  unfold epochAllowed
  rw [hlast, hnow, hmin]

theorem get_setTrx (w : Memory.wf s = true) {f g : Fld} (hf : Fits f) (hfg : Apart f g) (n v : Nat) : (setTrx s n f v).get g = s.get g := by
  unfold setTrx
  split
  · exact get_set_apart w hf hfg v
  · rfl

theorem healthFld_fits (kind n chain : Nat) : Fits (healthFld kind n chain) := by
  unfold healthFld
  repeat' split
  all_goals simp [R.CAL_HEALTH0_IRR_A, R.CAL_HEALTH0_IRR_B, R.CAL_HEALTH1_FILT_A, R.CAL_HEALTH1_FILT_B, R.CAL_HEALTH0_DC_A, R.CAL_HEALTH0_DC_B]

theorem healthFld_key (kind n chain : Nat) : (healthFld kind n chain).key = R.CAL_HEALTH0 n ∨ (healthFld kind n chain).key = R.CAL_HEALTH1 n := by
  unfold healthFld
  repeat' split
  · exact .inl rfl
  · exact .inl rfl
  · exact .inr rfl
  · exact .inr rfl
  · exact .inl rfl
  · exact .inl rfl

/-- A figure and then a set: the path holds the set, whatever the figure was. -/
theorem rxSet_offerSet_health (w : Memory.wf s = true) (kind chain v : Nat) (l : List Int) (h : epochAllowed s n = true) :
    ((viewHealth (offerSet (setTrx s n (healthFld kind n chain) v) n l) n).path n).rxSet = l := by
  have hkey : Apart (healthFld kind n chain) (R.CAL_PARAM_MIN_INT n) := .inl (by
    rcases healthFld_key kind n chain with h | h <;> rw [h] <;>
      simp only [R.CAL_PARAM_MIN_INT, R.CAL_PARAM, R.CAL_HEALTH0, R.CAL_HEALTH1] <;> omega)
  have hallowed : epochAllowed (setTrx s n (healthFld kind n chain) v) n = true := by
    rw [epochAllowed_congr (by rw [path_of_paths (paths_setTrx ..)]) (now_setTrx ..) (get_setTrx w (healthFld_fits ..) hkey n v), h]
  rw [path_of_paths (paths_viewHealth ..), offerSet_of_allowed hallowed, path_issueSet]

/-! ## The rows -/

/-- What lets an estimate of a chain through. -/
def estimates (s : State) (n kind chain bin : Nat) : Prop :=
  calRuns s n = true ∧ calEnabled s n kind = true ∧ chain ≤ 1 ∧ bin ≤ 7 ∧ (chain = 1 → chainBEnabled s n = true)

theorem estimator_passes {kind chain bin : Nat} (h : estimates s n kind chain bin) : ¬(!calRuns s n || !calEnabled s n kind || decide (1 < chain) ||
    decide (7 < bin) || (decide (chain = 1) && !chainBEnabled s n)) = true := by
  obtain ⟨hrun, hen, hchain, hbin, hb⟩ := h
  simpa [hrun, hen, Nat.not_lt.2 hchain, Nat.not_lt.2 hbin] using hb

section
variable {chain bin e span : Nat} {i q rejection half : Int}

theorem exec_estimatorResult_image (h : estimates s n 0 chain bin) {c : ImageBin}
    (hc : assocGet (s.path n).images (chain * 8 + bin) = some c) (hready : imageReady s n c = true) :
    exec (.estimatorResult n 0 chain bin e span i q rejection half) s = .next (viewHealth (imageUpdate s n chain bin rejection half) n) := by
  change execEstimatorResult n 0 chain bin e span i q rejection half s = _
  rw [execEstimatorResult, if_neg (estimator_passes h), if_pos rfl, hc, Option.getD_some, if_pos hready]

theorem imageUpdate_refused (hbad : 12 < (assocGet (s.path n).bins (chain * 8 + bin)).getD rejection - rejection ∨ 8 < half) :
    imageUpdate s n chain bin rejection half = bumpTrx s n (R.CNT_CAL_REJECT n) := if_pos hbad

/-- A coefficient goes one eighth of the way to what the correlation over the power gives. -/
def imageStep (base : List Int) (at_ : Nat) (corr power : Int) : Int :=
  listGet 0 base at_ + realDiv 5 (realDiv 60 (corr * 65536) power - listGet 0 base at_) 8

theorem imageUpdate_taken (w : Memory.wf s = true) {c : ImageBin} (hc : assocGet (s.path n).images (chain * 8 + bin) = some c)
    (hallowed : epochAllowed s n = true) (hworse : (assocGet (s.path n).bins (chain * 8 + bin)).getD rejection - rejection ≤ 12)
    (hwide : half ≤ 8) : ((viewHealth (imageUpdate s n chain bin rejection half) n).path n).rxSet =
      listSet (listSet (nextBase (s.path n)) (chain * 19 + 2 + 2 * bin) (imageStep (nextBase (s.path n)) (chain * 19 + 2 + 2 * bin) c.corrI c.power))
        (chain * 19 + 2 + 2 * bin + 1) (imageStep (nextBase (s.path n)) (chain * 19 + 2 + 2 * bin + 1) c.corrQ c.power) := by
  unfold imageUpdate
  extract_lets p key d was base at_ toward l u
  have hd : d = c := by simp only [d, p, key, hc, Option.getD_some]
  rw [if_neg (by simp only [was, p, key]; omega)]
  have hu : epochAllowed u n = true := by
    rw [← hallowed]
    exact epochAllowed_congr (by rw [path_setPath_self]) rfl rfl
  have hwu : Memory.wf u = true := wf_keeps (State.setPath_keeps (Keeps.refl s) _ _) w
  rw [rxSet_offerSet_health hwu 0 chain _ l hu]
  simp only [l, toward, hd]
  rfl

theorem exec_estimatorResult_filter (h : estimates s n 1 chain 0) : exec (.estimatorResult n 1 chain 0 e span i q rejection half) s =
    .next (viewHealth (offerSet (setTrx s n (healthFld 1 n chain) (toField 8 (clampInt (-128) 127 i))) n
      (listSet (nextBase (s.path n)) (chain * 19 + 18) (i + listGet 0 (setOfEpoch s n e) (chain * 19 + 18)))) n) := by
  change execEstimatorResult n 1 chain 0 e span i q rejection half s = _
  rw [execEstimatorResult, if_neg (estimator_passes h), if_neg (by decide), if_pos rfl]

/-- The state that holds the tracked means of a chain. -/
def dcTracked (s : State) (n chain span : Nat) (i q : Int) : State :=
  s.setPath n { s.path n with dcMean := listSet (listSet (((s.path n).dcMean ++ [0, 0, 0, 0]).take 4) (2 * chain)
    (dcTrack (listGet 0 (s.path n).dcMean (2 * chain)) i span)) (2 * chain + 1) (dcTrack (listGet 0 (s.path n).dcMean (2 * chain + 1)) q span) }

theorem exec_estimatorResult_dc (h : estimates s n 2 chain 0) (hdc : dcCounts s n = true) :
    exec (.estimatorResult n 2 chain 0 e span i q rejection half) s =
      .next (viewHealth (offerSet (setTrx (dcTracked s n chain span i q) n (healthFld 2 n chain) (clampInt 0 255 rejection).toNat) n
        (listSet (listSet (nextBase ((dcTracked s n chain span i q).path n)) (chain * 19) (dcTrack (listGet 0 (s.path n).dcMean (2 * chain)) i span))
          (chain * 19 + 1) (dcTrack (listGet 0 (s.path n).dcMean (2 * chain + 1)) q span))) n) := by
  change execEstimatorResult n 2 chain 0 e span i q rejection half s = _
  rw [execEstimatorResult, if_neg (estimator_passes h), if_neg (by decide), if_neg (by decide), if_neg (by simp [hdc])]
  rfl

theorem wf_dcTracked (w : Memory.wf s = true) (n chain span : Nat) (i q : Int) : Memory.wf (dcTracked s n chain span i q) = true :=
  wf_keeps (State.setPath_keeps (Keeps.refl s) _ _) w

theorem nextBase_dcTracked (s : State) (n chain span : Nat) (i q : Int) :
    nextBase ((dcTracked s n chain span i q).path n) = nextBase (s.path n) := by
  rw [dcTracked, path_setPath_self]; rfl

theorem epochAllowed_dcTracked (s : State) (n chain span : Nat) (i q : Int) :
    epochAllowed (dcTracked s n chain span i q) n = epochAllowed s n :=
  epochAllowed_congr (by rw [dcTracked, path_setPath_self]) rfl rfl

end

/-- Settles O9. -/
theorem estimatorRowsComplete : Obligations.EstimatorRowsComplete := by
  intro s n chain w hrun hchain hb
  refine ⟨?refused, ?image, ?filter, ?dc⟩
  case refused =>
    intro bin e span i q rejection half c hbin hen hc hready hbad
    rw [exec_estimatorResult_image ⟨hrun, hen, hchain, hbin, hb⟩ hc hready, imageUpdate_refused hbad]
  case image =>
    intro bin e span i q rejection half c hbin hen hallowed hc hready hworse hwide
    exact ⟨_, exec_estimatorResult_image ⟨hrun, hen, hchain, hbin, hb⟩ hc hready, imageUpdate_taken w hc hallowed hworse hwide⟩
  case filter =>
    intro e span i q rejection half hen hallowed
    exact ⟨_, exec_estimatorResult_filter ⟨hrun, hen, hchain, by decide, hb⟩, rxSet_offerSet_health w 1 chain _ _ hallowed⟩
  case dc =>
    intro e span i q rejection half hen hallowed hdc
    refine ⟨_, exec_estimatorResult_dc ⟨hrun, hen, hchain, by decide, hb⟩ hdc, ?_⟩
    rw [rxSet_offerSet_health (wf_dcTracked w ..) 2 chain _ _ ((epochAllowed_dcTracked ..).trans hallowed), nextBase_dcTracked]

end Sys2Proof.Machine
end

section
/-!
The registers of the channel engines and what the operations on a path leave alone outside them.
-/

namespace Sys2Proof.Machine

/-- A register outside the engines' blocks, the events' and the lag views of the transceivers. -/
structure OffEngines (key : Nat) : Prop where
  quiet : noisy key = false
  engines : key < 0x02000000 ∨ 0x02200000 ≤ key
  lag : ∀ i < 16, key ≠ R.CAL_LAG i

/-- The same for one engine's block. -/
structure OffEngine (e key : Nat) : Prop where
  quiet : noisy key = false
  block : key < 0x02000000 + e * 0x1000 ∨ 0x02001000 + e * 0x1000 ≤ key
  lag : ∀ i < 16, key ≠ R.CAL_LAG i

theorem OffEngines.engine {key e : Nat} (hk : OffEngines key) (he : e < 512) : OffEngine e key where
  quiet := hk.quiet
  block := by have := hk.engines; omega
  lag := hk.lag

namespace Leaves

variable {key : Nat} {s0 s : State}

/-- A write to a field of an engine's block. -/
theorem engine (h : Leaves key s0 s) {e : Nat} (hk : OffEngine e key) (f : Fld) (v : Nat)
    (hf : ∃ off, f.key = off + 0x02000000 + e * 0x1000 ∧ off < 0x1000) : Leaves key s0 (s.set f v) :=
  h.set f v fun hkey => by
    obtain ⟨off, hf, hoff⟩ := hf
    have := hk.block
    omega

theorem setCe (h : Leaves key s0 s) (e : Nat) (x : CeState) : Leaves key s0 (s.setCe e x) :=
  h.same (State.setCe_keeps (Keeps.refl s) e x) rfl

theorem setTrx (h : Leaves key s0 s) (n : Nat) (f : Fld) (v : Nat) (hf : n < 16 → f.key ≠ key) : Leaves key s0 (Machine.setTrx s n f v) := by
  unfold Machine.setTrx
  split
  next hn => exact h.set f v (hf hn)
  next => exact h

theorem bumpTrx (h : Leaves key s0 s) (n : Nat) (f : Fld) (hf : n < 16 → f.key ≠ key) : Leaves key s0 (Machine.bumpTrx s n f) := by
  unfold Machine.bumpTrx
  split
  next hn => exact h.bump f (hf hn)
  next => exact h.setPath n _

theorem viewLag (h : Leaves key s0 s) (hk : ∀ i < 16, key ≠ R.CAL_LAG i) (n : Nat) : Leaves key s0 (Machine.viewLag s n) :=
  h.setTrx n _ _ fun hn => (hk n hn).symm

theorem putQueue (h : Leaves key s0 s) (n : noisy key = false) {q : Nat} (hq : q < 32) (x : QueueState) : Leaves key s0 (Machine.putQueue s q x) :=
  h.quiet (putQueue_quiet (Quiet.refl s) hq x) n

/-- An item for a queue other than the clusters' receive queues. -/
theorem pushItem (h : Leaves key s0 s) (n : noisy key = false) {q : Nat} (hlo : 4 ≤ q) (hq : q < 32) (l : Nat) (i : QueueItem) :
    Leaves key s0 (Machine.pushItem s q l i) := by
  have hcount (u : State) : countReceived u q l i = u := if_neg (by omega)
  unfold Machine.pushItem
  refine ite ?_ (h.putQueue n hq _)
  rw [hcount]
  exact h.putQueue n hq _

theorem writeAssignment (h : Leaves key s0 s) {e : Nat} (hk : OffEngine e key) (a : Assignment) :
    Leaves key s0 (Machine.writeAssignment s e a) := by
  unfold Machine.writeAssignment
  refine engine (engine (engine (engine (engine (engine (engine (engine (engine (engine (engine (engine h hk _ _ ?_) hk _ _ ?_) hk _ _ ?_)
    hk _ _ ?_) hk _ _ ?_) hk _ _ ?_) hk _ _ ?_) hk _ _ ?_) hk _ _ ?_) hk _ _ ?_) hk _ _ ?_) hk _ _ ?_
  all_goals exact ⟨_, rfl, by decide⟩

theorem takeAssignment (h : Leaves key s0 s) {e : Nat} (hk : OffEngine e key) (he : e < 512) (l : EngineLoad) :
    Leaves key s0 (Machine.takeAssignment s e l) := by
  have hcluster : ceCluster e < 4 := by unfold ceCluster; omega
  have hq : 4 + ceCluster e < 32 := by omega
  unfold Machine.takeAssignment
  extract_lets a old tune src s1 s2
  have h2 : Leaves key s0 s2 := (h.setCe e _).engine hk (R.CE_STATE_PENDING e) 0 ⟨_, rfl, by decide⟩
  split
  · exact ((h2.writeAssignment hk a).engine hk _ _ ⟨_, rfl, by decide⟩).viewLag hk.lag old
  cases assignRefusal s2 e a with
  | some r =>
    have hoff := (h2.engine hk (R.CE_ASG0_ACTIVE e) 0 ⟨_, rfl, by decide⟩).engine hk (R.CE_STATE_STATE e) ceIdle ⟨_, rfl, by decide⟩
    have hpush := hoff.pushItem hk.quiet (Nat.le_add_right 4 _) hq 1 { words := 1, poison := [], tag := 0, data := toLE 2 e ++ toLE 1 r }
    exact ((hpush.engine hk (R.CE_CNT_ASG_ASSIGN_REJ e) _ ⟨_, rfl, by decide⟩).viewLag hk.lag old).postEvent (by decide) _ hk.quiet
  | none =>
    have hw := (h2.writeAssignment hk a).engine hk (R.CE_STATE_STATE e)
      (if pathBlanked (Machine.writeAssignment s2 e a) a.path then ceBlank else ceSearch) ⟨_, rfl, by decide⟩
    exact ((hw.engine hk (R.CE_STATE_EPOCH e) _ ⟨_, rfl, by decide⟩).viewLag hk.lag a.path).viewLag hk.lag old

theorem backToSearch (h : Leaves key s0 s) {e : Nat} (hk : OffEngine e key) (he : e < 512) : Leaves key s0 (Machine.backToSearch s e) := by
  unfold Machine.backToSearch
  cases (s.ce e).pending with
  | some a => exact h.takeAssignment hk he a
  | none => exact h.engine hk _ _ ⟨_, rfl, by decide⟩

end Leaves

/-- The engines of a path of the device are among its 512. -/
theorem lt_of_mem_pathCes {s : State} {n e : Nat} (hn : n < 32) (h : e ∈ pathCes s n) : e < 512 := by
  obtain ⟨i, hi, rfl⟩ := List.mem_map.1 (List.mem_of_mem_filter h)
  have := List.mem_range.1 hi
  have : pathCluster n < 4 := by unfold pathCluster; split <;> omega
  omega

namespace Leaves

variable {key : Nat} {s0 s : State}

theorem unblankPath_of {n : Nat} (h : Leaves key s0 s) (hk : ∀ e ∈ pathCes s n, e < 512 ∧ OffEngine e key) :
    Leaves key s0 (Machine.unblankPath s n) := by
  unfold Machine.unblankPath
  exact ite h (h.fold fun u e he hu => ite (hu.backToSearch (hk e he).2 (hk e he).1) hu)

theorem unblankPath (h : Leaves key s0 s) (hk : OffEngines key) {n : Nat} (hn : n < 32) : Leaves key s0 (Machine.unblankPath s n) :=
  h.unblankPath_of fun _ he => ⟨lt_of_mem_pathCes hn he, hk.engine (lt_of_mem_pathCes hn he)⟩

theorem blankPath (h : Leaves key s0 s) (hk : OffEngines key) {n : Nat} (hn : n < 32) (f : Fld) (hf : n < 16 → f.key ≠ key) :
    Leaves key s0 (Machine.blankPath s n f) := by
  unfold Machine.blankPath
  refine h.fold fun u e he hu => ?_
  have hb : Leaves key s0 (if ceState u e = ceAcq ∨ ceState u e = ceDecode then Machine.bumpTrx u n f else u) := ite (hu.bumpTrx n f hf) hu
  exact ite hb (hb.engine (hk.engine (lt_of_mem_pathCes hn he)) _ _ ⟨_, rfl, by decide⟩)

end Leaves

end Sys2Proof.Machine
end

section
/-!
Calibration requests (R168 to R172): the rows of O10.
-/

namespace Sys2Proof.Machine

variable {s : State} {n : Nat}

/-- The registers of a transceiver, but for its lag view, lie off the engines. -/
theorem offEngines_trx {off : Nat} (hn : n < 16) (hoff : off < 0x10000) (hlag : off ≠ 0x214) : OffEngines (off + 0x01000000 + n * 0x10000) where
  quiet := by simp only [noisy, Bool.or_eq_false_iff, Bool.and_eq_false_iff, decide_eq_false_iff_not]; omega
  engines := by omega
  lag i hi := by simp only [R.CAL_LAG]; omega

theorem offEngines_synthStatus (hn : n < 16) : OffEngines (R.SYNTH_STATUS n) := offEngines_trx (off := 0x0C) hn (by decide) (by decide)

theorem offEngines_calStatus (hn : n < 16) : OffEngines (R.CAL_STATUS n) := offEngines_trx (off := 0x20C) hn (by decide) (by decide)

/-! ## A request arrives -/

/-- The state with a request that the path takes. -/
def requestTaken (s : State) (n op : Nat) (excl : Bool) : State :=
  calResult ((s.set (R.CAL_STATUS_OP n) op).setPath n { s.path n with
    request := some { op := op, exclusive := excl, running := false }, requestAt := s.now, yielded := false }) n (if excl then 3 else 4)

theorem cold_set_op (w : Memory.wf s = true) (op : Nat) : (s.set (R.CAL_STATUS_OP n) op).bit (R.CAL_STATUS_COLD n) = s.bit (R.CAL_STATUS_COLD n) := by
  simp [wf_regs w, R.CAL_STATUS_OP, R.CAL_STATUS_COLD]

theorem calRequest_taken (w : Memory.wf s = true) (hn : n < 16) (hrun : running s = true) (hpath : pathPresent s.part n = true)
    (hcold : s.bit (R.CAL_STATUS_COLD n) = true) (hfree : (s.path n).request = none) (op : Nat) (excl : Bool) :
    calRequest s n op excl = requestTaken s n op excl := by
  rw [calRequest, if_neg (by simp [hrun, hpath, Nat.not_le.2 hn])]
  dsimp only
  rw [if_neg (by rw [cold_set_op w, hcold, State.set_path, hfree]; decide)]
  rfl

theorem calRequest_refused (w : Memory.wf s = true) (hn : n < 16) (hrun : running s = true) (hpath : pathPresent s.part n = true)
    (hbusy : s.bit (R.CAL_STATUS_COLD n) = false ∨ (s.path n).request.isSome = true) (op : Nat) (excl : Bool) :
    calRequest s n op excl = calResult (s.set (R.CAL_STATUS_OP n) op) n 5 := by
  rw [calRequest, if_neg (by simp [hrun, hpath, Nat.not_le.2 hn])]
  dsimp only
  rw [if_pos (by rw [cold_set_op w, State.set_path]; rcases hbusy with h | h <;> simp [h])]

/-- The operations whose rows make a request, with their codes. -/
def requestRows (n : Nat) (excl : Bool) : List (Instr × Nat) :=
  [(.calImage n excl, 1), (.calAnalogFilter n excl, 2), (.calAnalogDc n excl, 3), (.calTxIqLo n excl, 4), (.calFull n excl, 5),
    (.calSelfTest n excl, 8)]

theorem exec_requestRow {row : Instr} {op : Nat} {excl : Bool} (h : (row, op) ∈ requestRows n excl) (s : State) :
    exec row s = .next (calRequest s n op excl) ∧ op < 16 := by
  simp only [requestRows, List.mem_cons, Prod.mk.injEq, List.not_mem_nil, or_false] at h
  rcases h with ⟨rfl, rfl⟩ | ⟨rfl, rfl⟩ | ⟨rfl, rfl⟩ | ⟨rfl, rfl⟩ | ⟨rfl, rfl⟩ | ⟨rfl, rfl⟩ <;> exact ⟨rfl, by decide⟩

theorem get_requestTaken (w : Memory.wf s = true) {op : Nat} (hop : op < 16) (excl : Bool) :
    (requestTaken s n op excl).get (R.CAL_STATUS_OP n) = op ∧
      (requestTaken s n op excl).get (R.CAL_STATUS_RESULT n) = (if excl then 3 else 4) := by
  have hresult : (if excl then 3 else 4) % 16 = (if excl then 3 else 4) := by cases excl <;> rfl
  simp [requestTaken, calResult, wf_regs w, R.CAL_STATUS_OP, R.CAL_STATUS_RESULT, Nat.mod_eq_of_lt hop, hresult]

/-! ## A request ends -/

theorem paths_endRequest (s : State) (n : Nat) : (endRequest s n).paths =
    (s.setPath n { s.path n with request := none, saved := none, yielded := false, loopback := false }).paths :=
  paths_unblankPath _ n

theorem path_endRequest (s : State) (n : Nat) : (endRequest s n).path n =
    { s.path n with request := none, saved := none, yielded := false, loopback := false } := by
  rw [path_of_paths (paths_endRequest s n), path_setPath_self]

theorem Leaves.endRequest {key : Nat} {s0 : State} (h : Leaves key s0 s) (hk : OffEngines key) (hn : n < 16) (hkey : key ≠ R.SYNTH_STATUS n) :
    Leaves key s0 (endRequest s n) :=
  ((h.setPath n _).set (R.SYNTH_STATUS_CAL n) 0 hkey.symm).unblankPath hk (Nat.lt_trans hn (by decide))

theorem endRequest_keeps_self (s : State) (n : Nat) : Keeps s (endRequest s n) := endRequest_keeps (Keeps.refl s) n

/-- The end of a request opens CAL. -/
theorem get_endRequest_cal (w : Memory.wf s = true) (hn : n < 16) : (endRequest s n).get (R.SYNTH_STATUS_CAL n) = 0 := by
  have hpath : Keeps s (s.setPath n { s.path n with request := none, saved := none, yielded := false, loopback := false }) :=
    State.setPath_keeps (Keeps.refl s) _ _
  generalize hu : s.setPath n { s.path n with request := none, saved := none, yielded := false, loopback := false } = u at hpath
  have hleaves : Leaves (R.SYNTH_STATUS n) (u.set (R.SYNTH_STATUS_CAL n) 0) (unblankPath (u.set (R.SYNTH_STATUS_CAL n) 0) n) :=
    (Leaves.refl _ _).unblankPath (offEngines_synthStatus hn) (Nat.lt_trans hn (by decide))
  have hw := wf_keeps hpath w
  rw [endRequest, hu]
  exact (hleaves.get (f := R.SYNTH_STATUS_CAL n) (wf_set hw _ _)).trans (by simp [wf_regs hw, R.SYNTH_STATUS_CAL])

/-- The state whose request `stopRequest` ends: the sets and settings of before an exclusive run are back. -/
def restored (s : State) (n : Nat) : State :=
  match (s.path n).saved with
  | some (r, t, a) => s.setPath n { s.path n with rxSet := r, txSet := t, analog := a }
  | none => s

theorem stopRequest_eq (s : State) (n : Nat) : stopRequest s n = endRequest (restored s n) n := rfl

theorem restored_keeps (s : State) (n : Nat) : Keeps s (restored s n) := by
  unfold restored
  split
  · exact State.setPath_keeps (Keeps.refl s) _ _
  · exact Keeps.refl s

theorem path_restored {a b c : List Int} (h : (s.path n).saved = some (a, b, c)) :
    (restored s n).path n = { s.path n with rxSet := a, txSet := b, analog := c } := by
  rw [restored, h]
  exact path_setPath_self ..

theorem calCancel_row (w : Memory.wf s = true) (hn : n < 16) {r : CalRequest} (hr : (s.path n).request = some r) :
    ∃ t, exec (.calCancel n) s = .next t ∧ (t.path n).request = none ∧ t.get (R.CAL_STATUS_RESULT n) = 9 ∧ t.get (R.SYNTH_STATUS_CAL n) = 0 ∧
      (∀ a b c, (s.path n).saved = some (a, b, c) → (t.path n).rxSet = a ∧ (t.path n).txSet = b ∧ (t.path n).analog = c) := by
  have hw := wf_keeps (restored_keeps s n) w
  have hend := wf_keeps (endRequest_keeps_self (restored s n) n) hw
  have hcal := get_endRequest_cal hw hn
  refine ⟨calResult (stopRequest s n) n 9, if_pos ⟨hn, by rw [hr]; rfl⟩, ?_, ?_, ?_, ?_⟩
  · rw [calResult, State.set_path, stopRequest_eq, path_endRequest]
  · rw [stopRequest_eq]
    simp [calResult, wf_regs hend, R.CAL_STATUS_RESULT]
  · rw [stopRequest_eq, ← hcal]
    simp [calResult, wf_regs hend, R.CAL_STATUS_RESULT, R.SYNTH_STATUS_CAL, R.CAL_STATUS, R.SYNTH_STATUS]
  · intro a b c hsaved
    rw [calResult, State.set_path, stopRequest_eq, path_endRequest, path_restored hsaved]
    exact ⟨rfl, rfl, rfl⟩

theorem calRequestTimeout_row (w : Memory.wf s = true) (hn : n < 16) {r : CalRequest} (hr : (s.path n).request = some r) :
    ∃ t, exec (.calRequestTimeout n) s = .next t ∧ (t.path n).request = none ∧ t.get (R.CAL_STATUS_RESULT n) = 7 ∧
      t.get (R.SYNTH_STATUS_CAL n) = 0 ∧ (t.path n).rxSet = (s.path n).rxSet ∧ (t.path n).txSet = (s.path n).txSet := by
  have hreach : Keeps s (s.reach ((s.path n).requestAt + 600 * secondNs)) := State.reach_keeps (Keeps.refl s) _
  have hpath : (s.reach ((s.path n).requestAt + 600 * secondNs)).path n = s.path n := path_of_paths ((State.reach_frame rfl (Frame.refl 0x40080000 s) _).of .paths rfl) n
  have hexec : exec (.calRequestTimeout n) s =
      .next (calFail (calResult (endRequest (s.reach ((s.path n).requestAt + 600 * secondNs)) n) n 7) n r.op) := by
    change execCalRequestTimeout n s = _
    rw [execCalRequestTimeout, hr]
    exact if_neg (Nat.not_le.2 hn)
  generalize s.reach ((s.path n).requestAt + 600 * secondNs) = u at hreach hpath hexec
  have hw := wf_keeps hreach w
  have hend := wf_keeps (endRequest_keeps_self u n) hw
  have hcal := get_endRequest_cal hw hn
  have hres : Memory.wf (calResult (endRequest u n) n 7) = true := wf_set hend _ _
  have hfields : ((calFail (calResult (endRequest u n) n 7) n r.op).path n) =
      { u.path n with request := none, saved := none, yielded := false, loopback := false } := by
    rw [calFail, path_of_paths (paths_postEvent ..), calResult, State.set_path, path_endRequest]
  refine ⟨_, hexec, ?_, ?_, ?_, ?_, ?_⟩
  · rw [hfields]
  · rw [calFail, get_postEvent hres (by decide) _ (R.CAL_STATUS_RESULT n) (offEngines_calStatus hn).quiet]
    simp [calResult, wf_regs hend, R.CAL_STATUS_RESULT]
  · rw [calFail, get_postEvent hres (by decide) _ (R.SYNTH_STATUS_CAL n) (offEngines_synthStatus hn).quiet, ← hcal]
    simp [calResult, wf_regs hend, R.CAL_STATUS_RESULT, R.SYNTH_STATUS_CAL, R.CAL_STATUS, R.SYNTH_STATUS]
  · rw [hfields, hpath]
  · rw [hfields, hpath]

/-- Settles O10. -/
theorem calRequestRowsComplete : Obligations.CalRequestRowsComplete := by
  intro s n w hn
  refine ⟨?taken, ?refused, fun r hr => calCancel_row w hn hr, fun r hr => calRequestTimeout_row w hn hr⟩
  case taken =>
    intro excl row op hrow hrun hpath hcold hfree
    obtain ⟨hexec, hop⟩ := exec_requestRow hrow s
    rw [calRequest_taken w hn hrun hpath hcold hfree] at hexec
    have hpath : (requestTaken s n op excl).path n = { s.path n with
        request := some { op := op, exclusive := excl, running := false }, requestAt := s.now, yielded := false } := by
      rw [requestTaken, calResult, State.set_path, path_setPath_self]
    exact ⟨_, hexec, by rw [hpath], by rw [hpath], get_requestTaken w hop excl⟩
  case refused =>
    intro excl row op hrow hrun hpath hbusy
    obtain ⟨hexec, hop⟩ := exec_requestRow hrow s
    rw [calRequest_refused w hn hrun hpath hbusy] at hexec
    refine ⟨_, hexec, rfl, ?_, ?_⟩ <;> simp [calResult, wf_regs w, R.CAL_STATUS_OP, R.CAL_STATUS_RESULT, Nat.mod_eq_of_lt hop]

end Sys2Proof.Machine
end

section
/-!
The run of a calibration (R168 to R172): the rows of O11.
-/

namespace Sys2Proof.Machine

variable {s : State} {n : Nat}

/-! ## The operations of a run -/

theorem sliceWaits_of_sliced {r : CalRequest} (hr : (s.path n).request = some r) (hsliced : r.exclusive = false) : sliceWaits s n =
    calResult ((s.setPath n { s.path n with request := some { r with running := false }, yielded := false }).set (R.SYNTH_STATUS_CAL n) 0) n 4 := by
  rw [sliceWaits, hr]
  exact if_neg (by rw [hsliced]; decide)

theorem wf_calResult (w : Memory.wf s = true) (n r : Nat) : Memory.wf (calResult s n r) = true := wf_set w _ _

theorem get_calResult (w : Memory.wf s = true) (n r : Nat) : (calResult s n r).get (R.CAL_STATUS_RESULT n) = r % 16 := by
  simp [calResult, wf_regs w, R.CAL_STATUS_RESULT]

theorem get_calResult_cal (w : Memory.wf s = true) (n r : Nat) :
    (calResult s n r).get (R.SYNTH_STATUS_CAL n) = s.get (R.SYNTH_STATUS_CAL n) := by
  simp [calResult, wf_regs w, R.CAL_STATUS_RESULT, R.SYNTH_STATUS_CAL, R.CAL_STATUS, R.SYNTH_STATUS]

theorem path_calResult (s : State) (n r m : Nat) : (calResult s n r).path m = s.path m := State.set_path ..

theorem path_requestDone (s : State) (n op m : Nat) : (requestDone s n op).path m = s.path m := path_of_paths (paths_postEvent ..) m

theorem get_requestDone (w : Memory.wf s = true) (hn : n < 16) (op : Nat) :
    (requestDone s n op).get (R.CAL_STATUS_RESULT n) = s.get (R.CAL_STATUS_RESULT n) :=
  get_postEvent w (by decide) _ (R.CAL_STATUS_RESULT n) (offEngines_calStatus hn).quiet

/-- The check bits of a self-test. -/
def selfTestBits (s : State) (n st : Nat) : State :=
  (((s.set (R.CAL_STATUS_ST_A n) st).set (R.CAL_STATUS_ST_B n) (st / 2)).set (R.CAL_STATUS_ST_SYN n) (st / 4)).set (R.CAL_STATUS_ST_OBS n) (st / 8)

theorem selfTestDone_eq (s : State) (n st : Nat) : selfTestDone s n st =
    if st % 16 = 0 then calResult (selfTestBits s n st) n 1 else calFail (calResult (selfTestBits s n st) n 8) n 8 := rfl

theorem selfTestDone_row (w : Memory.wf s = true) (hn : n < 16) (st : Nat) : (selfTestDone s n st).path n = s.path n ∧
    (selfTestDone s n st).get (R.CAL_STATUS_RESULT n) = (if st % 16 = 0 then 1 else 8) ∧
      (selfTestDone s n st).get (R.CAL_STATUS_ST_A n) = st % 2 := by
  have hbits : Memory.wf (selfTestBits s n st) = true := wf_set (wf_set (wf_set (wf_set w _ _) _ _) _ _) _ _
  have hst : (selfTestBits s n st).get (R.CAL_STATUS_ST_A n) = st % 2 := by
    simp [selfTestBits, wf_regs w, R.CAL_STATUS_ST_A, R.CAL_STATUS_ST_B, R.CAL_STATUS_ST_SYN, R.CAL_STATUS_ST_OBS]
  have hresult (r : Nat) : (calResult (selfTestBits s n st) n r).get (R.CAL_STATUS_ST_A n) = st % 2 := by
    rw [← hst]
    simp [calResult, wf_regs hbits, R.CAL_STATUS_RESULT, R.CAL_STATUS_ST_A]
  rw [selfTestDone_eq]
  split
  · exact ⟨rfl, get_calResult hbits n 1, hresult 1⟩
  · have hw : Memory.wf (calResult (selfTestBits s n st) n 8) = true := wf_set hbits _ _
    refine ⟨(path_of_paths (paths_postEvent ..) n).trans rfl, ?_, ?_⟩
    · rw [calFail, get_postEvent hw (by decide) _ (R.CAL_STATUS_RESULT n) (offEngines_calStatus hn).quiet, get_calResult hbits]
    · rw [calFail, get_postEvent hw (by decide) _ (R.CAL_STATUS_ST_A n) (offEngines_calStatus hn).quiet, hresult]

theorem paths_blankPath (hn : n < 16) (s : State) (f : Fld) : (blankPath s n f).paths = s.paths := by
  unfold blankPath
  induction pathCes s n generalizing s with
  | nil => rfl
  | cons e l ih =>
    refine (ih _).trans ?_
    have hbump (u : State) : (bumpTrx u n f).paths = u.paths := by rw [bumpTrx, if_pos hn, State.bump, State.bumpBy, State.set_paths]
    dsimp only
    split <;> split <;> simp [hbump]

/-! ## A unit of a sliced request -/

theorem path_putTxSet (s : State) (n : Nat) (l : List Int) : (putTxSet s n l).path n = { s.path n with txSet := l, observed := 0 } := by
  rw [putTxSet, State.set_path, path_setPath_self]

theorem path_offerSet (s : State) (n : Nat) (l : List Int) : (offerSet s n l).path n = if epochAllowed s n then
    { s.path n with rxSet := l, merged := none, lastEpoch := some s.now, barrier := some ((rxEpoch s n + 1) % 65536) }
    else { s.path n with merged := some l } := by
  unfold offerSet
  split
  · exact path_issueSet ..
  · exact path_setPath_self ..

theorem request_offerSet (s : State) (n : Nat) (l : List Int) : ((offerSet s n l).path n).request = (s.path n).request := by
  rw [path_offerSet]; split <;> rfl

/-- What a unit of an operation leaves on the path, with the time that its end brings. -/
def unitMeasured (s : State) (n : Nat) (r : CalRequest) (last : Bool) (l an : List Int) : State :=
  if [2, 3, 5].contains r.op then issueSet (s.setPath n { s.path n with analog := opAnalog r.op (s.path n).analog an }) n l
  else if last && decide (r.op = 1) then offerSet s n l else s

theorem unitMeasured_keeps (s : State) (n : Nat) (r : CalRequest) (last : Bool) (l an : List Int) : Keeps s (unitMeasured s n r last l an) := by
  unfold unitMeasured
  split
  · exact issueSet_keeps (State.setPath_keeps (Keeps.refl s) _ _) _ _
  split
  · exact offerSet_keeps (Keeps.refl s) _ _
  · exact Keeps.refl s

theorem path_unitMeasured_of_mem {r : CalRequest} (h : r.op ∈ [2, 3, 5]) (s : State) (n : Nat) (last : Bool) (l an : List Int) :
    ∃ p, (unitMeasured s n r last l an).path n = p ∧ p.request = (s.path n).request ∧ p.rxSet = l ∧
      p.analog = opAnalog r.op (s.path n).analog an := by
  rw [unitMeasured, if_pos (List.contains_iff_mem.2 h), path_issueSet, path_setPath_self]
  exact ⟨_, rfl, rfl, rfl, rfl⟩

theorem request_unitMeasured (s : State) (n : Nat) (r : CalRequest) (last : Bool) (l an : List Int) :
    ((unitMeasured s n r last l an).path n).request = (s.path n).request := by
  by_cases h : r.op ∈ [2, 3, 5]
  · obtain ⟨p, hp, hrequest, -⟩ := path_unitMeasured_of_mem h s n last l an
    rw [hp, hrequest]
  · rw [unitMeasured, if_neg (by rwa [List.contains_iff_mem])]
    split
    · exact request_offerSet ..
    · rfl

/-- A unit that ends before the slot boundary's margin. -/
theorem exec_slicedCalUnit {r : CalRequest} (hn : n < 16) (hr : (s.path n).request = some r) (hsliced : r.exclusive = false)
    (hrunning : r.running = true) {time : Nat} (htime : time + 100000 ≤ s.tb.boundLast + slotLenNs s) (last : Bool) (l tx an : List Int) (st : Nat) :
    ∃ u, Keeps s u ∧ u.path n = s.path n ∧ ∃ v, v = unitMeasured u n r last (opSet r.op (nextBase (s.path n)) (fullSet l)) an ∧
      exec (.slicedCalUnit n last l tx an st time) s = .next (
        let v := if last && [4, 5].contains r.op then putTxSet v n tx else v
        if last then
          if r.op = 8 then selfTestDone (calResult (endRequest v n) n 1) n st else requestDone (calResult (endRequest v n) n 1) n r.op
        else sliceWaits v n) := by
  have hpath : (s.advanceTo time).path n = s.path n :=
    path_of_paths ((State.advanceTo_frame rfl (Frame.refl 0x40080000 s) time).of .paths rfl) n
  refine ⟨s.advanceTo time, State.advanceTo_keeps (Keeps.refl s) time, hpath, _, rfl, ?_⟩
  change execSlicedCalUnit n last l tx an st time s = _
  rw [execSlicedCalUnit, hr]
  dsimp only
  rw [if_neg (by simp [hsliced, hrunning, hn, htime])]
  simp only [unitMeasured, hpath, done]
  cases last <;> rfl

theorem slicedCalUnit_waits (w : Memory.wf s = true) {r : CalRequest} (hn : n < 16) (hr : (s.path n).request = some r)
    (hsliced : r.exclusive = false) (hrunning : r.running = true) {time : Nat} (htime : time + 100000 ≤ s.tb.boundLast + slotLenNs s)
    (l tx an : List Int) (st : Nat) : ∃ t, exec (.slicedCalUnit n false l tx an st time) s = .next t ∧ t.get (R.CAL_STATUS_RESULT n) = 4 ∧
      (t.path n).request = some { r with running := false } ∧ t.get (R.SYNTH_STATUS_CAL n) = 0 ∧
      (r.op ∈ [1, 4, 8] → (t.path n).rxSet = (s.path n).rxSet) ∧
      (r.op ∈ [2, 3, 5] → (t.path n).rxSet = opSet r.op (nextBase (s.path n)) (fullSet l) ∧
        (t.path n).analog = opAnalog r.op (s.path n).analog an) := by
  obtain ⟨u, hu, hpath, v, hv, hexec⟩ := exec_slicedCalUnit hn hr hsliced hrunning htime false l tx an st
  have hkeeps : Keeps u v := hv ▸ unitMeasured_keeps ..
  have hvw := wf_keeps hkeeps (wf_keeps hu w)
  have hrequest : (v.path n).request = some r := by rw [hv, request_unitMeasured, hpath, hr]
  have hset : Memory.wf (v.setPath n { v.path n with request := some { r with running := false }, yielded := false }) = true :=
    wf_keeps (State.setPath_keeps (Keeps.refl v) _ _) hvw
  have hfields : (sliceWaits v n).path n = { v.path n with request := some { r with running := false }, yielded := false } := by
    rw [sliceWaits_of_sliced hrequest hsliced, path_calResult, State.set_path, path_setPath_self]
  refine ⟨_, hexec, ?_, ?_, ?_, ?_, ?_⟩
  · change (sliceWaits v n).get _ = 4
    rw [sliceWaits_of_sliced hrequest hsliced, get_calResult (wf_set hset _ _)]
  · change ((sliceWaits v n).path n).request = _
    rw [hfields]
  · change (sliceWaits v n).get _ = 0
    rw [sliceWaits_of_sliced hrequest hsliced, get_calResult_cal (wf_set hset _ _), get_set_self hset (show 2 + 1 ≤ 32 by decide)]
    rfl
  · intro hop
    change ((sliceWaits v n).path n).rxSet = _
    have hsame : v = u := by
      rw [hv, unitMeasured, if_neg, if_neg (by simp)]
      rw [List.contains_iff_mem]
      intro hmem
      simp only [List.mem_cons, List.not_mem_nil, or_false] at hop hmem
      omega
    rw [hfields, hsame, hpath]
  · intro hop
    change ((sliceWaits v n).path n).rxSet = _ ∧ ((sliceWaits v n).path n).analog = _
    obtain ⟨p, hp, -, hrx, han⟩ := path_unitMeasured_of_mem hop u n false (opSet r.op (nextBase (s.path n)) (fullSet l)) an
    rw [hfields, hv, hp, hrx, han, hpath]
    exact ⟨rfl, rfl⟩

theorem path_endRequest_request (s : State) (n : Nat) : ((endRequest s n).path n).request = none := by rw [path_endRequest]

/-- The last unit ends the request. -/
theorem slicedCalUnit_ends (w : Memory.wf s = true) {r : CalRequest} (hn : n < 16) (hr : (s.path n).request = some r)
    (hsliced : r.exclusive = false) (hrunning : r.running = true) {time : Nat} (htime : time + 100000 ≤ s.tb.boundLast + slotLenNs s)
    (l tx an : List Int) (st : Nat) : ∃ v, Memory.wf v = true ∧ exec (.slicedCalUnit n true l tx an st time) s = .next (
      if r.op = 8 then selfTestDone (calResult (endRequest v n) n 1) n st else requestDone (calResult (endRequest v n) n 1) n r.op) := by
  obtain ⟨u, hu, hpath, v, hv, hexec⟩ := exec_slicedCalUnit hn hr hsliced hrunning htime true l tx an st
  have hvw : Memory.wf v = true := wf_keeps (hv ▸ unitMeasured_keeps ..) (wf_keeps hu w)
  refine ⟨_, ?_, hexec⟩
  split
  · exact wf_keeps (putTxSet_keeps (Keeps.refl v) _ _) hvw
  · exact hvw

/-! ## An exclusive run -/

/-- An exclusive run begins: what it will restore is kept, and the loopback closes. -/
def calBegun (s : State) (n : Nat) (r : CalRequest) : State :=
  let p := s.path n
  s.setPath n { p with request := some { r with running := true }, saved := some (p.rxSet, p.txSet, p.analog), loopback := true, tone := none }

theorem calBegun_row (s : State) (n : Nat) (r : CalRequest) : Keeps s (calBegun s n r) ∧
    ((calBegun s n r).path n).saved = some ((s.path n).rxSet, (s.path n).txSet, (s.path n).analog) ∧
    ((calBegun s n r).path n).request = some { r with running := true } ∧ ((calBegun s n r).path n).loopback = true := by
  refine ⟨State.setPath_keeps (Keeps.refl s) _ _, ?_⟩
  rw [calBegun, path_setPath_self]
  exact ⟨rfl, rfl, rfl⟩

theorem exclusiveCalStart_row (w : Memory.wf s = true) {r : CalRequest} (hn : n < 16) (hr : (s.path n).request = some r)
    (hexcl : r.exclusive = true) (hidle : r.running = false) (hslots : sfLen s ≤ (s.path n).idleSlots) (hallowed : epochAllowed s n = true) :
    ∃ t, exec (.exclusiveCalStart n) s = .next t ∧ t.get (R.CAL_STATUS_RESULT n) = 2 ∧ t.get (R.SYNTH_STATUS_CAL n) = 1 ∧
      (t.path n).saved = some ((s.path n).rxSet, (s.path n).txSet, (s.path n).analog) ∧
      (t.path n).request = some { r with running := true } ∧ (t.path n).loopback = true ∧ t.get (R.SYNTH_STATUS_RETUNE n) = 1 := by
  have hexec : exec (.exclusiveCalStart n) s =
      .next (calResult ((retune (calBegun s n r) n (homeCentre (calBegun s n r) n)).set (R.SYNTH_STATUS_CAL n) 1) n 2) := by
    change execExclusiveCalStart n s = _
    rw [execExclusiveCalStart, hr]
    exact if_neg (by simp [hexcl, hidle, hn, hslots, hallowed])
  obtain ⟨hu, hsaved, hrequest, hloop⟩ := calBegun_row s n r
  generalize homeCentre (calBegun s n r) n = c at hexec
  generalize calBegun s n r = u at hexec hu hsaved hrequest hloop
  have hw := wf_keeps hu w
  generalize hy : ((u.set (R.SYNTH_CUR_FREQ n) c).set (R.SYNTH_STATUS_RETUNE n) 1).set (R.SYNTH_STATUS_LOCK n) 0 = y
  have hypath : y.path n = u.path n := by rw [← hy, State.set_path, State.set_path, State.set_path]
  have hyw : Memory.wf y = true := by rw [← hy]; exact wf_set (wf_set (wf_set hw _ _) _ _) _ _
  have hypend : y.get (R.SYNTH_STATUS_RETUNE n) = 1 := by
    rw [← hy]
    simp [wf_regs hw, R.SYNTH_STATUS_RETUNE, R.SYNTH_STATUS_LOCK, R.SYNTH_CUR_FREQ]
  have hretune : retune u n c = blankPath (y.setPath n { y.path n with restarted := false }) n (R.CNT_RX_RX_UNLOCK n) := by rw [← hy]; rfl
  have hblank : Leaves (R.SYNTH_STATUS n) y (retune u n c) := by
    rw [hretune]
    exact ((Leaves.refl _ y).setPath n _).blankPath (offEngines_synthStatus hn) (Nat.lt_trans hn (by decide)) _ fun _ => by
      simp only [R.CNT_RX_RX_UNLOCK, R.CNT_RX, R.SYNTH_STATUS]; omega
  have hpath : (retune u n c).path n = { u.path n with restarted := false } := by
    rw [hretune, path_of_paths (paths_blankPath hn ..), path_setPath_self, hypath]
  have hset : Memory.wf ((retune u n c).set (R.SYNTH_STATUS_CAL n) 1) = true := wf_set (wf_keeps hblank.keeps hyw) _ _
  have hblankw := wf_regs (wf_keeps hblank.keeps hyw)
  have hpend : (retune u n c).get (R.SYNTH_STATUS_RETUNE n) = 1 := (hblank.get (f := R.SYNTH_STATUS_RETUNE n) hyw).trans hypend
  refine ⟨_, hexec, get_calResult hset n 2, ?_, ?_, ?_, ?_, ?_⟩
  · rw [get_calResult_cal hset]
    simp [hblankw, R.SYNTH_STATUS_CAL]
  · rw [path_calResult, State.set_path, hpath, ← hsaved]
  · rw [path_calResult, State.set_path, hpath, ← hrequest]
  · rw [path_calResult, State.set_path, hpath, ← hloop]
  · rw [← hpend]
    simp [calResult, hblankw, R.SYNTH_STATUS_CAL, R.SYNTH_STATUS_RETUNE, R.CAL_STATUS_RESULT, R.CAL_STATUS, R.SYNTH_STATUS]

/-- The end of an exclusive run. -/
theorem exec_exclusiveCalDone {r : CalRequest} (hn : n < 16) (hr : (s.path n).request = some r)
    (hexcl : r.exclusive = true) (hrunning : r.running = true) (failed : Nat) (l tx an : List Int) (h0 h1 st : Nat) :
    ∃ u, Leaves (R.CAL_PARAM n) s u ∧ u.now = s.now ∧ u.path n = s.path n ∧ exec (.exclusiveCalDone n failed l tx an h0 h1 st) s = .next (
      if r.op = 8 then selfTestDone (calResult (endRequest u n) n 1) n st
      else requestDone (viewHealth (postFailedSteps (putMeasured (calResult (endRequest u n) n 1) n false l tx an h0 h1 failed) n r.op failed) n)
        n r.op) := by
  refine ⟨(s.set (R.SYNTH_STATUS_LOCK n) (boolNat (decide (r.op = 8) || !natBit failed 1))).set (R.SYNTH_STATUS_RETUNE n)
    (boolNat !(decide (r.op = 8) || !natBit failed 1)), ?_, rfl, rfl, ?_⟩
  rotate_left 1
  · change execExclusiveCalDone n failed l tx an h0 h1 st s = _
    rw [execExclusiveCalDone, hr]
    dsimp only
    rw [if_neg (by simp [hexcl, hrunning, hn])]
    split <;> rfl
  · exact ((Leaves.refl _ s).set _ _ (by simp only [R.SYNTH_STATUS_LOCK, R.SYNTH_STATUS, R.CAL_PARAM]; omega)).set _ _
      (by simp only [R.SYNTH_STATUS_RETUNE, R.SYNTH_STATUS, R.CAL_PARAM]; omega)

theorem now_endRequest (s : State) (n : Nat) : (endRequest s n).now = s.now :=
  (endRequest_frame rfl (Frame.refl 0x80840921 s) n).of .now rfl

/-- The path after its request has ended with result 1. -/
theorem ended_row {u : State} (hu : Leaves (R.CAL_PARAM n) s u) (hnow : u.now = s.now) (hpath : u.path n = s.path n) (w : Memory.wf s = true)
    (hn : n < 16) : Memory.wf (calResult (endRequest u n) n 1) = true ∧ (calResult (endRequest u n) n 1).get (R.CAL_STATUS_RESULT n) = 1 ∧
      epochAllowed (calResult (endRequest u n) n 1) n = epochAllowed s n ∧ (calResult (endRequest u n) n 1).path n =
        { s.path n with request := none, saved := none, yielded := false, loopback := false } := by
  have huw := wf_keeps hu.keeps w
  have hew : Memory.wf (endRequest u n) = true := wf_keeps (endRequest_keeps_self u n) huw
  have hend : Leaves (R.CAL_PARAM n) s (calResult (endRequest u n) n 1) :=
    (hu.endRequest (offEngines_trx (off := 0x204) hn (by decide) (by decide)) hn (by simp only [R.CAL_PARAM, R.SYNTH_STATUS]; omega)).set _ _
      (by simp only [R.CAL_STATUS_RESULT, R.CAL_STATUS, R.CAL_PARAM]; omega)
  have hp : (calResult (endRequest u n) n 1).path n = { s.path n with request := none, saved := none, yielded := false, loopback := false } := by
    rw [path_calResult, path_endRequest, hpath]
  refine ⟨wf_set hew _ _, get_calResult hew n 1, epochAllowed_congr ?_ ?_ (hend.get (f := R.CAL_PARAM_MIN_INT n) w), hp⟩
  · rw [hp]
  · rw [calResult, State.set_now, now_endRequest, hnow]

/-- What the steps of a calibration leave on the path. -/
theorem path_putMeasured (s : State) (n : Nat) (l tx an : List Int) (h0 h1 failed : Nat) : (putMeasured s n false l tx an h0 h1 failed).path n =
    { (offerSet s n (nominalSet failed (fullSet l))).path n with
      txSet := if natBit failed 5 then [] else tx, observed := 0, coldFailed := decide (failed % 64 ≠ 0), bins := measuredBins h0, images := [],
      analog := trimmedAnalog failed an } := by
  unfold putMeasured
  rw [State.setWord_path, State.setWord_path, path_setPath_self, path_putTxSet]
  rfl

theorem Leaves.issueSet_status {s0 : State} (h : Leaves (R.CAL_STATUS n) s0 s) (hn : n < 16) (l : List Int) :
    Leaves (R.CAL_STATUS n) s0 (issueSet s n l) := by
  unfold issueSet
  dsimp only
  rw [if_pos hn]
  refine (((h.set (R.CAL_EPOCH_RX_EPOCH n) _ ?_).set (R.CNT_CAL2_EPOCHS n) _ ?_).setPath n _).viewLag (offEngines_calStatus hn).lag n
  · simp only [R.CAL_EPOCH_RX_EPOCH, R.CAL_EPOCH, R.CAL_STATUS]; omega
  · simp only [R.CNT_CAL2_EPOCHS, R.CNT_CAL2, R.CAL_STATUS]; omega

theorem Leaves.putMeasured_status {s0 : State} (h : Leaves (R.CAL_STATUS n) s0 s) (hn : n < 16) (l tx an : List Int) (h0 h1 failed : Nat) :
    Leaves (R.CAL_STATUS n) s0 (putMeasured s n false l tx an h0 h1 failed) := by
  have hoffer : Leaves (R.CAL_STATUS n) s0 (offerSet s n (nominalSet failed (fullSet l))) := ite (h.issueSet_status hn _) (h.setPath n _)
  unfold putMeasured putTxSet
  refine ((((hoffer.setPath n _).set (R.CAL_EPOCH_TX_EPOCH n) _ ?_).setPath n _).setWord _ _ ?_).setWord _ _ ?_
  · simp only [R.CAL_EPOCH_TX_EPOCH, R.CAL_EPOCH, R.CAL_STATUS]; omega
  · simp only [R.CAL_HEALTH0, R.CAL_STATUS]; omega
  · simp only [R.CAL_HEALTH1, R.CAL_STATUS]; omega

theorem Leaves.postFailedSteps_status {s0 : State} (h : Leaves (R.CAL_STATUS n) s0 s) (hn : n < 16) (op failed : Nat) :
    Leaves (R.CAL_STATUS n) s0 (postFailedSteps s n op failed) :=
  h.fold fun _ _ _ hu => ite (hu.postEvent (by decide) _ (offEngines_calStatus hn).quiet) hu

theorem paths_postFailedSteps (s : State) (n op failed : Nat) : (postFailedSteps s n op failed).paths = s.paths :=
  (postFailedSteps_frame rfl (Frame.refl 0x80840021 s) n op failed).of .paths rfl

theorem get_viewHealth_result (w : Memory.wf s = true) (hn : n < 16) :
    (viewHealth s n).get (R.CAL_STATUS_RESULT n) = s.get (R.CAL_STATUS_RESULT n) := by
  unfold viewHealth
  rw [if_neg (Nat.not_le.2 hn)]
  extract_lets m was u
  have huw : Memory.wf u = true := wf_set (wf_set w _ _) _ _
  have hu : u.get (R.CAL_STATUS_RESULT n) = s.get (R.CAL_STATUS_RESULT n) := by
    simp [u, wf_regs w, R.CAL_STATUS_RESULT, R.CAL_STATUS_CONVERGED, R.CAL_STATUS_DEGRADED]
  split
  · rw [get_postEvent huw (by decide) _ (R.CAL_STATUS_RESULT n) (offEngines_calStatus hn).quiet, hu]
  · exact hu

theorem exclusiveCalDone_row (w : Memory.wf s = true) {r : CalRequest} (hn : n < 16) (hr : (s.path n).request = some r)
    (hexcl : r.exclusive = true) (hrunning : r.running = true) (hop : r.op ≠ 8) (failed : Nat) (l tx an : List Int) (h0 h1 st : Nat) :
    ∃ t, exec (.exclusiveCalDone n failed l tx an h0 h1 st) s = .next t ∧ t.get (R.CAL_STATUS_RESULT n) = 1 ∧
      (t.path n).request = none ∧ (t.path n).txSet = (if natBit failed 5 then [] else tx) ∧ (t.path n).analog = trimmedAnalog failed an ∧
      (epochAllowed s n = true → (t.path n).rxSet = nominalSet failed (fullSet l)) ∧
      (epochAllowed s n = false → (t.path n).rxSet = (s.path n).rxSet ∧ (t.path n).merged = some (nominalSet failed (fullSet l))) := by
  obtain ⟨u, hu, hnow, hpath, hexec⟩ := exec_exclusiveCalDone hn hr hexcl hrunning failed l tx an h0 h1 st
  obtain ⟨hvw, hresult, hallowed, hvpath⟩ := ended_row hu hnow hpath w hn
  rw [if_neg hop] at hexec
  generalize calResult (endRequest u n) n 1 = v at hexec hvw hresult hallowed hvpath
  have hleaves : Leaves (R.CAL_STATUS n) v (postFailedSteps (putMeasured v n false l tx an h0 h1 failed) n r.op failed) :=
    ((Leaves.refl _ v).putMeasured_status hn l tx an h0 h1 failed).postFailedSteps_status hn r.op failed
  have hmeasured := path_putMeasured v n l tx an h0 h1 failed
  rw [path_offerSet, hallowed, hvpath] at hmeasured
  have hfinal (m : Nat) : (requestDone (viewHealth (postFailedSteps (putMeasured v n false l tx an h0 h1 failed) n r.op failed) n) n r.op).path m =
      (putMeasured v n false l tx an h0 h1 failed).path m := by
    rw [path_requestDone, path_of_paths (paths_viewHealth ..), path_of_paths (paths_postFailedSteps ..)]
  have hpw := wf_keeps hleaves.keeps hvw
  have hhw : Memory.wf (viewHealth (postFailedSteps (putMeasured v n false l tx an h0 h1 failed) n r.op failed) n) = true :=
    wf_keeps (viewHealth_keeps (Keeps.refl _) n) hpw
  refine ⟨_, hexec, ?_, ?_, ?_, ?_, fun h => ?_, fun h => ?_⟩
  · rw [get_requestDone hhw hn, get_viewHealth_result hpw hn, hleaves.get (f := R.CAL_STATUS_RESULT n) hvw, hresult]
  · rw [hfinal, hmeasured]
    split <;> rfl
  · rw [hfinal, hmeasured]
  · rw [hfinal, hmeasured]
  · rw [hfinal, hmeasured, if_pos h]
  · rw [hfinal, hmeasured, if_neg (by rw [h]; decide)]
    exact ⟨rfl, rfl⟩

theorem exclusiveCalDone_selfTest (w : Memory.wf s = true) {r : CalRequest} (hn : n < 16) (hr : (s.path n).request = some r)
    (hexcl : r.exclusive = true) (hrunning : r.running = true) (hop : r.op = 8) (failed : Nat) (l tx an : List Int) (h0 h1 st : Nat) :
    ∃ t, exec (.exclusiveCalDone n failed l tx an h0 h1 st) s = .next t ∧ t.get (R.CAL_STATUS_RESULT n) = (if st % 16 = 0 then 1 else 8) ∧
      (t.path n).request = none ∧ (t.path n).rxSet = (s.path n).rxSet := by
  obtain ⟨u, hu, hnow, hpath, hexec⟩ := exec_exclusiveCalDone hn hr hexcl hrunning failed l tx an h0 h1 st
  obtain ⟨hvw, -, -, hvpath⟩ := ended_row hu hnow hpath w hn
  rw [if_pos hop] at hexec
  obtain ⟨htest, hresult, -⟩ := selfTestDone_row hvw hn st
  exact ⟨_, hexec, hresult, by rw [htest, hvpath], by rw [htest, hvpath]⟩

/-- Settles O11: a unit of a sliced request waits or ends it, and an exclusive run begins and ends through the shared operations. -/
theorem calRunRowsComplete : Obligations.CalRunRowsComplete := by
  intro s n r w hn hr
  refine ⟨?waits, ?ends, ?selfTest, ?start, ?run, ?runTest⟩
  case waits => exact fun l tx an st time hsliced hrunning htime => slicedCalUnit_waits w hn hr hsliced hrunning htime l tx an st
  case ends =>
    intro l tx an st time hsliced hrunning htime hop
    obtain ⟨v, hv, hexec⟩ := slicedCalUnit_ends w hn hr hsliced hrunning htime l tx an st
    have hend := wf_keeps (endRequest_keeps_self v n) hv
    rw [if_neg hop] at hexec
    refine ⟨_, hexec, ?_, ?_⟩
    · rw [path_requestDone, path_calResult, path_endRequest]
    · rw [get_requestDone (wf_calResult hend n 1) hn, get_calResult hend]
  case selfTest =>
    intro l tx an st time hsliced hrunning htime hop
    obtain ⟨v, hv, hexec⟩ := slicedCalUnit_ends w hn hr hsliced hrunning htime l tx an st
    rw [if_pos hop] at hexec
    obtain ⟨hpath, hresult, hbit⟩ := selfTestDone_row (s := calResult (endRequest v n) n 1) (wf_set (wf_keeps (endRequest_keeps_self v n) hv) _ _) hn st
    exact ⟨_, hexec, by rw [hpath, path_calResult, path_endRequest], hresult, hbit⟩
  case start => exact fun hexcl hidle hslots hallowed => exclusiveCalStart_row w hn hr hexcl hidle hslots hallowed
  case run => exact fun failed l tx an h0 h1 st hexcl hrunning hop => exclusiveCalDone_row w hn hr hexcl hrunning hop failed l tx an h0 h1 st
  case runTest =>
    exact fun failed l tx an h0 h1 st hexcl hrunning hop => exclusiveCalDone_selfTest w hn hr hexcl hrunning hop failed l tx an h0 h1 st

end Sys2Proof.Machine
end

section
/-!
Assignment and detection (R182 to R188): the rows of O12.
-/

namespace Sys2Proof.Machine

variable {s t : State} {e : Nat}

/-- A register outside what an event may write. -/
theorem noisy_eq_false {key : Nat} (h : ¬(0x00100000 ≤ key ∧ key < 0x00102000) ∧ ¬(0x03400000 ≤ key ∧ key < 0x03400800) ∧
    ¬(0x0A000124 ≤ key ∧ key < 0x0A000168) ∧ ¬(0x0A001100 ≤ key ∧ key < 0x0A001180) ∧ key ≠ 0x0A000040 ∧ key ≠ 0x0A00100C) :
    noisy key = false := by
  simp only [noisy, Bool.or_eq_false_iff, Bool.and_eq_false_iff, decide_eq_false_iff_not]
  omega

/-! ## The state of an engine -/

theorem ce_setCe_self (s : State) (e : Nat) (x : CeState) : (s.setCe e x).ce e = x := by
  rw [State.ce, State.setCe, assocGet_assocSet_self]; rfl

theorem ce_setCe_of_ne (s : State) {e o : Nat} (hne : e ≠ o) (x : CeState) : (s.setCe o x).ce e = s.ce e := by
  rw [State.ce, State.setCe, assocGet_assocSet_of_ne hne]; rfl

theorem ce_of_ces (h : t.ces = s.ces) (e : Nat) : t.ce e = s.ce e := by rw [State.ce, h]; rfl

theorem ces_viewLag (s : State) (n : Nat) : (viewLag s n).ces = s.ces := (viewLag_frame rfl (Frame.refl 0x1 s) n).of .ces rfl

theorem ces_writeAssignment (s : State) (e : Nat) (a : Assignment) : (writeAssignment s e a).ces = s.ces :=
  (writeAssignment_frame rfl (Frame.refl 0x1 s) e a).of .ces rfl

theorem ces_postEvent (s : State) (code : Nat) (fields : List (Nat × Nat × Nat)) : (postEvent code fields s).ces = s.ces :=
  (postEvent_frame rfl (Frame.refl 0x80840021 s) code fields).of .ces rfl

theorem ces_pushItem (s : State) (q l : Nat) (i : QueueItem) : (pushItem s q l i).ces = s.ces :=
  (pushItem_frame rfl (Frame.refl 0x40001 s) q l i).of .ces rfl

/-- A register of an engine lies off every other engine. -/
theorem offEngine_of_ne {o off : Nat} (he : e < 512) (hne : e ≠ o) (hoff : off < 0x1000) : OffEngine o (off + 0x02000000 + e * 0x1000) where
  quiet := by simp only [noisy, Bool.or_eq_false_iff, Bool.and_eq_false_iff, decide_eq_false_iff_not]; omega
  block := by omega
  lag i hi := by simp only [R.CAL_LAG]; omega

theorem ceKey_lag (he : e < 512) {off : Nat} (hoff : off < 0x1000) : ∀ i < 16, off + 0x02000000 + e * 0x1000 ≠ R.CAL_LAG i := by
  intro i hi
  simp only [R.CAL_LAG]
  omega

/-! ## A record that takes effect -/

/-- The engine holds a load that takes effect. -/
def engineLoaded (s : State) (e : Nat) (l : EngineLoad) : State :=
  (s.setCe e { s.ce e with
    pending := none, pendingSet := none, activeSet := rxSetOf (s.path l.record.path), bin := (nearestBin (signedOf 26 l.record.offset)).1,
    shift := (nearestBin (signedOf 26 l.record.offset)).2 + carrierShift s l.record, maps := l.maps, node := l.node }).set (R.CE_STATE_PENDING e) 0

theorem engineLoaded_keeps (s : State) (e : Nat) (l : EngineLoad) : Keeps s (engineLoaded s e l) :=
  State.set_keeps (State.setCe_keeps (Keeps.refl s) _ _) _ _

/-- A record in force: the engine searches, or waits for the end of blanking. -/
def engineAssigned (s : State) (e : Nat) (a : Assignment) : State :=
  (writeAssignment s e a).set (R.CE_STATE_STATE e) (if pathBlanked (writeAssignment s e a) a.path then ceBlank else ceSearch)

theorem takeAssignment_released {l : EngineLoad} (h : l.record.active = 0) : takeAssignment s e l =
    viewLag ((writeAssignment (engineLoaded s e l) e l.record).set (R.CE_STATE_STATE e) ceIdle) (s.get (R.CE_ASG0_PATH e)) := by
  unfold takeAssignment
  exact if_pos h

theorem takeAssignment_taken {l : EngineLoad} (h : l.record.active ≠ 0) (hok : assignRefusal (engineLoaded s e l) e l.record = none) :
    takeAssignment s e l = viewLag (viewLag ((engineAssigned (engineLoaded s e l) e l.record).set (R.CE_STATE_EPOCH e)
      (rxEpoch (engineAssigned (engineLoaded s e l) e l.record) l.record.path)) l.record.path) (s.get (R.CE_ASG0_PATH e)) := by
  unfold takeAssignment
  refine (if_neg h).trans ?_
  change (match assignRefusal (engineLoaded s e l) e l.record with | some r => _ | none => _) = _
  rw [hok]
  rfl

theorem get_writeAssignment (w : Memory.wf s = true) (a : Assignment) : (writeAssignment s e a).get (R.CE_ASG0_ACTIVE e) = a.active % 2 ∧
    (writeAssignment s e a).get (R.CE_ASG0_PATH e) = a.path % 32 ∧ (writeAssignment s e a).get (R.CE_ASG0_MODE e) = a.mode % 256 := by
  have hkeys : R.CE_ASG0 e ≠ R.CE_ASG1 e ∧ R.CE_ASG0 e ≠ R.CE_ASG2 e ∧ R.CE_ASG0 e ≠ R.CE_ASG3 e ∧ R.CE_ASG0 e ≠ R.CE_ASG4 e := by
    simp only [R.CE_ASG0, R.CE_ASG1, R.CE_ASG2, R.CE_ASG3, R.CE_ASG4]
    omega
  obtain ⟨h1, h2, h3, h4⟩ := hkeys
  refine ⟨?_, ?_, ?_⟩ <;>
    simp [writeAssignment, wf_regs w, R.CE_ASG0_ACTIVE, R.CE_ASG0_PATH, R.CE_ASG0_MODE, R.CE_ASG0_BW, R.CE_ASG0_ANT, R.CE_ASG0_HINT_B,
      R.CE_ASG0_PREC_V, R.CE_ASG0_EXP_V, R.CE_ASG1_OFFSET, R.CE_ASG2_PRECORR, R.CE_ASG3_EXP_T, R.CE_ASG4_SCHED_EPOCH, h1, h2, h3, h4]

/-! ## Whether a path is blanked -/

theorem offEngines_jesdStatus : OffEngines R.JESD_STATUS where
  quiet := rfl
  engines := .inl (by decide)
  lag := by decide

theorem receiveLock_of_leaves {n : Nat} (w : Memory.wf s = true) (hs : n < 16 → Leaves (R.SYNTH_STATUS n) s t) (hj : Leaves R.JESD_STATUS s t) :
    receiveLock t n = receiveLock s n := by
  unfold receiveLock
  split
  next hn => rw [(hs hn).bit (f := R.SYNTH_STATUS_LOCK n) w, (hs hn).bit (f := R.SYNTH_STATUS_OOS n) w]
  next => rw [hj.bit (f := R.JESD_STATUS_RX_UP) w]

theorem pathBlanked_of_leaves {n : Nat} (w : Memory.wf s = true) (hp : t.path n = s.path n) (hs : n < 16 → Leaves (R.SYNTH_STATUS n) s t)
    (hj : Leaves R.JESD_STATUS s t) : pathBlanked t n = pathBlanked s n := by
  rw [pathBlanked, pathBlanked, receiveLock_of_leaves w hs hj, hp]

/-! ## Blanking ends while an engine waits or searches -/

/-- The engine waits for the end of blanking, or searches, with no record pending. -/
def Searching (s : State) (e : Nat) : Prop := (s.ce e).pending = none ∧ (ceState s e = ceBlank ∨ ceState s e = ceSearch)

theorem ces_takeAssignment (s : State) (o : Nat) (l : EngineLoad) : ∃ x, (takeAssignment s o l).ces = (s.setCe o x).ces := by
  unfold takeAssignment
  extract_lets a old tune src s1 s2
  refine ⟨{ src with
    pending := none, pendingSet := none, activeSet := rxSetOf (s.path a.path), bin := tune.1, shift := tune.2 + carrierShift s a,
    maps := l.maps, node := l.node }, ?_⟩
  have h2 : s2.ces = s1.ces := rfl
  split
  · rw [ces_viewLag, State.set_ces, ces_writeAssignment, h2]
  split
  · rw [ces_postEvent, ces_viewLag, State.bump, State.bumpBy, State.set_ces, ces_pushItem, State.set_ces, State.set_ces, h2]
  · rw [ces_viewLag, ces_viewLag, State.set_ces, State.set_ces, ces_writeAssignment, h2]

theorem ce_backToSearch_of_ne (s : State) {o : Nat} (hne : e ≠ o) : (backToSearch s o).ce e = s.ce e := by
  unfold backToSearch
  cases (s.ce o).pending with
  | some a =>
    obtain ⟨x, hx⟩ := ces_takeAssignment s o a
    rw [ce_of_ces hx, ce_setCe_of_ne s hne]
  | none => exact State.set_ce ..

theorem backToSearch_of_none (h : (s.ce e).pending = none) : backToSearch s e = s.set (R.CE_STATE_STATE e) ceSearch := by
  rw [backToSearch, h]

theorem ceState_set (w : Memory.wf s = true) {v : Nat} (hv : v < 8) : ceState (s.set (R.CE_STATE_STATE e) v) e = v := by
  simp [ceState, wf_regs w, R.CE_STATE_STATE, Nat.mod_eq_of_lt hv]

/-- The engine `e` through the end of blanking of the engines in `l`. -/
theorem unblankFold_searching {y : State} (he : e < 512) (hy : Memory.wf y = true) (hsearch : Searching y e) (l : List Nat) (hl : ∀ o ∈ l, o < 512)
    {u : State} (hu : Leaves (R.CE_ASG0 e) y u) (hce : u.ce e = y.ce e) (hstate : ceState u e = ceBlank ∨ ceState u e = ceSearch) :
    let v := foldState (fun t o => if ceState t o = ceBlank then backToSearch t o else t) u l
    Leaves (R.CE_ASG0 e) y v ∧ v.ce e = y.ce e ∧ (e ∈ l ∨ ceState u e = ceSearch → ceState v e = ceSearch) := by
  induction l generalizing u with
  | nil => exact ⟨hu, hce, fun h => h.resolve_left (by simp)⟩
  | cons o l ih =>
    have ho := hl o (List.mem_cons_self ..)
    have hrest := fun x hx => hl x (List.mem_cons_of_mem _ hx)
    have hw := wf_keeps hu.keeps hy
    by_cases heo : e = o
    · subst heo
      generalize hv : (if ceState u e = ceBlank then backToSearch u e else u) = v
      have hv' : Leaves (R.CE_ASG0 e) y v ∧ v.ce e = y.ce e ∧ ceState v e = ceSearch := by
        rw [← hv]
        split
        next hblank =>
          rw [backToSearch_of_none (by rw [hce]; exact hsearch.1)]
          exact ⟨hu.set _ _ (by simp only [R.CE_STATE_STATE, R.CE_STATE, R.CE_ASG0]; omega), hce, ceState_set hw (by decide)⟩
        next hblank => exact ⟨hu, hce, hstate.resolve_left hblank⟩
      obtain ⟨hleaves, hces, hs⟩ := hv'
      have := ih hrest hleaves hces (.inr hs)
      simp only [foldState, List.foldl_cons, hv]
      exact ⟨this.1, this.2.1, fun _ => this.2.2 (.inr hs)⟩
    · generalize hv : (if ceState u o = ceBlank then backToSearch u o else u) = v
      have hv' : Leaves (R.CE_ASG0 e) y v ∧ v.ce e = y.ce e ∧ ceState v e = ceState u e := by
        rw [← hv]
        split
        · have hstay : Leaves (R.CE_STATE e) u (backToSearch u o) :=
            (Leaves.refl _ u).backToSearch (offEngine_of_ne (off := 0x30) he heo (by decide)) ho
          exact ⟨hu.backToSearch (offEngine_of_ne (off := 0x10) he heo (by decide)) ho, (ce_backToSearch_of_ne u heo).trans hce,
            hstay.get (f := R.CE_STATE_STATE e) hw⟩
        · exact ⟨hu, hce, rfl⟩
      obtain ⟨hleaves, hces, hs⟩ := hv'
      have := ih hrest hleaves hces (hs ▸ hstate)
      simp only [foldState, List.foldl_cons, hv]
      refine ⟨this.1, this.2.1, fun h => this.2.2 ?_⟩
      rw [hs]
      exact h.imp_left fun hmem => (List.mem_cons.1 hmem).resolve_left heo

/-! ## An exclusive run is preempted -/

theorem mem_pathCes {n : Nat} : e ∈ pathCes s n ↔ e ∈ clusterCes (pathCluster n) ∧ ceOnPath s n e = true := List.mem_filter

theorem mem_pathCes_of_leaves {n : Nat} (w : Memory.wf s = true) (h : Leaves (R.CE_ASG0 e) s t) (hmem : e ∈ pathCes s n) : e ∈ pathCes t n := by
  rw [mem_pathCes] at hmem ⊢
  refine ⟨hmem.1, ?_⟩
  rw [ceOnPath, h.bit (f := R.CE_ASG0_ACTIVE e) w, h.get (f := R.CE_ASG0_PATH e) w]
  exact hmem.2

/-- The path as the end of blanking of a stopped request finds it. -/
def stopped (s : State) (n : Nat) : State :=
  ((restored s n).setPath n { (restored s n).path n with request := none, saved := none, yielded := false, loopback := false }).set
    (R.SYNTH_STATUS_CAL n) 0

theorem stopRequest_stopped (s : State) (n : Nat) : stopRequest s n = unblankPath (stopped s n) n := rfl

/-- What follows the stopped request of a preempted run. -/
def preempted (s : State) (n op : Nat) : State := calFail (calResult (s.bump (R.CNT_CAL2_PREEMPT n)) n 6) n op

theorem calPreempt_eq (s : State) (n : Nat) : calPreempt s n = s ∨ (n < 16 ∧ ∃ op, calPreempt s n = preempted (stopRequest s n) n op) := by
  unfold calPreempt
  split
  next r hr =>
    split
    next h => exact .inr ⟨h.1, r.op, rfl⟩
    next h => exact .inl rfl
  next => exact .inl rfl

theorem Leaves.preempted {key n : Nat} {s0 : State} (h : Leaves key s0 s) (hq : noisy key = false) (hc : key ≠ R.CNT_CAL2 n)
    (hs : key ≠ R.CAL_STATUS n) (op : Nat) : Leaves key s0 (preempted s n op) :=
  ((h.bump _ hc.symm).set _ _ hs.symm).postEvent (by decide) _ hq

theorem path_preempted (s : State) (n op m : Nat) : (preempted s n op).path m = s.path m := by
  rw [preempted, calFail, path_of_paths (paths_postEvent ..), path_calResult, State.bump, State.bumpBy, State.set_path]

theorem ce_preempted (s : State) (n op : Nat) : (preempted s n op).ce e = s.ce e := by
  rw [preempted, calFail, ce_of_ces (ces_postEvent ..), calResult, State.set_ce, State.bump, State.bumpBy, State.set_ce]

theorem regs_restored (s : State) (n : Nat) : (restored s n).regs = s.regs := by
  unfold restored
  split <;> rfl

theorem ces_restored (s : State) (n : Nat) : (restored s n).ces = s.ces := by
  unfold restored
  split <;> rfl

theorem interval_restored (s : State) (n : Nat) : ((restored s n).path n).interval = (s.path n).interval := by
  unfold restored
  split
  · rw [path_setPath_self]
  · rfl

theorem stopped_leaves {key n : Nat} (hkey : key ≠ R.SYNTH_STATUS n) : Leaves key s (stopped s n) :=
  ((((Leaves.refl key s).same (restored_keeps s n) (regs_restored s n)).setPath n _).set _ _ hkey.symm)

theorem pathBlanked_stopped (w : Memory.wf s = true) {n : Nat} (hn : n < 16) :
    pathBlanked (stopped s n) n = ((s.path n).interval.isSome || !receiveLock s n) := by
  have hlock : receiveLock (stopped s n) n = receiveLock s n := by
    have hw := wf_keeps (restored_keeps s n) w
    rw [receiveLock, receiveLock, if_pos hn, if_pos hn]
    have hread (lo : Nat) (hlo : lo = 0 ∨ lo = 3) : (stopped s n).bit ⟨R.SYNTH_STATUS n, lo, 1⟩ = s.bit ⟨R.SYNTH_STATUS n, lo, 1⟩ := by
      have hsame : (restored s n).get ⟨R.SYNTH_STATUS n, lo, 1⟩ = s.get ⟨R.SYNTH_STATUS n, lo, 1⟩ := by
        rw [State.get, State.get, regs_restored]
      rw [bit_eq_get, bit_eq_get, ← hsame]
      rcases hlo with rfl | rfl <;> simp [stopped, wf_regs hw, R.SYNTH_STATUS_CAL]
    exact congrArg₂ (fun a b => a && !b) (hread 0 (.inl rfl)) (hread 3 (.inr rfl))
  have hpath : (stopped s n).path n =
      { (restored s n).path n with request := none, saved := none, yielded := false, loopback := false } := by
    rw [stopped, State.set_path, path_setPath_self]
  rw [pathBlanked, hlock, hpath]
  show (((restored s n).path n).interval.isSome || !receiveLock s n || false) = _
  rw [interval_restored, Bool.or_false]

/-- The engine of an accepted record waits where its path is blanked and searches where it is not. -/
structure InForce (s : State) (n e : Nat) : Prop where
  wf : Memory.wf s = true
  mem : e ∈ pathCes s n
  free : (s.ce e).pending = none
  state : ceState s e = if pathBlanked s n then ceBlank else ceSearch

theorem InForce.searching {n : Nat} (h : InForce s n e) : Searching s e := by
  refine ⟨h.free, ?_⟩
  rw [h.state]
  split
  · exact .inl rfl
  · exact .inr rfl

theorem InForce.preempt {n : Nat} (h : InForce s n e) (hn : n < 32) :
    InForce (calPreempt s n) n e ∧ Leaves (R.CE_ASG0 e) s (calPreempt s n) ∧ (calPreempt s n).ce e = s.ce e := by
  have he := lt_of_mem_pathCes hn h.mem
  rcases calPreempt_eq s n with heq | ⟨hn16, op, heq⟩
  · rw [heq]
    exact ⟨h, Leaves.refl _ s, rfl⟩
  have hy : Leaves (R.CE_ASG0 e) s (stopped s n) := stopped_leaves (by simp only [R.CE_ASG0, R.SYNTH_STATUS]; omega)
  have hystate : Leaves (R.CE_STATE e) s (stopped s n) := stopped_leaves (by simp only [R.CE_STATE, R.SYNTH_STATUS]; omega)
  have hyw := wf_keeps hy.keeps h.wf
  have hyce : (stopped s n).ce e = s.ce e := by rw [stopped, State.set_ce, State.setPath_ce, ce_of_ces (ces_restored s n)]
  have hyblank := pathBlanked_stopped h.wf hn16
  -- the engine after the end of blanking, where `stopped` leaves any
  have hz : Leaves (R.CE_ASG0 e) s (stopRequest s n) ∧ (stopRequest s n).ce e = s.ce e ∧
      ceState (stopRequest s n) e = if pathBlanked (stopped s n) n then ceBlank else ceSearch := by
    rw [stopRequest_stopped, unblankPath]
    have hsame : ceState (stopped s n) e = ceState s e := hystate.get (f := R.CE_STATE_STATE e) h.wf
    cases hb : pathBlanked (stopped s n) n with
    | true =>
      have hwas : pathBlanked s n = true := by
        rw [hyblank] at hb
        rw [pathBlanked, hb, Bool.true_or]
      exact ⟨hy, hyce, by rw [if_pos rfl, hsame, h.state, hwas, if_pos rfl]⟩
    | false =>
      have hsearch : Searching (stopped s n) e := ⟨by rw [hyce]; exact h.free, by rw [hsame]; exact h.searching.2⟩
      obtain ⟨hl, hc, hs⟩ := unblankFold_searching he hyw hsearch (pathCes (stopped s n) n) (fun o ho => lt_of_mem_pathCes hn ho) (Leaves.refl _ _)
        rfl hsearch.2
      exact ⟨hy.trans hl, hc.trans hyce, hs (.inl (mem_pathCes_of_leaves h.wf hy h.mem))⟩
  obtain ⟨hleaves, hce, hstate⟩ := hz
  have hzw := wf_keeps hleaves.keeps h.wf
  have hlast {key : Nat} (hq : noisy key = false) (hc : key ≠ R.CNT_CAL2 n) (hs : key ≠ R.CAL_STATUS n) :
      Leaves key (stopRequest s n) (preempted (stopRequest s n) n op) := (Leaves.refl _ _).preempted hq hc hs op
  have hv : Leaves (R.CE_ASG0 e) s (preempted (stopRequest s n) n op) :=
    hleaves.trans (hlast (offEngine_of_ne (e := e) (o := e + 1) (off := 0x10) he (by omega) (by decide)).quiet
      (by simp only [R.CE_ASG0, R.CNT_CAL2]; omega) (by simp only [R.CE_ASG0, R.CAL_STATUS]; omega))
  have hvstate : ceState (preempted (stopRequest s n) n op) e = ceState (stopRequest s n) e :=
    (hlast (offEngine_of_ne (e := e) (o := e + 1) (off := 0x30) he (by omega) (by decide)).quiet
      (by simp only [R.CNT_CAL2]; omega) (by simp only [R.CAL_STATUS]; omega)).get (f := R.CE_STATE_STATE e) hzw
  have hvce : (preempted (stopRequest s n) n op).ce e = s.ce e := (ce_preempted ..).trans hce
  have hunblank {key : Nat} (hk : OffEngines key) : Leaves key (stopped s n) (stopRequest s n) :=
    (Leaves.refl _ _).unblankPath hk hn
  have hvblank : pathBlanked (preempted (stopRequest s n) n op) n = pathBlanked (stopped s n) n :=
    pathBlanked_of_leaves hyw ((path_preempted ..).trans (path_of_paths (paths_unblankPath _ n) n))
      (fun _ => (hunblank (offEngines_synthStatus hn16)).trans (hlast (offEngines_synthStatus hn16).quiet
        (by simp only [R.SYNTH_STATUS, R.CNT_CAL2]; omega) (by simp only [R.SYNTH_STATUS, R.CAL_STATUS]; omega)))
      ((hunblank offEngines_jesdStatus).trans (hlast rfl (by simp only [R.JESD_STATUS, R.CNT_CAL2]; omega)
        (by simp only [R.JESD_STATUS, R.CAL_STATUS]; omega)))
  rw [heq]
  exact ⟨⟨wf_keeps hv.keeps h.wf, mem_pathCes_of_leaves h.wf hv h.mem, by rw [hvce]; exact h.free, by rw [hvstate, hstate, hvblank]⟩, hv, hvce⟩

/-! ## The rows -/

theorem lt_of_ceRuns (h : ceRuns s e = true) : e < 512 := by
  simp only [ceRuns, Bool.and_eq_true, decide_eq_true_eq] at h
  exact h.1.1.1.2

/-- A refusal rests on no engine's state. -/
theorem assignRefusal_congr {a : Assignment} (hpart : t.part = s.part) (hword : ∀ key, key ≠ R.CE_STATE e → t.word key = s.word key) :
    assignRefusal t e a = assignRefusal s e a := by
  have hget {f : Fld} (hf : f.key ≠ R.CE_STATE e) : t.get f = s.get f := by rw [get_eq_word, get_eq_word, hword _ hf]
  have hengine {off : Nat} (hoff : off < 0x1000) (hne : off ≠ 0x30) (o : Nat) : off + 0x02000000 + o * 0x1000 ≠ R.CE_STATE e := by
    simp only [R.CE_STATE]
    omega
  have hoffset (o : Nat) := hget (f := R.CE_ASG1_OFFSET o) (hengine (off := 0x14) (by decide) (by decide) o)
  have hmode (o : Nat) := hget (f := R.CE_ASG0_MODE o) (hengine (off := 0x10) (by decide) (by decide) o)
  have hactive (o : Nat) := hget (f := R.CE_ASG0_ACTIVE o) (hengine (off := 0x10) (by decide) (by decide) o)
  have hpath (o : Nat) := hget (f := R.CE_ASG0_PATH o) (hengine (off := 0x10) (by decide) (by decide) o)
  have hrate := hget (f := R.JESD_RATE_FS) (show R.JESD_RATE ≠ R.CE_STATE e by simp only [R.JESD_RATE, R.CE_STATE]; omega)
  have hrxa := hget (f := R.JESD_RXCH_A) (show R.JESD_RXCH ≠ R.CE_STATE e by simp only [R.JESD_RXCH, R.CE_STATE]; omega)
  have hrxb := hget (f := R.JESD_RXCH_B) (show R.JESD_RXCH ≠ R.CE_STATE e by simp only [R.JESD_RXCH, R.CE_STATE]; omega)
  have hon : ceOnPath t a.path = ceOnPath s a.path := funext fun o => by rw [ceOnPath, ceOnPath, bit_eq_get, bit_eq_get, hactive, hpath]
  have hces : pathCes t a.path = pathCes s a.path := by rw [pathCes, pathCes, hon]
  have hfits (x : Int) (b : Nat) : offsetFits t a.path x b = offsetFits s a.path x b := by
    rw [offsetFits, offsetFits, windowWidth, windowWidth, hrate]
  have ha : chainAEnabled t a.path = chainAEnabled s a.path := by rw [chainAEnabled, chainAEnabled, hrxa]
  have hb : chainBEnabled t a.path = chainBEnabled s a.path := by rw [chainBEnabled, chainBEnabled, hrxb]
  unfold assignRefusal
  extract_lets off
  rw [hpart, hces, hfits, ha, hb]
  simp only [hoffset, hmode]

/-- The state in which the engine takes its record off the slot engine's list. -/
def assignTaken (s : State) (e : Nat) : State := s.putPsm { s.psm with assigns := assocDel s.psm.assigns e }

theorem assignTaken_keeps (s : State) (e : Nat) : Keeps s (assignTaken s e) := State.putPsm_keeps (Keeps.refl s) _

theorem exec_assignmentRecord {l : EngineLoad} (hl : assocGet s.psm.assigns e = some l) (hrun : ceRuns s e = true) :
    exec (.assignmentRecord e) s = .next (
      let u := giveLoad (assignTaken s e) e l
      viewTone (if u.bit (R.CE_ASG0_ACTIVE e) && (u.ce e).pending.isNone then calPreempt u (u.get (R.CE_ASG0_PATH e)) else u) l.record.path) := by
  change execAssignmentRecord e s = _
  rw [execAssignmentRecord, hl]
  exact if_neg (by simp [hrun])

theorem Leaves.viewTone {key : Nat} {s0 : State} (h : Leaves key s0 s) (n : Nat) (hkey : n < 16 → key ≠ R.CAL_STATUS n) :
    Leaves key s0 (viewTone s n) := by
  unfold Machine.viewTone
  split
  next hn => exact (h.setPath n _).set _ _ (hkey hn).symm
  next => exact h

theorem ces_viewTone (s : State) (n : Nat) : (viewTone s n).ces = s.ces := (viewTone_frame rfl (Frame.refl 0x101 s) n).of .ces rfl

/-- A register of an engine through the view of the tone. -/
theorem Leaves.viewTone_ce {off : Nat} {s0 : State} (h : Leaves (off + 0x02000000 + e * 0x1000) s0 s) (n : Nat) (he : e < 512) (hoff : off < 0x1000) :
    Leaves (off + 0x02000000 + e * 0x1000) s0 (Machine.viewTone s n) :=
  h.viewTone n fun hn => by simp only [R.CAL_STATUS]; omega

theorem assignmentRecord_waits (w : Memory.wf s = true) {l : EngineLoad} (hl : assocGet s.psm.assigns e = some l) (hrun : ceRuns s e = true)
    (hframe : ceState s e = ceAcq ∨ ceState s e = ceDecode) : ∃ t, exec (.assignmentRecord e) s = .next t ∧
      t.ce e = { s.ce e with pending := some l } ∧ t.get (R.CE_STATE_PENDING e) = 1 ∧ ceState t e = ceState s e := by
  have he := lt_of_ceRuns hrun
  generalize hu : ((assignTaken s e).setCe e { s.ce e with pending := some l }).set (R.CE_STATE_PENDING e) 1 = u
  have hgive : giveLoad (assignTaken s e) e l = u := by rw [← hu]; exact if_pos hframe
  have huce : u.ce e = { s.ce e with pending := some l } := by rw [← hu, State.set_ce, ce_setCe_self]
  have huw : Memory.wf u = true := by
    rw [← hu]
    exact wf_set (wf_keeps (State.setCe_keeps (assignTaken_keeps s e) _ _) w) _ _
  have htone := (Leaves.refl (R.CE_STATE e) u).viewTone_ce (off := 0x30) l.record.path he (by decide)
  have hexec := exec_assignmentRecord hl hrun
  dsimp only at hexec
  rw [hgive, if_neg (by rw [huce]; simp)] at hexec
  have hregs : (assignTaken s e).regs = s.regs := rfl
  refine ⟨_, hexec, ?_, ?_, ?_⟩
  · rw [ce_of_ces (ces_viewTone ..), huce]
  · rw [htone.get (f := R.CE_STATE_PENDING e) huw, ← hu]
    simp [wf_regs w, hregs, R.CE_STATE_PENDING]
  · refine (htone.get (f := R.CE_STATE_STATE e) huw).trans ?_
    rw [← hu]
    simp [wf_regs w, R.CE_STATE_PENDING, R.CE_STATE_STATE, ceState, assignTaken]

theorem assignTaken_get (s : State) (e : Nat) (f : Fld) : (assignTaken s e).get f = s.get f := State.putPsm_get ..

theorem assignmentRecord_released (w : Memory.wf s = true) {l : EngineLoad} (hl : assocGet s.psm.assigns e = some l) (hrun : ceRuns s e = true)
    (hacq : ceState s e ≠ ceAcq) (hdec : ceState s e ≠ ceDecode) (hactive : l.record.active = 0) : ∃ t, exec (.assignmentRecord e) s = .next t ∧
      ceState t e = ceIdle ∧ t.get (R.CE_ASG0_ACTIVE e) = 0 := by
  have he := lt_of_ceRuns hrun
  have hgive : giveLoad (assignTaken s e) e l = takeAssignment (assignTaken s e) e l := if_neg (fun h => h.elim hacq hdec)
  have hkeeps : Keeps s (writeAssignment (engineLoaded (assignTaken s e) e l) e l.record) :=
    writeAssignment_keeps ((assignTaken_keeps s e).trans (engineLoaded_keeps _ _ _)) _ _
  have hlw := wf_keeps ((assignTaken_keeps s e).trans (engineLoaded_keeps _ e l)) w
  generalize hx : (writeAssignment (engineLoaded (assignTaken s e) e l) e l.record).set (R.CE_STATE_STATE e) ceIdle = x
  have hxw : Memory.wf x = true := by rw [← hx]; exact wf_set (wf_keeps hkeeps w) _ _
  have hxactive : x.get (R.CE_ASG0_ACTIVE e) = 0 := by
    have h := (get_writeAssignment (e := e) hlw l.record).1
    rw [hactive] at h
    rw [← hx]
    have hkey : R.CE_ASG0 e ≠ R.CE_STATE e := by simp only [R.CE_ASG0, R.CE_STATE]; omega
    exact (get_set_apart (wf_keeps hkeeps w) (show 0 + 3 ≤ 32 by decide) (.inl hkey.symm) _).trans h
  have hxstate : ceState x e = ceIdle := by rw [← hx]; exact ceState_set (wf_keeps hkeeps w) (by decide)
  have hlag {off : Nat} (hoff : off < 0x1000) (n : Nat) : Leaves (off + 0x02000000 + e * 0x1000) x (viewLag x n) :=
    (Leaves.refl _ x).viewLag (ceKey_lag he hoff) n
  have htake : takeAssignment (assignTaken s e) e l = viewLag x ((assignTaken s e).get (R.CE_ASG0_PATH e)) := by
    rw [takeAssignment_released hactive, hx]
  have hexec := exec_assignmentRecord hl hrun
  dsimp only at hexec
  rw [hgive, htake] at hexec
  generalize (assignTaken s e).get (R.CE_ASG0_PATH e) = old at hexec
  have hlagActive : (viewLag x old).get (R.CE_ASG0_ACTIVE e) = 0 :=
    ((hlag (off := 0x10) (by decide) old).get (f := R.CE_ASG0_ACTIVE e) hxw).trans hxactive
  rw [if_neg (by rw [bit_eq_get, hlagActive]; simp)] at hexec
  have hvw := wf_keeps (hlag (off := 0) (by decide) old).keeps hxw
  refine ⟨_, hexec, ?_, ?_⟩
  · exact (((Leaves.refl _ _).viewTone_ce (off := 0x30) l.record.path he (by decide)).get (f := R.CE_STATE_STATE e) hvw).trans
      (((hlag (off := 0x30) (by decide) old).get (f := R.CE_STATE_STATE e) hxw).trans hxstate)
  · exact (((Leaves.refl _ _).viewTone_ce (off := 0x10) l.record.path he (by decide)).get (f := R.CE_ASG0_ACTIVE e) hvw).trans hlagActive

/-- What an accepted record leaves in the engine. -/
theorem takeAssignment_inForce (w : Memory.wf s = true) {l : EngineLoad} (he : e < 512) (hactive : l.record.active = 1)
    (hok : assignRefusal s e l.record = none) : l.record.path < 32 ∧ InForce (takeAssignment s e l) l.record.path e ∧
      (takeAssignment s e l).get (R.CE_ASG0_ACTIVE e) = 1 ∧ (takeAssignment s e l).get (R.CE_ASG0_PATH e) = l.record.path % 32 ∧
      (takeAssignment s e l).get (R.CE_ASG0_MODE e) = l.record.mode % 256 ∧
      ((takeAssignment s e l).ce e).activeSet = rxSetOf (s.path l.record.path) ∧ ((takeAssignment s e l).ce e).maps = l.maps := by
  have hpath : pathCluster l.record.path = ceCluster e ∧ pathPresent s.part l.record.path = true := by
    unfold assignRefusal at hok
    extract_lets off at hok
    split at hok
    · cases hok
    next h => simpa using h
  have hn : l.record.path < 32 := by
    have h := hpath.2
    unfold pathPresent at h
    split at h
    · omega
    · simp only [Bool.and_eq_true, decide_eq_true_eq] at h
      exact h.1
  have hlw := wf_keeps (engineLoaded_keeps s e l) w
  have hword (key : Nat) (hkey : key ≠ R.CE_STATE e) : (engineLoaded s e l).word key = s.word key :=
    word_set_of_ne (wf_keeps (State.setCe_keeps (Keeps.refl s) _ _) w) hkey _
  have hpart : (engineLoaded s e l).part = s.part := rfl
  have hok' : assignRefusal (engineLoaded s e l) e l.record = none := by rw [assignRefusal_congr hpart hword, hok]
  rw [takeAssignment_taken (by rw [hactive]; decide) hok']
  generalize hu : engineLoaded s e l = u at hlw
  have huce : (u.ce e).pending = none ∧ (u.ce e).activeSet = rxSetOf (s.path l.record.path) ∧ (u.ce e).maps = l.maps := by
    rw [← hu, engineLoaded, State.set_ce, ce_setCe_self]
    exact ⟨rfl, rfl, rfl⟩
  have hww : Memory.wf (writeAssignment u e l.record) = true := wf_keeps (writeAssignment_keeps (Keeps.refl u) _ _) hlw
  obtain ⟨hwactive, hwpath, hwmode⟩ := get_writeAssignment (e := e) hlw l.record
  have hwpaths : (writeAssignment u e l.record).paths = u.paths := (writeAssignment_frame rfl (Frame.refl 0x1 u) e l.record).of .paths rfl
  have hwces : (writeAssignment u e l.record).ces = u.ces := ces_writeAssignment ..
  generalize hx : writeAssignment u e l.record = x at hww hwactive hwpath hwmode hwpaths hwces
  have hassigned : engineAssigned u e l.record = x.set (R.CE_STATE_STATE e) (if pathBlanked x l.record.path then ceBlank else ceSearch) := by
    rw [engineAssigned, hx]
  rw [hassigned]
  generalize rxEpoch (x.set (R.CE_STATE_STATE e) (if pathBlanked x l.record.path then ceBlank else ceSearch)) l.record.path = epoch
  generalize s.get (R.CE_ASG0_PATH e) = old
  generalize hv : (x.set (R.CE_STATE_STATE e) (if pathBlanked x l.record.path then ceBlank else ceSearch)).set (R.CE_STATE_EPOCH e) epoch = v
  have hvw : Memory.wf v = true := by rw [← hv]; exact wf_set (wf_set hww _ _) _ _
  have hxv : Leaves (R.CE_ASG0 e) x v := by
    rw [← hv]
    have hkey : R.CE_STATE e ≠ R.CE_ASG0 e := by simp only [R.CE_ASG0, R.CE_STATE]; omega
    exact ((Leaves.refl _ x).set _ _ hkey).set _ _ hkey
  have hvstate : ceState v e = if pathBlanked x l.record.path then ceBlank else ceSearch := by
    rw [← hv]
    split <;> simp [ceState, wf_regs hww, R.CE_STATE_STATE, R.CE_STATE_EPOCH, ceBlank, ceSearch]
  have hlag {key : Nat} (hk : ∀ i < 16, key ≠ R.CAL_LAG i) : Leaves key v (viewLag (viewLag v l.record.path) old) :=
    ((Leaves.refl _ v).viewLag hk _).viewLag hk _
  have hz : Leaves (R.CE_ASG0 e) x (viewLag (viewLag v l.record.path) old) := hxv.trans (hlag (ceKey_lag (off := 0x10) he (by decide)))
  have hzce : (viewLag (viewLag v l.record.path) old).ce e = u.ce e := by
    rw [ce_of_ces (ces_viewLag ..), ce_of_ces (ces_viewLag ..), ← hv, State.set_ce, State.set_ce, ce_of_ces hwces]
  have hzpath : (viewLag (viewLag v l.record.path) old).path l.record.path = x.path l.record.path := by
    rw [path_of_paths (paths_viewLag ..), path_of_paths (paths_viewLag ..), ← hv, State.set_path, State.set_path]
  have hxkey {key : Nat} (hk : OffEngines key) : Leaves key x (viewLag (viewLag v l.record.path) old) := by
    refine Leaves.trans ?_ (hlag hk.lag)
    rw [← hv]
    exact ((Leaves.refl _ x).engine (hk.engine he) _ _ ⟨_, rfl, by decide⟩).engine (hk.engine he) _ _ ⟨_, rfl, by decide⟩
  have hblank : pathBlanked (viewLag (viewLag v l.record.path) old) l.record.path = pathBlanked x l.record.path :=
    pathBlanked_of_leaves hww hzpath (fun hn16 => hxkey (offEngines_synthStatus hn16)) (hxkey offEngines_jesdStatus)
  have hzactive : (viewLag (viewLag v l.record.path) old).get (R.CE_ASG0_ACTIVE e) = 1 := by
    rw [hz.get (f := R.CE_ASG0_ACTIVE e) hww, hwactive, hactive]
  have hzget : (viewLag (viewLag v l.record.path) old).get (R.CE_ASG0_PATH e) = l.record.path % 32 :=
    (hz.get (f := R.CE_ASG0_PATH e) hww).trans hwpath
  refine ⟨hn, ⟨wf_keeps hz.keeps hww, ?_, by rw [hzce]; exact huce.1, ?_⟩, hzactive, hzget, ?_, by rw [hzce]; exact huce.2.1,
    by rw [hzce]; exact huce.2.2⟩
  · rw [mem_pathCes, ceOnPath, bit_eq_get, hzactive, hzget, Nat.mod_eq_of_lt hn, hpath.1]
    refine ⟨List.mem_map.2 ⟨e % 128, List.mem_range.2 (Nat.mod_lt _ (by decide)), ?_⟩, by simp⟩
    unfold ceCluster
    omega
  · rw [hblank, ← hvstate]
    exact (hlag (ceKey_lag (off := 0x30) he (by decide))).get (f := R.CE_STATE_STATE e) hvw
  · exact (hz.get (f := R.CE_ASG0_MODE e) hww).trans hwmode

theorem assignmentRecord_taken (w : Memory.wf s = true) {l : EngineLoad} (hl : assocGet s.psm.assigns e = some l) (hrun : ceRuns s e = true)
    (hacq : ceState s e ≠ ceAcq) (hdec : ceState s e ≠ ceDecode) (hactive : l.record.active = 1) (hok : assignRefusal s e l.record = none) :
    ∃ t, exec (.assignmentRecord e) s = .next t ∧ ceState t e = (if pathBlanked t l.record.path then ceBlank else ceSearch) ∧
      t.get (R.CE_ASG0_ACTIVE e) = 1 ∧ t.get (R.CE_ASG0_PATH e) = l.record.path % 32 ∧ t.get (R.CE_ASG0_MODE e) = l.record.mode % 256 ∧
      (t.ce e).activeSet = rxSetOf (s.path l.record.path) ∧ (t.ce e).maps = l.maps := by
  have he := lt_of_ceRuns hrun
  have hgive : giveLoad (assignTaken s e) e l = takeAssignment (assignTaken s e) e l := if_neg (fun h => h.elim hacq hdec)
  have hok' : assignRefusal (assignTaken s e) e l.record = none := (assignRefusal_congr rfl (fun _ _ => rfl)).trans hok
  obtain ⟨hn, hforce, ha, hp, hm, hset, hmaps⟩ := takeAssignment_inForce (wf_keeps (assignTaken_keeps s e) w) he hactive hok'
  have hexec := exec_assignmentRecord hl hrun
  dsimp only at hexec
  rw [hgive] at hexec
  have hspath : (assignTaken s e).path l.record.path = s.path l.record.path := State.putPsm_path ..
  rw [hspath] at hset
  generalize takeAssignment (assignTaken s e) e l = u at hexec hforce ha hp hm hset hmaps
  rw [if_pos (by rw [bit_eq_get, ha, hforce.free]; rfl), hp, Nat.mod_eq_of_lt hn] at hexec
  obtain ⟨hpre, hleaves, hce⟩ := hforce.preempt hn
  generalize calPreempt u l.record.path = v at hexec hpre hleaves hce
  have htone {off : Nat} (hoff : off < 0x1000) : Leaves (off + 0x02000000 + e * 0x1000) v (viewTone v l.record.path) :=
    (Leaves.refl _ v).viewTone_ce _ he hoff
  have hfield {lo n : Nat} : (viewTone v l.record.path).get ⟨R.CE_ASG0 e, lo, n⟩ = u.get ⟨R.CE_ASG0 e, lo, n⟩ :=
    ((htone (off := 0x10) (by decide)).get (f := ⟨R.CE_ASG0 e, lo, n⟩) hpre.wf).trans (hleaves.get (f := ⟨R.CE_ASG0 e, lo, n⟩) hforce.wf)
  have hblank : pathBlanked (viewTone v l.record.path) l.record.path = pathBlanked v l.record.path := by
    have hlock : receiveLock (viewTone v l.record.path) l.record.path = receiveLock v l.record.path :=
      receiveLock_of_leaves hpre.wf (fun _ => (Leaves.refl _ v).viewTone _ fun _ => by simp only [R.SYNTH_STATUS, R.CAL_STATUS]; omega)
        ((Leaves.refl _ v).viewTone _ fun _ => by simp only [R.JESD_STATUS, R.CAL_STATUS]; omega)
    rw [pathBlanked, pathBlanked, hlock]
    unfold viewTone
    split
    · rw [State.setBit, State.set_path, path_setPath_self]
    · rfl
  refine ⟨_, hexec, ?_, ?_, ?_, ?_, ?_, ?_⟩
  · rw [hblank, ← hpre.state]
    exact (htone (off := 0x30) (by decide)).get (f := R.CE_STATE_STATE e) hpre.wf
  · exact hfield.trans ha
  · exact hfield.trans hp
  · exact hfield.trans hm
  · rw [ce_of_ces (ces_viewTone ..), hce, hset]
  · rw [ce_of_ces (ces_viewTone ..), hce, hmaps]

/-! ## Detection -/

theorem ce_mirrorFold (l : List Nat) (s : State) (e : Nat) :
    let v := foldState (fun (t : State) o => t.setCe o { t.ce o with mirror := true }) s l
    v.regs = s.regs ∧ ∃ b, v.ce e = { s.ce e with mirror := b } := by
  induction l generalizing s with
  | nil => exact ⟨rfl, (s.ce e).mirror, rfl⟩
  | cons o l ih =>
    obtain ⟨hregs, b, hb⟩ := ih (s.setCe o { s.ce o with mirror := true })
    refine ⟨hregs, ?_⟩
    by_cases heo : e = o
    · subst heo
      exact ⟨b, hb.trans (by rw [ce_setCe_self])⟩
    · exact ⟨b, hb.trans (by rw [ce_setCe_of_ne s heo])⟩

/-- Marking the mirror channel's frames changes nothing else of an engine. -/
theorem markMirror_row (s : State) (e : Nat) : (markMirror s e).regs = s.regs ∧ ∃ b, (markMirror s e).ce e = { s.ce e with mirror := b } := by
  obtain ⟨hregs, b, hb⟩ := ce_mirrorFold ((mirrorEngines s e).filter (inFrame s))
    (s.setCe e { s.ce e with mirror := !((mirrorEngines s e).filter (inFrame s)).isEmpty }) e
  exact ⟨hregs, b, hb.trans (by rw [ce_setCe_self])⟩

theorem preambleDetect_row (w : Memory.wf s = true) {rhoA rhoB : Nat} {h : Int} (hrun : ceRuns s e = true) (hsearch : ceState s e = ceSearch)
    (hok : hypothesisOk s e h = true) (hrho : (chainUsed s e 0 = true ∧ detThreshold s e (s.get (R.CE_ASG0_MODE e)) * 256 ≤ rhoA) ∨
      (chainUsed s e 1 = true ∧ detThreshold s e (s.get (R.CE_ASG0_MODE e)) * 256 ≤ rhoB)) :
    ∃ t, exec (.preambleDetect e rhoA rhoB h) s = .next t ∧ ceState t e = ceAcq ∧ (t.ce e).chosen = none ∧ (t.ce e).sfdTime = none ∧
      t.get (R.CE_CNT_DET_DET e) = min (2 ^ (R.CE_CNT_DET_DET e).width - 1) (s.get (R.CE_CNT_DET_DET e) + 1) := by
  generalize hu : (s.set (R.CE_STATE_STATE e) ceAcq).bump (R.CE_CNT_DET_DET e) = u
  generalize hx : u.setCe e { u.ce e with
    chosen := none, metricA := 0, metricB := 0, sfdTime := none, stale := false, usesPending := false, acquired := 0, len := 0 } = x
  have hexec : exec (.preambleDetect e rhoA rhoB h) s = .next (markMirror x e) := by
    change execPreambleDetect e rhoA rhoB h s = _
    rw [execPreambleDetect, if_neg (by simp [hrun, hsearch, hok])]
    refine (if_pos (by simpa using hrho)).trans ?_
    rw [← hx, ← hu]
  obtain ⟨hregs, b, hb⟩ := markMirror_row x e
  have hxu : x.regs = u.regs := by rw [← hx]; rfl
  have hget (f : Fld) : (markMirror x e).get f = u.get f := by rw [State.get, State.get, hregs, hxu]
  have hxce : (x.ce e).chosen = none ∧ (x.ce e).sfdTime = none := by rw [← hx, ce_setCe_self]; exact ⟨rfl, rfl⟩
  have hkey : R.CE_STATE e ≠ R.CE_CNT_DET e := by simp only [R.CE_STATE, R.CE_CNT_DET]; omega
  refine ⟨_, hexec, ?_, by rw [hb]; exact hxce.1, by rw [hb]; exact hxce.2, ?_⟩
  · rw [ceState, hget, ← hu]
    simp [wf_regs w, R.CE_STATE_STATE, R.CE_CNT_DET_DET, hkey, ceAcq]
  · rw [hget, ← hu]
    simp [wf_regs w, R.CE_STATE_STATE, R.CE_CNT_DET_DET, hkey.symm]

theorem falseDetection_row (w : Memory.wf s = true) (hrun : ceRuns s e = true) (hacq : ceState s e = ceAcq) (hfree : (s.ce e).pending = none) :
    ∃ t, exec (.falseDetection e) s = .next t ∧ ceState t e = ceSearch ∧ (t.ce e).falseSec = (s.ce e).falseSec + 1 ∧
      t.get (R.CE_CNT_DET_FALSE_DET e) = min (2 ^ (R.CE_CNT_DET_FALSE_DET e).width - 1) (s.get (R.CE_CNT_DET_FALSE_DET e) + 1) := by
  generalize hu : (s.bump (R.CE_CNT_DET_FALSE_DET e)).setCe e { s.ce e with falseSec := (s.ce e).falseSec + 1 } = u
  have huce : u.ce e = { s.ce e with falseSec := (s.ce e).falseSec + 1 } := by rw [← hu, ce_setCe_self]
  have huw : Memory.wf u = true := by rw [← hu]; exact wf_keeps (State.setCe_keeps (Keeps.refl _) _ _) (wf_bump w _)
  have hexec : exec (.falseDetection e) s = .next (u.set (R.CE_STATE_STATE e) ceSearch) := by
    rw [← backToSearch_of_none (by rw [huce]; exact hfree), ← hu]
    exact if_neg (by simp [hrun, hacq])
  have hkey : R.CE_STATE e ≠ R.CE_CNT_DET e := by simp only [R.CE_STATE, R.CE_CNT_DET]; omega
  refine ⟨_, hexec, ceState_set huw (by decide), by rw [State.set_ce, huce], ?_⟩
  rw [get_set_apart huw (show 0 + 3 ≤ 32 by decide) (.inl hkey), ← hu]
  simp [wf_regs w, R.CE_CNT_DET_FALSE_DET]

theorem falseFold (l : List Nat) (s : State) :
    let v := foldState (fun (t : State) o => if (t.ce o).falseSec = 0 then t else t.setCe o { t.ce o with falseSec := 0 }) s l
    v.regs = s.regs ∧ Keeps s v ∧ (∀ x, x ∈ l ∨ (s.ce x).falseSec = 0 → (v.ce x).falseSec = 0) := by
  induction l generalizing s with
  | nil => exact ⟨rfl, Keeps.refl s, fun x hx => hx.resolve_left (by simp)⟩
  | cons o l ih =>
    generalize hu : (if (s.ce o).falseSec = 0 then s else s.setCe o { s.ce o with falseSec := 0 }) = u
    have hu' : u.regs = s.regs ∧ Keeps s u ∧ ∀ x, x = o ∨ (s.ce x).falseSec = 0 → (u.ce x).falseSec = 0 := by
      rw [← hu]
      split
      next hz => exact ⟨rfl, Keeps.refl s, fun x hx => hx.elim (fun h => h ▸ hz) id⟩
      next hz =>
        refine ⟨rfl, State.setCe_keeps (Keeps.refl s) _ _, fun x hx => ?_⟩
        by_cases hxo : x = o
        · rw [hxo, ce_setCe_self]
        · rw [ce_setCe_of_ne s hxo]
          exact hx.resolve_left hxo
    obtain ⟨hregs, hkeeps, hzero⟩ := ih u
    obtain ⟨huregs, hukeeps, huzero⟩ := hu'
    simp only [foldState, List.foldl_cons, hu]
    refine ⟨hregs.trans huregs, hukeeps.trans hkeeps, fun x hx => hzero x ?_⟩
    rcases hx with hx | hx
    · rcases List.mem_cons.1 hx with rfl | hmem
      · exact .inr (huzero _ (.inl rfl))
      · exact .inl hmem
    · exact .inr (huzero x (.inr hx))

theorem falseDetSecond_row (w : Memory.wf s = true) {c : Nat} (hrun : running s = true) (hcluster : clusterPresent s.part c = true) :
    ∃ t, exec (.falseDetSecond c) s = .next t ∧ t.get (R.CL_STAT_FD_HIGH c) =
      boolNat (decide (s.get (R.CL_FD_LIMIT c) < (clusterCes c).foldl (fun a x => a + (s.ce x).falseSec) 0)) ∧
      ∀ x, x ∈ clusterCes c → (t.ce x).falseSec = 0 := by
  have hc : c < 4 := by
    simp only [clusterPresent, Bool.and_eq_true, decide_eq_true_eq] at hcluster
    exact hcluster.1
  obtain ⟨hregs, hkeeps, hzero⟩ := falseFold (clusterCes c) s
  have hget (f : Fld) := congrArg (fun r => getBits (cellsRead resetWord r f.key) f.lo f.width) hregs
  change ∃ t, execFalseDetSecond c s = .next t ∧ _
  rw [execFalseDetSecond, if_neg (by simp [hrun, hcluster])]
  dsimp only
  generalize foldState (fun (t : State) o => if (t.ce o).falseSec = 0 then t else t.setCe o { t.ce o with falseSec := 0 }) s (clusterCes c) = v
    at hget hkeeps hzero
  have hlimit : v.get (R.CL_FD_LIMIT c) = s.get (R.CL_FD_LIMIT c) := hget _
  have hvw := wf_keeps hkeeps w
  have hzero' : ∀ x, x ∈ clusterCes c → (v.ce x).falseSec = 0 := fun x hx => hzero x (.inl hx)
  have hset (b : Nat) : (v.set (R.CL_STAT_FD_HIGH c) b).get (R.CL_STAT_FD_HIGH c) = b % 2 := get_set_self hvw (show 0 + 1 ≤ 32 by decide) b
  have hquiet : noisy (R.CL_STAT c) = false := noisy_eq_false (by unfold R.CL_STAT; omega)
  rw [hlimit]
  by_cases hover : s.get (R.CL_FD_LIMIT c) < (clusterCes c).foldl (fun a x => a + (s.ce x).falseSec) 0
  · rw [if_pos hover, decide_eq_true hover]
    split
    next hbit =>
      refine ⟨v, rfl, ?_, hzero'⟩
      rw [bit_eq_get, decide_eq_true_eq] at hbit
      exact hbit
    next =>
      refine ⟨_, rfl, ?_, fun x hx => ?_⟩
      · rw [get_postEvent (wf_set hvw _ _) (by decide) _ (R.CL_STAT_FD_HIGH c) hquiet, hset]
        rfl
      · rw [ce_of_ces (ces_postEvent ..), State.set_ce, hzero' x hx]
  · rw [if_neg hover, decide_eq_false hover]
    exact ⟨_, rfl, hset 0, fun x hx => by rw [State.set_ce, hzero' x hx]⟩

/-- Settles O12: a record waits, releases its engine or comes into force, where blanking and an exclusive run of the path end as they
did before. -/
theorem detectionRowsComplete : Obligations.DetectionRowsComplete := by
  intro s e w
  refine ⟨?waits, ?released, ?taken, ?detect, ?false_, ?second⟩
  case waits => exact fun l hl hrun hframe => assignmentRecord_waits w hl hrun hframe
  case released => exact fun l hl hrun hacq hdec hactive => assignmentRecord_released w hl hrun hacq hdec hactive
  case taken => exact fun l hl hrun hacq hdec hactive hok => assignmentRecord_taken w hl hrun hacq hdec hactive hok
  case detect => exact fun rhoA rhoB h hrun hsearch hok hrho => preambleDetect_row w hrun hsearch hok hrho
  case false_ => exact fun hrun hacq hfree => falseDetection_row w hrun hacq hfree
  case second => exact fun c hrun hcluster => falseDetSecond_row w hrun hcluster

end Sys2Proof.Machine
end

section
/-!
Reception by an engine (R147, R148, R179, R186 to R196): the rows of O13.
-/

namespace Sys2Proof.Machine

variable {s : State} {e : Nat}

/-! ## Items for a cluster's receive queue -/

theorem Leaves.pushItem_rx {key : Nat} {s0 : State} (h : Leaves key s0 s) (n : noisy key = false) (hrx : ∀ i < 512, key ≠ R.CE_CNT_RX i) {q : Nat}
    (hq : q < 4) (l : Nat) (i : QueueItem) : Leaves key s0 (Machine.pushItem s q l i) := by
  have hcount {u : State} (hu : Leaves key s0 u) : Leaves key s0 (countReceived u q l i) := by
    unfold countReceived
    exact ite (hu.bump _ (hrx _ (by omega)).symm) hu
  unfold Machine.pushItem
  exact ite (hcount (h.putQueue n (by omega) _)) (h.putQueue n (by omega) _)

/-- The registers of an engine other than the count of its frames. -/
theorem Leaves.pushItem_ce {off : Nat} {s0 : State} (h : Leaves (off + 0x02000000 + e * 0x1000) s0 s) (he : e < 512) (hoff : off < 0x1000)
    (hrx : off ≠ 0x44) (l : Nat) (i : QueueItem) : Leaves (off + 0x02000000 + e * 0x1000) s0 (Machine.pushItem s (ceCluster e) l i) :=
  h.pushItem_rx (noisy_eq_false (by omega)) (fun o _ => by simp only [R.CE_CNT_RX]; omega) (by unfold ceCluster; omega) l i

/-! ## The rows -/

theorem exec_antennaDecision_hintA {a b : Nat} (hrun : ceRuns s e = true) (hacq : ceState s e = ceAcq) (hfree : (s.ce e).chosen = none)
    (ha : chainUsed s e 0 = true) (hb : chainUsed s e 1 = true) (hhint : s.get (R.CE_ASG0_HINT_B e) = 0) :
    exec (.antennaDecision e a b) s = .next (s.setCe e { s.ce e with
      chosen := some (if 2 * s.get (R.CL_ANT_HYST (ceCluster e)) < 5 * (b - a) then 1 else 0), metricA := min 255 a, metricB := min 255 b }) := by
  change execAntennaDecision e a b s = _
  rw [execAntennaDecision, if_neg (by simp [hrun, hacq, hfree])]
  simp [ha, hb, hhint]

theorem sfdDetect_row (w : Memory.wf s = true) {time : Nat} {est : Int} (hrun : ceRuns s e = true) (hacq : ceState s e = ceAcq)
    (hchosen : (s.ce e).chosen.isSome = true) : ∃ t, exec (.sfdDetect e time est) s = .next t ∧ ceState t e = ceDecode ∧
      (t.ce e).pendingSet = none ∧ (t.ce e).sfdTime = some (t.tbNs * 65536 + t.tb.frac.toNat / 65536) ∧
      (∀ x l, (s.ce e).pendingSet = some (x, l) → t.get (R.CE_STATE_EPOCH e) = x % 65536 ∧ (t.ce e).activeSet = l) := by
  have he := lt_of_ceRuns hrun
  obtain ⟨chain, hchain⟩ := Option.isSome_iff_exists.1 hchosen
  have hkeeps : Keeps s (s.advanceTo time) := State.advanceTo_keeps (Keeps.refl s) time
  have hce : (s.advanceTo time).ce e = s.ce e := ce_of_ces ((State.advanceTo_frame rfl (Frame.refl 0x40080000 s) time).of .ces rfl) e
  have hexec : ∃ u : State, Memory.wf u = true ∧ (∀ x l, (s.ce e).pendingSet = some (x, l) → u.get (R.CE_STATE_EPOCH e) = x % 65536) ∧
      ∃ c : CeState, ∃ n, c.pendingSet = none ∧ c.sfdTime = some (u.tbNs * 65536 + u.tb.frac.toNat / 65536) ∧
        (∀ x l, (s.ce e).pendingSet = some (x, l) → c.activeSet = l) ∧
        exec (.sfdDetect e time est) s = .next (viewLag ((u.setCe e c).set (R.CE_STATE_STATE e) ceDecode) n) := by
    change ∃ u : State, Memory.wf u = true ∧ _ ∧ ∃ c : CeState, ∃ n, _ ∧ _ ∧ _ ∧ execSfdDetect e time est s = _
    rw [execSfdDetect, if_neg (by simp [hrun, hacq, hchain])]
    dsimp only
    rw [hce]
    generalize s.advanceTo time = v at hkeeps
    have hvw := wf_keeps hkeeps w
    cases hset : (s.ce e).pendingSet with
    | none => exact ⟨v, hvw, fun _ _ h => (by cases h), _, _, rfl, rfl, fun _ _ h => (by cases h), rfl⟩
    | some p =>
      refine ⟨v.set (R.CE_STATE_EPOCH e) p.1, wf_set hvw _ _, fun x l h => ?_, _, _, rfl, rfl, fun x l h => ?_, rfl⟩
      · cases h
        exact get_set_self hvw (show 16 + 16 ≤ 32 by decide) _
      · cases h
        rfl
  obtain ⟨u, huw, hepoch, c, n, hpend, htime, hactive, hexec⟩ := hexec
  generalize hv : (u.setCe e c).set (R.CE_STATE_STATE e) ceDecode = v at hexec
  have hvw : Memory.wf v = true := by rw [← hv]; exact wf_set (wf_keeps (State.setCe_keeps (Keeps.refl u) _ _) huw) _ _
  have hlag : Leaves (R.CE_STATE e) v (viewLag v n) := (Leaves.refl _ v).viewLag (ceKey_lag (off := 0x30) he (by decide)) n
  have htce : (viewLag v n).ce e = c := by rw [ce_of_ces (ces_viewLag ..), ← hv, State.set_ce, ce_setCe_self]
  have htb : (viewLag v n).tb = u.tb := by
    rw [(viewLag_frame rfl (Frame.refl 0x1 v) n).of .tb rfl, ← hv]
    rfl
  have htbNs : (viewLag v n).tbNs = u.tbNs := by rw [State.tbNs, htb]; rfl
  refine ⟨_, hexec, ?_, by rw [htce, hpend], by rw [htce, htime, htb, htbNs], fun x l h => ⟨?_, by rw [htce, hactive x l h]⟩⟩
  · refine (hlag.get (f := R.CE_STATE_STATE e) hvw).trans ?_
    rw [← hv]
    exact ceState_set (wf_keeps (State.setCe_keeps (Keeps.refl u) _ _) huw) (by decide)
  · rw [hlag.get (f := R.CE_STATE_EPOCH e) hvw, ← hepoch x l h, ← hv]
    simp [wf_regs huw, R.CE_STATE_STATE, R.CE_STATE_EPOCH]

theorem exec_phrDecode_phr {h len : Nat} {f4 res sw hcs : Bool} {mcs : Nat} (hrun : ceRuns s e = true) (hdec : ceState s e = ceDecode)
    (hmode : modeFamily (s.get (R.CE_ASG0_MODE e)) ≠ 3) (hok : phrOk (s.get (R.CE_ASG0_MODE e)) len f4 res sw hcs mcs = true) :
    exec (.phrDecode e h len f4 res sw hcs mcs) s = .next (s.setCe e { s.ce e with
      stale := false, usesPending := false, len := len, fcs4 := decide (modeFamily (s.get (R.CE_ASG0_MODE e)) ≠ 2) && f4, rate := 0,
      mapSel := false, mapChk := 0, mreq := false }) := by
  change execPhrDecode e h len f4 res sw hcs mcs s = _
  rw [execPhrDecode, if_neg (by simp [hrun, hdec])]
  simp [hmode, hok]

theorem phrDecode_indigo {h len : Nat} {f4 res sw hcs : Bool} {mcs : Nat} (hrun : ceRuns s e = true) (hdec : ceState s e = ceDecode)
    (hmode : modeFamily (s.get (R.CE_ASG0_MODE e)) = 3) (hok : headerOk h = true) :
    ∃ t, exec (.phrDecode e h len f4 res sw hcs mcs) s = .next t ∧ (t.ce e).len = natBits h 0 11 ∧ (t.ce e).rate = natBits h 11 2 ∧
      (t.ce e).mapSel = natBit h 13 ∧ (t.ce e).mapChk = natBits h 14 4 ∧ (t.ce e).fcs4 = natBit h 18 ∧ (t.ce e).mreq = natBit h 22 ∧
      ((t.ce e).stale = true ↔ headerMap (s.ce e) h = 2) ∧ ((t.ce e).usesPending = true ↔ headerMap (s.ce e) h = 1) := by
  have hexec : exec (.phrDecode e h len f4 res sw hcs mcs) s = .next (s.setCe e { s.ce e with
      stale := decide (headerMap (s.ce e) h = 2), usesPending := decide (headerMap (s.ce e) h = 1), len := natBits h 0 11,
      fcs4 := natBit h 18, rate := natBits h 11 2, mapSel := natBit h 13, mapChk := natBits h 14 4, mreq := natBit h 22 }) := by
    change execPhrDecode e h len f4 res sw hcs mcs s = _
    rw [execPhrDecode, if_neg (by simp [hrun, hdec])]
    simp [hmode, hok]
  refine ⟨_, hexec, ?_⟩
  rw [ce_setCe_self]
  exact ⟨rfl, rfl, rfl, rfl, rfl, rfl, decide_eq_true_iff, decide_eq_true_iff⟩

theorem phrDecode_bad (w : Memory.wf s = true) {h len : Nat} {f4 res sw hcs : Bool} {mcs : Nat} (hrun : ceRuns s e = true)
    (hdec : ceState s e = ceDecode) (hfree : (s.ce e).pending = none) (hbad : (if modeFamily (s.get (R.CE_ASG0_MODE e)) = 3 then headerOk h
      else phrOk (s.get (R.CE_ASG0_MODE e)) len f4 res sw hcs mcs) = false) : ∃ t, exec (.phrDecode e h len f4 res sw hcs mcs) s = .next t ∧
      ceState t e = ceSearch ∧
      t.get (R.CE_CNT_ERR_PHR_ERR e) = min (2 ^ (R.CE_CNT_ERR_PHR_ERR e).width - 1) (s.get (R.CE_CNT_ERR_PHR_ERR e) + 1) := by
  have hexec : exec (.phrDecode e h len f4 res sw hcs mcs) s = .next ((s.bump (R.CE_CNT_ERR_PHR_ERR e)).set (R.CE_STATE_STATE e) ceSearch) := by
    rw [← backToSearch_of_none (s := s.bump (R.CE_CNT_ERR_PHR_ERR e)) (e := e) hfree]
    change execPhrDecode e h len f4 res sw hcs mcs s = _
    rw [execPhrDecode, if_neg (by simp [hrun, hdec])]
    exact if_neg (by rw [hbad]; decide)
  have hkey : R.CE_STATE e ≠ R.CE_CNT_ERR e := by simp only [R.CE_STATE, R.CE_CNT_ERR]; omega
  refine ⟨_, hexec, ceState_set (wf_bump w _) (by decide), ?_⟩
  simp [wf_regs w, R.CE_CNT_ERR_PHR_ERR, R.CE_STATE_STATE, hkey.symm]

theorem frameEnd_bad (w : Memory.wf s = true) {psdu : List Byte} {sat : Bool} {power snr res : Int} {snrs : List Int} {nulls : Int}
    {image : List Int} (hrun : ceRuns s e = true) (hdec : ceState s e = ceDecode) (hfresh : (s.ce e).stale = false)
    (hfree : (s.ce e).pending = none) : ∃ t, exec (.frameEnd e psdu false sat power snr res snrs nulls image) s = .next t ∧
      ceState t e = ceSearch ∧ t.queues = s.queues ∧
      t.get (R.CE_CNT_RX_FCS_ERR e) = min (2 ^ (R.CE_CNT_RX_FCS_ERR e).width - 1) (s.get (R.CE_CNT_RX_FCS_ERR e) + 1) := by
  have hexec : exec (.frameEnd e psdu false sat power snr res snrs nulls image) s =
      .next ((s.bump (R.CE_CNT_RX_FCS_ERR e)).set (R.CE_STATE_STATE e) ceSearch) := by
    rw [← backToSearch_of_none (s := s.bump (R.CE_CNT_RX_FCS_ERR e)) (e := e) hfree]
    change execFrameEnd e psdu false sat power snr res snrs nulls image s = _
    rw [execFrameEnd, if_neg (by simp [hrun, hdec])]
    exact if_pos (by rw [hfresh]; rfl)
  have hkey : R.CE_STATE e ≠ R.CE_CNT_RX e := by simp only [R.CE_STATE, R.CE_CNT_RX]; omega
  refine ⟨_, hexec, ceState_set (wf_bump w _) (by decide), rfl, ?_⟩
  simp [wf_regs w, R.CE_CNT_RX_FCS_ERR, R.CE_STATE_STATE, hkey.symm]

theorem lqi_lt (snr : Int) : lqi snr < 256 := by
  unfold lqi clampInt
  omega

/-- What a reported frame leaves in the engine's last values: the chain, the LQI and the RSSI, with the chain's count. -/
def lastValues (s : State) (e chain : Nat) (snr rssi : Int) : State :=
  (((s.set (R.CE_LAST_ANT e) chain).set (R.CE_LAST_LQI e) (lqi (clampInt (-128) 127 snr))).set (R.CE_LAST_RSSI e) (toField 16 rssi)).bump
    (if chain = 0 then R.CE_CNT_ANT_ANT_A e else R.CE_CNT_ANT_ANT_B e)

theorem lastValues_keeps (s : State) (e chain : Nat) (snr rssi : Int) : Keeps s (lastValues s e chain snr rssi) :=
  State.set_keeps (State.set_keeps (State.set_keeps (State.set_keeps (Keeps.refl s) _ _) _ _) _ _) _ _

theorem get_lastValues (w : Memory.wf s = true) (chain : Nat) (snr rssi : Int) :
    (lastValues s e chain snr rssi).get (R.CE_LAST_LQI e) = lqi (clampInt (-128) 127 snr) ∧
      (lastValues s e chain snr rssi).get (R.CE_LAST_ANT e) = chain % 2 := by
  have hkey : R.CE_LAST e ≠ R.CE_CNT_ANT e := by simp only [R.CE_LAST, R.CE_CNT_ANT]; omega
  have hmod : lqi (clampInt (-128) 127 snr) % 256 = lqi (clampInt (-128) 127 snr) := Nat.mod_eq_of_lt (lqi_lt _)
  constructor <;> unfold lastValues <;> split <;>
    simp [wf_regs w, R.CE_LAST_LQI, R.CE_LAST_ANT, R.CE_LAST_RSSI, R.CE_CNT_ANT_ANT_A, R.CE_CNT_ANT_ANT_B, hkey, hmod]

theorem regs_collectImage (s : State) (e node : Nat) (image : List Int) : (collectImage s e node image).regs = s.regs :=
  (collectImage_frame rfl (Frame.refl 0x100 s) e node image).of .regs rfl

theorem ces_collectImage (s : State) (e node : Nat) (image : List Int) : (collectImage s e node image).ces = s.ces :=
  (collectImage_frame rfl (Frame.refl 0x100 s) e node image).of .ces rfl

/-- A reported frame: its last values, a collection of the path, and an item for the receive queue. -/
theorem exec_frameEnd_reported {psdu : List Byte} {sat : Bool} {power snr res : Int} {snrs : List Int} {nulls : Int} {image : List Int}
    (hrun : ceRuns s e = true) (hdec : ceState s e = ceDecode) : ∃ rssi item v, v.regs = (lastValues s e ((s.ce e).chosen.getD 0) snr rssi).regs ∧
      v.ces = s.ces ∧ Keeps (lastValues s e ((s.ce e).chosen.getD 0) snr rssi) v ∧
      exec (.frameEnd e psdu true sat power snr res snrs nulls image) s = .next (backToSearch (pushItem v (ceCluster e) 0 item) e) := by
  change ∃ rssi item v, _ ∧ _ ∧ _ ∧ execFrameEnd e psdu true sat power snr res snrs nulls image s = _
  rw [execFrameEnd, if_neg (by simp [hrun, hdec])]
  extract_lets c n chain rssi snr' octets report tail data item s1 s2 s3 s4
  rw [if_neg (by simp)]
  have hs3 : s3 = lastValues s e ((s.ce e).chosen.getD 0) snr rssi := rfl
  refine ⟨rssi, item, s4, ?_, ?_, ?_, rfl⟩
  · rw [← hs3]
    simp only [s4]
    split
    · exact regs_collectImage ..
    · rfl
  · have hces : s3.ces = s.ces := rfl
    rw [← hces]
    simp only [s4]
    split
    · exact ces_collectImage ..
    · rfl
  · rw [← hs3]
    simp only [s4]
    split
    · exact collectImage_keeps (Keeps.refl s3) _ _ _
    · exact Keeps.refl s3

theorem frameEnd_reported (w : Memory.wf s = true) {psdu : List Byte} {sat : Bool} {power snr res : Int} {snrs : List Int} {nulls : Int}
    {image : List Int} (hrun : ceRuns s e = true) (hdec : ceState s e = ceDecode) (hfree : (s.ce e).pending = none) :
    ∃ t, exec (.frameEnd e psdu true sat power snr res snrs nulls image) s = .next t ∧ ceState t e = ceSearch ∧
      t.get (R.CE_LAST_LQI e) = lqi (clampInt (-128) 127 snr) ∧ t.get (R.CE_LAST_ANT e) = (s.ce e).chosen.getD 0 % 2 := by
  have he := lt_of_ceRuns hrun
  obtain ⟨rssi, item, v, hregs, hces, hkeeps, hexec⟩ :=
    exec_frameEnd_reported (psdu := psdu) (sat := sat) (power := power) (snr := snr) (res := res) (snrs := snrs) (nulls := nulls) (image := image)
      hrun hdec
  obtain ⟨hlqi, hant⟩ := get_lastValues (e := e) w ((s.ce e).chosen.getD 0) snr rssi
  have hvw := wf_keeps hkeeps (wf_keeps (lastValues_keeps s e _ snr rssi) w)
  have hpush : Leaves (R.CE_LAST e) v (pushItem v (ceCluster e) 0 item) := (Leaves.refl _ v).pushItem_ce (off := 0x34) he (by decide) (by decide) 0 item
  have hpw := wf_keeps hpush.keeps hvw
  have hpfree : ((pushItem v (ceCluster e) 0 item).ce e).pending = none := by rw [ce_of_ces ((ces_pushItem ..).trans hces), hfree]
  rw [backToSearch_of_none hpfree] at hexec
  have hlast (f : Fld) (hf : f.key = R.CE_LAST e) : ((pushItem v (ceCluster e) 0 item).set (R.CE_STATE_STATE e) ceSearch).get f =
      (lastValues s e ((s.ce e).chosen.getD 0) snr rssi).get f := by
    have hkey : R.CE_STATE e ≠ R.CE_LAST e := by simp only [R.CE_STATE, R.CE_LAST]; omega
    have hleaves : Leaves f.key v ((pushItem v (ceCluster e) 0 item).set (R.CE_STATE_STATE e) ceSearch) := by
      rw [hf]
      exact hpush.set _ _ hkey
    rw [hleaves.get hvw, State.get, State.get, hregs]
  refine ⟨_, hexec, ceState_set hpw (by decide), ?_, ?_⟩
  · rw [hlast (R.CE_LAST_LQI e) rfl, hlqi]
  · rw [hlast (R.CE_LAST_ANT e) rfl, hant]

theorem rxqWaitTimeout_row (w : Memory.wf s = true) {p : Nat × QueueItem} (he : e < 512)
    (hp : (s.queue (ceCluster e)).waiting.find? (fun p => decide (p.1 = 0) && decide (leField p.2.data 30 2 % 128 = e % 128)) = some p) :
    ∃ t, exec (.rxqWaitTimeout e) s = .next t ∧ (t.queue (ceCluster e)).waiting = (s.queue (ceCluster e)).waiting.erase p ∧
      t.get (R.CE_CNT_ERR_RXQ_DROP e) = min (2 ^ (R.CE_CNT_ERR_RXQ_DROP e).width - 1) (s.get (R.CE_CNT_ERR_RXQ_DROP e) + 1) := by
  generalize hx : putQueue s (ceCluster e) { s.queue (ceCluster e) with waiting := (s.queue (ceCluster e)).waiting.erase p } = x
  have hexec : exec (.rxqWaitTimeout e) s = .next (x.bump (R.CE_CNT_ERR_RXQ_DROP e)) := by
    change execRxqWaitTimeout e s = _
    rw [execRxqWaitTimeout, hp, ← hx]
    exact if_pos he
  have hleaves : Leaves (R.CE_CNT_ERR e) s x := by
    rw [← hx]
    exact (Leaves.refl _ s).putQueue (noisy_eq_false (by unfold R.CE_CNT_ERR; omega)) (by unfold ceCluster; omega) _
  refine ⟨_, hexec, ?_, ?_⟩
  · rw [State.bump, State.bumpBy, State.set_queue, ← hx, queue_putQueue_self]
  · rw [get_bump_self (wf_keeps hleaves.keeps w) (show 0 + 16 ≤ 32 by decide), hleaves.get (f := R.CE_CNT_ERR_RXQ_DROP e) w]

/-- Settles O13. -/
theorem receptionRowsComplete : Obligations.ReceptionRowsComplete := by
  intro s e w
  refine ⟨?antenna, ?sfd, ?phr, ?indigo, ?phrBad, ?frameBad, ?frame, ?wait⟩
  case antenna => exact fun a b hrun hacq hfree ha hb hhint => exec_antennaDecision_hintA hrun hacq hfree ha hb hhint
  case sfd => exact fun time est hrun hacq hchosen => sfdDetect_row w hrun hacq hchosen
  case phr => exact fun h len f4 res sw hcs mcs hrun hdec hmode hok => exec_phrDecode_phr hrun hdec hmode hok
  case indigo => exact fun h len f4 res sw hcs mcs hrun hdec hmode hok => phrDecode_indigo hrun hdec hmode hok
  case phrBad => exact fun h len f4 res sw hcs mcs hrun hdec hfree hbad => phrDecode_bad w hrun hdec hfree hbad
  case frameBad => exact fun psdu sat power snr res snrs nulls image hrun hdec hfresh hfree => frameEnd_bad w hrun hdec hfresh hfree
  case frame => exact fun psdu sat power snr res snrs nulls image hrun hdec hfree => frameEnd_reported w hrun hdec hfree
  case wait => exact fun p he hp => rxqWaitTimeout_row w he hp

end Sys2Proof.Machine
end

section
/-!
Transmit engines (R194, R198 to R201): the rows of O14.
-/

namespace Sys2Proof.Machine

variable {s t : State} {e : Nat}

/-! ## The state of a transmit engine -/

theorem te_setTe_self (s : State) (e : Nat) (x : TeState) : (s.setTe e x).te e = x := by
  rw [State.te, State.setTe, assocGet_assocSet_self]; rfl

theorem te_of_tes (h : t.tes = s.tes) (e : Nat) : t.te e = s.te e := by rw [State.te, h]; rfl

/-! ## A work item -/

theorem exec_txWorkItem_refused {h : Nat} {w : WorkItem} (hw : plannedItem s e h = some w) (hrun : teRuns s e = true)
    (hidle : s.get (R.TE_STATE_STATE e) = teIdle) (hframe : (s.frame h).isSome = true) (hrefused : workRefused s e w = true) :
    exec (.txWorkItem e h) s = .next ((teGiveBack ((s.putPsm { s.psm with plan := s.psm.plan.erase w }).setTe e
      { s.te e with item := some w, ready := 0 }) e 3).bump (R.TE_CNT2_REJ e)) := by
  obtain ⟨f, hf⟩ := Option.isSome_iff_exists.1 hframe
  change execTxWorkItem e h s = _
  rw [execTxWorkItem, hw]
  exact (if_neg (by simp [hrun, hidle, hf])).trans (if_pos hrefused)

/-- The engine with its item, before it is late. -/
def workLoaded (s : State) (e : Nat) (w : WorkItem) : State :=
  (viewWork ((s.putPsm { s.psm with plan := s.psm.plan.erase w }).setTe e { s.te e with item := some w, ready := 0 }) e w).set
    (R.TE_STATE_STATE e) teLoaded

theorem workLoaded_keeps (s : State) (e : Nat) (w : WorkItem) : Keeps s (workLoaded s e w) :=
  State.set_keeps (viewWork_keeps (State.setTe_keeps (State.putPsm_keeps (Keeps.refl s) _) _ _) _ _) _ _

theorem te_workLoaded (s : State) (e : Nat) (w : WorkItem) : (workLoaded s e w).te e = { s.te e with item := some w, ready := 0 } := by
  have hview (u : State) : (viewWork u e w).tes = u.tes := (viewWork_frame rfl (Frame.refl 0x1 u) e w).of .tes rfl
  rw [workLoaded, State.set_te, te_of_tes (hview _), te_setTe_self]

theorem psm_workLoaded (s : State) (e : Nat) (w : WorkItem) : (workLoaded s e w).psm.plan = s.psm.plan.erase w := by
  have hview (u : State) : (viewWork u e w).psm = u.psm := (viewWork_frame rfl (Frame.refl 0x1 u) e w).of .psm rfl
  rw [workLoaded, State.set_psm, hview]
  rfl

theorem tbNs_workLoaded (s : State) (e : Nat) (w : WorkItem) : (workLoaded s e w).tbNs = s.tbNs := by
  have hview (u : State) : (viewWork u e w).tb = u.tb := (viewWork_frame rfl (Frame.refl 0x1 u) e w).of .tb rfl
  rw [State.tbNs, workLoaded, State.set_tb, hview]
  rfl

theorem exec_txWorkItem_loaded {h : Nat} {w : WorkItem} (hw : plannedItem s e h = some w) (hrun : teRuns s e = true)
    (hidle : s.get (R.TE_STATE_STATE e) = teIdle) (hframe : (s.frame h).isSome = true) (hok : workRefused s e w = false) :
    exec (.txWorkItem e h) s = .next (if w.first < s.tbNs + 4000 + rampLead s w.path then
      ((workLoaded s e w).setTe e { (workLoaded s e w).te e with ready := (workLoaded s e w).tbNs + 4000 }).bump (R.TE_CNT2_WORK_LATE e)
      else workLoaded s e w) := by
  obtain ⟨f, hf⟩ := Option.isSome_iff_exists.1 hframe
  change execTxWorkItem e h s = _
  rw [execTxWorkItem, hw]
  refine (if_neg (by simp [hrun, hidle, hf])).trans ((if_neg fun hc => Bool.false_ne_true (hok.symm.trans hc)).trans ?_)
  by_cases hlate : w.first < s.tbNs + 4000 + rampLead s w.path
  · rw [if_pos hlate]
    exact congrArg Host.Outcome.next (if_pos (decide_eq_true hlate))
  · rw [if_neg hlate]
    exact congrArg Host.Outcome.next (if_neg fun hc => hlate (of_decide_eq_true hc))

theorem txWorkItem_row (wf : Memory.wf s = true) {h : Nat} {w : WorkItem} (hw : plannedItem s e h = some w) (hrun : teRuns s e = true)
    (hidle : s.get (R.TE_STATE_STATE e) = teIdle) (hframe : (s.frame h).isSome = true) (hok : workRefused s e w = false) :
    ∃ t, exec (.txWorkItem e h) s = .next t ∧ t.get (R.TE_STATE_STATE e) = teLoaded ∧ (t.te e).item = some w ∧
      t.psm.plan = s.psm.plan.erase w ∧ (t.te e).ready = (if w.first < s.tbNs + 4000 + rampLead s w.path then s.tbNs + 4000 else 0) := by
  have hview : Keeps s (viewWork ((s.putPsm { s.psm with plan := s.psm.plan.erase w }).setTe e { s.te e with item := some w, ready := 0 }) e w) :=
    viewWork_keeps (State.setTe_keeps (State.putPsm_keeps (Keeps.refl s) _) _ _) _ _
  have hstate : (workLoaded s e w).get (R.TE_STATE_STATE e) = teLoaded := get_set_self (wf_keeps hview wf) (show 0 + 2 ≤ 32 by decide) _
  have hte := te_workLoaded s e w
  have hplan := psm_workLoaded s e w
  have htb := tbNs_workLoaded s e w
  have hlw := wf_keeps (workLoaded_keeps s e w) wf
  refine ⟨_, exec_txWorkItem_loaded hw hrun hidle hframe hok, ?_⟩
  generalize workLoaded s e w = u at hstate hte hplan htb hlw
  split
  · have hkey : R.TE_CNT2 e ≠ R.TE_STATE e := by simp only [R.TE_CNT2, R.TE_STATE]; omega
    refine ⟨?_, ?_, ?_, ?_⟩
    · rw [get_bump_apart (wf_keeps (State.setTe_keeps (Keeps.refl u) _ _) hlw) (show 16 + 16 ≤ 32 by decide) (.inl hkey), State.setTe_get, hstate]
    · rw [State.bump, State.bumpBy, State.set_te, te_setTe_self, hte]
    · rw [State.bump, State.bumpBy, State.set_psm, State.setTe_psm, hplan]
    · rw [State.bump, State.bumpBy, State.set_te, te_setTe_self, htb]
  · exact ⟨hstate, by rw [hte], hplan, by rw [hte]⟩

/-! ## The end of a frame -/

theorem interval_observeEnd (s : State) (n : Nat) : ((observeEnd s n).path n).interval = (s.path n).interval := by
  unfold observeEnd
  dsimp only
  split
  · rw [path_setPath_self]
  · unfold issueTxSet
    rw [path_of_paths (paths_viewHealth ..), State.set_path, State.set_path]
    have hdrew : (putTxSet s n [Config.realResult 30 [(n : Int), (s.draws : Int)], Config.realResult 31 [(n : Int), (s.draws : Int)]]).drew.path n =
        (putTxSet s n [Config.realResult 30 [(n : Int), (s.draws : Int)], Config.realResult 31 [(n : Int), (s.draws : Int)]]).path n := rfl
    rw [hdrew, path_putTxSet]

theorem interval_intervalEnds {n : Nat} {i : TxInterval} (h : (s.path n).interval = some i) :
    ((intervalEnds s n).path n).interval = some { i with frames := [] } := by
  have hover (u : State) (hu : (u.path n).interval = some i) : ((intervalOver u n).path n).interval = some { i with frames := [] } := by
    rw [intervalOver, hu]
    dsimp only
    rw [path_setPath_self]
  unfold intervalEnds
  rw [h]
  dsimp only
  split
  · exact hover _ (by rw [interval_observeEnd, h])
  · exact hover _ h

theorem tes_intervalEnds (s : State) (n : Nat) : (intervalEnds s n).tes = s.tes :=
  (intervalEnds_frame rfl (Frame.refl 0x80840121 s) n).of .tes rfl

/-- The interval after a frame of an engine has ended. -/
def intervalLess (s : State) (n e : Nat) : State :=
  match (s.path n).interval with
  | none => s
  | some i =>
    let rest := i.frames.filter fun f => f.1 ≠ e
    let t := s.setPath n { s.path n with interval := some { i with frames := rest } }
    if rest.isEmpty then intervalEnds t n else t

theorem tes_intervalLess (s : State) (n e : Nat) : (intervalLess s n e).tes = s.tes := by
  unfold intervalLess
  cases (s.path n).interval with
  | none => rfl
  | some i =>
    dsimp only
    split
    · rw [tes_intervalEnds, State.setPath_tes]
    · rfl

theorem interval_intervalLess {n : Nat} {i : TxInterval} (h : (s.path n).interval = some i) (e : Nat) :
    ((intervalLess s n e).path n).interval = some { i with frames := i.frames.filter fun f => f.1 ≠ e } := by
  unfold intervalLess
  rw [h]
  dsimp only
  split
  next hempty =>
    rw [List.isEmpty_iff] at hempty
    rw [interval_intervalEnds (by rw [path_setPath_self]), hempty]
  next => rw [path_setPath_self]

theorem tes_frameSent (s : State) (h time : Nat) : (frameSent s h time).tes = s.tes :=
  (frameSent_frame rfl (Frame.refl 0x186976021 s) h time).of .tes rfl

theorem paths_frameSent (s : State) (h time : Nat) : (frameSent s h time).paths = s.paths :=
  (frameSent_frame rfl (Frame.refl 0x186976021 s) h time).of .paths rfl

theorem paths_completion (s : State) (e status late stamp frac : Nat) : (completion s e status late stamp frac).paths = s.paths :=
  (completion_frame rfl (Frame.refl 0x40001 s) e status late stamp frac).of .paths rfl

theorem paths_advanceTo (s : State) (time : Nat) : (s.advanceTo time).paths = s.paths :=
  (State.advanceTo_frame rfl (Frame.refl 0x40080000 s) time).of .paths rfl

/-- The engine is free again, its frame completed and counted. -/
def engineFreed (s : State) (e late stamp time : Nat) : State :=
  let s := completion (s.advanceTo time) e 0 late (stamp / 65536) (stamp % 65536)
  let s := (s.setTe e { s.te e with item := none, ready := 0 }).set (R.TE_STATE_STATE e) teIdle
  let s := s.bump (R.TE_CNT_SENT e)
  if late = 0 then s else s.bump (R.TE_CNT_LATE e)

theorem engineFreed_row (s : State) (e late stamp time : Nat) : (engineFreed s e late stamp time).paths = s.paths ∧
    ((engineFreed s e late stamp time).te e).item = none ∧ ((engineFreed s e late stamp time).te e).ready = 0 := by
  have hpaths := (paths_completion (s.advanceTo time) e 0 late (stamp / 65536) (stamp % 65536)).trans (paths_advanceTo s time)
  unfold engineFreed
  generalize completion (s.advanceTo time) e 0 late (stamp / 65536) (stamp % 65536) = u at hpaths
  have hbump (v : State) (f : Fld) : (v.bump f).paths = v.paths ∧ (v.bump f).te e = v.te e := ⟨State.set_paths .., State.set_te ..⟩
  have hrow : ((u.setTe e { u.te e with item := none, ready := 0 }).set (R.TE_STATE_STATE e) teIdle).paths = s.paths ∧
      ((u.setTe e { u.te e with item := none, ready := 0 }).set (R.TE_STATE_STATE e) teIdle).te e = { u.te e with item := none, ready := 0 } := by
    rw [State.set_paths, State.setTe_paths, State.set_te, te_setTe_self]
    exact ⟨hpaths, rfl⟩
  dsimp only
  generalize (u.setTe e { u.te e with item := none, ready := 0 }).set (R.TE_STATE_STATE e) teIdle = v at hrow
  split
  · rw [(hbump ..).1, (hbump ..).2, hrow.1, hrow.2]
    exact ⟨rfl, rfl, rfl⟩
  · rw [(hbump ..).1, (hbump ..).1, (hbump ..).2, (hbump ..).2, hrow.1, hrow.2]
    exact ⟨rfl, rfl, rfl⟩

theorem exec_txFrameEnd {w : WorkItem} (hw : (s.te e).item = some w) (hrun : s.get (R.TE_STATE_STATE e) = teRun) : ∃ late stamp time,
    exec (.txFrameEnd e) s = .next (frameSent (intervalLess (engineFreed s e late stamp time) w.path e) w.handle time) := by
  change ∃ late stamp time, execTxFrameEnd e s = _
  rw [execTxFrameEnd, hw]
  exact ⟨_, _, _, if_neg (not_not.2 hrun)⟩

theorem txFrameEnd_row {w : WorkItem} (hw : (s.te e).item = some w) (hrun : s.get (R.TE_STATE_STATE e) = teRun) :
    ∃ t, exec (.txFrameEnd e) s = .next t ∧ (t.te e).item = none ∧ (t.te e).ready = 0 ∧
      ∀ i, (s.path w.path).interval = some i → (t.path w.path).interval = some { i with frames := i.frames.filter fun f => f.1 ≠ e } := by
  obtain ⟨late, stamp, time, hexec⟩ := exec_txFrameEnd hw hrun
  obtain ⟨hpaths, hitem, hready⟩ := engineFreed_row s e late stamp time
  generalize engineFreed s e late stamp time = v at hexec hpaths hitem hready
  have hte : (frameSent (intervalLess v w.path e) w.handle time).te e = v.te e := te_of_tes ((tes_frameSent ..).trans (tes_intervalLess ..)) e
  refine ⟨_, hexec, by rw [hte, hitem], by rw [hte, hready], fun i hi => ?_⟩
  rw [path_of_paths (paths_frameSent ..), interval_intervalLess (by rw [path_of_paths hpaths, hi])]

/-- Settles O14. -/
theorem transmitRowsComplete : Obligations.TransmitRowsComplete := by
  intro s e wf
  refine ⟨?refused, ?loaded, fun w hw hrun => txFrameEnd_row hw hrun⟩
  case refused => exact fun h w hw hrun hidle hframe hrefused => exec_txWorkItem_refused hw hrun hidle hframe hrefused
  case loaded => exact fun h w hw hrun hidle hframe hok => txWorkItem_row wf hw hrun hidle hframe hok

end Sys2Proof.Machine
end

section
/-!
The registers that the shared operations on lines and frames may write, and that every other register stays.
-/

namespace Sys2Proof.Machine

/-- The registers that a write of a line and its mirror record may write while no snapshot leaves (R303, R510, R516, R530). -/
def writeKeys : List Nat := [R.PSM_STATUS, R.MI_FLIP, R.MI_FLIP_ADDR, R.PAIR_CNT0]

/-- A register that line writes and event records leave alone while no snapshot leaves. -/
structure OffWrites (key : Nat) : Prop where
  quiet : noisy key = false
  writes : key ∉ writeKeys

/-- The registers that a write of a line may write (R323 for the snapshot's). -/
def lineKeys : List Nat := R.SNAP_STAT :: writeKeys

/-- A register that line writes and event records leave alone. -/
structure OffLines (key : Nat) : Prop where
  quiet : noisy key = false
  lines : key ∉ lineKeys

/-- The registers that sending or dropping a frame may write. -/
def frameKeys : List Nat :=
  lineKeys ++ [R.MI_CNT2, R.SEC_CNT0, R.SEC_CNT2, R.SCHED_CNT3, R.PSM_CNT4, R.PSM_CNT6, R.IMAP_STATUS]

/-- A register that sent and dropped frames leave alone. -/
structure OffFrames (key : Nat) : Prop where
  quiet : noisy key = false
  frames : key ∉ frameKeys

theorem OffFrames.offLines {key : Nat} (hk : OffFrames key) : OffLines key :=
  ⟨hk.quiet, fun h => hk.frames (List.mem_append_left _ h)⟩

theorem OffLines.offWrites {key : Nat} (hk : OffLines key) : OffWrites key := ⟨hk.quiet, fun h => hk.lines (List.mem_cons_of_mem _ h)⟩

theorem ne_of_not_mem {key k : Nat} {l : List Nat} (h : key ∉ l) (hk : k ∈ l) : k ≠ key := fun e => h (e ▸ hk)

namespace Leaves

variable {key : Nat} {s0 s : State}

theorem line_set (h : Leaves key s0 s) (hk : OffLines key) (f : Fld) (v : Nat) (hf : f.key ∈ lineKeys) : Leaves key s0 (s.set f v) :=
  h.set f v (ne_of_not_mem hk.lines hf)

theorem write_set (h : Leaves key s0 s) (hk : OffWrites key) (f : Fld) (v : Nat) (hf : f.key ∈ writeKeys) : Leaves key s0 (s.set f v) :=
  h.set f v (ne_of_not_mem hk.writes hf)

theorem frame_bump (h : Leaves key s0 s) (hk : OffFrames key) (f : Fld) (hf : f.key ∈ frameKeys) : Leaves key s0 (s.bump f) :=
  h.bump f (ne_of_not_mem hk.frames hf)

theorem emit (h : Leaves key s0 s) (o : Output) : Leaves key s0 (s.emit o) := h.same (State.emit_keeps (Keeps.refl s) o) rfl
theorem putMi (h : Leaves key s0 s) (x : MiState) : Leaves key s0 (s.putMi x) := h.same (State.putMi_keeps (Keeps.refl s) x) rfl
theorem putPair (h : Leaves key s0 s) (x : PairState) : Leaves key s0 (s.putPair x) := h.same (State.putPair_keeps (Keeps.refl s) x) rfl
theorem putSec (h : Leaves key s0 s) (x : SecState) : Leaves key s0 (s.putSec x) := h.same (State.putSec_keeps (Keeps.refl s) x) rfl
theorem putSched (h : Leaves key s0 s) (x : SchedState) : Leaves key s0 (s.putSched x) := h.same (State.putSched_keeps (Keeps.refl s) x) rfl
theorem putDrift (h : Leaves key s0 s) (x : DriftState) : Leaves key s0 (s.putDrift x) := h.same (State.putDrift_keeps (Keeps.refl s) x) rfl
theorem putImap (h : Leaves key s0 s) (x : ImapState) : Leaves key s0 (s.putImap x) := h.same (State.putImap_keeps (Keeps.refl s) x) rfl
theorem putPsm (h : Leaves key s0 s) (x : PsmState) : Leaves key s0 (s.putPsm x) := h.same (State.putPsm_keeps (Keeps.refl s) x) rfl
theorem putBoot (h : Leaves key s0 s) (x : BootState) : Leaves key s0 (s.putBoot x) := h.same (State.putBoot_keeps (Keeps.refl s) x) rfl

/-! ## Lines -/

/-- The forwarding stores are written with what keeps their form. -/
theorem putFwd (h : Leaves key s0 s) (x : FwdState)
    (hx : Memory.wf s = true → cellsWf zeroCell x.ncs = true ∧ cellsWf zeroCell x.eht = true ∧ cellsWf zeroCell x.hb = true ∧
      cellsWf zeroCell x.shadow = true) : Leaves key s0 (s.putFwd x) := h.same (State.putFwd_keeps (Keeps.refl s) x hx) rfl

theorem snapshotWrite (h : Leaves key s0 s) (hk : OffLines key) (n : Nat) : Leaves key s0 (Machine.snapshotWrite s n) := by
  unfold Machine.snapshotWrite
  refine ite (ite ?_ h) h
  exact (h.putFwd (x := { s.fwd with snap := { s.fwd.snap with reserve := n / 64 :: s.fwd.snap.reserve } })
    fun w => ⟨wf_ncs w, wf_eht w, wf_hb w, wf_shadow w⟩).line_set hk R.SNAP_STAT_COW_PEAK _ (by decide)

theorem checkWritten (h : Leaves key s0 s) (hk : OffWrites key) (m : LineMem) (line : Nat) : Leaves key s0 (Machine.checkWritten s m line) := by
  unfold Machine.checkWritten
  extract_lets src u src' v
  have hu : Leaves key s0 u := h.putMi _
  have hv : Leaves key s0 v := ite hu (hu.putMi _)
  exact ite (((hv.write_set hk R.MI_FLIP_ARM 0 (by decide)).write_set hk R.MI_FLIP_ADDR_MEM _ (by decide)).write_set hk
    R.MI_FLIP_ADDR_LINE _ (by decide)) hu

theorem tileUpdate (h : Leaves key s0 s) (n : Nat) (old new : Line) : Leaves key s0 (Machine.tileUpdate s n old new) := h.putMi _

theorem tileTouched (h : Leaves key s0 s) (n : Nat) : Leaves key s0 (Machine.tileTouched s n) := by
  unfold Machine.tileTouched
  cases assocGet s.mi.scrubs 0 with
  | none => exact h
  | some p => exact ite (h.putMi _) h

theorem cacheForget (h : Leaves key s0 s) (n : Nat) (old new : Line) : Leaves key s0 (Machine.cacheForget s n old new) := by
  unfold Machine.cacheForget
  exact ite (h.putSec _) h

theorem sendRecord (h : Leaves key s0 s) (hk : OffWrites key) (r : MirrorRecord) : Leaves key s0 (Machine.sendRecord s r) := by
  unfold Machine.sendRecord
  exact ((h.putPair _).write_set hk R.PAIR_CNT0_MIRROR_TX _ (by decide)).emit _

theorem mirror (h : Leaves key s0 s) (hk : OffWrites key) (r : MirrorRecord) : Leaves key s0 (Machine.mirror s r) :=
  ite (h.sendRecord hk r) h

theorem mirrorLine (h : Leaves key s0 s) (hk : OffWrites key) (n : Nat) (old new : Line) : Leaves key s0 (Machine.mirrorLine s n old new) := by
  unfold Machine.mirrorLine
  exact ite h (sendRecord (ite (h.putPair _) h) hk _)

/-- A line write, once its copy-on-write is known to leave the register. -/
theorem writeLine_of {n : Nat} (h : Leaves key s0 s) (hsnap : Leaves key s0 (Machine.snapshotWrite s n)) (hk : OffWrites key) (new : Line) :
    Leaves key s0 (Machine.writeLine s n new) := by
  unfold Machine.writeLine
  refine ite ?_ h
  have hput := hsnap.putFwd { (Machine.snapshotWrite s n).fwd with ncs := cellsWrite zeroCell (Machine.snapshotWrite s n).fwd.ncs n new }
    fun w => ⟨cellsWf_write (wf_ncs w) n new, wf_eht w, wf_hb w, wf_shadow w⟩
  exact (((((hput.tileUpdate n _ _).checkWritten hk .ncs n).tileTouched n).write_set hk R.PSM_STATUS_SUSPECT _
    (by decide)).cacheForget n _ _).mirrorLine hk n _ _

theorem writeLine (h : Leaves key s0 s) (hk : OffLines key) (n : Nat) (new : Line) : Leaves key s0 (Machine.writeLine s n new) :=
  h.writeLine_of (h.snapshotWrite hk n) hk.offWrites new

theorem setLineField (h : Leaves key s0 s) (hk : OffLines key) (n : Nat) (f : LineFld) (v : Nat) :
    Leaves key s0 (Machine.setLineField s n f v) := h.writeLine hk n _

theorem markRebuild (h : Leaves key s0 s) (hk : OffLines key) (n : Nat) : Leaves key s0 (Machine.markRebuild s n) := h.writeLine hk n _

theorem consumePoison (h : Leaves key s0 s) (hk : noisy key = false) (hm : key ≠ R.MI_CNT2) (consumer tag : Nat) :
    Leaves key s0 (Machine.consumePoison s consumer tag) :=
  (h.bump R.MI_CNT2_CONSUMED hm.symm).postEvent (by decide) _ hk

theorem consumeLine (h : Leaves key s0 s) (hk : OffLines key) (hm : key ≠ R.MI_CNT2) (n : Nat) : Leaves key s0 (Machine.consumeLine s n) :=
  (h.consumePoison hk.quiet hm 1 n).markRebuild hk n

theorem consumeTag (h : Leaves key s0 s) (hk : OffLines key) (hm : key ≠ R.MI_CNT2) (tag : Nat) : Leaves key s0 (Machine.consumeTag s tag) := by
  unfold Machine.consumeTag
  exact ite (h.consumePoison hk.quiet hm 0 tag) ((h.consumePoison hk.quiet hm 1 tag).markRebuild hk tag)

/-! ## Frames -/

theorem reserve (h : Leaves key s0 s) (hk : OffWrites key) (k : Nat) (district : Bool) (c : Nat) : Leaves key s0 (Machine.reserve s k district c) := by
  unfold Machine.reserve
  exact ite h ((h.putPair _).mirror hk _)

theorem cacheTouch (h : Leaves key s0 s) (t : CacheTag) : Leaves key s0 (Machine.cacheTouch s t) := h.putSec _

theorem keyRequest (h : Leaves key s0 s) (hk : OffFrames key) (n purpose : Nat) : Leaves key s0 (Machine.keyRequest s n purpose) := by
  unfold Machine.keyRequest
  cases activeSlot s with
  | none => exact h
  | some i => exact ite (h.cacheTouch _) (((h.frame_bump hk R.SEC_CNT0_MISS (by decide)).cacheTouch _).cacheTouch _)

theorem keepFrame (h : Leaves key s0 s) (f : TxFrame) : Leaves key s0 (Machine.keepFrame s f).1 := h.putSched _

theorem storeFrame (h : Leaves key s0 s) (f : TxFrame) : Leaves key s0 (Machine.storeFrame s f).1 := by
  unfold Machine.storeFrame
  cases f.kind.echoes with
  | some d => exact h.keepFrame _
  | none => exact (h.putPsm _).keepFrame _

theorem viewDownlink (h : Leaves key s0 s) (hk : OffLines key) (a : Nat) : Leaves key s0 (Machine.viewDownlink s a) :=
  (h.setLineField hk a _ _).setLineField hk a _ _

theorem removeFrame (h : Leaves key s0 s) (hk : OffLines key) (n : Nat) : Leaves key s0 (Machine.removeFrame s n) := by
  unfold Machine.removeFrame
  cases s.frame n with
  | none => exact h
  | some f =>
    dsimp only
    have hm : Leaves key s0 (if f.cls = 0 ∧ f.dest.isSome = true then Machine.mirror s (.crimsonOut f.ident) else s) := ite (h.mirror hk.offWrites _) h
    generalize (if f.cls = 0 ∧ f.dest.isSome = true then Machine.mirror s (.crimsonOut f.ident) else s) = u at hm
    cases f.dest with
    | none => exact hm.putSched _
    | some a => exact ite (((hm.putSched _).putSched _).viewDownlink hk a) (hm.putSched _)

theorem dropAgreement (h : Leaves key s0 s) (n : Nat) : Leaves key s0 (Machine.dropAgreement s n) := by
  unfold Machine.dropAgreement
  cases assocGet s.drift.outstanding n with
  | none => exact h
  | some a => exact h.putDrift _

theorem dropFrame (h : Leaves key s0 s) (hk : OffLines key) (n : Nat) : Leaves key s0 (Machine.dropFrame s n) := by
  unfold Machine.dropFrame
  cases s.frame n with
  | none => exact h
  | some f =>
    have hr := h.removeFrame hk n
    dsimp only
    split
    · exact hr.dropAgreement _
    · exact hr

theorem discardFrame (h : Leaves key s0 s) (hk : OffFrames key) (n : Nat) : Leaves key s0 (Machine.discardFrame s n) :=
  (h.dropFrame hk.offLines n).frame_bump hk R.PSM_CNT4_DL_DROP (by decide)

theorem flushDownlink (h : Leaves key s0 s) (hk : OffFrames key) (a : Nat) : Leaves key s0 (Machine.flushDownlink s a) :=
  h.fold fun _ n _ hu => hu.discardFrame hk n

theorem viewImap (h : Leaves key s0 s) (hk : key ≠ R.IMAP_STATUS) : Leaves key s0 (Machine.viewImap s) :=
  (h.set R.IMAP_STATUS_USED _ hk.symm).setBit R.IMAP_STATUS_FULL _ hk.symm

theorem freeMapEntry (h : Leaves key s0 s) (hk : key ≠ R.IMAP_STATUS) (n : Nat) : Leaves key s0 (Machine.freeMapEntry s n) :=
  (h.putImap _).viewImap hk

theorem loseNode (h : Leaves key s0 s) (hk : OffFrames key) (n : Nat) : Leaves key s0 (Machine.loseNode s n) := by
  unfold Machine.loseNode
  have hfree := ((h.setLineField hk.offLines n N.VALID 0).flushDownlink hk n).freeMapEntry (ne_of_not_mem hk.frames (by decide)).symm n
  exact (hfree.frame_bump hk R.PSM_CNT6_NODE_LOST (by decide)).postEvent (by decide) _ hk.quiet

theorem checkExhausted (h : Leaves key s0 s) (hk : OffFrames key) (n : Nat) : Leaves key s0 (Machine.checkExhausted s n) :=
  ite (h.loseNode hk n) h

theorem takeCounter (h : Leaves key s0 s) (hk : OffLines key) (a : Nat) : Leaves key s0 (Machine.takeCounter s a).1 :=
  (h.setLineField hk a _ _).reserve hk.offWrites a false _

theorem enqueueDown (h : Leaves key s0 s) (hk : OffFrames key) (hops : List Nat) (final : Nat) (kind : FrameKind) (purpose cls len : Nat)
    (stamp : Option Nat) : Leaves key s0 (Machine.enqueueDown s hops final kind purpose cls len stamp).1 := by
  unfold Machine.enqueueDown
  refine ite_fst (h.frame_bump hk R.SEC_CNT2_ORPHAN_TX (by decide)) (ite_fst (h.checkExhausted hk _) (ite_fst
    (h.frame_bump hk R.SCHED_CNT3_DL_FULL (by decide)) ?_))
  have hkey := (h.takeCounter hk.offLines (hops.headD final)).keyRequest hk (hops.headD final) purpose
  refine checkExhausted ?_ hk _
  refine ite (mirror ?_ hk.offLines.offWrites _) ?_
  all_goals exact viewDownlink (putSched (hkey.storeFrame _) _) hk.offLines _

theorem sendDirect (h : Leaves key s0 s) (hk : OffFrames key) (n : Nat) (kind : FrameKind) (purpose len : Nat) :
    Leaves key s0 (Machine.sendDirect s n kind purpose len).1 := by
  unfold Machine.sendDirect
  exact ite_fst h (ite_fst (h.consumeLine hk.offLines (ne_of_not_mem hk.frames (by decide)).symm n) (h.enqueueDown hk ..))

end Leaves
end Sys2Proof.Machine
end

section
/-!
The rows of the map unit (O15).
-/

namespace Sys2Proof.Machine

namespace Leaves

variable {key : Nat} {s0 s : State}

theorem putImapNext (h : Leaves key s0 s) (hs : key ≠ R.IMAP_STATUS) (hc : key ≠ R.IMAP_CNT0) : Leaves key s0 (nextMsn s).1 :=
  ((h.putImap _).set R.IMAP_STATUS_MSN _ hs.symm).bump R.IMAP_CNT0_ISSUED hc.symm

theorem clearMap (h : Leaves key s0 s) (hk : OffFrames key) (hc : key ≠ R.IMAP_CNT0) (n : Nat) : Leaves key s0 (Machine.clearMap s n) := by
  have hs : key ≠ R.IMAP_STATUS := (ne_of_not_mem hk.frames (by decide)).symm
  exact (((h.putImapNext hs hc).setLineField hk.offLines n N.MAP 0).freeMapEntry hs n).sendDirect hk n _ _ _

theorem pendMap (h : Leaves key s0 s) (hk : OffFrames key) (hc : key ≠ R.IMAP_CNT0) (h2 : key ≠ R.IMAP_CNT2) (n map rate : Nat) :
    Leaves key s0 (Machine.pendMap s n map rate) := by
  have hs : key ≠ R.IMAP_STATUS := (ne_of_not_mem hk.frames (by decide)).symm
  unfold Machine.pendMap
  refine ite ?_ (((h.clearMap hk hc n).bump R.IMAP_CNT2_FULL_DROP h2.symm).postEvent (by decide) _ hk.quiet)
  exact (((h.putImapNext hs hc).putImap _).viewImap hs).sendDirect hk n _ _ _

theorem reissueMap (h : Leaves key s0 s) (hk : OffFrames key) (hc : key ≠ R.IMAP_CNT0) (h2 : key ≠ R.IMAP_CNT2) (n : Nat) :
    Leaves key s0 (Machine.reissueMap s n) := ite (h.clearMap hk hc n) (h.pendMap hk hc h2 n _ _)

end Leaves

variable {s : State} {n : Nat}

theorem exec_mapTrailer {trailer : List Byte} {rest : List (Nat × List Byte)} (hrun : running s = true) (ht : s.imap.trailers = (n, trailer) :: rest)
    (hvalid : nodeValid s n = true) (hindigo : isIndigo s n = true) :
    exec .mapTrailer s = .next (takeTrailer (s.putImap { s.imap with trailers := rest }) n trailer) := by
  change execMapTrailer s = _
  rw [execMapTrailer, ht]
  refine congrArg Host.Outcome.next (if_pos ?_)
  change (running s && nodeValid s n && isIndigo s n) = true
  rw [hrun, hvalid, hindigo]; rfl

/-- A trailer that differs from the present map opens an entry where there is room (R227). -/
theorem learnTrailer_opens {trailer : List Byte} (hnone : assocGet s.imap.entries n = none)
    (hcodes : targetCodes s n (trailerSums trailer) 1 ≠ (List.range 40).map (mapCode (presentMap s n))) (hroom : s.imap.entries.length < 8192)
    (hwin : 1 < s.get R.IMAP_CFG_MAP_WIN) :
    learnTrailer s n trailer = setMapEntry s n { status := .learn, frames := 1, sums := trailerSums trailer, map := 0, rate := 0, msn := 0,
                                                 tries := 0, sentAt := none, since := 0 } := by
  have hmap : (!mapRoom s n) = false := by simp [mapRoom, hroom]
  unfold learnTrailer
  dsimp only
  rw [hnone]
  dsimp only
  rw [if_neg hcodes, hmap, if_neg Bool.false_ne_true, if_neg (Nat.not_le.2 hwin)]

theorem wf_putImap (w : Memory.wf s = true) (x : ImapState) : Memory.wf (s.putImap x) = true := wf_keeps (State.putImap_keeps (Keeps.refl s) x) w

theorem exec_mapTrailer_mreq (wf : Memory.wf s = true) {trailer : List Byte} {rest : List (Nat × List Byte)} (hrun : running s = true)
    (ht : s.imap.trailers = (n, trailer) :: rest) (hvalid : nodeValid s n = true) (hindigo : isIndigo s n = true)
    (hmreq : natBit (leField trailer 20 1) 5 = true) (hen : s.bit R.IMAP_CFG_EN = false) (hroom : mapRoom s n = true) :
    exec .mapTrailer s = .next (reissueMap ((s.putImap { s.imap with trailers := rest }).bump R.IMAP_CNT2_MREQ) n) := by
  rw [exec_mapTrailer hrun ht hvalid hindigo]
  have hroom' : mapRoom ((s.putImap { s.imap with trailers := rest }).bump R.IMAP_CNT2_MREQ) n = true := by
    simp only [mapRoom, State.bump, State.bumpBy, State.set_imap]
    exact hroom
  have hcfg : Leaves R.IMAP_CFG s (reissueMap ((s.putImap { s.imap with trailers := rest }).bump R.IMAP_CNT2_MREQ) n) :=
    (((Leaves.refl _ s).putImap _).bump R.IMAP_CNT2_MREQ (by decide)).reissueMap ⟨by decide, by decide⟩ (by decide) (by decide) n
  refine congrArg Host.Outcome.next ?_
  unfold takeTrailer
  dsimp only
  rw [if_pos hmreq, if_pos hroom', hcfg.bit wf (f := R.IMAP_CFG_EN), hen]
  rfl

theorem fwd_dropReport (s : State) (c : Nat) : (dropReport s c).fwd = s.fwd :=
  (dropReport_frame rfl (Frame.refl 0x40001 s) c).of .fwd rfl

theorem nodeValid_congr {t : State} (hp : t.part = s.part) (hf : t.fwd = s.fwd) (n : Nat) : nodeValid t n = nodeValid s n := by
  unfold nodeValid lineCount State.line
  rw [hp, hf]

theorem isIndigo_congr {t : State} (hf : t.fwd = s.fwd) (n : Nat) : isIndigo t n = isIndigo s n := by
  unfold isIndigo nodeMode State.line
  rw [hf]

theorem exec_staleIndigoReport_unknown {c : Nat} {f : RxFrame} (hrun : running s = true) (hf : headFrame s c .stale = some f)
    (he : f.expected = none) : exec (.staleIndigoReport c) s = .next ((dropReport s c).bump R.IMAP_CNT1_STALE) := by
  change execStaleIndigoReport c s = _
  rw [execStaleIndigoReport, hf]
  dsimp only
  rw [hrun, he]
  rfl

theorem exec_staleIndigoReport_known {c : Nat} {f : RxFrame} (hrun : running s = true) (hf : headFrame s c .stale = some f)
    (he : f.expected = some n) (hvalid : nodeValid s n = true) (hindigo : isIndigo s n = true) :
    exec (.staleIndigoReport c) s = .next (reissueMap ((dropReport s c).bump R.IMAP_CNT1_STALE) n) := by
  have hfwd : ((dropReport s c).bump R.IMAP_CNT1_STALE).fwd = s.fwd := by
    rw [State.bump, State.bumpBy, State.set_fwd, fwd_dropReport]
  have hpart : ((dropReport s c).bump R.IMAP_CNT1_STALE).part = s.part := (State.set_keeps (dropReport_keeps (Keeps.refl s) c) _ _).part
  have hok : (nodeValid ((dropReport s c).bump R.IMAP_CNT1_STALE) n && isIndigo ((dropReport s c).bump R.IMAP_CNT1_STALE) n) = true := by
    rw [nodeValid_congr hpart hfwd, isIndigo_congr hfwd, hvalid, hindigo]; rfl
  change execStaleIndigoReport c s = _
  rw [execStaleIndigoReport, hf]
  dsimp only
  rw [hrun, he]
  exact congrArg Host.Outcome.next (if_pos hok)

theorem imap_freeMapEntry (s : State) (n : Nat) : (freeMapEntry s n).imap.entries = assocDel s.imap.entries n ∧ (freeMapEntry s n).fwd = s.fwd := by
  unfold freeMapEntry viewImap
  rw [State.setBit_imap, State.set_imap, State.setBit_fwd, State.set_fwd]
  exact ⟨rfl, rfl⟩

theorem mapHoldExpiry_row {e : MapEntry} (he : assocGet s.imap.entries n = some e) (hhold : e.status = .hold) :
    ∃ t, exec (.mapHoldExpiry n) s = .next t ∧ assocGet t.imap.entries n = none ∧ t.fwd = s.fwd := by
  refine ⟨freeMapEntry (s.reach (e.since + s.get R.IMAP_HOLD_HOLD * secondNs)) n, ?_, ?_, ?_⟩
  · change execMapHoldExpiry n s = _
    rw [execMapHoldExpiry, he]
    exact if_pos hhold
  · rw [(imap_freeMapEntry _ n).1, assocGet_assocDel]
  · rw [(imap_freeMapEntry _ n).2]
    exact (State.reach_frame rfl (Frame.refl 0x40080000 s) _).of .fwd rfl

/-! ## IMAP_REQ -/

theorem openTo_of_running (hrun : running s = true) (q : Requester) : openTo s q = true := by rw [openTo, hrun]; rfl

theorem mapRequest_accepted (hrun : running s = true) (hvalid : nodeValid s n = true) (hindigo : isIndigo s n = true)
    (hnone : assocGet s.imap.entries n = none) (act : State → State) : mapRequest s n act = (act s).set R.IMAP_STATUS_REQ_RES 1 := by
  simp [mapRequest, openTo_of_running hrun, hvalid, hindigo, hnone]

theorem mapRequest_pending (hrun : running s = true) (hvalid : nodeValid s n = true) (hindigo : isIndigo s n = true)
    (hsome : (assocGet s.imap.entries n).isSome = true) (act : State → State) : mapRequest s n act = s.set R.IMAP_STATUS_REQ_RES 2 := by
  simp [mapRequest, openTo_of_running hrun, hvalid, hindigo, hsome]

theorem mapRequest_noNode (hrun : running s = true) (h : (nodeValid s n && isIndigo s n) = false) (act : State → State) :
    mapRequest s n act = s.set R.IMAP_STATUS_REQ_RES 3 := by
  have hno : (!nodeValid s n || !isIndigo s n) = true := by rw [← Bool.not_and, h]; rfl
  simp [mapRequest, openTo_of_running hrun, hno]

/-- The rows of IMAP_REQ are requests on a node. -/
theorem exec_imapRow {rate : Nat} {row : Instr} (hrow : row ∈ [Instr.imapRateChange n rate, .imapClear n, .imapResend n]) :
    ∃ act, exec row s = .next (mapRequest s n act) := by
  simp only [List.mem_cons, List.not_mem_nil, or_false] at hrow
  obtain rfl | rfl | rfl := hrow
  · exact ⟨_, rfl⟩
  · exact ⟨_, rfl⟩
  · exact ⟨_, rfl⟩

/-- Settles O15. -/
theorem mapRowsComplete : Obligations.MapRowsComplete := by
  intro s n wf hrun
  refine ⟨?learn, ?mreq, ?unknown, ?known, ?hold, ?request, ?refused⟩
  case learn =>
    intro trailer rest ht hvalid hindigo hmreq hen hnone hcodes hroom hwin
    rw [exec_mapTrailer hrun ht hvalid hindigo, takeTrailer, hmreq]
    exact congrArg Host.Outcome.next ((if_pos hen).trans (learnTrailer_opens hnone hcodes hroom hwin))
  case mreq => exact fun trailer rest ht hvalid hindigo hmreq hen hroom => exec_mapTrailer_mreq wf hrun ht hvalid hindigo hmreq hen hroom
  case unknown => exact fun c f hf he => exec_staleIndigoReport_unknown hrun hf he
  case known => exact fun c f hf he hvalid hindigo => exec_staleIndigoReport_known hrun hf he hvalid hindigo
  case hold => exact fun e he hhold => mapHoldExpiry_row he hhold
  case request =>
    intro rate hvalid hindigo hnone
    have hreq := mapRequest_accepted hrun hvalid hindigo hnone
    exact ⟨congrArg Host.Outcome.next (hreq _), congrArg Host.Outcome.next (hreq _), congrArg Host.Outcome.next (hreq _)⟩
  case refused =>
    intro rate row hrow
    obtain ⟨act, hexec⟩ := exec_imapRow (s := s) hrow
    rw [hexec]
    exact ⟨fun hvalid hindigo hsome => congrArg Host.Outcome.next (mapRequest_pending hrun hvalid hindigo hsome act),
      fun hno => congrArg Host.Outcome.next (mapRequest_noNode hrun hno act)⟩

end Sys2Proof.Machine
end

section
/-!
The rows of the slot engine (O16).
-/

namespace Sys2Proof.Machine

variable {s : State} {n c : Nat}

theorem applyPendingStep_same (s : State) : (applyPendingStep s).psm = s.psm ∧ (applyPendingStep s).pair = s.pair ∧
    (applyPendingStep s).now = s.now := by
  have h := applyPendingStep_frame rfl (Frame.refl 0x808c0021 s)
  exact ⟨h.of .psm rfl, h.of .pair rfl, h.of .now rfl⟩

/-- A boundary after one that was counted raises the ASN by 1 (R240), and the pair notes when. -/
theorem countBoundary_row (htake : s.pair.takeAsn = false) (hrun : s.bit R.PSM_STATUS_RUN = true) :
    (countBoundary s).asnNat = (s.asnNat + 1) % 2 ^ 40 ∧ (countBoundary s).pair.asnAt = (countBoundary s).now := by
  have hasn (b : Nat) : nextAsn s b = (s.asnNat + 1) % 2 ^ 40 := by simp [nextAsn, htake, hrun]
  unfold countBoundary
  extract_lets b asn v src v1 step src2 v2 src3 v3
  have hset : (v3.set R.PSM_STATUS_RUN 1).psm = v3.psm ∧ (v3.set R.PSM_STATUS_RUN 1).pair = v3.pair ∧ (v3.set R.PSM_STATUS_RUN 1).now = v3.now :=
    ⟨State.set_psm .., State.set_pair .., State.set_now ..⟩
  obtain ⟨hpsm, hpair, hnow⟩ := applyPendingStep_same (v3.set R.PSM_STATUS_RUN 1)
  constructor
  · rw [State.asnNat, hpsm, hset.1]
    change (BitVec.ofNat 40 (nextAsn s b)).toNat = _
    rw [hasn, BitVec.toNat_ofNat, Nat.mod_mod]
  · rw [hpair, hnow, hset.2.1, hset.2.2]
    rfl

theorem exec_slotBoundary (hrun : slotframesRun s = true) :
    exec .slotBoundary s = .next (autoRepair (issueSlot (slotOnPaths (assignEngines (planExchanges (swapMicrocode (settle
      (boundaryDue (countBoundary (endSlot (countIdle s))))))))))) := by
  change execSlotBoundary s = _
  exact if_pos hrun

theorem exec_receivedFrame_poison {w : Bool} {i : QueueItem} (hrun : running s = true) (hi : headReport s c = some i)
    (hkind : rxKind s i = .poison) : exec (.receivedFrame c w) s = .next (consumeTag (dropReport s c) i.tag) := by
  change execReceivedFrame c w s = _
  rw [execReceivedFrame, hi]
  dsimp only
  rw [hrun, hkind]
  rfl

theorem exec_receivedFrame_rejected {w : Bool} {i : QueueItem} (hrun : running s = true) (hi : headReport s c = some i)
    (hkind : rxKind s i = .node) (hf : (filterFrame (dropReport s c) (rxFrame s i)).2 = none) :
    exec (.receivedFrame c w) s = .next (filterFrame (dropReport s c) (rxFrame s i)).1 := by
  change execReceivedFrame c w s = _
  rw [execReceivedFrame, hi]
  dsimp only
  rw [hrun, hkind]
  dsimp only
  rw [hf]
  rfl

theorem exec_receivedFrame_taken {w : Bool} {i : QueueItem} (hrun : running s = true) (hi : headReport s c = some i)
    (hkind : rxKind s i = .node) (hf : (filterFrame (dropReport s c) (rxFrame s i)).2 = some n) :
    exec (.receivedFrame c w) s = .next (takeFrame (filterFrame (dropReport s c) (rxFrame s i)).1 n (rxFrame s i) w) := by
  change execReceivedFrame c w s = _
  rw [execReceivedFrame, hi]
  dsimp only
  rw [hrun, hkind]
  dsimp only
  rw [hf]
  rfl

theorem exec_replyWindowEnd (hrun : running s = true) {e : Exchange} (he : exchangeOf s n = some e) (hopen : e.closed = false) :
    exec (.replyWindowEnd n) s = .next (if (e.sent && !e.replied && nodeValid s n) = true
      then missedPoll (setExchange s n { e with closed := true }) n e.unionOnly else setExchange s n { e with closed := true }) := by
  change Host.Outcome.next (if running s = true then replyWindowEnds s n else s) = _
  rw [if_pos hrun, replyWindowEnds, he]
  dsimp only
  rw [hopen]
  rfl

theorem nodeAckMissed_waits {e : Exchange} {h : Nat} {f : TxFrame} (he : exchangeOf s n = some e) (hfollow : e.follow = some h)
    (hf : s.frame h = some f) (hsent : f.sends ≠ 0) (hleft : f.sends < s.get R.PSM_SUP_DL_RETRY) :
    nodeAckMissed s n = (setExchange s n { e with follow := none, more := false, ackDue := none }).putSched
      { s.sched with resend := assocSet s.sched.resend n h } := by
  have hframe : (setExchange s n { e with follow := none, more := false, ackDue := none }).frame h = some f := hf
  rw [nodeAckMissed, he]
  dsimp only
  rw [hfollow]
  dsimp only
  rw [hframe]
  exact (if_neg hsent).trans (if_neg (Nat.not_le.2 hleft))

theorem nodeAckWindowEnd_row {e : Exchange} {h : Nat} {f : TxFrame} (hrun : running s = true) (he : exchangeOf s n = some e)
    (hfollow : e.follow = some h) (hf : s.frame h = some f) (hsent : f.sends ≠ 0) (hleft : f.sends < s.get R.PSM_SUP_DL_RETRY) :
    ∃ t, exec (.nodeAckWindowEnd n) s = .next t ∧ exchangeOf t n = some { e with follow := none, more := false, ackDue := none } ∧
      assocGet t.sched.resend n = some h ∧ t.frame h = some f :=
  ⟨_, congrArg Host.Outcome.next ((if_pos hrun).trans (nodeAckMissed_waits he hfollow hf hsent hleft)),
    assocGet_assocSet_self .., assocGet_assocSet_self .., hf⟩

theorem exec_joinRequest {f : RxFrame} {eui : Nat} {ie : List Byte} (hrun : running s = true) (hf : headFrame s c .join = some f)
    (heui : f.extSource = some eui) (hie : joinContent f = some ie) : exec (.joinRequest c) s = .next (takeJoin (dropReport s c) f eui ie) := by
  change execJoinRequest c s = _
  rw [execJoinRequest, hf]
  dsimp only
  rw [heui, hie]
  exact if_pos hrun

theorem takeJoin_answered {f : RxFrame} {eui k : Nat} {ie : List Byte} (haddr : addressedHere s f = true) (hopen : nodesClosed s = false)
    (hexp : f.expected = none) (hk : joinSlotAt s f.asn = some k) (hclaims : claims s = true) (hen : s.bit R.PSM_CTRL_EN = true)
    (hrun : s.bit R.PSM_STATUS_RUN = true) :
    takeJoin s f eui ie = joinRequest (ackJoin s k f.asn f.path f.ant f.mac.seq eui f.ended) eui (s.get (R.JOIN_SLOT_MODE k)) f.path f.ant ie := by
  unfold takeJoin
  rw [haddr, hopen, hexp, hk, hclaims, hen, hrun]
  rfl

/-- Settles O16. -/
theorem slotRowsComplete : Obligations.SlotRowsComplete := by
  intro s wf
  refine ⟨exec_slotBoundary, countBoundary_row, ?poison, ?node, ?missed, ?ended, ?follow, ?join, ?elsewhere⟩
  case poison => exact fun c w i hrun hi hkind => exec_receivedFrame_poison hrun hi hkind
  case node =>
    intro c w i hrun hi hkind
    cases hf : (filterFrame (dropReport s c) (rxFrame s i)).2 with
    | none =>
      rw [exec_receivedFrame_rejected hrun hi hkind hf, ← Prod.mk.eta (p := filterFrame (dropReport s c) (rxFrame s i)), hf]
    | some n =>
      rw [exec_receivedFrame_taken hrun hi hkind hf, ← Prod.mk.eta (p := filterFrame (dropReport s c) (rxFrame s i)), hf]
  case missed =>
    intro n e hrun he hopen hsent hreplied hvalid
    rw [exec_replyWindowEnd hrun he hopen, hsent, hreplied, hvalid]
    rfl
  case ended =>
    intro n e hrun he hopen hdone
    rw [exec_replyWindowEnd hrun he hopen, if_neg]
    obtain h | h := hdone <;> simp [h]
  case follow => exact fun n e h f hrun he hfollow hf hsent hleft => nodeAckWindowEnd_row hrun he hfollow hf hsent hleft
  case join =>
    rintro c f eui ie k d hrun hf heui hie rfl haddr hopen hexp hk hclaims hen hslot
    rw [exec_joinRequest hrun hf heui hie, takeJoin_answered haddr hopen hexp hk hclaims hen hslot]
  case elsewhere =>
    rintro c f eui ie d hrun hf heui hie rfl haddr
    rw [exec_joinRequest hrun hf heui hie, takeJoin, haddr]
    rfl

end Sys2Proof.Machine
end

section
/-!
The rows of learned drift and of peer tracking (O17).
-/

namespace Sys2Proof.Machine

variable {s : State} {n c : Nat}

/-! ## The fitter's entries -/

theorem find_map_replaced (l : List (Nat × FitEntry)) (n : Nat) (f : FitEntry) (h : (l.any fun e => decide (e.1 = n)) = true) :
    (l.map fun e => if e.1 = n then (n, f) else e).find? (fun e => decide (e.1 = n)) = some (n, f) := by
  induction l with
  | nil => simp at h
  | cons e l ih =>
    by_cases he : e.1 = n
    · simp [he]
    · simp only [List.any_cons, he, decide_false, Bool.false_or] at h
      simp [he, ih h]

theorem find_take_append_new (l : List (Nat × FitEntry)) (k n : Nat) (f : FitEntry) (h : (l.any fun e => decide (e.1 = n)) = false) :
    (l.take k ++ [(n, f)]).find? (fun e => decide (e.1 = n)) = some (n, f) := by
  have hnone : (l.take k).find? (fun e => decide (e.1 = n)) = none :=
    List.find?_eq_none.2 fun e he hen => List.any_eq_false.1 h e (List.mem_of_mem_take he) hen
  rw [List.find?_append, hnone]
  simp

theorem cache_putCache (s : State) (l : List (Nat × FitEntry)) : (putCache s l).drift.cache = l := by
  rw [putCache, State.set_drift]
  rfl

theorem fitOf_of_find {f : FitEntry} (h : s.drift.cache.find? (fun e => decide (e.1 = n)) = some (n, f)) : fitOf s n = f := by
  rw [fitOf, h]
  rfl

theorem find_setFit (s : State) (n : Nat) (f : FitEntry) : (setFit s n f).drift.cache.find? (fun e => decide (e.1 = n)) = some (n, f) := by
  unfold setFit
  cases hany : s.drift.cache.any fun e => decide (e.1 = n) with
  | true => rw [if_pos rfl, cache_putCache, find_map_replaced _ _ _ hany]
  | false => rw [if_neg Bool.false_ne_true, cache_putCache, find_take_append_new _ _ _ _ hany]

theorem Leaves.setFit {key : Nat} {s0 : State} (h : Leaves key s0 s) (hk : key ≠ R.DRIFT_STATUS) (n : Nat) (f : FitEntry) :
    Leaves key s0 (Machine.setFit s n f) :=
  ite ((h.putDrift _).set R.DRIFT_STATUS_CACHE_USED _ hk.symm) ((h.putDrift _).set R.DRIFT_STATUS_CACHE_USED _ hk.symm)

theorem drift_setLineField (s : State) (n : Nat) (f : LineFld) (v : Nat) : (setLineField s n f v).drift = s.drift :=
  (setLineField_frame rfl (Frame.refl 0x106110001 s) n f v).of .drift rfl

/-! ## The model's age and WAKE_REQ -/

theorem exec_modelAgeExpiry (hrun : running s = true) (hvalid : nodeValid s n = true) (hmodel : modelValid s n = true)
    (hold : 2 ^ 23 * slotLenNs s ≤ silentNs s n) : exec (.modelAgeExpiry n) s =
      .next (considerAgreement ((setFit s n { fitOf s n with valid := false }).bump R.DRIFT_CNT3_INVALID) n) := by
  change execModelAgeExpiry n s = _
  rw [execModelAgeExpiry, if_pos (by rw [hrun, hvalid, hmodel, decide_eq_true hold]; rfl), invalidate]
  exact congrArg Host.Outcome.next (if_pos hmodel)

theorem exec_wakeSetTarget (hrun : running s = true) (hvalid : nodeValid s n = true) (k : Nat) : exec (.wakeSetTarget n k) s =
    .next (considerAgreement ((s.set R.DRIFT_STATUS_REQ_RES 1).putDrift { s.drift with targets := assocSet s.drift.targets n (k % 16) }) n) := by
  change execWakeSetTarget n k s = _
  rw [execWakeSetTarget, if_neg (by simp [openTo_of_running hrun]), if_neg (by simp [hvalid])]

/-- The fit that a reset model starts from (R288). -/
def resetFit (s : State) (n : Nat) : FitEntry :=
  let t := s.set R.DRIFT_STATUS_REQ_RES 1
  freshFit (lineRate (t.line n)) (signedOf 16 (lineGet (t.line n) N.AGEING)) (t.get R.DRIFT_CFG_S_INIT * 4) (t.get R.DRIFT_CFG_RAW_TOL * 256)
    0 false false

/-- The state that a reset model leaves before agreements are considered (R288). -/
def wakeReset (s : State) (n : Nat) : State :=
  let t := s.set R.DRIFT_STATUS_REQ_RES 1
  let u := setFit t n (resetFit s n)
  let u := if claims u then setLineField u n N.SPLIT 0 else u
  if modelValid t n then u.bump R.DRIFT_CNT3_INVALID else u

theorem exec_wakeResetModel (hrun : running s = true) (hvalid : nodeValid s n = true) :
    exec (.wakeResetModel n) s = .next (considerAgreement (wakeReset s n) n) := by
  change execWakeResetModel n s = _
  rw [execWakeResetModel, if_neg (by simp [openTo_of_running hrun]), if_neg (by simp [hvalid])]
  rfl

theorem drift_wakeReset (s : State) (n : Nat) : (wakeReset s n).drift = (setFit (s.set R.DRIFT_STATUS_REQ_RES 1) n (resetFit s n)).drift := by
  unfold wakeReset
  dsimp only
  generalize setFit (s.set R.DRIFT_STATUS_REQ_RES 1) n (resetFit s n) = u
  have hline : (if claims u = true then setLineField u n N.SPLIT 0 else u).drift = u.drift := by
    split
    · rw [drift_setLineField]
    · rfl
  split
  · rw [State.bump, State.bumpBy, State.set_drift, hline]
  · exact hline

theorem fitOf_wakeReset (s : State) (n : Nat) : fitOf (wakeReset s n) n = resetFit s n :=
  fitOf_of_find (by rw [drift_wakeReset, find_setFit])

theorem eRes_resetFit (wf : Memory.wf s = true) (n : Nat) : (resetFit s n).eRes = s.get R.DRIFT_CFG_RAW_TOL * 256 := by
  have hcfg : Leaves R.DRIFT_CFG s (s.set R.DRIFT_STATUS_REQ_RES 1) := (Leaves.refl _ s).set _ _ (by decide)
  change (s.set R.DRIFT_STATUS_REQ_RES 1).get R.DRIFT_CFG_RAW_TOL * 256 = _
  rw [hcfg.get (f := R.DRIFT_CFG_RAW_TOL) wf]

theorem result_wakeReset (wf : Memory.wf s = true) (n : Nat) : (wakeReset s n).get R.DRIFT_STATUS_REQ_RES = 1 := by
  have hfit : (setFit (s.set R.DRIFT_STATUS_REQ_RES 1) n (resetFit s n)).get R.DRIFT_STATUS_REQ_RES = 1 := by
    unfold setFit putCache
    split
    · simp [R.DRIFT_STATUS_REQ_RES, R.DRIFT_STATUS_CACHE_USED, wf_regs wf]
    · simp [R.DRIFT_STATUS_REQ_RES, R.DRIFT_STATUS_CACHE_USED, wf_regs wf]
  have hwf : Memory.wf (setFit (s.set R.DRIFT_STATUS_REQ_RES 1) n (resetFit s n)) = true := wf_keeps (setFit_keeps (Keeps.refl _) n _) (wf_set wf _ _)
  unfold wakeReset
  dsimp only
  generalize setFit (s.set R.DRIFT_STATUS_REQ_RES 1) n (resetFit s n) = u at hfit hwf
  have hline : Leaves R.DRIFT_STATUS u (if claims u = true then setLineField u n N.SPLIT 0 else u) :=
    .ite ((Leaves.refl _ u).setLineField ⟨by decide, by decide⟩ n _ _) (.refl _ u)
  have hall := Leaves.ite (c := modelValid (s.set R.DRIFT_STATUS_REQ_RES 1) n = true) (hline.bump R.DRIFT_CNT3_INVALID (by decide)) hline
  rw [hall.get (f := R.DRIFT_STATUS_REQ_RES) hwf, hfit]

theorem exec_wakeRow_noNode {k : Nat} {row : Instr} (hrow : row ∈ [Instr.wakeSetTarget n k, .wakeResetModel n]) (hrun : running s = true)
    (hvalid : nodeValid s n = false) : exec row s = .next (s.set R.DRIFT_STATUS_REQ_RES 2) := by
  simp only [List.mem_cons, List.not_mem_nil, or_false] at hrow
  obtain rfl | rfl := hrow
  · change execWakeSetTarget n k s = _
    rw [execWakeSetTarget, if_neg (by simp [openTo_of_running hrun]), if_pos (by simp [hvalid])]
  · change execWakeResetModel n s = _
    rw [execWakeResetModel, if_neg (by simp [openTo_of_running hrun]), if_pos (by simp [hvalid])]

/-! ## Peer tracking -/

theorem drift_postEvent (s : State) (code : Nat) (fields : List (Nat × Nat × Nat)) : (postEvent code fields s).drift = s.drift :=
  (postEvent_frame rfl (Frame.refl 0x80840021 s) code fields).of .drift rfl

theorem exec_peerBeaconRx {f : RxFrame} {asn tPoll : Nat} (hrun : running s = true) (hf : headFrame s c .beacon = some f)
    (hb : beaconContent f = some (asn, tPoll)) (hoff : (dropReport s c).get R.TRACK_STATUS_STATE ≠ trackOff)
    (hslot : trackedSlot (dropReport s c) f = true) : exec (.peerBeaconRx c) s =
      (if asn ≠ f.asn then
        done (if (dropReport s c).drift.trackFrame = some (slotframeOf (dropReport s c) f.asn)
          then (dropReport s c).bump R.TRACK_CNT1_ASN_MISMATCH
          else trackMiss ((dropReport s c).bump R.TRACK_CNT1_ASN_MISMATCH) (slotframeOf (dropReport s c) f.asn))
      else done (acceptBeacon (dropReport s c) f.asn tPoll f.began)) := by
  change execPeerBeaconRx c s = _
  rw [execPeerBeaconRx, hf]
  dsimp only
  rw [if_neg (by simp [hrun]), hb]
  dsimp only
  rw [if_neg (by simp [hoff, hslot])]

/-- What an accepted beacon leaves in the tracker (R296, R297). -/
theorem acceptBeacon_row {asn tPoll first : Nat} (wf : Memory.wf s = true)
    (hin : 2 * ((first : Int) - slotStartOf s asn - (tPoll * 1000 : Nat) - s.getI R.TRACK_PHASE_PHI -
      realDiv 21 (s.getI R.TRACK_DRIFT_D * (s.drift.trackLast.elim 0 fun t => first - t : Nat)) (1024 * 1000000)).natAbs ≤
        trackWindow s (s.drift.trackLast.elim 0 fun t => first - t) * 1000) :
    (acceptBeacon s asn tPoll first).get R.TRACK_STATUS_STATE = trackTrack ∧ (acceptBeacon s asn tPoll first).get R.TRACK_STATUS_MISSES = 0 ∧
      (acceptBeacon s asn tPoll first).drift.trackLast = some first := by
  unfold acceptBeacon
  extract_lets tau old d phi off state misses s1 s2 src s3 s4
  have hwin : ¬ trackWindow s tau * 1000 < 2 * off.natAbs := by
    have htau : tau = s.drift.trackLast.elim 0 fun t => first - t := by
      unfold tau
      cases s.drift.trackLast <;> rfl
    unfold off phi old d
    rw [htau]
    push_cast at hin ⊢
    exact Nat.not_lt.2 hin
  have hw1 : Memory.wf s1 = true := by
    unfold s1
    split
    · exact wf_set wf _ _
    · exact wf
  have hw3 : Memory.wf s3 = true := wf_keeps (State.putDrift_keeps (Keeps.refl s2) _) (wf_set hw1 _ _)
  have hrow : s4.get R.TRACK_STATUS_STATE = trackTrack ∧ s4.get R.TRACK_STATUS_MISSES = 0 ∧ s4.drift.trackLast = some first := by
    refine ⟨?_, ?_, ?_⟩
    · simp [s4, R.TRACK_STATUS_STATE, R.TRACK_STATUS_MISSES, R.TRACK_CNT0_RX, R.TRACK_STATUS, R.TRACK_CNT0, wf_regs hw3, trackTrack]
    · simp [s4, R.TRACK_STATUS_STATE, R.TRACK_STATUS_MISSES, R.TRACK_CNT0_RX, R.TRACK_STATUS, R.TRACK_CNT0, wf_regs hw3]
    · rfl
  have hw4 : Memory.wf s4 = true := wf_bump (wf_set (wf_set hw3 _ _) _ _) _
  obtain ⟨hstate, hmisses, hlast⟩ := hrow
  rw [if_neg hwin]
  split
  · rw [get_postEvent hw4 (by decide) _ R.TRACK_STATUS_STATE (by decide), get_postEvent hw4 (by decide) _ R.TRACK_STATUS_MISSES (by decide)]
    exact ⟨hstate, hmisses, (congrArg DriftState.trackLast (drift_postEvent ..)).trans hlast⟩
  · exact ⟨hstate, hmisses, hlast⟩

theorem peerBeaconRx_accepted (wf : Memory.wf s = true) (hrun : running s = true) {f : RxFrame} {tPoll tau : Nat} {d : State}
    (hf : headFrame s c .beacon = some f) (hb : beaconContent f = some (f.asn, tPoll)) (hd : d = dropReport s c)
    (hoff : d.get R.TRACK_STATUS_STATE ≠ trackOff) (hslot : trackedSlot d f = true)
    (htau : tau = d.drift.trackLast.elim 0 (fun t => f.began - t))
    (hin : 2 * ((f.began : Int) - slotStartOf d f.asn - (tPoll * 1000 : Nat) - d.getI R.TRACK_PHASE_PHI -
      realDiv 21 (d.getI R.TRACK_DRIFT_D * tau) (1024 * 1000000)).natAbs ≤ trackWindow d tau * 1000) :
    ∃ t, exec (.peerBeaconRx c) s = .next t ∧ t.get R.TRACK_STATUS_STATE = trackTrack ∧ t.get R.TRACK_STATUS_MISSES = 0 ∧
      t.drift.trackLast = some f.began := by
  subst hd htau
  have hwd : Memory.wf (dropReport s c) = true := wf_keeps (dropReport_keeps (Keeps.refl s) c) wf
  exact ⟨_, (exec_peerBeaconRx hrun hf hb hoff hslot).trans (if_neg (not_not.2 rfl)), acceptBeacon_row hwd hin⟩

/-- A slotframe without an accepted beacon counts a miss, and the 3rd and the 16th change the state (R297). -/
theorem trackMiss_row (wf : Memory.wf s = true) (frame : Nat) :
    (trackMiss s frame).get R.TRACK_STATUS_MISSES = min (2 ^ R.TRACK_STATUS_MISSES.width - 1) (s.get R.TRACK_STATUS_MISSES + 1) ∧
      (trackMiss s frame).get R.TRACK_STATUS_STATE = (if s.get R.TRACK_STATUS_MISSES = 2 then trackHoldover
        else if s.get R.TRACK_STATUS_MISSES = 15 then trackLost else s.get R.TRACK_STATUS_STATE) := by
  have hlt : s.get R.TRACK_STATUS_MISSES < 2 ^ 8 := get_lt ..
  unfold trackMiss
  extract_lets src s1 s2 m post
  have hs1 : Leaves R.TRACK_STATUS s (s1.bump R.TRACK_CNT0_MISS) := ((Leaves.refl _ s).putDrift _).bump R.TRACK_CNT0_MISS (by decide)
  have hw1 : Memory.wf (s1.bump R.TRACK_CNT0_MISS) = true := hs1.keeps.wf wf
  have hcount := hs1.get (f := R.TRACK_STATUS_MISSES) wf
  have hkept := hs1.get (f := R.TRACK_STATUS_STATE) wf
  have hw2 : Memory.wf s2 = true := wf_bump hw1 _
  have hm : m = min (2 ^ R.TRACK_STATUS_MISSES.width - 1) (s.get R.TRACK_STATUS_MISSES + 1) := by
    rw [← hcount]
    have hsame : m = min (2 ^ 8 - 1) ((s1.bump R.TRACK_CNT0_MISS).get R.TRACK_STATUS_MISSES + 1) % 2 ^ 8 :=
      get_set_same (wf_regs hw1) (by decide) _
    rw [hsame]
    exact Nat.mod_eq_of_lt (by omega)
  have hstate : s2.get R.TRACK_STATUS_STATE = s.get R.TRACK_STATUS_STATE := by
    rw [← hkept]
    exact get_set_bits (wf_regs hw1) R.TRACK_STATUS (by decide) (by decide) _
  have hposted (code : Nat) (hc : code < 65536) (state : Nat) (hlt : state < 8) :
      (post code state).get R.TRACK_STATUS_MISSES = m ∧ (post code state).get R.TRACK_STATUS_STATE = state := by
    have hwp : Memory.wf (s2.set R.TRACK_STATUS_STATE state) = true := wf_set hw2 _ _
    refine ⟨?_, ?_⟩
    · rw [get_postEvent hwp hc _ R.TRACK_STATUS_MISSES (by decide)]
      exact get_set_bits (wf_regs hw2) R.TRACK_STATUS (by decide) (by decide) _
    · rw [get_postEvent hwp hc _ R.TRACK_STATUS_STATE (by decide)]
      exact (get_set_same (wf_regs hw2) (by decide) _).trans (Nat.mod_eq_of_lt hlt)
  have hm8 : m = min 255 (s.get R.TRACK_STATUS_MISSES + 1) := hm
  split
  next h3 =>
    obtain ⟨hmisses, hst⟩ := hposted 0x0702 (by decide) trackHoldover (by decide)
    exact ⟨hmisses.trans hm, by rw [hst, if_pos (by omega)]⟩
  next h3 =>
    split
    next h16 =>
      obtain ⟨hmisses, hst⟩ := hposted 0x0703 (by decide) trackLost (by decide)
      exact ⟨hmisses.trans hm, hst.trans (by rw [if_neg (by omega), if_pos (by omega)])⟩
    next h16 => exact ⟨hm, by rw [hstate, if_neg (by omega), if_neg (by omega)]⟩

theorem exec_trackSlotframeMiss (hrun : running s = true) (hen : s.bit R.TRACK_CFG_EN = true) (hoff : s.get R.TRACK_STATUS_STATE ≠ trackOff)
    (hframe : s.drift.trackFrame ≠ some (slotframeOf s s.asnNat)) :
    exec .trackSlotframeMiss s = .next (trackMiss s (slotframeOf s s.asnNat)) := by
  change execTrackSlotframeMiss s = _
  exact if_pos (by rw [hrun, hen, decide_eq_true hoff, decide_eq_true hframe]; rfl)

/-- Settles O17. -/
theorem driftAndTrackRowsComplete : Obligations.DriftAndTrackRowsComplete := by
  refine ⟨fun s n wf => ⟨?unknown, ?known, exec_modelAgeExpiry, ?target, ?reset, ?noNode⟩, fun s wf hrun => ⟨?accepted, ?mismatch, ?missed⟩⟩
  case unknown =>
    intro o rest ho hvalid
    change execDriftObservation s = _
    rw [execDriftObservation, ho]
    refine congrArg Host.Outcome.next (if_pos ?_)
    change (!nodeValid s o.node) = true
    rw [hvalid]; rfl
  case known =>
    intro o rest ho _
    refine ⟨_, ?_, rfl⟩
    change execDriftObservation s = _
    rw [execDriftObservation, ho]
  case target => exact fun k hrun hvalid => exec_wakeSetTarget hrun hvalid k
  case reset =>
    intro hrun hvalid
    have hfit := fitOf_wakeReset s n
    exact ⟨wakeReset s n, _, exec_wakeResetModel hrun hvalid, rfl, by rw [hfit]; rfl, by rw [hfit]; rfl, by rw [hfit]; rfl, by rw [hfit]; rfl,
      by rw [hfit, eRes_resetFit wf], result_wakeReset wf n⟩
  case noNode => exact fun k row hrow hrun hvalid => exec_wakeRow_noNode hrow hrun hvalid
  case accepted => exact fun c f tPoll d tau hf hb hd hoff hslot htau hin => peerBeaconRx_accepted wf hrun hf hb hd hoff hslot htau hin
  case mismatch =>
    rintro c f asn tPoll d hf hb hne rfl hoff hslot hframe
    exact ((exec_peerBeaconRx hrun hf hb hoff hslot).trans (if_pos hne)).trans (congrArg Host.Outcome.next (if_neg hframe))
  case missed =>
    intro hen hoff hframe
    exact ⟨_, exec_trackSlotframeMiss hrun hen hoff hframe, trackMiss_row wf _⟩

end Sys2Proof.Machine
end

section
/-!
The rows of the EUI hash table (O18).
-/

namespace Sys2Proof.Machine

variable {s : State} {q : Requester}

/-! ## The lines under the table's operations -/

theorem ncs_fold {α : Type} {f : State → α → State} (hf : ∀ u x, (f u x).fwd.ncs = u.fwd.ncs) (s : State) (l : List α) :
    (foldState f s l).fwd.ncs = s.fwd.ncs := by
  induction l generalizing s with
  | nil => rfl
  | cons x l ih => exact (ih (f s x)).trans (hf s x)

theorem fwd_postEvent (s : State) (code : Nat) (fields : List (Nat × Nat × Nat)) : (postEvent code fields s).fwd = s.fwd :=
  (postEvent_frame rfl (Frame.refl 0x80840021 s) code fields).of .fwd rfl

theorem fwd_parityMet (s : State) (k : Nat) : (parityMet s k).fwd = s.fwd := (parityMet_frame rfl (Frame.refl 0x82840027 s) k).of .fwd rfl

theorem ncs_startRebuild (s : State) (b : Nat) : (startRebuild s b).fwd.ncs = s.fwd.ncs := by
  unfold startRebuild
  split
  · rw [State.set_fwd]; rfl
  · split <;> rfl

theorem ncs_ehtParity (s : State) (eui : Nat) : (ehtParity s eui).fwd.ncs = s.fwd.ncs := by
  unfold ehtParity
  dsimp only
  split
  · rfl
  · rw [ncs_fold (fun u k => congrArg FwdState.ncs (fwd_parityMet u k)), ncs_startRebuild, fwd_postEvent, State.bumpBy, State.set_fwd]

/-- Of the forwarding state the EUI hash table alone may differ. -/
def EhtOnly (s t : State) : Prop := ∃ e, t.fwd = { s.fwd with eht := e }

namespace EhtOnly

variable {s t u : State}

theorem same (h : t.fwd = s.fwd) : EhtOnly s t := ⟨s.fwd.eht, h⟩

theorem trans (h : EhtOnly s t) (k : EhtOnly t u) : EhtOnly s u := by
  obtain ⟨e, he⟩ := h
  obtain ⟨d, hd⟩ := k
  exact ⟨d, by rw [hd, he]⟩

theorem ncs (h : EhtOnly s t) : t.fwd.ncs = s.fwd.ncs := by
  obtain ⟨e, he⟩ := h
  rw [he]

theorem snap (h : EhtOnly s t) : t.fwd.snap = s.fwd.snap := by
  obtain ⟨e, he⟩ := h
  rw [he]

theorem fold {α : Type} {f : State → α → State} (hf : ∀ u x, EhtOnly u (f u x)) (s : State) (l : List α) : EhtOnly s (foldState f s l) := by
  induction l generalizing s with
  | nil => exact same rfl
  | cons x l ih => exact (hf s x).trans (ih (f s x))

theorem setEht (s : State) (k : Nat) (e : BitVec 96) : EhtOnly s (s.setEht k e) := ⟨_, rfl⟩

theorem viewOverflow (s : State) : EhtOnly s (Machine.viewOverflow s) := same (State.set_fwd ..)

theorem setOvf (s : State) (b v : Nat) : EhtOnly s (Machine.setOvf s b v) := by
  unfold Machine.setOvf
  dsimp only
  split
  · exact same rfl
  · exact setEht ..

theorem ehtFull (s : State) (eui : Nat) : EhtOnly s (Machine.ehtFull s eui) := same (by
  rw [Machine.ehtFull, fwd_postEvent, State.bump, State.bumpBy, State.set_fwd])

theorem ehtPut (s : State) (b k eui index : Nat) : EhtOnly s (Machine.ehtPut s b k eui index) := by
  unfold Machine.ehtPut
  dsimp only
  split
  · exact (setEht ..).trans ((setOvf ..).trans (viewOverflow _))
  · exact setEht ..

end EhtOnly

theorem ehtOnly_rebuildBucket (s : State) (b : Nat) : EhtOnly s (rebuildBucket s b) := by
  have hgood (u : State) (c : Nat × BitVec 96) : EhtOnly u (if ehtGood c.2 then u else parityRewritten u c.1) := by
    refine .same ?_
    split
    · rfl
    · unfold parityRewritten
      split <;> rfl
  have hclear (u : State) (l : List Nat) := EhtOnly.fold (f := fun t k => t.setEht k 0#96) (fun v k => .setEht v k _) u l
  have hstale (u : State) (l : Cells 96) := EhtOnly.fold (f := fun t (c : Nat × BitVec 96) => t.setEht c.1 0#96) (fun v c => .setEht v c.1 _) u l
  unfold rebuildBucket
  extract_lets s1 s2 stale s3 mine
  have h1 : EhtOnly s s1 := EhtOnly.fold hgood s _
  have h3 : EhtOnly s s3 := (h1.trans (hclear s1 _)).trans (hstale s2 stale)
  refine (h3.trans (.fold (fun u c => ?_) s3 mine)).trans (.viewOverflow _)
  split
  · exact .ehtFull ..
  · exact .ehtPut ..

/-! ## Answers -/

theorem ehtAnswer_row (wf : Memory.wf s = true) (q : Requester) (r i : Nat) : (ehtAnswer s q r i).get (R.EHT_STAT_RESULT q.bank) = r % 8 ∧
    (ehtAnswer s q r i).get (R.EHT_STAT_INDEX q.bank) = i % 2 ^ 20 ∧ (ehtAnswer s q r i).fwd = s.fwd := by
  unfold ehtAnswer
  refine ⟨?_, ?_, ?_⟩
  · simp [R.EHT_STAT_RESULT, R.EHT_STAT_INDEX, wf_regs wf]
  · simp [R.EHT_STAT_RESULT, R.EHT_STAT_INDEX, wf_regs wf]
  · rw [State.set_fwd, State.set_fwd]

theorem exec_ehtLookup (hopen : openTo s q = true) (way flip : Nat) : exec (.ehtLookup q way flip) s =
    .next (ehtAnswer (ehtParity (ehtUpset s (ehtEuiOf s q) way flip) (ehtEuiOf s q)) q
      ((ehtLookup (ehtUpset s (ehtEuiOf s q) way flip) (ehtEuiOf s q)).2.elim
        (if (ehtMet (ehtUpset s (ehtEuiOf s q) way flip) (ehtEuiOf s q)).isEmpty then 1 else 4) fun _ => 0)
      ((ehtLookup (ehtUpset s (ehtEuiOf s q) way flip) (ehtEuiOf s q)).2.getD 0)) := by
  change execEhtLookup q way flip s = _
  rw [execEhtLookup, if_neg (by simp [hopen])]
  dsimp only
  cases (ehtLookup (ehtUpset s (ehtEuiOf s q) way flip) (ehtEuiOf s q)).2 <;> rfl

theorem ehtLookup_found {way flip i : Nat} (wf : Memory.wf s = true) (hopen : openTo s q = true)
    (hi : (ehtLookup (ehtUpset s (ehtEuiOf s q) way flip) (ehtEuiOf s q)).2 = some i) :
    ∃ t, exec (.ehtLookup q way flip) s = .next t ∧ t.get (R.EHT_STAT_RESULT q.bank) = 0 ∧ t.get (R.EHT_STAT_INDEX q.bank) = i % 2 ^ 20 ∧
      t.fwd.ncs = s.fwd.ncs := by
  have hupset : (ehtUpset s (ehtEuiOf s q) way flip).fwd.ncs = s.fwd.ncs := by
    unfold ehtUpset
    dsimp only
    split <;> rfl
  have hw := wf_keeps (ehtParity_keeps (ehtUpset_keeps (Keeps.refl s) (ehtEuiOf s q) way flip) (ehtEuiOf s q)) wf
  obtain ⟨hresult, hindex, hfwd⟩ := ehtAnswer_row hw q 0 i
  refine ⟨_, (exec_ehtLookup hopen way flip).trans (by rw [hi]; rfl), hresult, hindex, ?_⟩
  rw [hfwd, ncs_ehtParity, hupset]

theorem ehtLookup_missed {way : Nat} (wf : Memory.wf s = true) (hopen : openTo s q = true) (hnone : (ehtLookup s (ehtEuiOf s q)).2 = none)
    (hmet : ehtMet s (ehtEuiOf s q) = []) :
    ∃ t, exec (.ehtLookup q way 0) s = .next t ∧ t.get (R.EHT_STAT_RESULT q.bank) = 1 ∧ t.fwd = s.fwd := by
  have hupset : ehtUpset s (ehtEuiOf s q) way 0 = s := by
    unfold ehtUpset
    exact if_pos rfl
  have hparity : ehtParity s (ehtEuiOf s q) = s := by
    unfold ehtParity
    rw [hmet]
    rfl
  obtain ⟨hresult, -, hfwd⟩ := ehtAnswer_row wf q 1 0
  refine ⟨_, (exec_ehtLookup hopen way 0).trans ?_, hresult, hfwd⟩
  rw [hupset, hnone, hmet, hparity]
  rfl

theorem ehtInsert_row {index r i : Nat} {u : State} (wf : Memory.wf s = true) (hopen : openTo s q = true) (hfull : fwdFull q = true)
    (hins : ehtInsert s (ehtEuiOf s q) index = (u, r, i)) :
    ∃ t, exec (.ehtInsert q index) s = .next t ∧ t.get (R.EHT_STAT_RESULT q.bank) = r % 8 ∧
      t.get (R.EHT_STAT_INDEX q.bank) = i % 2 ^ 20 ∧ t.fwd = u.fwd := by
  have hw : Memory.wf u = true := by
    have h := wf_keeps (ehtInsert_keeps (Keeps.refl s) (ehtEuiOf s q) index) wf
    rwa [hins] at h
  refine ⟨_, ?_, ehtAnswer_row hw q r i⟩
  change execEhtInsert q index s = _
  rw [execEhtInsert, if_neg (by simp [hopen]), if_neg (by simp [hfull]), hins]

theorem ehtDelete_row (wf : Memory.wf s = true) (hopen : openTo s q = true) (hfull : fwdFull q = true)
    (hdel : (ehtDelete s (ehtEuiOf s q)).2 = true) :
    ∃ t, exec (.ehtDelete q) s = .next t ∧ t.get (R.EHT_STAT_RESULT q.bank) = 0 ∧ t.fwd = (ehtDelete s (ehtEuiOf s q)).1.fwd := by
  have hw := wf_keeps (ehtDelete_keeps (Keeps.refl s) (ehtEuiOf s q)) wf
  refine ⟨(ehtDelete s (ehtEuiOf s q)).1.set (R.EHT_STAT_RESULT q.bank) 0, ?_, ?_, State.set_fwd ..⟩
  · change execEhtDelete q s = _
    rw [execEhtDelete, if_neg (by simp [hopen]), if_neg (by simp [hfull])]
    dsimp only
    rw [if_pos hdel]
  · exact get_set_same (wf_regs hw) (by decide) 0

theorem exec_ehtRow_refused {index : Nat} {row : Instr} (hrow : row ∈ [Instr.ehtInsert q index, .ehtDelete q]) (hopen : openTo s q = true)
    (hfull : fwdFull q = false) : exec row s = .next (s.set (R.EHT_STAT_RESULT q.bank) 3) := by
  simp only [List.mem_cons, List.not_mem_nil, or_false] at hrow
  obtain rfl | rfl := hrow
  · change execEhtInsert q index s = _
    rw [execEhtInsert, if_neg (by simp [hopen]), if_pos (by simp [hfull])]
  · change execEhtDelete q s = _
    rw [execEhtDelete, if_neg (by simp [hopen]), if_pos (by simp [hfull])]

/-- The bucket lists after a pass (R309). -/
theorem rebuildNext_row (wf : Memory.wf s = true) (x : FwdState) (hx : x.ncs = s.fwd.ncs) (hr : x.rebuild = []) :
    let t := (s.putFwd x).setBit R.FWD_STATUS_REBUILD (!x.pass.isEmpty)
    t.fwd.rebuild = [] ∧ t.get R.FWD_STATUS_REBUILD = boolNat (!t.fwd.pass.isEmpty) ∧ t.fwd.ncs = s.fwd.ncs := by
  have hfwd : ((s.putFwd x).setBit R.FWD_STATUS_REBUILD (!x.pass.isEmpty)).fwd = x := State.setBit_fwd ..
  refine ⟨by rw [hfwd, hr], ?_, by rw [hfwd, hx]⟩
  rw [hfwd]
  have hregs : cellsWf resetWord (s.putFwd x).regs = true := wf_regs (s := s) wf
  refine (get_set_same hregs (by decide) _).trans (Nat.mod_eq_of_lt ?_)
  cases x.pass.isEmpty <;> decide

theorem ehtRebuildDone_row (wf : Memory.wf s = true) : ∃ t, exec .ehtRebuildDone s = .next t ∧ t.fwd.rebuild = [] ∧
    t.get R.FWD_STATUS_REBUILD = boolNat (!t.fwd.pass.isEmpty) ∧ t.fwd.ncs = s.fwd.ncs := by
  have hw := wf_keeps (Keeps.fold (Keeps.refl s) (f := rebuildBucket) (l := s.fwd.pass) fun u b hu => rebuildBucket_keeps hu b) wf
  have hncs := (EhtOnly.fold ehtOnly_rebuildBucket s s.fwd.pass).ncs
  obtain ⟨hrebuild, hbit, hkept⟩ := rebuildNext_row hw
    { (foldState rebuildBucket s s.fwd.pass).fwd with pass := (foldState rebuildBucket s s.fwd.pass).fwd.rebuild, rebuild := [] } rfl rfl
  exact ⟨_, rfl, hrebuild, hbit, hkept.trans hncs⟩

/-- Settles O18. -/
theorem ehtRowsComplete : Obligations.EhtRowsComplete := by
  intro s q wf
  refine ⟨?found, ?missed, ?insert, ehtDelete_row wf, ?refused, ehtRebuildDone_row wf⟩
  case found => exact fun way flip i hopen hi => ehtLookup_found wf hopen hi
  case missed => exact fun way hopen hnone hmet => ehtLookup_missed wf hopen hnone hmet
  case insert => exact fun index u r i hopen hfull hins => ehtInsert_row wf hopen hfull hins
  case refused => exact fun index row hrow hopen hfull => exec_ehtRow_refused hrow hopen hfull

end Sys2Proof.Machine
end

section
/-!
The rows of the heard-by tables and of the infrastructure table (O19).
-/

namespace Sys2Proof.Machine

variable {s : State} {c n : Nat}

/-! ## Heard-by entries -/

theorem boolNat_le (b : Bool) : boolNat b ≤ 1 := by cases b <;> decide

/-- An entry's word keeps its VALID bit. -/
theorem valid_hbWord (e : HbEntry) : (hbFields (hbWord e)).valid = e.valid := by
  have hstatic := boolNat_le e.static_
  have hbit (w : BitVec 16) : (hbFields w).valid = decide (w.toNat / 2 ^ 4 % 2 ^ 1 = 1) := rfl
  rw [hbit]
  unfold hbWord
  generalize e.path % 32 = a, e.ant % 2 = b, e.bkt % 16 = k, boolNat e.static_ = t at hstatic ⊢
  generalize hv : a * 2 ^ 11 + b * 2 ^ 10 + k * 2 ^ 6 + t * 32 + boolNat e.valid * 16 + e.tb % 8 * 2 = v
  have hvalid := boolNat_le e.valid
  have hp := boolNat_le (oddParity 16 v)
  have hval : (v + boolNat (oddParity 16 v)) % 2 ^ 16 / 2 ^ 4 % 2 ^ 1 = boolNat e.valid := by omega
  dsimp only
  rw [BitVec.toNat_ofNat, hval]
  cases e.valid <;> rfl

theorem hbAt_setHbWord (wf : Memory.wf s = true) (c n : Nat) (w : BitVec 16) : (s.setHbWord c n w).hbAt c n = w := by
  change cellsRead zeroCell (cellsWrite zeroCell s.fwd.hb (hbKey c n) w) (hbKey c n) = w
  rw [cellsRead_write (wf_hb wf), if_pos rfl]

theorem hbAt_setHb (wf : Memory.wf s = true) (c n : Nat) (e : HbEntry) : (s.setHb c n e).hbAt c n = hbWord e := hbAt_setHbWord wf c n _

theorem wf_setHbWord (wf : Memory.wf s = true) (c n : Nat) (w : BitVec 16) : Memory.wf (s.setHbWord c n w) = true :=
  wf_keeps (State.setHbWord_keeps (Keeps.refl s) c n w) wf

theorem hbParity_of_good (h : hbBad s c n = false) : hbParity s c n = s := by
  rw [hbParity, h]
  rfl

/-- A learning write of a free entry (R312). -/
theorem hbLearn_fresh {path ant bkt : Nat} (hgood : hbBad s c n = false) (hstatic : (hbFields (s.hbAt c n)).static_ = false)
    (hvalid : (hbFields (s.hbAt c n)).valid = false) : hbLearn s c n path ant bkt =
      s.setHb c n { path := path, ant := ant, bkt := bkt, static_ := false, valid := true, tb := s.get R.FWD_STATUS_HB_NOW } := by
  unfold hbLearn
  dsimp only
  rw [hgood, hbParity_of_good hgood, hstatic, hvalid]
  rfl

/-- A static entry stays (R312). -/
theorem hbLearn_static {path ant bkt : Nat} (hgood : hbBad s c n = false) (hstatic : (hbFields (s.hbAt c n)).static_ = true) :
    hbLearn s c n path ant bkt = s := by
  unfold hbLearn
  dsimp only
  rw [hgood, hbParity_of_good hgood, hstatic]
  rfl

theorem exec_heardByUpdate (hrun : running s = true) (hc : clusterPresent s.part c = true) (hn : n < lineCount s) (path ant : Nat) (rssi : Int)
    (flip : Nat) : exec (.heardByUpdate c n path ant rssi flip) s =
      .next (hbUpdate (s.setHbWord c n (s.hbAt c n ^^^ BitVec.ofNat 16 flip)) c n path ant (rssiBucket rssi)) := by
  change execHeardByUpdate c n path ant rssi flip s = _
  exact if_pos ⟨hrun, hc, hn⟩

/-- The report queue of a cluster is at rest: an update crosses it at once. -/
theorem hbUpdate_at_rest {path ant bkt : Nat} (hpath : pathCluster path = c) (hreset : s.bit (R.Q_STAT_RESETTING (4 + c)) = false)
    (hlane : (s.queue (4 + c)).lane 1 = []) (hwait : (s.queue (4 + c)).waiting = []) :
    hbUpdate s c n path ant bkt = hbLearn s c n path ant bkt := by
  unfold hbUpdate
  rw [if_neg (not_not.2 hpath)]
  dsimp only
  rw [hreset, hlane, hwait]
  rfl

/-- The write that a soft error of no bit makes reads as before. -/
theorem hbAt_unflipped (wf : Memory.wf s = true) (c n : Nat) :
    (s.setHbWord c n (s.hbAt c n ^^^ BitVec.ofNat 16 0)).hbAt c n = s.hbAt c n := by
  rw [hbAt_setHbWord wf]
  exact BitVec.xor_zero

theorem exec_heardByUpdate_at_rest (hrun : running s = true) (hc : clusterPresent s.part c = true) (hn : n < lineCount s) {path ant : Nat}
    {rssi : Int} (hpath : pathCluster path = c) (hreset : s.bit (R.Q_STAT_RESETTING (4 + c)) = false)
    (hlane : (s.queue (4 + c)).lane 1 = []) (hwait : (s.queue (4 + c)).waiting = []) : exec (.heardByUpdate c n path ant rssi 0) s =
      .next (hbLearn (s.setHbWord c n (s.hbAt c n ^^^ BitVec.ofNat 16 0)) c n path ant (rssiBucket rssi)) := by
  rw [exec_heardByUpdate hrun hc hn, hbUpdate_at_rest hpath]
  · exact hreset
  · exact hlane
  · exact hwait

theorem hbTick_row (wf : Memory.wf s = true) (hrun : running s = true) : ∃ t, exec .hbTick s = .next t ∧
    t.get R.FWD_STATUS_HB_NOW = (s.get R.FWD_STATUS_HB_NOW + 1) % 8 ∧ t.fwd.ncs = s.fwd.ncs ∧ t.fwd.eht = s.fwd.eht := by
  refine ⟨hbAdvance s 1, if_pos hrun, ?_, rfl, rfl⟩
  exact (get_set_same (wf_regs wf) (by decide) _).trans (Nat.mod_mod _ _)

/-! ## HB_CMD -/

theorem hbRead_row (wf : Memory.wf s = true) (hrun : running s = true) (q : Requester) (hc : clusterPresent s.part c = true) :
    ∃ t, exec (.hbRead q c n) s = .next t ∧ t.get (R.HB_STAT_ENTRY q.bank) = (s.hbAt c n).toNat ∧
      t.get (R.HB_STAT_RESULT q.bank) = (if hbBad s c n then 3 else 0) ∧ t.fwd = s.fwd := by
  refine ⟨(s.set (R.HB_STAT_ENTRY q.bank) (s.hbAt c n).toNat).set (R.HB_STAT_RESULT q.bank) (if hbBad s c n then 3 else 0), ?_, ?_, ?_, ?_⟩
  · change execHbRead q c n s = _
    rw [execHbRead, if_neg (by simp [openTo_of_running hrun]), if_neg (by simp [hc])]
    rfl
  · simp [R.HB_STAT_ENTRY, R.HB_STAT_RESULT, wf_regs wf, Nat.mod_eq_of_lt (s.hbAt c n).isLt]
  · cases hbBad s c n <;> simp [R.HB_STAT_ENTRY, R.HB_STAT_RESULT, wf_regs wf]
  · rw [State.set_fwd, State.set_fwd]

theorem exec_hbInvalidate (hrun : running s = true) (q : Requester) (hc : clusterPresent s.part c = true) : exec (.hbInvalidate q c n) s =
    (if hbBad s c n then done (s.set (R.HB_STAT_RESULT q.bank) 3)
     else if (hbFields (s.hbAt c n)).static_ then done (s.set (R.HB_STAT_RESULT q.bank) 2)
     else done ((s.setHb c n { hbFields (s.hbAt c n) with valid := false }).set (R.HB_STAT_RESULT q.bank) 0)) := by
  change execHbInvalidate q c n s = _
  rw [execHbInvalidate, if_neg (by simp [openTo_of_running hrun]), if_neg (by simp [hc])]

theorem hbInvalidate_row (wf : Memory.wf s = true) (hrun : running s = true) (q : Requester) (hc : clusterPresent s.part c = true)
    (hgood : hbBad s c n = false) (hstatic : (hbFields (s.hbAt c n)).static_ = false) :
    ∃ t, exec (.hbInvalidate q c n) s = .next t ∧ (hbFields (t.hbAt c n)).valid = false ∧ t.get (R.HB_STAT_RESULT q.bank) = 0 := by
  refine ⟨(s.setHb c n { hbFields (s.hbAt c n) with valid := false }).set (R.HB_STAT_RESULT q.bank) 0, ?_, ?_, ?_⟩
  · rw [exec_hbInvalidate hrun q hc, hgood, hstatic]
    rfl
  · have hat : ((s.setHb c n { hbFields (s.hbAt c n) with valid := false }).set (R.HB_STAT_RESULT q.bank) 0).hbAt c n =
        (s.setHb c n { hbFields (s.hbAt c n) with valid := false }).hbAt c n := by
      rw [State.hbAt, State.set_fwd]
      rfl
    rw [hat, hbAt_setHb wf, valid_hbWord]
  · exact get_set_same (wf_regs (wf_setHbWord wf c n _)) (by decide) 0

theorem exec_hbRow_absent (hrun : running s = true) {q : Requester} {row : Instr} (hrow : row ∈ [Instr.hbRead q c n, .hbInvalidate q c n])
    (hc : clusterPresent s.part c = false) : exec row s = .next (s.set (R.HB_STAT_RESULT q.bank) 1) := by
  simp only [List.mem_cons, List.not_mem_nil, or_false] at hrow
  obtain rfl | rfl := hrow
  · change execHbRead q c n s = _
    rw [execHbRead, if_neg (by simp [openTo_of_running hrun]), if_pos (by simp [hc])]
  · change execHbInvalidate q c n s = _
    rw [execHbInvalidate, if_neg (by simp [openTo_of_running hrun]), if_pos (by simp [hc])]

/-! ## The infrastructure table -/

theorem shadow_writeLine (s : State) (n : Nat) (l : Line) : (writeLine s n l).fwd.shadow = s.fwd.shadow := by
  by_cases hn : n < lineCount s
  · rw [writeLine_of_lt hn, fwd_lineFollowers, fwd_lineChecked]
    change (snapshotWrite s n).fwd.shadow = _
    unfold snapshotWrite
    split_ifs <;> rfl
  · rw [writeLine, if_neg hn]

/-- What applying an entry leaves: the register of an entry and the shadow. -/
theorem infraApply_row (s : State) (w i : Nat) (hi : i < 16384) :
    Leaves (R.INFRA_ENT i) s (infraApply s w) ∧ (infraApply s w).fwd.shadow = s.fwd.shadow := by
  have hoff : OffLines (R.INFRA_ENT i) := ⟨noisy_eq_false (by unfold R.INFRA_ENT; omega), by
    simp only [lineKeys, writeKeys, List.mem_cons, List.not_mem_nil, or_false, R.INFRA_ENT, R.SNAP_STAT, R.PSM_STATUS, R.MI_FLIP, R.MI_FLIP_ADDR, R.PAIR_CNT0]
    omega⟩
  have hpin (u : State) : Leaves (R.INFRA_ENT i) u (u.setHb (pathCluster (entPath w)) (entIndex w) (pinEntry u w)) :=
    (Leaves.refl _ u).same (State.setHbWord_keeps (Keeps.refl u) _ _ _) rfl
  unfold infraApply
  dsimp only
  split
  · have hfirst : Leaves (R.INFRA_ENT i) s (if entPin w then s.setHb (pathCluster (entPath w)) (entIndex w) (pinEntry s w) else s) :=
      .ite (hpin s) (.refl _ s)
    have hshadow : (if entPin w then s.setHb (pathCluster (entPath w)) (entIndex w) (pinEntry s w) else s).fwd.shadow = s.fwd.shadow := by
      split <;> rfl
    split
    · exact ⟨hfirst.setLineField hoff _ _ _, (shadow_writeLine ..).trans hshadow⟩
    · exact ⟨hfirst, hshadow⟩
  · exact ⟨.refl _ s, rfl⟩

theorem exec_infraEntryWrite (hrun : running s = true) {i : Nat} (hi : i < 16384) (w : Nat) :
    exec (.infraEntryWrite .control i w) s = .next (infraWrite s i w) := by
  change execInfraEntryWrite .control i w s = _
  rw [execInfraEntryWrite, if_neg (by simp [openTo_of_running hrun])]
  exact if_pos ⟨rfl, hi⟩

theorem infraWrite_row (wf : Memory.wf s = true) {i w : Nat} (hi : i < 16384) (h : infraRefused s i w = false) :
    infraEnt (infraWrite s i w) i = w % 2 ^ 32 ∧ infraShadow (infraWrite s i w) i = w % 2 ^ 32 := by
  have hw := wf_keeps (infraUndo_keeps (Keeps.refl s) (infraEnt s i)) wf
  unfold infraWrite
  rw [h, if_neg Bool.false_ne_true]
  dsimp only
  generalize infraUndo s (infraEnt s i) = u at hw
  have hws : Memory.wf (u.setWord (R.INFRA_ENT i) (BitVec.ofNat 32 w)) = true := wf_setWord hw _ _
  have hword := (word_setWord hw (R.INFRA_ENT i) (BitVec.ofNat 32 w) (R.INFRA_ENT i)).trans (if_pos rfl)
  generalize u.setWord (R.INFRA_ENT i) (BitVec.ofNat 32 w) = v at hws hword
  have hwv : Memory.wf (v.putFwd { v.fwd with shadow := cellsWrite zeroCell v.fwd.shadow i (BitVec.ofNat 32 w) }) = true :=
    wf_keeps (State.putFwd_keeps (Keeps.refl v) _ fun x => ⟨wf_ncs x, wf_eht x, wf_hb x, cellsWf_write (wf_shadow x) _ _⟩) hws
  obtain ⟨hleaves, hshadow⟩ := infraApply_row (v.putFwd { v.fwd with shadow := cellsWrite zeroCell v.fwd.shadow i (BitVec.ofNat 32 w) }) w i hi
  constructor
  · rw [infraEnt, hleaves.word hwv]
    exact congrArg BitVec.toNat hword
  · rw [infraShadow, hshadow]
    refine congrArg BitVec.toNat ((cellsRead_write (wf_shadow hws) i (BitVec.ofNat 32 w) i).trans (if_pos rfl)) |>.trans ?_
    exact BitVec.toNat_ofNat ..

/-- Settles O19. -/
theorem heardByRowsComplete : Obligations.HeardByRowsComplete := by
  intro s wf hrun
  refine ⟨?update, ?fresh, ?static_, hbTick_row wf hrun, ?read, ?invalidate, ?kept, ?absent, ?write, ?refused, ?other, ?compare, ?bad⟩
  case update => exact fun c n path ant rssi flip hc hn => exec_heardByUpdate hrun hc hn path ant rssi flip
  case fresh =>
    intro c n path ant rssi hc hn hpath hreset hlane hwait hgood hst hvalid
    have hat := hbAt_unflipped wf c n
    have hgood' : hbBad (s.setHbWord c n (s.hbAt c n ^^^ BitVec.ofNat 16 0)) c n = false := by rw [hbBad, hat]; exact hgood
    refine ⟨_, (exec_heardByUpdate_at_rest hrun hc hn hpath hreset hlane hwait).trans (congrArg Host.Outcome.next
      (hbLearn_fresh hgood' (by rw [hat]; exact hst) (by rw [hat]; exact hvalid))), rfl, rfl, ?_⟩
    rw [hbAt_setHb (wf_setHbWord wf c n _)]
    rfl
  case static_ =>
    intro c n path ant rssi hc hn hpath hreset hlane hwait hgood hst
    have hat := hbAt_unflipped wf c n
    have hgood' : hbBad (s.setHbWord c n (s.hbAt c n ^^^ BitVec.ofNat 16 0)) c n = false := by rw [hbBad, hat]; exact hgood
    exact ⟨_, (exec_heardByUpdate_at_rest hrun hc hn hpath hreset hlane hwait).trans (congrArg Host.Outcome.next
      (hbLearn_static hgood' (by rw [hat]; exact hst))), hat, rfl, rfl⟩
  case read => exact fun q c n hc => hbRead_row wf hrun q hc
  case invalidate => exact fun q c n hc hgood hst => hbInvalidate_row wf hrun q hc hgood hst
  case kept =>
    intro q c n hc hgood hst
    rw [exec_hbInvalidate hrun q hc, hgood, hst]
    rfl
  case absent => exact fun q c n row hrow hc => exec_hbRow_absent hrun hrow hc
  case write =>
    intro i w hi hok
    exact ⟨_, exec_infraEntryWrite hrun hi w, infraWrite_row wf hi hok⟩
  case refused =>
    intro i w hi hno
    rw [exec_infraEntryWrite hrun hi, infraWrite, hno]
    rfl
  case other =>
    intro q i w hq
    change execInfraEntryWrite q i w s = _
    rw [execInfraEntryWrite, if_neg (by simp [openTo_of_running hrun])]
    exact if_neg fun h => hq h.1
  case compare =>
    rintro i flip u l r hen rfl rfl rfl
    change execInfraComparePass i flip s = _
    rw [execInfraComparePass]
    exact if_pos (by rw [hrun, hen]; rfl)
  case bad =>
    intro q c n hc hbad
    rw [exec_hbInvalidate hrun q hc, hbad]
    rfl

end Sys2Proof.Machine
end

section
/-!
The rows of the node context store (O20).
-/

namespace Sys2Proof.Machine

variable {s : State} {q : Requester} {n : Nat}

/-! ## NCS_CMD on a line -/

/-- NCS_DATA0 to 15 take the words of a line (R328). -/
def dataStored (s : State) (q : Requester) (l : Line) (k : Nat) : State :=
  foldState (fun (t : State) i => t.set (R.NCS_DATA_DATA i q.bank) (natBits l.toNat (32 * i) 32)) s (List.range k)

theorem dataStored_succ (s : State) (q : Requester) (l : Line) (k : Nat) :
    dataStored s q l (k + 1) = (dataStored s q l k).set (R.NCS_DATA_DATA k q.bank) (natBits l.toNat (32 * k) 32) := by
  simp only [dataStored, foldState, List.range_succ, List.foldl_append, List.foldl_cons, List.foldl_nil]

theorem dataStored_row (wf : Memory.wf s = true) (q : Requester) (l : Line) (k : Nat) :
    Memory.wf (dataStored s q l k) = true ∧ (dataStored s q l k).fwd = s.fwd ∧
      ∀ i < k, (dataStored s q l k).get (R.NCS_DATA_DATA i q.bank) = natBits l.toNat (32 * i) 32 := by
  induction k with
  | zero => exact ⟨wf, rfl, fun i hi => absurd hi (Nat.not_lt_zero i)⟩
  | succ k ih =>
    obtain ⟨hw, hfwd, hread⟩ := ih
    rw [dataStored_succ]
    refine ⟨wf_set hw _ _, (State.set_fwd ..).trans hfwd, fun i hi => ?_⟩
    by_cases hik : i = k
    · subst hik
      exact (get_set_same (wf_regs hw) (by decide) _).trans (Nat.mod_eq_of_lt (natBits_lt ..))
    · exact (get_set_key (wf_regs hw) (by simp only [R.NCS_DATA]; omega) ..).trans (hread i (by omega))

theorem exec_ncsRead (hopen : openTo s q = true) (hcheck : ncsCheck s n = 0) : exec (.ncsRead q n) s =
    (if linePoisoned s n then done (ncsAnswer s q 2) else done (ncsAnswer (dataStored s q (s.line n) 16) q 0)) := by
  change execNcsRead q n s = _
  rw [execNcsRead, if_neg (by simp [hopen])]
  exact if_neg (not_not.2 hcheck)

theorem ncsRead_row (wf : Memory.wf s = true) (hopen : openTo s q = true) (hcheck : ncsCheck s n = 0) (hgood : linePoisoned s n = false) :
    ∃ t, exec (.ncsRead q n) s = .next t ∧ t.get (R.NCS_STAT_RESULT q.bank) = 0 ∧ t.fwd = s.fwd ∧
      ∀ i, i < 16 → t.get (R.NCS_DATA_DATA i q.bank) = natBits (s.line n).toNat (32 * i) 32 := by
  obtain ⟨hw, hfwd, hread⟩ := dataStored_row wf q (s.line n) 16
  refine ⟨ncsAnswer (dataStored s q (s.line n) 16) q 0, by rw [exec_ncsRead hopen hcheck, hgood]; rfl, get_set_same (wf_regs hw) (by decide) 0,
    (State.set_fwd ..).trans hfwd, fun i hi => ?_⟩
  exact (get_set_key (wf_regs hw) (by simp only [R.NCS_DATA, R.NCS_STAT]; omega) ..).trans (hread i hi)

theorem exec_ncsMaskedWrite (hopen : openTo s q = true) (hfull : fwdFull q = true) (hclaim : s.bit R.PAIR_STATUS_CLAIM_OUT = true)
    (hcheck : ncsCheck s n = 0) (hgood : linePoisoned s n = false) : exec (.ncsMaskedWrite q n) s = .next (ncsAnswer
      (mapForget (writeLine s n (maskedLine (s.line n) (ncsMask s q) (ncsData s q))) n (s.line n)
        (maskedLine (s.line n) (ncsMask s q) (ncsData s q))) q 0) := by
  change execNcsMaskedWrite q n s = _
  rw [execNcsMaskedWrite, if_neg (by simp [hopen])]
  dsimp only
  rw [hfull, hclaim, if_neg (by decide), if_neg (not_not.2 hcheck), hgood]
  rfl

theorem ncsMaskedWrite_row (wf : Memory.wf s = true) (hopen : openTo s q = true) (hfull : fwdFull q = true)
    (hclaim : s.bit R.PAIR_STATUS_CLAIM_OUT = true) (hcheck : ncsCheck s n = 0) (hgood : linePoisoned s n = false) :
    ∃ t, exec (.ncsMaskedWrite q n) s = .next t ∧ t.get (R.NCS_STAT_RESULT q.bank) = 0 ∧
      t.line n = maskedLine (s.line n) (ncsMask s q) (ncsData s q) ∧ ∀ m, m ≠ n → t.line m = s.line m := by
  have hexec := exec_ncsMaskedWrite hopen hfull hclaim hcheck hgood
  have hw := wf_keeps (mapForget_keeps (writeLine_keeps (Keeps.refl s) n (maskedLine (s.line n) (ncsMask s q) (ncsData s q))) n (s.line n)
    (maskedLine (s.line n) (ncsMask s q) (ncsData s q))) wf
  refine ⟨_, hexec, get_set_same (wf_regs hw) (by decide) 0, ?_, fun m hm => line_ncsMaskedWrite_of_ne wf hm hexec⟩
  rw [line_ncsAnswer, line_of_fwd_eq (fwd_mapForget ..), line_writeLine_self wf (lt_lineCount_of_ncsCheck hcheck)]

theorem exec_ncsZeroLine (hopen : openTo s q = true) (hfull : fwdFull q = true) (hclaim : s.bit R.PAIR_STATUS_CLAIM_OUT = true)
    (hcheck : ncsCheck s n = 0) : exec (.ncsZeroLine q n) s = .next (ncsAnswer (freeMapEntry (writeLine s n 0#512) n) q 0) := by
  change execNcsZeroLine q n s = _
  rw [execNcsZeroLine, if_neg (by simp [hopen])]
  dsimp only
  rw [hfull, hclaim, if_neg (by decide)]
  exact if_neg (not_not.2 hcheck)

theorem ncsZeroLine_row (wf : Memory.wf s = true) (hopen : openTo s q = true) (hfull : fwdFull q = true)
    (hclaim : s.bit R.PAIR_STATUS_CLAIM_OUT = true) (hcheck : ncsCheck s n = 0) :
    ∃ t, exec (.ncsZeroLine q n) s = .next t ∧ t.get (R.NCS_STAT_RESULT q.bank) = 0 ∧ t.line n = 0#512 ∧
      assocGet t.imap.entries n = none ∧ ∀ m, m ≠ n → t.line m = s.line m := by
  have hexec := exec_ncsZeroLine hopen hfull hclaim hcheck
  have hw := wf_keeps (freeMapEntry_keeps (writeLine_keeps (Keeps.refl s) n 0#512) n) wf
  refine ⟨_, hexec, get_set_same (wf_regs hw) (by decide) 0, ?_, ?_, fun m hm => line_ncsZeroLine_of_ne wf hm hexec⟩
  · rw [line_ncsAnswer, line_of_fwd_eq (fwd_freeMapEntry ..), line_writeLine_self wf (lt_lineCount_of_ncsCheck hcheck)]
  · rw [ncsAnswer, State.set_imap, (imap_freeMapEntry _ n).1, assocGet_assocDel]

theorem exec_ncsRow_refused {row : Instr} (hrow : row ∈ [Instr.ncsMaskedWrite q n, .ncsZeroLine q n]) (hopen : openTo s q = true)
    (hno : fwdFull q = false ∨ s.bit R.PAIR_STATUS_CLAIM_OUT = false) : exec row s = .next (s.set (R.NCS_STAT_RESULT q.bank) 3) := by
  have hrefused : (!fwdFull q || !s.bit R.PAIR_STATUS_CLAIM_OUT) = true := by
    obtain h | h := hno <;> simp [h]
  simp only [List.mem_cons, List.not_mem_nil, or_false] at hrow
  obtain rfl | rfl := hrow
  · change execNcsMaskedWrite q n s = _
    rw [execNcsMaskedWrite, if_neg (by simp [hopen])]
    exact if_pos hrefused
  · change execNcsZeroLine q n s = _
    rw [execNcsZeroLine, if_neg (by simp [hopen])]
    exact if_pos hrefused

/-! ## The bulk clear -/

/-- The stores of the nodes are empty (R327); their views follow in `clearNodes`. -/
def nodesCleared (s : State) (by_ : Nat) : State :=
  let s := s.putFwd { s.fwd with ncs := [], eht := [], hb := [], pass := [], rebuild := [],
                                 snap := { s.fwd.snap with job := .clearing, clearBy := by_ } }
  let s := s.putMi { s.mi with bad := s.mi.bad.filter (fun x => x.1 ≠ .ncs),
                               flipped := s.mi.flipped.filter (fun x => x.1 ≠ .ncs), tiles := [] }
  let s := s.putSec { s.sec with cache := [] }
  s.putImap { s.imap with entries := [] }

theorem nodesCleared_keeps (s : State) (by_ : Nat) : Keeps s (nodesCleared s by_) := by
  unfold nodesCleared
  refine State.putImap_keeps (State.putSec_keeps (State.putMi_keeps (State.putFwd_keeps (Keeps.refl s) _ ?_) _) _) _
  exact fun x => ⟨cellsWf_nil, cellsWf_nil, cellsWf_nil, wf_shadow x⟩

/-- The views of the emptied stores. -/
def clearViews (s : State) : State := viewOverflow ((((viewImap s).set R.PSM_STATUS_SUSPECT 0).set R.FWD_STATUS_REBUILD 0).set R.FWD_STATUS_CLEARING 1)

theorem clearNodes_eq (s : State) (by_ : Nat) : clearNodes s by_ = clearViews (nodesCleared (flushAllDownlink s) by_) := rfl

theorem clearViews_row (wf : Memory.wf s = true) :
    (clearViews s).fwd = s.fwd ∧ (clearViews s).imap = s.imap ∧ (clearViews s).get R.FWD_STATUS_CLEARING = 1 := by
  unfold clearViews viewOverflow viewImap
  refine ⟨?_, ?_, ?_⟩
  · rw [State.set_fwd, State.set_fwd, State.set_fwd, State.set_fwd, State.setBit_fwd, State.set_fwd]
  · rw [State.set_imap, State.set_imap, State.set_imap, State.set_imap, State.setBit_imap, State.set_imap]
  · have hw : Memory.wf ((((s.set R.IMAP_STATUS_USED s.imap.entries.length).setBit R.IMAP_STATUS_FULL (decide (8192 ≤ s.imap.entries.length))).set
        R.PSM_STATUS_SUSPECT 0).set R.FWD_STATUS_REBUILD 0) = true := wf_set (wf_set (wf_set (wf_set wf _ _) _ _) _ _) _ _
    exact (get_set_key (wf_regs (wf_set hw _ _)) (by decide) ..).trans (get_set_same (wf_regs hw) (by decide) 1)

theorem exec_ncsBulkClear (hopen : openTo s q = true) (hclaim : s.bit R.PAIR_STATUS_CLAIM_OUT = true) (hjob : s.fwd.snap.job = .idle) :
    exec (.ncsBulkClear q) s = .next ((clearNodes (mirror s (.bulkClear (clearCode q))) (clearCode q)).set (R.NCS_STAT_BUSY q.bank) 1) := by
  change execNcsBulkClear q s = _
  rw [execNcsBulkClear, if_neg (by simp [hopen]), hclaim, hjob]
  rfl

theorem ncsBulkClear_row (wf : Memory.wf s = true) (hopen : openTo s q = true) (hclaim : s.bit R.PAIR_STATUS_CLAIM_OUT = true)
    (hjob : s.fwd.snap.job = .idle) : ∃ t, exec (.ncsBulkClear q) s = .next t ∧ (∀ n, t.line n = 0#512) ∧ t.fwd.eht = [] ∧ t.fwd.hb = [] ∧
      t.fwd.snap.job = .clearing ∧ t.imap.entries = [] ∧ t.get R.FWD_STATUS_CLEARING = 1 := by
  have hwc := wf_keeps (clearNodes_keeps (mirror_keeps (Keeps.refl s) (.bulkClear (clearCode q))) (clearCode q)) wf
  have hwm := wf_keeps (flushAllDownlink_keeps (mirror_keeps (Keeps.refl s) (.bulkClear (clearCode q)))) wf
  have hexec := exec_ncsBulkClear hopen hclaim hjob
  rw [clearNodes_eq] at hexec hwc
  generalize flushAllDownlink (mirror s (.bulkClear (clearCode q))) = u at hexec hwc hwm
  have hwn := wf_keeps (nodesCleared_keeps u (clearCode q)) hwm
  obtain ⟨hfwd, himap, hbit⟩ := clearViews_row hwn
  generalize clearViews (nodesCleared u (clearCode q)) = v at hexec hwc hfwd himap hbit
  have hfwd' : (v.set (R.NCS_STAT_BUSY q.bank) 1).fwd = (nodesCleared u (clearCode q)).fwd := (State.set_fwd ..).trans hfwd
  refine ⟨_, hexec, fun n => ?_, ?_, ?_, ?_, ?_, ?_⟩
  · rw [State.line, hfwd']
    rfl
  · rw [hfwd']; rfl
  · rw [hfwd']; rfl
  · rw [hfwd']; rfl
  · rw [State.set_imap, himap]; rfl
  · exact (get_set_key (wf_regs hwc) (by simp only [R.FWD_STATUS, R.NCS_STAT]; omega) ..).trans hbit

theorem job_snapshotWrite (s : State) (n : Nat) : (snapshotWrite s n).fwd.snap.job = s.fwd.snap.job := by
  unfold snapshotWrite
  split_ifs <;> rfl

theorem job_writeLine (s : State) (n : Nat) (l : Line) : (writeLine s n l).fwd.snap.job = s.fwd.snap.job := by
  by_cases hn : n < lineCount s
  · rw [writeLine_of_lt hn, fwd_lineFollowers, fwd_lineChecked]
    exact job_snapshotWrite s n
  · rw [writeLine, if_neg hn]

theorem job_infraApply (s : State) (w : Nat) : (infraApply s w).fwd.snap.job = s.fwd.snap.job := by
  have hpin : (if entPin w then s.setHb (pathCluster (entPath w)) (entIndex w) (pinEntry s w) else s).fwd.snap.job = s.fwd.snap.job := by
    split <;> rfl
  unfold infraApply
  dsimp only
  split
  · split
    · exact (job_writeLine ..).trans hpin
    · exact hpin
  · rfl

theorem job_fold {α : Type} {f : State → α → State} (hf : ∀ u x, (f u x).fwd.snap.job = u.fwd.snap.job) (s : State) (l : List α) :
    (foldState f s l).fwd.snap.job = s.fwd.snap.job := by
  induction l generalizing s with
  | nil => rfl
  | cons x l ih => exact (ih (f s x)).trans (hf s x)

theorem bulkClearDone_row (hjob : s.fwd.snap.job = .clearing) : ∃ t, exec .bulkClearDone s = .next t ∧ t.fwd.snap.job = .idle := by
  refine ⟨_, if_pos hjob, ?_⟩
  rw [fwd_postEvent, reapplyPins, job_fold (fun u i => job_infraApply u _), job_fold, State.set_fwd]
  · rfl
  · intro u b
    split
    · rw [State.set_fwd, State.set_fwd]
    · rfl

theorem exec_nodeMinuteSweep (wf : Memory.wf s = true) (hrun : running s = true) (hown : followsPeer s = false) :
    exec .nodeMinuteSweep s = .next (foldState ageLine ((s.bumpWrap R.FWD_STATUS_NODE_MIN).putDrift
      { s.drift with refHistory := (s.getI R.DRIFT_REF_REF :: s.drift.refHistory).take 2880 }) (s.fwd.ncs.map fun c => c.1)) := by
  have href : (s.bumpWrap R.FWD_STATUS_NODE_MIN).getI R.DRIFT_REF_REF = s.getI R.DRIFT_REF_REF := by
    rw [State.getI, State.getI]
    exact congrArg (signedOf 32) (get_set_key (wf_regs wf) (by decide) ..)
  change execNodeMinuteSweep s = _
  rw [execNodeMinuteSweep, if_pos hrun, hown, if_neg Bool.false_ne_true]
  dsimp only
  rw [href]
  rfl

/-- Settles O20. -/
theorem storeRowsComplete : Obligations.StoreRowsComplete := by
  intro s q wf
  refine ⟨fun n hopen hcheck hgood => ncsRead_row wf hopen hcheck hgood, ?poisoned,
    fun n hopen hfull hclaim hcheck hgood => ncsMaskedWrite_row wf hopen hfull hclaim hcheck hgood,
    fun n hopen hfull hclaim hcheck => ncsZeroLine_row wf hopen hfull hclaim hcheck,
    fun n row hrow hopen hno => exec_ncsRow_refused hrow hopen hno, ncsBulkClear_row wf, bulkClearDone_row, exec_nodeMinuteSweep wf⟩
  case poisoned =>
    intro n hopen hcheck hbad
    rw [exec_ncsRead hopen hcheck, hbad]
    rfl

end Sys2Proof.Machine
end

section
/-!
The rows of BAR2 and of snapshots (O21).
-/

namespace Sys2Proof.Machine

variable {s : State}

/-! ## BAR2 -/

theorem exec_bar2Read_outside (hlink : s.pcie.linkUp = true) {off len : Nat} (hlen : len ≠ 0) (hout : 2 ^ 26 < off + len) :
    exec (.bar2Read off len) s = .next (s.emit .unsupported) := by
  change execBar2Read off len s = _
  rw [execBar2Read, if_neg (by simp [hlink, hlen])]
  exact if_pos hout

theorem exec_bar2Read (hlink : s.pcie.linkUp = true) {off len : Nat} (hlen : len ≠ 0) (hin : off + len ≤ 2 ^ 26) :
    exec (.bar2Read off len) s = .next (foldState (fun t n => bar2Line t off len n) s (bar2Lines off len)) := by
  change execBar2Read off len s = _
  rw [execBar2Read, if_neg (by simp [hlink, hlen])]
  exact if_neg (Nat.not_lt.2 hin)

/-- A range inside one clean line is served whole. -/
theorem bar2_single {off len : Nat} (hline : (off + len - 1) / 64 = off / 64) (hgood : linePoisoned s (off / 64) = false) :
    foldState (fun t n => bar2Line t off len n) s (bar2Lines off len) = s.emit (.bar2 (bar2Bytes s off len) false) := by
  have hlines : bar2Lines off len = [off / 64] := by
    unfold bar2Lines
    rw [hline, Nat.sub_self]
    rfl
  have hfirst : max off (64 * (off / 64)) = off := by omega
  have hlast : min (off + len) (64 * (off / 64) + 64) - off = len := by omega
  rw [hlines]
  change bar2Line s off len (off / 64) = _
  unfold bar2Line
  dsimp only
  rw [hgood, hfirst, hlast, if_neg Bool.false_ne_true, hgood]

/-! ## Exports -/

theorem wf_putSnap (wf : Memory.wf s = true) (x : SnapState) : Memory.wf (s.putFwd { s.fwd with snap := x }) = true := by
  refine wf_keeps (State.putFwd_keeps (Keeps.refl s) _ ?_) wf
  exact fun w => ⟨wf_ncs w, wf_eht w, wf_hb w, wf_shadow w⟩

/-- The state with the mark of a snapshot that leaves (R323). -/
def exportMarked (s : State) : State :=
  s.putFwd { s.fwd with snap := { s.fwd.snap with
    job := .exporting, reserve := [], lines := s.fwd.ncs, asn := s.asnNat, ns := s.tbNs,
    nodeMin := s.get R.FWD_STATUS_NODE_MIN, sequence := s.fwd.snap.sequence + 1, started := s.now } }

theorem snapshotExport_row (wf : Memory.wf s = true) (hrun : running s = true) (hjob : s.fwd.snap.job = .idle) :
    ∃ t, exec .snapshotExport s = .next t ∧ t.fwd.snap.job = .exporting ∧ t.fwd.snap.lines = s.fwd.ncs ∧ t.fwd.snap.asn = s.asnNat ∧
      t.fwd.snap.sequence = s.fwd.snap.sequence + 1 ∧ t.get R.SNAP_STAT_STATE = 1 ∧ t.fwd.ncs = s.fwd.ncs := by
  have hw : Memory.wf (exportMarked s) = true := wf_putSnap wf _
  have hfwd : ((((exportMarked s).set R.SNAP_STAT_STATE 1).set R.SNAP_STAT_TILES 0).set R.SNAP_STAT_COW_PEAK 0).fwd = (exportMarked s).fwd := by
    rw [State.set_fwd, State.set_fwd, State.set_fwd]
  refine ⟨(((exportMarked s).set R.SNAP_STAT_STATE 1).set R.SNAP_STAT_TILES 0).set R.SNAP_STAT_COW_PEAK 0, ?_, by rw [hfwd]; rfl, by rw [hfwd]; rfl,
    by rw [hfwd]; rfl, by rw [hfwd]; rfl, ?_, by rw [hfwd]; rfl⟩
  · change execSnapshotExport s = _
    rw [execSnapshotExport, if_neg (by simp [openTo_of_running hrun])]
    exact if_pos hjob
  · simp [R.SNAP_STAT_STATE, R.SNAP_STAT_TILES, R.SNAP_STAT_COW_PEAK, wf_regs hw]

theorem exec_snapshotExport_busy (hrun : running s = true) (hjob : s.fwd.snap.job ≠ .idle) :
    exec .snapshotExport s = .next (s.set R.SNAP_STAT_RESULT 1) := by
  change execSnapshotExport s = _
  rw [execSnapshotExport, if_neg (by simp [openTo_of_running hrun])]
  exact if_neg hjob

/-- No snapshot job is left; the sequence number stays (R323). -/
def snapIdle (s : State) : State := s.putFwd { s.fwd with snap := { SnapState.idle with sequence := s.fwd.snap.sequence } }

/-- A job's end shows in SNAP_STAT. -/
theorem snapEnded_row (wf : Memory.wf s = true) {r : Nat} (hr : r < 8) :
    Memory.wf (((snapIdle s).set R.SNAP_STAT_STATE 0).set R.SNAP_STAT_RESULT r) = true ∧
      (((snapIdle s).set R.SNAP_STAT_STATE 0).set R.SNAP_STAT_RESULT r).fwd = (snapIdle s).fwd ∧
      (((snapIdle s).set R.SNAP_STAT_STATE 0).set R.SNAP_STAT_RESULT r).out = s.out ∧
      (((snapIdle s).set R.SNAP_STAT_STATE 0).set R.SNAP_STAT_RESULT r).get R.SNAP_STAT_STATE = 0 ∧
      (((snapIdle s).set R.SNAP_STAT_STATE 0).set R.SNAP_STAT_RESULT r).get R.SNAP_STAT_RESULT = r := by
  have hw : Memory.wf (snapIdle s) = true := wf_putSnap wf _
  have hw1 := wf_set hw R.SNAP_STAT_STATE 0
  refine ⟨wf_set hw1 _ _, ?_, ?_, ?_, ?_⟩
  · rw [State.set_fwd, State.set_fwd]
  · rw [State.set_out, State.set_out]
    rfl
  · exact (get_set_bits (wf_regs hw1) R.SNAP_STAT (by decide) (by decide) _).trans (get_set_same (wf_regs hw) (by decide) 0)
  · exact (get_set_same (wf_regs hw1) (by decide) _).trans (Nat.mod_eq_of_lt hr)

theorem out_postEvent (s : State) (code : Nat) (fields : List (Nat × Nat × Nat)) : (postEvent code fields s).out = s.out :=
  (postEvent_frame rfl (Frame.refl 0x80840021 s) code fields).of .out rfl

theorem exportEnd_row (wf : Memory.wf s = true) {r : Nat} (hr : r < 8) : (exportEnd s r).fwd.snap.job = .idle ∧
    (exportEnd s r).get R.SNAP_STAT_STATE = 0 ∧ (exportEnd s r).get R.SNAP_STAT_RESULT = r ∧ (exportEnd s r).fwd.ncs = s.fwd.ncs ∧
      (exportEnd s r).out = s.out := by
  obtain ⟨hw, hfwd, hout, hstate, hresult⟩ := snapEnded_row wf hr
  have hend : ∃ fields, exportEnd s r = postEvent 0x0805 fields (((snapIdle s).set R.SNAP_STAT_STATE 0).set R.SNAP_STAT_RESULT r) := ⟨_, rfl⟩
  obtain ⟨fields, hend⟩ := hend
  rw [hend, fwd_postEvent, out_postEvent, get_postEvent hw (by decide) _ R.SNAP_STAT_STATE (by decide),
    get_postEvent hw (by decide) _ R.SNAP_STAT_RESULT (by decide), hfwd]
  exact ⟨rfl, hstate, hresult, rfl, hout⟩

theorem exec_snapshotExportDone_error (hjob : s.fwd.snap.job = .exporting) (misread : List (Nat × Nat)) :
    exec (.snapshotExportDone true misread) s = .next (exportEnd s 7) := by
  change execSnapshotExportDone true misread s = _
  exact if_pos hjob

/-- The exported lines: a poisoned one goes in its marked form (Table 18-2). -/
def exportLines (s : State) : Cells 512 := s.fwd.snap.lines.map fun c => (c.1, if linePoisoned s c.1 then rebuildLine s else c.2)

/-- The buffer of a snapshot that leaves is written, its count shown. -/
def exportSent (s : State) : State :=
  (s.set R.SNAP_STAT_TILES (lineCount s / 64)).emit (.snapshot (snapAddr (s.set R.SNAP_STAT_TILES (lineCount s / 64)))
    (exportLines (s.set R.SNAP_STAT_TILES (lineCount s / 64))) (snapshotSums (exportLines (s.set R.SNAP_STAT_TILES (lineCount s / 64))))
    (snapDescriptor (s.set R.SNAP_STAT_TILES (lineCount s / 64))))

theorem exec_snapshotExportDone (hjob : s.fwd.snap.job = .exporting) (misread : List (Nat × Nat)) : exec (.snapshotExportDone false misread) s =
    .next (exportEnd (exportSent (foldState (fun t i => tileFailed t i 1) s (tilesMisread s misread))) 0) := by
  change execSnapshotExportDone false misread s = _
  exact if_pos hjob

theorem snapshotExportDone_row (wf : Memory.wf s = true) (err : Bool) (misread : List (Nat × Nat)) (hjob : s.fwd.snap.job = .exporting) :
    ∃ t, exec (.snapshotExportDone err misread) s = .next t ∧ t.fwd.snap.job = .idle ∧ t.get R.SNAP_STAT_STATE = 0 ∧
      t.get R.SNAP_STAT_RESULT = (if err then 7 else 0) := by
  cases err with
  | true =>
    obtain ⟨hidle, hstate, hresult, -⟩ := exportEnd_row wf (r := 7) (by decide)
    exact ⟨_, exec_snapshotExportDone_error hjob misread, hidle, hstate, hresult⟩
  | false =>
    have hw := wf_keeps (Keeps.fold (Keeps.refl s) (f := fun t i => tileFailed t i 1) (l := tilesMisread s misread)
      fun u i hu => tileFailed_keeps hu i 1) wf
    have hexec := exec_snapshotExportDone hjob misread
    generalize foldState (fun t i => tileFailed t i 1) s (tilesMisread s misread) = u at hexec hw
    have hws : Memory.wf (exportSent u) = true := wf_keeps (State.emit_keeps (State.set_keeps (Keeps.refl u) _ _) _) hw
    obtain ⟨hidle, hstate, hresult, -⟩ := exportEnd_row hws (r := 0) (by decide)
    exact ⟨_, hexec, hidle, hstate, hresult⟩

theorem snapshotExportDone_sent (wf : Memory.wf s = true) (hjob : s.fwd.snap.job = .exporting) :
    ∃ t, exec (.snapshotExportDone false []) s = .next t ∧
      t.out = .snapshot (snapAddr s) (exportLines s) (snapshotSums (exportLines s)) (snapDescriptor s) :: s.out := by
  have hws : Memory.wf (exportSent s) = true := wf_keeps (State.emit_keeps (State.set_keeps (Keeps.refl s) _ _) _) wf
  obtain ⟨-, -, -, -, hout⟩ := exportEnd_row hws (r := 0) (by decide)
  have hset (k : Nat) (hk : R.SNAP_STAT ≠ k) : Leaves k s (s.set R.SNAP_STAT_TILES (lineCount s / 64)) := (Leaves.refl _ s).set _ _ hk
  have hlines : exportLines (s.set R.SNAP_STAT_TILES (lineCount s / 64)) = exportLines s := by
    have hnow := (hset R.FWD_STATUS (by decide)).get (f := R.FWD_STATUS_NODE_MIN) wf
    unfold exportLines linePoisoned rebuildLine
    rw [hnow, State.set_fwd, State.set_mi]
  have haddr : snapAddr (s.set R.SNAP_STAT_TILES (lineCount s / 64)) = snapAddr s := by
    rw [snapAddr, (hset R.SNAP_ADDR_LO (by decide)).get (f := R.SNAP_ADDR_LO_ADDR) wf, (hset R.SNAP_ADDR_HI (by decide)).get (f := R.SNAP_ADDR_HI_ADDR) wf]
    rfl
  have hdesc : snapDescriptor (s.set R.SNAP_STAT_TILES (lineCount s / 64)) = snapDescriptor s := by
    unfold snapDescriptor
    rw [State.set_fwd, (hset 0 (by decide)).keeps.part]
  refine ⟨_, exec_snapshotExportDone hjob [], hout.trans ?_⟩
  unfold exportSent
  rw [hlines, haddr, hdesc]
  exact congrArg (List.cons _) (State.set_out ..)

theorem snapshotAbort_row (wf : Memory.wf s = true) (hrun : running s = true) (hjob : s.fwd.snap.job = .exporting) :
    ∃ t, exec .snapshotAbort s = .next t ∧ t.fwd.snap.job = .idle ∧ t.get R.SNAP_STAT_STATE = 0 ∧ t.get R.SNAP_STAT_RESULT = 5 ∧
      t.fwd.ncs = s.fwd.ncs := by
  obtain ⟨hidle, hstate, hresult, hncs, -⟩ := exportEnd_row wf (r := 5) (by decide)
  refine ⟨exportEnd s 5, ?_, hidle, hstate, hresult, hncs⟩
  change execSnapshotAbort s = _
  rw [execSnapshotAbort, if_neg (by simp [openTo_of_running hrun])]
  exact if_pos hjob

/-! ## Restores -/

/-- The state in which a restore has begun (R325 step 1). -/
def restoreBegun (s : State) (resume : Bool) (d : List Byte) : State :=
  s.putFwd { s.fwd with hb := [], eht := [], pass := [], rebuild := [], snap := { s.fwd.snap with
    job := .restoring, asn := leField d 8 5, ns := leField d 16 8, nodeMin := leField d 24 2,
    resume := resume, started := s.now, badTiles := 0 } }

theorem snapshotRestore_row (wf : Memory.wf s = true) (hrun : running s = true) (resume : Bool) {d : List Byte} (hr : restoreRefusal s d = 0) :
    ∃ t, exec (.snapshotRestore resume d) s = .next t ∧ t.fwd.snap.job = .restoring ∧ t.fwd.snap.resume = resume ∧ t.fwd.hb = [] ∧
      t.fwd.eht = [] ∧ t.get R.SNAP_STAT_STATE = 2 ∧ t.get R.SNAP_STAT_TILES = 0 := by
  have hwf := wf_keeps (flushAllDownlink_keeps (Keeps.refl s)) wf
  have hexec : exec (.snapshotRestore resume d) s =
      .next (((viewOverflow (restoreBegun (flushAllDownlink s) resume d)).set R.SNAP_STAT_STATE 2).set R.SNAP_STAT_TILES 0) := by
    change execSnapshotRestore resume d s = _
    rw [execSnapshotRestore, if_neg (by simp [openTo_of_running hrun])]
    exact if_neg (not_not.2 hr)
  generalize flushAllDownlink s = u at hexec hwf
  have hw : Memory.wf (viewOverflow (restoreBegun u resume d)) = true := by
    refine wf_set (wf_keeps (State.putFwd_keeps (Keeps.refl u) _ ?_) hwf) _ _
    exact fun x => ⟨wf_ncs x, cellsWf_nil, cellsWf_nil, wf_shadow x⟩
  have hfwd : (((viewOverflow (restoreBegun u resume d)).set R.SNAP_STAT_STATE 2).set R.SNAP_STAT_TILES 0).fwd = (restoreBegun u resume d).fwd := by
    rw [State.set_fwd, State.set_fwd, viewOverflow, State.set_fwd]
  refine ⟨_, hexec, by rw [hfwd]; rfl, by rw [hfwd]; rfl, by rw [hfwd]; rfl, by rw [hfwd]; rfl, ?_, get_set_same (wf_regs (wf_set hw _ _)) (by decide) 0⟩
  exact (get_set_bits (wf_regs (wf_set hw _ _)) R.SNAP_STAT (by decide) (by decide) _).trans (get_set_same (wf_regs hw) (by decide) 2)

theorem exec_snapshotRestore_refused (hrun : running s = true) (resume : Bool) {d : List Byte} (hr : restoreRefusal s d ≠ 0) :
    exec (.snapshotRestore resume d) s = .next (s.set R.SNAP_STAT_RESULT (restoreRefusal s d)) := by
  change execSnapshotRestore resume d s = _
  rw [execSnapshotRestore, if_neg (by simp [openTo_of_running hrun])]
  exact if_pos hr

/-! ## The end of a restore's reads -/

theorem rebuildAll_row (s : State) : (rebuildAll s).fwd.snap = s.fwd.snap ∧ Leaves R.SNAP_STAT s (rebuildAll s) := by
  have hfull (u : State) (eui : Nat) : Leaves R.SNAP_STAT u (ehtFull u eui) :=
    ((Leaves.refl _ u).bump R.FWD_CNT1_EHT_FULL (by decide)).postEvent (by decide) _ (by decide)
  have hset (u : State) (k : Nat) (e : BitVec 96) : Leaves R.SNAP_STAT u (u.setEht k e) := (Leaves.refl _ u).same (State.setEht_keeps (Keeps.refl u) k e) rfl
  have hview (u : State) : Leaves R.SNAP_STAT u (viewOverflow u) := (Leaves.refl _ u).set _ _ (by decide)
  have hovf (u : State) (b v : Nat) : Leaves R.SNAP_STAT u (setOvf u b v) := .ite (.refl _ u) (hset ..)
  have hput (u : State) (b k eui index : Nat) : Leaves R.SNAP_STAT u (ehtPut u b k eui index) :=
    .ite ((hset ..).trans ((hovf ..).trans (hview _))) (hset ..)
  have hempty : Leaves R.SNAP_STAT s (s.putFwd { s.fwd with eht := [], pass := [], rebuild := [] }) := by
    refine (Leaves.refl _ s).same (State.putFwd_keeps (Keeps.refl s) _ ?_) rfl
    exact fun w => ⟨wf_ncs w, cellsWf_nil, wf_hb w, wf_shadow w⟩
  unfold rebuildAll
  dsimp only
  constructor
  · refine (EhtOnly.trans (.fold (fun u c => ?_) _ _) (.viewOverflow _)).snap.trans (by rw [State.set_fwd]; rfl)
    split
    · exact .ehtFull ..
    · exact .ehtPut ..
  · refine ((hempty.set R.FWD_STATUS_REBUILD 0 (by decide)).fold fun u c _ hu => hu.trans ?_).trans (hview _)
    split
    · exact hfull ..
    · exact hput ..

theorem snapshotWrite_of_idle (hjob : s.fwd.snap.job ≠ .exporting) (n : Nat) : snapshotWrite s n = s := by
  unfold snapshotWrite
  exact if_neg (by simp [hjob])

/-- While no snapshot leaves, applied pins leave SNAP_STAT. -/
theorem Leaves.infraApply_snap {s0 : State} (h : Leaves R.SNAP_STAT s0 s) (hjob : s.fwd.snap.job ≠ .exporting) (w : Nat) :
    Leaves R.SNAP_STAT s0 (infraApply s w) := by
  have hpin : Leaves R.SNAP_STAT s0 (if entPin w then s.setHb (pathCluster (entPath w)) (entIndex w) (pinEntry s w) else s) :=
    ite (h.same (State.setHbWord_keeps (Keeps.refl s) _ _ _) rfl) h
  have hjob' : (if entPin w then s.setHb (pathCluster (entPath w)) (entIndex w) (pinEntry s w) else s).fwd.snap.job ≠ .exporting := by
    split <;> exact hjob
  unfold infraApply
  refine ite (ite ?_ hpin) h
  refine hpin.writeLine_of ?_ ⟨by decide, by decide⟩ _
  rw [snapshotWrite_of_idle hjob']
  exact hpin

theorem Leaves.reapplyPins_snap {s0 : State} (h : Leaves R.SNAP_STAT s0 s) (hjob : s.fwd.snap.job ≠ .exporting) :
    Leaves R.SNAP_STAT s0 (reapplyPins s) := by
  unfold reapplyPins
  generalize infraListed s = l
  induction l generalizing s with
  | nil => exact h
  | cons i l ih => exact ih (h.infraApply_snap hjob _) (by rw [job_infraApply]; exact hjob)

theorem restoreReadDone_error (wf : Memory.wf s = true) (hjob : s.fwd.snap.job = .restoring) (lines : List (Nat × List Byte)) (sums : List (Nat × Nat)) :
    ∃ t, exec (.restoreReadDone lines sums true) s = .next t ∧ t.fwd.snap.job = .idle ∧ t.get R.SNAP_STAT_STATE = 0 ∧ t.get R.SNAP_STAT_RESULT = 7 := by
  obtain ⟨hw, hfwd, -, hstate, hresult⟩ := snapEnded_row wf (r := 7) (by decide)
  have hexec : ∃ fields, exec (.restoreReadDone lines sums true) s = .next (postEvent 0x0806 fields
      (reapplyPins (rebuildAll (((snapIdle s).set R.SNAP_STAT_STATE 0).set R.SNAP_STAT_RESULT 7)))) := by
    change ∃ fields, execRestoreReadDone lines sums true s = _
    exact ⟨_, if_pos hjob⟩
  obtain ⟨fields, hexec⟩ := hexec
  have hidle : (((snapIdle s).set R.SNAP_STAT_STATE 0).set R.SNAP_STAT_RESULT 7).fwd.snap.job = .idle := by rw [hfwd]; rfl
  generalize ((snapIdle s).set R.SNAP_STAT_STATE 0).set R.SNAP_STAT_RESULT 7 = u at hw hexec hidle hstate hresult
  obtain ⟨hsnap, hleaves⟩ := rebuildAll_row u
  have hjob' : (rebuildAll u).fwd.snap.job = .idle := by rw [hsnap, hidle]
  have hpins := hleaves.reapplyPins_snap (by rw [hjob']; decide)
  have hall := hpins.postEvent (code := 0x0806) (by decide) fields (by decide)
  refine ⟨_, hexec, ?_, ?_, ?_⟩
  · rw [fwd_postEvent, reapplyPins, job_fold (fun v i => job_infraApply v _), hjob']
  · rw [hall.get (f := R.SNAP_STAT_STATE) hw, hstate]
  · rw [hall.get (f := R.SNAP_STAT_RESULT) hw, hresult]

/-- A restore waits for the slot boundary: its job, the tiles that failed, and an empty key cache (R325 step 4). -/
structure Restored (k : Nat) (s : State) : Prop where
  job : s.fwd.snap.job = .restoreBoundary
  tiles : s.fwd.snap.badTiles = k
  cache : s.sec.cache = []

namespace Restored

variable {k : Nat} {s t : State}

theorem of_same (h : Restored k s) (hs : t.fwd.snap = s.fwd.snap) (hc : t.sec = s.sec) : Restored k t :=
  ⟨by rw [hs]; exact h.job, by rw [hs]; exact h.tiles, by rw [hc]; exact h.cache⟩

theorem frame {m : Nat} (h : Restored k s) (f : Frame m s t) (hf : m.testBit Comp.fwd.bit = false) (hs : m.testBit Comp.sec.bit = false) :
    Restored k t := h.of_same (congrArg FwdState.snap (f.of .fwd hf)) (f.of .sec hs)

theorem fold {α : Type} {f : State → α → State} (hf : ∀ u x, Restored k u → Restored k (f u x)) (h : Restored k s) (l : List α) :
    Restored k (foldState f s l) := by
  induction l generalizing s with
  | nil => exact h
  | cons x l ih => exact ih (hf s x h)

theorem set (h : Restored k s) (f : Fld) (v : Nat) : Restored k (s.set f v) := h.of_same (by rw [State.set_fwd]) (State.set_sec ..)

theorem writeLine (h : Restored k s) (n : Nat) (l : Line) : Restored k (Machine.writeLine s n l) := by
  by_cases hn : n < lineCount s
  case neg =>
    rw [Machine.writeLine, if_neg hn]
    exact h
  have hsnap : snapshotWrite s n = s := snapshotWrite_of_idle (by rw [h.job]; decide) n
  have hstored : Restored k (lineStored s n l) := by
    rw [lineStored, hsnap]
    exact ⟨h.job, h.tiles, h.cache⟩
  have hchecked : Restored k (lineChecked (lineStored s n l) n (s.line n) l) := hstored.frame (tileTouched_frame rfl (checkWritten_frame rfl
    (tileUpdate_frame rfl (Frame.refl 0x2000001 _) n (s.line n) l) .ncs n) n) rfl rfl
  rw [writeLine_of_lt hn, lineFollowers]
  have hsuspect : Restored k (suspectView (lineChecked (lineStored s n l) n (s.line n) l) (s.line n) l) := hchecked.set _ _
  generalize suspectView (lineChecked (lineStored s n l) n (s.line n) l) (s.line n) l = u at hsuspect
  have hforget : Restored k (cacheForget u n (s.line n) l) := by
    unfold cacheForget
    split
    · refine ⟨hsuspect.job, hsuspect.tiles, ?_⟩
      change u.sec.cache.filter _ = []
      rw [hsuspect.cache]
      rfl
    · exact hsuspect
  exact hforget.frame (mirrorLine_frame rfl (Frame.refl 0x104000001 _) n (s.line n) l) rfl rfl

theorem infraApply (h : Restored k s) (w : Nat) : Restored k (Machine.infraApply s w) := by
  have hpin : Restored k (if entPin w then s.setHb (pathCluster (entPath w)) (entIndex w) (pinEntry s w) else s) := by
    split
    · exact ⟨h.job, h.tiles, h.cache⟩
    · exact h
  unfold Machine.infraApply
  dsimp only
  split
  · split
    · exact hpin.writeLine _ _
    · exact hpin
  · exact h

theorem removeFrame (h : Restored k s) (n : Nat) : Restored k (Machine.removeFrame s n) := by
  unfold Machine.removeFrame
  cases s.frame n with
  | none => exact h
  | some f =>
    dsimp only
    have hm : Restored k (if f.cls = 0 ∧ f.dest.isSome = true then mirror s (.crimsonOut f.ident) else s) := by
      split
      · exact h.frame (mirror_frame rfl (Frame.refl 0x104000001 _) _) rfl rfl
      · exact h
    generalize (if f.cls = 0 ∧ f.dest.isSome = true then mirror s (.crimsonOut f.ident) else s) = u at hm
    have hput (v : State) (x : SchedState) (hv : Restored k v) : Restored k (v.putSched x) := ⟨hv.job, hv.tiles, hv.cache⟩
    cases f.dest with
    | none => exact hput _ _ hm
    | some a =>
      dsimp only
      split
      · exact (hput _ _ (hput _ _ hm)).writeLine _ _ |>.writeLine _ _
      · exact hput _ _ hm

theorem discardFrame (h : Restored k s) (n : Nat) : Restored k (Machine.discardFrame s n) := by
  refine set (?_ : Restored k (dropFrame s n)) _ _
  unfold dropFrame
  cases s.frame n with
  | none => exact h
  | some f =>
    dsimp only
    split
    · exact (h.removeFrame n).frame (dropAgreement_frame rfl (Frame.refl 0x8000 _) _) rfl rfl
    · exact h.removeFrame n

theorem checkExhausted (h : Restored k s) (n : Nat) : Restored k (Machine.checkExhausted s n) := by
  unfold Machine.checkExhausted
  split
  · unfold loseNode
    have hflush := fold (f := Machine.discardFrame) (fun u x hu => hu.discardFrame x) (h.writeLine n (if linePoisoned s n then rebuildLine s else
      lineSet (s.line n) N.VALID 0)) (downlinkOf (setLineField s n N.VALID 0) n)
    have hfree := hflush.frame (freeMapEntry_frame rfl (Frame.refl 0x2001 _) n) rfl rfl
    exact (hfree.set R.PSM_CNT6_NODE_LOST _).frame (postEvent_frame rfl (Frame.refl 0x80840021 _) 0x0603 _) rfl rfl
  · exact h

end Restored

/-- The lines of a restore are in the store (R325 steps 2 to 4), the views and the tables follow. -/
def restoreStored (s : State) (ncs : Cells 512) (bad : List Nat) : State :=
  let s := s.putFwd { s.fwd with ncs := ncs, snap := { s.fwd.snap with job := .restoreBoundary, badTiles := bad.length } }
  s.putMi { s.mi with bad := s.mi.bad.filter (fun x => x.1 ≠ .ncs), flipped := s.mi.flipped.filter (fun x => x.1 ≠ .ncs), tiles := tilesOf ncs }

/-- The map entries are checked, the key cache is emptied, and the views follow. -/
def restoreViews (s : State) (old : Cells 512) : State :=
  let s := restoreMaps s old
  let s := (s.putSec { s.sec with cache := [] }).set R.PSM_STATUS_SUSPECT 0
  s.set R.SNAP_STAT_TILES (lineCount s / 64)

theorem exec_restoreReadDone (hjob : s.fwd.snap.job = .restoring) (lines : List (Nat × List Byte)) (sums : List (Nat × Nat)) :
    ∃ ncs : Cells 512, exec (.restoreReadDone lines sums false) s = .next (foldState checkExhausted
      (reapplyPins (rebuildAll (restoreViews (restoreStored s ncs (restoreBad s lines sums)) s.fwd.ncs))) (ncs.map fun c => c.1)) := by
  change ∃ ncs : Cells 512, execRestoreReadDone lines sums false s = _
  exact ⟨_, if_pos hjob⟩

theorem restored_views (ncs old : Cells 512) (bad : List Nat) : Restored bad.length (restoreViews (restoreStored s ncs bad) old) := by
  have hmaps := restoreMaps_frame (m := 0x2001) rfl (Frame.refl 0x2001 (restoreStored s ncs bad)) old
  have hfwd := hmaps.of .fwd rfl
  unfold restoreViews
  dsimp only
  refine .set (.set ⟨?_, ?_, rfl⟩ _ _) _ _
  · exact congrArg (fun x : FwdState => x.snap.job) hfwd
  · exact congrArg (fun x : FwdState => x.snap.badTiles) hfwd

theorem restoreReadDone_row (hjob : s.fwd.snap.job = .restoring) (lines : List (Nat × List Byte)) (sums : List (Nat × Nat)) :
    ∃ t, exec (.restoreReadDone lines sums false) s = .next t ∧ t.fwd.snap.job = .restoreBoundary ∧ t.sec.cache = [] ∧
      t.fwd.snap.badTiles = (restoreBad s lines sums).length := by
  obtain ⟨ncs, hexec⟩ := exec_restoreReadDone hjob lines sums
  have hviews := restored_views (s := s) ncs s.fwd.ncs (restoreBad s lines sums)
  generalize restoreViews (restoreStored s ncs (restoreBad s lines sums)) s.fwd.ncs = u at hexec hviews
  have hbuilt := hviews.of_same (rebuildAll_row u).1 ((rebuildAll_frame rfl (Frame.refl 0x80850021 u)).of .sec rfl)
  have hpins : Restored _ (reapplyPins (rebuildAll u)) := hbuilt.fold (fun v i hv => hv.infraApply _) _
  have hdone := hpins.fold (f := checkExhausted) (fun v n hv => hv.checkExhausted n) (ncs.map fun c => c.1)
  exact ⟨_, hexec, hdone.job, hdone.cache, hdone.tiles⟩

/-- Settles O21. -/
theorem snapshotRowsComplete : Obligations.SnapshotRowsComplete := by
  intro s wf hrun
  refine ⟨fun off len hlink hlen hout => exec_bar2Read_outside hlink hlen hout, fun off len hlink hlen hin => exec_bar2Read hlink hlen hin, ?single,
    snapshotExport_row wf hrun, exec_snapshotExport_busy hrun, fun err misread hjob => snapshotExportDone_row wf err misread hjob, ?sent,
    snapshotAbort_row wf hrun, fun resume d hr => snapshotRestore_row wf hrun resume hr, fun resume d hr => exec_snapshotRestore_refused hrun resume hr,
    fun lines sums hjob => restoreReadDone_error wf hjob lines sums, fun lines sums hjob => restoreReadDone_row hjob lines sums⟩
  case single =>
    intro off len hlink hlen hin hline hgood
    rw [exec_bar2Read hlink hlen hin, bar2_single hline hgood]
  case sent =>
    rintro l hjob rfl
    exact snapshotExportDone_sent wf hjob

end Sys2Proof.Machine
end

section
/-!
The rows of scheduling (O22).
-/

namespace Sys2Proof.Machine

variable {s : State}

namespace Leaves

variable {key n : Nat} {s0 : State}

theorem stopRequest (h : Leaves key s0 s) (hk : OffEngines key) (hn : n < 16) (hkey : key ≠ R.SYNTH_STATUS n) :
    Leaves key s0 (Machine.stopRequest s n) := by
  rw [stopRequest_stopped]
  exact (h.trans (stopped_leaves hkey)).unblankPath hk (Nat.lt_trans hn (by decide))

/-- A preempted request leaves what is none of its path's three registers. -/
theorem calPreempt (h : Leaves key s0 s) (hk : OffEngines key) (hs : key ≠ R.SYNTH_STATUS n) (hc : key ≠ R.CNT_CAL2 n) (hr : key ≠ R.CAL_STATUS n) :
    Leaves key s0 (Machine.calPreempt s n) := by
  obtain he | ⟨hn, op, he⟩ := calPreempt_eq s n
  · rw [he]
    exact h
  · rw [he]
    exact (h.stopRequest hk hn hs).preempted hk.quiet hc hr op

theorem giveLoad (h : Leaves key s0 s) {e : Nat} (hk : OffEngine e key) (he : e < 512) (l : EngineLoad) : Leaves key s0 (Machine.giveLoad s e l) :=
  ite ((h.setCe e _).engine hk _ _ ⟨_, rfl, by decide⟩) (h.takeAssignment hk he l)

theorem epochBarrier (h : Leaves key s0 s) (hk : OffEngines key) : Leaves key s0 (Machine.epochBarrier s) := by
  refine h.fold fun u e he hu => ?_
  exact ite (hu.giveLoad (hk.engine (List.mem_range.1 he)) (List.mem_range.1 he) _) hu

theorem drainCheck (h : Leaves key s0 s) (hq : noisy key = false) (hp : ∀ p, key ≠ R.PATH_SCHED p) (first : Nat) :
    Leaves key s0 (Machine.drainCheck s first) := by
  refine h.fold fun u p _ hu => ?_
  split
  · exact hu
  · exact ite ((hu.set _ _ (hp p).symm).postEvent (by decide) _ hq) hu

end Leaves

theorem offEngines_schedStatus : OffEngines R.SCHED_STATUS where
  quiet := by decide
  engines := by decide
  lag := fun i _ => by simp only [R.SCHED_STATUS, R.CAL_LAG]; omega

theorem sched_fold {α : Type} {f : State → α → State} (hf : ∀ u x, (f u x).sched = u.sched) (s : State) (l : List α) :
    (foldState f s l).sched = s.sched := by
  induction l generalizing s with
  | nil => rfl
  | cons x l ih => exact (ih (f s x)).trans (hf s x)

theorem sched_calPreempt (s : State) (n : Nat) : (calPreempt s n).sched = s.sched :=
  (calPreempt_frame rfl (Frame.refl 0x80840921 s) n).of .sched rfl

theorem sched_postEvent (s : State) (code : Nat) (fields : List (Nat × Nat × Nat)) : (postEvent code fields s).sched = s.sched :=
  (postEvent_frame rfl (Frame.refl 0x80840021 s) code fields).of .sched rfl

theorem sched_viewTone (s : State) (n : Nat) : (viewTone s n).sched = s.sched := (viewTone_frame rfl (Frame.refl 0x101 s) n).of .sched rfl

theorem sched_drainCheck (s : State) (first : Nat) : (drainCheck s first).sched = s.sched :=
  (drainCheck_frame rfl (Frame.refl 0x80840021 s) first).of .sched rfl

theorem sched_mirror (s : State) (r : MirrorRecord) : (mirror s r).sched = s.sched :=
  (mirror_frame rfl (Frame.refl 0x104000001 s) r).of .sched rfl

theorem sched_epochBarrier (s : State) : (epochBarrier s).sched = s.sched := (epochBarrier_frame rfl (Frame.refl 0x80840821 s)).of .sched rfl

theorem Leaves.calPreempt_schedStatus {s0 : State} (h : Leaves R.SCHED_STATUS s0 s) (n : Nat) : Leaves R.SCHED_STATUS s0 (Machine.calPreempt s n) :=
  h.calPreempt offEngines_schedStatus (by simp only [R.SCHED_STATUS, R.SYNTH_STATUS]; omega) (by simp only [R.SCHED_STATUS, R.CNT_CAL2]; omega)
    (by simp only [R.SCHED_STATUS, R.CAL_STATUS]; omega)

/-- The new epoch's number stands and no change waits any more (R344). -/
theorem adoptEpoch_row (wf : Memory.wf s = true) (number first : Nat) :
    (adoptEpoch s number first).get R.SCHED_STATUS_EPOCH = number % 65536 ∧ (adoptEpoch s number first).sched.epochPending = false := by
  unfold adoptEpoch
  extract_lets ps s1 crims src s2 src' s3
  have hk1 : Keeps s s1 := Keeps.fold (Keeps.refl s) fun u p hu => State.setPath_keeps hu _ _
  have hw3 : Memory.wf s3 = true := wf_keeps (State.putDrift_keeps (State.putSched_keeps hk1 _) _) wf
  have hpending : s3.sched.epochPending = false := rfl
  generalize s3 = u at hw3 hpending
  constructor
  · have hfold : Leaves R.SCHED_STATUS (u.set R.SCHED_STATUS_EPOCH number) _ :=
      (Leaves.refl _ _).fold (f := calPreempt) (l := ps.filter (pathGains s u)) fun v p _ hv => hv.calPreempt_schedStatus p
    rw [hfold.get (f := R.SCHED_STATUS_EPOCH) (wf_set hw3 _ _)]
    exact get_set_same (wf_regs hw3) (by decide) number
  · rw [sched_fold sched_calPreempt, State.set_sched, hpending]

theorem switchEpoch_row (wf : Memory.wf s = true) (first : Nat) :
    (switchEpoch s first).get R.SCHED_STATUS_EPOCH = (s.get R.SCHED_STATUS_EPOCH + 1) % 65536 ∧ (switchEpoch s first).sched.epochPending = false := by
  have hw := wf_keeps (adoptEpoch_keeps (Keeps.refl s) (s.get R.SCHED_STATUS_EPOCH + 1) first) wf
  obtain ⟨hepoch, hpending⟩ := adoptEpoch_row wf (s.get R.SCHED_STATUS_EPOCH + 1) first
  unfold switchEpoch
  extract_lets s1 e s2 s3
  have h1 : Leaves R.SCHED_STATUS (adoptEpoch s (s.get R.SCHED_STATUS_EPOCH + 1) first) s1 := (Leaves.refl _ _).epochBarrier offEngines_schedStatus
  have h3 : Leaves R.SCHED_STATUS (adoptEpoch s (s.get R.SCHED_STATUS_EPOCH + 1) first) s3 :=
    (h1.mirror ⟨by decide, by decide⟩ _).postEvent (by decide) _ (by decide)
  have hall : Leaves R.SCHED_STATUS (adoptEpoch s (s.get R.SCHED_STATUS_EPOCH + 1) first) (foldState viewTone s3 (presentPaths s3)) :=
    h3.fold fun u p _ hu => hu.viewTone p fun _ => by simp only [R.SCHED_STATUS, R.CAL_STATUS]; omega
  constructor
  · rw [hall.get (f := R.SCHED_STATUS_EPOCH) hw, hepoch]
  · rw [sched_fold sched_viewTone, sched_postEvent, sched_mirror, sched_epochBarrier, hpending]

theorem exec_scheduleEpochSwitch (hrun : running s = true) (hslots : s.bit R.PSM_STATUS_RUN = true) {first : Nat}
    (hfirst : first = (s.asnNat + 1) % 2 ^ 40) (hsf0 : slotOffset s first = 0) :
    exec .scheduleEpochSwitch s = .next (drainCheck (if s.sched.epochPending then switchEpoch s first else s) first) := by
  subst hfirst
  change execScheduleEpochSwitch s = _
  exact if_neg (by rw [hrun, hslots, hsf0]; decide)

theorem scheduleEpochSwitch_row (wf : Memory.wf s = true) (hrun : running s = true) (hslots : s.bit R.PSM_STATUS_RUN = true)
    (hsf0 : slotOffset s ((s.asnNat + 1) % 2 ^ 40) = 0) (hpending : s.sched.epochPending = true) :
    ∃ t, exec .scheduleEpochSwitch s = .next t ∧ t.get R.SCHED_STATUS_EPOCH = (s.get R.SCHED_STATUS_EPOCH + 1) % 65536 ∧
      t.sched.epochPending = false := by
  have hexec := exec_scheduleEpochSwitch hrun hslots rfl hsf0
  rw [hpending, if_pos rfl] at hexec
  obtain ⟨hepoch, hdone⟩ := switchEpoch_row wf ((s.asnNat + 1) % 2 ^ 40)
  have hw := wf_keeps (switchEpoch_keeps (Keeps.refl s) ((s.asnNat + 1) % 2 ^ 40)) wf
  generalize switchEpoch s ((s.asnNat + 1) % 2 ^ 40) = u at hexec hepoch hdone hw
  have hdrain := (Leaves.refl R.SCHED_STATUS u).drainCheck (by decide) (fun p => by simp only [R.SCHED_STATUS, R.PATH_SCHED]; omega)
    ((s.asnNat + 1) % 2 ^ 40)
  exact ⟨_, hexec, by rw [hdrain.get (f := R.SCHED_STATUS_EPOCH) hw, hepoch], by rw [sched_drainCheck, hdone]⟩

theorem get_putSched (s : State) (x : SchedState) (f : Fld) : (s.putSched x).get f = s.get f := rfl

theorem exec_pathSchedWrite (hpow : powered s = true) {p : Nat} (hp : pathPresent s.part p = true) (drain : Bool) :
    exec (.pathSchedWrite p drain) s = .next ((if drain then s.setBit (R.PATH_SCHED_DRAIN p) drain
      else (s.setBit (R.PATH_SCHED_DRAIN p) drain).set (R.PATH_SCHED_DRAINED p) 0).putSched { s.sched with epochPending := true }) := by
  change execPathSchedWrite p drain s = _
  rw [execPathSchedWrite, if_neg (by rw [hpow, hp]; decide)]
  have hsched : (if drain then s.setBit (R.PATH_SCHED_DRAIN p) drain
      else (s.setBit (R.PATH_SCHED_DRAIN p) drain).set (R.PATH_SCHED_DRAINED p) 0).sched = s.sched := by
    cases drain
    · exact (State.set_sched ..).trans (State.setBit_sched ..)
    · exact State.setBit_sched ..
  dsimp only
  rw [hsched]

theorem pathSchedWrite_row (wf : Memory.wf s = true) (hpow : powered s = true) {p : Nat} (hp : pathPresent s.part p = true) (drain : Bool) :
    ∃ t, exec (.pathSchedWrite p drain) s = .next t ∧ t.get (R.PATH_SCHED_DRAIN p) = boolNat drain ∧ t.sched.epochPending = true ∧
      t.sched.drains = s.sched.drains ∧ t.get (R.PATH_SCHED_DRAINED p) = (if drain then s.get (R.PATH_SCHED_DRAINED p) else 0) := by
  have hw := wf_set wf (R.PATH_SCHED_DRAIN p) (boolNat drain)
  refine ⟨_, exec_pathSchedWrite hpow hp drain, ?_, rfl, rfl, ?_⟩
  · rw [get_putSched]
    cases drain
    · exact (get_set_bits (wf_regs hw) (R.PATH_SCHED p) (by decide) (by decide) _).trans (get_set_same (wf_regs wf) (by decide) 0)
    · exact get_set_same (wf_regs wf) (by decide) 1
  · rw [get_putSched]
    cases drain
    · exact get_set_same (wf_regs hw) (by decide) 0
    · exact get_set_bits (wf_regs wf) (R.PATH_SCHED p) (by decide) (by decide) _

/-! ## Depth samples -/

/-- The sample of one measured queue (R348). -/
def depthSampled (s : State) (q : Nat) : State :=
  (s.set (R.DEPTH_LAST q) (depthOf s q)).set (R.DEPTH_MAX q) (max (s.get (R.DEPTH_MAX q)) (depthOf s q))

theorem depthSampled_same (s : State) (q : Nat) : (depthSampled s q).queues = s.queues ∧ (depthSampled s q).sched = s.sched := by
  unfold depthSampled
  rw [State.set_queues, State.set_queues, State.set_sched, State.set_sched]
  exact ⟨rfl, rfl⟩

theorem depthOf_congr {t : State} (hq : t.queues = s.queues) (hs : t.sched = s.sched) (q : Nat) : depthOf t q = depthOf s q := by
  unfold depthOf State.queue
  rw [hq, hs]

theorem depthSampled_fold (wf : Memory.wf s = true) (k : Nat) :
    Memory.wf (foldState depthSampled s (List.range k)) = true ∧ (foldState depthSampled s (List.range k)).queues = s.queues ∧
      (foldState depthSampled s (List.range k)).sched = s.sched ∧
      (∀ q < k, (foldState depthSampled s (List.range k)).get (R.DEPTH_LAST q) = depthOf s q % 65536 ∧
        (foldState depthSampled s (List.range k)).get (R.DEPTH_MAX q) = max (s.get (R.DEPTH_MAX q)) (depthOf s q) % 65536) ∧
      ∀ q, k ≤ q → (foldState depthSampled s (List.range k)).get (R.DEPTH_MAX q) = s.get (R.DEPTH_MAX q) := by
  induction k with
  | zero => exact ⟨wf, rfl, rfl, fun q hq => absurd hq (Nat.not_lt_zero q), fun q _ => rfl⟩
  | succ k ih =>
    obtain ⟨hw, hqueues, hsched, hdone, hrest⟩ := ih
    have hstep : foldState depthSampled s (List.range (k + 1)) = depthSampled (foldState depthSampled s (List.range k)) k := by
      simp only [foldState, List.range_succ, List.foldl_append, List.foldl_cons, List.foldl_nil]
    rw [hstep]
    have hk := hrest k (Nat.le_refl k)
    generalize foldState depthSampled s (List.range k) = u at hw hqueues hsched hdone hrest hk
    obtain ⟨hq, hs⟩ := depthSampled_same u k
    have hw1 := wf_set hw (R.DEPTH_LAST k) (depthOf u k)
    have hother (q : Nat) (hqk : q ≠ k) (lo n : Nat) : (depthSampled u k).get ⟨R.DEPTH q, lo, n⟩ = u.get ⟨R.DEPTH q, lo, n⟩ := by
      have hne : R.DEPTH q ≠ R.DEPTH k := by simp only [R.DEPTH]; omega
      exact (get_set_key (wf_regs hw1) hne ..).trans (get_set_key (wf_regs hw) hne ..)
    refine ⟨wf_set hw1 _ _, hq.trans hqueues, hs.trans hsched, fun q hlt => ?_, fun q hle => ?_⟩
    · by_cases hqk : q = k
      · subst hqk
        refine ⟨?_, ?_⟩
        · rw [← depthOf_congr hqueues hsched]
          exact (get_set_bits (wf_regs hw1) (R.DEPTH q) (by decide) (by decide) _).trans (get_set_same (wf_regs hw) (by decide) _)
        · rw [← depthOf_congr hqueues hsched, ← hk]
          exact get_set_same (wf_regs hw1) (by decide) _
      · obtain ⟨hlast, hmax⟩ := hdone q (by omega)
        exact ⟨(hother q hqk 0 16).trans hlast, (hother q hqk 16 16).trans hmax⟩
    · exact (hother q (by omega) 16 16).trans (hrest q (by omega))

theorem exec_depthSample (hrun : running s = true) : exec .depthSample s = .next (foldState depthSampled s (List.range 24)) := by
  change execDepthSample s = _
  exact if_neg (by rw [hrun]; decide)

/-- Settles O22. -/
theorem scheduleRowsComplete : Obligations.ScheduleRowsComplete := by
  intro s wf
  refine ⟨scheduleEpochSwitch_row wf, fun first hrun hslots hfirst hsf0 => exec_scheduleEpochSwitch hrun hslots hfirst hsf0,
    fun p drain hpow hp => pathSchedWrite_row wf hpow hp drain, fun hrun => ?_⟩
  obtain ⟨-, hqueues, hsched, hdone, -⟩ := depthSampled_fold wf 24
  exact ⟨_, exec_depthSample hrun, hqueues, hsched, hdone⟩

end Sys2Proof.Machine
end

section
/-!
Frame queues (O23), whose clause on a forced reset fails.
-/

namespace Sys2Proof.Machine

/-- One message in the mailbox of the application core, and events of source 0x10 forwarded to that mailbox. -/
def forwardedState : State :=
  (State.reset.putApp { State.reset.app with forward := 2 ^ 16 }).setQueue mbc
    { (State.reset.queue mbc) with lanes := [(0, [{ words := 1, poison := [], tag := 0, data := [] }])] }

theorem wf_forwardedState : Memory.wf forwardedState = true :=
  wf_keeps (State.setQueue_keeps (State.putApp_keeps (Keeps.refl State.reset) { State.reset.app with forward := 2 ^ 16 }
    fun w => ⟨wf_iram w, wf_dram w⟩) mbc _) resetStoresCanonical

/-- The closing word is consumed first, and the record of its event enters the queue that is about to be emptied. -/
theorem lost_resetQueue_forwardedState : ((resetQueue forwardedState mbc false 1).queue mbc).lost = 2 := by decide

/-- Refutes O23: the closing word of the item being read posts POISON_CONSUMED, whose forwarded record is discarded with the queue's items,
so the reset of the application core's mailbox loses one item more than the queue held. -/
theorem not_queueRowsComplete : ¬ Obligations.QueueRowsComplete := by
  intro h
  obtain ⟨-, -, -, -, -, -, hreset, -⟩ := h forwardedState mbc wf_forwardedState (by decide)
  obtain ⟨t, hexec, -, -, hlost, -⟩ := hreset false 1 (.queueTestForce mbc 1) (by decide) (by decide) (by decide)
  have hstate : resetQueue forwardedState mbc false 1 = t := Host.Outcome.next.inj hexec
  rw [← hstate, lost_resetQueue_forwardedState] at hlost
  exact absurd hlost (by decide)

end Sys2Proof.Machine
end

section
/-!
The rows of the PCIe endpoint and of its messages (O24).
-/

namespace Sys2Proof.Machine

variable {s : State}

/-! ## Resets -/

/-- What a filter removes reads as unlisted. -/
theorem cellsRead_filter_of_removed {w : Nat} {d : Nat → BitVec w} {p : Nat × BitVec w → Bool} {k : Nat} (hp : ∀ v, p (k, v) = false) (l : Cells w) :
    cellsRead d (l.filter p) k = d k := by
  induction l with
  | nil => rfl
  | cons c l ih =>
    obtain ⟨a, v⟩ := c
    cases hpc : p (a, v) with
    | false => rw [List.filter_cons_of_neg (by simp [hpc])]; exact ih
    | true =>
      have hne : a ≠ k := fun h => by rw [h, hp v] at hpc; exact Bool.noConfusion hpc
      rw [List.filter_cons_of_pos hpc]
      change (if a = k then v else if k < a then d k else cellsRead d (l.filter p) k) = _
      rw [if_neg hne, ih, ite_self]

theorem pcie_ringToBacklog (s : State) (r : Nat) : (ringToBacklog s r).pcie = s.pcie :=
  (ringToBacklog_frame rfl (Frame.refl 0x21 s) r).of .pcie rfl

theorem pcie_fold {α : Type} {f : State → α → State} (hf : ∀ u x, (f u x).pcie = u.pcie) (s : State) (l : List α) :
    (foldState f s l).pcie = s.pcie := by
  induction l generalizing s with
  | nil => rfl
  | cons x l ih => exact (ih (f s x)).trans (hf s x)

/-- The records that waited have gone to the backlog. -/
def ringsEmptied (s : State) : State := foldState ringToBacklog s ((List.range 16).filter fun r => decide ((s.ring r).waiting ≠ []))

/-- The state of a reset host interface but for the backlog's view (R366). -/
def hostCleared (s : State) : State :=
  let s := (s.putRegs (s.regs.filter fun c => !hostBlock c.1)).putHqs []
  let s := s.putEv { s.ev with rings := [] }
  s.putPcie { s.pcie with bme := false, msix := [], pba := 0#64 }

theorem resetHost_eq (s : State) : resetHost s = (hostCleared (ringsEmptied s)).set R.EV_STATUS_BACKLOG (hostCleared (ringsEmptied s)).ev.backlog.length := rfl

theorem regs_hostCleared (s : State) : (hostCleared s).regs = s.regs.filter fun c => !hostBlock c.1 := rfl

theorem ringEnables_reset : ∀ r < 16, getBits (resetWord (R.EVR_CTRL r)) 31 1 = 0 := by decide

theorem queueEnables_reset : ∀ q < 8, getBits (resetWord (R.HQ_CTRL q)) 31 1 = 0 := by decide

theorem get_resetHost (wf : Memory.wf s = true) {key lo n : Nat} (hblock : hostBlock key = true) (hne : key ≠ R.EV_STATUS) :
    (resetHost s).get ⟨key, lo, n⟩ = getBits (resetWord key) lo n := by
  have hw : Memory.wf (ringsEmptied s) = true := wf_keeps (Keeps.fold (Keeps.refl s) fun u r hu => ringToBacklog_keeps hu r) wf
  have hwc : cellsWf resetWord (hostCleared (ringsEmptied s)).regs = true := by
    rw [regs_hostCleared]
    exact cellsWf_filter (wf_regs hw) _
  rw [resetHost_eq]
  refine (get_set_key hwc hne ..).trans ?_
  rw [get_eq_word, State.word, regs_hostCleared, cellsRead_filter_of_removed fun v => by rw [hblock]; rfl]

theorem resetHost_row (wf : Memory.wf s = true) : (resetHost s).pcie = { s.pcie with bme := false, msix := [], pba := 0#64 } ∧ (resetHost s).hqs = [] ∧
    (∀ r < 16, (resetHost s).get (R.EVR_CTRL_EN r) = 0) ∧ ∀ q < 8, (resetHost s).get (R.HQ_CTRL_EN q) = 0 := by
  have hpcie : (ringsEmptied s).pcie = s.pcie := pcie_fold pcie_ringToBacklog s _
  refine ⟨?_, ?_, fun r hr => ?_, fun q hq => ?_⟩
  · rw [resetHost_eq, State.set_pcie, ← hpcie]
    rfl
  · rw [resetHost_eq, State.set_hqs]
    rfl
  · refine (get_resetHost wf ?_ (by simp only [R.EVR_CTRL, R.EV_STATUS]; omega)).trans (ringEnables_reset r hr)
    rw [hostBlock, decide_eq_true (by unfold R.EVR_CTRL; omega), decide_eq_true (by unfold R.EVR_CTRL; omega)]
    rfl
  · refine (get_resetHost wf ?_ (by simp only [R.HQ_CTRL, R.EV_STATUS]; omega)).trans (queueEnables_reset q hq)
    rw [hostBlock, decide_eq_true (by unfold R.HQ_CTRL; omega), decide_eq_true (by unfold R.HQ_CTRL; omega)]
    rfl

theorem pcieReset_row (wf : Memory.wf s = true) (flr : Bool) : ∃ t, exec (.pcieReset flr) s = .next t ∧ t.pcie.bme = false ∧ t.pcie.msix = [] ∧
    t.pcie.pba = 0#64 ∧ t.hqs = [] ∧ t.pcie.linkUp = (flr && s.pcie.linkUp) ∧ t.pcie.perst = (flr && s.pcie.perst) ∧
      (∀ r, r < 16 → t.get (R.EVR_CTRL_EN r) = 0) ∧ ∀ q, q < 8 → t.get (R.HQ_CTRL_EN q) = 0 := by
  obtain ⟨hpcie, hhqs, hrings, hqueues⟩ := resetHost_row wf
  have hexec : exec (.pcieReset flr) s = .next (if flr then resetHost s
      else (resetHost s).putPcie { (resetHost s).pcie with perst := false, linkUp := false, width := 0, rate := 0 }) := rfl
  generalize resetHost s = u at hexec hpcie hhqs hrings hqueues
  cases flr with
  | true => exact ⟨u, hexec, by rw [hpcie], by rw [hpcie], by rw [hpcie], hhqs, by rw [hpcie]; rfl, by rw [hpcie]; rfl, hrings, hqueues⟩
  | false =>
    refine ⟨_, hexec, ?_, ?_, ?_, hhqs, rfl, rfl, hrings, hqueues⟩
    · exact congrArg PcieState.bme hpcie
    · exact congrArg PcieState.msix hpcie
    · exact congrArg PcieState.pba hpcie

/-! ## The link and Bus Master Enable -/

theorem pcie_postEvent (s : State) (code : Nat) (fields : List (Nat × Nat × Nat)) : (postEvent code fields s).pcie = s.pcie :=
  (postEvent_frame rfl (Frame.refl 0x80840021 s) code fields).of .pcie rfl

theorem pcieLinkUp_row (hperst : s.pcie.perst = true) (hpow : powered s = true) (w r : Nat) :
    ∃ t, exec (.pcieLinkChange true w r) s = .next t ∧ t.pcie = { s.pcie with linkUp := true, width := w, rate := r } := by
  refine ⟨postEvent 0x0B04 [(0, 1, 1), (1, 1, w), (2, 1, r)] (s.putPcie { s.pcie with linkUp := true, width := w, rate := r }), ?_, pcie_postEvent ..⟩
  change execPcieLinkChange true w r s = _
  rw [execPcieLinkChange, if_neg (by rw [hperst, hpow]; decide)]
  rfl

theorem pcieLinkDown_row (w r : Nat) :
    ∃ t, exec (.pcieLinkChange false w r) s = .next t ∧ t.pcie = { s.pcie with linkUp := false, width := 0, rate := 0 } :=
  ⟨postEvent 0x0B04 [(0, 1, 0), (1, 1, 0), (2, 1, 0)] (s.putPcie { s.pcie with linkUp := false, width := 0, rate := 0 }), rfl, pcie_postEvent ..⟩

theorem pcie_viewActive (s : State) : (viewActive s).pcie = s.pcie := (viewActive_frame rfl (Frame.refl 0x1 s)).of .pcie rfl

theorem pcie_backlogToRing (s : State) (r : Nat) : (backlogToRing s r).pcie = s.pcie :=
  (backlogToRing_frame rfl (Frame.refl 0x21 s) r).of .pcie rfl

theorem busMasterEnableChange_row {on_ : Bool} (hon : on_ ≠ s.pcie.bme) :
    ∃ t, exec (.busMasterEnableChange on_) s = .next t ∧ t.pcie = { s.pcie with bme := on_ } := by
  have hexec : exec (.busMasterEnableChange on_) s = execBusMasterEnableChange on_ s := rfl
  rw [execBusMasterEnableChange, if_neg hon] at hexec
  cases on_ with
  | true => exact ⟨_, hexec, by rw [pcie_fold pcie_backlogToRing, pcie_viewActive, State.putPcie_pcie]⟩
  | false => exact ⟨_, hexec, by rw [pcie_viewActive, pcie_fold pcie_ringToBacklog, State.putPcie_pcie]⟩

/-! ## Messages -/

/-- The vector's mask bit is clear. -/
def unmasked (s : State) (v : Nat) : State :=
  s.putPcie { s.pcie with msix := cellsWrite msixCell s.pcie.msix (4 * v + 3) (msixWord s (4 * v + 3) &&& ~~~1#32) }

theorem vectorMasked_unmasked (wf : Memory.wf s = true) (v : Nat) : vectorMasked (unmasked s v) v = false := by
  have hword : msixWord (unmasked s v) (4 * v + 3) = msixWord s (4 * v + 3) &&& ~~~1#32 :=
    (cellsRead_write (wf_msix wf) _ _ _).trans (if_pos rfl)
  rw [vectorMasked, hword, natBit_eq_testBit, BitVec.testBit_toNat, BitVec.getLsbD_and]
  rw [show (~~~1#32).getLsbD 0 = false from rfl, Bool.and_false]

theorem vectorMasked_flushVector (s : State) (v : Nat) : vectorMasked (flushVector s v) v = vectorMasked s v := by
  unfold flushVector
  split <;> rfl

theorem pending_flushVector {v : Nat} (hmask : vectorMasked s v = false) : (flushVector s v).pcie.pba.getLsbD v = false := by
  unfold flushVector
  rw [hmask]
  split
  next h =>
    change (s.pcie.pba &&& ~~~(1#64 <<< v)).getLsbD v = false
    by_cases hv : v < 64
    · simp [hv]
    · exact BitVec.getLsbD_of_ge _ _ (by omega)
  next h => simpa using h

theorem msixVectorUnmask_row (wf : Memory.wf s = true) {v : Nat} (hv : v < 64) :
    ∃ t, exec (.msixVectorUnmask v) s = .next t ∧ vectorMasked t v = false ∧ t.pcie.pba.getLsbD v = false := by
  have hmask := vectorMasked_unmasked wf v
  exact ⟨flushVector (unmasked s v) v, if_pos hv, by rw [vectorMasked_flushVector, hmask], pending_flushVector hmask⟩

/-- The ring's message is noted as sent (R376). -/
def messageNoted (s : State) (r : Nat) : State := s.setRing r { s.ring r with msgProd := (s.ring r).wbProd, msgTime := s.now }

theorem exec_msixMessage {r : Nat} (hr : r < 16) (hactive : ringActive s r = true) (hdue : (s.ring r).wbProd ≠ (s.ring r).msgProd)
    (hfirst : (s.ring r).msgTime = 0) (hmask : vectorMasked s (s.get (R.EVR_CTRL_VECTOR r)) = false) :
    exec (.msixMessage r) s = .next ((messageNoted s r).emit (msixOut s (s.get (R.EVR_CTRL_VECTOR r)))) := by
  have hsend : sendMsix (messageNoted s r) (s.get (R.EVR_CTRL_VECTOR r)) = (messageNoted s r).emit (msixOut s (s.get (R.EVR_CTRL_VECTOR r))) := by
    have hmask' : vectorMasked (messageNoted s r) (s.get (R.EVR_CTRL_VECTOR r)) = false := hmask
    rw [sendMsix, hmask']
    rfl
  rw [← hsend]
  change execMsixMessage r s = _
  rw [execMsixMessage, if_pos hr, ringMessage]
  dsimp only
  rw [if_pos (by simp [hactive, hdue]), if_pos hfirst]
  rfl

theorem msixMessage_row {r : Nat} (hr : r < 16) (hactive : ringActive s r = true) (hdue : (s.ring r).wbProd ≠ (s.ring r).msgProd)
    (hfirst : (s.ring r).msgTime = 0) (hmask : vectorMasked s (s.get (R.EVR_CTRL_VECTOR r)) = false) :
    ∃ t, exec (.msixMessage r) s = .next t ∧ (t.ring r).msgProd = (s.ring r).wbProd ∧ (t.ring r).msgTime = s.now ∧
      t.out = msixOut s (s.get (R.EVR_CTRL_VECTOR r)) :: s.out := by
  have hring : (messageNoted s r).ring r = { s.ring r with msgProd := (s.ring r).wbProd, msgTime := s.now } := by
    rw [messageNoted, State.ring, State.setRing]
    change (assocGet (assocSet s.ev.rings r _) r).getD _ = _
    rw [assocGet_assocSet_self]
    rfl
  refine ⟨_, exec_msixMessage hr hactive hdue hfirst hmask, ?_, ?_, rfl⟩
  · exact congrArg RingState.msgProd hring
  · exact congrArg RingState.msgTime hring

/-- Settles O24. -/
theorem pcieRowsComplete : Obligations.PcieRowsComplete := by
  intro s wf
  exact ⟨pcieReset_row wf, rfl, fun w r hperst hpow => pcieLinkUp_row hperst hpow w r, fun w r => pcieLinkDown_row w r, rfl,
    fun on_ hon => busMasterEnableChange_row hon, fun v hv => msixVectorUnmask_row wf hv,
    fun r hr hactive hdue hfirst hmask => msixMessage_row hr hactive hdue hfirst hmask⟩

end Sys2Proof.Machine
end

section
/-!
The rows of events and event rings (O25).
-/

namespace Sys2Proof.Machine

variable {key : Nat} {s0 s : State}

/-! ## What forwarding a record to the application core leaves alone: the registers below the frame queues' views -/

namespace Leaves

theorem viewQueue_below (h : Leaves key s0 s) (hk : key < 0x03400000) (q : Nat) : Leaves key s0 (Machine.viewQueue s q) := by
  unfold Machine.viewQueue
  refine fold ((((h.set _ _ ?_).set _ _ ?_).set _ _ ?_).set _ _ ?_) fun u k _ hu => (hu.set _ _ ?_).set _ _ ?_
  all_goals simp only [R.Q_STAT_ITEMS, R.Q_STAT_TAGS, R.Q_LEVEL_WORDS, R.Q_LEVEL_MAX, R.Q_ITEMS_EVEN, R.Q_ITEMS_ODD, R.Q_STAT, R.Q_LEVEL, R.Q_ITEMS]
  all_goals omega

theorem putQueue_below (h : Leaves key s0 s) (hk : key < 0x03400000) (q : Nat) (x : QueueState) : Leaves key s0 (Machine.putQueue s q x) :=
  (h.same (State.setQueue_keeps (Keeps.refl s) q x) rfl).viewQueue_below hk q

theorem setPending_below (h : Leaves key s0 s) (hk : key < 0x03400000) (src : Nat) (b : Bool) : Leaves key s0 (Machine.setPending s src b) :=
  ite h (h.set _ _ (by simp only [R.AIC_PEND_BITS, R.AIC_PEND]; omega))

theorem putApp (h : Leaves key s0 s) (x : AppState) (hx : x.core = s.app.core) : Leaves key s0 (s.putApp x) :=
  h.trans ⟨(Quiet.app (Quiet.refl s) x hx).keeps, fun _ => rfl⟩

theorem aicExpire_below (h : Leaves key s0 s) (hk : key < 0x03400000) : Leaves key s0 (Machine.aicExpire s) := by
  unfold Machine.aicExpire
  exact fold (putApp h _ rfl) fun _ _ _ hu => ite (ite (hu.setPending_below hk _ _) hu) hu

theorem aicUpdate_below (h : Leaves key s0 s) (hk : key < 0x03400000) : Leaves key s0 (Machine.aicUpdate s) := by
  unfold Machine.aicUpdate
  have hviews := ((h.aicExpire_below hk).set R.AIC_RUN_DEPTH (Machine.aicExpire s).app.stack.length
    (by simp only [R.AIC_RUN_DEPTH, R.AIC_RUN]; omega)).set R.AIC_RUN_PRIO (aicRunning (Machine.aicExpire s)) (by simp only [R.AIC_RUN_PRIO, R.AIC_RUN]; omega)
  exact ite (hviews.putApp _ rfl) (hviews.putApp _ rfl)

theorem aicEdge_below (h : Leaves key s0 s) (hk : key < 0x03400000) (src : Nat) : Leaves key s0 (Machine.aicEdge s src) := by
  unfold Machine.aicEdge
  exact ite h ((h.setPending_below hk _ _).aicUpdate_below hk)

theorem aicLevel_below (h : Leaves key s0 s) (hk : key < 0x03400000) (src : Nat) (high : Bool) : Leaves key s0 (Machine.aicLevel s src high) := by
  unfold Machine.aicLevel
  refine ite h (((h.putApp _ ?_).setPending_below hk _ _).aicUpdate_below hk)
  rfl

theorem viewMail_below (h : Leaves key s0 s) (hk : key < 0x03400000) : Leaves key s0 (Machine.viewMail s) := by
  have hviews := (h.set R.MB_TX_STAT_ROOM (1024 - (s.queue mba).words) (by simp only [R.MB_TX_STAT_ROOM, R.MB_TX_STAT]; omega)).set
    R.MB_RX_STAT_ITEMS (s.queue mbc).items (by simp only [R.MB_RX_STAT_ITEMS, R.MB_RX_STAT]; omega)
  unfold Machine.viewMail
  extract_lets
  split
  · exact hviews
  · refine (hviews.setBit _ _ ?_).fold fun u k _ hu => hu.set _ _ ?_
    · simp only [R.MB_RX_STAT_END, R.MB_RX_STAT]; omega
    · simp only [R.MB_RX_DATA_DATA, R.MB_RX_DATA]; omega

theorem mailChanged_below (h : Leaves key s0 s) (hk : key < 0x03400000) : Leaves key s0 (Machine.mailChanged s) := by
  have hlevel := (h.viewMail_below hk).aicLevel_below hk 68 (decide (0 < (s.queue mbc).items))
  unfold Machine.mailChanged
  refine ite ((hlevel.putApp _ ?_).aicEdge_below hk 69) hlevel
  rfl

theorem forwardRecord_below (h : Leaves key s0 s) (hk : key < 0x03400000) (e : EventRecord) : Leaves key s0 (Machine.forwardRecord s e) := by
  refine ite (ite ?_ (h.bump _ ?_)) h
  · exact ((h.same (State.drew_keeps (Keeps.refl s)) rfl).putQueue_below hk mbc _).mailChanged_below hk
  · simp only [R.APP_CNT_FWD_DROP, R.APP_CNT]; omega

theorem takeSeq (h : Leaves key s0 s) (src : Nat) : Leaves key s0 (Machine.takeSeq s src) := h.same (State.putEv_keeps (Keeps.refl s) _) rfl

end Leaves

/-! ## An occurrence -/

/-- The occurrence has its number, and the application core its copy (R368, R442). -/
def recordTaken (s : State) (code : Nat) (pl : List Byte) : State :=
  forwardRecord (takeSeq s (code / 256)) (mkRecord s code (limitOf s.ev.limits (limitKey code pl)).folded
    (withCount code ((limitOf s.ev.limits (limitKey code pl)).count + 1) pl))

theorem ev_forwardRecord (s : State) (e : EventRecord) : (forwardRecord s e).ev = s.ev :=
  (forwardRecord_frame rfl (Frame.refl 0x80840001 s) e).of .ev rfl

theorem pcie_forwardRecord (s : State) (e : EventRecord) : (forwardRecord s e).pcie = s.pcie :=
  (forwardRecord_frame rfl (Frame.refl 0x80840001 s) e).of .pcie rfl

theorem leaves_recordTaken (hk : key < 0x03400000) (s : State) (code : Nat) (pl : List Byte) : Leaves key s (recordTaken s code pl) :=
  ((Leaves.refl key s).takeSeq _).forwardRecord_below hk _

theorem ev_recordTaken (s : State) (code : Nat) (pl : List Byte) :
    (recordTaken s code pl).ev = { s.ev with seqs := assocSet s.ev.seqs (code / 256) ((sourceSeq s (code / 256) + 1) % 65536) } :=
  ev_forwardRecord ..

/-- The record of an inactive ring is held in the backlog while that has room (R377). -/
theorem holdRecord_backlog {r : Nat} (e : EventRecord) (hring : ringActive s r = false) (hroom : s.ev.backlog.length < 256) :
    holdRecord s r e = (setBacklog (clearLoss s e.source) (s.ev.backlog ++ [(r, e)]), false) := by
  rw [holdRecord, hring, if_neg Bool.false_ne_true, if_pos hroom]

theorem generate_backlog {code : Nat} {pl : List Byte} (hmask : eventMasked s (code / 256) (code % 256) = false) (hlim : rateLimited code = false)
    (hring : ringActive (recordTaken s code pl) (eventRing (recordTaken s code pl) (code / 256)) = false)
    (hroom : (recordTaken s code pl).ev.backlog.length < 256) :
    ∃ l, generate 2 code pl s = setBacklog (clearLoss (recordTaken s code pl) (code / 256)) ((recordTaken s code pl).ev.backlog ++ [l]) := by
  refine ⟨(eventRing (recordTaken s code pl) (code / 256), mkRecord s code (limitOf s.ev.limits (limitKey code pl)).folded
    (withCount code ((limitOf s.ev.limits (limitKey code pl)).count + 1) pl)), ?_⟩
  rw [generate, hmask, hlim, Bool.false_and, Bool.false_or, if_neg Bool.false_ne_true]
  dsimp only
  rw [if_neg Bool.false_ne_true]
  have hheld := holdRecord_backlog (mkRecord s code (limitOf s.ev.limits (limitKey code pl)).folded
    (withCount code ((limitOf s.ev.limits (limitKey code pl)).count + 1) pl)) hring hroom
  exact (congrArg (fun x : State × Bool => if x.2 then generate 1 0x0B01 _ x.1 else x.1) hheld).trans rfl

theorem source_le {code : Nat} (h1 : 1 ≤ code % 256) (h2 : code % 256 ≤ eventTypes (code / 256)) : code / 256 < 20 := by
  by_contra hge
  have hnone : eventTypes (code / 256) = 0 := by
    obtain ⟨k, hk⟩ := Nat.exists_eq_add_of_le (not_lt.mp hge)
    rw [hk, Nat.add_comm]
    rfl
  omega

theorem eventGenerate_row (wf : Memory.wf s = true) {code : Nat} (h1 : 1 ≤ code % 256) (h2 : code % 256 ≤ eventTypes (code / 256))
    (hmask : eventMasked s (code / 256) (code % 256) = false) (hlim : rateLimited code = false)
    (hring : ringActive s (eventRing s (code / 256)) = false) (hroom : s.ev.backlog.length < 256) (data : List Byte) :
    ∃ t, exec (.eventGenerate code data) s = .next t ∧ t.ev.backlog.length = s.ev.backlog.length + 1 ∧
      assocGet t.ev.seqs (code / 256) = some ((sourceSeq s (code / 256) + 1) % 65536) := by
  have hsrc := source_le h1 h2
  have hr := eventRing_lt s (code / 256)
  have hexec : exec (.eventGenerate code data) s = .next (generate 2 code ((data ++ List.replicate 16 0#8).take 16) s) :=
    if_pos (by rw [decide_eq_true h1, decide_eq_true h2]; rfl)
  generalize (data ++ List.replicate 16 0#8).take 16 = pl at hexec
  have hev := ev_recordTaken s code pl
  have hroute : eventRing (recordTaken s code pl) (code / 256) = eventRing s (code / 256) := by
    rw [eventRing, eventRing, (leaves_recordTaken (by simp only [R.EV_ROUTE]; omega) s code pl).word wf]
  have hactive : ringActive (recordTaken s code pl) (eventRing (recordTaken s code pl) (code / 256)) = false := by
    have hbit := (leaves_recordTaken (key := R.EVR_CTRL (eventRing s (code / 256))) (by simp only [R.EVR_CTRL]; omega) s code pl).bit
      (f := R.EVR_CTRL_EN (eventRing s (code / 256))) wf
    rw [hroute, ringActive, hbit, recordTaken, pcie_forwardRecord]
    exact hring
  obtain ⟨l, hl⟩ := generate_backlog hmask hlim hactive (by rw [hev]; exact hroom)
  refine ⟨_, hexec.trans (congrArg Host.Outcome.next hl), ?_, ?_⟩
  · rw [setBacklog, State.set_ev, hev]
    exact List.length_append
  · rw [setBacklog, State.set_ev, State.putEv_ev, clearLoss, State.putEv_ev, hev]
    exact assocGet_assocSet_self ..

/-! ## Records and write-backs of a ring -/

theorem ring_setRing (s : State) (r : Nat) (x : RingState) : (s.setRing r x).ring r = x := by
  rw [State.ring, State.setRing]
  change (assocGet (assocSet s.ev.rings r x) r).getD _ = _
  rw [assocGet_assocSet_self]
  rfl

theorem eventRecordWrite_row (wf : Memory.wf s = true) {r : Nat} {e : EventRecord} {rest : List EventRecord} (hwait : (s.ring r).waiting = e :: rest)
    (hactive : ringActive s r = true) (hroom : (s.get (R.EVR_PROD_INDEX r) + 2 ^ 32 - s.get (R.EVR_CONS_INDEX r)) % 2 ^ 32 < ringSize s r) :
    ∃ t, exec (.eventRecordWrite r) s = .next t ∧ (t.ring r).waiting = rest ∧
      t.get (R.EVR_PROD_INDEX r) = (s.get (R.EVR_PROD_INDEX r) + 1) % 2 ^ 32 ∧
      t.out = .hostWrite (hostAddr s (R.EVR_BASE_LO_ADDR r) (R.EVR_BASE_HI_ADDR r) + s.get (R.EVR_PROD_INDEX r) % ringSize s r * 32)
        (recordBytes e (decide (s.get (R.EVR_PROD_INDEX r) / ringSize s r % 2 = 0))) :: s.out := by
  have hexec : exec (.eventRecordWrite r) s = .next (((s.setRing r { s.ring r with waiting := rest }).emit
      (.hostWrite (hostAddr s (R.EVR_BASE_LO_ADDR r) (R.EVR_BASE_HI_ADDR r) + s.get (R.EVR_PROD_INDEX r) % ringSize s r * 32)
        (recordBytes e (decide (s.get (R.EVR_PROD_INDEX r) / ringSize s r % 2 = 0))))).bumpWrap (R.EVR_PROD_INDEX r)) := by
    change execEventRecordWrite r s = _
    rw [execEventRecordWrite, hwait]
    dsimp only
    rw [if_neg (by simp [hactive])]
    exact if_pos hroom
  refine ⟨_, hexec, ?_, ?_, rfl⟩
  · exact congrArg RingState.waiting (ring_setRing s r _)
  · exact get_set_same (wf_regs wf) (by decide) _

theorem eventWriteback_row {r : Nat} (hactive : ringActive s r = true) (hdue : (s.ring r).wbProd ≠ s.get (R.EVR_PROD_INDEX r)) :
    ∃ t, exec (.eventWriteback r) s = .next t ∧ (t.ring r).wbProd = s.get (R.EVR_PROD_INDEX r) ∧ t.regs = s.regs ∧
      t.out = .hostWrite (hostAddr s (R.EVR_WB_LO_ADDR r) (R.EVR_WB_HI_ADDR r))
        (toLE 4 (s.get (R.EVR_PROD_INDEX r)) ++ toLE 4 (s.ring r).drops) :: s.out := by
  refine ⟨_, if_pos (by rw [hactive, decide_eq_true hdue]; rfl), ?_, rfl, rfl⟩
  exact congrArg RingState.wbProd (ring_setRing (s.emit _) r _)

/-! ## The registers of a ring -/

theorem Leaves.viewActive (h : Leaves key s0 s) (hring : ∀ r < 16, R.EVR_STAT r ≠ key) (hqueue : ∀ q < 8, R.HQ_STAT q ≠ key) :
    Leaves key s0 (Machine.viewActive s) :=
  (h.fold fun _ _ hr hu => hu.setBit _ _ (hring _ (List.mem_range.mp hr))).fold fun _ _ hq hu => hu.setBit _ _ (hqueue _ (List.mem_range.mp hq))

theorem Leaves.setBacklog (h : Leaves key s0 s) (l : List (Nat × EventRecord)) (hne : R.EV_STATUS ≠ key) : Leaves key s0 (Machine.setBacklog s l) := by
  unfold Machine.setBacklog
  refine Leaves.set (h.same (State.putEv_keeps (Keeps.refl s) _) ?_) R.EV_STATUS_BACKLOG _ hne
  rfl

theorem Leaves.setRing (h : Leaves key s0 s) (r : Nat) (x : RingState) : Leaves key s0 (s.setRing r x) :=
  h.same (State.setRing_keeps (Keeps.refl s) r x) rfl

theorem Leaves.backlogToRing (h : Leaves key s0 s) (r : Nat) (hne : R.EV_STATUS ≠ key) : Leaves key s0 (Machine.backlogToRing s r) := by
  unfold Machine.backlogToRing
  exact Leaves.ite ((h.setBacklog _ hne).setRing _ _) h

/-- The fields of EVR_CTRL beside EN are written. -/
def evrFields (s : State) (r v : Nat) : State := putCtrl s (R.EVR_CTRL_LOG2SZ r) (R.EVR_CTRL_VECTOR r) (R.EVR_CTRL_MOD_US r) v

theorem wf_evrFields (wf : Memory.wf s = true) (r v : Nat) : Memory.wf (evrFields s r v) = true := wf_set (wf_set (wf_set wf _ _) _ _) _ _

/-- The ring is enabled and starts empty (R372). -/
def evrEnabled (s : State) (r v : Nat) : State :=
  ((((evrFields s r v).set (R.EVR_CTRL_EN r) 1).set (R.EVR_PROD_INDEX r) 0).set (R.EVR_CONS_INDEX r) 0).setRing r
    { s.ring r with waiting := [], wbProd := 0, msgProd := 0 }

theorem get_evrFields_other {f : Fld} (wf : Memory.wf s = true) (r v : Nat) (hf : R.EVR_CTRL r ≠ f.key) : (evrFields s r v).get f = s.get f :=
  ((((Leaves.refl f.key s).set _ _ hf).set _ _ hf).set _ _ hf).get wf

theorem get_evrEnabled (wf : Memory.wf s = true) (r v : Nat) :
    (evrEnabled s r v).get (R.EVR_CTRL_EN r) = 1 ∧ (evrEnabled s r v).get (R.EVR_CTRL_LOG2SZ r) = natBits v 24 5 ∧
      (evrEnabled s r v).get (R.EVR_PROD_INDEX r) = 0 ∧ (evrEnabled s r v).get (R.EVR_CONS_INDEX r) = 0 := by
  have hkeys : R.EVR_CTRL r ≠ R.EVR_PROD r ∧ R.EVR_CTRL r ≠ R.EVR_CONS r ∧ R.EVR_PROD r ≠ R.EVR_CONS r := by
    simp only [R.EVR_CTRL, R.EVR_PROD, R.EVR_CONS]; omega
  obtain ⟨hprod, hcons, hpc⟩ := hkeys
  have hfields (f : Fld) : (evrEnabled s r v).get f =
      ((((evrFields s r v).set (R.EVR_CTRL_EN r) 1).set (R.EVR_PROD_INDEX r) 0).set (R.EVR_CONS_INDEX r) 0).get f :=
    ((Leaves.refl f.key _).setRing _ _).get (wf_set (wf_set (wf_set (wf_evrFields wf r v) _ _) _ _) _ _)
  simp only [hfields, evrFields, putCtrl]
  simp [wf_regs wf, R.EVR_CTRL_EN, R.EVR_CTRL_LOG2SZ, R.EVR_CTRL_VECTOR, R.EVR_CTRL_MOD_US, R.EVR_PROD_INDEX, R.EVR_CONS_INDEX, hprod, hcons, hpc]
  exact natBits_lt v 24 5

theorem exec_evrCtrlWrite_on {r v : Nat} (hen : s.bit (R.EVR_CTRL_EN r) = false) (hv : natBit v 31 = true)
    (hlo : 6 ≤ natBits v 24 5) (hhi : natBits v 24 5 ≤ 16) (hbase : s.get (R.EVR_BASE_LO_ADDR r) % 4096 = 0) (hwb : s.get (R.EVR_WB_LO_ADDR r) % 8 = 0) :
    exec (.evrCtrlWrite r v) s = .next (backlogToRing (viewActive (evrEnabled s r v)) r) := by
  change execEvrCtrlWrite r v s = _
  rw [execEvrCtrlWrite]
  dsimp only
  rw [if_neg (by simp [hen]), if_neg (by simp [hv]), if_neg (by simp [hbase, hwb]; omega)]
  rfl

theorem evrCtrlWrite_on_row (wf : Memory.wf s = true) {r v : Nat} (hr : r < 16) (hen : s.bit (R.EVR_CTRL_EN r) = false) (hv : natBit v 31 = true)
    (hlo : 6 ≤ natBits v 24 5) (hhi : natBits v 24 5 ≤ 16) (hbase : s.get (R.EVR_BASE_LO_ADDR r) % 4096 = 0) (hwb : s.get (R.EVR_WB_LO_ADDR r) % 8 = 0) :
    ∃ t, exec (.evrCtrlWrite r v) s = .next t ∧ t.get (R.EVR_CTRL_EN r) = 1 ∧ t.get (R.EVR_CTRL_LOG2SZ r) = natBits v 24 5 ∧
      t.get (R.EVR_PROD_INDEX r) = 0 ∧ t.get (R.EVR_CONS_INDEX r) = 0 := by
  have hw : Memory.wf (evrEnabled s r v) = true :=
    wf_keeps (State.setRing_keeps (Keeps.refl _) _ _) (wf_set (wf_set (wf_set (wf_evrFields wf r v) _ _) _ _) _ _)
  have hleaves (f : Fld) (hstat : ∀ i < 16, R.EVR_STAT i ≠ f.key) (hqueue : ∀ q < 8, R.HQ_STAT q ≠ f.key) (hstatus : R.EV_STATUS ≠ f.key) :
      (backlogToRing (viewActive (evrEnabled s r v)) r).get f = (evrEnabled s r v).get f :=
    (((Leaves.refl f.key _).viewActive hstat hqueue).backlogToRing r hstatus).get hw
  obtain ⟨h1, h2, h3, h4⟩ := get_evrEnabled wf r v
  refine ⟨_, exec_evrCtrlWrite_on hen hv hlo hhi hbase hwb, (hleaves _ ?_ ?_ ?_).trans h1, (hleaves _ ?_ ?_ ?_).trans h2,
    (hleaves _ ?_ ?_ ?_).trans h3, (hleaves _ ?_ ?_ ?_).trans h4⟩
  all_goals
    simp only [R.EVR_CTRL_EN, R.EVR_CTRL_LOG2SZ, R.EVR_PROD_INDEX, R.EVR_CONS_INDEX, R.EVR_CTRL, R.EVR_PROD, R.EVR_CONS, R.EVR_STAT, R.HQ_STAT, R.EV_STATUS]
    omega

theorem evrCtrlWrite_badSize_row (wf : Memory.wf s = true) {r v : Nat} (hen : s.bit (R.EVR_CTRL_EN r) = false) (hv : natBit v 31 = true)
    (hsize : natBits v 24 5 < 6 ∨ 16 < natBits v 24 5) :
    ∃ t, exec (.evrCtrlWrite r v) s = .next t ∧ t.get (R.EVR_CTRL_EN r) = 0 ∧ t.get (R.EVR_STAT_BAD_CFG r) = 1 := by
  have hexec : exec (.evrCtrlWrite r v) s = .next ((evrFields s r v).set (R.EVR_STAT_BAD_CFG r) 1) := by
    change execEvrCtrlWrite r v s = _
    rw [execEvrCtrlWrite]
    dsimp only
    rw [if_neg (by simp [hen]), if_neg (by simp [hv]), if_pos (by rcases hsize with h | h <;> simp [h])]
    rfl
  have hkey : R.EVR_CTRL r ≠ R.EVR_STAT r := by simp only [R.EVR_CTRL, R.EVR_STAT]; omega
  have hzero : s.get (R.EVR_CTRL_EN r) = 0 := by
    have := get_lt (s := s) (f := R.EVR_CTRL_EN r)
    rw [bit_eq_get] at hen
    have := of_decide_eq_false hen
    simp [R.EVR_CTRL_EN] at *
    omega
  refine ⟨_, hexec, ?_, get_set_same (wf_regs (wf_evrFields wf r v)) (by decide) 1⟩
  refine (get_set_key (wf_regs (wf_evrFields wf r v)) hkey ..).trans (Eq.trans ?_ hzero)
  simp [wf_regs wf, evrFields, putCtrl, R.EVR_CTRL_EN, R.EVR_CTRL_LOG2SZ, R.EVR_CTRL_VECTOR, R.EVR_CTRL_MOD_US]

/-- Settles O25. -/
theorem eventRowsComplete : Obligations.EventRowsComplete := by
  intro s r wf hr
  refine ⟨fun code data h1 h2 hmask hlim hring hroom => eventGenerate_row wf h1 h2 hmask hlim hring hroom data,
    fun e rest hwait hactive hroom => eventRecordWrite_row wf hwait hactive hroom, fun hactive hdue => eventWriteback_row hactive hdue,
    fun v hen hv hlo hhi hbase hwb => evrCtrlWrite_on_row wf hr hen hv hlo hhi hbase hwb,
    fun v hen hv hsize => evrCtrlWrite_badSize_row wf hen hv hsize, fun v hen => ⟨if_neg (by simp [hen]), if_neg (by simp [hen])⟩,
    fun part v hen => if_pos hen, fun v hen hcons => ?_⟩
  change execEvrConsWrite r v s = _
  rw [execEvrConsWrite, if_neg (by simp [hen]), if_neg (by omega)]

end Sys2Proof.Machine
end

section
/-!
The rows of the host frame queues (O26).
-/

namespace Sys2Proof.Machine

variable {s : State}

/-! ## The control of a queue -/

/-- The fields of HQ_CTRL beside EN are written. -/
def hqFields (s : State) (q v : Nat) : State := putCtrl s (R.HQ_CTRL_LOG2SZ q) (R.HQ_CTRL_VECTOR q) (R.HQ_CTRL_MOD_US q) v

/-- The queue is enabled and starts empty (R372). -/
def hqEnabled (s : State) (q v : Nat) : State :=
  ((((hqFields s q v).set (R.HQ_CTRL_EN q) 1).set (R.HQ_HEAD_INDEX q) 0).set (R.HQ_TAIL_INDEX q) 0).setHq q
    { s.hq q with msgHead := 0, notify := false }

theorem wf_hqFields (wf : Memory.wf s = true) (q v : Nat) : Memory.wf (hqFields s q v) = true := wf_set (wf_set (wf_set wf _ _) _ _) _ _

theorem get_hqEnabled (wf : Memory.wf s = true) (q v : Nat) : (hqEnabled s q v).get (R.HQ_CTRL_EN q) = 1 ∧
    (hqEnabled s q v).get (R.HQ_HEAD_INDEX q) = 0 ∧ (hqEnabled s q v).get (R.HQ_TAIL_INDEX q) = 0 := by
  have hkeys : R.HQ_CTRL q ≠ R.HQ_HEAD q ∧ R.HQ_CTRL q ≠ R.HQ_TAIL q ∧ R.HQ_HEAD q ≠ R.HQ_TAIL q := by
    simp only [R.HQ_CTRL, R.HQ_HEAD, R.HQ_TAIL]; omega
  obtain ⟨hhead, htail, hht⟩ := hkeys
  have hfields (f : Fld) : (hqEnabled s q v).get f =
      ((((hqFields s q v).set (R.HQ_CTRL_EN q) 1).set (R.HQ_HEAD_INDEX q) 0).set (R.HQ_TAIL_INDEX q) 0).get f :=
    ((Leaves.refl f.key _).same (State.setHq_keeps (Keeps.refl _) _ _) rfl).get (wf_set (wf_set (wf_set (wf_hqFields wf q v) _ _) _ _) _ _)
  simp only [hfields]
  simp [wf_regs (wf_hqFields wf q v), R.HQ_CTRL_EN, R.HQ_HEAD_INDEX, R.HQ_TAIL_INDEX, hhead, htail, hht]

theorem get_viewActive_hq {f : Fld} (wf : Memory.wf s = true) (hring : ∀ r < 16, R.EVR_STAT r ≠ f.key) (hqueue : ∀ q < 8, R.HQ_STAT q ≠ f.key) :
    (viewActive s).get f = s.get f := ((Leaves.refl f.key s).viewActive hring hqueue).get wf

theorem hqCtrlWrite_on_row (wf : Memory.wf s = true) {q v : Nat} (hen : s.bit (R.HQ_CTRL_EN q) = false) (hv : natBit v 31 = true)
    (hlo : 4 ≤ natBits v 24 5) (hhi : natBits v 24 5 ≤ 12) (hbase : s.get (R.HQ_BASE_LO_ADDR q) % 4096 = 0) (hwb : s.get (R.HQ_WB_LO_ADDR q) % 4 = 0) :
    ∃ t, exec (.hqCtrlWrite q v) s = .next t ∧ t.get (R.HQ_CTRL_EN q) = 1 ∧ t.get (R.HQ_HEAD_INDEX q) = 0 ∧ t.get (R.HQ_TAIL_INDEX q) = 0 := by
  have hexec : exec (.hqCtrlWrite q v) s = .next (viewActive (hqEnabled s q v)) := by
    change execHqCtrlWrite q v s = _
    rw [execHqCtrlWrite]
    dsimp only
    rw [if_neg (by simp [hen]), if_neg (by simp [hv]), if_neg (by simp [hbase, hwb]; omega)]
    rfl
  have hw : Memory.wf (hqEnabled s q v) = true :=
    wf_keeps (State.setHq_keeps (Keeps.refl _) _ _) (wf_set (wf_set (wf_set (wf_hqFields wf q v) _ _) _ _) _ _)
  obtain ⟨h1, h2, h3⟩ := get_hqEnabled wf q v
  refine ⟨_, hexec, (get_viewActive_hq hw ?_ ?_).trans h1, (get_viewActive_hq hw ?_ ?_).trans h2, (get_viewActive_hq hw ?_ ?_).trans h3⟩
  all_goals
    simp only [R.HQ_CTRL_EN, R.HQ_HEAD_INDEX, R.HQ_TAIL_INDEX, R.HQ_CTRL, R.HQ_HEAD, R.HQ_TAIL, R.EVR_STAT, R.HQ_STAT]
    omega

theorem hqCtrlWrite_off_row (wf : Memory.wf s = true) {q v : Nat} (hen : s.bit (R.HQ_CTRL_EN q) = true) (hv : natBit v 31 = false) :
    ∃ t, exec (.hqCtrlWrite q v) s = .next t ∧ t.get (R.HQ_CTRL_EN q) = 0 := by
  have hexec : exec (.hqCtrlWrite q v) s = .next (viewActive ((hqFields s q v).set (R.HQ_CTRL_EN q) 0)) := by
    change execHqCtrlWrite q v s = _
    rw [execHqCtrlWrite]
    dsimp only
    rw [if_pos hen, if_pos (by simp [hv])]
    rfl
  refine ⟨_, hexec, (get_viewActive_hq (wf_set (wf_hqFields wf q v) _ _) ?_ ?_).trans (get_set_same (wf_regs (wf_hqFields wf q v)) (by decide) 0)⟩
  all_goals
    simp only [R.HQ_CTRL_EN, R.HQ_CTRL, R.EVR_STAT, R.HQ_STAT]
    omega

/-! ## A transmit descriptor -/

/-- What completing a descriptor does: its status is written, a failure is reported, and HQ_HEAD advances (R381, R382). -/
def descriptorStatus (s u : State) (q status : Nat) : State :=
  let s1 := u.emit (.hostWrite (descAddr s q + 24) (toLE 1 status))
  if status = 1 then s1 else postEvent 0x0B03 [(0, 1, q), (1, 1, status), (4, 4, s.get (R.HQ_HEAD_INDEX q))] s1

theorem exec_hostTxDescriptor {q : Nat} (hq : q < 4) (hactive : hqActive s q = true) (hne : s.get (R.HQ_HEAD_INDEX q) ≠ s.get (R.HQ_TAIL_INDEX q))
    {desc data : List Byte} {ok : Bool} {u : State} {status : Nat} (h : handleDescriptor s desc data ok = (u, status)) :
    exec (.hostTxDescriptor q desc data ok) s = .next ((advanceHead (descriptorStatus s u q status) q).setHq q
      { (advanceHead (descriptorStatus s u q status) q).hq q with
        notify := ((advanceHead (descriptorStatus s u q status) q).hq q).notify || natBit (leField desc 11 1) 1 }) := by
  change execHostTxDescriptor q desc data ok s = _
  rw [execHostTxDescriptor]
  dsimp only
  rw [if_neg (by simp [hq, hactive, hne]), h]
  rfl

theorem hqs_descriptorStatus (s u : State) (q status : Nat) : (descriptorStatus s u q status).hqs = u.hqs := by
  unfold descriptorStatus
  dsimp only
  split
  · rfl
  · exact (postEvent_frame rfl (Frame.refl 0x80840021 _) _ _).of .hqs rfl

theorem pcie_descriptorStatus (s u : State) (q status : Nat) : (descriptorStatus s u q status).pcie = u.pcie := by
  unfold descriptorStatus
  dsimp only
  split
  · rfl
  · exact pcie_postEvent ..

theorem hqs_advanceHead (s : State) (q : Nat) : (advanceHead s q).hqs = s.hqs := (advanceHead_frame rfl (Frame.refl 0x100000001 s) q).of .hqs rfl

theorem pcie_advanceHead (s : State) (q : Nat) : (advanceHead s q).pcie = s.pcie := (advanceHead_frame rfl (Frame.refl 0x100000001 s) q).of .pcie rfl

theorem hq_of_hqs {s u : State} (h : u.hqs = s.hqs) (q : Nat) : u.hq q = s.hq q := by rw [State.hq, h]; rfl

theorem hq_setHq (s : State) (q : Nat) (x : HostQueueState) : (s.setHq q x).hq q = x := by
  rw [State.hq, State.setHq]
  change (assocGet (assocSet s.hqs q x) q).getD _ = _
  rw [assocGet_assocSet_self]
  rfl

theorem notify_row {q : Nat} (hq : q < 4) (hactive : hqActive s q = true) (hne : s.get (R.HQ_HEAD_INDEX q) ≠ s.get (R.HQ_TAIL_INDEX q))
    (desc data : List Byte) (ok : Bool) : ∃ t, exec (.hostTxDescriptor q desc data ok) s = .next t ∧
      (t.hq q).notify = ((s.hq q).notify || natBit (leField desc 11 1) 1) ∧ t.pcie = s.pcie := by
  have hframe := handleDescriptor_frame rfl (Frame.refl 0x186b7e021 s) desc data ok
  have hhqs : (handleDescriptor s desc data ok).1.hqs = s.hqs := hframe.of .hqs rfl
  have hpcie : (handleDescriptor s desc data ok).1.pcie = s.pcie := hframe.of .pcie rfl
  obtain ⟨u, status, hu⟩ : ∃ u status, handleDescriptor s desc data ok = (u, status) := ⟨_, _, rfl⟩
  rw [hu] at hhqs hpcie
  have hend : (advanceHead (descriptorStatus s u q status) q).hq q = s.hq q :=
    hq_of_hqs ((hqs_advanceHead ..).trans ((hqs_descriptorStatus ..).trans hhqs)) q
  refine ⟨_, exec_hostTxDescriptor hq hactive hne hu, ?_, ?_⟩
  · rw [hq_setHq, hend]
  · rw [State.setHq_pcie, pcie_advanceHead, pcie_descriptorStatus, hpcie]

theorem malformed_row (wf : Memory.wf s = true) {q : Nat} (hq : q < 4) (hactive : hqActive s q = true)
    (hne : s.get (R.HQ_HEAD_INDEX q) ≠ s.get (R.HQ_TAIL_INDEX q)) {desc : List Byte} (hbad : descMalformed desc = true) (data : List Byte) (ok : Bool) :
    ∃ t o, exec (.hostTxDescriptor q desc data ok) s = .next t ∧ t.get (R.HQ_HEAD_INDEX q) = (s.get (R.HQ_HEAD_INDEX q) + 1) % 2 ^ 32 ∧
      t.out = o :: .hostWrite (descAddr s q + 24) [2#8] :: s.out := by
  have hhandled : handleDescriptor s desc data ok = (s, 2) := if_pos hbad
  have hleaves : Leaves (R.HQ_HEAD q) s (descriptorStatus s s q 2) :=
    ((Leaves.refl _ s).emit _).postEvent (by decide) _ (noisy_eq_false (by unfold R.HQ_HEAD; omega))
  have hhead : (descriptorStatus s s q 2).get (R.HQ_HEAD_INDEX q) = s.get (R.HQ_HEAD_INDEX q) := hleaves.get (f := R.HQ_HEAD_INDEX q) wf
  have hout : (descriptorStatus s s q 2).out = .hostWrite (descAddr s q + 24) [2#8] :: s.out := out_postEvent ..
  have hw := wf_keeps hleaves.keeps wf
  refine ⟨_, _, exec_hostTxDescriptor hq hactive hne hhandled, ?_, congrArg _ hout⟩
  generalize descriptorStatus s s q 2 = u at hhead hw ⊢
  have hkey : R.HQ_HEAD q ≠ R.HQ_CNT q := by simp only [R.HQ_HEAD, R.HQ_CNT]; omega
  refine (get_set_key (s := u.bumpWrap (R.HQ_HEAD_INDEX q)) (wf_regs (wf_set hw _ _)) hkey ..).trans ?_
  refine (get_set_same (wf_regs hw) (by decide) _).trans ?_
  exact congrArg (fun x => (x + 1) % 2 ^ 32) hhead

/-- Settles O26. -/
theorem hostQueueRowsComplete : Obligations.HostQueueRowsComplete := by
  intro s q wf _
  refine ⟨fun v hen hv hlo hhi hbase hwb => hqCtrlWrite_on_row wf hen hv hlo hhi hbase hwb, fun v hen hv => hqCtrlWrite_off_row wf hen hv,
    fun v hen hroom => ?_, fun v hen hover => ?_, fun desc data ok hq hactive hne hbad => malformed_row wf hq hactive hne hbad data ok,
    fun desc data ok hq hactive hne => notify_row hq hactive hne desc data ok⟩
  · change execHqTailWrite q v s = _
    rw [execHqTailWrite, if_neg (by simp [hen]), if_neg (by omega)]
  · change execHqTailWrite q v s = _
    rw [execHqTailWrite, if_neg (by simp [hen]), if_pos hover]

end Sys2Proof.Machine
end

section
/-!
The rows of the Ethernet ports (O27).
-/

namespace Sys2Proof.Machine

variable {key : Nat} {s0 s : State}

/-! ## Time that passes leaves the registers -/

theorem regs_reach (s : State) (m : Nat) : (s.reach m).regs = s.regs := (State.reach_frame rfl (Frame.refl 0x40080000 s) m).of .regs rfl

theorem eth_reach (s : State) (m : Nat) : (s.reach m).eth = s.eth := (State.reach_frame rfl (Frame.refl 0x40080000 s) m).of .eth rfl

theorem lt_of_mem_classes {c : Nat} (h : c ∈ classes) : c < 8 := by
  revert c
  decide

namespace Leaves

theorem reach (h : Leaves key s0 s) (m : Nat) : Leaves key s0 (s.reach m) := h.same (State.reach_keeps (Keeps.refl s) m) (regs_reach s m)

theorem putEth (h : Leaves key s0 s) (x : EthState) : Leaves key s0 (s.putEth x) := h.same (State.putEth_keeps (Keeps.refl s) x) rfl

theorem setEthPort (h : Leaves key s0 s) (e : Nat) (x : EthPortState) : Leaves key s0 (Machine.setEthPort s e x) := h.putEth _

theorem accrueClass (h : Leaves key s0 s) (e c : Nat) (hk : R.SHP_STAT e c ≠ key) : Leaves key s0 (Machine.accrueClass s e c) := by
  unfold Machine.accrueClass
  refine ite h (Leaves.set (h.putEth _) _ _ hk)

theorem accrue (h : Leaves key s0 s) (e : Nat) (hk : ∀ c < 8, R.SHP_STAT e c ≠ key) : Leaves key s0 (Machine.accrue s e) :=
  h.fold fun _ _ hc hu => hu.accrueClass e _ (hk _ (lt_of_mem_classes hc))

theorem putEgress (h : Leaves key s0 s) (e c : Nat) (l : List Nat) : Leaves key s0 (Machine.putEgress s e c l) := h.putSched _

end Leaves

/-! ## A port's state -/

theorem ethPort_congr {u : State} (h : u.eth = s.eth) (e : Nat) : ethPort u e = ethPort s e := by rw [ethPort, h]; rfl

theorem ethPort_setEthPort (s : State) (e : Nat) (x : EthPortState) : ethPort (setEthPort s e x) e = x := by
  rw [ethPort, setEthPort, State.putEth_eth, assocGet_assocSet_self]
  rfl

theorem eth_postEvent (s : State) (code : Nat) (fields : List (Nat × Nat × Nat)) : (postEvent code fields s).eth = s.eth :=
  (postEvent_frame rfl (Frame.refl 0x80840021 s) code fields).of .eth rfl

theorem ethPort_postEvent (s : State) (code : Nat) (fields : List (Nat × Nat × Nat)) (e : Nat) : ethPort (postEvent code fields s) e = ethPort s e :=
  ethPort_congr (eth_postEvent ..) e

theorem lt_of_ethPresent {p : Part} {e : Nat} (h : ethPresent p e = true) : e < 2 := by
  rw [ethPresent, Bool.and_eq_true] at h
  exact of_decide_eq_true h.1

theorem lt_of_ethUp {e : Nat} (h : ethUp s e = true) : e < 2 := by
  rw [ethUp, Bool.and_eq_true] at h
  exact lt_of_ethPresent h.1

/-! ## Ingress -/

theorem ingressOversize (e : Nat) {data : List Byte} (fcs : Bool) (latch delay : Nat) (hup : ethUp s e = true) (hlen : 1536 < data.length + 4) :
    exec (.ethIngressFrame e data fcs latch delay) s = .next (s.bump (R.ETH_CNT1_OVERSIZE e)) := by
  change execEthIngressFrame e data fcs latch delay s = _
  rw [execEthIngressFrame, if_neg (by simp [hup]; omega), if_pos hlen]

theorem ingressChecked (e : Nat) {data : List Byte} (latch delay : Nat) (hup : ethUp s e = true) (hlo : 64 ≤ data.length + 4) (hhi : data.length + 4 ≤ 1536) :
    exec (.ethIngressFrame e data false latch delay) s = .next (s.bump (R.ETH_CNT0_FCS_ERR e)) ∧
    exec (.ethIngressFrame e data true latch delay) s = .next (ingressFrame (s.elapse delay) e data
      (latch - (rxCorrection (s.get (R.ETH_STATUS_SPEED e)) + s.get (R.ETH_PTP_DLY_RX e))) s.now) := by
  have hshort : ¬(!ethUp s e || decide (data.length + 4 < 64)) = true := by simp [hup]; omega
  refine ⟨?_, ?_⟩
  · change execEthIngressFrame e data false latch delay s = _
    rw [execEthIngressFrame, if_neg hshort, if_neg (by omega)]
    rfl
  · change execEthIngressFrame e data true latch delay s = _
    rw [execEthIngressFrame, if_neg hshort, if_neg (by omega)]
    rfl

/-! ## The link -/

/-- The port's status as its link comes up. -/
def linkStatus (s : State) (e : Nat) : State :=
  ((s.set (R.ETH_STATUS_LINK e) 1).set (R.ETH_STATUS_SPEED e) (s.get (R.ETH_CTRL_SPEED e))).set (R.ETH_STATUS_PREEMPT_ACT e) 0

/-- The link is up and its verification starts where preemption is set, but no frame has started. -/
def portLinked (s : State) (e : Nat) : State :=
  let t := linkStatus s e
  let u := setEthPort t e { ethPort t e with attempts := 0, verifying := t.bit (R.ETH_CTRL_PREEMPT e) && decide (1 ≤ s.get (R.ETH_CTRL_SPEED e)) }
  postEvent 0x0C01 [(0, 1, e), (1, 1, s.get (R.ETH_CTRL_SPEED e)), (2, 1, u.get (R.ETH_STATUS_PREEMPT_ACT e))] u

theorem wf_linkStatus (wf : Memory.wf s = true) (e : Nat) : Memory.wf (linkStatus s e) = true := wf_set (wf_set (wf_set wf _ _) _ _) _ _

theorem linkStatus_row (wf : Memory.wf s = true) (e : Nat) : (linkStatus s e).get (R.ETH_STATUS_LINK e) = 1 ∧
    (linkStatus s e).get (R.ETH_STATUS_SPEED e) = s.get (R.ETH_CTRL_SPEED e) ∧ (linkStatus s e).get (R.ETH_STATUS_PREEMPT_ACT e) = 0 ∧
    (linkStatus s e).bit (R.ETH_CTRL_PREEMPT e) = s.bit (R.ETH_CTRL_PREEMPT e) := by
  have hkey : R.ETH_STATUS e ≠ R.ETH_CTRL e := by simp only [R.ETH_STATUS, R.ETH_CTRL]; omega
  have hspeed : s.get ⟨R.ETH_CTRL e, 29, 2⟩ < 4 := get_lt (s := s) (f := ⟨R.ETH_CTRL e, 29, 2⟩)
  unfold linkStatus
  simp [wf_regs wf, R.ETH_STATUS_LINK, R.ETH_STATUS_SPEED, R.ETH_STATUS_PREEMPT_ACT, R.ETH_CTRL_PREEMPT, R.ETH_CTRL_SPEED, hkey.symm]
  exact hspeed

theorem linkUp_row (wf : Memory.wf s = true) {e : Nat} (hpresent : ethPresent s.part e = true) (hen : s.bit (R.ETH_CTRL_EN e) = true)
    (hdown : s.bit (R.ETH_STATUS_LINK e) = false) :
    ∃ u t, exec (.ethPortLinkUp e) s = .next t ∧ t = startEgress u e ∧ u.get (R.ETH_STATUS_LINK e) = 1 ∧
      u.get (R.ETH_STATUS_SPEED e) = s.get (R.ETH_CTRL_SPEED e) ∧ u.get (R.ETH_STATUS_PREEMPT_ACT e) = 0 ∧
      (ethPort u e).verifying = (s.bit (R.ETH_CTRL_PREEMPT e) && decide (1 ≤ s.get (R.ETH_CTRL_SPEED e))) := by
  have hexec : exec (.ethPortLinkUp e) s = .next (startEgress (portLinked s e) e) := if_neg (by simp [hpresent, hen, hdown])
  have he := lt_of_ethPresent hpresent
  have hquiet : noisy (R.ETH_STATUS e) = false := noisy_eq_false (by unfold R.ETH_STATUS; omega)
  obtain ⟨hlink, hspeed, hact, hpreempt⟩ := linkStatus_row wf e
  have hregs (f : Fld) (hf : noisy f.key = false) : (portLinked s e).get f = (linkStatus s e).get f :=
    (((Leaves.refl f.key (linkStatus s e)).setEthPort e _).postEvent (by decide) _ hf).get (wf_linkStatus wf e)
  refine ⟨portLinked s e, _, hexec, rfl, (hregs (R.ETH_STATUS_LINK e) hquiet).trans hlink, (hregs (R.ETH_STATUS_SPEED e) hquiet).trans hspeed,
    (hregs (R.ETH_STATUS_PREEMPT_ACT e) hquiet).trans hact, ?_⟩
  rw [portLinked, ethPort_postEvent, ethPort_setEthPort, hpreempt]

theorem egressOf_congr {u : State} (h : u.sched = s.sched) (e c : Nat) : egressOf u e c = egressOf s e c := by rw [egressOf, h]; rfl

theorem egressOf_putEgress (s : State) {e c c' : Nat} (l : List Nat) :
    egressOf (putEgress s e c l) e c' = if c' = c then l else egressOf s e c' := by
  rw [egressOf, putEgress, State.putSched_sched]
  split
  next h => rw [h, assocGet_assocSet_self]; rfl
  next h => rw [assocGet_assocSet_of_ne (by omega)]; rfl

/-- One egress queue of a port that goes down is emptied. -/
def clearEgress (e : Nat) (s : State) (c : Nat) : State := if egressOf s e c = [] then s else putEgress s e c []

theorem egressOf_clearEgress (s : State) (e c c' : Nat) (h : egressOf s e c' = [] ∨ c' = c) : egressOf (clearEgress e s c) e c' = [] := by
  unfold clearEgress
  split
  next hempty => rcases h with h | rfl <;> assumption
  next =>
    rw [egressOf_putEgress]
    rcases h with h | rfl
    · rw [h, ite_self]
    · exact if_pos rfl

theorem egressOf_clearAll (e : Nat) {c : Nat} {l : List Nat} (h : egressOf s e c = [] ∨ c ∈ l) : egressOf (foldState (clearEgress e) s l) e c = [] := by
  induction l generalizing s with
  | nil => exact h.resolve_right List.not_mem_nil
  | cons a l ih =>
    refine ih ?_
    by_cases hmem : c ∈ l
    · exact Or.inr hmem
    · exact Or.inl (egressOf_clearEgress s e a c (h.imp_right fun hc => (List.mem_cons.mp hc).resolve_right hmem))

theorem sched_dropPort (s : State) (e : Nat) : (dropPort s e).sched = (foldState (clearEgress e) (accrue s e) classes).sched := by
  rw [dropPort, State.bumpBy, State.set_sched, setEthPort, State.putEth_sched, State.putEth_sched]
  rfl

theorem egressOf_dropPort (s : State) (e : Nat) {c : Nat} (hc : c < 8) : egressOf (dropPort s e) e c = [] := by
  have hmem : c ∈ classes := by
    have : ∀ k < 8, k ∈ classes := by decide
    exact this c hc
  rw [egressOf_congr (sched_dropPort s e)]
  exact egressOf_clearAll e (Or.inr hmem)

theorem ethPort_dropPort (s : State) (e : Nat) : ethPort (dropPort s e) e = { EthPortState.idle with startedAt := (ethPort s e).startedAt } := by
  rw [dropPort, ethPort, State.bumpBy, State.set_eth]
  exact ethPort_setEthPort ..

/-- The port is dropped and its status shows no link. -/
def portUnlinked (s : State) (e : Nat) : State := ((dropPort s e).set (R.ETH_STATUS_LINK e) 0).set (R.ETH_STATUS_PREEMPT_ACT e) 0

theorem linkDown_row (wf : Memory.wf s = true) {e : Nat} (cause : Nat) (hup : ethUp s e = true) :
    ∃ t, exec (.ethPortLinkDown e cause) s = .next t ∧ t.get (R.ETH_STATUS_LINK e) = 0 ∧ t.get (R.ETH_STATUS_PREEMPT_ACT e) = 0 ∧
      (ethPort t e).sending = none ∧ (ethPort t e).verifying = false ∧ ∀ c, c < 8 → egressOf t e c = [] := by
  have hexec : exec (.ethPortLinkDown e cause) s = .next (postEvent 0x0C02 [(0, 1, e), (1, 1, cause)] (portUnlinked s e)) := by
    change execEthPortLinkDown e cause s = _
    rw [execEthPortLinkDown, if_neg (by simp [hup]), portDown, portUnlinked]
  have he := lt_of_ethUp hup
  have hquiet : noisy (R.ETH_STATUS e) = false := noisy_eq_false (by unfold R.ETH_STATUS; omega)
  have hwd : Memory.wf (dropPort s e) = true := wf_keeps (dropPort_keeps (Keeps.refl s) e) wf
  have hw : Memory.wf (portUnlinked s e) = true := wf_set (wf_set hwd _ _) _ _
  have hlink : (portUnlinked s e).get (R.ETH_STATUS_LINK e) = 0 := by
    simp [wf_regs hwd, portUnlinked, R.ETH_STATUS_LINK, R.ETH_STATUS_PREEMPT_ACT]
  have hact : (portUnlinked s e).get (R.ETH_STATUS_PREEMPT_ACT e) = 0 := get_set_same (wf_regs (wf_set hwd _ _)) (by decide) 0
  have hport : ethPort (portUnlinked s e) e = { EthPortState.idle with startedAt := (ethPort s e).startedAt } := by
    rw [portUnlinked, ethPort_congr (State.set_eth ..), ethPort_congr (State.set_eth ..), ethPort_dropPort]
  refine ⟨_, hexec, ?_, ?_, ?_, ?_, fun c hc => ?_⟩
  · exact (get_postEvent hw (by decide) _ (R.ETH_STATUS_LINK e) hquiet).trans hlink
  · exact (get_postEvent hw (by decide) _ (R.ETH_STATUS_PREEMPT_ACT e) hquiet).trans hact
  · rw [ethPort_postEvent, hport]; rfl
  · rw [ethPort_postEvent, hport]; rfl
  · rw [egressOf_congr (sched_postEvent (portUnlinked s e) _ _), portUnlinked, egressOf_congr (State.set_sched _ _ _),
      egressOf_congr (State.set_sched _ _ _), egressOf_dropPort s e hc]

/-! ## Verification and reassembly -/

theorem verifyAgain_row {e : Nat} (hup : ethUp s e = true) (hver : (ethPort s e).verifying = true) (hmore : (ethPort s e).attempts + 1 < 3) :
    exec (.preemptVerifyTimeout e) s = .next (setEthPort s e { ethPort s e with attempts := (ethPort s e).attempts + 1 }) := by
  change execPreemptVerifyTimeout e s = _
  rw [execPreemptVerifyTimeout]
  dsimp only
  rw [if_neg (by simp [hup, hver]), if_pos hmore]

theorem verifyFails_row (wf : Memory.wf s = true) {e : Nat} (hup : ethUp s e = true) (hver : (ethPort s e).verifying = true)
    (hlast : 3 ≤ (ethPort s e).attempts + 1) :
    ∃ t, exec (.preemptVerifyTimeout e) s = .next t ∧ (ethPort t e).verifying = false ∧
      t.get (R.ETH_CNT2_PREEMPT_FAIL e) = min (2 ^ (R.ETH_CNT2_PREEMPT_FAIL e).width - 1) (s.get (R.ETH_CNT2_PREEMPT_FAIL e) + 1) := by
  have hexec : exec (.preemptVerifyTimeout e) s = .next (postEvent 0x0C03 [(0, 1, e)]
      ((setEthPort s e { ethPort s e with attempts := (ethPort s e).attempts + 1, verifying := false }).bump (R.ETH_CNT2_PREEMPT_FAIL e))) := by
    change execPreemptVerifyTimeout e s = _
    rw [execPreemptVerifyTimeout]
    dsimp only
    rw [if_neg (by simp [hup, hver]), if_neg (by omega)]
  have he := lt_of_ethUp hup
  have hquiet : noisy (R.ETH_CNT2 e) = false := noisy_eq_false (by unfold R.ETH_CNT2; omega)
  have hw : Memory.wf (setEthPort s e { ethPort s e with attempts := (ethPort s e).attempts + 1, verifying := false }) = true :=
    wf_keeps (setEthPort_keeps (Keeps.refl s) e _) wf
  refine ⟨_, hexec, ?_, ?_⟩
  · rw [ethPort_postEvent]
    exact congrArg EthPortState.verifying (ethPort_setEthPort ..)
  · refine (get_postEvent (wf_bump hw _) (by decide) _ (R.ETH_CNT2_PREEMPT_FAIL e) hquiet).trans ?_
    refine (get_set_same (wf_regs hw) (by decide) _).trans (Nat.mod_eq_of_lt ?_)
    exact Nat.lt_of_le_of_lt (Nat.min_le_left _ _) (by decide : 2 ^ 16 - 1 < 2 ^ 16)

theorem verifyAnswered_row {e : Nat} (hup : ethUp s e = true) (hver : (ethPort s e).verifying = true) :
    exec (.preemptVerifyResponse e) s =
      .next (startEgress ((setEthPort s e { ethPort s e with verifying := false }).set (R.ETH_STATUS_PREEMPT_ACT e) 1) e) :=
  if_neg (by simp [hup, hver])

theorem find_freeContext (l : List Reassembly) (node tag size : Nat) :
    (l.filter fun x => !contextIs node tag size x).find? (contextIs node tag size) = none := by
  rw [List.find?_eq_none]
  intro x hx
  simpa using (List.mem_filter.mp hx).2

theorem reassemblyTimeout_row (wf : Memory.wf s = true) {node tag size : Nat} {x : Reassembly}
    (hx : s.eth.contexts.find? (contextIs node tag size) = some x) :
    ∃ t, exec (.reassemblyTimeout node tag size) s = .next t ∧ t.eth.contexts.find? (contextIs node tag size) = none ∧
      t.get R.BR_CNT2_RS_TIMEOUT = min (2 ^ R.BR_CNT2_RS_TIMEOUT.width - 1) (s.get R.BR_CNT2_RS_TIMEOUT + 1) := by
  have hexec : exec (.reassemblyTimeout node tag size) s =
      .next ((freeContext (s.reach (x.started + s.get R.BR_CFG_RS_TMO * secondNs)) node tag size).bump R.BR_CNT2_RS_TIMEOUT) := by
    change execReassemblyTimeout node tag size s = _
    rw [execReassemblyTimeout, hx]
  have hleaves : Leaves R.BR_CNT2 s (freeContext (s.reach (x.started + s.get R.BR_CFG_RS_TMO * secondNs)) node tag size) :=
    (((Leaves.refl _ s).reach _).putEth _).set _ _ (by decide)
  refine ⟨_, hexec, find_freeContext _ node tag size, ?_⟩
  have hget : (freeContext (s.reach (x.started + s.get R.BR_CFG_RS_TMO * secondNs)) node tag size).get R.BR_CNT2_RS_TIMEOUT = s.get R.BR_CNT2_RS_TIMEOUT :=
    hleaves.get (f := R.BR_CNT2_RS_TIMEOUT) wf
  generalize freeContext _ node tag size = u at hleaves hget ⊢
  refine (get_set_same (wf_regs (wf_keeps hleaves.keeps wf)) (by decide) _).trans ?_
  rw [← hget]
  exact Nat.mod_eq_of_lt (Nat.lt_of_le_of_lt (Nat.min_le_left _ _) (by decide : 2 ^ 8 - 1 < 2 ^ 8))

/-! ## The end of an egress frame -/

/-- What the buckets leave of the port's side of the state: all but the credits. -/
theorem accrueClass_frames (s : State) (e c : Nat) : (accrueClass s e c).eth.frames = s.eth.frames ∧ (accrueClass s e c).eth.stamps = s.eth.stamps := by
  unfold accrueClass
  split
  · exact ⟨rfl, rfl⟩
  · exact ⟨rfl, rfl⟩

theorem accrue_frames (s : State) (e : Nat) : (accrue s e).eth.frames = s.eth.frames ∧ (accrue s e).eth.stamps = s.eth.stamps := by
  unfold accrue
  generalize classes = l
  induction l generalizing s with
  | nil => exact ⟨rfl, rfl⟩
  | cons c l ih =>
    obtain ⟨hframes, hstamps⟩ := ih (accrueClass s e c)
    obtain ⟨hframes', hstamps'⟩ := accrueClass_frames s e c
    exact ⟨hframes.trans hframes', hstamps.trans hstamps'⟩

/-- The buckets of the port at the end of its frame. -/
def egressAccrued (s : State) (e h : Nat) : State := accrue (s.reach ((ethPort s e).startedAt + wireTime s e ((egressLen s h).getD 0))) e

/-- The frame `h` asked for its timestamp (R402). -/
def stampWanted (s : State) (h : Nat) : Bool := match assocGet s.eth.frames h with | none => false | some f => f.stampWanted

/-- The frame is gone, and its timestamp has returned where it was asked for. -/
def frameDone (s : State) (e h latch : Nat) : State :=
  s.putEth { s.eth with frames := assocDel s.eth.frames h,
                        stamps := if stampWanted s h then
                          s.eth.stamps ++ [(h, latch + txCorrection (s.get (R.ETH_STATUS_SPEED e)) + s.get (R.ETH_PTP_DLY_TX e))] else s.eth.stamps }

theorem exec_ethEgressFrameDone {e h : Nat} (latch : Nat) (hsend : (ethPort s e).sending = some h) : exec (.ethEgressFrameDone e latch) s =
    .next (startEgress (setEthPort (frameDone (egressAccrued s e h) e h latch) e { ethPort s e with sending := none }) e) := by
  change execEthEgressFrameDone e latch s = _
  rw [execEthEgressFrameDone]
  dsimp only
  rw [hsend]
  rfl

theorem egressAccrued_row (wf : Memory.wf s = true) (e h : Nat) : (egressAccrued s e h).eth.frames = s.eth.frames ∧
    (egressAccrued s e h).eth.stamps = s.eth.stamps ∧ (egressAccrued s e h).get (R.ETH_STATUS_SPEED e) = s.get (R.ETH_STATUS_SPEED e) ∧
    (egressAccrued s e h).get (R.ETH_PTP_DLY_TX e) = s.get (R.ETH_PTP_DLY_TX e) := by
  have hleaves (f : Fld) (hk : ∀ c < 8, R.SHP_STAT e c ≠ f.key) : (egressAccrued s e h).get f = s.get f :=
    (((Leaves.refl f.key s).reach _).accrue e hk).get wf
  obtain ⟨hframes, hstamps⟩ := accrue_frames (s.reach ((ethPort s e).startedAt + wireTime s e ((egressLen s h).getD 0))) e
  rw [eth_reach] at hframes hstamps
  refine ⟨hframes, hstamps, hleaves (R.ETH_STATUS_SPEED e) fun c hc => ?_, hleaves (R.ETH_PTP_DLY_TX e) fun c hc => ?_⟩
  · simp only [R.SHP_STAT, R.ETH_STATUS_SPEED, R.ETH_STATUS]; omega
  · simp only [R.SHP_STAT, R.ETH_PTP_DLY_TX, R.ETH_PTP_DLY]; omega

theorem egressFrameDone_row (wf : Memory.wf s = true) {e h : Nat} (latch : Nat) (hsend : (ethPort s e).sending = some h) :
    ∃ u t, exec (.ethEgressFrameDone e latch) s = .next t ∧ t = startEgress u e ∧ (ethPort u e).sending = none ∧ assocGet u.eth.frames h = none ∧
      (∀ f, assocGet s.eth.frames h = some f → f.stampWanted = true → u.eth.stamps = s.eth.stamps ++
        [(h, latch + txCorrection (s.get (R.ETH_STATUS_SPEED e)) + s.get (R.ETH_PTP_DLY_TX e))]) := by
  obtain ⟨hframes, hstamps, hspeed, hdelay⟩ := egressAccrued_row wf e h
  refine ⟨_, _, exec_ethEgressFrameDone latch hsend, rfl, congrArg EthPortState.sending (ethPort_setEthPort ..), ?_, fun f hf hwant => ?_⟩
  · rw [setEthPort, State.putEth_eth, frameDone, State.putEth_eth]
    exact assocGet_assocDel _ h
  · have hwanted : stampWanted (egressAccrued s e h) h = true := by rw [stampWanted, hframes, hf]; exact hwant
    rw [setEthPort, State.putEth_eth, frameDone, State.putEth_eth, if_pos hwanted, hstamps, hspeed, hdelay]

/-- Settles O27. -/
theorem ethernetRowsComplete : Obligations.EthernetRowsComplete := by
  intro s e wf
  exact ⟨fun data fcs latch delay hup hlen => ingressOversize e fcs latch delay hup hlen,
    fun data latch delay hup hlo hhi => ingressChecked e latch delay hup hlo hhi,
    fun hpresent hen hdown => linkUp_row wf hpresent hen hdown, fun cause hup => linkDown_row wf cause hup,
    fun hup hver hmore => verifyAgain_row hup hver hmore, fun hup hver hlast => verifyFails_row wf hup hver hlast,
    fun hup hver => verifyAnswered_row hup hver, fun node tag size x hx => reassemblyTimeout_row wf hx,
    fun h latch _ hsend => egressFrameDone_row wf latch hsend⟩

end Sys2Proof.Machine
end

section
/-!
The rows of the timebase, the captures and the pulse outputs (O28).
-/

namespace Sys2Proof.Machine

variable {key : Nat} {s0 s t u : State}

/-! ## Steps that leave the clock's own value -/

/-- The timebase's value and its pending step stay; timers and outputs may move. -/
structure ClockKept (s t : State) : Prop where
  ns : t.tb.ns = s.tb.ns
  frac : t.tb.frac = s.tb.frac
  pendingStep : t.tb.pendingStep = s.tb.pendingStep

namespace ClockKept

theorem refl (s : State) : ClockKept s s := ⟨rfl, rfl, rfl⟩

theorem trans (h : ClockKept s t) (k : ClockKept t u) : ClockKept s u :=
  ⟨k.ns.trans h.ns, k.frac.trans h.frac, k.pendingStep.trans h.pendingStep⟩

theorem same (h : ClockKept s t) (k : u.tb = t.tb) : ClockKept s u := ⟨by rw [k, h.ns], by rw [k, h.frac], by rw [k, h.pendingStep]⟩

theorem set (h : ClockKept s t) (f : Fld) (v : Nat) : ClockKept s (t.set f v) := h.same rfl

theorem setWord (h : ClockKept s t) (key : Nat) (x : Word) : ClockKept s (t.setWord key x) := h.same rfl

theorem setTso (h : ClockKept s t) (n : Nat) (x : TsoState) : ClockKept s (t.setTso n x) := ⟨h.ns, h.frac, h.pendingStep⟩

theorem setGt (h : ClockKept s t) (n : Nat) (x : GtState) : ClockKept s (t.setGt n x) := ⟨h.ns, h.frac, h.pendingStep⟩

theorem ite {c : Prop} [Decidable c] (ht : ClockKept s t) (hu : ClockKept s u) : ClockKept s (if c then t else u) := by
  split
  · exact ht
  · exact hu

theorem fold {α : Type} {f : State → α → State} (hf : ∀ s u x, ClockKept s u → ClockKept s (f u x)) (h : ClockKept s t) (l : List α) :
    ClockKept s (foldState f t l) := by
  induction l generalizing t with
  | nil => exact h
  | cons x l ih => exact ih (hf s t x h)

theorem gtIrq (h : ClockKept s t) (n : Nat) : ClockKept s (Machine.gtIrq t n) :=
  h.same ((gtIrq_frame rfl (Frame.refl 0x800001 t) n).of .tb rfl)

theorem gtWrite (h : ClockKept s t) (n r v : Nat) : ClockKept s (Machine.gtWrite t n r v) := by
  unfold Machine.gtWrite
  refine ite ?_ (ite (h.set _ _) (ite ?_ (ite ?_ (ite ?_ (ite ?_ h)))))
  · exact (ClockKept.setGt (setWord (h.set _ _) _ _) _ _).gtIrq n
  · exact (set (h.setWord _ _) _ _).gtIrq n
  · exact ite (h.setGt _ _) (ite (setGt (set (h.set _ _) _ _) _ _) (setGt (h.set _ _) _ _))
  · exact ite (h.setGt _ _) (ite (set (set (h.setGt _ _) _ _) _ _) (set (h.setGt _ _) _ _))
  · exact (h.setWord _ _).gtIrq n

theorem gtApply (h : ClockKept s t) (l : List (Nat × Nat × Nat)) : ClockKept s (Machine.gtApply t l) := by
  unfold Machine.gtApply
  exact fold (fun _ _ w hu => hu.gtWrite w.1 w.2.1 w.2.2) h l

theorem timersApply (s : State) : ClockKept s (Machine.timersApply s) :=
  (show ClockKept s (s.putTb { s.tb with gtWrites := [] }) from ⟨rfl, rfl, rfl⟩).gtApply s.tb.gtWrites

theorem armTso (h : ClockKept s t) (n : Nat) (b : Bool) : ClockKept s (Machine.armTso t n b) := h.same rfl

theorem tsoPassed (h : ClockKept s t) (n : Nat) : ClockKept s (Machine.tsoPassed t n) := by
  unfold Machine.tsoPassed
  exact ite h (ite (set (h.setTso _ _) _ _) (armTso (h.set _ _) _ _))

end ClockKept

/-! ## Corrections -/

theorem tb_leaveBridged (s : State) : (leaveBridged s).tb = s.tb := (leaveBridged_frame rfl (Frame.refl 0x80840021 s)).of .tb rfl

namespace Leaves

theorem setQuality (h : Leaves key s0 s) (hquiet : noisy key = false) (hcode : R.TIME_QUALITY ≠ key) (herr : R.TIME_ERR ≠ key) (code err : Nat) :
    Leaves key s0 (Machine.setQuality s code err) := by
  unfold Machine.setQuality
  have hset := (h.set R.TIME_QUALITY_CODE code hcode).set R.TIME_ERR_ERR (min 0xFFFFFFFF err) herr
  exact ite hset (hset.postEvent (by decide) _ hquiet)

theorem leaveBridged (h : Leaves key s0 s) (hquiet : noisy key = false) (hcode : R.TIME_QUALITY ≠ key) (herr : R.TIME_ERR ≠ key) :
    Leaves key s0 (Machine.leaveBridged s) := by
  unfold Machine.leaveBridged
  exact ite (h.setQuality hquiet hcode herr _ _) h

end Leaves

/-- The increment is in force and the result is clear (R408). -/
def incrementSet (s : State) (inc : Nat) : State :=
  ((s.set R.TB_INC_HI_INT (inc / 2 ^ 32)).set R.TB_INC_LO_FRAC (inc % 2 ^ 32)).set R.TB_STATUS_RESULT 0

theorem tbInc_row (wf : Memory.wf s = true) {q : Requester} {v inc : Nat} (hinc : inc = v % 256 * 2 ^ 32 + s.tb.stagedInc) (hown : tbOwner s q = true)
    (hnear : ((inc : Int) - 0x200000000).natAbs * 1000000 ≤ 500 * 2 * 2 ^ 32) :
    ∃ t, exec (.tbIncCommit q v) s = .next t ∧ t.get R.TB_INC_LO_FRAC = inc % 2 ^ 32 ∧
      t.get R.TB_INC_HI_INT = inc / 2 ^ 32 % 2 ^ R.TB_INC_HI_INT.width ∧ t.get R.TB_STATUS_RESULT = 0 ∧ t.tb = s.tb := by
  have hexec : exec (.tbIncCommit q v) s = .next (leaveBridged (incrementSet s inc)) := by
    change execTbIncCommit q v s = _
    rw [execTbIncCommit, ← hinc]
    dsimp only
    rw [if_neg (by simp [hown]), if_neg (by omega)]
    rfl
  have hw : Memory.wf (incrementSet s inc) = true := wf_set (wf_set (wf_set wf _ _) _ _) _ _
  have hleaves (f : Fld) (hquiet : noisy f.key = false) (hcode : R.TIME_QUALITY ≠ f.key) (herr : R.TIME_ERR ≠ f.key) :
      (leaveBridged (incrementSet s inc)).get f = (incrementSet s inc).get f := ((Leaves.refl f.key _).leaveBridged hquiet hcode herr).get hw
  refine ⟨_, hexec, (hleaves R.TB_INC_LO_FRAC (by decide) (by decide) (by decide)).trans ?_,
    (hleaves R.TB_INC_HI_INT (by decide) (by decide) (by decide)).trans ?_,
    (hleaves R.TB_STATUS_RESULT (by decide) (by decide) (by decide)).trans ?_, tb_leaveBridged _⟩
  all_goals unfold incrementSet
  all_goals simp [wf_regs wf, R.TB_INC_LO_FRAC, R.TB_INC_HI_INT, R.TB_STATUS_RESULT, R.TB_INC_LO, R.TB_INC_HI, R.TB_STATUS]

theorem tbInc_refused_row {q : Requester} {v inc : Nat} (hinc : inc = v % 256 * 2 ^ 32 + s.tb.stagedInc) (hown : tbOwner s q = true)
    (hfar : 500 * 2 * 2 ^ 32 < ((inc : Int) - 0x200000000).natAbs * 1000000) :
    exec (.tbIncCommit q v) s = .next ((s.set R.TB_STATUS_RESULT 3).bump R.TB_CNT_REFUSED) := by
  change execTbIncCommit q v s = _
  rw [execTbIncCommit, ← hinc]
  dsimp only
  rw [if_neg (by simp [hown]), if_pos hfar]
  rfl

theorem tbStep_pending_row (wf : Memory.wf s = true) {q : Requester} {v : Nat} {x : Int} (hx : x = signedOf 64 (v * 2 ^ 32 + s.tb.stagedStep))
    (hown : tbOwner s q = true) (hnone : s.tb.pendingStep = none) (hrun : s.bit R.PSM_STATUS_RUN = true)
    (hsmall : x.natAbs ≤ s.get R.TB_CTRL_STEP_MAX * 1000) :
    ∃ t, exec (.tbStepCommit q v) s = .next t ∧ t.tb = { s.tb with pendingStep := some x } ∧ t.get R.TB_STATUS_PENDING = 1 := by
  refine ⟨(s.putTb { s.tb with pendingStep := some x }).setBit R.TB_STATUS_PENDING true, ?_, rfl, ?_⟩
  · change execTbStepCommit q v s = _
    rw [execTbStepCommit, ← hx]
    dsimp only
    rw [if_neg (by simp [hown]), if_neg (by simp [hsmall]), if_neg (by simp [hnone]), if_pos hrun]
  · exact get_set_same (s := s.putTb _) (wf_regs wf) (by decide) 1

/-- The step has moved the clock and is counted (R409). -/
def stepTaken (s : State) (x : Int) : State :=
  ((s.putTb { s.tb with ns := BitVec.ofNat 64 (toField 64 ((s.tbNs : Int) + x)) }).bumpWrap R.TB_STATUS_STEPS).set R.TB_STATUS_RESULT 0

theorem clockKept_applyStep (s : State) (x : Int) : ClockKept (stepTaken s x) (applyStep s x) := by
  have hposted : (postEvent 0x0D01 [(0, 8, toField 64 x), (8, 1, natBits ((stepTaken s x).get R.TB_STATUS_STEPS) 0 4)] (stepTaken s x)).tb =
      (stepTaken s x).tb := (postEvent_frame rfl (Frame.refl 0x80840021 _) _ _).of .tb rfl
  exact ((ClockKept.refl _).same ((tb_leaveBridged _).trans hposted)).fold (f := tsoPassed) (fun _ _ n hu => hu.tsoPassed n) [0, 1, 2, 3]

theorem tbStep_applied_row {q : Requester} {v : Nat} {x : Int} (hx : x = signedOf 64 (v * 2 ^ 32 + s.tb.stagedStep))
    (hown : tbOwner s q = true) (hnone : s.tb.pendingStep = none) (hrun : s.bit R.PSM_STATUS_RUN = false) :
    ∃ t, exec (.tbStepCommit q v) s = .next t ∧ t.tb.ns = BitVec.ofNat 64 (toField 64 ((s.tbNs : Int) + x)) ∧ t.tb.pendingStep = none := by
  refine ⟨applyStep s x, ?_, (clockKept_applyStep s x).ns, (clockKept_applyStep s x).pendingStep.trans hnone⟩
  change execTbStepCommit q v s = _
  rw [execTbStepCommit, ← hx]
  dsimp only
  rw [if_neg (by simp [hown]), if_neg (by simp [hrun]), if_neg (by simp [hnone]), if_neg (by simp [hrun])]

theorem servoQuality_code_le (s : State) : (servoQuality s).1 ≤ 2 := by
  unfold servoQuality
  split
  · exact Nat.zero_le 2
  · exact Nat.le_succ 1
  · exact Nat.le_succ 1
  · exact Nat.le_refl 2

theorem get_setQuality (wf : Memory.wf s = true) {code : Nat} (hcode : code < 16) (err : Nat) : (setQuality s code err).get R.TIME_QUALITY_CODE = code := by
  have hset : ((s.set R.TIME_QUALITY_CODE code).set R.TIME_ERR_ERR (min 0xFFFFFFFF err)).get R.TIME_QUALITY_CODE = code := by
    simp [wf_regs wf, R.TIME_QUALITY_CODE, R.TIME_ERR_ERR, R.TIME_QUALITY, R.TIME_ERR]
    exact hcode
  unfold setQuality
  extract_lets old s1
  split
  · exact hset
  · exact (get_postEvent (wf_set (wf_set wf _ _) _ _) (by decide) _ R.TIME_QUALITY_CODE (by decide)).trans hset

theorem tbServo_row (wf : Memory.wf s = true) {q : Requester} (v : Nat) (hown : tbOwner s q = true) (hplain : bridged s = false) :
    ∃ t, exec (.tbServoWrite q v) s = .next t ∧ t.word R.TB_SERVO = BitVec.ofNat 32 v ∧
      t.get R.TIME_QUALITY_CODE = (servoQuality (s.setWord R.TB_SERVO (BitVec.ofNat 32 v))).1 := by
  have hexec : exec (.tbServoWrite q v) s = execTbServoWrite q v s := rfl
  rw [execTbServoWrite, if_neg (by simp [hown])] at hexec
  dsimp only at hexec
  have hcode : (s.setWord R.TB_SERVO (BitVec.ofNat 32 v)).get R.TIME_QUALITY_CODE = s.get R.TIME_QUALITY_CODE :=
    get_setWord_other (wf_regs wf) (by decide) _ _ _
  have hb : bridged (s.setWord R.TB_SERVO (BitVec.ofNat 32 v)) = false := by rw [bridged, hcode]; exact hplain
  have hword : (s.setWord R.TB_SERVO (BitVec.ofNat 32 v)).word R.TB_SERVO = BitVec.ofNat 32 v :=
    (word_setWord wf _ _ _).trans (if_pos rfl)
  have hw : Memory.wf (s.setWord R.TB_SERVO (BitVec.ofNat 32 v)) = true := wf_setWord wf _ _
  generalize s.setWord R.TB_SERVO (BitVec.ofNat 32 v) = u at hexec hb hword hw ⊢
  rw [if_neg (by simp [hb])] at hexec
  by_cases hholds : (servoQuality u).1 = 2 ∧ u.get R.TIME_QUALITY_CODE = 2
  · rw [if_pos hholds] at hexec
    exact ⟨u, hexec, hword, hholds.2.trans hholds.1.symm⟩
  · rw [if_neg hholds] at hexec
    refine ⟨_, hexec, ?_, get_setQuality hw (by have := servoQuality_code_le u; omega) _⟩
    exact (((Leaves.refl R.TB_SERVO u).setQuality (by decide) (by decide) (by decide) _ _).word hw).trans hword

theorem tb_notOwner_row {q : Requester} {v : Nat} {row : Instr} (hrow : row ∈ [Instr.tbIncCommit q v, .tbStepCommit q v, .tbServoWrite q v])
    (hown : tbOwner s q = false) : exec row s = .next ((s.set R.TB_STATUS_RESULT 2).bump R.TB_CNT_NOT_OWNER) := by
  have hnot : (!tbOwner s q) = true := by rw [hown]; rfl
  simp only [List.mem_cons, List.not_mem_nil, or_false] at hrow
  rcases hrow with rfl | rfl | rfl
  · exact if_pos hnot
  · exact if_pos hnot
  · exact if_pos hnot

/-! ## Reads that capture -/

theorem snapsOf_setSnaps (s : State) (q : Requester) (x : Snapshots) : (s.setSnaps q x).snapsOf q = x := by
  rw [State.snapsOf, State.setSnaps, assocGet_assocSet_self]
  rfl

theorem tbNsLoRead_row (s : State) (q : Requester) : ∃ t, exec (.tbNsLoRead q) s = .next t ∧ assocGet t.reply q.bank = some (s.tbNs % 2 ^ 32) ∧
    (t.snapsOf q).tbHi = some (s.tbNs / 2 ^ 32) ∧ (t.snapsOf q).tbFrac = some s.tb.frac.toNat ∧ t.regs = (timersApply s).regs := by
  have hclock := ClockKept.timersApply s
  have hexec : exec (.tbNsLoRead q) s = .next (((timersApply s).setSnaps q { (timersApply s).snapsOf q with
    tbHi := some ((timersApply s).tbNs / 2 ^ 32), tbFrac := some (timersApply s).tb.frac.toNat }).answer q ((timersApply s).tbNs % 2 ^ 32)) := rfl
  have hns : (timersApply s).tbNs = s.tbNs := congrArg BitVec.toNat hclock.ns
  rw [hns, hclock.frac] at hexec
  generalize timersApply s = u at hexec
  refine ⟨_, hexec, assocGet_assocSet_self .., ?_, ?_, rfl⟩
  · exact congrArg Snapshots.tbHi (snapsOf_setSnaps ..)
  · exact congrArg Snapshots.tbFrac (snapsOf_setSnaps ..)

theorem asnLoRead_row (s : State) (q : Requester) : ∃ t, exec (.asnLoRead q) s = .next t ∧ assocGet t.reply q.bank = some (s.asnNat % 2 ^ 32) ∧
    (t.snapsOf q).asnHi = some (s.asnNat / 2 ^ 32) ∧ t.regs = s.regs := by
  refine ⟨_, rfl, assocGet_assocSet_self .., ?_, rfl⟩
  exact congrArg Snapshots.asnHi (snapsOf_setSnaps ..)

end Sys2Proof.Machine
end

section
/-!
The rows of the captures and the pulse outputs (O28).
-/

namespace Sys2Proof.Machine

variable {s : State}

/-! ## Captures (R415) -/

/-- The value that the input latches: the timebase less the delay of the input. -/
def latchedValue (s : State) (n : Nat) : Nat :=
  toField 96 ((tbValue s : Int) - (9 * 2 ^ 32 + realDiv 40 (s.get (R.TSI_CTRL_DLY n) * 2 ^ 32) 10))

/-- The moment of the edge is noted. -/
def edgeNoted (s : State) (n : Nat) : State := s.putTb { s.tb with tsiLast := assocSet s.tb.tsiLast n s.now }

/-- The edge at the present moment is captured with the value `v`. -/
def edgeCaptured (s : State) (n v : Nat) : State :=
  ((((edgeNoted s n).set (R.TSI_NS_LO_NS n) (v / 2 ^ 32)).set (R.TSI_NS_HI_NS n) (v / 2 ^ 64)).set (R.TSI_FRAC_FRAC n) v).bumpWrap
    (R.TSI_STAT_CAPTURES n)

/-- Carrying the timebase to a moment moves the clock alone, if anything. -/
theorem advanceTo_cases (s : State) (time : Nat) :
    s.advanceTo time = s ∨ ∃ d x, s.advanceTo time = (s.later d).putTb { s.tb with ns := x, frac := 0#32 } := by
  by_cases h : 0 < signedOf 64 (time + 2 ^ 64 - s.tbNs)
  · exact Or.inr ⟨_, _, if_pos h⟩
  · exact Or.inl (if_neg h)

theorem tsiLast_advanceTo (s : State) (time : Nat) : (s.advanceTo time).tb.tsiLast = s.tb.tsiLast := by
  rcases advanceTo_cases s time with h | ⟨d, x, h⟩
  · rw [h]
  · rw [h, State.putTb_tb]

theorem tso_advanceTo (s : State) (time n : Nat) : (s.advanceTo time).tso n = s.tso n := by
  rcases advanceTo_cases s time with h | ⟨d, x, h⟩
  · rw [h]
  · rw [h, State.tso, State.putTb_tb, State.tso]

theorem regs_advanceTo (s : State) (time : Nat) : (s.advanceTo time).regs = s.regs :=
  (State.advanceTo_frame rfl (Frame.refl 0x40080000 s) time).of .regs rfl

theorem get_advanceTo (s : State) (time : Nat) (f : Fld) : (s.advanceTo time).get f = s.get f := by
  rw [get_eq_word, get_eq_word, State.word, regs_advanceTo]
  rfl

theorem get_edgeCaptured (wf : Memory.wf s = true) (n v : Nat) :
    (edgeCaptured s n v).get (R.TSI_STAT_CAPTURES n) = (s.get (R.TSI_STAT_CAPTURES n) + 1) % 2 ^ (R.TSI_STAT_CAPTURES n).width := by
  have hkeys : R.TSI_NS_LO n ≠ R.TSI_STAT n ∧ R.TSI_NS_HI n ≠ R.TSI_STAT n ∧ R.TSI_FRAC n ≠ R.TSI_STAT n := by
    simp only [R.TSI_NS_LO, R.TSI_NS_HI, R.TSI_FRAC, R.TSI_STAT]; omega
  obtain ⟨hlo, hhi, hfrac⟩ := hkeys
  have hnoted : Leaves (R.TSI_STAT n) s (edgeNoted s n) := (Leaves.refl _ s).same (State.putTb_keeps (Keeps.refl s) _) rfl
  have hleaves := ((hnoted.set (R.TSI_NS_LO_NS n) (v / 2 ^ 32) hlo).set (R.TSI_NS_HI_NS n) (v / 2 ^ 64) hhi).set (R.TSI_FRAC_FRAC n) v hfrac
  refine (get_set_same (wf_regs (wf_keeps hleaves.keeps wf)) (by decide) _).trans ?_
  exact congrArg (fun x => (x + 1) % 2 ^ 16) (hleaves.get (f := R.TSI_STAT_CAPTURES n) wf)

theorem wf_edgeCaptured (wf : Memory.wf s = true) (n v : Nat) : Memory.wf (edgeCaptured s n v) = true := by
  have hnoted : Memory.wf (edgeNoted s n) = true := wf_keeps (State.putTb_keeps (Keeps.refl s) _) wf
  unfold edgeCaptured State.bumpWrap
  exact wf_set (wf_set (wf_set (wf_set hnoted _ _) _ _) _ _) _ _

theorem tsiLast_edgeCaptured (s : State) (n v : Nat) : assocGet (edgeCaptured s n v).tb.tsiLast n = some (edgeCaptured s n v).now := by
  rw [edgeCaptured, State.bumpWrap_tb, State.bumpWrap_now, State.set_tb, State.set_tb, State.set_tb, State.set_now, State.set_now, State.set_now, edgeNoted,
    State.putTb_tb, State.putTb_now, assocGet_assocSet_self]

theorem exec_tsInputEdge {n : Nat} {rising : Bool} {width : Nat} (time : Nat) (hen : s.bit (R.TSI_CTRL_EN n) = true) (hrun : s.tb.running = true)
    (hwidth : 8 ≤ width) (hedge : edgeSelected (s.get (R.TSI_CTRL_EDGE n)) rising = true) (hfirst : assocGet s.tb.tsiLast n = none) :
    ∃ v, exec (.tsInputEdge n rising width time) s =
      .next (postEvent 0x0D03 [(0, 1, n), (4, 2, v / 2 ^ 16), (8, 8, v / 2 ^ 32)] (edgeCaptured (s.advanceTo time) n v)) := by
  refine ⟨latchedValue (edgeNoted (s.advanceTo time) n) n, ?_⟩
  have hkept := tsiLast_advanceTo s time
  change execTsInputEdge n rising width time s = _
  rw [execTsInputEdge, if_neg (by simp [hen, hrun, hwidth, hedge])]
  generalize s.advanceTo time = u at hkept ⊢
  dsimp only
  rw [hkept, hfirst]
  dsimp only
  rw [if_neg Bool.false_ne_true, edgeCaptured, latchedValue, edgeNoted, hkept]

theorem tsInputEdge_row (wf : Memory.wf s = true) {n : Nat} {rising : Bool} {width : Nat} (time : Nat) (hn : n < 4) (hen : s.bit (R.TSI_CTRL_EN n) = true)
    (hrun : s.tb.running = true) (hwidth : 8 ≤ width) (hedge : edgeSelected (s.get (R.TSI_CTRL_EDGE n)) rising = true)
    (hfirst : assocGet s.tb.tsiLast n = none) :
    ∃ t, exec (.tsInputEdge n rising width time) s = .next t ∧ assocGet t.tb.tsiLast n = some t.now ∧
      t.get (R.TSI_STAT_CAPTURES n) = (s.get (R.TSI_STAT_CAPTURES n) + 1) % 2 ^ (R.TSI_STAT_CAPTURES n).width := by
  have hw : Memory.wf (s.advanceTo time) = true := wf_keeps (State.advanceTo_keeps (Keeps.refl s) time) wf
  have hget := get_advanceTo s time (R.TSI_STAT_CAPTURES n)
  obtain ⟨v, hexec⟩ := exec_tsInputEdge time hen hrun hwidth hedge hfirst
  generalize s.advanceTo time = u at hw hget hexec
  have hframe := postEvent_frame rfl (Frame.refl 0x80840021 (edgeCaptured u n v)) 0x0D03 [(0, 1, n), (4, 2, v / 2 ^ 16), (8, 8, v / 2 ^ 32)]
  refine ⟨_, hexec, ?_, ?_⟩
  · rw [hframe.of .tb rfl, hframe.of .now rfl]
    exact tsiLast_edgeCaptured u n v
  · rw [← hget]
    exact (get_postEvent (wf_edgeCaptured hw n v) (by decide) _ (R.TSI_STAT_CAPTURES n) (noisy_eq_false (by simp only [R.TSI_STAT_CAPTURES, R.TSI_STAT]; omega))).trans
      (get_edgeCaptured hw n v)

theorem tsInputEdge_dropped_row {n : Nat} {rising : Bool} {width time last : Nat} (hen : s.bit (R.TSI_CTRL_EN n) = true) (hrun : s.tb.running = true)
    (hwidth : 8 ≤ width) (hedge : edgeSelected (s.get (R.TSI_CTRL_EDGE n)) rising = true) (hlast : assocGet s.tb.tsiLast n = some last)
    (hearly : (s.advanceTo time).now < last + 1000) :
    exec (.tsInputEdge n rising width time) s = .next ((s.advanceTo time).bump (R.TSI_STAT_IN_DROP n)) := by
  have hkept := tsiLast_advanceTo s time
  change execTsInputEdge n rising width time s = _
  rw [execTsInputEdge, if_neg (by simp [hen, hrun, hwidth, hedge])]
  generalize s.advanceTo time = u at hearly hkept ⊢
  dsimp only
  rw [hkept, hlast]
  exact if_pos (decide_eq_true hearly)

end Sys2Proof.Machine
end

section
/-!
The rows of the pulse outputs (O28).
-/

namespace Sys2Proof.Machine

variable {s : State}

/-! ## Pulse outputs (R416, R417) -/

/-- The settings of TSO_CTRL beside EN are written. -/
def tsoFields (s : State) (n v : Nat) : State := (s.set (R.TSO_CTRL_MODE n) (natBits v 30 1)).set (R.TSO_CTRL_POL n) (natBits v 29 1)

theorem wf_tsoFields (wf : Memory.wf s = true) (n v : Nat) : Memory.wf (tsoFields s n v) = true := wf_set (wf_set wf _ _) _ _

theorem tso_setTso (s : State) (n : Nat) (x : TsoState) : (s.setTso n x).tso n = x := by
  rw [State.tso, State.setTso, State.putTb_tb, assocGet_assocSet_self]
  rfl

theorem armTso_row (wf : Memory.wf s = true) (n : Nat) (b : Bool) : (armTso s n b).get (R.TSO_CTRL_EN n) = boolNat b ∧
    (armTso s n b).get (R.TSO_CTRL_MODE n) = s.get (R.TSO_CTRL_MODE n) ∧ (armTso s n b).get (R.TSO_STAT_BAD_CFG n) = s.get (R.TSO_STAT_BAD_CFG n) := by
  have hkey : R.TSO_CTRL n ≠ R.TSO_STAT n := by simp only [R.TSO_CTRL, R.TSO_STAT]; omega
  unfold armTso
  simp [wf_regs wf, R.TSO_CTRL_EN, R.TSO_CTRL_MODE, R.TSO_STAT_ACTIVE, R.TSO_STAT_BAD_CFG, hkey, hkey.symm]
  exact boolNat_le b

theorem tso_armTso (s : State) (n k : Nat) (b : Bool) : (armTso s n b).tso k = s.tso k := by rw [armTso, State.setBit_tso, State.setBit_tso]

theorem now_armTso (s : State) (n : Nat) (b : Bool) : (armTso s n b).now = s.now := by rw [armTso, State.setBit_now, State.setBit_now]

theorem tsoCtrl_off_row (wf : Memory.wf s = true) (n : Nat) {v : Nat} (hv : natBit v 31 = false) :
    ∃ t, exec (.tsoCtrlWrite n v) s = .next t ∧ t.get (R.TSO_CTRL_EN n) = 0 ∧ (t.tso n).pulse = false ∧
      t.get (R.TSO_CTRL_MODE n) = natBits v 30 1 := by
  have hexec : exec (.tsoCtrlWrite n v) s =
      .next (armTso ((tsoFields s n v).setTso n { (tsoFields s n v).tso n with pulse := false }) n false) := if_pos (by rw [hv]; rfl)
  have hw : Memory.wf ((tsoFields s n v).setTso n { (tsoFields s n v).tso n with pulse := false }) = true :=
    wf_keeps (State.setTso_keeps (Keeps.refl _) _ _) (wf_tsoFields wf n v)
  obtain ⟨hen, hmode, -⟩ := armTso_row hw n false
  refine ⟨_, hexec, hen, by rw [tso_armTso, tso_setTso], hmode.trans ?_⟩
  rw [State.setTso_get, tsoFields]
  simp [wf_regs wf, R.TSO_CTRL_MODE, R.TSO_CTRL_POL]
  exact Nat.le_of_lt_succ (natBits_lt v 30 1)

theorem tsoCtrl_illegal_row (wf : Memory.wf s = true) {n v : Nat} (hv : natBit v 31 = true) (hbad : tsoLegal (tsoFields s n v) n = false) :
    ∃ t, exec (.tsoCtrlWrite n v) s = .next t ∧ t.get (R.TSO_CTRL_EN n) = 0 ∧ t.get (R.TSO_STAT_BAD_CFG n) = 1 := by
  have hexec : exec (.tsoCtrlWrite n v) s = .next (armTso (((tsoFields s n v).setBit (R.TSO_STAT_BAD_CFG n) true).setTso n
      { (tsoFields s n v).tso n with pulse := false }) n false) := by
    change execTsoCtrlWrite n v s = _
    rw [execTsoCtrlWrite]
    dsimp only
    rw [tsoFields] at hbad ⊢
    rw [if_neg (by simp [hv]), hbad, if_neg Bool.false_ne_true]
  have hw : Memory.wf (((tsoFields s n v).setBit (R.TSO_STAT_BAD_CFG n) true).setTso n { (tsoFields s n v).tso n with pulse := false }) = true :=
    wf_keeps (State.setTso_keeps (Keeps.refl _) _ _) (wf_set (wf_tsoFields wf n v) _ _)
  obtain ⟨hen, -, hcfg⟩ := armTso_row hw n false
  refine ⟨_, hexec, hen, hcfg.trans ?_⟩
  rw [State.setTso_get]
  exact get_set_same (wf_regs (wf_tsoFields wf n v)) (by decide) 1

theorem tsoCtrl_armed_row (wf : Memory.wf s = true) {n v : Nat} (hv : natBit v 31 = true) (hlegal : tsoLegal (tsoFields s n v) n = true) :
    ∃ u t, exec (.tsoCtrlWrite n v) s = .next t ∧ t = tsoPassed u n ∧ u.get (R.TSO_CTRL_EN n) = 1 ∧ (u.tso n).k = 0 ∧ u.now = s.now := by
  have hexec : exec (.tsoCtrlWrite n v) s =
      .next (tsoPassed (armTso ((tsoFields s n v).setTso n { (tsoFields s n v).tso n with k := 0 }) n true) n) := by
    change execTsoCtrlWrite n v s = _
    rw [execTsoCtrlWrite]
    dsimp only
    rw [tsoFields] at hlegal ⊢
    rw [if_neg (by simp [hv]), if_pos hlegal]
  have hw : Memory.wf ((tsoFields s n v).setTso n { (tsoFields s n v).tso n with k := 0 }) = true :=
    wf_keeps (State.setTso_keeps (Keeps.refl _) _ _) (wf_tsoFields wf n v)
  obtain ⟨hen, -, -⟩ := armTso_row hw n true
  refine ⟨_, _, hexec, rfl, hen, by rw [tso_armTso, tso_setTso], ?_⟩
  rw [now_armTso, State.setTso_now, tsoFields, State.set_now, State.set_now]

theorem target_tsoPassed (s : State) (n : Nat) : ((tsoPassed s n).tso n).target = (s.tso n).target := by
  unfold tsoPassed
  extract_lets d m
  split
  · rfl
  · split
    · rw [State.bumpBy, State.set_tso, tso_setTso]
    · rw [tso_armTso, State.setBit_tso]

theorem tsoTargetCommit_row (s : State) (n v : Nat) : ∃ t, exec (.tsoTargetCommit n v) s = .next t ∧
    (t.tso n).target = v % 2 ^ 32 * 2 ^ 32 + (s.tso n).stagedLo := by
  refine ⟨_, rfl, (target_tsoPassed _ n).trans ?_⟩
  rw [State.set_tso, State.set_tso, tso_setTso]

theorem tsoTargetReached_row (s : State) (n : Nat) (hen : s.bit (R.TSO_CTRL_EN n) = true) (hawaits : tsoAwaits s n = true) (hrun : s.tb.running = true)
    (hidle : (s.tso n).pulse = false) :
    ∃ t, exec (.tsoTargetReached n) s = .next t ∧ (t.tso n).pulse = true ∧ (t.tso n).k = (s.tso n).k + 1 ∧
      (t.tso n).ends = (tsoNext s n + s.get (R.TSO_WIDTH_WIDTH n)) % 2 ^ 64 ∧ t.regs = s.regs := by
  refine ⟨(s.advanceTo (tsoNext s n)).setTso n { s.tso n with
      pulse := true, k := (s.tso n).k + 1, ends := (tsoNext s n + s.get (R.TSO_WIDTH_WIDTH n)) % 2 ^ 64 }, ?_, ?_, ?_, ?_, ?_⟩
  · have hget := get_advanceTo s (tsoNext s n) (R.TSO_WIDTH_WIDTH n)
    have htso := tso_advanceTo s (tsoNext s n) n
    change execTsoTargetReached n s = _
    rw [execTsoTargetReached, if_pos (by simp [hen, hawaits, hrun, hidle])]
    dsimp only
    generalize s.advanceTo (tsoNext s n) = u at hget htso ⊢
    rw [hget, htso]
  · rw [tso_setTso]
  · rw [tso_setTso]
  · rw [tso_setTso]
  · rw [State.setTso_regs, regs_advanceTo]

theorem tsoPulseEnd_row (s : State) (n : Nat) (hpulse : (s.tso n).pulse = true) : ∃ t, exec (.tsoPulseEnd n) s = .next t ∧
    t.tso n = { s.tso n with pulse := false } ∧ t.regs = s.regs ∧ t.now = (s.advanceTo (s.tso n).ends).now := by
  refine ⟨(s.advanceTo (s.tso n).ends).setTso n { s.tso n with pulse := false }, ?_, tso_setTso .., ?_, ?_⟩
  · change execTsoPulseEnd n s = _
    rw [execTsoPulseEnd, if_pos hpulse]
  · rw [State.setTso_regs, regs_advanceTo]
  · rw [State.setTso_now]

/-- Settles O28. -/
theorem timeRowsComplete : Obligations.TimeRowsComplete := by
  refine ⟨fun s q wf => ⟨fun v inc hinc hown hnear => tbInc_row wf hinc hown hnear, fun v inc hinc hown hfar => tbInc_refused_row hinc hown hfar,
      fun v x hx hown hnone hrun hsmall => tbStep_pending_row wf hx hown hnone hrun hsmall,
      fun v x hx hown hnone hrun => tbStep_applied_row hx hown hnone hrun, fun v hown hplain => tbServo_row wf v hown hplain,
      fun v row hrow hown => tb_notOwner_row hrow hown, tbNsLoRead_row s q, asnLoRead_row s q, fun hrun hcode => ?_, fun ns hrun => ⟨?_, ?_⟩⟩,
    fun s n wf => ⟨fun rising width time hn hen hrun hwidth hedge hfirst => tsInputEdge_row wf time hn hen hrun hwidth hedge hfirst,
      fun rising width time last hen hrun hwidth hedge hlast hearly => tsInputEdge_dropped_row hen hrun hwidth hedge hlast hearly,
      fun v hv => tsoCtrl_off_row wf n hv, fun v hv hbad => tsoCtrl_illegal_row wf hv hbad, fun v hv hlegal => tsoCtrl_armed_row wf hv hlegal,
      fun v => tsoTargetCommit_row s n v, fun hen hawaits hrun hidle => tsoTargetReached_row s n hen hawaits hrun hidle,
      fun hpulse => tsoPulseEnd_row s n hpulse⟩⟩
  · exact if_pos (by simp [hrun, hcode])
  · exact if_pos hrun
  · exact if_pos hrun

end Sys2Proof.Machine
end

section
/-!
The rows of the general timers (O29).
-/

namespace Sys2Proof.Machine

variable {key : Nat} {s0 s : State}

/-! ## The shared operations of a timer, field by field -/

theorem gt_setGt (s : State) (n : Nat) (x : GtState) : (s.setGt n x).gt n = x := by
  rw [State.gt, State.setGt, State.putTb_tb, assocGet_assocSet_self]
  rfl

theorem tb_gtIrq (s : State) (n : Nat) : (gtIrq s n).tb = s.tb := (gtIrq_frame rfl (Frame.refl 0x800001 s) n).of .tb rfl

theorem gt_gtIrq (s : State) (n k : Nat) : (gtIrq s n).gt k = s.gt k := by rw [State.gt, tb_gtIrq, State.gt]

theorem wf_gtIrq (wf : Memory.wf s = true) (n : Nat) : Memory.wf (gtIrq s n) = true := wf_keeps (gtIrq_keeps (Keeps.refl s) n) wf

theorem get_gtIrq (wf : Memory.wf s = true) (n : Nat) (f : Fld) (hquiet : noisy f.key = false) : (gtIrq s n).get f = s.get f :=
  (aicLevel_quiet (Quiet.refl s) n _).get wf f hquiet

theorem Leaves.gtAct (h : Leaves key s0 s) (n : Nat) (hk : R.GT_STAT n ≠ key) : Leaves key s0 (Machine.gtAct s n) := by
  unfold Machine.gtAct
  extract_lets pol level
  split
  · exact h
  · exact h.setBit _ _ hk
  · exact h.setBit _ _ hk
  · exact h.setBit _ _ hk

/-- An action moves the output alone: the causes of GT_STAT below it stay. -/
theorem get_gtAct (wf : Memory.wf s = true) (n : Nat) {lo w : Nat} (hw : lo + w ≤ 30) : (gtAct s n).get ⟨R.GT_STAT n, lo, w⟩ = s.get ⟨R.GT_STAT n, lo, w⟩ := by
  have hout (b : Bool) : (s.setBit (R.GT_STAT_OUT n) b).get ⟨R.GT_STAT n, lo, w⟩ = s.get ⟨R.GT_STAT n, lo, w⟩ :=
    get_set_bits (wf_regs wf) (R.GT_STAT n) (by decide) (Or.inl hw) _
  unfold gtAct
  extract_lets pol level
  split
  · rfl
  · exact hout _
  · exact hout _
  · exact hout _

/-- A step of the count notes its match (R426). -/
def matchNoted (s : State) (n : Nat) : State := (s.set (R.GT_STAT_MATCH n) 1).bumpWrap (R.GT_ERR_MATCHES n)

/-- The output acts on a match where the mode asks for it. -/
def matchActed (s : State) (n : Nat) : State :=
  if (matchNoted s n).get (R.GT_CFG_MODE n) = 3 then gtAct (matchNoted s n) n else matchNoted s n

theorem gtMatched_of_match {n : Nat} (hen : s.bit (R.GT_CMPCFG_CMP_EN n) = true) (heq : gtPair s n R.GT_CNT_COUNT = gtPair s n R.GT_CMP_VALUE) :
    gtMatched s n =
      gtIrq ((matchActed s n).setGt n { (matchActed s n).gt n with clearNext := (matchActed s n).bit (R.GT_CMPCFG_CLR n) }) n := by
  rw [gtMatched, if_pos (by simp [hen, heq])]
  rfl

theorem wf_matchNoted (wf : Memory.wf s = true) (n : Nat) : Memory.wf (matchNoted s n) = true := wf_set (wf_set wf _ _) _ _

theorem Leaves.matchActed (h : Leaves key s0 s) (n : Nat) (hstat : R.GT_STAT n ≠ key) (herr : R.GT_ERR n ≠ key) :
    Leaves key s0 (Machine.matchActed s n) := by
  have hnoted : Leaves key s0 (matchNoted s n) := (h.set _ _ hstat).set _ _ herr
  unfold Machine.matchActed
  exact ite (hnoted.gtAct n hstat) hnoted

/-- The causes of GT_STAT and the counters of GT_ERR after a match. -/
theorem matchActed_row (wf : Memory.wf s = true) (n : Nat) : (matchActed s n).get (R.GT_STAT_MATCH n) = 1 ∧
    (matchActed s n).get (R.GT_STAT_WRAP n) = s.get (R.GT_STAT_WRAP n) ∧
    (matchActed s n).get (R.GT_ERR_MATCHES n) = (s.get (R.GT_ERR_MATCHES n) + 1) % 2 ^ (R.GT_ERR_MATCHES n).width := by
  have hkey : R.GT_STAT n ≠ R.GT_ERR n := by simp only [R.GT_STAT, R.GT_ERR]; omega
  have hnoted : (matchNoted s n).get (R.GT_STAT_MATCH n) = 1 ∧ (matchNoted s n).get (R.GT_STAT_WRAP n) = s.get (R.GT_STAT_WRAP n) ∧
      (matchNoted s n).get (R.GT_ERR_MATCHES n) = (s.get (R.GT_ERR_MATCHES n) + 1) % 2 ^ (R.GT_ERR_MATCHES n).width := by
    unfold matchNoted
    simp [wf_regs wf, R.GT_STAT_MATCH, R.GT_STAT_WRAP, R.GT_ERR_MATCHES, hkey, hkey.symm]
  obtain ⟨hmatch, hwrap, hcount⟩ := hnoted
  have hw := wf_matchNoted wf n
  unfold matchActed
  split
  · exact ⟨(get_gtAct hw n (by decide)).trans hmatch, (get_gtAct hw n (by decide)).trans hwrap,
      (((Leaves.refl (R.GT_ERR n) _).gtAct n hkey).get (f := R.GT_ERR_MATCHES n) hw).trans hcount⟩
  · exact ⟨hmatch, hwrap, hcount⟩

theorem tb_matchActed (s : State) (n : Nat) : (matchActed s n).tb = s.tb := by
  have hact (u : State) : (gtAct u n).tb = u.tb := (gtAct_frame rfl (Frame.refl 0x1 u) n).of .tb rfl
  have hnoted : (matchNoted s n).tb = s.tb := by rw [matchNoted, State.bumpWrap_tb, State.set_tb]
  unfold matchActed
  split
  · rw [hact, hnoted]
  · exact hnoted

theorem keeps_matchActed (s : State) (n : Nat) : Keeps s (matchActed s n) := by
  have hnoted : Keeps s (matchNoted s n) := State.bumpWrap_keeps (State.set_keeps (Keeps.refl s) _ _) _
  unfold matchActed
  split
  · exact gtAct_keeps hnoted n
  · exact hnoted

/-- A match leaves the wrap cause and the count. -/
theorem gtMatched_row (wf : Memory.wf s = true) {n : Nat} (hn : n < 32) :
    (gtMatched s n).get (R.GT_STAT_WRAP n) = s.get (R.GT_STAT_WRAP n) ∧ (gtMatched s n).get (R.GT_CNT_COUNT n) = s.get (R.GT_CNT_COUNT n) := by
  by_cases hmatch : (s.bit (R.GT_CMPCFG_CMP_EN n) && decide (gtPair s n R.GT_CNT_COUNT = gtPair s n R.GT_CMP_VALUE)) = true
  · rw [Bool.and_eq_true, decide_eq_true_eq] at hmatch
    have hw : Memory.wf (matchActed s n) = true := wf_keeps (keeps_matchActed s n) wf
    obtain ⟨-, hwrap, -⟩ := matchActed_row wf n
    have hcount : (matchActed s n).get (R.GT_CNT_COUNT n) = s.get (R.GT_CNT_COUNT n) :=
      ((Leaves.refl (R.GT_CNT n) s).matchActed n (by simp only [R.GT_STAT, R.GT_CNT]; omega) (by simp only [R.GT_ERR, R.GT_CNT]; omega)).get
        (f := R.GT_CNT_COUNT n) wf
    rw [gtMatched_of_match hmatch.1 hmatch.2]
    have hws (x : GtState) : Memory.wf ((matchActed s n).setGt n x) = true := wf_keeps (State.setGt_keeps (Keeps.refl _) n x) hw
    constructor
    · rw [get_gtIrq (hws _) n _ (noisy_eq_false (by simp only [R.GT_STAT_WRAP, R.GT_STAT]; omega)), State.setGt_get, hwrap]
    · rw [get_gtIrq (hws _) n _ (noisy_eq_false (by simp only [R.GT_CNT_COUNT, R.GT_CNT]; omega)), State.setGt_get, hcount]
  · have hsame : gtMatched s n = s := if_neg hmatch
    rw [hsame]
    exact ⟨rfl, rfl⟩

/-! ## The count -/

theorem Leaves.setGtPair (h : Leaves key s0 s) (n : Nat) (f : Nat → Fld) (v : Nat) (hf : ∀ k, (f k).key ≠ key) :
    Leaves key s0 (Machine.setGtPair s n f v) := by
  unfold Machine.setGtPair
  exact ite ((h.set _ _ (hf _)).set _ _ (hf _)) (h.set _ _ (hf _))

/-- The count reads as written in its low half. -/
theorem get_setGtPair (wf : Memory.wf s = true) (n : Nat) (a : Nat → Nat) (v : Nat) (hne : a n ≠ a (n + 1)) :
    (setGtPair s n (fun k => ⟨a k, 0, 32⟩) v).get ⟨a n, 0, 32⟩ = v % 2 ^ 32 := by
  unfold setGtPair
  split
  · refine (get_set_key (wf_regs (wf_set wf _ _)) hne ..).trans ?_
    rw [get_set_same (wf_regs wf) (by decide), Nat.mod_mod]
  · exact get_set_same (wf_regs wf) (by decide) v

theorem gtCnt_ne (n k : Nat) : R.GT_CNT n ≠ R.GT_CNT k ↔ n ≠ k := by simp only [R.GT_CNT]; omega

/-- The count is set to the compare value in force. -/
def countSet (s : State) (n v : Nat) : State := setGtPair (s.setGt n { s.gt n with clearNext := false }) n R.GT_CNT_COUNT v

theorem leaves_countSet (s : State) (n v : Nat) (hk : ∀ k, R.GT_CNT k ≠ key) : Leaves key s (countSet s n v) :=
  ((Leaves.refl key s).same (State.setGt_keeps (Keeps.refl s) n _) rfl).setGtPair n _ v hk

theorem gtLinked_congr {u : State} {n : Nat} (h : u.bit (R.GT_CFG_LINK n) = s.bit (R.GT_CFG_LINK n)) : gtLinked u n = gtLinked s n := by
  rw [gtLinked, h, gtLinked]

theorem gtPair_countSet (wf : Memory.wf s = true) (n : Nat) :
    gtPair (countSet s n (gtPair s n R.GT_CMP_VALUE)) n R.GT_CNT_COUNT = gtPair (countSet s n (gtPair s n R.GT_CMP_VALUE)) n R.GT_CMP_VALUE := by
  have hws : Memory.wf (s.setGt n { s.gt n with clearNext := false }) = true := wf_keeps (State.setGt_keeps (Keeps.refl s) n _) wf
  have hcmp (v k : Nat) : (countSet s n v).get (R.GT_CMP_VALUE k) = s.get (R.GT_CMP_VALUE k) :=
    (leaves_countSet s n v fun j => by simp only [R.GT_CMP_VALUE, R.GT_CMP, R.GT_CNT]; omega).get (f := R.GT_CMP_VALUE k) wf
  have hlink (v : Nat) : gtLinked (countSet s n v) n = gtLinked s n :=
    gtLinked_congr ((leaves_countSet s n v fun j => by simp only [R.GT_CFG_LINK, R.GT_CFG, R.GT_CNT]; omega).bit (f := R.GT_CFG_LINK n) wf)
  have hlo : s.get (R.GT_CMP_VALUE n) < 2 ^ 32 := get_lt (s := s) (f := R.GT_CMP_VALUE n)
  have hhi : s.get (R.GT_CMP_VALUE (n + 1)) < 2 ^ 32 := get_lt (s := s) (f := R.GT_CMP_VALUE (n + 1))
  have hself := gtLinked_congr (s := s) (u := s.setGt n { s.gt n with clearNext := false }) (n := n) (State.setGt_bit ..)
  have hne : R.GT_CNT n ≠ R.GT_CNT (n + 1) := (gtCnt_ne n (n + 1)).mpr (by omega)
  have hpair (v : Nat) : gtPair (countSet s n v) n R.GT_CMP_VALUE = gtPair s n R.GT_CMP_VALUE := by rw [gtPair, hlink, hcmp, hcmp, gtPair]
  rw [hpair, gtPair, hlink, gtPair]
  cases hl : gtLinked s n with
  | true =>
    rw [hl] at hself
    rw [if_pos rfl, if_pos rfl, countSet, setGtPair, if_pos hself]
    rw [show R.GT_CNT_COUNT n = ⟨R.GT_CNT n, 0, 32⟩ from rfl, show R.GT_CNT_COUNT (n + 1) = ⟨R.GT_CNT (n + 1), 0, 32⟩ from rfl]
    rw [get_set_key (wf_regs (wf_set hws _ _)) hne, get_set_same (wf_regs hws) (by decide), get_set_same (wf_regs (wf_set hws _ _)) (by decide)]
    omega
  | false =>
    rw [hl] at hself
    rw [if_neg Bool.false_ne_true, if_neg Bool.false_ne_true, countSet, setGtPair, if_neg (by rw [hself]; decide)]
    rw [show R.GT_CNT_COUNT n = ⟨R.GT_CNT n, 0, 32⟩ from rfl, get_set_same (wf_regs hws) (by decide)]
    omega

/-! ## The rows -/

theorem gtMatch_row (wf : Memory.wf s = true) {n : Nat} (hn : n < 32) (hcounts : gtCounts s n = true) (hen : s.bit (R.GT_CMPCFG_CMP_EN n) = true) :
    ∃ t, exec (.gtMatch n) s = .next t ∧ t.get (R.GT_STAT_MATCH n) = 1 ∧
      t.get (R.GT_ERR_MATCHES n) = (s.get (R.GT_ERR_MATCHES n) + 1) % 2 ^ (R.GT_ERR_MATCHES n).width ∧
      (t.gt n).clearNext = s.bit (R.GT_CMPCFG_CLR n) := by
  have heq := gtPair_countSet wf n
  have hexec : exec (.gtMatch n) s = .next (gtMatched (countSet s n (gtPair s n R.GT_CMP_VALUE)) n) := by
    change execGtMatch n s = _
    rw [execGtMatch, if_pos (by simp [hcounts, hen]), gtOnto]
    rfl
  have hleaves {f : Fld} (hf : ∀ k, R.GT_CNT k ≠ f.key) : Leaves f.key s (countSet s n (gtPair s n R.GT_CMP_VALUE)) := leaves_countSet s n _ hf
  have hcmp : ∀ k, R.GT_CNT k ≠ R.GT_CMPCFG n := fun k => by simp only [R.GT_CNT, R.GT_CMPCFG]; omega
  have hclr := (hleaves (f := R.GT_CMPCFG_CLR n) hcmp)
  have herr := (hleaves (f := R.GT_ERR_MATCHES n) fun k => by simp only [R.GT_CNT, R.GT_ERR_MATCHES, R.GT_ERR]; omega).get wf
  have hbit := (hleaves (f := R.GT_CMPCFG_CMP_EN n) hcmp).bit wf
  have hw := wf_keeps hclr.keeps wf
  have hclear := hclr.bit wf
  generalize countSet s n (gtPair s n R.GT_CMP_VALUE) = u at heq hexec herr hbit hw hclear
  rw [gtMatched_of_match (hbit.trans hen) heq] at hexec
  obtain ⟨hmatch, -, hcount⟩ := matchActed_row hw n
  have hacted := ((Leaves.refl (R.GT_CMPCFG n) u).matchActed n (by simp only [R.GT_STAT, R.GT_CMPCFG]; omega)
    (by simp only [R.GT_ERR, R.GT_CMPCFG]; omega)).bit (f := R.GT_CMPCFG_CLR n) hw
  have hws (x : GtState) : Memory.wf ((matchActed u n).setGt n x) = true :=
    wf_keeps (State.setGt_keeps (Keeps.refl _) n x) (wf_keeps (keeps_matchActed u n) hw)
  refine ⟨_, hexec, ?_, ?_, ?_⟩
  · rw [get_gtIrq (hws _) n _ (noisy_eq_false (by simp only [R.GT_STAT_MATCH, R.GT_STAT]; omega)), State.setGt_get, hmatch]
  · rw [get_gtIrq (hws _) n _ (noisy_eq_false (by simp only [R.GT_ERR_MATCHES, R.GT_ERR]; omega)), State.setGt_get, hcount, herr]
  · rw [gt_gtIrq, gt_setGt, hacted, hclear]

theorem gtWrap_row (wf : Memory.wf s = true) {n : Nat} (hn : n < 32) (hcounts : gtCounts s n = true) :
    ∃ t, exec (.gtWrap n) s = .next t ∧ t.get (R.GT_STAT_WRAP n) = 1 ∧ t.get (R.GT_CNT_COUNT n) = 0 := by
  have hexec : exec (.gtWrap n) s = .next (gtMatched (gtIrq ((countSet s n 0).set (R.GT_STAT_WRAP n) 1) n) n) := if_pos hcounts
  have hws : Memory.wf (s.setGt n { s.gt n with clearNext := false }) = true := wf_keeps (State.setGt_keeps (Keeps.refl s) n _) wf
  have hzero : (countSet s n 0).get (R.GT_CNT_COUNT n) = 0 := get_setGtPair hws n R.GT_CNT 0 ((gtCnt_ne n (n + 1)).mpr (by omega))
  have hwc : Memory.wf (countSet s n 0) = true := wf_keeps (setGtPair_keeps (Keeps.refl _) _ _ _) hws
  generalize countSet s n 0 = u at hexec hzero hwc
  have hwi := wf_set hwc (R.GT_STAT_WRAP n) 1
  obtain ⟨hwrap, hcount⟩ := gtMatched_row (wf_gtIrq hwi n) hn
  refine ⟨_, hexec, hwrap.trans ?_, hcount.trans ?_⟩
  · rw [get_gtIrq hwi n _ (noisy_eq_false (by simp only [R.GT_STAT_WRAP, R.GT_STAT]; omega))]
    exact get_set_same (wf_regs hwc) (by decide) 1
  · rw [get_gtIrq hwi n _ (noisy_eq_false (by simp only [R.GT_CNT_COUNT, R.GT_CNT]; omega))]
    exact (get_set_key (wf_regs hwc) (by simp only [R.GT_CNT, R.GT_STAT]; omega) ..).trans hzero

/-! ## Captures -/

/-- A capture that was not read is counted as overrun (R425). -/
def overrunNoted (s : State) (n : Nat) : State := if s.bit (R.GT_STAT_CAP n) then (s.set (R.GT_STAT_CAP_OVR n) 1).bump (R.GT_ERR_OVR n) else s

theorem gtTake_eq (s : State) (n : Nat) : gtTake s n =
    gtIrq ((setGtPair (overrunNoted s n) n R.GT_CAP_VALUE (gtPair (overrunNoted s n) n R.GT_CNT_COUNT)).set (R.GT_STAT_CAP n) 1) n := rfl

theorem leaves_overrunNoted (s : State) (n : Nat) (hstat : R.GT_STAT n ≠ key) (herr : R.GT_ERR n ≠ key) : Leaves key s (overrunNoted s n) :=
  Leaves.ite (((Leaves.refl key s).set _ _ hstat).bump _ herr) (Leaves.refl key s)

/-- The low half of a pair is the low 32 bits of its value. -/
theorem gtPair_mod (s : State) (n : Nat) : gtPair s n R.GT_CNT_COUNT % 2 ^ 32 = s.get (R.GT_CNT_COUNT n) := by
  have hlt : s.get (R.GT_CNT_COUNT n) < 2 ^ 32 := get_lt (s := s) (f := R.GT_CNT_COUNT n)
  rw [gtPair]
  split <;> omega

theorem gtTake_row (wf : Memory.wf s = true) {n : Nat} (hn : n < 32) : (gtTake s n).get (R.GT_STAT_CAP n) = 1 ∧
    (gtTake s n).get (R.GT_CAP_VALUE n) = s.get (R.GT_CNT_COUNT n) ∧ (gtTake s n).gt n = s.gt n := by
  have hleaves := leaves_overrunNoted s n (key := R.GT_CNT n) (by simp only [R.GT_STAT, R.GT_CNT]; omega) (by simp only [R.GT_ERR, R.GT_CNT]; omega)
  have hcnt := hleaves.get (f := R.GT_CNT_COUNT n) wf
  have hwo := wf_keeps hleaves.keeps wf
  have htb : (gtTake s n).tb = s.tb := (gtTake_frame rfl (Frame.refl 0x800001 s) n).of .tb rfl
  have hgt : (gtTake s n).gt n = s.gt n := by rw [State.gt, htb, State.gt]
  rw [gtTake_eq] at hgt ⊢
  generalize overrunNoted s n = u at hcnt hwo hgt ⊢
  have hpair : (setGtPair u n R.GT_CAP_VALUE (gtPair u n R.GT_CNT_COUNT)).get (R.GT_CAP_VALUE n) = gtPair u n R.GT_CNT_COUNT % 2 ^ 32 :=
    get_setGtPair hwo n R.GT_CAP _ (by simp only [R.GT_CAP]; omega)
  have hwp : Memory.wf (setGtPair u n R.GT_CAP_VALUE (gtPair u n R.GT_CNT_COUNT)) = true := wf_keeps (setGtPair_keeps (Keeps.refl _) _ _ _) hwo
  refine ⟨?_, ?_, hgt⟩
  · rw [get_gtIrq (wf_set hwp _ _) n _ (noisy_eq_false (by simp only [R.GT_STAT_CAP, R.GT_STAT]; omega))]
    exact get_set_same (wf_regs hwp) (by decide) 1
  · rw [get_gtIrq (wf_set hwp _ _) n _ (noisy_eq_false (by simp only [R.GT_CAP_VALUE, R.GT_CAP]; omega))]
    refine (get_set_key (wf_regs hwp) (by simp only [R.GT_CAP, R.GT_STAT]; omega) ..).trans ?_
    exact hpair.trans ((gtPair_mod u n).trans hcnt)

/-- The filtered input shows the edge. -/
def inputSeen (s : State) (n : Nat) (rising : Bool) : State := s.setGt n { s.gt n with input := rising }

/-- In capture mode the input does not gate the count, so an edge leaves the timer counting. -/
theorem gtCounts_inputSeen {n : Nat} (rising : Bool) (hmode : s.get (R.GT_CFG_MODE n) = 2) : gtCounts (inputSeen s n rising) n = gtCounts s n := by
  have hm : (inputSeen s n rising).get (R.GT_CFG_MODE n) = 2 := by rw [inputSeen, State.setGt_get, hmode]
  rw [gtCounts, gtCounts, hm, hmode, gtIsHigh, gtIsHigh, inputSeen, State.setGt_bit, State.setGt_bit]
  rfl

theorem exec_gtCapture {n : Nat} {rising : Bool} (hin : s.get (R.GT_CFG_INSEL n) < 38) (hcounts : gtCounts s n = true)
    (hmode : s.get (R.GT_CFG_MODE n) = 2) (hedge : edgeSelected (s.get (R.GT_CFG_EDGE n)) rising = true) :
    exec (.gtCapture n rising) s = if s.get (R.GT_CFG_EPSC n) ≤ (s.gt n).edges then
      .next (gtTake ((inputSeen s n rising).setGt n { (inputSeen s n rising).gt n with edges := 0 }) n)
      else .next ((inputSeen s n rising).setGt n { (inputSeen s n rising).gt n with edges := (s.gt n).edges + 1 }) := by
  have hseen (f : Fld) : (inputSeen s n rising).get f = s.get f := State.setGt_get ..
  have hedges : ((inputSeen s n rising).gt n).edges = (s.gt n).edges := by rw [inputSeen, gt_setGt]
  have hc : gtCounts (inputSeen s n rising) n = true := (gtCounts_inputSeen rising hmode).trans hcounts
  change execGtCapture n rising s = _
  rw [execGtCapture, if_neg (by omega)]
  change (if (gtCounts (inputSeen s n rising) n && decide ((inputSeen s n rising).get (R.GT_CFG_MODE n) = 2) &&
      edgeSelected ((inputSeen s n rising).get (R.GT_CFG_EDGE n)) rising) = true then
    (if (inputSeen s n rising).get (R.GT_CFG_EPSC n) ≤ ((inputSeen s n rising).gt n).edges then
      done (gtTake ((inputSeen s n rising).setGt n { (inputSeen s n rising).gt n with edges := 0 }) n)
      else done ((inputSeen s n rising).setGt n { (inputSeen s n rising).gt n with edges := ((inputSeen s n rising).gt n).edges + 1 })) else _) = _
  rw [if_pos (by rw [hc, hseen, hmode, hseen, hedge]; rfl), hseen, hedges]

/-- Settles O29. -/
theorem timerRowsComplete : Obligations.TimerRowsComplete := by
  intro s n wf hn
  have hwseen (rising : Bool) (x : GtState) : Memory.wf ((inputSeen s n rising).setGt n x) = true :=
    wf_keeps (State.setGt_keeps (State.setGt_keeps (Keeps.refl s) n _) n x) wf
  refine ⟨fun hcounts hen => gtMatch_row wf hn hcounts hen, fun hcounts => gtWrap_row wf hn hcounts,
    fun rising hin hcounts hmode hedge hdue => ?_, fun rising hin hcounts hmode hedge hmore => ?_, fun k hk hlt => ?_, fun v rest hwrites => ?_,
    fun q u hu hlink => ?_, fun q u hu hlink => ?_⟩
  · obtain ⟨hcap, hvalue, hgt⟩ := gtTake_row (hwseen rising { (inputSeen s n rising).gt n with edges := 0 }) hn
    refine ⟨_, (exec_gtCapture hin hcounts hmode hedge).trans (if_pos hdue), hcap, ?_, ?_⟩
    · rw [hvalue, State.setGt_get, inputSeen, State.setGt_get]
    · rw [hgt, gt_setGt]
  · refine ⟨_, (exec_gtCapture hin hcounts hmode hedge).trans (if_neg (by omega)), ?_, rfl⟩
    rw [gt_setGt]
  · change execGtRegisterApply n s = _
    rw [execGtRegisterApply, ← hk]
    exact if_pos hlt
  · have hidx : s.tb.gtWrites.findIdx (fun w => decide (w.1 = n)) = 0 := by rw [hwrites, List.findIdx_cons, decide_eq_true rfl]; rfl
    refine ⟨(s.putTb { s.tb with gtWrites := rest }).set (R.GT_PSC_PSC n) v, ?_, get_set_same (wf_regs wf) (by decide) v, rfl⟩
    change execGtRegisterApply n s = _
    rw [execGtRegisterApply, hidx, hwrites]
    rfl
  · subst hu
    refine ⟨(timersApply s).answer q ((timersApply s).get (R.GT_CNT_COUNT n)), ?_, assocGet_assocSet_self .., rfl⟩
    exact if_neg (by rw [hlink]; decide)
  · subst hu
    refine ⟨_, if_pos hlink, assocGet_assocSet_self .., ?_, rfl⟩
    generalize timersApply s = u
    rw [show ((u.setSnaps q _).answer q _).snapsOf q = (u.setSnaps q _).snapsOf q from rfl, snapsOf_setSnaps, assocGet_assocSet_self]

end Sys2Proof.Machine
end

section
/-!
The rows of the control cores, the application core and its watchdog (O30).
-/

namespace Sys2Proof.Machine

variable {key : Nat} {s0 s : State}

/-! ## Control cores -/

theorem cpus_postEvent (s : State) (code : Nat) (fields : List (Nat × Nat × Nat)) : (postEvent code fields s).cpus = s.cpus :=
  (postEvent_frame rfl (Frame.refl 0x80840021 s) code fields).of .cpus rfl

theorem now_postEvent (s : State) (code : Nat) (fields : List (Nat × Nat × Nat)) : (postEvent code fields s).now = s.now :=
  (postEvent_frame rfl (Frame.refl 0x80840021 s) code fields).of .now rfl

theorem upd_postEvent (s : State) (code : Nat) (fields : List (Nat × Nat × Nat)) : (postEvent code fields s).upd = s.upd :=
  (postEvent_frame rfl (Frame.refl 0x80840021 s) code fields).of .upd rfl

theorem core_postEvent (s : State) {code : Nat} (hcode : code < 65536) (fields : List (Nat × Nat × Nat)) :
    (postEvent code fields s).app.core = s.app.core := (postEvent_quiet (Quiet.refl s) hcode fields).core

theorem cpuOf_congr {u : State} (h : u.cpus = s.cpus) (c : Nat) : cpuOf u c = cpuOf s c := by rw [cpuOf, h]; rfl

theorem cpuOf_putCpus (s : State) (c : Nat) (x : CpuState) : cpuOf (s.putCpus (assocSet s.cpus c x)) c = x := by
  rw [cpuOf, State.putCpus_cpus, assocGet_assocSet_self]
  rfl

theorem setCpu_row (wf : Memory.wf s = true) (c : Nat) {state : Nat} (hstate : state < 4) : (setCpu s c state).get (R.CPU_STAT_STATE c) = state ∧
    (setCpu s c state).get (R.CPU_STAT_RESETS c) = s.get (R.CPU_STAT_RESETS c) ∧ (cpuOf (setCpu s c state) c).expiries = (cpuOf s c).expiries ∧
    Memory.wf (setCpu s c state) = true ∧ (setCpu s c state).now = s.now := by
  have hwp (l : List (Nat × CpuState)) : Memory.wf (s.putCpus l) = true := wf_keeps (State.putCpus_keeps (Keeps.refl s) l) wf
  refine ⟨?_, ?_, ?_, wf_keeps (setCpu_keeps (Keeps.refl s) c state) wf, ?_⟩
  · refine (get_set_same (wf_regs (wf_set (hwp _) _ _)) (by decide) state).trans (Nat.mod_eq_of_lt hstate)
  · refine (get_set_bits (wf_regs (wf_set (hwp _) _ _)) (R.CPU_STAT c) (by decide) (by decide) _).trans ?_
    exact (get_set_bits (wf_regs (hwp _)) (R.CPU_STAT c) (by decide) (by decide) _).trans (State.putCpus_get ..)
  · rw [setCpu, cpuOf_congr (State.set_cpus _ _ _), cpuOf_congr (State.set_cpus _ _ _), cpuOf_putCpus]
  · rw [setCpu, State.set_now, State.set_now, State.putCpus_now]

/-- The core restarts alone, with its expiries of the last hour (R436). -/
def cpuRestarts (s : State) (c : Nat) : State :=
  let t := (setCpu s c 2).bump (R.CPU_STAT_RESETS c)
  t.putCpus (assocSet t.cpus c { cpuOf t c with expiries := ((cpuOf t c).expiries.filter fun x => decide (t.now < x + hourNs)) ++ [t.now] })

/-- The restart is posted. -/
def cpuExpired (s : State) (c : Nat) : State :=
  postEvent 0x0E02 [(0, 1, 1 + c), (1, 1, (cpuRestarts s c).get (R.CPU_STAT_RESETS c))] (cpuRestarts s c)

theorem cpuRestarts_row (wf : Memory.wf s = true) (c : Nat) : (cpuRestarts s c).get (R.CPU_STAT_STATE c) = 2 ∧
    (cpuRestarts s c).get (R.CPU_STAT_RESETS c) = min 255 (s.get (R.CPU_STAT_RESETS c) + 1) ∧
    (cpuOf (cpuRestarts s c) c).expiries = ((cpuOf s c).expiries.filter fun x => decide (s.now < x + hourNs)) ++ [s.now] ∧
    Memory.wf (cpuRestarts s c) = true := by
  obtain ⟨hstate, hresets, hexp, hw, hnow⟩ := setCpu_row wf c (by decide : 2 < 4)
  unfold cpuRestarts
  generalize setCpu s c 2 = u at hstate hresets hexp hw hnow
  refine ⟨?_, ?_, ?_, wf_keeps (State.putCpus_keeps (Keeps.refl _) _) (wf_bump hw _)⟩
  · rw [State.putCpus_get]
    exact (get_set_bits (wf_regs hw) (R.CPU_STAT c) (by decide) (by decide) _).trans hstate
  · rw [State.putCpus_get]
    refine (get_set_same (wf_regs hw) (by decide) _).trans ?_
    rw [hresets]
    exact Nat.mod_eq_of_lt (Nat.lt_of_le_of_lt (Nat.min_le_left _ _) (by decide : 2 ^ 8 - 1 < 2 ^ 8))
  · rw [cpuOf_putCpus, cpuOf_congr (State.bump_cpus _ _), State.bump_now, hexp, hnow]

theorem exec_cpuWdogExpiry {c : Nat} (hworks : cpuWorks s c = true) : exec (.cpuWdogExpiry c) s =
    if 4 ≤ (cpuOf (cpuRestarts s c) c).expiries.length then
      .next (warmRestart (postEvent 0x0E04 [(0, 1, c), (4, 4, Config.faultCode (healthFails (cpuExpired s c) [2, 3, 5]).draws)]
        (healthFails (cpuExpired s c) [2, 3, 5]).drew))
    else .next (healthFails (cpuExpired s c) [2, 3, 5]) := by
  have hrecent : (cpuOf (cpuRestarts s c) c).expiries = ((cpuOf ((setCpu s c 2).bump (R.CPU_STAT_RESETS c)) c).expiries.filter fun x =>
      decide (((setCpu s c 2).bump (R.CPU_STAT_RESETS c)).now < x + hourNs)) ++ [((setCpu s c 2).bump (R.CPU_STAT_RESETS c)).now] := by
    rw [cpuRestarts, cpuOf_putCpus]
  change execCpuWdogExpiry c s = _
  rw [execCpuWdogExpiry, if_pos hworks, hrecent]
  rfl

theorem lt_of_cpuWorks {c : Nat} (h : cpuWorks s c = true) : c < 4 := by
  simp only [cpuWorks, Bool.and_eq_true, decide_eq_true_eq] at h
  exact h.1.2

theorem cpuWdogExpiry_row (wf : Memory.wf s = true) {c : Nat} (hworks : cpuWorks s c = true) :
    ∃ u t, exec (.cpuWdogExpiry c) s = .next t ∧ u.get (R.CPU_STAT_STATE c) = 2 ∧
      u.get (R.CPU_STAT_RESETS c) = min 255 (s.get (R.CPU_STAT_RESETS c) + 1) ∧
      (cpuOf u c).expiries = ((cpuOf s c).expiries.filter fun x => decide (s.now < x + hourNs)) ++ [s.now] ∧
      ((cpuOf u c).expiries.length < 4 → t = healthFails u [2, 3, 5]) ∧ (4 ≤ (cpuOf u c).expiries.length → t.boot.phase = .warmDelay) := by
  obtain ⟨hstate, hresets, hexp, hw⟩ := cpuRestarts_row wf c
  have hc := lt_of_cpuWorks hworks
  have hquiet : noisy (R.CPU_STAT c) = false := noisy_eq_false (by unfold R.CPU_STAT; omega)
  have hposted (f : Fld) (hf : noisy f.key = false) : (cpuExpired s c).get f = (cpuRestarts s c).get f := get_postEvent hw (by decide) _ f hf
  have hcpu : cpuOf (cpuExpired s c) c = cpuOf (cpuRestarts s c) c := cpuOf_congr (cpus_postEvent ..) c
  have hexec := exec_cpuWdogExpiry hworks
  rw [← hcpu] at hexec hexp
  by_cases hfour : 4 ≤ (cpuOf (cpuExpired s c) c).expiries.length
  · rw [if_pos hfour] at hexec
    exact ⟨_, _, hexec, (hposted (R.CPU_STAT_STATE c) hquiet).trans hstate, (hposted (R.CPU_STAT_RESETS c) hquiet).trans hresets, hexp,
      fun h => absurd hfour (by omega), fun _ => rfl⟩
  · rw [if_neg hfour] at hexec
    exact ⟨_, _, hexec, (hposted (R.CPU_STAT_STATE c) hquiet).trans hstate, (hposted (R.CPU_STAT_RESETS c) hquiet).trans hresets, hexp,
      fun _ => rfl, fun h => absurd h hfour⟩

theorem restartDone_row (wf : Memory.wf s = true) {c : Nat} (hrun : running s = true) (hc : c < 4) (hstate : s.get (R.CPU_STAT_STATE c) = 2) :
    ∃ t, exec (.controlCoreRestartDone c) s = .next t ∧ t.get (R.CPU_STAT_STATE c) = 1 ∧ (cpuOf t c).expiries = (cpuOf s c).expiries := by
  obtain ⟨hone, -, hexp, -, -⟩ := setCpu_row wf c (by decide : 1 < 4)
  exact ⟨setCpu s c 1, congrArg Host.Outcome.next (if_pos (by simp [hrun, hc, hstate])), hone, hexp⟩

/-! ## The application core -/

/-- The word with bad parity is noted. -/
def badWordNoted (s : State) (w : Nat) : State :=
  s.putApp { s.app with badWords := if s.app.badWords.contains w then s.app.badWords else w :: s.app.badWords }

theorem mem_badWordNoted (s : State) (w : Nat) : w ∈ (badWordNoted s w).app.badWords := by
  rw [badWordNoted, State.putApp_app]
  dsimp only
  split
  next h => exact List.contains_iff_mem.mp h
  next => exact List.mem_cons_self

theorem appAccessFault_row (wf : Memory.wf s = true) {kind addr : Nat} (hrun : running s = true) (hstate : s.get R.APP_STAT_STATE = appRuns)
    (hkind : kind < 2) (hmem : appMemory addr = true) :
    ∃ t, exec (.appAccessFault kind addr true) s = .next t ∧ addr - addr % 4 ∈ t.app.badWords ∧
      t.get R.APP_CNT_PARITY = min (2 ^ R.APP_CNT_PARITY.width - 1) (s.get R.APP_CNT_PARITY + 1) := by
  have hexec : exec (.appAccessFault kind addr true) s = .next ((badWordNoted s (addr - addr % 4)).bump R.APP_CNT_PARITY) :=
    if_pos (by simp [hrun, hstate, hkind, hmem])
  refine ⟨_, hexec, ?_, ?_⟩
  · rw [State.bump_app]
    exact mem_badWordNoted s _
  · refine (get_set_same (s := badWordNoted s _) (wf_regs wf) (by decide) _).trans (Nat.mod_eq_of_lt ?_)
    exact Nat.lt_of_le_of_lt (Nat.min_le_left _ _) (by decide : 2 ^ 8 - 1 < 2 ^ 8)

theorem appDoubleFault_row (wf : Memory.wf s = true) (hrun : running s = true) (hstate : s.get R.APP_STAT_STATE = appRuns) :
    ∃ u t, exec .appDoubleFault s = .next t ∧ t = healthFails u [4] ∧ u.get R.APP_STAT_STATE = appDouble ∧ u.upd = s.upd := by
  refine ⟨postHalt (s.set R.APP_STAT_STATE appDouble) 1, _, if_pos (by simp [hrun, hstate]), rfl, ?_, upd_postEvent ..⟩
  exact (get_postEvent (wf_set wf _ _) (by decide) _ R.APP_STAT_STATE (by decide)).trans (get_set_same (wf_regs wf) (by decide) _)

/-- The registers as the blocks' reset leaves them. -/
def blocksReset (s : State) : State := s.putRegs (s.regs.filter fun c => !appBlock c.1)

/-- The general timers hold nothing. -/
def timersReset (s : State) : State := (blocksReset s).putTb { (blocksReset s).tb with gt := [], gtWrites := [] }

/-- The GPIO outputs take the values of record 0x0D01. -/
def pinsReset (s : State) : State :=
  ((timersReset s).set R.GPIO_OUT_BITS (timersReset s).app.gpioOut).set R.GPIO_OE_BITS
    ((timersReset s).set R.GPIO_OUT_BITS (timersReset s).app.gpioOut).app.gpioOe

/-- The core neither reloads nor waits. -/
def coreStopped (s : State) : State := (pinsReset s).putApp { (pinsReset s).app with reloading := false, waiting := false }

/-- The core and its blocks are in reset; its level sources still show (R439). -/
def appInReset (s : State) : State := (coreStopped s).set R.APP_STAT_STATE appReset

theorem resetApp_quiet (s : State) : Quiet (appInReset s) (resetApp s) :=
  Quiet.fold (Quiet.refl (appInReset s)) fun _ _ _ ht => aicLevel_quiet ht _ _

theorem keeps_timersReset (s : State) : Keeps s (timersReset s) :=
  State.putTb_keeps (State.putRegs_keeps (Keeps.refl s) _ fun w => cellsWf_filter (wf_regs w) _) _

theorem keeps_coreStopped (s : State) : Keeps (pinsReset s) (coreStopped s) :=
  State.putApp_keeps (Keeps.refl _) _ fun w => ⟨wf_iram w, wf_dram w⟩

theorem leaves_appInReset (hblock : appBlock key = false) (hout : R.GPIO_OUT ≠ key) (hoe : R.GPIO_OE ≠ key) (hstat : R.APP_STAT ≠ key) :
    Leaves key s (appInReset s) := by
  have htimers : Leaves key s (timersReset s) :=
    ⟨keeps_timersReset s, fun w => cellsRead_filter (wf_regs w) fun v => by rw [hblock]; rfl⟩
  have hpins : Leaves key s (pinsReset s) := (htimers.set R.GPIO_OUT_BITS _ hout).set R.GPIO_OE_BITS _ hoe
  exact (hpins.same (keeps_coreStopped s) rfl).set R.APP_STAT_STATE appReset hstat

theorem wf_timersReset (wf : Memory.wf s = true) : Memory.wf (timersReset s) = true := wf_keeps (keeps_timersReset s) wf

theorem wf_coreStopped (wf : Memory.wf s = true) : Memory.wf (coreStopped s) = true :=
  wf_keeps (keeps_coreStopped s) (wf_set (wf_set (wf_timersReset wf) _ _) _ _)

theorem app_appInReset (s : State) : (appInReset s).app = { s.app with reloading := false, waiting := false } := by
  rw [appInReset, State.set_app, coreStopped, State.putApp_app, pinsReset, State.set_app, State.set_app, timersReset, State.putTb_app, blocksReset,
    State.putRegs_app]

theorem gpioOut_timersReset (s : State) : (timersReset s).app.gpioOut = s.app.gpioOut := by
  rw [timersReset, State.putTb_app, blocksReset, State.putRegs_app]

theorem gt_appInReset (s : State) : (appInReset s).tb.gt = [] := by
  rw [appInReset, State.set_tb, coreStopped, State.putApp_tb, pinsReset, State.set_tb, State.set_tb, timersReset, State.putTb_tb]

theorem appInReset_row (wf : Memory.wf s = true) : (appInReset s).get R.APP_STAT_STATE = appReset ∧
    (appInReset s).get R.GPIO_OUT_BITS = s.app.gpioOut % 2 ^ 32 := by
  have hwt := wf_timersReset wf
  refine ⟨get_set_same (wf_regs (wf_coreStopped wf)) (by decide) _, ?_⟩
  have hpins : (pinsReset s).get R.GPIO_OUT_BITS = s.app.gpioOut % 2 ^ 32 := by
    rw [← gpioOut_timersReset s]
    exact (get_set_key (wf_regs (wf_set hwt _ _)) (by decide) ..).trans (get_set_same (wf_regs hwt) (by decide) _)
  refine (get_set_key (wf_regs (wf_coreStopped wf)) (by decide) ..).trans (Eq.trans ?_ hpins)
  exact State.putApp_get ..

/-! ## HOLD and the reload (R439) -/

theorem tb_postEvent (s : State) (code : Nat) (fields : List (Nat × Nat × Nat)) : (postEvent code fields s).tb = s.tb :=
  (postEvent_frame rfl (Frame.refl 0x80840021 s) code fields).of .tb rfl

theorem tb_aicLevel (s : State) (src : Nat) (high : Bool) : (aicLevel s src high).tb = s.tb :=
  (aicLevel_frame rfl (Frame.refl 0x800001 s) src high).of .tb rfl

theorem gt_resetApp (s : State) : (resetApp s).tb.gt = [] := by
  have hfold (l : List Nat) : ∀ u, (foldState (fun t src => aicLevel t src false) u l).tb = u.tb := by
    induction l with
    | nil => exact fun _ => rfl
    | cons x l ih => exact fun u => (ih _).trans (tb_aicLevel u x false)
  exact (congrArg TimeState.gt (hfold _ (appInReset s))).trans (gt_appInReset s)

theorem appHold_row (wf : Memory.wf s = true) (hrun : running s = true) (hhold : s.bit R.APP_CTRL_HOLD = false) :
    ∃ t, exec (.appHold .host) s = .next t ∧ t.get R.APP_CTRL_HOLD = 1 ∧ t.get R.APP_STAT_STATE = appReset ∧ t.tb.gt = [] ∧
      t.get R.GPIO_OUT_BITS = s.app.gpioOut % 2 ^ 32 := by
  have hexec : exec (.appHold .host) s = .next (postHalt (resetApp (s.set R.APP_CTRL_HOLD 1)) 2) := if_pos (by simp [openTo_of_running hrun, hhold])
  have hwh := wf_set wf R.APP_CTRL_HOLD 1
  have hheld : (s.set R.APP_CTRL_HOLD 1).get R.APP_CTRL_HOLD = 1 := get_set_same (wf_regs wf) (by decide) 1
  have hgpio : (s.set R.APP_CTRL_HOLD 1).app.gpioOut = s.app.gpioOut := by rw [State.set_app]
  rw [← hgpio]
  generalize s.set R.APP_CTRL_HOLD 1 = u at hexec hwh hheld
  obtain ⟨hstate, hout⟩ := appInReset_row hwh
  have hhold := (leaves_appInReset (key := R.APP_CTRL) (s := u) (by decide) (by decide) (by decide) (by decide))
  have hwr := wf_keeps (resetApp_quiet u).keeps (wf_keeps hhold.keeps hwh)
  have hregs (f : Fld) (hf : noisy f.key = false) : (postHalt (resetApp u) 2).get f = (appInReset u).get f :=
    (get_postEvent hwr (by decide) _ f hf).trans ((resetApp_quiet u).get (wf_keeps hhold.keeps hwh) f hf)
  refine ⟨_, hexec, ?_, ?_, ?_, ?_⟩
  · exact (hregs R.APP_CTRL_HOLD (by decide)).trans ((hhold.get (f := R.APP_CTRL_HOLD) hwh).trans hheld)
  · exact (hregs R.APP_STAT_STATE (by decide)).trans hstate
  · rw [postHalt, tb_postEvent, gt_resetApp]
  · exact (hregs R.GPIO_OUT_BITS (by decide)).trans hout

/-- A core that its watchdog held starts a new count of resets (R440). -/
def heldCleared (s : State) : State :=
  if (s.set R.APP_CTRL_HOLD 0).bit R.APP_STAT_HELD then
    (((s.set R.APP_CTRL_HOLD 0).set R.APP_STAT_HELD 0).set R.WDOG_STAT_RESETS 0).putApp { s.app with firstReset := none }
  else s.set R.APP_CTRL_HOLD 0

theorem heldCleared_row (wf : Memory.wf s = true) : (heldCleared s).get R.APP_CTRL_HOLD = 0 ∧
    (s.bit R.APP_STAT_HELD = true → (heldCleared s).get R.APP_STAT_HELD = 0 ∧ (heldCleared s).app.firstReset = none) := by
  have hw := wf_set wf R.APP_CTRL_HOLD 0
  have hhold : (s.set R.APP_CTRL_HOLD 0).get R.APP_CTRL_HOLD = 0 := get_set_same (wf_regs wf) (by decide) 0
  have hheld : (s.set R.APP_CTRL_HOLD 0).bit R.APP_STAT_HELD = s.bit R.APP_STAT_HELD :=
    ((Leaves.refl R.APP_STAT s).set R.APP_CTRL_HOLD 0 (by decide)).bit (f := R.APP_STAT_HELD) wf
  unfold heldCleared
  rw [hheld]
  generalize s.set R.APP_CTRL_HOLD 0 = u at hw hhold
  split
  next h =>
    refine ⟨?_, fun _ => ⟨?_, rfl⟩⟩
    · rw [State.putApp_get]
      exact (((Leaves.refl R.APP_CTRL u).set R.APP_STAT_HELD 0 (by decide)).set R.WDOG_STAT_RESETS 0 (by decide)).get (f := R.APP_CTRL_HOLD) hw |>.trans hhold
    · rw [State.putApp_get]
      exact (get_set_key (wf_regs (wf_set hw _ _)) (by decide) ..).trans (get_set_same (wf_regs hw) (by decide) 0)
  next h => exact ⟨hhold, fun h' => absurd h' h⟩

theorem boot_heldCleared (s : State) : (heldCleared s).boot = s.boot := by
  unfold heldCleared
  split
  · rw [State.putApp_boot, State.set_boot, State.set_boot, State.set_boot]
  · rw [State.set_boot]

theorem appRelease_row (wf : Memory.wf s = true) (hrun : running s = true) (hhold : s.bit R.APP_CTRL_HOLD = true) (hloaded : appLoaded s = true) :
    ∃ t, exec (.appRelease .host) s = .next t ∧ t.get R.APP_CTRL_HOLD = 0 ∧ t.app.reloading = true ∧
      (s.bit R.APP_STAT_HELD = true → t.get R.APP_STAT_HELD = 0 ∧ t.app.firstReset = none) := by
  have hgo : (running (heldCleared s) && appLoaded (heldCleared s)) = true := by
    rw [running, appLoaded, boot_heldCleared]
    exact (Bool.and_eq_true _ _).mpr ⟨hrun, hloaded⟩
  have hexec : exec (.appRelease .host) s = .next (reloadApp (heldCleared s)) := by
    have hrelease : exec (.appRelease .host) s =
        .next (if running (heldCleared s) && appLoaded (heldCleared s) then reloadApp (heldCleared s) else heldCleared s) :=
      if_pos (by simp [openTo_of_running hrun, hhold])
    rw [hrelease, if_pos hgo]
  obtain ⟨h1, h2⟩ := heldCleared_row wf
  generalize heldCleared s = u at hexec h1 h2
  exact ⟨_, hexec, h1, rfl, h2⟩

theorem restartWdog_quiet (s : State) :
    Quiet (((s.putApp { s.app with kickAt := s.now }).set R.WDOG_STAT_WARN 0).set R.WDOG_STAT_COUNT 0) (restartWdog s) :=
  aicLevel_quiet (Quiet.refl _) 70 false

theorem appReload_row (wf : Memory.wf s = true) {ok : Bool} (hrun : running s = true) (hreload : s.app.reloading = true)
    (hhold : s.bit R.APP_CTRL_HOLD = false) (hver : appVerified s ok = true) :
    ∃ t, exec (.appReloadDone ok) s = .next t ∧ t.get R.APP_STAT_STATE = appRuns ∧ t.app.reloading = false ∧
      t.app.entry = leField (inForce s 4) 160 4 := by
  have hexec : exec (.appReloadDone ok) s = .next (releaseApp (loadApp s (inForce s 4))) := by
    change execAppReloadDone ok s = _
    rw [execAppReloadDone, if_pos (by simp [hrun, hreload, hhold]), if_pos hver]
  have hentry : (loadApp s (inForce s 4)).app.entry = leField (inForce s 4) 160 4 := by rw [loadApp, State.putApp_app]
  have hw : Memory.wf (loadApp s (inForce s 4)) = true := wf_keeps (loadApp_keeps (Keeps.refl s) _) wf
  rw [← hentry]
  generalize loadApp s (inForce s 4) = u at hexec hw
  have hwr : Memory.wf (u.putApp { u.app with reloading := false, waiting := false }) = true :=
    wf_keeps (State.putApp_keeps (Keeps.refl u) _ fun w => ⟨wf_iram w, wf_dram w⟩) hw
  rw [releaseApp] at hexec
  have hstate : ((u.putApp { u.app with reloading := false, waiting := false }).set R.APP_STAT_STATE appRuns).get R.APP_STAT_STATE = appRuns :=
    get_set_same (wf_regs hwr) (by decide) _
  have happ : ((u.putApp { u.app with reloading := false, waiting := false }).set R.APP_STAT_STATE appRuns).app =
      { u.app with reloading := false, waiting := false } := by rw [State.set_app, State.putApp_app]
  have hws := wf_set hwr R.APP_STAT_STATE appRuns
  generalize (u.putApp { u.app with reloading := false, waiting := false }).set R.APP_STAT_STATE appRuns = v at hexec hstate happ hws
  have hq := restartWdog_quiet v
  have hwp : Memory.wf (v.putApp { v.app with kickAt := v.now }) = true :=
    wf_keeps (State.putApp_keeps (Keeps.refl v) _ fun w => ⟨wf_iram w, wf_dram w⟩) hws
  have hregs := ((Leaves.refl R.APP_STAT (v.putApp { v.app with kickAt := v.now })).set R.WDOG_STAT_WARN 0 (by decide)).set R.WDOG_STAT_COUNT 0 (by decide)
  refine ⟨_, hexec, ?_, ?_, ?_⟩
  · refine (hq.get (wf_keeps hregs.keeps hwp) R.APP_STAT_STATE (by decide)).trans ?_
    exact (hregs.get (f := R.APP_STAT_STATE) hwp).trans hstate
  · refine (congrArg AppState.reloading hq.core : _).trans ?_
    rw [State.set_app, State.set_app, State.putApp_app, happ]
    rfl
  · refine (congrArg AppState.entry hq.core : _).trans ?_
    rw [State.set_app, State.set_app, State.putApp_app, happ]
    rfl

end Sys2Proof.Machine
end

section
/-!
The rows of the application core's watchdog (O30).
-/

namespace Sys2Proof.Machine

variable {s : State}

/-- The watchdog's count starts again, and its warning is cleared. -/
def wdogCleared (s : State) : State := ((s.putApp { s.app with kickAt := s.now }).set R.WDOG_STAT_WARN 0).set R.WDOG_STAT_COUNT 0

theorem keeps_kicked (s : State) : Keeps s (s.putApp { s.app with kickAt := s.now }) :=
  State.putApp_keeps (Keeps.refl s) _ fun w => ⟨wf_iram w, wf_dram w⟩

theorem app_wdogCleared (s : State) : (wdogCleared s).app = { s.app with kickAt := s.now } := by
  rw [wdogCleared, State.set_app, State.set_app, State.putApp_app]

theorem leaves_wdogCleared {key : Nat} (s : State) (hk : R.WDOG_STAT ≠ key) : Leaves key s (wdogCleared s) :=
  (((Leaves.refl key s).same (keeps_kicked s) rfl).set R.WDOG_STAT_WARN 0 hk).set R.WDOG_STAT_COUNT 0 hk

theorem wf_wdogCleared (wf : Memory.wf s = true) : Memory.wf (wdogCleared s) = true := wf_set (wf_set (wf_keeps (keeps_kicked s) wf) _ _) _ _

theorem restartWdog_row (wf : Memory.wf s = true) : (restartWdog s).app.kickAt = s.now ∧ (restartWdog s).get R.WDOG_STAT_WARN = 0 ∧
    (restartWdog s).app.firstReset = s.app.firstReset := by
  have hq : Quiet (wdogCleared s) (restartWdog s) := restartWdog_quiet s
  have hwarn : (wdogCleared s).get R.WDOG_STAT_WARN = 0 := by
    have hwk := wf_keeps (keeps_kicked s) wf
    exact (get_set_bits (wf_regs (wf_set hwk _ _)) R.WDOG_STAT (by decide) (by decide) _).trans (get_set_same (wf_regs hwk) (by decide) 0)
  refine ⟨(congrArg AppState.kickAt hq.core).trans ?_, (hq.get (wf_wdogCleared wf) R.WDOG_STAT_WARN (by decide)).trans hwarn,
    (congrArg AppState.firstReset hq.core).trans ?_⟩
  · rw [app_wdogCleared]
    rfl
  · rw [app_wdogCleared]
    rfl

theorem appWdogHalf_row (wf : Memory.wf s = true) (hcounts : wdogCounts s = true) (hwarn : s.bit R.WDOG_STAT_WARN = false) :
    ∃ t, exec .appWdogHalf s = .next t ∧ t.get R.WDOG_STAT_WARN = 1 ∧ t.app.kickAt = s.app.kickAt := by
  have hexec : exec .appWdogHalf s = .next (postEvent 0x0E01 [(0, 1, 0)]
      (aicLevel ((s.reach (s.app.kickAt + s.get R.WDOG_CFG_TIMEOUT * 500000)).set R.WDOG_STAT_WARN 1) 70 true)) := if_pos (by simp [hcounts, hwarn])
  have hreach := State.reach_frame rfl (Frame.refl 0x40080000 s) (s.app.kickAt + s.get R.WDOG_CFG_TIMEOUT * 500000)
  have happ := hreach.of .app rfl
  have hw := wf_keeps (State.reach_keeps (Keeps.refl s) (s.app.kickAt + s.get R.WDOG_CFG_TIMEOUT * 500000)) wf
  generalize s.reach (s.app.kickAt + s.get R.WDOG_CFG_TIMEOUT * 500000) = u at hexec happ hw
  have hq : Quiet (u.set R.WDOG_STAT_WARN 1) (postEvent 0x0E01 [(0, 1, 0)] (aicLevel (u.set R.WDOG_STAT_WARN 1) 70 true)) :=
    postEvent_quiet (aicLevel_quiet (Quiet.refl _) 70 true) (by decide) _
  refine ⟨_, hexec, ?_, (congrArg AppState.kickAt hq.core).trans ?_⟩
  · exact (hq.get (wf_set hw _ _) R.WDOG_STAT_WARN (by decide)).trans (get_set_same (wf_regs hw) (by decide) 1)
  · rw [State.set_app, happ]
    rfl

/-- The core is reset for the first counted time, and its watchdog counts from the start (R440). -/
def wdogReset (s : State) : State :=
  let t := restartWdog (resetApp s)
  t.putApp { t.app with firstReset := some s.now, resets := min 255 (t.app.resets + 1) }

/-- The reset is counted and posted. -/
def wdogPosted (s : State) : State :=
  postEvent 0x0E02 [(0, 1, 0), (1, 1, ((wdogReset s).set R.WDOG_STAT_RESETS 1).app.resets)] ((wdogReset s).set R.WDOG_STAT_RESETS 1)

/-- The core is held where the limit is reached, and reloads otherwise. -/
def wdogEnded (s : State) : State :=
  if (wdogPosted s).get R.WDOG_CFG_LIMIT ≤ 1 then postHalt ((wdogPosted s).set R.APP_STAT_HELD 1) 2 else reloadApp (wdogPosted s)

theorem exec_appWdogExpiry (hcounts : wdogCounts s = true) (hfirst : s.app.firstReset = none) : exec .appWdogExpiry s =
    .next (healthFails (wdogEnded (s.reach (s.app.kickAt + s.get R.WDOG_CFG_TIMEOUT * 1000000))) [4]) := by
  have happ := (State.reach_frame rfl (Frame.refl 0x40080000 s) (s.app.kickAt + s.get R.WDOG_CFG_TIMEOUT * 1000000)).of .app rfl
  change execAppWdogExpiry s = _
  rw [execAppWdogExpiry, if_pos hcounts]
  dsimp only
  generalize s.reach (s.app.kickAt + s.get R.WDOG_CFG_TIMEOUT * 1000000) = u at happ ⊢
  rw [happ, hfirst]
  dsimp only
  rw [if_neg (show ¬(none : Option Nat) = some u.now from nofun)]
  rfl

theorem leaves_restartWdog_resetApp {key : Nat} (s : State) (hquiet : noisy key = false) (hblock : appBlock key = false) (hout : R.GPIO_OUT ≠ key)
    (hoe : R.GPIO_OE ≠ key) (hstat : R.APP_STAT ≠ key) (hwdog : R.WDOG_STAT ≠ key) : Leaves key s (restartWdog (resetApp s)) :=
  (((leaves_appInReset hblock hout hoe hstat).quiet (resetApp_quiet s) hquiet).trans (leaves_wdogCleared _ hwdog)).quiet (restartWdog_quiet _) hquiet

theorem now_restartWdog (s : State) : (restartWdog s).now = s.now := (restartWdog_frame rfl (Frame.refl 0x800001 s)).of .now rfl

theorem now_resetApp (s : State) : (resetApp s).now = s.now := (resetApp_frame rfl (Frame.refl 0x880001 s)).of .now rfl

theorem wdogReset_row (wf : Memory.wf s = true) : (wdogReset s).app.firstReset = some s.now ∧ (wdogReset s).app.kickAt = s.now ∧
    (wdogReset s).get R.APP_STAT_STATE = appReset ∧ (wdogReset s).get R.WDOG_CFG_LIMIT = s.get R.WDOG_CFG_LIMIT ∧ (wdogReset s).now = s.now ∧
    Memory.wf (wdogReset s) = true := by
  have hwi := wf_keeps (leaves_appInReset (key := R.APP_CTRL) (s := s) (by decide) (by decide) (by decide) (by decide)).keeps wf
  have hwr : Memory.wf (resetApp s) = true := wf_keeps (resetApp_quiet s).keeps hwi
  obtain ⟨hkick, -, -⟩ := restartWdog_row hwr
  obtain ⟨hstate, -⟩ := appInReset_row wf
  have hlimit := (leaves_restartWdog_resetApp (key := R.WDOG_CFG) s (by decide) (by decide) (by decide) (by decide) (by decide) (by decide)).get
    (f := R.WDOG_CFG_LIMIT) wf
  have hreset : (restartWdog (resetApp s)).get R.APP_STAT_STATE = appReset :=
    (((leaves_wdogCleared (resetApp s) (by decide)).quiet (restartWdog_quiet _) (by decide)).get (f := R.APP_STAT_STATE) hwr).trans
      (((resetApp_quiet s).get hwi R.APP_STAT_STATE (by decide)).trans hstate)
  have hnow : (restartWdog (resetApp s)).now = s.now := (now_restartWdog _).trans (now_resetApp s)
  have hw : Memory.wf (restartWdog (resetApp s)) = true := wf_keeps (restartWdog_keeps (Keeps.refl _)) hwr
  rw [now_resetApp] at hkick
  unfold wdogReset
  generalize restartWdog (resetApp s) = u at hkick hlimit hreset hnow hw
  refine ⟨?_, ?_, ?_, ?_, ?_, wf_keeps (State.putApp_keeps (Keeps.refl u) _ fun w => ⟨wf_iram w, wf_dram w⟩) hw⟩
  · rw [State.putApp_app]
  · rw [State.putApp_app]; exact hkick
  · rw [State.putApp_get, hreset]
  · rw [State.putApp_get, hlimit]
  · rw [State.putApp_now, hnow]

theorem wdogPosted_row (wf : Memory.wf s = true) : (wdogPosted s).get R.WDOG_STAT_RESETS = 1 ∧ (wdogPosted s).app.firstReset = some (wdogPosted s).now ∧
    (wdogPosted s).app.kickAt = (wdogPosted s).now ∧ (wdogPosted s).get R.APP_STAT_STATE = appReset ∧
    (wdogPosted s).get R.WDOG_CFG_LIMIT = s.get R.WDOG_CFG_LIMIT ∧ Memory.wf (wdogPosted s) = true := by
  obtain ⟨hfirst, hkick, hstate, hlimit, hnow, hw⟩ := wdogReset_row wf
  have hq : Quiet ((wdogReset s).set R.WDOG_STAT_RESETS 1) (wdogPosted s) := postEvent_quiet (Quiet.refl _) (by decide) _
  have hposted : (wdogPosted s).now = s.now := (now_postEvent ..).trans hnow
  have hresets := get_set_same (wf_regs hw) (key := R.WDOG_STAT) (lo := 16) (n := 4) (by decide) 1
  have happ : ((wdogReset s).set R.WDOG_STAT_RESETS 1).app = (wdogReset s).app := State.set_app ..
  have hstate' := ((Leaves.refl R.APP_STAT (wdogReset s)).set R.WDOG_STAT_RESETS 1 (by decide)).get (f := R.APP_STAT_STATE) hw
  have hlimit' := ((Leaves.refl R.WDOG_CFG (wdogReset s)).set R.WDOG_STAT_RESETS 1 (by decide)).get (f := R.WDOG_CFG_LIMIT) hw
  have hws := wf_set hw R.WDOG_STAT_RESETS 1
  refine ⟨(hq.get hws R.WDOG_STAT_RESETS (by decide)).trans hresets, (congrArg AppState.firstReset hq.core).trans ?_,
    (congrArg AppState.kickAt hq.core).trans ?_, (hq.get hws R.APP_STAT_STATE (by decide)).trans (hstate'.trans hstate),
    (hq.get hws R.WDOG_CFG_LIMIT (by decide)).trans (hlimit'.trans hlimit), wf_keeps hq.keeps hws⟩
  · rw [happ, hposted]; exact hfirst
  · rw [happ, hposted]; exact hkick

theorem wdogEnded_row (wf : Memory.wf s = true) : (wdogEnded s).get R.WDOG_STAT_RESETS = 1 ∧ (wdogEnded s).app.firstReset = some (wdogEnded s).now ∧
    (wdogEnded s).app.kickAt = (wdogEnded s).now ∧ (wdogEnded s).get R.APP_STAT_STATE = appReset ∧
    (if s.get R.WDOG_CFG_LIMIT ≤ 1 then (wdogEnded s).get R.APP_STAT_HELD = 1 else (wdogEnded s).app.reloading = true) := by
  obtain ⟨hresets, hfirst, hkick, hstate, hlimit, hw⟩ := wdogPosted_row wf
  rw [wdogEnded, hlimit]
  generalize wdogPosted s = u at hresets hfirst hkick hstate hw ⊢
  by_cases hheld : s.get R.WDOG_CFG_LIMIT ≤ 1
  · rw [if_pos hheld, if_pos hheld]
    have hq : Quiet (u.set R.APP_STAT_HELD 1) (postHalt (u.set R.APP_STAT_HELD 1) 2) := postEvent_quiet (Quiet.refl _) (by decide) _
    have hnow : (postHalt (u.set R.APP_STAT_HELD 1) 2).now = u.now := now_postEvent ..
    have happ : (u.set R.APP_STAT_HELD 1).app = u.app := State.set_app ..
    have hws := wf_set hw R.APP_STAT_HELD 1
    have hone := get_set_same (wf_regs hw) (key := R.APP_STAT) (lo := 29) (n := 1) (by decide) 1
    have hkept := get_set_bits (wf_regs hw) R.APP_STAT (lo := 29) (n := 1) (lo' := 30) (n' := 2) (by decide) (by decide) 1
    have hcount := ((Leaves.refl R.WDOG_STAT u).set R.APP_STAT_HELD 1 (by decide)).get (f := R.WDOG_STAT_RESETS) hw
    refine ⟨(hq.get hws R.WDOG_STAT_RESETS (by decide)).trans (hcount.trans hresets), (congrArg AppState.firstReset hq.core).trans ?_,
      (congrArg AppState.kickAt hq.core).trans ?_, (hq.get hws R.APP_STAT_STATE (by decide)).trans (hkept.trans hstate),
      (hq.get hws R.APP_STAT_HELD (by decide)).trans hone⟩
    · rw [happ, hnow]; exact hfirst
    · rw [happ, hnow]; exact hkick
  · rw [if_neg hheld, if_neg hheld]
    exact ⟨hresets, hfirst, hkick, hstate, rfl⟩

theorem appWdogExpiry_row (wf : Memory.wf s = true) (hcounts : wdogCounts s = true) (hfirst : s.app.firstReset = none) :
    ∃ u t, exec .appWdogExpiry s = .next t ∧ t = healthFails u [4] ∧ u.get R.WDOG_STAT_RESETS = 1 ∧ u.app.firstReset = some u.now ∧
      u.app.kickAt = u.now ∧ u.get R.APP_STAT_STATE = appReset ∧
      (if s.get R.WDOG_CFG_LIMIT ≤ 1 then u.get R.APP_STAT_HELD = 1 else u.app.reloading = true) := by
  have hlimit := ((Leaves.refl R.WDOG_CFG s).reach (s.app.kickAt + s.get R.WDOG_CFG_TIMEOUT * 1000000)).get (f := R.WDOG_CFG_LIMIT) wf
  have hw := wf_keeps (State.reach_keeps (Keeps.refl s) (s.app.kickAt + s.get R.WDOG_CFG_TIMEOUT * 1000000)) wf
  have hexec := exec_appWdogExpiry hcounts hfirst
  rw [← hlimit]
  generalize s.reach (s.app.kickAt + s.get R.WDOG_CFG_TIMEOUT * 1000000) = v at hlimit hw hexec
  exact ⟨_, _, hexec, rfl, wdogEnded_row hw⟩

/-- Settles O30. -/
theorem coreAndWatchdogRowsComplete : Obligations.CoreAndWatchdogRowsComplete := by
  refine ⟨fun s wf => ⟨fun c hworks => congrArg Host.Outcome.next (if_pos hworks), fun c hworks => cpuWdogExpiry_row wf hworks,
    fun c hrun hc hstate => restartDone_row wf hrun hc hstate, fun kind addr hrun hstate hkind hmem => appAccessFault_row wf hrun hstate hkind hmem,
    fun kind addr => if_neg (by simp), fun hrun hstate => appDoubleFault_row wf hrun hstate, fun hrun hhold => appHold_row wf hrun hhold,
    fun hrun hhold hloaded => appRelease_row wf hrun hhold hloaded, fun ok hrun hreload hhold hver => appReload_row wf hrun hreload hhold hver,
    fun ok hrun hreload hhold hver => ?_⟩, fun s wf => ⟨fun hrun => ?_, fun q v hrun hother => ?_, fun hcounts hwarn => appWdogHalf_row wf hcounts hwarn,
    fun hcounts hfirst => appWdogExpiry_row wf hcounts hfirst⟩⟩
  · change execAppReloadDone ok s = _
    rw [execAppReloadDone, if_pos (by simp [hrun, hreload, hhold]), if_neg (by simp [hver])]
  · obtain ⟨hkick, hwarn, -⟩ := restartWdog_row wf
    refine ⟨restartWdog s, ?_, hkick, hwarn⟩
    change execAppWdogKick .app 0x5A17 s = _
    rw [execAppWdogKick, if_neg (by simp [hrun]), if_pos ⟨rfl, rfl⟩]
  · change execAppWdogKick q v s = _
    rw [execAppWdogKick, if_neg (by simp [hrun]), if_neg (by rintro ⟨hq, hv⟩; exact hother.elim (· hq) (· hv))]

end Sys2Proof.Machine
end

section
/-!
The rows of the mailboxes (O31).
-/

namespace Sys2Proof.Machine

variable {s : State}

theorem queue_queueViews (s : State) (q k : Nat) : (queueViews s q).queue k = s.queue k :=
  queue_of_queues ((queueViews_frame rfl (Frame.refl 0x800001 s) q).of .queues rfl) k

/-! ## MBA -/

/-- The message being built with one word more (R441). -/
def grownItem (s : State) : QueueItem :=
  let old := (s.queue mba).building.getD { words := 0, poison := [], tag := 0, data := [] }
  { old with words := old.words + 1, data := old.data ++ mailWord s }

theorem exec_mbTxPush {endWord : Bool} (hrun : running s = true) (hopen : s.bit (R.Q_STAT_RESETTING mba) = false)
    (hroom : laneRoom (s.queue mba) mba 0 1 = true) : exec (.mbTxPush endWord) s = .next (queueViews (putQueue s mba
      (if endWord then enter { s.queue mba with building := none } 0 (grownItem s) else { s.queue mba with building := some (grownItem s) })) mba) := by
  change execMbTxPush endWord s = _
  rw [execMbTxPush, if_pos (by simp [hrun, hopen])]
  exact if_pos hroom

theorem mbTxPush_end_row (hrun : running s = true) (hopen : s.bit (R.Q_STAT_RESETTING mba) = false) (hroom : laneRoom (s.queue mba) mba 0 1 = true) :
    ∃ t, exec (.mbTxPush true) s = .next t ∧ (t.queue mba).building = none ∧ ((t.queue mba).lane 0).length = ((s.queue mba).lane 0).length + 1 := by
  refine ⟨_, exec_mbTxPush hrun hopen hroom, ?_, ?_⟩
  · rw [queue_queueViews, queue_putQueue_self, if_pos rfl]
    rfl
  · rw [queue_queueViews, queue_putQueue_self, if_pos rfl, lane_enter, List.length_append]
    rfl

theorem mbTxPush_word_row (hrun : running s = true) (hopen : s.bit (R.Q_STAT_RESETTING mba) = false) (hroom : laneRoom (s.queue mba) mba 0 1 = true) :
    ∃ t, exec (.mbTxPush false) s = .next t ∧ ((t.queue mba).building.map fun i => i.words) =
      some (((s.queue mba).building.elim 0 fun i => i.words) + 1) := by
  refine ⟨_, exec_mbTxPush hrun hopen hroom, ?_⟩
  rw [queue_queueViews, queue_putQueue_self, if_neg Bool.false_ne_true]
  cases h : (s.queue mba).building with
  | none => simp [grownItem, h]
  | some i => simp [grownItem, h]

/-! ## MBC -/

theorem mbRxPop_word_row {l : Nat} {i : QueueItem} (hrun : running s = true) (hopen : s.bit (R.Q_STAT_RESETTING mbc) = false)
    (hhead : headItem (s.queue mbc).lanes = some (l, i)) (hmore : (s.queue mbc).taken + 1 < i.words) :
    ∃ t, exec .mbRxPop s = .next t ∧ (t.queue mbc).taken = (s.queue mbc).taken + 1 ∧ (t.queue mbc).lanes = (s.queue mbc).lanes := by
  have hexec : exec .mbRxPop s = .next (queueViews (putQueue s mbc { s.queue mbc with taken := (s.queue mbc).taken + 1 }) mbc) := by
    change execMbRxPop s = _
    rw [execMbRxPop, if_pos (by simp [hrun, hopen])]
    dsimp only
    rw [hhead]
    dsimp only
    rw [if_pos hmore]
  refine ⟨_, hexec, ?_, ?_⟩
  · rw [queue_queueViews, queue_putQueue_self]
  · rw [queue_queueViews, queue_putQueue_self]

theorem mbRxPop_empty_row (hrun : running s = true) (hopen : s.bit (R.Q_STAT_RESETTING mbc) = false) (hnone : headItem (s.queue mbc).lanes = none) :
    exec .mbRxPop s = .next ((underrun s mbc).set R.MB_RX_STAT_UNDERRUN 1) := by
  change execMbRxPop s = _
  rw [execMbRxPop, if_pos (by simp [hrun, hopen])]
  dsimp only
  rw [hnone]

/-! ## The services of the runtime (Table 16-4) -/

theorem mbEcho_unknown_row {t : State} {m : List Byte} (htake : takeRequest s (fun k => !([2, 3, 4].contains k)) = some (t, m))
    (hother : leField m 0 2 ≠ 1) : exec .mbEcho s = .next (replyMail t m 1 []) := by
  change execMbEcho s = _
  rw [execMbEcho, htake]
  exact if_pos hother

theorem mbEcho_row {t : State} {m p : List Byte} (htake : takeRequest s (fun k => !([2, 3, 4].contains k)) = some (t, m))
    (hone : leField m 0 2 = 1) (hp : requestPayload m (fun _ => true) = some p) : exec .mbEcho s = .next (replyMail t m 0 p) := by
  change execMbEcho s = _
  rw [execMbEcho, htake]
  dsimp only
  rw [if_neg (by simp [hone]), hp]

theorem mbSubscription_row {t : State} {m p : List Byte} (htake : takeRequest s (fun k => decide (k = 2)) = some (t, m))
    (hp : requestPayload m (fun n => decide (n = 4)) = some p) :
    exec .mbEventSubscription s = .next (replyMail (t.putApp { t.app with forward := leBytes p }) m 0 []) := by
  change execMbEventSubscription s = _
  rw [execMbEventSubscription, htake]
  dsimp only
  rw [hp]

theorem mbNodeLine_row {t : State} {m p : List Byte} (htake : takeRequest s (fun k => decide (k = 3)) = some (t, m))
    (hp : requestPayload m (fun n => decide (n = 4)) = some p) (hline : leBytes p < lineCount t) (hclean : linePoisoned t (leBytes p) = false) :
    exec .mbNodeLineRead s = .next (replyMail t m 0 (toLE 64 (t.line (leBytes p)).toNat)) := by
  change execMbNodeLineRead s = _
  rw [execMbNodeLineRead, htake]
  dsimp only
  rw [hp]
  exact if_neg (not_or.mpr ⟨Nat.not_le.mpr hline, ne_true_of_eq_false hclean⟩)

theorem mbTimebase_row {t : State} {m p : List Byte} (htake : takeRequest s (fun k => decide (k = 4)) = some (t, m))
    (hp : requestPayload m (fun n => decide (n = 0)) = some p) :
    exec .mbTimebase s = .next (replyMail t m 0 (toLE 8 t.tbNs ++ toLE 2 (t.get R.TIME_QUALITY_CODE) ++ toLE 4 (t.get R.TIME_ERR_ERR))) := by
  change execMbTimebase s = _
  rw [execMbTimebase, htake]
  dsimp only
  rw [hp]

/-- Settles O31. -/
theorem mailboxRowsComplete : Obligations.MailboxRowsComplete := by
  intro s wf
  refine ⟨fun hrun hopen hroom => ⟨mbTxPush_end_row hrun hopen hroom, mbTxPush_word_row hrun hopen hroom⟩, fun endWord hrun hopen hfull => ?_,
    fun hrun hopen hnone => mbRxPop_empty_row hrun hopen hnone, fun l i hrun hopen hhead hmore => mbRxPop_word_row hrun hopen hhead hmore,
    fun t m htake hother => mbEcho_unknown_row htake hother, fun t m p htake hone hp => mbEcho_row htake hone hp,
    fun t m p htake hp => mbSubscription_row htake hp, fun t m p htake hp hline hclean => mbNodeLine_row htake hp hline hclean,
    fun t m p htake hp => mbTimebase_row htake hp⟩
  change execMbTxPush endWord s = _
  rw [execMbTxPush, if_pos (by simp [hrun, hopen])]
  exact if_neg (ne_true_of_eq_false hfull)

end Sys2Proof.Machine
end

section
/-!
The rows of the GPIO block and of the interrupt controller (O32).
-/

namespace Sys2Proof.Machine

variable {key : Nat} {s0 s : State}

/-! ## Bits of a register -/

theorem natBit_natSetBits (v i j x : Nat) : natBit (natSetBits v i 1 x) j = if j = i then decide (x % 2 = 1) else natBit v j := by
  split
  next h => rw [h, natBit, natBits_natSetBits_self, pow_one]
  next h =>
    rcases Nat.lt_or_gt_of_ne h with h | h
    · rw [natBit, natBits_natSetBits_below _ _ _ _ _ _ h, natBit]
    · rw [natBit, natBits_natSetBits_above _ _ _ _ _ _ h, natBit]

theorem decide_boolNat (b : Bool) : decide (boolNat b % 2 = 1) = b := by cases b <;> decide

theorem getBitAt_setBitAt (wf : Memory.wf s = true) (k j : Nat) {i : Nat} (hi : i < 32) (b : Bool) :
    (s.setBitAt ⟨k, 0, 32⟩ i b).getBitAt ⟨k, 0, 32⟩ j = if j = i then b else s.getBitAt ⟨k, 0, 32⟩ j := by
  have hlt : natSetBits (s.get ⟨k, 0, 32⟩) i 1 (boolNat b) < 2 ^ 32 := natSetBits_lt _ _ _ _ _ (get_lt (s := s) (f := ⟨k, 0, 32⟩)) hi
  rw [State.getBitAt, State.setBitAt, get_set_same (wf_regs wf) (by decide), Nat.mod_eq_of_lt hlt, natBit_natSetBits, decide_boolNat, State.getBitAt]

theorem aicPending_setPending (wf : Memory.wf s = true) (x : Nat) {src : Nat} (hsrc : aicReserved src = false) (b : Bool) :
    aicPending (setPending s src b) x = if x = src then b else aicPending s x := by
  rw [setPending, if_neg (ne_true_of_eq_false hsrc), aicPending]
  by_cases hword : x / 32 = src / 32
  · rw [hword]
    refine (getBitAt_setBitAt wf (R.AIC_PEND (src / 32)) (x % 32) (Nat.mod_lt src (by decide)) b).trans ?_
    by_cases hx : x = src
    · rw [if_pos hx, if_pos (by rw [hx])]
    · rw [if_neg hx, if_neg (by omega), aicPending, hword]
      rfl
  · have hne : R.AIC_PEND (x / 32) ≠ R.AIC_PEND (src / 32) := by simp only [R.AIC_PEND]; omega
    rw [if_neg (by rintro rfl; exact hword rfl), State.getBitAt, State.setBitAt, R.AIC_PEND_BITS, R.AIC_PEND_BITS, get_set_key (wf_regs wf) hne]
    rfl

/-! ## An update never takes a pending bit away (R450) -/

theorem keeps_setPending (s : State) (src : Nat) (b : Bool) : Keeps s (setPending s src b) := setPending_keeps (Keeps.refl s) src b

theorem pending_setPending (wf : Memory.wf s = true) {x : Nat} (src : Nat) (h : aicPending s x = true) : aicPending (setPending s src true) x = true := by
  cases hsrc : aicReserved src with
  | true => rw [setPending, if_pos hsrc]; exact h
  | false => rw [aicPending_setPending wf x hsrc, h, ite_self]

/-- A level source whose window has passed pends again while its request is high. -/
def pendAgain (now : Nat) (t : State) (e : Nat × Nat) : State :=
  if e.2 ≤ now then (if t.app.levels.contains e.1 then setPending t e.1 true else t) else t

/-- The windows that have passed are forgotten. -/
def windowsPassed (s : State) : State := s.putApp { s.app with ignored := s.app.ignored.filter fun e => decide (s.now < e.2) }

theorem aicExpire_eq (s : State) : aicExpire s = foldState (pendAgain s.now) (windowsPassed s) s.app.ignored := rfl

theorem pending_pendAgain {now : Nat} {x : Nat} (l : List (Nat × Nat)) : ∀ u, Memory.wf u = true → aicPending u x = true →
    aicPending (foldState (pendAgain now) u l) x = true ∧ Memory.wf (foldState (pendAgain now) u l) = true := by
  induction l with
  | nil => exact fun u w h => ⟨h, w⟩
  | cons e l ih =>
    intro u w h
    have hstep : aicPending (pendAgain now u e) x = true ∧ Memory.wf (pendAgain now u e) = true := by
      unfold pendAgain
      split
      · split
        · exact ⟨pending_setPending w e.1 h, wf_keeps (keeps_setPending u e.1 true) w⟩
        · exact ⟨h, w⟩
      · exact ⟨h, w⟩
    exact ih _ hstep.2 hstep.1

theorem wf_windowsPassed (wf : Memory.wf s = true) : Memory.wf (windowsPassed s) = true :=
  wf_keeps (State.putApp_keeps (Keeps.refl s) _ fun w => ⟨wf_iram w, wf_dram w⟩) wf

/-- The views of the controller with its windows expired (R449). -/
def aicViews (s : State) : State :=
  ((aicExpire s).set R.AIC_RUN_DEPTH (aicExpire s).app.stack.length).set R.AIC_RUN_PRIO (aicRunning (aicExpire s))

/-- An update leaves the registers as the views show them. -/
theorem aicUpdate_regs (s : State) : (aicUpdate s).regs = (aicViews s).regs := by
  rw [aicUpdate]
  change (if _ then State.putApp (aicViews s) _ else State.putApp (aicViews s) _).regs = _
  split
  · rw [State.putApp_regs]
  · rw [State.putApp_regs]

theorem get_aicUpdate (s : State) (f : Fld) : (aicUpdate s).get f = (aicViews s).get f := by
  rw [get_eq_word, get_eq_word, State.word, aicUpdate_regs]
  rfl

theorem leaves_aicViews (s : State) (hrun : R.AIC_RUN ≠ key) : Leaves key (aicExpire s) (aicViews s) :=
  ((Leaves.refl key _).set R.AIC_RUN_DEPTH _ hrun).set R.AIC_RUN_PRIO _ hrun

theorem pending_aicUpdate (wf : Memory.wf s = true) {x : Nat} (h : aicPending s x = true) : aicPending (aicUpdate s) x = true := by
  have hexp := pending_pendAgain (now := s.now) s.app.ignored (windowsPassed s) (wf_windowsPassed wf) h
  rw [← aicExpire_eq] at hexp
  have hrun : R.AIC_RUN ≠ R.AIC_PEND (x / 32) := by simp only [R.AIC_RUN, R.AIC_PEND]; omega
  rw [aicPending, State.getBitAt, get_aicUpdate, (leaves_aicViews s hrun).get (f := R.AIC_PEND_BITS (x / 32)) hexp.2]
  exact hexp.1

theorem pending_aicEdge (wf : Memory.wf s = true) {src : Nat} (hsrc : aicReserved src = false) : aicPending (aicEdge s src) src = true := by
  rw [aicEdge, if_neg (ne_true_of_eq_false hsrc)]
  refine pending_aicUpdate (wf_keeps (keeps_setPending s src true) wf) ?_
  rw [aicPending_setPending wf src hsrc, if_pos rfl]

/-! ## GPIO (R443) -/

theorem gpioPends_quiet (s : State) (n : Nat) (was level : Bool) : Quiet s (gpioPends s n was level) := by
  unfold gpioPends
  split
  · exact Quiet.ite (aicEdge_quiet (Quiet.refl s) _) (Quiet.refl s)
  · exact Quiet.ite (aicEdge_quiet (Quiet.refl s) _) (Quiet.refl s)
  · exact Quiet.ite (aicEdge_quiet (Quiet.refl s) _) (Quiet.refl s)
  · exact aicLevel_quiet (Quiet.refl s) _ _
  · exact aicLevel_quiet (Quiet.refl s) _ _
  · exact Quiet.refl s

theorem aicReserved_gpio {n : Nat} (hn : n < 32) : aicReserved (32 + n) = false := by
  have : ∀ k < 32, aicReserved (32 + k) = false := by decide
  exact this n hn

theorem gpioInputChange_row (wf : Memory.wf s = true) (hrun : running s = true) {n : Nat} (hn : n < 32) (level : Bool) :
    ∃ t, exec (.gpioInputChange n level) s = .next t ∧ natBit (t.get R.GPIO_IN_BITS) n = level ∧
      (s.get (R.GPIO_CFG_IRQ n) = 1 → level = true → natBit (s.get R.GPIO_IN_BITS) n = false → aicPending t (32 + n) = true) := by
  have hexec : exec (.gpioInputChange n level) s =
      .next (gpioPends (s.setBitAt R.GPIO_IN_BITS n level) n (natBit (s.get R.GPIO_IN_BITS) n) level) := if_pos (by simp [hrun, hn])
  have hlevel : natBit ((s.setBitAt R.GPIO_IN_BITS n level).get R.GPIO_IN_BITS) n = level :=
    (getBitAt_setBitAt wf R.GPIO_IN n hn level).trans (if_pos rfl)
  have hirq : (s.setBitAt R.GPIO_IN_BITS n level).get (R.GPIO_CFG_IRQ n) = s.get (R.GPIO_CFG_IRQ n) :=
    get_set_key (wf_regs wf) (by simp only [R.GPIO_CFG, R.GPIO_IN]; omega) ..
  have hw : Memory.wf (s.setBitAt R.GPIO_IN_BITS n level) = true := wf_set wf _ _
  generalize s.setBitAt R.GPIO_IN_BITS n level = u at hexec hlevel hirq hw
  refine ⟨_, hexec, ?_, fun hone hhigh hlow => ?_⟩
  · rw [(gpioPends_quiet u n _ level).get hw R.GPIO_IN_BITS (by decide), hlevel]
  · rw [gpioPends, hirq, hone, hlow, hhigh]
    exact pending_aicEdge hw (aicReserved_gpio hn)

/-! ## Claims and ends (R446, R447) -/

/-- With no window to expire the update only shows the views and the request. -/
theorem aicExpire_of_none (hnone : s.app.ignored = []) : aicExpire s = windowsPassed s := by rw [aicExpire_eq, hnone]; rfl

theorem leaves_aicUpdate (hnone : s.app.ignored = []) (hrun : R.AIC_RUN ≠ key) : Leaves key s (aicUpdate s) := by
  have hexp : Leaves key s (aicExpire s) := by
    rw [aicExpire_of_none hnone]
    exact (Leaves.refl key s).same (State.putApp_keeps (Keeps.refl s) _ fun w => ⟨wf_iram w, wf_dram w⟩) rfl
  refine ⟨aicUpdate_keeps (Keeps.refl s), fun w => ?_⟩
  rw [State.word, aicUpdate_regs]
  exact (hexp.trans (leaves_aicViews s hrun)).word w

theorem stack_aicUpdate (s : State) : (aicUpdate s).app.stack = s.app.stack :=
  show (aicUpdate s).app.core.stack = s.app.core.stack from congrArg AppState.stack (aicUpdate_quiet (Quiet.refl s)).core

theorem lingering_aicUpdate (s : State) : (aicUpdate s).app.lingering = s.app.lingering :=
  show (aicUpdate s).app.core.lingering = s.app.core.lingering from congrArg AppState.lingering (aicUpdate_quiet (Quiet.refl s)).core

/-- What a claim chooses from: the pending and enabled words, the priorities and the running priority. -/
structure SameClaims (s u : State) : Prop where
  pend : ∀ k, u.get (R.AIC_PEND_BITS k) = s.get (R.AIC_PEND_BITS k)
  en : ∀ k, u.get (R.AIC_EN_BITS k) = s.get (R.AIC_EN_BITS k)
  prio : ∀ k, u.get (R.AIC_SRC_PRIO k) = s.get (R.AIC_SRC_PRIO k)
  stack : u.app.stack = s.app.stack

theorem aicBest_congr {u : State} (h : SameClaims s u) : aicBest u = aicBest s := by
  have hcand : aicCandidates u = aicCandidates s := by
    unfold aicCandidates
    rw [show (fun k => wordSources (32 * k) (u.get (R.AIC_PEND_BITS k) &&& u.get (R.AIC_EN_BITS k))) =
      fun k => wordSources (32 * k) (s.get (R.AIC_PEND_BITS k) &&& s.get (R.AIC_EN_BITS k)) from funext fun k => by rw [h.pend, h.en]]
  have hqual : aicQualifies u = aicQualifies s := funext fun src => by
    rw [aicQualifies, aicQualifies, aicPending, aicPending, aicEnabled, aicEnabled, State.getBitAt, State.getBitAt, State.getBitAt, State.getBitAt,
      h.pend, h.en, h.prio, aicRunning, aicRunning, h.stack]
  have hbetter : aicBetter u = aicBetter s := funext fun best => funext fun src => by
    cases best with
    | none => rfl
    | some b => rw [aicBetter, aicBetter, h.prio, h.prio]
  rw [aicBest, aicBest, hcand, hqual, hbetter]

theorem sameClaims_aicUpdate (wf : Memory.wf s = true) (hnone : s.app.ignored = []) : SameClaims s (aicUpdate s) where
  pend k := (leaves_aicUpdate hnone (by simp only [R.AIC_RUN, R.AIC_PEND_BITS, R.AIC_PEND]; omega)).get wf
  en k := (leaves_aicUpdate hnone (by simp only [R.AIC_RUN, R.AIC_EN_BITS, R.AIC_EN]; omega)).get wf
  prio k := (leaves_aicUpdate hnone (by simp only [R.AIC_RUN, R.AIC_SRC_PRIO, R.AIC_SRC]; omega)).get wf
  stack := stack_aicUpdate s

theorem exec_aicClaimRead (hrun : running s = true) (hling : s.app.lingering = []) : exec (.aicClaimRead .app) s =
    (aicBest (aicUpdate s)).elim (.next (((aicUpdate s).bump R.AIC_CNT_NONE).answer .app 0x3FF))
      fun src => .next ((claimSource (aicUpdate s) src).answer .app ((aicUpdate s).get (R.AIC_SRC_PRIO src) * 2 ^ 16 + src)) := by
  have hlate : lateSources (aicUpdate s) = [] := by rw [lateSources, lingering_aicUpdate, hling]; rfl
  change execAicClaimRead .app s = _
  rw [execAicClaimRead, if_neg (by simp [openTo_of_running hrun]), if_neg (by simp)]
  dsimp only
  rw [hlate]
  dsimp only [List.isEmpty_nil]
  rw [if_pos rfl, if_pos (by rfl), List.append_nil]
  change (match aicBest (aicUpdate s) with | none => _ | some src => _) = _
  cases aicBest (aicUpdate s) with
  | none => rfl
  | some src => rfl

theorem stack_claimSource (s : State) (src : Nat) : (claimSource s src).app.stack = (s.get (R.AIC_SRC_PRIO src), src) :: s.app.stack := by
  have hpend (t : State) (b : Bool) : (setPending t src b).app = t.app := (setPending_frame rfl (Frame.refl 0x1 t) src b).of .app rfl
  unfold claimSource
  dsimp only
  rw [stack_aicUpdate, State.putApp_app]
  split
  · rw [State.setBitAt_app, setActive, State.setBitAt_app, hpend]
  · rw [setActive, State.setBitAt_app, hpend]

theorem claim_row (wf : Memory.wf s = true) (hrun : running s = true) {src : Nat} (hign : s.app.ignored = []) (hling : s.app.lingering = [])
    (hbest : aicBest s = some src) : ∃ t, exec (.aicClaimRead .app) s = .next t ∧
      assocGet t.reply Requester.app.bank = some (s.get (R.AIC_SRC_PRIO src) * 2 ^ 16 + src) ∧
      t.app.stack = (s.get (R.AIC_SRC_PRIO src), src) :: s.app.stack := by
  have hsame := sameClaims_aicUpdate wf hign
  have hexec := exec_aicClaimRead hrun hling
  rw [aicBest_congr hsame, hbest] at hexec
  refine ⟨_, hexec, ?_, ?_⟩
  · rw [hsame.prio]
    exact assocGet_assocSet_self ..
  · refine (stack_claimSource (aicUpdate s) src).trans ?_
    rw [hsame.prio, hsame.stack]

theorem claim_none_row (wf : Memory.wf s = true) (hrun : running s = true) (hign : s.app.ignored = []) (hling : s.app.lingering = [])
    (hbest : aicBest s = none) : ∃ t, exec (.aicClaimRead .app) s = .next t ∧ assocGet t.reply Requester.app.bank = some 0x3FF ∧
      t.app.stack = s.app.stack := by
  have hexec := exec_aicClaimRead hrun hling
  rw [aicBest_congr (sameClaims_aicUpdate wf hign), hbest] at hexec
  exact ⟨_, hexec, assocGet_assocSet_self .., stack_aicUpdate s⟩

theorem eoi_row (hrun : running s = true) {p src : Nat} {rest : List (Nat × Nat)} (htop : s.app.stack = (p, src % 1024) :: rest) :
    ∃ t, exec (.aicEoiWrite .app src) s = .next t ∧ t.app.stack = rest := by
  have hpend (t : State) (x : Nat) (b : Bool) : (setPending t x b).app = t.app := (setPending_frame rfl (Frame.refl 0x1 t) x b).of .app rfl
  have hexec : exec (.aicEoiWrite .app src) s = execAicEoiWrite .app src s := rfl
  rw [execAicEoiWrite, if_neg (by simp [hrun]), htop] at hexec
  dsimp only at hexec
  rw [if_neg (fun h : src % 1024 ≠ src % 1024 => h rfl)] at hexec
  refine ⟨_, hexec, ?_⟩
  rw [stack_aicUpdate]
  split
  · rw [hpend, State.putApp_app, setActive, State.setBitAt_app, State.putApp_app]
  · rw [setActive, State.setBitAt_app, State.putApp_app]

/-! ## The controller's own registers -/

theorem aicGdis_row (wf : Memory.wf s = true) (hrun : running s = true) (v : Nat) :
    ∃ t, exec (.aicGdisWrite v) s = .next t ∧ t.get R.AIC_GDIS_GDIS = v % 2 ∧ (v % 2 = 1 → t.app.request = none) := by
  have hexec : exec (.aicGdisWrite v) s = .next (aicUpdate (s.set R.AIC_GDIS_GDIS (v % 2))) :=
    congrArg Host.Outcome.next (if_pos (openTo_of_running hrun _))
  have hgdis : (s.set R.AIC_GDIS_GDIS (v % 2)).get R.AIC_GDIS_GDIS = v % 2 := by
    refine (get_set_same (wf_regs wf) (by decide) _).trans ?_
    omega
  have hw := wf_set wf R.AIC_GDIS_GDIS (v % 2)
  generalize s.set R.AIC_GDIS_GDIS (v % 2) = u at hexec hgdis hw
  have hq := aicUpdate_quiet (Quiet.refl u)
  refine ⟨_, hexec, (hq.get hw R.AIC_GDIS_GDIS (by decide)).trans hgdis, fun hone => ?_⟩
  have hviews : (aicViews u).bit R.AIC_GDIS_GDIS = true := by
    have hsame : (aicViews u).get R.AIC_GDIS_GDIS = u.get R.AIC_GDIS_GDIS :=
      (get_aicUpdate u R.AIC_GDIS_GDIS).symm.trans (hq.get hw R.AIC_GDIS_GDIS (by decide))
    rw [bit_eq_get, hsame, hgdis, hone]
    rfl
  have hoff : (!(aicViews u).bit R.AIC_GDIS_GDIS && (aicBest (aicViews u)).isSome) = false := by rw [hviews]; rfl
  have hupdate : aicUpdate u = (aicViews u).putApp { (aicViews u).app with request := none } := if_neg (ne_true_of_eq_false hoff)
  rw [hupdate, State.putApp_app]

theorem aicSwi_row (wf : Memory.wf s = true) (hrun : running s = true) (v : Nat) :
    ∃ t, exec (.aicSwiWrite v) s = .next t ∧ t.get R.AIC_SWI_SWI = s.get R.AIC_SWI_SWI ||| v % 2 ^ 16 := by
  have hor : (s.get R.AIC_SWI_SWI ||| v % 2 ^ 16) % 2 ^ 16 = s.get R.AIC_SWI_SWI ||| v % 2 ^ 16 :=
    Nat.mod_eq_of_lt (Nat.or_lt_two_pow (get_lt (s := s) (f := R.AIC_SWI_SWI)) (Nat.mod_lt v (by decide)))
  have hset : (s.set R.AIC_SWI_SWI (s.get R.AIC_SWI_SWI ||| v % 2 ^ 16)).get R.AIC_SWI_SWI = s.get R.AIC_SWI_SWI ||| v % 2 ^ 16 :=
    (get_set_same (wf_regs wf) (by decide) _).trans hor
  have hq : Quiet (s.set R.AIC_SWI_SWI (s.get R.AIC_SWI_SWI ||| v % 2 ^ 16)) (foldState (fun (t : State) i => aicEdge t (80 + i))
      (s.set R.AIC_SWI_SWI (s.get R.AIC_SWI_SWI ||| v % 2 ^ 16)) ((List.range 16).filter (natBit v))) :=
    Quiet.fold (Quiet.refl _) fun _ _ _ hu => aicEdge_quiet hu _
  exact ⟨_, if_pos (openTo_of_running hrun _), (hq.get (wf_set wf _ _) R.AIC_SWI_SWI (by decide)).trans hset⟩

/-- The enables cleared in the delivery window stay claimable (R451). -/
def lingers (s : State) (k v : Nat) : State :=
  s.putApp { s.app with lingering := (match s.app.request with
    | none => []
    | some t => if s.now < t + aicWindow then ((wordSources (32 * k) (s.get (R.AIC_EN_BITS k) &&& (2 ^ 32 - 1 - v % 2 ^ 32))).filter
        (aicQualifies s)).map fun c => (c, t + aicWindow) else []) ++ s.app.lingering.filter fun e => decide (s.now < e.2) }

theorem wf_lingers (wf : Memory.wf s = true) (k v : Nat) : Memory.wf (lingers s k v) = true :=
  wf_keeps (State.putApp_keeps (Keeps.refl s) _ fun w => ⟨wf_iram w, wf_dram w⟩) wf

theorem aicEn_row (wf : Memory.wf s = true) (hrun : running s = true) {k : Nat} (v : Nat) (hk : k < 8) :
    ∃ t, exec (.aicEnWrite .app k v) s = .next t ∧ t.get (R.AIC_EN_BITS k) = v % 2 ^ 32 := by
  have hexec : exec (.aicEnWrite .app k v) s = .next (aicUpdate ((lingers (aicUpdate s) k v).set (R.AIC_EN_BITS k) (v % 2 ^ 32))) :=
    if_pos (by simp [hrun, hk])
  have hw : Memory.wf (lingers (aicUpdate s) k v) = true := wf_lingers (wf_keeps (aicUpdate_keeps (Keeps.refl s)) wf) k v
  generalize lingers (aicUpdate s) k v = u at hexec hw
  refine ⟨_, hexec, ?_⟩
  rw [(aicUpdate_quiet (Quiet.refl _)).get (wf_set hw _ _) (R.AIC_EN_BITS k) (noisy_eq_false (by simp only [R.AIC_EN_BITS, R.AIC_EN]; omega))]
  refine (get_set_same (wf_regs hw) (by decide) _).trans ?_
  omega

/-- Settles O32. -/
theorem interruptRowsComplete : Obligations.InterruptRowsComplete := by
  intro s wf hrun
  refine ⟨fun v => ⟨congrArg Host.Outcome.next (if_pos (openTo_of_running hrun _)), congrArg Host.Outcome.next (if_pos (openTo_of_running hrun _))⟩,
    fun n level hn => gpioInputChange_row wf hrun hn level, fun src hsrc hedge => ?_, fun src high hsrc => if_neg (by simp [hsrc]), fun q hq => ?_,
    fun src hign hling hbest => claim_row wf hrun hign hling hbest, fun hign hling hbest => claim_none_row wf hrun hign hling hbest,
    fun p rest src htop => eoi_row hrun htop, fun src hempty => ?_, fun v => aicGdis_row wf hrun v, fun v => aicSwi_row wf hrun v,
    fun k v hk => aicEn_row wf hrun v hk⟩
  · refine ⟨aicEdge s src, ?_, pending_aicEdge wf hsrc⟩
    change execAicSourceRequest src true s = _
    rw [execAicSourceRequest, if_pos (by simp [hrun, hsrc]), if_neg (by simp [hedge]), if_pos rfl]
  · change execAicClaimRead q s = _
    rw [execAicClaimRead, if_neg (by simp [openTo_of_running hrun]), if_pos hq]
  · change execAicEoiWrite .app src s = _
    rw [execAicEoiWrite, if_neg (by simp [hrun]), hempty]

end Sys2Proof.Machine
end

section
/-!
The security module's rows (chapter 17): a self-test with no failing engine only counts its passes, and an attestation writes 88 report
words of the requester's own bank.
-/

namespace Sys2Proof.Machine

variable {s : State} {q : Requester}

/-! ## Results -/

theorem get_setResult (wf : Memory.wf s = true) (q : Requester) (r : Nat) : (setResult s q r).get (R.SEC_RESULT_RESULT q.bank) = r % 16 := by
  refine (get_set_bits (wf_regs (wf_set wf (R.SEC_RESULT_RESULT q.bank) r)) (R.SEC_RESULT q.bank) (by decide) (by decide) _).trans ?_
  exact get_set_same (wf_regs wf) (by decide) r

theorem Leaves.setResult {key : Nat} {s0 : State} (h : Leaves key s0 s) (q : Requester) (r : Nat) (hk : R.SEC_RESULT q.bank ≠ key) :
    Leaves key s0 (Machine.setResult s q r) := (h.set (R.SEC_RESULT_RESULT q.bank) r hk).set (R.SEC_RESULT_BUSY q.bank) 0 hk

theorem bank_lt (q : Requester) : q.bank < 4 := by cases q <;> decide

theorem secEng_ne_secResult (q : Requester) : R.SEC_RESULT q.bank ≠ R.SEC_ENG := by
  have := bank_lt q
  simp only [R.SEC_RESULT, R.SEC_ENG]
  omega

/-! ## Self-tests -/

/-- A test without failures. -/
theorem testEngines_nil_cons (s : State) (b : Nat) (l : List Nat) : testEngines s (b :: l) [] =
    testEngines (if s.getBitAt R.SEC_ENG_OK b then s.bumpWrap R.SEC_CNT3_ST_PASS else s) l [] := by
  cases hb : s.getBitAt R.SEC_ENG_OK b <;> simp [testEngines, foldState, hb, assocGet]

theorem leaves_testEngines {key : Nat} (hk : R.SEC_CNT3 ≠ key) (l : List Nat) (s : State) : Leaves key s (testEngines s l []) := by
  induction l generalizing s with
  | nil => exact .refl _ _
  | cons b l ih =>
    rw [testEngines_nil_cons]
    exact Leaves.trans (.ite ((Leaves.refl key s).set _ _ hk) (.refl key s)) (ih _)

theorem engines_testEngines (wf : Memory.wf s = true) (l : List Nat) : (testEngines s l []).get R.SEC_ENG_OK = s.get R.SEC_ENG_OK :=
  (leaves_testEngines (by decide) l s).get wf

theorem secHealth_testEngines (wf : Memory.wf s = true) (l : List Nat) : secHealth s (testEngines s l []) = testEngines s l [] := by
  have herr : (testEngines s l []).bit R.SEC_STATUS_ERROR = s.bit R.SEC_STATUS_ERROR := (leaves_testEngines (by decide) l s).bit wf
  exact if_neg (by simp [engines_testEngines wf, herr])

/-- Every engine in service counts one pass. -/
theorem passes_testEngines (wf : Memory.wf s = true) (l : List Nat) : (testEngines s l []).get R.SEC_CNT3_ST_PASS =
    (s.get R.SEC_CNT3_ST_PASS + (l.filter (s.getBitAt R.SEC_ENG_OK)).length) % 2 ^ R.SEC_CNT3_ST_PASS.width := by
  induction l generalizing s with
  | nil => exact (Nat.mod_eq_of_lt (get_lt (s := s) (f := R.SEC_CNT3_ST_PASS))).symm
  | cons b l ih =>
    rw [testEngines_nil_cons]
    cases hb : s.getBitAt R.SEC_ENG_OK b
    · simpa [hb] using ih wf
    · have hbits : (s.bumpWrap R.SEC_CNT3_ST_PASS).getBitAt R.SEC_ENG_OK = s.getBitAt R.SEC_ENG_OK := by
        funext i
        exact congrArg (natBit · i) (((Leaves.refl R.SEC_ENG s).set R.SEC_CNT3_ST_PASS _ (by decide)).get (f := R.SEC_ENG_OK) wf)
      have hcount : (s.bumpWrap R.SEC_CNT3_ST_PASS).get R.SEC_CNT3_ST_PASS = (s.get R.SEC_CNT3_ST_PASS + 1) % 2 ^ R.SEC_CNT3_ST_PASS.width :=
        get_set_same (wf_regs wf) (by decide) _
      have hw : Memory.wf (s.bumpWrap R.SEC_CNT3_ST_PASS) = true := wf_set wf _ _
      rw [if_pos rfl, ih hw, hbits, hcount, List.filter_cons_of_pos hb, List.length_cons, Nat.mod_add_mod]
      congr 1
      omega

theorem testCommand_open (hrun : running s = true) (hok : s.bit R.SEC_STATUS_ERROR = false) (q : Requester) (l : List Nat)
    (fails : List (Nat × Nat)) :
    testCommand s q l fails = setResult (secHealth s (testEngines s l fails)) q (if someFails s l fails then 7 else 0) := by
  rw [testCommand, if_neg (by simp [openTo_of_running hrun]), if_neg (ne_true_of_eq_false hok)]

theorem wf_tested (wf : Memory.wf s = true) (l : List Nat) (fails : List (Nat × Nat)) :
    Memory.wf (secHealth s (testEngines s l fails)) = true :=
  wf_keeps (secHealth_keeps (testEngines_keeps (Keeps.refl s) l fails) s) wf

/-- A test that no engine fails answers 0 and leaves every engine in service. -/
theorem testCommand_passes (wf : Memory.wf s = true) (hrun : running s = true) (hok : s.bit R.SEC_STATUS_ERROR = false) (q : Requester)
    (l : List Nat) : (testCommand s q l []).get (R.SEC_RESULT_RESULT q.bank) = 0 ∧
      (testCommand s q l []).get R.SEC_ENG_OK = s.get R.SEC_ENG_OK := by
  have hnone : someFails s l [] = false := by simp [someFails, assocGet]
  rw [testCommand_open hrun hok, hnone]
  refine ⟨get_setResult (wf_tested wf l []) q _, ?_⟩
  refine (((Leaves.refl R.SEC_ENG _).setResult q _ (secEng_ne_secResult q)).get (f := R.SEC_ENG_OK) (wf_tested wf l [])).trans ?_
  rw [secHealth_testEngines wf, engines_testEngines wf]

/-! ## Attestation -/

theorem leField_toLE_append (x : Nat) (rest : List Byte) : leField (toLE 4 x ++ rest) 0 4 = x % 2 ^ 32 := by
  simp only [leField, sliceBytes, List.drop_zero]
  rw [List.take_append_of_le_length (by simp), List.take_of_length_le (by simp)]
  simp only [toLE, leBytes, BitVec.toNat_ofNat]
  omega

/-- The signed report that answers the requester's nonce (R484). -/
def attested (s : State) (q : Requester) : List Byte :=
  reportBody s ((List.range 8).map fun i => toLE 4 (s.get (R.SEC_NONCE_DATA i q.bank))).flatten ++
    Config.ecdsaSign (identityKey s) s.draws (reportBody s ((List.range 8).map fun i => toLE 4 (s.get (R.SEC_NONCE_DATA i q.bank))).flatten)

theorem leField_attested (s : State) (q : Requester) : leField (attested s q) 0 4 = 0x4E5A4154 := by
  simp only [attested, reportBody, List.append_assoc]
  exact leField_toLE_append 0x4E5A4154 _

/-- Word i of a report is written. -/
def reportWord (report : List Byte) (q : Requester) (t : State) (i : Nat) : State :=
  t.set (R.SEC_ATT_DATA i q.bank) (leField report (4 * i) 4)

theorem secAtt_ne {i : Nat} (hi : i < 88) (h0 : 0 < i) (b : Nat) : R.SEC_ATT i b ≠ R.SEC_ATT 0 b := by
  simp only [R.SEC_ATT]
  omega

theorem secResult_ne_secAtt (q : Requester) : R.SEC_RESULT q.bank ≠ R.SEC_ATT 0 q.bank := by
  simp only [R.SEC_RESULT, R.SEC_ATT]
  omega

/-- The report words hold what they are: nothing but registers changes. -/
theorem reportWords_other (report : List Byte) (q : Requester) (l : List Nat) (t : State) :
    Keeps t (foldState (reportWord report q) t l) ∧ (foldState (reportWord report q) t l).draws = t.draws ∧
      (foldState (reportWord report q) t l).tree = t.tree := by
  induction l generalizing t with
  | nil => exact ⟨Keeps.refl _, rfl, rfl⟩
  | cons i l ih =>
    obtain ⟨hkeeps, hdraws, htree⟩ := ih (reportWord report q t i)
    exact ⟨(State.set_keeps (Keeps.refl t) _ _).trans hkeeps, hdraws.trans (State.set_draws ..), htree.trans (State.set_tree ..)⟩

theorem leaves_reportWords (report : List Byte) (q : Requester) {l : List Nat} (hl : ∀ i ∈ l, 0 < i ∧ i < 88) (t : State) :
    Leaves (R.SEC_ATT 0 q.bank) t (foldState (reportWord report q) t l) :=
  .fold (.refl _ _) fun _ i hi h => h.set (R.SEC_ATT_DATA i q.bank) _ (secAtt_ne (hl i hi).2 (hl i hi).1 _)

theorem reportWords_first (wf : Memory.wf s = true) (report : List Byte) (q : Requester) :
    (foldState (reportWord report q) s (List.range 88)).get (R.SEC_ATT_DATA 0 q.bank) = leField report 0 4 % 2 ^ 32 := by
  have hfirst : (reportWord report q s 0).get (R.SEC_ATT_DATA 0 q.bank) = leField report 0 4 % 2 ^ 32 := by
    have hfit : (R.SEC_ATT_DATA 0 q.bank).lo + (R.SEC_ATT_DATA 0 q.bank).width ≤ 32 := show 0 + 32 ≤ 32 by decide
    rw [reportWord, get_set_same (wf_regs wf) hfit, Nat.mul_zero, show (R.SEC_ATT_DATA 0 q.bank).width = 32 from rfl]
  have hw : Memory.wf (reportWord report q s 0) = true := wf_set wf _ _
  have hrest := leaves_reportWords report q (l := List.range' 1 87) (fun i hi => by rw [List.mem_range'_1] at hi; omega) (reportWord report q s 0)
  have hsplit : foldState (reportWord report q) s (List.range 88) =
      foldState (reportWord report q) (reportWord report q s 0) (List.range' 1 87) := by
    rw [foldState, foldState, List.range_eq_range', List.range'_succ, List.foldl_cons]
  rw [hsplit]
  exact (hrest.get (f := R.SEC_ATT_DATA 0 q.bank) hw).trans hfirst

theorem secAttest_row (wf : Memory.wf s = true) (hrun : running s = true) (h2 : enginesLeft s 2 ≠ []) (h3 : enginesLeft s 3 ≠ []) :
    ∃ t, exec (.secAttest q) s = .next t ∧ t.get (R.SEC_RESULT_RESULT q.bank) = 0 ∧ t.draws = s.draws + 1 ∧ t.tree = s.tree ∧
      t.get (R.SEC_ATT_DATA 0 q.bank) = 0x4E5A4154 := by
  have hexec : exec (.secAttest q) s = .next (setResult (foldState (reportWord (attested s q) q) s.drew (List.range 88)) q 0) := by
    change execSecAttest q s = _
    rw [execSecAttest, if_neg (by simp [openTo_of_running hrun]), if_neg (by simp [h2, h3])]
    rfl
  have hw : Memory.wf s.drew = true := wf_keeps (State.drew_keeps (Keeps.refl s)) wf
  obtain ⟨hkeeps, hdraws, htree⟩ := reportWords_other (attested s q) q (List.range 88) s.drew
  have hword := reportWords_first hw (attested s q) q
  rw [leField_attested] at hword
  have hdrew : s.drew.draws = s.draws + 1 ∧ s.drew.tree = s.tree := ⟨rfl, rfl⟩
  generalize foldState (reportWord (attested s q) q) s.drew (List.range 88) = u at hexec hkeeps hdraws htree hword
  have hwu : Memory.wf u = true := hkeeps.wf hw
  refine ⟨_, hexec, get_setResult hwu q 0, ?_, ?_, ?_⟩
  · exact (((State.set_draws ..).trans (State.set_draws ..)).trans hdraws).trans hdrew.1
  · exact (((State.set_tree ..).trans (State.set_tree ..)).trans htree).trans hdrew.2
  · exact (((Leaves.refl _ u).setResult q 0 (secResult_ne_secAtt q)).get (f := R.SEC_ATT_DATA 0 q.bank) hwu).trans hword

theorem secAttest_refused (hrun : running s = true) (hleft : enginesLeft s 2 = [] ∨ enginesLeft s 3 = []) :
    exec (.secAttest q) s = .next (setResult s q 5) := by
  change execSecAttest q s = _
  rw [execSecAttest, if_neg (by simp [openTo_of_running hrun]), if_pos (by simpa using hleft)]

/-! ## The rows -/

theorem selftestPeriod_row (wf : Memory.wf s = true) (hrun : running s = true) (hok : s.bit R.SEC_STATUS_ERROR = false)
    (hperiod : s.get R.SEC_ST_PERIOD ≠ 0) :
    ∃ t, exec (.selftestPeriod []) s = .next t ∧ t.get R.SEC_ENG_OK = s.get R.SEC_ENG_OK ∧
      t.get R.SEC_CNT3_ST_PASS = (s.get R.SEC_CNT3_ST_PASS + (allEngines.filter (s.getBitAt R.SEC_ENG_OK)).length) %
        2 ^ R.SEC_CNT3_ST_PASS.width := by
  have hexec : exec (.selftestPeriod []) s = .next (secHealth s (testEngines s allEngines [])) := if_pos (by simp [hrun, hok, hperiod])
  rw [secHealth_testEngines wf] at hexec
  exact ⟨_, hexec, engines_testEngines wf _, passes_testEngines wf _⟩

/-- Settles O34. -/
theorem securityRowsComplete : Obligations.SecurityRowsComplete := by
  intro s q wf
  refine ⟨fun tag f rest w hderiving => ?_, secAttest_row wf, secAttest_refused, fun hrun hok => ⟨_, rfl, testCommand_passes wf hrun hok q _⟩,
    fun fails hrun hok hfails => ⟨_, rfl, ?_⟩, fun k hk hrun hok => ⟨_, if_neg (by omega), testCommand_passes wf hrun hok q _⟩,
    fun k fails hk hrun => ?_, selftestPeriod_row wf, fun port hpow hport hgrant => if_pos (by simp [hpow, hport, hgrant]),
    fun e hrun he hok hmany => ?_⟩
  · change execKeyDerivationDone w s = _
    rw [execKeyDerivationDone, hderiving]
  · rw [testCommand_open hrun hok, hfails]
    exact get_setResult (wf_tested wf _ _) q _
  · change execSecSelftestKind q k fails s = _
    rw [execSecSelftestKind, if_pos hk, if_pos (openTo_of_running hrun q)]
  · change execDrbgReseed e true s = _
    rw [execDrbgReseed, if_pos (by rw [hrun, hok, decide_eq_true he, decide_eq_true hmany]; rfl)]
    exact congrArg Host.Outcome.next (if_pos rfl)

end Sys2Proof.Machine
end

section
/-!
Faults of a line (chapter 18, R499 to R511): what a failing line sets in motion and what the answer of its source does. Writing a line
leaves the recoveries under way alone.
-/

namespace Sys2Proof.Machine

variable {s : State} {line col : Nat}

/-! ## Recoveries -/

theorem recoveries_checkWritten (s : State) (m : LineMem) (n : Nat) : (checkWritten s m n).mi.recoveries = s.mi.recoveries := by
  simp only [checkWritten]
  split_ifs <;> rfl

theorem recoveries_tileTouched (s : State) (n : Nat) : (tileTouched s n).mi.recoveries = s.mi.recoveries := by
  unfold tileTouched
  split
  · split_ifs <;> rfl
  · rfl

theorem recoveries_tileUpdate (s : State) (n : Nat) (old new : Line) : (tileUpdate s n old new).mi.recoveries = s.mi.recoveries := rfl

theorem mi_lineStored (s : State) (n : Nat) (new : Line) : (lineStored s n new).mi = s.mi :=
  (State.putFwd_mi ..).trans ((snapshotWrite_frame rfl (Frame.refl 0x104010001 s) n).of .mi rfl)

theorem recoveries_writeLine (s : State) (n : Nat) (new : Line) : (writeLine s n new).mi.recoveries = s.mi.recoveries := by
  by_cases hn : n < lineCount s
  · rw [writeLine_of_lt hn, mi_lineFollowers, lineChecked, recoveries_tileTouched, recoveries_checkWritten]
    exact (recoveries_tileUpdate ..).trans (congrArg MiState.recoveries (mi_lineStored s n new))
  · rw [writeLine, if_neg hn]

theorem recoveryOf_congr {t : State} (h : t.mi.recoveries = s.mi.recoveries) (m : LineMem) (n : Nat) : recoveryOf t m n = recoveryOf s m n := by
  rw [recoveryOf, h, recoveryOf]

theorem mi_viewMi (s : State) : (viewMi s).mi = s.mi := rfl

/-- No recovery of a line stays when its slot is freed. -/
theorem recoveryOf_freeRecovery (s : State) (m : LineMem) (n : Nat) : recoveryOf (freeRecovery s m n) m n = none := by
  rw [recoveryOf, freeRecovery, mi_viewMi, State.putMi_mi, List.find?_eq_none]
  intro r hr
  have hother := (List.mem_filter.mp hr).2
  simp at hother ⊢
  tauto

theorem wf_freeRecovery (wf : Memory.wf s = true) (m : LineMem) (n : Nat) : Memory.wf (freeRecovery s m n) = true :=
  wf_keeps (freeRecovery_keeps (Keeps.refl s) m n) wf

/-- A recovery of the line begins and waits for its source. -/
def recovering (s : State) (mem : LineMem) (line column : Nat) (w : RecoveryWait) : State :=
  viewMi (s.putMi { s.mi with recoveries := s.mi.recoveries ++
    [{ mem := mem, line := line, column := column, wait := w, flipped := s.mi.flipped.contains (mem, line) }] })

theorem recoveries_recovering (hnone : s.mi.recoveries = []) (mem : LineMem) (line col : Nat) (w : RecoveryWait) :
    (recovering s mem line col w).mi.recoveries =
      [{ mem := mem, line := line, column := col, wait := w, flipped := s.mi.flipped.contains (mem, line) }] := by
  rw [recovering, mi_viewMi, State.putMi_mi, hnone]
  rfl

theorem out_recovering (s : State) (mem : LineMem) (line col : Nat) (w : RecoveryWait) : (recovering s mem line col w).out = s.out := rfl

theorem get_viewMi (wf : Memory.wf s = true) : (viewMi s).get R.MI_STATUS_REC_USED = s.mi.recoveries.length % 64 := by
  refine (get_set_bits (wf_regs (wf_set wf R.MI_STATUS_REC_USED s.mi.recoveries.length)) R.MI_STATUS (by decide) (by decide) _).trans ?_
  exact get_set_same (wf_regs wf) (by decide) _

/-! ## A line that fails its check -/

/-- The line can fail its check and no recovery is under way. -/
structure LineOpen (s : State) (mem : LineMem) (line : Nat) : Prop where
  power : powered s = true
  inside : line < memLines s mem
  present : sramPresent s (lineSram mem line) = true
  plain : s.mi.subst.contains (mem, line) = false
  idle : s.mi.recoveries = []

theorem LineOpen.reaches {mem : LineMem} (h : LineOpen s mem line) : ¬ (!powered s || decide (memLines s mem ≤ line) ||
    !sramPresent s (lineSram mem line) || s.mi.subst.contains (mem, line) ||
      s.mi.recoveries.any (fun r => r.mem = mem && decide (r.line = line))) = true := by
  have hplain := h.plain
  simp_all [h.power, h.inside, h.present, h.idle]

theorem LineOpen.room {mem : LineMem} (h : LineOpen s mem line) : ¬ 32 ≤ s.mi.recoveries.length := by simp [h.idle]

/-- The second read passes (R499). -/
theorem lineCheckFail_refetched {mem : LineMem} (h : LineOpen s mem line) (hflip : s.mi.flipped.contains (mem, line) = false) (code : Bool)
    (air eth : Option Nat) : exec (.lineCheckFail mem line col true code false air eth) s =
      .next (noteFault (faultEnds (s.bump R.MI_CNT0_REFETCH_OK) mem line 0) mem line col true false) := by
  change execLineCheckFail mem line col true code false air eth s = _
  rw [execLineCheckFail, if_neg h.reaches]
  dsimp only
  rw [if_neg Bool.false_ne_true, if_neg h.room, hflip, if_pos (by simp)]

/-- A node line is fetched from the peer (R503). -/
theorem lineCheckFail_fetched (h : LineOpen s .ncs line) (hpeer : (peerSource s && s.bit R.MI_CFG_PEER_FETCH) = true) (code : Bool)
    (air eth : Option Nat) : exec (.lineCheckFail .ncs line col false code false air eth) s =
      .next ((recovering s .ncs line col .peer).emit (.hjFetch line)) := by
  change execLineCheckFail .ncs line col false code false air eth s = _
  rw [execLineCheckFail, if_neg h.reaches]
  dsimp only
  rw [if_neg Bool.false_ne_true, if_neg h.room, if_neg (by simp), if_pos hpeer]
  rfl

/-- A node line without a source is poisoned (R506). -/
theorem lineCheckFail_poisoned (h : LineOpen s .ncs line) (hpeer : (peerSource s && s.bit R.MI_CFG_PEER_FETCH) = false) (code : Bool)
    (air eth : Option Nat) : exec (.lineCheckFail .ncs line col false code false air eth) s =
      .next (noteFault (faultPoisoned s .ncs line) .ncs line col true (s.mi.flipped.contains (.ncs, line))) := by
  change execLineCheckFail .ncs line col false code false air eth s = _
  rw [execLineCheckFail, if_neg h.reaches]
  dsimp only
  rw [if_neg Bool.false_ne_true, if_neg h.room, if_neg (by simp), if_neg (ne_true_of_eq_false hpeer)]

/-- A line of code is read again from the flash (R503). -/
theorem lineCheckFail_reread (h : LineOpen s .control line) (air eth : Option Nat) :
    exec (.lineCheckFail .control line col false true false air eth) s = .next (recovering s .control line col .flash) := by
  change execLineCheckFail .control line col false true false air eth s = _
  rw [execLineCheckFail, if_neg h.reaches]
  dsimp only
  rw [if_neg Bool.false_ne_true, if_neg h.room, if_neg (by simp), if_pos rfl]
  rfl

/-! ## The answer of a source -/

/-- The peer's copy of a faulty line is written (R503). -/
def peerWritten (s : State) (line : Nat) (bytes : List Byte) : State :=
  (writeLine (freeRecovery s .ncs line) line (fetchedLine s line bytes)).bump R.MI_CNT1_PEER_FETCH

theorem recoveryOf_peerWritten (s : State) (line : Nat) (bytes : List Byte) : recoveryOf (peerWritten s line bytes) .ncs line = none := by
  have hrec : (peerWritten s line bytes).mi.recoveries = (freeRecovery s .ncs line).mi.recoveries :=
    (congrArg MiState.recoveries (State.bump_mi ..)).trans (recoveries_writeLine ..)
  exact (recoveryOf_congr hrec .ncs line).trans (recoveryOf_freeRecovery s .ncs line)

theorem line_peerWritten (wf : Memory.wf s = true) (hline : line < lineCount s) (bytes : List Byte) :
    (peerWritten s line bytes).line line = fetchedLine s line bytes :=
  (line_of_fwd_eq (State.bump_fwd ..) line).trans (line_writeLine_self (wf_freeRecovery wf .ncs line) hline _)

theorem peerLineArrival_row {bytes : List Byte} {r : Recovery} (hr : recoveryOf s .ncs line = some r) (rb : Bool) :
    exec (.peerLineArrival line bytes true rb) s =
      .next (noteFault (faultEnds (peerWritten s line bytes) .ncs line 2) .ncs line r.column rb r.flipped) := by
  change execPeerLineArrival line bytes true rb s = _
  rw [execPeerLineArrival, hr]
  rfl

theorem peerLineArrival_failed {bytes : List Byte} {r : Recovery} (hr : recoveryOf s .ncs line = some r) (rb : Bool) :
    exec (.peerLineArrival line bytes false rb) s =
      .next (noteFault (faultPoisoned (freeRecovery s .ncs line) .ncs line) .ncs line r.column true r.flipped) := by
  change execPeerLineArrival line bytes false rb s = _
  rw [execPeerLineArrival, hr]
  rfl

theorem peerLineArrival_refill {bytes : List Byte} (hr : recoveryOf s .ncs line = none) (hfill : s.mi.refill.contains line = true) (rb : Bool) :
    exec (.peerLineArrival line bytes true rb) s =
      .next (writeLine (s.putMi { s.mi with refill := s.mi.refill.filter fun x => x ≠ line }) line (fetchedLine s line bytes)) := by
  change execPeerLineArrival line bytes true rb s = _
  rw [execPeerLineArrival, hr]
  dsimp only
  rw [if_pos hfill, if_pos rfl]
  rfl

/-- A line of the control memory matches what the flash gives (R503). -/
def rereadWritten (s : State) (line : Nat) : State := checkWritten ((freeRecovery s .control line).bump R.MI_CNT0_RECOMPUTE) .control line

theorem recoveryOf_rereadWritten (s : State) (line : Nat) : recoveryOf (rereadWritten s line) .control line = none := by
  have hrec : (rereadWritten s line).mi.recoveries = (freeRecovery s .control line).mi.recoveries :=
    (recoveries_checkWritten ..).trans (congrArg MiState.recoveries (State.bump_mi ..))
  exact (recoveryOf_congr hrec .control line).trans (recoveryOf_freeRecovery s .control line)

theorem count_rereadWritten (wf : Memory.wf s = true) (line : Nat) : (rereadWritten s line).get R.MI_CNT0_RECOMPUTE =
    min (2 ^ R.MI_CNT0_RECOMPUTE.width - 1) (s.get R.MI_CNT0_RECOMPUTE + 1) := by
  have hfree : (freeRecovery s .control line).get R.MI_CNT0_RECOMPUTE = s.get R.MI_CNT0_RECOMPUTE :=
    ((((Leaves.refl R.MI_CNT0 s).putMi _).set R.MI_STATUS_REC_USED _ (by decide)).set R.MI_STATUS_SUBST_USED _ (by decide)).get
      (f := R.MI_CNT0_RECOMPUTE) wf
  have hw : Memory.wf (freeRecovery s .control line) = true := wf_freeRecovery wf .control line
  refine (((Leaves.refl R.MI_CNT0 _).checkWritten ⟨by decide, by decide⟩ .control line).get (f := R.MI_CNT0_RECOMPUTE) (wf_bump hw _)).trans ?_
  rw [get_bump_self hw (by decide), hfree]

theorem flashRecomputeDone_row {r : Recovery} (hr : recoveryOf s .control line = some r) (rb : Bool) :
    exec (.flashRecomputeDone line true rb) s =
      .next (noteFault (faultEnds (rereadWritten s line) .control line 1) .control line r.column rb r.flipped) := by
  change execFlashRecomputeDone line true rb s = _
  rw [execFlashRecomputeDone, hr]
  rfl

/-- Settles O35. -/
theorem lineFaultRowsComplete : Obligations.LineFaultRowsComplete := by
  intro s line col air eth wf
  refine ⟨fun mem code hpow hin hpres hsub hidle hflip => lineCheckFail_refetched ⟨hpow, hin, hpres, hsub, hidle⟩ hflip code air eth,
    fun code hpow hin hpres hsub hidle hsrc hfetch => ?_,
    fun code hpow hin hpres hsub hidle hpeer => lineCheckFail_poisoned ⟨hpow, hin, hpres, hsub, hidle⟩ hpeer code air eth,
    fun hpow hin hpres hsub hidle => ⟨_, lineCheckFail_reread ⟨hpow, hin, hpres, hsub, hidle⟩ air eth, out_recovering ..,
      recoveries_recovering hidle ..⟩,
    fun bytes rb hr hfill => peerLineArrival_refill hr hfill rb, fun bytes rb r hr => peerLineArrival_failed hr rb,
    fun bytes rb r hr => ⟨_, _, peerLineArrival_row hr rb, rfl, recoveryOf_peerWritten s line bytes, fun hline => line_peerWritten wf hline bytes⟩,
    fun rb r hr => ⟨_, _, flashRecomputeDone_row hr rb, rfl, recoveryOf_rereadWritten s line, count_rereadWritten wf line⟩⟩
  refine ⟨_, lineCheckFail_fetched ⟨hpow, hin, hpres, hsub, hidle⟩ (by rw [hsrc, hfetch]; rfl) code air eth, rfl,
    recoveries_recovering hidle .., ?_⟩
  refine (get_viewMi (wf_keeps (State.putMi_keeps (Keeps.refl s) _) wf)).trans ?_
  rw [State.putMi_mi, hidle]
  rfl

end Sys2Proof.Machine
end

section
/-!
Scrubbing, repair and the test of a check (chapter 18, R502 to R516).
-/

namespace Sys2Proof.Machine

variable {s : State} {q : Requester}

/-! ## The state of a scrub pass -/

theorem scrubOf_of_scrubs {m : Nat} {x : ScrubState} (h : assocGet s.mi.scrubs m = some x) : scrubOf s m = x := by rw [scrubOf, h, Option.getD_some]

theorem scrubs_putScrub (s : State) (m : Nat) (x : ScrubState) : (putScrub s m (some x)).mi.scrubs = assocSet s.mi.scrubs m x := rfl

theorem tileDirty_putScrub (s : State) (m : Nat) (x : Option ScrubState) : (putScrub s m x).mi.tileDirty = s.mi.tileDirty := rfl

theorem assocSet_isEmpty {α : Type} (l : List (Nat × α)) (k : Nat) (v : α) : (assocSet l k v).isEmpty = false := by
  cases l with
  | nil => rfl
  | cons p l =>
    unfold assocSet
    split_ifs <;> rfl

theorem scrubOf_putScrub_self (s : State) (m : Nat) (x : ScrubState) : scrubOf (putScrub s m (some x)) m = x :=
  scrubOf_of_scrubs (by rw [scrubs_putScrub, assocGet_assocSet_self])

theorem wf_putScrub (wf : Memory.wf s = true) (m : Nat) (x : Option ScrubState) : Memory.wf (putScrub s m x) = true :=
  wf_keeps (putScrub_keeps (Keeps.refl s) m x) wf

/-- A pass under way shows. -/
theorem run_putScrub (wf : Memory.wf s = true) (m : Nat) (x : ScrubState) : (putScrub s m (some x)).get R.MI_STATUS_SCRUB_RUN = 1 := by
  refine (get_set_same (wf_regs (wf_keeps (State.putMi_keeps (Keeps.refl s) _) wf)) (by decide) _).trans ?_
  rw [assocSet_isEmpty]
  rfl

/-! ## The scrubber's reads (R502, R509, R510) -/

theorem scrubRead_open (hrun : running s = true) (hjob : s.fwd.snap.job ≠ .exporting) :
    ¬ (!running s || decide (s.fwd.snap.job = .exporting)) = true := by simp [hrun, hjob]

/-- The tile was written meanwhile: its read is discarded (R510). -/
def tileDiscarded (s : State) : State :=
  let t := putScrub s 0 (some { scrubOf s 0 with discards := (scrubOf s 0).discards + 1, retry := false })
  t.putMi { t.mi with tileDirty := false }

theorem scrubRead_discards (hrun : running s = true) (hjob : s.fwd.snap.job ≠ .exporting) (hdirty : s.mi.tileDirty = true)
    (hfew : (scrubOf s 0).discards < 3) (misread : List (Nat × Nat)) : exec (.scrubRead .ncs misread) s = .next (tileDiscarded s) := by
  change execScrubRead .ncs misread s = _
  rw [execScrubRead, if_neg (scrubRead_open hrun hjob)]
  exact if_pos (by rw [hdirty]; exact decide_eq_true hfew)

theorem scrubRead_clean (hrun : running s = true) (hjob : s.fwd.snap.job ≠ .exporting) (hclean : s.mi.tileDirty = false)
    (misread : List (Nat × Nat)) : exec (.scrubRead .ncs misread) s =
      if tileReadOk s (scrubOf s 0).next misread then .next (scrubNext s .ncs (scrubOf s 0))
      else if (scrubOf s 0).retry then .next (scrubNext (tileFailed s (scrubOf s 0).next 0) .ncs (scrubOf s 0))
      else .next (putScrub s 0 (some { scrubOf s 0 with retry := true })) := by
  change execScrubRead .ncs misread s = _
  rw [execScrubRead, if_neg (scrubRead_open hrun hjob)]
  exact if_neg (by rw [hclean]; exact Bool.false_ne_true)

theorem scrubRead_others (hrun : running s = true) (hjob : s.fwd.snap.job ≠ .exporting) (misread : List (Nat × Nat)) :
    exec (.scrubRead .frame misread) s = .next (scrubNext s .frame (scrubOf s 1)) ∧
      exec (.scrubRead .control misread) s = .next (scrubNext s .control (scrubOf s 2)) :=
  ⟨if_neg (scrubRead_open hrun hjob), if_neg (scrubRead_open hrun hjob)⟩

/-! ## MI_CMD (R509, R515) -/

theorem mi_open (hrun : running s = true) (hq : miWriter q = true) : ¬ (!miWriter q || !openTo s q) = true := by
  simp [hq, openTo_of_running hrun]

/-- A fresh scrub pass. -/
def freshScrub (s : State) : ScrubState := { next := 0, discards := 0, retry := false, faults := 0, started := s.now }

/-- A pass of every memory begins. -/
def scrubsStarted (s : State) : State :=
  let u := s.putMi { s.mi with tileDirty := false }
  putScrub (putScrub (putScrub u 0 (some (freshScrub s))) 1 (some (freshScrub s))) 2 (some (freshScrub s))

theorem scrubOf_scrubsStarted (s : State) {m : Nat} (hm : m < 3) : scrubOf (scrubsStarted s) m = freshScrub s := by
  refine scrubOf_of_scrubs ?_
  rw [scrubsStarted, scrubs_putScrub, scrubs_putScrub, scrubs_putScrub]
  obtain rfl | rfl | rfl : m = 0 ∨ m = 1 ∨ m = 2 := by omega
  · rw [assocGet_assocSet_of_ne (by decide), assocGet_assocSet_of_ne (by decide), assocGet_assocSet_self]
  · rw [assocGet_assocSet_of_ne (by decide), assocGet_assocSet_self]
  · exact assocGet_assocSet_self ..

theorem miScrubNow_row (wf : Memory.wf s = true) (hrun : running s = true) (hq : miWriter q = true) :
    ∃ t, exec (.miScrubNow q) s = .next t ∧ t.get R.MI_STATUS_CMD_RES = 1 ∧ t.get R.MI_STATUS_SCRUB_RUN = 1 ∧
      (scrubOf t 0).next = 0 ∧ (scrubOf t 1).next = 0 ∧ (scrubOf t 2).next = 0 := by
  have hexec : exec (.miScrubNow q) s = .next ((scrubsStarted s).set R.MI_STATUS_CMD_RES 1) := by
    change execMiScrubNow q s = _
    rw [execMiScrubNow, if_neg (mi_open hrun hq)]
    rfl
  have hscrub : ∀ m < 3, scrubOf ((scrubsStarted s).set R.MI_STATUS_CMD_RES 1) m = freshScrub s := fun m hm => by
    rw [← scrubOf_scrubsStarted s hm, scrubOf, scrubOf, State.set_mi, State.set_now]
  have hw2 : Memory.wf (putScrub (putScrub (s.putMi { s.mi with tileDirty := false }) 0 (some (freshScrub s))) 1 (some (freshScrub s))) = true :=
    wf_putScrub (wf_putScrub (wf_keeps (State.putMi_keeps (Keeps.refl s) _) wf) _ _) _ _
  have hw : Memory.wf (scrubsStarted s) = true := by
    rw [scrubsStarted]
    exact wf_putScrub hw2 _ _
  have hshow : (scrubsStarted s).get R.MI_STATUS_SCRUB_RUN = 1 := by
    rw [scrubsStarted]
    exact run_putScrub hw2 _ _
  generalize scrubsStarted s = u at hexec hscrub hw hshow
  refine ⟨_, hexec, get_set_same (wf_regs hw) (by decide) _, ?_, ?_, ?_, ?_⟩
  · exact (get_set_bits (wf_regs hw) R.MI_STATUS (by decide) (by decide) _).trans hshow
  · exact congrArg ScrubState.next (hscrub 0 (by decide))
  · exact congrArg ScrubState.next (hscrub 1 (by decide))
  · exact congrArg ScrubState.next (hscrub 2 (by decide))

theorem phase_warmRestart (s : State) : (warmRestart s).boot.phase = .warmDelay := by
  rw [warmRestart, State.putBoot_boot]

theorem miApplyRepairs_standby (hrun : running s = true) (hq : miWriter q = true) (hrole : s.get R.PAIR_STATUS_ROLE = roleStandby) :
    ∃ t, exec (.miApplyRepairs q) s = .next t ∧ t.boot.phase = .warmDelay := by
  refine ⟨_, ?_, phase_warmRestart (setRole (dropSync (s.set R.MI_STATUS_CMD_RES 1)) roleSpare 11)⟩
  change execMiApplyRepairs q s = _
  rw [execMiApplyRepairs, if_neg (mi_open hrun hq), if_pos hrole]
  rfl

theorem miApplyRepairs_active (hrun : running s = true) (hq : miWriter q = true) (hrole : s.get R.PAIR_STATUS_ROLE = roleActive)
    (hpeer : peerSource s = true) (hswitch : switchResult s = 1) :
    exec (.miApplyRepairs q) s = .next (startPlanned (s.set R.MI_STATUS_CMD_RES 1) 11 1) := by
  change execMiApplyRepairs q s = _
  rw [execMiApplyRepairs, if_neg (mi_open hrun hq), if_neg (by rw [hrole]; decide), if_pos (by simp [hrole, hpeer])]
  exact if_pos hswitch

theorem miApplyRepairs_other (hrun : running s = true) (hq : miWriter q = true) (hstandby : s.get R.PAIR_STATUS_ROLE ≠ roleStandby)
    (hactive : s.get R.PAIR_STATUS_ROLE ≠ roleActive) : exec (.miApplyRepairs q) s = .next (s.set R.MI_STATUS_CMD_RES 2) := by
  change execMiApplyRepairs q s = _
  rw [execMiApplyRepairs, if_neg (mi_open hrun hq), if_neg hstandby, if_neg (by simp [hactive])]

/-! ## MI_FLIP (R516) -/

theorem miFlipWrite_row (wf : Memory.wf s = true) (hrun : running s = true) (hq : miWriter q = true) (v : Nat) :
    ∃ t, exec (.miFlipWrite q v) s = .next t ∧ t.get R.MI_FLIP_MACRO = natBits v 0 7 ∧
      t.get R.MI_FLIP_ARM = boolNat (natBit v 31 && (sramPresent s (natBits v 0 7) &&
        !(decide (64 ≤ natBits v 0 7) && decide (natBits v 0 7 < 84)))) := by
  have hw := wf_regs (wf_set wf R.MI_FLIP_MACRO (natBits v 0 7))
  refine ⟨_, if_neg (mi_open hrun hq), ?_, ?_⟩
  · refine (get_set_bits hw R.MI_FLIP (by decide) (by decide) _).trans ((get_set_same (wf_regs wf) (by decide) _).trans ?_)
    exact Nat.mod_eq_of_lt (natBits_lt v 0 7)
  · exact (get_set_same hw (by decide) _).trans (Nat.mod_eq_of_lt (Nat.lt_of_le_of_lt (boolNat_le _) (by decide)))

/-- Settles O36. -/
theorem integrityRowsComplete : Obligations.IntegrityRowsComplete := by
  intro s q wf hrun
  refine ⟨fun misread hjob => scrubRead_others hrun hjob misread,
    fun misread hjob hdirty hfew => ⟨_, scrubRead_discards hrun hjob hdirty hfew misread, rfl, scrubOf_putScrub_self s 0 _⟩,
    fun misread hjob hclean hok => ?_, fun misread hjob hclean hbad hfirst => ⟨_, ?_, scrubOf_putScrub_self s 0 _⟩,
    fun misread hjob hclean hbad hagain => ?_, miScrubNow_row wf hrun, miApplyRepairs_standby hrun, miApplyRepairs_active hrun,
    miApplyRepairs_other hrun, fun v hq => miFlipWrite_row wf hrun hq v, if_neg (by simp [hrun])⟩
  · rw [scrubRead_clean hrun hjob hclean, if_pos hok]
  · rw [scrubRead_clean hrun hjob hclean, if_neg (ne_true_of_eq_false hbad), if_neg (ne_true_of_eq_false hfirst)]
  · rw [scrubRead_clean hrun hjob hclean, if_neg (ne_true_of_eq_false hbad), if_pos hagain]

end Sys2Proof.Machine
end

section
/-!
Claims of the redundant pair (chapter 19, R523 to R529): which role a claim takes, what the peer's release shows, and the claim keeper.
-/

namespace Sys2Proof.Machine

variable {s : State}

/-! ## CLAIM_ASSERT (R523) -/

theorem claimAssert_held {edges role cause : Nat} (hedges : 2 ≤ edges) (hready : readyToClaim s = true) (hback : retaking s = false)
    (hcond : claimCondition s = some (role, cause, none)) :
    exec (.claimAssert edges) s = .next (offerResync (reserveAll (takeRole (driveClaim s) role cause))) := by
  change execClaimAssert edges s = _
  rw [execClaimAssert, if_neg (by simp [hready]; omega), hcond]
  dsimp only
  rw [hback, if_neg Bool.false_ne_true]

theorem claimAssert_planned {edges role cause : Nat} (hedges : 2 ≤ edges) (hready : readyToClaim s = true)
    (hcond : claimCondition s = some (role, cause, some 0)) : exec (.claimAssert edges) s = .next (claimPlanned (driveClaim s)) := by
  change execClaimAssert edges s = _
  rw [execClaimAssert, if_neg (by simp [hready]; omega), hcond]
  rfl

theorem claimAssert_unplanned {edges role cause : Nat} (hedges : 2 ≤ edges) (hready : readyToClaim s = true)
    (hcond : claimCondition s = some (role, cause, some 1)) :
    exec (.claimAssert edges) s = .next (offerResync (claimUnplanned (driveClaim s) cause)) := by
  change execClaimAssert edges s = _
  rw [execClaimAssert, if_neg (by simp [hready]; omega), hcond]
  rfl

/-! ## PEER_CLAIM_CHANGE (R524 to R526) -/

theorem peerClaimChange_stopped {asserted : Bool} (hpart : hjPresent s.part = true) (hdiff : s.bit R.PAIR_STATUS_CLAIM_IN ≠ asserted)
    (hstop : running s = false) : exec (.peerClaimChange asserted) s = .next (s.set R.PAIR_STATUS_CLAIM_IN (boolNat asserted)) := by
  change execPeerClaimChange asserted s = _
  rw [execPeerClaimChange, if_neg (by simp [hpart, hdiff]), if_pos (by simp [hstop])]
  rfl

theorem peerClaimChange_released (hpart : hjPresent s.part = true) (hin : s.bit R.PAIR_STATUS_CLAIM_IN = true) (hrun : running s = true) :
    exec (.peerClaimChange false) s =
      .next (viewInterlock ((gateChanged (gateOpen s) (s.set R.PAIR_STATUS_CLAIM_IN 0)).set R.PAIR_STATUS_CONFLICT 0)) := by
  change execPeerClaimChange false s = _
  rw [execPeerClaimChange, if_neg (by simp [hpart, hin]), if_neg (by simp [hrun])]
  rfl

theorem gateOpen_of_unclaimed (h : s.bit R.PAIR_STATUS_CLAIM_OUT = false) : gateOpen s = false := by rw [gateOpen, h, Bool.false_and]

/-- Without the own claim the gate only shows that it stays closed. -/
theorem gateChanged_unclaimed (h : s.bit R.PAIR_STATUS_CLAIM_OUT = false) : gateChanged false s = s.set R.PAIR_STATUS_GATE 0 := by
  rw [gateChanged, gateOpen_of_unclaimed h]
  rfl

/-- Without the link no interlock fault shows. -/
theorem viewInterlock_unlinked (h : linkUp s = false) : viewInterlock s = s.set R.PAIR_STATUS_IL_FAULT 0 := by
  rw [viewInterlock, h]
  rfl

theorem peerClaimChange_idle (wf : Memory.wf s = true) (hpart : hjPresent s.part = true) (hin : s.bit R.PAIR_STATUS_CLAIM_IN = true)
    (hrun : running s = true) (hout : s.bit R.PAIR_STATUS_CLAIM_OUT = false) (hlink : linkUp s = false) :
    ∃ t, exec (.peerClaimChange false) s = .next t ∧ t.get R.PAIR_STATUS_CLAIM_IN = 0 ∧ t.get R.PAIR_STATUS_GATE = 0 ∧
      t.get R.PAIR_STATUS_CONFLICT = 0 ∧ t.get R.PAIR_STATUS_IL_FAULT = 0 ∧ t.get R.PAIR_STATUS_ROLE = s.get R.PAIR_STATUS_ROLE := by
  have hexec := peerClaimChange_released hpart hin hrun
  have hunclaimed : (s.set R.PAIR_STATUS_CLAIM_IN 0).bit R.PAIR_STATUS_CLAIM_OUT = false :=
    (bit_set_apart wf (by decide) (by decide) 0).trans hout
  have hunlinked : linkUp (((s.set R.PAIR_STATUS_CLAIM_IN 0).set R.PAIR_STATUS_GATE 0).set R.PAIR_STATUS_CONFLICT 0) = false :=
    (((((Leaves.refl R.HJ_STATUS s).set R.PAIR_STATUS_CLAIM_IN 0 (by decide)).set R.PAIR_STATUS_GATE 0 (by decide)).set
      R.PAIR_STATUS_CONFLICT 0 (by decide)).bit (f := R.HJ_STATUS_UP) wf).trans hlink
  rw [gateOpen_of_unclaimed hout, gateChanged_unclaimed hunclaimed, viewInterlock_unlinked hunlinked] at hexec
  refine ⟨_, hexec, ?_⟩
  simp [wf_regs wf, R.PAIR_STATUS_CLAIM_IN, R.PAIR_STATUS_GATE, R.PAIR_STATUS_CONFLICT, R.PAIR_STATUS_IL_FAULT, R.PAIR_STATUS_ROLE]

/-! ## The claim keeper (R529) -/

/-- The keeper ends the claim at the moment its time is over. -/
theorem claimKeeperExpiry_row {asnTest : Bool} {u : State} (hrun : running s = true) (hkept : s.pair.kept = true)
    (hasn : (asnTest && !(s.bit R.PSM_STATUS_RUN && s.bit R.PAIR_STATUS_CLAIM_OUT)) = false)
    (hu : u = s.reach (if asnTest then s.pair.asnAt + 2 * slotLenNs s + 1000000 else s.pair.keptAt + s.get R.PAIR_CFG_KEEP_MS * 1000000))
    (hout : u.bit R.PAIR_STATUS_CLAIM_OUT = true) : exec (.claimKeeperExpiry asnTest) s =
      .next (settle (endClaim ((u.putPair { u.pair with kept := false }).bump R.PAIR_CNT3_KEEP_EXPIRED) 8)) := by
  change execClaimKeeperExpiry asnTest s = _
  rw [execClaimKeeperExpiry, if_neg (by rw [hrun, hkept, hasn]; simp)]
  dsimp only
  rw [← hu]
  generalize u = v at hout
  exact congrArg Host.Outcome.next (if_pos hout)

/-- Settles O37. -/
theorem claimRowsComplete : Obligations.ClaimRowsComplete := by
  intro s wf
  refine ⟨fun edges role cause => claimAssert_held, fun edges role cause => claimAssert_planned, fun edges role cause => claimAssert_unplanned,
    fun asserted hpart hdiff hstop => ⟨_, peerClaimChange_stopped hpart hdiff hstop, rfl⟩,
    fun hpart hin hrun hout hlink => peerClaimChange_idle wf hpart hin hrun hout hlink, peerClaimChange_released,
    fun u hu hrun hkept hout => claimKeeperExpiry_row hrun hkept rfl hu hout,
    fun u hu hrun hkept hslots hclaim hout => claimKeeperExpiry_row hrun hkept (by rw [hslots, hclaim]; rfl) hu hout,
    fun hrun => ⟨_, if_pos ⟨hrun, rfl⟩, rfl⟩, fun q hq => if_neg fun h => hq h.2⟩

end Sys2Proof.Machine
end

section
/-!
The Hjelno link (chapter 19, R530 to R532): frames and their acknowledgement, retries, control records, training and the time exchange.
-/

namespace Sys2Proof.Machine

variable {s : State}

/-! ## Frames (R530) -/

/-- A good frame is taken, and what it acknowledges leaves the retry list. -/
def linkHeard (s : State) (acks : List Nat) : State := takeAcks (s.putPair { s.pair with rxAt := s.now }) acks

/-- A frame in sequence is acknowledged. -/
def linkInTurn (s : State) (acks : List Nat) (seq : Nat) : State :=
  ((linkHeard s acks).putPair { (linkHeard s acks).pair with rxSeq := seq + 1 }).emit (.hjAck seq)

theorem pair_linkHeard (s : State) (acks : List Nat) : (linkHeard s acks).pair =
    { s.pair with rxAt := s.now, unacked := s.pair.unacked.filter fun f => !acks.contains f.seq } := by
  rw [linkHeard, takeAcks, State.putPair_pair, State.putPair_pair]

theorem pair_linkInTurn (s : State) (acks : List Nat) (seq : Nat) : (linkInTurn s acks seq).pair =
    { s.pair with rxAt := s.now, unacked := s.pair.unacked.filter (fun f => !acks.contains f.seq), rxSeq := seq + 1 } := by
  rw [linkInTurn, State.emit_pair, State.putPair_pair, pair_linkHeard]

theorem regs_linkInTurn (s : State) (acks : List Nat) (seq : Nat) : (linkInTurn s acks seq).regs = s.regs := by
  rw [linkInTurn, State.emit_regs, State.putPair_regs, linkHeard, takeAcks, State.putPair_regs, State.putPair_regs]

theorem out_linkInTurn (s : State) (acks : List Nat) (seq : Nat) : (linkInTurn s acks seq).out = .hjAck seq :: s.out := by
  rw [linkInTurn, State.emit_out, State.putPair_out, linkHeard, takeAcks, State.putPair_out, State.putPair_out]

theorem hjLinkFrameRx_heard (hrun : running s = true) (hup : linkUp s = true) (seq : Nat) (acks : List Nat) (records : List MirrorRecord) :
    exec (.hjLinkFrameRx seq true acks records) s =
      if s.pair.rxSeq < seq then .next (linkHeard s acks)
      else if seq < s.pair.rxSeq then .next ((linkHeard s acks).emit (.hjAck seq))
      else .next (foldState applyRecord (linkInTurn s acks seq) records) := by
  change execHjLinkFrameRx seq true acks records s = _
  rw [execHjLinkFrameRx, if_neg (by simp [hrun, hup])]
  rfl

theorem hjLinkFrameRx_inTurn (hrun : running s = true) (hup : linkUp s = true) {seq : Nat} (hseq : s.pair.rxSeq = seq) (acks : List Nat)
    (records : List MirrorRecord) :
    ∃ u, exec (.hjLinkFrameRx seq true acks records) s = .next (foldState applyRecord u records) ∧ u.pair.rxSeq = seq + 1 ∧
      u.pair.rxAt = s.now ∧ u.out = .hjAck seq :: s.out ∧ u.pair.unacked = s.pair.unacked.filter (fun f => !acks.contains f.seq) ∧
      u.regs = s.regs := by
  refine ⟨linkInTurn s acks seq, ?_, ?_, ?_, out_linkInTurn .., ?_, regs_linkInTurn ..⟩
  · rw [hjLinkFrameRx_heard hrun hup, if_neg (by omega), if_neg (by omega)]
  all_goals rw [pair_linkInTurn]

theorem hjLinkFrameRx_repeat (hrun : running s = true) (hup : linkUp s = true) {seq : Nat} (hseq : seq < s.pair.rxSeq) (acks : List Nat)
    (records : List MirrorRecord) :
    ∃ t, exec (.hjLinkFrameRx seq true acks records) s = .next t ∧ t.out = .hjAck seq :: s.out ∧ t.pair.rxSeq = s.pair.rxSeq ∧
      t.regs = s.regs ∧ t.fwd = s.fwd := by
  refine ⟨(linkHeard s acks).emit (.hjAck seq), ?_, rfl, ?_, rfl, rfl⟩
  · rw [hjLinkFrameRx_heard hrun hup, if_neg (by omega), if_pos hseq]
  · rw [State.emit_pair, pair_linkHeard]

/-! ## Retries (R530) -/

/-- A frame goes out again. -/
def frameResent (s : State) (seq : Nat) (f : HjFrame) : State :=
  ((s.putPair { s.pair with unacked := s.pair.unacked.map fun g => if g.seq = seq then { g with sends := g.sends + 1 } else g }).bump
    R.PAIR_CNT1_RETRY).emit (.hjFrame seq f.records)

theorem hjRetryTimeout_found {seq : Nat} {f : HjFrame} (hrun : running s = true) (hup : linkUp s = true)
    (hf : (s.pair.unacked.find? fun g => decide (g.seq = seq)) = some f) : exec (.hjRetryTimeout seq) s =
      if 9 ≤ f.sends then .next (settle (linkLost s 1)) else .next (frameResent s seq f) := by
  change execHjRetryTimeout seq s = _
  rw [execHjRetryTimeout, hf]
  dsimp only
  rw [if_neg (by simp [hrun, hup])]
  rfl

theorem hjRetryTimeout_row (wf : Memory.wf s = true) {seq : Nat} {f : HjFrame} (hrun : running s = true) (hup : linkUp s = true)
    (hf : (s.pair.unacked.find? fun g => decide (g.seq = seq)) = some f) (hfew : f.sends < 9) :
    ∃ t, exec (.hjRetryTimeout seq) s = .next t ∧ t.out = .hjFrame seq f.records :: s.out ∧
      t.get R.PAIR_CNT1_RETRY = min (2 ^ R.PAIR_CNT1_RETRY.width - 1) (s.get R.PAIR_CNT1_RETRY + 1) ∧
      t.pair.unacked = s.pair.unacked.map (fun g => if g.seq = seq then { g with sends := g.sends + 1 } else g) := by
  refine ⟨frameResent s seq f, ?_, rfl, ?_, ?_⟩
  · rw [hjRetryTimeout_found hrun hup hf, if_neg (by omega)]
  · exact get_bump_self (wf_keeps (State.putPair_keeps (Keeps.refl s) _) wf) (by decide)
  · rw [frameResent, State.emit_pair, State.bump_pair, State.putPair_pair]

/-! ## Silence and control records (R530, R533) -/

theorem hjIdleTimeout_row {u : State} (hu : u = s.reach (s.pair.rxAt + 50000)) (hrun : running s = true) (hup : linkUp s = true) :
    exec .hjIdleTimeout s = .next (settle (linkLost u.drew (Config.openValue 3 u.draws % 256))) := by
  change execHjIdleTimeout s = _
  rw [execHjIdleTimeout, if_pos (by simp [hrun, hup]), hu]
  rfl

theorem hjControlTimer_row (wf : Memory.wf s = true) (hrun : running s = true) (hup : linkUp s = true) :
    ∃ t, exec .hjControlTimer s = .next t ∧ t.out = .hjFrame s.pair.txSeq [controlRecord s] :: s.out ∧ t.pair.txSeq = s.pair.txSeq + 1 ∧
      t.get R.PAIR_CNT0_MIRROR_TX = (s.get R.PAIR_CNT0_MIRROR_TX + 1) % 2 ^ R.PAIR_CNT0_MIRROR_TX.width := by
  have hexec : exec .hjControlTimer s = .next (sendRecord s (controlRecord s)) := by
    change execHjControlTimer s = _
    rw [execHjControlTimer, if_pos hrun, sendControl, if_pos hup]
  generalize controlRecord s = r at hexec ⊢
  refine ⟨sendRecord s r, hexec, rfl, ?_, ?_⟩
  · rw [sendRecord, State.emit_pair, State.bumpWrap_pair, State.putPair_pair]
  · exact get_set_same (wf_regs (wf_keeps (State.putPair_keeps (Keeps.refl s) _) wf)) (by decide) _

/-! ## Training (R70, R531) -/

/-- The device reports itself to the peer and notes what it found: inversions and the peer's PAIR_ID. -/
def trainSent (s : State) (inversions peerId : Nat) : State :=
  ((s.emit (.hjTrain (s.get R.STRAPS_PAIR_ID) (ncsLog2 s.part) (s.get R.PSM_SLOT_SLOT_LEN) (s.get R.PSM_SLOT_SF_LEN)
    (runtimeIfv s) (runtimeVector s))).set R.HJ_STATUS_INV inversions).set R.HJ_STATUS_PEER_ID peerId

/-- The device answers with its nonce and tag. -/
def authSent (s : State) (inversions peerId : Nat) (k : BitVec 128) (n0 n1 : List Byte) : State :=
  (trainSent s inversions peerId).drew.emit
    (.hjAuth (toLE 16 s.drawn ++ Config.gcmTag k (n0 ++ n1 ++ toLE 1 (s.get R.STRAPS_PAIR_ID))))

theorem leaves_trainSent {key : Nat} (hk : R.HJ_STATUS ≠ key) (s : State) (inversions peerId : Nat) : Leaves key s (trainSent s inversions peerId) :=
  (((Leaves.refl key s).emit _).set R.HJ_STATUS_INV _ hk).set R.HJ_STATUS_PEER_ID _ hk

theorem wf_trainSent (wf : Memory.wf s = true) (inversions peerId : Nat) : Memory.wf (trainSent s inversions peerId) = true :=
  (leaves_trainSent (key := 0) (by decide) s inversions peerId).keeps.wf wf

theorem up_trainSent (wf : Memory.wf s = true) (inversions peerId : Nat) :
    (trainSent s inversions peerId).bit R.HJ_STATUS_UP = s.bit R.HJ_STATUS_UP := by
  have hw : Memory.wf (s.emit (.hjTrain (s.get R.STRAPS_PAIR_ID) (ncsLog2 s.part) (s.get R.PSM_SLOT_SLOT_LEN) (s.get R.PSM_SLOT_SF_LEN)
    (runtimeIfv s) (runtimeVector s))) = true := wf_keeps (State.emit_keeps (Keeps.refl s) _) wf
  exact (bit_set_apart (wf_set hw R.HJ_STATUS_INV inversions) (by decide) (by decide) peerId).trans
    ((bit_set_apart hw (by decide) (by decide) inversions).trans rfl)

theorem peerId_trainSent (wf : Memory.wf s = true) (inversions peerId : Nat) :
    (trainSent s inversions peerId).get R.HJ_STATUS_PEER_ID = peerId % 2 :=
  get_set_same (wf_regs (wf_set (wf_keeps (State.emit_keeps (Keeps.refl s) _) wf) R.HJ_STATUS_INV inversions)) (by decide) peerId

theorem pairId_trainSent (wf : Memory.wf s = true) (inversions peerId : Nat) :
    (trainSent s inversions peerId).get R.STRAPS_PAIR_ID = s.get R.STRAPS_PAIR_ID :=
  (leaves_trainSent (by decide) s inversions peerId).get (f := R.STRAPS_PAIR_ID) wf

/-- The peer's answer is judged under the session key of both nonces (R531). -/
def trainAnswered (s : State) (lanes peerId : Nat) (nonce tag : List Byte) (ncs slot sf ifv : Nat) (vector : List (Nat × Nat × Nat)) :
    Host.Outcome State Fault Refusal :=
  let own := toLE 16 s.drawn
  let s := s.drew
  let n0 := if s.get R.STRAPS_PAIR_ID = 0 then own else nonce
  let n1 := if s.get R.STRAPS_PAIR_ID = 0 then nonce else own
  match s.sec.kM with
  | none => .next (trainingFails (s.putPair { s.pair with retrainAt := some (s.now + secondNs) }) 2)
  | some kM =>
    let k := sessionKeyOf kM n0 n1
    let s := s.emit (.hjAuth (own ++ Config.gcmTag k (n0 ++ n1 ++ toLE 1 (s.get R.STRAPS_PAIR_ID))))
    if Config.gcmVerify k (n0 ++ n1 ++ toLE 1 (peerId % 2) ++ tag) then
      .next (linkTrained s lanes k ifv vector (peerCompatible s ncs slot sf ifv vector))
    else .next (trainingFails (s.putPair { s.pair with retrainAt := some (s.now + secondNs) }) 2)

/-- The link may train. -/
structure TrainOpen (s : State) (lanes : Nat) : Prop where
  run : running s = true
  part : hjPresent s.part = true
  enabled : s.bit R.PAIR_CFG_EN = true
  down : linkUp s = false
  idle : s.pair.retrainAt = none
  width : lanes = 2 ∨ lanes = 4

theorem TrainOpen.reaches {lanes : Nat} (h : TrainOpen s lanes) : ¬ (!running s || !hjPresent s.part || !s.bit R.PAIR_CFG_EN || linkUp s ||
    s.pair.retrainAt.isSome || decide (lanes ≠ 2 ∧ lanes ≠ 4)) = true := by
  have hwidth := h.width
  simp only [h.run, h.part, h.enabled, h.down, h.idle, Bool.not_true, Option.isSome_none, Bool.false_or, decide_eq_true_eq]
  omega

/-- Nothing happens but the report until the peer's answer is judged. -/
theorem hjTrainingDone_open {lanes inversions peerId ncs slot sf ifv : Nat} {nonce tag : List Byte} {vector : List (Nat × Nat × Nat)}
    (h : TrainOpen s lanes) : exec (.hjTrainingDone lanes inversions peerId nonce tag ncs slot sf ifv vector) s =
      if peerId % 2 = (trainSent s inversions peerId).get R.STRAPS_PAIR_ID then .next (trainingFails (trainSent s inversions peerId) 3)
      else trainAnswered (trainSent s inversions peerId) lanes peerId nonce tag ncs slot sf ifv vector := by
  change execHjTrainingDone lanes inversions peerId nonce tag ncs slot sf ifv vector s = _
  rw [execHjTrainingDone, if_neg h.reaches]
  rfl

/-! ## The trained link -/

theorem pair_postEvent (s : State) (code : Nat) (fields : List (Nat × Nat × Nat)) : (postEvent code fields s).pair = s.pair :=
  (postEvent_frame rfl (Frame.refl 0x80840021 s) code fields).of .pair rfl

/-- What a trained link shows. -/
def linkShown (s : State) (lanes : Nat) : State :=
  (((s.set R.HJ_STATUS_UP 1).set R.HJ_STATUS_LANES lanes).set R.HJ_STATUS_AUTH 1).set R.HJ_STATUS_PEER_ROLE roleSpare

theorem wf_linkShown (wf : Memory.wf s = true) (lanes : Nat) : Memory.wf (linkShown s lanes) = true :=
  wf_set (wf_set (wf_set (wf_set wf _ _) _ _) _ _) _ _

theorem get_linkShown (wf : Memory.wf s = true) {lanes : Nat} (hlanes : lanes < 8) :
    (linkShown s lanes).get R.HJ_STATUS_UP = 1 ∧ (linkShown s lanes).get R.HJ_STATUS_LANES = lanes ∧ (linkShown s lanes).get R.HJ_STATUS_AUTH = 1 := by
  simp [linkShown, wf_regs wf, R.HJ_STATUS_UP, R.HJ_STATUS_LANES, R.HJ_STATUS_AUTH, R.HJ_STATUS_PEER_ROLE, Nat.mod_eq_of_lt hlanes]

theorem leaves_linkShown {key : Nat} (hk : R.HJ_STATUS ≠ key) (s : State) (lanes : Nat) : Leaves key s (linkShown s lanes) :=
  ((((Leaves.refl key s).set R.HJ_STATUS_UP 1 hk).set R.HJ_STATUS_LANES lanes hk).set R.HJ_STATUS_AUTH 1 hk).set R.HJ_STATUS_PEER_ROLE _ hk

/-- What a trained link shows and starts with. -/
def linkStarted (s : State) (lanes : Nat) (key : BitVec 128) (ifv : Nat) (vector : List (Nat × Nat × Nat)) (fits : Bool) : State :=
  (linkShown s lanes).putPair
    { s.pair with sessionKey := key, peerIfv := ifv, peerVector := vector, txSeq := 0, rxSeq := 0, unacked := [],
                  rxAt := s.now, controlOnly := !fits, lastRecord := .none, peerClaims := false, peerHold := false }

section
variable {lanes ifv : Nat} {key : BitVec 128} {vector : List (Nat × Nat × Nat)} {fits : Bool}

theorem wf_linkStarted (wf : Memory.wf s = true) : Memory.wf (linkStarted s lanes key ifv vector fits) = true :=
  wf_keeps (State.putPair_keeps (Keeps.refl _) _) (wf_linkShown wf lanes)

theorem leaves_linkStarted (reg : Nat) (s : State) : Leaves reg (linkShown s lanes) (linkStarted s lanes key ifv vector fits) :=
  (Leaves.refl reg _).putPair _

theorem shown_linkStarted (wf : Memory.wf s = true) (hlanes : lanes < 8) :
    (linkStarted s lanes key ifv vector fits).get R.HJ_STATUS_UP = 1 ∧
      (linkStarted s lanes key ifv vector fits).get R.HJ_STATUS_LANES = lanes ∧
      (linkStarted s lanes key ifv vector fits).get R.HJ_STATUS_AUTH = 1 := by
  have hleaves := leaves_linkStarted (lanes := lanes) (key := key) (ifv := ifv) (vector := vector) (fits := fits) R.HJ_STATUS s
  have hw := wf_linkShown wf lanes
  rw [hleaves.get (f := R.HJ_STATUS_UP) hw, hleaves.get (f := R.HJ_STATUS_LANES) hw, hleaves.get (f := R.HJ_STATUS_AUTH) hw]
  exact get_linkShown wf hlanes

theorem claim_linkStarted (wf : Memory.wf s = true) :
    (linkStarted s lanes key ifv vector fits).bit R.PAIR_STATUS_CLAIM_OUT = s.bit R.PAIR_STATUS_CLAIM_OUT :=
  ((leaves_linkShown (key := R.PAIR_STATUS) (by decide) s lanes).trans (leaves_linkStarted R.PAIR_STATUS s)).bit (f := R.PAIR_STATUS_CLAIM_OUT) wf

theorem offerResync_unclaimed (h : s.bit R.PAIR_STATUS_CLAIM_OUT = false) : offerResync s = s := if_neg (by simp [h])

/-- A device that does not claim only becomes SPARE where the peer does not fit. -/
theorem linkTrained_unclaimed (wf : Memory.wf s = true) (hout : s.bit R.PAIR_STATUS_CLAIM_OUT = false) :
    linkTrained s lanes key ifv vector fits =
      if fits then postEvent 0x1104 [(0, 1, lanes)] (linkStarted s lanes key ifv vector fits)
      else setRole ((postEvent 0x1104 [(0, 1, lanes)] (linkStarted s lanes key ifv vector fits)).set R.PAIR_STATUS_MISMATCH 1) roleSpare 9 := by
  have hposted : (postEvent 0x1104 [(0, 1, lanes)] (linkStarted s lanes key ifv vector fits)).bit R.PAIR_STATUS_CLAIM_OUT = false :=
    (((Leaves.refl R.PAIR_STATUS _).postEvent (by decide) _ (by decide)).bit (f := R.PAIR_STATUS_CLAIM_OUT) (wf_linkStarted wf)).trans
      ((claim_linkStarted wf).trans hout)
  have hunfold : linkTrained s lanes key ifv vector fits =
      if fits then offerResync (postEvent 0x1104 [(0, 1, lanes)] (linkStarted s lanes key ifv vector fits))
      else if (postEvent 0x1104 [(0, 1, lanes)] (linkStarted s lanes key ifv vector fits)).bit R.PAIR_STATUS_CLAIM_OUT then
        postEvent 0x1104 [(0, 1, lanes)] (linkStarted s lanes key ifv vector fits)
      else setRole ((postEvent 0x1104 [(0, 1, lanes)] (linkStarted s lanes key ifv vector fits)).set R.PAIR_STATUS_MISMATCH 1) roleSpare 9 := rfl
  rw [hunfold, offerResync_unclaimed hposted, if_neg (ne_true_of_eq_false hposted)]

theorem pair_setRole (s : State) (role cause : Nat) : (setRole s role cause).pair = s.pair :=
  (pair_postEvent ..).trans ((State.set_pair ..).trans (State.set_pair ..))

theorem Leaves.setRole {key : Nat} {s0 : State} (h : Leaves key s0 s) (role cause : Nat) (hk : R.PAIR_STATUS ≠ key) (hn : noisy key = false) :
    Leaves key s0 (Machine.setRole s role cause) :=
  ((h.set R.PAIR_STATUS_ROLE _ hk).set R.PAIR_STATUS_CAUSE _ hk).postEvent (by decide) _ hn

/-- The link is up with its lanes and a session of its own, whether or not the peer fits. -/
theorem linkTrained_row (wf : Memory.wf s = true) (hout : s.bit R.PAIR_STATUS_CLAIM_OUT = false) (hlanes : lanes < 8) :
    (linkTrained s lanes key ifv vector fits).get R.HJ_STATUS_UP = 1 ∧ (linkTrained s lanes key ifv vector fits).get R.HJ_STATUS_LANES = lanes ∧
      (linkTrained s lanes key ifv vector fits).get R.HJ_STATUS_AUTH = 1 ∧ (linkTrained s lanes key ifv vector fits).pair.txSeq = 0 ∧
      (linkTrained s lanes key ifv vector fits).pair.rxSeq = 0 ∧ (linkTrained s lanes key ifv vector fits).pair.sessionKey = key := by
  have hw : Memory.wf (linkStarted s lanes key ifv vector fits) = true := wf_linkStarted wf
  obtain ⟨hup, hlane, hauth⟩ := shown_linkStarted (key := key) (ifv := ifv) (vector := vector) (fits := fits) wf hlanes
  have hposted := (Leaves.refl R.HJ_STATUS (linkStarted s lanes key ifv vector fits)).postEvent (code := 0x1104) (by decide)
    [(0, 1, lanes)] (by decide)
  have hstarted : (linkStarted s lanes key ifv vector fits).pair.txSeq = 0 ∧ (linkStarted s lanes key ifv vector fits).pair.rxSeq = 0 ∧
      (linkStarted s lanes key ifv vector fits).pair.sessionKey = key := by
    rw [linkStarted, State.putPair_pair]
    exact ⟨rfl, rfl, rfl⟩
  have hend : Leaves R.HJ_STATUS (linkStarted s lanes key ifv vector fits) (linkTrained s lanes key ifv vector fits) ∧
      (linkTrained s lanes key ifv vector fits).pair = (linkStarted s lanes key ifv vector fits).pair := by
    rw [linkTrained_unclaimed wf hout]
    split
    · exact ⟨hposted, pair_postEvent ..⟩
    · exact ⟨(hposted.set R.PAIR_STATUS_MISMATCH 1 (by decide)).setRole _ _ (by decide) (by decide),
        (pair_setRole ..).trans ((State.set_pair ..).trans (pair_postEvent ..))⟩
  obtain ⟨hleaves, hpair⟩ := hend
  rw [hpair]
  exact ⟨(hleaves.get (f := R.HJ_STATUS_UP) hw).trans hup, (hleaves.get (f := R.HJ_STATUS_LANES) hw).trans hlane,
    (hleaves.get (f := R.HJ_STATUS_AUTH) hw).trans hauth, hstarted⟩

end

theorem trainingFails_row (s : State) (cause : Nat) : Leaves R.HJ_STATUS s (trainingFails s cause) ∧
    (trainingFails s cause).pair = s.pair := ⟨(Leaves.refl R.HJ_STATUS s).postEvent (by decide) _ (by decide), pair_postEvent ..⟩

/-- What the answer of a peer leaves (R531). -/
theorem trainAnswered_row (wf : Memory.wf s = true) {lanes peerId ncs slot sf ifv : Nat} {nonce tag : List Byte}
    {vector : List (Nat × Nat × Nat)} {k : BitVec 128} {n0 n1 : List Byte} (hlanes : lanes < 8) (hup : s.bit R.HJ_STATUS_UP = false)
    (hkM : s.sec.kM = some k) (hout : s.bit R.PAIR_STATUS_CLAIM_OUT = false)
    (hn0 : n0 = if s.get R.STRAPS_PAIR_ID = 0 then toLE 16 s.drawn else nonce)
    (hn1 : n1 = if s.get R.STRAPS_PAIR_ID = 0 then nonce else toLE 16 s.drawn) :
    ∃ t, trainAnswered s lanes peerId nonce tag ncs slot sf ifv vector = .next t ∧
      (Config.gcmVerify (sessionKeyOf k n0 n1) (n0 ++ n1 ++ toLE 1 (peerId % 2) ++ tag) = true →
        t.get R.HJ_STATUS_UP = 1 ∧ t.get R.HJ_STATUS_LANES = lanes ∧ t.get R.HJ_STATUS_AUTH = 1 ∧ t.pair.txSeq = 0 ∧ t.pair.rxSeq = 0 ∧
          t.pair.sessionKey = sessionKeyOf k n0 n1) ∧
      (Config.gcmVerify (sessionKeyOf k n0 n1) (n0 ++ n1 ++ toLE 1 (peerId % 2) ++ tag) = false →
        t.bit R.HJ_STATUS_UP = false ∧ t.pair.retrainAt = some (s.now + secondNs)) := by
  have hdrew : s.drew.get R.STRAPS_PAIR_ID = s.get R.STRAPS_PAIR_ID ∧ s.drew.sec.kM = s.sec.kM := ⟨rfl, rfl⟩
  rw [trainAnswered]
  dsimp only
  rw [hdrew.1, hdrew.2, hkM, ← hn0, ← hn1]
  dsimp only
  have hsent : Leaves R.HJ_STATUS s (s.drew.emit (.hjAuth (toLE 16 s.drawn ++ Config.gcmTag (sessionKeyOf k n0 n1)
      (n0 ++ n1 ++ toLE 1 (s.get R.STRAPS_PAIR_ID))))) ∧
    Leaves R.PAIR_STATUS s (s.drew.emit (.hjAuth (toLE 16 s.drawn ++ Config.gcmTag (sessionKeyOf k n0 n1)
      (n0 ++ n1 ++ toLE 1 (s.get R.STRAPS_PAIR_ID))))) :=
    ⟨((Leaves.refl _ s).same (State.drew_keeps (Keeps.refl s)) rfl).emit _, ((Leaves.refl _ s).same (State.drew_keeps (Keeps.refl s)) rfl).emit _⟩
  have hnow : (s.drew.emit (.hjAuth (toLE 16 s.drawn ++ Config.gcmTag (sessionKeyOf k n0 n1)
      (n0 ++ n1 ++ toLE 1 (s.get R.STRAPS_PAIR_ID))))).now = s.now := rfl
  generalize s.drew.emit (.hjAuth (toLE 16 s.drawn ++ Config.gcmTag (sessionKeyOf k n0 n1) (n0 ++ n1 ++ toLE 1 (s.get R.STRAPS_PAIR_ID)))) = u
    at hsent hnow ⊢
  obtain ⟨hhj, hps⟩ := hsent
  have hwu : Memory.wf u = true := hhj.keeps.wf wf
  cases hverify : Config.gcmVerify (sessionKeyOf k n0 n1) (n0 ++ n1 ++ toLE 1 (peerId % 2) ++ tag)
  · refine ⟨_, if_neg Bool.false_ne_true, fun h => absurd h Bool.false_ne_true, fun _ => ?_⟩
    obtain ⟨hleaves, hpair⟩ := trainingFails_row (u.putPair { u.pair with retrainAt := some (u.now + secondNs) }) 2
    refine ⟨((hhj.trans (((Leaves.refl _ u).putPair _).trans hleaves)).bit (f := R.HJ_STATUS_UP) wf).trans hup, ?_⟩
    rw [hpair, State.putPair_pair, hnow]
  · exact ⟨_, if_pos rfl, fun _ => linkTrained_row hwu ((hps.bit (f := R.PAIR_STATUS_CLAIM_OUT) wf).trans hout) hlanes,
      fun h => absurd h.symm Bool.false_ne_true⟩

theorem hjTrainingDone_row (wf : Memory.wf s = true) {lanes inversions peerId ncs slot sf ifv : Nat} {nonce tag : List Byte}
    {vector : List (Nat × Nat × Nat)} {k : BitVec 128} {n0 n1 : List Byte} (h : TrainOpen s lanes)
    (hpeer : peerId % 2 ≠ s.get R.STRAPS_PAIR_ID) (hkM : s.sec.kM = some k) (hout : s.bit R.PAIR_STATUS_CLAIM_OUT = false)
    (hn0 : n0 = if s.get R.STRAPS_PAIR_ID = 0 then toLE 16 s.drawn else nonce)
    (hn1 : n1 = if s.get R.STRAPS_PAIR_ID = 0 then nonce else toLE 16 s.drawn) :
    ∃ t, exec (.hjTrainingDone lanes inversions peerId nonce tag ncs slot sf ifv vector) s = .next t ∧
      (Config.gcmVerify (sessionKeyOf k n0 n1) (n0 ++ n1 ++ toLE 1 (peerId % 2) ++ tag) = true →
        t.get R.HJ_STATUS_UP = 1 ∧ t.get R.HJ_STATUS_LANES = lanes ∧ t.get R.HJ_STATUS_AUTH = 1 ∧ t.pair.txSeq = 0 ∧ t.pair.rxSeq = 0 ∧
          t.pair.sessionKey = sessionKeyOf k n0 n1) ∧
      (Config.gcmVerify (sessionKeyOf k n0 n1) (n0 ++ n1 ++ toLE 1 (peerId % 2) ++ tag) = false →
        t.bit R.HJ_STATUS_UP = false ∧ t.pair.retrainAt = some (s.now + secondNs)) := by
  have hid := pairId_trainSent wf inversions peerId
  have hexec := hjTrainingDone_open (inversions := inversions) (peerId := peerId) (nonce := nonce) (tag := tag) (ncs := ncs) (slot := slot)
    (sf := sf) (ifv := ifv) (vector := vector) h
  rw [hid, if_neg hpeer] at hexec
  rw [hexec]
  have hsame : (trainSent s inversions peerId).drawn = s.drawn ∧ (trainSent s inversions peerId).now = s.now ∧
      (trainSent s inversions peerId).sec = s.sec := ⟨rfl, rfl, rfl⟩
  have hup := (up_trainSent wf inversions peerId).trans h.down
  have hclaim := ((leaves_trainSent (key := R.PAIR_STATUS) (by decide) s inversions peerId).bit (f := R.PAIR_STATUS_CLAIM_OUT) wf).trans hout
  have hw := wf_trainSent wf inversions peerId
  generalize trainSent s inversions peerId = u at hid hsame hup hclaim hw
  obtain ⟨hdrawn, hnow, hsec⟩ := hsame
  have hlanes : lanes < 8 := by
    have := h.width
    omega
  have hrow := trainAnswered_row hw (peerId := peerId) (ncs := ncs) (slot := slot) (sf := sf) (ifv := ifv) (tag := tag) (vector := vector)
    (k := k) (n0 := n0) (n1 := n1) (nonce := nonce) hlanes hup (by rw [hsec, hkM]) hclaim (by rw [hid, hdrawn, hn0]) (by rw [hid, hdrawn, hn1])
  rwa [hnow] at hrow

theorem hjTrainingDone_self (wf : Memory.wf s = true) {lanes inversions peerId ncs slot sf ifv : Nat} {nonce tag : List Byte}
    {vector : List (Nat × Nat × Nat)} (h : TrainOpen s lanes) (hpeer : peerId % 2 = s.get R.STRAPS_PAIR_ID) :
    ∃ t, exec (.hjTrainingDone lanes inversions peerId nonce tag ncs slot sf ifv vector) s = .next t ∧ t.bit R.HJ_STATUS_UP = false ∧
      t.get R.HJ_STATUS_PEER_ID = peerId % 2 ∧ t.pair = s.pair := by
  have hw := wf_trainSent wf inversions peerId
  obtain ⟨hleaves, hpair⟩ := trainingFails_row (trainSent s inversions peerId) 3
  refine ⟨_, ?_, (hleaves.bit (f := R.HJ_STATUS_UP) hw).trans ((up_trainSent wf inversions peerId).trans h.down),
    (hleaves.get (f := R.HJ_STATUS_PEER_ID) hw).trans (peerId_trainSent wf inversions peerId), hpair.trans ?_⟩
  · rw [hjTrainingDone_open h, pairId_trainSent wf, if_pos hpeer]
  · rw [trainSent, State.set_pair, State.set_pair, State.emit_pair]

/-! ## Timers -/

theorem realDiv_exact (tag : Nat) {num den x : Int} (hden : den ≠ 0) (h : num = den * x) : realDiv tag num den = x := by
  rw [realDiv, if_neg hden, if_pos (by rw [h, Int.mul_emod_right]), h, Int.mul_ediv_cancel_left _ hden]

theorem hjTimeExchange_row (hrun : running s = true) (hup : linkUp s = true) {sent peerGot peerSent got : Nat} {x : Int}
    (hx : 5 * (timeDiff peerGot sent + timeDiff peerSent got) - s.getI R.HJ_ASYM_ASYM = 10 * x) :
    exec (.hjTimeExchange sent peerGot peerSent got) s = .next (s.setI R.HJ_TOFS_OFS x) := by
  change execHjTimeExchange sent peerGot peerSent got s = _
  rw [execHjTimeExchange, if_pos (by simp [hrun, hup])]
  dsimp only
  rw [realDiv_exact 52 (by decide) hx]

/-- Settles O38. -/
theorem linkRowsComplete : Obligations.LinkRowsComplete := by
  intro s wf
  refine ⟨fun seq acks records hrun hup hseq => hjLinkFrameRx_inTurn hrun hup hseq acks records,
    fun seq acks records hrun hup hseq => hjLinkFrameRx_repeat hrun hup hseq acks records, fun seq acks records => if_pos (by simp),
    fun seq f => hjRetryTimeout_row wf, fun seq f hrun hup hf hmany => ?_, fun u => hjIdleTimeout_row, hjControlTimer_row wf,
    fun lanes inv peer nonce tag ncs slot sf ifv vector k n0 n1 hrun hpart hen hup hidle hlanes hpeer hkM hout =>
      hjTrainingDone_row wf ⟨hrun, hpart, hen, hup, hidle, hlanes⟩ hpeer hkM hout,
    fun lanes inv peer nonce tag ncs slot sf ifv vector hrun hpart hen hup hidle hlanes =>
      hjTrainingDone_self wf ⟨hrun, hpart, hen, hup, hidle, hlanes⟩,
    fun x hx => ⟨_, ?_, rfl⟩, fun sent peerGot peerSent got x hrun hup hx => ⟨_, hjTimeExchange_row hrun hup hx, rfl⟩⟩
  · rw [hjRetryTimeout_found hrun hup hf, if_pos hmany]
  · change execHjRetrainTimer s = _
    rw [execHjRetrainTimer, hx]

end Sys2Proof.Machine
end

section
/-!
Mirror records (O39), whose clause on a node's reservation fails at a poisoned line.
-/

namespace Sys2Proof.Machine

/-- A running receiver with its link up whose line 0 is poisoned. -/
def poisonedReceiver : State :=
  ((State.reset.set R.HJ_STATUS_UP 1).putBoot { State.reset.boot with phase := .running }).putMi { State.reset.mi with bad := [(.ncs, 0)] }

theorem wf_poisonedReceiver : Memory.wf poisonedReceiver = true :=
  wf_keeps (State.putMi_keeps (State.putBoot_keeps (Keeps.refl (State.reset.set R.HJ_STATUS_UP 1)) { State.reset.boot with phase := .running }) _)
    (wf_set resetStoresCanonical _ _)

/-- A field write to a poisoned line marks it for rebuild instead (R500). -/
theorem line_setLineField_poisoned {s : State} (wf : Memory.wf s = true) {n : Nat} (hn : n < lineCount s) (hbad : linePoisoned s n = true)
    (f : LineFld) (v : Nat) : (setLineField s n f v).line n = rebuildLine s := by
  rw [setLineField, if_pos hbad, line_writeLine_self wf hn]

theorem toNat_lineSet (l : Line) {f : LineFld} (hf : f.lo + f.width ≤ 512) (v : Nat) :
    (lineSet l f v).toNat = natSetBits l.toNat f.lo f.width v := by
  rw [lineSet, BitVec.toNat_ofNat, Nat.mod_eq_of_lt (natSetBits_lt _ _ _ _ _ l.isLt hf)]

theorem lineGet_lineSet_below (l : Line) {f g : LineFld} (hf : f.lo + f.width ≤ 512) (hgf : g.lo + g.width ≤ f.lo) (v : Nat) :
    lineGet (lineSet l f v) g = lineGet l g := by
  rw [lineGet, toNat_lineSet l hf, natBits_natSetBits_below _ _ _ _ _ _ hgf, lineGet]

theorem lineGet_lineSet_above (l : Line) {f g : LineFld} (hf : f.lo + f.width ≤ 512) (hgf : f.lo + f.width ≤ g.lo) (v : Nat) :
    lineGet (lineSet l f v) g = lineGet l g := by
  rw [lineGet, toNat_lineSet l hf, natBits_natSetBits_above _ _ _ _ _ _ hgf, lineGet]

theorem txctr_rebuildLine (s : State) : lineGet (rebuildLine s) N.TXCTR = 0 := by
  rw [rebuildLine, lineGet_lineSet_below _ (by decide) (by decide), lineGet_lineSet_above _ (by decide) (by decide), lineGet,
    BitVec.toNat_ofNat, Nat.zero_mod, natBits, Nat.zero_div, Nat.zero_mod]

theorem mirrorReservation_taken {s : State} (h : takesRecords s = true) (node block : Nat) (district : Bool) :
    exec (.mirrorReservation node district block) s = .next (applyReservation (s.bumpWrap R.PAIR_CNT0_MIRROR_RX) node district block) := by
  change execMirrorReservation node district block s = _
  rw [execMirrorReservation, applyRecord, takeRecord, if_pos h]

theorem line_applyReservation (s : State) (n k m : Nat) :
    (applyReservation s n false k).line m = (setLineField s n N.TXCTR (counterAfter k)).line m := line_of_fwd_eq (State.putPair_fwd ..) m

/-- Refutes O39: a reservation record for a node whose line is poisoned leaves the rebuild mark there, and no counter. -/
theorem not_mirrorRowsComplete : ¬ Obligations.MirrorRowsComplete := by
  intro h
  obtain ⟨-, hreserve, -⟩ := h poisonedReceiver _ wf_poisonedReceiver rfl
  have htakes : takesRecords poisonedReceiver = true := by decide
  have hw : Memory.wf (poisonedReceiver.bumpWrap R.PAIR_CNT0_MIRROR_RX) = true := wf_set wf_poisonedReceiver _ _
  have hin : 0 < lineCount (poisonedReceiver.bumpWrap R.PAIR_CNT0_MIRROR_RX) := Nat.two_pow_pos _
  obtain ⟨t, hexec, hcounter, -⟩ := hreserve 0 0 htakes (Nat.two_pow_pos _)
  have hline : t.line 0 = rebuildLine (poisonedReceiver.bumpWrap R.PAIR_CNT0_MIRROR_RX) := by
    rw [← Host.Outcome.next.inj ((mirrorReservation_taken htakes 0 0 false).symm.trans hexec), line_applyReservation,
      line_setLineField_poisoned hw hin (by decide)]
  have hzero : (0 : Nat) = counterAfter 0 := by rw [← hcounter, hline, txctr_rebuildLine]
  exact absurd hzero (by decide)

end Sys2Proof.Machine
end

section
/-!
PAIR_CMD and the planned switchover (chapter 19, R538 to R542, Table 19-6).
-/

namespace Sys2Proof.Machine

variable {s : State}

theorem pairCommand_open (h : pairCommand s = true) : ¬ (!pairCommand s) = true := by simp [h]

theorem wf_pairResult (wf : Memory.wf s = true) (r : Nat) : Memory.wf (pairResult s r) = true := wf_set wf _ _

/-! ## OP 1: the planned switchover (R539) -/

theorem boundaryAhead_congr {t : State} (hlen : t.get R.PSM_SLOT_SLOT_LEN = s.get R.PSM_SLOT_SLOT_LEN) (htb : t.tb = s.tb)
    (hpsm : t.psm = s.psm) : boundaryAhead t = boundaryAhead s := by
  have hslot : slotLenNs t = slotLenNs s := by rw [slotLenNs, slotLenNs, hlen]
  have hend : slotEnd t = slotEnd s := by rw [slotEnd, slotEnd, htb, hslot]
  have hns : t.tbNs = s.tbNs := congrArg (fun x : TimeState => x.ns.toNat) htb
  have hasn : t.asnNat = s.asnNat := congrArg (fun x : PsmState => x.asn.toNat) hpsm
  unfold boundaryAhead
  rw [hslot, hend, hns, hasn]

theorem boundaryAhead_pairResult (wf : Memory.wf s = true) (r : Nat) : boundaryAhead (pairResult s r) = boundaryAhead s :=
  boundaryAhead_congr (((Leaves.refl R.PSM_SLOT s).set R.PAIR_STATUS_CMD_RES r (by decide)).get (f := R.PSM_SLOT_SLOT_LEN) wf)
    (State.set_tb ..) (State.set_psm ..)

/-- The switchover that an accepted request begins. -/
def plannedSwitchover (s : State) (cause : Nat) : Switchover :=
  { phase := .waitBoundary, outgoing := true, kind := 0, cause := cause, boundary := boundaryAhead s, started := s.now, released := 0,
    firstBlock := 0 }

theorem pair_startPlanned (s : State) (cause next : Nat) :
    (startPlanned s cause next).pair = { s.pair with switchover := some (plannedSwitchover s cause), then_ := next } := by
  rw [startPlanned, State.set_pair, State.putPair_pair]
  rfl

theorem swo_startPlanned (wf : Memory.wf s = true) (cause next : Nat) : (startPlanned s cause next).get R.PAIR_STATUS_SWO = 1 :=
  get_set_same (wf_regs (wf_keeps (State.putPair_keeps (Keeps.refl s) _) wf)) (by decide) 1

theorem cmdRes_startPlanned (wf : Memory.wf s = true) (cause next : Nat) :
    (startPlanned s cause next).get R.PAIR_STATUS_CMD_RES = s.get R.PAIR_STATUS_CMD_RES :=
  get_set_bits (wf_regs (wf_keeps (State.putPair_keeps (Keeps.refl s) _) wf)) R.PAIR_STATUS (by decide) (by decide) 1

theorem pairPlannedSwitchover_accepted (wf : Memory.wf s = true) (hcmd : pairCommand s = true) (hswitch : switchResult s = 1)
    (hfwd : updState s ≠ updHandover) (hback : updState s ≠ updFallback) :
    ∃ t w, exec .pairPlannedSwitchover s = .next t ∧ t.pair.switchover = some w ∧ w.phase = .waitBoundary ∧ w.outgoing = true ∧ w.kind = 0 ∧
      w.boundary = boundaryAhead s ∧ t.get R.PAIR_STATUS_CMD_RES = 1 ∧ t.get R.PAIR_STATUS_SWO = 1 ∧ t.pair.then_ = 0 := by
  have hexec : exec .pairPlannedSwitchover s = .next (startPlanned (pairResult s 1) 2 0) := by
    change execPairPlannedSwitchover s = _
    have hresult : (if (decide (switchResult s = 1) && (decide (updState s = updHandover) || decide (updState s = updFallback))) = true then 4
        else switchResult s) = 1 := (if_neg (by simp [hfwd, hback])).trans hswitch
    rw [execPairPlannedSwitchover, if_neg (pairCommand_open hcmd)]
    dsimp only
    rw [hresult, if_pos rfl]
  have hw := wf_pairResult wf 1
  refine ⟨_, plannedSwitchover (pairResult s 1) 2, hexec, ?_, rfl, rfl, rfl, boundaryAhead_pairResult wf 1,
    (cmdRes_startPlanned hw 2 0).trans (get_set_same (wf_regs wf) (by decide) 1), swo_startPlanned hw 2 0, ?_⟩
  all_goals rw [pair_startPlanned]

theorem pairPlannedSwitchover_refused (hcmd : pairCommand s = true) (hswitch : switchResult s ≠ 1) :
    exec .pairPlannedSwitchover s = .next (s.set R.PAIR_STATUS_CMD_RES (switchResult s)) := by
  change execPairPlannedSwitchover s = _
  have hresult : (if (decide (switchResult s = 1) && (decide (updState s = updHandover) || decide (updState s = updFallback))) = true then 4
      else switchResult s) = switchResult s := if_neg (by simp [hswitch])
  rw [execPairPlannedSwitchover, if_neg (pairCommand_open hcmd)]
  dsimp only
  rw [hresult, if_neg hswitch, pairResult]

/-! ## OP 2: the resync (R538) -/

theorem pairRestartResync_running (hcmd : pairCommand s = true) (hout : s.bit R.PAIR_STATUS_CLAIM_OUT = true)
    (hidle : s.pair.switchover = none) (hsync : resyncing s = true) :
    exec .pairRestartResync s = .next (startResync (s.set R.PAIR_STATUS_CMD_RES 1)) := by
  change execPairRestartResync s = _
  rw [execPairRestartResync, if_neg (pairCommand_open hcmd), if_neg (by simp [hout]), if_neg (by simp [hidle]), if_pos (by simp [hsync])]
  rfl

theorem pairRestartResync_unclaimed (hcmd : pairCommand s = true) (hout : s.bit R.PAIR_STATUS_CLAIM_OUT = false) :
    exec .pairRestartResync s = .next (s.set R.PAIR_STATUS_CMD_RES 2) := by
  change execPairRestartResync s = _
  rw [execPairRestartResync, if_neg (pairCommand_open hcmd), if_pos (by simp [hout])]
  rfl

/-! ## OP 3 and OP 4: the hold (R542) -/

theorem hold_open (hout : s.bit R.PAIR_STATUS_CLAIM_OUT = false)
    (hrole : s.get R.PAIR_STATUS_ROLE = roleStandby ∨ s.get R.PAIR_STATUS_ROLE = roleSpare) :
    ¬ (s.bit R.PAIR_STATUS_CLAIM_OUT || !([roleStandby, roleSpare].contains (s.get R.PAIR_STATUS_ROLE))) = true := by
  rw [hout]
  obtain h | h := hrole <;> rw [h] <;> decide

/-- The device is on hold, out of sync and in no switchover. -/
def holding (s : State) : State := clearSwitchover ((dropSync (pairResult s 1)).set R.PAIR_STATUS_HOLD 1)

theorem wf_holding (wf : Memory.wf s = true) : Memory.wf (holding s) = true :=
  wf_keeps (clearSwitchover_keeps (State.set_keeps (dropSync_keeps (State.set_keeps (Keeps.refl s) _ _)) _ _)) wf

theorem switchover_holding (s : State) : (holding s).pair.switchover = none := by
  rw [holding, clearSwitchover, State.set_pair, State.putPair_pair]

theorem get_clearSwitchover (wf : Memory.wf s = true) {f : Fld} (hf : Apart R.PAIR_STATUS_SWO f) : (clearSwitchover s).get f = s.get f :=
  (get_set_apart (wf_keeps (State.putPair_keeps (Keeps.refl s) _) wf) (by decide) hf 0).trans (((Leaves.refl f.key s).putPair _).get wf)

theorem leaves_dropSync {key : Nat} (hkey : R.SYNC_STAT ≠ key) (s : State) : Leaves key (s.set R.PAIR_STATUS_SYNC 0) (dropSync s) :=
  (((Leaves.refl key _).set R.SYNC_STAT_STATE 0 hkey).set R.SYNC_STAT_LEFT 0 hkey).putPair _

theorem get_dropSync (wf : Memory.wf s = true) {f : Fld} (hf : Apart R.PAIR_STATUS_SYNC f) (hkey : R.SYNC_STAT ≠ f.key) :
    (dropSync s).get f = s.get f :=
  ((leaves_dropSync hkey s).get (wf_set wf _ _)).trans (get_set_apart wf (by decide) hf 0)

theorem sync_dropSync (wf : Memory.wf s = true) : (dropSync s).get R.PAIR_STATUS_SYNC = 0 :=
  ((leaves_dropSync (by decide) s).get (f := R.PAIR_STATUS_SYNC) (wf_set wf _ _)).trans (get_set_same (wf_regs wf) (by decide) 0)

theorem wf_dropSync (wf : Memory.wf s = true) : Memory.wf (dropSync s) = true := wf_keeps (dropSync_keeps (Keeps.refl s)) wf

/-- A field that the hold does not touch. -/
theorem get_holding_apart (wf : Memory.wf s = true) {f : Fld} (hswo : Apart R.PAIR_STATUS_SWO f) (hhold : Apart R.PAIR_STATUS_HOLD f) :
    (holding s).get f = (dropSync (pairResult s 1)).get f :=
  (get_clearSwitchover (wf_set (wf_dropSync (wf_pairResult wf 1)) _ _) hswo).trans
    (get_set_apart (wf_dropSync (wf_pairResult wf 1)) (by decide) hhold 1)

/-- What PAIR_STATUS shows of a device on hold. -/
theorem get_holding (wf : Memory.wf s = true) : (holding s).get R.PAIR_STATUS_CMD_RES = 1 ∧ (holding s).get R.PAIR_STATUS_HOLD = 1 ∧
    (holding s).get R.PAIR_STATUS_SYNC = 0 ∧ (holding s).get R.PAIR_STATUS_ROLE = s.get R.PAIR_STATUS_ROLE := by
  have hw := wf_pairResult wf 1
  refine ⟨?_, ?_, ?_, ?_⟩
  · rw [get_holding_apart wf (by decide) (by decide), get_dropSync hw (by decide) (by decide)]
    exact get_set_same (wf_regs wf) (by decide) 1
  · exact (get_clearSwitchover (wf_set (wf_dropSync hw) _ _) (by decide)).trans (get_set_same (wf_regs (wf_dropSync hw)) (by decide) 1)
  · rw [get_holding_apart wf (by decide) (by decide), sync_dropSync hw]
  · rw [get_holding_apart wf (by decide) (by decide), get_dropSync hw (by decide) (by decide)]
    exact get_set_apart wf (by decide) (by decide) 1

/-- What a role change shows. -/
theorem get_setRole (wf : Memory.wf s = true) (role cause : Nat) : (setRole s role cause).get R.PAIR_STATUS_ROLE = role % 4 ∧
    (setRole s role cause).get R.PAIR_STATUS_CAUSE = cause % 16 := by
  have hset := wf_set wf R.PAIR_STATUS_ROLE role
  have hposted : Leaves R.PAIR_STATUS ((s.set R.PAIR_STATUS_ROLE role).set R.PAIR_STATUS_CAUSE cause) (setRole s role cause) :=
    (Leaves.refl _ _).postEvent (by decide) _ (by decide)
  refine ⟨(hposted.get (f := R.PAIR_STATUS_ROLE) (wf_set hset _ _)).trans ?_, (hposted.get (f := R.PAIR_STATUS_CAUSE) (wf_set hset _ _)).trans ?_⟩
  · exact (get_set_apart hset (by decide) (by decide) cause).trans (get_set_same (wf_regs wf) (by decide) role)
  · exact get_set_same (wf_regs hset) (by decide) cause

/-- A role change leaves the other fields of PAIR_STATUS. -/
theorem get_setRole_apart (wf : Memory.wf s = true) {f : Fld} (hnoisy : noisy f.key = false) (hrole : Apart R.PAIR_STATUS_ROLE f)
    (hcause : Apart R.PAIR_STATUS_CAUSE f) (role cause : Nat) : (setRole s role cause).get f = s.get f := by
  have hset := wf_set wf R.PAIR_STATUS_ROLE role
  refine (((Leaves.refl f.key _).postEvent (by decide) _ hnoisy).get (wf_set hset R.PAIR_STATUS_CAUSE cause)).trans ?_
  exact (get_set_apart hset (by decide) hcause cause).trans (get_set_apart wf (by decide) hrole role)

theorem pairHold_row (wf : Memory.wf s = true) (hcmd : pairCommand s = true) (hout : s.bit R.PAIR_STATUS_CLAIM_OUT = false)
    (hrole : s.get R.PAIR_STATUS_ROLE = roleStandby ∨ s.get R.PAIR_STATUS_ROLE = roleSpare) :
    ∃ t, exec .pairHold s = .next t ∧ t.get R.PAIR_STATUS_CMD_RES = 1 ∧ t.get R.PAIR_STATUS_HOLD = 1 ∧ t.get R.PAIR_STATUS_SYNC = 0 ∧
      t.get R.PAIR_STATUS_ROLE = roleSpare ∧ t.pair.switchover = none ∧
      (s.get R.PAIR_STATUS_ROLE = roleStandby → t.get R.PAIR_STATUS_CAUSE = 10) := by
  have hexec : exec .pairHold s = .next (takeRole (holding s) roleSpare 10) := by
    change execPairHold s = _
    rw [execPairHold, if_neg (pairCommand_open hcmd), if_neg (hold_open hout hrole)]
    rfl
  obtain ⟨hres, hhold, hsync, hkept⟩ := get_holding wf
  have hw := wf_holding wf
  have hnone := switchover_holding s
  generalize holding s = u at hexec hres hhold hsync hkept hw hnone
  refine ⟨_, hexec, ?_⟩
  by_cases hspare : u.get R.PAIR_STATUS_ROLE = roleSpare
  · rw [takeRole, if_pos hspare]
    refine ⟨hres, hhold, hsync, hspare, hnone, fun h => absurd ((hkept.symm.trans hspare).symm.trans h) (by decide)⟩
  · obtain ⟨hshown, hcause⟩ := get_setRole hw roleSpare 10
    rw [takeRole, if_neg hspare]
    exact ⟨(get_setRole_apart hw (by decide) (by decide) (by decide) _ _).trans hres,
      (get_setRole_apart hw (by decide) (by decide) (by decide) _ _).trans hhold,
      (get_setRole_apart hw (by decide) (by decide) (by decide) _ _).trans hsync, hshown, by rw [pair_setRole, hnone], fun _ => hcause⟩

theorem pairResume_row (hcmd : pairCommand s = true) (hout : s.bit R.PAIR_STATUS_CLAIM_OUT = false)
    (hrole : s.get R.PAIR_STATUS_ROLE = roleStandby ∨ s.get R.PAIR_STATUS_ROLE = roleSpare) :
    exec .pairResume s = .next ((s.set R.PAIR_STATUS_CMD_RES 1).set R.PAIR_STATUS_HOLD 0) := by
  change execPairResume s = _
  rw [execPairResume, if_neg (pairCommand_open hcmd), if_neg (hold_open hout hrole)]
  rfl

theorem pairHold_claiming (hcmd : pairCommand s = true) (hout : s.bit R.PAIR_STATUS_CLAIM_OUT = true) :
    exec .pairHold s = .next (s.set R.PAIR_STATUS_CMD_RES 2) ∧ exec .pairResume s = .next (s.set R.PAIR_STATUS_CMD_RES 2) := by
  constructor
  · change execPairHold s = _
    rw [execPairHold, if_neg (pairCommand_open hcmd), if_pos (by simp [hout])]
    rfl
  · change execPairResume s = _
    rw [execPairResume, if_neg (pairCommand_open hcmd), if_pos (by simp [hout])]
    rfl

/-! ## The outgoing side of a switchover (Table 19-6) -/

section
variable {w : Switchover}

/-- The handover begins at boundary B. -/
def boundaryReached (s : State) (w : Switchover) : State :=
  postEvent 0x1102 [(0, 1, 0), (1, 1, w.cause)]
    (s.putPair { s.pair with switchover := some { w with phase := .handover, started := s.now, firstBlock := firstBlock s } })

theorem pair_boundaryReached (s : State) (w : Switchover) : (boundaryReached s w).pair =
    { s.pair with switchover := some { w with phase := .handover, started := s.now, firstBlock := firstBlock s } } :=
  (pair_postEvent ..).trans (State.putPair_pair ..)

theorem linkUp_boundaryReached (wf : Memory.wf s = true) (w : Switchover) : linkUp (boundaryReached s w) = linkUp s :=
  (((Leaves.refl R.HJ_STATUS s).putPair _).postEvent (by decide) _ (by decide)).bit (f := R.HJ_STATUS_UP) wf

theorem pair_sendRecord (s : State) (r : MirrorRecord) : (sendRecord s r).pair =
    { s.pair with txSeq := s.pair.txSeq + 1, unacked := s.pair.unacked ++ [{ seq := s.pair.txSeq, sends := 1, records := [r] }] } := by
  rw [sendRecord, State.emit_pair, State.bumpWrap_pair, State.putPair_pair]

theorem switchoverBoundary_row (wf : Memory.wf s = true) (hw : s.pair.switchover = some w) (hrun : running s = true) (hgiving : w.outgoing = true)
    (hphase : w.phase = .waitBoundary) (hcome : s.bit R.PSM_STATUS_RUN = false ∨ seqGe 40 s.asnNat w.boundary = true) :
    ∃ t, exec .switchoverBoundary s = .next t ∧
      t.pair.switchover = some { w with phase := .handover, started := s.now, firstBlock := firstBlock s } ∧
      (linkUp s = true → t.pair.txSeq = s.pair.txSeq + 1) := by
  have hexec : exec .switchoverBoundary s = .next (sendControl (boundaryReached s w) (.handover w.boundary)) := by
    change execSwitchoverBoundary s = _
    rw [execSwitchoverBoundary, hw]
    dsimp only
    rw [if_pos (by simpa [hrun, hgiving, hphase] using hcome)]
    rfl
  have hpair := pair_boundaryReached s w
  have hlink := linkUp_boundaryReached wf w
  generalize boundaryReached s w = u at hexec hpair hlink
  refine ⟨_, hexec, ?_, fun hup => ?_⟩
  · rw [sendControl]
    split
    · rw [pair_sendRecord, hpair]
    · rw [hpair]
  · rw [sendControl, if_pos (hlink.trans hup), pair_sendRecord, hpair]

theorem handoverAck_drained (hw : s.pair.switchover = some w) (hrun : running s = true) (hgiving : w.outgoing = true)
    (hphase : w.phase = .handover ∨ w.phase = .stopped) (hempty : egressDrained s = true) : exec .handoverAck s =
      .next (dropLower (releaseClaim (s.putPair { s.pair with switchover := some { w with phase := .released, released := s.now } }))) := by
  change execHandoverAck s = _
  rw [execHandoverAck, hw]
  dsimp only
  rw [if_neg (by simpa [hrun, hgiving] using hphase.resolve_left), if_pos hempty]

theorem handoverAck_waits (hw : s.pair.switchover = some w) (hrun : running s = true) (hgiving : w.outgoing = true)
    (hphase : w.phase = .handover) (hfull : egressDrained s = false) : exec .handoverAck s =
      .next (s.putPair { s.pair with switchover := some { w with phase := .stopped } }) := by
  change execHandoverAck s = _
  rw [execHandoverAck, hw]
  dsimp only
  rw [if_neg (by simp [hrun, hgiving, hphase]), if_neg (ne_true_of_eq_false hfull)]

theorem switchoverRewriteDone_row (hw : s.pair.switchover = some w) (hrun : running s = true) (hgiving : w.outgoing = true)
    (hphase : w.phase = .rewrite) : exec .switchoverRewriteDone s =
      .next (settle (setRole (switchDone (rewriteCounters s) w (switchTime s w)) roleStandby w.cause)) := by
  change execSwitchoverRewriteDone s = _
  rw [execSwitchoverRewriteDone, hw]
  dsimp only
  rw [if_pos (by simp [hrun, hgiving, hphase])]

theorem switchoverReclaimTimer_row (hw : s.pair.switchover = some w) (hrun : running s = true) (hgiving : w.outgoing = true)
    (hphase : w.phase = .released) (hin : s.bit R.PAIR_STATUS_CLAIM_IN = false) :
    ∃ t, exec .switchoverReclaimTimer s = .next t ∧ t.pair.switchover = some { w with phase := .reclaim } := by
  have hexec : exec .switchoverReclaimTimer s = .next ((s.reach (w.released + 1000000)).putPair
      { (s.reach (w.released + 1000000)).pair with switchover := some { w with phase := .reclaim } }) := by
    change execSwitchoverReclaimTimer s = _
    rw [execSwitchoverReclaimTimer, hw]
    dsimp only
    rw [if_pos (by simp [hrun, hgiving, hphase, hin])]
  generalize s.reach (w.released + 1000000) = u at hexec
  exact ⟨_, hexec, by rw [State.putPair_pair]⟩

end

/-- Settles O40. -/
theorem switchoverRowsComplete : Obligations.SwitchoverRowsComplete := by
  intro s wf
  exact ⟨pairPlannedSwitchover_accepted wf, fun hcmd hswitch => ⟨_, pairPlannedSwitchover_refused hcmd hswitch, rfl⟩, pairRestartResync_running,
    fun hcmd hout => ⟨_, pairRestartResync_unclaimed hcmd hout, rfl⟩, pairHold_row wf,
    fun hcmd hout hrole => ⟨_, pairResume_row hcmd hout hrole, rfl⟩, pairHold_claiming, fun _ => switchoverBoundary_row wf,
    fun _ => handoverAck_drained, fun _ => switchoverRewriteDone_row, fun _ => switchoverReclaimTimer_row, fun _ => handoverAck_waits⟩

end Sys2Proof.Machine
end

section
/-!
UPD_CMD (chapter 20, R549 to R552, R558, R566): what a directory commit leaves, and the commands that stage an image.
-/

namespace Sys2Proof.Machine

variable {s : State}

/-! ## Directory commits -/

theorem Leaves.writePage {key : Nat} {s0 : State} (h : Leaves key s0 s) (copy gen floor : Nat) (l : List SlotEntry) (p : List Byte) :
    Leaves key s0 (Machine.writePage s copy gen floor l p).1 :=
  h.same (writePage_keeps (Keeps.refl s) copy gen floor l p) ((writePage_frame rfl (Frame.refl 0x100000004 s) copy gen floor l p).of .regs rfl)

theorem Leaves.wearView {key : Nat} {s0 : State} (h : Leaves key s0 s) (hk : R.FLASH_WEAR ≠ key) : Leaves key s0 (Machine.wearView s) :=
  h.set R.FLASH_WEAR_MAX_ERASE _ hk

/-- A directory change that is made: apart from the directory itself only FLASH_WEAR moves. -/
structure DirChanged (s t : State) : Prop where
  leaves : ∀ {key : Nat}, R.FLASH_WEAR ≠ key → Leaves key s t
  writes : t.boot.slotWrites = s.boot.slotWrites
  frame : Frame 0x180840027 s t

theorem DirChanged.wf {t : State} (h : DirChanged s t) (w : Memory.wf s = true) : Memory.wf t = true :=
  (h.leaves (key := 0) (by decide)).keeps.wf w

theorem DirChanged.upd {t : State} (h : DirChanged s t) : t.upd = s.upd := h.frame.of .upd rfl

theorem DirChanged.now {t : State} (h : DirChanged s t) : t.now = s.now := h.frame.of .now rfl

theorem commitDirectory_made {a : Nat} (hpage : s.boot.page = some a) (hallowed : commitAllowed s = true) (floor : Nat) (l : List SlotEntry)
    (comp slot : Nat) : (commitDirectory s floor l comp slot).2 = true ∧ DirChanged s (commitDirectory s floor l comp slot).1 := by
  have hframe := commitDirectory_frame rfl (Frame.refl 0x180840027 s) floor l comp slot
  suffices h : (commitDirectory s floor l comp slot).2 = true ∧ (commitDirectory s floor l comp slot).1.boot.slotWrites = s.boot.slotWrites ∧
      ∀ key, R.FLASH_WEAR ≠ key → Leaves key s (commitDirectory s floor l comp slot).1 from
    ⟨h.1, fun hk => h.2.2 _ hk, h.2.1, hframe⟩
  unfold commitDirectory
  rw [if_neg (by rw [hallowed]; decide), hpage]
  simp only
  generalize pageAt s a = p
  generalize (leField p 8 4 + 1) % 2 ^ 32 = gen
  have hboot0 := boot_writePage s 0 gen floor l p
  have hleaves0 : ∀ key, Leaves key s (writePage s 0 gen floor l p).1 := fun key => (Leaves.refl key s).writePage 0 gen floor l p
  generalize writePage s 0 gen floor l p = first at hboot0 hleaves0 ⊢
  obtain ⟨s0, p0⟩ := first
  have hboot1 := boot_writePage s0 1 gen floor l p
  have hleaves1 : ∀ key, Leaves key s (writePage s0 1 gen floor l p).1 := fun key => (hleaves0 key).writePage 1 gen floor l p
  simp only at hboot0 ⊢
  generalize writePage s0 1 gen floor l p = second at hboot1 hleaves1 ⊢
  obtain ⟨s1, p1⟩ := second
  refine ⟨trivial, ?_, fun key hk => ((hleaves1 key).putBoot _).wearView hk⟩
  simp only at hboot1 ⊢
  rw [boot_wearView, State.putBoot_boot]
  exact show s1.boot.slotWrites = s.boot.slotWrites from congrArg BootState.slotWrites (hboot1.trans hboot0)

theorem slotChange_made {comp target : Nat} {e : SlotEntry} (he : slotOf s comp target = some e) (hallowed : commitAllowed s = true)
    (state : Nat) (active : Bool) (other : Option (Nat × Bool)) (floor : Nat) :
    (slotChange s comp target state active other floor).2 = true ∧ DirChanged s (slotChange s comp target state active other floor).1 := by
  obtain ⟨a, hpage⟩ := page_of_slotOf he
  rw [slotChange, he]
  exact commitDirectory_made hpage hallowed _ _ _ _

/-! ## UPD_STATUS -/

theorem get_updResult (wf : Memory.wf s = true) (r : Nat) : (updResult s r).get R.UPD_STATUS_RESULT = r % 16 :=
  get_set_same (wf_regs wf) (by decide) r

theorem get_updResult_apart (wf : Memory.wf s = true) {f : Fld} (hf : Apart R.UPD_STATUS_RESULT f) (r : Nat) : (updResult s r).get f = s.get f :=
  get_set_apart wf (by decide) hf r

theorem wf_updResult (wf : Memory.wf s = true) (r : Nat) : Memory.wf (updResult s r) = true := wf_set wf _ _

theorem get_setUpd (wf : Memory.wf s = true) (x : Nat) : (setUpd s x).get R.UPD_STATUS_STATE = x % 16 := get_set_same (wf_regs wf) (by decide) x

theorem get_setUpd_apart (wf : Memory.wf s = true) {f : Fld} (hf : Apart R.UPD_STATUS_STATE f) (x : Nat) : (setUpd s x).get f = s.get f :=
  get_set_apart wf (by decide) hf x

theorem wf_setUpd (wf : Memory.wf s = true) (x : Nat) : Memory.wf (setUpd s x) = true := wf_set wf _ _

/-- A rejected image shows RESULT 3 and its reason (R550). -/
theorem get_rejectImage (wf : Memory.wf s = true) (comp reason : Nat) : (rejectImage s comp reason).get R.UPD_STATUS_RESULT = 3 ∧
    (rejectImage s comp reason).get R.UPD_STATUS_REASON = reason % 256 := by
  have hset := wf_set wf R.UPD_STATUS_REASON reason
  have hposted : Leaves R.UPD_STATUS (updResult (s.set R.UPD_STATUS_REASON reason) 3) (rejectImage s comp reason) :=
    (Leaves.refl _ _).postEvent (by decide) _ (by decide)
  refine ⟨(hposted.get (f := R.UPD_STATUS_RESULT) (wf_updResult hset 3)).trans (get_updResult hset 3),
    (hposted.get (f := R.UPD_STATUS_REASON) (wf_updResult hset 3)).trans ?_⟩
  rw [get_updResult_apart hset (by decide)]
  exact get_set_same (wf_regs wf) (by decide) reason

theorem wf_rejectImage (wf : Memory.wf s = true) (comp reason : Nat) : Memory.wf (rejectImage s comp reason) = true :=
  wf_keeps (rejectImage_keeps (Keeps.refl s) comp reason) wf

/-! ## Staging (R549, R550) -/

theorem updateCommand_open {q : Requester} (hrun : running s = true) (hq : mayUpdate q = true) (f : State → State) : updateCommand s q f = f s := by
  rw [updateCommand, if_neg (by simp [hrun]), if_neg (by simp [hq])]

theorem updateCommand_refused {q : Requester} (hrun : running s = true) (hq : mayUpdate q = false) (f : State → State) :
    updateCommand s q f = updResult (s.bump R.UPD_CNT_BAD_CMD) 2 := by
  rw [updateCommand, if_neg (by simp [hrun]), if_pos (by simp [hq]), badUpdate]

theorem stageImage_rejected {comp : Nat} {e : SlotEntry} (he : slotOf s comp (inactiveSlot s comp) = some e)
    (hreason : stageReason s comp (windowImage s) e ≠ 0) :
    stageImage s comp = rejectImage s comp (stageReason s comp (windowImage s) e) := by
  rw [stageImage]
  dsimp only
  rw [he]
  exact if_pos hreason

/-- The state of an update whose slot is being written. -/
def stagedUpd (s : State) (comp : Nat) : UpdState :=
  { s.upd with target := inactiveSlot s comp, image := (windowImage s).take (imageLength (windowImage s)), backward := none, unhealthy := false }

/-- The slot is being written. -/
def slotWriting (u : State) (x : UpdState) (comp : Nat) : State := (setUpd (updResult (u.putUpd x) 0) updWriting).set R.UPD_STATUS_COMP comp

/-- The directory names the slot empty. -/
def slotEmptied (s : State) (comp : Nat) : State := (slotChange s comp (inactiveSlot s comp) slotEmpty false none (configFloor s)).1

/-- The slot takes the image. -/
def slotFilled (s : State) (comp : Nat) (e : SlotEntry) : State :=
  countSlotWrite (programSlot (slotEmptied s comp) e ((windowImage s).take (imageLength (windowImage s)))) comp (inactiveSlot s comp)

theorem upd_slotFilled (s : State) (comp : Nat) (e : SlotEntry) : (slotFilled s comp e).upd = (slotEmptied s comp).upd :=
  ((countSlotWrite_frame rfl (Frame.refl 0x2 _) ..).of .upd rfl).trans ((programSlot_frame rfl (Frame.refl 0x100000004 _) ..).of .upd rfl)

theorem slotWriteAllowed_congr {t : State} (hwrites : t.boot.slotWrites = s.boot.slotWrites) (hnow : t.now = s.now) (comp slot : Nat) :
    slotWriteAllowed t comp slot = slotWriteAllowed s comp slot := by
  rw [slotWriteAllowed, slotWriteAllowed, hwrites, hnow]

theorem stageImage_writes {comp : Nat} {e : SlotEntry} (he : slotOf s comp (inactiveSlot s comp) = some e) (hcommit : commitAllowed s = true)
    (hwrite : slotWriteAllowed s comp (inactiveSlot s comp) = true) (hreason : stageReason s comp (windowImage s) e = 0) :
    stageImage s comp = slotWriting (slotFilled s comp e) (stagedUpd s comp) comp := by
  obtain ⟨hok, hchanged⟩ := slotChange_made he hcommit slotEmpty false none (configFloor s)
  have hupd : (slotFilled s comp e).upd = s.upd := (upd_slotFilled s comp e).trans hchanged.upd
  have hallowed := (slotWriteAllowed_congr hchanged.writes hchanged.now comp (inactiveSlot s comp)).trans hwrite
  rw [stagedUpd, ← hupd]
  unfold slotFilled slotEmptied
  rw [stageImage]
  dsimp only
  rw [he]
  dsimp only
  rw [if_neg (not_not.mpr hreason)]
  generalize slotChange s comp (inactiveSlot s comp) slotEmpty false none (configFloor s) = r at hok hallowed ⊢
  obtain ⟨u, ok⟩ := r
  dsimp only at hok hallowed ⊢
  rw [hok, if_neg (by decide), hallowed, if_neg (by decide)]
  rfl

theorem wf_slotFilled (wf : Memory.wf s = true) (comp : Nat) (e : SlotEntry) : Memory.wf (slotFilled s comp e) = true :=
  wf_keeps (countSlotWrite_keeps (programSlot_keeps (slotChange_keeps (Keeps.refl s) ..) ..) ..) wf

theorem get_slotWriting {u : State} (wf : Memory.wf u = true) (x : UpdState) (comp : Nat) :
    (slotWriting u x comp).get R.UPD_STATUS_RESULT = 0 ∧ (slotWriting u x comp).get R.UPD_STATUS_STATE = updWriting ∧
      (slotWriting u x comp).get R.UPD_STATUS_COMP = comp % 8 ∧ (slotWriting u x comp).upd = x := by
  have hput : Memory.wf (u.putUpd x) = true := wf_keeps (State.putUpd_keeps (Keeps.refl u) x) wf
  have hres := wf_updResult hput 0
  have hstate := wf_setUpd hres updWriting
  refine ⟨?_, ?_, get_set_same (wf_regs hstate) (by decide) comp, ?_⟩
  · exact (get_set_apart hstate (by decide) (by decide) comp).trans ((get_setUpd_apart hres (by decide) _).trans (get_updResult hput 0))
  · exact (get_set_apart hstate (by decide) (by decide) comp).trans (get_setUpd hres updWriting)
  · exact (State.set_upd ..).trans ((State.set_upd ..).trans ((State.set_upd ..).trans (State.putUpd_upd ..)))

theorem updStage_row (wf : Memory.wf s = true) {q : Requester} {e : SlotEntry} {comp : Nat} (hq : mayUpdate q = true) (hrun : running s = true)
    (hidle : updState s = updIdle) (he : slotOf s comp (inactiveSlot s comp) = some e) (hcommit : commitAllowed s = true)
    (hwrite : slotWriteAllowed s comp (inactiveSlot s comp) = true) :
    ∃ t, exec (.updStage q comp) s = .next t ∧
      (stageReason s comp (windowImage s) e ≠ 0 → t.get R.UPD_STATUS_RESULT = 3 ∧
        t.get R.UPD_STATUS_REASON = stageReason s comp (windowImage s) e % 256) ∧
      (stageReason s comp (windowImage s) e = 0 → t.get R.UPD_STATUS_RESULT = 0 ∧ t.get R.UPD_STATUS_STATE = updWriting ∧
        t.get R.UPD_STATUS_COMP = comp % 8 ∧ t.upd.target = inactiveSlot s comp) := by
  have hexec : exec (.updStage q comp) s = .next (stageImage s comp) := by
    change execUpdStage q comp s = _
    rw [execUpdStage, updateCommand_open hrun hq, if_neg (not_not.mpr hidle)]
  refine ⟨_, hexec, fun hbad => ?_, fun hgood => ?_⟩
  · rw [stageImage_rejected he hbad]
    exact get_rejectImage wf comp _
  · obtain ⟨hres, hstate, hcomp, hupd⟩ := get_slotWriting (wf_slotFilled wf comp e) (stagedUpd s comp) comp
    rw [stageImage_writes he hcommit hwrite hgood]
    exact ⟨hres, hstate, hcomp, congrArg UpdState.target hupd⟩

/-! ## STAGE_WRITE_DONE (R550) -/

theorem stageWriteDone_open (hrun : running s = true) (hwriting : updState s = updWriting) (readOk : Bool) :
    exec (.stageWriteDone readOk) s = .next (stageEnds s readOk) := by
  change execStageWriteDone readOk s = _
  rw [execStageWriteDone, if_pos (by simp [hrun, hwriting])]

theorem stageEnds_bad {readOk : Bool} (hbad : (!readOk || !readsBack s (updComp s)) = true) :
    stageEnds s readOk = setUpd (rejectImage s (updComp s) 0x04) updIdle := by
  rw [stageEnds]
  exact if_pos hbad

theorem get_stageBad (wf : Memory.wf s = true) (comp : Nat) : (setUpd (rejectImage s comp 0x04) updIdle).get R.UPD_STATUS_STATE = updIdle ∧
    (setUpd (rejectImage s comp 0x04) updIdle).get R.UPD_STATUS_RESULT = 3 ∧
      (setUpd (rejectImage s comp 0x04) updIdle).get R.UPD_STATUS_REASON = 4 := by
  have hw := wf_rejectImage wf comp 0x04
  obtain ⟨hres, hreason⟩ := get_rejectImage wf comp 0x04
  exact ⟨get_setUpd hw updIdle, (get_setUpd_apart hw (by decide) _).trans hres, (get_setUpd_apart hw (by decide) _).trans hreason⟩

/-- The entry of a slot that was written: trial. -/
def trialEntry (s : State) (e : SlotEntry) : SlotEntry :=
  { e with state := slotTrial, active := false, length := s.upd.image.length, erases := e.erases + 1, stamp := writeStamp s }

theorem stageEnds_good {e : SlotEntry} (he : slotOf s (updComp s) s.upd.target = some e) (hcommit : commitAllowed s = true)
    (hgood : readsBack s (updComp s) = true) : ∃ u, DirChanged s u ∧
      stageEnds s true = postEvent 0x1201 [(0, 1, updComp s), (1, 1, u.upd.target), (4, 4, imageVersion (updComp s) u.upd.image)]
        (setUpd (updResult u 0) updStaged) := by
  obtain ⟨a, hpage⟩ := page_of_slotOf he
  obtain ⟨hok, hchanged⟩ := commitDirectory_made hpage hcommit (configFloor s) (putEntry (slotEntries s) (trialEntry s e)) (updComp s) s.upd.target
  refine ⟨_, hchanged, ?_⟩
  rw [stageEnds]
  dsimp only
  rw [if_neg (by simp [hgood]), he]
  dsimp only
  exact if_neg (show ¬ (!(commitDirectory s (configFloor s) (putEntry (slotEntries s) (trialEntry s e)) (updComp s) s.upd.target).2) = true from
    by rw [hok]; decide)

theorem get_postEvent_upd (wf : Memory.wf s = true) {code : Nat} (hc : code < 65536) (fields : List (Nat × Nat × Nat)) {f : Fld}
    (hf : f.key = R.UPD_STATUS) : (postEvent code fields s).get f = s.get f :=
  ((Leaves.refl f.key s).postEvent hc fields (by rw [hf]; decide)).get wf

theorem stageWriteDone_row (wf : Memory.wf s = true) {e : SlotEntry} (hrun : running s = true) (hwriting : updState s = updWriting)
    (he : slotOf s (updComp s) s.upd.target = some e) (hcommit : commitAllowed s = true) :
    ∃ t, exec (.stageWriteDone true) s = .next t ∧
      (readsBack s (updComp s) = true → t.get R.UPD_STATUS_STATE = updStaged ∧ t.get R.UPD_STATUS_RESULT = 0) ∧
      (readsBack s (updComp s) = false → t.get R.UPD_STATUS_STATE = updIdle ∧ t.get R.UPD_STATUS_RESULT = 3 ∧ t.get R.UPD_STATUS_REASON = 4) := by
  refine ⟨_, stageWriteDone_open hrun hwriting true, fun hgood => ?_, fun hbad => ?_⟩
  · obtain ⟨u, hchanged, heq⟩ := stageEnds_good he hcommit hgood
    have hres := wf_updResult (hchanged.wf wf) 0
    have hw := wf_setUpd hres updStaged
    rw [heq, get_postEvent_upd hw (by decide) _ rfl, get_postEvent_upd hw (by decide) _ rfl, get_setUpd hres, get_setUpd_apart hres (by decide),
      get_updResult (hchanged.wf wf)]
    exact ⟨rfl, rfl⟩
  · rw [stageEnds_bad (by simp [hbad])]
    exact get_stageBad wf _

theorem stageWriteDone_unread (wf : Memory.wf s = true) (hrun : running s = true) (hwriting : updState s = updWriting) :
    ∃ t, exec (.stageWriteDone false) s = .next t ∧ t.get R.UPD_STATUS_STATE = updIdle ∧ t.get R.UPD_STATUS_RESULT = 3 ∧
      t.get R.UPD_STATUS_REASON = 4 ∧ t.flash = s.flash := by
  have hexec := stageWriteDone_open hrun hwriting false
  rw [stageEnds_bad rfl] at hexec
  obtain ⟨hstate, hres, hreason⟩ := get_stageBad wf (updComp s)
  exact ⟨_, hexec, hstate, hres, hreason, (State.set_flash ..).trans ((rejectImage_frame rfl (Frame.refl 0x80840021 s) _ _).of .flash rfl)⟩

end Sys2Proof.Machine
end

section
/-!
UPD_CMD (chapter 20), the commands on a staged image: OP 2, OP 4, OP 6, the rejection by the host, and an image for the boot.
-/

namespace Sys2Proof.Machine

variable {s : State} {q : Requester}

/-! ## Handovers -/

/-- The update of a component begins its handover (R552). -/
def handoverBegun (s : State) (state : Nat) : State :=
  let s := s.putUpd { s.upd with unit := 0, units := 0, swapped := [], startedAt := s.now }
  if updComp s = compConfig then
    s.putUpd { s.upd with livePending := true, liveFrom := if state = updFallback then s.now else s.upd.liveFrom }
  else s

theorem startHandover_eq (h4 : updComp s ≠ 4) (state : Nat) : startHandover s state = setUpd (handoverBegun s state) state := by
  rw [startHandover]
  dsimp only
  rw [if_neg h4]
  rfl

theorem leaves_handoverBegun (key : Nat) (s : State) (state : Nat) : Leaves key s (handoverBegun s state) := by
  unfold handoverBegun
  dsimp only
  have hput : Leaves key s (s.putUpd { s.upd with unit := 0, units := 0, swapped := [], startedAt := s.now }) :=
    (Leaves.refl key s).same (State.putUpd_keeps (Keeps.refl s) _) (State.putUpd_regs ..)
  exact .ite (hput.same (State.putUpd_keeps (Keeps.refl _) _) (State.putUpd_regs ..)) hput

theorem upd_handoverBegun (s : State) (state : Nat) : (handoverBegun s state).upd.seconds = s.upd.seconds ∧
    (handoverBegun s state).upd.backward = s.upd.backward ∧ (handoverBegun s state).upd.probation = s.upd.probation := by
  unfold handoverBegun
  dsimp only
  split
  · rw [State.putUpd_upd, State.putUpd_upd]
    exact ⟨rfl, rfl, rfl⟩
  · rw [State.putUpd_upd]
    exact ⟨rfl, rfl, rfl⟩

/-- What a handover that is not the application core's shows. -/
theorem get_startHandover (wf : Memory.wf s = true) (h4 : updComp s ≠ 4) (state : Nat) :
    (startHandover s state).get R.UPD_STATUS_STATE = state % 16 ∧
      ∀ f : Fld, Apart R.UPD_STATUS_STATE f → (startHandover s state).get f = s.get f := by
  rw [startHandover_eq h4]
  have hw : Memory.wf (handoverBegun s state) = true := (leaves_handoverBegun 0 s state).keeps.wf wf
  exact ⟨get_setUpd hw state, fun f hf => (get_setUpd_apart hw hf state).trans ((leaves_handoverBegun f.key s state).get wf)⟩

theorem upd_startHandover (h4 : updComp s ≠ 4) (state : Nat) : (startHandover s state).upd.seconds = s.upd.seconds ∧
    (startHandover s state).upd.backward = s.upd.backward ∧ (startHandover s state).upd.probation = s.upd.probation := by
  have hupd : (setUpd (handoverBegun s state) state).upd = (handoverBegun s state).upd := State.set_upd ..
  rw [startHandover_eq h4, hupd]
  exact upd_handoverBegun s state

theorem wf_startHandover (wf : Memory.wf s = true) (state : Nat) : Memory.wf (startHandover s state) = true :=
  wf_keeps (startHandover_keeps (Keeps.refl s) state) wf

theorem putUpd_leaves (key : Nat) (s : State) (x : UpdState) : Leaves key s (s.putUpd x) :=
  (Leaves.refl key s).same (State.putUpd_keeps (Keeps.refl s) x) (State.putUpd_regs ..)

/-! ## OP 2 (R552, R558) -/

theorem updActivate_open (hq : mayUpdate q = true) (hrun : running s = true) (swap : Bool) :
    exec (.updActivate q swap) s = .next (if staged s then activate s swap else updResult s 5) := by
  change execUpdActivate q swap s = _
  rw [execUpdActivate, updateCommand_open hrun hq]

theorem activate_refused (hswitch : switchResult s ≠ 1) (h5 : updComp s ≠ 5) : activate s true = s.set R.UPD_STATUS_RESULT 7 := by
  rw [activate]
  dsimp only
  rw [if_neg fun h => h5 h.1, if_pos ⟨rfl, hswitch⟩, updResult]

/-- The activation is posted, and RESULT reads 0. -/
def activationPosted (s u : State) : State :=
  postEvent 0x1202 [(0, 1, updComp s), (1, 1, u.upd.target), (4, 4, imageVersion (updComp s) u.upd.image)] (updResult u 0)

/-- The update's record of an activation. -/
def activationKept (s u : State) (swap : Bool) : State :=
  (activationPosted s u).putUpd { (activationPosted s u).upd with
    seconds := (activationPosted s u).get R.UPD_PROB_SECONDS, unhealthy := false, backward := none, swap := swap,
    prev := assocGet (activationPosted s u).boot.images (updComp s), liveFrom := (activationPosted s u).now + 10000000 }

theorem activate_made {e : SlotEntry} (he : slotOf s (updComp s) s.upd.target = some e) (hcommit : commitAllowed s = true)
    (h5 : updComp s ≠ 5) : ∃ u, DirChanged s u ∧ activate s false =
      if updComp s = 0 then setUpd (activationKept s u false) updIdle else startHandover (activationKept s u false) updHandover := by
  obtain ⟨hok, hchanged⟩ := slotChange_made he hcommit slotTrial true (some (slotValid, false)) (configFloor s)
  refine ⟨_, hchanged, ?_⟩
  rw [activate]
  dsimp only
  rw [if_neg fun h => h5 h.1, if_neg fun h => Bool.false_ne_true h.1]
  unfold activateChange
  generalize slotChange s (updComp s) s.upd.target slotTrial true (some (slotValid, false)) (configFloor s) = r at hok ⊢
  obtain ⟨u, ok⟩ := r
  dsimp only at hok ⊢
  rw [hok, if_neg (by decide), if_neg Bool.false_ne_true]
  rfl

section
variable {u : State}

theorem leaves_activationKept (hchanged : DirChanged s u) {key : Nat} (hwear : R.FLASH_WEAR ≠ key) (hstat : R.UPD_STATUS ≠ key)
    (hnoisy : noisy key = false) (swap : Bool) : Leaves key s (activationKept s u swap) :=
  (((hchanged.leaves hwear).set R.UPD_STATUS_RESULT 0 hstat).postEvent (by decide) _ hnoisy).trans (putUpd_leaves key _ _)

theorem get_activationKept (wf : Memory.wf s = true) (hchanged : DirChanged s u) {f : Fld} (hf : f.key = R.UPD_STATUS) (swap : Bool) :
    (activationKept s u swap).get f = (updResult u 0).get f := by
  have hw : Memory.wf (updResult u 0) = true := wf_updResult (hchanged.wf wf) 0
  have hposted : Leaves f.key (updResult u 0) (activationPosted s u) := (Leaves.refl _ _).postEvent (by decide) _ (by rw [hf]; decide)
  exact (hposted.trans (putUpd_leaves f.key _ _)).get hw

theorem wf_activationKept (wf : Memory.wf s = true) (hchanged : DirChanged s u) (swap : Bool) : Memory.wf (activationKept s u swap) = true :=
  (leaves_activationKept hchanged (key := 0) (by decide) (by decide) (by decide) swap).keeps.wf wf

theorem seconds_activationKept (wf : Memory.wf s = true) (hchanged : DirChanged s u) (swap : Bool) :
    (activationKept s u swap).upd.seconds = s.get R.UPD_PROB_SECONDS := by
  have hposted : Leaves R.UPD_PROB s (activationPosted s u) :=
    ((hchanged.leaves (by decide)).set R.UPD_STATUS_RESULT 0 (by decide)).postEvent (by decide) _ (by decide)
  rw [activationKept, State.putUpd_upd]
  exact hposted.get (f := R.UPD_PROB_SECONDS) wf

end

theorem updActivate_row (wf : Memory.wf s = true) {e : SlotEntry} (hq : mayUpdate q = true) (hrun : running s = true) (hstaged : staged s = true)
    (he : slotOf s (updComp s) s.upd.target = some e) (hcommit : commitAllowed s = true) (h4 : updComp s ≠ 4) (h5 : updComp s ≠ 5) :
    ∃ t, exec (.updActivate q false) s = .next t ∧ t.get R.UPD_STATUS_RESULT = 0 ∧
      t.get R.UPD_STATUS_STATE = (if updComp s = 0 then updIdle else updHandover) ∧ t.upd.seconds = s.get R.UPD_PROB_SECONDS := by
  obtain ⟨u, hchanged, heq⟩ := activate_made he hcommit h5
  have hexec := updActivate_open hq hrun false
  rw [if_pos hstaged, heq] at hexec
  have hw := wf_activationKept wf hchanged false
  have hresult : (activationKept s u false).get R.UPD_STATUS_RESULT = 0 :=
    (get_activationKept wf hchanged rfl false).trans (get_updResult (hchanged.wf wf) 0)
  have hcomp : updComp (activationKept s u false) = updComp s := (get_activationKept wf hchanged (f := R.UPD_STATUS_COMP) rfl false).trans
    ((get_updResult_apart (hchanged.wf wf) (by decide) 0).trans ((hchanged.leaves (by decide)).get (f := R.UPD_STATUS_COMP) wf))
  have hseconds := seconds_activationKept wf hchanged false
  generalize activationKept s u false = v at hexec hw hresult hcomp hseconds
  refine ⟨_, hexec, ?_⟩
  split
  · exact ⟨(get_setUpd_apart hw (by decide) _).trans hresult, get_setUpd hw updIdle, (congrArg UpdState.seconds (State.set_upd ..)).trans hseconds⟩
  · have hv4 : updComp v ≠ 4 := hcomp ▸ h4
    obtain ⟨hstate, hother⟩ := get_startHandover hw hv4 updHandover
    exact ⟨(hother R.UPD_STATUS_RESULT (by decide)).trans hresult, hstate, (upd_startHandover hv4 updHandover).1.trans hseconds⟩

/-! ## The rejection by the host (Table 20-5) -/

theorem updReject_open (hrun : running s = true) : exec (.updReject .host) s =
    .next (if updState s = updHandover ∨ updState s = updSwitch ∨ updState s = updProbation then updResult (healthFails s [updComp s]) 0
      else updResult s 5) := by
  change execUpdReject .host s = _
  rw [execUpdReject, updateCommand_open hrun rfl, if_neg (by decide)]

theorem healthFails_self (hback : s.upd.backward = none) : healthFails s [updComp s] =
    if updState s = updHandover ∨ updState s = updSwitch then s.putUpd { s.upd with unhealthy := true }
    else if updState s = updProbation then beginFallback (s.putUpd { s.upd with unhealthy := true }) 1 else s := by
  rw [healthFails, if_neg (by simp [hback])]

theorem updReject_handover (wf : Memory.wf s = true) (hrun : running s = true) (hstate : updState s = updHandover) (hback : s.upd.backward = none) :
    ∃ t, exec (.updReject .host) s = .next t ∧ t.get R.UPD_STATUS_RESULT = 0 ∧ t.upd.unhealthy = true ∧ t.flash = s.flash := by
  have hexec := updReject_open hrun
  rw [if_pos (.inl hstate), healthFails_self hback, if_pos (.inl hstate)] at hexec
  refine ⟨_, hexec, get_updResult (wf_keeps (State.putUpd_keeps (Keeps.refl s) _) wf) 0, ?_, (State.set_flash ..).trans (State.putUpd_flash ..)⟩
  exact (congrArg UpdState.unhealthy (State.set_upd ..)).trans (by rw [State.putUpd_upd])

/-- The device falls back, and its probation ends. -/
def fallingBack (s : State) (reason : Nat) : State :=
  (s.putUpd { s.upd with backward := some reason, probation := none }).set R.UPD_LEFT_SECONDS 0

theorem switchResult_congr {t : State} (hps : Leaves R.PAIR_STATUS s t) (hsync : Leaves R.SYNC_STAT s t) (hhj : Leaves R.HJ_STATUS s t)
    (hpair : t.pair = s.pair) (wf : Memory.wf s = true) : switchResult t = switchResult s := by
  rw [switchResult, switchResult, linkUp, linkUp, hps.get (f := R.PAIR_STATUS_ROLE) wf, hsync.get (f := R.SYNC_STAT_STATE) wf,
    hhj.get (f := R.HJ_STATUS_PEER_ROLE) wf, hhj.bit (f := R.HJ_STATUS_UP) wf, hps.bit (f := R.PAIR_STATUS_SYNC) wf, hpair]

theorem leaves_fallingBack {key : Nat} (hkey : R.UPD_LEFT ≠ key) (s : State) (reason : Nat) : Leaves key s (fallingBack s reason) :=
  (putUpd_leaves key s _).set R.UPD_LEFT_SECONDS 0 hkey

theorem switchResult_fallingBack (wf : Memory.wf s = true) (reason : Nat) : switchResult (fallingBack s reason) = switchResult s :=
  switchResult_congr (leaves_fallingBack (by decide) s reason) (leaves_fallingBack (by decide) s reason)
    (leaves_fallingBack (by decide) s reason) ((State.set_pair ..).trans (State.putUpd_pair ..)) wf

theorem beginFallback_eq {reason : Nat} (h : ¬ (reason = 1 ∧ switchResult (fallingBack s reason) = 1)) :
    beginFallback s reason = startHandover (fallingBack s reason) updFallback := if_neg h

/-- What a fall-back that starts at once leaves (R562). -/
theorem beginFallback_row (wf : Memory.wf s = true) {reason : Nat} (hswitch : ¬ (reason = 1 ∧ switchResult s = 1)) (h4 : updComp s ≠ 4) :
    (beginFallback s reason).get R.UPD_STATUS_STATE = updFallback ∧ (beginFallback s reason).upd.backward = some reason ∧
      (beginFallback s reason).upd.probation = none ∧ (beginFallback s reason).get R.UPD_LEFT_SECONDS = 0 := by
  rw [← switchResult_fallingBack wf reason] at hswitch
  rw [beginFallback_eq hswitch]
  have hcomp : updComp (fallingBack s reason) ≠ 4 := by
    rwa [updComp, (leaves_fallingBack (by decide) s reason).get (f := R.UPD_STATUS_COMP) wf]
  have hput : Memory.wf (s.putUpd { s.upd with backward := some reason, probation := none }) = true := (putUpd_leaves 0 s _).keeps.wf wf
  have hw : Memory.wf (fallingBack s reason) = true := wf_set hput _ _
  obtain ⟨hstate, hother⟩ := get_startHandover hw hcomp updFallback
  obtain ⟨-, hback, hprob⟩ := upd_startHandover hcomp updFallback
  have hupd : (fallingBack s reason).upd = { s.upd with backward := some reason, probation := none } :=
    (State.set_upd ..).trans (State.putUpd_upd ..)
  refine ⟨hstate, hback.trans (by rw [hupd]), hprob.trans (by rw [hupd]), (hother R.UPD_LEFT_SECONDS (by decide)).trans ?_⟩
  exact get_set_same (wf_regs hput) (by decide) 0

theorem updReject_probation (wf : Memory.wf s = true) (hrun : running s = true) (hstate : updState s = updProbation)
    (hback : s.upd.backward = none) (hswitch : switchResult s ≠ 1) (h4 : updComp s ≠ 4) :
    ∃ t, exec (.updReject .host) s = .next t ∧ t.get R.UPD_STATUS_RESULT = 0 ∧ t.get R.UPD_STATUS_STATE = updFallback ∧
      t.upd.backward = some 1 ∧ t.upd.probation = none ∧ t.get R.UPD_LEFT_SECONDS = 0 := by
  have hexec := updReject_open hrun
  rw [if_pos (.inr (.inr hstate)), healthFails_self hback, if_neg (by rw [hstate]; decide), if_pos hstate] at hexec
  have hleaves : ∀ key, Leaves key s (s.putUpd { s.upd with unhealthy := true }) := fun key => putUpd_leaves key s _
  have hpair : (s.putUpd { s.upd with unhealthy := true }).pair = s.pair := State.putUpd_pair ..
  generalize s.putUpd { s.upd with unhealthy := true } = v at hexec hleaves hpair
  have hw : Memory.wf v = true := (hleaves 0).keeps.wf wf
  have hsame : switchResult v = switchResult s := switchResult_congr (hleaves _) (hleaves _) (hleaves _) hpair wf
  have hcomp : updComp v = updComp s := (hleaves _).get (f := R.UPD_STATUS_COMP) wf
  obtain ⟨hshown, hbackward, hprob, hleft⟩ := beginFallback_row hw (reason := 1) (fun h => hswitch (hsame ▸ h.2)) (hcomp ▸ h4)
  have hwb : Memory.wf (beginFallback v 1) = true := wf_keeps (beginFallback_keeps (Keeps.refl v) 1) hw
  have hupd : (updResult (beginFallback v 1) 0).upd = (beginFallback v 1).upd := State.set_upd ..
  refine ⟨_, hexec, get_updResult hwb 0, (get_updResult_apart hwb (by decide) 0).trans hshown, by rw [hupd, hbackward], by rw [hupd, hprob],
    (get_updResult_apart hwb (by decide) 0).trans hleft⟩

/-! ## OP 4 and OP 6 (R549, R558) -/

theorem updAbort_open (hq : mayUpdate q = true) (hrun : running s = true) (hstaged : staged s = true) {e : SlotEntry}
    (he : slotOf s (updComp s) s.upd.target = some e) (hcommit : commitAllowed s = true) :
    ∃ u, DirChanged s u ∧ exec (.updAbort q) s = .next (setUpd (updResult u 0) updIdle) := by
  obtain ⟨hok, hchanged⟩ := slotChange_made he hcommit slotEmpty false none (configFloor s)
  refine ⟨_, hchanged, ?_⟩
  change execUpdAbort q s = _
  rw [execUpdAbort, updateCommand_open hrun hq, if_pos hstaged]
  exact congrArg Host.Outcome.next (if_pos hok)

theorem updAbort_row (wf : Memory.wf s = true) (hq : mayUpdate q = true) (hrun : running s = true) (hstaged : staged s = true) {e : SlotEntry}
    (he : slotOf s (updComp s) s.upd.target = some e) (hcommit : commitAllowed s = true) :
    ∃ t, exec (.updAbort q) s = .next t ∧ t.get R.UPD_STATUS_RESULT = 0 ∧ t.get R.UPD_STATUS_STATE = updIdle := by
  obtain ⟨u, hchanged, hexec⟩ := updAbort_open hq hrun hstaged he hcommit
  have hw := hchanged.wf wf
  exact ⟨_, hexec, (get_setUpd_apart (wf_updResult hw 0) (by decide) _).trans (get_updResult hw 0), get_setUpd (wf_updResult hw 0) updIdle⟩

theorem updActivateAtRestart_open (hq : mayUpdate q = true) (hrun : running s = true) (hstaged : staged s = true) {e : SlotEntry}
    (he : slotOf s (updComp s) s.upd.target = some e) (hcommit : commitAllowed s = true) :
    ∃ u, DirChanged s u ∧
      exec (.updActivateAtRestart q) s = .next (updResult (u.putUpd { u.upd with atRestart := some (updComp s) }) 0) := by
  obtain ⟨hok, hchanged⟩ := slotChange_made he hcommit slotTrial true (some (slotValid, false)) (configFloor s)
  refine ⟨_, hchanged, ?_⟩
  change execUpdActivateAtRestart q s = _
  rw [execUpdActivateAtRestart, updateCommand_open hrun hq, if_pos hstaged]
  exact congrArg Host.Outcome.next (if_pos hok)

theorem updState_of_staged (h : staged s = true) : updState s = updStaged := by
  rw [staged, Bool.and_eq_true, decide_eq_true_eq] at h
  exact h.1

theorem updActivateAtRestart_row (wf : Memory.wf s = true) (hq : mayUpdate q = true) (hrun : running s = true) (hstaged : staged s = true)
    {e : SlotEntry} (he : slotOf s (updComp s) s.upd.target = some e) (hcommit : commitAllowed s = true) :
    ∃ t, exec (.updActivateAtRestart q) s = .next t ∧ t.get R.UPD_STATUS_RESULT = 0 ∧ t.upd.atRestart = some (updComp s) ∧
      t.get R.UPD_STATUS_STATE = updStaged := by
  obtain ⟨u, hchanged, hexec⟩ := updActivateAtRestart_open hq hrun hstaged he hcommit
  have hleaves : Leaves R.UPD_STATUS s (u.putUpd { u.upd with atRestart := some (updComp s) }) :=
    (hchanged.leaves (by decide)).trans (putUpd_leaves _ u _)
  have hupd : (u.putUpd { u.upd with atRestart := some (updComp s) }).upd.atRestart = some (updComp s) := by rw [State.putUpd_upd]
  generalize u.putUpd { u.upd with atRestart := some (updComp s) } = v at hexec hleaves hupd
  have hw := hleaves.keeps.wf wf
  refine ⟨_, hexec, get_updResult hw 0, (congrArg UpdState.atRestart (State.set_upd ..)).trans hupd, (get_updResult_apart hw (by decide) 0).trans ?_⟩
  exact (hleaves.get (f := R.UPD_STATUS_STATE) wf).trans (updState_of_staged hstaged)

/-! ## An image for the boot (R78, R89) -/

theorem updBootLoad_open {comp : Nat} (hpow : powered s = true) (hq : mayUpdate q = true) (hload : hostLoads s = true) :
    exec (.updBootLoad q comp) s = .next (if (offerImage s comp (windowImage s)).2 = 0 then updResult (offerImage s comp (windowImage s)).1 0
      else updResult ((offerImage s comp (windowImage s)).1.set R.UPD_STATUS_REASON (offerImage s comp (windowImage s)).2) 3) := by
  change execUpdBootLoad q comp s = _
  rw [execUpdBootLoad, if_neg (by simp [hpow]), if_neg (by simp [hq]), if_neg (by simp [hload])]

/-- An image that fails its checks. -/
theorem offerImage_bad {comp : Nat} (hcomp : comp = s.boot.comp) {img : List Byte} (hbad : checkImage s comp img 0x00800000 ≠ 0) :
    (offerImage s comp img).2 = checkImage s comp img 0x00800000 ∧ (comp ≠ 5 → (offerImage s comp img).1 = s) := by
  unfold offerImage
  rw [if_neg (not_not.mpr hcomp)]
  dsimp only
  rw [if_pos hbad]
  exact ⟨rfl, fun h5 => if_neg h5⟩

theorem updBootLoad_row (wf : Memory.wf s = true) {comp : Nat} (hpow : powered s = true) (hq : mayUpdate q = true) (hload : hostLoads s = true)
    (hcomp : comp = s.boot.comp) :
    ∃ t, exec (.updBootLoad q comp) s = .next t ∧
      (checkImage s comp (windowImage s) 0x00800000 = 0 → t.get R.UPD_STATUS_RESULT = 0 ∧ t.boot.comp = comp + 1) ∧
      (checkImage s comp (windowImage s) 0x00800000 ≠ 0 → t.get R.UPD_STATUS_RESULT = 3 ∧ (comp ≠ 5 → t.boot = s.boot) ∧
        t.get R.UPD_STATUS_REASON = checkImage s comp (windowImage s) 0x00800000 % 256) := by
  have hw : Memory.wf (offerImage s comp (windowImage s)).1 = true := wf_keeps (offerImage_keeps (Keeps.refl s) comp _) wf
  refine ⟨_, updBootLoad_open hpow hq hload, fun hgood => ?_, fun hbad => ?_⟩
  · subst hcomp
    obtain ⟨hr, hnext, -⟩ := offerImage_taken hgood
    rw [if_pos hr]
    exact ⟨get_updResult hw 0, (congrArg BootState.comp (State.set_boot ..)).trans hnext⟩
  · obtain ⟨hr, hsame⟩ := offerImage_bad hcomp hbad
    rw [if_neg (hr ▸ hbad), hr]
    have hset := wf_set hw R.UPD_STATUS_REASON (checkImage s comp (windowImage s) 0x00800000)
    refine ⟨get_updResult hset 3, fun h5 => ?_, (get_updResult_apart hset (by decide) 3).trans (get_set_same (wf_regs hw) (by decide) _)⟩
    rw [hsame h5]
    exact (State.set_boot ..).trans (State.set_boot ..)

/-! ## The rows -/

theorem bad_rows (hrun : running s = true) (hq : q = Requester.app ∨ q = Requester.security) {row : Instr}
    (hrow : row ∈ [Instr.updStage q 0, .updActivate q false, .updReject q, .updAbort q, .updActivateAtRestart q]) :
    exec row s = .next (updResult (s.bump R.UPD_CNT_BAD_CMD) 2) := by
  have hmay : mayUpdate q = false := by obtain rfl | rfl := hq <;> rfl
  simp only [List.mem_cons, List.not_mem_nil, or_false] at hrow
  obtain rfl | rfl | rfl | rfl | rfl := hrow
  all_goals exact congrArg Host.Outcome.next (updateCommand_refused hrun hmay _)

theorem unstaged_rows (hq : mayUpdate q = true) (hrun : running s = true) (hunstaged : staged s = false) {row : Instr}
    (hrow : row ∈ [Instr.updActivate q false, .updActivate q true, .updAbort q, .updActivateAtRestart q]) :
    exec row s = .next (s.set R.UPD_STATUS_RESULT 5) := by
  simp only [List.mem_cons, List.not_mem_nil, or_false] at hrow
  obtain rfl | rfl | rfl | rfl := hrow
  all_goals
    refine congrArg Host.Outcome.next ((updateCommand_open hrun hq _).trans ?_)
    exact if_neg (ne_true_of_eq_false hunstaged)

/-- Settles O41. -/
theorem updateRowsComplete : Obligations.UpdateRowsComplete := by
  intro s q e wf
  refine ⟨fun row hrow hrun hq => bad_rows hrun hq hrow, fun comp => updStage_row wf, fun comp hq hrun hbusy => ?_, stageWriteDone_row wf,
    stageWriteDone_unread wf, updActivate_row wf, fun swap hq hrun hstaged => ?_, fun hq hrun hstaged hswitch h5 => ?_,
    fun row hrow hq hrun hunstaged => unstaged_rows hq hrun hunstaged hrow, updReject_handover wf, updReject_probation wf, fun hrun => ?_,
    fun hq hrun hstaged => updAbort_row wf hq hrun hstaged, fun comp _ hpow hq hload hcomp => updBootLoad_row wf hpow hq hload hcomp,
    fun hq hrun hstaged => updActivateAtRestart_row wf hq hrun hstaged⟩
  · exact congrArg Host.Outcome.next ((updateCommand_open hrun hq _).trans (if_pos hbusy))
  · rw [updActivate_open hq hrun, if_pos hstaged]
  · rw [updActivate_open hq hrun, if_pos hstaged, activate_refused hswitch h5]
  · exact congrArg Host.Outcome.next ((updateCommand_open hrun rfl _).trans (if_pos (by decide)))

end Sys2Proof.Machine
end

section
/-!
Handovers, probation and the configuration sequence (chapter 20, R552 to R563).
-/

namespace Sys2Proof.Machine

variable {s : State}

/-! ## The restart of cores (R553, R563) -/

theorem Leaves.setCpu {key : Nat} {s0 : State} (h : Leaves key s0 s) (c state : Nat) (hk : R.CPU_STAT c ≠ key) :
    Leaves key s0 (Machine.setCpu s c state) :=
  ((h.same (State.putCpus_keeps (Keeps.refl s) _) (State.putCpus_regs ..)).set (R.CPU_STAT_HEARTBEAT c) _ hk).set (R.CPU_STAT_STATE c) state hk

theorem upd_setCpu (s : State) (c state : Nat) : (setCpu s c state).upd = s.upd :=
  (State.set_upd ..).trans ((State.set_upd ..).trans (State.putCpus_upd ..))

theorem core_lt_of_coreNext {core : Nat} (h : coreNext s core = true) : core < 4 := by
  rw [coreNext, Bool.and_eq_true, decide_eq_true_eq] at h
  exact h.2

theorem coreHandoverDone_row (wf : Memory.wf s = true) {core : Nat} (hrun : running s = true) (hnext : coreNext s core = true) :
    ∃ t, exec (.coreHandoverDone core) s = .next t ∧ t.upd.unit = core + 1 ∧ t.get (R.CPU_STAT_STATE core) = 1 ∧
      t.get R.UPD_STATUS_STATE = s.get R.UPD_STATUS_STATE := by
  have hcore := core_lt_of_coreNext hnext
  have hput := putUpd_leaves R.UPD_STATUS s { s.upd with unit := core + 1 }
  have hw : Memory.wf (s.putUpd { s.upd with unit := core + 1 }) = true := hput.keeps.wf wf
  have hkey : R.CPU_STAT core ≠ R.UPD_STATUS := by
    simp only [R.CPU_STAT, R.UPD_STATUS]
    omega
  refine ⟨_, if_pos (by rw [hrun, hnext]; rfl), ?_, (setCpu_row hw core (by decide)).1, (hput.setCpu core 1 hkey).get (f := R.UPD_STATUS_STATE) wf⟩
  rw [upd_setCpu, State.putUpd_upd]

theorem coreHandoverTimeout_row {core : Nat} {u : State} (hu : u = fallBack s 2) (hrun : running s = true) (hnext : coreNext s core = true) :
    exec (.coreHandoverTimeout core) s = .next (if switchResult u = 1 then startPlanned u 12 7 else warmRestart u) := by
  change execCoreHandoverTimeout core s = _
  rw [execCoreHandoverTimeout, if_pos (by rw [hrun, hnext]; rfl), hu]

/-! ## The end of a handover (R552, R559) -/

theorem handoverComplete_open (fails : List (Nat × Nat)) (hrun : running s = true) (hstate : updState s = updHandover ∨ updState s = updFallback)
    (hready : handoverReady s = true) : exec (.handoverComplete fails) s = .next (endHandover s fails) := by
  refine if_pos ?_
  rw [hrun, hready, Bool.true_and, Bool.and_true, Bool.or_eq_true, decide_eq_true_eq, decide_eq_true_eq]
  exact hstate

/-- Taking an image into force changes its view registers alone. -/
theorem leaves_imageInForce {key : Nat} {comp : Nat} (hb : R.BOOT_STATUS ≠ key) (hv : R.UPD_RUNVER comp ≠ key) (hi : R.UPD_RUNIF comp ≠ key)
    (s : State) (slot : Nat) (l : List Byte) : Leaves key s (imageInForce s comp slot l) := by
  unfold imageInForce
  exact ((((((Leaves.refl key s).putBoot _).set R.BOOT_STATUS_SLOT_B _ hb).set (R.UPD_RUNVER_VERSION comp) _ hv).set
    (R.UPD_RUNIF_IFV comp) _ hi).set (R.UPD_RUNIF_LAYOUT comp) _ hi).set (R.UPD_RUNIF_ROLLBACK comp) _ hi

/-- The image in force changes for a component that the application core does not run. -/
theorem takeOver_eq (wf : Memory.wf s = true) (h4 : updComp s ≠ 4) : takeOver s =
    if updComp s = compConfig then s else imageInForce s (updComp s) (handoverImage s).1 (handoverImage s).2 := by
  unfold takeOver
  dsimp only
  by_cases hconfig : updComp s = compConfig
  · rw [if_pos hconfig, if_neg fun h => h4 h.1]
  · have hleaves : Leaves R.UPD_STATUS s (imageInForce s (updComp s) (handoverImage s).1 (handoverImage s).2) :=
      leaves_imageInForce (by decide) (by simp only [R.UPD_RUNVER, R.UPD_STATUS]; omega) (by simp only [R.UPD_RUNIF, R.UPD_STATUS]; omega) s _ _
    have hcomp : updComp (imageInForce s (updComp s) (handoverImage s).1 (handoverImage s).2) = updComp s :=
      hleaves.get (f := R.UPD_STATUS_COMP) wf
    rw [if_neg hconfig, if_neg fun h => h4 (hcomp ▸ h.1)]

theorem takeOver_row (wf : Memory.wf s = true) (h4 : updComp s ≠ 4) : Leaves R.UPD_STATUS s (takeOver s) ∧ (takeOver s).upd = s.upd ∧
    (takeOver s).now = s.now := by
  rw [takeOver_eq wf h4]
  split
  · exact ⟨.refl _ s, rfl, rfl⟩
  · have hframe := imageInForce_frame rfl (Frame.refl 0x3 s) (updComp s) (handoverImage s).1 (handoverImage s).2
    exact ⟨leaves_imageInForce (by decide) (by simp only [R.UPD_RUNVER, R.UPD_STATUS]; omega)
      (by simp only [R.UPD_RUNIF, R.UPD_STATUS]; omega) s _ _, hframe.of .upd rfl, hframe.of .now rfl⟩

/-- The probation that a handover of the update's component begins (R559). -/
def probationOf (s : State) (comp : Nat) : Probation :=
  { comp := comp, slot := s.upd.target, started := s.now, ends := s.now + s.upd.seconds * secondNs }

theorem probationOf_congr {t : State} (hupd : t.upd = s.upd) (hnow : t.now = s.now) (comp : Nat) : probationOf t comp = probationOf s comp := by
  rw [probationOf, probationOf, hupd, hnow]

/-- HANDOVER_DONE is posted. -/
def handoverPosted (s : State) (units : Nat) : State :=
  postEvent 0x1206 [(0, 1, updComp s), (1, 1, units), (4, 4, (s.now - s.upd.startedAt) / 1000)] s

/-- Probation begins. -/
def inProbation (s : State) (p : Probation) : State :=
  setUpd ((s.putUpd { s.upd with probation := some p }).set R.UPD_LEFT_SECONDS s.upd.seconds) updProbation

theorem upd_inProbation (s : State) (p : Probation) : (inProbation s p).upd = { s.upd with probation := some p } :=
  (State.set_upd ..).trans ((State.set_upd ..).trans (State.putUpd_upd ..))

theorem get_inProbation (wf : Memory.wf s = true) (p : Probation) : (inProbation s p).get R.UPD_STATUS_STATE = updProbation ∧
    (inProbation s p).get R.UPD_LEFT_SECONDS = s.upd.seconds % 2 ^ R.UPD_LEFT_SECONDS.width := by
  have hput : Memory.wf (s.putUpd { s.upd with probation := some p }) = true := (putUpd_leaves 0 s _).keeps.wf wf
  have hleft := wf_set hput R.UPD_LEFT_SECONDS s.upd.seconds
  exact ⟨get_setUpd hleft updProbation, (get_setUpd_apart hleft (by decide) _).trans (get_set_same (wf_regs hput) (by decide) _)⟩

theorem handoverDone_healthy (hhealthy : s.upd.unhealthy = false) (units : Nat) :
    handoverDone s units = inProbation (handoverPosted s units) (probationOf s (updComp s)) := by
  have hupd : (handoverPosted s units).upd = s.upd := upd_postEvent ..
  have hnow : (handoverPosted s units).now = s.now := (postEvent_frame rfl (Frame.refl 0x80840021 s) _ _).of .now rfl
  rw [← probationOf_congr hupd hnow]
  refine if_neg ?_
  change ¬ (inProbation (handoverPosted s units) _).upd.unhealthy = true
  rw [upd_inProbation, hupd, hhealthy]
  decide

theorem handoverComplete_row (wf : Memory.wf s = true) (hrun : running s = true) (hstate : updState s = updHandover)
    (hready : handoverReady s = true) (hcomp : updComp s = 2 ∨ updComp s = 3 ∨ updComp s = 5) (hback : s.upd.backward = none)
    (hhealthy : s.upd.unhealthy = false) :
    ∃ t, exec (.handoverComplete []) s = .next t ∧ t.get R.UPD_STATUS_STATE = updProbation ∧
      t.get R.UPD_LEFT_SECONDS = s.upd.seconds % 2 ^ R.UPD_LEFT_SECONDS.width ∧
      t.upd.probation = some { comp := updComp s, slot := s.upd.target, started := s.now, ends := s.now + s.upd.seconds * secondNs } := by
  have h1 : updComp s ≠ 1 := by omega
  obtain ⟨hleaves, hupd, hnow⟩ := takeOver_row wf (by omega)
  have hexec := handoverComplete_open [] hrun (.inl hstate) hready
  have hend : endHandover s [] = handoverDone (takeOver s) (handoverUnits (takeOver s)) := by
    unfold endHandover
    dsimp only
    rw [if_neg fun h => h1 h.1, if_neg h1, hupd, hback]
  rw [hend, handoverDone_healthy (by rw [hupd, hhealthy])] at hexec
  have hcompKept : updComp (takeOver s) = updComp s := hleaves.get (f := R.UPD_STATUS_COMP) wf
  rw [hcompKept, probationOf_congr hupd hnow] at hexec
  have hw : Memory.wf (handoverPosted (takeOver s) (handoverUnits (takeOver s))) = true :=
    wf_keeps (postEvent_keeps (hleaves.keeps) _ _) wf
  have hposted : (handoverPosted (takeOver s) (handoverUnits (takeOver s))).upd = s.upd := (upd_postEvent ..).trans hupd
  generalize handoverPosted (takeOver s) (handoverUnits (takeOver s)) = u at hexec hw hposted
  obtain ⟨hshown, hleft⟩ := get_inProbation hw (probationOf s (updComp s))
  exact ⟨_, hexec, hshown, hleft.trans (by rw [hposted]), by rw [upd_inProbation]; rfl⟩

/-! ## Live configuration (R557) -/

theorem livePending_liveApply (s : State) (slot first : Nat) (img : List Byte) : (liveApply s slot first img).upd.livePending = false := by
  unfold liveApply
  extract_lets old new keys moved n words sched u boot v w upd x
  have hx : x.upd.livePending = false := by
    exact congrArg UpdState.livePending (State.putUpd_upd ..)
  split
  · exact (congrArg UpdState.livePending ((switchEpoch_frame rfl (Frame.refl 0x184868921 x) first).of .upd rfl)).trans hx
  · exact hx

theorem configLiveApply_row {u : State} (hu : u = s.advanceTo (slotEnd s)) (hrun : running s = true) (hpending : s.upd.livePending = true)
    (hslots : s.bit R.PSM_STATUS_RUN = true) (hsf : sfBegins s = true) (hfrom : s.upd.liveFrom ≤ boundaryAt s) :
    exec .configLiveApply s = .next (liveApply u (handoverImage u).1 ((u.asnNat + 1) % 2 ^ 40) (handoverImage u).2) := by
  change execConfigLiveApply s = _
  rw [execConfigLiveApply, if_pos (by rw [hrun, hpending, hslots, hsf, decide_eq_true hfrom]; rfl), hu]

/-! ## Confirmation (R559, R560) -/

/-- A confirmation that is made: the directory, and the counter of an image that has one. -/
theorem confirmImage_made (wf : Memory.wf s = true) {comp slot : Nat} {e : SlotEntry} (he : slotOf s comp slot = some e)
    (hcommit : commitAllowed s = true) (spent : Nat) : Memory.wf (confirmImage s comp slot spent) = true ∧
      (confirmImage s comp slot spent).get R.UPD_CNT_CONFIRMED = min 255 (s.get R.UPD_CNT_CONFIRMED + 1) := by
  refine ⟨wf_keeps (confirmImage_keeps (Keeps.refl s) comp slot spent) wf, ?_⟩
  unfold confirmImage
  extract_lets img floor
  obtain ⟨hok, hchanged⟩ := slotChange_made he hcommit slotValid true none floor
  generalize slotChange s comp slot slotValid true none floor = r at hok hchanged ⊢
  obtain ⟨u, ok⟩ := r
  dsimp only at hok hchanged ⊢
  rw [hok, if_neg (by decide)]
  have hotp : Leaves R.UPD_CNT s (if comp < 5 then u.putOtp { u.otp with arb := listSet u.otp.arb comp (max (u.otp.arb.getD comp 0)
      (imageRollback comp img)) } else u) :=
    .ite ((hchanged.leaves (by decide)).same (State.putOtp_keeps (Keeps.refl u) _) (State.putOtp_regs ..)) (hchanged.leaves (by decide))
  generalize (if comp < 5 then u.putOtp { u.otp with arb := listSet u.otp.arb comp (max (u.otp.arb.getD comp 0)
    (imageRollback comp img)) } else u) = v at hotp ⊢
  have hw := hotp.keeps.wf wf
  refine (((Leaves.refl R.UPD_CNT _).postEvent (by decide) _ (by decide)).get (f := R.UPD_CNT_CONFIRMED) (wf_bump hw _)).trans ?_
  rw [get_bump_self hw (by decide), hotp.get (f := R.UPD_CNT_CONFIRMED) wf]
  rfl

/-- The update has ended with a confirmation. -/
def confirmationEnds (t : State) : State :=
  setUpd ((t.putUpd { t.upd with probation := none, prev := none }).set R.UPD_LEFT_SECONDS 0) updIdle

theorem confirmProbation_made (wf : Memory.wf s = true) {p : Probation} {e : SlotEntry} (he : slotOf s p.comp p.slot = some e)
    (hcommit : commitAllowed s = true) :
    confirmProbation s p = confirmationEnds (confirmImage s p.comp p.slot ((s.now - p.started) / secondNs)) := by
  obtain ⟨-, hcount⟩ := confirmImage_made wf he hcommit ((s.now - p.started) / secondNs)
  refine if_neg fun h => ?_
  rw [hcount] at h
  omega

theorem confirmationEnds_row (wf : Memory.wf s = true) : (confirmationEnds s).get R.UPD_STATUS_STATE = updIdle ∧
    (confirmationEnds s).upd.probation = none ∧ (confirmationEnds s).get R.UPD_LEFT_SECONDS = 0 ∧
    (confirmationEnds s).get R.UPD_CNT_CONFIRMED = s.get R.UPD_CNT_CONFIRMED := by
  have hleaves := putUpd_leaves R.UPD_CNT s { s.upd with probation := none, prev := none }
  have hput : Memory.wf (s.putUpd { s.upd with probation := none, prev := none }) = true := hleaves.keeps.wf wf
  have hleft := wf_set hput R.UPD_LEFT_SECONDS 0
  have hupd : (confirmationEnds s).upd = { s.upd with probation := none, prev := none } :=
    (State.set_upd ..).trans ((State.set_upd ..).trans (State.putUpd_upd ..))
  refine ⟨get_setUpd hleft updIdle, by rw [hupd], (get_setUpd_apart hleft (by decide) _).trans (get_set_same (wf_regs hput) (by decide) 0), ?_⟩
  exact ((hleaves.set R.UPD_LEFT_SECONDS 0 (by decide)).set R.UPD_STATUS_STATE updIdle (by decide)).get (f := R.UPD_CNT_CONFIRMED) wf

theorem updConfirmWrite_row (wf : Memory.wf s = true) {q : Requester} {key comp : Nat} {p : Probation} {e : SlotEntry} (hrun : running s = true)
    (hp : confirmable s q key comp = some p) (he : slotOf s p.comp p.slot = some e) (hcommit : commitAllowed s = true) :
    ∃ t, exec (.updConfirmWrite q key comp) s = .next t ∧ t.get R.UPD_STATUS_STATE = updIdle ∧ t.upd.probation = none ∧
      t.get R.UPD_LEFT_SECONDS = 0 ∧ t.get R.UPD_CNT_CONFIRMED = min 255 (s.get R.UPD_CNT_CONFIRMED + 1) := by
  have hexec : exec (.updConfirmWrite q key comp) s = .next (confirmProbation s p) := by
    change execUpdConfirmWrite q key comp s = _
    rw [execUpdConfirmWrite, if_neg (by simp [hrun]), hp]
  obtain ⟨hw, hcount⟩ := confirmImage_made wf he hcommit ((s.now - p.started) / secondNs)
  rw [confirmProbation_made wf he hcommit] at hexec
  obtain ⟨hstate, hprob, hleft, hkept⟩ := confirmationEnds_row hw
  exact ⟨_, hexec, hstate, hprob, hleft, hkept.trans hcount⟩

theorem updConfirmWrite_bad {q : Requester} {key comp : Nat} (hrun : running s = true) (hp : confirmable s q key comp = none) :
    exec (.updConfirmWrite q key comp) s = .next (s.bump R.UPD_CNT_BAD_CONFIRM) := by
  change execUpdConfirmWrite q key comp s = _
  rw [execUpdConfirmWrite, if_neg (by simp [hrun]), hp]

theorem probationExpiry_row (wf : Memory.wf s = true) {p : Probation} (hp : s.upd.probation = some p) (hrun : running s = true)
    (hstate : updState s = updProbation) (h4 : updComp s ≠ 4) :
    ∃ t, exec .probationExpiry s = .next t ∧ t.get R.UPD_STATUS_STATE = updFallback ∧ t.upd.probation = none ∧ t.upd.backward = some 0 ∧
      t.get R.UPD_LEFT_SECONDS = 0 := by
  have hexec : exec .probationExpiry s = .next (beginFallback (s.reach p.ends) 0) := by
    change execProbationExpiry s = _
    rw [execProbationExpiry, hp]
    exact if_pos (by rw [hrun, hstate]; rfl)
  have hleaves : Leaves R.UPD_STATUS s (s.reach p.ends) := (Leaves.refl _ s).reach p.ends
  obtain ⟨hshown, hback, hprob, hleft⟩ := beginFallback_row (hleaves.keeps.wf wf) (reason := 0) (fun h => absurd h.1 (by decide))
    (by rwa [updComp, hleaves.get (f := R.UPD_STATUS_COMP) wf])
  exact ⟨_, hexec, hshown, hprob, hback, hleft⟩

/-! ## The configuration sequence (R557) -/

theorem updCfgseqLoRead_row {q : Requester} (hpow : powered s = true) :
    ∃ t, exec (.updCfgseqLoRead q) s = .next t ∧ assocGet t.reply q.bank = some (sequenceInForce s % 2 ^ 32) ∧
      (t.snapsOf q).cfgSeqHi = some (sequenceInForce s / 2 ^ 32) ∧ t.regs = s.regs := by
  have hexec : exec (.updCfgseqLoRead q) s = .next ((s.setSnaps q { s.snapsOf q with cfgSeqHi := some (sequenceInForce s / 2 ^ 32) }).answer q
      (sequenceInForce s % 2 ^ 32)) := by
    change execUpdCfgseqLoRead q s = _
    rw [execUpdCfgseqLoRead, if_neg (by simp [hpow])]
  refine ⟨_, hexec, assocGet_assocSet_self .., ?_, rfl⟩
  exact congrArg Snapshots.cfgSeqHi (snapsOf_setSnaps ..)

/-- Settles O42. -/
theorem handoverRowsComplete : Obligations.HandoverRowsComplete := by
  intro s wf
  refine ⟨fun core => coreHandoverDone_row wf, fun core u hu hrun hnext hswitch => ?_, fun core u hu hrun hnext hswitch => ?_,
    handoverComplete_row wf, fun fails => handoverComplete_open fails,
    fun u hu hrun hpending hslots hsf hfrom => ⟨_, configLiveApply_row hu hrun hpending hslots hsf hfrom, rfl, livePending_liveApply ..⟩,
    fun q key comp p e => updConfirmWrite_row wf, fun q key comp => updConfirmWrite_bad, fun p => probationExpiry_row wf,
    fun q => updCfgseqLoRead_row⟩
  · rw [coreHandoverTimeout_row hu hrun hnext, if_neg hswitch]
  · rw [coreHandoverTimeout_row hu hrun hnext, if_pos hswitch]

end Sys2Proof.Machine
end

section
/-!
Performance levels, temperature and Pale (chapter 21, R570 to R575, Table 21-2).
-/

namespace Sys2Proof.Machine

variable {s : State}

/-! ## A change of level (Table 21-2) -/

theorem Leaves.putPwr {key : Nat} {s0 : State} (h : Leaves key s0 s) (x : PowerState) : Leaves key s0 (s.putPwr x) :=
  h.same (State.putPwr_keeps (Keeps.refl s) x) (State.putPwr_regs ..)

theorem wf_putPwr (wf : Memory.wf s = true) (x : PowerState) : Memory.wf (s.putPwr x) = true := wf_keeps (State.putPwr_keeps (Keeps.refl s) x) wf

/-- The change that starts towards a level. -/
def changeTo (s : State) (level : Nat) : LevelChange :=
  { from_ := s.get R.PWR_STATUS_CUR, level := level, started := s.now, switched := !decide (s.get R.PWR_STATUS_CUR < level) }

/-- The clocks' level during it: a higher level's clocks wait for the supply. -/
def changeClock (s : State) (level : Nat) : Nat := if s.get R.PWR_STATUS_CUR < level then s.get R.PWR_STATUS_CUR else level

/-- The power state during it. -/
def changePower (s : State) (level : Nat) : PowerState :=
  { s.pwr with change := some (changeTo s level), vsel := level, clockLevel := changeClock s level }

/-- A change of level is under way. -/
def changeStarted (s : State) (level : Nat) : State :=
  ((s.putPwr (changePower s level)).set R.PWR_STATUS_CUR (min (s.get R.PWR_STATUS_CUR) level)).set R.PWR_STATUS_CHANGING 1

theorem startChange_started {level : Nat} (hidle : s.pwr.change = none) (hne : level ≠ s.get R.PWR_STATUS_CUR) :
    startChange s level = changeStarted s level := by
  rw [startChange]
  dsimp only
  rw [if_neg (by simp [hidle, hne]), changeStarted, changePower, changeTo, changeClock]
  simp only [decide_eq_true_eq]

theorem startChange_same {level : Nat} (h : s.pwr.change.isSome = true ∨ level = s.get R.PWR_STATUS_CUR) : startChange s level = s :=
  if_pos (by simpa using h)

theorem startChange_cases (s : State) (level : Nat) : startChange s level = s ∨ startChange s level = changeStarted s level := by
  by_cases hidle : s.pwr.change.isSome = true
  · exact .inl (startChange_same (.inl hidle))
  · by_cases hne : level = s.get R.PWR_STATUS_CUR
    · exact .inl (startChange_same (.inr hne))
    · exact .inr (startChange_started (by simpa using hidle) hne)

theorem pwr_changeStarted (s : State) (level : Nat) : (changeStarted s level).pwr = changePower s level := by
  rw [changeStarted, State.set_pwr, State.set_pwr, State.putPwr_pwr]

theorem leaves_changeStarted {key : Nat} (hk : R.PWR_STATUS ≠ key) (s : State) (level : Nat) : Leaves key s (changeStarted s level) :=
  (((Leaves.refl key s).putPwr _).set R.PWR_STATUS_CUR _ hk).set R.PWR_STATUS_CHANGING _ hk

/-- What PWR_STATUS shows during a change. -/
theorem get_changeStarted (wf : Memory.wf s = true) (level : Nat) : (changeStarted s level).get R.PWR_STATUS_CHANGING = 1 ∧
    (changeStarted s level).get R.PWR_STATUS_CUR = min (s.get R.PWR_STATUS_CUR) level % 4 ∧
    (changeStarted s level).get R.PWR_STATUS_THROTTLED = s.get R.PWR_STATUS_THROTTLED := by
  unfold changeStarted
  have hleaves : Leaves R.PWR_STATUS s (s.putPwr (changePower s level)) := (Leaves.refl _ s).putPwr _
  generalize s.putPwr (changePower s level) = u at hleaves
  have hw := hleaves.keeps.wf wf
  have hcur := wf_set hw R.PWR_STATUS_CUR (min (s.get R.PWR_STATUS_CUR) level)
  refine ⟨get_set_same (wf_regs hcur) (by decide) 1, ?_, ?_⟩
  · exact (get_set_apart hcur (by decide) (by decide) 1).trans (get_set_same (wf_regs hw) (by decide) _)
  · exact (get_set_apart hcur (by decide) (by decide) 1).trans ((get_set_apart hw (by decide) (by decide) _).trans
      (hleaves.get (f := R.PWR_STATUS_THROTTLED) wf))

theorem cur_lt (s : State) : s.get R.PWR_STATUS_CUR < 4 := get_lt (s := s) (f := R.PWR_STATUS_CUR)

/-! ## PWR_LEVEL (R570) -/

/-- TARGET is written. -/
def targetSet (s : State) (v : Nat) : State := s.set R.PWR_LEVEL_TARGET v

theorem pwrLevelWrite_open {q : Requester} {v : Nat} (hrun : running s = true) (hq : q = Requester.host ∨ q = Requester.control) (hv : v < 3) :
    exec (.pwrLevelWrite q v) s = .next (startChange (targetSet s v) (wantedLevel (targetSet s v))) := by
  have hmod : v % 4 = v := Nat.mod_eq_of_lt (by omega)
  have hpow : powered s = true := by
    rw [powered, Bool.or_eq_true]
    exact .inr hrun
  have hq' : ¬ (q ≠ Requester.host ∧ q ≠ Requester.control) := fun h => hq.elim h.1 h.2
  have hrunSet : running (targetSet s v) = true := (congrArg (fun b : BootState => decide (b.phase = .running)) (State.set_boot ..)).trans hrun
  change execPwrLevelWrite q v s = _
  rw [execPwrLevelWrite, hmod, if_neg (by simp [hpow, hq']; omega)]
  exact congrArg Host.Outcome.next (if_pos hrunSet)

theorem wanted_targetSet (wf : Memory.wf s = true) {v : Nat} (hv : v < 3) (hcool : s.bit R.PWR_STATUS_THROTTLED = false) :
    wantedLevel (targetSet s v) = v := by
  have hbit : (targetSet s v).bit R.PWR_STATUS_THROTTLED = false :=
    (((Leaves.refl R.PWR_STATUS s).set R.PWR_LEVEL_TARGET v (by decide)).bit (f := R.PWR_STATUS_THROTTLED) wf).trans hcool
  rw [wantedLevel, if_neg (ne_true_of_eq_false hbit)]
  exact (get_set_same (wf_regs wf) (by decide) v).trans (Nat.mod_eq_of_lt (show v < 4 by omega))

/-- A write of TARGET that differs from the level in force starts a change. -/
theorem pwrLevelWrite_row (wf : Memory.wf s = true) {q : Requester} {v : Nat} (hrun : running s = true)
    (hq : q = Requester.host ∨ q = Requester.control) (hv : v < 3) (hcool : s.bit R.PWR_STATUS_THROTTLED = false)
    (hidle : s.pwr.change = none) (hne : v ≠ s.get R.PWR_STATUS_CUR) :
    ∃ t c, exec (.pwrLevelWrite q v) s = .next t ∧ t.get R.PWR_LEVEL_TARGET = v ∧ t.get R.PWR_STATUS_CHANGING = 1 ∧
      t.get R.PWR_STATUS_CUR = min (s.get R.PWR_STATUS_CUR) v ∧ t.pwr.vsel = v ∧
      t.pwr.clockLevel = (if s.get R.PWR_STATUS_CUR < v then s.get R.PWR_STATUS_CUR else v) ∧
      t.pwr.change = some c ∧ c.switched = !decide (s.get R.PWR_STATUS_CUR < v) ∧ c.level = v := by
  have hexec := pwrLevelWrite_open (v := v) hrun hq hv
  rw [wanted_targetSet wf hv hcool] at hexec
  have hcur : (targetSet s v).get R.PWR_STATUS_CUR = s.get R.PWR_STATUS_CUR :=
    ((Leaves.refl R.PWR_STATUS s).set R.PWR_LEVEL_TARGET v (by decide)).get (f := R.PWR_STATUS_CUR) wf
  have htarget : (targetSet s v).get R.PWR_LEVEL_TARGET = v :=
    (get_set_same (wf_regs wf) (by decide) v).trans (Nat.mod_eq_of_lt (show v < 4 by omega))
  have hpwr : (targetSet s v).pwr = s.pwr := State.set_pwr ..
  have hw : Memory.wf (targetSet s v) = true := wf_set wf _ _
  generalize targetSet s v = u at hexec hcur htarget hpwr hw
  rw [startChange_started (by rw [hpwr, hidle]) (hcur ▸ hne)] at hexec
  obtain ⟨hchanging, hshown, -⟩ := get_changeStarted hw v
  rw [hcur] at hshown
  refine ⟨_, changeTo u v, hexec, ((leaves_changeStarted (by decide) u v).get (f := R.PWR_LEVEL_TARGET) hw).trans htarget, hchanging,
    hshown.trans (Nat.mod_eq_of_lt (by have := cur_lt s; omega)), by rw [pwr_changeStarted, changePower], ?_, by rw [pwr_changeStarted, changePower], ?_, rfl⟩
  · rw [pwr_changeStarted, changePower, changeClock, hcur]
  · rw [changeTo, hcur]

theorem pwrLevelWrite_up (wf : Memory.wf s = true) {q : Requester} {v : Nat} (hrun : running s = true)
    (hq : q = Requester.host ∨ q = Requester.control) (hv : v < 3) (hcool : s.bit R.PWR_STATUS_THROTTLED = false)
    (hidle : s.pwr.change = none) (hup : s.get R.PWR_STATUS_CUR < v) :
    ∃ t c, exec (.pwrLevelWrite q v) s = .next t ∧ t.get R.PWR_LEVEL_TARGET = v ∧ t.get R.PWR_STATUS_CHANGING = 1 ∧
      t.get R.PWR_STATUS_CUR = s.get R.PWR_STATUS_CUR ∧ t.pwr.vsel = v ∧ t.pwr.clockLevel = s.get R.PWR_STATUS_CUR ∧
      t.pwr.change = some c ∧ c.switched = false ∧ c.level = v := by
  obtain ⟨t, c, hexec, htarget, hchanging, hcur, hvsel, hclock, hchange, hswitched, hlevel⟩ := pwrLevelWrite_row wf hrun hq hv hcool hidle (by omega)
  exact ⟨t, c, hexec, htarget, hchanging, hcur.trans (by omega), hvsel, hclock.trans (if_pos hup), hchange, by simp [hswitched, hup], hlevel⟩

theorem pwrLevelWrite_down (wf : Memory.wf s = true) {q : Requester} {v : Nat} (hrun : running s = true)
    (hq : q = Requester.host ∨ q = Requester.control) (hcool : s.bit R.PWR_STATUS_THROTTLED = false) (hidle : s.pwr.change = none)
    (hdown : v < s.get R.PWR_STATUS_CUR) (hv : v < 3) :
    ∃ t, exec (.pwrLevelWrite q v) s = .next t ∧ t.get R.PWR_LEVEL_TARGET = v ∧ t.get R.PWR_STATUS_CHANGING = 1 ∧
      t.get R.PWR_STATUS_CUR = v ∧ t.pwr.vsel = v ∧ t.pwr.clockLevel = v := by
  obtain ⟨t, c, hexec, htarget, hchanging, hcur, hvsel, hclock, -⟩ := pwrLevelWrite_row wf hrun hq hv hcool hidle (by omega)
  exact ⟨t, hexec, htarget, hchanging, hcur.trans (by omega), hvsel, hclock.trans (if_neg (by omega))⟩

/-! ## The course of a change (R571, R573) -/

theorem plClockSwitchTimer_row {c : LevelChange} (hc : s.pwr.change = some c) (hwaits : c.switched = false) :
    ∃ t, exec .plClockSwitchTimer s = .next t ∧ t.pwr.clockLevel = c.level ∧ t.pwr.change = some { c with switched := true } ∧
      t.regs = s.regs := by
  have hexec : exec .plClockSwitchTimer s = .next ((s.reach (c.started + 25000)).putPwr
      { (s.reach (c.started + 25000)).pwr with change := some { c with switched := true }, clockLevel := c.level }) := by
    change execPlClockSwitchTimer s = _
    rw [execPlClockSwitchTimer, hc]
    dsimp only
    rw [if_neg (ne_true_of_eq_false hwaits)]
  have hregs := regs_reach s (c.started + 25000)
  generalize s.reach (c.started + 25000) = u at hexec hregs
  exact ⟨_, hexec, by rw [State.putPwr_pwr], by rw [State.putPwr_pwr], (State.putPwr_regs ..).trans hregs⟩

/-- The level of a change is in force. -/
def levelReached (s : State) (c : LevelChange) : State :=
  (((s.putPwr { s.pwr with change := none }).set R.PWR_STATUS_CUR c.level).set R.PWR_STATUS_CHANGING 0).bumpWrap R.PWR_CNT_PL_CHANGES

/-- The change is posted. -/
def levelPosted (s : State) (c : LevelChange) : State :=
  postEvent 0x1301 [(0, 1, c.level), (1, 1, c.from_), (4, 4, ((levelReached s c).now - c.started) / 1000)] (levelReached s c)

theorem wf_levelReached (wf : Memory.wf s = true) (c : LevelChange) : Memory.wf (levelReached s c) = true :=
  wf_set (wf_set (wf_set (wf_putPwr wf _) _ _) _ _) _ _

theorem get_levelReached (wf : Memory.wf s = true) (c : LevelChange) : (levelReached s c).get R.PWR_STATUS_CUR = c.level % 4 ∧
    (levelReached s c).get R.PWR_STATUS_CHANGING = 0 ∧ (levelReached s c).get R.PWR_STATUS_THROTTLED = s.get R.PWR_STATUS_THROTTLED ∧
    (levelReached s c).get R.PWR_CNT_PL_CHANGES = (s.get R.PWR_CNT_PL_CHANGES + 1) % 2 ^ R.PWR_CNT_PL_CHANGES.width ∧
    (levelReached s c).get R.PWR_LEVEL_TARGET = s.get R.PWR_LEVEL_TARGET := by
  have hput : ∀ key, Leaves key s (s.putPwr { s.pwr with change := none }) := fun key => (Leaves.refl key s).putPwr _
  unfold levelReached
  generalize s.putPwr { s.pwr with change := none } = u at hput
  have hw := (hput 0).keeps.wf wf
  have hcur := wf_set hw R.PWR_STATUS_CUR c.level
  have hchanging := wf_set hcur R.PWR_STATUS_CHANGING 0
  have hstatus : ∀ f : Fld, f.key = R.PWR_STATUS → Apart R.PWR_CNT_PL_CHANGES f →
      (((u.set R.PWR_STATUS_CUR c.level).set R.PWR_STATUS_CHANGING 0).bumpWrap R.PWR_CNT_PL_CHANGES).get f =
        ((u.set R.PWR_STATUS_CUR c.level).set R.PWR_STATUS_CHANGING 0).get f := fun f _ hf => get_set_apart hchanging (by decide) hf _
  have hcount : ∀ key, R.PWR_STATUS ≠ key → Leaves key s ((u.set R.PWR_STATUS_CUR c.level).set R.PWR_STATUS_CHANGING 0) := fun key hk =>
    ((hput key).set R.PWR_STATUS_CUR _ hk).set R.PWR_STATUS_CHANGING _ hk
  refine ⟨(hstatus _ rfl (by decide)).trans ?_, (hstatus _ rfl (by decide)).trans ?_, (hstatus _ rfl (by decide)).trans ?_, ?_, ?_⟩
  · exact (get_set_apart hcur (by decide) (by decide) 0).trans (get_set_same (wf_regs hw) (by decide) _)
  · exact get_set_same (wf_regs hcur) (by decide) 0
  · exact (get_set_apart hcur (by decide) (by decide) 0).trans ((get_set_apart hw (by decide) (by decide) _).trans
      ((hput _).get (f := R.PWR_STATUS_THROTTLED) wf))
  · refine (get_set_same (wf_regs hchanging) (by decide) _).trans ?_
    rw [(hcount R.PWR_CNT (by decide)).get (f := R.PWR_CNT_PL_CHANGES) wf]
    rfl
  · exact ((hcount R.PWR_LEVEL (by decide)).set R.PWR_CNT_PL_CHANGES _ (by decide)).get (f := R.PWR_LEVEL_TARGET) wf

theorem plChangeDone_row (wf : Memory.wf s = true) {c : LevelChange} (hc : s.pwr.change = some c) (hswitched : c.switched = true)
    (hlevel : c.level < 3) (hwanted : wantedLevel s = c.level) :
    ∃ t, exec .plChangeDone s = .next t ∧ t.get R.PWR_STATUS_CUR = c.level ∧ t.get R.PWR_STATUS_CHANGING = 0 ∧ t.pwr.change = none ∧
      t.get R.PWR_CNT_PL_CHANGES = (s.get R.PWR_CNT_PL_CHANGES + 1) % 2 ^ R.PWR_CNT_PL_CHANGES.width := by
  have hexec : exec .plChangeDone s = .next (startChange (levelPosted s c) (wantedLevel (levelPosted s c))) := by
    change execPlChangeDone s = _
    rw [execPlChangeDone, hc]
    dsimp only
    rw [if_neg (by simp [hswitched])]
    rfl
  have hw := wf_levelReached wf c
  obtain ⟨hcur, hchanging, hthrottled, hcount, htarget⟩ := get_levelReached wf c
  have hpwr : (levelPosted s c).pwr.change = none := by
    rw [levelPosted, pwr_postEvent, levelReached, State.bumpWrap_pwr, State.set_pwr, State.set_pwr, State.putPwr_pwr]
  have hposted : ∀ f : Fld, noisy f.key = false → (levelPosted s c).get f = (levelReached s c).get f := fun f hf =>
    ((Leaves.refl f.key _).postEvent (by decide) _ hf).get hw
  have hshown := (hposted R.PWR_STATUS_CUR (by decide)).trans (hcur.trans (Nat.mod_eq_of_lt (show c.level < 4 by omega)))
  have hsame : wantedLevel (levelPosted s c) = c.level := by
    rw [← hwanted, wantedLevel, wantedLevel, bit_eq_get, bit_eq_get, hposted R.PWR_STATUS_THROTTLED (by decide), hthrottled,
      hposted R.PWR_LEVEL_TARGET (by decide), htarget]
  rw [hsame, startChange_same (.inr hshown.symm)] at hexec
  exact ⟨_, hexec, hshown, (hposted R.PWR_STATUS_CHANGING (by decide)).trans hchanging, hpwr,
    (hposted R.PWR_CNT_PL_CHANGES (by decide)).trans hcount⟩

/-! ## Temperature (R574) -/

theorem signedOf_toField {n : Nat} (hn : 0 < n) {x : Int} (hlow : -(2 ^ (n - 1) : Int) ≤ x) (hhigh : x < 2 ^ (n - 1)) :
    signedOf n (toField n x) = x := by
  have hdouble : (2 : Int) ^ n = 2 * 2 ^ (n - 1) := by rw [← pow_succ', Nat.sub_add_cancel hn]
  have hpos : (0 : Int) < 2 ^ n := by positivity
  have hfield : ((toField n x : Nat) : Int) = x % 2 ^ n := Int.toNat_of_nonneg (Int.emod_nonneg _ hpos.ne')
  have hsmall : (toField n x : Int) < 2 ^ n := hfield ▸ Int.emod_lt_of_pos _ hpos
  have hmod : toField n x % 2 ^ n = toField n x := Nat.mod_eq_of_lt (by exact_mod_cast hsmall)
  have hcast : ((2 ^ (n - 1) : Nat) : Int) = 2 ^ (n - 1) := by push_cast; rfl
  rw [signedOf, hmod]
  by_cases hneg : x < 0
  · have hvalue : x % 2 ^ n = x + 2 ^ n := by
      rw [← Int.add_emod_right, Int.emod_eq_of_lt (by omega) (by omega)]
    have hbig : ¬ toField n x < 2 ^ (n - 1) := by
      zify
      rw [hfield, hvalue]
      omega
    rw [if_neg hbig, hfield, hvalue]
    omega
  · have hvalue : x % 2 ^ n = x := Int.emod_eq_of_lt (by omega) (by omega)
    have hlittle : toField n x < 2 ^ (n - 1) := by
      zify
      rw [hfield, hvalue]
      exact hhigh
    rw [if_pos hlittle, hfield, hvalue]

end Sys2Proof.Machine
end

section
/-!
Temperature (R574), its release timer, and Pale (R575).
-/

namespace Sys2Proof.Machine

variable {s : State} {tj : Int}

/-! ## A sample of the temperature -/

theorem getI_setI (wf : Memory.wf s = true) {f : Fld} (hf : Fits f) (hn : 0 < f.width) {x : Int} (hlow : -(2 ^ (f.width - 1) : Int) ≤ x)
    (hhigh : x < 2 ^ (f.width - 1)) : (s.setI f x).getI f = x := by
  have hmod : toField f.width x % 2 ^ f.width = toField f.width x := by
    refine Nat.mod_eq_of_lt ?_
    have hpos : (0 : Int) < 2 ^ f.width := by positivity
    zify
    rw [toField, Int.toNat_of_nonneg (Int.emod_nonneg _ hpos.ne')]
    exact Int.emod_lt_of_pos _ hpos
  rw [State.getI, State.setI, get_set_self wf hf, hmod, signedOf_toField hn hlow hhigh]

/-- The sample shows, and so does the highest one. -/
def tempShown (s : State) (tj : Int) : State :=
  if (s.setI R.PWR_TEMP_TJ tj).getI R.PWR_TEMP_MAX < tj then (s.setI R.PWR_TEMP_TJ tj).setI R.PWR_TEMP_MAX tj else s.setI R.PWR_TEMP_TJ tj

theorem leaves_tempShown {key : Nat} (hk : R.PWR_TEMP ≠ key) (s : State) (tj : Int) : Leaves key s (tempShown s tj) := by
  have hset : Leaves key s (s.setI R.PWR_TEMP_TJ tj) := (Leaves.refl key s).set R.PWR_TEMP_TJ _ hk
  exact .ite (hset.set R.PWR_TEMP_MAX _ hk) hset

theorem tempShown_row (wf : Memory.wf s = true) (hlow : -32768 ≤ tj) (hhigh : tj ≤ 32767) :
    (tempShown s tj).getI R.PWR_TEMP_TJ = tj ∧ (tempShown s tj).getI R.PWR_TEMP_MAX = max (s.getI R.PWR_TEMP_MAX) tj ∧
      (tempShown s tj).pwr = s.pwr := by
  have hw : Memory.wf (s.setI R.PWR_TEMP_TJ tj) = true := wf_set wf _ _
  have hshown : (s.setI R.PWR_TEMP_TJ tj).getI R.PWR_TEMP_TJ = tj :=
    getI_setI wf (by decide) (by decide) (show -(2 ^ 15 : Int) ≤ tj by omega) (show tj < 2 ^ 15 by omega)
  have hmax : (s.setI R.PWR_TEMP_TJ tj).getI R.PWR_TEMP_MAX = s.getI R.PWR_TEMP_MAX :=
    congrArg (signedOf 16) (get_set_apart wf (by decide) (by decide) _)
  unfold tempShown
  split
  next h =>
    refine ⟨?_, ?_, (State.set_pwr ..).trans (State.set_pwr ..)⟩
    · exact (congrArg (signedOf 16) (get_set_apart hw (by decide) (by decide) _)).trans hshown
    · have htop := getI_setI hw (f := R.PWR_TEMP_MAX) (by decide) (by decide) (show -(2 ^ 15 : Int) ≤ tj by omega) (show tj < 2 ^ 15 by omega)
      rw [hmax] at h
      rw [htop]
      omega
  next h =>
    rw [hmax] at h
    exact ⟨hshown, hmax.trans (by omega), State.set_pwr ..⟩

/-- Whether the sample lies above WARN is noted, and posted as it begins. -/
def tempJudged (s : State) (tj warn : Int) : State :=
  let s := if decide (warn < tj) && !s.pwr.warned then thermalWarn s 1 else s
  s.putPwr { s.pwr with warned := decide (warn < tj) }

/-- A sample above CRIT throttles. -/
def tempThrottled (s : State) (tj : Int) : State :=
  if decide ((4 * s.get R.PWR_CFG21_CRIT : Nat) < tj) && !s.bit R.PWR_STATUS_THROTTLED then throttle s else s

/-- The time below WARN of a throttled device. -/
def tempCool (s : State) (tj warn : Int) : State :=
  let cool := if s.bit R.PWR_STATUS_THROTTLED && decide (tj < warn) then some (s.pwr.coolSince.getD s.now) else none
  s.putPwr { s.pwr with coolSince := cool }

theorem tempSample_open (wf : Memory.wf s = true) (hpow : powered s = true) (hlow : -32768 ≤ tj) (hhigh : tj ≤ 32767) :
    exec (.tempSample tj) s = .next (tempCool (tempThrottled (tempJudged (tempShown s tj) tj (4 * (tempShown s tj).get R.PWR_CFG21_WARN)) tj)
      tj (4 * (tempShown s tj).get R.PWR_CFG21_WARN)) := by
  have hshown : (s.setI R.PWR_TEMP_TJ tj).getI R.PWR_TEMP_TJ = tj :=
    getI_setI wf (by decide) (by decide) (show -(2 ^ 15 : Int) ≤ tj by omega) (show tj < 2 ^ 15 by omega)
  change execTempSample tj s = _
  rw [execTempSample, if_neg (by simp [hpow])]
  dsimp only
  rw [hshown]
  rfl

theorem warn_tempShown (wf : Memory.wf s = true) (tj : Int) :
    (tempShown s tj).get R.PWR_CFG21_WARN = s.get R.PWR_CFG21_WARN ∧ (tempShown s tj).get R.PWR_CFG21_CRIT = s.get R.PWR_CFG21_CRIT ∧
      (tempShown s tj).get R.PWR_STATUS_THROTTLED = s.get R.PWR_STATUS_THROTTLED :=
  ⟨(leaves_tempShown (by decide) s tj).get (f := R.PWR_CFG21_WARN) wf, (leaves_tempShown (by decide) s tj).get (f := R.PWR_CFG21_CRIT) wf,
    (leaves_tempShown (by decide) s tj).get (f := R.PWR_STATUS_THROTTLED) wf⟩

theorem leaves_tempJudged {key : Nat} (hk : noisy key = false) (s : State) (tj warn : Int) : Leaves key s (tempJudged s tj warn) := by
  unfold tempJudged
  dsimp only
  have hposted : Leaves key s (if decide (warn < tj) && !s.pwr.warned then thermalWarn s 1 else s) :=
    .ite ((Leaves.refl key s).postEvent (by decide) _ hk) (.refl key s)
  generalize (if decide (warn < tj) && !s.pwr.warned then thermalWarn s 1 else s) = u at hposted
  exact hposted.putPwr _

theorem warned_tempJudged (s : State) (tj warn : Int) : (tempJudged s tj warn).pwr.warned = decide (warn < tj) := by
  unfold tempJudged
  dsimp only
  rw [State.putPwr_pwr]

theorem leaves_tempCool (key : Nat) (s : State) (tj warn : Int) : Leaves key s (tempCool s tj warn) := (Leaves.refl key s).putPwr _

theorem warned_tempCool (s : State) (tj warn : Int) : (tempCool s tj warn).pwr.warned = s.pwr.warned := by
  unfold tempCool
  dsimp only
  rw [State.putPwr_pwr]

/-- A sample that is neither above WARN nor above CRIT. -/
theorem tempSample_cool (wf : Memory.wf s = true) (hpow : powered s = true) (hlow : -32768 ≤ tj)
    (hwarn : tj ≤ 4 * (s.get R.PWR_CFG21_WARN : Int)) (hcrit : tj ≤ 4 * (s.get R.PWR_CFG21_CRIT : Int)) :
    ∃ t, exec (.tempSample tj) s = .next t ∧ t.getI R.PWR_TEMP_TJ = tj ∧ t.getI R.PWR_TEMP_MAX = max (s.getI R.PWR_TEMP_MAX) tj ∧
      t.pwr.warned = false ∧ t.get R.PWR_STATUS_THROTTLED = s.get R.PWR_STATUS_THROTTLED := by
  have hsmall : s.get R.PWR_CFG21_WARN < 256 := get_lt (s := s) (f := R.PWR_CFG21_WARN)
  obtain ⟨hshown, hmax, -⟩ := tempShown_row wf hlow (by omega : tj ≤ 32767)
  obtain ⟨hw, hc, hthrottled⟩ := warn_tempShown wf tj
  have hexec := tempSample_open wf hpow hlow (by omega : tj ≤ 32767)
  have hwf : Memory.wf (tempShown s tj) = true := (leaves_tempShown (key := 0) (by decide) s tj).keeps.wf wf
  rw [hw] at hexec
  generalize tempShown s tj = u at hexec hshown hmax hc hthrottled hwf
  have hjudged : ∀ key, noisy key = false → Leaves key u (tempJudged u tj (4 * s.get R.PWR_CFG21_WARN)) := fun key hk => leaves_tempJudged hk ..
  have hwarned : (tempJudged u tj (4 * s.get R.PWR_CFG21_WARN)).pwr.warned = false :=
    (warned_tempJudged ..).trans (decide_eq_false (by omega))
  generalize tempJudged u tj (4 * s.get R.PWR_CFG21_WARN) = v at hexec hjudged hwarned
  have hquiet : tempThrottled v tj = v := by
    refine if_neg ?_
    rw [(hjudged _ (by decide)).get (f := R.PWR_CFG21_CRIT) hwf, hc, decide_eq_false (by push_cast; omega)]
    exact Bool.false_ne_true
  rw [hquiet] at hexec
  have hend : ∀ key, noisy key = false → Leaves key u (tempCool v tj (4 * s.get R.PWR_CFG21_WARN)) := fun key hk =>
    (hjudged key hk).trans (leaves_tempCool ..)
  refine ⟨_, hexec, ?_, ?_, (warned_tempCool ..).trans hwarned, ((hend _ (by decide)).get (f := R.PWR_STATUS_THROTTLED) hwf).trans hthrottled⟩
  · exact (congrArg (signedOf 16) ((hend _ (by decide)).get (f := R.PWR_TEMP_TJ) hwf)).trans hshown
  · exact (congrArg (signedOf 16) ((hend _ (by decide)).get (f := R.PWR_TEMP_MAX) hwf)).trans hmax

/-- Throttling shows, and leaves the temperature and its warning (R574). -/
theorem throttle_row (wf : Memory.wf s = true) : (throttle s).get R.PWR_STATUS_THROTTLED = 1 ∧ Leaves R.PWR_TEMP s (throttle s) ∧
    (throttle s).pwr.warned = s.pwr.warned := by
  have hset := wf_set wf R.PWR_STATUS_THROTTLED 1
  have hone : ((s.set R.PWR_STATUS_THROTTLED 1).bump R.PWR_CNT_THROTTLE).get R.PWR_STATUS_THROTTLED = 1 :=
    (get_set_apart hset (by decide) (by decide) _).trans (get_set_same (wf_regs wf) (by decide) 1)
  have hkept : Leaves R.PWR_TEMP s ((s.set R.PWR_STATUS_THROTTLED 1).bump R.PWR_CNT_THROTTLE) :=
    ((Leaves.refl _ s).set R.PWR_STATUS_THROTTLED 1 (by decide)).set R.PWR_CNT_THROTTLE _ (by decide)
  have hpwr : ((s.set R.PWR_STATUS_THROTTLED 1).bump R.PWR_CNT_THROTTLE).pwr = s.pwr := (State.bump_pwr ..).trans (State.set_pwr ..)
  have hw : Memory.wf ((s.set R.PWR_STATUS_THROTTLED 1).bump R.PWR_CNT_THROTTLE) = true := hkept.keeps.wf wf
  unfold throttle
  generalize (s.set R.PWR_STATUS_THROTTLED 1).bump R.PWR_CNT_THROTTLE = u at hone hkept hpwr hw
  have hwarn : ∀ key, noisy key = false → Leaves key u (thermalWarn u 2) := fun key hk => (Leaves.refl key u).postEvent (by decide) _ hk
  have hwarnPwr : (thermalWarn u 2).pwr = u.pwr := pwr_postEvent ..
  have hshown := ((hwarn _ (by decide)).get (f := R.PWR_STATUS_THROTTLED) hw).trans hone
  have hwv : Memory.wf (thermalWarn u 2) = true := (hwarn 0 (by decide)).keeps.wf hw
  dsimp only
  generalize thermalWarn u 2 = v at hwarn hwarnPwr hshown hwv
  obtain h | h := startChange_cases v 0
  · rw [h]
    exact ⟨hshown, hkept.trans (hwarn _ (by decide)), by rw [hwarnPwr, hpwr]⟩
  · rw [h]
    refine ⟨(get_changeStarted hwv 0).2.2.trans hshown, (hkept.trans (hwarn _ (by decide))).trans (leaves_changeStarted (by decide) v 0), ?_⟩
    rw [pwr_changeStarted, changePower, hwarnPwr, hpwr]

/-- A sample above both limits. -/
theorem tempSample_hot (wf : Memory.wf s = true) (hpow : powered s = true) (hhigh : tj ≤ 32767)
    (hwarn : 4 * (s.get R.PWR_CFG21_WARN : Int) < tj) (hcrit : 4 * (s.get R.PWR_CFG21_CRIT : Int) < tj) :
    ∃ t, exec (.tempSample tj) s = .next t ∧ t.getI R.PWR_TEMP_TJ = tj ∧ t.get R.PWR_STATUS_THROTTLED = 1 ∧ t.pwr.warned = true := by
  have hlow : -32768 ≤ tj := by omega
  obtain ⟨hshown, -, -⟩ := tempShown_row wf hlow hhigh
  obtain ⟨hw, hc, -⟩ := warn_tempShown wf tj
  have hexec := tempSample_open wf hpow hlow hhigh
  have hwf : Memory.wf (tempShown s tj) = true := (leaves_tempShown (key := 0) (by decide) s tj).keeps.wf wf
  rw [hw] at hexec
  generalize tempShown s tj = u at hexec hshown hc hwf
  have hjudged : ∀ key, noisy key = false → Leaves key u (tempJudged u tj (4 * s.get R.PWR_CFG21_WARN)) := fun key hk => leaves_tempJudged hk ..
  have hwarned : (tempJudged u tj (4 * s.get R.PWR_CFG21_WARN)).pwr.warned = true := (warned_tempJudged ..).trans (decide_eq_true (by omega))
  generalize tempJudged u tj (4 * s.get R.PWR_CFG21_WARN) = v at hexec hjudged hwarned
  have hwv : Memory.wf v = true := (hjudged 0 (by decide)).keeps.wf hwf
  have hjudgedTj : v.getI R.PWR_TEMP_TJ = tj := (congrArg (signedOf 16) ((hjudged _ (by decide)).get (f := R.PWR_TEMP_TJ) hwf)).trans hshown
  have hpast : decide (((4 * v.get R.PWR_CFG21_CRIT : Nat) : Int) < tj) = true := by
    rw [(hjudged _ (by decide)).get (f := R.PWR_CFG21_CRIT) hwf, hc]
    exact decide_eq_true (by push_cast; omega)
  have hend : Memory.wf (tempThrottled v tj) = true ∧ (tempThrottled v tj).getI R.PWR_TEMP_TJ = tj ∧
      (tempThrottled v tj).get R.PWR_STATUS_THROTTLED = 1 ∧ (tempThrottled v tj).pwr.warned = true := by
    unfold tempThrottled
    rw [hpast, Bool.true_and]
    split
    · obtain ⟨hone, hleaves, hkept⟩ := throttle_row hwv
      exact ⟨hleaves.keeps.wf hwv, (congrArg (signedOf 16) (hleaves.get (f := R.PWR_TEMP_TJ) hwv)).trans hjudgedTj, hone, hkept.trans hwarned⟩
    next h =>
      exact ⟨hwv, hjudgedTj, by simpa [bit_eq_get] using h, hwarned⟩
  obtain ⟨hwt, hendTj, hone, hendWarned⟩ := hend
  generalize tempThrottled v tj = x at hexec hwt hendTj hone hendWarned
  have hcool := fun key => leaves_tempCool key x tj (4 * s.get R.PWR_CFG21_WARN)
  exact ⟨_, hexec, (congrArg (signedOf 16) ((hcool _).get (f := R.PWR_TEMP_TJ) hwt)).trans hendTj,
    ((hcool _).get (f := R.PWR_STATUS_THROTTLED) hwt).trans hone, (warned_tempCool ..).trans hendWarned⟩

/-- The throttle is released. -/
def released (s : State) : State := (s.putPwr { s.pwr with coolSince := none }).set R.PWR_STATUS_THROTTLED 0

theorem throttleReleaseTimer_row (wf : Memory.wf s = true) {x : Nat} (hx : s.pwr.coolSince = some x) (hthrottled : s.bit R.PWR_STATUS_THROTTLED = true) :
    ∃ t, exec .throttleReleaseTimer s = .next t ∧ t.get R.PWR_STATUS_THROTTLED = 0 ∧ t.pwr.coolSince = none := by
  have hexec : exec .throttleReleaseTimer s = .next (thermalWarn (startChange (released (s.reach (x + 10 * secondNs)))
      (wantedLevel (released (s.reach (x + 10 * secondNs))))) 0) := by
    change execThrottleReleaseTimer s = _
    rw [execThrottleReleaseTimer, hx]
    dsimp only
    rw [if_pos hthrottled]
    rfl
  have hreach : Memory.wf (s.reach (x + 10 * secondNs)) = true := ((Leaves.refl 0 s).reach _).keeps.wf wf
  generalize s.reach (x + 10 * secondNs) = u at hexec hreach
  have hzero : (released u).get R.PWR_STATUS_THROTTLED = 0 := get_set_same (wf_regs (wf_putPwr hreach _)) (by decide) 0
  have hpwr : (released u).pwr.coolSince = none := by rw [released, State.set_pwr, State.putPwr_pwr]
  have hw : Memory.wf (released u) = true := wf_set (wf_putPwr hreach _) _ _
  generalize released u = v at hexec hzero hpwr hw
  have hchange : (startChange v (wantedLevel v)).get R.PWR_STATUS_THROTTLED = 0 ∧ (startChange v (wantedLevel v)).pwr.coolSince = none ∧
      Memory.wf (startChange v (wantedLevel v)) = true := by
    obtain h | h := startChange_cases v (wantedLevel v)
    · rw [h]
      exact ⟨hzero, hpwr, hw⟩
    · rw [h]
      exact ⟨(get_changeStarted hw _).2.2.trans hzero, by rw [pwr_changeStarted, changePower, hpwr],
        (leaves_changeStarted (key := 0) (by decide) v _).keeps.wf hw⟩
  obtain ⟨hshown, hcool, hwc⟩ := hchange
  generalize startChange v (wantedLevel v) = y at hexec hshown hcool hwc
  refine ⟨_, hexec, (((Leaves.refl R.PWR_STATUS y).postEvent (by decide) _ (by decide)).get (f := R.PWR_STATUS_THROTTLED) hwc).trans hshown, ?_⟩
  rw [thermalWarn, pwr_postEvent, hcool]

/-! ## Pale (R575) -/

/-- LF mode of one timer. -/
def lfStep (b : Bool) (t : State) (n : Nat) : State := t.setBit (R.GT_STAT_LF n) (b && t.bit (R.GT_CFG_EN n))

theorem gtStat_ne_gtCfg (n m : Nat) : R.GT_STAT n ≠ R.GT_CFG m := by
  simp only [R.GT_STAT, R.GT_CFG]
  omega

theorem gtStat_inj {n m : Nat} (h : n ≠ m) : R.GT_STAT n ≠ R.GT_STAT m := by
  simp only [R.GT_STAT]
  omega

/-- LF mode of a timer follows its EN (R431). -/
theorem get_lfSteps (b : Bool) (l : List Nat) (wf : Memory.wf s = true) (n : Nat) : (foldState (lfStep b) s l).get (R.GT_STAT_LF n) =
    if n ∈ l then boolNat (b && s.bit (R.GT_CFG_EN n)) else s.get (R.GT_STAT_LF n) := by
  induction l generalizing s with
  | nil => rfl
  | cons m l ih =>
    have hw : Memory.wf (lfStep b s m) = true := wf_set wf _ _
    have hen : (lfStep b s m).bit (R.GT_CFG_EN n) = s.bit (R.GT_CFG_EN n) :=
      ((Leaves.refl (R.GT_CFG n) s).set (R.GT_STAT_LF m) _ (gtStat_ne_gtCfg m n)).bit (f := R.GT_CFG_EN n) wf
    refine (ih hw).trans ?_
    rw [hen]
    by_cases hin : n ∈ l
    · rw [if_pos hin, if_pos (List.mem_cons_of_mem m hin)]
    · rw [if_neg hin]
      by_cases hnm : n = m
      · subst hnm
        rw [if_pos (List.mem_cons_self ..)]
        refine (get_set_same (wf_regs wf) (by decide) _).trans (Nat.mod_eq_of_lt ?_)
        exact Nat.lt_of_le_of_lt (boolNat_le _) (by decide)
      · rw [if_neg (by simp [hin, hnm])]
        exact ((Leaves.refl (R.GT_STAT n) s).set (R.GT_STAT_LF m) _ (gtStat_inj (Ne.symm hnm))).get (f := R.GT_STAT_LF n) wf

theorem setLfMode_eq (s : State) (b : Bool) : setLfMode s b = foldState (lfStep b) s (List.range 32) := rfl

theorem boolNat_bit {f : Fld} (hf : f.width = 1) (s : State) : boolNat (s.bit f) = s.get f := by
  have hlt : s.get f < 2 := by
    have := get_lt (s := s) (f := f)
    rwa [hf] at this
  rw [bit_eq_get]
  by_cases h : s.get f = 1
  · rw [decide_eq_true h, h]
    rfl
  · rw [decide_eq_false h]
    change 0 = _
    omega

/-- The application core waits in Pale. -/
def paleWaiting (s : State) : State :=
  (s.putApp { s.app with waiting := true }).putPwr { (s.putApp { s.app with waiting := true }).pwr with pale := true }

theorem leaves_paleWaiting (key : Nat) (s : State) : Leaves key s (paleWaiting s) :=
  ((Leaves.refl key s).same (State.putApp_keeps (Keeps.refl s) { s.app with waiting := true } fun w => ⟨wf_iram w, wf_dram w⟩)
    (State.putApp_regs ..)).putPwr _

theorem paleEnter_row (wf : Memory.wf s = true) (hrun : running s = true) (hen : s.bit R.PWR_CFG21_PALE_EN = true) (hpale : s.pwr.pale = false)
    (hstate : s.get R.APP_STAT_STATE = appRuns) (hreq : s.app.request = none) (hdebug : s.app.debugHalt = false) :
    ∃ t, exec .paleEnter s = .next t ∧ t.pwr.pale = true ∧ t.app.waiting = true ∧
      ∀ n, n < 32 → t.get (R.GT_STAT_LF n) = s.get (R.GT_CFG_EN n) := by
  have hexec : exec .paleEnter s = .next (setLfMode (paleWaiting s) true) := if_pos (by simp [hrun, hen, hpale, hstate, hreq, hdebug])
  have hpwr : (paleWaiting s).pwr.pale = true ∧ (paleWaiting s).app.waiting = true := by
    rw [paleWaiting, State.putPwr_pwr, State.putPwr_app, State.putApp_app]
    exact ⟨rfl, rfl⟩
  have hleaves := fun key => leaves_paleWaiting key s
  generalize paleWaiting s = u at hexec hpwr hleaves
  have hframe := setLfMode_frame rfl (Frame.refl 0x1 u) true
  refine ⟨_, hexec, (congrArg PowerState.pale (hframe.of .pwr rfl)).trans hpwr.1, (congrArg AppState.waiting (hframe.of .app rfl)).trans hpwr.2,
    fun n hn => ?_⟩
  rw [setLfMode_eq, get_lfSteps true _ ((hleaves 0).keeps.wf wf), if_pos (List.mem_range.mpr hn), Bool.true_and, boolNat_bit rfl,
    (hleaves _).get (f := R.GT_CFG_EN n) wf]

/-- The application core goes on. -/
def paleLeft (s : State) : State :=
  (s.putApp { s.app with waiting := false }).putPwr { (s.putApp { s.app with waiting := false }).pwr with pale := false }

theorem paleExit_row (debugger : Bool) (periods : Nat) (hpale : s.pwr.pale = true) (hwake : s.app.request.isSome = true ∨ debugger = true) :
    ∃ t, exec (.paleExit debugger periods) s = .next t ∧ t.pwr.pale = false := by
  have hexec : exec (.paleExit debugger periods) s = .next (if lfMode (paleLeft s) then paleLeft s else endLfMode (paleLeft s) periods) :=
    if_pos (by simpa [hpale] using hwake)
  have hpwr : (paleLeft s).pwr.pale = false := by rw [paleLeft, State.putPwr_pwr]
  refine ⟨_, hexec, ?_⟩
  split
  · exact hpwr
  · exact (congrArg PowerState.pale ((endLfMode_frame rfl (Frame.refl 0x880001 _) periods).of .pwr rfl)).trans hpwr

/-- Settles O43. -/
theorem levelRowsComplete : Obligations.LevelRowsComplete := by
  intro s wf
  exact ⟨fun q v => pwrLevelWrite_up wf, fun q v => pwrLevelWrite_down wf, fun c => plClockSwitchTimer_row, fun c => plChangeDone_row wf,
    fun tj => tempSample_cool wf, fun tj => tempSample_hot wf, fun x => throttleReleaseTimer_row wf, paleEnter_row wf, paleExit_row⟩

end Sys2Proof.Machine
end

section
/-!
Sleep (chapter 21, R578 to R585, Tables 21-3 and 21-5): requests, entry, wake sources and exit.
-/

namespace Sys2Proof.Machine

variable {s : State}

/-! ## Requests (R578) -/

theorem sleepResult_accepted {q : Requester} (hq : q = Requester.host ∨ q = Requester.control) (hfree : sleepBusy s = false)
    (hany : (List.range 7).any (wakeEnabled s) = true) : sleepResult s q 0x534C = 1 := by
  rw [sleepResult, if_neg fun h => hq.elim h.1 h.2, if_neg (by decide), if_neg (ne_true_of_eq_false hfree), hany]
  rfl

/-- The result shows. -/
def sleepAnswered (s : State) (r : Nat) : State := s.set R.PWR_STATUS_CMD_RES r

theorem sleepCommand_accepted (wf : Memory.wf s = true) {q : Requester} {key : Nat} (hres : sleepResult s q key = 1) (hswitch : switchResult s ≠ 1)
    (umber : Bool) : sleepCommand s q key umber = requestSleep (sleepAnswered s 1) umber := by
  have hsame : switchResult (sleepAnswered s 1) ≠ 1 := by
    have hset : ∀ k, R.PWR_STATUS ≠ k → Leaves k s (sleepAnswered s 1) := fun k hk => (Leaves.refl k s).set R.PWR_STATUS_CMD_RES 1 hk
    rwa [switchResult_congr (hset _ (by decide)) (hset _ (by decide)) (hset _ (by decide)) (State.set_pair ..) wf]
  rw [sleepCommand, hres, if_neg (by decide)]
  exact if_neg hsame

theorem sleepCommand_refused {q : Requester} {key : Nat} (hres : sleepResult s q key ≠ 1) (umber : Bool) :
    sleepCommand s q key umber = s.set R.PWR_STATUS_CMD_RES (sleepResult s q key) := if_pos hres

theorem requestSleep_row (wf : Memory.wf s = true) (umber : Bool) : ∃ r, (requestSleep (sleepAnswered s 1) umber).pwr.request = some r ∧
    r.umber = umber ∧ (requestSleep (sleepAnswered s 1) umber).get R.PWR_STATUS_CMD_RES = 1 := by
  have hshown : (sleepAnswered s 1).get R.PWR_STATUS_CMD_RES = 1 := get_set_same (wf_regs wf) (by decide) 1
  have hw : Memory.wf (sleepAnswered s 1) = true := wf_set wf _ _
  generalize sleepAnswered s 1 = u at hshown hw
  unfold requestSleep
  extract_lets l r src
  refine ⟨r, ?_, rfl, (((Leaves.refl R.PWR_STATUS u).putPwr _).get (f := R.PWR_STATUS_CMD_RES) hw).trans hshown⟩
  rw [State.putPwr_pwr]

theorem sleep_accepted (wf : Memory.wf s = true) {q : Requester} (hrun : running s = true) (hq : q = Requester.host ∨ q = Requester.control)
    (hfree : sleepBusy s = false) (hany : (List.range 7).any (wakeEnabled s) = true) (hswitch : switchResult s ≠ 1) :
    (∃ t r, exec (.pwrCmdSepia q 0x534C) s = .next t ∧ t.pwr.request = some r ∧ r.umber = false ∧ t.get R.PWR_STATUS_CMD_RES = 1) ∧
      (∃ t r, exec (.pwrCmdUmber q 0x534C) s = .next t ∧ t.pwr.request = some r ∧ r.umber = true ∧ t.get R.PWR_STATUS_CMD_RES = 1) := by
  have hres := sleepResult_accepted hq hfree hany
  obtain ⟨r, hreq, hkind, hshown⟩ := requestSleep_row wf false
  obtain ⟨r', hreq', hkind', hshown'⟩ := requestSleep_row wf true
  refine ⟨⟨_, r, ?_, hreq, hkind, hshown⟩, ⟨_, r', ?_, hreq', hkind', hshown'⟩⟩
  · exact congrArg Host.Outcome.next ((if_pos hrun).trans (sleepCommand_accepted wf hres hswitch false))
  · exact congrArg Host.Outcome.next ((if_pos hrun).trans (sleepCommand_accepted wf hres hswitch true))

theorem sleep_refused {q : Requester} {key : Nat} (hrun : running s = true) (hres : sleepResult s q key ≠ 1) :
    exec (.pwrCmdSepia q key) s = .next (s.set R.PWR_STATUS_CMD_RES (sleepResult s q key)) ∧
      exec (.pwrCmdUmber q key) s = .next (s.set R.PWR_STATUS_CMD_RES (sleepResult s q key)) :=
  ⟨congrArg Host.Outcome.next ((if_pos hrun).trans (sleepCommand_refused hres false)),
    congrArg Host.Outcome.next ((if_pos hrun).trans (sleepCommand_refused hres true))⟩

/-! ## Entry (Table 21-5, R585) -/

theorem startExit_awaits (h : s.pwr.wake = none) : startExit s = s := by rw [startExit, h]

/-- What stops before a sleep state is entered. -/
def entryStopped (s : State) : State := stopTimebase (entryStops s)

theorem entryStopped_row (s : State) : (entryStopped s).pwr = s.pwr ∧ (entryStopped s).tb.running = false ∧ (entryStopped s).flash = s.flash ∧
    (entryStopped s).otp = s.otp := by
  have hstops := entryStops_frame rfl (Frame.refl 0x186d7d121 s)
  have htime := stopTimebase_frame rfl (Frame.refl 0x80000 (entryStops s))
  exact ⟨(htime.of .pwr rfl).trans (hstops.of .pwr rfl), running_stopTimebase _, (htime.of .flash rfl).trans (hstops.of .flash rfl),
    (htime.of .otp rfl).trans (hstops.of .otp rfl)⟩

theorem sepiaClear_row (s : State) : (sepiaClear s).boot.phase = .sepia ∧ (sepiaClear s).pwr.enCore = false ∧ (sepiaClear s).pwr.isolated = true ∧
    (sepiaClear s).pwr.request = none ∧ (sepiaClear s).pwr.wake = s.pwr.wake ∧ (sepiaClear s).tb.running = s.tb.running ∧
    (sepiaClear s).flash = s.flash ∧ (sepiaClear s).otp = s.otp ∧ (sepiaClear s).queues = [] := ⟨rfl, rfl, rfl, rfl, rfl, rfl, rfl, rfl, rfl⟩

/-- The views of a device in Sepia. -/
def sepiaViews (s : State) : State :=
  (((sleepViews s 1).set R.PAIR_STATUS_GATE 0).set R.PAIR_STATUS_SWO 0).set R.PAIR_STATUS_IL_FAULT 0

theorem sepiaViews_frame (s : State) : Frame 0x1 s (sepiaViews s) :=
  State.set_frame rfl (State.set_frame rfl (State.set_frame rfl (sleepViews_frame rfl (Frame.refl 0x1 s) 1) _ _) _ _) _ _

/-- Sepia as it is entered, before a wake that came meanwhile acts. -/
def sepiaEntered (s : State) : State :=
  setLfMode (((sepiaViews (sepiaClear s)).later 300000).putPwr
    { ((sepiaViews (sepiaClear s)).later 300000).pwr with asleepAt := ((sepiaViews (sepiaClear s)).later 300000).now }) true

theorem enterSepia_eq (s : State) : enterSepia s = startExit (sepiaEntered (entryStopped s)) := rfl

theorem sepiaEntered_row (s : State) : (sepiaEntered s).boot.phase = .sepia ∧ (sepiaEntered s).pwr.enCore = false ∧
    (sepiaEntered s).pwr.isolated = true ∧ (sepiaEntered s).pwr.request = none ∧ (sepiaEntered s).pwr.wake = s.pwr.wake ∧
    (sepiaEntered s).tb.running = s.tb.running ∧ (sepiaEntered s).flash = s.flash ∧ (sepiaEntered s).otp = s.otp ∧
    (sepiaEntered s).queues = [] := by
  obtain ⟨hphase, hcore, hiso, hreq, hwake, hrun, hflash, hotp, hqueues⟩ := sepiaClear_row s
  unfold sepiaEntered
  generalize sepiaClear s = u at hphase hcore hiso hreq hwake hrun hflash hotp hqueues
  have hframe := sepiaViews_frame u
  generalize sepiaViews u = v at hframe
  have hlater : Frame 0x40000000 v (v.later 300000) := State.later_frame rfl (Frame.refl _ v) 300000
  generalize v.later 300000 = w at hlater
  have hput : (w.putPwr { w.pwr with asleepAt := w.now }).pwr = { w.pwr with asleepAt := w.now } := State.putPwr_pwr ..
  have hkept : Frame 0x10000000 w (w.putPwr { w.pwr with asleepAt := w.now }) := State.putPwr_frame rfl (Frame.refl _ w) _
  generalize w.putPwr { w.pwr with asleepAt := w.now } = x at hput hkept
  have hlf := setLfMode_frame rfl (Frame.refl 0x1 x) true
  have hpwr : w.pwr = u.pwr := (hlater.of .pwr rfl).trans (hframe.of .pwr rfl)
  have hend : (setLfMode x true).pwr = { u.pwr with asleepAt := w.now } := (hlf.of .pwr rfl).trans (hput.trans (by rw [hpwr]))
  have hboot : (setLfMode x true).boot = u.boot :=
    (hlf.of .boot rfl).trans ((hkept.of .boot rfl).trans ((hlater.of .boot rfl).trans (hframe.of .boot rfl)))
  have htb : (setLfMode x true).tb = u.tb := (hlf.of .tb rfl).trans ((hkept.of .tb rfl).trans ((hlater.of .tb rfl).trans (hframe.of .tb rfl)))
  have hfl : (setLfMode x true).flash = u.flash :=
    (hlf.of .flash rfl).trans ((hkept.of .flash rfl).trans ((hlater.of .flash rfl).trans (hframe.of .flash rfl)))
  have hot : (setLfMode x true).otp = u.otp := (hlf.of .otp rfl).trans ((hkept.of .otp rfl).trans ((hlater.of .otp rfl).trans (hframe.of .otp rfl)))
  have hqs : (setLfMode x true).queues = u.queues :=
    (hlf.of .queues rfl).trans ((hkept.of .queues rfl).trans ((hlater.of .queues rfl).trans (hframe.of .queues rfl)))
  rw [hend, hboot, htb, hfl, hot, hqs]
  exact ⟨hphase, hcore, hiso, hreq, hwake, hrun, hflash, hotp, hqueues⟩

theorem sepiaEntry_row {r : SleepRequest} (hr : s.pwr.request = some r) (hrun : running s = true) (hkind : r.umber = false)
    (hwake : s.pwr.wake = none) :
    ∃ t, exec .sepiaEntry s = .next t ∧ t.boot.phase = .sepia ∧ t.pwr.enCore = false ∧ t.pwr.isolated = true ∧ t.pwr.request = none ∧
      t.tb.running = false ∧ t.flash = s.flash ∧ t.otp = s.otp ∧ t.queues = [] := by
  have hexec : exec .sepiaEntry s = .next (startExit (sepiaEntered (entryStopped (s.advanceTo r.boundary)))) := by
    change execSepiaEntry s = _
    rw [execSepiaEntry, hr]
    dsimp only
    rw [if_pos (by rw [hrun, hkind]; rfl), enterSepia_eq]
  have hframe : Frame 0x40080000 s (s.advanceTo r.boundary) := State.advanceTo_frame rfl (Frame.refl _ s) _
  generalize s.advanceTo r.boundary = u at hexec hframe
  obtain ⟨hpwr, htime, hflash, hotp⟩ := entryStopped_row u
  generalize entryStopped u = v at hexec hpwr htime hflash hotp
  obtain ⟨hphase, hcore, hiso, hreq, hwakeKept, hstopped, hflashKept, hotpKept, hqueues⟩ := sepiaEntered_row v
  rw [startExit_awaits (by rw [hwakeKept, hpwr, hframe.of .pwr rfl, hwake])] at hexec
  exact ⟨_, hexec, hphase, hcore, hiso, hreq, hstopped.trans htime, hflashKept.trans (hflash.trans (hframe.of .flash rfl)),
    hotpKept.trans (hotp.trans (hframe.of .otp rfl)), hqueues⟩

/-! ### Umber -/

/-- The fields that Umber keeps (R585). -/
def umberFields : List Fld :=
  alwaysOnFields ++ strapFields ++ [R.PWR_SLEEP_PEER, R.PWR_SLEEP_PERST, R.PWR_SLEEP_TMR, R.PWR_SLEEP_POL, R.PWR_SLEEP_GPIO,
    R.PWR_WAKE_TMR_SECONDS]

/-- The power state of Umber. -/
def umberPower (p : PowerState) : PowerState :=
  { PowerState.cold with faultN := true, aonLf := p.aonLf, wake := p.wake, duringEntry := p.duringEntry }

/-- Umber after the reset of everything that it does not keep. -/
def umberCleared (s : State) (p : PowerState) : State :=
  (((resetKeeping s umberFields (umberPower p) .umber).set R.PWR_STATUS_LAST_STATE 2).setBit R.BOOT_STATUS_AON_SRC (!p.aonLf)).later 1150000

/-- Umber as it is entered, before a wake that came meanwhile acts. -/
def umberEntered (s : State) (p : PowerState) : State :=
  (umberCleared s p).putPwr { (umberCleared s p).pwr with asleepAt := (umberCleared s p).now }

theorem enterUmber_eq (s : State) : enterUmber s = startExit (umberEntered (entryStopped s) s.pwr) := rfl

theorem umberEntered_row (s : State) (p : PowerState) : (umberEntered s p).boot.phase = .umber ∧ (umberEntered s p).pwr.enCore = false ∧
    (umberEntered s p).pwr.enSram = false ∧ (umberEntered s p).pwr.wake = p.wake ∧ (umberEntered s p).sec = SecState.cold ∧
    (umberEntered s p).tb.running = false ∧ (umberEntered s p).flash = s.flash ∧ (umberEntered s p).otp = s.otp := by
  have hreset : (resetKeeping s umberFields (umberPower p) .umber).boot.phase = .umber ∧
      (resetKeeping s umberFields (umberPower p) .umber).pwr = umberPower p ∧ (resetKeeping s umberFields (umberPower p) .umber).sec = SecState.cold ∧
      (resetKeeping s umberFields (umberPower p) .umber).tb.running = false ∧
      (resetKeeping s umberFields (umberPower p) .umber).flash = s.flash ∧ (resetKeeping s umberFields (umberPower p) .umber).otp = s.otp :=
    ⟨resetKeeping_phase .., resetKeeping_pwr .., resetKeeping_sec .., resetKeeping_tb_running .., resetKeeping_flash .., resetKeeping_otp ..⟩
  obtain ⟨hphase, hpwr, hsec, hrun, hflash, hotp⟩ := hreset
  unfold umberEntered umberCleared
  generalize resetKeeping s umberFields (umberPower p) .umber = u at hphase hpwr hsec hrun hflash hotp
  have hviews : Frame 0x40000001 u (((u.set R.PWR_STATUS_LAST_STATE 2).setBit R.BOOT_STATUS_AON_SRC (!p.aonLf)).later 1150000) :=
    State.later_frame rfl (State.set_frame rfl (State.set_frame rfl (Frame.refl _ u) _ _) _ _) _
  generalize ((u.set R.PWR_STATUS_LAST_STATE 2).setBit R.BOOT_STATUS_AON_SRC (!p.aonLf)).later 1150000 = v at hviews
  have hshown : v.pwr = umberPower p := (hviews.of .pwr rfl).trans hpwr
  have hput : Frame 0x10000000 v (v.putPwr { v.pwr with asleepAt := v.now }) := State.putPwr_frame rfl (Frame.refl _ v) _
  rw [State.putPwr_pwr, hshown]
  exact ⟨(congrArg BootState.phase ((hput.of .boot rfl).trans (hviews.of .boot rfl))).trans hphase, rfl, rfl, rfl,
    ((hput.of .sec rfl).trans (hviews.of .sec rfl)).trans hsec,
    (congrArg TimeState.running ((hput.of .tb rfl).trans (hviews.of .tb rfl))).trans hrun,
    ((hput.of .flash rfl).trans (hviews.of .flash rfl)).trans hflash, ((hput.of .otp rfl).trans (hviews.of .otp rfl)).trans hotp⟩

theorem umberEntry_row {r : SleepRequest} (hr : s.pwr.request = some r) (hrun : running s = true) (hkind : r.umber = true)
    (hwake : s.pwr.wake = none) :
    ∃ t, exec .umberEntry s = .next t ∧ t.boot.phase = .umber ∧ t.pwr.enCore = false ∧ t.pwr.enSram = false ∧ t.sec = SecState.cold ∧
      t.tb.running = false ∧ t.flash = s.flash ∧ t.otp = s.otp := by
  have hexec : exec .umberEntry s = .next (startExit (umberEntered (entryStopped (s.advanceTo r.boundary)) (s.advanceTo r.boundary).pwr)) := by
    change execUmberEntry s = _
    rw [execUmberEntry, hr]
    dsimp only
    rw [if_pos (by rw [hrun, hkind]; rfl), enterUmber_eq]
  have hframe : Frame 0x40080000 s (s.advanceTo r.boundary) := State.advanceTo_frame rfl (Frame.refl _ s) _
  generalize s.advanceTo r.boundary = u at hexec hframe
  obtain ⟨-, -, hflash, hotp⟩ := entryStopped_row u
  generalize entryStopped u = v at hexec hflash hotp
  obtain ⟨hphase, hcore, hsram, hwakeKept, hsec, hstopped, hflashKept, hotpKept⟩ := umberEntered_row v u.pwr
  rw [startExit_awaits (by rw [hwakeKept, hframe.of .pwr rfl, hwake])] at hexec
  exact ⟨_, hexec, hphase, hcore, hsram, hsec, hstopped, hflashKept.trans (hflash.trans (hframe.of .flash rfl)),
    hotpKept.trans (hotp.trans (hframe.of .otp rfl))⟩

end Sys2Proof.Machine
end

section
/-!
Leaving sleep (Tables 2-7, 21-6 and 21-7a, R580 to R584): wake sources, the exit with a good save image and the exit with a bad one.
-/

namespace Sys2Proof.Machine

variable {s : State}

/-! ## Wake sources (R580, R584) -/

/-- What of the state an exit keeps: an Umber exit restarts everything but the always-on fields. -/
def exitKept (s : State) : State :=
  if decide (s.boot.phase = .umber) = true then resetKeeping s (alwaysOnFields ++ strapFields) s.pwr s.boot.phase else s

theorem wf_exitKept (wf : Memory.wf s = true) : Memory.wf (exitKept s) = true := by
  unfold exitKept
  split
  · exact wf_keeps (resetKeeping_keeps (Keeps.refl s) _ _ _) wf
  · exact wf

theorem startExit_row (wf : Memory.wf s = true) {src at_ : Nat} (hwake : s.pwr.wake = some (src, at_)) :
    (startExit s).boot.phase = .powering ∧ (startExit s).boot.cause = (if s.boot.phase = .umber then .umberExit else .sepiaExit) ∧
      (startExit s).pwr.enCore = true ∧ (startExit s).pwr.enSram = true ∧ (startExit s).get R.PWR_STATUS_WAKE_SRC = src % 8 := by
  have hshown : ((exitKept s).set R.PWR_STATUS_WAKE_SRC src).get R.PWR_STATUS_WAKE_SRC = src % 8 :=
    get_set_same (wf_regs (wf_exitKept wf)) (by decide) src
  have hcause : (if decide (s.boot.phase = .umber) = true then PowerCause.umberExit else .sepiaExit) =
      if s.boot.phase = .umber then .umberExit else .sepiaExit := by simp only [decide_eq_true_eq]
  rw [startExit, hwake]
  change _ ∧ _ ∧ _ ∧ _ ∧ ((exitKept s).set R.PWR_STATUS_WAKE_SRC src).get R.PWR_STATUS_WAKE_SRC = _
  exact ⟨rfl, hcause, rfl, rfl, hshown⟩

theorem latchWake_asleep {src : Nat} (hen : wakeEnabled s src = true) (hwake : s.pwr.wake = none)
    (hasleep : s.boot.phase = .sepia ∨ s.boot.phase = .umber) :
    latchWake s src = startExit (s.putPwr { s.pwr with wake := some (src, s.now) }) := by
  rw [latchWake, if_neg (by simp [hen, hwake]), if_pos (by simpa [asleep] using hasleep)]

/-- A source that wakes a sleeping device. -/
theorem latchWake_row (wf : Memory.wf s = true) {src : Nat} (hen : wakeEnabled s src = true) (hwake : s.pwr.wake = none)
    (hasleep : s.boot.phase = .sepia ∨ s.boot.phase = .umber) :
    (latchWake s src).boot.phase = .powering ∧ (latchWake s src).boot.cause = (if s.boot.phase = .umber then .umberExit else .sepiaExit) ∧
      (latchWake s src).pwr.enCore = true ∧ (latchWake s src).pwr.enSram = true ∧
      (latchWake s src).get R.PWR_STATUS_WAKE_SRC = src % 8 := by
  rw [latchWake_asleep hen hwake hasleep]
  have hphase : (s.putPwr { s.pwr with wake := some (src, s.now) }).boot.phase = s.boot.phase := rfl
  have hlatched : (s.putPwr { s.pwr with wake := some (src, s.now) }).pwr.wake = some (src, s.now) := rfl
  rw [← hphase]
  exact startExit_row (wf_putPwr wf _) hlatched

theorem wakeSource_asleep (wf : Memory.wf s = true) {src : Nat} (hlow : 1 ≤ src) (hhigh : src ≤ 6) (hen : wakeEnabled s src = true)
    (hwake : s.pwr.wake = none) (hasleep : s.boot.phase = .sepia ∨ s.boot.phase = .umber) :
    ∃ t, exec (.wakeSource src) s = .next t ∧ t.boot.phase = .powering ∧ t.get R.PWR_STATUS_WAKE_SRC = src ∧ t.pwr.enCore = true ∧
      t.pwr.enSram = true ∧ t.boot.cause = (if s.boot.phase = .umber then .umberExit else .sepiaExit) := by
  obtain ⟨hphase, hcause, hcore, hsram, hshown⟩ := latchWake_row wf hen hwake hasleep
  exact ⟨_, congrArg Host.Outcome.next (if_pos ⟨hlow, hhigh⟩), hphase, hshown.trans (Nat.mod_eq_of_lt (by omega)), hcore, hsram, hcause⟩

theorem wakeSource_duringEntry {src : Nat} (hlow : 1 ≤ src) (hhigh : src ≤ 6) (hen : wakeEnabled s src = true) (hwake : s.pwr.wake = none)
    (hrun : running s = true) (hreq : s.pwr.request.isSome = true) :
    ∃ t, exec (.wakeSource src) s = .next t ∧ t.pwr.wake = some (src, s.now) ∧ t.pwr.duringEntry = true ∧ t.regs = s.regs := by
  have hphase : s.boot.phase = .running := of_decide_eq_true hrun
  have hlatch : latchWake s src = s.putPwr { s.pwr with wake := some (src, s.now), duringEntry := true } := by
    rw [latchWake, if_neg (by simp [hen, hwake]), if_neg (by simp [asleep, hphase]), if_pos (by simp [hrun, hreq])]
  exact ⟨_, congrArg Host.Outcome.next ((if_pos ⟨hlow, hhigh⟩).trans hlatch), rfl, rfl, rfl⟩

theorem wakeEnabled_congr {t : State} (hregs : t.regs = s.regs) (hpart : t.part = s.part) (src : Nat) : wakeEnabled t src = wakeEnabled s src := by
  have hget (f : Fld) : t.get f = s.get f := by rw [State.get, State.get, hregs]
  unfold wakeEnabled State.bit
  simp only [hget, hpart]

theorem sleepTimer_wakes (wf : Memory.wf s = true) (hen : wakeEnabled s 0 = true) (hwake : s.pwr.wake = none)
    (hasleep : s.boot.phase = .sepia ∨ s.boot.phase = .umber) :
    ∃ t, exec .sleepTimerExpiry s = .next t ∧ t.boot.phase = .powering ∧ t.get R.PWR_STATUS_WAKE_SRC = 0 := by
  have hexec : exec .sleepTimerExpiry s = .next (latchWake (s.reach (s.pwr.asleepAt + s.get R.PWR_WAKE_TMR_SECONDS * secondNs)) 0) :=
    if_pos (by simpa [asleep, hen] using hasleep)
  generalize s.pwr.asleepAt + s.get R.PWR_WAKE_TMR_SECONDS * secondNs = due at hexec
  have hframe : Frame 0x40080000 s (s.reach due) := State.reach_frame rfl (Frame.refl _ s) due
  have hwf : Memory.wf (s.reach due) = true := wf_keeps (State.reach_keeps (Keeps.refl s) due) wf
  obtain ⟨hphase, -, -, -, hshown⟩ := latchWake_row (src := 0) hwf
    ((wakeEnabled_congr (hframe.of .regs rfl) (State.reach_keeps (Keeps.refl s) due).part 0).trans hen)
    ((congrArg PowerState.wake (hframe.of .pwr rfl)).trans hwake)
    (by rwa [hframe.of .boot rfl])
  exact ⟨_, hexec, hphase, hshown⟩

/-! ## A good save image (R581, R582) -/

/-- The device runs, and no save list waits. -/
structure ExitDone (s : State) : Prop where
  phase : s.boot.phase = .running
  save : s.pwr.save = none

namespace ExitDone

variable {t : State}

/-- Boot and power are left alone. -/
theorem kept (h : ExitDone s) {m : Nat} (k : Frame m s t) (hboot : m.testBit Comp.boot.bit = false) (hpwr : m.testBit Comp.pwr.bit = false) :
    ExitDone t where
  phase := (congrArg BootState.phase (k.of .boot hboot)).trans h.phase
  save := (congrArg PowerState.save (k.of .pwr hpwr)).trans h.save

theorem putPwr (h : ExitDone s) {x : PowerState} (hx : x.save = none) : ExitDone (s.putPwr x) := ⟨h.phase, hx⟩

theorem wakeEnded (h : ExitDone s) : ExitDone (s.putPwr { s.pwr with duringEntry := false }) := h.putPwr h.save

theorem putBoot (h : ExitDone s) {x : BootState} (hx : x.phase = .running) : ExitDone (s.putBoot x) := ⟨hx, h.save⟩

theorem posted (h : ExitDone s) (code : Nat) (fields : List (Nat × Nat × Nat)) : ExitDone (postEvent code fields s) :=
  ⟨(congrArg BootState.phase (boot_postEvent code fields s)).trans h.phase,
    (congrArg PowerState.save (pwr_postEvent s code fields)).trans h.save⟩

theorem retried (h : ExitDone s) : ExitDone (postRetry s) := by
  unfold postRetry
  split
  · exact h
  · exact posted (putBoot h (by exact h.phase)) _ _

theorem lossPosted (h : ExitDone s) : ExitDone (postLfLoss s) := by
  unfold postLfLoss
  split
  · exact posted (putBoot h (by exact h.phase)) _ _
  · exact h

theorem levelStarted (h : ExitDone s) (level : Nat) : ExitDone (startChange s level) := by
  rcases startChange_cases s level with hsame | hstart
  · rwa [hsame]
  · have hkept : ExitDone (s.putPwr (changePower s level)) := h.putPwr h.save
    rw [hstart, changeStarted]
    exact hkept.kept (State.set_frame rfl (State.set_frame rfl (Frame.refl 0x1 _) _ _) _ _) rfl rfl

/-- What an exit brings back beside the clocks and the events leaves boot and power alone. -/
theorem enginesTaken (h : ExitDone s) : ExitDone (foldState takeCe (bridgeAges s) (List.range 512)) :=
  h.kept ((bridgeAges_frame rfl (Frame.refl 0x10801 s)).fold fun _ x hx => takeCe_frame rfl hx x) rfl rfl

theorem configsTaken (h : ExitDone s) (keys : List Nat) : ExitDone (configTaken s keys) :=
  h.kept (configTaken_frame rfl (Frame.refl 0x186DFE921 s) keys) rfl rfl

theorem pathsTaken (h : ExitDone s) (l : List Nat) : ExitDone (foldState takeFrontEnd (exitCores (exitSynths s)) l) :=
  h.kept ((exitCores_frame rfl (exitSynths_frame rfl (Frame.refl 0x1800101 s))).fold fun _ x hx => takeFrontEnd_frame rfl hx x) rfl rfl

theorem putPsm (h : ExitDone s) (x : PsmState) : ExitDone (s.putPsm x) := ⟨h.phase, h.save⟩

theorem putPair (h : ExitDone s) (x : PairState) : ExitDone (s.putPair x) := ⟨h.phase, h.save⟩

theorem reported (h : ExitDone s) : ExitDone (exitReport s) := h.kept (exitReport_frame rfl (Frame.refl 0x80840021 s)) rfl rfl

end ExitDone

theorem exitDone_sepiaReady (s : State) : ExitDone (sepiaReady s) := by
  unfold sepiaReady
  extract_lets src1 s1 src2 s2 s3 s4 s5 src3 s6 src4 s7 s8 src5
  have hruns : ExitDone s2 := ⟨rfl, rfl⟩
  have hconfig : ExitDone s4 := hruns.enginesTaken.configsTaken _
  have hpaths : ExitDone s5 := hconfig.pathsTaken _
  have hpair : ExitDone s7 := (hpaths.putPsm _).putPair _
  have hreport : ExitDone s8 := hpair.retried.lossPosted.reported
  exact (hreport.levelStarted _).wakeEnded

theorem exec_sepiaExitReady_good (hphase : s.boot.phase = .pllWait) (hcause : s.boot.cause = .sepiaExit) (hrun : s.tb.running = true) :
    exec (.sepiaExitReady true) s = .next (sepiaReady s) := by
  change execSepiaExitReady true s = _
  rw [execSepiaExitReady, if_pos ⟨hphase, hcause, hrun⟩, if_pos rfl]

theorem exec_sepiaExitReady_bad (hphase : s.boot.phase = .pllWait) (hcause : s.boot.cause = .sepiaExit) (hrun : s.tb.running = true) :
    exec (.sepiaExitReady false) s = .next (restoreFails s) := by
  change execSepiaExitReady false s = _
  rw [execSepiaExitReady, if_pos ⟨hphase, hcause, hrun⟩, if_neg (by decide)]

/-! ## A bad save image (R583) -/

theorem Leaves.applyRepairs {s0 : State} (h : Leaves R.PWR_STATUS s0 s) : Leaves R.PWR_STATUS s0 (Machine.applyRepairs s) := by
  have hmacro (m : Nat) : R.MI_MACRO m ≠ R.PWR_STATUS := by
    simp only [R.MI_MACRO, R.PWR_STATUS]
    omega
  unfold Machine.applyRepairs viewRepairs
  extract_lets src s1 s2
  have hviews : Leaves R.PWR_STATUS s0 s2 :=
    (((h.putMi _).set R.MI_REPAIR_SOFT _ (by decide)).set R.MI_REPAIR_PENDING _ (by decide)).setBit R.MI_STATUS_REPAIR_PENDING _ (by decide)
  refine hviews.fold fun u m _ hu => ?_
  exact (((hu.set (R.MI_MACRO_ROW_USED m) _ (hmacro m)).set (R.MI_MACRO_COL_USED m) _ (hmacro m)).set (R.MI_MACRO_ROW_SOFT m) _ (hmacro m)).set
    (R.MI_MACRO_COL_SOFT m) _ (hmacro m)

/-- The boot ROM keeps the cause of the start and what PWR_STATUS shows. -/
theorem romStart_keeps_cause (s : State) : (romStart s).boot.cause = s.boot.cause ∧ Leaves R.PWR_STATUS s (romStart s) := by
  unfold romStart
  extract_lets src1 s1 page src2 s2 s3 s4 src3
  have hboot : s4.boot = s2.boot := (boot_applyRepairs _).trans (boot_wearView _)
  have hcause : s4.boot.cause = s.boot.cause := (congrArg BootState.cause hboot).trans rfl
  have hstart : Leaves R.PWR_STATUS s s1 := ((Leaves.refl _ s).putBoot _).set R.BOOT_STATUS_PHASE 1 (by decide)
  have hrepairs : Leaves R.PWR_STATUS s s3 := ((hstart.putBoot _).wearView (by decide)).applyRepairs
  have hcopy : Leaves R.PWR_STATUS s s4 := hrepairs.setBit R.BOOT_STATUS_DIR_COPY _ (by decide)
  split
  · exact ⟨hcause, (hcopy.putBoot _).set R.BOOT_STATUS_PHASE 8 (by decide)⟩
  split
  · exact ⟨hcause, hcopy.putBoot _⟩
  · exact ⟨hcause, hcopy⟩

theorem restoreFails_row (wf : Memory.wf s = true) : (restoreFails s).boot.phase = .boot ∧ (restoreFails s).boot.cause = .umberExit ∧
    (restoreFails s).get R.PWR_STATUS_RESTORE_FAIL = 1 := by
  unfold restoreFails
  extract_lets post p1 p2 p3 tb fields start t1 src1 t2 src2 t3
  have hwf : Memory.wf t3 = true :=
    wf_keeps (State.putBoot_keeps (State.putTb_keeps (resetKeeping_keeps (Keeps.refl s) _ _ _) _) _) wf
  have hcause : t3.boot.cause = .umberExit := rfl
  clear_value t3
  generalize (!p3.aonLf) = slow
  obtain ⟨hstart, hleaves⟩ := romStart_keeps_cause ((t3.set R.PWR_STATUS_RESTORE_FAIL 1).setBit R.BOOT_STATUS_AON_SRC slow)
  have hshown : ((t3.set R.PWR_STATUS_RESTORE_FAIL 1).setBit R.BOOT_STATUS_AON_SRC slow).get R.PWR_STATUS_RESTORE_FAIL = 1 :=
    (((Leaves.refl R.PWR_STATUS _).setBit R.BOOT_STATUS_AON_SRC slow (by decide)).get (f := R.PWR_STATUS_RESTORE_FAIL) (wf_set hwf _ _)).trans
      (get_set_same (wf_regs hwf) (by decide) 1)
  refine ⟨(boot_romStart _).1, hstart.trans hcause, ?_⟩
  exact (hleaves.get (f := R.PWR_STATUS_RESTORE_FAIL) (wf_set (wf_set hwf _ _) _ _)).trans hshown

/-- Settles O44. -/
theorem sleepRowsComplete : Obligations.SleepRowsComplete := by
  unfold Obligations.SleepRowsComplete
  intro s wf
  refine ⟨?accepted, ?refused, ?sepia, ?umber, ?wake, ?during, ?timer, ?good, ?bad⟩
  case accepted => exact fun q hrun hq hfree hany hswitch => sleep_accepted wf hrun hq hfree hany hswitch
  case refused => exact fun q key hrun hres => sleep_refused hrun hres
  case sepia => exact fun r hr hrun hkind hwake => sepiaEntry_row hr hrun hkind hwake
  case umber => exact fun r hr hrun hkind hwake => umberEntry_row hr hrun hkind hwake
  case wake => exact fun src hlow hhigh hen hwake hasleep => wakeSource_asleep wf hlow hhigh hen hwake hasleep
  case during => exact fun src hlow hhigh hen hwake hrun hreq => wakeSource_duringEntry hlow hhigh hen hwake hrun hreq
  case timer => exact fun hen hwake hasleep => sleepTimer_wakes wf hen hwake hasleep
  case good =>
    intro hphase hcause hrun
    exact ⟨exec_sepiaExitReady_good hphase hcause hrun, (exitDone_sepiaReady s).phase, (exitDone_sepiaReady s).save⟩
  case bad =>
    intro hphase hcause hrun
    exact ⟨_, exec_sepiaExitReady_bad hphase hcause hrun, restoreFails_row wf⟩

end Sys2Proof.Machine
end

section
/-!
The frame among the registers (O52): a ring index beyond the 16 rings names a register that no list holds.
-/

namespace Sys2Proof.Machine

/-- A reset device in which the enable bit of an event ring beyond the 16 of Table 13-10 is set. -/
def strayRing : State := State.reset.set (R.EVR_CTRL_EN 64) 1

theorem exec_evrConsWrite_strayRing : exec (.evrConsWrite 64 0xFFFFFFFF) strayRing = .next (strayRing.set (R.EVR_CONS_INDEX 64) 0xFFFFFFFF) := by
  change execEvrConsWrite 64 0xFFFFFFFF strayRing = _
  rw [execEvrConsWrite, if_neg (by decide +kernel), if_neg (by decide +kernel)]

/-- Refutes O52: the index of `evrConsWrite` has no bound, and the EVR_CONS of ring 64 lies at 0x0010201C, past the event-ring
block that `noisy` covers; with that ring's enable bit set the write reaches it, while the command's list is empty. -/
theorem not_listedRegistersChange : ¬ Obligations.ListedRegistersChange := by
  intro h
  have hstays := h (.evrConsWrite 64 0xFFFFFFFF) strayRing _ [] (by decide +kernel) rfl exec_evrConsWrite_strayRing (R.EVR_CONS 64)
    List.not_mem_nil (by decide)
  exact absurd hstays (by decide +kernel)

end Sys2Proof.Machine
end
